-- ==== Sys2Proof/Word.lean ====
section
/-! DEFINITION. The word types of the device: what the manual treats as bits. -/

namespace Sys2Proof

/-- A 64-bit register, station register or memory word. -/
abbrev W64 := BitVec 64
/-- A byte, an outcome code, or an event class with its two top bits zero. -/
abbrev Byte := BitVec 8
/-- A Transit core's number, 0 to 63. -/
abbrev CoreId := BitVec 6
/-- The number of a general register (fields A, B, C of an instruction word); a tag
register uses the low three bits and requires the other two to be zero. -/
abbrev GReg := BitVec 5
/-- The IMM field of format R. -/
abbrev Imm32 := BitVec 32
/-- A ticket of an asynchronous primitive (R85). -/
abbrev Ticket := BitVec 23

end Sys2Proof
end

