-- ==== Sys2Proof/Syntax.lean ====
section
/-! DEFINITION. The commands of the device: one constructor per row of spec/opcode_table.json,
in the table's order. The table gives no row any bits, so a command's operands are the
model's own reading of the rule each row cites. -/

namespace Sys2Proof

/-- Who makes a station register access: a Transit core (subject to its checker) or the JTAG
debug port (only while debug access is on) (R18). -/
inductive Who where
  | core (c : CoreId)
  | jtag
  deriving DecidableEq, Repr

/-- The operand fields of an asynchronous issue instruction (R76): the A, B and C registers,
LVL, CLS and IMM. -/
structure Issue where
  a : GReg
  b : GReg
  d : GReg
  lvl : BitVec 3
  cls : BitVec 6
  imm : BitVec 32
  deriving DecidableEq, Repr

/-- One sense of a frame as it leaves the die (R327): how many of the sampled bits read as 0
(the erased test), and the corrected bits when the hard decoder succeeds. -/
structure FrameSense where
  zeros : Nat
  hard : Option Nat
  deriving DecidableEq, Repr

/-- A Span message as a port receives it (R366, R383). -/
structure SpanMsg where
  dst : BitVec 8
  src : BitVec 8
  typ : BitVec 8
  flags : BitVec 8
  reqNo : BitVec 32
  gen : BitVec 32
  hops : Nat
  level : BitVec 3
  resp : Bool
  posted : Bool
  ver : BitVec 8
  status : BitVec 8
  hw0 : BitVec 64
  hw1 : BitVec 64
  hw2 : BitVec 64
  hw3 : BitVec 64
  payload : List Byte
  deriving DecidableEq, Repr

/-- The data structure of a Namespace Management create, with the layout bytes of a volume (R257, R258,
R280, R406). -/
structure NsCreate where
  nsze : Nat
  ncap : Nat
  lbaf : Nat
  endg : Nat
  phndls : List Nat
  mirror : Bool
  k : Nat
  m : Nat
  r : Nat
  n : Nat
  pool : List Nat
  deriving DecidableEq, Repr

/-- What the members of a volume give for one grain of a read: the grain as its own member returned it,
the grain as it was made from other members (R421, R422), or nothing. -/
inductive VolGrain where
  | direct (bs : List Byte)
  | rebuilt (bs : List Byte)
  | lost
  deriving DecidableEq, Repr

/-- A grain of a volume as its owner has it in hand for a rebuild, a parity check or a move: its stripe, position and
grain row; its bytes, or nothing when it can be neither read nor reconstructed; its tag as read; and whether its member
failed to give it, so that the bytes are a reconstruction (R421, R431, R436). -/
structure PieceGrain where
  stripe : Nat
  pos : Nat
  row : Nat
  data : Option (List Byte)
  tag : List Byte
  rebuilt : Bool
  deriving DecidableEq, Repr

/-- A message carried by Security Send (R504).  `signed` says whether a signature that the body carries is one by a
key enrolled with ADMIN (R507). -/
structure SpdmMsg where
  code : BitVec 8
  param : BitVec 8
  body : List Byte
  signed : Bool
  deriving DecidableEq, Repr

/-- Settings of the parameter area of the pattern store (R286, R347, R349, R358, R422, R423): the riser reserve in
1/10,000 of raw blocks, the wear spread limit, the retirement factor in 1/100 of the rated P/E count, the hours of
a patrol sweep, the read deadline in µs, and the share of reconstruction GREADs in percent. -/
structure CareParams where
  riser : Nat
  spread : Nat
  factor : Nat
  patrol : Nat
  deadline : Nat
  share : Nat
  deriving DecidableEq, Repr

/-- What the die-family table gives of the fitted die family (R119, R256, R293, R304). -/
structure DieFamily where
  /-- Manufacturer and model. -/
  model : Nat
  planes : Nat
  halves : Nat
  blocks : Nat
  pagesTlc : Nat
  pagesQlc : Nat
  pagesPslc : Nat
  /-- Native mode: QLC two-pass, else TLC (R255). -/
  qlc : Bool
  ratedPe : Nat
  /-- TRMAX, TPROGMAX and TBERSMAX in ns. -/
  trMax : Nat
  tprogMax : Nat
  tbersMax : Nat
  /-- Flash warning and stop temperatures in °C (R532). -/
  tflWarn : Nat
  tflStop : Nat
  /-- Refresh age of a closed extent, in operating hours (R348). -/
  refreshAge : Nat
  /-- Spare bytes of a page (R203, R291). -/
  spare : Nat
  /-- Words 0 to 3 of the family descriptor (R304); of words 2 and 3 the times above take their places. -/
  desc : List (BitVec 64)
  deriving DecidableEq, Repr

/-- A LUN as training finds it: its place, whether a copy of its parameter page passes its CRC, its manufacturer and
model, its geometry, its times in ns, and the fastest rate code it supports (R292, R293, R300). -/
structure Lun where
  chan : Nat
  die : Nat
  crc : Bool
  model : Nat
  planes : Nat
  blocks : Nat
  pages : Nat
  pageBytes : Nat
  spare : Nat
  ccs : Nat
  whr : Nat
  adl : Nat
  rate : Nat
  deriving DecidableEq, Repr

/-- What the training of one channel meets: rates that fail, from the target rate down, and machine checks (R301,
R323). -/
structure ChanTrain where
  down : Nat
  checks : Nat
  deriving DecidableEq, Repr

/-- What a start finds of the NAND interface (R293, R300, R301): the LUNs that answer, the die-family table, and the training
of each channel. -/
structure NandPins where
  luns : List Lun
  table : List DieFamily
  train : List ChanTrain
  deriving DecidableEq, Repr

/-- What a start of the device finds (R158, R293, R300, R301): the NAND interface, and whether the signatures of the images in
banks A and B are valid. -/
structure StartPins extends NandPins where
  sigA : Bool
  sigB : Bool
  deriving DecidableEq, Repr

/-- A status byte that a poll reads, and the plane of the read that it asks about on a die with independent plane reads (R128,
R298). -/
structure PollSense where
  plane : Nat
  status : BitVec 8
  deriving DecidableEq, Repr

/-- What the hard decode of a command's frames gives: the frames that fail, and those that needed correction with their corrected
bits (R327, R330). -/
structure ReadSense where
  fails : List (BitVec 64)
  corr : List (BitVec 64 × Nat)
  deriving DecidableEq, Repr

/-- The four ordering codes (R2). -/
inductive Variant where
  | m | w | c | cn
  deriving DecidableEq, Repr

/-- A rank of DDR5 devices on the board: its place, its data bytes, and the tRFC1 of its devices in ns (R441). -/
structure DramRank where
  chan : Nat
  rank : Nat
  bytes : Nat
  trfc : Nat
  deriving DecidableEq, Repr

/-- What the board presents and the bring-up finds: the straps (R6, R212, R565), the fuses and fitted parts,
and the outcomes of the steps that depend on analogue parts (R446, R509, R528, R568). -/
structure BoardPins where
  variant : Variant
  role : BitVec 2
  lanecfg : BitVec 2
  bootSrc : BitVec 2
  /-- ID_SERIAL. -/
  serial : BitVec 64
  /-- What manufacture left in the pattern store, as runs of bytes by address; it counts while the die is still erased. -/
  store : List (Nat × List (BitVec 8))
  /-- What the start finds. -/
  start : StartPins
  /-- Ranks of the board; those that fail training; and the channels whose second rate trains (R441, R446). -/
  ranks : List DramRank
  noTrain : List (Nat × Nat)
  setB : BitVec 4
  /-- Negotiated speed and width of each host port (R214). -/
  hostLink : List (BitVec 4 × BitVec 5)
  /-- The die family's default read-level library and default set of each block group (R337). -/
  library : List (BitVec 64)
  dflt : List Nat
  /-- Boot blocks whose signature verifies under Pyllicen's key (R509). -/
  sigs : BitVec 2
  /-- Digest of the boot ROM. -/
  rom : BitVec 384
  /-- The TRNG passed its start-up tests. -/
  trng : Bool
  /-- ROM identities of the directors and the sequencers. -/
  romIds : BitVec 32
  deriving DecidableEq, Repr

/-- The outcome of one Span training (R365, R374). -/
structure TrainResult where
  up : Bool
  width : BitVec 2
  speed : BitVec 2
  /-- The far end's serial number, whether it trains as an initiator, and its port. -/
  serial : BitVec 64
  initiator : Bool
  farPort : Nat
  deriving DecidableEq, Repr

/-- What IDENT returned for one member of a chain (R378, R384). -/
structure EnumMember where
  serial : BitVec 64
  manager : Bool
  /-- The side a manager holds, if any. -/
  side : Option Bool
  /-- The identifier recorded, if any. -/
  member : Option Nat
  verLow : BitVec 16
  verHigh : BitVec 16
  variant : BitVec 4
  encl : BitVec 64
  dies : Nat
  cap : Nat
  /-- A manager that has taken this one's groups over (R427, R428). -/
  took : Bool
  deriving DecidableEq, Repr

/-- One Span flit (R366). -/
structure Flit where
  kind : BitVec 2
  vc : BitVec 2
  seq : BitVec 12
  ack : BitVec 12
  nak : Bool
  credVc : BitVec 2
  cred : BitVec 14
  /-- The FEC could correct it, had to, and the CRC is good. -/
  good : Bool
  fixed : Bool
  deriving DecidableEq, Repr

/-- What a read of configuration space asks for (R213 to R215); where it stands there is the PCIe specification's. -/
inductive CfgField where
  | classCode
  /-- Sizes of BAR0/1 and BAR4/5, and the offsets of doorbells, MSI-X table and pending bits in them. -/
  | bar01
  | bar45
  | doorbells
  | msixTable
  | msixPba
  | totalVfs
  | numVfs
  | ari
  | msixVectors
  | pasidWidth
  | pasidEnabled
  | atsUnit
  | atsDepth
  | tphInMsix
  | tagBits
  | maxPayload
  | maxReadRequest
  | aspmL1
  | l11
  | l12
  | l0p
  | d3hot
  | ltr
  | aer
  | ecrc
  /-- Never implemented: INTx, MSI, PRI, L0s, PTM and Resizable BAR. -/
  | intx
  | msi
  | pri
  | l0s
  | ptm
  | resizableBar
  deriving DecidableEq, Repr

/-- A PCIe configuration request (R213 to R215, R482, R492). -/
inductive CfgOp where
  | read (field : CfgField)
  | vfEnable (n : Nat)
  | pasidEnable (on : Bool)
  deriving DecidableEq, Repr

/-- When a wake source asserts relative to a dome entry's commitment (R517, R518). -/
inductive CommitPhase where
  | before
  | during
  | after
  deriving DecidableEq, Repr

/-- The commands of the device, in the order of the opcode table. -/
inductive Instr where
  /-- TICK_BOUNDARY (R25): A sidereal tick boundary falls on every core at once and the tick counter advances. -/
  | tickBoundary
  /-- FAULT_WINDOW_CUT (R30): A fault handler still running at the end of the fault window is cut and a controller fault reset follows. -/
  | faultWindowCut (c : CoreId)
  /-- INTAKE (R37): At the snapshot cycle the intake hardware moves ring entries, oldest first, into class queues up to the intake limit. -/
  | intake
  /-- SLOT_DISPATCH (R32): In the slot window the due slots run in ascending slot number, each entered at a cost of 8 cycles. -/
  | slotDispatch (c : CoreId)
  /-- START_ACTIVATION (R173): After a swap or RUN rising, a core with SCHED_NSTART.EN runs one start activation in place of its due slots. -/
  | startActivation (c : CoreId)
  /-- BOUND_EXCESS (R51): An activation whose cycle count exceeds BOUND is cut, faulted, recorded and reported by a P0 event. -/
  | boundExcess (c : CoreId)
  /-- AGE_PROMOTION (R48): A request waiting SCHED_AGELIM ticks at P3 to P7 rises one level, never above P2. -/
  | agePromotion (c : CoreId) (t : Ticket)
  /-- TIME_PERIOD_WRITE (R24): A write to TIME_PERIOD.SEL chooses the tick period and is ignored once LOCK is set. -/
  | timePeriodWrite (w : Who) (v : W64)
  /-- TIME_PERIOD_LOCK (R24): Setting TIME_PERIOD.LOCK fixes the period until power-up. -/
  | timePeriodLock (w : Who)
  /-- PLL_SLIP (R27): The core PLL loses lock, TIME_STATUS.SLIP is set and an almanac record is written. -/
  | pllSlip
  /-- SCHED_CTL_RUN (R52): Setting SCHED_CTL.RUN makes a stopped core run its active ephemeris. -/
  | schedCtlRun (w : Who) (c : CoreId) (run : Bool)
  /-- SCHED_CTL_SWAP (R35): Setting SCHED_CTL.SWAP arms a table and bank switch at the next boundary. -/
  | schedCtlSwap (w : Who) (c : CoreId)
  /-- SCHED_CTL_RESUME (R52): Setting RESUME takes a faulted core to stopped and clears RUN, or to running when RUN is set in the same write. -/
  | schedCtlResume (w : Who) (c : CoreId) (run : Bool)
  /-- SCHED_STAT_CLEAR (R35): Writing SCHED_STAT.CLR clears PEAK, DEFER, OVR and BEX of a core. -/
  | schedStatClear (w : Who) (c : CoreId)
  /-- SCHED_EPH_DATA_WRITE (R35): A write to SCHED_EPH_DATA stores a slot word in an inactive table and is ignored for the active table. -/
  | schedEphDataWrite (w : Who) (v : W64)
  /-- SCHED_HOVMASK_WRITE (R172): A write to SCHED_HOVMASK sets SCHED_CTL.SWAP on every core whose bit is 1 in one cycle. -/
  | schedHovmaskWrite (w : Who) (mask : W64)
  /-- SCHED_FAULT_WRITE (R163): A write to SCHED_FAULT takes effect only from core 0 in boot mode or loader slots. -/
  | schedFaultWrite (w : Who) (c : CoreId) (v : W64)
  /-- CHECKER_REGION_WRITE (R62): A write to a checker register takes effect at the next tick boundary. -/
  | checkerRegionWrite (w : Who) (c : CoreId) (n : BitVec 4) (limit : Bool) (v : W64)
  /-- REGISTER_WRITE (R17): A write to a station register with no behaviour of its own updates its writable fields; reserved and absent windows ignore it. -/
  | registerWrite (w : Who) (off : BitVec 24) (v : W64)
  /-- QENG_RCFG_WRITE (R96): A write to QENG_RCFG sets a ring's capacity and base unless the ring holds entries or the range is invalid. -/
  | qengRcfgWrite (w : Who) (v : W64)
  /-- HAZ_WSNFLOOR_WRITE (R201): A write to HAZ_WSNFLOOR requests that the sequence counter be raised to at least FLOOR. -/
  | hazWsnfloorWrite (w : Who) (v : W64)
  /-- WSN_FLOOR_RAISE (R201): Once the bound FLOOR + 2^24 is durable, NEXT rises to FLOOR. -/
  | wsnFloorRaise
  /-- INGOT_LTAIL_WRITE (R473): A write to INGOT_LTAIL advances the oldest needed log record unless it moves backward, past LHEAD, or is misaligned. -/
  | ingotLtailWrite (w : Who) (v : W64)
  /-- TUN_MIN_WRITE (R480): A write to TUN_MIN sets a class minimum at the next boundary unless the part's minima would exceed its count. -/
  | tunMinWrite (w : Who) (v : W64)
  /-- TUN_CTL_LOCK (R479): Setting TUN_CTL.LOCK fixes the pool counts and base until power-up. -/
  | tunCtlLock (w : Who)
  /-- DRAM_FCHG_GO (R454): A frequency change request is refused or accepted, pausing every DRAM port for the change. -/
  | dramFchgGo (w : Who) (v : W64)
  /-- FREQUENCY_CHANGE_DONE (R454): The DRAM rate change ends, ports resume in arrival order and DONE is set. -/
  | frequencyChangeDone
  /-- DRAM_TRUN_GO (R447): Setting DRAM_TRUN.GO in boot mode starts a training write or compare run. -/
  | dramTrunGo (w : Who) (v : W64)
  /-- TRAINING_RUN_DONE (R447): A training run ends and DRAM_TRES reports failing lanes. -/
  | trainingRunDone (fail : BitVec 40) (count : BitVec 24)
  /-- DRAM_PORT_TARGET_WRITE (R452): A write to a port TARGET takes effect at the next boundary and restarts its sample count. -/
  | dramPortTargetWrite (w : Who) (n : BitVec 3) (v : W64)
  /-- SCRUB_START (R465): Setting RAS_SCRB.GO starts the range scrubber over an array. -/
  | scrubStart (w : Who) (v : W64)
  /-- SCRUB_DONE (R465): The scrubber finishes its range and posts RAS event kind 5. -/
  | scrubDone (corr : BitVec 24) (stuck : List (BitVec 24))
  /-- SHARE_RDONE_WRITE (R492): A program writes the reset token to report that it has settled the reset. -/
  | shareRdoneWrite (w : Who) (v : W64)
  /-- SLICE_RESET (R490): Setting SHARE_SRST.GO starts a reset of one PASID slice. -/
  | sliceReset (w : Who) (v : W64)
  /-- SHARE_SLICE_WRITE (R485): A write to a slice entry changes it unless it would duplicate a pair or change a slice in use. -/
  | shareSliceWrite (w : Who) (n : BitVec 12) (v : W64)
  /-- MEDIATION_WINDOW_ACCESS (R483): A physical function's access to its mediation window reaches its port's share and slice registers; a virtual function's is ignored. -/
  | mediationWindowAccess (func : Nat) (off : BitVec 16) (wr : Bool) (v : W64)
  /-- THERM_PKG_WRITE (R528): A program writes a flash package temperature and the hardware stamps it with the tick. -/
  | thermPkgWrite (w : Who) (n : BitVec 8) (v : W64)
  /-- PAT_PROGRAM (R552): PAT_CMD operation 1 programs one NOR page from the page buffer unless refused. -/
  | patProgram (w : Who)
  /-- PAT_ERASE (R552): PAT_CMD operation 2 erases one NOR sector unless refused. -/
  | patErase (w : Who)
  /-- PAT_OPERATION_DONE (R548): A NOR program or erase ends at its first passing verify, or sets FAIL after its last pulse. -/
  | patOperationDone (pulses : BitVec 6) (pass : Bool)
  /-- PAT_RDATA_READ (R551): A read of PAT_RDATA returns the word and advances PAT_RADDR, or returns the status word and sets RSW while busy. -/
  | patRdataRead (w : Who)
  /-- PAT_BULK_READ (R551): Setting PAT_XCTL.GO starts a bulk read of the NOR array into DRAM. -/
  | patBulkRead (w : Who) (v : W64)
  /-- PAT_BULK_READ_DONE (R551): The bulk read ends and sets DONE, with STATUS if the die was busy. -/
  | patBulkReadDone
  /-- SEC_BMEXIT_WRITE (R574): Writing SEC_BMEXIT ends boot mode. -/
  | secBmexitWrite (w : Who) (v : W64)
  /-- NOP (R65): Does nothing for one cycle. -/
  | nop (c : CoreId)
  /-- ADD (R65): Adds two registers. -/
  | add (c : CoreId) (a b d : GReg)
  /-- SUB (R65): Subtracts two registers. -/
  | sub (c : CoreId) (a b d : GReg)
  /-- ADDI (R65): Adds a sign-extended immediate. -/
  | addi (c : CoreId) (a b : GReg) (i : Imm32)
  /-- MUL (R65): Takes the low 64 bits of a product. -/
  | mul (c : CoreId) (a b d : GReg)
  /-- MULHI (R65): Takes the high 64 bits of an unsigned product. -/
  | mulhi (c : CoreId) (a b d : GReg)
  /-- DIVQ (R65): Divides unsigned, giving 0 for a zero divisor. -/
  | divq (c : CoreId) (a b d : GReg)
  /-- MODQ (R65): Takes the unsigned remainder, giving 0 for a zero divisor. -/
  | modq (c : CoreId) (a b d : GReg)
  /-- AND (R65): Bitwise and of two registers. -/
  | and (c : CoreId) (a b d : GReg)
  /-- OR (R65): Bitwise or of two registers. -/
  | or (c : CoreId) (a b d : GReg)
  /-- XOR (R65): Bitwise xor of two registers. -/
  | xor (c : CoreId) (a b d : GReg)
  /-- ANDI (R65): Bitwise and with a zero-extended immediate. -/
  | andi (c : CoreId) (a b : GReg) (i : Imm32)
  /-- ORI (R65): Bitwise or with a zero-extended immediate. -/
  | ori (c : CoreId) (a b : GReg) (i : Imm32)
  /-- XORI (R65): Bitwise xor with a zero-extended immediate. -/
  | xori (c : CoreId) (a b : GReg) (i : Imm32)
  /-- SHL (R65): Shifts left by a register amount. -/
  | shl (c : CoreId) (a b d : GReg)
  /-- SHR (R65): Shifts right with zero fill by a register amount. -/
  | shr (c : CoreId) (a b d : GReg)
  /-- SHRA (R65): Shifts right with sign fill by a register amount. -/
  | shra (c : CoreId) (a b d : GReg)
  /-- SHLI (R65): Shifts left by an immediate amount. -/
  | shli (c : CoreId) (a b : GReg) (i : Imm32)
  /-- SHRI (R65): Shifts right with zero fill by an immediate amount. -/
  | shri (c : CoreId) (a b : GReg) (i : Imm32)
  /-- SHRAI (R65): Shifts right with sign fill by an immediate amount. -/
  | shrai (c : CoreId) (a b : GReg) (i : Imm32)
  /-- LI (R65): Loads a sign-extended 48-bit immediate. -/
  | li (c : CoreId) (a : GReg) (i : BitVec 48)
  /-- LIH (R65): Loads the top 16 bits of a register. -/
  | lih (c : CoreId) (a : GReg) (i : BitVec 48)
  /-- LTS (R65): Sets 1 when less than as signed numbers. -/
  | lts (c : CoreId) (a b d : GReg)
  /-- LTU (R65): Sets 1 when less than as unsigned numbers. -/
  | ltu (c : CoreId) (a b d : GReg)
  /-- MINU (R65): Takes the unsigned minimum. -/
  | minu (c : CoreId) (a b d : GReg)
  /-- MAXU (R65): Takes the unsigned maximum. -/
  | maxu (c : CoreId) (a b d : GReg)
  /-- SEL (R65): Copies gC into gA when gB is not zero. -/
  | sel (c : CoreId) (a b d : GReg)
  /-- EXT (R66): Extracts a bit field zero-extended. -/
  | ext (c : CoreId) (a b : GReg) (i : Imm32)
  /-- EXTS (R66): Extracts a bit field sign-extended. -/
  | exts (c : CoreId) (a b : GReg) (i : Imm32)
  /-- INS (R66): Inserts a bit field. -/
  | ins (c : CoreId) (a b : GReg) (i : Imm32)
  /-- CLZ (R66): Counts leading zeros. -/
  | clz (c : CoreId) (a b : GReg)
  /-- CTZ (R66): Counts trailing zeros. -/
  | ctz (c : CoreId) (a b : GReg)
  /-- POPC (R66): Counts ones. -/
  | popc (c : CoreId) (a b : GReg)
  /-- BSWAP (R66): Reverses the byte order. -/
  | bswap (c : CoreId) (a b : GReg)
  /-- CRC32 (R66): Continues a CRC-32 over 8 bytes. -/
  | crc32 (c : CoreId) (a b : GReg)
  /-- LD8 (R67): Loads a byte from a named space. -/
  | ld8 (c : CoreId) (a b : GReg) (x : BitVec 9) (i : Imm32)
  /-- LD16 (R67): Loads 16 bits from a named space. -/
  | ld16 (c : CoreId) (a b : GReg) (x : BitVec 9) (i : Imm32)
  /-- LD32 (R67): Loads 32 bits from a named space. -/
  | ld32 (c : CoreId) (a b : GReg) (x : BitVec 9) (i : Imm32)
  /-- LD64 (R67): Loads 64 bits from a named space, including station registers. -/
  | ld64 (c : CoreId) (a b : GReg) (x : BitVec 9) (i : Imm32)
  /-- ST8 (R67): Stores a byte. -/
  | st8 (c : CoreId) (a b : GReg) (x : BitVec 9) (i : Imm32)
  /-- ST16 (R67): Stores 16 bits. -/
  | st16 (c : CoreId) (a b : GReg) (x : BitVec 9) (i : Imm32)
  /-- ST32 (R67): Stores 32 bits. -/
  | st32 (c : CoreId) (a b : GReg) (x : BitVec 9) (i : Imm32)
  /-- ST64 (R67): Stores 64 bits, including to station registers and instruction stores. -/
  | st64 (c : CoreId) (a b : GReg) (x : BitVec 9) (i : Imm32)
  /-- TLD (R67): Loads 32 bytes into a tag register. -/
  | tld (c : CoreId) (a b : GReg) (x : BitVec 9) (i : Imm32)
  /-- TST (R67): Stores a tag register's 32 bytes. -/
  | tst (c : CoreId) (a b : GReg) (x : BitVec 9) (i : Imm32)
  /-- CLAD (R67): Atomically adds to a cluster memory word. -/
  | clad (c : CoreId) (a b d : GReg) (x : BitVec 9)
  /-- CLCX (R67): Atomically compares and exchanges a cluster memory word. -/
  | clcx (c : CoreId) (a b d : GReg) (x : BitVec 9)
  /-- CLSW (R67): Atomically swaps a cluster memory word. -/
  | clsw (c : CoreId) (a b d : GReg) (x : BitVec 9)
  /-- JMP (R69): Jumps to a word index. -/
  | jmp (c : CoreId) (tgt : BitVec 12)
  /-- BEQ (R69): Branches when equal. -/
  | beq (c : CoreId) (a b : GReg) (tgt : BitVec 12)
  /-- BNE (R69): Branches when not equal. -/
  | bne (c : CoreId) (a b : GReg) (tgt : BitVec 12)
  /-- BLT (R69): Branches when signed less. -/
  | blt (c : CoreId) (a b : GReg) (tgt : BitVec 12)
  /-- BGE (R69): Branches when signed greater or equal. -/
  | bge (c : CoreId) (a b : GReg) (tgt : BitVec 12)
  /-- BLTU (R69): Branches when unsigned less. -/
  | bltu (c : CoreId) (a b : GReg) (tgt : BitVec 12)
  /-- BGEU (R69): Branches when unsigned greater or equal. -/
  | bgeu (c : CoreId) (a b : GReg) (tgt : BitVec 12)
  /-- BEQI (R69): Branches when equal to an immediate. -/
  | beqi (c : CoreId) (a : GReg) (k : BitVec 14) (tgt : BitVec 12)
  /-- BNEI (R69): Branches when not equal to an immediate. -/
  | bnei (c : CoreId) (a : GReg) (k : BitVec 14) (tgt : BitVec 12)
  /-- CALL (R72): Pushes a return word and jumps, faulting when the call stack is full. -/
  | call (c : CoreId) (tgt : BitVec 12)
  /-- RET (R72): Pops a return word, faulting when empty or with a loop open. -/
  | ret (c : CoreId)
  /-- LOOP (R70): Opens a counted loop or skips its body. -/
  | loop (c : CoreId) (b : GReg) (tgt : BitVec 12) (m : BitVec 16)
  /-- LBRK (R70): Leaves the innermost loop of the current call depth. -/
  | lbrk (c : CoreId)
  /-- SWITCH (R71): Dispatches through a table of word indices. -/
  | switch (c : CoreId) (a : GReg) (k : BitVec 14) (tgt : BitVec 12)
  /-- SLEND (R69): Ends the activation or drain dispatch. -/
  | slend (c : CoreId)
  /-- TRAP (R69): Raises program fault 0xE7 with a code. -/
  | trap (c : CoreId) (k : BitVec 14)
  /-- TFX (R74): Extracts a tag field. -/
  | tfx (c : CoreId) (a b : GReg) (f : BitVec 9)
  /-- TFI (R74): Inserts a tag field. -/
  | tfi (c : CoreId) (a b : GReg) (f : BitVec 9)
  /-- TCLR (R74): Clears a tag register. -/
  | tclr (c : CoreId) (a : GReg)
  /-- TMOV (R74): Copies a tag register. -/
  | tmov (c : CoreId) (a b : GReg)
  /-- TCMP (R74): Compares tag fields under a mask. -/
  | tcmp (c : CoreId) (a b d : GReg) (i : Imm32)
  /-- TSEQ (R74): Takes consecutive write sequence numbers and sets their mark window entries. -/
  | tseq (c : CoreId) (a b d : GReg)
  /-- MFOC (R75): Copies the outcome register. -/
  | mfoc (c : CoreId) (a : GReg)
  /-- MTICK (R75): Reads the tick counter. -/
  | mtick (c : CoreId) (a : GReg)
  /-- MCYC (R75): Reads the cycle within the tick. -/
  | mcyc (c : CoreId) (a : GReg)
  /-- COREID (R75): Reads the core number. -/
  | coreid (c : CoreId) (a : GReg)
  /-- CREDITS (R75): Reads the free event-ring credits. -/
  | credits (c : CoreId) (a : GReg)
  /-- FENCE (R60): Makes earlier cluster-memory stores visible before later accesses. -/
  | fence (c : CoreId)
  /-- SRESET (R75): Requests a controller fault reset and ends the activation. -/
  | sreset (c : CoreId)
  /-- RPUSH (R95): Appends a value to an internal ring. -/
  | rpush (c : CoreId) (a b d : GReg)
  /-- RPOP (R95): Removes the oldest value of an internal ring. -/
  | rpop (c : CoreId) (a b : GReg)
  /-- GATE (R98): Hands a command to the completion gate as a completion claim. -/
  | gate (c : CoreId) (i : Issue)
  /-- SQUASH (R101): Claims a command's silent removal at the gate. -/
  | squash (c : CoreId) (i : Issue)
  /-- SQUASH_ABORT (R99): Issues an abort claim held at the gate until the end of the tick. -/
  | squashAbort (c : CoreId) (i : Issue)
  /-- QCTL_READ (R97): Reads one queue context word. -/
  | qctlRead (c : CoreId) (a b d : GReg) (i : BitVec 8)
  /-- QCTL_PAUSE (R97): Pauses fetching from a queue. -/
  | qctlPause (c : CoreId) (a b d : GReg)
  /-- QCTL_RESUME (R97): Resumes fetching from a queue. -/
  | qctlResume (c : CoreId) (a b d : GReg)
  /-- QCTL_SET_OWNER (R97): Sets a queue's owning core and classes from the next boundary. -/
  | qctlSetOwner (c : CoreId) (a b d : GReg)
  /-- QCTL_SET_LEVEL (R97): Sets a queue's arbitration level from the next boundary. -/
  | qctlSetLevel (c : CoreId) (a b d : GReg)
  /-- QCTL_RETIRE (R97): Stops fetching from a queue for good. -/
  | qctlRetire (c : CoreId) (a b d : GReg)
  /-- HZINS_CONFIRM (R102): Attaches a write's buffer to its armed hazard entry. -/
  | hzinsConfirm (c : CoreId) (a b d : GReg)
  /-- HZINS_INSERT (R102): Creates a confirmed hazard entry without a buffer. -/
  | hzinsInsert (c : CoreId) (a b d : GReg)
  /-- HZCHK (R103): Checks a range against qualifying outstanding writes. -/
  | hzchk (c : CoreId) (a b d : GReg)
  /-- HZDEL (R104): Deletes a hazard entry. -/
  | hzdel (c : CoreId) (a b : GReg)
  /-- BGET (R107): Allocates a tundish buffer under the class minima. -/
  | bget (c : CoreId) (a b : GReg) (i : Imm32)
  /-- BPUT (R108): Removes a buffer reference, freeing it at zero. -/
  | bput (c : CoreId) (a b : GReg)
  /-- BREF (R108): Adds a buffer reference. -/
  | bref (c : CoreId) (a b : GReg)
  /-- MLOOK (R111): Issues a map lookup. -/
  | mlook (c : CoreId) (i : Issue)
  /-- MCOMMIT (R112): Issues a map commit of one record per command. -/
  | mcommit (c : CoreId) (i : Issue)
  /-- MTRIM (R113): Issues a map trim. -/
  | mtrim (c : CoreId) (i : Issue)
  /-- MZONE_RESERVE (R262): Reserves grains at a zone's reservation pointer. -/
  | mzoneReserve (c : CoreId) (i : Issue)
  /-- MZONE_RESERVE_TOKEN (R114): Reserves with a token, returning the original LBA for a remembered token. -/
  | mzoneReserveToken (c : CoreId) (i : Issue)
  /-- MZONE_SET_STATE (R114): Sets a zone's state. -/
  | mzoneSetState (c : CoreId) (i : Issue)
  /-- MZONE_RESET (R114): Resets a zone's pointers and extents with one record. -/
  | mzoneReset (c : CoreId) (i : Issue)
  /-- MZONE_FINISH (R114): Moves a zone's write pointer to its end with one record. -/
  | mzoneFinish (c : CoreId) (i : Issue)
  /-- MZONE_READ (R114): Reads a zone entry. -/
  | mzoneRead (c : CoreId) (i : Issue)
  /-- FREAD (R123): Issues a flash read verb for one to four frames. -/
  | fread (c : CoreId) (i : Issue)
  /-- FPROG (R124): Issues a flash program verb for one wordline. -/
  | fprog (c : CoreId) (i : Issue)
  /-- FERASE (R125): Writes an erase-intent record and issues a block erase. -/
  | ferase (c : CoreId) (i : Issue)
  /-- FSTAT (R126): Issues a die status verb. -/
  | fstat (c : CoreId) (i : Issue)
  /-- FFEAT_GET (R126): Issues a get-feature verb to a die. -/
  | ffeatGet (c : CoreId) (i : Issue)
  /-- FFEAT_SET (R126): Issues a set-feature verb to a die. -/
  | ffeatSet (c : CoreId) (i : Issue)
  /-- FRAW (R126): Issues a raw or soft-sense read verb. -/
  | fraw (c : CoreId) (i : Issue)
  /-- FCANCEL (R127): Withdraws a verb not yet started. -/
  | fcancel (c : CoreId) (i : Issue)
  /-- DMIN (R131): Issues a data move from host memory. -/
  | dmin (c : CoreId) (i : Issue)
  /-- DMOUT (R131): Issues a data move to host memory, optionally chaining a completion claim. -/
  | dmout (c : CoreId) (i : Issue)
  /-- DMCOPY (R132): Issues a copy between mover spaces. -/
  | dmcopy (c : CoreId) (i : Issue)
  /-- DMCOPY_FRAMED (R195): Issues a framed copy that computes each grain's guard. -/
  | dmcopyFramed (c : CoreId) (i : Issue)
  /-- DMFILL (R132): Issues a fill of a DRAM range. -/
  | dmfill (c : CoreId) (i : Issue)
  /-- XTS (R133): Issues an AES-256-XTS pass over grains. -/
  | xts (c : CoreId) (i : Issue)
  /-- CMAC (R134): Issues an AES-CMAC computation. -/
  | cmac (c : CoreId) (i : Issue)
  /-- VSLOT_STATUS (R135): Reads a vault slot's status. -/
  | vslotStatus (c : CoreId) (i : Issue)
  /-- VSLOT_CLEAR (R495): Clears a vault slot. -/
  | vslotClear (c : CoreId) (i : Issue)
  /-- VSLOT_FILL (R495): Fills an empty slot with a TRNG key. -/
  | vslotFill (c : CoreId) (i : Issue)
  /-- VSLOT_IMPORT (R495): Imports an AES-KW wrapped key into an empty slot. -/
  | vslotImport (c : CoreId) (i : Issue)
  /-- VSLOT_BIND (R495): Binds or unbinds a namespace to a slot. -/
  | vslotBind (c : CoreId) (i : Issue)
  /-- PXOR (R136): Issues an XOR accumulate. -/
  | pxor (c : CoreId) (i : Issue)
  /-- PMAC (R136): Issues a GF(2^8) multiply-accumulate. -/
  | pmac (c : CoreId) (i : Issue)
  /-- PCHECK (R136): Issues a parity comparison. -/
  | pcheck (c : CoreId) (i : Issue)
  /-- SREQ (R137): Sends a Span request to a member. -/
  | sreq (c : CoreId) (i : Issue)
  /-- SRESP (R138): Answers a Span arrival and releases its descriptor. -/
  | sresp (c : CoreId) (i : Issue)
  /-- SLINK_STATE (R139): Reports a Span link's state. -/
  | slinkState (c : CoreId) (i : Issue)
  /-- SLINK_RETRAIN (R139): Retrains a Span link. -/
  | slinkRetrain (c : CoreId) (i : Issue)
  /-- SLINK_DISABLE (R139): Disables a Span link. -/
  | slinkDisable (c : CoreId) (i : Issue)
  /-- SLINK_ENABLE (R139): Enables a Span link. -/
  | slinkEnable (c : CoreId) (i : Issue)
  /-- SLINK_ENUMERATE (R139): Enumerates the chain behind a port. -/
  | slinkEnumerate (c : CoreId) (i : Issue)
  /-- AREC (R140): Issues an almanac record. -/
  | arec (c : CoreId) (i : Issue)
  /-- SENS (R141): Reads a sensor's last reading. -/
  | sens (c : CoreId) (a b : GReg)
  /-- HLTH (R142): Adds to a health counter. -/
  | hlth (c : CoreId) (a b d : GReg)
  /-- VOTE (R513): Casts a client's dome vote toward a state. -/
  | vote (c : CoreId) (i : Issue)
  /-- VACK (R514): Answers a dome quiesce request. -/
  | vack (c : CoreId) (a b d : GReg)
  /-- ENGINE_REQUEST_TAKE (R86): An engine takes a request from a core's queue and checks its operands. -/
  | engineRequestTake (u : Nat)
  /-- EVENT_RING_POST (R88): An unrequested event waiting in its unit takes a free ring entry without a credit. -/
  | eventRingPost (c : CoreId)
  /-- GATE_FENCE_RELEASE (R100): Once every fenced grain is durable, the completion is written, MSI-X sent and the buffer released. -/
  | gateFenceRelease (k : W64)
  /-- CQ_SPACE_RESUME (R229): A claim waiting for a full completion queue writes its entry once the head advances. -/
  | cqSpaceResume (cq : Nat)
  /-- ABORT_CLAIM_APPLY (R99): At the end of its tick an abort claim settles the command unless a completion claim arrived. -/
  | abortClaimApply (k : W64)
  /-- ENTRY_BUFFER_RETURN (R94): A settled command's entry buffer returns to class 63 after the fourth tick. -/
  | entryBufferReturn (k : W64)
  /-- MAP_LOOKUP_DONE (R111): The walker writes location words and posts the lookup event. -/
  | mapLookupDone (c : CoreId) (t : Ticket)
  /-- MAP_COMMIT_DONE (R112): The commit record is durable, the DRAM map updated, and the event posted. -/
  | mapCommitDone (c : CoreId) (t : Ticket)
  /-- MAP_TRIM_DONE (R113): The trim record is written and the event posted. -/
  | mapTrimDone (c : CoreId) (t : Ticket)
  /-- ZONE_UPDATE_DONE (R114): A zone operation completes and posts its event. -/
  | zoneUpdateDone (c : CoreId) (t : Ticket)
  /-- VERB_ENTER_DIE_QUEUE (R306): A verb leaves the core's request queue into its die queue when room exists. -/
  | verbEnterDieQueue (c : CoreId) (t : Ticket)
  /-- DIE_POLL (R298): A status poll falls due and reads a die's status. -/
  | diePoll (ch : Nat) (die : Nat) (st : PollSense)
  /-- PROGRAM_ERASE_SUSPEND (R308): The director suspends a program or erase to serve qualifying reads. -/
  | programEraseSuspend (ch : Nat) (die : Nat)
  /-- RESUME_OPERATION (R308): After at most 16 reads the director resumes the operation and counts one suspend. -/
  | resumeOperation (ch : Nat) (die : Nat)
  /-- DIE_TIMEOUT (R315): The director timer expires and the verb completes with 0x20. -/
  | dieTimeout (ch : Nat) (die : Nat)
  /-- LDPC_SLOT_GRANT (R328): An LDPC hard slot is granted by level to a ready die's frame. -/
  | ldpcSlotGrant (bank : Nat)
  /-- SOFT_DECODE (R329): The soft engine decodes a frame's senses. -/
  | softDecode (c : CoreId) (t : Ticket) (ok : Bool) (diff : BitVec 16)
  /-- FLASH_READ_DONE (R123): A read verb completes with its decoded tag and outcome. -/
  | flashReadDone (c : CoreId) (t : Ticket) (fr : List FrameSense)
  /-- RAW_READ_DONE (R126): A raw or soft read completes. -/
  | rawReadDone (c : CoreId) (t : Ticket) (fr : List FrameSense)
  /-- FLASH_PROGRAM_DONE (R124): A program ends; on passing status durable marks are set before the event. -/
  | flashProgramDone (c : CoreId) (t : Ticket) (st : BitVec 8) (ns : W64)
  /-- FLASH_ERASE_DONE (R125): An erase ends with its status. -/
  | flashEraseDone (c : CoreId) (t : Ticket) (st : BitVec 8) (ns : W64)
  /-- DIE_STATUS_DONE (R126): A status verb completes with the die state. -/
  | dieStatusDone (c : CoreId) (t : Ticket) (st : BitVec 8)
  /-- FEATURE_DONE (R126): A feature verb completes once the die is idle. -/
  | featureDone (c : CoreId) (t : Ticket) (param : BitVec 32)
  /-- CHANNEL_MACHINE_CHECK (R322): A channel stops, completes every held verb with 0x2E and begins a local reset. -/
  | channelMachineCheck (ch : Nat) (cause : BitVec 4)
  /-- CHANNEL_WATCHDOG (R321): No verb completes and no bus transaction occurs for the watchdog time, raising a machine check. -/
  | channelWatchdog (ch : Nat)
  /-- LOCAL_RESET_DONE (R322): The local reset rewrites the patch, resets dies and the channel runs again. -/
  | localResetDone (ch : Nat)
  /-- DIR_NO_ACTION (R315): Director control word with action 0. -/
  | dirNoAction (ch : Nat) (w : W64)
  /-- DIR_TAKE_VERB (R315): Takes the scheduler's chosen verb into the verb registers. -/
  | dirTakeVerb (ch : Nat) (w : W64)
  /-- DIR_COMPLETE_VERB (R315): Completes the current verb, writes its record and posts its event. -/
  | dirCompleteVerb (ch : Nat) (w : W64)
  /-- DIR_SET_OUTCOME (R315): Sets the outcome register. -/
  | dirSetOutcome (ch : Nat) (w : W64)
  /-- DIR_START_TIMER (R315): Starts the die-ready timer. -/
  | dirStartTimer (ch : Nat) (w : W64)
  /-- DIR_COUNT_SUSPEND (R315): Counts one suspend of the current operation. -/
  | dirCountSuspend (ch : Nat) (w : W64)
  /-- DIR_RECORD_RESUME (R315): Records the resume time. -/
  | dirRecordResume (ch : Nat) (w : W64)
  /-- DIR_REQUEST_LDPC_SLOT (R315): Requests an LDPC hard slot for the current frame. -/
  | dirRequestLdpcSlot (ch : Nat) (w : W64)
  /-- DIR_SET_DURABLE_MARKS (R315): Sets durable marks for the current program's frames. -/
  | dirSetDurableMarks (ch : Nat) (w : W64)
  /-- DIR_SELECT_DIE (R315): Selects the current verb's die. -/
  | dirSelectDie (ch : Nat) (w : W64)
  /-- DIR_SET_COUNTER (R315): Loads the counter. -/
  | dirSetCounter (ch : Nat) (w : W64)
  /-- DIR_DECREMENT_COUNTER (R315): Decrements the counter. -/
  | dirDecrementCounter (ch : Nat) (w : W64)
  /-- DIR_ADVANCE (R315): Advances to the next frame, page or plane. -/
  | dirAdvance (ch : Nat) (w : W64)
  /-- SEQ_IDLE (R317): Idles the bus for a timing entry. -/
  | seqIdle (ch : Nat) (w : BitVec 32)
  /-- SEQ_COMMAND_CYCLE (R317): Drives a command cycle. -/
  | seqCommandCycle (ch : Nat) (w : BitVec 32)
  /-- SEQ_ADDRESS_CYCLE (R317): Drives an address cycle. -/
  | seqAddressCycle (ch : Nat) (w : BitVec 32)
  /-- SEQ_DATA_INPUT (R317): Sends one frame to the die. -/
  | seqDataInput (ch : Nat) (w : BitVec 32)
  /-- SEQ_DATA_OUTPUT (R317): Takes one frame from the die into the LDPC slot. -/
  | seqDataOutput (ch : Nat) (w : BitVec 32) (fr : FrameSense)
  /-- SEQ_STATUS_READ (R317): Reads a status byte and sets the ready, fail and suspended conditions. -/
  | seqStatusRead (ch : Nat) (w : BitVec 32) (st : BitVec 8)
  /-- SEQ_CALL (R318): Calls a sequencer routine on the micro-stack. -/
  | seqCall (ch : Nat) (w : BitVec 32)
  /-- SEQ_RETURN (R318): Returns from a sequencer routine. -/
  | seqReturn (ch : Nat) (w : BitVec 32)
  /-- SEQ_JUMP (R317): Jumps within the sequencer store. -/
  | seqJump (ch : Nat) (w : BitVec 32)
  /-- SEQ_CHIP_ENABLE (R317): Asserts or deasserts a chip enable. -/
  | seqChipEnable (ch : Nat) (w : BitVec 32)
  /-- SEQ_WAIT_BUS_GRANT (R317): Waits for the bus grant. -/
  | seqWaitBusGrant (ch : Nat) (w : BitVec 32)
  /-- DATA_MOVER_IN_DONE (R131): A host-to-tundish move completes. -/
  | dataMoverInDone (c : CoreId) (t : Ticket) (ok : Bool) (data : List Byte)
  /-- DATA_MOVER_OUT_DONE (R131): A tundish-to-host move completes. -/
  | dataMoverOutDone (c : CoreId) (t : Ticket) (ok : Bool)
  /-- COPY_DONE (R132): A copy completes, after durability for ingot destinations. -/
  | copyDone (c : CoreId) (t : Ticket)
  /-- FILL_DONE (R132): A DRAM fill completes with check bits written. -/
  | fillDone (c : CoreId) (t : Ticket)
  /-- XTS_DONE (R133): An XTS pass completes. -/
  | xtsDone (c : CoreId) (t : Ticket)
  /-- CMAC_DONE (R134): A CMAC computation completes. -/
  | cmacDone (c : CoreId) (t : Ticket)
  /-- VAULT_OPERATION_DONE (R495): A vault operation completes once its ingot entry is durable. -/
  | vaultOperationDone (c : CoreId) (t : Ticket)
  /-- PARITY_DONE (R136): An XOR or multiply-accumulate completes. -/
  | parityDone (c : CoreId) (t : Ticket)
  /-- PARITY_CHECK_DONE (R136): A parity comparison completes. -/
  | parityCheckDone (c : CoreId) (t : Ticket)
  /-- ALMANAC_RECORD_DONE (R140): An arec record's valid mark is durable and its event posts. -/
  | almanacRecordDone (c : CoreId) (t : Ticket)
  /-- SPAN_RESPONSE_ARRIVAL (R137): A response arrives and its sreq completes. -/
  | spanResponseArrival (p : Nat) (m : SpanMsg)
  /-- SPAN_REQUEST_TIMEOUT (R137): SPAN_TMO ticks pass without a response and the sreq completes with 0x52. -/
  | spanRequestTimeout (c : CoreId) (t : Ticket)
  /-- SPAN_ARRIVAL (R391): A port takes an arriving request, handling duplicates or posting an arrival event. -/
  | spanArrival (p : Nat) (m : SpanMsg)
  /-- QUIESCE_TIMEOUT (R515): A client that has not answered a quiesce by the fourth tick counts as refusing. -/
  | quiesceTimeout (d : Nat)
  /-- DOME_WAKE_DONE (R512): After its fixed wake delay a dome reports on, releases pads and sends dome-on events. -/
  | domeWakeDone (d : Nat)
  /-- WAKE_SOURCE (R517): An enabled wake source asserts and wakes a dome or aborts its entry. -/
  | wakeSource (src : Nat) (edge : Bool) (phase : CommitPhase)
  /-- SQ_TAIL_DOORBELL (R228): A submission queue tail doorbell write updates the shadow. -/
  | sqTailDoorbell (func : Nat) (y : Nat) (v : BitVec 32)
  /-- CQ_HEAD_DOORBELL (R228): A completion queue head doorbell write updates the shadow. -/
  | cqHeadDoorbell (func : Nat) (y : Nat) (v : BitVec 32)
  /-- SQ_FETCH (R91): The queue engine fetches an entry into a class 63 buffer and posts a fetch event. -/
  | sqFetch (q : Nat) (e : BitVec 512) (pre : List Byte)
  /-- FUNCTION_LEVEL_RESET (R490): A PCIe Function Level Reset begins the reset of a function and its slices. -/
  | functionLevelReset (func : Nat)
  /-- CONTROLLER_DISABLE (R217): CC.EN going to 0 settles the controller's commands as a reset and clears CSTS.RDY. -/
  | controllerDisable (func : Nat)
  /-- CONTROLLER_ENABLE (R572): CC.EN going to 1 sets CSTS.RDY or restarts the device after a fault reset. -/
  | controllerEnable (func : Nat) (cc aqa : BitVec 32) (asq acq : W64) (sigs : BitVec 2) (nand : NandPins)
  /-- SHUTDOWN_NOTIFICATION (R217): CC.SHN stops fetching and completes the shutdown with SHST 10b. -/
  | shutdownNotification (func : Nat)
  /-- RESET_END (R492): An instance reset ends once its token is reported and all its work has drained. -/
  | resetEnd (tok : BitVec 15)
  /-- DELETE_IO_SQ (R225): Stops fetching, squashes unsettled commands and deletes the queue. -/
  | deleteIoSq (k : W64)
  /-- DELETE_IO_CQ (R225): Deletes a completion queue no submission queue names. -/
  | deleteIoCq (k : W64)
  /-- CREATE_IO_SQ (R225): Creates a submission queue with an optional PASID. -/
  | createIoSq (k : W64)
  /-- CREATE_IO_CQ (R225): Creates a completion queue. -/
  | createIoCq (k : W64)
  /-- GET_LOG_PAGE (R245): Returns a log page. -/
  | getLogPage (k : W64)
  /-- GET_LOG_PAGE_ALMANAC (R247): Returns page 0xC1 and raises the read mark. -/
  | getLogPageAlmanac (k : W64)
  /-- GET_LOG_PAGE_TICK_STATISTICS (R250): Returns page 0xC4, clearing counters when LSP bit 0 is set. -/
  | getLogPageTickStatistics (k : W64)
  /-- IDENTIFY (R218): Returns an Identify data structure. -/
  | identify (k : W64)
  /-- ABORT (R240): Routes an abort to the owning core, which answers by claim or not. -/
  | abort (k : W64)
  /-- SET_FEATURES (R220): Sets a supported feature with no saved value. -/
  | setFeatures (k : W64) (data : List Byte)
  /-- SET_FEATURES_ARBITRATION (R233): Changes arbitration weights from the next boundary. -/
  | setFeaturesArbitration (k : W64)
  /-- SET_FEATURES_POWER_MANAGEMENT (R527): Enters an NVMe power state. -/
  | setFeaturesPowerManagement (k : W64)
  /-- SET_FEATURES_TEMPERATURE_THRESHOLD (R535): Sets a temperature threshold. -/
  | setFeaturesTemperatureThreshold (k : W64)
  /-- SET_FEATURES_FDP (R278): Enables Flexible Data Placement for endurance group 1. -/
  | setFeaturesFdp (k : W64)
  /-- NUMBER_OF_QUEUES (R224): Grants submission and completion queue counts. -/
  | numberOfQueues (k : W64)
  /-- GET_FEATURES (R220): Returns a feature value. -/
  | getFeatures (k : W64)
  /-- ASYNCHRONOUS_EVENT_REQUEST (R220): Posts a request completed when an asynchronous event occurs. -/
  | asynchronousEventRequest (k : W64)
  /-- NAMESPACE_CREATE (R258): Creates a namespace or volume if capacity rules allow. -/
  | namespaceCreate (k : W64) (d : NsCreate)
  /-- NAMESPACE_DELETE (R502): Crypto-erases and deletes a namespace. -/
  | namespaceDelete (k : W64)
  /-- NAMESPACE_ATTACHMENT (R222): Attaches or detaches a namespace to controllers. -/
  | namespaceAttachment (k : W64) (ctls : List Nat)
  /-- FIRMWARE_IMAGE_DOWNLOAD (R168): Stages a piece of a firmware image. -/
  | firmwareImageDownload (k : W64) (data : List Byte)
  /-- FIRMWARE_COMMIT_WRITE_ONLY (R169): Action 000b verifies and writes the bank without changing the selector. -/
  | firmwareCommitWriteOnly (k : W64) (sig nor : Bool)
  /-- FIRMWARE_COMMIT_AT_RESET (R169): Action 001b verifies and writes the bank to run at the next reset. -/
  | firmwareCommitAtReset (k : W64) (sig nor : Bool)
  /-- FIRMWARE_COMMIT_EXISTING (R169): Action 010b verifies an existing bank to run at the next reset. -/
  | firmwareCommitExisting (k : W64) (sig : Bool)
  /-- FIRMWARE_COMMIT_ACTIVATE_NOW (R169): Action 011b verifies, writes, swaps the selector and hands over live. -/
  | firmwareCommitActivateNow (k : W64) (sig nor : Bool)
  /-- LIVE_HANDOVER_ARM (R174): In slot 63 of tick H−1 the loader checks the conditions and writes SCHED_HOVMASK. -/
  | liveHandoverArm
  /-- LAYOUT_MARK_WRITE (R177): After the start activations the loader writes the layout mark and settles the commit. -/
  | layoutMarkWrite
  /-- SELF_TEST_SHORT (R364): Runs the short device self-test. -/
  | selfTestShort (k : W64)
  /-- SELF_TEST_EXTENDED (R364): Runs the extended device self-test. -/
  | selfTestExtended (k : W64)
  /-- SELF_TEST_ABORT (R364): Aborts a running self-test. -/
  | selfTestAbort (k : W64)
  /-- DIRECTIVE_SEND (R220): Sends an Identify or Data Placement directive. -/
  | directiveSend (k : W64)
  /-- DIRECTIVE_RECEIVE (R220): Returns directive data. -/
  | directiveReceive (k : W64)
  /-- SECONDARY_ONLINE (R482): Brings a secondary controller online if it holds enough resources. -/
  | secondaryOnline (k : W64)
  /-- SECONDARY_OFFLINE (R482): Takes a secondary controller offline, resetting it first. -/
  | secondaryOffline (k : W64)
  /-- SECONDARY_ASSIGN (R482): Assigns flexible queue resources or vectors. -/
  | secondaryAssign (k : W64)
  /-- FORMAT_NVM (R502): Formats a namespace, crypto-erasing with SES 010b. -/
  | formatNvm (k : W64)
  /-- SECURITY_SEND (R504): Carries an SPDM message to the responder. -/
  | securitySend (k : W64) (m : SpdmMsg)
  /-- SECURITY_RECEIVE (R504): Returns an SPDM message from the responder. -/
  | securityReceive (k : W64)
  /-- SANITIZE_CRYPTO_ERASE (R502): Crypto-erases every namespace and volume. -/
  | sanitizeCryptoErase (k : W64)
  /-- SANITIZE_BLOCK_ERASE (R503): Clears general slots, erases every extent and clears the enclosure record. -/
  | sanitizeBlockErase (k : W64)
  /-- ALMANAC_SEAL (R252): Seals almanac records up to the read mark under an owner session. -/
  | almanacSeal (k : W64)
  /-- FLUSH (R221): Completes with success and does nothing. -/
  | flush (k : W64)
  /-- WRITE (R416): Writes host data through hazard, tags, program, commit and fence. -/
  | write (k : W64) (data : List (List Byte)) (mdata : List Byte)
  /-- READ (R236): Reads host data after a hazard check, from buffer or flash. -/
  | read (k : W64) (sense : ReadSense) (vol : List VolGrain)
  /-- WRITE_UNCORRECTABLE (R266): Commits the uncorrectable marker over a range. -/
  | writeUncorrectable (k : W64)
  /-- WRITE_ZEROES (R266): Commits location word 0 over a range. -/
  | writeZeroes (k : W64)
  /-- DATASET_MANAGEMENT (R266): Deallocates ranges with mtrim. -/
  | datasetManagement (k : W64) (ranges : List (W64 × Nat))
  /-- VERIFY (R221): Verifies a range. -/
  | verify (k : W64) (sense : ReadSense) (vol : List VolGrain)
  /-- IO_MANAGEMENT_RECEIVE (R221): Returns placement management data. -/
  | ioManagementReceive (k : W64)
  /-- RECLAIM_UNIT_HANDLE_UPDATE (R281): Pads and closes the named reclaim units. -/
  | reclaimUnitHandleUpdate (k : W64) (pids : List Nat)
  /-- ZONE_OPEN (R267): Explicitly opens a zone. -/
  | zoneOpen (k : W64)
  /-- ZONE_CLOSE (R271): Closes a zone after earlier commands settle. -/
  | zoneClose (k : W64)
  /-- ZONE_FINISH (R272): Finishes a zone, padding its current row. -/
  | zoneFinish (k : W64)
  /-- ZONE_RESET (R272): Resets a zone and releases its extent to the pending-erase list. -/
  | zoneReset (k : W64)
  /-- ZONE_OFFLINE (R267): Always completes with Invalid Zone State Transition. -/
  | zoneOffline (k : W64)
  /-- SET_ZONE_DESCRIPTOR_EXTENSION (R267): Completes with Invalid Field in Command. -/
  | setZoneDescriptorExtension (k : W64)
  /-- ZONE_MANAGEMENT_RECEIVE (R261): Reports zones with the reservation pointer. -/
  | zoneManagementReceive (k : W64)
  /-- ZONE_APPEND (R264): Appends wherever the reservation pointer stands. -/
  | zoneAppend (k : W64) (data : List (List Byte)) (mdata : List Byte)
  /-- ZONE_APPEND_WITH_TOKEN (R276): Appends once per token, answering repeats with the original LBA. -/
  | zoneAppendWithToken (k : W64) (data : List (List Byte)) (mdata : List Byte)
  /-- PRESERVE_STATE_ENTRY (R288): At the first boundary with S ≤ F the device enters the preserve state. -/
  | preserveStateEntry
  /-- PRESERVE_STATE_EXIT (R290): When S rises enough above F the device leaves the preserve state. -/
  | preserveStateExit
  /-- FINISH_ZONE_RECOMMENDED (R269): After FRL seconds active a zone gets Finish Zone Recommended. -/
  | finishZoneRecommended (z : Nat)
  /-- ZONE_FINISHED_BY_CONTROLLER (R269): A zone active 72 h is finished by the resident set with ZFC set. -/
  | zoneFinishedByController (z : Nat)
  /-- RU_TIME_LIMIT_EXCEEDED (R281): A reclaim unit in progress for ERUTL is padded and closed. -/
  | ruTimeLimitExceeded (h : Nat) (g : Nat)
  /-- PATROL_READ (R349): The patrol reads a page and acts on the result. -/
  | patrolRead (loc : W64) (fr : List FrameSense) (unread : List W64)
  /-- LEVEL_SWEEP (R336): A sweep senses a frame at nearby offset sets and may update the index. -/
  | levelSweep (ch : Nat) (die : Nat) (grp : Nat) (res : List Nat)
  /-- RETRY_LADDER_STEP (R330): A failed read climbs one step of the retry ladder. -/
  | retryLadderStep (k : W64) (loc : W64) (outcome : BitVec 8)
  /-- FRAME_REBUILD (R342): A frame is rebuilt from open-block parity and relocated with a new tag. -/
  | frameRebuild (loc : W64)
  /-- CLOSING_VERIFY (R343): A closed extent is read once per wordline per plane. -/
  | closingVerify (x : Nat) (bad unread : List W64)
  /-- RECLAIM (R351): Reclaim relocates the victim extent when free extents run low. -/
  | reclaim
  /-- STATIC_WEAR_LEVELLING (R347): The coldest extent moves when a group's erase-count spread exceeds L. -/
  | staticWearLevelling (g : Nat)
  /-- EXTENT_RELOCATION (R352): A range is copied under a hazard entry and recommitted. -/
  | extentRelocation (serial : Nat)
  /-- PENDING_ERASE (R353): A block on the pending-erase list is erased. -/
  | pendingErase (b : Nat) (ok : Bool)
  /-- READ_LEVEL_CHECKPOINT (R337): Every 2^22 tk the level library and tables are checkpointed. -/
  | readLevelCheckpoint
  /-- HEALTH_HISTORY_ENTRY (R246): Each operating hour one health history entry is added. -/
  | healthHistoryEntry
  /-- FLASH_PACKAGE_POLL (R532): Every 500 ms package temperatures are polled and GPROG set. -/
  | flashPackagePoll (temps : List (Nat × BitVec 16))
  /-- RISE_PREDICTION (R532): Every 1 ms DIEMAX is sampled and the temperature 10 ms ahead predicted. -/
  | risePrediction
  /-- ORDERLY_STOP_RESUME (R533): After 1 s of cool readings the device resumes. -/
  | orderlyStopResume
  /-- SENSOR_SAMPLE (R528): Every 50 µs each on-die sensor is sampled. -/
  | sensorSample (temps : List (BitVec 16))
  /-- COOLING_GAP_UPDATE (R531): Every 1 ms the hardware sets GHW from DIEMAX. -/
  | coolingGapUpdate
  /-- ALMANAC_WRITE (R539): The almanac writes a queued record and its anchor, or drops it when full. -/
  | almanacWrite
  /-- OPERATING_TIME_UPDATE (R539): The operating time is written every 2^-16 hour. -/
  | operatingTimeUpdate
  /-- HEALTH_COUNTER_COPY (R360): Every 65,536 tk the health counters are copied to the ingot store. -/
  | healthCounterCopy
  /-- SRAM_CORRECTED_READ (R463): A single-bit SRAM error is corrected and counted in the repeat tracker. -/
  | sramCorrectedRead (arr : BitVec 8) (word : BitVec 24)
  /-- SRAM_UNCORRECTABLE_ERROR (R587): An uncorrectable on-chip SRAM error causes a controller fault reset. -/
  | sramUncorrectableError (arr : BitVec 8) (word : BitVec 24)
  /-- DRAM_UNCORRECTABLE_ERROR (R458): An uncorrectable DRAM error retires the rank and starts migration. -/
  | dramUncorrectableError (ch : Nat) (rank : Nat) (line : Nat)
  /-- MIGRATION_DONE (R459): Rank migration ends, the rank map updates and kind 3 posts. -/
  | migrationDone
  /-- TRNG_HEALTH_FAIL (R500): A TRNG health test fails and the TRNG restarts. -/
  | trngHealthFail
  /-- PERST_DEASSERTION (R567): The first PERST_n deassertion samples straps and runs bring-up. -/
  | perstDeassertion (b : BoardPins)
  /-- PERST_ASSERTION (R566): PERST_n asserted after READY causes a fault reset and holds the host PHY. -/
  | perstAssertion
  /-- POWER_FAIL (R575): PWRFAIL_n drives READY low and the ingot store and pattern store secure their state. -/
  | powerFail
  /-- POWER_FAIL_TIMEOUT (R576): With supply still present 10 ms later, the device fault-resets or restarts bring-up. -/
  | powerFailTimeout (b : BoardPins)
  /-- WORKER_RESTART (R572): A worker restarts 1 ms after a fault reset. -/
  | workerRestart (sigs : BitVec 2) (nand : NandPins)
  /-- SPAN_TRAINING (R374): A Span link trains and the leading end is chosen. -/
  | spanTraining (p : Nat) (r : TrainResult)
  /-- LINK_RETRAINING (R372): No good flit for 1 µs or too many NAKs starts retraining. -/
  | linkRetraining (p : Nat)
  /-- LINK_DOWN (R394): A link goes down, LOST is sent and routes are exchanged. -/
  | linkDown (p : Nat)
  /-- LINK_RETRY (R372): A down link is tried again every 1 s. -/
  | linkRetry (p : Nat)
  /-- CHAIN_ENUMERATION (R379): A manager enumerates a chain with IDENT and ASSIGN. -/
  | chainEnumeration (p : Nat) (ms : List EnumMember)
  /-- MEMBER_LOST (R394): A member with no valid route or no reports is marked lost. -/
  | memberLost (m : BitVec 8)
  /-- IDENT (R384): A hop-addressed identity request and its response. -/
  | ident (p : Nat) (m : SpanMsg)
  /-- ASSIGN (R380): Assigns a worker its identifier and confirms its role. -/
  | assign (p : Nat) (m : SpanMsg)
  /-- ROUTE (R384): Exchanges primary and alternate routes at the receiver. -/
  | route (p : Nat) (m : SpanMsg)
  /-- HORIZON (R392): Every SPAN_HZPER ticks a member posts its die horizons. -/
  | horizon
  /-- HORIZON_SLOT_WRITE (R393): A manager's port writes a received report into the member's slot. -/
  | horizonSlotWrite (p : Nat) (m : SpanMsg)
  /-- PING (R384): Echoes a word. -/
  | ping (p : Nat) (m : SpanMsg)
  /-- LOST (R394): Reports a down link to the managers. -/
  | lost (p : Nat) (m : SpanMsg)
  /-- RESTART (R396): Reports a member's new generation; requests to it complete with 0x5C. -/
  | restart (p : Nat) (m : SpanMsg)
  /-- GWRITE (R407): A worker programs grains and answers once they are durable. -/
  | gwrite (e : W64) (place : List W64)
  /-- GREAD (R408): A worker reads grains and answers with a framed payload. -/
  | gread (e : W64)
  /-- GTRIM (R408): A worker unmaps a range. -/
  | gtrim (e : W64)
  /-- GZONE_RESET (R408): A worker unmaps a member zone. -/
  | gzoneReset (e : W64)
  /-- GZONE_FINISH (R408): A worker refuses further writes to a member zone. -/
  | gzoneFinish (e : W64)
  /-- GZONE_READ (R408): A worker reports a member zone's grains and state. -/
  | gzoneRead (e : W64)
  /-- JOURNAL (R413): The peer stores a journal entry or applies a zone record. -/
  | journal (e : W64)
  /-- CKPT_RESERVE_BOUND (R414): The peer keeps the sender's sequence reserve bound. -/
  | ckptReserveBound (e : W64)
  /-- CKPT_LAYOUT (R414): The peer stores a layout record. -/
  | ckptLayout (e : W64)
  /-- CKPT_ZONE_STATE (R414): The peer stores a zone state entry. -/
  | ckptZoneState (e : W64)
  /-- CKPT_GROUP_TRANSFER (R425): The owner settles the group's work and hands it over. -/
  | ckptGroupTransfer (e : W64)
  /-- CKPT_LOST_RANGE (R414): The peer adds a lost-range entry. -/
  | ckptLostRange (e : W64)
  /-- STATUS (R384): A worker returns its member status. -/
  | status (e : W64)
  /-- KEYWRAP (R501): A worker imports or clears a volume's key. -/
  | keywrap (e : W64)
  /-- STRIPE_SEAL (R417): When a stripe's last grain commits its tail mirrors are trimmed and its slot freed. -/
  | stripeSeal (v : Nat) (z : Nat) (st : Nat)
  /-- ZONE_REBUILD (R431): The owner rebuilds awaiting positions of a zone at P5. -/
  | zoneRebuild (v : Nat) (z : Nat) (gs : List PieceGrain)
  /-- STRIPE_PARITY_CHECK (R436): The patrol recomputes and compares a stripe's parity. -/
  | stripeParityCheck (v : Nat) (z : Nat) (st : Nat) (gs : List PieceGrain)
  /-- RESHAPE_START (R437): The owner builds a new pool and starts a reshape. -/
  | reshapeStart (v : Nat)
  /-- RESHAPE_ZONE_MOVE (R438): The boundary moves one zone, copying changed positions. -/
  | reshapeZoneMove (v : Nat) (gs : List PieceGrain)
  /-- GET_VERSION (R504): SPDM version negotiation. -/
  | getVersion (x : Nat)
  /-- GET_CAPABILITIES (R504): SPDM capabilities exchange. -/
  | getCapabilities (x : Nat)
  /-- NEGOTIATE_ALGORITHMS (R504): SPDM algorithm negotiation. -/
  | negotiateAlgorithms (x : Nat)
  /-- GET_DIGESTS (R504): Returns certificate chain digests. -/
  | getDigests (x : Nat)
  /-- GET_CERTIFICATE (R504): Returns the certificate chain. -/
  | getCertificate (x : Nat) (slot : Nat)
  /-- CHALLENGE (R504): Authenticates the responder. -/
  | challenge (x : Nat) (slot : Nat)
  /-- GET_MEASUREMENTS (R510): Returns signed measurement registers. -/
  | getMeasurements (x : Nat) (idx : Nat) (nonce : BitVec 256)
  /-- KEY_EXCHANGE (R504): Starts an SPDM session, at most 8 at once. -/
  | keyExchange (x : Nat) (leaf : BitVec 384)
  /-- FINISH (R505): Establishes a session and fills its wrapping-key slot. -/
  | finish (sid : BitVec 32)
  /-- HEARTBEAT (R504): Keeps a session alive. -/
  | heartbeat (sid : BitVec 32)
  /-- SESSION_HEARTBEAT_TIMEOUT (R504): A session without heartbeat ends and its slot is cleared. -/
  | sessionHeartbeatTimeout (sid : BitVec 32)
  /-- KEY_UPDATE (R504): Updates session keys. -/
  | keyUpdate (sid : BitVec 32)
  /-- END_SESSION (R504): Ends a session and clears its slot. -/
  | endSession (sid : BitVec 32)
  /-- KEY_IMPORT (R506): Imports a wrapped key for an empty namespace or volume. -/
  | keyImport (sid : BitVec 32) (ns : Nat) (kind : BitVec 8) (wrapped : List Byte)
  /-- KEY_STATUS (R506): Reports a namespace's key status. -/
  | keyStatus (sid : BitVec 32) (ns : Nat)
  /-- OWNER_ENROLL (R507): Enrolls an owner key slot. -/
  | ownerEnroll (sid : BitVec 32) (slot : Nat) (perms : BitVec 3) (hash : BitVec 384) (signed : Bool)
  /-- OWNER_WITHDRAW (R507): Withdraws an owner key slot. -/
  | ownerWithdraw (sid : BitVec 32) (slot : Nat) (signed : Bool)
  /-- DEBUG_SET (R508): Sets debug access for the next power-up. -/
  | debugSet (sid : BitVec 32) (on : Bool) (signed : Bool)
  /-- MEASURE_EXTEND (R506): Extends measurement register 9. -/
  | measureExtend (sid : BitVec 32) (d : BitVec 384)
  /-- POWER_DOWN (R563): The supply rails leave their operating range and every volatile state (SRAM, DRAM, mark window, domes) is lost until the next power-up. -/
  | powerDown
  /-- FLIT_RECEIPT (R369): A Span port receives one flit, checks FEC and CRC, acknowledges or sends NAK, replays on a received NAK, returns credits, drops idle flits and forwards flits not for it. -/
  | flitReceipt (p : Nat) (f : Flit)
  /-- DOME_ENTRY_DONE (R516): The save to retention or the power-down of a committed dome completes within 2 µs and the vote's event posts with outcome 0x00. -/
  | domeEntryDone (d : Nat)
  /-- ILLEGAL_INSTRUCTION (R64): A core executes a word with a reserved opcode, a non-zero unused field, a table word or falls past word 4,095, and raises fault 0xE2. -/
  | illegalInstruction (c : CoreId) (w : W64)
  /-- CONFIGURATION_REQUEST (R492): A host configuration request reaches a function: answered with Configuration Request Retry Status during a Function Level Reset, or enabling virtual functions or PASID in the capabilities. -/
  | configurationRequest (func : Nat) (op : CfgOp)
  deriving DecidableEq, Repr

end Sys2Proof
end

