-- ==== Sys2Proof/Decode.lean ====
section
/-! DEFINITION. The command that a table word spells.  Every row of spec/opcode_table.json has an
empty list of fields, so the table gives no row any bits and no word spells a command. -/

namespace Sys2Proof

/-- No row of the table has bits: no word spells a command (DESIGN CHOICE, log entry 13). -/
def decodeTableWord (_nbits _w : Nat) : Option Instr := none

end Sys2Proof
end

