-- ==== Sys2Proof/Machine/FMap.lean ====
section
/-! DEFINITION. Finite maps in one canonical form: a list of (key, value) pairs with strictly
rising keys, holding no entry equal to what an unlisted key reads as. Every memory, register
window and table of the device is one of these. -/

namespace Sys2Proof.Machine

/-- A finite map from numbers to `α`; what an unlisted key reads as is given by the reader. -/
abbrev FMap (α : Type) := List (Nat × α)

/-- The value at key `k`; an unlisted key reads as `d k`. -/
def FMap.get {α : Type} (d : Nat → α) : FMap α → Nat → α
  | [], k => d k
  | (a, x) :: r, k => if a = k then x else FMap.get d r k

/-- The map without key `k`. -/
def FMap.erase {α : Type} : FMap α → Nat → FMap α
  | [], _ => []
  | (a, x) :: r, k => if a = k then FMap.erase r k else (a, x) :: FMap.erase r k

/-- The map with `v` listed at key `k`, in rising order of keys. -/
def FMap.insert {α : Type} : FMap α → Nat → α → FMap α
  | [], k, v => [(k, v)]
  | (a, x) :: r, k, v =>
    if k < a then (k, v) :: (a, x) :: r
    else if a = k then (k, v) :: r
    else (a, x) :: FMap.insert r k v

/-- The map after writing `v` at `k`; writing what an unlisted key reads as removes the entry. -/
def FMap.set {α : Type} [DecidableEq α] (d : Nat → α) (m : FMap α) (k : Nat) (v : α) : FMap α :=
  if v = d k then FMap.erase m k else FMap.insert m k v

/-- Every key is above `lo`, keys rise strictly and no entry equals what an unlisted key reads as. -/
def FMap.wfFrom {α : Type} [DecidableEq α] (d : Nat → α) : Option Nat → FMap α → Bool
  | _, [] => true
  | lo, (a, x) :: r =>
    (match lo with
      | none => true
      | some l => decide (l < a)) && decide (x ≠ d a) && FMap.wfFrom d (some a) r

/-- The canonical form. -/
def FMap.wf {α : Type} [DecidableEq α] (d : Nat → α) (m : FMap α) : Bool :=
  FMap.wfFrom d none m

/-- Apply a function to the value at one key. -/
def FMap.modify {α : Type} [DecidableEq α] (d : Nat → α) (m : FMap α) (k : Nat) (f : α → α) : FMap α :=
  FMap.set d m k (f (FMap.get d m k))

/-- Write a list of values at consecutive keys. -/
def FMap.setList {α : Type} [DecidableEq α] (d : Nat → α) : FMap α → Nat → List α → FMap α
  | m, _, [] => m
  | m, k, v :: vs => FMap.setList d (FMap.set d m k v) (k + 1) vs

/-- Read `n` values at consecutive keys. -/
def FMap.getList {α : Type} (d : Nat → α) (m : FMap α) : Nat → Nat → List α
  | _, 0 => []
  | k, n + 1 => FMap.get d m k :: FMap.getList d m (k + 1) n

end Sys2Proof.Machine
end

