-- ==== Sys2Proof/Machine/Bits.lean ====
section
/-! DEFINITION. Fields of words, byte order, and the small bit functions the rules name. -/

namespace Sys2Proof.Machine

/-- Field of `w` bits of `v` from bit `lo`, as a number. -/
def fld {n : Nat} (v : BitVec n) (lo w : Nat) : Nat := v.toNat / 2 ^ lo % 2 ^ w

/-- Bit `i` of `v`. -/
def bit {n : Nat} (v : BitVec n) (i : Nat) : Bool := v.toNat / 2 ^ i % 2 = 1

/-- `v` with its field of `w` bits from bit `lo` replaced by the low bits of `x`. -/
def setFld {n : Nat} (v : BitVec n) (lo w x : Nat) : BitVec n :=
  BitVec.ofNat n (v.toNat % 2 ^ lo + (x % 2 ^ w) * 2 ^ lo + v.toNat / 2 ^ (lo + w) * 2 ^ (lo + w))

/-- `v` with bit `i` set to `b`. -/
def setBit {n : Nat} (v : BitVec n) (i : Nat) (b : Bool) : BitVec n :=
  setFld v i 1 (if b then 1 else 0)

/-- A saturating sum: `a + b`, at most `2 ^ w - 1`. -/
def satAdd (w a b : Nat) : Nat := min (a + b) (2 ^ w - 1)

/-- A 64-bit word from a number. -/
def w64 (n : Nat) : W64 := BitVec.ofNat 64 n

/-- 1 for true, 0 for false. -/
def b2n (b : Bool) : Nat := if b then 1 else 0

/-- The number that little-endian bytes spell. -/
def ofBytes : List Byte → Nat
  | [] => 0
  | b :: r => b.toNat + 256 * ofBytes r

/-- The `n` little-endian bytes of a number. -/
def toBytes : Nat → Nat → List Byte
  | 0, _ => []
  | n + 1, v => BitVec.ofNat 8 v :: toBytes n (v / 256)

/-- Little-endian words of `n` bytes each, from a list of bytes (a short tail is padded with 0). -/
def wordsOf (n : Nat) : Nat → List Byte → List W64
  | 0, _ => []
  | k + 1, bs => w64 (ofBytes (bs.take n)) :: wordsOf n k (bs.drop n)

/-- The 64-bit little-endian words of a list of bytes: `k` of them. -/
def words64 (k : Nat) (bs : List Byte) : List W64 := wordsOf 8 k bs

/-- The number of bits from bit `i` down that are 0 before the first 1, scanning `k` bits. -/
def clzFrom (v : Nat) : Nat → Nat
  | 0 => 0
  | k + 1 => if v / 2 ^ k % 2 = 1 then 0 else 1 + clzFrom v k

/-- Count of leading zeros of a 64-bit number. -/
def clz64 (v : Nat) : Nat := clzFrom v 64

/-- Trailing zeros of `v` over at most `k` bits. -/
def ctzTo (v : Nat) : Nat → Nat
  | 0 => 0
  | k + 1 => if v % 2 = 1 then 0 else 1 + ctzTo (v / 2) k

/-- Count of trailing zeros of a 64-bit number. -/
def ctz64 (v : Nat) : Nat := ctzTo v 64

/-- Ones among the low `k` bits of `v`. -/
def popTo (v : Nat) : Nat → Nat
  | 0 => 0
  | k + 1 => v % 2 + popTo (v / 2) k

/-- Count of ones of a 64-bit number. -/
def popc64 (v : Nat) : Nat := popTo v 64

/-- `v`, read as a number of `w` bits, sign-extended to 64 bits. -/
def sext (w v : Nat) : W64 :=
  let x := v % 2 ^ w
  if x < 2 ^ (w - 1) then w64 x else w64 (x + (2 ^ 64 - 2 ^ w))

/-- One bit step of the reflected CRC-32 (polynomial 0xEDB8_8320). -/
def crc32Bit (c : Nat) : Nat :=
  if c % 2 = 1 then Nat.xor (c / 2) 0xEDB88320 else c / 2

/-- `k` bit steps. -/
def crc32Bits : Nat → Nat → Nat
  | 0, c => c
  | k + 1, c => crc32Bits k (crc32Bit c)

/-- CRC-32 continued over one byte. -/
def crc32Byte (c : Nat) (b : Byte) : Nat := crc32Bits 8 (Nat.xor c b.toNat)

/-- CRC-32 of bytes continued from `c`, with no initial or final inversion (R66). -/
def crc32 (c : Nat) (bs : List Byte) : Nat := bs.foldl crc32Byte c

/-- One bit step of the reflected CRC-64 of R194 (polynomial 0xAD93_D235_94C9_3659). -/
def crc64Bit (c : Nat) : Nat :=
  if c % 2 = 1 then Nat.xor (c / 2) 0x9A6C9329AC4BC9B5 else c / 2

/-- `k` bit steps. -/
def crc64Bits : Nat → Nat → Nat
  | 0, c => c
  | k + 1, c => crc64Bits k (crc64Bit c)

/-- The CRC-64 of the guard: initial value and final XOR all ones (R194). -/
def crc64 (bs : List Byte) : Nat :=
  Nat.xor (bs.foldl (fun c b => crc64Bits 8 (Nat.xor c b.toNat)) (2 ^ 64 - 1)) (2 ^ 64 - 1)

/-- The guard of a grain: its 4,096 plaintext bytes, then tag bytes 0 to 23 (R194). -/
def guard (grain tag : List Byte) : Nat := crc64 (grain ++ tag.take 24)

end Sys2Proof.Machine
end

