-- ==== Sys2Proof/Machine/Sha.lean ====
section
/-! DEFINITION. SHA-384, HMAC and HKDF, as FIPS 180-4, FIPS 198-1 and RFC 5869 define them: the
rules name them (R160, R496, R497, R505, R507, R510) and the definitions are the published ones
(PRESUMED, log entry 14). -/

namespace Sys2Proof.Machine

/-- The round constants of SHA-384, rounds 0 to 39. -/
def shaK0 : List W64 := [
  0x428A2F98D728AE22, 0x7137449123EF65CD, 0xB5C0FBCFEC4D3B2F, 0xE9B5DBA58189DBBC,
  0x3956C25BF348B538, 0x59F111F1B605D019, 0x923F82A4AF194F9B, 0xAB1C5ED5DA6D8118,
  0xD807AA98A3030242, 0x12835B0145706FBE, 0x243185BE4EE4B28C, 0x550C7DC3D5FFB4E2,
  0x72BE5D74F27B896F, 0x80DEB1FE3B1696B1, 0x9BDC06A725C71235, 0xC19BF174CF692694,
  0xE49B69C19EF14AD2, 0xEFBE4786384F25E3, 0x0FC19DC68B8CD5B5, 0x240CA1CC77AC9C65,
  0x2DE92C6F592B0275, 0x4A7484AA6EA6E483, 0x5CB0A9DCBD41FBD4, 0x76F988DA831153B5,
  0x983E5152EE66DFAB, 0xA831C66D2DB43210, 0xB00327C898FB213F, 0xBF597FC7BEEF0EE4,
  0xC6E00BF33DA88FC2, 0xD5A79147930AA725, 0x06CA6351E003826F, 0x142929670A0E6E70,
  0x27B70A8546D22FFC, 0x2E1B21385C26C926, 0x4D2C6DFC5AC42AED, 0x53380D139D95B3DF,
  0x650A73548BAF63DE, 0x766A0ABB3C77B2A8, 0x81C2C92E47EDAEE6, 0x92722C851482353B]

/-- Rounds 40 to 79. -/
def shaK1 : List W64 := [
  0xA2BFE8A14CF10364, 0xA81A664BBC423001, 0xC24B8B70D0F89791, 0xC76C51A30654BE30,
  0xD192E819D6EF5218, 0xD69906245565A910, 0xF40E35855771202A, 0x106AA07032BBD1B8,
  0x19A4C116B8D2D0C8, 0x1E376C085141AB53, 0x2748774CDF8EEB99, 0x34B0BCB5E19B48A8,
  0x391C0CB3C5C95A63, 0x4ED8AA4AE3418ACB, 0x5B9CCA4F7763E373, 0x682E6FF3D6B2B8A3,
  0x748F82EE5DEFB2FC, 0x78A5636F43172F60, 0x84C87814A1F0AB72, 0x8CC702081A6439EC,
  0x90BEFFFA23631E28, 0xA4506CEBDE82BDE9, 0xBEF9A3F7B2C67915, 0xC67178F2E372532B,
  0xCA273ECEEA26619C, 0xD186B8C721C0C207, 0xEADA7DD6CDE0EB1E, 0xF57D4F7FEE6ED178,
  0x06F067AA72176FBA, 0x0A637DC5A2C898A6, 0x113F9804BEF90DAE, 0x1B710B35131C471B,
  0x28DB77F523047D84, 0x32CAAB7B40C72493, 0x3C9EBE0A15C9BEBC, 0x431D67C49C100D4C,
  0x4CC5D4BECB3E42B6, 0x597F299CFC657E2A, 0x5FCB6FAB3AD6FAEC, 0x6C44198C4A475817]

/-- The initial hash value of SHA-384. -/
def shaH0 : List W64 := [
  0xCBBB9D5DC1059ED8, 0x629A292A367CD507, 0x9159015A3070DD17, 0x152FECD8F70E5939,
  0x67332667FFC00B31, 0x8EB44A8768581511, 0xDB0C2E0D64F98FA7, 0x47B5481DBEFA4FA4]

/-- A big-endian number of bytes. -/
def ofBytesBE (bs : List Byte) : Nat := ofBytes bs.reverse

/-- The `n` big-endian bytes of a number. -/
def toBytesBE (n v : Nat) : List Byte := (toBytes n v).reverse

/-- The message words of a block, oldest first, extended by `k` words. -/
def shaExtend : Nat → List W64 → List W64
  | 0, w => w
  | k + 1, w =>
    let n := w.length
    let g (i : Nat) : W64 := w.getD (n - i) 0
    let s0 := (g 15).rotateRight 1 ^^^ (g 15).rotateRight 8 ^^^ (g 15 >>> 7)
    let s1 := (g 2).rotateRight 19 ^^^ (g 2).rotateRight 61 ^^^ (g 2 >>> 6)
    shaExtend k (w ++ [g 16 + s0 + g 7 + s1])

/-- One round on the eight working words. -/
def shaRound (h : List W64) (kw : W64) : List W64 :=
  match h with
  | [a, b, c, d, e, f, g, x] =>
    let s1 := e.rotateRight 14 ^^^ e.rotateRight 18 ^^^ e.rotateRight 41
    let ch := (e &&& f) ^^^ (~~~e &&& g)
    let t1 := x + s1 + ch + kw
    let s0 := a.rotateRight 28 ^^^ a.rotateRight 34 ^^^ a.rotateRight 39
    let mj := (a &&& b) ^^^ (a &&& c) ^^^ (b &&& c)
    [t1 + (s0 + mj), a, b, c, d + t1, e, f, g]
  | _ => h

/-- Big-endian 64-bit words of a block of 128 bytes. -/
def shaWords : Nat → List Byte → List W64
  | 0, _ => []
  | k + 1, bs => w64 (ofBytesBE (bs.take 8)) :: shaWords k (bs.drop 8)

/-- One block into the hash value. -/
def shaBlock (h : List W64) (blk : List Byte) : List W64 :=
  let w := shaExtend 64 (shaWords 16 blk)
  let kw := List.zipWith (· + ·) (shaK0 ++ shaK1) w
  List.zipWith (· + ·) h (kw.foldl shaRound h)

/-- `n` blocks into the hash value. -/
def shaBlocks : Nat → List W64 → List Byte → List W64
  | 0, h, _ => h
  | n + 1, h, bs => shaBlocks n (shaBlock h (bs.take 128)) (bs.drop 128)

/-- SHA-384 of bytes: 48 bytes. -/
def sha384 (m : List Byte) : List Byte :=
  let z := (239 - m.length % 128) % 128
  let p := m ++ [0x80] ++ List.replicate z 0 ++ toBytesBE 16 (8 * m.length)
  ((shaBlocks (p.length / 128) shaH0 p).flatMap (fun w => toBytesBE 8 w.toNat)).take 48

/-- HMAC with SHA-384. -/
def hmac384 (key m : List Byte) : List Byte :=
  let k := if 128 < key.length then sha384 key else key
  let k := k ++ List.replicate (128 - k.length) 0
  sha384 (k.map (· ^^^ 0x5C) ++ sha384 (k.map (· ^^^ 0x36) ++ m))

/-- HKDF-Expand for at most 48 bytes. -/
def hkdfExpand (prk info : List Byte) (n : Nat) : List Byte := (hmac384 prk (info ++ [1])).take n

/-- HKDF with an empty salt, for at most 48 bytes. -/
def hkdf (secret info : List Byte) (n : Nat) : List Byte :=
  hkdfExpand (hmac384 (List.replicate 48 0) secret) info n

/-- The bytes of an ASCII label. -/
def ascii (s : String) : List Byte := s.toList.map (fun c => BitVec.ofNat 8 c.toNat)

end Sys2Proof.Machine
end

