-- ==== Sys2Proof/Machine/Aes.lean ====
section
/-! DEFINITION. AES-256 with the modes the cipher rules name: XTS (IEEE 1619), CMAC (NIST SP
800-38B) and key wrap (RFC 3394), as published (R135, R498, PRESUMED, log entry 14), and products in
GF(2^8). -/

namespace Sys2Proof.Machine

/-- Bitwise exclusive or of numbers. -/
def nxor (a b : Nat) : Nat := Nat.xor a b

/-- Product of 8-bit polynomials modulo `poly`, adding the top `k` bits of `b`. -/
def gfMulFrom (poly a b : Nat) : Nat → Nat
  | 0 => 0
  | k + 1 =>
    let r := gfMulFrom poly a (b / 2) k
    let r2 := if 128 ≤ r then nxor (2 * r) poly else 2 * r
    if b % 2 = 1 then nxor r2 a else r2

/-- Product in GF(2^8) with the polynomial `poly`. -/
def gfMul (poly a b : Nat) : Nat := gfMulFrom poly a b 8

/-- The AES field. -/
def aesMul (a b : Nat) : Nat := gfMul 0x11B a b

/-- The inverse in the AES field: the 254th power; 0 for 0. -/
def aesInv (a : Nat) : Nat :=
  let a2 := aesMul a a
  let a4 := aesMul a2 a2
  let a8 := aesMul a4 a4
  let a16 := aesMul a8 a8
  let a32 := aesMul a16 a16
  let a64 := aesMul a32 a32
  let a128 := aesMul a64 a64
  aesMul (aesMul (aesMul a2 a4) (aesMul a8 a16)) (aesMul (aesMul a32 a64) a128)

/-- A byte rotated left. -/
def rotl8 (b n : Nat) : Nat := (b * 2 ^ n + b / 2 ^ (8 - n)) % 256

/-- The AES substitution box. -/
def aesSub (b : Nat) : Nat :=
  let i := aesInv b
  nxor (nxor (nxor i (rotl8 i 1)) (nxor (rotl8 i 2) (rotl8 i 3))) (nxor (rotl8 i 4) 0x63)

/-- Its inverse. -/
def aesInvSub (b : Nat) : Nat :=
  aesInv (nxor (nxor (rotl8 b 1) (rotl8 b 3)) (nxor (rotl8 b 6) 0x05))

/-- The 256 values of the substitution box and of its inverse. -/
def aesBox : List Nat := (List.range 256).map aesSub
def aesInvBox : List Nat := (List.range 256).map aesInvSub

/-- Exclusive or of byte lists. -/
def xorL (a b : List Nat) : List Nat := List.zipWith nxor a b

/-- The round constants of the seven steps of the AES-256 schedule. -/
def aesRcon (i : Nat) : Nat := 2 ^ i

/-- The AES-256 key schedule: 4-byte words, newest first, extended by `k` words. -/
def aesExtend (box : List Nat) : Nat → List (List Nat) → List (List Nat)
  | 0, w => w
  | k + 1, w =>
    let n := w.length
    let p := w.headD []
    let sub (x : List Nat) : List Nat := x.map (fun b => box.getD b 0)
    let t :=
      if n % 8 = 0 then xorL (sub (p.drop 1 ++ p.take 1)) [aesRcon (n / 8 - 1), 0, 0, 0]
      else if n % 8 = 4 then sub p
      else p
    aesExtend box k (xorL (w.getD 7 []) t :: w)

/-- `n` consecutive pieces of `k` elements. -/
def pieces (k : Nat) : Nat → List Nat → List (List Nat)
  | 0, _ => []
  | n + 1, l => l.take k :: pieces k n (l.drop k)

/-- The 15 round keys of 16 bytes each. -/
def aesKeys (key : List Nat) : List (List Nat) :=
  pieces 16 15 ((aesExtend aesBox 52 (pieces 4 8 key).reverse).reverse.flatten)

/-- Rows rotated: byte r + 4c comes from column c + k × r. -/
def aesShift (k : Nat) (s : List Nat) : List Nat :=
  (List.range 16).map (fun i => s.getD (i % 4 + 4 * ((i / 4 + k * (i % 4)) % 4)) 0)

/-- Columns multiplied by the circulant matrix with first row `m`. -/
def aesMix (m : List Nat) (s : List Nat) : List Nat :=
  (List.range 16).map (fun i =>
    ((List.range 4).map (fun j => aesMul (m.getD ((4 + j - i % 4) % 4) 0) (s.getD (4 * (i / 4) + j) 0))).foldl nxor 0)

/-- AES encryption of a block of 16 bytes with expanded keys. -/
def aesEncK (ks : List (List Nat)) (blk : List Nat) : List Nat :=
  let rnd (s k : List Nat) : List Nat :=
    xorL (aesMix [2, 3, 1, 1] (aesShift 1 (s.map (fun b => aesBox.getD b 0)))) k
  let s := ((ks.drop 1).take 13).foldl rnd (xorL blk (ks.headD []))
  xorL (aesShift 1 (s.map (fun b => aesBox.getD b 0))) (ks.getD 14 [])

/-- AES decryption of a block. -/
def aesDecK (ks : List (List Nat)) (blk : List Nat) : List Nat :=
  let undo (s : List Nat) : List Nat := (aesShift 3 s).map (fun b => aesInvBox.getD b 0)
  let rnd (s k : List Nat) : List Nat := aesMix [14, 11, 13, 9] (xorL (undo s) k)
  let s := ((ks.drop 1).take 13).reverse.foldl rnd (xorL blk (ks.getD 14 []))
  xorL (undo s) (ks.headD [])

/-- Bytes as numbers and back. -/
def toNats (bs : List Byte) : List Nat := bs.map (·.toNat)
def ofNats (ns : List Nat) : List Byte := ns.map (BitVec.ofNat 8)

/-! ## XTS -/

/-- A tweak times α: little-endian, polynomial 0x87. -/
def xtsNext (t : Nat) : Nat :=
  if 2 ^ 127 ≤ t then nxor (2 * t % 2 ^ 128) 0x87 else 2 * t

/-- `n` blocks under the tweak `t`. -/
def xtsBlocks (dec : Bool) (ks : List (List Nat)) : Nat → Nat → List Nat → List Nat
  | 0, _, _ => []
  | n + 1, t, bs =>
    let tb := toNats (toBytes 16 t)
    let x := xorL (bs.take 16) tb
    xorL (if dec then aesDecK ks x else aesEncK ks x) tb ++ xtsBlocks dec ks n (xtsNext t) (bs.drop 16)

/-- AES-256-XTS of one data unit of whole blocks under a 64 B key and a 128-bit tweak. -/
def xtsUnit (dec : Bool) (key : List Byte) (tweak : Nat) (data : List Byte) : List Byte :=
  let k1 := aesKeys (toNats (key.take 32))
  let k2 := aesKeys (toNats (key.drop 32))
  let t := ofBytes (ofNats (aesEncK k2 (toNats (toBytes 16 tweak))))
  ofNats (xtsBlocks dec k1 (data.length / 16) t (toNats data))

/-! ## CMAC -/

/-- Doubling of a big-endian block. -/
def cmacDouble (l : List Byte) : List Byte :=
  let v := ofBytesBE l
  toBytesBE 16 (if 2 ^ 127 ≤ v then nxor (2 * v % 2 ^ 128) 0x87 else 2 * v)

/-- CBC over `n` blocks. -/
def cbcBlocks (ks : List (List Nat)) : Nat → List Nat → List Nat → List Nat
  | 0, x, _ => x
  | n + 1, x, bs => cbcBlocks ks n (aesEncK ks (xorL x (bs.take 16))) (bs.drop 16)

/-- AES-CMAC under a 32 B key: 16 bytes. -/
def cmac (key m : List Byte) : List Byte :=
  let ks := aesKeys (toNats key)
  let k1 := cmacDouble (ofNats (aesEncK ks (List.replicate 16 0)))
  let k2 := cmacDouble k1
  let n := (m.length + 15) / 16
  let full := 0 < n ∧ m.length % 16 = 0
  let n1 := if n = 0 then 0 else n - 1
  let last := m.drop (16 * n1)
  let lastB :=
    if full then xorL (toNats last) (toNats k1)
    else xorL (toNats (last ++ [0x80] ++ List.replicate (15 - last.length) 0)) (toNats k2)
  let x := cbcBlocks ks n1 (List.replicate 16 0) (toNats m)
  ofNats (aesEncK ks (xorL x lastB))

/-! ## Key wrap -/

/-- One step of wrapping: register `i` of `r`, with counter `t`. -/
def kwStep (ks : List (List Nat)) (st : List Nat × List (List Nat)) (i t : Nat) : List Nat × List (List Nat) :=
  let b := aesEncK ks (st.1 ++ st.2.getD i [])
  (xorL (b.take 8) (toNats (toBytesBE 8 t)), st.2.set i (b.drop 8))

/-- One step of unwrapping. -/
def kuStep (ks : List (List Nat)) (st : List Nat × List (List Nat)) (i t : Nat) : List Nat × List (List Nat) :=
  let b := aesDecK ks (xorL st.1 (toNats (toBytesBE 8 t)) ++ st.2.getD i [])
  (b.take 8, st.2.set i (b.drop 8))

/-- AES-KW of a key of whole semiblocks under a 32 B key. -/
def kwWrap (kek key : List Byte) : List Byte :=
  let ks := aesKeys (toNats kek)
  let n := key.length / 8
  let r := (List.range (6 * n)).foldl (fun st s => kwStep ks st (s % n) (s + 1))
    (List.replicate 8 0xA6, pieces 8 n (toNats key))
  ofNats (r.1 ++ r.2.flatten)

/-- AES-KW unwrap: the key, or none when the integrity check fails. -/
def kwUnwrap (kek w : List Byte) : Option (List Byte) :=
  let ks := aesKeys (toNats kek)
  let n := w.length / 8 - 1
  let r := (List.range (6 * n)).reverse.foldl (fun st s => kuStep ks st (s % n) (s + 1))
    (toNats (w.take 8), pieces 8 n (toNats (w.drop 8)))
  if r.1 = List.replicate 8 0xA6 then some (ofNats r.2.flatten) else none

end Sys2Proof.Machine
end

