-- ==== Sys2Proof/Config.lean ====
section
/-! DEFINITION. What the spec leaves open, as constants with no body: nothing can be proved
of their values, so a statement about them holds whatever the hardware does. -/

namespace Sys2Proof

/-- The stream of free values: each use takes the word at the state's counter and advances it
(DESIGN CHOICE, log entry 1). -/
opaque Config.freeWord : Nat → W64

/-- Severity of a hardware or boot almanac record, by code: R537 gives the field and no value
for any code (DESIGN CHOICE, log entry 2). -/
opaque Config.almSeverity : Nat → BitVec 3

/-- Byte `i` of the 480 parity bytes of a frame's scrambled bytes: R326 gives the rate of the code and not its matrix
(DESIGN CHOICE, log entry 130). -/
opaque Config.ldpcParity : List Byte → Nat → Byte

/-- Row address byte `i` of a page, by its location word: the layout is the die family's (R291, R296, DESIGN CHOICE,
log entry 23). -/
opaque Config.rowByte : W64 → Nat → Byte

/-- The fused 256-bit device secret (R497, DESIGN CHOICE, log entry 17). -/
opaque Config.deviceSecret : BitVec 256

/-- The device's certificate chain of slot 0, 128 bytes: no rule gives its contents (R504, DESIGN CHOICE, log entry 69). -/
opaque Config.certChain : BitVec 1024

/-- The loader's code in words 3,072 to 4,095 of core 0: no rule gives it (R147, DESIGN CHOICE, log entry 70). -/
opaque Config.loaderWord : Nat → W64

/-- ENTRY of the loader's slots 62 and 63, and the words of its checker regions 14 and 15 (R147, DESIGN CHOICE, log entry 70). -/
opaque Config.loaderEntry : Nat → BitVec 10
opaque Config.loaderRegion : Nat → W64

end Sys2Proof
end

