-- ==== Sys2Proof/Machine/RegTable.lean ====
section
/-! DEFINITION. The station register blocks (R16): every register of every block, with its
offset, its array structure, its writable masks and its reset value, as the register tables of
the chapters give them. -/

namespace Sys2Proof.Machine

/-- One register, or an array of registers, of a block.  An array has `n1` members `s1` apart,
and each of these `n2` members `s2` apart.  Masks give the bits that a write replaces (`rw`),
clears where it writes 1 (`w1c`) and sets where it writes 1 (`w1s`); a bit that is in no mask is
read-only, write-only or reserved. -/
structure RegDef where
  base : Nat
  n1 : Nat
  s1 : Nat
  n2 : Nat
  s2 : Nat
  rw : Nat
  w1c : Nat
  w1s : Nat
  reset : Nat
  deriving DecidableEq, Repr

/-- Block TIME (02_sidereal_tick.md). -/
def timeRegs : List RegDef := [
  -- TIME_PERIOD: [1:0] SEL rw; [8] LOCK w1s
  ⟨0x0, 1, 0x8, 1, 0x8, 0x3, 0x0, 0x100, 0x1⟩,
  -- TIME_COUNT: [63:0] COUNT ro
  ⟨0x8, 1, 0x8, 1, 0x8, 0x0, 0x0, 0x0, 0x0⟩,
  -- TIME_CYCLE: [12:0] CYCLE ro
  ⟨0x10, 1, 0x8, 1, 0x8, 0x0, 0x0, 0x0, 0x0⟩,
  -- TIME_STATUS: [0] PLLOK ro; [1] SLIP w1c
  ⟨0x18, 1, 0x8, 1, 0x8, 0x0, 0x2, 0x0, 0x0⟩]

/-- Block SCHED (02_sidereal_tick.md, 03_transit_instruction_set.md, 05_images_loader_handover.md). -/
def schedRegs : List RegDef := [
  -- SCHED_EPH_SEL: [5:0] SLOT rw; [6] BANK rw; [13:8] CORE rw
  ⟨0x0, 1, 0x8, 1, 0x8, 0x3F7F, 0x0, 0x0, 0x0⟩,
  -- SCHED_EPH_DATA: [63:0] WORD rw
  ⟨0x8, 1, 0x8, 1, 0x8, 0xFFFFFFFFFFFFFFFF, 0x0, 0x0, 0x0⟩,
  -- SCHED_AGELIM: [10:0] LIMIT rw
  ⟨0x10, 1, 0x8, 1, 0x8, 0x7FF, 0x0, 0x0, 0x40⟩,
  -- SCHED_CTL: [0] RUN rw; [1] SWAP w1s; [2] ACTBANK ro; [4:3] STATE ro; [5] RESUME w1s
  ⟨0x1000, 64, 0x40, 1, 0x40, 0x1, 0x0, 0x22, 0x0⟩,
  -- SCHED_RING: [12:0] HOSTCAP rw; [28:16] FILL ro; [44:32] HOSTFILL ro
  ⟨0x1008, 64, 0x40, 1, 0x40, 0x1FFF, 0x0, 0x0, 0x800⟩,
  -- SCHED_FAULT: [11:0] ENTRY rw
  ⟨0x1010, 64, 0x40, 1, 0x40, 0xFFF, 0x0, 0x0, 0x0⟩,
  -- SCHED_STAT: [12:0] PEAK ro; [31:16] DEFER ro; [39:32] OVR ro; [47:40] BEX ro; [53:48] LASTSLOT ro; [54] START ro; [63] CLR wo
  ⟨0x1018, 64, 0x40, 1, 0x40, 0x0, 0x0, 0x0, 0x0⟩,
  -- SCHED_CHK_BASE: [55:6] BASE rw
  ⟨0x4000, 64, 0x100, 16, 0x10, 0xFFFFFFFFFFFFC0, 0x0, 0x0, 0x0⟩,
  -- SCHED_CHK_LIMIT: [0] EN rw; [1] RD rw; [2] WR rw; [3] AT rw; [55:6] LAST rw
  ⟨0x4008, 64, 0x100, 16, 0x10, 0xFFFFFFFFFFFFCF, 0x0, 0x0, 0x0⟩,
  -- SCHED_HOVMASK: [63:0] MASK wo
  ⟨0x18, 1, 0x8, 1, 0x8, 0x0, 0x0, 0x0, 0x0⟩,
  -- SCHED_NCHK_BASE: [63:0] — rw
  ⟨0x8000, 64, 0x100, 16, 0x10, 0xFFFFFFFFFFFFFFFF, 0x0, 0x0, 0x0⟩,
  -- SCHED_NCHK_LIMIT: [63:0] — rw
  ⟨0x8008, 64, 0x100, 16, 0x10, 0xFFFFFFFFFFFFFFFF, 0x0, 0x0, 0x0⟩,
  -- SCHED_NFAULT: [11:0] ENTRY rw
  ⟨0xC000, 64, 0x8, 1, 0x8, 0xFFF, 0x0, 0x0, 0x0⟩,
  -- SCHED_NSTART: [11:0] ENTRY rw; [12] EN rw; [28:16] BOUND rw; [31:29] LEVEL rw; [63:32] ARG rw
  ⟨0xC800, 64, 0x8, 1, 0x8, 0xFFFFFFFFFFFF1FFF, 0x0, 0x0, 0x0⟩]

/-- Block QENG (04_storage_primitives.md). -/
def qengRegs : List RegDef := [
  -- QENG_RSEL: [11:0] RING rw
  ⟨0x100, 1, 0x8, 1, 0x8, 0xFFF, 0x0, 0x0, 0x0⟩,
  -- QENG_RCFG: [16:0] CAP rw; [40:24] BASE rw
  ⟨0x108, 1, 0x8, 1, 0x8, 0x1FFFF01FFFF, 0x0, 0x0, 0x0⟩,
  -- QENG_RFILL: [16:0] FILL ro
  ⟨0x110, 1, 0x8, 1, 0x8, 0x0, 0x0, 0x0, 0x0⟩]

/-- Block HAZ (04_storage_primitives.md, 06_grains_and_tags.md). -/
def hazRegs : List RegDef := [
  -- HAZ_SEL: [15:0] INDEX rw
  ⟨0x0, 1, 0x8, 1, 0x8, 0xFFFF, 0x0, 0x0, 0x0⟩,
  -- HAZ_KEY: [63:0] KEY ro
  ⟨0x8, 1, 0x8, 1, 0x8, 0x0, 0x0, 0x0, 0x0⟩,
  -- HAZ_SPAN: [16:0] COUNT ro; [17] CONF ro; [18] USED ro; [63:32] FSN ro
  ⟨0x10, 1, 0x8, 1, 0x8, 0x0, 0x0, 0x0, 0x0⟩,
  -- HAZ_BUF: [63:0] HANDLE ro
  ⟨0x18, 1, 0x8, 1, 0x8, 0x0, 0x0, 0x0, 0x0⟩,
  -- HAZ_FILL: [16:0] FILL ro
  ⟨0x20, 1, 0x8, 1, 0x8, 0x0, 0x0, 0x0, 0x0⟩,
  -- HAZ_WSN: [55:0] NEXT ro
  ⟨0x100, 1, 0x8, 1, 0x8, 0x0, 0x0, 0x0, 0x0⟩,
  -- HAZ_WSNRES: [55:0] BOUND ro
  ⟨0x108, 1, 0x8, 1, 0x8, 0x0, 0x0, 0x0, 0x0⟩,
  -- HAZ_WSNFLOOR: [55:0] FLOOR wo
  ⟨0x110, 1, 0x8, 1, 0x8, 0x0, 0x0, 0x0, 0x0⟩,
  -- HAZ_MARKSEL: [55:0] NUMBER rw
  ⟨0x118, 1, 0x8, 1, 0x8, 0xFFFFFFFFFFFFFF, 0x0, 0x0, 0x0⟩,
  -- HAZ_MARK: [0] LIVE ro; [1] P ro; [4:2] REM ro; [5] INWIN ro
  ⟨0x120, 1, 0x8, 1, 0x8, 0x0, 0x0, 0x0, 0x0⟩,
  -- HAZ_LAPSE: [31:0] COUNT ro; [63] CLR wo
  ⟨0x128, 1, 0x8, 1, 0x8, 0x0, 0x0, 0x0, 0x0⟩]

/-- Block TUN (13_memories.md). -/
def tunRegs : List RegDef := [
  -- TUN_CTL: [0] LOCK w1s
  ⟨0x0, 1, 0x8, 1, 0x8, 0x0, 0x0, 0x1, 0x0⟩,
  -- TUN_XBASE: [38:30] ADDR rw
  ⟨0x8, 1, 0x8, 1, 0x8, 0x7FC0000000, 0x0, 0x0, 0x0⟩,
  -- TUN_POOLp: [16:0] ONCNT rw; [47:20] XCNT rw
  ⟨0x100, 5, 0x8, 1, 0x8, 0xFFFFFFF1FFFF, 0x0, 0x0, 0x0⟩,
  -- TUN_FREEp: [16:0] ONFREE ro; [47:20] XFREE ro
  ⟨0x200, 5, 0x8, 1, 0x8, 0x0, 0x0, 0x0, 0x0⟩,
  -- TUN_MSEL: [5:0] CLASS rw; [10:8] POOL rw
  ⟨0x300, 1, 0x8, 1, 0x8, 0x73F, 0x0, 0x0, 0x0⟩,
  -- TUN_MIN: [16:0] ONMIN rw; [47:20] XMIN rw
  ⟨0x308, 1, 0x8, 1, 0x8, 0xFFFFFFF1FFFF, 0x0, 0x0, 0x0⟩,
  -- TUN_HELD: [16:0] ONHELD ro; [47:20] XHELD ro
  ⟨0x310, 1, 0x8, 1, 0x8, 0x0, 0x0, 0x0, 0x0⟩]

/-- Block MAPW (04_storage_primitives.md). -/
def mapwRegs : List RegDef := [
  -- MAPW_CTL: [0] EN rw
  ⟨0x0, 1, 0x8, 1, 0x8, 0x1, 0x0, 0x0, 0x0⟩,
  -- MAPW_STAT: [12:0] NSCNT ro; [47:32] QUEUED ro
  ⟨0x8, 1, 0x8, 1, 0x8, 0x0, 0x0, 0x0, 0x0⟩,
  -- MAPW_NSSEL: [12:0] NSID rw
  ⟨0x100, 1, 0x8, 1, 0x8, 0x1FFF, 0x0, 0x0, 0x0⟩,
  -- MAPW_NSCFG: [2:0] KIND rw; [3] LBA16 rw
  ⟨0x108, 1, 0x8, 1, 0x8, 0xF, 0x0, 0x0, 0x0⟩,
  -- MAPW_NSBASE: [38:6] ADDR rw
  ⟨0x110, 1, 0x8, 1, 0x8, 0x7FFFFFFFC0, 0x0, 0x0, 0x0⟩,
  -- MAPW_NSCAP: [47:0] GRAINS rw
  ⟨0x118, 1, 0x8, 1, 0x8, 0xFFFFFFFFFFFF, 0x0, 0x0, 0x0⟩,
  -- MAPW_NSZONE: [18:0] FIRST rw; [39:20] COUNT rw; [44:40] ZSHIFT rw
  ⟨0x120, 1, 0x8, 1, 0x8, 0x1FFFFFF7FFFF, 0x0, 0x0, 0x0⟩,
  -- MAPW_NSMETA: [38:6] ADDR rw
  ⟨0x128, 1, 0x8, 1, 0x8, 0x7FFFFFFFC0, 0x0, 0x0, 0x0⟩,
  -- MAPW_NSMCNT: [47:0] GRAINS rw
  ⟨0x130, 1, 0x8, 1, 0x8, 0xFFFFFFFFFFFF, 0x0, 0x0, 0x0⟩]

/-- Block MEDIA (09_flash_channels_and_microcode.md, 10_media_care.md). -/
def mediaRegs : List RegDef := [
  -- MEDIA_ROMID: [15:0] DIRROM ro; [31:16] SEQROM ro
  ⟨0x0, 1, 0x8, 1, 0x8, 0x0, 0x0, 0x0, 0x0⟩,
  -- MEDIA_LRST: [31:0] LRST ro
  ⟨0x8, 1, 0x8, 1, 0x8, 0x0, 0x0, 0x0, 0x0⟩,
  -- MEDIA_HELD: [31:0] HELD ro
  ⟨0x10, 1, 0x8, 1, 0x8, 0x0, 0x0, 0x0, 0x0⟩,
  -- MEDIA_RLSET: [7:0] FADDR rw; [39:8] PARAM rw; [40] VALID rw
  ⟨0x800, 256, 0x8, 1, 0x8, 0x1FFFFFFFFFF, 0x0, 0x0, 0x0⟩]

/-- Block LDPC (10_media_care.md). -/
def ldpcRegs : List RegDef := [
  -- LDPC_BANK: [3:0] ON ro
  ⟨0x0, 1, 0x8, 1, 0x8, 0x0, 0x0, 0x0, 0x0⟩,
  -- LDPC_CTL: [0] CLR wo
  ⟨0x8, 1, 0x8, 1, 0x8, 0x0, 0x0, 0x0, 0x0⟩,
  -- LDPC_HDECb: [47:0] COUNT ro
  ⟨0x100, 4, 0x20, 1, 0x20, 0x0, 0x0, 0x0, 0x0⟩,
  -- LDPC_SDECb: [47:0] COUNT ro
  ⟨0x108, 4, 0x20, 1, 0x20, 0x0, 0x0, 0x0, 0x0⟩,
  -- LDPC_FAILb: [31:0] HARD ro; [63:32] SOFT ro
  ⟨0x110, 4, 0x20, 1, 0x20, 0x0, 0x0, 0x0, 0x0⟩,
  -- LDPC_MAXb: [15:0] BITS ro
  ⟨0x118, 4, 0x20, 1, 0x20, 0x0, 0x0, 0x0, 0x0⟩]

/-- Block DRAM (13_memories.md). -/
def dramRegs : List RegDef := [
  -- DRAM_TSEL: [1:0] CH rw; [2] SUB rw; [4:3] RANK rw; [10:5] LANE rw; [11] CA rw
  ⟨0x100, 1, 0x8, 1, 0x8, 0xFFF, 0x0, 0x0, 0x0⟩,
  -- DRAM_TDLY: [7:0] RDLY rw; [15:8] WDLY rw; [21:16] VREF rw
  ⟨0x108, 1, 0x8, 1, 0x8, 0x3FFFFF, 0x0, 0x0, 0x0⟩,
  -- DRAM_TPAT: [1:0] KIND rw; [63:2] SEED rw
  ⟨0x110, 1, 0x8, 1, 0x8, 0xFFFFFFFFFFFFFFFF, 0x0, 0x0, 0x0⟩,
  -- DRAM_TRUN: [0] GO w1s; [2:1] OP rw; [23:8] BURSTS rw
  ⟨0x118, 1, 0x8, 1, 0x8, 0xFFFF06, 0x0, 0x1, 0x0⟩,
  -- DRAM_TRES: [39:0] FAIL ro; [63:40] COUNT ro
  ⟨0x120, 1, 0x8, 1, 0x8, 0x0, 0x0, 0x0, 0x0⟩,
  -- DRAM_SIZE: [39:0] BYTES ro; [40] RESERVE ro; [42:41] ILV ro; [46:43] CHSET ro
  ⟨0x0, 1, 0x8, 1, 0x8, 0x0, 0x0, 0x0, 0x0⟩,
  -- DRAM_ECC: [31:0] CORR ro; [47:32] UNCORR ro; [63] CLR wo
  ⟨0x8, 1, 0x8, 1, 0x8, 0x0, 0x0, 0x0, 0x0⟩,
  -- DRAM_FCHG: [0] GO w1s; [1] TO rw; [2] ACT ro; [3] DONE w1c; [4] REF w1c; [5] BOK ro; [9:6] BCH ro
  ⟨0x10, 1, 0x8, 1, 0x8, 0x2, 0x18, 0x1, 0x0⟩,
  -- DRAM_RAS: [0] NODEST ro; [1] MIG ro; [3:2] MCH ro; [5:4] MRANK ro; [47:16] MLINES ro
  ⟨0x18, 1, 0x8, 1, 0x8, 0x0, 0x0, 0x0, 0x0⟩,
  -- DRAM_PORT0: [15:0] TARGET rw; [31:16] SAMPLES ro; [47:32] MEAN ro
  ⟨0x200, 1, 0x8, 1, 0x8, 0xFFFF, 0x0, 0x0, 0x12C⟩,
  -- DRAM_PORT1: [15:0] TARGET rw; [31:16] SAMPLES ro; [47:32] MEAN ro
  ⟨0x208, 1, 0x8, 1, 0x8, 0xFFFF, 0x0, 0x0, 0x190⟩,
  -- DRAM_PORT2: [15:0] TARGET rw; [31:16] SAMPLES ro; [47:32] MEAN ro
  ⟨0x210, 1, 0x8, 1, 0x8, 0xFFFF, 0x0, 0x0, 0x3E8⟩,
  -- DRAM_PORT3: [15:0] TARGET rw; [31:16] SAMPLES ro; [47:32] MEAN ro
  ⟨0x218, 1, 0x8, 1, 0x8, 0xFFFF, 0x0, 0x0, 0x7D0⟩,
  -- DRAM_PORT4: [15:0] TARGET rw; [31:16] SAMPLES ro; [47:32] MEAN ro
  ⟨0x220, 1, 0x8, 1, 0x8, 0xFFFF, 0x0, 0x0, 0x320⟩,
  -- DRAM_PORT5: [15:0] TARGET rw; [31:16] SAMPLES ro; [47:32] MEAN ro
  ⟨0x228, 1, 0x8, 1, 0x8, 0xFFFF, 0x0, 0x0, 0x320⟩,
  -- DRAM_PORT6: [15:0] TARGET rw; [31:16] SAMPLES ro; [47:32] MEAN ro
  ⟨0x230, 1, 0x8, 1, 0x8, 0xFFFF, 0x0, 0x0, 0x3E8⟩,
  -- DRAM_PORT7: [15:0] TARGET rw; [31:16] SAMPLES ro; [47:32] MEAN ro
  ⟨0x238, 1, 0x8, 1, 0x8, 0xFFFF, 0x0, 0x0, 0x1388⟩,
  -- DRAM_RMAPc: [15:0] MAP rw
  ⟨0x300, 4, 0x8, 1, 0x8, 0xFFFF, 0x0, 0x0, 0x0⟩]

/-- Block INGOT (13_memories.md). -/
def ingotRegs : List RegDef := [
  -- INGOT_STAT: [0] RDY ro; [1] SAFE ro; [2] PWRF ro
  ⟨0x0, 1, 0x8, 1, 0x8, 0x0, 0x0, 0x0, 0x0⟩,
  -- INGOT_ECC: [31:0] CORR ro; [47:32] POISON ro
  ⟨0x8, 1, 0x8, 1, 0x8, 0x0, 0x0, 0x0, 0x0⟩,
  -- INGOT_LHEAD: [26:0] OFFSET ro
  ⟨0x10, 1, 0x8, 1, 0x8, 0x0, 0x0, 0x0, 0x0⟩,
  -- INGOT_LTAIL: [26:0] OFFSET rw
  ⟨0x18, 1, 0x8, 1, 0x8, 0x7FFFFFF, 0x0, 0x0, 0x0⟩]

/-- Block VAULT (14_tenants_keys_trust.md). -/
def vaultRegs : List RegDef := [
  -- VAULT_STAT: [0] RESTORED ro; [1] DBGLOCK ro; [2] TRNGF ro; [29:16] USED ro
  ⟨0x0, 1, 0x8, 1, 0x8, 0x0, 0x0, 0x0, 0x0⟩,
  -- VAULT_SSEL: [12:0] SLOT rw
  ⟨0x8, 1, 0x8, 1, 0x8, 0x1FFF, 0x0, 0x0, 0x0⟩,
  -- VAULT_SSTAT: [0] LOADED ro; [2:1] KIND ro; [3] ORIGIN ro; [31:16] BOUND ro
  ⟨0x10, 1, 0x8, 1, 0x8, 0x0, 0x0, 0x0, 0x0⟩]

/-- Block SPAN (11_span_and_members.md). -/
def spanRegs : List RegDef := [
  -- SPAN_CTL: [0] ARRIVE rw; [1] HZEN rw
  ⟨0x0, 1, 0x8, 1, 0x8, 0x3, 0x0, 0x0, 0x0⟩,
  -- SPAN_TMO: [19:0] TICKS rw
  ⟨0x8, 1, 0x8, 1, 0x8, 0xFFFFF, 0x0, 0x0, 0x186A0⟩,
  -- SPAN_HZPER: [8:0] PERIOD rw
  ⟨0x10, 1, 0x8, 1, 0x8, 0x1FF, 0x0, 0x0, 0x20⟩,
  -- SPAN_GEN: [31:0] GEN ro
  ⟨0x18, 1, 0x8, 1, 0x8, 0x0, 0x0, 0x0, 0x0⟩,
  -- SPAN_ENC: [63:0] ENCL ro
  ⟨0x20, 1, 0x8, 1, 0x8, 0x0, 0x0, 0x0, 0x0⟩,
  -- SPAN_DUPBASE: [38:6] ADDR rw
  ⟨0x28, 1, 0x8, 1, 0x8, 0x7FFFFFFFC0, 0x0, 0x0, 0x0⟩,
  -- SPAN_RLOG: [3:0] SIZE rw; [38:21] ADDR rw
  ⟨0x30, 1, 0x8, 1, 0x8, 0x7FFFE0000F, 0x0, 0x0, 0x0⟩,
  -- SPAN_HZBASE: [38:13] ADDR rw
  ⟨0x38, 1, 0x8, 1, 0x8, 0x7FFFFFE000, 0x0, 0x0, 0x0⟩,
  -- SPAN_LINKp: [2:0] STATE ro; [4:3] WIDTH ro; [6:5] SPEED ro; [7] LEAD ro; [15:8] FAR ro; [16] FARMGR ro; [47:32] REPLAY ro; [62:48] DROP ro; [63] CLR wo
  ⟨0x100, 4, 0x40, 1, 0x40, 0x0, 0x0, 0x0, 0xFF00⟩,
  -- SPAN_FARp: [63:0] SERIAL ro
  ⟨0x108, 4, 0x40, 1, 0x40, 0x0, 0x0, 0x0, 0x0⟩,
  -- SPAN_ERRp: [31:0] CRC ro; [63:32] FEC ro
  ⟨0x110, 4, 0x40, 1, 0x40, 0x0, 0x0, 0x0, 0x0⟩,
  -- SPAN_ROUTEm: [1:0] PRI ro; [2] PRIV ro; [4:3] ALT ro; [5] ALTV ro; [6] LOST ro; [13:8] PHOPS ro; [21:16] AHOPS ro; [27:24] VMIN ro; [31:28] VMAJ ro
  ⟨0x1000, 256, 0x8, 1, 0x8, 0x0, 0x0, 0x0, 0x0⟩,
  -- SPAN_ARRt: [5:0] CORE rw; [7:6] SPREAD rw; [13:8] CLASS rw; [14] EN rw
  ⟨0x2000, 256, 0x8, 1, 0x8, 0x7FFF, 0x0, 0x0, 0x0⟩]

/-- Block DOME (15_power_heat_almanac.md). -/
def domeRegs : List RegDef := [
  -- DOME_STATEd: [1:0] STATE ro; [2] BUSY ro
  ⟨0x0, 29, 0x8, 1, 0x8, 0x0, 0x0, 0x0, 0x0⟩,
  -- DOME_SHAREd: [63:0] MASK rw
  ⟨0x200, 29, 0x8, 1, 0x8, 0xFFFFFFFFFFFFFFFF, 0x0, 0x0, 0x0⟩,
  -- DOME_WAKEd: [31:0] SRC rw
  ⟨0x400, 29, 0x8, 1, 0x8, 0xFFFFFFFF, 0x0, 0x0, 0x0⟩,
  -- DOME_CLIENTc: [5:0] CORE rw; [11:6] CLASS rw; [12] EN rw
  ⟨0x600, 64, 0x8, 1, 0x8, 0x1FFF, 0x0, 0x0, 0x0⟩,
  -- DOME_WSENS: [15:0] EDGE rw; [31:16] HIGH rw
  ⟨0x800, 1, 0x8, 1, 0x8, 0xFFFFFFFF, 0x0, 0x0, 0x0⟩,
  -- DOME_WLATCH: [31:0] SRC w1c
  ⟨0x808, 1, 0x8, 1, 0x8, 0x0, 0xFFFFFFFF, 0x0, 0x0⟩,
  -- DOME_WTIME: [63:0] TICK rw
  ⟨0x810, 1, 0x8, 1, 0x8, 0xFFFFFFFFFFFFFFFF, 0x0, 0x0, 0xFFFFFFFFFFFFFFFF⟩,
  -- DOME_VOTE: [5:0] DOME ro; [11:6] CLIENT ro; [27:12] REQ ro; [28] ACTIVE ro
  ⟨0x818, 1, 0x8, 1, 0x8, 0x0, 0x0, 0x0, 0x0⟩,
  -- DOME_PEV: [5:0] CORE rw; [11:6] CLASS rw; [12] ARM rw
  ⟨0x820, 1, 0x8, 1, 0x8, 0x1FFF, 0x0, 0x0, 0x0⟩]

/-- Block THERM (15_power_heat_almanac.md). -/
def thermRegs : List RegDef := [
  -- THERM_CFG: [5:0] CORE rw; [11:6] CLASS rw; [12] FORCE rw
  ⟨0x0, 1, 0x8, 1, 0x8, 0x1FFF, 0x0, 0x0, 0x0⟩,
  -- THERM_THR: [15:0] WARN rw; [31:16] GSTART rw; [47:32] TRIP rw
  ⟨0x8, 1, 0x8, 1, 0x8, 0xFFFFFFFFFFFF, 0x0, 0x0, 0x9E007D00870⟩,
  -- THERM_GAP: [3:0] GPROG rw; [7:4] GHW ro; [11:8] G ro
  ⟨0x10, 1, 0x8, 1, 0x8, 0xF, 0x0, 0x0, 0x0⟩,
  -- THERM_STAT: [15:0] DIEMAX ro; [31:16] PKGMAX ro; [32] TRIPPED w1c; [37:33] SFAIL ro
  ⟨0x18, 1, 0x8, 1, 0x8, 0x0, 0x100000000, 0x0, 0x0⟩,
  -- THERM_Ss: [15:0] TEMP ro; [63:32] TICK ro
  ⟨0x100, 24, 0x8, 1, 0x8, 0x0, 0x0, 0x0, 0x0⟩,
  -- THERM_PKGi: [15:0] TEMP rw; [16] FIT rw; [63:32] TICK ro
  ⟨0x200, 256, 0x8, 1, 0x8, 0x1FFFF, 0x0, 0x0, 0x0⟩]

/-- Block ALM (15_power_heat_almanac.md). -/
def almRegs : List RegDef := [
  -- ALM_STAT: [20:0] HELD ro; [21] FULL ro; [22] RDY ro; [27:23] PEND ro
  ⟨0x0, 1, 0x8, 1, 0x8, 0x0, 0x0, 0x0, 0x0⟩,
  -- ALM_OLDEST: [31:0] ORD ro
  ⟨0x8, 1, 0x8, 1, 0x8, 0x0, 0x0, 0x0, 0x0⟩,
  -- ALM_NEXT: [31:0] ORD ro
  ⟨0x10, 1, 0x8, 1, 0x8, 0x0, 0x0, 0x0, 0x0⟩,
  -- ALM_RMARK: [31:0] ORD ro
  ⟨0x18, 1, 0x8, 1, 0x8, 0x0, 0x0, 0x0, 0x0⟩,
  -- ALM_LOST: [31:0] COUNT ro
  ⟨0x20, 1, 0x8, 1, 0x8, 0x0, 0x0, 0x0, 0x0⟩,
  -- ALM_PCYC: [31:0] COUNT ro
  ⟨0x28, 1, 0x8, 1, 0x8, 0x0, 0x0, 0x0, 0x0⟩,
  -- ALM_OPTIME: [47:0] TIME ro
  ⟨0x30, 1, 0x8, 1, 0x8, 0x0, 0x0, 0x0, 0x0⟩]

/-- Block PAT (16_pattern_store.md). -/
def patRegs : List RegDef := [
  -- PAT_CMD: [1:0] OP rw; [2] GO w1s
  ⟨0x0, 1, 0x8, 1, 0x8, 0x3, 0x0, 0x4, 0x0⟩,
  -- PAT_ADDR: [26:0] ADDR rw
  ⟨0x8, 1, 0x8, 1, 0x8, 0x7FFFFFF, 0x0, 0x0, 0x0⟩,
  -- PAT_STAT: [0] BUSY ro; [1] FAIL w1c; [2] RSW ro; [3] REJ w1c; [13:8] PULSES ro
  ⟨0x10, 1, 0x8, 1, 0x8, 0x0, 0xA, 0x0, 0x0⟩,
  -- PAT_RADDR: [26:3] ADDR rw
  ⟨0x18, 1, 0x8, 1, 0x8, 0x7FFFFF8, 0x0, 0x0, 0x0⟩,
  -- PAT_RDATA: [63:0] DATA ro
  ⟨0x20, 1, 0x8, 1, 0x8, 0x0, 0x0, 0x0, 0x0⟩,
  -- PAT_MARGIN: [1:0] MODE rw
  ⟨0x28, 1, 0x8, 1, 0x8, 0x3, 0x0, 0x0, 0x0⟩,
  -- PAT_XSRC: [26:6] ADDR rw
  ⟨0x30, 1, 0x8, 1, 0x8, 0x7FFFFC0, 0x0, 0x0, 0x0⟩,
  -- PAT_XDST: [38:6] ADDR rw
  ⟨0x38, 1, 0x8, 1, 0x8, 0x7FFFFFFFC0, 0x0, 0x0, 0x0⟩,
  -- PAT_XCTL: [19:0] LEN rw; [20] GO w1s; [21] DONE w1c; [22] STATUS ro
  ⟨0x40, 1, 0x8, 1, 0x8, 0xFFFFF, 0x200000, 0x100000, 0x0⟩,
  -- PAT_PBUFw: [63:0] WORD rw
  ⟨0x200, 64, 0x8, 1, 0x8, 0xFFFFFFFFFFFFFFFF, 0x0, 0x0, 0xFFFFFFFFFFFFFFFF⟩]

/-- Block RAS (13_memories.md). -/
def rasRegs : List RegDef := [
  -- RAS_RTCFG: [7:0] THRESH rw; [13:8] CORE rw; [19:14] CLASS rw
  ⟨0x0, 1, 0x8, 1, 0x8, 0xFFFFF, 0x0, 0x0, 0x8⟩,
  -- RAS_UNTRK: [31:0] COUNT ro; [63:32] TOTAL ro
  ⟨0x8, 1, 0x8, 1, 0x8, 0x0, 0x0, 0x0, 0x0⟩,
  -- RAS_RTe: [7:0] ARRAY ro; [31:8] WORD ro; [47:32] COUNT ro; [48] RAISED ro; [49] VALID ro
  ⟨0x100, 64, 0x8, 1, 0x8, 0x0, 0x0, 0x0, 0x0⟩,
  -- RAS_SCRB: [7:0] ARRAY rw; [31:8] FIRST rw; [55:32] LAST rw; [56] GO w1s
  ⟨0x300, 1, 0x8, 1, 0x8, 0xFFFFFFFFFFFFFF, 0x0, 0x100000000000000, 0x0⟩,
  -- RAS_SCRS: [0] BUSY ro; [24:1] CORR ro; [40:25] STUCK ro
  ⟨0x308, 1, 0x8, 1, 0x8, 0x0, 0x0, 0x0, 0x0⟩,
  -- RAS_FLIPSEL: [7:0] ARRAY rw; [31:8] WORD rw; [39:32] CMASK rw; [40] ARM rw
  ⟨0x310, 1, 0x8, 1, 0x8, 0x1FFFFFFFFFF, 0x0, 0x0, 0x0⟩,
  -- RAS_FLIPMASK: [63:0] MASK rw
  ⟨0x318, 1, 0x8, 1, 0x8, 0xFFFFFFFFFFFFFFFF, 0x0, 0x0, 0x0⟩,
  -- RAS_PLOGi: [32:0] LINE ro
  ⟨0x400, 4096, 0x8, 1, 0x8, 0x0, 0x0, 0x0, 0x0⟩]

/-- Block SEC (14_tenants_keys_trust.md, 17_bringup_and_electrical.md). -/
def secRegs : List RegDef := [
  -- SEC_BOOT: [0] BOOTMODE ro; [1] BLOCK ro; [2] DEBUG ro; [3] DEBUGNEXT ro; [4] UNOWNED ro
  ⟨0x0, 1, 0x8, 1, 0x8, 0x0, 0x0, 0x0, 0x11⟩,
  -- SEC_OWNk: [0] VALID ro; [1] IMG ro; [2] SEAL ro; [3] ADMIN ro
  ⟨0x140, 4, 0x40, 1, 0x40, 0x0, 0x0, 0x0, 0x0⟩,
  -- SEC_OWNHk: [63:0] HASH ro
  ⟨0x148, 4, 0x40, 6, 0x8, 0x0, 0x0, 0x0, 0x0⟩,
  -- SEC_SVNMINk: [31:0] MIN ro
  ⟨0x200, 5, 0x8, 1, 0x8, 0x0, 0x0, 0x0, 0x0⟩,
  -- SEC_MRi: [63:0] VALUE ro
  ⟨0x1000, 16, 0x40, 6, 0x8, 0x0, 0x0, 0x0, 0x0⟩,
  -- SEC_BMEXIT: [0] EXIT wo
  ⟨0x8, 1, 0x8, 1, 0x8, 0x0, 0x0, 0x0, 0x0⟩]

/-- Block HOST (07_host_port_and_queues.md). -/
def hostRegs : List RegDef := [
  -- HOST_CFG: [1:0] LANECFG ro; [3:2] PORTS ro
  ⟨0x0, 1, 0x8, 1, 0x8, 0x0, 0x0, 0x0, 0x0⟩,
  -- HOST_LINKn: [3:0] SPEED ro; [8:4] WIDTH ro; [9] FLIT ro; [13:10] STATE ro; [47:32] ERRS ro; [63] CLR wo
  ⟨0x100, 4, 0x40, 1, 0x40, 0x0, 0x0, 0x0, 0x0⟩]

/-- Block SHARE (14_tenants_keys_trust.md). -/
def shareRegs : List RegDef := [
  -- SHARE_RCFG: [5:0] CORE rw; [11:6] CLASS rw
  ⟨0x0, 1, 0x8, 1, 0x8, 0xFFF, 0x0, 0x0, 0x0⟩,
  -- SHARE_RDONE: [14:0] TOKEN wo
  ⟨0x8, 1, 0x8, 1, 0x8, 0x0, 0x0, 0x0, 0x0⟩,
  -- SHARE_SRST: [11:0] SLICE rw; [12] GO w1s; [13] BUSY ro
  ⟨0x10, 1, 0x8, 1, 0x8, 0xFFF, 0x0, 0x1000, 0x0⟩,
  -- SHARE_FUNCf: [15:0] WEIGHT rw; [31:16] CAP rw
  ⟨0x1000, 2048, 0x8, 1, 0x8, 0xFFFFFFFF, 0x0, 0x0, 0x1⟩,
  -- SHARE_SLICEs: [19:0] PASID rw; [30:20] FUNC rw; [31] EN rw; [47:32] WEIGHT rw; [63:48] CAP rw
  ⟨0x8000, 4096, 0x8, 1, 0x8, 0xFFFFFFFFFFFFFFFF, 0x0, 0x0, 0x100000000⟩]

/-- Block PADS (15_power_heat_almanac.md, 17_bringup_and_electrical.md). -/
def padsRegs : List RegDef := [
  -- PADS_HOLD: [28:0] HOLD ro
  ⟨0x0, 1, 0x8, 1, 0x8, 0x0, 0x0, 0x0, 0x0⟩,
  -- PADS_GPIO: [15:0] OUT rw; [31:16] OE rw; [47:32] IN ro
  ⟨0x100, 1, 0x8, 1, 0x8, 0xFFFFFFFF, 0x0, 0x0, 0x0⟩]

/-- Block ID (00_scope.md, 11_span_and_members.md, 17_bringup_and_electrical.md). -/
def idRegs : List RegDef := [
  -- ID_PRESENCE: [63:0] all ro
  ⟨0x10, 1, 0x8, 1, 0x8, 0x0, 0x0, 0x0, 0xF7FFFFFFFFFFF⟩,
  -- ID_ROLE: [1:0] STRAP ro; [3:2] ROLE ro; [4] SIDE ro; [5] CONF ro; [15:8] MEMBER ro
  ⟨0x18, 1, 0x8, 1, 0x8, 0x0, 0x0, 0x0, 0x0⟩,
  -- ID_SERIAL: [63:0] SERIAL ro
  ⟨0x20, 1, 0x8, 1, 0x8, 0x0, 0x0, 0x0, 0x0⟩,
  -- ID_BOOT: [3:0] STEP ro; [4] READY ro; [5] RECOV ro; [15:8] SUB ro; [31:16] REASON ro
  ⟨0x28, 1, 0x8, 1, 0x8, 0x0, 0x0, 0x0, 0x0⟩]

/-- Block MEDIA channel window (09_flash_channels_and_microcode.md, 10_media_care.md). -/
def chanRegs : List RegDef := [
  -- MEDIA_CCFG: [3:0] RATE ro; [7:4] RATECAP rw; [15:8] CEFIT ro; [18:16] LUNS ro; [20:19] PLANES ro; [21] HALF ro; [22] HELD ro
  ⟨0x0, 1, 0x8, 1, 0x8, 0xF0, 0x0, 0x0, 0x70⟩,
  -- MEDIA_CSTAT: [0] LRST ro; [4:1] CAUSE ro; [15:8] MCNT ro; [25:16] VERBS ro; [63] CLR wo
  ⟨0x8, 1, 0x8, 1, 0x8, 0x0, 0x0, 0x0, 0x0⟩,
  -- MEDIA_CDIE: [63:0] FIT ro
  ⟨0x10, 1, 0x8, 1, 0x8, 0x0, 0x0, 0x0, 0x0⟩,
  -- MEDIA_CFAM: [63:0] — rw
  ⟨0x100, 4, 0x8, 1, 0x8, 0xFFFFFFFFFFFFFFFF, 0x0, 0x0, 0x0⟩,
  -- MEDIA_CTRN: [6:0] RDLY ro; [14:8] WDLY ro; [22:16] RTRK ro
  ⟨0x200, 8, 0x40, 8, 0x8, 0x0, 0x0, 0x0, 0x0⟩,
  -- MEDIA_CDCC: [5:0] DCC ro; [13:8] EYE ro
  ⟨0x400, 8, 0x8, 1, 0x8, 0x0, 0x0, 0x0, 0x0⟩,
  -- MEDIA_CTIM: [15:0] CYC ro
  ⟨0x500, 32, 0x8, 1, 0x8, 0x0, 0x0, 0x0, 0x0⟩,
  -- MEDIA_CDM: [15:0] ROMADDR rw; [23:16] PADDR rw; [31] EN rw
  ⟨0x600, 16, 0x8, 1, 0x8, 0x80FFFFFF, 0x0, 0x0, 0x0⟩,
  -- MEDIA_CSM: [15:0] ROMADDR rw; [22:16] PADDR rw; [31] EN rw
  ⟨0x680, 8, 0x8, 1, 0x8, 0x807FFFFF, 0x0, 0x0, 0x0⟩,
  -- MEDIA_CDP: [63:0] WORD rw
  ⟨0x1000, 256, 0x8, 1, 0x8, 0xFFFFFFFFFFFFFFFF, 0x0, 0x0, 0x0⟩,
  -- MEDIA_CSP: [31:0] WORD rw
  ⟨0x2000, 128, 0x8, 1, 0x8, 0xFFFFFFFF, 0x0, 0x0, 0x0⟩,
  -- MEDIA_CRLG: [3:0] GSHIFT rw
  ⟨0x18, 1, 0x8, 1, 0x8, 0xF, 0x0, 0x0, 0x0⟩,
  -- MEDIA_CRLT: [63:0] IDX rw
  ⟨0x800, 256, 0x8, 1, 0x8, 0xFFFFFFFFFFFFFFFF, 0x0, 0x0, 0x0⟩]

/-- The registers of a block; reserved blocks have none (R17). -/
def blockRegs (b : Nat) : List RegDef :=
  if 0x40 ≤ b ∧ b ≤ 0x5F then chanRegs else
  match b with
  | 0x00 => timeRegs
  | 0x01 => schedRegs
  | 0x02 => qengRegs
  | 0x03 => hazRegs
  | 0x04 => tunRegs
  | 0x05 => mapwRegs
  | 0x06 => mediaRegs
  | 0x07 => ldpcRegs
  | 0x08 => dramRegs
  | 0x09 => ingotRegs
  | 0x0B => vaultRegs
  | 0x0D => spanRegs
  | 0x0E => domeRegs
  | 0x0F => thermRegs
  | 0x10 => almRegs
  | 0x11 => patRegs
  | 0x12 => rasRegs
  | 0x13 => secRegs
  | 0x14 => hostRegs
  | 0x15 => shareRegs
  | 0x16 => padsRegs
  | 0x17 => idRegs
  | _ => []

/-- Whether offset `o` of a block is a register of the row. -/
def RegDef.covers (r : RegDef) (o : Nat) : Bool :=
  decide (r.base ≤ o) && decide ((o - r.base) / r.s1 < r.n1) &&
    decide ((o - r.base) % r.s1 / r.s2 < r.n2) && decide ((o - r.base) % r.s1 % r.s2 = 0)

/-- The register at a 24-bit station offset (block and offset in the block). -/
def findReg (off : Nat) : Option RegDef :=
  (blockRegs (off / 0x10000)).find? (fun r => r.covers (off % 0x10000))

/-- What a station register holds when nothing has written it: its reset value; an unassigned
offset reads 0 (R17). -/
def regReset (off : Nat) : W64 :=
  match findReg off with
  | some r => w64 r.reset
  | none => 0

/-- The value a plain write leaves: rw bits replaced, w1c bits cleared, w1s bits set, the rest kept. -/
def RegDef.apply (r : RegDef) (old v : W64) : W64 :=
  (old &&& ~~~(w64 r.rw)) ||| (v &&& w64 r.rw)
    |>.and (~~~(v &&& w64 r.w1c)) |>.or (v &&& w64 r.w1s)

end Sys2Proof.Machine
end

