-- ==== Sys2Proof/Machine/State.lean ====
section
/-! DEFINITION. The state of the device as plain data: every register, memory, table, queue,
counter and mode the spec names, and the queue of waiting commands. -/

namespace Sys2Proof.Machine

/-- The command stops with a fault. -/
inductive Fault where
  /-- SLOT_DISPATCH met a slot word whose KIND is 2 or 3: R31 reserves them and gives them no
  meaning.  Safe: the model stops where the spec says nothing. -/
  | reservedSlotKind
  deriving DecidableEq, Repr

/-- The command has no meaning in the model. -/
inductive Refusal where
  /-- The arm of a command that the model does not cover yet.  Safe: nothing is said of it. -/
  | notModelled (mnemonic : String)
  deriving DecidableEq, Repr

/-- The windows of a tick (R28).  No instruction runs between the fault window and the slot window:
the INTAKE command stands for the intake window. -/
inductive Window where
  | fault
  | slot
  deriving DecidableEq, Repr

/-- SCHED_CTL.STATE (R35 table, R52). -/
inductive RunState where
  | stopped
  | running
  | faulted
  deriving DecidableEq, Repr

/-- What a core is executing (R29, R32, R33, R173). -/
inductive Activation where
  /-- Nothing: the core is clock-gated. -/
  | idle
  /-- A timed slot. -/
  | timed (slot : Nat)
  /-- A drain slot, in the dispatch of one event, with this many further dispatches allowed. -/
  | drain (slot : Nat) (left : Nat)
  /-- The start activation of R173. -/
  | start
  /-- The fault handler. -/
  | faultHandler
  deriving DecidableEq, Repr

/-- An open counted loop (R70). -/
structure LoopFrame where
  start : BitVec 13
  last : BitVec 13
  count : W64
  depth : Nat
  deriving DecidableEq, Repr

/-- Everything that belongs to one Transit core. -/
structure Core where
  /-- General registers; g0 is never listed. -/
  g : FMap W64
  /-- Tag registers t0 to t7. -/
  t : FMap (BitVec 256)
  oc : Byte
  /-- The next word to execute; 4,096 stands for past the end of the bank (R72). -/
  pc : BitVec 13
  /-- Return words, innermost first. -/
  calls : List (BitVec 13)
  /-- Open loops, innermost first. -/
  loops : List LoopFrame
  act : Activation
  /-- Cycles counted against BOUND in the current activation (R34). -/
  cycles : Nat
  /-- Slot-window cycles used in the current tick. -/
  used : Nat
  /-- Slots below this number have had their turn in the current tick (R32). -/
  nextSlot : Nat
  /-- A cut fell in this tick: no further slot runs (R51). -/
  cut : Bool
  /-- A start activation waits (R173). -/
  startPending : Bool
  /-- Data store, 64 KiB. -/
  data : FMap Byte
  /-- Instruction store banks, 4,096 words each. -/
  bankA : FMap W64
  bankB : FMap W64
  /-- Ephemeris tables, 64 slot words each. -/
  ephA : FMap W64
  ephB : FMap W64
  /-- Active table and bank: false A, true B. -/
  actBank : Bool
  state : RunState
  run : Bool
  swap : Bool
  /-- Ring entries, oldest first. -/
  ring : List W64
  /-- Class queue entries, in the order they were moved (R37). -/
  classQ : List W64
  /-- Events of this core that no primitive requested, waiting in their unit for a free ring
  entry, oldest first (R88). -/
  waiting : List W64
  /-- Which events of this core are host fetch events (R39, R91). -/
  fetchEv : List W64
  /-- Credits taken and not yet turned into a ring entry (R39). -/
  credits : Nat
  /-- P0 queue, oldest first, at most 16 entries (R40). -/
  p0 : List W64
  hostcap : BitVec 13
  faultEntry : BitVec 12
  /-- Checker registers: key 2n is BASE of region n, 2n + 1 its LIMIT (R61). -/
  chk : FMap W64
  /-- Checker writes that the next boundary applies (R62). -/
  chkPend : FMap W64
  /-- Next-set checker registers (R172). -/
  nchk : FMap W64
  nfault : BitVec 12
  nstart : W64
  peak : BitVec 13
  defer : BitVec 16
  ovr : BitVec 8
  bex : BitVec 8
  lastSlot : BitVec 6
  startCut : Bool
  deriving DecidableEq, Repr

/-- A core after power-up or a controller fault reset: registers 0 (R56), stopped, nothing
queued. -/
def Core.reset : Core where
  g := []
  t := []
  oc := 0
  pc := 0
  calls := []
  loops := []
  act := .idle
  cycles := 0
  used := 0
  nextSlot := 0
  cut := false
  startPending := false
  data := []
  bankA := []
  bankB := []
  ephA := []
  ephB := []
  actBank := false
  state := .stopped
  run := false
  swap := false
  ring := []
  classQ := []
  waiting := []
  fetchEv := []
  credits := 0
  p0 := []
  hostcap := 2048
  faultEntry := 0
  chk := []
  chkPend := []
  nchk := []
  nfault := 0
  nstart := 0
  peak := 0
  defer := 0
  ovr := 0
  bex := 0
  lastSlot := 0
  startCut := false

/-- The asynchronous primitives (R79). -/
inductive Prim where
  | gate | squash | mlook | mcommit | mtrim | mzone | fread | fprog | ferase | fstat | ffeat
  | fraw | fcancel | dmin | dmout | dmcopy | dmfill | xts | cmac | vslot | pxor | pmac | pcheck
  | sreq | sresp | slink | arec | vote
  deriving DecidableEq, Repr

/-- Where an accepted request stands. -/
inductive ReqPhase where
  /-- In the core's request queue for its engine. -/
  | waiting
  /-- Taken by its engine; for a flash verb, taken by the director. -/
  | taken
  /-- In the queue of its die (R306). -/
  | dieQueue
  /-- Started on the die or in the engine. -/
  | started
  /-- A claim held at the gate: fence, full completion queue or end of tick (R99, R100). -/
  | held
  deriving DecidableEq, Repr

/-- The configuration registers of one namespace of the walker (R116). -/
structure NsCfg where
  cfg : W64
  base : W64
  cap : W64
  zone : W64
  metaBase : W64
  mcnt : W64
  deriving DecidableEq, Repr

/-- An accepted asynchronous request. -/
structure Req where
  prim : Prim
  core : CoreId
  ticket : Ticket
  cls : BitVec 6
  /-- Level of the request as issued (R47); the completion event reports it. -/
  level : BitVec 3
  /-- Level after age promotion (R48). -/
  cur : BitVec 3
  /-- Ticks waited since the last promotion. -/
  age : Nat
  imm : BitVec 32
  /-- The 8 words of the operand block. -/
  ops : List W64
  /-- Result record: true in cluster memory, with its byte offset in that space. -/
  recCluster : Bool
  recOff : Nat
  /-- Unit that serves it, by SOURCE number (R89). -/
  unit : Nat
  /-- Issued in slot 62 or 63 of core 0 (R151). -/
  loader : Bool
  /-- Tundish buffers it holds a reference to (R109). -/
  bufs : List Nat
  /-- Registers of its namespace as the walker received it (R116). -/
  cfg : NsCfg
  phase : ReqPhase
  deriving DecidableEq, Repr

/-- An allocated tundish buffer, keyed by handle ADDR (R106). -/
structure TunBuf where
  pool : Nat
  owner : Nat
  refs : Nat
  deriving DecidableEq, Repr

/-- A hazard table entry (R93, R102). -/
structure HazEntry where
  key : W64
  count : Nat
  fsn : BitVec 32
  confirmed : Bool
  buf : W64
  deriving DecidableEq, Repr

/-- An internal ring (R96). -/
structure RingQ where
  cap : Nat
  base : Nat
  vals : List W64
  deriving DecidableEq, Repr

/-- An almanac record as queued (R537): code, severity, source and five parameters. -/
structure AlmRec where
  code : BitVec 16
  sev : BitVec 3
  src : BitVec 4
  params : List W64
  optime : Nat
  /-- The arec that wrote it, by core and ticket. -/
  req : Option (CoreId × Ticket)
  deriving DecidableEq, Repr

/-- The almanac's own words (R539, R540, R544). -/
structure Almanac where
  held : Nat
  oldest : Nat
  next : Nat
  rmark : Nat
  lost : Nat
  pcyc : Nat
  optime : Nat
  rdy : Bool
  queue : List AlmRec
  /-- arec records that are durable and whose event has not posted: core, ticket, ordinal (R140). -/
  done : List (CoreId × Ticket × Nat)
  /-- The almanac woke the ingot store dome itself (R543). -/
  woke : Bool
  deriving DecidableEq, Repr

/-- A submission queue context (R227), its words held as fields. -/
structure SQ where
  base : W64
  entries : Nat
  paused : Bool
  retired : Bool
  pasid : Option Nat
  func : Nat
  head : Nat
  tail : Nat
  hostId : Nat
  cq : Nat
  level : Nat
  owner : CoreId
  rcls : BitVec 6
  wcls : BitVec 6
  ocls : BitVec 6
  unsettled : Nat
  fetched : Nat
  slice : Option Nat
  deriving DecidableEq, Repr

/-- A change of a submission queue that waits for the tick boundary (R97). -/
inductive QChange where
  | owner (core : CoreId) (rcls wcls ocls : BitVec 6)
  | level (l : Nat)
  deriving DecidableEq, Repr

/-- A mark window entry (R206). -/
structure Mark where
  num : Nat
  p : Bool
  rem : Nat
  deriving DecidableEq, Repr

/-- A completion queue context (R227). -/
structure CQ where
  base : W64
  entries : Nat
  pasid : Option Nat
  func : Nat
  tail : Nat
  head : Nat
  phase : Bool
  hostId : Nat
  vector : Nat
  ien : Bool
  waiting : Nat
  written : Nat
  slice : Option Nat
  deriving DecidableEq, Repr

/-- How a command was settled, or that it is not yet (R94, R99). -/
inductive Settle where
  | live
  /-- A completion claim settled it and waits for the durable marks of `count` numbers from
  `first` (R100). -/
  | claimed (dw0 dw1 : BitVec 32) (status : BitVec 15) (first count : Nat) (core : CoreId) (ticket : Ticket)
  /-- Its completion entry waits for space in a full completion queue, for a claim or for a
  command that no claim settles (R229). -/
  | space (dw0 dw1 : BitVec 32) (status : BitVec 15) (req : Option (CoreId × Ticket))
  /-- Settled; the entry buffer returns to class 63 after this many more tick ends (R94). -/
  | settled (left : Nat)
  deriving DecidableEq, Repr

/-- A fetched command, from its fetch until its entry buffer returns to class 63 (R91 to R94). -/
structure Cmd where
  key : W64
  sq : Nat
  func : Nat
  pasid : Option Nat
  slice : Option Nat
  fsn : BitVec 32
  sqe : BitVec 512
  /-- ADDR of the entry buffer. -/
  buf : Nat
  arrived : W64
  haz : Option Nat
  level : BitVec 3
  owner : CoreId
  admin : Bool
  settle : Settle
  /-- The event of the command's dmin, once posted; the owning core has taken it when the event
  is no longer in its ring or class queues (R236, R240). -/
  dminEvent : Option W64
  /-- An abort claim of a program settled it (R170). -/
  aborted : Bool
  /-- A zone action that has been done and awaits its record's response (R418). -/
  acted : Bool
  deriving DecidableEq, Repr

/-- A range of a volume's zone that a write has reserved and whose record is not yet done (R265, R415, R416). -/
structure Job where
  /-- The command, and its fetch number. -/
  key : W64
  fsn : BitVec 32
  vol : Nat
  zone : Nat
  off : Nat
  grains : Nat
  /-- First numbers of blocks A, B and C, and the offset that ends the last stripe completed (R415). -/
  a : Nat
  b : Nat
  c : Nat
  done : Nat
  token : Option W64
  /-- Data of each grain; the word that each grain takes in its place; and whether the command brings data. -/
  data : List (List Byte)
  word : Option W64
  /-- 0: entries of its stripes await the peer; 1: its pieces await their responses; 2: its zone record awaits the peer. -/
  phase : Nat
  /-- It failed, or its command was aborted: its range carries the uncorrectable marker (R265, R419). -/
  bad : Bool
  /-- The command as it began: the write goes on where a reset squashes it (R493). -/
  cmd : Cmd
  deriving DecidableEq, Repr

/-- A reset of a function or slice in progress (R490 to R492). -/
structure Reset where
  token : BitVec 15
  kind : Nat
  func : Nat
  slice : Option Nat
  /-- 0 where no SHARE_SRST started it, 1 where the block's did, and p + 2 where that of port p's window did (R489). -/
  srst : Nat
  /-- The token has been written to SHARE_RDONE. -/
  reported : Bool
  deriving DecidableEq, Repr

/-- What the device has put on its outside, in order: the model keeps the record so that
statements can speak of it (DESIGN CHOICE, log entry 3). -/
inductive Out where
  /-- A completion queue entry: completion queue, dwords 0 and 1, submission queue head and host
  identifier, command identifier, phase tag, status field. -/
  | cqe (cq : Nat) (dw0 dw1 : BitVec 32) (sqhd sqid : Nat) (cid : BitVec 16) (phase : Bool) (status : BitVec 15)
  /-- An MSI-X interrupt. -/
  | msix (func vector : Nat)
  /-- A command cycle, or an address cycle, on a channel's NAND bus (R317). -/
  | nandCmd (chan : Nat) (b : Byte)
  | nandAddr (chan : Nat) (b : Byte)
  /-- Data put into a die, and a number of bytes taken out of one, on a channel's NAND bus (R296, R317). -/
  | nandIn (chan : Nat) (bs : List Byte)
  | nandOut (chan : Nat) (n : Nat)
  /-- A configuration request answered, with Configuration Request Retry Status or normally; a read with its value (R214, R492). -/
  | cfg (func : Nat) (retry : Bool) (value : Option Nat)
  /-- A read of a mediation window answered (R483). -/
  | window (func : Nat) (v : W64)
  /-- A message sent on a Span port (R383). -/
  | span (port : Nat) (m : SpanMsg)
  /-- Data of a command written to host memory, from a byte offset of its data. -/
  | hostData (key : W64) (off : Nat) (data : List Byte)
  /-- Metadata of a command written to host memory, from a byte offset of its metadata. -/
  | hostMeta (key : W64) (off : Nat) (data : List Byte)
  /-- An SPDM response on a transport: its code, its parameters and its body (R504). -/
  | spdm (conn code p1 p2 : Nat) (body : List Byte)
  /-- A level driven on the READY pin (R569, R572, R575). -/
  | ready (level : Bool)
  /-- WAKE_n pulled low for 10 ms (R577). -/
  | wake
  /-- ID_BOOT sent on the UART (R573). -/
  | uart (v : W64)
  /-- Flit credits of a virtual channel returned on a Span port (R371). -/
  | credit (port vc flits : Nat)
  /-- A link-control flit on a Span port that acknowledges a sequence number, or sends NAK with it (R369). -/
  | ack (port seq : Nat) (nak : Bool)
  deriving DecidableEq, Repr

/-- An SPDM session (R504, R505). -/
structure Session where
  sid : BitVec 32
  /-- Its session slot, 8,184 to 8,191. -/
  slot : Nat
  established : Bool
  /-- The function whose Security Send carries it; none over the sideband. -/
  func : Option Nat
  /-- SHA-384 of the requester's leaf public key. -/
  leaf : BitVec 384
  /-- Tick of the last heartbeat. -/
  beat : W64
  deriving DecidableEq, Repr

/-- An entry of a dome toward retention or off (R515, R516). -/
structure DomeEntry where
  voter : Nat
  core : CoreId
  ticket : Ticket
  /-- Request number of its quiesce events. -/
  num : BitVec 16
  /-- State voted for: 1 retention, 2 off. -/
  target : Nat
  /-- Tick of the quiesce events. -/
  start : W64
  waiting : List Nat
  agreed : List Nat
  committed : Bool
  /-- A wake source asserted after isolation (R518). -/
  wake : Bool
  deriving DecidableEq, Repr

/-- An asynchronous event: type, information, log page identifier. -/
structure AsyncEv where
  typ : Nat
  info : Nat
  lid : Nat
  deriving DecidableEq, Repr

/-- A program or erase in progress on a die (R307). -/
structure DieOp where
  core : CoreId
  ticket : Ticket
  erase : Bool
  suspended : Bool
  /-- The suspend command is out, and no poll has found the die suspended yet (R308). -/
  suspending : Bool
  suspends : Nat
  /-- Reads served in the current suspension (R308). -/
  served : Nat
  /-- Tick of the last resume, or of the start. -/
  resumed : W64
  /-- Tick of the start. -/
  began : W64
  deriving DecidableEq, Repr

/-- A fitted die. -/
structure Die where
  op : Option DieOp
  /-- Read-level offset set last written to the die (R335). -/
  set : Option Nat
  /-- Status byte of the last poll. -/
  status : Byte
  /-- Successive verbs that ended with 0x20. -/
  fails : Nat
  /-- Feature parameters that ffeat has set, by feature address (R126). -/
  feats : List (Nat × BitVec 32)
  deriving DecidableEq, Repr

/-- What a flash verb has gathered since it started (R123, R124, R329). -/
structure VerbAcc where
  core : CoreId
  ticket : Ticket
  /-- Offset set applied (R335). -/
  set : Nat
  /-- Frames taken by the die, bytes 0 to 4,127, in slot order (R124). -/
  inputs : List (List Byte)
  /-- Results of the soft engine, one per frame (R329). -/
  soft : List (Bool × Nat)
  /-- Tick of the start. -/
  began : W64
  /-- First frame's tag, most bits corrected, frames decoded, and the highest outcome. -/
  tag : Option (List Byte)
  bits : Nat
  decoded : Nat
  oc : Byte
  /-- Frames output so far. -/
  frames : Nat
  /-- A poll has found the die ready for this verb (R298). -/
  ready : Bool
  deriving DecidableEq, Repr

/-- A channel's director and sequencer (R312 to R318). -/
structure Chan where
  pc : Nat
  /-- The current word has run its first cycle. -/
  began : Bool
  cur : Option (CoreId × Ticket)
  sel : Option Nat
  outcome : Byte
  /-- Timer armed: its length in ns and the tick of its start; and whether it has expired. -/
  timer : Option (Nat × W64)
  expired : Bool
  counter : Nat
  /-- Frame, page or plane of the verb. -/
  idx : Nat
  ready : Bool
  failBit : Bool
  susp : Bool
  busGrant : Bool
  seqPc : Nat
  seqStack : List Nat
  seqRun : Bool
  seqDone : Bool
  ce : List Nat
  /-- A frame transfer is in progress: the last word run is a data input or output (R314). -/
  xfer : Bool
  /-- Die polled last among those in their read poll phase (R298). -/
  polled : Nat
  /-- Dies whose program or erase a machine check cut, due a FAh in the local reset (R322). -/
  cutDies : List Nat
  /-- Ticks of the machine checks counted for R323. -/
  checks : List W64
  deriving DecidableEq, Repr

/-- A hard-slot request of a bank, waiting or granted (R328). -/
structure LdpcReq where
  chan : Nat
  core : CoreId
  ticket : Ticket
  level : BitVec 3
  granted : Bool
  deriving DecidableEq, Repr

/-- What a frame of the NAND array holds. -/
inductive NFrame where
  /-- All cells erased. -/
  | erased
  /-- A program that passed wrote these scrambled bytes 0 to 4,127 (R326). -/
  | data (bs : List Byte)
  /-- A foggy pass without its fine pass. -/
  | foggy
  /-- Nothing defines it (R124, R125, R129, R327). -/
  | undef
  deriving DecidableEq, Repr

/-- A loaded slot of the key vault (R495, R496). -/
structure VSlot where
  kind : Nat
  key : List Byte
  origin : Nat
  bound : Nat
  holder : List Byte
  deriving DecidableEq, Repr

/-- The link layer of a Span port (R367 to R372). -/
structure SpanPort where
  /-- Next sequence number to send, and the flits sent and not acknowledged: number and VC. -/
  txSeq : Nat
  unacked : List (Nat × Nat)
  /-- VCs of the flits that wait to be sent. -/
  queue : List Nat
  /-- Credits held to send, by VC. -/
  credit : List Nat
  /-- Last good number received, and message flits since the last acknowledgement. -/
  rxSeq : Nat
  since : Nat
  /-- Flits of each VC received and not credited back. -/
  held : List Nat
  /-- Ticks of the NAKs of the last millisecond (R372). -/
  naks : List W64
  /-- Hops to which the enumeration in progress has sent IDENT; 0 with none in progress (R139, R379). -/
  asked : Nat
  /-- Width and speed that training gave, where PS3 holds a manager's port at 32 GT/s x1 (R527). -/
  full : Option Nat
  deriving DecidableEq, Repr

/-- A request sent over Span that awaits its response (R137, R396). -/
structure SpanTx where
  core : CoreId
  ticket : Ticket
  num : BitVec 32
  gen : BitVec 32
  dst : Nat
  port : Nat
  start : W64
  deriving DecidableEq, Repr

/-- An arrival that has not been answered (R138). -/
structure SpanArr where
  event : W64
  port : Nat
  src : Nat
  typ : Nat
  flags : Nat
  num : BitVec 32
  gen : BitVec 32
  level : BitVec 3
  hw : List W64
  desc : Nat
  pay : Option W64
  len : Nat
  deriving DecidableEq, Repr

/-- An entry of the duplicate record (R390). -/
structure DupEntry where
  src : Nat
  num : BitVec 32
  typ : Nat
  done : Bool
  status : Byte
  hw : List W64
  /-- Place of the response payload in the response log, counted from the log's start, and its
  length. -/
  pos : Nat
  len : Nat
  deriving DecidableEq, Repr

/-- What a manager knows of a member (R249, R379). -/
structure Member where
  serial : W64
  chain : Nat
  pos : Nat
  /-- Hops from this manager by its port of the chain. -/
  hops : Nat
  dies : Nat
  cap : Nat
  ver : Nat
  /-- Page 0xC3 state: 0 absent, 1 training, 2 active, 3 degraded, 4 lost, 5 rebuilding. -/
  state : Nat
  /-- Tick of the last busy-horizon report. -/
  seen : W64
  /-- Longest horizon reported, highest temperature, and reconstructions served in its place. -/
  busy : Nat
  temp : Nat
  recon : Nat
  /-- Service time in µs less the horizon reported at issue, of its last 1,024 GREADs (R422). -/
  record : List Int
  deriving DecidableEq, Repr

/-- The NVMe controller of a function (R216 to R218, R224). -/
structure Ctrl where
  /-- CC as last written; EN is bit 0. -/
  cc : BitVec 32
  aqa : BitVec 32
  asq : W64
  acq : W64
  rdy : Bool
  cfs : Bool
  /-- CSTS.SHST. -/
  shst : Nat
  /-- A secondary controller is online (R482). -/
  online : Bool
  /-- Flexible queue resources and vectors assigned to a secondary controller. -/
  vq : Nat
  vi : Nat
  /-- Features by identifier × 2^16 + selector. -/
  feat : FMap W64
  /-- Outstanding Asynchronous Event Requests, oldest first, by command key. -/
  aer : List W64
  /-- Virtual functions enabled in the SR-IOV capability of a physical function. -/
  numVfs : Nat
  /-- PASID capability enabled. -/
  pasid : Bool
  deriving DecidableEq, Repr

/-- Where the device stands between power-up and service (R566 to R576). -/
structure Boot where
  /-- PERST_n has been deasserted once since power-up. -/
  strapped : Bool
  /-- PERST_n is low after its first deassertion. -/
  perstLow : Bool
  /-- The device is stopped: before bring-up, halted in its first step, or after a controller fault reset that no
  restart has followed. -/
  down : Bool
  /-- The power-fail state of R575. -/
  pwrFail : Bool
  /-- BOOT_SRC[1:0] as sampled (R565). -/
  src : BitVec 2
  /-- A manager's own half of the journal is to be settled once its members are reached (R440). -/
  settle : Bool
  /-- The device has stopped for a thermal trip and has not started again (R534). -/
  tripped : Bool
  deriving DecidableEq, Repr

/-- The pattern store's machinery (R548 to R551). -/
structure Pat where
  /-- An operation in progress: erase or program, and its byte address. -/
  op : Option (Bool × Nat)
  /-- A bulk read in progress: source, DRAM destination, length in 64 B units, and whether the die was
  busy when it started. -/
  bulk : Option (Nat × Nat × Nat × Bool)
  deriving DecidableEq, Repr

/-- External DRAM: the fitted ranks, their spares, migrations and the poison log (R441, R455 to R460,
R468). -/
structure DramRas where
  /-- Capacity in bytes of each fitted rank, by channel × 4 + physical rank. -/
  fit : FMap Nat
  /-- Logical ranks of each channel, and the bytes that each shows, by channel × 4 + logical rank (R443). -/
  logical : FMap Nat
  lsize : FMap Nat
  /-- The free words from which the trained delays of the lanes come, once training has written them (R447). -/
  delays : Option Nat
  /-- Spare ranks not used yet: channel and physical rank. -/
  spare : List (Nat × Nat)
  /-- The reserves of R455 have been spent. -/
  spent : Bool
  /-- Migrations, the running one first: channel, physical rank, and the spare that takes its
  contents; none for the reserves. -/
  mig : List (Nat × Nat × Option Nat)
  /-- Ranks that failed with no destination: the next start leaves them unfitted (R460). -/
  bad : List (Nat × Nat)
  /-- Poison log entries written, and entries written in the current tick. -/
  logged : Nat
  inTick : Nat
  /-- Lines that the log had no room for. -/
  lost : Nat
  /-- A kind 4 event has been posted in this tick, and one more waits for the next tick. -/
  posted : Bool
  owed : Bool
  deriving DecidableEq, Repr

/-- A request that the resident set has sent and whose response it awaits (R408 to R418, R422). -/
structure ResTx where
  num : BitVec 32
  dst : Nat
  typ : Nat
  flags : Nat
  level : BitVec 3
  hw : List W64
  payload : List Byte
  /-- Tick of sending, and the horizon that a GREAD's member reported then (R422). -/
  sent : W64
  horizon : Nat
  /-- Port that it went out on (R396). -/
  port : Nat
  /-- The zone offset of its first grain, where the grains read enter the accumulator of an open stripe (R425, R440). -/
  gather : Option Nat
  deriving DecidableEq, Repr

/-- A metadata record of a command in the map: its first grain, the words that it replaced and the command's first
number (R285). -/
structure MetaCommit where
  ns : Nat
  grain : Nat
  old : List W64
  first : Nat
  deriving DecidableEq, Repr

/-- What a manager knows of an ANA group (R424, R425, R428). -/
structure AnaGroup where
  owned : Bool
  /-- ANA state reported: 1 optimized, 2 non-optimized, 3 inaccessible, 15 change. -/
  state : Nat
  /-- Tick of the last transfer. -/
  moved : Option W64
  deriving DecidableEq, Repr

/-- Where the queue engine stands in the rounds of one share holder (R231). -/
structure Arb where
  /-- 0 admin, 1 urgent, 2 high, 3 medium, 4 low. -/
  phase : Nat
  /-- Picks left in the class of phases 2 to 4. -/
  picks : Nat
  /-- Queue being picked and entries left of its burst. -/
  cur : Option (Nat × Nat)
  /-- Queue picked last, by class 0 to 3. -/
  last : List Nat
  deriving DecidableEq, Repr

/-- A namespace or volume (R222, R257, R258). -/
structure NsInfo where
  lbaf : Nat
  csi : Nat
  endg : Nat
  /-- Size and capacity in LBAs. -/
  nsze : Nat
  ncap : Nat
  /-- Placement handles (R280). -/
  phndls : List Nat
  /-- Functions it is attached to. -/
  attached : List Nat
  /-- Extents committed to its data, and pSLC grains charged for its metadata (R258, R284). -/
  extents : Nat
  charge : Nat
  deriving DecidableEq, Repr

/-- An extent that is open or closed (R255, R344). -/
structure Extent where
  group : Nat
  /-- 0 TLC, 1 QLC, 3 pSLC. -/
  mode : Nat
  /-- 0 zone, 1 reclaim unit, 2 metadata, 3 program state. -/
  use : Nat
  ns : Nat
  /-- Placement handle and reclaim group of a reclaim unit (R280, R281). -/
  handle : Nat
  rg : Nat
  /-- Block of plane pl of die d at 4d + pl. -/
  blocks : List Nat
  /-- Frames placed, in extent order; rows whose parity is durable (R119, R339). -/
  fill : Nat
  rows : Nat
  /-- Operating time of the first program, tick of the last, and tick of closing. -/
  first : Option Nat
  wrote : W64
  closed : Option W64
  /-- A refresh is queued (R332, R350), and the closing verify is still to run (R343). -/
  refresh : Bool
  verify : Bool
  deriving DecidableEq, Repr

/-- The loader's view of the running image (R152, R174). -/
structure RunImage where
  /-- Bank, 0 A or 1 B. -/
  bank : Nat
  version : List Byte
  layout : Nat
  cores : Nat
  keySlot : Nat
  svn : Nat
  digest : BitVec 384
  /-- Its patch and configuration sections: type, target and contents. -/
  fixed : List (Nat × Nat × List Byte)
  /-- Classes taken by drain slots, by core. -/
  drains : List (Nat × List Nat)
  deriving DecidableEq, Repr

/-- A live handover that waits for its tick (R175). -/
structure Handover where
  key : W64
  image : RunImage
  /-- LAYOUT of the running image. -/
  old : Nat
  /-- The swap has been armed, and it has taken effect. -/
  armed : Bool
  swapped : Bool
  deriving DecidableEq, Repr

/-- Firmware: staging, banks and the running image (R168 to R180, R570). -/
structure Fw where
  /-- Function that staged and TOTAL; the pieces staged, by offset and length. -/
  stage : Option (Nat × Nat)
  pieces : List (Nat × Nat)
  run : Option RunImage
  hand : Option Handover
  /-- Banks that failed their last verification. -/
  bad : List Nat
  /-- Proof records: bank, digest, period and presence map. -/
  proofs : List (Nat × BitVec 384 × Nat × W64)
  /-- Banks committed whose image has not run since (R159), and whether a commit has swapped the selector since the
  start. -/
  fresh : List Nat
  swapped : Bool
  /-- A layout mark is to be written after this tick, which holds the start activations (R177). -/
  markDue : Option W64
  deriving DecidableEq, Repr

/-- An enrolled owner key (R507). -/
structure Owner where
  hash : BitVec 384
  img : Bool
  sealing : Bool
  admin : Bool
  deriving DecidableEq, Repr

/-- The trust block's slow state (R159, R160, R251, R504, R507, R508). -/
structure Trust where
  owners : FMap (Option Owner)
  /-- Minimum security versions of key slots 0 to 4. -/
  svnMin : FMap Nat
  /-- Debug access at the next power-up. -/
  debugNext : Bool
  /-- Extensions since power-up, oldest first: register and digest. -/
  hist : List (Nat × BitVec 384)
  lost : Bool
  /-- How far an SPDM connection has negotiated: 1 version, 2 capabilities, 3 algorithms. -/
  conns : FMap Nat
  /-- Holder of an imported key of a volume on a manager: the first 32 bytes of SHA-384 of its public key (R506). -/
  holders : FMap (List Byte)
  /-- Last response for a function's Security Receive. -/
  resp : FMap (Option (List Byte))
  deriving DecidableEq, Repr

/-- A read on the retry ladder: the command, the grain of its range, the frame, and the steps taken (R330). -/
structure Ladder where
  key : W64
  grain : Nat
  loc : W64
  steps : Nat
  deriving DecidableEq, Repr

/-- Media care that the resident set keeps (R286, R336, R337, R344 to R359, R364). -/
structure Care where
  /-- Use of a block by block key: 0 unknown history, 1 free, 2 in an extent, 3 pending erase, 4 retired. -/
  blocks : FMap Nat
  /-- Erase counts. -/
  erases : FMap Nat
  extents : FMap (Option Extent)
  nextSerial : Nat
  /-- Reads on the retry ladder (R330). -/
  ladders : List Ladder
  /-- Level sweeps queued: channel, die, group. -/
  sweeps : List (Nat × Nat × Nat)
  /-- Die groups in which static wear levelling goes on (R347). -/
  wearing : List Nat
  /-- Default sets by channel, die and group, and the sequence of the newest read-level copy (R337). -/
  levels : FMap Nat
  levelSeq : Nat
  /-- Erase counts of the newest checkpoint (R345). -/
  ckpt : Option (FMap Nat)
  /-- Self-test running: code, namespace and starting tick; results, newest first: code, result and segment. -/
  test : Option (Nat × Nat × W64)
  results : List (Nat × Nat × Nat)
  /-- Sanitize status: 0 never, 1 done, 2 in progress. -/
  sanit : Nat
  deriving DecidableEq, Repr

/-- Health history and the minutes of page 0x02 (R246, R361, R535). -/
structure History where
  entries : List (List Byte)
  /-- Operating hour of the newest entry. -/
  hour : Nat
  /-- Counters at the newest entry. -/
  base : FMap W64
  /-- Highest temperatures in the hour, die and package, 1/16 °C, signed. -/
  die : BitVec 16
  pkg : BitVec 16
  /-- Ticks of the current minute, and whether an I/O command was outstanding in it. -/
  ticks : Nat
  busy : Bool
  warnMin : Nat
  critMin : Nat
  deriving DecidableEq, Repr

/-- Flexible Data Placement (R278 to R281). -/
structure Fdp where
  on : Bool
  /-- Events of page 0x23: type, namespace, handle and reclaim group. -/
  events : List (Nat × Nat × Nat × Nat)
  /-- Bytes written by hosts, to media, and erased. -/
  hostBytes : Nat
  mediaBytes : Nat
  erasedBytes : Nat
  deriving DecidableEq, Repr

/-- The device. -/
structure State where
  /-- Commands waiting, first in first out. -/
  pending : List Instr
  /-- The model's own counter into the stream of free values (DESIGN CHOICE, log entry 1). -/
  free : Nat
  out : List Out
  boot : Boot
  tick : W64
  win : Window
  /-- The current tick is a cooling gap (R530). -/
  gap : Bool
  /-- Station registers by 24-bit offset. -/
  regs : FMap W64
  /-- Register values that the next tick boundary applies, by station offset. -/
  regPend : FMap W64
  cores : FMap Core
  /-- Cluster memory, byte offset in cluster c at c × 2^20 (event rings are held per core). -/
  cluster : FMap Byte
  /-- On-chip tundish, 32 MiB. -/
  tun : FMap Byte
  tunBufs : List (Nat × TunBuf)
  /-- Minima by class × 16 + pool × 2 (on-chip) or + 1 (extension) (R480). -/
  tunMin : FMap Nat
  tunMinPend : List (Nat × Nat)
  /-- SRAM words holding bits in error: array × 2^24 + word, with the number of bad bits (R462,
  R466). -/
  sramErr : FMap Nat
  /-- Stuck words of the tundish and the frame buffers, whose buffer or slot is held back from use: array and word (R467). -/
  heldBack : List (Nat × Nat)
  /-- When each repeat tracker entry was last hit, in hits (R463). -/
  rtHit : FMap Nat
  rtClock : Nat
  /-- The first untracked correction of the power cycle has been recorded (R463). -/
  rtUntracked : Bool
  dram : FMap Byte
  dr : DramRas
  /-- Poisoned 64-bit words, by space × 2^48 + address ÷ 8 (R445). -/
  poison : FMap Bool
  ingot : FMap Byte
  nor : FMap Byte
  /-- Pages of the pattern store left in an unknown state, by byte address ÷ 512 (R548, R554). -/
  norUnk : FMap Bool
  pat : Pat
  /-- Delay words of the DRAM lanes, by the value of DRAM_TSEL (R447). -/
  tdly : FMap W64
  /-- A scrub in progress: array, first and last word (R465). -/
  scrub : Option (Nat × Nat × Nat)
  /-- Channel frame buffers: channel × 2^17 + slot × 4,608 + offset. -/
  fbuf : FMap Byte
  rings : FMap RingQ
  haz : List (Nat × HazEntry)
  /-- Mark window entries by number mod 2^21; a listed entry is LIVE (R206). -/
  marks : FMap (Option Mark)
  /-- Counter raise asked through HAZ_WSNFLOOR and not yet durable (R199). -/
  wsnFloor : Option Nat
  /-- Health counters (R360). -/
  health : FMap W64
  /-- qctl changes that the next boundary applies (R97). -/
  qPend : List (Nat × QChange)
  reqs : List Req
  /-- Abort claims of the resident set that the gate holds to the end of the tick: the command, and the Abort that asks for
  it (R99, R240). -/
  aborts : List (W64 × W64)
  /-- The gate has applied the tick's abort claims and takes no claim before the next tick (R99). -/
  gateShut : Bool
  sqs : FMap (Option SQ)
  cqs : FMap (Option CQ)
  cmds : List Cmd
  resets : List Reset
  ctrls : FMap Ctrl
  arbs : FMap Arb
  /-- Credit D of each share holder in units of 1/65,536 of an entry (R488): holder f is function f,
  holder 2,048 + s is slice s. -/
  credit : FMap Nat
  /-- Entries fetched for each holder in the current tick. -/
  taken : FMap Nat
  /-- Entries that may still be fetched in the current tick. -/
  fetchLeft : Nat
  /-- Holder served last, and the holder that began the current tick. -/
  rotLast : Nat
  rotFirst : Option Nat
  /-- Submission queues whose next entry waits for a free hazard entry (R93). -/
  hazStall : List Nat
  span : FMap SpanPort
  spanOut : List SpanTx
  spanIn : List SpanArr
  resOut : List ResTx
  /-- Writes of volume zones under way, in the order of their reservations (R265, R416), and device-wide zones whose open
  stripe has had its parity sent for a Finish (R418). -/
  jobs : List Job
  finishing : List Nat
  /-- GREADs sent in the last 4,096 ticks: tick, and whether one was for a deadline reconstruction (R423). -/
  greads : List (W64 × Bool)
  /-- Next request number by destination, and next arrival number. -/
  spanNum : FMap Nat
  spanArr : Nat
  /-- Duplicate record, newest last, and the generation recorded for each source. -/
  dups : List DupEntry
  dupGen : FMap Nat
  /-- Bytes written to the response log. -/
  rlogPos : Nat
  members : FMap (Option Member)
  /-- On a manager, hops to the peer manager by chain port; 0 where the chain does not reach it (R382). -/
  peerVia : FMap Nat
  /-- ANA groups 1 and 2 (R424). -/
  groups : FMap AnaGroup
  /-- The peer's latest sequence reserve bound (R414). -/
  peerBound : Nat
  /-- The manager has restarted and has not reached its peer since (R428). -/
  returned : Bool
  /-- Entries of page 0xC2, oldest first, of 32 bytes each (R248, R434). -/
  lostRanges : List (List Byte)
  /-- On a worker, location words of the grains it holds for volumes, by volume × 2^48 + member grain
  address; finished member zones, and those that held grains when the preserve state began, by volume ×
  2^29 + member zone (R407 to R409). -/
  wmap : FMap W64
  wfin : FMap Bool
  wheld : List Nat
  /-- The preserve state of R288. -/
  preserve : Bool
  /-- Commands that had been fetched and not settled when it began: key and fetch number (R288). -/
  kept : List (W64 × BitVec 32)
  /-- Metadata records that no data record with their first number has followed yet (R285). -/
  metaOpen : List MetaCommit
  /-- On a worker, the port toward manager A once assigned (R381), the chain and the position. -/
  portA : Option Nat
  /-- Managers to which a RESTART is still to be posted after a controller fault reset (R384, R388). -/
  restartDue : List Nat
  /-- Members from which no report has come and that a PING by every valid route asks: member and tick (R394). -/
  pings : List (Nat × W64)
  chain : Nat
  position : Nat
  /-- Power state of the device, and its last operational state (R526, R527). -/
  power : Nat
  powerOp : Nat
  /-- Next fetch sequence number (R92). -/
  fsn : BitVec 32
  /-- Walker namespace registers by NSID (R116). -/
  ns : FMap NsCfg
  /-- Zone capacity in grains of a volume, by NSID (R257). -/
  volCap : FMap Nat
  /-- Reservation pointers that differ from the write pointer, by device-wide zone (R261). -/
  rsv : FMap (Option Nat)
  /-- Token entries written to each token slot (R274). -/
  tokCount : FMap Nat
  /-- Full zones holding a token slot, in the order they became Full (R275). -/
  fullZones : List Nat
  fam : DieFamily
  params : CareParams
  alm : Almanac
  /-- Dome entries in progress, by dome (R515). -/
  domeEntry : FMap (Option DomeEntry)
  /-- Votes that wait for a dome's wake, by dome, while a wake is in progress (R513). -/
  domeWake : FMap (Option (List (CoreId × Ticket)))
  /-- Clients that agreed to a dome's last entry (R516). -/
  domeAgreed : FMap (List Nat)
  /-- Tick of each sensor's last reading, by sensor number (R141). -/
  readAt : FMap W64
  /-- On-die sensors that have read outside their range (R528). -/
  sensorFail : List Nat
  /-- Successive samples at or above TRIP (R534). -/
  tripCount : Nat
  /-- Last samples of the rise predictor, oldest first (R532). -/
  rise : List Int
  /-- An orderly stop is in force, and the tick from which the device has been cool (R533). -/
  stopped : Bool
  coolSince : Option W64
  /-- Asynchronous events not yet reported, by controller. -/
  events : List (Nat × AsyncEv)
  /-- Dies, by channel × 64 + position. -/
  dies : FMap Die
  chans : FMap Chan
  accs : List VerbAcc
  ldpc : List LdpcReq
  /-- Frames of the NAND array that a program has reached since their block's last erase, by frame
  key; any other frame is as its block is. -/
  nand : FMap NFrame
  /-- Blocks erased and not cut since: true, by block key; any other block's unlisted frames are
  undefined. -/
  blkErased : FMap Bool
  /-- Key vault slots, 0 to 8,191 (R495). -/
  vault : FMap (Option VSlot)
  sessions : List Session
  /-- Ticks of the TRNG restarts of the last second (R500). -/
  trngRestarts : List W64
  /-- Blocks the DRBG may still serve while no reseed is possible; none while reseeds succeed
  (R500). -/
  drbgLeft : Option Nat
  /-- Identity of the running image: its VERSION (R51, R250). -/
  imageId : W64
  /-- Version fuses blown, of 64 (R509, R557). -/
  verFuses : Nat
  nsInfo : FMap (Option NsInfo)
  care : Care
  history : History
  fw : Fw
  trust : Trust
  fdp : Fdp
  /-- Generation of page 0xC2 (R248). -/
  lostGen : Nat
  /-- LBAs of listed ranges written again since they were listed: namespace and LBA (R248). -/
  lostAgain : List (Nat × Nat)
  /-- Parity accumulator of a volume zone's open stripe, by device-wide zone: 16 grains for each parity
  piece (R416). -/
  accum : FMap (List (List Byte))
  /-- Reserve bound last sent to the peer (R414). -/
  boundSent : Nat
  /-- Tick of the last write to a zone, by device-wide zone (R268). -/
  zoneUsed : FMap W64
  /-- The last shutdown was clean: no extent needs recovery (R571). -/
  clean : Bool
  deriving DecidableEq, Repr

/-! ## One update for each field -/

def State.putPending (s : State) (v : List Instr) : State := { s with pending := v }
def State.putFree (s : State) (v : Nat) : State := { s with free := v }
def State.putOut (s : State) (v : List Out) : State := { s with out := v }
def State.putBoot (s : State) (v : Boot) : State := { s with boot := v }
def State.putTick (s : State) (v : W64) : State := { s with tick := v }
def State.putWin (s : State) (v : Window) : State := { s with win := v }
def State.putGap (s : State) (v : Bool) : State := { s with gap := v }
def State.putRegs (s : State) (v : FMap W64) : State := { s with regs := v }
def State.putRegPend (s : State) (v : FMap W64) : State := { s with regPend := v }
def State.putCores (s : State) (v : FMap Core) : State := { s with cores := v }
def State.putCluster (s : State) (v : FMap Byte) : State := { s with cluster := v }
def State.putTun (s : State) (v : FMap Byte) : State := { s with tun := v }
def State.putTunBufs (s : State) (v : List (Nat × TunBuf)) : State := { s with tunBufs := v }
def State.putTunMin (s : State) (v : FMap Nat) : State := { s with tunMin := v }
def State.putTunMinPend (s : State) (v : List (Nat × Nat)) : State := { s with tunMinPend := v }
def State.putSramErr (s : State) (v : FMap Nat) : State := { s with sramErr := v }
def State.putHeldBack (s : State) (v : List (Nat × Nat)) : State := { s with heldBack := v }
def State.putRtHit (s : State) (v : FMap Nat) : State := { s with rtHit := v }
def State.putRtClock (s : State) (v : Nat) : State := { s with rtClock := v }
def State.putRtUntracked (s : State) (v : Bool) : State := { s with rtUntracked := v }
def State.putDram (s : State) (v : FMap Byte) : State := { s with dram := v }
def State.putDr (s : State) (v : DramRas) : State := { s with dr := v }
def State.putPoison (s : State) (v : FMap Bool) : State := { s with poison := v }
def State.putIngot (s : State) (v : FMap Byte) : State := { s with ingot := v }
def State.putNor (s : State) (v : FMap Byte) : State := { s with nor := v }
def State.putNorUnk (s : State) (v : FMap Bool) : State := { s with norUnk := v }
def State.putPat (s : State) (v : Pat) : State := { s with pat := v }
def State.putTdly (s : State) (v : FMap W64) : State := { s with tdly := v }
def State.putScrub (s : State) (v : Option (Nat × Nat × Nat)) : State := { s with scrub := v }
def State.putFbuf (s : State) (v : FMap Byte) : State := { s with fbuf := v }
def State.putRings (s : State) (v : FMap RingQ) : State := { s with rings := v }
def State.putHaz (s : State) (v : List (Nat × HazEntry)) : State := { s with haz := v }
def State.putMarks (s : State) (v : FMap (Option Mark)) : State := { s with marks := v }
def State.putWsnFloor (s : State) (v : Option Nat) : State := { s with wsnFloor := v }
def State.putHealth (s : State) (v : FMap W64) : State := { s with health := v }
def State.putQPend (s : State) (v : List (Nat × QChange)) : State := { s with qPend := v }
def State.putReqs (s : State) (v : List Req) : State := { s with reqs := v }
def State.putAborts (s : State) (v : List (W64 × W64)) : State := { s with aborts := v }
def State.putGateShut (s : State) (v : Bool) : State := { s with gateShut := v }
def State.putSqs (s : State) (v : FMap (Option SQ)) : State := { s with sqs := v }
def State.putCqs (s : State) (v : FMap (Option CQ)) : State := { s with cqs := v }
def State.putCmds (s : State) (v : List Cmd) : State := { s with cmds := v }
def State.putResets (s : State) (v : List Reset) : State := { s with resets := v }
def State.putCtrls (s : State) (v : FMap Ctrl) : State := { s with ctrls := v }
def State.putArbs (s : State) (v : FMap Arb) : State := { s with arbs := v }
def State.putCredit (s : State) (v : FMap Nat) : State := { s with credit := v }
def State.putTaken (s : State) (v : FMap Nat) : State := { s with taken := v }
def State.putFetchLeft (s : State) (v : Nat) : State := { s with fetchLeft := v }
def State.putRotLast (s : State) (v : Nat) : State := { s with rotLast := v }
def State.putRotFirst (s : State) (v : Option Nat) : State := { s with rotFirst := v }
def State.putHazStall (s : State) (v : List Nat) : State := { s with hazStall := v }
def State.putSpan (s : State) (v : FMap SpanPort) : State := { s with span := v }
def State.putSpanOut (s : State) (v : List SpanTx) : State := { s with spanOut := v }
def State.putSpanIn (s : State) (v : List SpanArr) : State := { s with spanIn := v }
def State.putResOut (s : State) (v : List ResTx) : State := { s with resOut := v }
def State.putJobs (s : State) (v : List Job) : State := { s with jobs := v }
def State.putFinishing (s : State) (v : List Nat) : State := { s with finishing := v }
def State.putGreads (s : State) (v : List (W64 × Bool)) : State := { s with greads := v }
def State.putSpanNum (s : State) (v : FMap Nat) : State := { s with spanNum := v }
def State.putSpanArr (s : State) (v : Nat) : State := { s with spanArr := v }
def State.putDups (s : State) (v : List DupEntry) : State := { s with dups := v }
def State.putDupGen (s : State) (v : FMap Nat) : State := { s with dupGen := v }
def State.putRlogPos (s : State) (v : Nat) : State := { s with rlogPos := v }
def State.putMembers (s : State) (v : FMap (Option Member)) : State := { s with members := v }
def State.putPeerVia (s : State) (v : FMap Nat) : State := { s with peerVia := v }
def State.putGroups (s : State) (v : FMap AnaGroup) : State := { s with groups := v }
def State.putPeerBound (s : State) (v : Nat) : State := { s with peerBound := v }
def State.putReturned (s : State) (v : Bool) : State := { s with returned := v }
def State.putLostRanges (s : State) (v : List (List Byte)) : State := { s with lostRanges := v }
def State.putWmap (s : State) (v : FMap W64) : State := { s with wmap := v }
def State.putWfin (s : State) (v : FMap Bool) : State := { s with wfin := v }
def State.putWheld (s : State) (v : List Nat) : State := { s with wheld := v }
def State.putPreserve (s : State) (v : Bool) : State := { s with preserve := v }
def State.putKept (s : State) (v : List (W64 × BitVec 32)) : State := { s with kept := v }
def State.putMetaOpen (s : State) (v : List MetaCommit) : State := { s with metaOpen := v }
def State.putRestartDue (s : State) (v : List Nat) : State := { s with restartDue := v }
def State.putPings (s : State) (v : List (Nat × W64)) : State := { s with pings := v }
def State.putPortA (s : State) (v : Option Nat) : State := { s with portA := v }
def State.putChain (s : State) (v : Nat) : State := { s with chain := v }
def State.putPosition (s : State) (v : Nat) : State := { s with position := v }
def State.putPower (s : State) (v : Nat) : State := { s with power := v }
def State.putPowerOp (s : State) (v : Nat) : State := { s with powerOp := v }
def State.putFsn (s : State) (v : BitVec 32) : State := { s with fsn := v }
def State.putNs (s : State) (v : FMap NsCfg) : State := { s with ns := v }
def State.putVolCap (s : State) (v : FMap Nat) : State := { s with volCap := v }
def State.putRsv (s : State) (v : FMap (Option Nat)) : State := { s with rsv := v }
def State.putTokCount (s : State) (v : FMap Nat) : State := { s with tokCount := v }
def State.putFullZones (s : State) (v : List Nat) : State := { s with fullZones := v }
def State.putFam (s : State) (v : DieFamily) : State := { s with fam := v }
def State.putParams (s : State) (v : CareParams) : State := { s with params := v }
def State.putAlm (s : State) (v : Almanac) : State := { s with alm := v }
def State.putDomeEntry (s : State) (v : FMap (Option DomeEntry)) : State := { s with domeEntry := v }
def State.putDomeWake (s : State) (v : FMap (Option (List (CoreId × Ticket)))) : State := { s with domeWake := v }
def State.putDomeAgreed (s : State) (v : FMap (List Nat)) : State := { s with domeAgreed := v }
def State.putReadAt (s : State) (v : FMap W64) : State := { s with readAt := v }
def State.putSensorFail (s : State) (v : List Nat) : State := { s with sensorFail := v }
def State.putTripCount (s : State) (v : Nat) : State := { s with tripCount := v }
def State.putRise (s : State) (v : List Int) : State := { s with rise := v }
def State.putStopped (s : State) (v : Bool) : State := { s with stopped := v }
def State.putCoolSince (s : State) (v : Option W64) : State := { s with coolSince := v }
def State.putEvents (s : State) (v : List (Nat × AsyncEv)) : State := { s with events := v }
def State.putDies (s : State) (v : FMap Die) : State := { s with dies := v }
def State.putChans (s : State) (v : FMap Chan) : State := { s with chans := v }
def State.putAccs (s : State) (v : List VerbAcc) : State := { s with accs := v }
def State.putLdpc (s : State) (v : List LdpcReq) : State := { s with ldpc := v }
def State.putNand (s : State) (v : FMap NFrame) : State := { s with nand := v }
def State.putBlkErased (s : State) (v : FMap Bool) : State := { s with blkErased := v }
def State.putVault (s : State) (v : FMap (Option VSlot)) : State := { s with vault := v }
def State.putSessions (s : State) (v : List Session) : State := { s with sessions := v }
def State.putTrngRestarts (s : State) (v : List W64) : State := { s with trngRestarts := v }
def State.putDrbgLeft (s : State) (v : Option Nat) : State := { s with drbgLeft := v }
def State.putImageId (s : State) (v : W64) : State := { s with imageId := v }
def State.putNsInfo (s : State) (v : FMap (Option NsInfo)) : State := { s with nsInfo := v }
def State.putCare (s : State) (v : Care) : State := { s with care := v }
def State.putHistory (s : State) (v : History) : State := { s with history := v }
def State.putFw (s : State) (v : Fw) : State := { s with fw := v }
def State.putTrust (s : State) (v : Trust) : State := { s with trust := v }
def State.putFdp (s : State) (v : Fdp) : State := { s with fdp := v }
def State.putVerFuses (s : State) (v : Nat) : State := { s with verFuses := v }
def State.putLostGen (s : State) (v : Nat) : State := { s with lostGen := v }
def State.putLostAgain (s : State) (v : List (Nat × Nat)) : State := { s with lostAgain := v }
def State.putAccum (s : State) (v : FMap (List (List Byte))) : State := { s with accum := v }
def State.putBoundSent (s : State) (v : Nat) : State := { s with boundSent := v }
def State.putZoneUsed (s : State) (v : FMap W64) : State := { s with zoneUsed := v }
def State.putClean (s : State) (v : Bool) : State := { s with clean := v }

/-- A die family before the die-family table is read (DESIGN CHOICE, log entry 81). -/
def DieFamily.unread : DieFamily where
  model := 0
  planes := 0
  halves := 0
  blocks := 0
  pagesTlc := 0
  pagesQlc := 0
  pagesPslc := 0
  qlc := false
  ratedPe := 0
  trMax := 0
  tprogMax := 0
  tbersMax := 0
  tflWarn := 0
  tflStop := 0
  refreshAge := 0
  spare := 0
  desc := []

/-- The machine right after power-up, before PERST_n is deasserted for the first time: every station register at its reset
value, every memory empty, every core stopped, and no command waiting. -/
def State.reset : State where
  pending := []
  free := 0
  out := []
  boot := { strapped := false, perstLow := false, down := true, pwrFail := false, src := 0, settle := false, tripped := false }
  tick := 0
  win := .fault
  gap := false
  regs := []
  regPend := []
  cores := []
  cluster := []
  tun := []
  tunBufs := []
  tunMin := []
  tunMinPend := []
  sramErr := []
  heldBack := []
  rtHit := []
  rtClock := 0
  rtUntracked := false
  dram := []
  dr := { fit := [], logical := [], lsize := [], delays := none, spare := [], spent := false, mig := [], bad := [], logged := 0, inTick := 0, lost := 0,
          posted := false, owed := false }
  poison := []
  ingot := []
  nor := []
  norUnk := []
  pat := { op := none, bulk := none }
  tdly := []
  scrub := none
  fbuf := []
  rings := []
  haz := []
  marks := []
  wsnFloor := none
  health := []
  qPend := []
  reqs := []
  aborts := []
  gateShut := false
  sqs := []
  cqs := []
  cmds := []
  resets := []
  ctrls := []
  arbs := []
  credit := []
  taken := []
  fetchLeft := 0
  rotLast := 0
  rotFirst := none
  hazStall := []
  span := []
  spanOut := []
  spanIn := []
  resOut := []
  jobs := []
  finishing := []
  greads := []
  spanNum := []
  spanArr := 0
  dups := []
  dupGen := []
  rlogPos := 0
  members := []
  peerVia := []
  groups := []
  peerBound := 0
  returned := false
  lostRanges := []
  wmap := []
  wfin := []
  wheld := []
  preserve := false
  kept := []
  metaOpen := []
  portA := none
  restartDue := []
  pings := []
  chain := 0
  position := 0
  power := 0
  powerOp := 0
  fsn := 1
  ns := []
  volCap := []
  rsv := []
  tokCount := []
  fullZones := []
  fam := DieFamily.unread
  params := { riser := 50, spread := 256, factor := 120, patrol := 168, deadline := 300, share := 5 }
  alm := { held := 0, oldest := 0, next := 0, rmark := 0, lost := 0, pcyc := 0, optime := 0, rdy := false, queue := [],
           done := [], woke := false }
  domeEntry := []
  domeWake := []
  domeAgreed := []
  readAt := []
  sensorFail := []
  tripCount := 0
  rise := []
  stopped := false
  coolSince := none
  events := []
  dies := []
  chans := []
  accs := []
  ldpc := []
  nand := []
  blkErased := []
  vault := []
  sessions := []
  trngRestarts := []
  drbgLeft := none
  imageId := 0
  nsInfo := []
  care := { blocks := [], erases := [], extents := [], nextSerial := 1, ladders := [], sweeps := [], wearing := [], levels := [],
            levelSeq := 0, ckpt := none, test := none, results := [], sanit := 0 }
  history := { entries := [], hour := 0, base := [], die := 0x8000, pkg := 0x8000, ticks := 0, busy := false, warnMin := 0,
               critMin := 0 }
  fw := { stage := none, pieces := [], run := none, hand := none, bad := [], proofs := [], fresh := [], swapped := false,
          markDue := none }
  trust := { owners := [], svnMin := [], debugNext := false, hist := [], lost := false, conns := [], holders := [], resp := [] }
  fdp := { on := false, events := [], hostBytes := 0, mediaBytes := 0, erasedBytes := 0 }
  verFuses := 0
  lostGen := 0
  lostAgain := []
  accum := []
  boundSent := 0
  zoneUsed := []
  clean := false

end Sys2Proof.Machine
end

