-- ==== Sys2Proof/Machine/Nand.lean ====
section
/-! DEFINITION. Location words (R110), the NAND array as frames, and what a program or erase leaves
behind when it is cut (R124, R125, R129). -/

namespace Sys2Proof.Machine

/-- The location word of a grain's place (R110). -/
def mkLoc (ch ce lun pl blk page frame half member : Nat) : W64 :=
  w64 (ch % 32 + ce % 8 * 2 ^ 5 + lun % 8 * 2 ^ 8 + pl % 4 * 2 ^ 11 + blk % 65536 * 2 ^ 13 +
    page % 4096 * 2 ^ 29 + frame % 4 * 2 ^ 41 + half % 2 * 2 ^ 43 + member % 256 * 2 ^ 44)

def locChan (w : W64) : Nat := fld w 0 5
def locCe (w : W64) : Nat := fld w 5 3
def locLun (w : W64) : Nat := fld w 8 3
def locPlane (w : W64) : Nat := fld w 11 2
def locBlock (w : W64) : Nat := fld w 13 16
def locPage (w : W64) : Nat := fld w 29 12
def locFrame (w : W64) : Nat := fld w 41 2
def locHalf (w : W64) : Nat := fld w 43 1
def locMember (w : W64) : Nat := fld w 44 8

/-- Position of a die on its channel: CE × 8 + LUN (R254). -/
def locDie (w : W64) : Nat := locCe w * 8 + locLun w

def dieReset (_ : Nat) : Die := { op := none, set := none, status := 0, fails := 0, feats := [] }

def chanReset (_ : Nat) : Chan where
  pc := 0
  began := false
  cur := none
  sel := none
  outcome := 0
  timer := none
  expired := false
  counter := 0
  idx := 0
  ready := false
  failBit := false
  susp := false
  busGrant := false
  seqPc := 0
  seqStack := []
  seqRun := false
  seqDone := false
  ce := []
  xfer := false
  polled := 0
  cutDies := []
  checks := []

def State.die (s : State) (ch d : Nat) : Die := FMap.get dieReset s.dies (ch * 64 + d)
def State.setDie (s : State) (ch d : Nat) (x : Die) : State := s.putDies (FMap.set dieReset s.dies (ch * 64 + d) x)
def State.chan (s : State) (ch : Nat) : Chan := FMap.get chanReset s.chans ch
def State.setChan (s : State) (ch : Nat) (x : Chan) : State := s.putChans (FMap.set chanReset s.chans ch x)

/-- Operand word `i` of a request, at +8 × i. -/
def Req.op (r : Req) (i : Nat) : W64 := r.ops.getD i 0

/-- Location word, channel and die of a verb. -/
def Req.loc (r : Req) : W64 := r.op 0
def Req.chanNo (r : Req) : Nat := locChan r.loc
def Req.dieNo (r : Req) : Nat := locDie r.loc

/-- The plane mask of a program or erase. -/
def Req.planeMask (r : Req) : Nat := fld (r.op 2) 0 4

/-- The planes of a mask, ascending. -/
def maskPlanes (m : Nat) : List Nat := (List.range 4).filter (fun p => m / 2 ^ p % 2 = 1)

/-- Mode of a program: 0 TLC, 1 QLC foggy, 2 QLC fine, 3 pSLC. -/
def Req.progMode (r : Req) : Nat := fld r.imm 0 2

/-- Pages of a wordline in a program mode (R124). -/
def progPages (m : Nat) : Nat :=
  match m with
  | 0 => 3
  | 3 => 1
  | _ => 4

/-! ## The NAND array -/

/-- Key of a block. -/
def blkKey (ch d pl blk : Nat) : Nat := ((ch * 64 + d) * 4 + pl) * 65536 + blk

/-- Key of a frame. -/
def frameKey (bk page half frame : Nat) : Nat := bk * 32768 + page * 8 + half * 4 + frame

/-! ## Scrambling -/

/-- One step of the scrambler's register, 23 bits of the sequence of x^23 + x^18 + 1: the next bit is the sum of the
bits 23 and 18 places back (R326, DESIGN CHOICE, log entry 130). -/
def scrStep (r : Nat) : Nat := (2 * r + (r / 2 ^ 22 + r / 2 ^ 17) % 2) % 2 ^ 23

/-- Eight steps: the register, and the byte they put out, first bit lowest. -/
def scrByte (r : Nat) : Nat × Nat :=
  (List.range 8).foldl (fun p i => let q := scrStep p.1
    (q, p.2 + q % 2 * 2 ^ i)) (r, 0)

/-- Bytes added to the sequence from register `r` on; scrambling and descrambling are one operation. -/
def scramble (r : Nat) : List Byte → List Byte
  | [] => []
  | b :: bs =>
    let p := scrByte r
    (b ^^^ BitVec.ofNat 8 p.2) :: scramble p.1 bs

/-- Seed of a frame: bits [43:11] of its location word mod 2^23 - 1, plus 1 (R326). -/
def scrSeed (k : Nat) : Nat :=
  let bk := k / 32768
  let at_ := bk / 65536 % 4 + bk % 65536 * 2 ^ 2 + k / 8 % 4096 * 2 ^ 18 + k % 4 * 2 ^ 30 + k / 4 % 2 * 2 ^ 32
  at_ % (2 ^ 23 - 1) + 1

/-- The 4,608 bytes of a frame as written: the scrambled bytes and their parity (R326). -/
def codeWord (cells : List Byte) : List Byte := cells ++ (List.range 480).map (Config.ldpcParity cells)

/-! ## Frames -/

/-- The cells of a frame. -/
def State.cellsAt (s : State) (k : Nat) : NFrame :=
  match s.nand.find? (fun p => p.1 = k) with
  | some p => p.2
  | none => if FMap.get (fun _ => false) s.blkErased (k / 32768) then .erased else .undef

/-- What a frame holds, descrambled. -/
def State.frameAt (s : State) (k : Nat) : NFrame :=
  match s.cellsAt k with
  | .data bs => .data (scramble (scrSeed k) bs)
  | f => f

/-- The state with one frame's contents; data is scrambled at its place. -/
def State.setFrame (s : State) (k : Nat) (f : NFrame) : State :=
  s.putNand (FMap.insert s.nand k (match f with
    | .data bs => .data (scramble (scrSeed k) bs)
    | g => g))

/-- A block's frames all become as `erased` says. -/
def State.resetBlock (s : State) (bk : Nat) (erased : Bool) : State :=
  (s.putNand (s.nand.filter (fun p => p.1 / 32768 ≠ bk))).putBlkErased (FMap.set (fun _ => false) s.blkErased bk erased)

/-- The frame keys of a program, in slot order: plane by plane, page by page (R124, R296). -/
def State.progKeys (s : State) (r : Req) : List Nat :=
  (maskPlanes r.planeMask).flatMap (fun pl =>
    let bk := blkKey r.chanNo r.dieNo pl (locBlock r.loc)
    (List.range (progPages r.progMode)).flatMap (fun q =>
      (List.range s.fam.halves).flatMap (fun h =>
        (List.range 4).map (fun f => frameKey bk (locPage r.loc + q) h f))))

/-- Frames whose contents become undefined. -/
def State.spoil (s : State) (ks : List Nat) : State := ks.foldl (fun s k => s.setFrame k .undef) s

/-- What is left behind by a program or erase that fails or is cut (R125, R129). -/
def State.spoilOp (s : State) (r : Req) : State :=
  if r.prim = .fprog then s.spoil (s.progKeys r)
  else if r.prim = .ferase then
    (maskPlanes r.planeMask).foldl (fun s pl => s.resetBlock (blkKey r.chanNo r.dieNo pl (locBlock r.loc)) false) s
  else s

end Sys2Proof.Machine
end

