-- ==== Sys2Proof/Machine/Ops.lean ====
section
/-! DEFINITION. The named operations over the state: registers, memories, events, credits,
almanac records, program faults and the controller fault reset. -/

namespace Sys2Proof.Machine

/-! ## Station registers -/

/-- Station offset of a register of a block. -/
def sta (block off : Nat) : Nat := block * 0x10000 + off

/-- The stored value of a station register. -/
def State.reg (s : State) (off : Nat) : W64 := FMap.get regReset s.regs off

/-- The state with a station register holding `v`. -/
def State.setReg (s : State) (off : Nat) (v : W64) : State :=
  s.putRegs (FMap.set regReset s.regs off v)

/-- A field of a station register. -/
def State.rfld (s : State) (off lo w : Nat) : Nat := fld (s.reg off) lo w

/-- The state with one field of a station register replaced. -/
def State.setRfld (s : State) (off lo w x : Nat) : State :=
  s.setReg off (setFld (s.reg off) lo w x)

/-- A saturating count in a field of a station register. -/
def State.countRfld (s : State) (off lo w n : Nat) : State :=
  s.setRfld off lo w (satAdd w (s.rfld off lo w) n)

/-! ## Free values -/

/-- The next free word, and the state with the stream advanced (DESIGN CHOICE, log entry 1). -/
def State.takeFree (s : State) : W64 × State :=
  (Config.freeWord s.free, (s.putFree (s.free + 1)))

/-! ## Cores -/

/-- Core `c`. -/
def State.core (s : State) (c : CoreId) : Core := FMap.get (fun _ => Core.reset) s.cores c.toNat

/-- The state with core `c` replaced. -/
def State.setCore (s : State) (c : CoreId) (k : Core) : State :=
  s.putCores (FMap.set (fun _ => Core.reset) s.cores c.toNat k)

/-- Whether core `c` is present: its cluster's bit of ID_PRESENCE.CLUS (R1). -/
def State.corePresent (s : State) (c : CoreId) : Bool := bit (s.reg (sta 0x17 0x10)) (32 + c.toNat / 8)

/-- Every core number. -/
def allCores : List CoreId := (List.range 64).map (BitVec.ofNat 6)

/-- The present cores, in ascending order. -/
def State.presentCores (s : State) : List CoreId := allCores.filter (fun c => s.corePresent c)

/-- Read a general register; g0 reads 0 (R55). -/
def Core.getG (k : Core) (r : GReg) : W64 :=
  if r = 0 then 0 else FMap.get (fun _ => 0) k.g r.toNat

/-- Write a general register; a write to g0 is discarded (R55). -/
def Core.setG (k : Core) (r : GReg) (v : W64) : Core :=
  if r = 0 then k else { k with g := FMap.set (fun _ => 0) k.g r.toNat v }

/-- Read a tag register (R73). -/
def Core.getT (k : Core) (i : Nat) : BitVec 256 := FMap.get (fun _ => 0) k.t i

/-- Write a tag register. -/
def Core.setT (k : Core) (i : Nat) (v : BitVec 256) : Core :=
  { k with t := FMap.set (fun _ => 0) k.t i v }

/-- A slot word of the active table (R31). -/
def Core.slotWord (k : Core) (n : Nat) : W64 :=
  FMap.get (fun _ => 0) (if k.actBank then k.ephB else k.ephA) n

/-- What an unwritten word of core `j`'s banks reads as: 0, and on core 0 the loader's code, which no rule gives (R147,
DESIGN CHOICE, log entry 70). -/
def bankWord0 (j n : Nat) : W64 := if j = 0 ∧ 3072 ≤ n then Config.loaderWord n else 0

/-- A word of core `c`'s active instruction bank. -/
def State.bankWord (s : State) (c : CoreId) (n : Nat) : W64 :=
  let k := s.core c
  FMap.get (bankWord0 c.toNat) (if k.actBank then k.bankB else k.bankA) n

/-- BOUND of the running activation (R34, R172); the fault handler is bounded by its window
alone (R30). -/
def Core.bound (k : Core) : Nat :=
  match k.act with
  | .timed n => fld (k.slotWord n) 16 13
  | .drain n _ => fld (k.slotWord n) 16 13
  | .start => fld k.nstart 16 13
  | _ => 0x10000

/-- LEVEL of the running activation (R47). -/
def Core.level (k : Core) : Nat :=
  match k.act with
  | .timed n => fld (k.slotWord n) 29 3
  | .drain n _ => fld (k.slotWord n) 29 3
  | .start => fld k.nstart 29 3
  | _ => 1

/-- Whether core `c` executes an instruction now: it is in an activation of the current window,
its count has not passed BOUND, and it has not run past the end of the bank (R29, R51, R72). -/
def State.runs (s : State) (c : CoreId) : Bool :=
  let k := s.core c
  s.corePresent c && decide (k.pc.toNat < 4096) && decide (k.cycles ≤ k.bound) &&
  match k.act with
  | .idle => false
  | .faultHandler => decide (s.win = .fault)
  | _ => decide (s.win = .slot)

/-- Count `n` cycles against the activation and, in the slot window, against the tick. -/
def Core.charge (k : Core) (n : Nat) : Core :=
  match k.act with
  | .faultHandler => { k with cycles := k.cycles + n }
  | _ => { k with cycles := k.cycles + n, used := k.used + n,
                  peak := BitVec.ofNat 13 (min (max k.peak.toNat (k.used + n)) 8191) }

/-- The innermost loop that belongs to the current call depth (R70). -/
def Core.openLoop (k : Core) : Option LoopFrame :=
  match k.loops with
  | l :: _ => if l.depth = k.calls.length then some l else none
  | [] => none

/-- The pc after a word that does not itself transfer control: the back-edge of R70 at a loop's
last word, else the next word. -/
def Core.advance (k : Core) : Core :=
  match k.openLoop with
  | some l =>
    if l.last = k.pc then
      if l.count = 1 then { k with loops := k.loops.tail, pc := l.last + 1 }
      else { k with loops := { l with count := l.count - 1 } :: k.loops.tail, pc := l.start }
    else { k with pc := k.pc + 1 }
  | none => { k with pc := k.pc + 1 }

/-- An instruction completes: its charge counts and the pc moves on. -/
def Core.retire (k : Core) (n : Nat) : Core := k.advance.charge n

/-- Whether a taken branch to `tgt` stays inside the open loop (R70). -/
def Core.branchOk (k : Core) (tgt : BitVec 13) : Bool :=
  match k.openLoop with
  | some l => decide (l.start ≤ tgt) && decide (tgt ≤ l.last)
  | none => true

/-! ## Events -/

/-- An event entry (R36). -/
def mkEvent (cls lvl src oc body : Nat) : W64 :=
  w64 (cls % 64 + lvl % 8 * 2 ^ 6 + src % 128 * 2 ^ 9 + oc % 256 * 2 ^ 16 + body % 2 ^ 40 * 2 ^ 24)

/-- Entries free for credits and events: 4,096 less entries held and credits taken (R39, R75). -/
def Core.freeEntries (k : Core) : Nat :=
  4096 - (k.ring.length + k.classQ.length + k.credits)

/-- An event that took no credit waits in its unit for a free ring entry (R88). -/
def State.postWaiting (s : State) (c : CoreId) (e : W64) : State :=
  let k := s.core c
  s.setCore c { k with waiting := k.waiting ++ [e] }

/-- A completion event enters the ring in place of its credit (R39). -/
def State.postCredited (s : State) (c : CoreId) (e : W64) : State :=
  let k := s.core c
  s.setCore c { k with ring := k.ring ++ [e], credits := k.credits - 1 }

/-- An event that no primitive requested, with a level that no rule gives: a free value (DESIGN CHOICE, log entry 26). -/
def State.unitEvent (s : State) (c : CoreId) (cls src body : Nat) : State :=
  let (f, s) := s.takeFree
  s.postWaiting c (mkEvent cls (fld f 0 3) src 0 body)

/-- Events of a core that no handler has taken: in its ring and class queues, and in their units. -/
def Core.held (k : Core) : List W64 := k.ring ++ k.classQ ++ k.waiting

/-- The queue engine posts a host fetch event (R88, R91). -/
def State.postFetch (s : State) (c : CoreId) (e : W64) : State :=
  let k := s.core c
  (s.setCore c { k with fetchEv := k.fetchEv.filter (· ∈ k.held) ++ [e] }).postWaiting c e

/-- The host fetch count of a core (R39). -/
def State.hostFill (s : State) (c : CoreId) : Nat :=
  ((s.core c).held.filter (· ∈ (s.core c).fetchEv)).length

/-! ## The almanac queue -/

/-- Queue an almanac record; a full log or a full queue drops and counts it (R541, R543). -/
def State.almQueue (s : State) (r : AlmRec) : State :=
  if s.alm.held ≥ 1048576 ∨ s.alm.queue.length ≥ 16 then
    s.putAlm { s.alm with lost := satAdd 32 s.alm.lost 1 }
  else s.putAlm { s.alm with queue := s.alm.queue ++ [{ r with optime := s.alm.optime }] }

/-- A hardware or boot record: source 0, severity as the device chooses (R537, R538). -/
def State.almRecord (s : State) (code : Nat) (params : List W64) : State :=
  s.almQueue { code := BitVec.ofNat 16 code, sev := Config.almSeverity code,
               src := if code < 0x1000 then 0 else 2, params := params, optime := 0, req := none }

/-! ## The controller fault reset -/

/-- The repeat tracker's registers (R463). -/
def isTrackerReg (off : Nat) : Bool := decide (sta 0x12 0x100 ≤ off) && decide (off < sta 0x12 0x300)

/-- Register values after a controller fault reset: the repeat tracker is cleared, the ingot store
must recover, and core 0 returns to boot mode (R469, R476, R572, R574). -/
def State.faultRegs (s : State) : State :=
  let s := s.putRegs (s.regs.filter (fun p => !isTrackerReg p.1))
  let s := (s.setRfld (sta 9 0) 0 1 0).setRfld (sta 0x13 0) 0 1 1
  let s := s.setReg (sta 0x12 0x308) 0
  (List.range 32).foldl (fun s ch => (s.setRfld (sta (0x40 + ch) 8) 0 1 0)) (s.setReg (sta 6 8) 0)

/-- The generation rises by one; it is durable in the ingot store (R389, R474). -/
def State.raiseGen (s : State) : State :=
  let g := (s.rfld (sta 0xD 0x18) 0 32 + 1) % 2 ^ 32
  (s.setReg (sta 0xD 0x18) (w64 g)).putIngot (FMap.setList (fun _ => 0) s.ingot 0xE100008 (toBytes 8 g))

/-- Sessions end, and their session slots are cleared (R497, R504). -/
def State.dropSessions (s : State) (f : Session → Bool) : State :=
  s |>.putVault ((s.sessions.filter f).foldl (fun v x => FMap.set (fun _ => none) v x.slot none) s.vault)
    |>.putSessions (s.sessions.filter (fun x => !f x))

/-- ID_BOOT takes a value; each change is sent on the UART (R573, DESIGN CHOICE, log entry 151). -/
def State.setBootId (s : State) (v : W64) : State :=
  if s.reg (sta 0x17 0x28) = v then s else (s.setReg (sta 0x17 0x28) v).putOut (s.out ++ [Out.uart v])

/-- A field of ID_BOOT changes. -/
def State.setBootFld (s : State) (lo w v : Nat) : State := s.setBootId (setFld (s.reg (sta 0x17 0x28)) lo w v)

/-- READY falls, when it is high (R572, R575). -/
def State.readyLow (s : State) : State :=
  if bit (s.reg (sta 0x17 0x28)) 4 then
    let s := s.setBootFld 4 1 0
    s.putOut (s.out ++ [Out.ready false])
  else s

/-- A worker's links retrain in a controller fault reset, and a RESTART becomes due to both managers (R384, R397). -/
def State.faultSpan (s : State) : State :=
  let own := s.rfld (sta 0x17 0x18) 8 8
  let s := s.putRestartDue ([0, 1].filter (fun d => !(bit (s.reg (sta 0x17 0x18)) 5 && decide (d = own))))
  if s.rfld (sta 0x17 0x18) 2 2 = 1 then
    (List.range 4).foldl (fun (s : State) p =>
      if s.rfld (sta 0xD (0x100 + 0x40 * p)) 0 3 = 3 then s.setRfld (sta 0xD (0x100 + 0x40 * p)) 0 3 4 else s) s
  else s

/-- The device stops and loses its on-chip state (R469).  Programs and erases in progress run to their end on the
dies; what they leave is undefined. -/
def State.stopDevice (s : State) : State :=
  let s := s.readyLow
  let s := (s.reqs.filter (fun r => decide (r.phase = .started))).foldl State.spoilOp s
  let s := (s.faultRegs.raiseGen.faultSpan).dropSessions (fun _ => true)
  s |>.putBoot { s.boot with down := true }
    |>.putCores [] |>.putCluster [] |>.putTun [] |>.putTunBufs [] |>.putFbuf [] |>.putRings [] |>.putHaz [] |>.putMarks []
    |>.putSramErr [] |>.putRtHit [] |>.putQPend [] |>.putReqs [] |>.putAborts [] |>.putGateShut false |>.putCmds [] |>.putResets [] |>.putRegPend []
    |>.putTunMinPend [] |>.putAccs [] |>.putLdpc []
    |>.putChans (s.chans.filterMap (fun p =>
      if p.2.checks.isEmpty then none else some (p.1, { chanReset p.1 with checks := p.2.checks })))
    |>.putDies (s.dies.filterMap (fun p => if p.2.fails = 0 then none else some (p.1, { dieReset p.1 with fails := p.2.fails })))
    |>.putPoison (s.poison.filter (fun p => decide (p.1 / 2 ^ 48 = 1) || decide (p.1 / 2 ^ 48 = 4)))
    |>.putCtrls (s.ctrls.map (fun p => (p.1, { p.2 with cfs := true, aer := [] })))
    |>.putPings [] |>.putSpanOut [] |>.putSpanIn [] |>.putResOut [] |>.putJobs [] |>.putFinishing [] |>.putGreads [] |>.putKept [] |>.putSpanNum [] |>.putDups [] |>.putDupGen [] |>.putRlogPos 0
    |>.putArbs [] |>.putCredit [] |>.putTaken [] |>.putFetchLeft 0 |>.putHazStall [] |>.putEvents [] |>.putDomeEntry []
    |>.putAlm { s.alm with done := [], queue := s.alm.queue.map (fun r => { r with req := none }) }
    |>.putScrub none
    |>.putCare { s.care with ladders := [], test := none }
    |>.putFw { s.fw with hand := none, stage := none, pieces := [], markDue := none }
    |>.putWsnFloor none |>.putFsn 1

/-- A controller fault reset with cause and parameters (R469, R587). -/
def State.faultReset (s : State) (cause p1 p2 : Nat) : State :=
  (s.almRecord 0x30 [w64 cause, w64 p1, w64 p2, s.tick, 0]).stopDevice

/-! ## Program faults and cuts -/

/-- Queue a P0 event; a seventeenth causes a controller fault reset (R40). -/
def State.postP0 (s : State) (c : CoreId) (e : W64) : State :=
  let k := s.core c
  if k.p0.length ≥ 16 then s.faultReset 4 c.toNat 0
  else s.setCore c { k with p0 := k.p0 ++ [e] }

/-- The slot of an activation as P0 events and records give it: 63 for a start activation. -/
def Activation.slotField : Activation → Nat
  | .timed n => n
  | .drain n _ => n
  | _ => 63

/-- Whether the activation is a drain dispatch. -/
def Activation.isDrain : Activation → Bool
  | .drain _ _ => true
  | _ => false

/-- BODY of the P0 event of a fault (R82). -/
def p0Body (k : Core) (pcw trapK : Nat) : Nat :=
  pcw % 4096 + b2n k.actBank * 2 ^ 12 + k.act.slotField * 2 ^ 13 + b2n k.act.isDrain * 2 ^ 19 +
    trapK % 2 ^ 14 * 2 ^ 20 + b2n (decide (k.act = .start)) * 2 ^ 34

/-- The five steps of R51 for fault code `code` at word `pcw`: the activation is cut, no further
slot runs in the tick, the core is faulted, an almanac record is written and a P0 event is
queued.  Inside the fault handler a program fault is a controller fault reset (R83). -/
def State.cut (s : State) (c : CoreId) (code pcw trapK : Nat) : State :=
  let k := s.core c
  if k.act = .faultHandler then s.faultReset 5 c.toNat code else
  let counted := decide (code = 0xE0) || decide (code = 0xE1)
  let k' := { k with
    act := .idle, cut := true, state := .faulted,
    ovr := if code = 0xE0 then BitVec.ofNat 8 (satAdd 8 k.ovr.toNat 1) else k.ovr,
    bex := if code = 0xE1 then BitVec.ofNat 8 (satAdd 8 k.bex.toNat 1) else k.bex,
    lastSlot := if counted then BitVec.ofNat 6 k.act.slotField else k.lastSlot,
    startCut := if counted then decide (k.act = .start) else k.startCut }
  let slotParam := if k.act = .start then 0xFFFF else k.act.slotField
  let s := (s.setCore c k').almRecord (0x20 + code % 8)
    [w64 c.toNat, w64 slotParam, s.tick, w64 pcw, s.imageId]
  let (f, s) := s.takeFree
  s.postP0 c (mkEvent (fld f 0 6) 0 c.toNat code (p0Body k pcw trapK))

/-- A faulting instruction: it has no effect, its charge counts, and R51 follows (R80, R81). -/
def State.progFault (s : State) (c : CoreId) (code charge trapK : Nat) : State :=
  let k := s.core c
  (s.setCore c (k.charge charge)).cut c code k.pc.toNat trapK

/-! ## Running one instruction -/

/-- What an instruction answers. -/
abbrev Res := Host.Outcome State Fault Refusal

/-- The core part of an instruction that always completes: `f`, then the charge and the pc. -/
def State.stepCore (s : State) (c : CoreId) (charge : Nat) (f : Core → Core) : State :=
  s.setCore c ((f (s.core c)).retire charge)

/-- An illegal word: fault 0xE2, counting 1 cycle (R64, R80). -/
def State.illegal (s : State) (c : CoreId) : State := s.progFault c 0xE2 1 0

end Sys2Proof.Machine
end

