-- ==== Sys2Proof/Machine/Flags.lean ====
section
/-! DEFINITION. The outcome codes of R90 and the oc register, the device's only flags. -/

namespace Sys2Proof.Machine

/-- Core `c` takes an outcome code in oc and a result in gA, then retires (R57, R79). -/
def State.syncDone (s : State) (c : CoreId) (charge : Nat) (a : GReg) (oc : Byte) (v : W64) : State :=
  s.stepCore c charge (fun k => { k.setG a v with oc := oc })

/-- Core `c` takes an outcome code in oc, gA unchanged, then retires. -/
def State.syncFail (s : State) (c : CoreId) (charge : Nat) (oc : Byte) : State :=
  s.stepCore c charge (fun k => { k with oc := oc })

/-- Accepted or done. -/
def ocDone : Byte := 0x00
/-- Pool empty for this owner class. -/
def ocPoolEmpty : Byte := 0x10
/-- No credit. -/
def ocNoCredit : Byte := 0x11
/-- Engine request queue full. -/
def ocQueueFull : Byte := 0x12
/-- Ring full. -/
def ocRingFull : Byte := 0x13
/-- Ring empty. -/
def ocRingEmpty : Byte := 0x14
/-- Almanac full. -/
def ocAlmFull : Byte := 0x15
/-- Hazard table full. -/
def ocHazFull : Byte := 0x16
/-- Buffer not held, entry buffer, or reference count at 255. -/
def ocBuffer : Byte := 0x17
/-- Operand out of range. -/
def ocRange : Byte := 0x1F
/-- Unit absent. -/
def ocAbsent : Byte := 0x7F
/-- The unit's dome is not on. -/
def ocDomeOff : Byte := 0x71
/-- Poisoned source. -/
def ocPoison : Byte := 0xF1

end Sys2Proof.Machine
end

