-- ==== Sys2Proof/Machine/Ras.lean ====
section
/-! DEFINITION. On-chip SRAM protection: error injection, the repeat tracker and RAS events
(R462 to R468). -/

namespace Sys2Proof.Machine

/-- Key of an SRAM word among the words in error. -/
def sramKey (arr word : Nat) : Nat := arr * 0x1000000 + word

/-- Post a RAS event of a kind with its parameter, to RAS_RTCFG's core and class (R468). -/
def State.rasEvent (s : State) (kind param : Nat) : State :=
  let cfg := s.reg (sta 0x12 0)
  s.unitEvent (BitVec.ofNat 6 (fld cfg 8 6)) (fld cfg 14 6) 0x4A (kind % 128 + param % 2 ^ 33 * 2 ^ 7)

/-- Entry `e` of the repeat tracker. -/
def rtOff (e : Nat) : Nat := sta 0x12 (0x100 + 8 * e)

/-- The valid tracker entry of a word, if any. -/
def State.rtFind (s : State) (arr word : Nat) : Option Nat :=
  (List.range 64).find? (fun e =>
    bit (s.reg (rtOff e)) 49 && decide (s.rfld (rtOff e) 0 8 = arr % 256) &&
    decide (s.rfld (rtOff e) 8 24 = word % 0x1000000))

/-- A free tracker entry. -/
def State.rtFree (s : State) : Option Nat :=
  (List.range 64).find? (fun e => !bit (s.reg (rtOff e)) 49)

/-- Among entries that have not raised an event, the least recently hit. -/
def State.rtVictim (s : State) : Option Nat :=
  ((List.range 64).filter (fun e => !bit (s.reg (rtOff e)) 48)).foldl
    (fun best e => match best with
      | none => some e
      | some b => if FMap.get (fun _ => 0) s.rtHit e < FMap.get (fun _ => 0) s.rtHit b then some e else some b)
    none

/-- One correction counts in entry `e`; the threshold raises the event once (R464). -/
def State.rtCount (s : State) (e arr word : Nat) (fresh : Bool) : State :=
  let old := if fresh then 0 else s.rfld (rtOff e) 32 16
  let raised := !fresh && bit (s.reg (rtOff e)) 48
  let n := satAdd 16 old 1
  let thr := s.rfld (sta 0x12 0) 0 8
  let raise := !raised && decide (thr ≤ n)
  let v := w64 (arr % 256 + word % 0x1000000 * 2 ^ 8 + n * 2 ^ 32 + b2n (raised || raise) * 2 ^ 48 + 2 ^ 49)
  let s := s.setReg (rtOff e) v
  let s := (s.putRtHit (FMap.set (fun _ => 0) s.rtHit e (s.rtClock + 1))).putRtClock (s.rtClock + 1)
  if raise then
    (s.rasEvent 1 (arr % 256 + word % 0x1000000 * 2 ^ 8)).almRecord 0x31 [w64 arr, w64 word, w64 n, 0, 0]
  else s

/-- A read that corrected one bit of an SRAM word (R463). -/
def State.rtCorrected (s : State) (arr word : Nat) : State :=
  let s := s.countRfld (sta 0x12 8) 32 32 1
  match s.rtFind arr word with
  | some e => s.rtCount e arr word false
  | none =>
    match s.rtFree with
    | some e => s.rtCount e arr word true
    | none =>
      match s.rtVictim with
      | some e => s.rtCount e arr word true
      | none =>
        let s' := s.countRfld (sta 0x12 8) 0 32 1
        if s.rtUntracked then s'
        else (s'.almRecord 0x32 [w64 arr, w64 word, 1, 0, 0]).putRtUntracked true

/-- Reading words `w` to `w + n - 1` of an array: a word with one bad bit is corrected and
tracked, one with two or more causes a fault reset (R463, R466, R469). -/
def State.sramRead (s : State) (arr w n : Nat) : State :=
  let hits := s.sramErr.filter (fun p => decide (sramKey arr w ≤ p.1) && decide (p.1 < sramKey arr (w + n)))
  hits.foldl (fun s p =>
    if p.2 ≥ 2 then s.faultReset 1 arr (p.1 % 0x1000000) else s.rtCorrected arr (p.1 % 0x1000000)) s

/-- Writing words `w` to `w + n - 1` of an array repairs them; an armed flip (R466) that selects
one of them leaves it with the bits of its masks in error, and disarms. -/
def State.sramWrite (s : State) (arr w n : Nat) : State :=
  let s := s.putSramErr (s.sramErr.filter (fun p =>
    !(decide (sramKey arr w ≤ p.1) && decide (p.1 < sramKey arr (w + n)))))
  let sel := s.reg (sta 0x12 0x310)
  if bit sel 40 && decide (fld sel 0 8 = arr) && decide (w ≤ fld sel 8 24) && decide (fld sel 8 24 < w + n) then
    let bad := popc64 (s.reg (sta 0x12 0x318)).toNat + popTo (fld sel 32 8) 8
    s.setReg (sta 0x12 0x310) (setBit sel 40 false)
      |>.putSramErr (FMap.set (fun _ => 0) s.sramErr (sramKey arr (fld sel 8 24)) bad)
  else s

/-! ## The poison log -/

/-- Station offset of entry `i` of the poison log (R466). -/
def plogReg (i : Nat) : Nat := sta 0x12 (0x400 + 8 * (i % 4096))

/-- Post RAS event kind 4, at most once per tick; a second one waits for the next tick (R468). -/
def State.plogEvent (s : State) : State :=
  if s.dr.posted then s.putDr { s.dr with owed := true }
  else (s.rasEvent 4 ((s.dr.logged - 1) % 4096)).putDr { s.dr with posted := true }

/-- Enter a line in the poison log; a ring that one tick has filled loses it (R468). -/
def State.plogEnter (s : State) (line : Nat) : State :=
  if 4096 ≤ s.dr.inTick then
    let n := satAdd 33 s.dr.lost 1
    (s.putDr { s.dr with lost := n } : State).rasEvent 6 n
  else
    let s := s.setReg (plogReg s.dr.logged) (w64 (line % 2 ^ 33))
    (s.putDr { s.dr with logged := s.dr.logged + 1, inTick := s.dr.inTick + 1 } : State).plogEvent

/-- The tick boundary's part of the poison log. -/
def State.plogTick (s : State) : State :=
  let owed := s.dr.owed
  let s := s.putDr { s.dr with posted := false, owed := false, inTick := 0 }
  if owed then s.plogEvent else s

/-- The DRAM line that holds a word, by its key among the poisoned words. -/
def dramLine (k : Nat) : Option Nat := if 2 ^ 48 ≤ k ∧ k < 2 * 2 ^ 48 then some ((k - 2 ^ 48) / 8) else none

/-- Whether a DRAM line holds a poisoned word. -/
def State.linePoisoned (s : State) (line : Nat) : Bool := s.poison.any (fun p => dramLine p.1 = some line)

/-- Poison words; DRAM lines that were not poisoned enter the log (R445, R468). -/
def State.poisonKeys (s : State) (ks : List Nat) : State :=
  let fresh := ((ks.filterMap dramLine).dedup).filter (fun l => !s.linePoisoned l)
  fresh.foldl State.plogEnter (s.putPoison (ks.foldl (fun m k => FMap.set (fun _ => false) m k true) s.poison))

/-! ## Fetching an instruction -/

/-- Continue unless the reading has ended in a controller fault reset. -/
def State.unlessReset (s0 s : State) (f : State → State) : State := if s.boot.down && !s0.boot.down then s else f s

/-- Index in the core's instruction store of word `n` of its active bank (R59, R462). -/
def Core.bankIndex (k : Core) (n : Nat) : Nat := n % 4096 + b2n k.actBank * 4096

/-- Core `c` fetches its next word: a correctable error is corrected and counted, an uncorrectable one causes a
controller fault reset (R83, R463). -/
def State.fetched (s : State) (c : CoreId) : State :=
  s.sramRead c.toNat ((s.core c).bankIndex (s.core c).pc.toNat) 1

/-- Core `c` executes one instruction with `f`; a core that is not executing leaves the state as
it stands (R29, DEDUCED, log entry 4). -/
def onCore (s : State) (c : CoreId) (f : State → State) : Res :=
  .next (if s.runs c then s.unlessReset (s.fetched c) f else s)

end Sys2Proof.Machine
end

