-- ==== Sys2Proof/Machine/Operands.lean ====
section
/-! DEFINITION. Operand forms: the core address map and the access checker (R58 to R62), mover
addresses (R130), tundish handles (R106), operand blocks and result records (R76). -/

namespace Sys2Proof.Machine

/-! ## Byte memories -/

/-- What a byte of DRAM, SRAM or MRAM that nothing has written reads as (DESIGN CHOICE, log entry 5). -/
def zeroByte (_ : Nat) : Byte := 0

/-- An erased NOR byte reads all ones. -/
def norByte (_ : Nat) : Byte := 0xFF

/-- The bytes of a little-endian read of `n` bytes. -/
def rdBytes (m : FMap Byte) (a n : Nat) : List Byte := FMap.getList zeroByte m a n

/-- A little-endian number of `n` bytes. -/
def rdNum (m : FMap Byte) (a n : Nat) : Nat := ofBytes (rdBytes m a n)

/-- A 64-bit little-endian word. -/
def rdW (m : FMap Byte) (a : Nat) : W64 := w64 (rdNum m a 8)

/-- Write bytes at consecutive addresses. -/
def wrBytes (m : FMap Byte) (a : Nat) (bs : List Byte) : FMap Byte := FMap.setList zeroByte m a bs

/-- Write a little-endian number of `n` bytes. -/
def wrNum (m : FMap Byte) (a n v : Nat) : FMap Byte := wrBytes m a (toBytes n v)

/-- Write 64-bit little-endian words at consecutive addresses. -/
def wrWords (m : FMap Byte) (a : Nat) : List W64 → FMap Byte
  | [] => m
  | w :: ws => wrWords (wrNum m a 8 w.toNat) (a + 8) ws

/-! ## The core address map -/

/-- A memory and an offset in it. -/
inductive Loc where
  /-- The core's own data store. -/
  | data (a : Nat)
  /-- Cluster memory, cluster × 2^20 + offset. -/
  | cluster (a : Nat)
  /-- On-chip tundish. -/
  | tun (a : Nat)
  /-- Instruction-store window: core and word, 0 to 4,095 bank A, 4,096 to 8,191 bank B. -/
  | inst (c : Nat) (w : Nat)
  /-- Station register by 24-bit offset. -/
  | station (off : Nat)
  | dram (a : Nat)
  /-- Frame buffer: channel × 2^17 + slot × 4,608 + offset. -/
  | fbuf (a : Nat)
  | ingot (a : Nat)
  deriving DecidableEq, Repr

/-- The location of an access of `n` bytes at address `a` of space `sp`, or none where R58 lists
no such address or lists it in another space. -/
def coreLoc (c : CoreId) (sp a n : Nat) : Option Loc :=
  if sp = 0 ∧ a + n ≤ 0x10000 then some (.data a)
  else if sp = 1 ∧ 0x100000 ≤ a ∧ a + n ≤ 0x1C0000 then
    some (.cluster (c.toNat / 8 * 0x100000 + (a - 0x100000)))
  else if sp = 2 ∧ 0x20000000 ≤ a ∧ a + n ≤ 0x22000000 then some (.tun (a - 0x20000000))
  else if sp = 2 ∧ 0x40000000 ≤ a ∧ a + n ≤ 0x40400000 then
    some (.inst ((a - 0x40000000) / 0x10000) ((a - 0x40000000) % 0x10000 / 8))
  else if sp = 2 ∧ 0xF000000000 ≤ a ∧ a + n ≤ 0xF001000000 then some (.station (a - 0xF000000000))
  else none

/-! ## The access checker -/

/-- A permission of a checker region. -/
inductive Perm where
  | rd | wr | at
  deriving DecidableEq, Repr

/-- The permission's bit of SCHED_CHK_LIMIT. -/
def Perm.pos : Perm → Nat
  | .rd => 1
  | .wr => 2
  | .at => 3

/-- Whether region `n` is enabled, grants `p` and covers bytes `a` to `a + len - 1` (R61). -/
def Core.regionOk (k : Core) (n : Nat) (p : Perm) (a len : Nat) : Bool :=
  let b := FMap.get (fun _ => (0 : W64)) k.chk (2 * n)
  let l := FMap.get (fun _ => (0 : W64)) k.chk (2 * n + 1)
  bit l 0 && bit l p.pos && decide (fld b 6 50 * 64 ≤ a) && decide (a + len ≤ fld l 6 50 * 64 + 64)

/-- Whether boot mode is on (R574). -/
def State.bootMode (s : State) : Bool := bit (s.reg (sta 0x13 0)) 0

/-- Whether a core is in one of the loader's slots (R147). -/
def State.loaderSlot (s : State) (c : CoreId) : Bool :=
  decide (c = 0) && match (s.core c).act with
    | .timed n => decide (n = 62) || decide (n = 63)
    | .drain n _ => decide (n = 62) || decide (n = 63)
    | _ => false

/-- Whether the checker of core `c` lets the access pass; in boot mode the checker of core 0
passes every access (R61, R62).  Regions 14 and 15 of core 0 count in the loader's slots only
(R149). -/
def State.checkOk (s : State) (c : CoreId) (p : Perm) (a len : Nat) : Bool :=
  (decide (c = 0) && s.bootMode) ||
  (List.range 16).any (fun n =>
    (decide (c ≠ 0) || decide (n < 14) || s.loaderSlot c) && (s.core c).regionOk n p a len)

/-! ## Tundish buffers -/

/-- Size of a buffer of pool `p` (R106). -/
def poolSize (p : Nat) : Nat :=
  match p with
  | 0 => 512
  | 1 => 4096
  | 2 => 16384
  | 3 => 65536
  | _ => 262144

/-- First handle ADDR of the extension part (R106). -/
def extBase : Nat := 0x1000000000

/-- The handle of a buffer (R106). -/
def mkHandle (addr pool owner : Nat) : W64 := w64 (addr + pool * 2 ^ 48 + owner * 2 ^ 52)

/-- The allocated buffer that holds bytes `a` to `a + n - 1`, by its ADDR. -/
def State.bufAt (s : State) (a n : Nat) : Option (Nat × TunBuf) :=
  s.tunBufs.find? (fun p => decide (p.1 ≤ a) && decide (a + n ≤ p.1 + poolSize p.2.pool))

/-- The allocated buffer that a handle names. -/
def State.bufOf (s : State) (h : W64) : Option (Nat × TunBuf) :=
  s.tunBufs.find? (fun p => decide (mkHandle p.1 p.2.pool p.2.owner = h))

/-- A tundish buffer replaced, kept in ascending ADDR. -/
def State.setBuf (s : State) (a : Nat) (b : TunBuf) : State :=
  s.putTunBufs (FMap.insert s.tunBufs a b)

/-- A tundish buffer freed. -/
def State.dropBuf (s : State) (a : Nat) : State := s.putTunBufs (FMap.erase s.tunBufs a)

/-- One reference less; the last one frees the buffer (R108). -/
def State.unref (s : State) (a : Nat) : State :=
  match s.tunBufs.find? (fun p => p.1 = a) with
  | some (_, b) => if b.refs ≤ 1 then s.dropBuf a else s.setBuf a { b with refs := b.refs - 1 }
  | none => s

/-- One reference more. -/
def State.addRef (s : State) (a : Nat) : State :=
  match s.tunBufs.find? (fun p => p.1 = a) with
  | some (_, b) => s.setBuf a { b with refs := b.refs + 1 }
  | none => s

/-- Counts of the parts of pool `p`: on-chip and extension (R479). -/
def State.poolCount (s : State) (p : Nat) (ext : Bool) : Nat :=
  if ext then s.rfld (sta 4 (0x100 + 8 * p)) 20 28 else s.rfld (sta 4 (0x100 + 8 * p)) 0 17

/-- First ADDR of a part: the parts lie from 0 in descending buffer size, pool 4 first (R479). -/
def State.partBase (s : State) (p : Nat) (ext : Bool) : Nat :=
  (if ext then extBase else 0) +
    (([4, 3, 2, 1, 0].takeWhile (fun q => q ≠ p)).map (fun q => s.poolCount q ext * poolSize q)).sum

/-- Whether a buffer is of a part. -/
def inPart (p : Nat) (ext : Bool) (x : Nat × TunBuf) : Bool :=
  decide (x.2.pool = p) && (decide (extBase ≤ x.1) == ext)

/-- Buffers of a part held by an owner class. -/
def State.heldBy (s : State) (cls p : Nat) (ext : Bool) : Nat :=
  (s.tunBufs.filter (fun x => inPart p ext x && decide (x.2.owner = cls))).length

/-- The buffers of a part that hold a stuck word of the tundish, which are held back from use (R467). -/
def State.partHeld (s : State) (p : Nat) (ext : Bool) : List Nat :=
  if ext then [] else
  let base := s.partBase p ext
  (s.heldBack.filterMap (fun x =>
    if x.1 = 0x88 ∧ base ≤ 8 * x.2 ∧ 8 * x.2 < base + s.poolCount p ext * poolSize p then
      some (base + (8 * x.2 - base) / poolSize p * poolSize p) else none)).eraseDups

/-- Free buffers of a part: those neither allocated nor held back. -/
def State.partFree (s : State) (p : Nat) (ext : Bool) : Nat :=
  s.poolCount p ext - (s.tunBufs.filter (inPart p ext)).length -
    ((s.partHeld p ext).filter (fun a => !s.tunBufs.any (fun x => x.1 = a))).length

/-- The minimum of a class in a part (R480). -/
def State.minOf (s : State) (cls p : Nat) (ext : Bool) : Nat :=
  FMap.get (fun _ => 0) s.tunMin (cls * 16 + p * 2 + b2n ext)

/-- The unmet minima of a part, over every class. -/
def State.unmet (s : State) (p : Nat) (ext : Bool) : Nat :=
  ((List.range 64).map (fun cls => s.minOf cls p ext - s.heldBy cls p ext)).sum

/-- Whether a class may take a buffer of a part (R480). -/
def State.mayTake (s : State) (cls p : Nat) (ext : Bool) : Bool :=
  decide (0 < s.partFree p ext) &&
  (decide (s.heldBy cls p ext < s.minOf cls p ext) || decide (s.unmet p ext < s.partFree p ext))

/-- The lowest free buffer of a part among the first `n` (DESIGN CHOICE, log entry 6). -/
def State.freeAddr (s : State) (p : Nat) (ext : Bool) : Nat → Nat → Option Nat
  | 0, _ => none
  | n + 1, i =>
    let a := s.partBase p ext + i * poolSize p
    if s.tunBufs.any (fun x => x.1 = a) || (s.partHeld p ext).contains a then State.freeAddr s p ext n (i + 1) else some a

/-- Allocate a buffer of pool `p` for a class from the on-chip part or the extension: its handle,
or none. -/
def State.alloc (s : State) (cls p : Nat) (ext : Bool) : Option (W64 × State) :=
  if s.mayTake cls p ext then
    match s.freeAddr p ext (s.tunBufs.length + s.heldBack.length + 1) 0 with
    | some a => some (mkHandle a p cls, s.setBuf a { pool := p, owner := cls, refs := 1 })
    | none => none
  else none

/-- The smallest pool whose size is at least `n` (R107). -/
def poolFor (n : Nat) : Nat :=
  if n ≤ 512 then 0 else if n ≤ 4096 then 1 else if n ≤ 16384 then 2 else if n ≤ 65536 then 3 else 4

/-! ## Mover addresses -/

/-- Visible DRAM in bytes (R457). -/
def State.dramSize (s : State) : Nat := s.rfld (sta 8 0) 0 40

/-- The location of `n` bytes at a mover address, or none where R130 gives 0x1F; the memory of an absent channel or cluster
is fused off (R15). -/
def State.moverLoc (s : State) (addr : W64) (n : Nat) : Option Loc :=
  match fld addr 60 4 with
  | 0 =>
    let a := fld addr 0 48
    match s.bufAt a n with
    | some _ =>
      if a < extBase then some (.tun a)
      else some (.dram (s.rfld (sta 4 8) 30 9 * 2 ^ 30 + (a - extBase)))
    | none => none
  | 1 => let a := fld addr 0 39; if a + n ≤ s.dramSize then some (.dram a) else none
  | 2 =>
    let ch := fld addr 0 5; let sl := fld addr 5 5; let o := fld addr 10 13
    if bit (s.reg (sta 0x17 0x10)) ch ∧ sl < 28 ∧ o < 4608 ∧ o + n ≤ 4608 then some (.fbuf (ch * 0x20000 + sl * 4608 + o)) else none
  | 3 =>
    let o := fld addr 0 20
    if bit (s.reg (sta 0x17 0x10)) (32 + fld addr 32 3) ∧ o + n ≤ 0xC0000 then some (.cluster (fld addr 32 3 * 0x100000 + o)) else none
  | 4 => let a := fld addr 0 28; if a + n ≤ 0x10000000 then some (.ingot a) else none
  | _ => none

/-- Whether `n` bytes at a mover address fall in the loader's DRAM area (R151). -/
def inLoaderArea (addr : W64) : Bool := decide (fld addr 60 4 = 1) && decide (fld addr 0 39 < 0x4000000)

/-- The bytes at a location. -/
def State.readLoc (s : State) (l : Loc) (n : Nat) : List Byte :=
  match l with
  | .cluster a => rdBytes s.cluster a n
  | .tun a => rdBytes s.tun a n
  | .dram a => rdBytes s.dram a n
  | .fbuf a => rdBytes s.fbuf a n
  | .ingot a => rdBytes s.ingot a n
  | _ => []

/-- The SRAM array and first word of a location, for the arrays of R462. -/
def Loc.sram : Loc → Option (Nat × Nat)
  | .cluster a => some (0x80 + a / 0x100000, a % 0x100000 / 8)
  | .tun a => some (0x88, a / 8)
  | .fbuf a => some (0x90 + a / 0x20000, a % 0x20000 / 8)
  | _ => none

/-- Key of the 64-bit word that holds a byte, among the poisoned words: space × 2^48 + address ÷ 8;
spaces as R130 numbers them. -/
def Loc.word : Loc → Option Nat
  | .tun a => some (a / 8)
  | .dram a => some (2 ^ 48 + a / 8)
  | .fbuf a => some (2 * 2 ^ 48 + a / 8)
  | .cluster a => some (3 * 2 ^ 48 + a / 8)
  | .ingot a => some (4 * 2 ^ 48 + a / 8)
  | _ => none

/-- Byte offset of a location in its 64-bit word. -/
def Loc.low : Loc → Nat
  | .tun a | .dram a | .fbuf a | .cluster a | .ingot a => a % 8
  | _ => 0

/-- Words that `n` bytes at a location touch: the first, and how many. -/
def Loc.span (l : Loc) (n : Nat) : Nat × Nat :=
  match l.word with
  | some w => (w, (l.low + n + 7) / 8)
  | none => (0, 0)

/-- The poisoned words among `n` bytes at a location. -/
def State.poisonIn (s : State) (l : Loc) (n : Nat) : List Nat :=
  (s.poison.filter (fun p => decide ((l.span n).1 ≤ p.1) && decide (p.1 < (l.span n).1 + (l.span n).2))).map (·.1)

/-- Whether any word of `n` bytes at a location is poisoned (R445). -/
def State.poisoned (s : State) (l : Loc) (n : Nat) : Bool := !(s.poisonIn l n).isEmpty

/-- Write bytes at a location.  New data clears poison (R445) and repairs SRAM words. -/
def State.writeLoc (s : State) (l : Loc) (bs : List Byte) : State :=
  let s := match l.sram with
    | some (arr, w) => s.sramWrite arr w ((bs.length + 7) / 8)
    | none => s
  let s := s.putPoison (s.poison.filter (fun p =>
    !(decide ((l.span bs.length).1 ≤ p.1) && decide (p.1 < (l.span bs.length).1 + (l.span bs.length).2))))
  match l with
  | .cluster a => s.putCluster (wrBytes s.cluster a bs)
  | .tun a => s.putTun (wrBytes s.tun a bs)
  | .dram a => s.putDram (wrBytes s.dram a bs)
  | .fbuf a => s.putFbuf (wrBytes s.fbuf a bs)
  | .ingot a => s.putIngot (wrBytes s.ingot a bs)
  | _ => s

/-- Poison words of the destination: those that match the given words of the source (R132). -/
def State.carryPoison (s : State) (hit : List Nat) (src dst : Loc) : State :=
  match src.word, dst.word with
  | some a, some b =>
    s.poisonKeys (hit.map (fun p => b + (p - a)))
  | _, _ => s

/-- The SRAM words of `n` bytes at a location are read (R463). -/
def State.touch (s : State) (p : Loc × Nat) : State :=
  match p.1.sram with
  | some (arr, w) => s.sramRead arr w ((p.2 + 7) / 8)
  | none => s

/-! ## Operand blocks and result records -/

/-- The 64 B operand block at an address of the data store. -/
def Core.operandBlock (k : Core) (a : Nat) : List W64 := words64 8 (rdBytes k.data a 64)

/-- Write the eight words of a result record; words not given are 0 (R87). -/
def State.writeRecord (s : State) (r : Req) (ws : List W64) : State :=
  let ws := (ws ++ List.replicate 8 0).take 8
  if r.recCluster then
    (s.sramWrite (0x80 + r.core.toNat / 8) (r.recOff / 8) 8 : State)
      |> fun s => s.putCluster (wrWords s.cluster (r.core.toNat / 8 * 0x100000 + r.recOff) ws)
  else
    let s := s.sramWrite (0x40 + r.core.toNat) (r.recOff / 8) 8
    let k := s.core r.core
    s.setCore r.core { k with data := wrWords k.data r.recOff ws }

end Sys2Proof.Machine
end

