-- ==== Sys2Proof/Machine/Issue.lean ====
section
/-! DEFINITION. Issuing an asynchronous primitive, and its completion (R76 to R79, R85 to R90,
R146). -/

namespace Sys2Proof.Machine

/-! ## Presence, domes and queue depths -/

/-- ID_PRESENCE (R1). -/
def State.presence (s : State) : W64 := s.reg (sta 0x17 0x10)

/-- Whether channel `n` is present. -/
def State.chanPresent (s : State) (n : Nat) : Bool := decide (n < 32) && bit s.presence n

/-- Whether Span port `p` is present. -/
def State.spanPresent (s : State) (p : Nat) : Bool := decide (p < 4) && bit s.presence (40 + p)

/-- Whether the cipher engine and key vault are present. -/
def State.cipherPresent (s : State) : Bool := bit s.presence 46

/-- State of dome `d`: 0 on, 1 retention, 2 off (R525). -/
def State.domeState (s : State) (d : Nat) : Nat := s.rfld (sta 0xE (8 * d)) 0 2

/-- Whether dome `d` is on. -/
def State.domeOn (s : State) (d : Nat) : Bool := decide (s.domeState d = 0)

/-- SOURCE number of channel director `ch` (R89). -/
def chanUnit (ch : Nat) : Nat := 0x50 + ch

/-- Whether a unit number is a channel director's. -/
def isChanUnit (u : Nat) : Bool := decide (0x50 ≤ u) && decide (u ≤ 0x6F)

/-- Whether a unit number is a Span port's. -/
def isSpanUnit (u : Nat) : Bool := decide (0x4C ≤ u) && decide (u ≤ 0x4F)

/-- Whether the dome that holds a unit is on.  The gate, almanac, vault and dome block sit in D0
or are never off; no dome is named for the map walker, data mover and parity engine (R512,
DEDUCED, log entry 7). -/
def State.unitDomeOn (s : State) (u : Nat) : Bool :=
  if isChanUnit u then s.domeOn (15 + (u - 0x50) / 4)
  else if isSpanUnit u then s.domeOn (2 + (u - 0x4C))
  else if u = 0x44 then s.domeOn 23
  else true

/-- Request queue depth per core (R146). -/
def Prim.depth : Prim → Nat
  | .gate | .squash => 256
  | .mlook | .mcommit | .mtrim | .mzone => 64
  | .fread | .fprog | .ferase | .fstat | .ffeat | .fraw | .fcancel => 16
  | .dmin | .dmout | .dmcopy | .dmfill => 64
  | .xts | .cmac | .vslot => 32
  | .pxor | .pmac | .pcheck => 16
  | .sreq | .sresp | .slink => 64
  | .arec => 16
  | .vote => 4

/-- Whether a primitive is a flash verb with a location word at +0. -/
def Prim.isVerb : Prim → Bool
  | .fread | .fprog | .ferase | .fstat | .ffeat | .fraw => true
  | _ => false

/-- The outstanding request with a core's ticket. -/
def State.findReq (s : State) (c : CoreId) (t : Ticket) : Option Req :=
  s.reqs.find? (fun r => decide (r.core = c) && decide (r.ticket = t))

/-- The state with a request replaced in place. -/
def State.setReq (s : State) (r : Req) : State :=
  s.putReqs (s.reqs.map (fun q => if q.core = r.core ∧ q.ticket = r.ticket then r else q))

/-- The state without a request. -/
def State.dropReq (s : State) (r : Req) : State :=
  s.putReqs (s.reqs.filter (fun q => !(decide (q.core = r.core) && decide (q.ticket = r.ticket))))

/-- The Span port a member is reached by: its primary route while valid, else its alternate
(R382). -/
def State.routePort (s : State) (m : Nat) : Option Nat :=
  let v := s.reg (sta 0xD (0x1000 + 8 * m))
  if bit v 6 then none
  else if bit v 2 then some (fld v 0 2) else if bit v 5 then some (fld v 3 2) else none

/-- The unit that serves a primitive, by its operand block (R89). -/
def State.unitOf (s : State) (c : CoreId) (p : Prim) (ops : List W64) : Nat :=
  let w := ops.getD 0 0
  match p with
  | .gate | .squash => 0x41
  | .mlook | .mcommit | .mtrim | .mzone => 0x42
  | .fread | .fprog | .ferase | .fstat | .ffeat | .fraw => chanUnit (fld w 0 5)
  | .fcancel =>
    match s.findReq c (BitVec.ofNat 23 (fld w 0 23)) with
    | some r => if isChanUnit r.unit then r.unit else chanUnit 0
    | none => chanUnit 0
  | .dmin | .dmout | .dmcopy | .dmfill => 0x43
  | .xts | .cmac => 0x44
  | .vslot => 0x45
  | .pxor | .pmac | .pcheck => 0x46
  | .sreq => 0x4C + (s.routePort (fld w 0 8)).getD 0
  | .sresp => 0x4C + (fld w 9 7 - 0x4C) % 4
  | .slink => 0x4C + fld w 0 2
  | .arec => 0x47
  | .vote => 0x48

/-- Places a core's requests hold in an engine's queue: those waiting, and for a flash channel
every verb not yet in its die's queue (R78). -/
def State.queued (s : State) (c : CoreId) (u : Nat) : Nat :=
  (s.reqs.filter (fun r => decide (r.core = c) && decide (r.unit = u) &&
    (decide (r.phase = .waiting) || (isChanUnit u && decide (r.phase = .taken))))).length

/-! ## Tickets and buffers -/

/-- The first ticket from `t` on that is not 0 and not outstanding. -/
def ticketFrom (used : List Ticket) : Nat → Ticket → Ticket
  | 0, t => t
  | n + 1, t => if t = 0 ∨ t ∈ used then ticketFrom used n (t + 1) else t

/-- A ticket for core `c`: any that is not 0 and not outstanding, by the free stream (R85, DESIGN CHOICE, log
entry 8). -/
def State.newTicket (s : State) (c : CoreId) : Ticket × State :=
  let used := (s.reqs.filter (fun r => r.core = c)).map (fun r => r.ticket)
  let (f, s) := s.takeFree
  (ticketFrom used (used.length + 2) (BitVec.ofNat 23 f.toNat), s)

/-- A namespace that nothing has configured: KIND 0 (R116). -/
def nsReset (_ : Nat) : NsCfg := { cfg := 0, base := 0, cap := 0, zone := 0, metaBase := 0, mcnt := 0 }

/-- Operand words of a primitive that are mover addresses or handles (R109). -/
def Prim.addrOps (p : Prim) (ops : List W64) (imm : BitVec 32) : List W64 :=
  let o (i : Nat) : W64 := ops.getD i 0
  match p with
  | .mlook => if fld (o 1) 0 64 > 8 then [o 2] else []
  | .mcommit => (if bit imm 0 then [o 2] else []) ++ (if bit imm 1 then [o 5] else [])
  | .fread | .fraw => if bit imm 0 then [o 1] else []
  | .dmin | .dmout => [o 1]
  | .dmcopy => if bit imm 0 then [o 0, o 1, o 3] else [o 0, o 1]
  | .xts => if fld (o 1) 60 4 = 2 then [o 0, o 1, o 5] else [o 0, o 1]
  | .cmac => if bit imm 0 then [o 0, o 3] else [o 0]
  | .vslot => if fld imm 0 4 = 3 then [o 2] else []
  | .pxor | .pmac | .pcheck => [o 0, o 1]
  | .sreq => [o 1, o 3]
  | .sresp => [o 1]
  | _ => []

/-- The tundish buffers that operands name, each once. -/
def State.namedBufs (s : State) (as : List W64) : List Nat :=
  (as.filterMap (fun a => if fld a 60 4 = 0 then (s.bufAt (fld a 0 48) 1).map (·.1) else none)).dedup

/-- Whether a mover address names the memory of an absent channel or cluster (R15). -/
def State.memAbsent (s : State) (a : W64) : Bool :=
  (decide (fld a 60 4 = 2) && !s.chanPresent (fld a 0 5)) || (decide (fld a 60 4 = 3) && !bit s.presence (32 + fld a 32 3))

/-- Whether the unit of a primitive is absent, or holds a memory that the primitive names, so that the issue answers 0x7F
(R5, R15, R78, R146). -/
def State.unitAbsent (s : State) (p : Prim) (u : Nat) (imm : BitVec 32) (ops : List W64) : Bool :=
  (p.addrOps ops imm).any s.memAbsent ||
  match p with
  | .fread => !s.chanPresent (u - 0x50) || (bit imm 1 && !s.cipherPresent)
  | .fprog | .ferase | .fstat | .ffeat | .fraw | .fcancel => !s.chanPresent (u - 0x50)
  | .xts | .cmac | .vslot => !s.cipherPresent
  | .sreq | .sresp | .slink => !s.spanPresent (u - 0x4C)
  | _ => false

/-! ## Issue -/

/-- Whether an address range lies where a result record may: the data store or the program part
of cluster memory (R76). -/
def recLoc (c : CoreId) (a : Nat) : Option (Bool × Nat) :=
  match coreLoc c 0 a 64 with
  | some _ => some (false, a)
  | none =>
    match coreLoc c 1 a 64 with
    | some _ => some (true, a - 0x100000)
    | none => none

/-- The level of an issue: LVL 0 takes the activation's level, and a level above it is lowered to
it (R47). -/
def issueLevel (lvl act : Nat) : Nat := if lvl = 0 then act else max lvl act

/-- An issue instruction of primitive `p` with family field `imm` (R76 to R79, R109): the
operand block and result record are tested first (0xE4, then 0xE3), then absence, credit and
queue space; an accepted issue takes a credit and a ticket. -/
def State.issue (s : State) (c : CoreId) (p : Prim) (charge : Nat) (i : Issue) (imm : BitVec 32) : State :=
  let k := s.core c
  let b := (k.getG i.b).toNat
  let d := (k.getG i.d).toNat
  if b % 64 ≠ 0 ∨ d % 64 ≠ 0 then s.progFault c 0xE4 charge 0 else
  match recLoc c d with
  | none => s.progFault c 0xE3 charge 0
  | some (inCluster, off) =>
    if 0x10000 < b + 64 ∨ !s.checkOk c .rd b 64 ∨ !s.checkOk c .wr d 64 then s.progFault c 0xE3 charge 0 else
    s.unlessReset (s.sramRead (0x40 + c.toNat) (b / 8) 8) fun s =>
    let ops := k.operandBlock b
    let u := s.unitOf c p ops
    if s.unitAbsent p u imm ops then s.syncDone c charge i.a ocAbsent 0
    else if k.freeEntries = 0 then s.syncDone c charge i.a ocNoCredit 0
    else if p.depth ≤ s.queued c u then s.syncDone c charge i.a ocQueueFull 0
    else
      let lvl := issueLevel i.lvl.toNat k.level
      let bufs := s.namedBufs (p.addrOps ops imm)
      let (t, s) := s.newTicket c
      let r : Req :=
        { prim := p, core := c, ticket := t, cls := i.cls, level := BitVec.ofNat 3 lvl,
          cur := BitVec.ofNat 3 lvl, age := 0, imm := imm, ops := ops, recCluster := inCluster,
          recOff := off, unit := u,
          loader := s.loaderSlot c,
          bufs := bufs, cfg := FMap.get nsReset s.ns (fld (ops.getD 0 0) 48 16), phase := .waiting }
      let s := bufs.foldl (fun s a => s.addRef a) s
      let s := s.putReqs (s.reqs ++ [r])
      let s := s.setCore c { s.core c with credits := (s.core c).credits + 1 }
      s.syncDone c charge i.a ocDone (w64 t.toNat)

/-! ## Completion -/

/-- The completion event of a request (R36, R77). -/
def Req.event (r : Req) (oc : Byte) : W64 :=
  mkEvent r.cls.toNat r.level.toNat r.unit oc.toNat
    (r.ticket.toNat + b2n r.recCluster * 2 ^ 23 + r.recOff / 64 * 2 ^ 24)

/-- A request completes: the record is written, buffer references go, and the event posts (R87, R109): the words are
written together, with the event (DESIGN CHOICE, log entry 146). -/
def State.complete (s : State) (r : Req) (oc : Byte) (ws : List W64) : State :=
  let s := s.writeRecord r ws
  let s := r.bufs.foldl (fun s a => s.unref a) s
  (s.dropReq r).postCredited r.core (r.event oc)

/-- A request that completes with an outcome and an empty record. -/
def State.fail (s : State) (r : Req) (oc : Byte) : State := s.complete r oc []

/-- Whether a request touches DRAM or the ingot store through its mover addresses (R520). -/
def Req.touches (r : Req) (space : Nat) : Bool :=
  (r.prim.addrOps r.ops r.imm).any (fun a => decide (fld a 60 4 = space)) ||
  (decide (r.prim = .dmfill) && decide (space = 1))

/-- Whether DRAM serves requests: its dome is on and no frequency change pauses its ports (R454, R520). -/
def State.dramServes (s : State) : Bool := s.domeOn 6 && !bit (s.reg (sta 8 0x10)) 0

/-- Whether the memories a request needs are awake; while one is not, the request waits (R520). -/
def State.memAwake (s : State) (r : Req) : Bool :=
  (!(r.touches 1 || decide (r.unit = 0x42)) || s.dramServes) &&
  (!(r.touches 4 || decide (r.unit = 0x42)) || s.domeOn 28)

/-- An engine reads memory for a request: SRAM words with bits in error are corrected or cause a
fault reset, which ends the request (R463, R469). -/
def State.withRead (s : State) (r : Req) (ls : List (Loc × Nat)) (f : State → State) : State :=
  let s := ls.foldl State.touch s
  if (s.findReq r.core r.ticket).isSome then f s else s

/-- A request of a primitive, started by its engine. -/
def State.started (s : State) (c : CoreId) (t : Ticket) (ok : Prim → Bool) : Option Req :=
  match s.findReq c t with
  | some r => if ok r.prim && decide (r.phase = .started) then some r else none
  | none => none

/-- Complete the started request of core `c` with ticket `t`, when there is one of the named kind;
otherwise nothing happens (DEDUCED, log entry 4). -/
def onReq (s : State) (c : CoreId) (t : Ticket) (ok : Prim → Bool) (f : Req → State) : Res :=
  .next (match s.started c t ok with
    | some r => f r
    | none => s)

end Sys2Proof.Machine
end

