-- ==== Sys2Proof/Machine/Integer.lean ====
section
/-! DEFINITION. The integer, bit and field instructions (R65, R66). -/

namespace Sys2Proof.Machine

/-- An instruction that writes gA from the core's registers and retires (R54, R55). -/
def alu (s : State) (c : CoreId) (a : GReg) (charge : Nat) (f : Core → W64) : Res :=
  onCore s c (fun s => s.stepCore c charge (fun k => k.setG a (f k)))

/-- Truth as a register value. -/
def w64b (b : Bool) : W64 := if b then 1 else 0

/-- Sign-extended IMM. -/
def immS (i : Imm32) : W64 := i.signExtend 64

/-- Zero-extended IMM. -/
def immZ (i : Imm32) : W64 := i.setWidth 64

/-- Unsigned quotient; 0 for a zero divisor. -/
def divq (x y : W64) : W64 := w64 (x.toNat / y.toNat)

/-- Unsigned remainder; 0 for a zero divisor. -/
def modq (x y : W64) : W64 := if y = 0 then 0 else w64 (x.toNat % y.toNat)

/-- High 64 bits of the unsigned product. -/
def mulhi (x y : W64) : W64 := w64 (x.toNat * y.toNat / 2 ^ 64)

/-- The bit field of R66: IMM[5:0] is the position, IMM[13:8] the length less one. -/
def extField (v : W64) (i : Imm32) : Nat := v.toNat / 2 ^ fld i 0 6 % 2 ^ (fld i 8 6 + 1)

/-- ins: the low n bits of `v` at position p of `old`, nothing above bit 63. -/
def insField (old v : W64) (i : Imm32) : W64 :=
  let p := fld i 0 6
  let m := w64 ((2 ^ (fld i 8 6 + 1) - 1) * 2 ^ p)
  (old &&& ~~~m) ||| (w64 (v.toNat * 2 ^ p) &&& m)

/-- The 8 bytes in reverse order. -/
def bswap (v : W64) : W64 := w64 (ofBytes (toBytes 8 v.toNat).reverse)

def execNop (c : CoreId) (s : State) : Res := onCore s c (fun s => s.stepCore c 1 (fun k => k))
def execAdd (c : CoreId) (a b d : GReg) (s : State) : Res := alu s c a 1 (fun k => k.getG b + k.getG d)
def execSub (c : CoreId) (a b d : GReg) (s : State) : Res := alu s c a 1 (fun k => k.getG b - k.getG d)
def execAddi (c : CoreId) (a b : GReg) (i : Imm32) (s : State) : Res := alu s c a 1 (fun k => k.getG b + immS i)
def execMul (c : CoreId) (a b d : GReg) (s : State) : Res := alu s c a 3 (fun k => k.getG b * k.getG d)
def execMulhi (c : CoreId) (a b d : GReg) (s : State) : Res := alu s c a 3 (fun k => mulhi (k.getG b) (k.getG d))
def execDivq (c : CoreId) (a b d : GReg) (s : State) : Res := alu s c a 66 (fun k => divq (k.getG b) (k.getG d))
def execModq (c : CoreId) (a b d : GReg) (s : State) : Res := alu s c a 66 (fun k => modq (k.getG b) (k.getG d))
def execAnd (c : CoreId) (a b d : GReg) (s : State) : Res := alu s c a 1 (fun k => k.getG b &&& k.getG d)
def execOr (c : CoreId) (a b d : GReg) (s : State) : Res := alu s c a 1 (fun k => k.getG b ||| k.getG d)
def execXor (c : CoreId) (a b d : GReg) (s : State) : Res := alu s c a 1 (fun k => k.getG b ^^^ k.getG d)
def execAndi (c : CoreId) (a b : GReg) (i : Imm32) (s : State) : Res := alu s c a 1 (fun k => k.getG b &&& immZ i)
def execOri (c : CoreId) (a b : GReg) (i : Imm32) (s : State) : Res := alu s c a 1 (fun k => k.getG b ||| immZ i)
def execXori (c : CoreId) (a b : GReg) (i : Imm32) (s : State) : Res := alu s c a 1 (fun k => k.getG b ^^^ immZ i)
def execShl (c : CoreId) (a b d : GReg) (s : State) : Res := alu s c a 1 (fun k => k.getG b <<< fld (k.getG d) 0 6)
def execShr (c : CoreId) (a b d : GReg) (s : State) : Res := alu s c a 1 (fun k => k.getG b >>> fld (k.getG d) 0 6)
def execShra (c : CoreId) (a b d : GReg) (s : State) : Res := alu s c a 1 (fun k => (k.getG b).sshiftRight (fld (k.getG d) 0 6))
def execShli (c : CoreId) (a b : GReg) (i : Imm32) (s : State) : Res := alu s c a 1 (fun k => k.getG b <<< fld i 0 6)
def execShri (c : CoreId) (a b : GReg) (i : Imm32) (s : State) : Res := alu s c a 1 (fun k => k.getG b >>> fld i 0 6)
def execShrai (c : CoreId) (a b : GReg) (i : Imm32) (s : State) : Res := alu s c a 1 (fun k => (k.getG b).sshiftRight (fld i 0 6))
def execLi (c : CoreId) (a : GReg) (i : BitVec 48) (s : State) : Res := alu s c a 1 (fun _ => i.signExtend 64)
def execLih (c : CoreId) (a : GReg) (i : BitVec 48) (s : State) : Res := alu s c a 1 (fun k => setFld (k.getG a) 48 16 (fld i 0 16))
def execLts (c : CoreId) (a b d : GReg) (s : State) : Res := alu s c a 1 (fun k => w64b ((k.getG b).slt (k.getG d)))
def execLtu (c : CoreId) (a b d : GReg) (s : State) : Res := alu s c a 1 (fun k => w64b ((k.getG b).ult (k.getG d)))
def execMinu (c : CoreId) (a b d : GReg) (s : State) : Res := alu s c a 1 (fun k => if (k.getG b).ult (k.getG d) then k.getG b else k.getG d)
def execMaxu (c : CoreId) (a b d : GReg) (s : State) : Res := alu s c a 1 (fun k => if (k.getG b).ult (k.getG d) then k.getG d else k.getG b)
def execSel (c : CoreId) (a b d : GReg) (s : State) : Res := alu s c a 1 (fun k => if k.getG b = 0 then k.getG a else k.getG d)
def execExt (c : CoreId) (a b : GReg) (i : Imm32) (s : State) : Res := alu s c a 1 (fun k => w64 (extField (k.getG b) i))
def execExts (c : CoreId) (a b : GReg) (i : Imm32) (s : State) : Res := alu s c a 1 (fun k => sext (fld i 8 6 + 1) (extField (k.getG b) i))
def execIns (c : CoreId) (a b : GReg) (i : Imm32) (s : State) : Res := alu s c a 1 (fun k => insField (k.getG a) (k.getG b) i)
def execClz (c : CoreId) (a b : GReg) (s : State) : Res := alu s c a 1 (fun k => w64 (clz64 (k.getG b).toNat))
def execCtz (c : CoreId) (a b : GReg) (s : State) : Res := alu s c a 1 (fun k => w64 (ctz64 (k.getG b).toNat))
def execPopc (c : CoreId) (a b : GReg) (s : State) : Res := alu s c a 1 (fun k => w64 (popc64 (k.getG b).toNat))
def execBswap (c : CoreId) (a b : GReg) (s : State) : Res := alu s c a 1 (fun k => bswap (k.getG b))
def execCrc32 (c : CoreId) (a b : GReg) (s : State) : Res :=
  alu s c a 2 (fun k => w64 (crc32 (fld (k.getG a) 0 32) (toBytes 8 (k.getG b).toNat)))

end Sys2Proof.Machine
end

