-- ==== Sys2Proof/Machine/Control.lean ====
section
/-! DEFINITION. The control instructions (R69 to R72) and slot-end. -/

namespace Sys2Proof.Machine

/-- The pc becomes a word index. -/
def pc13 (t : BitVec 12) : BitVec 13 := t.setWidth 13

/-- A taken transfer to `tgt`: outside the open loop it is fault 0xE6 (R70). -/
def State.takeBranch (s : State) (c : CoreId) (charge : Nat) (tgt : BitVec 13) : State :=
  let k := s.core c
  if k.branchOk tgt then s.setCore c ({ k with pc := tgt }.charge charge)
  else s.progFault c 0xE6 charge 0

/-- A conditional branch: 2 cycles whether taken or not (R69). -/
def branch (s : State) (c : CoreId) (tgt : BitVec 12) (cond : Core → Bool) : Res :=
  onCore s c (fun s =>
    if cond (s.core c) then s.takeBranch c 2 (pc13 tgt) else s.stepCore c 2 (fun k => k))

/-- Sign-extended K. -/
def kS (k : BitVec 14) : W64 := k.signExtend 64

def execJmp (c : CoreId) (tgt : BitVec 12) (s : State) : Res := branch s c tgt (fun _ => true)
def execBeq (c : CoreId) (a b : GReg) (tgt : BitVec 12) (s : State) : Res := branch s c tgt (fun k => decide (k.getG a = k.getG b))
def execBne (c : CoreId) (a b : GReg) (tgt : BitVec 12) (s : State) : Res := branch s c tgt (fun k => decide (k.getG a ≠ k.getG b))
def execBlt (c : CoreId) (a b : GReg) (tgt : BitVec 12) (s : State) : Res := branch s c tgt (fun k => (k.getG a).slt (k.getG b))
def execBge (c : CoreId) (a b : GReg) (tgt : BitVec 12) (s : State) : Res := branch s c tgt (fun k => !(k.getG a).slt (k.getG b))
def execBltu (c : CoreId) (a b : GReg) (tgt : BitVec 12) (s : State) : Res := branch s c tgt (fun k => (k.getG a).ult (k.getG b))
def execBgeu (c : CoreId) (a b : GReg) (tgt : BitVec 12) (s : State) : Res := branch s c tgt (fun k => !(k.getG a).ult (k.getG b))
def execBeqi (c : CoreId) (a : GReg) (i : BitVec 14) (tgt : BitVec 12) (s : State) : Res := branch s c tgt (fun k => decide (k.getG a = kS i))
def execBnei (c : CoreId) (a : GReg) (i : BitVec 14) (tgt : BitVec 12) (s : State) : Res := branch s c tgt (fun k => decide (k.getG a ≠ kS i))

/-- CALL: with 8 return words on the stack, fault 0xE5 (R72). -/
def execCall (c : CoreId) (tgt : BitVec 12) (s : State) : Res :=
  onCore s c (fun s =>
    let k := s.core c
    if k.calls.length ≥ 8 then s.progFault c 0xE5 3 0
    else s.setCore c ({ k with calls := (k.pc + 1) :: k.calls, pc := pc13 tgt }.charge 3))

/-- RET: with a loop open at this depth, fault 0xE6 (R70); with no return word, 0xE5; a return to
word 4,096 is an illegal instruction (R72).  The order of the three is the model's (DEDUCED, log entry 9). -/
def execRet (c : CoreId) (s : State) : Res :=
  onCore s c (fun s =>
    let k := s.core c
    match k.calls with
    | [] => s.progFault c 0xE5 3 0
    | w :: rest =>
      if k.openLoop.isSome then s.progFault c 0xE6 3 0
      else if w.toNat ≥ 4096 then s.illegal c
      else s.setCore c ({ k with calls := rest, pc := w }.charge 3))

/-- LOOP, as R70 gives it; M = 0 is illegal (R64). -/
def execLoop (c : CoreId) (b : GReg) (tgt : BitVec 12) (m : BitVec 16) (s : State) : Res :=
  onCore s c (fun s =>
    let k := s.core c
    let last := pc13 tgt
    if m = 0 then s.illegal c
    else if last ≤ k.pc ∨ (match k.openLoop with
      | some l => decide (l.last ≤ last)
      | none => false) = true then s.progFault c 0xE6 2 0
    else if k.getG b = 0 then s.setCore c ({ k with pc := last + 1 }.charge 2)
    else if m.toNat < (k.getG b).toNat ∨ k.loops.length ≥ 4 then s.progFault c 0xE6 2 0
    else
      let l : LoopFrame := { start := k.pc + 1, last := last, count := k.getG b, depth := k.calls.length }
      s.setCore c ({ k with loops := l :: k.loops, pc := k.pc + 1 }.charge 2))

/-- LBRK: leave the innermost loop of the current call depth; with none, fault 0xE6 (R69). -/
def execLbrk (c : CoreId) (s : State) : Res :=
  onCore s c (fun s =>
    let k := s.core c
    match k.openLoop with
    | some l => s.setCore c ({ k with loops := k.loops.tail, pc := l.last + 1 }.charge 2)
    | none => s.progFault c 0xE6 2 0)

/-- Entry `n` of the table at word `tgt` of core `c`'s active bank: a target in bits [11:0] (R71).  Bits [15:12], which R71
makes zero, are not read, and a word past the end of the bank is a free value (DESIGN CHOICE, log entry 127). -/
def State.switchEntry (s : State) (c : CoreId) (tgt n : Nat) : BitVec 13 × State :=
  let entry (w : W64) : BitVec 13 := BitVec.ofNat 13 (fld w (16 * (n % 4)) 12)
  if tgt + n / 4 < 4096 then
    (entry (s.bankWord c (tgt + n / 4)), s.sramRead c.toNat ((s.core c).bankIndex (tgt + n / 4)) 1)
  else
    let (f, s) := s.takeFree
    (entry f, s)

/-- SWITCH: K outside 1 to 256 is illegal (R64); an index in the table branches, another falls
through (R71). -/
def execSwitch (c : CoreId) (a : GReg) (n : BitVec 14) (tgt : BitVec 12) (s : State) : Res :=
  onCore s c (fun s =>
    let k := s.core c
    if n.toNat = 0 ∨ 256 < n.toNat then s.illegal c
    else if (k.getG a).toNat < n.toNat then
      let (w, s') := s.switchEntry c tgt.toNat (k.getG a).toNat
      s.unlessReset s' (fun s => s.takeBranch c 4 w)
    else s.stepCore c 4 (fun k => k))

/-- A core's state at entry to an activation or a dispatch: both stacks emptied, oc 0, g1 and the
pc set (R33, R55, R56). -/
def Core.enter (k : Core) (act : Activation) (pc : BitVec 12) (g1 : W64) : Core :=
  { k.setG 1 g1 with oc := 0, calls := [], loops := [], act := act, pc := pc13 pc }

/-- The oldest visible event of a class, and the class queues without it (R32, R37). -/
def takeClass (cls : Nat) : List W64 → Option (W64 × List W64)
  | [] => none
  | e :: r =>
    if fld e 0 6 = cls then some (e, r)
    else (takeClass cls r).map (fun p => (p.1, e :: p.2))

/-- The activation of core `c` ends. -/
def Core.leave (k : Core) : Core :=
  match k.act with
  | .faultHandler => { k with act := .idle }
  | .start => { k with act := .idle, nextSlot := 0 }
  | a => { k with act := .idle, nextSlot := a.slotField + 1 }

/-- SLEND: the dispatch or activation ends; a drain slot dispatches its next visible event while
DRAIN allows, at 8 cycles (R33).  A count that slot-end takes past BOUND is a bound excess (R34, R51). -/
def execSlend (c : CoreId) (s : State) : Res :=
  onCore s c (fun s =>
    let k := (s.core c).charge 1
    if k.bound < k.cycles then (s.setCore c k).cut c 0xE1 k.pc.toNat 0 else
    match k.act with
    | .drain n (left + 1) =>
      match takeClass (fld (k.slotWord n) 48 6) k.classQ with
      | some (e, q) =>
        let k := { k with classQ := q }
        s.setCore c ((k.enter (.drain n left) (BitVec.ofNat 12 (fld (k.slotWord n) 0 12)) e).charge 8)
      | none => s.setCore c k.leave
    | _ => s.setCore c k.leave)

/-- TRAP: program fault 0xE7 with K as its code (R69, R82). -/
def execTrap (c : CoreId) (i : BitVec 14) (s : State) : Res :=
  onCore s c (fun s => s.progFault c 0xE7 1 i.toNat)

/-- Bits of the A, B, C, X and IMM fields of format R, and of K, TGT and M of format J. -/
def mA : Nat := 0x1F00
def mB : Nat := 0x3E000
def mC : Nat := 0x7C0000
def mX : Nat := 0xFF800000
def mI : Nat := 0xFFFFFFFF00000000
def mK : Nat := 0xFFFC0000
def mT : Nat := 0xFFF00000000
def mM : Nat := 0xFFFF000000000000

/-- The bits, beyond OP, of the fields that an assigned opcode uses; none for a reserved opcode
(R64 and the tables of R65 to R79). -/
def usedBits (op : Nat) : Option Nat :=
  if op ∈ [0x00, 0x4A, 0x4C, 0x4E, 0xC5, 0xC6] then some 0
  else if op ∈ [0x01, 0x02, 0x04, 0x05, 0x06, 0x07, 0x08, 0x09, 0x0A, 0x0E, 0x0F, 0x10, 0x16, 0x17,
      0x18, 0x19, 0x1A, 0x55, 0x60, 0x66, 0xB2, 0xB9] then some (mA + mB + mC)
  else if op ∈ [0x03, 0x0B, 0x0C, 0x0D, 0x11, 0x12, 0x13, 0x20, 0x21, 0x22, 0x70] then some (mA + mB + mI)
  else if op ∈ [0x14, 0x15] then some (mA + 0xFFFFFFFFFFFF0000)
  else if op ∈ [0x23, 0x24, 0x25, 0x26, 0x27, 0x53, 0x61, 0x67, 0x71, 0x72, 0xB1] then some (mA + mB)
  else if 0x30 ≤ op ∧ op ≤ 0x39 then some (mA + mB + mI + 0x1800000)
  else if 0x3A ≤ op ∧ op ≤ 0x3C then some (mA + mB + mC + 0x1800000)
  else if op ∈ [0x40, 0x49] then some mT
  else if 0x41 ≤ op ∧ op ≤ 0x46 then some (mA + mB + mT)
  else if op ∈ [0x47, 0x48, 0x4D] then some (mA + mK + mT)
  else if op = 0x4B then some (mB + mT + mM)
  else if op = 0x4F then some mK
  else if op ∈ [0x50, 0x51] then some (mA + mB + mX)
  else if op = 0x52 ∨ (0xC0 ≤ op ∧ op ≤ 0xC4) then some mA
  else if op ∈ [0x54, 0x64, 0x65] then some (mA + mB + mC + mI)
  else if op ∈ [0x62, 0x63, 0x78, 0x79, 0x7A, 0x7B, 0x80, 0x81, 0x82, 0x83, 0x84, 0x85, 0x86, 0x90,
      0x91, 0x92, 0x93, 0x98, 0x99, 0x9A, 0xA0, 0xA1, 0xA2, 0xA8, 0xA9, 0xAA, 0xB0, 0xB8] then
    some (mA + mB + mC + mX + mI)
  else none

/-- Whether a tag field index is assigned (R73). -/
def tagFieldOk (f : Nat) : Bool := decide (f < 12) || (decide (16 ≤ f) && decide (f < 20))

/-- Whether an instruction word is legal (R64). -/
def legalWord (w : W64) : Bool :=
  let op := fld w 0 8
  let a := fld w 8 5
  let b := fld w 13 5
  let d := fld w 18 5
  let x := fld w 23 9
  match usedBits op with
  | none => false
  | some m =>
    decide (Nat.land w.toNat (0xFFFFFFFFFFFFFF00 - m) = 0) &&
    (!(decide (0x30 ≤ op) && decide (op ≤ 0x39)) || decide (x < 3)) &&
    (!decide (op = 0x39) || decide (x < 2)) &&
    (!(decide (0x3A ≤ op) && decide (op ≤ 0x3C)) || decide (x = 1)) &&
    (!decide (op ∈ [0x38, 0x39, 0x51, 0x52, 0x53, 0x55]) || decide (a < 8)) &&
    (!decide (op ∈ [0x50, 0x53, 0x54]) || decide (b < 8)) &&
    (!decide (op = 0x54) || decide (d < 8)) &&
    (!decide (op ∈ [0x50, 0x51]) || tagFieldOk x) &&
    (!decide (op = 0x4B) || decide (fld w 48 16 ≠ 0)) &&
    (!decide (op = 0x4D) || (decide (1 ≤ fld w 18 14) && decide (fld w 18 14 ≤ 256)))

/-- ILLEGAL_INSTRUCTION: the core meets an illegal word, or has run past word 4,095, in which case
the fault reports word 4,095 (R64, R72, R80). -/
def execIllegalInstruction (c : CoreId) (w : W64) (s : State) : Res :=
  let k := s.core c
  let inWindow := match k.act with
    | .idle => false
    | .faultHandler => decide (s.win = .fault)
    | _ => decide (s.win = .slot)
  .next (if s.corePresent c && inWindow && decide (k.cycles ≤ k.bound) &&
      (decide (4096 ≤ k.pc.toNat) || !legalWord w) then
      s.unlessReset (if k.pc.toNat < 4096 then s.fetched c else s) (fun s =>
        (s.setCore c (k.charge 1)).cut c 0xE2 (min k.pc.toNat 4095) 0)
    else s)

end Sys2Proof.Machine
end

