-- ==== Sys2Proof/Machine/Tag.lean ====
section
/-! DEFINITION. The tag and system instructions (R73 to R75). -/

namespace Sys2Proof.Machine

/-- Low bit and width of a tag field (R73). -/
def tagField (f : Nat) : Nat × Nat :=
  match f with
  | 0 => (0, 4)
  | 1 => (4, 4)
  | 2 => (8, 8)
  | 3 => (16, 16)
  | 4 => (32, 16)
  | 5 => (48, 16)
  | 6 => (64, 48)
  | 7 => (112, 16)
  | 8 => (128, 56)
  | 9 => (184, 4)
  | 10 => (188, 4)
  | 11 => (192, 64)
  | 16 => (0, 64)
  | 17 => (64, 64)
  | 18 => (128, 64)
  | 19 => (192, 64)
  | _ => (0, 0)

/-- Field `f` of a tag. -/
def tagGet (t : BitVec 256) (f : Nat) : Nat := fld t (tagField f).1 (tagField f).2

/-- A tag with field `f` replaced. -/
def tagSet (t : BitVec 256) (f v : Nat) : BitVec 256 := setFld t (tagField f).1 (tagField f).2 v

/-- A tag register operand uses the low three bits of its field; the others must be 0. -/
def tagReg (r : GReg) : Bool := decide (r.toNat < 8)

/-- A tag instruction whose tag operands and field are legal; otherwise illegal (R64). -/
def tagInstr (s : State) (c : CoreId) (legal : Bool) (charge : Nat) (f : Core → Core) : Res :=
  onCore s c (fun s => if legal then s.stepCore c charge f else s.illegal c)

/-- The mask of differing fields 0 to 11 of two tags, under `m` (R74). -/
def tagDiff (m : Nat) (x y : BitVec 256) : Nat :=
  ((List.range 12).map (fun i =>
    if m / 2 ^ i % 2 = 1 ∧ tagGet x i ≠ tagGet y i then 2 ^ i else 0)).sum

def execTfx (c : CoreId) (a b : GReg) (f : BitVec 9) (s : State) : Res :=
  tagInstr s c (tagReg b && tagFieldOk f.toNat) 1 (fun k => k.setG a (w64 (tagGet (k.getT b.toNat) f.toNat)))
def execTfi (c : CoreId) (a b : GReg) (f : BitVec 9) (s : State) : Res :=
  tagInstr s c (tagReg a && tagFieldOk f.toNat) 1
    (fun k => k.setT a.toNat (tagSet (k.getT a.toNat) f.toNat (k.getG b).toNat))
def execTclr (c : CoreId) (a : GReg) (s : State) : Res :=
  tagInstr s c (tagReg a) 1 (fun k => k.setT a.toNat 0)
def execTmov (c : CoreId) (a b : GReg) (s : State) : Res :=
  tagInstr s c (tagReg a && tagReg b) 1 (fun k => k.setT a.toNat (k.getT b.toNat))
def execTcmp (c : CoreId) (a b d : GReg) (i : Imm32) (s : State) : Res :=
  tagInstr s c (tagReg b && tagReg d) 2
    (fun k => k.setG a (w64 (tagDiff (fld i 0 12) (k.getT b.toNat) (k.getT d.toNat))))

def execMfoc (c : CoreId) (a : GReg) (s : State) : Res := alu s c a 1 (fun k => k.oc.setWidth 64)
def execMtick (c : CoreId) (a : GReg) (s : State) : Res := alu s c a 1 (fun _ => s.tick)
def execCoreid (c : CoreId) (a : GReg) (s : State) : Res := alu s c a 1 (fun _ => c.setWidth 64)
def execCredits (c : CoreId) (a : GReg) (s : State) : Res := alu s c a 1 (fun k => w64 k.freeEntries)
def execFence (c : CoreId) (s : State) : Res := onCore s c (fun s => s.stepCore c 8 (fun k => k))

/-- TIME_PERIOD.SEL. -/
def State.sel (s : State) : Nat := s.rfld 0 0 2

/-- Tick period in µs (R24). -/
def State.periodUs (s : State) : Nat := match s.sel with
  | 0 => 1
  | 1 => 2
  | _ => 4

/-- Core cycles per tick (R25). -/
def State.tickCycles (s : State) : Nat := 2000 * s.periodUs

/-- First cycle and length of the current window (R28). -/
def State.windowSpan (s : State) : Nat × Nat :=
  let p := s.periodUs
  match s.win with
  | .fault => (0, 100 * p)
  | .slot => (250 * p, 1750 * p)

/-- The core cycle within the current tick: the model divides a tick only into its windows, so it
is a free value inside the current window (R28, DESIGN CHOICE, log entry 10). -/
def State.cycleNow (s : State) : W64 × State :=
  let (f, s) := s.takeFree
  (w64 (s.windowSpan.1 + f.toNat % s.windowSpan.2), s)

def execMcyc (c : CoreId) (a : GReg) (s : State) : Res :=
  onCore s c (fun s =>
    let (v, s) := s.cycleNow
    s.stepCore c 1 (fun k => k.setG a v))

/-- SRESET: a controller fault reset, cause 2 (R75, R587). -/
def execSreset (c : CoreId) (s : State) : Res :=
  onCore s c (fun s => s.faultReset 2 c.toNat (s.core c).pc.toNat)

end Sys2Proof.Machine
end

