-- ==== Sys2Proof/Machine/Hazard.lean ====
section
/-! DEFINITION. The write sequence counter and mark window (R197 to R211), tseq, and the hazard
table with its primitives (R93, R102 to R105). -/

namespace Sys2Proof.Machine

/-! ## The counter and the mark window -/

/-- Station offsets of HAZ_WSN and HAZ_WSNRES. -/
def hazWsn : Nat := sta 3 0x100
def hazWsnRes : Nat := sta 3 0x108

/-- Next number tseq hands out. -/
def State.wsn (s : State) : Nat := s.rfld hazWsn 0 56

/-- The largest write sequence number; the counter stays there (R201). -/
def wsnMax : Nat := 2 ^ 56 - 1

/-- Ingot offset of the sequence reserve word (R197, R474). -/
def reserveWord : Nat := 0xE100000

/-- Whether a number lies in the window (R206). -/
def State.inWindow (s : State) (n : Nat) : Bool := decide (n < s.wsn) && decide (s.wsn ≤ n + 2 ^ 21)

/-- The entry of a number, when the number lies in the window and was handed out. -/
def State.markOf (s : State) (n : Nat) : Option Mark :=
  match FMap.get (fun _ => none) s.marks (n % 2 ^ 21) with
  | some m => if m.num = n ∧ s.inWindow n then some m else none
  | none => none

/-- Whether a number carries a durable mark (R206). -/
def State.marked (s : State) (n : Nat) : Bool :=
  match s.markOf n with
  | some m => m.p && decide (m.rem = 0)
  | none => false

/-- Change the entry of a live number. -/
def State.updMark (s : State) (n : Nat) (f : Mark → Mark) : State :=
  match s.markOf n with
  | some m => s.putMarks (FMap.set (fun _ => none) s.marks (n % 2 ^ 21) (some (f m)))
  | none => s

/-- Set P of a number (R207). -/
def State.setP (s : State) (n : Nat) : State := s.updMark n (fun m => { m with p := true })

/-- Take one witness credit from REM, to no lower than 0 (R208). -/
def State.takeRem (s : State) (n : Nat) : State := s.updMark n (fun m => { m with rem := m.rem - 1 })

/-- The device's numbering side: none on a worker (R207). -/
def State.numberSide (s : State) : Option Nat :=
  match s.rfld (sta 0x17 0x18) 2 2 with
  | 1 => none
  | 2 => some (s.rfld (sta 0x17 0x18) 4 1)
  | _ => some 0

/-- Write B + 2^24 when the counter has come within 2^23 of the bound (R197). -/
def State.wsnReserve (s : State) : State :=
  let b := s.rfld hazWsnRes 0 56
  if b ≤ s.wsn + 2 ^ 23 ∧ b < wsnMax then
    let b' := min (b + 2 ^ 24) wsnMax
    (s.setRfld hazWsnRes 0 56 b').putIngot (wrNum s.ingot reserveWord 8 b')
  else s

/-- Whether the entry that number `n` will take holds an unmarked number (R206). -/
def State.entryUnmarked (s : State) (n : Nat) : Bool :=
  match FMap.get (fun _ => (none : Option Mark)) s.marks (n % 2 ^ 21) with
  | some m => !(m.p && decide (m.rem = 0))
  | none => false

/-- Hand out one number with EXTRA witnesses awaited; an unmarked number that leaves its entry is
counted in HAZ_LAPSE (R206).  The number 2^56 - 1 is handed out again and never marked (R201).  A worker's window stays
empty (R207). -/
def State.wsnTake (s : State) (extra : Nat) : State :=
  let n := s.wsn
  if n ≥ wsnMax then s else
  let s := if s.entryUnmarked n then s.countRfld (sta 3 0x128) 0 32 1 else s
  let s := s.setRfld hazWsn 0 56 (n + 1)
  if s.numberSide.isNone then s
  else s.putMarks (FMap.set (fun _ => none) s.marks (n % 2 ^ 21) (some { num := n, p := false, rem := extra }))

/-- Hand out `n` numbers. -/
def State.wsnTakeN (s : State) (extra : Nat) : Nat → State
  | 0 => s
  | n + 1 => State.wsnTakeN (s.wsnTake extra) extra n

/-- TSEQ (R74, R199, R206). -/
def execTseq (c : CoreId) (a b d : GReg) (s : State) : Res :=
  onCore s c (fun s =>
    let k := s.core c
    let n := (k.getG d).toNat
    if !tagReg a then s.illegal c
    else if n = 0 ∨ 256 < n then s.stepCore c 20 (fun k => { k with oc := ocRange })
    else
      let t := k.getT a.toNat
      let first := s.wsn
      let side := if s.rfld (sta 0x17 0x18) 2 2 = 2 then s.rfld (sta 0x17 0x18) 4 1 else 0
      let s := (s.wsnTakeN (fld t 8 3) n).wsnReserve
      s.stepCore c 20 (fun k =>
        { (k.setT a.toNat (setFld (tagSet t 8 first) 12 1 side)).setG b (w64 first) with oc := ocDone }))

/-! ## The hazard table -/

/-- Entry `i`, when in use. -/
def State.hazAt (s : State) (i : Nat) : Option HazEntry :=
  (s.haz.find? (fun p => p.1 = i)).map (·.2)

/-- The lowest index not in use among the first `n` from `i`. -/
def hazFreeFrom (h : List (Nat × HazEntry)) : Nat → Nat → Option Nat
  | 0, _ => none
  | n + 1, i => if h.any (fun p => p.1 = i) then hazFreeFrom h n (i + 1) else some i

/-- A free entry: 65,536 in all (DESIGN CHOICE, log entry 6). -/
def State.hazFree (s : State) : Option Nat :=
  if s.haz.length ≥ 65536 then none else hazFreeFrom s.haz (s.haz.length + 1) 0

/-- Whether number `a` precedes `b` in fetch order (R92). -/
def fsnBefore (a b : BitVec 32) : Bool := decide (1 ≤ (b - a).toNat) && decide ((b - a).toNat ≤ 2 ^ 31 - 1)

/-- The number the queue engine assigned last; 0xFFFF_FFFF before the first fetch (R92, R102). -/
def State.lastFsn (s : State) : BitVec 32 :=
  if s.fsn = 1 then 0xFFFFFFFF else s.fsn - 1

/-- Whether an entry overlaps `n` grains from key `k` (R103). -/
def HazEntry.overlaps (e : HazEntry) (k : W64) (n : Nat) : Bool :=
  decide (fld e.key 48 16 = fld k 48 16) &&
  decide (fld e.key 0 48 < fld k 0 48 + n) && decide (fld k 0 48 < fld e.key 0 48 + e.count)

/-- The entries that qualify for hzchk (R103). -/
def State.hazQualify (s : State) (k : W64) (n : Nat) (before : BitVec 32) : List (Nat × HazEntry) :=
  s.haz.filter (fun p => p.2.overlaps k n && (decide (before = 0) || fsnBefore p.2.fsn before))

/-- Of two entries, the one fetched later. -/
def laterEntry (x y : Nat × HazEntry) : Nat × HazEntry := if fsnBefore x.2.fsn y.2.fsn then y else x

/-- gA of hzchk (R103). -/
def hazResult : List (Nat × HazEntry) → W64
  | [] => 0
  | x :: r =>
    let b := r.foldl laterEntry x
    w64 (b.1 + b2n (decide (b.2.buf ≠ 0)) * 2 ^ 16 + b2n (decide (r ≠ [])) * 2 ^ 17 + b.2.fsn.toNat * 2 ^ 32)

/-- The fetched command of a key. -/
def State.cmdOf (s : State) (k : W64) : Option Cmd := s.cmds.find? (fun d => d.key = k)

/-- The state with a command replaced. -/
def State.setCmd (s : State) (d : Cmd) : State :=
  s.putCmds (s.cmds.map (fun x => if x.key = d.key then d else x))

/-- HZINS mode 0: attach the buffer to the entry armed at fetch (R102). -/
def execHzinsConfirm (c : CoreId) (a b d : GReg) (s : State) : Res :=
  onCore s c (fun s =>
    let k := s.core c
    match (s.cmdOf (k.getG b)).bind (fun x => x.haz) with
    | some i =>
      match s.hazAt i with
      | some e =>
        if e.confirmed then s.syncFail c 20 ocRange
        else (s.putHaz (FMap.insert s.haz i { e with confirmed := true, buf := k.getG d })).syncDone c 20 a ocDone (w64 i)
      | none => s.syncFail c 20 ocRange
    | none => s.syncFail c 20 ocRange)

/-- HZINS mode 1: a confirmed entry without a buffer (R102). -/
def execHzinsInsert (c : CoreId) (a b d : GReg) (s : State) : Res :=
  onCore s c (fun s =>
    let k := s.core c
    let n := fld (k.getG d) 0 17
    let f := BitVec.ofNat 32 (fld (k.getG d) 32 32)
    if n = 0 ∨ 65536 < n then s.syncFail c 20 ocRange else
    match s.hazFree with
    | none => s.syncFail c 20 ocHazFull
    | some i =>
      let e : HazEntry := { key := k.getG b, count := n, fsn := if f = 0 then s.lastFsn else f,
                            confirmed := true, buf := 0 }
      (s.putHaz (FMap.insert s.haz i e)).syncDone c 20 a ocDone (w64 i))

/-- HZCHK (R103). -/
def execHzchk (c : CoreId) (a b d : GReg) (s : State) : Res :=
  onCore s c (fun s =>
    let k := s.core c
    let n := fld (k.getG d) 0 17
    if n = 0 then s.syncFail c 20 ocRange
    else s.syncDone c 20 a ocDone
      (hazResult (s.hazQualify (k.getG b) n (BitVec.ofNat 32 (fld (k.getG d) 32 32)))))

/-- No command has entry `i` any more. -/
def State.forgetHaz (s : State) (i : Nat) : State :=
  s.putCmds (s.cmds.map (fun d => if d.haz = some i then { d with haz := none } else d))

/-- HZDEL (R104). -/
def execHzdel (c : CoreId) (a b : GReg) (s : State) : Res :=
  onCore s c (fun s =>
    let i := fld ((s.core c).getG b) 0 16
    match s.hazAt i with
    | some _ => ((s.putHaz (FMap.erase s.haz i)).forgetHaz i).syncDone c 20 a ocDone 0
    | none => s.syncFail c 20 ocRange)

end Sys2Proof.Machine
end

