-- ==== Sys2Proof/Machine/Sync.lean ====
section
/-! DEFINITION. The other synchronous primitives: internal rings (R95), queue contexts (R97),
tundish buffers (R107, R108), sensors and health counters (R141, R142). -/

namespace Sys2Proof.Machine

/-! ## Internal rings -/

/-- A ring that nothing has configured: disabled (R96). -/
def ringReset (_ : Nat) : RingQ := { cap := 0, base := 0, vals := [] }

/-- Ring `i`. -/
def State.ringAt (s : State) (i : Nat) : RingQ := FMap.get ringReset s.rings i

/-- The state with ring `i` replaced. -/
def State.setRing (s : State) (i : Nat) (r : RingQ) : State :=
  s.putRings (FMap.set ringReset s.rings i r)

def execRpush (c : CoreId) (a b d : GReg) (s : State) : Res :=
  onCore s c (fun s =>
    let k := s.core c
    let i := fld (k.getG b) 0 12
    let r := s.ringAt i
    if r.cap = 0 then s.syncFail c 14 ocRange
    else if r.cap ≤ r.vals.length then s.syncFail c 14 ocRingFull
    else (s.setRing i { r with vals := r.vals ++ [k.getG d] }).syncDone c 14 a ocDone (w64 (r.vals.length + 1)))

def execRpop (c : CoreId) (a b : GReg) (s : State) : Res :=
  onCore s c (fun s =>
    let i := fld ((s.core c).getG b) 0 12
    let r := s.ringAt i
    if r.cap = 0 then s.syncFail c 14 ocRange
    else match r.vals with
      | [] => s.syncFail c 14 ocRingEmpty
      | v :: vs => (s.setRing i { r with vals := vs }).syncDone c 14 a ocDone v)

/-! ## Queue contexts -/

/-- Submission queue `q`, when its context is valid. -/
def State.sq (s : State) (q : Nat) : Option SQ := FMap.get (fun _ => none) s.sqs q

/-- Completion queue `q`, when its context is valid. -/
def State.cq (s : State) (q : Nat) : Option CQ := FMap.get (fun _ => none) s.cqs q

/-- The state with a submission queue context. -/
def State.setSq (s : State) (q : Nat) (x : Option SQ) : State :=
  s.putSqs (FMap.set (fun _ => none) s.sqs q x)

/-- The state with a completion queue context. -/
def State.setCq (s : State) (q : Nat) (x : Option CQ) : State :=
  s.putCqs (FMap.set (fun _ => none) s.cqs q x)

/-- The PASID fields of word 1 of a context. -/
def pasidBits (p : Option Nat) : Nat := match p with
  | some v => 2 ^ 20 + v % 2 ^ 20 * 2 ^ 21
  | none => 0

/-- Word 6 of a context. -/
def sliceBits (p : Option Nat) : Nat := match p with
  | some v => v % 4096 + 4096
  | none => 0

/-- The words of a submission queue context (R227). -/
def SQ.word (q : SQ) (i : Nat) : W64 :=
  match i with
  | 0 => q.base
  | 1 => w64 (q.entries % 2 ^ 17 + 2 ^ 17 + b2n q.paused * 2 ^ 18 + b2n q.retired * 2 ^ 19 +
      pasidBits q.pasid + q.func % 2048 * 2 ^ 41)
  | 2 => w64 (q.head % 65536 + q.tail % 65536 * 2 ^ 16 + q.hostId % 65536 * 2 ^ 32)
  | 3 => w64 (q.cq % 2 ^ 18 + q.level % 4 * 2 ^ 18 + q.owner.toNat * 2 ^ 20 + q.rcls.toNat * 2 ^ 26 +
      q.wcls.toNat * 2 ^ 32 + q.ocls.toNat * 2 ^ 38)
  | 4 => w64 (q.unsettled % 2 ^ 32)
  | 5 => w64 q.fetched
  | 6 => w64 (sliceBits q.slice)
  | _ => 0

/-- The words of a completion queue context (R227). -/
def CQ.word (q : CQ) (i : Nat) : W64 :=
  match i with
  | 0 => q.base
  | 1 => w64 (q.entries % 2 ^ 17 + 2 ^ 17 + pasidBits q.pasid + q.func % 2048 * 2 ^ 41)
  | 2 => w64 (q.tail % 65536 + q.head % 65536 * 2 ^ 16 + b2n q.phase * 2 ^ 32 + q.hostId % 65536 * 2 ^ 48)
  | 3 => w64 (q.vector % 2048 + b2n q.ien * 2 ^ 11)
  | 4 => w64 (q.waiting % 2 ^ 32)
  | 5 => w64 q.written
  | 6 => w64 (sliceBits q.slice)
  | _ => 0

/-- qctl operation 0, by IMM[7:0]: read context word IMM[7:4].  The row also stands for the operations that R97 does not
define, 6 to 15; an operation of another row is that row's instruction. -/
def execQctlRead (c : CoreId) (a b _d : GReg) (i : BitVec 8) (s : State) : Res :=
  onCore s c (fun s =>
    let g := (s.core c).getG b
    let op := fld i 0 4
    let word := fld i 4 4
    if 1 ≤ op ∧ op ≤ 5 then s
    else if 5 < op ∨ 7 < word then s.syncFail c 46 ocRange
    else if bit g 18 then
      match s.cq (fld g 0 18) with
      | some q => s.syncDone c 46 a ocDone (q.word word)
      | none => s.syncFail c 46 ocRange
    else
      match s.sq (fld g 0 18) with
      | some q => s.syncDone c 46 a ocDone (q.word word)
      | none => s.syncFail c 46 ocRange)

/-- A qctl operation on a submission queue; a completion queue or one that does not exist answers
0x1F (R97, DEDUCED, log entry 11). -/
def qctlSq (c : CoreId) (b : GReg) (s : State) (f : State → Nat → SQ → State) : Res :=
  onCore s c (fun s =>
    let g := (s.core c).getG b
    if bit g 18 then s.syncFail c 46 ocRange
    else match s.sq (fld g 0 18) with
      | some q => f s (fld g 0 18) q
      | none => s.syncFail c 46 ocRange)

def execQctlPause (c : CoreId) (_a b _d : GReg) (s : State) : Res :=
  qctlSq c b s (fun s n q => (s.setSq n (some { q with paused := true })).syncFail c 46 ocDone)

def execQctlResume (c : CoreId) (_a b _d : GReg) (s : State) : Res :=
  qctlSq c b s (fun s n q => (s.setSq n (some { q with paused := false })).syncFail c 46 ocDone)

def execQctlSetOwner (c : CoreId) (_a b d : GReg) (s : State) : Res :=
  qctlSq c b s (fun s n _ =>
    let g := (s.core c).getG d
    (s.putQPend (s.qPend ++ [(n, QChange.owner (BitVec.ofNat 6 (fld g 0 6)) (BitVec.ofNat 6 (fld g 6 6))
        (BitVec.ofNat 6 (fld g 12 6)) (BitVec.ofNat 6 (fld g 18 6)))])).syncFail c 46 ocDone)

def execQctlSetLevel (c : CoreId) (_a b d : GReg) (s : State) : Res :=
  qctlSq c b s (fun s n _ =>
    (s.putQPend (s.qPend ++ [(n, QChange.level (fld ((s.core c).getG d) 0 2))])).syncFail c 46 ocDone)

def execQctlRetire (c : CoreId) (a b _d : GReg) (s : State) : Res :=
  qctlSq c b s (fun s n q =>
    (s.setSq n (some { q with retired := true })).syncDone c 46 a ocDone (w64 q.unsettled))

/-! ## Tundish buffers -/

/-- BGET: the parts in the order the placement gives; never a larger pool (R107, R480). -/
def execBget (c : CoreId) (a b : GReg) (i : Imm32) (s : State) : Res :=
  onCore s c (fun s =>
    let size := fld i 0 19
    let place := fld i 19 2
    let cls := fld ((s.core c).getG b) 0 6
    if size = 0 ∨ 262144 < size ∨ place = 3 then s.syncFail c 14 ocRange
    else
      let p := poolFor size
      let got := match place with
        | 0 => (s.alloc cls p false).or (s.alloc cls p true)
        | 1 => s.alloc cls p false
        | _ => s.alloc cls p true
      match got with
      | some (h, s) => s.syncDone c 14 a ocDone h
      | none => s.syncFail c 14 ocPoolEmpty)

/-- BPUT: one reference less; the count of 0 frees the buffer.  Entry buffers are refused (R94,
R108). -/
def execBput (c : CoreId) (a b : GReg) (s : State) : Res :=
  onCore s c (fun s =>
    match s.bufOf ((s.core c).getG b) with
    | some (x, t) =>
      if t.owner = 63 then s.syncFail c 14 ocBuffer
      else (s.unref x).syncDone c 14 a ocDone (w64 (t.refs - 1))
    | none => s.syncFail c 14 ocBuffer)

/-- BREF: one reference more, at most 255 (R108). -/
def execBref (c : CoreId) (a b : GReg) (s : State) : Res :=
  onCore s c (fun s =>
    match s.bufOf ((s.core c).getG b) with
    | some (x, t) =>
      if t.owner = 63 ∨ 255 ≤ t.refs then s.syncFail c 14 ocBuffer
      else (s.addRef x).syncDone c 14 a ocDone (w64 (t.refs + 1))
    | none => s.syncFail c 14 ocBuffer)

/-! ## Sensors and health counters -/

/-- Ticks in one second. -/
def State.secondTicks (s : State) : Nat := 1000000 / s.periodUs

/-- A sensor's temperature field and the tick of its reading, when the sensor is fitted (R141, R528). -/
def State.sensor (s : State) (n : Nat) : Option (Nat × Nat) :=
  let at_ := (FMap.get (fun _ => (0 : W64)) s.readAt n).toNat
  if n < 24 then some (s.rfld (sta 0xF (0x100 + 8 * n)) 0 16, at_)
  else if 32 ≤ n ∧ n ≤ 287 then
    let v := s.reg (sta 0xF (0x200 + 8 * (n - 32)))
    if bit v 16 then some (fld v 0 16, at_) else none
  else none

/-- A sensor's reading, no older than 1 s (R141). -/
def State.freshSensor (s : State) (n : Nat) : Option Nat :=
  (s.sensor n).bind (fun p => if s.tick.toNat ≤ p.2 + s.secondTicks then some p.1 else none)

/-- A temperature as an integer. -/
def tempInt (t : Nat) : Int := if t < 0x8000 then (t : Int) else (t : Int) - 0x10000

/-- The highest among readings no older than 1 s. -/
def State.maxSensor (s : State) (ns : List Nat) : Option Nat :=
  (ns.filterMap s.freshSensor).foldl
    (fun best t => match best with
      | none => some t
      | some b => if tempInt b < tempInt t then some t else some b) none

/-- SENS: a number that is no sensor's is out of range (R90, R141, DEDUCED, log entry 120). -/
def execSens (c : CoreId) (a b : GReg) (s : State) : Res :=
  onCore s c (fun s =>
    let n := ((s.core c).getG b).toNat
    let r :=
      if n = 24 then s.maxSensor (List.range 24)
      else if n = 288 then s.maxSensor ((List.range 256).map (· + 32))
      else s.freshSensor n
    if (24 < n ∧ n < 32) ∨ 288 < n then s.syncFail c 44 ocRange else
    match r with
    | some t => s.syncDone c 44 a ocDone (sext 16 t)
    | none => s.syncFail c 44 0x73)

/-- HLTH: add to a health counter, saturating (R142). -/
def execHlth (c : CoreId) (a b d : GReg) (s : State) : Res :=
  onCore s c (fun s =>
    let k := s.core c
    let i := fld (k.getG b) 0 8
    let v := w64 (satAdd 64 (FMap.get (fun _ => 0) s.health i).toNat (k.getG d).toNat)
    (s.putHealth (FMap.set (fun _ => 0) s.health i v)).syncDone c 44 a ocDone v)

end Sys2Proof.Machine
end

