-- ==== Sys2Proof/Machine/Gate.lean ====
section
/-! DEFINITION. The completion gate: claims, fences, completion entries and the settling of
commands (R94, R98 to R101, R229, R490). -/

namespace Sys2Proof.Machine

/-- Whether a command's function or slice is in reset (R490). -/
def State.inReset (s : State) (d : Cmd) : Bool :=
  s.resets.any (fun r => decide (r.func = d.func) &&
    match r.slice with
    | none => true
    | some x => decide (d.slice = some x))

/-- The command identifier of a submission queue entry. -/
def Cmd.cid (d : Cmd) : BitVec 16 := BitVec.ofNat 16 (fld d.sqe 16 16)

/-- Dword `i` of a submission queue entry. -/
def Cmd.dw (d : Cmd) (i : Nat) : Nat := fld d.sqe (32 * i) 32

/-- Whether a completion queue has no room for another entry: the next tail would meet the head
(R229). -/
def CQ.full (q : CQ) : Bool := decide ((q.tail + 1) % q.entries = q.head)

/-- One command fewer of its queue is unsettled (R227). -/
def State.settleCount (s : State) (d : Cmd) : State :=
  match s.sq d.sq with
  | some q => s.setSq d.sq (some { q with unsettled := q.unsettled - 1 })
  | none => s

/-- The entry buffer is released: it returns to class 63 at the end of the fourth tick after this
one, counting no cooling-gap tick (R94). -/
def State.releaseEntry (s : State) (d : Cmd) : State := s.setCmd { d with settle := .settled (if s.gap then 4 else 5) }

/-- Delete a command's hazard entry, armed or confirmed (R101). -/
def State.dropHaz (s : State) (d : Cmd) : State :=
  match d.haz with
  | some i => s.putHaz (FMap.erase s.haz i)
  | none => s

/-- Write the completion entry of a command into its queue and send MSI-X as the queue's interrupt
settings require (R100). -/
def State.writeCqe (s : State) (d : Cmd) (dw0 dw1 : BitVec 32) (st : BitVec 15) : State :=
  match s.sq d.sq with
  | some q =>
    match s.cq q.cq with
    | some x =>
      let s := s.putOut (s.out ++
        (Out.cqe q.cq dw0 dw1 q.head q.hostId d.cid x.phase st ::
          (if x.ien then [Out.msix x.func x.vector] else [])))
      s.setCq q.cq (some { x with
        tail := (x.tail + 1) % x.entries,
        phase := if x.tail + 1 = x.entries then !x.phase else x.phase,
        written := satAdd 64 x.written 1 })
    | none => s
  | none => s

/-- Whether the completion queue of a command has room. -/
def State.cqRoom (s : State) (d : Cmd) : Bool :=
  match (s.sq d.sq).bind (fun q => s.cq q.cq) with
  | some x => !x.full
  | none => false

/-- A change of the count of claims waiting on a command's completion queue (R227). -/
def State.cqWaiting (s : State) (d : Cmd) (f : Nat → Nat) : State :=
  match s.sq d.sq with
  | some q =>
    match s.cq q.cq with
    | some x => s.setCq q.cq (some { x with waiting := f x.waiting })
    | none => s
  | none => s

/-- The claim's event, for a claim made by a request. -/
def State.claimEvent (s : State) (req : Option (CoreId × Ticket)) (oc : Byte) : State :=
  match req.bind (fun p => s.findReq p.1 p.2) with
  | some r => s.fail r oc
  | none => s

/-- Steps 2 to 5 of R100 for a settled command: completion entry, MSI-X, entry buffer, event; with
a full completion queue the claim waits (R229). -/
def State.postEntry (s : State) (d : Cmd) (dw0 dw1 : BitVec 32) (st : BitVec 15)
    (req : Option (CoreId × Ticket)) : State :=
  if s.cqRoom d then
    ((s.writeCqe d dw0 dw1 st).releaseEntry d).claimEvent req ocDone
  else
    (s.setCmd { d with settle := .space dw0 dw1 st req }).cqWaiting d (· + 1)

/-- A command settled without a claim of a program: admin commands and the errors that the
hardware answers. -/
def State.respond (s : State) (d : Cmd) (dw0 dw1 : BitVec 32) (st : BitVec 15) : State :=
  if d.settle = .live then
    if s.inReset d then (s.settleCount d).releaseEntry d
    else (s.settleCount d).postEntry d dw0 dw1 st none
  else s

/-- A completion claim of a request (R99, R100). -/
def State.claimCompletion (s : State) (r : Req) (key : W64) (dw0 dw1 : BitVec 32) (st : BitVec 15)
    (first count : Nat) : State :=
  match s.cmdOf key with
  | none => s.fail r ocRange
  | some d =>
    if d.settle = .live then
      let s := s.settleCount d
      if s.inReset d then (s.releaseEntry d).fail r 0x05
      else (s.setReq { r with phase := .held }).setCmd
        { d with settle := .claimed dw0 dw1 st first count r.core r.ticket }
    else s.fail r 0x03

/-- The volume write that a command has begun, if any (R416). -/
def State.jobOf (s : State) (d : Cmd) : Option Job := s.jobs.find? (fun j => decide (j.key = d.key) && decide (j.fsn = d.fsn))

/-- The range of an aborted command takes the uncorrectable marker (R265). -/
def State.failJobs (s : State) (d : Cmd) : State :=
  s.putJobs (s.jobs.map (fun j => if j.key = d.key ∧ j.fsn = d.fsn then { j with bad := true } else j))

/-- A squash settles a command; the hazard entry goes with it, but not that of a volume write which a reset lets go on
(R101, R493). -/
def State.squashCmd (s : State) (d : Cmd) : State :=
  if s.inReset d && (s.jobOf d).isSome then (s.settleCount d).releaseEntry { d with haz := none }
  else (((s.settleCount d).dropHaz d).failJobs d).releaseEntry { d with haz := none }

/-- A squash claim (R101). -/
def State.claimSquash (s : State) (r : Req) (key : W64) : State :=
  match s.cmdOf key with
  | none => s.fail r ocRange
  | some d =>
    if d.settle = .live then
      (s.squashCmd d).fail r (if s.inReset d then 0x05 else ocDone)
    else s.fail r 0x03

/-- A held abort claim applies (R99, R101). -/
def State.claimAbort (s : State) (r : Req) (key : W64) : State :=
  match s.cmdOf key with
  | none => s.fail r ocRange
  | some d =>
    if d.settle = .live then
      if s.inReset d then (s.squashCmd d).fail r 0x05
      else
        let s' := (((s.setReq { r with phase := .started }).settleCount d).dropHaz d).failJobs d
        s'.postEntry { d with haz := none, aborted := true } 0 0 0x07 (some (r.core, r.ticket))
    else s.fail r 0x03

/-- The gate takes a request: completion and squash claims apply at once, an abort claim is held
to the end of the tick (R98, R99). -/
def State.gateTake (s : State) (r : Req) : State :=
  match r.prim with
  | .gate =>
    if r.imm ≠ 0 ∨ 65536 < fld (r.op 4) 0 17 then s.fail r ocRange
    else s.claimCompletion r (r.op 0) (BitVec.ofNat 32 (fld (r.op 1) 0 32))
      (BitVec.ofNat 32 (fld (r.op 1) 32 32)) (BitVec.ofNat 15 (fld (r.op 2) 0 15))
      (fld (r.op 3) 0 56) (fld (r.op 4) 0 17)
  | _ =>
    if (s.cmdOf (r.op 0)).isNone then s.fail r ocRange
    else if bit r.imm 0 then s.setReq { r with phase := .held }
    else s.claimSquash r (r.op 0)

/-- Every number of a fence carries a durable mark (R100, R206). -/
def State.fenceMet (s : State) (first count : Nat) : Bool :=
  (List.range count).all (fun i => s.marked (first + i))

/-- GATE_FENCE_RELEASE: the wait of step 1 of R100 ends and the claim completes. -/
def execGateFenceRelease (k : W64) (s : State) : Res :=
  .next (match s.cmdOf k with
    | some d =>
      match d.settle with
      | .claimed dw0 dw1 st first count c t =>
        if s.fenceMet first count then s.postEntry d dw0 dw1 st (some (c, t)) else s
      | _ => s
    | none => s)

/-- The oldest command that waits for space in completion queue `cq`. -/
def State.spaceWaiter (s : State) (cq : Nat) : Option Cmd :=
  s.cmds.find? (fun d =>
    (match d.settle with
      | .space _ _ _ _ => true
      | _ => false) && decide ((s.sq d.sq).map (fun q => q.cq) = some cq))

/-- CQ_SPACE_RESUME: the host has advanced the head; the oldest waiting claim writes its entry
(R229). -/
def execCqSpaceResume (cq : Nat) (s : State) : Res :=
  .next (match s.spaceWaiter cq with
    | some d =>
      match d.settle with
      | .space dw0 dw1 st req =>
        if s.cqRoom d then (s.cqWaiting d (· - 1)).postEntry d dw0 dw1 st req else s
      | _ => s
    | none => s)

/-- The held abort claim on a key. -/
def State.heldAbort (s : State) (k : W64) : Option Req :=
  s.reqs.find? (fun r => decide (r.prim = .squash) && decide (r.phase = .held) && bit r.imm 0 &&
    decide (r.op 0 = k))

/-- The resident set's abort claim on a command applies, and its Abort answers from the outcome: dword 0 bit 0 is 0 when the
claim settled the command (R99, R101, R239, R240). -/
def State.abortFor (s : State) (k : W64) (by_ : Cmd) : State :=
  match s.cmdOf k with
  | some x =>
    if x.settle = .live then (((s.dropHaz x).failJobs x).respond { x with haz := none } 0 0 0x07).respond by_ 0 0 0
    else s.respond by_ 1 0 0
  | none => s.respond by_ 1 0 0

/-- The held claim of the resident set on a command applies. -/
def State.applyFor (s : State) (p : W64 × W64) : State :=
  let s := s.putAborts (s.aborts.filter (· ≠ p))
  match s.cmdOf p.2 with
  | some d => s.abortFor p.1 d
  | none => s

/-- ABORT_CLAIM_APPLY: the held abort claim on key `k` applies at the end of its tick, after every claim that the gate
takes in it (R99). -/
def execAbortClaimApply (k : W64) (s : State) : Res :=
  .next (match s.heldAbort k with
    | some r => (s.claimAbort r k).putGateShut true
    | none =>
      match s.aborts.find? (fun p => p.1 = k) with
      | some p => (s.applyFor p).putGateShut true
      | none => s)

/-- Apply every held abort claim, oldest first: the end of the tick (R99, DEDUCED, log entry 164). -/
def State.applyAborts (s : State) : State :=
  let s := (s.reqs.filter (fun r => decide (r.prim = .squash) && decide (r.phase = .held) && bit r.imm 0)).foldl
    (fun s r => match s.findReq r.core r.ticket with
      | some r => if r.phase = .held then s.claimAbort r (r.op 0) else s
      | none => s) s
  s.aborts.foldl State.applyFor s

/-- One tick end counts toward the return of every released entry buffer (R94). -/
def State.countEntries (s : State) : State :=
  s.putCmds (s.cmds.map (fun d => match d.settle with
      | .settled (n + 1) => { d with settle := .settled n }
      | _ => d))

/-- ENTRY_BUFFER_RETURN: the entry buffer of a settled command returns to class 63 (R94). -/
def execEntryBufferReturn (k : W64) (s : State) : Res :=
  .next (match s.cmdOf k with
    | some d =>
      match d.settle with
      | .settled 0 => (s.dropBuf d.buf).putCmds (s.cmds.filter (fun x => x.key ≠ k))
      | _ => s
    | none => s)

end Sys2Proof.Machine
end

