-- ==== Sys2Proof/Machine/Ctrl.lean ====
section
/-! DEFINITION. Functions, ports and controllers (R212, R213, R216), status codes, and asynchronous
events. -/

namespace Sys2Proof.Machine

/-! ## Functions -/

/-- ID_ROLE.ROLE: 1 worker, 2 manager (R9). -/
def State.role (s : State) : Nat := s.rfld (sta 0x17 0x18) 2 2
def State.isWorker (s : State) : Bool := decide (s.role = 1)
def State.isManager (s : State) : Bool := decide (s.role = 2)

/-- Host ports of the device; a worker forms none (R212). -/
def State.hostPorts (s : State) : Nat := if s.isWorker then 0 else 2 ^ s.rfld (sta 0x14 0) 2 2

/-- Functions of each port (R213). -/
def State.portFuncs (s : State) : Nat := 2048 / max 1 s.hostPorts

/-- Port, and number within the port, of a device-wide function number. -/
def State.portOf (s : State) (f : Nat) : Nat := f / s.portFuncs
def State.funcIdx (s : State) (f : Nat) : Nat := f % s.portFuncs

/-- Whether a function is a physical function. -/
def State.isPf (s : State) (f : Nat) : Bool := decide (s.funcIdx f = 0) && decide (s.portOf f < s.hostPorts)

/-- The physical function of a function's port. -/
def State.pfOf (s : State) (f : Nat) : Nat := s.portOf f * s.portFuncs

/-! ## Controllers -/

def ctrlReset (_ : Nat) : Ctrl where
  cc := 0
  aqa := 0
  asq := 0
  acq := 0
  rdy := false
  cfs := false
  shst := 0
  online := false
  vq := 0
  vi := 0
  feat := []
  aer := []
  numVfs := 0
  pasid := false

/-- The controller of a function. -/
def State.ctrl (s : State) (f : Nat) : Ctrl := FMap.get ctrlReset s.ctrls f

/-- The state with a controller replaced. -/
def State.setCtrl (s : State) (f : Nat) (c : Ctrl) : State := s.putCtrls (FMap.set ctrlReset s.ctrls f c)

/-- Whether a function exists: a physical function of a port, or an enabled virtual one (R213, R482). -/
def State.funcExists (s : State) (f : Nat) : Bool :=
  decide (s.portOf f < s.hostPorts) && decide (s.funcIdx f ≤ (s.ctrl (s.pfOf f)).numVfs)

/-- Whether a controller may be enabled: a physical function's, or a secondary one that is online. -/
def State.ctrlUp (s : State) (f : Nat) : Bool := s.isPf f || (s.funcExists f && (s.ctrl f).online)

/-- ID_BOOT.STEP: the step of the bring-up, 8 once it is done (R573). -/
def idBoot : Nat := sta 0x17 0x28
def State.bootStep (s : State) : Nat := s.rfld idBoot 0 4

/-- A controller fault reset has stopped the device, which came up before (R469, R572). -/
def State.faulted (s : State) : Bool := s.boot.down && decide (s.bootStep = 8)

/-- CSTS of a controller: RDY, CFS and SHST (R216, R217, R469). -/
def State.csts (s : State) (f : Nat) : BitVec 32 :=
  let c := s.ctrl f
  BitVec.ofNat 32 (b2n c.rdy + b2n (c.cfs || s.faulted) * 2 + c.shst * 4)

/-- CAP and VS (R216). -/
def capReg : W64 := 0x004008200C03FFFF
def vsReg : W64 := 0x00020100

/-- Whether a controller serves commands. -/
def Ctrl.live (c : Ctrl) : Bool := bit c.cc 0 && c.rdy

/-- Whether the controller arbitrates by weighted round robin with urgent priority. -/
def Ctrl.wrr (c : Ctrl) : Bool := decide (fld c.cc 11 3 = 1)

/-! ## Status codes

The status field of a completion entry, without the phase tag: SC [7:0], SCT [10:8].  The rules name
the codes; their numbers are those of NVM Express (PRESUMED, log entry 28). -/

def stOk : BitVec 15 := 0x000
def stPrpOffset : BitVec 15 := 0x013
def stOpcode : BitVec 15 := 0x001
def stField : BitVec 15 := 0x002
def stCidConflict : BitVec 15 := 0x003
def stInternal : BitVec 15 := 0x006
def stAborted : BitVec 15 := 0x007
def stNamespace : BitVec 15 := 0x00B
def stSequence : BitVec 15 := 0x00C
def stNsNotReady : BitVec 15 := 0x082
def stFormatInProgress : BitVec 15 := 0x084
def stSanitize : BitVec 15 := 0x01D
def stWriteProtected : BitVec 15 := 0x020
def stLbaRange : BitVec 15 := 0x080
def stCapacity : BitVec 15 := 0x081
def stCqInvalid : BitVec 15 := 0x100
def stQueueId : BitVec 15 := 0x101
def stQueueSize : BitVec 15 := 0x102
def stAbortLimit : BitVec 15 := 0x103
def stAerLimit : BitVec 15 := 0x105
def stFwSlot : BitVec 15 := 0x106
def stFwImage : BitVec 15 := 0x107
def stVector : BitVec 15 := 0x108
def stLogPage : BitVec 15 := 0x109
def stFormat : BitVec 15 := 0x10A
def stQueueDeletion : BitVec 15 := 0x10C
def stFwSubsysReset : BitVec 15 := 0x110
def stFwCtrlReset : BitVec 15 := 0x111
def stOverlap : BitVec 15 := 0x114
def stFwProhibited : BitVec 15 := 0x113
def stNsCapacity : BitVec 15 := 0x115
def stNsAttached : BitVec 15 := 0x118
def stNsNotAttached : BitVec 15 := 0x11A
def stSelfTest : BitVec 15 := 0x11D
def stSecondary : BitVec 15 := 0x120
def stResources : BitVec 15 := 0x121
def stResourceId : BitVec 15 := 0x122
def stZoneBoundary : BitVec 15 := 0x1B8
def stZoneFull : BitVec 15 := 0x1B9
def stZoneReadOnly : BitVec 15 := 0x1BA
def stZoneOffline : BitVec 15 := 0x1BB
def stZoneWrite : BitVec 15 := 0x1BC
def stZoneActive : BitVec 15 := 0x1BD
def stZoneOpen : BitVec 15 := 0x1BE
def stZoneTransition : BitVec 15 := 0x1BF
def stNsidUnavailable : BitVec 15 := 0x116
def stCtrlList : BitVec 15 := 0x11C
def stNotSaveable : BitVec 15 := 0x10D
def stAnaLoss : BitVec 15 := 0x301
def stAnaInaccessible : BitVec 15 := 0x302
def stAnaTransition : BitVec 15 := 0x303
def stTransfer : BitVec 15 := 0x004
def stWriteFault : BitVec 15 := 0x280
def stUnrecovered : BitVec 15 := 0x281
def stAccessDenied : BitVec 15 := 0x286

/-! ## Asynchronous events -/

/-- Completion dword 0 of an Asynchronous Event Request. -/
def AsyncEv.dw0 (e : AsyncEv) : BitVec 32 := BitVec.ofNat 32 (e.typ % 8 + e.info % 256 * 2 ^ 8 + e.lid % 256 * 2 ^ 16)

/-- An asynchronous event of a controller: it completes the oldest outstanding request, or waits for
one (R220). -/
def State.asyncEvent (s : State) (f : Nat) (e : AsyncEv) : State :=
  match (s.ctrl f).aer with
  | k :: r =>
    let s := s.setCtrl f { s.ctrl f with aer := r }
    match s.cmdOf k with
    | some d => s.respond d e.dw0 0 stOk
    | none => s
  | [] => s.putEvents (s.events ++ [(f, e)])

/-- An asynchronous event for every ready controller. -/
def State.asyncAll (s : State) (e : AsyncEv) : State :=
  ((s.ctrls.filter (fun p => p.2.live)).map (·.1)).foldl (fun s f => s.asyncEvent f e) s

/-- A running self-test ends with a result and a segment (R364). -/
def State.testResult (s : State) (result seg : Nat) : State :=
  match s.care.test with
  | some (code, _, _) => s.putCare { s.care with test := none, results := ((code, result, seg) :: s.care.results).take 20 }
  | none => s

/-- A running self-test is ended by an abort, a controller reset or a Format NVM (R364). -/
def State.endTest (s : State) (result : Nat) : State := s.testResult result 0

end Sys2Proof.Machine
end

