-- ==== Sys2Proof/Machine/Location.lean ====
section
/-! DEFINITION. Location words (R110), die groups and extents (R254 to R256), and the extent order
of a zone (R119). -/

namespace Sys2Proof.Machine

/-- The uncorrectable marker (R266). -/
def marker : W64 := 0x000FF00000000000

/-- The word of a grain held on a volume's members (R121). -/
def volumeWord : W64 := 0x000FE00000000000

/-- Whether the die a location word names is fitted. -/
def State.dieFitted (s : State) (ch die : Nat) : Bool :=
  bit (s.reg (sta (0x40 + ch) 0x10)) die

/-- Whether all 32 channels are present (R254). -/
def State.wide (s : State) : Bool := decide (popTo (fld s.presence 0 32) 32 = 32)

/-- Channel and position of die `d` of die group `q` (R254). -/
def State.groupDie (s : State) (q d : Nat) : Nat × Nat :=
  if s.wide then (if q % 2 = 0 then d else 16 + d, q / 2) else (d, q)

/-- Die group and die of a channel and position. -/
def State.dieGroup (s : State) (ch pos : Nat) : Nat × Nat :=
  if s.wide then (2 * pos + ch / 16, ch % 16) else (pos, ch)

/-- Pages per block per plane in a mode: 0 TLC, 1 QLC, 3 pSLC (R118). -/
def State.pagesOf (s : State) (mode : Nat) : Nat :=
  match mode with
  | 0 => s.fam.pagesTlc
  | 1 => s.fam.pagesQlc
  | _ => s.fam.pagesPslc

/-- Pages per wordline of a mode (R119). -/
def pagesPerWl (mode : Nat) : Nat :=
  match mode with
  | 0 => 3
  | 1 => 4
  | _ => 1

/-- Grains that one extent holds (R256). -/
def extentGrains (f : DieFamily) : Nat :=
  15 * f.planes * (4 * f.halves * (if f.qlc then f.pagesQlc else f.pagesTlc) - 1)

/-- Extent capacity C (R256). -/
def extentCap (f : DieFamily) : Nat := 256 * (extentGrains f / 256)

/-- The least power of two that is at least `n`, searched from `2 ^ i` for `k` powers. -/
def pow2From (n : Nat) : Nat → Nat → Nat
  | 0, i => 2 ^ i
  | k + 1, i => if n ≤ 2 ^ i then 2 ^ i else pow2From n k (i + 1)

/-- Zone size in grains (R256). -/
def zoneSize (f : DieFamily) : Nat := pow2From (extentCap f) 40 0

/-- A zone-extent entry of DRAM (R118). -/
structure ExtEntry where
  serial : Nat
  group : Nat
  mode : Nat
  voidCount : Nat
  valid : Bool
  runs : Nat
  listAddr : Nat
  listCap : Nat
  blocks : List Nat
  voids : List W64
  deriving DecidableEq, Repr

/-- Read the zone-extent entry at a DRAM address. -/
def State.readEntry (s : State) (a : Nat) : ExtEntry where
  serial := rdNum s.dram a 8
  group := rdNum s.dram (a + 8) 1
  mode := rdNum s.dram (a + 9) 1
  voidCount := rdNum s.dram (a + 10) 1
  valid := rdNum s.dram (a + 11) 1 % 2 = 1
  runs := rdNum s.dram (a + 12) 4
  listAddr := rdNum s.dram (a + 16) 8
  listCap := rdNum s.dram (a + 24) 4
  blocks := (List.range 64).map (fun i => rdNum s.dram (a + 32 + 2 * i) 2)
  voids := (List.range 8).map (fun i => rdW s.dram (a + 160 + 8 * i))

/-- Whether a void of the entry covers wordline `w` of plane `pl` of die `d` (R118). -/
def ExtEntry.void (e : ExtEntry) (d pl w : Nat) : Bool :=
  (e.voids.take e.voidCount).any (fun v =>
    decide (fld v 0 4 = d) && bit v (4 + pl) && decide (fld v 8 12 = w))

/-- The data dies of an extent: ascending, the parity die left out (R255). -/
def ExtEntry.dataDies (e : ExtEntry) : List Nat := (List.range 16).filter (fun d => d ≠ e.serial % 16)

/-- Frames of one wordline of one plane of one die: none in a void, one less on wordline 0 for the
block header (R119). -/
def ExtEntry.wlFrames (e : ExtEntry) (halves d pl w : Nat) : Nat :=
  if e.void d pl w then 0 else pagesPerWl e.mode * halves * 4 - b2n (decide (w = 0))

/-- The die and plane pairs of a wordline, in order. -/
def ExtEntry.places (e : ExtEntry) (planes : Nat) : List (Nat × Nat) :=
  e.dataDies.flatMap (fun d => (List.range planes).map (fun pl => (d, pl)))

/-- Frames of wordline `w` over every die and plane. -/
def ExtEntry.wlTotal (e : ExtEntry) (f : DieFamily) (w : Nat) : Nat :=
  ((e.places f.planes).map (fun p => e.wlFrames f.halves p.1 p.2 w)).sum

/-- Find the place of frame `k` within wordline `w`. -/
def ExtEntry.inWl (e : ExtEntry) (f : DieFamily) (w : Nat) : List (Nat × Nat) → Nat → Option (Nat × Nat × Nat)
  | [], _ => none
  | (d, pl) :: r, k =>
    let n := e.wlFrames f.halves d pl w
    if k < n then some (d, pl, k) else ExtEntry.inWl e f w r (k - n)

/-- Find frame `k` from wordline `w` on, over `n` wordlines: wordline, die, plane, index. -/
def ExtEntry.findFrame (e : ExtEntry) (f : DieFamily) : Nat → Nat → Nat → Option (Nat × Nat × Nat × Nat)
  | 0, _, _ => none
  | n + 1, w, k =>
    let t := e.wlTotal f w
    if k < t then (e.inWl f w (e.places f.planes) k).map (fun p => (w, p))
    else ExtEntry.findFrame e f n (w + 1) (k - t)

/-- The device's own member identifier (R9). -/
def State.ownMember (s : State) : Nat := s.rfld (sta 0x17 0x18) 8 8

/-- The location word of a die, plane, page, half and frame of the extent. -/
def State.extLoc (s : State) (e : ExtEntry) (d pl page half frame : Nat) : W64 :=
  let p := s.groupDie e.group d
  mkLoc p.1 (p.2 / 8) (p.2 % 8) pl (e.blocks.getD (4 * d + pl) 0) page frame half s.ownMember

/-- The frame of offset `o` in the zone's extent order; none beyond the extent's frames or its
capacity (R119). -/
def State.extFrame (s : State) (e : ExtEntry) (o : Nat) : Option W64 :=
  if extentCap s.fam ≤ o then none else
  let l := pagesPerWl e.mode
  match e.findFrame s.fam (s.pagesOf e.mode / l) 0 o with
  | some (w, d, pl, i) =>
    let j := i + b2n (decide (w = 0))
    some (s.extLoc e d pl (l * w + j / (4 * s.fam.halves)) (j % (4 * s.fam.halves) / 4) (j % 4))
  | none => none

/-- The offset of a location word in the extent order, when it names a frame of it. -/
def State.extOffset (s : State) (e : ExtEntry) (loc : W64) : Option Nat :=
  let g := s.dieGroup (locChan loc) (locDie loc)
  let l := pagesPerWl e.mode
  let w := locPage loc / l
  let j := (locPage loc % l) * 4 * s.fam.halves + locHalf loc * 4 + locFrame loc
  let before := ((e.places s.fam.planes).takeWhile (fun p => p ≠ (g.2, locPlane loc))).map
    (fun p => e.wlFrames s.fam.halves p.1 p.2 w)
  let k := ((List.range w).map (fun v => e.wlTotal s.fam v)).sum + before.sum + (j - b2n (decide (w = 0)))
  if s.extFrame e k = some loc then some k else none

end Sys2Proof.Machine
end

