-- ==== Sys2Proof/Machine/Walker.lean ====
section
/-! DEFINITION. The map walker: lookups, commits, trims and zone operations (R110 to R121, R262,
R263, R274, R275, R472, R473). -/

namespace Sys2Proof.Machine

/-! ## Namespaces -/

/-- Configuration of namespace `n`. -/
def State.nsAt (s : State) (n : Nat) : NsCfg := FMap.get nsReset s.ns n

def NsCfg.kind (c : NsCfg) : Nat := fld c.cfg 0 3
def NsCfg.lba16 (c : NsCfg) : Bool := bit c.cfg 3
def NsCfg.baseAddr (c : NsCfg) : Nat := fld c.base 6 33 * 64
def NsCfg.metaAddr (c : NsCfg) : Nat := fld c.metaBase 6 33 * 64
def NsCfg.grains (c : NsCfg) : Nat := fld c.cap 0 48
def NsCfg.metaGrains (c : NsCfg) : Nat := fld c.mcnt 0 48
def NsCfg.firstZone (c : NsCfg) : Nat := fld c.zone 0 19
def NsCfg.zones (c : NsCfg) : Nat := fld c.zone 20 20
def NsCfg.zshift (c : NsCfg) : Nat := fld c.zone 40 5
def NsCfg.zoned (c : NsCfg) : Bool := decide (c.kind = 3) || decide (c.kind = 4)

/-- Namespace of a map key. -/
def keyNs (k : W64) : Nat := fld k 48 16

/-- Whether a key is a metadata key (R110). -/
def keyMeta (k : W64) : Bool := bit k 47

/-- First grain address of a key (R110, R186). -/
def State.keyGrain (s : State) (k : W64) : Nat :=
  if !keyMeta k && (s.nsAt (keyNs k)).lba16 then fld k 0 48 * 4 else fld k 0 48

/-- Whether `n` grains from a key lie in the namespace: otherwise 0x61 (R116, R117). -/
def State.rangeOk (s : State) (k : W64) (n : Nat) : Bool :=
  let c := s.nsAt (keyNs k)
  let g := s.keyGrain k
  if keyMeta k then decide (g + n ≤ 2 ^ 47 + c.metaGrains)
  else decide (g + n ≤ c.grains) && (!c.zoned || decide (g + n ≤ c.zones * 2 ^ c.zshift))

/-! ## Zone entries in the ingot store -/

/-- Ingot offset of a zone's entry (R472). -/
def zoneOff (z : Nat) : Nat := 0x1000000 + 8 * z

/-- The zone entry of a device-wide zone. -/
def State.zoneWord (s : State) (z : Nat) : W64 := rdW s.ingot (zoneOff z)

/-- The state with a zone entry written. -/
def State.setZone (s : State) (z : Nat) (v : W64) : State :=
  s.putIngot (wrNum s.ingot (zoneOff z) 8 v.toNat)

/-- Zone state code. -/
def State.zstate (s : State) (z : Nat) : Nat := fld (s.zoneWord z) 0 4

/-- Durable write pointer, a grain offset in the zone. -/
def State.zwp (s : State) (z : Nat) : Nat := fld (s.zoneWord z) 8 20

/-- Reservation pointer (R261). -/
def State.zrsv (s : State) (z : Nat) : Nat :=
  match FMap.get (fun _ => (none : Option Nat)) s.rsv z with
  | some r => r
  | none => s.zwp z

/-- The state with a reservation pointer; one that equals the write pointer is not listed. -/
def State.setRsv (s : State) (z r : Nat) : State :=
  s.putRsv (FMap.set (fun _ => none) s.rsv z (if r = s.zwp z then none else some r))

/-- Capacity in grains of the zones of a namespace (R256, R257). -/
def State.zcap (s : State) (n : Nat) : Nat :=
  if (s.nsAt n).kind = 4 then FMap.get (fun _ => 0) s.volCap n else extentCap s.fam

/-- NVMe zone state codes. -/
def zEmpty : Nat := 1
def zImpOpen : Nat := 2
def zExpOpen : Nat := 3
def zClosed : Nat := 4
def zFull : Nat := 14

/-- Set a zone's state; a zone that becomes Full takes its place in the order of R275. -/
def State.setZstate (s : State) (z st : Nat) : State :=
  let was := s.zstate z
  let s := s.setZone z (setFld (s.zoneWord z) 0 4 st)
  if st = zFull ∧ was ≠ zFull then s.putFullZones (s.fullZones ++ [z])
  else if st ≠ zFull then s.putFullZones (s.fullZones.filter (· ≠ z))
  else s

/-- Move the durable write pointer; reservation pointers behind it follow. -/
def State.setZwp (s : State) (z wp : Nat) : State :=
  let r := s.zrsv z
  (s.setZone z (setFld (s.zoneWord z) 8 20 wp)).setRsv z (max r wp)

/-! ## Exception runs -/

/-- One exception run: first grain offset, count, location word (R120). -/
structure ExcRun where
  off : Nat
  count : Nat
  word : W64
  deriving DecidableEq, Repr

/-- Read the runs of a zone's list. -/
def State.readRuns (s : State) (a n : Nat) : List ExcRun :=
  (List.range n).map (fun i =>
    let w := rdW s.dram (a + 16 * i)
    { off := fld w 0 20, count := fld w 20 16 + 1, word := rdW s.dram (a + 16 * i + 8) })

/-- Write the runs of a zone's list, and their number into its entry. -/
def State.writeRuns (s : State) (entry a : Nat) (rs : List ExcRun) : State :=
  let d := wrWords s.dram a (rs.flatMap (fun r =>
    [w64 (r.off % 2 ^ 20 + (r.count - 1) % 65536 * 2 ^ 20), r.word]))
  s.putDram (wrNum d (entry + 12) 4 rs.length)

/-- The runs with grains `off` to `off + n - 1` cut out. -/
def cutRuns (off n : Nat) (rs : List ExcRun) : List ExcRun :=
  rs.flatMap (fun r =>
    (if r.off < off then [{ r with count := min r.count (off - r.off) }] else []) ++
    (if off + n < r.off + r.count then
      [{ r with off := max r.off (off + n), count := r.off + r.count - max r.off (off + n) }] else []))
  |>.filter (fun r => 0 < r.count)

/-- Insert a run in ascending order of offset. -/
def insRun (x : ExcRun) : List ExcRun → List ExcRun
  | [] => [x]
  | r :: rs => if x.off < r.off then x :: r :: rs else r :: insRun x rs

/-- Put a run in place of whatever the list holds for its grains. -/
def putRun (x : ExcRun) (rs : List ExcRun) : List ExcRun := insRun x (cutRuns x.off x.count rs)

/-! ## Lookup -/

/-- A lookup of one grain: the location word, or an outcome code (R111, R117 to R121). -/
def State.lookup (s : State) (n : Nat) (isMeta : Bool) (g : Nat) : Except Byte W64 :=
  let c := s.nsAt n
  let word (a : Nat) : Except Byte W64 :=
    if s.poisoned (.dram a) 8 then .error 0x62 else .ok (rdW s.dram a)
  if isMeta then word (c.metaAddr + 8 * (g - 2 ^ 47))
  else match c.kind with
  | 1 => word (c.baseAddr + 8 * g)
  | 2 => (word (c.baseAddr + 8 * (g / 4))).map (fun w =>
      if w = 0 ∨ w = marker then w else setFld w 41 2 (g % 4))
  | 0 => .error 0x60
  | k =>
    let z := g / 2 ^ c.zshift
    let o := g % 2 ^ c.zshift
    let a := c.baseAddr + 256 * z
    if s.poisoned (.dram a) 256 then .error 0x62 else
    let e := s.readEntry a
    if !e.valid then .error 0x64
    else if s.zwp (c.firstZone + z) ≤ o then .ok 0
    else if s.poisoned (.dram e.listAddr) (16 * e.runs) then .error 0x62
    else match (s.readRuns e.listAddr e.runs).find? (fun r => decide (r.off ≤ o) && decide (o < r.off + r.count)) with
      | some r => .ok r.word
      | none => if k = 4 then .ok volumeWord else .ok ((s.extFrame e o).getD 0)

/-- Lookups of `n` consecutive grains; the first failing grain's outcome. -/
def State.lookupN (s : State) (ns : Nat) (isMeta : Bool) : Nat → Nat → Except Byte (List W64)
  | _, 0 => .ok []
  | g, n + 1 =>
    match s.lookup ns isMeta g with
    | .error e => .error e
    | .ok w =>
      match State.lookupN s ns isMeta (g + 1) n with
      | .error e => .error e
      | .ok ws => .ok (w :: ws)

/-! ## The map delta log -/

/-- Region of the map delta log in the ingot store, and its size (R470). -/
def logBase : Nat := 0x2000000
def logSize : Nat := 0x6000000

/-- INGOT_LHEAD and INGOT_LTAIL. -/
def State.lhead (s : State) : Nat := s.rfld (sta 9 0x10) 0 27
def State.ltail (s : State) : Nat := s.rfld (sta 9 0x18) 0 27

/-- Next record sequence number: the controller's word at +16, 1 at first use (R473). -/
def State.recSeq (s : State) : Nat :=
  let n := rdNum s.ingot (logBase + 16) 8
  if n = 0 then 1 else n

/-- A record of the log (R473). -/
structure LogRec where
  key : W64
  count : Nat
  kind : Nat
  loc : W64
  first : Nat
  zoneArg : W64
  words : List W64
  deriving DecidableEq, Repr

/-- Length of a record: its header and its location words, padded to 64 B. -/
def LogRec.len (r : LogRec) : Nat := 64 + (r.words.length * 8 + 63) / 64 * 64

/-- The header's bytes 0 to 51. -/
def LogRec.head (r : LogRec) (seq : Nat) : List Byte :=
  toBytes 8 seq ++ toBytes 8 r.key.toNat ++ toBytes 4 r.count ++ toBytes 1 r.kind ++ toBytes 3 0 ++
  toBytes 8 r.loc.toNat ++ toBytes 8 r.first ++ toBytes 8 r.zoneArg.toNat ++ toBytes 4 r.words.length

/-- A record's bytes: header, CRC-32 and valid mark, then its words. -/
def LogRec.bytes (r : LogRec) (seq : Nat) : List Byte :=
  let ws := r.words.flatMap (fun w => toBytes 8 w.toNat)
  r.head seq ++ toBytes 4 (crc32 0 (r.head seq ++ ws)) ++ toBytes 4 0 ++ toBytes 4 0x4C4D5849 ++ ws ++
    List.replicate (r.len - 64 - ws.length) 0

/-- Where a record of length `len` starts and the head after it, or none when it would reach
LTAIL (R473). -/
def logPlace (lhead ltail len : Nat) : Option (Nat × Nat) :=
  let next (e : Nat) : Nat := if e = logSize then 64 else e
  if lhead < ltail then (if lhead + len < ltail then some (lhead, lhead + len) else none)
  else if lhead + len ≤ logSize then
    (if next (lhead + len) = 64 ∧ ltail = 64 then none else some (lhead, next (lhead + len)))
  else if 64 + len < ltail then some (64, 64 + len)
  else none

/-- Append a record: a skip header where it would pass the end, the record, then the controller's
words; its sequence number and the state, or none when the log is full (R473). -/
def State.logAppend (s : State) (r : LogRec) : Option (Nat × State) :=
  match logPlace s.lhead s.ltail r.len with
  | none => none
  | some (a, h) =>
    let seq := s.recSeq
    let skip : LogRec := { key := 0, count := 0, kind := 0, loc := 0, first := 0, zoneArg := 0, words := [] }
    let m := if a = s.lhead then s.ingot else wrBytes s.ingot (logBase + s.lhead) (skip.bytes 0)
    let m := wrBytes m (logBase + a) (r.bytes seq)
    let m := wrNum (wrNum (wrNum m logBase 8 h) (logBase + 8) 8 s.ltail) (logBase + 16) 8 (seq + 1)
    some (seq, (s.putIngot m : State).setRfld (sta 9 0x10) 0 27 h)

/-! ## Operands -/

/-- Key and count of a map request. -/
def Req.mapKey (r : Req) : W64 := r.op 0
def Req.mapCount (r : Req) : Nat := (r.op 1).toNat

/-- Where a list of location words lies: in a tundish buffer or in DRAM (R111). -/
def State.listLoc (s : State) (a : W64) (n : Nat) : Option Loc := if fld a 60 4 ≤ 1 then s.moverLoc a n else none

/-- The location words of an mcommit, or none where its operands are out of range (R112, R119); the words of a zone without
a valid entry, which the walker refuses with 0x64 (R118), stand as given. -/
def State.commitWords (s : State) (r : Req) : Option (List W64) :=
  let k := r.mapKey
  let n := r.mapCount
  let c := s.nsAt (keyNs k)
  let w := r.op 2
  if bit r.imm 0 then
    (s.listLoc w (8 * n)).map (fun l => words64 n (s.readLoc l (8 * n)))
  else if w = 0 ∨ w = marker ∨ (c.kind = 4 ∧ !keyMeta k) then some (List.replicate n w)
  else if c.kind = 3 ∧ !keyMeta k then
    let e := s.readEntry (c.baseAddr + 256 * (s.keyGrain k / 2 ^ c.zshift))
    if !e.valid then some (List.replicate n w) else
    match s.extOffset e w with
    | some o =>
      let ws := (List.range n).map (fun i => s.extFrame e (o + i))
      if ws.all (·.isSome) then some (ws.map (·.getD 0)) else none
    | none => if n = 1 then some [w] else none
  else
    let j := locHalf w * 4 + locFrame w
    let room := if s.fam.halves = 2 then 8 else if locHalf w = 1 then 8 else 4
    if j + n ≤ room then
      some ((List.range n).map (fun i => setFld (setFld w 41 2 ((j + i) % 4)) 43 1 ((j + i) / 4)))
    else none

/-- Whether a list of four location words is a whole unit of KIND 2 (R117). -/
def unitOk (ws : List W64) : Bool :=
  match ws with
  | [a, b, c, d] =>
    (decide (a = 0) && decide (b = 0) && decide (c = 0) && decide (d = 0)) ||
    (decide (a = marker) && decide (b = marker) && decide (c = marker) && decide (d = marker)) ||
    (decide (locFrame a = 0) && decide (a ≠ 0) && decide (b = setFld a 41 2 1) && decide (c = setFld a 41 2 2) &&
      decide (d = setFld a 41 2 3))
  | _ => false

/-- Whether a list of words is whole units, over `n` units. -/
def unitsOk : Nat → List W64 → Bool
  | 0, ws => ws.isEmpty
  | n + 1, ws => unitOk (ws.take 4) && unitsOk n (ws.drop 4)

/-- Whether a word may be committed on a volume (R121). -/
def volumeOk (w : W64) : Bool :=
  decide (w = 0) || decide (w = marker) ||
  (decide (w = w64 (locMember w * 2 ^ 44)) && decide (2 ≤ locMember w) && decide (locMember w ≤ 0x41))

/-- Whether an operand of a map request is out of range (R86, R111 to R114, R117). -/
def State.mapBad (s : State) (r : Req) : Bool :=
  let k := r.mapKey
  let n := r.mapCount
  let c := s.nsAt (keyNs k)
  let dataK2 := decide (c.kind = 2) && !keyMeta k
  let unitBad := dataK2 && (decide (s.keyGrain k % 4 ≠ 0) || decide (n % 4 ≠ 0))
  match r.prim with
  | .mlook =>
    decide (r.imm ≠ 0) || decide (n = 0) || decide (65536 < n) ||
    (decide (8 < n) && (s.listLoc (r.op 2) (8 * n)).isNone)
  | .mcommit =>
    decide (n = 0) || decide ((if c.zoned then 65536 else 256) < n) || unitBad ||
    (bit r.imm 1 && (s.listLoc (r.op 5) (8 * n)).isNone) ||
    (match s.commitWords r with
      | none => true
      | some ws => (dataK2 && !unitsOk (n / 4) ws) ||
          (decide (c.kind = 4) && !keyMeta k && !ws.all volumeOk))
  | .mtrim => decide (n = 0) || decide (65536 < n) || unitBad
  | _ => -- a metadata key, a key inside a zone and a count of 0 are the model's (DESIGN CHOICE, log entry 128)
    decide (5 < fld r.imm 0 4) || keyMeta k ||
    decide (s.keyGrain k % 2 ^ c.zshift ≠ 0) ||
    (decide (fld r.imm 0 4 < 2) && decide (n = 0)) ||
    (decide (fld r.imm 0 4 = 1) && decide (256 < n))

/-- The outcome with which the walker turns a request away, if any: an unconfigured namespace before an operand out of
range (R86, R116). -/
def State.mapRefuse (s : State) (r : Req) : Option Byte :=
  if (s.nsAt (keyNs r.mapKey)).kind = 0 then some 0x60 else if s.mapBad r then some ocRange else none

/-- First grain address and grains of a request, with its namespace's registers as received (R110, R116). -/
def Req.mapFirst (r : Req) : Nat := if !keyMeta r.mapKey && r.cfg.lba16 then fld r.mapKey 0 48 * 4 else fld r.mapKey 0 48
def Req.mapGrains (r : Req) : Nat := if r.prim = .mzone then 2 ^ r.cfg.zshift else r.mapCount

/-- Whether two walker requests touch a common range (R115). -/
def mapOverlap (r q : Req) : Bool :=
  decide (keyNs r.mapKey = keyNs q.mapKey) && decide (r.mapFirst < q.mapFirst + q.mapGrains) &&
  decide (q.mapFirst < r.mapFirst + r.mapGrains)

/-- Whether a request that overlaps `r` and that the walker received earlier has not completed (R115): requests stand in the
order in which they came, those taken keeping it among themselves. -/
def State.mapBlocked (s : State) (r : Req) : Bool :=
  let mine (q : Req) : Bool := decide (q.unit = 0x42) && mapOverlap r q
  (s.reqs.takeWhile (fun q => !(decide (q.core = r.core) && decide (q.ticket = r.ticket)))).any
    (fun q => mine q && (decide (q.phase = .started) || decide (r.phase = .waiting))) ||
  (decide (r.phase = .waiting) && s.reqs.any (fun q => mine q && decide (q.phase = .started)))

/-- The state as the walker serves a request in: the registers of its namespace as received (R116). -/
def State.received (s : State) (r : Req) : State := s.putNs (FMap.set nsReset s.ns (keyNs r.mapKey) r.cfg)

/-- A started map request is served, unless an overlapping one received earlier still runs (R115, R116). -/
def State.mapServe (s : State) (r : Req) (f : State → State) : State :=
  if s.mapBlocked r then s else (f (s.received r)).putNs s.ns

/-! ## Completions -/

/-- Write a list of words at a mover address. -/
def State.writeList (s : State) (a : W64) (ws : List W64) : State :=
  match s.listLoc a (8 * ws.length) with
  | some l => s.writeLoc l (ws.flatMap (fun w => toBytes 8 w.toNat))
  | none => s

/-- MAP_LOOKUP_DONE (R111). -/
def State.mlookDone (s : State) (r : Req) : State :=
  let k := r.mapKey
  if (s.nsAt (keyNs k)).kind = 0 then s.fail r 0x60
  else if !s.rangeOk k r.mapCount then s.fail r 0x61
  else match s.lookupN (keyNs k) (keyMeta k) (s.keyGrain k) r.mapCount with
    | .error e => s.fail r e
    | .ok ws =>
      let oc : Byte := if ws.all (· = 0) then 0x02 else ocDone
      if r.mapCount ≤ 8 then s.complete r oc ws
      else (s.writeList (r.op 2) ws).complete r oc [w64 r.mapCount]

/-- Write one grain's location word in a placement or metadata table (R117). -/
def State.tableWrite (s : State) (n : Nat) (isMeta : Bool) (g : Nat) (w : W64) : State :=
  let c := s.nsAt n
  if isMeta then s.writeLoc (.dram (c.metaAddr + 8 * (g - 2 ^ 47))) (toBytes 8 w.toNat)
  else if c.kind = 1 then s.writeLoc (.dram (c.baseAddr + 8 * g)) (toBytes 8 w.toNat)
  else if g % 4 = 0 then s.writeLoc (.dram (c.baseAddr + 8 * (g / 4))) (toBytes 8 w.toNat)
  else s

/-- Write consecutive grains' words in a table. -/
def State.tableWriteN (s : State) (n : Nat) (isMeta : Bool) : Nat → List W64 → State
  | _, [] => s
  | g, w :: ws => State.tableWriteN (s.tableWrite n isMeta g w) n isMeta (g + 1) ws

/-- The runs that the words of a record from offset `o` on become (R120): a word that `skip` takes costs nothing; with
`move`, every other grain is a run of its own; otherwise each stretch of 0 or of the marker is one run. -/
def newRuns (move : Bool) (skip : Nat → W64 → Bool) : Nat → List W64 → List ExcRun
  | _, [] => []
  | o, w :: ws =>
    let rest := newRuns move skip (o + 1) ws
    let one : ExcRun := { off := o, count := 1, word := w }
    if skip o w then rest
    else if !move && (decide (w = 0) || decide (w = marker)) then
      match rest with
      | r :: rs => if r.off = o + 1 ∧ r.word = w ∧ r.count < 65536 then { r with off := o, count := r.count + 1 } :: rs else one :: rest
      | [] => [one]
    else one :: rest

/-- The runs that a zone's list holds after a record at offset `o`: its own, in place of what the list held for its
grains. -/
def commitRuns (move : Bool) (skip : Nat → W64 → Bool) (o : Nat) (ws : List W64) (rs : List ExcRun) : List ExcRun :=
  (newRuns move skip o ws).foldl (fun rs r => insRun r rs) (cutRuns o ws.length rs)

/-- Whether a committed word of a volume names a member, for which nothing is stored (R121). -/
def memberWord (w : W64) : Bool := decide (w ≠ 0) && decide (w ≠ marker)

/-- Words that name a mapped grain. -/
def mappedCount (ws : List W64) : Nat := (ws.filter (· ≠ 0)).length

/-- What a map operation answers: an outcome that changes nothing, or the state, the outcome and the result
words. -/
abbrev MapRes := Except Byte (State × Byte × List W64)

/-- The tail of an mcommit: previous words, record and result. -/
def State.commitFinish (s : State) (r : Req) (prev : List W64) (seq : Nat) : MapRes :=
  .ok (if bit r.imm 1 then s.writeList (r.op 5) prev else s, ocDone, [w64 seq, w64 (mappedCount prev)])

/-- A data record of a namespace has followed the metadata record with the same first number (R285). -/
def State.metaFollowed (s : State) (n first : Nat) : State :=
  s.putMetaOpen (s.metaOpen.filter (fun m => decide (m.ns ≠ n) || decide (m.first ≠ first)))

/-- An mcommit of given words (R112, R117, R120, R121, R263). -/
def State.commitThe (s : State) (r : Req) (ws : List W64) : MapRes :=
  let k := r.mapKey
  let n := keyNs k
  let c := s.nsAt n
  let g := s.keyGrain k
  let lr : LogRec := { key := k, count := r.mapCount, kind := if bit r.imm 0 then 2 else 1,
                       loc := if bit r.imm 0 then 0 else r.op 2, first := fld (r.op 3) 0 56, zoneArg := 0,
                       words := if bit r.imm 0 then ws else [] }
  if c.kind = 0 then .error 0x60
  else if !s.rangeOk k r.mapCount then .error 0x61
  else if c.zoned ∧ !keyMeta k then
    let zi := g / 2 ^ c.zshift
    let z := c.firstZone + zi
    let o := g % 2 ^ c.zshift
    let a := c.baseAddr + 256 * zi
    let e := s.readEntry a
    let move := bit r.imm 2
    if s.poisoned (.dram a) 256 || s.poisoned (.dram e.listAddr) (16 * e.runs) then .error 0x62
    else if !e.valid then .error 0x64
    else if !move ∧ s.zwp z ≠ o then .error 0x63
    else if move ∧ s.zwp z < o + r.mapCount then .error 0x63
    else if s.zcap n < o + r.mapCount then .error 0x64
    else
      let rs := commitRuns move (fun i w => if c.kind = 4 then memberWord w else !move && decide (s.extFrame e i = some w)) o ws
        (s.readRuns e.listAddr e.runs)
      if min e.listCap 64 < rs.length then .error 0x66
      else match s.lookupN n false g r.mapCount with
        | .error oc => .error oc
        | .ok prev =>
          match s.logAppend lr with
          | none => .error 0x65
          | some (seq, s) =>
            let s := (s.writeRuns a e.listAddr rs).metaFollowed n (fld (r.op 3) 0 56)
            let s := if move then s else
              let s := s.setZwp z (o + r.mapCount)
              if o + r.mapCount = s.zcap n then s.setZstate z zFull else s
            s.commitFinish r prev seq
  else
    match s.lookupN n (keyMeta k) g r.mapCount with
    | .error oc => .error oc
    | .ok prev =>
      match s.logAppend lr with
      | none => .error 0x65
      | some (seq, s) =>
        let s := if keyMeta k && !bit r.imm 2 then s.putMetaOpen (s.metaOpen ++ [{ ns := n, grain := g, old := prev, first := fld (r.op 3) 0 56 }])
          else s.metaFollowed n (fld (r.op 3) 0 56)
        (s.tableWriteN n (keyMeta k) g ws).commitFinish r prev seq

/-- An mcommit: its words, as its operands give them. -/
def State.mcommitOp (s : State) (r : Req) : MapRes :=
  match s.commitWords r with
  | none => .error ocRange
  | some ws => s.commitThe r ws

/-- The part of a trimmed range that lies in one zone, below its write pointer: offset and grains (R113, R120). -/
def State.trimPart (s : State) (c : NsCfg) (g n zi : Nat) : Nat × Nat :=
  let lo := max g (zi * 2 ^ c.zshift) - zi * 2 ^ c.zshift
  let hi := min (min (g + n) ((zi + 1) * 2 ^ c.zshift) - zi * 2 ^ c.zshift) (s.zwp (c.firstZone + zi))
  (lo, hi - lo)

/-- A trimmed range enters each zone's list as a run of 0; none where a list or its entry cannot take it. -/
def State.trimZones (s : State) (c : NsCfg) (g n : Nat) : List Nat → Option State
  | [] => some s
  | zi :: zs =>
    let a := c.baseAddr + 256 * zi
    let e := s.readEntry a
    let (o, k) := s.trimPart c g n zi
    if k = 0 ∨ !e.valid then State.trimZones s c g n zs
    else if s.poisoned (.dram a) 256 || s.poisoned (.dram e.listAddr) (16 * e.runs) then none
    else
      let rs := putRun { off := o, count := k, word := 0 } (s.readRuns e.listAddr e.runs)
      if min e.listCap 64 < rs.length then none else State.trimZones (s.writeRuns a e.listAddr rs) c g n zs

/-- Grains of a range that were mapped; with a poisoned word among them the number is a free value (R113, DESIGN CHOICE, log
entry 128). -/
def State.mappedIn (s : State) (n : Nat) (isMeta : Bool) (g k : Nat) : W64 × State :=
  let ls := (List.range k).map (fun i => s.lookup n isMeta (g + i))
  if ls.any (fun x => match x with
      | .error oc => decide (oc = 0x62)
      | .ok _ => false) then s.takeFree
  else (w64 (mappedCount (ls.map (fun x => match x with
      | .ok w => w
      | .error _ => 0))), s)

/-- An mtrim (R113).  R90 gives it neither 0x62 nor 0x66: where a zone's list has no room, or its entry or list is poisoned,
the outcome is 0xF0 and nothing changes (DESIGN CHOICE, log entry 128). -/
def State.mtrimOp (s : State) (r : Req) : MapRes :=
  let k := r.mapKey
  let n := keyNs k
  let c := s.nsAt n
  let g := s.keyGrain k
  let lr : LogRec := { key := k, count := r.mapCount, kind := 3, loc := 0, first := 0, zoneArg := 0, words := [] }
  if c.kind = 0 then .error 0x60
  else if !s.rangeOk k r.mapCount then .error 0x61
  else
    let (was, s) := s.mappedIn n (keyMeta k) g r.mapCount
    match s.logAppend lr with
    | none => .error 0x65
    | some (seq, s) =>
      if c.zoned ∧ !keyMeta k then
        let zs := (List.range ((g + r.mapCount - 1) / 2 ^ c.zshift + 1)).drop (g / 2 ^ c.zshift)
        match s.trimZones c g r.mapCount zs with
        | none => .error 0xF0
        | some s => .ok (s, ocDone, [w64 seq, was])
      else .ok (s.tableWriteN n (keyMeta k) g (List.replicate r.mapCount 0), ocDone, [w64 seq, was])

/-! ## Zone operations -/

/-- Ingot offset of entry `i` of a token slot (R274). -/
def tokOff (slot i : Nat) : Nat := 0x1400000 + slot * 3072 + (i % 256) * 12

/-- The remembered entry of a token in a slot: its first grain offset (R274, R275). -/
def State.tokFind (s : State) (slot : Nat) (tok : W64) : Option Nat :=
  let n := FMap.get (fun _ => 0) s.tokCount slot
  ((List.range (min n 256)).find? (fun i => rdW s.ingot (tokOff slot i) = tok)).map
    (fun i => rdNum s.ingot (tokOff slot i + 8) 3)

/-- Zones of every namespace that hold a token slot would be scanned for a free one: the lowest
slot that no zone entry among `n` zones names. -/
def State.slotFree (s : State) (used : List Nat) : Nat → Nat → Option Nat
  | 0, _ => none
  | n + 1, i => if i ∈ used then State.slotFree s used n (i + 1) else some i

/-- Token slots assigned, by the zone entries listed in the ingot store. -/
def State.slotsUsed (s : State) : List Nat :=
  (s.ingot.filterMap (fun p =>
    if 0x1000000 ≤ p.1 ∧ p.1 < 0x1400000 then
      let v := fld (s.zoneWord ((p.1 - 0x1000000) / 8)) 28 13
      if v = 0 then none else some (v - 1)
    else none)).dedup

/-- The slot of a zone, assigned when it has none: a free slot, else that of the zone that became
Full earliest (R275). -/
def State.tokSlot (s : State) (z : Nat) : Nat × State :=
  let v := fld (s.zoneWord z) 28 13
  if v ≠ 0 then (v - 1, s) else
  match s.slotFree s.slotsUsed 4096 0 with
  | some i => (i, ((s.setZone z (setFld (s.zoneWord z) 28 13 (i + 1))).putTokCount (FMap.erase s.tokCount i)))
  | none =>
    match s.fullZones.find? (fun y => fld (s.zoneWord y) 28 13 ≠ 0) with
    | some y =>
      let i := fld (s.zoneWord y) 28 13 - 1
      let s := s.setZone y (setFld (s.zoneWord y) 28 13 0)
      (i, ((s.setZone z (setFld (s.zoneWord z) 28 13 (i + 1))).putTokCount (FMap.erase s.tokCount i)))
    | none => (0, s)

/-- Whether a zone has been reserved since it was Empty: its entry has a time, or a pointer has left the zone's start (R472). -/
def State.everReserved (s : State) (z : Nat) : Bool :=
  decide (fld (s.zoneWord z) 41 23 ≠ 0) || decide (s.zwp z ≠ 0) || decide (s.zrsv z ≠ 0)

/-- Reserve `n` grains at the reservation pointer; the operating time of the first reservation
after Empty enters the zone entry (R472). -/
def State.reserve (s : State) (z n : Nat) : State :=
  let r := s.zrsv z
  let s := if !s.everReserved z then s.setZone z (setFld (s.zoneWord z) 41 23 (s.alm.optime / 256)) else s
  s.setRsv z (r + n)

/-- An mzone operation (R114, R262, R264).  A namespace that is not zoned answers 0x60 (DESIGN CHOICE, log entry 128). -/
def State.mzoneOp (s : State) (r : Req) : MapRes :=
  let k := r.mapKey
  let n := keyNs k
  let c := s.nsAt n
  let zi := s.keyGrain k / 2 ^ c.zshift
  let z := c.firstZone + zi
  let count := r.mapCount
  let arg := r.op 2
  let lba (o : Nat) : W64 := w64 (if c.lba16 then (zi * 2 ^ c.zshift + o) / 4 else zi * 2 ^ c.zshift + o)
  let opened := s.zstate z = zImpOpen ∨ s.zstate z = zExpOpen
  let lr (kind : Nat) : LogRec := { key := k, count := count, kind := kind, loc := 0, first := 0, zoneArg := arg, words := [] }
  if !c.zoned then .error 0x60
  else if !s.rangeOk k 1 then .error 0x61
  else match fld r.imm 0 4 with
  | 0 =>
    let o := s.zrsv z
    if ¬opened then .error 0x64
    else if arg ≠ w64 (2 ^ 64 - 1) ∧ arg ≠ lba o then .error 0x63
    else if s.zcap n < o + count then .error 0x64
    else .ok (s.reserve z count, ocDone, [lba o])
  | 1 =>
    let o := s.zrsv z
    let v := fld (s.zoneWord z) 28 13
    match (if v = 0 then none else s.tokFind (v - 1) arg) with
    | some o' => .ok (s, 0x06, [lba o'])
    | none =>
      if ¬opened ∨ s.zcap n < o + count then .error 0x64
      else
        let (slot, s) := s.tokSlot z
        let i := FMap.get (fun _ => 0) s.tokCount slot
        let m := wrNum (wrNum s.ingot (tokOff slot i) 8 arg.toNat) (tokOff slot i + 8) 4 (o % 2 ^ 24 + (count - 1) % 256 * 2 ^ 24)
        let s := ((s.putIngot m).putTokCount (FMap.set (fun _ => 0) s.tokCount slot (i + 1)) : State)
        .ok (s.reserve z count, ocDone, [lba o])
  | 2 =>
    match s.logAppend (lr 6) with
    | none => .error 0x65
    | some (_, s) =>
      let prev := s.zstate z
      .ok (s.setZstate z (fld arg 0 4), ocDone, [w64 prev])
  | 3 =>
    if s.zrsv z ≠ s.zwp z then .error 0x64
    else match s.logAppend (lr 4) with
      | none => .error 0x65
      | some (_, s) =>
        let a := c.baseAddr + 256 * zi
        let s := s.setZstate z zEmpty
        let s := s.setZone z (w64 zEmpty)
        let s := s.setRsv z 0
        let d := wrNum (wrNum s.dram (a + 12) 4 0) (a + 11) 1 0
        .ok ((s.putDram d : State), ocDone, [])
  | 4 =>
    if s.zrsv z ≠ s.zwp z then .error 0x64
    else match s.logAppend (lr 5) with
      | none => .error 0x65
      | some (_, s) =>
        let s := s.setZwp z (min (2 ^ c.zshift) (2 ^ 20 - 1))
        .ok (s.setZstate z zFull, ocDone, [])
  | _ => .ok (s, ocDone, [w64 (s.zstate z), w64 (s.zwp z), w64 (s.zrsv z), w64 (s.zcap n)])

/-- A map request completes with what its operation answers. -/
def State.mapAnswer (s : State) (r : Req) (x : MapRes) : State :=
  match x with
  | .error oc => s.fail r oc
  | .ok (s, oc, ws) => s.complete r oc ws

def execMapLookupDone (c : CoreId) (t : Ticket) (s : State) : Res :=
  onReq s c t (· = .mlook) (fun r => s.mapServe r (fun s => s.mlookDone r))
def execMapCommitDone (c : CoreId) (t : Ticket) (s : State) : Res :=
  onReq s c t (· = .mcommit) (fun r => s.mapServe r (fun s => s.mapAnswer r (s.mcommitOp r)))
def execMapTrimDone (c : CoreId) (t : Ticket) (s : State) : Res :=
  onReq s c t (· = .mtrim) (fun r => s.mapServe r (fun s => s.mapAnswer r (s.mtrimOp r)))
def execZoneUpdateDone (c : CoreId) (t : Ticket) (s : State) : Res :=
  onReq s c t (· = .mzone) (fun r => s.mapServe r (fun s => s.mapAnswer r (s.mzoneOp r)))

end Sys2Proof.Machine
end

