-- ==== Sys2Proof/Machine/Mover.lean ====
section
/-! DEFINITION. The data mover: host transfers, copies, framed copies and fills (R130 to R132,
R151, R195). -/

namespace Sys2Proof.Machine

/-! ## Checks when a request is taken -/

/-- Whether a mover, cipher or parity request names the loader's DRAM area without having been
issued by core 0 in slot 62 or 63 (R151). -/
def Req.loaderBad (r : Req) : Bool :=
  !r.loader && ((r.prim.addrOps r.ops r.imm).any inLoaderArea ||
    (decide (r.prim = .dmfill) && inLoaderArea (r.op 0)))

/-- Length of a host transfer. -/
def Req.xferLen (r : Req) : Nat := fld (r.op 2) 32 32

/-- The outcome that a host transfer's command gives it, when it may not run: none for a live
command of a function and slice that are not in reset (R94, R131, DEDUCED, log entry 15). -/
def State.xferStop (s : State) (r : Req) : Option Byte :=
  match s.cmdOf (r.op 0) with
  | none => some ocRange
  | some d => if s.inReset d then some 0x05 else if d.settle = .live then none else some 0x03

/-- Where the frames of a framed copy or of an enciphered write go: successive slots of a frame buffer, or a stride of
4,128 B in another space (R133, R195): a byte offset within a slot is ignored (DESIGN CHOICE, log entry 148). -/
def State.framePlaces (s : State) (dst : W64) (n : Nat) : Option (List Loc) :=
  if fld dst 60 4 = 2 then
    let ch := fld dst 0 5
    let sl := fld dst 5 5
    if sl + n ≤ 28 then some ((List.range n).map (fun k => Loc.fbuf (ch * 0x20000 + (sl + k) * 4608))) else none
  else
    match s.moverLoc dst (4128 * n) with
    | some (.tun a) => some ((List.range n).map (fun k => Loc.tun (a + 4128 * k)))
    | some (.dram a) => some ((List.range n).map (fun k => Loc.dram (a + 4128 * k)))
    | some (.cluster a) => some ((List.range n).map (fun k => Loc.cluster (a + 4128 * k)))
    | some (.ingot a) => some ((List.range n).map (fun k => Loc.ingot (a + 4128 * k)))
    | _ => none

/-- Length of a copy (R132). -/
def Req.copyLen (r : Req) : Nat := fld (r.op 2) 0 19

/-- The outcome with which the data mover turns a request away when it takes it, if any (R86, R131,
R132, R195). -/
def State.moverRefuse (s : State) (r : Req) : Option Byte :=
  if r.loaderBad then some ocRange else
  match r.prim with
  | .dmin | .dmout =>
    let n := r.xferLen
    if n = 0 ∨ 262144 < n ∨ (s.moverLoc (r.op 1) n).isNone then some ocRange else s.xferStop r
  | .dmcopy =>
    let n := r.copyLen
    if bit r.imm 0 then
      let g := n / 4096
      if n % 4096 ≠ 0 ∨ g = 0 ∨ 64 < g ∨ (s.moverLoc (r.op 0) n).isNone ∨
        (s.moverLoc (r.op 3) (32 * g)).isNone ∨ (s.framePlaces (r.op 1) g).isNone then some ocRange else none
    else if n < 8 ∨ 262144 < n ∨ n % 8 ≠ 0 ∨ (s.moverLoc (r.op 0) n).isNone ∨ (s.moverLoc (r.op 1) n).isNone then
      some ocRange
    else none
  | _ =>
    let n := (r.op 1).toNat
    if fld (r.op 0) 60 4 ≠ 1 ∨ n % 64 ≠ 0 ∨ (s.moverLoc (r.op 0) n).isNone then some ocRange else none

/-! ## Completions -/

/-- Bytes arriving from the host at a mover address. -/
def State.land (s : State) (addr : W64) (data : List Byte) : State :=
  match s.moverLoc addr data.length with
  | some l => s.writeLoc l data
  | none => s

/-- The outcome of a transfer in progress, when its command has settled or its function or slice
has entered reset meanwhile (R131). -/
def State.xferCut (s : State) (r : Req) : Option Byte :=
  match s.cmdOf (r.op 0) with
  | none => some 0x03
  | some d => if s.inReset d then some 0x05 else if d.settle = .live then none else some 0x03

/-- DATA_MOVER_IN_DONE: the bytes that arrived stand in device memory; all of them when the
transfer neither failed nor was stopped (R131). -/
def execDataMoverInDone (c : CoreId) (t : Ticket) (ok : Bool) (data : List Byte) (s : State) : Res :=
  onReq s c t (· = .dmin) (fun r =>
    if r.xferLen < data.length then s else
    match s.xferCut r with
    | some oc => (s.land (r.op 1) data).fail r oc
    | none =>
      if !ok then (s.land (r.op 1) data).fail r 0xF2
      else if data.length ≠ r.xferLen then s
      else
        match s.cmdOf (r.op 0) with
        | some d => ((s.land (r.op 1) data).setCmd { d with dminEvent := some (r.event ocDone) }).fail r ocDone
        | none => s)

/-- The bytes of a host transfer leave the device (R131). -/
def State.sendHost (s : State) (r : Req) (data : List Byte) : State :=
  s.putOut (s.out ++ [Out.hostData (r.op 0) (fld (r.op 2) 0 32) data])

/-- DATA_MOVER_OUT_DONE: with IMM[0] = 1 a transfer that succeeds chains a completion claim; with
poisoned data it carries the poison, makes no claim and reports 0xF1 (R131, R445, DEDUCED, log entry 16). -/
def execDataMoverOutDone (c : CoreId) (t : Ticket) (ok : Bool) (s : State) : Res :=
  onReq s c t (· = .dmout) (fun r =>
    match s.xferCut r with
    | some oc => s.fail r oc
    | none =>
      if !ok then s.fail r 0xF2 else if bit r.imm 0 && s.gateShut then s else
      match s.moverLoc (r.op 1) r.xferLen with
      | none => s
      | some l =>
        s.withRead r [(l, r.xferLen)] (fun s =>
          let s' := s.sendHost r (s.readLoc l r.xferLen)
          if s.poisoned l r.xferLen then s'.fail r ocPoison
          else if bit r.imm 0 then
            s'.claimCompletion r (r.op 0) (BitVec.ofNat 32 (fld (r.op 3) 0 32))
              (BitVec.ofNat 32 (fld (r.op 3) 32 32)) (BitVec.ofNat 15 (fld (r.op 4) 0 15)) 0 0
          else s'.fail r ocDone))

/-- Copy `n` bytes between two places, poison carried; whether any was. -/
def State.copyBytes (s : State) (src dst : Loc) (n : Nat) : Bool × State :=
  let hit := s.poisonIn src n
  (!hit.isEmpty, (s.writeLoc dst (s.readLoc src n)).carryPoison hit src dst)

/-- Grain `k` of a list of grains, and its tag with the guard computed. -/
def framedGrain (grains tags : List Byte) (k : Nat) : List Byte :=
  let g := (grains.drop (4096 * k)).take 4096
  let t := (tags.drop (32 * k)).take 32
  g ++ t.take 24 ++ toBytes 8 (guard g t)

/-- Write the frames of a list of places, in order. -/
def State.putFrames (s : State) (f : Nat → List Byte) : Nat → List Loc → State
  | _, [] => s
  | k, l :: ls => State.putFrames (s.writeLoc l (f k)) f (k + 1) ls

/-- COPY_DONE (R132, R195). -/
def execCopyDone (c : CoreId) (t : Ticket) (s : State) : Res :=
  onReq s c t (· = .dmcopy) (fun r =>
    let n := r.copyLen
    if bit r.imm 0 then
      let g := n / 4096
      match s.moverLoc (r.op 0) n, s.moverLoc (r.op 3) (32 * g), s.framePlaces (r.op 1) g with
      | some src, some tags, some dst =>
        s.withRead r [(src, n), (tags, 32 * g)] (fun s =>
          let bad := s.poisoned src n || s.poisoned tags (32 * g)
          let hit := s.poisonIn src n
          let s' := s.putFrames (framedGrain (s.readLoc src n) (s.readLoc tags (32 * g))) 0 dst
          let s' := dst.zipIdx.foldl (fun s p =>
            let lo := (src.span n).1 + 512 * p.2
            s.carryPoison ((hit.filter (fun h => decide (lo ≤ h) && decide (h < lo + 512))).map (fun h => h - 512 * p.2)) src p.1) s'
          s'.fail r (if bad then ocPoison else ocDone))
      | _, _, _ => s
    else
      match s.moverLoc (r.op 0) n, s.moverLoc (r.op 1) n with
      | some src, some dst =>
        s.withRead r [(src, n)] (fun s =>
          let (bad, s) := s.copyBytes src dst n
          s.fail r (if bad then ocPoison else ocDone))
      | _, _ => s)

/-- FILL_DONE (R132). -/
def execFillDone (c : CoreId) (t : Ticket) (s : State) : Res :=
  onReq s c t (· = .dmfill) (fun r =>
    let n := (r.op 1).toNat
    match s.moverLoc (r.op 0) n with
    | some l => (s.writeLoc l ((List.replicate (n / 8) (toBytes 8 (r.op 2).toNat)).flatten)).fail r ocDone
    | none => s)

end Sys2Proof.Machine
end

