-- ==== Sys2Proof/Machine/Cipher.lean ====
section
/-! DEFINITION. The cipher engine and the key vault (R133 to R135, R495 to R500, R508). -/

namespace Sys2Proof.Machine

/-! ## Vault slots -/

/-- Station offset of VAULT_STAT. -/
def vaultStat : Nat := sta 0xB 0

/-- The key a slot holds, when loaded. -/
def State.vslot (s : State) (n : Nat) : Option VSlot := FMap.get (fun _ => none) s.vault n

/-- The state with a slot loaded or emptied. -/
def State.setVslot (s : State) (n : Nat) (v : Option VSlot) : State :=
  s.putVault (FMap.set (fun _ => none) s.vault n v)

/-- The number of general slots. -/
def generalSlots : Nat := 8184

/-- Whether debug access locks the vault (R508). -/
def State.dbgLock (s : State) : Bool := bit (s.reg vaultStat) 1

/-- The VAULT_SSTAT word of a slot. -/
def State.slotStatus (s : State) (n : Nat) : W64 :=
  match s.vslot n with
  | some v => w64 (1 + v.kind % 4 * 2 + v.origin % 2 * 8 + v.bound % 65536 * 65536)
  | none => 0

/-- The slot that a namespace is bound to. -/
def State.slotOfNs (s : State) (ns : Nat) : Option Nat :=
  if ns = 0 then none else
  (s.vault.find? (fun p => match p.2 with
    | some v => decide (v.bound = ns) && decide (p.1 < generalSlots)
    | none => false)).map (·.1)

/-- The device wrapping key (R497). -/
def deviceWrapKey : List Byte := hkdf (toBytesBE 32 Config.deviceSecret.toNat) (ascii "IX9 vault") 32

/-- Ingot offset of a slot's entry (R470, R496). -/
def vaultEntry (n : Nat) : Nat := 0xE000000 + 128 * n

/-- Bytes 0 to 119 of a slot's entry. -/
def VSlot.body (v : VSlot) (n : Nat) : List Byte :=
  let w := kwWrap deviceWrapKey v.key
  toBytes 2 n ++ toBytes 1 v.kind ++ toBytes 1 v.origin ++ toBytes 4 0 ++ toBytes 8 v.bound ++
    w ++ List.replicate (72 - w.length) 0 ++ v.holder ++ List.replicate (32 - v.holder.length) 0

/-- A slot's entry of 128 bytes (R496). -/
def VSlot.entry (v : VSlot) (n : Nat) : List Byte :=
  let b := v.body n
  b ++ toBytes 4 (crc32 0 (b.take 8 ++ b.drop 16)) ++ toBytes 4 0x564B5849

/-- Load a general slot and write its entry. -/
def State.loadSlot (s : State) (n : Nat) (v : VSlot) : State :=
  let s := s.setVslot n (some v)
  s.putIngot (wrBytes s.ingot (vaultEntry n) (v.entry n))

/-- Bind a loaded slot; its binding word alone is written (R495, R496). -/
def State.bindSlot (s : State) (n ns : Nat) : State :=
  match s.vslot n with
  | some v =>
    let s := s.setVslot n (some { v with bound := ns })
    s.putIngot (wrNum s.ingot (vaultEntry n + 8) 8 ns)
  | none => s

/-- Clear a general slot: the valid mark first, then the wrapped bytes (R495). -/
def State.clearSlot (s : State) (n : Nat) : State :=
  let s := s.setVslot n none
  s.putIngot (wrNum (wrNum s.ingot (vaultEntry n + 124) 4 0) (vaultEntry n + 16) 72 0)

/-- Key bytes from the TRNG: free words (R135, R500). -/
def State.trngBytes (s : State) : Nat → List Byte × State
  | 0 => ([], s)
  | k + 1 =>
    let (w, s) := s.takeFree
    let (r, s) := State.trngBytes s k
    (toBytes 8 w.toNat ++ r, s)

/-- An XTS key whose halves are equal (R495). -/
def halvesEqual (key : List Byte) : Bool := decide (key.length = 64) && decide (key.take 32 = key.drop 32)

/-- Unwrap an imported key: 72 B give an XTS key; when they do not unwrap, their first 40 B may
give a CMAC key (R495, DEDUCED, log entry 18). -/
def importKey (kek w : List Byte) : Option (Nat × List Byte) :=
  match kwUnwrap kek w with
  | some k => if halvesEqual k then none else some (0, k)
  | none => (kwUnwrap kek (w.take 40)).map (fun k => (1, k))

/-- The established session of an identifier whose session slot is `slot`, with its key. -/
def State.sessionKey (s : State) (sid slot : Nat) : Option (Session × List Byte) :=
  match s.sessions.find? (fun x => decide (x.sid.toNat = sid) && x.established && decide (x.slot = slot)) with
  | some x => (s.vslot slot).map (fun v => (x, v.key))
  | none => none

/-! ## Random bits -/

/-- TRNGF is set and one almanac record is written (R500, R538). -/
def State.trngFail (s : State) : State :=
  if bit (s.reg vaultStat) 2 then s
  else (s.setRfld vaultStat 2 1 1).almRecord 0x80 [w64 s.trngRestarts.length, 0, 0, 0, 0]

/-- The DRBG serves masks for `n` blocks: whether it can, with the state after (R499, R500). -/
def State.drbg (s : State) (n : Nat) : Bool × State :=
  if bit (s.reg vaultStat) 2 then (false, s) else
  match s.drbgLeft with
  | none => (true, s)
  | some k => if n ≤ k then (true, (s.putDrbgLeft (some (k - n)))) else (false, s.trngFail)

/-! ## Checks when a request is taken -/

/-- Grains of an xts request. -/
def Req.xtsGrains (r : Req) : Nat := fld (r.op 4) 0 7

/-- The outcome with which the cipher engine or vault turns a request away, if any (R86, R133 to
R135, R151, R495). -/
def State.cipherRefuse (s : State) (r : Req) : Option Byte :=
  let bad :=
    match r.prim with
    | .xts =>
      let g := r.xtsGrains
      r.loaderBad || decide (g = 0) || decide (64 < g) || (s.moverLoc (r.op 0) (4096 * g)).isNone ||
      (if fld (r.op 1) 60 4 = 2 then (s.framePlaces (r.op 1) g).isNone || (s.moverLoc (r.op 5) (32 * g)).isNone
       else (s.moverLoc (r.op 1) (4096 * g)).isNone)
    | .cmac =>
      r.loaderBad || (s.moverLoc (r.op 0) (fld (r.op 1) 0 32)).isNone ||
      (bit r.imm 0 && (s.moverLoc (r.op 3) 16).isNone)
    | _ =>
      decide (4 < fld r.imm 0 4) || decide (generalSlots ≤ fld (r.op 1) 0 13) ||
      (decide (fld r.imm 0 4 = 2) && decide (1 < (r.op 2).toNat)) ||
      (decide (fld r.imm 0 4 = 3) && (r.loaderBad || (s.moverLoc (r.op 2) 72).isNone))
  if bad then some ocRange else none

/-! ## Completions -/

/-- The tweak of grain `k` of a key (R498). -/
def tweakOf (key : W64) (k : Nat) : Nat := (fld key 0 48 + k) % 2 ^ 48 + fld key 48 16 * 2 ^ 48

/-- The output grains of an xts pass over `n` grains of a source. -/
def xtsGrainsOut (dec : Bool) (k : List Byte) (key : W64) (src : List Byte) (n : Nat) : List (List Byte) :=
  (List.range n).map (fun i => xtsUnit dec k (tweakOf key i) ((src.drop (4096 * i)).take 4096))

/-- The frame of grain `i`: its output, then its tag, with the guard over the plaintext when asked
(R133). -/
def xtsFrame (guardOn dec : Bool) (src : List Byte) (outs : List (List Byte)) (tags : List Byte) (i : Nat) : List Byte :=
  let o := outs.getD i []
  let t := (tags.drop (32 * i)).take 32
  let p := if dec then o else (src.drop (4096 * i)).take 4096
  o ++ (if guardOn then t.take 24 ++ toBytes 8 (guard p t) else t)

/-- XTS_DONE (R133, R498, R500). -/
def execXtsDone (c : CoreId) (t : Ticket) (s : State) : Res :=
  onReq s c t (· = .xts) (fun r =>
    let g := r.xtsGrains
    let dec := bit (r.op 2) 13
    match s.vslot (fld (r.op 2) 0 13) with
    | none => s.fail r 0x40
    | some v =>
      if v.kind ≠ 0 then s.fail r 0x41 else
      match s.drbg (256 * g) with
      | (false, s) => s.fail r 0xF0
      | (true, s) =>
        match s.moverLoc (r.op 0) (4096 * g) with
        | none => s
        | some src =>
          let hit := s.poisonIn src (4096 * g)
          let oc := if hit.isEmpty then ocDone else ocPoison
          if fld (r.op 1) 60 4 = 2 then
            match s.moverLoc (r.op 5) (32 * g), s.framePlaces (r.op 1) g with
            | some tags, some dst =>
              s.withRead r [(src, 4096 * g), (tags, 32 * g)] (fun s =>
                let sb := s.readLoc src (4096 * g)
                let outs := xtsGrainsOut dec v.key (r.op 3) sb g
                let oc := if s.poisoned tags (32 * g) then ocPoison else oc
                let s' := s.putFrames (xtsFrame (bit r.imm 0) dec sb outs (s.readLoc tags (32 * g))) 0 dst
                let s' := dst.zipIdx.foldl (fun s p =>
                  let lo := (src.span 1).1 + 512 * p.2
                  s.carryPoison ((hit.filter (fun h => decide (lo ≤ h) && decide (h < lo + 512))).map (fun h => h - 512 * p.2)) src p.1) s'
                s'.fail r oc)
            | _, _ => s
          else
            match s.moverLoc (r.op 1) (4096 * g) with
            | some dst =>
              s.withRead r [(src, 4096 * g)] (fun s =>
                let outs := xtsGrainsOut dec v.key (r.op 3) (s.readLoc src (4096 * g)) g
                ((s.writeLoc dst outs.flatten).carryPoison hit src dst).fail r oc)
            | none => s)

/-- CMAC_DONE (R134). -/
def execCmacDone (c : CoreId) (t : Ticket) (s : State) : Res :=
  onReq s c t (· = .cmac) (fun r =>
    let n := fld (r.op 1) 0 32
    match s.vslot (fld (r.op 2) 0 13) with
    | none => s.fail r 0x40
    | some v =>
      if v.kind ≠ 1 then s.fail r 0x41 else
      match s.drbg ((n + 15) / 16) with
      | (false, s) => s.fail r 0xF0
      | (true, s) =>
        match s.moverLoc (r.op 0) n with
        | none => s
        | some src =>
          s.withRead r [(src, n)] (fun s =>
            let m := cmac v.key (s.readLoc src n)
            let res := words64 2 m
            if s.poisoned src n then s.complete r ocPoison res
            else if bit r.imm 0 then
              match s.moverLoc (r.op 3) 16 with
              | some e => s.withRead r [(e, 16)] (fun s =>
                  s.complete r (if s.poisoned e 16 then ocPoison else if s.readLoc e 16 = m then ocDone else 0x42) res)
              | none => s
            else s.complete r ocDone res))

/-- A vslot fill (R135, R495, R500, R508). -/
def State.vslotFill (s : State) (r : Req) (n : Nat) : State :=
  if s.dbgLock then s.fail r 0x40
  else if (s.vslot n).isSome then s.fail r ocRange
  else if bit (s.reg vaultStat) 2 then s.fail r 0xF0
  else
    let kind := (r.op 2).toNat
    let (key, s) := s.trngBytes (if kind = 0 then 8 else 4)
    (s.loadSlot n { kind := kind, key := key, origin := 0, bound := 0, holder := [] }).fail r ocDone

/-- A vslot import (R135, R495, R508). -/
def State.vslotImport (s : State) (r : Req) (n : Nat) : State :=
  if s.dbgLock then s.fail r 0x40
  else if (s.vslot n).isSome then s.fail r ocRange
  else match s.sessionKey (fld (r.op 4) 0 32) (r.op 3).toNat with
    | none => s.fail r 0x44
    | some (x, kek) =>
      match s.moverLoc (r.op 2) 72 with
      | none => s
      | some l =>
        s.withRead r [(l, 72)] (fun s =>
          match importKey kek (s.readLoc l 72) with
          | none => s.fail r 0x43
          | some (kind, key) =>
            (s.loadSlot n { kind := kind, key := key, origin := 1, bound := 0,
                            holder := (toBytes 48 x.leaf.toNat).take 32 }).fail r ocDone)

/-- A vslot bind (R135, R495). -/
def State.vslotBind (s : State) (r : Req) (n : Nat) : State :=
  let ns := fld (r.op 2) 0 16
  match s.vslot n with
  | none => s.fail r 0x40
  | some v =>
    if ns = 0 then (s.bindSlot n 0).fail r ocDone
    else if v.kind ≠ 0 then s.fail r 0x41
    else if (match s.slotOfNs ns with
      | some m => decide (m ≠ n)
      | none => false) then s.fail r ocRange
    else (s.bindSlot n ns).fail r ocDone

/-- VAULT_OPERATION_DONE (R135, R495). -/
def execVaultOperationDone (c : CoreId) (t : Ticket) (s : State) : Res :=
  onReq s c t (· = .vslot) (fun r =>
    let n := fld (r.op 1) 0 13
    match fld r.imm 0 4 with
    | 0 => s.complete r ocDone [s.slotStatus n]
    | 1 => (s.clearSlot n).fail r ocDone
    | 2 => s.vslotFill r n
    | 3 => s.vslotImport r n
    | _ => s.vslotBind r n)

/-- TRNG_HEALTH_FAIL: a test fails and the TRNG restarts, at most 3 times within 1 s; a further
failure leaves no reseed possible, and the DRBG serves at most 2^24 further blocks.  A restart lets
the DRBG reseed (R500, DEDUCED, log entry 19). -/
def execTrngHealthFail (s : State) : Res :=
  let recent := s.trngRestarts.filter (fun t => s.tick.toNat - t.toNat < s.secondTicks)
  .next (
    if recent.length < 3 then
      ((s.setRfld vaultStat 2 1 0).putTrngRestarts (recent ++ [s.tick])).putDrbgLeft none
    else match s.drbgLeft with
      | some _ => s.putTrngRestarts recent
      | none => ((s.putTrngRestarts recent).putDrbgLeft (some (2 ^ 24))))

end Sys2Proof.Machine
end

