-- ==== Sys2Proof/Machine/Bus.lean ====
section
/-! DEFINITION. The NAND bus of a channel: the cycles of each verb, its pins, and what training finds fitted (R203,
R291 to R296, R300). -/

namespace Sys2Proof.Machine

/-- Station offset of a register of channel `ch`. -/
def chReg (ch off : Nat) : Nat := sta (0x40 + ch) off

/-- Whether channel `ch` is held (R323) or in local reset (R322). -/
def State.chHeld (s : State) (ch : Nat) : Bool := bit (s.reg (chReg ch 0)) 22
def State.chReset (s : State) (ch : Nat) : Bool := bit (s.reg (chReg ch 8)) 0

/-- CHn_WP_n: low while the channel's dome is off or the channel is held (R294, R323). -/
def State.wpPin (s : State) (ch : Nat) : Bool := s.domeOn (15 + ch / 4) && !s.chHeld ch

/-- The byte sequence of a bus gains some cycles. -/
def State.bus (s : State) (xs : List Out) : State := s.putOut (s.out ++ xs)

/-! ## Addresses -/

/-- Bytes of a page with its spare (R203). -/
def pageSize (f : DieFamily) : Nat := 16384 * f.halves + f.spare

/-- Column of a byte of half `h`: half h starts at h × (page size with spare ÷ 2) (R203). -/
def column (f : DieFamily) (h byte : Nat) : Nat := h * (pageSize f / 2) + byte

/-- The three row bytes of a location's page (R291). -/
def rowBytes (w : W64) : List Byte := (List.range 3).map (Config.rowByte (w64 (fld w 8 33)))

def rowCycles (ch : Nat) (w : W64) : List Out := (rowBytes w).map (Out.nandAddr ch)

/-- An address: two column bytes, the lower first, and three row bytes (R296). -/
def addrCycles (ch : Nat) (w : W64) (col : Nat) : List Out := (toBytes 2 col ++ rowBytes w).map (Out.nandAddr ch)

/-! ## Sequences of R296 -/

/-- LUN byte of a die position. -/
def lunByte (d : Nat) : Byte := BitVec.ofNat 8 (d % 8)

/-- Set Features that writes offset set `x` to a die (R296, R333). -/
def State.busSet (s : State) (ch d x : Nat) : List Out :=
  let v := s.reg (sta 6 (0x800 + 8 * x))
  [.nandCmd ch 0xD5, .nandAddr ch (lunByte d), .nandAddr ch (BitVec.ofNat 8 (fld v 0 8)), .nandIn ch (toBytes 4 (fld v 8 32))]

/-- Start of one sense. -/
def busSense (ch : Nat) (w : W64) (col : Nat) : List Out := .nandCmd ch 0x00 :: addrCycles ch w col ++ [.nandCmd ch 0x30]

/-- A poll. -/
def busPoll (ch : Nat) (w : W64) : List Out := .nandCmd ch 0x78 :: rowCycles ch w ++ [.nandOut ch 1]

/-- Output of `n` frames. -/
def busOutput (ch : Nat) (w : W64) (col n : Nat) : List Out :=
  .nandCmd ch 0x06 :: addrCycles ch w col ++ .nandCmd ch 0xE0 :: List.replicate n (.nandOut ch 4608)

/-- An erase of the planes of a block. -/
def busErase (ch : Nat) (w : W64) : List Nat → List Out
  | [] => []
  | [p] => .nandCmd ch 0x60 :: rowCycles ch (setFld w 11 2 p) ++ [.nandCmd ch 0xD0]
  | p :: ps => .nandCmd ch 0x60 :: rowCycles ch (setFld w 11 2 p) ++ .nandCmd ch 0xD1 :: busErase ch w ps

/-- A feature of a die, set to a value or read. -/
def busFeature (ch d faddr : Nat) (set : Option Nat) : List Out :=
  match set with
  | some v => [.nandCmd ch 0xD5, .nandAddr ch (lunByte d), .nandAddr ch (BitVec.ofNat 8 faddr), .nandIn ch (toBytes 4 v)]
  | none => [.nandCmd ch 0xD4, .nandAddr ch (lunByte d), .nandAddr ch (BitVec.ofNat 8 faddr), .nandOut ch 4]

/-- A command of the family descriptor with a row: suspend and resume of a program or an erase (R296, R304). -/
def State.busFamily (s : State) (ch lo : Nat) (w : W64) : List Out :=
  .nandCmd ch (BitVec.ofNat 8 (s.rfld (chReg ch 0x100) lo 8)) :: rowCycles ch w
def State.busSuspend (s : State) (ch : Nat) (erase : Bool) (w : W64) : List Out := s.busFamily ch (if erase then 16 else 0) w
def State.busResume (s : State) (ch : Nat) (erase : Bool) (w : W64) : List Out := s.busFamily ch (if erase then 24 else 8) w

/-- FAh to a die. -/
def busReset (ch d : Nat) : List Out := .nandCmd ch 0xFA :: rowCycles ch (mkLoc ch (d / 8) (d % 8) 0 0 0 0 0 0)

/-- Prefix of page `q` of a program, and of a QLC pass (R304). -/
def State.pagePrefix (s : State) (ch mode q : Nat) : Nat :=
  if mode = 0 then s.rfld (chReg ch 0x100) (32 + 8 * q) 8
  else if mode = 3 then s.rfld (chReg ch 0x100) 56 8
  else s.rfld (chReg ch 0x108) (8 * q) 8
def State.passPrefix (s : State) (ch mode : Nat) : List Out :=
  if mode = 1 then [.nandCmd ch (BitVec.ofNat 8 (s.rfld (chReg ch 0x108) 32 8))]
  else if mode = 2 then [.nandCmd ch (BitVec.ofNat 8 (s.rfld (chReg ch 0x108) 40 8))]
  else []

/-- Data of one half of a page: the code words of its frames, and 0xFF in the spare bytes beyond them (R203). -/
def halfData (f : DieFamily) (keys : List Nat) (frames : List (List Byte)) : List Byte :=
  ((keys.zip frames).flatMap (fun p => codeWord (scramble (scrSeed p.1) p.2))) ++
    List.replicate (pageSize f / f.halves - 18432) 0xFF

/-- A program of a wordline: `frames` in slot order (R296). -/
def State.busProgram (s : State) (r : Req) (frames : List (List Byte)) : List Out :=
  let ch := r.chanNo
  let mode := r.progMode
  let n := progPages mode
  let ps := maskPlanes r.planeMask
  let keys := s.progKeys r
  s.passPrefix ch mode ++ (List.range ps.length).flatMap (fun i => (List.range n).flatMap (fun q =>
    let w := setFld (setFld r.loc 11 2 (ps.getD i 0)) 29 12 (locPage r.loc + q)
    .nandCmd ch (BitVec.ofNat 8 (s.pagePrefix ch mode q)) :: .nandCmd ch 0x80 :: addrCycles ch w 0 ++
      (List.range s.fam.halves).map (fun h =>
        let j := 4 * ((i * n + q) * s.fam.halves + h)
        Out.nandIn ch (halfData s.fam ((keys.drop j).take 4) ((frames.drop j).take 4))) ++
      [.nandCmd ch (if q + 1 < n then 0x1A else if i + 1 < ps.length then 0x11 else 0x10)]))

/-! ## What is fitted -/

/-- Halves of a page size, when R291 admits it with that spare. -/
def halvesOf (bytes spare : Nat) : Option Nat :=
  if bytes = 16384 ∧ 2048 ≤ spare then some 1 else if bytes = 32768 ∧ 4096 ≤ spare then some 2 else none

/-- R292: the parameter page, the geometry and the times of a LUN. -/
def lunGood (l : Lun) : Bool :=
  l.crc && (decide (l.planes = 1) || decide (l.planes = 2) || decide (l.planes = 4)) && decide (1 ≤ l.blocks) && decide (l.blocks ≤ 65536) &&
  decide (1 ≤ l.pages) && decide (l.pages ≤ 4096) && (halvesOf l.pageBytes l.spare).isSome && decide (l.ccs ≤ 400) && decide (l.whr ≤ 120) &&
  decide (l.adl ≤ 300) && decide (l.chan < 32) && decide (l.die < 64)

/-- Whether a LUN is of a family of the table: manufacturer, model and geometry (R293). -/
def lunIs (l : Lun) (f : DieFamily) : Bool :=
  decide (l.model = f.model) && decide (l.planes = f.planes) && decide (l.blocks = f.blocks) &&
  decide (l.pages = if f.qlc then f.pagesQlc else f.pagesTlc) && decide (halvesOf l.pageBytes l.spare = some f.halves) && decide (l.spare = f.spare)

/-- Of two LUNs, the one in the lower place. -/
def firstLun (best : Option Lun) (l : Lun) : Option Lun :=
  match best with
  | none => some l
  | some b => if l.chan * 64 + l.die < b.chan * 64 + b.die then some l else some b

/-- LUNs of present channels that pass R292. -/
def State.goodLuns (s : State) (p : StartPins) : List Lun := p.luns.filter (fun l => lunGood l && s.chanPresent l.chan)

/-- The family that the first of them names, when the table holds it; a QLC family with 32 KiB pages is not fitted (R292,
R293). -/
def State.findFamily (s : State) (p : StartPins) : Option DieFamily :=
  match (s.goodLuns p).foldl firstLun none with
  | some l => (p.table.find? (fun f => lunIs l f)).filter (fun f => !(f.qlc && decide (f.halves = 2)))
  | none => none

/-- Fitted dies of a channel, as MEDIA_CDIE. -/
def State.fitMask (s : State) (p : StartPins) (f : DieFamily) (ch : Nat) : W64 :=
  w64 (((List.range 64).filter (fun d => (s.goodLuns p).any (fun l => decide (l.chan = ch) && decide (l.die = d) && lunIs l f))).map (fun d => 2 ^ d)).sum

/-- The target rate of a channel: the lowest of 4,800 MT/s, what every fitted LUN supports, and RATECAP (R300). -/
def State.targetRate (s : State) (p : StartPins) (f : DieFamily) (ch : Nat) : Nat :=
  ((s.goodLuns p).filter (fun l => decide (l.chan = ch) && lunIs l f)).foldl (fun n l => min n l.rate) (min 7 (s.rfld (chReg ch 0) 4 4))

end Sys2Proof.Machine
end

