-- ==== Sys2Proof/Machine/Flash.lean ====
section
/-! DEFINITION. The flash channels: verb checks, die queues and the die scheduler, suspend and
resume, decoding, and the completion of every flash verb (R122 to R129, R196, R206 to R208, R291
to R311, R325 to R329, R335, R475). -/

namespace Sys2Proof.Machine

/-! ## Dies, channels and verb records -/

/-- The two read verbs. -/
def Prim.isRead (p : Prim) : Bool := p = .fread ∨ p = .fraw

/-- Frames of a program: frames per plane times planes, doubled on a 32 KiB-page family (R124,
R292). -/
def State.progFrames (s : State) (r : Req) : Nat :=
  progPages r.progMode * 4 * s.fam.halves * (maskPlanes r.planeMask).length

/-- Frames of a read. -/
def Req.readFrames (r : Req) : Nat := fld r.imm 4 2 + 1

/-- Sense mode of an fraw. -/
def Req.senseMode (r : Req) : Nat := fld (r.op 2) 0 2

/-- The key of a read: +16 for fread, +24 for fraw (R126). -/
def Req.readKey (r : Req) : W64 := if r.prim = .fraw then r.op 3 else r.op 2

/-- Bytes that a read delivers per frame: 4,096, or 4,608 for a raw sense (R123, R329). -/
def Req.frameStride (r : Req) : Nat := if r.prim = .fraw ∧ r.senseMode = 0 then 4608 else 4096

/-- Pages per block per plane in the native mode. -/
def famPages (f : DieFamily) : Nat := if f.qlc then f.pagesQlc else f.pagesTlc

/-- Whether an operand of a flash verb is out of range (R86, R123 to R126). -/
def State.verbBad (s : State) (r : Req) : Bool :=
  let w := r.loc
  let f := s.fam
  decide (f.planes ≤ locPlane w) || decide (f.blocks ≤ locBlock w) || decide (famPages f ≤ locPage w) ||
  decide (f.halves ≤ locHalf w) ||
  (match r.prim with
    | .fread | .fraw =>
      decide (4 < locFrame w + r.readFrames) ||
      (r.prim == .fraw && decide (r.senseMode = 3)) ||
      (bit r.imm 0 && (decide (fld (r.op 1) 60 4 ≠ 0) || (s.moverLoc (r.op 1) (r.frameStride * r.readFrames)).isNone))
    | .fprog =>
      decide (r.planeMask = 0) || decide (2 ^ f.planes ≤ r.planeMask) || decide (locFrame w ≠ 0) || decide (locHalf w ≠ 0) ||
      decide (locPage w % progPages r.progMode ≠ 0) || decide (28 < s.progFrames r) ||
      decide (28 < fld (r.op 1) 0 5 + s.progFrames r)
    | .ferase => decide (r.planeMask = 0) || decide (2 ^ f.planes ≤ r.planeMask)
    | _ => false)

/-- The outcome with which a channel turns a verb away when it takes it, if any (R122, R86, R323). -/
def State.verbRefuse (s : State) (r : Req) : Option Byte :=
  if s.chHeld r.chanNo then some 0x2E
  else if !s.dieFitted r.chanNo r.dieNo then some 0x2A
  else if s.verbBad r then some ocRange
  else none

/-- Verbs in a die's queue and on the die. -/
def State.dieVerbs (s : State) (ch d : Nat) : List Req :=
  s.reqs.filter (fun r => r.prim.isVerb && decide (r.chanNo = ch) && decide (r.dieNo = d) &&
    (decide (r.phase = .dieQueue) || decide (r.phase = .started)))

/-- Verbs of the channel's verb store. -/
def State.chanVerbs (s : State) (ch : Nat) : List Req :=
  s.reqs.filter (fun r => r.prim.isVerb && decide (r.chanNo = ch) &&
    (decide (r.phase = .dieQueue) || decide (r.phase = .started)))

/-- The reads in progress on a die. -/
def State.dieReads (s : State) (ch d : Nat) : List Req :=
  (s.dieVerbs ch d).filter (fun r => r.prim.isRead && decide (r.phase = .started))

/-- What a verb has gathered. -/
def State.acc (s : State) (r : Req) : VerbAcc :=
  match s.accs.find? (fun a => decide (a.core = r.core) && decide (a.ticket = r.ticket)) with
  | some a => a
  | none => { core := r.core, ticket := r.ticket, set := 0, inputs := [], soft := [], began := 0, tag := none, bits := 0,
              decoded := 0, oc := 0, frames := 0, ready := false }

def State.dropAcc (s : State) (r : Req) : State :=
  s.putAccs (s.accs.filter (fun a => !(decide (a.core = r.core) && decide (a.ticket = r.ticket))))

def State.setAcc (s : State) (r : Req) (a : VerbAcc) : State :=
  let s := s.dropAcc r
  s.putAccs (s.accs ++ [a])

/-! ## The NAND array -/

/-- `n` free bytes (DESIGN CHOICE, log entry 1). -/
def State.freeBytes (s : State) (n : Nat) : List Byte × State :=
  (((List.range ((n + 7) / 8)).flatMap (fun i => toBytes 8 (Config.freeWord (s.free + i)).toNat)).take n,
   (s.putFree (s.free + (n + 7) / 8)))

/-- Bytes 0 to 4,127 that a frame decodes to, given that it decodes: what a program wrote there, and
free bytes where nothing defines them (R124, R327). -/
def State.frameBytes (s : State) (k : Nat) : List Byte × State :=
  match s.frameAt k with
  | .data bs => (bs, s)
  | _ => s.freeBytes 4128

/-- The contents a passed program leaves in a frame that held `old`: its data over erased cells, or
over a foggy pass for a fine pass; otherwise undefined (R124). -/
def progResult (mode : Nat) (old : NFrame) (bs : List Byte) : NFrame :=
  if mode = 1 then (if old = .erased then .foggy else .undef)
  else if mode = 2 then (if old = .foggy then .data bs else .undef)
  else if old = .erased then .data bs else .undef

/-- Write the frames of a program that passed. -/
def State.progFramesTo (s : State) (mode : Nat) : List Nat → List (List Byte) → State
  | k :: ks, b :: bs => State.progFramesTo (s.setFrame k (progResult mode (s.frameAt k) b)) mode ks bs
  | _, _ => s

/-! ## The erase-intent table -/

/-- Ingot offset of the table's entry `i` (R470, R475). -/
def intentOff (i : Nat) : Nat := 0xF000000 + 8 * i

/-- Indices of valid entries. -/
def State.intents (s : State) : List Nat :=
  (s.ingot.filterMap (fun p =>
    if intentOff 0 ≤ p.1 ∧ p.1 < intentOff 131072 ∧ p.1 % 8 = 7 ∧ 128 ≤ p.2.toNat then
      some ((p.1 - intentOff 0) / 8) else none))

/-- The entry of a block erase. -/
def Req.intent (r : Req) : W64 :=
  w64 (fld (setFld (setFld r.loc 29 12 0) 41 3 0) 0 52 + r.planeMask * 2 ^ 52 + 2 ^ 63)

/-- Write the record of an erase, unless it stands already; none when the table is full (R125). -/
def State.writeIntent (s : State) (r : Req) : Option State :=
  let used := s.intents
  if used.any (fun i => rdW s.ingot (intentOff i) = r.intent) then some s
  else if 131072 ≤ used.length then none
  else
    match s.slotFree used (used.length + 1) 0 with
    | some i => some (s.putIngot (wrNum s.ingot (intentOff i) 8 r.intent.toNat))
    | none => none

/-- Whether a record names a plane of a program's block. -/
def Req.clears (r : Req) (e : W64) : Bool :=
  decide (locChan e = r.chanNo) && decide (locDie e = r.dieNo) && decide (locBlock e = locBlock r.loc) &&
  decide (Nat.land (fld e 52 4) r.planeMask ≠ 0)

/-- Clear the records of the block a program has passed on (R125, R475). -/
def State.clearIntent (s : State) (r : Req) : State :=
  s.intents.foldl (fun s i =>
    if r.clears (rdW s.ingot (intentOff i)) then s.putIngot (wrNum s.ingot (intentOff i) 8 0) else s) s

/-! ## Read levels -/

/-- Whether set `x` of the library is usable (R333). -/
def State.rlValid (s : State) (x : Nat) : Bool := bit (s.reg (sta 6 (0x800 + 8 * x))) 40

/-- The set that applies for index `x`: set 128 when it is not valid (R335). -/
def State.rlApply (s : State) (x : Nat) : Nat := if s.rlValid x then x else 128

/-- The index of a die and block in MEDIA_CRLT (R334). -/
def State.rlIndex (s : State) (ch d blk : Nat) : Nat :=
  let g := min (blk / 2 ^ s.rfld (chReg ch 0x18) 0 4) 31
  let e := 32 * d + g
  fld (s.reg (chReg ch (0x800 + 8 * (e / 8)))) (8 * (e % 8)) 8

/-- The set a read applies; a soft sense's centre is the index it names (R335). -/
def State.readSet (s : State) (r : Req) : Nat :=
  if r.prim = .fraw then s.rlApply (fld (r.op 2) 8 8)
  else s.rlApply (s.rlIndex r.chanNo r.dieNo (locBlock r.loc))

/-- The sets of a read's senses in turn: s - k to s + k, clamped (R329, R335). -/
def State.senseSets (s : State) (r : Req) : List Nat :=
  if r.prim = .fraw then
    let k := match r.senseMode with
      | 1 => 1
      | 2 => 3
      | _ => 0
    (List.range (2 * k + 1)).map (fun i => s.rlApply (min (fld (r.op 2) 8 8 + i - k) 255))
  else [s.readSet r]

/-- The set last written to the die by a read's senses. -/
def State.lastSet (s : State) (r : Req) : Nat := (s.senseSets r).getLastD 0

/-- Column of a read's first frame (R203). -/
def State.readCol (s : State) (r : Req) : Nat := column s.fam (locHalf r.loc) (4608 * locFrame r.loc)

/-- Start of a sense with a set, which is written only when the die holds another (R296, R335). -/
def State.senseCycles (s : State) (r : Req) (held : Option Nat) (x : Nat) : List Out :=
  (if held = some x then [] else s.busSet r.chanNo r.dieNo x) ++ busSense r.chanNo r.loc (s.readCol r)

/-- The bus from the end of a read's first sense on: its output, then each further sense, polled and output (R296,
R329). -/
def State.outputCycles (s : State) (r : Req) : List Out :=
  let one := busOutput r.chanNo r.loc (s.readCol r) r.readFrames
  let xs := s.senseSets r
  one ++ (List.zip xs (xs.drop 1)).flatMap (fun p =>
    s.senseCycles r (some p.1) p.2 ++ busPoll r.chanNo r.loc ++ one)

/-! ## The die scheduler -/

/-- Whether TRUN may have passed since tick `t`: certainly not, certainly, or open within a tick
(R307). -/
def State.trunPassed (s : State) (ch : Nat) (t : W64) : Bool × State :=
  let trun := s.rfld (chReg ch 0x118) 48 8
  let d := s.tick.toNat - t.toNat
  if trun = 0 ∨ trun + s.periodUs ≤ d * s.periodUs then (true, s)
  else if (d + 1) * s.periodUs ≤ trun then (false, s)
  else
    let (f, s) := s.takeFree
    (bit f 0, s)

/-- Whether a read targets the wordline of a program in progress or the block of an erase in
progress (R307, R309). -/
def Req.hits (r op : Req) : Bool :=
  decide (locBlock r.loc = locBlock op.loc) && decide (locPlane r.loc ∈ maskPlanes op.planeMask) &&
  (op.prim == .ferase ||
    (decide (locPage op.loc ≤ locPage r.loc) && decide (locPage r.loc < locPage op.loc + progPages op.progMode)))

/-- Suspends an operation may use: 8 for a program, 16 for an erase (R128, R307). -/
def DieOp.limit (o : DieOp) : Nat := if o.erase then 16 else 8

/-- A read that may suspend the operation of request `op`, apart from the time since the last resume
(R307). -/
def Req.qualifies (r op : Req) : Bool :=
  r.prim.isRead && decide (r.phase = .dieQueue) && decide (r.cur.toNat ≤ op.cur.toNat) && !bit r.imm 6 && !r.hits op

/-- The request of a die's operation. -/
def State.opReq (s : State) (o : DieOp) : Option Req := s.findReq o.core o.ticket

/-- Whether a program's data input has run to its confirm; before that it is no operation in progress (R310). -/
def State.inputDone (s : State) (r : Req) : Bool := !(r.prim == .fprog) || decide (s.progFrames r ≤ (s.acc r).inputs.length)

/-- Whether a queued verb may start on its die now; in a cooling gap none does (R126, R128, R308, R309,
R530). -/
def State.mayStart (s : State) (r : Req) : Bool :=
  let ch := r.chanNo
  let d := s.die ch r.dieNo
  let reads := s.dieReads ch r.dieNo
  let readRoom :=
    if bit (s.reg (chReg ch 0x108)) 48 then !reads.any (fun q => decide (locPlane q.loc = locPlane r.loc))
    else reads.isEmpty
  !s.gap && !s.chHeld ch && !s.chReset ch &&
  match d.op with
  | none =>
    if r.prim.isRead then readRoom
    else if r.prim = .fstat then true
    else reads.isEmpty
  | some o =>
    if r.prim = .fstat then true
    else if r.prim.isRead then
      o.suspended && readRoom && decide (o.served < 16) &&
      (match s.opReq o with
        | some q => (r.qualifies q || (q.prim == .ferase && r.hits q && decide (r.phase = .dieQueue)))
        | none => false)
    else false

/-- Of two requests in arrival order, the one the director serves first (R128). -/
def betterReq (best : Option Req) (r : Req) : Option Req :=
  match best with
  | none => some r
  | some b => if r.cur.toNat < b.cur.toNat then some r else some b

/-- The verb the scheduler chooses on a die: the best of those that may start.  On a die with independent plane reads, a
read may start while a program, erase or ffeat of a higher level waits for other reads to end (DESIGN CHOICE, log entry
131). -/
def State.dieChoice (s : State) (ch d : Nat) : Option Req :=
  ((s.dieVerbs ch d).filter (fun r => decide (r.phase = .dieQueue) && s.mayStart r)).foldl betterReq none

/-- The verb the scheduler chooses on a channel. -/
def State.chanChoice (s : State) (ch : Nat) : Option Req :=
  ((s.chanVerbs ch).filter (fun r => decide (r.phase = .dieQueue) && s.mayStart r)).foldl betterReq none

/-! ## Starting and ending a verb -/

/-- A verb leaves its channel: its hard-slot requests and gathered results go, and its operation
leaves the die. -/
def State.verbGone (s : State) (r : Req) : State :=
  let ch := r.chanNo
  let d := s.die ch r.dieNo
  let mine := match d.op with
    | some o => decide (o.core = r.core) && decide (o.ticket = r.ticket)
    | none => false
  let s := s.dropAcc r
  let s := s.putLdpc (s.ldpc.filter (fun q => !(decide (q.core = r.core) && decide (q.ticket = r.ticket))))
  let s := if mine then s.setDie ch r.dieNo { d with op := none } else s
  let c := s.chan ch
  if c.cur = some (r.core, r.ticket) then s.setChan ch { c with cur := none } else s

/-- The run of verbs that the die failed with 0x20 ends (R358). -/
def State.clearFails (s : State) (r : Req) : State :=
  s.setDie r.chanNo r.dieNo { s.die r.chanNo r.dieNo with fails := 0 }

/-- Outcomes of a verb that say nothing of its die's answer: a timeout, a machine check, a full intent table and a
suspended erase. -/
def noAnswer (oc : Byte) : Bool := [0x20, 0x2E, 0x18, 0x24].contains oc

/-- A verb completes. -/
def State.verbDone (s : State) (r : Req) (oc : Byte) (ws : List W64) : State :=
  ((if noAnswer oc then s else s.clearFails r).verbGone r).complete r oc ws

/-- Result words of a read: tag, bits and frames, set, tick, location (R123). -/
def State.readWords (s : State) (r : Req) (a : VerbAcc) : List W64 :=
  words64 4 (a.tag.getD (List.replicate 32 0)) ++
    [w64 (a.bits % 65536 + a.decoded % 65536 * 65536), w64 a.set, s.tick, r.loc]

/-- A verb starts on its die: a read takes its offset set, a program or erase becomes the die's
operation, an erase writes its intent record first (R125, R128, R309, R335).  `bus` says whether the start puts its
cycles on the bus itself; where the microcode takes the verb, its words do (R296). -/
def State.startVerb (s : State) (bus : Bool) (r : Req) : State :=
  let ch := r.chanNo
  let dn := r.dieNo
  let d := s.die ch dn
  match r.prim with
  | .fread | .fraw =>
    let a := { s.acc r with set := s.readSet r, began := s.tick }
    let cut : Bool := match d.op.bind s.opReq with
      | some q => q.prim == .ferase && r.hits q
      | none => false
    if cut then s.verbDone r 0x24 (s.readWords r a)
    else
      let s := match d.op with
        | some o => s.setDie ch dn { d with op := some { o with served := o.served + 1 } }
        | none => s
      let s := (s.setReq { r with phase := .started }).setAcc r a
      let s := if bus then s.bus (s.senseCycles r d.set ((s.senseSets r).headD 0)) else s
      s.setDie ch dn { s.die ch dn with set := some (s.lastSet r) }
  | .fprog | .ferase =>
    let op : DieOp := { core := r.core, ticket := r.ticket, erase := r.prim == .ferase, suspended := false, suspending := false,
                        suspends := 0, served := 0, resumed := s.tick, began := s.tick }
    let s := s.setAcc r (s.acc r)
    if r.prim = .ferase then
      match s.writeIntent r with
      | none => s.verbDone r 0x18 []
      | some s =>
        let s := (s.setReq { r with phase := .started }).setDie ch dn { d with op := some op }
        if bus then s.bus (busErase ch r.loc (maskPlanes r.planeMask)) else s
    else (s.setReq { r with phase := .started }).setDie ch dn { d with op := some op }
  | .ffeat =>
    let s := (s.setReq { r with phase := .started }).setAcc r { s.acc r with began := s.tick }
    if bus then
      s.bus (busFeature ch dn (fld (r.op 1) 0 8) (if bit (r.op 1) 8 then some (fld (r.op 2) 0 32) else none))
    else s
  | _ => s.setReq { r with phase := .started }

/-- The director starts what a die's queue lets it start now (R128, R306). -/
def State.serveDie (s : State) (ch d : Nat) : State :=
  (List.range (s.dieVerbs ch d).length).foldl (fun s _ => match s.dieChoice ch d with
    | some r => s.startVerb true r
    | none => s) s

/-- Go on with a verb of core `c` with ticket `t` that has started, or that its die starts now (DEDUCED, log entry 20). -/
def onVerb (s : State) (c : CoreId) (t : Ticket) (ok : Prim → Bool) (f : State → Req → State) : Res :=
  .next (match s.findReq c t with
    | some r =>
      if !ok r.prim then s
      else
        let s := if r.phase = .dieQueue then s.serveDie r.chanNo r.dieNo else s
        match s.findReq c t with
        | some r => if r.phase = .started then f s r else s
        | none => s
    | none => s)

/-- Whether a die's queue and its channel's verb store have room for one more verb (R306). -/
def State.queueRoom (s : State) (r : Req) : Bool :=
  decide (((s.dieVerbs r.chanNo r.dieNo).filter (fun q => q.phase = .dieQueue)).length < 32) && decide ((s.chanVerbs r.chanNo).length < 512)

/-- The verb that a channel's director moves into a die queue next: by level, then arrival (R46, R122). -/
def State.nextEntry (s : State) (ch : Nat) : Option Req :=
  (s.reqs.filter (fun r => r.prim.isVerb && decide (r.chanNo = ch) && decide (r.phase = .taken) && s.queueRoom r)).foldl betterReq none

/-- VERB_ENTER_DIE_QUEUE: at most 32 verbs in a die's queue and 512 in the verb store (R46, R306). -/
def execVerbEnterDieQueue (c : CoreId) (t : Ticket) (s : State) : Res :=
  .next (match s.findReq c t with
    | some r => if s.nextEntry r.chanNo = some r then s.setReq { r with phase := .dieQueue } else s
    | none => s)

/-- The director withdraws or refuses to withdraw a verb for fcancel (R127). -/
def State.fcancelTake (s : State) (r : Req) : State :=
  match s.findReq r.core (BitVec.ofNat 23 (fld (r.op 0) 0 23)) with
  | some v =>
    if !v.prim.isVerb then s.fail r ocRange
    else if v.phase = .started then s.fail r 0x04
    else ((s.verbGone v).fail v 0x29).fail r ocDone
  | none => s.fail r ocRange

/-! ## Polls, suspend and resume -/

/-- A hard slot is requested for a verb (R328). -/
def State.ldpcAsk (s : State) (r : Req) : State :=
  if s.ldpc.any (fun q => decide (q.core = r.core) && decide (q.ticket = r.ticket)) then s
  else s.putLdpc (s.ldpc ++ [{ chan := r.chanNo, core := r.core, ticket := r.ticket, level := r.cur, granted := false }])

/-- The frame-buffer place of frame `i` of a program. -/
def Req.slotLoc (r : Req) (i : Nat) : Loc := .fbuf (r.chanNo * 0x20000 + (fld (r.op 1) 0 5 + i) * 4608)

/-- Whether the operation of a verb is suspended. -/
def State.isSuspended (s : State) (r : Req) : Bool :=
  match (s.die r.chanNo r.dieNo).op with
  | some o => o.suspended && decide (o.core = r.core) && decide (o.ticket = r.ticket)
  | none => false

/-- Suspends that a verb's operation has used. -/
def State.suspendsOf (s : State) (r : Req) : Nat :=
  match (s.die r.chanNo r.dieNo).op with
  | some o => if o.core = r.core ∧ o.ticket = r.ticket then o.suspends else 0
  | none => 0

/-- The frames of a program enter the die from the frame buffer, and the confirm command follows them (R124, R296). -/
def State.takeInputs (s : State) (r : Req) : State :=
  let a := s.acc r
  let n := s.progFrames r
  let rest := (List.range n).drop a.inputs.length
  let s := rest.foldl (fun s i => s.touch (r.slotLoc i, 4128)) s
  let frames := a.inputs ++ rest.map (fun i => s.readLoc (r.slotLoc i) 4128)
  let s := (s.setAcc r { a with inputs := frames }).bus (s.busProgram r frames)
  match (s.die r.chanNo r.dieNo).op with
  | some o => s.setDie r.chanNo r.dieNo { s.die r.chanNo r.dieNo with op := some { o with resumed := s.tick, began := s.tick } }
  | none => s

/-- Whether `ns` nanoseconds may have passed since tick `t`: the moments within a tick are open (R298). -/
def State.mayHavePassed (s : State) (t : W64) (ns : Nat) : Bool :=
  decide (ns < (s.tick.toNat - t.toNat + 1) * s.periodUs * 1000)

/-- Reads in progress on a die that no poll has found ready; on a die with independent plane reads, those of one plane
(R128, R298). -/
def State.pollReads (s : State) (ch d plane : Nat) : List Req :=
  (s.dieReads ch d).filter (fun r => !(s.acc r).ready && (!bit (s.reg (chReg ch 0x108)) 48 || decide (locPlane r.loc = plane)))

/-- The die whose turn it is among those in their read poll phase (R298). -/
def State.pollTurn (s : State) (ch : Nat) : Option Nat :=
  let ds := (List.range 64).filter (fun d => (s.dieReads ch d).any (fun r => !(s.acc r).ready))
  (ds.find? (fun d => decide ((s.chan ch).polled < d))).or ds.head?

/-- A read whose die has been found ready and which holds a hard slot: it waits for the bus alone (R297, R328). -/
def State.mayOutput (s : State) (r : Req) : Bool :=
  r.prim.isRead && decide (r.phase = .started) && (s.acc r).ready &&
  s.ldpc.any (fun q => decide (q.core = r.core) && decide (q.ticket = r.ticket) && q.granted)

/-- The read whose frames the bus takes next: by level, then arrival (R297). -/
def State.busRead (s : State) (ch : Nat) : Option Req := ((s.chanVerbs ch).filter s.mayOutput).foldl betterReq none

/-- The verb that a poll of a die would be for, when one is due: reads in their poll phase in turn from TRPOLL on, a program
or erase from half its maximum on, a suspend, a feature or a resume at once (R298). -/
def State.pollFor (s : State) (ch d plane : Nat) : Option Req :=
  match s.pollReads ch d plane with
  | r :: _ => if s.pollTurn ch = some d ∧ s.mayHavePassed (s.acc r).began (s.rfld (chReg ch 0x118) 56 8 * 1000) then some r else none
  | [] =>
    match (s.die ch d).op with
    | some o =>
      match s.opReq o with
      | some q =>
        if o.suspending ∨ (!o.suspended ∧ s.inputDone q ∧
            s.mayHavePassed o.began ((if o.erase then s.rfld (chReg ch 0x118) 0 32 else s.rfld (chReg ch 0x110) 32 32) / 2)) then some q else none
      | none => none
    | none => (s.dieVerbs ch d).find? (fun r => decide (r.phase = .started) && decide (r.prim = .ffeat))

/-- What a status byte tells the director: its conditions, and a die that stands suspended (R298, R308, R314). -/
def State.takeStatus (s : State) (ch d : Nat) (st : Byte) : State :=
  let x := s.die ch d
  let op := x.op.map (fun o => if o.suspending && bit st 6 then { o with suspended := true, suspending := false, served := 0 } else o)
  (s.setDie ch d { x with status := st, op := op }).setChan ch { s.chan ch with
    ready := bit st 6, failBit := bit st 0,
    susp := match op with
      | some o => o.suspended
      | none => false }

/-- A poll has found the die ready for a verb; a read requests its hard slot (R298, R328). -/
def State.foundReady (s : State) (r : Req) : State :=
  let s := s.setAcc r { s.acc r with ready := true }
  if r.prim.isRead then s.ldpcAsk r else s

/-- DIE_POLL: the director serves the die's queue, lets a program's data in, which no read output of its level or higher
stands ahead of (R297), or polls the die when a poll is due (R128, R298, R314, R328). -/
def execDiePoll (ch : Nat) (die : Nat) (st : PollSense) (s : State) : Res :=
  .next (if s.chanPresent ch && s.dieFitted ch die && !s.chReset ch && !s.chHeld ch then
      let s := s.serveDie ch die
      let entry : Option Req := match (s.die ch die).op with
        | some o => (s.opReq o).filter (fun q => !o.suspended && !s.inputDone q)
        | none => none
      match entry with
      | some q =>
        match s.busRead ch with
        | some b => if b.cur.toNat ≤ q.cur.toNat then s else s.takeInputs q
        | none => s.takeInputs q
      | none =>
        match s.pollFor ch die st.plane with
        | some r =>
          let was := match (s.die ch die).op with
            | some o => o.suspending
            | none => false
          let s := (s.bus (busPoll ch r.loc)).takeStatus ch die st.status
          let s := if r.prim.isRead then s.setChan ch { s.chan ch with polled := die } else s
          if bit st.status 6 ∧ !was then s.foundReady r else s
        | none => s
    else s)

/-- Functions named by the tags of a program's frames (R124, R490). -/
def State.progFuncs (s : State) (r : Req) : List Nat := (s.acc r).inputs.map (fun b => ofBytes ((b.drop 4098).take 2))

/-- Whether a program's function is in reset, so that it may not be suspended any more (R490). -/
def State.noSuspend (s : State) (r : Req) : Bool :=
  (s.progFuncs r).any (fun f => s.resets.any (fun x => x.func = f))

/-- PROGRAM_ERASE_SUSPEND: an operation in progress takes the suspend command; a program still in its data input ends the
input at the frame and starts it again after the reads (R307, R308, R310). -/
def execProgramEraseSuspend (ch : Nat) (die : Nat) (s : State) : Res :=
  .next (
    let s := if s.chanPresent ch && s.dieFitted ch die then s.serveDie ch die else s
    match (s.die ch die).op with
    | none => s
    | some o =>
      match s.opReq o with
      | none => s
      | some q =>
        let want := (s.dieVerbs ch die).any (fun r => r.qualifies q)
        if s.gap ∨ o.suspended ∨ o.suspending ∨ (s.acc q).ready ∨ !want ∨ o.limit ≤ o.suspends ∨ s.noSuspend q ∨ s.chReset ch ∨ s.chHeld ch then s
        else if !s.inputDone q then
          let s := s.setAcc q { s.acc q with inputs := [] }
          let s := if (s.chan ch).cur = some (q.core, q.ticket) then s.setChan ch { s.chan ch with idx := 0 } else s
          s.setDie ch die { s.die ch die with op := some { o with suspended := true, served := 0 } }
        else
          let (ok, s) := s.trunPassed ch o.resumed
          if !ok then s
          else (s.bus (s.busSuspend ch o.erase q.loc)).setDie ch die { s.die ch die with op := some { o with suspending := true } })

/-- RESUME_OPERATION: when no read of the suspension is left to serve (R308). -/
def execResumeOperation (ch : Nat) (die : Nat) (s : State) : Res :=
  .next (
    let s := if s.chanPresent ch && s.dieFitted ch die then s.serveDie ch die else s
    let d := s.die ch die
    match d.op with
    | some o =>
      match s.opReq o with
      | some q =>
        if o.suspended ∧ (s.dieReads ch die).isEmpty ∧
            ((s.dieVerbs ch die).filter (fun r => decide (r.phase = .dieQueue) && r.prim.isRead && s.mayStart r)).isEmpty then
          let s := if s.inputDone q then s.bus (s.busResume ch o.erase q.loc) else s
          s.setDie ch die { d with op := some { o with suspended := false, suspends := o.suspends + 1, resumed := s.tick } }
        else s
      | none => s
    | none => s)

/-! ## Dead dies -/

/-- Whether a die group exists: its 16 dies are fitted (R254). -/
def State.groupOk (s : State) (q : Nat) : Bool :=
  decide (q < if s.wide then 128 else 64) &&
  (List.range 16).all (fun d => s.chanPresent (s.groupDie q d).1 && s.dieFitted (s.groupDie q d).1 (s.groupDie q d).2)

/-- Use of a block: 0 unknown history, 1 free, 2 in an extent, 3 pending erase, 4 retired. -/
def State.blkUse (s : State) (bk : Nat) : Nat := FMap.get (fun _ => 0) s.care.blocks bk

/-- The blocks of some dies of a channel that are not yet retired; a die outside every group holds none (R254). -/
def State.dieBlocks (s : State) (ch : Nat) (ds : List Nat) : List Nat :=
  ((ds.filter (fun d => s.dieFitted ch d && s.groupOk (s.dieGroup ch d).1)).flatMap (fun d =>
    (List.range s.fam.planes).flatMap (fun pl => (List.range s.fam.blocks).map (fun b => blkKey ch d pl b)))).filter
      (fun k => s.blkUse k ≠ 4)

/-- Every block of a dead die is retired at once, and health counter 11 counts them (R358, R361; DESIGN CHOICE,
log entry 122). -/
def State.retireDies (s : State) (ch : Nat) (ds : List Nat) : State :=
  let ks := s.dieBlocks ch ds
  (s.putCare { s.care with blocks := ks.foldl (fun m k => FMap.set (fun _ => 0) m k 4) s.care.blocks }).putHealth
    (FMap.modify (fun _ => 0) s.health 11 (fun (v : W64) => w64 (satAdd 64 v.toNat ks.length)))

/-- The datasheet maximum of a verb in ns, by its channel's family, and the tick since which its die has worked on it; a
feature has none that the descriptor gives (R90, R298, R304). -/
def State.verbMax (s : State) (r : Req) : Nat × W64 :=
  let ch := r.chanNo
  let since := match (s.die ch r.dieNo).op with
    | some o => o.began
    | none => (s.acc r).began
  match r.prim with
  | .fread | .fraw => (s.rfld (chReg ch 0x110) 0 32, (s.acc r).began)
  | .fprog => (s.rfld (chReg ch 0x110) 32 32, since)
  | .ferase => (s.rfld (chReg ch 0x118) 0 32, since)
  | _ => (0, since)

/-- Whether a verb's timer may expire: the one its director armed, or twice the datasheet maximum (R90, R315). -/
def State.timerDue (s : State) (r : Req) : Bool :=
  if (s.chan r.chanNo).cur = some (r.core, r.ticket) then
    match (s.chan r.chanNo).timer with
    | some (ns, t) => s.mayHavePassed t ns
    | none => false
  else s.mayHavePassed (s.verbMax r).2 (2 * (s.verbMax r).1)

/-- DIE_TIMEOUT: a verb in progress on the die that no poll has found ready completes with 0x20 once its timer expires (R90,
R315).  What it programmed or erased is undefined.  The third such verb in turn retires the die (R358). -/
def execDieTimeout (ch : Nat) (die : Nat) (s : State) : Res :=
  .next (
    match (s.dieVerbs ch die).find? (fun r => decide (r.phase = .started) && !(s.acc r).ready && !s.isSuspended r && s.inputDone r && s.timerDue r) with
    | some r =>
      let d := s.die ch die
      let s := (s.spoilOp r).setDie ch die { d with fails := d.fails + 1 }
      let s := s.setChan ch { s.chan ch with expired := true, timer := none, outcome := 0x20 }
      (if 2 ≤ d.fails then s.retireDies ch [die] else s).verbDone r 0x20 []
    | none => s)

/-- Whether bank `b` of the codec is present and on: the domes of its channels keep it on (R325). -/
def State.bankOn (s : State) (b : Nat) : Bool :=
  (List.range 8).any (fun i => s.chanPresent (8 * b + i)) && s.domeOn (24 + b)

/-- LDPC_SLOT_GRANT: of a bank's waiting requests the best by level, then arrival, takes one of ten
slots, at most two of a channel (R328). -/
def execLdpcSlotGrant (bank : Nat) (s : State) : Res :=
  .next (
    let mine := s.ldpc.filter (fun q => q.chan / 8 = bank)
    let held := mine.filter (fun q => q.granted)
    if s.gap ∨ 10 ≤ held.length ∨ !s.bankOn bank then s else
    let best := (mine.filter (fun q => !q.granted && decide ((held.filter (fun h => h.chan = q.chan)).length < 2))).foldl
      (fun b q => match b with
        | none => some q
        | some x => if q.level.toNat < x.level.toNat then some q else some x) (none : Option LdpcReq)
    match best with
    | some x => s.putLdpc (s.ldpc.map (fun q => if q.core = x.core ∧ q.ticket = x.ticket then { q with granted := true } else q))
    | none => s)

/-! ## Decoding -/

/-- Bits of a byte that are 0. -/
def zeroBits (bs : List Byte) : Nat := (bs.map (fun b => 8 - popTo b.toNat 8)).sum

/-- A sense of a frame with the zero bits that it can show: a programmed frame sensed with `n` wrong bits shows at least
the zero bits of its scrambled bytes less `n`, so that no data reads as erased (R326, R327). -/
def State.sense (s : State) (k : Nat) (f : FrameSense) : FrameSense :=
  match s.cellsAt k, f.hard with
  | .data bs, some n => { f with zeros := max f.zeros (zeroBits bs - n) }
  | _, _ => f

/-- The classification of a hard decode (R327): outcome and bits corrected. -/
def classify (f : FrameSense) : Byte × Nat :=
  if f.zeros ≤ 64 then (0x25, 0)
  else match f.hard with
    | some 0 => (0x00, 0)
    | some n => (0x01, n)
    | none => if f.zeros ≤ 4608 then (0x26, 0) else (0x23, 0)

/-- One hard decode counts in its bank (R327, LDPC registers). -/
def State.countHard (s : State) (ch : Nat) (oc : Byte) (bits : Nat) : State :=
  let o := 0x20 * (ch / 8)
  let s := s.countRfld (sta 7 (0x100 + o)) 0 48 1
  let s := if oc = 0x23 ∨ oc = 0x26 then s.countRfld (sta 7 (0x110 + o)) 0 32 1 else s
  s.setRfld (sta 7 (0x118 + o)) 0 16 (max (s.rfld (sta 7 (0x118 + o)) 0 16) (min bits 65535))

/-- Tag namespace and grain address (R188). -/
def tagNs (t : List Byte) : Nat := ofBytes ((t.drop 4).take 2)
def tagLba (t : List Byte) : Nat := ofBytes ((t.drop 8).take 6)

/-- The key bound to a namespace, when its slot is loaded. -/
def State.nsKey (s : State) (ns : Nat) : Option (List Byte) :=
  (s.slotOfNs ns).bind (fun n => (s.vslot n).map (fun v => v.key))

/-- The outcome of the checks of a decoded frame, and the grain it delivers (R123, R196).  The guard is checked over the data
as delivered; where an enciphered frame is delivered as stored, over its plaintext under the tag's own namespace and LBA
(DEDUCED, log entry 21). -/
def State.checkFrame (s : State) (r : Req) (k : Nat) (bs : List Byte) (oc : Byte) : Byte × Option (List Byte) :=
  let grain := bs.take 4096
  let tag := bs.drop 4096
  let enc := bit (tag.getD 1 0) 3
  let key := r.readKey
  let dec := bit r.imm 1
  let plain := if !enc then some grain
    else if dec then (s.nsKey (fld key 48 16)).map (fun kk => xtsUnit true kk (tweakOf key k) grain)
    else (s.nsKey (tagNs tag)).map (fun kk => xtsUnit true kk (tagLba tag + tagNs tag * 2 ^ 48) grain)
  match plain with
  | none => (0x40, none)
  | some p =>
    let o1 : Byte := if guard p tag = ofBytes ((tag.drop 24).take 8) then oc else 0x27
    let o2 : Byte := if bit r.imm 2 && (decide (tagNs tag ≠ fld key 48 16) || decide (tagLba tag ≠ (fld key 0 48 + k) % 2 ^ 48)) then 0x28 else o1
    (o2, some (if dec then p else grain))

/-- Deliver a frame's bytes when the read asks for data (R123). -/
def State.deliver (s : State) (r : Req) (k : Nat) (bs : List Byte) : State :=
  if bit r.imm 0 then
    match s.moverLoc (r.op 1 + w64 (r.frameStride * k)) bs.length with
    | some l => s.writeLoc l bs
    | none => s
  else s

/-- The highest-numbered outcome. -/
def maxOc (a b : Byte) : Byte := if a.toNat < b.toNat then b else a

/-- Frame key of frame `k` of a read. -/
def Req.frameK (r : Req) (k : Nat) : Nat :=
  frameKey (blkKey r.chanNo r.dieNo (locPlane r.loc) (locBlock r.loc)) (locPage r.loc) (locHalf r.loc) (locFrame r.loc + k)

/-- A frame of a read that decodes, with `bits` corrected. -/
def State.takeData (s : State) (r : Req) (a : VerbAcc) (oc : Byte) (bits : Nat) : VerbAcc × State :=
  let k := a.frames
  let (bs, s) := s.frameBytes (r.frameK k)
  let (o, out) := s.checkFrame r k bs oc
  let s := match out with
    | some g => s.deliver r k g
    | none => s
  ({ a with tag := a.tag.or (if k = 0 then some (bs.drop 4096) else none), bits := max a.bits bits,
            decoded := a.decoded + 1, oc := maxOc a.oc o, frames := k + 1 }, s)

/-- The next frame of a read, as it leaves the die through a hard slot (R123, R126, R327, R329). -/
def State.takeFrame (s : State) (r : Req) (a : VerbAcc) (f : FrameSense) : VerbAcc × State :=
  let k := a.frames
  let f := s.sense (r.frameK k) f
  let ones := List.replicate 32 (0xFF : Byte)
  if f.zeros ≤ 64 then
    let s := s.deliver r k (List.replicate r.frameStride 0xFF)
    ({ a with tag := a.tag.or (if k = 0 then some ones else none), oc := maxOc a.oc 0x25, frames := k + 1 }, s)
  else if r.prim = .fread then
    let (oc, bits) := classify f
    let s := s.countHard r.chanNo oc bits
    if oc = 0x23 ∨ oc = 0x26 then
      ({ a with decoded := a.decoded + 1, oc := maxOc a.oc oc, frames := k + 1 }, s)
    else s.takeData r a oc bits
  else if r.senseMode = 0 then
    let exact : Option (List Byte) := if f.hard = some 0 then (match s.cellsAt (r.frameK k) with
      | .data c => some c
      | _ => none) else none
    let (bs, s) := match exact with
      | some c => (scramble (scrSeed (r.frameK k)) c, s)
      | none => s.freeBytes 4128
    let (par, s) := match exact with
      | some c => ((List.range 480).map (Config.ldpcParity c), s)
      | none => s.freeBytes 480
    let s := s.deliver r k (bs ++ par)
    ({ a with tag := a.tag.or (if k = 0 then some (bs.drop 4096) else none), frames := k + 1 }, s)
  else
    match a.soft.getD k (false, 0) with
    | (true, n) => s.takeData r a (if n = 0 then 0x00 else 0x01) n
    | (false, _) => ({ a with decoded := a.decoded + 1, oc := maxOc a.oc 0x30, frames := k + 1 }, s)

/-- All the frames of a read. -/
def State.takeFrames (s : State) (r : Req) : VerbAcc → List FrameSense → VerbAcc × State
  | a, [] => (a, s)
  | a, f :: fs =>
    let (a, s) := s.takeFrame r a f
    State.takeFrames s r a fs

/-- SOFT_DECODE: the soft engine decodes the next frame's senses (R329). -/
def execSoftDecode (c : CoreId) (t : Ticket) (ok : Bool) (diff : BitVec 16) (s : State) : Res :=
  onVerb s c t (· = .fraw) (fun s r =>
    let a := s.acc r
    if !a.ready ∨ (r.senseMode ≠ 1 ∧ r.senseMode ≠ 2) ∨ r.readFrames ≤ a.soft.length then s else
    let o := 0x20 * (r.chanNo / 8)
    let s := s.countRfld (sta 7 (0x108 + o)) 0 48 1
    let s := if ok then s else s.countRfld (sta 7 (0x110 + o)) 32 32 1
    s.setAcc r { a with soft := a.soft ++ [(ok, diff.toNat)] })

/-- One tap of drift per DQ of a chip enable at most, within 24 taps of the trained delay (R302, R303); which way is free. -/
def State.drift (s : State) (ch ce : Nat) : State :=
  let (f, s) := s.takeFree
  (List.range 8).foldl (fun (s : State) d =>
    let a := chReg ch (0x200 + 8 * (8 * ce + d))
    let base := s.rfld a 0 7
    let now := s.rfld a 16 7
    let to_ := match fld f (2 * d) 2 with
      | 1 => now + 1
      | 2 => now - 1
      | _ => now
    if to_ < 128 ∧ to_ ≤ base + 24 ∧ base ≤ to_ + 24 then s.setRfld a 16 7 to_ else s) s

/-- A read completes once its last frame is out: the die is ready, a hard slot is held and the bus is granted (R123, R297,
R298, R302, R328). -/
def State.readDone (s : State) (r : Req) (fr : List FrameSense) : State :=
  let a := s.acc r
  if (s.busRead r.chanNo).map (fun q => (q.core, q.ticket)) ≠ some (r.core, r.ticket) then s
  else if a.frames + fr.length ≠ r.readFrames then s
  else if r.prim = .fraw ∧ r.senseMode ≠ 0 ∧ a.soft.length ≠ r.readFrames then s
  else
    let s := (s.bus (s.outputCycles r)).drift r.chanNo (locCe r.loc)
    let (a, s) := s.takeFrames r a fr
    s.verbDone r a.oc (s.readWords r a)

/-- FLASH_READ_DONE (R123). -/
def execFlashReadDone (c : CoreId) (t : Ticket) (fr : List FrameSense) (s : State) : Res :=
  onVerb s c t (· = .fread) (fun s r => s.readDone r fr)

/-- RAW_READ_DONE (R126). -/
def execRawReadDone (c : CoreId) (t : Ticket) (fr : List FrameSense) (s : State) : Res :=
  onVerb s c t (· = .fraw) (fun s r => s.readDone r fr)

/-! ## Programs and erases -/

/-- The mark of one frame of a passed program (R207). -/
def State.markFrame (s : State) (b : List Byte) : State :=
  let tag := b.drop 4096
  let n := ofBytes ((tag.drop 16).take 7)
  let side := b2n (bit (tag.getD 1 0) 4)
  if n ≠ 0 ∧ n ≠ wsnMax ∧ s.numberSide = some side then s.setP n else s

/-- Durable marks for every frame of a program, unless it is a foggy pass (R124). -/
def State.markProgram (s : State) (r : Req) : State :=
  if r.progMode = 1 then s else (s.acc r).inputs.foldl State.markFrame s

/-- FLASH_PROGRAM_DONE: a poll has found the die ready, and its status byte decides; marks are set before the event (R124,
R207, R298). -/
def execFlashProgramDone (c : CoreId) (t : Ticket) (st : BitVec 8) (ns : W64) (s : State) : Res :=
  onVerb s c t (· = .fprog) (fun s r =>
    if s.isSuspended r ∨ !(s.acc r).ready then s else
    let ws := [st.setWidth 64, ns, w64 (s.suspendsOf r)]
    let s := s.clearFails r
    if bit st 0 then (s.spoilOp r).verbDone r 0x21 ws
    else
      let s := s.progFramesTo r.progMode (s.progKeys r) (s.acc r).inputs
      ((s.clearIntent r).markProgram r).verbDone r ocDone ws)

/-- FLASH_ERASE_DONE (R125). -/
def execFlashEraseDone (c : CoreId) (t : Ticket) (st : BitVec 8) (ns : W64) (s : State) : Res :=
  onVerb s c t (· = .ferase) (fun s r =>
    if s.isSuspended r ∨ !(s.acc r).ready then s else
    let ws := [st.setWidth 64, ns, w64 (s.suspendsOf r)]
    let s := s.clearFails r
    if bit st 0 then (s.spoilOp r).verbDone r 0x22 ws
    else
      ((maskPlanes r.planeMask).foldl (fun s pl => s.resetBlock (blkKey r.chanNo r.dieNo pl (locBlock r.loc)) true) s).verbDone
        r ocDone ws)

/-! ## Status and features -/

/-- The operation in progress on a die; a program in its data input is none (R310). -/
def State.opNow (s : State) (ch d : Nat) : Option DieOp :=
  (s.die ch d).op.filter (fun o => match s.opReq o with
    | some q => s.inputDone q
    | none => true)

/-- The die state that fstat reports (R126). -/
def State.dieStateCode (s : State) (ch d : Nat) : Nat :=
  match s.opNow ch d with
  | some o => if o.erase then (if o.suspended then 5 else 3) else (if o.suspended then 4 else 2)
  | none => if (s.dieReads ch d).isEmpty then 0 else 1

/-- Suspends used by the operation in progress (R126). -/
def State.usedNow (s : State) (ch d : Nat) : Nat :=
  match s.opNow ch d with
  | some o => o.suspends
  | none => 0

/-- Verbs queued at each level P1 to P7, in 8-bit fields (R126). -/
def State.queuedLevels (s : State) (ch d : Nat) : Nat :=
  ((List.range 7).map (fun i =>
    ((s.dieVerbs ch d).filter (fun r => decide (r.phase = .dieQueue) && decide (r.cur.toNat = i + 1))).length % 256 * 2 ^ (8 * i))).sum

/-- DIE_STATUS_DONE (R126). -/
def execDieStatusDone (c : CoreId) (t : Ticket) (st : BitVec 8) (s : State) : Res :=
  onVerb s c t (· = .fstat) (fun s r =>
    let ch := r.chanNo
    let d := r.dieNo
    (s.bus (busPoll ch r.loc)).verbDone r ocDone [st.setWidth 64, w64 (s.dieStateCode ch d), w64 (s.usedNow ch d), w64 (s.queuedLevels ch d)])

/-- Parameter bytes of a feature of a die: those that ffeat set last, or those that the die gives. -/
def Die.feature (d : Die) (a : Nat) (given : BitVec 32) : BitVec 32 :=
  match d.feats.find? (fun p => decide (p.1 = a)) with
  | some p => p.2
  | none => given

/-- ffeat ends: a set leaves its four bytes with the die, a get answers those of the die (R126). -/
def State.featureDone (s : State) (r : Req) (oc : Byte) (param : BitVec 32) : State :=
  let a := fld (r.op 1) 0 8
  let d := s.die r.chanNo r.dieNo
  if bit (r.op 1) 8 then
    let v := BitVec.ofNat 32 (fld (r.op 2) 0 32)
    (s.setDie r.chanNo r.dieNo { d with feats := (d.feats.filter (fun p => p.1 ≠ a)) ++ [(a, v)] }).verbDone r oc [v.setWidth 64]
  else s.verbDone r oc [(d.feature a param).setWidth 64]

/-- FEATURE_DONE: the parameter bytes come back, those set or those the die gives (R126). -/
def execFeatureDone (c : CoreId) (t : Ticket) (param : BitVec 32) (s : State) : Res :=
  onVerb s c t (· = .ffeat) (fun s r => if !(s.acc r).ready then s else s.featureDone r ocDone param)

end Sys2Proof.Machine
end

