-- ==== Sys2Proof/Machine/Director.lean ====
section
/-! DEFINITION. Channel directors and pulse sequencers word by word, patch matching, channel machine
checks and the local reset (R181 to R185, R312 to R323). -/

namespace Sys2Proof.Machine

/-! ## Machine checks and the local reset -/

/-- Channel `ch` becomes held: its verbs end with 0x2E, one almanac record is written, and the blocks of its dies
are retired (R323, R358). -/
def State.holdChan (s : State) (ch : Nat) : State :=
  let s := s.retireDies ch (List.range 64)
  let s := s.setRfld (chReg ch 0) 22 1 1
  let s := (s.setRfld (sta 6 0x10) ch 1 1).setRfld (sta 6 8) ch 1 0
  let s := s.setRfld (chReg ch 8) 0 1 0
  let s := s.almRecord 0x41 [w64 ch, w64 (s.rfld (chReg ch 8) 1 4), w64 (s.chan ch).pc, 0, 0]
  (s.reqs.filter (fun r => r.prim.isVerb && decide (r.chanNo = ch) && decide (r.phase ≠ .waiting))).foldl
    (fun s r => s.verbDone r 0x2E []) s

/-- A channel machine check of a cause at a control-store address (R321 to R323): the director's, or the sequencer's for
its own words (DEDUCED, log entry 152). -/
def State.checkAt (s : State) (ch cause pc : Nat) : State :=
  if !s.chanPresent ch || s.chHeld ch || s.chReset ch then s else
  let checks := (s.chan ch).checks.filter (fun t => s.tick.toNat - t.toNat < 65536) ++ [s.tick]
  let s := s.setRfld (chReg ch 8) 0 1 1
  let s := (s.setRfld (chReg ch 8) 1 4 cause).countRfld (chReg ch 8) 8 8 1
  let s := s.setRfld (sta 6 8) ch 1 1
  let s := s.almRecord 0x40 [w64 ch, w64 cause, w64 pc, 0, 0]
  let cut := (List.range 64).filter (fun d => (s.opNow ch d).isSome)
  let s := (s.chanVerbs ch).foldl
    (fun s r => (if r.phase = .started then s.spoilOp r else s).verbDone r 0x2E []) s
  let s := s.setChan ch { chanReset ch with checks := checks, cutDies := cut }
  if 9 ≤ checks.length then s.holdChan ch else s

/-- A machine check of the director, and one of the sequencer. -/
def State.machineCheck (s : State) (ch cause : Nat) : State := s.checkAt ch cause (s.chan ch).pc
def State.seqCheck (s : State) (ch cause : Nat) : State := s.checkAt ch cause (s.chan ch).seqPc

/-- CHANNEL_MACHINE_CHECK: causes 1 to 5 (R321, R322). -/
def execChannelMachineCheck (ch : Nat) (cause : BitVec 4) (s : State) : Res :=
  .next (
    if cause = 2 ∨ cause = 3 then s.seqCheck ch cause.toNat
    else if 1 ≤ cause.toNat ∧ cause.toNat ≤ 5 then s.machineCheck ch cause.toNat
    else s)

/-- CHANNEL_WATCHDOG: cause 5, while the verb store holds verbs (R321). -/
def execChannelWatchdog (ch : Nat) (s : State) : Res :=
  .next (if (s.chanVerbs ch).isEmpty then s else s.machineCheck ch 5)

/-- DRAM address of the loader's patch record of a channel (R185). -/
def patchRec (ch : Nat) : Nat := 0x3F00000 + 4096 * ch

/-- Whether a channel's patch record is whole (R185). -/
def State.patchRecOk (s : State) (ch : Nat) : Bool :=
  let a := patchRec ch
  decide (rdNum s.dram (a + 4092) 4 = 0x43505849) &&
  decide (crc32 0 (rdBytes s.dram a 4088) = rdNum s.dram (a + 4088) 4) && !s.poisoned (.dram a) 4096

/-- Write the patch RAM and match registers of a channel from its record (R183, R184). -/
def State.writePatch (s : State) (ch : Nat) : State :=
  let a := patchRec ch
  let s := (List.range 256).foldl (fun s w => s.setReg (chReg ch (0x1000 + 8 * w)) (rdW s.dram (a + 256 + 8 * w))) s
  let s := (List.range 128).foldl (fun s w => s.setReg (chReg ch (0x2000 + 8 * w)) (w64 (rdNum s.dram (a + 2304 + 8 * w) 4))) s
  let s := (List.range 16).foldl (fun s i =>
    s.setReg (chReg ch (0x600 + 8 * i)) (rdW s.dram (a + 16 + 8 * i) &&& 0x80FFFFFF)) s
  (List.range 8).foldl (fun s i =>
    s.setReg (chReg ch (0x680 + 8 * i)) (rdW s.dram (a + 144 + 8 * i) &&& 0x807FFFFF)) s

/-- The dies of a channel hold no offset set as written (R335); the features of a die that is reset are the die's own
again. -/
def State.forgetSets (s : State) (ch : Nat) : State :=
  let cut := (s.chan ch).cutDies
  s.putDies (s.dies.filterMap (fun p =>
      if p.1 / 64 = ch then
        (let d := { p.2 with set := none, feats := if cut.contains (p.1 % 64) then [] else p.2.feats }
         if d = dieReset 0 then none else some (p.1, d))
      else some p))

/-- LOCAL_RESET_DONE: the patches are rewritten, FAh goes to every die whose program or erase was cut, and the channel runs
(R184, R185, R322). -/
def execLocalResetDone (ch : Nat) (s : State) : Res :=
  .next (if !s.chReset ch then s
    else if !s.patchRecOk ch then s.holdChan ch
    else
      let s := (s.writePatch ch).bus ((s.chan ch).cutDies.flatMap (busReset ch))
      let s := s.forgetSets ch
      ((s.setChan ch { chanReset ch with checks := (s.chan ch).checks }).setRfld (chReg ch 8) 0 1 0).setRfld (sta 6 8) ch 1 0)

/-! ## The control store -/

/-- Even parity of the 32-bit unit of a word from bit `lo`. -/
def evenParity (w : W64) (lo : Nat) : Bool := decide (popTo (fld w lo 32) 32 % 2 = 0)

/-- The patch RAM word that a match register names for a ROM address, if one is enabled for it; in a local reset none is
(R319, R322). -/
def State.patchMatch (s : State) (ch base n a : Nat) : Option Nat :=
  if s.chReset ch then none else
  ((List.range n).find? (fun i =>
    let m := s.reg (chReg ch (base + 8 * i))
    bit m 31 && decide (fld m 0 16 = a))).map (fun i => fld (s.reg (chReg ch (base + 8 * i))) 16 8)

/-- The director word that runs when the ROM holds `w` at the director's address (R319). -/
def State.dirWord (s : State) (ch : Nat) (w : W64) : W64 :=
  let pc := (s.chan ch).pc
  if 0x1000 ≤ pc then s.reg (chReg ch (0x1000 + 8 * (pc - 0x1000)))
  else match s.patchMatch ch 0x600 16 pc with
    | some p => s.reg (chReg ch (0x1000 + 8 * p))
    | none => w

/-- Address that the sequencer fetches from: its own, or that of the patch word in its place, from which a plain word goes
on (R319). -/
def State.seqAt (s : State) (ch : Nat) : Nat :=
  let pc := (s.chan ch).seqPc
  if 0x400 ≤ pc then pc
  else match s.patchMatch ch 0x680 8 pc with
    | some p => 0x400 + p
    | none => pc

/-- The sequencer word that runs when the ROM holds `w` at the sequencer's address. -/
def State.seqWord (s : State) (ch : Nat) (w : BitVec 32) : W64 :=
  let a := s.seqAt ch
  if 0x400 ≤ a then s.reg (chReg ch (0x2000 + 8 * (a - 0x400))) else w.setWidth 64

/-- Patch words of a channel's director and sequencer, from the loader's copy (R182, R185). -/
def State.dirPatchWords (s : State) (ch : Nat) : Nat := rdNum s.dram (patchRec ch + 2) 2
def State.seqPatchWords (s : State) (ch : Nat) : Nat := rdNum s.dram (patchRec ch + 6) 2

/-- Whether the channel's engines run; in a local reset they run the ROM's routine alone (R322). -/
def State.chRuns (s : State) (ch : Nat) : Bool :=
  s.chanPresent ch && !s.chHeld ch && (!s.chReset ch || (decide ((s.chan ch).pc < 0x1000) && decide ((s.chan ch).seqPc < 0x400)))

/-! ## The director -/

/-- The current verb of a channel. -/
def State.curVerb (s : State) (ch : Nat) : Option Req := (s.chan ch).cur.bind (fun p => s.findReq p.1 p.2)

/-- The operation of the selected die, or of the current verb's die. -/
def State.selDie (s : State) (ch : Nat) : Option Nat :=
  (s.chan ch).sel.or ((s.curVerb ch).map Req.dieNo)

/-- Whether a read on the selected die qualifies to suspend its operation (R307). -/
def State.readWaits (s : State) (ch : Nat) : Bool :=
  match s.selDie ch with
  | some d =>
    match (s.die ch d).op.bind s.opReq with
    | some q => (s.dieVerbs ch d).any (fun r => r.qualifies q)
    | none => false
  | none => false

/-- A condition of R314. -/
def State.cond (s : State) (ch sel : Nat) : Bool × State :=
  let c := s.chan ch
  let op := (s.selDie ch).bind (fun d => (s.die ch d).op)
  match sel with
  | 0 => (false, s)
  | 1 => (c.seqDone, s)
  | 2 => (c.ready, s)
  | 3 => (c.failBit, s)
  | 4 => (c.expired, s)
  | 5 => (decide (c.counter = 0), s)
  | 6 => (s.readWaits ch, s)
  | 7 => (c.susp, s)
  | 8 => ((match op with
      | some o => decide (o.suspends < o.limit)
      | none => false), s)
  | 9 => match op with
      | some o => s.trunPassed ch o.resumed
      | none => (true, s)
  | 10 => ((match s.curVerb ch with
      | some r => (r.prim == .fprog || r.prim == .ferase) && decide (1 < (maskPlanes r.planeMask).length)
      | none => false), s)
  | 11 => ((match c.cur with
      | some p => s.reqs.any (fun r => r.prim == .fcancel && decide (r.core = p.1) && decide (fld (r.op 0) 0 23 = p.2.toNat))
      | none => false), s)
  | 12 => ((match c.cur with
      | some p => s.ldpc.any (fun q => decide (q.core = p.1) && decide (q.ticket = p.2) && q.granted)
      | none => false), s)
  | 13 => (c.busGrant, s)
  | 14 => ((s.chanVerbs ch).any (fun r => decide (r.phase = .dieQueue) && (match s.selDie ch with
      | some d => decide (r.dieNo = d)
      | none => true)), s)
  | _ => (c.xfer, s)

/-- The kind of the current verb (R313). -/
def State.verbKind (s : State) (ch : Nat) : Nat :=
  if s.chReset ch then 7 else
  match s.curVerb ch with
  | some r =>
    if s.isSuspended r then 6
    else match r.prim with
      | .fread => 0
      | .fraw => 1
      | .fprog => 2
      | .ferase => 3
      | .fstat => 4
      | _ => 5
  | none => 7

/-- The four conditions of a word, as c0 + 2 c1 + 4 c2 + 8 c3. -/
def State.conds (s : State) (ch : Nat) (x : W64) : Nat × State :=
  let (c0, s) := s.cond ch (fld x 15 4)
  let (c1, s) := s.cond ch (fld x 19 4)
  let (c2, s) := s.cond ch (fld x 23 4)
  let (c3, s) := s.cond ch (fld x 27 4)
  (b2n c0 + 2 * b2n c1 + 4 * b2n c2 + 8 * b2n c3, s)

/-- The director goes to its next address, or takes a machine check (R313). -/
def State.dirGo (s : State) (ch a : Nat) : State :=
  if 0x10FF < a ∨ 0x1000 + s.dirPatchWords ch ≤ a then s.machineCheck ch 4
  else s.setChan ch { s.chan ch with pc := a, began := false }

/-- Form the next address of a word whose first cycle has run. -/
def State.dirNext (s : State) (ch : Nat) (x : W64) : State :=
  let c := s.chan ch
  let next := fld x 0 13
  if fld x 40 2 = 2 ∧ !c.seqDone then s else
  match fld x 13 2 with
  | 0 => s.dirGo ch next
  | 1 =>
    let (k, s) := s.conds ch x
    s.dirGo ch (Nat.lor next k)
  | 2 => s.dirGo ch (Nat.lor next (s.verbKind ch * 16))
  | _ =>
    let (k, s) := s.conds ch x
    if k = 0 then s else s.dirGo ch next

/-- SEQOP of a word, on its first cycle (R312, R318). -/
def State.seqOp (s : State) (ch : Nat) (x : W64) : State :=
  let c := s.chan ch
  match fld x 40 2 with
  | 0 => s
  | 3 => s.setChan ch { c with seqRun := false }
  | _ => s.setChan ch { c with seqPc := fld x 32 8 * 4, seqStack := [], seqRun := true, seqDone := false }

/-- One director word with action `act`, whose effect is `f` with the word's argument (R312, R313,
R320, R321). -/
def State.dirStep (s : State) (ch : Nat) (w : W64) (act : Nat) (f : State → Nat → State) : Res :=
  .next (
    let x := s.dirWord ch w
    if !s.chRuns ch then s
    else if !evenParity x 0 || !evenParity x 32 then s.machineCheck ch 1
    else if fld x 54 9 ≠ 0 ∨ 13 ≤ fld x 42 4 then s.machineCheck ch 4
    else if fld x 42 4 ≠ act then s
    else if (s.chan ch).began then s.dirNext ch x
    else
      let s := f s (fld x 46 8)
      if !s.chRuns ch then s else
      let s := s.seqOp ch x
      (s.setChan ch { s.chan ch with began := true }).dirNext ch x)

/-- A suspended operation of a channel whose reads have been served (R308). -/
def State.toResume (s : State) (ch : Nat) : Option (CoreId × Ticket) :=
  (List.range 64).findSome? (fun d => match (s.die ch d).op with
    | some o => if o.suspended && (s.dieReads ch d).isEmpty then some (o.core, o.ticket) else none
    | none => none)

/-- Take the verb that the scheduler chose: a queued one, or else a suspended operation to resume, of kind 6 (R313, R315). -/
def State.dirTake (s : State) (ch : Nat) : State :=
  if s.chReset ch then s else
  match s.chanChoice ch with
  | some r =>
    let s := s.startVerb false r
    match s.findReq r.core r.ticket with
    | some q => if q.phase = .started then s.setChan ch { s.chan ch with cur := some (r.core, r.ticket), idx := 0 } else s
    | none => s
  | none =>
    match s.toResume ch with
    | some p => s.setChan ch { s.chan ch with cur := some p }
    | none => s

/-- Complete the current verb with the outcome register (R315). -/
def State.dirComplete (s : State) (ch : Nat) : State :=
  match s.curVerb ch with
  | none => s
  | some r =>
    let oc := (s.chan ch).outcome
    let a := s.acc r
    if s.isSuspended r then s else
    match r.prim with
    | .fread | .fraw => s.verbDone r oc (s.readWords r a)
    | .fprog | .ferase =>
      let (ns, s) := s.takeFree
      let ws := [(s.die ch r.dieNo).status.setWidth 64, ns, w64 (s.suspendsOf r)]
      if oc ≠ ocDone then (s.spoilOp r).verbDone r oc ws
      else if r.prim = .ferase then
        ((maskPlanes r.planeMask).foldl (fun s pl => s.resetBlock (blkKey ch r.dieNo pl (locBlock r.loc)) true) s).verbDone r oc ws
      else
        let s := s.progFramesTo r.progMode (s.progKeys r) a.inputs
        ((s.spoil ((s.progKeys r).drop a.inputs.length)).clearIntent r).verbDone r oc ws
    | .fstat =>
      s.verbDone r oc [(s.die ch r.dieNo).status.setWidth 64, w64 (s.dieStateCode ch r.dieNo), w64 (s.usedNow ch r.dieNo),
        w64 (s.queuedLevels ch r.dieNo)]
    | _ =>
      let (f, s) := s.takeFree
      s.featureDone r oc (BitVec.ofNat 32 (fld f 0 32))

/-- Change the operation of the selected die. -/
def State.updOp (s : State) (ch : Nat) (f : DieOp → DieOp) : State :=
  match s.selDie ch with
  | some d => s.setDie ch d { s.die ch d with op := (s.die ch d).op.map f }
  | none => s

def execDirNoAction (ch : Nat) (w : W64) (s : State) : Res := s.dirStep ch w 0 (fun s _ => s)
def execDirTakeVerb (ch : Nat) (w : W64) (s : State) : Res := s.dirStep ch w 1 (fun s _ => s.dirTake ch)
def execDirCompleteVerb (ch : Nat) (w : W64) (s : State) : Res := s.dirStep ch w 2 (fun s _ => s.dirComplete ch)
def execDirSetOutcome (ch : Nat) (w : W64) (s : State) : Res :=
  s.dirStep ch w 3 (fun s a => s.setChan ch { s.chan ch with outcome := BitVec.ofNat 8 a })
/-- Timer := 2 × TRMAX, TPROGMAX or TBERSMAX for ARG 0, 1 or 2; what another ARG sets is not given (DESIGN CHOICE, log entry
132). -/
def execDirStartTimer (ch : Nat) (w : W64) (s : State) : Res :=
  s.dirStep ch w 4 (fun s a =>
    let (n, s) : Nat × State := match a with
      | 0 => (2 * s.rfld (chReg ch 0x110) 0 32, s)
      | 1 => (2 * s.rfld (chReg ch 0x110) 32 32, s)
      | 2 => (2 * s.rfld (chReg ch 0x118) 0 32, s)
      | _ =>
        let r := s.takeFree
        (r.1.toNat, r.2)
    s.setChan ch { s.chan ch with timer := some (n, s.tick), expired := false })
def execDirCountSuspend (ch : Nat) (w : W64) (s : State) : Res :=
  s.dirStep ch w 5 (fun s _ => s.updOp ch (fun o => { o with suspends := o.suspends + 1 }))
def execDirRecordResume (ch : Nat) (w : W64) (s : State) : Res :=
  s.dirStep ch w 6 (fun s _ => s.updOp ch (fun o => { o with resumed := s.tick }))
def execDirRequestLdpcSlot (ch : Nat) (w : W64) (s : State) : Res :=
  s.dirStep ch w 7 (fun s _ => match s.curVerb ch with
    | some r => if r.prim.isRead then s.ldpcAsk r else s
    | none => s)
def execDirSetDurableMarks (ch : Nat) (w : W64) (s : State) : Res :=
  s.dirStep ch w 8 (fun s _ => match s.curVerb ch with
    | some r => if r.prim = .fprog then s.markProgram r else s
    | none => s)
def execDirSelectDie (ch : Nat) (w : W64) (s : State) : Res :=
  s.dirStep ch w 9 (fun s _ => s.setChan ch { s.chan ch with sel := (s.curVerb ch).map Req.dieNo })
def execDirSetCounter (ch : Nat) (w : W64) (s : State) : Res :=
  s.dirStep ch w 10 (fun s a => s.setChan ch { s.chan ch with counter := a })
/-- Counter - 1; what a counter of 0 becomes is not given (DESIGN CHOICE, log entry 22). -/
def execDirDecrementCounter (ch : Nat) (w : W64) (s : State) : Res :=
  s.dirStep ch w 11 (fun s _ =>
    if (s.chan ch).counter = 0 then
      let (f, s) := s.takeFree
      s.setChan ch { s.chan ch with counter := fld f 0 8 }
    else s.setChan ch { s.chan ch with counter := (s.chan ch).counter - 1 })
def execDirAdvance (ch : Nat) (w : W64) (s : State) : Res :=
  s.dirStep ch w 12 (fun s _ => s.setChan ch { s.chan ch with idx := (s.chan ch).idx + 1 })

/-! ## The sequencer -/

/-- The sequencer goes to an address of its store, or takes a machine check (R317). -/
def State.seqGo (s : State) (ch a : Nat) : State :=
  if 0x47F < a ∨ 0x400 + s.seqPatchWords ch ≤ a then s.seqCheck ch 4
  else s.setChan ch { s.chan ch with seqPc := a }

/-- What a word does: an effect, and the next address unless the effect stops the sequencer. -/
abbrev SeqEff := State → W64 → State × Option Nat

/-- One sequencer word with operation `op` (R316 to R321). -/
def State.seqStep (s : State) (ch : Nat) (w : BitVec 32) (op : Nat) (f : SeqEff) : Res :=
  .next (
    let x := s.seqWord ch w
    if !s.chRuns ch || !(s.chan ch).seqRun then s
    else if !evenParity x 0 then s.seqCheck ch 2
    else if fld x 21 10 ≠ 0 ∨ 0xB ≤ fld x 0 4 then s.seqCheck ch 4
    else if fld x 0 4 ≠ op then s
    else
      match f (s.setChan ch { s.chan ch with xfer := false }) x with
      | (s, none) => s
      | (s, some a) =>
        if !s.chRuns ch then s
        else if bit x 20 then s.setChan ch { s.chan ch with seqRun := false, seqDone := true, busGrant := false }
        else s.seqGo ch a)

/-- A word that continues at the next address. -/
def seqPlain (ch : Nat) (g : State → W64 → State) : SeqEff :=
  fun s x => (g s x, some (s.seqAt ch + 1))

/-- Argument of a sequencer word. -/
def seqArg (x : W64) : Nat := fld x 4 11

/-- A byte of the verb's 5-byte address: the column of its current frame, then the row (R203, R291, R317); without a verb,
and for bytes 5 to 7, a free byte (DESIGN CHOICE, log entry 23). -/
def State.addrByte (s : State) (ch i : Nat) : Byte × State :=
  match (s.curVerb ch).filter (fun _ => decide (i < 5)) with
  | some r =>
    let col := if r.prim.isRead then column s.fam (locHalf r.loc) (4608 * (locFrame r.loc + (s.chan ch).idx)) else 0
    ((toBytes 2 col ++ rowBytes r.loc).getD i 0, s)
  | none =>
    let (f, s) := s.takeFree
    (BitVec.ofNat 8 (fld f 0 8), s)

def execSeqIdle (ch : Nat) (w : BitVec 32) (s : State) : Res := s.seqStep ch w 0 (seqPlain ch (fun s _ => s))
/-- What a command byte does to the operation of the selected die: the family's suspend and resume commands (R304, R308). -/
def State.tookCommand (s : State) (ch b : Nat) : State :=
  s.updOp ch (fun o =>
    if !o.suspended && decide (b = s.rfld (chReg ch 0x100) (if o.erase then 16 else 0) 8) then { o with suspending := true }
    else if o.suspended && decide (b = s.rfld (chReg ch 0x100) (if o.erase then 24 else 8) 8) then { o with suspended := false }
    else o)
def execSeqCommandCycle (ch : Nat) (w : BitVec 32) (s : State) : Res :=
  s.seqStep ch w 1 (seqPlain ch (fun s x => (s.bus [Out.nandCmd ch (BitVec.ofNat 8 (seqArg x))]).tookCommand ch (seqArg x % 256)))
def execSeqAddressCycle (ch : Nat) (w : BitVec 32) (s : State) : Res :=
  s.seqStep ch w 2 (seqPlain ch (fun s x =>
    let (b, s) := if 1024 ≤ seqArg x then s.addrByte ch (seqArg x % 8) else (BitVec.ofNat 8 (seqArg x), s)
    (s.putOut (s.out ++ [Out.nandAddr ch b]))))
/-- One frame from the verb's current slot enters the die; its tag is kept with the verb (R124,
R317). -/
def execSeqDataInput (ch : Nat) (w : BitVec 32) (s : State) : Res :=
  s.seqStep ch w 3 (fun s _ =>
    let nxt := some (s.seqAt ch + 1)
    match s.curVerb ch with
    | some r =>
      let a := s.acc r
      let l := r.slotLoc (s.chan ch).idx
      if r.prim = .fprog ∧ (s.chan ch).idx < s.progFrames r ∧ a.inputs.length = (s.chan ch).idx then
        let s := s.touch (l, 4128)
        if (s.findReq r.core r.ticket).isSome then
          let b := s.readLoc l 4128
          let k := (s.progKeys r).getD (s.chan ch).idx 0
          let s := (s.setAcc r { a with inputs := a.inputs ++ [b] }).bus [Out.nandIn ch (codeWord (scramble (scrSeed k) b))]
          (s.setChan ch { s.chan ch with xfer := true }, nxt)
        else (s, none)
      else (s, nxt)
    | none => (s, nxt))
/-- One frame from the die to the granted slot; its outcome joins the outcome register (R317, R327;
DEDUCED, log entry 24). -/
def execSeqDataOutput (ch : Nat) (w : BitVec 32) (fr : FrameSense) (s : State) : Res :=
  s.seqStep ch w 4 (seqPlain ch (fun s _ =>
    match s.curVerb ch with
    | some r =>
      let a := s.acc r
      if r.prim.isRead ∧ (s.cond ch 12).1 ∧ a.frames < r.readFrames then
        let (a, s) := (s.bus [Out.nandOut ch 4608]).takeFrame r a fr
        let s := (s.setAcc r a).drift ch (locCe r.loc)
        s.setChan ch { s.chan ch with outcome := maxOc (s.chan ch).outcome a.oc, xfer := true, busGrant := false }
      else s
    | none => s))
/-- A status byte sets conditions 2, 3 and 7 (R317). -/
def execSeqStatusRead (ch : Nat) (w : BitVec 32) (st : BitVec 8) (s : State) : Res :=
  s.seqStep ch w 5 (seqPlain ch (fun s _ =>
    match s.selDie ch with
    | some d =>
      let s := (s.bus [Out.nandOut ch 1]).takeStatus ch d st
      match s.curVerb ch with
      | some r => if bit st 6 ∧ r.dieNo = d then s.setAcc r { s.acc r with ready := true } else s
      | none => s
    | none => s.setChan ch { s.chan ch with ready := bit st 6, failBit := bit st 0, susp := false }))
def execSeqCall (ch : Nat) (w : BitVec 32) (s : State) : Res :=
  s.seqStep ch w 6 (fun s x =>
    let c := s.chan ch
    if 4 ≤ c.seqStack.length then (s.seqCheck ch 3, none)
    else (s.setChan ch { c with seqStack := (s.seqAt ch + 1) :: c.seqStack }, some (seqArg x)))
def execSeqReturn (ch : Nat) (w : BitVec 32) (s : State) : Res :=
  s.seqStep ch w 7 (fun s _ =>
    let c := s.chan ch
    match c.seqStack with
    | [] => (s.seqCheck ch 3, none)
    | a :: r => (s.setChan ch { c with seqStack := r }, some a))
def execSeqJump (ch : Nat) (w : BitVec 32) (s : State) : Res :=
  s.seqStep ch w 8 (fun s x => (s, some (seqArg x)))
def execSeqChipEnable (ch : Nat) (w : BitVec 32) (s : State) : Res :=
  s.seqStep ch w 9 (seqPlain ch (fun s x =>
    let c := s.chan ch
    let n := seqArg x % 8
    s.setChan ch { c with ce := if seqArg x / 8 % 2 = 1 then (if n ∈ c.ce then c.ce else c.ce ++ [n]) else c.ce.filter (· ≠ n) }))
/-- The wait ends with the bus grant, which lasts to the next boundary: the end of a frame's output or of the routine (R297,
R317).  A channel has one sequencer, so it alone asks. -/
def execSeqWaitBusGrant (ch : Nat) (w : BitVec 32) (s : State) : Res :=
  s.seqStep ch w 10 (seqPlain ch (fun s _ => s.setChan ch { s.chan ch with busGrant := true }))

end Sys2Proof.Machine
end

