-- ==== Sys2Proof/Machine/Almanac.lean ====
section
/-! DEFINITION. The almanac, the operating time and the health counter copy (R140, R360, R474,
R537 to R544). -/

namespace Sys2Proof.Machine

/-- Records the almanac region holds (R470). -/
def almSlots : Nat := 1048576

/-- Ingot offsets of the almanac region, of its three words and of the health counter copies (R470,
R474, R539). -/
def almOff (n : Nat) : Nat := 0xA000000 + 64 * (n % almSlots)
def anchorOff : Nat := 0xE100010
def pcycOff : Nat := 0xE100018
def optimeOff : Nat := 0xE100020
def healthOff (copy : Nat) : Nat := 0xE101000 + 4096 * copy

/-- Bytes 0 to 55 of a record with ordinal `n` (R537). -/
def AlmRec.body (r : AlmRec) (pcyc n : Nat) : List Byte :=
  toBytes 2 r.code.toNat ++ toBytes 1 (r.sev.toNat + r.src.toNat * 16) ++ toBytes 1 0 ++ toBytes 4 pcyc ++
  toBytes 6 r.optime ++ toBytes 2 n ++ ((r.params ++ List.replicate 5 (0 : W64)).take 5).flatMap (fun (w : W64) => toBytes 8 w.toNat)

/-- A record's 64 bytes. -/
def AlmRec.bytes (r : AlmRec) (pcyc n : Nat) : List Byte :=
  r.body pcyc n ++ toBytes 4 (crc32 0 (r.body pcyc n)) ++ toBytes 4 0x4C415849

/-- The anchor word (R539). -/
def anchorWord (oldest held : Nat) : Nat := oldest % 2 ^ 32 + held % 2 ^ 21 * 2 ^ 32

/-- Whether the ingot store takes ordinary writes: recovered and not in the power-fail state (R476,
R477). -/
def State.ingotOpen (s : State) : Bool := bit (s.reg (sta 9 0)) 0 && !bit (s.reg (sta 9 0)) 2

/-- A dome's wake starts (R513). -/
def State.startWake (s : State) (d : Nat) (votes : List (CoreId × Ticket)) : State :=
  (s.setRfld (sta 0xE (8 * d)) 2 1 1).putDomeWake (FMap.set (fun _ => none) s.domeWake d (some votes))

/-- Whether a dome's entry or wake is in progress. -/
def State.domeBusy (s : State) (d : Nat) : Bool := bit (s.reg (sta 0xE (8 * d))) 2

/-- A record leaves the queue unwritten because the log is full (R541). -/
def State.almDrop (s : State) (r : AlmRec) (q : List AlmRec) : State :=
  let s := s.putAlm { s.alm with queue := q, lost := satAdd 32 s.alm.lost 1 }
  match r.req.bind (fun p => s.findReq p.1 p.2) with
  | some x => s.fail x ocAlmFull
  | none => s

/-- The record is written: slot, mark, then anchor (R539). -/
def State.almStore (s : State) (r : AlmRec) (q : List AlmRec) : State :=
  let a := s.alm
  let m := wrBytes s.ingot (almOff a.next) (r.bytes a.pcyc a.next)
  let m := wrNum m anchorOff 8 (anchorWord a.oldest (a.held + 1))
  (s.putIngot m).putAlm { a with
      queue := q, held := a.held + 1, next := (a.next + 1) % 2 ^ 32,
      done := match r.req with
        | some p => a.done ++ [(p.1, p.2, a.next)]
        | none => a.done }

/-- The log has become full: an asynchronous event of vendor specific type for page 0xC1, whose information no rule
gives (R541, DESIGN CHOICE, log entry 123). -/
def State.almFull (s : State) : State :=
  if s.alm.held = almSlots then
    let (f, s) := s.takeFree
    s.asyncAll { typ := 7, info := fld f 0 8, lid := 0xC1 }
  else s

/-- ALMANAC_WRITE: the oldest queued record is written, or dropped when the log is full; while the
ingot store's dome is off the almanac wakes it, and gives it back once the queue is empty (R539,
R541, R543). -/
def execAlmanacWrite (s : State) : Res :=
  .next (match s.alm.queue with
    | [] => s
    | r :: q =>
      if !s.domeOn 28 then
        if s.domeBusy 28 then s else (s.startWake 28 []).putAlm { s.alm with woke := true }
      else if !s.ingotOpen || !s.alm.rdy then s
      else
        let woke := s.alm.woke
        let s := if almSlots ≤ s.alm.held then s.almDrop r q else (s.almStore r q).almFull
        if q.isEmpty ∧ woke then
          (s.setRfld (sta 0xE (8 * 28)) 0 2 2).putAlm { s.alm with woke := false }
        else s)

/-- ALMANAC_RECORD_DONE: the valid mark of an arec record is durable (R140). -/
def execAlmanacRecordDone (c : CoreId) (t : Ticket) (s : State) : Res :=
  onReq s c t (· = .arec) (fun r =>
    match s.alm.done.find? (fun p => decide (p.1 = c) && decide (p.2.1 = t)) with
    | some p =>
      (s.putAlm { s.alm with done := s.alm.done.filter (fun q => !(decide (q.1 = c) && decide (q.2.1 = t))) } : State).complete
        r ocDone [w64 p.2.2]
    | none => s)

/-- The almanac takes an arec request: a code below 0x2000 is out of range, a full log refuses it,
and with 16 records queued it waits (R140, R538, R541, R543). -/
def State.arecTake (s : State) (r : Req) : State :=
  let code := fld (r.op 0) 0 16
  if code < 0x2000 then s.fail r ocRange
  else if almSlots ≤ s.alm.held then
    (s.putAlm { s.alm with lost := satAdd 32 s.alm.lost 1 } : State).fail r ocAlmFull
  else if 16 ≤ s.alm.queue.length then s
  else
    let x : AlmRec := { code := BitVec.ofNat 16 code, sev := BitVec.ofNat 3 (fld (r.op 0) 16 3), src := 3,
                        params := [r.op 1, r.op 2, r.op 3, r.op 4, r.op 5], optime := 0, req := some (r.core, r.ticket) }
    (s.setReq { r with phase := .started }).almQueue x

/-- OPERATING_TIME_UPDATE: every 2^-16 hour (R539). -/
def execOperatingTimeUpdate (s : State) : Res :=
  .next (if s.alm.rdy then
      let t := (s.alm.optime + 1) % 2 ^ 48
      let s := s.putAlm { s.alm with optime := t }
      if s.ingotOpen && s.domeOn 28 then s.putIngot (wrNum s.ingot optimeOff 8 t) else s
    else s)

/-- Copy sequence of a health counter copy, when its CRC-32 passes: 256 counters, the sequence and
the CRC over both (R474, PRESUMED, log entry 25). -/
def State.healthSeq (s : State) (copy : Nat) : Option Nat :=
  let a := healthOff copy
  if crc32 0 (rdBytes s.ingot a 2056) = rdNum s.ingot (a + 2056) 4 ∧ rdNum s.ingot (a + 2048) 8 ≠ 0 then
    some (rdNum s.ingot (a + 2048) 8)
  else none

/-- The health counters go to the older copy (R360, R474). -/
def State.copyHealth (s : State) : State :=
  let a := (s.healthSeq 0).getD 0
  let b := (s.healthSeq 1).getD 0
  let copy := if a ≤ b then 0 else 1
  let bs := ((List.range 256).flatMap (fun i => toBytes 8 (FMap.get (fun _ => (0 : W64)) s.health i).toNat)) ++
    toBytes 8 (max a b + 1)
  s.putIngot (wrBytes s.ingot (healthOff copy) (bs ++ toBytes 4 (crc32 0 bs)))

/-- HEALTH_COUNTER_COPY: every 65,536 tk, and in the power-fail state (R360, R477). -/
def execHealthCounterCopy (s : State) : Res :=
  .next (if bit (s.reg (sta 9 0)) 0 && s.domeOn 28 then s.copyHealth else s)

/-- An almanac record of the resident set, whose code and severity no rule gives (R254, R436, R467, R538, DESIGN CHOICE, log entry 76). -/
def State.residentRecord (s : State) (params : List W64) : State :=
  let (f, s) := s.takeFree
  s.almQueue { code := BitVec.ofNat 16 (0x2000 + f.toNat % 0x6000), sev := BitVec.ofNat 3 (fld f 16 3), src := 3, params := params, optime := 0, req := none }

end Sys2Proof.Machine
end

