-- ==== Sys2Proof/Machine/Parity.lean ====
section
/-! DEFINITION. The parity engine (R136). -/

namespace Sys2Proof.Machine

/-- Length of a parity request. -/
def Req.parLen (r : Req) : Nat := (r.op 2).toNat

/-- The outcome with which the parity engine turns a request away, if any (R86, R136, R151). -/
def State.parityRefuse (s : State) (r : Req) : Option Byte :=
  let n := r.parLen
  if r.loaderBad ∨ n < 64 ∨ 262144 < n ∨ n % 64 ≠ 0 ∨ (s.moverLoc (r.op 0) n).isNone ∨
    (s.moverLoc (r.op 1) n).isNone then some ocRange else none

/-- A product in GF(2^8) with the polynomial 0x11D. -/
def parMul (c : Nat) (b : Byte) : Byte := BitVec.ofNat 8 (gfMul 0x11D c b.toNat)

/-- PARITY_DONE: pxor or pmac (R136). -/
def execParityDone (c : CoreId) (t : Ticket) (s : State) : Res :=
  onReq s c t (fun p => p = .pxor ∨ p = .pmac) (fun r =>
    let n := r.parLen
    match s.moverLoc (r.op 0) n, s.moverLoc (r.op 1) n with
    | some dst, some src =>
      let clear := bit r.imm 0
      s.withRead r (if clear then [(src, n)] else [(dst, n), (src, n)]) (fun s =>
        let k := if r.prim = .pmac then fld (r.op 3) 0 8 else 1
        let old := if clear then List.replicate n 0 else s.readLoc dst n
        let hitS := s.poisonIn src n
        let hitD := if clear then [] else s.poisonIn dst n
        let s' := (s.writeLoc dst (List.zipWith (fun a b => a ^^^ parMul k b) old (s.readLoc src n)))
        let s' := (s'.carryPoison hitS src dst).carryPoison hitD dst dst
        s'.fail r (if hitS.isEmpty && hitD.isEmpty then ocDone else ocPoison))
    | _, _ => s)

/-- Offset of the first byte in which two lists differ. -/
def firstDiff : List Byte → List Byte → Option Nat
  | a :: as, b :: bs => if a = b then (firstDiff as bs).map (· + 1) else some 0
  | _, _ => none

/-- PARITY_CHECK_DONE: pcheck (R136, R445). -/
def execParityCheckDone (c : CoreId) (t : Ticket) (s : State) : Res :=
  onReq s c t (· = .pcheck) (fun r =>
    let n := r.parLen
    match s.moverLoc (r.op 0) n, s.moverLoc (r.op 1) n with
    | some x, some y =>
      s.withRead r [(x, n), (y, n)] (fun s =>
        if s.poisoned x n || s.poisoned y n then s.fail r ocPoison else
        match firstDiff (s.readLoc x n) (s.readLoc y n) with
        | some o => s.complete r 0x31 [w64 o]
        | none => s.fail r ocDone)
    | _, _ => s)

end Sys2Proof.Machine
end

