-- ==== Sys2Proof/Machine/Selector.lean ====
section
/-! DEFINITION. Records of the pattern store: the selector and the erase-intent log (R546, R555, R556, R559 to R561), and
the places of the image banks (R167). -/

namespace Sys2Proof.Machine

/-- Bytes of the pattern store die. -/
def rdNor (s : State) (a n : Nat) : List Byte := FMap.getList norByte s.nor a n

/-- Bytes programmed into erased cells. -/
def State.norWrite (s : State) (a : Nat) (bs : List Byte) : State := s.putNor (FMap.setList norByte s.nor a bs)

/-- Offset and size of image bank 0 (A) or 1 (B). -/
def bankOff (b : Nat) : Nat := if b = 0 then 0x1000000 else 0x4000000
def bankSize : Nat := 0x3000000

/-- Bytes of a sector are erased. -/
def State.norErase (s : State) (a : Nat) : State :=
  let sec := a / 0x40000
  (s.putNor (s.nor.filter (fun p => p.1 / 0x40000 ≠ sec))).putNorUnk (s.norUnk.filter (fun p => p.1 / 512 ≠ sec))

/-! ## Records -/

/-- Whether a 64-byte record with a magic number is valid (R555, R559). -/
def recValid (magic : Nat) (r : List Byte) : Bool :=
  decide (ofBytes (r.take 4) = magic) && decide (crc32 0 (r.take 60) = ofBytes (r.drop 60))

/-- Sequence number of a record. -/
def selSeq (r : List Byte) : Nat := ofBytes ((r.drop 4).take 4)

/-- A record with its CRC. -/
def mkRec (magic seq : Nat) (body : List Byte) : List Byte :=
  let r := (toBytes 4 magic ++ toBytes 4 seq ++ body ++ List.replicate 52 0).take 60
  r ++ toBytes 4 (crc32 0 r)

/-- The valid record with the highest sequence number among `n` records from address `a`, after `best`: its address and
bytes (DESIGN CHOICE, log entry 150). -/
def newestRec (s : State) (magic : Nat) : Nat → Nat → Option (Nat × List Byte) → Option (Nat × List Byte)
  | 0, _, best => best
  | n + 1, a, best =>
    let r := rdNor s a 64
    let better := recValid magic r && (match best with
      | some b => decide (selSeq b.2 < selSeq r)
      | none => true)
    newestRec s magic n (a + 64) (if better then some (a, r) else best)

/-- The first erased record slot at or after slot `k` of a sector, of `n` slots left. -/
def freeSlot (s : State) (base : Nat) : Nat → Nat → Nat
  | 0, k => k
  | n + 1, k => if (rdNor s (base + 64 * k) 64).all (· = 0xFF) then k else freeSlot s base n (k + 1)

/-! ## The erase-intent log -/

def intentMagic : Nat := 0x49505849

/-- The newest record of the log. -/
def State.intentRec (s : State) : Option (Nat × List Byte) := newestRec s intentMagic 8192 0x7000000 none

/-- Program an intent (1) or done (2) record. -/
def State.intentWrite (s : State) (a seq kind sec : Nat) : State :=
  s.norWrite a (mkRec intentMagic seq (toBytes 1 kind ++ [0] ++ toBytes 2 sec))

/-- The log sector, the slot and the sequence number that the next record takes; a sector with room for one record more
is full, and the writer moves to the other sector under an intent first (R560). -/
def State.intentPlace (s : State) : State × Nat × Nat × Nat :=
  let (a, seq) := match s.intentRec with
    | some (a, r) => (a, selSeq r)
    | none => (0x7000000, 0)
  let base := a / 0x40000 * 0x40000
  let k := freeSlot s base 4096 0
  if k + 1 < 4096 then (s, base, k, seq + 1)
  else
    let other := if base = 0x7000000 then 0x7040000 else 0x7000000
    let s := if k < 4096 then s.intentWrite (base + 64 * k) (seq + 1) 1 (other / 0x40000) else s
    let s := (s.norErase other).intentWrite other (seq + 2) 2 (other / 0x40000)
    (s, other, 1, seq + 3)

/-- Erase the sector of an address under an intent (R560). -/
def State.eraseUnder (s : State) (a : Nat) : State :=
  let (s, base, k, seq) := s.intentPlace
  let s := s.intentWrite (base + 64 * k) seq 1 (a / 0x40000)
  (s.norErase a).intentWrite (base + 64 * (k + 1)) (seq + 1) 2 (a / 0x40000)

/-- Erase-intent recovery at a start (R561): an intent without its done record has its sector erased again. -/
def State.recoverIntent (s : State) : State :=
  match s.intentRec with
  | some (_, r) =>
    if ofBytes ((r.drop 8).take 1) = 1 then
      let sec := ofBytes ((r.drop 10).take 2)
      let (s, base, k, seq) := (s.norErase (sec * 0x40000)).intentPlace
      s.intentWrite (base + 64 * k) seq 2 sec
    else s
  | none => s

/-! ## Twin copies -/

/-- A record of a twin pair: sequence number, length, contents and CRC-32 (R547, PRESUMED, log entry 114). -/
def twinRec (seq : Nat) (bs : List Byte) : List Byte :=
  let r := toBytes 4 seq ++ toBytes 4 bs.length ++ bs
  r ++ toBytes 4 (crc32 0 r)

/-- The valid record of the copy at an address: its sequence number and contents. -/
def State.twinAt (s : State) (a : Nat) : Option (Nat × List Byte) :=
  let n := ofBytes (rdNor s (a + 4) 4)
  if n ≤ 500 ∧ FMap.get (fun _ => false) s.norUnk (a / 512) = false ∧
      crc32 0 (rdNor s a (8 + n)) = ofBytes (rdNor s (a + 8 + n) 4) then
    some (ofBytes (rdNor s a 4), rdNor s (a + 8) n)
  else none

/-- The reader takes the copy whose CRC passes and whose sequence number is higher (R547). -/
def State.twinRead (s : State) (base : Nat) : Option (List Byte) :=
  match s.twinAt base, s.twinAt (base + 0x40000) with
  | some x, some y => some (if y.1 ≤ x.1 then x.2 else y.2)
  | some x, none => some x.2
  | none, some y => some y.2
  | none, none => none

/-- The copy that does not hold the newer record, and the sequence number of the next. -/
def State.twinPlace (s : State) (base : Nat) : Nat × Nat :=
  match s.twinAt base, s.twinAt (base + 0x40000) with
  | some x, some y => if y.1 ≤ x.1 then (base + 0x40000, x.1 + 1) else (base, y.1 + 1)
  | some x, none => (base + 0x40000, x.1 + 1)
  | none, some y => (base, y.1 + 1)
  | none, none => (base, 1)

/-- A twin pair is written: the copy that does not hold the newer record is erased under intent and takes the new one (R547). -/
def State.twinWrite (s : State) (base : Nat) (bs : List Byte) : State :=
  let (a, seq) := s.twinPlace base
  (s.eraseUnder a).norWrite a (twinRec seq bs)

/-! ## The selector -/

def selMagic : Nat := 0x4C535849

/-- The record in force (R555). -/
def State.selRec (s : State) : Option (Nat × List Byte) := newestRec s selMagic 8192 0x800000 none

/-- The boot block and the image bank that the selector names. -/
def State.selectedBoot (s : State) : Nat := match s.selRec with
  | some (_, r) => (r.getD 8 0).toNat
  | none => 0
def State.selectedBank (s : State) : Nat := match s.selRec with
  | some (_, r) => (r.getD 9 0).toNat % 2
  | none => 0

/-- Change the selector to name a boot block and an image bank (R556). -/
def State.selectBoth (s : State) (boot b : Nat) : State :=
  let (a, seq) := match s.selRec with
    | some (a, r) => (a, selSeq r)
    | none => (0x800000, 0)
  let rec_ := mkRec selMagic (seq + 1) (toBytes 1 boot ++ toBytes 1 b)
  let base := a / 0x40000 * 0x40000
  let k := freeSlot s base 4096 0
  if k < 4096 then s.norWrite (base + 64 * k) rec_
  else
    let other := if base = 0x800000 then 0x840000 else 0x800000
    (s.eraseUnder other).norWrite other rec_

/-- Change the selector to name an image bank. -/
def State.selectBank (s : State) (b : Nat) : State := s.selectBoth s.selectedBoot b

/-! ## Firmware -/

/-- Minimum security version of a key slot (R159). -/
def State.svnOf (s : State) (k : Nat) : Nat := FMap.get (fun _ => 0) s.trust.svnMin k
def State.setSvn (s : State) (k v : Nat) : State :=
  (s.setReg (sta 0x13 (0x200 + 8 * k)) (w64 v)).putTrust { s.trust with svnMin := FMap.set (fun _ => 0) s.trust.svnMin k v }

/-- An image first runs after a commit of its bank: its key slot's minimum rises to its SVN (R159). -/
def State.firstRun (s : State) (m : RunImage) : State :=
  let s := (s.putImageId (w64 (ofBytes m.version))).putFw { s.fw with run := some m, swapped := false }
  if s.fw.fresh.contains m.bank then
    let s := s.putFw { s.fw with fresh := s.fw.fresh.filter (· ≠ m.bank) }
    if s.svnOf m.keySlot < m.svn then s.setSvn m.keySlot m.svn else s
  else s

/-- Another image waits for a controller reset: a commit has swapped the selector and no handover has followed (R169,
R178, R180). -/
def State.bankWaits (s : State) : Bool :=
  s.fw.swapped && (match s.fw.run with
    | some r => decide (r.bank ≠ s.selectedBank)
    | none => true)

/-- A controller reset discards the function's staging (R168). -/
def State.dropStage (s : State) (f : Nat) : State :=
  match s.fw.stage with
  | some (g, _) => if g = f then s.putFw { s.fw with stage := none, pieces := [] } else s
  | none => s

/-- The command of a handover completes, while it is live. -/
def State.settleHandover (s : State) (k : W64) (dw0 : Nat) (st : BitVec 15) : State :=
  match s.cmdOf k with
  | some d => if d.settle = .live then s.respond d (BitVec.ofNat 32 dw0) 0 st else s
  | none => s

/-- A controller reset before the swap takes effect: the swap is not armed, and the commit ends with Firmware Activation
Requires Controller Level Reset where its own controller is not reset (R178). -/
def State.dropHandover (s : State) : State :=
  match s.fw.hand with
  | some h =>
    if h.swapped then s
    else
      let s : State := s.putFw { s.fw with hand := none }
      let s := if h.armed then
          (s.presentCores.filter (fun c => decide (c = 0) || decide (h.image.cores / 2 ^ c.toNat % 2 = 1))).foldl
            (fun (s : State) c => s.setCore c { s.core c with swap := false }) s
        else s
      s.settleHandover h.key 0 stFwCtrlReset
  | none => s

/-- The swap of a handover takes effect at its boundary (R173 to R175): cores that only the old set named stop, and
those that only the new one names run. -/
def State.handoverBoundary (s : State) : State :=
  match s.fw.hand with
  | some h =>
    if h.armed && !h.swapped then
      let old := (s.fw.run.map (·.cores)).getD 0
      let s := s.firstRun h.image
      let s := s.putFw { s.fw with hand := some { h with swapped := true }, markDue := some s.tick }
      s.presentCores.foldl (fun (s : State) c =>
        let k := s.core c
        let inNew := decide (h.image.cores / 2 ^ c.toNat % 2 = 1)
        let inOld := decide (old / 2 ^ c.toNat % 2 = 1)
        if inNew && !k.run then s.setCore c { k with run := true, state := .running, startPending := bit k.nstart 12 }
        else if inOld && !inNew && decide (c ≠ 0) then s.setCore c { k with run := false, state := .stopped, startPending := false }
        else s) s
    else s
  | none => s

end Sys2Proof.Machine
end

