-- ==== Sys2Proof/Machine/Domes.lean ====
section
/-! DEFINITION. Dome votes, quiesce phases, commits and wakes (R143, R512 to R525). -/

namespace Sys2Proof.Machine

/-- Domes of a kind, by number (R512). -/
def isLdpcDome (d : Nat) : Bool := decide (24 ≤ d) && decide (d ≤ 27)
def isChanDome (d : Nat) : Bool := decide (15 ≤ d) && decide (d ≤ 22)
def isClusDome (d : Nat) : Bool := decide (7 ≤ d) && decide (d ≤ 14)
def isSpanDome (d : Nat) : Bool := decide (2 ≤ d) && decide (d ≤ 5)

/-- Whether a dome may be voted to a state (R512, R513). -/
def domeAllows (d st : Nat) : Bool :=
  if d = 0 ∨ isLdpcDome d ∨ 29 ≤ d ∨ 3 ≤ st then false
  else if st = 0 then true
  else if d = 1 ∨ d = 6 then st == 1
  else if isSpanDome d ∨ d = 28 then st == 2
  else if isClusDome d then st == 1 && d != 7
  else true

/-- Levels at which pads are held (R523). -/
inductive PadLevel where
  | high | low | highZ | idle | released | selfRefresh
  deriving DecidableEq, Repr

/-- The pads of a dome and their held levels, in retention or switched off (R523). -/
def heldPads (d : Nat) (off : Bool) : List (String × PadLevel) :=
  if d = 1 then [("host lanes", .idle), ("CLKREQ_n", .released)]
  else if isSpanDome d then [("Span lanes", .idle)]
  else if d = 6 then [("RESET_n", .high), ("CS_n", .selfRefresh), ("CA", .selfRefresh), ("CK", .selfRefresh), ("DQ", .highZ), ("DQS", .highZ)]
  else if isChanDome d then [("CE_n", .high), ("WE_n", .high), ("CLE", .low), ("ALE", .low), ("RE_t", .high), ("RE_c", .low),
    ("DQ", .highZ), ("DQS", .highZ), ("WP_n", if off then .low else .high)]
  else []

/-- Whether a dome has pads to hold (R523). -/
def domePads (d : Nat) : Bool := decide (1 ≤ d ∧ d ≤ 6) || isChanDome d

/-- DOME_CLIENT of a client. -/
def State.domeClient (s : State) (c : Nat) : W64 := s.reg (sta 0xE (0x600 + 8 * c))

/-- A dome event for a client: kind 0 quiesce, 1 resume, 2 dome on (R514). -/
def State.domeEvent (s : State) (d kind num c : Nat) : State :=
  let k := s.domeClient c
  s.postWaiting (BitVec.ofNat 6 (fld k 0 6))
    (mkEvent (fld k 6 6) 1 0x48 0 (d % 64 + kind % 4 * 2 ^ 6 + num % 65536 * 2 ^ 8 + c % 64 * 2 ^ 24))

/-- Dome events for a list of clients. -/
def State.domeEvents (s : State) (d kind num : Nat) (cs : List Nat) : State :=
  cs.foldl (fun s c => s.domeEvent d kind num c) s

/-- The entry in progress of a dome. -/
def State.entryOf (s : State) (d : Nat) : Option DomeEntry := FMap.get (fun _ => none) s.domeEntry d
def State.setEntry (s : State) (d : Nat) (e : Option DomeEntry) : State :=
  s.putDomeEntry (FMap.set (fun _ => none) s.domeEntry d e)

/-- DOME_VOTE after a quiesce phase closes. -/
def State.closeVote (s : State) (d : Nat) : State :=
  if s.rfld (sta 0xE 0x818) 0 6 = d then s.setRfld (sta 0xE 0x818) 28 1 0 else s

/-- An entry ends without a commit: the clients that agreed resume and the vote completes with 0x70
and the refusing party (R513, R515). -/
def State.abortEntry (s : State) (d : Nat) (e : DomeEntry) (party : Nat) (w2 : Nat) : State :=
  let s := ((s.setEntry d none).closeVote d).domeEvents d 1 e.num.toNat e.agreed
  match s.findReq e.core e.ticket with
  | some r => s.complete r 0x70 [w64 party, w64 (s.domeState d), w64 w2]
  | none => s

/-- Whether an operand of a request in an engine names DRAM or the ingot store. -/
def State.usesSpace (s : State) (space : Nat) : Bool :=
  s.reqs.any (fun r => decide (r.phase ≠ .waiting) && (r.touches space || decide (r.unit = 0x42) ||
    (decide (space = 4) && (decide (r.unit = 0x45) || decide (r.prim = .ferase)))))

/-- The entry condition of a dome (R512). -/
def State.entryOk (s : State) (d : Nat) : Bool :=
  if d = 1 then (List.range s.hostPorts).all (fun n =>
    let st := s.rfld (sta 0x14 (0x100 + 0x40 * n)) 10 4
    decide (st = 5) || decide (st = 7))
  else if isSpanDome d then
    (let st := s.rfld (sta 0xD (0x100 + 0x40 * (d - 2))) 0 3
     decide (st = 0) || decide (st = 5))
  else if d = 6 then !bit (s.reg (sta 8 0x18)) 1 && !bit (s.reg (sta 8 0x10)) 0 && !s.usesSpace 1
  else if isClusDome d then (List.range 8).all (fun i =>
    let k := s.core (BitVec.ofNat 6 (8 * (d - 7) + i))
    decide (k.state = .stopped) && decide (k.credits = 0))
  else if isChanDome d then !s.dies.any (fun p => p.2.op.isSome && decide (p.1 / 64 / 4 = d - 15)) && (List.range 4).all (fun i =>
    (s.chanVerbs (4 * (d - 15) + i)).isEmpty &&
    !s.reqs.any (fun r => r.prim.isVerb && decide (r.chanNo = 4 * (d - 15) + i)))
  else if d = 23 then !s.reqs.any (fun r => decide (r.unit = 0x44))
  else if d = 28 then !s.usesSpace 4 && s.alm.queue.isEmpty && bit (s.reg (sta 9 0)) 0
  else true

/-- Step 4 of R515 and the commit of R516: every answer is an agreement. -/
def State.tryCommit (s : State) (d : Nat) (e : DomeEntry) : State :=
  if s.entryOk d then
    let s := (s.setEntry d (some { e with waiting := [], committed := true })).closeVote d
    let s := s.setRfld (sta 0xE (8 * d)) 2 1 1
    if domePads d then s.setRfld (sta 0x16 0) d 1 1 else s
  else s.abortEntry d e 0xFC d

/-- Sources of DOME_WAKE that are edge-sensitive (R517). -/
def State.edgeSource (s : State) (src : Nat) : Bool :=
  if 16 ≤ src then bit (s.reg (sta 0xE 0x800)) (src - 16)
  else decide (2 ≤ src ∧ src ≤ 6) || decide (src = 9)

/-- Every source that DOME_WAKE enables for a dome is edge-sensitive, and one is enabled (R519). -/
def State.allEdge (s : State) (d : Nat) : Bool :=
  let w := s.rfld (sta 0xE (0x400 + 8 * d)) 0 32
  decide (w ≠ 0) && (List.range 32).all (fun i => decide (w / 2 ^ i % 2 = 0) || s.edgeSource i)

/-- Clients that share a dome, without one. -/
def State.sharers (s : State) (d voter : Nat) : List Nat :=
  (List.range 64).filter (fun c => bit (s.reg (sta 0xE (0x200 + 8 * d))) c && decide (c ≠ voter))

/-- Whether a quiesce phase of a dome is open. -/
def State.openPhase (s : State) (d : Nat) : Bool :=
  match s.entryOf d with
  | some e => !e.committed
  | none => false

/-- The dome block takes a vote (R143, R513, R515, R519, DEDUCED, log entry 165). -/
def State.voteTake (s : State) (r : Req) : State :=
  let c := fld (r.op 0) 0 6
  let d := fld (r.op 1) 0 6
  let st := fld (r.op 2) 0 2
  let now := s.domeState d
  if !domeAllows d st || !bit (s.domeClient c) 12 || (decide (d = 1) && s.isWorker) then s.fail r ocRange
  else if decide (st = 0 ∧ now = 0) && s.openPhase d then
    match s.entryOf d with
    | some e => (s.abortEntry d e c 0).complete r ocDone [0, 0]
    | none => s
  else if s.domeBusy d ∨ (s.entryOf d).isSome ∨ (FMap.get (fun _ => none) s.domeWake d).isSome then
    s.complete r 0x70 [0xFD, w64 now]
  else if st = now then s.complete r ocDone [0, w64 now]
  else if st = 0 then (s.setReq { r with phase := .started }).startWake d [(r.core, r.ticket)]
  else if s.allEdge d then s.complete r 0x72 [0, w64 now]
  else if now = 2 then s.fail r ocRange
  else
    let (f, s) := s.takeFree
    let e : DomeEntry := { voter := c, core := r.core, ticket := r.ticket, num := BitVec.ofNat 16 (fld f 0 16),
                           target := st, start := s.tick, waiting := [], agreed := [], committed := false, wake := false }
    let s := s.setReq { r with phase := .started }
    if now = 1 then
      if s.entryOk d then s.tryCommit d { e with agreed := FMap.get (fun _ => []) s.domeAgreed d } else s.abortEntry d e 0xFC d
    else
      let cs := s.sharers d c
      let e := { e with waiting := cs }
      let s := s.setReg (sta 0xE 0x818) (w64 (d + c * 2 ^ 6 + e.num.toNat * 2 ^ 12 + 2 ^ 28))
      let s := (s.setEntry d (some e)).domeEvents d 0 e.num.toNat cs
      if cs.isEmpty then s.tryCommit d e else s

/-- The open quiesce phase with a request number and a client that has not answered. -/
def State.openQuiesce (s : State) (num c : Nat) : Option (Nat × DomeEntry) :=
  (s.domeEntry.find? (fun p => match p.2 with
    | some e => !e.committed && decide (e.num.toNat = num) && decide (c ∈ e.waiting)
    | none => false)).bind (fun p => p.2.map (fun e => (p.1, e)))

/-- VACK: answer a quiesce request (R143, R514, R515). -/
def execVack (c : CoreId) (_a b d : GReg) (s : State) : Res :=
  onCore s c (fun s =>
    let k := s.core c
    let num := fld (k.getG b) 0 16
    let cl := fld (k.getG b) 16 6
    let ans := k.getG d
    match s.openQuiesce num cl with
    | none => s.syncFail c 44 ocRange
    | some (dm, e) =>
      if ans = 1 then
        let e := { e with waiting := e.waiting.filter (· ≠ cl), agreed := e.agreed ++ [cl] }
        (if e.waiting.isEmpty then s.tryCommit dm e else s.setEntry dm (some e)).syncFail c 44 ocDone
      else if ans = 0 then (s.abortEntry dm e cl 0).syncFail c 44 ocDone
      else s.syncFail c 44 ocRange)

/-- QUIESCE_TIMEOUT: the end of the fourth tick after the quiesce; a client that has not answered
refuses (R515). -/
def execQuiesceTimeout (d : Nat) (s : State) : Res :=
  .next (match s.entryOf d with
    | some e =>
      if e.committed ∨ s.tick.toNat < e.start.toNat + 4 then s
      else match e.waiting with
        | cl :: _ => s.abortEntry d e cl 0
        | [] => s
    | none => s)

/-- A dome goes to retention or off without a vote: its pads are held as after a commit (R523). -/
def State.domeDown (s : State) (d st : Nat) : State :=
  let s := s.setRfld (sta 0xE (8 * d)) 0 2 st
  if domePads d then s.setRfld (sta 0x16 0) d 1 1 else s

/-- LDPC bank domes follow their channel groups (R522). -/
def State.followBanks (s : State) : State :=
  (List.range 4).foldl (fun s b =>
    let x := s.domeState (15 + 2 * b)
    let y := s.domeState (16 + 2 * b)
    s.setRfld (sta 0xE (8 * (24 + b))) 0 2 (if x = 0 ∨ y = 0 then 0 else if x = 2 ∧ y = 2 then 2 else 1)) s

/-- DOME_ENTRY_DONE: a committed entry completes; a wake source that asserted after isolation wakes
the dome at once (R516, R518). -/
def execDomeEntryDone (d : Nat) (s : State) : Res :=
  .next (match s.entryOf d with
    | some e =>
      if !e.committed then s else
      let s := (s.setEntry d none).setRfld (sta 0xE (8 * d)) 2 1 0
      let s := (s.setRfld (sta 0xE (8 * d)) 0 2 e.target).followBanks
      let s := s.putDomeAgreed (FMap.set (fun _ => []) s.domeAgreed d e.agreed)
      let s := match s.findReq e.core e.ticket with
        | some r => s.complete r ocDone [0, w64 e.target]
        | none => s
      if e.wake then s.startWake d [] else s
    | none => s)

/-- DOME_WAKE_DONE: the dome reports on, its pad hold releases, the clients that agreed to its last
entry receive a dome-on event and the waiting votes complete (R512, R516, R524). -/
def execDomeWakeDone (d : Nat) (s : State) : Res :=
  .next (match FMap.get (fun _ => (none : Option (List (CoreId × Ticket)))) s.domeWake d with
    | some vs =>
      let s := s.putDomeWake (FMap.erase s.domeWake d)
      let s := (s.setRfld (sta 0xE (8 * d)) 0 3 0).followBanks
      let s := if domePads d then s.setRfld (sta 0x16 0) d 1 0 else s
      let s := s.domeEvents d 2 0 (FMap.get (fun _ => []) s.domeAgreed d)
      let s := s.putDomeAgreed (FMap.erase s.domeAgreed d)
      vs.foldl (fun s p => match s.findReq p.1 p.2 with
        | some r => s.complete r ocDone [0, 0]
        | none => s) s
    | none => s)

/-- Whether a number names a wake source (R517). -/
def isWakeSource (src : Nat) : Bool := decide (src ≤ 9) || (decide (16 ≤ src) && decide (src ≤ 31))

/-- A wake source acts on one dome; the device pulls WAKE_n low when a GPIO or a Span port wakes D1 (R517, R518, R577). -/
def State.wakeDome (s : State) (src d : Nat) (phase : CommitPhase) : State :=
  let edge := s.edgeSource src
  let latch (s : State) : State :=
    let s := if edge then s.setRfld (sta 0xE 0x808) src 1 1 else s
    if d = 1 ∧ (16 ≤ src ∨ (2 ≤ src ∧ src ≤ 5)) then (s.putOut (s.out ++ [Out.wake])) else s
  if !bit (s.reg (sta 0xE (0x400 + 8 * d))) src || (decide (d = 1) && s.isWorker) then s else
  match s.entryOf d with
  | some e =>
    if !e.committed then s.abortEntry d e 0xFE 0
    else if phase = .after then latch (s.setEntry d (some { e with wake := true }))
    else s
  | none =>
    if s.domeState d ≠ 0 ∧ !s.domeBusy d then (latch s).startWake d [] else s

/-- Levels at which the pads of a dome stand while they are held (R523, R524). -/
def State.padLevels (s : State) (d : Nat) : List (String × PadLevel) :=
  if bit (s.reg (sta 0x16 0)) d then heldPads d (decide (s.domeState d = 2)) else []

/-- A wake source acts on every dome. -/
def State.wakeAll (s : State) (src : Nat) (phase : CommitPhase) : State :=
  (List.range 29).foldl (fun s d => s.wakeDome src d phase) s

/-- Whether a source may assert: the timer and the temperature only at their levels, and the doorbell event only with its own
doorbell (R517). -/
def State.sourceOn (s : State) (src : Nat) : Bool :=
  if src = 7 then decide ((s.reg (sta 0xE 0x810)).toNat ≤ s.tick.toNat)
  else if src = 8 then decide (tempInt (s.rfld (sta 0xF 8) 0 16) ≤ tempInt (s.rfld (sta 0xF 0x18) 0 16))
  else decide (src ≠ 9)

/-- A level source of the device itself that stands wakes what it may, at any moment outside a commit (R517, R518). -/
def State.levelSource (s : State) (src : Nat) : State := if s.sourceOn src then s.wakeAll src .after else s

/-- WAKE_SOURCE: source `src` asserts; its sensitivity is the one R517 gives or selects, and a
report of the other sensitivity is no assertion. -/
def execWakeSource (src : Nat) (edge : Bool) (phase : CommitPhase) (s : State) : Res :=
  .next (if isWakeSource src ∧ s.edgeSource src = edge ∧ s.sourceOn src then s.wakeAll src phase else s)

end Sys2Proof.Machine
end

