-- ==== Sys2Proof/Machine/Thermal.lean ====
section
/-! DEFINITION. Temperature: sensors, thermal events, the cooling-gap floor, throttling, the orderly
stop and the thermal trip (R528 to R535). -/

namespace Sys2Proof.Machine

/-- Station offsets of the THERM block. -/
def thermCfg : Nat := sta 0xF 0
def thermThr : Nat := sta 0xF 8
def thermGap : Nat := sta 0xF 0x10
def thermStat : Nat := sta 0xF 0x18

/-- DIEMAX, PKGMAX and the thresholds in 1/16 °C. -/
def State.dieMax (s : State) : Int := tempInt (s.rfld thermStat 0 16)
def State.warn (s : State) : Int := tempInt (s.rfld thermThr 0 16)
def State.gstart (s : State) : Int := tempInt (s.rfld thermThr 16 16)
def State.tripAt (s : State) : Int := tempInt (s.rfld thermThr 32 16)

/-- PKGMAX: the highest reading of a fitted package younger than 1 s; 0 when there is none (R529). -/
def State.pkgMaxField (s : State) : Nat := (s.maxSensor ((List.range 256).map (· + 32))).getD 0
def State.pkgMax (s : State) : Int := tempInt s.pkgMaxField

/-- Whether a package reading is there to be compared. -/
def State.hasPkg (s : State) : Bool := (s.maxSensor ((List.range 256).map (· + 32))).isSome

/-- The temperature field of an integer. -/
def tempField (t : Int) : Nat := (t % 65536).toNat

/-- THERM_n is driven low (R529). -/
def State.thermLow (s : State) : Bool :=
  decide (s.warn ≤ s.dieMax) || bit (s.reg thermCfg) 12 || bit (s.reg thermStat) 32

/-- A thermal event of a kind (R529). -/
def State.thermEvent (s : State) (kind : Nat) : State :=
  s.unitEvent (BitVec.ofNat 6 (s.rfld thermCfg 0 6)) (s.rfld thermCfg 6 6) 0x49 kind

/-- The flash warning and stop temperatures of the die family in 1/16 °C (R532). -/
def State.tflWarn (s : State) : Int := 16 * s.fam.tflWarn
def State.tflStop (s : State) : Int := 16 * s.fam.tflStop

/-! ## Samples -/

/-- Whether a reading lies in −55 to +175 °C (R528). -/
def sensorOk (t : Int) : Bool := decide (-880 ≤ t) && decide (t ≤ 2800)

/-- A reading of sensor `n` is taken in the current tick. -/
def State.sensorRead (s : State) (n : Nat) : State := s.putReadAt (FMap.set (fun _ => 0) s.readAt n s.tick)

/-- One sample of one sensor: its register, and its failure when it reads outside its range (R528). -/
def State.sampleOne (s : State) (n : Nat) (t : BitVec 16) : State :=
  let s := (s.setReg (sta 0xF (0x100 + 8 * n)) (w64 (t.toNat + s.tick.toNat % 2 ^ 32 * 2 ^ 32))).sensorRead n
  if sensorOk (tempInt t.toNat) || s.sensorFail.contains n then s
  else
    let s := s.putSensorFail (s.sensorFail ++ [n])
    let s := s.setRfld thermStat 33 5 s.sensorFail.length
    (s.almRecord 0x71 [w64 n, w64 t.toNat, 0, 0, 0]).thermEvent 3

/-- Sample the sensors from number `n` on. -/
def State.sampleAll (s : State) : Nat → List (BitVec 16) → State
  | _, [] => s
  | n, t :: ts => State.sampleAll (s.sampleOne n t) (n + 1) ts

/-- The highest reading among those in range. -/
def maxTemp (ts : List (BitVec 16)) : Option Int :=
  ((ts.map (fun t => tempInt t.toNat)).filter sensorOk).foldl
    (fun b t => match b with
      | none => some t
      | some x => some (max x t)) none

/-- The higher of a 1/16 °C field and a temperature. -/
def hotter (f : BitVec 16) (t : Int) : BitVec 16 := BitVec.ofNat 16 (tempField (max (tempInt f.toNat) t))

/-- The highest temperatures of the operating hour (R246). -/
def State.noteDie (s : State) (t : Int) : State := s.putHistory { s.history with die := hotter s.history.die t }
def State.notePkg (s : State) : State :=
  if s.hasPkg then s.putHistory { s.history with pkg := hotter s.history.pkg s.pkgMax } else s

/-- The thermal trip (R534). -/
def State.thermalTrip (s : State) : State :=
  let s := s.almRecord 0x70 [w64 (tempField s.dieMax), 0, 0, 0, 0]
  let s := s.faultReset 7 (tempField s.dieMax) 0
  let s := (s.setRfld thermStat 32 1 1).putBoot { s.boot with tripped := true }
  let s := ((List.range 7).map (· + 8)).foldl (fun (s : State) d => (s.setReg (sta 0xE (8 * d)) 0).domeDown d 1) s
  let s := ([2, 3, 4, 5, 23] ++ (List.range 8).map (· + 15)).foldl (fun (s : State) d => (s.setReg (sta 0xE (8 * d)) 0).domeDown d 2) s
  let kept (d : Nat) : Bool := decide (d = 1) || decide (d = 6) || decide (d = 28)
  (s.followBanks.putDomeWake (s.domeWake.filter (fun p => kept p.1))).putDomeEntry (s.domeEntry.filter (fun p => kept p.1))

/-- SENSOR_SAMPLE: every 50 µs the 24 on-die sensors are read (R528, R529, R534). -/
def execSensorSample (temps : List (BitVec 16)) (s : State) : Res :=
  .next (
    if temps.length ≠ 24 then s else
    let old := s.dieMax
    let s := s.sampleAll 0 temps
    match maxTemp temps with
    | none => s
    | some t =>
      let s := (s.setRfld thermStat 0 16 (tempField t)).noteDie t
      let s := if old < s.warn ∧ s.warn ≤ t then s.thermEvent 0 else s
      let s := if s.warn - 32 ≤ old ∧ t < s.warn - 32 then s.thermEvent 1 else s
      let s := s.levelSource 8
      if s.tripAt ≤ t then
        if 1 ≤ s.tripCount then s.thermalTrip.putTripCount 0 else s.putTripCount 1
      else (s.putTripCount 0))

/-! ## Cooling gaps -/

/-- GHW for the present DIEMAX (R528, R531). -/
def State.gapFloor (s : State) : Nat :=
  if 4 < s.sensorFail.length then 15
  else
    let x := (s.dieMax - s.gstart).toNat
    min 15 ((6 * x + 159) / 160)

/-- G follows GPROG and GHW; a change posts an event (R529). -/
def State.setGap (s : State) (gprog ghw : Nat) : State :=
  let old := s.rfld thermGap 8 4
  let g := max gprog ghw
  let s := s.setReg thermGap (w64 (gprog + ghw * 2 ^ 4 + g * 2 ^ 8))
  if g = old then s else s.thermEvent 2

/-- COOLING_GAP_UPDATE: every 1 ms (R531). -/
def execCoolingGapUpdate (s : State) : Res := .next (s.setGap (s.rfld thermGap 0 4) s.gapFloor)

/-- Whether a tick is a cooling gap under G gaps per 16 ticks (R530). -/
def gapTick (g n : Nat) : Bool := decide ((n % 16) * g / 16 < (n % 16 + 1) * g / 16)

/-! ## Throttling and stopping, under the resident set -/

/-- Whether a submission queue is an admin queue: queue number and function agree (R223). -/
def isAdminQ (n : Nat) (q : SQ) : Bool := decide (n = q.func)

/-- The orderly stop begins: I/O pauses, SMART critical warning bit 1 is set and reported, and THERM_n
is forced low (R533).  The admin queues stay served. -/
def State.orderlyStop (s : State) : State :=
  if s.stopped then s else
  let s := ((s.putStopped true).putCoolSince none).putSqs (s.sqs.map
      (fun (p : Nat × Option SQ) => (p.1, p.2.map (fun q => if isAdminQ p.1 q then q else { q with paused := true }))))
  (s.setRfld thermCfg 12 1 1).asyncAll { typ := 1, info := 1, lid := 2 }

/-- Step 4 of R533, once every fetched I/O command has settled: clusters 1 to 7 and the cipher engine
go to retention. -/
def State.stopDomes (s : State) : State :=
  if s.stopped && s.cmds.all (fun d => d.admin || !decide (d.settle = .live)) then
    (((List.range 7).map (· + 8)) ++ [23]).foldl
      (fun (s : State) d => if s.domeState d = 0 ∧ !s.domeBusy d then s.setRfld (sta 0xE (8 * d)) 0 2 1 else s) s
  else s

/-- Whether the predicted temperature reaches 148 °C 10 ms ahead, from the last samples, oldest first
(R532). -/
def riseStop (xs : List Int) : Bool :=
  match xs.getLast? with
  | none => false
  | some cur =>
    if xs.length < 8 then decide (2368 ≤ cur + 160)
    else decide (7 * 2368 ≤ 7 * cur + 10 * max 0 (cur - xs.headD cur))

/-- Whether the device has been cool enough to resume: DIEMAX at or below 120 °C and PKGMAX at or below
TFL_WARN − 5 °C (R533). -/
def State.isCool (s : State) : Bool := decide (s.dieMax ≤ 1920) && (!s.hasPkg || decide (s.pkgMax ≤ s.tflWarn - 80))

/-- The cool time is followed at every sample. -/
def State.followCool (s : State) : State :=
  if !s.stopped then s.putCoolSince none
  else if s.isCool then s.putCoolSince (s.coolSince.or (some s.tick))
  else s.putCoolSince none

/-- RISE_PREDICTION (R532, R533). -/
def execRisePrediction (s : State) : Res :=
  .next (
    let xs := s.rise ++ [s.dieMax]
    let xs := xs.drop (xs.length - 8)
    let s := s.putRise xs
    let s := if riseStop xs || (s.hasPkg && decide (s.tflStop ≤ s.pkgMax)) then s.orderlyStop else s
    s.stopDomes.followCool)

/-- THERM_PKG_WRITE: a package temperature is stamped with the tick (R528). -/
def State.pkgWrite (s : State) (n : Nat) (v : W64) : State :=
  (s.setReg (sta 0xF (0x200 + 8 * n)) (w64 (fld v 0 17 + s.tick.toNat % 2 ^ 32 * 2 ^ 32))).sensorRead (n + 32)

/-- GPROG for the present PKGMAX, in gaps: min(15, 3 × (PKGMAX − TFL_WARN + 1)) at or above TFL_WARN,
else 0 (R532).  The rule gives no rounding of a fraction of a degree: it is a free choice. -/
def State.gprogFor (s : State) : Nat × State :=
  if s.hasPkg ∧ s.tflWarn ≤ s.pkgMax then
    let x := (3 * (s.pkgMax - s.tflWarn + 16)).toNat
    if x % 16 = 0 then (min 15 (x / 16), s)
    else
      let (f, s) := s.takeFree
      (min 15 (x / 16 + b2n (bit f 0)), s)
  else (0, s)

/-- FLASH_PACKAGE_POLL: every 500 ms (R532). -/
def execFlashPackagePoll (temps : List (Nat × BitVec 16)) (s : State) : Res :=
  .next (
    let s := temps.foldl (fun s p => if p.1 < 256 then s.pkgWrite p.1 (w64 (p.2.toNat + 2 ^ 16)) else s) s
    let s := s.notePkg
    let (g, s) := s.gprogFor
    let s := s.setGap g (s.rfld thermGap 4 4)
    let s := if s.hasPkg ∧ s.tflStop ≤ s.pkgMax then s.orderlyStop else s
    s.followCool)

/-- ORDERLY_STOP_RESUME: after 1 s of cool readings the domes wake, FORCE clears and fetching resumes
(R533). -/
def execOrderlyStopResume (s : State) : Res :=
  .next (match s.coolSince with
    | some t =>
      if s.stopped ∧ t.toNat + s.secondTicks ≤ s.tick.toNat then
        let s := (((List.range 7).map (· + 8)) ++ [23]).foldl
          (fun (s : State) d => if s.domeState d = 0 ∨ s.domeBusy d then s else s.startWake d []) s
        let s := s.setRfld thermCfg 12 1 0
        (((s.putStopped false).putCoolSince none).putRise []).putSqs
            (s.sqs.map (fun (p : Nat × Option SQ) => (p.1, p.2.map (fun q => if isAdminQ p.1 q then q else { q with paused := decide (3 ≤ s.power) && decide (8 ≤ q.owner.toNat) }))))
      else s
    | none => s)

/-- Composite temperature in 1/16 °C (R535). -/
def State.composite (s : State) : Int := max s.pkgMax (s.dieMax - (2368 - s.tflStop))

/-- A temperature in kelvin: degrees rounded down, plus 273 (R535, DEDUCED, log entry 27). -/
def kelvin (t : Int) : Nat := (t / 16 + 273).toNat

/-- WCTEMP and CCTEMP (R535). -/
def State.wctemp (s : State) : Nat := s.fam.tflWarn + 273
def State.cctemp (s : State) : Nat := s.fam.tflStop + 273

/-- A tick of the minutes of R361 and R535: at the end of a minute the busy minute and the warning and
critical minutes are counted. -/
def State.minuteTick (s : State) : State :=
  let h := s.history
  let busy := h.busy || s.cmds.any (fun d => !d.admin && (match d.settle with
    | .settled _ => false
    | _ => true))
  if (h.ticks + 1) * s.periodUs < 60000000 then s.putHistory { h with ticks := h.ticks + 1, busy := busy }
  else
    let c := kelvin s.composite
    (s.putHealth (if busy then FMap.modify (fun _ => 0) s.health 21 (fun (v : W64) => w64 (satAdd 64 v.toNat 1)) else
        s.health)).putHistory { h with
        ticks := 0, busy := false
        warnMin := if s.wctemp ≤ c ∧ c < s.cctemp then h.warnMin + 1 else h.warnMin
        critMin := if s.cctemp ≤ c then h.critMin + 1 else h.critMin }

/-- EDSTT in minutes (R364). -/
def State.edstt (s : State) : Nat :=
  (5 * s.fam.planes * (if s.fam.qlc then s.fam.pagesQlc else s.fam.pagesTlc) * s.fam.blocks * s.fam.trMax + 59999999999) / 60000000000

/-- Minutes that a self-test takes: the bound of the short test, EDSTT for the extended one (R364). -/
def State.testMinutes (s : State) (code : Nat) : Nat := if code = 1 then 2 else max 1 s.edstt

/-- Whether a checkpoint copy of `n` bytes and a CRC-32 at an ingot offset was written and does not pass (R364). -/
def State.copyBad (s : State) (a n : Nat) : Bool :=
  let bs := rdBytes s.ingot a (n + 4)
  bs.any (fun b => b ≠ 0) && decide (crc32 0 (bs.take n) ≠ ofBytes (bs.drop n))

/-- The segment of a self-test that fails: 1 dies, 2 ingot store, 4 read sweep; 0 for none (R364). -/
def State.testSegment (s : State) (code : Nat) : Nat :=
  if code = 1 then
    if s.dies.any (fun p => decide (3 ≤ p.2.fails)) then 1
    else if s.copyBad 0xE101000 2056 || s.copyBad 0xE102000 2056 || s.copyBad 0xE110000 67608 || s.copyBad 0xE130000 67608 then 2
    else 0
  else if s.lostRanges.isEmpty then 0 else 4

/-- A self-test that has run its time ends (R364, DEDUCED, log entry 64). -/
def State.testTick (s : State) : State :=
  match s.care.test with
  | some (code, _, began) =>
    if s.testMinutes code * 60000000 ≤ (s.tick.toNat - began.toNat) * s.periodUs then
      let g := s.testSegment code
      s.testResult (if g = 0 then 0 else 7) g
    else s
  | none => s

/-- Arbitration features set in the last tick take effect (R233): feature word 0x10001 holds the new one
with bit 32 set. -/
def Ctrl.applyArb (c : Ctrl) : Ctrl :=
  let v := FMap.get (fun _ => (0 : W64)) c.feat 0x10001
  if v = 0 then c
  else { c with feat := FMap.set (fun _ => 0) (FMap.set (fun _ => 0) c.feat 0x10000 v) 0x10001 0 }

end Sys2Proof.Machine
end

