-- ==== Sys2Proof/Machine/Port.lean ====
section
/-! DEFINITION. The host port: doorbells, arbitration and fetching (R91 to R93, R150, R228 to R233,
R481, R487, R488), instance resets (R217, R490 to R492), shutdown and configuration requests. -/

namespace Sys2Proof.Machine

/-! ## Power states -/

/-- Domes that PS3 and PS4 put down, with the state each takes: clusters 1 to 7 and the cipher engine in retention; in
PS4 DRAM in retention, and the channels, the cipher engine and the ingot store off, and on a standalone device the Span
ports; those of a mis-strapped device stay off throughout (R7, R527, DEDUCED, log entry 163). -/
def State.powerDomes (s : State) (ps : Nat) : List (Nat × Nat) :=
  let clus := (List.range 7).map (fun i => (i + 8, 1))
  if ps = 3 then clus ++ [(23, 1)]
  else if ps = 4 then
    clus ++ [(6, 1), (23, 2), (28, 2)] ++ (List.range 8).map (fun i => (i + 15, 2)) ++
      (if s.role = 0 ∧ s.rfld (sta 0x17 0x18) 0 2 = 0 then (List.range 4).map (fun i => (i + 2, 2)) else [])
  else []

/-- Station offset of DOME_PEV. -/
def domePev : Nat := sta 0xE 0x820

/-- A queue whose core PS3 and PS4 stop: its core lies in clusters 1 to 7. -/
def SQ.stops (q : SQ) : Bool := decide (q.hostId ≠ 0) && decide (8 ≤ q.owner.toNat)

/-- A Span port's link layer after its training. -/
def portReset (_ : Nat) : SpanPort where
  txSeq := 0
  unacked := []
  queue := []
  credit := [512, 512, 64]
  rxSeq := 4095
  since := 0
  held := [0, 0, 0]
  naks := []
  asked := 0
  full := none

def State.sport (s : State) (p : Nat) : SpanPort := FMap.get portReset s.span p
def State.setSport (s : State) (p : Nat) (x : SpanPort) : State := s.putSpan (FMap.set portReset s.span p x)

/-- In PS3 a manager's Span ports that are up run at 32 GT/s x1; on leaving it they return to what training gave (R527). -/
def State.slowLinks (s : State) (slow : Bool) : State :=
  if !s.isManager then s else
  (List.range 4).foldl (fun (s : State) p =>
    let o := sta 0xD (0x100 + 0x40 * p)
    let up := decide (s.rfld o 0 3 = 3)
    match slow, (s.sport p).full with
    | true, none => if up then ((s.setSport p { s.sport p with full := some (s.rfld o 3 4) }).setRfld o 3 2 2).setRfld o 5 2 1 else s
    | false, some v => (if up then s.setRfld o 3 4 v else s).setSport p { s.sport p with full := none }
    | _, _ => s) s

/-- PS2 runs DRAM on timing set B where it is usable, PS0 and PS1 on set A: the change is accepted, as the power state is in
transition (R454, R527). -/
def State.powerDram (s : State) (ps : Nat) : State :=
  let v := s.reg (sta 8 0x10)
  let to_ := b2n (decide (ps = 2))
  if 3 ≤ ps ∨ bit v 0 ∨ bit (s.reg (sta 8 0x18)) 1 ∨ fld v 2 1 = to_ ∨ (ps = 2 ∧ !bit v 5) then s
  else s.setReg (sta 8 0x10) (setFld (setBit v 0 true) 1 1 to_)

/-- The device takes a power state; in PS3 and PS4 the queues of the stopped cores pause and a doorbell
event is armed (R527). -/
def State.setPower (s : State) (ps : Nat) : State :=
  let was := s.powerDomes s.power
  let sleep := decide (3 ≤ ps)
  let wake := decide (3 ≤ s.power) && !sleep && !s.stopped
  let s := ((s.putPower ps).putPowerOp (if ps < 3 then ps else s.powerOp)).putSqs
      (s.sqs.map (fun (p : Nat × Option SQ) => (p.1, p.2.map (fun (q : SQ) =>
      if q.stops then { q with paused := (q.paused || sleep) && !wake } else q))))
  let s := ((if sleep then s.setRfld domePev 12 1 1 else s).slowLinks (decide (ps = 3))).powerDram ps
  let want := s.powerDomes ps
  let s := (was.filter (fun p => !want.any (fun q => decide (q.1 = p.1)))).foldl
    (fun (s : State) p => if s.domeState p.1 = 0 ∨ s.domeBusy p.1 then s else s.startWake p.1 []) s
  (want.foldl (fun (s : State) p => if s.domeBusy p.1 then s else s.domeDown p.1 p.2) s).followBanks

/-- A doorbell event, or a host command, returns the device to its last operational state (R527). -/
def State.powerUp (s : State) : State := if 3 ≤ s.power then s.setPower s.powerOp else s

/-! ## Doorbells -/

/-- The submission queue of a function with a host queue identifier, by device number. -/
def State.sqOf (s : State) (f y : Nat) : Option (Nat × SQ) :=
  (s.sqs.find? (fun p => match p.2 with
    | some q => decide (q.func = f) && decide (q.hostId = y)
    | none => false)).bind (fun p => p.2.map (fun q => (p.1, q)))

/-- The completion queue of a function with a host queue identifier. -/
def State.cqOf (s : State) (f y : Nat) : Option (Nat × CQ) :=
  (s.cqs.find? (fun p => match p.2 with
    | some q => decide (q.func = f) && decide (q.hostId = y)
    | none => false)).bind (fun p => p.2.map (fun q => (p.1, q)))

/-- Invalid Doorbell Register and Invalid Doorbell Write Value events (R228). -/
def badDoorbell : AsyncEv := { typ := 0, info := 0, lid := 1 }
def badDoorbellValue : AsyncEv := { typ := 0, info := 1, lid := 1 }

/-- The doorbell event, when DOME_PEV is armed and the queue is an I/O queue; it is wake source 9, and whether it falls in the
three cycles of a commit is a free choice (R517, R518, R525, DESIGN CHOICE, log entry 144). -/
def State.doorbellEvent (s : State) (n : Nat) (q : SQ) : State :=
  let v := s.reg domePev
  if bit v 12 ∧ q.hostId ≠ 0 then
    let (f, s) := (((s.setRfld domePev 12 1 0).unitEvent (BitVec.ofNat 6 (fld v 0 6)) (fld v 6 6) 0x40 n).powerUp).takeFree
    s.wakeAll 9 (if bit f 0 then .during else .after)
  else s

/-- SQ_TAIL_DOORBELL (R228, R525). -/
def execSqTailDoorbell (func : Nat) (y : Nat) (v : BitVec 32) (s : State) : Res :=
  .next (match s.sqOf func y with
    | none => s.asyncEvent func badDoorbell
    | some (n, q) =>
      if q.entries ≤ fld v 0 16 then s.asyncEvent func badDoorbellValue
      else (s.setSq n (some { q with tail := fld v 0 16 })).doorbellEvent n q)

/-- CQ_HEAD_DOORBELL (R228). -/
def execCqHeadDoorbell (func : Nat) (y : Nat) (v : BitVec 32) (s : State) : Res :=
  .next (match s.cqOf func y with
    | none => s.asyncEvent func badDoorbell
    | some (n, q) =>
      if q.entries ≤ fld v 0 16 then s.asyncEvent func badDoorbellValue
      else s.setCq n (some { q with head := fld v 0 16 }))

/-! ## Which queue is next -/

/-- Whether a queue's function or slice is in reset. -/
def State.queueInReset (s : State) (q : SQ) : Bool :=
  s.resets.any (fun r => decide (r.func = q.func) &&
    match r.slice with
    | none => true
    | some x => decide (q.slice = some x))

/-- Whether the queue engine may fetch the next entry of a queue: entries wait, the queue is neither
paused nor retired, its controller serves commands, and its core and the hazard table have room (R39,
R93, R97, R217, R490). -/
def State.sqReady (s : State) (n : Nat) (q : SQ) : Bool :=
  decide (q.head ≠ q.tail) && !q.paused && !q.retired && !s.boot.down && !s.queueInReset q &&
  (s.ctrl q.func).live && decide ((s.ctrl q.func).shst = 0) &&
  decide (s.hostFill q.owner < (s.core q.owner).hostcap.toNat) &&
  (!s.hazStall.contains n || decide (s.haz.length < 65536))

/-- Share holder of a queue: its slice, else its function (R487). -/
def SQ.holder (q : SQ) : Nat :=
  match q.slice with
  | some x => 2048 + x
  | none => q.func

/-- The ready queues of a holder, ascending. -/
def State.readyQueues (s : State) (h : Nat) : List (Nat × SQ) :=
  s.sqs.filterMap (fun p => p.2.bind (fun q => if q.holder = h ∧ s.sqReady p.1 q then some (p.1, q) else none))

/-- The holders with a ready entry, ascending. -/
def State.readyHolders (s : State) : List Nat :=
  ((s.sqs.filterMap (fun p => p.2.bind (fun q => if s.sqReady p.1 q then some q.holder else none))).foldl
    (fun m h => FMap.insert m h ()) ([] : FMap Unit)).map (·.1)

/-- The first of `hs` after `x` in rotation. -/
def nextAfter (x : Nat) (hs : List Nat) : Option Nat :=
  match hs.find? (fun h => x < h) with
  | some h => some h
  | none => hs.head?

/-- Weight and cap of a holder (R487, R489). -/
def shareReg (h : Nat) : Nat :=
  if h < 2048 then sta 0x15 (0x1000 + 8 * h) else sta 0x15 (0x8000 + 8 * (h - 2048))
def State.weight (s : State) (h : Nat) : Nat := s.rfld (shareReg h) (if h < 2048 then 0 else 32) 16
def State.cap (s : State) (h : Nat) : Nat := s.rfld (shareReg h) (if h < 2048 then 16 else 48) 16

/-- One entry of credit (R488). -/
def oneCredit : Nat := 65536

/-- Entries fetched for a holder in this tick, and its credit. -/
def State.takenOf (s : State) (h : Nat) : Nat := FMap.get (fun _ => 0) s.taken h
def State.creditOf (s : State) (h : Nat) : Nat := FMap.get (fun _ => 0) s.credit h

/-- The holder that is picked next: the first pass over those with credit, then the second pass within
the caps (R488). -/
def State.holderPick (s : State) : Option Nat :=
  let hs := s.readyHolders
  match nextAfter s.rotLast (hs.filter (fun h => oneCredit ≤ s.creditOf h)) with
  | some h => some h
  | none => nextAfter s.rotLast (hs.filter (fun h => s.cap h = 0 ∨ s.takenOf h < s.cap h))

/-- Rounds of a holder that nothing has fetched for. -/
def arbReset (_ : Nat) : Arb := { phase := 0, picks := 0, cur := none, last := [0, 0, 0, 0] }

/-- The Arbitration feature of the holder's function: AB, and HPW, MPW and LPW by phase (R231). -/
def State.arbFeat (s : State) (f : Nat) : W64 := FMap.get (fun _ => 0) (s.ctrl f).feat 0x10000
def State.burst (s : State) (f : Nat) : Nat := if fld (s.arbFeat f) 0 3 = 7 then 64 else 2 ^ fld (s.arbFeat f) 0 3
def State.arbPicks (s : State) (f phase : Nat) : Nat :=
  match phase with
  | 2 => fld (s.arbFeat f) 24 8 + 1
  | 3 => fld (s.arbFeat f) 16 8 + 1
  | 4 => fld (s.arbFeat f) 8 8 + 1
  | _ => 0

/-- Pick the next queue of a class in rotation. -/
def Arb.pick (a : Arb) (cls : Nat) (qs : List Nat) (burst picks : Nat) : Option (Nat × Arb) :=
  (nextAfter (a.last.getD cls 0) qs).map (fun n =>
    (n, { a with cur := some (n, burst), picks := picks, last := a.last.set cls n }))

/-- The queue that a function's round picks from, advancing phases that have nothing ready (R231). -/
def State.roundPick (s : State) (f : Nat) (qs : List (Nat × SQ)) : Nat → Arb → Option (Nat × Arb)
  | 0, _ => none
  | k + 1, a =>
    let io := qs.filter (fun p => p.2.hostId ≠ 0)
    let wrr := (s.ctrl f).wrr
    match a.phase with
    | 0 =>
      match (qs.filter (fun p => p.2.hostId = 0)).head? with
      | some p => some (p.1, { a with cur := some (p.1, 8) })
      | none => State.roundPick s f qs k { a with phase := 1 }
    | 1 =>
      if wrr then
        match a.pick 0 ((io.filter (fun p => p.2.level = 0)).map (·.1)) (s.burst f) 0 with
        | some r => some r
        | none => State.roundPick s f qs k { a with phase := 2, picks := s.arbPicks f 2 }
      else
        match (io.map (·.1)).find? (fun n => a.last.getD 0 0 < n) with
        | some n => some (n, { a with cur := some (n, s.burst f), last := a.last.set 0 n })
        | none => State.roundPick s f qs k { a with phase := 0, last := a.last.set 0 0 }
    | ph =>
      if a.picks = 0 then State.roundPick s f qs k (if ph = 4 then { a with phase := 0 }
        else { a with phase := ph + 1, picks := s.arbPicks f (ph + 1) })
      else match a.pick (ph - 1) ((io.filter (fun p => p.2.level = ph - 1)).map (·.1)) (s.burst f) (a.picks - 1) with
        | some r => some r
        | none => State.roundPick s f qs k { a with picks := 0 }

/-- The queue the engine fetches from next for a holder, with the round after it (R231). -/
def State.queuePick (s : State) (h : Nat) : Option (Nat × Arb) :=
  let qs := s.readyQueues h
  let a := FMap.get arbReset s.arbs h
  let fresh := match qs.head? with
    | some p => State.roundPick s p.2.func qs 16 { a with cur := none }
    | none => none
  match a.cur with
  | some (n, _ + 1) => if qs.any (fun p => p.1 = n) then some (n, a) else fresh
  | _ => fresh

/-- Count one entry of a pick. -/
def Arb.count (a : Arb) : Arb :=
  match a.cur with
  | some (n, left + 1) => { a with cur := some (n, left) }
  | _ => a

/-! ## Fetching -/

/-- Opcodes that arm a hazard entry (R93). -/
def hazOpcode (op : Nat) : Bool := decide (op = 0x01) || decide (op = 0x04) || decide (op = 0x08)

/-- Opcodes of the write group: those that write data (R91, DEDUCED, log entry 29). -/
def writeOpcode (op : Nat) : Bool := hazOpcode op || decide (op = 0x7D) || decide (op = 0x9D)

/-- The level of an entry (R91, R232). -/
def State.fetchLevel (s : State) (q : SQ) : Nat :=
  if q.hostId = 0 then 1 else if (s.ctrl q.func).wrr then q.level + 1 else 3

/-- Whether an opcode is one that the loader serves (R150). -/
def loaderOpcode (op : Nat) : Bool := decide (op = 0x10) || decide (op = 0x11)

/-- Core and class of an entry (R91, R150). -/
def SQ.route (q : SQ) (op : Nat) : CoreId × Nat :=
  if q.hostId = 0 ∧ loaderOpcode op then (0, 63)
  else (q.owner, (if op = 0x02 ∧ q.hostId ≠ 0 then q.rcls else if writeOpcode op ∧ q.hostId ≠ 0 then q.wcls else q.ocls).toNat)

/-- The fetch sequence number after one, skipping 0 (R92). -/
def nextFsn (n : BitVec 32) : BitVec 32 := if n + 1 = 0 then 1 else n + 1

/-- Admin and I/O opcodes that the device implements (R220, R221). -/
def adminOpcodes : List Nat :=
  [0x00, 0x01, 0x02, 0x04, 0x05, 0x06, 0x08, 0x09, 0x0A, 0x0C, 0x0D, 0x10, 0x11, 0x14, 0x15, 0x19, 0x1A, 0x1C, 0x80, 0x81,
   0x82, 0x84, 0xC0]
def ioOpcodes : List Nat := [0x00, 0x01, 0x02, 0x04, 0x08, 0x09, 0x0C, 0x12, 0x1D, 0x79, 0x7A, 0x7D, 0x9D]
def knownOpcode (admin : Bool) (op : Nat) : Bool := (if admin then adminOpcodes else ioOpcodes).contains op

/-- The 512 bytes of an entry buffer (R92). -/
def entryBytes (e : BitVec 512) (fsn : BitVec 32) (func : Nat) (pasid : Option Nat) (tick : W64) (haz : Option Nat)
    (pre : List Byte) : List Byte :=
  toBytes 64 e.toNat ++ toBytes 8 fsn.toNat ++
  toBytes 8 (func % 65536 + (match pasid with
    | some p => p % 2 ^ 20 * 2 ^ 16 + 2 ^ 36
    | none => 0)) ++
  toBytes 8 tick.toNat ++
  toBytes 8 (match haz with
    | some i => i % 65536 + 65536
    | none => 0) ++
  toBytes 8 pre.length ++ List.replicate 24 0 ++ pre ++ List.replicate (384 - pre.length) 0

/-- Arm the hazard entry of a write (R93). -/
def State.armHaz (s : State) (e : BitVec 512) : Option (Nat × State) :=
  match s.hazFree with
  | some i =>
    let key := w64 (fld e 320 48 + fld e 32 16 * 2 ^ 48)
    let x : HazEntry := { key := key, count := fld e 384 16 + 1, fsn := s.fsn, confirmed := false, buf := 0 }
    some (i, (s.putHaz (FMap.insert s.haz i x)))
  | none => none

/-- A command whose settling, or whose completion entry, is still to come (R242). -/
def Cmd.unsettled (d : Cmd) : Bool :=
  match d.settle with
  | .settled _ => false
  | _ => true

/-- The entry `e` of queue `n` is fetched into a buffer, and its event posted; an identifier that an
outstanding command of the queue holds completes with Command ID Conflict (R242), and an opcode that the
device lacks with Invalid Command Opcode (R220, R221). -/
def State.fetchEntry (s : State) (n : Nat) (q : SQ) (e : BitVec 512) (pre : List Byte) (haz : Option Nat) : State :=
  match s.alloc 63 0 false with
  | none => s
  | some (h, s) =>
    let buf := fld h 0 48
    let op := fld e 0 8
    let old := s.cmds
    let (core, cls) := q.route op
    let key := mkEvent cls (s.fetchLevel q) 0x40 0 (n % 2 ^ 18 + buf / 64 % 2 ^ 22 * 2 ^ 18)
    let s := s.writeLoc (.tun buf) (entryBytes e s.fsn q.func q.pasid s.tick haz pre)
    let d : Cmd :=
      { key := key, sq := n, func := q.func, pasid := q.pasid, slice := q.slice, fsn := s.fsn, sqe := e, buf := buf,
        arrived := s.tick, haz := haz, level := BitVec.ofNat 3 (s.fetchLevel q), owner := core,
        admin := decide (q.hostId = 0), settle := .live, dminEvent := none, aborted := false, acted := false }
    let s := (s.putCmds (s.cmds ++ [d])).putFsn (nextFsn s.fsn)
    let s := s.setSq n (some { q with
      head := (q.head + 1) % q.entries, unsettled := q.unsettled + 1, fetched := satAdd 64 q.fetched 1 })
    let s := if q.hostId = 0 then s else s.powerUp
    let s := s.postFetch core key
    if !knownOpcode (decide (q.hostId = 0)) op then (s.respond d 0 0 stOpcode).dropHaz d
    else if old.any (fun c => decide (c.sq = n) && c.unsettled && decide (c.cid = d.cid)) then (s.respond d 0 0 stCidConflict).dropHaz d
    else if loaderOpcode op ∧ q.hostId = 0 ∧ !s.isPf q.func then s.respond d 0 0 stOpcode
    else s

/-- The accounts of a fetch: the round of its holder, its cap, and in the first pass its credit, which a holder that runs out of
ready entries loses (R231, R488). -/
def State.chargeFetch (s : State) (h : Nat) (a : Arb) : State :=
  let c := s.creditOf h
  let s := s |>.putArbs (FMap.set arbReset s.arbs h a.count)
    |>.putCredit (if oneCredit ≤ c then FMap.set (fun _ => 0) s.credit h (c - oneCredit) else s.credit)
    |>.putTaken (FMap.set (fun _ => 0) s.taken h (s.takenOf h + 1))
    |>.putFetchLeft (s.fetchLeft - 1) |>.putRotLast h |>.putRotFirst (s.rotFirst.or (some h))
  if oneCredit ≤ c ∧ (s.readyQueues h).isEmpty then s.putCredit (FMap.set (fun _ => 0) s.credit h 0) else s

/-- SQ_FETCH: the entry `e` of queue `q`, when arbitration picks that queue now (R91 to R93, R230,
R231, R481, R488, R530). -/
def execSqFetch (q : Nat) (e : BitVec 512) (pre : List Byte) (s : State) : Res :=
  .next (
    if s.gap ∨ s.fetchLeft = 0 ∨ 384 < pre.length ∨ !s.domeOn 1 then s else
    match s.holderPick with
    | none => s
    | some h =>
      match s.queuePick h with
      | none => s
      | some (n, a) =>
        match s.sq q with
        | none => s
        | some x =>
          if n ≠ q then s
          else if hazOpcode (fld e 0 8) ∧ x.hostId ≠ 0 then
            match s.armHaz e with
            | none => s.putHazStall (s.hazStall ++ [q])
            | some (i, s') =>
              if (s.alloc 63 0 false).isNone then s
              else ((s'.putHazStall (s'.hazStall.filter (· ≠ q))).fetchEntry q x e pre (some i)).chargeFetch h a
          else if (s.alloc 63 0 false).isNone then s
          else (s.fetchEntry q x e pre none).chargeFetch h a)

/-- The credits of a tick boundary: each holder with a ready entry and a weight takes its part of the
capacity, limited to the capacity and its cap; every other holder has none (R488). -/
def State.shareBoundary (s : State) : State :=
  let c := 64 * s.periodUs
  let hs := s.readyHolders.filter (fun h => 1 ≤ s.weight h)
  let w := (hs.map s.weight).sum
  let give (h : Nat) : Nat × Nat :=
    let d := min (s.creditOf h + c * s.weight h * oneCredit / w) (c * oneCredit)
    (h, if s.cap h = 0 then d else min d (s.cap h * oneCredit))
  s |>.putCredit ((hs.map give).filter (fun p => p.2 ≠ 0)) |>.putTaken [] |>.putFetchLeft (if s.gap then 0 else c)
    |>.putRotLast (s.rotFirst.getD s.rotLast) |>.putRotFirst none

/-! ## Resets -/

/-- Whether a command belongs to an instance. -/
def Reset.holds (x : Reset) (d : Cmd) : Bool :=
  decide (d.func = x.func) &&
  match x.slice with
  | none => true
  | some v => decide (d.slice = some v)

/-- A token that no reset in progress carries: any, by the free stream. -/
def tokenFrom (used : List (BitVec 15)) : Nat → BitVec 15 → BitVec 15
  | 0, t => t
  | n + 1, t => if t ∈ used then tokenFrom used n (t + 1) else t

/-- A claim of the instance that waits for marks or space ends with 0x05 (R490). -/
def State.endWait (s : State) (d : Cmd) : State :=
  match d.settle with
  | .claimed _ _ _ _ _ c t => (s.releaseEntry d).claimEvent (some (c, t)) 0x05
  | .space _ _ _ req => ((s.cqWaiting d (· - 1)).releaseEntry d).claimEvent req 0x05
  | _ => s

/-- A reset of an instance begins (R490, R491); a second one of the instance ends with the first, as what both are: one of them a
Function Level Reset makes it one (R492, DESIGN CHOICE, log entry 143). -/
def State.startReset (s : State) (kind f : Nat) (slice : Option Nat) (srst : Nat) : State :=
  if s.resets.any (fun r => decide (r.func = f) && decide (r.slice = slice)) then
    s.putResets (s.resets.map (fun r => if r.func = f ∧ r.slice = slice then { r with kind := min r.kind kind } else r))
  else
  let (v, s) := s.takeFree
  let used := s.resets.map (fun r => r.token)
  let tok := tokenFrom used (used.length + 1) (BitVec.ofNat 15 v.toNat)
  let x : Reset := { token := tok, kind := kind, func := f, slice := slice, srst := srst, reported := false }
  let s := (s.putResets (s.resets ++ [x]) : State)
  let s := if slice.isNone then (s.dropStage f).dropHandover else s
  let s := (s.cmds.filter x.holds).foldl State.endWait s
  let s := if slice.isNone then (s.dropSessions (fun y => y.func = some f)).setCtrl f { s.ctrl f with aer := [] } else s
  s.unitEvent (BitVec.ofNat 6 (s.rfld (sta 0x15 0) 0 6)) (s.rfld (sta 0x15 0) 6 6) 0x40
    (kind % 4 + f % 2048 * 2 ^ 2 + slice.getD 0 % 4096 * 2 ^ 13 + tok.toNat * 2 ^ 25)

/-- FUNCTION_LEVEL_RESET (R490). -/
def execFunctionLevelReset (func : Nat) (s : State) : Res :=
  .next (if s.funcExists func ∧ !s.boot.down then (s.endTest 2).startReset 0 func none 0 else s)

/-- CONTROLLER_DISABLE: CC.EN goes from 1 to 0 (R217, R490). -/
def execControllerDisable (func : Nat) (s : State) : Res :=
  .next (
    let c := s.ctrl func
    if !s.funcExists func ∨ !bit c.cc 0 then s
    else if s.boot.down then s.setCtrl func { c with cc := setBit c.cc 0 false, rdy := false }
    else if !c.rdy then s.setCtrl func { c with cc := setBit c.cc 0 false, cfs := false }
    else ((s.endTest 2).setCtrl func { c with cc := setBit c.cc 0 false }).startReset 1 func none 0)

/-- Whether a cipher request fills frames whose tags name a function (R133, R492). -/
def State.xtsOf (s : State) (f : Nat) (r : Req) : Bool :=
  decide (r.prim = .xts) && decide (fld (r.op 1) 60 4 = 2) &&
  (match s.moverLoc (r.op 5) (32 * fld (r.op 4) 0 7) with
    | some l => (List.range (fld (r.op 4) 0 7)).any (fun i => decide (ofBytes (((s.readLoc l (32 * fld (r.op 4) 0 7)).drop (32 * i + 2)).take 2) = f))
    | none => false)

/-- A host transfer, cipher request, claim or squash of the instance is queued or running (R492). -/
def State.resetBusy (s : State) (x : Reset) : Bool :=
  s.reqs.any (fun r => s.xtsOf x.func r ||
    (decide (r.prim = .dmin) || decide (r.prim = .dmout) || decide (r.prim = .gate) || decide (r.prim = .squash)) &&
    (match s.cmdOf (r.op 0) with
      | some d => x.holds d
      | none => false))

/-- A program in progress on some die holds frames of the function (R492). -/
def State.framesBusy (s : State) (f : Nat) : Bool :=
  s.dies.any (fun p => match p.2.op.bind s.opReq with
    | some q => (s.progFuncs q).contains f
    | none => false)

/-- The queues of an instance are deleted. -/
def State.dropQueues (s : State) (x : Reset) : State :=
  let mine (func : Nat) (sl : Option Nat) : Bool :=
    decide (func = x.func) && (x.slice.isNone || decide (sl = x.slice))
  (s.putSqs (s.sqs.filter (fun p => match p.2 with
      | some q => !mine q.func q.slice
      | none => true))).putCqs (s.cqs.filter (fun p => match p.2 with
      | some q => !mine q.func q.slice
      | none => true))

/-- A controller after its reset: configuration of the function remains, the rest is as at reset. -/
def Ctrl.afterReset (c : Ctrl) (flr : Bool) : Ctrl :=
  { ctrlReset 0 with
    cc := if flr then 0 else setBit c.cc 0 false
    aqa := if flr then 0 else c.aqa
    asq := if flr then 0 else c.asq
    acq := if flr then 0 else c.acq
    online := c.online, vq := c.vq, vi := c.vi, numVfs := c.numVfs, pasid := c.pasid }

/-- RESET_END: the reset with token `tok` ends (R492).  At the end of a controller reset, the device stops for the image
that waits for one; it starts again as after a controller fault reset (R169, R178, DEDUCED, log entry 71). -/
def execResetEnd (tok : BitVec 15) (s : State) : Res :=
  .next (match s.resets.find? (fun r => r.token = tok) with
    | none => s
    | some x =>
      if !x.reported ∨ (s.cmds.any (fun d => x.holds d && d.unsettled)) ∨ s.resetBusy x ∨ s.framesBusy x.func then s
      else
        let s := (s.dropQueues x).putResets (s.resets.filter (fun r => r.token ≠ tok))
        match x.slice with
        | some _ => s
        | none =>
          let s := s.setCtrl x.func ((s.ctrl x.func).afterReset (x.kind = 0))
          let s := ((s.putResets (s.resets.filter (fun r => r.func ≠ x.func))).putEvents
              (s.events.filter (fun p => p.1 ≠ x.func)) : State)
          if x.kind = 1 ∧ s.bankWaits then s.stopDevice else s)

/-! ## Shutdown and configuration -/

/-- Whether a controller still has fetched commands to settle; an Asynchronous Event Request waits for its event (R217). -/
def State.ctrlBusy (s : State) (f : Nat) : Bool :=
  s.cmds.any (fun d => decide (d.func = f) && !(d.admin && decide (fld d.sqe 0 8 = 0x0C)) && d.unsettled)

/-- A controller whose shutdown was requested and whose commands have settled reports SHST 10b (R217). -/
def State.finishShutdown (s : State) (f : Nat) : State :=
  let c := s.ctrl f
  if c.shst = 1 ∧ !s.ctrlBusy f then s.setCtrl f { c with shst := 2 } else s

/-- Every shutdown that can end. -/
def State.finishShutdowns (s : State) : State :=
  (s.ctrls.map (·.1)).foldl State.finishShutdown s

/-- What a read of a function's configuration space gives (R213 to R215). -/
def State.cfgValue (s : State) (f : Nat) (x : CfgField) : Nat :=
  match x with
  | .classCode => 0x010802
  | .bar01 => 0x100000
  | .bar45 => 0x10000
  | .doorbells => 0x1000
  | .msixTable => 0
  | .msixPba => 0x8000
  | .totalVfs => if s.isPf f then s.portFuncs - 1 else 0
  | .numVfs => if s.isPf f then (s.ctrl f).numVfs else 0
  | .ari => 1
  | .msixVectors => if s.isPf f then 2048 else (s.ctrl f).vi
  | .pasidWidth => 20
  | .pasidEnabled => b2n (s.ctrl f).pasid
  | .atsUnit => 4096
  | .atsDepth => 32
  | .tphInMsix => 1
  | .tagBits => 10
  | .maxPayload => 512
  | .maxReadRequest => 4096
  | .aspmL1 => 1
  | .l11 => 1
  | .l12 => 1
  | .l0p => 1
  | .d3hot => 1
  | .ltr => 1
  | .aer => 1
  | .ecrc => 1
  | .intx => 0
  | .msi => 0
  | .pri => 0
  | .l0s => 0
  | .ptm => 0
  | .resizableBar => 0

/-- CONFIGURATION_REQUEST (R213 to R215, R482, R484, R492). -/
def execConfigurationRequest (func : Nat) (op : CfgOp) (s : State) : Res :=
  .next (
    if !s.isPf func ∧ !s.funcExists func then s
    else if s.resets.any (fun r => decide (r.func = func) && decide (r.kind = 0)) then
      s.putOut (s.out ++ [.cfg func true none])
    else
      let c := s.ctrl func
      let s := s.putOut (s.out ++ [.cfg func false (match op with
        | .read x => some (s.cfgValue func x)
        | _ => none)])
      match op with
      | .read _ => s
      | .vfEnable n => if s.isPf func ∧ n < s.portFuncs then s.setCtrl func { c with numVfs := n } else s
      | .pasidEnable on => s.setCtrl func { c with pasid := on })

end Sys2Proof.Machine
end

