-- ==== Sys2Proof/Machine/Span.lean ====
section
/-! DEFINITION. Span: flits and credits (R367 to R372), messages, requests and responses (R137, R138,
R204, R208, R383 to R396), and link operations (R139, R365, R374, R375). -/

namespace Sys2Proof.Machine

/-! ## Registers -/

/-- Station offset of a register of port `p`. -/
def spReg (p off : Nat) : Nat := sta 0xD (0x100 + 0x40 * p + off)

/-- SPAN_LINK.STATE: 0 disabled, 1 detect, 2 training, 3 up, 4 retraining, 5 down. -/
def State.linkState (s : State) (p : Nat) : Nat := s.rfld (spReg p 0) 0 3
def State.setLink (s : State) (p st : Nat) : State := s.setRfld (spReg p 0) 0 3 st
def State.linkUp (s : State) (p : Nat) : Bool := decide (s.linkState p = 3)

/-- SPAN_ROUTE of member `m`. -/
def routeReg (m : Nat) : Nat := sta 0xD (0x1000 + 8 * m)
def State.route (s : State) (m : Nat) : W64 := s.reg (routeReg m)
def State.memberLost (s : State) (m : Nat) : Bool := bit (s.route m) 6

/-- Negotiated version with a member: major × 16 + minor. -/
def State.pairVer (s : State) (m : Nat) : Nat := fld (s.route m) 28 4 * 16 + fld (s.route m) 24 4

/-- Member identifiers of members, and of the two managers. -/
def isMemberId (m : Nat) : Bool := decide (m ≤ 0x41)
def memberIds : List Nat := List.range 66

/-- A message dropped under R378 or R391 counts. -/
def State.countDrop (s : State) (p : Nat) : State := s.countRfld (spReg p 0) 48 15 1

/-! ## The link layer -/

/-- Remove the first element that satisfies a test. -/
def takeFirst (f : Nat → Bool) : List Nat → Option (Nat × List Nat)
  | [] => none
  | x :: xs => if f x then some (x, xs) else (takeFirst f xs).map (fun r => (r.1, x :: r.2))

/-- Send waiting flits: the oldest whose VC holds a credit, while the replay buffer of 256 has room
(R369, R371). -/
def SpanPort.pump : Nat → SpanPort → SpanPort
  | 0, x => x
  | n + 1, x =>
    if 256 ≤ x.unacked.length then x else
    match takeFirst (fun vc => 0 < x.credit.getD vc 0) x.queue with
    | some (vc, q) =>
      SpanPort.pump n { x with
        queue := q, unacked := x.unacked ++ [(x.txSeq, vc)], txSeq := (x.txSeq + 1) % 4096,
        credit := x.credit.set vc (x.credit.getD vc 0 - 1) }
    | none => x

/-- The flits that wait on a port whose link is up are sent. -/
def State.pumpPort (s : State) (p : Nat) : State :=
  if s.linkUp p then s.setSport p (SpanPort.pump 256 (s.sport p)) else s

/-- Flits of a message: the first body holds the header and 172 bytes, each further one 236 (R383). -/
def msgFlits (len : Nat) : Nat := if len ≤ 172 then 1 else 1 + (len - 172 + 235) / 236

/-- Virtual channel of a message (R368, R384). -/
def msgVc (m : SpanMsg) : Nat := if m.typ.toNat < 0x10 then 2 else if m.resp then 1 else 0

/-- A message goes out on a port. -/
def State.sendMsg (s : State) (p : Nat) (m : SpanMsg) : State :=
  let x := s.sport p
  let s := s.setSport p { x with queue := x.queue ++ List.replicate (msgFlits m.payload.length) (msgVc m) }
  (s.putOut (s.out ++ [.span p m]) : State).pumpPort p

/-- A received message has been moved on, and its flits' credits return to the sender (R371). -/
def State.creditBack (s : State) (p : Nat) (m : SpanMsg) : State :=
  let x := s.sport p
  let n := msgFlits m.payload.length
  let vc := msgVc m
  (s.setSport p { x with held := x.held.set vc (x.held.getD vc 0 - n) }).putOut (s.out ++ [.credit p vc n])

/-- The link enters retraining (R372). -/
def State.retrain (s : State) (p : Nat) : State := if s.linkUp p then s.setLink p 4 else s

/-- Ticks in a number of microseconds, rounded up. -/
def State.usTicks (s : State) (us : Nat) : Nat := (us + s.periodUs - 1) / s.periodUs

/-- FLIT_RECEIPT: a flit arrives at a port (R367, R369, R371, R372). -/
def execFlitReceipt (p : Nat) (f : Flit) (s : State) : Res :=
  .next (
    if !s.spanPresent p ∨ !s.linkUp p then s else
    let x := s.sport p
    let nakIt (s : State) : State :=
      let s := s.putOut (s.out ++ [.ack p (s.sport p).rxSeq true])
      let naks := (s.sport p).naks.filter (fun t => s.tick.toNat - t.toNat < s.usTicks 1000) ++ [s.tick]
      let s := s.setSport p { s.sport p with naks := naks }
      if 16 < naks.length then s.retrain p else s
    if !f.good then nakIt (s.countRfld (spReg p 0x10) 0 32 1)
    else
      let s := if f.fixed then s.countRfld (spReg p 0x10) 32 32 1 else s
      let age (n : Nat) : Nat := (f.ack.toNat + 4096 - n) % 4096
      let un := x.unacked.filter (fun e => 2048 ≤ age e.1)
      let x := { x with unacked := un }
      let x := if f.credVc.toNat < 3 then
          { x with credit := x.credit.set f.credVc.toNat (x.credit.getD f.credVc.toNat 0 + f.cred.toNat) } else x
      let s := s.setSport p x
      let s := if f.nak then s.countRfld (spReg p 0) 32 16 1 else s
      let s := if f.kind = 1 then
          (if f.seq.toNat = (x.rxSeq + 1) % 4096 ∧ f.vc.toNat < 3 then
            let s := s.setSport p { x with rxSeq := f.seq.toNat, since := (x.since + 1) % 32,
                                           held := x.held.set f.vc.toNat (x.held.getD f.vc.toNat 0 + 1) }
            if x.since + 1 = 32 then s.putOut (s.out ++ [.ack p f.seq.toNat false]) else s
          else if f.seq.toNat = x.rxSeq then s
          else nakIt s) else s
      s.pumpPort p)

/-! ## Messages -/

/-- A message of this device to a member; before a version is set it names the device's highest (R388, DEDUCED, log entry 140). -/
def State.mkMsg (s : State) (dst typ : Nat) (hw : List W64) (payload : List Byte) : SpanMsg where
  dst := BitVec.ofNat 8 dst
  src := if bit (s.reg (sta 0x17 0x18)) 5 then BitVec.ofNat 8 s.ownMember else 0xFF
  typ := BitVec.ofNat 8 typ
  flags := 0
  reqNo := 0
  gen := BitVec.ofNat 32 (s.rfld (sta 0xD 0x18) 0 32)
  hops := 0
  level := 2
  resp := false
  posted := false
  ver := BitVec.ofNat 8 (if s.pairVer dst = 0 then 0x13 else s.pairVer dst)
  status := 0
  hw0 := hw.getD 0 0
  hw1 := hw.getD 1 0
  hw2 := hw.getD 2 0
  hw3 := hw.getD 3 0
  payload := payload

/-- The response to a request (R383). -/
def State.respTo (s : State) (m : SpanMsg) (status : Nat) (hw : List W64) (payload : List Byte) : SpanMsg :=
  { s.mkMsg m.src.toNat m.typ.toNat hw payload with
    reqNo := m.reqNo, gen := m.gen, level := m.level, resp := true, status := BitVec.ofNat 8 status, src := m.dst,
    ver := m.ver, flags := m.flags }

/-- A response goes back: by the route to its destination, or by the port of the request when the
source holds no identifier; one that no route takes is dropped (R395). -/
def State.sendBack (s : State) (p : Nat) (m : SpanMsg) : State :=
  if isMemberId m.dst.toNat then
    match s.routePort m.dst.toNat with
    | some q => s.sendMsg q m
    | none => s
  else s.sendMsg p m

/-- A posted message to both managers, by routes that avoid a port (R384, R394). -/
def State.postManagers (s : State) (typ : Nat) (hw : List W64) (payload : List Byte) (avoid : Option Nat) : State :=
  ([0, 1].filter (fun d => d ≠ s.ownMember ∨ !bit (s.reg (sta 0x17 0x18)) 5)).foldl (fun s d =>
    match s.routePort d with
    | some q => if some q = avoid ∨ !s.linkUp q then s
        else s.sendMsg q { s.mkMsg d typ hw payload with posted := true }
    | none => s) s

/-- Forward a message that names another member (R378, R382). -/
def State.forwardMsg (s : State) (p : Nat) (m : SpanMsg) : State :=
  if m.dst = 0xFE then
    match (List.range 4).find? (fun q => q ≠ p ∧ s.linkUp q) with
    | some q => if m.hops ≤ 1 then s else s.sendMsg q { m with hops := m.hops - 1 }
    | none => s
  else if isMemberId m.dst.toNat then
    match s.routePort m.dst.toNat with
    | some q => s.sendMsg q m
    | none => s
  else s.countDrop p

/-- Whether a message is for this device. -/
def State.forMe (s : State) (m : SpanMsg) : Bool :=
  (decide (m.dst = 0xFE) && decide (m.hops = 1)) ||
  (bit (s.reg (sta 0x17 0x18)) 5 && decide (m.dst.toNat = s.ownMember))

/-- A message row: at an up link of a present port, a message of the row's types for this device is
handled, another device's is forwarded, and anything else is not this row's.  A message that the device cannot take now
(none) holds its link credit (R138, R371). -/
def onMsgTry (s : State) (p : Nat) (m : SpanMsg) (ok : Bool) (f : State → Option State) : Res :=
  .next (if !s.spanPresent p || !s.linkUp p || !ok then s
    else if s.forMe m then
      match f s with
      | some s => s.creditBack p m
      | none => s
    else (s.forwardMsg p m).creditBack p m)

/-- A message row whose messages are always taken. -/
def onMsg (s : State) (p : Nat) (m : SpanMsg) (ok : Bool) (f : State → State) : Res := onMsgTry s p m ok (fun s => some (f s))

/-- Whether some grain of a framed payload fails its guard (R196, R204). -/
def framedBad : Nat → List Byte → Bool
  | 0, _ => false
  | n + 1, bs =>
    if bs.isEmpty then false
    else
      let g := bs.take 4096
      let t := (bs.drop 4096).take 32
      decide (guard g t ≠ ofBytes ((t.drop 24).take 8)) || framedBad n (bs.drop 4128)

/-! ## sreq -/

/-- First version of a message type (R384). -/
def typeVer (t : Nat) : Nat :=
  match t with
  | 0x15 => 0x12
  | 0x17 => 0x11
  | _ => 0x10

def Req.spDst (r : Req) : Nat := fld (r.op 0) 0 8
def Req.spTyp (r : Req) : Nat := fld (r.op 0) 8 8
def Req.spFlags (r : Req) : Nat := fld (r.op 0) 16 8
def Req.spLen (r : Req) : Nat := fld (r.op 2) 0 32
def Req.spMax (r : Req) : Nat := fld (r.op 2) 32 32

/-- The outcome with which Span turns an sreq away, if any (R137, R204, R384, R385, R388, R395,
R396). -/
def State.sreqRefuse (s : State) (r : Req) : Option Byte :=
  let d := r.spDst
  let t := r.spTyp
  let fl := r.spFlags
  if (t < 0x10 ∧ t ≠ 5) ∨ !isMemberId d ∨ (fl % 2 = 1 ∧ t ≠ 0x10) ∨ 262144 < r.spLen ∨
      (fl / 2 % 2 = 1 ∧ r.spLen % 4128 ≠ 0) ∨ r.loaderBad ∨
      (0 < r.spLen ∧ (s.moverLoc (r.op 1) r.spLen).isNone) ∨
      (0 < r.spMax ∧ (s.moverLoc (r.op 3) (min r.spMax 262144)).isNone) then some ocRange
  else if s.memberLost d then some 0x50
  else if t ≠ 5 ∧ s.pairVer d < typeVer t then some 0x53
  else match s.routePort d with
    | some p => if s.linkUp p then none else some 0x51
    | none => some 0x51

/-- The message of an sreq. -/
def State.sreqMsg (s : State) (r : Req) (num gen : BitVec 32) : SpanMsg :=
  let payload := match s.moverLoc (r.op 1) r.spLen with
    | some l => if r.spLen = 0 then [] else s.readLoc l r.spLen
    | none => []
  { s.mkMsg r.spDst r.spTyp [r.op 4, r.op 5, r.op 6, r.op 7] payload with
    flags := BitVec.ofNat 8 r.spFlags, reqNo := num, gen := gen, level := r.level }

/-- Span takes an sreq: the port numbers it and sends it (R137, R389). -/
def State.sreqTake (s : State) (r : Req) : State :=
  match s.sreqRefuse r with
  | some oc => s.fail r oc
  | none =>
    match s.routePort r.spDst with
    | none => s.fail r 0x51
    | some p =>
      let touched := match s.moverLoc (r.op 1) r.spLen with
        | some l => if r.spLen = 0 then [] else [(l, r.spLen)]
        | none => []
      s.withRead r touched (fun s =>
        let num := BitVec.ofNat 32 (FMap.get (fun _ => 1) s.spanNum r.spDst)
        let gen := BitVec.ofNat 32 (s.rfld (sta 0xD 0x18) 0 32)
        let m := s.sreqMsg r num gen
        let x : SpanTx := { core := r.core, ticket := r.ticket, num := num, gen := gen, dst := r.spDst, port := p, start := s.tick }
        let s := (s.putSpanNum (FMap.set (fun _ => 1) s.spanNum r.spDst (num.toNat + 1))).putSpanOut (s.spanOut ++ [x])
        (s.setReq { r with phase := .started }).sendMsg p m)

/-- The request of an outstanding sreq. -/
def State.txReq (s : State) (x : SpanTx) : Option Req := s.findReq x.core x.ticket

/-- An outstanding sreq ends. -/
def State.endTx (s : State) (x : SpanTx) (oc : Byte) (ws : List W64) : State :=
  let s := s.putSpanOut (s.spanOut.filter (fun y => y ≠ x))
  match s.txReq x with
  | some r => s.complete r oc ws
  | none => s

/-- A durability credit of an accepted GWRITE response (R208). -/
def State.applyCredit (s : State) (w : W64) (setsP : Bool) : State :=
  (List.range (fld w 56 8 + 1)).foldl (fun s i =>
    if setsP then s.setP (fld w 0 56 + i) else s.takeRem (fld w 0 56 + i)) s

/-! ## Arrivals -/

/-- Bytes of the response log (R398). -/
def State.rlogSize (s : State) : Nat := 2 ^ 26 * 2 ^ s.rfld (sta 0xD 0x30) 0 4

/-- DRAM base of the response log. -/
def State.rlogBase (s : State) : Nat := s.rfld (sta 0xD 0x30) 21 18 * 2 ^ 21

/-- Append a response payload to the log; it wraps at the log's end. -/
def State.rlogAppend (s : State) (bs : List Byte) : State :=
  let at0 := s.rlogPos % s.rlogSize
  let first := bs.take (s.rlogSize - at0)
  let s := if first.isEmpty then s else s.writeLoc (.dram (s.rlogBase + at0)) first
  let rest := bs.drop (s.rlogSize - at0)
  let s := if rest.isEmpty then s else s.writeLoc (.dram s.rlogBase) rest
  s.putRlogPos (s.rlogPos + bs.length)

/-- A payload of the log, while nothing has overwritten it. -/
def State.rlogRead (s : State) (pos len : Nat) : Option (List Byte) :=
  if s.rlogPos ≤ pos + s.rlogSize then
    some ((List.range len).map (fun i => FMap.get zeroByte s.dram (s.rlogBase + (pos + i) % s.rlogSize)))
  else none

/-- A request is answered by the port itself with a status (R386). -/
def State.portAnswer (s : State) (p : Nat) (m : SpanMsg) (status : Nat) : State :=
  s.sendBack p (s.respTo m status [] [])

/-- The record of a source never holds more than 4,096 entries (R390): a completed one goes, the lowest-numbered of them
(DESIGN CHOICE, log entry 129); none where all are pending. -/
def addDup (ds : List DupEntry) (e : DupEntry) : Option (List DupEntry) :=
  let mine := ds.filter (fun d => d.src = e.src)
  if mine.length < 4096 then some (ds ++ [e])
  else
    match ((mine.filter (fun d => d.done)).map (fun d => d.num.toNat)).min? with
    | some low => some ((ds.filter (fun d => !(decide (d.src = e.src) && decide (d.num.toNat = low)))) ++ [e])
    | none => none

/-- A new request becomes an arrival: descriptor and payload buffers of class 62, an event, and a
pending entry (R138, R387, R481); without a free buffer or entry it waits, and link credit is withheld. -/
def State.spanNew (s : State) (p : Nat) (m : SpanMsg) : Option State :=
  let arr := s.reg (sta 0xD (0x2000 + 8 * m.typ.toNat))
  match s.alloc 62 0 false with
  | none => none
  | some (h, s1) =>
    let pool := poolFor m.payload.length
    let pay : Option (Option W64 × State) :=
      if m.payload.isEmpty then some (none, s1)
      else ((s1.alloc 62 pool false).or (s1.alloc 62 pool true)).map (fun r => (some r.1, r.2))
    match pay with
    | none => none
    | some (ph, s2) =>
      let desc := fld h 0 48
      let core := BitVec.ofNat 6 (fld arr 0 6 + m.reqNo.toNat % 2 ^ fld arr 6 2)
      let ev := mkEvent (fld arr 8 6) m.level.toNat (0x4C + p) 0 (s2.spanArr % 2 ^ 18 + desc / 64 % 2 ^ 22 * 2 ^ 18)
      let hw := [m.hw0, m.hw1, m.hw2, m.hw3]
      let words := [w64 (m.src.toNat + m.typ.toNat * 2 ^ 8 + m.flags.toNat * 2 ^ 16 + m.reqNo.toNat * 2 ^ 32),
        w64 (m.gen.toNat + m.payload.length * 2 ^ 32), ph.getD 0, s2.tick] ++ hw
      let s := s2.writeLoc (.tun desc) (words.flatMap (fun (w : W64) => toBytes 8 w.toNat) ++ List.replicate 448 0)
      let s := match ph with
        | some x => (match s.moverLoc x m.payload.length with
          | some l => s.writeLoc l m.payload
          | none => s)
        | none => s
      let a : SpanArr := { event := ev, port := p, src := m.src.toNat, typ := m.typ.toNat, flags := m.flags.toNat,
                           num := m.reqNo, gen := m.gen, level := m.level, hw := hw, desc := desc, pay := ph,
                           len := m.payload.length }
      let e : DupEntry := { src := m.src.toNat, num := m.reqNo, typ := m.typ.toNat, done := false, status := 0,
                            hw := [], pos := 0, len := 0 }
      (addDup s.dups e).map (fun ds =>
        (((s.putSpanIn (s.spanIn ++ [a])).putSpanArr ((s.spanArr + 1) % 2 ^ 18)).putDups ds).postWaiting core ev)

/-- The recorded response of a completed request is sent again (R391). -/
def State.resend (s : State) (p : Nat) (m : SpanMsg) (e : DupEntry) : State :=
  match s.rlogRead e.pos e.len with
  | some bs => s.sendBack p (s.respTo m e.status.toNat e.hw bs)
  | none => s.portAnswer p m 0x5E

/-- SPAN_ARRIVAL: a request of type 0x10 to 0xFF (R138, R204, R386, R387, R391). -/
def execSpanArrival (p : Nat) (m : SpanMsg) (s : State) : Res :=
  onMsgTry s p m (!m.resp && decide (0x10 ≤ m.typ.toNat)) (fun s =>
    let src := m.src.toNat
    if !bit (s.reg (sta 0xD 0)) 0 then some (s.portAnswer p m 0x5F)
    else if !bit (s.reg (sta 0xD (0x2000 + 8 * m.typ.toNat))) 14 then some (s.portAnswer p m 0x5A)
    else
      let g := FMap.get (fun _ => 0) s.dupGen src
      if m.gen.toNat < g then some (s.countDrop p)
      else
        let s := if g < m.gen.toNat then
            ((s.putDups (s.dups.filter (fun d => d.src ≠ src))).putDupGen (FMap.set (fun _ => 0) s.dupGen src m.gen.toNat))
          else s
        let mine := s.dups.filter (fun d => d.src = src)
        match mine.find? (fun d => d.num = m.reqNo) with
        | some e => some (if e.done then s.resend p m e else s)
        | none =>
          if !mine.isEmpty && mine.all (fun d => decide (m.reqNo.toNat < d.num.toNat)) then some (s.portAnswer p m 0x5D)
          else if bit m.flags 1 && (decide (m.payload.length % 4128 ≠ 0) || framedBad 64 m.payload) then some (s.portAnswer p m 0x27)
          else s.spanNew p m)

/-! ## sresp and slink -/

/-- The arrival is answered: the descriptor is released, the record completed and the response sent
(R138, R390). -/
def State.answer (s : State) (a : SpanArr) (status : Nat) (hw : List W64) (payload : List Byte) : State :=
  let pos := s.rlogPos
  let s := if payload.isEmpty then s else s.rlogAppend payload
  let s := (s.putSpanIn (s.spanIn.filter (fun x => x.event ≠ a.event))).putDups
      (s.dups.map (fun (d : DupEntry) => if d.src = a.src ∧ d.num = a.num then
      { d with done := true, status := BitVec.ofNat 8 status, hw := hw, pos := pos, len := payload.length } else d))
  let s := s.unref a.desc
  let m : SpanMsg := { s.mkMsg a.src a.typ hw payload with
    reqNo := a.num, gen := a.gen, level := a.level, resp := true, status := BitVec.ofNat 8 status,
    flags := BitVec.ofNat 8 a.flags }
  s.sendBack a.port m

/-- Span takes an sresp (R138). -/
def State.srespTake (s : State) (r : Req) : State :=
  let n := fld (r.op 2) 0 32
  match s.spanIn.find? (fun a => a.event = r.op 0) with
  | none => s.fail r ocRange
  | some a =>
    if 262144 < n ∨ r.loaderBad ∨ (0 < n ∧ (s.moverLoc (r.op 1) n).isNone) then s.fail r ocRange
    else
      let l := if n = 0 then none else s.moverLoc (r.op 1) n
      s.withRead r (match l with
        | some x => [(x, n)]
        | none => []) (fun s =>
          let bs := match l with
            | some x => s.readLoc x n
            | none => []
          (s.answer a (fld (r.op 3) 0 8) [r.op 4, r.op 5, r.op 6, r.op 7] bs).fail r ocDone)

/-! ## Links up and down -/

/-- The routes through a port that has gone down are exchanged with their alternates, and are no
longer valid (R394). -/
def State.exchangeRoutes (s : State) (p : Nat) : State :=
  memberIds.foldl (fun s m =>
    let v := s.route m
    if bit v 2 && decide (fld v 0 2 = p) then
      let v' := setFld (setFld (setFld v 0 2 (fld v 3 2)) 3 2 p) 2 1 (fld v 5 1)
      let v' := setFld (setFld (setFld v' 5 1 0) 8 6 (fld v 16 6)) 16 6 (fld v 8 6)
      s.setReg (routeReg m) v'
    else if bit v 5 && decide (fld v 3 2 = p) then s.setReg (routeReg m) (setFld v 5 1 0)
    else s) s

/-- Requests sent by a port are sent again by the alternate route (R396). -/
def State.resendVia (s : State) (p : Nat) : State :=
  (s.spanOut.filter (fun x => x.port = p)).foldl (fun s x =>
    match s.routePort x.dst, s.txReq x with
    | some q, some r =>
      if q ≠ p ∧ s.linkUp q then
        (s.putSpanOut (s.spanOut.map (fun y => if y = x then { x with port := q } else y)) : State).sendMsg q
          (s.sreqMsg r x.num x.gen)
      else s
    | _, _ => s) s

/-- Requests of the resident set that a port sent are sent again by the alternate route, with their numbers (R396). -/
def State.resendOwn (s : State) (p : Nat) : State :=
  (s.resOut.filter (fun x => x.port = p)).foldl (fun (s : State) x =>
    match s.routePort x.dst with
    | some q =>
      if q ≠ p ∧ s.linkUp q then
        (s.putResOut (s.resOut.map (fun y => if y = x then { x with port := q } else y)) : State).sendMsg q
          { s.mkMsg x.dst x.typ x.hw x.payload with reqNo := x.num, flags := BitVec.ofNat 8 x.flags, level := x.level }
      else s
    | none => s) s

/-- A RESTART that is due goes to a manager once its route is up; a manager below version 1.3 gets none (R384, R388). -/
def State.postRestart (s : State) : State :=
  s.restartDue.foldl (fun (s : State) d =>
    let gone (s : State) : State := s.putRestartDue (s.restartDue.filter (· ≠ d))
    if s.pairVer d < 0x13 then gone s
    else match s.routePort d with
      | some q => if s.linkUp q then
          (gone s).sendMsg q { s.mkMsg d 7 [w64 (s.rfld (sta 0xD 0x18) 0 32)] [] with posted := true } else s
      | none => s) s

/-- A link is down: LOST is posted, routes are exchanged and requests sent again (R394, R396). -/
def State.linkDown (s : State) (p st : Nat) : State :=
  let far := s.rfld (spReg p 0) 8 8
  let was := s.linkState p
  let s := (s.setLink p st).setSport p (portReset p)
  if was = 3 ∨ was = 4 then
    let s := s.exchangeRoutes p
    let s := s.postManagers 0x06 [w64 (p % 4 + far * 2 ^ 8)] [] (some p)
    (s.resendVia p).resendOwn p
  else s

/-- A manager's port begins to enumerate its chain: IDENT to the first hop (R139, R379). -/
def State.enumerate (s : State) (p : Nat) : State :=
  if s.isManager ∧ s.linkUp p then
    (s.setSport p { s.sport p with asked := 1 }).sendMsg p { s.mkMsg 0xFE 1 [] [] with hops := 1 }
  else s

/-- Span takes an slink (R139). -/
def State.slinkTake (s : State) (r : Req) : State :=
  let p := fld (r.op 0) 0 2
  let far := s.rfld (spReg p 0) 8 8
  let oc : Byte := if isMemberId far && s.memberLost far then 0x50 else ocDone
  match fld r.imm 0 4 with
  | 0 => s.complete r oc [w64 (s.linkState p)]
  | 1 => (s.retrain p).fail r oc
  | 2 => (s.linkDown p 0).fail r oc
  | 3 => (if s.linkState p = 0 then s.setLink p 1 else s).fail r oc
  | 4 => (s.enumerate p).fail r oc
  | _ => s.fail r ocRange

/-- LINK_RETRAINING (R372). -/
def execLinkRetraining (p : Nat) (s : State) : Res := .next (if s.spanPresent p then s.retrain p else s)

/-- LINK_DOWN (R372, R394, R396). -/
def execLinkDown (p : Nat) (s : State) : Res :=
  .next (if s.spanPresent p ∧ (s.linkState p = 3 ∨ s.linkState p = 4) then s.linkDown p 5 else s)

/-- LINK_RETRY: every 1 s a down link is tried again (R372). -/
def execLinkRetry (p : Nat) (s : State) : Res := .next (if s.spanPresent p ∧ s.linkState p = 5 then s.setLink p 2 else s)

/-- Whether this end trains as an initiator (R8). -/
def State.initiator (s : State) : Bool := s.isManager

/-- Whether this end leads the training (R374). -/
def State.leads (s : State) (r : TrainResult) : Bool :=
  if s.initiator = r.initiator then decide ((s.reg (sta 0x17 0x20)).toNat < r.serial.toNat) else s.initiator

/-- A port is disabled with an almanac record (R375, R377). -/
def State.disablePort (s : State) (p : Nat) : State :=
  (s.linkDown p 0).almRecord 0x60 [w64 p, s.reg (spReg p 8), 0, 0, 0]

/-- A worker forwards between two ports: of more, the lowest-numbered two stay (R375). -/
def State.keepTwo (s : State) : State :=
  (((List.range 4).filter (fun q => s.linkUp q)).drop 2).foldl State.disablePort s

/-- ID_ROLE. -/
def idRole : Nat := sta 0x17 0x18

/-- ANA group state before anything has settled it. -/
def groupReset (_ : Nat) : AnaGroup := { owned := false, state := 3, moved := none }
def State.anaGroup (s : State) (g : Nat) : AnaGroup := FMap.get groupReset s.groups g
def State.setGroup (s : State) (g : Nat) (x : AnaGroup) : State := s.putGroups (FMap.set groupReset s.groups g x)

/-- The enclosure record in the ingot store: enclosure identity, then bit 8 held, [7:0] side or
identifier (R376, R470, PRESUMED, log entry 30). -/
def enclRec : Nat := 0xE100040
def State.enclosure (s : State) : W64 := rdW s.ingot enclRec
def State.enclMember (s : State) : Option Nat :=
  let v := rdNum s.ingot (enclRec + 8) 8
  if v / 256 % 2 = 1 then some (v % 256) else none

/-- Write the enclosure record. -/
def State.setEncl (s : State) (id : W64) (who : Nat) : State :=
  (s.putIngot (wrNum (wrNum s.ingot enclRec 8 id.toNat) (enclRec + 8) 8 (who % 256 + 256))).setReg (sta 0xD 0x20) id

/-! ## A manager's side and identity -/

/-- The value that most of a list hold, the lowest among equal counts; none for an empty list. -/
def mostOf (xs : List Nat) : Option Nat :=
  xs.foldl (fun best x => match best with
    | none => some x
    | some b => if xs.count b < xs.count x ∨ (xs.count b = xs.count x ∧ x < b) then some x else best) none

/-- The peer manager among the members that answered: its hop and what IDENT returned. -/
def peerOf (ms : List EnumMember) : Option (Nat × EnumMember) :=
  (((List.range ms.length).zip ms).find? (fun p => p.2.manager)).map (fun p => (p.1 + 1, p.2))

/-- The side this manager settles: 0 for A, 1 for B (R376). -/
def State.settleSide (s : State) (peer : Option EnumMember) : Nat :=
  match s.enclMember with
  | some x => x % 2
  | none =>
    match peer with
    | none => 0
    | some e =>
      match e.side with
      | some b => if b then 0 else 1
      | none => if (s.reg (sta 0x17 0x20)).toNat < e.serial.toNat then 0 else 1

/-- The enclosure identity that a manager without a record adopts, or draws (R376). -/
def State.settleEncl (s : State) (peer : Option EnumMember) (workers : List EnumMember) : W64 × State :=
  match peer.bind (fun e => if e.encl = 0 then none else some e.encl) with
  | some x => (x, s)
  | none =>
    match mostOf ((workers.map (fun e => e.encl.toNat)).filter (· ≠ 0)) with
    | some x => (w64 x, s)
    | none => s.takeFree

/-- A manager settles its side and identity, and its role is confirmed (R376, R424). -/
def State.confirmManager (s : State) (peer : Option EnumMember) (workers : List EnumMember) : State :=
  let side := s.settleSide peer
  let s := if s.enclMember.isSome then s else
    let r := s.settleEncl peer workers
    r.2.setEncl r.1 side
  if bit (s.reg idRole) 5 then s else
    let s := ((s.setRfld idRole 4 1 side).setRfld idRole 8 8 side).setRfld idRole 5 1 1
    let st (g : Nat) : AnaGroup :=
      { owned := decide (g = side + 1), state := if g = side + 1 then 1 else 2, moved := none }
    (s.setGroup 1 (st 1)).setGroup 2 (st 2)

/-- A manager whose Span ports are all absent, disabled or down after a failed training is a confirmed manager with
no members (R8, R376). -/
def State.confirmAlone (s : State) : State :=
  if s.isManager && !bit (s.reg idRole) 5 &&
      (List.range 4).all (fun p => !s.spanPresent p || decide (s.linkState p = 0) || decide (s.linkState p = 5)) then
    s.confirmManager none []
  else s

/-! ## Training -/

/-- SPAN_TRAINING: the training of a port ends (R8, R365, R374, R375). -/
def execSpanTraining (p : Nat) (r : TrainResult) (s : State) : Res :=
  .next (
    if !s.spanPresent p ∨ !s.domeOn (2 + p) ∨ s.role = 0 ∨ (s.linkState p = 0 ∨ s.linkState p = 3) then s
    else if !r.up then
      (if s.linkState p = 4 then s.linkDown p 5 else s.setLink p 5).confirmAlone
    else
      let again := decide (s.linkState p = 4)
      let v := w64 (3 + r.width.toNat * 2 ^ 3 + r.speed.toNat * 2 ^ 5 + b2n (s.leads r) * 2 ^ 7 +
        s.rfld (spReg p 0) 8 8 * 2 ^ 8 + b2n r.initiator * 2 ^ 16)
      let s := (s.setReg (spReg p 0) (v + w64 (s.rfld (spReg p 0) 32 31 * 2 ^ 32))).setReg (spReg p 8) r.serial
      let s := if again then s else s.setSport p (portReset p)
      let s := (((s.setSport p { s.sport p with full := none }).slowLinks (decide (s.power = 3))).pumpPort p).postRestart
      if s.isManager ∧ r.initiator ∧ r.farPort ≠ p then s.disablePort p
      else if s.isWorker then s.keepTwo
      else s.enumerate p)

/-! ## Messages of the Span block -/

/-- PING: word 0 is echoed; the first one between managers sets their version (R384, R388). -/
def execPing (p : Nat) (m : SpanMsg) (s : State) : Res :=
  onMsg s p m (!m.resp && decide (m.typ = 5)) (fun s =>
    let s := if isMemberId m.src.toNat ∧ s.pairVer m.src.toNat = 0 then
        s.setRfld (routeReg m.src.toNat) 24 8 (min 0x13 m.ver.toNat) else s
    s.sendBack p (s.respTo m 0 [m.hw0] []))

/-- Dies fitted, and raw capacity in GiB. -/
def State.diesFitted (s : State) : Nat :=
  ((List.range 32).map (fun ch => popTo (s.reg (sta (0x40 + ch) 0x10)).toNat 64)).sum
def State.rawGib (s : State) : Nat :=
  s.diesFitted * s.fam.planes * s.fam.blocks * (if s.fam.qlc then s.fam.pagesQlc else s.fam.pagesTlc) * s.fam.halves * 16384 / 2 ^ 30

/-- IDENT (R378, R384). -/
def execIdent (p : Nat) (m : SpanMsg) (s : State) : Res :=
  onMsg s p m (!m.resp && decide (m.typ = 1)) (fun s =>
    let w1 := s.role + b2n (s.isManager && s.enclMember.isSome) * 2 ^ 2 +
      b2n (s.isManager && decide (s.enclMember = some 1)) * 2 ^ 3 +
      (if s.isWorker then s.enclMember.getD 0xFF else 0xFF) * 2 ^ 8 + 0x0100 * 2 ^ 16 + 0x0103 * 2 ^ 32 +
      fld s.presence 56 4 * 2 ^ 48
    s.sendBack p (s.respTo m 0 [s.reg (sta 0x17 0x20), w64 w1, s.enclosure, w64 (s.diesFitted % 65536 + s.rawGib * 2 ^ 32)] []))

/-- Exchange the routes of a bitmap of members (R384). -/
def State.exchangeMap (s : State) (w0 w1 : W64) : State :=
  memberIds.foldl (fun s m =>
    if (if m < 64 then bit w0 m else bit w1 (m - 64)) then
      let v := s.route m
      let v' := setFld (setFld (setFld (setFld v 0 2 (fld v 3 2)) 3 2 (fld v 0 2)) 2 1 (fld v 5 1)) 5 1 (fld v 2 1)
      s.setReg (routeReg m) (setFld (setFld v' 8 6 (fld v 16 6)) 16 6 (fld v 8 6))
    else s) s

/-- ROUTE (R384, R394). -/
def execRoute (p : Nat) (m : SpanMsg) (s : State) : Res :=
  onMsg s p m (!m.resp && decide (m.typ = 3)) (fun s => (s.exchangeMap m.hw0 m.hw1).sendBack p (s.respTo m 0 [] []))

/-! ## Busy horizons -/

/-- Nanoseconds since a tick, in µs. -/
def State.sinceUs (s : State) (t : W64) : Nat := (s.tick.toNat - t.toNat) * s.periodUs

/-- Times of a channel's die family in µs (R304). -/
def State.trMaxUs (s : State) (ch : Nat) : Nat := (s.rfld (chReg ch 0x110) 0 32 + 999) / 1000
def State.tprogUs (s : State) (ch : Nat) : Nat := (s.rfld (chReg ch 0x110) 32 32 + 999) / 1000
def State.tbersUs (s : State) (ch : Nat) : Nat := (s.rfld (chReg ch 0x118) 0 32 + 999) / 1000
def State.tsusUs (s : State) (ch : Nat) : Nat := (s.rfld (chReg ch 0x118) 32 16 + 99) / 100
def State.trunUs (s : State) (ch : Nat) : Nat := s.rfld (chReg ch 0x118) 48 8

/-- The horizon of a die in µs (R392). -/
def State.dieHorizon (s : State) (ch d : Nat) : Nat :=
  let base := match (s.die ch d).op with
    | some o =>
      if o.suspended then 0
      else if o.suspends < o.limit then (s.trunUs ch - s.sinceUs o.resumed) + s.tsusUs ch
      else if o.erase then s.tbersUs ch - s.sinceUs o.began
      else s.tprogUs ch - s.sinceUs o.began
    | none =>
      match s.dieReads ch d with
      | [] => 0
      | r :: _ => s.trMaxUs ch - s.sinceUs (s.acc r).began
  let queued := (s.dieVerbs ch d).filter (fun r => r.prim.isRead && decide (r.phase = .dieQueue) && decide (r.cur.toNat ≤ 2))
  min 65535 (base + s.trMaxUs ch * queued.length)

/-- Every fitted die, in ascending channel and position. -/
def State.fittedDies (s : State) : List (Nat × Nat) :=
  (List.range 32).flatMap (fun ch => (List.range 64).filterMap (fun d => if s.dieFitted ch d then some (ch, d) else none))

/-- HORIZON: the report of this member (R392). -/
def State.horizonReport (s : State) (preserve : Bool) : State :=
  let ds := s.fittedDies
  let temp := tempField (max s.dieMax s.pkgMax)
  let held := (List.range 32).any (fun ch => s.chHeld ch)
  s.postManagers 0x04
    [s.tick, w64 (ds.length % 4096 + s.periodUs % 16 * 2 ^ 12), w64 (temp + b2n preserve * 2 ^ 16 + b2n held * 2 ^ 17)]
    (ds.flatMap (fun (x : Nat × Nat) => toBytes 2 (s.dieHorizon x.1 x.2))) none

/-- HORIZON_SLOT_WRITE: a manager stores a report it receives (R393); a member in the preserve state or with a held
channel is degraded (R435). -/
def execHorizonSlotWrite (p : Nat) (m : SpanMsg) (s : State) : Res :=
  onMsg s p m (m.posted && decide (m.typ = 4) && isMemberId m.src.toNat) (fun s =>
    if !s.isManager then s else
    let a := s.rfld (sta 0xD 0x38) 13 26 * 8192 + 8192 * m.src.toNat
    let s := s.writeLoc (.dram (a + 64)) (m.payload.take 8128)
    let s := s.writeLoc (.dram a) ([m.hw0, m.hw1, m.hw2].flatMap (fun (w : W64) => toBytes 8 w.toNat))
    let s := s.writeLoc (.dram (a + 24)) (toBytes 8 s.tick.toNat)
    match FMap.get (fun _ => (none : Option Member)) s.members m.src.toNat with
    | some x =>
      let hs := (List.range (m.payload.length / 2)).map (fun i => ofBytes ((m.payload.drop (2 * i)).take 2))
      let st := if x.state < 2 ∨ x.state = 4 then x.state else if bit m.hw2 16 || bit m.hw2 17 then 3 else 2
      let y : Member := { x with seen := s.tick, state := st, busy := hs.foldl max 0, temp := fld m.hw2 0 16 }
      s.putMembers (FMap.set (fun _ => none) s.members m.src.toNat (some y))
    | none => s)

end Sys2Proof.Machine
end

