-- ==== Sys2Proof/Machine/Volumes.lean ====
section
/-! DEFINITION. Volumes on a manager: layout records, placement, the stripe journal, the zone state
table and the ownership of ANA groups (R399 to R418, R424 to R430, R440). -/

namespace Sys2Proof.Machine

/-! ## Layout records -/

/-- A layout record (R411). -/
structure Layout where
  vol : Nat
  k : Nat
  m : Nat
  mirror : Bool
  r : Nat
  group : Nat
  gen : Nat
  zones : Nat
  pool : List Nat
  removed : List Nat
  /-- A reshape is running; removals when it began, its boundary and its pool. -/
  reshape : Bool
  r0 : Nat
  bound : Nat
  newPool : List Nat
  deriving DecidableEq, Repr

/-- Positions of a stripe (R399). -/
def Layout.w (l : Layout) : Nat := l.k + l.m

/-- A list of member identifiers padded with 0xFF to 64 bytes. -/
def idBytes (ms : List Nat) : List Byte := ((ms.map (BitVec.ofNat 8)) ++ List.replicate 64 (0xFF : Byte)).take 64

/-- The identifiers of a 64-byte list, to its first unused entry. -/
def idsOf (bs : List Byte) : List Nat := (bs.takeWhile (· ≠ 0xFF)).map (·.toNat)

/-- Bytes 0 to 247 of a record. -/
def Layout.body (l : Layout) : List Byte :=
  toBytes 2 l.vol ++ toBytes 1 l.k ++ toBytes 1 l.m ++ toBytes 1 (b2n l.mirror) ++ toBytes 1 l.pool.length ++
  toBytes 1 l.r ++ toBytes 1 l.group ++ toBytes 4 l.gen ++ toBytes 4 l.zones ++ idBytes l.pool ++ idBytes l.removed ++
  toBytes 1 l.removed.length ++ toBytes 1 (b2n l.reshape) ++ toBytes 1 l.r0 ++ toBytes 1 0 ++ toBytes 4 l.bound ++
  idBytes l.newPool ++ List.replicate 32 0

/-- A record's 256 bytes. -/
def Layout.bytes (l : Layout) : List Byte :=
  l.body ++ toBytes 4 (crc32 0 l.body) ++ toBytes 4 0x4C4A5849

/-- The layout record that 256 bytes spell, when mark, CRC and volume number are good. -/
def layoutOf (bs : List Byte) : Option Layout :=
  let n (o k : Nat) : Nat := ofBytes ((bs.drop o).take k)
  if n 252 4 = 0x4C4A5849 ∧ n 248 4 = crc32 0 (bs.take 248) ∧ n 0 2 ≠ 0 then
    some { vol := n 0 2, k := n 2 1, m := n 3 1, mirror := decide (n 4 1 = 1), r := n 6 1, group := n 7 1, gen := n 8 4,
           zones := n 12 4, pool := ((bs.drop 16).take (n 5 1)).map (·.toNat),
           removed := ((bs.drop 80).take (n 144 1)).map (·.toNat), reshape := decide (n 145 1 = 1), r0 := n 146 1,
           bound := n 148 4, newPool := idsOf ((bs.drop 152).take 64) }
  else none

/-- Ingot offset of the record of volume `v` (R410). -/
def layoutOff (v : Nat) : Nat := 256 * (v - 1)

/-- The layout record of volume `v`. -/
def State.layout (s : State) (v : Nat) : Option Layout :=
  match layoutOf (rdBytes s.ingot (layoutOff v) 256) with
  | some l => if l.vol = v then some l else none
  | none => none

/-- Write a layout record at its place. -/
def State.putLayout (s : State) (l : Layout) : State := s.putIngot (wrBytes s.ingot (layoutOff l.vol) l.bytes)

/-- The volumes that a record in the ingot store describes, ascending. -/
def State.volumes (s : State) : List Layout :=
  (((s.ingot.filter (fun p => p.1 < 0x100000)).map (fun p => p.1 / 256 + 1)).dedup).filterMap (fun v => s.layout v)

/-! ## Placement -/

/-- Whether a member is in service at removal step `t` of a pool (R402). -/
def Layout.inService (l : Layout) (pool : List Nat) (t c : Nat) : Bool := pool.contains c && !(l.removed.take t).contains c

/-- Members of the pool in service now. -/
def Layout.serving (l : Layout) : List Nat := l.pool.filter (fun c => !l.removed.contains c)

/-- One removal step of R403: the positions that held X[t] take substitutes. -/
def Layout.substitute (l : Layout) (pool : List Nat) (a t : Nat) (set : List (Option Nat × Nat)) : List (Option Nat × Nat) :=
  let x := l.removed.getD (t - 1) 0xFF
  (List.range set.length).foldl (fun (set : List (Option Nat × Nat)) j =>
    if (set.getD j (none, 0)).1 = some x then
      let cand := (List.range pool.length).map (fun i => pool.getD ((a + t + i) % pool.length) 0xFF)
      match cand.find? (fun c => l.inService pool t c && !set.any (fun (p : Option Nat × Nat) => p.1 = some c)) with
      | some c => set.set j (some c, t)
      | none => set.set j (none, (set.getD j (none, 0)).2)
    else set) set

/-- The set of volume zone `z`: member, if any, and origin of each position (R403). -/
def Layout.setOf (l : Layout) (z : Nat) (new : Bool) : List (Option Nat × Nat) :=
  let pool := if new then l.newPool else l.pool
  let n := pool.length
  let a := z % n
  let u := ((List.range n).drop 1).filter (fun x => Nat.gcd x n = 1)
  let d := u.getD (z / n % u.length) 1
  let base := (List.range l.w).map (fun j => ((pool[(a + j * d) % n]?), 0))
  let first := if new then l.r0 + 1 else 1
  (List.range (l.removed.length + 1 - first)).foldl (fun set i => l.substitute pool a (first + i) set) base

/-- Member grain address of a piece's first grain (R404). -/
def pieceAddr (z i : Nat) : Nat := z * 2 ^ 19 + 16 * i

/-- Member grain address of the tail mirror copy of zone offset `o` (R404). -/
def tailAddr (z o : Nat) : Nat := z * 2 ^ 19 + 2 ^ 18 + o % 2 ^ 18

/-- Stripe, data position and grain of a zone offset (R400). -/
def Layout.stripeOf (l : Layout) (o : Nat) : Nat := o / (16 * l.k)
def Layout.posOf (l : Layout) (o : Nat) : Nat := o % (16 * l.k) / 16

/-- Member grain address of a zone offset on its data member. -/
def Layout.memberAddr (l : Layout) (z o : Nat) : Nat := pieceAddr z (l.stripeOf o) + o % 16

/-- Key of a member grain of a volume. -/
def volKey (v addr : Nat) : Nat := v * 2 ^ 48 + addr

/-! ## The zone state table -/

/-- Ingot offset of the entry of a device-wide zone (R430). -/
def ztabOff (z : Nat) : Nat := 0xE200000 + 8 * z

/-- An entry of the zone state table (R430). -/
def State.ztab (s : State) (z : Nat) : W64 := rdW s.ingot (ztabOff z)
def State.setZtab (s : State) (z : Nat) (v : W64) : State := s.putIngot (wrNum s.ingot (ztabOff z) 8 v.toNat)
def ztNew (v : W64) : Bool := bit v 6

/-- Device-wide number of zone `z` of volume `v`. -/
def State.volZone (s : State) (v z : Nat) : Nat := (s.nsAt v).firstZone + z

/-- Whether a zone uses the reshape's new pool (R438). -/
def State.usesNew (s : State) (l : Layout) (z : Nat) : Bool :=
  l.reshape && (decide (z < l.bound) || ztNew (s.ztab (s.volZone l.vol z)))

/-- The set of a zone as it stands. -/
def State.setNow (s : State) (l : Layout) (z : Nat) : List (Option Nat × Nat) := l.setOf z (s.usesNew l z)

/-- Whether position `j` awaits rebuild in stripe `i` of a zone (R430). -/
def State.awaits (s : State) (l : Layout) (z i j : Nat) : Bool :=
  let e := s.ztab (s.volZone l.vol z)
  match (s.setNow l z)[j]? with
  | some (none, _) => true
  | some (some _, o) => if bit e 7 && decide (i < fld e 16 15) then decide (fld e 8 6 < o) else decide (fld e 0 6 < o)
  | none => true

/-! ## Managers -/

/-- The peer manager's identifier. -/
def State.peerId (s : State) : Nat := if s.ownMember = 0 then 1 else 0

/-- Whether the peer manager is present: enumerated and not lost. -/
def State.peerUp (s : State) : Bool := !s.memberLost s.peerId && (s.routePort s.peerId).isSome

/-- Whether a member is reached. -/
def State.reaches (s : State) (m : Nat) : Bool := !s.memberLost m && (s.routePort m).isSome

/-- Whether this manager reaches a strict majority of a volume's in-service pool members (R426). -/
def State.majority (s : State) (l : Layout) : Bool :=
  decide (l.serving.length < 2 * (l.serving.filter s.reaches).length)

/-- The resident set sends a request: its number rises by one for each pair (R389).  `horizon` is what the member reported
for a GREAD's die; `gather` marks a read for an accumulator. -/
def State.rsendFor (s : State) (gather : Option Nat) (horizon dst typ flags : Nat) (level : BitVec 3) (hw : List W64) (payload : List Byte) : State :=
  match s.routePort dst with
  | some p =>
    if s.memberLost dst ∨ !s.linkUp p then s else
    let num := FMap.get (fun _ => 1) s.spanNum dst
    let kept := (decide (0x10 ≤ typ) && decide (typ ≤ 0x14)) || (decide (typ = 0x15) && decide (hw = [4]))
    let x : ResTx := { num := BitVec.ofNat 32 num, dst := dst, typ := typ, flags := flags, level := level, hw := hw, payload := payload,
                       sent := s.tick, horizon := horizon, port := p, gather := gather }
    let s := (s.putSpanNum (FMap.set (fun _ => 1) s.spanNum dst (num + 1))).putResOut (if kept then s.resOut ++ [x] else s.resOut)
    s.sendMsg p { s.mkMsg dst typ hw payload with reqNo := BitVec.ofNat 32 num, flags := BitVec.ofNat 8 flags, level := level }
  | none => s

def State.rsendAt (s : State) (horizon dst typ flags : Nat) (level : BitVec 3) (hw : List W64) (payload : List Byte) : State :=
  s.rsendFor none horizon dst typ flags level hw payload

def State.rsend (s : State) (dst typ flags : Nat) (level : BitVec 3) (hw : List W64) (payload : List Byte) : State :=
  s.rsendAt 0 dst typ flags level hw payload

/-- The member that holds a position now, where `m` held it before it was removed (R403, R419). -/
def State.standIn (s : State) (v addr m : Nat) : Option Nat :=
  match s.layout v with
  | none => none
  | some l =>
    let z := addr / 2 ^ 19
    let new := s.usesNew l z
    let was := ({ l with removed := l.removed.takeWhile (fun x => x ≠ m) } : Layout).setOf z new
    match (List.range l.w).find? (fun j => (was.getD j (none, 0)).1 = some m) with
    | some j => ((l.setOf z new).getD j (none, 0)).1
    | none => none

/-- A GWRITE that has not been done is sent to the position's member under the layout in force (R419). -/
def State.gwriteAgain (s : State) (dst flags : Nat) (level : BitVec 3) (hw : List W64) (payload : List Byte) : State :=
  let k := hw.getD 0 0
  match s.standIn (fld k 48 16) (fld k 0 48) dst with
  | some m => s.rsend m 0x10 flags level hw payload
  | none => s

/-- A checkpoint to the peer (R414). -/
def State.ckpt (s : State) (kind : Nat) (payload : List Byte) : State :=
  if s.peerUp then s.rsend s.peerId 0x15 0 2 [w64 kind] payload else s

/-- Change a layout record: its generation rises, and it is mirrored (R411, R414). -/
def State.changeLayout (s : State) (l : Layout) : State :=
  let l := { l with gen := (l.gen + 1) % 2 ^ 32 }
  (s.putLayout l).ckpt 2 l.bytes

/-- Write an entry of the zone state table and mirror it (R414, R433). -/
def State.changeZtab (s : State) (v z : Nat) (e : W64) : State :=
  (s.setZtab (s.volZone v z) e).ckpt 3 (toBytes 4 z ++ toBytes 2 v ++ toBytes 2 0 ++ toBytes 8 e.toNat)

/-! ## The stripe journal -/

/-- A journal slot entry (R412). -/
structure JEntry where
  kind : Nat
  /-- Byte +1: the writer's side, and bit 1 for a range with the uncorrectable marker. -/
  flags : Nat
  vol : Nat
  gen : Nat
  zone : Nat
  stripe : Nat
  op : Nat
  bound : Nat
  members : W64
  first : Nat
  grains : Nat
  seq : W64
  token : W64
  deriving DecidableEq, Repr

def JEntry.body (e : JEntry) : List Byte :=
  toBytes 1 e.kind ++ toBytes 1 e.flags ++ toBytes 2 e.vol ++ toBytes 4 e.gen ++ toBytes 4 e.zone ++ toBytes 2 e.stripe ++
  toBytes 1 e.op ++ toBytes 1 0 ++ toBytes 8 e.bound ++ toBytes 8 e.members.toNat ++ toBytes 4 e.first ++ toBytes 4 e.grains ++
  toBytes 8 e.seq.toNat ++ toBytes 8 e.token.toNat ++ List.replicate 64 0

/-- An entry's 128 bytes. -/
def JEntry.bytes (e : JEntry) : List Byte := e.body ++ toBytes 4 (crc32 0 e.body) ++ toBytes 4 0x454A5849

/-- The entry that 128 bytes spell; a wrong mark or CRC, or KIND 0, is none. -/
def jentryOf (bs : List Byte) : Option JEntry :=
  let n (o k : Nat) : Nat := ofBytes ((bs.drop o).take k)
  if n 124 4 = 0x454A5849 ∧ n 120 4 = crc32 0 (bs.take 120) ∧ n 0 1 ≠ 0 then
    some { kind := n 0 1, flags := n 1 1, vol := n 2 2, gen := n 4 4, zone := n 8 4, stripe := n 12 2, op := n 14 1, bound := n 16 8,
           members := w64 (n 24 8), first := n 32 4, grains := n 36 4, seq := w64 (n 40 8), token := w64 (n 48 8) }
  else none

/-- Ingot offset of a slot (R410). -/
def slotOff (i : Nat) : Nat := if i < 61440 then 0x100000 + 128 * i else 0x880000 + 128 * (i - 61440)

def State.jslot (s : State) (i : Nat) : Option JEntry := jentryOf (rdBytes s.ingot (slotOff i) 128)

/-- First slot of a manager's half. -/
def halfBase (side : Nat) : Nat := if side = 0 then 0 else 61440

/-- The used slots of a half, ascending. -/
def State.usedSlots (s : State) (side : Nat) : List Nat :=
  (((s.ingot.filter (fun p => slotOff (halfBase side) ≤ p.1 ∧ p.1 < slotOff (halfBase side) + 128 * 61440)).map
    (fun p => halfBase side + (p.1 - slotOff (halfBase side)) / 128)).dedup).filter (fun i => (s.jslot i).isSome)

/-- Write a slot and mirror it (R413). -/
def State.putSlot (s : State) (i : Nat) (e : JEntry) : State :=
  let s := s.putIngot (wrBytes s.ingot (slotOff i) e.bytes)
  if s.peerUp then s.rsend s.peerId 0x14 0 2 [w64 i] e.bytes else s

/-- Free a slot and mirror it: KIND 0 (R413). -/
def State.freeSlot (s : State) (i : Nat) : State :=
  let bs := toBytes 1 0 ++ (rdBytes s.ingot (slotOff i) 128).drop 1
  let s := s.putIngot (wrBytes s.ingot (slotOff i) bs)
  if s.peerUp then s.rsend s.peerId 0x14 0 2 [w64 i] bs else s

/-- The first free slot of the device's own half. -/
def State.findSlot (s : State) : Option Nat :=
  let used := s.usedSlots s.ownMember
  (List.range (used.length + 1)).map (· + halfBase s.ownMember) |>.find? (fun i => !used.contains i)

/-- The slot that holds the open stripe of a zone. -/
def State.stripeSlot (s : State) (v z : Nat) : Option (Nat × JEntry) :=
  ((s.usedSlots 0 ++ s.usedSlots 1).filterMap (fun i => (s.jslot i).map (fun e => (i, e)))).find?
    (fun p => decide (p.2.kind = 1) && decide (p.2.vol = v) && decide (p.2.zone = z))

/-- An entry that this manager writes. -/
def State.newEntry (s : State) (l : Layout) (kind z : Nat) : JEntry where
  kind := kind
  flags := s.ownMember
  vol := l.vol
  gen := l.gen
  zone := z
  stripe := 0
  op := 0
  bound := s.rfld hazWsnRes 0 56
  members := 0
  first := 0
  grains := 0
  seq := 0
  token := 0

/-- Whether the entry of slot `i` still awaits the peer's answer, so that it is not mirrored yet (R413). -/
def State.slotAwaits (s : State) (i : Nat) : Bool := s.resOut.any (fun x => decide (x.typ = 0x14) && decide (x.hw = [w64 i]))

/-- Header word 0 of a zone record (R413). -/
def recordWord : W64 := w64 (2 ^ 64 - 1)

/-- The zone record that a request to the peer carries. -/
def ResTx.record (x : ResTx) : Option JEntry := if x.typ = 0x14 ∧ x.hw = [recordWord] then jentryOf x.payload else none

/-- Whether a zone record of a zone still awaits the peer's answer (R413). -/
def State.recordAwaits (s : State) (v z : Nat) : Bool :=
  s.resOut.any (fun x => match x.record with
    | some e => decide (e.vol = v) && decide (e.zone = z)
    | none => false)

/-- Whether a GWRITE to a member zone of a zone is still unanswered. -/
def State.piecesAwait (s : State) (v z : Nat) : Bool :=
  s.resOut.any (fun x => decide (x.typ = 0x10) && decide (volKey v (z * 2 ^ 19) ≤ (x.hw.getD 0 0).toNat) &&
    decide ((x.hw.getD 0 0).toNat < volKey v (z * 2 ^ 19) + 2 ^ 19))

/-- A kind 3 zone record to the peer (R412, R413). -/
def State.zoneRecord (s : State) (l : Layout) (z op first grains : Nat) (seq token : W64) (bad : Bool) : State :=
  if s.peerUp then
    s.rsend s.peerId 0x14 0 2 [recordWord]
      ({ s.newEntry l 3 z with op := op, first := first, grains := grains, seq := seq, token := token,
                               flags := s.ownMember + b2n bad * 2 } : JEntry).bytes
  else s

/-! ## Stripes -/

/-- Requests over a range of a zone's tail, split where the tail area wraps (R404). -/
def tailRanges (z o n : Nat) : List (Nat × Nat) :=
  let a := o % 2 ^ 18
  if a + n ≤ 2 ^ 18 then [(tailAddr z o, n)] else [(tailAddr z o, 2 ^ 18 - a), (z * 2 ^ 19 + 2 ^ 18, a + n - 2 ^ 18)]

/-- The members of a zone's positions from `j` on. -/
def membersFrom (set : List (Option Nat × Nat)) (j : Nat) : List Nat := (set.drop j).filterMap (·.1)

/-- Whether a GTRIM of a stripe's tail copies is still unanswered (R417). -/
def State.sealAwaits (s : State) (l : Layout) (z st : Nat) : Bool :=
  s.resOut.any (fun x => decide (x.typ = 0x12) &&
    (tailRanges z (16 * l.k * st) (16 * l.k)).any (fun r => decide (x.hw.headD 0 = w64 (volKey l.vol r.1))))

/-- A stripe is sealed: its tail copies are trimmed, and after the responses its slot is freed (R417).  A mirror has no
tail copies. -/
def State.seal (s : State) (l : Layout) (z st slot : Nat) : State :=
  let s := if l.mirror then s else
    (membersFrom (s.setNow l z) l.k).foldl (fun s m =>
      (tailRanges z (16 * l.k * st) (16 * l.k)).foldl (fun s r =>
        s.rsend m 0x12 0 3 [w64 (volKey l.vol r.1), w64 r.2] []) s) s
  if s.sealAwaits l z st then s else s.freeSlot slot

/-- Whether every grain of a stripe is committed, or its zone is Full. -/
def State.stripeDone (s : State) (l : Layout) (z st : Nat) : Bool :=
  decide (16 * l.k * (st + 1) ≤ s.zwp (s.volZone l.vol z)) || decide (s.zstate (s.volZone l.vol z) = zFull)

/-- The slots of sealed stripes of a zone are freed once every GTRIM has been answered (R417). -/
def State.freeSealed (s : State) (v z : Nat) : State :=
  match s.layout v with
  | none => s
  | some l =>
    (s.usedSlots 0 ++ s.usedSlots 1).foldl (fun (s : State) i =>
      match s.jslot i with
      | some e =>
        if e.kind = 1 ∧ e.vol = v ∧ e.zone = z ∧ s.stripeDone l z e.stripe ∧ !s.sealAwaits l z e.stripe then s.freeSlot i else s
      | none => s) s

/-- A member zone operation is sent to members `ms`, under a kind 2 entry that names them until they answer (R418). -/
def State.actionOn (s : State) (l : Layout) (z op : Nat) (ms : List Nat) : State :=
  match s.findSlot with
  | none => s
  | some i =>
    let ms := ms.filter s.reaches
    let e := { s.newEntry l 2 z with op := op, members := w64 ((ms.map (fun m => 2 ^ (m - 2))).sum) }
    if ms.isEmpty then s
    else ms.foldl (fun s m => s.rsend m 0x13 0 3 [w64 (volKey l.vol (z * 2 ^ 19)), w64 op] []) (s.putSlot i e)

/-- A member zone operation is sent to every member of a zone's set (R418). -/
def State.memberAction (s : State) (l : Layout) (z op : Nat) : State := s.actionOn l z op (membersFrom (s.setNow l z) 0).dedup

/-- A member has answered a zone operation, or is lost: its bit leaves the kind 2 entry, and the last one frees the
slot (R412, R418). -/
def State.actionDone (s : State) (x : ResTx) : State :=
  let k := x.hw.getD 0 0
  (s.usedSlots 0 ++ s.usedSlots 1).foldl (fun (s : State) i =>
    match s.jslot i with
    | some e =>
      if e.kind = 2 ∧ e.vol = fld k 48 16 ∧ e.zone = fld k 0 48 / 2 ^ 19 ∧ e.op = (x.hw.getD 1 0).toNat ∧ bit e.members (x.dst - 2) then
        let m := setBit e.members (x.dst - 2) false
        if m = 0 then s.freeSlot i else s.putSlot i { e with members := m }
      else s
    | none => s) s

/-- GZONE operation that follows the zone record of a Finish or a Reset (R418). -/
def recordAction (op : Nat) : Option Nat := if op = 5 then some 4 else if op = 6 then some 3 else none

/-- The members' zones follow a zone record once it is durable on both managers (R418). -/
def State.afterRecord (s : State) (v z op : Nat) : State :=
  match s.layout v, recordAction op with
  | some l, some a => s.memberAction l z a
  | _, _ => s

/-- The peer has answered a JOURNAL, or is lost, so that local durability suffices (R413). -/
def State.recordDone (s : State) (x : ResTx) : State :=
  match x.record with
  | some e => s.afterRecord e.vol e.zone e.op
  | none => s

/-- The record of a Finish or Reset is mirrored; the members follow it (R418). -/
def State.mirrorAction (s : State) (l : Layout) (z op : Nat) : State :=
  if s.peerUp then s.zoneRecord l z op 0 1 0 0 false else s.afterRecord l.vol z op

/-! ## Accumulators of open stripes -/

/-- A grain of zeroes. -/
def zeroGrain : List Byte := List.replicate 4096 0

/-- Coefficient of a parity piece (R401). -/
def gfInv (a : Nat) : Nat := (List.range 253).foldl (fun x _ => gfMul 0x11D x a) a
def parCoef (p j : Nat) : Nat := gfMul 0x11D (j + 4) (gfInv (Nat.xor p (j + 4)))

/-- The accumulator of a zone's open stripe: 16 grains for each parity piece. -/
def State.accumOf (s : State) (dz m : Nat) : List (List Byte) :=
  let a := FMap.get (fun _ => []) s.accum dz
  (a ++ List.replicate (16 * m) zeroGrain).take (16 * m)

/-- The accumulator with a data grain added at data position `j`, grain row `g` (R401, R416). -/
def accumAdd (m j g : Nat) (data : List Byte) (acc : List (List Byte)) : List (List Byte) :=
  (List.range m).foldl (fun (acc : List (List Byte)) p =>
    acc.set (16 * p + g) (List.zipWith (fun a b => a ^^^ parMul (parCoef p j) b) (acc.getD (16 * p + g) zeroGrain) data)) acc

/-- Grains of a framed payload: data and tag of each. -/
def framedGrains : Nat → List Byte → List (List Byte × List Byte)
  | 0, _ => []
  | n + 1, bs => (bs.take 4096, (bs.drop 4096).take 32) :: framedGrains n (bs.drop 4128)

/-- Grains that no rule gives. -/
def State.freeGrains (s : State) : Nat → List (List Byte) × State
  | 0 => ([], s)
  | n + 1 =>
    let (g, s) := s.freeBytes 4096
    let (r, s) := State.freeGrains s n
    (g :: r, s)

/-- Whether grains of a zone's open stripe are still being read for its accumulator. -/
def State.gathers (s : State) (v z : Nat) : Bool :=
  s.resOut.any (fun x => x.gather.isSome && decide ((x.hw.getD 0 0).toNat / 2 ^ 19 = volKey v (z * 2 ^ 19) / 2 ^ 19))

/-- Grains that were read enter the accumulator from zone offset `o` on (R425). -/
def State.gatherAdd (s : State) (l : Layout) (z o : Nat) (gs : List (List Byte)) : State :=
  let dz := s.volZone l.vol z
  s.putAccum (FMap.set (fun _ => []) s.accum dz (gs.zipIdx.foldl (fun a p =>
    accumAdd l.m (l.posOf o) ((o + p.2) % 16) p.1 a) (s.accumOf dz l.m)))

/-- Members that hold a grain of the open stripe, each with its member grain address: the data member, then the tail
mirrors (R404, R431). -/
def State.gatherCopies (s : State) (l : Layout) (z o : Nat) : List (Nat × Nat) :=
  let set := s.setNow l z
  (((if s.awaits l z (l.stripeOf o) (l.posOf o) then none else (set.getD (l.posOf o) (none, 0)).1).toList.map (fun m => (m, l.memberAddr z o))) ++
    (membersFrom set l.k).map (fun m => (m, tailAddr z o)))

/-- Read `n` grains from zone offset `o` on from the first copy; a grain that no copy gives is a free value (R425, R440,
DESIGN CHOICE, log entry 78). -/
def State.gatherFrom (s : State) (l : Layout) (z o n : Nat) (copies : List (Nat × Nat)) : State :=
  match copies.filter (fun c => s.reaches c.1) with
  | c :: _ => s.rsendFor (some o) 0 c.1 0x11 0 3 [w64 (volKey l.vol c.2), w64 (n - 1)] []
  | [] => let (gs, s) := s.freeGrains n; s.gatherAdd l z o gs

/-- The accumulator of a zone's open stripe is rebuilt from the committed grains with GREAD (R425, R440). -/
def State.gatherZone (s : State) (l : Layout) (z : Nat) : State :=
  let dz := s.volZone l.vol z
  let wp := s.zwp dz
  let a := 16 * l.k * l.stripeOf wp
  if l.mirror ∨ s.zstate dz = zFull ∨ wp = a ∨ s.gathers l.vol z then s else
  (List.range ((wp - a + 15) / 16)).foldl (fun (s : State) j =>
    s.gatherFrom l z (a + 16 * j) (min 16 (wp - a - 16 * j)) (s.gatherCopies l z (a + 16 * j)))
    (s.putAccum (FMap.set (fun _ => []) s.accum dz []))

/-- ANA change notice to every controller (R425). -/
def anaChange : AsyncEv := { typ := 2, info := 3, lid := 0x0C }

/-- A group whose accumulators are rebuilt is reported optimized, and its change is notified (R425, R427). -/
def State.groupReady (s : State) (g : Nat) : State :=
  let x := s.anaGroup g
  if x.owned && decide (x.state = 15) && !(s.volumes.any (fun l => decide (l.group = g) && (List.range l.zones).any (fun z => s.gathers l.vol z))) then
    (s.setGroup g { x with state := 1 }).asyncAll anaChange
  else s

/-- A GREAD for an accumulator is answered: its grains enter, or the next copy is asked for (R425). -/
def State.gathered (s : State) (x : ResTx) (o : Nat) (grains : Option (List (List Byte))) : State :=
  let k := (x.hw.getD 0 0).toNat
  let z := k % 2 ^ 48 / 2 ^ 19
  match s.layout (k / 2 ^ 48) with
  | none => s
  | some l =>
    let s := match grains with
      | some gs => s.gatherAdd l z o gs
      | none =>
        let cs := s.gatherCopies l z o
        s.gatherFrom l z o ((x.hw.getD 1 0).toNat + 1)
          (if cs.any (fun (c : Nat × Nat) => c.1 = x.dst) then (cs.dropWhile (fun (c : Nat × Nat) => c.1 ≠ x.dst)).drop 1 else cs)
    s.groupReady l.group

/-- The new owner of a group rebuilds the accumulators of the group's open stripes (R425). -/
def State.gatherGroup (s : State) (g : Nat) : State :=
  ((s.volumes.filter (fun l => decide (l.group = g))).foldl (fun (s : State) l =>
    (List.range l.zones).foldl (fun (s : State) z => s.gatherZone l z) s) s).groupReady g

/-! ## Settling the journal -/

/-- Settle one journal slot at a start or a takeover (R440). -/
def State.settleSlot (s : State) (i : Nat) : State :=
  match s.jslot i with
  | none => s
  | some e =>
    match s.layout e.vol with
    | none => s.freeSlot i
    | some l =>
      if e.kind = 1 then
        let wp := s.zwp (s.volZone l.vol e.zone)
        let a := 16 * l.k * e.stripe
        if a + 16 * l.k ≤ wp then s.seal l e.zone e.stripe i
        else if a < wp then s.gatherZone l e.zone
        else s.freeSlot i
      else if e.kind = 2 then
        (((List.range 64).filter (fun b => bit e.members b)).foldl (fun s b =>
          s.rsend (b + 2) 0x13 0 3 [w64 (volKey l.vol (e.zone * 2 ^ 19)), w64 e.op] []) s)
      else s.freeSlot i

/-- Slots of a half that hold a kind but no valid mark or CRC (R440). -/
def State.badSlots (s : State) (side : Nat) : List Nat :=
  ((s.ingot.filterMap (fun c => if slotOff (61440 * side) ≤ c.1 ∧ c.1 < slotOff (61440 * (side + 1)) ∧ (c.1 - slotOff 0) % 128 = 0 then
    some ((c.1 - slotOff 0) / 128) else none)).filter (fun i => (s.jslot i).isNone))

/-- Settle every used slot of a half; a slot with a wrong mark or CRC is freed (R440). -/
def State.settleHalf (s : State) (side : Nat) : State :=
  (s.badSlots side).foldl State.freeSlot ((s.usedSlots side).foldl State.settleSlot s)

end Sys2Proof.Machine
end

