-- ==== Sys2Proof/Machine/Members.lean ====
section
/-! DEFINITION. Members of an enclosure: enumeration, ASSIGN, routes, lost members and the takeover of a
lost peer's groups (R376 to R382, R392 to R395, R427 to R429). -/

namespace Sys2Proof.Machine

/-- A SPAN_ROUTE word: primary and alternate, each a port with its hops, and the version; LOST is 0. -/
def routeWord (pri alt : Option (Nat × Nat)) (ver : Nat) : W64 :=
  let one (x : Option (Nat × Nat)) : Nat := match x with
    | some (p, _) => p % 4 + 4
    | none => 0
  let hops (x : Option (Nat × Nat)) : Nat := match x with
    | some (_, h) => h % 64
    | none => 0
  w64 (one pri + one alt * 2 ^ 3 + hops pri * 2 ^ 8 + hops alt * 2 ^ 16 + ver % 16 * 2 ^ 24 + ver / 16 % 16 * 2 ^ 28)

/-- What a manager knows of a member. -/
def State.member (s : State) (m : Nat) : Option Member := FMap.get (fun _ => none) s.members m
def State.setMember (s : State) (m : Nat) (x : Option Member) : State :=
  s.putMembers (FMap.set (fun _ => none) s.members m x)

/-- Every Span port is disabled, with one almanac record (R377). -/
def State.disableSpan (s : State) : State :=
  ((List.range 4).foldl (fun s p => if s.spanPresent p then s.linkDown p 0 else s) s).almRecord 0x60 [0, s.reg (spReg 0 8), 0, 0, 0]

/-! ## Routes of a manager -/

/-- Chain ports that reach the peer, the fewest hops first and the lowest port on a tie (R382). -/
def State.peerPorts (s : State) : List (Nat × Nat) :=
  let ps := (List.range 4).filterMap (fun p =>
    let h := FMap.get (fun _ => 0) s.peerVia p
    if h = 0 then none else some (p, h))
  let best (xs : List (Nat × Nat)) : Option (Nat × Nat) := xs.foldl (fun b (x : Nat × Nat) => match b with
    | none => some x
    | some y => if x.2 < y.2 then some x else some y) none
  match best ps with
  | none => []
  | some a => a :: ((best (ps.filter (fun x => x.1 ≠ a.1))).map (fun b => [b])).getD []

/-- The manager's routes to a worker: port c, and the peer's way round by another chain (R382). -/
def State.workerRoute (s : State) (x : Member) : W64 :=
  let h := FMap.get (fun _ => 0) s.peerVia x.chain
  let alt := if h = 0 then none else
    (s.peerPorts.find? (fun p => p.1 ≠ x.chain)).map (fun p => (p.1, p.2 + (h - x.hops)))
  routeWord (some (x.chain, x.hops)) alt x.ver

/-- The routes of every member on a manager, from what enumeration found. -/
def State.managerRoutes (s : State) : State :=
  let s := (s.members.filterMap (fun p => p.2.map (fun x => (p.1, x)))).foldl (fun s (p : Nat × Member) =>
    if p.1 < 2 ∨ s.memberLost p.1 then s else s.setReg (routeReg p.1) (s.workerRoute p.2)) s
  let ps := s.peerPorts
  if ps.isEmpty then s
  else s.setReg (routeReg s.peerId) (routeWord ps[0]? ps[1]? (s.pairVer s.peerId))

/-! ## CHAIN_ENUMERATION -/

/-- Lowest and highest Span version of this device, as IDENT gives them (R388). -/
def verLow : Nat := 0x0100
def verHigh : Nat := 0x0103

/-- The version of the pair, when the ranges overlap; major × 16 + minor (R388). -/
def pairVersion (e : EnumMember) : Option Nat :=
  let v := min verHigh e.verHigh.toNat
  if v < verLow ∨ v < e.verLow.toNat then none else some (v / 256 * 16 + v % 256)

/-- The identifiers that chain `n` may give. -/
def chainIds (n : Nat) : List Nat := (List.range 16).map (fun i => 0x02 + 16 * n + i)

/-- The identifier of a worker at position `pos` of chain `n` (R380). -/
def State.pickId (s : State) (n pos : Nat) (e : EnumMember) (ms : List EnumMember) : Nat :=
  match e.member with
  | some x => x
  | none =>
    let held := (ms.filterMap (fun (x : EnumMember) => x.member)) ++
      (s.members.filterMap (fun p => match p.2 with
        | some x => if x.chain = n ∧ x.serial ≠ e.serial then some p.1 else none
        | none => none))
    let want := 0x02 + 16 * n + (pos - 1)
    if held.contains want then ((chainIds n).find? (fun i => !held.contains i)).getD want else want

/-- One worker of a chain is assigned and entered (R380 to R382, R395). -/
def State.enumWorker (s : State) (p : Nat) (ms : List EnumMember) (peerHop : Option Nat) (hop : Nat) (e : EnumMember) : State :=
  if e.encl ≠ 0 ∧ e.encl ≠ s.enclosure then s
  else match pairVersion e with
  | none => s.almRecord 0x61 [w64 p, e.serial, 0, 0, 0]
  | some ver =>
    if 2 ≤ e.variant.toNat then s.almRecord 0x61 [w64 p, e.serial, 0, 0, 0] else
    let isB := decide (s.ownMember = 1)
    let pos := if isB then (match peerHop with
      | some h => h - hop
      | none => 17 - hop) else hop
    let id := s.pickId p pos e ms
    let s := if isB && peerHop.isSome then s else
      s.sendMsg p { s.mkMsg 0xFE 2
        [s.enclosure, w64 (id + p * 2 ^ 8 + pos * 2 ^ 10 + (ver / 16 * 256 + ver % 16) * 2 ^ 16 + b2n isB * 2 ^ 32)] [] with hops := hop }
    let was := (s.member id).filter (fun y => y.serial = e.serial)
    let x : Member := { serial := e.serial, chain := p, pos := pos, hops := hop, dies := e.dies, cap := e.cap, ver := ver,
                        state := 2, seen := s.tick, busy := 0, temp := 0, recon := (was.map (·.recon)).getD 0, record := (was.map (·.record)).getD [] }
    let s := s.setMember id (some x)
    let s := if hop = 1 then (s.setRfld (spReg p 0) 8 8 id).setRfld (spReg p 0) 16 1 0 else s
    s.setReg (routeReg id) (s.workerRoute x)

/-- The token ranges that a zone's slot remembers, in offset order: offset, grains and token (R274). -/
def State.tokRanges (s : State) (z : Nat) : List (Nat × Nat × W64) :=
  let v := fld (s.zoneWord z) 28 13
  if v = 0 then [] else
  List.insertionSort (fun a b => a.1 ≤ b.1) ((List.range (min 256 (FMap.get (fun _ => 0) s.tokCount (v - 1)))).map (fun i =>
    (rdNum s.ingot (tokOff (v - 1) i + 8) 3, rdNum s.ingot (tokOff (v - 1) i + 11) 1 + 1, rdW s.ingot (tokOff (v - 1) i))))

/-- Grains `o` to `e - 1` of a zone in commits of at most 65,536 grains, over at most `f` records. -/
def plainCommits : Nat → Nat → Nat → List (Nat × Nat × Option W64)
  | 0, _, _ => []
  | f + 1, o, e => if e ≤ o then [] else (o, min 65536 (e - o), none) :: plainCommits f (o + 65536) e

/-- The commits of a replayed zone up to `e`: one with its token for each range remembered, the rest plain (R428). -/
def replayCommits : List (Nat × Nat × W64) → Nat → Nat → List (Nat × Nat × Option W64)
  | [], o, e => plainCommits 16 o e
  | r :: rs, o, e =>
    if r.1 < o ∨ e < r.1 + r.2.1 then replayCommits rs o e
    else plainCommits 16 o r.1 ++ (r.1, r.2.1, some r.2.2) :: replayCommits rs (r.1 + r.2.1) e

/-- A commit split where the uncorrectable marker begins or ends; each piece says whether it carries it (R412). -/
def splitMarked (rs : List ExcRun) (c : Nat × Nat × Option W64) : List (Nat × Nat × Option W64 × Bool) :=
  if c.2.2.isSome then [(c.1, c.2.1, c.2.2, rs.any (fun r => r.word = marker && decide (r.off ≤ c.1) && decide (c.1 < r.off + r.count)))] else
  let cuts := List.insertionSort (fun a b => a ≤ b) (((c.1 :: (rs.filter (fun r => r.word = marker)).flatMap (fun r => [r.off, r.off + r.count])).filter
    (fun x => decide (c.1 ≤ x) && decide (x < c.1 + c.2.1))).dedup)
  (cuts.zip (cuts.drop 1 ++ [c.1 + c.2.1])).map (fun p =>
    (p.1, p.2 - p.1, none, rs.any (fun r => r.word = marker && decide (r.off ≤ p.1) && decide (p.1 < r.off + r.count))))

/-- One zone of a volume is replayed to the peer (R428, DEDUCED, log entry 162). -/
def State.replayZone (s : State) (l : Layout) (z : Nat) : State :=
  let dz := s.volZone l.vol z
  let full := decide (s.zstate dz = zFull)
  let wp := min (s.zwp dz) (s.zcap l.vol)
  let en := s.readEntry ((s.nsAt l.vol).baseAddr + 256 * z)
  let s := ((replayCommits (if full then [] else s.tokRanges dz) 0 wp).flatMap (splitMarked (s.readRuns en.listAddr en.runs))).foldl
    (fun (s : State) c => s.zoneRecord l z (b2n c.2.2.1.isSome) c.1 c.2.1 0 (c.2.2.1.getD 0) c.2.2.2) s
  if full then s.zoneRecord l z 5 0 0 0 0 false else s

/-- The survivor replays the volumes to a peer that has returned: layout records, zone state entries,
zone records, then its reserve bound (R414, R428). -/
def State.replay (s : State) : State :=
  let s := s.volumes.foldl (fun s l =>
    let s := s.ckpt 2 l.bytes
    (List.range l.zones).foldl (fun s z =>
      let dz := s.volZone l.vol z
      let e := s.ztab dz
      let s := if e = 0 then s else s.ckpt 3 (toBytes 4 z ++ toBytes 2 l.vol ++ toBytes 2 0 ++ toBytes 8 e.toNat)
      s.replayZone l z) s) s
  s.ckpt 1 (toBytes 8 (s.rfld hazWsnRes 0 56))

/-- Whether this manager took the peer's groups over. -/
def State.tookOver (s : State) : Bool := (s.anaGroup 1).owned && (s.anaGroup 2).owned

/-- The peer manager is reached again (R382, R395, R428). -/
def State.meetPeer (s : State) (p hop : Nat) (took : Bool) : State :=
  let s := s.putPeerVia (FMap.set (fun _ => 0) s.peerVia p hop)
  let wasLost := s.memberLost s.peerId
  let s := (s.setRfld (routeReg s.peerId) 6 1 0).managerRoutes
  if wasLost && s.tookOver then s.replay
  else if (s.returned && took) || wasLost then
    (s.putReturned false : State).setGroup 1 { s.anaGroup 1 with owned := false, state := 3 }
      |>.setGroup 2 { s.anaGroup 2 with owned := false, state := 3 }
  else s

/-- The own half of the journal is settled once after a start (R440). -/
def State.settleOwn (s : State) : State :=
  if s.boot.settle then (s.putBoot { s.boot with settle := false } : State).settleHalf s.ownMember else s

/-- CHAIN_ENUMERATION: a manager enumerates the chain of port `p`; `ms` are the members that answered
IDENT, in hop order (R376 to R382, R395). -/
def execChainEnumeration (p : Nat) (ms : List EnumMember) (s : State) : Res :=
  .next (
    if !s.isManager ∨ !s.spanPresent p ∨ !s.linkUp p ∨ s.boot.down then s else
    let ms := ms.take 17
    let peer := peerOf ms
    let last := (peer.map (·.1)).getD (min 17 (ms.length + 1))
    let s := (((List.range (last + 1)).drop ((s.sport p).asked + 1)).foldl (fun (s : State) h => s.sendMsg p { s.mkMsg 0xFE 1 [] [] with hops := h }) s)
    let s := s.setSport p { s.sport p with asked := 0 }
    let workers := ms.takeWhile (fun e => !e.manager)
    let s := s.confirmManager (peer.map (·.2)) workers
    let clash := match peer with
      | some (_, e) => decide (e.encl = s.enclosure) && decide (e.side = some (decide (s.ownMember = 1))) &&
          decide (e.serial.toNat < (s.reg (sta 0x17 0x20)).toNat)
      | none => false
    if clash then (s.putMembers []).disableSpan
    else
      let s := s.putPeerVia (FMap.erase s.peerVia p)
      let s := ((List.range workers.length).zip (workers.take 16)).foldl (fun s (x : Nat × EnumMember) =>
        s.enumWorker p ms (peer.map (·.1)) (x.1 + 1) x.2) s
      match peer with
      | some (h, e) => (s.meetPeer p h e.took).settleOwn
      | none => s.managerRoutes.settleOwn)

/-! ## ASSIGN -/

/-- The worker's other linked port. -/
def State.otherPort (s : State) (p : Nat) : Option Nat := (List.range 4).find? (fun q => q ≠ p ∧ s.linkUp q)

/-- The routes of a worker at position `pos` of chain `n`, by the positions that identifiers give
(R382). -/
def State.workerRoutes (s : State) (n pos : Nat) (toA toB : Option Nat) (ver : Nat) : State :=
  memberIds.foldl (fun s m =>
    let v := if s.pairVer m = 0 then ver else s.pairVer m
    let mk (near : Bool) (h g : Nat) : State :=
      let a := toA.map (fun p => (p, h))
      let b := toB.map (fun p => (p, g))
      let pri := if near then a else b
      let alt := if near then b else a
      s.setReg (routeReg m) (if pri.isSome then routeWord pri alt v else routeWord alt none v)
    if m = 0 then mk true pos (17 - pos)
    else if m = 1 then mk false pos (17 - pos)
    else if m = s.ownMember then s
    else if (m - 2) / 16 = n then
      let q := (m - 2) % 16 + 1
      mk (decide (q < pos)) (if q < pos then pos - q else pos + q) (if q < pos then 34 - pos - q else q - pos)
    else mk (decide (2 * pos ≤ 17)) pos (17 - pos)) s

/-- ASSIGN: the worker takes its identifier and its place on the chain (R376, R380 to R382, R384, R388). -/
def execAssign (p : Nat) (m : SpanMsg) (s : State) : Res :=
  onMsg s p m (!m.resp && decide (m.typ = 2)) (fun s =>
    if !s.isWorker ∨ (s.enclosure ≠ 0 ∧ s.enclosure ≠ m.hw0) then s else
    let id := match s.enclMember with
      | some x => x
      | none => fld m.hw1 0 8
    let n := fld m.hw1 8 2
    let pos := fld m.hw1 10 5
    let fromB := bit m.hw1 32
    let ver := fld m.hw1 24 8 * 16 + fld m.hw1 16 8
    let s := s.setEncl m.hw0 id
    let s := (s.setRfld idRole 8 8 id).setRfld idRole 5 1 1
    let portA := if fromB then (if s.portA.isSome ∧ s.portA ≠ some p then s.portA else s.otherPort p) else some p
    let toB := if fromB then some p else s.otherPort p
    let s := ((s.putPortA portA).putChain n).putPosition pos
    let s := s.setRfld (spReg p 0) 8 8 (if pos = 1 ∧ !fromB then m.src.toNat else if fromB then 0x02 + 16 * n + pos else 0x02 + 16 * n + (pos - 2))
    let s := s.setRfld (routeReg m.src.toNat) 24 8 ver
    let s := s.workerRoutes n pos portA toB ver
    s.sendBack p (s.respTo m 0 [] []))

/-! ## Reports and lost members -/

/-- HORIZON: a confirmed member posts its report every SPAN_HZPER ticks (R384, R392). -/
def execHorizon (s : State) : Res :=
  .next (if bit (s.reg (sta 0xD 0)) 1 ∧ bit (s.reg idRole) 5 ∧ s.role ≠ 0 ∧
      s.tick.toNat % max 1 (s.rfld (sta 0xD 0x10) 0 9) = 0 then s.horizonReport s.preserve else s)

/-- Position of a member on a chain: manager A stands at 0 and manager B at 17. -/
def State.posOf (s : State) (m : Nat) : Nat :=
  if m = 0 then 0 else if m = 1 then 17 else match s.member m with
    | some x => x.pos
    | none => 17

/-- Chain of a broken link, from its two ends. -/
def State.chainOf (s : State) (src far port : Nat) : Nat :=
  match (s.member src).or (s.member far) with
  | some x => if 2 ≤ src ∨ 2 ≤ far then x.chain else port
  | none => port

/-- The members on a chain, with what is known of them. -/
def State.onChain (s : State) (c : Nat) : List (Nat × Member) :=
  (s.members.filterMap (fun p => p.2.map (fun x => (p.1, x)))).filter (fun p => 2 ≤ p.1 ∧ p.2.chain = c)

/-- A route of the manager through a chain port that has broken: exchanged with its alternate. -/
def State.breakRoute (s : State) (m c : Nat) : State :=
  let v := s.route m
  if bit v 2 && decide (fld v 0 2 = c) then
    s.setReg (routeReg m) (setFld (setFld (setFld (setFld (setFld (setFld v 0 2 (fld v 3 2)) 2 1 (fld v 5 1)) 3 2 c) 5 1 0)
      8 6 (fld v 16 6)) 16 6 (fld v 8 6))
  else if bit v 5 && decide (fld v 3 2 = c) then s.setReg (routeReg m) (setFld v 5 1 0)
  else s

/-- Bitmap of members as the header words of ROUTE. -/
def memberMap (ms : List Nat) : List W64 :=
  [w64 (((ms.filter (· < 64)).map (fun m => 2 ^ m)).sum), w64 (((ms.filter (fun m => 64 ≤ m)).map (fun m => 2 ^ (m - 64))).sum)]

/-- The destinations whose routes must change at a member at position `pos` of chain `c`, when the link
after position `q` has gone (R382, R394). -/
def State.mustChange (s : State) (c pos q : Nat) : List Nat :=
  let beyond (x : Nat) : Bool := if pos ≤ q then decide (q < x) else decide (x ≤ q)
  let towardA := decide (2 * pos ≤ 17)
  memberIds.filter (fun m =>
    if m = 0 then decide (q < pos)
    else if m = 1 then decide (pos ≤ q)
    else match s.member m with
      | some x => if x.chain = c then beyond x.pos && decide (x.pos ≠ pos) else (if towardA then decide (q < pos) else decide (pos ≤ q))
      | none => false)

/-- LOST: a manager exchanges its own routes past the link and sends ROUTE to the members on its side
(R384, R394). -/
def execLost (p : Nat) (m : SpanMsg) (s : State) : Res :=
  onMsg s p m (m.posted && decide (m.typ = 6)) (fun s =>
    if !s.isManager then s else
    let far := fld m.hw0 8 8
    let c := s.chainOf m.src.toNat far (fld m.hw0 0 2)
    let q := min (s.posOf m.src.toNat) (s.posOf far)
    let mine (x : Nat) : Bool := if s.ownMember = 1 then decide (q < x) else decide (x ≤ q)
    let gone := (s.onChain c).filter (fun x => !mine x.2.pos && bit (s.route x.1) 2 && decide (fld (s.route x.1) 0 2 = c))
    let known := !gone.isEmpty || decide (FMap.get (fun _ => 0) s.peerVia c ≠ 0)
    let s := gone.foldl (fun s (x : Nat × Member) => s.breakRoute x.1 c) s
    let s := (s.putPeerVia (FMap.erase s.peerVia c) : State).breakRoute s.peerId c
    if known then
      ((s.onChain c).filter (fun x => mine x.2.pos)).foldl (fun s (x : Nat × Member) =>
        s.rsend x.1 3 0 2 (memberMap (s.mustChange c x.2.pos q)) []) s
    else s)

/-- The owner appends a lost member to the removal list of each volume whose pool holds it (R426, R429). -/
def State.removeMember (s : State) (m : Nat) : State :=
  s.volumes.foldl (fun s l =>
    if (s.anaGroup l.group).owned ∧ (l.pool.contains m ∨ l.newPool.contains m) ∧ !l.removed.contains m ∧ s.majority l then
      s.changeLayout { l with removed := l.removed ++ [m] }
    else s) s

/-- The survivor takes over the lost peer's groups for which it holds the majority (R425, R427). -/
def State.takeOver (s : State) : State :=
  [1, 2].foldl (fun s g =>
    if (s.anaGroup g).owned ∨ !((s.volumes.filter (fun l => l.group = g)).all s.majority) then s else
    let s := if s.peerBound + 2 ^ 24 ≤ max s.wsn (s.wsnFloor.getD 0) then s else s.putWsnFloor (some (s.peerBound + 2 ^ 24))
    ((s.setGroup g { owned := true, state := 15, moved := some s.tick }).settleHalf s.peerId).gatherGroup g) s

/-- GWRITEs outstanding to a lost member go to its stand-ins (R395, R419). -/
def State.resendLost (s : State) (m : Nat) : State :=
  let xs := s.resOut.filter (fun x => x.dst = m)
  let s := s.putResOut (s.resOut.filter (fun x => x.dst ≠ m))
  xs.foldl (fun s x =>
    match x.typ with
    | 0x10 => s.gwriteAgain x.dst x.flags x.level x.hw x.payload
    | 0x11 => (match x.gather with
      | some o => s.gathered x o none
      | none => s)
    | 0x12 => s.freeSealed (fld (x.hw.getD 0 0) 48 16) (fld (x.hw.getD 0 0) 0 48 / 2 ^ 19)
    | 0x13 => s.actionDone x
    | 0x14 => s.recordDone x
    | _ => s) s

/-- Ports of the valid routes to a member. -/
def State.validPorts (s : State) (m : Nat) : List Nat :=
  let v := s.route m
  ((if bit v 2 then [fld v 0 2] else []) ++ (if bit v 5 then [fld v 3 2] else [])).filter s.linkUp

/-- The tick of the last report of a member; of the peer manager, the one that its horizon slot gives (R393). -/
def State.lastReport (s : State) (m : Nat) : Nat :=
  match s.member m with
  | some x => x.seen.toNat
  | none => rdNum s.dram (s.rfld (sta 0xD 0x38) 13 26 * 8192 + 8192 * m + 24) 8

/-- A member is marked lost: its requests end, and what it held is taken over (R394, R395, R427, R429). -/
def State.loseMember (s : State) (n : Nat) : State :=
  let s := (s.setRfld (routeReg n) 6 1 1).putPings (s.pings.filter (fun p => p.1 ≠ n))
  let s := (s.spanOut.filter (fun x => x.dst = n)).foldl (fun s x => s.endTx x 0x50 []) s
  let s := match s.member n with
    | some x => s.setMember n (some { x with state := 4 })
    | none => s
  let s := (s.removeMember n).resendLost n
  if n = s.peerId then s.takeOver else s

/-- MEMBER_LOST: a member that no valid route reaches is lost.  One from which four report periods have brought no report is asked
by a PING on every valid route, and is lost when 64 µs bring no answer (R394, R395, R427, R429). -/
def execMemberLost (m : BitVec 8) (s : State) : Res :=
  .next (
    let n := m.toNat
    let silent := decide (s.lastReport n + 4 * s.rfld (sta 0xD 0x10) 0 9 ≤ s.tick.toNat)
    if !s.isManager ∨ s.boot.down ∨ !isMemberId n ∨ n = s.ownMember ∨ s.memberLost n ∨
        ((s.member n).isNone ∧ n ≠ s.peerId) ∨ ((s.routePort n).isSome ∧ !silent) then s else
    if (s.routePort n).isNone then s.loseMember n
    else match s.pings.find? (fun p => p.1 = n) with
      | some p => if p.2.toNat + s.usTicks 64 ≤ s.tick.toNat then s.loseMember n else s
      | none =>
        (s.validPorts n).foldl (fun (s : State) q => s.sendMsg q (s.mkMsg n 5 [s.tick] [])) (s.putPings (s.pings ++ [(n, s.tick)])))

end Sys2Proof.Machine
end

