-- ==== Sys2Proof/Machine/SpanResp.lean ====
section
/-! DEFINITION. Responses over Span: those of a program's sreq, and those of the resident set's GWRITEs
and group transfers (R137, R204, R208, R385, R386, R419, R425). -/

namespace Sys2Proof.Machine

/-- The new owner of a group raises its counter and reports the group optimized (R425). -/
def State.ownGroup (s : State) (g : Nat) : State :=
  let s := if s.peerBound + 2 ^ 24 ≤ max s.wsn (s.wsnFloor.getD 0) then s else s.putWsnFloor (some (s.peerBound + 2 ^ 24))
  (s.setGroup g { owned := true, state := 15, moved := some s.tick }).gatherGroup g

/-- A GREAD is done: its service time in µs less the horizon reported at issue enters its member's record (R422). -/
def State.recordRead (s : State) (x : ResTx) : State :=
  match s.member x.dst with
  | some m =>
    let us : Int := ((s.tick.toNat - x.sent.toNat) * s.periodUs : Nat)
    s.setMember x.dst (some { m with record := (m.record ++ [us - x.horizon]).drop (m.record.length + 1 - 1024) })
  | none => s

/-- A response to a request of the resident set (R208, R413, R417 to R419, R422, R425). -/
def State.resResponse (s : State) (m : SpanMsg) : State :=
  match s.resOut.find? (fun x => decide (x.num = m.reqNo) && decide (x.dst = m.src.toNat) && decide (x.typ = m.typ.toNat)) with
  | none => s
  | some x =>
    let s := s.putResOut (s.resOut.filter (fun y => y ≠ x))
    if x.typ = 0x10 then
      if m.status = 0 then
        (if x.flags % 2 = 1 then s.applyCredit (x.hw.getD 3 0) (decide (x.flags / 8 % 2 = 1)) else s)
      else s.gwriteAgain x.dst x.flags x.level x.hw x.payload
    else if x.typ = 0x11 then
      match x.gather with
      | some o => (s.recordRead x).gathered x o (if m.status = 0 then some ((framedGrains ((x.hw.getD 1 0).toNat + 1) m.payload).map (·.1)) else none)
      | none => s.recordRead x
    else if x.typ = 0x12 then s.freeSealed (fld (x.hw.getD 0 0) 48 16) (fld (x.hw.getD 0 0) 0 48 / 2 ^ 19)
    else if x.typ = 0x13 then (if m.status = 0 then s.actionDone x else s)
    else if x.typ = 0x14 then s.recordDone x
    else if m.status = 0 then s.ownGroup (ofBytes (x.payload.take 1) % 4)
    else s

/-- SPAN_RESPONSE_ARRIVAL (R137, R204, R208, R385, R386, R419, R425). -/
def execSpanResponseArrival (p : Nat) (m : SpanMsg) (s : State) : Res :=
  onMsg s p m (m.resp && !m.posted && (decide (0x10 ≤ m.typ.toNat) || decide (m.typ = 5))) (fun s =>
    let s := if m.typ = 5 then s.putPings (s.pings.filter (fun x => x.1 ≠ m.src.toNat)) else s
    match s.spanOut.find? (fun x => decide (x.num = m.reqNo) && decide (x.gen = m.gen) && decide (x.dst = m.src.toNat)) with
    | none => s.resResponse m
    | some x =>
      match s.txReq x with
      | none => s
      | some r =>
        if r.spTyp ≠ m.typ.toNat then s else
        let long := decide (r.spMax < m.payload.length)
        let bad := decide (r.spFlags / 4 % 2 = 1) && framedBad 64 m.payload
        let st := if long then 0x5B else if bad then 0x27 else m.status.toNat
        let s := if long || m.payload.isEmpty then s else
          match s.moverLoc (r.op 3) m.payload.length with
          | some l => s.writeLoc l m.payload
          | none => s
        let s := if s.isManager ∧ st = 0 ∧ r.spTyp = 0x10 ∧ r.spFlags % 2 = 1 then
            s.applyCredit (r.op 7) (decide (r.spFlags / 8 % 2 = 1)) else s
        let s := if m.typ = 5 ∧ s.pairVer r.spDst = 0 then
            s.setRfld (routeReg r.spDst) 24 8 (min 0x13 m.ver.toNat) else s
        let s := if s.isManager ∧ st ≠ 0 ∧ r.spTyp = 0x10 then
            s.gwriteAgain r.spDst r.spFlags r.level [r.op 4, r.op 5, r.op 6, r.op 7] (s.sreqMsg r 0 0).payload else s
        s.endTx x (if st = 0 then ocDone else 0x54)
          [w64 st, w64 (if long then 0 else m.payload.length), m.hw0, m.hw1, m.hw2, m.hw3])

/-- RESTART: a member has restarted; every request outstanding to it ends with 0x54 and status 0x5C
(R396). -/
def execRestart (p : Nat) (m : SpanMsg) (s : State) : Res :=
  onMsg s p m (m.posted && decide (m.typ = 7)) (fun s =>
    let s := (s.spanOut.filter (fun x => x.dst = m.src.toNat)).foldl (fun s x => s.endTx x 0x54 [0x5C]) s
    (s.resOut.filter (fun x => x.dst = m.src.toNat)).foldl (fun (s : State) x => s.resResponse { s.respTo m 0x5C [] [] with reqNo := x.num, src := m.src, typ := BitVec.ofNat 8 x.typ }) s)

/-- SPAN_REQUEST_TIMEOUT: SPAN_TMO ticks have passed (R137).  Where no request of a program is named, the oldest of the resident
set's own that has expired ends so (DESIGN CHOICE, DEDUCED, log entry 140). -/
def execSpanRequestTimeout (c : CoreId) (t : Ticket) (s : State) : Res :=
  .next (match s.spanOut.find? (fun x => decide (x.core = c) && decide (x.ticket = t)) with
    | some x => if x.start.toNat + s.rfld (sta 0xD 8) 0 20 ≤ s.tick.toNat then s.endTx x 0x52 [] else s
    | none =>
      match s.resOut.find? (fun x => decide (x.sent.toNat + s.rfld (sta 0xD 8) 0 20 ≤ s.tick.toNat)) with
      | some x => s.resResponse { s.mkMsg x.dst x.typ [] [] with reqNo := x.num, src := BitVec.ofNat 8 x.dst, status := 0x52 }
      | none => s)

end Sys2Proof.Machine
end

