-- ==== Sys2Proof/Machine/Resident.lean ====
section
/-! DEFINITION. Operations that the resident set's rows share: taking a command or a message, building
tags, and storing and reading grains on the device's own flash (R186 to R196, R205, R498, R501). -/

namespace Sys2Proof.Machine

/-! ## Taking commands and messages -/

/-- A core without a visible event: the program that serves it has taken it. -/
def Core.dropEvent (k : Core) (e : W64) : Core := { k with classQ := k.classQ.filter (· ≠ e) }

/-- Whether no intake has moved an event yet: it reaches no handler (R37, R38). -/
def State.unmoved (s : State) (e : W64) : Bool := s.cores.any (fun p => p.2.ring.contains e || p.2.waiting.contains e)

/-- The event of a command or message is taken from its class queue. -/
def State.takeEvent (s : State) (e : W64) : State :=
  (s.cores.filter (fun p => p.2.classQ.contains e)).foldl (fun s p => s.setCore (BitVec.ofNat 6 p.1) (p.2.dropEvent e)) s

/-- Opcode, namespace and dwords of a command's submission queue entry. -/
def Cmd.opcode (d : Cmd) : Nat := fld d.sqe 0 8
def Cmd.nsid (d : Cmd) : Nat := d.dw 1

/-- The recovery state of R180: ID_BOOT.RECOV. -/
def State.recovery (s : State) : Bool := bit (s.reg (sta 0x17 0x28)) 5

/-- Admin opcodes that the loader serves in the recovery state: Get Log Page, Identify and the firmware
commands (R180). -/
def recoveryOp (op : Nat) : Bool := decide (op = 0x02) || decide (op = 0x06) || loaderOpcode op

/-- A row of an admin command (`admin`) or an I/O command: the command with key `k` is live and has the
row's opcode, and its event has been visible; one whose function is in reset is settled with no completion (R38, R490,
R493).  Once the gate has applied the tick's abort claims, no claim follows in that tick (R99). -/
def onCmdIf (ok : Cmd → Bool) (s : State) (k : W64) (admin : Bool) (op : Nat) (f : State → Cmd → State) : Res :=
  .next (match s.cmdOf k with
    | some d =>
      if s.boot.down || s.gateShut || s.unmoved k || !ok d || (d.admin != admin) || decide (d.opcode ≠ op) then s
      else if s.inReset d then (s.takeEvent k).squashCmd d
      else if s.recovery && !recoveryOp op then (s.takeEvent k).respond d 0 0 stOpcode
      else f (s.takeEvent k) d
    | none => s)

/-- The row of a command that has not been settled. -/
def onCmd (s : State) (k : W64) (admin : Bool) (op : Nat) (f : State → Cmd → State) : Res :=
  onCmdIf (fun d => decide (d.settle = .live)) s k admin op f

/-- A command completes with a status and no result. -/
def State.finish (s : State) (d : Cmd) (st : BitVec 15) : State := s.respond d 0 0 st

/-- Data of a command leaves for host memory. -/
def State.toHost (s : State) (d : Cmd) (off : Nat) (data : List Byte) : State :=
  s.putOut (s.out ++ [.hostData d.key off data])

/-- The arrival with an event, when it is of a type and this device has not answered it. -/
def State.arrival (s : State) (e : W64) (typ : Nat) : Option SpanArr :=
  s.spanIn.find? (fun a => decide (a.event = e) && decide (a.typ = typ))

/-- A row that answers a Span message of a type (R138, R384). -/
def onArrival (s : State) (e : W64) (typ : Nat) (ok : SpanArr → Bool) (f : State → SpanArr → State) : Res :=
  .next (match s.arrival e typ with
    | some a => if s.boot.down || s.unmoved e || !ok a then s else f (s.takeEvent e) a
    | none => s)

/-- The answer to a message: its payload buffer is released with it. -/
def State.reply (s : State) (a : SpanArr) (status : Nat) (hw : List W64) (payload : List Byte) : State :=
  let s := s.answer a status hw payload
  match a.pay with
  | some h => s.unref (fld h 0 48)
  | none => s

/-- Payload of an arrival. -/
def State.payloadOf (s : State) (a : SpanArr) : List Byte :=
  match a.pay.bind (fun h => s.moverLoc h a.len) with
  | some l => s.readLoc l a.len
  | none => []

/-! ## Tags and frames -/

/-- The fields of a tag (R188). -/
structure TagF where
  kind : Nat
  flags : Nat
  func : Nat
  ns : Nat
  handle : Nat
  lba : Nat
  count : Nat
  wsn : Nat
  life : Nat
  role : Nat
  deriving DecidableEq, Repr

/-- Tag bytes 0 to 23. -/
def TagF.bytes (t : TagF) : List Byte :=
  toBytes 1 (1 + t.kind % 16 * 16) ++ toBytes 1 t.flags ++ toBytes 2 t.func ++ toBytes 2 t.ns ++ toBytes 2 t.handle ++
  toBytes 6 t.lba ++ toBytes 2 t.count ++ toBytes 7 t.wsn ++ toBytes 1 (t.life % 16 + t.role % 16 * 16)

/-- Fields of a tag as it was read. -/
def tagKind (t : List Byte) : Nat := (t.getD 0 0).toNat / 16
def tagEnc (t : List Byte) : Bool := bit (t.getD 1 0) 3
def tagWsn (t : List Byte) : Nat := ofBytes ((t.drop 16).take 7)
def tagRole (t : List Byte) : Nat := (t.getD 23 0).toNat / 16

/-- A tag with its guard (R194). -/
def withGuard (plain head : List Byte) : List Byte := head.take 24 ++ toBytes 8 (guard plain head)

/-- Flags of a tag that this device numbers: EXTRA, ENC and SIDE (R190, R199, R501). -/
def State.tagFlags (s : State) (extra : Nat) : Nat :=
  extra % 8 + b2n s.cipherPresent * 8 + (if s.isManager then s.rfld idRole 4 1 else 0) * 16

/-- `n` write sequence numbers with EXTRA witnesses: the first, in blocks as tseq takes them (R197 to
R199, R206). -/
def State.takeNumbers (s : State) (extra n : Nat) : Nat × State := (s.wsn, (s.wsnTakeN extra n).wsnReserve)

/-- Bytes 0 to 4,127 of a frame for a grain: ciphertext when its tag says so; none when the namespace has
no key (R202, R205, R498). -/
def State.frameOf (s : State) (plain tag : List Byte) : Option (List Byte) :=
  if tagEnc tag then
    (s.nsKey (tagNs tag)).map (fun k => xtsUnit false k (tagLba tag + tagNs tag * 2 ^ 48) plain ++ tag)
  else some (plain ++ tag)

/-! ## The device's own flash -/

/-- Whether a location word names a frame of this device (R110). -/
def State.locOk (s : State) (w : W64) : Bool :=
  s.chanPresent (locChan w) && s.dieFitted (locChan w) (locDie w) && decide (locPlane w < s.fam.planes) &&
  decide (locBlock w < s.fam.blocks) && decide (locPage w < famPages s.fam) && decide (locHalf w < s.fam.halves)

/-- Frame key of a location word. -/
def locKey (w : W64) : Nat :=
  frameKey (blkKey (locChan w) (locDie w) (locPlane w) (locBlock w)) (locPage w) (locHalf w) (locFrame w)

/-- Whether a channel director can serve: its channel is up and its dome is on. -/
def State.chanUp (s : State) (ch : Nat) : Bool :=
  s.chanPresent ch && !s.chHeld ch && !s.chReset ch && s.domeOn (15 + ch / 4)

/-- Whether a list of places can take `n` grains: each names an erased frame of this device, and no two are the
same. -/
def State.placesOk (s : State) (ws : List W64) (n : Nat) : Bool :=
  decide (ws.length = n) && decide ws.Nodup && ws.all (fun w => s.locOk w && s.chanUp (locChan w) && decide (s.frameAt (locKey w) = .erased))

/-- Program a frame: the program passes status, and P is set on a number of this device (R124, R207). -/
def State.storeFrame (s : State) (w : W64) (bs : List Byte) : State :=
  let s := s.setFrame (locKey w) (.data bs)
  let t := bs.drop 4096
  let k := tagKind t
  if (k = 0 ∨ k = 1 ∨ k = 3 ∨ k = 6) ∧ s.numberSide = some (fld (t.getD 1 0) 4 1) then s.setP (tagWsn t) else s

/-- Read a frame of this device and check it as fread does: the grain in plaintext and its tag, or an
outcome (R123, R196). -/
def State.readFrame (s : State) (w : W64) : Except Byte (List Byte × List Byte) :=
  if !s.locOk w || !s.chanUp (locChan w) then .error 0x2A else
  match s.frameAt (locKey w) with
  | .erased => .error 0x25
  | .data bs =>
    let tag := (bs.drop 4096).take 32
    let plain := if tagEnc tag then (s.nsKey (tagNs tag)).map (fun k =>
        xtsUnit true k (tagLba tag + tagNs tag * 2 ^ 48) (bs.take 4096)) else some (bs.take 4096)
    match plain with
    | none => .error 0x40
    | some p => if guard p tag = ofBytes ((tag.drop 24).take 8) then .ok (p, tag) else .error 0x27
  | _ => .error 0x30

/-- Raw bytes of a frame that holds data. -/
def State.rawFrame (s : State) (w : W64) : Option (List Byte) :=
  match s.frameAt (locKey w) with
  | .data bs => some bs
  | _ => none

/-- Store grains at their places: plaintext and tag head of each; none when a key is missing. -/
def State.storeGrains (s : State) : List W64 → List (List Byte × List Byte) → Option State
  | w :: ws, (p, t) :: gs =>
    match s.frameOf p (withGuard p t) with
    | some bs => State.storeGrains (s.storeFrame w bs) ws gs
    | none => none
  | _, _ => some s

end Sys2Proof.Machine
end

