-- ==== Sys2Proof/Machine/Queues.lean ====
section
/-! DEFINITION. Admin commands over queues, vectors and outstanding commands (R220, R223 to R225, R239
to R241, R482, R484, R588). -/

namespace Sys2Proof.Machine

/-- A command that the resident set serves on physical functions only (R220). -/
def State.pfOnly (s : State) (d : Cmd) (f : State) : State := if s.isPf d.func then f else s.finish d stOpcode

/-! ## Resources -/

/-- Queue resources and vectors of a controller (R224). -/
def State.queueRes (s : State) (f : Nat) : Nat := if s.isPf f then 4096 else (s.ctrl f).vq
def State.vectorRes (s : State) (f : Nat) : Nat := if s.isPf f then 2048 else (s.ctrl f).vi

/-- I/O queues of each kind that Number of Queues grants (R224). -/
def State.granted (s : State) (f : Nat) : Nat := min (s.queueRes f - 1) 65535

/-- The lowest of `k` numbers from `n` that a list does not hold. -/
def lowestFree (used : List Nat) : Nat → Nat → Option Nat
  | 0, _ => none
  | k + 1, n => if n ∈ used then lowestFree used k (n + 1) else some n

/-- Submission and completion queues of the device. -/
def queueNumbers : Nat := 262144

/-- First device queue that is no admin queue (R223). -/
def firstIoQueue : Nat := 2048

/-- A free device number for an I/O queue (R223, DESIGN CHOICE, log entry 154). -/
def freeNumber (used : List Nat) : Option Nat :=
  (lowestFree used (used.length + 1) firstIoQueue).filter (fun n => n < queueNumbers)

/-- PASID of a create: CDW13 (R484). -/
def Cmd.pasidArg (d : Cmd) : Option Nat := if bit (BitVec.ofNat 32 (d.dw 13)) 31 then some (d.dw 13 % 2 ^ 20) else none

/-- Whether CDW13 of a create is refused (R484). -/
def State.pasidBad (s : State) (d : Cmd) : Bool :=
  decide (d.dw 13 / 2 ^ 20 % 2 ^ 11 ≠ 0) || (d.pasidArg.isSome && !(s.ctrl d.func).pasid)

/-- Station offset of SHARE_SLICE of slice `i`, and the enabled slice of a function and PASID (R485). -/
def sliceReg (i : Nat) : Nat := sta 0x15 (0x8000 + 8 * i)

/-- The slice that a queue of a function and PASID belongs to. -/
def State.sliceFor (s : State) (f : Nat) (p : Option Nat) : Option Nat :=
  p.bind (fun p => (s.regs.find? (fun r =>
    decide (sliceReg 0 ≤ r.1) && decide (r.1 < sliceReg 4096) && bit r.2 31 && decide (fld r.2 20 11 = f) &&
      decide (fld r.2 0 20 = p))).map (fun r => (r.1 - sliceReg 0) / 8))

/-- Queue identifier, entries and base of a create or delete. -/
def Cmd.qid (d : Cmd) : Nat := d.dw 10 % 65536
def Cmd.qsize (d : Cmd) : Nat := d.dw 10 / 65536 + 1
def Cmd.prp1 (d : Cmd) : W64 := w64 (fld d.sqe 192 64)

/-- A queue of one entry, and a base that is not aligned. -/
def Cmd.shapeBad (d : Cmd) : Option (BitVec 15) :=
  if d.qsize < 2 then some stQueueSize
  else if d.dw 11 % 2 = 0 then some stField
  else if d.prp1.toNat % 4096 ≠ 0 then some stPrpOffset
  else none

/-- CREATE_IO_CQ (R225, R484). -/
def execCreateIoCq (k : W64) (s : State) : Res :=
  onCmd s k true 0x05 (fun s d =>
    let y := d.qid
    if y = 0 ∨ s.granted d.func < y ∨ (s.cqOf d.func y).isSome then s.finish d stQueueId
    else match d.shapeBad with
      | some st => s.finish d st
      | none =>
        if s.pasidBad d ∨ fld (s.ctrl d.func).cc 20 4 ≠ 4 then s.finish d stField
        else if bit (BitVec.ofNat 32 (d.dw 11)) 1 ∧ s.vectorRes d.func ≤ d.dw 11 / 65536 then s.finish d stVector
        else match freeNumber (s.cqs.map (·.1)) with
          | none => s.finish d stQueueId
          | some n =>
            let x : CQ :=
              { base := d.prp1, entries := d.qsize, pasid := d.pasidArg, func := d.func, tail := 0, head := 0, phase := true,
                hostId := y, vector := d.dw 11 / 65536, ien := bit (BitVec.ofNat 32 (d.dw 11)) 1, waiting := 0, written := 0,
                slice := s.sliceFor d.func d.pasidArg }
            (s.setCq n (some x)).finish d stOk)

/-- The I/O cores present: 1 to 55, or 1 to 27 (R588). -/
def State.ioCores (s : State) : List CoreId :=
  s.presentCores.filter (fun c => decide (1 ≤ c.toNat) && decide (c.toNat < if s.wide then 56 else 28))

/-- I/O submission queues that a core owns. -/
def State.ownedQueues (s : State) (c : CoreId) : Nat :=
  (s.sqs.filter (fun p => match p.2 with
    | some q => decide (q.owner = c) && decide (q.hostId ≠ 0)
    | none => false)).length

/-- The core a new I/O submission queue goes to: that with the fewest, lowest first (R588). -/
def State.newOwner (s : State) : CoreId :=
  ((s.ioCores.map (fun c => (s.ownedQueues c, c))).foldl (fun (b : Option (Nat × CoreId)) x =>
    match b with
    | none => some x
    | some y => if x.1 < y.1 then some x else some y) none).elim 0 (·.2)

/-- CREATE_IO_SQ (R225, R484, R485, R588). -/
def execCreateIoSq (k : W64) (s : State) : Res :=
  onCmd s k true 0x01 (fun s d =>
    let y := d.qid
    match (if d.dw 11 / 65536 = 0 then none else s.cqOf d.func (d.dw 11 / 65536)) with
    | none => s.finish d stCqInvalid
    | some (cq, x) =>
      if y = 0 ∨ s.granted d.func < y ∨ (s.sqOf d.func y).isSome then s.finish d stQueueId
      else match d.shapeBad with
        | some st => s.finish d st
        | none =>
          if s.pasidBad d ∨ d.pasidArg ≠ x.pasid ∨ fld (s.ctrl d.func).cc 16 4 ≠ 6 then s.finish d stField
          else match freeNumber (s.sqs.map (·.1)) with
            | none => s.finish d stQueueId
            | some n =>
              let q : SQ :=
                { base := d.prp1, entries := d.qsize, paused := s.stopped || (decide (3 ≤ s.power) && decide (8 ≤ s.newOwner.toNat)), retired := false,
                  pasid := d.pasidArg, func := d.func, head := 0, tail := 0, hostId := y, cq := cq,
                  level := d.dw 11 / 2 % 4, owner := s.newOwner, rcls := 0, wcls := 0, ocls := 0, unsettled := 0,
                  fetched := 0, slice := s.sliceFor d.func d.pasidArg }
              (s.setSq n (some q)).finish d stOk)

/-- Every command of a queue that is not yet settled is settled by squash (R101, R225). -/
def State.squashQueue (s : State) (n : Nat) : State :=
  (s.cmds.filter (fun x => decide (x.sq = n) && decide (x.settle = .live))).foldl (fun (s : State) (x : Cmd) =>
    ((s.settleCount x).dropHaz x).releaseEntry { x with haz := none }) s

/-- A claim of the queue still waits at the gate for marks or space. -/
def State.claimWaits (s : State) (n : Nat) : Bool := s.cmds.any (fun x => decide (x.sq = n) && x.unsettled)

/-- DELETE_IO_SQ: while a claim of the queue waits at the gate, the queue stands as being deleted and the row
answers later (R225, R227, R229, DEDUCED, log entry 121). -/
def execDeleteIoSq (k : W64) (s : State) : Res :=
  onCmd s k true 0x00 (fun s d =>
    match (if d.qid = 0 then none else s.sqOf d.func d.qid) with
    | none => s.finish d stQueueId
    | some (n, q) =>
      let s := (s.setSq n (some { q with retired := true })).squashQueue n
      if s.claimWaits n then s else (s.setSq n none).finish d stOk)

/-- DELETE_IO_CQ (R225). -/
def execDeleteIoCq (k : W64) (s : State) : Res :=
  onCmd s k true 0x04 (fun s d =>
    match (if d.qid = 0 then none else s.cqOf d.func d.qid) with
    | none => s.finish d stQueueId
    | some (n, _) =>
      if s.sqs.any (fun p => (p.2.map (fun q => q.cq)) = some n) then s.finish d stQueueDeletion
      else (s.setCq n none).finish d stOk)

/-- NUMBER_OF_QUEUES: NSQA and NCQA are counts less one (R224, DEDUCED, log entry 31). -/
def execNumberOfQueues (k : W64) (s : State) : Res :=
  onCmd s k true 0x09 (fun s d =>
    let n := s.granted d.func - 1
    if d.dw 10 % 256 ≠ 7 then s
    else s.respond d (BitVec.ofNat 32 (n + n * 65536)) 0 stOk)

/-! ## Virtualization Management -/

/-- Flexible resources of the device and of one secondary controller, queues or vectors (R224). -/
def State.flexTotal (s : State) (vectors : Bool) : Nat := 262144 - (if vectors then 2048 else 4096) * s.hostPorts
def flexMax (vectors : Bool) : Nat := if vectors then 2048 else 16384

/-- Flexible resources that other secondary controllers hold. -/
def State.flexUsed (s : State) (vectors : Bool) (but : Nat) : Nat :=
  ((s.ctrls.filter (fun p => p.1 ≠ but ∧ !s.isPf p.1)).map (fun p => if vectors then p.2.vi else p.2.vq)).sum

/-- A Virtualization Management command of one of the actions `acts` on a physical function, for the secondary
controller of CDW10[31:16] (R220, R482). -/
def onSecondary (s : State) (k : W64) (acts : Nat → Bool) (f : State → Cmd → Nat → State) : Res :=
  onCmd s k true 0x1C (fun s d =>
    let c := d.dw 10 / 65536
    if !acts (d.dw 10 % 16) then s
    else s.pfOnly d (
      if s.isPf c ∨ !s.funcExists c ∨ s.pfOf c ≠ d.func then s.finish d stSecondary else f s d c))

/-- SECONDARY_ASSIGN: flexible queue resources or vectors (R224, R482).  This row also answers the actions that have
no row, as invalid fields (DEDUCED, log entry 82). -/
def execSecondaryAssign (k : W64) (s : State) : Res :=
  onSecondary s k (fun n => n ≠ 7 && n ≠ 9) (fun s d c =>
    let vectors := decide (d.dw 10 / 256 % 8 = 1)
    let n := d.dw 11 % 65536
    let x := s.ctrl c
    if d.dw 10 % 16 ≠ 8 then s.finish d stField
    else if x.online then s.finish d stSecondary
    else if 1 < d.dw 10 / 256 % 8 then s.finish d stResourceId
    else if flexMax vectors < n ∨ s.flexTotal vectors < s.flexUsed vectors c + n then s.finish d stResources
    else (s.setCtrl c (if vectors then { x with vi := n } else { x with vq := n })).respond d (BitVec.ofNat 32 n) 0 stOk)

/-- SECONDARY_ONLINE: at least 2 queue resources and 1 vector (R224, R482). -/
def execSecondaryOnline (k : W64) (s : State) : Res :=
  onSecondary s k (· = 9) (fun s d c =>
    let x := s.ctrl c
    if x.vq < 2 ∨ x.vi < 1 then s.finish d stResourceId
    else (s.setCtrl c { x with online := true }).finish d stOk)

/-- SECONDARY_OFFLINE: a controller with outstanding commands is first reset (R482, R492). -/
def execSecondaryOffline (k : W64) (s : State) : Res :=
  onSecondary s k (· = 7) (fun s d c =>
    let busy := s.cmds.any (fun x => decide (x.func = c) && x.unsettled)
    let s := s.setCtrl c { s.ctrl c with online := false, cc := setBit (s.ctrl c).cc 0 false }
    let s := if busy then s.startReset 1 c none 0
      else (s.dropQueues { token := 0, kind := 1, func := c, slice := none, srst := 0, reported := true }).setCtrl c
        { (s.ctrl c).afterReset false with online := false }
    s.finish d stOk)

/-! ## Abort -/

/-- Abort commands outstanding on a command's controller and fetched before it (R239). -/
def State.abortsBefore (s : State) (d : Cmd) : Nat :=
  ((s.cmds.takeWhile (fun x => decide (x.key ≠ d.key))).filter (fun x =>
    decide (x.func = d.func) && x.admin && decide (x.opcode = 0x08) && x.unsettled)).length

/-- The outstanding command that an Abort names. -/
def State.abortTarget (s : State) (d : Cmd) : Option Cmd :=
  (s.sqOf d.func (d.dw 10 % 65536)).bind (fun p =>
    s.cmds.find? (fun x => decide (x.sq = p.1) && x.unsettled && decide (x.cid.toNat = d.dw 10 / 65536)))

/-- Whether the owning core claims an abort of a command (R240): a read, or a write whose dmin event it has not
taken. -/
def State.abortable (s : State) (x : Cmd) : Bool :=
  !x.admin && (!writeOpcode x.opcode || (match x.dminEvent with
    | none => true
    | some e => (s.core x.owner).ring.contains e || (s.core x.owner).classQ.contains e))

/-- ABORT (R239 to R241): a claim that the owning core makes stands at the gate to the end of the tick, and the command
answers from its outcome; any other Abort answers at once. -/
def execAbort (k : W64) (s : State) : Res :=
  onCmd s k true 0x08 (fun s d =>
    if s.aborts.any (fun p => p.2 = k) then s
    else if 32 ≤ s.abortsBefore d then s.finish d stAbortLimit
    else match s.abortTarget d with
      | none => s.respond d 1 0 stOk
      | some x =>
        if s.abortable x && decide (x.settle = .live) then s.putAborts (s.aborts ++ [(x.key, k)]) else s.respond d 1 0 stOk)

/-- ASYNCHRONOUS_EVENT_REQUEST: 16 may be outstanding (R218, R220); a waiting event answers at once. -/
def execAsynchronousEventRequest (k : W64) (s : State) : Res :=
  onCmd s k true 0x0C (fun s d =>
    let c := s.ctrl d.func
    if 16 ≤ c.aer.length then s.finish d stAerLimit
    else match s.events.find? (fun p => p.1 = d.func) with
      | some p => (s.putEvents (s.events.erase p) : State).respond d p.2.dw0 0 stOk
      | none => s.setCtrl d.func { c with aer := c.aer ++ [k] })

end Sys2Proof.Machine
end

