-- ==== Sys2Proof/Machine/Features.lean ====
section
/-! DEFINITION. Set Features and Get Features (R220, R224, R231, R233, R278, R526, R527, R535). -/

namespace Sys2Proof.Machine

/-- Feature identifier of a command. -/
def Cmd.fid (d : Cmd) : Nat := d.dw 10 % 256

/-- A feature word that has been set carries bit 32. -/
def setMark : Nat := 2 ^ 32

/-- A feature value by key, or its default. -/
def Ctrl.featVal (c : Ctrl) (key dflt : Nat) : Nat :=
  let v := FMap.get (fun _ => (0 : W64)) c.feat key
  if v = 0 then dflt else fld v 0 32

/-- The controller with a feature value set. -/
def Ctrl.setFeat (c : Ctrl) (key v : Nat) : Ctrl :=
  { c with feat := FMap.set (fun _ => 0) c.feat key (w64 (v % setMark + setMark)) }

/-- A Set Features row for some features: the device keeps no saved values (R220). -/
def onSetFeature (s : State) (k : W64) (fids : Nat → Bool) (f : State → Cmd → State) : Res :=
  onCmd s k true 0x09 (fun s d =>
    if !fids d.fid then s
    else if d.dw 10 / 2 ^ 31 % 2 = 1 then s.finish d stNotSaveable
    else f s d)

/-- The features that have rows of their own. -/
def ownRow (n : Nat) : Bool := [0x01, 0x02, 0x04, 0x07, 0x1D].contains n

/-- Key of the vector configuration of vector `v`, and of the two halves of the timestamp. -/
def vectorKey (v : Nat) : Nat := 0x90000 + v
def stampKey (half : Nat) : Nat := 0xE0000 + half

/-- Milliseconds since the timestamp was last set, or since power-up. -/
def State.msAt (s : State) : Nat := s.tick.toNat * s.periodUs / 1000

/-- SET_FEATURES for the features without a row of their own: Interrupt Coalescing, Interrupt Vector
Configuration, Write Atomicity, Asynchronous Event Configuration and Timestamp; another identifier is an
invalid field (R220). -/
def execSetFeatures (k : W64) (data : List Byte) (s : State) : Res :=
  onSetFeature s k (fun n => !ownRow n) (fun s d =>
    let c := s.ctrl d.func
    let v := d.dw 11
    match d.fid with
    | 0x08 => (s.setCtrl d.func (c.setFeat 0x80000 (v % 65536))).finish d stOk
    | 0x09 =>
      if s.vectorRes d.func ≤ v % 65536 then s.finish d stField
      else (s.setCtrl d.func (c.setFeat (vectorKey (v % 65536)) (v / 65536 % 2))).finish d stOk
    | 0x0A => (s.setCtrl d.func (c.setFeat 0xA0000 (v % 2))).finish d stOk
    | 0x0B => (s.setCtrl d.func (c.setFeat 0xB0000 v)).finish d stOk
    | 0x0E =>
      let t := (ofBytes (data.take 6) + 2 ^ 48 - s.msAt % 2 ^ 48) % 2 ^ 48
      (s.setCtrl d.func (((c.setFeat (stampKey 0) (t % 2 ^ 32)).setFeat (stampKey 1) (t / 2 ^ 32)).setFeat (stampKey 2) 1)).finish d stOk
    | _ => s.finish d stField)

/-- SET_FEATURES_ARBITRATION takes effect at the next tick boundary (R231, R233). -/
def execSetFeaturesArbitration (k : W64) (s : State) : Res :=
  onSetFeature s k (· = 0x01) (fun s d =>
    (s.setCtrl d.func ((s.ctrl d.func).setFeat 0x10001 (d.dw 11))).finish d stOk)

/-- SET_FEATURES_POWER_MANAGEMENT (R526, R527). -/
def execSetFeaturesPowerManagement (k : W64) (s : State) : Res :=
  onSetFeature s k (· = 0x02) (fun s d =>
    let ps := d.dw 11 % 32
    if 4 < ps ∨ (ps = 4 ∧ s.isManager) then s.finish d stField else (s.setPower ps).finish d stOk)

/-- Key of a temperature threshold: sensor, and 1 for the under threshold. -/
def tempKey (sensor under : Nat) : Nat := 0x40000 + sensor + 16 * under

/-- A threshold, or its default (R535). -/
def State.tempThr (s : State) (f sensor under : Nat) : Nat :=
  (s.ctrl f).featVal (tempKey sensor under) (if under = 1 then 0 else if sensor = 0 then s.wctemp else 0xFFFF)

/-- SET_FEATURES_TEMPERATURE_THRESHOLD: over and under thresholds of sensors 0 to 2 (R535). -/
def execSetFeaturesTemperatureThreshold (k : W64) (s : State) : Res :=
  onSetFeature s k (· = 0x04) (fun s d =>
    let v := d.dw 11 % 65536
    let n := d.dw 11 / 2 ^ 16 % 16
    let u := d.dw 11 / 2 ^ 20 % 4
    let c := s.ctrl d.func
    if 1 < u ∨ (2 < n ∧ n ≠ 15) then s.finish d stField
    else if n = 15 then
      (s.setCtrl d.func ((List.range 3).foldl (fun (c : Ctrl) i => c.setFeat (tempKey i u) v) c)).finish d stOk
    else (s.setCtrl d.func (c.setFeat (tempKey n u) v)).finish d stOk)

/-- Endurance group 1 holds a namespace (R278). -/
def State.group1Used (s : State) : Bool :=
  s.nsInfo.any (fun p => match p.2 with
    | some x => decide (x.endg = 1)
    | none => false)

/-- SET_FEATURES_FDP: only for endurance group 1, and only while it holds no namespace (R278, R279). -/
def execSetFeaturesFdp (k : W64) (s : State) : Res :=
  onSetFeature s k (· = 0x1D) (fun s d =>
    if d.dw 11 % 65536 ≠ 1 ∨ d.dw 12 / 256 % 256 ≠ 0 then s.finish d stField
    else if s.group1Used then s.finish d stSequence
    else (s.putFdp { s.fdp with on := decide (d.dw 12 % 2 = 1) } : State).finish d stOk)

/-- The value of a feature: current, or default (R220, R224, R231, R278, R526, R535). -/
def State.featureWord (s : State) (d : Cmd) (dflt : Bool) : Option Nat :=
  let c := if dflt then ctrlReset 0 else s.ctrl d.func
  let v := d.dw 11
  let n := v / 2 ^ 16 % 16
  match d.fid with
  | 0x01 => some (c.featVal 0x10000 0)
  | 0x02 => some (if dflt then 0 else s.power)
  | 0x04 =>
    if 2 < n ∨ 1 < v / 2 ^ 20 % 4 then none
    else some (c.featVal (tempKey n (v / 2 ^ 20 % 4)) (if v / 2 ^ 20 % 4 = 1 then 0 else if n = 0 then s.wctemp else 0xFFFF))
  | 0x07 => some ((s.granted d.func - 1) * 65537)
  | 0x08 => some (c.featVal 0x80000 0)
  | 0x09 =>
    if s.vectorRes d.func ≤ v % 65536 then none else some (v % 65536 + c.featVal (vectorKey (v % 65536)) 0 * 65536)
  | 0x0A => some (c.featVal 0xA0000 0)
  | 0x0B => some (c.featVal 0xB0000 0)
  | 0x0E => some 0
  | 0x1D => if v % 65536 ≠ 1 then none else some (if dflt then 0 else b2n s.fdp.on)
  | _ => none

/-- The timestamp of a controller: 8 bytes, with its origin at byte 6. -/
def State.stamp (s : State) (f : Nat) : List Byte :=
  let c := s.ctrl f
  toBytes 6 ((c.featVal (stampKey 0) 0 + c.featVal (stampKey 1) 0 * 2 ^ 32 + s.msAt) % 2 ^ 48) ++
    toBytes 1 (c.featVal (stampKey 2) 0 * 2) ++ [0]

/-- GET_FEATURES (R220). -/
def execGetFeatures (k : W64) (s : State) : Res :=
  onCmd s k true 0x0A (fun s d =>
    let sel := d.dw 10 / 256 % 8
    match s.featureWord d (decide (sel = 1) || decide (sel = 2)) with
    | none => s.finish d stField
    | some v =>
      if 3 < sel then s.finish d stField
      else if sel = 3 then s.respond d 4 0 stOk
      else
        let s := if d.fid = 0x0E then s.toHost d 0 (if sel = 0 then s.stamp d.func else toBytes 8 0) else s
        s.respond d (BitVec.ofNat 32 v) 0 stOk)

end Sys2Proof.Machine
end

