-- ==== Sys2Proof/Machine/Extents.lean ====
section
/-! DEFINITION. Blocks, extents and open-block parity on the device's own flash, the spare and the riser
reserve (R254 to R258, R284, R286 to R290, R338, R339, R343 to R346, R353, R359). -/

namespace Sys2Proof.Machine

/-! ## Die groups and blocks -/

/-- The existing die groups, ascending. -/
def State.dieGroups (s : State) : List Nat := (List.range 128).filter s.groupOk

/-- Blocks of a die group, and raw blocks of the device (R286). -/
def State.groupBlocks (s : State) : Nat := 16 * s.fam.planes * s.fam.blocks
def State.rawBlocks (s : State) : Nat := s.dieGroups.length * s.groupBlocks

/-- Key of a block of a die group. -/
def State.groupBlk (s : State) (q d pl b : Nat) : Nat := blkKey (s.groupDie q d).1 (s.groupDie q d).2 pl b

/-- Die group of a block key. -/
def State.blkGroup (s : State) (bk : Nat) : Nat := (s.dieGroup (bk / 65536 / 4 / 64) (bk / 65536 / 4 % 64)).1

def State.setUse (s : State) (bk u : Nat) : State :=
  s.putCare { s.care with blocks := FMap.set (fun _ => 0) s.care.blocks bk u }

/-- Erase count of a block. -/
def State.eraseCount (s : State) (bk : Nat) : Nat := FMap.get (fun _ => 0) s.care.erases bk

/-- Blocks of a use. -/
def State.blocksOf (s : State) (u : Nat) : List Nat := (s.care.blocks.filter (fun p => p.2 = u)).map (·.1)

/-- Count on a health counter, as hlth does (R361). -/
def State.hcount (s : State) (i n : Nat) : State :=
  s.putHealth (FMap.modify (fun _ => 0) s.health i (fun (v : W64) => w64 (satAdd 64 v.toNat n)))

/-- A block is retired: the list is durable and nothing removes a block from it (R358, R359). -/
def State.retireBlk (s : State) (bk : Nat) : State := if s.blkUse bk = 4 then s else (s.setUse bk 4).hcount 11 1

/-! ## Extents -/

/-- An extent by serial number. -/
def State.extent (s : State) (n : Nat) : Option Extent := FMap.get (fun _ => none) s.care.extents n
def State.setExtent (s : State) (n : Nat) (x : Option Extent) : State :=
  s.putCare { s.care with extents := FMap.set (fun _ => none) s.care.extents n x }

/-- The extents held, by serial number. -/
def State.extentList (s : State) : List (Nat × Extent) := s.care.extents.filterMap (fun p => p.2.map (fun x => (p.1, x)))

/-- The geometry of an extent as a zone-extent entry gives it (R118). -/
def Extent.entry (x : Extent) (serial : Nat) (voids : List W64) : ExtEntry where
  serial := serial
  group := x.group
  mode := x.mode
  voidCount := voids.length
  valid := true
  runs := 0
  listAddr := 0
  listCap := 0
  blocks := x.blocks
  voids := voids

/-- Block keys of an extent. -/
def State.extentBlks (s : State) (x : Extent) : List Nat :=
  (List.range 16).flatMap (fun d => (List.range s.fam.planes).map (fun pl => s.groupBlk x.group d pl (x.blocks.getD (4 * d + pl) 0)))

/-- The zone-extent entry that is in force for an extent: that of its zone, or one without voids. -/
def State.extEntryOf (s : State) (serial : Nat) (x : Extent) : ExtEntry :=
  if x.use ≠ 0 then x.entry serial []
  else
    let c := s.nsAt x.ns
    match (List.range c.zones).find? (fun z => decide ((s.readEntry (c.baseAddr + 256 * z)).serial = serial) &&
        (s.readEntry (c.baseAddr + 256 * z)).valid) with
    | some z => s.readEntry (c.baseAddr + 256 * z)
    | none => x.entry serial []

/-- Grains that an extent of a use holds, in extent order (R256, R284). -/
def State.extentRoom (s : State) (mode : Nat) : Nat :=
  if mode = 3 then 15 * s.fam.planes * (4 * s.fam.halves * s.fam.pagesPslc - 1) else extentCap s.fam

/-- The free erased block of a plane with the lowest erase count, or the highest, lowest number first (R346,
R347). -/
def State.freeBlk (s : State) (high : Bool) (q d pl : Nat) : Option Nat :=
  let base := s.groupBlk q d pl 0
  ((s.care.blocks.filter (fun p => decide (p.2 = 1) && decide (base ≤ p.1) && decide (p.1 < base + 65536))).foldl
    (fun (b : Option (Nat × Nat)) p =>
      let n := s.eraseCount p.1
      match b with
      | none => some (n, p.1 - base)
      | some y => if (if high then y.1 < n else n < y.1) then some (n, p.1 - base) else some y) none).map (·.2)

/-- The blocks of a new extent of a group, plane pl of die d at 4d + pl; none when some plane has no free
block. -/
def State.pickBlocks (s : State) (high : Bool) (q : Nat) : Option (List Nat) :=
  let bs := (List.range 64).map (fun i => if i % 4 < s.fam.planes then s.freeBlk high q (i / 4) (i % 4) else some 0)
  if bs.all (·.isSome) then some (bs.map (·.getD 0)) else none

/-- Reclaim groups (R279). -/
def State.nrg (s : State) : Nat := min 64 s.dieGroups.length

/-- A block header's 40 bytes (R344). -/
def State.blkHeader (s : State) (serial : Nat) (x : Extent) (bk : Nat) : List Byte :=
  let b := toBytes 4 0x48425849 ++ toBytes 4 (s.eraseCount bk) ++ toBytes 8 serial ++ toBytes 1 x.mode ++ toBytes 1 (serial % 16) ++
    toBytes 1 x.use ++ toBytes 1 0 ++ toBytes 4 x.ns ++ toBytes 8 s.alm.optime
  b ++ toBytes 8 (crc32 0 b)

/-- The valid header that a block's first frame holds (R344). -/
def State.blkHeaderAt (s : State) (bk : Nat) : Option (List Byte) :=
  match s.frameAt (frameKey bk 0 0 0) with
  | .data bs =>
    if ofBytes (bs.take 4) = 0x48425849 ∧ crc32 0 (bs.take 32) = ofBytes ((bs.drop 32).take 4) then some (bs.take 40) else none
  | _ => none

/-- Erase counts at a power-up: the checkpoint's, or a header's where it is higher; with no checkpoint the header's, or the mean of
its plane where the block has none (R345). -/
def State.loadCounts (s : State) : State :=
  let head (bk : Nat) : Option Nat := (s.blkHeaderAt bk).map (fun h => ofBytes ((h.drop 4).take 4))
  let mean (bk : Nat) : Nat :=
    let xs := (s.care.blocks.filter (fun p => decide (p.1 / 65536 = bk / 65536))).filterMap (fun p => head p.1)
    xs.sum / max 1 xs.length
  let count (bk : Nat) : Nat :=
    match s.care.ckpt with
    | some c => max (FMap.get (fun _ => 0) c bk) ((head bk).getD 0)
    | none => (head bk).getD (mean bk)
  s.putCare { s.care with erases := s.care.blocks.foldl (fun m p => FMap.set (fun _ => 0) m p.1 (count p.1)) [] }

/-- A tag of a grain that no number names. -/
def bareTag (kind : Nat) : TagF :=
  { kind := kind, flags := 0, func := 0xFFFF, ns := 0, handle := 0, lba := 0, count := 0, wsn := 0, life := 0, role := 0 }

/-- A frame that is stored in clear. -/
def clearFrame (kind : Nat) (data : List Byte) : List Byte :=
  let p := (data ++ List.replicate 4096 0).take 4096
  p ++ withGuard p (bareTag kind).bytes

/-- The erase-intent records of blocks that take their first program are cleared (R125). -/
def State.clearIntents (s : State) (bks : List Nat) : State :=
  s.intents.foldl (fun (s : State) i =>
    let e := rdW s.ingot (intentOff i)
    if (List.range 4).any (fun pl => bit e (52 + pl) && bks.contains (blkKey (locChan e) (locDie e) pl (locBlock e))) then
      s.putIngot (wrNum s.ingot (intentOff i) 8 0)
    else s) s

/-- A new extent on given blocks of a group: they leave the free lists and take their headers. -/
def State.placeExtent (s : State) (use mode ns handle rg q : Nat) (bs : List Nat) : Nat × State :=
  let n := s.care.nextSerial
  let x : Extent :=
    { group := q, mode := mode, use := use, ns := ns, handle := handle, rg := rg, blocks := bs, fill := 0, rows := 0,
      first := some s.alm.optime, wrote := s.tick, closed := none, refresh := false, verify := false }
  let s := s.putCare { s.care with nextSerial := n + 1 }
  let s := (s.extentBlks x).foldl (fun (s : State) bk =>
    (s.setUse bk 2).setFrame (frameKey bk 0 0 0) (.data (clearFrame 4 (s.blkHeader n x bk)))) s
  (n, (s.clearIntents (s.extentBlks x)).setExtent n (some x))

/-- A new extent.  Group `q` is any of `qs` that has free blocks: a free choice (DESIGN CHOICE, log entry 32). -/
def State.newExtent (s : State) (use mode ns handle rg : Nat) (qs : List Nat) : Option (Nat × State) :=
  let cands := qs.filterMap (fun q => (s.pickBlocks false q).map (fun bs => (q, bs)))
  let (f, s) := if cands.length ≤ 1 then (0, s) else s.takeFree
  match cands[f.toNat % max 1 cands.length]? with
  | none => none
  | some (q, bs) => some (s.placeExtent use mode ns handle rg q bs)

/-- Native mode of the die family (R255). -/
def State.nativeMode (s : State) : Nat := b2n s.fam.qlc

/-! ## Parity -/

/-- Positions of a row on one die: plane, page in the wordline, half and frame, without the block
header (R338). -/
def State.rowPlaces (s : State) (mode w : Nat) : List (Nat × Nat × Nat × Nat) :=
  (List.range s.fam.planes).flatMap (fun pl => (List.range (pagesPerWl mode)).flatMap (fun q =>
    (List.range s.fam.halves).flatMap (fun h => (List.range 4).filterMap (fun f =>
      if w = 0 ∧ q = 0 ∧ h = 0 ∧ f = 0 then none else some (pl, pagesPerWl mode * w + q, h, f)))))

/-- Key of the frame at a position of die `d` of an extent. -/
def State.placeKey (s : State) (x : Extent) (d : Nat) (p : Nat × Nat × Nat × Nat) : Nat :=
  frameKey (s.groupBlk x.group d p.1 (x.blocks.getD (4 * d + p.1) 0)) p.2.1 p.2.2.1 p.2.2.2

/-- Sum of two frames. -/
def xorBytes (a b : List Byte) : List Byte := List.zipWith (· ^^^ ·) a b

/-- Bytes of a frame for its row's parity: a void counts as zero (R341). -/
def State.parityBytes (s : State) (k : Nat) : List Byte :=
  match s.frameAt k with
  | .data bs => bs.take 4096
  | _ => zeroGrain

/-- Whether every data frame of a row has been programmed, or lies in a void (R339). -/
def State.rowDone (s : State) (serial : Nat) (x : Extent) (w : Nat) : Bool :=
  ((List.range 16).filter (fun d => d ≠ serial % 16)).all (fun d =>
    (s.rowPlaces x.mode w).all (fun p => decide (s.frameAt (s.placeKey x d p) ≠ .erased)))

/-- Program the parity die's row (R338). -/
def State.programParity (s : State) (serial : Nat) (x : Extent) (w : Nat) : State :=
  (s.rowPlaces x.mode w).foldl (fun (s : State) p =>
    let sum := ((List.range 16).filter (fun d => d ≠ serial % 16)).foldl
      (fun acc d => xorBytes acc (s.parityBytes (s.placeKey x d p))) zeroGrain
    s.setFrame (s.placeKey x (serial % 16) p) (.data (clearFrame 2 sum))) s

/-- The highest parity row of an extent enters the checkpoints region: an entry of 8 B by serial number, the row above the
serial (R339, R474, PRESUMED, log entry 63). -/
def State.noteRow (s : State) (serial row : Nat) : State :=
  s.putIngot (wrNum s.ingot (0xE150000 + 8 * (serial % 8192)) 8 (serial % 2 ^ 40 + row % 2 ^ 24 * 2 ^ 40))

/-- Rows whose data is complete take their parity, in order, over at most `n` rows. -/
def State.parityRows (s : State) (serial : Nat) : Nat → State
  | 0 => s
  | n + 1 =>
    match s.extent serial with
    | none => s
    | some x =>
      if x.rows < s.pagesOf x.mode / pagesPerWl x.mode ∧ s.rowDone serial x x.rows then
        State.parityRows (((s.programParity serial x x.rows).setExtent serial (some { x with rows := x.rows + 1 })).noteRow serial x.rows) serial n
      else s

/-- Rows of an extent. -/
def State.rowCount (s : State) (mode : Nat) : Nat := s.pagesOf mode / pagesPerWl mode

/-- Pad the erased frames of a row on every data die (kind 5) (R272, R343). -/
def State.padRow (s : State) (serial : Nat) (x : Extent) (w : Nat) : State :=
  ((List.range 16).filter (fun d => d ≠ serial % 16)).foldl (fun (s : State) d =>
    (s.rowPlaces x.mode w).foldl (fun (s : State) p =>
      if s.frameAt (s.placeKey x d p) = .erased then s.setFrame (s.placeKey x d p) (.data (clearFrame 5 [])) else s) s) s

/-- The current row is the first without parity; it is padded when some frame of it is programmed. -/
def State.padCurrent (s : State) (serial : Nat) : State :=
  match s.extent serial with
  | none => s
  | some x =>
    let begun := ((List.range 16).filter (fun d => d ≠ serial % 16)).any (fun d =>
      (s.rowPlaces x.mode x.rows).any (fun p => decide (s.frameAt (s.placeKey x d p) ≠ .erased)))
    if begun then s.padRow serial x x.rows else s

/-- An extent closes: its current row is padded, its parity is programmed, and a closing verify is due
(R343). -/
def State.closeExtent (s : State) (serial : Nat) : State :=
  let s := ((s.parityRows serial s.fam.pagesQlc).padCurrent serial).parityRows serial 2
  match s.extent serial with
  | some x => s.setExtent serial (some { x with closed := some s.tick, verify := true })
  | none => s

/-- An extent's blocks enter the pending-erase list (R272, R353). -/
def State.releaseExtent (s : State) (serial : Nat) : State :=
  match s.extent serial with
  | some x =>
    ((s.extentBlks x).foldl (fun (s : State) bk => if s.blkUse bk = 2 then s.setUse bk 3 else s) s).setExtent serial none
  | none => s

/-- The extent that a location word lies in. -/
def State.extentAt (s : State) (w : W64) : Option (Nat × Extent) :=
  let g := s.dieGroup (locChan w) (locDie w)
  s.extentList.find? (fun p => decide (p.2.group = g.1) && decide (p.2.blocks.getD (4 * g.2 + locPlane w) 0 = locBlock w) &&
    decide (locPlane w < s.fam.planes))

/-- Places of the next `n` grains of an extent, from its fill on. -/
def State.nextPlaces (s : State) (serial : Nat) (x : Extent) (n : Nat) : Option (List W64) :=
  let e := s.extEntryOf serial x
  let ws := (List.range n).map (fun i => s.extFrame e (x.fill + i))
  if ws.all (·.isSome) ∧ x.fill + n ≤ s.extentRoom x.mode then some (ws.map (·.getD 0)) else none

/-- Grains are stored at the next places of an extent: the words, or none when a key is missing, no room
is left, or a place cannot take its grain now. -/
def State.fillExtent (s : State) (serial : Nat) (gs : List (List Byte × List Byte)) : Option (List W64 × State) :=
  match s.extent serial with
  | none => none
  | some x =>
    match s.nextPlaces serial x gs.length with
    | none => none
    | some ws =>
      if !s.placesOk ws gs.length then none else
      match s.storeGrains ws gs with
      | none => none
      | some s =>
        let s := s.setExtent serial (some { x with fill := x.fill + gs.length, wrote := s.tick })
        some (ws, s.parityRows serial 4)

/-! ## The spare and the riser reserve -/

/-- Extents of pSLC that a namespace's metadata charge takes (R284). -/
def State.metaExtents (s : State) (charge : Nat) : Nat :=
  if charge = 0 then 0 else (charge + s.extentRoom 3 - 1) / max 1 (s.extentRoom 3)

/-- Blocks of the committed extents (R258, R284). -/
def State.committedBlocks (s : State) : Nat :=
  ((s.nsInfo.map (fun p => match p.2 with
    | some x => x.extents + s.metaExtents x.charge
    | none => 0)).sum) * (16 * s.fam.planes)

/-- The spare S: good blocks less committed and program-state blocks (R286, R359). -/
def State.spareBlocks (s : State) : Nat :=
  s.rawBlocks - (s.blocksOf 4).length - s.committedBlocks -
    (s.extentList.filter (fun p => p.2.use = 3)).length * (16 * s.fam.planes)

/-- Device-wide zones with an entry in the ingot store. -/
def State.listedZones (s : State) : List Nat :=
  ((s.ingot.filter (fun p => 0x1000000 ≤ p.1 ∧ p.1 < 0x1400000)).map (fun p => (p.1 - 0x1000000) / 8)).dedup

def isOpen (st : Nat) : Bool := decide (st = zImpOpen) || decide (st = zExpOpen)
def isActive (st : Nat) : Bool := isOpen st || decide (st = zClosed)

/-- Active and open zones of the device (R273). -/
def State.activeZones (s : State) : Nat := (s.listedZones.filter (fun z => isActive (s.zstate z))).length
def State.openZones (s : State) : List Nat := s.listedZones.filter (fun z => isOpen (s.zstate z))

/-- Reclaim units in progress (R281). -/
def State.unitsOpen (s : State) : List (Nat × Extent) := s.extentList.filter (fun p => p.2.use = 1 ∧ p.2.closed = none)

/-- A quotient rounded up. -/
def ceilDiv (a b : Nat) : Nat := (a + b - 1) / b

/-- The riser reserve floor F (R286). -/
def State.floorBlocks (s : State) : Nat :=
  ceilDiv (s.params.riser * s.rawBlocks) 10000 + (s.activeZones + s.unitsOpen.length)

/-- Whether host data may take one more extent: the blocks that hold no data stay above the floor without it (R286). -/
def State.hostRoom (s : State) : Bool :=
  decide (s.floorBlocks + 16 * s.fam.planes ≤ (s.blocksOf 1).length + (s.blocksOf 3).length)

/-- The spare that a creation must leave, D0 (R287, R362). -/
def State.createFloor (s : State) : Nat := ceilDiv s.rawBlocks 100 + 8192

end Sys2Proof.Machine
end

