-- ==== Sys2Proof/Machine/Namespaces.lean ====
section
/-! DEFINITION. Measurements, namespaces and volumes, crypto erase, Format NVM and Sanitize (R160, R222,
R251, R257, R258, R282 to R284, R287, R399, R406, R501 to R503, R510). -/

namespace Sys2Proof.Machine

/-! ## Measurements -/

/-- Station offset of word `j` of measurement register `i`. -/
def mrReg (i j : Nat) : Nat := sta 0x13 (0x1000 + 0x40 * i + 8 * j)

/-- The 48 bytes of a measurement register. -/
def State.mr (s : State) (i : Nat) : List Byte := (List.range 6).flatMap (fun j => toBytes 8 (s.reg (mrReg i j)).toNat)

/-- Extend a measurement register with a digest; the first 1,024 extensions enter the history (R160,
R251). -/
def State.extendMr (s : State) (i : Nat) (d : List Byte) : State :=
  let v := sha384 (s.mr i ++ d)
  let s := (List.range 6).foldl (fun (s : State) j => s.setReg (mrReg i j) (w64 (ofBytes ((v.drop (8 * j)).take 8)))) s
  let t := s.trust
  s.putTrust (if t.hist.length < 1024 then { t with hist := t.hist ++ [(i, BitVec.ofNat 384 (ofBytes d))] } else
      { t with lost := true })

/-- Register 8 takes each crypto erase, Sanitize and KEY_IMPORT, by namespace and kind (R510). -/
def State.measureKeys (s : State) (ns kind : Nat) : State := s.extendMr 8 (sha384 (toBytes 4 ns ++ toBytes 1 kind))

/-! ## Page 0xC2 -/

/-- Whether an entry of page 0xC2 lists an LBA of a namespace. -/
def lostLists (e : List Byte) (p : Nat × Nat) : Bool :=
  let a := ofBytes ((e.drop 8).take 8)
  decide (ofBytes (e.take 4) = p.1) && decide (a ≤ p.2) && decide (p.2 < a + ofBytes ((e.drop 4).take 4))

/-- An entry of page 0xC2 arises; no LBA of it has been written again yet (R248). -/
def State.addLost (s : State) (bs : List Byte) : State :=
  if s.lostRanges.length < 65536 then
    ((s.putLostRanges (s.lostRanges ++ [bs])).putLostGen ((s.lostGen + 1) % 2 ^ 32)).putLostAgain
      (s.lostAgain.filter (fun p => !lostLists bs p))
  else s

/-- Entries that `f` does not keep leave the page. -/
def State.keepLost (s : State) (f : List Byte → Bool) : State :=
  let r := s.lostRanges.filter f
  if r.length = s.lostRanges.length then s
  else ((s.putLostRanges r).putLostGen ((s.lostGen + 1) % 2 ^ 32)).putLostAgain
    (s.lostAgain.filter (fun p => r.any (fun e => lostLists e p)))

/-- `n` LBAs of a namespace from `lba` on have been written again: the entries of which every LBA has been leave page 0xC2
(R248). -/
def State.wroteAgain (s : State) (ns lba n : Nat) : State :=
  let fresh := ((List.range n).map (fun i => (ns, lba + i))).filter (fun p =>
    s.lostRanges.any (fun e => lostLists e p) && !s.lostAgain.contains p)
  if fresh.isEmpty then s else
  let s := s.putLostAgain (s.lostAgain ++ fresh)
  s.keepLost (fun e => !(List.range (ofBytes ((e.drop 4).take 4))).all (fun i =>
    s.lostAgain.contains (ofBytes (e.take 4), ofBytes ((e.drop 8).take 8) + i)))

/-! ## Formats -/

/-- A namespace by identifier. -/
def State.nsi (s : State) (n : Nat) : Option NsInfo := FMap.get (fun _ => none) s.nsInfo n
def State.setNsi (s : State) (n : Nat) (x : Option NsInfo) : State := s.putNsInfo (FMap.set (fun _ => none) s.nsInfo n x)

/-- Metadata bytes of an LBA format, and whether it has 16,384 B blocks (R222). -/
def fmtMeta (f : Nat) : Nat :=
  match f % 4 with
  | 0 => 0
  | 1 => 8
  | 2 => 16
  | _ => 64
def fmt16 (f : Nat) : Bool := decide (4 ≤ f)

/-- Grains of one LBA. -/
def fmtGrains (f : Nat) : Nat := if fmt16 f then 4 else 1

/-- Data grains per metadata grain (R283). -/
def metaG (f : Nat) : Nat := if fmtMeta f = 0 then 0 else 4096 * fmtGrains f / fmtMeta f

/-- Metadata grains of `n` data grains. -/
def metaCount (f n : Nat) : Nat := if fmtMeta f = 0 then 0 else ceilDiv n (metaG f)

/-- Zone size in grains of a namespace's zones (R256, R257). -/
def State.zsize (s : State) (endg : Nat) : Nat := if endg = 2 then 2 ^ 19 else zoneSize s.fam

/-- Capacity in grains of a volume zone (R257). -/
def volZoneCap (k : Nat) : Nat := 2 ^ 19 / Nat.lcm (16 * k) 256 * Nat.lcm (16 * k) 256

/-! ## Map memory -/

/-- Bytes of DRAM that a namespace's tables take: location words, or zone-extent entries with room for
their exception lists, and metadata words (R117, R118). -/
def mapBytes (kind grains zones : Nat) : Nat :=
  match kind with
  | 1 => 8 * grains
  | 2 => 8 * ceilDiv grains 4
  | _ => 1280 * zones

/-- Ranges of DRAM that the configured namespaces hold: start and length. -/
def State.mapRanges (s : State) : List (Nat × Nat) :=
  s.ns.flatMap (fun p =>
    [(p.2.baseAddr, mapBytes p.2.kind p.2.grains p.2.zones), (p.2.metaAddr, 8 * p.2.metaGrains)].filter (fun r => r.2 ≠ 0))

/-- Where DRAM for maps begins and ends: after the loader's area, before the tundish extension (DESIGN CHOICE, log entry
33). -/
def mapLow : Nat := 0x4000000
def State.mapHigh (s : State) : Nat :=
  let x := s.rfld (sta 4 8) 30 9 * 2 ^ 30
  if x = 0 then s.dramSize else min x s.dramSize

/-- The lowest free range of DRAM for maps, 64 B aligned. -/
def State.mapAlloc (s : State) (used : List (Nat × Nat)) (n : Nat) : Option Nat :=
  let starts := (mapLow :: used.map (fun r => ceilDiv (r.1 + r.2) 64 * 64)).filter (fun a =>
    decide (a + n ≤ s.mapHigh) && used.all (fun r => decide (a + n ≤ r.1) || decide (r.1 + r.2 ≤ a)))
  starts.foldl (fun (b : Option Nat) a => match b with
    | none => some a
    | some x => some (min x a)) none

/-- The first device-wide zone of a free run of `n` zones. -/
def State.zoneAlloc (s : State) (n : Nat) : Option Nat :=
  let used := (s.ns.filter (fun p => p.2.zoned)).map (fun p => (p.2.firstZone, p.2.zones))
  ((0 :: used.map (fun r => r.1 + r.2)).filter (fun a =>
    decide (a + n ≤ 524288) && used.all (fun r => decide (a + n ≤ r.1) || decide (r.1 + r.2 ≤ a)))).foldl
      (fun (b : Option Nat) a => match b with
        | none => some a
        | some x => some (min x a)) none

/-- DRAM cleared to 0 over a range, as dmfill does (R117, R444). -/
def State.clearDram (s : State) (a n : Nat) : State :=
  s.putDram (s.dram.filter (fun p => !(decide (a ≤ p.1) && decide (p.1 < a + n))))

/-- Configure the walker for a namespace: KIND, tables and zones; none when its tables do not fit. -/
def State.configNs (s : State) (n kind lbaf grains zones zsz : Nat) : Option State :=
  let used := s.mapRanges
  let size := mapBytes kind grains zones
  let mc := metaCount lbaf grains
  match s.mapAlloc used size with
  | none => none
  | some a =>
    match (if mc = 0 then some 0 else s.mapAlloc ((a, size) :: used) (8 * mc)), s.zoneAlloc zones with
    | some b, some z =>
      let c : NsCfg :=
        { cfg := w64 (kind + b2n (fmt16 lbaf) * 8), base := w64 a, cap := w64 grains,
          zone := w64 (z + zones * 2 ^ 20 + Nat.log2 zsz * 2 ^ 40), metaBase := w64 b, mcnt := w64 mc }
      let s := (s.clearDram a size).clearDram b (8 * mc)
      some (s.putNs (FMap.set nsReset s.ns n c))
    | _, _ => none

/-! ## Keys -/

/-- The first empty general slot. -/
def State.emptySlot (s : State) : Option Nat := (List.range generalSlots).find? (fun n => (s.vslot n).isNone)

/-- A general slot is filled from the TRNG and bound, unless the namespace has a key (R501). -/
def State.fillKey (s : State) (n : Nat) : State :=
  if !s.cipherPresent || s.dbgLock || bit (s.reg vaultStat) 2 || (s.slotOfNs n).isSome then s else
  match s.emptySlot with
  | none => s
  | some i =>
    let (key, s) := s.trngBytes 8
    (s.loadSlot i { kind := 0, key := key, origin := 0, bound := 0, holder := [] }).bindSlot i n

/-- The namespace's slot is cleared. -/
def State.clearKey (s : State) (n : Nat) : State :=
  match s.slotOfNs n with
  | some i => s.clearSlot i
  | none => s

/-! ## Emptying a namespace -/

/-- Reset a zone's entry and extents without a request, as mzone operation 3 does (R114). -/
def State.zoneClear (s : State) (n z : Nat) : State :=
  let c := s.nsAt n
  let a := c.baseAddr + 256 * z
  let dz := c.firstZone + z
  let s := ((s.setZstate dz zEmpty).setZone dz (w64 zEmpty)).setRsv dz 0
  s.putDram (wrNum (wrNum s.dram (a + 12) 4 0) (a + 11) 1 0)

/-- Extents of a namespace's zones enter the pending-erase list. -/
def State.releaseNs (s : State) (n : Nat) : State :=
  ((s.extentList.filter (fun p => decide (p.2.use = 0) && decide (p.2.ns = n))).map (·.1)).foldl State.releaseExtent s

/-- Every grain of a namespace is unmapped, or every zone reset (R502). -/
def State.emptyNs (s : State) (n : Nat) : State :=
  let c := s.nsAt n
  let s := s.clearDram c.metaAddr (8 * c.metaGrains)
  let s := if c.zoned then
      ((s.listedZones.filter (fun z => c.firstZone ≤ z ∧ z < c.firstZone + c.zones)).foldl
        (fun (s : State) z => s.zoneClear n (z - c.firstZone)) s).releaseNs n
    else s.clearDram c.baseAddr (mapBytes c.kind c.grains c.zones)
  s.keepLost (fun e => ofBytes (e.take 4) ≠ n)

/-- Members of a volume are told to reset its zones (R502). -/
def State.resetMembers (s : State) (l : Layout) : State :=
  l.serving.foldl (fun (s : State) m =>
    (List.range l.zones).foldl (fun (s : State) z => s.rsend m 0x13 0 3 [w64 (volKey l.vol (z * 2 ^ 19)), 3] []) s) s

/-- Members of a volume are told to drop its key, and then its zones (R502). -/
def State.wipeMembers (s : State) (l : Layout) : State :=
  (l.serving.foldl (fun (s : State) m => s.rsend m 0x17 0 3 [w64 l.vol] []) s).resetMembers l

/-- A crypto erase of a namespace or volume: its key is cleared, its grains go, and a new key is bound
(R502, R503). -/
def State.cryptoErase (s : State) (n : Nat) : State :=
  let s := s.clearKey n
  let s := match s.layout n with
    | some l => if s.isManager then s.wipeMembers l else s
    | none => s
  ((s.emptyNs n).fillKey n).measureKeys n 0

/-- The zones of a volume are dropped from this manager's tables. -/
def State.dropVolume (s : State) (l : Layout) : State :=
  (List.range l.zones).foldl (fun s z => (s.zoneClear l.vol z).setZtab (s.volZone l.vol z) 0) s

/-- The peer's copy of a volume: its namespace is set up from the layout record, with LBA format 0 (R414,
DEDUCED, log entry 34). -/
def State.peerVolume (s : State) (l : Layout) : State :=
  if (s.nsi l.vol).isSome then s else
  match s.configNs l.vol 4 0 (l.zones * 2 ^ 19) l.zones (2 ^ 19) with
  | none => s
  | some s =>
    let x : NsInfo := { lbaf := 0, csi := 2, endg := 2, nsze := l.zones * 2 ^ 19, ncap := l.zones * volZoneCap l.k, phndls := [],
                        attached := [], extents := 0, charge := 0 }
    (s.setNsi l.vol (some x)).putVolCap (FMap.set (fun _ => 0) s.volCap l.vol (volZoneCap l.k))

/-! ## Creation -/

/-- Free identifiers are taken from the lowest. -/
def State.freeNsid (s : State) : Option Nat :=
  (lowestFree ((s.nsInfo.map (·.1))) (s.nsInfo.length + 1) 1).filter (fun n => n ≤ 4096)

/-- A namespace on the device's own flash (R222, R258, R283, R284, R287). -/
def State.createLocal (s : State) (d : Cmd) (n csi : Nat) (x : NsCreate) : State :=
  let per := fmtGrains x.lbaf
  let zoned := decide (csi = 2)
  let grains := x.nsze * per
  let zsz := s.zsize 1
  let zones := if zoned then grains / zsz else 0
  let ext := if zoned then zones else ceilDiv (107 * (x.ncap * per)) (100 * max 1 (extentCap s.fam))
  let charge := 2 * metaCount x.lbaf (x.ncap * per)
  let kind := if zoned then 3 else if fmt16 x.lbaf then 2 else 1
  let info : NsInfo := { lbaf := x.lbaf, csi := csi, endg := 1, nsze := x.nsze,
                         ncap := if zoned then zones * (extentCap s.fam / per) else x.ncap,
                         phndls := x.phndls, attached := [], extents := ext, charge := charge }
  if x.ncap = 0 ∨ (zoned ∧ (grains % zsz ≠ 0 ∨ zones = 0)) ∨ (!zoned ∧ x.ncap ≠ x.nsze) ∨
      256 < x.phndls.length ∨ x.phndls.any (fun h => 256 ≤ h) then s.finish d stField
  else
    let need := (ext + s.metaExtents charge) * (16 * s.fam.planes)
    if s.spareBlocks < need + s.createFloor then s.finish d stNsCapacity
    else match s.configNs n kind x.lbaf grains zones zsz with
      | none => s.finish d stNsCapacity
      | some s => ((s.setNsi n (some info)).fillKey n).respond d (BitVec.ofNat 32 n) 0 stOk

/-- Member zones, in grains, that a volume takes of each pool member (R406). -/
def Layout.share (l : Layout) : Nat :=
  ceilDiv (l.zones * l.w) (max 1 (l.pool.length - l.r)) * (volZoneCap l.k / max 1 l.k) + 16 * l.k * 4096

/-- Whether a member has room for a share beside those of the volumes it already serves (R406). -/
def State.memberRoom (s : State) (m share : Nat) : Bool :=
  match FMap.get (fun _ => none) s.members m with
  | some x => decide (((s.volumes.filter (fun l => l.pool.contains m)).map Layout.share).sum + share ≤ x.cap * 2 ^ 18)
  | none => false

/-- An active worker of the enclosure (R249, R406). -/
def State.activeWorker (s : State) (m : Nat) : Bool :=
  decide (2 ≤ m) && (match FMap.get (fun _ => none) s.members m with
    | some x => decide (x.state = 2)
    | none => false)

/-- A volume (R257, R399, R402, R406, R411). -/
def State.createVolume (s : State) (d : Cmd) (n csi : Nat) (x : NsCreate) : State :=
  let all := (List.range 0x42).filter s.activeWorker
  let pool := if x.n = 0 then all.take 64 else x.pool
  let per := fmtGrains x.lbaf
  let zones := x.nsze * per / 2 ^ 19
  let l : Layout := { vol := n, k := x.k, m := x.m, mirror := x.mirror, r := x.r, group := s.ownMember + 1, gen := 1, zones := zones,
                      pool := pool, removed := [], reshape := false, r0 := 0, bound := 0, newPool := [] }
  let shapeOk := if x.mirror then decide (x.k = 1) && (decide (x.m = 1) || decide (x.m = 2))
    else decide (2 ≤ x.k) && decide (x.k ≤ 32) && decide (1 ≤ x.m) && decide (x.m ≤ 4)
  if csi ≠ 2 ∨ !shapeOk ∨ x.r < 1 ∨ 4 < x.r ∨ pool.length < x.k + x.m + x.r ∨ 64 < pool.length ∨
      (x.n ≠ 0 ∧ x.n ≠ pool.length) ∨ !pool.all s.activeWorker ∨ !decide (pool.Pairwise (· < ·)) ∨
      x.nsze * per % 2 ^ 19 ≠ 0 ∨ zones = 0 then s.finish d stField
  else if x.lbaf ≠ 0 ∧ x.lbaf ≠ 4 then s.finish d stFormat
  else if !pool.all (fun m => s.memberRoom m l.share) then s.finish d stNsCapacity
  else match s.configNs n 4 x.lbaf (zones * 2 ^ 19) zones (2 ^ 19) with
    | none => s.finish d stNsCapacity
    | some s =>
      let info : NsInfo := { lbaf := x.lbaf, csi := 2, endg := 2, nsze := x.nsze, ncap := zones * (volZoneCap x.k / per), phndls := [],
                             attached := [], extents := 0, charge := 0 }
      let s := (s.setNsi n (some info)).putVolCap (FMap.set (fun _ => 0) s.volCap n (volZoneCap x.k))
      (((s.putLayout l).ckpt 2 l.bytes).fillKey n).respond d (BitVec.ofNat 32 n) 0 stOk

/-- NAMESPACE_CREATE (R222, R257, R258, R280, R287, R406). -/
def execNamespaceCreate (k : W64) (x : NsCreate) (s : State) : Res :=
  onCmd s k true 0x0D (fun s d =>
    let csi := d.dw 11 / 2 ^ 24
    if d.dw 10 % 16 ≠ 0 then s
    else s.pfOnly d (
      if 7 < x.lbaf then s.finish d stFormat
      else match s.freeNsid with
        | none => s.finish d stNsidUnavailable
        | some n =>
          if x.endg = 2 ∧ s.isManager then s.createVolume d n csi x
          else if (csi ≠ 0 ∧ csi ≠ 2) ∨ x.endg ≠ 1 then s.finish d stField
          else s.createLocal d n csi x))

/-- A namespace goes: a crypto erase, then its tables, extents and entries (R258, R502). -/
def State.dropNs (s : State) (n : Nat) : State :=
  let s := s.cryptoErase n
  let s := (s.clearKey n).setNsi n none
  let s := match s.layout n with
    | some _ => s.putIngot (wrNum s.ingot (layoutOff n) 256 0)
    | none => s
  (s.putNs (FMap.set nsReset s.ns n (nsReset n))).putVolCap (FMap.set (fun _ => 0) s.volCap n 0)

/-- I/O commands of a namespace that are still outstanding. -/
def State.nsBusy (s : State) (n : Nat) : Bool :=
  s.cmds.any (fun d => !d.admin && decide (d.nsid = n) && (match d.settle with
    | .settled _ => false
    | _ => true))

/-- Why a volume may not be changed here now: the manager does not own its group, or lacks a majority of its
pool (R425, R426). -/
def State.volumeRefuse (s : State) (n : Nat) : Option (BitVec 15) :=
  match s.layout n with
  | none => none
  | some l =>
    if !s.isManager then none
    else if !(s.anaGroup l.group).owned then some stAnaTransition
    else if !s.majority l then some stAnaInaccessible
    else none

/-- Namespaces that an identifier names: all of them for the broadcast value. -/
def State.named (s : State) (n : Nat) : List Nat := if n = 0xFFFFFFFF then s.nsInfo.map (·.1) else [n]

/-- NAMESPACE_DELETE (R502); it waits for the commands of the namespace. -/
def execNamespaceDelete (k : W64) (s : State) : Res :=
  onCmd s k true 0x0D (fun s d =>
    if d.dw 10 % 16 = 0 then s
    else s.pfOnly d (
      let ns := s.named d.nsid
      if d.dw 10 % 16 ≠ 1 then s.finish d stField
      else if ns.any (fun n => (s.nsi n).isNone) then s.finish d stNamespace
      else match ns.findSome? s.volumeRefuse with
        | some st => s.finish d st
        | none =>
          if ns.any s.nsBusy then s else (ns.foldl State.dropNs s).finish d stOk))

/-- NAMESPACE_ATTACHMENT: attach and detach, by a list of controllers (R222). -/
def execNamespaceAttachment (k : W64) (ctls : List Nat) (s : State) : Res :=
  onCmd s k true 0x15 (fun s d =>
    s.pfOnly d (
      match s.nsi d.nsid with
      | none => s.finish d stNamespace
      | some x =>
        if ctls.isEmpty ∨ ctls.any (fun c => !s.isPf c ∧ !s.funcExists c) then s.finish d stCtrlList
        else match d.dw 10 % 16 with
          | 0 =>
            if ctls.any (fun c => x.attached.contains c) then s.finish d stNsAttached
            else (s.setNsi d.nsid (some { x with attached := x.attached ++ ctls.dedup })).finish d stOk
          | 1 =>
            if ctls.any (fun c => !x.attached.contains c) then s.finish d stNsNotAttached
            else (s.setNsi d.nsid (some { x with attached := x.attached.filter (fun c => !ctls.contains c) })).finish d stOk
          | _ => s.finish d stField))

/-! ## Format NVM and Sanitize -/

/-- One namespace takes a format: its contents go, and its tables are laid out anew. -/
def State.formatNs (s : State) (ses lbaf n : Nat) : State :=
  match s.nsi n with
  | none => s
  | some x =>
    let c := s.nsAt n
    let s := if ses = 2 then s.cryptoErase n else
      (match s.layout n with
        | some l => if s.isManager then s.resetMembers l else s
        | none => s).emptyNs n
    let old := fmtGrains x.lbaf
    let new := fmtGrains lbaf
    let kind := if c.kind ≤ 2 then (if fmt16 lbaf then 2 else 1) else c.kind
    let free := s.putNs (FMap.set nsReset s.ns n (nsReset n))
    match free.configNs n kind lbaf c.grains c.zones (2 ^ c.zshift) with
    | none => s
    | some s =>
      s.setNsi n (some { x with lbaf := lbaf, nsze := x.nsze * old / new, ncap := x.ncap * old / new,
                                charge := if x.endg = 2 then 0 else 2 * metaCount lbaf (x.ncap * old) })

/-- FORMAT_NVM: it waits for the commands of the namespaces, and ends a self-test (R220, R257, R364, R502,
R511). -/
def execFormatNvm (k : W64) (s : State) : Res :=
  onCmd s k true 0x80 (fun s d =>
    let lbaf := d.dw 10 % 16 + d.dw 10 / 2 ^ 12 % 4 * 16
    let ses := d.dw 10 / 2 ^ 9 % 8
    let ns := s.named d.nsid
    if ns.any (fun n => (s.nsi n).isNone) then s.finish d stNamespace
    else if 7 < lbaf ∨ ns.any (fun n => (s.layout n).isSome ∧ lbaf ≠ 0 ∧ lbaf ≠ 4) then s.finish d stFormat
    else if 2 < ses then s.finish d stField
    else match ns.findSome? s.volumeRefuse with
      | some st => s.finish d st
      | none =>
        if ns.any s.nsBusy then s
        else ((ns.foldl (State.formatNs · ses lbaf) s).endTest 3).finish d stOk)

/-- SANITIZE_CRYPTO_ERASE: every namespace and volume takes a crypto erase (R502). -/
def execSanitizeCryptoErase (k : W64) (s : State) : Res :=
  onCmd s k true 0x84 (fun s d =>
    if d.dw 10 % 8 ≠ 4 then s
    else s.pfOnly d (
      let ns := s.nsInfo.map (·.1)
      match ns.findSome? s.volumeRefuse with
      | some st => s.finish d st
      | none =>
        if ns.any s.nsBusy then s
        else
          let s := ns.foldl State.cryptoErase s
          ((s.putCare { s.care with sanit := 1 } : State).measureKeys 0 4).finish d stOk))

/-- SANITIZE_BLOCK_ERASE: every general slot is cleared, every extent goes to the pending-erase list, and the
enclosure record is cleared; other actions are not supported (R218, R503). -/
def execSanitizeBlockErase (k : W64) (s : State) : Res :=
  onCmd s k true 0x84 (fun s d =>
    if d.dw 10 % 8 = 4 then s
    else s.pfOnly d (
      let ns := s.nsInfo.map (·.1)
      if d.dw 10 % 8 ≠ 2 then s.finish d stField
      else match ns.findSome? s.volumeRefuse with
        | some st => s.finish d st
        | none =>
          if ns.any s.nsBusy then s
          else
            let s := ((s.vault.map (·.1)).filter (· < generalSlots)).foldl State.clearSlot s
            let s := ns.foldl State.emptyNs s
            let s := (s.extentList.map (·.1)).foldl State.releaseExtent s
            let s := (s.putIngot (wrNum s.ingot 0xE100040 64 0)).putCare { s.care with sanit := 2 }
            ((ns.foldl State.fillKey s).measureKeys 0 2).finish d stOk))

end Sys2Proof.Machine
end

