-- ==== Sys2Proof/Machine/Zones.lean ====
section
/-! DEFINITION. Zones: opening, closing, finishing and resetting them, Report Zones, and the zone care of the
resident set (R261 to R263, R267 to R273, R355, R417, R418). -/

namespace Sys2Proof.Machine

/-! ## Map operations of the resident set -/

/-- A map request of the resident set, made for its operation alone. -/
def mapReq (p : Prim) (imm : Nat) (ops : List W64) : Req where
  prim := p
  core := 0
  ticket := 0
  cls := 0
  level := 3
  cur := 3
  age := 0
  imm := BitVec.ofNat 32 imm
  ops := ops
  recCluster := false
  recOff := 0
  unit := 0x42
  loader := false
  bufs := []
  cfg := nsReset 0
  phase := .started

/-- A step of a command: a new state, a status that ends the command, or a wait (none). -/
abbrev Try (α : Type) := Except (Option (BitVec 15)) α

/-- Key of the first LBA of zone `z` of namespace `n`. -/
def State.zoneKeyOf (s : State) (n z : Nat) : W64 :=
  let c := s.nsAt n
  w64 (n * 2 ^ 48 + (if c.lba16 then z * 2 ^ c.zshift / 4 else z * 2 ^ c.zshift))

/-- LTAIL moves to LHEAD: the map segments that the records cover are durable as program state, whose layout no
rule gives (R473, DEDUCED, log entry 62). -/
def State.logTrim (s : State) : State :=
  let h := s.lhead
  (s.putIngot (wrNum s.ingot (logBase + 8) 8 h) : State).setRfld (sta 9 0x18) 0 27 h

/-- A map operation of the resident set; when the log is full its records are covered first (R473). -/
def State.mapTry (s : State) (f : State → MapRes) : MapRes :=
  match f s with
  | .error oc => if oc = 0x65 then f s.logTrim else .error oc
  | .ok r => .ok r

/-- An mzone operation; a full log or a range still reserved makes the command wait (R114, R262). -/
def State.mzoneTry (s : State) (n z op : Nat) (arg : W64) : Try State :=
  match s.mapTry (fun s => s.mzoneOp (mapReq .mzone op [s.zoneKeyOf n z, 1, arg])) with
  | .error _ => .error none
  | .ok (s, _, _) => .ok s

/-- The word that the peer's record commits for a grain of a zone: the data member, or the uncorrectable
marker (R413, R416). -/
def Layout.commitWord (l : Layout) (set : List (Option Nat × Nat)) (o : Nat) (bad : Bool) : W64 :=
  if bad then marker else
  match (set.getD (l.posOf o) (none, 0)).1 with
  | some m => w64 (m * 2 ^ 44)
  | none => marker

/-- Commit a range of a volume's zone without a request: the record goes to the log, the write pointer and
the exceptions move (R121, R263, R413). -/
def State.volCommit (s : State) (l : Layout) (z o n : Nat) (seq : W64) (bad : Bool) : Option State :=
  let c := s.nsAt l.vol
  let dz := c.firstZone + z
  let set := s.setNow l z
  let ws := (List.range n).map (fun i => l.commitWord set (o + i) bad)
  let lr : LogRec := { key := w64 (l.vol * 2 ^ 48 + z * 2 ^ c.zshift + o), count := n, kind := 2, loc := 0, first := fld seq 0 56,
                       zoneArg := 0, words := ws }
  let a := c.baseAddr + 256 * z
  let en := s.readEntry a
  let rs := commitRuns false (fun _ w => memberWord w) o ws (s.readRuns en.listAddr en.runs)
  if s.zwp dz ≠ o ∨ s.zcap l.vol < o + n ∨ min en.listCap 64 < rs.length then none else
  match (match s.logAppend lr with
    | none => s.logTrim.logAppend lr
    | some r => some r) with
  | none => none
  | some (_, s) =>
    let s := (s.writeRuns a en.listAddr rs).setZwp dz (o + n)
    some (if o + n = s.zcap l.vol then s.setZstate dz zFull else s)

/-- Remember a token at a place, as a reservation does (R274, R275). -/
def State.tokPut (s : State) (z o n : Nat) (tok : W64) : State :=
  let (slot, s) := s.tokSlot z
  let i := FMap.get (fun _ => 0) s.tokCount slot
  let m := wrNum (wrNum s.ingot (tokOff slot i) 8 tok.toNat) (tokOff slot i + 8) 4 (o % 2 ^ 24 + (n - 1) % 256 * 2 ^ 24)
  (s.putIngot m).putTokCount (FMap.set (fun _ => 0) s.tokCount slot (i + 1))

/-! ## Extents of zones -/

/-- Zone-extent entry address of zone `z` of a namespace (R118). -/
def State.entryAddr (s : State) (n z : Nat) : Nat := (s.nsAt n).baseAddr + 256 * z

/-- Address of a zone's exception list: after the table, 1 KiB for each zone (DESIGN CHOICE, log entry 33). -/
def State.listAddrOf (s : State) (n z : Nat) : Nat := (s.nsAt n).baseAddr + 256 * (s.nsAt n).zones + 1024 * z

/-- The entry that a zone takes with an extent; a volume's zone has no extent (R118). -/
def State.writeEntry (s : State) (n z serial : Nat) (x : Option Extent) : State :=
  let b (v : Nat) (k : Nat) : List Byte := toBytes k v
  let bs := b serial 8 ++ b ((x.map (·.group)).getD 0) 1 ++ b ((x.map (·.mode)).getD 0) 1 ++ b 0 1 ++ b 1 1 ++ b 0 4 ++
    b (s.listAddrOf n z) 8 ++ b 64 4 ++ b 0 4 ++ ((x.map (·.blocks)).getD (List.replicate 64 0)).flatMap (fun k => b k 2) ++
    List.replicate 96 0
  s.writeLoc (.dram (s.entryAddr n z)) bs

/-- Before a zone's first commit after Empty its entry is written, with a new extent on the device's own
flash; without a free extent above the floor the command waits (R118, R255, R286, R346). -/
def State.needEntry (s : State) (n z : Nat) : Try State :=
  if (s.readEntry (s.entryAddr n z)).valid then .ok s
  else if (s.nsAt n).kind = 4 then .ok (s.writeEntry n z 0 none)
  else if !s.hostRoom then .error none
  else match s.newExtent 0 s.nativeMode n 0 0 s.dieGroups with
    | some (serial, s) => .ok (s.writeEntry n z serial (s.extent serial))
    | none => .error none

/-- The serial number of a zone's extent. -/
def State.zoneSerial (s : State) (n z : Nat) : Option Nat :=
  let e := s.readEntry (s.entryAddr n z)
  if (s.nsAt n).kind = 3 ∧ e.valid then some e.serial else none

/-- Frames of every row without parity are padded, as when a zone ends (R256, R343). -/
def State.padAll (s : State) (serial : Nat) : State :=
  match s.extent serial with
  | some x =>
    (((List.range (s.rowCount x.mode)).drop x.rows).foldl (fun (s : State) w => s.padRow serial x w) s)
  | none => s

/-- A zone's extent closes; a zone that is full to its capacity has every other frame padded (R256, R343). -/
def State.closeZoneExtent (s : State) (n z : Nat) (whole : Bool) : State :=
  match s.zoneSerial n z with
  | some serial => (if whole then s.padAll serial else s).closeExtent serial
  | none => s

/-! ## Opening -/

/-- Whether a zone has a reservation outstanding. -/
def State.reserved (s : State) (dz : Nat) : Bool := decide (s.zrsv dz ≠ s.zwp dz)

/-- Namespace and zone of a device-wide zone. -/
def State.zoneOwner (s : State) (dz : Nat) : Option (Nat × Nat) :=
  (s.ns.find? (fun p => p.2.zoned && decide (p.2.firstZone ≤ dz) && decide (dz < p.2.firstZone + p.2.zones))).map
    (fun p => (p.1, dz - p.2.firstZone))

/-- The implicitly opened zone without a reservation that was written least recently (R268). -/
def State.lruZone (s : State) : Option Nat :=
  ((s.openZones.filter (fun z => decide (s.zstate z = zImpOpen) && !s.reserved z)).foldl
    (fun (b : Option (Nat × Nat)) z =>
      let t := (FMap.get (fun _ => (0 : W64)) s.zoneUsed z).toNat
      match b with
      | none => some (t, z)
      | some y => if t < y.1 then some (t, z) else some y) none).map (·.2)

/-- Limit of active and of open zones (R273). -/
def zoneLimit : Nat := 4096

/-- A kind 3 record of a zone's state goes to the peer (R412, R418). -/
def State.recordState (s : State) (n z op : Nat) : State :=
  match s.layout n with
  | some l => if s.isManager then s.zoneRecord l z op 0 1 0 0 false else s
  | none => s

/-- A volume zone that leaves Empty during a reshape uses the new pool (R438). -/
def State.leaveEmpty (s : State) (n z : Nat) : State :=
  match s.layout n with
  | some l =>
    let dz := s.volZone n z
    if s.isManager && l.reshape && (decide (s.zstate dz = 0) || decide (s.zstate dz = zEmpty)) then
      s.changeZtab n z (setBit (s.ztab dz) 6 true)
    else s
  | none => s

/-- A zone takes a state by mzone operation 2, mirrored for a volume (R114, R418). -/
def State.putZoneState (s : State) (n z st rec : Nat) : Try State :=
  ((if st = zEmpty then s else s.leaveEmpty n z).mzoneTry n z 2 (w64 st)).map (fun (s : State) => s.recordState n z rec)

/-- Close one zone on the resident set's own account (R267, R268). -/
def State.closeOwn (s : State) (dz : Nat) : Try State :=
  match s.zoneOwner dz with
  | some (n, z) => s.putZoneState n z zClosed 4
  | none => .ok s

/-- The implicit open of a write: its limits, and a zone closed in its favour (R264, R267, R268). -/
def State.implicitOpen (s : State) (n z : Nat) : Try State :=
  let dz := (s.nsAt n).firstZone + z
  let st := s.zstate dz
  if isOpen st then .ok s
  else if st = zFull then .error (some stZoneFull)
  else if st ≠ zClosed ∧ zoneLimit ≤ s.activeZones then .error (some stZoneActive)
  else if s.openZones.length < zoneLimit then s.putZoneState n z zImpOpen 3
  else match s.lruZone with
    | none => .error (some stZoneOpen)
    | some v =>
      match s.closeOwn v with
      | .error e => .error e
      | .ok s => s.putZoneState n z zImpOpen 3

/-! ## Actions -/

/-- Open action (R267, R271, R289). -/
def State.openAct (s : State) (n z : Nat) : Try State :=
  let st := s.zstate ((s.nsAt n).firstZone + z)
  if st = zExpOpen then .ok s
  else if st = zFull then .error (some stZoneTransition)
  else if ¬isActive st ∧ zoneLimit ≤ s.activeZones then .error (some stZoneActive)
  else if ¬isOpen st ∧ zoneLimit ≤ s.openZones.length then .error (some stZoneOpen)
  else s.putZoneState n z zExpOpen 2

/-- Close action: Closed, or Empty when nothing has been written (R267). -/
def State.closeAct (s : State) (n z : Nat) : Try State :=
  let dz := (s.nsAt n).firstZone + z
  let st := s.zstate dz
  if st = zClosed then .ok s
  else if !isOpen st then .error (some stZoneTransition)
  else if s.zwp dz = 0 ∧ !s.reserved dz then s.putZoneState n z zEmpty 4
  else s.putZoneState n z zClosed 4

/-- Header word 3 of a GWRITE: grains less one, and the first number (R208). -/
def creditWord (n first : Nat) : W64 := w64 ((n - 1) % 64 * 2 ^ 56 + first % 2 ^ 56)

/-- Grains as a framed payload: plaintext, then the tag with its guard (R195, R204). -/
def framed (gs : List (List Byte × List Byte)) : List Byte := gs.flatMap (fun g => g.1 ++ withGuard g.1 g.2)

/-- A GWRITE of consecutive member grains of a volume (R384, R416). -/
def State.sendGrains (s : State) (v m addr flags first : Nat) (gs : List (List Byte × List Byte)) : State :=
  if gs.isEmpty then s else
  s.rsend m 0x10 flags 3 [w64 (volKey v addr), w64 (gs.length - 1), 0, creditWord gs.length first] (framed gs)

/-- Tag of a parity grain of piece `p`, grain row `g` of the stripe at zone offset `o`, written for a command of `n` grains
of function `f`, or for none (R188, R191, R405). -/
def State.parityTag (s : State) (l : Layout) (f n z o p g wsn : Nat) : List Byte :=
  ({ kind := 3, flags := s.tagFlags 0, func := f, ns := l.vol, handle := 0, lba := z * 2 ^ 19 + o + 16 * p + g, count := n - 1,
     wsn := wsn, life := 0, role := 2 + p } : TagF).bytes

/-- The parity pieces of a stripe are sent with numbers from `first` on (R415, R416). -/
def State.sendParity (s : State) (l : Layout) (f n z st first : Nat) (acc : List (List Byte)) : State :=
  let set := s.setNow l z
  (List.range l.m).foldl (fun (s : State) p =>
    match (set.getD (l.k + p) (none, 0)).1 with
    | some m =>
      let gs := (List.range 16).map (fun g =>
        (acc.getD (16 * p + g) zeroGrain, s.parityTag l f n z (16 * l.k * st) p g (first + 16 * p + g)))
      s.sendGrains l.vol m (pieceAddr z st) 0x0B (first + 16 * p) gs
    | none => s) s

/-- Before a Finish, the open stripe of a zone takes its parity with the unwritten grains as zero: it is sent once
(R418). -/
def State.finishPrep (s : State) (n z : Nat) : State :=
  let dz := (s.nsAt n).firstZone + z
  match s.layout n, s.stripeSlot n z with
  | some l, some (_, e) =>
    if !s.isManager || l.mirror || s.finishing.contains dz || !isActive (s.zstate dz) || s.reserved dz || s.gathers n z then s
    else
      let (first, s) := s.takeNumbers 0 (16 * l.m)
      (s.sendParity l 0xFFFF 1 z e.stripe first (s.accumOf dz l.m)).putFinishing (s.finishing ++ [dz])
  | _, _ => s

/-- After a Finish the open stripe is sealed, and its accumulator is let go (R418). -/
def State.finishStripe (s : State) (l : Layout) (z : Nat) : State :=
  let dz := s.volZone l.vol z
  let s := match s.stripeSlot l.vol z with
    | some (i, e) => s.seal l z e.stripe i
    | none => s
  (s.putAccum (FMap.set (fun _ => []) s.accum dz [])).putFinishing (s.finishing.filter (· ≠ dz))

/-- Finish action: an active zone becomes Full (R267, R272, R418). -/
def State.finishAct (s : State) (n z : Nat) : Try State :=
  let dz := (s.nsAt n).firstZone + z
  let st := s.zstate dz
  if st = zFull then .ok s
  else if !isActive st then .error (some stZoneTransition)
  else if s.reserved dz then .error none
  else
    match s.layout n with
    | some l =>
      if !s.isManager then .error (some stZoneTransition)
      else if s.piecesAwait n z || s.gathers n z then .error none
      else (s.mzoneTry n z 4 0).map (fun (s : State) => (s.mirrorAction l z 5).finishStripe l z)
    | none => (s.mzoneTry n z 4 0).map (fun (s : State) => s.closeZoneExtent n z false)

/-- Whether an entry of page 0xC2 lies in a zone. -/
def State.lostIn (s : State) (n z : Nat) (e : List Byte) : Bool :=
  let c := s.nsAt n
  let per := if c.lba16 then 4 else 1
  decide (ofBytes (e.take 4) = n) && decide (ofBytes ((e.drop 8).take 8) * per / 2 ^ c.zshift = z)

/-- Reset action: the zone becomes Empty, and its extent then enters the pending-erase list (R267, R272, R418,
R430). -/
def State.resetAct (s : State) (n z : Nat) : Try State :=
  let dz := (s.nsAt n).firstZone + z
  if s.zstate dz = zEmpty ∨ s.zstate dz = 0 then .ok s
  else if s.reserved dz then .error none
  else
    let old := s.zoneSerial n z
    match s.mzoneTry n z 3 0 with
    | .error e => .error e
    | .ok s =>
      let s := s.keepLost (fun e => !s.lostIn n z e)
      match s.layout n, old with
      | some l, _ =>
        if !s.isManager then .ok s else
        let s := match s.stripeSlot n z with
          | some (i, _) => s.freeSlot i
          | none => s
        let s := (s.mirrorAction l z 6).setZtab dz (setFld (setFld (s.ztab dz) 0 6 l.removed.length) 7 1 0)
        .ok (s.putAccum (FMap.set (fun _ => []) s.accum dz []))
      | none, some serial => .ok (s.releaseExtent serial)
      | none, none => .ok s

/-! ## Zone Management Send -/

/-- First LBA of a zone command. -/
def Cmd.slba (d : Cmd) : Nat := d.dw 10 + d.dw 11 * 2 ^ 32

/-- LBAs of a zone, for a namespace. -/
def NsCfg.zoneLbas (c : NsCfg) : Nat := if c.lba16 then 2 ^ c.zshift / 4 else 2 ^ c.zshift

/-- The namespace of an I/O command: it must exist, be attached and, for a volume, be served here (R222,
R424, R426). -/
def State.ioNs (s : State) (d : Cmd) : Except (BitVec 15) NsInfo :=
  match s.nsi d.nsid with
  | none => .error stNamespace
  | some x =>
    if !x.attached.contains d.func then .error stField
    else match s.layout d.nsid with
      | none => .ok x
      | some l =>
        if !s.isManager then .ok x
        else if !s.majority l ∨ (s.anaGroup l.group).state = 3 then .error stAnaInaccessible
        else if (s.anaGroup l.group).state = 15 then .error stAnaTransition
        else .ok x

/-- Whether the preserve state stops a command: one that had been fetched before it finishes normally (R288, R289). -/
def State.preserved (s : State) (d : Cmd) : Bool := s.preserve && !s.kept.contains (d.key, d.fsn)

/-- A command that may hold a hazard entry ends: the entry is deleted with it (R104). -/
def State.endCmd (s : State) (d : Cmd) (st : BitVec 15) : State := (s.dropHaz d).finish { d with haz := none } st

/-- A command that writes, at the manager that does not own its volume's group: a transfer is asked for, and
the command ends with Asymmetric Access Transition; at a new owner it waits for the counter's floor (R199, R425). -/
def State.ownerCheck (s : State) (d : Cmd) (f : State → State) : State :=
  match s.layout d.nsid with
  | some l =>
    if s.isManager ∧ !(s.anaGroup l.group).owned then
      (s.ckpt 4 (toBytes 8 l.group)).endCmd d stAnaTransition
    else if s.isManager ∧ s.wsnFloor.isSome then s
    else f s
  | none => f s

/-- The zones that a zone command names. -/
def State.zonesOf (s : State) (d : Cmd) (all : Bool) : Option (List Nat) :=
  let c := s.nsAt d.nsid
  if all then some (List.range c.zones)
  else if d.slba % c.zoneLbas = 0 ∧ d.slba / c.zoneLbas < c.zones then some [d.slba / c.zoneLbas] else none

/-- Whether a command has zone `z` among its own: an action or report its named zones, a read or write those that its
range meets (R271). -/
def Cmd.touches (x : Cmd) (zl z : Nat) : Bool :=
  let lo := x.slba / max 1 zl
  if x.opcode = 0x79 then decide (x.dw 13 / 256 % 2 = 1) || decide (z = lo)
  else if x.opcode = 0x7A then decide (lo ≤ z)
  else if x.opcode = 0x7D ∨ x.opcode = 0x9D then decide (z = lo)
  else decide (lo ≤ z) && decide (z ≤ (x.slba + x.dw 12 % 65536) / max 1 zl)

/-- Whether a command fetched before the action, or a range reserved before it, may still touch one of its zones (R271). -/
def State.zonesBusy (s : State) (d : Cmd) (zs : List Nat) : Bool :=
  let c := s.nsAt d.nsid
  s.cmds.any (fun x => !x.admin && decide (x.nsid = d.nsid) && x.unsettled && fsnBefore x.fsn d.fsn &&
    zs.any (fun z => x.touches c.zoneLbas z)) ||
  s.jobs.any (fun j => decide (j.vol = d.nsid) && zs.contains j.zone)

/-- Whether an action on one of a command's zones, fetched before it, has not settled yet (R271). -/
def State.actionFirst (s : State) (d : Cmd) : Bool :=
  let c := s.nsAt d.nsid
  c.zoned && s.cmds.any (fun x => !x.admin && decide (x.opcode = 0x79) && decide (x.nsid = d.nsid) && x.unsettled && fsnBefore x.fsn d.fsn &&
    (List.range c.zones).any (fun z => x.touches c.zoneLbas z && d.touches c.zoneLbas z))

/-- Apply an action to zones in turn; the first status that is not success ends it and changes nothing. -/
def State.actAll (s : State) (act : State → Nat → Try State) : List Nat → Try State
  | [] => .ok s
  | z :: zs =>
    match act s z with
    | .error e => .error e
    | .ok s => State.actAll s act zs

/-- A Zone Management Send action: ZSA `code`, on one zone or on every zone in a state that `q` takes (R267,
R271).  `prep` goes before it on each zone; a volume's action completes once its records are mirrored (R418). -/
def zoneSend (s : State) (k : W64) (code : Nat) (q : Nat → Bool) (prep : State → Nat → Nat → State)
    (act : State → Nat → Nat → Try State) : Res :=
  onCmd s k false 0x79 (fun s d =>
    if d.dw 13 % 256 ≠ code then s else
    match s.ioNs d with
    | .error st => s.finish d st
    | .ok _ =>
      let c := s.nsAt d.nsid
      let all := decide (d.dw 13 / 256 % 2 = 1)
      if !c.zoned then s.finish d stOpcode
      else s.ownerCheck d (fun s =>
        match s.zonesOf d all with
        | none => s.finish d (if d.slba / max 1 c.zoneLbas < c.zones then stField else stLbaRange)
        | some named =>
          let zs := if all then named.filter (fun z => q (s.zstate (c.firstZone + z))) else named
          let waits (s : State) : Bool := named.any (fun z => s.recordAwaits d.nsid z)
          if d.acted then (if waits s then s else s.finish d stOk)
          else if s.zonesBusy d zs then s
          else
            let s := zs.foldl (fun (s : State) z => prep s d.nsid z) s
            match s.actAll (fun s z => act s d.nsid z) zs with
            | .ok s => if waits s then s.setCmd { d with acted := true } else s.finish d stOk
            | .error (some st) => s.finish d st
            | .error none => s))

/-- No step goes before an action. -/
def noPrep (s : State) (_ _ : Nat) : State := s

/-- ZONE_OPEN, ZONE_CLOSE, ZONE_FINISH and ZONE_RESET (R267, R271, R272). -/
def execZoneOpen (k : W64) (s : State) : Res :=
  zoneSend s k 3 (· = zClosed) noPrep (fun t n z => if (s.cmdOf k).any s.preserved then .error (some stZoneReadOnly) else t.openAct n z)
def execZoneClose (k : W64) (s : State) : Res := zoneSend s k 1 isOpen noPrep State.closeAct
def execZoneFinish (k : W64) (s : State) : Res := zoneSend s k 2 isActive State.finishPrep State.finishAct
def execZoneReset (k : W64) (s : State) : Res := zoneSend s k 4 (fun st => isActive st || decide (st = zFull)) noPrep State.resetAct

/-- ZONE_OFFLINE always completes with Invalid Zone State Transition (R267). -/
def execZoneOffline (k : W64) (s : State) : Res :=
  onCmd s k false 0x79 (fun s d =>
    if d.dw 13 % 256 ≠ 5 then s else
    match s.ioNs d with
    | .error st => s.finish d st
    | .ok _ => s.finish d (if (s.nsAt d.nsid).zoned then stZoneTransition else stOpcode))

/-- SET_ZONE_DESCRIPTOR_EXTENSION, and any action that is not one of the others, is an invalid field (R267). -/
def execSetZoneDescriptorExtension (k : W64) (s : State) : Res :=
  onCmd s k false 0x79 (fun s d =>
    if 1 ≤ d.dw 13 % 256 ∧ d.dw 13 % 256 ≤ 5 then s else
    match s.ioNs d with
    | .error st => s.finish d st
    | .ok _ => s.finish d (if (s.nsAt d.nsid).zoned then stField else stOpcode))

/-! ## Report Zones -/

/-- The zone states that a reporting option takes. -/
def reportTakes (opt st : Nat) : Bool :=
  match opt with
  | 0 => true
  | 1 => decide (st = zEmpty)
  | 2 => decide (st = zImpOpen)
  | 3 => decide (st = zExpOpen)
  | 4 => decide (st = zClosed)
  | 5 => decide (st = zFull)
  | _ => false

/-- NVMe state code of a zone; an entry that was never written is Empty. -/
def State.zcode (s : State) (dz : Nat) : Nat := if s.zstate dz = 0 then zEmpty else s.zstate dz

/-- A zone descriptor: type, state, attributes, capacity, first LBA and write pointer, which is the
reservation pointer (R261, R269). -/
def State.zoneDesc (s : State) (n z : Nat) : List Byte :=
  let c := s.nsAt n
  let dz := c.firstZone + z
  let per := if c.lba16 then 4 else 1
  let w := s.zoneWord dz
  toBytes 1 2 ++ toBytes 1 (s.zcode dz * 16) ++ toBytes 1 (fld w 4 2) ++ toBytes 5 0 ++ toBytes 8 (s.zcap n / per) ++
    toBytes 8 (z * c.zoneLbas) ++ toBytes 8 (z * c.zoneLbas + s.zrsv dz / per) ++ List.replicate 32 0

/-- ZONE_MANAGEMENT_RECEIVE: Report Zones; Extended Report Zones is an invalid field (R261, R267). -/
def execZoneManagementReceive (k : W64) (s : State) : Res :=
  onCmd s k false 0x7A (fun s d =>
    match s.ioNs d with
    | .error st => s.finish d st
    | .ok x =>
      let c := s.nsAt d.nsid
      if !c.zoned then s.finish d stOpcode
      else if s.actionFirst d then s
      else if d.dw 13 % 256 ≠ 0 ∨ 7 < d.dw 13 / 256 % 256 then s.finish d stField
      else if x.nsze ≤ d.slba then s.finish d stLbaRange
      else
        let bytes := (d.dw 12 + 1) * 4
        let zs := ((List.range c.zones).drop (d.slba / max 1 c.zoneLbas)).filter (fun z =>
          reportTakes (d.dw 13 / 256 % 256) (s.zcode (c.firstZone + z)))
        let room := (bytes - 64) / 64
        let n := if d.dw 13 / 2 ^ 16 % 2 = 1 then min room zs.length else zs.length
        let page := toBytes 8 n ++ List.replicate 56 0 ++ (zs.take room).flatMap (fun z => s.zoneDesc d.nsid z)
        (s.toHost d 0 ((page ++ List.replicate bytes 0).take bytes)).finish d stOk)

/-! ## Care of zones -/

/-- Time since a zone's first reservation after Empty, in 2^-8 hour (R472). -/
def State.zoneAge (s : State) (dz : Nat) : Nat := (s.alm.optime / 256 + 2 ^ 23 - fld (s.zoneWord dz) 41 23) % 2 ^ 23

/-- FINISH_ZONE_RECOMMENDED: a zone active for 24 h takes the attribute (R259, R269). -/
def execFinishZoneRecommended (z : Nat) (s : State) : Res :=
  .next (
    if !s.boot.down ∧ isActive (s.zstate z) ∧ s.everReserved z ∧ 24 * 256 ≤ s.zoneAge z then
      s.setZone z (setFld (s.zoneWord z) 5 1 1)
    else s)

/-- ZONE_FINISHED_BY_CONTROLLER: a zone active for 72 h is finished, once its ranges have committed, and takes
the attribute (R269). -/
def execZoneFinishedByController (z : Nat) (s : State) : Res :=
  .next (
    if !s.boot.down ∧ isActive (s.zstate z) ∧ s.everReserved z ∧ 72 * 256 ≤ s.zoneAge z then
      match s.zoneOwner z with
      | some (n, y) =>
        let s := s.finishPrep n y
        match s.finishAct n y with
        | .ok s => (s.setZone z (setFld (s.zoneWord z) 4 1 1)).hcount 22 1
        | .error _ => s
      | none => s
    else s)

/-- Every open zone closes: at the preserve state and at every start (R267, R288). -/
def State.closeOpenZones (s : State) : State :=
  s.openZones.foldl (fun (s : State) dz => match s.closeOwn dz with
    | .ok s => s
    | .error _ => s.setZstate dz zClosed) s

/-- The newest entries of a token slot are discarded while their ranges end beyond the durable write pointer (R277). -/
def State.dropTokens (s : State) (slot wp : Nat) : Nat → State
  | 0 => s
  | f + 1 =>
    let n := FMap.get (fun _ => 0) s.tokCount slot
    let a := tokOff slot (n - 1)
    if n = 0 ∨ rdNum s.ingot (a + 8) 3 + rdNum s.ingot (a + 11) 1 + 1 ≤ wp then s
    else State.dropTokens ((s.putIngot (wrNum s.ingot a 12 0)).putTokCount (FMap.set (fun _ => 0) s.tokCount slot (n - 1))) slot wp f

/-- At every start each zone's token slot is held to its write pointer (R277). -/
def State.holdTokens (s : State) : State :=
  s.listedZones.foldl (fun (s : State) z =>
    let v := fld (s.zoneWord z) 28 13
    if v = 0 then s else s.dropTokens (v - 1) (s.zwp z) 256) s

/-- At every start each metadata record that no data record of its command has followed is discarded, newest first: the
grains take the words that they had before it (R285, DEDUCED, log entry 158). -/
def State.dropMeta (s : State) : State :=
  (s.metaOpen.reverse.foldl (fun (s : State) m => s.tableWriteN m.ns true m.grain m.old) s).putMetaOpen []

/-- PRESERVE_STATE_ENTRY: at a tick boundary with S ≤ F the resident set enters the preserve state (R288); a
worker remembers the member zones that hold grains (R409). -/
def execPreserveStateEntry (s : State) : Res :=
  .next (
    if s.boot.down ∨ s.preserve ∨ s.win ≠ .fault ∨ s.rawBlocks = 0 ∨ s.floorBlocks < s.spareBlocks then s
    else
      let s := ((s.putPreserve true).putWheld ((s.wmap.map (fun p => p.1 / 2 ^ 19)).dedup) : State)
      let s := (s.putKept ((s.cmds.filter (·.unsettled)).map (fun d => (d.key, d.fsn))) : State).closeOpenZones
      s.asyncAll { typ := 1, info := 0, lid := 2 })

/-- PRESERVE_STATE_EXIT: at a tick boundary with S ≥ F + ceil(0.001 × raw blocks) (R290). -/
def execPreserveStateExit (s : State) : Res :=
  .next (
    if s.boot.down ∨ !s.preserve ∨ s.win ≠ .fault ∨ s.spareBlocks < s.floorBlocks + ceilDiv s.rawBlocks 1000 then s
    else (((s.putPreserve false).putWheld []).putKept []))

end Sys2Proof.Machine
end

