-- ==== Sys2Proof/Machine/MemberOps.lean ====
section
/-! DEFINITION. The messages that members answer: a worker's grains, member zones, status and volume
keys, and a manager's journal and checkpoints (R384, R407 to R409, R413, R414, R425, R501). -/

namespace Sys2Proof.Machine

/-! ## A worker's member space -/

/-- Volume, member grain address and grains of a request. -/
def SpanArr.vol (a : SpanArr) : Nat := fld (a.hw.getD 0 0) 48 16
def SpanArr.addr (a : SpanArr) : Nat := fld (a.hw.getD 0 0) 0 48
def SpanArr.word (a : SpanArr) (i : Nat) : W64 := a.hw.getD i 0

/-- Key of a member zone of a volume. -/
def zoneKey (v addr : Nat) : Nat := v * 2 ^ 29 + addr / 2 ^ 19

def noWord (_ : Nat) : W64 := 0
def notFin (_ : Nat) : Bool := false

/-- The member zone of an address has been finished. -/
def State.zoneFin (s : State) (v addr : Nat) : Bool := FMap.get notFin s.wfin (zoneKey v addr)

/-- Grains that a member zone holds. -/
def State.zoneGrains (s : State) (v addr : Nat) : Nat :=
  let lo := volKey v (addr / 2 ^ 19 * 2 ^ 19)
  (s.wmap.filter (fun p => lo ≤ p.1 ∧ p.1 < lo + 2 ^ 19)).length

/-- Whether a GWRITE is refused: a finished member zone, or the preserve state (R408, R409). -/
def State.gwriteRefuse (s : State) (v addr : Nat) : Bool :=
  s.zoneFin v addr || (s.preserve && !s.wheld.contains (zoneKey v addr))

/-- The map takes the new places of consecutive member grains. -/
def State.wmapSet (s : State) (v addr : Nat) (ws : List W64) : State :=
  s.putWmap (FMap.setList noWord s.wmap (volKey v addr) ws)

/-- Member addresses of the 16 KiB units that `n` grains from `addr` on touch (R407). -/
def unitAddrs (addr n : Nat) : List Nat := (List.range (4 * ((addr % 4 + n + 3) / 4))).map (fun i => addr / 4 * 4 + i)

/-- Frame of a member address in a unit that a GWRITE touches, and whether it holds a grain: a grain of the message
enciphered at rest, a grain that the worker holds as it stands, or a pad; none when a key is missing (R407). -/
def State.unitFrame (s : State) (v addr : Nat) (gs : List (List Byte × List Byte)) (x : Nat) : Option (List Byte × Bool) :=
  if addr ≤ x ∧ x < addr + gs.length then
    let g := gs.getD (x - addr) ([], [])
    (s.frameOf g.1 (withGuard g.1 (g.2.take 24))).map (fun bs => (bs, true))
  else match FMap.get noWord s.wmap (volKey v x) with
    | 0 => some (clearFrame 5 [], false)
    | w => match s.rawFrame w with
      | some bs => some (bs, true)
      | none => some (clearFrame 5 [], false)

/-- The units of a GWRITE are programmed at their places, and the map takes every grain they hold; none when a key is
missing (R407). -/
def State.storeMember (s : State) (v addr : Nat) (place : List W64) (gs : List (List Byte × List Byte)) : Option State :=
  let xs := unitAddrs addr gs.length
  let fs := xs.map (s.unitFrame v addr gs)
  if fs.any (fun f => f.isNone) then none
  else some ((place.zip (xs.zip (fs.filterMap (fun f => f)))).foldl (fun (s : State) p =>
    let s := s.storeFrame p.1 p.2.2.1
    if p.2.2.2 then s.wmapSet v p.2.1 [p.1] else s) s)

/-- GWRITE: the units that the grains touch are programmed whole at `place`, four frames a unit, and committed; an
enciphered grain with no key is answered with 0x40, and 0x21 answers when no place took the program (R384, R407 to R409). -/
def execGwrite (e : W64) (place : List W64) (s : State) : Res :=
  let n (a : SpanArr) : Nat := fld (a.word 1) 0 6 + 1
  onArrival s e 0x10 (fun a => s.isWorker && (s.gwriteRefuse a.vol a.addr || place.isEmpty || s.placesOk place (unitAddrs a.addr (n a)).length)) (fun s a =>
    if 63 < n a ∨ a.len ≠ n a * 4128 then s.reply a 0x1F [] []
    else if s.gwriteRefuse a.vol a.addr then s.reply a 0x64 [] []
    else if place.isEmpty then s.reply a 0x21 [] []
    else
      match s.storeMember a.vol a.addr place (framedGrains (n a) (s.payloadOf a)) with
      | none => s.reply a 0x40 [] []
      | some s => s.reply a 0 [] [])

/-- The grains of consecutive member addresses: the framed payload, a bitmap of those that cannot be read,
and whether some address is not held. -/
def State.greadAll (s : State) (v : Nat) : Nat → Nat → Nat → List Byte × Nat × Bool
  | 0, _, _ => ([], 0, false)
  | n + 1, i, addr =>
    let (bs, bad, miss) := State.greadAll s v n (i + 1) (addr + 1)
    match FMap.get noWord s.wmap (volKey v addr) with
    | 0 => (bs, bad, true)
    | w =>
      match s.readFrame w with
      | .ok (p, t) => (p ++ t ++ bs, bad, miss)
      | .error _ => (bs, bad + 2 ^ i, miss)

/-- GREAD (R384, R408). -/
def execGread (e : W64) (s : State) : Res :=
  onArrival s e 0x11 (fun _ => s.isWorker) (fun s a =>
    let n := fld (a.word 1) 0 6 + 1
    if 63 < n then s.reply a 0x1F [] []
    else
      let (bs, bad, miss) := s.greadAll a.vol n 0 a.addr
      if miss then s.reply a 0x61 [] []
      else if bad ≠ 0 then s.reply a 0x30 [w64 bad] []
      else s.reply a 0 [] bs)

/-- Unmap the member grains of a range. -/
def State.wmapDrop (s : State) (v addr n : Nat) : State :=
  s.putWmap (s.wmap.filter (fun p => !(decide (volKey v addr ≤ p.1) && decide (p.1 < volKey v addr + n))))

/-- GTRIM (R408). -/
def execGtrim (e : W64) (s : State) : Res :=
  onArrival s e 0x12 (fun _ => s.isWorker) (fun s a =>
    (s.wmapDrop a.vol a.addr (fld (a.word 1) 0 32)).reply a 0 [] [])

/-- Operation of a GZONE. -/
def SpanArr.zop (a : SpanArr) : Nat := fld (a.word 1) 0 4

/-- GZONE 3: the member zone is unmapped and accepts writes again (R408). -/
def execGzoneReset (e : W64) (s : State) : Res :=
  onArrival s e 0x13 (fun a => s.isWorker && decide (a.zop = 3)) (fun s a =>
    let s := s.wmapDrop a.vol (a.addr / 2 ^ 19 * 2 ^ 19) (2 ^ 19)
    (s.putWfin (FMap.set notFin s.wfin (zoneKey a.vol a.addr) false) : State).reply a 0 [] [])

/-- GZONE 4: the member zone takes no further GWRITE (R408). -/
def execGzoneFinish (e : W64) (s : State) : Res :=
  onArrival s e 0x13 (fun a => s.isWorker && decide (a.zop = 4)) (fun s a =>
    (s.putWfin (FMap.set notFin s.wfin (zoneKey a.vol a.addr) true) : State).reply a 0 [] [])

/-- GZONE 5: grains held, and whether the member zone is finished (R408). -/
def execGzoneRead (e : W64) (s : State) : Res :=
  onArrival s e 0x13 (fun a => s.isWorker && decide (a.zop = 5)) (fun s a =>
    s.reply a 0 [w64 (s.zoneGrains a.vol a.addr), w64 (b2n (s.zoneFin a.vol a.addr))] [])

/-- Whether some channel is held (R323). -/
def State.anyHeld (s : State) : Bool := (List.range 32).any (fun ch => s.chHeld ch)

/-- Longest horizon of a fitted die, in ticks. -/
def State.longestHorizon (s : State) : Nat :=
  ((s.fittedDies.map (fun x => s.dieHorizon x.1 x.2)).foldl max 0 + s.periodUs - 1) / s.periodUs

/-- Flits replayed on the device's links. -/
def State.replays (s : State) : Nat := ((List.range 4).map (fun p => s.rfld (spReg p 0) 32 16)).sum

/-- A page 0xC3 entry (R249). -/
def memberEntry (id st chain pos ver dies cap busy replay recon temp : Nat) : List Byte :=
  toBytes 1 id ++ toBytes 1 st ++ toBytes 1 chain ++ toBytes 1 pos ++ toBytes 2 ver ++ toBytes 2 dies ++ toBytes 4 cap ++
  toBytes 4 busy ++ toBytes 4 replay ++ toBytes 4 recon ++ toBytes 2 temp ++ List.replicate 38 0

/-- STATUS: the worker's own entry (R249, R384). -/
def execStatus (e : W64) (s : State) : Res :=
  onArrival s e 0x16 (fun _ => s.isWorker) (fun s a =>
    let ver := s.pairVer a.src
    s.reply a 0 [] (memberEntry s.ownMember (if s.preserve || s.anyHeld then 3 else 2) s.chain s.position
      (ver / 16 * 256 + ver % 16) s.diesFitted s.rawGib s.longestHorizon s.replays 0 (tempField (max s.dieMax s.pkgMax))))

/-- Import a wrapped key of an SPDM session and bind it to a namespace or volume (R495, R501, R506): the
outcome of the vslot operations. -/
def State.importBind (s : State) (sid ns kind : Nat) (wrapped : List Byte) : Byte × State :=
  match s.sessions.find? (fun x => decide (x.sid.toNat = sid) && x.established) with
  | none => (0x44, s)
  | some x =>
    match s.vslot x.slot, s.emptySlot with
    | some kek, some n =>
      if s.dbgLock then (0x40, s) else
      match importKey kek.key wrapped with
      | none => (0x43, s)
      | some (k, key) =>
        if k ≠ kind then (0x41, s)
        else
          let v : VSlot := { kind := k, key := key, origin := 1, bound := 0, holder := (toBytes 48 x.leaf.toNat).take 32 }
          (ocDone, (s.loadSlot n v).bindSlot n ns)
    | _, _ => (0x45, s)

/-- KEYWRAP: the volume's key is imported and bound, or cleared (R384, R501). -/
def execKeywrap (e : W64) (s : State) : Res :=
  onArrival s e 0x17 (fun _ => s.isWorker) (fun s a =>
    let v := fld (a.word 0) 0 16
    if a.len = 0 then
      match s.slotOfNs v with
      | some n => (s.clearSlot n).reply a 0 [] []
      | none => s.reply a 0 [] []
    else if a.len ≠ 80 then s.reply a 0x1F [] []
    else if (s.slotOfNs v).isSome then s.reply a 0x1F [] []
    else
      let bs := s.payloadOf a
      let (oc, s) := s.importBind (ofBytes (bs.take 4)) v (ofBytes ((bs.drop 4).take 1)) ((bs.drop 8).take 72)
      s.reply a oc.toNat [] [])

/-! ## A manager's peer -/

/-- Whether a member identifier is the peer's. -/
def State.fromPeer (s : State) (a : SpanArr) : Bool := s.isManager && decide (a.src = s.peerId)

/-- Apply a kind 3 zone record to the zone table (R412, R413). -/
def State.applyRecord (s : State) (l : Layout) (e : JEntry) : Option State :=
  let dz := s.volZone l.vol e.zone
  match e.op with
  | 0 => s.volCommit l e.zone e.first e.grains e.seq (bit (w64 e.flags) 1)
  | 1 => (s.volCommit l e.zone e.first e.grains e.seq (bit (w64 e.flags) 1)).map (fun s => s.tokPut dz e.first e.grains e.token)
  | 2 => some (s.setZstate dz zExpOpen)
  | 3 => some (s.setZstate dz zImpOpen)
  | 4 => some (s.setZstate dz zClosed)
  | 5 => some ((s.setZwp dz (2 ^ (s.nsAt l.vol).zshift)).setZstate dz zFull)
  | _ => some ((s.zoneClear l.vol e.zone).setZtab dz (setFld (setFld (s.ztab dz) 0 6 l.removed.length) 7 1 0))

/-- JOURNAL: a slot entry is stored at its index; a zone record is applied, and one that starts beyond the
write pointer waits (R384, R413). -/
def execJournal (e : W64) (s : State) : Res :=
  onArrival s e 0x14 (fun a => s.fromPeer a) (fun s a =>
    let bs := s.payloadOf a
    let i := (a.word 0).toNat
    if bs.length ≠ 128 then s.reply a 0x1F [] []
    else if i < 122880 then (s.putIngot (wrBytes s.ingot (slotOff i) bs) : State).reply a 0 [] []
    else match jentryOf bs with
      | some x =>
        (match s.layout x.vol with
        | some l =>
          if x.op ≤ 1 ∧ s.zwp (s.volZone x.vol x.zone) < x.first then s
          else (match s.applyRecord l x with
            | some s => s.reply a 0 [] []
            | none => s.reply a 0x63 [] [])
        | none => s.reply a 0x60 [] [])
      | none => s.reply a 0x1F [] [])

/-- Kind of a checkpoint. -/
def SpanArr.ckKind (a : SpanArr) : Nat := (a.word 0).toNat

/-- CKPT kind 1: the latest reserve bound of the peer; after a replay the returned manager reports the
groups non-optimized (R414, R428). -/
def execCkptReserveBound (e : W64) (s : State) : Res :=
  onArrival s e 0x15 (fun a => s.fromPeer a && decide (a.ckKind = 1)) (fun s a =>
    let s := s.putPeerBound (ofBytes ((s.payloadOf a).take 8))
    let up (g : Nat) (s : State) : State := if (s.anaGroup g).state = 3 then s.setGroup g { s.anaGroup g with state := 2 } else s
    (up 2 (up 1 s)).reply a 0 [] [])

/-- CKPT kind 2: a layout record is stored at its place; the first record of a replay finds this manager's
state for the volume discarded (R414, R428). -/
def execCkptLayout (e : W64) (s : State) : Res :=
  onArrival s e 0x15 (fun a => s.fromPeer a && decide (a.ckKind = 2)) (fun s a =>
    match layoutOf (s.payloadOf a) with
    | some l =>
      let s := if (s.anaGroup l.group).state = 3 then s.dropVolume l else s
      ((s.putLayout l).peerVolume l).reply a 0 [] []
    | none => s.reply a 0x1F [] [])

/-- CKPT kind 3: a zone state entry (R414, R428). -/
def execCkptZoneState (e : W64) (s : State) : Res :=
  onArrival s e 0x15 (fun a => s.fromPeer a && decide (a.ckKind = 3)) (fun s a =>
    let bs := s.payloadOf a
    let z := ofBytes (bs.take 4)
    let v := ofBytes ((bs.drop 4).take 2)
    (s.setZtab (s.volZone v z) (w64 (ofBytes ((bs.drop 8).take 8)))).reply a 0 [] [])

/-- Ticks of a second since a transfer. -/
def State.justMoved (s : State) (g : Nat) : Bool :=
  match (s.anaGroup g).moved with
  | some t => decide (s.tick.toNat < t.toNat + s.usTicks 1000000)
  | none => false

/-- Volumes of a group. -/
def State.groupVolumes (s : State) (g : Nat) : List Layout := s.volumes.filter (fun l => l.group = g)

/-- A command that this manager still holds for a volume of a group. -/
def State.groupBusy (s : State) (g : Nat) : Bool :=
  s.cmds.any (fun d => !d.admin && d.unsettled && (s.groupVolumes g).any (fun l => decide (l.vol = d.nsid))) ||
  s.jobs.any (fun j => (s.groupVolumes g).any (fun l => decide (l.vol = j.vol)))

/-- CKPT kind 4: the owner stops serving the group, settles what it holds and hands it over; a transfer
within a second of the last is refused (R414, R425). -/
def execCkptGroupTransfer (e : W64) (s : State) : Res :=
  onArrival s e 0x15 (fun a => s.fromPeer a && decide (a.ckKind = 4)) (fun s a =>
    let g := ofBytes ((s.payloadOf a).take 1) % 4
    let x := s.anaGroup g
    if !x.owned ∨ s.justMoved g then s.reply a 0x64 [] []
    else if s.groupBusy g then s.setGroup g { x with state := 15 }
    else
      let s := s.ckpt 1 (toBytes 8 (s.rfld hazWsnRes 0 56))
      let s := (s.setGroup g { owned := false, state := 2, moved := some s.tick }).asyncAll anaChange
      s.reply a 0 [] [])

/-- CKPT kind 5: an entry of page 0xC2 (R414, R434). -/
def execCkptLostRange (e : W64) (s : State) : Res :=
  onArrival s e 0x15 (fun a => s.fromPeer a && decide (a.ckKind = 5)) (fun s a =>
    let bs := (s.payloadOf a).take 32
    if bs.length = 32 ∧ s.lostRanges.length < 65536 then (s.addLost bs).reply a 0 [] []
    else s.reply a 0x1F [] [])

end Sys2Proof.Machine
end

