-- ==== Sys2Proof/Machine/Trust.lean ====
section
/-! DEFINITION. The trust block: SPDM, sessions, owner keys, key import and measurements (R159, R160, R501, R504 to
R508, R510).  Message codes and layouts that the rules do not give are those of SPDM 1.3 (PRESUMED, log entry 66). -/

namespace Sys2Proof.Machine

/-! ## Transports -/

/-- An SPDM response: code, parameters and body. -/
structure SpdmRsp where
  code : Nat
  p1 : Nat
  p2 : Nat
  body : List Byte
  deriving DecidableEq, Repr

/-- Transports below 2,048 are the functions' Security Send; the others are the sideband (R504). -/
def connOf (f : Option Nat) : Nat := f.getD 2048
def connFunc (x : Nat) : Option Nat := if x < 2048 then some x else none

/-- An ERROR response. -/
def spdmError (code : Nat) : SpdmRsp := ⟨0x7F, code, 0, []⟩

/-- A step of the responder: the state and its response. -/
abbrev Spdm := State × SpdmRsp

/-- A row answers on its transport; the trust block serves while the device is up. -/
def State.answerOn (s : State) (x : Nat) (f : State → Spdm) : Res :=
  .next (if s.boot.down || !s.boot.strapped then s else
    let (s, r) := f s
    (s.putOut (s.out ++ [Out.spdm x r.code r.p1 r.p2 r.body])))

/-- How far a transport has negotiated. -/
def State.stage (s : State) (x : Nat) : Nat := FMap.get (fun _ => 0) s.trust.conns x
def State.setStage (s : State) (x n : Nat) : State :=
  s.putTrust { s.trust with conns := FMap.set (fun _ => 0) s.trust.conns x n }

/-- A request that needs negotiation to have reached `n`. -/
def State.negotiated (s : State) (x n : Nat) (f : State → Spdm) : Spdm := if s.stage x < n then (s, spdmError 0x04) else f s

/-! ## Requests outside a session -/

/-- GET_VERSION: 1.2 and 1.3. -/
def State.spdmVersion (s : State) (x : Nat) : Spdm :=
  (s.setStage x 1, ⟨0x04, 0, 0, [0, 2] ++ toBytes 2 0x1200 ++ toBytes 2 0x1300⟩)

/-- Capability flags: CERT, CHAL, MEAS with signature, ENCRYPT, MAC, MUT_AUTH, KEY_EX, HBEAT and KEY_UPD (R504). -/
def spdmFlags : Nat := 2 ^ 1 + 2 ^ 2 + 2 ^ 4 + 2 ^ 6 + 2 ^ 7 + 2 ^ 8 + 2 ^ 9 + 2 ^ 13 + 2 ^ 14

/-- GET_CAPABILITIES. -/
def State.spdmCapabilities (s : State) (x : Nat) : Spdm :=
  s.negotiated x 1 (fun s => (s.setStage x 2, ⟨0x61, 0, 0, toBytes 4 0 ++ toBytes 4 spdmFlags⟩))

/-- NEGOTIATE_ALGORITHMS: ECDSA P-384, SHA-384, secp384r1 and AES-256-GCM. -/
def State.spdmAlgorithms (s : State) (x : Nat) : Spdm :=
  s.negotiated x 2 (fun s => (s.setStage x 3, ⟨0x63, 0, 0, toBytes 4 0x80 ++ toBytes 4 0x2 ++ toBytes 2 0x10 ++ toBytes 2 0x2⟩))

/-- SHA-384 of the certificate chain of slot 0. -/
def chainDigest : List Byte := sha384 (toBytes 128 Config.certChain.toNat)

/-- GET_DIGESTS: slot 0 only. -/
def State.spdmDigests (s : State) (x : Nat) : Spdm :=
  s.negotiated x 3 (fun s => (s, ⟨0x01, 0, 1, chainDigest⟩))

/-- GET_CERTIFICATE. -/
def State.spdmCertificate (s : State) (x slot : Nat) : Spdm :=
  s.negotiated x 3 (fun s =>
    if slot ≠ 0 then (s, spdmError 0x01)
    else (s, ⟨0x02, 0, 0, toBytes 2 128 ++ toBytes 2 0 ++ toBytes 128 Config.certChain.toNat⟩))

/-- A signature by the alias key: 96 bytes that no rule gives (DESIGN CHOICE, log entry 1). -/
def State.aliasSign (s : State) : List Byte × State := s.trngBytes 12

/-- CHALLENGE. -/
def State.spdmChallenge (s : State) (x slot : Nat) : Spdm :=
  s.negotiated x 3 (fun s =>
    if slot ≠ 0 then (s, spdmError 0x01)
    else
      let (nonce, s) := s.trngBytes 4
      let (sig, s) := s.aliasSign
      (s, ⟨0x03, 0, 1, chainDigest ++ nonce ++ toBytes 2 0 ++ sig⟩))

/-- Value type of a measurement register (R510). -/
def mrType (i : Nat) : Nat := if i = 0 then 0 else if i = 2 ∨ i = 5 ∨ i = 7 ∨ i = 8 then 3 else 1

/-- A measurement block: index n is register n - 1 in digest form. -/
def State.mrBlock (s : State) (n : Nat) : List Byte :=
  toBytes 1 n ++ [1] ++ toBytes 2 51 ++ toBytes 1 (mrType (n - 1)) ++ toBytes 2 48 ++ s.mr (n - 1)

/-- GET_MEASUREMENTS: index 0 counts them, 1 to 16 give one, 0xFF gives all; the report is signed (R510). -/
def State.spdmMeasurements (s : State) (x idx : Nat) (nonce : BitVec 256) : Spdm :=
  s.negotiated x 3 (fun s =>
    if 16 < idx ∧ idx ≠ 0xFF then (s, spdmError 0x01)
    else
      let ns := if idx = 0xFF then (List.range 16).map (· + 1) else if idx = 0 then [] else [idx]
      let blocks := ns.flatMap s.mrBlock
      let (mine, s) := s.trngBytes 4
      let (sig, s) := s.aliasSign
      (s, ⟨0x60, if idx = 0 then 16 else 0, 0, toBytes 1 ns.length ++ toBytes 3 blocks.length ++ blocks ++ mine ++ toBytes 2 0 ++ toBytes 32 nonce.toNat ++ sig⟩))

/-! ## Sessions -/

/-- A session by identifier. -/
def State.session (s : State) (sid : BitVec 32) : Option Session := s.sessions.find? (fun x => decide (x.sid = sid))

/-- The first free session slot. -/
def State.freeSession (s : State) : Option Nat :=
  (List.range 8).map (· + generalSlots) |>.find? (fun n => !s.sessions.any (fun x => decide (x.slot = n)))

/-- KEY_EXCHANGE with mutual authentication: a session begins; a ninth is refused (R504). -/
def State.spdmKeyExchange (s : State) (x : Nat) (leaf : BitVec 384) : Spdm :=
  s.negotiated x 3 (fun s =>
    match s.freeSession with
    | none => (s, spdmError 0x0A)
    | some slot =>
      let (w, s) := s.takeFree
      let sid := (List.range 9).map (fun i => w.setWidth 32 + BitVec.ofNat 32 i) |>.find? (fun i => (s.session i).isNone) |>.getD 0
      let y : Session := { sid := sid, slot := slot, established := false, func := connFunc x, leaf := leaf, beat := s.tick }
      let (sig, s) := s.aliasSign
      ((s.putSessions (s.sessions ++ [y])),
        ⟨0x64, 10, 0, toBytes 4 sid.toNat ++ sig⟩))

/-- FINISH: the session is established, and its wrapping key enters its session slot; the export master secret is
not known, so the key's bytes are free (R505). -/
def State.spdmFinish (s : State) (y : Session) : Spdm :=
  let (key, s) := s.trngBytes 4
  let s := if s.dbgLock then s else s.setVslot y.slot (some { kind := 2, key := key, origin := 0, bound := 0, holder := [] })
  ((s.putSessions (s.sessions.map (fun z => if z.sid = y.sid then { z with established := true, beat := s.tick } else z))),
    ⟨0x65, 0, 0, []⟩)

/-- A message of a session: it must exist, and be established but for FINISH. -/
def State.inSession (s : State) (sid : BitVec 32) (f : State → Session → Spdm) : Spdm :=
  match s.session sid with
  | some y => if y.established then f s y else (s, spdmError 0x04)
  | none => (s, spdmError 0x02)

/-- HEARTBEAT (R504). -/
def State.spdmHeartbeat (s : State) (sid : BitVec 32) : Spdm :=
  s.inSession sid (fun s y =>
    ((s.putSessions (s.sessions.map (fun z => if z.sid = y.sid then { z with beat := s.tick } else z))),
      ⟨0x68, 0, 0, []⟩))

/-- KEY_UPDATE: the session's traffic keys change, and nothing that the model holds does. -/
def State.spdmKeyUpdate (s : State) (sid : BitVec 32) : Spdm :=
  s.inSession sid (fun s _ => (s, ⟨0x69, 1, 0, []⟩))

/-- END_SESSION: the session ends and its slot is cleared (R504). -/
def State.spdmEnd (s : State) (sid : BitVec 32) : Spdm :=
  s.inSession sid (fun s y => (s.dropSessions (fun z => decide (z.sid = y.sid)), ⟨0x6C, 0, 0, []⟩))

/-! ## Owner keys -/

/-- An owner slot. -/
def State.owner (s : State) (k : Nat) : Option Owner := FMap.get (fun _ => none) s.trust.owners k

/-- The owner keys enrolled. -/
def State.ownerKeys (s : State) : List Owner := ([1, 2, 3, 4].map s.owner).filterMap id

/-- A requester proves an owner key that satisfies `p` (R507). -/
def State.proves (s : State) (y : Session) (p : Owner → Bool) : Bool := s.ownerKeys.any (fun o => decide (o.hash = y.leaf) && p o)

/-- No ADMIN key is enrolled. -/
def State.unowned (s : State) : Bool := !s.ownerKeys.any (fun o => o.admin)

/-- Bytes of the slot table: 64 for each slot (PRESUMED, log entry 67). -/
def State.ownerTable (s : State) : List Byte :=
  [1, 2, 3, 4].flatMap (fun k => match s.owner k with
    | some o => toBytes 1 1 ++ toBytes 1 (b2n o.img + b2n o.sealing * 2 + b2n o.admin * 4) ++ toBytes 14 0 ++ toBytes 48 o.hash.toNat
    | none => toBytes 64 0)

/-- Key of the slot table's AES-CMAC, derived from the device secret (R507). -/
def ownerKey : List Byte := hkdf (toBytesBE 32 Config.deviceSecret.toNat) (ascii "IX9 owner") 32

/-- The registers that report an owner slot follow it (R510). -/
def State.ownerRegs (s : State) (k : Nat) : State :=
  let h := match s.owner k with
    | some o => toBytes 48 o.hash.toNat
    | none => toBytes 48 0
  let p := match s.owner k with
    | some o => 1 + b2n o.img * 2 + b2n o.sealing * 4 + b2n o.admin * 8
    | none => 0
  let s := (List.range 6).foldl (fun (s : State) j => s.setReg (sta 0x13 (0x108 + 0x40 * k + 8 * j)) (w64 (ofBytes ((h.drop (8 * j)).take 8)))) s
  let s := if k = 4 then s else s.setReg (sta 0x13 (0x100 + 0x40 * k)) (w64 p)
  s.setRfld (sta 0x13 0) 4 1 (b2n s.unowned)

/-- A slot changes: the table goes to the parameter area with its CMAC, the registers follow, and register 7 is
extended with the new table (R507). -/
def State.setOwner (s : State) (k : Nat) (o : Option Owner) : State :=
  let s := s.putTrust { s.trust with owners := FMap.set (fun _ => none) s.trust.owners k o }
  let t := s.ownerTable
  let s := s.twinWrite 0x7080000 (t ++ cmac ownerKey t)
  (s.ownerRegs k).extendMr 7 (sha384 t)

/-! ## Vendor-defined requests -/

/-- A vendor-defined response: the request's code, a reason (0 for success), and further bytes. -/
def vendorRsp (code reason : Nat) (more : List Byte) : SpdmRsp :=
  ⟨0x7E, 0, 0, toBytes 1 code ++ toBytes 1 reason ++ more⟩

/-- Whether a namespace holds no mapped grain. -/
def State.nsEmpty (s : State) (n : Nat) : Bool :=
  let c := s.nsAt n
  if c.zoned then (List.range c.zones).all (fun z => decide (s.zwp (c.firstZone + z) = 0))
  else !s.dram.any (fun p => decide (c.baseAddr ≤ p.1) && decide (p.1 < c.baseAddr + mapBytes c.kind c.grains c.zones) && decide (p.2 ≠ 0))

/-- First 32 bytes of SHA-384 of a requester's public key. -/
def holderOf (y : Session) : List Byte := (toBytes 48 y.leaf.toNat).take 32

/-- The holder recorded for a namespace or volume, if any. -/
def State.holderAt (s : State) (n : Nat) : Option (List Byte) :=
  match (s.slotOfNs n).bind s.vslot with
  | some v => if v.origin = 1 then some v.holder else none
  | none => let h := FMap.get (fun _ => []) s.trust.holders n; if h.isEmpty then none else some h

/-- KEY_IMPORT (R501, R506, R510, R511).  A manager passes one payload to each pool member of a volume. -/
def State.vendorImport (s : State) (sid : BitVec 32) (n kind : Nat) (wrapped : List Byte) : Spdm :=
  s.inSession sid (fun s y =>
    let no (r : Nat) : Spdm := (s, vendorRsp 0x01 r [])
    match s.nsi n with
    | none => no 1
    | some _ =>
      if s.holderAt n ≠ none ∧ s.holderAt n ≠ some (holderOf y) ∧ !s.proves y (fun _ => true) then no 2
      else if !s.nsEmpty n || s.nsBusy n then no 3
      else match s.layout n with
        | some l =>
          if !s.isManager then no 1
          else if wrapped.length ≠ 80 * l.pool.length then no 4
          else
            let s := l.pool.zipIdx.foldl (fun (s : State) p => s.rsend p.1 0x17 0 3 [w64 n] ((wrapped.drop (80 * p.2)).take 80)) s
            let s := s.putTrust { s.trust with holders := FMap.set (fun _ => []) s.trust.holders n (holderOf y) }
            (s.measureKeys n kind, vendorRsp 0x01 0 [])
        | none =>
          match (s.vslot y.slot).bind (fun k => importKey k.key wrapped) with
          | some (k, _) =>
            if k ≠ kind ∨ k ≠ 0 ∨ s.dbgLock then no 4
            else
              let (oc, t) := (s.clearKey n).importBind sid.toNat n kind wrapped
              if oc = ocDone then (t.measureKeys n kind, vendorRsp 0x01 0 []) else no 4
          | none => no 4)

/-- KEY_STATUS: the status word of the namespace's slot, and its holder (R506, PRESUMED, log entry 68). -/
def State.vendorStatus (s : State) (sid : BitVec 32) (n : Nat) : Spdm :=
  s.inSession sid (fun s _ =>
    match s.nsi n with
    | none => (s, vendorRsp 0x02 1 [])
    | some _ =>
      let w := match s.slotOfNs n with
        | some i => s.slotStatus i
        | none => 0
      (s, vendorRsp 0x02 0 (toBytes 8 w.toNat ++ (((s.holderAt n).getD []) ++ List.replicate 32 0).take 32)))

/-- OWNER_ENROLL: permissions IMG 0, SEAL 1, ADMIN 2 (R507). -/
def State.vendorEnroll (s : State) (sid : BitVec 32) (slot : Nat) (perms : BitVec 3) (hash : BitVec 384) (signed : Bool) : Spdm :=
  s.inSession sid (fun s y =>
    let no (r : Nat) : Spdm := (s, vendorRsp 0x10 r [])
    if slot = 0 ∨ 4 < slot then no 0x12
    else if s.unowned ∧ (y.func.isSome ∨ 600 * s.secondTicks < s.tick.toNat) then no 0x12
    else if !s.unowned ∧ !signed then no 0x10
    else if (s.owner slot).isSome then no 0x11
    else ((s.setOwner slot (some { hash := hash, img := bit perms 0, sealing := bit perms 1, admin := bit perms 2 })).setSvn slot 0,
      vendorRsp 0x10 0 []))

/-- OWNER_WITHDRAW (R507). -/
def State.vendorWithdraw (s : State) (sid : BitVec 32) (slot : Nat) (signed : Bool) : Spdm :=
  s.inSession sid (fun s _ =>
    if slot = 0 ∨ 4 < slot ∨ (s.owner slot).isNone then (s, vendorRsp 0x11 0x12 [])
    else if s.unowned ∨ !signed then (s, vendorRsp 0x11 0x10 [])
    else (s.setOwner slot none, vendorRsp 0x11 0 []))

/-- DEBUG_SET: in force at the next power-up (R506, R508). -/
def State.vendorDebug (s : State) (sid : BitVec 32) (on signed : Bool) : Spdm :=
  s.inSession sid (fun s y =>
    if !s.proves y (fun o => o.admin) then (s, vendorRsp 0x12 0x12 [])
    else if !signed then (s, vendorRsp 0x12 0x10 [])
    else (((s.setRfld (sta 0x13 0) 3 1 (b2n on)).putTrust { s.trust with debugNext := on }), vendorRsp 0x12 0 []))

/-- MEASURE_EXTEND: register 9 (R506, R510). -/
def State.vendorExtend (s : State) (sid : BitVec 32) (d : List Byte) : Spdm :=
  s.inSession sid (fun s y =>
    if !s.proves y (fun _ => true) then (s, vendorRsp 0x13 0x12 []) else (s.extendMr 9 d, vendorRsp 0x13 0 []))

/-! ## Rows -/

/-- Transport of a session's messages. -/
def State.connSid (s : State) (sid : BitVec 32) : Nat := ((s.session sid).map (fun y => connOf y.func)).getD 2048

/-- GET_VERSION. -/
def execGetVersion (x : Nat) (s : State) : Res := s.answerOn x (fun s => s.spdmVersion x)
/-- GET_CAPABILITIES. -/
def execGetCapabilities (x : Nat) (s : State) : Res := s.answerOn x (fun s => s.spdmCapabilities x)
/-- NEGOTIATE_ALGORITHMS. -/
def execNegotiateAlgorithms (x : Nat) (s : State) : Res := s.answerOn x (fun s => s.spdmAlgorithms x)
/-- GET_DIGESTS. -/
def execGetDigests (x : Nat) (s : State) : Res := s.answerOn x (fun s => s.spdmDigests x)
/-- GET_CERTIFICATE. -/
def execGetCertificate (x : Nat) (slot : Nat) (s : State) : Res := s.answerOn x (fun s => s.spdmCertificate x slot)
/-- CHALLENGE. -/
def execChallenge (x : Nat) (slot : Nat) (s : State) : Res := s.answerOn x (fun s => s.spdmChallenge x slot)
/-- GET_MEASUREMENTS. -/
def execGetMeasurements (x : Nat) (idx : Nat) (nonce : BitVec 256) (s : State) : Res :=
  s.answerOn x (fun s => s.spdmMeasurements x idx nonce)
/-- KEY_EXCHANGE. -/
def execKeyExchange (x : Nat) (leaf : BitVec 384) (s : State) : Res := s.answerOn x (fun s => s.spdmKeyExchange x leaf)

/-- The end of a session's set-up; a session that does not exist, or is established, is answered with an error. -/
def State.spdmFinishSid (s : State) (sid : BitVec 32) : Spdm :=
  match s.session sid with
  | some y => if y.established then (s, spdmError 0x04) else s.spdmFinish y
  | none => (s, spdmError 0x02)

/-- FINISH. -/
def execFinish (sid : BitVec 32) (s : State) : Res := s.answerOn (s.connSid sid) (fun s => s.spdmFinishSid sid)
/-- HEARTBEAT. -/
def execHeartbeat (sid : BitVec 32) (s : State) : Res := s.answerOn (s.connSid sid) (fun s => s.spdmHeartbeat sid)

/-- SESSION_HEARTBEAT_TIMEOUT: a session with no heartbeat for twice its period of 10 s ends (R504, PRESUMED, log entry 66). -/
def execSessionHeartbeatTimeout (sid : BitVec 32) (s : State) : Res :=
  .next (match s.session sid with
    | some y => if y.established ∧ y.beat.toNat + 20 * s.secondTicks ≤ s.tick.toNat then s.dropSessions (fun z => decide (z.sid = sid)) else s
    | none => s)

/-- KEY_UPDATE. -/
def execKeyUpdate (sid : BitVec 32) (s : State) : Res := s.answerOn (s.connSid sid) (fun s => s.spdmKeyUpdate sid)
/-- END_SESSION. -/
def execEndSession (sid : BitVec 32) (s : State) : Res := s.answerOn (s.connSid sid) (fun s => s.spdmEnd sid)
/-- KEY_IMPORT. -/
def execKeyImport (sid : BitVec 32) (ns : Nat) (kind : BitVec 8) (wrapped : List Byte) (s : State) : Res :=
  s.answerOn (s.connSid sid) (fun s => s.vendorImport sid ns kind.toNat wrapped)
/-- KEY_STATUS. -/
def execKeyStatus (sid : BitVec 32) (ns : Nat) (s : State) : Res := s.answerOn (s.connSid sid) (fun s => s.vendorStatus sid ns)
/-- OWNER_ENROLL. -/
def execOwnerEnroll (sid : BitVec 32) (slot : Nat) (perms : BitVec 3) (hash : BitVec 384) (signed : Bool) (s : State) : Res :=
  s.answerOn (s.connSid sid) (fun s => s.vendorEnroll sid slot perms hash signed)
/-- OWNER_WITHDRAW. -/
def execOwnerWithdraw (sid : BitVec 32) (slot : Nat) (signed : Bool) (s : State) : Res :=
  s.answerOn (s.connSid sid) (fun s => s.vendorWithdraw sid slot signed)
/-- DEBUG_SET. -/
def execDebugSet (sid : BitVec 32) (on : Bool) (signed : Bool) (s : State) : Res :=
  s.answerOn (s.connSid sid) (fun s => s.vendorDebug sid on signed)
/-- MEASURE_EXTEND. -/
def execMeasureExtend (sid : BitVec 32) (d : BitVec 384) (s : State) : Res :=
  s.answerOn (s.connSid sid) (fun s => s.vendorExtend sid (toBytes 48 d.toNat))

/-! ## Security Send and Receive -/

/-- A message that arrives through Security Send.  A message of a session carries the session's identifier in its
first four bytes, and a vendor-defined request its code in the byte after (PRESUMED, log entry 66). -/
def State.spdmMessage (s : State) (x : Nat) (m : SpdmMsg) : Spdm :=
  let n (o k : Nat) : Nat := ofBytes ((m.body.drop o).take k)
  let sid : BitVec 32 := BitVec.ofNat 32 (n 0 4)
  match m.code.toNat with
  | 0x84 => s.spdmVersion x
  | 0xE1 => s.spdmCapabilities x
  | 0xE3 => s.spdmAlgorithms x
  | 0x81 => s.spdmDigests x
  | 0x82 => s.spdmCertificate x m.param.toNat
  | 0x83 => s.spdmChallenge x m.param.toNat
  | 0xE0 => s.spdmMeasurements x m.param.toNat (BitVec.ofNat 256 (n 0 32))
  | 0xE4 => s.spdmKeyExchange x (BitVec.ofNat 384 (n 0 48))
  | 0xE5 => s.spdmFinishSid sid
  | 0xE8 => s.spdmHeartbeat sid
  | 0xE9 => s.spdmKeyUpdate sid
  | 0xEC => s.spdmEnd sid
  | 0xFE =>
    (match n 4 1 with
    | 0x01 => s.vendorImport sid (n 5 4) (n 9 1) (m.body.drop 10)
    | 0x02 => s.vendorStatus sid (n 5 4)
    | 0x10 => s.vendorEnroll sid (n 5 1) (BitVec.ofNat 3 (n 6 1)) (BitVec.ofNat 384 (ofBytes (sha384 ((m.body.drop 7).take 96)))) m.signed
    | 0x11 => s.vendorWithdraw sid (n 5 1) m.signed
    | 0x12 => s.vendorDebug sid (decide (n 5 1 = 1)) m.signed
    | 0x13 => s.vendorExtend sid ((m.body.drop 5).take 48)
    | _ => (s, spdmError 0x07))
  | _ => (s, spdmError 0x07)

/-- Security protocol of a command: 0xE8 is SPDM. -/
def Cmd.secp (d : Cmd) : Nat := d.dw 10 / 2 ^ 24

/-- SECURITY_SEND: the response waits for the function's Security Receive (R504). -/
def execSecuritySend (k : W64) (m : SpdmMsg) (s : State) : Res :=
  onCmd s k true 0x81 (fun s d =>
    if d.secp ≠ 0xE8 then s.finish d stField
    else
      let (s, r) := s.spdmMessage d.func m
      let bs := toBytes 1 0x13 ++ toBytes 1 r.code ++ toBytes 1 r.p1 ++ toBytes 1 r.p2 ++ r.body
      (s.putTrust { s.trust with resp := FMap.set (fun _ => none) s.trust.resp d.func (some bs) } : State).finish d stOk)

/-- SECURITY_RECEIVE: protocol 0 lists the protocols; 0xE8 returns the last response (R504). -/
def execSecurityReceive (k : W64) (s : State) : Res :=
  onCmd s k true 0x82 (fun s d =>
    let n := d.dw 11
    let give (s : State) (bs : List Byte) : State := (s.toHost d 0 ((bs ++ List.replicate n 0).take n)).finish d stOk
    if d.secp = 0 then give s (toBytes 6 0 ++ [0, 2, 0, 0xE8])
    else if d.secp ≠ 0xE8 then s.finish d stField
    else match FMap.get (fun _ => none) s.trust.resp d.func with
      | some bs => give (s.putTrust { s.trust with resp := FMap.set (fun _ => none) s.trust.resp d.func none }) bs
      | none => s.finish d stSequence)

end Sys2Proof.Machine
end

