-- ==== Sys2Proof/Machine/Param.lean ====
section
/-! DEFINITION. What a start reads of the pattern store: the owner key slot table, the parameter records and the boot blocks
(R507, R509, R546, R547, R557, R558, R570).  The layouts of the tables are the model's (PRESUMED, log entry 114). -/

namespace Sys2Proof.Machine

/-- A little-endian field of `n` bytes at offset `off`. -/
def field (bs : List Byte) (off n : Nat) : Nat := ofBytes ((bs.drop off).take n)

/-! ## Owner keys -/

/-- The owner slots of a table. -/
def ownersOf (t : List Byte) : FMap (Option Owner) :=
  [1, 2, 3, 4].foldl (fun (m : FMap (Option Owner)) k =>
    let e := (t.drop (64 * (k - 1))).take 64
    if field e 0 1 = 0 then m
    else
      let o : Owner := { hash := BitVec.ofNat 384 (field e 16 48), img := bit (w64 (field e 1 1)) 0, sealing := bit (w64 (field e 1 1)) 1, admin := bit (w64 (field e 1 1)) 2 }
      FMap.set (fun _ => none) m k (some o)) []

/-- The owner key slot table is read; one whose AES-CMAC fails enrolls no key (R507, R547). -/
def State.loadOwners (s : State) : State :=
  let os : FMap (Option Owner) := match s.twinRead 0x7080000 with
    | some bs => if bs.length = 272 ∧ cmac ownerKey (bs.take 256) = bs.drop 256 then ownersOf bs else []
    | none => []
  s.putTrust { s.trust with owners := os }

/-! ## The parameter records -/

/-- What the parameter area holds: the tick period's selection, the second DRAM rate (0 for none), the spare mask, the care
settings, and the proof records (R24, R446, R455, R546, R570). -/
structure ParamArea where
  sel : Nat
  rate : Nat
  spareMask : BitVec 4
  care : CareParams
  /-- Bank, image digest, tick period and presence map. -/
  proofs : List (Nat × BitVec 384 × Nat × W64)
  deriving DecidableEq, Repr

/-- Key of the proof records' AES-CMAC, derived from the device secret (R570, PRESUMED, log entry 114). -/
def proofKey : List Byte := hkdf (toBytesBE 32 Config.deviceSecret.toNat) (ascii "IX9 proof") 32

/-- Proof record of a bank: mark, period, presence map, digest and CMAC. -/
def proofRec (ps : List (Nat × BitVec 384 × Nat × W64)) (b : Nat) : List Byte :=
  match ps.find? (fun p => decide (p.1 = b)) with
  | some p =>
    let r := toBytes 1 1 ++ toBytes 1 p.2.2.1 ++ toBytes 6 b ++ toBytes 8 p.2.2.2.toNat ++ toBytes 48 p.2.1.toNat
    r ++ cmac proofKey r
  | none => toBytes 80 0

/-- The proof record that bytes spell; none where its CMAC fails. -/
def proofOf (b : Nat) (r : List Byte) : List (Nat × BitVec 384 × Nat × W64) :=
  if field r 0 1 = 1 ∧ field r 2 6 = b ∧ cmac proofKey (r.take 64) = r.drop 64 then
    [(b, BitVec.ofNat 384 (field r 16 48), field r 1 1, w64 (field r 8 8))]
  else []

/-- Bytes of the parameter records. -/
def ParamArea.bytes (p : ParamArea) : List Byte :=
  toBytes 1 p.sel ++ toBytes 1 p.rate ++ toBytes 1 p.spareMask.toNat ++ [0] ++ toBytes 2 p.care.riser ++ toBytes 2 p.care.spread ++
  toBytes 2 p.care.factor ++ toBytes 2 p.care.patrol ++ toBytes 2 p.care.deadline ++ toBytes 2 p.care.share ++
  proofRec p.proofs 0 ++ proofRec p.proofs 1

/-- Settings within their ranges: a setting beyond one counts as its nearest end (R286, R347, R349, R358, R422, R423, DESIGN
CHOICE, log entry 135). -/
def heldParams (p : CareParams) : CareParams where
  riser := min 500 (max 50 p.riser)
  spread := min 4096 (max 32 p.spread)
  factor := min 200 (max 100 p.factor)
  patrol := min 720 (max 24 p.patrol)
  deadline := min 10000 (max 100 p.deadline)
  share := min 20 p.share

/-- The parameter records in force; where neither copy is valid, the defaults and the reset value of the period (DESIGN CHOICE,
log entry 135). -/
def State.paramArea (s : State) : ParamArea :=
  match s.twinRead 0x7100000 with
  | some bs =>
    { sel := if field bs 0 1 < 3 then field bs 0 1 else 1
      rate := field bs 1 1
      spareMask := BitVec.ofNat 4 (field bs 2 1)
      care := heldParams { riser := field bs 4 2, spread := field bs 6 2, factor := field bs 8 2, patrol := field bs 10 2, deadline := field bs 12 2, share := field bs 14 2 }
      proofs := proofOf 0 ((bs.drop 16).take 80) ++ proofOf 1 ((bs.drop 96).take 80) }
  | none => { sel := 1, rate := 0, spareMask := 0, care := State.reset.params, proofs := [] }

/-- The proof record of a bank is written, or with none taken out (R570). -/
def State.setProof (s : State) (b : Nat) (p : Option (BitVec 384 × Nat × W64)) : State :=
  let ps := s.fw.proofs.filter (fun x => x.1 ≠ b) ++ (p.map (fun x => (b, x))).toList
  (s.twinWrite 0x7100000 { s.paramArea with proofs := ps }.bytes).putFw { s.fw with proofs := ps }

/-! ## Boot blocks -/

/-- First byte of boot block `k` (R546). -/
def bootAt (k : Nat) : Nat := k * 0x400000

/-- Length and security version of a boot block (R557). -/
def State.bootLen (s : State) (k : Nat) : Nat := ofBytes (rdNor s (bootAt k + 4) 4)
def State.bootVersion (s : State) (k : Nat) : Nat := ofBytes (rdNor s (bootAt k + 8) 4)

/-- A boot block's trailer: magic, key slot 0, and the digest of what stands before it (R156, R557). -/
def State.bootTrailerOk (s : State) (k : Nat) : Bool :=
  let n := s.bootLen k
  let t := rdNor s (bootAt k + n - 256) 256
  decide (field t 0 4 = 0x47535849) && decide (field t 4 4 = 0) && decide ((t.drop 8).take 48 = sha384 (rdNor s (bootAt k) (n - 256))) &&
    (t.drop 0x98).all (fun x => decide (x = 0))

/-- Whether the boot ROM takes a boot block: its header, its security version against the blown fuses, its trailer, and `sig`,
whether the signature verifies under Pyllicen's key (R509, R557). -/
def State.bootBlockOk (s : State) (k : Nat) (sig : Bool) : Bool :=
  let n := s.bootLen k
  decide (ofBytes (rdNor s (bootAt k) 4) = 0x42425849) && decide (n % 512 = 0) && decide (512 ≤ n) && decide (n ≤ 0x400000) &&
  !s.norUnk.any (fun p => p.2 && decide (bootAt k ≤ p.1 * 512) && decide (p.1 * 512 < bootAt k + n)) &&
  decide (1 ≤ s.bootVersion k) && decide (s.bootVersion k ≤ 64) && decide (s.verFuses ≤ s.bootVersion k) && s.bootTrailerOk k && sig

/-- The boot block that runs: the one that the selector names, else the other, else none (R509). -/
def State.bootPick (s : State) (sigs : BitVec 2) : Option Nat :=
  let k := s.selectedBoot % 2
  if s.bootBlockOk k (bit sigs k) then some k
  else if s.bootBlockOk (1 - k) (bit sigs (1 - k)) then some (1 - k)
  else none

/-- Digest of a block's boot code (R160, R557). -/
def State.bootDigest (s : State) (k : Nat) : List Byte := sha384 (rdNor s (bootAt k + 64) (s.bootLen k - 320))

/-- After a fallback the good block is copied over the failed one, erased under intent first, and the selector names the
good one (R558, DEDUCED, log entry 160). -/
def State.repairBoot (s : State) (k : Nat) : State :=
  if s.selectedBoot % 2 = k then s
  else
    let bs := rdNor s (bootAt k) (s.bootLen k)
    let s := (List.range 16).foldl (fun (s : State) i => s.eraseUnder (bootAt (1 - k) + i * 0x40000)) s
    (s.norWrite (bootAt (1 - k)) bs).selectBoth k s.selectedBank

/-- Version fuses are blown up to the running block's version, once the device has reached READY on it (R557). -/
def State.blowFuses (s : State) (k : Nat) : State := s.putVerFuses (max s.verFuses (s.bootVersion k))

end Sys2Proof.Machine
end

