-- ==== Sys2Proof/Machine/Image.lean ====
section
/-! DEFINITION. Program images: the container, its header, section table and trailer, and the checks of stages 0x01
and 0x02 (R152 to R159, R164 to R166). -/

namespace Sys2Proof.Machine

/-- A little-endian field of `n` bytes at offset `off` of a list of bytes. -/
def le (bs : List Byte) (off n : Nat) : Nat := ofBytes ((bs.drop off).take n)

/-- Bytes `off` to `off + n - 1` are all 0. -/
def zeros (bs : List Byte) (off n : Nat) : Bool := ((bs.drop off).take n).all (fun b => decide (b = 0))

/-- A section: type, target, place and contents (R153). -/
structure Sect where
  typ : Nat
  tgt : Nat
  off : Nat
  data : List Byte
  len : Nat
  deriving DecidableEq, Repr

/-- An image as its header describes it (R152). -/
structure Image where
  total : Nat
  nsect : Nat
  keySlot : Nat
  isa : Nat
  abi : Nat
  layout : Nat
  acceptMin : Nat
  acceptMax : Nat
  periods : Nat
  variants : Nat
  roles : Nat
  version : List Byte
  svn : Nat
  needs : Nat
  fallback : Nat
  cores : Nat
  sects : List Sect
  /-- SHA-384 of bytes 0 to TOTAL - 257. -/
  digest : List Byte
  deriving DecidableEq, Repr

/-- Entry `i` of the section table. -/
def sectAt (raw : List Byte) (i : Nat) : Sect :=
  let e := (raw.drop (0x100 + 16 * i)).take 16
  let off := le e 4 4
  let len := le e 8 4
  { typ := le e 0 1, tgt := le e 1 1, off := off, data := (raw.drop off).take len, len := len }

/-- The image that bytes spell. -/
def imageOf (raw : List Byte) : Image where
  total := le raw 8 4
  nsect := le raw 0xC 2
  keySlot := le raw 0xE 1
  isa := le raw 0x10 2
  abi := le raw 0x12 2
  layout := le raw 0x14 2
  acceptMin := le raw 0x16 2
  acceptMax := le raw 0x18 2
  periods := le raw 0x1A 1
  variants := le raw 0x1B 1
  roles := le raw 0x1C 1
  version := (raw.drop 0x20).take 8
  svn := le raw 0x28 4
  needs := le raw 0x30 8
  fallback := le raw 0x38 8
  cores := le raw 0x40 8
  sects := (List.range (min (le raw 0xC 2) 240)).map (sectAt raw)
  digest := sha384 (raw.take (le raw 8 4 - 256))

/-- A rejection: reason code, core, word index and slot (R164). -/
structure Reject where
  code : Nat
  core : Nat
  word : Nat
  slot : Nat
  deriving DecidableEq, Repr

/-- A rejection that names no core, word or slot. -/
def rejected (code : Nat) : Reject := ⟨code, 0xFFFF, 0xFFFF, 0xFFFF⟩

/-- The code of the first failure in a list of checks, each true when it fails. -/
def firstBad : List (Bool × Nat) → Option Reject
  | [] => none
  | (true, c) :: _ => some (rejected c)
  | (false, _) :: r => firstBad r

/-! ## Stage 0x01 -/

/-- Whether a section's LENGTH and TARGET are in the ranges of its type (R153). -/
def sectRange (x : Sect) : Bool :=
  let core0 := decide (x.tgt = 0)
  match x.typ with
  | 1 => decide (x.tgt < 64) && decide (x.len % 8 = 0) && decide (8 ≤ x.len) && decide (x.len ≤ if core0 then 24576 else 32768)
  | 2 => decide (x.tgt < 64) && decide (x.len = 512)
  | 3 => decide (x.tgt < 64) && decide (x.len = 512)
  | 4 => decide (x.tgt < 64) && decide (8 ≤ x.len) && decide (x.len ≤ if core0 then 57344 else 65536)
  | 5 => decide (x.tgt < 8) && decide (8 ≤ x.len) && decide (x.len ≤ 786432)
  | 6 => (decide (x.tgt < 32) || decide (x.tgt = 0xFF)) && decide (x.len % 8 = 0) && decide (8 ≤ x.len) && decide (x.len ≤ 2184)
  | 7 => (decide (x.tgt < 32) || decide (x.tgt = 0xFF)) && decide (x.len % 4 = 0) && decide (8 ≤ x.len) && decide (x.len ≤ 584)
  | 8 => decide (x.tgt = 0xFF) && decide (x.len % 16 = 0) && decide (x.len ≤ 16384)
  | _ => false

/-- Whether two sections share a byte. -/
def sectsMeet (x y : Sect) : Bool := decide (x.off < y.off + y.len) && decide (y.off < x.off + x.len)

/-- Whether no two sections of a list share a byte. -/
def sectsApart : List Sect → Bool
  | [] => true
  | x :: r => r.all (fun y => !sectsMeet x y) && sectsApart r

/-- Sections of a type that name a target. -/
def Image.count (m : Image) (typ tgt : Nat) : Nat := (m.sects.filter (fun x => decide (x.typ = typ) && decide (x.tgt = tgt))).length

/-- Whether core `n` runs image code. -/
def Image.hasCore (m : Image) (n : Nat) : Bool := decide (m.cores / 2 ^ n % 2 = 1)

/-- Whether the section table obeys R153. -/
def sectTableOk (raw : List Byte) (m : Image) : Bool :=
  ((List.range m.nsect).all (fun i => zeros raw (0x102 + 16 * i) 2 && zeros raw (0x10C + 16 * i) 4)) &&
  m.sects.all (fun x => decide (x.off % 64 = 0) && decide (4096 ≤ x.off) && decide (x.off + x.len ≤ m.total - 256) && sectRange x) &&
  sectsApart m.sects &&
  (List.range 64).all (fun c =>
    let want := if m.hasCore c then 1 else 0
    decide (m.count 1 c = want) && decide (m.count 2 c = want) && decide (m.count 3 c = want) && decide (m.count 4 c ≤ want)) &&
  (List.range 8).all (fun c => decide (m.count 5 c ≤ 1)) &&
  (List.range 32).all (fun c => decide (m.count 6 c + m.count 6 0xFF ≤ 1) && decide (m.count 7 c + m.count 7 0xFF ≤ 1)) &&
  decide (m.count 6 0xFF ≤ 1) && decide (m.count 7 0xFF ≤ 1) && decide (m.count 8 0xFF ≤ 1)

/-- Whether the header fields of R164's code 0x0103 are as R152 requires. -/
def headerOk (raw : List Byte) (m : Image) : Bool :=
  decide (1 ≤ m.nsect) && decide (m.nsect ≤ 240) &&
  zeros raw 0xF 1 && zeros raw 0x1D 3 && zeros raw 0x2C 4 && zeros raw 0x48 184 &&
  zeros raw (0x100 + 16 * m.nsect) (4096 - (0x100 + 16 * m.nsect)) &&
  decide (m.layout ≠ 0) && decide (m.acceptMin ≤ m.acceptMax) &&
  m.version.all (fun b => decide (0x20 ≤ b.toNat) && decide (b.toNat ≤ 0x7E)) &&
  decide (m.periods < 8) && decide (m.variants < 16) && decide (m.roles < 8) &&
  [m.needs, m.fallback].all (fun x => decide (x < 2 ^ 52) && decide (x / 2 ^ 47 % 2 = 0))

/-- Whether a key slot may sign images: Pyllicen's, or an owner slot with IMG (R159, R507). -/
def State.imageKeyOk (s : State) (k : Nat) : Bool :=
  decide (k = 0) || (match s.owner k with
    | some o => o.img
    | none => false)

/-- VARIANT of ID_PRESENCE (R1). -/
def State.variant (s : State) : Nat := fld s.presence 56 4

/-- Whether CORES and every section name present cores, clusters and channels. -/
def State.targetsOk (s : State) (m : Image) : Bool :=
  let clus (c : Nat) : Bool := bit s.presence (32 + c)
  (List.range 64).all (fun c => !m.hasCore c || clus (c / 8)) &&
  m.sects.all (fun x => match x.typ with
    | 5 => clus x.tgt
    | 6 => decide (x.tgt = 0xFF) || s.chanPresent x.tgt
    | 7 => decide (x.tgt = 0xFF) || s.chanPresent x.tgt
    | 8 => true
    | _ => clus (x.tgt / 8))

/-- The header checks, in the order of their codes (R157, R164). -/
def State.checkHeader (s : State) (raw : List Byte) : Option Reject :=
  let m := imageOf (raw.take 4096)
  firstBad [
    (!(decide (le raw 0 4 = 0x53505849) && decide (le raw 4 2 = 0x0100) && decide (le raw 6 2 = 4096)), 0x0101),
    (!(decide (m.total % 4096 = 0) && decide (8192 ≤ m.total) && decide (m.total ≤ 50331648)), 0x0102),
    (!headerOk raw m, 0x0103),
    (!sectTableOk raw m, 0x0104),
    (!(decide (m.isa / 256 = 1) && decide (m.isa % 256 ≤ 2)), 0x0105),
    (!(decide (m.abi / 256 = 1) && decide (m.abi % 256 ≤ 4)), 0x0106),
    (!(decide (m.variants / 2 ^ s.variant % 2 = 1) && decide (m.roles / 2 ^ s.role % 2 = 1)), 0x0107),
    (!decide (m.periods / 2 ^ s.sel % 2 = 1), 0x0108),
    (!s.imageKeyOk m.keySlot, 0x0109),
    (decide (m.svn < s.svnOf m.keySlot), 0x010A),
    (decide (Nat.land m.needs (2 ^ 64 - 1 - Nat.lor s.presence.toNat m.fallback) ≠ 0), 0x010B),
    (!s.targetsOk m, 0x010C)]

/-! ## Stage 0x02 -/

/-- Completeness, the trailer, the digest and the signature (R156, R158). -/
def checkTrailer (raw : List Byte) (m : Image) (complete sig : Bool) : Option Reject :=
  let t := raw.drop (m.total - 256)
  firstBad [
    (!complete || decide (raw.length < m.total), 0x0201),
    (!(decide (le t 0 4 = 0x47535849) && decide (le t 4 1 = m.keySlot) && zeros t 5 3 && zeros t 0x98 104), 0x0202),
    (!decide ((t.drop 8).take 48 = m.digest), 0x0203),
    (!sig, 0x0204)]

/-! ## The parts of a core -/

/-- Contents of a core's section of a type. -/
def Image.part (m : Image) (typ core : Nat) : List Byte :=
  match m.sects.find? (fun x => decide (x.typ = typ) && decide (x.tgt = core)) with
  | some x => x.data
  | none => []

/-- Words of a core's instruction bank, as an association from word index (R153). -/
def Image.bank (m : Image) (core : Nat) : FMap W64 :=
  let d := m.part 1 core
  FMap.setList (fun _ => 0) [] 0 (words64 (d.length / 8) d)

/-- The ephemeris table of a core. -/
def Image.table (m : Image) (core : Nat) : List W64 := words64 64 (m.part 2 core)

/-- FAULT, START, SBOUND and SLEVEL of a core, and its region declarations: BASE and LIMIT words (R154). -/
def Image.faultEntry (m : Image) (core : Nat) : Nat := le (m.part 3 core) 0 2
def Image.startEntry (m : Image) (core : Nat) : Nat := le (m.part 3 core) 2 2
def Image.startBound (m : Image) (core : Nat) : Nat := le (m.part 3 core) 4 2
def Image.startLevel (m : Image) (core : Nat) : Nat := le (m.part 3 core) 6 1
def Image.regions (m : Image) (core : Nat) : List (W64 × W64) :=
  (List.range 16).map (fun n => (w64 (le (m.part 3 core) (256 + 16 * n) 8), w64 (le (m.part 3 core) (264 + 16 * n) 8)))

/-- The cores that run image code, in ascending order. -/
def Image.coreList (m : Image) : List Nat := (List.range 64).filter m.hasCore

/-- Slots in use of a core's table: slot and word. -/
def Image.slots (m : Image) (core : Nat) : List (Nat × W64) :=
  ((List.range 64).zip (m.table core)).filter (fun p => bit p.2 12)

/-- Classes that a core's drain slots take. -/
def Image.drains (m : Image) (core : Nat) : List Nat :=
  ((m.slots core).filter (fun p => decide (fld p.2 13 2 = 1))).map (fun p => fld p.2 48 6)

end Sys2Proof.Machine
end

