-- ==== Sys2Proof/Machine/Prover.lean ====
section
/-! DEFINITION. The loader's proof: reachable words, handler bounds, schedules and regions, which are stages 0x03 to
0x05 of the image checks (R84, R148, R161 to R166). -/

namespace Sys2Proof.Machine

/-! ## Words -/

/-- Instruction set minor that an opcode needs (R165). -/
def isaMinor (op : Nat) : Nat :=
  if op ∈ [0x18, 0x19, 0x1A, 0x27] then 1 else if op = 0x54 ∨ op = 0xC4 then 2 else 0

/-- Program ABI minor that a word's primitive or operation needs (R166). -/
def abiMinor (w : W64) : Nat :=
  let op := fld w 0 8
  if op = 0x7B ∧ fld w 32 4 = 1 then 1
  else if op = 0x86 then 2
  else if op = 0x91 ∧ bit w 32 = true then 3
  else if op = 0x79 ∧ bit w 33 = true then 4
  else 0

/-- Whether an opcode issues an asynchronous primitive (R79). -/
def isIssue (op : Nat) : Bool :=
  decide (op ∈ [0x62, 0x63, 0x78, 0x79, 0x7A, 0x7B, 0x80, 0x81, 0x82, 0x83, 0x84, 0x85, 0x86, 0x90, 0x91, 0x92, 0x93, 0x98,
    0x99, 0x9A, 0xA0, 0xA1, 0xA2, 0xA8, 0xA9, 0xAA, 0xB0, 0xB8])

/-- Charge of a load or store by its space (R67). -/
def spaceCharge (w : W64) (a b c : Nat) : Nat := match fld w 23 2 with
  | 0 => a
  | 1 => b
  | _ => c

/-- Cycles that a word counts against BOUND (R54, R65 to R79). -/
def wordCharge (w : W64) : Nat :=
  let op := fld w 0 8
  if 0x04 ≤ op ∧ op ≤ 0x05 then 3
  else if 0x06 ≤ op ∧ op ≤ 0x07 then 66
  else if op = 0x27 ∨ op = 0x54 then 2
  else if 0x30 ≤ op ∧ op ≤ 0x33 then spaceCharge w 2 9 44
  else if 0x34 ≤ op ∧ op ≤ 0x37 then spaceCharge w 1 7 42
  else if op = 0x38 then spaceCharge w 3 10 44
  else if op = 0x39 then spaceCharge w 2 9 9
  else if 0x3A ≤ op ∧ op ≤ 0x3C then 10
  else if 0x40 ≤ op ∧ op ≤ 0x48 then 2
  else if op = 0x49 ∨ op = 0x4A then 3
  else if op = 0x4B ∨ op = 0x4C then 2
  else if op = 0x4D then 4
  else if op = 0x55 then 20
  else if op = 0x60 ∨ op = 0x61 ∨ (0x70 ≤ op ∧ op ≤ 0x72) then 14
  else if op = 0x62 ∨ op = 0x63 then 18
  else if op = 0x64 then 46
  else if 0x65 ≤ op ∧ op ≤ 0x67 then 20
  else if op = 0xB1 ∨ op = 0xB2 ∨ op = 0xB9 then 44
  else if isIssue op then 8
  else if op = 0xC5 then 8
  else 1

/-! ## What the prover knows of a core -/

/-- A core's program as the prover reads it. -/
structure Prog where
  core : Nat
  bank : FMap W64
  isa : Nat
  abi : Nat
  classes : List Nat
  /-- Words inside the tables of reachable switches (R71). -/
  tables : List Nat
  deriving DecidableEq, Repr

def Prog.word (p : Prog) (n : Nat) : W64 := FMap.get (fun _ => 0) p.bank n
def Prog.op (p : Prog) (n : Nat) : Nat := fld (p.word n) 0 8
def Prog.tgt (p : Prog) (n : Nat) : Nat := fld (p.word n) 32 12

/-- A word is legal under R64 and under the declared ISA (R161 item 1). -/
def Prog.legal (p : Prog) (n : Nat) : Bool := legalWord (p.word n) && decide (isaMinor (p.op n) ≤ p.isa)

/-- A word that no path may reach: past word 4,095, in a switch table, or the loader's (R161 item 3). -/
def Prog.refused (p : Prog) (n : Nat) : Bool :=
  decide (4095 < n) || p.tables.contains n || (decide (p.core = 0) && decide (3072 ≤ n))

/-- Entry `i` of the switch table of word `n`. -/
def Prog.entry (p : Prog) (n i : Nat) : Nat := fld (p.word (p.tgt n + i / 4)) (16 * (i % 4)) 16

/-- Entries of the switch at word `n`; none when its table runs past word 4,095. -/
def Prog.entries (p : Prog) (n : Nat) : List Nat :=
  let k := fld (p.word n) 18 14
  if 4096 < p.tgt n + (k + 3) / 4 then [] else (List.range k).map (p.entry n)

/-- A switch table runs past word 4,095, or an entry breaks R161 item 6. -/
def Prog.badTable (p : Prog) (n : Nat) : Bool :=
  decide (4096 < p.tgt n + (fld (p.word n) 18 14 + 3) / 4) ||
  (p.entries n).any (fun e => decide (4096 ≤ e) || p.refused e)

/-- Targets of the switch at word `n` that item 6 allows. -/
def Prog.targets (p : Prog) (n : Nat) : List Nat := (p.entries n).filter (fun e => decide (e < 4096) && !p.refused e)

/-- The words that may run after word `n`. -/
def Prog.succ (p : Prog) (n : Nat) : List Nat :=
  let op := p.op n
  if op = 0x40 then [p.tgt n]
  else if 0x41 ≤ op ∧ op ≤ 0x49 then [p.tgt n, n + 1]
  else if op ∈ [0x4A, 0x4C, 0x4E, 0x4F, 0xC6] then []
  else if op = 0x4B then [n + 1, p.tgt n + 1]
  else if op = 0x4D then p.targets n ++ [n + 1]
  else [n + 1]

/-- The words that may run after word `n` at the same call depth. -/
def Prog.level (p : Prog) (n : Nat) : List Nat := if p.op n = 0x49 then [n + 1] else p.succ n

/-- The words reachable along `next` from those waiting, with `seen` already visited. -/
def Prog.reach (p : Prog) (next : Nat → List Nat) : Nat → List Nat → FMap Bool → FMap Bool
  | 0, _, seen => seen
  | _, [], seen => seen
  | f + 1, n :: r, seen =>
    if FMap.get (fun _ => false) seen n then p.reach next f r seen
    else
      let seen := FMap.insert seen n true
      if p.refused n || !p.legal n then p.reach next f r seen else p.reach next f (next n ++ r) seen

/-- Every word reachable from the entries; a bank's words and edges bound the walk. -/
def Prog.reachable (p : Prog) (es : List Nat) : List Nat := (p.reach p.succ 2097152 es []).map (·.1)

/-- Words of one operation that run at the call depth of the entries. -/
def Prog.atLevel (p : Prog) (op : Nat) (es : List Nat) : List Nat :=
  ((p.reach p.level 2097152 es []).map (·.1)).filter (fun n => !p.refused n && p.legal n && decide (p.op n = op))

/-- The words inside the tables of the switches among `ns`. -/
def Prog.tableWords (p : Prog) (ns : List Nat) : List Nat :=
  (ns.filter (fun n => !p.refused n && p.legal n && decide (p.op n = 0x4D))).flatMap (fun n =>
    ((List.range ((fld (p.word n) 18 14 + 3) / 4)).map (· + p.tgt n)).filter (· ≤ 4095))

/-- A violation of R161: code and word. -/
abbrev Viol := Nat × Nat

/-- Items 1, 2, 3, 6 and 7 of R161 at one reachable word. -/
def Prog.wordViols (p : Prog) (n : Nat) : List Viol :=
  if p.refused n then (0x0303, n) :: (if decide (n ≤ 4095) && !p.legal n then [(0x0301, n)] else [])
  else if !p.legal n then [(0x0301, n)]
  else
    (if p.abi < abiMinor (p.word n) then [(0x0302, n)] else []) ++
    (if p.op n = 0x4D ∧ p.badTable n = true then [(0x0306, n)] else []) ++
    (if isIssue (p.op n) && (!p.classes.contains (fld (p.word n) 26 6) || (decide (p.core = 0) && decide (fld (p.word n) 26 6 = 63)))
      then [(0x0307, n)] else [])

/-- Item 4 of R161, whatever the loops: a ret with no call open, and the calls with which a chain passes 8, as a cycle of
the call graph does too; `d` more calls may be open. -/
def Prog.chainViols (p : Prog) : Nat → List Nat → List Viol
  | 0, es => (p.atLevel 0x49 es).map (fun n => (0x0304, n))
  | d + 1, es => p.chainViols d ((p.atLevel 0x49 es).map p.tgt).dedup
def Prog.callViols (p : Prog) (es : List Nat) : List Viol :=
  (p.atLevel 0x4A es).map (fun n => (0x0304, n)) ++ p.chainViols 8 es

/-! ## Bounds (R84) -/

/-- A place on a path: the word, the open loop of its call depth, whether a call is open, the loops open in all, and
the calls open. -/
structure Place where
  pc : Nat
  loop : Option (Nat × Nat)
  callee : Bool
  depth : Nat
  calls : Nat
  deriving DecidableEq, Repr

/-- Worst sums of charges from a place: to the end of the open loop's body, to an lbrk, to the end of the handler, and
to a ret. -/
structure Worst where
  full : Option Nat
  brk : Option Nat
  done : Option Nat
  ret : Option Nat
  deriving DecidableEq, Repr

def Worst.none : Worst := ⟨Option.none, Option.none, Option.none, Option.none⟩

/-- The greater of two sums, where there are any. -/
def maxOpt : Option Nat → Option Nat → Option Nat
  | some a, some b => some (max a b)
  | some a, none => some a
  | none, b => b

def Worst.max (x y : Worst) : Worst := ⟨maxOpt x.full y.full, maxOpt x.brk y.brk, maxOpt x.done y.done, maxOpt x.ret y.ret⟩

/-- Every sum larger by `n`. -/
def Worst.plus (x : Worst) (n : Nat) : Worst := ⟨x.full.map (· + n), x.brk.map (· + n), x.done.map (· + n), x.ret.map (· + n)⟩

/-- What the walk carries: places already bounded, and violations. -/
structure Walk where
  memo : List (Place × Worst)
  viols : List Viol
  deriving DecidableEq, Repr

/-- A step of the walk: a bound and what it carries. -/
abbrev Bounded := Worst × Walk

def Walk.bad (k : Walk) (code word : Nat) : Bounded := (.none, { k with viols := (code, word) :: k.viols })

/-- Follow an edge from a place to word `t`: `jump` for a transfer.  At the last word of the open loop, an edge that is
no transfer is the back-edge; an edge out of the body is refused (R70, R161 item 5). -/
def follow (p : Prog) (x : Place) (t : Nat) (jump : Bool) (cost : Nat) (go : Place → Walk → Bounded) (k : Walk) : Bounded :=
  match x.loop with
  | some (lo, hi) =>
    if !jump && decide (x.pc = hi) then (⟨some cost, none, none, none⟩, k)
    else if p.refused t then (.none, k)
    else if t < lo ∨ hi < t then k.bad 0x0305 x.pc
    else
      let (v, k) := go { x with pc := t } k
      (v.plus cost, k)
  | none =>
    if p.refused t then (.none, k)
    else
      let (v, k) := go { x with pc := t } k
      (v.plus cost, k)

/-- The worst of several edges. -/
def worstOf : List (Walk → Bounded) → Walk → Bounded
  | [], k => (.none, k)
  | f :: r, k =>
    let (a, k) := f k
    let (b, k) := worstOf r k
    (a.max b, k)

/-- A call: 3 and the callee's bound, which includes its ret, and then the rest; a chain deeper than 8 is refused. -/
def callBound (p : Prog) (x : Place) (go : Place → Walk → Bounded) (k : Walk) : Bounded :=
  if x.calls ≥ 8 then k.bad 0x0304 x.pc
  else if p.refused (p.tgt x.pc) then (.none, k)
  else
    let (c, k) := go { pc := p.tgt x.pc, loop := none, callee := true, depth := x.depth, calls := x.calls + 1 } k
    let own : Worst := ⟨none, none, c.done.map (· + 3), none⟩
    match c.ret with
    | none => (own, k)
    | some r =>
      let (v, k) := match x.loop with
        | some (_, hi) => if x.pc = hi then k.bad 0x0305 x.pc else follow p x (x.pc + 1) false 0 go k
        | none => follow p x (x.pc + 1) false 0 go k
      (own.max (v.plus (3 + r)), k)

/-- A loop: 2 and max × the worst body path; a path through lbrk or to the end of the handler counts once in place of
the remaining iterations. -/
def loopBound (p : Prog) (x : Place) (go : Place → Walk → Bounded) (k : Walk) : Bounded :=
  let last := p.tgt x.pc
  let n := fld (p.word x.pc) 48 16
  let outer := match x.loop with
    | some (_, hi) => decide (hi ≤ last)
    | none => false
  if last ≤ x.pc ∨ 4 ≤ x.depth ∨ outer = true then k.bad 0x0305 x.pc
  else
    let (b, k) := go { x with pc := x.pc + 1, loop := some (x.pc + 1, last), depth := x.depth + 1 } k
    let f := b.full.getD 0
    let before := if b.full.isSome then (n - 1) * f else 0
    let leave := max 2 (max (2 + n * f) (match b.brk with
      | some c => 2 + before + c
      | none => 0))
    let own : Worst := ⟨none, none, b.done.map (· + (2 + before)), none⟩
    let (v, k) := if p.refused (last + 1) then (Worst.none, k) else go { x with pc := last + 1 } k
    (own.max (v.plus leave), k)

/-- The bound from one place, with its successors bounded by `go`. -/
def placeBound (p : Prog) (x : Place) (go : Place → Walk → Bounded) (k : Walk) : Bounded :=
  let op := p.op x.pc
  let c := wordCharge (p.word x.pc)
  if p.refused x.pc || !p.legal x.pc then (.none, k)
  else if op ∈ [0x4E, 0x4F, 0xC6] then (⟨none, none, some c, none⟩, k)
  else if op = 0x4A then
    if x.loop.isSome then k.bad 0x0305 x.pc
    else if !x.callee then k.bad 0x0304 x.pc
    else (⟨none, none, none, some c⟩, k)
  else if op = 0x4C then
    if x.loop.isSome then (⟨none, some c, none, none⟩, k) else k.bad 0x0305 x.pc
  else if op = 0x40 then follow p x (p.tgt x.pc) true c go k
  else if 0x41 ≤ op ∧ op ≤ 0x48 then worstOf [follow p x (p.tgt x.pc) true c go, follow p x (x.pc + 1) false c go] k
  else if op = 0x49 then callBound p x go k
  else if op = 0x4B then loopBound p x go k
  else if op = 0x4D then
    worstOf ((p.targets x.pc).map (fun t => follow p x t true c go) ++ [follow p x (x.pc + 1) false c go]) k
  else follow p x (x.pc + 1) false c go k

/-- The bound from a place: a place already bounded is not walked again, and one that is open on the path closes a cycle
that no loop instruction bounds (R161 item 5). -/
def bound (p : Prog) : Nat → List Place → Place → Walk → Bounded
  | 0, _, x, k => k.bad 0x0305 x.pc
  | f + 1, path, x, k =>
    match k.memo.find? (fun q => decide (q.1 = x)) with
    | some q => (q.2, k)
    | none =>
      if path.contains x then k.bad 0x0305 x.pc
      else
        let (v, k) := placeBound p x (fun y k => bound p f (x :: path) y k) k
        (v, { k with memo := (x, v) :: k.memo })

/-- The proved bound of a handler: 0 where no path from it ends (R84). -/
def Prog.handler (p : Prog) (e : Nat) (k : Walk) : Nat × Walk :=
  let (v, k) := bound p 16777216 [] ⟨e, none, false, 0, 0⟩ k
  (v.done.getD 0, k)

/-! ## Stage 0x03 -/

/-- The program of a core with the table words of its reachable switches. -/
def Image.prog (m : Image) (core : Nat) (es : List Nat) : Prog :=
  let p : Prog := { core := core, bank := m.bank core, isa := m.isa % 256, abi := m.abi % 256, classes := m.drains core, tables := [] }
  { p with tables := p.tableWords (p.reachable es) }

/-- Entries of a core's handlers: its slots, its fault handler and its start handler. -/
def Image.handlers (m : Image) (core : Nat) : List Nat :=
  (m.slots core).map (fun x => fld x.2 0 12) ++ [m.faultEntry core, m.startEntry core]

/-- What the proof of a core gives: violations, and the bound of each handler. -/
def Image.prove (m : Image) (core : Nat) : List Viol × List (Nat × Nat) :=
  let es := m.handlers core
  let p := m.prog core es
  let viols := (p.reachable es).flatMap p.wordViols ++ p.callViols es
  let (hs, k) := es.foldl (fun (acc : List (Nat × Nat) × Walk) e =>
    let (h, k) := p.handler e acc.2
    (acc.1 ++ [(e, h)], k)) (([] : List (Nat × Nat)), ({ memo := [], viols := [] } : Walk))
  (viols ++ k.viols, hs)

/-- The bound proved for an entry. -/
def boundOf (hs : List (Nat × Nat)) (e : Nat) : Nat :=
  match hs.find? (fun p => decide (p.1 = e)) with
  | some p => p.2
  | none => 0

/-! ## Stage 0x04 -/

/-- Slot cycles and fault window of the locked period (R28). -/
def State.slotCycles (s : State) : Nat := 1750 * s.periodUs
def State.faultWindow (s : State) : Nat := 100 * s.periodUs

/-- Whether a slot word breaks the ranges of R31. -/
def badSlot (slots : Nat) (w : W64) : Bool :=
  let kind := fld w 13 2
  decide (2 ≤ kind) || bit w 15 || decide (fld w 54 2 ≠ 0) || decide (fld w 16 13 = 0) || decide (slots < fld w 16 13) ||
  decide (fld w 29 3 = 0) || decide (fld w 32 8 < fld w 40 8) ||
  (decide (kind = 1) && decide (fld w 56 8 = 0)) || (decide (kind = 0) && decide (fld w 48 16 ≠ 0))

/-- BOUND that R34 requires of a slot. -/
def needBound (hs : List (Nat × Nat)) (w : W64) : Nat :=
  let n := 8 + boundOf hs (fld w 0 12)
  if fld w 13 2 = 1 then fld w 56 8 * n else n

/-- Least common multiple of the periods of a list of slot words (R34). -/
def periodLcm (ws : List W64) : Nat := ws.foldl (fun n w => Nat.lcm n (fld w 32 8 + 1)) 1

/-- Load of tick `n` (R34). -/
def tickLoad (ws : List W64) (n : Nat) : Nat :=
  ((ws.filter (fun w => decide (n % (fld w 32 8 + 1) = fld w 40 8))).map (fun w => fld w 16 13)).sum

/-- Bounds of the loader's slots 62 and 63 (R148). -/
def State.loaderBounds (s : State) : Nat × Nat := (75 * s.periodUs, 100 * s.periodUs)

/-- Slot numbers of drain slots whose class an earlier drain slot takes. -/
def dupDrains : List Nat → List (Nat × W64) → List (Nat × W64)
  | _, [] => []
  | seen, p :: r =>
    if fld p.2 13 2 = 1 then
      if seen.contains (fld p.2 48 6) then p :: dupDrains seen r else dupDrains (fld p.2 48 6 :: seen) r
    else dupDrains seen r

/-- Rejections of a core's schedule (R162).  R164 does not say what the word index of one is; the model takes it not to apply,
so that the lowest slot is reported first (DESIGN CHOICE, log entry 133). -/
def State.schedViols (s : State) (m : Image) (hs : List (Nat × Nat)) (core : Nat) : List Reject :=
  let ss := m.slots core
  let own := if core = 0 then ss.filter (fun p => decide (p.1 < 62)) else ss
  let limit := if core = 0 then s.slotCycles - s.loaderBounds.1 - s.loaderBounds.2 else s.slotCycles
  let at_ (code : Nat) (l : List (Nat × W64)) : List Reject := l.map (fun p => ⟨code, core, 0xFFFF, p.1⟩)
  let l := periodLcm (ss.map (·.2))
  let one (code : Nat) (b : Bool) : List Reject := if b then [⟨code, core, 0xFFFF, 0xFFFF⟩] else []
  let ctl := m.part 3 core
  at_ 0x0401 (ss.filter (fun p => badSlot s.slotCycles p.2)) ++
  at_ 0x0402 (ss.filter (fun p => decide (fld p.2 16 13 < needBound hs p.2))) ++
  one 0x0403 (decide (l ≤ 65536) && (List.range l).any (fun n => decide (limit < tickLoad (own.map (·.2)) n))) ++
  one 0x0404 (decide (65536 < l)) ++
  at_ 0x0405 (dupDrains [] ss) ++
  one 0x0406 (decide (s.faultWindow < 8 + boundOf hs (m.faultEntry core))) ++
  one 0x0407 (decide (m.startBound core < 8 + boundOf hs (m.startEntry core)) ||
    decide (s.slotCycles < m.startBound core) || decide (m.startLevel core = 0) || decide (7 < m.startLevel core) ||
    !zeros ctl 7 249) ++
  (if core = 0 then
    at_ 0x0408 (ss.filter (fun p => decide (62 ≤ p.1))) ++
    one 0x0408 (((m.regions core).drop 14).any (fun q => bit q.2 0))
  else [])

/-! ## Stage 0x05 -/

/-- The ranges of R58 in spaces 0, 1 and 2: first and last byte. -/
def coreRanges : List (Nat × Nat) :=
  [(0x0, 0xFFFF), (0x100000, 0x1BFFFF), (0x20000000, 0x21FFFFFF), (0x40000000, 0x403FFFFF), (0xF000000000, 0xF000FFFFFF)]

/-- The windows on which no image may be granted a write: SEC, PAT, the instruction stores, and SCHED but for the
per-core control registers (R163). -/
def heldRanges : List (Nat × Nat) :=
  [(0xF000130000, 0xF00013FFFF), (0xF000110000, 0xF00011FFFF), (0x40000000, 0x403FFFFF),
   (0xF000010000, 0xF000010FFF), (0xF000012000, 0xF00001FFFF)]

/-- Whether R163 refuses a region declaration of a core. -/
def badRegion (core : Nat) (q : W64 × W64) : Bool :=
  let lo := fld q.1 6 50 * 64
  let hi := fld q.2 6 50 * 64 + 63
  decide (fld q.1 0 6 ≠ 0) || decide (fld q.1 56 8 ≠ 0) || decide (fld q.2 4 2 ≠ 0) || decide (fld q.2 56 8 ≠ 0) ||
  (bit q.2 0 &&
    (decide (hi < lo + 63) || !coreRanges.any (fun r => decide (r.1 ≤ lo) && decide (hi ≤ r.2)) ||
    ((bit q.2 2 || bit q.2 3) && heldRanges.any (fun r => decide (lo ≤ r.2) && decide (r.1 ≤ hi))) ||
    (decide (core = 0) && decide (lo ≤ 0xFFFF) && decide (0xE000 ≤ hi))))

/-! ## The proof of an image -/

/-- A rejection as a number that orders by code, core, word and slot (R164). -/
def Reject.key (r : Reject) : Nat := ((r.code * 0x10000 + r.core) * 0x10000 + r.word) * 0x10000 + r.slot

/-- The rejection that R164 reports first. -/
def leastReject : List Reject → Option Reject
  | [] => none
  | r :: rs => match leastReject rs with
    | some q => if q.key < r.key then some q else some r
    | none => some r

/-- Stages 0x03, 0x04 and 0x05, each over the whole image before the next (R164). -/
def State.checkProof (s : State) (m : Image) : Option Reject :=
  let ps := m.coreList.map (fun c => (c, m.prove c))
  match leastReject (ps.flatMap (fun p => p.2.1.map (fun v => ⟨v.1, p.1, v.2, 0xFFFF⟩))) with
  | some r => some r
  | none =>
    match leastReject (ps.flatMap (fun p => s.schedViols m p.2.2 p.1)) with
    | some r => some r
    | none => leastReject (ps.flatMap (fun p =>
        if (m.regions p.1).any (badRegion p.1) then [⟨0x0501, p.1, 0xFFFF, 0xFFFF⟩] else []))

end Sys2Proof.Machine
end

