-- ==== Sys2Proof/Machine/Engine.lean ====
section
/-! DEFINITION. The issue instructions of the asynchronous primitives (R76 to R79), and the engines
taking requests, promoting them and posting events (R46, R48, R86, R88, R146). -/

namespace Sys2Proof.Machine

/-! ## Issue instructions -/

/-- Issue of gate (R98). -/
def execGate (c : CoreId) (i : Issue) (s : State) : Res :=
  onCore s c (fun s => s.issue c .gate 18 i (i.imm))

/-- Issue of squash (R101). -/
def execSquash (c : CoreId) (i : Issue) (s : State) : Res :=
  onCore s c (fun s => s.issue c .squash 18 i (setFld i.imm 0 1 0))

/-- Issue of squashAbort (R99). -/
def execSquashAbort (c : CoreId) (i : Issue) (s : State) : Res :=
  onCore s c (fun s => s.issue c .squash 18 i (setFld i.imm 0 1 1))

/-- Issue of mlook (R111). -/
def execMlook (c : CoreId) (i : Issue) (s : State) : Res :=
  onCore s c (fun s => s.issue c .mlook 8 i (i.imm))

/-- Issue of mcommit (R112). -/
def execMcommit (c : CoreId) (i : Issue) (s : State) : Res :=
  onCore s c (fun s => s.issue c .mcommit 8 i (i.imm))

/-- Issue of mtrim (R113). -/
def execMtrim (c : CoreId) (i : Issue) (s : State) : Res :=
  onCore s c (fun s => s.issue c .mtrim 8 i (i.imm))

/-- Issue of mzoneReserve (R114, R262). -/
def execMzoneReserve (c : CoreId) (i : Issue) (s : State) : Res :=
  onCore s c (fun s => s.issue c .mzone 8 i (setFld i.imm 0 4 0))

/-- Issue of mzoneReserveToken (R114, R274). -/
def execMzoneReserveToken (c : CoreId) (i : Issue) (s : State) : Res :=
  onCore s c (fun s => s.issue c .mzone 8 i (setFld i.imm 0 4 1))

/-- Issue of mzoneSetState (R114). -/
def execMzoneSetState (c : CoreId) (i : Issue) (s : State) : Res :=
  onCore s c (fun s => s.issue c .mzone 8 i (setFld i.imm 0 4 2))

/-- Issue of mzoneReset (R114). -/
def execMzoneReset (c : CoreId) (i : Issue) (s : State) : Res :=
  onCore s c (fun s => s.issue c .mzone 8 i (setFld i.imm 0 4 3))

/-- Issue of mzoneFinish (R114). -/
def execMzoneFinish (c : CoreId) (i : Issue) (s : State) : Res :=
  onCore s c (fun s => s.issue c .mzone 8 i (setFld i.imm 0 4 4))

/-- IMM of the row of operation `op` that also stands for the operations above `top`, which the table of the family does not
define: they keep their number, and the engine answers 0x1F. -/
def opImm (imm : BitVec 32) (op top : Nat) : BitVec 32 := if top < fld imm 0 4 then imm else setFld imm 0 4 op

/-- Issue of mzoneRead (R114), and of the operations that R114 does not define. -/
def execMzoneRead (c : CoreId) (i : Issue) (s : State) : Res :=
  onCore s c (fun s => s.issue c .mzone 8 i (opImm i.imm 5 5))

/-- Issue of fread (R123). -/
def execFread (c : CoreId) (i : Issue) (s : State) : Res :=
  onCore s c (fun s => s.issue c .fread 8 i (i.imm))

/-- Issue of fprog (R124). -/
def execFprog (c : CoreId) (i : Issue) (s : State) : Res :=
  onCore s c (fun s => s.issue c .fprog 8 i (i.imm))

/-- Issue of ferase (R125). -/
def execFerase (c : CoreId) (i : Issue) (s : State) : Res :=
  onCore s c (fun s => s.issue c .ferase 8 i (i.imm))

/-- Issue of fstat (R126). -/
def execFstat (c : CoreId) (i : Issue) (s : State) : Res :=
  onCore s c (fun s => s.issue c .fstat 8 i (i.imm))

/-- Issue of ffeat with the operand block's set bit at `w`; a block that says otherwise is the other
row's instruction (R126). -/
def State.issueFeat (s : State) (c : CoreId) (i : Issue) (w : Bool) : State :=
  let b := ((s.core c).getG i.b).toNat
  if b % 64 = 0 ∧ bit (((s.core c).operandBlock b).getD 1 0) 8 ≠ w then s else s.issue c .ffeat 8 i i.imm

/-- Issue of ffeat to get (R126). -/
def execFfeatGet (c : CoreId) (i : Issue) (s : State) : Res := onCore s c (fun s => s.issueFeat c i false)

/-- Issue of ffeat to set (R126). -/
def execFfeatSet (c : CoreId) (i : Issue) (s : State) : Res := onCore s c (fun s => s.issueFeat c i true)

/-- Issue of fraw (R126). -/
def execFraw (c : CoreId) (i : Issue) (s : State) : Res :=
  onCore s c (fun s => s.issue c .fraw 8 i (i.imm))

/-- Issue of fcancel (R127). -/
def execFcancel (c : CoreId) (i : Issue) (s : State) : Res :=
  onCore s c (fun s => s.issue c .fcancel 8 i (i.imm))

/-- Issue of dmin (R131). -/
def execDmin (c : CoreId) (i : Issue) (s : State) : Res :=
  onCore s c (fun s => s.issue c .dmin 8 i (i.imm))

/-- Issue of dmout (R131). -/
def execDmout (c : CoreId) (i : Issue) (s : State) : Res :=
  onCore s c (fun s => s.issue c .dmout 8 i (i.imm))

/-- Issue of dmcopy (R132). -/
def execDmcopy (c : CoreId) (i : Issue) (s : State) : Res :=
  onCore s c (fun s => s.issue c .dmcopy 8 i (setFld i.imm 0 1 0))

/-- Issue of dmcopyFramed (R195). -/
def execDmcopyFramed (c : CoreId) (i : Issue) (s : State) : Res :=
  onCore s c (fun s => s.issue c .dmcopy 8 i (setFld i.imm 0 1 1))

/-- Issue of dmfill (R132). -/
def execDmfill (c : CoreId) (i : Issue) (s : State) : Res :=
  onCore s c (fun s => s.issue c .dmfill 8 i (i.imm))

/-- Issue of xts (R133). -/
def execXts (c : CoreId) (i : Issue) (s : State) : Res :=
  onCore s c (fun s => s.issue c .xts 8 i (i.imm))

/-- Issue of cmac (R134). -/
def execCmac (c : CoreId) (i : Issue) (s : State) : Res :=
  onCore s c (fun s => s.issue c .cmac 8 i (i.imm))

/-- Issue of vslotStatus (R135), and of the operations that R135 does not define. -/
def execVslotStatus (c : CoreId) (i : Issue) (s : State) : Res :=
  onCore s c (fun s => s.issue c .vslot 8 i (opImm i.imm 0 4))

/-- Issue of vslotClear (R135, R495). -/
def execVslotClear (c : CoreId) (i : Issue) (s : State) : Res :=
  onCore s c (fun s => s.issue c .vslot 8 i (setFld i.imm 0 4 1))

/-- Issue of vslotFill (R135, R495). -/
def execVslotFill (c : CoreId) (i : Issue) (s : State) : Res :=
  onCore s c (fun s => s.issue c .vslot 8 i (setFld i.imm 0 4 2))

/-- Issue of vslotImport (R135, R495). -/
def execVslotImport (c : CoreId) (i : Issue) (s : State) : Res :=
  onCore s c (fun s => s.issue c .vslot 8 i (setFld i.imm 0 4 3))

/-- Issue of vslotBind (R135, R495). -/
def execVslotBind (c : CoreId) (i : Issue) (s : State) : Res :=
  onCore s c (fun s => s.issue c .vslot 8 i (setFld i.imm 0 4 4))

/-- Issue of pxor (R136). -/
def execPxor (c : CoreId) (i : Issue) (s : State) : Res :=
  onCore s c (fun s => s.issue c .pxor 8 i (i.imm))

/-- Issue of pmac (R136). -/
def execPmac (c : CoreId) (i : Issue) (s : State) : Res :=
  onCore s c (fun s => s.issue c .pmac 8 i (i.imm))

/-- Issue of pcheck (R136). -/
def execPcheck (c : CoreId) (i : Issue) (s : State) : Res :=
  onCore s c (fun s => s.issue c .pcheck 8 i (i.imm))

/-- Issue of sreq (R137). -/
def execSreq (c : CoreId) (i : Issue) (s : State) : Res :=
  onCore s c (fun s => s.issue c .sreq 8 i (i.imm))

/-- Issue of sresp (R138). -/
def execSresp (c : CoreId) (i : Issue) (s : State) : Res :=
  onCore s c (fun s => s.issue c .sresp 8 i (i.imm))

/-- Issue of slinkState (R139), and of the operations that R139 does not define. -/
def execSlinkState (c : CoreId) (i : Issue) (s : State) : Res :=
  onCore s c (fun s => s.issue c .slink 8 i (opImm i.imm 0 4))

/-- Issue of slinkRetrain (R139). -/
def execSlinkRetrain (c : CoreId) (i : Issue) (s : State) : Res :=
  onCore s c (fun s => s.issue c .slink 8 i (setFld i.imm 0 4 1))

/-- Issue of slinkDisable (R139). -/
def execSlinkDisable (c : CoreId) (i : Issue) (s : State) : Res :=
  onCore s c (fun s => s.issue c .slink 8 i (setFld i.imm 0 4 2))

/-- Issue of slinkEnable (R139). -/
def execSlinkEnable (c : CoreId) (i : Issue) (s : State) : Res :=
  onCore s c (fun s => s.issue c .slink 8 i (setFld i.imm 0 4 3))

/-- Issue of slinkEnumerate (R139). -/
def execSlinkEnumerate (c : CoreId) (i : Issue) (s : State) : Res :=
  onCore s c (fun s => s.issue c .slink 8 i (setFld i.imm 0 4 4))

/-- Issue of arec (R140). -/
def execArec (c : CoreId) (i : Issue) (s : State) : Res :=
  onCore s c (fun s => s.issue c .arec 8 i (i.imm))

/-- Issue of vote (R143, R513). -/
def execVote (c : CoreId) (i : Issue) (s : State) : Res :=
  onCore s c (fun s => s.issue c .vote 8 i (i.imm))

/-! ## Engines -/

/-- Whether a unit starts no request in a cooling gap (R530). -/
def gapUnit (u : Nat) : Bool :=
  decide (u = 0x43) || decide (u = 0x44) || decide (u = 0x46) || isSpanUnit u

/-- The waiting request a unit serves next: the best level, then the earliest arrival (R46).  The walker passes over a
request that overlaps one it received earlier (R115). -/
def State.bestWaiting (s : State) (u : Nat) : Option Req :=
  (s.reqs.filter (fun r => decide (r.unit = u) && decide (r.phase = .waiting) &&
    !(decide (u = 0x42) && s.mapBlocked r))).foldl betterReq none

/-- The outcome with which an engine turns a request away as it takes it (R86). -/
def State.takeRefuse (s : State) (r : Req) : Option Byte :=
  match r.prim with
  | .mlook | .mcommit | .mtrim | .mzone => (s.received r).mapRefuse r
  | .fread | .fprog | .ferase | .fstat | .ffeat | .fraw => s.verbRefuse r
  | .dmin | .dmout | .dmcopy | .dmfill => s.moverRefuse r
  | .xts | .cmac | .vslot => s.cipherRefuse r
  | .pxor | .pmac | .pcheck => s.parityRefuse r
  | _ => none

/-- Whether the engine of a request is able to take it: the walker is enabled and the ingot store
ready, no cooling gap stops it, the memories it reads are awake, and the gate has not applied the tick's abort claims
(R99, R116, R470, R520, R530). -/
def State.canTake (s : State) (r : Req) : Bool :=
  (!(decide (r.unit = 0x42)) || (bit (s.reg (sta 5 0)) 0 && s.ingotOpen)) &&
  !(s.gap && gapUnit r.unit) && s.memAwake r && !(decide (r.unit = 0x41) && s.gateShut)

/-- A request leaves its queue: it stands after those taken earlier. -/
def State.begin (s : State) (r : Req) (p : ReqPhase) : State :=
  let s := s.dropReq r
  s.putReqs (s.reqs ++ [{ r with phase := p }])

/-- An engine takes a request that it does not turn away. -/
def State.takeReq (s : State) (r : Req) : State :=
  match r.prim with
  | .gate | .squash => s.gateTake r
  | .fcancel => s.fcancelTake r
  | .arec => s.arecTake r
  | .vote => s.voteTake r
  | .sreq => s.sreqTake r
  | .sresp => s.srespTake r
  | .slink => s.slinkTake r
  | .fread | .fprog | .ferase | .fstat | .ffeat | .fraw => s.begin r .taken
  | _ => s.begin r .started

/-- ENGINE_REQUEST_TAKE (R46, R86, R115, R146): unit `u` takes its best waiting request. -/
def execEngineRequestTake (u : Nat) (s : State) : Res :=
  .next (match s.bestWaiting u with
    | none => s
    | some r =>
      if !s.unitDomeOn u then s.fail r ocDomeOff
      else if !s.canTake r then s
      else match s.takeRefuse r with
        | some oc => s.fail r oc
        | none => s.takeReq r)

/-- Whether a request still stands in an engine's queue. -/
def Req.queuedInEngine (r : Req) : Bool :=
  decide (r.phase = .waiting) || decide (r.phase = .taken) || decide (r.phase = .dieQueue)

/-- One promotion: P3 to P7 rise one level, never above P2 (R48). -/
def Req.promote (r : Req) : Req :=
  if 3 ≤ r.cur.toNat then { r with cur := r.cur - 1, age := 0 } else r

/-- AGE_PROMOTION (R48): a queued request at P3 to P7 that has waited SCHED_AGELIM ticks since the
last promotion rises one level. -/
def execAgePromotion (c : CoreId) (t : Ticket) (s : State) : Res :=
  .next (match s.findReq c t with
    | some r =>
      if r.queuedInEngine ∧ 3 ≤ r.cur.toNat ∧ s.rfld (sta 1 0x10) 0 11 ≤ r.age then s.setReq r.promote else s
    | none => s)

/-- One tick more of waiting for every queued request. -/
def State.ageTick (s : State) : State :=
  s.putReqs (s.reqs.map (fun r => if r.queuedInEngine then { r with age := r.age + 1 } else r))

/-- EVENT_RING_POST (R37, R88): the oldest waiting event takes a free ring entry, whichever unit it waits in (DESIGN
CHOICE, log entry 126). -/
def execEventRingPost (c : CoreId) (s : State) : Res :=
  .next (let k := s.core c
    match k.waiting with
    | e :: es => if 0 < k.freeEntries then s.setCore c { k with waiting := es, ring := k.ring ++ [e] } else s
    | [] => s)

end Sys2Proof.Machine
end

