-- ==== Sys2Proof/Machine/Tick.lean ====
section
/-! DEFINITION. The sidereal tick: the boundary, the fault window, intake, slot dispatch, start
activations and bound excess (R24 to R53, R172, R173, R530). -/

namespace Sys2Proof.Machine

/-- Whether the dome of core `c`'s cluster is on (R512). -/
def State.clusterOn (s : State) (c : CoreId) : Bool := s.domeOn (7 + c.toNat / 8)

/-! ## Boundary -/

/-- A register write that waited for the boundary; a port target restarts its samples (R452). -/
def State.applyPend (s : State) (p : Nat × W64) : State :=
  if sta 8 0x200 ≤ p.1 ∧ p.1 < sta 8 0x240 then (s.setRfld p.1 0 16 p.2.toNat).setRfld p.1 16 16 0
  else s.setReg p.1 p.2

/-- A change of a submission queue takes effect (R97). -/
def State.applyQChange (s : State) (p : Nat × QChange) : State :=
  match s.sq p.1 with
  | some q =>
    match p.2 with
    | .owner c r w o => s.setSq p.1 (some { q with owner := c, rcls := r, wcls := w, ocls := o })
    | .level l => s.setSq p.1 (some { q with level := l })
  | none => s

/-- Checker writes take effect (R62). -/
def Core.applyChk (k : Core) : Core :=
  { k with chk := k.chkPend.foldl (fun m p => FMap.set (fun _ => 0) m p.1 p.2) k.chk, chkPend := [] }

/-- A pending swap: table, bank, regions and fault entry switch together (R35, R172). -/
def Core.applySwap (k : Core) : Core :=
  if k.swap then
    { k with swap := false, actBank := !k.actBank, chk := k.nchk, faultEntry := k.nfault, startPending := bit k.nstart 12 }
  else { k with startPending := k.startPending && bit k.nstart 12 }

/-- A core's counters of the tick start again. -/
def Core.newTick (k : Core) : Core := { k with used := 0, nextSlot := 0, cut := false }

/-- An activation still running at the boundary is cut as an overrun (R51). -/
def State.cutOverrun (s : State) (c : CoreId) : State :=
  let k := s.core c
  if k.act = .idle then s else s.cut c 0xE0 k.pc.toNat 0

/-- The fault handler is entered when a P0 event waits (R29, R40). -/
def State.enterHandler (s : State) (c : CoreId) : State :=
  let k := s.core c
  match k.p0 with
  | e :: es =>
    if s.clusterOn c then
      s.setCore c (({ { k with p0 := es, cycles := 0 }.enter .faultHandler k.faultEntry e with act := .faultHandler } : Core).charge 8)
    else s
  | [] => s

/-- Every listed core after a function. -/
def State.mapCores (s : State) (f : Core → Core) : State :=
  s.putCores (s.cores.map (fun p => (p.1, f p.2)))

/-- Writes that wait for the boundary take effect. -/
def State.applyPending (s : State) : State :=
  let s := s.regPend.foldl State.applyPend s
  let s := s.qPend.foldl State.applyQChange s
  let s := s.tunMinPend.foldl (fun (s : State) p => (s.putTunMin (FMap.set (fun _ => 0) s.tunMin p.1 p.2))) s
  ((s.putRegPend []).putQPend []).putTunMinPend []

/-- A manager tells its peer of a change of its reserve bound (R414): in the tick after it. -/
def State.reportBound (s : State) : State :=
  let b := s.rfld hazWsnRes 0 56
  if s.boot.down || !s.isManager || !s.peerUp || decide (b = s.boundSent) then s
  else (s.ckpt 1 (toBytes 8 b)).putBoundSent b

/-- TICK_BOUNDARY (R25, R26, R42, R51, R94, R99, R172, R488, R530): the slot window ends and the
next tick's fault window begins. -/
def execTickBoundary (s : State) : Res :=
  .next (if s.win ≠ .slot then s else
    let s := s.applyAborts.putGateShut false
    let s := if s.gap then s else s.countEntries
    let s := (s.putTick (s.tick + 1)).putWin .fault
    let s := allCores.foldl State.cutOverrun s
    let s := s.applyPending
    let s := (s.mapCores (fun k => k.applyChk.applySwap.newTick)).handoverBoundary
    let s := (s.levelSource 7).putGap (gapTick (s.rfld thermGap 8 4) s.tick.toNat)
    let s := s.putCtrls (s.ctrls.map (fun (p : Nat × Ctrl) => (p.1, p.2.applyArb)))
    let s := ((s.shareBoundary).finishShutdowns).ageTick.plogTick.minuteTick.testTick.reportBound
    allCores.foldl State.enterHandler s)

/-- FAULT_WINDOW_CUT (R30): a fault handler that reaches the end of its window is cut, and the
device resets. -/
def execFaultWindowCut (c : CoreId) (s : State) : Res :=
  .next (let k := s.core c
    if s.win = .fault ∧ k.act = .faultHandler then s.faultReset 3 c.toNat k.pc.toNat else s)

/-- Events that intake moves at most (R28). -/
def State.intakeLimit (s : State) : Nat := 64 * s.periodUs

/-- Intake of one core: the oldest entries move into the class queues (R37). -/
def Core.intake (k : Core) (limit : Nat) : Core :=
  { k with
    classQ := k.classQ ++ k.ring.take limit
    ring := k.ring.drop limit
    defer := if limit < k.ring.length then BitVec.ofNat 16 (satAdd 16 k.defer.toNat 1) else k.defer }

/-- INTAKE (R28, R37, R41): fault handlers that still run are cut, every core's events move, and the
slot window opens. -/
def execIntake (s : State) : Res :=
  .next (if s.win ≠ .fault then s else
    match s.presentCores.find? (fun c => (s.core c).act = .faultHandler) with
    | some c => (s.faultReset 3 c.toNat (s.core c).pc.toNat).putWin .slot
    | none => ((s.mapCores (fun k => k.intake s.intakeLimit)).putWin .slot))

/-! ## Slots -/

/-- Whether slot word `w` is in use and due in tick `n` (R31, R32). -/
def slotDue (w : W64) (n : Nat) : Bool := bit w 12 && decide (n % (fld w 32 8 + 1) = fld w 40 8)

/-- Whether a due slot runs: a timed slot always, a drain slot when its class holds a visible event;
a slot of a reserved kind is met as it stands. -/
def Core.slotRuns (k : Core) (w : W64) : Bool :=
  decide (fld w 13 2 ≠ 1) || (takeClass (fld w 48 6) k.classQ).isSome

/-- The next slot of a core in tick `n`. -/
def Core.nextDue (k : Core) (n : Nat) : Option Nat :=
  (List.range 64).find? (fun i => decide (k.nextSlot ≤ i) && slotDue (k.slotWord i) n && k.slotRuns (k.slotWord i))

/-- Whether core `c` may begin an activation now (R29, R51, R52, R530). -/
def State.mayRun (s : State) (c : CoreId) : Bool :=
  let k := s.core c
  decide (s.win = .slot) && !s.gap && s.corePresent c && s.clusterOn c && decide (k.state = .running) && k.run &&
    decide (k.act = .idle) && !k.cut

/-- SLOT_DISPATCH (R32, R33): the next due slot of core `c` is entered, at 8 cycles.  R31 reserves
slot kinds 2 and 3. -/
def execSlotDispatch (c : CoreId) (s : State) : Res :=
  if !s.mayRun c || (s.core c).startPending then .next s else
  let k := { s.core c with cycles := 0 }
  match k.nextDue s.tick.toNat with
  | none => .next s
  | some n =>
    let w := k.slotWord n
    let entry := BitVec.ofNat 12 (fld w 0 12)
    match fld w 13 2 with
    | 0 => .next (s.setCore c ((k.enter (.timed n) entry s.tick).charge 8))
    | 1 =>
      match takeClass (fld w 48 6) k.classQ with
      | some (e, q) =>
        .next (s.setCore c ((({ k with classQ := q }).enter (.drain n (fld w 56 8 - 1)) entry e).charge 8))
      | none => .next s
    | _ => .fault .reservedSlotKind

/-- START_ACTIVATION (R173): the start activation takes the place of every slot of the tick. -/
def execStartActivation (c : CoreId) (s : State) : Res :=
  .next (let k := s.core c
    if s.mayRun c && k.startPending then
      s.setCore c ((({ k with cycles := 0, cut := true, startPending := false }).enter .start
        (BitVec.ofNat 12 (fld k.nstart 0 12)) (w64 (fld k.nstart 32 32))).charge 8)
    else s)

/-- BOUND_EXCESS (R51): an activation whose count exceeds BOUND is cut. -/
def execBoundExcess (c : CoreId) (s : State) : Res :=
  .next (let k := s.core c
    if s.win = .slot ∧ k.act ≠ .idle ∧ k.act ≠ .faultHandler ∧ k.bound < k.cycles then s.cut c 0xE1 k.pc.toNat 0 else s)

end Sys2Proof.Machine
end

