-- ==== Sys2Proof/Machine/Stations.lean ====
section
/-! DEFINITION. Station registers as they read and as a write changes them (R16 to R18), with the
registers that report or command hardware. -/

namespace Sys2Proof.Machine

/-! ## Presence and access -/

/-- Block and offset of a station offset. -/
def stBlock (off : Nat) : Nat := off / 0x10000
def stOff (off : Nat) : Nat := off % 0x10000

/-- The core whose per-core registers a SCHED offset belongs to (R35, R61, R172). -/
def schedCore (o : Nat) : Option CoreId :=
  if 0x1000 ≤ o ∧ o < 0x2000 then some (BitVec.ofNat 6 ((o - 0x1000) / 0x40))
  else if 0x4000 ≤ o ∧ o < 0x8000 then some (BitVec.ofNat 6 ((o - 0x4000) / 0x100))
  else if 0x8000 ≤ o ∧ o < 0xC000 then some (BitVec.ofNat 6 ((o - 0x8000) / 0x100))
  else if 0xC000 ≤ o ∧ o < 0xC200 then some (BitVec.ofNat 6 ((o - 0xC000) / 8))
  else if 0xC800 ≤ o ∧ o < 0xCA00 then some (BitVec.ofNat 6 ((o - 0xC800) / 8))
  else none

/-- Whether the unit behind a station offset is present; the registers of an absent one read 0 and
ignore writes (R5). -/
def State.stPresent (s : State) (off : Nat) : Bool :=
  let b := stBlock off
  let o := stOff off
  if 0x40 ≤ b ∧ b ≤ 0x5F then s.chanPresent (b - 0x40)
  else if b = 0xB then s.cipherPresent
  else if b = 0xD ∧ 0x100 ≤ o ∧ o < 0x200 then s.spanPresent ((o - 0x100) / 0x40)
  else if b = 0xD then (List.range 4).any s.spanPresent
  else if b = 8 ∧ 0x300 ≤ o ∧ o ≤ 0x318 then bit s.presence (48 + (o - 0x300) / 8)
  else if b = 1 then
    match schedCore o with
    | some c => s.corePresent c
    | none => true
  else true

/-- Station address of an offset in the core address map (R58). -/
def stAddr (off : Nat) : Nat := 0xF000000000 + off

/-- Whether an access may be made: a core's checker passes it, or debug access lets JTAG in (R18,
R508). -/
def State.whoOk (s : State) (w : Who) (p : Perm) (off : Nat) : Bool :=
  match w with
  | .core c => s.corePresent c && s.checkOk c p (stAddr off) 8
  | .jtag => bit (s.reg (sta 0x13 0)) 2

/-- Whether an access comes from core 0 in boot mode or in the loader's slots (R163). -/
def State.whoLoader (s : State) (w : Who) : Bool :=
  match w with
  | .core c => decide (c = 0) && (s.bootMode || s.loaderSlot c)
  | .jtag => false

/-! ## Reading -/

/-- The table and slot that SCHED_EPH_SEL names. -/
def State.ephSel (s : State) : CoreId × Bool × Nat :=
  let v := s.reg (sta 1 0)
  (BitVec.ofNat 6 (fld v 8 6), bit v 6, fld v 0 6)

/-- SCHED_CTL.STATE. -/
def RunState.code : RunState → Nat
  | .stopped => 0
  | .running => 1
  | .faulted => 2

/-- Per-core registers at SCHED offset 0x1000 + core × 0x40. -/
def State.coreReg (s : State) (c : CoreId) (o : Nat) : W64 :=
  let k := s.core c
  match o with
  | 0x00 => w64 (b2n k.run + b2n k.swap * 2 + b2n k.actBank * 4 + k.state.code * 8)
  | 0x08 => w64 (k.hostcap.toNat + (k.ring.length + k.classQ.length + k.credits) % 2 ^ 13 * 2 ^ 16 +
      s.hostFill c % 2 ^ 13 * 2 ^ 32)
  | 0x10 => w64 k.faultEntry.toNat
  | 0x18 => w64 (k.peak.toNat + k.defer.toNat * 2 ^ 16 + k.ovr.toNat * 2 ^ 32 + k.bex.toNat * 2 ^ 40 +
      k.lastSlot.toNat * 2 ^ 48 + b2n k.startCut * 2 ^ 54)
  | _ => 0

/-- Registers of the SCHED block: a checker register reads its old value until the boundary (DESIGN CHOICE, log entry
147). -/
def State.schedReg (s : State) (o : Nat) : W64 :=
  match schedCore o with
  | some c =>
    let k := s.core c
    if o < 0x2000 then s.coreReg c ((o - 0x1000) % 0x40)
    else if o < 0x8000 then FMap.get (fun _ => 0) k.chk ((o - 0x4000) % 0x100 / 8)
    else if o < 0xC000 then FMap.get (fun _ => 0) k.nchk ((o - 0x8000) % 0x100 / 8)
    else if o < 0xC200 then w64 k.nfault.toNat
    else k.nstart
  | none =>
    if o = 8 then
      let (c, b, n) := s.ephSel
      FMap.get (fun _ => 0) (if b then (s.core c).ephB else (s.core c).ephA) n
    else s.reg (sta 1 o)

/-- Ring that QENG_RSEL names. -/
def State.ringSel (s : State) : Nat := s.rfld (sta 2 0x100) 0 12

/-- Registers of the HAZ block that report an entry or a mark. -/
def State.hazReg (s : State) (o : Nat) : W64 :=
  let e := s.hazAt (s.rfld (sta 3 0) 0 16)
  match o with
  | 0x08 => (e.map (fun x => x.key)).getD 0
  | 0x10 => (e.map (fun x => w64 (x.count % 2 ^ 17 + b2n x.confirmed * 2 ^ 17 + 2 ^ 18 + x.fsn.toNat * 2 ^ 32))).getD 0
  | 0x18 => (e.map (fun x => x.buf)).getD 0
  | 0x20 => w64 s.haz.length
  | 0x120 =>
    let n := s.rfld (sta 3 0x118) 0 56
    let w := b2n (s.inWindow n) * 32
    match s.markOf n with
    | some m => w64 (1 + b2n m.p * 2 + m.rem % 8 * 4 + w)
    | none => w64 w
  | _ => s.reg (sta 3 o)

/-- Registers of the TUN block. -/
def State.tunReg (s : State) (o : Nat) : W64 :=
  let cls := s.rfld (sta 4 0x300) 0 6
  let p := s.rfld (sta 4 0x300) 8 3
  if 0x200 ≤ o ∧ o < 0x228 then
    let q := (o - 0x200) / 8
    w64 (s.partFree q false % 2 ^ 17 + s.partFree q true % 2 ^ 28 * 2 ^ 20)
  else if o = 0x308 then w64 (s.minOf cls p false % 2 ^ 17 + s.minOf cls p true % 2 ^ 28 * 2 ^ 20)
  else if o = 0x310 then w64 (s.heldBy cls p false % 2 ^ 17 + s.heldBy cls p true % 2 ^ 28 * 2 ^ 20)
  else s.reg (sta 4 o)

/-- Namespace that MAPW_NSSEL names. -/
def State.nsSel (s : State) : Nat := s.rfld (sta 5 0x100) 0 13

/-- Registers of the MAPW block. -/
def State.mapwReg (s : State) (o : Nat) : W64 :=
  let c := s.nsAt s.nsSel
  match o with
  | 0x08 => w64 ((s.ns.filter (fun p => p.2.kind ≠ 0)).length % 2 ^ 13 +
      (s.reqs.filter (fun r => decide (r.unit = 0x42) && decide (r.phase = .waiting))).length % 2 ^ 16 * 2 ^ 32)
  | 0x108 => c.cfg
  | 0x110 => c.base
  | 0x118 => c.cap
  | 0x120 => c.zone
  | 0x128 => c.metaBase
  | 0x130 => c.mcnt
  | _ => s.reg (sta 5 o)

/-- Registers of the ALM block (R539, R544, R360). -/
def State.almReg (s : State) (o : Nat) : W64 :=
  match o with
  | 0x00 => w64 (s.alm.held % 2 ^ 21 + b2n (decide (almSlots ≤ s.alm.held)) * 2 ^ 21 + b2n s.alm.rdy * 2 ^ 22 +
      s.alm.queue.length % 32 * 2 ^ 23)
  | 0x08 => w64 (s.alm.oldest % 2 ^ 32)
  | 0x10 => w64 (s.alm.next % 2 ^ 32)
  | 0x18 => w64 (s.alm.rmark % 2 ^ 32)
  | 0x20 => w64 s.alm.lost
  | 0x28 => w64 (s.alm.pcyc % 2 ^ 32)
  | 0x30 => w64 (s.alm.optime % 2 ^ 48)
  | _ => if 0x8000 ≤ o ∧ o < 0x8800 then FMap.get (fun _ => 0) s.health ((o - 0x8000) / 8) else 0

/-- A share register as written; the boundary makes it count (R488). -/
def State.shareReg (s : State) (o : Nat) : W64 :=
  if o = 0x10 then setBit (s.reg (sta 0x15 0x10)) 13 (s.resets.any (fun r => decide (r.srst = 1)))
  else match s.regPend.find? (fun p => p.1 = sta 0x15 o) with
    | some p => p.2
    | none => s.reg (sta 0x15 o)

/-- DRAM_TDLY of a lane: what was written to it last; what training wrote is a free value (R447, DESIGN CHOICE, log entry
134). -/
def State.laneDelay (s : State) (lane : Nat) : W64 :=
  match s.tdly.find? (fun p => p.1 = lane), s.dr.delays with
  | some p, _ => p.2
  | none, some b => Config.freeWord (b + lane) &&& 0x3FFFFF
  | none, none => 0

/-- The fields of a register that count what no row reports, that a running copy moves, or that show the level at an input
(R215, R442, R452, R457, R471, R578): free values (DESIGN CHOICE, log entry 141).  Width and place of each. -/
def State.openFields (s : State) (off : Nat) : List (Nat × Nat) :=
  if off = sta 8 8 then [(0, 32)]
  else if off = sta 8 0x18 ∧ bit (s.reg off) 1 then [(16, 32)]
  else if off = sta 9 8 then [(0, 32), (32, 16)]
  else if sta 8 0x200 ≤ off ∧ off < sta 8 0x240 then [(16, 16), (32, 16)]
  else if off = sta 0x16 0x100 then ((List.range 16).filter (fun g => !bit (s.reg off) (16 + g))).map (fun g => (32 + g, 1))
  else if s.boot.strapped ∧ sta 0x14 0x100 ≤ off ∧ off < sta 0x14 0x200 ∧ off % 0x40 = 0 then [(32, 16)]
  else []

/-- The value of a station register whose reading changes nothing. -/
def State.stView (s : State) (off : Nat) : W64 :=
  let b := stBlock off
  let o := stOff off
  match b with
  | 0x00 => if o = 8 then s.tick else s.reg off
  | 0x01 => s.schedReg o
  | 0x02 =>
    let r := s.ringAt s.ringSel
    if o = 0x108 then w64 (r.cap + r.base * 2 ^ 24) else if o = 0x110 then w64 r.vals.length else s.reg off
  | 0x03 => s.hazReg o
  | 0x04 => s.tunReg o
  | 0x05 => s.mapwReg o
  | 0x07 => if o = 0 then w64 (((List.range 4).map (fun i => b2n (s.bankOn i) * 2 ^ i)).sum) else s.reg off
  | 0x08 => if o = 0x108 then s.laneDelay (s.rfld (sta 8 0x100) 0 12) else s.reg off
  | 0x0B =>
    if o = 0 then setFld (s.reg off) 16 14 (s.vault.filter (fun p => decide (p.1 < generalSlots) && p.2.isSome)).length
    else if o = 0x10 then s.slotStatus (s.rfld (sta 0xB 8) 0 13)
    else s.reg off
  | 0x0F => if o = 0x18 then setFld (s.reg off) 16 16 s.pkgMaxField else s.reg off
  | 0x10 => s.almReg o
  | 0x15 => s.shareReg o
  | 0x16 => if o = 0x100 then setFld (s.reg off) 32 16 (fld (s.reg off) 0 16 &&& fld (s.reg off) 16 16) else s.reg off
  | _ =>
    if 0x40 ≤ b ∧ b ≤ 0x5F ∧ o = 8 then setFld (s.reg off) 16 10 (s.chanVerbs (b - 0x40)).length else s.reg off

/-- A register read with free values in its open fields. -/
def State.openRead (s : State) (off : Nat) : W64 × State :=
  (s.openFields off).foldl (fun (a : W64 × State) p =>
    let (f, s) := a.2.takeFree
    (setFld a.1 p.1 p.2 (fld f p.1 p.2), s)) (s.stView off, s)

/-! ## The pattern store's read port -/

def patCmd : Nat := sta 0x11 0
def patStat : Nat := sta 0x11 0x10
def patRaddr : Nat := sta 0x11 0x18

/-- The status word that a read of the busy die returns (R551): pulses so far are a free value. -/
def State.patStatus (s : State) : W64 × State :=
  let (f, s) := s.takeFree
  match s.pat.op with
  | some (erase, a) => (w64 ((if erase then 2 else 1) + fld f 0 6 * 4 + a * 2 ^ 16 + 0x5057 * 2 ^ 48), s)
  | none => (0, s)

/-- A word of the NOR array; a page in an unknown state reads free values (R548, R553). -/
def State.norWord (s : State) (a : Nat) : W64 × State :=
  if FMap.get (fun _ => false) s.norUnk (a / 512) then s.takeFree
  else (w64 (ofBytes (FMap.getList norByte s.nor a 8)), s)

/-- A read of PAT_RDATA (R551). -/
def State.patRead (s : State) : W64 × State :=
  if s.pat.op.isSome then
    let (w, s) := s.patStatus
    (w, s.setRfld patStat 2 1 1)
  else
    let a := s.rfld patRaddr 3 24 * 8
    let (w, s) := s.norWord a
    (w, (s.setRfld patStat 2 1 0).setRfld patRaddr 3 24 (a / 8 + 1))

/-- A read of a station register (R17): its value, and what the reading changes.  The pulses of a pattern-store operation in
progress are a free value (DESIGN CHOICE, log entry 83). -/
def State.stRead (s : State) (off : Nat) : W64 × State :=
  if off % 8 ≠ 0 ∨ !s.stPresent off then (0, s)
  else if off = sta 0 0x10 then s.cycleNow
  else if off = sta 0x11 0x20 then s.patRead
  else if off = patStat ∧ s.pat.op.isSome then
    let (f, s) := s.takeFree
    (setFld (s.reg off) 8 6 (fld f 0 6), s)
  else s.openRead off

/-! ## Writing -/

/-- The plain write of a register: its rw, w1c and w1s bits (R16). -/
def State.plainWrite (s : State) (off : Nat) (v : W64) : State :=
  match findReg off with
  | some r => s.setReg off (r.apply (s.reg off) v)
  | none => s

/-- RUN rises: the ephemeris runs from the next tick, its first tick a start activation when
SCHED_NSTART.EN is 1 (R52, R173). -/
def Core.start (k : Core) : Core :=
  if k.run then k else { k with run := true, state := .running, startPending := true, cut := true }

/-- A write of SCHED_CTL (R35, R52, R163). -/
def State.writeSchedCtl (s : State) (loader : Bool) (c : CoreId) (v : W64) : State :=
  let k := s.core c
  let k := if bit v 5 && decide (k.state = .faulted) then { k with state := .stopped, run := false } else k
  let k := if bit v 0 then (if k.state = .faulted then { k with run := true } else k.start)
    else { k with run := false, state := if k.state = .running then .stopped else k.state }
  s.setCore c (if loader && bit v 1 then { k with swap := true } else k)

/-- A write of one slot word, ignored in the active table (R35). -/
def State.writeEph (s : State) (v : W64) : State :=
  let (c, b, n) := s.ephSel
  let k := s.core c
  if k.actBank = b ∨ !s.corePresent c then s
  else s.setCore c (if b then { k with ephB := FMap.set (fun _ => 0) k.ephB n v }
    else { k with ephA := FMap.set (fun _ => 0) k.ephA n v })

/-- The fields of a checker register (R61). -/
def chkMask (limit : Bool) (v : W64) : W64 := v &&& (if limit then 0x00FFFFFFFFFFFFCF else 0x00FFFFFFFFFFFFC0)

/-- SCHED_HOVMASK: SWAP is set on every core of the mask (R172). -/
def State.writeHovmask (s : State) (v : W64) : State :=
  (s.presentCores.filter (fun c => bit v c.toNat)).foldl (fun (s : State) c => s.setCore c { s.core c with swap := true }) s

/-- A write of a SCHED register. -/
def State.writeSched (s : State) (loader : Bool) (o : Nat) (v : W64) : State :=
  match schedCore o with
  | some c =>
    let k := s.core c
    if o < 0x2000 then
      match (o - 0x1000) % 0x40 with
      | 0x00 => s.writeSchedCtl loader c v
      | 0x08 => if 4096 < fld v 0 13 then s else s.setCore c { k with hostcap := BitVec.ofNat 13 (fld v 0 13) }
      | 0x10 => if loader then s.setCore c { k with faultEntry := BitVec.ofNat 12 (fld v 0 12) } else s
      | 0x18 => if bit v 63 then s.setCore c { k with peak := 0, defer := 0, ovr := 0, bex := 0 } else s
      | _ => s
    else if o < 0x8000 then
      let i := (o - 0x4000) % 0x100 / 8
      s.setCore c { k with chkPend := FMap.insert k.chkPend i (chkMask (i % 2 = 1) v) }
    else if o < 0xC000 then
      let i := (o - 0x8000) % 0x100 / 8
      s.setCore c { k with nchk := FMap.set (fun _ => 0) k.nchk i (chkMask (i % 2 = 1) v) }
    else if o < 0xC200 then s.setCore c { k with nfault := BitVec.ofNat 12 (fld v 0 12) }
    else s.setCore c { k with nstart := v &&& 0xFFFFFFFFFFFF1FFF }
  | none =>
    match o with
    | 0x08 => s.writeEph v
    | 0x10 => if 8 ≤ fld v 0 11 ∧ fld v 0 11 ≤ 1024 then s.plainWrite (sta 1 o) v else s
    | 0x18 => s.writeHovmask v
    | _ => s.plainWrite (sta 1 o) v

/-- A write of QENG_RCFG (R96). -/
def State.writeRcfg (s : State) (v : W64) : State :=
  let i := s.ringSel
  let cap := fld v 0 17
  let base := fld v 24 17
  if !(s.ringAt i).vals.isEmpty ∨ 65536 < cap ∨ 131072 < base + cap ∨
    decide (0 < cap) && s.rings.any (fun p => decide (p.1 ≠ i) && decide (0 < p.2.cap) && decide (base < p.2.base + p.2.cap) &&
      decide (p.2.base < base + cap)) then s
  else s.setRing i { cap := cap, base := base, vals := [] }

/-- Offset and size of the extension parts against the limits of R479, given the counts. -/
def State.tunBroken (s : State) : Bool :=
  let on := ((List.range 5).map (fun p => s.poolCount p false * poolSize p)).sum
  let ext := ((List.range 5).map (fun p => s.poolCount p true * poolSize p)).sum
  let x := s.rfld (sta 4 8) 30 9 * 2 ^ 30
  decide (0x2000000 < on) || decide (2 ^ 36 < ext) || (decide (0 < ext) && (decide (x = 0) || decide (s.dramSize < x + ext)))

/-- A write of TUN_MIN, refused when the minima of a part would exceed its count (R480). -/
def State.writeTunMin (s : State) (v : W64) : State :=
  let cls := s.rfld (sta 4 0x300) 0 6
  let p := s.rfld (sta 4 0x300) 8 3
  let key (c : Nat) (e : Bool) : Nat := c * 16 + p * 2 + b2n e
  let pend (k : Nat) : Nat := match s.tunMinPend.reverse.find? (fun x => x.1 = k) with
    | some x => x.2
    | none => FMap.get (fun _ => 0) s.tunMin k
  let total (e : Bool) (n : Nat) : Nat :=
    ((List.range 64).map (fun c => if c = cls then n else pend (key c e))).sum
  if 4 < p ∨ s.poolCount p false < total false (fld v 0 17) ∨ s.poolCount p true < total true (fld v 20 28) then s
  else s.putTunMinPend (s.tunMinPend ++ [(key cls false, fld v 0 17), (key cls true, fld v 20 28)])

/-- A write of a TUN register: counts and base are fixed by LOCK, and a base never lies in the loader's
area (R151, R479).  A configuration that breaks a limit when LOCK fixes it leaves every count 0. -/
def State.writeTun (s : State) (o : Nat) (v : W64) : State :=
  let locked := bit (s.reg (sta 4 0)) 0
  if o = 0 then
    if bit v 0 ∧ !locked ∧ s.tunBroken then
      ((List.range 5).foldl (fun (s : State) p => s.setReg (sta 4 (0x100 + 8 * p)) 0) s).plainWrite (sta 4 0) v
    else s.plainWrite (sta 4 0) v
  else if o = 8 then if locked ∨ fld v 30 9 = 0 then s else s.plainWrite (sta 4 8) v
  else if 0x100 ≤ o ∧ o < 0x128 then if locked then s else s.plainWrite (sta 4 o) v
  else if o = 0x308 then s.writeTunMin v
  else s.plainWrite (sta 4 o) v

/-- The state with the selected namespace's registers changed. -/
def State.setNs (s : State) (n : Nat) (c : NsCfg) : State := s.putNs (FMap.set nsReset s.ns n c)

/-- Whether a base register's value places a table in the loader's DRAM area (R151). -/
def baseInArea (v : W64) : Bool := decide (fld v 6 33 * 64 < 0x4000000)

/-- A write of a MAPW register (R116, R151). -/
def State.writeMapw (s : State) (o : Nat) (v : W64) : State :=
  let n := s.nsSel
  let c := s.nsAt n
  let sel := decide (1 ≤ n) && decide (n ≤ 4096)
  match o with
  | 0x100 => if 1 ≤ fld v 0 13 ∧ fld v 0 13 ≤ 4096 then s.plainWrite (sta 5 o) v else s
  | 0x108 => if sel ∧ fld v 0 3 ≤ 4 then s.setNs n { c with cfg := w64 (fld v 0 4) } else s
  | 0x110 => if sel && !baseInArea v then s.setNs n { c with base := w64 (fld v 6 33 * 64) } else s
  | 0x118 => if sel then s.setNs n { c with cap := w64 (fld v 0 48) } else s
  | 0x120 => if sel then s.setNs n { c with zone := w64 (fld v 0 19 + fld v 20 25 * 2 ^ 20) } else s
  | 0x128 => if sel && !baseInArea v then s.setNs n { c with metaBase := w64 (fld v 6 33 * 64) } else s
  | 0x130 => if sel then s.setNs n { c with mcnt := w64 (fld v 0 48) } else s
  | _ => s.plainWrite (sta 5 o) v

/-- LDPC_CTL.CLR: every counter (R329). -/
def State.clearLdpc (s : State) : State :=
  s.putRegs (s.regs.filter (fun p => !(decide (sta 7 0x100 ≤ p.1) && decide (p.1 < sta 7 0x180))))

/-- Whether no command is outstanding on any controller. -/
def State.noCommands (s : State) : Bool := s.cmds.all (fun d => !d.unsettled)

/-- A write of DRAM_FCHG (R454): accepted while no command is outstanding, or while the host station's
dome changes state, unless a migration runs or set B is usable nowhere. -/
def State.writeFchg (s : State) (v : W64) : State :=
  let old := s.reg (sta 8 0x10)
  if bit old 0 then s.setReg (sta 8 0x10) (setFld old 3 2 (fld old 3 2 &&& ((3 : Nat) ^^^ fld v 3 2)))
  else
    let s := s.plainWrite (sta 8 0x10) v
    if !bit v 0 then s
    else if (s.noCommands || s.domeBusy 1) && !bit (s.reg (sta 8 0x18)) 1 && (!bit v 1 || bit (s.reg (sta 8 0x10)) 5) then s
    else (s.setRfld (sta 8 0x10) 0 1 0).setRfld (sta 8 0x10) 4 1 1

/-- A write of a DRAM register: the training helpers only in boot mode (R447), port targets from the
next boundary (R452). -/
def State.writeDram (s : State) (o : Nat) (v : W64) : State :=
  if 0x100 ≤ o ∧ o < 0x128 then
    if !s.bootMode then s
    else if o = 0x108 then
      s.putTdly (FMap.insert s.tdly (s.rfld (sta 8 0x100) 0 12) (w64 (fld v 0 22)))
    else if o = 0x118 then
      let s := s.plainWrite (sta 8 o) v
      if s.rfld (sta 8 o) 8 16 = 0 then s.setRfld (sta 8 o) 0 1 0 else s
    else s.plainWrite (sta 8 o) v
  else if o = 8 then if bit v 63 then s.setReg (sta 8 8) 0 else s
  else if o = 0x10 then s.writeFchg v
  else if 0x200 ≤ o ∧ o < 0x240 then
    if 50 ≤ fld v 0 16 then s.putRegPend (FMap.insert s.regPend (sta 8 o) (w64 (fld v 0 16))) else s
  else s.plainWrite (sta 8 o) v

/-- A write of INGOT_LTAIL (R473). -/
def State.writeLtail (s : State) (v : W64) : State :=
  let x := fld v 0 27
  let ring := logSize - 64
  let dist (a : Nat) : Nat := (a + ring - s.ltail) % ring
  if x % 64 ≠ 0 ∨ x < 64 ∨ logSize ≤ x ∨ dist s.lhead < dist x then s
  else
    let s := s.setRfld (sta 9 0x18) 0 27 x
    s.putIngot (wrNum s.ingot (logBase + 8) 8 x)

/-- A write of PAT_CMD (R552, R554). -/
def State.writePatCmd (s : State) (v : W64) : State :=
  let op := fld v 0 2
  let a := s.rfld (sta 0x11 8) 0 27
  let boot := decide (a / 0x40000 < 32)
  if s.pat.op.isSome ∨ (boot && !s.bootMode && !bit (s.reg (sta 0x13 0)) 2) then s.setRfld patStat 3 1 1
  else
    let s := s.setReg patCmd (w64 op)
    if bit v 2 && (decide (op = 1) || decide (op = 2)) && !s.boot.pwrFail then
      let s := s.putPat { s.pat with op := some (decide (op = 2), a) }
      ((s.setRfld patCmd 2 1 1).setRfld patStat 0 1 1).setRfld patStat 8 6 0
    else s

/-- A write of PAT_XCTL (R550, R551). -/
def State.writePatXctl (s : State) (v : W64) : State :=
  let s := s.plainWrite (sta 0x11 0x40) v
  let len := fld v 0 20
  if bit v 20 ∧ s.pat.bulk.isNone then
    if len = 0 ∨ 786432 < len then s.setRfld (sta 0x11 0x40) 20 1 0
    else s.putPat { s.pat with
      bulk := some (s.rfld (sta 0x11 0x30) 6 21 * 64, s.rfld (sta 0x11 0x38) 6 33 * 64, len, s.pat.op.isSome) }
  else s

/-- A write of a PAT register. -/
def State.writePat (s : State) (o : Nat) (v : W64) : State :=
  if o = 0 then s.writePatCmd v
  else if o = 0x28 then if fld v 0 2 = 3 then s else s.plainWrite (sta 0x11 o) v
  else if o = 0x40 then s.writePatXctl v
  else if 0x200 ≤ o ∧ o < 0x400 then
    if s.pat.op.isSome then s.setRfld patStat 3 1 1 else s.plainWrite (sta 0x11 o) v
  else s.plainWrite (sta 0x11 o) v

/-- Whether a scrub of the selected range may start: the range rises and touches no active
instruction bank (R465). -/
def State.scrubOk (s : State) (arr first last : Nat) : Bool :=
  decide (first ≤ last) &&
  (decide (64 ≤ arr) ||
    let k := s.core (BitVec.ofNat 6 arr)
    if k.actBank then decide (last < 4096) else decide (4096 ≤ first))

/-- A write of RAS_SCRB (R465). -/
def State.writeScrb (s : State) (v : W64) : State :=
  let s := s.setReg (sta 0x12 0x300) (w64 (fld v 0 56))
  if bit v 56 && s.scrub.isNone && s.scrubOk (fld v 0 8) (fld v 8 24) (fld v 32 24) then
    (s.setReg (sta 0x12 0x308) 1).putScrub (some (fld v 0 8, fld v 8 24, fld v 32 24))
  else s

/-- A write of a RAS register. -/
def State.writeRas (s : State) (o : Nat) (v : W64) : State :=
  if o = 0 then if fld v 0 8 = 0 then s else s.plainWrite (sta 0x12 o) v
  else if o = 0x300 then s.writeScrb v
  else s.plainWrite (sta 0x12 o) v

/-- Whether a queue belongs to a slice. -/
def State.sliceUsed (s : State) (n : Nat) : Bool :=
  s.sqs.any (fun p => match p.2 with
    | some q => decide (q.slice = some n)
    | none => false) ||
  s.cqs.any (fun p => match p.2 with
    | some q => decide (q.slice = some n)
    | none => false)

/-- A write of a slice entry, refused as R485 gives. -/
def State.writeSlice (s : State) (n : Nat) (v : W64) : State :=
  let off := 0x8000 + 8 * n
  let old := s.shareReg off
  let twice := bit v 31 && (List.range 4096).any (fun i => decide (i ≠ n) &&
    let x := s.shareReg (0x8000 + 8 * i)
    bit x 31 && decide (fld x 0 31 = fld v 0 31))
  let moved := s.sliceUsed n && bit old 31 && (!bit v 31 || decide (fld old 0 31 ≠ fld v 0 31))
  if twice || moved then s else s.putRegPend (FMap.insert s.regPend (sta 0x15 off) v)

/-- A program reports that it has settled the reset with a token (R489, R492). -/
def State.reportReset (s : State) (tok : Nat) : State :=
  s.putResets (s.resets.map (fun r => if r.token.toNat = tok then { r with reported := true } else r))

/-- A write that starts a slice reset (R489); a slice's function is the one its entry names. -/
def State.sliceReset (s : State) (busy : Bool) (slice who : Nat) : State :=
  if busy then s
  else s.startReset 2 (fld (s.reg (sta 0x15 (0x8000 + 8 * slice))) 20 11) (some slice) who

/-- A write of a SHARE register. -/
def State.writeShare (s : State) (o : Nat) (v : W64) : State :=
  if o = 8 then s.reportReset (fld v 0 15)
  else if o = 0x10 then
    let busy := s.resets.any (fun r => decide (r.srst = 1))
    let s := s.setReg (sta 0x15 0x10) (w64 (fld v 0 12))
    if bit v 12 then s.sliceReset busy (fld v 0 12) 1 else s
  else if 0x1000 ≤ o ∧ o < 0x5000 then s.putRegPend (FMap.insert s.regPend (sta 0x15 o) (w64 (fld v 0 32)))
  else if 0x8000 ≤ o then s.writeSlice ((o - 0x8000) / 8) v
  else s.plainWrite (sta 0x15 o) v

/-- A write of a channel's register (R305). -/
def State.writeChan (s : State) (off : Nat) (v : W64) : State :=
  let o := stOff off
  let bootOnly := (decide (0x100 ≤ o) && decide (o < 0x120)) || (decide (0x600 ≤ o) && decide (o < 0x6C0)) ||
    (decide (0x1000 ≤ o) && decide (o < 0x3000))
  if o = 8 then if bit v 63 then s.setRfld off 8 8 0 else s
  else if bootOnly && !s.bootMode then s
  else s.plainWrite off v

/-- A write of a Span register. -/
def State.writeSpan (s : State) (o : Nat) (v : W64) : State :=
  if o = 8 then if fld v 0 20 < 1000 then s else s.plainWrite (sta 0xD o) v
  else if o = 0x10 then if 8 ≤ fld v 0 9 ∧ fld v 0 9 ≤ 256 then s.plainWrite (sta 0xD o) v else s
  else if 0x100 ≤ o ∧ o < 0x200 ∧ o % 0x40 = 0 then
    if bit v 63 then ((s.setRfld (sta 0xD o) 32 16 0).setRfld (sta 0xD o) 48 15 0).setReg (sta 0xD (o + 0x10)) 0 else s
  else s.plainWrite (sta 0xD o) v

/-- A write of a THERM register (R529). -/
def State.writeTherm (s : State) (o : Nat) (v : W64) : State :=
  if o = 8 then
    let t := tempInt (fld v 32 16)
    if 150 * 16 ≤ t ∧ t ≤ 160 * 16 then s.plainWrite (sta 0xF o) v
    else s.plainWrite (sta 0xF o) (setFld v 32 16 (s.rfld thermThr 32 16))
  else if o = 0x10 then s.setGap (fld v 0 4) (s.rfld thermGap 4 4)
  else if 0x200 ≤ o ∧ o < 0xA00 then s.pkgWrite ((o - 0x200) / 8) v
  else s.plainWrite (sta 0xF o) v

/-- A write of a TIME register (R24). -/
def State.writeTime (s : State) (o : Nat) (v : W64) : State :=
  if o = 0 then
    if bit (s.reg 0) 8 then s
    else s.plainWrite 0 (if fld v 0 2 = 3 then setFld v 0 2 s.sel else v)
  else s.plainWrite o v

/-- A write of a station register (R16, R17); `loader` says whether core 0 makes it in boot mode or in
the loader's slots. -/
def State.stWrite (s : State) (loader : Bool) (off : Nat) (v : W64) : State :=
  let b := stBlock off
  let o := stOff off
  if off % 8 ≠ 0 ∨ !s.stPresent off then s
  else if 0x40 ≤ b ∧ b ≤ 0x5F then s.writeChan off v
  else match b with
  | 0x00 => s.writeTime o v
  | 0x01 => s.writeSched loader o v
  | 0x02 => if o = 0x108 then s.writeRcfg v else s.plainWrite off v
  | 0x03 =>
    if o = 0x110 then if max s.wsn (s.wsnFloor.getD 0) < fld v 0 56 then s.putWsnFloor (some (fld v 0 56)) else s
    else if o = 0x128 then if bit v 63 then s.setReg off 0 else s
    else s.plainWrite off v
  | 0x04 => s.writeTun o v
  | 0x05 => s.writeMapw o v
  | 0x07 => if o = 8 then (if bit v 0 then s.clearLdpc else s) else s.plainWrite off v
  | 0x08 => s.writeDram o v
  | 0x09 => if o = 0x18 then s.writeLtail v else s.plainWrite off v
  | 0x0D => s.writeSpan o v
  | 0x0F => s.writeTherm o v
  | 0x11 => s.writePat o v
  | 0x12 => s.writeRas o v
  | 0x13 => if o = 8 then (if bit v 0 then s.setRfld (sta 0x13 0) 0 1 0 else s) else s.plainWrite off v
  | 0x14 => if 0x100 ≤ o ∧ bit v 63 then s.setRfld off 32 16 0 else s.plainWrite off v
  | 0x15 => s.writeShare o v
  | _ => s.plainWrite off v

/-! ## Commands that write registers -/

/-- A register write by a core or the debug port; one that its checker or the debug state refuses
leaves the state as it stands. -/
def State.whoWrite (s : State) (w : Who) (off : Nat) (v : W64) : State :=
  if s.whoOk w .wr off then s.stWrite (s.whoLoader w) off v else s

def execRegisterWrite (w : Who) (off : BitVec 24) (v : W64) (s : State) : Res := .next (s.whoWrite w off.toNat v)

/-- TIME_PERIOD_WRITE (R24): SEL alone. -/
def execTimePeriodWrite (w : Who) (v : W64) (s : State) : Res := .next (s.whoWrite w 0 (w64 (fld v 0 2)))

/-- TIME_PERIOD_LOCK (R24). -/
def execTimePeriodLock (w : Who) (s : State) : Res := .next (s.whoWrite w 0 (w64 (s.sel + 2 ^ 8)))

/-- PLL_SLIP: the core PLL loses lock (R26): no rule sets PLLOK again before power-up (DESIGN CHOICE, log entry 145). -/
def execPllSlip (s : State) : Res :=
  .next (((s.setRfld (sta 0 0x18) 0 1 0).setRfld (sta 0 0x18) 1 1 1).almRecord 0x10 [s.tick, 0, 0, 0, 0])

/-- Offset of a per-core SCHED register. -/
def ctlOff (c : CoreId) (o : Nat) : Nat := sta 1 (0x1000 + 0x40 * c.toNat + o)

def execSchedCtlRun (w : Who) (c : CoreId) (run : Bool) (s : State) : Res := .next (s.whoWrite w (ctlOff c 0) (w64 (b2n run)))

/-- SCHED_CTL_SWAP: SWAP is set and RUN stays (R35). -/
def execSchedCtlSwap (w : Who) (c : CoreId) (s : State) : Res :=
  .next (s.whoWrite w (ctlOff c 0) (w64 (b2n (s.core c).run + 2)))

/-- SCHED_CTL_RESUME (R52). -/
def execSchedCtlResume (w : Who) (c : CoreId) (run : Bool) (s : State) : Res :=
  .next (s.whoWrite w (ctlOff c 0) (w64 (b2n run + 2 ^ 5)))

def execSchedStatClear (w : Who) (c : CoreId) (s : State) : Res := .next (s.whoWrite w (ctlOff c 0x18) (w64 (2 ^ 63)))

def execSchedEphDataWrite (w : Who) (v : W64) (s : State) : Res := .next (s.whoWrite w (sta 1 8) v)

def execSchedHovmaskWrite (w : Who) (mask : W64) (s : State) : Res := .next (s.whoWrite w (sta 1 0x18) mask)

def execSchedFaultWrite (w : Who) (c : CoreId) (v : W64) (s : State) : Res := .next (s.whoWrite w (ctlOff c 0x10) v)

/-- CHECKER_REGION_WRITE (R62). -/
def execCheckerRegionWrite (w : Who) (c : CoreId) (n : BitVec 4) (limit : Bool) (v : W64) (s : State) : Res :=
  .next (s.whoWrite w (sta 1 (0x4000 + 0x100 * c.toNat + 0x10 * n.toNat + 8 * b2n limit)) v)

def execQengRcfgWrite (w : Who) (v : W64) (s : State) : Res := .next (s.whoWrite w (sta 2 0x108) v)

def execHazWsnfloorWrite (w : Who) (v : W64) (s : State) : Res := .next (s.whoWrite w (sta 3 0x110) v)

/-- WSN_FLOOR_RAISE: the bound is durable and the counter stands at the floor (R199). -/
def execWsnFloorRaise (s : State) : Res :=
  .next (match s.wsnFloor with
    | none => s
    | some f =>
      let b := min (max (s.rfld hazWsnRes 0 56) (f + 2 ^ 24)) wsnMax
      let s := (s.setRfld hazWsnRes 0 56 b).setRfld hazWsn 0 56 (max s.wsn f)
      ((s.putIngot (wrNum s.ingot reserveWord 8 b)).putWsnFloor none))

def execIngotLtailWrite (w : Who) (v : W64) (s : State) : Res := .next (s.whoWrite w (sta 9 0x18) v)

def execTunMinWrite (w : Who) (v : W64) (s : State) : Res := .next (s.whoWrite w (sta 4 0x308) v)

def execTunCtlLock (w : Who) (s : State) : Res := .next (s.whoWrite w (sta 4 0) 1)

def execDramFchgGo (w : Who) (v : W64) (s : State) : Res :=
  .next (s.whoWrite w (sta 8 0x10) (setBit v 0 true))

/-- FREQUENCY_CHANGE_DONE (R454). -/
def execFrequencyChangeDone (s : State) : Res :=
  .next (let v := s.reg (sta 8 0x10)
    if bit v 0 then s.setReg (sta 8 0x10) (setFld (setFld (setBit v 0 false) 2 1 (fld v 1 1)) 3 1 1) else s)

def execDramTrunGo (w : Who) (v : W64) (s : State) : Res := .next (s.whoWrite w (sta 8 0x118) (setBit v 0 true))

/-- TRAINING_RUN_DONE (R447). -/
def execTrainingRunDone (fail : BitVec 40) (count : BitVec 24) (s : State) : Res :=
  .next (if bit (s.reg (sta 8 0x118)) 0 then
      (s.setRfld (sta 8 0x118) 0 1 0).setReg (sta 8 0x120) (w64 (fail.toNat + count.toNat * 2 ^ 40))
    else s)

def execDramPortTargetWrite (w : Who) (n : BitVec 3) (v : W64) (s : State) : Res :=
  .next (s.whoWrite w (sta 8 (0x200 + 8 * n.toNat)) v)

def execScrubStart (w : Who) (v : W64) (s : State) : Res := .next (s.whoWrite w (sta 0x12 0x300) (setBit v 56 true))

/-- Every word of a range is read, and a word with one bad bit is written back corrected (R463, R465). -/
def State.scrubRange (s : State) (arr first last : Nat) : State :=
  let s := s.sramRead arr first (last + 1 - first)
  s.putSramErr (s.sramErr.filter (fun p =>
      !(decide (sramKey arr first ≤ p.1) && decide (p.1 ≤ sramKey arr last) && decide (p.2 = 1))))

/-- A word that still fails after its write-back keeps its bad bit. Under the resident set it leaves an almanac record,
and the tundish buffer or frame buffer slot that contains it is held back from use until power-up (R467, DEDUCED, log
entry 159). -/
def State.stuckWord (s : State) (arr w : Nat) : State :=
  let s := (s.putSramErr (FMap.set (fun _ => 0) s.sramErr (sramKey arr w) 1)).residentRecord [w64 arr, w64 w]
  if (arr = 0x88 ∨ (0x90 ≤ arr ∧ arr < 0xB0)) ∧ ¬ s.heldBack.contains (arr, w) then s.putHeldBack (s.heldBack ++ [(arr, w)]) else s

/-- SCRUB_DONE (R465, R467): `corr` words were corrected and written back, and the words `stuck` of the range still fail.  A
word with two bad bits ends the scrub in a fault reset. -/
def execScrubDone (corr : BitVec 24) (stuck : List (BitVec 24)) (s : State) : Res :=
  .next (match s.scrub with
    | none => s
    | some (arr, first, last) =>
      let bad := ((stuck.map (·.toNat)).eraseDups).filter (fun w => decide (first ≤ w) && decide (w ≤ last))
      let s := (s.putScrub none : State).scrubRange arr first last
      let s := s.setReg (sta 0x12 0x308) (w64 (corr.toNat * 2 + min bad.length 0xFFFF * 2 ^ 25))
      if s.boot.down then s else (bad.foldl (fun (s : State) w => s.stuckWord arr w) s).rasEvent 5 (arr % 256))

def execShareRdoneWrite (w : Who) (v : W64) (s : State) : Res := .next (s.whoWrite w (sta 0x15 8) v)

def execSliceReset (w : Who) (v : W64) (s : State) : Res := .next (s.whoWrite w (sta 0x15 0x10) (setBit v 12 true))

def execShareSliceWrite (w : Who) (n : BitVec 12) (v : W64) (s : State) : Res :=
  .next (s.whoWrite w (sta 0x15 (0x8000 + 8 * n.toNat)) v)

def execThermPkgWrite (w : Who) (n : BitVec 8) (v : W64) (s : State) : Res :=
  .next (s.whoWrite w (sta 0xF (0x200 + 8 * n.toNat)) v)

/-- SEC_BMEXIT_WRITE (R574). -/
def execSecBmexitWrite (w : Who) (v : W64) (s : State) : Res := .next (s.whoWrite w (sta 0x13 8) v)

/-! ## The mediation window (R483) -/

/-- Device slice of a port's slice. -/
def State.portSlice (s : State) (f n : Nat) : Nat := s.portOf f * (4096 / max 1 s.hostPorts) + n

/-- Whether a function belongs to the port of another. -/
def State.samePort (s : State) (f g : Nat) : Bool := decide (s.portOf f = s.portOf g)

/-- Slice selected in a port's window, kept beside the station registers. -/
def windowKey (port : Nat) : Nat := 0x1000000 + 8 * port

/-- Whether a slice reset started in a port's window is in progress. -/
def State.windowBusy (s : State) (f : Nat) : Bool := s.resets.any (fun r => decide (r.srst = s.portOf f + 2))

/-- A read of the window. -/
def State.windowRead (s : State) (f o : Nat) : W64 :=
  let ports := max 1 s.hostPorts
  if o = 0 then s.shareReg 0
  else if o = 0x10 then setBit (s.reg (windowKey (s.portOf f))) 13 (s.windowBusy f)
  else if 0x1000 ≤ o ∧ o < 0x1000 + 8 * s.portFuncs then s.shareReg (0x1000 + 8 * (f + (o - 0x1000) / 8))
  else if 0x8000 ≤ o ∧ o < 0x8000 + 8 * (4096 / ports) then s.shareReg (0x8000 + 8 * s.portSlice f ((o - 0x8000) / 8))
  else 0

/-- A write of the window. -/
def State.windowWrite (s : State) (f o : Nat) (v : W64) : State :=
  let ports := max 1 s.hostPorts
  if o = 0 then s.writeShare 0 v
  else if o = 8 then
    if s.resets.any (fun r => decide (r.token.toNat = fld v 0 15) && s.samePort f r.func) then s.writeShare 8 v else s
  else if o = 0x10 then
    let busy := s.windowBusy f
    let s := s.setReg (windowKey (s.portOf f)) (w64 (fld v 0 12))
    if bit v 12 ∧ fld v 0 12 < 4096 / ports then s.sliceReset busy (s.portSlice f (fld v 0 12)) (s.portOf f + 2) else s
  else if 0x1000 ≤ o ∧ o < 0x1000 + 8 * s.portFuncs then s.writeShare (0x1000 + 8 * (f + (o - 0x1000) / 8)) v
  else if 0x8000 ≤ o ∧ o < 0x8000 + 8 * (4096 / ports) then
    if s.samePort f (fld v 20 11) then s.writeSlice (s.portSlice f ((o - 0x8000) / 8)) v else s
  else s

/-- MEDIATION_WINDOW_ACCESS (R483): a physical function reaches the shares of its port; on a virtual
function the window reads 0 and ignores writes. -/
def execMediationWindowAccess (func : Nat) (off : BitVec 16) (wr : Bool) (v : W64) (s : State) : Res :=
  .next (if !s.funcExists func then s
    else if wr then if s.isPf func ∧ off.toNat % 8 = 0 then s.windowWrite func off.toNat v else s
    else (s.putOut (s.out ++ [Out.window func (if s.isPf func ∧ off.toNat % 8 = 0 then s.windowRead func off.toNat else 0)])))

/-! ## The pattern store (R545 to R554) -/

/-- PAT_PROGRAM: PAT_CMD takes OP 1 and GO. -/
def execPatProgram (w : Who) (s : State) : Res := .next (s.whoWrite w patCmd 5)

/-- PAT_ERASE: PAT_CMD takes OP 2 and GO. -/
def execPatErase (w : Who) (s : State) : Res := .next (s.whoWrite w patCmd 6)

/-- Bytes of the page buffer. -/
def State.pageBuffer (s : State) : List Byte :=
  (List.range 64).flatMap (fun i => toBytes 8 (s.reg (sta 0x11 (0x200 + 8 * i))).toNat)

/-- A page after a program that passed: each bit to be 0 reads 0 (R545). -/
def State.norProgram (s : State) (a : Nat) : State :=
  let p := a / 512 * 512
  let old := FMap.getList norByte s.nor p 512
  s.putNor (FMap.setList norByte s.nor p (List.zipWith (fun x y => x &&& y) old s.pageBuffer))

/-- A page or a sector is left in an unknown state. -/
def State.norSpoil (s : State) (erase : Bool) (a : Nat) : State :=
  if erase then
    let sec := a / 0x40000
    (s.norErase a).putNorUnk ((List.range 512).foldl (fun m i => FMap.set (fun _ => false) m (sec * 512 + i) true) s.norUnk)
  else s.putNorUnk (FMap.set (fun _ => false) s.norUnk (a / 512) true)

/-- Most pulses of an operation (R548). -/
def patLimit (erase : Bool) : Nat := if erase then 40 else 12

/-- PAT_OPERATION_DONE (R548): the operation ends at its first passing verify, or fails at its last
pulse. -/
def execPatOperationDone (pulses : BitVec 6) (pass : Bool) (s : State) : Res :=
  .next (match s.pat.op with
    | none => s
    | some (erase, a) =>
      let n := pulses.toNat
      if n = 0 ∨ patLimit erase < n ∨ (!pass ∧ n ≠ patLimit erase) ∨ s.pat.bulk.any (fun b => !b.2.2.2) then s
      else
        let s := s.putPat { s.pat with op := none }
        let s := ((s.setRfld patCmd 2 1 0).setRfld patStat 0 1 0).setRfld patStat 8 6 n
        if !pass then (s.norSpoil erase a).setRfld patStat 1 1 1
        else if erase then s.norErase a
        else s.norProgram a)

/-- PAT_RDATA_READ (R551). -/
def execPatRdataRead (w : Who) (s : State) : Res :=
  .next (if s.whoOk w .rd (sta 0x11 0x20) then s.patRead.2 else s)

def execPatBulkRead (w : Who) (v : W64) (s : State) : Res := .next (s.whoWrite w (sta 0x11 0x40) (setBit v 20 true))

/-- Words that a bulk read writes. -/
def State.bulkWords (s : State) (busy : Bool) (a : Nat) : Nat → List W64 × State
  | 0 => ([], s)
  | n + 1 =>
    let (w, s) := if busy then s.patStatus else s.norWord (a % 0x8000000)
    let (ws, s) := State.bulkWords s busy (a + 8) n
    (w :: ws, s)

/-- PAT_BULK_READ_DONE (R550, R551): bytes beyond the visible DRAM are not written. -/
def execPatBulkReadDone (s : State) : Res :=
  .next (match s.pat.bulk with
    | none => s
    | some (src, dst, len, busy) =>
      let (ws, s) := s.bulkWords busy src (8 * len)
      let bs := ((ws.flatMap (fun w => toBytes 8 w.toNat)).take (s.dramSize - dst))
      let s := if bs.isEmpty then s else s.writeLoc (.dram dst) bs
      let s := s.putPat { s.pat with bulk := none }
      ((s.setRfld (sta 0x11 0x40) 20 1 0).setRfld (sta 0x11 0x40) 21 1 1).setRfld (sta 0x11 0x40) 22 1 (b2n busy))

end Sys2Proof.Machine
end

