-- ==== Sys2Proof/Machine/Loader.lean ====
section
/-! DEFINITION. The loader's firmware commands, the live handover and the layout mark (R147, R148, R151, R155, R158,
R167 to R178, R182, R183). -/

namespace Sys2Proof.Machine

/-! ## Stage 0x06 -/

/-- The match entries of a patch section: ROM address, patch RAM address and bits [63:32] (R182). -/
def patchMatches (d : List Byte) : List (Nat × Nat × Nat) :=
  (List.range (le d 4 2)).map (fun i => (le d (8 + 8 * i) 2, le d (10 + 8 * i) 2, le d (12 + 8 * i) 4))

/-- No number stands twice in a list. -/
def allDiffer : List Nat → Bool
  | [] => true
  | x :: r => !r.contains x && allDiffer r

/-- Size of a patch word of a section: 8 bytes for a director, 4 for a sequencer. -/
def patchWordSize (x : Sect) : Nat := if x.typ = 6 then 8 else 4

/-- Whether the counts, lengths and addresses of a patch section are as R182 gives them; a ROM address lies in the ROM
(R312, R316). -/
def patchShapeOk (x : Sect) : Bool :=
  let d := x.data
  let dir := decide (x.typ = 6)
  let ms := patchMatches d
  decide (le d 4 2 ≤ if dir then 16 else 8) && decide (le d 6 2 ≤ if dir then 256 else 128) &&
  decide (d.length = 8 + 8 * le d 4 2 + patchWordSize x * le d 6 2) &&
  ms.all (fun e => decide (e.2.1 < le d 6 2) && decide (e.2.2 = 0) && decide (e.1 < if dir then 0x1000 else 0x400)) &&
  allDiffer (ms.map (·.1))

/-- Every 32-bit unit of the patch words has an even number of 1 bits (R181, R183). -/
def patchParityOk (x : Sect) : Bool :=
  let d := x.data.drop (8 + 8 * le x.data 4 2)
  (List.range (d.length / 4)).all (fun i => decide (popTo (le d (4 * i) 4) 32 % 2 = 0))

/-- The first failure of a patch section: ROM identity, shape, parity (R164). -/
def State.checkPatch (s : State) (x : Sect) : Option Reject :=
  firstBad [
    (!decide (le x.data 0 4 = s.rfld (sta 6 0) (if x.typ = 6 then 0 else 16) 16), 0x0601),
    (!patchShapeOk x, 0x0602),
    (!patchParityOk x, 0x0603)]

/-- The configuration records of an image: address and value (R155). -/
def Image.records (m : Image) : List (Nat × W64) :=
  (m.sects.filter (fun x => decide (x.typ = 8))).flatMap (fun x =>
    (List.range (x.len / 16)).map (fun i => (le x.data (16 * i) 8, w64 (le x.data (16 * i + 8) 8))))

/-- Whether a record may name a register: QENG_RSEL, QENG_RCFG, SCHED_AGELIM, TUN and SHARE (R155). -/
def recordOk (a : Nat) : Bool :=
  decide (a % 8 = 0) &&
  (decide (a = stAddr (sta 2 0x100)) || decide (a = stAddr (sta 2 0x108)) || decide (a = stAddr (sta 1 0x10)) ||
   decide (a / 0x10000 = stAddr (sta 4 0) / 0x10000) || decide (a / 0x10000 = stAddr (sta 0x15 0) / 0x10000))

/-- Whether the tundish division that the records leave breaks a limit of R479: at the write that locks it, or at the
end. -/
def State.tunRejected (s : State) (rs : List (Nat × W64)) : Bool :=
  let s : State := s.putRegs (s.regs.filter (fun p => p.1 / 0x10000 ≠ 4))
  let (t, bad) := (rs.filter (fun r => decide (r.1 / 0x10000 = stAddr (sta 4 0) / 0x10000))).foldl
    (fun (acc : State × Bool) r =>
      let o := r.1 % 0x10000
      (acc.1.writeTun o r.2, acc.2 || (decide (o = 0) && bit r.2 0 && acc.1.tunBroken))) (s, false)
  bad || t.tunBroken

/-- The first of a list of checks that fails. -/
def firstReject {α : Type} (f : α → Option Reject) : List α → Option Reject
  | [] => none
  | x :: r => match f x with
    | some e => some e
    | none => firstReject f r

/-- Patch sections in the table's order, then the configuration (R164). -/
def State.checkExtras (s : State) (m : Image) : Option Reject :=
  match firstReject s.checkPatch (m.sects.filter (fun x => decide (x.typ = 6) || decide (x.typ = 7))) with
  | some e => some e
  | none => if m.records.all (fun r => recordOk r.1) && !s.tunRejected m.records then none else some (rejected 0x0604)

/-! ## Verification -/

/-- Every check of an image up to stage 0x06, in their order (R157, R158, R164). -/
def State.verify (s : State) (raw : List Byte) (complete sig : Bool) : Option Reject :=
  let m := imageOf raw
  match s.checkHeader raw with
  | some e => some e
  | none =>
    match checkTrailer raw m complete sig with
    | some e => some e
    | none =>
      match s.checkProof m with
      | some e => some e
      | none => s.checkExtras m

/-- The bytes of a bank that its header spans; of a bank with no proper header, the header's place alone. -/
def State.bankBytes (s : State) (b : Nat) : List Byte :=
  let n := le (rdNor s (bankOff b) 12) 8 4
  rdNor s (bankOff b) (if 8192 ≤ n ∧ n ≤ bankSize then n else 4096)

/-- Whether some page of a bank was left in an unknown state, so that its contents are undefined (R548). -/
def State.bankUnknown (s : State) (b : Nat) : Bool :=
  s.norUnk.any (fun p => p.2 && decide (bankOff b ≤ p.1 * 512) && decide (p.1 * 512 < bankOff b + bankSize))

/-- Verification of a bank as it stands; undefined contents never match their digest (DEDUCED, log entry 72). -/
def State.verifyBank (s : State) (b : Nat) (sig : Bool) : Option Reject :=
  if s.bankUnknown b then some (rejected 0x0203) else s.verify (s.bankBytes b) true sig

/-- The almanac record of a rejection, and its reason in ID_BOOT (R164, R573). -/
def State.reject (s : State) (raw : List Byte) (r : Reject) : State :=
  let dig := if 0x0202 ≤ r.code then ofBytes ((imageOf raw).digest.take 8) else 0xFFFF
  (s.setBootFld 16 16 r.code).almRecord 0x1001 [w64 r.code, w64 dig, w64 r.core, w64 r.word, w64 r.slot]

/-- The running image's record of an image in a bank. -/
def Image.running (m : Image) (bank : Nat) : RunImage where
  bank := bank
  version := m.version
  layout := m.layout
  cores := m.cores
  keySlot := m.keySlot
  svn := m.svn
  digest := BitVec.ofNat 384 (ofBytes m.digest)
  fixed := (m.sects.filter (fun x => decide (6 ≤ x.typ))).map (fun x => (x.typ, x.tgt, x.data))
  drains := m.coreList.map (fun c => (c, m.drains c))

/-! ## Staging -/

/-- Status with Do Not Retry. -/
def dnr (st : BitVec 15) : BitVec 15 := st ||| 0x4000

/-- Bytes staged so far. -/
def State.stagedBytes (s : State) : Nat := (s.fw.pieces.map (·.2)).sum

/-- The staging that a function holds: TOTAL (R168). -/
def State.staging (s : State) (f : Nat) : Option Nat :=
  match s.fw.stage with
  | some (g, n) => if g = f then some n else none
  | none => none

/-- Another function holds a staging. -/
def State.stagedByOther (s : State) (f : Nat) : Bool :=
  match s.fw.stage with
  | some (g, _) => decide (g ≠ f)
  | none => false

/-- A piece is staged. -/
def State.stagePiece (s : State) (d : Cmd) (total off : Nat) (data : List Byte) : State :=
  let s := s.writeLoc (.dram off) data
  (s.putFw { s.fw with stage := some (d.func, total), pieces := s.fw.pieces ++ [(off, data.length)] }).finish d stOk

/-- FIRMWARE_IMAGE_DOWNLOAD (R168): `data` is the piece from host memory, of the length that the command gives. -/
def execFirmwareImageDownload (k : W64) (data : List Byte) (s : State) : Res :=
  onCmd s k true 0x11 (fun s d =>
    let n := (d.dw 10 + 1) * 4
    let off := d.dw 11 * 4
    let data := (data ++ List.replicate n 0).take n
    if s.fw.hand.isSome || s.stagedByOther d.func then s.finish d stSequence
    else if off % 4096 ≠ 0 ∨ n % 4096 ≠ 0 then s.finish d stField
    else if off = 0 then
      let s : State := s.putFw { s.fw with stage := none, pieces := [] }
      match s.checkHeader data with
      | some r => (s.reject data r).respond d (BitVec.ofNat 32 r.code) 0 (dnr stField)
      | none => if le data 8 4 < n then s.finish d stField else s.stagePiece d (le data 8 4) 0 data
    else
      match s.staging d.func with
      | none => s.finish d stSequence
      | some total =>
        if total < off + n then s.finish d stField
        else if s.fw.pieces.any (fun p => decide (p.1 < off + n) && decide (off < p.1 + p.2)) then s.finish d stOverlap
        else s.stagePiece d total off data)

/-! ## Banks -/

/-- Write an image to a bank: its sectors are erased under intent, and its pages programmed (R170, R546, R560); the
proof record is written with it (R570). -/
def State.writeBank (s : State) (b : Nat) (raw : List Byte) : State :=
  let s := (List.range 192).foldl (fun (s : State) i => s.eraseUnder (bankOff b + i * 0x40000)) s
  let s := s.norWrite (bankOff b) raw
  let s := s.setProof b (some (BitVec.ofNat 384 (ofBytes (imageOf raw).digest), s.sel, s.presence))
  s.putFw { s.fw with
      bad := s.fw.bad.filter (· ≠ b)
      stage := none
      pieces := []
      fresh := s.fw.fresh.filter (· ≠ b) ++ [b] }

/-- A bank whose repeated write has failed: its contents are unknown, so its digest fails, and the selector is unchanged
(R549). -/
def State.spoilBank (s : State) (b : Nat) : State :=
  let s := (List.range 192).foldl (fun (s : State) i => s.eraseUnder (bankOff b + i * 0x40000)) s
  let s := s.putNorUnk (FMap.set (fun _ => false) s.norUnk (bankOff b / 512) true)
  let s := s.setProof b none
  s.putFw { s.fw with bad := s.fw.bad.filter (· ≠ b) ++ [b] }

/-- The selector names a committed bank (R169). -/
def State.swapTo (s : State) (b : Nat) : State :=
  let s := s.selectBank b
  s.putFw { s.fw with fresh := s.fw.fresh.filter (· ≠ b) ++ [b], swapped := true }

/-- The bank that a Firmware Commit names: slot 0 names the one that is not running, and in the recovery state the one
that the selector does not name (R167, DEDUCED, log entry 73). -/
def State.commitBank (s : State) (slot : Nat) : Option Nat :=
  match slot with
  | 0 => some (1 - (match s.fw.run with
      | some r => r.bank
      | none => s.selectedBank))
  | 1 => some 0
  | 2 => some 1
  | _ => none

/-- Whether a bank holds the running image. -/
def State.runsBank (s : State) (b : Nat) : Bool := match s.fw.run with
  | some r => decide (r.bank = b)
  | none => false

/-- Slot and action of a Firmware Commit. -/
def Cmd.fwSlot (d : Cmd) : Nat := d.dw 10 % 8
def Cmd.fwAction (d : Cmd) : Nat := d.dw 10 / 8 % 8

/-- A commit fails its verification (R164, R169, R171). -/
def State.commitFails (s : State) (d : Cmd) (b : Nat) (staged : Bool) (raw : List Byte) (r : Reject) : State :=
  let s := s.reject raw r
  let s : State := if staged then s else s.putFw { s.fw with bad := s.fw.bad.filter (· ≠ b) ++ [b] }
  s.respond d (BitVec.ofNat 32 r.code) 0 stFwImage

/-- The bytes a commit verifies, and whether all are there. -/
def State.commitBytes (s : State) (b : Nat) (staged : Option Nat) : List Byte × Bool :=
  match staged with
  | some total => (rdBytes s.dram 0 total, decide (s.stagedBytes = total))
  | none => (s.bankBytes b, true)

/-- Verify what a commit names, and write a staged image; then go on with it.  `nor` says whether the pattern store took the
image, at the latest when its write was repeated (R158, R169, R549). -/
def State.commitVerified (s : State) (d : Cmd) (b : Nat) (sig nor : Bool) (go : State → List Byte → State) : State :=
  let st := s.staging d.func
  let (raw, whole) := s.commitBytes b st
  match (if st.isNone && s.bankUnknown b then some (rejected 0x0203) else s.verify raw whole sig) with
  | some r => s.commitFails d b st.isSome raw r
  | none =>
    if st.isSome && !nor then (s.spoilBank b).finish d stInternal
    else go (if st.isSome then s.writeBank b raw else s) raw

/-- A Firmware Commit row: the actions it takes, and what it does with the bank; a second commit waits for none.  A commit that
an abort has settled first goes on and answers nothing (R170). -/
def State.commitRow (s : State) (k : W64) (mine : Nat → Bool) (go : State → Cmd → Nat → State) : Res :=
  onCmdIf (fun d => decide (d.settle = .live) || d.aborted) s k true 0x10 (fun t d =>
    if !mine d.fwAction then s
    else if t.fw.hand.isSome then t.finish d stSequence
    else if t.recovery && !(decide (d.fwAction = 1) || decide (d.fwAction = 3)) then t.finish d stOpcode
    else if 4 ≤ d.fwAction then t.finish d stField
    else match t.commitBank d.fwSlot with
      | none => t.finish d stFwSlot
      | some b => go t d b)

/-- Actions that write a staged image to a bank that is not running (R169). -/
def State.commitWrite (s : State) (d : Cmd) (b : Nat) (sig nor swap : Bool) : State :=
  if s.runsBank b then s.finish d stFwSlot
  else if (s.staging d.func).isNone then s.finish d stField
  else s.commitVerified d b sig nor (fun s _ => (if swap then s.swapTo b else s).finish d stOk)

/-- FIRMWARE_COMMIT_WRITE_ONLY: action 000b; the reserved actions 100b to 111b end here too (R169).  `sig` says whether the
image's signature is valid, and `nor` whether the pattern store took the image (R549, DESIGN CHOICE, log entry 74). -/
def execFirmwareCommitWriteOnly (k : W64) (sig nor : Bool) (s : State) : Res :=
  s.commitRow k (fun a => decide (a = 0) || decide (4 ≤ a)) (fun s d b => s.commitWrite d b sig nor false)

/-- FIRMWARE_COMMIT_AT_RESET: action 001b (R169). -/
def execFirmwareCommitAtReset (k : W64) (sig nor : Bool) (s : State) : Res :=
  s.commitRow k (fun a => decide (a = 1)) (fun s d b => s.commitWrite d b sig nor true)

/-- FIRMWARE_COMMIT_EXISTING: action 010b (R169). -/
def execFirmwareCommitExisting (k : W64) (sig : Bool) (s : State) : Res :=
  s.commitRow k (fun a => decide (a = 2)) (fun s d b =>
    if (s.staging d.func).isSome then s.finish d stField
    else s.commitVerified d b sig true (fun s _ => (s.swapTo b).finish d stOk))

/-! ## Installation -/

/-- The loader's slot words 62 and 63 (R147, R148). -/
def State.loaderSlot62 (s : State) : W64 :=
  w64 (3072 + (Config.loaderEntry 62).toNat + 2 ^ 12 + 2 ^ 13 + s.loaderBounds.1 * 2 ^ 16 + 1 * 2 ^ 29 + 63 * 2 ^ 48 + 2 ^ 56)
def State.loaderSlot63 (s : State) : W64 :=
  w64 (3072 + (Config.loaderEntry 63).toNat + 2 ^ 12 + s.loaderBounds.2 * 2 ^ 16 + 6 * 2 ^ 29)

/-- A list of words as a table. -/
def wordTable (ws : List W64) : FMap W64 := FMap.setList (fun _ => 0) [] 0 ws

/-- The checker registers that a core's declarations give, by register key (R61, R154). -/
def regionTable (rs : List (W64 × W64)) : FMap W64 :=
  wordTable (rs.flatMap (fun q => [chkMask false q.1, chkMask true q.2]))

/-- Keys `n` and up of a table replaced by given entries. -/
def withTail (m : FMap W64) (n : Nat) (tail : FMap W64) : FMap W64 := m.filter (fun p => decide (p.1 < n)) ++ tail

/-- SCHED_NSTART of a core: the start handler, enabled, with ARG; a core without image code starts none (R172, R173). -/
def Image.nstart (m : Image) (core arg : Nat) : W64 :=
  if !m.hasCore core then 0 else w64 (m.startEntry core % 4096 + 2 ^ 12 + m.startBound core % 8192 * 2 ^ 16 + m.startLevel core % 8 * 2 ^ 29 + arg * 2 ^ 32)

/-- Write a core's inactive bank and table, its next set and SCHED_NSTART (R153, R172, R175).  On core 0 the loader's words,
slots and regions stay (R147). -/
def State.installCore (s : State) (m : Image) (arg : Nat) (c : CoreId) : State :=
  let k := s.core c
  let zero := decide (c = 0)
  let oldBank := if k.actBank then k.bankA else k.bankB
  let bank := if zero then withTail (m.bank 0) 3072 (oldBank.filter (fun p => decide (3072 ≤ p.1))) else m.bank c.toNat
  let table := wordTable (m.table c.toNat)
  let table := if zero then withTail table 62 [(62, s.loaderSlot62), (63, s.loaderSlot63)] else table
  let chk := regionTable (m.regions c.toNat)
  let chk := if zero then withTail chk 28 ((List.range 4).map (fun i => (28 + i, Config.loaderRegion i))) else chk
  let k := { k with nchk := chk, nfault := BitVec.ofNat 12 (m.faultEntry c.toNat), nstart := m.nstart c.toNat arg }
  let active (t : FMap W64) : FMap W64 := if zero then withTail t 62 [(62, s.loaderSlot62), (63, s.loaderSlot63)] else t
  s.setCore c (if k.actBank then { k with bankA := bank, ephA := table, ephB := active k.ephB }
    else { k with bankB := bank, ephB := table, ephA := active k.ephA })

/-- Install an image on the cores that it names and on core 0 (R175, R179). -/
def State.install (s : State) (m : Image) (arg : Nat) : State :=
  (s.presentCores.filter (fun c => m.hasCore c.toNat || decide (c = 0))).foldl (fun (s : State) c => s.installCore m arg c) s

/-! ## Live handover -/

/-- FIRMWARE_COMMIT_ACTIVATE_NOW: action 011b (R169, R175, R180). -/
def execFirmwareCommitActivateNow (k : W64) (sig nor : Bool) (s : State) : Res :=
  s.commitRow k (fun a => decide (a = 3)) (fun s d b =>
    if s.care.sanit = 2 then s.finish d stFwProhibited
    else if (s.staging d.func).isNone && s.runsBank b then s.finish d stOk
    else s.commitVerified d b sig nor (fun s raw =>
      let m := imageOf raw
      match s.fw.run with
      | none => (s.swapTo b).finish d stFwCtrlReset
      | some r =>
        let s := (s.install m (r.layout + 2 ^ 16)).swapTo b
        (s.putFw { s.fw with hand := some ⟨d.key, m.running b, r.layout, false, false⟩ })))

/-- Range of predecessor layouts of an image in a bank (R152). -/
def State.bankAccepts (s : State) (b layout : Nat) : Bool :=
  let h := rdNor s (bankOff b) 0x20
  decide (le h 0x16 2 ≤ layout) && decide (layout ≤ le h 0x18 2)

/-- Classes drained on a core by a running image. -/
def RunImage.classes (r : RunImage) (c : Nat) : List Nat :=
  match r.drains.find? (fun p => decide (p.1 = c)) with
  | some p => p.2
  | none => []

/-- The first condition of R174 that fails. -/
def State.handoverReject (s : State) (old new : RunImage) : Option Reject :=
  let named := s.presentCores.filter (fun c => decide (Nat.lor old.cores new.cores / 2 ^ c.toNat % 2 = 1))
  if !s.bankAccepts new.bank old.layout then some (rejected 0x0701)
  else match s.presentCores.find? (fun c => !(old.classes c.toNat).all (new.classes c.toNat).contains) with
    | some c => some { rejected 0x0702 with core := c.toNat }
    | none =>
      if decide (old.fixed ≠ new.fixed) then some (rejected 0x0703)
      else match named.find? (fun c => decide ((s.core c).state ≠ .running)) with
        | some c => some { rejected 0x0704 with core := c.toNat }
        | none => none

/-- LIVE_HANDOVER_ARM (R174, R175): in tick H - 1 the loader arms the swap, or ends the commit. -/
def execLiveHandoverArm (s : State) : Res :=
  .next (match s.fw.hand, s.fw.run with
    | some h, some old =>
      if h.armed || decide (s.win ≠ .slot) || s.gap || s.boot.down then s
      else match s.handoverReject old h.image with
        | some r =>
          let s := s.reject (s.bankBytes h.image.bank) r
          (s.putFw { s.fw with hand := none }).settleHandover h.key r.code stFwCtrlReset
        | none =>
          let s := s.writeHovmask (w64 (Nat.lor h.image.cores 1))
          (s.putFw { s.fw with hand := some { h with armed := true } } : State)
    | _, _ => s)

/-! ## The layout mark -/

/-- The layout mark (R177). -/
def markOff : Nat := 0x8000000
def State.layoutMark (s : State) : Nat := rdNum s.ingot markOff 2

/-- Whether every start activation has run. -/
def State.startsDone (s : State) : Bool :=
  s.presentCores.all (fun c => !(s.core c).startPending && decide ((s.core c).act ≠ .start))

/-- LAYOUT_MARK_WRITE (R160, R173, R175, R177): in the tick after the start activations the mark names the running
image's layout and SCHED_NSTART.EN clears; after a handover MR6 is extended, one almanac record is written, and the
commit is settled. -/
def execLayoutMarkWrite (s : State) : Res :=
  .next (match s.fw.markDue, s.fw.run with
    | some t, some r =>
      if s.boot.down || s.boot.pwrFail || decide (s.tick.toNat ≤ t.toNat) || !s.startsDone then s
      else
        let s : State := ((s.putIngot (wrNum s.ingot markOff 8 r.layout)).putFw
            { s.fw with markDue := none }).putCores (s.cores.map
                (fun p => (p.1, { p.2 with nstart := setBit p.2.nstart 12 false })))
        match s.fw.hand with
        | some h =>
          let s := (s.extendMr 6 (toBytes 48 r.digest.toNat)).almRecord 0x1003 [w64 h.old, w64 r.layout, s.tick]
          (s.putFw { s.fw with hand := none }).settleHandover h.key 0 stOk
        | none => s
    | _, _ => s)

end Sys2Proof.Machine
end

