-- ==== Sys2Proof/Machine/IoCmds.lean ====
section
/-! DEFINITION. I/O commands that write: to zones, to reclaim units and to volumes (R221, R234 to R237, R253,
R260, R264 to R266, R274 to R277, R280 to R285, R415 to R417). -/

namespace Sys2Proof.Machine

/-! ## Ranges and order -/

/-- LBAs of a command. -/
def Cmd.nlb (d : Cmd) : Nat := d.dw 12 % 65536 + 1

/-- Key of a command's range in LBAs. -/
def Cmd.lbaKey (d : Cmd) : W64 := w64 (d.slba % 2 ^ 48 + d.nsid % 2 ^ 16 * 2 ^ 48)

/-- The first grain of a command, and how many it covers (R186). -/
def Cmd.grain0 (d : Cmd) (x : NsInfo) : Nat := d.slba * fmtGrains x.lbaf
def Cmd.grains (d : Cmd) (x : NsInfo) : Nat := d.nlb * fmtGrains x.lbaf

/-- Grains of the largest command, 1 MiB (R218, R260). -/
def maxGrains : Nat := 256

/-- The status of a range that a command may not name (R260). -/
def Cmd.rangeBad (d : Cmd) (x : NsInfo) : Option (BitVec 15) :=
  if maxGrains < d.grains x then some stField
  else if x.nsze < d.slba + d.nlb then some stLbaRange
  else none

/-- Whether an earlier write still stands before a command (R236, R237). -/
def State.hazWait (s : State) (d : Cmd) : Bool := !(s.hazQualify d.lbaKey d.nlb d.fsn).isEmpty

/-- Whether a Read of the same queue, fetched earlier, still awaits its map lookup (R237). -/
def State.readWait (s : State) (d : Cmd) : Bool :=
  s.cmds.any (fun x => decide (x.sq = d.sq) && decide (x.settle = .live) && decide (x.opcode = 0x02) && fsnBefore x.fsn d.fsn &&
    !s.care.ladders.any (fun p => decide (p.key = x.key)))

/-- Data that a command brings, or the word that it commits for every grain (R266). -/
inductive Fill where
  | data (gs : List (List Byte))
  | word (w : W64)
  deriving DecidableEq, Repr

/-- Whether a command brings data. -/
def Fill.isData : Fill → Bool
  | .data _ => true
  | .word _ => false

/-- The tag of grain `i` of a command (R188 to R192). -/
def State.cmdTag (s : State) (d : Cmd) (kind extra handle life role n lba first i : Nat) : List Byte :=
  ({ kind := kind, flags := s.tagFlags extra, func := d.func, ns := d.nsid, handle := handle, lba := lba + i, count := n - 1,
     wsn := first + i, life := life, role := role } : TagF).bytes

/-- Whether the namespace's grains can be enciphered now (R498). -/
def State.keyOk (s : State) (n : Nat) : Bool := !s.cipherPresent || (s.nsKey n).isSome

/-! ## Commits -/

/-- An mcommit of words from a grain on; a log or list without room makes the command wait (R112). -/
def State.commitTry (s : State) (n : Nat) (isMeta : Bool) (g first : Nat) (ws : List W64) : Try State :=
  let c := s.nsAt n
  let lba := if c.lba16 && !isMeta then g / 4 else g
  let ops (i : W64) : List W64 := [w64 (n * 2 ^ 48 + lba), w64 ws.length, i, w64 first]
  let one := mapReq .mcommit 0 (ops (ws.headD 0))
  let r := if s.commitWords one = some ws then one else mapReq .mcommit 1 (ops 0)
  match s.mapTry (fun s => s.commitThe r ws) with
  | .ok (s, _, _) => .ok s
  | .error _ => .error none

/-! ## Metadata -/

/-- Bytes of one metadata grain as the map has it; an unmapped one reads as zeroes (R283). -/
def State.metaGrain (s : State) (n g : Nat) : Except Byte (List Byte) :=
  match s.lookup n true (2 ^ 47 + g) with
  | .error oc => .error oc
  | .ok 0 => .ok zeroGrain
  | .ok w => if w = marker then .error 0x30 else (s.readFrame w).map (·.1)

/-- The open extent for metadata grains (R284). -/
def State.metaExtent (s : State) : Option (Nat × State) :=
  match s.extentList.find? (fun p => decide (p.2.use = 2) && decide (p.2.closed = none) && decide (p.2.fill + 64 ≤ s.extentRoom 3)) with
  | some p => some (p.1, s)
  | none => s.newExtent 2 3 0 0 0 s.dieGroups

/-- Bytes of `bs` laid over `old` from byte `o`. -/
def overlay (old : List Byte) (o : Nat) (bs : List Byte) : List Byte := old.take o ++ bs ++ old.drop (o + bs.length)

/-- The metadata of a command is merged into its metadata grains and committed before the data, with numbers
that follow those of the data (R283 to R285).  A confirmed hazard entry over the metadata grains makes it wait; its own entry
stands no longer than this step (R285).  `handle` and `life` are those of the command's data tags. -/
def State.writeMeta (s : State) (d : Cmd) (x : NsInfo) (handle life first nData lba nlb : Nat) (mdata : List Byte) : Try State :=
  let size := fmtMeta x.lbaf
  if size = 0 then .ok s else
  let per := 4096 / size
  let g0 := lba / per
  let n := (lba + nlb - 1) / per + 1 - g0
  let md := (mdata ++ List.replicate (size * nlb) 0).take (size * nlb)
  let merged := (List.range n).map (fun i =>
    match s.metaGrain d.nsid (g0 + i) with
    | .error _ => none
    | .ok old =>
      let lo := max lba ((g0 + i) * per)
      let hi := min (lba + nlb) ((g0 + i + 1) * per)
      some (overlay old ((lo - (g0 + i) * per) * size) ((md.drop ((lo - lba) * size)).take ((hi - lo) * size))))
  if !(s.hazQualify (w64 (d.nsid * 2 ^ 48 + 2 ^ 47 + g0)) n d.fsn).isEmpty then .error none
  else if !merged.all (·.isSome) then .error (some stUnrecovered) else
  match s.metaExtent with
  | none => .error none
  | some (serial, s) =>
    let gs := merged.zipIdx.map (fun p =>
      (p.1.getD zeroGrain, s.cmdTag d 1 0 handle life 0 nData (2 ^ 47 + g0) (first + nData) p.2))
    match s.fillExtent serial gs with
    | none => .error none
    | some (ws, s) => s.commitTry d.nsid true (2 ^ 47 + g0) first ws

/-- Metadata grains that a command touches. -/
def metaTouched (x : NsInfo) (lba nlb : Nat) : Nat :=
  if fmtMeta x.lbaf = 0 then 0 else
  let per := 4096 / fmtMeta x.lbaf
  (lba + nlb - 1) / per + 1 - lba / per

/-! ## The end of a write -/

/-- Zone Append and Zone Append with Token: only their completions name an LBA (R253, R276). -/
def Cmd.isAppend (d : Cmd) : Bool := decide (d.opcode = 0x7D) || decide (d.opcode = 0x9D)

/-- A write has been done: counters, page 0xC2, and the completion (R248, R361). -/
def State.writeDone (s : State) (d : Cmd) (n lba : Nat) (fill : Fill) : State :=
  let s := match fill with
    | .data _ => (s.hcount 1 n).putFdp { s.fdp with hostBytes := s.fdp.hostBytes + 4096 * n }
    | .word _ => s
  let s := (s.hcount 3 1).wroteAgain d.nsid (if d.isAppend then lba else d.slba) (if fill = .word marker then 0 else d.nlb)
  (s.dropHaz d).respond { d with haz := none } (BitVec.ofNat 32 lba) (BitVec.ofNat 32 (lba / 2 ^ 32)) stOk

/-- What a step answers: its state, a status that ends the command, or a wait that changes nothing. -/
def State.settleTry (s : State) (d : Cmd) (r : Try State) : State :=
  match r with
  | .ok s => s
  | .error (some st) => s.endCmd d st
  | .error none => s

/-! ## Zones on the device's own flash -/

/-- Store the grains of a zone's range at their places in extent order; where the command brings no data the frames take
pad (DEDUCED, log entry 153). -/
def State.zoneStore (s : State) (d : Cmd) (n z o first : Nat) (fill : Fill) (len : Nat) : Try (State × List W64) :=
  match s.zoneSerial n z with
  | none => .error none
  | some serial =>
    let e := s.readEntry (s.entryAddr n z)
    let places := (List.range len).map (fun i => s.extFrame e (o + i))
    let ws := places.map (·.getD 0)
    if !places.all (·.isSome) ∨ !s.placesOk ws len then .error none else
    let stored := match fill with
      | .data gs => (s.storeGrains ws (gs.zipIdx.map (fun (p : List Byte × Nat) =>
          (p.1, s.cmdTag d 0 0 0 1 0 len (z * 2 ^ (s.nsAt n).zshift + o) first p.2)))).map (fun s => (s, ws))
      | .word w => some (ws.foldl (fun (s : State) a => s.setFrame (locKey a) (.data (clearFrame 5 []))) s, List.replicate len w)
    match stored with
    | none => .error (some stAccessDenied)
    | some (s, out) =>
      match s.extent serial with
      | some x => .ok ((s.setExtent serial (some { x with fill := o + len, wrote := s.tick })).parityRows serial 4, out)
      | none => .error none

/-- A range of a zone that failed after its reservation is committed with the uncorrectable marker, and its command ends
with its own status (R265, DEDUCED, log entry 156). -/
def State.zoneFailed (s : State) (d : Cmd) (n z o len first : Nat) (st : BitVec 15) : Try State :=
  match s.commitTry n false (z * 2 ^ (s.nsAt n).zshift + o) first (List.replicate len marker) with
  | .error e => .error e
  | .ok s =>
    let s := if s.zstate ((s.nsAt n).firstZone + z) = zFull then s.closeZoneExtent n z true else s
    .ok (s.endCmd d st)

/-- A write of a zone on the device's own flash, after its reservation at offset `o` (R265, R266, R282, R285). -/
def State.zoneLocal (s : State) (d : Cmd) (x : NsInfo) (z o : Nat) (fill : Fill) (mdata : List Byte) : Try State :=
  let n := d.nsid
  let len := d.grains x
  let lba := z * (s.nsAt n).zoneLbas + o / fmtGrains x.lbaf
  let count := match fill with
    | .data _ => len + metaTouched x lba d.nlb
    | .word _ => 0
  let (first, s) := s.takeNumbers 0 count
  if s.zwp ((s.nsAt n).firstZone + z) ≠ o then .error none else
  match s.zoneStore d n z o first fill len with
  | .error none => .error none
  | .error (some st) => s.zoneFailed d n z o len first st
  | .ok (s, ws) =>
    let meta1 := match fill with
      | .data _ => s.writeMeta d x 0 1 first len lba d.nlb mdata
      | .word _ => .ok s
    match meta1 with
    | .error none => .error none
    | .error (some st) => s.zoneFailed d n z o len first st
    | .ok s =>
      match s.commitTry n false (z * 2 ^ (s.nsAt n).zshift + o) first ws with
      | .error e => .error e
      | .ok s =>
        let dz := (s.nsAt n).firstZone + z
        let s := s.putZoneUsed (FMap.set (fun _ => 0) s.zoneUsed dz s.tick)
        let s := if s.zstate dz = zFull then s.closeZoneExtent n z true else s
        .ok (s.writeDone d len (if d.isAppend then lba else 0) fill)

/-! ## Volumes -/

/-- Consecutive zone offsets of one piece: stripe, position, first offset and length, over a range. -/
def segments (l : Layout) : Nat → Nat → Nat → List (Nat × Nat × Nat × Nat)
  | 0, _, _ => []
  | f + 1, o, n =>
    if n = 0 then [] else
    let k := min n (16 - o % 16)
    (l.stripeOf o, l.posOf o, o, k) :: segments l f (o + k) (n - k)

/-- Tag of a data grain, tail mirror grain or mirror copy of a volume (R405). -/
def State.volTag (s : State) (d : Cmd) (extra role n z o wsn : Nat) : List Byte :=
  ({ kind := 0, flags := s.tagFlags extra, func := d.func, ns := d.nsid, handle := 0, lba := z * 2 ^ 19 + o, count := n - 1,
     wsn := wsn, life := 1, role := role } : TagF).bytes

/-- Where a volume write's numbers stand: the offset that ends the last completed stripe, and first numbers
of blocks A, B and C (R415). -/
structure VolNums where
  done : Nat
  a : Nat
  b : Nat
  c : Nat
  deriving DecidableEq, Repr

/-- One segment of a volume write: its data piece, the copies of a mirror, the tail copies of a partial stripe,
and the accumulator (R416). -/
def State.sendSegment (s : State) (d : Cmd) (l : Layout) (z o0 n : Nat) (v : VolNums) (gs : List (List Byte))
    (g : Nat × Nat × Nat × Nat) : State :=
  let (st, j, o, k) := g
  let set := s.setNow l z
  let partial1 := l.mirror || decide (v.done ≤ o)
  let extra := if partial1 then l.m else 0
  let first := if partial1 then v.c + (o - max o0 (if l.mirror then o0 else v.done)) else v.a + (o - o0)
  let data := (gs.drop (o - o0)).take k
  let with1 (role : Nat) : List (List Byte × List Byte) :=
    data.zipIdx.map (fun p => (p.1, s.volTag d extra role n z (o + p.2) (first + p.2)))
  let dz := s.volZone l.vol z
  let acc := s.accumOf dz l.m
  let acc' := data.zipIdx.foldl (fun a p => accumAdd l.m j ((o + p.2) % 16) p.1 a) acc
  let s := match (set.getD j (none, 0)).1 with
    | some m => s.sendGrains l.vol m (pieceAddr z st + o % 16) 0x0B first (with1 1)
    | none => s
  if l.mirror then
    (List.range l.m).foldl (fun (s : State) i =>
      match (set.getD (1 + i) (none, 0)).1 with
      | some m => s.sendGrains l.vol m (pieceAddr z st + o % 16) 0x03 first (with1 (7 + i))
      | none => s) s
  else
    let s := s.putAccum (FMap.set (fun _ => []) s.accum dz acc')
    if partial1 then
      (membersFrom set l.k).foldl (fun (s : State) m => s.sendGrains l.vol m (tailAddr z o) 0x03 first (with1 6)) s
    else s

/-- Stripes of a range, ascending. -/
def Layout.stripesOf (l : Layout) (o n : Nat) : List Nat := (List.range (l.stripeOf (o + n - 1) + 1)).drop (l.stripeOf o)

/-- The entries of the stripes that a range begins are written and sent to the peer (R412, R416 step 3); none where no slot
is free. -/
def State.beginStripes (s : State) (l : Layout) (z o : Nat) : List Nat → Option State
  | [] => some s
  | st :: sts =>
    if 16 * l.k * st < o then State.beginStripes s l z o sts
    else match s.findSlot with
      | none => none
      | some i => State.beginStripes (s.putSlot i { s.newEntry l 1 z with stripe := st }) l z o sts

/-- Whether an entry of a stripe of a range is not mirrored yet (R413). -/
def State.stripesAwait (s : State) (l : Layout) (z o n : Nat) : Bool :=
  (s.usedSlots 0 ++ s.usedSlots 1).any (fun i => match s.jslot i with
    | some e => decide (e.kind = 1) && decide (e.vol = l.vol) && decide (e.zone = z) && (l.stripesOf o n).contains e.stripe && s.slotAwaits i
    | none => false)

/-- The stripes of a write in turn: each sends its segments and, when it is complete, its parity (R416 steps 4 to 6). -/
def State.sendStripes (s : State) (d : Cmd) (l : Layout) (z o n : Nat) (v : VolNums) (gs : List (List Byte)) : List Nat → State
  | [] => s
  | st :: sts =>
    let lo := 16 * l.k * st
    let dz := s.volZone l.vol z
    let s := if o ≤ lo then s.putAccum (FMap.set (fun _ => []) s.accum dz []) else s
    let s := ((segments l (n + 1) o n).filter (fun g => g.1 = st)).foldl (fun s g => s.sendSegment d l z o n v gs g) s
    let s := if lo + 16 * l.k ≤ o + n ∧ !l.mirror then
        s.sendParity l d.func n z st (v.b + 16 * l.m * (st - l.stripeOf o)) (s.accumOf dz l.m)
      else s
    State.sendStripes s d l z o n v gs sts

/-- Stripes that a range has completed are sealed (R417). -/
def State.sealStripes (s : State) (l : Layout) (z o n : Nat) : State :=
  (List.range (l.stripeOf (o + n) - l.stripeOf o)).foldl (fun (s : State) i =>
    let st := l.stripeOf o + i
    match ((s.usedSlots 0 ++ s.usedSlots 1).filterMap (fun j => (s.jslot j).map (fun e => (j, e)))).find? (fun p =>
        decide (p.2.kind = 1) && decide (p.2.vol = l.vol) && decide (p.2.zone = z) && decide (p.2.stripe = st)) with
    | some p => s.seal l z st p.1
    | none => s) s

/-- Settle a command behind a fence: its completion follows when the marks are durable (R100, R416). -/
def State.claimFence (s : State) (d : Cmd) (lba first count : Nat) : State :=
  let d' := { d with haz := none }
  ((s.dropHaz d).settleCount d').setCmd { d' with
    settle := .claimed (BitVec.ofNat 32 lba) (BitVec.ofNat 32 (lba / 2 ^ 32)) stOk first count 0 0 }

/-- The command of a job, while it is still its own and has not settled. -/
def State.jobCmd (s : State) (j : Job) : Option Cmd :=
  match s.cmdOf j.key with
  | some d => if d.fsn = j.fsn ∧ d.settle = .live then some d else none
  | none => none

/-- The hazard entry that a squashed command left to its write goes after the commit (R493). -/
def State.jobHaz (s : State) (j : Job) : State :=
  match j.cmd.haz with
  | some i => if (s.haz.find? (fun p => p.1 = i)).any (fun p => decide (p.2.fsn = j.fsn)) then s.dropHaz j.cmd else s
  | none => s

def State.setJob (s : State) (j : Job) : State :=
  s.putJobs (s.jobs.map (fun x => if x.vol = j.vol ∧ x.zone = j.zone ∧ x.off = j.off then j else x))
def State.dropJob (s : State) (j : Job) : State :=
  s.putJobs (s.jobs.filter (fun x => !(decide (x.vol = j.vol) && decide (x.zone = j.zone) && decide (x.off = j.off))))

/-- Blocks A, B and C of a job, the last block taken standing last (R415). -/
def Job.blocks (j : Job) (l : Layout) : List (Nat × Nat) :=
  let full := if l.mirror then 0 else l.stripeOf (j.off + j.grains) - l.stripeOf j.off
  [(j.a, j.done - j.off), (j.b, 16 * l.m * full), (j.c, j.off + j.grains - j.done)].filter (fun p => p.2 ≠ 0)

/-- Whether every response of a job's pieces has brought its credit (R208, R210, R416 step 7). -/
def State.jobMarked (s : State) (l : Layout) (j : Job) : Bool := (j.blocks l).all (fun p => s.fenceMet p.1 p.2)

/-- A job's range is committed, in LBA order, and its zone record goes to the peer; a range that failed or whose command was
aborted takes the uncorrectable marker, and one whose command a reset squashed its data (R265, R493, R416 steps 7 and 8, R419). -/
def State.jobCommit (s : State) (l : Layout) (j : Job) : Option State :=
  let dz := s.volZone j.vol j.zone
  if s.zwp dz ≠ j.off then none else
  let lost := j.bad
  let word := if lost then some marker else j.word
  let ws := match word with
    | some w => List.replicate j.grains w
    | none => (List.range j.grains).map (fun i => l.commitWord (s.setNow l j.zone) (j.off + i) false)
  match s.commitTry j.vol false (j.zone * 2 ^ 19 + j.off) j.a ws with
  | .error _ => none
  | .ok s =>
    let s := s.zoneRecord l j.zone (b2n j.token.isSome) j.off j.grains (w64 j.a) (j.token.getD 0) (decide (word = some marker))
    let s := (s.sealStripes l j.zone j.off j.grains).putZoneUsed (FMap.set (fun _ => 0) s.zoneUsed dz s.tick)
    let s := if lost then s else if j.word.isNone then (s.hcount 1 j.grains).hcount 3 1 else s.hcount 3 1
    some (s.setJob { j with bad := lost, phase := 2 })

/-- One step of a job, when it may take it: its pieces go out once its stripes' entries are mirrored, its range is committed
once every piece is durable, and its command goes to the gate once the record is mirrored (R416).  A position without a
member, while some piece still lacks its response, fails the command with Write Fault (R419). -/
def State.jobStep (s : State) (j : Job) : Option State :=
  match s.layout j.vol, j.phase with
  | none, _ => none
  | some l, 0 =>
    if s.stripesAwait l j.zone j.off j.grains || s.gathers j.vol j.zone then none
    else if j.bad then some (s.setJob { j with phase := 1, data := [] })
    else some ((s.sendStripes j.cmd l j.zone j.off j.grains { done := j.done, a := j.a, b := j.b, c := j.c } j.data
      (l.stripesOf j.off j.grains)).setJob { j with phase := 1, data := [] })
  | some l, 1 =>
    if s.jobMarked l j || j.bad then s.jobCommit l j
    else if (s.setNow l j.zone).any (fun p => p.1.isNone) then some (s.setJob { j with bad := true })
    else none
  | some l, _ =>
    if s.recordAwaits j.vol j.zone then none
    else
      let s := s.dropJob j
      match s.jobCmd j with
      | none => some (s.jobHaz j)
      | some d =>
        if j.bad then some (s.endCmd d stWriteFault)
        else
          let lba := j.zone * (s.nsAt j.vol).zoneLbas + (if (s.nsAt j.vol).lba16 then j.off / 4 else j.off)
          let last := (j.blocks l).getLastD (j.a, 0)
          some (s.claimFence d (if d.isAppend then lba else 0) last.1 last.2)

/-- A job takes every step that it may take, at most four. -/
def State.jobRun (s : State) (vol zone off : Nat) : Nat → State
  | 0 => s
  | f + 1 =>
    match s.jobs.find? (fun j => decide (j.vol = vol) && decide (j.zone = zone) && decide (j.off = off)) with
    | none => s
    | some j =>
      match s.jobStep j with
      | none => s
      | some s => State.jobRun s vol zone off f

/-- Every job, in the order of their reservations (DESIGN CHOICE, log entry 155). -/
def State.runJobs (s : State) : State := s.jobs.foldl (fun (s : State) j => s.jobRun j.vol j.zone j.off 4) s

/-- A write of a volume zone begins, after its reservation at offset `o`: its numbers, and the entries of the stripes that it
begins (R415, R416). -/
def State.zoneVolume (s : State) (d : Cmd) (x : NsInfo) (l : Layout) (z o : Nat) (fill : Fill) (token : Option W64) : Try State :=
  let n := d.grains x
  let gs := match fill with
    | .data gs => gs
    | .word _ => List.replicate n zeroGrain
  let done := if l.mirror then o else max o (16 * l.k * l.stripeOf (o + n))
  let full := if l.mirror then 0 else l.stripeOf (o + n) - l.stripeOf o
  let (a, s) := s.takeNumbers 0 (done - o)
  let (b, s) := s.takeNumbers 0 (16 * l.m * full)
  let (c, s) := s.takeNumbers l.m (o + n - done)
  let j : Job := { key := d.key, fsn := d.fsn, vol := d.nsid, zone := z, off := o, grains := n, a := a, b := b, c := c, done := done,
                   token := token, data := gs, word := match fill with
                     | .data _ => none
                     | .word w => some w, phase := 0, bad := false, cmd := d }
  match s.beginStripes l z o (l.stripesOf o n) with
  | none => .error none
  | some s => .ok ((s.putJobs (s.jobs ++ [j]) : State).runJobs)

/-! ## Zoned writes -/

/-- A repeat of a token that the zone remembers (R276). -/
def State.tokenRepeat (s : State) (d : Cmd) (z lba : Nat) : Try State :=
  let c := s.nsAt d.nsid
  let o := (if c.lba16 then lba * 4 else lba) - z * 2 ^ c.zshift
  if s.zwp (c.firstZone + z) ≤ o ∨ s.jobs.any (fun j => decide (j.vol = d.nsid) && decide (j.zone = z) && decide (j.off = o)) then .error none
  else if s.lookup d.nsid false (z * 2 ^ c.zshift + o) = .ok marker then .error (some (stWriteFault ||| 0x4000))
  else .ok ((s.dropHaz d).respond { d with haz := none } (BitVec.ofNat 32 lba) (BitVec.ofNat 32 (lba / 2 ^ 32)) stOk)

/-- A write to a zone: the checks of R264 in their order, the reservation, and the write itself.  `app` is an
append; a token makes it remembered. -/
def State.zoneWrite (s : State) (d : Cmd) (x : NsInfo) (app : Bool) (token : Option W64) (fill : Fill) (mdata : List Byte) : State :=
  let n := d.nsid
  let c := s.nsAt n
  let z := d.slba / max 1 c.zoneLbas
  let off := d.slba % max 1 c.zoneLbas
  let dz := c.firstZone + z
  let absent := match s.layout n with
    | some l => s.isManager && (s.setNow l z).any (fun p => p.1.isNone)
    | none => false
  if s.actionFirst d then s
  else if s.preserved d || absent then s.endCmd d stZoneReadOnly
  else if c.zoneLbas < off + d.nlb then s.endCmd d stZoneBoundary
  else if s.zstate dz = zFull ∧ token.isNone then s.endCmd d stZoneFull
  else
    let known := match token with
      | some t => if fld (s.zoneWord dz) 28 13 = 0 then none else s.tokFind (fld (s.zoneWord dz) 28 13 - 1) t
      | none => none
    match known with
    | some o => s.settleTry d (s.tokenRepeat d z (z * c.zoneLbas + o / fmtGrains x.lbaf))
    | none =>
      match s.implicitOpen n z with
      | .error e => s.settleTry d (.error e)
      | .ok s1 =>
        match s1.needEntry n z with
        | .error e => s.settleTry d (.error e)
        | .ok s2 =>
          let arg := match token with
            | some t => t
            | none => if app then w64 (2 ^ 64 - 1) else w64 d.slba
          match s2.mapTry (fun s => s.mzoneOp (mapReq .mzone (b2n token.isSome) [s.zoneKeyOf n z, w64 (d.grains x), arg])) with
          | .error oc => s1.endCmd d (if oc = 0x63 then stZoneWrite else stZoneBoundary)
          | .ok (s3, _, _) =>
            let o := s2.zrsv dz
            match s3.layout n with
            | some l => if s3.isManager then s.settleTry d (s3.zoneVolume d x l z o fill token) else s
            | none => s.settleTry d (s3.zoneLocal d x z o fill mdata)

/-! ## Reclaim units -/

/-- Bits of the reclaim group in a placement identifier (R279, R280). -/
def State.rgif (s : State) : Nat := if s.nrg ≤ 1 then 0 else Nat.log2 (s.nrg - 1) + 1

/-- An event of page 0x23 (R280, R281). -/
def State.fdpEvent (s : State) (typ ns handle rg : Nat) : State :=
  s.putFdp { s.fdp with events := (s.fdp.events ++ [(typ, ns, handle, rg)]).drop (s.fdp.events.length + 1 - 64) }

/-- Placement handle in the namespace's list and reclaim group of a write, with the event of an identifier that
names neither (R280). -/
def State.placement (s : State) (d : Cmd) (x : NsInfo) : (Nat × Nat) × State :=
  if d.dw 12 / 2 ^ 20 % 16 ≠ 2 then ((0, 0), s)
  else
    let pid := d.dw 13 / 65536
    let h := pid % 2 ^ (16 - s.rgif)
    let g := pid / 2 ^ (16 - s.rgif)
    if h < max 1 x.phndls.length ∧ g < max 1 s.nrg then ((h, g), s)
    else ((0, 0), s.fdpEvent 3 d.nsid h g)

/-- A reclaim unit in progress closes (R281). -/
def State.closeUnit (s : State) (serial : Nat) : State := s.closeExtent serial

/-- The unit in progress of a handle and group. -/
def State.ruOf (s : State) (ruh g : Nat) : Option (Nat × Extent) :=
  s.unitsOpen.find? (fun p => decide (p.2.handle = ruh) && decide (p.2.rg = g))

/-- Die groups of a reclaim group (R279). -/
def State.rgGroups (s : State) (g : Nat) : List Nat := s.dieGroups.filter (fun q => q % max 1 s.nrg = g)

/-- Room is made for one more unit: with 4,096 in progress the one written least recently closes, with an
event (R281). -/
def State.makeRoom (s : State) (ns : Nat) : State :=
  if s.unitsOpen.length < 4096 then s else
  match s.unitsOpen.foldl (fun (b : Option (Nat × Extent)) p => match b with
      | none => some p
      | some y => if p.2.wrote.toNat < y.2.wrote.toNat then some p else some y) none with
  | some p => (s.closeUnit p.1).fdpEvent 0x81 ns p.2.handle p.2.rg
  | none => s

/-- A unit that holds its C grains has its other frames padded, and closes (R256, R343). -/
def State.fillUnit (s : State) (serial : Nat) : State := (s.padAll serial).closeExtent serial

/-- A unit with room for `n` grains, newly built when there is none; only relocation, under an internal handle, goes below
the floor (R286). -/
def State.needUnit (s : State) (ns ruh g n : Nat) : Option (Nat × State) :=
  let fresh (s : State) :=
    let s := s.makeRoom ns
    if ruh < 0x100 && !s.hostRoom then none else s.newExtent 1 s.nativeMode 0 ruh g (s.rgGroups g)
  match s.ruOf ruh g with
  | some p => if p.2.fill + n ≤ extentCap s.fam then some (p.1, s) else fresh (s.fillUnit p.1)
  | none => fresh s

/-- Frames are padded until the next place starts a page half, for units of 16 KiB (R117). -/
def State.alignUnit (s : State) (serial : Nat) : Nat → State
  | 0 => s
  | k + 1 =>
    match s.extent serial with
    | none => s
    | some x =>
      match s.extFrame (s.extEntryOf serial x) x.fill with
      | some w =>
        if locFrame w = 0 then s
        else State.alignUnit ((s.setFrame (locKey w) (.data (clearFrame 5 []))).setExtent serial (some { x with fill := x.fill + 1 })) serial k
      | none => s

/-- Store grains in a unit, four at a time and aligned on a namespace of 16 KiB units. -/
def State.storeUnit (s : State) (wide : Bool) (serial : Nat) : Nat → List (List Byte × List Byte) → Option (List W64 × State)
  | 0, _ => some ([], s)
  | k + 1, gs =>
    if gs.isEmpty then some ([], s) else
    let n := if wide then 4 else gs.length
    match (if wide then s.alignUnit serial 4 else s).fillExtent serial (gs.take n) with
    | none => none
    | some (ws, s) => (State.storeUnit s wide serial k (gs.drop n)).map (fun p => (ws ++ p.1, p.2))

/-- Store a command's grains in units of a handle and group, one unit after another: each is filled to its capacity before the
next begins (R256, R281). -/
def State.storeUnits (s : State) (wide : Bool) (ns ruh g : Nat) : Nat → List (List Byte × List Byte) → Option (List W64 × State)
  | 0, _ => none
  | f + 1, gs =>
    if gs.isEmpty then some ([], s) else
    match s.needUnit ns ruh g (if wide then 7 else 1) with
    | none => none
    | some (serial, s) =>
      let room := extentCap s.fam - ((s.extent serial).map (·.fill)).getD 0
      let n := if wide then 4 else min room gs.length
      match s.storeUnit wide serial 2 (gs.take n) with
      | none => none
      | some (ws, s) =>
        let s := if ((s.extent serial).map (·.fill)).getD 0 = extentCap s.fam then s.fillUnit serial else s
        (State.storeUnits s wide ns ruh g f (gs.drop n)).map (fun p => (ws ++ p.1, p.2))

/-- A write to a placement namespace (R266, R280 to R285, R289). -/
def State.placeWrite (s : State) (d : Cmd) (x : NsInfo) (fill : Fill) (mdata : List Byte) : Try State :=
  let n := d.nsid
  let len := d.grains x
  if s.preserved d then .error (some stWriteProtected)
  else if s.hazWait d || s.readWait d then .error none
  else match fill with
  | .word w =>
    match s.commitTry n false (d.grain0 x) 0 (List.replicate len w) with
    | .error e => .error e
    | .ok s => .ok (s.writeDone d len 0 fill)
  | .data gs =>
    let ((h, g), s) := s.placement d x
    let ruh := x.phndls.getD h 0
    let handle := h % 256 + g % 64 * 2 ^ 8
    let (first, s) := s.takeNumbers 0 (len + metaTouched x d.slba d.nlb)
    let tagged := gs.zipIdx.map (fun p => (p.1, s.cmdTag d 0 0 handle (2 + h % 14) 0 len (d.grain0 x) first p.2))
    match s.storeUnits (fmt16 x.lbaf) n ruh g (len + 1) tagged with
    | none => .error none
    | some (ws, s) =>
      match s.writeMeta d x handle (2 + h % 14) first len d.slba d.nlb mdata with
      | .error e => .error e
      | .ok s =>
        match s.commitTry n false (d.grain0 x) first ws with
        | .error e => .error e
        | .ok s => .ok ((s.putFdp { s.fdp with mediaBytes := s.fdp.mediaBytes + 4096 * len } : State).writeDone d len 0 fill)

/-! ## The commands -/

/-- Grains of data brought by a command. -/
def dataOk (gs : List (List Byte)) (n : Nat) : Bool := decide (gs.length = n) && gs.all (fun g => decide (g.length = 4096))

/-- A row of a write whose range is reserved already takes its job, and those before it, as far as they may go (R416). -/
def onJob (s : State) (k : W64) (f : Res) : Res :=
  if s.jobs.any (fun j => decide (j.key = k)) then .next (if s.boot.down then s else s.runJobs) else f

/-- Completion dwords of a plain write are 0: only appends return an LBA. -/
def State.ioWrite (s : State) (k : W64) (op : Nat) (fill : Fill) (mdata : List Byte) : Res :=
  onJob s k <| onCmd s k false op (fun s d =>
    match s.ioNs d with
    | .error st => s.endCmd d st
    | .ok x =>
      match d.rangeBad x, fill with
      | some st, _ => s.endCmd d st
      | none, fill =>
        let ok := match fill with
          | .data gs => dataOk gs (d.grains x)
          | .word _ => true
        if !ok then s
        else if !s.keyOk d.nsid && fill.isData then s.endCmd d stAccessDenied
        else s.ownerCheck d (fun s =>
          if (s.nsAt d.nsid).zoned then
            if s.hazWait d || s.readWait d then s else s.zoneWrite d x false none fill mdata
          else s.settleTry d (s.placeWrite d x fill mdata)))

/-- FLUSH completes with success and does nothing (R221). -/
def execFlush (k : W64) (s : State) : Res :=
  onCmd s k false 0x00 (fun s d =>
    match (if d.nsid = 0xFFFFFFFF then .ok () else (s.ioNs d).map (fun _ => ())) with
    | .error st => s.finish d st
    | .ok _ => s.finish d stOk)

/-- WRITE (R221, R264, R416). -/
def execWrite (k : W64) (data : List (List Byte)) (mdata : List Byte) (s : State) : Res :=
  s.ioWrite k 0x01 (.data data) mdata

/-- WRITE_UNCORRECTABLE commits the uncorrectable marker (R266). -/
def execWriteUncorrectable (k : W64) (s : State) : Res := s.ioWrite k 0x04 (.word marker) []

/-- WRITE_ZEROES commits location word 0, with or without DEAC (R266). -/
def execWriteZeroes (k : W64) (s : State) : Res := s.ioWrite k 0x08 (.word 0) []

/-- An append: its first LBA must be that of a zone; with a token, 0 is refused (R253, R264, R276). -/
def State.ioAppend (s : State) (k : W64) (op : Nat) (tok : Bool) (data : List (List Byte)) (mdata : List Byte) : Res :=
  onJob s k <| onCmd s k false op (fun s d =>
    match s.ioNs d with
    | .error st => s.finish d st
    | .ok x =>
      let c := s.nsAt d.nsid
      let t := w64 (fld d.sqe 64 64)
      if !c.zoned then s.finish d stOpcode
      else if (tok ∧ t = 0) ∨ d.slba % max 1 c.zoneLbas ≠ 0 ∨ maxGrains < d.grains x then s.finish d stField
      else if x.nsze ≤ d.slba then s.finish d stLbaRange
      else if !dataOk data (d.grains x) then s
      else if !s.keyOk d.nsid then s.finish d stAccessDenied
      else s.ownerCheck d (fun s => s.zoneWrite d x true (if tok then some t else none) (.data data) mdata))

/-- ZONE_APPEND (R221, R264). -/
def execZoneAppend (k : W64) (data : List (List Byte)) (mdata : List Byte) (s : State) : Res := s.ioAppend k 0x7D false data mdata

/-- ZONE_APPEND_WITH_TOKEN (R253, R276). -/
def execZoneAppendWithToken (k : W64) (data : List (List Byte)) (mdata : List Byte) (s : State) : Res :=
  s.ioAppend k 0x9D true data mdata

/-- Unmap a range of LBAs, at most 65,536 grains a request (R113). -/
def State.trimRange (s : State) (n : Nat) (x : NsInfo) (slba len : Nat) : Try State :=
  let per := fmtGrains x.lbaf
  let step := 65536 / per
  (List.range (ceilDiv len step)).foldl (fun (r : Try State) i =>
    match r with
    | .error e => .error e
    | .ok s =>
      let m := min step (len - i * step)
      match s.mapTry (fun s => s.mtrimOp (mapReq .mtrim 0 [w64 (n * 2 ^ 48 + slba + i * step), w64 (m * per)])) with
      | .ok (s, _, _) => .ok s
      | .error _ => .error none) (.ok s)

/-- DATASET_MANAGEMENT: deallocate only, on placement namespaces (R221, R266, R289). -/
def execDatasetManagement (k : W64) (ranges : List (W64 × Nat)) (s : State) : Res :=
  onCmd s k false 0x09 (fun s d =>
    match s.ioNs d with
    | .error st => s.finish d st
    | .ok x =>
      if (s.nsAt d.nsid).zoned then s.finish d stOpcode
      else if ranges.length ≠ d.dw 10 % 256 + 1 then s
      else if d.dw 11 / 4 % 2 = 0 then s.finish d stOk
      else if ranges.any (fun r => x.nsze < r.1.toNat + r.2) then s.finish d stLbaRange
      else match ranges.foldl (fun (r : Try State) p => match r with
          | .error e => .error e
          | .ok s => s.trimRange d.nsid x p.1.toNat p.2) (.ok s) with
        | .ok s => s.finish d stOk
        | .error (some st) => s.finish d st
        | .error none => s)

/-- RECLAIM_UNIT_HANDLE_UPDATE: the named units are padded and closed at once (R281). -/
def execReclaimUnitHandleUpdate (k : W64) (pids : List Nat) (s : State) : Res :=
  onCmd s k false 0x1D (fun s d =>
    match s.ioNs d with
    | .error st => s.finish d st
    | .ok x =>
      if (s.nsAt d.nsid).zoned then s.finish d stOpcode
      else if d.dw 10 % 256 ≠ 1 then s.finish d stField
      else if pids.length ≠ d.dw 10 / 65536 + 1 then s
      else if pids.any (fun p => max 1 x.phndls.length ≤ p % 2 ^ (16 - s.rgif) ∨ max 1 s.nrg ≤ p / 2 ^ (16 - s.rgif)) then s.finish d stField
      else (pids.foldl (fun (s : State) p =>
        match s.ruOf (x.phndls.getD (p % 2 ^ (16 - s.rgif)) 0) (p / 2 ^ (16 - s.rgif)) with
        | some u => s.closeUnit u.1
        | none => s) s).finish d stOk)

/-- IO_MANAGEMENT_RECEIVE: the reclaim unit handle status of a placement namespace: for each handle and group
its identifier, its handle, and the grains left in its unit (R221, R279 to R281). -/
def execIoManagementReceive (k : W64) (s : State) : Res :=
  onCmd s k false 0x12 (fun s d =>
    match s.ioNs d with
    | .error st => s.finish d st
    | .ok x =>
      if (s.nsAt d.nsid).zoned then s.finish d stOpcode
      else if d.dw 10 % 256 = 0 then s.finish d stOk
      else if d.dw 10 % 256 ≠ 1 then s.finish d stField
      else
        let hs := if x.phndls.isEmpty then [0] else x.phndls
        let all := hs.zipIdx.flatMap (fun h => (List.range (max 1 s.nrg)).map (fun g => (h.2, h.1, g)))
        let one (p : Nat × Nat × Nat) : List Byte :=
          let left := match s.ruOf p.2.1 p.2.2 with
            | some u => extentCap s.fam - u.2.fill
            | none => extentCap s.fam
          toBytes 2 (p.1 + p.2.2 * 2 ^ (16 - s.rgif)) ++ toBytes 2 p.2.1 ++ toBytes 4 0 ++ toBytes 8 0 ++
            toBytes 8 (left / fmtGrains x.lbaf) ++ toBytes 8 0
        let page := toBytes 14 0 ++ toBytes 2 all.length ++ all.flatMap one
        let bytes := (d.dw 11 + 1) * 4
        (s.toHost d 0 ((page ++ List.replicate bytes 0).take bytes)).finish d stOk)

/-- RU_TIME_LIMIT_EXCEEDED: a unit in progress for 72 h is padded and closed, with its event (R279, R281). -/
def execRuTimeLimitExceeded (h : Nat) (g : Nat) (s : State) : Res :=
  .next (match s.ruOf h g with
    | some u =>
      if !s.boot.down ∧ (u.2.first.getD s.alm.optime) + 72 * 65536 ≤ s.alm.optime then (s.closeUnit u.1).fdpEvent 1 0 h g else s
    | none => s)

end Sys2Proof.Machine
end

