-- ==== Sys2Proof/Machine/Reads.lean ====
section
/-! DEFINITION. I/O commands that read, the retry ladder, rebuild from open-block parity, and the relocation of
single grains (R221, R234 to R238, R248, R266, R283, R330, R332, R336, R342, R420, R421, R432, R461). -/

namespace Sys2Proof.Machine

/-! ## Poisoned maps -/

/-- The 64 B lines of a DRAM range lose their poison: they have been rebuilt (R461).  Their words are those
that the records give, which the model's DRAM still holds (DEDUCED, log entry 61). -/
def State.rebuildLines (s : State) (a n : Nat) : State :=
  s.putPoison (s.poison.filter (fun p =>
      !(decide (2 ^ 48 + a / 64 * 8 ≤ p.1) && decide (p.1 < 2 ^ 48 + ((a + n + 63) / 64 * 8)))))

/-- The map lines that a lookup needs are rebuilt before it is served (R461). -/
def State.healMap (s : State) (n : Nat) (isMeta : Bool) (g : Nat) : State :=
  let c := s.nsAt n
  if isMeta then s.rebuildLines (c.metaAddr + 8 * (g - 2 ^ 47)) 8
  else match c.kind with
  | 0 => s
  | 1 => s.rebuildLines (c.baseAddr + 8 * g) 8
  | 2 => s.rebuildLines (c.baseAddr + 8 * (g / 4)) 8
  | _ =>
    let a := c.baseAddr + 256 * (g / 2 ^ c.zshift)
    let s := s.rebuildLines a 256
    let e := s.readEntry a
    s.rebuildLines e.listAddr (16 * e.runs)

/-- A lookup of the resident set: a poisoned line is rebuilt first, and a zone without an entry reads as
unwritten (R266, R461). -/
def State.lookupSafe (s : State) (n : Nat) (isMeta : Bool) (g : Nat) : Except Byte W64 :=
  match (s.healMap n isMeta g).lookup n isMeta g with
  | .error oc => if oc = 0x64 then .ok 0 else .error oc
  | .ok w => .ok w

/-! ## The owner of a frame -/

/-- Whether a grain is mapped to a word. -/
def State.maps (s : State) (n : Nat) (isMeta : Bool) (g : Nat) (w : W64) : Bool :=
  decide ((s.lookup n isMeta g).toOption = some w)

/-- The mapped grain that the table of a namespace gives a word to, if any. -/
def State.tableOwner (s : State) (n : Nat) (c : NsCfg) (w : W64) : Option (Nat × Bool × Nat) :=
  let slots (base : Nat) (cnt : Nat) : List Nat :=
    ((s.dram.filter (fun p => decide (base ≤ p.1) && decide (p.1 < base + 8 * cnt))).map (fun p => (p.1 - base) / 8)).dedup
  let data : Option (Nat × Bool × Nat) :=
    match c.kind with
    | 1 => ((slots c.baseAddr c.grains).find? (fun i => decide (rdW s.dram (c.baseAddr + 8 * i) = w))).map (fun i => (n, false, i))
    | 2 => ((slots c.baseAddr (c.grains / 4)).find? (fun i =>
        decide (rdW s.dram (c.baseAddr + 8 * i) = setFld w 41 2 0))).map (fun i => (n, false, 4 * i + locFrame w))
    | _ => none
  match data with
  | some x => some x
  | none => ((slots c.metaAddr c.metaGrains).find? (fun i => decide (rdW s.dram (c.metaAddr + 8 * i) = w))).map
      (fun i => (n, true, 2 ^ 47 + i))

/-- The mapped grain of a frame: namespace, whether it is metadata, and grain.  The tag of a frame that still
reads, then the extent's zone, then the tables of every namespace name it. -/
def State.frameOwner (s : State) (w : W64) : Option (Nat × Bool × Nat) :=
  let byTag : Option (Nat × Bool × Nat) :=
    match s.frameAt (locKey w) with
    | .data bs =>
      let t := bs.drop 4096
      let x := (tagNs t, decide (tagKind t = 1), tagLba t)
      if s.maps x.1 x.2.1 x.2.2 w then some x else none
    | _ => none
  let byZone : Option (Nat × Bool × Nat) :=
    match s.extentAt w with
    | some (serial, x) =>
      if x.use ≠ 0 then none else
      let c := s.nsAt x.ns
      match (List.range c.zones).find? (fun z => decide (s.zoneSerial x.ns z = some serial)) with
      | none => none
      | some z =>
        match s.extOffset (s.readEntry (s.entryAddr x.ns z)) w with
        | some o => if s.maps x.ns false (z * 2 ^ c.zshift + o) w then some (x.ns, false, z * 2 ^ c.zshift + o) else none
        | none => none
    | none => none
  match byTag, byZone with
  | some x, _ => some x
  | none, some x => some x
  | none, none => (s.ns.filterMap (fun p => s.tableOwner p.1 p.2 w)).head?

/-! ## Relocation -/

/-- Handle of the extents that take single relocated grains; no namespace lists it. -/
def relocHandle : Nat := 0x100

/-- Placement handle field and lifetime class of a grain whose frame has gone: those of the unit that it lay in, on a
placement namespace (R188, R191, R342; DEDUCED, log entry 138). -/
def State.placeOf (s : State) (n : Nat) (w : W64) : Nat × Nat :=
  match s.nsi n with
  | some x =>
    if (s.nsAt n).zoned then (0, 1)
    else match s.extentAt w with
      | some (_, e) =>
        let h := x.phndls.idxOf (if 0x200 ≤ e.handle then e.handle - 0x200 else e.handle)
        if e.use = 1 ∧ h < x.phndls.length then (h % 256 + e.rg % 64 * 2 ^ 8, 2 + h % 14) else (0, 2)
      | none => (0, 2)
  | none => (0, 1)

/-- Tag of a grain that is made again: a fresh number, function 0xFFFF and grain count 0 (R342, R432); `p` is its handle field
and lifetime class. -/
def State.newTag (s : State) (n : Nat) (isMeta : Bool) (p : Nat × Nat) (role g wsn : Nat) : List Byte :=
  ({ kind := b2n isMeta, flags := s.tagFlags 0, func := 0xFFFF, ns := n, handle := p.1, lba := g, count := 0, wsn := wsn,
     life := p.2, role := role } : TagF).bytes

/-- A relocation's commit: IMM[2] = 1 on a zone (R112, R120). -/
def State.moveCommit (s : State) (n : Nat) (isMeta : Bool) (g first : Nat) (ws : List W64) : Option State :=
  let c := s.nsAt n
  let lba := if c.lba16 && !isMeta then g / 4 else g
  match s.mapTry (fun s => s.commitThe (mapReq .mcommit 5 [w64 (n * 2 ^ 48 + lba), w64 ws.length, 0, w64 first]) ws) with
  | .ok (s, _, _) => some s
  | .error _ => none

/-- The grains of the indirection unit that a grain lies in. -/
def State.unitGrains (s : State) (n : Nat) (isMeta : Bool) (g : Nat) : List Nat :=
  if (s.nsAt n).kind = 2 && !isMeta then (List.range 4).map (fun i => g / 4 * 4 + i) else [g]

/-- A grain made again, lost with frame `w`, is stored in a fresh place and committed there; the rest of its unit moves with
it, tags as they stand (R117, R193, R342).  None when another grain of the unit cannot be read or no place is free. -/
def State.storeAgain (s : State) (n : Nat) (isMeta : Bool) (g : Nat) (w : W64) (plain : List Byte) : Option State :=
  let unit := s.unitGrains n isMeta g
  let p := s.placeOf n w
  let old (x : Nat) : Option (List Byte × List Byte) :=
    if x = g then some (plain, []) else
    match s.lookupSafe n isMeta x with
    | .ok w => (s.readFrame w).toOption
    | .error _ => none
  if !unit.all (fun x => (old x).isSome) then none else
  match s.needUnit n relocHandle 0 8 with
  | none => none
  | some (serial, s) =>
    let (first, s) := s.takeNumbers 0 1
    let gs := unit.map (fun x =>
      let o := (old x).getD (zeroGrain, [])
      (o.1, if x = g then s.newTag n isMeta p 0 g first else o.2.take 24))
    match s.storeUnit (decide (unit.length = 4)) serial 2 gs with
    | none => none
    | some (ws, s) => s.moveCommit n isMeta (unit.headD g) first ws

/-! ## Rebuild from open-block parity -/

/-- Whether a frame can be read, decodes and passes its guard (R324, R342). -/
def State.rowFrameOk (s : State) (x : Extent) (d : Nat) (p : Nat × Nat × Nat × Nat) : Bool :=
  if !s.chanUp (s.groupDie x.group d).1 then false else
  match s.frameAt (s.placeKey x d p) with
  | .data bs =>
    let tag := (bs.drop 4096).take 32
    let plain := if tagEnc tag then (s.nsKey (tagNs tag)).map (fun k =>
        xtsUnit true k (tagLba tag + tagNs tag * 2 ^ 48) (bs.take 4096)) else some (bs.take 4096)
    match plain with
    | some q => decide (guard q tag = ofBytes ((tag.drop 24).take 8))
    | none => false
  | _ => false

/-- Bytes 0 to 4,095 of a frame as stored, from the other frames of its row: 14 data dies and the parity die, or
the accumulator's sum while the row lacks durable parity (R339, R342). -/
def State.rowRebuild (s : State) (w : W64) : Option (List Byte) :=
  match s.extentAt w with
  | none => none
  | some (serial, x) =>
    let die := (s.dieGroup (locChan w) (locDie w)).2
    let p := (locPlane w, locPage w, locHalf w, locFrame w)
    let row := locPage w / pagesPerWl x.mode
    if x.rows ≤ row then
      (match s.frameAt (locKey w) with
        | .data bs => some (bs.take 4096)
        | _ => none)
    else
      let others := (List.range 16).filter (fun d => d ≠ die)
      let void (d : Nat) : Bool := (s.extEntryOf serial x).void d p.1 row
      if others.all (fun d => void d || s.rowFrameOk x d p) then
        some (others.foldl (fun acc d => if void d then acc else xorBytes acc (s.parityBytes (s.placeKey x d p))) zeroGrain)
      else none

/-- Unreadable positions of a lost frame's row, its own among them (R342). -/
def State.rowErasures (s : State) (w : W64) : Nat :=
  match s.extentAt w with
  | none => 1
  | some (serial, x) =>
    let die := (s.dieGroup (locChan w) (locDie w)).2
    let p := (locPlane w, locPage w, locHalf w, locFrame w)
    1 + ((List.range 16).filter (fun d => decide (d ≠ die) &&
      !(s.extEntryOf serial x).void d p.1 (locPage w / pagesPerWl x.mode) && !s.rowFrameOk x d p)).length

/-- The grain of a lost frame in plaintext, as its namespace's key gives it (R342, R498). -/
def State.grainRebuild (s : State) (n : Nat) (g : Nat) (w : W64) : Option (List Byte) :=
  match s.rowRebuild w with
  | none => none
  | some bs =>
    if !s.cipherPresent then some bs
    else (s.nsKey n).map (fun k => xtsUnit true k (g + n * 2 ^ 48) bs)

/-- The range of a grain that cannot be rebuilt enters page 0xC2 (R248, R342). -/
def State.loseGrain (s : State) (n : Nat) (isMeta : Bool) (g : Nat) (w : W64) : State :=
  let per := if (s.nsAt n).lba16 then 4 else 1
  let lba := (if isMeta then (g - 2 ^ 47) * metaG ((s.nsi n).map (·.lbaf) |>.getD 0) else g) / per
  let serial := ((s.extentAt w).map (·.1)).getD 0
  let e := toBytes 4 n ++ toBytes 4 (if isMeta then metaG ((s.nsi n).map (·.lbaf) |>.getD 0) / per else 1) ++ toBytes 8 lba ++
    toBytes 8 serial ++ toBytes 6 s.alm.optime ++ toBytes 1 (s.rowErasures w) ++ toBytes 1 1
  if s.lostRanges.any (fun x => decide (x.take 16 = e.take 16)) then s else s.addLost e

/-- Queue a level sweep of a die and block group, once (R336). -/
def State.queueSweep (s : State) (w : W64) : State :=
  let k := (locChan w, locDie w, min (locBlock w / 2 ^ s.rfld (chReg (locChan w) 0x18) 0 4) 31)
  if s.care.sweeps.contains k then s else s.putCare { s.care with sweeps := s.care.sweeps ++ [k] }

/-- Queue a refresh of the extent that a frame lies in (R350). -/
def State.queueRefresh (s : State) (w : W64) : State :=
  match s.extentAt w with
  | some (serial, x) => s.setExtent serial (some { x with refresh := true })
  | none => s

/-! ## Reads -/

/-- What a read finds for one grain. -/
inductive Found where
  | bytes (bs : List Byte)
  | failed (w : W64) (oc : Byte)
  | ends (st : BitVec 15)
  deriving DecidableEq, Repr

/-- Whether page 0xC2 lists a grain (R248). -/
def State.listedLost (s : State) (n g : Nat) : Bool :=
  let per := if (s.nsAt n).lba16 then 4 else 1
  s.lostRanges.any (fun e =>
    let a := ofBytes ((e.drop 8).take 8) * per
    decide (ofBytes (e.take 4) = n) && decide (a ≤ g) && decide (g < a + ofBytes ((e.drop 4).take 4) * per))

/-- Whether a grain of a zoned namespace lies between its zone's capacity and its size, or, after a Finish, beyond every grain
that its zone's extent took: it reads as zeroes (R266; DEDUCED, log entry 137). -/
def State.neverWritten (s : State) (n g : Nat) : Bool :=
  let c := s.nsAt n
  let o := g % 2 ^ c.zshift
  c.zoned && (decide (s.zcap n ≤ o) ||
    (match s.zoneSerial n (g / 2 ^ c.zshift) with
      | some serial => ((s.extent serial).map (fun x => decide (x.fill ≤ o))).getD false
      | none => false))

/-- One grain of a read: the map, then the frame; `fails` names the frames whose hard read fails, `vol` what
the members give for a volume's grain (R266, R420, R421). -/
def State.findGrain (s : State) (n : Nat) (isMeta : Bool) (g : Nat) (fails : List W64) (vol : VolGrain) : Found :=
  if !isMeta && s.listedLost n g then .ends stUnrecovered
  else if !isMeta && s.neverWritten n g then .bytes zeroGrain
  else match s.lookupSafe n isMeta g with
  | .error _ => .ends stInternal
  | .ok w =>
    if w = 0 then .bytes zeroGrain
    else if w = marker then .ends stUnrecovered
    else if w = volumeWord then
      (match vol with
        | .direct bs => .bytes bs
        | .rebuilt bs => .bytes bs
        | .lost => .ends stUnrecovered)
    else if fails.contains w then .failed w 0x23
    else match s.readFrame w with
      | .ok (bs, t) => if tagNs t = n ∧ tagLba t = g then .bytes bs else .failed w 0x28
      | .error oc => if oc = 0x40 then .ends stAccessDenied else .failed w oc

/-- Whether the write of a hazard entry has its data in a buffer that the read's core may use (R236). -/
def State.servable (s : State) (d : Cmd) (p : Nat × HazEntry) : Bool :=
  p.2.confirmed && decide (p.2.buf ≠ 0) &&
  s.cmds.any (fun x => decide (x.haz = some p.1) && decide (x.owner = d.owner) && match x.dminEvent with
    | some e => !(s.core x.owner).ring.contains e && !(s.core x.owner).classQ.contains e && !(s.core x.owner).waiting.contains e
    | none => false)

/-- What a read serves from a write's buffer: the buffer, and the first grain and grains of the write. -/
def State.readSource (s : State) (d : Cmd) : Option (Option (W64 × Nat × Nat)) :=
  let per := if (s.nsAt d.nsid).lba16 then 4 else 1
  match s.hazQualify d.lbaKey d.nlb d.fsn with
  | [] => some none
  | [p] => if s.servable d p then some (some (p.2.buf, fld p.2.key 0 48 * per, p.2.count * per)) else none
  | _ => none

/-- Bytes of a grain in a write's buffer, when the write covers it. -/
def State.fromBuf (s : State) (src : Option (W64 × Nat × Nat)) (g : Nat) : Option (List Byte) :=
  match src with
  | none => none
  | some (h, a, n) =>
    if a ≤ g ∧ g < a + n then (s.moverLoc h (4096 * n)).map (fun l => ((s.readLoc l (4096 * n)).drop (4096 * (g - a))).take 4096)
    else none

/-! ### Deadlines (R422, R423) -/

/-- Insertion of a value into an ascending list. -/
def insertInt (x : Int) : List Int → List Int
  | [] => [x]
  | y :: r => if x ≤ y then x :: y :: r else y :: insertInt x r

/-- The 99th percentile of a list: the least entry that at least 99 of 100 do not exceed (DEDUCED, DESIGN CHOICE, log entry 136). -/
def percentile99 (xs : List Int) : Int := ((xs.foldl (fun s x => insertInt x s) []).getD ((99 * xs.length + 99) / 100 - 1) 0)

/-- What the horizon slot of a member gives for the die of a grain: its horizon, and the slot's age in µs.  No rule tells a
manager which die holds a member grain, so the die is any of those reported (DESIGN CHOICE, log entry 136). -/
def State.slotHorizon (s : State) (m : Nat) (f : W64) : Nat × Nat :=
  let a := s.rfld (sta 0xD 0x38) 13 26 * 8192 + 8192 * m
  let dies := fld (rdW s.dram (a + 8)) 0 12
  (rdNum s.dram (a + 64 + 2 * (f.toNat % max 1 dies)) 2, (s.tick.toNat - (rdW s.dram (a + 24)).toNat) * s.periodUs)

/-- The predicted finish of a GREAD in ns from now (R422), with the hop and payload times of R145; the family of the manager's
own dies gives the times of a die (DESIGN CHOICE, log entry 136). -/
def State.predict (s : State) (m h age : Nat) : Int :=
  let x := (FMap.get (fun _ => (none : Option Member)) s.members m)
  let rec99 := (x.map (·.record)).getD []
  let die : Int :=
    if rec99.length < 64 then (((if 0 < h then s.fam.tprogMax else 0) + s.fam.trMax : Nat) : Int)
    else 1000 * (max 0 ((h : Int) - age + 2) + percentile99 rec99)
  die + (2400 * ((x.map (·.hops)).getD 1) + 69 : Nat)

/-- The horizon of a member's die and the predicted finish of a GREAD to it. -/
def State.predictNow (s : State) (m : Nat) : (Nat × Int) × State :=
  let (f, s) := s.takeFree
  let (h, age) := s.slotHorizon m f
  ((h, s.predict m h age), s)

/-- Time left to a command's deadline in ns: its fetch tick plus DL (R422). -/
def State.slack (s : State) (d : Cmd) : Int :=
  1000 * ((s.params.deadline : Int) - ((s.tick.toNat - d.arrived.toNat) * s.periodUs : Nat))

/-- GREADs of the last 4,096 ticks. -/
def State.recentReads (s : State) : List (W64 × Bool) := s.greads.filter (fun p => decide (s.tick.toNat < p.1.toNat + 4096))

/-- Whether a deadline reconstruction of `k` GREADs stays within its share (R423). -/
def State.shareOk (s : State) (k : Nat) : Bool :=
  let r := s.recentReads
  decide (100 * ((r.filter (·.2)).length + k) ≤ s.params.share * (r.length + k))

/-- A GREAD of one grain for a command; `recon` for a deadline reconstruction (R423). -/
def State.askGrain (s : State) (v : Nat) (d : Cmd) (recon : Bool) (h m addr : Nat) : State :=
  (s.rsendAt h m 0x11 0 d.level [w64 (volKey v addr), 0] []).putGreads (s.recentReads ++ [(s.tick, recon)])

/-- Positions other than `j` of a stripe that can be read, data positions first and then by predicted finish: position,
member, horizon and finish (R421, R422). -/
def State.others (s : State) (l : Layout) (z st j : Nat) : List (Nat × Nat × Nat × Int) × State :=
  let set := s.setNow l z
  let ps := (List.range l.w).filterMap (fun i =>
    if i = j ∨ s.awaits l z st i then none else (set.getD i (none, 0)).1.map (fun m => (i, m)))
  let (xs, s) := ps.foldl (fun (r : List (Nat × Nat × Nat × Int) × State) p =>
    let ((h, t), s) := r.2.predictNow p.2
    (r.1 ++ [(p.1, p.2, h, t)], s)) ([], s)
  let rank (x y : Nat × Nat × Nat × Int) : Bool :=
    (decide (x.1 < l.k) && decide (l.k ≤ y.1)) || (decide (x.1 < l.k) == decide (y.1 < l.k) && decide (x.2.2.2 ≤ y.2.2.2))
  (xs.foldl (fun acc x => (acc.takeWhile (fun y => rank y x)) ++ x :: acc.dropWhile (fun y => rank y x)) [], s)

/-- The `k` other positions of a grain's row are asked for (R421). -/
def State.askOthers (s : State) (l : Layout) (d : Cmd) (recon : Bool) (addr : Nat) (xs : List (Nat × Nat × Nat × Int)) : State :=
  (xs.take l.k).foldl (fun (s : State) x => s.askGrain l.vol d recon x.2.2.1 x.2.1 addr) s

/-- A deadline reconstruction has been served in a member's place: its count on page 0xC3 (R249). -/
def State.servedFor (s : State) (m : Nat) : State :=
  match FMap.get (fun _ => (none : Option Member)) s.members m with
  | some x => s.setMember m (some { x with recon := (x.recon + 1) % 2 ^ 32 })
  | none => s

/-- The requests that a read of a volume sends for a grain (R420 to R423): a GREAD to the grain's member; to a tail mirror, or
to `k` other positions of its row, when the member is absent, awaits rebuild or failed; and to those other positions in its
place when the member would miss the deadline and they would not, within the share of R423.  `v` is what the members give in
the end: a grain rebuilt after its member failed is written back; a grain given directly after a deadline reconstruction was
read from its member after all. -/
def State.sendReads (s : State) (l : Layout) (d : Cmd) (g : Nat) (v : VolGrain) : State :=
  let c := s.nsAt l.vol
  let z := g / 2 ^ c.zshift
  let o := g % 2 ^ c.zshift
  let set := s.setNow l z
  let j := l.posOf o
  let st := l.stripeOf o
  let addr := l.memberAddr z o
  if s.zwp (c.firstZone + z) ≤ o then s else
  let opened := (s.stripeSlot l.vol z).any (fun p => decide (p.2.stripe = st)) && !l.mirror
  let degraded (s : State) : State :=
    if opened then
      (match (membersFrom set l.k).head? with
        | some t => s.askGrain l.vol d false 0 t (tailAddr z o)
        | none => s)
    else
      let (xs, s) := s.others l z st j
      s.askOthers l d false addr xs
  match (set.getD j (none, 0)).1 with
  | none => degraded s
  | some m =>
    if s.awaits l z st j then degraded s else
    let ((h, t), s) := s.predictNow m
    let (xs, s) := s.others l z st j
    let late := decide (s.slack d < t) && decide (l.k ≤ xs.length) && (xs.take l.k).all (fun x => decide (x.2.2.2 ≤ s.slack d)) &&
      !opened && s.shareOk l.k
    if late then
      let s := s.askOthers l d true addr xs
      match v with
      | .rebuilt _ => s.servedFor m
      | _ => s.askGrain l.vol d false h m addr
    else
      let s := s.askGrain l.vol d false h m addr
      match v with
      | .direct _ => s
      | .lost => degraded s
      | .rebuilt bs =>
        let s := degraded s
        if s.wsnFloor.isSome then s else
        let (first, s) := s.takeNumbers 0 1
        s.rsend m 0x10 0x0B 5 [w64 (volKey l.vol addr), 0, 0, creditWord 1 first]
          (framed [(bs, s.newTag l.vol false (0, 1) 1 (z * 2 ^ 19 + o) first)])

/-- Bytes of a command's metadata, one LBA at a time (R283). -/
def State.readMeta (s : State) (d : Cmd) (x : NsInfo) : Option (List Byte) :=
  let size := fmtMeta x.lbaf
  if size = 0 then some [] else
  let per := 4096 / size
  let parts := (List.range d.nlb).map (fun i =>
    let b := d.slba + i
    match s.findGrain d.nsid true (2 ^ 47 + b / per) [] .lost with
    | .bytes bs => some ((bs.drop (b % per * size)).take size)
    | _ => none)
  if parts.all (·.isSome) then some ((parts.map (·.getD [])).flatten) else none

/-- A read ends with Unrecovered Read Error: health counter 8, and its ladders are given up (R330, R361). -/
def State.readFails (s : State) (d : Cmd) (st : BitVec 15) : State :=
  let s := s.putCare { s.care with ladders := s.care.ladders.filter (fun x => x.key ≠ d.key) }
  (if st = stUnrecovered then s.hcount 8 1 else s).finish d st

/-- A read is done: its metadata leaves with it, and counters 0 and 2 count it (R361). -/
def State.hostReadDone (s : State) (d : Cmd) (x : NsInfo) : State :=
  if d.opcode ≠ 0x02 then s.finish d stOk else
  match s.readMeta d x with
  | none => s.readFails d stUnrecovered
  | some m =>
    let s := if m.isEmpty then s else s.putOut (s.out ++ [Out.hostMeta d.key 0 m])
    ((s.hcount 0 (d.grains x)).hcount 2 1).finish d stOk

/-- Data of one grain of a read leaves the device; a Verify delivers nothing. -/
def State.handOver (s : State) (d : Cmd) (i : Nat) (bs : List Byte) : State :=
  if d.opcode = 0x02 then s.toHost d (4096 * i) bs else s

/-- Frames of a read that needed correction, with their corrected bits: health counter 4 counts each, and more than 108 bits
queue a level sweep (R336, R361). -/
def State.corrected (s : State) (d : Cmd) (x : NsInfo) (src : Option (W64 × Nat × Nat)) (fails : List W64) (corr : List (W64 × Nat)) : State :=
  let words := (List.range (d.grains x)).filterMap (fun i =>
    match s.fromBuf src (d.grain0 x + i) with
    | some _ => none
    | none => (s.lookup d.nsid false (d.grain0 x + i)).toOption)
  (corr.filter (fun p => words.contains p.1 && !fails.contains p.1 && decide (0 < p.2) && (s.readFrame p.1).toOption.isSome)).foldl
    (fun (s : State) p => let s := s.hcount 4 1; if 108 < p.2 then s.queueSweep p.1 else s) s

/-- A read or verify that may look its map up now (R221, R236, R420). -/
def State.readNow (s : State) (d : Cmd) (x : NsInfo) (fails : List W64) (corr : List (W64 × Nat)) (vol : List VolGrain)
    (src : Option (W64 × Nat × Nat)) : State :=
  let s := (List.range (d.grains x)).foldl (fun (s : State) i => s.healMap d.nsid false (d.grain0 x + i)) s
  let found := (List.range (d.grains x)).map (fun i =>
    match s.fromBuf src (d.grain0 x + i) with
    | some bs => Found.bytes bs
    | none => s.findGrain d.nsid false (d.grain0 x + i) fails (vol.getD i .lost))
  let s := s.corrected d x src fails corr
  let s := match s.layout d.nsid with
    | some l => if s.isManager then
        (List.range (d.grains x)).foldl (fun (s : State) i => s.sendReads l d (d.grain0 x + i) (vol.getD i .lost)) s else s
    | none => s
  match found.findSome? (fun f => match f with
      | .ends st => some st
      | _ => none) with
  | some st => s.readFails d st
  | none =>
    let s := found.zipIdx.foldl (fun (s : State) (p : Found × Nat) =>
      match p.1 with
      | .bytes bs => s.handOver d p.2 bs
      | .failed w oc =>
        let l : Ladder := { key := d.key, grain := p.2, loc := w, steps := if oc = 0x27 ∨ oc = 0x28 ∨ oc = 0x2A then 3 else 0 }
        s.putCare { s.care with ladders := s.care.ladders ++ [l] }
      | .ends _ => s) s
    if found.any (fun f => match f with
        | .failed _ _ => true
        | _ => false) then s
    else s.hostReadDone d x

/-- Read and Verify: the checks, the hazard rule of R236, and the read. -/
def State.ioRead (s : State) (k : W64) (op : Nat) (fails : List W64) (corr : List (W64 × Nat)) (vol : List VolGrain) : Res :=
  onCmd s k false op (fun s' d =>
    if s.care.ladders.any (fun l => decide (l.key = k)) then s else
    match s'.ioNs d with
    | .error st => s'.finish d st
    | .ok x =>
      match d.rangeBad x with
      | some st => s'.finish d st
      | none =>
        if s'.actionFirst d then s else
        match s'.readSource d with
        | none => s
        | some src => s'.readNow d x fails corr vol src)

/-- READ, with what the decode of its frames gives (R221, R236). -/
def execRead (k : W64) (sense : ReadSense) (vol : List VolGrain) (s : State) : Res := s.ioRead k 0x02 sense.fails sense.corr vol

/-- VERIFY reads and checks, and delivers nothing (R221). -/
def execVerify (k : W64) (sense : ReadSense) (vol : List VolGrain) (s : State) : Res := s.ioRead k 0x0C sense.fails sense.corr vol

/-! ## The retry ladder -/

/-- A ladder leaves the list; with no other of its command left, the command completes. -/
def State.ladderEnd (s : State) (d : Cmd) (l : Ladder) : State :=
  let rest := s.care.ladders.filter (fun x => !(decide (x.key = l.key) && decide (x.grain = l.grain)))
  let s := s.putCare { s.care with ladders := rest }
  if rest.any (fun x => decide (x.key = d.key)) then s else
  match s.nsi d.nsid with
  | some x => s.hostReadDone d x
  | none => s.finish d stNamespace

/-- The steps taken after a failure of the step now due: step 3 is passed over when the tracked set and the
default are the same (R330). -/
def State.ladderNext (s : State) (l : Ladder) (oc : Byte) : Nat :=
  if oc = 0x27 ∨ oc = 0x28 then 3
  else if l.steps + 1 = 2 ∧ s.rlIndex (locChan l.loc) (locDie l.loc) (locBlock l.loc) =
      FMap.get (fun _ => 128) s.care.levels ((locChan l.loc * 64 + locDie l.loc) * 32 +
        min (locBlock l.loc / 2 ^ s.rfld (chReg (locChan l.loc) 0x18) 0 4) 31) then 3
  else l.steps + 1

/-- RETRY_LADDER_STEP: the next step of a failed frame.  Steps 1 to 3 are soft senses, whose outcome the row
brings; step 4 rebuilds the frame; step 5 fails the read (R330 to R332). -/
def execRetryLadderStep (k : W64) (loc : W64) (outcome : BitVec 8) (s : State) : Res :=
  .next (match s.cmdOf k, s.care.ladders.find? (fun l => decide (l.key = k) && decide (l.loc = loc)) with
    | some d, some l =>
      match s.nsi d.nsid with
      | none => s
      | some x =>
        let g := d.grain0 x + l.grain
        let failed (n : Nat) : State :=
          s.putCare { s.care with ladders := s.care.ladders.map (fun y => if y = l then { l with steps := n } else y) }
        if s.boot.down ∨ d.settle ≠ .live then s
        else if l.steps < 3 then
          (if outcome = 0x24 then s
          else match (if outcome = 0x00 ∨ outcome = 0x01 then (s.readFrame loc).toOption else none) with
            | some (bs, t) =>
              if tagNs t = d.nsid ∧ tagLba t = g then
                (((((s.hcount 5 1).queueSweep loc).queueRefresh loc).handOver d l.grain bs).ladderEnd d l)
              else failed 3
            | none =>
              let n := s.ladderNext l outcome
              if n = 3 ∧ outcome ≠ 0x27 ∧ outcome ≠ 0x28 then (failed n).hcount 6 1 else failed n)
        else match s.grainRebuild d.nsid g loc with
          | some bs =>
            let s := ((s.hcount 7 1).queueSweep loc).queueRefresh loc
            let s := (s.storeAgain d.nsid false g loc bs).getD s
            (s.handOver d l.grain bs).ladderEnd d l
          | none => (s.loseGrain d.nsid false g loc).readFails d stUnrecovered
    | _, _ => s)

/-- FRAME_REBUILD: a lost frame is rebuilt from its row and relocated; a row that cannot give it enters its
range in page 0xC2 (R342). -/
def execFrameRebuild (loc : W64) (s : State) : Res :=
  .next (if s.boot.down || !s.locOk loc then s else
    match s.frameOwner loc with
    | none => s
    | some (n, isMeta, g) =>
      match s.grainRebuild n g loc with
      | some bs =>
        match s.storeAgain n isMeta g loc bs with
        | some t => ((t.hcount 7 1).queueSweep loc).queueRefresh loc
        | none => s
      | none => s.loseGrain n isMeta g loc)

end Sys2Proof.Machine
end

