-- ==== Sys2Proof/Machine/Care.lean ====
section
/-! DEFINITION. Media care on the resident set's own account: patrol, level sweeps, closing verify, relocation,
reclaim, wear levelling, pending erases and checkpoints (R246, R332 to R337, R343 to R353, R356 to R358, R361). -/

namespace Sys2Proof.Machine

/-! ## What a read of a frame shows -/

/-- A frame as one hard read shows it needs care: it failed, or needed more than 108 corrections (R336, R350). -/
def senseWeak (f : FrameSense) : Bool :=
  match f.hard with
  | some b => decide (64 < f.zeros) && decide (108 < b)
  | none => decide (64 < f.zeros)

/-- A frame that reads as erased (R327). -/
def senseBlank (f : FrameSense) : Bool := decide (f.zeros ≤ 64)

/-- Rebuild a frame that no sensing recovers, when a map names it (R342, R350). -/
def State.careRebuild (s : State) (w : W64) : State :=
  match s.frameOwner w with
  | none => s
  | some (n, isMeta, g) =>
    match s.grainRebuild n g w with
    | some bs => (((s.storeAgain n isMeta g w bs).getD s).hcount 7 1).queueSweep w
    | none => s.loseGrain n isMeta g w

/-- Block key of a location word. -/
def locBlk (w : W64) : Nat := blkKey (locChan w) (locDie w) (locPlane w) (locBlock w)

/-- Refresh age reached by a closed extent (R348). -/
def State.aged (s : State) (x : Extent) : Bool :=
  x.closed.isSome && match x.first with
    | some t => decide (t + s.fam.refreshAge * 65536 ≤ s.alm.optime)
    | none => false

/-- Whether a location lies in the first block of its block group on plane 0 that is not retired: the patrol queues the group's
level sweep there, once per sweep of the device (R336, DESIGN CHOICE, log entry 139). -/
def State.groupHead (s : State) (w : W64) : Bool :=
  let sh := s.rfld (chReg (locChan w) 0x18) 0 4
  let base := locBlock w / 2 ^ sh * 2 ^ sh
  decide (locPlane w = 0) && (List.range (locBlock w - base)).all (fun i => decide (s.blkUse (blkKey (locChan w) (locDie w) 0 (base + i)) = 4))

/-- Whether a block's first frame holds a valid header of an extent that still has the block (R344, R356). -/
def State.headerLive (s : State) (bk : Nat) : Bool :=
  match s.blkHeaderAt bk with
  | some h => (s.extent (ofBytes ((h.drop 8).take 8))).any (fun x => (s.extentBlks x).contains bk)
  | none => false

/-- PATROL_READ: the frames of one page.  `unread` names frames unreadable after step 3.  Frame 0 of page 0 also
settles a block of unknown history, and shows a half-erased free block (R349, R350, R356, R357). -/
def execPatrolRead (loc : W64) (fr : List FrameSense) (unread : List W64) (s : State) : Res :=
  .next (
    let bk := locBlk loc
    let head := decide (locPage loc = 0) && decide (locHalf loc = 0) && decide (locFrame loc = 0)
    let f := fr.headD { zeros := 0, hard := some 0 }
    if s.boot.down || !s.locOk loc || !s.chanUp (locChan loc) || fr.isEmpty then s
    else match s.blkUse bk with
    | 0 =>
      if !head then s else
      if f.hard.isSome && !senseBlank f && s.headerLive bk then s.setUse bk 2
      else
        let s := if (senseBlank f) || f.hard.isSome then s else s.hcount 18 1
        s.setUse bk 3
    | 1 => if head && !(senseBlank f) then (s.hcount 18 1).setUse bk 3 else s
    | 2 =>
      let s := (s.hcount 14 1).hcount 4 (fr.filter (fun x => decide (64 < x.zeros) && x.hard.any (fun n => decide (0 < n)))).length
      let s := if head && s.groupHead loc then s.queueSweep loc else s
      let s := unread.foldl (fun (s : State) w => if locBlk w = bk ∧ locPage w = locPage loc then ((s.hcount 6 1).careRebuild w).queueRefresh w else s) s
      let s := if fr.any (fun x => senseWeak x) then (s.queueRefresh loc).queueSweep loc else s
      (match s.extentAt loc with
        | some (_, x) => if s.aged x then s.queueRefresh loc else s
        | none => s)
    | _ => s)

/-- LEVEL_SWEEP: results of five soft reads at s - 2 to s + 2; the set with the fewest bits is written when it
improves on s by at least 8.  Among equals the lowest set counts (R336). -/
def execLevelSweep (ch : Nat) (die : Nat) (grp : Nat) (res : List Nat) (s : State) : Res :=
  .next (
    let k := (ch, die, grp)
    if s.boot.down || !s.care.sweeps.contains k || decide (res.length ≠ 5) || !s.chanUp ch || decide (31 < grp) then s else
    let e := 32 * die + grp
    let a := chReg ch (0x800 + 8 * (e / 8))
    let cur := s.rfld a (8 * (e % 8)) 8
    let best := (List.range 5).foldl (fun b i => if res.getD i 65535 < res.getD b 65535 then i else b) 0
    let s := s.putCare { s.care with sweeps := s.care.sweeps.filter (· ≠ k) }
    if res.getD best 65535 + 8 ≤ res.getD 2 65535 then s.setRfld a (8 * (e % 8)) 8 (min 255 (cur + best - 2)) else s)

/-- CLOSING_VERIFY of an extent: `bad` names frames that needed step 1 or above or more than 108 corrections,
`unread` those that nothing read (R343). -/
def execClosingVerify (x : Nat) (bad unread : List W64) (s : State) : Res :=
  .next (match s.extent x with
    | some e =>
      if s.boot.down ∨ e.closed = none ∨ !e.verify then s else
      let s := s.setExtent x (some { e with verify := false, refresh := e.refresh || !bad.isEmpty || !unread.isEmpty })
      let s := s.hcount 17 (16 * s.fam.planes * s.rowCount e.mode)
      unread.foldl (fun (s : State) w => if (s.extentAt w).any (fun p => decide (p.1 = x)) then s.careRebuild w else s) s
    | none => s)

/-! ## Relocation -/

/-- Frames of an extent in use, in extent order. -/
def State.extentWords (s : State) (serial : Nat) (x : Extent) : List W64 :=
  let e := s.extEntryOf serial x
  (List.range x.fill).filterMap (fun i => s.extFrame e i)

/-- The valid grains of an extent: word, namespace, whether metadata, and grain. -/
def State.validGrains (s : State) (serial : Nat) (x : Extent) : List (W64 × Nat × Bool × Nat) :=
  (s.extentWords serial x).filterMap (fun w => (s.frameOwner w).map (fun o => (w, o)))

/-- Raw frames are copied to the next places of an extent, their tags and numbers unchanged (R193, R205, R352). -/
def State.fillRaw (s : State) (serial : Nat) (bs : List (List Byte)) : Option (List W64 × State) :=
  match s.extent serial with
  | none => none
  | some x =>
    match s.nextPlaces serial x bs.length with
    | none => none
    | some ws =>
      if !s.placesOk ws bs.length then none else
      let s := (ws.zip bs).foldl (fun (s : State) (p : W64 × List Byte) => s.setFrame (locKey p.1) (.data p.2)) s
      let s := s.setExtent serial (some { x with fill := x.fill + bs.length, wrote := s.tick })
      some (ws, s.parityRows serial 4)

/-- One valid grain, or the whole unit that it begins, moves to extent `dst`; a frame that no longer reads is
rebuilt instead, or its range is lost.  The grains after the first of a unit move with it. -/
def State.moveUnit (s : State) (dst : Nat) (g : W64 × Nat × Bool × Nat) : Option State :=
  let (w, n, isMeta, a) := g
  let unit := s.unitGrains n isMeta a
  if unit.headD a ≠ a then some s else
  let words := unit.map (fun x => ((s.lookup n isMeta x).toOption).getD w)
  let raw := words.map s.rawFrame
  if raw.all (·.isSome) then
    let bs := raw.map (·.getD [])
    match (if unit.length = 4 then s.alignUnit dst 4 else s).fillRaw dst bs with
    | none => none
    | some (ws, s) => s.moveCommit n isMeta a (tagWsn ((bs.headD []).drop 4096)) ws
  else
    some (unit.foldl (fun (s : State) x =>
      match s.lookup n isMeta x with
      | .ok v => if (s.rawFrame v).isSome then s else
        (match s.grainRebuild n x v with
          | some p => (s.storeAgain n isMeta x v p).getD s
          | none => s.loseGrain n isMeta x v)
      | .error _ => s) s)

/-- The extent that takes moved grains of extent `x`: of the same use, and of an internal handle that keeps the
lifetime classes apart (R191, R351). -/
def State.moveTarget (s : State) (x : Extent) : Option (Nat × State) :=
  if x.use = 2 then s.metaExtent
  else s.needUnit x.ns (if x.handle < 0x100 then 0x200 + x.handle else x.handle) x.rg 8

/-- Every valid grain of an extent that is not a zone's moves; the number moved. -/
def State.moveGrains (s : State) (x : Extent) (pick : State → Option (Nat × State)) :
    List (W64 × Nat × Bool × Nat) → Option State
  | [] => some s
  | g :: gs =>
    match pick s with
    | none => none
    | some (dst, s) =>
      match s.moveUnit dst g with
      | none => none
      | some s => State.moveGrains s x pick gs

/-- The runs that a zone keeps when it moves: its stretches of unwritten and uncorrectable grains. -/
def keptRuns (rs : List ExcRun) : List ExcRun := rs.filter (fun r => decide (r.word = 0) || decide (r.word = marker))

/-- A zone moves to a new extent: every grain takes the place of its offset there, and its exception list is
left with no relocated grain (R120, R350, R352). -/
def State.moveZone (s : State) (serial : Nat) (x : Extent) (new : State → Option (Nat × State)) : Option State :=
  let c := s.nsAt x.ns
  match (List.range c.zones).find? (fun z => decide (s.zoneSerial x.ns z = some serial)) with
  | none => none
  | some z =>
    let a := s.entryAddr x.ns z
    let e := s.readEntry a
    let runs := s.readRuns e.listAddr e.runs
    let words := (List.range x.fill).map (fun o => if o < s.zwp (c.firstZone + z) then
        ((s.lookup x.ns false (z * 2 ^ c.zshift + o)).toOption).getD 0 else (s.extFrame e o).getD 0)
    match new s with
    | none => none
    | some (dst, s) =>
      let frame (w : W64) : List Byte := (s.rawFrame w).getD (clearFrame 5 [])
      let bad := words.zipIdx.filter (fun (p : W64 × Nat) => decide (p.1 ≠ 0) && decide (p.1 ≠ marker) && (s.rawFrame p.1).isNone)
      match s.fillRaw dst (words.map frame) with
      | none => none
      | some (_, s) =>
        let s := bad.foldl (fun (s : State) (p : W64 × Nat) => s.loseGrain x.ns false (z * 2 ^ c.zshift + p.2) p.1) s
        let s := s.writeEntry x.ns z dst (s.extent dst)
        some (s.writeRuns a (s.listAddrOf x.ns z) (keptRuns runs))

/-- A closed extent moves, and its blocks enter the pending-erase list (R350 to R353).  `high` builds the new
extent from the blocks with the highest counts (R347). -/
def State.relocate (s : State) (serial : Nat) (x : Extent) (high : Bool) : Option State :=
  let fresh (s : State) : Option (Nat × State) :=
    if high then (s.pickBlocks true x.group).map (fun bs => s.placeExtent x.use x.mode x.ns x.handle x.rg x.group bs)
    else s.newExtent x.use x.mode x.ns x.handle x.rg s.dieGroups
  let moved : Option State :=
    if x.use = 0 then
      (s.moveZone serial x fresh).map (fun (s : State) => if x.closed.isSome then s.closeExtent (s.care.nextSerial - 1) else s)
    else if high then
      match fresh s with
      | none => none
      | some (dst, t) => (t.moveGrains x (fun s => some (dst, s)) (t.validGrains serial x)).map (fun (s : State) => s.closeExtent dst)
    else s.moveGrains x (fun (s : State) => s.moveTarget x) (s.validGrains serial x)
  moved.map (fun (s : State) => s.releaseExtent serial)

/-- EXTENT_RELOCATION: a queued refresh is done (R350, R352, R353). -/
def execExtentRelocation (serial : Nat) (s : State) : Res :=
  .next (match s.extent serial with
    | some x => if s.boot.down ∨ !x.refresh ∨ x.closed = none then s else (s.relocate serial x false).getD s
    | none => s)

/-! ## Reclaim -/

/-- Extents that the free blocks could build. -/
def State.freeExtents (s : State) : Nat :=
  (s.dieGroups.map (fun q =>
    ((List.range 16).flatMap (fun d => (List.range s.fam.planes).map (fun pl =>
      let base := s.groupBlk q d pl 0
      (s.care.blocks.filter (fun p => decide (p.2 = 1) && decide (base ≤ p.1) && decide (p.1 < base + 65536))).length))).foldl
      (fun (b : Option Nat) n => match b with
        | none => some n
        | some m => some (min m n)) none |>.getD 0)).sum

/-- Extents committed to namespaces. -/
def State.committedExtents (s : State) : Nat :=
  (s.nsInfo.map (fun p => match p.2 with
    | some x => x.extents + s.metaExtents x.charge
    | none => 0)).sum

/-- The victim of reclaim: the closed extent of a reclaim unit or of metadata with the fewest valid grains, the one
closed earliest among equals (R351). -/
def State.victim (s : State) : Option (Nat × Extent) :=
  ((s.extentList.filter (fun p => (decide (p.2.use = 1) || decide (p.2.use = 2)) && p.2.closed.isSome)).foldl
    (fun (b : Option (Nat × Nat × (Nat × Extent))) p =>
      let n := (s.validGrains p.1 p.2).length
      let t := (p.2.closed.getD 0).toNat
      match b with
      | none => some (n, t, p)
      | some y => if n < y.1 ∨ (n = y.1 ∧ t < y.2.1) then some (n, t, p) else some y) none).map (·.2.2)

/-- RECLAIM: below max(16, 0.005 of the committed extents) the victim is relocated (R351, R353). -/
def execReclaim (s : State) : Res :=
  .next (if s.boot.down ∨ max 16 (ceilDiv s.committedExtents 200) ≤ s.freeExtents then s else
    match s.victim with
    | none => s
    | some (serial, x) =>
      match s.relocate serial x false with
      | some t => t.hcount 16 (s.validGrains serial x).length
      | none => s)

/-! ## Wear -/

/-- Erase counts of the good blocks of a die group. -/
def State.groupCounts (s : State) (q : Nat) : List Nat :=
  (s.care.blocks.filter (fun p => decide (p.2 ≠ 4) && decide (s.blkGroup p.1 = q))).map (fun p => s.eraseCount p.1)

/-- The spread of a group's counts. -/
def State.wearSpread (s : State) (q : Nat) : Nat :=
  let c := s.groupCounts q
  match c with
  | [] => 0
  | a :: r => r.foldl max a - r.foldl min a

/-- The coldest closed extent of a group: lowest mean count, then the last program oldest (R347). -/
def State.coldest (s : State) (q : Nat) : Option (Nat × Extent) :=
  ((s.extentList.filter (fun p => decide (p.2.group = q) && p.2.closed.isSome)).foldl
    (fun (b : Option (Nat × (Nat × Extent))) p =>
      let n := ((s.extentBlks p.2).map s.eraseCount).sum
      match b with
      | none => some (n, p)
      | some y => if n < y.1 ∨ (n = y.1 ∧ p.2.wrote.toNat < y.2.2.wrote.toNat) then some (n, p) else some y) none).map (·.2)

/-- STATIC_WEAR_LEVELLING of a group: it begins when the spread exceeds L and goes on until the spread is at most
L - L/4 (R347). -/
def execStaticWearLevelling (g : Nat) (s : State) : Res :=
  .next (
    let l := s.params.spread
    let on := s.care.wearing.contains g
    let stop : State := s.putCare { s.care with wearing := s.care.wearing.filter (· ≠ g) }
    if s.boot.down then s
    else if s.wearSpread g ≤ (if on then l - l / 4 else l) then stop
    else match s.coldest g with
      | none => s
      | some (serial, x) =>
        match s.relocate serial x true with
        | some t => (t.putCare { t.care with wearing := g :: t.care.wearing.filter (· ≠ g) } : State).hcount 15 1
        | none => s)

/-! ## Erases -/

/-- Erase-intent records that name a die. -/
def State.dieIntents (s : State) (ch die : Nat) : Nat :=
  (s.intents.filter (fun i => decide (locChan (rdW s.ingot (intentOff i)) = ch) && decide (locDie (rdW s.ingot (intentOff i)) = die))).length

/-- The erase verb of one block. -/
def eraseReq (w : W64) : Req := { mapReq .ferase 0 [w, 0, w64 (2 ^ locPlane w)] with unit := 0x50 + locChan w }

/-- PENDING_ERASE: a block of the pending-erase list is erased after its intent record is written; it returns to the
free list, or is retired when the erase fails or its count reaches the limit (R125, R353, R357, R358). -/
def execPendingErase (b : Nat) (ok : Bool) (s : State) : Res :=
  .next (
    let w := mkLoc (b / 65536 / 4 / 64) (b / 65536 / 4 % 64 / 8) (b / 65536 / 4 % 8) (b / 65536 % 4) (b % 65536) 0 0 0 s.ownMember
    if s.boot.down || !s.ingotOpen || decide (s.blkUse b ≠ 3) || !s.locOk w || !s.chanUp (locChan w) ||
        decide (32 ≤ s.dieIntents (locChan w) (locDie w)) then s
    else match s.writeIntent (eraseReq w) with
    | none => s
    | some s =>
      let s := if ok then
          let n := s.eraseCount b + 1
          let s := (s.resetBlock b true).putCare { s.care with erases := FMap.set (fun _ => 0) s.care.erases b n }
          if s.params.factor * s.fam.ratedPe ≤ 100 * n then s.retireBlk b else s.setUse b 1
        else ((s.resetBlock b false).hcount 10 1).retireBlk b
      if s.care.sanit = 2 ∧ (s.blocksOf 3).isEmpty then s.putCare { s.care with sanit := 1 } else s)

/-! ## Checkpoints -/

/-- Ingot offset of a read-level copy (R474). -/
def levelOff (copy : Nat) : Nat := 0xE110000 + 0x20000 * copy

/-- The read-level checkpoint: sequence number, the library, the tables of 32 channels, the root location and sequence of the
erase-count checkpoint and a CRC-32, in the older copy; the erase counts are checkpointed with it, at a root that is a free
value (R337, R345, R474, PRESUMED, log entry 63). -/
def State.levelCopy (s : State) : State :=
  let n := s.care.levelSeq + 1
  let (root, s) := s.takeFree
  let body := toBytes 8 n ++ (List.range 256).flatMap (fun i => toBytes 8 (s.reg (sta 6 (0x800 + 8 * i))).toNat) ++
    (List.range 32).flatMap (fun ch => (List.range 256).flatMap (fun w => toBytes 8 (s.reg (chReg ch (0x800 + 8 * w))).toNat)) ++
    toBytes 8 root.toNat ++ toBytes 8 n
  (s.putIngot (wrBytes s.ingot (levelOff (n % 2)) (body ++ toBytes 4 (crc32 0 body)))).putCare { s.care with levelSeq := n, ckpt := some s.care.erases }

/-- READ_LEVEL_CHECKPOINT every 2^22 ticks (R337). -/
def execReadLevelCheckpoint (s : State) : Res :=
  .next (if s.boot.down || !s.ingotOpen || decide (s.tick.toNat % 2 ^ 22 ≠ 0) then s else s.levelCopy)

/-- A health counter. -/
def State.hval (s : State) (i : Nat) : Nat := (FMap.get (fun _ => (0 : W64)) s.health i).toNat

/-- Increase of a health counter since the newest history entry. -/
def State.hdiff (s : State) (i : Nat) : Nat := s.hval i - (FMap.get (fun _ => (0 : W64)) s.history.base i).toNat

/-- Erase counts of good blocks. -/
def State.goodCounts (s : State) : List Nat := (s.care.blocks.filter (fun p => p.2 ≠ 4)).map (fun p => s.eraseCount p.1)

/-- Mean erase count of good blocks, rounded down. -/
def State.meanCount (s : State) : Nat := s.goodCounts.sum / max 1 s.goodCounts.length

/-- A health history entry (R246, R361). -/
def State.historyEntry (s : State) : List Byte :=
  toBytes 4 (s.alm.optime / 65536) ++ toBytes 2 s.history.die.toNat ++ toBytes 2 s.history.pkg.toNat ++ toBytes 4 s.meanCount ++
  toBytes 4 (s.goodCounts.foldl max 0) ++ toBytes 4 (s.hval 11) ++
  toBytes 2 ((s.spareBlocks - s.floorBlocks) * 10000 / max 1 s.rawBlocks) ++ toBytes 2 0 ++ toBytes 8 (s.hval 0) ++ toBytes 8 (s.hval 1) ++
  toBytes 4 (s.hdiff 5) ++ toBytes 4 (s.hdiff 6) ++ toBytes 2 (s.hdiff 12) ++ toBytes 4 (s.hval 13) ++ List.replicate 10 0

/-- HEALTH_HISTORY_ENTRY once an operating hour; the oldest beyond 720 is dropped (R246). -/
def execHealthHistoryEntry (s : State) : Res :=
  .next (
    let h := s.alm.optime / 65536
    if s.boot.down ∨ h ≤ s.history.hour then s else
    let es := s.history.entries ++ [s.historyEntry]
    (s.putHistory { s.history with
        entries := es.drop (es.length - 720)
        hour := h
        base := s.health
        die := 0x8000
        pkg := 0x8000 }))

end Sys2Proof.Machine
end

