-- ==== Sys2Proof/Machine/Identify.lean ====
section
/-! DEFINITION. Identify (R218 to R220, R222, R224, R257 to R260, R273, R282, R364, R526, R535).  The byte offsets of
fields that the rules name and do not place are those of NVM Express (PRESUMED, log entry 28). -/

namespace Sys2Proof.Machine

/-- A page of `n` bytes with fields laid over zeroes: offset, value and size of each. -/
def pageOf (n : Nat) (fs : List (Nat × Nat × Nat)) : List Byte :=
  fs.foldl (fun (bs : List Byte) f => overlay bs f.1 (toBytes f.2.2 f.2.1)) (List.replicate n 0)

/-- Members enumerated. -/
def State.memberCount (s : State) : Nat := (s.members.filter (fun p => p.2.isSome)).length

/-- NAND dies fitted. -/
def State.fittedCount (s : State) : Nat := ((List.range 32).map (fun ch => popTo (s.reg (sta (0x40 + ch) 0x10)).toNat 64)).sum

/-- Power state descriptors: MP, NOPS, ENLAT, EXLAT and IDLP (R526). -/
def powerStates : List (Nat × Nat × Nat × Nat × Nat) :=
  [(8500, 0, 0, 0, 1200), (5000, 0, 100, 100, 1200), (3000, 0, 500, 500, 1000), (600, 1, 5000, 5000, 450), (150, 1, 20000, 50000, 120)]

/-- Fields of the power state descriptor `i`. -/
def powerFields (i : Nat) : List (Nat × Nat × Nat) :=
  match powerStates[i]? with
  | some (mp, nops, en, ex, idl) =>
    let o := 2048 + 32 * i
    [(o, mp, 2), (o + 3, 2 * nops, 1), (o + 4, en, 4), (o + 8, ex, 4), (o + 12, i, 1), (o + 13, i, 1), (o + 14, i, 1), (o + 15, i, 1),
     (o + 16, idl, 2), (o + 18, 0x80, 1)]
  | none => []

/-- The vendor-specific area (R219). -/
def State.vendorFields (s : State) (f : Nat) : List (Nat × Nat × Nat) :=
  [(3072, s.presence.toNat, 8), (3080, (s.reg idRole).toNat, 8), (3088, s.periodUs, 1), (3089, 0x10, 1), (3090, 0x0102, 2),
   (3092, 0x0100, 2), (3094, 0x0104, 2), (3096, if s.recovery then 0 else (s.fw.run.map (·.layout)).getD 0, 2), (3098, 0x0100, 2),
   (3100, 0x0103, 2), (3102, s.rfld (sta 0x14 0) 0 2 + s.portOf f * 4, 1), (3103, b2n s.recovery + b2n s.preserve * 2, 1), (3104, f, 2),
   (3106, if s.isManager then s.memberCount else 0, 2), (3108, s.fittedCount, 4), (3112, s.tick.toNat, 8)]

/-- Identify Controller (R152, R167, R218, R219, R364, R526, R535). -/
def State.identController (s : State) (f : Nat) : List Byte :=
  pageOf 4096 ([(64, ofBytes ((s.fw.run.map (·.version)).getD []), 8), (77, 8, 1), (78, f, 2), (80, vsReg.toNat, 4), (84, 4000000, 4), (88, 25000, 4), (96, 2 ^ 4 + 2 ^ 19, 4), (256, 0x00BF, 2),
    (258, 31, 1), (259, 15, 1), (260, 0x14, 1), (261, 0x06, 1), (262, 255, 1), (263, 4, 1), (266, s.wctemp, 2), (268, s.cctemp, 2),
    (270, 1, 2), (316, s.edstt, 2), (318, 1, 1), (319, 1, 1), (328, 3, 4), (343, if s.isManager then 0x47 else 0, 1),
    (344, if s.isManager then 2 else 0, 4), (348, if s.isManager then 2 else 0, 4), (512, 0x66, 1), (513, 0x44, 1), (516, 4096, 4),
    (520, 0x00CE, 2), (524, 0x04, 1), (536, 1, 4), (540, 4096, 4)] ++
    (List.range 5).flatMap powerFields ++ s.vendorFields f)

/-- ANA group of a namespace; 0 for one on the device's own flash. -/
def State.anaOf (s : State) (n : Nat) : Nat := ((s.layout n).map (·.group)).getD 0

/-- Identify Namespace (R222, R260, R282). -/
def State.identNs (s : State) (n : Nat) (x : NsInfo) : List Byte :=
  let units := if fmt16 x.lbaf then 63 else 255
  pageOf 4096 ([(0, x.nsze, 8), (8, x.ncap, 8), (16, x.ncap, 8), (24, 0x02, 1), (25, 7, 1), (26, x.lbaf, 1), (33, 0x09, 1), (34, units, 2),
    (36, units, 2), (92, s.anaOf n, 4), (102, x.endg, 2)] ++
    (List.range 8).flatMap (fun i => [(128 + 4 * i, fmtMeta i, 2), (130 + 4 * i, if fmt16 i then 14 else 12, 1)]))

/-- Zoned Identify Namespace (R259). -/
def State.identZoned (s : State) (x : NsInfo) : List Byte :=
  pageOf 4096 ([(0, 2, 2), (2, 1, 2), (4, 4095, 4), (8, 4095, 4), (16, 86400, 4)] ++
    (List.range 8).map (fun i => (2816 + 16 * i, s.zsize x.endg / fmtGrains i, 8)))

/-- The I/O command set independent structure. -/
def State.identIndependent (s : State) (n : Nat) (x : NsInfo) : List Byte :=
  pageOf 4096 [(4, s.anaOf n, 4), (12, x.endg, 2), (14, 1, 1)]

/-- Namespaces in ascending order. -/
def State.nsList (s : State) (ok : NsInfo → Bool) (after : Nat) : List Byte :=
  let ids := (s.nsInfo.filter (fun p => decide (after < p.1) && p.2.any ok)).map (·.1)
  ((ids.take 1024).flatMap (fun i => toBytes 4 i) ++ List.replicate 4096 0).take 4096

/-- The controllers of the device, ascending. -/
def State.controllers (s : State) : List Nat := (List.range 2048).filter s.funcExists

/-- A controller list (R220). -/
def ctrlList (ids : List Nat) : List Byte :=
  (toBytes 2 (min 2047 ids.length) ++ (ids.take 2047).flatMap (fun i => toBytes 2 i) ++ List.replicate 4096 0).take 4096

/-- Primary Controller Capabilities (R224). -/
def State.identPrimary (s : State) (f : Nat) : List Byte :=
  pageOf 4096 [(0, f, 2), (2, s.portOf f, 2), (4, 3, 1), (32, s.flexTotal false, 4), (36, s.flexUsed false 0x10000, 4), (42, 4096, 2),
    (44, 16384, 2), (46, 1, 2), (64, s.flexTotal true, 4), (68, s.flexUsed true 0x10000, 4), (74, 2048, 2), (76, 2048, 2), (78, 1, 2)]

/-- Secondary Controller List (R224, R482). -/
def State.identSecondary (s : State) (f from_ : Nat) : List Byte :=
  let cs := (s.controllers.filter (fun c => !s.isPf c && decide (s.pfOf c = f) && decide (from_ ≤ c))).take 127
  pageOf 4096 ((0, cs.length, 1) :: cs.zipIdx.flatMap (fun p =>
    let o := 32 + 32 * p.2
    let x := s.ctrl p.1
    [(o, p.1, 2), (o + 2, f, 2), (o + 4, b2n x.online, 1), (o + 8, s.funcIdx p.1, 2), (o + 10, x.vq, 2), (o + 12, x.vi, 2)]))

/-- The reply to an Identify, or its status (R220). -/
def State.identPage (s : State) (d : Cmd) : Except (BitVec 15) (List Byte) :=
  let n := d.nsid
  let csi := d.dw 11 / 2 ^ 24
  let zero := List.replicate 4096 (0 : Byte)
  let attached := (s.nsi n).filter (fun x => x.attached.contains d.func)
  let named (x : Option NsInfo) (f : NsInfo → List Byte) : Except (BitVec 15) (List Byte) :=
    if n = 0 ∨ 4096 < n then .error stNamespace else .ok ((x.map f).getD zero)
  match d.dw 10 % 256 with
  | 0x00 => named attached (s.identNs n)
  | 0x01 => .ok (s.identController d.func)
  | 0x02 => .ok (s.nsList (fun x => x.attached.contains d.func) n)
  | 0x03 => match attached with
    | some x => .ok (overlay zero 0 [4, 1, 0, 0, BitVec.ofNat 8 x.csi])
    | none => .error stNamespace
  | 0x05 =>
    if csi = 0 then named attached (fun _ => zero)
    else if csi ≠ 2 then .error stField
    else named attached (fun x => if x.csi = 2 then s.identZoned x else zero)
  | 0x06 =>
    if csi = 0 then .ok (overlay zero 0 [8, 8, 8])
    else if csi = 2 then .ok (overlay zero 0 [8])
    else .error stField
  | 0x08 => named attached (s.identIndependent n)
  | 0x10 => .ok (s.nsList (fun _ => true) n)
  | 0x11 => named (s.nsi n) (s.identNs n)
  | 0x12 => named (s.nsi n) (fun x => ctrlList (s.controllers.filter (fun c => x.attached.contains c && decide (d.dw 10 / 65536 ≤ c))))
  | 0x13 => .ok (ctrlList (s.controllers.filter (fun c => decide (d.dw 10 / 65536 ≤ c))))
  | 0x14 => if s.isPf d.func then .ok (s.identPrimary d.func) else .error stField
  | 0x15 => if s.isPf d.func then .ok (s.identSecondary d.func (d.dw 10 / 65536)) else .error stField
  | 0x1C => .ok (pageOf 4096 [(0, 5, 8)])
  | 0x1F => named (s.nsi n) (s.identIndependent n)
  | _ => .error stField

/-- IDENTIFY (R220). -/
def execIdentify (k : W64) (s : State) : Res :=
  onCmd s k true 0x06 (fun s d =>
    match s.identPage d with
    | .error st => s.finish d st
    | .ok bs => (s.toHost d 0 bs).finish d stOk)

end Sys2Proof.Machine
end

