-- ==== Sys2Proof/Machine/Logs.lean ====
section
/-! DEFINITION. Get Log Page, Device Self-test, directives and Almanac Seal (R171, R220, R245 to R252, R279, R361 to
R364, R424, R535, R542).  Layouts that the rules do not give are those of NVM Express (PRESUMED, log entry 28). -/

namespace Sys2Proof.Machine

/-! ## Get Log Page -/

/-- Page identifier, specific field, offset and length of a Get Log Page. -/
def Cmd.lid (d : Cmd) : Nat := d.dw 10 % 256
def Cmd.lsp (d : Cmd) : Nat := d.dw 10 / 256 % 128
def Cmd.logOff (d : Cmd) : Nat := d.dw 12 + d.dw 13 * 2 ^ 32
def Cmd.logLen (d : Cmd) : Nat := (d.dw 10 / 65536 + d.dw 11 % 65536 * 65536 + 1) * 4

/-- The part of a page that a command asks for; 0 beyond the page's end (R245). -/
def Cmd.part (d : Cmd) (page : List Byte) : List Byte := (page.drop d.logOff ++ List.replicate d.logLen 0).take d.logLen

/-- Available Spare (R362). -/
def State.availableSpare (s : State) : Nat := min 100 (100 * (s.spareBlocks - s.floorBlocks) / max 1 s.createFloor)

/-- Whether a temperature threshold of a controller is crossed (R535). -/
def State.thresholdCrossed (s : State) (f : Nat) : Bool :=
  [(0, kelvin s.composite), (1, kelvin s.dieMax), (2, kelvin s.pkgMax)].any (fun p =>
    decide (s.tempThr f p.1 0 ≤ p.2) || decide (p.2 < s.tempThr f p.1 1))

/-- Critical Warning (R363, R535). -/
def State.criticalWarning (s : State) (f : Nat) : Nat :=
  b2n (decide (s.availableSpare < 10) || s.preserve) + b2n (s.thresholdCrossed f || s.stopped) * 2 +
  b2n (s.anyHeld || !s.lostRanges.isEmpty) * 4 + b2n (s.preserve || s.recovery) * 8

/-- Page 0x02 (R362). -/
def State.smartPage (s : State) (f : Nat) : List Byte :=
  let cw := s.criticalWarning f
  let units (n : Nat) : Nat := ceilDiv (n * 8) 1000
  pageOf 512 [(0, cw, 1), (1, kelvin s.composite, 2), (3, s.availableSpare, 1), (4, 10, 1),
    (5, min 255 (100 * s.meanCount / max 1 s.fam.ratedPe), 1), (6, Nat.land cw 0x0D, 1), (32, units (s.hval 0), 16), (48, units (s.hval 1), 16),
    (64, s.hval 2, 16), (80, s.hval 3, 16), (96, s.hval 21, 16), (112, s.hval 20, 16), (128, s.alm.optime / 65536, 16), (144, s.hval 19, 16),
    (160, s.hval 8, 16), (192, s.history.warnMin, 4), (196, s.history.critMin, 4), (200, kelvin s.dieMax, 2), (202, kelvin s.pkgMax, 2)]

/-- VERSION of the image in a bank; 0 where the bank failed its last verification (R171). -/
def State.bankVersion (s : State) (b : Nat) : List Byte :=
  if s.fw.bad.contains b then List.replicate 8 0 else rdNor s (bankOff b + 0x20) 8

/-- Page 0x03 (R171). -/
def State.slotPage (s : State) : List Byte :=
  let run := (s.fw.run.map (·.bank + 1)).getD 0
  let next := s.selectedBank + 1
  overlay (overlay (pageOf 512 [(0, run + (if next = run then 0 else next) * 16, 1)]) 8 (s.bankVersion 0)) 16 (s.bankVersion 1)

/-- Page 0x05: the commands implemented (R220, R221). -/
def effectsPage : List Byte :=
  pageOf 4096 ((adminOpcodes.map (fun op => (4 * op, 1, 4))) ++ ioOpcodes.map (fun op => (1024 + 4 * op, 1, 4)))

/-- Page 0x06: the self-test in progress and the newest 20 results (R364). -/
def State.testPage (s : State) : List Byte :=
  let now := match s.care.test with
    | some (code, _, began) => [(0, code, 1), (1, min 99 (100 * ((s.tick.toNat - began.toNat) * s.periodUs) / (s.testMinutes code * 60000000)), 1)]
    | none => []
  pageOf 564 (now ++ (List.range 20).flatMap (fun i =>
    let o := 4 + 28 * i
    match s.care.results[i]? with
    | some (code, r, g) => [(o, r + code * 16, 1), (o + 1, g, 1)]
    | none => [(o, 0x0F, 1)]))

/-- Page 0x0C: the ANA groups of a manager and their volumes (R424). -/
def State.anaPage (s : State) : List Byte :=
  let vols (g : Nat) : List Nat := (s.volumes.filter (fun l => l.group = g)).map (·.vol)
  pageOf 16 [(8, 2, 2)] ++ [1, 2].flatMap (fun g =>
    pageOf 32 [(0, g, 4), (4, (vols g).length, 4), (16, (s.anaGroup g).state, 1)] ++ (vols g).flatMap (fun v => toBytes 4 v))

/-- Page 0x20: the one FDP configuration (R279). -/
def State.fdpConfig (s : State) : List Byte :=
  pageOf 16 [(4, 16 + 1088, 4)] ++
  pageOf 64 [(0, 1088, 2), (2, 0x80 + s.rgif, 1), (4, s.nrg, 4), (8, 256, 2), (10, 256, 2), (12, 4096, 4), (16, extentCap s.fam * 4096, 8),
    (24, 259200, 4)] ++ (List.replicate 256 [(1 : Byte), 0, 0, 0]).flatten

/-- Page 0x21: which placement handles are in use. -/
def State.ruhPage (s : State) : List Byte :=
  pageOf (8 + 8 * 256) ((0, 256, 2) :: (List.range 256).map (fun h =>
    (8 + 8 * h, b2n (s.nsInfo.any (fun p => p.2.any (fun x => x.phndls.contains h))), 1)))

/-- Page 0x22: FDP statistics. -/
def State.fdpStats (s : State) : List Byte := pageOf 64 [(0, s.fdp.hostBytes, 16), (16, s.fdp.mediaBytes, 16), (32, s.fdp.erasedBytes, 16)]

/-- Page 0x23: FDP events, of the host or of the controller (R280, R281). -/
def State.fdpEvents (s : State) (host : Bool) : List Byte :=
  let es := (s.fdp.events.filter (fun e => decide (e.1 < 0x80) == host)).take 63
  pageOf 64 [(0, es.length, 4)] ++ es.flatMap (fun e =>
    pageOf 64 [(0, e.1, 1), (1, 7, 1), (2, e.2.2.1 + e.2.2.2 * 2 ^ (16 - s.rgif), 2), (12, e.2.1, 4), (32, e.2.2.2, 2), (34, e.2.2.1, 1)])

/-- Page 0x81: sanitize status. -/
def State.sanitPage (s : State) : List Byte :=
  pageOf 512 [(0, if s.care.sanit = 2 then 0 else 0xFFFF, 2), (2, s.care.sanit, 2), (8, 0xFFFFFFFF, 4), (12, 0xFFFFFFFF, 4), (16, 0xFFFFFFFF, 4),
    (20, 0xFFFFFFFF, 4), (24, 0xFFFFFFFF, 4), (28, 0xFFFFFFFF, 4)]

/-- Page 0xC0 (R246). -/
def State.historyPage (s : State) : List Byte :=
  pageOf 64 [(0, s.history.entries.length, 4), (4, s.history.hour, 4)] ++ s.history.entries.flatten

/-- Page 0xC1 (R247). -/
def State.almanacPage (s : State) : List Byte :=
  pageOf 64 [(0, s.alm.oldest, 4), (4, s.alm.held, 4), (8, s.alm.rmark, 4), (12, b2n (decide (almSlots ≤ s.alm.held)), 1)] ++
  (List.range s.alm.held).flatMap (fun i => rdBytes s.ingot (almOff (s.alm.oldest + i)) 64)

/-- Page 0xC2 (R248). -/
def State.lostPage (s : State) : List Byte := pageOf 64 [(0, s.lostRanges.length, 4), (4, s.lostGen, 4)] ++ s.lostRanges.flatten

/-- Page 0xC3 (R249).  No rule says how a manager learns of the flits replayed on a member's links: a free word each (DESIGN CHOICE, log
entry 75). -/
def State.memberPage (s : State) : List Byte :=
  if !s.isManager then pageOf 64 [(1, s.rfld idRole 4 1, 1)] else
  pageOf 64 [(0, s.memberCount, 1), (1, s.rfld idRole 4 1, 1)] ++ (List.range 66).flatMap (fun i =>
    match FMap.get (fun _ => (none : Option Member)) s.members i with
    | some m => pageOf 64 [(0, i, 1), (1, m.state, 1), (2, if i < 2 then 0xFF else m.chain, 1), (3, if i < 2 then 0 else m.pos, 1), (4, m.ver, 2),
        (6, m.dies, 2), (8, m.cap, 4), (12, m.busy / s.periodUs, 4), (16, (Config.freeWord (s.free + i)).toNat, 4), (20, m.recon, 4), (24, m.temp, 2)]
    | none => pageOf 64 [(0, i, 1), (2, if i < 2 then 0xFF else 0, 1)])

/-- Page 0xC4 (R250). -/
def State.tickPage (s : State) : List Byte :=
  pageOf 64 [(0, s.periodUs, 4), (8, s.tick.toNat, 8)] ++ (List.range 64).flatMap (fun i =>
    let c := BitVec.ofNat 6 i
    let k := s.core c
    if !s.corePresent c then List.replicate 32 0 else
    pageOf 32 [(0, i, 1), (1, match k.state with
        | .stopped => 0
        | .running => 1
        | .faulted => 2, 1), (2, b2n k.actBank, 1), (3, k.lastSlot.toNat, 1), (4, k.peak.toNat, 2), (6, k.defer.toNat, 2), (8, k.ovr.toNat, 1),
      (9, k.bex.toNat, 1), (16, s.imageId.toNat, 8)])

/-- Page 0xC5 (R251). -/
def State.measurePage (s : State) : List Byte :=
  (List.range 16).flatMap (fun i => s.mr i) ++ pageOf 256 [(0, s.trust.hist.length, 4), (4, b2n s.trust.lost, 1)] ++
  s.trust.hist.zipIdx.flatMap (fun p => pageOf 16 [(0, p.1.1, 1), (2, p.2, 2)] ++ toBytes 48 p.1.2.toNat)

/-- A page that Get Log Page serves, other than 0xC1 and 0xC4 (R220, R245). -/
def State.logPage (s : State) (d : Cmd) : Option (List Byte) :=
  match d.lid with
  | 0x01 => some (List.replicate 16384 0)
  | 0x02 => some (s.smartPage d.func)
  | 0x03 => some s.slotPage
  | 0x05 => some effectsPage
  | 0x06 => some s.testPage
  | 0x0C => if s.isManager then some s.anaPage else none
  | 0x20 => some s.fdpConfig
  | 0x21 => some s.ruhPage
  | 0x22 => some s.fdpStats
  | 0x23 => some (s.fdpEvents (decide (d.lsp % 2 = 1)))
  | 0x81 => some s.sanitPage
  | 0xC0 => some s.historyPage
  | 0xC2 => some s.lostPage
  | 0xC3 => some s.memberPage
  | 0xC5 => some s.measurePage
  | _ => none

/-- A Get Log Page of one of the pages `mine`: the vendor pages on physical functions only, and in the recovery state
pages 0x02, 0xC1 and 0xC5 only (R180, R245). -/
def onLog (s : State) (k : W64) (mine : Nat → Bool) (f : State → Cmd → State) : Res :=
  onCmd s k true 0x02 (fun t d =>
    if !mine d.lid then s
    else if s.recovery ∧ d.lid ≠ 0x02 ∧ d.lid ≠ 0xC1 ∧ d.lid ≠ 0xC5 then t.finish d stOpcode
    else if 0xC0 ≤ d.lid ∧ d.lid ≤ 0xC5 ∧ !s.isPf d.func then t.finish d stLogPage
    else if d.logOff % 4 ≠ 0 then t.finish d stField
    else f t d)

/-- GET_LOG_PAGE (R245). -/
def execGetLogPage (k : W64) (s : State) : Res :=
  onLog s k (fun l => l ≠ 0xC1 ∧ l ≠ 0xC4) (fun s d =>
    match s.logPage d with
    | some page => ((s.toHost d 0 (d.part page)).putFree (if d.lid = 0xC3 then s.free + 66 else s.free) : State).finish d stOk
    | none => s.finish d stLogPage)

/-- The read mark after a read of page 0xC1: the records returned whole raise it when they leave no unread record
before them (R247, DEDUCED, log entry 65). -/
def State.readMark (s : State) (d : Cmd) : Nat :=
  let lo := ceilDiv (d.logOff - 64) 64
  let hi := min s.alm.held ((d.logOff + d.logLen - 64) / 64)
  if lo < hi ∧ s.alm.oldest + lo ≤ s.alm.rmark then max s.alm.rmark (s.alm.oldest + hi) else s.alm.rmark

/-- GET_LOG_PAGE_ALMANAC (R247). -/
def execGetLogPageAlmanac (k : W64) (s : State) : Res :=
  onLog s k (· = 0xC1) (fun s d =>
    ((s.putAlm { s.alm with rmark := s.readMark d } : State).toHost d 0 (d.part s.almanacPage)).finish d stOk)

/-- GET_LOG_PAGE_TICK_STATISTICS: LSP bit 0 clears the counters after the copy (R250). -/
def execGetLogPageTickStatistics (k : W64) (s : State) : Res :=
  onLog s k (· = 0xC4) (fun s d =>
    let page := s.tickPage
    let s := if d.lsp % 2 = 1 then s.mapCores (fun (c : Core) => { c with peak := 0, defer := 0, ovr := 0, bex := 0 }) else s
    (s.toHost d 0 (d.part page)).finish d stOk)

/-! ## Device Self-test -/

/-- A Device Self-test of one of the codes `mine` (R364). -/
def onTest (s : State) (k : W64) (mine : Nat → Bool) (f : State → Cmd → State) : Res :=
  onCmd s k true 0x14 (fun t d => if mine (d.dw 10 % 16) then f t d else s)

/-- A test starts, one at a time for the device. -/
def State.startTest (s : State) (d : Cmd) : State :=
  if s.care.test.isSome then s.finish d stSelfTest
  else (s.putCare { s.care with test := some (d.dw 10 % 16, d.nsid, s.tick) } : State).finish d stOk

/-- SELF_TEST_SHORT (R364). -/
def execSelfTestShort (k : W64) (s : State) : Res := onTest s k (· = 1) (fun s d => s.startTest d)

/-- SELF_TEST_EXTENDED (R364). -/
def execSelfTestExtended (k : W64) (s : State) : Res := onTest s k (· = 2) (fun s d => s.startTest d)

/-- SELF_TEST_ABORT; a code that no test has completes with Invalid Field in Command (R364). -/
def execSelfTestAbort (k : W64) (s : State) : Res :=
  onTest s k (fun c => c ≠ 1 ∧ c ≠ 2) (fun s d => if d.dw 10 % 16 = 15 then (s.endTest 1).finish d stOk else s.finish d stField)

/-! ## Directives -/

/-- Directive type and operation. -/
def Cmd.dtype (d : Cmd) : Nat := d.dw 11 / 256 % 256
def Cmd.doper (d : Cmd) : Nat := d.dw 11 % 256

/-- DIRECTIVE_SEND: the Data Placement directive is enabled while Flexible Data Placement is, and in no other way
(R220, R278). -/
def execDirectiveSend (k : W64) (s : State) : Res :=
  onCmd s k true 0x19 (fun s d =>
    if d.dtype = 0 ∧ d.doper = 1 ∧ d.dw 12 / 256 % 256 = 2 ∧ decide (d.dw 12 % 2 = 1) = s.fdp.on then s.finish d stOk
    else s.finish d stField)

/-- DIRECTIVE_RECEIVE: the Identify directive's parameters: directives supported, enabled and persistent (R220). -/
def execDirectiveReceive (k : W64) (s : State) : Res :=
  onCmd s k true 0x1A (fun s d =>
    if d.dtype = 0 ∧ d.doper = 1 then
      let on := 1 + b2n s.fdp.on * 4
      let n := (d.dw 10 + 1) * 4
      (s.toHost d 0 ((pageOf 4096 [(0, 5, 1), (32, on, 1), (64, on, 1)] ++ List.replicate n 0).take n)).finish d stOk
    else s.finish d stField)

/-! ## Almanac Seal -/

/-- A seal of every record below ordinal `n`: the anchor first, then the valid marks of the sealed slots (R252,
R542). -/
def State.sealTo (s : State) (n : Nat) : State :=
  let a := s.alm
  let m := wrNum s.ingot anchorOff 8 (anchorWord n (a.held - (n - a.oldest)))
  let m := (List.range (n - a.oldest)).foldl (fun (m : FMap Byte) i => wrNum m (almOff (a.oldest + i) + 60) 4 0) m
  (s.putIngot m).putAlm { a with oldest := n, held := a.held - (n - a.oldest) }

/-- ALMANAC_SEAL (R252, R507, R542). -/
def execAlmanacSeal (k : W64) (s : State) : Res :=
  onCmd s k true 0xC0 (fun s d =>
    if !s.isPf d.func then s.finish d stOpcode
    else if d.nsid ≠ 0 then s.finish d stField
    else if !s.sessions.any (fun x => decide (x.sid = BitVec.ofNat 32 (d.dw 11)) && x.established && s.proves x (fun o => o.sealing)) then
      s.finish d stAccessDenied
    else
      let n := min (d.dw 10 + 1) s.alm.rmark
      let s := if s.alm.oldest < n then s.sealTo n else s
      s.respond d (BitVec.ofNat 32 s.alm.oldest) 0 stOk)

end Sys2Proof.Machine
end

