-- ==== Sys2Proof/Machine/Memories.lean ====
section
/-! DEFINITION. Errors of the on-chip SRAM and of external DRAM: rank retirement, migration and the
poison log (R445, R455 to R464, R468, R587). -/

namespace Sys2Proof.Machine

/-- Whether an array number names an array of this device (R462). -/
def State.sramArray (s : State) (arr : Nat) : Bool :=
  if arr < 0x80 then s.corePresent (BitVec.ofNat 6 arr)
  else if arr < 0x88 then bit (s.reg (sta 0x17 0x10)) (32 + arr - 0x80)
  else if 0x90 ≤ arr ∧ arr < 0xB0 then bit (s.reg (sta 0x17 0x10)) (arr - 0x90)
  else decide (arr ≤ 0x8A) || decide (arr = 0xB0) || decide (arr = 0xB1) || decide (arr = 0xB2)

/-- 64-bit words of an array, by the division of the on-chip SRAM (R14): the core stores, the clusters, the tundish, the
16,384 contexts and doorbell shadows, the hazard table with the tag and map caches, the frame buffers, the staging; R14
gives the patch RAMs and the miscellaneous SRAM their size together (DESIGN CHOICE, log entry 149). -/
def sramWords (arr : Nat) : Nat :=
  if arr < 0x80 then 0x2000
  else if arr < 0x88 then 0x20000
  else if arr = 0x88 then 0x400000
  else if arr ≤ 0x8A then 0x80000
  else if 0x90 ≤ arr ∧ arr < 0xB0 then 0x4000
  else 0x40000

/-- SRAM_CORRECTED_READ: a single-bit error is corrected and tracked; the stored word stays (R463,
R464). -/
def execSramCorrectedRead (arr : BitVec 8) (word : BitVec 24) (s : State) : Res :=
  .next (if s.boot.down ∨ !s.sramArray arr.toNat ∨ sramWords arr.toNat ≤ word.toNat then s else s.rtCorrected arr.toNat word.toNat)

/-- SRAM_UNCORRECTABLE_ERROR: a controller fault reset of cause 1 (R469, R587). -/
def execSramUncorrectableError (arr : BitVec 8) (word : BitVec 24) (s : State) : Res :=
  .next (if s.boot.down ∨ !s.sramArray arr.toNat ∨ sramWords arr.toNat ≤ word.toNat then s else s.faultReset 1 arr.toNat word.toNat)

/-- Poison the words of a 64 B line of DRAM (R445, R458). -/
def State.poisonLine (s : State) (line : Nat) : State := s.poisonKeys ((List.range 8).map (fun i => 2 ^ 48 + line * 8 + i))

/-! ## Ranks -/

/-- DRAM_RMAP of a channel (R456). -/
def rmapReg (ch : Nat) : Nat := sta 8 (0x300 + 8 * ch)

/-- Whether a physical rank is fitted, and whether it has been retired. -/
def State.rankFitted (s : State) (ch r : Nat) : Bool := decide (FMap.get (fun _ => 0) s.dr.fit (ch * 4 + r) ≠ 0)
def State.rankRetired (s : State) (ch r : Nat) : Bool := bit (s.reg (rmapReg ch)) (12 + r)

/-- The logical rank that a physical rank carries (R456). -/
def State.logicalOf (s : State) (ch r : Nat) : Option Nat :=
  (List.range (FMap.get (fun _ => 0) s.dr.logical ch)).find? (fun l =>
    decide (s.rfld (rmapReg ch) (2 * l) 2 = r) && !bit (s.reg (rmapReg ch)) (8 + l))

/-- Channel, logical rank and physical rank that hold a visible line, by the interleave set and the rank maps; `line` is bits
[38:6] of the address (R443). -/
def State.lineHome (s : State) (line : Nat) : Option (Nat × Nat × Nat) :=
  let n := 2 ^ s.rfld (sta 8 0) 41 2
  let set := (List.range 4).filter (fun c => bit (s.reg (sta 8 0)) (43 + c))
  let c := set.getD (line / 2 % n) 0
  let o := (line / 2 / n * 2 + line % 2) * 64
  let base (l : Nat) : Nat := ((List.range l).map (fun i => FMap.get (fun _ => 0) s.dr.lsize (4 * c + i))).sum
  ((List.range (FMap.get (fun _ => 0) s.dr.logical c)).find? (fun l => decide (base l ≤ o) && decide (o < base (l + 1)))).map (fun l =>
    (c, l, s.rfld (rmapReg c) (2 * l) 2))

/-- Whether a visible line may lie on a physical rank: on the one that carries its logical rank, on the destination of a
migration of it, or anywhere once it lies in the reserves (R443, R456, R459). -/
def State.lineOn (s : State) (line ch r : Nat) : Bool :=
  match s.lineHome line with
  | none => false
  | some (c, l, q) =>
    bit (s.reg (rmapReg c)) (8 + l) || (decide (c = ch) && decide (q = r)) ||
    s.dr.mig.any (fun m => decide (m.1 = c) && decide (m.2.1 = q) && (match m.2.2 with
      | some x => decide (c = ch) && decide (x = r)
      | none => true))

/-- DRAM_RAS and DRAM_SIZE fields. -/
def dramRas : Nat := sta 8 0x18
def State.noDest (s : State) : Bool := bit (s.reg dramRas) 0
def State.reserveMode (s : State) : Bool := bit (s.reg (sta 8 0)) 40

/-- DRAM_RAS shows the running migration. -/
def State.showMig (s : State) : State :=
  match s.dr.mig with
  | (ch, r, _) :: _ => (((s.setRfld dramRas 1 1 1).setRfld dramRas 2 2 ch).setRfld dramRas 4 2 r).setRfld dramRas 16 32 0
  | [] => s.setRfld dramRas 1 1 0

/-- The rank is retired and its migration starts; a rank that carries nothing has nothing to migrate
(R458). -/
def State.retireRank (s : State) (ch r : Nat) (dest : Option Nat) : State :=
  let carried := (s.logicalOf ch r).isSome
  let s := s.setRfld (rmapReg ch) (12 + r) 1 1
  let idle := s.dr.mig.isEmpty
  let s := if carried then s.putDr { s.dr with mig := s.dr.mig ++ [(ch, r, dest)] } else s
  let s := if carried && idle then s.showMig else s
  (s.rasEvent 2 (ch + r * 4)).almRecord 0x50 [w64 ch, w64 r, 0, 0, 0]

/-- No destination remains: the rank is left unfitted at the next start (R460). -/
def State.rankLost (s : State) (ch r : Nat) : State :=
  (s.putDr { s.dr with bad := s.dr.bad ++ [(ch, r)] } : State).faultReset 6 ch r

/-- DRAM_UNCORRECTABLE_ERROR: the line is poisoned; the rank is retired to the channel's spare or to
the reserves, and without a destination the device fault-resets (R458, R460, R587).  `line` is bits
[38:6] of the visible address. -/
def execDramUncorrectableError (ch : Nat) (rank : Nat) (line : Nat) (s : State) : Res :=
  .next (
    if s.boot.down ∨ !s.domeOn 6 ∨ 4 ≤ ch ∨ 4 ≤ rank ∨ !s.rankFitted ch rank ∨ s.dramSize ≤ line * 64 ∨ !s.lineOn line ch rank then s else
    let s := s.countRfld (sta 8 8) 32 16 1
    if s.rankRetired ch rank then s.poisonLine line
    else if s.noDest then s.rankLost ch rank
    else
      match s.dr.spare.find? (fun p => p.1 = ch) with
      | some (_, q) =>
        let s := s.poisonLine line
        (s.putDr { s.dr with spare := s.dr.spare.filter (fun p => p.1 ≠ ch) } : State).retireRank ch rank
          (if q = rank then none else some q)
      | none =>
        if s.reserveMode ∧ !s.dr.spent then
          let s := s.poisonLine line
          (s.putDr { s.dr with spent := true } : State).retireRank ch rank none
        else s.rankLost ch rank)

/-- Lines of a rank's visible contents. -/
def State.rankLines (s : State) (ch r : Nat) : Nat :=
  let n := FMap.get (fun _ => 0) s.dr.fit (ch * 4 + r)
  (if s.reserveMode then n - n / 8 else n) / 64

/-- MIGRATION_DONE: the rank map names the spare, or marks the logical rank as migrated into the
reserves; DRAM_RAS.MIG falls and kind 3 posts (R456, R459, R468). -/
def execMigrationDone (s : State) : Res :=
  .next (match s.dr.mig with
    | [] => s
    | (ch, r, dest) :: rest =>
      if s.boot.down ∨ !s.domeOn 6 then s else
      let s := match s.logicalOf ch r, dest with
        | some l, some q => s.setRfld (rmapReg ch) (2 * l) 2 q
        | some l, none => s.setRfld (rmapReg ch) (8 + l) 1 1
        | none, _ => s
      let n := min (s.rankLines ch r) (2 ^ 32 - 1)
      let s := (s.putDr { s.dr with mig := rest } : State).showMig
      let s := if rest.isEmpty then s.setRfld dramRas 16 32 n else s
      s.rasEvent 3 (ch + r * 4))

end Sys2Proof.Machine
end

