-- ==== Sys2Proof/Machine/ResidentSet.lean ====
section
/-! DEFINITION. The resident set's own tables and settings: its ephemeris tables, its tundish minima, and the registers that
it writes at its start (R588 to R590). -/

namespace Sys2Proof.Machine

/-! ## The kinds of core -/

/-- The control core (0), an I/O core (1) or a background core (2), on a device of `n` cores (R588). -/
def coreKind (n c : Nat) : Nat := if c = 0 then 0 else if c < n - (if n = 64 then 8 else 4) then 1 else 2

/-! ## The ephemeris tables -/

/-- A row of a resident table at the 2 µs period: drain class, or none for a timed slot; period; phase; drain; BOUND (R589). -/
structure ResSlot where
  cls : Option Nat
  period : Nat
  phase : Nat
  drain : Nat
  bound : Nat
  deriving DecidableEq, Repr

/-- The table of the control core, of an I/O core and of a background core, slot 0 first (R589). -/
def residentTable (kind : Nat) : List ResSlot :=
  match kind with
  | 0 => [⟨some 0, 1, 0, 2, 1216⟩, ⟨some 1, 1, 0, 2, 816⟩, ⟨some 2, 1, 0, 2, 616⟩, ⟨none, 4, 0, 0, 300⟩, ⟨none, 16, 1, 0, 250⟩]
  | 1 => [⟨some 0, 1, 0, 2, 656⟩, ⟨some 1, 1, 0, 2, 496⟩, ⟨some 2, 1, 0, 3, 864⟩, ⟨some 3, 1, 0, 2, 616⟩, ⟨some 4, 1, 0, 2, 376⟩,
          ⟨none, 4, 0, 0, 300⟩, ⟨none, 16, 1, 0, 250⟩, ⟨none, 8, 2, 0, 200⟩, ⟨none, 256, 3, 0, 400⟩]
  | _ => [⟨some 2, 1, 0, 3, 864⟩, ⟨some 1, 1, 0, 2, 496⟩, ⟨some 3, 1, 0, 2, 576⟩, ⟨some 4, 1, 0, 2, 376⟩, ⟨none, 4, 0, 0, 300⟩,
          ⟨none, 4, 1, 0, 300⟩, ⟨none, 4, 2, 0, 300⟩, ⟨none, 256, 3, 0, 200⟩]

/-- Arbitration level of every slot of a core: P1, or P4 on a background core (R589). -/
def residentLevel (kind : Nat) : Nat := if kind = 2 then 4 else 1

/-- Whether a slot word has the kind, class and level of a row; at the 2 µs period its drain count and BOUND as well, at the
others a drain count of at least 1 (R31, R589). -/
def ResSlot.fits (r : ResSlot) (sel level : Nat) (w : W64) : Bool :=
  bit w 12 && decide (fld w 13 2 = b2n r.cls.isSome) && decide (fld w 48 6 = r.cls.getD 0) && decide (fld w 29 3 = level) &&
  (if sel = 1 then
    decide (fld w 16 13 = r.bound) && decide (fld w 32 8 + 1 = r.period) && decide (fld w 40 8 = r.phase) && decide (fld w 56 8 = r.drain)
  else r.cls.isNone || decide (1 ≤ fld w 56 8))

/-- Whether a core's table in an image is the resident set's: its rows in slots 0 on, and no other slot in use below the
loader's. -/
def Image.residentCore (m : Image) (n sel c : Nat) : Bool :=
  let k := coreKind n c
  let rows := residentTable k
  let ws := m.table c
  rows.zipIdx.all (fun p => p.1.fits sel (residentLevel k) (ws.getD p.2 0)) &&
  ((List.range 62).drop rows.length).all (fun i => !bit (ws.getD i 0) 12)

/-! ## The tundish -/

/-- The on-chip minima of a class, pools 0 to 4 (R590). -/
def residentMin (cls : Nat) : List Nat :=
  match cls with
  | 0 => [0, 1024, 64, 0, 0]
  | 1 => [0, 512, 256, 16, 4]
  | 2 => [0, 128, 64, 0, 0]
  | 3 => [0, 128, 0, 16, 4]
  | 4 => [512, 64, 0, 0, 0]
  | 62 => [2048, 0, 0, 0, 4]
  | 63 => [8192, 0, 0, 0, 0]
  | _ => [0, 0, 0, 0, 0]

/-- The minimum of a class in a part of a pool as it stands with every write made to it. -/
def State.minWritten (s : State) (cls p : Nat) (ext : Bool) : Nat :=
  let k := cls * 16 + p * 2 + b2n ext
  match s.tunMinPend.reverse.find? (fun x => x.1 = k) with
  | some x => x.2
  | none => s.minOf cls p ext

/-- Whether the tundish minima are those of the resident set: of the extension parts only class 1 has one, half of each part's
count (R590). -/
def State.residentMins (s : State) : Bool :=
  (List.range 64).all (fun cls => (List.range 5).all (fun p =>
    decide (s.minWritten cls p false = (residentMin cls).getD p 0) &&
    decide (s.minWritten cls p true = if cls = 1 then s.poolCount p true / 2 else 0)))

/-- Whether an image whose configuration has been written is the resident set, so far as R588 to R590 tell (DESIGN
CHOICE, log entry 157). -/
def State.residentImage (s : State) (m : Image) : Bool :=
  let n := s.presentCores.length
  decide (m.coreList = List.range n) && m.coreList.all (fun c => m.residentCore n s.sel c) && s.residentMins

/-! ## Registers -/

/-- A core and class where a register holds them: [5:0] or [13:8], and the six bits above (R588, R590). -/
def State.routeEvents (s : State) (off lo core cls : Nat) : State := (s.setRfld off lo 6 core).setRfld off (lo + 6) 6 cls

/-- Arrivals of a Span type: first core, SPREAD and class, enabled (R387, R398, R588). -/
def State.setArr (s : State) (typ core spread cls : Nat) : State :=
  s.setReg (sta 0xD (0x2000 + 8 * typ)) (w64 (core + spread * 2 ^ 6 + cls * 2 ^ 8 + 2 ^ 14))

/-- The types that the resident set enables in its role, and where they go (R398, R588). -/
def State.residentArrivals (s : State) : State :=
  if s.isWorker then
    ([0x12, 0x13, 0x16, 0x17].foldl (fun (s : State) t => s.setArr t 0 0 2) ((s.setArr 0x11 1 3 0).setArr 0x10 9 3 0))
  else if s.isManager then (s.setArr 0x14 1 3 0).setArr 0x15 9 3 0
  else s

/-- What the resident set writes at its start: reset, RAS, thermal, dome and doorbell events go to core 0, class 2, and Span
arrivals as R588 gives (R588 to R590). -/
def State.residentSettings (s : State) : State :=
  let s := ((s.routeEvents (sta 0x15 0) 0 0 2).routeEvents (sta 0x12 0) 8 0 2).routeEvents (sta 0xF 0) 0 0 2
  let s := (List.range 64).foldl (fun (s : State) c => s.routeEvents (sta 0xE (0x600 + 8 * c)) 0 0 2) s
  (s.routeEvents (sta 0xE 0x820) 0 0 2).residentArrivals

end Sys2Proof.Machine
end

