-- ==== Sys2Proof/Machine/Stripes.lean ====
section
/-! DEFINITION. Stripes of volumes: sealing, rebuild, the parity patrol and reshapes (R417, R421, R430 to R439). -/

namespace Sys2Proof.Machine

/-! ## Ownership and need -/

/-- Whether this manager owns a volume's group and holds its majority, so that it may write it, and has raised its counter above
the peer's numbers (R199, R415, R426). -/
def State.ownsVolume (s : State) (l : Layout) : Bool :=
  s.isManager && (s.anaGroup l.group).owned && s.majority l && s.wsnFloor.isNone

/-- Stripes of a zone that hold a committed grain, up to the zone's capacity (R400). -/
def State.usedStripes (s : State) (l : Layout) (z : Nat) : Nat :=
  ceilDiv (min (s.zwp (s.volZone l.vol z)) (s.zcap l.vol)) (16 * l.k)

/-- A stripe from each part of a zone that its rebuild has divided: below CUR, and from CUR on (R430). -/
def State.partStripes (s : State) (l : Layout) (z : Nat) : List Nat :=
  let e := s.ztab (s.volZone l.vol z)
  let n := s.usedStripes l z
  let c := if bit e 7 then fld e 16 15 else 0
  (if 0 < c ∧ 0 < n then [0] else []) ++ (if c < n then [c] else [])

/-- Whether position `j` of stripe `i` awaits rebuild and has a member to rebuild it on (R430). -/
def State.mayRebuild (s : State) (l : Layout) (z i j : Nat) : Bool :=
  s.awaits l z i j && ((s.setNow l z).getD j (none, 0)).1.isSome

/-- Whether a zone awaits rebuild. -/
def State.zoneAwaits (s : State) (l : Layout) (z : Nat) : Bool :=
  (s.partStripes l z).any (fun i => (List.range l.w).any (fun j => s.mayRebuild l z i j))

/-- Lowest remaining redundancy among a zone's stripes, before any unreadable grain is met (R430). -/
def State.redundancy (s : State) (l : Layout) (z : Nat) : Nat :=
  ((s.partStripes l z).map (fun i => l.m - ((List.range l.w).filter (fun j => s.awaits l z i j)).length)).foldl min l.m

/-- The zones of the volumes that this manager owns. -/
def State.ownZones (s : State) : List (Layout × Nat) :=
  (s.volumes.filter s.ownsVolume).flatMap (fun l => (List.range l.zones).map (fun z => (l, z)))

/-- The zone that ranks first for rebuild (R431). -/
def State.firstRebuild (s : State) : Option (Nat × Nat × Nat × Nat) :=
  ((s.ownZones.filter (fun p => s.zoneAwaits p.1 p.2)).map (fun p => (s.redundancy p.1 p.2, s.volZone p.1.vol p.2, p.1.vol, p.2))).foldl
    (fun (b : Option (Nat × Nat × Nat × Nat)) x =>
      match b with
      | none => some x
      | some y => if x.1 < y.1 ∨ (x.1 = y.1 ∧ x.2.1 < y.2.1) then some x else some y) none

/-! ## Sending -/

/-- The runs of consecutive entries present in a list, each with its first index. -/
def presentRuns {α : Type} : Nat → List (Option α) → List (Nat × List α)
  | _, [] => []
  | i, none :: r => presentRuns (i + 1) r
  | i, some x :: r =>
    match presentRuns (i + 1) r with
    | (j, xs) :: t => if j = i + 1 then (i, x :: xs) :: t else (i, [x]) :: (j, xs) :: t
    | [] => [(i, [x])]

/-- A GREAD of `n` member grains of a volume. -/
def State.askGrains (s : State) (v m addr n : Nat) (level : BitVec 3) : State :=
  s.rsend m 0x11 0 level [w64 (volKey v addr), w64 (n - 1)] []

/-- Grains with their tags as they stand are sent to a member; they credit no number (R432). -/
def State.sendKept (s : State) (v m addr : Nat) (level : BitVec 3) (gs : List (List Byte × List Byte)) : State :=
  s.rsend m 0x10 0x02 level [w64 (volKey v addr), w64 (gs.length - 1), 0, 0] (framed gs)

/-- Tag of a grain made anew: a data grain as R342 gives, a parity grain with function 0xFFFF (R405, R432). -/
def State.freshTag (s : State) (l : Layout) (z i j g wsn : Nat) : List Byte :=
  if j < l.k then s.newTag l.vol false (0, 1) 1 (z * 2 ^ 19 + 16 * l.k * i + 16 * j + g) wsn
  else s.parityTag l 0xFFFF 1 z (16 * l.k * i) (j - l.k) g wsn

/-- Grains made anew, from grain row `g` of a piece on, are sent with fresh numbers that the write credits (R432). -/
def State.sendFresh (s : State) (l : Layout) (z i j g m : Nat) (level : BitVec 3) (gs : List (List Byte)) : State :=
  let (first, s) := s.takeNumbers 0 gs.length
  s.rsend m 0x10 0x0B level [w64 (volKey l.vol (pieceAddr z i + g)), w64 (gs.length - 1), 0, creditWord gs.length first]
    (framed (gs.zipIdx.map (fun p => (p.1, s.freshTag l z i j (g + p.2) (first + p.2)))))

/-- The grain in hand for a place, if there is one. -/
def pieceAt (gs : List PieceGrain) (i j g : Nat) : Option PieceGrain :=
  gs.find? (fun x => decide (x.stripe = i) && decide (x.pos = j) && decide (x.row = g))

/-! ## Sealing -/

/-- STRIPE_SEAL (R417): a stripe whose last grain is committed. -/
def execStripeSeal (v : Nat) (z : Nat) (st : Nat) (s : State) : Res :=
  .next (match s.layout v, s.stripeSlot v z with
    | some l, some (i, e) =>
      if s.ownsVolume l && !s.boot.down && decide (e.stripe = st) && decide (16 * l.k * (st + 1) ≤ s.zwp (s.volZone v z)) then s.seal l z st i
      else s
    | _, _ => s)

/-! ## Rebuild -/

/-- A data grain of a row that cannot be rebuilt enters page 0xC2, on both managers (R434). -/
def State.loseRow (s : State) (l : Layout) (z i j g lost : Nat) : State :=
  if l.k ≤ j then s else
  let per := if (s.nsAt l.vol).lba16 then 4 else 1
  let lba := (z * 2 ^ 19 + 16 * l.k * i + 16 * j + g) / per
  let e := toBytes 4 l.vol ++ toBytes 4 1 ++ toBytes 8 lba ++ toBytes 8 (z * 32768 + i) ++ toBytes 6 s.alm.optime ++
    toBytes 1 lost ++ toBytes 1 l.m
  if s.lostRanges.any (fun x => decide (x.take 16 = e.take 16)) then s else (s.addLost e).ckpt 5 e

/-- A member that receives rebuild writes is rebuilding (R435). -/
def State.markRebuilding (s : State) (m : Nat) : State :=
  match FMap.get (fun _ => (none : Option Member)) s.members m with
  | some x => s.putMembers (FMap.set (fun _ => none) s.members m (some { x with state := 5 }))
  | none => s

/-- One awaiting position of a committed stripe: it is asked for from `k` readable positions, or one copy of a mirror,
and what was made is written to its member (R421, R431, R432). -/
def State.rebuildPiece (s : State) (l : Layout) (z i : Nat) (gs : List PieceGrain) (j : Nat) : State :=
  match ((s.setNow l z).getD j (none, 0)).1 with
  | none => s
  | some m =>
    let from_ := ((List.range l.w).filter (fun x => decide (x ≠ j) && !s.awaits l z i x)).take l.k
    let s := from_.foldl (fun (s : State) x =>
      match ((s.setNow l z).getD x (none, 0)).1 with
      | some t => s.askGrains l.vol t (pieceAddr z i) 16 5
      | none => s) s
    let rows := (List.range 16).map (fun g => (pieceAt gs i j g).bind (fun x => x.data.map (fun d => (d, x.tag))))
    let s := (List.range 16).foldl (fun (s : State) g =>
      match pieceAt gs i j g with
      | some x => if x.data.isNone then s.loseRow l z i j g ((List.range l.w).filter (fun y => s.awaits l z i y || ((pieceAt gs i y g).map (fun q => q.data.isNone)).getD false)).length else s
      | none => s) s
    (presentRuns 0 rows).foldl (fun (s : State) r =>
      if l.mirror then s.sendKept l.vol m (pieceAddr z i + r.1) 5 r.2
      else s.sendFresh l z i j r.1 m 5 (r.2.map (·.1))) (s.markRebuilding m)

/-- One awaiting position of the open stripe: a data piece is copied from a tail mirror, and the tail copies of a parity
position from the data pieces, tags as they stand (R431, R432). -/
def State.rebuildOpen (s : State) (l : Layout) (z i : Nat) (gs : List PieceGrain) (j : Nat) : State :=
  match ((s.setNow l z).getD j (none, 0)).1 with
  | none => s
  | some m =>
    let kept (x y : Nat) : List (Option (List Byte × List Byte)) :=
      (List.range 16).map (fun g => (pieceAt gs i y g).bind (fun q => if q.pos = x then q.data.map (fun d => (d, q.tag)) else none))
    if j < l.k then
      (presentRuns 0 (kept j j)).foldl (fun (s : State) r => s.sendKept l.vol m (pieceAddr z i + r.1) 5 r.2) (s.markRebuilding m)
    else
      (List.range l.k).foldl (fun (s : State) x =>
        (presentRuns 0 (kept x x)).foldl (fun (s : State) r =>
          s.sendKept l.vol m (tailAddr z (16 * l.k * i + 16 * x + r.1)) 5 r.2) s) (s.markRebuilding m)

/-- Every awaiting position of one stripe. -/
def State.rebuildStripe (s : State) (l : Layout) (z i : Nat) (gs : List PieceGrain) : State :=
  let opened := !l.mirror && (match s.stripeSlot l.vol z with
    | some p => decide (p.2.stripe = i)
    | none => false)
  ((List.range l.w).filter (fun j => s.mayRebuild l z i j)).foldl (fun (s : State) j =>
    if opened then s.rebuildOpen l z i gs j else s.rebuildPiece l z i gs j) s

/-- ZONE_REBUILD (R430 to R434): the zone that ranks first is rebuilt for one group of stripes, with the grains `gs` that
the members' answers give; then its entry is written and mirrored. -/
def execZoneRebuild (v : Nat) (z : Nat) (gs : List PieceGrain) (s : State) : Res :=
  .next (match s.layout v, s.firstRebuild with
    | some l, some (_, _, fv, fz) =>
      if fv ≠ v ∨ fz ≠ z ∨ s.boot.down then s else
      let e := s.ztab (s.volZone v z)
      let cur := if bit e 7 then fld e 16 15 else 0
      let rs := if bit e 7 then fld e 8 6 else l.removed.length
      let n := s.usedStripes l z
      let stop := min n (cur + 4096)
      let s := ((List.range stop).drop cur).foldl (fun (s : State) i => s.rebuildStripe l z i gs) s
      if stop = n then s.changeZtab v z (setFld (setFld (setFld (setFld e 0 6 rs) 7 1 0) 8 6 0) 16 15 0)
      else s.changeZtab v z (setFld (setFld (setFld e 7 1 1) 8 6 rs) 16 15 stop)
    | _, _ => s)

/-! ## The parity patrol -/

/-- Parity that the data grains of a stripe give; a grain that is not in hand was never written and counts as zero. -/
def stripeParity (l : Layout) (i : Nat) (gs : List PieceGrain) : List (List Byte) :=
  (List.range l.k).foldl (fun (acc : List (List Byte)) j => (List.range 16).foldl (fun (acc : List (List Byte)) g =>
    match (pieceAt gs i j g).bind (·.data) with
    | some d => accumAdd l.m j g d acc
    | none => acc) acc) (List.replicate (16 * l.m) zeroGrain)

/-- Whether a parity piece differs from what the data give, or fails its guard. -/
def parityWrong (l : Layout) (i p : Nat) (acc : List (List Byte)) (gs : List PieceGrain) : Bool :=
  (List.range 16).any (fun g =>
    match pieceAt gs i (l.k + p) g with
    | some x => decide (x.data ≠ some (acc.getD (16 * p + g) zeroGrain))
    | none => false)

/-- Tag of a grain of a mirror's copy `p`: as it stands, or where it does not read that of position 0 with the copy's role (R192,
R193, R405). -/
def copyTag (gs : List PieceGrain) (i p g : Nat) : List Byte :=
  let own := ((pieceAt gs i (1 + p) g).map (·.tag)).getD []
  if 24 ≤ own.length then own
  else
    let t := ((pieceAt gs i 0 g).map (·.tag)).getD []
    t.take 23 ++ toBytes 1 ((t.getD 23 0).toNat % 16 + (7 + p) * 16) ++ t.drop 24

/-- STRIPE_PARITY_CHECK (R436): a committed stripe is read at P7 and its parity recomputed. -/
def execStripeParityCheck (v : Nat) (z : Nat) (st : Nat) (gs : List PieceGrain) (s : State) : Res :=
  .next (match s.layout v with
    | none => s
    | some l =>
      let dz := s.volZone v z
      if !s.ownsVolume l || s.boot.down || decide (l.zones ≤ z) || decide (s.usedStripes l z ≤ st) ||
          (decide (s.zwp dz < 16 * l.k * (st + 1)) && decide (s.zstate dz ≠ zFull)) then s
      else
        let set := s.setNow l z
        let member (j : Nat) : Option Nat := (set.getD j (none, 0)).1
        let s := (membersFrom set 0).foldl (fun (s : State) m => s.askGrains v m (pieceAddr z st) 16 7) s
        -- Data grains that failed their guard are written back as reconstructed (R421).
        let s := (gs.filter (fun x => decide (x.stripe = st) && decide (x.pos < l.k) && x.rebuilt)).foldl (fun (s : State) x =>
          match member x.pos, x.data with
          | some m, some d => s.sendFresh l z st x.pos x.row m 5 [d]
          | _, _ => s) s
        if gs.any (fun x => decide (x.stripe = st) && decide (x.pos < l.k) && x.data.isNone) then s
        else
          let acc := if l.mirror then (List.range l.m).flatMap (fun _ => (List.range 16).map (fun g =>
              ((pieceAt gs st 0 g).bind (·.data)).getD zeroGrain))
            else stripeParity l st gs
          let wrong := (List.range l.m).filter (fun p => parityWrong l st p acc gs)
          if wrong.isEmpty then s
          else
            let s := wrong.foldl (fun (s : State) p =>
              match member (l.k + p) with
              | some m =>
                if l.mirror then s.sendKept v m (pieceAddr z st) 7 ((List.range 16).map (fun g =>
                  (acc.getD (16 * p + g) zeroGrain, copyTag gs st p g)))
                else s.sendFresh l z st (l.k + p) 0 m 7 ((List.range 16).map (fun g => acc.getD (16 * p + g) zeroGrain))
              | none => s) s
            s.residentRecord [w64 v, w64 (z * 32768 + st)])

/-! ## Reshape -/

/-- Whether a member's last horizon report gave the preserve state (R395). -/
def State.memberPreserves (s : State) (m : Nat) : Bool :=
  bit (rdW s.dram (s.rfld (sta 0xD 0x38) 13 26 * 8192 + 8192 * m + 16)) 16

/-- Active workers that belong to no pool, ascending. -/
def State.freeWorkers (s : State) : List Nat :=
  ((List.range 66).drop 2).filter (fun m =>
    s.reaches m && (FMap.get (fun _ => (none : Option Member)) s.members m).isSome &&
    s.volumes.all (fun l => !l.pool.contains m && !(l.reshape && l.newPool.contains m)))

/-- The pool of a reshape: the in-service members that are not in the preserve state, and workers up to the pool's
original size (R437). -/
def State.reshapePool (s : State) (l : Layout) : List Nat :=
  let keep := l.serving.filter (fun m => !s.memberPreserves m)
  let add := (s.freeWorkers.filter (fun m => !s.memberPreserves m)).take (l.pool.length - keep.length)
  (List.range 66).filter (fun m => keep.contains m || add.contains m)

/-- RESHAPE_START (R437): R0 takes the removals listed and the boundary 0 (DEDUCED, log entry 77). -/
def execReshapeStart (v : Nat) (s : State) : Res :=
  .next (match s.layout v with
    | none => s
    | some l =>
      let new := s.reshapePool l
      if !s.ownsVolume l || s.boot.down || l.reshape || s.ownZones.any (fun p => s.zoneAwaits p.1 p.2) || decide (new.length < l.w) ||
          !((!l.removed.isEmpty && !s.freeWorkers.isEmpty) || l.serving.any s.memberPreserves) then s
      else s.changeLayout { l with reshape := true, r0 := l.removed.length, bound := 0, newPool := new })

/-- The end of a reshape (R439). -/
def State.reshapeEnd (s : State) (l : Layout) : State :=
  let s := (List.range l.zones).foldl (fun (s : State) z =>
    let e := s.ztab (s.volZone l.vol z)
    let e' := setFld (setFld e 0 6 (fld e 0 6 - l.r0)) 6 1 0
    if e' = e then s else s.changeZtab l.vol z e') s
  s.changeLayout { l with pool := l.newPool, removed := l.removed.drop l.r0, reshape := false, r0 := 0, bound := 0, newPool := [] }

/-- The boundary passes one zone. -/
def State.passBound (s : State) (l : Layout) : State :=
  if l.bound + 1 = l.zones then s.reshapeEnd { l with bound := l.bound + 1 } else s.changeLayout { l with bound := l.bound + 1 }

/-- A Full zone's copies: every position whose member differs is asked for and sent to its new member, tags as they
stand (R438). -/
def State.copyZone (s : State) (l : Layout) (z : Nat) (gs : List PieceGrain) : State :=
  let old := l.setOf z false
  let new := l.setOf z true
  ((List.range l.w).filter (fun j => decide ((old.getD j (none, 0)).1 ≠ (new.getD j (none, 0)).1))).foldl (fun (s : State) j =>
    (List.range (s.usedStripes l z)).foldl (fun (s : State) i =>
      let s := match (old.getD j (none, 0)).1 with
        | some m => s.askGrains l.vol m (pieceAddr z i) 16 6
        | none => s
      match (new.getD j (none, 0)).1 with
      | some m =>
        (presentRuns 0 ((List.range 16).map (fun g => (pieceAt gs i j g).bind (fun x => x.data.map (fun d => (d, x.tag)))))).foldl
          (fun (s : State) r => s.sendKept l.vol m (pieceAddr z i + r.1) 6 r.2) s
      | none => s) s) s

/-- RESHAPE_ZONE_MOVE (R438, R439): the boundary passes an Empty or NEW zone at once, a Full one after its copy, and waits
for an active one. -/
def execReshapeZoneMove (v : Nat) (gs : List PieceGrain) (s : State) : Res :=
  .next (match s.layout v with
    | none => s
    | some l =>
      let z := l.bound
      let dz := s.volZone v z
      if !s.ownsVolume l || s.boot.down || !l.reshape || decide (l.zones ≤ z) || s.ownZones.any (fun p => s.zoneAwaits p.1 p.2) then s
      else if s.zstate dz = 0 ∨ s.zstate dz = zEmpty ∨ ztNew (s.ztab dz) = true then s.passBound l
      else if s.zstate dz = zFull then
        let old := (membersFrom (l.setOf z false) 0).dedup
        let new := membersFrom (l.setOf z true) 0
        let s := (s.copyZone l z gs).changeZtab v z (setBit (s.ztab dz) 6 true)
        (s.passBound l).actionOn l z 3 (old.filter (fun m => !new.contains m))
      else s)

end Sys2Proof.Machine
end

