-- ==== Sys2Proof/Machine/Bringup.lean ====
section
/-! DEFINITION. Power-up, the start of an image, restart, shutdown and power loss (R1, R6 to R9, R160, R179, R180, R185,
R197, R198, R212, R216, R217, R300, R301, R304, R337, R355, R389, R441 to R446, R455, R456, R460, R473, R476, R477, R497,
R509, R510, R534, R540, R561, R565 to R576). -/

namespace Sys2Proof.Machine

/-! ## Straps and fuses -/

/-- ID_PRESENCE as the fuses of an ordering code set it (R1, R2). -/
def presenceOf : Variant → W64
  | .m => 0x000F7FFFFFFFFFFF
  | .w => 0x010F53FFFFFFFFFF
  | .c => 0x0203400F0000FFFF
  | .cn => 0x0303000F0000FFFF

/-- Effective role of a strap on a presence map: a worker needs a Span port, a manager needs MGR (R6). -/
def roleOf (presence : W64) (strap : Nat) : Nat :=
  if strap = 1 ∧ fld presence 40 4 ≠ 0 then 1 else if strap = 2 ∧ bit presence 45 then 2 else 0

/-- PORTS of HOST_CFG, and whether LANE_CFG was not usable (R212). -/
def portsOf (presence : W64) (cfg : Nat) : Nat × Bool :=
  if cfg = 0 then (0, false)
  else if cfg = 1 then (1, false)
  else if cfg = 2 ∧ bit presence 44 then (2, false)
  else (0, true)

/-- The straps are sampled, and the role and the host ports follow (R6 to R9, R212, R565).  A pattern store that is still erased
holds what manufacture left in it (DESIGN CHOICE, PRESUMED, log entry 114). -/
def State.sampleStraps (s : State) (b : BoardPins) : State :=
  let s := if s.nor.isEmpty && s.norUnk.isEmpty then b.store.foldl (fun (s : State) p => s.norWrite p.1 p.2) s else s
  let s := (s.setReg (sta 0x17 0x10) (presenceOf b.variant)).setReg (sta 0x17 0x20) b.serial
  let strap := b.role.toNat
  let role := roleOf (presenceOf b.variant) strap
  let s := s.setReg idRole (w64 (strap + role * 4 + b2n (decide (role = 0)) * 32))
  let (ports, bad) := portsOf (presenceOf b.variant) b.lanecfg.toNat
  let s := s.setReg (sta 0x14 0) (w64 (b.lanecfg.toNat + ports * 4))
  let s := if role = strap then s else s.almRecord 0x02 [w64 strap, w64 role]
  let s := if bad then s.almRecord 0x03 [w64 b.lanecfg.toNat] else s
  s.putBoot { s.boot with strapped := true, perstLow := false, src := b.bootSrc }

/-- Domes are on, but that a worker keeps D1 off, and a device whose role differs from its strap every Span dome (R7, R8,
R512). -/
def State.domesAtStart (s : State) : State :=
  let s := (List.range 29).foldl (fun (s : State) d =>
    let off := (decide (d = 1) && s.isWorker) || (isSpanDome d && decide (s.role ≠ s.rfld idRole 0 2))
    s.setReg (sta 0xE (8 * d)) (if off then 2 else 0)) s
  (((s.setReg (sta 0x16 0) 0).putDomeEntry []).putDomeWake []).putDomeAgreed []

/-- The host ports train their links; a worker forms none (R212, R214, R566). -/
def State.hostTrain (s : State) (links : List (BitVec 4 × BitVec 5)) : State :=
  (List.range s.hostPorts).foldl (fun (s : State) n =>
    let (speed, width) := links.getD n (0, 0)
    let v := if speed = 0 then 0 else speed.toNat + width.toNat * 2 ^ 4 + b2n (decide (6 ≤ speed.toNat)) * 2 ^ 9 + 3 * 2 ^ 10
    s.setReg (sta 0x14 (0x100 + 0x40 * n)) (w64 v)) s

/-- The host ports are held in reset. -/
def State.hostDown (s : State) : State :=
  (List.range 4).foldl (fun (s : State) n => s.setReg (sta 0x14 (0x100 + 0x40 * n)) 0) s

/-- ID_BOOT.STEP, at the step's begin (R573). -/
def State.setStep (s : State) (n : Nat) : State := s.setBootId (setFld (setFld (s.reg idBoot) 0 4 n) 8 8 0)

/-- ID_BOOT.SUB: the item of the step (R568, R573). -/
def State.setItem (s : State) (n : Nat) : State := s.setBootFld 8 8 n

/-! ## Step 1: boot ROM -/

/-- The security state that MR2 measures: the owner slots, the minimum versions and debug access (R160). -/
def State.securityDigest (s : State) : List Byte :=
  sha384 (s.ownerTable ++ (List.range 5).flatMap (fun k => toBytes 4 (s.svnOf k)) ++ toBytes 1 (s.rfld (sta 0x13 0) 2 1))

/-- The trust block's registers follow what is durable (R159, R508, R510). -/
def State.trustRegs (s : State) : State :=
  let s := [1, 2, 3, 4].foldl State.ownerRegs s
  let s := (List.range 5).foldl (fun (s : State) k => s.setReg (sta 0x13 (0x200 + 8 * k)) (w64 (s.svnOf k))) s
  (s.setRfld (sta 0x13 0) 2 1 (b2n s.trust.debugNext)).setRfld (sta 0x13 0) 3 1 (b2n s.trust.debugNext)

/-- Boot block `k` verified: MR1 takes the boot code, and a fallback is recorded (R160, R509, R538). -/
def State.bootBlock (s : State) (k : Nat) : State :=
  let s := (s.setRfld (sta 0x13 0) 1 1 k).extendMr 1 (s.bootDigest k)
  if s.selectedBoot % 2 = k then s
  else
    let (f, s) := s.takeFree
    s.almRecord 0x1004 [f]

/-! ## Step 2: self-calibration -/

/-- Slots whose entries carry the valid mark (R496). -/
def State.wrappedSlots (s : State) : List Nat :=
  ((s.ingot.filterMap (fun p =>
    if vaultEntry 0 ≤ p.1 ∧ p.1 < vaultEntry generalSlots then some ((p.1 - vaultEntry 0) / 128) else none)).dedup).filter
      (fun n => decide (rdNum s.ingot (vaultEntry n + 124) 4 = 0x564B5849))

/-- The key of a slot's entry; none where its CRC or its unwrapping fails. -/
def State.unwrapSlot (s : State) (n : Nat) : Option VSlot :=
  let e := rdBytes s.ingot (vaultEntry n) 128
  let kind := le e 2 1
  if crc32 0 (e.take 8 ++ (e.drop 16).take 104) ≠ le e 120 4 then none
  else
    (kwUnwrap deviceWrapKey ((e.drop 16).take (if kind = 0 then 72 else 40))).map (fun k =>
      { kind := kind, key := k, origin := le e 3 1, bound := le e 8 2, holder := (e.drop 88).take 32 })

/-- Vault restore (R497, R508): debug access restores no key. -/
def State.restoreVault (s : State) : State :=
  if !s.cipherPresent then s
  else if bit (s.reg (sta 0x13 0)) 2 then s.setRfld vaultStat 1 1 1
  else
    let s := s.wrappedSlots.foldl (fun (s : State) n =>
      match s.unwrapSlot n with
      | some v => s.setVslot n (some v)
      | none => s.almRecord 0x81 [w64 n]) s
    s.setRfld vaultStat 0 1 1

/-- Self-calibration: PLL, TRNG, vault and parameters (R24, R497, R500, R568). -/
def State.calibrate (s : State) (b : BoardPins) : State :=
  let s := (s.setItem 1).setRfld (sta 0 0x18) 0 1 1
  let s := [2, 3, 4, 5, 6].foldl State.setItem s
  let s := if b.trng then s else s.trngFail
  let s := ((s.setItem 7).restoreVault).setItem 8
  let p := s.paramArea
  let s := (s.loadOwners.putFw { s.fw with proofs := p.proofs }).putParams p.care
  ([1, 2, 3, 4].foldl State.ownerRegs s).setReg (sta 0 0) (w64 (p.sel + 2 ^ 8)) |>.setReg (sta 6 0) (w64 b.romIds.toNat)

/-! ## Step 3: DRAM -/

/-- Every channel and rank, ascending. -/
def rankPlaces : List (Nat × Nat) := (List.range 4).flatMap (fun c => (List.range 4).map (fun r => (c, r)))

/-- Bytes of the rank at a place of the board: 0 where none is fitted, its devices' tRFC1 is above 410 ns, its channel is
absent, or it lost its contents without a destination (R441, R460). -/
def State.rankBytes (s : State) (b : BoardPins) (p : Nat × Nat) : Nat :=
  if !bit s.presence (48 + p.1) ∨ s.dr.bad.contains p ∨ b.noTrain.contains p then 0
  else match b.ranks.find? (fun x => decide (x.chan = p.1) && decide (x.rank = p.2)) with
    | some x => if x.trfc ≤ 410 then x.bytes else 0
    | none => 0

/-- Ranks within 512 GiB, in ascending order, and those beyond it: place and bytes (R441). -/
def splitRanks : Nat → List ((Nat × Nat) × Nat) → List ((Nat × Nat) × Nat) × List (Nat × Nat)
  | _, [] => ([], [])
  | used, x :: rest =>
    if used + x.2 ≤ 2 ^ 39 then
      let r := splitRanks (used + x.2) rest
      (x :: r.1, r.2)
    else ([], x.1 :: rest.map (·.1))

/-- What training forms of the fitted ranks (R443, R455, R456). -/
structure DramPlan where
  fit : List ((Nat × Nat) × Nat)
  spare : List (Nat × Nat)
  reserve : Bool
  /-- Channels of the interleave set, and the visible bytes. -/
  chans : List Nat
  bytes : Nat
  /-- Bytes that are not visible. -/
  hidden : Nat
  deriving DecidableEq, Repr

/-- Fitted ranks of a channel, and its spare (R455). -/
def chanRanks (fit : List ((Nat × Nat) × Nat)) (c : Nat) : List (Nat × Nat) :=
  (fit.filter (fun x => decide (x.1.1 = c))).map (fun x => (x.1.2, x.2))
def chanSpare (fit : List ((Nat × Nat) × Nat)) (mask : BitVec 4) (c : Nat) : Option Nat :=
  let rs := chanRanks fit c
  if bit mask c ∧ 2 ≤ rs.length then (rs.getLast?).map (·.1) else none

/-- Logical ranks of a channel with the bytes each shows (R443, R455). -/
def logicalRanks (fit : List ((Nat × Nat) × Nat)) (mask : BitVec 4) (reserve : Bool) (c : Nat) : List (Nat × Nat) :=
  ((chanRanks fit c).filter (fun r => decide (some r.1 ≠ chanSpare fit mask c))).map (fun r =>
    (r.1, if reserve then r.2 - r.2 / 8 else r.2))

/-- The plan of a list of fitted ranks. -/
def dramPlan (fit : List ((Nat × Nat) × Nat)) (mask : BitVec 4) : DramPlan :=
  let used := (List.range 4).filter (fun c => !(chanRanks fit c).isEmpty)
  let reserve := used.any (fun c => (chanSpare fit mask c).isNone)
  let cap (c : Nat) : Nat := ((logicalRanks fit mask reserve c).map (·.2)).sum
  let able := (List.range 4).filter (fun c => !(logicalRanks fit mask reserve c).isEmpty)
  let n := if 4 ≤ able.length then 4 else if 2 ≤ able.length then 2 else able.length
  let set := able.take n
  let low := (set.map cap).foldl min (cap (set.headD 0))
  { fit := fit
    spare := (List.range 4).filterMap (fun c => (chanSpare fit mask c).map (fun r => (c, r)))
    reserve := reserve
    chans := set
    bytes := low * n
    hidden := ((List.range 4).map cap).sum - low * n }

/-- Channels whose timing set B is usable: those with at most three ranks whose second rate trained (R446). -/
def bankB (fit : List ((Nat × Nat) × Nat)) (setB : BitVec 4) : Nat :=
  (((List.range 4).filter (fun c => bit setB c && !(chanRanks fit c).isEmpty && decide ((chanRanks fit c).length ≤ 3))).map (fun c => 2 ^ c)).sum

/-- The rank map of a channel (R456). -/
def rankMap (rs : List Nat) : W64 := w64 ((rs.zipIdx.map (fun p => p.1 * 4 ^ p.2)).sum)

/-- The fitted ranks form the visible DRAM: its size and interleave set, the rank maps and the spares (R443, R455 to R457, R460);
`few` where a board without a spare on some channel fits fewer than 8 ranks. -/
def State.planDram (s : State) (fit : List ((Nat × Nat) × Nat)) (mask : BitVec 4) (bch : Nat) : State :=
  let d := dramPlan fit mask
  let few := d.reserve && decide (fit.length < 8)
  let s := if few then s.almRecord 0x52 [w64 fit.length] else s
  let s := if d.hidden = 0 then s else
    let (f, s) := s.takeFree
    s.almRecord (f.toNat % 0x1000) [w64 d.hidden]
  let n := d.chans.length
  let s := s.setReg (sta 8 0) (w64 (d.bytes % 2 ^ 40 + b2n d.reserve * 2 ^ 40 + (if n = 4 then 2 else if n = 2 then 1 else 0) * 2 ^ 41 +
    ((d.chans.map (fun c => 2 ^ c)).sum) * 2 ^ 43))
  let s := s.setReg (sta 8 0x10) (w64 (b2n (decide (bch ≠ 0)) * 2 ^ 5 + bch * 2 ^ 6))
  let s := s.setReg dramRas (w64 (b2n few))
  let s := (List.range 4).foldl (fun (s : State) c =>
    s.setReg (rmapReg c) (rankMap ((logicalRanks fit mask d.reserve c).map (·.1)))) s
  s.putDr { s.dr with
    fit := fit.foldl (fun m x => FMap.set (fun _ => 0) m (4 * x.1.1 + x.1.2) x.2) []
    logical := (List.range 4).foldl (fun m c => FMap.set (fun _ => 0) m c (logicalRanks fit mask d.reserve c).length) []
    lsize := (List.range 4).foldl (fun m c => (logicalRanks fit mask d.reserve c).zipIdx.foldl (fun m (x : (Nat × Nat) × Nat) =>
      FMap.set (fun _ => 0) m (4 * c + x.2) x.1.2) m) []
    spare := d.spare, spent := false, mig := [], bad := [] }

/-- DRAM training (R441, R443, R446, R447, R455, R456, R460), with the spare mask of the parameter
area, and `second` where it names a second rate.  The boot code writes every word of the loader's area (R151);
words beyond it stand as the resident set's start leaves them (DEDUCED, log entry 79).  The trained delays are free values
(DESIGN CHOICE, log entry 134). -/
def State.trainDram (s : State) (b : BoardPins) (mask : BitVec 4) (second : Bool) : State :=
  let s := (b.noTrain.filter (fun p => decide (p.1 < 4) && decide (p.2 < 4))).foldl (fun (s : State) p => s.almRecord 0x51 [w64 p.1, w64 p.2]) s
  let all := (rankPlaces.map (fun (p : Nat × Nat) => (p, s.rankBytes b p))).filter (fun x => decide (x.2 ≠ 0))
  let (fit, beyond) := splitRanks 0 all
  let s := match beyond with
    | [] => s
    | x :: _ => s.almRecord 0x51 [w64 x.1, w64 x.2, w64 ((beyond.map (fun (p : Nat × Nat) => 2 ^ (4 * p.1 + p.2))).sum)]
  let s := s.planDram fit mask (if second then bankB fit b.setB else 0)
  let s := (s.putDram (s.dram.filter (fun p => decide (0x4000000 ≤ p.1)))).putPoison (s.poison.filter (fun p => decide (p.1 / 2 ^ 48 ≠ 1)))
  (s.putDr { s.dr with delays := some s.free, logged := 0, inTick := 0, lost := 0, posted := false, owed := false }).putFree (s.free + 4096)

/-- A rank that failed with no destination is left unfitted at a restart; the training of the others is kept (R460,
R469, DEDUCED, log entry 161). -/
def State.dropRanks (s : State) : State :=
  if s.dr.bad.isEmpty then s else
  let fit := (rankPlaces.map (fun (p : Nat × Nat) => (p, FMap.get (fun _ => 0) s.dr.fit (4 * p.1 + p.2)))).filter (fun x =>
    decide (x.2 ≠ 0) && !s.dr.bad.contains x.1)
  s.planDram fit s.paramArea.spareMask (s.rfld (sta 8 0x10) 6 4 &&& (((List.range 4).filter (fun c => !(chanRanks fit c).isEmpty)).map (fun c => 2 ^ c)).sum)

/-! ## NAND training -/

/-- Chip enables that hold a fitted LUN. -/
def ceFit (dies : W64) : Nat := (((List.range 8).filter (fun ce => decide (fld dies (8 * ce) 8 ≠ 0))).map (fun ce => 2 ^ ce)).sum

/-- LUNs of the fullest chip enable, less one. -/
def lunTop (dies : W64) : Nat := ((List.range 8).filter (fun l => (List.range 8).any (fun ce => bit dies (8 * ce + l)))).foldl max 0

/-- The timing entries of a channel's sequencer, from R295 and the parameter page: which entry holds which time is not given
(R303, DESIGN CHOICE, log entry 134). -/
def State.trainTimes (s : State) (ch : Nat) : State :=
  (List.range 32).foldl (fun (s : State) i =>
    let (f, s) := s.takeFree
    s.setReg (chReg ch (0x500 + 8 * i)) (f &&& 0xFFFF)) s

/-- Trained delays, duty-cycle code and eye of a chip enable: analogue results, so free (R302, R303, DESIGN CHOICE, log entry
134). -/
def State.trainEnable (s : State) (ch ce : Nat) : State :=
  let (f, s) := s.takeFree
  let s := s.setReg (chReg ch (0x400 + 8 * ce)) (f &&& 0x3F3F)
  (List.range 8).foldl (fun (s : State) d =>
    let (f, s) := s.takeFree
    s.setReg (chReg ch (0x200 + 8 * (8 * ce + d))) (w64 (fld f 0 7 + fld f 8 7 * 2 ^ 8 + fld f 0 7 * 2 ^ 16))) s

/-- The family descriptor of a channel (R304), and the shift of its block groups (R334). -/
def State.describe (s : State) (ch : Nat) (f : DieFamily) : State :=
  let s := s.setReg (chReg ch 0x100) (f.desc.getD 0 0)
  let s := s.setReg (chReg ch 0x108) (w64 (fld (f.desc.getD 1 0) 0 49))
  let s := s.setReg (chReg ch 0x110) (w64 (f.trMax % 2 ^ 32 + f.tprogMax % 2 ^ 32 * 2 ^ 32))
  let s := s.setReg (chReg ch 0x118) (w64 (f.tbersMax % 2 ^ 32 + (f.desc.getD 3 0).toNat / 2 ^ 32 * 2 ^ 32))
  s.setReg (chReg ch 0x18) (w64 (((List.range 12).find? (fun i => decide (f.blocks ≤ 32 * 2 ^ i))).getD 11))

/-- One present channel trains to its rate: the target, less a step for each rate that fails, with a record each; a channel
that fails at 800 MT/s has no fitted dies, and a further record.  A machine check repeats the training once, and a second
holds the channel (R300, R301, R303, R304, R323, R538). -/
def State.trainChan (s : State) (p : StartPins) (f : DieFamily) (ch : Nat) : State :=
  if s.chHeld ch then s else
  let t := p.train.getD ch { down := 0, checks := 0 }
  let mask := s.fitMask p f ch
  let target := s.targetRate p f ch
  let s := (List.range (min t.checks 2)).foldl (fun (s : State) _ =>
    let (v, s) := s.takeFree
    (s.countRfld (chReg ch 8) 8 8 1).almRecord 0x40 [w64 ch, w64 (1 + v.toNat % 5), w64 (v.toNat / 8 % 0x1100), 0, 0]) s
  let some_ := decide (mask ≠ 0)
  let fails := some_ && decide (target ≤ t.down)
  let s := if some_ then (List.range (min t.down (target - 1))).foldl (fun (s : State) i =>
      s.almRecord 0x42 [w64 ch, w64 (target - 1 - i)]) s else s
  let s := if fails then s.almRecord 0x42 [w64 ch, 0] else s
  let dies := if fails then 0 else mask
  let rate := if dies = 0 then 0 else target - t.down
  let s := s.setReg (chReg ch 0x10) dies
  let s := s.setReg (chReg ch 0) (w64 (rate + s.rfld (chReg ch 0) 4 4 * 2 ^ 4 + ceFit dies * 2 ^ 8 + lunTop dies * 2 ^ 16 +
    (f.planes - 1) * 2 ^ 19 + b2n (decide (f.halves = 2)) * 2 ^ 21 + s.rfld (chReg ch 0) 22 1 * 2 ^ 22))
  let s := (s.describe ch f).trainTimes ch
  let s := ((List.range 8).filter (fun ce => decide (fld dies (8 * ce) 8 ≠ 0))).foldl (fun (s : State) ce => s.trainEnable ch ce) s
  let s := s.forgetSets ch
  if 2 ≤ t.checks then s.holdChan ch else s

/-- NAND interface training of every present channel, at every start (R292, R293, R300).  A LUN of another family than the
first fitting one is not fitted, with a record each; where the table does not hold that family no die is fitted, with one
record. -/
def State.trainNand (s : State) (p : StartPins) : State :=
  let chs := (List.range 32).filter (fun ch => s.chanPresent ch)
  match s.findFamily p with
  | some f =>
    let s := ((s.goodLuns p).filter (fun l => !lunIs l f)).foldl (fun (s : State) l => s.almRecord 0x43 [w64 l.chan, 0, w64 l.die]) s
    chs.foldl (fun (s : State) ch => s.trainChan p f ch) (s.putFam f)
  | none =>
    let s := match (s.goodLuns p).foldl firstLun none with
      | some l => s.almRecord 0x43 [w64 l.chan, 0, w64 l.die]
      | none => s
    chs.foldl (fun (s : State) ch => (s.setReg (chReg ch 0x10) 0).setReg (chReg ch 0) (w64 (s.rfld (chReg ch 0) 4 4 * 2 ^ 4 +
      s.rfld (chReg ch 0) 22 1 * 2 ^ 22))) s

/-- The read-level tables take the newer copy that passes its CRC, or else the family's default (R337). -/
def State.loadLevels (s : State) (dflt : Option (List W64 × List Nat)) : State :=
  let good (c : Nat) : Nat :=
    let body := rdBytes s.ingot (levelOff c) 67608
    if crc32 0 body = rdNum s.ingot (levelOff c + 67608) 4 then ofBytes (body.take 8) else 0
  let seq := max (good 0) (good 1)
  if seq ≠ 0 then
    let a := levelOff (seq % 2) + 8
    let s := (List.range 256).foldl (fun (s : State) i => s.setReg (sta 6 (0x800 + 8 * i)) (rdW s.ingot (a + 8 * i))) s
    let s := (List.range 32).foldl (fun (s : State) ch => (List.range 256).foldl (fun (s : State) w =>
      s.setReg (chReg ch (0x800 + 8 * w)) (rdW s.ingot (a + 2048 + 2048 * ch + 8 * w))) s) s
    s.putCare { s.care with levelSeq := seq }
  else match dflt with
    | none => s
    | some (lib, ds) =>
      let s := (List.range 256).foldl (fun (s : State) i => s.setReg (sta 6 (0x800 + 8 * i)) (lib.getD i 0)) s
      let word (w : Nat) : W64 := w64 (((List.range 8).map (fun i => ds.getD ((8 * w + i) % 32) 128 % 256 * 256 ^ i)).sum)
      (List.range 32).foldl (fun (s : State) ch => if !s.chanPresent ch then s else
        (List.range 256).foldl (fun (s : State) w => s.setReg (chReg ch (0x800 + 8 * w)) (word w)) s) s

/-- The default set of every die and block group. -/
def State.loadDefaults (s : State) (ds : List Nat) : State :=
  s.putCare { s.care with levels := s.fittedDies.foldl (fun m p => (List.range 32).foldl (fun m g =>
      FMap.set (fun _ => 128) m ((p.1 * 64 + p.2) * 32 + g) (ds.getD g 128 % 256)) m) [] }

/-! ## Step 6: the ingot store -/

/-- The place after the record at `a` whose sequence number is `seq`; none where no valid record stands there (R473). -/
def State.logNext (s : State) (a seq : Nat) : Option (Nat × Nat) :=
  let h := rdBytes s.ingot (logBase + a) 64
  let kind := le h 20 1
  let n := if kind = 2 then le h 48 4 else 0
  let len := 64 + (8 * n + 63) / 64 * 64
  if le h 60 4 ≠ 0x4C4D5849 ∨ logSize < a + len ∨ crc32 0 (h.take 52 ++ rdBytes s.ingot (logBase + a + 64) (8 * n)) ≠ le h 52 4 then none
  else if kind = 0 then some (64, seq)
  else if le h 0 8 = seq then some (if a + len = logSize then 64 else a + len, seq + 1)
  else none

/-- Records that follow the stored head are taken, at most `n`. -/
def State.logFollow (s : State) : Nat → Nat → Nat → Nat × Nat
  | 0, a, seq => (a, seq)
  | n + 1, a, seq => match s.logNext a seq with
    | some (b, q) => State.logFollow s n b q
    | none => (a, seq)

/-- The map delta log's words are restored (R473, R478). -/
def State.recoverLog (s : State) : State :=
  let first (n : Nat) : Nat := if n = 0 then 64 else n
  let tail := first (rdNum s.ingot (logBase + 8) 8)
  let (a, seq) := s.logFollow 1572864 (first (rdNum s.ingot logBase 8)) s.recSeq
  let s := (s.setReg (sta 9 0x10) (w64 (a % 2 ^ 27))).setReg (sta 9 0x18) (w64 (tail % 2 ^ 27))
  if seq = s.recSeq then s else s.putIngot (wrNum (wrNum s.ingot logBase 8 a) (logBase + 16) 8 seq)

/-- The sequence counter starts at the durable bound, and the next bound is written (R198). -/
def State.recoverCounter (s : State) : State :=
  let b := rdNum s.ingot reserveWord 7
  let next := if b = 0 then 1 else b
  let bound := if b = 0 then 2 ^ 24 else min (b + 2 ^ 24) wsnMax
  let s := (s.setReg hazWsn (w64 next)).setReg hazWsnRes (w64 bound)
  s.putIngot (wrNum s.ingot reserveWord 8 bound)

/-- The health counters take the newer copy (R360, R476). -/
def State.recoverHealth (s : State) : State :=
  let a := (s.healthSeq 0).getD 0
  let b := (s.healthSeq 1).getD 0
  if a = 0 ∧ b = 0 then s.putHealth []
  else
    let off := healthOff (if b < a then 0 else 1)
    s.putHealth ((List.range 256).foldl (fun m i => FMap.set (fun _ => 0) m i (rdW s.ingot (off + 8 * i))) [])

/-- Whether slot `n` of the almanac holds the record with that ordinal (R540). -/
def State.almValid (s : State) (n : Nat) : Bool :=
  let r := rdBytes s.ingot (almOff n) 64
  decide (le r 60 4 = 0x4C415849) && decide (crc32 0 (r.take 56) = le r 56 4) && decide (le r 14 2 = n % 65536)

/-- Slots after the last record held, at most `k`, that hold the next ordinals. -/
def State.almMore (s : State) : Nat → Nat → Nat
  | 0, _ => 0
  | k + 1, n => if s.almValid n then 1 + State.almMore s k (n + 1) else 0

/-- The almanac comes up at power-up (R540). -/
def State.recoverAlmanac (s : State) : State :=
  let pcyc := (rdNum s.ingot pcycOff 4 + 1) % 2 ^ 32
  let anchor := rdW s.ingot anchorOff
  let oldest := fld anchor 0 32
  let held := fld anchor 32 21
  let more := s.almMore (min 16 (almSlots - held)) ((oldest + held) % 2 ^ 32)
  let s := s.putIngot (wrNum (wrNum s.ingot pcycOff 8 pcyc) anchorOff 8 (anchorWord oldest (held + more)))
  let s := s.putAlm { s.alm with
    held := held + more, oldest := oldest, next := (oldest + held + more) % 2 ^ 32, rmark := oldest, pcyc := pcyc
    optime := rdNum s.ingot optimeOff 6, rdy := true }
  s.almRecord 0x01 [s.reg (sta 0xD 0x18), s.reg idRole]

/-- Ingot store recovery (R198, R389, R473, R476, R540); the generation, the counter, the health counters and the
almanac are restored at power-up alone. -/
def State.recoverIngot (s : State) (power : Bool) : State :=
  let s := s.setStep 6
  let s := s.recoverLog
  let s := if power then
      let first := decide (rdNum s.ingot pcycOff 4 = 0)
      let s := (s.setReg (sta 0xD 0x18) (w64 (rdNum s.ingot 0xE100008 4))).raiseGen
      let s := s.recoverCounter.recoverHealth.recoverAlmanac
      let s := s.hcount 20 1
      let s := if s.clean || first then s else s.hcount 19 1
      (s.setReg (sta 0xD 0x20) s.enclosure).putBoundSent 0
    else s
  s.setReg (sta 9 0) 1

/-! ## Patches -/

/-- The patch section of a type for a channel: its own, or the one for every channel (R153). -/
def Image.patch (m : Image) (typ ch : Nat) : Option Sect :=
  m.sects.find? (fun x => decide (x.typ = typ) && (decide (x.tgt = ch) || decide (x.tgt = 0xFF)))

/-- Match register words of a patch section, as written, and its patch words. -/
def patchWords (x : Option Sect) : List Nat × List Nat :=
  match x with
  | none => ([], [])
  | some y =>
    let ms := patchMatches y.data
    let at_ := 8 + 8 * le y.data 4 2
    (ms.map (fun e => e.1 + e.2.1 * 2 ^ 16 + 2 ^ 31), (List.range (le y.data 6 2)).map (fun i => le y.data (at_ + patchWordSize y * i) (patchWordSize y)))

/-- The loader's record of a channel's patches (R185). -/
def Image.patchRecord (m : Image) (ch : Nat) : List Byte :=
  let d := patchWords (m.patch 6 ch)
  let q := patchWords (m.patch 7 ch)
  let words (n : Nat) (ws : List Nat) : List Byte := ((ws ++ List.replicate n 0).take n).flatMap (fun w => toBytes 8 w)
  let body := toBytes 2 d.1.length ++ toBytes 2 d.2.length ++ toBytes 2 q.1.length ++ toBytes 2 q.2.length ++ toBytes 8 0 ++
    words 16 d.1 ++ words 8 q.1 ++ toBytes 48 0 ++ words 256 d.2 ++ words 128 q.2 ++ toBytes 760 0
  body ++ toBytes 4 (crc32 0 body) ++ toBytes 4 0x43505849

/-- Microcode patches of a start: every channel's record, then the patch RAM and match registers of every present
channel; MR4 takes the sections applied (R160, R183, R185). -/
def State.applyPatches (s : State) (m : Image) : State :=
  let s := (List.range 32).foldl (fun (s : State) ch => s.writeLoc (.dram (patchRec ch)) (m.patchRecord ch)) s
  let s := ((List.range 32).filter (fun ch => s.chanPresent ch)).foldl (fun (s : State) ch => s.writePatch ch) s
  s.extendMr 4 (sha384 ((m.sects.filter (fun x => decide (x.typ = 6) || decide (x.typ = 7))).flatMap (·.data)))

/-! ## Step 5: the choice of an image -/

/-- Whether a bank's proof record is as R570 asks. -/
def State.proofOk (s : State) (b : Nat) : Bool :=
  let d := BitVec.ofNat 384 (ofBytes (imageOf (s.bankBytes b)).digest)
  s.fw.proofs.any (fun p => decide (p.1 = b) && decide (p.2.1 = d) && decide (p.2.2.1 = s.sel) && decide (p.2.2.2 = s.presence))

/-- A bank is checked; it passes where no check fails.  A proof that is repeated and passes leaves its record (R570). -/
def State.checkBank (s : State) (b : Nat) (sig : Bool) : Option Reject × State :=
  match s.verifyBank b sig with
  | some r =>
    let s := s.reject (s.bankBytes b) r
    (some r, (s.putFw { s.fw with bad := s.fw.bad.filter (· ≠ b) ++ [b] }))
  | none =>
    let s := s.putFw { s.fw with bad := s.fw.bad.filter (· ≠ b) }
    if s.proofOk b then (none, s)
    else
      let d := BitVec.ofNat 384 (ofBytes (imageOf (s.bankBytes b)).digest)
      (none, s.setProof b (some (d, s.sel, s.presence)))

/-- The layout-mark check of a bank at a start, once the ingot store has recovered (R177, R179). -/
def State.checkMark (s : State) (b : Nat) : Option Reject :=
  if s.layoutMark = 0 ∨ s.bankAccepts b s.layoutMark then none else some (rejected 0x0705)

/-- Signature of a bank's image. -/
def sigOf (p : StartPins) (b : Nat) : Bool := if b = 0 then p.sigA else p.sigB

/-- Every check of a start on one bank, with the patches, the training and step 6 between the proof and the layout mark: the
image, or the reason.  `trained` says that this start has trained the NAND interface already (R179, R183, R300). -/
def State.tryBank (s : State) (power trained : Bool) (p : StartPins) (b : Nat) : Option Reject × State :=
  let (r, s) := s.checkBank b (sigOf p b)
  match r with
  | some e => (some e, s)
  | none =>
    let s := s.applyPatches (imageOf (s.bankBytes b))
    let s := if trained then s else s.trainNand p
    let s := if bit (s.reg (sta 9 0)) 0 then s else s.recoverIngot power
    match s.checkMark b with
    | some e => (some e, s.reject (s.bankBytes b) e)
    | none => (none, s)

/-! ## The start of an image -/

/-- A configuration record is written (R155). -/
def State.configure (s : State) (r : Nat × W64) : State := s.stWrite true (r.1 - stAddr 0) r.2

/-- Data stores and cluster memories of the image (R153, R179). -/
def State.loadData (s : State) (m : Image) : State :=
  let s := (m.sects.filter (fun x => decide (x.typ = 4))).foldl (fun (s : State) x =>
    let c := BitVec.ofNat 6 x.tgt
    let k := s.core c
    s.setCore c { k with data := wrBytes k.data 0 x.data }) s
  (m.sects.filter (fun x => decide (x.typ = 5))).foldl (fun (s : State) x =>
    (s.putCluster (wrBytes s.cluster (x.tgt * 2 ^ 20) x.data))) s

/-- SCHED_CTL.RUN is set with a swap to the tables installed: the first start activations run at the following boundary
(R173, R179, R574). -/
def Core.launch (k : Core) : Core := { k with run := true, swap := true, state := .running, cut := true }

/-- The image of a bank starts (R159, R160, R179, R574): measurements, configuration, data, next sets, then RUN on its
cores and on core 0, which holds the loader; then boot mode ends.  The resident set's start writes its registers (R588). -/
def State.startImage (s : State) (b : Nat) : State :=
  let m := imageOf (s.bankBytes b)
  let s := (s.extendMr 3 m.digest).extendMr 3 (sha384 (toBytes 1 m.keySlot ++ toBytes 4 m.svn))
  let s := s.extendMr 5 (sha384 ((m.sects.filter (fun x => decide (x.typ = 8))).flatMap (·.data)))
  let s := m.records.foldl State.configure s
  let own := s.residentImage m
  let s := (s.loadData m).install m s.layoutMark
  let s := (s.presentCores.filter (fun c => m.hasCore c.toNat || decide (c = 0))).foldl (fun (s : State) c => s.setCore c (s.core c).launch) s
  let s := (s.firstRun (m.running b)).setRfld (sta 0x13 0) 0 1 0
  let s := s.putFw { s.fw with markDue := some (s.tick + 1) }
  if own then s.residentSettings else s

/-- The recovery state (R180): boot mode stays, and no image runs. -/
def State.enterRecovery (s : State) (power trained : Bool) (p : StartPins) : State :=
  let s := if trained then s else s.trainNand p
  let s := if bit (s.reg (sta 9 0)) 0 then s else s.recoverIngot power
  ((s.setBootFld 5 1 1).putFw { s.fw with run := none, swapped := false }).putImageId 0

/-- The image that a start runs: the selected bank, else the other, else none (R179, R180, R565, R570). -/
def State.chooseImage (s : State) (power : Bool) (p : StartPins) : State :=
  let s := s.setBootFld 5 1 0
  if s.boot.src = 1 then s.enterRecovery power false p
  else
    let a := s.selectedBank
    let recorded := s.proofOk a
    let (ra, s) := s.tryBank power false p a
    match ra with
    | none => s.startImage a
    | some e =>
      let other := s.almRecord 0x1002 [w64 (a + (1 - a) * 2 ^ 8), w64 e.code]
      let repeated := !recorded && decide (0x0300 ≤ e.code)
      let trained := decide (0x0700 ≤ e.code)
      if repeated && !s.proofOk (1 - a) then other.enterRecovery power trained p
      else
        let (rb, s) := s.tryBank power trained p (1 - a)
        match rb with
        | none => (s.almRecord 0x1002 [w64 (a + (1 - a) * 2 ^ 8), w64 e.code]).startImage (1 - a)
        | some f => s.enterRecovery power (trained || decide (0x0700 ≤ f.code)) p

/-! ## Step 7: open-zone recovery -/

/-- A block with an erase-intent record is erased again, without testing (R355). -/
def State.eraseAgain (s : State) (e : W64) : State :=
  (maskPlanes (fld e 52 4)).foldl (fun (s : State) pl =>
    let bk := blkKey (locChan e) (locDie e) pl (locBlock e)
    let s := s.resetBlock bk true
    let s := s.putCare { s.care with erases := FMap.set (fun _ => 0) s.care.erases bk (s.eraseCount bk + 1) }
    if s.blkUse bk = 3 then s.setUse bk 1 else s) s

/-- An open extent's partial row is padded and its missing parity is programmed; a zone's extent keeps its partly
programmed row, as no wordline of it can have been cut (R272, R341, R355, DEDUCED, log entry 80). -/
def State.recoverExtent (s : State) (n : Nat) : State :=
  let s := s.parityRows n s.fam.pagesQlc
  match s.extent n with
  | none => s
  | some x =>
    if x.use = 0 ∨ x.closed.isSome then s
    else
      let s := (s.padCurrent n).parityRows n 2
      match s.extent n with
      | some y =>
        let e := s.extEntryOf n y
        let per := ((List.range y.rows).map (fun w => ExtEntry.wlTotal e s.fam w)).sum
        s.setExtent n (some { y with fill := max y.fill (min per (s.extentRoom y.mode)) })
      | none => s

/-- One almanac record at each start gives the number of fitted dies outside the existing die groups (R254); its code is that of
the resident set's records, which no rule gives (DESIGN CHOICE, log entry 76). -/
def State.outsideDies (s : State) : State := s.residentRecord [w64 (s.fittedDies.length - 16 * s.dieGroups.length)]

/-- Media recovery before READY: in full after a power loss or a controller fault reset; reservations, tokens and metadata
records without effect are forgotten, and open zones close, at every start (R261, R267, R277, R285, R355, R571). -/
def State.recoverZones (s : State) : State :=
  let s := s.setStep 7
  let s := if s.clean then s else
    let s := (s.intents.map (fun i => rdW s.ingot (intentOff i))).foldl State.eraseAgain s
    (s.extentList.map (·.1)).foldl State.recoverExtent s
  let s := (((s.putRsv []).putClean false : State).holdTokens).dropMeta.closeOpenZones
  let s := s.outsideDies
  let held := s.isManager && !s.volumes.isEmpty
  (s.putReturned (s.returned || (held && s.enclMember.isSome))).putBoot { s.boot with settle := held }

/-- Span ports train, on a worker or a manager; a link that is up or retraining goes on (R8, R374, R397). -/
def State.startSpan (s : State) : State :=
  if s.role = 0 then s
  else State.confirmAlone <| (List.range 4).foldl (fun (s : State) p => if s.spanPresent p && s.domeOn (2 + p) && !(decide (s.linkState p = 3) || decide (s.linkState p = 4)) then (s.setLink p 2).setSport p (portReset p) else s) s.postRestart

/-! ## Controllers -/

/-- Whether a controller's configuration lets it become ready (R216). -/
def Ctrl.cfgOk (c : Ctrl) : Bool :=
  decide (fld c.cc 11 3 ≤ 1) && (decide (fld c.cc 4 3 = 0) || decide (fld c.cc 4 3 = 6)) && decide (fld c.cc 7 4 ≤ 4) &&
  decide (1 ≤ fld c.aqa 0 12) && decide (1 ≤ fld c.aqa 16 12)

/-- The admin queue pair of function `f`: device queue f, owned by the control core (R223, R588). -/
def adminSq (f : Nat) (c : Ctrl) : SQ :=
  { base := w64 (c.asq.toNat / 4096 * 4096), entries := fld c.aqa 0 12 + 1, paused := false, retired := false, pasid := none, func := f
    head := 0, tail := 0, hostId := 0, cq := f, level := 0, owner := 0, rcls := 0, wcls := 0, ocls := 0, unsettled := 0, fetched := 0
    slice := none }
def adminCq (f : Nat) (c : Ctrl) : CQ :=
  { base := w64 (c.acq.toNat / 4096 * 4096), entries := fld c.aqa 16 12 + 1, pasid := none, func := f, tail := 0, head := 0, phase := true
    hostId := 0, vector := 0, ien := true, waiting := 0, written := 0, slice := none }

/-- An enabled controller becomes ready with its admin queue pair; a configuration that R216 does not give sets CFS and
leaves RDY at 0. -/
def State.readyCtrl (s : State) (f : Nat) : State :=
  let c := s.ctrl f
  if !bit c.cc 0 || c.cfs then s
  else if c.cfgOk then
    ((s.setCtrl f { c with rdy := true }).setSq f (some (adminSq f c))).setCq f (some (adminCq f c))
  else s.setCtrl f { c with cfs := true }

/-- Every enabled controller becomes ready (R569). -/
def State.readyAll (s : State) : State := (s.ctrls.map (·.1)).foldl State.readyCtrl s

/-- READY rises, and the device serves (R569, R573). -/
def State.readyHigh (s : State) : State :=
  let s := (s.setStep 8).setBootFld 4 1 1
  ((s.putBoot { s.boot with down := false, tripped := false }).putOut (s.out ++ [Out.ready true]) : State).readyAll

/-! ## Bring-up and restart -/

/-- Steps 4 to 7 of a restart, with the NAND training of every start: DRAM, the ingot store and the tick counter are kept
(R300, R469, R572). -/
def State.restart (s : State) (p : StartPins) : State :=
  let s := s.dropRanks.domesAtStart |>.putSqs [] |>.putCqs [] |>.putPower 0 |>.putPowerOp 0 |>.putStopped false |>.putCoolSince none |>.putRise []
  let s := ((s.setRfld thermCfg 12 1 0).setStep 4).setStep 5
  let s := (s.chooseImage false p).loadLevels none
  (s.startSpan).recoverZones.readyHigh

/-- Bring-up from step 1 on (R160, R509, R561, R565, R567, R568): it goes no further than step 1 when both boot blocks
fail, or when a boot ROM hold is strapped while debug access is on. -/
def State.bringUp (s : State) (b : BoardPins) : State :=
  let s := (s.domesAtStart.hostTrain b.hostLink).trustRegs.setStep 1
  let s := s.extendMr 0 (toBytes 48 b.rom.toNat)
  let hold := decide (s.boot.src = 2) && s.trust.debugNext
  let s := if 2 ≤ s.boot.src.toNat && !hold then
      let (f, s) := s.takeFree
      s.almRecord (0x1000 + f.toNat % 0x1000) [w64 s.boot.src.toNat]
    else s
  match s.bootPick b.sigs with
  | none =>
    let (f, s) := s.takeFree
    s.setBootFld 16 16 (f.toNat % 65536)
  | some k =>
    if hold then s
    else
      let s := ((s.bootBlock k).setStep 2).calibrate b
      let s := (((s.setStep 3).trainDram b s.paramArea.spareMask (decide (s.paramArea.rate ≠ 0))).recoverIntent).repairBoot k
      let s := ((s.setStep 4).setStep 5).extendMr 2 s.securityDigest
      let s := s.chooseImage true b.start
      let s := ((s.loadLevels (some (b.library, b.dflt))).loadDefaults b.dflt).loadCounts
      ((s.startSpan).recoverZones.readyHigh).blowFuses k

/-- PERST_DEASSERTION: the first samples the straps and brings the device up; a later one trains the host link again, and a
worker ignores it (R565 to R569). -/
def execPerstDeassertion (b : BoardPins) (s : State) : Res :=
  .next (
    if s.boot.pwrFail then s
    else if !s.boot.strapped then (s.sampleStraps b).bringUp b
    else if s.boot.perstLow && !s.isWorker then (s.putBoot { s.boot with perstLow := false } : State).hostTrain b.hostLink
    else s)

/-- PERST_ASSERTION after the first deassertion: the host PHY and its functions are reset, and after READY the device takes a
controller fault reset of cause 8 (R566, R587). -/
def execPerstAssertion (s : State) : Res :=
  .next (
    if !s.boot.strapped ∨ s.boot.perstLow ∨ s.isWorker then s
    else
      let s := if s.boot.down then s else s.faultReset 8 0 0
      ((s.putCtrls []).putBoot { s.boot with perstLow := true } : State).hostDown)

/-- POWER_FAIL: READY falls, the ingot store finishes what it accepted and copies the health counters, and an erase of the
pattern store is abandoned (R360, R477, R554, R575). -/
def execPowerFail (s : State) : Res :=
  .next (
    if s.boot.pwrFail then s
    else
      let s := s.readyLow
      let s := if bit (s.reg (sta 9 0)) 0 && s.domeOn 28 then s.copyHealth else s
      let s := ((s.setRfld (sta 9 0) 2 1 1).setRfld (sta 9 0) 1 1 1)
      let s := match s.pat.op with
        | some (true, a) =>
          ((s.norSpoil true a).putPat { s.pat with op := none } : State).setRfld patCmd 2 1 0 |>.setRfld patStat 0 1 0
        | _ => s
      (s.putBoot { s.boot with pwrFail := true }))

/-- POWER_FAIL_TIMEOUT: the supply is still there after 10 ms.  After READY the device takes a controller fault reset of cause
9; before READY, bring-up starts again with the straps as first sampled (R477, R576, R587). -/
def execPowerFailTimeout (b : BoardPins) (s : State) : Res :=
  .next (
    if !s.boot.pwrFail then s
    else
      let s := ((s.setRfld (sta 9 0) 2 1 0).setRfld (sta 9 0) 1 1 0).putBoot { s.boot with pwrFail := false }
      if !s.boot.strapped then s
      else if s.bootStep = 8 then s.faultReset 9 0 0
      else s.bringUp b)

/-- What a start finds: bits 0 and 1 of `sigs` are the signatures of banks A and B. -/
def startPins (sigs : BitVec 2) (nand : NandPins) : StartPins := { nand with sigA := bit sigs 0, sigB := bit sigs 1 }

/-- WORKER_RESTART: 1 ms after a controller fault reset a worker starts again (R572). -/
def execWorkerRestart (sigs : BitVec 2) (nand : NandPins) (s : State) : Res :=
  .next (if s.isWorker ∧ s.faulted ∧ !s.boot.pwrFail then s.restart (startPins sigs nand) else s)

/-- CONTROLLER_ENABLE: CC.EN goes from 0 to 1 (R216, R469, R534, R569, R572).  After a thermal trip the device ignores it
until DIEMAX is at or below GSTART. -/
def execControllerEnable (func : Nat) (cc aqa : BitVec 32) (asq acq : W64) (sigs : BitVec 2) (nand : NandPins) (s : State) : Res :=
  .next (
    let c := s.ctrl func
    if !s.boot.strapped || s.boot.perstLow || s.boot.pwrFail || !s.ctrlUp func || bit c.cc 0 || s.resets.any (fun r => decide (r.func = func)) ||
        (s.faulted && s.boot.tripped && decide (s.gstart < s.dieMax)) then s
    else
      let s := s.setCtrl func { c with cc := setBit cc 0 true, aqa := aqa, asq := asq, acq := acq, rdy := false, cfs := false, shst := 0 }
      if s.faulted then s.restart (startPins sigs nand)
      else if s.boot.down then s
      else s.readyCtrl func)

/-! ## Shutdown and power-down -/

/-- SHUTDOWN_NOTIFICATION: fetching stops and SHST shows the shutdown in progress; the read levels are checkpointed (R217,
R337). -/
def execShutdownNotification (func : Nat) (s : State) : Res :=
  .next (
    let c := s.ctrl func
    if s.boot.down || !s.funcExists func || !c.live || decide (c.shst ≠ 0) then s
    else
      let s := s.setCtrl func { c with shst := 1 }
      if s.ingotOpen then s.levelCopy else s)

/-- Whether every controller of the device has reached SHST 10b (R571). -/
def State.allShut (s : State) : Bool :=
  decide (0 < s.hostPorts) && (List.range s.hostPorts).all (fun p => decide ((s.ctrl (p * s.portFuncs)).shst = 2)) &&
  s.ctrls.all (fun p => !bit p.2.cc 0 || decide (p.2.shst = 2))

/-- Programs and erases that power loss cuts: on the dies, and a program of the pattern store that the power-fail steps did not
see to its end (R125, R129, R548, R554). -/
def State.cutPower (s : State) : State :=
  let s := (s.reqs.filter (fun r => decide (r.phase = .started))).foldl State.spoilOp s
  match s.pat.op with
  | some (erase, a) => s.norSpoil erase a
  | none => s

/-- POWER_DOWN: what is durable stays, and everything else is as right after power-up (R4, R13, R470, R571).  Of the DRAM, the
tables stay that the next start builds again from flash and the map delta log (DEDUCED, log entry 79). -/
def execPowerDown (s : State) : Res :=
  .next (
    let clean := s.allShut
    let s := s.cutPower
    { State.reset with
      pending := s.pending
      free := s.free
      out := s.out
      dram := s.dram
      dr := { State.reset.dr with bad := s.dr.bad }
      ingot := s.ingot
      nor := s.nor
      norUnk := s.norUnk
      verFuses := s.verFuses
      lostRanges := s.lostRanges
      lostAgain := s.lostAgain
      lostGen := s.lostGen
      wmap := s.wmap
      wfin := s.wfin
      wheld := s.wheld
      preserve := s.preserve
      metaOpen := s.metaOpen
      ns := s.ns
      volCap := s.volCap
      tokCount := s.tokCount
      fullZones := s.fullZones
      nand := s.nand
      blkErased := s.blkErased
      nsInfo := s.nsInfo
      care := { s.care with ladders := [], sweeps := [], wearing := [], levels := [], test := none }
      history := { s.history with ticks := 0, busy := false }
      fw := { s.fw with stage := none, pieces := [], run := none, hand := none, swapped := false, markDue := none }
      trust := { State.reset.trust with
        owners := s.trust.owners, svnMin := s.trust.svnMin, debugNext := s.trust.debugNext, holders := s.trust.holders }
      fdp := s.fdp
      accum := s.accum
      clean := clean })

end Sys2Proof.Machine
end

