-- ==== Sys2Proof/Machine/LoadStore.lean ====
section
/-! DEFINITION. Loads, stores and atomics over the core address map (R58 to R62, R67, R68). -/

namespace Sys2Proof.Machine

/-- The address of a load or store: gB + sext(IMM) (R67). -/
def Core.effAddr (k : Core) (b : GReg) (i : Imm32) : Nat := (k.getG b + i.signExtend 64).toNat

/-- The charge of a load, store, tld or tst by space (R67). -/
def memCharge (c0 c1 c2 sp : Nat) : Nat := match sp with
  | 0 => c0
  | 1 => c1
  | _ => c2

/-- The SRAM word of a core-side location: its array and first word (R462). -/
def coreSram (c : CoreId) : Loc → Option (Nat × Nat)
  | .data a => some (0x40 + c.toNat, a / 8)
  | .cluster a => some (0x80 + a / 0x100000, a % 0x100000 / 8)
  | .tun a => some (0x88, a / 8)
  | .inst j w => some (j, w)
  | _ => none

/-- A core reads the SRAM words of a location (R463, R83). -/
def State.coreTouch (s : State) (c : CoreId) (l : Loc) (n : Nat) : State :=
  match coreSram c l with
  | some (arr, w) => s.sramRead arr w ((n + 7) / 8)
  | none => s

/-- Bytes at a core-side memory location. -/
def State.coreBytes (s : State) (c : CoreId) (l : Loc) (n : Nat) : List Byte :=
  match l with
  | .data a => rdBytes (s.core c).data a n
  | .cluster a => rdBytes s.cluster a n
  | .tun a => rdBytes s.tun a n
  | _ => []

/-- Write bytes in the data store or cluster memory. -/
def State.coreWrite (s : State) (c : CoreId) (l : Loc) (bs : List Byte) : State :=
  match l with
  | .data a =>
    let s := s.sramWrite (0x40 + c.toNat) (a / 8) ((bs.length + 7) / 8)
    s.setCore c { s.core c with data := wrBytes (s.core c).data a bs }
  | .cluster _ => s.writeLoc l bs
  | _ => s

/-- A word of the instruction-store window: words 0 to 4,095 are bank A; an absent core reads 0. -/
def State.instWord (s : State) (j w : Nat) : W64 :=
  let k := s.core (BitVec.ofNat 6 j)
  if !s.corePresent (BitVec.ofNat 6 j) then 0
  else if w < 4096 then FMap.get (bankWord0 j) k.bankA w else FMap.get (bankWord0 j) k.bankB (w - 4096)

/-- A store in the instruction-store window, ignored in a core's active bank and for an absent core
(R59). -/
def State.instWrite (s : State) (j w : Nat) (v : W64) : State :=
  let c := BitVec.ofNat 6 j
  let k := s.core c
  if !s.corePresent c ∨ k.actBank = decide (4096 ≤ w) then s
  else
    let s := s.sramWrite j w 1
    let k := s.core c
    s.setCore c (if w < 4096 then { k with bankA := FMap.set (bankWord0 j) k.bankA w v }
      else { k with bankB := FMap.set (bankWord0 j) k.bankB (w - 4096) v })

/-- Whether R58 and R59 let a load of `n` bytes reach a location. -/
def loadable (n : Nat) : Loc → Bool
  | .inst _ _ | .station _ => decide (n = 8)
  | .data _ | .cluster _ | .tun _ => true
  | _ => false

/-- Whether R58 and R59 let a store of `n` bytes reach a location. -/
def storable (n : Nat) : Loc → Bool
  | .inst _ _ | .station _ => decide (n = 8)
  | .data _ | .cluster _ => true
  | _ => false

/-- The location of an access that is aligned and that R58, R59 and the checker let pass; otherwise the
fault code (R68). -/
def State.access (s : State) (c : CoreId) (sp a n : Nat) (p : Perm) (ok : Loc → Bool) : Except Nat Loc :=
  if a % n ≠ 0 then .error 0xE4
  else match coreLoc c sp a n with
    | some l => if ok l && s.checkOk c p a n then .ok l else .error 0xE3
    | none => .error 0xE3

/-- The value of a load, and the state after the reading (R463, R551). -/
def State.loadValue (s : State) (c : CoreId) (l : Loc) (n : Nat) : Nat × State :=
  match l with
  | .station off => let (v, s) := s.stRead off; (v.toNat, s)
  | .inst j w => ((s.instWord j w).toNat, s.coreTouch c l 8)
  | _ => (ofBytes (s.coreBytes c l n), s.coreTouch c l n)

/-- A load of `n` bytes (R67). -/
def load (c : CoreId) (a b : GReg) (x : BitVec 9) (i : Imm32) (n : Nat) (s : State) : Res :=
  onCore s c (fun s =>
    let sp := x.toNat
    if 2 < sp then s.illegal c else
    let ch := memCharge 2 9 44 sp
    match s.access c sp ((s.core c).effAddr b i) n .rd (loadable n) with
    | .error e => s.progFault c e ch 0
    | .ok l =>
      let (v, s') := s.loadValue c l n
      s.unlessReset s' (fun s => s.stepCore c ch (fun k => k.setG a (w64 v))))

def execLd8 (c : CoreId) (a b : GReg) (x : BitVec 9) (i : Imm32) (s : State) : Res := load c a b x i 1 s
def execLd16 (c : CoreId) (a b : GReg) (x : BitVec 9) (i : Imm32) (s : State) : Res := load c a b x i 2 s
def execLd32 (c : CoreId) (a b : GReg) (x : BitVec 9) (i : Imm32) (s : State) : Res := load c a b x i 4 s
def execLd64 (c : CoreId) (a b : GReg) (x : BitVec 9) (i : Imm32) (s : State) : Res := load c a b x i 8 s

/-- What a store of `n` bytes does at a location. -/
def State.storeValue (s : State) (c : CoreId) (l : Loc) (n : Nat) (v : W64) : State :=
  match l with
  | .station off => s.stWrite (s.whoLoader (.core c)) off v
  | .inst j w => s.instWrite j w v
  | _ => s.coreWrite c l (toBytes n v.toNat)

/-- A store of `n` bytes (R67). -/
def store (c : CoreId) (a b : GReg) (x : BitVec 9) (i : Imm32) (n : Nat) (s : State) : Res :=
  onCore s c (fun s =>
    let sp := x.toNat
    if 2 < sp then s.illegal c else
    let ch := memCharge 1 7 42 sp
    match s.access c sp ((s.core c).effAddr b i) n .wr (storable n) with
    | .error e => s.progFault c e ch 0
    | .ok l => (s.storeValue c l n ((s.core c).getG a)).stepCore c ch (fun k => k))

def execSt8 (c : CoreId) (a b : GReg) (x : BitVec 9) (i : Imm32) (s : State) : Res := store c a b x i 1 s
def execSt16 (c : CoreId) (a b : GReg) (x : BitVec 9) (i : Imm32) (s : State) : Res := store c a b x i 2 s
def execSt32 (c : CoreId) (a b : GReg) (x : BitVec 9) (i : Imm32) (s : State) : Res := store c a b x i 4 s
def execSt64 (c : CoreId) (a b : GReg) (x : BitVec 9) (i : Imm32) (s : State) : Res := store c a b x i 8 s

/-- TLD: 32 bytes into a tag register (R67). -/
def execTld (c : CoreId) (a b : GReg) (x : BitVec 9) (i : Imm32) (s : State) : Res :=
  onCore s c (fun s =>
    let sp := x.toNat
    if 2 < sp ∨ !tagReg a then s.illegal c else
    let ch := memCharge 3 10 44 sp
    match s.access c sp ((s.core c).effAddr b i) 32 .rd (loadable 32) with
    | .error e => s.progFault c e ch 0
    | .ok l =>
      let v := BitVec.ofNat 256 (ofBytes (s.coreBytes c l 32))
      s.unlessReset (s.coreTouch c l 32) (fun s => s.stepCore c ch (fun k => k.setT a.toNat v)))

/-- TST: a tag register into 32 bytes; space 2 is illegal (R67). -/
def execTst (c : CoreId) (a b : GReg) (x : BitVec 9) (i : Imm32) (s : State) : Res :=
  onCore s c (fun s =>
    let sp := x.toNat
    if 1 < sp ∨ !tagReg a then s.illegal c else
    let ch := memCharge 2 9 0 sp
    match s.access c sp ((s.core c).effAddr b i) 32 .wr (storable 32) with
    | .error e => s.progFault c e ch 0
    | .ok l => (s.coreWrite c l (toBytes 32 ((s.core c).getT a.toNat).toNat)).stepCore c ch (fun k => k))

/-- An atomic on cluster memory at gB, at a charge of 10: `f old` is the word to store, if any, and the
value of gA (R67). -/
def atomic (c : CoreId) (a b : GReg) (x : BitVec 9) (s : State) (f : Core → W64 → Option W64 × W64) : Res :=
  onCore s c (fun s =>
    if x.toNat ≠ 1 then s.illegal c else
    match s.access c 1 ((s.core c).getG b).toNat 8 .at (storable 8) with
    | .error e => s.progFault c e 10 0
    | .ok l =>
      let old := w64 (ofBytes (s.coreBytes c l 8))
      s.unlessReset (s.coreTouch c l 8) (fun s =>
        let r := f (s.core c) old
        let s := match r.1 with
          | some v => s.coreWrite c l (toBytes 8 v.toNat)
          | none => s
        s.stepCore c 10 (fun k => k.setG a r.2)))

def execClad (c : CoreId) (a b d : GReg) (x : BitVec 9) (s : State) : Res :=
  atomic c a b x s (fun k old => (some (old + k.getG d), old + k.getG d))

def execClcx (c : CoreId) (a b d : GReg) (x : BitVec 9) (s : State) : Res :=
  atomic c a b x s (fun k old => (if old = k.getG a then some (k.getG d) else none, old))

def execClsw (c : CoreId) (a b d : GReg) (x : BitVec 9) (s : State) : Res :=
  atomic c a b x s (fun k old => (some (k.getG d), old))

end Sys2Proof.Machine
end

