-- ==== Sys2Proof/Machine/Dispatch.lean ====
section
/-! DEFINITION. The effect of each command on everything but the queue: one arm per constructor. -/

namespace Sys2Proof.Machine

def exec (i : Instr) (s : State) : Host.Outcome State Fault Refusal :=
  match i with
  | .tickBoundary => Sys2Proof.Machine.execTickBoundary s
  | .faultWindowCut c => Sys2Proof.Machine.execFaultWindowCut c s
  | .intake => Sys2Proof.Machine.execIntake s
  | .slotDispatch c => Sys2Proof.Machine.execSlotDispatch c s
  | .startActivation c => Sys2Proof.Machine.execStartActivation c s
  | .boundExcess c => Sys2Proof.Machine.execBoundExcess c s
  | .agePromotion c t => Sys2Proof.Machine.execAgePromotion c t s
  | .timePeriodWrite w v => Sys2Proof.Machine.execTimePeriodWrite w v s
  | .timePeriodLock w => Sys2Proof.Machine.execTimePeriodLock w s
  | .pllSlip => Sys2Proof.Machine.execPllSlip s
  | .schedCtlRun w c run => Sys2Proof.Machine.execSchedCtlRun w c run s
  | .schedCtlSwap w c => Sys2Proof.Machine.execSchedCtlSwap w c s
  | .schedCtlResume w c run => Sys2Proof.Machine.execSchedCtlResume w c run s
  | .schedStatClear w c => Sys2Proof.Machine.execSchedStatClear w c s
  | .schedEphDataWrite w v => Sys2Proof.Machine.execSchedEphDataWrite w v s
  | .schedHovmaskWrite w mask => Sys2Proof.Machine.execSchedHovmaskWrite w mask s
  | .schedFaultWrite w c v => Sys2Proof.Machine.execSchedFaultWrite w c v s
  | .checkerRegionWrite w c n limit v => Sys2Proof.Machine.execCheckerRegionWrite w c n limit v s
  | .registerWrite w off v => Sys2Proof.Machine.execRegisterWrite w off v s
  | .qengRcfgWrite w v => Sys2Proof.Machine.execQengRcfgWrite w v s
  | .hazWsnfloorWrite w v => Sys2Proof.Machine.execHazWsnfloorWrite w v s
  | .wsnFloorRaise => Sys2Proof.Machine.execWsnFloorRaise s
  | .ingotLtailWrite w v => Sys2Proof.Machine.execIngotLtailWrite w v s
  | .tunMinWrite w v => Sys2Proof.Machine.execTunMinWrite w v s
  | .tunCtlLock w => Sys2Proof.Machine.execTunCtlLock w s
  | .dramFchgGo w v => Sys2Proof.Machine.execDramFchgGo w v s
  | .frequencyChangeDone => Sys2Proof.Machine.execFrequencyChangeDone s
  | .dramTrunGo w v => Sys2Proof.Machine.execDramTrunGo w v s
  | .trainingRunDone fail count => Sys2Proof.Machine.execTrainingRunDone fail count s
  | .dramPortTargetWrite w n v => Sys2Proof.Machine.execDramPortTargetWrite w n v s
  | .scrubStart w v => Sys2Proof.Machine.execScrubStart w v s
  | .scrubDone corr stuck => Sys2Proof.Machine.execScrubDone corr stuck s
  | .shareRdoneWrite w v => Sys2Proof.Machine.execShareRdoneWrite w v s
  | .sliceReset w v => Sys2Proof.Machine.execSliceReset w v s
  | .shareSliceWrite w n v => Sys2Proof.Machine.execShareSliceWrite w n v s
  | .mediationWindowAccess func off wr v => Sys2Proof.Machine.execMediationWindowAccess func off wr v s
  | .thermPkgWrite w n v => Sys2Proof.Machine.execThermPkgWrite w n v s
  | .patProgram w => Sys2Proof.Machine.execPatProgram w s
  | .patErase w => Sys2Proof.Machine.execPatErase w s
  | .patOperationDone pulses pass => Sys2Proof.Machine.execPatOperationDone pulses pass s
  | .patRdataRead w => Sys2Proof.Machine.execPatRdataRead w s
  | .patBulkRead w v => Sys2Proof.Machine.execPatBulkRead w v s
  | .patBulkReadDone => Sys2Proof.Machine.execPatBulkReadDone s
  | .secBmexitWrite w v => Sys2Proof.Machine.execSecBmexitWrite w v s
  | .nop c => Sys2Proof.Machine.execNop c s
  | .add c a b d => Sys2Proof.Machine.execAdd c a b d s
  | .sub c a b d => Sys2Proof.Machine.execSub c a b d s
  | .addi c a b imm => Sys2Proof.Machine.execAddi c a b imm s
  | .mul c a b d => Sys2Proof.Machine.execMul c a b d s
  | .mulhi c a b d => Sys2Proof.Machine.execMulhi c a b d s
  | .divq c a b d => Sys2Proof.Machine.execDivq c a b d s
  | .modq c a b d => Sys2Proof.Machine.execModq c a b d s
  | .and c a b d => Sys2Proof.Machine.execAnd c a b d s
  | .or c a b d => Sys2Proof.Machine.execOr c a b d s
  | .xor c a b d => Sys2Proof.Machine.execXor c a b d s
  | .andi c a b imm => Sys2Proof.Machine.execAndi c a b imm s
  | .ori c a b imm => Sys2Proof.Machine.execOri c a b imm s
  | .xori c a b imm => Sys2Proof.Machine.execXori c a b imm s
  | .shl c a b d => Sys2Proof.Machine.execShl c a b d s
  | .shr c a b d => Sys2Proof.Machine.execShr c a b d s
  | .shra c a b d => Sys2Proof.Machine.execShra c a b d s
  | .shli c a b imm => Sys2Proof.Machine.execShli c a b imm s
  | .shri c a b imm => Sys2Proof.Machine.execShri c a b imm s
  | .shrai c a b imm => Sys2Proof.Machine.execShrai c a b imm s
  | .li c a imm => Sys2Proof.Machine.execLi c a imm s
  | .lih c a imm => Sys2Proof.Machine.execLih c a imm s
  | .lts c a b d => Sys2Proof.Machine.execLts c a b d s
  | .ltu c a b d => Sys2Proof.Machine.execLtu c a b d s
  | .minu c a b d => Sys2Proof.Machine.execMinu c a b d s
  | .maxu c a b d => Sys2Proof.Machine.execMaxu c a b d s
  | .sel c a b d => Sys2Proof.Machine.execSel c a b d s
  | .ext c a b imm => Sys2Proof.Machine.execExt c a b imm s
  | .exts c a b imm => Sys2Proof.Machine.execExts c a b imm s
  | .ins c a b imm => Sys2Proof.Machine.execIns c a b imm s
  | .clz c a b => Sys2Proof.Machine.execClz c a b s
  | .ctz c a b => Sys2Proof.Machine.execCtz c a b s
  | .popc c a b => Sys2Proof.Machine.execPopc c a b s
  | .bswap c a b => Sys2Proof.Machine.execBswap c a b s
  | .crc32 c a b => Sys2Proof.Machine.execCrc32 c a b s
  | .ld8 c a b x imm => Sys2Proof.Machine.execLd8 c a b x imm s
  | .ld16 c a b x imm => Sys2Proof.Machine.execLd16 c a b x imm s
  | .ld32 c a b x imm => Sys2Proof.Machine.execLd32 c a b x imm s
  | .ld64 c a b x imm => Sys2Proof.Machine.execLd64 c a b x imm s
  | .st8 c a b x imm => Sys2Proof.Machine.execSt8 c a b x imm s
  | .st16 c a b x imm => Sys2Proof.Machine.execSt16 c a b x imm s
  | .st32 c a b x imm => Sys2Proof.Machine.execSt32 c a b x imm s
  | .st64 c a b x imm => Sys2Proof.Machine.execSt64 c a b x imm s
  | .tld c a b x imm => Sys2Proof.Machine.execTld c a b x imm s
  | .tst c a b x imm => Sys2Proof.Machine.execTst c a b x imm s
  | .clad c a b d x => Sys2Proof.Machine.execClad c a b d x s
  | .clcx c a b d x => Sys2Proof.Machine.execClcx c a b d x s
  | .clsw c a b d x => Sys2Proof.Machine.execClsw c a b d x s
  | .jmp c tgt => Sys2Proof.Machine.execJmp c tgt s
  | .beq c a b tgt => Sys2Proof.Machine.execBeq c a b tgt s
  | .bne c a b tgt => Sys2Proof.Machine.execBne c a b tgt s
  | .blt c a b tgt => Sys2Proof.Machine.execBlt c a b tgt s
  | .bge c a b tgt => Sys2Proof.Machine.execBge c a b tgt s
  | .bltu c a b tgt => Sys2Proof.Machine.execBltu c a b tgt s
  | .bgeu c a b tgt => Sys2Proof.Machine.execBgeu c a b tgt s
  | .beqi c a k tgt => Sys2Proof.Machine.execBeqi c a k tgt s
  | .bnei c a k tgt => Sys2Proof.Machine.execBnei c a k tgt s
  | .call c tgt => Sys2Proof.Machine.execCall c tgt s
  | .ret c => Sys2Proof.Machine.execRet c s
  | .loop c b tgt m => Sys2Proof.Machine.execLoop c b tgt m s
  | .lbrk c => Sys2Proof.Machine.execLbrk c s
  | .switch c a k tgt => Sys2Proof.Machine.execSwitch c a k tgt s
  | .slend c => Sys2Proof.Machine.execSlend c s
  | .trap c k => Sys2Proof.Machine.execTrap c k s
  | .tfx c a b f => Sys2Proof.Machine.execTfx c a b f s
  | .tfi c a b f => Sys2Proof.Machine.execTfi c a b f s
  | .tclr c a => Sys2Proof.Machine.execTclr c a s
  | .tmov c a b => Sys2Proof.Machine.execTmov c a b s
  | .tcmp c a b d imm => Sys2Proof.Machine.execTcmp c a b d imm s
  | .tseq c a b d => Sys2Proof.Machine.execTseq c a b d s
  | .mfoc c a => Sys2Proof.Machine.execMfoc c a s
  | .mtick c a => Sys2Proof.Machine.execMtick c a s
  | .mcyc c a => Sys2Proof.Machine.execMcyc c a s
  | .coreid c a => Sys2Proof.Machine.execCoreid c a s
  | .credits c a => Sys2Proof.Machine.execCredits c a s
  | .fence c => Sys2Proof.Machine.execFence c s
  | .sreset c => Sys2Proof.Machine.execSreset c s
  | .rpush c a b d => Sys2Proof.Machine.execRpush c a b d s
  | .rpop c a b => Sys2Proof.Machine.execRpop c a b s
  | .gate c imm => Sys2Proof.Machine.execGate c imm s
  | .squash c imm => Sys2Proof.Machine.execSquash c imm s
  | .squashAbort c imm => Sys2Proof.Machine.execSquashAbort c imm s
  | .qctlRead c a b d imm => Sys2Proof.Machine.execQctlRead c a b d imm s
  | .qctlPause c a b d => Sys2Proof.Machine.execQctlPause c a b d s
  | .qctlResume c a b d => Sys2Proof.Machine.execQctlResume c a b d s
  | .qctlSetOwner c a b d => Sys2Proof.Machine.execQctlSetOwner c a b d s
  | .qctlSetLevel c a b d => Sys2Proof.Machine.execQctlSetLevel c a b d s
  | .qctlRetire c a b d => Sys2Proof.Machine.execQctlRetire c a b d s
  | .hzinsConfirm c a b d => Sys2Proof.Machine.execHzinsConfirm c a b d s
  | .hzinsInsert c a b d => Sys2Proof.Machine.execHzinsInsert c a b d s
  | .hzchk c a b d => Sys2Proof.Machine.execHzchk c a b d s
  | .hzdel c a b => Sys2Proof.Machine.execHzdel c a b s
  | .bget c a b imm => Sys2Proof.Machine.execBget c a b imm s
  | .bput c a b => Sys2Proof.Machine.execBput c a b s
  | .bref c a b => Sys2Proof.Machine.execBref c a b s
  | .mlook c imm => Sys2Proof.Machine.execMlook c imm s
  | .mcommit c imm => Sys2Proof.Machine.execMcommit c imm s
  | .mtrim c imm => Sys2Proof.Machine.execMtrim c imm s
  | .mzoneReserve c imm => Sys2Proof.Machine.execMzoneReserve c imm s
  | .mzoneReserveToken c imm => Sys2Proof.Machine.execMzoneReserveToken c imm s
  | .mzoneSetState c imm => Sys2Proof.Machine.execMzoneSetState c imm s
  | .mzoneReset c imm => Sys2Proof.Machine.execMzoneReset c imm s
  | .mzoneFinish c imm => Sys2Proof.Machine.execMzoneFinish c imm s
  | .mzoneRead c imm => Sys2Proof.Machine.execMzoneRead c imm s
  | .fread c imm => Sys2Proof.Machine.execFread c imm s
  | .fprog c imm => Sys2Proof.Machine.execFprog c imm s
  | .ferase c imm => Sys2Proof.Machine.execFerase c imm s
  | .fstat c imm => Sys2Proof.Machine.execFstat c imm s
  | .ffeatGet c imm => Sys2Proof.Machine.execFfeatGet c imm s
  | .ffeatSet c imm => Sys2Proof.Machine.execFfeatSet c imm s
  | .fraw c imm => Sys2Proof.Machine.execFraw c imm s
  | .fcancel c imm => Sys2Proof.Machine.execFcancel c imm s
  | .dmin c imm => Sys2Proof.Machine.execDmin c imm s
  | .dmout c imm => Sys2Proof.Machine.execDmout c imm s
  | .dmcopy c imm => Sys2Proof.Machine.execDmcopy c imm s
  | .dmcopyFramed c imm => Sys2Proof.Machine.execDmcopyFramed c imm s
  | .dmfill c imm => Sys2Proof.Machine.execDmfill c imm s
  | .xts c imm => Sys2Proof.Machine.execXts c imm s
  | .cmac c imm => Sys2Proof.Machine.execCmac c imm s
  | .vslotStatus c imm => Sys2Proof.Machine.execVslotStatus c imm s
  | .vslotClear c imm => Sys2Proof.Machine.execVslotClear c imm s
  | .vslotFill c imm => Sys2Proof.Machine.execVslotFill c imm s
  | .vslotImport c imm => Sys2Proof.Machine.execVslotImport c imm s
  | .vslotBind c imm => Sys2Proof.Machine.execVslotBind c imm s
  | .pxor c imm => Sys2Proof.Machine.execPxor c imm s
  | .pmac c imm => Sys2Proof.Machine.execPmac c imm s
  | .pcheck c imm => Sys2Proof.Machine.execPcheck c imm s
  | .sreq c imm => Sys2Proof.Machine.execSreq c imm s
  | .sresp c imm => Sys2Proof.Machine.execSresp c imm s
  | .slinkState c imm => Sys2Proof.Machine.execSlinkState c imm s
  | .slinkRetrain c imm => Sys2Proof.Machine.execSlinkRetrain c imm s
  | .slinkDisable c imm => Sys2Proof.Machine.execSlinkDisable c imm s
  | .slinkEnable c imm => Sys2Proof.Machine.execSlinkEnable c imm s
  | .slinkEnumerate c imm => Sys2Proof.Machine.execSlinkEnumerate c imm s
  | .arec c imm => Sys2Proof.Machine.execArec c imm s
  | .sens c a b => Sys2Proof.Machine.execSens c a b s
  | .hlth c a b d => Sys2Proof.Machine.execHlth c a b d s
  | .vote c imm => Sys2Proof.Machine.execVote c imm s
  | .vack c a b d => Sys2Proof.Machine.execVack c a b d s
  | .engineRequestTake u => Sys2Proof.Machine.execEngineRequestTake u s
  | .eventRingPost c => Sys2Proof.Machine.execEventRingPost c s
  | .gateFenceRelease k => Sys2Proof.Machine.execGateFenceRelease k s
  | .cqSpaceResume cq => Sys2Proof.Machine.execCqSpaceResume cq s
  | .abortClaimApply k => Sys2Proof.Machine.execAbortClaimApply k s
  | .entryBufferReturn k => Sys2Proof.Machine.execEntryBufferReturn k s
  | .mapLookupDone c t => Sys2Proof.Machine.execMapLookupDone c t s
  | .mapCommitDone c t => Sys2Proof.Machine.execMapCommitDone c t s
  | .mapTrimDone c t => Sys2Proof.Machine.execMapTrimDone c t s
  | .zoneUpdateDone c t => Sys2Proof.Machine.execZoneUpdateDone c t s
  | .verbEnterDieQueue c t => Sys2Proof.Machine.execVerbEnterDieQueue c t s
  | .diePoll ch die st => Sys2Proof.Machine.execDiePoll ch die st s
  | .programEraseSuspend ch die => Sys2Proof.Machine.execProgramEraseSuspend ch die s
  | .resumeOperation ch die => Sys2Proof.Machine.execResumeOperation ch die s
  | .dieTimeout ch die => Sys2Proof.Machine.execDieTimeout ch die s
  | .ldpcSlotGrant bank => Sys2Proof.Machine.execLdpcSlotGrant bank s
  | .softDecode c t ok diff => Sys2Proof.Machine.execSoftDecode c t ok diff s
  | .flashReadDone c t fr => Sys2Proof.Machine.execFlashReadDone c t fr s
  | .rawReadDone c t fr => Sys2Proof.Machine.execRawReadDone c t fr s
  | .flashProgramDone c t st ns => Sys2Proof.Machine.execFlashProgramDone c t st ns s
  | .flashEraseDone c t st ns => Sys2Proof.Machine.execFlashEraseDone c t st ns s
  | .dieStatusDone c t st => Sys2Proof.Machine.execDieStatusDone c t st s
  | .featureDone c t param => Sys2Proof.Machine.execFeatureDone c t param s
  | .channelMachineCheck ch cause => Sys2Proof.Machine.execChannelMachineCheck ch cause s
  | .channelWatchdog ch => Sys2Proof.Machine.execChannelWatchdog ch s
  | .localResetDone ch => Sys2Proof.Machine.execLocalResetDone ch s
  | .dirNoAction ch w => Sys2Proof.Machine.execDirNoAction ch w s
  | .dirTakeVerb ch w => Sys2Proof.Machine.execDirTakeVerb ch w s
  | .dirCompleteVerb ch w => Sys2Proof.Machine.execDirCompleteVerb ch w s
  | .dirSetOutcome ch w => Sys2Proof.Machine.execDirSetOutcome ch w s
  | .dirStartTimer ch w => Sys2Proof.Machine.execDirStartTimer ch w s
  | .dirCountSuspend ch w => Sys2Proof.Machine.execDirCountSuspend ch w s
  | .dirRecordResume ch w => Sys2Proof.Machine.execDirRecordResume ch w s
  | .dirRequestLdpcSlot ch w => Sys2Proof.Machine.execDirRequestLdpcSlot ch w s
  | .dirSetDurableMarks ch w => Sys2Proof.Machine.execDirSetDurableMarks ch w s
  | .dirSelectDie ch w => Sys2Proof.Machine.execDirSelectDie ch w s
  | .dirSetCounter ch w => Sys2Proof.Machine.execDirSetCounter ch w s
  | .dirDecrementCounter ch w => Sys2Proof.Machine.execDirDecrementCounter ch w s
  | .dirAdvance ch w => Sys2Proof.Machine.execDirAdvance ch w s
  | .seqIdle ch w => Sys2Proof.Machine.execSeqIdle ch w s
  | .seqCommandCycle ch w => Sys2Proof.Machine.execSeqCommandCycle ch w s
  | .seqAddressCycle ch w => Sys2Proof.Machine.execSeqAddressCycle ch w s
  | .seqDataInput ch w => Sys2Proof.Machine.execSeqDataInput ch w s
  | .seqDataOutput ch w fr => Sys2Proof.Machine.execSeqDataOutput ch w fr s
  | .seqStatusRead ch w st => Sys2Proof.Machine.execSeqStatusRead ch w st s
  | .seqCall ch w => Sys2Proof.Machine.execSeqCall ch w s
  | .seqReturn ch w => Sys2Proof.Machine.execSeqReturn ch w s
  | .seqJump ch w => Sys2Proof.Machine.execSeqJump ch w s
  | .seqChipEnable ch w => Sys2Proof.Machine.execSeqChipEnable ch w s
  | .seqWaitBusGrant ch w => Sys2Proof.Machine.execSeqWaitBusGrant ch w s
  | .dataMoverInDone c t ok data => Sys2Proof.Machine.execDataMoverInDone c t ok data s
  | .dataMoverOutDone c t ok => Sys2Proof.Machine.execDataMoverOutDone c t ok s
  | .copyDone c t => Sys2Proof.Machine.execCopyDone c t s
  | .fillDone c t => Sys2Proof.Machine.execFillDone c t s
  | .xtsDone c t => Sys2Proof.Machine.execXtsDone c t s
  | .cmacDone c t => Sys2Proof.Machine.execCmacDone c t s
  | .vaultOperationDone c t => Sys2Proof.Machine.execVaultOperationDone c t s
  | .parityDone c t => Sys2Proof.Machine.execParityDone c t s
  | .parityCheckDone c t => Sys2Proof.Machine.execParityCheckDone c t s
  | .almanacRecordDone c t => Sys2Proof.Machine.execAlmanacRecordDone c t s
  | .spanResponseArrival p m => Sys2Proof.Machine.execSpanResponseArrival p m s
  | .spanRequestTimeout c t => Sys2Proof.Machine.execSpanRequestTimeout c t s
  | .spanArrival p m => Sys2Proof.Machine.execSpanArrival p m s
  | .quiesceTimeout d => Sys2Proof.Machine.execQuiesceTimeout d s
  | .domeWakeDone d => Sys2Proof.Machine.execDomeWakeDone d s
  | .wakeSource src edge phase => Sys2Proof.Machine.execWakeSource src edge phase s
  | .sqTailDoorbell func y v => Sys2Proof.Machine.execSqTailDoorbell func y v s
  | .cqHeadDoorbell func y v => Sys2Proof.Machine.execCqHeadDoorbell func y v s
  | .sqFetch q e pre => Sys2Proof.Machine.execSqFetch q e pre s
  | .functionLevelReset func => Sys2Proof.Machine.execFunctionLevelReset func s
  | .controllerDisable func => Sys2Proof.Machine.execControllerDisable func s
  | .controllerEnable func cc aqa asq acq sigs nand => Sys2Proof.Machine.execControllerEnable func cc aqa asq acq sigs nand s
  | .shutdownNotification func => Sys2Proof.Machine.execShutdownNotification func s
  | .resetEnd tok => Sys2Proof.Machine.execResetEnd tok s
  | .deleteIoSq k => Sys2Proof.Machine.execDeleteIoSq k s
  | .deleteIoCq k => Sys2Proof.Machine.execDeleteIoCq k s
  | .createIoSq k => Sys2Proof.Machine.execCreateIoSq k s
  | .createIoCq k => Sys2Proof.Machine.execCreateIoCq k s
  | .getLogPage k => Sys2Proof.Machine.execGetLogPage k s
  | .getLogPageAlmanac k => Sys2Proof.Machine.execGetLogPageAlmanac k s
  | .getLogPageTickStatistics k => Sys2Proof.Machine.execGetLogPageTickStatistics k s
  | .identify k => Sys2Proof.Machine.execIdentify k s
  | .abort k => Sys2Proof.Machine.execAbort k s
  | .setFeatures k data => Sys2Proof.Machine.execSetFeatures k data s
  | .setFeaturesArbitration k => Sys2Proof.Machine.execSetFeaturesArbitration k s
  | .setFeaturesPowerManagement k => Sys2Proof.Machine.execSetFeaturesPowerManagement k s
  | .setFeaturesTemperatureThreshold k => Sys2Proof.Machine.execSetFeaturesTemperatureThreshold k s
  | .setFeaturesFdp k => Sys2Proof.Machine.execSetFeaturesFdp k s
  | .numberOfQueues k => Sys2Proof.Machine.execNumberOfQueues k s
  | .getFeatures k => Sys2Proof.Machine.execGetFeatures k s
  | .asynchronousEventRequest k => Sys2Proof.Machine.execAsynchronousEventRequest k s
  | .namespaceCreate k d => Sys2Proof.Machine.execNamespaceCreate k d s
  | .namespaceDelete k => Sys2Proof.Machine.execNamespaceDelete k s
  | .namespaceAttachment k ctls => Sys2Proof.Machine.execNamespaceAttachment k ctls s
  | .firmwareImageDownload k data => Sys2Proof.Machine.execFirmwareImageDownload k data s
  | .firmwareCommitWriteOnly k sig nor => Sys2Proof.Machine.execFirmwareCommitWriteOnly k sig nor s
  | .firmwareCommitAtReset k sig nor => Sys2Proof.Machine.execFirmwareCommitAtReset k sig nor s
  | .firmwareCommitExisting k sig => Sys2Proof.Machine.execFirmwareCommitExisting k sig s
  | .firmwareCommitActivateNow k sig nor => Sys2Proof.Machine.execFirmwareCommitActivateNow k sig nor s
  | .liveHandoverArm => Sys2Proof.Machine.execLiveHandoverArm s
  | .layoutMarkWrite => Sys2Proof.Machine.execLayoutMarkWrite s
  | .selfTestShort k => Sys2Proof.Machine.execSelfTestShort k s
  | .selfTestExtended k => Sys2Proof.Machine.execSelfTestExtended k s
  | .selfTestAbort k => Sys2Proof.Machine.execSelfTestAbort k s
  | .directiveSend k => Sys2Proof.Machine.execDirectiveSend k s
  | .directiveReceive k => Sys2Proof.Machine.execDirectiveReceive k s
  | .secondaryOnline k => Sys2Proof.Machine.execSecondaryOnline k s
  | .secondaryOffline k => Sys2Proof.Machine.execSecondaryOffline k s
  | .secondaryAssign k => Sys2Proof.Machine.execSecondaryAssign k s
  | .formatNvm k => Sys2Proof.Machine.execFormatNvm k s
  | .securitySend k m => Sys2Proof.Machine.execSecuritySend k m s
  | .securityReceive k => Sys2Proof.Machine.execSecurityReceive k s
  | .sanitizeCryptoErase k => Sys2Proof.Machine.execSanitizeCryptoErase k s
  | .sanitizeBlockErase k => Sys2Proof.Machine.execSanitizeBlockErase k s
  | .almanacSeal k => Sys2Proof.Machine.execAlmanacSeal k s
  | .flush k => Sys2Proof.Machine.execFlush k s
  | .write k data mdata => Sys2Proof.Machine.execWrite k data mdata s
  | .read k sense vol => Sys2Proof.Machine.execRead k sense vol s
  | .writeUncorrectable k => Sys2Proof.Machine.execWriteUncorrectable k s
  | .writeZeroes k => Sys2Proof.Machine.execWriteZeroes k s
  | .datasetManagement k ranges => Sys2Proof.Machine.execDatasetManagement k ranges s
  | .verify k sense vol => Sys2Proof.Machine.execVerify k sense vol s
  | .ioManagementReceive k => Sys2Proof.Machine.execIoManagementReceive k s
  | .reclaimUnitHandleUpdate k pids => Sys2Proof.Machine.execReclaimUnitHandleUpdate k pids s
  | .zoneOpen k => Sys2Proof.Machine.execZoneOpen k s
  | .zoneClose k => Sys2Proof.Machine.execZoneClose k s
  | .zoneFinish k => Sys2Proof.Machine.execZoneFinish k s
  | .zoneReset k => Sys2Proof.Machine.execZoneReset k s
  | .zoneOffline k => Sys2Proof.Machine.execZoneOffline k s
  | .setZoneDescriptorExtension k => Sys2Proof.Machine.execSetZoneDescriptorExtension k s
  | .zoneManagementReceive k => Sys2Proof.Machine.execZoneManagementReceive k s
  | .zoneAppend k data mdata => Sys2Proof.Machine.execZoneAppend k data mdata s
  | .zoneAppendWithToken k data mdata => Sys2Proof.Machine.execZoneAppendWithToken k data mdata s
  | .preserveStateEntry => Sys2Proof.Machine.execPreserveStateEntry s
  | .preserveStateExit => Sys2Proof.Machine.execPreserveStateExit s
  | .finishZoneRecommended z => Sys2Proof.Machine.execFinishZoneRecommended z s
  | .zoneFinishedByController z => Sys2Proof.Machine.execZoneFinishedByController z s
  | .ruTimeLimitExceeded h g => Sys2Proof.Machine.execRuTimeLimitExceeded h g s
  | .patrolRead loc fr unread => Sys2Proof.Machine.execPatrolRead loc fr unread s
  | .levelSweep ch die grp res => Sys2Proof.Machine.execLevelSweep ch die grp res s
  | .retryLadderStep k loc outcome => Sys2Proof.Machine.execRetryLadderStep k loc outcome s
  | .frameRebuild loc => Sys2Proof.Machine.execFrameRebuild loc s
  | .closingVerify x bad unread => Sys2Proof.Machine.execClosingVerify x bad unread s
  | .reclaim => Sys2Proof.Machine.execReclaim s
  | .staticWearLevelling g => Sys2Proof.Machine.execStaticWearLevelling g s
  | .extentRelocation serial => Sys2Proof.Machine.execExtentRelocation serial s
  | .pendingErase b ok => Sys2Proof.Machine.execPendingErase b ok s
  | .readLevelCheckpoint => Sys2Proof.Machine.execReadLevelCheckpoint s
  | .healthHistoryEntry => Sys2Proof.Machine.execHealthHistoryEntry s
  | .flashPackagePoll temps => Sys2Proof.Machine.execFlashPackagePoll temps s
  | .risePrediction => Sys2Proof.Machine.execRisePrediction s
  | .orderlyStopResume => Sys2Proof.Machine.execOrderlyStopResume s
  | .sensorSample temps => Sys2Proof.Machine.execSensorSample temps s
  | .coolingGapUpdate => Sys2Proof.Machine.execCoolingGapUpdate s
  | .almanacWrite => Sys2Proof.Machine.execAlmanacWrite s
  | .operatingTimeUpdate => Sys2Proof.Machine.execOperatingTimeUpdate s
  | .healthCounterCopy => Sys2Proof.Machine.execHealthCounterCopy s
  | .sramCorrectedRead arr word => Sys2Proof.Machine.execSramCorrectedRead arr word s
  | .sramUncorrectableError arr word => Sys2Proof.Machine.execSramUncorrectableError arr word s
  | .dramUncorrectableError ch rank line => Sys2Proof.Machine.execDramUncorrectableError ch rank line s
  | .migrationDone => Sys2Proof.Machine.execMigrationDone s
  | .trngHealthFail => Sys2Proof.Machine.execTrngHealthFail s
  | .perstDeassertion b => Sys2Proof.Machine.execPerstDeassertion b s
  | .perstAssertion => Sys2Proof.Machine.execPerstAssertion s
  | .powerFail => Sys2Proof.Machine.execPowerFail s
  | .powerFailTimeout b => Sys2Proof.Machine.execPowerFailTimeout b s
  | .workerRestart sigs nand => Sys2Proof.Machine.execWorkerRestart sigs nand s
  | .spanTraining p r => Sys2Proof.Machine.execSpanTraining p r s
  | .linkRetraining p => Sys2Proof.Machine.execLinkRetraining p s
  | .linkDown p => Sys2Proof.Machine.execLinkDown p s
  | .linkRetry p => Sys2Proof.Machine.execLinkRetry p s
  | .chainEnumeration p ms => Sys2Proof.Machine.execChainEnumeration p ms s
  | .memberLost m => Sys2Proof.Machine.execMemberLost m s
  | .ident p m => Sys2Proof.Machine.execIdent p m s
  | .assign p m => Sys2Proof.Machine.execAssign p m s
  | .route p m => Sys2Proof.Machine.execRoute p m s
  | .horizon => Sys2Proof.Machine.execHorizon s
  | .horizonSlotWrite p m => Sys2Proof.Machine.execHorizonSlotWrite p m s
  | .ping p m => Sys2Proof.Machine.execPing p m s
  | .lost p m => Sys2Proof.Machine.execLost p m s
  | .restart p m => Sys2Proof.Machine.execRestart p m s
  | .gwrite e place => Sys2Proof.Machine.execGwrite e place s
  | .gread e => Sys2Proof.Machine.execGread e s
  | .gtrim e => Sys2Proof.Machine.execGtrim e s
  | .gzoneReset e => Sys2Proof.Machine.execGzoneReset e s
  | .gzoneFinish e => Sys2Proof.Machine.execGzoneFinish e s
  | .gzoneRead e => Sys2Proof.Machine.execGzoneRead e s
  | .journal e => Sys2Proof.Machine.execJournal e s
  | .ckptReserveBound e => Sys2Proof.Machine.execCkptReserveBound e s
  | .ckptLayout e => Sys2Proof.Machine.execCkptLayout e s
  | .ckptZoneState e => Sys2Proof.Machine.execCkptZoneState e s
  | .ckptGroupTransfer e => Sys2Proof.Machine.execCkptGroupTransfer e s
  | .ckptLostRange e => Sys2Proof.Machine.execCkptLostRange e s
  | .status e => Sys2Proof.Machine.execStatus e s
  | .keywrap e => Sys2Proof.Machine.execKeywrap e s
  | .stripeSeal v z st => Sys2Proof.Machine.execStripeSeal v z st s
  | .zoneRebuild v z gs => Sys2Proof.Machine.execZoneRebuild v z gs s
  | .stripeParityCheck v z st gs => Sys2Proof.Machine.execStripeParityCheck v z st gs s
  | .reshapeStart v => Sys2Proof.Machine.execReshapeStart v s
  | .reshapeZoneMove v gs => Sys2Proof.Machine.execReshapeZoneMove v gs s
  | .getVersion x => Sys2Proof.Machine.execGetVersion x s
  | .getCapabilities x => Sys2Proof.Machine.execGetCapabilities x s
  | .negotiateAlgorithms x => Sys2Proof.Machine.execNegotiateAlgorithms x s
  | .getDigests x => Sys2Proof.Machine.execGetDigests x s
  | .getCertificate x slot => Sys2Proof.Machine.execGetCertificate x slot s
  | .challenge x slot => Sys2Proof.Machine.execChallenge x slot s
  | .getMeasurements x idx nonce => Sys2Proof.Machine.execGetMeasurements x idx nonce s
  | .keyExchange x leaf => Sys2Proof.Machine.execKeyExchange x leaf s
  | .finish sid => Sys2Proof.Machine.execFinish sid s
  | .heartbeat sid => Sys2Proof.Machine.execHeartbeat sid s
  | .sessionHeartbeatTimeout sid => Sys2Proof.Machine.execSessionHeartbeatTimeout sid s
  | .keyUpdate sid => Sys2Proof.Machine.execKeyUpdate sid s
  | .endSession sid => Sys2Proof.Machine.execEndSession sid s
  | .keyImport sid ns kind wrapped => Sys2Proof.Machine.execKeyImport sid ns kind wrapped s
  | .keyStatus sid ns => Sys2Proof.Machine.execKeyStatus sid ns s
  | .ownerEnroll sid slot perms hash signed => Sys2Proof.Machine.execOwnerEnroll sid slot perms hash signed s
  | .ownerWithdraw sid slot signed => Sys2Proof.Machine.execOwnerWithdraw sid slot signed s
  | .debugSet sid on signed => Sys2Proof.Machine.execDebugSet sid on signed s
  | .measureExtend sid d => Sys2Proof.Machine.execMeasureExtend sid d s
  | .powerDown => Sys2Proof.Machine.execPowerDown s
  | .flitReceipt p f => Sys2Proof.Machine.execFlitReceipt p f s
  | .domeEntryDone d => Sys2Proof.Machine.execDomeEntryDone d s
  | .illegalInstruction c w => Sys2Proof.Machine.execIllegalInstruction c w s
  | .configurationRequest func op => Sys2Proof.Machine.execConfigurationRequest func op s

end Sys2Proof.Machine
end

