-- ==== Sys2Proof/Machine/Step.lean ====
section
/-! DEFINITION. One step: the command at the front of the queue runs with the queue's rest. -/

namespace Sys2Proof.Machine

/-- Take the front command and run it; an empty queue idles (DESIGN CHOICE, log entry 12). -/
def step (s : State) : Host.Outcome State Fault Refusal :=
  match s.pending with
  | [] => .next s
  | i :: rest => exec i (s.putPending rest)

/-- The state with the command that a table word spells at the front of its queue; the table gives
no row any bits, so no word spells one and the state is unchanged. -/
def State.withFetchWord (s : State) (nbits w : Nat) : State :=
  match decodeTableWord nbits w with
  | some i => s.putPending (i :: s.pending)
  | none => s

end Sys2Proof.Machine
end

