-- ==== Sys2Proof/WellFormed.lean ====
section
/-! DEFINITION. Well-formed commands: every operand lies in the range its rule gives it.  An operand that a `BitVec`
type already bounds has no check of its own. -/

namespace Sys2Proof.WellFormed

/-- Device-wide function numbers (R213). -/
def funcOk (n : Nat) : Bool := decide (n < 2048)
/-- Flash channels (R291). -/
def chanOk (n : Nat) : Bool := decide (n < 32)
/-- Dies of a channel: 8 x CE + LUN (R291). -/
def dieOk (n : Nat) : Bool := decide (n < 64)
/-- Decoder banks (R328). -/
def bankOk (n : Nat) : Bool := decide (n < 4)
/-- Span ports (R365). -/
def portOk (n : Nat) : Bool := decide (n < 4)
/-- Power domes (R512). -/
def domeOk (n : Nat) : Bool := decide (n < 29)
/-- Wake sources (R517). -/
def sourceOk (n : Nat) : Bool := decide (n < 32)
/-- Host queue identifiers (R224). -/
def hostQueueOk (n : Nat) : Bool := decide (n < 65536)
/-- Queue contexts (R227). -/
def queueOk (n : Nat) : Bool := decide (n < 262144)
/-- SOURCE numbers of engines (R89). -/
def unitOk (n : Nat) : Bool := decide (0x40 ≤ n) && decide (n < 0x72)
/-- Block groups of a die (R335). -/
def groupOk (n : Nat) : Bool := decide (n < 32)
/-- DRAM channels, and ranks of one (R441). -/
def rankOk (n : Nat) : Bool := decide (n < 4)
/-- Certificate slots (R504). -/
def certSlotOk (n : Nat) : Bool := decide (n < 8)
/-- Owner key slots (R507). -/
def ownerSlotOk (n : Nat) : Bool := decide (1 ≤ n) && decide (n ≤ 4)
/-- Reclaim unit handles (R280). -/
def handleOk (n : Nat) : Bool := decide (n < 256)
/-- Namespace identifiers (R116). -/
def nsidOk (n : Nat) : Bool := decide (1 ≤ n) && decide (n ≤ 4096)
/-- Measurement indices (R504). -/
def indexOk (n : Nat) : Bool := decide (n < 256)
/-- DRAM lines: bits [38:6] of an address (R445). -/
def lineOk (n : Nat) : Bool := decide (n < 2 ^ 33)
/-- Zone numbers (R116). -/
def zoneOk (n : Nat) : Bool := decide (n < 2 ^ 29)
/-- Stripes of a zone: 15 bits (R417). -/
def stripeOk (n : Nat) : Bool := decide (n < 32768)
/-- Results of a level sweep (R336). -/
def sweepOk (l : List Nat) : Bool := decide (l.length = 5)
/-- Readings of the on-die sensors (R528). -/
def sensorsOk (l : List (BitVec 16)) : Bool := decide (l.length = 24)
/-- M of a loop (R64). -/
def loopOk (m : BitVec 16) : Bool := decide (m ≠ 0)
/-- K of a switch (R64). -/
def tableOk (k : BitVec 14) : Bool := decide (1 ≤ k.toNat) && decide (k.toNat ≤ 256)
/-- Tag registers (R55). -/
def tagOk (r : GReg) : Bool := decide (r.toNat < 8)
/-- Assigned tag field indices (R73). -/
def fieldOk (f : BitVec 9) : Bool := decide (f.toNat < 12) || (decide (16 ≤ f.toNat) && decide (f.toNat < 20))
/-- Spaces of a load, a store, a tst and an atomic (R67). -/
def spaceOk (x : BitVec 9) : Bool := decide (x.toNat < 3)
def tstSpaceOk (x : BitVec 9) : Bool := decide (x.toNat < 2)
def atomicSpaceOk (x : BitVec 9) : Bool := decide (x.toNat = 1)

end Sys2Proof.WellFormed

namespace Sys2Proof

open WellFormed in
/-- Whether every operand of a command lies in its range. -/
def Instr.wf (i : Instr) : Bool :=
  match i with
  | .tickBoundary => true
  | .faultWindowCut _ => true
  | .intake => true
  | .slotDispatch _ => true
  | .startActivation _ => true
  | .boundExcess _ => true
  | .agePromotion _ _ => true
  | .timePeriodWrite _ _ => true
  | .timePeriodLock _ => true
  | .pllSlip => true
  | .schedCtlRun _ _ _ => true
  | .schedCtlSwap _ _ => true
  | .schedCtlResume _ _ _ => true
  | .schedStatClear _ _ => true
  | .schedEphDataWrite _ _ => true
  | .schedHovmaskWrite _ _ => true
  | .schedFaultWrite _ _ _ => true
  | .checkerRegionWrite _ _ _ _ _ => true
  | .registerWrite _ _ _ => true
  | .qengRcfgWrite _ _ => true
  | .hazWsnfloorWrite _ _ => true
  | .wsnFloorRaise => true
  | .ingotLtailWrite _ _ => true
  | .tunMinWrite _ _ => true
  | .tunCtlLock _ => true
  | .dramFchgGo _ _ => true
  | .frequencyChangeDone => true
  | .dramTrunGo _ _ => true
  | .trainingRunDone _ _ => true
  | .dramPortTargetWrite _ _ _ => true
  | .scrubStart _ _ => true
  | .scrubDone _ _ => true
  | .shareRdoneWrite _ _ => true
  | .sliceReset _ _ => true
  | .shareSliceWrite _ _ _ => true
  | .mediationWindowAccess func _ _ _ => funcOk func
  | .thermPkgWrite _ _ _ => true
  | .patProgram _ => true
  | .patErase _ => true
  | .patOperationDone _ _ => true
  | .patRdataRead _ => true
  | .patBulkRead _ _ => true
  | .patBulkReadDone => true
  | .secBmexitWrite _ _ => true
  | .nop _ => true
  | .add _ _ _ _ => true
  | .sub _ _ _ _ => true
  | .addi _ _ _ _ => true
  | .mul _ _ _ _ => true
  | .mulhi _ _ _ _ => true
  | .divq _ _ _ _ => true
  | .modq _ _ _ _ => true
  | .and _ _ _ _ => true
  | .or _ _ _ _ => true
  | .xor _ _ _ _ => true
  | .andi _ _ _ _ => true
  | .ori _ _ _ _ => true
  | .xori _ _ _ _ => true
  | .shl _ _ _ _ => true
  | .shr _ _ _ _ => true
  | .shra _ _ _ _ => true
  | .shli _ _ _ _ => true
  | .shri _ _ _ _ => true
  | .shrai _ _ _ _ => true
  | .li _ _ _ => true
  | .lih _ _ _ => true
  | .lts _ _ _ _ => true
  | .ltu _ _ _ _ => true
  | .minu _ _ _ _ => true
  | .maxu _ _ _ _ => true
  | .sel _ _ _ _ => true
  | .ext _ _ _ _ => true
  | .exts _ _ _ _ => true
  | .ins _ _ _ _ => true
  | .clz _ _ _ => true
  | .ctz _ _ _ => true
  | .popc _ _ _ => true
  | .bswap _ _ _ => true
  | .crc32 _ _ _ => true
  | .ld8 _ _ _ x _ => spaceOk x
  | .ld16 _ _ _ x _ => spaceOk x
  | .ld32 _ _ _ x _ => spaceOk x
  | .ld64 _ _ _ x _ => spaceOk x
  | .st8 _ _ _ x _ => spaceOk x
  | .st16 _ _ _ x _ => spaceOk x
  | .st32 _ _ _ x _ => spaceOk x
  | .st64 _ _ _ x _ => spaceOk x
  | .tld _ a _ x _ => tagOk a && spaceOk x
  | .tst _ a _ x _ => tagOk a && tstSpaceOk x
  | .clad _ _ _ _ x => atomicSpaceOk x
  | .clcx _ _ _ _ x => atomicSpaceOk x
  | .clsw _ _ _ _ x => atomicSpaceOk x
  | .jmp _ _ => true
  | .beq _ _ _ _ => true
  | .bne _ _ _ _ => true
  | .blt _ _ _ _ => true
  | .bge _ _ _ _ => true
  | .bltu _ _ _ _ => true
  | .bgeu _ _ _ _ => true
  | .beqi _ _ _ _ => true
  | .bnei _ _ _ _ => true
  | .call _ _ => true
  | .ret _ => true
  | .loop _ _ _ m => loopOk m
  | .lbrk _ => true
  | .switch _ _ k _ => tableOk k
  | .slend _ => true
  | .trap _ _ => true
  | .tfx _ _ b f => tagOk b && fieldOk f
  | .tfi _ a _ f => tagOk a && fieldOk f
  | .tclr _ a => tagOk a
  | .tmov _ a b => tagOk a && tagOk b
  | .tcmp _ _ b d _ => tagOk b && tagOk d
  | .tseq _ a _ _ => tagOk a
  | .mfoc _ _ => true
  | .mtick _ _ => true
  | .mcyc _ _ => true
  | .coreid _ _ => true
  | .credits _ _ => true
  | .fence _ => true
  | .sreset _ => true
  | .rpush _ _ _ _ => true
  | .rpop _ _ _ => true
  | .gate _ _ => true
  | .squash _ _ => true
  | .squashAbort _ _ => true
  | .qctlRead _ _ _ _ _ => true
  | .qctlPause _ _ _ _ => true
  | .qctlResume _ _ _ _ => true
  | .qctlSetOwner _ _ _ _ => true
  | .qctlSetLevel _ _ _ _ => true
  | .qctlRetire _ _ _ _ => true
  | .hzinsConfirm _ _ _ _ => true
  | .hzinsInsert _ _ _ _ => true
  | .hzchk _ _ _ _ => true
  | .hzdel _ _ _ => true
  | .bget _ _ _ _ => true
  | .bput _ _ _ => true
  | .bref _ _ _ => true
  | .mlook _ _ => true
  | .mcommit _ _ => true
  | .mtrim _ _ => true
  | .mzoneReserve _ _ => true
  | .mzoneReserveToken _ _ => true
  | .mzoneSetState _ _ => true
  | .mzoneReset _ _ => true
  | .mzoneFinish _ _ => true
  | .mzoneRead _ _ => true
  | .fread _ _ => true
  | .fprog _ _ => true
  | .ferase _ _ => true
  | .fstat _ _ => true
  | .ffeatGet _ _ => true
  | .ffeatSet _ _ => true
  | .fraw _ _ => true
  | .fcancel _ _ => true
  | .dmin _ _ => true
  | .dmout _ _ => true
  | .dmcopy _ _ => true
  | .dmcopyFramed _ _ => true
  | .dmfill _ _ => true
  | .xts _ _ => true
  | .cmac _ _ => true
  | .vslotStatus _ _ => true
  | .vslotClear _ _ => true
  | .vslotFill _ _ => true
  | .vslotImport _ _ => true
  | .vslotBind _ _ => true
  | .pxor _ _ => true
  | .pmac _ _ => true
  | .pcheck _ _ => true
  | .sreq _ _ => true
  | .sresp _ _ => true
  | .slinkState _ _ => true
  | .slinkRetrain _ _ => true
  | .slinkDisable _ _ => true
  | .slinkEnable _ _ => true
  | .slinkEnumerate _ _ => true
  | .arec _ _ => true
  | .sens _ _ _ => true
  | .hlth _ _ _ _ => true
  | .vote _ _ => true
  | .vack _ _ _ _ => true
  | .engineRequestTake u => unitOk u
  | .eventRingPost _ => true
  | .gateFenceRelease _ => true
  | .cqSpaceResume cq => queueOk cq
  | .abortClaimApply _ => true
  | .entryBufferReturn _ => true
  | .mapLookupDone _ _ => true
  | .mapCommitDone _ _ => true
  | .mapTrimDone _ _ => true
  | .zoneUpdateDone _ _ => true
  | .verbEnterDieQueue _ _ => true
  | .diePoll ch die _ => chanOk ch && dieOk die
  | .programEraseSuspend ch die => chanOk ch && dieOk die
  | .resumeOperation ch die => chanOk ch && dieOk die
  | .dieTimeout ch die => chanOk ch && dieOk die
  | .ldpcSlotGrant bank => bankOk bank
  | .softDecode _ _ _ _ => true
  | .flashReadDone _ _ _ => true
  | .rawReadDone _ _ _ => true
  | .flashProgramDone _ _ _ _ => true
  | .flashEraseDone _ _ _ _ => true
  | .dieStatusDone _ _ _ => true
  | .featureDone _ _ _ => true
  | .channelMachineCheck ch _ => chanOk ch
  | .channelWatchdog ch => chanOk ch
  | .localResetDone ch => chanOk ch
  | .dirNoAction ch _ => chanOk ch
  | .dirTakeVerb ch _ => chanOk ch
  | .dirCompleteVerb ch _ => chanOk ch
  | .dirSetOutcome ch _ => chanOk ch
  | .dirStartTimer ch _ => chanOk ch
  | .dirCountSuspend ch _ => chanOk ch
  | .dirRecordResume ch _ => chanOk ch
  | .dirRequestLdpcSlot ch _ => chanOk ch
  | .dirSetDurableMarks ch _ => chanOk ch
  | .dirSelectDie ch _ => chanOk ch
  | .dirSetCounter ch _ => chanOk ch
  | .dirDecrementCounter ch _ => chanOk ch
  | .dirAdvance ch _ => chanOk ch
  | .seqIdle ch _ => chanOk ch
  | .seqCommandCycle ch _ => chanOk ch
  | .seqAddressCycle ch _ => chanOk ch
  | .seqDataInput ch _ => chanOk ch
  | .seqDataOutput ch _ _ => chanOk ch
  | .seqStatusRead ch _ _ => chanOk ch
  | .seqCall ch _ => chanOk ch
  | .seqReturn ch _ => chanOk ch
  | .seqJump ch _ => chanOk ch
  | .seqChipEnable ch _ => chanOk ch
  | .seqWaitBusGrant ch _ => chanOk ch
  | .dataMoverInDone _ _ _ _ => true
  | .dataMoverOutDone _ _ _ => true
  | .copyDone _ _ => true
  | .fillDone _ _ => true
  | .xtsDone _ _ => true
  | .cmacDone _ _ => true
  | .vaultOperationDone _ _ => true
  | .parityDone _ _ => true
  | .parityCheckDone _ _ => true
  | .almanacRecordDone _ _ => true
  | .spanResponseArrival p _ => portOk p
  | .spanRequestTimeout _ _ => true
  | .spanArrival p _ => portOk p
  | .quiesceTimeout d => domeOk d
  | .domeWakeDone d => domeOk d
  | .wakeSource src _ _ => sourceOk src
  | .sqTailDoorbell func y _ => funcOk func && hostQueueOk y
  | .cqHeadDoorbell func y _ => funcOk func && hostQueueOk y
  | .sqFetch q _ _ => queueOk q
  | .functionLevelReset func => funcOk func
  | .controllerDisable func => funcOk func
  | .controllerEnable func _ _ _ _ _ _ => funcOk func
  | .shutdownNotification func => funcOk func
  | .resetEnd _ => true
  | .deleteIoSq _ => true
  | .deleteIoCq _ => true
  | .createIoSq _ => true
  | .createIoCq _ => true
  | .getLogPage _ => true
  | .getLogPageAlmanac _ => true
  | .getLogPageTickStatistics _ => true
  | .identify _ => true
  | .abort _ => true
  | .setFeatures _ _ => true
  | .setFeaturesArbitration _ => true
  | .setFeaturesPowerManagement _ => true
  | .setFeaturesTemperatureThreshold _ => true
  | .setFeaturesFdp _ => true
  | .numberOfQueues _ => true
  | .getFeatures _ => true
  | .asynchronousEventRequest _ => true
  | .namespaceCreate _ _ => true
  | .namespaceDelete _ => true
  | .namespaceAttachment _ _ => true
  | .firmwareImageDownload _ _ => true
  | .firmwareCommitWriteOnly _ _ _ => true
  | .firmwareCommitAtReset _ _ _ => true
  | .firmwareCommitExisting _ _ => true
  | .firmwareCommitActivateNow _ _ _ => true
  | .liveHandoverArm => true
  | .layoutMarkWrite => true
  | .selfTestShort _ => true
  | .selfTestExtended _ => true
  | .selfTestAbort _ => true
  | .directiveSend _ => true
  | .directiveReceive _ => true
  | .secondaryOnline _ => true
  | .secondaryOffline _ => true
  | .secondaryAssign _ => true
  | .formatNvm _ => true
  | .securitySend _ _ => true
  | .securityReceive _ => true
  | .sanitizeCryptoErase _ => true
  | .sanitizeBlockErase _ => true
  | .almanacSeal _ => true
  | .flush _ => true
  | .write _ _ _ => true
  | .read _ _ _ => true
  | .writeUncorrectable _ => true
  | .writeZeroes _ => true
  | .datasetManagement _ _ => true
  | .verify _ _ _ => true
  | .ioManagementReceive _ => true
  | .reclaimUnitHandleUpdate _ _ => true
  | .zoneOpen _ => true
  | .zoneClose _ => true
  | .zoneFinish _ => true
  | .zoneReset _ => true
  | .zoneOffline _ => true
  | .setZoneDescriptorExtension _ => true
  | .zoneManagementReceive _ => true
  | .zoneAppend _ _ _ => true
  | .zoneAppendWithToken _ _ _ => true
  | .preserveStateEntry => true
  | .preserveStateExit => true
  | .finishZoneRecommended z => zoneOk z
  | .zoneFinishedByController z => zoneOk z
  | .ruTimeLimitExceeded h _ => handleOk h
  | .patrolRead _ _ _ => true
  | .levelSweep ch die grp res => chanOk ch && dieOk die && groupOk grp && sweepOk res
  | .retryLadderStep _ _ _ => true
  | .frameRebuild _ => true
  | .closingVerify _ _ _ => true
  | .reclaim => true
  | .staticWearLevelling _ => true
  | .extentRelocation _ => true
  | .pendingErase _ _ => true
  | .readLevelCheckpoint => true
  | .healthHistoryEntry => true
  | .flashPackagePoll _ => true
  | .risePrediction => true
  | .orderlyStopResume => true
  | .sensorSample temps => sensorsOk temps
  | .coolingGapUpdate => true
  | .almanacWrite => true
  | .operatingTimeUpdate => true
  | .healthCounterCopy => true
  | .sramCorrectedRead _ _ => true
  | .sramUncorrectableError _ _ => true
  | .dramUncorrectableError ch rank line => rankOk ch && rankOk rank && lineOk line
  | .migrationDone => true
  | .trngHealthFail => true
  | .perstDeassertion _ => true
  | .perstAssertion => true
  | .powerFail => true
  | .powerFailTimeout _ => true
  | .workerRestart _ _ => true
  | .spanTraining p _ => portOk p
  | .linkRetraining p => portOk p
  | .linkDown p => portOk p
  | .linkRetry p => portOk p
  | .chainEnumeration p _ => portOk p
  | .memberLost _ => true
  | .ident p _ => portOk p
  | .assign p _ => portOk p
  | .route p _ => portOk p
  | .horizon => true
  | .horizonSlotWrite p _ => portOk p
  | .ping p _ => portOk p
  | .lost p _ => portOk p
  | .restart p _ => portOk p
  | .gwrite _ _ => true
  | .gread _ => true
  | .gtrim _ => true
  | .gzoneReset _ => true
  | .gzoneFinish _ => true
  | .gzoneRead _ => true
  | .journal _ => true
  | .ckptReserveBound _ => true
  | .ckptLayout _ => true
  | .ckptZoneState _ => true
  | .ckptGroupTransfer _ => true
  | .ckptLostRange _ => true
  | .status _ => true
  | .keywrap _ => true
  | .stripeSeal v z st => nsidOk v && zoneOk z && stripeOk st
  | .zoneRebuild v z _ => nsidOk v && zoneOk z
  | .stripeParityCheck v z st _ => nsidOk v && zoneOk z && stripeOk st
  | .reshapeStart v => nsidOk v
  | .reshapeZoneMove v _ => nsidOk v
  | .getVersion _ => true
  | .getCapabilities _ => true
  | .negotiateAlgorithms _ => true
  | .getDigests _ => true
  | .getCertificate _ slot => certSlotOk slot
  | .challenge _ slot => certSlotOk slot
  | .getMeasurements _ idx _ => indexOk idx
  | .keyExchange _ _ => true
  | .finish _ => true
  | .heartbeat _ => true
  | .sessionHeartbeatTimeout _ => true
  | .keyUpdate _ => true
  | .endSession _ => true
  | .keyImport _ ns _ _ => nsidOk ns
  | .keyStatus _ ns => nsidOk ns
  | .ownerEnroll _ slot _ _ _ => ownerSlotOk slot
  | .ownerWithdraw _ slot _ => ownerSlotOk slot
  | .debugSet _ _ _ => true
  | .measureExtend _ _ => true
  | .powerDown => true
  | .flitReceipt p _ => portOk p
  | .domeEntryDone d => domeOk d
  | .illegalInstruction _ _ => true
  | .configurationRequest func _ => funcOk func

end Sys2Proof
end

