-- ==== Sys2Proof/Safety.lean ====
section
/-! DEFINITION. The terms that statements use: when a command's row serves it, and the invariant of the power states. -/

namespace Sys2Proof.Machine

/-- The device is up: brought up, and not stopped by a controller fault reset. -/
abbrev State.up (s : State) : Prop := s.boot.down = false

/-- Command `d` with key `k` waits for its row: fetched and not settled, in an admin queue (`admin`) or an I/O queue, of
opcode `op`, its fetch event visible, its function not in reset, the tick's abort claims not yet applied, and the device
neither stopped nor in the recovery state (R38, R99, R180, R490). -/
abbrev State.Waits (s : State) (k : W64) (admin : Bool) (op : Nat) (d : Cmd) : Prop :=
  s.cmdOf k = some d ∧ s.boot.down = false ∧ d.settle = .live ∧ d.admin = admin ∧ d.opcode = op ∧
    s.inReset d = false ∧ s.recovery = false ∧ s.gateShut = false ∧ s.unmoved k = false

/-- A Span message `m` of its row's type has arrived for this device at port `p`, whose link is up (R366, R383). -/
abbrev State.Delivered (s : State) (p : Nat) (m : SpanMsg) : Prop :=
  s.spanPresent p = true ∧ s.linkUp p = true ∧ s.forMe m = true

/-- Arrival `a` of type `typ`, with the visible event `e`, waits for its answer while the device is up (R38, R138). -/
abbrev State.Asked (s : State) (e : W64) (typ : Nat) (a : SpanArr) : Prop :=
  s.arrival e typ = some a ∧ s.boot.down = false ∧ s.unmoved e = false

/-- A trust row can answer: the straps have been sampled and the device is up. -/
abbrev State.Trusted (s : State) : Prop := s.boot.down = false ∧ s.boot.strapped = true

/-- No word of on-chip SRAM holds a bit in error (R462). -/
abbrev State.sramClean (s : State) : Prop := s.sramErr = []

/-- Core `c` executes an instruction now, and no word of on-chip SRAM holds a bit in error (R29, R72, R462). -/
abbrev State.Ready (s : State) (c : CoreId) : Prop := s.runs c = true ∧ s.sramClean

/-- The power state is one of PS0 to PS4, and the last operational state one of PS0 to PS2 (R526, R527). -/
abbrev State.PowerLegal (s : State) : Prop := s.power ≤ 4 ∧ s.powerOp ≤ 2

/-- The addressed memories outside the cores are in canonical form: cluster memory, the tundish, visible DRAM, the frame
buffers, the ingot store and the pattern store. -/
def State.memWf (s : State) : Bool :=
  FMap.wf zeroByte s.cluster && FMap.wf zeroByte s.tun && FMap.wf zeroByte s.dram && FMap.wf zeroByte s.fbuf &&
    FMap.wf zeroByte s.ingot && FMap.wf norByte s.nor

/-! ## Instructions of a core -/

/-- Core `c` retires an instruction that costs `n` cycles and writes `v` to gA, and nothing else changes. -/
def State.result (s : State) (c : CoreId) (n : Nat) (a : GReg) (v : W64) : State :=
  s.stepCore c n (fun k => k.setG a v)

/-- Core `c` transfers control to word `w` at a cost of `n` cycles, and nothing else changes. -/
def State.goTo (s : State) (c : CoreId) (n : Nat) (w : BitVec 13) : State :=
  s.setCore c ({ s.core c with pc := w }.charge n)

/-- An issue instruction: the instruction, its primitive, its charge in cycles and the IMM it issues with. -/
structure IssueRow where
  ins : Instr
  prim : Prim
  cost : Nat
  imm : BitVec 32

/-- The 44 issue instructions of core `c` with fields `i` (R79 and the tables of R98 to R143). -/
def issueRows (c : CoreId) (i : Issue) : List IssueRow :=
  [⟨.gate c i, .gate, 18, i.imm⟩,
   ⟨.squash c i, .squash, 18, setFld i.imm 0 1 0⟩,
   ⟨.squashAbort c i, .squash, 18, setFld i.imm 0 1 1⟩,
   ⟨.mlook c i, .mlook, 8, i.imm⟩,
   ⟨.mcommit c i, .mcommit, 8, i.imm⟩,
   ⟨.mtrim c i, .mtrim, 8, i.imm⟩,
   ⟨.mzoneReserve c i, .mzone, 8, setFld i.imm 0 4 0⟩,
   ⟨.mzoneReserveToken c i, .mzone, 8, setFld i.imm 0 4 1⟩,
   ⟨.mzoneSetState c i, .mzone, 8, setFld i.imm 0 4 2⟩,
   ⟨.mzoneReset c i, .mzone, 8, setFld i.imm 0 4 3⟩,
   ⟨.mzoneFinish c i, .mzone, 8, setFld i.imm 0 4 4⟩,
   ⟨.mzoneRead c i, .mzone, 8, setFld i.imm 0 4 5⟩,
   ⟨.fread c i, .fread, 8, i.imm⟩,
   ⟨.fprog c i, .fprog, 8, i.imm⟩,
   ⟨.ferase c i, .ferase, 8, i.imm⟩,
   ⟨.fstat c i, .fstat, 8, i.imm⟩,
   ⟨.ffeatGet c i, .ffeat, 8, i.imm⟩,
   ⟨.ffeatSet c i, .ffeat, 8, i.imm⟩,
   ⟨.fraw c i, .fraw, 8, i.imm⟩,
   ⟨.fcancel c i, .fcancel, 8, i.imm⟩,
   ⟨.dmin c i, .dmin, 8, i.imm⟩,
   ⟨.dmout c i, .dmout, 8, i.imm⟩,
   ⟨.dmcopy c i, .dmcopy, 8, setFld i.imm 0 1 0⟩,
   ⟨.dmcopyFramed c i, .dmcopy, 8, setFld i.imm 0 1 1⟩,
   ⟨.dmfill c i, .dmfill, 8, i.imm⟩,
   ⟨.xts c i, .xts, 8, i.imm⟩,
   ⟨.cmac c i, .cmac, 8, i.imm⟩,
   ⟨.vslotStatus c i, .vslot, 8, setFld i.imm 0 4 0⟩,
   ⟨.vslotClear c i, .vslot, 8, setFld i.imm 0 4 1⟩,
   ⟨.vslotFill c i, .vslot, 8, setFld i.imm 0 4 2⟩,
   ⟨.vslotImport c i, .vslot, 8, setFld i.imm 0 4 3⟩,
   ⟨.vslotBind c i, .vslot, 8, setFld i.imm 0 4 4⟩,
   ⟨.pxor c i, .pxor, 8, i.imm⟩,
   ⟨.pmac c i, .pmac, 8, i.imm⟩,
   ⟨.pcheck c i, .pcheck, 8, i.imm⟩,
   ⟨.sreq c i, .sreq, 8, i.imm⟩,
   ⟨.sresp c i, .sresp, 8, i.imm⟩,
   ⟨.slinkState c i, .slink, 8, setFld i.imm 0 4 0⟩,
   ⟨.slinkRetrain c i, .slink, 8, setFld i.imm 0 4 1⟩,
   ⟨.slinkDisable c i, .slink, 8, setFld i.imm 0 4 2⟩,
   ⟨.slinkEnable c i, .slink, 8, setFld i.imm 0 4 3⟩,
   ⟨.slinkEnumerate c i, .slink, 8, setFld i.imm 0 4 4⟩,
   ⟨.arec c i, .arec, 8, i.imm⟩,
   ⟨.vote c i, .vote, 8, i.imm⟩]

/-- The operand block that an issue instruction names. -/
def State.issueBlock (s : State) (c : CoreId) (i : Issue) : List W64 :=
  (s.core c).operandBlock ((s.core c).getG i.b).toNat

/-- The instruction is the row that its operand block selects: FFEAT_GET and FFEAT_SET are one opcode, and bit 8 of the
second operand word tells them apart (R126). -/
def rowMatches (s : State) (i : Instr) : Bool :=
  match i with
  | .ffeatGet c i => !bit ((s.issueBlock c i).getD 1 0) 8
  | .ffeatSet c i => bit ((s.issueBlock c i).getD 1 0) 8
  | _ => true

/-- The operand block and the result record are aligned, lie where R76 allows and pass the checker (R61, R76). -/
abbrev State.issueClean (s : State) (c : CoreId) (i : Issue) : Prop :=
  ((s.core c).getG i.b).toNat % 64 = 0 ∧ ((s.core c).getG i.d).toNat % 64 = 0 ∧
  (recLoc c ((s.core c).getG i.d).toNat).isSome = true ∧ ((s.core c).getG i.b).toNat + 64 ≤ 0x10000 ∧
  s.checkOk c .rd ((s.core c).getG i.b).toNat 64 = true ∧ s.checkOk c .wr ((s.core c).getG i.d).toNat 64 = true

/-- Nothing turns an issue away: its unit is present, a credit is free and its engine's queue has room (R78).  The last
clause rules out states that no run reaches: a core has at most 4,096 credits out. -/
abbrev State.issueTaken (s : State) (c : CoreId) (p : Prim) (i : Issue) (imm : BitVec 32) : Prop :=
  s.unitAbsent p (s.unitOf c p (s.issueBlock c i)) imm (s.issueBlock c i) = false ∧ (s.core c).freeEntries ≠ 0 ∧
  s.queued c (s.unitOf c p (s.issueBlock c i)) < p.depth ∧ (s.reqs.filter (fun r => r.core = c)).length ≤ 4096

/-- State `t` is `s` with primitive `p` issued by core `c`: a ticket that is not 0 and was not outstanding is in gA, oc is
0x00, one more credit is taken and the request waits (R76, R78, R85). -/
def Issued (s t : State) (c : CoreId) (p : Prim) (i : Issue) : Prop :=
  ∃ k : Ticket, k ≠ 0 ∧ s.findReq c k = none ∧
    (t.core c).getG i.a = (if i.a = 0 then 0 else w64 k.toNat) ∧ (t.core c).oc = 0x00 ∧
    (t.core c).credits = (s.core c).credits + 1 ∧
    ∃ r, t.findReq c k = some r ∧ r.prim = p ∧ r.phase = .waiting ∧ r.ops = s.issueBlock c i

/-- A row that writes a station register: the row, the register and the value. -/
structure WriteRow where
  ins : Instr
  off : Nat
  val : W64

/-- The 28 rows that write a station register, made by `w`, with the operands of each. -/
def writeRows (s : State) (w : Who) (c : CoreId) (v m : W64) (run lim : Bool) (off : BitVec 24) (r : BitVec 4) (p : BitVec 3)
    (e : BitVec 12) (k : BitVec 8) : List WriteRow :=
  [⟨.registerWrite w off v, off.toNat, v⟩,
   ⟨.timePeriodWrite w v, sta 0 0, w64 (fld v 0 2)⟩,
   ⟨.timePeriodLock w, sta 0 0, w64 (s.sel + 2 ^ 8)⟩,
   ⟨.schedCtlRun w c run, ctlOff c 0, w64 (b2n run)⟩,
   ⟨.schedCtlSwap w c, ctlOff c 0, w64 (b2n (s.core c).run + 2)⟩,
   ⟨.schedCtlResume w c run, ctlOff c 0, w64 (b2n run + 2 ^ 5)⟩,
   ⟨.schedStatClear w c, ctlOff c 0x18, w64 (2 ^ 63)⟩,
   ⟨.schedEphDataWrite w v, sta 1 8, v⟩,
   ⟨.schedHovmaskWrite w m, sta 1 0x18, m⟩,
   ⟨.schedFaultWrite w c v, ctlOff c 0x10, v⟩,
   ⟨.checkerRegionWrite w c r lim v, sta 1 (0x4000 + 0x100 * c.toNat + 0x10 * r.toNat + 8 * b2n lim), v⟩,
   ⟨.qengRcfgWrite w v, sta 2 0x108, v⟩,
   ⟨.hazWsnfloorWrite w v, sta 3 0x110, v⟩,
   ⟨.ingotLtailWrite w v, sta 9 0x18, v⟩,
   ⟨.tunMinWrite w v, sta 4 0x308, v⟩,
   ⟨.tunCtlLock w, sta 4 0, 1⟩,
   ⟨.dramFchgGo w v, sta 8 0x10, setBit v 0 true⟩,
   ⟨.dramTrunGo w v, sta 8 0x118, setBit v 0 true⟩,
   ⟨.dramPortTargetWrite w p v, sta 8 (0x200 + 8 * p.toNat), v⟩,
   ⟨.scrubStart w v, sta 0x12 0x300, setBit v 56 true⟩,
   ⟨.shareRdoneWrite w v, sta 0x15 8, v⟩,
   ⟨.sliceReset w v, sta 0x15 0x10, setBit v 12 true⟩,
   ⟨.shareSliceWrite w e v, sta 0x15 (0x8000 + 8 * e.toNat), v⟩,
   ⟨.thermPkgWrite w k v, sta 0xF (0x200 + 8 * k.toNat), v⟩,
   ⟨.patProgram w, patCmd, 5⟩,
   ⟨.patErase w, patCmd, 6⟩,
   ⟨.patBulkRead w v, sta 0x11 0x40, setBit v 20 true⟩,
   ⟨.secBmexitWrite w v, sta 0x13 8, v⟩]

/-! ## Channels -/

/-- A director row: the row, its ACT code and the state after its action. -/
structure DirRow where
  ins : Instr
  act : Nat
  after : State

/-- A verb timer of twice a datasheet maximum of `n` ns starts now (R315). -/
def State.armTimer (s : State) (ch n : Nat) : State :=
  s.setChan ch { s.chan ch with timer := some (2 * n, s.tick), expired := false }

/-- What each director row does on channel `ch` with word `w` (R313 to R315): a timer is started of ARG 0, 1 or 2, and the
counter is decremented from above 0. -/
def dirRows (s : State) (ch : Nat) (w : W64) : List DirRow :=
  [⟨.dirNoAction ch w, 0, s⟩,
   ⟨.dirTakeVerb ch w, 1, s.dirTake ch⟩,
   ⟨.dirCompleteVerb ch w, 2, s.dirComplete ch⟩,
   ⟨.dirSetOutcome ch w, 3, s.setChan ch { s.chan ch with outcome := BitVec.ofNat 8 (fld (s.dirWord ch w) 46 8) }⟩,
   ⟨.dirCountSuspend ch w, 5, s.updOp ch (fun o => { o with suspends := o.suspends + 1 })⟩,
   ⟨.dirRecordResume ch w, 6, s.updOp ch (fun o => { o with resumed := s.tick })⟩,
   ⟨.dirRequestLdpcSlot ch w, 7, match s.curVerb ch with
      | some r => if r.prim.isRead then s.ldpcAsk r else s
      | none => s⟩,
   ⟨.dirSetDurableMarks ch w, 8, match s.curVerb ch with
      | some r => if r.prim = .fprog then s.markProgram r else s
      | none => s⟩,
   ⟨.dirSelectDie ch w, 9, s.setChan ch { s.chan ch with sel := (s.curVerb ch).map Req.dieNo }⟩,
   ⟨.dirSetCounter ch w, 10, s.setChan ch { s.chan ch with counter := fld (s.dirWord ch w) 46 8 }⟩,
   ⟨.dirAdvance ch w, 12, s.setChan ch { s.chan ch with idx := (s.chan ch).idx + 1 }⟩] ++
  (if (s.chan ch).counter = 0 then [] else
    [⟨.dirDecrementCounter ch w, 11, s.setChan ch { s.chan ch with counter := (s.chan ch).counter - 1 }⟩]) ++
  (match fld (s.dirWord ch w) 46 8 with
    | 0 => [⟨.dirStartTimer ch w, 4, s.armTimer ch (s.rfld (chReg ch 0x110) 0 32)⟩]
    | 1 => [⟨.dirStartTimer ch w, 4, s.armTimer ch (s.rfld (chReg ch 0x110) 32 32)⟩]
    | 2 => [⟨.dirStartTimer ch w, 4, s.armTimer ch (s.rfld (chReg ch 0x118) 0 32)⟩]
    | _ => [])

/-- A director that runs holds a well-formed word for action `act`, which it has not begun. -/
abbrev State.dirReady (s : State) (ch : Nat) (w : W64) (act : Nat) : Prop :=
  s.chRuns ch = true ∧ evenParity (s.dirWord ch w) 0 = true ∧ evenParity (s.dirWord ch w) 32 = true ∧
    fld (s.dirWord ch w) 54 9 = 0 ∧ act ≤ 12 ∧ fld (s.dirWord ch w) 42 4 = act ∧ (s.chan ch).began = false

/-- A sequencer row: the row, its operation, the state after it and the next address. -/
structure SeqRow where
  ins : Instr
  op : Nat
  after : State
  next : Nat

/-- What each sequencer row does on channel `ch` with word `w`, frame `fr` and status `st` sampled (R317): a list of one
row for each operation whose condition holds.  Every word but a transfer ends the mark that a frame is on the bus (R314). -/
def seqRows (s : State) (ch : Nat) (w : BitVec 32) (fr : FrameSense) (st : BitVec 8) : List SeqRow :=
  let v := s.setChan ch { s.chan ch with xfer := false }
  let nxt := s.seqAt ch + 1
  let a := seqArg (s.seqWord ch w)
  let ce := (v.chan ch).ce
  let enables := if a / 8 % 2 = 0 then ce.filter (· ≠ a % 8) else if a % 8 ∈ ce then ce else ce ++ [a % 8]
  [⟨.seqIdle ch w, 0, v, nxt⟩,
   ⟨.seqCommandCycle ch w, 1, (v.bus [Out.nandCmd ch (BitVec.ofNat 8 a)]).tookCommand ch (a % 256), nxt⟩,
   ⟨.seqAddressCycle ch w, 2, if a < 1024 then v.bus [Out.nandAddr ch (BitVec.ofNat 8 a)]
     else (v.addrByte ch (a % 8)).2.bus [Out.nandAddr ch (v.addrByte ch (a % 8)).1], nxt⟩,
   ⟨.seqStatusRead ch w st, 5, match v.selDie ch with
     | none => v.setChan ch { v.chan ch with ready := bit st 6, failBit := bit st 0, susp := false }
     | some d =>
       let u := (v.bus [Out.nandOut ch 1]).takeStatus ch d st
       match v.curVerb ch with
       | some r => if bit st 6 ∧ r.dieNo = d then u.setAcc r { u.acc r with ready := true } else u
       | none => u, nxt⟩,
   ⟨.seqJump ch w, 8, v, a⟩,
   ⟨.seqChipEnable ch w, 9, v.setChan ch { v.chan ch with ce := enables }, nxt⟩,
   ⟨.seqWaitBusGrant ch w, 10, v.setChan ch { v.chan ch with busGrant := true }, nxt⟩] ++
  (if (s.chan ch).seqStack.length < 4 then
    [⟨.seqCall ch w, 6, v.setChan ch { v.chan ch with seqStack := nxt :: (v.chan ch).seqStack }, a⟩] else []) ++
  (match (v.chan ch).seqStack with
    | b :: q => [⟨.seqReturn ch w, 7, v.setChan ch { v.chan ch with seqStack := q }, b⟩]
    | [] => []) ++
  (match v.curVerb ch with
    | some r =>
      let l := r.slotLoc (v.chan ch).idx
      let b := v.readLoc l 4128
      let k := (v.progKeys r).getD (v.chan ch).idx 0
      let d := (v.setAcc r { v.acc r with inputs := (v.acc r).inputs ++ [b] }).bus [Out.nandIn ch (codeWord (scramble (scrSeed k) b))]
      let x := (v.bus [Out.nandOut ch 4608]).takeFrame r (v.acc r) fr
      let y := (x.2.setAcc r x.1).drift ch (locCe r.loc)
      (if r.prim = .fprog ∧ (v.chan ch).idx < v.progFrames r ∧ (v.acc r).inputs.length = (v.chan ch).idx ∧ v.sramErr = [] then
        [⟨.seqDataInput ch w, 3, d.setChan ch { d.chan ch with xfer := true }, nxt⟩] else []) ++
      (if r.prim.isRead = true ∧ (v.cond ch 12).1 = true ∧ (v.acc r).frames < r.readFrames then
        [⟨.seqDataOutput ch w fr, 4,
          y.setChan ch { y.chan ch with outcome := maxOc (y.chan ch).outcome x.1.oc, xfer := true, busGrant := false }, nxt⟩] else [])
    | none => [])

/-- A sequencer that runs holds a well-formed word of operation `op`. -/
abbrev State.seqReady (s : State) (ch : Nat) (w : BitVec 32) (op : Nat) : Prop :=
  s.chRuns ch = true ∧ (s.chan ch).seqRun = true ∧ evenParity (s.seqWord ch w) 0 = true ∧ fld (s.seqWord ch w) 21 10 = 0 ∧
    op ≤ 10 ∧ fld (s.seqWord ch w) 0 4 = op

/-! ## Trust -/

/-- Trust row `i` sends response `p` on transport `x` and leaves the state of its request (R504, R506). -/
def State.Answers (s : State) (i : Instr) (x : Nat) (p : Spdm) : Prop :=
  exec i s = .next (p.1.putOut (p.1.out ++ [Out.spdm x p.2.code p.2.p1 p.2.p2 p.2.body]))

end Sys2Proof.Machine
end

