-- ==== Sys2Proof/Certificates/Slice0/Obligations.lean ====
section
/-! DEFINITION. The statements for the provers: one definition for each obligation of OBLIGATIONS.json. -/

open Sys2Proof Sys2Proof.Machine

/-- A step runs the command at the front of the queue (00_scope.md, 95_what_each_step_holds.md). For every command i,
every queue rest and every state s, one step of s with i in front of rest is exec of i on s with the queue rest. -/
def Obligations.StepRunsFront : Prop :=
  ∀ (s : State) (i : Instr) (rest : List Instr),
    step (s.putPending (i :: rest)) = exec i (s.putPending rest)

/-- Registers right after power-up hold the reset values of the tables (R24, R35, R137, R452, R16, R56). After reset every
station register reads its reset value (TIME_PERIOD.SEL 1, SCHED_AGELIM 64, SPAN_TMO 100,000, DRAM port targets 300
and 400, and 0 where the table gives 0), every general register, tag register and oc of every core is 0, every core is
stopped with nothing queued, and no command waits. -/
def Obligations.ResetRegisters : Prop :=
  (∀ off, State.reset.reg off = regReset off) ∧
  State.reset.reg (sta 1 0x10) = 64 ∧ State.reset.reg (sta 0xD 8) = 100000 ∧
  State.reset.reg (sta 8 0x200) = 300 ∧ State.reset.reg (sta 8 0x208) = 400 ∧ fld (State.reset.reg (sta 0 0)) 0 2 = 1 ∧
  (∀ (c : CoreId) (a : GReg) (i : Nat), (State.reset.core c).getG a = 0 ∧ (State.reset.core c).getT i = 0 ∧
    (State.reset.core c).oc = 0 ∧ (State.reset.core c).state = .stopped ∧ (State.reset.core c).ring = [] ∧
    (State.reset.core c).classQ = [] ∧ (State.reset.core c).credits = 0) ∧
  State.reset.pending = [] ∧ State.reset.cmds = [] ∧ State.reset.reqs = []

/-- The reset state is in a legal power state (R526, R527). The reset state satisfies PowerLegal: the power state is PS0
to PS4 and the last operational state PS0 to PS2. -/
def Obligations.ResetPowerLegal : Prop := State.reset.PowerLegal

/-- Every step keeps the power states legal (R526, R527). From every state whose power state is one of PS0 to PS4 and
whose last operational state is one of PS0 to PS2, whatever command stands in front, a step that answers a next state
answers one with a legal power state. -/
def Obligations.StepKeepsPowerLegal : Prop :=
  ∀ s t : State, s.PowerLegal → step s = .next t → t.PowerLegal

/-- Results and charges of the integer instructions (R54, R55, R65). On a ready core (it executes in the current window,
and no on-chip SRAM word holds a bit in error), nop changes nothing but the pc and the count, and each of the 26 other
integer instructions writes to gA the value that R65 gives from gA, gB, gC and IMM, at the charge R65 gives. Division
by 0 gives 0, shift amounts are taken modulo 64, and no integer instruction faults. -/
def Obligations.IntegerResults : Prop :=
  ∀ (s : State) (c : CoreId) (a b d : GReg) (i : Imm32) (j : BitVec 48), s.Ready c →
    let z := (s.core c).getG a
    let x := (s.core c).getG b
    let y := (s.core c).getG d
    exec (.nop c) s = .next (s.stepCore c 1 id) ∧
    exec (.add c a b d) s = .next (s.result c 1 a (x + y)) ∧
    exec (.sub c a b d) s = .next (s.result c 1 a (x - y)) ∧
    exec (.addi c a b i) s = .next (s.result c 1 a (x + i.signExtend 64)) ∧
    exec (.mul c a b d) s = .next (s.result c 3 a (x * y)) ∧
    exec (.mulhi c a b d) s = .next (s.result c 3 a (BitVec.ofNat 64 (x.toNat * y.toNat / 2 ^ 64))) ∧
    exec (.divq c a b d) s = .next (s.result c 66 a (if y = 0 then 0 else x / y)) ∧
    exec (.modq c a b d) s = .next (s.result c 66 a (if y = 0 then 0 else x - y * (x / y))) ∧
    exec (.and c a b d) s = .next (s.result c 1 a (x &&& y)) ∧
    exec (.or c a b d) s = .next (s.result c 1 a (x ||| y)) ∧
    exec (.xor c a b d) s = .next (s.result c 1 a (x ^^^ y)) ∧
    exec (.andi c a b i) s = .next (s.result c 1 a (x &&& i.setWidth 64)) ∧
    exec (.ori c a b i) s = .next (s.result c 1 a (x ||| i.setWidth 64)) ∧
    exec (.xori c a b i) s = .next (s.result c 1 a (x ^^^ i.setWidth 64)) ∧
    exec (.shl c a b d) s = .next (s.result c 1 a (x <<< (y.toNat % 64))) ∧
    exec (.shr c a b d) s = .next (s.result c 1 a (x >>> (y.toNat % 64))) ∧
    exec (.shra c a b d) s = .next (s.result c 1 a (x.sshiftRight (y.toNat % 64))) ∧
    exec (.shli c a b i) s = .next (s.result c 1 a (x <<< (i.toNat % 64))) ∧
    exec (.shri c a b i) s = .next (s.result c 1 a (x >>> (i.toNat % 64))) ∧
    exec (.shrai c a b i) s = .next (s.result c 1 a (x.sshiftRight (i.toNat % 64))) ∧
    exec (.li c a j) s = .next (s.result c 1 a (j.signExtend 64)) ∧
    exec (.lih c a j) s = .next (s.result c 1 a (BitVec.ofNat 64 (z.toNat % 2 ^ 48 + j.toNat % 2 ^ 16 * 2 ^ 48))) ∧
    exec (.lts c a b d) s = .next (s.result c 1 a (if x.toInt < y.toInt then 1 else 0)) ∧
    exec (.ltu c a b d) s = .next (s.result c 1 a (if x.toNat < y.toNat then 1 else 0)) ∧
    exec (.minu c a b d) s = .next (s.result c 1 a (BitVec.ofNat 64 (min x.toNat y.toNat))) ∧
    exec (.maxu c a b d) s = .next (s.result c 1 a (BitVec.ofNat 64 (max x.toNat y.toNat))) ∧
    exec (.sel c a b d) s = .next (s.result c 1 a (if x = 0 then z else y))

/-- Results and charges of the bit and field instructions (R66). On a ready core, ext, exts, ins, clz, ctz, popc, bswap
and crc32 complete at the charges of R66. ext gives the field at position IMM[5:0] of length IMM[13:8] + 1; exts gives
it sign-extended from its top bit; ins replaces bits p to p + n - 1 of gA, as far as bit 63, by the low bits of gB and
keeps every other bit; bswap exchanges byte j and byte 7 - j; clz, ctz and popc count; crc32 clears bits [63:32]. -/
def Obligations.BitFieldResults : Prop :=
  ∀ (s : State) (c : CoreId) (a b : GReg) (i : Imm32), s.Ready c →
    let z := (s.core c).getG a
    let x := (s.core c).getG b
    let p := i.toNat % 64
    let n := i.toNat / 256 % 64 + 1
    exec (.ext c a b i) s = .next (s.result c 1 a (BitVec.ofNat 64 (x.toNat / 2 ^ p % 2 ^ n))) ∧
    (∃ v : W64, exec (.exts c a b i) s = .next (s.result c 1 a v) ∧
      ∀ j < 64, v.getLsbD j = (if j < n then x.getLsbD (p + j) else x.getLsbD (p + n - 1))) ∧
    (∃ v : W64, exec (.ins c a b i) s = .next (s.result c 1 a v) ∧
      ∀ j < 64, v.getLsbD j = (if p ≤ j ∧ j < p + n then x.getLsbD (j - p) else z.getLsbD j)) ∧
    (∃ v : Nat, exec (.clz c a b) s = .next (s.result c 1 a (BitVec.ofNat 64 v)) ∧ v ≤ 64 ∧ x.toNat < 2 ^ (64 - v) ∧
      (v < 64 → 2 ^ (63 - v) ≤ x.toNat)) ∧
    (∃ v : Nat, exec (.ctz c a b) s = .next (s.result c 1 a (BitVec.ofNat 64 v)) ∧ v ≤ 64 ∧
      (∀ j < v, x.getLsbD j = false) ∧ (v < 64 → x.getLsbD v = true)) ∧
    exec (.popc c a b) s = .next (s.result c 1 a (BitVec.ofNat 64 ((List.range 64).filter (fun j => x.getLsbD j)).length)) ∧
    (∃ v : W64, exec (.bswap c a b) s = .next (s.result c 1 a v) ∧
      ∀ j < 8, v.toNat / 256 ^ j % 256 = x.toNat / 256 ^ (7 - j) % 256) ∧
    (∃ v : W64, exec (.crc32 c a b) s = .next (s.result c 2 a v) ∧ v.toNat < 2 ^ 32 ∧
      v = BitVec.ofNat 64 (crc32 (z.toNat % 2 ^ 32) (toBytes 8 x.toNat)))

/-- What a register result changes and what it leaves alone (R54, R55, R57, R70). An instruction that only writes gA
leaves every other general register, every tag register, oc, both stacks but for a loop's back-edge, the data store,
both banks, the event queues and the credits of its core as they were, every other core and every memory and station
register too; gA then reads the value, and g0 reads 0 whatever was written to it. -/
def Obligations.ResultFrame : Prop :=
  ∀ (s : State) (c : CoreId) (n : Nat) (a : GReg) (v : W64),
    let t := s.result c n a v
    (a ≠ 0 → (t.core c).getG a = v) ∧ (t.core c).getG 0 = 0 ∧
    (∀ r : GReg, r ≠ a → (t.core c).getG r = (s.core c).getG r) ∧
    (∀ i, (t.core c).getT i = (s.core c).getT i) ∧
    (t.core c).oc = (s.core c).oc ∧ (t.core c).calls = (s.core c).calls ∧ (t.core c).data = (s.core c).data ∧
    (t.core c).bankA = (s.core c).bankA ∧ (t.core c).bankB = (s.core c).bankB ∧ (t.core c).ring = (s.core c).ring ∧
    (t.core c).classQ = (s.core c).classQ ∧ (t.core c).credits = (s.core c).credits ∧ (t.core c).chk = (s.core c).chk ∧
    (t.core c).p0 = (s.core c).p0 ∧ (t.core c).state = (s.core c).state ∧
    (∀ d : CoreId, d ≠ c → t.core d = s.core d) ∧
    (∀ off, t.reg off = s.reg off) ∧ t.cluster = s.cluster ∧ t.tun = s.tun ∧ t.dram = s.dram ∧ t.ingot = s.ingot ∧
    t.nor = s.nor ∧ t.fbuf = s.fbuf ∧ t.tick = s.tick ∧ t.cmds = s.cmds ∧ t.reqs = s.reqs

/-- Loads, immediate constants and stores (R58, R59, R67, R68). On a ready core, with a space of 0 to 2 in the word, an
aligned load that R58, R59 and the checker let pass writes to gA the bytes read, zero-extended (tld: the 32 bytes to
tA), at the charge of its space; a station read may change what reading that register changes. On a ready core an
aligned store that R58, R59 and the checker let pass writes the low 1, 2, 4 or 8 bytes of gA, or the 32 bytes of tA,
little-endian at its address, or makes the station write, at the charge of its space; then the pc moves on. -/
def Obligations.LoadStoreResults : Prop :=
  (∀ (s : State) (c : CoreId) (a b : GReg) (x : BitVec 9) (i : Imm32) (l : Loc), s.Ready c → x.toNat ≤ 2 →
     let ea := (s.core c).effAddr b i
     let ch := memCharge 2 9 44 x.toNat
     let got (n : Nat) : Prop := s.access c x.toNat ea n .rd (loadable n) = .ok l
     let gives (n : Nat) : State := (s.loadValue c l n).2.result c ch a (w64 (s.loadValue c l n).1)
     (got 1 → exec (.ld8 c a b x i) s = .next (gives 1)) ∧
     (got 2 → exec (.ld16 c a b x i) s = .next (gives 2)) ∧
     (got 4 → exec (.ld32 c a b x i) s = .next (gives 4)) ∧
     (got 8 → exec (.ld64 c a b x i) s = .next (gives 8)) ∧
     (got 32 → a.toNat < 8 → exec (.tld c a b x i) s = .next (s.stepCore c (memCharge 3 10 44 x.toNat)
       (fun k => k.setT a.toNat (BitVec.ofNat 256 (ofBytes (s.coreBytes c l 32))))))) ∧
  (∀ (s : State) (c : CoreId) (a b : GReg) (x : BitVec 9) (i : Imm32) (l : Loc), s.Ready c → x.toNat ≤ 2 →
     let ea := (s.core c).effAddr b i
     let ch := memCharge 1 7 42 x.toNat
     let got (n : Nat) : Prop := s.access c x.toNat ea n .wr (storable n) = .ok l
     let put (n : Nat) : State := (s.storeValue c l n ((s.core c).getG a)).stepCore c ch id
     (got 1 → exec (.st8 c a b x i) s = .next (put 1)) ∧
     (got 2 → exec (.st16 c a b x i) s = .next (put 2)) ∧
     (got 4 → exec (.st32 c a b x i) s = .next (put 4)) ∧
     (got 8 → exec (.st64 c a b x i) s = .next (put 8)) ∧
     (got 32 → a.toNat < 8 → x.toNat < 2 → exec (.tst c a b x i) s =
       .next ((s.coreWrite c l (toBytes 32 ((s.core c).getT a.toNat).toNat)).stepCore c (memCharge 2 9 0 x.toNat) id)))

/-- A store changes only the bytes it stores (R58, R67). On a ready core with no SRAM flip armed, a store of n bytes to
the data store (n = 1, 2, 4 or 8) whose address the core address map, alignment and checker let pass leaves in the
core's data store the low n bytes of gA, little-endian, at that address and every byte outside them as it was; cluster
memory, the tundish, the instruction banks, the general and tag registers, oc, the other cores and the station
registers are unchanged. -/
def Obligations.StoreFrame : Prop :=
  ∀ (s t : State) (c : CoreId) (a b : GReg) (i : Imm32) (n : Nat) (ins : Instr), s.Ready c →
    ((n = 1 ∧ ins = .st8 c a b 0 i) ∨ (n = 2 ∧ ins = .st16 c a b 0 i) ∨ (n = 4 ∧ ins = .st32 c a b 0 i) ∨
      (n = 8 ∧ ins = .st64 c a b 0 i)) →
    bit (s.reg (sta 0x12 0x310)) 40 = false →
    let ea := (s.core c).effAddr b i
    s.access c 0 ea n .wr (storable n) = .ok (.data ea) →
    exec ins s = .next t →
      (∀ j < n, FMap.get zeroByte (t.core c).data (ea + j) = BitVec.ofNat 8 (((s.core c).getG a).toNat / 256 ^ j)) ∧
      (∀ m, m < ea ∨ ea + n ≤ m → FMap.get zeroByte (t.core c).data m = FMap.get zeroByte (s.core c).data m) ∧
      t.cluster = s.cluster ∧ t.tun = s.tun ∧ t.dram = s.dram ∧ t.ingot = s.ingot ∧
      (t.core c).bankA = (s.core c).bankA ∧ (t.core c).bankB = (s.core c).bankB ∧
      (∀ r : GReg, (t.core c).getG r = (s.core c).getG r) ∧ (∀ j, (t.core c).getT j = (s.core c).getT j) ∧
      (t.core c).oc = (s.core c).oc ∧ (∀ d : CoreId, d ≠ c → t.core d = s.core d) ∧ (∀ off, t.reg off = s.reg off)

/-- Atomics read and write one word of cluster memory (R60, R67). On a ready core, clad, clcx and clsw at an aligned
address of cluster memory that the checker lets pass write gA and the word as R67 gives, at a charge of 10: clad
leaves m + gC in both; clcx stores gC when m equals gA; clsw exchanges. -/
def Obligations.AtomicResults : Prop :=
  ∀ (s : State) (c : CoreId) (a b d : GReg) (l : Loc), s.Ready c →
    s.access c 1 ((s.core c).getG b).toNat 8 .at (storable 8) = .ok l →
    let old := w64 (ofBytes (s.coreBytes c l 8))
    let y := (s.core c).getG d
    let put (v : W64) : State := s.coreWrite c l (toBytes 8 v.toNat)
    exec (.clad c a b d 1) s = .next ((put (old + y)).result c 10 a (old + y)) ∧
    exec (.clcx c a b d 1) s = .next ((if old = (s.core c).getG a then put y else s).result c 10 a old) ∧
    exec (.clsw c a b d 1) s = .next ((put y).result c 10 a old)

/-- A load, store or atomic faults in two ways only, alignment first, and without effect (R68). On a ready core, a load,
store or atomic of a legal word that is not naturally aligned raises fault 0xE4, whatever the map and the checker say
of it; one that is aligned and that R58, R59 or R61 refuses raises 0xE3. The next state is that of the fault at the
instruction's charge. -/
def Obligations.AlignmentBeforeAccess : Prop :=
  ∀ (s : State) (c : CoreId) (a b d : GReg) (x : BitVec 9) (i : Imm32), s.Ready c →
    let ea := (s.core c).effAddr b i
    let refused (sp ea n : Nat) (p : Perm) (ok : Loc → Bool) : Prop :=
      (coreLoc c sp ea n).all (fun l => !ok l || !s.checkOk c p ea n) = true
    let code (sp ea n : Nat) (p : Perm) (ok : Loc → Bool) (ch : Nat) (r : Res) : Prop :=
      (ea % n ≠ 0 → r = .next (s.progFault c 0xE4 ch 0)) ∧
      (ea % n = 0 → refused sp ea n p ok → r = .next (s.progFault c 0xE3 ch 0))
    let ld := memCharge 2 9 44 x.toNat
    let st := memCharge 1 7 42 x.toNat
    (x.toNat ≤ 2 → code x.toNat ea 1 .rd (loadable 1) ld (exec (.ld8 c a b x i) s) ∧
      code x.toNat ea 2 .rd (loadable 2) ld (exec (.ld16 c a b x i) s) ∧
      code x.toNat ea 4 .rd (loadable 4) ld (exec (.ld32 c a b x i) s) ∧
      code x.toNat ea 8 .rd (loadable 8) ld (exec (.ld64 c a b x i) s) ∧
      code x.toNat ea 1 .wr (storable 1) st (exec (.st8 c a b x i) s) ∧
      code x.toNat ea 2 .wr (storable 2) st (exec (.st16 c a b x i) s) ∧
      code x.toNat ea 4 .wr (storable 4) st (exec (.st32 c a b x i) s) ∧
      code x.toNat ea 8 .wr (storable 8) st (exec (.st64 c a b x i) s)) ∧
    (x.toNat ≤ 2 → a.toNat < 8 → code x.toNat ea 32 .rd (loadable 32) (memCharge 3 10 44 x.toNat) (exec (.tld c a b x i) s)) ∧
    (x.toNat ≤ 1 → a.toNat < 8 → code x.toNat ea 32 .wr (storable 32) (memCharge 2 9 0 x.toNat) (exec (.tst c a b x i) s)) ∧
    code 1 ((s.core c).getG b).toNat 8 .at (storable 8) 10 (exec (.clad c a b d 1) s) ∧
    code 1 ((s.core c).getG b).toNat 8 .at (storable 8) 10 (exec (.clcx c a b d 1) s) ∧
    code 1 ((s.core c).getG b).toNat 8 .at (storable 8) 10 (exec (.clsw c a b d 1) s)

/-- Branches, jumps, calls, returns and loops transfer control (R33, R69, R70, R71, R72). On a ready core (it executes in
the current window, and no on-chip SRAM word holds a bit in error), whose innermost open loop of this call depth (if
any) holds the target, jmp goes to TGT and each of the 8 conditional branches goes to TGT when its condition holds and
moves to the next word otherwise, each at a charge of 2. On a ready core: call with fewer than 8 return words pushes
pc + 1 and goes to TGT; ret with a return word below 4,096 and no loop open at its depth pops it; loop with a legal
end and a count of 1 to M and fewer than 4 loops open opens a loop over pc + 1 to end, and with a count of 0 goes past
its end; lbrk in an open loop leaves it; switch with an index n below K goes to bits [11:0] of the n-th 16-bit entry
of the table at word TGT of the active bank, when that entry's word lies below 4,096 and its target in the open loop,
and with an index of K or more falls through; slend outside a drain dispatch, its own cycle not past BOUND, ends the
activation. Charges are those of R69. -/
def Obligations.TransferResults : Prop :=
  (∀ (s : State) (c : CoreId) (a b : GReg) (tgt : BitVec 12) (k : BitVec 14), s.Ready c →
     (s.core c).branchOk (tgt.setWidth 13) = true →
     let x := (s.core c).getG a
     let y := (s.core c).getG b
     let go (p : Bool) : Res := .next (if p then s.goTo c 2 (tgt.setWidth 13) else s.stepCore c 2 id)
     exec (.jmp c tgt) s = go true ∧
     exec (.beq c a b tgt) s = go (decide (x = y)) ∧
     exec (.bne c a b tgt) s = go (decide (x ≠ y)) ∧
     exec (.blt c a b tgt) s = go (decide (x.toInt < y.toInt)) ∧
     exec (.bge c a b tgt) s = go (decide (y.toInt ≤ x.toInt)) ∧
     exec (.bltu c a b tgt) s = go (decide (x.toNat < y.toNat)) ∧
     exec (.bgeu c a b tgt) s = go (decide (y.toNat ≤ x.toNat)) ∧
     exec (.beqi c a k tgt) s = go (decide (x = k.signExtend 64)) ∧
     exec (.bnei c a k tgt) s = go (decide (x ≠ k.signExtend 64))) ∧
  (∀ (s : State) (c : CoreId) (a b : GReg) (tgt : BitVec 12) (m : BitVec 16) (k : BitVec 14), s.Ready c →
     let q := s.core c
     (q.calls.length < 8 → exec (.call c tgt) s =
       .next (s.setCore c ({ q with calls := (q.pc + 1) :: q.calls, pc := tgt.setWidth 13 }.charge 3))) ∧
     (∀ w r, q.calls = w :: r → w.toNat < 4096 → q.openLoop = none → exec (.ret c) s =
       .next (s.setCore c ({ q with calls := r, pc := w }.charge 3))) ∧
     (m ≠ 0 → q.pc < tgt.setWidth 13 → (∀ l, q.openLoop = some l → tgt.setWidth 13 < l.last) →
       (q.getG b = 0 → exec (.loop c b tgt m) s = .next (s.goTo c 2 (tgt.setWidth 13 + 1))) ∧
       (q.getG b ≠ 0 → (q.getG b).toNat ≤ m.toNat → q.loops.length < 4 → exec (.loop c b tgt m) s =
         .next (s.setCore c ({ q with
           loops := { start := q.pc + 1, last := tgt.setWidth 13, count := q.getG b, depth := q.calls.length } :: q.loops,
           pc := q.pc + 1 }.charge 2)))) ∧
     (∀ l, q.openLoop = some l → exec (.lbrk c) s =
       .next (s.setCore c ({ q with loops := q.loops.tail, pc := l.last + 1 }.charge 2))) ∧
     (1 ≤ k.toNat → k.toNat ≤ 256 →
       (let n := (q.getG a).toNat
        let w := s.bankWord c (tgt.toNat + n / 4)
        let e : BitVec 13 := BitVec.ofNat 13 (w.toNat / 2 ^ (16 * (n % 4)) % 4096)
        n < k.toNat → tgt.toNat + n / 4 < 4096 → q.branchOk e = true → exec (.switch c a k tgt) s = .next (s.goTo c 4 e)) ∧
       (k.toNat ≤ (q.getG a).toNat → exec (.switch c a k tgt) s = .next (s.stepCore c 4 id))) ∧
     (q.act.isDrain = false → q.cycles + 1 ≤ q.bound → exec (.slend c) s = .next (s.setCore c (q.charge 1).leave)))

/-- Slot-end of a drain dispatch takes the next visible event while DRAIN allows (R32, R33). On a ready core in a drain
dispatch with dispatches left, whose own cycle does not pass BOUND, slend takes the oldest visible event of the slot's
class, puts it in g1, sets oc to 0, empties both stacks and enters the slot again; with no visible event the
activation ends. Events of other classes stay as they were. -/
def Obligations.SlendDispatchesNext : Prop :=
  ∀ (s : State) (c : CoreId) (n left : Nat), s.Ready c → (s.core c).act = .drain n (left + 1) →
    (s.core c).cycles + 1 ≤ (s.core c).bound →
    let k := s.core c
    let cls := fld (k.slotWord n) 48 6
    (∀ e q, takeClass cls k.classQ = some (e, q) → ∃ t, exec (.slend c) s = .next t ∧
      (t.core c).act = .drain n left ∧ (t.core c).getG 1 = e ∧ (t.core c).oc = 0 ∧ (t.core c).calls = [] ∧
      (t.core c).loops = [] ∧ (t.core c).pc.toNat = fld (k.slotWord n) 0 12 ∧ (t.core c).classQ = q ∧
      (t.core c).cycles = k.cycles + 9 ∧ fld e 0 6 = cls ∧
      q.filter (fun x => decide (fld x 0 6 ≠ cls)) = k.classQ.filter (fun x => decide (fld x 0 6 ≠ cls))) ∧
    (takeClass cls k.classQ = none → ∃ t, exec (.slend c) s = .next t ∧ (t.core c).act = .idle ∧ (t.core c).classQ = k.classQ)

/-- Where control instructions fault (R34, R51, R64, R69, R70, R72, R82). On a ready core: a jmp or a beq of equal
registers out of the open loop, lbrk without an open loop, ret with a loop open at its depth (and a return word on the
stack), and a loop whose end does not lie after the pc or does not lie before the enclosing loop's end raise 0xE6; so
does a loop whose count exceeds M or that would be the fifth. call with 8 return words and ret with none raise 0xE5. A
loop with M = 0 and a switch with K outside 1 to 256 are illegal, 0xE2. trap raises 0xE7 with its K. slend whose own
cycle takes the count past BOUND is a bound excess, 0xE1. -/
def Obligations.ControlFaults : Prop :=
  ∀ (s : State) (c : CoreId) (a b : GReg) (tgt : BitVec 12) (m : BitVec 16) (k : BitVec 14), s.Ready c →
    let q := s.core c
    (q.branchOk (tgt.setWidth 13) = false → exec (.jmp c tgt) s = .next (s.progFault c 0xE6 2 0)) ∧
    (q.branchOk (tgt.setWidth 13) = false → q.getG a = q.getG b → exec (.beq c a b tgt) s = .next (s.progFault c 0xE6 2 0)) ∧
    (q.openLoop = none → exec (.lbrk c) s = .next (s.progFault c 0xE6 2 0)) ∧
    (q.calls ≠ [] → q.openLoop ≠ none → exec (.ret c) s = .next (s.progFault c 0xE6 3 0)) ∧
    (q.calls = [] → exec (.ret c) s = .next (s.progFault c 0xE5 3 0)) ∧
    (8 ≤ q.calls.length → exec (.call c tgt) s = .next (s.progFault c 0xE5 3 0)) ∧
    (m ≠ 0 → tgt.setWidth 13 ≤ q.pc → exec (.loop c b tgt m) s = .next (s.progFault c 0xE6 2 0)) ∧
    (m ≠ 0 → ∀ l, q.openLoop = some l → l.last ≤ tgt.setWidth 13 → exec (.loop c b tgt m) s = .next (s.progFault c 0xE6 2 0)) ∧
    (m ≠ 0 → m.toNat < (q.getG b).toNat → exec (.loop c b tgt m) s = .next (s.progFault c 0xE6 2 0)) ∧
    (m ≠ 0 → q.getG b ≠ 0 → 4 ≤ q.loops.length → exec (.loop c b tgt m) s = .next (s.progFault c 0xE6 2 0)) ∧
    exec (.loop c b tgt 0) s = .next (s.progFault c 0xE2 1 0) ∧
    (k.toNat = 0 ∨ 256 < k.toNat → exec (.switch c a k tgt) s = .next (s.progFault c 0xE2 1 0)) ∧
    exec (.trap c k) s = .next (s.progFault c 0xE7 1 k.toNat) ∧
    (q.bound < q.cycles + 1 → exec (.slend c) s = .next ((s.setCore c (q.charge 1)).cut c 0xE1 q.pc.toNat 0))

/-- A trap cuts its activation, faults the core and queues one P0 event (R40, R51, R80, R81, R82). On a ready core outside
the fault handler, with fewer than 16 P0 events queued, trap leaves a state in which the core is faulted and idle with
no further slot in the tick, its count is one higher, its general and tag registers, oc, data store, ring and counters
OVR and BEX are unchanged, and one event stands behind its P0 queue: LEVEL 0, SOURCE the core, OUTCOME 0xE7, and in
its BODY the pc word, the bank, the slot, the drain bit and K; every other core is unchanged. -/
def Obligations.TrapTakesFault : Prop :=
  ∀ (s : State) (c : CoreId) (i : BitVec 14), s.Ready c → (s.core c).act ≠ .faultHandler → (s.core c).p0.length < 16 →
    let k := s.core c
    ∃ t e, exec (.trap c i) s = .next t ∧ (t.core c).state = .faulted ∧ (t.core c).act = .idle ∧ (t.core c).cut = true ∧
      (t.core c).cycles = k.cycles + 1 ∧ (∀ r : GReg, (t.core c).getG r = k.getG r) ∧ (∀ j, (t.core c).getT j = k.getT j) ∧
      (t.core c).oc = k.oc ∧ (t.core c).data = k.data ∧ (t.core c).ring = k.ring ∧ (t.core c).ovr = k.ovr ∧ (t.core c).bex = k.bex ∧
      (t.core c).p0 = k.p0 ++ [e] ∧ fld e 6 3 = 0 ∧ fld e 9 7 = c.toNat ∧ fld e 16 8 = 0xE7 ∧ fld e 24 12 = k.pc.toNat ∧
      bit e 36 = k.actBank ∧ (∀ n, k.act = .timed n → n < 64 → fld e 37 6 = n ∧ bit e 43 = false ∧ bit e 58 = false) ∧
      (∀ n m, k.act = .drain n m → n < 64 → fld e 37 6 = n ∧ bit e 43 = true ∧ bit e 58 = false) ∧
      (k.act = .start → fld e 37 6 = 63 ∧ bit e 58 = true) ∧ fld e 44 14 = i.toNat ∧
      (∀ d : CoreId, d ≠ c → t.core d = s.core d)

/-- An illegal word, or running past word 4,095, raises an illegal instruction fault (R64, R72, R80, R81). On a ready
core, a word that R64 makes illegal raises fault 0xE2 at its pc and counts 1 cycle. A core in a timed slot that has
run past word 4,095 raises 0xE2 too, counting 1 cycle and reporting word 4,095. -/
def Obligations.IllegalInstructionFault : Prop :=
  ∀ (s : State) (c : CoreId) (w : W64),
    (s.Ready c → legalWord w = false → exec (.illegalInstruction c w) s = .next (s.progFault c 0xE2 1 0)) ∧
    (∀ n, s.corePresent c = true → s.win = .slot → (s.core c).act = .timed n → (s.core c).cycles ≤ (s.core c).bound →
      4096 ≤ (s.core c).pc.toNat →
      exec (.illegalInstruction c w) s = .next ((s.setCore c ((s.core c).charge 1)).cut c 0xE2 4095 0))

/-- Tag and system instructions (R57, R60, R73, R74, R75). On a ready core: tfx gives a tag field and tfi replaces one,
leaving the others; tclr clears and tmov copies a tag register; tcmp gives the mask of fields 0 to 11 that differ,
under m; mfoc, mtick, coreid and credits read oc, the tick counter, the core's number and 4,096 less entries held and
credits taken; mcyc gives a cycle inside the current window; fence charges 8 and changes nothing else; sreset is a
controller fault reset of cause 2. Charges are those of R74 and R75. The cycle that mcyc reads inside its window is
free (DESIGN CHOICE, log entry 10). -/
def Obligations.TagSystemResults : Prop :=
  ∀ (s : State) (c : CoreId) (a b d : GReg) (f : BitVec 9) (i : Imm32), s.Ready c →
    let q := s.core c
    (b.toNat < 8 → tagFieldOk f.toNat = true → exec (.tfx c a b f) s =
      .next (s.result c 1 a (w64 (fld (q.getT b.toNat) (tagField f.toNat).1 (tagField f.toNat).2)))) ∧
    (a.toNat < 8 → tagFieldOk f.toNat = true → exec (.tfi c a b f) s = .next (s.stepCore c 1 (fun k => k.setT a.toNat
      (setFld (q.getT a.toNat) (tagField f.toNat).1 (tagField f.toNat).2 (q.getG b).toNat)))) ∧
    (a.toNat < 8 → exec (.tclr c a) s = .next (s.stepCore c 1 (fun k => k.setT a.toNat 0))) ∧
    (a.toNat < 8 → b.toNat < 8 → exec (.tmov c a b) s = .next (s.stepCore c 1 (fun k => k.setT a.toNat (q.getT b.toNat)))) ∧
    (b.toNat < 8 → d.toNat < 8 → ∃ v : W64, exec (.tcmp c a b d i) s = .next (s.result c 2 a v) ∧ ∀ j < 64,
      v.getLsbD j = (decide (j < 12) && i.getLsbD j && decide (tagGet (q.getT b.toNat) j ≠ tagGet (q.getT d.toNat) j))) ∧
    exec (.mfoc c a) s = .next (s.result c 1 a (q.oc.setWidth 64)) ∧
    exec (.mtick c a) s = .next (s.result c 1 a s.tick) ∧
    (∃ v : W64, exec (.mcyc c a) s = .next ((s.putFree (s.free + 1)).result c 1 a v) ∧
      s.windowSpan.1 ≤ v.toNat ∧ v.toNat < s.windowSpan.1 + s.windowSpan.2) ∧
    exec (.coreid c a) s = .next (s.result c 1 a (c.setWidth 64)) ∧
    exec (.credits c a) s = .next (s.result c 1 a (w64 (4096 - (q.ring.length + q.classQ.length + q.credits)))) ∧
    exec (.fence c) s = .next (s.stepCore c 8 id) ∧
    exec (.sreset c) s = .next (s.faultReset 2 c.toNat q.pc.toNat)

/-- Ring pushes and pops and queue context operations (R57, R79, R95, R97, R227). On a ready core: rpush on an enabled
ring with room appends gC and gives the new fill in gA; rpop gives the oldest value; full and empty rings answer 0x13
and 0x14 and a ring that is not enabled 0x1F, with nothing else changed. qctl read gives words 0 to 7 of a context
that exists, and the words 8 to 15 and the operations that R97 does not define answer 0x1F; pause, resume and retire
of an existing submission queue set or clear their bit at once (retire gives the unsettled count); set-owner and set-
level note the change for the boundary. oc is 0x00 and the charges are 14 and 46. -/
def Obligations.QueuePrimitiveResults : Prop :=
  ∀ (s : State) (c : CoreId) (a b d : GReg) (w : BitVec 8), s.Ready c →
    let k := s.core c
    let i := fld (k.getG b) 0 12
    let r := s.ringAt i
    let n := fld (k.getG b) 0 18
    (r.vals.length < r.cap → exec (.rpush c a b d) s =
      .next ((s.setRing i { r with vals := r.vals ++ [k.getG d] }).syncDone c 14 a 0x00 (w64 (r.vals.length + 1)))) ∧
    (r.cap ≠ 0 → r.cap ≤ r.vals.length → exec (.rpush c a b d) s = .next (s.syncFail c 14 0x13)) ∧
    (∀ v vs, r.cap ≠ 0 → r.vals = v :: vs → exec (.rpop c a b) s =
      .next ((s.setRing i { r with vals := vs }).syncDone c 14 a 0x00 v)) ∧
    (r.cap ≠ 0 → r.vals = [] → exec (.rpop c a b) s = .next (s.syncFail c 14 0x14)) ∧
    (r.cap = 0 → exec (.rpush c a b d) s = .next (s.syncFail c 14 0x1F) ∧ exec (.rpop c a b) s = .next (s.syncFail c 14 0x1F)) ∧
    (w.toNat % 16 = 0 → w.toNat / 16 ≤ 7 → bit (k.getG b) 18 = true → ∀ q, s.cq n = some q →
      exec (.qctlRead c a b d w) s = .next (s.syncDone c 46 a 0x00 (q.word (w.toNat / 16)))) ∧
    (5 < w.toNat % 16 ∨ (w.toNat % 16 = 0 ∧ 7 < w.toNat / 16) → exec (.qctlRead c a b d w) s = .next (s.syncFail c 46 0x1F)) ∧
    (bit (k.getG b) 18 = false → ∀ q, s.sq n = some q →
      (w.toNat % 16 = 0 → w.toNat / 16 ≤ 7 → exec (.qctlRead c a b d w) s = .next (s.syncDone c 46 a 0x00 (q.word (w.toNat / 16)))) ∧
      exec (.qctlPause c a b d) s = .next ((s.setSq n (some { q with paused := true })).syncFail c 46 0x00) ∧
      exec (.qctlResume c a b d) s = .next ((s.setSq n (some { q with paused := false })).syncFail c 46 0x00) ∧
      exec (.qctlSetOwner c a b d) s = .next ((s.putQPend (s.qPend ++ [(n, QChange.owner
        (BitVec.ofNat 6 (fld (k.getG d) 0 6)) (BitVec.ofNat 6 (fld (k.getG d) 6 6)) (BitVec.ofNat 6 (fld (k.getG d) 12 6))
        (BitVec.ofNat 6 (fld (k.getG d) 18 6)))])).syncFail c 46 0x00) ∧
      exec (.qctlSetLevel c a b d) s =
        .next ((s.putQPend (s.qPend ++ [(n, QChange.level (fld (k.getG d) 0 2))])).syncFail c 46 0x00) ∧
      exec (.qctlRetire c a b d) s =
        .next ((s.setSq n (some { q with retired := true })).syncDone c 46 a 0x00 (w64 q.unsettled)))

/-- Hazard table operations and write sequence numbers (R74, R79, R102, R104, R199). On a ready core: hzins confirm
attaches gC to the entry armed at the fetch of the key's command and gives its index; hzins insert with a count of 1
to 65,536 makes a confirmed entry without a buffer at a free index; hzdel removes an entry in use, which no command
has any more, and gives 0; tseq with a gC of 1 to 256 puts the next number into field 8 of tA and into gB, raises the
counter by gC, at most to 2^56 - 1, and sets oc to 0x00. A tseq of another gC, a confirm of a key without a command
and an hzdel of an entry not in use set oc to 0x1F and change nothing else. Which free index an insertion takes is the
model's choice (DESIGN CHOICE, log entry 6). -/
def Obligations.HazardPrimitiveResults : Prop :=
  ∀ (s : State) (c : CoreId) (a b d : GReg), s.Ready c →
    let k := s.core c
    let x := k.getG b
    let y := k.getG d
    (∀ j m e, s.cmdOf x = some m → m.haz = some j → s.hazAt j = some e → e.confirmed = false →
      exec (.hzinsConfirm c a b d) s =
        .next ((s.putHaz (FMap.insert s.haz j { e with confirmed := true, buf := y })).syncDone c 20 a 0x00 (w64 j))) ∧
    (s.cmdOf x = none → exec (.hzinsConfirm c a b d) s = .next (s.syncFail c 20 0x1F)) ∧
    (1 ≤ fld y 0 17 → fld y 0 17 ≤ 65536 → ∀ j, s.hazFree = some j → s.hazAt j = none ∧
      exec (.hzinsInsert c a b d) s = .next (((s.putHaz (FMap.insert s.haz j (HazEntry.mk x (fld y 0 17)
        (if fld y 32 32 = 0 then s.lastFsn else BitVec.ofNat 32 (fld y 32 32)) true 0))) : State).syncDone c 20 a 0x00 (w64 j))) ∧
    (∀ e, s.hazAt (fld x 0 16) = some e →
      exec (.hzdel c a b) s = .next (((s.putHaz (FMap.erase s.haz (fld x 0 16))).putCmds
        (s.cmds.map (fun m => if m.haz = some (fld x 0 16) then { m with haz := none } else m))).syncDone c 20 a 0x00 0)) ∧
    (s.hazAt (fld x 0 16) = none → exec (.hzdel c a b) s = .next (s.syncFail c 20 0x1F)) ∧
    (a.toNat < 8 → 1 ≤ y.toNat → y.toNat ≤ 256 → ∃ t, exec (.tseq c a b d) s = .next t ∧ (t.core c).oc = 0x00 ∧
      (b ≠ 0 → (t.core c).getG b = w64 s.wsn) ∧ tagGet ((t.core c).getT a.toNat) 8 = s.wsn ∧
      t.wsn = min (s.wsn + y.toNat) (2 ^ 56 - 1)) ∧
    (a.toNat < 8 → y.toNat = 0 ∨ 256 < y.toNat → exec (.tseq c a b d) s = .next (s.syncFail c 20 0x1F))

/-- hzchk reports the overlapping entry fetched latest (R103). On a ready core, hzchk with a count of 0 sets oc to 0x1F.
Otherwise oc is 0x00, and gA is 0 when no entry that overlaps the range (and, for a gC[63:32] other than 0, precedes
it) is in the table; else gA names an entry that qualifies: its index in [15:0], whether it has a buffer in [16],
whether another qualifies in [17], and its fetch sequence number in [63:32], and no qualifying entry's number comes
later when the qualifying numbers lie within half the number space. -/
def Obligations.HazardCheckFindsLatest : Prop :=
  ∀ (s : State) (c : CoreId) (a b d : GReg), s.Ready c → (∀ p ∈ s.haz, p.1 < 65536) →
    let k := s.core c
    let y := k.getG d
    let n := fld y 0 17
    let q := s.haz.filter (fun p => p.2.overlaps (k.getG b) n &&
      (decide (fld y 32 32 = 0) || fsnBefore p.2.fsn (BitVec.ofNat 32 (fld y 32 32))))
    (n = 0 → exec (.hzchk c a b d) s = .next (s.syncFail c 20 0x1F)) ∧
    (n ≠ 0 → ∃ v : W64, exec (.hzchk c a b d) s = .next (s.syncDone c 20 a 0x00 v) ∧
      (q = [] → v = 0) ∧
      (q ≠ [] → ∃ p ∈ q, fld v 0 16 = p.1 ∧ bit v 16 = decide (p.2.buf ≠ 0) ∧ bit v 17 = decide (2 ≤ q.length) ∧
        fld v 18 14 = 0 ∧ fld v 32 32 = p.2.fsn.toNat ∧
        ((∃ z : BitVec 32, ∀ r ∈ q, (r.2.fsn - z).toNat < 2 ^ 31) → ∀ r ∈ q, fsnBefore p.2.fsn r.2.fsn = false)))

/-- Buffers, sensors, health counters and dome answers (R79, R107, R108, R141, R142, R143, R514). On a ready core: bget of
1 to 262,144 bytes gives the handle of a buffer of the smallest sufficient pool from the part or parts its placement
names, or 0x10 when the class may take none; bput takes one reference off a held buffer that is no entry buffer and
bref adds one below 255, giving the new count; sens of a fitted sensor among 0 to 23 and 32 to 287 gives its
temperature when it is no older than 1 s, sign-extended, and 0x73 when it is older, and sens 24 and 288 give the
highest of those readings no older than 1 s; hlth adds to a counter, saturating, and gives the sum; vack with answer 1
or 0 to an open quiesce request counts the client's agreement or stops the entry. Charges are 14 and 44. The order of
free buffers is the model's choice (DESIGN CHOICE, log entry 6). -/
def Obligations.BufferPrimitiveResults : Prop :=
  ∀ (s : State) (c : CoreId) (a b d : GReg) (i : Imm32), s.Ready c →
    let k := s.core c
    let x := k.getG b
    let size := fld i 0 19
    (1 ≤ size → size ≤ 262144 → fld i 19 2 ≠ 3 →
      let part (e : Bool) : Option (W64 × State) := s.alloc (fld x 0 6) (poolFor size) e
      let got := if fld i 19 2 = 0 then (part false).or (part true) else if fld i 19 2 = 1 then part false else part true
      (∀ h t, got = some (h, t) → exec (.bget c a b i) s = .next (t.syncDone c 14 a 0x00 h)) ∧
      (got = none → exec (.bget c a b i) s = .next (s.syncFail c 14 0x10))) ∧
    (∀ h t, s.bufOf x = some (h, t) → t.owner ≠ 63 →
      exec (.bput c a b) s = .next ((s.unref h).syncDone c 14 a 0x00 (w64 (t.refs - 1))) ∧
      (t.refs < 255 → exec (.bref c a b) s = .next ((s.addRef h).syncDone c 14 a 0x00 (w64 (t.refs + 1))))) ∧
    (s.bufOf x = none → exec (.bput c a b) s = .next (s.syncFail c 14 0x17) ∧ exec (.bref c a b) s = .next (s.syncFail c 14 0x17)) ∧
    (x.toNat < 24 ∨ (32 ≤ x.toNat ∧ x.toNat < 288) → ∀ v st, s.sensor x.toNat = some (v, st) →
      exec (.sens c a b) s = .next (if s.tick.toNat ≤ st + s.secondTicks then s.syncDone c 44 a 0x00 (sext 16 v) else s.syncFail c 44 0x73)) ∧
    (∀ (ns : List Nat) (n v : Nat), (x.toNat = 24 ∧ ns = List.range 24) ∨ (x.toNat = 288 ∧ ns = (List.range 256).map (· + 32)) → n ∈ ns →
      s.freshSensor n = some v → (∀ m ∈ ns, ∀ u, s.freshSensor m = some u → tempInt u ≤ tempInt v) →
      exec (.sens c a b) s = .next (s.syncDone c 44 a 0x00 (sext 16 v))) ∧
    (∃ v : W64, exec (.hlth c a b d) s = .next ((s.putHealth (FMap.set (fun _ => 0) s.health (fld x 0 8) v)).syncDone c 44 a 0x00 v) ∧
      v.toNat = min ((FMap.get (fun _ => (0 : W64)) s.health (fld x 0 8)).toNat + (k.getG d).toNat) (2 ^ 64 - 1)) ∧
    (∀ m e, s.openQuiesce (fld x 0 16) (fld x 16 6) = some (m, e) →
      (k.getG d = 0 → exec (.vack c a b d) s = .next ((s.abortEntry m e (fld x 16 6) 0).syncFail c 44 0x00)) ∧
      (k.getG d = 1 → ∀ y : DomeEntry, y = { e with waiting := e.waiting.filter (· ≠ fld x 16 6), agreed := e.agreed ++ [fld x 16 6] } →
        exec (.vack c a b d) s = .next ((if y.waiting.isEmpty then s.tryCommit m y else s.setEntry m (some y)).syncFail c 44 0x00))) ∧
    (s.openQuiesce (fld x 0 16) (fld x 16 6) = none → exec (.vack c a b d) s = .next (s.syncFail c 44 0x1F))

/-- An issue that nothing refuses takes a credit and a ticket and waits for its engine (R39, R47, R76, R78, R79, R85,
R126). For each of the 44 issue instructions (gate, squash, squash with abort, mlook, mcommit, mtrim, the six mzone
operations, fread, fprog, ferase, fstat, ffeat get and set, fraw, fcancel, dmin, dmout, dmcopy and its framed form,
dmfill, xts, cmac, the five vslot operations, pxor, pmac, pcheck, sreq, sresp, the five slink operations, arec, vote):
on a ready core, with a clean operand block and result record (aligned, in the data store, the record in the data
store or the program part of cluster memory, both passed by the checker), the unit present, a credit free and room in
the queue, the issue completes: gA holds a ticket that is not 0 and was not outstanding, oc is 0x00, one more credit
is taken, and a waiting request with that ticket holds the operand block. -/
def Obligations.IssueAccepted : Prop :=
  ∀ (s : State) (c : CoreId) (i : Issue), ∀ r ∈ issueRows c i,
    s.Ready c → rowMatches s r.ins = true → s.issueClean c i → s.issueTaken c r.prim i r.imm →
    ∃ t, exec r.ins s = .next t ∧ Issued s t c r.prim i

/-- What refuses an issue, and in which order (R61, R76, R78, R126). For each issue instruction on a ready core: an
operand block or result record that is not 64-byte aligned raises 0xE4; aligned ones of which the operand block lies
outside the data store, the record lies in neither store, or the checker refuses either raise 0xE3; otherwise an
absent unit, or operands in the memory of an absent one, answers 0x7F, else no free credit 0x11, else a full engine
queue 0x12, each with gA 0 and nothing issued. -/
def Obligations.IssueRefusals : Prop :=
  ∀ (s : State) (c : CoreId) (i : Issue), ∀ r ∈ issueRows c i, s.Ready c →
    let b := ((s.core c).getG i.b).toNat
    let d := ((s.core c).getG i.d).toNat
    let u := s.unitOf c r.prim (s.issueBlock c i)
    (b % 64 ≠ 0 → exec r.ins s = .next (s.progFault c 0xE4 r.cost 0)) ∧
    (rowMatches s r.ins = true →
      (d % 64 ≠ 0 → exec r.ins s = .next (s.progFault c 0xE4 r.cost 0)) ∧
      (b % 64 = 0 → d % 64 = 0 → (recLoc c d = none ∨ 0x10000 < b + 64 ∨ s.checkOk c .rd b 64 = false ∨ s.checkOk c .wr d 64 = false) →
        exec r.ins s = .next (s.progFault c 0xE3 r.cost 0)) ∧
      (s.issueClean c i → s.unitAbsent r.prim u r.imm (s.issueBlock c i) = true → exec r.ins s = .next (s.syncDone c r.cost i.a 0x7F 0)) ∧
      (s.issueClean c i → s.unitAbsent r.prim u r.imm (s.issueBlock c i) = false → (s.core c).freeEntries = 0 → exec r.ins s = .next (s.syncDone c r.cost i.a 0x11 0)) ∧
      (s.issueClean c i → s.unitAbsent r.prim u r.imm (s.issueBlock c i) = false → (s.core c).freeEntries ≠ 0 → r.prim.depth ≤ s.queued c u →
        exec r.ins s = .next (s.syncDone c r.cost i.a 0x12 0)))

/-- A tick boundary advances the counter by one and intake moves the oldest ring entries into the class queues (R26, R28,
R37, R38, R41). From a state in the slot window, TICK_BOUNDARY answers a next state whose tick counter is one higher
and whose window is the fault window. From a state in the fault window in which no fault handler runs, INTAKE opens
the slot window and, on every core whatever its state, moves the oldest entries of the ring behind the class queues in
their order: all of them, or 64 for each microsecond of the period, leaving the rest in order; DEFER counts a tick
that left some. Nothing else of the core changes. -/
def Obligations.TickAndIntake : Prop :=
  (∀ s : State, s.win = .slot → ∃ t, exec .tickBoundary s = .next t ∧ t.tick = s.tick + 1 ∧ t.win = .fault) ∧
  (∀ s : State, s.win = .fault → (∀ c ∈ s.presentCores, (s.core c).act ≠ .faultHandler) →
     ∃ t, exec .intake s = .next t ∧ t.win = .slot ∧ t.tick = s.tick ∧ ∀ c : CoreId,
       let k := s.core c
       let n := 64 * s.periodUs
       (t.core c) = { k with
         classQ := k.classQ ++ k.ring.take n
         ring := k.ring.drop n
         defer := if n < k.ring.length then BitVec.ofNat 16 (min (k.defer.toNat + 1) 65535) else k.defer })

/-- Slots, start activations, cuts, promotions and ring posts; a slot word of a reserved kind stops the dispatch (R29,
R30, R31, R32, R33, R48, R51, R88, R173). When a core may run and no start activation waits, SLOT_DISPATCH enters its
next due timed slot with g1 the tick counter, or its next due drain slot with g1 the oldest visible event of the
class, at 8 cycles. START_ACTIVATION enters a waiting start handler with g1 = ARG. BOUND_EXCESS cuts an activation
whose count exceeds BOUND with 0xE1. FAULT_WINDOW_CUT in a running fault handler is a fault reset of cause 3.
AGE_PROMOTION raises a queued request at P3 to P7 that has waited SCHED_AGELIM ticks by one level. EVENT_RING_POST
moves the oldest waiting event into a free ring entry. When the next due slot of a core that may run has KIND 2 or 3,
SLOT_DISPATCH stops with the fault reservedSlotKind; of every other kind it answers a next state. -/
def Obligations.ActivationResults : Prop :=
  (∀ (s : State) (c : CoreId),
     let k := s.core c
     let k0 : Core := { k with cycles := 0 }
     (∀ n, s.mayRun c = true → k.startPending = false → k0.nextDue s.tick.toNat = some n →
       let w := k.slotWord n
       let entry := BitVec.ofNat 12 (fld w 0 12)
       (fld w 13 2 = 0 → exec (.slotDispatch c) s = .next (s.setCore c ((k0.enter (.timed n) entry s.tick).charge 8))) ∧
       (∀ e q, fld w 13 2 = 1 → takeClass (fld w 48 6) k.classQ = some (e, q) → exec (.slotDispatch c) s =
         .next (s.setCore c ((({ k0 with classQ := q }).enter (.drain n (fld w 56 8 - 1)) entry e).charge 8)))) ∧
     (s.mayRun c = true → k.startPending = true → exec (.startActivation c) s =
       .next (s.setCore c ((({ k with cycles := 0, cut := true, startPending := false }).enter .start
         (BitVec.ofNat 12 (fld k.nstart 0 12)) (w64 (fld k.nstart 32 32))).charge 8))) ∧
     (∀ n, s.win = .slot → k.act = .timed n → k.bound < k.cycles →
       exec (.boundExcess c) s = .next (s.cut c 0xE1 k.pc.toNat 0)) ∧
     (s.win = .fault → k.act = .faultHandler → exec (.faultWindowCut c) s = .next (s.faultReset 3 c.toNat k.pc.toNat)) ∧
     (∀ t r, s.findReq c t = some r → r.queuedInEngine = true → 3 ≤ r.cur.toNat → s.rfld (sta 1 0x10) 0 11 ≤ r.age →
       exec (.agePromotion c t) s = .next (s.setReq { r with cur := r.cur - 1, age := 0 })) ∧
     (∀ e es, k.waiting = e :: es → 0 < k.freeEntries →
       exec (.eventRingPost c) s = .next (s.setCore c { k with waiting := es, ring := k.ring ++ [e] }))) ∧
  (∀ (s : State) (c : CoreId) (n : Nat), s.mayRun c = true → (s.core c).startPending = false →
     ({ s.core c with cycles := 0 } : Core).nextDue s.tick.toNat = some n →
     (2 ≤ fld ((s.core c).slotWord n) 13 2 → exec (.slotDispatch c) s = .fault .reservedSlotKind) ∧
     (fld ((s.core c).slotWord n) 13 2 < 2 → ∃ t, exec (.slotDispatch c) s = .next t))

/-- A bound excess cuts the slot and is counted (R51, R81, R82). From a state in the slot window in which a timed slot has
counted more cycles than its BOUND, with fewer than 16 P0 events queued, BOUND_EXCESS leaves the core faulted and idle
with no further slot in the tick, BEX one higher up to 255, LASTSLOT the slot, OVR and the registers as they were, and
one P0 event of OUTCOME 0xE1 more. -/
def Obligations.BoundExcessCounts : Prop :=
  ∀ (s : State) (c : CoreId) (n : Nat), s.win = .slot → (s.core c).act = .timed n → n < 64 → (s.core c).bound < (s.core c).cycles →
    (s.core c).p0.length < 16 →
    ∃ t e, exec (.boundExcess c) s = .next t ∧ (t.core c).state = .faulted ∧ (t.core c).act = .idle ∧ (t.core c).cut = true ∧
      (t.core c).bex.toNat = min ((s.core c).bex.toNat + 1) 255 ∧ (t.core c).lastSlot.toNat = n ∧ (t.core c).ovr = (s.core c).ovr ∧
      (t.core c).p0 = (s.core c).p0 ++ [e] ∧ fld e 16 8 = 0xE1 ∧ fld e 24 12 = (s.core c).pc.toNat % 4096 ∧ fld e 37 6 = n ∧
      (∀ r : GReg, (t.core c).getG r = (s.core c).getG r) ∧ (t.core c).data = (s.core c).data

/-- Rows that write a station register make that one write (R16, R17, R18, R24, R35, R52, R62, R96, R163, R199, R447,
R489). Each of the 28 rows that write a station register (REGISTER_WRITE, TIME_PERIOD, the SCHED_CTL, SCHED_STAT,
ephemeris, HOVMASK and fault entry writes, checker regions, QENG_RCFG, HAZ_WSNFLOOR, INGOT_LTAIL, TUN_MIN,
TUN_CTL.LOCK, DRAM_FCHG, DRAM_TRUN, DRAM port targets, scrub start, SHARE_RDONE, slice reset and entries, THERM_PKG,
pattern store program, erase and bulk read, SEC_BMEXIT) makes the write of its register and value when the checker of
its core, or debug access, lets it, and changes nothing otherwise. -/
def Obligations.RegisterWriteRows : Prop :=
  ∀ (s : State) (w : Who) (c : CoreId) (v m : W64) (run lim : Bool) (off : BitVec 24) (n : BitVec 4) (p : BitVec 3) (e : BitVec 12)
      (k : BitVec 8), ∀ r ∈ writeRows s w c v m run lim off n p e k,
    (s.whoOk w .wr r.off = true → exec r.ins s = .next (s.stWrite (s.whoLoader w) r.off r.val)) ∧
    (s.whoOk w .wr r.off = false → exec r.ins s = .next s)

/-- A plain register takes its rw bits, clears its w1c bits and keeps the others (R16, R17). A write to a register of a
block that commands no hardware (PADS, VAULT, ALM or ID: blocks 0x16, 0x0B, 0x10 and 0x17) stores the written value in
its rw bits, clears each w1c bit written as 1, sets each w1s bit written as 1, keeps every other bit, and leaves every
other register alone; an offset that is not a multiple of 8, that no table lists or whose unit is absent changes
nothing. -/
def Obligations.PlainRegisterWrites : Prop :=
  ∀ (s : State) (l : Bool) (off : Nat) (v : W64), (stBlock off = 0x16 ∨ stBlock off = 0x0B ∨ stBlock off = 0x10 ∨ stBlock off = 0x17) →
    ((off % 8 ≠ 0 ∨ s.stPresent off = false ∨ findReg off = none) → s.stWrite l off v = s) ∧
    (∀ r, off % 8 = 0 → s.stPresent off = true → findReg off = some r →
      (s.stWrite l off v).reg off = r.apply (s.reg off) v ∧ ∀ o, o ≠ off → (s.stWrite l off v).reg o = s.reg o)

/-- TIME_PERIOD ignores writes once LOCK is set (R24). Whoever writes TIME_PERIOD, through TIME_PERIOD_WRITE,
TIME_PERIOD_LOCK or REGISTER_WRITE: once LOCK is 1 the state does not change. Before, TIME_PERIOD_WRITE of 0 to 2 sets
SEL, a write of 3 keeps it, and TIME_PERIOD_LOCK sets LOCK and keeps SEL. -/
def Obligations.TimePeriodLocks : Prop :=
  ∀ (s : State) (w : Who) (v : W64),
    (bit (s.reg (sta 0 0)) 8 = true → exec (.timePeriodWrite w v) s = .next s ∧ exec (.timePeriodLock w) s = .next s ∧
      exec (.registerWrite w 0 v) s = .next s) ∧
    (bit (s.reg (sta 0 0)) 8 = false → s.whoOk w .wr 0 = true →
      (∃ t, exec (.timePeriodWrite w v) s = .next t ∧ t.sel = (if fld v 0 2 = 3 then s.sel else fld v 0 2)) ∧
      (s.sel ≠ 3 → ∃ t, exec (.timePeriodLock w) s = .next t ∧ t.sel = s.sel ∧ bit (t.reg (sta 0 0)) 8 = true))

/-- What the hardware does behind its registers (R27, R199, R201, R447, R454, R465, R467, R483, R545, R548, R550, R551).
PLL_SLIP clears PLLOK, sets SLIP and queues almanac record 0x10 with the tick. With a floor waiting, WSN_FLOOR_RAISE
makes the reserve bound at least the floor plus 2^24 (never above 2^56 - 1), in the register and in the ingot store,
and stands the counter at the higher of its value and the floor, which waits no more. While a frequency change runs,
FREQUENCY_CHANGE_DONE clears GO, sets DONE and shows TO as ACT. While a training run runs, TRAINING_RUN_DONE clears GO
and reports its lanes and its count. While a scrub runs, the device is up and no SRAM word holds a bit in error,
SCRUB_DONE without stuck words reports the corrected count and posts RAS event 5, and one stuck word of the tundish in
the range is counted and held back. A mediation window read answers the window's value on a physical function and 0 on
a virtual one, and a write is made on a physical function and ignored on a virtual one. With no bulk read running,
PAT_OPERATION_DONE within the pulse limit ends the operation with its pulses: one that passes leaves the erased sector
at 0xFF, or ands the page buffer into the programmed page, and every other byte as it was; one that fails at its last
pulse sets FAIL and leaves its page, or every page of its sector, in an unknown state. With the die idle,
PAT_RDATA_READ advances the address by one word. PAT_BULK_READ_DONE of a read that began while the die was idle, of
pages in a known state and within device memory, copies the bytes to device memory, leaves every other byte of it, and
sets DONE. -/
def Obligations.RegisterHardwareResults : Prop :=
  (∀ s : State, exec .pllSlip s = .next (((s.setRfld (sta 0 0x18) 0 1 0).setRfld (sta 0 0x18) 1 1 1).almRecord 0x10 [s.tick, 0, 0, 0, 0])) ∧
  (∀ (s : State) (x : Nat), s.wsnFloor = some x → x < 2 ^ 56 → ∃ t, exec .wsnFloorRaise s = .next t ∧ t.wsnFloor = none ∧ t.wsn = max s.wsn x ∧
    t.rfld hazWsnRes 0 56 = min (max (s.rfld hazWsnRes 0 56) (x + 2 ^ 24)) (2 ^ 56 - 1) ∧
    rdNum t.ingot reserveWord 8 = min (max (s.rfld hazWsnRes 0 56) (x + 2 ^ 24)) (2 ^ 56 - 1)) ∧
  (∀ s : State, bit (s.reg (sta 8 0x10)) 0 = true → ∃ t, exec .frequencyChangeDone s = .next t ∧ bit (t.reg (sta 8 0x10)) 0 = false ∧
    bit (t.reg (sta 8 0x10)) 3 = true ∧ bit (t.reg (sta 8 0x10)) 2 = bit (s.reg (sta 8 0x10)) 1) ∧
  (∀ (s : State) (fail : BitVec 40) (count : BitVec 24), bit (s.reg (sta 8 0x118)) 0 = true → ∃ t, exec (.trainingRunDone fail count) s = .next t ∧
    bit (t.reg (sta 8 0x118)) 0 = false ∧ fld (t.reg (sta 8 0x120)) 0 40 = fail.toNat ∧ fld (t.reg (sta 8 0x120)) 40 24 = count.toNat) ∧
  (∀ (s : State) (corr word : BitVec 24) (arr a b : Nat), s.scrub = some (arr, a, b) → s.sramClean → s.boot.down = false →
    exec (.scrubDone corr []) s =
      .next ((((s.putScrub none) : State).setReg (sta 0x12 0x308) (w64 (corr.toNat * 2))).rasEvent 5 (arr % 256)) ∧
    (arr = 0x88 → a ≤ word.toNat → word.toNat ≤ b → ∃ t, exec (.scrubDone corr [word]) s = .next t ∧ t.scrub = none ∧
      fld (t.reg (sta 0x12 0x308)) 1 24 = corr.toNat ∧ fld (t.reg (sta 0x12 0x308)) 25 16 = 1 ∧ (0x88, word.toNat) ∈ t.heldBack)) ∧
  (∀ (s : State) (f : Nat) (off : BitVec 16) (v : W64), s.funcExists f = true → off.toNat % 8 = 0 →
    exec (.mediationWindowAccess f off false v) s =
      .next (s.putOut (s.out ++ [Out.window f (if s.isPf f then s.windowRead f off.toNat else 0)])) ∧
    exec (.mediationWindowAccess f off true v) s = .next (if s.isPf f then s.windowWrite f off.toNat v else s)) ∧
  (∀ (s : State) (pulses : BitVec 6) (a : Nat), s.pat.op = some (true, a) → s.pat.bulk = none → 1 ≤ pulses.toNat → pulses.toNat ≤ 40 →
    (∃ t, exec (.patOperationDone pulses true) s = .next t ∧ t.pat.op = none ∧ t.rfld patStat 8 6 = pulses.toNat ∧ t.rfld patStat 0 1 = 0 ∧
      ∀ m, FMap.get norByte t.nor m = if m / 0x40000 = a / 0x40000 then 0xFF else FMap.get norByte s.nor m) ∧
    (pulses.toNat = 40 → ∃ t, exec (.patOperationDone pulses false) s = .next t ∧ t.pat.op = none ∧ t.rfld patStat 1 1 = 1 ∧
      ∀ p, p / 512 = a / 0x40000 → FMap.get (fun _ => false) t.norUnk p = true)) ∧
  (∀ (s : State) (pulses : BitVec 6) (a : Nat), s.pat.op = some (false, a) → s.pat.bulk = none → 1 ≤ pulses.toNat → pulses.toNat ≤ 12 →
    (∃ t, exec (.patOperationDone pulses true) s = .next t ∧ t.pat.op = none ∧ t.rfld patStat 8 6 = pulses.toNat ∧ t.rfld patStat 0 1 = 0 ∧
      ∀ m, FMap.get norByte t.nor m =
        if m / 512 = a / 512 then FMap.get norByte s.nor m &&& s.pageBuffer.getD (m % 512) 0xFF else FMap.get norByte s.nor m) ∧
    (pulses.toNat = 12 → ∃ t, exec (.patOperationDone pulses false) s = .next t ∧ t.pat.op = none ∧ t.rfld patStat 1 1 = 1 ∧
      FMap.get (fun _ => false) t.norUnk (a / 512) = true)) ∧
  (∀ (s : State) (w : Who), s.whoOk w .rd (sta 0x11 0x20) = true → s.pat.op = none → ∃ t, exec (.patRdataRead w) s = .next t ∧
    t.rfld patRaddr 3 24 = (s.rfld patRaddr 3 24 + 1) % 2 ^ 24) ∧
  (∀ (s : State) (src dst n : Nat), s.pat.bulk = some (src, dst, n, false) → s.norUnk = [] → src + 64 * n ≤ 0x8000000 → dst + 64 * n ≤ s.dramSize →
    ∃ t, exec .patBulkReadDone s = .next t ∧ t.pat.bulk = none ∧ bit (t.reg (sta 0x11 0x40)) 20 = false ∧ bit (t.reg (sta 0x11 0x40)) 21 = true ∧
      (∀ i < 64 * n, FMap.get zeroByte t.dram (dst + i) = FMap.get norByte s.nor (src + i)) ∧
      ∀ m, m < dst ∨ dst + 64 * n ≤ m → FMap.get zeroByte t.dram m = FMap.get zeroByte s.dram m)

/-- An engine takes its best waiting request (R46, R86, R90, R115, R146, R512, R520). Of the requests that wait at a unit
(at the map walker, those that no overlapping earlier request holds up), ENGINE_REQUEST_TAKE picks one: none has a
better level, and none that came before it has as good a one. While the unit's dome is not on the request completes
with 0x71; when the engine can take it and an operand is out of range it completes with the engine's refusal;
otherwise a flash verb is taken and a request of the map walker, data mover, cipher, vault or parity engine is
started, and stands behind those taken earlier. With no such request nothing changes. -/
def Obligations.EngineTakes : Prop :=
  ∀ (s : State) (u : Nat),
    let waits (q : Req) : Prop := q.unit = u ∧ q.phase = .waiting ∧ (u = 0x42 → s.mapBlocked q = false)
    ((∀ q ∈ s.reqs, ¬ waits q) → exec (.engineRequestTake u) s = .next s) ∧
    (∀ (l m : List Req) (r : Req), s.reqs = l ++ r :: m → waits r → (∀ q ∈ l, waits q → r.cur.toNat < q.cur.toNat) →
      (∀ q ∈ m, waits q → r.cur.toNat ≤ q.cur.toNat) →
      (s.unitDomeOn u = false → exec (.engineRequestTake u) s = .next (s.complete r 0x71 [])) ∧
      (s.unitDomeOn u = true → s.canTake r = true →
        (∀ oc, s.takeRefuse r = some oc → exec (.engineRequestTake u) s = .next (s.complete r oc [])) ∧
        (s.takeRefuse r = none →
          (r.prim.isVerb = true →
            exec (.engineRequestTake u) s = .next ((s.dropReq r).putReqs ((s.dropReq r).reqs ++ [{ r with phase := .taken }]))) ∧
          (r.prim ∈ [.mlook, .mcommit, .mtrim, .mzone, .dmin, .dmout, .dmcopy, .dmfill, .xts, .cmac, .vslot, .pxor, .pmac, .pcheck] →
            exec (.engineRequestTake u) s = .next ((s.dropReq r).putReqs ((s.dropReq r).reqs ++ [{ r with phase := .started }]))))))

/-- A completing request writes its record and posts its event in place of its credit (R39, R77, R87, R90, R109). When a
request whose result record lies in the data store completes with outcome oc and words ws, and it holds no buffer and
no SRAM flip is armed, the record's 8 words read ws (0 beyond them), the event with the request's class, level, unit,
outcome, record index and ticket stands last in the ring, one credit less is out, the request is gone, and every other
byte of the data store, the registers and every other core are as before. -/
def Obligations.CompletionPosts : Prop :=
  ∀ (s : State) (r : Req) (oc : Byte) (ws : List W64), r.recCluster = false → r.bufs = [] → ws.length ≤ 8 → r.recOff % 64 = 0 →
    r.recOff < 0x10000 → bit (s.reg (sta 0x12 0x310)) 40 = false →
    let t := s.complete r oc ws
    (∀ j < 8, w64 (ofBytes (FMap.getList zeroByte (t.core r.core).data (r.recOff + 8 * j) 8)) = ws.getD j 0) ∧
    (∀ m, m < r.recOff ∨ r.recOff + 64 ≤ m →
      FMap.get zeroByte (t.core r.core).data m = FMap.get zeroByte (s.core r.core).data m) ∧
    (∃ e, (t.core r.core).ring = (s.core r.core).ring ++ [e] ∧ fld e 0 6 = r.cls.toNat ∧ fld e 6 3 = r.level.toNat ∧
      fld e 9 7 = r.unit % 128 ∧ fld e 16 8 = oc.toNat ∧ fld e 24 23 = r.ticket.toNat ∧ bit e 47 = false ∧
      fld e 48 16 = r.recOff / 64) ∧
    (t.core r.core).credits = (s.core r.core).credits - 1 ∧ t.findReq r.core r.ticket = none ∧
    (∀ g : GReg, (t.core r.core).getG g = (s.core r.core).getG g) ∧ (∀ d : CoreId, d ≠ r.core → t.core d = s.core d)

/-- Fences, full completion queues, abort claims and entry buffers (R94, R99, R100, R229). GATE_FENCE_RELEASE of a claim
whose numbers all carry durable marks posts its completion entry and ends its request; CQ_SPACE_RESUME posts the
oldest waiting entry of a queue that has room and counts one waiting claim less; ABORT_CLAIM_APPLY of a held abort
claim on a live command, not in reset, takes the command's hazard entry, settles it as aborted with status 0x07, and
lets no further claim follow in the tick; ENTRY_BUFFER_RETURN of a command whose tick ends have all been counted frees
its entry buffer and drops the command. -/
def Obligations.GateResults : Prop :=
  ∀ (s : State) (k : W64) (q : Nat) (d : Cmd) (a b : BitVec 32) (st : BitVec 15),
    (∀ n m c t, s.cmdOf k = some d → d.settle = .claimed a b st n m c t → s.fenceMet n m = true →
      exec (.gateFenceRelease k) s = .next (s.postEntry d a b st (some (c, t)))) ∧
    (∀ r, s.spaceWaiter q = some d → d.settle = .space a b st r → s.cqRoom d = true →
      exec (.cqSpaceResume q) s = .next ((s.cqWaiting d (· - 1)).postEntry d a b st r)) ∧
    (∀ r, s.heldAbort k = some r → s.cmdOf k = some d → d.settle = .live → s.inReset d = false → exec (.abortClaimApply k) s =
      .next ((((((s.setReq { r with phase := .started }).settleCount d).dropHaz d).failJobs d).postEntry
        { d with haz := none, aborted := true } 0 0 0x07 (some (r.core, r.ticket))).putGateShut true)) ∧
    (s.cmdOf k = some d → d.settle = .settled 0 → ∃ t, exec (.entryBufferReturn k) s = .next t ∧
      t.cmdOf k = none ∧ t.tunBufs = FMap.erase s.tunBufs d.buf)

/-- A settled command's completion entry (R100, R225, R227, R229). A live command, not in reset, that completes with a
status while its completion queue has room: the device writes one completion entry with the status, the submission
queue's head and host identifier, the command identifier and the queue's phase tag, then an MSI-X when the queue's
interrupts are on; the tail moves on, the phase flips when it wraps, and the command is settled with five tick ends,
or in a cooling gap four, to go before its entry buffer returns. With a full queue nothing is written, the queue's
count of waiting claims rises, and the entry waits. -/
def Obligations.CompletionEntryWritten : Prop :=
  ∀ (s : State) (d : Cmd) (st : BitVec 15) (q : SQ) (x : CQ), d ∈ s.cmds → d.settle = .live → s.inReset d = false →
    s.sq d.sq = some q → s.cq q.cq = some x →
    let t := s.finish d st
    (x.full = false →
      t.out = s.out ++ (Out.cqe q.cq 0 0 q.head q.hostId d.cid x.phase st :: (if x.ien then [Out.msix x.func x.vector] else [])) ∧
      (∃ y, t.cq q.cq = some y ∧ y.tail = (x.tail + 1) % x.entries ∧ y.head = x.head ∧
        y.phase = (if x.tail + 1 = x.entries then !x.phase else x.phase)) ∧
      (∀ e ∈ t.cmds, e.key = d.key → e.settle = .settled (if s.gap then 4 else 5))) ∧
    (x.full = true → t.out = s.out ∧ (∃ y, t.cq q.cq = some y ∧ y.tail = x.tail ∧ y.waiting = x.waiting + 1) ∧
      (∀ e ∈ t.cmds, e.key = d.key → e.settle = .space 0 0 st none))

/-- The map walker answers its requests (R111, R112, R113, R114, R115, R116, R262, R263). For a started request that no
earlier overlapping request holds up, its namespace's registers standing as received: MAP_LOOKUP_DONE of an
unconfigured namespace completes with 0x60, of a range beyond it with 0x61, and of at most 8 grains that all look up
with their words and 0x00, or 0x02 when every word is 0. On KIND 1, where the lookups succeed and the log has room,
MAP_COMMIT_DONE appends the commit record, writes its words in the table and completes with the record's number and
the count of grains mapped before; MAP_TRIM_DONE does so with words of 0. ZONE_UPDATE_DONE of a zone in range reads
its state, pointers and capacity; reserves in an opened zone with room, answering the first LBA; and, where the log
has room, sets the state, answering the earlier one. A commit, trim or zone operation that answers an error completes
with it and changes no map; one that succeeds completes with what its operation gives. -/
def Obligations.MapRowResults : Prop :=
  ∀ (s : State) (c : CoreId) (t : Ticket) (r : Req),
    let v := s.received r
    let n := keyNs r.mapKey
    let m := keyMeta r.mapKey
    let g := v.keyGrain r.mapKey
    let zi := g / 2 ^ (v.nsAt n).zshift
    let z := (v.nsAt n).firstZone + zi
    let lba (o : Nat) : W64 := w64 (if (v.nsAt n).lba16 then (zi * 2 ^ (v.nsAt n).zshift + o) / 4 else zi * 2 ^ (v.nsAt n).zshift + o)
    let done (u : State) (oc : Byte) (ws : List W64) := (u.complete r oc ws).putNs s.ns
    let record (kind : Nat) (loc : W64) (first : Nat) (arg : W64) : LogRec := { key := r.mapKey, count := r.mapCount, kind := kind, loc := loc, first := first, zoneArg := arg, words := [] }
    s.mapBlocked r = false →
    (s.started c t (· = .mlook) = some r →
      ((v.nsAt n).kind = 0 → exec (.mapLookupDone c t) s = .next ((v.fail r 0x60).putNs s.ns)) ∧
      ((v.nsAt n).kind ≠ 0 → v.rangeOk r.mapKey r.mapCount = false → exec (.mapLookupDone c t) s = .next ((v.fail r 0x61).putNs s.ns)) ∧
      (∀ ws, (v.nsAt n).kind ≠ 0 → v.rangeOk r.mapKey r.mapCount = true → r.mapCount ≤ 8 → v.lookupN n m g r.mapCount = .ok ws →
        exec (.mapLookupDone c t) s = .next (done v (if ws.all (· = 0) then 0x02 else 0x00) ws))) ∧
    (∀ ws prev q u, s.started c t (· = .mcommit) = some r → (v.nsAt n).kind = 1 → m = false → v.rangeOk r.mapKey r.mapCount = true →
      bit r.imm 0 = false → bit r.imm 1 = false → v.commitWords r = some ws → v.lookupN n false g r.mapCount = .ok prev →
      v.logAppend (record 1 (r.op 2) (fld (r.op 3) 0 56) 0) = some (q, u) →
      exec (.mapCommitDone c t) s =
        .next (done ((u.metaFollowed n (fld (r.op 3) 0 56)).tableWriteN n false g ws) 0x00 [w64 q, w64 (prev.filter (· ≠ 0)).length])) ∧
    (∀ ws q u, s.started c t (· = .mtrim) = some r → (v.nsAt n).kind = 1 → m = false → v.rangeOk r.mapKey r.mapCount = true →
      v.mappedIn n false g r.mapCount = (ws, v) → v.logAppend (record 3 0 0 0) = some (q, u) →
      exec (.mapTrimDone c t) s = .next (done (u.tableWriteN n false g (List.replicate r.mapCount 0)) 0x00 [w64 q, ws])) ∧
    (s.started c t (· = .mzone) = some r → (v.nsAt n).zoned = true → v.rangeOk r.mapKey 1 = true →
      (fld r.imm 0 4 = 5 → exec (.zoneUpdateDone c t) s =
        .next (done v 0x00 [w64 (v.zstate z), w64 (v.zwp z), w64 (v.zrsv z), w64 (v.zcap n)])) ∧
      (fld r.imm 0 4 = 0 → (v.zstate z = 2 ∨ v.zstate z = 3) → v.zrsv z + r.mapCount ≤ v.zcap n →
        (r.op 2 = w64 (2 ^ 64 - 1) ∨ r.op 2 = lba (v.zrsv z)) →
        exec (.zoneUpdateDone c t) s = .next (done (v.reserve z r.mapCount) 0x00 [lba (v.zrsv z)])) ∧
      (∀ q u, fld r.imm 0 4 = 2 → v.logAppend (record 6 0 0 (r.op 2)) = some (q, u) →
        exec (.zoneUpdateDone c t) s = .next (done (u.setZstate z (fld (r.op 2) 0 4)) 0x00 [w64 (u.zstate z)]))) ∧
    (∀ (i : Instr) (op : MapRes),
      (i = .mapCommitDone c t ∧ s.started c t (· = .mcommit) = some r ∧ op = v.mcommitOp r) ∨
      (i = .mapTrimDone c t ∧ s.started c t (· = .mtrim) = some r ∧ op = v.mtrimOp r) ∨
      (i = .zoneUpdateDone c t ∧ s.started c t (· = .mzone) = some r ∧ op = v.mzoneOp r) →
      (∀ e, op = .error e → exec i s = .next ((v.fail r e).putNs s.ns) ∧
        ((v.fail r e).putNs s.ns).dram = s.dram ∧ ((v.fail r e).putNs s.ns).ingot = s.ingot) ∧
      (∀ u oc ws, op = .ok (u, oc, ws) → exec i s = .next (done u oc ws)))

/-- A committed placement grain looks up as its new location (R111, R112, R117, R186). An mcommit of one grain of a
configured namespace of KIND 1 whose key is no metadata key, in range, whose table word lies in visible memory and
whose lines hold no poison before or after the write, changes the map: the lookup of that grain answers the committed
word, and the lookup of every other grain whose table word lies in visible memory and is not poisoned afterwards
answers what it answered before. -/
def Obligations.CommitThenLookup : Prop :=
  ∀ (s u : State) (r : Req) (w : W64) (oc : Byte) (ws : List W64),
    let n := keyNs r.mapKey
    let g := s.keyGrain r.mapKey
    let a := (s.nsAt n).baseAddr
    (s.nsAt n).kind = 1 → keyMeta r.mapKey = false → s.commitThe r [w] = .ok (u, oc, ws) → r.mapCount = 1 → bit r.imm 1 = false →
    u.poisoned (.dram (a + 8 * g)) 8 = false →
    u.lookup n false g = .ok w ∧
    ∀ g', g' ≠ g → s.poisoned (.dram (a + 8 * g')) 8 = false → u.poisoned (.dram (a + 8 * g')) 8 = false →
      u.lookup n false g' = s.lookup n false g'

/-- Verbs enter the die queue, suspend, resume, time out and complete (R90, R123, R124, R125, R126, R298, R306, R307,
R308, R310, R315, R328). The best taken verb of a channel whose die queue has room enters that queue. DIE_POLL, on a
die whose queue starts nothing now: a program in its data input takes its frames when no read is ready for the bus; a
due poll that finds the die ready keeps the status byte and the conditions, makes its read ready, and turns a
suspending operation into a suspended one. A program or erase that a waiting read may interrupt, under its suspend
limit and past its run-time, takes the suspend command, or ends its data input; it is resumed when no read is left,
counting one suspend. A verb past its timer completes with 0x20. A lone request of a bank takes a decode slot. For a
started verb: a granted read completes with the outcome and words of its frames; a raw read's frame takes a soft
decode; an erase or program whose die is ready completes with 0x22 or 0x21 when its FAIL bit is set and otherwise with
0x00; status and feature verbs complete with their words, and a feature set stays with the die. -/
def Obligations.FlashVerbResults : Prop :=
  ∀ (s : State) (c : CoreId) (t : Ticket) (r q : Req) (o : DieOp) (ch die pl : Nat) (st : BitVec 8) (ns : W64) (p : BitVec 32) (fr : List FrameSense),
    (s.findReq c t = some r → s.nextEntry r.chanNo = some r →
      exec (.verbEnterDieQueue c t) s = .next (s.setReq { r with phase := .dieQueue })) ∧
    (s.chanPresent ch = true → s.dieFitted ch die = true → s.chReset ch = false → s.chHeld ch = false → s.dieChoice ch die = none →
      ((s.die ch die).op = none → s.pollFor ch die pl = some r → r.prim.isRead = true → bit st 6 = true →
        ∃ u : State, exec (.diePoll ch die ⟨pl, st⟩) s = .next u ∧ (u.acc r).ready = true ∧ (u.die ch die).status = st ∧
          (u.chan ch).ready = true ∧ (u.chan ch).failBit = bit st 0) ∧
      ((s.die ch die).op = some o → s.opReq o = some q → o.suspended = false → s.inputDone q = false → s.busRead ch = none →
        exec (.diePoll ch die ⟨pl, st⟩) s = .next (s.takeInputs q)) ∧
      ((s.die ch die).op = some o → s.opReq o = some q → o.suspended = false → s.inputDone q = true → s.pollFor ch die pl = some q →
        q.prim.isRead = false → bit st 6 = true →
        (o.suspending = true → ∃ u : State, exec (.diePoll ch die ⟨pl, st⟩) s = .next u ∧ (u.die ch die).status = st ∧
          (u.die ch die).op = some { o with suspended := true, suspending := false, served := 0 }) ∧
        (o.suspending = false → ∃ u : State, exec (.diePoll ch die ⟨pl, st⟩) s = .next u ∧ (u.die ch die).status = st ∧
          (u.die ch die).op = some o ∧ (u.acc q).ready = true)) ∧
      ((s.die ch die).op = some o → s.opReq o = some q → s.gap = false → o.suspended = false → o.suspending = false → (s.acc q).ready = false →
        (s.dieVerbs ch die).any (fun r => r.qualifies q) = true → o.suspends < o.limit → s.noSuspend q = false →
        (s.inputDone q = false → ∃ u : State, exec (.programEraseSuspend ch die) s = .next u ∧ (u.acc q).inputs = [] ∧
          (u.die ch die).op = some { o with suspended := true, served := 0 }) ∧
        (s.inputDone q = true → (s.trunPassed ch o.resumed).1 = true → ∃ u : State, exec (.programEraseSuspend ch die) s = .next u ∧
          (u.die ch die).op = some { o with suspending := true })) ∧
      ((s.die ch die).op = some o → s.opReq o = some q → o.suspended = true → s.dieReads ch die = [] →
        (s.dieVerbs ch die).filter (fun r => decide (r.phase = .dieQueue) && r.prim.isRead && s.mayStart r) = [] →
        ∃ u : State, exec (.resumeOperation ch die) s = .next u ∧
          (u.die ch die).op = some { o with suspended := false, suspends := o.suspends + 1, resumed := s.tick })) ∧
    ((s.dieVerbs ch die).find? (fun r => decide (r.phase = .started) && !(s.acc r).ready && !s.isSuspended r && s.inputDone r && s.timerDue r) = some r →
      ∃ u : State, exec (.dieTimeout ch die) s = .next (u.verbDone r 0x20 []) ∧ (u.chan ch).expired = true ∧ (u.chan ch).outcome = 0x20) ∧
    (∀ x y b, s.ldpc = [x] → x.chan / 8 = b → x.granted = false → s.gap = false → s.bankOn b = true → y = { x with granted := true } →
      exec (.ldpcSlotGrant b) s = .next (s.putLdpc [y])) ∧
    (s.findReq c t = some r → r.phase = .started →
      let ws := [st.setWidth 64, ns, w64 (s.suspendsOf r)]
      (∀ i, (i = .flashReadDone c t fr ∧ r.prim = .fread ∨ i = .rawReadDone c t fr ∧ r.prim = .fraw ∧
            (r.senseMode = 0 ∨ (s.acc r).soft.length = r.readFrames)) →
        (s.busRead r.chanNo).map (fun q => (q.core, q.ticket)) = some (r.core, r.ticket) → (s.acc r).frames + fr.length = r.readFrames →
        let x := ((s.bus (s.outputCycles r)).drift r.chanNo (locCe r.loc)).takeFrames r (s.acc r) fr
        exec i s = .next (x.2.verbDone r x.1.oc (x.2.readWords r x.1))) ∧
      (∀ ok d, r.prim = .fraw → (s.acc r).ready = true → (r.senseMode = 1 ∨ r.senseMode = 2) → (s.acc r).soft.length < r.readFrames →
        ∃ u : State, exec (.softDecode c t ok d) s = .next u ∧ (u.acc r).soft = (s.acc r).soft ++ [(ok, d.toNat)]) ∧
      (r.prim = .ferase → s.isSuspended r = false → (s.acc r).ready = true →
        (bit st 0 = true → exec (.flashEraseDone c t st ns) s = .next (((s.clearFails r).spoilOp r).verbDone r 0x22 ws)) ∧
        (bit st 0 = false → exec (.flashEraseDone c t st ns) s =
          .next (((maskPlanes r.planeMask).foldl (fun s pl => s.resetBlock (blkKey r.chanNo r.dieNo pl (locBlock r.loc)) true)
            (s.clearFails r)).verbDone r 0x00 ws))) ∧
      (r.prim = .fprog → s.isSuspended r = false → (s.acc r).ready = true →
        (bit st 0 = true → exec (.flashProgramDone c t st ns) s = .next (((s.clearFails r).spoilOp r).verbDone r 0x21 ws)) ∧
        (bit st 0 = false →
          let u := s.clearFails r
          exec (.flashProgramDone c t st ns) s =
            .next ((((u.progFramesTo r.progMode (u.progKeys r) (u.acc r).inputs).clearIntent r).markProgram r).verbDone r 0x00 ws))) ∧
      (r.prim = .fstat → exec (.dieStatusDone c t st) s = .next ((s.bus (busPoll r.chanNo r.loc)).verbDone r 0x00 [st.setWidth 64,
        w64 (s.dieStateCode r.chanNo r.dieNo), w64 (s.usedNow r.chanNo r.dieNo), w64 (s.queuedLevels r.chanNo r.dieNo)])) ∧
      (r.prim = .ffeat → (s.acc r).ready = true →
        (bit (r.op 1) 8 = false → exec (.featureDone c t p) s =
          .next (s.verbDone r 0x00 [((s.die r.chanNo r.dieNo).feature (fld (r.op 1) 0 8) p).setWidth 64])) ∧
        (bit (r.op 1) 8 = true → ∃ u : State, exec (.featureDone c t p) s =
          .next (u.verbDone r 0x00 [(BitVec.ofNat 32 (fld (r.op 2) 0 32)).setWidth 64]) ∧
          (u.die r.chanNo r.dieNo).feature (fld (r.op 1) 0 8) p = BitVec.ofNat 32 (fld (r.op 2) 0 32))))

/-- A director word acts, starts its sequencer operation and goes to the next word (R312, R313, R314, R315, R320, R321).
On a channel that runs, a director row whose word has even parity in both halves, zero reserved bits and its row's ACT
code, not begun, leaves the state of its action (every code 0 to 12; a timer of ARG 0, 1 or 2, the counter from a
value above 0), then of its SEQOP and of its next-address rule, unless the action held the channel. A word with no
sequencer operation and the plain next-address mode leaves the action's state with the director at the word's next
address, where that lies in the control store. A word of wrong parity is machine check 1, one with an unused ACT code
machine check 4. -/
def Obligations.DirectorResults : Prop :=
  ∀ (s : State) (ch : Nat) (w : W64), ∀ r ∈ dirRows s ch w,
    let x := s.dirWord ch w
    (s.dirReady ch w r.act → r.after.chRuns ch = true →
      (∀ u, u = r.after.seqOp ch x → exec r.ins s = .next ((u.setChan ch { u.chan ch with began := true }).dirNext ch x)) ∧
      (fld x 40 2 = 0 → fld x 13 2 = 0 → fld x 0 13 ≤ 0x10FF → fld x 0 13 < 0x1000 + r.after.dirPatchWords ch →
        exec r.ins s = .next (r.after.setChan ch { r.after.chan ch with pc := fld x 0 13, began := false }))) ∧
    (s.chRuns ch = true → (evenParity x 0 = false ∨ evenParity x 32 = false) → exec r.ins s = .next (s.machineCheck ch 1)) ∧
    (s.chRuns ch = true → evenParity x 0 = true → evenParity x 32 = true → 12 < fld x 42 4 → exec r.ins s = .next (s.machineCheck ch 4))

/-- A sequencer word makes its cycle and goes to the next word or ends (R316, R317, R318, R319, R321). On a channel whose
sequencer runs, a row whose word has even parity, zero reserved bits and its row's operation leaves the state of the
operation and goes to the next address (ARG for a call or jump, the address on the stack for a return), or, with END,
stops the sequencer, gives the bus back and reports it done, unless the operation held the channel. A call with four
addresses on the stack and a return with none are machine check 3, a target outside the control store or beyond the
patch words machine check 4, a jump word of odd parity machine check 2. -/
def Obligations.SequencerResults : Prop :=
  ∀ (s : State) (ch : Nat) (w : BitVec 32) (fr : FrameSense) (st : BitVec 8),
    let v := s.setChan ch { s.chan ch with xfer := false }
    (∀ r ∈ seqRows s ch w fr st, s.seqReady ch w r.op → r.after.chRuns ch = true → ∀ u, u = r.after →
      (bit (s.seqWord ch w) 20 = true →
        exec r.ins s = .next (u.setChan ch { u.chan ch with seqRun := false, seqDone := true, busGrant := false })) ∧
      (bit (s.seqWord ch w) 20 = false → r.next ≤ 0x47F → r.next < 0x400 + u.seqPatchWords ch →
        exec r.ins s = .next (u.setChan ch { u.chan ch with seqPc := r.next })) ∧
      (bit (s.seqWord ch w) 20 = false → (0x47F < r.next ∨ 0x400 + u.seqPatchWords ch ≤ r.next) →
        exec r.ins s = .next (u.seqCheck ch 4))) ∧
    (s.chRuns ch = true → (s.chan ch).seqRun = true → evenParity (s.seqWord ch w) 0 = false →
      exec (.seqJump ch w) s = .next (s.seqCheck ch 2)) ∧
    (s.seqReady ch w 6 → 4 ≤ (s.chan ch).seqStack.length → exec (.seqCall ch w) s = .next (v.seqCheck ch 3)) ∧
    (s.seqReady ch w 7 → (s.chan ch).seqStack = [] → exec (.seqReturn ch w) s = .next (v.seqCheck ch 3))

/-- A machine check stops its channel, clears it and completes its verbs (R129, R184, R321, R322, R323, R541). On a
present channel that runs, is not in its local reset and holds no verbs, a machine check of cause 1 to 5 keeps the
tick, clears the channel's registers, stack and current verb, stops its sequencer and counts the check with its tick.
Fewer than nine within 65,536 ticks set LRST and its summary bit and report the cause; the ninth holds the channel.
Another cause changes nothing. LOCAL_RESET_DONE with a good copy of the patch clears LRST and lets the channel run;
with a bad one it holds the channel. The watchdog acts only while the channel holds verbs, as cause 5. -/
def Obligations.MachineCheckEffects : Prop :=
  ∀ (s : State) (ch : Nat) (cause : BitVec 4), ch < 32 → s.chRuns ch = true → s.chReset ch = false →
    (∃ t : State, exec (.channelMachineCheck ch cause) s = .next t ∧ t.tick = s.tick ∧
      ((cause = 0 ∨ 5 < cause.toNat) → t = s) ∧
      (1 ≤ cause.toNat → cause.toNat ≤ 5 → s.chanVerbs ch = [] →
        (t.chan ch).cur = none ∧ (t.chan ch).seqStack = [] ∧ (t.chan ch).seqRun = false ∧
        (((s.chan ch).checks.filter (fun x => s.tick.toNat - x.toNat < 65536)).length < 8 →
          bit (t.reg (chReg ch 8)) 0 = true ∧ fld (t.reg (chReg ch 8)) 1 4 = cause.toNat ∧ bit (t.reg (sta 6 8)) ch = true ∧
          (t.chan ch).checks = (s.chan ch).checks.filter (fun x => s.tick.toNat - x.toNat < 65536) ++ [s.tick] ∧ t.chReset ch = true) ∧
        (8 ≤ ((s.chan ch).checks.filter (fun x => s.tick.toNat - x.toNat < 65536)).length → t.chHeld ch = true ∧ t.chRuns ch = false))) ∧
    (s.chanVerbs ch = [] → exec (.channelWatchdog ch) s = .next s) ∧
    (s.chanVerbs ch ≠ [] → exec (.channelWatchdog ch) s = .next (s.machineCheck ch 5)) ∧
    (∀ t : State, t.chanPresent ch = true → t.chReset ch = true → t.chHeld ch = false →
      (t.patchRecOk ch = true → ∃ v : State, exec (.localResetDone ch) t = .next v ∧ v.chReset ch = false ∧ v.chRuns ch = true) ∧
      (t.patchRecOk ch = false → ∃ v : State, exec (.localResetDone ch) t = .next v ∧ v.chHeld ch = true))

/-- Transfers, copies and fills land their bytes and complete (R131, R132, R195, R445). A started inbound transfer whose
bytes all arrive stands in device memory and completes with 0x00, its completion event kept with the command; one that
fails completes with 0xF2, one whose command has settled with 0x03 and one whose function is in reset with 0x05. An
outbound transfer that succeeds sends the bytes it reads and completes, or with IMM[0] = 1 and the gate open makes a
completion claim for its live command and holds its own event; one that fails completes with 0xF2, one whose command
has settled or is in reset with the outcome for that, and poisoned bytes are sent with 0xF1 and no claim. An unframed
copy of readable bytes writes them at the destination and completes with 0x00, or with 0xF1 for poisoned ones; a fill
writes its word over and over. -/
def Obligations.MoverResults : Prop :=
  ∀ (s : State) (c : CoreId) (t : Ticket) (r : Req) (d : Cmd) (data : List Byte),
    (s.started c t (· = .dmin) = some r → data.length ≤ r.xferLen →
      (∀ oc b, s.xferCut r = some oc → exec (.dataMoverInDone c t b data) s = .next ((s.land (r.op 1) data).fail r oc)) ∧
      (s.xferCut r = none → exec (.dataMoverInDone c t false data) s = .next ((s.land (r.op 1) data).fail r 0xF2)) ∧
      (s.xferCut r = none → data.length = r.xferLen → s.cmdOf (r.op 0) = some d → exec (.dataMoverInDone c t true data) s =
        .next (((s.land (r.op 1) data).setCmd { d with dminEvent := some (r.event 0x00) }).fail r 0x00))) ∧
    (s.started c t (· = .dmout) = some r →
      (∀ oc b, s.xferCut r = some oc → exec (.dataMoverOutDone c t b) s = .next (s.fail r oc)) ∧
      (s.xferCut r = none → exec (.dataMoverOutDone c t false) s = .next (s.fail r 0xF2)) ∧
      (∀ l, s.xferCut r = none → s.moverLoc (r.op 1) r.xferLen = some l → ((s.touch (l, r.xferLen)).findReq r.core r.ticket).isSome = true →
        let u := s.touch (l, r.xferLen)
        let v := u.sendHost r (u.readLoc l r.xferLen);
        let dw0 := BitVec.ofNat 32 (fld (r.op 3) 0 32);
        let dw1 := BitVec.ofNat 32 (fld (r.op 3) 32 32);
        let st := BitVec.ofNat 15 (fld (r.op 4) 0 15);
        (u.poisoned l r.xferLen = true → (bit r.imm 0 = false ∨ s.gateShut = false) → exec (.dataMoverOutDone c t true) s = .next (v.fail r 0xF1)) ∧
        (u.poisoned l r.xferLen = false → bit r.imm 0 = false → exec (.dataMoverOutDone c t true) s = .next (v.fail r 0x00)) ∧
        (u.poisoned l r.xferLen = false → bit r.imm 0 = true → s.gateShut = false → v.cmdOf (r.op 0) = some d → d.settle = .live →
          v.inReset d = false → exec (.dataMoverOutDone c t true) s =
          .next (((v.settleCount d).setReq { r with phase := .held }).setCmd { d with settle := .claimed dw0 dw1 st 0 0 r.core r.ticket })))) ∧
    (∀ src dst, s.started c t (· = .dmcopy) = some r → bit r.imm 0 = false → s.moverLoc (r.op 0) r.copyLen = some src →
      s.moverLoc (r.op 1) r.copyLen = some dst → ((s.touch (src, r.copyLen)).findReq r.core r.ticket).isSome = true →
      exec (.copyDone c t) s = .next ((((s.touch (src, r.copyLen)).copyBytes src dst r.copyLen).2).fail r
        (if ((s.touch (src, r.copyLen)).copyBytes src dst r.copyLen).1 then 0xF1 else 0x00))) ∧
    (∀ l, s.started c t (· = .dmfill) = some r → s.moverLoc (r.op 0) (r.op 1).toNat = some l → exec (.fillDone c t) s =
      .next ((s.writeLoc l ((List.replicate ((r.op 1).toNat / 8) (toBytes 8 (r.op 2).toNat)).flatten)).fail r 0x00))

/-- A filled range of device memory reads as its word, and nothing else there changes (R61, R76, R132, R445). A fill of n
bytes, n a multiple of 8, at device memory address a within the visible memory leaves every byte a + i of it reading
byte i mod 8 of its word, and every byte of device memory outside it as before. -/
def Obligations.FillThenRead : Prop :=
  ∀ (s : State) (c : CoreId) (t : Ticket) (r : Req), s.started c t (· = .dmfill) = some r → fld (r.op 0) 60 4 = 1 →
    let a := fld (r.op 0) 0 39
    let n := (r.op 1).toNat
    n % 8 = 0 → a + n ≤ s.dramSize → r.recCluster = false → r.bufs = [] →
    ∃ u : State, exec (.fillDone c t) s = .next u ∧
      (∀ i < n, FMap.get zeroByte u.dram (a + i) = BitVec.ofNat 8 ((r.op 2).toNat / 256 ^ (i % 8))) ∧
      (∀ i, i < a ∨ a + n ≤ i → FMap.get zeroByte u.dram i = FMap.get zeroByte s.dram i)

/-- The cipher, the vault and the parity engine complete their requests (R133, R134, R135, R136, R445, R494, R495, R498,
R500, R541). XTS of an empty slot completes with 0x40, of a MAC slot with 0x41; of an XTS slot, with random blocks to
be had, source and destination in memory and no frame destination, it writes the ciphered grains and completes with
0x00 (0xF1 for poisoned input). CMAC of clean bytes returns the tag, compared with the expected one when IMM[0] = 1
(0x42 when they differ). A vault operation answers the slot's status; clears the slot; fills an empty slot with random
bytes; imports the key that unwraps under the session's; or binds an XTS slot to a namespace no other slot holds, each
with 0x00, and else with the outcome named: a locked device or empty slot 0x40, a MAC slot 0x41, no session 0x44, a
key that does not unwrap 0x43, a slot or namespace taken 0x1F. pxor and pmac of clean bytes add the product to the
destination; pcheck of clean bytes completes with 0x00, or with 0x31 and the first difference. An arec request whose
mark is durable completes with its record's number. A fourth TRNG failure within a second stops reseeding and leaves
2^24 blocks. -/
def Obligations.CipherParityResults : Prop :=
  ∀ (s : State) (c : CoreId) (t : Ticket) (r : Req),
    (s.started c t (· = .xts) = some r →
      (s.vslot (fld (r.op 2) 0 13) = none → exec (.xtsDone c t) s = .next (s.fail r 0x40)) ∧
      (∀ v, s.vslot (fld (r.op 2) 0 13) = some v → v.kind ≠ 0 → exec (.xtsDone c t) s = .next (s.fail r 0x41)) ∧
      (∀ v src dst, s.vslot (fld (r.op 2) 0 13) = some v → v.kind = 0 → (s.drbg (256 * r.xtsGrains)).1 = true →
        let u := (s.drbg (256 * r.xtsGrains)).2;
        u.moverLoc (r.op 0) (4096 * r.xtsGrains) = some src → fld (r.op 1) 60 4 ≠ 2 → u.moverLoc (r.op 1) (4096 * r.xtsGrains) = some dst →
        let x := u.touch (src, 4096 * r.xtsGrains);
        (x.findReq r.core r.ticket).isSome = true → exec (.xtsDone c t) s = .next (((x.writeLoc dst
          (xtsGrainsOut (bit (r.op 2) 13) v.key (r.op 3) (x.readLoc src (4096 * r.xtsGrains)) r.xtsGrains).flatten).carryPoison
            (u.poisonIn src (4096 * r.xtsGrains)) src dst).fail r (if (u.poisonIn src (4096 * r.xtsGrains)).isEmpty then 0x00 else 0xF1)))) ∧
    (∀ v src, s.started c t (· = .cmac) = some r → s.vslot (fld (r.op 2) 0 13) = some v → v.kind = 1 →
      let n := fld (r.op 1) 0 32
      let u := (s.drbg ((n + 15) / 16)).2;
      (s.drbg ((n + 15) / 16)).1 = true → u.moverLoc (r.op 0) n = some src →
      let x := u.touch (src, n);
      (x.findReq r.core r.ticket).isSome = true → x.poisoned src n = false →
      (bit r.imm 0 = false → exec (.cmacDone c t) s = .next (x.complete r 0x00 (words64 2 (cmac v.key (x.readLoc src n))))) ∧
      (∀ e, bit r.imm 0 = true → x.moverLoc (r.op 3) 16 = some e →
        let y := x.touch (e, 16);
        (y.findReq r.core r.ticket).isSome = true → y.poisoned e 16 = false → exec (.cmacDone c t) s = .next (y.complete r
          (if y.readLoc e 16 = cmac v.key (x.readLoc src n) then 0x00 else 0x42) (words64 2 (cmac v.key (x.readLoc src n)))))) ∧
    (s.started c t (· = .vslot) = some r →
      let n := fld (r.op 1) 0 13
      (fld r.imm 0 4 = 0 → exec (.vaultOperationDone c t) s = .next (s.complete r 0x00 [s.slotStatus n])) ∧
      (fld r.imm 0 4 = 1 → exec (.vaultOperationDone c t) s = .next ((s.clearSlot n).fail r 0x00)) ∧
      (fld r.imm 0 4 = 2 ∨ fld r.imm 0 4 = 3 →
        (s.dbgLock = true → exec (.vaultOperationDone c t) s = .next (s.fail r 0x40)) ∧
        (s.dbgLock = false → (s.vslot n).isSome = true → exec (.vaultOperationDone c t) s = .next (s.fail r 0x1F))) ∧
      (fld r.imm 0 4 = 2 → s.dbgLock = false → s.vslot n = none → bit (s.reg vaultStat) 2 = false →
        let x := s.trngBytes (if (r.op 2).toNat = 0 then 8 else 4)
        exec (.vaultOperationDone c t) s = .next
          ((x.2.loadSlot n { kind := (r.op 2).toNat, key := x.1, origin := 0, bound := 0, holder := [] }).fail r 0x00)) ∧
      (fld r.imm 0 4 = 3 → s.dbgLock = false → s.vslot n = none →
        (s.sessionKey (fld (r.op 4) 0 32) (r.op 3).toNat = none → exec (.vaultOperationDone c t) s = .next (s.fail r 0x44)) ∧
        (∀ x kek l, s.sessionKey (fld (r.op 4) 0 32) (r.op 3).toNat = some (x, kek) → s.moverLoc (r.op 2) 72 = some l →
          ((s.touch (l, 72)).findReq r.core r.ticket).isSome = true →
          let u := s.touch (l, 72)
          (importKey kek (u.readLoc l 72) = none → exec (.vaultOperationDone c t) s = .next (u.fail r 0x43)) ∧
          (∀ kind key, importKey kek (u.readLoc l 72) = some (kind, key) → exec (.vaultOperationDone c t) s = .next
            ((u.loadSlot n { kind := kind, key := key, origin := 1, bound := 0, holder := (toBytes 48 x.leaf.toNat).take 32 }).fail r 0x00)))) ∧
      (fld r.imm 0 4 = 4 →
        let ns := fld (r.op 2) 0 16
        (s.vslot n = none → exec (.vaultOperationDone c t) s = .next (s.fail r 0x40)) ∧
        (∀ v, s.vslot n = some v →
          (ns = 0 → exec (.vaultOperationDone c t) s = .next ((s.bindSlot n 0).fail r 0x00)) ∧
          (ns ≠ 0 → v.kind ≠ 0 → exec (.vaultOperationDone c t) s = .next (s.fail r 0x41)) ∧
          (∀ m, ns ≠ 0 → v.kind = 0 → s.slotOfNs ns = some m → m ≠ n → exec (.vaultOperationDone c t) s = .next (s.fail r 0x1F)) ∧
          (ns ≠ 0 → v.kind = 0 → (s.slotOfNs ns = none ∨ s.slotOfNs ns = some n) →
            exec (.vaultOperationDone c t) s = .next ((s.bindSlot n ns).fail r 0x00))))) ∧
    (∀ x y, s.moverLoc (r.op 0) r.parLen = some x → s.moverLoc (r.op 1) r.parLen = some y →
      let u := (s.touch (x, r.parLen)).touch (y, r.parLen);
      (u.findReq r.core r.ticket).isSome = true → u.poisonIn x r.parLen = [] → u.poisonIn y r.parLen = [] →
      (s.started c t (fun p => p = .pxor ∨ p = .pmac) = some r → bit r.imm 0 = false →
        ∃ v : State, exec (.parityDone c t) s = .next (v.fail r 0x00) ∧ v.readLoc x r.parLen = (u.writeLoc x
          (List.zipWith (fun a b => a ^^^ parMul (if r.prim = .pmac then fld (r.op 3) 0 8 else 1) b)
            (u.readLoc x r.parLen) (u.readLoc y r.parLen))).readLoc x r.parLen) ∧
      (s.started c t (· = .pcheck) = some r → u.poisoned x r.parLen = false → u.poisoned y r.parLen = false →
        (∀ o, firstDiff (u.readLoc x r.parLen) (u.readLoc y r.parLen) = some o →
          exec (.parityCheckDone c t) s = .next (u.complete r 0x31 [w64 o])) ∧
        (firstDiff (u.readLoc x r.parLen) (u.readLoc y r.parLen) = none → exec (.parityCheckDone c t) s = .next (u.fail r 0x00)))) ∧
    (∀ n, s.started c t (· = .arec) = some r → s.alm.done = [(c, t, n)] →
      exec (.almanacRecordDone c t) s = .next (((s.putAlm { s.alm with done := [] }) : State).complete r 0x00 [w64 n])) ∧
    (let recent := s.trngRestarts.filter (fun x => s.tick.toNat - x.toNat < s.secondTicks);
      (recent.length < 3 → ∃ u : State, exec .trngHealthFail s = .next u ∧ u.trngRestarts = recent ++ [s.tick] ∧ u.drbgLeft = none) ∧
      (3 ≤ recent.length → s.drbgLeft = none → ∃ u : State, exec .trngHealthFail s = .next u ∧ u.drbgLeft = some (2 ^ 24)))

/-- Links train, retrain, fail and are tried again; a good flit is taken and a bad one counted (R139, R365, R367, R369,
R371, R372, R374, R375, R378, R394, R396). At a present port: SPAN_TRAINING that fails leaves a link that was
retraining down and any other in state 5, and a manager with no port left a confirmed one without members; one that
succeeds at a device that is no worker, outside PS3, with a far port of the same number where a manager initiates,
leaves the link up with the negotiated width and speed and the far side's serial number. LINK_RETRAINING puts an up
link into state 4, LINK_DOWN an up or retraining link into state 5, LINK_RETRY a down link into state 2. A bad flit
counts a CRC failure and its NAK; a good data flit next in sequence advances the receive sequence. HORIZON sends the
report when a confirmed member's period ends. -/
def Obligations.SpanLinkResults : Prop :=
  ∀ (s : State) (p : Nat) (r : TrainResult) (f : Flit), s.spanPresent p = true →
    (s.domeOn (2 + p) = true → s.role ≠ 0 → (s.linkState p = 1 ∨ s.linkState p = 2 ∨ s.linkState p = 4 ∨ s.linkState p = 5) →
      (r.up = false → exec (.spanTraining p r) s = .next (if s.linkState p = 4 then s.linkDown p 5 else s.setLink p 5).confirmAlone) ∧
      (r.up = true → s.isWorker = false → s.power ≠ 3 → (s.isManager = true → r.initiator = true → r.farPort = p) →
        ∃ t : State, exec (.spanTraining p r) s = .next t ∧ t.linkState p = 3 ∧ fld (t.reg (spReg p 0)) 3 2 = r.width.toNat ∧
          fld (t.reg (spReg p 0)) 5 2 = r.speed.toNat ∧ t.reg (spReg p 8) = r.serial ∧
          fld (t.reg (spReg p 0)) 8 8 = fld (s.reg (spReg p 0)) 8 8)) ∧
    (s.linkState p = 3 → exec (.linkRetraining p) s = .next (s.setLink p 4)) ∧
    (s.linkState p = 3 ∨ s.linkState p = 4 → exec (.linkDown p) s = .next (s.linkDown p 5)) ∧
    (s.linkState p = 5 → exec (.linkRetry p) s = .next (s.setLink p 2)) ∧
    (s.linkState p = 3 → f.good = false → ∃ t : State, exec (.flitReceipt p f) s = .next t ∧
      fld (t.reg (spReg p 0x10)) 0 32 = min (fld (s.reg (spReg p 0x10)) 0 32 + 1) (2 ^ 32 - 1) ∧ s.tick ∈ (t.sport p).naks) ∧
    (s.linkState p = 3 → f.good = true → f.kind = 1 → f.vc.toNat < 3 → f.seq.toNat = ((s.sport p).rxSeq + 1) % 4096 →
      ∃ t : State, exec (.flitReceipt p f) s = .next t ∧ (t.sport p).rxSeq = f.seq.toNat) ∧
    (bit (s.reg (sta 0xD 0)) 1 = true → bit (s.reg idRole) 5 = true → s.role ≠ 0 →
      s.tick.toNat % max 1 (s.rfld (sta 0xD 0x10) 0 9) = 0 → exec .horizon s = .next (s.horizonReport s.preserve))

/-- Span messages are answered, delivered, stored and end their requests (R137, R138, R378, R384, R386, R388, R390, R391,
R392, R393, R394, R396). A message for this device on an up link is taken and its flits' credits returned: a request
while arrivals are disabled is answered 0x5F and one of a type without an arrival entry 0x5A; the first unframed
request of a source at its generation, with buffers to be had, becomes an arrival; a PING on a negotiated pair is
echoed; IDENT answers this device's serial number, role, enclosure and size; ROUTE exchanges the named routes; ASSIGN
gives a worker its identifier, chain and place; RESTART, while the resident set has none of its own out, ends requests
to the restarted member with 0x54 and status 0x5C; a report is stored in its slot by a manager; LOST at a manager that
knows no member forgets that its peer stands beyond the link. An unframed group-read response without data ends the
one request that waits for it, with 0x00 or 0x54 and its status and header words. A program's request past SPAN_TMO
ends with 0x52. -/
def Obligations.SpanMessageResults : Prop :=
  ∀ (s : State) (p : Nat) (m : SpanMsg), s.Delivered p m →
    (m.resp = false → 0x10 ≤ m.typ.toNat →
      (bit (s.reg (sta 0xD 0)) 0 = false → exec (.spanArrival p m) s = .next ((s.portAnswer p m 0x5F).creditBack p m)) ∧
      (bit (s.reg (sta 0xD 0)) 0 = true → bit (s.reg (sta 0xD (0x2000 + 8 * m.typ.toNat))) 14 = false →
        exec (.spanArrival p m) s = .next ((s.portAnswer p m 0x5A).creditBack p m)) ∧
      (bit (s.reg (sta 0xD 0)) 0 = true → bit (s.reg (sta 0xD (0x2000 + 8 * m.typ.toNat))) 14 = true →
        m.gen.toNat = FMap.get (fun _ => 0) s.dupGen m.src.toNat → (s.dups.filter (fun d => d.src = m.src.toNat)) = [] →
        bit m.flags 1 = false → ∀ u, s.spanNew p m = some u → exec (.spanArrival p m) s = .next (u.creditBack p m))) ∧
    (m.resp = false → m.typ = 5 → s.pairVer m.src.toNat ≠ 0 →
      exec (.ping p m) s = .next ((s.sendBack p (s.respTo m 0 [m.hw0] [])).creditBack p m)) ∧
    (m.resp = false → m.typ = 1 → ∃ w : W64, fld w 0 2 = s.role % 4 ∧ fld w 16 16 = 0x0100 ∧ fld w 32 16 = 0x0103 ∧ 
      exec (.ident p m) s = .next ((s.sendBack p
        (s.respTo m 0 [s.reg (sta 0x17 0x20), w, s.enclosure, w64 (s.diesFitted % 65536 + s.rawGib * 2 ^ 32)] [])).creditBack p m)) ∧
    (m.resp = false → m.typ = 3 →
      exec (.route p m) s = .next (((s.exchangeMap m.hw0 m.hw1).sendBack p (s.respTo m 0 [] [])).creditBack p m)) ∧
    (m.resp = false → m.typ = 2 → s.isWorker = true → s.enclosure = 0 → s.enclMember = none →
      ∃ t : State, exec (.assign p m) s = .next t ∧ t.chain = fld m.hw1 8 2 ∧ t.position = fld m.hw1 10 5 ∧
        t.ownMember = fld m.hw1 0 8 ∧ t.enclosure = m.hw0) ∧
    (m.posted = true → m.typ = 7 → s.resOut = [] → exec (.restart p m) s =
      .next (((s.spanOut.filter (fun x => x.dst = m.src.toNat)).foldl (fun s x => s.endTx x 0x54 [0x5C]) s).creditBack p m)) ∧
    (m.posted = true → m.typ = 4 → m.src.toNat ≤ 0x41 → s.isManager = true → m.payload = [] →
      let a := s.rfld (sta 0xD 0x38) 13 26 * 8192 + 8192 * m.src.toNat
      ∃ t : State, exec (.horizonSlotWrite p m) s = .next t ∧ rdW t.dram a = m.hw0 ∧ rdW t.dram (a + 8) = m.hw1 ∧
        rdW t.dram (a + 16) = m.hw2 ∧ rdW t.dram (a + 24) = s.tick) ∧
    (m.posted = true → m.typ = 6 → s.isManager = true → (∀ x ∈ s.members, x.2 = none) →
      ∃ t : State, exec (.lost p m) s = .next t ∧ FMap.get (fun _ => 0) t.peerVia (s.chainOf m.src.toNat (fld m.hw0 8 8) (fld m.hw0 0 2)) = 0) ∧
    (∀ x r, m.resp = true → m.posted = false → m.typ = 0x11 → m.payload = [] → s.spanOut = [x] → x.num = m.reqNo → x.gen = m.gen →
      x.dst = m.src.toNat → s.txReq x = some r → r.spTyp = 0x11 → r.spFlags / 4 % 2 = 0 →
      exec (.spanResponseArrival p m) s = .next ((s.endTx x (if m.status.toNat = 0 then 0x00 else 0x54)
        [w64 m.status.toNat, w64 0, m.hw0, m.hw1, m.hw2, m.hw3]).creditBack p m)) ∧
    (∀ x c t, s.spanOut.find? (fun x => decide (x.core = c) && decide (x.ticket = t)) = some x →
      x.start.toNat + s.rfld (sta 0xD 8) 0 20 ≤ s.tick.toNat → exec (.spanRequestTimeout c t) s = .next (s.endTx x 0x52 []))

/-- Enumeration records the chain's members and a lost member is marked and its requests end (R376, R380, R381, R382,
R393, R394, R395, R427). CHAIN_ENUMERATION by a manager on an up link on which the first hop was asked and no member
answers settles the manager's side, forgets a peer on that chain, writes the managers' routes and settles its own half
of the journal. MEMBER_LOST of a known worker, not yet lost, while no request and no volume stands, marks its route
lost and sets its entry to state 4 when it has no route, or when it has been silent for four report periods and a PING
has stood unanswered for 64 µs; silent and not yet asked, it is asked by a PING on every valid route. -/
def Obligations.MemberChanges : Prop :=
  ∀ (s : State) (p : Nat), s.isManager = true → s.up →
    (s.spanPresent p = true → s.linkUp p = true → (s.sport p).asked = 1 →
      let u := (s.setSport p { s.sport p with asked := 0 }).confirmManager none []
      exec (.chainEnumeration p []) s = .next ((u.putPeerVia (FMap.erase u.peerVia p)) : State).managerRoutes.settleOwn) ∧
    (∀ (m : BitVec 8) (x : Member), s.member m.toNat = some x → m.toNat ≤ 0x41 → m.toNat ≠ s.ownMember → s.memberLost m.toNat = false →
      let silent := x.seen.toNat + 4 * s.rfld (sta 0xD 0x10) 0 9 ≤ s.tick.toNat
      (∀ q, (s.routePort m.toNat = none ∨
          silent ∧ s.pings.find? (fun y => y.1 = m.toNat) = some (m.toNat, q) ∧ q.toNat + s.usTicks 64 ≤ s.tick.toNat) →
        m.toNat ≠ s.peerId → s.spanOut = [] → s.resOut = [] → s.volumes = [] →
        ∃ t : State, exec (.memberLost m) s = .next t ∧ t.memberLost m.toNat = true ∧ t.member m.toNat = some { x with state := 4 }) ∧
      ((s.routePort m.toNat).isSome = true → silent → s.pings.find? (fun y => y.1 = m.toNat) = none →
        exec (.memberLost m) s = .next ((s.validPorts m.toNat).foldl (fun (s : State) r => s.sendMsg r (s.mkMsg m.toNat 5 [s.tick] []))
          (s.putPings (s.pings ++ [(m.toNat, s.tick)])))))

/-- Dome entries time out and complete, wakes end and sources wake domes (R512, R514, R515, R516, R517, R518, R524).
QUIESCE_TIMEOUT aborts an entry not committed four ticks after its quiesce, on the account of the lowest client that
has not answered. DOME_ENTRY_DONE of a committed entry without a waiting vote or wake leaves the dome in its target
state with the entry gone. DOME_WAKE_DONE leaves the dome on and its wake gone, when no vote waits for it. WAKE_SOURCE
of a source that may assert, reported with its own sensitivity, acts on the domes in rising order: where one dome
alone from 6 on enables it, is off or in retention and no entry of it stands, a level source starts the wake of that
dome. A report of the other sensitivity, or of a timer or temperature source below its level, changes nothing. -/
def Obligations.DomeResults : Prop :=
  ∀ (s : State) (d : Nat),
    (∀ e cl cs, s.entryOf d = some e → e.committed = false → e.start.toNat + 4 ≤ s.tick.toNat → e.waiting = cl :: cs →
      exec (.quiesceTimeout d) s = .next (s.abortEntry d e cl 0)) ∧
    (∀ e, d < 24 → s.entryOf d = some e → e.committed = true → s.findReq e.core e.ticket = none → e.wake = false → e.target < 4 →
      ∃ t : State, exec (.domeEntryDone d) s = .next t ∧ t.entryOf d = none ∧ fld (t.reg (sta 0xE (8 * d))) 0 2 = e.target ∧
        FMap.get (fun _ => []) t.domeAgreed d = e.agreed) ∧
    (d < 24 → FMap.get (fun _ => (none : Option (List (CoreId × Ticket)))) s.domeWake d = some [] →
      FMap.get (fun _ => []) s.domeAgreed d = [] →
      ∃ t : State, exec (.domeWakeDone d) s = .next t ∧ fld (t.reg (sta 0xE (8 * d))) 0 3 = 0 ∧
        FMap.get (fun _ => (none : Option (List (CoreId × Ticket)))) t.domeWake d = none) ∧
    (∀ src edge phase,
      (isWakeSource src = true → s.sourceOn src = true → s.edgeSource src = edge →
        exec (.wakeSource src edge phase) s = .next ((List.range 29).foldl (fun u x => u.wakeDome src x phase) s) ∧
        (edge = false → 6 ≤ d → d < 29 → (∀ x < 29, bit (s.reg (sta 0xE (0x400 + 8 * x))) src = decide (x = d)) → s.entryOf d = none →
          s.domeState d ≠ 0 → s.domeBusy d = false → exec (.wakeSource src edge phase) s = .next (s.startWake d []))) ∧
      (s.sourceOn src = false → exec (.wakeSource src edge phase) s = .next s) ∧
      (s.edgeSource src ≠ edge → exec (.wakeSource src edge phase) s = .next s))

/-- Sensors, gaps, package temperatures and the orderly stop (R528, R529, R530, R531, R532, R533, R534). SENSOR_SAMPLE of
24 readings whose highest in range is t shows it in THERM_STAT, posts the crossing of the warning temperature and of 2
°C below it, and lets the temperature source wake its domes; at the trip temperature a first such sample arms the trip
and a second in a row trips. COOLING_GAP_UPDATE sets the cooling gap to its floor and keeps the programming gap.
RISE_PREDICTION keeps the last eight temperatures and stops the device in order when they or the packages call for it.
FLASH_PACKAGE_POLL takes the readings, sets the programming gap and stops in order at the package limit.
ORDERLY_STOP_RESUME a second after cool readings began ends the stop. -/
def Obligations.ThermalResults : Prop :=
  ∀ (s : State),
    (∀ (ts : List (BitVec 16)) (t : Int), ts.length = 24 → maxTemp ts = some t →
      let u := ((s.sampleAll 0 ts).setRfld thermStat 0 16 (tempField t)).noteDie t
      let v := if s.dieMax < u.warn ∧ u.warn ≤ t then u.thermEvent 0 else u
      let w := if v.warn - 32 ≤ s.dieMax ∧ t < v.warn - 32 then v.thermEvent 1 else v
      let x := w.levelSource 8
      exec (.sensorSample ts) s = .next (if x.tripAt ≤ t then
        (if 1 ≤ x.tripCount then x.thermalTrip.putTripCount 0 else x.putTripCount 1) else x.putTripCount 0)) ∧
    exec .coolingGapUpdate s = .next (s.setGap (s.rfld thermGap 0 4) s.gapFloor) ∧
    (let xs := (s.rise ++ [s.dieMax]).drop ((s.rise ++ [s.dieMax]).length - 8);
      exec .risePrediction s = .next ((if riseStop xs || (s.hasPkg && decide (s.tflStop ≤ s.pkgMax)) then
        ((s.putRise xs) : State).orderlyStop else (s.putRise xs)).stopDomes.followCool)) ∧
    (let u := s.notePkg;
      let x := u.gprogFor.2.setGap u.gprogFor.1 (u.gprogFor.2.rfld thermGap 4 4);
      exec (.flashPackagePoll []) s = .next ((if x.hasPkg ∧ x.tflStop ≤ x.pkgMax then x.orderlyStop else x).followCool)) ∧
    (∀ t : W64, s.coolSince = some t → s.stopped = true → t.toNat + s.secondTicks ≤ s.tick.toNat →
      ∃ u : State, exec .orderlyStopResume s = .next u ∧ u.stopped = false ∧ u.coolSince = none ∧ u.rise = [] ∧
        bit (u.reg thermCfg) 12 = false)

/-- The almanac writes its oldest record, keeps its time, and the hourly and periodic copies are made (R246, R337, R360,
R477, R539, R540, R541, R543). ALMANAC_WRITE with the ingot store open and awake writes the oldest queued record:
while a slot is free one more record is held, and an asynchronous event follows only when that fills the log, in a
full log the record is dropped and counted and, unless an arec request waits for it, nothing is written.
OPERATING_TIME_UPDATE raises the operating time by one, in the ingot store too while that is open. HEALTH_COUNTER_COPY
writes the copy while the store is open. READ_LEVEL_CHECKPOINT writes its copy every 2^22 ticks. HEALTH_HISTORY_ENTRY
in a new operating hour appends one entry and keeps the last 720. -/
def Obligations.AlmanacResults : Prop :=
  ∀ (s : State),
    (∀ r q, s.alm.queue = r :: q → s.domeOn 28 = true → s.ingotOpen = true → s.alm.rdy = true → s.alm.woke = false →
      (almSlots ≤ s.alm.held → exec .almanacWrite s = .next (s.almDrop r q) ∧ (r.req = none → (s.almDrop r q).alm.queue = q ∧
        (s.almDrop r q).alm.lost = satAdd 32 s.alm.lost 1 ∧ (s.almDrop r q).ingot = s.ingot)) ∧
      (s.alm.held < almSlots → exec .almanacWrite s = .next (s.almStore r q).almFull ∧ (s.alm.held + 1 < almSlots →
        (s.almStore r q).almFull = s.almStore r q) ∧ (s.almStore r q).alm.held = s.alm.held + 1 ∧
        (s.almStore r q).alm.queue = q)) ∧
    (s.alm.rdy = true → ∃ t : State, exec .operatingTimeUpdate s = .next t ∧ t.alm.optime = (s.alm.optime + 1) % 2 ^ 48 ∧
      t.alm.queue = s.alm.queue ∧ (s.ingotOpen = true → s.domeOn 28 = true → rdNum t.ingot optimeOff 8 = (s.alm.optime + 1) % 2 ^ 48)) ∧
    (bit (s.reg (sta 9 0)) 0 = true → s.domeOn 28 = true → exec .healthCounterCopy s = .next s.copyHealth) ∧
    (s.up → s.ingotOpen = true → s.tick.toNat % 2 ^ 22 = 0 → exec .readLevelCheckpoint s = .next s.levelCopy) ∧
    (s.up → s.history.hour < s.alm.optime / 65536 → ∃ t : State, exec .healthHistoryEntry s = .next t ∧
      t.history.hour = s.alm.optime / 65536 ∧ t.history.entries.length = min 720 (s.history.entries.length + 1) ∧
      t.history.entries.getLast? = some s.historyEntry)

/-- Patrol, sweeps, closing verify, relocation, reclaim, wear levelling and pending erases (R125, R336, R343, R346, R347,
R349, R350, R351, R352, R353, R356, R357). While the device is up: PATROL_READ of a frame, not of a block's first
page, of an allocated block in no extent counts the read and whether it was corrected, and queues a refresh and a
sweep for a weak frame alone; LEVEL_SWEEP writes the best of five settings when it improves by at least 8 bits, and
leaves the register otherwise; CLOSING_VERIFY of a closed extent whose frames could all be read clears its mark and
marks it for refresh when a frame was poor; EXTENT_RELOCATION, RECLAIM of the victim and STATIC_WEAR_LEVELLING of the
coldest extent leave the relocated state; PENDING_ERASE of a block awaiting erase, its intent written, frees it, or
retires it when the erase fails or its count reaches the limit. -/
def Obligations.CareResults : Prop :=
  ∀ (s : State), s.up →
    (∀ (loc : W64) (f : FrameSense), s.locOk loc = true → s.chanUp (locChan loc) = true → s.blkUse (locBlk loc) = 2 → locPage loc ≠ 0 →
      let u := (s.hcount 14 1).hcount 4 (if 64 < f.zeros ∧ f.hard.any (fun n => decide (0 < n)) = true then 1 else 0)
      (senseWeak f = false → u.extentAt loc = none → exec (.patrolRead loc [f] []) s = .next u) ∧
      (senseWeak f = true → ((u.queueRefresh loc).queueSweep loc).extentAt loc = none →
        exec (.patrolRead loc [f] []) s = .next ((u.queueRefresh loc).queueSweep loc))) ∧
    (∀ (ch die grp : Nat) (a b c d e : Nat), (ch, die, grp) ∈ s.care.sweeps → s.chanUp ch = true → grp ≤ 31 →
      let r := chReg ch (0x800 + 8 * ((32 * die + grp) / 8))
      let lo := 8 * ((32 * die + grp) % 8)
      ∃ t : State, exec (.levelSweep ch die grp [a, b, c, d, e]) s = .next t ∧ (ch, die, grp) ∉ t.care.sweeps ∧
        (c < a + 8 → c < b + 8 → c < d + 8 → c < e + 8 → t.reg r = s.reg r) ∧
        (a + 8 ≤ c → a ≤ b → a ≤ d → a ≤ e → fld (t.reg r) lo 8 = fld (s.reg r) lo 8 - 2)) ∧
    (∀ (x : Nat) (e : Extent) (bad : List W64), s.extent x = some e → e.closed ≠ none → e.verify = true →
      exec (.closingVerify x bad []) s = .next ((s.setExtent x (some { e with verify := false, refresh := e.refresh || !bad.isEmpty })).hcount 17
        (16 * s.fam.planes * s.rowCount e.mode))) ∧
    (∀ (n : Nat) (x : Extent) (t : State), s.extent n = some x → x.refresh = true → x.closed ≠ none → s.relocate n x false = some t →
      exec (.extentRelocation n) s = .next t) ∧
    (∀ (n : Nat) (x : Extent) (t : State), s.freeExtents < max 16 (ceilDiv s.committedExtents 200) → s.victim = some (n, x) →
      s.relocate n x false = some t → exec .reclaim s = .next (t.hcount 16 (s.validGrains n x).length)) ∧
    (∀ (g n : Nat) (x : Extent) (t : State), s.params.spread < s.wearSpread g → s.coldest g = some (n, x) → s.relocate n x true = some t →
      exec (.staticWearLevelling g) s =
        .next (((t.putCare { t.care with wearing := g :: t.care.wearing.filter (· ≠ g) }) : State).hcount 15 1)) ∧
    (∀ (b : Nat) (u : State), let w := mkLoc (b / 65536 / 4 / 64) (b / 65536 / 4 % 64 / 8) (b / 65536 / 4 % 8) (b / 65536 % 4) (b % 65536) 0 0 0 s.ownMember;
      s.ingotOpen = true → s.blkUse b = 3 → s.locOk w = true → s.chanUp (locChan w) = true → s.dieIntents (locChan w) (locDie w) < 32 →
      s.writeIntent (eraseReq w) = some u → u.care.sanit ≠ 2 →
      exec (.pendingErase b false) s = .next (((u.resetBlock b false).hcount 10 1).retireBlk b) ∧
      (100 * (u.eraseCount b + 1) < u.params.factor * u.fam.ratedPe → ∃ t : State, exec (.pendingErase b true) s = .next t ∧
        t.blkUse b = 1 ∧ t.eraseCount b = u.eraseCount b + 1))

/-- Doorbells, fetches, resets, enables, shutdowns and configuration requests of the host port (R91, R92, R213, R216,
R217, R225, R228, R482, R484, R490, R492, R525). A doorbell of a queue that does not exist raises Invalid Doorbell
Register and one at or beyond the queue size Invalid Doorbell Write Value, and changes no queue; any other sets the
shadow. SQ_FETCH takes an entry of the queue that arbitration picks, when no hazard entry is needed and a buffer is
free. FUNCTION_LEVEL_RESET and CONTROLLER_DISABLE of a ready controller start a reset; RESET_END of a reported, idle
Function Level Reset, alone in the device, ends it and deletes the function's queues. CONTROLLER_ENABLE sets CC and
makes the controller of an up device ready with its admin queues, or shows CFS for a configuration it does not
support. SHUTDOWN_NOTIFICATION of a live controller shows SHST 01b. A configuration request during a Function Level
Reset is told to retry; otherwise a read answers the field's value and a PASID enable is kept. -/
def Obligations.HostPortResults : Prop :=
  ∀ (s : State) (f y n : Nat) (v : BitVec 32),
    (s.sqOf f y = none → exec (.sqTailDoorbell f y v) s = .next (s.asyncEvent f badDoorbell)) ∧
    (s.cqOf f y = none → exec (.cqHeadDoorbell f y v) s = .next (s.asyncEvent f badDoorbell)) ∧
    (∀ q, s.sqOf f y = some (n, q) →
      (q.entries ≤ fld v 0 16 → exec (.sqTailDoorbell f y v) s = .next (s.asyncEvent f badDoorbellValue)) ∧
      (fld v 0 16 < q.entries → exec (.sqTailDoorbell f y v) s =
        .next ((s.setSq n (some { q with tail := fld v 0 16 })).doorbellEvent n q))) ∧
    (∀ q, s.cqOf f y = some (n, q) →
      (q.entries ≤ fld v 0 16 → exec (.cqHeadDoorbell f y v) s = .next (s.asyncEvent f badDoorbellValue)) ∧
      (fld v 0 16 < q.entries → exec (.cqHeadDoorbell f y v) s = .next (s.setCq n (some { q with head := fld v 0 16 })))) ∧
    (∀ h a x e pre, s.gap = false → s.fetchLeft ≠ 0 → pre.length ≤ 384 → s.domeOn 1 = true → s.holderPick = some h →
      s.queuePick h = some (n, a) → s.sq n = some x → (hazOpcode (fld e 0 8) = false ∨ x.hostId = 0) → (s.alloc 63 0 false).isSome = true →
      exec (.sqFetch n e pre) s = .next ((s.fetchEntry n x e pre none).chargeFetch h a)) ∧
    (s.up → s.funcExists f = true → exec (.functionLevelReset f) s = .next ((s.endTest 2).startReset 0 f none 0)) ∧
    (s.up → s.funcExists f = true → bit (s.ctrl f).cc 0 = true → (s.ctrl f).rdy = true → exec (.controllerDisable f) s =
      .next (((s.endTest 2).setCtrl f { s.ctrl f with cc := setBit (s.ctrl f).cc 0 false }).startReset 1 f none 0)) ∧
    (∀ tok x, s.resets = [x] → x.token = tok → x.reported = true → x.slice = none → x.kind = 0 →
      s.cmds.any (fun d => x.holds d && d.unsettled) = false → s.resetBusy x = false → s.framesBusy x.func = false →
      ∃ t : State, exec (.resetEnd tok) s = .next t ∧ t.resets = [] ∧ (∀ m q, (m, some q) ∈ t.sqs → q.func ≠ x.func) ∧
        (∀ m q, (m, some q) ∈ t.cqs → q.func ≠ x.func) ∧ bit (t.ctrl x.func).cc 0 = false ∧ (t.ctrl x.func).rdy = false) ∧
    (∀ cc aqa asq acq sg st, s.up → s.boot.strapped = true → s.boot.perstLow = false → s.boot.pwrFail = false → s.ctrlUp f = true →
      bit (s.ctrl f).cc 0 = false → s.resets = [] → s.faulted = false → 
      let c : Ctrl := { s.ctrl f with cc := setBit cc 0 true, aqa := aqa, asq := asq, acq := acq, rdy := false, cfs := false, shst := 0 }
      let t := s.setCtrl f c
      (c.cfgOk = true → exec (.controllerEnable f cc aqa asq acq sg st) s =
        .next (((t.setCtrl f { c with rdy := true }).setSq f (some (adminSq f c))).setCq f (some (adminCq f c)))) ∧
      (c.cfgOk = false → exec (.controllerEnable f cc aqa asq acq sg st) s = .next (t.setCtrl f { c with cfs := true }))) ∧
    (s.up → s.funcExists f = true → (s.ctrl f).live = true → (s.ctrl f).shst = 0 →
      ∃ t : State, exec (.shutdownNotification f) s = .next t ∧ (t.ctrl f).shst = 1) ∧
    (∀ op, s.funcExists f = true → s.resets.any (fun r => decide (r.func = f) && decide (r.kind = 0)) = true →
      exec (.configurationRequest f op) s = .next (s.putOut (s.out ++ [.cfg f true none]))) ∧
    (s.funcExists f = true → s.resets = [] →
      (∀ x, exec (.configurationRequest f (.read x)) s = .next (s.putOut (s.out ++ [.cfg f false (some (s.cfgValue f x))]))) ∧
      (∀ on, ∃ t : State, exec (.configurationRequest f (.pasidEnable on)) s = .next t ∧ (t.ctrl f).pasid = on))

/-- A fault reset stops the cores and clears the SRAM, and keeps what R469 says it keeps (R23, R83, R198, R463, R469,
R587). SRAM_UNCORRECTABLE_ERROR in a word of an array of an up device leaves the device stopped, with no core state,
request, command, buffer, hazard entry, mark, ring or SRAM error left; the tick counter, the sequence counter, device
memory, the ingot store but for the generation in its reserve word, the pattern store and the window of the tick are
as before; when no die had started a program or erase, flash is as before. A core that fetches a word with two bits in
error causes the fault reset with cause 1; one with a single bit in error is corrected and its instruction runs (shown
for NOP). -/
def Obligations.FaultResetEffects : Prop :=
  (∀ (s : State) (arr : BitVec 8) (word : BitVec 24), s.up → s.sramArray arr.toNat = true → word.toNat < sramWords arr.toNat →
    ∃ t : State, exec (.sramUncorrectableError arr word) s = .next t ∧ t.boot.down = true ∧ t.cores = [] ∧ t.reqs = [] ∧ t.cmds = [] ∧
      t.tunBufs = [] ∧ t.haz = [] ∧ t.marks = [] ∧ t.rings = [] ∧ t.sramErr = [] ∧ t.cluster = [] ∧ t.tick = s.tick ∧ t.wsn = s.wsn ∧
      t.dram = s.dram ∧ (∀ a, a < 0xE100008 ∨ 0xE100010 ≤ a → FMap.get zeroByte t.ingot a = FMap.get zeroByte s.ingot a) ∧ t.nor = s.nor ∧ t.win = s.win ∧
      ((∀ r ∈ s.reqs, r.phase = .started → r.prim ≠ .fprog ∧ r.prim ≠ .ferase) → t.nand = s.nand)) ∧
  (∀ (s : State) (c : CoreId), s.up → s.runs c = true →
    let w := (s.core c).bankIndex (s.core c).pc.toNat
    (s.sramErr = [(sramKey c.toNat w, 2)] → exec (.nop c) s = .next (s.faultReset 1 c.toNat (sramKey c.toNat w % 0x1000000))) ∧
    (s.sramErr = [(sramKey c.toNat w, 1)] → (s.rtCorrected c.toNat (sramKey c.toNat w % 0x1000000)).up →
      exec (.nop c) s = .next ((s.rtCorrected c.toNat (sramKey c.toNat w % 0x1000000)).stepCore c 1 (fun k => k))))

/-- Queue creation and deletion, queue counts, secondary controllers, aborts and event requests (R218, R220, R224, R225,
R239, R240, R241, R482, R484, R485, R490). For a command that waits: a create with a queue identifier that is 0, above
the granted count or in use completes with Invalid Queue Identifier, a submission queue of an unknown completion queue
with Completion Queue Invalid; a good Create completes with success, its queue in place. Delete of an unknown queue
completes with Invalid Queue Identifier; Delete of a queue removes it, a submission queue once no claim of it waits, a
completion queue only when no submission queue names it. Number of Queues answers the granted counts less one.
Secondary assign, online and offline act on a secondary controller of the function. An Abort before which 32 of its
controller stand is refused; of a command that is not there answers dword 0 with 1; of one its core may still abort
stands at the gate to the end of the tick. A seventeenth Asynchronous Event Request is refused, an earlier one is held
while no event waits. -/
def Obligations.QueueAdminResults : Prop :=
  ∀ (s : State) (k : W64) (d : Cmd), let u := s.takeEvent k
    (s.Waits k true 0x05 d →
      (d.qid = 0 ∨ u.granted d.func < d.qid ∨ (u.cqOf d.func d.qid).isSome = true →
        exec (.createIoCq k) s = .next (u.finish d stQueueId)) ∧
      (∀ n, d.qid ≠ 0 → d.qid ≤ u.granted d.func → u.cqOf d.func d.qid = none → d.shapeBad = none → u.pasidBad d = false →
        fld (u.ctrl d.func).cc 20 4 = 4 → bit (BitVec.ofNat 32 (d.dw 11)) 1 = false → freeNumber (u.cqs.map (·.1)) = some n →
        ∃ x : CQ, x.base = d.prp1 ∧ x.entries = d.qsize ∧ x.func = d.func ∧ x.hostId = d.qid ∧ x.tail = 0 ∧ x.head = 0 ∧ x.phase = true ∧
          exec (.createIoCq k) s = .next ((u.setCq n (some x)).finish d stOk))) ∧
    (s.Waits k true 0x01 d →
      (u.cqOf d.func (d.dw 11 / 65536) = none → exec (.createIoSq k) s = .next (u.finish d stCqInvalid)) ∧
      (∀ n cq x, d.dw 11 / 65536 ≠ 0 → u.cqOf d.func (d.dw 11 / 65536) = some (cq, x) → d.qid ≠ 0 → d.qid ≤ u.granted d.func →
        u.sqOf d.func d.qid = none → d.shapeBad = none → u.pasidBad d = false → d.pasidArg = x.pasid → fld (u.ctrl d.func).cc 16 4 = 6 →
        freeNumber (u.sqs.map (·.1)) = some n →
        ∃ q : SQ, q.base = d.prp1 ∧ q.entries = d.qsize ∧ q.func = d.func ∧ q.hostId = d.qid ∧ q.cq = cq ∧ q.level = d.dw 11 / 2 % 4 ∧
          q.head = 0 ∧ q.tail = 0 ∧ exec (.createIoSq k) s = .next ((u.setSq n (some q)).finish d stOk))) ∧
    (s.Waits k true 0x00 d →
      (d.qid = 0 ∨ u.sqOf d.func d.qid = none → exec (.deleteIoSq k) s = .next (u.finish d stQueueId)) ∧
      (∀ n q, d.qid ≠ 0 → u.sqOf d.func d.qid = some (n, q) →
        let v := (u.setSq n (some { q with retired := true })).squashQueue n;
        (v.claimWaits n = false → exec (.deleteIoSq k) s = .next ((v.setSq n none).finish d stOk)) ∧
        (v.claimWaits n = true → exec (.deleteIoSq k) s = .next v))) ∧
    (s.Waits k true 0x04 d → ∀ n q, d.qid ≠ 0 → u.cqOf d.func d.qid = some (n, q) →
      (u.sqs.any (fun p => (p.2.map (fun q => q.cq)) = some n) = true → exec (.deleteIoCq k) s = .next (u.finish d stQueueDeletion)) ∧
      (u.sqs.any (fun p => (p.2.map (fun q => q.cq)) = some n) = false → exec (.deleteIoCq k) s = .next ((u.setCq n none).finish d stOk))) ∧
    (s.Waits k true 0x09 d → d.dw 10 % 256 = 7 → exec (.numberOfQueues k) s =
      .next (u.respond d (BitVec.ofNat 32 (u.granted d.func - 1 + (u.granted d.func - 1) * 65536)) 0 stOk)) ∧
    (s.Waits k true 0x1C d → u.isPf d.func = true → ∀ c, d.dw 10 / 65536 = c → u.isPf c = false → u.funcExists c = true → u.pfOf c = d.func →
      (d.dw 10 % 16 = 8 → (u.ctrl c).online = false → d.dw 10 / 256 % 8 = 0 → d.dw 11 % 65536 ≤ flexMax false →
        u.flexUsed false c + d.dw 11 % 65536 ≤ u.flexTotal false → exec (.secondaryAssign k) s =
          .next ((u.setCtrl c { u.ctrl c with vq := d.dw 11 % 65536 }).respond d (BitVec.ofNat 32 (d.dw 11 % 65536)) 0 stOk)) ∧
      (d.dw 10 % 16 = 9 → 2 ≤ (u.ctrl c).vq → 1 ≤ (u.ctrl c).vi →
        exec (.secondaryOnline k) s = .next ((u.setCtrl c { u.ctrl c with online := true }).finish d stOk)) ∧
      (d.dw 10 % 16 = 7 → ∃ t : State, exec (.secondaryOffline k) s = .next (t.finish d stOk) ∧
        (u.cmds.any (fun x => decide (x.func = c) && x.unsettled) = false → (t.ctrl c).online = false))) ∧
    (s.Waits k true 0x08 d → u.aborts.any (fun p => p.2 = k) = false →
      (32 ≤ u.abortsBefore d → exec (.abort k) s = .next (u.finish d stAbortLimit)) ∧
      (u.abortsBefore d < 32 → u.abortTarget d = none → exec (.abort k) s = .next (u.respond d 1 0 stOk)) ∧
      (∀ x, u.abortsBefore d < 32 → u.abortTarget d = some x → u.abortable x = true → x.settle = .live →
        exec (.abort k) s = .next (u.putAborts (u.aborts ++ [(x.key, k)])))) ∧
    (s.Waits k true 0x0C d →
      (16 ≤ (u.ctrl d.func).aer.length → exec (.asynchronousEventRequest k) s = .next (u.finish d stAerLimit)) ∧
      ((u.ctrl d.func).aer.length < 16 → u.events.find? (fun p => p.1 = d.func) = none → exec (.asynchronousEventRequest k) s =
        .next (u.setCtrl d.func { u.ctrl d.func with aer := (u.ctrl d.func).aer ++ [k] })))

/-- Log pages, Identify, features, self-tests, directives, the almanac seal and security commands (R220, R231, R245, R247,
R250, R252, R278, R364, R504, R526, R535, R542). For a command that waits: Get Log Page of a page below 0xC0 and
Identify send the page asked for and succeed, and a page that does not exist answers Invalid Log Page; at a physical
function the almanac page moves the read mark, and the tick statistics are sent and cleared with LSP bit 0. Set
Features keeps arbitration, a temperature threshold and the event configuration for the controller, sets the power
state up to PS4 (PS3 on a manager) and Flexible Data Placement while endurance group 1 is empty; Get Features answers
the current value. A self-test starts when none runs, and is refused while one does; its abort ends it with result 1.
Directive Send of the data placement directive succeeds when it names its current state; Directive Receive returns the
directives. The seal under a session that proves a sealing owner moves the oldest ordinal no further than the read
mark. Security Send of the SPDM protocol keeps the response; Security Receive returns it once, and none answers
Command Sequence Error. -/
def Obligations.AdminDataResults : Prop :=
  ∀ (s : State) (k : W64) (d : Cmd), let u := s.takeEvent k
    (s.Waits k true 0x02 d → d.logOff % 4 = 0 →
      (d.lid < 0xC0 → ∀ page, u.logPage d = some page → exec (.getLogPage k) s = .next ((u.toHost d 0 (d.part page)).finish d stOk)) ∧
      (d.lid < 0xC0 → u.logPage d = none → exec (.getLogPage k) s = .next (u.finish d stLogPage)) ∧
      (d.lid = 0xC1 → s.isPf d.func = true → exec (.getLogPageAlmanac k) s =
        .next ((((u.putAlm { u.alm with rmark := u.readMark d }) : State).toHost d 0 (d.part u.almanacPage)).finish d stOk)) ∧
      (d.lid = 0xC4 → s.isPf d.func = true → d.lsp % 2 = 1 → exec (.getLogPageTickStatistics k) s =
        .next (((u.mapCores (fun (c : Core) => { c with peak := 0, defer := 0, ovr := 0, bex := 0 })).toHost d 0 (d.part u.tickPage)).finish d stOk))) ∧
    (s.Waits k true 0x06 d → ∀ bs, u.identPage d = .ok bs → exec (.identify k) s = .next ((u.toHost d 0 bs).finish d stOk)) ∧
    (s.Waits k true 0x09 d → d.dw 10 / 2 ^ 31 % 2 = 0 → let c := u.ctrl d.func
      (∀ data, d.fid = 0x0B → exec (.setFeatures k data) s = .next ((u.setCtrl d.func (c.setFeat 0xB0000 (d.dw 11))).finish d stOk)) ∧
      (d.fid = 0x01 → exec (.setFeaturesArbitration k) s = .next ((u.setCtrl d.func (c.setFeat 0x10001 (d.dw 11))).finish d stOk)) ∧
      (d.fid = 0x02 → d.dw 11 % 32 < 4 → exec (.setFeaturesPowerManagement k) s = .next ((u.setPower (d.dw 11 % 32)).finish d stOk)) ∧
      (d.fid = 0x02 → d.dw 11 % 32 = 4 → exec (.setFeaturesPowerManagement k) s =
        .next (if u.isManager then u.finish d stField else (u.setPower 4).finish d stOk)) ∧
      (d.fid = 0x02 → 4 < d.dw 11 % 32 → exec (.setFeaturesPowerManagement k) s = .next (u.finish d stField)) ∧
      (d.fid = 0x04 → d.dw 11 / 2 ^ 20 % 4 ≤ 1 → d.dw 11 / 2 ^ 16 % 16 ≤ 2 → exec (.setFeaturesTemperatureThreshold k) s =
        .next ((u.setCtrl d.func (c.setFeat (tempKey (d.dw 11 / 2 ^ 16 % 16) (d.dw 11 / 2 ^ 20 % 4)) (d.dw 11 % 65536))).finish d stOk)) ∧
      (d.fid = 0x1D → d.dw 11 % 65536 = 1 → d.dw 12 / 256 % 256 = 0 →
        (u.group1Used = true → exec (.setFeaturesFdp k) s = .next (u.finish d stSequence)) ∧
        (u.group1Used = false → exec (.setFeaturesFdp k) s =
          .next (((u.putFdp { u.fdp with on := decide (d.dw 12 % 2 = 1) }) : State).finish d stOk)))) ∧
    (s.Waits k true 0x0A d → d.dw 10 / 256 % 8 = 0 → d.fid ≠ 0x0E → ∀ v, u.featureWord d false = some v →
      exec (.getFeatures k) s = .next (u.respond d (BitVec.ofNat 32 v) 0 stOk)) ∧
    (s.Waits k true 0x14 d → ∀ i, (i = .selfTestShort k ∧ d.dw 10 % 16 = 1) ∨ (i = .selfTestExtended k ∧ d.dw 10 % 16 = 2) →
      (u.care.test.isSome = true → exec i s = .next (u.finish d stSelfTest)) ∧
      (u.care.test = none → exec i s =
        .next (((u.putCare { u.care with test := some (d.dw 10 % 16, d.nsid, u.tick) }) : State).finish d stOk))) ∧
    (s.Waits k true 0x14 d → d.dw 10 % 16 = 15 → exec (.selfTestAbort k) s = .next ((u.endTest 1).finish d stOk)) ∧
    (s.Waits k true 0x19 d → d.dtype = 0 → d.doper = 1 → d.dw 12 / 256 % 256 = 2 → exec (.directiveSend k) s =
      .next (u.finish d (if decide (d.dw 12 % 2 = 1) = u.fdp.on then stOk else stField))) ∧
    (s.Waits k true 0x1A d → d.dtype = 0 → d.doper = 1 → ∃ bs : List Byte, bs.length = (d.dw 10 + 1) * 4 ∧
      exec (.directiveReceive k) s = .next ((u.toHost d 0 bs).finish d stOk)) ∧
    (s.Waits k true 0xC0 d → u.isPf d.func = true → d.nsid = 0 →
      u.sessions.any (fun x => decide (x.sid = BitVec.ofNat 32 (d.dw 11)) && x.established && u.proves x (fun o => o.sealing)) = true →
      let n := min (d.dw 10 + 1) u.alm.rmark
      let v := if u.alm.oldest < n then u.sealTo n else u
      exec (.almanacSeal k) s = .next (v.respond d (BitVec.ofNat 32 v.alm.oldest) 0 stOk)) ∧
    (s.Waits k true 0x81 d → d.secp ≠ 0xE8 → ∀ m, exec (.securitySend k m) s = .next (u.finish d stField)) ∧
    (s.Waits k true 0x81 d → d.secp = 0xE8 → ∀ m,
      let x := u.spdmMessage d.func m
      let bs := toBytes 1 0x13 ++ toBytes 1 x.2.code ++ toBytes 1 x.2.p1 ++ toBytes 1 x.2.p2 ++ x.2.body
      exec (.securitySend k m) s = .next
        (((x.1.putTrust { x.1.trust with resp := FMap.set (fun _ => none) x.1.trust.resp d.func (some bs) }) : State).finish d stOk)) ∧
    (s.Waits k true 0x82 d → d.secp = 0xE8 →
      (FMap.get (fun _ => none) u.trust.resp d.func = none → exec (.securityReceive k) s = .next (u.finish d stSequence)) ∧
      (∀ bs, FMap.get (fun _ => none) u.trust.resp d.func = some bs → exec (.securityReceive k) s = .next
        ((((u.putTrust { u.trust with resp := FMap.set (fun _ => none) u.trust.resp d.func none }) : State).toHost d 0
          ((bs ++ List.replicate (d.dw 11) 0).take (d.dw 11))).finish d stOk)))

/-- Namespaces, formats, sanitizes, image downloads and commits, and the handover's own rows (R168, R169, R171, R172,
R173, R174, R178, R222, R258, R502, R503, R511). For a command that waits at a physical function: a placement
namespace in endurance group 1 that fits the spare above the floor is created, given a key and answered with its
identifier, and one whose size and capacity differ is an invalid field; an idle one is deleted, attached to
controllers that do not hold it or detached from those that do, formatted, or erased with all others; deletion of one
that does not exist is refused. A first piece that passes the header checks is staged. Firmware Commit of a staged
image that verifies and that the pattern store takes writes it to a bank that is not running (action 0), selects that
bank too (1) or starts a handover to it (3); action 2 selects a bank whose image verifies; one that fails verification
answers its code. A handover in progress is a sequence error. LIVE_HANDOVER_ARM arms the swap or ends the commit;
LAYOUT_MARK_WRITE writes the running layout's mark. -/
def Obligations.NamespaceFirmwareResults : Prop :=
  ∀ (s : State) (k : W64) (d : Cmd), let u := s.takeEvent k
    (s.Waits k true 0x0D d → u.isPf d.func = true →
      (∀ x n, d.dw 10 % 16 = 0 → d.dw 11 / 2 ^ 24 = 0 → x.lbaf ≤ 7 → x.endg = 1 → u.freeNsid = some n →
        (x.ncap ≠ x.nsze → exec (.namespaceCreate k x) s = .next (u.finish d stField)) ∧
        (x.ncap ≠ 0 → x.ncap = x.nsze → x.phndls.length ≤ 256 → x.phndls.any (fun h => 256 ≤ h) = false →
          let ext := ceilDiv (107 * (x.ncap * fmtGrains x.lbaf)) (100 * max 1 (extentCap u.fam))
          let charge := 2 * metaCount x.lbaf (x.ncap * fmtGrains x.lbaf)
          let info : NsInfo := { lbaf := x.lbaf, csi := 0, endg := 1, nsze := x.nsze, ncap := x.ncap, phndls := x.phndls, attached := [], extents := ext, charge := charge }
          (ext + u.metaExtents charge) * (16 * u.fam.planes) + u.createFloor ≤ u.spareBlocks →
          ∀ v, u.configNs n (if fmt16 x.lbaf then 2 else 1) x.lbaf (x.nsze * fmtGrains x.lbaf) 0 (u.zsize 1) = some v →
            exec (.namespaceCreate k x) s = .next (((v.setNsi n (some info)).fillKey n).respond d (BitVec.ofNat 32 n) 0 stOk))) ∧
      (d.dw 10 % 16 = 1 → (u.named d.nsid).any (fun n => (u.nsi n).isNone) = true → exec (.namespaceDelete k) s = .next (u.finish d stNamespace)) ∧
      (d.dw 10 % 16 = 1 → (u.named d.nsid).any (fun n => (u.nsi n).isNone) = false → (u.named d.nsid).findSome? u.volumeRefuse = none →
        (u.named d.nsid).any u.nsBusy = false → exec (.namespaceDelete k) s = .next (((u.named d.nsid).foldl State.dropNs u).finish d stOk))) ∧
    (s.Waits k true 0x15 d → u.isPf d.func = true → ∀ (x : NsInfo) (cs : List Nat), u.nsi d.nsid = some x → cs ≠ [] →
      cs.any (fun c => !u.isPf c ∧ !u.funcExists c) = false →
      (d.dw 10 % 16 = 0 → cs.any (fun c => x.attached.contains c) = false → exec (.namespaceAttachment k cs) s =
        .next ((u.setNsi d.nsid (some { x with attached := x.attached ++ cs.dedup })).finish d stOk)) ∧
      (d.dw 10 % 16 = 1 → cs.any (fun c => !x.attached.contains c) = false → exec (.namespaceAttachment k cs) s =
        .next ((u.setNsi d.nsid (some { x with attached := x.attached.filter (fun c => !cs.contains c) })).finish d stOk))) ∧
    (s.Waits k true 0x80 d → (u.named d.nsid).any (fun n => (u.nsi n).isNone) = false → d.dw 10 / 2 ^ 12 % 4 = 0 → d.dw 10 % 16 ≤ 7 →
      (u.named d.nsid).any (fun n => (u.layout n).isSome ∧ d.dw 10 % 16 ≠ 0 ∧ d.dw 10 % 16 ≠ 4) = false → d.dw 10 / 2 ^ 9 % 8 ≤ 2 →
      (u.named d.nsid).findSome? u.volumeRefuse = none → (u.named d.nsid).any u.nsBusy = false →
      exec (.formatNvm k) s = .next ((((u.named d.nsid).foldl (State.formatNs · (d.dw 10 / 2 ^ 9 % 8) (d.dw 10 % 16)) u).endTest 3).finish d stOk)) ∧
    (s.Waits k true 0x84 d → u.isPf d.func = true →
      let ns := u.nsInfo.map (·.1)
      ns.findSome? u.volumeRefuse = none → ns.any u.nsBusy = false →
      (d.dw 10 % 8 = 4 →
        let v := ns.foldl State.cryptoErase u
        exec (.sanitizeCryptoErase k) s = .next ((((v.putCare { v.care with sanit := 1 }) : State).measureKeys 0 4).finish d stOk)) ∧
      (d.dw 10 % 8 = 2 →
        let v := ns.foldl State.emptyNs (((u.vault.map (·.1)).filter (· < generalSlots)).foldl State.clearSlot u)
        let w := (v.extentList.map (·.1)).foldl State.releaseExtent v
        let x : State := (w.putIngot (wrNum w.ingot 0xE100040 64 0)).putCare { w.care with sanit := 2 }
        exec (.sanitizeBlockErase k) s = .next (((ns.foldl State.fillKey x).measureKeys 0 2).finish d stOk))) ∧
    (s.Waits k true 0x11 d → u.fw.hand = none → u.stagedByOther d.func = false → d.dw 11 = 0 → ∀ bs : List Byte,
      bs.length = (d.dw 10 + 1) * 4 → bs.length % 4096 = 0 →
      let v : State := (u.putFw { u.fw with stage := none, pieces := [] })
      (∀ r, v.checkHeader bs = some r → exec (.firmwareImageDownload k bs) s =
        .next ((v.reject bs r).respond d (BitVec.ofNat 32 r.code) 0 (dnr stField))) ∧
      (v.checkHeader bs = none → bs.length ≤ le bs 8 4 → exec (.firmwareImageDownload k bs) s = .next (v.stagePiece d (le bs 8 4) 0 bs))) ∧
    (s.Waits k true 0x10 d → u.recovery = false → ∀ (b : Nat) (sig nor : Bool),
      (∀ i, (i = .firmwareCommitWriteOnly k sig nor ∧ d.fwAction = 0) ∨ (i = .firmwareCommitAtReset k sig nor ∧ d.fwAction = 1) ∨
        (i = .firmwareCommitExisting k sig ∧ d.fwAction = 2) ∨ (i = .firmwareCommitActivateNow k sig nor ∧ d.fwAction = 3) →
        (u.fw.hand.isSome = true → exec i s = .next (u.finish d stSequence)) ∧
        (u.fw.hand = none → u.commitBank d.fwSlot = none → exec i s = .next (u.finish d stFwSlot))) ∧
      (u.fw.hand = none → u.commitBank d.fwSlot = some b →
        (∀ total, u.staging d.func = some total →
          let x := u.commitBytes b (some total)
          let v := u.writeBank b x.1
          (∀ i r, (i = .firmwareCommitWriteOnly k sig nor ∧ d.fwAction = 0 ∧ u.runsBank b = false) ∨
              (i = .firmwareCommitAtReset k sig nor ∧ d.fwAction = 1 ∧ u.runsBank b = false) ∨
              (i = .firmwareCommitActivateNow k sig nor ∧ d.fwAction = 3 ∧ u.care.sanit ≠ 2) →
            u.verify x.1 x.2 sig = some r → exec i s = .next ((u.reject x.1 r).respond d (BitVec.ofNat 32 r.code) 0 stFwImage)) ∧
          (u.verify x.1 x.2 sig = none → nor = true →
            (d.fwAction = 0 → u.runsBank b = false → exec (.firmwareCommitWriteOnly k sig nor) s = .next (v.finish d stOk)) ∧
            (d.fwAction = 1 → u.runsBank b = false → exec (.firmwareCommitAtReset k sig nor) s = .next ((v.swapTo b).finish d stOk)) ∧
            (∀ r, d.fwAction = 3 → u.care.sanit ≠ 2 → v.fw.run = some r →
              let w := (v.install (imageOf x.1) (r.layout + 2 ^ 16)).swapTo b
              exec (.firmwareCommitActivateNow k sig nor) s =
                .next (w.putFw { w.fw with hand := some ⟨d.key, (imageOf x.1).running b, r.layout, false, false⟩ })))) ∧
        (u.staging d.func = none →
          (d.fwAction = 2 → u.bankUnknown b = false → u.verify (u.bankBytes b) true sig = none →
            exec (.firmwareCommitExisting k sig) s = .next ((u.swapTo b).finish d stOk)) ∧
          (d.fwAction = 3 → u.care.sanit ≠ 2 → u.runsBank b = true →
            exec (.firmwareCommitActivateNow k sig nor) s = .next (u.finish d stOk))))) ∧
    (∀ h old, s.fw.hand = some h → s.fw.run = some old → h.armed = false → s.win = .slot → s.gap = false → s.up →
      (s.handoverReject old h.image = none → ∃ t : State, exec .liveHandoverArm s = .next t ∧ t.fw.hand = some { h with armed := true }) ∧
      (∀ r, s.handoverReject old h.image = some r → ∃ t : State, t.fw.hand = none ∧
        exec .liveHandoverArm s = .next (t.settleHandover h.key r.code stFwCtrlReset))) ∧
    (∀ m r, s.fw.markDue = some m → s.fw.run = some r → s.up → s.boot.pwrFail = false → m.toNat < s.tick.toNat → s.startsDone = true →
      s.fw.hand = none → ∃ t : State, exec .layoutMarkWrite s = .next t ∧ t.fw.markDue = none ∧ rdNum t.ingot markOff 8 = r.layout % 2 ^ 64)

/-- Reads, writes, appends, zone actions and the other I/O commands (R221, R236, R237, R264, R265, R266, R267, R271, R276,
R281, R288, R416). For a waiting command of a namespace that exists, is attached and served here, in range, with its
key filled and no zone action before it: a Read or Verify without ladders whose hazard source is settled reads now,
and with every grain found hands them all over and completes; it waits for a source that is not. A placement write
that is stored (numbers, units, metadata) and committed completes; it waits behind a hazard or an earlier Read, and in
the preserve state ends with Namespace Is Write Protected. A zone write or append to an open zone with an entry and no
token slot reserves, stores, commits and completes; a volume's begins its job, whose later rows take its steps. Past
the zone, in a full zone or in the preserve state it ends as R264 says. Flush succeeds. Dataset Management of one
range unmaps it. An action on one idle zone without a record under way takes its state, with its extent closed or
released, and succeeds; an action's own status ends it; Offline and the descriptor extension end with theirs. Report
Zones, reclaim unit status and updates answer as the table says. -/
def Obligations.IoResults : Prop :=
  ∀ (s : State) (k : W64) (d : Cmd) (x : NsInfo), let u := s.takeEvent k; let n := d.nsid; let c := u.nsAt n; let len := d.grains x
    let z := d.slba / max 1 c.zoneLbas; let dz := c.firstZone + z
    let idle : Prop := s.jobs.any (fun j => decide (j.key = k)) = false
    let mine : Prop := ∀ l, u.layout n = some l → u.isManager = true → (u.anaGroup l.group).owned = true ∧ u.wsnFloor = none
    let plain : Instr → Fill → List Byte → Prop := fun i fill md =>
      (∃ gs, i = .write k gs md ∧ fill = Fill.data gs ∧ s.Waits k false 0x01 d ∧ dataOk gs len = true ∧ u.keyOk n = true) ∨
      (i = .writeUncorrectable k ∧ fill = Fill.word marker ∧ md = [] ∧ s.Waits k false 0x04 d) ∨
      (i = .writeZeroes k ∧ fill = Fill.word 0 ∧ md = [] ∧ s.Waits k false 0x08 d)
    let zoned : Instr → Bool → Option W64 → Fill → List Byte → Prop := fun i app tok fill md => c.zoned = true ∧
      ((app = false ∧ tok = none ∧ plain i fill md ∧ d.rangeBad x = none ∧ u.hazWait d = false ∧ u.readWait d = false) ∨
       (app = true ∧ d.slba % max 1 c.zoneLbas = 0 ∧ len ≤ maxGrains ∧ d.slba < x.nsze ∧ ∃ gs, fill = Fill.data gs ∧ dataOk gs len = true ∧
        u.keyOk n = true ∧ ((i = .zoneAppend k gs md ∧ tok = none ∧ s.Waits k false 0x7D d) ∨
          (i = .zoneAppendWithToken k gs md ∧ tok = some (w64 (fld d.sqe 64 64)) ∧ w64 (fld d.sqe 64 64) ≠ 0 ∧ s.Waits k false 0x9D d))))
    u.ioNs d = .ok x →
    (∀ i fails corr vol, (i = .read k ⟨fails, corr⟩ vol ∧ s.Waits k false 0x02 d) ∨ (i = .verify k ⟨fails, corr⟩ vol ∧ s.Waits k false 0x0C d) →
      s.care.ladders.any (fun l => decide (l.key = k)) = false → d.rangeBad x = none → u.actionFirst d = false →
      (∀ src, u.readSource d = some src → exec i s = .next (u.readNow d x fails corr vol src)) ∧
      (u.readSource d = none → exec i s = .next s) ∧
      (∀ bs : List (List Byte), corr = [] → u.readSource d = some none → bs.length = len →
        let h := (List.range len).foldl (fun (t : State) j => t.healMap n false (d.grain0 x + j)) u
        h.layout n = none → (∀ j, j < len → h.findGrain n false (d.grain0 x + j) fails (vol.getD j .lost) = .bytes (bs.getD j [])) →
        exec i s = .next ((bs.zipIdx.foldl (fun (t : State) p => t.handOver d p.2 p.1) h).hostReadDone d x))) ∧
    (∀ i fill md, plain i fill md → idle →
      (∀ st, d.rangeBad x = some st → exec i s = .next (u.endCmd d st)) ∧
      (d.rangeBad x = none → mine → c.zoned = false →
        (u.preserved d = true → exec i s = .next (u.endCmd d stWriteProtected)) ∧
        (u.preserved d = false → (u.hazWait d || u.readWait d) = true → exec i s = .next u) ∧
        (u.preserved d = false → (u.hazWait d || u.readWait d) = false →
          (∀ w t, fill = .word w → u.commitTry n false (d.grain0 x) 0 (List.replicate len w) = .ok t →
            exec i s = .next (t.writeDone d len 0 fill)) ∧
          (∀ gs ws t v w, fill = .data gs → let p := u.placement d x; let h := p.1.1; let g := p.1.2
            let q := p.2.takeNumbers 0 (len + metaTouched x d.slba d.nlb)
            let handle := h % 256 + g % 64 * 2 ^ 8
            q.2.storeUnits (fmt16 x.lbaf) n (x.phndls.getD h 0) g (len + 1) (gs.zipIdx.map (fun y =>
              (y.1, q.2.cmdTag d 0 0 handle (2 + h % 14) 0 len (d.grain0 x) q.1 y.2))) = some (ws, t) →
            t.writeMeta d x handle (2 + h % 14) q.1 len d.slba d.nlb md = .ok v →
            v.commitTry n false (d.grain0 x) q.1 ws = .ok w →
            exec i s = .next ((w.putFdp { w.fdp with mediaBytes := w.fdp.mediaBytes + 4096 * len } : State).writeDone d len 0 fill))))) ∧
    (∀ i app tok fill md, zoned i app tok fill md → s.boot.down = false → ¬ idle → exec i s = .next s.runJobs) ∧
    (∀ i app tok fill md, zoned i app tok fill md → idle → mine → u.actionFirst d = false →
      (u.preserved d = true → exec i s = .next (u.endCmd d stZoneReadOnly)) ∧
      (u.preserved d = false → (∀ l, u.layout n = some l → u.isManager = true ∧ (u.setNow l z).any (fun p => p.1.isNone) = false) →
        (c.zoneLbas < d.slba % max 1 c.zoneLbas + d.nlb → exec i s = .next (u.endCmd d stZoneBoundary)) ∧
        (d.slba % max 1 c.zoneLbas + d.nlb ≤ c.zoneLbas →
          (u.zstate dz = zFull → tok = none → exec i s = .next (u.endCmd d stZoneFull)) ∧
          (∀ v : State × Byte × List W64, isOpen (u.zstate dz) = true → (∀ y, tok = some y → fld (u.zoneWord dz) 28 13 = 0) →
            (u.readEntry (u.entryAddr n z)).valid = true →
            u.mapTry (fun (t : State) => t.mzoneOp (mapReq .mzone (b2n tok.isSome) [t.zoneKeyOf n z, w64 len,
              match tok with
              | some y => y
              | none => if app then w64 (2 ^ 64 - 1) else w64 d.slba])) = .ok v →
            let o := u.zrsv dz
            (∀ l t, v.1.layout n = some l → v.1.isManager = true → v.1.zoneVolume d x l z o fill tok = .ok t → exec i s = .next t) ∧
            (∀ t ws m e, v.1.layout n = none →
              let lba := z * (v.1.nsAt n).zoneLbas + o / fmtGrains x.lbaf
              let q := v.1.takeNumbers 0 (if fill.isData then len + metaTouched x lba d.nlb else 0)
              q.2.zwp ((q.2.nsAt n).firstZone + z) = o → q.2.zoneStore d n z o q.1 fill len = .ok (t, ws) →
              (if fill.isData then t.writeMeta d x 0 1 q.1 len lba d.nlb md else .ok t) = .ok m →
              m.commitTry n false (z * 2 ^ (m.nsAt n).zshift + o) q.1 ws = .ok e →
              let ez := (e.nsAt n).firstZone + z
              let e1 := e.putZoneUsed (FMap.set (fun _ => 0) e.zoneUsed ez e.tick)
              let e2 := if e1.zstate ez = zFull then e1.closeZoneExtent n z true else e1
              exec i s = .next (e2.writeDone d len (if d.isAppend then lba else 0) fill)))))) ∧
    (s.Waits k false 0x00 d → exec (.flush k) s = .next (u.finish d stOk)) ∧
    (∀ rs, s.Waits k false 0x09 d → rs.length = d.dw 10 % 256 + 1 →
      (c.zoned = true → exec (.datasetManagement k rs) s = .next (u.finish d stOpcode)) ∧
      (c.zoned = false → d.dw 11 / 4 % 2 = 0 → exec (.datasetManagement k rs) s = .next (u.finish d stOk)) ∧
      (∀ r t, c.zoned = false → d.dw 11 / 4 % 2 = 1 → rs = [r] → r.1.toNat + r.2 ≤ x.nsze →
        u.trimRange n x r.1.toNat r.2 = .ok t → exec (.datasetManagement k rs) s = .next (t.finish d stOk))) ∧
    (s.Waits k false 0x79 d → d.acted = false → c.zoned = true → mine → d.dw 13 / 256 % 2 = 0 →
      d.slba % c.zoneLbas = 0 → d.slba / c.zoneLbas < c.zones → let y := d.slba / c.zoneLbas; let zy := c.firstZone + y
      u.zonesBusy d [y] = false →
      (d.dw 13 % 256 = 3 → u.preserved d = false →
        (u.zstate zy = zExpOpen → u.recordAwaits n y = false → exec (.zoneOpen k) s = .next (u.finish d stOk)) ∧
        (∀ t, u.zstate zy = zClosed → u.openZones.length < zoneLimit → u.putZoneState n y zExpOpen 2 = .ok t → t.recordAwaits n y = false →
          exec (.zoneOpen k) s = .next (t.finish d stOk)) ∧
        (∀ st, u.openAct n y = .error (some st) → exec (.zoneOpen k) s = .next (u.finish d st))) ∧
      (d.dw 13 % 256 = 3 → s.preserved d = true → exec (.zoneOpen k) s = .next (u.finish d stZoneReadOnly)) ∧
      (d.dw 13 % 256 = 1 →
        (∀ t, isOpen (u.zstate zy) = true →
          u.putZoneState n y (if u.zwp zy = 0 ∧ u.reserved zy = false then zEmpty else zClosed) 4 = .ok t → t.recordAwaits n y = false →
          exec (.zoneClose k) s = .next (t.finish d stOk)) ∧
        (∀ st, u.closeAct n y = .error (some st) → exec (.zoneClose k) s = .next (u.finish d st))) ∧
      (d.dw 13 % 256 = 2 → let v := u.finishPrep n y
        (∀ t, v.finishAct n y = .ok t → t.recordAwaits n y = false → exec (.zoneFinish k) s = .next (t.finish d stOk)) ∧
        (∀ t, v.layout n = none → isActive (v.zstate ((v.nsAt n).firstZone + y)) = true → v.reserved ((v.nsAt n).firstZone + y) = false →
          v.mzoneTry n y 4 0 = .ok t → (t.closeZoneExtent n y false).recordAwaits n y = false →
          exec (.zoneFinish k) s = .next ((t.closeZoneExtent n y false).finish d stOk)) ∧
        (∀ st, v.finishAct n y = .error (some st) → exec (.zoneFinish k) s = .next (v.finish d st))) ∧
      (d.dw 13 % 256 = 4 →
        (∀ t, u.resetAct n y = .ok t → t.recordAwaits n y = false → exec (.zoneReset k) s = .next (t.finish d stOk)) ∧
        (∀ t serial, u.zstate zy ≠ zEmpty → u.zstate zy ≠ 0 → u.reserved zy = false → u.zoneSerial n y = some serial → u.mzoneTry n y 3 0 = .ok t →
          let r := t.keepLost (fun e => !t.lostIn n y e)
          r.layout n = none → (r.releaseExtent serial).recordAwaits n y = false →
          exec (.zoneReset k) s = .next ((r.releaseExtent serial).finish d stOk)))) ∧
    (s.Waits k false 0x79 d → c.zoned = true →
      (d.dw 13 % 256 = 5 → exec (.zoneOffline k) s = .next (u.finish d stZoneTransition)) ∧
      (5 < d.dw 13 % 256 → exec (.setZoneDescriptorExtension k) s = .next (u.finish d stField))) ∧
    (s.Waits k false 0x7A d → c.zoned = true → u.actionFirst d = false → d.dw 13 % 256 = 0 → d.dw 13 / 256 % 256 ≤ 7 →
      (x.nsze ≤ d.slba → exec (.zoneManagementReceive k) s = .next (u.finish d stLbaRange)) ∧
      (d.slba < x.nsze → ∃ bs : List Byte, bs.length = (d.dw 12 + 1) * 4 ∧
        exec (.zoneManagementReceive k) s = .next ((u.toHost d 0 bs).finish d stOk))) ∧
    (s.Waits k false 0x12 d → c.zoned = false → d.dw 10 % 256 = 1 → ∃ bs : List Byte, bs.length = (d.dw 11 + 1) * 4 ∧
      exec (.ioManagementReceive k) s = .next ((u.toHost d 0 bs).finish d stOk)) ∧
    (s.Waits k false 0x1D d → c.zoned = false → d.dw 10 % 256 = 1 → d.dw 10 / 65536 = 0 →
      (∀ r, u.ruOf (x.phndls.getD 0 0) 0 = some r → exec (.reclaimUnitHandleUpdate k [0]) s = .next ((u.closeUnit r.1).finish d stOk)) ∧
      (u.ruOf (x.phndls.getD 0 0) 0 = none → exec (.reclaimUnitHandleUpdate k [0]) s = .next (u.finish d stOk)))

/-- Preserve state, aged zones and units, retry steps, rebuilds and memory errors (R259, R269, R281, R288, R290, R330,
R342, R458, R459, R460, R464, R469). While the device is up: PRESERVE_STATE_ENTRY in the fault window with the spare
blocks at or below the floor enters the preserve state, remembers the commands already fetched and closes the open
zones; PRESERVE_STATE_EXIT above it by a thousandth leaves it. A zone reserved and active for 24 hours takes its
attribute, one of 72 hours is finished; a unit of 72 hours is closed with its event. A retry step that reads the frame
of its grain hands the grain over; a failed one moves to its next step; step 4 hands over the rebuilt grain, and one
that cannot be rebuilt fails the read. FRAME_REBUILD stores a rebuilt frame again or enters it as lost.
SRAM_CORRECTED_READ of a word of an array tracks it. A DRAM error on a line that its rank holds poisons the line and
retires the rank to the channel's spare; MIGRATION_DONE shows the next migration and posts kind 3. -/
def Obligations.BackgroundResults : Prop :=
  ∀ (s : State), s.up →
    (s.preserve = false → s.win = .fault → s.rawBlocks ≠ 0 → s.spareBlocks ≤ s.floorBlocks → exec .preserveStateEntry s =
      .next (((((((s.putPreserve true).putWheld ((s.wmap.map (fun p => p.1 / 2 ^ 19)).dedup)) : State).putKept
        ((s.cmds.filter (·.unsettled)).map (fun d => (d.key, d.fsn)))) : State).closeOpenZones).asyncAll { typ := 1, info := 0, lid := 2 })) ∧
    (s.preserve = true → s.win = .fault → s.floorBlocks + ceilDiv s.rawBlocks 1000 ≤ s.spareBlocks →
      exec .preserveStateExit s = .next (((s.putPreserve false).putWheld []).putKept [])) ∧
    (∀ z, isActive (s.zstate z) = true → s.everReserved z = true →
      (24 * 256 ≤ s.zoneAge z → ∃ t : State, exec (.finishZoneRecommended z) s = .next t ∧ bit (t.zoneWord z) 5 = true ∧
        t.zstate z = s.zstate z ∧ t.zwp z = s.zwp z) ∧
      (∀ n y t, 72 * 256 ≤ s.zoneAge z → s.zoneOwner z = some (n, y) → (s.finishPrep n y).finishAct n y = .ok t →
        exec (.zoneFinishedByController z) s = .next ((t.setZone z (setFld (t.zoneWord z) 4 1 1)).hcount 22 1))) ∧
    (∀ h g r, s.ruOf h g = some r → r.2.first.getD s.alm.optime + 72 * 65536 ≤ s.alm.optime →
      exec (.ruTimeLimitExceeded h g) s = .next ((s.closeUnit r.1).fdpEvent 1 0 h g)) ∧
    (∀ k loc oc d l x, s.cmdOf k = some d → s.care.ladders.find? (fun l => decide (l.key = k) && decide (l.loc = loc)) = some l →
      s.nsi d.nsid = some x → d.settle = .live → let g := d.grain0 x + l.grain
      (∀ bs t, l.steps < 3 → oc = 0x00 ∨ oc = 0x01 → s.readFrame loc = .ok (bs, t) → tagNs t = d.nsid → tagLba t = g →
        exec (.retryLadderStep k loc oc) s =
          .next (((((s.hcount 5 1).queueSweep loc).queueRefresh loc).handOver d l.grain bs).ladderEnd d l)) ∧
      (l.steps < 3 → oc = 0x23 → s.ladderNext l oc < 3 → exec (.retryLadderStep k loc oc) s = .next (s.putCare { s.care with
          ladders := s.care.ladders.map (fun y => if y = l then { l with steps := s.ladderNext l oc } else y) })) ∧
      (3 ≤ l.steps →
        (s.grainRebuild d.nsid g loc = none → exec (.retryLadderStep k loc oc) s =
          .next ((s.loseGrain d.nsid false g loc).readFails d stUnrecovered)) ∧
        (∀ bs t, s.grainRebuild d.nsid g loc = some bs →
          (((s.hcount 7 1).queueSweep loc).queueRefresh loc).storeAgain d.nsid false g loc bs = some t →
          exec (.retryLadderStep k loc oc) s = .next ((t.handOver d l.grain bs).ladderEnd d l)))) ∧
    (∀ loc n m g, s.locOk loc = true → s.frameOwner loc = some (n, m, g) →
      (s.grainRebuild n g loc = none → exec (.frameRebuild loc) s = .next (s.loseGrain n m g loc)) ∧
      (∀ bs t, s.grainRebuild n g loc = some bs → s.storeAgain n m g loc bs = some t →
        exec (.frameRebuild loc) s = .next (((t.hcount 7 1).queueSweep loc).queueRefresh loc))) ∧
    (∀ arr word, s.sramArray arr.toNat = true → word.toNat < sramWords arr.toNat →
      exec (.sramCorrectedRead arr word) s = .next (s.rtCorrected arr.toNat word.toNat)) ∧
    (∀ ch rank line q, s.domeOn 6 = true → ch < 4 → rank < 4 → s.rankFitted ch rank = true → line * 64 < s.dramSize → s.lineOn line ch rank = true →
      let u := s.countRfld (sta 8 8) 32 16 1
      (u.rankRetired ch rank = true → exec (.dramUncorrectableError ch rank line) s = .next (u.poisonLine line)) ∧
      (u.rankRetired ch rank = false → u.noDest = false → u.dr.spare = [(ch, q)] → q ≠ rank → exec (.dramUncorrectableError ch rank line) s =
        .next ((((u.poisonLine line).putDr { (u.poisonLine line).dr with
          spare := (u.poisonLine line).dr.spare.filter (fun p => p.1 ≠ ch) }) : State).retireRank ch rank (some q)))) ∧
    (∀ ch r q l, s.dr.mig = [(ch, r, some q)] → s.domeOn 6 = true → s.logicalOf ch r = some l → l < 4 →
      ∃ t : State, exec .migrationDone s = .next (t.rasEvent 3 (ch + r * 4)) ∧ t.dr.mig = [] ∧ fld (t.reg (rmapReg ch)) (2 * l) 2 = q % 4)

/-- Reset pin, power failure, worker restarts and power-down (R360, R470, R477, R554, R565, R566, R569, R571, R572, R575,
R576, R587). The first PERST# deassertion samples the straps and brings the device up, a later one of a port held in
reset trains the host link again. PERST# assertion on a device that is no worker clears the controllers and, while it
is up, is a fault reset of cause 8. A power failure lowers READY, closes the ingot store to writes and marks the
failure; after 10 ms with the supply still there it is a fault reset of cause 9 once bring-up is done, and before that
bring-up begins again. A worker that a fault reset stopped restarts. POWER_DOWN keeps the ingot store, the namespaces,
the member map and what else is durable, and, with no program or erase under way, the dies and the pattern store; it
leaves every register, core and request, the tick and the power state as right after power-up. -/
def Obligations.PowerResults : Prop :=
  ∀ (s : State) (b : BoardPins),
    (s.boot.pwrFail = false → s.boot.strapped = false → exec (.perstDeassertion b) s = .next ((s.sampleStraps b).bringUp b)) ∧
    (s.boot.pwrFail = false → s.boot.strapped = true → s.boot.perstLow = true → s.isWorker = false → exec (.perstDeassertion b) s =
      .next (((s.putBoot { s.boot with perstLow := false }) : State).hostTrain b.hostLink)) ∧
    (s.boot.strapped = true → s.boot.perstLow = false → s.isWorker = false →
      (s.up → exec .perstAssertion s = .next
        (((((s.faultReset 8 0 0).putCtrls []).putBoot { (s.faultReset 8 0 0).boot with perstLow := true }) : State).hostDown)) ∧
      ∃ t : State, exec .perstAssertion s = .next t ∧ t.ctrls = [] ∧ t.boot.perstLow = true ∧ t.boot.down = true ∧ t.tick = s.tick) ∧
    (s.boot.pwrFail = false → ∃ t : State, exec .powerFail s = .next t ∧ t.boot.pwrFail = true ∧ bit (t.reg (sta 9 0)) 1 = true ∧
      bit (t.reg (sta 9 0)) 2 = true ∧ t.dram = s.dram ∧ t.nand = s.nand ∧ t.reqs = s.reqs) ∧
    (s.boot.pwrFail = true → let u : State := (((s.setRfld (sta 9 0) 2 1 0).setRfld (sta 9 0) 1 1 0).putBoot { s.boot with pwrFail := false })
      (s.boot.strapped = true → u.bootStep = 8 → exec (.powerFailTimeout b) s = .next (u.faultReset 9 0 0)) ∧
      (s.boot.strapped = true → u.bootStep ≠ 8 → exec (.powerFailTimeout b) s = .next (u.bringUp b)) ∧
      (s.boot.strapped = false → exec (.powerFailTimeout b) s = .next u)) ∧
    (∀ sg st, s.isWorker = true → s.faulted = true → s.boot.pwrFail = false →
      exec (.workerRestart sg st) s = .next (s.restart (startPins sg st))) ∧
    (∃ t : State, exec .powerDown s = .next t ∧ t.ingot = s.ingot ∧ t.ns = s.ns ∧ t.nsInfo = s.nsInfo ∧ t.wmap = s.wmap ∧ t.lostRanges = s.lostRanges ∧
      t.regs = State.reset.regs ∧ t.cores = State.reset.cores ∧ t.reqs = [] ∧ t.cmds = [] ∧ t.tick = 0 ∧ t.power = 0 ∧
      t.boot.strapped = false ∧ t.boot.down = true ∧
      ((∀ r ∈ s.reqs, r.phase = .started → r.prim ≠ .fprog ∧ r.prim ≠ .ferase) → s.pat.op = none → t.nor = s.nor ∧ t.nand = s.nand))

/-- Member requests, the journal, checkpoints, stripes, rebuild and reshape (R384, R407, R408, R409, R413, R414, R417,
R425, R430, R433, R436, R438). A request that waits at a worker: a GWRITE of a wrong size is answered 0x1F, a refused
one 0x64, one without a place 0x21, one whose key is missing 0x40; any other programs its units, maps them and is
answered 0. GREAD answers the grains, 0x61 for one that is not mapped and 0x30 with the unreadable ones; GTRIM unmaps;
GZONE resets, finishes or reads the member zone; STATUS answers the worker's entry and KEYWRAP the import's outcome or
the clearing's. At a manager, from its peer: a slot entry is stored at its index, a zone record is applied, and each
checkpoint kind is applied and answered 0, a transfer within a second of the last 0x64. For a volume that this manager
owns: STRIPE_SEAL seals a committed stripe; ZONE_REBUILD of the zone that ranks first rebuilds up to 4,096 stripes
from the place reached and writes its entry; a parity check whose pieces match only reads, and a wrong parity piece is
sent again with a record; a reshape starts, and passes Empty and NEW zones at once and Full ones after their copy. -/
def Obligations.ResidentSpanResults : Prop :=
  ∀ (s : State) (e : W64) (a : SpanArr), let u := s.takeEvent e
    let n := fld (a.word 1) 0 6 + 1
    (s.isWorker = true → s.Asked e 0x10 a → ∀ ps,
      let good := (s.gwriteRefuse a.vol a.addr || ps.isEmpty || s.placesOk ps (unitAddrs a.addr n).length) = true
      (good → 63 < n ∨ a.len ≠ n * 4128 → exec (.gwrite e ps) s = .next (u.reply a 0x1F [] [])) ∧
      (n ≤ 63 → a.len = n * 4128 → s.gwriteRefuse a.vol a.addr = true → u.gwriteRefuse a.vol a.addr = true →
        exec (.gwrite e ps) s = .next (u.reply a 0x64 [] [])) ∧
      (n ≤ 63 → a.len = n * 4128 → u.gwriteRefuse a.vol a.addr = false →
        (ps = [] → exec (.gwrite e ps) s = .next (u.reply a 0x21 [] [])) ∧
        (ps ≠ [] → s.placesOk ps (unitAddrs a.addr n).length = true →
          (∀ t, u.storeMember a.vol a.addr ps (framedGrains n (u.payloadOf a)) = some t → exec (.gwrite e ps) s = .next (t.reply a 0 [] [])) ∧
          (u.storeMember a.vol a.addr ps (framedGrains n (u.payloadOf a)) = none → exec (.gwrite e ps) s = .next (u.reply a 0x40 [] []))))) ∧
    (s.isWorker = true → s.Asked e 0x11 a → n ≤ 63 → ∀ bs bad miss, u.greadAll a.vol n 0 a.addr = (bs, bad, miss) →
      exec (.gread e) s = .next (if miss then u.reply a 0x61 [] [] else if bad ≠ 0 then u.reply a 0x30 [w64 bad] [] else u.reply a 0 [] bs)) ∧
    (s.isWorker = true → s.Asked e 0x12 a → exec (.gtrim e) s = .next ((u.wmapDrop a.vol a.addr (fld (a.word 1) 0 32)).reply a 0 [] [])) ∧
    (s.isWorker = true → s.Asked e 0x13 a →
      (a.zop = 3 → let t := u.wmapDrop a.vol (a.addr / 2 ^ 19 * 2 ^ 19) (2 ^ 19)
        exec (.gzoneReset e) s = .next ((t.putWfin (FMap.set notFin t.wfin (zoneKey a.vol a.addr) false) : State).reply a 0 [] [])) ∧
      (a.zop = 4 → exec (.gzoneFinish e) s = .next ((u.putWfin (FMap.set notFin u.wfin (zoneKey a.vol a.addr) true) : State).reply a 0 [] [])) ∧
      (a.zop = 5 → exec (.gzoneRead e) s =
        .next (u.reply a 0 [w64 (u.zoneGrains a.vol a.addr), w64 (b2n (u.zoneFin a.vol a.addr))] []))) ∧
    (s.isWorker = true → s.Asked e 0x16 a → let ver := u.pairVer a.src
      exec (.status e) s = .next (u.reply a 0 [] (memberEntry u.ownMember (if u.preserve || u.anyHeld then 3 else 2) u.chain u.position
        (ver / 16 * 256 + ver % 16) u.diesFitted u.rawGib u.longestHorizon u.replays 0 (tempField (max u.dieMax u.pkgMax))))) ∧
    (s.isWorker = true → s.Asked e 0x17 a → let v := fld (a.word 0) 0 16
      (a.len = 0 → ∀ m, u.slotOfNs v = some m → exec (.keywrap e) s = .next ((u.clearSlot m).reply a 0 [] [])) ∧
      (a.len = 0 → u.slotOfNs v = none → exec (.keywrap e) s = .next (u.reply a 0 [] [])) ∧
      (a.len = 80 → u.slotOfNs v = none → let bs := u.payloadOf a
        let r := u.importBind (ofBytes (bs.take 4)) v (ofBytes ((bs.drop 4).take 1)) ((bs.drop 8).take 72)
        exec (.keywrap e) s = .next (r.2.reply a r.1.toNat [] [])) ∧
      (a.len ≠ 0 → a.len ≠ 80 ∨ (u.slotOfNs v).isSome = true → exec (.keywrap e) s = .next (u.reply a 0x1F [] []))) ∧
    (s.fromPeer a = true → s.Asked e 0x14 a → (u.payloadOf a).length = 128 →
      ((a.word 0).toNat < 122880 → exec (.journal e) s =
        .next (((u.putIngot (wrBytes u.ingot (slotOff (a.word 0).toNat) (u.payloadOf a))) : State).reply a 0 [] [])) ∧
      (∀ x l t, 122880 ≤ (a.word 0).toNat → jentryOf (u.payloadOf a) = some x → u.layout x.vol = some l →
        1 < x.op ∨ x.first ≤ u.zwp (u.volZone x.vol x.zone) → u.applyRecord l x = some t → exec (.journal e) s = .next (t.reply a 0 [] []))) ∧
    (s.fromPeer a = true → s.Asked e 0x15 a → let bs := u.payloadOf a
      (a.ckKind = 1 → (u.anaGroup 1).state ≠ 3 → (u.anaGroup 2).state ≠ 3 → exec (.ckptReserveBound e) s =
        .next (((u.putPeerBound (ofBytes (bs.take 8))) : State).reply a 0 [] [])) ∧
      (∀ l, a.ckKind = 2 → layoutOf bs = some l → (u.anaGroup l.group).state ≠ 3 → exec (.ckptLayout e) s =
        .next (((u.putLayout l).peerVolume l).reply a 0 [] [])) ∧
      (a.ckKind = 3 → exec (.ckptZoneState e) s = .next ((u.setZtab (u.volZone (ofBytes ((bs.drop 4).take 2)) (ofBytes (bs.take 4)))
        (w64 (ofBytes ((bs.drop 8).take 8)))).reply a 0 [] [])) ∧
      (a.ckKind = 4 → let g := ofBytes (bs.take 1) % 4
        ((u.anaGroup g).owned = false ∨ u.justMoved g = true → exec (.ckptGroupTransfer e) s = .next (u.reply a 0x64 [] [])) ∧
        ((u.anaGroup g).owned = true → u.justMoved g = false →
          (u.groupBusy g = true → exec (.ckptGroupTransfer e) s = .next (u.setGroup g { u.anaGroup g with state := 15 })) ∧
          (u.groupBusy g = false → let t := u.ckpt 1 (toBytes 8 (u.rfld hazWsnRes 0 56))
            exec (.ckptGroupTransfer e) s = .next
              (((t.setGroup g { owned := false, state := 2, moved := some t.tick }).asyncAll anaChange).reply a 0 [] [])))) ∧
      (a.ckKind = 5 → (bs.take 32).length = 32 → u.lostRanges.length < 65536 → exec (.ckptLostRange e) s =
        .next ((u.addLost (bs.take 32)).reply a 0 [] []))) ∧
    (s.up → ∀ v z st l gs, s.layout v = some l →
      (∀ i x, s.stripeSlot v z = some (i, x) → s.ownsVolume l = true → x.stripe = st → 16 * l.k * (st + 1) ≤ s.zwp (s.volZone v z) →
        exec (.stripeSeal v z st) s = .next (s.seal l z st i)) ∧
      (∀ p q, s.firstRebuild = some (p, q, v, z) →
        let e := s.ztab (s.volZone v z)
        let cur := if bit e 7 then fld e 16 15 else 0
        let rs := if bit e 7 then fld e 8 6 else l.removed.length
        let stop := min (s.usedStripes l z) (cur + 4096)
        let t := ((List.range stop).drop cur).foldl (fun (t : State) i => t.rebuildStripe l z i gs) s
        exec (.zoneRebuild v z gs) s = .next (t.changeZtab v z (if stop = s.usedStripes l z then
          setFld (setFld (setFld (setFld e 0 6 rs) 7 1 0) 8 6 0) 16 15 0
          else setFld (setFld (setFld e 7 1 1) 8 6 rs) 16 15 stop))) ∧
      (s.ownsVolume l = true → z < l.zones → st < s.usedStripes l z → s.zstate (s.volZone v z) = zFull → l.mirror = false →
        (∀ x ∈ gs, x.rebuilt = false ∧ x.data ≠ none) →
        let r := (membersFrom (s.setNow l z) 0).foldl (fun (t : State) m => t.askGrains v m (pieceAddr z st) 16 7) s
        let acc := stripeParity l st gs
        ((List.range l.m).filter (fun p => parityWrong l st p acc gs) = [] → exec (.stripeParityCheck v z st gs) s = .next r) ∧
        (∀ p m, (List.range l.m).filter (fun p => parityWrong l st p acc gs) = [p] → ((s.setNow l z).getD (l.k + p) (none, 0)).1 = some m →
          exec (.stripeParityCheck v z st gs) s = .next ((r.sendFresh l z st (l.k + p) 0 m 7 ((List.range 16).map (fun g =>
            acc.getD (16 * p + g) zeroGrain))).residentRecord [w64 v, w64 (z * 32768 + st)]))) ∧
      (s.ownsVolume l = true → l.reshape = false → s.ownZones.any (fun p => s.zoneAwaits p.1 p.2) = false →
        l.w ≤ (s.reshapePool l).length → ((!l.removed.isEmpty && !s.freeWorkers.isEmpty) || l.serving.any s.memberPreserves) = true →
        exec (.reshapeStart v) s =
          .next (s.changeLayout { l with reshape := true, r0 := l.removed.length, bound := 0, newPool := s.reshapePool l })) ∧
      (s.ownsVolume l = true → l.reshape = true → l.bound < l.zones → s.ownZones.any (fun p => s.zoneAwaits p.1 p.2) = false →
        let b := s.volZone v l.bound
        (s.zstate b = 0 ∨ s.zstate b = zEmpty ∨ ztNew (s.ztab b) = true → exec (.reshapeZoneMove v gs) s = .next (s.passBound l)) ∧
        (s.zstate b = zFull → ztNew (s.ztab b) = false →
          let old := (membersFrom (l.setOf l.bound false) 0).dedup
          let new := membersFrom (l.setOf l.bound true) 0
          let c := s.copyZone l l.bound gs
          exec (.reshapeZoneMove v gs) s = .next (((c.changeZtab v l.bound (setBit (c.ztab b) 6 true)).passBound l).actionOn l l.bound 3
            (old.filter (fun m => !new.contains m))))))

/-- The SPDM responder answers on its transport, and sessions, owners and debug access change as the rules say (R501,
R504, R505, R506, R507, R508, R510, R511). While the straps are sampled and the device is up, every trust row sends
one response on its transport: a version always; capabilities, algorithms, digests, certificate, challenge,
measurements and key exchange once the transport has negotiated that far, a request before that an error, and a ninth
session SessionLimitExceeded. FINISH establishes a session with a key; on an established one a heartbeat renews it,
KEY_UPDATE answers, END_SESSION ends it, and KEY_IMPORT into an empty namespace of the device's own flash without a
holder binds the key and measures it; KEY_STATUS answers the slot's status; an unowned device enrolls an owner over
the sideband within 600 s, an owned one on a signature, and a used slot answers 0x11; a signed withdrawal empties a
slot; DEBUG_SET and MEASURE_EXTEND need their proved keys. A request without its session changes nothing. A session
without a heartbeat for twice its period ends. Where the message layouts are concerned, they are the model's choice
(log entries 66 to 68). -/
def Obligations.TrustResults : Prop :=
  ∀ (s : State), s.Trusted →
    (∀ x, s.Answers (.getVersion x) x (s.setStage x 1, ⟨0x04, 0, 0, [0, 2] ++ toBytes 2 0x1200 ++ toBytes 2 0x1300⟩) ∧
      (s.stage x = 0 → s.Answers (.getCapabilities x) x (s, spdmError 0x04)) ∧
      (1 ≤ s.stage x → s.Answers (.getCapabilities x) x (s.setStage x 2, ⟨0x61, 0, 0, toBytes 4 0 ++ toBytes 4 spdmFlags⟩)) ∧
      (2 ≤ s.stage x → s.Answers (.negotiateAlgorithms x) x
        (s.setStage x 3, ⟨0x63, 0, 0, toBytes 4 0x80 ++ toBytes 4 0x2 ++ toBytes 2 0x10 ++ toBytes 2 0x2⟩)) ∧
      (3 ≤ s.stage x → ∀ idx nonce leaf,
        let a := s.trngBytes 4
        let b := a.2.aliasSign
        s.Answers (.getDigests x) x (s, ⟨0x01, 0, 1, chainDigest⟩) ∧
        s.Answers (.getCertificate x 0) x (s, ⟨0x02, 0, 0, toBytes 2 128 ++ toBytes 2 0 ++ toBytes 128 Config.certChain.toNat⟩) ∧
        s.Answers (.challenge x 0) x (b.2, ⟨0x03, 0, 1, chainDigest ++ a.1 ++ toBytes 2 0 ++ b.1⟩) ∧
        (idx ≤ 16 ∨ idx = 0xFF →
          let ns := if idx = 0xFF then (List.range 16).map (· + 1) else if idx = 0 then [] else [idx]
          let blocks := ns.flatMap s.mrBlock
          s.Answers (.getMeasurements x idx nonce) x (b.2, ⟨0x60, if idx = 0 then 16 else 0, 0, toBytes 1 ns.length ++
            toBytes 3 blocks.length ++ blocks ++ a.1 ++ toBytes 2 0 ++ toBytes 32 nonce.toNat ++ b.1⟩)) ∧
        (∀ slot, s.freeSession = some slot →
          let (w, t) := s.takeFree
          let sid := (List.range 9).map (fun i => w.setWidth 32 + BitVec.ofNat 32 i) |>.find? (fun i => (t.session i).isNone) |>.getD 0
          let g := t.aliasSign
          s.Answers (.keyExchange x leaf) x ((g.2.putSessions (g.2.sessions ++
              [{ sid := sid, slot := slot, established := false, func := connFunc x, leaf := leaf, beat := t.tick }]) : State),
            ⟨0x64, 10, 0, toBytes 4 sid.toNat ++ g.1⟩)) ∧
        ((∀ n < 8, s.sessions.any (fun y => decide (y.slot = generalSlots + n)) = true) →
          s.Answers (.keyExchange x leaf) x (s, spdmError 0x0A)))) ∧
    (∀ sid, s.session sid = none → ∀ n slot perms hash on signed d,
      s.Answers (.keyStatus sid n) 2048 (s, spdmError 0x02) ∧ s.Answers (.ownerEnroll sid slot perms hash signed) 2048 (s, spdmError 0x02) ∧
      s.Answers (.debugSet sid on signed) 2048 (s, spdmError 0x02) ∧ s.Answers (.measureExtend sid d) 2048 (s, spdmError 0x02)) ∧
    (∀ sid y, s.session sid = some y → let c := connOf y.func
      (y.established = false → ∃ t : State, s.Answers (.finish sid) c (t, ⟨0x65, 0, 0, []⟩) ∧
        t.sessions = s.sessions.map (fun z => if z.sid = y.sid then { z with established := true, beat := s.tick } else z)) ∧
      (y.established = true →
        s.Answers (.finish sid) c (s, spdmError 0x04) ∧
        s.Answers (.heartbeat sid) c
          ((s.putSessions (s.sessions.map (fun z => if z.sid = y.sid then { z with beat := s.tick } else z)) : State), ⟨0x68, 0, 0, []⟩) ∧
        s.Answers (.keyUpdate sid) c (s, ⟨0x69, 1, 0, []⟩) ∧
        s.Answers (.endSession sid) c (s.dropSessions (fun z => decide (z.sid = y.sid)), ⟨0x6C, 0, 0, []⟩) ∧
        (s.spdmEnd sid).1.session sid = none ∧
        (∀ n x k, s.nsi n = some x → s.holderAt n = none → s.nsEmpty n = true → s.nsBusy n = false → s.layout n = none → s.dbgLock = false →
          ∀ wrapped kek, s.vslot y.slot = some kek → importKey kek.key wrapped = some (0, k) →
          let r := (s.clearKey n).importBind sid.toNat n 0 wrapped
          r.1 = ocDone → s.Answers (.keyImport sid n 0 wrapped) c (r.2.measureKeys n 0, vendorRsp 0x01 0 [])) ∧
        (∀ n x i, s.nsi n = some x → s.slotOfNs n = some i → s.Answers (.keyStatus sid n) c
          (s, vendorRsp 0x02 0 (toBytes 8 (s.slotStatus i).toNat ++ (((s.holderAt n).getD []) ++ List.replicate 32 0).take 32))) ∧
        (∀ k perms h signed, 1 ≤ k → k ≤ 4 →
          (s.unowned = true ∧ y.func = none ∧ s.tick.toNat ≤ 600 * s.secondTicks) ∨ (s.unowned = false ∧ signed = true) →
          (s.owner k = none → s.Answers (.ownerEnroll sid k perms h signed) c
            ((s.setOwner k (some { hash := h, img := bit perms 0, sealing := bit perms 1, admin := bit perms 2 })).setSvn k 0, vendorRsp 0x10 0 [])) ∧
          (s.owner k ≠ none → s.Answers (.ownerEnroll sid k perms h signed) c (s, vendorRsp 0x10 0x11 []))) ∧
        (∀ k o, 1 ≤ k → k ≤ 4 → s.owner k = some o → s.unowned = false →
          s.Answers (.ownerWithdraw sid k true) c (s.setOwner k none, vendorRsp 0x11 0 []) ∧
          s.Answers (.ownerWithdraw sid k false) c (s, vendorRsp 0x11 0x10 [])) ∧
        (∀ on signed, s.proves y (fun o => o.admin) = false → s.Answers (.debugSet sid on signed) c (s, vendorRsp 0x12 0x12 [])) ∧
        (∀ on, s.proves y (fun o => o.admin) = true → s.Answers (.debugSet sid on true) c
          ((s.setRfld (sta 0x13 0) 3 1 (b2n on)).putTrust { s.trust with debugNext := on }, vendorRsp 0x12 0 [])) ∧
        (∀ d, s.proves y (fun _ => true) = true → s.Answers (.measureExtend sid d) c (s.extendMr 9 (toBytes 48 d.toNat), vendorRsp 0x13 0 [])) ∧
        (y.beat.toNat + 20 * s.secondTicks ≤ s.tick.toNat →
          ∃ t : State, exec (.sessionHeartbeatTimeout sid) s = .next t ∧ t.session sid = none)))
end

