-- ==== Sys2Proof/Laws/FMap.lean ====
section
/-! SUPPORT. Laws of the finite maps: what a read answers after a write, and that every write keeps the canonical form. -/

namespace Sys2Proof.Machine

variable {α : Type} {d : Nat → α}

@[simp] theorem FMap.get_nil (k : Nat) : FMap.get d [] k = d k := rfl

@[simp] theorem FMap.get_cons_self (p : Nat × α) (r : FMap α) : FMap.get d (p :: r) p.1 = p.2 := if_pos rfl

theorem FMap.get_cons_ne (p : Nat × α) (r : FMap α) {k : Nat} (h : p.1 ≠ k) : FMap.get d (p :: r) k = FMap.get d r k := if_neg h

theorem FMap.get_insert (m : FMap α) (k j : Nat) (v : α) :
    FMap.get d (FMap.insert m k v) j = if j = k then v else FMap.get d m j := by
  have hd : ∀ q : FMap α, FMap.get d ((k, v) :: q) j = if j = k then v else FMap.get d q j := by
    intro q
    by_cases h : j = k
    · rw [if_pos h, h]; exact FMap.get_cons_self (k, v) q
    · rw [if_neg h]; exact FMap.get_cons_ne (k, v) q (Ne.symm h)
  induction m with
  | nil => exact hd []
  | cons p r ih =>
    unfold FMap.insert
    split
    · exact hd (p :: r)
    · split
      · rename_i h
        rw [hd r]
        by_cases hj : j = k
        · rw [if_pos hj, if_pos hj]
        · rw [if_neg hj, if_neg hj, FMap.get_cons_ne p r (by omega)]
      · by_cases hp : p.1 = j
        · rw [← hp, FMap.get_cons_self (p.1, p.2), if_neg (by omega)]
          exact (FMap.get_cons_self p r).symm
        · rw [FMap.get_cons_ne p r hp, ← ih]
          exact FMap.get_cons_ne (p.1, p.2) _ hp

theorem FMap.get_erase (m : FMap α) (k j : Nat) :
    FMap.get d (FMap.erase m k) j = if j = k then d k else FMap.get d m j := by
  induction m with
  | nil =>
    unfold FMap.erase
    split
    · rename_i h; rw [h]; rfl
    · rfl
  | cons p r ih =>
    unfold FMap.erase
    split
    · rename_i h
      rw [ih]
      by_cases hj : j = k
      · rw [if_pos hj, if_pos hj]
      · rw [if_neg hj, if_neg hj, FMap.get_cons_ne p r (by omega)]
    · by_cases hp : p.1 = j
      · rw [← hp, FMap.get_cons_self (p.1, p.2), if_neg (by assumption)]
        exact (FMap.get_cons_self p r).symm
      · rw [FMap.get_cons_ne p r hp, ← ih]
        exact FMap.get_cons_ne (p.1, p.2) _ hp

/-- A read after a write: the value written at its key, and what was there before at any other. -/
theorem FMap.get_set [DecidableEq α] (m : FMap α) (k j : Nat) (v : α) :
    FMap.get d (FMap.set d m k v) j = if j = k then v else FMap.get d m j := by
  unfold FMap.set
  split
  · rename_i h
    rw [FMap.get_erase, h]
  · exact FMap.get_insert m k j v

@[simp] theorem FMap.get_set_self [DecidableEq α] (m : FMap α) (k : Nat) (v : α) : FMap.get d (FMap.set d m k v) k = v := by
  rw [FMap.get_set, if_pos rfl]

theorem FMap.get_set_ne [DecidableEq α] (m : FMap α) {k j : Nat} (v : α) (h : j ≠ k) :
    FMap.get d (FMap.set d m k v) j = FMap.get d m j := by
  rw [FMap.get_set, if_neg h]

theorem FMap.get_modify [DecidableEq α] (m : FMap α) (k j : Nat) (f : α → α) :
    FMap.get d (FMap.modify d m k f) j = if j = k then f (FMap.get d m k) else FMap.get d m j :=
  FMap.get_set m k j _

/-- A read after a write of consecutive keys: the value of the list inside it, and what was there before outside. -/
theorem FMap.get_setList [DecidableEq α] (vs : List α) : ∀ (m : FMap α) (k j : Nat),
    FMap.get d (FMap.setList d m k vs) j =
      if h : k ≤ j ∧ j - k < vs.length then vs[j - k]'h.2 else FMap.get d m j := by
  induction vs with
  | nil => intro m k j; simp [FMap.setList]
  | cons v vs ih =>
    intro m k j
    rw [FMap.setList, ih]
    by_cases h1 : k + 1 ≤ j ∧ j - (k + 1) < vs.length
    · have h2 : k ≤ j ∧ j - k < (v :: vs).length := by simp only [List.length_cons]; omega
      rw [dif_pos h1, dif_pos h2]
      have e : j - k = (j - (k + 1)) + 1 := by omega
      simp only [e, List.getElem_cons_succ]
    · rw [dif_neg h1, FMap.get_set]
      by_cases h3 : j = k
      · subst h3
        simp
      · have h2 : ¬(k ≤ j ∧ j - k < (v :: vs).length) := by simp only [List.length_cons]; omega
        rw [if_neg h3, dif_neg h2]

theorem FMap.get_setList_out [DecidableEq α] (vs : List α) (m : FMap α) (k j : Nat) (h : j < k ∨ k + vs.length ≤ j) :
    FMap.get d (FMap.setList d m k vs) j = FMap.get d m j := by
  rw [FMap.get_setList, dif_neg (by omega)]

@[simp] theorem FMap.length_getList (m : FMap α) (n : Nat) : ∀ k, (FMap.getList d m k n).length = n := by
  induction n with
  | zero => intro k; rfl
  | succ n ih => intro k; simp [FMap.getList, ih]

theorem FMap.getElem_getList (m : FMap α) (n : Nat) : ∀ (k i : Nat) (h : i < (FMap.getList d m k n).length),
    (FMap.getList d m k n)[i] = FMap.get d m (k + i) := by
  induction n with
  | zero => intro k i h; simp [FMap.getList] at h
  | succ n ih =>
    intro k i h
    cases i with
    | zero => simp [FMap.getList]
    | succ i =>
      simp only [FMap.getList, List.getElem_cons_succ]
      rw [ih]
      congr 1
      omega

/-- Reading back a list that was written answers the list. -/
theorem FMap.getList_setList [DecidableEq α] (m : FMap α) (k : Nat) (vs : List α) :
    FMap.getList d (FMap.setList d m k vs) k vs.length = vs := by
  apply List.ext_getElem (by simp)
  intro i h1 h2
  rw [FMap.getElem_getList, FMap.get_setList, dif_pos (by omega)]
  simp

/-- A read outside a written range answers what was there before. -/
theorem FMap.getList_setList_out [DecidableEq α] (m : FMap α) (k j n : Nat) (vs : List α) (h : j + n ≤ k ∨ k + vs.length ≤ j) :
    FMap.getList d (FMap.setList d m k vs) j n = FMap.getList d m j n := by
  apply List.ext_getElem (by simp)
  intro i h1 h2
  simp only [FMap.length_getList] at h1
  rw [FMap.getElem_getList, FMap.getElem_getList, FMap.get_setList_out]
  omega

/-! ## The canonical form -/

theorem FMap.wfFrom_weaken [DecidableEq α] (m : FMap α) (a b : Option Nat) (h : FMap.wfFrom d b m = true)
    (hab : ∀ x, a = some x → ∃ y, b = some y ∧ x ≤ y) : FMap.wfFrom d a m = true := by
  cases m with
  | nil => rfl
  | cons p r =>
    simp only [FMap.wfFrom, Bool.and_eq_true] at h ⊢
    refine ⟨⟨?_, h.1.2⟩, h.2⟩
    cases a with
    | none => rfl
    | some x =>
      obtain ⟨y, rfl, hy⟩ := hab x rfl
      have := h.1.1
      simp only [decide_eq_true_eq] at this ⊢
      omega

theorem FMap.wfFrom_erase [DecidableEq α] (k : Nat) (m : FMap α) : ∀ lo, FMap.wfFrom d lo m = true →
    FMap.wfFrom d lo (FMap.erase m k) = true := by
  induction m with
  | nil => intro lo _; rfl
  | cons p r ih =>
    intro lo h
    simp only [FMap.wfFrom, Bool.and_eq_true] at h
    simp only [FMap.erase]
    split
    · refine ih lo (FMap.wfFrom_weaken r lo (some p.1) h.2 ?_)
      rintro x rfl
      have := h.1.1
      simp only [decide_eq_true_eq] at this
      exact ⟨p.1, rfl, by omega⟩
    · simp only [FMap.wfFrom, Bool.and_eq_true]
      exact ⟨h.1, ih _ h.2⟩

theorem FMap.wfFrom_insert [DecidableEq α] (k : Nat) (v : α) (hv : v ≠ d k) (m : FMap α) : ∀ lo, FMap.wfFrom d lo m = true →
    (∀ l, lo = some l → l < k) → FMap.wfFrom d lo (FMap.insert m k v) = true := by
  induction m with
  | nil =>
    intro lo _ hl
    cases lo with
    | none => simp [FMap.insert, FMap.wfFrom, hv]
    | some l => simp [FMap.insert, FMap.wfFrom, hv, hl l rfl]
  | cons p r ih =>
    intro lo h hl
    have h' := h
    simp only [FMap.wfFrom, Bool.and_eq_true] at h
    have low : ∀ q : FMap α, FMap.wfFrom d (some k) q = true → FMap.wfFrom d lo ((k, v) :: q) = true := by
      intro q hq
      cases lo with
      | none => simp [FMap.wfFrom, hv, hq]
      | some l => simp [FMap.wfFrom, hv, hq, hl l rfl]
    simp only [FMap.insert]
    split
    · rename_i h1
      apply low
      simp only [FMap.wfFrom, Bool.and_eq_true]
      exact ⟨⟨by simpa using h1, h.1.2⟩, h.2⟩
    · split
      · rename_i h2
        exact low r (h2 ▸ h.2)
      · simp only [FMap.wfFrom, Bool.and_eq_true]
        refine ⟨h.1, ih _ h.2 ?_⟩
        intro l e
        injection e with e
        omega

/-- A write keeps the canonical form. -/
theorem FMap.wf_set [DecidableEq α] (m : FMap α) (k : Nat) (v : α) (h : FMap.wf d m = true) : FMap.wf d (FMap.set d m k v) = true := by
  unfold FMap.set
  split
  · exact FMap.wfFrom_erase k m none h
  · rename_i hv
    exact FMap.wfFrom_insert k v hv m none h (by simp)

/-- Listing a value that an unlisted key does not read as keeps the canonical form. -/
theorem FMap.wf_insert [DecidableEq α] (m : FMap α) (k : Nat) (v : α) (hv : v ≠ d k) (h : FMap.wf d m = true) :
    FMap.wf d (FMap.insert m k v) = true :=
  FMap.wfFrom_insert k v hv m none h (by simp)

theorem FMap.wf_erase [DecidableEq α] (m : FMap α) (k : Nat) (h : FMap.wf d m = true) : FMap.wf d (FMap.erase m k) = true :=
  FMap.wfFrom_erase k m none h

theorem FMap.wf_modify [DecidableEq α] (m : FMap α) (k : Nat) (f : α → α) (h : FMap.wf d m = true) :
    FMap.wf d (FMap.modify d m k f) = true :=
  FMap.wf_set m k _ h

/-- A write of consecutive keys keeps the canonical form. -/
theorem FMap.wf_setList [DecidableEq α] (vs : List α) : ∀ (m : FMap α) (k : Nat), FMap.wf d m = true →
    FMap.wf d (FMap.setList d m k vs) = true := by
  induction vs with
  | nil => intro m k h; exact h
  | cons v vs ih => intro m k h; exact ih _ _ (FMap.wf_set m k v h)

theorem FMap.wfFrom_filter [DecidableEq α] (f : Nat × α → Bool) (m : FMap α) : ∀ lo, FMap.wfFrom d lo m = true →
    FMap.wfFrom d lo (m.filter f) = true := by
  induction m with
  | nil => intro lo _; rfl
  | cons p r ih =>
    intro lo h
    simp only [FMap.wfFrom, Bool.and_eq_true] at h
    rw [List.filter_cons]
    split
    · simp only [FMap.wfFrom, Bool.and_eq_true]
      exact ⟨h.1, ih _ h.2⟩
    · refine ih lo (FMap.wfFrom_weaken r lo (some p.1) h.2 ?_)
      rintro x rfl
      have := h.1.1
      simp only [decide_eq_true_eq] at this
      exact ⟨p.1, rfl, by omega⟩

/-- Dropping entries keeps the canonical form. -/
theorem FMap.wf_filter [DecidableEq α] (f : Nat × α → Bool) (m : FMap α) (h : FMap.wf d m = true) : FMap.wf d (m.filter f) = true :=
  FMap.wfFrom_filter f m none h

/-- A key at or below the bound of a canonical map is unlisted. -/
theorem FMap.get_lt_of_wfFrom [DecidableEq α] (m : FMap α) : ∀ (l k : Nat), FMap.wfFrom d (some l) m = true → k ≤ l →
    FMap.get d m k = d k := by
  induction m with
  | nil => intro l k _ _; rfl
  | cons p r ih =>
    intro l k h hk
    simp only [FMap.wfFrom, Bool.and_eq_true, decide_eq_true_eq] at h
    simp only [FMap.get]
    rw [if_neg (by omega)]
    exact ih p.1 k h.2 (by omega)

theorem FMap.ext_from [DecidableEq α] (m : FMap α) : ∀ (n : FMap α) (lo : Option Nat), FMap.wfFrom d lo m = true →
    FMap.wfFrom d lo n = true → (∀ k, FMap.get d m k = FMap.get d n k) → m = n := by
  induction m with
  | nil =>
    intro n lo _ hn h
    cases n with
    | nil => rfl
    | cons q r =>
      simp only [FMap.wfFrom, Bool.and_eq_true, decide_eq_true_eq] at hn
      have e := h q.1
      rw [FMap.get_cons_self] at e
      exact absurd e.symm hn.1.2
  | cons p r ih =>
    intro n lo hm hn h
    simp only [FMap.wfFrom, Bool.and_eq_true, decide_eq_true_eq] at hm
    cases n with
    | nil =>
      have e := h p.1
      rw [FMap.get_cons_self] at e
      exact absurd e hm.1.2
    | cons q t =>
      simp only [FMap.wfFrom, Bool.and_eq_true, decide_eq_true_eq] at hn
      have hp : p.1 = q.1 := by
        rcases Nat.lt_trichotomy p.1 q.1 with hlt | he | hlt
        · have e := h p.1
          rw [FMap.get_cons_self, FMap.get_cons_ne q t (by omega), FMap.get_lt_of_wfFrom t q.1 p.1 hn.2 (by omega)] at e
          exact absurd e hm.1.2
        · exact he
        · have e := h q.1
          rw [FMap.get_cons_self, FMap.get_cons_ne p r (by omega), FMap.get_lt_of_wfFrom r p.1 q.1 hm.2 (by omega)] at e
          exact absurd e.symm hn.1.2
      have hv : p.2 = q.2 := by
        have e := h p.1
        rw [FMap.get_cons_self, hp, FMap.get_cons_self] at e
        exact e
      have hr : r = t := by
        refine ih t (some p.1) hm.2 (hp ▸ hn.2) ?_
        intro k
        by_cases hk : k ≤ p.1
        · rw [FMap.get_lt_of_wfFrom r p.1 k hm.2 hk, FMap.get_lt_of_wfFrom t q.1 k hn.2 (by omega)]
        · have e := h k
          rw [FMap.get_cons_ne p r (by omega), FMap.get_cons_ne q t (by omega)] at e
          exact e
      rw [hr, Prod.ext hp hv]

/-- Equal memories are equal data: two canonical maps that read alike are one list. -/
theorem FMap.ext_of_wf [DecidableEq α] {m n : FMap α} (hm : FMap.wf d m = true) (hn : FMap.wf d n = true)
    (h : ∀ k, FMap.get d m k = FMap.get d n k) : m = n :=
  FMap.ext_from m n none hm hn h

end Sys2Proof.Machine
end

