-- ==== Sys2Proof/Laws/State.lean ====
section
/-! SUPPORT. What each update of the state or of a core gives and leaves alone, one lemma for each update, true by definition. -/

namespace Sys2Proof.Machine

@[simp] theorem State.putPending_frame (s : State) (v : List Instr) :
    (s.putPending v).free = s.free ∧ (s.putPending v).out = s.out ∧ (s.putPending v).boot = s.boot ∧
    (s.putPending v).tick = s.tick ∧ (s.putPending v).win = s.win ∧ (s.putPending v).gap = s.gap ∧
    (s.putPending v).regs = s.regs ∧ (s.putPending v).regPend = s.regPend ∧ (s.putPending v).cores = s.cores ∧
    (s.putPending v).cluster = s.cluster ∧ (s.putPending v).tun = s.tun ∧ (s.putPending v).tunBufs = s.tunBufs ∧
    (s.putPending v).tunMin = s.tunMin ∧ (s.putPending v).tunMinPend = s.tunMinPend ∧
    (s.putPending v).sramErr = s.sramErr ∧ (s.putPending v).heldBack = s.heldBack ∧ (s.putPending v).rtHit = s.rtHit ∧
    (s.putPending v).rtClock = s.rtClock ∧ (s.putPending v).rtUntracked = s.rtUntracked ∧
    (s.putPending v).dram = s.dram ∧ (s.putPending v).dr = s.dr ∧ (s.putPending v).poison = s.poison ∧
    (s.putPending v).ingot = s.ingot ∧ (s.putPending v).nor = s.nor ∧ (s.putPending v).norUnk = s.norUnk ∧
    (s.putPending v).pat = s.pat ∧ (s.putPending v).tdly = s.tdly ∧ (s.putPending v).scrub = s.scrub ∧
    (s.putPending v).fbuf = s.fbuf ∧ (s.putPending v).rings = s.rings ∧ (s.putPending v).haz = s.haz ∧
    (s.putPending v).marks = s.marks ∧ (s.putPending v).wsnFloor = s.wsnFloor ∧ (s.putPending v).health = s.health ∧
    (s.putPending v).qPend = s.qPend ∧ (s.putPending v).reqs = s.reqs ∧ (s.putPending v).aborts = s.aborts ∧
    (s.putPending v).gateShut = s.gateShut ∧ (s.putPending v).sqs = s.sqs ∧ (s.putPending v).cqs = s.cqs ∧
    (s.putPending v).cmds = s.cmds ∧ (s.putPending v).resets = s.resets ∧ (s.putPending v).ctrls = s.ctrls ∧
    (s.putPending v).arbs = s.arbs ∧ (s.putPending v).credit = s.credit ∧ (s.putPending v).taken = s.taken ∧
    (s.putPending v).fetchLeft = s.fetchLeft ∧ (s.putPending v).rotLast = s.rotLast ∧
    (s.putPending v).rotFirst = s.rotFirst ∧ (s.putPending v).hazStall = s.hazStall ∧ (s.putPending v).span = s.span ∧
    (s.putPending v).spanOut = s.spanOut ∧ (s.putPending v).spanIn = s.spanIn ∧ (s.putPending v).resOut = s.resOut ∧
    (s.putPending v).jobs = s.jobs ∧ (s.putPending v).finishing = s.finishing ∧ (s.putPending v).greads = s.greads ∧
    (s.putPending v).spanNum = s.spanNum ∧ (s.putPending v).spanArr = s.spanArr ∧ (s.putPending v).dups = s.dups ∧
    (s.putPending v).dupGen = s.dupGen ∧ (s.putPending v).rlogPos = s.rlogPos ∧ (s.putPending v).members = s.members ∧
    (s.putPending v).peerVia = s.peerVia ∧ (s.putPending v).groups = s.groups ∧
    (s.putPending v).peerBound = s.peerBound ∧ (s.putPending v).returned = s.returned ∧
    (s.putPending v).lostRanges = s.lostRanges ∧ (s.putPending v).wmap = s.wmap ∧ (s.putPending v).wfin = s.wfin ∧
    (s.putPending v).wheld = s.wheld ∧ (s.putPending v).preserve = s.preserve ∧ (s.putPending v).kept = s.kept ∧
    (s.putPending v).metaOpen = s.metaOpen ∧ (s.putPending v).portA = s.portA ∧
    (s.putPending v).restartDue = s.restartDue ∧ (s.putPending v).pings = s.pings ∧ (s.putPending v).chain = s.chain ∧
    (s.putPending v).position = s.position ∧ (s.putPending v).power = s.power ∧ (s.putPending v).powerOp = s.powerOp ∧
    (s.putPending v).fsn = s.fsn ∧ (s.putPending v).ns = s.ns ∧ (s.putPending v).volCap = s.volCap ∧
    (s.putPending v).rsv = s.rsv ∧ (s.putPending v).tokCount = s.tokCount ∧ (s.putPending v).fullZones = s.fullZones ∧
    (s.putPending v).fam = s.fam ∧ (s.putPending v).params = s.params ∧ (s.putPending v).alm = s.alm ∧
    (s.putPending v).domeEntry = s.domeEntry ∧ (s.putPending v).domeWake = s.domeWake ∧
    (s.putPending v).domeAgreed = s.domeAgreed ∧ (s.putPending v).readAt = s.readAt ∧
    (s.putPending v).sensorFail = s.sensorFail ∧ (s.putPending v).tripCount = s.tripCount ∧
    (s.putPending v).rise = s.rise ∧ (s.putPending v).stopped = s.stopped ∧ (s.putPending v).coolSince = s.coolSince ∧
    (s.putPending v).events = s.events ∧ (s.putPending v).dies = s.dies ∧ (s.putPending v).chans = s.chans ∧
    (s.putPending v).accs = s.accs ∧ (s.putPending v).ldpc = s.ldpc ∧ (s.putPending v).nand = s.nand ∧
    (s.putPending v).blkErased = s.blkErased ∧ (s.putPending v).vault = s.vault ∧
    (s.putPending v).sessions = s.sessions ∧ (s.putPending v).trngRestarts = s.trngRestarts ∧
    (s.putPending v).drbgLeft = s.drbgLeft ∧ (s.putPending v).imageId = s.imageId ∧
    (s.putPending v).verFuses = s.verFuses ∧ (s.putPending v).nsInfo = s.nsInfo ∧ (s.putPending v).care = s.care ∧
    (s.putPending v).history = s.history ∧ (s.putPending v).fw = s.fw ∧ (s.putPending v).trust = s.trust ∧
    (s.putPending v).fdp = s.fdp ∧ (s.putPending v).lostGen = s.lostGen ∧ (s.putPending v).lostAgain = s.lostAgain ∧
    (s.putPending v).accum = s.accum ∧ (s.putPending v).boundSent = s.boundSent ∧
    (s.putPending v).zoneUsed = s.zoneUsed ∧ (s.putPending v).clean = s.clean :=
  ⟨rfl, rfl, rfl, rfl, rfl, rfl, rfl, rfl, rfl, rfl, rfl, rfl, rfl, rfl, rfl, rfl, rfl, rfl, rfl, rfl, rfl, rfl, rfl,
  rfl, rfl, rfl, rfl, rfl, rfl, rfl, rfl, rfl, rfl, rfl, rfl, rfl, rfl, rfl, rfl, rfl, rfl, rfl, rfl, rfl, rfl, rfl,
  rfl, rfl, rfl, rfl, rfl, rfl, rfl, rfl, rfl, rfl, rfl, rfl, rfl, rfl, rfl, rfl, rfl, rfl, rfl, rfl, rfl, rfl, rfl,
  rfl, rfl, rfl, rfl, rfl, rfl, rfl, rfl, rfl, rfl, rfl, rfl, rfl, rfl, rfl, rfl, rfl, rfl, rfl, rfl, rfl, rfl, rfl,
  rfl, rfl, rfl, rfl, rfl, rfl, rfl, rfl, rfl, rfl, rfl, rfl, rfl, rfl, rfl, rfl, rfl, rfl, rfl, rfl, rfl, rfl, rfl,
  rfl, rfl, rfl, rfl, rfl, rfl, rfl, rfl, rfl⟩

@[simp] theorem State.putPending_pending (s : State) (v : List Instr) : (s.putPending v).pending = v := rfl

@[simp] theorem State.putFree_frame (s : State) (v : Nat) :
    (s.putFree v).pending = s.pending ∧ (s.putFree v).out = s.out ∧ (s.putFree v).boot = s.boot ∧
    (s.putFree v).tick = s.tick ∧ (s.putFree v).win = s.win ∧ (s.putFree v).gap = s.gap ∧ (s.putFree v).regs = s.regs ∧
    (s.putFree v).regPend = s.regPend ∧ (s.putFree v).cores = s.cores ∧ (s.putFree v).cluster = s.cluster ∧
    (s.putFree v).tun = s.tun ∧ (s.putFree v).tunBufs = s.tunBufs ∧ (s.putFree v).tunMin = s.tunMin ∧
    (s.putFree v).tunMinPend = s.tunMinPend ∧ (s.putFree v).sramErr = s.sramErr ∧ (s.putFree v).heldBack = s.heldBack ∧
    (s.putFree v).rtHit = s.rtHit ∧ (s.putFree v).rtClock = s.rtClock ∧ (s.putFree v).rtUntracked = s.rtUntracked ∧
    (s.putFree v).dram = s.dram ∧ (s.putFree v).dr = s.dr ∧ (s.putFree v).poison = s.poison ∧
    (s.putFree v).ingot = s.ingot ∧ (s.putFree v).nor = s.nor ∧ (s.putFree v).norUnk = s.norUnk ∧
    (s.putFree v).pat = s.pat ∧ (s.putFree v).tdly = s.tdly ∧ (s.putFree v).scrub = s.scrub ∧
    (s.putFree v).fbuf = s.fbuf ∧ (s.putFree v).rings = s.rings ∧ (s.putFree v).haz = s.haz ∧
    (s.putFree v).marks = s.marks ∧ (s.putFree v).wsnFloor = s.wsnFloor ∧ (s.putFree v).health = s.health ∧
    (s.putFree v).qPend = s.qPend ∧ (s.putFree v).reqs = s.reqs ∧ (s.putFree v).aborts = s.aborts ∧
    (s.putFree v).gateShut = s.gateShut ∧ (s.putFree v).sqs = s.sqs ∧ (s.putFree v).cqs = s.cqs ∧
    (s.putFree v).cmds = s.cmds ∧ (s.putFree v).resets = s.resets ∧ (s.putFree v).ctrls = s.ctrls ∧
    (s.putFree v).arbs = s.arbs ∧ (s.putFree v).credit = s.credit ∧ (s.putFree v).taken = s.taken ∧
    (s.putFree v).fetchLeft = s.fetchLeft ∧ (s.putFree v).rotLast = s.rotLast ∧ (s.putFree v).rotFirst = s.rotFirst ∧
    (s.putFree v).hazStall = s.hazStall ∧ (s.putFree v).span = s.span ∧ (s.putFree v).spanOut = s.spanOut ∧
    (s.putFree v).spanIn = s.spanIn ∧ (s.putFree v).resOut = s.resOut ∧ (s.putFree v).jobs = s.jobs ∧
    (s.putFree v).finishing = s.finishing ∧ (s.putFree v).greads = s.greads ∧ (s.putFree v).spanNum = s.spanNum ∧
    (s.putFree v).spanArr = s.spanArr ∧ (s.putFree v).dups = s.dups ∧ (s.putFree v).dupGen = s.dupGen ∧
    (s.putFree v).rlogPos = s.rlogPos ∧ (s.putFree v).members = s.members ∧ (s.putFree v).peerVia = s.peerVia ∧
    (s.putFree v).groups = s.groups ∧ (s.putFree v).peerBound = s.peerBound ∧ (s.putFree v).returned = s.returned ∧
    (s.putFree v).lostRanges = s.lostRanges ∧ (s.putFree v).wmap = s.wmap ∧ (s.putFree v).wfin = s.wfin ∧
    (s.putFree v).wheld = s.wheld ∧ (s.putFree v).preserve = s.preserve ∧ (s.putFree v).kept = s.kept ∧
    (s.putFree v).metaOpen = s.metaOpen ∧ (s.putFree v).portA = s.portA ∧ (s.putFree v).restartDue = s.restartDue ∧
    (s.putFree v).pings = s.pings ∧ (s.putFree v).chain = s.chain ∧ (s.putFree v).position = s.position ∧
    (s.putFree v).power = s.power ∧ (s.putFree v).powerOp = s.powerOp ∧ (s.putFree v).fsn = s.fsn ∧
    (s.putFree v).ns = s.ns ∧ (s.putFree v).volCap = s.volCap ∧ (s.putFree v).rsv = s.rsv ∧
    (s.putFree v).tokCount = s.tokCount ∧ (s.putFree v).fullZones = s.fullZones ∧ (s.putFree v).fam = s.fam ∧
    (s.putFree v).params = s.params ∧ (s.putFree v).alm = s.alm ∧ (s.putFree v).domeEntry = s.domeEntry ∧
    (s.putFree v).domeWake = s.domeWake ∧ (s.putFree v).domeAgreed = s.domeAgreed ∧ (s.putFree v).readAt = s.readAt ∧
    (s.putFree v).sensorFail = s.sensorFail ∧ (s.putFree v).tripCount = s.tripCount ∧ (s.putFree v).rise = s.rise ∧
    (s.putFree v).stopped = s.stopped ∧ (s.putFree v).coolSince = s.coolSince ∧ (s.putFree v).events = s.events ∧
    (s.putFree v).dies = s.dies ∧ (s.putFree v).chans = s.chans ∧ (s.putFree v).accs = s.accs ∧
    (s.putFree v).ldpc = s.ldpc ∧ (s.putFree v).nand = s.nand ∧ (s.putFree v).blkErased = s.blkErased ∧
    (s.putFree v).vault = s.vault ∧ (s.putFree v).sessions = s.sessions ∧ (s.putFree v).trngRestarts = s.trngRestarts ∧
    (s.putFree v).drbgLeft = s.drbgLeft ∧ (s.putFree v).imageId = s.imageId ∧ (s.putFree v).verFuses = s.verFuses ∧
    (s.putFree v).nsInfo = s.nsInfo ∧ (s.putFree v).care = s.care ∧ (s.putFree v).history = s.history ∧
    (s.putFree v).fw = s.fw ∧ (s.putFree v).trust = s.trust ∧ (s.putFree v).fdp = s.fdp ∧
    (s.putFree v).lostGen = s.lostGen ∧ (s.putFree v).lostAgain = s.lostAgain ∧ (s.putFree v).accum = s.accum ∧
    (s.putFree v).boundSent = s.boundSent ∧ (s.putFree v).zoneUsed = s.zoneUsed ∧ (s.putFree v).clean = s.clean :=
  ⟨rfl, rfl, rfl, rfl, rfl, rfl, rfl, rfl, rfl, rfl, rfl, rfl, rfl, rfl, rfl, rfl, rfl, rfl, rfl, rfl, rfl, rfl, rfl,
  rfl, rfl, rfl, rfl, rfl, rfl, rfl, rfl, rfl, rfl, rfl, rfl, rfl, rfl, rfl, rfl, rfl, rfl, rfl, rfl, rfl, rfl, rfl,
  rfl, rfl, rfl, rfl, rfl, rfl, rfl, rfl, rfl, rfl, rfl, rfl, rfl, rfl, rfl, rfl, rfl, rfl, rfl, rfl, rfl, rfl, rfl,
  rfl, rfl, rfl, rfl, rfl, rfl, rfl, rfl, rfl, rfl, rfl, rfl, rfl, rfl, rfl, rfl, rfl, rfl, rfl, rfl, rfl, rfl, rfl,
  rfl, rfl, rfl, rfl, rfl, rfl, rfl, rfl, rfl, rfl, rfl, rfl, rfl, rfl, rfl, rfl, rfl, rfl, rfl, rfl, rfl, rfl, rfl,
  rfl, rfl, rfl, rfl, rfl, rfl, rfl, rfl, rfl⟩

@[simp] theorem State.putFree_free (s : State) (v : Nat) : (s.putFree v).free = v := rfl

@[simp] theorem State.putOut_frame (s : State) (v : List Out) :
    (s.putOut v).pending = s.pending ∧ (s.putOut v).free = s.free ∧ (s.putOut v).boot = s.boot ∧ (s.putOut v).tick = s.tick ∧
    (s.putOut v).win = s.win ∧ (s.putOut v).gap = s.gap ∧ (s.putOut v).regs = s.regs ∧ (s.putOut v).regPend = s.regPend ∧
    (s.putOut v).cores = s.cores ∧ (s.putOut v).cluster = s.cluster ∧ (s.putOut v).tun = s.tun ∧
    (s.putOut v).tunBufs = s.tunBufs ∧ (s.putOut v).tunMin = s.tunMin ∧ (s.putOut v).tunMinPend = s.tunMinPend ∧
    (s.putOut v).sramErr = s.sramErr ∧ (s.putOut v).heldBack = s.heldBack ∧ (s.putOut v).rtHit = s.rtHit ∧
    (s.putOut v).rtClock = s.rtClock ∧ (s.putOut v).rtUntracked = s.rtUntracked ∧ (s.putOut v).dram = s.dram ∧
    (s.putOut v).dr = s.dr ∧ (s.putOut v).poison = s.poison ∧ (s.putOut v).ingot = s.ingot ∧ (s.putOut v).nor = s.nor ∧
    (s.putOut v).norUnk = s.norUnk ∧ (s.putOut v).pat = s.pat ∧ (s.putOut v).tdly = s.tdly ∧
    (s.putOut v).scrub = s.scrub ∧ (s.putOut v).fbuf = s.fbuf ∧ (s.putOut v).rings = s.rings ∧ (s.putOut v).haz = s.haz ∧
    (s.putOut v).marks = s.marks ∧ (s.putOut v).wsnFloor = s.wsnFloor ∧ (s.putOut v).health = s.health ∧
    (s.putOut v).qPend = s.qPend ∧ (s.putOut v).reqs = s.reqs ∧ (s.putOut v).aborts = s.aborts ∧
    (s.putOut v).gateShut = s.gateShut ∧ (s.putOut v).sqs = s.sqs ∧ (s.putOut v).cqs = s.cqs ∧
    (s.putOut v).cmds = s.cmds ∧ (s.putOut v).resets = s.resets ∧ (s.putOut v).ctrls = s.ctrls ∧
    (s.putOut v).arbs = s.arbs ∧ (s.putOut v).credit = s.credit ∧ (s.putOut v).taken = s.taken ∧
    (s.putOut v).fetchLeft = s.fetchLeft ∧ (s.putOut v).rotLast = s.rotLast ∧ (s.putOut v).rotFirst = s.rotFirst ∧
    (s.putOut v).hazStall = s.hazStall ∧ (s.putOut v).span = s.span ∧ (s.putOut v).spanOut = s.spanOut ∧
    (s.putOut v).spanIn = s.spanIn ∧ (s.putOut v).resOut = s.resOut ∧ (s.putOut v).jobs = s.jobs ∧
    (s.putOut v).finishing = s.finishing ∧ (s.putOut v).greads = s.greads ∧ (s.putOut v).spanNum = s.spanNum ∧
    (s.putOut v).spanArr = s.spanArr ∧ (s.putOut v).dups = s.dups ∧ (s.putOut v).dupGen = s.dupGen ∧
    (s.putOut v).rlogPos = s.rlogPos ∧ (s.putOut v).members = s.members ∧ (s.putOut v).peerVia = s.peerVia ∧
    (s.putOut v).groups = s.groups ∧ (s.putOut v).peerBound = s.peerBound ∧ (s.putOut v).returned = s.returned ∧
    (s.putOut v).lostRanges = s.lostRanges ∧ (s.putOut v).wmap = s.wmap ∧ (s.putOut v).wfin = s.wfin ∧
    (s.putOut v).wheld = s.wheld ∧ (s.putOut v).preserve = s.preserve ∧ (s.putOut v).kept = s.kept ∧
    (s.putOut v).metaOpen = s.metaOpen ∧ (s.putOut v).portA = s.portA ∧ (s.putOut v).restartDue = s.restartDue ∧
    (s.putOut v).pings = s.pings ∧ (s.putOut v).chain = s.chain ∧ (s.putOut v).position = s.position ∧
    (s.putOut v).power = s.power ∧ (s.putOut v).powerOp = s.powerOp ∧ (s.putOut v).fsn = s.fsn ∧ (s.putOut v).ns = s.ns ∧
    (s.putOut v).volCap = s.volCap ∧ (s.putOut v).rsv = s.rsv ∧ (s.putOut v).tokCount = s.tokCount ∧
    (s.putOut v).fullZones = s.fullZones ∧ (s.putOut v).fam = s.fam ∧ (s.putOut v).params = s.params ∧
    (s.putOut v).alm = s.alm ∧ (s.putOut v).domeEntry = s.domeEntry ∧ (s.putOut v).domeWake = s.domeWake ∧
    (s.putOut v).domeAgreed = s.domeAgreed ∧ (s.putOut v).readAt = s.readAt ∧ (s.putOut v).sensorFail = s.sensorFail ∧
    (s.putOut v).tripCount = s.tripCount ∧ (s.putOut v).rise = s.rise ∧ (s.putOut v).stopped = s.stopped ∧
    (s.putOut v).coolSince = s.coolSince ∧ (s.putOut v).events = s.events ∧ (s.putOut v).dies = s.dies ∧
    (s.putOut v).chans = s.chans ∧ (s.putOut v).accs = s.accs ∧ (s.putOut v).ldpc = s.ldpc ∧ (s.putOut v).nand = s.nand ∧
    (s.putOut v).blkErased = s.blkErased ∧ (s.putOut v).vault = s.vault ∧ (s.putOut v).sessions = s.sessions ∧
    (s.putOut v).trngRestarts = s.trngRestarts ∧ (s.putOut v).drbgLeft = s.drbgLeft ∧ (s.putOut v).imageId = s.imageId ∧
    (s.putOut v).verFuses = s.verFuses ∧ (s.putOut v).nsInfo = s.nsInfo ∧ (s.putOut v).care = s.care ∧
    (s.putOut v).history = s.history ∧ (s.putOut v).fw = s.fw ∧ (s.putOut v).trust = s.trust ∧ (s.putOut v).fdp = s.fdp ∧
    (s.putOut v).lostGen = s.lostGen ∧ (s.putOut v).lostAgain = s.lostAgain ∧ (s.putOut v).accum = s.accum ∧
    (s.putOut v).boundSent = s.boundSent ∧ (s.putOut v).zoneUsed = s.zoneUsed ∧ (s.putOut v).clean = s.clean :=
  ⟨rfl, rfl, rfl, rfl, rfl, rfl, rfl, rfl, rfl, rfl, rfl, rfl, rfl, rfl, rfl, rfl, rfl, rfl, rfl, rfl, rfl, rfl, rfl,
  rfl, rfl, rfl, rfl, rfl, rfl, rfl, rfl, rfl, rfl, rfl, rfl, rfl, rfl, rfl, rfl, rfl, rfl, rfl, rfl, rfl, rfl, rfl,
  rfl, rfl, rfl, rfl, rfl, rfl, rfl, rfl, rfl, rfl, rfl, rfl, rfl, rfl, rfl, rfl, rfl, rfl, rfl, rfl, rfl, rfl, rfl,
  rfl, rfl, rfl, rfl, rfl, rfl, rfl, rfl, rfl, rfl, rfl, rfl, rfl, rfl, rfl, rfl, rfl, rfl, rfl, rfl, rfl, rfl, rfl,
  rfl, rfl, rfl, rfl, rfl, rfl, rfl, rfl, rfl, rfl, rfl, rfl, rfl, rfl, rfl, rfl, rfl, rfl, rfl, rfl, rfl, rfl, rfl,
  rfl, rfl, rfl, rfl, rfl, rfl, rfl, rfl, rfl⟩

@[simp] theorem State.putOut_out (s : State) (v : List Out) : (s.putOut v).out = v := rfl

@[simp] theorem State.putBoot_frame (s : State) (v : Boot) :
    (s.putBoot v).pending = s.pending ∧ (s.putBoot v).free = s.free ∧ (s.putBoot v).out = s.out ∧
    (s.putBoot v).tick = s.tick ∧ (s.putBoot v).win = s.win ∧ (s.putBoot v).gap = s.gap ∧ (s.putBoot v).regs = s.regs ∧
    (s.putBoot v).regPend = s.regPend ∧ (s.putBoot v).cores = s.cores ∧ (s.putBoot v).cluster = s.cluster ∧
    (s.putBoot v).tun = s.tun ∧ (s.putBoot v).tunBufs = s.tunBufs ∧ (s.putBoot v).tunMin = s.tunMin ∧
    (s.putBoot v).tunMinPend = s.tunMinPend ∧ (s.putBoot v).sramErr = s.sramErr ∧ (s.putBoot v).heldBack = s.heldBack ∧
    (s.putBoot v).rtHit = s.rtHit ∧ (s.putBoot v).rtClock = s.rtClock ∧ (s.putBoot v).rtUntracked = s.rtUntracked ∧
    (s.putBoot v).dram = s.dram ∧ (s.putBoot v).dr = s.dr ∧ (s.putBoot v).poison = s.poison ∧
    (s.putBoot v).ingot = s.ingot ∧ (s.putBoot v).nor = s.nor ∧ (s.putBoot v).norUnk = s.norUnk ∧
    (s.putBoot v).pat = s.pat ∧ (s.putBoot v).tdly = s.tdly ∧ (s.putBoot v).scrub = s.scrub ∧
    (s.putBoot v).fbuf = s.fbuf ∧ (s.putBoot v).rings = s.rings ∧ (s.putBoot v).haz = s.haz ∧
    (s.putBoot v).marks = s.marks ∧ (s.putBoot v).wsnFloor = s.wsnFloor ∧ (s.putBoot v).health = s.health ∧
    (s.putBoot v).qPend = s.qPend ∧ (s.putBoot v).reqs = s.reqs ∧ (s.putBoot v).aborts = s.aborts ∧
    (s.putBoot v).gateShut = s.gateShut ∧ (s.putBoot v).sqs = s.sqs ∧ (s.putBoot v).cqs = s.cqs ∧
    (s.putBoot v).cmds = s.cmds ∧ (s.putBoot v).resets = s.resets ∧ (s.putBoot v).ctrls = s.ctrls ∧
    (s.putBoot v).arbs = s.arbs ∧ (s.putBoot v).credit = s.credit ∧ (s.putBoot v).taken = s.taken ∧
    (s.putBoot v).fetchLeft = s.fetchLeft ∧ (s.putBoot v).rotLast = s.rotLast ∧ (s.putBoot v).rotFirst = s.rotFirst ∧
    (s.putBoot v).hazStall = s.hazStall ∧ (s.putBoot v).span = s.span ∧ (s.putBoot v).spanOut = s.spanOut ∧
    (s.putBoot v).spanIn = s.spanIn ∧ (s.putBoot v).resOut = s.resOut ∧ (s.putBoot v).jobs = s.jobs ∧
    (s.putBoot v).finishing = s.finishing ∧ (s.putBoot v).greads = s.greads ∧ (s.putBoot v).spanNum = s.spanNum ∧
    (s.putBoot v).spanArr = s.spanArr ∧ (s.putBoot v).dups = s.dups ∧ (s.putBoot v).dupGen = s.dupGen ∧
    (s.putBoot v).rlogPos = s.rlogPos ∧ (s.putBoot v).members = s.members ∧ (s.putBoot v).peerVia = s.peerVia ∧
    (s.putBoot v).groups = s.groups ∧ (s.putBoot v).peerBound = s.peerBound ∧ (s.putBoot v).returned = s.returned ∧
    (s.putBoot v).lostRanges = s.lostRanges ∧ (s.putBoot v).wmap = s.wmap ∧ (s.putBoot v).wfin = s.wfin ∧
    (s.putBoot v).wheld = s.wheld ∧ (s.putBoot v).preserve = s.preserve ∧ (s.putBoot v).kept = s.kept ∧
    (s.putBoot v).metaOpen = s.metaOpen ∧ (s.putBoot v).portA = s.portA ∧ (s.putBoot v).restartDue = s.restartDue ∧
    (s.putBoot v).pings = s.pings ∧ (s.putBoot v).chain = s.chain ∧ (s.putBoot v).position = s.position ∧
    (s.putBoot v).power = s.power ∧ (s.putBoot v).powerOp = s.powerOp ∧ (s.putBoot v).fsn = s.fsn ∧
    (s.putBoot v).ns = s.ns ∧ (s.putBoot v).volCap = s.volCap ∧ (s.putBoot v).rsv = s.rsv ∧
    (s.putBoot v).tokCount = s.tokCount ∧ (s.putBoot v).fullZones = s.fullZones ∧ (s.putBoot v).fam = s.fam ∧
    (s.putBoot v).params = s.params ∧ (s.putBoot v).alm = s.alm ∧ (s.putBoot v).domeEntry = s.domeEntry ∧
    (s.putBoot v).domeWake = s.domeWake ∧ (s.putBoot v).domeAgreed = s.domeAgreed ∧ (s.putBoot v).readAt = s.readAt ∧
    (s.putBoot v).sensorFail = s.sensorFail ∧ (s.putBoot v).tripCount = s.tripCount ∧ (s.putBoot v).rise = s.rise ∧
    (s.putBoot v).stopped = s.stopped ∧ (s.putBoot v).coolSince = s.coolSince ∧ (s.putBoot v).events = s.events ∧
    (s.putBoot v).dies = s.dies ∧ (s.putBoot v).chans = s.chans ∧ (s.putBoot v).accs = s.accs ∧
    (s.putBoot v).ldpc = s.ldpc ∧ (s.putBoot v).nand = s.nand ∧ (s.putBoot v).blkErased = s.blkErased ∧
    (s.putBoot v).vault = s.vault ∧ (s.putBoot v).sessions = s.sessions ∧ (s.putBoot v).trngRestarts = s.trngRestarts ∧
    (s.putBoot v).drbgLeft = s.drbgLeft ∧ (s.putBoot v).imageId = s.imageId ∧ (s.putBoot v).verFuses = s.verFuses ∧
    (s.putBoot v).nsInfo = s.nsInfo ∧ (s.putBoot v).care = s.care ∧ (s.putBoot v).history = s.history ∧
    (s.putBoot v).fw = s.fw ∧ (s.putBoot v).trust = s.trust ∧ (s.putBoot v).fdp = s.fdp ∧
    (s.putBoot v).lostGen = s.lostGen ∧ (s.putBoot v).lostAgain = s.lostAgain ∧ (s.putBoot v).accum = s.accum ∧
    (s.putBoot v).boundSent = s.boundSent ∧ (s.putBoot v).zoneUsed = s.zoneUsed ∧ (s.putBoot v).clean = s.clean :=
  ⟨rfl, rfl, rfl, rfl, rfl, rfl, rfl, rfl, rfl, rfl, rfl, rfl, rfl, rfl, rfl, rfl, rfl, rfl, rfl, rfl, rfl, rfl, rfl,
  rfl, rfl, rfl, rfl, rfl, rfl, rfl, rfl, rfl, rfl, rfl, rfl, rfl, rfl, rfl, rfl, rfl, rfl, rfl, rfl, rfl, rfl, rfl,
  rfl, rfl, rfl, rfl, rfl, rfl, rfl, rfl, rfl, rfl, rfl, rfl, rfl, rfl, rfl, rfl, rfl, rfl, rfl, rfl, rfl, rfl, rfl,
  rfl, rfl, rfl, rfl, rfl, rfl, rfl, rfl, rfl, rfl, rfl, rfl, rfl, rfl, rfl, rfl, rfl, rfl, rfl, rfl, rfl, rfl, rfl,
  rfl, rfl, rfl, rfl, rfl, rfl, rfl, rfl, rfl, rfl, rfl, rfl, rfl, rfl, rfl, rfl, rfl, rfl, rfl, rfl, rfl, rfl, rfl,
  rfl, rfl, rfl, rfl, rfl, rfl, rfl, rfl, rfl⟩

@[simp] theorem State.putBoot_boot (s : State) (v : Boot) : (s.putBoot v).boot = v := rfl

@[simp] theorem State.putTick_frame (s : State) (v : W64) :
    (s.putTick v).pending = s.pending ∧ (s.putTick v).free = s.free ∧ (s.putTick v).out = s.out ∧
    (s.putTick v).boot = s.boot ∧ (s.putTick v).win = s.win ∧ (s.putTick v).gap = s.gap ∧ (s.putTick v).regs = s.regs ∧
    (s.putTick v).regPend = s.regPend ∧ (s.putTick v).cores = s.cores ∧ (s.putTick v).cluster = s.cluster ∧
    (s.putTick v).tun = s.tun ∧ (s.putTick v).tunBufs = s.tunBufs ∧ (s.putTick v).tunMin = s.tunMin ∧
    (s.putTick v).tunMinPend = s.tunMinPend ∧ (s.putTick v).sramErr = s.sramErr ∧ (s.putTick v).heldBack = s.heldBack ∧
    (s.putTick v).rtHit = s.rtHit ∧ (s.putTick v).rtClock = s.rtClock ∧ (s.putTick v).rtUntracked = s.rtUntracked ∧
    (s.putTick v).dram = s.dram ∧ (s.putTick v).dr = s.dr ∧ (s.putTick v).poison = s.poison ∧
    (s.putTick v).ingot = s.ingot ∧ (s.putTick v).nor = s.nor ∧ (s.putTick v).norUnk = s.norUnk ∧
    (s.putTick v).pat = s.pat ∧ (s.putTick v).tdly = s.tdly ∧ (s.putTick v).scrub = s.scrub ∧
    (s.putTick v).fbuf = s.fbuf ∧ (s.putTick v).rings = s.rings ∧ (s.putTick v).haz = s.haz ∧
    (s.putTick v).marks = s.marks ∧ (s.putTick v).wsnFloor = s.wsnFloor ∧ (s.putTick v).health = s.health ∧
    (s.putTick v).qPend = s.qPend ∧ (s.putTick v).reqs = s.reqs ∧ (s.putTick v).aborts = s.aborts ∧
    (s.putTick v).gateShut = s.gateShut ∧ (s.putTick v).sqs = s.sqs ∧ (s.putTick v).cqs = s.cqs ∧
    (s.putTick v).cmds = s.cmds ∧ (s.putTick v).resets = s.resets ∧ (s.putTick v).ctrls = s.ctrls ∧
    (s.putTick v).arbs = s.arbs ∧ (s.putTick v).credit = s.credit ∧ (s.putTick v).taken = s.taken ∧
    (s.putTick v).fetchLeft = s.fetchLeft ∧ (s.putTick v).rotLast = s.rotLast ∧ (s.putTick v).rotFirst = s.rotFirst ∧
    (s.putTick v).hazStall = s.hazStall ∧ (s.putTick v).span = s.span ∧ (s.putTick v).spanOut = s.spanOut ∧
    (s.putTick v).spanIn = s.spanIn ∧ (s.putTick v).resOut = s.resOut ∧ (s.putTick v).jobs = s.jobs ∧
    (s.putTick v).finishing = s.finishing ∧ (s.putTick v).greads = s.greads ∧ (s.putTick v).spanNum = s.spanNum ∧
    (s.putTick v).spanArr = s.spanArr ∧ (s.putTick v).dups = s.dups ∧ (s.putTick v).dupGen = s.dupGen ∧
    (s.putTick v).rlogPos = s.rlogPos ∧ (s.putTick v).members = s.members ∧ (s.putTick v).peerVia = s.peerVia ∧
    (s.putTick v).groups = s.groups ∧ (s.putTick v).peerBound = s.peerBound ∧ (s.putTick v).returned = s.returned ∧
    (s.putTick v).lostRanges = s.lostRanges ∧ (s.putTick v).wmap = s.wmap ∧ (s.putTick v).wfin = s.wfin ∧
    (s.putTick v).wheld = s.wheld ∧ (s.putTick v).preserve = s.preserve ∧ (s.putTick v).kept = s.kept ∧
    (s.putTick v).metaOpen = s.metaOpen ∧ (s.putTick v).portA = s.portA ∧ (s.putTick v).restartDue = s.restartDue ∧
    (s.putTick v).pings = s.pings ∧ (s.putTick v).chain = s.chain ∧ (s.putTick v).position = s.position ∧
    (s.putTick v).power = s.power ∧ (s.putTick v).powerOp = s.powerOp ∧ (s.putTick v).fsn = s.fsn ∧
    (s.putTick v).ns = s.ns ∧ (s.putTick v).volCap = s.volCap ∧ (s.putTick v).rsv = s.rsv ∧
    (s.putTick v).tokCount = s.tokCount ∧ (s.putTick v).fullZones = s.fullZones ∧ (s.putTick v).fam = s.fam ∧
    (s.putTick v).params = s.params ∧ (s.putTick v).alm = s.alm ∧ (s.putTick v).domeEntry = s.domeEntry ∧
    (s.putTick v).domeWake = s.domeWake ∧ (s.putTick v).domeAgreed = s.domeAgreed ∧ (s.putTick v).readAt = s.readAt ∧
    (s.putTick v).sensorFail = s.sensorFail ∧ (s.putTick v).tripCount = s.tripCount ∧ (s.putTick v).rise = s.rise ∧
    (s.putTick v).stopped = s.stopped ∧ (s.putTick v).coolSince = s.coolSince ∧ (s.putTick v).events = s.events ∧
    (s.putTick v).dies = s.dies ∧ (s.putTick v).chans = s.chans ∧ (s.putTick v).accs = s.accs ∧
    (s.putTick v).ldpc = s.ldpc ∧ (s.putTick v).nand = s.nand ∧ (s.putTick v).blkErased = s.blkErased ∧
    (s.putTick v).vault = s.vault ∧ (s.putTick v).sessions = s.sessions ∧ (s.putTick v).trngRestarts = s.trngRestarts ∧
    (s.putTick v).drbgLeft = s.drbgLeft ∧ (s.putTick v).imageId = s.imageId ∧ (s.putTick v).verFuses = s.verFuses ∧
    (s.putTick v).nsInfo = s.nsInfo ∧ (s.putTick v).care = s.care ∧ (s.putTick v).history = s.history ∧
    (s.putTick v).fw = s.fw ∧ (s.putTick v).trust = s.trust ∧ (s.putTick v).fdp = s.fdp ∧
    (s.putTick v).lostGen = s.lostGen ∧ (s.putTick v).lostAgain = s.lostAgain ∧ (s.putTick v).accum = s.accum ∧
    (s.putTick v).boundSent = s.boundSent ∧ (s.putTick v).zoneUsed = s.zoneUsed ∧ (s.putTick v).clean = s.clean :=
  ⟨rfl, rfl, rfl, rfl, rfl, rfl, rfl, rfl, rfl, rfl, rfl, rfl, rfl, rfl, rfl, rfl, rfl, rfl, rfl, rfl, rfl, rfl, rfl,
  rfl, rfl, rfl, rfl, rfl, rfl, rfl, rfl, rfl, rfl, rfl, rfl, rfl, rfl, rfl, rfl, rfl, rfl, rfl, rfl, rfl, rfl, rfl,
  rfl, rfl, rfl, rfl, rfl, rfl, rfl, rfl, rfl, rfl, rfl, rfl, rfl, rfl, rfl, rfl, rfl, rfl, rfl, rfl, rfl, rfl, rfl,
  rfl, rfl, rfl, rfl, rfl, rfl, rfl, rfl, rfl, rfl, rfl, rfl, rfl, rfl, rfl, rfl, rfl, rfl, rfl, rfl, rfl, rfl, rfl,
  rfl, rfl, rfl, rfl, rfl, rfl, rfl, rfl, rfl, rfl, rfl, rfl, rfl, rfl, rfl, rfl, rfl, rfl, rfl, rfl, rfl, rfl, rfl,
  rfl, rfl, rfl, rfl, rfl, rfl, rfl, rfl, rfl⟩

@[simp] theorem State.putTick_tick (s : State) (v : W64) : (s.putTick v).tick = v := rfl

@[simp] theorem State.putWin_frame (s : State) (v : Window) :
    (s.putWin v).pending = s.pending ∧ (s.putWin v).free = s.free ∧ (s.putWin v).out = s.out ∧ (s.putWin v).boot = s.boot ∧
    (s.putWin v).tick = s.tick ∧ (s.putWin v).gap = s.gap ∧ (s.putWin v).regs = s.regs ∧
    (s.putWin v).regPend = s.regPend ∧ (s.putWin v).cores = s.cores ∧ (s.putWin v).cluster = s.cluster ∧
    (s.putWin v).tun = s.tun ∧ (s.putWin v).tunBufs = s.tunBufs ∧ (s.putWin v).tunMin = s.tunMin ∧
    (s.putWin v).tunMinPend = s.tunMinPend ∧ (s.putWin v).sramErr = s.sramErr ∧ (s.putWin v).heldBack = s.heldBack ∧
    (s.putWin v).rtHit = s.rtHit ∧ (s.putWin v).rtClock = s.rtClock ∧ (s.putWin v).rtUntracked = s.rtUntracked ∧
    (s.putWin v).dram = s.dram ∧ (s.putWin v).dr = s.dr ∧ (s.putWin v).poison = s.poison ∧ (s.putWin v).ingot = s.ingot ∧
    (s.putWin v).nor = s.nor ∧ (s.putWin v).norUnk = s.norUnk ∧ (s.putWin v).pat = s.pat ∧ (s.putWin v).tdly = s.tdly ∧
    (s.putWin v).scrub = s.scrub ∧ (s.putWin v).fbuf = s.fbuf ∧ (s.putWin v).rings = s.rings ∧ (s.putWin v).haz = s.haz ∧
    (s.putWin v).marks = s.marks ∧ (s.putWin v).wsnFloor = s.wsnFloor ∧ (s.putWin v).health = s.health ∧
    (s.putWin v).qPend = s.qPend ∧ (s.putWin v).reqs = s.reqs ∧ (s.putWin v).aborts = s.aborts ∧
    (s.putWin v).gateShut = s.gateShut ∧ (s.putWin v).sqs = s.sqs ∧ (s.putWin v).cqs = s.cqs ∧
    (s.putWin v).cmds = s.cmds ∧ (s.putWin v).resets = s.resets ∧ (s.putWin v).ctrls = s.ctrls ∧
    (s.putWin v).arbs = s.arbs ∧ (s.putWin v).credit = s.credit ∧ (s.putWin v).taken = s.taken ∧
    (s.putWin v).fetchLeft = s.fetchLeft ∧ (s.putWin v).rotLast = s.rotLast ∧ (s.putWin v).rotFirst = s.rotFirst ∧
    (s.putWin v).hazStall = s.hazStall ∧ (s.putWin v).span = s.span ∧ (s.putWin v).spanOut = s.spanOut ∧
    (s.putWin v).spanIn = s.spanIn ∧ (s.putWin v).resOut = s.resOut ∧ (s.putWin v).jobs = s.jobs ∧
    (s.putWin v).finishing = s.finishing ∧ (s.putWin v).greads = s.greads ∧ (s.putWin v).spanNum = s.spanNum ∧
    (s.putWin v).spanArr = s.spanArr ∧ (s.putWin v).dups = s.dups ∧ (s.putWin v).dupGen = s.dupGen ∧
    (s.putWin v).rlogPos = s.rlogPos ∧ (s.putWin v).members = s.members ∧ (s.putWin v).peerVia = s.peerVia ∧
    (s.putWin v).groups = s.groups ∧ (s.putWin v).peerBound = s.peerBound ∧ (s.putWin v).returned = s.returned ∧
    (s.putWin v).lostRanges = s.lostRanges ∧ (s.putWin v).wmap = s.wmap ∧ (s.putWin v).wfin = s.wfin ∧
    (s.putWin v).wheld = s.wheld ∧ (s.putWin v).preserve = s.preserve ∧ (s.putWin v).kept = s.kept ∧
    (s.putWin v).metaOpen = s.metaOpen ∧ (s.putWin v).portA = s.portA ∧ (s.putWin v).restartDue = s.restartDue ∧
    (s.putWin v).pings = s.pings ∧ (s.putWin v).chain = s.chain ∧ (s.putWin v).position = s.position ∧
    (s.putWin v).power = s.power ∧ (s.putWin v).powerOp = s.powerOp ∧ (s.putWin v).fsn = s.fsn ∧ (s.putWin v).ns = s.ns ∧
    (s.putWin v).volCap = s.volCap ∧ (s.putWin v).rsv = s.rsv ∧ (s.putWin v).tokCount = s.tokCount ∧
    (s.putWin v).fullZones = s.fullZones ∧ (s.putWin v).fam = s.fam ∧ (s.putWin v).params = s.params ∧
    (s.putWin v).alm = s.alm ∧ (s.putWin v).domeEntry = s.domeEntry ∧ (s.putWin v).domeWake = s.domeWake ∧
    (s.putWin v).domeAgreed = s.domeAgreed ∧ (s.putWin v).readAt = s.readAt ∧ (s.putWin v).sensorFail = s.sensorFail ∧
    (s.putWin v).tripCount = s.tripCount ∧ (s.putWin v).rise = s.rise ∧ (s.putWin v).stopped = s.stopped ∧
    (s.putWin v).coolSince = s.coolSince ∧ (s.putWin v).events = s.events ∧ (s.putWin v).dies = s.dies ∧
    (s.putWin v).chans = s.chans ∧ (s.putWin v).accs = s.accs ∧ (s.putWin v).ldpc = s.ldpc ∧ (s.putWin v).nand = s.nand ∧
    (s.putWin v).blkErased = s.blkErased ∧ (s.putWin v).vault = s.vault ∧ (s.putWin v).sessions = s.sessions ∧
    (s.putWin v).trngRestarts = s.trngRestarts ∧ (s.putWin v).drbgLeft = s.drbgLeft ∧ (s.putWin v).imageId = s.imageId ∧
    (s.putWin v).verFuses = s.verFuses ∧ (s.putWin v).nsInfo = s.nsInfo ∧ (s.putWin v).care = s.care ∧
    (s.putWin v).history = s.history ∧ (s.putWin v).fw = s.fw ∧ (s.putWin v).trust = s.trust ∧ (s.putWin v).fdp = s.fdp ∧
    (s.putWin v).lostGen = s.lostGen ∧ (s.putWin v).lostAgain = s.lostAgain ∧ (s.putWin v).accum = s.accum ∧
    (s.putWin v).boundSent = s.boundSent ∧ (s.putWin v).zoneUsed = s.zoneUsed ∧ (s.putWin v).clean = s.clean :=
  ⟨rfl, rfl, rfl, rfl, rfl, rfl, rfl, rfl, rfl, rfl, rfl, rfl, rfl, rfl, rfl, rfl, rfl, rfl, rfl, rfl, rfl, rfl, rfl,
  rfl, rfl, rfl, rfl, rfl, rfl, rfl, rfl, rfl, rfl, rfl, rfl, rfl, rfl, rfl, rfl, rfl, rfl, rfl, rfl, rfl, rfl, rfl,
  rfl, rfl, rfl, rfl, rfl, rfl, rfl, rfl, rfl, rfl, rfl, rfl, rfl, rfl, rfl, rfl, rfl, rfl, rfl, rfl, rfl, rfl, rfl,
  rfl, rfl, rfl, rfl, rfl, rfl, rfl, rfl, rfl, rfl, rfl, rfl, rfl, rfl, rfl, rfl, rfl, rfl, rfl, rfl, rfl, rfl, rfl,
  rfl, rfl, rfl, rfl, rfl, rfl, rfl, rfl, rfl, rfl, rfl, rfl, rfl, rfl, rfl, rfl, rfl, rfl, rfl, rfl, rfl, rfl, rfl,
  rfl, rfl, rfl, rfl, rfl, rfl, rfl, rfl, rfl⟩

@[simp] theorem State.putWin_win (s : State) (v : Window) : (s.putWin v).win = v := rfl

@[simp] theorem State.putGap_frame (s : State) (v : Bool) :
    (s.putGap v).pending = s.pending ∧ (s.putGap v).free = s.free ∧ (s.putGap v).out = s.out ∧ (s.putGap v).boot = s.boot ∧
    (s.putGap v).tick = s.tick ∧ (s.putGap v).win = s.win ∧ (s.putGap v).regs = s.regs ∧
    (s.putGap v).regPend = s.regPend ∧ (s.putGap v).cores = s.cores ∧ (s.putGap v).cluster = s.cluster ∧
    (s.putGap v).tun = s.tun ∧ (s.putGap v).tunBufs = s.tunBufs ∧ (s.putGap v).tunMin = s.tunMin ∧
    (s.putGap v).tunMinPend = s.tunMinPend ∧ (s.putGap v).sramErr = s.sramErr ∧ (s.putGap v).heldBack = s.heldBack ∧
    (s.putGap v).rtHit = s.rtHit ∧ (s.putGap v).rtClock = s.rtClock ∧ (s.putGap v).rtUntracked = s.rtUntracked ∧
    (s.putGap v).dram = s.dram ∧ (s.putGap v).dr = s.dr ∧ (s.putGap v).poison = s.poison ∧ (s.putGap v).ingot = s.ingot ∧
    (s.putGap v).nor = s.nor ∧ (s.putGap v).norUnk = s.norUnk ∧ (s.putGap v).pat = s.pat ∧ (s.putGap v).tdly = s.tdly ∧
    (s.putGap v).scrub = s.scrub ∧ (s.putGap v).fbuf = s.fbuf ∧ (s.putGap v).rings = s.rings ∧ (s.putGap v).haz = s.haz ∧
    (s.putGap v).marks = s.marks ∧ (s.putGap v).wsnFloor = s.wsnFloor ∧ (s.putGap v).health = s.health ∧
    (s.putGap v).qPend = s.qPend ∧ (s.putGap v).reqs = s.reqs ∧ (s.putGap v).aborts = s.aborts ∧
    (s.putGap v).gateShut = s.gateShut ∧ (s.putGap v).sqs = s.sqs ∧ (s.putGap v).cqs = s.cqs ∧
    (s.putGap v).cmds = s.cmds ∧ (s.putGap v).resets = s.resets ∧ (s.putGap v).ctrls = s.ctrls ∧
    (s.putGap v).arbs = s.arbs ∧ (s.putGap v).credit = s.credit ∧ (s.putGap v).taken = s.taken ∧
    (s.putGap v).fetchLeft = s.fetchLeft ∧ (s.putGap v).rotLast = s.rotLast ∧ (s.putGap v).rotFirst = s.rotFirst ∧
    (s.putGap v).hazStall = s.hazStall ∧ (s.putGap v).span = s.span ∧ (s.putGap v).spanOut = s.spanOut ∧
    (s.putGap v).spanIn = s.spanIn ∧ (s.putGap v).resOut = s.resOut ∧ (s.putGap v).jobs = s.jobs ∧
    (s.putGap v).finishing = s.finishing ∧ (s.putGap v).greads = s.greads ∧ (s.putGap v).spanNum = s.spanNum ∧
    (s.putGap v).spanArr = s.spanArr ∧ (s.putGap v).dups = s.dups ∧ (s.putGap v).dupGen = s.dupGen ∧
    (s.putGap v).rlogPos = s.rlogPos ∧ (s.putGap v).members = s.members ∧ (s.putGap v).peerVia = s.peerVia ∧
    (s.putGap v).groups = s.groups ∧ (s.putGap v).peerBound = s.peerBound ∧ (s.putGap v).returned = s.returned ∧
    (s.putGap v).lostRanges = s.lostRanges ∧ (s.putGap v).wmap = s.wmap ∧ (s.putGap v).wfin = s.wfin ∧
    (s.putGap v).wheld = s.wheld ∧ (s.putGap v).preserve = s.preserve ∧ (s.putGap v).kept = s.kept ∧
    (s.putGap v).metaOpen = s.metaOpen ∧ (s.putGap v).portA = s.portA ∧ (s.putGap v).restartDue = s.restartDue ∧
    (s.putGap v).pings = s.pings ∧ (s.putGap v).chain = s.chain ∧ (s.putGap v).position = s.position ∧
    (s.putGap v).power = s.power ∧ (s.putGap v).powerOp = s.powerOp ∧ (s.putGap v).fsn = s.fsn ∧ (s.putGap v).ns = s.ns ∧
    (s.putGap v).volCap = s.volCap ∧ (s.putGap v).rsv = s.rsv ∧ (s.putGap v).tokCount = s.tokCount ∧
    (s.putGap v).fullZones = s.fullZones ∧ (s.putGap v).fam = s.fam ∧ (s.putGap v).params = s.params ∧
    (s.putGap v).alm = s.alm ∧ (s.putGap v).domeEntry = s.domeEntry ∧ (s.putGap v).domeWake = s.domeWake ∧
    (s.putGap v).domeAgreed = s.domeAgreed ∧ (s.putGap v).readAt = s.readAt ∧ (s.putGap v).sensorFail = s.sensorFail ∧
    (s.putGap v).tripCount = s.tripCount ∧ (s.putGap v).rise = s.rise ∧ (s.putGap v).stopped = s.stopped ∧
    (s.putGap v).coolSince = s.coolSince ∧ (s.putGap v).events = s.events ∧ (s.putGap v).dies = s.dies ∧
    (s.putGap v).chans = s.chans ∧ (s.putGap v).accs = s.accs ∧ (s.putGap v).ldpc = s.ldpc ∧ (s.putGap v).nand = s.nand ∧
    (s.putGap v).blkErased = s.blkErased ∧ (s.putGap v).vault = s.vault ∧ (s.putGap v).sessions = s.sessions ∧
    (s.putGap v).trngRestarts = s.trngRestarts ∧ (s.putGap v).drbgLeft = s.drbgLeft ∧ (s.putGap v).imageId = s.imageId ∧
    (s.putGap v).verFuses = s.verFuses ∧ (s.putGap v).nsInfo = s.nsInfo ∧ (s.putGap v).care = s.care ∧
    (s.putGap v).history = s.history ∧ (s.putGap v).fw = s.fw ∧ (s.putGap v).trust = s.trust ∧ (s.putGap v).fdp = s.fdp ∧
    (s.putGap v).lostGen = s.lostGen ∧ (s.putGap v).lostAgain = s.lostAgain ∧ (s.putGap v).accum = s.accum ∧
    (s.putGap v).boundSent = s.boundSent ∧ (s.putGap v).zoneUsed = s.zoneUsed ∧ (s.putGap v).clean = s.clean :=
  ⟨rfl, rfl, rfl, rfl, rfl, rfl, rfl, rfl, rfl, rfl, rfl, rfl, rfl, rfl, rfl, rfl, rfl, rfl, rfl, rfl, rfl, rfl, rfl,
  rfl, rfl, rfl, rfl, rfl, rfl, rfl, rfl, rfl, rfl, rfl, rfl, rfl, rfl, rfl, rfl, rfl, rfl, rfl, rfl, rfl, rfl, rfl,
  rfl, rfl, rfl, rfl, rfl, rfl, rfl, rfl, rfl, rfl, rfl, rfl, rfl, rfl, rfl, rfl, rfl, rfl, rfl, rfl, rfl, rfl, rfl,
  rfl, rfl, rfl, rfl, rfl, rfl, rfl, rfl, rfl, rfl, rfl, rfl, rfl, rfl, rfl, rfl, rfl, rfl, rfl, rfl, rfl, rfl, rfl,
  rfl, rfl, rfl, rfl, rfl, rfl, rfl, rfl, rfl, rfl, rfl, rfl, rfl, rfl, rfl, rfl, rfl, rfl, rfl, rfl, rfl, rfl, rfl,
  rfl, rfl, rfl, rfl, rfl, rfl, rfl, rfl, rfl⟩

@[simp] theorem State.putGap_gap (s : State) (v : Bool) : (s.putGap v).gap = v := rfl

@[simp] theorem State.putRegs_frame (s : State) (v : FMap W64) :
    (s.putRegs v).pending = s.pending ∧ (s.putRegs v).free = s.free ∧ (s.putRegs v).out = s.out ∧
    (s.putRegs v).boot = s.boot ∧ (s.putRegs v).tick = s.tick ∧ (s.putRegs v).win = s.win ∧ (s.putRegs v).gap = s.gap ∧
    (s.putRegs v).regPend = s.regPend ∧ (s.putRegs v).cores = s.cores ∧ (s.putRegs v).cluster = s.cluster ∧
    (s.putRegs v).tun = s.tun ∧ (s.putRegs v).tunBufs = s.tunBufs ∧ (s.putRegs v).tunMin = s.tunMin ∧
    (s.putRegs v).tunMinPend = s.tunMinPend ∧ (s.putRegs v).sramErr = s.sramErr ∧ (s.putRegs v).heldBack = s.heldBack ∧
    (s.putRegs v).rtHit = s.rtHit ∧ (s.putRegs v).rtClock = s.rtClock ∧ (s.putRegs v).rtUntracked = s.rtUntracked ∧
    (s.putRegs v).dram = s.dram ∧ (s.putRegs v).dr = s.dr ∧ (s.putRegs v).poison = s.poison ∧
    (s.putRegs v).ingot = s.ingot ∧ (s.putRegs v).nor = s.nor ∧ (s.putRegs v).norUnk = s.norUnk ∧
    (s.putRegs v).pat = s.pat ∧ (s.putRegs v).tdly = s.tdly ∧ (s.putRegs v).scrub = s.scrub ∧
    (s.putRegs v).fbuf = s.fbuf ∧ (s.putRegs v).rings = s.rings ∧ (s.putRegs v).haz = s.haz ∧
    (s.putRegs v).marks = s.marks ∧ (s.putRegs v).wsnFloor = s.wsnFloor ∧ (s.putRegs v).health = s.health ∧
    (s.putRegs v).qPend = s.qPend ∧ (s.putRegs v).reqs = s.reqs ∧ (s.putRegs v).aborts = s.aborts ∧
    (s.putRegs v).gateShut = s.gateShut ∧ (s.putRegs v).sqs = s.sqs ∧ (s.putRegs v).cqs = s.cqs ∧
    (s.putRegs v).cmds = s.cmds ∧ (s.putRegs v).resets = s.resets ∧ (s.putRegs v).ctrls = s.ctrls ∧
    (s.putRegs v).arbs = s.arbs ∧ (s.putRegs v).credit = s.credit ∧ (s.putRegs v).taken = s.taken ∧
    (s.putRegs v).fetchLeft = s.fetchLeft ∧ (s.putRegs v).rotLast = s.rotLast ∧ (s.putRegs v).rotFirst = s.rotFirst ∧
    (s.putRegs v).hazStall = s.hazStall ∧ (s.putRegs v).span = s.span ∧ (s.putRegs v).spanOut = s.spanOut ∧
    (s.putRegs v).spanIn = s.spanIn ∧ (s.putRegs v).resOut = s.resOut ∧ (s.putRegs v).jobs = s.jobs ∧
    (s.putRegs v).finishing = s.finishing ∧ (s.putRegs v).greads = s.greads ∧ (s.putRegs v).spanNum = s.spanNum ∧
    (s.putRegs v).spanArr = s.spanArr ∧ (s.putRegs v).dups = s.dups ∧ (s.putRegs v).dupGen = s.dupGen ∧
    (s.putRegs v).rlogPos = s.rlogPos ∧ (s.putRegs v).members = s.members ∧ (s.putRegs v).peerVia = s.peerVia ∧
    (s.putRegs v).groups = s.groups ∧ (s.putRegs v).peerBound = s.peerBound ∧ (s.putRegs v).returned = s.returned ∧
    (s.putRegs v).lostRanges = s.lostRanges ∧ (s.putRegs v).wmap = s.wmap ∧ (s.putRegs v).wfin = s.wfin ∧
    (s.putRegs v).wheld = s.wheld ∧ (s.putRegs v).preserve = s.preserve ∧ (s.putRegs v).kept = s.kept ∧
    (s.putRegs v).metaOpen = s.metaOpen ∧ (s.putRegs v).portA = s.portA ∧ (s.putRegs v).restartDue = s.restartDue ∧
    (s.putRegs v).pings = s.pings ∧ (s.putRegs v).chain = s.chain ∧ (s.putRegs v).position = s.position ∧
    (s.putRegs v).power = s.power ∧ (s.putRegs v).powerOp = s.powerOp ∧ (s.putRegs v).fsn = s.fsn ∧
    (s.putRegs v).ns = s.ns ∧ (s.putRegs v).volCap = s.volCap ∧ (s.putRegs v).rsv = s.rsv ∧
    (s.putRegs v).tokCount = s.tokCount ∧ (s.putRegs v).fullZones = s.fullZones ∧ (s.putRegs v).fam = s.fam ∧
    (s.putRegs v).params = s.params ∧ (s.putRegs v).alm = s.alm ∧ (s.putRegs v).domeEntry = s.domeEntry ∧
    (s.putRegs v).domeWake = s.domeWake ∧ (s.putRegs v).domeAgreed = s.domeAgreed ∧ (s.putRegs v).readAt = s.readAt ∧
    (s.putRegs v).sensorFail = s.sensorFail ∧ (s.putRegs v).tripCount = s.tripCount ∧ (s.putRegs v).rise = s.rise ∧
    (s.putRegs v).stopped = s.stopped ∧ (s.putRegs v).coolSince = s.coolSince ∧ (s.putRegs v).events = s.events ∧
    (s.putRegs v).dies = s.dies ∧ (s.putRegs v).chans = s.chans ∧ (s.putRegs v).accs = s.accs ∧
    (s.putRegs v).ldpc = s.ldpc ∧ (s.putRegs v).nand = s.nand ∧ (s.putRegs v).blkErased = s.blkErased ∧
    (s.putRegs v).vault = s.vault ∧ (s.putRegs v).sessions = s.sessions ∧ (s.putRegs v).trngRestarts = s.trngRestarts ∧
    (s.putRegs v).drbgLeft = s.drbgLeft ∧ (s.putRegs v).imageId = s.imageId ∧ (s.putRegs v).verFuses = s.verFuses ∧
    (s.putRegs v).nsInfo = s.nsInfo ∧ (s.putRegs v).care = s.care ∧ (s.putRegs v).history = s.history ∧
    (s.putRegs v).fw = s.fw ∧ (s.putRegs v).trust = s.trust ∧ (s.putRegs v).fdp = s.fdp ∧
    (s.putRegs v).lostGen = s.lostGen ∧ (s.putRegs v).lostAgain = s.lostAgain ∧ (s.putRegs v).accum = s.accum ∧
    (s.putRegs v).boundSent = s.boundSent ∧ (s.putRegs v).zoneUsed = s.zoneUsed ∧ (s.putRegs v).clean = s.clean :=
  ⟨rfl, rfl, rfl, rfl, rfl, rfl, rfl, rfl, rfl, rfl, rfl, rfl, rfl, rfl, rfl, rfl, rfl, rfl, rfl, rfl, rfl, rfl, rfl,
  rfl, rfl, rfl, rfl, rfl, rfl, rfl, rfl, rfl, rfl, rfl, rfl, rfl, rfl, rfl, rfl, rfl, rfl, rfl, rfl, rfl, rfl, rfl,
  rfl, rfl, rfl, rfl, rfl, rfl, rfl, rfl, rfl, rfl, rfl, rfl, rfl, rfl, rfl, rfl, rfl, rfl, rfl, rfl, rfl, rfl, rfl,
  rfl, rfl, rfl, rfl, rfl, rfl, rfl, rfl, rfl, rfl, rfl, rfl, rfl, rfl, rfl, rfl, rfl, rfl, rfl, rfl, rfl, rfl, rfl,
  rfl, rfl, rfl, rfl, rfl, rfl, rfl, rfl, rfl, rfl, rfl, rfl, rfl, rfl, rfl, rfl, rfl, rfl, rfl, rfl, rfl, rfl, rfl,
  rfl, rfl, rfl, rfl, rfl, rfl, rfl, rfl, rfl⟩

@[simp] theorem State.putRegs_regs (s : State) (v : FMap W64) : (s.putRegs v).regs = v := rfl

@[simp] theorem State.putRegPend_frame (s : State) (v : FMap W64) :
    (s.putRegPend v).pending = s.pending ∧ (s.putRegPend v).free = s.free ∧ (s.putRegPend v).out = s.out ∧
    (s.putRegPend v).boot = s.boot ∧ (s.putRegPend v).tick = s.tick ∧ (s.putRegPend v).win = s.win ∧
    (s.putRegPend v).gap = s.gap ∧ (s.putRegPend v).regs = s.regs ∧ (s.putRegPend v).cores = s.cores ∧
    (s.putRegPend v).cluster = s.cluster ∧ (s.putRegPend v).tun = s.tun ∧ (s.putRegPend v).tunBufs = s.tunBufs ∧
    (s.putRegPend v).tunMin = s.tunMin ∧ (s.putRegPend v).tunMinPend = s.tunMinPend ∧
    (s.putRegPend v).sramErr = s.sramErr ∧ (s.putRegPend v).heldBack = s.heldBack ∧ (s.putRegPend v).rtHit = s.rtHit ∧
    (s.putRegPend v).rtClock = s.rtClock ∧ (s.putRegPend v).rtUntracked = s.rtUntracked ∧
    (s.putRegPend v).dram = s.dram ∧ (s.putRegPend v).dr = s.dr ∧ (s.putRegPend v).poison = s.poison ∧
    (s.putRegPend v).ingot = s.ingot ∧ (s.putRegPend v).nor = s.nor ∧ (s.putRegPend v).norUnk = s.norUnk ∧
    (s.putRegPend v).pat = s.pat ∧ (s.putRegPend v).tdly = s.tdly ∧ (s.putRegPend v).scrub = s.scrub ∧
    (s.putRegPend v).fbuf = s.fbuf ∧ (s.putRegPend v).rings = s.rings ∧ (s.putRegPend v).haz = s.haz ∧
    (s.putRegPend v).marks = s.marks ∧ (s.putRegPend v).wsnFloor = s.wsnFloor ∧ (s.putRegPend v).health = s.health ∧
    (s.putRegPend v).qPend = s.qPend ∧ (s.putRegPend v).reqs = s.reqs ∧ (s.putRegPend v).aborts = s.aborts ∧
    (s.putRegPend v).gateShut = s.gateShut ∧ (s.putRegPend v).sqs = s.sqs ∧ (s.putRegPend v).cqs = s.cqs ∧
    (s.putRegPend v).cmds = s.cmds ∧ (s.putRegPend v).resets = s.resets ∧ (s.putRegPend v).ctrls = s.ctrls ∧
    (s.putRegPend v).arbs = s.arbs ∧ (s.putRegPend v).credit = s.credit ∧ (s.putRegPend v).taken = s.taken ∧
    (s.putRegPend v).fetchLeft = s.fetchLeft ∧ (s.putRegPend v).rotLast = s.rotLast ∧
    (s.putRegPend v).rotFirst = s.rotFirst ∧ (s.putRegPend v).hazStall = s.hazStall ∧ (s.putRegPend v).span = s.span ∧
    (s.putRegPend v).spanOut = s.spanOut ∧ (s.putRegPend v).spanIn = s.spanIn ∧ (s.putRegPend v).resOut = s.resOut ∧
    (s.putRegPend v).jobs = s.jobs ∧ (s.putRegPend v).finishing = s.finishing ∧ (s.putRegPend v).greads = s.greads ∧
    (s.putRegPend v).spanNum = s.spanNum ∧ (s.putRegPend v).spanArr = s.spanArr ∧ (s.putRegPend v).dups = s.dups ∧
    (s.putRegPend v).dupGen = s.dupGen ∧ (s.putRegPend v).rlogPos = s.rlogPos ∧ (s.putRegPend v).members = s.members ∧
    (s.putRegPend v).peerVia = s.peerVia ∧ (s.putRegPend v).groups = s.groups ∧
    (s.putRegPend v).peerBound = s.peerBound ∧ (s.putRegPend v).returned = s.returned ∧
    (s.putRegPend v).lostRanges = s.lostRanges ∧ (s.putRegPend v).wmap = s.wmap ∧ (s.putRegPend v).wfin = s.wfin ∧
    (s.putRegPend v).wheld = s.wheld ∧ (s.putRegPend v).preserve = s.preserve ∧ (s.putRegPend v).kept = s.kept ∧
    (s.putRegPend v).metaOpen = s.metaOpen ∧ (s.putRegPend v).portA = s.portA ∧
    (s.putRegPend v).restartDue = s.restartDue ∧ (s.putRegPend v).pings = s.pings ∧ (s.putRegPend v).chain = s.chain ∧
    (s.putRegPend v).position = s.position ∧ (s.putRegPend v).power = s.power ∧ (s.putRegPend v).powerOp = s.powerOp ∧
    (s.putRegPend v).fsn = s.fsn ∧ (s.putRegPend v).ns = s.ns ∧ (s.putRegPend v).volCap = s.volCap ∧
    (s.putRegPend v).rsv = s.rsv ∧ (s.putRegPend v).tokCount = s.tokCount ∧ (s.putRegPend v).fullZones = s.fullZones ∧
    (s.putRegPend v).fam = s.fam ∧ (s.putRegPend v).params = s.params ∧ (s.putRegPend v).alm = s.alm ∧
    (s.putRegPend v).domeEntry = s.domeEntry ∧ (s.putRegPend v).domeWake = s.domeWake ∧
    (s.putRegPend v).domeAgreed = s.domeAgreed ∧ (s.putRegPend v).readAt = s.readAt ∧
    (s.putRegPend v).sensorFail = s.sensorFail ∧ (s.putRegPend v).tripCount = s.tripCount ∧
    (s.putRegPend v).rise = s.rise ∧ (s.putRegPend v).stopped = s.stopped ∧ (s.putRegPend v).coolSince = s.coolSince ∧
    (s.putRegPend v).events = s.events ∧ (s.putRegPend v).dies = s.dies ∧ (s.putRegPend v).chans = s.chans ∧
    (s.putRegPend v).accs = s.accs ∧ (s.putRegPend v).ldpc = s.ldpc ∧ (s.putRegPend v).nand = s.nand ∧
    (s.putRegPend v).blkErased = s.blkErased ∧ (s.putRegPend v).vault = s.vault ∧
    (s.putRegPend v).sessions = s.sessions ∧ (s.putRegPend v).trngRestarts = s.trngRestarts ∧
    (s.putRegPend v).drbgLeft = s.drbgLeft ∧ (s.putRegPend v).imageId = s.imageId ∧
    (s.putRegPend v).verFuses = s.verFuses ∧ (s.putRegPend v).nsInfo = s.nsInfo ∧ (s.putRegPend v).care = s.care ∧
    (s.putRegPend v).history = s.history ∧ (s.putRegPend v).fw = s.fw ∧ (s.putRegPend v).trust = s.trust ∧
    (s.putRegPend v).fdp = s.fdp ∧ (s.putRegPend v).lostGen = s.lostGen ∧ (s.putRegPend v).lostAgain = s.lostAgain ∧
    (s.putRegPend v).accum = s.accum ∧ (s.putRegPend v).boundSent = s.boundSent ∧
    (s.putRegPend v).zoneUsed = s.zoneUsed ∧ (s.putRegPend v).clean = s.clean :=
  ⟨rfl, rfl, rfl, rfl, rfl, rfl, rfl, rfl, rfl, rfl, rfl, rfl, rfl, rfl, rfl, rfl, rfl, rfl, rfl, rfl, rfl, rfl, rfl,
  rfl, rfl, rfl, rfl, rfl, rfl, rfl, rfl, rfl, rfl, rfl, rfl, rfl, rfl, rfl, rfl, rfl, rfl, rfl, rfl, rfl, rfl, rfl,
  rfl, rfl, rfl, rfl, rfl, rfl, rfl, rfl, rfl, rfl, rfl, rfl, rfl, rfl, rfl, rfl, rfl, rfl, rfl, rfl, rfl, rfl, rfl,
  rfl, rfl, rfl, rfl, rfl, rfl, rfl, rfl, rfl, rfl, rfl, rfl, rfl, rfl, rfl, rfl, rfl, rfl, rfl, rfl, rfl, rfl, rfl,
  rfl, rfl, rfl, rfl, rfl, rfl, rfl, rfl, rfl, rfl, rfl, rfl, rfl, rfl, rfl, rfl, rfl, rfl, rfl, rfl, rfl, rfl, rfl,
  rfl, rfl, rfl, rfl, rfl, rfl, rfl, rfl, rfl⟩

@[simp] theorem State.putRegPend_regPend (s : State) (v : FMap W64) : (s.putRegPend v).regPend = v := rfl

@[simp] theorem State.putCores_frame (s : State) (v : FMap Core) :
    (s.putCores v).pending = s.pending ∧ (s.putCores v).free = s.free ∧ (s.putCores v).out = s.out ∧
    (s.putCores v).boot = s.boot ∧ (s.putCores v).tick = s.tick ∧ (s.putCores v).win = s.win ∧
    (s.putCores v).gap = s.gap ∧ (s.putCores v).regs = s.regs ∧ (s.putCores v).regPend = s.regPend ∧
    (s.putCores v).cluster = s.cluster ∧ (s.putCores v).tun = s.tun ∧ (s.putCores v).tunBufs = s.tunBufs ∧
    (s.putCores v).tunMin = s.tunMin ∧ (s.putCores v).tunMinPend = s.tunMinPend ∧ (s.putCores v).sramErr = s.sramErr ∧
    (s.putCores v).heldBack = s.heldBack ∧ (s.putCores v).rtHit = s.rtHit ∧ (s.putCores v).rtClock = s.rtClock ∧
    (s.putCores v).rtUntracked = s.rtUntracked ∧ (s.putCores v).dram = s.dram ∧ (s.putCores v).dr = s.dr ∧
    (s.putCores v).poison = s.poison ∧ (s.putCores v).ingot = s.ingot ∧ (s.putCores v).nor = s.nor ∧
    (s.putCores v).norUnk = s.norUnk ∧ (s.putCores v).pat = s.pat ∧ (s.putCores v).tdly = s.tdly ∧
    (s.putCores v).scrub = s.scrub ∧ (s.putCores v).fbuf = s.fbuf ∧ (s.putCores v).rings = s.rings ∧
    (s.putCores v).haz = s.haz ∧ (s.putCores v).marks = s.marks ∧ (s.putCores v).wsnFloor = s.wsnFloor ∧
    (s.putCores v).health = s.health ∧ (s.putCores v).qPend = s.qPend ∧ (s.putCores v).reqs = s.reqs ∧
    (s.putCores v).aborts = s.aborts ∧ (s.putCores v).gateShut = s.gateShut ∧ (s.putCores v).sqs = s.sqs ∧
    (s.putCores v).cqs = s.cqs ∧ (s.putCores v).cmds = s.cmds ∧ (s.putCores v).resets = s.resets ∧
    (s.putCores v).ctrls = s.ctrls ∧ (s.putCores v).arbs = s.arbs ∧ (s.putCores v).credit = s.credit ∧
    (s.putCores v).taken = s.taken ∧ (s.putCores v).fetchLeft = s.fetchLeft ∧ (s.putCores v).rotLast = s.rotLast ∧
    (s.putCores v).rotFirst = s.rotFirst ∧ (s.putCores v).hazStall = s.hazStall ∧ (s.putCores v).span = s.span ∧
    (s.putCores v).spanOut = s.spanOut ∧ (s.putCores v).spanIn = s.spanIn ∧ (s.putCores v).resOut = s.resOut ∧
    (s.putCores v).jobs = s.jobs ∧ (s.putCores v).finishing = s.finishing ∧ (s.putCores v).greads = s.greads ∧
    (s.putCores v).spanNum = s.spanNum ∧ (s.putCores v).spanArr = s.spanArr ∧ (s.putCores v).dups = s.dups ∧
    (s.putCores v).dupGen = s.dupGen ∧ (s.putCores v).rlogPos = s.rlogPos ∧ (s.putCores v).members = s.members ∧
    (s.putCores v).peerVia = s.peerVia ∧ (s.putCores v).groups = s.groups ∧ (s.putCores v).peerBound = s.peerBound ∧
    (s.putCores v).returned = s.returned ∧ (s.putCores v).lostRanges = s.lostRanges ∧ (s.putCores v).wmap = s.wmap ∧
    (s.putCores v).wfin = s.wfin ∧ (s.putCores v).wheld = s.wheld ∧ (s.putCores v).preserve = s.preserve ∧
    (s.putCores v).kept = s.kept ∧ (s.putCores v).metaOpen = s.metaOpen ∧ (s.putCores v).portA = s.portA ∧
    (s.putCores v).restartDue = s.restartDue ∧ (s.putCores v).pings = s.pings ∧ (s.putCores v).chain = s.chain ∧
    (s.putCores v).position = s.position ∧ (s.putCores v).power = s.power ∧ (s.putCores v).powerOp = s.powerOp ∧
    (s.putCores v).fsn = s.fsn ∧ (s.putCores v).ns = s.ns ∧ (s.putCores v).volCap = s.volCap ∧
    (s.putCores v).rsv = s.rsv ∧ (s.putCores v).tokCount = s.tokCount ∧ (s.putCores v).fullZones = s.fullZones ∧
    (s.putCores v).fam = s.fam ∧ (s.putCores v).params = s.params ∧ (s.putCores v).alm = s.alm ∧
    (s.putCores v).domeEntry = s.domeEntry ∧ (s.putCores v).domeWake = s.domeWake ∧
    (s.putCores v).domeAgreed = s.domeAgreed ∧ (s.putCores v).readAt = s.readAt ∧
    (s.putCores v).sensorFail = s.sensorFail ∧ (s.putCores v).tripCount = s.tripCount ∧ (s.putCores v).rise = s.rise ∧
    (s.putCores v).stopped = s.stopped ∧ (s.putCores v).coolSince = s.coolSince ∧ (s.putCores v).events = s.events ∧
    (s.putCores v).dies = s.dies ∧ (s.putCores v).chans = s.chans ∧ (s.putCores v).accs = s.accs ∧
    (s.putCores v).ldpc = s.ldpc ∧ (s.putCores v).nand = s.nand ∧ (s.putCores v).blkErased = s.blkErased ∧
    (s.putCores v).vault = s.vault ∧ (s.putCores v).sessions = s.sessions ∧
    (s.putCores v).trngRestarts = s.trngRestarts ∧ (s.putCores v).drbgLeft = s.drbgLeft ∧
    (s.putCores v).imageId = s.imageId ∧ (s.putCores v).verFuses = s.verFuses ∧ (s.putCores v).nsInfo = s.nsInfo ∧
    (s.putCores v).care = s.care ∧ (s.putCores v).history = s.history ∧ (s.putCores v).fw = s.fw ∧
    (s.putCores v).trust = s.trust ∧ (s.putCores v).fdp = s.fdp ∧ (s.putCores v).lostGen = s.lostGen ∧
    (s.putCores v).lostAgain = s.lostAgain ∧ (s.putCores v).accum = s.accum ∧ (s.putCores v).boundSent = s.boundSent ∧
    (s.putCores v).zoneUsed = s.zoneUsed ∧ (s.putCores v).clean = s.clean :=
  ⟨rfl, rfl, rfl, rfl, rfl, rfl, rfl, rfl, rfl, rfl, rfl, rfl, rfl, rfl, rfl, rfl, rfl, rfl, rfl, rfl, rfl, rfl, rfl,
  rfl, rfl, rfl, rfl, rfl, rfl, rfl, rfl, rfl, rfl, rfl, rfl, rfl, rfl, rfl, rfl, rfl, rfl, rfl, rfl, rfl, rfl, rfl,
  rfl, rfl, rfl, rfl, rfl, rfl, rfl, rfl, rfl, rfl, rfl, rfl, rfl, rfl, rfl, rfl, rfl, rfl, rfl, rfl, rfl, rfl, rfl,
  rfl, rfl, rfl, rfl, rfl, rfl, rfl, rfl, rfl, rfl, rfl, rfl, rfl, rfl, rfl, rfl, rfl, rfl, rfl, rfl, rfl, rfl, rfl,
  rfl, rfl, rfl, rfl, rfl, rfl, rfl, rfl, rfl, rfl, rfl, rfl, rfl, rfl, rfl, rfl, rfl, rfl, rfl, rfl, rfl, rfl, rfl,
  rfl, rfl, rfl, rfl, rfl, rfl, rfl, rfl, rfl⟩

@[simp] theorem State.putCores_cores (s : State) (v : FMap Core) : (s.putCores v).cores = v := rfl

@[simp] theorem State.putCluster_frame (s : State) (v : FMap Byte) :
    (s.putCluster v).pending = s.pending ∧ (s.putCluster v).free = s.free ∧ (s.putCluster v).out = s.out ∧
    (s.putCluster v).boot = s.boot ∧ (s.putCluster v).tick = s.tick ∧ (s.putCluster v).win = s.win ∧
    (s.putCluster v).gap = s.gap ∧ (s.putCluster v).regs = s.regs ∧ (s.putCluster v).regPend = s.regPend ∧
    (s.putCluster v).cores = s.cores ∧ (s.putCluster v).tun = s.tun ∧ (s.putCluster v).tunBufs = s.tunBufs ∧
    (s.putCluster v).tunMin = s.tunMin ∧ (s.putCluster v).tunMinPend = s.tunMinPend ∧
    (s.putCluster v).sramErr = s.sramErr ∧ (s.putCluster v).heldBack = s.heldBack ∧ (s.putCluster v).rtHit = s.rtHit ∧
    (s.putCluster v).rtClock = s.rtClock ∧ (s.putCluster v).rtUntracked = s.rtUntracked ∧
    (s.putCluster v).dram = s.dram ∧ (s.putCluster v).dr = s.dr ∧ (s.putCluster v).poison = s.poison ∧
    (s.putCluster v).ingot = s.ingot ∧ (s.putCluster v).nor = s.nor ∧ (s.putCluster v).norUnk = s.norUnk ∧
    (s.putCluster v).pat = s.pat ∧ (s.putCluster v).tdly = s.tdly ∧ (s.putCluster v).scrub = s.scrub ∧
    (s.putCluster v).fbuf = s.fbuf ∧ (s.putCluster v).rings = s.rings ∧ (s.putCluster v).haz = s.haz ∧
    (s.putCluster v).marks = s.marks ∧ (s.putCluster v).wsnFloor = s.wsnFloor ∧ (s.putCluster v).health = s.health ∧
    (s.putCluster v).qPend = s.qPend ∧ (s.putCluster v).reqs = s.reqs ∧ (s.putCluster v).aborts = s.aborts ∧
    (s.putCluster v).gateShut = s.gateShut ∧ (s.putCluster v).sqs = s.sqs ∧ (s.putCluster v).cqs = s.cqs ∧
    (s.putCluster v).cmds = s.cmds ∧ (s.putCluster v).resets = s.resets ∧ (s.putCluster v).ctrls = s.ctrls ∧
    (s.putCluster v).arbs = s.arbs ∧ (s.putCluster v).credit = s.credit ∧ (s.putCluster v).taken = s.taken ∧
    (s.putCluster v).fetchLeft = s.fetchLeft ∧ (s.putCluster v).rotLast = s.rotLast ∧
    (s.putCluster v).rotFirst = s.rotFirst ∧ (s.putCluster v).hazStall = s.hazStall ∧ (s.putCluster v).span = s.span ∧
    (s.putCluster v).spanOut = s.spanOut ∧ (s.putCluster v).spanIn = s.spanIn ∧ (s.putCluster v).resOut = s.resOut ∧
    (s.putCluster v).jobs = s.jobs ∧ (s.putCluster v).finishing = s.finishing ∧ (s.putCluster v).greads = s.greads ∧
    (s.putCluster v).spanNum = s.spanNum ∧ (s.putCluster v).spanArr = s.spanArr ∧ (s.putCluster v).dups = s.dups ∧
    (s.putCluster v).dupGen = s.dupGen ∧ (s.putCluster v).rlogPos = s.rlogPos ∧ (s.putCluster v).members = s.members ∧
    (s.putCluster v).peerVia = s.peerVia ∧ (s.putCluster v).groups = s.groups ∧
    (s.putCluster v).peerBound = s.peerBound ∧ (s.putCluster v).returned = s.returned ∧
    (s.putCluster v).lostRanges = s.lostRanges ∧ (s.putCluster v).wmap = s.wmap ∧ (s.putCluster v).wfin = s.wfin ∧
    (s.putCluster v).wheld = s.wheld ∧ (s.putCluster v).preserve = s.preserve ∧ (s.putCluster v).kept = s.kept ∧
    (s.putCluster v).metaOpen = s.metaOpen ∧ (s.putCluster v).portA = s.portA ∧
    (s.putCluster v).restartDue = s.restartDue ∧ (s.putCluster v).pings = s.pings ∧ (s.putCluster v).chain = s.chain ∧
    (s.putCluster v).position = s.position ∧ (s.putCluster v).power = s.power ∧ (s.putCluster v).powerOp = s.powerOp ∧
    (s.putCluster v).fsn = s.fsn ∧ (s.putCluster v).ns = s.ns ∧ (s.putCluster v).volCap = s.volCap ∧
    (s.putCluster v).rsv = s.rsv ∧ (s.putCluster v).tokCount = s.tokCount ∧ (s.putCluster v).fullZones = s.fullZones ∧
    (s.putCluster v).fam = s.fam ∧ (s.putCluster v).params = s.params ∧ (s.putCluster v).alm = s.alm ∧
    (s.putCluster v).domeEntry = s.domeEntry ∧ (s.putCluster v).domeWake = s.domeWake ∧
    (s.putCluster v).domeAgreed = s.domeAgreed ∧ (s.putCluster v).readAt = s.readAt ∧
    (s.putCluster v).sensorFail = s.sensorFail ∧ (s.putCluster v).tripCount = s.tripCount ∧
    (s.putCluster v).rise = s.rise ∧ (s.putCluster v).stopped = s.stopped ∧ (s.putCluster v).coolSince = s.coolSince ∧
    (s.putCluster v).events = s.events ∧ (s.putCluster v).dies = s.dies ∧ (s.putCluster v).chans = s.chans ∧
    (s.putCluster v).accs = s.accs ∧ (s.putCluster v).ldpc = s.ldpc ∧ (s.putCluster v).nand = s.nand ∧
    (s.putCluster v).blkErased = s.blkErased ∧ (s.putCluster v).vault = s.vault ∧
    (s.putCluster v).sessions = s.sessions ∧ (s.putCluster v).trngRestarts = s.trngRestarts ∧
    (s.putCluster v).drbgLeft = s.drbgLeft ∧ (s.putCluster v).imageId = s.imageId ∧
    (s.putCluster v).verFuses = s.verFuses ∧ (s.putCluster v).nsInfo = s.nsInfo ∧ (s.putCluster v).care = s.care ∧
    (s.putCluster v).history = s.history ∧ (s.putCluster v).fw = s.fw ∧ (s.putCluster v).trust = s.trust ∧
    (s.putCluster v).fdp = s.fdp ∧ (s.putCluster v).lostGen = s.lostGen ∧ (s.putCluster v).lostAgain = s.lostAgain ∧
    (s.putCluster v).accum = s.accum ∧ (s.putCluster v).boundSent = s.boundSent ∧
    (s.putCluster v).zoneUsed = s.zoneUsed ∧ (s.putCluster v).clean = s.clean :=
  ⟨rfl, rfl, rfl, rfl, rfl, rfl, rfl, rfl, rfl, rfl, rfl, rfl, rfl, rfl, rfl, rfl, rfl, rfl, rfl, rfl, rfl, rfl, rfl,
  rfl, rfl, rfl, rfl, rfl, rfl, rfl, rfl, rfl, rfl, rfl, rfl, rfl, rfl, rfl, rfl, rfl, rfl, rfl, rfl, rfl, rfl, rfl,
  rfl, rfl, rfl, rfl, rfl, rfl, rfl, rfl, rfl, rfl, rfl, rfl, rfl, rfl, rfl, rfl, rfl, rfl, rfl, rfl, rfl, rfl, rfl,
  rfl, rfl, rfl, rfl, rfl, rfl, rfl, rfl, rfl, rfl, rfl, rfl, rfl, rfl, rfl, rfl, rfl, rfl, rfl, rfl, rfl, rfl, rfl,
  rfl, rfl, rfl, rfl, rfl, rfl, rfl, rfl, rfl, rfl, rfl, rfl, rfl, rfl, rfl, rfl, rfl, rfl, rfl, rfl, rfl, rfl, rfl,
  rfl, rfl, rfl, rfl, rfl, rfl, rfl, rfl, rfl⟩

@[simp] theorem State.putCluster_cluster (s : State) (v : FMap Byte) : (s.putCluster v).cluster = v := rfl

@[simp] theorem State.putTun_frame (s : State) (v : FMap Byte) :
    (s.putTun v).pending = s.pending ∧ (s.putTun v).free = s.free ∧ (s.putTun v).out = s.out ∧ (s.putTun v).boot = s.boot ∧
    (s.putTun v).tick = s.tick ∧ (s.putTun v).win = s.win ∧ (s.putTun v).gap = s.gap ∧ (s.putTun v).regs = s.regs ∧
    (s.putTun v).regPend = s.regPend ∧ (s.putTun v).cores = s.cores ∧ (s.putTun v).cluster = s.cluster ∧
    (s.putTun v).tunBufs = s.tunBufs ∧ (s.putTun v).tunMin = s.tunMin ∧ (s.putTun v).tunMinPend = s.tunMinPend ∧
    (s.putTun v).sramErr = s.sramErr ∧ (s.putTun v).heldBack = s.heldBack ∧ (s.putTun v).rtHit = s.rtHit ∧
    (s.putTun v).rtClock = s.rtClock ∧ (s.putTun v).rtUntracked = s.rtUntracked ∧ (s.putTun v).dram = s.dram ∧
    (s.putTun v).dr = s.dr ∧ (s.putTun v).poison = s.poison ∧ (s.putTun v).ingot = s.ingot ∧ (s.putTun v).nor = s.nor ∧
    (s.putTun v).norUnk = s.norUnk ∧ (s.putTun v).pat = s.pat ∧ (s.putTun v).tdly = s.tdly ∧
    (s.putTun v).scrub = s.scrub ∧ (s.putTun v).fbuf = s.fbuf ∧ (s.putTun v).rings = s.rings ∧ (s.putTun v).haz = s.haz ∧
    (s.putTun v).marks = s.marks ∧ (s.putTun v).wsnFloor = s.wsnFloor ∧ (s.putTun v).health = s.health ∧
    (s.putTun v).qPend = s.qPend ∧ (s.putTun v).reqs = s.reqs ∧ (s.putTun v).aborts = s.aborts ∧
    (s.putTun v).gateShut = s.gateShut ∧ (s.putTun v).sqs = s.sqs ∧ (s.putTun v).cqs = s.cqs ∧
    (s.putTun v).cmds = s.cmds ∧ (s.putTun v).resets = s.resets ∧ (s.putTun v).ctrls = s.ctrls ∧
    (s.putTun v).arbs = s.arbs ∧ (s.putTun v).credit = s.credit ∧ (s.putTun v).taken = s.taken ∧
    (s.putTun v).fetchLeft = s.fetchLeft ∧ (s.putTun v).rotLast = s.rotLast ∧ (s.putTun v).rotFirst = s.rotFirst ∧
    (s.putTun v).hazStall = s.hazStall ∧ (s.putTun v).span = s.span ∧ (s.putTun v).spanOut = s.spanOut ∧
    (s.putTun v).spanIn = s.spanIn ∧ (s.putTun v).resOut = s.resOut ∧ (s.putTun v).jobs = s.jobs ∧
    (s.putTun v).finishing = s.finishing ∧ (s.putTun v).greads = s.greads ∧ (s.putTun v).spanNum = s.spanNum ∧
    (s.putTun v).spanArr = s.spanArr ∧ (s.putTun v).dups = s.dups ∧ (s.putTun v).dupGen = s.dupGen ∧
    (s.putTun v).rlogPos = s.rlogPos ∧ (s.putTun v).members = s.members ∧ (s.putTun v).peerVia = s.peerVia ∧
    (s.putTun v).groups = s.groups ∧ (s.putTun v).peerBound = s.peerBound ∧ (s.putTun v).returned = s.returned ∧
    (s.putTun v).lostRanges = s.lostRanges ∧ (s.putTun v).wmap = s.wmap ∧ (s.putTun v).wfin = s.wfin ∧
    (s.putTun v).wheld = s.wheld ∧ (s.putTun v).preserve = s.preserve ∧ (s.putTun v).kept = s.kept ∧
    (s.putTun v).metaOpen = s.metaOpen ∧ (s.putTun v).portA = s.portA ∧ (s.putTun v).restartDue = s.restartDue ∧
    (s.putTun v).pings = s.pings ∧ (s.putTun v).chain = s.chain ∧ (s.putTun v).position = s.position ∧
    (s.putTun v).power = s.power ∧ (s.putTun v).powerOp = s.powerOp ∧ (s.putTun v).fsn = s.fsn ∧ (s.putTun v).ns = s.ns ∧
    (s.putTun v).volCap = s.volCap ∧ (s.putTun v).rsv = s.rsv ∧ (s.putTun v).tokCount = s.tokCount ∧
    (s.putTun v).fullZones = s.fullZones ∧ (s.putTun v).fam = s.fam ∧ (s.putTun v).params = s.params ∧
    (s.putTun v).alm = s.alm ∧ (s.putTun v).domeEntry = s.domeEntry ∧ (s.putTun v).domeWake = s.domeWake ∧
    (s.putTun v).domeAgreed = s.domeAgreed ∧ (s.putTun v).readAt = s.readAt ∧ (s.putTun v).sensorFail = s.sensorFail ∧
    (s.putTun v).tripCount = s.tripCount ∧ (s.putTun v).rise = s.rise ∧ (s.putTun v).stopped = s.stopped ∧
    (s.putTun v).coolSince = s.coolSince ∧ (s.putTun v).events = s.events ∧ (s.putTun v).dies = s.dies ∧
    (s.putTun v).chans = s.chans ∧ (s.putTun v).accs = s.accs ∧ (s.putTun v).ldpc = s.ldpc ∧ (s.putTun v).nand = s.nand ∧
    (s.putTun v).blkErased = s.blkErased ∧ (s.putTun v).vault = s.vault ∧ (s.putTun v).sessions = s.sessions ∧
    (s.putTun v).trngRestarts = s.trngRestarts ∧ (s.putTun v).drbgLeft = s.drbgLeft ∧ (s.putTun v).imageId = s.imageId ∧
    (s.putTun v).verFuses = s.verFuses ∧ (s.putTun v).nsInfo = s.nsInfo ∧ (s.putTun v).care = s.care ∧
    (s.putTun v).history = s.history ∧ (s.putTun v).fw = s.fw ∧ (s.putTun v).trust = s.trust ∧ (s.putTun v).fdp = s.fdp ∧
    (s.putTun v).lostGen = s.lostGen ∧ (s.putTun v).lostAgain = s.lostAgain ∧ (s.putTun v).accum = s.accum ∧
    (s.putTun v).boundSent = s.boundSent ∧ (s.putTun v).zoneUsed = s.zoneUsed ∧ (s.putTun v).clean = s.clean :=
  ⟨rfl, rfl, rfl, rfl, rfl, rfl, rfl, rfl, rfl, rfl, rfl, rfl, rfl, rfl, rfl, rfl, rfl, rfl, rfl, rfl, rfl, rfl, rfl,
  rfl, rfl, rfl, rfl, rfl, rfl, rfl, rfl, rfl, rfl, rfl, rfl, rfl, rfl, rfl, rfl, rfl, rfl, rfl, rfl, rfl, rfl, rfl,
  rfl, rfl, rfl, rfl, rfl, rfl, rfl, rfl, rfl, rfl, rfl, rfl, rfl, rfl, rfl, rfl, rfl, rfl, rfl, rfl, rfl, rfl, rfl,
  rfl, rfl, rfl, rfl, rfl, rfl, rfl, rfl, rfl, rfl, rfl, rfl, rfl, rfl, rfl, rfl, rfl, rfl, rfl, rfl, rfl, rfl, rfl,
  rfl, rfl, rfl, rfl, rfl, rfl, rfl, rfl, rfl, rfl, rfl, rfl, rfl, rfl, rfl, rfl, rfl, rfl, rfl, rfl, rfl, rfl, rfl,
  rfl, rfl, rfl, rfl, rfl, rfl, rfl, rfl, rfl⟩

@[simp] theorem State.putTun_tun (s : State) (v : FMap Byte) : (s.putTun v).tun = v := rfl

@[simp] theorem State.putTunBufs_frame (s : State) (v : List (Nat × TunBuf)) :
    (s.putTunBufs v).pending = s.pending ∧ (s.putTunBufs v).free = s.free ∧ (s.putTunBufs v).out = s.out ∧
    (s.putTunBufs v).boot = s.boot ∧ (s.putTunBufs v).tick = s.tick ∧ (s.putTunBufs v).win = s.win ∧
    (s.putTunBufs v).gap = s.gap ∧ (s.putTunBufs v).regs = s.regs ∧ (s.putTunBufs v).regPend = s.regPend ∧
    (s.putTunBufs v).cores = s.cores ∧ (s.putTunBufs v).cluster = s.cluster ∧ (s.putTunBufs v).tun = s.tun ∧
    (s.putTunBufs v).tunMin = s.tunMin ∧ (s.putTunBufs v).tunMinPend = s.tunMinPend ∧
    (s.putTunBufs v).sramErr = s.sramErr ∧ (s.putTunBufs v).heldBack = s.heldBack ∧ (s.putTunBufs v).rtHit = s.rtHit ∧
    (s.putTunBufs v).rtClock = s.rtClock ∧ (s.putTunBufs v).rtUntracked = s.rtUntracked ∧
    (s.putTunBufs v).dram = s.dram ∧ (s.putTunBufs v).dr = s.dr ∧ (s.putTunBufs v).poison = s.poison ∧
    (s.putTunBufs v).ingot = s.ingot ∧ (s.putTunBufs v).nor = s.nor ∧ (s.putTunBufs v).norUnk = s.norUnk ∧
    (s.putTunBufs v).pat = s.pat ∧ (s.putTunBufs v).tdly = s.tdly ∧ (s.putTunBufs v).scrub = s.scrub ∧
    (s.putTunBufs v).fbuf = s.fbuf ∧ (s.putTunBufs v).rings = s.rings ∧ (s.putTunBufs v).haz = s.haz ∧
    (s.putTunBufs v).marks = s.marks ∧ (s.putTunBufs v).wsnFloor = s.wsnFloor ∧ (s.putTunBufs v).health = s.health ∧
    (s.putTunBufs v).qPend = s.qPend ∧ (s.putTunBufs v).reqs = s.reqs ∧ (s.putTunBufs v).aborts = s.aborts ∧
    (s.putTunBufs v).gateShut = s.gateShut ∧ (s.putTunBufs v).sqs = s.sqs ∧ (s.putTunBufs v).cqs = s.cqs ∧
    (s.putTunBufs v).cmds = s.cmds ∧ (s.putTunBufs v).resets = s.resets ∧ (s.putTunBufs v).ctrls = s.ctrls ∧
    (s.putTunBufs v).arbs = s.arbs ∧ (s.putTunBufs v).credit = s.credit ∧ (s.putTunBufs v).taken = s.taken ∧
    (s.putTunBufs v).fetchLeft = s.fetchLeft ∧ (s.putTunBufs v).rotLast = s.rotLast ∧
    (s.putTunBufs v).rotFirst = s.rotFirst ∧ (s.putTunBufs v).hazStall = s.hazStall ∧ (s.putTunBufs v).span = s.span ∧
    (s.putTunBufs v).spanOut = s.spanOut ∧ (s.putTunBufs v).spanIn = s.spanIn ∧ (s.putTunBufs v).resOut = s.resOut ∧
    (s.putTunBufs v).jobs = s.jobs ∧ (s.putTunBufs v).finishing = s.finishing ∧ (s.putTunBufs v).greads = s.greads ∧
    (s.putTunBufs v).spanNum = s.spanNum ∧ (s.putTunBufs v).spanArr = s.spanArr ∧ (s.putTunBufs v).dups = s.dups ∧
    (s.putTunBufs v).dupGen = s.dupGen ∧ (s.putTunBufs v).rlogPos = s.rlogPos ∧ (s.putTunBufs v).members = s.members ∧
    (s.putTunBufs v).peerVia = s.peerVia ∧ (s.putTunBufs v).groups = s.groups ∧
    (s.putTunBufs v).peerBound = s.peerBound ∧ (s.putTunBufs v).returned = s.returned ∧
    (s.putTunBufs v).lostRanges = s.lostRanges ∧ (s.putTunBufs v).wmap = s.wmap ∧ (s.putTunBufs v).wfin = s.wfin ∧
    (s.putTunBufs v).wheld = s.wheld ∧ (s.putTunBufs v).preserve = s.preserve ∧ (s.putTunBufs v).kept = s.kept ∧
    (s.putTunBufs v).metaOpen = s.metaOpen ∧ (s.putTunBufs v).portA = s.portA ∧
    (s.putTunBufs v).restartDue = s.restartDue ∧ (s.putTunBufs v).pings = s.pings ∧ (s.putTunBufs v).chain = s.chain ∧
    (s.putTunBufs v).position = s.position ∧ (s.putTunBufs v).power = s.power ∧ (s.putTunBufs v).powerOp = s.powerOp ∧
    (s.putTunBufs v).fsn = s.fsn ∧ (s.putTunBufs v).ns = s.ns ∧ (s.putTunBufs v).volCap = s.volCap ∧
    (s.putTunBufs v).rsv = s.rsv ∧ (s.putTunBufs v).tokCount = s.tokCount ∧ (s.putTunBufs v).fullZones = s.fullZones ∧
    (s.putTunBufs v).fam = s.fam ∧ (s.putTunBufs v).params = s.params ∧ (s.putTunBufs v).alm = s.alm ∧
    (s.putTunBufs v).domeEntry = s.domeEntry ∧ (s.putTunBufs v).domeWake = s.domeWake ∧
    (s.putTunBufs v).domeAgreed = s.domeAgreed ∧ (s.putTunBufs v).readAt = s.readAt ∧
    (s.putTunBufs v).sensorFail = s.sensorFail ∧ (s.putTunBufs v).tripCount = s.tripCount ∧
    (s.putTunBufs v).rise = s.rise ∧ (s.putTunBufs v).stopped = s.stopped ∧ (s.putTunBufs v).coolSince = s.coolSince ∧
    (s.putTunBufs v).events = s.events ∧ (s.putTunBufs v).dies = s.dies ∧ (s.putTunBufs v).chans = s.chans ∧
    (s.putTunBufs v).accs = s.accs ∧ (s.putTunBufs v).ldpc = s.ldpc ∧ (s.putTunBufs v).nand = s.nand ∧
    (s.putTunBufs v).blkErased = s.blkErased ∧ (s.putTunBufs v).vault = s.vault ∧
    (s.putTunBufs v).sessions = s.sessions ∧ (s.putTunBufs v).trngRestarts = s.trngRestarts ∧
    (s.putTunBufs v).drbgLeft = s.drbgLeft ∧ (s.putTunBufs v).imageId = s.imageId ∧
    (s.putTunBufs v).verFuses = s.verFuses ∧ (s.putTunBufs v).nsInfo = s.nsInfo ∧ (s.putTunBufs v).care = s.care ∧
    (s.putTunBufs v).history = s.history ∧ (s.putTunBufs v).fw = s.fw ∧ (s.putTunBufs v).trust = s.trust ∧
    (s.putTunBufs v).fdp = s.fdp ∧ (s.putTunBufs v).lostGen = s.lostGen ∧ (s.putTunBufs v).lostAgain = s.lostAgain ∧
    (s.putTunBufs v).accum = s.accum ∧ (s.putTunBufs v).boundSent = s.boundSent ∧
    (s.putTunBufs v).zoneUsed = s.zoneUsed ∧ (s.putTunBufs v).clean = s.clean :=
  ⟨rfl, rfl, rfl, rfl, rfl, rfl, rfl, rfl, rfl, rfl, rfl, rfl, rfl, rfl, rfl, rfl, rfl, rfl, rfl, rfl, rfl, rfl, rfl,
  rfl, rfl, rfl, rfl, rfl, rfl, rfl, rfl, rfl, rfl, rfl, rfl, rfl, rfl, rfl, rfl, rfl, rfl, rfl, rfl, rfl, rfl, rfl,
  rfl, rfl, rfl, rfl, rfl, rfl, rfl, rfl, rfl, rfl, rfl, rfl, rfl, rfl, rfl, rfl, rfl, rfl, rfl, rfl, rfl, rfl, rfl,
  rfl, rfl, rfl, rfl, rfl, rfl, rfl, rfl, rfl, rfl, rfl, rfl, rfl, rfl, rfl, rfl, rfl, rfl, rfl, rfl, rfl, rfl, rfl,
  rfl, rfl, rfl, rfl, rfl, rfl, rfl, rfl, rfl, rfl, rfl, rfl, rfl, rfl, rfl, rfl, rfl, rfl, rfl, rfl, rfl, rfl, rfl,
  rfl, rfl, rfl, rfl, rfl, rfl, rfl, rfl, rfl⟩

@[simp] theorem State.putTunBufs_tunBufs (s : State) (v : List (Nat × TunBuf)) : (s.putTunBufs v).tunBufs = v := rfl

@[simp] theorem State.putTunMin_frame (s : State) (v : FMap Nat) :
    (s.putTunMin v).pending = s.pending ∧ (s.putTunMin v).free = s.free ∧ (s.putTunMin v).out = s.out ∧
    (s.putTunMin v).boot = s.boot ∧ (s.putTunMin v).tick = s.tick ∧ (s.putTunMin v).win = s.win ∧
    (s.putTunMin v).gap = s.gap ∧ (s.putTunMin v).regs = s.regs ∧ (s.putTunMin v).regPend = s.regPend ∧
    (s.putTunMin v).cores = s.cores ∧ (s.putTunMin v).cluster = s.cluster ∧ (s.putTunMin v).tun = s.tun ∧
    (s.putTunMin v).tunBufs = s.tunBufs ∧ (s.putTunMin v).tunMinPend = s.tunMinPend ∧
    (s.putTunMin v).sramErr = s.sramErr ∧ (s.putTunMin v).heldBack = s.heldBack ∧ (s.putTunMin v).rtHit = s.rtHit ∧
    (s.putTunMin v).rtClock = s.rtClock ∧ (s.putTunMin v).rtUntracked = s.rtUntracked ∧ (s.putTunMin v).dram = s.dram ∧
    (s.putTunMin v).dr = s.dr ∧ (s.putTunMin v).poison = s.poison ∧ (s.putTunMin v).ingot = s.ingot ∧
    (s.putTunMin v).nor = s.nor ∧ (s.putTunMin v).norUnk = s.norUnk ∧ (s.putTunMin v).pat = s.pat ∧
    (s.putTunMin v).tdly = s.tdly ∧ (s.putTunMin v).scrub = s.scrub ∧ (s.putTunMin v).fbuf = s.fbuf ∧
    (s.putTunMin v).rings = s.rings ∧ (s.putTunMin v).haz = s.haz ∧ (s.putTunMin v).marks = s.marks ∧
    (s.putTunMin v).wsnFloor = s.wsnFloor ∧ (s.putTunMin v).health = s.health ∧ (s.putTunMin v).qPend = s.qPend ∧
    (s.putTunMin v).reqs = s.reqs ∧ (s.putTunMin v).aborts = s.aborts ∧ (s.putTunMin v).gateShut = s.gateShut ∧
    (s.putTunMin v).sqs = s.sqs ∧ (s.putTunMin v).cqs = s.cqs ∧ (s.putTunMin v).cmds = s.cmds ∧
    (s.putTunMin v).resets = s.resets ∧ (s.putTunMin v).ctrls = s.ctrls ∧ (s.putTunMin v).arbs = s.arbs ∧
    (s.putTunMin v).credit = s.credit ∧ (s.putTunMin v).taken = s.taken ∧ (s.putTunMin v).fetchLeft = s.fetchLeft ∧
    (s.putTunMin v).rotLast = s.rotLast ∧ (s.putTunMin v).rotFirst = s.rotFirst ∧ (s.putTunMin v).hazStall = s.hazStall ∧
    (s.putTunMin v).span = s.span ∧ (s.putTunMin v).spanOut = s.spanOut ∧ (s.putTunMin v).spanIn = s.spanIn ∧
    (s.putTunMin v).resOut = s.resOut ∧ (s.putTunMin v).jobs = s.jobs ∧ (s.putTunMin v).finishing = s.finishing ∧
    (s.putTunMin v).greads = s.greads ∧ (s.putTunMin v).spanNum = s.spanNum ∧ (s.putTunMin v).spanArr = s.spanArr ∧
    (s.putTunMin v).dups = s.dups ∧ (s.putTunMin v).dupGen = s.dupGen ∧ (s.putTunMin v).rlogPos = s.rlogPos ∧
    (s.putTunMin v).members = s.members ∧ (s.putTunMin v).peerVia = s.peerVia ∧ (s.putTunMin v).groups = s.groups ∧
    (s.putTunMin v).peerBound = s.peerBound ∧ (s.putTunMin v).returned = s.returned ∧
    (s.putTunMin v).lostRanges = s.lostRanges ∧ (s.putTunMin v).wmap = s.wmap ∧ (s.putTunMin v).wfin = s.wfin ∧
    (s.putTunMin v).wheld = s.wheld ∧ (s.putTunMin v).preserve = s.preserve ∧ (s.putTunMin v).kept = s.kept ∧
    (s.putTunMin v).metaOpen = s.metaOpen ∧ (s.putTunMin v).portA = s.portA ∧ (s.putTunMin v).restartDue = s.restartDue ∧
    (s.putTunMin v).pings = s.pings ∧ (s.putTunMin v).chain = s.chain ∧ (s.putTunMin v).position = s.position ∧
    (s.putTunMin v).power = s.power ∧ (s.putTunMin v).powerOp = s.powerOp ∧ (s.putTunMin v).fsn = s.fsn ∧
    (s.putTunMin v).ns = s.ns ∧ (s.putTunMin v).volCap = s.volCap ∧ (s.putTunMin v).rsv = s.rsv ∧
    (s.putTunMin v).tokCount = s.tokCount ∧ (s.putTunMin v).fullZones = s.fullZones ∧ (s.putTunMin v).fam = s.fam ∧
    (s.putTunMin v).params = s.params ∧ (s.putTunMin v).alm = s.alm ∧ (s.putTunMin v).domeEntry = s.domeEntry ∧
    (s.putTunMin v).domeWake = s.domeWake ∧ (s.putTunMin v).domeAgreed = s.domeAgreed ∧
    (s.putTunMin v).readAt = s.readAt ∧ (s.putTunMin v).sensorFail = s.sensorFail ∧
    (s.putTunMin v).tripCount = s.tripCount ∧ (s.putTunMin v).rise = s.rise ∧ (s.putTunMin v).stopped = s.stopped ∧
    (s.putTunMin v).coolSince = s.coolSince ∧ (s.putTunMin v).events = s.events ∧ (s.putTunMin v).dies = s.dies ∧
    (s.putTunMin v).chans = s.chans ∧ (s.putTunMin v).accs = s.accs ∧ (s.putTunMin v).ldpc = s.ldpc ∧
    (s.putTunMin v).nand = s.nand ∧ (s.putTunMin v).blkErased = s.blkErased ∧ (s.putTunMin v).vault = s.vault ∧
    (s.putTunMin v).sessions = s.sessions ∧ (s.putTunMin v).trngRestarts = s.trngRestarts ∧
    (s.putTunMin v).drbgLeft = s.drbgLeft ∧ (s.putTunMin v).imageId = s.imageId ∧ (s.putTunMin v).verFuses = s.verFuses ∧
    (s.putTunMin v).nsInfo = s.nsInfo ∧ (s.putTunMin v).care = s.care ∧ (s.putTunMin v).history = s.history ∧
    (s.putTunMin v).fw = s.fw ∧ (s.putTunMin v).trust = s.trust ∧ (s.putTunMin v).fdp = s.fdp ∧
    (s.putTunMin v).lostGen = s.lostGen ∧ (s.putTunMin v).lostAgain = s.lostAgain ∧ (s.putTunMin v).accum = s.accum ∧
    (s.putTunMin v).boundSent = s.boundSent ∧ (s.putTunMin v).zoneUsed = s.zoneUsed ∧ (s.putTunMin v).clean = s.clean :=
  ⟨rfl, rfl, rfl, rfl, rfl, rfl, rfl, rfl, rfl, rfl, rfl, rfl, rfl, rfl, rfl, rfl, rfl, rfl, rfl, rfl, rfl, rfl, rfl,
  rfl, rfl, rfl, rfl, rfl, rfl, rfl, rfl, rfl, rfl, rfl, rfl, rfl, rfl, rfl, rfl, rfl, rfl, rfl, rfl, rfl, rfl, rfl,
  rfl, rfl, rfl, rfl, rfl, rfl, rfl, rfl, rfl, rfl, rfl, rfl, rfl, rfl, rfl, rfl, rfl, rfl, rfl, rfl, rfl, rfl, rfl,
  rfl, rfl, rfl, rfl, rfl, rfl, rfl, rfl, rfl, rfl, rfl, rfl, rfl, rfl, rfl, rfl, rfl, rfl, rfl, rfl, rfl, rfl, rfl,
  rfl, rfl, rfl, rfl, rfl, rfl, rfl, rfl, rfl, rfl, rfl, rfl, rfl, rfl, rfl, rfl, rfl, rfl, rfl, rfl, rfl, rfl, rfl,
  rfl, rfl, rfl, rfl, rfl, rfl, rfl, rfl, rfl⟩

@[simp] theorem State.putTunMin_tunMin (s : State) (v : FMap Nat) : (s.putTunMin v).tunMin = v := rfl

@[simp] theorem State.putTunMinPend_frame (s : State) (v : List (Nat × Nat)) :
    (s.putTunMinPend v).pending = s.pending ∧ (s.putTunMinPend v).free = s.free ∧ (s.putTunMinPend v).out = s.out ∧
    (s.putTunMinPend v).boot = s.boot ∧ (s.putTunMinPend v).tick = s.tick ∧ (s.putTunMinPend v).win = s.win ∧
    (s.putTunMinPend v).gap = s.gap ∧ (s.putTunMinPend v).regs = s.regs ∧ (s.putTunMinPend v).regPend = s.regPend ∧
    (s.putTunMinPend v).cores = s.cores ∧ (s.putTunMinPend v).cluster = s.cluster ∧ (s.putTunMinPend v).tun = s.tun ∧
    (s.putTunMinPend v).tunBufs = s.tunBufs ∧ (s.putTunMinPend v).tunMin = s.tunMin ∧
    (s.putTunMinPend v).sramErr = s.sramErr ∧ (s.putTunMinPend v).heldBack = s.heldBack ∧
    (s.putTunMinPend v).rtHit = s.rtHit ∧ (s.putTunMinPend v).rtClock = s.rtClock ∧
    (s.putTunMinPend v).rtUntracked = s.rtUntracked ∧ (s.putTunMinPend v).dram = s.dram ∧ (s.putTunMinPend v).dr = s.dr ∧
    (s.putTunMinPend v).poison = s.poison ∧ (s.putTunMinPend v).ingot = s.ingot ∧ (s.putTunMinPend v).nor = s.nor ∧
    (s.putTunMinPend v).norUnk = s.norUnk ∧ (s.putTunMinPend v).pat = s.pat ∧ (s.putTunMinPend v).tdly = s.tdly ∧
    (s.putTunMinPend v).scrub = s.scrub ∧ (s.putTunMinPend v).fbuf = s.fbuf ∧ (s.putTunMinPend v).rings = s.rings ∧
    (s.putTunMinPend v).haz = s.haz ∧ (s.putTunMinPend v).marks = s.marks ∧ (s.putTunMinPend v).wsnFloor = s.wsnFloor ∧
    (s.putTunMinPend v).health = s.health ∧ (s.putTunMinPend v).qPend = s.qPend ∧ (s.putTunMinPend v).reqs = s.reqs ∧
    (s.putTunMinPend v).aborts = s.aborts ∧ (s.putTunMinPend v).gateShut = s.gateShut ∧ (s.putTunMinPend v).sqs = s.sqs ∧
    (s.putTunMinPend v).cqs = s.cqs ∧ (s.putTunMinPend v).cmds = s.cmds ∧ (s.putTunMinPend v).resets = s.resets ∧
    (s.putTunMinPend v).ctrls = s.ctrls ∧ (s.putTunMinPend v).arbs = s.arbs ∧ (s.putTunMinPend v).credit = s.credit ∧
    (s.putTunMinPend v).taken = s.taken ∧ (s.putTunMinPend v).fetchLeft = s.fetchLeft ∧
    (s.putTunMinPend v).rotLast = s.rotLast ∧ (s.putTunMinPend v).rotFirst = s.rotFirst ∧
    (s.putTunMinPend v).hazStall = s.hazStall ∧ (s.putTunMinPend v).span = s.span ∧
    (s.putTunMinPend v).spanOut = s.spanOut ∧ (s.putTunMinPend v).spanIn = s.spanIn ∧
    (s.putTunMinPend v).resOut = s.resOut ∧ (s.putTunMinPend v).jobs = s.jobs ∧
    (s.putTunMinPend v).finishing = s.finishing ∧ (s.putTunMinPend v).greads = s.greads ∧
    (s.putTunMinPend v).spanNum = s.spanNum ∧ (s.putTunMinPend v).spanArr = s.spanArr ∧
    (s.putTunMinPend v).dups = s.dups ∧ (s.putTunMinPend v).dupGen = s.dupGen ∧ (s.putTunMinPend v).rlogPos = s.rlogPos ∧
    (s.putTunMinPend v).members = s.members ∧ (s.putTunMinPend v).peerVia = s.peerVia ∧
    (s.putTunMinPend v).groups = s.groups ∧ (s.putTunMinPend v).peerBound = s.peerBound ∧
    (s.putTunMinPend v).returned = s.returned ∧ (s.putTunMinPend v).lostRanges = s.lostRanges ∧
    (s.putTunMinPend v).wmap = s.wmap ∧ (s.putTunMinPend v).wfin = s.wfin ∧ (s.putTunMinPend v).wheld = s.wheld ∧
    (s.putTunMinPend v).preserve = s.preserve ∧ (s.putTunMinPend v).kept = s.kept ∧
    (s.putTunMinPend v).metaOpen = s.metaOpen ∧ (s.putTunMinPend v).portA = s.portA ∧
    (s.putTunMinPend v).restartDue = s.restartDue ∧ (s.putTunMinPend v).pings = s.pings ∧
    (s.putTunMinPend v).chain = s.chain ∧ (s.putTunMinPend v).position = s.position ∧
    (s.putTunMinPend v).power = s.power ∧ (s.putTunMinPend v).powerOp = s.powerOp ∧ (s.putTunMinPend v).fsn = s.fsn ∧
    (s.putTunMinPend v).ns = s.ns ∧ (s.putTunMinPend v).volCap = s.volCap ∧ (s.putTunMinPend v).rsv = s.rsv ∧
    (s.putTunMinPend v).tokCount = s.tokCount ∧ (s.putTunMinPend v).fullZones = s.fullZones ∧
    (s.putTunMinPend v).fam = s.fam ∧ (s.putTunMinPend v).params = s.params ∧ (s.putTunMinPend v).alm = s.alm ∧
    (s.putTunMinPend v).domeEntry = s.domeEntry ∧ (s.putTunMinPend v).domeWake = s.domeWake ∧
    (s.putTunMinPend v).domeAgreed = s.domeAgreed ∧ (s.putTunMinPend v).readAt = s.readAt ∧
    (s.putTunMinPend v).sensorFail = s.sensorFail ∧ (s.putTunMinPend v).tripCount = s.tripCount ∧
    (s.putTunMinPend v).rise = s.rise ∧ (s.putTunMinPend v).stopped = s.stopped ∧
    (s.putTunMinPend v).coolSince = s.coolSince ∧ (s.putTunMinPend v).events = s.events ∧
    (s.putTunMinPend v).dies = s.dies ∧ (s.putTunMinPend v).chans = s.chans ∧ (s.putTunMinPend v).accs = s.accs ∧
    (s.putTunMinPend v).ldpc = s.ldpc ∧ (s.putTunMinPend v).nand = s.nand ∧ (s.putTunMinPend v).blkErased = s.blkErased ∧
    (s.putTunMinPend v).vault = s.vault ∧ (s.putTunMinPend v).sessions = s.sessions ∧
    (s.putTunMinPend v).trngRestarts = s.trngRestarts ∧ (s.putTunMinPend v).drbgLeft = s.drbgLeft ∧
    (s.putTunMinPend v).imageId = s.imageId ∧ (s.putTunMinPend v).verFuses = s.verFuses ∧
    (s.putTunMinPend v).nsInfo = s.nsInfo ∧ (s.putTunMinPend v).care = s.care ∧ (s.putTunMinPend v).history = s.history ∧
    (s.putTunMinPend v).fw = s.fw ∧ (s.putTunMinPend v).trust = s.trust ∧ (s.putTunMinPend v).fdp = s.fdp ∧
    (s.putTunMinPend v).lostGen = s.lostGen ∧ (s.putTunMinPend v).lostAgain = s.lostAgain ∧
    (s.putTunMinPend v).accum = s.accum ∧ (s.putTunMinPend v).boundSent = s.boundSent ∧
    (s.putTunMinPend v).zoneUsed = s.zoneUsed ∧ (s.putTunMinPend v).clean = s.clean :=
  ⟨rfl, rfl, rfl, rfl, rfl, rfl, rfl, rfl, rfl, rfl, rfl, rfl, rfl, rfl, rfl, rfl, rfl, rfl, rfl, rfl, rfl, rfl, rfl,
  rfl, rfl, rfl, rfl, rfl, rfl, rfl, rfl, rfl, rfl, rfl, rfl, rfl, rfl, rfl, rfl, rfl, rfl, rfl, rfl, rfl, rfl, rfl,
  rfl, rfl, rfl, rfl, rfl, rfl, rfl, rfl, rfl, rfl, rfl, rfl, rfl, rfl, rfl, rfl, rfl, rfl, rfl, rfl, rfl, rfl, rfl,
  rfl, rfl, rfl, rfl, rfl, rfl, rfl, rfl, rfl, rfl, rfl, rfl, rfl, rfl, rfl, rfl, rfl, rfl, rfl, rfl, rfl, rfl, rfl,
  rfl, rfl, rfl, rfl, rfl, rfl, rfl, rfl, rfl, rfl, rfl, rfl, rfl, rfl, rfl, rfl, rfl, rfl, rfl, rfl, rfl, rfl, rfl,
  rfl, rfl, rfl, rfl, rfl, rfl, rfl, rfl, rfl⟩

@[simp] theorem State.putTunMinPend_tunMinPend (s : State) (v : List (Nat × Nat)) : (s.putTunMinPend v).tunMinPend = v := rfl

@[simp] theorem State.putSramErr_frame (s : State) (v : FMap Nat) :
    (s.putSramErr v).pending = s.pending ∧ (s.putSramErr v).free = s.free ∧ (s.putSramErr v).out = s.out ∧
    (s.putSramErr v).boot = s.boot ∧ (s.putSramErr v).tick = s.tick ∧ (s.putSramErr v).win = s.win ∧
    (s.putSramErr v).gap = s.gap ∧ (s.putSramErr v).regs = s.regs ∧ (s.putSramErr v).regPend = s.regPend ∧
    (s.putSramErr v).cores = s.cores ∧ (s.putSramErr v).cluster = s.cluster ∧ (s.putSramErr v).tun = s.tun ∧
    (s.putSramErr v).tunBufs = s.tunBufs ∧ (s.putSramErr v).tunMin = s.tunMin ∧
    (s.putSramErr v).tunMinPend = s.tunMinPend ∧ (s.putSramErr v).heldBack = s.heldBack ∧
    (s.putSramErr v).rtHit = s.rtHit ∧ (s.putSramErr v).rtClock = s.rtClock ∧
    (s.putSramErr v).rtUntracked = s.rtUntracked ∧ (s.putSramErr v).dram = s.dram ∧ (s.putSramErr v).dr = s.dr ∧
    (s.putSramErr v).poison = s.poison ∧ (s.putSramErr v).ingot = s.ingot ∧ (s.putSramErr v).nor = s.nor ∧
    (s.putSramErr v).norUnk = s.norUnk ∧ (s.putSramErr v).pat = s.pat ∧ (s.putSramErr v).tdly = s.tdly ∧
    (s.putSramErr v).scrub = s.scrub ∧ (s.putSramErr v).fbuf = s.fbuf ∧ (s.putSramErr v).rings = s.rings ∧
    (s.putSramErr v).haz = s.haz ∧ (s.putSramErr v).marks = s.marks ∧ (s.putSramErr v).wsnFloor = s.wsnFloor ∧
    (s.putSramErr v).health = s.health ∧ (s.putSramErr v).qPend = s.qPend ∧ (s.putSramErr v).reqs = s.reqs ∧
    (s.putSramErr v).aborts = s.aborts ∧ (s.putSramErr v).gateShut = s.gateShut ∧ (s.putSramErr v).sqs = s.sqs ∧
    (s.putSramErr v).cqs = s.cqs ∧ (s.putSramErr v).cmds = s.cmds ∧ (s.putSramErr v).resets = s.resets ∧
    (s.putSramErr v).ctrls = s.ctrls ∧ (s.putSramErr v).arbs = s.arbs ∧ (s.putSramErr v).credit = s.credit ∧
    (s.putSramErr v).taken = s.taken ∧ (s.putSramErr v).fetchLeft = s.fetchLeft ∧ (s.putSramErr v).rotLast = s.rotLast ∧
    (s.putSramErr v).rotFirst = s.rotFirst ∧ (s.putSramErr v).hazStall = s.hazStall ∧ (s.putSramErr v).span = s.span ∧
    (s.putSramErr v).spanOut = s.spanOut ∧ (s.putSramErr v).spanIn = s.spanIn ∧ (s.putSramErr v).resOut = s.resOut ∧
    (s.putSramErr v).jobs = s.jobs ∧ (s.putSramErr v).finishing = s.finishing ∧ (s.putSramErr v).greads = s.greads ∧
    (s.putSramErr v).spanNum = s.spanNum ∧ (s.putSramErr v).spanArr = s.spanArr ∧ (s.putSramErr v).dups = s.dups ∧
    (s.putSramErr v).dupGen = s.dupGen ∧ (s.putSramErr v).rlogPos = s.rlogPos ∧ (s.putSramErr v).members = s.members ∧
    (s.putSramErr v).peerVia = s.peerVia ∧ (s.putSramErr v).groups = s.groups ∧
    (s.putSramErr v).peerBound = s.peerBound ∧ (s.putSramErr v).returned = s.returned ∧
    (s.putSramErr v).lostRanges = s.lostRanges ∧ (s.putSramErr v).wmap = s.wmap ∧ (s.putSramErr v).wfin = s.wfin ∧
    (s.putSramErr v).wheld = s.wheld ∧ (s.putSramErr v).preserve = s.preserve ∧ (s.putSramErr v).kept = s.kept ∧
    (s.putSramErr v).metaOpen = s.metaOpen ∧ (s.putSramErr v).portA = s.portA ∧
    (s.putSramErr v).restartDue = s.restartDue ∧ (s.putSramErr v).pings = s.pings ∧ (s.putSramErr v).chain = s.chain ∧
    (s.putSramErr v).position = s.position ∧ (s.putSramErr v).power = s.power ∧ (s.putSramErr v).powerOp = s.powerOp ∧
    (s.putSramErr v).fsn = s.fsn ∧ (s.putSramErr v).ns = s.ns ∧ (s.putSramErr v).volCap = s.volCap ∧
    (s.putSramErr v).rsv = s.rsv ∧ (s.putSramErr v).tokCount = s.tokCount ∧ (s.putSramErr v).fullZones = s.fullZones ∧
    (s.putSramErr v).fam = s.fam ∧ (s.putSramErr v).params = s.params ∧ (s.putSramErr v).alm = s.alm ∧
    (s.putSramErr v).domeEntry = s.domeEntry ∧ (s.putSramErr v).domeWake = s.domeWake ∧
    (s.putSramErr v).domeAgreed = s.domeAgreed ∧ (s.putSramErr v).readAt = s.readAt ∧
    (s.putSramErr v).sensorFail = s.sensorFail ∧ (s.putSramErr v).tripCount = s.tripCount ∧
    (s.putSramErr v).rise = s.rise ∧ (s.putSramErr v).stopped = s.stopped ∧ (s.putSramErr v).coolSince = s.coolSince ∧
    (s.putSramErr v).events = s.events ∧ (s.putSramErr v).dies = s.dies ∧ (s.putSramErr v).chans = s.chans ∧
    (s.putSramErr v).accs = s.accs ∧ (s.putSramErr v).ldpc = s.ldpc ∧ (s.putSramErr v).nand = s.nand ∧
    (s.putSramErr v).blkErased = s.blkErased ∧ (s.putSramErr v).vault = s.vault ∧
    (s.putSramErr v).sessions = s.sessions ∧ (s.putSramErr v).trngRestarts = s.trngRestarts ∧
    (s.putSramErr v).drbgLeft = s.drbgLeft ∧ (s.putSramErr v).imageId = s.imageId ∧
    (s.putSramErr v).verFuses = s.verFuses ∧ (s.putSramErr v).nsInfo = s.nsInfo ∧ (s.putSramErr v).care = s.care ∧
    (s.putSramErr v).history = s.history ∧ (s.putSramErr v).fw = s.fw ∧ (s.putSramErr v).trust = s.trust ∧
    (s.putSramErr v).fdp = s.fdp ∧ (s.putSramErr v).lostGen = s.lostGen ∧ (s.putSramErr v).lostAgain = s.lostAgain ∧
    (s.putSramErr v).accum = s.accum ∧ (s.putSramErr v).boundSent = s.boundSent ∧
    (s.putSramErr v).zoneUsed = s.zoneUsed ∧ (s.putSramErr v).clean = s.clean :=
  ⟨rfl, rfl, rfl, rfl, rfl, rfl, rfl, rfl, rfl, rfl, rfl, rfl, rfl, rfl, rfl, rfl, rfl, rfl, rfl, rfl, rfl, rfl, rfl,
  rfl, rfl, rfl, rfl, rfl, rfl, rfl, rfl, rfl, rfl, rfl, rfl, rfl, rfl, rfl, rfl, rfl, rfl, rfl, rfl, rfl, rfl, rfl,
  rfl, rfl, rfl, rfl, rfl, rfl, rfl, rfl, rfl, rfl, rfl, rfl, rfl, rfl, rfl, rfl, rfl, rfl, rfl, rfl, rfl, rfl, rfl,
  rfl, rfl, rfl, rfl, rfl, rfl, rfl, rfl, rfl, rfl, rfl, rfl, rfl, rfl, rfl, rfl, rfl, rfl, rfl, rfl, rfl, rfl, rfl,
  rfl, rfl, rfl, rfl, rfl, rfl, rfl, rfl, rfl, rfl, rfl, rfl, rfl, rfl, rfl, rfl, rfl, rfl, rfl, rfl, rfl, rfl, rfl,
  rfl, rfl, rfl, rfl, rfl, rfl, rfl, rfl, rfl⟩

@[simp] theorem State.putSramErr_sramErr (s : State) (v : FMap Nat) : (s.putSramErr v).sramErr = v := rfl

@[simp] theorem State.putHeldBack_frame (s : State) (v : List (Nat × Nat)) :
    (s.putHeldBack v).pending = s.pending ∧ (s.putHeldBack v).free = s.free ∧ (s.putHeldBack v).out = s.out ∧
    (s.putHeldBack v).boot = s.boot ∧ (s.putHeldBack v).tick = s.tick ∧ (s.putHeldBack v).win = s.win ∧
    (s.putHeldBack v).gap = s.gap ∧ (s.putHeldBack v).regs = s.regs ∧ (s.putHeldBack v).regPend = s.regPend ∧
    (s.putHeldBack v).cores = s.cores ∧ (s.putHeldBack v).cluster = s.cluster ∧ (s.putHeldBack v).tun = s.tun ∧
    (s.putHeldBack v).tunBufs = s.tunBufs ∧ (s.putHeldBack v).tunMin = s.tunMin ∧
    (s.putHeldBack v).tunMinPend = s.tunMinPend ∧ (s.putHeldBack v).sramErr = s.sramErr ∧
    (s.putHeldBack v).rtHit = s.rtHit ∧ (s.putHeldBack v).rtClock = s.rtClock ∧
    (s.putHeldBack v).rtUntracked = s.rtUntracked ∧ (s.putHeldBack v).dram = s.dram ∧ (s.putHeldBack v).dr = s.dr ∧
    (s.putHeldBack v).poison = s.poison ∧ (s.putHeldBack v).ingot = s.ingot ∧ (s.putHeldBack v).nor = s.nor ∧
    (s.putHeldBack v).norUnk = s.norUnk ∧ (s.putHeldBack v).pat = s.pat ∧ (s.putHeldBack v).tdly = s.tdly ∧
    (s.putHeldBack v).scrub = s.scrub ∧ (s.putHeldBack v).fbuf = s.fbuf ∧ (s.putHeldBack v).rings = s.rings ∧
    (s.putHeldBack v).haz = s.haz ∧ (s.putHeldBack v).marks = s.marks ∧ (s.putHeldBack v).wsnFloor = s.wsnFloor ∧
    (s.putHeldBack v).health = s.health ∧ (s.putHeldBack v).qPend = s.qPend ∧ (s.putHeldBack v).reqs = s.reqs ∧
    (s.putHeldBack v).aborts = s.aborts ∧ (s.putHeldBack v).gateShut = s.gateShut ∧ (s.putHeldBack v).sqs = s.sqs ∧
    (s.putHeldBack v).cqs = s.cqs ∧ (s.putHeldBack v).cmds = s.cmds ∧ (s.putHeldBack v).resets = s.resets ∧
    (s.putHeldBack v).ctrls = s.ctrls ∧ (s.putHeldBack v).arbs = s.arbs ∧ (s.putHeldBack v).credit = s.credit ∧
    (s.putHeldBack v).taken = s.taken ∧ (s.putHeldBack v).fetchLeft = s.fetchLeft ∧
    (s.putHeldBack v).rotLast = s.rotLast ∧ (s.putHeldBack v).rotFirst = s.rotFirst ∧
    (s.putHeldBack v).hazStall = s.hazStall ∧ (s.putHeldBack v).span = s.span ∧ (s.putHeldBack v).spanOut = s.spanOut ∧
    (s.putHeldBack v).spanIn = s.spanIn ∧ (s.putHeldBack v).resOut = s.resOut ∧ (s.putHeldBack v).jobs = s.jobs ∧
    (s.putHeldBack v).finishing = s.finishing ∧ (s.putHeldBack v).greads = s.greads ∧
    (s.putHeldBack v).spanNum = s.spanNum ∧ (s.putHeldBack v).spanArr = s.spanArr ∧ (s.putHeldBack v).dups = s.dups ∧
    (s.putHeldBack v).dupGen = s.dupGen ∧ (s.putHeldBack v).rlogPos = s.rlogPos ∧ (s.putHeldBack v).members = s.members ∧
    (s.putHeldBack v).peerVia = s.peerVia ∧ (s.putHeldBack v).groups = s.groups ∧
    (s.putHeldBack v).peerBound = s.peerBound ∧ (s.putHeldBack v).returned = s.returned ∧
    (s.putHeldBack v).lostRanges = s.lostRanges ∧ (s.putHeldBack v).wmap = s.wmap ∧ (s.putHeldBack v).wfin = s.wfin ∧
    (s.putHeldBack v).wheld = s.wheld ∧ (s.putHeldBack v).preserve = s.preserve ∧ (s.putHeldBack v).kept = s.kept ∧
    (s.putHeldBack v).metaOpen = s.metaOpen ∧ (s.putHeldBack v).portA = s.portA ∧
    (s.putHeldBack v).restartDue = s.restartDue ∧ (s.putHeldBack v).pings = s.pings ∧ (s.putHeldBack v).chain = s.chain ∧
    (s.putHeldBack v).position = s.position ∧ (s.putHeldBack v).power = s.power ∧ (s.putHeldBack v).powerOp = s.powerOp ∧
    (s.putHeldBack v).fsn = s.fsn ∧ (s.putHeldBack v).ns = s.ns ∧ (s.putHeldBack v).volCap = s.volCap ∧
    (s.putHeldBack v).rsv = s.rsv ∧ (s.putHeldBack v).tokCount = s.tokCount ∧ (s.putHeldBack v).fullZones = s.fullZones ∧
    (s.putHeldBack v).fam = s.fam ∧ (s.putHeldBack v).params = s.params ∧ (s.putHeldBack v).alm = s.alm ∧
    (s.putHeldBack v).domeEntry = s.domeEntry ∧ (s.putHeldBack v).domeWake = s.domeWake ∧
    (s.putHeldBack v).domeAgreed = s.domeAgreed ∧ (s.putHeldBack v).readAt = s.readAt ∧
    (s.putHeldBack v).sensorFail = s.sensorFail ∧ (s.putHeldBack v).tripCount = s.tripCount ∧
    (s.putHeldBack v).rise = s.rise ∧ (s.putHeldBack v).stopped = s.stopped ∧ (s.putHeldBack v).coolSince = s.coolSince ∧
    (s.putHeldBack v).events = s.events ∧ (s.putHeldBack v).dies = s.dies ∧ (s.putHeldBack v).chans = s.chans ∧
    (s.putHeldBack v).accs = s.accs ∧ (s.putHeldBack v).ldpc = s.ldpc ∧ (s.putHeldBack v).nand = s.nand ∧
    (s.putHeldBack v).blkErased = s.blkErased ∧ (s.putHeldBack v).vault = s.vault ∧
    (s.putHeldBack v).sessions = s.sessions ∧ (s.putHeldBack v).trngRestarts = s.trngRestarts ∧
    (s.putHeldBack v).drbgLeft = s.drbgLeft ∧ (s.putHeldBack v).imageId = s.imageId ∧
    (s.putHeldBack v).verFuses = s.verFuses ∧ (s.putHeldBack v).nsInfo = s.nsInfo ∧ (s.putHeldBack v).care = s.care ∧
    (s.putHeldBack v).history = s.history ∧ (s.putHeldBack v).fw = s.fw ∧ (s.putHeldBack v).trust = s.trust ∧
    (s.putHeldBack v).fdp = s.fdp ∧ (s.putHeldBack v).lostGen = s.lostGen ∧ (s.putHeldBack v).lostAgain = s.lostAgain ∧
    (s.putHeldBack v).accum = s.accum ∧ (s.putHeldBack v).boundSent = s.boundSent ∧
    (s.putHeldBack v).zoneUsed = s.zoneUsed ∧ (s.putHeldBack v).clean = s.clean :=
  ⟨rfl, rfl, rfl, rfl, rfl, rfl, rfl, rfl, rfl, rfl, rfl, rfl, rfl, rfl, rfl, rfl, rfl, rfl, rfl, rfl, rfl, rfl, rfl,
  rfl, rfl, rfl, rfl, rfl, rfl, rfl, rfl, rfl, rfl, rfl, rfl, rfl, rfl, rfl, rfl, rfl, rfl, rfl, rfl, rfl, rfl, rfl,
  rfl, rfl, rfl, rfl, rfl, rfl, rfl, rfl, rfl, rfl, rfl, rfl, rfl, rfl, rfl, rfl, rfl, rfl, rfl, rfl, rfl, rfl, rfl,
  rfl, rfl, rfl, rfl, rfl, rfl, rfl, rfl, rfl, rfl, rfl, rfl, rfl, rfl, rfl, rfl, rfl, rfl, rfl, rfl, rfl, rfl, rfl,
  rfl, rfl, rfl, rfl, rfl, rfl, rfl, rfl, rfl, rfl, rfl, rfl, rfl, rfl, rfl, rfl, rfl, rfl, rfl, rfl, rfl, rfl, rfl,
  rfl, rfl, rfl, rfl, rfl, rfl, rfl, rfl, rfl⟩

@[simp] theorem State.putHeldBack_heldBack (s : State) (v : List (Nat × Nat)) : (s.putHeldBack v).heldBack = v := rfl

@[simp] theorem State.putRtHit_frame (s : State) (v : FMap Nat) :
    (s.putRtHit v).pending = s.pending ∧ (s.putRtHit v).free = s.free ∧ (s.putRtHit v).out = s.out ∧
    (s.putRtHit v).boot = s.boot ∧ (s.putRtHit v).tick = s.tick ∧ (s.putRtHit v).win = s.win ∧
    (s.putRtHit v).gap = s.gap ∧ (s.putRtHit v).regs = s.regs ∧ (s.putRtHit v).regPend = s.regPend ∧
    (s.putRtHit v).cores = s.cores ∧ (s.putRtHit v).cluster = s.cluster ∧ (s.putRtHit v).tun = s.tun ∧
    (s.putRtHit v).tunBufs = s.tunBufs ∧ (s.putRtHit v).tunMin = s.tunMin ∧ (s.putRtHit v).tunMinPend = s.tunMinPend ∧
    (s.putRtHit v).sramErr = s.sramErr ∧ (s.putRtHit v).heldBack = s.heldBack ∧ (s.putRtHit v).rtClock = s.rtClock ∧
    (s.putRtHit v).rtUntracked = s.rtUntracked ∧ (s.putRtHit v).dram = s.dram ∧ (s.putRtHit v).dr = s.dr ∧
    (s.putRtHit v).poison = s.poison ∧ (s.putRtHit v).ingot = s.ingot ∧ (s.putRtHit v).nor = s.nor ∧
    (s.putRtHit v).norUnk = s.norUnk ∧ (s.putRtHit v).pat = s.pat ∧ (s.putRtHit v).tdly = s.tdly ∧
    (s.putRtHit v).scrub = s.scrub ∧ (s.putRtHit v).fbuf = s.fbuf ∧ (s.putRtHit v).rings = s.rings ∧
    (s.putRtHit v).haz = s.haz ∧ (s.putRtHit v).marks = s.marks ∧ (s.putRtHit v).wsnFloor = s.wsnFloor ∧
    (s.putRtHit v).health = s.health ∧ (s.putRtHit v).qPend = s.qPend ∧ (s.putRtHit v).reqs = s.reqs ∧
    (s.putRtHit v).aborts = s.aborts ∧ (s.putRtHit v).gateShut = s.gateShut ∧ (s.putRtHit v).sqs = s.sqs ∧
    (s.putRtHit v).cqs = s.cqs ∧ (s.putRtHit v).cmds = s.cmds ∧ (s.putRtHit v).resets = s.resets ∧
    (s.putRtHit v).ctrls = s.ctrls ∧ (s.putRtHit v).arbs = s.arbs ∧ (s.putRtHit v).credit = s.credit ∧
    (s.putRtHit v).taken = s.taken ∧ (s.putRtHit v).fetchLeft = s.fetchLeft ∧ (s.putRtHit v).rotLast = s.rotLast ∧
    (s.putRtHit v).rotFirst = s.rotFirst ∧ (s.putRtHit v).hazStall = s.hazStall ∧ (s.putRtHit v).span = s.span ∧
    (s.putRtHit v).spanOut = s.spanOut ∧ (s.putRtHit v).spanIn = s.spanIn ∧ (s.putRtHit v).resOut = s.resOut ∧
    (s.putRtHit v).jobs = s.jobs ∧ (s.putRtHit v).finishing = s.finishing ∧ (s.putRtHit v).greads = s.greads ∧
    (s.putRtHit v).spanNum = s.spanNum ∧ (s.putRtHit v).spanArr = s.spanArr ∧ (s.putRtHit v).dups = s.dups ∧
    (s.putRtHit v).dupGen = s.dupGen ∧ (s.putRtHit v).rlogPos = s.rlogPos ∧ (s.putRtHit v).members = s.members ∧
    (s.putRtHit v).peerVia = s.peerVia ∧ (s.putRtHit v).groups = s.groups ∧ (s.putRtHit v).peerBound = s.peerBound ∧
    (s.putRtHit v).returned = s.returned ∧ (s.putRtHit v).lostRanges = s.lostRanges ∧ (s.putRtHit v).wmap = s.wmap ∧
    (s.putRtHit v).wfin = s.wfin ∧ (s.putRtHit v).wheld = s.wheld ∧ (s.putRtHit v).preserve = s.preserve ∧
    (s.putRtHit v).kept = s.kept ∧ (s.putRtHit v).metaOpen = s.metaOpen ∧ (s.putRtHit v).portA = s.portA ∧
    (s.putRtHit v).restartDue = s.restartDue ∧ (s.putRtHit v).pings = s.pings ∧ (s.putRtHit v).chain = s.chain ∧
    (s.putRtHit v).position = s.position ∧ (s.putRtHit v).power = s.power ∧ (s.putRtHit v).powerOp = s.powerOp ∧
    (s.putRtHit v).fsn = s.fsn ∧ (s.putRtHit v).ns = s.ns ∧ (s.putRtHit v).volCap = s.volCap ∧
    (s.putRtHit v).rsv = s.rsv ∧ (s.putRtHit v).tokCount = s.tokCount ∧ (s.putRtHit v).fullZones = s.fullZones ∧
    (s.putRtHit v).fam = s.fam ∧ (s.putRtHit v).params = s.params ∧ (s.putRtHit v).alm = s.alm ∧
    (s.putRtHit v).domeEntry = s.domeEntry ∧ (s.putRtHit v).domeWake = s.domeWake ∧
    (s.putRtHit v).domeAgreed = s.domeAgreed ∧ (s.putRtHit v).readAt = s.readAt ∧
    (s.putRtHit v).sensorFail = s.sensorFail ∧ (s.putRtHit v).tripCount = s.tripCount ∧ (s.putRtHit v).rise = s.rise ∧
    (s.putRtHit v).stopped = s.stopped ∧ (s.putRtHit v).coolSince = s.coolSince ∧ (s.putRtHit v).events = s.events ∧
    (s.putRtHit v).dies = s.dies ∧ (s.putRtHit v).chans = s.chans ∧ (s.putRtHit v).accs = s.accs ∧
    (s.putRtHit v).ldpc = s.ldpc ∧ (s.putRtHit v).nand = s.nand ∧ (s.putRtHit v).blkErased = s.blkErased ∧
    (s.putRtHit v).vault = s.vault ∧ (s.putRtHit v).sessions = s.sessions ∧
    (s.putRtHit v).trngRestarts = s.trngRestarts ∧ (s.putRtHit v).drbgLeft = s.drbgLeft ∧
    (s.putRtHit v).imageId = s.imageId ∧ (s.putRtHit v).verFuses = s.verFuses ∧ (s.putRtHit v).nsInfo = s.nsInfo ∧
    (s.putRtHit v).care = s.care ∧ (s.putRtHit v).history = s.history ∧ (s.putRtHit v).fw = s.fw ∧
    (s.putRtHit v).trust = s.trust ∧ (s.putRtHit v).fdp = s.fdp ∧ (s.putRtHit v).lostGen = s.lostGen ∧
    (s.putRtHit v).lostAgain = s.lostAgain ∧ (s.putRtHit v).accum = s.accum ∧ (s.putRtHit v).boundSent = s.boundSent ∧
    (s.putRtHit v).zoneUsed = s.zoneUsed ∧ (s.putRtHit v).clean = s.clean :=
  ⟨rfl, rfl, rfl, rfl, rfl, rfl, rfl, rfl, rfl, rfl, rfl, rfl, rfl, rfl, rfl, rfl, rfl, rfl, rfl, rfl, rfl, rfl, rfl,
  rfl, rfl, rfl, rfl, rfl, rfl, rfl, rfl, rfl, rfl, rfl, rfl, rfl, rfl, rfl, rfl, rfl, rfl, rfl, rfl, rfl, rfl, rfl,
  rfl, rfl, rfl, rfl, rfl, rfl, rfl, rfl, rfl, rfl, rfl, rfl, rfl, rfl, rfl, rfl, rfl, rfl, rfl, rfl, rfl, rfl, rfl,
  rfl, rfl, rfl, rfl, rfl, rfl, rfl, rfl, rfl, rfl, rfl, rfl, rfl, rfl, rfl, rfl, rfl, rfl, rfl, rfl, rfl, rfl, rfl,
  rfl, rfl, rfl, rfl, rfl, rfl, rfl, rfl, rfl, rfl, rfl, rfl, rfl, rfl, rfl, rfl, rfl, rfl, rfl, rfl, rfl, rfl, rfl,
  rfl, rfl, rfl, rfl, rfl, rfl, rfl, rfl, rfl⟩

@[simp] theorem State.putRtHit_rtHit (s : State) (v : FMap Nat) : (s.putRtHit v).rtHit = v := rfl

@[simp] theorem State.putRtClock_frame (s : State) (v : Nat) :
    (s.putRtClock v).pending = s.pending ∧ (s.putRtClock v).free = s.free ∧ (s.putRtClock v).out = s.out ∧
    (s.putRtClock v).boot = s.boot ∧ (s.putRtClock v).tick = s.tick ∧ (s.putRtClock v).win = s.win ∧
    (s.putRtClock v).gap = s.gap ∧ (s.putRtClock v).regs = s.regs ∧ (s.putRtClock v).regPend = s.regPend ∧
    (s.putRtClock v).cores = s.cores ∧ (s.putRtClock v).cluster = s.cluster ∧ (s.putRtClock v).tun = s.tun ∧
    (s.putRtClock v).tunBufs = s.tunBufs ∧ (s.putRtClock v).tunMin = s.tunMin ∧
    (s.putRtClock v).tunMinPend = s.tunMinPend ∧ (s.putRtClock v).sramErr = s.sramErr ∧
    (s.putRtClock v).heldBack = s.heldBack ∧ (s.putRtClock v).rtHit = s.rtHit ∧
    (s.putRtClock v).rtUntracked = s.rtUntracked ∧ (s.putRtClock v).dram = s.dram ∧ (s.putRtClock v).dr = s.dr ∧
    (s.putRtClock v).poison = s.poison ∧ (s.putRtClock v).ingot = s.ingot ∧ (s.putRtClock v).nor = s.nor ∧
    (s.putRtClock v).norUnk = s.norUnk ∧ (s.putRtClock v).pat = s.pat ∧ (s.putRtClock v).tdly = s.tdly ∧
    (s.putRtClock v).scrub = s.scrub ∧ (s.putRtClock v).fbuf = s.fbuf ∧ (s.putRtClock v).rings = s.rings ∧
    (s.putRtClock v).haz = s.haz ∧ (s.putRtClock v).marks = s.marks ∧ (s.putRtClock v).wsnFloor = s.wsnFloor ∧
    (s.putRtClock v).health = s.health ∧ (s.putRtClock v).qPend = s.qPend ∧ (s.putRtClock v).reqs = s.reqs ∧
    (s.putRtClock v).aborts = s.aborts ∧ (s.putRtClock v).gateShut = s.gateShut ∧ (s.putRtClock v).sqs = s.sqs ∧
    (s.putRtClock v).cqs = s.cqs ∧ (s.putRtClock v).cmds = s.cmds ∧ (s.putRtClock v).resets = s.resets ∧
    (s.putRtClock v).ctrls = s.ctrls ∧ (s.putRtClock v).arbs = s.arbs ∧ (s.putRtClock v).credit = s.credit ∧
    (s.putRtClock v).taken = s.taken ∧ (s.putRtClock v).fetchLeft = s.fetchLeft ∧ (s.putRtClock v).rotLast = s.rotLast ∧
    (s.putRtClock v).rotFirst = s.rotFirst ∧ (s.putRtClock v).hazStall = s.hazStall ∧ (s.putRtClock v).span = s.span ∧
    (s.putRtClock v).spanOut = s.spanOut ∧ (s.putRtClock v).spanIn = s.spanIn ∧ (s.putRtClock v).resOut = s.resOut ∧
    (s.putRtClock v).jobs = s.jobs ∧ (s.putRtClock v).finishing = s.finishing ∧ (s.putRtClock v).greads = s.greads ∧
    (s.putRtClock v).spanNum = s.spanNum ∧ (s.putRtClock v).spanArr = s.spanArr ∧ (s.putRtClock v).dups = s.dups ∧
    (s.putRtClock v).dupGen = s.dupGen ∧ (s.putRtClock v).rlogPos = s.rlogPos ∧ (s.putRtClock v).members = s.members ∧
    (s.putRtClock v).peerVia = s.peerVia ∧ (s.putRtClock v).groups = s.groups ∧
    (s.putRtClock v).peerBound = s.peerBound ∧ (s.putRtClock v).returned = s.returned ∧
    (s.putRtClock v).lostRanges = s.lostRanges ∧ (s.putRtClock v).wmap = s.wmap ∧ (s.putRtClock v).wfin = s.wfin ∧
    (s.putRtClock v).wheld = s.wheld ∧ (s.putRtClock v).preserve = s.preserve ∧ (s.putRtClock v).kept = s.kept ∧
    (s.putRtClock v).metaOpen = s.metaOpen ∧ (s.putRtClock v).portA = s.portA ∧
    (s.putRtClock v).restartDue = s.restartDue ∧ (s.putRtClock v).pings = s.pings ∧ (s.putRtClock v).chain = s.chain ∧
    (s.putRtClock v).position = s.position ∧ (s.putRtClock v).power = s.power ∧ (s.putRtClock v).powerOp = s.powerOp ∧
    (s.putRtClock v).fsn = s.fsn ∧ (s.putRtClock v).ns = s.ns ∧ (s.putRtClock v).volCap = s.volCap ∧
    (s.putRtClock v).rsv = s.rsv ∧ (s.putRtClock v).tokCount = s.tokCount ∧ (s.putRtClock v).fullZones = s.fullZones ∧
    (s.putRtClock v).fam = s.fam ∧ (s.putRtClock v).params = s.params ∧ (s.putRtClock v).alm = s.alm ∧
    (s.putRtClock v).domeEntry = s.domeEntry ∧ (s.putRtClock v).domeWake = s.domeWake ∧
    (s.putRtClock v).domeAgreed = s.domeAgreed ∧ (s.putRtClock v).readAt = s.readAt ∧
    (s.putRtClock v).sensorFail = s.sensorFail ∧ (s.putRtClock v).tripCount = s.tripCount ∧
    (s.putRtClock v).rise = s.rise ∧ (s.putRtClock v).stopped = s.stopped ∧ (s.putRtClock v).coolSince = s.coolSince ∧
    (s.putRtClock v).events = s.events ∧ (s.putRtClock v).dies = s.dies ∧ (s.putRtClock v).chans = s.chans ∧
    (s.putRtClock v).accs = s.accs ∧ (s.putRtClock v).ldpc = s.ldpc ∧ (s.putRtClock v).nand = s.nand ∧
    (s.putRtClock v).blkErased = s.blkErased ∧ (s.putRtClock v).vault = s.vault ∧
    (s.putRtClock v).sessions = s.sessions ∧ (s.putRtClock v).trngRestarts = s.trngRestarts ∧
    (s.putRtClock v).drbgLeft = s.drbgLeft ∧ (s.putRtClock v).imageId = s.imageId ∧
    (s.putRtClock v).verFuses = s.verFuses ∧ (s.putRtClock v).nsInfo = s.nsInfo ∧ (s.putRtClock v).care = s.care ∧
    (s.putRtClock v).history = s.history ∧ (s.putRtClock v).fw = s.fw ∧ (s.putRtClock v).trust = s.trust ∧
    (s.putRtClock v).fdp = s.fdp ∧ (s.putRtClock v).lostGen = s.lostGen ∧ (s.putRtClock v).lostAgain = s.lostAgain ∧
    (s.putRtClock v).accum = s.accum ∧ (s.putRtClock v).boundSent = s.boundSent ∧
    (s.putRtClock v).zoneUsed = s.zoneUsed ∧ (s.putRtClock v).clean = s.clean :=
  ⟨rfl, rfl, rfl, rfl, rfl, rfl, rfl, rfl, rfl, rfl, rfl, rfl, rfl, rfl, rfl, rfl, rfl, rfl, rfl, rfl, rfl, rfl, rfl,
  rfl, rfl, rfl, rfl, rfl, rfl, rfl, rfl, rfl, rfl, rfl, rfl, rfl, rfl, rfl, rfl, rfl, rfl, rfl, rfl, rfl, rfl, rfl,
  rfl, rfl, rfl, rfl, rfl, rfl, rfl, rfl, rfl, rfl, rfl, rfl, rfl, rfl, rfl, rfl, rfl, rfl, rfl, rfl, rfl, rfl, rfl,
  rfl, rfl, rfl, rfl, rfl, rfl, rfl, rfl, rfl, rfl, rfl, rfl, rfl, rfl, rfl, rfl, rfl, rfl, rfl, rfl, rfl, rfl, rfl,
  rfl, rfl, rfl, rfl, rfl, rfl, rfl, rfl, rfl, rfl, rfl, rfl, rfl, rfl, rfl, rfl, rfl, rfl, rfl, rfl, rfl, rfl, rfl,
  rfl, rfl, rfl, rfl, rfl, rfl, rfl, rfl, rfl⟩

@[simp] theorem State.putRtClock_rtClock (s : State) (v : Nat) : (s.putRtClock v).rtClock = v := rfl

@[simp] theorem State.putRtUntracked_frame (s : State) (v : Bool) :
    (s.putRtUntracked v).pending = s.pending ∧ (s.putRtUntracked v).free = s.free ∧ (s.putRtUntracked v).out = s.out ∧
    (s.putRtUntracked v).boot = s.boot ∧ (s.putRtUntracked v).tick = s.tick ∧ (s.putRtUntracked v).win = s.win ∧
    (s.putRtUntracked v).gap = s.gap ∧ (s.putRtUntracked v).regs = s.regs ∧ (s.putRtUntracked v).regPend = s.regPend ∧
    (s.putRtUntracked v).cores = s.cores ∧ (s.putRtUntracked v).cluster = s.cluster ∧ (s.putRtUntracked v).tun = s.tun ∧
    (s.putRtUntracked v).tunBufs = s.tunBufs ∧ (s.putRtUntracked v).tunMin = s.tunMin ∧
    (s.putRtUntracked v).tunMinPend = s.tunMinPend ∧ (s.putRtUntracked v).sramErr = s.sramErr ∧
    (s.putRtUntracked v).heldBack = s.heldBack ∧ (s.putRtUntracked v).rtHit = s.rtHit ∧
    (s.putRtUntracked v).rtClock = s.rtClock ∧ (s.putRtUntracked v).dram = s.dram ∧ (s.putRtUntracked v).dr = s.dr ∧
    (s.putRtUntracked v).poison = s.poison ∧ (s.putRtUntracked v).ingot = s.ingot ∧ (s.putRtUntracked v).nor = s.nor ∧
    (s.putRtUntracked v).norUnk = s.norUnk ∧ (s.putRtUntracked v).pat = s.pat ∧ (s.putRtUntracked v).tdly = s.tdly ∧
    (s.putRtUntracked v).scrub = s.scrub ∧ (s.putRtUntracked v).fbuf = s.fbuf ∧ (s.putRtUntracked v).rings = s.rings ∧
    (s.putRtUntracked v).haz = s.haz ∧ (s.putRtUntracked v).marks = s.marks ∧
    (s.putRtUntracked v).wsnFloor = s.wsnFloor ∧ (s.putRtUntracked v).health = s.health ∧
    (s.putRtUntracked v).qPend = s.qPend ∧ (s.putRtUntracked v).reqs = s.reqs ∧ (s.putRtUntracked v).aborts = s.aborts ∧
    (s.putRtUntracked v).gateShut = s.gateShut ∧ (s.putRtUntracked v).sqs = s.sqs ∧ (s.putRtUntracked v).cqs = s.cqs ∧
    (s.putRtUntracked v).cmds = s.cmds ∧ (s.putRtUntracked v).resets = s.resets ∧ (s.putRtUntracked v).ctrls = s.ctrls ∧
    (s.putRtUntracked v).arbs = s.arbs ∧ (s.putRtUntracked v).credit = s.credit ∧ (s.putRtUntracked v).taken = s.taken ∧
    (s.putRtUntracked v).fetchLeft = s.fetchLeft ∧ (s.putRtUntracked v).rotLast = s.rotLast ∧
    (s.putRtUntracked v).rotFirst = s.rotFirst ∧ (s.putRtUntracked v).hazStall = s.hazStall ∧
    (s.putRtUntracked v).span = s.span ∧ (s.putRtUntracked v).spanOut = s.spanOut ∧
    (s.putRtUntracked v).spanIn = s.spanIn ∧ (s.putRtUntracked v).resOut = s.resOut ∧
    (s.putRtUntracked v).jobs = s.jobs ∧ (s.putRtUntracked v).finishing = s.finishing ∧
    (s.putRtUntracked v).greads = s.greads ∧ (s.putRtUntracked v).spanNum = s.spanNum ∧
    (s.putRtUntracked v).spanArr = s.spanArr ∧ (s.putRtUntracked v).dups = s.dups ∧
    (s.putRtUntracked v).dupGen = s.dupGen ∧ (s.putRtUntracked v).rlogPos = s.rlogPos ∧
    (s.putRtUntracked v).members = s.members ∧ (s.putRtUntracked v).peerVia = s.peerVia ∧
    (s.putRtUntracked v).groups = s.groups ∧ (s.putRtUntracked v).peerBound = s.peerBound ∧
    (s.putRtUntracked v).returned = s.returned ∧ (s.putRtUntracked v).lostRanges = s.lostRanges ∧
    (s.putRtUntracked v).wmap = s.wmap ∧ (s.putRtUntracked v).wfin = s.wfin ∧ (s.putRtUntracked v).wheld = s.wheld ∧
    (s.putRtUntracked v).preserve = s.preserve ∧ (s.putRtUntracked v).kept = s.kept ∧
    (s.putRtUntracked v).metaOpen = s.metaOpen ∧ (s.putRtUntracked v).portA = s.portA ∧
    (s.putRtUntracked v).restartDue = s.restartDue ∧ (s.putRtUntracked v).pings = s.pings ∧
    (s.putRtUntracked v).chain = s.chain ∧ (s.putRtUntracked v).position = s.position ∧
    (s.putRtUntracked v).power = s.power ∧ (s.putRtUntracked v).powerOp = s.powerOp ∧ (s.putRtUntracked v).fsn = s.fsn ∧
    (s.putRtUntracked v).ns = s.ns ∧ (s.putRtUntracked v).volCap = s.volCap ∧ (s.putRtUntracked v).rsv = s.rsv ∧
    (s.putRtUntracked v).tokCount = s.tokCount ∧ (s.putRtUntracked v).fullZones = s.fullZones ∧
    (s.putRtUntracked v).fam = s.fam ∧ (s.putRtUntracked v).params = s.params ∧ (s.putRtUntracked v).alm = s.alm ∧
    (s.putRtUntracked v).domeEntry = s.domeEntry ∧ (s.putRtUntracked v).domeWake = s.domeWake ∧
    (s.putRtUntracked v).domeAgreed = s.domeAgreed ∧ (s.putRtUntracked v).readAt = s.readAt ∧
    (s.putRtUntracked v).sensorFail = s.sensorFail ∧ (s.putRtUntracked v).tripCount = s.tripCount ∧
    (s.putRtUntracked v).rise = s.rise ∧ (s.putRtUntracked v).stopped = s.stopped ∧
    (s.putRtUntracked v).coolSince = s.coolSince ∧ (s.putRtUntracked v).events = s.events ∧
    (s.putRtUntracked v).dies = s.dies ∧ (s.putRtUntracked v).chans = s.chans ∧ (s.putRtUntracked v).accs = s.accs ∧
    (s.putRtUntracked v).ldpc = s.ldpc ∧ (s.putRtUntracked v).nand = s.nand ∧
    (s.putRtUntracked v).blkErased = s.blkErased ∧ (s.putRtUntracked v).vault = s.vault ∧
    (s.putRtUntracked v).sessions = s.sessions ∧ (s.putRtUntracked v).trngRestarts = s.trngRestarts ∧
    (s.putRtUntracked v).drbgLeft = s.drbgLeft ∧ (s.putRtUntracked v).imageId = s.imageId ∧
    (s.putRtUntracked v).verFuses = s.verFuses ∧ (s.putRtUntracked v).nsInfo = s.nsInfo ∧
    (s.putRtUntracked v).care = s.care ∧ (s.putRtUntracked v).history = s.history ∧ (s.putRtUntracked v).fw = s.fw ∧
    (s.putRtUntracked v).trust = s.trust ∧ (s.putRtUntracked v).fdp = s.fdp ∧ (s.putRtUntracked v).lostGen = s.lostGen ∧
    (s.putRtUntracked v).lostAgain = s.lostAgain ∧ (s.putRtUntracked v).accum = s.accum ∧
    (s.putRtUntracked v).boundSent = s.boundSent ∧ (s.putRtUntracked v).zoneUsed = s.zoneUsed ∧
    (s.putRtUntracked v).clean = s.clean :=
  ⟨rfl, rfl, rfl, rfl, rfl, rfl, rfl, rfl, rfl, rfl, rfl, rfl, rfl, rfl, rfl, rfl, rfl, rfl, rfl, rfl, rfl, rfl, rfl,
  rfl, rfl, rfl, rfl, rfl, rfl, rfl, rfl, rfl, rfl, rfl, rfl, rfl, rfl, rfl, rfl, rfl, rfl, rfl, rfl, rfl, rfl, rfl,
  rfl, rfl, rfl, rfl, rfl, rfl, rfl, rfl, rfl, rfl, rfl, rfl, rfl, rfl, rfl, rfl, rfl, rfl, rfl, rfl, rfl, rfl, rfl,
  rfl, rfl, rfl, rfl, rfl, rfl, rfl, rfl, rfl, rfl, rfl, rfl, rfl, rfl, rfl, rfl, rfl, rfl, rfl, rfl, rfl, rfl, rfl,
  rfl, rfl, rfl, rfl, rfl, rfl, rfl, rfl, rfl, rfl, rfl, rfl, rfl, rfl, rfl, rfl, rfl, rfl, rfl, rfl, rfl, rfl, rfl,
  rfl, rfl, rfl, rfl, rfl, rfl, rfl, rfl, rfl⟩

@[simp] theorem State.putRtUntracked_rtUntracked (s : State) (v : Bool) : (s.putRtUntracked v).rtUntracked = v := rfl

@[simp] theorem State.putDram_frame (s : State) (v : FMap Byte) :
    (s.putDram v).pending = s.pending ∧ (s.putDram v).free = s.free ∧ (s.putDram v).out = s.out ∧
    (s.putDram v).boot = s.boot ∧ (s.putDram v).tick = s.tick ∧ (s.putDram v).win = s.win ∧ (s.putDram v).gap = s.gap ∧
    (s.putDram v).regs = s.regs ∧ (s.putDram v).regPend = s.regPend ∧ (s.putDram v).cores = s.cores ∧
    (s.putDram v).cluster = s.cluster ∧ (s.putDram v).tun = s.tun ∧ (s.putDram v).tunBufs = s.tunBufs ∧
    (s.putDram v).tunMin = s.tunMin ∧ (s.putDram v).tunMinPend = s.tunMinPend ∧ (s.putDram v).sramErr = s.sramErr ∧
    (s.putDram v).heldBack = s.heldBack ∧ (s.putDram v).rtHit = s.rtHit ∧ (s.putDram v).rtClock = s.rtClock ∧
    (s.putDram v).rtUntracked = s.rtUntracked ∧ (s.putDram v).dr = s.dr ∧ (s.putDram v).poison = s.poison ∧
    (s.putDram v).ingot = s.ingot ∧ (s.putDram v).nor = s.nor ∧ (s.putDram v).norUnk = s.norUnk ∧
    (s.putDram v).pat = s.pat ∧ (s.putDram v).tdly = s.tdly ∧ (s.putDram v).scrub = s.scrub ∧
    (s.putDram v).fbuf = s.fbuf ∧ (s.putDram v).rings = s.rings ∧ (s.putDram v).haz = s.haz ∧
    (s.putDram v).marks = s.marks ∧ (s.putDram v).wsnFloor = s.wsnFloor ∧ (s.putDram v).health = s.health ∧
    (s.putDram v).qPend = s.qPend ∧ (s.putDram v).reqs = s.reqs ∧ (s.putDram v).aborts = s.aborts ∧
    (s.putDram v).gateShut = s.gateShut ∧ (s.putDram v).sqs = s.sqs ∧ (s.putDram v).cqs = s.cqs ∧
    (s.putDram v).cmds = s.cmds ∧ (s.putDram v).resets = s.resets ∧ (s.putDram v).ctrls = s.ctrls ∧
    (s.putDram v).arbs = s.arbs ∧ (s.putDram v).credit = s.credit ∧ (s.putDram v).taken = s.taken ∧
    (s.putDram v).fetchLeft = s.fetchLeft ∧ (s.putDram v).rotLast = s.rotLast ∧ (s.putDram v).rotFirst = s.rotFirst ∧
    (s.putDram v).hazStall = s.hazStall ∧ (s.putDram v).span = s.span ∧ (s.putDram v).spanOut = s.spanOut ∧
    (s.putDram v).spanIn = s.spanIn ∧ (s.putDram v).resOut = s.resOut ∧ (s.putDram v).jobs = s.jobs ∧
    (s.putDram v).finishing = s.finishing ∧ (s.putDram v).greads = s.greads ∧ (s.putDram v).spanNum = s.spanNum ∧
    (s.putDram v).spanArr = s.spanArr ∧ (s.putDram v).dups = s.dups ∧ (s.putDram v).dupGen = s.dupGen ∧
    (s.putDram v).rlogPos = s.rlogPos ∧ (s.putDram v).members = s.members ∧ (s.putDram v).peerVia = s.peerVia ∧
    (s.putDram v).groups = s.groups ∧ (s.putDram v).peerBound = s.peerBound ∧ (s.putDram v).returned = s.returned ∧
    (s.putDram v).lostRanges = s.lostRanges ∧ (s.putDram v).wmap = s.wmap ∧ (s.putDram v).wfin = s.wfin ∧
    (s.putDram v).wheld = s.wheld ∧ (s.putDram v).preserve = s.preserve ∧ (s.putDram v).kept = s.kept ∧
    (s.putDram v).metaOpen = s.metaOpen ∧ (s.putDram v).portA = s.portA ∧ (s.putDram v).restartDue = s.restartDue ∧
    (s.putDram v).pings = s.pings ∧ (s.putDram v).chain = s.chain ∧ (s.putDram v).position = s.position ∧
    (s.putDram v).power = s.power ∧ (s.putDram v).powerOp = s.powerOp ∧ (s.putDram v).fsn = s.fsn ∧
    (s.putDram v).ns = s.ns ∧ (s.putDram v).volCap = s.volCap ∧ (s.putDram v).rsv = s.rsv ∧
    (s.putDram v).tokCount = s.tokCount ∧ (s.putDram v).fullZones = s.fullZones ∧ (s.putDram v).fam = s.fam ∧
    (s.putDram v).params = s.params ∧ (s.putDram v).alm = s.alm ∧ (s.putDram v).domeEntry = s.domeEntry ∧
    (s.putDram v).domeWake = s.domeWake ∧ (s.putDram v).domeAgreed = s.domeAgreed ∧ (s.putDram v).readAt = s.readAt ∧
    (s.putDram v).sensorFail = s.sensorFail ∧ (s.putDram v).tripCount = s.tripCount ∧ (s.putDram v).rise = s.rise ∧
    (s.putDram v).stopped = s.stopped ∧ (s.putDram v).coolSince = s.coolSince ∧ (s.putDram v).events = s.events ∧
    (s.putDram v).dies = s.dies ∧ (s.putDram v).chans = s.chans ∧ (s.putDram v).accs = s.accs ∧
    (s.putDram v).ldpc = s.ldpc ∧ (s.putDram v).nand = s.nand ∧ (s.putDram v).blkErased = s.blkErased ∧
    (s.putDram v).vault = s.vault ∧ (s.putDram v).sessions = s.sessions ∧ (s.putDram v).trngRestarts = s.trngRestarts ∧
    (s.putDram v).drbgLeft = s.drbgLeft ∧ (s.putDram v).imageId = s.imageId ∧ (s.putDram v).verFuses = s.verFuses ∧
    (s.putDram v).nsInfo = s.nsInfo ∧ (s.putDram v).care = s.care ∧ (s.putDram v).history = s.history ∧
    (s.putDram v).fw = s.fw ∧ (s.putDram v).trust = s.trust ∧ (s.putDram v).fdp = s.fdp ∧
    (s.putDram v).lostGen = s.lostGen ∧ (s.putDram v).lostAgain = s.lostAgain ∧ (s.putDram v).accum = s.accum ∧
    (s.putDram v).boundSent = s.boundSent ∧ (s.putDram v).zoneUsed = s.zoneUsed ∧ (s.putDram v).clean = s.clean :=
  ⟨rfl, rfl, rfl, rfl, rfl, rfl, rfl, rfl, rfl, rfl, rfl, rfl, rfl, rfl, rfl, rfl, rfl, rfl, rfl, rfl, rfl, rfl, rfl,
  rfl, rfl, rfl, rfl, rfl, rfl, rfl, rfl, rfl, rfl, rfl, rfl, rfl, rfl, rfl, rfl, rfl, rfl, rfl, rfl, rfl, rfl, rfl,
  rfl, rfl, rfl, rfl, rfl, rfl, rfl, rfl, rfl, rfl, rfl, rfl, rfl, rfl, rfl, rfl, rfl, rfl, rfl, rfl, rfl, rfl, rfl,
  rfl, rfl, rfl, rfl, rfl, rfl, rfl, rfl, rfl, rfl, rfl, rfl, rfl, rfl, rfl, rfl, rfl, rfl, rfl, rfl, rfl, rfl, rfl,
  rfl, rfl, rfl, rfl, rfl, rfl, rfl, rfl, rfl, rfl, rfl, rfl, rfl, rfl, rfl, rfl, rfl, rfl, rfl, rfl, rfl, rfl, rfl,
  rfl, rfl, rfl, rfl, rfl, rfl, rfl, rfl, rfl⟩

@[simp] theorem State.putDram_dram (s : State) (v : FMap Byte) : (s.putDram v).dram = v := rfl

@[simp] theorem State.putDr_frame (s : State) (v : DramRas) :
    (s.putDr v).pending = s.pending ∧ (s.putDr v).free = s.free ∧ (s.putDr v).out = s.out ∧ (s.putDr v).boot = s.boot ∧
    (s.putDr v).tick = s.tick ∧ (s.putDr v).win = s.win ∧ (s.putDr v).gap = s.gap ∧ (s.putDr v).regs = s.regs ∧
    (s.putDr v).regPend = s.regPend ∧ (s.putDr v).cores = s.cores ∧ (s.putDr v).cluster = s.cluster ∧
    (s.putDr v).tun = s.tun ∧ (s.putDr v).tunBufs = s.tunBufs ∧ (s.putDr v).tunMin = s.tunMin ∧
    (s.putDr v).tunMinPend = s.tunMinPend ∧ (s.putDr v).sramErr = s.sramErr ∧ (s.putDr v).heldBack = s.heldBack ∧
    (s.putDr v).rtHit = s.rtHit ∧ (s.putDr v).rtClock = s.rtClock ∧ (s.putDr v).rtUntracked = s.rtUntracked ∧
    (s.putDr v).dram = s.dram ∧ (s.putDr v).poison = s.poison ∧ (s.putDr v).ingot = s.ingot ∧ (s.putDr v).nor = s.nor ∧
    (s.putDr v).norUnk = s.norUnk ∧ (s.putDr v).pat = s.pat ∧ (s.putDr v).tdly = s.tdly ∧ (s.putDr v).scrub = s.scrub ∧
    (s.putDr v).fbuf = s.fbuf ∧ (s.putDr v).rings = s.rings ∧ (s.putDr v).haz = s.haz ∧ (s.putDr v).marks = s.marks ∧
    (s.putDr v).wsnFloor = s.wsnFloor ∧ (s.putDr v).health = s.health ∧ (s.putDr v).qPend = s.qPend ∧
    (s.putDr v).reqs = s.reqs ∧ (s.putDr v).aborts = s.aborts ∧ (s.putDr v).gateShut = s.gateShut ∧
    (s.putDr v).sqs = s.sqs ∧ (s.putDr v).cqs = s.cqs ∧ (s.putDr v).cmds = s.cmds ∧ (s.putDr v).resets = s.resets ∧
    (s.putDr v).ctrls = s.ctrls ∧ (s.putDr v).arbs = s.arbs ∧ (s.putDr v).credit = s.credit ∧
    (s.putDr v).taken = s.taken ∧ (s.putDr v).fetchLeft = s.fetchLeft ∧ (s.putDr v).rotLast = s.rotLast ∧
    (s.putDr v).rotFirst = s.rotFirst ∧ (s.putDr v).hazStall = s.hazStall ∧ (s.putDr v).span = s.span ∧
    (s.putDr v).spanOut = s.spanOut ∧ (s.putDr v).spanIn = s.spanIn ∧ (s.putDr v).resOut = s.resOut ∧
    (s.putDr v).jobs = s.jobs ∧ (s.putDr v).finishing = s.finishing ∧ (s.putDr v).greads = s.greads ∧
    (s.putDr v).spanNum = s.spanNum ∧ (s.putDr v).spanArr = s.spanArr ∧ (s.putDr v).dups = s.dups ∧
    (s.putDr v).dupGen = s.dupGen ∧ (s.putDr v).rlogPos = s.rlogPos ∧ (s.putDr v).members = s.members ∧
    (s.putDr v).peerVia = s.peerVia ∧ (s.putDr v).groups = s.groups ∧ (s.putDr v).peerBound = s.peerBound ∧
    (s.putDr v).returned = s.returned ∧ (s.putDr v).lostRanges = s.lostRanges ∧ (s.putDr v).wmap = s.wmap ∧
    (s.putDr v).wfin = s.wfin ∧ (s.putDr v).wheld = s.wheld ∧ (s.putDr v).preserve = s.preserve ∧
    (s.putDr v).kept = s.kept ∧ (s.putDr v).metaOpen = s.metaOpen ∧ (s.putDr v).portA = s.portA ∧
    (s.putDr v).restartDue = s.restartDue ∧ (s.putDr v).pings = s.pings ∧ (s.putDr v).chain = s.chain ∧
    (s.putDr v).position = s.position ∧ (s.putDr v).power = s.power ∧ (s.putDr v).powerOp = s.powerOp ∧
    (s.putDr v).fsn = s.fsn ∧ (s.putDr v).ns = s.ns ∧ (s.putDr v).volCap = s.volCap ∧ (s.putDr v).rsv = s.rsv ∧
    (s.putDr v).tokCount = s.tokCount ∧ (s.putDr v).fullZones = s.fullZones ∧ (s.putDr v).fam = s.fam ∧
    (s.putDr v).params = s.params ∧ (s.putDr v).alm = s.alm ∧ (s.putDr v).domeEntry = s.domeEntry ∧
    (s.putDr v).domeWake = s.domeWake ∧ (s.putDr v).domeAgreed = s.domeAgreed ∧ (s.putDr v).readAt = s.readAt ∧
    (s.putDr v).sensorFail = s.sensorFail ∧ (s.putDr v).tripCount = s.tripCount ∧ (s.putDr v).rise = s.rise ∧
    (s.putDr v).stopped = s.stopped ∧ (s.putDr v).coolSince = s.coolSince ∧ (s.putDr v).events = s.events ∧
    (s.putDr v).dies = s.dies ∧ (s.putDr v).chans = s.chans ∧ (s.putDr v).accs = s.accs ∧ (s.putDr v).ldpc = s.ldpc ∧
    (s.putDr v).nand = s.nand ∧ (s.putDr v).blkErased = s.blkErased ∧ (s.putDr v).vault = s.vault ∧
    (s.putDr v).sessions = s.sessions ∧ (s.putDr v).trngRestarts = s.trngRestarts ∧ (s.putDr v).drbgLeft = s.drbgLeft ∧
    (s.putDr v).imageId = s.imageId ∧ (s.putDr v).verFuses = s.verFuses ∧ (s.putDr v).nsInfo = s.nsInfo ∧
    (s.putDr v).care = s.care ∧ (s.putDr v).history = s.history ∧ (s.putDr v).fw = s.fw ∧ (s.putDr v).trust = s.trust ∧
    (s.putDr v).fdp = s.fdp ∧ (s.putDr v).lostGen = s.lostGen ∧ (s.putDr v).lostAgain = s.lostAgain ∧
    (s.putDr v).accum = s.accum ∧ (s.putDr v).boundSent = s.boundSent ∧ (s.putDr v).zoneUsed = s.zoneUsed ∧
    (s.putDr v).clean = s.clean :=
  ⟨rfl, rfl, rfl, rfl, rfl, rfl, rfl, rfl, rfl, rfl, rfl, rfl, rfl, rfl, rfl, rfl, rfl, rfl, rfl, rfl, rfl, rfl, rfl,
  rfl, rfl, rfl, rfl, rfl, rfl, rfl, rfl, rfl, rfl, rfl, rfl, rfl, rfl, rfl, rfl, rfl, rfl, rfl, rfl, rfl, rfl, rfl,
  rfl, rfl, rfl, rfl, rfl, rfl, rfl, rfl, rfl, rfl, rfl, rfl, rfl, rfl, rfl, rfl, rfl, rfl, rfl, rfl, rfl, rfl, rfl,
  rfl, rfl, rfl, rfl, rfl, rfl, rfl, rfl, rfl, rfl, rfl, rfl, rfl, rfl, rfl, rfl, rfl, rfl, rfl, rfl, rfl, rfl, rfl,
  rfl, rfl, rfl, rfl, rfl, rfl, rfl, rfl, rfl, rfl, rfl, rfl, rfl, rfl, rfl, rfl, rfl, rfl, rfl, rfl, rfl, rfl, rfl,
  rfl, rfl, rfl, rfl, rfl, rfl, rfl, rfl, rfl⟩

@[simp] theorem State.putDr_dr (s : State) (v : DramRas) : (s.putDr v).dr = v := rfl

@[simp] theorem State.putPoison_frame (s : State) (v : FMap Bool) :
    (s.putPoison v).pending = s.pending ∧ (s.putPoison v).free = s.free ∧ (s.putPoison v).out = s.out ∧
    (s.putPoison v).boot = s.boot ∧ (s.putPoison v).tick = s.tick ∧ (s.putPoison v).win = s.win ∧
    (s.putPoison v).gap = s.gap ∧ (s.putPoison v).regs = s.regs ∧ (s.putPoison v).regPend = s.regPend ∧
    (s.putPoison v).cores = s.cores ∧ (s.putPoison v).cluster = s.cluster ∧ (s.putPoison v).tun = s.tun ∧
    (s.putPoison v).tunBufs = s.tunBufs ∧ (s.putPoison v).tunMin = s.tunMin ∧ (s.putPoison v).tunMinPend = s.tunMinPend ∧
    (s.putPoison v).sramErr = s.sramErr ∧ (s.putPoison v).heldBack = s.heldBack ∧ (s.putPoison v).rtHit = s.rtHit ∧
    (s.putPoison v).rtClock = s.rtClock ∧ (s.putPoison v).rtUntracked = s.rtUntracked ∧ (s.putPoison v).dram = s.dram ∧
    (s.putPoison v).dr = s.dr ∧ (s.putPoison v).ingot = s.ingot ∧ (s.putPoison v).nor = s.nor ∧
    (s.putPoison v).norUnk = s.norUnk ∧ (s.putPoison v).pat = s.pat ∧ (s.putPoison v).tdly = s.tdly ∧
    (s.putPoison v).scrub = s.scrub ∧ (s.putPoison v).fbuf = s.fbuf ∧ (s.putPoison v).rings = s.rings ∧
    (s.putPoison v).haz = s.haz ∧ (s.putPoison v).marks = s.marks ∧ (s.putPoison v).wsnFloor = s.wsnFloor ∧
    (s.putPoison v).health = s.health ∧ (s.putPoison v).qPend = s.qPend ∧ (s.putPoison v).reqs = s.reqs ∧
    (s.putPoison v).aborts = s.aborts ∧ (s.putPoison v).gateShut = s.gateShut ∧ (s.putPoison v).sqs = s.sqs ∧
    (s.putPoison v).cqs = s.cqs ∧ (s.putPoison v).cmds = s.cmds ∧ (s.putPoison v).resets = s.resets ∧
    (s.putPoison v).ctrls = s.ctrls ∧ (s.putPoison v).arbs = s.arbs ∧ (s.putPoison v).credit = s.credit ∧
    (s.putPoison v).taken = s.taken ∧ (s.putPoison v).fetchLeft = s.fetchLeft ∧ (s.putPoison v).rotLast = s.rotLast ∧
    (s.putPoison v).rotFirst = s.rotFirst ∧ (s.putPoison v).hazStall = s.hazStall ∧ (s.putPoison v).span = s.span ∧
    (s.putPoison v).spanOut = s.spanOut ∧ (s.putPoison v).spanIn = s.spanIn ∧ (s.putPoison v).resOut = s.resOut ∧
    (s.putPoison v).jobs = s.jobs ∧ (s.putPoison v).finishing = s.finishing ∧ (s.putPoison v).greads = s.greads ∧
    (s.putPoison v).spanNum = s.spanNum ∧ (s.putPoison v).spanArr = s.spanArr ∧ (s.putPoison v).dups = s.dups ∧
    (s.putPoison v).dupGen = s.dupGen ∧ (s.putPoison v).rlogPos = s.rlogPos ∧ (s.putPoison v).members = s.members ∧
    (s.putPoison v).peerVia = s.peerVia ∧ (s.putPoison v).groups = s.groups ∧ (s.putPoison v).peerBound = s.peerBound ∧
    (s.putPoison v).returned = s.returned ∧ (s.putPoison v).lostRanges = s.lostRanges ∧ (s.putPoison v).wmap = s.wmap ∧
    (s.putPoison v).wfin = s.wfin ∧ (s.putPoison v).wheld = s.wheld ∧ (s.putPoison v).preserve = s.preserve ∧
    (s.putPoison v).kept = s.kept ∧ (s.putPoison v).metaOpen = s.metaOpen ∧ (s.putPoison v).portA = s.portA ∧
    (s.putPoison v).restartDue = s.restartDue ∧ (s.putPoison v).pings = s.pings ∧ (s.putPoison v).chain = s.chain ∧
    (s.putPoison v).position = s.position ∧ (s.putPoison v).power = s.power ∧ (s.putPoison v).powerOp = s.powerOp ∧
    (s.putPoison v).fsn = s.fsn ∧ (s.putPoison v).ns = s.ns ∧ (s.putPoison v).volCap = s.volCap ∧
    (s.putPoison v).rsv = s.rsv ∧ (s.putPoison v).tokCount = s.tokCount ∧ (s.putPoison v).fullZones = s.fullZones ∧
    (s.putPoison v).fam = s.fam ∧ (s.putPoison v).params = s.params ∧ (s.putPoison v).alm = s.alm ∧
    (s.putPoison v).domeEntry = s.domeEntry ∧ (s.putPoison v).domeWake = s.domeWake ∧
    (s.putPoison v).domeAgreed = s.domeAgreed ∧ (s.putPoison v).readAt = s.readAt ∧
    (s.putPoison v).sensorFail = s.sensorFail ∧ (s.putPoison v).tripCount = s.tripCount ∧ (s.putPoison v).rise = s.rise ∧
    (s.putPoison v).stopped = s.stopped ∧ (s.putPoison v).coolSince = s.coolSince ∧ (s.putPoison v).events = s.events ∧
    (s.putPoison v).dies = s.dies ∧ (s.putPoison v).chans = s.chans ∧ (s.putPoison v).accs = s.accs ∧
    (s.putPoison v).ldpc = s.ldpc ∧ (s.putPoison v).nand = s.nand ∧ (s.putPoison v).blkErased = s.blkErased ∧
    (s.putPoison v).vault = s.vault ∧ (s.putPoison v).sessions = s.sessions ∧
    (s.putPoison v).trngRestarts = s.trngRestarts ∧ (s.putPoison v).drbgLeft = s.drbgLeft ∧
    (s.putPoison v).imageId = s.imageId ∧ (s.putPoison v).verFuses = s.verFuses ∧ (s.putPoison v).nsInfo = s.nsInfo ∧
    (s.putPoison v).care = s.care ∧ (s.putPoison v).history = s.history ∧ (s.putPoison v).fw = s.fw ∧
    (s.putPoison v).trust = s.trust ∧ (s.putPoison v).fdp = s.fdp ∧ (s.putPoison v).lostGen = s.lostGen ∧
    (s.putPoison v).lostAgain = s.lostAgain ∧ (s.putPoison v).accum = s.accum ∧ (s.putPoison v).boundSent = s.boundSent ∧
    (s.putPoison v).zoneUsed = s.zoneUsed ∧ (s.putPoison v).clean = s.clean :=
  ⟨rfl, rfl, rfl, rfl, rfl, rfl, rfl, rfl, rfl, rfl, rfl, rfl, rfl, rfl, rfl, rfl, rfl, rfl, rfl, rfl, rfl, rfl, rfl,
  rfl, rfl, rfl, rfl, rfl, rfl, rfl, rfl, rfl, rfl, rfl, rfl, rfl, rfl, rfl, rfl, rfl, rfl, rfl, rfl, rfl, rfl, rfl,
  rfl, rfl, rfl, rfl, rfl, rfl, rfl, rfl, rfl, rfl, rfl, rfl, rfl, rfl, rfl, rfl, rfl, rfl, rfl, rfl, rfl, rfl, rfl,
  rfl, rfl, rfl, rfl, rfl, rfl, rfl, rfl, rfl, rfl, rfl, rfl, rfl, rfl, rfl, rfl, rfl, rfl, rfl, rfl, rfl, rfl, rfl,
  rfl, rfl, rfl, rfl, rfl, rfl, rfl, rfl, rfl, rfl, rfl, rfl, rfl, rfl, rfl, rfl, rfl, rfl, rfl, rfl, rfl, rfl, rfl,
  rfl, rfl, rfl, rfl, rfl, rfl, rfl, rfl, rfl⟩

@[simp] theorem State.putPoison_poison (s : State) (v : FMap Bool) : (s.putPoison v).poison = v := rfl

@[simp] theorem State.putIngot_frame (s : State) (v : FMap Byte) :
    (s.putIngot v).pending = s.pending ∧ (s.putIngot v).free = s.free ∧ (s.putIngot v).out = s.out ∧
    (s.putIngot v).boot = s.boot ∧ (s.putIngot v).tick = s.tick ∧ (s.putIngot v).win = s.win ∧
    (s.putIngot v).gap = s.gap ∧ (s.putIngot v).regs = s.regs ∧ (s.putIngot v).regPend = s.regPend ∧
    (s.putIngot v).cores = s.cores ∧ (s.putIngot v).cluster = s.cluster ∧ (s.putIngot v).tun = s.tun ∧
    (s.putIngot v).tunBufs = s.tunBufs ∧ (s.putIngot v).tunMin = s.tunMin ∧ (s.putIngot v).tunMinPend = s.tunMinPend ∧
    (s.putIngot v).sramErr = s.sramErr ∧ (s.putIngot v).heldBack = s.heldBack ∧ (s.putIngot v).rtHit = s.rtHit ∧
    (s.putIngot v).rtClock = s.rtClock ∧ (s.putIngot v).rtUntracked = s.rtUntracked ∧ (s.putIngot v).dram = s.dram ∧
    (s.putIngot v).dr = s.dr ∧ (s.putIngot v).poison = s.poison ∧ (s.putIngot v).nor = s.nor ∧
    (s.putIngot v).norUnk = s.norUnk ∧ (s.putIngot v).pat = s.pat ∧ (s.putIngot v).tdly = s.tdly ∧
    (s.putIngot v).scrub = s.scrub ∧ (s.putIngot v).fbuf = s.fbuf ∧ (s.putIngot v).rings = s.rings ∧
    (s.putIngot v).haz = s.haz ∧ (s.putIngot v).marks = s.marks ∧ (s.putIngot v).wsnFloor = s.wsnFloor ∧
    (s.putIngot v).health = s.health ∧ (s.putIngot v).qPend = s.qPend ∧ (s.putIngot v).reqs = s.reqs ∧
    (s.putIngot v).aborts = s.aborts ∧ (s.putIngot v).gateShut = s.gateShut ∧ (s.putIngot v).sqs = s.sqs ∧
    (s.putIngot v).cqs = s.cqs ∧ (s.putIngot v).cmds = s.cmds ∧ (s.putIngot v).resets = s.resets ∧
    (s.putIngot v).ctrls = s.ctrls ∧ (s.putIngot v).arbs = s.arbs ∧ (s.putIngot v).credit = s.credit ∧
    (s.putIngot v).taken = s.taken ∧ (s.putIngot v).fetchLeft = s.fetchLeft ∧ (s.putIngot v).rotLast = s.rotLast ∧
    (s.putIngot v).rotFirst = s.rotFirst ∧ (s.putIngot v).hazStall = s.hazStall ∧ (s.putIngot v).span = s.span ∧
    (s.putIngot v).spanOut = s.spanOut ∧ (s.putIngot v).spanIn = s.spanIn ∧ (s.putIngot v).resOut = s.resOut ∧
    (s.putIngot v).jobs = s.jobs ∧ (s.putIngot v).finishing = s.finishing ∧ (s.putIngot v).greads = s.greads ∧
    (s.putIngot v).spanNum = s.spanNum ∧ (s.putIngot v).spanArr = s.spanArr ∧ (s.putIngot v).dups = s.dups ∧
    (s.putIngot v).dupGen = s.dupGen ∧ (s.putIngot v).rlogPos = s.rlogPos ∧ (s.putIngot v).members = s.members ∧
    (s.putIngot v).peerVia = s.peerVia ∧ (s.putIngot v).groups = s.groups ∧ (s.putIngot v).peerBound = s.peerBound ∧
    (s.putIngot v).returned = s.returned ∧ (s.putIngot v).lostRanges = s.lostRanges ∧ (s.putIngot v).wmap = s.wmap ∧
    (s.putIngot v).wfin = s.wfin ∧ (s.putIngot v).wheld = s.wheld ∧ (s.putIngot v).preserve = s.preserve ∧
    (s.putIngot v).kept = s.kept ∧ (s.putIngot v).metaOpen = s.metaOpen ∧ (s.putIngot v).portA = s.portA ∧
    (s.putIngot v).restartDue = s.restartDue ∧ (s.putIngot v).pings = s.pings ∧ (s.putIngot v).chain = s.chain ∧
    (s.putIngot v).position = s.position ∧ (s.putIngot v).power = s.power ∧ (s.putIngot v).powerOp = s.powerOp ∧
    (s.putIngot v).fsn = s.fsn ∧ (s.putIngot v).ns = s.ns ∧ (s.putIngot v).volCap = s.volCap ∧
    (s.putIngot v).rsv = s.rsv ∧ (s.putIngot v).tokCount = s.tokCount ∧ (s.putIngot v).fullZones = s.fullZones ∧
    (s.putIngot v).fam = s.fam ∧ (s.putIngot v).params = s.params ∧ (s.putIngot v).alm = s.alm ∧
    (s.putIngot v).domeEntry = s.domeEntry ∧ (s.putIngot v).domeWake = s.domeWake ∧
    (s.putIngot v).domeAgreed = s.domeAgreed ∧ (s.putIngot v).readAt = s.readAt ∧
    (s.putIngot v).sensorFail = s.sensorFail ∧ (s.putIngot v).tripCount = s.tripCount ∧ (s.putIngot v).rise = s.rise ∧
    (s.putIngot v).stopped = s.stopped ∧ (s.putIngot v).coolSince = s.coolSince ∧ (s.putIngot v).events = s.events ∧
    (s.putIngot v).dies = s.dies ∧ (s.putIngot v).chans = s.chans ∧ (s.putIngot v).accs = s.accs ∧
    (s.putIngot v).ldpc = s.ldpc ∧ (s.putIngot v).nand = s.nand ∧ (s.putIngot v).blkErased = s.blkErased ∧
    (s.putIngot v).vault = s.vault ∧ (s.putIngot v).sessions = s.sessions ∧
    (s.putIngot v).trngRestarts = s.trngRestarts ∧ (s.putIngot v).drbgLeft = s.drbgLeft ∧
    (s.putIngot v).imageId = s.imageId ∧ (s.putIngot v).verFuses = s.verFuses ∧ (s.putIngot v).nsInfo = s.nsInfo ∧
    (s.putIngot v).care = s.care ∧ (s.putIngot v).history = s.history ∧ (s.putIngot v).fw = s.fw ∧
    (s.putIngot v).trust = s.trust ∧ (s.putIngot v).fdp = s.fdp ∧ (s.putIngot v).lostGen = s.lostGen ∧
    (s.putIngot v).lostAgain = s.lostAgain ∧ (s.putIngot v).accum = s.accum ∧ (s.putIngot v).boundSent = s.boundSent ∧
    (s.putIngot v).zoneUsed = s.zoneUsed ∧ (s.putIngot v).clean = s.clean :=
  ⟨rfl, rfl, rfl, rfl, rfl, rfl, rfl, rfl, rfl, rfl, rfl, rfl, rfl, rfl, rfl, rfl, rfl, rfl, rfl, rfl, rfl, rfl, rfl,
  rfl, rfl, rfl, rfl, rfl, rfl, rfl, rfl, rfl, rfl, rfl, rfl, rfl, rfl, rfl, rfl, rfl, rfl, rfl, rfl, rfl, rfl, rfl,
  rfl, rfl, rfl, rfl, rfl, rfl, rfl, rfl, rfl, rfl, rfl, rfl, rfl, rfl, rfl, rfl, rfl, rfl, rfl, rfl, rfl, rfl, rfl,
  rfl, rfl, rfl, rfl, rfl, rfl, rfl, rfl, rfl, rfl, rfl, rfl, rfl, rfl, rfl, rfl, rfl, rfl, rfl, rfl, rfl, rfl, rfl,
  rfl, rfl, rfl, rfl, rfl, rfl, rfl, rfl, rfl, rfl, rfl, rfl, rfl, rfl, rfl, rfl, rfl, rfl, rfl, rfl, rfl, rfl, rfl,
  rfl, rfl, rfl, rfl, rfl, rfl, rfl, rfl, rfl⟩

@[simp] theorem State.putIngot_ingot (s : State) (v : FMap Byte) : (s.putIngot v).ingot = v := rfl

@[simp] theorem State.putNor_frame (s : State) (v : FMap Byte) :
    (s.putNor v).pending = s.pending ∧ (s.putNor v).free = s.free ∧ (s.putNor v).out = s.out ∧ (s.putNor v).boot = s.boot ∧
    (s.putNor v).tick = s.tick ∧ (s.putNor v).win = s.win ∧ (s.putNor v).gap = s.gap ∧ (s.putNor v).regs = s.regs ∧
    (s.putNor v).regPend = s.regPend ∧ (s.putNor v).cores = s.cores ∧ (s.putNor v).cluster = s.cluster ∧
    (s.putNor v).tun = s.tun ∧ (s.putNor v).tunBufs = s.tunBufs ∧ (s.putNor v).tunMin = s.tunMin ∧
    (s.putNor v).tunMinPend = s.tunMinPend ∧ (s.putNor v).sramErr = s.sramErr ∧ (s.putNor v).heldBack = s.heldBack ∧
    (s.putNor v).rtHit = s.rtHit ∧ (s.putNor v).rtClock = s.rtClock ∧ (s.putNor v).rtUntracked = s.rtUntracked ∧
    (s.putNor v).dram = s.dram ∧ (s.putNor v).dr = s.dr ∧ (s.putNor v).poison = s.poison ∧ (s.putNor v).ingot = s.ingot ∧
    (s.putNor v).norUnk = s.norUnk ∧ (s.putNor v).pat = s.pat ∧ (s.putNor v).tdly = s.tdly ∧
    (s.putNor v).scrub = s.scrub ∧ (s.putNor v).fbuf = s.fbuf ∧ (s.putNor v).rings = s.rings ∧ (s.putNor v).haz = s.haz ∧
    (s.putNor v).marks = s.marks ∧ (s.putNor v).wsnFloor = s.wsnFloor ∧ (s.putNor v).health = s.health ∧
    (s.putNor v).qPend = s.qPend ∧ (s.putNor v).reqs = s.reqs ∧ (s.putNor v).aborts = s.aborts ∧
    (s.putNor v).gateShut = s.gateShut ∧ (s.putNor v).sqs = s.sqs ∧ (s.putNor v).cqs = s.cqs ∧
    (s.putNor v).cmds = s.cmds ∧ (s.putNor v).resets = s.resets ∧ (s.putNor v).ctrls = s.ctrls ∧
    (s.putNor v).arbs = s.arbs ∧ (s.putNor v).credit = s.credit ∧ (s.putNor v).taken = s.taken ∧
    (s.putNor v).fetchLeft = s.fetchLeft ∧ (s.putNor v).rotLast = s.rotLast ∧ (s.putNor v).rotFirst = s.rotFirst ∧
    (s.putNor v).hazStall = s.hazStall ∧ (s.putNor v).span = s.span ∧ (s.putNor v).spanOut = s.spanOut ∧
    (s.putNor v).spanIn = s.spanIn ∧ (s.putNor v).resOut = s.resOut ∧ (s.putNor v).jobs = s.jobs ∧
    (s.putNor v).finishing = s.finishing ∧ (s.putNor v).greads = s.greads ∧ (s.putNor v).spanNum = s.spanNum ∧
    (s.putNor v).spanArr = s.spanArr ∧ (s.putNor v).dups = s.dups ∧ (s.putNor v).dupGen = s.dupGen ∧
    (s.putNor v).rlogPos = s.rlogPos ∧ (s.putNor v).members = s.members ∧ (s.putNor v).peerVia = s.peerVia ∧
    (s.putNor v).groups = s.groups ∧ (s.putNor v).peerBound = s.peerBound ∧ (s.putNor v).returned = s.returned ∧
    (s.putNor v).lostRanges = s.lostRanges ∧ (s.putNor v).wmap = s.wmap ∧ (s.putNor v).wfin = s.wfin ∧
    (s.putNor v).wheld = s.wheld ∧ (s.putNor v).preserve = s.preserve ∧ (s.putNor v).kept = s.kept ∧
    (s.putNor v).metaOpen = s.metaOpen ∧ (s.putNor v).portA = s.portA ∧ (s.putNor v).restartDue = s.restartDue ∧
    (s.putNor v).pings = s.pings ∧ (s.putNor v).chain = s.chain ∧ (s.putNor v).position = s.position ∧
    (s.putNor v).power = s.power ∧ (s.putNor v).powerOp = s.powerOp ∧ (s.putNor v).fsn = s.fsn ∧ (s.putNor v).ns = s.ns ∧
    (s.putNor v).volCap = s.volCap ∧ (s.putNor v).rsv = s.rsv ∧ (s.putNor v).tokCount = s.tokCount ∧
    (s.putNor v).fullZones = s.fullZones ∧ (s.putNor v).fam = s.fam ∧ (s.putNor v).params = s.params ∧
    (s.putNor v).alm = s.alm ∧ (s.putNor v).domeEntry = s.domeEntry ∧ (s.putNor v).domeWake = s.domeWake ∧
    (s.putNor v).domeAgreed = s.domeAgreed ∧ (s.putNor v).readAt = s.readAt ∧ (s.putNor v).sensorFail = s.sensorFail ∧
    (s.putNor v).tripCount = s.tripCount ∧ (s.putNor v).rise = s.rise ∧ (s.putNor v).stopped = s.stopped ∧
    (s.putNor v).coolSince = s.coolSince ∧ (s.putNor v).events = s.events ∧ (s.putNor v).dies = s.dies ∧
    (s.putNor v).chans = s.chans ∧ (s.putNor v).accs = s.accs ∧ (s.putNor v).ldpc = s.ldpc ∧ (s.putNor v).nand = s.nand ∧
    (s.putNor v).blkErased = s.blkErased ∧ (s.putNor v).vault = s.vault ∧ (s.putNor v).sessions = s.sessions ∧
    (s.putNor v).trngRestarts = s.trngRestarts ∧ (s.putNor v).drbgLeft = s.drbgLeft ∧ (s.putNor v).imageId = s.imageId ∧
    (s.putNor v).verFuses = s.verFuses ∧ (s.putNor v).nsInfo = s.nsInfo ∧ (s.putNor v).care = s.care ∧
    (s.putNor v).history = s.history ∧ (s.putNor v).fw = s.fw ∧ (s.putNor v).trust = s.trust ∧ (s.putNor v).fdp = s.fdp ∧
    (s.putNor v).lostGen = s.lostGen ∧ (s.putNor v).lostAgain = s.lostAgain ∧ (s.putNor v).accum = s.accum ∧
    (s.putNor v).boundSent = s.boundSent ∧ (s.putNor v).zoneUsed = s.zoneUsed ∧ (s.putNor v).clean = s.clean :=
  ⟨rfl, rfl, rfl, rfl, rfl, rfl, rfl, rfl, rfl, rfl, rfl, rfl, rfl, rfl, rfl, rfl, rfl, rfl, rfl, rfl, rfl, rfl, rfl,
  rfl, rfl, rfl, rfl, rfl, rfl, rfl, rfl, rfl, rfl, rfl, rfl, rfl, rfl, rfl, rfl, rfl, rfl, rfl, rfl, rfl, rfl, rfl,
  rfl, rfl, rfl, rfl, rfl, rfl, rfl, rfl, rfl, rfl, rfl, rfl, rfl, rfl, rfl, rfl, rfl, rfl, rfl, rfl, rfl, rfl, rfl,
  rfl, rfl, rfl, rfl, rfl, rfl, rfl, rfl, rfl, rfl, rfl, rfl, rfl, rfl, rfl, rfl, rfl, rfl, rfl, rfl, rfl, rfl, rfl,
  rfl, rfl, rfl, rfl, rfl, rfl, rfl, rfl, rfl, rfl, rfl, rfl, rfl, rfl, rfl, rfl, rfl, rfl, rfl, rfl, rfl, rfl, rfl,
  rfl, rfl, rfl, rfl, rfl, rfl, rfl, rfl, rfl⟩

@[simp] theorem State.putNor_nor (s : State) (v : FMap Byte) : (s.putNor v).nor = v := rfl

@[simp] theorem State.putNorUnk_frame (s : State) (v : FMap Bool) :
    (s.putNorUnk v).pending = s.pending ∧ (s.putNorUnk v).free = s.free ∧ (s.putNorUnk v).out = s.out ∧
    (s.putNorUnk v).boot = s.boot ∧ (s.putNorUnk v).tick = s.tick ∧ (s.putNorUnk v).win = s.win ∧
    (s.putNorUnk v).gap = s.gap ∧ (s.putNorUnk v).regs = s.regs ∧ (s.putNorUnk v).regPend = s.regPend ∧
    (s.putNorUnk v).cores = s.cores ∧ (s.putNorUnk v).cluster = s.cluster ∧ (s.putNorUnk v).tun = s.tun ∧
    (s.putNorUnk v).tunBufs = s.tunBufs ∧ (s.putNorUnk v).tunMin = s.tunMin ∧ (s.putNorUnk v).tunMinPend = s.tunMinPend ∧
    (s.putNorUnk v).sramErr = s.sramErr ∧ (s.putNorUnk v).heldBack = s.heldBack ∧ (s.putNorUnk v).rtHit = s.rtHit ∧
    (s.putNorUnk v).rtClock = s.rtClock ∧ (s.putNorUnk v).rtUntracked = s.rtUntracked ∧ (s.putNorUnk v).dram = s.dram ∧
    (s.putNorUnk v).dr = s.dr ∧ (s.putNorUnk v).poison = s.poison ∧ (s.putNorUnk v).ingot = s.ingot ∧
    (s.putNorUnk v).nor = s.nor ∧ (s.putNorUnk v).pat = s.pat ∧ (s.putNorUnk v).tdly = s.tdly ∧
    (s.putNorUnk v).scrub = s.scrub ∧ (s.putNorUnk v).fbuf = s.fbuf ∧ (s.putNorUnk v).rings = s.rings ∧
    (s.putNorUnk v).haz = s.haz ∧ (s.putNorUnk v).marks = s.marks ∧ (s.putNorUnk v).wsnFloor = s.wsnFloor ∧
    (s.putNorUnk v).health = s.health ∧ (s.putNorUnk v).qPend = s.qPend ∧ (s.putNorUnk v).reqs = s.reqs ∧
    (s.putNorUnk v).aborts = s.aborts ∧ (s.putNorUnk v).gateShut = s.gateShut ∧ (s.putNorUnk v).sqs = s.sqs ∧
    (s.putNorUnk v).cqs = s.cqs ∧ (s.putNorUnk v).cmds = s.cmds ∧ (s.putNorUnk v).resets = s.resets ∧
    (s.putNorUnk v).ctrls = s.ctrls ∧ (s.putNorUnk v).arbs = s.arbs ∧ (s.putNorUnk v).credit = s.credit ∧
    (s.putNorUnk v).taken = s.taken ∧ (s.putNorUnk v).fetchLeft = s.fetchLeft ∧ (s.putNorUnk v).rotLast = s.rotLast ∧
    (s.putNorUnk v).rotFirst = s.rotFirst ∧ (s.putNorUnk v).hazStall = s.hazStall ∧ (s.putNorUnk v).span = s.span ∧
    (s.putNorUnk v).spanOut = s.spanOut ∧ (s.putNorUnk v).spanIn = s.spanIn ∧ (s.putNorUnk v).resOut = s.resOut ∧
    (s.putNorUnk v).jobs = s.jobs ∧ (s.putNorUnk v).finishing = s.finishing ∧ (s.putNorUnk v).greads = s.greads ∧
    (s.putNorUnk v).spanNum = s.spanNum ∧ (s.putNorUnk v).spanArr = s.spanArr ∧ (s.putNorUnk v).dups = s.dups ∧
    (s.putNorUnk v).dupGen = s.dupGen ∧ (s.putNorUnk v).rlogPos = s.rlogPos ∧ (s.putNorUnk v).members = s.members ∧
    (s.putNorUnk v).peerVia = s.peerVia ∧ (s.putNorUnk v).groups = s.groups ∧ (s.putNorUnk v).peerBound = s.peerBound ∧
    (s.putNorUnk v).returned = s.returned ∧ (s.putNorUnk v).lostRanges = s.lostRanges ∧ (s.putNorUnk v).wmap = s.wmap ∧
    (s.putNorUnk v).wfin = s.wfin ∧ (s.putNorUnk v).wheld = s.wheld ∧ (s.putNorUnk v).preserve = s.preserve ∧
    (s.putNorUnk v).kept = s.kept ∧ (s.putNorUnk v).metaOpen = s.metaOpen ∧ (s.putNorUnk v).portA = s.portA ∧
    (s.putNorUnk v).restartDue = s.restartDue ∧ (s.putNorUnk v).pings = s.pings ∧ (s.putNorUnk v).chain = s.chain ∧
    (s.putNorUnk v).position = s.position ∧ (s.putNorUnk v).power = s.power ∧ (s.putNorUnk v).powerOp = s.powerOp ∧
    (s.putNorUnk v).fsn = s.fsn ∧ (s.putNorUnk v).ns = s.ns ∧ (s.putNorUnk v).volCap = s.volCap ∧
    (s.putNorUnk v).rsv = s.rsv ∧ (s.putNorUnk v).tokCount = s.tokCount ∧ (s.putNorUnk v).fullZones = s.fullZones ∧
    (s.putNorUnk v).fam = s.fam ∧ (s.putNorUnk v).params = s.params ∧ (s.putNorUnk v).alm = s.alm ∧
    (s.putNorUnk v).domeEntry = s.domeEntry ∧ (s.putNorUnk v).domeWake = s.domeWake ∧
    (s.putNorUnk v).domeAgreed = s.domeAgreed ∧ (s.putNorUnk v).readAt = s.readAt ∧
    (s.putNorUnk v).sensorFail = s.sensorFail ∧ (s.putNorUnk v).tripCount = s.tripCount ∧ (s.putNorUnk v).rise = s.rise ∧
    (s.putNorUnk v).stopped = s.stopped ∧ (s.putNorUnk v).coolSince = s.coolSince ∧ (s.putNorUnk v).events = s.events ∧
    (s.putNorUnk v).dies = s.dies ∧ (s.putNorUnk v).chans = s.chans ∧ (s.putNorUnk v).accs = s.accs ∧
    (s.putNorUnk v).ldpc = s.ldpc ∧ (s.putNorUnk v).nand = s.nand ∧ (s.putNorUnk v).blkErased = s.blkErased ∧
    (s.putNorUnk v).vault = s.vault ∧ (s.putNorUnk v).sessions = s.sessions ∧
    (s.putNorUnk v).trngRestarts = s.trngRestarts ∧ (s.putNorUnk v).drbgLeft = s.drbgLeft ∧
    (s.putNorUnk v).imageId = s.imageId ∧ (s.putNorUnk v).verFuses = s.verFuses ∧ (s.putNorUnk v).nsInfo = s.nsInfo ∧
    (s.putNorUnk v).care = s.care ∧ (s.putNorUnk v).history = s.history ∧ (s.putNorUnk v).fw = s.fw ∧
    (s.putNorUnk v).trust = s.trust ∧ (s.putNorUnk v).fdp = s.fdp ∧ (s.putNorUnk v).lostGen = s.lostGen ∧
    (s.putNorUnk v).lostAgain = s.lostAgain ∧ (s.putNorUnk v).accum = s.accum ∧ (s.putNorUnk v).boundSent = s.boundSent ∧
    (s.putNorUnk v).zoneUsed = s.zoneUsed ∧ (s.putNorUnk v).clean = s.clean :=
  ⟨rfl, rfl, rfl, rfl, rfl, rfl, rfl, rfl, rfl, rfl, rfl, rfl, rfl, rfl, rfl, rfl, rfl, rfl, rfl, rfl, rfl, rfl, rfl,
  rfl, rfl, rfl, rfl, rfl, rfl, rfl, rfl, rfl, rfl, rfl, rfl, rfl, rfl, rfl, rfl, rfl, rfl, rfl, rfl, rfl, rfl, rfl,
  rfl, rfl, rfl, rfl, rfl, rfl, rfl, rfl, rfl, rfl, rfl, rfl, rfl, rfl, rfl, rfl, rfl, rfl, rfl, rfl, rfl, rfl, rfl,
  rfl, rfl, rfl, rfl, rfl, rfl, rfl, rfl, rfl, rfl, rfl, rfl, rfl, rfl, rfl, rfl, rfl, rfl, rfl, rfl, rfl, rfl, rfl,
  rfl, rfl, rfl, rfl, rfl, rfl, rfl, rfl, rfl, rfl, rfl, rfl, rfl, rfl, rfl, rfl, rfl, rfl, rfl, rfl, rfl, rfl, rfl,
  rfl, rfl, rfl, rfl, rfl, rfl, rfl, rfl, rfl⟩

@[simp] theorem State.putNorUnk_norUnk (s : State) (v : FMap Bool) : (s.putNorUnk v).norUnk = v := rfl

@[simp] theorem State.putPat_frame (s : State) (v : Pat) :
    (s.putPat v).pending = s.pending ∧ (s.putPat v).free = s.free ∧ (s.putPat v).out = s.out ∧ (s.putPat v).boot = s.boot ∧
    (s.putPat v).tick = s.tick ∧ (s.putPat v).win = s.win ∧ (s.putPat v).gap = s.gap ∧ (s.putPat v).regs = s.regs ∧
    (s.putPat v).regPend = s.regPend ∧ (s.putPat v).cores = s.cores ∧ (s.putPat v).cluster = s.cluster ∧
    (s.putPat v).tun = s.tun ∧ (s.putPat v).tunBufs = s.tunBufs ∧ (s.putPat v).tunMin = s.tunMin ∧
    (s.putPat v).tunMinPend = s.tunMinPend ∧ (s.putPat v).sramErr = s.sramErr ∧ (s.putPat v).heldBack = s.heldBack ∧
    (s.putPat v).rtHit = s.rtHit ∧ (s.putPat v).rtClock = s.rtClock ∧ (s.putPat v).rtUntracked = s.rtUntracked ∧
    (s.putPat v).dram = s.dram ∧ (s.putPat v).dr = s.dr ∧ (s.putPat v).poison = s.poison ∧ (s.putPat v).ingot = s.ingot ∧
    (s.putPat v).nor = s.nor ∧ (s.putPat v).norUnk = s.norUnk ∧ (s.putPat v).tdly = s.tdly ∧
    (s.putPat v).scrub = s.scrub ∧ (s.putPat v).fbuf = s.fbuf ∧ (s.putPat v).rings = s.rings ∧ (s.putPat v).haz = s.haz ∧
    (s.putPat v).marks = s.marks ∧ (s.putPat v).wsnFloor = s.wsnFloor ∧ (s.putPat v).health = s.health ∧
    (s.putPat v).qPend = s.qPend ∧ (s.putPat v).reqs = s.reqs ∧ (s.putPat v).aborts = s.aborts ∧
    (s.putPat v).gateShut = s.gateShut ∧ (s.putPat v).sqs = s.sqs ∧ (s.putPat v).cqs = s.cqs ∧
    (s.putPat v).cmds = s.cmds ∧ (s.putPat v).resets = s.resets ∧ (s.putPat v).ctrls = s.ctrls ∧
    (s.putPat v).arbs = s.arbs ∧ (s.putPat v).credit = s.credit ∧ (s.putPat v).taken = s.taken ∧
    (s.putPat v).fetchLeft = s.fetchLeft ∧ (s.putPat v).rotLast = s.rotLast ∧ (s.putPat v).rotFirst = s.rotFirst ∧
    (s.putPat v).hazStall = s.hazStall ∧ (s.putPat v).span = s.span ∧ (s.putPat v).spanOut = s.spanOut ∧
    (s.putPat v).spanIn = s.spanIn ∧ (s.putPat v).resOut = s.resOut ∧ (s.putPat v).jobs = s.jobs ∧
    (s.putPat v).finishing = s.finishing ∧ (s.putPat v).greads = s.greads ∧ (s.putPat v).spanNum = s.spanNum ∧
    (s.putPat v).spanArr = s.spanArr ∧ (s.putPat v).dups = s.dups ∧ (s.putPat v).dupGen = s.dupGen ∧
    (s.putPat v).rlogPos = s.rlogPos ∧ (s.putPat v).members = s.members ∧ (s.putPat v).peerVia = s.peerVia ∧
    (s.putPat v).groups = s.groups ∧ (s.putPat v).peerBound = s.peerBound ∧ (s.putPat v).returned = s.returned ∧
    (s.putPat v).lostRanges = s.lostRanges ∧ (s.putPat v).wmap = s.wmap ∧ (s.putPat v).wfin = s.wfin ∧
    (s.putPat v).wheld = s.wheld ∧ (s.putPat v).preserve = s.preserve ∧ (s.putPat v).kept = s.kept ∧
    (s.putPat v).metaOpen = s.metaOpen ∧ (s.putPat v).portA = s.portA ∧ (s.putPat v).restartDue = s.restartDue ∧
    (s.putPat v).pings = s.pings ∧ (s.putPat v).chain = s.chain ∧ (s.putPat v).position = s.position ∧
    (s.putPat v).power = s.power ∧ (s.putPat v).powerOp = s.powerOp ∧ (s.putPat v).fsn = s.fsn ∧ (s.putPat v).ns = s.ns ∧
    (s.putPat v).volCap = s.volCap ∧ (s.putPat v).rsv = s.rsv ∧ (s.putPat v).tokCount = s.tokCount ∧
    (s.putPat v).fullZones = s.fullZones ∧ (s.putPat v).fam = s.fam ∧ (s.putPat v).params = s.params ∧
    (s.putPat v).alm = s.alm ∧ (s.putPat v).domeEntry = s.domeEntry ∧ (s.putPat v).domeWake = s.domeWake ∧
    (s.putPat v).domeAgreed = s.domeAgreed ∧ (s.putPat v).readAt = s.readAt ∧ (s.putPat v).sensorFail = s.sensorFail ∧
    (s.putPat v).tripCount = s.tripCount ∧ (s.putPat v).rise = s.rise ∧ (s.putPat v).stopped = s.stopped ∧
    (s.putPat v).coolSince = s.coolSince ∧ (s.putPat v).events = s.events ∧ (s.putPat v).dies = s.dies ∧
    (s.putPat v).chans = s.chans ∧ (s.putPat v).accs = s.accs ∧ (s.putPat v).ldpc = s.ldpc ∧ (s.putPat v).nand = s.nand ∧
    (s.putPat v).blkErased = s.blkErased ∧ (s.putPat v).vault = s.vault ∧ (s.putPat v).sessions = s.sessions ∧
    (s.putPat v).trngRestarts = s.trngRestarts ∧ (s.putPat v).drbgLeft = s.drbgLeft ∧ (s.putPat v).imageId = s.imageId ∧
    (s.putPat v).verFuses = s.verFuses ∧ (s.putPat v).nsInfo = s.nsInfo ∧ (s.putPat v).care = s.care ∧
    (s.putPat v).history = s.history ∧ (s.putPat v).fw = s.fw ∧ (s.putPat v).trust = s.trust ∧ (s.putPat v).fdp = s.fdp ∧
    (s.putPat v).lostGen = s.lostGen ∧ (s.putPat v).lostAgain = s.lostAgain ∧ (s.putPat v).accum = s.accum ∧
    (s.putPat v).boundSent = s.boundSent ∧ (s.putPat v).zoneUsed = s.zoneUsed ∧ (s.putPat v).clean = s.clean :=
  ⟨rfl, rfl, rfl, rfl, rfl, rfl, rfl, rfl, rfl, rfl, rfl, rfl, rfl, rfl, rfl, rfl, rfl, rfl, rfl, rfl, rfl, rfl, rfl,
  rfl, rfl, rfl, rfl, rfl, rfl, rfl, rfl, rfl, rfl, rfl, rfl, rfl, rfl, rfl, rfl, rfl, rfl, rfl, rfl, rfl, rfl, rfl,
  rfl, rfl, rfl, rfl, rfl, rfl, rfl, rfl, rfl, rfl, rfl, rfl, rfl, rfl, rfl, rfl, rfl, rfl, rfl, rfl, rfl, rfl, rfl,
  rfl, rfl, rfl, rfl, rfl, rfl, rfl, rfl, rfl, rfl, rfl, rfl, rfl, rfl, rfl, rfl, rfl, rfl, rfl, rfl, rfl, rfl, rfl,
  rfl, rfl, rfl, rfl, rfl, rfl, rfl, rfl, rfl, rfl, rfl, rfl, rfl, rfl, rfl, rfl, rfl, rfl, rfl, rfl, rfl, rfl, rfl,
  rfl, rfl, rfl, rfl, rfl, rfl, rfl, rfl, rfl⟩

@[simp] theorem State.putPat_pat (s : State) (v : Pat) : (s.putPat v).pat = v := rfl

@[simp] theorem State.putTdly_frame (s : State) (v : FMap W64) :
    (s.putTdly v).pending = s.pending ∧ (s.putTdly v).free = s.free ∧ (s.putTdly v).out = s.out ∧
    (s.putTdly v).boot = s.boot ∧ (s.putTdly v).tick = s.tick ∧ (s.putTdly v).win = s.win ∧ (s.putTdly v).gap = s.gap ∧
    (s.putTdly v).regs = s.regs ∧ (s.putTdly v).regPend = s.regPend ∧ (s.putTdly v).cores = s.cores ∧
    (s.putTdly v).cluster = s.cluster ∧ (s.putTdly v).tun = s.tun ∧ (s.putTdly v).tunBufs = s.tunBufs ∧
    (s.putTdly v).tunMin = s.tunMin ∧ (s.putTdly v).tunMinPend = s.tunMinPend ∧ (s.putTdly v).sramErr = s.sramErr ∧
    (s.putTdly v).heldBack = s.heldBack ∧ (s.putTdly v).rtHit = s.rtHit ∧ (s.putTdly v).rtClock = s.rtClock ∧
    (s.putTdly v).rtUntracked = s.rtUntracked ∧ (s.putTdly v).dram = s.dram ∧ (s.putTdly v).dr = s.dr ∧
    (s.putTdly v).poison = s.poison ∧ (s.putTdly v).ingot = s.ingot ∧ (s.putTdly v).nor = s.nor ∧
    (s.putTdly v).norUnk = s.norUnk ∧ (s.putTdly v).pat = s.pat ∧ (s.putTdly v).scrub = s.scrub ∧
    (s.putTdly v).fbuf = s.fbuf ∧ (s.putTdly v).rings = s.rings ∧ (s.putTdly v).haz = s.haz ∧
    (s.putTdly v).marks = s.marks ∧ (s.putTdly v).wsnFloor = s.wsnFloor ∧ (s.putTdly v).health = s.health ∧
    (s.putTdly v).qPend = s.qPend ∧ (s.putTdly v).reqs = s.reqs ∧ (s.putTdly v).aborts = s.aborts ∧
    (s.putTdly v).gateShut = s.gateShut ∧ (s.putTdly v).sqs = s.sqs ∧ (s.putTdly v).cqs = s.cqs ∧
    (s.putTdly v).cmds = s.cmds ∧ (s.putTdly v).resets = s.resets ∧ (s.putTdly v).ctrls = s.ctrls ∧
    (s.putTdly v).arbs = s.arbs ∧ (s.putTdly v).credit = s.credit ∧ (s.putTdly v).taken = s.taken ∧
    (s.putTdly v).fetchLeft = s.fetchLeft ∧ (s.putTdly v).rotLast = s.rotLast ∧ (s.putTdly v).rotFirst = s.rotFirst ∧
    (s.putTdly v).hazStall = s.hazStall ∧ (s.putTdly v).span = s.span ∧ (s.putTdly v).spanOut = s.spanOut ∧
    (s.putTdly v).spanIn = s.spanIn ∧ (s.putTdly v).resOut = s.resOut ∧ (s.putTdly v).jobs = s.jobs ∧
    (s.putTdly v).finishing = s.finishing ∧ (s.putTdly v).greads = s.greads ∧ (s.putTdly v).spanNum = s.spanNum ∧
    (s.putTdly v).spanArr = s.spanArr ∧ (s.putTdly v).dups = s.dups ∧ (s.putTdly v).dupGen = s.dupGen ∧
    (s.putTdly v).rlogPos = s.rlogPos ∧ (s.putTdly v).members = s.members ∧ (s.putTdly v).peerVia = s.peerVia ∧
    (s.putTdly v).groups = s.groups ∧ (s.putTdly v).peerBound = s.peerBound ∧ (s.putTdly v).returned = s.returned ∧
    (s.putTdly v).lostRanges = s.lostRanges ∧ (s.putTdly v).wmap = s.wmap ∧ (s.putTdly v).wfin = s.wfin ∧
    (s.putTdly v).wheld = s.wheld ∧ (s.putTdly v).preserve = s.preserve ∧ (s.putTdly v).kept = s.kept ∧
    (s.putTdly v).metaOpen = s.metaOpen ∧ (s.putTdly v).portA = s.portA ∧ (s.putTdly v).restartDue = s.restartDue ∧
    (s.putTdly v).pings = s.pings ∧ (s.putTdly v).chain = s.chain ∧ (s.putTdly v).position = s.position ∧
    (s.putTdly v).power = s.power ∧ (s.putTdly v).powerOp = s.powerOp ∧ (s.putTdly v).fsn = s.fsn ∧
    (s.putTdly v).ns = s.ns ∧ (s.putTdly v).volCap = s.volCap ∧ (s.putTdly v).rsv = s.rsv ∧
    (s.putTdly v).tokCount = s.tokCount ∧ (s.putTdly v).fullZones = s.fullZones ∧ (s.putTdly v).fam = s.fam ∧
    (s.putTdly v).params = s.params ∧ (s.putTdly v).alm = s.alm ∧ (s.putTdly v).domeEntry = s.domeEntry ∧
    (s.putTdly v).domeWake = s.domeWake ∧ (s.putTdly v).domeAgreed = s.domeAgreed ∧ (s.putTdly v).readAt = s.readAt ∧
    (s.putTdly v).sensorFail = s.sensorFail ∧ (s.putTdly v).tripCount = s.tripCount ∧ (s.putTdly v).rise = s.rise ∧
    (s.putTdly v).stopped = s.stopped ∧ (s.putTdly v).coolSince = s.coolSince ∧ (s.putTdly v).events = s.events ∧
    (s.putTdly v).dies = s.dies ∧ (s.putTdly v).chans = s.chans ∧ (s.putTdly v).accs = s.accs ∧
    (s.putTdly v).ldpc = s.ldpc ∧ (s.putTdly v).nand = s.nand ∧ (s.putTdly v).blkErased = s.blkErased ∧
    (s.putTdly v).vault = s.vault ∧ (s.putTdly v).sessions = s.sessions ∧ (s.putTdly v).trngRestarts = s.trngRestarts ∧
    (s.putTdly v).drbgLeft = s.drbgLeft ∧ (s.putTdly v).imageId = s.imageId ∧ (s.putTdly v).verFuses = s.verFuses ∧
    (s.putTdly v).nsInfo = s.nsInfo ∧ (s.putTdly v).care = s.care ∧ (s.putTdly v).history = s.history ∧
    (s.putTdly v).fw = s.fw ∧ (s.putTdly v).trust = s.trust ∧ (s.putTdly v).fdp = s.fdp ∧
    (s.putTdly v).lostGen = s.lostGen ∧ (s.putTdly v).lostAgain = s.lostAgain ∧ (s.putTdly v).accum = s.accum ∧
    (s.putTdly v).boundSent = s.boundSent ∧ (s.putTdly v).zoneUsed = s.zoneUsed ∧ (s.putTdly v).clean = s.clean :=
  ⟨rfl, rfl, rfl, rfl, rfl, rfl, rfl, rfl, rfl, rfl, rfl, rfl, rfl, rfl, rfl, rfl, rfl, rfl, rfl, rfl, rfl, rfl, rfl,
  rfl, rfl, rfl, rfl, rfl, rfl, rfl, rfl, rfl, rfl, rfl, rfl, rfl, rfl, rfl, rfl, rfl, rfl, rfl, rfl, rfl, rfl, rfl,
  rfl, rfl, rfl, rfl, rfl, rfl, rfl, rfl, rfl, rfl, rfl, rfl, rfl, rfl, rfl, rfl, rfl, rfl, rfl, rfl, rfl, rfl, rfl,
  rfl, rfl, rfl, rfl, rfl, rfl, rfl, rfl, rfl, rfl, rfl, rfl, rfl, rfl, rfl, rfl, rfl, rfl, rfl, rfl, rfl, rfl, rfl,
  rfl, rfl, rfl, rfl, rfl, rfl, rfl, rfl, rfl, rfl, rfl, rfl, rfl, rfl, rfl, rfl, rfl, rfl, rfl, rfl, rfl, rfl, rfl,
  rfl, rfl, rfl, rfl, rfl, rfl, rfl, rfl, rfl⟩

@[simp] theorem State.putTdly_tdly (s : State) (v : FMap W64) : (s.putTdly v).tdly = v := rfl

@[simp] theorem State.putScrub_frame (s : State) (v : Option (Nat × Nat × Nat)) :
    (s.putScrub v).pending = s.pending ∧ (s.putScrub v).free = s.free ∧ (s.putScrub v).out = s.out ∧
    (s.putScrub v).boot = s.boot ∧ (s.putScrub v).tick = s.tick ∧ (s.putScrub v).win = s.win ∧
    (s.putScrub v).gap = s.gap ∧ (s.putScrub v).regs = s.regs ∧ (s.putScrub v).regPend = s.regPend ∧
    (s.putScrub v).cores = s.cores ∧ (s.putScrub v).cluster = s.cluster ∧ (s.putScrub v).tun = s.tun ∧
    (s.putScrub v).tunBufs = s.tunBufs ∧ (s.putScrub v).tunMin = s.tunMin ∧ (s.putScrub v).tunMinPend = s.tunMinPend ∧
    (s.putScrub v).sramErr = s.sramErr ∧ (s.putScrub v).heldBack = s.heldBack ∧ (s.putScrub v).rtHit = s.rtHit ∧
    (s.putScrub v).rtClock = s.rtClock ∧ (s.putScrub v).rtUntracked = s.rtUntracked ∧ (s.putScrub v).dram = s.dram ∧
    (s.putScrub v).dr = s.dr ∧ (s.putScrub v).poison = s.poison ∧ (s.putScrub v).ingot = s.ingot ∧
    (s.putScrub v).nor = s.nor ∧ (s.putScrub v).norUnk = s.norUnk ∧ (s.putScrub v).pat = s.pat ∧
    (s.putScrub v).tdly = s.tdly ∧ (s.putScrub v).fbuf = s.fbuf ∧ (s.putScrub v).rings = s.rings ∧
    (s.putScrub v).haz = s.haz ∧ (s.putScrub v).marks = s.marks ∧ (s.putScrub v).wsnFloor = s.wsnFloor ∧
    (s.putScrub v).health = s.health ∧ (s.putScrub v).qPend = s.qPend ∧ (s.putScrub v).reqs = s.reqs ∧
    (s.putScrub v).aborts = s.aborts ∧ (s.putScrub v).gateShut = s.gateShut ∧ (s.putScrub v).sqs = s.sqs ∧
    (s.putScrub v).cqs = s.cqs ∧ (s.putScrub v).cmds = s.cmds ∧ (s.putScrub v).resets = s.resets ∧
    (s.putScrub v).ctrls = s.ctrls ∧ (s.putScrub v).arbs = s.arbs ∧ (s.putScrub v).credit = s.credit ∧
    (s.putScrub v).taken = s.taken ∧ (s.putScrub v).fetchLeft = s.fetchLeft ∧ (s.putScrub v).rotLast = s.rotLast ∧
    (s.putScrub v).rotFirst = s.rotFirst ∧ (s.putScrub v).hazStall = s.hazStall ∧ (s.putScrub v).span = s.span ∧
    (s.putScrub v).spanOut = s.spanOut ∧ (s.putScrub v).spanIn = s.spanIn ∧ (s.putScrub v).resOut = s.resOut ∧
    (s.putScrub v).jobs = s.jobs ∧ (s.putScrub v).finishing = s.finishing ∧ (s.putScrub v).greads = s.greads ∧
    (s.putScrub v).spanNum = s.spanNum ∧ (s.putScrub v).spanArr = s.spanArr ∧ (s.putScrub v).dups = s.dups ∧
    (s.putScrub v).dupGen = s.dupGen ∧ (s.putScrub v).rlogPos = s.rlogPos ∧ (s.putScrub v).members = s.members ∧
    (s.putScrub v).peerVia = s.peerVia ∧ (s.putScrub v).groups = s.groups ∧ (s.putScrub v).peerBound = s.peerBound ∧
    (s.putScrub v).returned = s.returned ∧ (s.putScrub v).lostRanges = s.lostRanges ∧ (s.putScrub v).wmap = s.wmap ∧
    (s.putScrub v).wfin = s.wfin ∧ (s.putScrub v).wheld = s.wheld ∧ (s.putScrub v).preserve = s.preserve ∧
    (s.putScrub v).kept = s.kept ∧ (s.putScrub v).metaOpen = s.metaOpen ∧ (s.putScrub v).portA = s.portA ∧
    (s.putScrub v).restartDue = s.restartDue ∧ (s.putScrub v).pings = s.pings ∧ (s.putScrub v).chain = s.chain ∧
    (s.putScrub v).position = s.position ∧ (s.putScrub v).power = s.power ∧ (s.putScrub v).powerOp = s.powerOp ∧
    (s.putScrub v).fsn = s.fsn ∧ (s.putScrub v).ns = s.ns ∧ (s.putScrub v).volCap = s.volCap ∧
    (s.putScrub v).rsv = s.rsv ∧ (s.putScrub v).tokCount = s.tokCount ∧ (s.putScrub v).fullZones = s.fullZones ∧
    (s.putScrub v).fam = s.fam ∧ (s.putScrub v).params = s.params ∧ (s.putScrub v).alm = s.alm ∧
    (s.putScrub v).domeEntry = s.domeEntry ∧ (s.putScrub v).domeWake = s.domeWake ∧
    (s.putScrub v).domeAgreed = s.domeAgreed ∧ (s.putScrub v).readAt = s.readAt ∧
    (s.putScrub v).sensorFail = s.sensorFail ∧ (s.putScrub v).tripCount = s.tripCount ∧ (s.putScrub v).rise = s.rise ∧
    (s.putScrub v).stopped = s.stopped ∧ (s.putScrub v).coolSince = s.coolSince ∧ (s.putScrub v).events = s.events ∧
    (s.putScrub v).dies = s.dies ∧ (s.putScrub v).chans = s.chans ∧ (s.putScrub v).accs = s.accs ∧
    (s.putScrub v).ldpc = s.ldpc ∧ (s.putScrub v).nand = s.nand ∧ (s.putScrub v).blkErased = s.blkErased ∧
    (s.putScrub v).vault = s.vault ∧ (s.putScrub v).sessions = s.sessions ∧
    (s.putScrub v).trngRestarts = s.trngRestarts ∧ (s.putScrub v).drbgLeft = s.drbgLeft ∧
    (s.putScrub v).imageId = s.imageId ∧ (s.putScrub v).verFuses = s.verFuses ∧ (s.putScrub v).nsInfo = s.nsInfo ∧
    (s.putScrub v).care = s.care ∧ (s.putScrub v).history = s.history ∧ (s.putScrub v).fw = s.fw ∧
    (s.putScrub v).trust = s.trust ∧ (s.putScrub v).fdp = s.fdp ∧ (s.putScrub v).lostGen = s.lostGen ∧
    (s.putScrub v).lostAgain = s.lostAgain ∧ (s.putScrub v).accum = s.accum ∧ (s.putScrub v).boundSent = s.boundSent ∧
    (s.putScrub v).zoneUsed = s.zoneUsed ∧ (s.putScrub v).clean = s.clean :=
  ⟨rfl, rfl, rfl, rfl, rfl, rfl, rfl, rfl, rfl, rfl, rfl, rfl, rfl, rfl, rfl, rfl, rfl, rfl, rfl, rfl, rfl, rfl, rfl,
  rfl, rfl, rfl, rfl, rfl, rfl, rfl, rfl, rfl, rfl, rfl, rfl, rfl, rfl, rfl, rfl, rfl, rfl, rfl, rfl, rfl, rfl, rfl,
  rfl, rfl, rfl, rfl, rfl, rfl, rfl, rfl, rfl, rfl, rfl, rfl, rfl, rfl, rfl, rfl, rfl, rfl, rfl, rfl, rfl, rfl, rfl,
  rfl, rfl, rfl, rfl, rfl, rfl, rfl, rfl, rfl, rfl, rfl, rfl, rfl, rfl, rfl, rfl, rfl, rfl, rfl, rfl, rfl, rfl, rfl,
  rfl, rfl, rfl, rfl, rfl, rfl, rfl, rfl, rfl, rfl, rfl, rfl, rfl, rfl, rfl, rfl, rfl, rfl, rfl, rfl, rfl, rfl, rfl,
  rfl, rfl, rfl, rfl, rfl, rfl, rfl, rfl, rfl⟩

@[simp] theorem State.putScrub_scrub (s : State) (v : Option (Nat × Nat × Nat)) : (s.putScrub v).scrub = v := rfl

@[simp] theorem State.putFbuf_frame (s : State) (v : FMap Byte) :
    (s.putFbuf v).pending = s.pending ∧ (s.putFbuf v).free = s.free ∧ (s.putFbuf v).out = s.out ∧
    (s.putFbuf v).boot = s.boot ∧ (s.putFbuf v).tick = s.tick ∧ (s.putFbuf v).win = s.win ∧ (s.putFbuf v).gap = s.gap ∧
    (s.putFbuf v).regs = s.regs ∧ (s.putFbuf v).regPend = s.regPend ∧ (s.putFbuf v).cores = s.cores ∧
    (s.putFbuf v).cluster = s.cluster ∧ (s.putFbuf v).tun = s.tun ∧ (s.putFbuf v).tunBufs = s.tunBufs ∧
    (s.putFbuf v).tunMin = s.tunMin ∧ (s.putFbuf v).tunMinPend = s.tunMinPend ∧ (s.putFbuf v).sramErr = s.sramErr ∧
    (s.putFbuf v).heldBack = s.heldBack ∧ (s.putFbuf v).rtHit = s.rtHit ∧ (s.putFbuf v).rtClock = s.rtClock ∧
    (s.putFbuf v).rtUntracked = s.rtUntracked ∧ (s.putFbuf v).dram = s.dram ∧ (s.putFbuf v).dr = s.dr ∧
    (s.putFbuf v).poison = s.poison ∧ (s.putFbuf v).ingot = s.ingot ∧ (s.putFbuf v).nor = s.nor ∧
    (s.putFbuf v).norUnk = s.norUnk ∧ (s.putFbuf v).pat = s.pat ∧ (s.putFbuf v).tdly = s.tdly ∧
    (s.putFbuf v).scrub = s.scrub ∧ (s.putFbuf v).rings = s.rings ∧ (s.putFbuf v).haz = s.haz ∧
    (s.putFbuf v).marks = s.marks ∧ (s.putFbuf v).wsnFloor = s.wsnFloor ∧ (s.putFbuf v).health = s.health ∧
    (s.putFbuf v).qPend = s.qPend ∧ (s.putFbuf v).reqs = s.reqs ∧ (s.putFbuf v).aborts = s.aborts ∧
    (s.putFbuf v).gateShut = s.gateShut ∧ (s.putFbuf v).sqs = s.sqs ∧ (s.putFbuf v).cqs = s.cqs ∧
    (s.putFbuf v).cmds = s.cmds ∧ (s.putFbuf v).resets = s.resets ∧ (s.putFbuf v).ctrls = s.ctrls ∧
    (s.putFbuf v).arbs = s.arbs ∧ (s.putFbuf v).credit = s.credit ∧ (s.putFbuf v).taken = s.taken ∧
    (s.putFbuf v).fetchLeft = s.fetchLeft ∧ (s.putFbuf v).rotLast = s.rotLast ∧ (s.putFbuf v).rotFirst = s.rotFirst ∧
    (s.putFbuf v).hazStall = s.hazStall ∧ (s.putFbuf v).span = s.span ∧ (s.putFbuf v).spanOut = s.spanOut ∧
    (s.putFbuf v).spanIn = s.spanIn ∧ (s.putFbuf v).resOut = s.resOut ∧ (s.putFbuf v).jobs = s.jobs ∧
    (s.putFbuf v).finishing = s.finishing ∧ (s.putFbuf v).greads = s.greads ∧ (s.putFbuf v).spanNum = s.spanNum ∧
    (s.putFbuf v).spanArr = s.spanArr ∧ (s.putFbuf v).dups = s.dups ∧ (s.putFbuf v).dupGen = s.dupGen ∧
    (s.putFbuf v).rlogPos = s.rlogPos ∧ (s.putFbuf v).members = s.members ∧ (s.putFbuf v).peerVia = s.peerVia ∧
    (s.putFbuf v).groups = s.groups ∧ (s.putFbuf v).peerBound = s.peerBound ∧ (s.putFbuf v).returned = s.returned ∧
    (s.putFbuf v).lostRanges = s.lostRanges ∧ (s.putFbuf v).wmap = s.wmap ∧ (s.putFbuf v).wfin = s.wfin ∧
    (s.putFbuf v).wheld = s.wheld ∧ (s.putFbuf v).preserve = s.preserve ∧ (s.putFbuf v).kept = s.kept ∧
    (s.putFbuf v).metaOpen = s.metaOpen ∧ (s.putFbuf v).portA = s.portA ∧ (s.putFbuf v).restartDue = s.restartDue ∧
    (s.putFbuf v).pings = s.pings ∧ (s.putFbuf v).chain = s.chain ∧ (s.putFbuf v).position = s.position ∧
    (s.putFbuf v).power = s.power ∧ (s.putFbuf v).powerOp = s.powerOp ∧ (s.putFbuf v).fsn = s.fsn ∧
    (s.putFbuf v).ns = s.ns ∧ (s.putFbuf v).volCap = s.volCap ∧ (s.putFbuf v).rsv = s.rsv ∧
    (s.putFbuf v).tokCount = s.tokCount ∧ (s.putFbuf v).fullZones = s.fullZones ∧ (s.putFbuf v).fam = s.fam ∧
    (s.putFbuf v).params = s.params ∧ (s.putFbuf v).alm = s.alm ∧ (s.putFbuf v).domeEntry = s.domeEntry ∧
    (s.putFbuf v).domeWake = s.domeWake ∧ (s.putFbuf v).domeAgreed = s.domeAgreed ∧ (s.putFbuf v).readAt = s.readAt ∧
    (s.putFbuf v).sensorFail = s.sensorFail ∧ (s.putFbuf v).tripCount = s.tripCount ∧ (s.putFbuf v).rise = s.rise ∧
    (s.putFbuf v).stopped = s.stopped ∧ (s.putFbuf v).coolSince = s.coolSince ∧ (s.putFbuf v).events = s.events ∧
    (s.putFbuf v).dies = s.dies ∧ (s.putFbuf v).chans = s.chans ∧ (s.putFbuf v).accs = s.accs ∧
    (s.putFbuf v).ldpc = s.ldpc ∧ (s.putFbuf v).nand = s.nand ∧ (s.putFbuf v).blkErased = s.blkErased ∧
    (s.putFbuf v).vault = s.vault ∧ (s.putFbuf v).sessions = s.sessions ∧ (s.putFbuf v).trngRestarts = s.trngRestarts ∧
    (s.putFbuf v).drbgLeft = s.drbgLeft ∧ (s.putFbuf v).imageId = s.imageId ∧ (s.putFbuf v).verFuses = s.verFuses ∧
    (s.putFbuf v).nsInfo = s.nsInfo ∧ (s.putFbuf v).care = s.care ∧ (s.putFbuf v).history = s.history ∧
    (s.putFbuf v).fw = s.fw ∧ (s.putFbuf v).trust = s.trust ∧ (s.putFbuf v).fdp = s.fdp ∧
    (s.putFbuf v).lostGen = s.lostGen ∧ (s.putFbuf v).lostAgain = s.lostAgain ∧ (s.putFbuf v).accum = s.accum ∧
    (s.putFbuf v).boundSent = s.boundSent ∧ (s.putFbuf v).zoneUsed = s.zoneUsed ∧ (s.putFbuf v).clean = s.clean :=
  ⟨rfl, rfl, rfl, rfl, rfl, rfl, rfl, rfl, rfl, rfl, rfl, rfl, rfl, rfl, rfl, rfl, rfl, rfl, rfl, rfl, rfl, rfl, rfl,
  rfl, rfl, rfl, rfl, rfl, rfl, rfl, rfl, rfl, rfl, rfl, rfl, rfl, rfl, rfl, rfl, rfl, rfl, rfl, rfl, rfl, rfl, rfl,
  rfl, rfl, rfl, rfl, rfl, rfl, rfl, rfl, rfl, rfl, rfl, rfl, rfl, rfl, rfl, rfl, rfl, rfl, rfl, rfl, rfl, rfl, rfl,
  rfl, rfl, rfl, rfl, rfl, rfl, rfl, rfl, rfl, rfl, rfl, rfl, rfl, rfl, rfl, rfl, rfl, rfl, rfl, rfl, rfl, rfl, rfl,
  rfl, rfl, rfl, rfl, rfl, rfl, rfl, rfl, rfl, rfl, rfl, rfl, rfl, rfl, rfl, rfl, rfl, rfl, rfl, rfl, rfl, rfl, rfl,
  rfl, rfl, rfl, rfl, rfl, rfl, rfl, rfl, rfl⟩

@[simp] theorem State.putFbuf_fbuf (s : State) (v : FMap Byte) : (s.putFbuf v).fbuf = v := rfl

@[simp] theorem State.putRings_frame (s : State) (v : FMap RingQ) :
    (s.putRings v).pending = s.pending ∧ (s.putRings v).free = s.free ∧ (s.putRings v).out = s.out ∧
    (s.putRings v).boot = s.boot ∧ (s.putRings v).tick = s.tick ∧ (s.putRings v).win = s.win ∧
    (s.putRings v).gap = s.gap ∧ (s.putRings v).regs = s.regs ∧ (s.putRings v).regPend = s.regPend ∧
    (s.putRings v).cores = s.cores ∧ (s.putRings v).cluster = s.cluster ∧ (s.putRings v).tun = s.tun ∧
    (s.putRings v).tunBufs = s.tunBufs ∧ (s.putRings v).tunMin = s.tunMin ∧ (s.putRings v).tunMinPend = s.tunMinPend ∧
    (s.putRings v).sramErr = s.sramErr ∧ (s.putRings v).heldBack = s.heldBack ∧ (s.putRings v).rtHit = s.rtHit ∧
    (s.putRings v).rtClock = s.rtClock ∧ (s.putRings v).rtUntracked = s.rtUntracked ∧ (s.putRings v).dram = s.dram ∧
    (s.putRings v).dr = s.dr ∧ (s.putRings v).poison = s.poison ∧ (s.putRings v).ingot = s.ingot ∧
    (s.putRings v).nor = s.nor ∧ (s.putRings v).norUnk = s.norUnk ∧ (s.putRings v).pat = s.pat ∧
    (s.putRings v).tdly = s.tdly ∧ (s.putRings v).scrub = s.scrub ∧ (s.putRings v).fbuf = s.fbuf ∧
    (s.putRings v).haz = s.haz ∧ (s.putRings v).marks = s.marks ∧ (s.putRings v).wsnFloor = s.wsnFloor ∧
    (s.putRings v).health = s.health ∧ (s.putRings v).qPend = s.qPend ∧ (s.putRings v).reqs = s.reqs ∧
    (s.putRings v).aborts = s.aborts ∧ (s.putRings v).gateShut = s.gateShut ∧ (s.putRings v).sqs = s.sqs ∧
    (s.putRings v).cqs = s.cqs ∧ (s.putRings v).cmds = s.cmds ∧ (s.putRings v).resets = s.resets ∧
    (s.putRings v).ctrls = s.ctrls ∧ (s.putRings v).arbs = s.arbs ∧ (s.putRings v).credit = s.credit ∧
    (s.putRings v).taken = s.taken ∧ (s.putRings v).fetchLeft = s.fetchLeft ∧ (s.putRings v).rotLast = s.rotLast ∧
    (s.putRings v).rotFirst = s.rotFirst ∧ (s.putRings v).hazStall = s.hazStall ∧ (s.putRings v).span = s.span ∧
    (s.putRings v).spanOut = s.spanOut ∧ (s.putRings v).spanIn = s.spanIn ∧ (s.putRings v).resOut = s.resOut ∧
    (s.putRings v).jobs = s.jobs ∧ (s.putRings v).finishing = s.finishing ∧ (s.putRings v).greads = s.greads ∧
    (s.putRings v).spanNum = s.spanNum ∧ (s.putRings v).spanArr = s.spanArr ∧ (s.putRings v).dups = s.dups ∧
    (s.putRings v).dupGen = s.dupGen ∧ (s.putRings v).rlogPos = s.rlogPos ∧ (s.putRings v).members = s.members ∧
    (s.putRings v).peerVia = s.peerVia ∧ (s.putRings v).groups = s.groups ∧ (s.putRings v).peerBound = s.peerBound ∧
    (s.putRings v).returned = s.returned ∧ (s.putRings v).lostRanges = s.lostRanges ∧ (s.putRings v).wmap = s.wmap ∧
    (s.putRings v).wfin = s.wfin ∧ (s.putRings v).wheld = s.wheld ∧ (s.putRings v).preserve = s.preserve ∧
    (s.putRings v).kept = s.kept ∧ (s.putRings v).metaOpen = s.metaOpen ∧ (s.putRings v).portA = s.portA ∧
    (s.putRings v).restartDue = s.restartDue ∧ (s.putRings v).pings = s.pings ∧ (s.putRings v).chain = s.chain ∧
    (s.putRings v).position = s.position ∧ (s.putRings v).power = s.power ∧ (s.putRings v).powerOp = s.powerOp ∧
    (s.putRings v).fsn = s.fsn ∧ (s.putRings v).ns = s.ns ∧ (s.putRings v).volCap = s.volCap ∧
    (s.putRings v).rsv = s.rsv ∧ (s.putRings v).tokCount = s.tokCount ∧ (s.putRings v).fullZones = s.fullZones ∧
    (s.putRings v).fam = s.fam ∧ (s.putRings v).params = s.params ∧ (s.putRings v).alm = s.alm ∧
    (s.putRings v).domeEntry = s.domeEntry ∧ (s.putRings v).domeWake = s.domeWake ∧
    (s.putRings v).domeAgreed = s.domeAgreed ∧ (s.putRings v).readAt = s.readAt ∧
    (s.putRings v).sensorFail = s.sensorFail ∧ (s.putRings v).tripCount = s.tripCount ∧ (s.putRings v).rise = s.rise ∧
    (s.putRings v).stopped = s.stopped ∧ (s.putRings v).coolSince = s.coolSince ∧ (s.putRings v).events = s.events ∧
    (s.putRings v).dies = s.dies ∧ (s.putRings v).chans = s.chans ∧ (s.putRings v).accs = s.accs ∧
    (s.putRings v).ldpc = s.ldpc ∧ (s.putRings v).nand = s.nand ∧ (s.putRings v).blkErased = s.blkErased ∧
    (s.putRings v).vault = s.vault ∧ (s.putRings v).sessions = s.sessions ∧
    (s.putRings v).trngRestarts = s.trngRestarts ∧ (s.putRings v).drbgLeft = s.drbgLeft ∧
    (s.putRings v).imageId = s.imageId ∧ (s.putRings v).verFuses = s.verFuses ∧ (s.putRings v).nsInfo = s.nsInfo ∧
    (s.putRings v).care = s.care ∧ (s.putRings v).history = s.history ∧ (s.putRings v).fw = s.fw ∧
    (s.putRings v).trust = s.trust ∧ (s.putRings v).fdp = s.fdp ∧ (s.putRings v).lostGen = s.lostGen ∧
    (s.putRings v).lostAgain = s.lostAgain ∧ (s.putRings v).accum = s.accum ∧ (s.putRings v).boundSent = s.boundSent ∧
    (s.putRings v).zoneUsed = s.zoneUsed ∧ (s.putRings v).clean = s.clean :=
  ⟨rfl, rfl, rfl, rfl, rfl, rfl, rfl, rfl, rfl, rfl, rfl, rfl, rfl, rfl, rfl, rfl, rfl, rfl, rfl, rfl, rfl, rfl, rfl,
  rfl, rfl, rfl, rfl, rfl, rfl, rfl, rfl, rfl, rfl, rfl, rfl, rfl, rfl, rfl, rfl, rfl, rfl, rfl, rfl, rfl, rfl, rfl,
  rfl, rfl, rfl, rfl, rfl, rfl, rfl, rfl, rfl, rfl, rfl, rfl, rfl, rfl, rfl, rfl, rfl, rfl, rfl, rfl, rfl, rfl, rfl,
  rfl, rfl, rfl, rfl, rfl, rfl, rfl, rfl, rfl, rfl, rfl, rfl, rfl, rfl, rfl, rfl, rfl, rfl, rfl, rfl, rfl, rfl, rfl,
  rfl, rfl, rfl, rfl, rfl, rfl, rfl, rfl, rfl, rfl, rfl, rfl, rfl, rfl, rfl, rfl, rfl, rfl, rfl, rfl, rfl, rfl, rfl,
  rfl, rfl, rfl, rfl, rfl, rfl, rfl, rfl, rfl⟩

@[simp] theorem State.putRings_rings (s : State) (v : FMap RingQ) : (s.putRings v).rings = v := rfl

@[simp] theorem State.putHaz_frame (s : State) (v : List (Nat × HazEntry)) :
    (s.putHaz v).pending = s.pending ∧ (s.putHaz v).free = s.free ∧ (s.putHaz v).out = s.out ∧ (s.putHaz v).boot = s.boot ∧
    (s.putHaz v).tick = s.tick ∧ (s.putHaz v).win = s.win ∧ (s.putHaz v).gap = s.gap ∧ (s.putHaz v).regs = s.regs ∧
    (s.putHaz v).regPend = s.regPend ∧ (s.putHaz v).cores = s.cores ∧ (s.putHaz v).cluster = s.cluster ∧
    (s.putHaz v).tun = s.tun ∧ (s.putHaz v).tunBufs = s.tunBufs ∧ (s.putHaz v).tunMin = s.tunMin ∧
    (s.putHaz v).tunMinPend = s.tunMinPend ∧ (s.putHaz v).sramErr = s.sramErr ∧ (s.putHaz v).heldBack = s.heldBack ∧
    (s.putHaz v).rtHit = s.rtHit ∧ (s.putHaz v).rtClock = s.rtClock ∧ (s.putHaz v).rtUntracked = s.rtUntracked ∧
    (s.putHaz v).dram = s.dram ∧ (s.putHaz v).dr = s.dr ∧ (s.putHaz v).poison = s.poison ∧ (s.putHaz v).ingot = s.ingot ∧
    (s.putHaz v).nor = s.nor ∧ (s.putHaz v).norUnk = s.norUnk ∧ (s.putHaz v).pat = s.pat ∧ (s.putHaz v).tdly = s.tdly ∧
    (s.putHaz v).scrub = s.scrub ∧ (s.putHaz v).fbuf = s.fbuf ∧ (s.putHaz v).rings = s.rings ∧
    (s.putHaz v).marks = s.marks ∧ (s.putHaz v).wsnFloor = s.wsnFloor ∧ (s.putHaz v).health = s.health ∧
    (s.putHaz v).qPend = s.qPend ∧ (s.putHaz v).reqs = s.reqs ∧ (s.putHaz v).aborts = s.aborts ∧
    (s.putHaz v).gateShut = s.gateShut ∧ (s.putHaz v).sqs = s.sqs ∧ (s.putHaz v).cqs = s.cqs ∧
    (s.putHaz v).cmds = s.cmds ∧ (s.putHaz v).resets = s.resets ∧ (s.putHaz v).ctrls = s.ctrls ∧
    (s.putHaz v).arbs = s.arbs ∧ (s.putHaz v).credit = s.credit ∧ (s.putHaz v).taken = s.taken ∧
    (s.putHaz v).fetchLeft = s.fetchLeft ∧ (s.putHaz v).rotLast = s.rotLast ∧ (s.putHaz v).rotFirst = s.rotFirst ∧
    (s.putHaz v).hazStall = s.hazStall ∧ (s.putHaz v).span = s.span ∧ (s.putHaz v).spanOut = s.spanOut ∧
    (s.putHaz v).spanIn = s.spanIn ∧ (s.putHaz v).resOut = s.resOut ∧ (s.putHaz v).jobs = s.jobs ∧
    (s.putHaz v).finishing = s.finishing ∧ (s.putHaz v).greads = s.greads ∧ (s.putHaz v).spanNum = s.spanNum ∧
    (s.putHaz v).spanArr = s.spanArr ∧ (s.putHaz v).dups = s.dups ∧ (s.putHaz v).dupGen = s.dupGen ∧
    (s.putHaz v).rlogPos = s.rlogPos ∧ (s.putHaz v).members = s.members ∧ (s.putHaz v).peerVia = s.peerVia ∧
    (s.putHaz v).groups = s.groups ∧ (s.putHaz v).peerBound = s.peerBound ∧ (s.putHaz v).returned = s.returned ∧
    (s.putHaz v).lostRanges = s.lostRanges ∧ (s.putHaz v).wmap = s.wmap ∧ (s.putHaz v).wfin = s.wfin ∧
    (s.putHaz v).wheld = s.wheld ∧ (s.putHaz v).preserve = s.preserve ∧ (s.putHaz v).kept = s.kept ∧
    (s.putHaz v).metaOpen = s.metaOpen ∧ (s.putHaz v).portA = s.portA ∧ (s.putHaz v).restartDue = s.restartDue ∧
    (s.putHaz v).pings = s.pings ∧ (s.putHaz v).chain = s.chain ∧ (s.putHaz v).position = s.position ∧
    (s.putHaz v).power = s.power ∧ (s.putHaz v).powerOp = s.powerOp ∧ (s.putHaz v).fsn = s.fsn ∧ (s.putHaz v).ns = s.ns ∧
    (s.putHaz v).volCap = s.volCap ∧ (s.putHaz v).rsv = s.rsv ∧ (s.putHaz v).tokCount = s.tokCount ∧
    (s.putHaz v).fullZones = s.fullZones ∧ (s.putHaz v).fam = s.fam ∧ (s.putHaz v).params = s.params ∧
    (s.putHaz v).alm = s.alm ∧ (s.putHaz v).domeEntry = s.domeEntry ∧ (s.putHaz v).domeWake = s.domeWake ∧
    (s.putHaz v).domeAgreed = s.domeAgreed ∧ (s.putHaz v).readAt = s.readAt ∧ (s.putHaz v).sensorFail = s.sensorFail ∧
    (s.putHaz v).tripCount = s.tripCount ∧ (s.putHaz v).rise = s.rise ∧ (s.putHaz v).stopped = s.stopped ∧
    (s.putHaz v).coolSince = s.coolSince ∧ (s.putHaz v).events = s.events ∧ (s.putHaz v).dies = s.dies ∧
    (s.putHaz v).chans = s.chans ∧ (s.putHaz v).accs = s.accs ∧ (s.putHaz v).ldpc = s.ldpc ∧ (s.putHaz v).nand = s.nand ∧
    (s.putHaz v).blkErased = s.blkErased ∧ (s.putHaz v).vault = s.vault ∧ (s.putHaz v).sessions = s.sessions ∧
    (s.putHaz v).trngRestarts = s.trngRestarts ∧ (s.putHaz v).drbgLeft = s.drbgLeft ∧ (s.putHaz v).imageId = s.imageId ∧
    (s.putHaz v).verFuses = s.verFuses ∧ (s.putHaz v).nsInfo = s.nsInfo ∧ (s.putHaz v).care = s.care ∧
    (s.putHaz v).history = s.history ∧ (s.putHaz v).fw = s.fw ∧ (s.putHaz v).trust = s.trust ∧ (s.putHaz v).fdp = s.fdp ∧
    (s.putHaz v).lostGen = s.lostGen ∧ (s.putHaz v).lostAgain = s.lostAgain ∧ (s.putHaz v).accum = s.accum ∧
    (s.putHaz v).boundSent = s.boundSent ∧ (s.putHaz v).zoneUsed = s.zoneUsed ∧ (s.putHaz v).clean = s.clean :=
  ⟨rfl, rfl, rfl, rfl, rfl, rfl, rfl, rfl, rfl, rfl, rfl, rfl, rfl, rfl, rfl, rfl, rfl, rfl, rfl, rfl, rfl, rfl, rfl,
  rfl, rfl, rfl, rfl, rfl, rfl, rfl, rfl, rfl, rfl, rfl, rfl, rfl, rfl, rfl, rfl, rfl, rfl, rfl, rfl, rfl, rfl, rfl,
  rfl, rfl, rfl, rfl, rfl, rfl, rfl, rfl, rfl, rfl, rfl, rfl, rfl, rfl, rfl, rfl, rfl, rfl, rfl, rfl, rfl, rfl, rfl,
  rfl, rfl, rfl, rfl, rfl, rfl, rfl, rfl, rfl, rfl, rfl, rfl, rfl, rfl, rfl, rfl, rfl, rfl, rfl, rfl, rfl, rfl, rfl,
  rfl, rfl, rfl, rfl, rfl, rfl, rfl, rfl, rfl, rfl, rfl, rfl, rfl, rfl, rfl, rfl, rfl, rfl, rfl, rfl, rfl, rfl, rfl,
  rfl, rfl, rfl, rfl, rfl, rfl, rfl, rfl, rfl⟩

@[simp] theorem State.putHaz_haz (s : State) (v : List (Nat × HazEntry)) : (s.putHaz v).haz = v := rfl

@[simp] theorem State.putMarks_frame (s : State) (v : FMap (Option Mark)) :
    (s.putMarks v).pending = s.pending ∧ (s.putMarks v).free = s.free ∧ (s.putMarks v).out = s.out ∧
    (s.putMarks v).boot = s.boot ∧ (s.putMarks v).tick = s.tick ∧ (s.putMarks v).win = s.win ∧
    (s.putMarks v).gap = s.gap ∧ (s.putMarks v).regs = s.regs ∧ (s.putMarks v).regPend = s.regPend ∧
    (s.putMarks v).cores = s.cores ∧ (s.putMarks v).cluster = s.cluster ∧ (s.putMarks v).tun = s.tun ∧
    (s.putMarks v).tunBufs = s.tunBufs ∧ (s.putMarks v).tunMin = s.tunMin ∧ (s.putMarks v).tunMinPend = s.tunMinPend ∧
    (s.putMarks v).sramErr = s.sramErr ∧ (s.putMarks v).heldBack = s.heldBack ∧ (s.putMarks v).rtHit = s.rtHit ∧
    (s.putMarks v).rtClock = s.rtClock ∧ (s.putMarks v).rtUntracked = s.rtUntracked ∧ (s.putMarks v).dram = s.dram ∧
    (s.putMarks v).dr = s.dr ∧ (s.putMarks v).poison = s.poison ∧ (s.putMarks v).ingot = s.ingot ∧
    (s.putMarks v).nor = s.nor ∧ (s.putMarks v).norUnk = s.norUnk ∧ (s.putMarks v).pat = s.pat ∧
    (s.putMarks v).tdly = s.tdly ∧ (s.putMarks v).scrub = s.scrub ∧ (s.putMarks v).fbuf = s.fbuf ∧
    (s.putMarks v).rings = s.rings ∧ (s.putMarks v).haz = s.haz ∧ (s.putMarks v).wsnFloor = s.wsnFloor ∧
    (s.putMarks v).health = s.health ∧ (s.putMarks v).qPend = s.qPend ∧ (s.putMarks v).reqs = s.reqs ∧
    (s.putMarks v).aborts = s.aborts ∧ (s.putMarks v).gateShut = s.gateShut ∧ (s.putMarks v).sqs = s.sqs ∧
    (s.putMarks v).cqs = s.cqs ∧ (s.putMarks v).cmds = s.cmds ∧ (s.putMarks v).resets = s.resets ∧
    (s.putMarks v).ctrls = s.ctrls ∧ (s.putMarks v).arbs = s.arbs ∧ (s.putMarks v).credit = s.credit ∧
    (s.putMarks v).taken = s.taken ∧ (s.putMarks v).fetchLeft = s.fetchLeft ∧ (s.putMarks v).rotLast = s.rotLast ∧
    (s.putMarks v).rotFirst = s.rotFirst ∧ (s.putMarks v).hazStall = s.hazStall ∧ (s.putMarks v).span = s.span ∧
    (s.putMarks v).spanOut = s.spanOut ∧ (s.putMarks v).spanIn = s.spanIn ∧ (s.putMarks v).resOut = s.resOut ∧
    (s.putMarks v).jobs = s.jobs ∧ (s.putMarks v).finishing = s.finishing ∧ (s.putMarks v).greads = s.greads ∧
    (s.putMarks v).spanNum = s.spanNum ∧ (s.putMarks v).spanArr = s.spanArr ∧ (s.putMarks v).dups = s.dups ∧
    (s.putMarks v).dupGen = s.dupGen ∧ (s.putMarks v).rlogPos = s.rlogPos ∧ (s.putMarks v).members = s.members ∧
    (s.putMarks v).peerVia = s.peerVia ∧ (s.putMarks v).groups = s.groups ∧ (s.putMarks v).peerBound = s.peerBound ∧
    (s.putMarks v).returned = s.returned ∧ (s.putMarks v).lostRanges = s.lostRanges ∧ (s.putMarks v).wmap = s.wmap ∧
    (s.putMarks v).wfin = s.wfin ∧ (s.putMarks v).wheld = s.wheld ∧ (s.putMarks v).preserve = s.preserve ∧
    (s.putMarks v).kept = s.kept ∧ (s.putMarks v).metaOpen = s.metaOpen ∧ (s.putMarks v).portA = s.portA ∧
    (s.putMarks v).restartDue = s.restartDue ∧ (s.putMarks v).pings = s.pings ∧ (s.putMarks v).chain = s.chain ∧
    (s.putMarks v).position = s.position ∧ (s.putMarks v).power = s.power ∧ (s.putMarks v).powerOp = s.powerOp ∧
    (s.putMarks v).fsn = s.fsn ∧ (s.putMarks v).ns = s.ns ∧ (s.putMarks v).volCap = s.volCap ∧
    (s.putMarks v).rsv = s.rsv ∧ (s.putMarks v).tokCount = s.tokCount ∧ (s.putMarks v).fullZones = s.fullZones ∧
    (s.putMarks v).fam = s.fam ∧ (s.putMarks v).params = s.params ∧ (s.putMarks v).alm = s.alm ∧
    (s.putMarks v).domeEntry = s.domeEntry ∧ (s.putMarks v).domeWake = s.domeWake ∧
    (s.putMarks v).domeAgreed = s.domeAgreed ∧ (s.putMarks v).readAt = s.readAt ∧
    (s.putMarks v).sensorFail = s.sensorFail ∧ (s.putMarks v).tripCount = s.tripCount ∧ (s.putMarks v).rise = s.rise ∧
    (s.putMarks v).stopped = s.stopped ∧ (s.putMarks v).coolSince = s.coolSince ∧ (s.putMarks v).events = s.events ∧
    (s.putMarks v).dies = s.dies ∧ (s.putMarks v).chans = s.chans ∧ (s.putMarks v).accs = s.accs ∧
    (s.putMarks v).ldpc = s.ldpc ∧ (s.putMarks v).nand = s.nand ∧ (s.putMarks v).blkErased = s.blkErased ∧
    (s.putMarks v).vault = s.vault ∧ (s.putMarks v).sessions = s.sessions ∧
    (s.putMarks v).trngRestarts = s.trngRestarts ∧ (s.putMarks v).drbgLeft = s.drbgLeft ∧
    (s.putMarks v).imageId = s.imageId ∧ (s.putMarks v).verFuses = s.verFuses ∧ (s.putMarks v).nsInfo = s.nsInfo ∧
    (s.putMarks v).care = s.care ∧ (s.putMarks v).history = s.history ∧ (s.putMarks v).fw = s.fw ∧
    (s.putMarks v).trust = s.trust ∧ (s.putMarks v).fdp = s.fdp ∧ (s.putMarks v).lostGen = s.lostGen ∧
    (s.putMarks v).lostAgain = s.lostAgain ∧ (s.putMarks v).accum = s.accum ∧ (s.putMarks v).boundSent = s.boundSent ∧
    (s.putMarks v).zoneUsed = s.zoneUsed ∧ (s.putMarks v).clean = s.clean :=
  ⟨rfl, rfl, rfl, rfl, rfl, rfl, rfl, rfl, rfl, rfl, rfl, rfl, rfl, rfl, rfl, rfl, rfl, rfl, rfl, rfl, rfl, rfl, rfl,
  rfl, rfl, rfl, rfl, rfl, rfl, rfl, rfl, rfl, rfl, rfl, rfl, rfl, rfl, rfl, rfl, rfl, rfl, rfl, rfl, rfl, rfl, rfl,
  rfl, rfl, rfl, rfl, rfl, rfl, rfl, rfl, rfl, rfl, rfl, rfl, rfl, rfl, rfl, rfl, rfl, rfl, rfl, rfl, rfl, rfl, rfl,
  rfl, rfl, rfl, rfl, rfl, rfl, rfl, rfl, rfl, rfl, rfl, rfl, rfl, rfl, rfl, rfl, rfl, rfl, rfl, rfl, rfl, rfl, rfl,
  rfl, rfl, rfl, rfl, rfl, rfl, rfl, rfl, rfl, rfl, rfl, rfl, rfl, rfl, rfl, rfl, rfl, rfl, rfl, rfl, rfl, rfl, rfl,
  rfl, rfl, rfl, rfl, rfl, rfl, rfl, rfl, rfl⟩

@[simp] theorem State.putMarks_marks (s : State) (v : FMap (Option Mark)) : (s.putMarks v).marks = v := rfl

@[simp] theorem State.putWsnFloor_frame (s : State) (v : Option Nat) :
    (s.putWsnFloor v).pending = s.pending ∧ (s.putWsnFloor v).free = s.free ∧ (s.putWsnFloor v).out = s.out ∧
    (s.putWsnFloor v).boot = s.boot ∧ (s.putWsnFloor v).tick = s.tick ∧ (s.putWsnFloor v).win = s.win ∧
    (s.putWsnFloor v).gap = s.gap ∧ (s.putWsnFloor v).regs = s.regs ∧ (s.putWsnFloor v).regPend = s.regPend ∧
    (s.putWsnFloor v).cores = s.cores ∧ (s.putWsnFloor v).cluster = s.cluster ∧ (s.putWsnFloor v).tun = s.tun ∧
    (s.putWsnFloor v).tunBufs = s.tunBufs ∧ (s.putWsnFloor v).tunMin = s.tunMin ∧
    (s.putWsnFloor v).tunMinPend = s.tunMinPend ∧ (s.putWsnFloor v).sramErr = s.sramErr ∧
    (s.putWsnFloor v).heldBack = s.heldBack ∧ (s.putWsnFloor v).rtHit = s.rtHit ∧ (s.putWsnFloor v).rtClock = s.rtClock ∧
    (s.putWsnFloor v).rtUntracked = s.rtUntracked ∧ (s.putWsnFloor v).dram = s.dram ∧ (s.putWsnFloor v).dr = s.dr ∧
    (s.putWsnFloor v).poison = s.poison ∧ (s.putWsnFloor v).ingot = s.ingot ∧ (s.putWsnFloor v).nor = s.nor ∧
    (s.putWsnFloor v).norUnk = s.norUnk ∧ (s.putWsnFloor v).pat = s.pat ∧ (s.putWsnFloor v).tdly = s.tdly ∧
    (s.putWsnFloor v).scrub = s.scrub ∧ (s.putWsnFloor v).fbuf = s.fbuf ∧ (s.putWsnFloor v).rings = s.rings ∧
    (s.putWsnFloor v).haz = s.haz ∧ (s.putWsnFloor v).marks = s.marks ∧ (s.putWsnFloor v).health = s.health ∧
    (s.putWsnFloor v).qPend = s.qPend ∧ (s.putWsnFloor v).reqs = s.reqs ∧ (s.putWsnFloor v).aborts = s.aborts ∧
    (s.putWsnFloor v).gateShut = s.gateShut ∧ (s.putWsnFloor v).sqs = s.sqs ∧ (s.putWsnFloor v).cqs = s.cqs ∧
    (s.putWsnFloor v).cmds = s.cmds ∧ (s.putWsnFloor v).resets = s.resets ∧ (s.putWsnFloor v).ctrls = s.ctrls ∧
    (s.putWsnFloor v).arbs = s.arbs ∧ (s.putWsnFloor v).credit = s.credit ∧ (s.putWsnFloor v).taken = s.taken ∧
    (s.putWsnFloor v).fetchLeft = s.fetchLeft ∧ (s.putWsnFloor v).rotLast = s.rotLast ∧
    (s.putWsnFloor v).rotFirst = s.rotFirst ∧ (s.putWsnFloor v).hazStall = s.hazStall ∧ (s.putWsnFloor v).span = s.span ∧
    (s.putWsnFloor v).spanOut = s.spanOut ∧ (s.putWsnFloor v).spanIn = s.spanIn ∧ (s.putWsnFloor v).resOut = s.resOut ∧
    (s.putWsnFloor v).jobs = s.jobs ∧ (s.putWsnFloor v).finishing = s.finishing ∧ (s.putWsnFloor v).greads = s.greads ∧
    (s.putWsnFloor v).spanNum = s.spanNum ∧ (s.putWsnFloor v).spanArr = s.spanArr ∧ (s.putWsnFloor v).dups = s.dups ∧
    (s.putWsnFloor v).dupGen = s.dupGen ∧ (s.putWsnFloor v).rlogPos = s.rlogPos ∧ (s.putWsnFloor v).members = s.members ∧
    (s.putWsnFloor v).peerVia = s.peerVia ∧ (s.putWsnFloor v).groups = s.groups ∧
    (s.putWsnFloor v).peerBound = s.peerBound ∧ (s.putWsnFloor v).returned = s.returned ∧
    (s.putWsnFloor v).lostRanges = s.lostRanges ∧ (s.putWsnFloor v).wmap = s.wmap ∧ (s.putWsnFloor v).wfin = s.wfin ∧
    (s.putWsnFloor v).wheld = s.wheld ∧ (s.putWsnFloor v).preserve = s.preserve ∧ (s.putWsnFloor v).kept = s.kept ∧
    (s.putWsnFloor v).metaOpen = s.metaOpen ∧ (s.putWsnFloor v).portA = s.portA ∧
    (s.putWsnFloor v).restartDue = s.restartDue ∧ (s.putWsnFloor v).pings = s.pings ∧ (s.putWsnFloor v).chain = s.chain ∧
    (s.putWsnFloor v).position = s.position ∧ (s.putWsnFloor v).power = s.power ∧ (s.putWsnFloor v).powerOp = s.powerOp ∧
    (s.putWsnFloor v).fsn = s.fsn ∧ (s.putWsnFloor v).ns = s.ns ∧ (s.putWsnFloor v).volCap = s.volCap ∧
    (s.putWsnFloor v).rsv = s.rsv ∧ (s.putWsnFloor v).tokCount = s.tokCount ∧ (s.putWsnFloor v).fullZones = s.fullZones ∧
    (s.putWsnFloor v).fam = s.fam ∧ (s.putWsnFloor v).params = s.params ∧ (s.putWsnFloor v).alm = s.alm ∧
    (s.putWsnFloor v).domeEntry = s.domeEntry ∧ (s.putWsnFloor v).domeWake = s.domeWake ∧
    (s.putWsnFloor v).domeAgreed = s.domeAgreed ∧ (s.putWsnFloor v).readAt = s.readAt ∧
    (s.putWsnFloor v).sensorFail = s.sensorFail ∧ (s.putWsnFloor v).tripCount = s.tripCount ∧
    (s.putWsnFloor v).rise = s.rise ∧ (s.putWsnFloor v).stopped = s.stopped ∧ (s.putWsnFloor v).coolSince = s.coolSince ∧
    (s.putWsnFloor v).events = s.events ∧ (s.putWsnFloor v).dies = s.dies ∧ (s.putWsnFloor v).chans = s.chans ∧
    (s.putWsnFloor v).accs = s.accs ∧ (s.putWsnFloor v).ldpc = s.ldpc ∧ (s.putWsnFloor v).nand = s.nand ∧
    (s.putWsnFloor v).blkErased = s.blkErased ∧ (s.putWsnFloor v).vault = s.vault ∧
    (s.putWsnFloor v).sessions = s.sessions ∧ (s.putWsnFloor v).trngRestarts = s.trngRestarts ∧
    (s.putWsnFloor v).drbgLeft = s.drbgLeft ∧ (s.putWsnFloor v).imageId = s.imageId ∧
    (s.putWsnFloor v).verFuses = s.verFuses ∧ (s.putWsnFloor v).nsInfo = s.nsInfo ∧ (s.putWsnFloor v).care = s.care ∧
    (s.putWsnFloor v).history = s.history ∧ (s.putWsnFloor v).fw = s.fw ∧ (s.putWsnFloor v).trust = s.trust ∧
    (s.putWsnFloor v).fdp = s.fdp ∧ (s.putWsnFloor v).lostGen = s.lostGen ∧ (s.putWsnFloor v).lostAgain = s.lostAgain ∧
    (s.putWsnFloor v).accum = s.accum ∧ (s.putWsnFloor v).boundSent = s.boundSent ∧
    (s.putWsnFloor v).zoneUsed = s.zoneUsed ∧ (s.putWsnFloor v).clean = s.clean :=
  ⟨rfl, rfl, rfl, rfl, rfl, rfl, rfl, rfl, rfl, rfl, rfl, rfl, rfl, rfl, rfl, rfl, rfl, rfl, rfl, rfl, rfl, rfl, rfl,
  rfl, rfl, rfl, rfl, rfl, rfl, rfl, rfl, rfl, rfl, rfl, rfl, rfl, rfl, rfl, rfl, rfl, rfl, rfl, rfl, rfl, rfl, rfl,
  rfl, rfl, rfl, rfl, rfl, rfl, rfl, rfl, rfl, rfl, rfl, rfl, rfl, rfl, rfl, rfl, rfl, rfl, rfl, rfl, rfl, rfl, rfl,
  rfl, rfl, rfl, rfl, rfl, rfl, rfl, rfl, rfl, rfl, rfl, rfl, rfl, rfl, rfl, rfl, rfl, rfl, rfl, rfl, rfl, rfl, rfl,
  rfl, rfl, rfl, rfl, rfl, rfl, rfl, rfl, rfl, rfl, rfl, rfl, rfl, rfl, rfl, rfl, rfl, rfl, rfl, rfl, rfl, rfl, rfl,
  rfl, rfl, rfl, rfl, rfl, rfl, rfl, rfl, rfl⟩

@[simp] theorem State.putWsnFloor_wsnFloor (s : State) (v : Option Nat) : (s.putWsnFloor v).wsnFloor = v := rfl

@[simp] theorem State.putHealth_frame (s : State) (v : FMap W64) :
    (s.putHealth v).pending = s.pending ∧ (s.putHealth v).free = s.free ∧ (s.putHealth v).out = s.out ∧
    (s.putHealth v).boot = s.boot ∧ (s.putHealth v).tick = s.tick ∧ (s.putHealth v).win = s.win ∧
    (s.putHealth v).gap = s.gap ∧ (s.putHealth v).regs = s.regs ∧ (s.putHealth v).regPend = s.regPend ∧
    (s.putHealth v).cores = s.cores ∧ (s.putHealth v).cluster = s.cluster ∧ (s.putHealth v).tun = s.tun ∧
    (s.putHealth v).tunBufs = s.tunBufs ∧ (s.putHealth v).tunMin = s.tunMin ∧ (s.putHealth v).tunMinPend = s.tunMinPend ∧
    (s.putHealth v).sramErr = s.sramErr ∧ (s.putHealth v).heldBack = s.heldBack ∧ (s.putHealth v).rtHit = s.rtHit ∧
    (s.putHealth v).rtClock = s.rtClock ∧ (s.putHealth v).rtUntracked = s.rtUntracked ∧ (s.putHealth v).dram = s.dram ∧
    (s.putHealth v).dr = s.dr ∧ (s.putHealth v).poison = s.poison ∧ (s.putHealth v).ingot = s.ingot ∧
    (s.putHealth v).nor = s.nor ∧ (s.putHealth v).norUnk = s.norUnk ∧ (s.putHealth v).pat = s.pat ∧
    (s.putHealth v).tdly = s.tdly ∧ (s.putHealth v).scrub = s.scrub ∧ (s.putHealth v).fbuf = s.fbuf ∧
    (s.putHealth v).rings = s.rings ∧ (s.putHealth v).haz = s.haz ∧ (s.putHealth v).marks = s.marks ∧
    (s.putHealth v).wsnFloor = s.wsnFloor ∧ (s.putHealth v).qPend = s.qPend ∧ (s.putHealth v).reqs = s.reqs ∧
    (s.putHealth v).aborts = s.aborts ∧ (s.putHealth v).gateShut = s.gateShut ∧ (s.putHealth v).sqs = s.sqs ∧
    (s.putHealth v).cqs = s.cqs ∧ (s.putHealth v).cmds = s.cmds ∧ (s.putHealth v).resets = s.resets ∧
    (s.putHealth v).ctrls = s.ctrls ∧ (s.putHealth v).arbs = s.arbs ∧ (s.putHealth v).credit = s.credit ∧
    (s.putHealth v).taken = s.taken ∧ (s.putHealth v).fetchLeft = s.fetchLeft ∧ (s.putHealth v).rotLast = s.rotLast ∧
    (s.putHealth v).rotFirst = s.rotFirst ∧ (s.putHealth v).hazStall = s.hazStall ∧ (s.putHealth v).span = s.span ∧
    (s.putHealth v).spanOut = s.spanOut ∧ (s.putHealth v).spanIn = s.spanIn ∧ (s.putHealth v).resOut = s.resOut ∧
    (s.putHealth v).jobs = s.jobs ∧ (s.putHealth v).finishing = s.finishing ∧ (s.putHealth v).greads = s.greads ∧
    (s.putHealth v).spanNum = s.spanNum ∧ (s.putHealth v).spanArr = s.spanArr ∧ (s.putHealth v).dups = s.dups ∧
    (s.putHealth v).dupGen = s.dupGen ∧ (s.putHealth v).rlogPos = s.rlogPos ∧ (s.putHealth v).members = s.members ∧
    (s.putHealth v).peerVia = s.peerVia ∧ (s.putHealth v).groups = s.groups ∧ (s.putHealth v).peerBound = s.peerBound ∧
    (s.putHealth v).returned = s.returned ∧ (s.putHealth v).lostRanges = s.lostRanges ∧ (s.putHealth v).wmap = s.wmap ∧
    (s.putHealth v).wfin = s.wfin ∧ (s.putHealth v).wheld = s.wheld ∧ (s.putHealth v).preserve = s.preserve ∧
    (s.putHealth v).kept = s.kept ∧ (s.putHealth v).metaOpen = s.metaOpen ∧ (s.putHealth v).portA = s.portA ∧
    (s.putHealth v).restartDue = s.restartDue ∧ (s.putHealth v).pings = s.pings ∧ (s.putHealth v).chain = s.chain ∧
    (s.putHealth v).position = s.position ∧ (s.putHealth v).power = s.power ∧ (s.putHealth v).powerOp = s.powerOp ∧
    (s.putHealth v).fsn = s.fsn ∧ (s.putHealth v).ns = s.ns ∧ (s.putHealth v).volCap = s.volCap ∧
    (s.putHealth v).rsv = s.rsv ∧ (s.putHealth v).tokCount = s.tokCount ∧ (s.putHealth v).fullZones = s.fullZones ∧
    (s.putHealth v).fam = s.fam ∧ (s.putHealth v).params = s.params ∧ (s.putHealth v).alm = s.alm ∧
    (s.putHealth v).domeEntry = s.domeEntry ∧ (s.putHealth v).domeWake = s.domeWake ∧
    (s.putHealth v).domeAgreed = s.domeAgreed ∧ (s.putHealth v).readAt = s.readAt ∧
    (s.putHealth v).sensorFail = s.sensorFail ∧ (s.putHealth v).tripCount = s.tripCount ∧ (s.putHealth v).rise = s.rise ∧
    (s.putHealth v).stopped = s.stopped ∧ (s.putHealth v).coolSince = s.coolSince ∧ (s.putHealth v).events = s.events ∧
    (s.putHealth v).dies = s.dies ∧ (s.putHealth v).chans = s.chans ∧ (s.putHealth v).accs = s.accs ∧
    (s.putHealth v).ldpc = s.ldpc ∧ (s.putHealth v).nand = s.nand ∧ (s.putHealth v).blkErased = s.blkErased ∧
    (s.putHealth v).vault = s.vault ∧ (s.putHealth v).sessions = s.sessions ∧
    (s.putHealth v).trngRestarts = s.trngRestarts ∧ (s.putHealth v).drbgLeft = s.drbgLeft ∧
    (s.putHealth v).imageId = s.imageId ∧ (s.putHealth v).verFuses = s.verFuses ∧ (s.putHealth v).nsInfo = s.nsInfo ∧
    (s.putHealth v).care = s.care ∧ (s.putHealth v).history = s.history ∧ (s.putHealth v).fw = s.fw ∧
    (s.putHealth v).trust = s.trust ∧ (s.putHealth v).fdp = s.fdp ∧ (s.putHealth v).lostGen = s.lostGen ∧
    (s.putHealth v).lostAgain = s.lostAgain ∧ (s.putHealth v).accum = s.accum ∧ (s.putHealth v).boundSent = s.boundSent ∧
    (s.putHealth v).zoneUsed = s.zoneUsed ∧ (s.putHealth v).clean = s.clean :=
  ⟨rfl, rfl, rfl, rfl, rfl, rfl, rfl, rfl, rfl, rfl, rfl, rfl, rfl, rfl, rfl, rfl, rfl, rfl, rfl, rfl, rfl, rfl, rfl,
  rfl, rfl, rfl, rfl, rfl, rfl, rfl, rfl, rfl, rfl, rfl, rfl, rfl, rfl, rfl, rfl, rfl, rfl, rfl, rfl, rfl, rfl, rfl,
  rfl, rfl, rfl, rfl, rfl, rfl, rfl, rfl, rfl, rfl, rfl, rfl, rfl, rfl, rfl, rfl, rfl, rfl, rfl, rfl, rfl, rfl, rfl,
  rfl, rfl, rfl, rfl, rfl, rfl, rfl, rfl, rfl, rfl, rfl, rfl, rfl, rfl, rfl, rfl, rfl, rfl, rfl, rfl, rfl, rfl, rfl,
  rfl, rfl, rfl, rfl, rfl, rfl, rfl, rfl, rfl, rfl, rfl, rfl, rfl, rfl, rfl, rfl, rfl, rfl, rfl, rfl, rfl, rfl, rfl,
  rfl, rfl, rfl, rfl, rfl, rfl, rfl, rfl, rfl⟩

@[simp] theorem State.putHealth_health (s : State) (v : FMap W64) : (s.putHealth v).health = v := rfl

@[simp] theorem State.putQPend_frame (s : State) (v : List (Nat × QChange)) :
    (s.putQPend v).pending = s.pending ∧ (s.putQPend v).free = s.free ∧ (s.putQPend v).out = s.out ∧
    (s.putQPend v).boot = s.boot ∧ (s.putQPend v).tick = s.tick ∧ (s.putQPend v).win = s.win ∧
    (s.putQPend v).gap = s.gap ∧ (s.putQPend v).regs = s.regs ∧ (s.putQPend v).regPend = s.regPend ∧
    (s.putQPend v).cores = s.cores ∧ (s.putQPend v).cluster = s.cluster ∧ (s.putQPend v).tun = s.tun ∧
    (s.putQPend v).tunBufs = s.tunBufs ∧ (s.putQPend v).tunMin = s.tunMin ∧ (s.putQPend v).tunMinPend = s.tunMinPend ∧
    (s.putQPend v).sramErr = s.sramErr ∧ (s.putQPend v).heldBack = s.heldBack ∧ (s.putQPend v).rtHit = s.rtHit ∧
    (s.putQPend v).rtClock = s.rtClock ∧ (s.putQPend v).rtUntracked = s.rtUntracked ∧ (s.putQPend v).dram = s.dram ∧
    (s.putQPend v).dr = s.dr ∧ (s.putQPend v).poison = s.poison ∧ (s.putQPend v).ingot = s.ingot ∧
    (s.putQPend v).nor = s.nor ∧ (s.putQPend v).norUnk = s.norUnk ∧ (s.putQPend v).pat = s.pat ∧
    (s.putQPend v).tdly = s.tdly ∧ (s.putQPend v).scrub = s.scrub ∧ (s.putQPend v).fbuf = s.fbuf ∧
    (s.putQPend v).rings = s.rings ∧ (s.putQPend v).haz = s.haz ∧ (s.putQPend v).marks = s.marks ∧
    (s.putQPend v).wsnFloor = s.wsnFloor ∧ (s.putQPend v).health = s.health ∧ (s.putQPend v).reqs = s.reqs ∧
    (s.putQPend v).aborts = s.aborts ∧ (s.putQPend v).gateShut = s.gateShut ∧ (s.putQPend v).sqs = s.sqs ∧
    (s.putQPend v).cqs = s.cqs ∧ (s.putQPend v).cmds = s.cmds ∧ (s.putQPend v).resets = s.resets ∧
    (s.putQPend v).ctrls = s.ctrls ∧ (s.putQPend v).arbs = s.arbs ∧ (s.putQPend v).credit = s.credit ∧
    (s.putQPend v).taken = s.taken ∧ (s.putQPend v).fetchLeft = s.fetchLeft ∧ (s.putQPend v).rotLast = s.rotLast ∧
    (s.putQPend v).rotFirst = s.rotFirst ∧ (s.putQPend v).hazStall = s.hazStall ∧ (s.putQPend v).span = s.span ∧
    (s.putQPend v).spanOut = s.spanOut ∧ (s.putQPend v).spanIn = s.spanIn ∧ (s.putQPend v).resOut = s.resOut ∧
    (s.putQPend v).jobs = s.jobs ∧ (s.putQPend v).finishing = s.finishing ∧ (s.putQPend v).greads = s.greads ∧
    (s.putQPend v).spanNum = s.spanNum ∧ (s.putQPend v).spanArr = s.spanArr ∧ (s.putQPend v).dups = s.dups ∧
    (s.putQPend v).dupGen = s.dupGen ∧ (s.putQPend v).rlogPos = s.rlogPos ∧ (s.putQPend v).members = s.members ∧
    (s.putQPend v).peerVia = s.peerVia ∧ (s.putQPend v).groups = s.groups ∧ (s.putQPend v).peerBound = s.peerBound ∧
    (s.putQPend v).returned = s.returned ∧ (s.putQPend v).lostRanges = s.lostRanges ∧ (s.putQPend v).wmap = s.wmap ∧
    (s.putQPend v).wfin = s.wfin ∧ (s.putQPend v).wheld = s.wheld ∧ (s.putQPend v).preserve = s.preserve ∧
    (s.putQPend v).kept = s.kept ∧ (s.putQPend v).metaOpen = s.metaOpen ∧ (s.putQPend v).portA = s.portA ∧
    (s.putQPend v).restartDue = s.restartDue ∧ (s.putQPend v).pings = s.pings ∧ (s.putQPend v).chain = s.chain ∧
    (s.putQPend v).position = s.position ∧ (s.putQPend v).power = s.power ∧ (s.putQPend v).powerOp = s.powerOp ∧
    (s.putQPend v).fsn = s.fsn ∧ (s.putQPend v).ns = s.ns ∧ (s.putQPend v).volCap = s.volCap ∧
    (s.putQPend v).rsv = s.rsv ∧ (s.putQPend v).tokCount = s.tokCount ∧ (s.putQPend v).fullZones = s.fullZones ∧
    (s.putQPend v).fam = s.fam ∧ (s.putQPend v).params = s.params ∧ (s.putQPend v).alm = s.alm ∧
    (s.putQPend v).domeEntry = s.domeEntry ∧ (s.putQPend v).domeWake = s.domeWake ∧
    (s.putQPend v).domeAgreed = s.domeAgreed ∧ (s.putQPend v).readAt = s.readAt ∧
    (s.putQPend v).sensorFail = s.sensorFail ∧ (s.putQPend v).tripCount = s.tripCount ∧ (s.putQPend v).rise = s.rise ∧
    (s.putQPend v).stopped = s.stopped ∧ (s.putQPend v).coolSince = s.coolSince ∧ (s.putQPend v).events = s.events ∧
    (s.putQPend v).dies = s.dies ∧ (s.putQPend v).chans = s.chans ∧ (s.putQPend v).accs = s.accs ∧
    (s.putQPend v).ldpc = s.ldpc ∧ (s.putQPend v).nand = s.nand ∧ (s.putQPend v).blkErased = s.blkErased ∧
    (s.putQPend v).vault = s.vault ∧ (s.putQPend v).sessions = s.sessions ∧
    (s.putQPend v).trngRestarts = s.trngRestarts ∧ (s.putQPend v).drbgLeft = s.drbgLeft ∧
    (s.putQPend v).imageId = s.imageId ∧ (s.putQPend v).verFuses = s.verFuses ∧ (s.putQPend v).nsInfo = s.nsInfo ∧
    (s.putQPend v).care = s.care ∧ (s.putQPend v).history = s.history ∧ (s.putQPend v).fw = s.fw ∧
    (s.putQPend v).trust = s.trust ∧ (s.putQPend v).fdp = s.fdp ∧ (s.putQPend v).lostGen = s.lostGen ∧
    (s.putQPend v).lostAgain = s.lostAgain ∧ (s.putQPend v).accum = s.accum ∧ (s.putQPend v).boundSent = s.boundSent ∧
    (s.putQPend v).zoneUsed = s.zoneUsed ∧ (s.putQPend v).clean = s.clean :=
  ⟨rfl, rfl, rfl, rfl, rfl, rfl, rfl, rfl, rfl, rfl, rfl, rfl, rfl, rfl, rfl, rfl, rfl, rfl, rfl, rfl, rfl, rfl, rfl,
  rfl, rfl, rfl, rfl, rfl, rfl, rfl, rfl, rfl, rfl, rfl, rfl, rfl, rfl, rfl, rfl, rfl, rfl, rfl, rfl, rfl, rfl, rfl,
  rfl, rfl, rfl, rfl, rfl, rfl, rfl, rfl, rfl, rfl, rfl, rfl, rfl, rfl, rfl, rfl, rfl, rfl, rfl, rfl, rfl, rfl, rfl,
  rfl, rfl, rfl, rfl, rfl, rfl, rfl, rfl, rfl, rfl, rfl, rfl, rfl, rfl, rfl, rfl, rfl, rfl, rfl, rfl, rfl, rfl, rfl,
  rfl, rfl, rfl, rfl, rfl, rfl, rfl, rfl, rfl, rfl, rfl, rfl, rfl, rfl, rfl, rfl, rfl, rfl, rfl, rfl, rfl, rfl, rfl,
  rfl, rfl, rfl, rfl, rfl, rfl, rfl, rfl, rfl⟩

@[simp] theorem State.putQPend_qPend (s : State) (v : List (Nat × QChange)) : (s.putQPend v).qPend = v := rfl

@[simp] theorem State.putReqs_frame (s : State) (v : List Req) :
    (s.putReqs v).pending = s.pending ∧ (s.putReqs v).free = s.free ∧ (s.putReqs v).out = s.out ∧
    (s.putReqs v).boot = s.boot ∧ (s.putReqs v).tick = s.tick ∧ (s.putReqs v).win = s.win ∧ (s.putReqs v).gap = s.gap ∧
    (s.putReqs v).regs = s.regs ∧ (s.putReqs v).regPend = s.regPend ∧ (s.putReqs v).cores = s.cores ∧
    (s.putReqs v).cluster = s.cluster ∧ (s.putReqs v).tun = s.tun ∧ (s.putReqs v).tunBufs = s.tunBufs ∧
    (s.putReqs v).tunMin = s.tunMin ∧ (s.putReqs v).tunMinPend = s.tunMinPend ∧ (s.putReqs v).sramErr = s.sramErr ∧
    (s.putReqs v).heldBack = s.heldBack ∧ (s.putReqs v).rtHit = s.rtHit ∧ (s.putReqs v).rtClock = s.rtClock ∧
    (s.putReqs v).rtUntracked = s.rtUntracked ∧ (s.putReqs v).dram = s.dram ∧ (s.putReqs v).dr = s.dr ∧
    (s.putReqs v).poison = s.poison ∧ (s.putReqs v).ingot = s.ingot ∧ (s.putReqs v).nor = s.nor ∧
    (s.putReqs v).norUnk = s.norUnk ∧ (s.putReqs v).pat = s.pat ∧ (s.putReqs v).tdly = s.tdly ∧
    (s.putReqs v).scrub = s.scrub ∧ (s.putReqs v).fbuf = s.fbuf ∧ (s.putReqs v).rings = s.rings ∧
    (s.putReqs v).haz = s.haz ∧ (s.putReqs v).marks = s.marks ∧ (s.putReqs v).wsnFloor = s.wsnFloor ∧
    (s.putReqs v).health = s.health ∧ (s.putReqs v).qPend = s.qPend ∧ (s.putReqs v).aborts = s.aborts ∧
    (s.putReqs v).gateShut = s.gateShut ∧ (s.putReqs v).sqs = s.sqs ∧ (s.putReqs v).cqs = s.cqs ∧
    (s.putReqs v).cmds = s.cmds ∧ (s.putReqs v).resets = s.resets ∧ (s.putReqs v).ctrls = s.ctrls ∧
    (s.putReqs v).arbs = s.arbs ∧ (s.putReqs v).credit = s.credit ∧ (s.putReqs v).taken = s.taken ∧
    (s.putReqs v).fetchLeft = s.fetchLeft ∧ (s.putReqs v).rotLast = s.rotLast ∧ (s.putReqs v).rotFirst = s.rotFirst ∧
    (s.putReqs v).hazStall = s.hazStall ∧ (s.putReqs v).span = s.span ∧ (s.putReqs v).spanOut = s.spanOut ∧
    (s.putReqs v).spanIn = s.spanIn ∧ (s.putReqs v).resOut = s.resOut ∧ (s.putReqs v).jobs = s.jobs ∧
    (s.putReqs v).finishing = s.finishing ∧ (s.putReqs v).greads = s.greads ∧ (s.putReqs v).spanNum = s.spanNum ∧
    (s.putReqs v).spanArr = s.spanArr ∧ (s.putReqs v).dups = s.dups ∧ (s.putReqs v).dupGen = s.dupGen ∧
    (s.putReqs v).rlogPos = s.rlogPos ∧ (s.putReqs v).members = s.members ∧ (s.putReqs v).peerVia = s.peerVia ∧
    (s.putReqs v).groups = s.groups ∧ (s.putReqs v).peerBound = s.peerBound ∧ (s.putReqs v).returned = s.returned ∧
    (s.putReqs v).lostRanges = s.lostRanges ∧ (s.putReqs v).wmap = s.wmap ∧ (s.putReqs v).wfin = s.wfin ∧
    (s.putReqs v).wheld = s.wheld ∧ (s.putReqs v).preserve = s.preserve ∧ (s.putReqs v).kept = s.kept ∧
    (s.putReqs v).metaOpen = s.metaOpen ∧ (s.putReqs v).portA = s.portA ∧ (s.putReqs v).restartDue = s.restartDue ∧
    (s.putReqs v).pings = s.pings ∧ (s.putReqs v).chain = s.chain ∧ (s.putReqs v).position = s.position ∧
    (s.putReqs v).power = s.power ∧ (s.putReqs v).powerOp = s.powerOp ∧ (s.putReqs v).fsn = s.fsn ∧
    (s.putReqs v).ns = s.ns ∧ (s.putReqs v).volCap = s.volCap ∧ (s.putReqs v).rsv = s.rsv ∧
    (s.putReqs v).tokCount = s.tokCount ∧ (s.putReqs v).fullZones = s.fullZones ∧ (s.putReqs v).fam = s.fam ∧
    (s.putReqs v).params = s.params ∧ (s.putReqs v).alm = s.alm ∧ (s.putReqs v).domeEntry = s.domeEntry ∧
    (s.putReqs v).domeWake = s.domeWake ∧ (s.putReqs v).domeAgreed = s.domeAgreed ∧ (s.putReqs v).readAt = s.readAt ∧
    (s.putReqs v).sensorFail = s.sensorFail ∧ (s.putReqs v).tripCount = s.tripCount ∧ (s.putReqs v).rise = s.rise ∧
    (s.putReqs v).stopped = s.stopped ∧ (s.putReqs v).coolSince = s.coolSince ∧ (s.putReqs v).events = s.events ∧
    (s.putReqs v).dies = s.dies ∧ (s.putReqs v).chans = s.chans ∧ (s.putReqs v).accs = s.accs ∧
    (s.putReqs v).ldpc = s.ldpc ∧ (s.putReqs v).nand = s.nand ∧ (s.putReqs v).blkErased = s.blkErased ∧
    (s.putReqs v).vault = s.vault ∧ (s.putReqs v).sessions = s.sessions ∧ (s.putReqs v).trngRestarts = s.trngRestarts ∧
    (s.putReqs v).drbgLeft = s.drbgLeft ∧ (s.putReqs v).imageId = s.imageId ∧ (s.putReqs v).verFuses = s.verFuses ∧
    (s.putReqs v).nsInfo = s.nsInfo ∧ (s.putReqs v).care = s.care ∧ (s.putReqs v).history = s.history ∧
    (s.putReqs v).fw = s.fw ∧ (s.putReqs v).trust = s.trust ∧ (s.putReqs v).fdp = s.fdp ∧
    (s.putReqs v).lostGen = s.lostGen ∧ (s.putReqs v).lostAgain = s.lostAgain ∧ (s.putReqs v).accum = s.accum ∧
    (s.putReqs v).boundSent = s.boundSent ∧ (s.putReqs v).zoneUsed = s.zoneUsed ∧ (s.putReqs v).clean = s.clean :=
  ⟨rfl, rfl, rfl, rfl, rfl, rfl, rfl, rfl, rfl, rfl, rfl, rfl, rfl, rfl, rfl, rfl, rfl, rfl, rfl, rfl, rfl, rfl, rfl,
  rfl, rfl, rfl, rfl, rfl, rfl, rfl, rfl, rfl, rfl, rfl, rfl, rfl, rfl, rfl, rfl, rfl, rfl, rfl, rfl, rfl, rfl, rfl,
  rfl, rfl, rfl, rfl, rfl, rfl, rfl, rfl, rfl, rfl, rfl, rfl, rfl, rfl, rfl, rfl, rfl, rfl, rfl, rfl, rfl, rfl, rfl,
  rfl, rfl, rfl, rfl, rfl, rfl, rfl, rfl, rfl, rfl, rfl, rfl, rfl, rfl, rfl, rfl, rfl, rfl, rfl, rfl, rfl, rfl, rfl,
  rfl, rfl, rfl, rfl, rfl, rfl, rfl, rfl, rfl, rfl, rfl, rfl, rfl, rfl, rfl, rfl, rfl, rfl, rfl, rfl, rfl, rfl, rfl,
  rfl, rfl, rfl, rfl, rfl, rfl, rfl, rfl, rfl⟩

@[simp] theorem State.putReqs_reqs (s : State) (v : List Req) : (s.putReqs v).reqs = v := rfl

@[simp] theorem State.putAborts_frame (s : State) (v : List (W64 × W64)) :
    (s.putAborts v).pending = s.pending ∧ (s.putAborts v).free = s.free ∧ (s.putAborts v).out = s.out ∧
    (s.putAborts v).boot = s.boot ∧ (s.putAborts v).tick = s.tick ∧ (s.putAborts v).win = s.win ∧
    (s.putAborts v).gap = s.gap ∧ (s.putAborts v).regs = s.regs ∧ (s.putAborts v).regPend = s.regPend ∧
    (s.putAborts v).cores = s.cores ∧ (s.putAborts v).cluster = s.cluster ∧ (s.putAborts v).tun = s.tun ∧
    (s.putAborts v).tunBufs = s.tunBufs ∧ (s.putAborts v).tunMin = s.tunMin ∧ (s.putAborts v).tunMinPend = s.tunMinPend ∧
    (s.putAborts v).sramErr = s.sramErr ∧ (s.putAborts v).heldBack = s.heldBack ∧ (s.putAborts v).rtHit = s.rtHit ∧
    (s.putAborts v).rtClock = s.rtClock ∧ (s.putAborts v).rtUntracked = s.rtUntracked ∧ (s.putAborts v).dram = s.dram ∧
    (s.putAborts v).dr = s.dr ∧ (s.putAborts v).poison = s.poison ∧ (s.putAborts v).ingot = s.ingot ∧
    (s.putAborts v).nor = s.nor ∧ (s.putAborts v).norUnk = s.norUnk ∧ (s.putAborts v).pat = s.pat ∧
    (s.putAborts v).tdly = s.tdly ∧ (s.putAborts v).scrub = s.scrub ∧ (s.putAborts v).fbuf = s.fbuf ∧
    (s.putAborts v).rings = s.rings ∧ (s.putAborts v).haz = s.haz ∧ (s.putAborts v).marks = s.marks ∧
    (s.putAborts v).wsnFloor = s.wsnFloor ∧ (s.putAborts v).health = s.health ∧ (s.putAborts v).qPend = s.qPend ∧
    (s.putAborts v).reqs = s.reqs ∧ (s.putAborts v).gateShut = s.gateShut ∧ (s.putAborts v).sqs = s.sqs ∧
    (s.putAborts v).cqs = s.cqs ∧ (s.putAborts v).cmds = s.cmds ∧ (s.putAborts v).resets = s.resets ∧
    (s.putAborts v).ctrls = s.ctrls ∧ (s.putAborts v).arbs = s.arbs ∧ (s.putAborts v).credit = s.credit ∧
    (s.putAborts v).taken = s.taken ∧ (s.putAborts v).fetchLeft = s.fetchLeft ∧ (s.putAborts v).rotLast = s.rotLast ∧
    (s.putAborts v).rotFirst = s.rotFirst ∧ (s.putAborts v).hazStall = s.hazStall ∧ (s.putAborts v).span = s.span ∧
    (s.putAborts v).spanOut = s.spanOut ∧ (s.putAborts v).spanIn = s.spanIn ∧ (s.putAborts v).resOut = s.resOut ∧
    (s.putAborts v).jobs = s.jobs ∧ (s.putAborts v).finishing = s.finishing ∧ (s.putAborts v).greads = s.greads ∧
    (s.putAborts v).spanNum = s.spanNum ∧ (s.putAborts v).spanArr = s.spanArr ∧ (s.putAborts v).dups = s.dups ∧
    (s.putAborts v).dupGen = s.dupGen ∧ (s.putAborts v).rlogPos = s.rlogPos ∧ (s.putAborts v).members = s.members ∧
    (s.putAborts v).peerVia = s.peerVia ∧ (s.putAborts v).groups = s.groups ∧ (s.putAborts v).peerBound = s.peerBound ∧
    (s.putAborts v).returned = s.returned ∧ (s.putAborts v).lostRanges = s.lostRanges ∧ (s.putAborts v).wmap = s.wmap ∧
    (s.putAborts v).wfin = s.wfin ∧ (s.putAborts v).wheld = s.wheld ∧ (s.putAborts v).preserve = s.preserve ∧
    (s.putAborts v).kept = s.kept ∧ (s.putAborts v).metaOpen = s.metaOpen ∧ (s.putAborts v).portA = s.portA ∧
    (s.putAborts v).restartDue = s.restartDue ∧ (s.putAborts v).pings = s.pings ∧ (s.putAborts v).chain = s.chain ∧
    (s.putAborts v).position = s.position ∧ (s.putAborts v).power = s.power ∧ (s.putAborts v).powerOp = s.powerOp ∧
    (s.putAborts v).fsn = s.fsn ∧ (s.putAborts v).ns = s.ns ∧ (s.putAborts v).volCap = s.volCap ∧
    (s.putAborts v).rsv = s.rsv ∧ (s.putAborts v).tokCount = s.tokCount ∧ (s.putAborts v).fullZones = s.fullZones ∧
    (s.putAborts v).fam = s.fam ∧ (s.putAborts v).params = s.params ∧ (s.putAborts v).alm = s.alm ∧
    (s.putAborts v).domeEntry = s.domeEntry ∧ (s.putAborts v).domeWake = s.domeWake ∧
    (s.putAborts v).domeAgreed = s.domeAgreed ∧ (s.putAborts v).readAt = s.readAt ∧
    (s.putAborts v).sensorFail = s.sensorFail ∧ (s.putAborts v).tripCount = s.tripCount ∧ (s.putAborts v).rise = s.rise ∧
    (s.putAborts v).stopped = s.stopped ∧ (s.putAborts v).coolSince = s.coolSince ∧ (s.putAborts v).events = s.events ∧
    (s.putAborts v).dies = s.dies ∧ (s.putAborts v).chans = s.chans ∧ (s.putAborts v).accs = s.accs ∧
    (s.putAborts v).ldpc = s.ldpc ∧ (s.putAborts v).nand = s.nand ∧ (s.putAborts v).blkErased = s.blkErased ∧
    (s.putAborts v).vault = s.vault ∧ (s.putAborts v).sessions = s.sessions ∧
    (s.putAborts v).trngRestarts = s.trngRestarts ∧ (s.putAborts v).drbgLeft = s.drbgLeft ∧
    (s.putAborts v).imageId = s.imageId ∧ (s.putAborts v).verFuses = s.verFuses ∧ (s.putAborts v).nsInfo = s.nsInfo ∧
    (s.putAborts v).care = s.care ∧ (s.putAborts v).history = s.history ∧ (s.putAborts v).fw = s.fw ∧
    (s.putAborts v).trust = s.trust ∧ (s.putAborts v).fdp = s.fdp ∧ (s.putAborts v).lostGen = s.lostGen ∧
    (s.putAborts v).lostAgain = s.lostAgain ∧ (s.putAborts v).accum = s.accum ∧ (s.putAborts v).boundSent = s.boundSent ∧
    (s.putAborts v).zoneUsed = s.zoneUsed ∧ (s.putAborts v).clean = s.clean :=
  ⟨rfl, rfl, rfl, rfl, rfl, rfl, rfl, rfl, rfl, rfl, rfl, rfl, rfl, rfl, rfl, rfl, rfl, rfl, rfl, rfl, rfl, rfl, rfl,
  rfl, rfl, rfl, rfl, rfl, rfl, rfl, rfl, rfl, rfl, rfl, rfl, rfl, rfl, rfl, rfl, rfl, rfl, rfl, rfl, rfl, rfl, rfl,
  rfl, rfl, rfl, rfl, rfl, rfl, rfl, rfl, rfl, rfl, rfl, rfl, rfl, rfl, rfl, rfl, rfl, rfl, rfl, rfl, rfl, rfl, rfl,
  rfl, rfl, rfl, rfl, rfl, rfl, rfl, rfl, rfl, rfl, rfl, rfl, rfl, rfl, rfl, rfl, rfl, rfl, rfl, rfl, rfl, rfl, rfl,
  rfl, rfl, rfl, rfl, rfl, rfl, rfl, rfl, rfl, rfl, rfl, rfl, rfl, rfl, rfl, rfl, rfl, rfl, rfl, rfl, rfl, rfl, rfl,
  rfl, rfl, rfl, rfl, rfl, rfl, rfl, rfl, rfl⟩

@[simp] theorem State.putAborts_aborts (s : State) (v : List (W64 × W64)) : (s.putAborts v).aborts = v := rfl

@[simp] theorem State.putGateShut_frame (s : State) (v : Bool) :
    (s.putGateShut v).pending = s.pending ∧ (s.putGateShut v).free = s.free ∧ (s.putGateShut v).out = s.out ∧
    (s.putGateShut v).boot = s.boot ∧ (s.putGateShut v).tick = s.tick ∧ (s.putGateShut v).win = s.win ∧
    (s.putGateShut v).gap = s.gap ∧ (s.putGateShut v).regs = s.regs ∧ (s.putGateShut v).regPend = s.regPend ∧
    (s.putGateShut v).cores = s.cores ∧ (s.putGateShut v).cluster = s.cluster ∧ (s.putGateShut v).tun = s.tun ∧
    (s.putGateShut v).tunBufs = s.tunBufs ∧ (s.putGateShut v).tunMin = s.tunMin ∧
    (s.putGateShut v).tunMinPend = s.tunMinPend ∧ (s.putGateShut v).sramErr = s.sramErr ∧
    (s.putGateShut v).heldBack = s.heldBack ∧ (s.putGateShut v).rtHit = s.rtHit ∧ (s.putGateShut v).rtClock = s.rtClock ∧
    (s.putGateShut v).rtUntracked = s.rtUntracked ∧ (s.putGateShut v).dram = s.dram ∧ (s.putGateShut v).dr = s.dr ∧
    (s.putGateShut v).poison = s.poison ∧ (s.putGateShut v).ingot = s.ingot ∧ (s.putGateShut v).nor = s.nor ∧
    (s.putGateShut v).norUnk = s.norUnk ∧ (s.putGateShut v).pat = s.pat ∧ (s.putGateShut v).tdly = s.tdly ∧
    (s.putGateShut v).scrub = s.scrub ∧ (s.putGateShut v).fbuf = s.fbuf ∧ (s.putGateShut v).rings = s.rings ∧
    (s.putGateShut v).haz = s.haz ∧ (s.putGateShut v).marks = s.marks ∧ (s.putGateShut v).wsnFloor = s.wsnFloor ∧
    (s.putGateShut v).health = s.health ∧ (s.putGateShut v).qPend = s.qPend ∧ (s.putGateShut v).reqs = s.reqs ∧
    (s.putGateShut v).aborts = s.aborts ∧ (s.putGateShut v).sqs = s.sqs ∧ (s.putGateShut v).cqs = s.cqs ∧
    (s.putGateShut v).cmds = s.cmds ∧ (s.putGateShut v).resets = s.resets ∧ (s.putGateShut v).ctrls = s.ctrls ∧
    (s.putGateShut v).arbs = s.arbs ∧ (s.putGateShut v).credit = s.credit ∧ (s.putGateShut v).taken = s.taken ∧
    (s.putGateShut v).fetchLeft = s.fetchLeft ∧ (s.putGateShut v).rotLast = s.rotLast ∧
    (s.putGateShut v).rotFirst = s.rotFirst ∧ (s.putGateShut v).hazStall = s.hazStall ∧ (s.putGateShut v).span = s.span ∧
    (s.putGateShut v).spanOut = s.spanOut ∧ (s.putGateShut v).spanIn = s.spanIn ∧ (s.putGateShut v).resOut = s.resOut ∧
    (s.putGateShut v).jobs = s.jobs ∧ (s.putGateShut v).finishing = s.finishing ∧ (s.putGateShut v).greads = s.greads ∧
    (s.putGateShut v).spanNum = s.spanNum ∧ (s.putGateShut v).spanArr = s.spanArr ∧ (s.putGateShut v).dups = s.dups ∧
    (s.putGateShut v).dupGen = s.dupGen ∧ (s.putGateShut v).rlogPos = s.rlogPos ∧ (s.putGateShut v).members = s.members ∧
    (s.putGateShut v).peerVia = s.peerVia ∧ (s.putGateShut v).groups = s.groups ∧
    (s.putGateShut v).peerBound = s.peerBound ∧ (s.putGateShut v).returned = s.returned ∧
    (s.putGateShut v).lostRanges = s.lostRanges ∧ (s.putGateShut v).wmap = s.wmap ∧ (s.putGateShut v).wfin = s.wfin ∧
    (s.putGateShut v).wheld = s.wheld ∧ (s.putGateShut v).preserve = s.preserve ∧ (s.putGateShut v).kept = s.kept ∧
    (s.putGateShut v).metaOpen = s.metaOpen ∧ (s.putGateShut v).portA = s.portA ∧
    (s.putGateShut v).restartDue = s.restartDue ∧ (s.putGateShut v).pings = s.pings ∧ (s.putGateShut v).chain = s.chain ∧
    (s.putGateShut v).position = s.position ∧ (s.putGateShut v).power = s.power ∧ (s.putGateShut v).powerOp = s.powerOp ∧
    (s.putGateShut v).fsn = s.fsn ∧ (s.putGateShut v).ns = s.ns ∧ (s.putGateShut v).volCap = s.volCap ∧
    (s.putGateShut v).rsv = s.rsv ∧ (s.putGateShut v).tokCount = s.tokCount ∧ (s.putGateShut v).fullZones = s.fullZones ∧
    (s.putGateShut v).fam = s.fam ∧ (s.putGateShut v).params = s.params ∧ (s.putGateShut v).alm = s.alm ∧
    (s.putGateShut v).domeEntry = s.domeEntry ∧ (s.putGateShut v).domeWake = s.domeWake ∧
    (s.putGateShut v).domeAgreed = s.domeAgreed ∧ (s.putGateShut v).readAt = s.readAt ∧
    (s.putGateShut v).sensorFail = s.sensorFail ∧ (s.putGateShut v).tripCount = s.tripCount ∧
    (s.putGateShut v).rise = s.rise ∧ (s.putGateShut v).stopped = s.stopped ∧ (s.putGateShut v).coolSince = s.coolSince ∧
    (s.putGateShut v).events = s.events ∧ (s.putGateShut v).dies = s.dies ∧ (s.putGateShut v).chans = s.chans ∧
    (s.putGateShut v).accs = s.accs ∧ (s.putGateShut v).ldpc = s.ldpc ∧ (s.putGateShut v).nand = s.nand ∧
    (s.putGateShut v).blkErased = s.blkErased ∧ (s.putGateShut v).vault = s.vault ∧
    (s.putGateShut v).sessions = s.sessions ∧ (s.putGateShut v).trngRestarts = s.trngRestarts ∧
    (s.putGateShut v).drbgLeft = s.drbgLeft ∧ (s.putGateShut v).imageId = s.imageId ∧
    (s.putGateShut v).verFuses = s.verFuses ∧ (s.putGateShut v).nsInfo = s.nsInfo ∧ (s.putGateShut v).care = s.care ∧
    (s.putGateShut v).history = s.history ∧ (s.putGateShut v).fw = s.fw ∧ (s.putGateShut v).trust = s.trust ∧
    (s.putGateShut v).fdp = s.fdp ∧ (s.putGateShut v).lostGen = s.lostGen ∧ (s.putGateShut v).lostAgain = s.lostAgain ∧
    (s.putGateShut v).accum = s.accum ∧ (s.putGateShut v).boundSent = s.boundSent ∧
    (s.putGateShut v).zoneUsed = s.zoneUsed ∧ (s.putGateShut v).clean = s.clean :=
  ⟨rfl, rfl, rfl, rfl, rfl, rfl, rfl, rfl, rfl, rfl, rfl, rfl, rfl, rfl, rfl, rfl, rfl, rfl, rfl, rfl, rfl, rfl, rfl,
  rfl, rfl, rfl, rfl, rfl, rfl, rfl, rfl, rfl, rfl, rfl, rfl, rfl, rfl, rfl, rfl, rfl, rfl, rfl, rfl, rfl, rfl, rfl,
  rfl, rfl, rfl, rfl, rfl, rfl, rfl, rfl, rfl, rfl, rfl, rfl, rfl, rfl, rfl, rfl, rfl, rfl, rfl, rfl, rfl, rfl, rfl,
  rfl, rfl, rfl, rfl, rfl, rfl, rfl, rfl, rfl, rfl, rfl, rfl, rfl, rfl, rfl, rfl, rfl, rfl, rfl, rfl, rfl, rfl, rfl,
  rfl, rfl, rfl, rfl, rfl, rfl, rfl, rfl, rfl, rfl, rfl, rfl, rfl, rfl, rfl, rfl, rfl, rfl, rfl, rfl, rfl, rfl, rfl,
  rfl, rfl, rfl, rfl, rfl, rfl, rfl, rfl, rfl⟩

@[simp] theorem State.putGateShut_gateShut (s : State) (v : Bool) : (s.putGateShut v).gateShut = v := rfl

@[simp] theorem State.putSqs_frame (s : State) (v : FMap (Option SQ)) :
    (s.putSqs v).pending = s.pending ∧ (s.putSqs v).free = s.free ∧ (s.putSqs v).out = s.out ∧ (s.putSqs v).boot = s.boot ∧
    (s.putSqs v).tick = s.tick ∧ (s.putSqs v).win = s.win ∧ (s.putSqs v).gap = s.gap ∧ (s.putSqs v).regs = s.regs ∧
    (s.putSqs v).regPend = s.regPend ∧ (s.putSqs v).cores = s.cores ∧ (s.putSqs v).cluster = s.cluster ∧
    (s.putSqs v).tun = s.tun ∧ (s.putSqs v).tunBufs = s.tunBufs ∧ (s.putSqs v).tunMin = s.tunMin ∧
    (s.putSqs v).tunMinPend = s.tunMinPend ∧ (s.putSqs v).sramErr = s.sramErr ∧ (s.putSqs v).heldBack = s.heldBack ∧
    (s.putSqs v).rtHit = s.rtHit ∧ (s.putSqs v).rtClock = s.rtClock ∧ (s.putSqs v).rtUntracked = s.rtUntracked ∧
    (s.putSqs v).dram = s.dram ∧ (s.putSqs v).dr = s.dr ∧ (s.putSqs v).poison = s.poison ∧ (s.putSqs v).ingot = s.ingot ∧
    (s.putSqs v).nor = s.nor ∧ (s.putSqs v).norUnk = s.norUnk ∧ (s.putSqs v).pat = s.pat ∧ (s.putSqs v).tdly = s.tdly ∧
    (s.putSqs v).scrub = s.scrub ∧ (s.putSqs v).fbuf = s.fbuf ∧ (s.putSqs v).rings = s.rings ∧ (s.putSqs v).haz = s.haz ∧
    (s.putSqs v).marks = s.marks ∧ (s.putSqs v).wsnFloor = s.wsnFloor ∧ (s.putSqs v).health = s.health ∧
    (s.putSqs v).qPend = s.qPend ∧ (s.putSqs v).reqs = s.reqs ∧ (s.putSqs v).aborts = s.aborts ∧
    (s.putSqs v).gateShut = s.gateShut ∧ (s.putSqs v).cqs = s.cqs ∧ (s.putSqs v).cmds = s.cmds ∧
    (s.putSqs v).resets = s.resets ∧ (s.putSqs v).ctrls = s.ctrls ∧ (s.putSqs v).arbs = s.arbs ∧
    (s.putSqs v).credit = s.credit ∧ (s.putSqs v).taken = s.taken ∧ (s.putSqs v).fetchLeft = s.fetchLeft ∧
    (s.putSqs v).rotLast = s.rotLast ∧ (s.putSqs v).rotFirst = s.rotFirst ∧ (s.putSqs v).hazStall = s.hazStall ∧
    (s.putSqs v).span = s.span ∧ (s.putSqs v).spanOut = s.spanOut ∧ (s.putSqs v).spanIn = s.spanIn ∧
    (s.putSqs v).resOut = s.resOut ∧ (s.putSqs v).jobs = s.jobs ∧ (s.putSqs v).finishing = s.finishing ∧
    (s.putSqs v).greads = s.greads ∧ (s.putSqs v).spanNum = s.spanNum ∧ (s.putSqs v).spanArr = s.spanArr ∧
    (s.putSqs v).dups = s.dups ∧ (s.putSqs v).dupGen = s.dupGen ∧ (s.putSqs v).rlogPos = s.rlogPos ∧
    (s.putSqs v).members = s.members ∧ (s.putSqs v).peerVia = s.peerVia ∧ (s.putSqs v).groups = s.groups ∧
    (s.putSqs v).peerBound = s.peerBound ∧ (s.putSqs v).returned = s.returned ∧ (s.putSqs v).lostRanges = s.lostRanges ∧
    (s.putSqs v).wmap = s.wmap ∧ (s.putSqs v).wfin = s.wfin ∧ (s.putSqs v).wheld = s.wheld ∧
    (s.putSqs v).preserve = s.preserve ∧ (s.putSqs v).kept = s.kept ∧ (s.putSqs v).metaOpen = s.metaOpen ∧
    (s.putSqs v).portA = s.portA ∧ (s.putSqs v).restartDue = s.restartDue ∧ (s.putSqs v).pings = s.pings ∧
    (s.putSqs v).chain = s.chain ∧ (s.putSqs v).position = s.position ∧ (s.putSqs v).power = s.power ∧
    (s.putSqs v).powerOp = s.powerOp ∧ (s.putSqs v).fsn = s.fsn ∧ (s.putSqs v).ns = s.ns ∧
    (s.putSqs v).volCap = s.volCap ∧ (s.putSqs v).rsv = s.rsv ∧ (s.putSqs v).tokCount = s.tokCount ∧
    (s.putSqs v).fullZones = s.fullZones ∧ (s.putSqs v).fam = s.fam ∧ (s.putSqs v).params = s.params ∧
    (s.putSqs v).alm = s.alm ∧ (s.putSqs v).domeEntry = s.domeEntry ∧ (s.putSqs v).domeWake = s.domeWake ∧
    (s.putSqs v).domeAgreed = s.domeAgreed ∧ (s.putSqs v).readAt = s.readAt ∧ (s.putSqs v).sensorFail = s.sensorFail ∧
    (s.putSqs v).tripCount = s.tripCount ∧ (s.putSqs v).rise = s.rise ∧ (s.putSqs v).stopped = s.stopped ∧
    (s.putSqs v).coolSince = s.coolSince ∧ (s.putSqs v).events = s.events ∧ (s.putSqs v).dies = s.dies ∧
    (s.putSqs v).chans = s.chans ∧ (s.putSqs v).accs = s.accs ∧ (s.putSqs v).ldpc = s.ldpc ∧ (s.putSqs v).nand = s.nand ∧
    (s.putSqs v).blkErased = s.blkErased ∧ (s.putSqs v).vault = s.vault ∧ (s.putSqs v).sessions = s.sessions ∧
    (s.putSqs v).trngRestarts = s.trngRestarts ∧ (s.putSqs v).drbgLeft = s.drbgLeft ∧ (s.putSqs v).imageId = s.imageId ∧
    (s.putSqs v).verFuses = s.verFuses ∧ (s.putSqs v).nsInfo = s.nsInfo ∧ (s.putSqs v).care = s.care ∧
    (s.putSqs v).history = s.history ∧ (s.putSqs v).fw = s.fw ∧ (s.putSqs v).trust = s.trust ∧ (s.putSqs v).fdp = s.fdp ∧
    (s.putSqs v).lostGen = s.lostGen ∧ (s.putSqs v).lostAgain = s.lostAgain ∧ (s.putSqs v).accum = s.accum ∧
    (s.putSqs v).boundSent = s.boundSent ∧ (s.putSqs v).zoneUsed = s.zoneUsed ∧ (s.putSqs v).clean = s.clean :=
  ⟨rfl, rfl, rfl, rfl, rfl, rfl, rfl, rfl, rfl, rfl, rfl, rfl, rfl, rfl, rfl, rfl, rfl, rfl, rfl, rfl, rfl, rfl, rfl,
  rfl, rfl, rfl, rfl, rfl, rfl, rfl, rfl, rfl, rfl, rfl, rfl, rfl, rfl, rfl, rfl, rfl, rfl, rfl, rfl, rfl, rfl, rfl,
  rfl, rfl, rfl, rfl, rfl, rfl, rfl, rfl, rfl, rfl, rfl, rfl, rfl, rfl, rfl, rfl, rfl, rfl, rfl, rfl, rfl, rfl, rfl,
  rfl, rfl, rfl, rfl, rfl, rfl, rfl, rfl, rfl, rfl, rfl, rfl, rfl, rfl, rfl, rfl, rfl, rfl, rfl, rfl, rfl, rfl, rfl,
  rfl, rfl, rfl, rfl, rfl, rfl, rfl, rfl, rfl, rfl, rfl, rfl, rfl, rfl, rfl, rfl, rfl, rfl, rfl, rfl, rfl, rfl, rfl,
  rfl, rfl, rfl, rfl, rfl, rfl, rfl, rfl, rfl⟩

@[simp] theorem State.putSqs_sqs (s : State) (v : FMap (Option SQ)) : (s.putSqs v).sqs = v := rfl

@[simp] theorem State.putCqs_frame (s : State) (v : FMap (Option CQ)) :
    (s.putCqs v).pending = s.pending ∧ (s.putCqs v).free = s.free ∧ (s.putCqs v).out = s.out ∧ (s.putCqs v).boot = s.boot ∧
    (s.putCqs v).tick = s.tick ∧ (s.putCqs v).win = s.win ∧ (s.putCqs v).gap = s.gap ∧ (s.putCqs v).regs = s.regs ∧
    (s.putCqs v).regPend = s.regPend ∧ (s.putCqs v).cores = s.cores ∧ (s.putCqs v).cluster = s.cluster ∧
    (s.putCqs v).tun = s.tun ∧ (s.putCqs v).tunBufs = s.tunBufs ∧ (s.putCqs v).tunMin = s.tunMin ∧
    (s.putCqs v).tunMinPend = s.tunMinPend ∧ (s.putCqs v).sramErr = s.sramErr ∧ (s.putCqs v).heldBack = s.heldBack ∧
    (s.putCqs v).rtHit = s.rtHit ∧ (s.putCqs v).rtClock = s.rtClock ∧ (s.putCqs v).rtUntracked = s.rtUntracked ∧
    (s.putCqs v).dram = s.dram ∧ (s.putCqs v).dr = s.dr ∧ (s.putCqs v).poison = s.poison ∧ (s.putCqs v).ingot = s.ingot ∧
    (s.putCqs v).nor = s.nor ∧ (s.putCqs v).norUnk = s.norUnk ∧ (s.putCqs v).pat = s.pat ∧ (s.putCqs v).tdly = s.tdly ∧
    (s.putCqs v).scrub = s.scrub ∧ (s.putCqs v).fbuf = s.fbuf ∧ (s.putCqs v).rings = s.rings ∧ (s.putCqs v).haz = s.haz ∧
    (s.putCqs v).marks = s.marks ∧ (s.putCqs v).wsnFloor = s.wsnFloor ∧ (s.putCqs v).health = s.health ∧
    (s.putCqs v).qPend = s.qPend ∧ (s.putCqs v).reqs = s.reqs ∧ (s.putCqs v).aborts = s.aborts ∧
    (s.putCqs v).gateShut = s.gateShut ∧ (s.putCqs v).sqs = s.sqs ∧ (s.putCqs v).cmds = s.cmds ∧
    (s.putCqs v).resets = s.resets ∧ (s.putCqs v).ctrls = s.ctrls ∧ (s.putCqs v).arbs = s.arbs ∧
    (s.putCqs v).credit = s.credit ∧ (s.putCqs v).taken = s.taken ∧ (s.putCqs v).fetchLeft = s.fetchLeft ∧
    (s.putCqs v).rotLast = s.rotLast ∧ (s.putCqs v).rotFirst = s.rotFirst ∧ (s.putCqs v).hazStall = s.hazStall ∧
    (s.putCqs v).span = s.span ∧ (s.putCqs v).spanOut = s.spanOut ∧ (s.putCqs v).spanIn = s.spanIn ∧
    (s.putCqs v).resOut = s.resOut ∧ (s.putCqs v).jobs = s.jobs ∧ (s.putCqs v).finishing = s.finishing ∧
    (s.putCqs v).greads = s.greads ∧ (s.putCqs v).spanNum = s.spanNum ∧ (s.putCqs v).spanArr = s.spanArr ∧
    (s.putCqs v).dups = s.dups ∧ (s.putCqs v).dupGen = s.dupGen ∧ (s.putCqs v).rlogPos = s.rlogPos ∧
    (s.putCqs v).members = s.members ∧ (s.putCqs v).peerVia = s.peerVia ∧ (s.putCqs v).groups = s.groups ∧
    (s.putCqs v).peerBound = s.peerBound ∧ (s.putCqs v).returned = s.returned ∧ (s.putCqs v).lostRanges = s.lostRanges ∧
    (s.putCqs v).wmap = s.wmap ∧ (s.putCqs v).wfin = s.wfin ∧ (s.putCqs v).wheld = s.wheld ∧
    (s.putCqs v).preserve = s.preserve ∧ (s.putCqs v).kept = s.kept ∧ (s.putCqs v).metaOpen = s.metaOpen ∧
    (s.putCqs v).portA = s.portA ∧ (s.putCqs v).restartDue = s.restartDue ∧ (s.putCqs v).pings = s.pings ∧
    (s.putCqs v).chain = s.chain ∧ (s.putCqs v).position = s.position ∧ (s.putCqs v).power = s.power ∧
    (s.putCqs v).powerOp = s.powerOp ∧ (s.putCqs v).fsn = s.fsn ∧ (s.putCqs v).ns = s.ns ∧
    (s.putCqs v).volCap = s.volCap ∧ (s.putCqs v).rsv = s.rsv ∧ (s.putCqs v).tokCount = s.tokCount ∧
    (s.putCqs v).fullZones = s.fullZones ∧ (s.putCqs v).fam = s.fam ∧ (s.putCqs v).params = s.params ∧
    (s.putCqs v).alm = s.alm ∧ (s.putCqs v).domeEntry = s.domeEntry ∧ (s.putCqs v).domeWake = s.domeWake ∧
    (s.putCqs v).domeAgreed = s.domeAgreed ∧ (s.putCqs v).readAt = s.readAt ∧ (s.putCqs v).sensorFail = s.sensorFail ∧
    (s.putCqs v).tripCount = s.tripCount ∧ (s.putCqs v).rise = s.rise ∧ (s.putCqs v).stopped = s.stopped ∧
    (s.putCqs v).coolSince = s.coolSince ∧ (s.putCqs v).events = s.events ∧ (s.putCqs v).dies = s.dies ∧
    (s.putCqs v).chans = s.chans ∧ (s.putCqs v).accs = s.accs ∧ (s.putCqs v).ldpc = s.ldpc ∧ (s.putCqs v).nand = s.nand ∧
    (s.putCqs v).blkErased = s.blkErased ∧ (s.putCqs v).vault = s.vault ∧ (s.putCqs v).sessions = s.sessions ∧
    (s.putCqs v).trngRestarts = s.trngRestarts ∧ (s.putCqs v).drbgLeft = s.drbgLeft ∧ (s.putCqs v).imageId = s.imageId ∧
    (s.putCqs v).verFuses = s.verFuses ∧ (s.putCqs v).nsInfo = s.nsInfo ∧ (s.putCqs v).care = s.care ∧
    (s.putCqs v).history = s.history ∧ (s.putCqs v).fw = s.fw ∧ (s.putCqs v).trust = s.trust ∧ (s.putCqs v).fdp = s.fdp ∧
    (s.putCqs v).lostGen = s.lostGen ∧ (s.putCqs v).lostAgain = s.lostAgain ∧ (s.putCqs v).accum = s.accum ∧
    (s.putCqs v).boundSent = s.boundSent ∧ (s.putCqs v).zoneUsed = s.zoneUsed ∧ (s.putCqs v).clean = s.clean :=
  ⟨rfl, rfl, rfl, rfl, rfl, rfl, rfl, rfl, rfl, rfl, rfl, rfl, rfl, rfl, rfl, rfl, rfl, rfl, rfl, rfl, rfl, rfl, rfl,
  rfl, rfl, rfl, rfl, rfl, rfl, rfl, rfl, rfl, rfl, rfl, rfl, rfl, rfl, rfl, rfl, rfl, rfl, rfl, rfl, rfl, rfl, rfl,
  rfl, rfl, rfl, rfl, rfl, rfl, rfl, rfl, rfl, rfl, rfl, rfl, rfl, rfl, rfl, rfl, rfl, rfl, rfl, rfl, rfl, rfl, rfl,
  rfl, rfl, rfl, rfl, rfl, rfl, rfl, rfl, rfl, rfl, rfl, rfl, rfl, rfl, rfl, rfl, rfl, rfl, rfl, rfl, rfl, rfl, rfl,
  rfl, rfl, rfl, rfl, rfl, rfl, rfl, rfl, rfl, rfl, rfl, rfl, rfl, rfl, rfl, rfl, rfl, rfl, rfl, rfl, rfl, rfl, rfl,
  rfl, rfl, rfl, rfl, rfl, rfl, rfl, rfl, rfl⟩

@[simp] theorem State.putCqs_cqs (s : State) (v : FMap (Option CQ)) : (s.putCqs v).cqs = v := rfl

@[simp] theorem State.putCmds_frame (s : State) (v : List Cmd) :
    (s.putCmds v).pending = s.pending ∧ (s.putCmds v).free = s.free ∧ (s.putCmds v).out = s.out ∧
    (s.putCmds v).boot = s.boot ∧ (s.putCmds v).tick = s.tick ∧ (s.putCmds v).win = s.win ∧ (s.putCmds v).gap = s.gap ∧
    (s.putCmds v).regs = s.regs ∧ (s.putCmds v).regPend = s.regPend ∧ (s.putCmds v).cores = s.cores ∧
    (s.putCmds v).cluster = s.cluster ∧ (s.putCmds v).tun = s.tun ∧ (s.putCmds v).tunBufs = s.tunBufs ∧
    (s.putCmds v).tunMin = s.tunMin ∧ (s.putCmds v).tunMinPend = s.tunMinPend ∧ (s.putCmds v).sramErr = s.sramErr ∧
    (s.putCmds v).heldBack = s.heldBack ∧ (s.putCmds v).rtHit = s.rtHit ∧ (s.putCmds v).rtClock = s.rtClock ∧
    (s.putCmds v).rtUntracked = s.rtUntracked ∧ (s.putCmds v).dram = s.dram ∧ (s.putCmds v).dr = s.dr ∧
    (s.putCmds v).poison = s.poison ∧ (s.putCmds v).ingot = s.ingot ∧ (s.putCmds v).nor = s.nor ∧
    (s.putCmds v).norUnk = s.norUnk ∧ (s.putCmds v).pat = s.pat ∧ (s.putCmds v).tdly = s.tdly ∧
    (s.putCmds v).scrub = s.scrub ∧ (s.putCmds v).fbuf = s.fbuf ∧ (s.putCmds v).rings = s.rings ∧
    (s.putCmds v).haz = s.haz ∧ (s.putCmds v).marks = s.marks ∧ (s.putCmds v).wsnFloor = s.wsnFloor ∧
    (s.putCmds v).health = s.health ∧ (s.putCmds v).qPend = s.qPend ∧ (s.putCmds v).reqs = s.reqs ∧
    (s.putCmds v).aborts = s.aborts ∧ (s.putCmds v).gateShut = s.gateShut ∧ (s.putCmds v).sqs = s.sqs ∧
    (s.putCmds v).cqs = s.cqs ∧ (s.putCmds v).resets = s.resets ∧ (s.putCmds v).ctrls = s.ctrls ∧
    (s.putCmds v).arbs = s.arbs ∧ (s.putCmds v).credit = s.credit ∧ (s.putCmds v).taken = s.taken ∧
    (s.putCmds v).fetchLeft = s.fetchLeft ∧ (s.putCmds v).rotLast = s.rotLast ∧ (s.putCmds v).rotFirst = s.rotFirst ∧
    (s.putCmds v).hazStall = s.hazStall ∧ (s.putCmds v).span = s.span ∧ (s.putCmds v).spanOut = s.spanOut ∧
    (s.putCmds v).spanIn = s.spanIn ∧ (s.putCmds v).resOut = s.resOut ∧ (s.putCmds v).jobs = s.jobs ∧
    (s.putCmds v).finishing = s.finishing ∧ (s.putCmds v).greads = s.greads ∧ (s.putCmds v).spanNum = s.spanNum ∧
    (s.putCmds v).spanArr = s.spanArr ∧ (s.putCmds v).dups = s.dups ∧ (s.putCmds v).dupGen = s.dupGen ∧
    (s.putCmds v).rlogPos = s.rlogPos ∧ (s.putCmds v).members = s.members ∧ (s.putCmds v).peerVia = s.peerVia ∧
    (s.putCmds v).groups = s.groups ∧ (s.putCmds v).peerBound = s.peerBound ∧ (s.putCmds v).returned = s.returned ∧
    (s.putCmds v).lostRanges = s.lostRanges ∧ (s.putCmds v).wmap = s.wmap ∧ (s.putCmds v).wfin = s.wfin ∧
    (s.putCmds v).wheld = s.wheld ∧ (s.putCmds v).preserve = s.preserve ∧ (s.putCmds v).kept = s.kept ∧
    (s.putCmds v).metaOpen = s.metaOpen ∧ (s.putCmds v).portA = s.portA ∧ (s.putCmds v).restartDue = s.restartDue ∧
    (s.putCmds v).pings = s.pings ∧ (s.putCmds v).chain = s.chain ∧ (s.putCmds v).position = s.position ∧
    (s.putCmds v).power = s.power ∧ (s.putCmds v).powerOp = s.powerOp ∧ (s.putCmds v).fsn = s.fsn ∧
    (s.putCmds v).ns = s.ns ∧ (s.putCmds v).volCap = s.volCap ∧ (s.putCmds v).rsv = s.rsv ∧
    (s.putCmds v).tokCount = s.tokCount ∧ (s.putCmds v).fullZones = s.fullZones ∧ (s.putCmds v).fam = s.fam ∧
    (s.putCmds v).params = s.params ∧ (s.putCmds v).alm = s.alm ∧ (s.putCmds v).domeEntry = s.domeEntry ∧
    (s.putCmds v).domeWake = s.domeWake ∧ (s.putCmds v).domeAgreed = s.domeAgreed ∧ (s.putCmds v).readAt = s.readAt ∧
    (s.putCmds v).sensorFail = s.sensorFail ∧ (s.putCmds v).tripCount = s.tripCount ∧ (s.putCmds v).rise = s.rise ∧
    (s.putCmds v).stopped = s.stopped ∧ (s.putCmds v).coolSince = s.coolSince ∧ (s.putCmds v).events = s.events ∧
    (s.putCmds v).dies = s.dies ∧ (s.putCmds v).chans = s.chans ∧ (s.putCmds v).accs = s.accs ∧
    (s.putCmds v).ldpc = s.ldpc ∧ (s.putCmds v).nand = s.nand ∧ (s.putCmds v).blkErased = s.blkErased ∧
    (s.putCmds v).vault = s.vault ∧ (s.putCmds v).sessions = s.sessions ∧ (s.putCmds v).trngRestarts = s.trngRestarts ∧
    (s.putCmds v).drbgLeft = s.drbgLeft ∧ (s.putCmds v).imageId = s.imageId ∧ (s.putCmds v).verFuses = s.verFuses ∧
    (s.putCmds v).nsInfo = s.nsInfo ∧ (s.putCmds v).care = s.care ∧ (s.putCmds v).history = s.history ∧
    (s.putCmds v).fw = s.fw ∧ (s.putCmds v).trust = s.trust ∧ (s.putCmds v).fdp = s.fdp ∧
    (s.putCmds v).lostGen = s.lostGen ∧ (s.putCmds v).lostAgain = s.lostAgain ∧ (s.putCmds v).accum = s.accum ∧
    (s.putCmds v).boundSent = s.boundSent ∧ (s.putCmds v).zoneUsed = s.zoneUsed ∧ (s.putCmds v).clean = s.clean :=
  ⟨rfl, rfl, rfl, rfl, rfl, rfl, rfl, rfl, rfl, rfl, rfl, rfl, rfl, rfl, rfl, rfl, rfl, rfl, rfl, rfl, rfl, rfl, rfl,
  rfl, rfl, rfl, rfl, rfl, rfl, rfl, rfl, rfl, rfl, rfl, rfl, rfl, rfl, rfl, rfl, rfl, rfl, rfl, rfl, rfl, rfl, rfl,
  rfl, rfl, rfl, rfl, rfl, rfl, rfl, rfl, rfl, rfl, rfl, rfl, rfl, rfl, rfl, rfl, rfl, rfl, rfl, rfl, rfl, rfl, rfl,
  rfl, rfl, rfl, rfl, rfl, rfl, rfl, rfl, rfl, rfl, rfl, rfl, rfl, rfl, rfl, rfl, rfl, rfl, rfl, rfl, rfl, rfl, rfl,
  rfl, rfl, rfl, rfl, rfl, rfl, rfl, rfl, rfl, rfl, rfl, rfl, rfl, rfl, rfl, rfl, rfl, rfl, rfl, rfl, rfl, rfl, rfl,
  rfl, rfl, rfl, rfl, rfl, rfl, rfl, rfl, rfl⟩

@[simp] theorem State.putCmds_cmds (s : State) (v : List Cmd) : (s.putCmds v).cmds = v := rfl

@[simp] theorem State.putResets_frame (s : State) (v : List Reset) :
    (s.putResets v).pending = s.pending ∧ (s.putResets v).free = s.free ∧ (s.putResets v).out = s.out ∧
    (s.putResets v).boot = s.boot ∧ (s.putResets v).tick = s.tick ∧ (s.putResets v).win = s.win ∧
    (s.putResets v).gap = s.gap ∧ (s.putResets v).regs = s.regs ∧ (s.putResets v).regPend = s.regPend ∧
    (s.putResets v).cores = s.cores ∧ (s.putResets v).cluster = s.cluster ∧ (s.putResets v).tun = s.tun ∧
    (s.putResets v).tunBufs = s.tunBufs ∧ (s.putResets v).tunMin = s.tunMin ∧ (s.putResets v).tunMinPend = s.tunMinPend ∧
    (s.putResets v).sramErr = s.sramErr ∧ (s.putResets v).heldBack = s.heldBack ∧ (s.putResets v).rtHit = s.rtHit ∧
    (s.putResets v).rtClock = s.rtClock ∧ (s.putResets v).rtUntracked = s.rtUntracked ∧ (s.putResets v).dram = s.dram ∧
    (s.putResets v).dr = s.dr ∧ (s.putResets v).poison = s.poison ∧ (s.putResets v).ingot = s.ingot ∧
    (s.putResets v).nor = s.nor ∧ (s.putResets v).norUnk = s.norUnk ∧ (s.putResets v).pat = s.pat ∧
    (s.putResets v).tdly = s.tdly ∧ (s.putResets v).scrub = s.scrub ∧ (s.putResets v).fbuf = s.fbuf ∧
    (s.putResets v).rings = s.rings ∧ (s.putResets v).haz = s.haz ∧ (s.putResets v).marks = s.marks ∧
    (s.putResets v).wsnFloor = s.wsnFloor ∧ (s.putResets v).health = s.health ∧ (s.putResets v).qPend = s.qPend ∧
    (s.putResets v).reqs = s.reqs ∧ (s.putResets v).aborts = s.aborts ∧ (s.putResets v).gateShut = s.gateShut ∧
    (s.putResets v).sqs = s.sqs ∧ (s.putResets v).cqs = s.cqs ∧ (s.putResets v).cmds = s.cmds ∧
    (s.putResets v).ctrls = s.ctrls ∧ (s.putResets v).arbs = s.arbs ∧ (s.putResets v).credit = s.credit ∧
    (s.putResets v).taken = s.taken ∧ (s.putResets v).fetchLeft = s.fetchLeft ∧ (s.putResets v).rotLast = s.rotLast ∧
    (s.putResets v).rotFirst = s.rotFirst ∧ (s.putResets v).hazStall = s.hazStall ∧ (s.putResets v).span = s.span ∧
    (s.putResets v).spanOut = s.spanOut ∧ (s.putResets v).spanIn = s.spanIn ∧ (s.putResets v).resOut = s.resOut ∧
    (s.putResets v).jobs = s.jobs ∧ (s.putResets v).finishing = s.finishing ∧ (s.putResets v).greads = s.greads ∧
    (s.putResets v).spanNum = s.spanNum ∧ (s.putResets v).spanArr = s.spanArr ∧ (s.putResets v).dups = s.dups ∧
    (s.putResets v).dupGen = s.dupGen ∧ (s.putResets v).rlogPos = s.rlogPos ∧ (s.putResets v).members = s.members ∧
    (s.putResets v).peerVia = s.peerVia ∧ (s.putResets v).groups = s.groups ∧ (s.putResets v).peerBound = s.peerBound ∧
    (s.putResets v).returned = s.returned ∧ (s.putResets v).lostRanges = s.lostRanges ∧ (s.putResets v).wmap = s.wmap ∧
    (s.putResets v).wfin = s.wfin ∧ (s.putResets v).wheld = s.wheld ∧ (s.putResets v).preserve = s.preserve ∧
    (s.putResets v).kept = s.kept ∧ (s.putResets v).metaOpen = s.metaOpen ∧ (s.putResets v).portA = s.portA ∧
    (s.putResets v).restartDue = s.restartDue ∧ (s.putResets v).pings = s.pings ∧ (s.putResets v).chain = s.chain ∧
    (s.putResets v).position = s.position ∧ (s.putResets v).power = s.power ∧ (s.putResets v).powerOp = s.powerOp ∧
    (s.putResets v).fsn = s.fsn ∧ (s.putResets v).ns = s.ns ∧ (s.putResets v).volCap = s.volCap ∧
    (s.putResets v).rsv = s.rsv ∧ (s.putResets v).tokCount = s.tokCount ∧ (s.putResets v).fullZones = s.fullZones ∧
    (s.putResets v).fam = s.fam ∧ (s.putResets v).params = s.params ∧ (s.putResets v).alm = s.alm ∧
    (s.putResets v).domeEntry = s.domeEntry ∧ (s.putResets v).domeWake = s.domeWake ∧
    (s.putResets v).domeAgreed = s.domeAgreed ∧ (s.putResets v).readAt = s.readAt ∧
    (s.putResets v).sensorFail = s.sensorFail ∧ (s.putResets v).tripCount = s.tripCount ∧ (s.putResets v).rise = s.rise ∧
    (s.putResets v).stopped = s.stopped ∧ (s.putResets v).coolSince = s.coolSince ∧ (s.putResets v).events = s.events ∧
    (s.putResets v).dies = s.dies ∧ (s.putResets v).chans = s.chans ∧ (s.putResets v).accs = s.accs ∧
    (s.putResets v).ldpc = s.ldpc ∧ (s.putResets v).nand = s.nand ∧ (s.putResets v).blkErased = s.blkErased ∧
    (s.putResets v).vault = s.vault ∧ (s.putResets v).sessions = s.sessions ∧
    (s.putResets v).trngRestarts = s.trngRestarts ∧ (s.putResets v).drbgLeft = s.drbgLeft ∧
    (s.putResets v).imageId = s.imageId ∧ (s.putResets v).verFuses = s.verFuses ∧ (s.putResets v).nsInfo = s.nsInfo ∧
    (s.putResets v).care = s.care ∧ (s.putResets v).history = s.history ∧ (s.putResets v).fw = s.fw ∧
    (s.putResets v).trust = s.trust ∧ (s.putResets v).fdp = s.fdp ∧ (s.putResets v).lostGen = s.lostGen ∧
    (s.putResets v).lostAgain = s.lostAgain ∧ (s.putResets v).accum = s.accum ∧ (s.putResets v).boundSent = s.boundSent ∧
    (s.putResets v).zoneUsed = s.zoneUsed ∧ (s.putResets v).clean = s.clean :=
  ⟨rfl, rfl, rfl, rfl, rfl, rfl, rfl, rfl, rfl, rfl, rfl, rfl, rfl, rfl, rfl, rfl, rfl, rfl, rfl, rfl, rfl, rfl, rfl,
  rfl, rfl, rfl, rfl, rfl, rfl, rfl, rfl, rfl, rfl, rfl, rfl, rfl, rfl, rfl, rfl, rfl, rfl, rfl, rfl, rfl, rfl, rfl,
  rfl, rfl, rfl, rfl, rfl, rfl, rfl, rfl, rfl, rfl, rfl, rfl, rfl, rfl, rfl, rfl, rfl, rfl, rfl, rfl, rfl, rfl, rfl,
  rfl, rfl, rfl, rfl, rfl, rfl, rfl, rfl, rfl, rfl, rfl, rfl, rfl, rfl, rfl, rfl, rfl, rfl, rfl, rfl, rfl, rfl, rfl,
  rfl, rfl, rfl, rfl, rfl, rfl, rfl, rfl, rfl, rfl, rfl, rfl, rfl, rfl, rfl, rfl, rfl, rfl, rfl, rfl, rfl, rfl, rfl,
  rfl, rfl, rfl, rfl, rfl, rfl, rfl, rfl, rfl⟩

@[simp] theorem State.putResets_resets (s : State) (v : List Reset) : (s.putResets v).resets = v := rfl

@[simp] theorem State.putCtrls_frame (s : State) (v : FMap Ctrl) :
    (s.putCtrls v).pending = s.pending ∧ (s.putCtrls v).free = s.free ∧ (s.putCtrls v).out = s.out ∧
    (s.putCtrls v).boot = s.boot ∧ (s.putCtrls v).tick = s.tick ∧ (s.putCtrls v).win = s.win ∧
    (s.putCtrls v).gap = s.gap ∧ (s.putCtrls v).regs = s.regs ∧ (s.putCtrls v).regPend = s.regPend ∧
    (s.putCtrls v).cores = s.cores ∧ (s.putCtrls v).cluster = s.cluster ∧ (s.putCtrls v).tun = s.tun ∧
    (s.putCtrls v).tunBufs = s.tunBufs ∧ (s.putCtrls v).tunMin = s.tunMin ∧ (s.putCtrls v).tunMinPend = s.tunMinPend ∧
    (s.putCtrls v).sramErr = s.sramErr ∧ (s.putCtrls v).heldBack = s.heldBack ∧ (s.putCtrls v).rtHit = s.rtHit ∧
    (s.putCtrls v).rtClock = s.rtClock ∧ (s.putCtrls v).rtUntracked = s.rtUntracked ∧ (s.putCtrls v).dram = s.dram ∧
    (s.putCtrls v).dr = s.dr ∧ (s.putCtrls v).poison = s.poison ∧ (s.putCtrls v).ingot = s.ingot ∧
    (s.putCtrls v).nor = s.nor ∧ (s.putCtrls v).norUnk = s.norUnk ∧ (s.putCtrls v).pat = s.pat ∧
    (s.putCtrls v).tdly = s.tdly ∧ (s.putCtrls v).scrub = s.scrub ∧ (s.putCtrls v).fbuf = s.fbuf ∧
    (s.putCtrls v).rings = s.rings ∧ (s.putCtrls v).haz = s.haz ∧ (s.putCtrls v).marks = s.marks ∧
    (s.putCtrls v).wsnFloor = s.wsnFloor ∧ (s.putCtrls v).health = s.health ∧ (s.putCtrls v).qPend = s.qPend ∧
    (s.putCtrls v).reqs = s.reqs ∧ (s.putCtrls v).aborts = s.aborts ∧ (s.putCtrls v).gateShut = s.gateShut ∧
    (s.putCtrls v).sqs = s.sqs ∧ (s.putCtrls v).cqs = s.cqs ∧ (s.putCtrls v).cmds = s.cmds ∧
    (s.putCtrls v).resets = s.resets ∧ (s.putCtrls v).arbs = s.arbs ∧ (s.putCtrls v).credit = s.credit ∧
    (s.putCtrls v).taken = s.taken ∧ (s.putCtrls v).fetchLeft = s.fetchLeft ∧ (s.putCtrls v).rotLast = s.rotLast ∧
    (s.putCtrls v).rotFirst = s.rotFirst ∧ (s.putCtrls v).hazStall = s.hazStall ∧ (s.putCtrls v).span = s.span ∧
    (s.putCtrls v).spanOut = s.spanOut ∧ (s.putCtrls v).spanIn = s.spanIn ∧ (s.putCtrls v).resOut = s.resOut ∧
    (s.putCtrls v).jobs = s.jobs ∧ (s.putCtrls v).finishing = s.finishing ∧ (s.putCtrls v).greads = s.greads ∧
    (s.putCtrls v).spanNum = s.spanNum ∧ (s.putCtrls v).spanArr = s.spanArr ∧ (s.putCtrls v).dups = s.dups ∧
    (s.putCtrls v).dupGen = s.dupGen ∧ (s.putCtrls v).rlogPos = s.rlogPos ∧ (s.putCtrls v).members = s.members ∧
    (s.putCtrls v).peerVia = s.peerVia ∧ (s.putCtrls v).groups = s.groups ∧ (s.putCtrls v).peerBound = s.peerBound ∧
    (s.putCtrls v).returned = s.returned ∧ (s.putCtrls v).lostRanges = s.lostRanges ∧ (s.putCtrls v).wmap = s.wmap ∧
    (s.putCtrls v).wfin = s.wfin ∧ (s.putCtrls v).wheld = s.wheld ∧ (s.putCtrls v).preserve = s.preserve ∧
    (s.putCtrls v).kept = s.kept ∧ (s.putCtrls v).metaOpen = s.metaOpen ∧ (s.putCtrls v).portA = s.portA ∧
    (s.putCtrls v).restartDue = s.restartDue ∧ (s.putCtrls v).pings = s.pings ∧ (s.putCtrls v).chain = s.chain ∧
    (s.putCtrls v).position = s.position ∧ (s.putCtrls v).power = s.power ∧ (s.putCtrls v).powerOp = s.powerOp ∧
    (s.putCtrls v).fsn = s.fsn ∧ (s.putCtrls v).ns = s.ns ∧ (s.putCtrls v).volCap = s.volCap ∧
    (s.putCtrls v).rsv = s.rsv ∧ (s.putCtrls v).tokCount = s.tokCount ∧ (s.putCtrls v).fullZones = s.fullZones ∧
    (s.putCtrls v).fam = s.fam ∧ (s.putCtrls v).params = s.params ∧ (s.putCtrls v).alm = s.alm ∧
    (s.putCtrls v).domeEntry = s.domeEntry ∧ (s.putCtrls v).domeWake = s.domeWake ∧
    (s.putCtrls v).domeAgreed = s.domeAgreed ∧ (s.putCtrls v).readAt = s.readAt ∧
    (s.putCtrls v).sensorFail = s.sensorFail ∧ (s.putCtrls v).tripCount = s.tripCount ∧ (s.putCtrls v).rise = s.rise ∧
    (s.putCtrls v).stopped = s.stopped ∧ (s.putCtrls v).coolSince = s.coolSince ∧ (s.putCtrls v).events = s.events ∧
    (s.putCtrls v).dies = s.dies ∧ (s.putCtrls v).chans = s.chans ∧ (s.putCtrls v).accs = s.accs ∧
    (s.putCtrls v).ldpc = s.ldpc ∧ (s.putCtrls v).nand = s.nand ∧ (s.putCtrls v).blkErased = s.blkErased ∧
    (s.putCtrls v).vault = s.vault ∧ (s.putCtrls v).sessions = s.sessions ∧
    (s.putCtrls v).trngRestarts = s.trngRestarts ∧ (s.putCtrls v).drbgLeft = s.drbgLeft ∧
    (s.putCtrls v).imageId = s.imageId ∧ (s.putCtrls v).verFuses = s.verFuses ∧ (s.putCtrls v).nsInfo = s.nsInfo ∧
    (s.putCtrls v).care = s.care ∧ (s.putCtrls v).history = s.history ∧ (s.putCtrls v).fw = s.fw ∧
    (s.putCtrls v).trust = s.trust ∧ (s.putCtrls v).fdp = s.fdp ∧ (s.putCtrls v).lostGen = s.lostGen ∧
    (s.putCtrls v).lostAgain = s.lostAgain ∧ (s.putCtrls v).accum = s.accum ∧ (s.putCtrls v).boundSent = s.boundSent ∧
    (s.putCtrls v).zoneUsed = s.zoneUsed ∧ (s.putCtrls v).clean = s.clean :=
  ⟨rfl, rfl, rfl, rfl, rfl, rfl, rfl, rfl, rfl, rfl, rfl, rfl, rfl, rfl, rfl, rfl, rfl, rfl, rfl, rfl, rfl, rfl, rfl,
  rfl, rfl, rfl, rfl, rfl, rfl, rfl, rfl, rfl, rfl, rfl, rfl, rfl, rfl, rfl, rfl, rfl, rfl, rfl, rfl, rfl, rfl, rfl,
  rfl, rfl, rfl, rfl, rfl, rfl, rfl, rfl, rfl, rfl, rfl, rfl, rfl, rfl, rfl, rfl, rfl, rfl, rfl, rfl, rfl, rfl, rfl,
  rfl, rfl, rfl, rfl, rfl, rfl, rfl, rfl, rfl, rfl, rfl, rfl, rfl, rfl, rfl, rfl, rfl, rfl, rfl, rfl, rfl, rfl, rfl,
  rfl, rfl, rfl, rfl, rfl, rfl, rfl, rfl, rfl, rfl, rfl, rfl, rfl, rfl, rfl, rfl, rfl, rfl, rfl, rfl, rfl, rfl, rfl,
  rfl, rfl, rfl, rfl, rfl, rfl, rfl, rfl, rfl⟩

@[simp] theorem State.putCtrls_ctrls (s : State) (v : FMap Ctrl) : (s.putCtrls v).ctrls = v := rfl

@[simp] theorem State.putArbs_frame (s : State) (v : FMap Arb) :
    (s.putArbs v).pending = s.pending ∧ (s.putArbs v).free = s.free ∧ (s.putArbs v).out = s.out ∧
    (s.putArbs v).boot = s.boot ∧ (s.putArbs v).tick = s.tick ∧ (s.putArbs v).win = s.win ∧ (s.putArbs v).gap = s.gap ∧
    (s.putArbs v).regs = s.regs ∧ (s.putArbs v).regPend = s.regPend ∧ (s.putArbs v).cores = s.cores ∧
    (s.putArbs v).cluster = s.cluster ∧ (s.putArbs v).tun = s.tun ∧ (s.putArbs v).tunBufs = s.tunBufs ∧
    (s.putArbs v).tunMin = s.tunMin ∧ (s.putArbs v).tunMinPend = s.tunMinPend ∧ (s.putArbs v).sramErr = s.sramErr ∧
    (s.putArbs v).heldBack = s.heldBack ∧ (s.putArbs v).rtHit = s.rtHit ∧ (s.putArbs v).rtClock = s.rtClock ∧
    (s.putArbs v).rtUntracked = s.rtUntracked ∧ (s.putArbs v).dram = s.dram ∧ (s.putArbs v).dr = s.dr ∧
    (s.putArbs v).poison = s.poison ∧ (s.putArbs v).ingot = s.ingot ∧ (s.putArbs v).nor = s.nor ∧
    (s.putArbs v).norUnk = s.norUnk ∧ (s.putArbs v).pat = s.pat ∧ (s.putArbs v).tdly = s.tdly ∧
    (s.putArbs v).scrub = s.scrub ∧ (s.putArbs v).fbuf = s.fbuf ∧ (s.putArbs v).rings = s.rings ∧
    (s.putArbs v).haz = s.haz ∧ (s.putArbs v).marks = s.marks ∧ (s.putArbs v).wsnFloor = s.wsnFloor ∧
    (s.putArbs v).health = s.health ∧ (s.putArbs v).qPend = s.qPend ∧ (s.putArbs v).reqs = s.reqs ∧
    (s.putArbs v).aborts = s.aborts ∧ (s.putArbs v).gateShut = s.gateShut ∧ (s.putArbs v).sqs = s.sqs ∧
    (s.putArbs v).cqs = s.cqs ∧ (s.putArbs v).cmds = s.cmds ∧ (s.putArbs v).resets = s.resets ∧
    (s.putArbs v).ctrls = s.ctrls ∧ (s.putArbs v).credit = s.credit ∧ (s.putArbs v).taken = s.taken ∧
    (s.putArbs v).fetchLeft = s.fetchLeft ∧ (s.putArbs v).rotLast = s.rotLast ∧ (s.putArbs v).rotFirst = s.rotFirst ∧
    (s.putArbs v).hazStall = s.hazStall ∧ (s.putArbs v).span = s.span ∧ (s.putArbs v).spanOut = s.spanOut ∧
    (s.putArbs v).spanIn = s.spanIn ∧ (s.putArbs v).resOut = s.resOut ∧ (s.putArbs v).jobs = s.jobs ∧
    (s.putArbs v).finishing = s.finishing ∧ (s.putArbs v).greads = s.greads ∧ (s.putArbs v).spanNum = s.spanNum ∧
    (s.putArbs v).spanArr = s.spanArr ∧ (s.putArbs v).dups = s.dups ∧ (s.putArbs v).dupGen = s.dupGen ∧
    (s.putArbs v).rlogPos = s.rlogPos ∧ (s.putArbs v).members = s.members ∧ (s.putArbs v).peerVia = s.peerVia ∧
    (s.putArbs v).groups = s.groups ∧ (s.putArbs v).peerBound = s.peerBound ∧ (s.putArbs v).returned = s.returned ∧
    (s.putArbs v).lostRanges = s.lostRanges ∧ (s.putArbs v).wmap = s.wmap ∧ (s.putArbs v).wfin = s.wfin ∧
    (s.putArbs v).wheld = s.wheld ∧ (s.putArbs v).preserve = s.preserve ∧ (s.putArbs v).kept = s.kept ∧
    (s.putArbs v).metaOpen = s.metaOpen ∧ (s.putArbs v).portA = s.portA ∧ (s.putArbs v).restartDue = s.restartDue ∧
    (s.putArbs v).pings = s.pings ∧ (s.putArbs v).chain = s.chain ∧ (s.putArbs v).position = s.position ∧
    (s.putArbs v).power = s.power ∧ (s.putArbs v).powerOp = s.powerOp ∧ (s.putArbs v).fsn = s.fsn ∧
    (s.putArbs v).ns = s.ns ∧ (s.putArbs v).volCap = s.volCap ∧ (s.putArbs v).rsv = s.rsv ∧
    (s.putArbs v).tokCount = s.tokCount ∧ (s.putArbs v).fullZones = s.fullZones ∧ (s.putArbs v).fam = s.fam ∧
    (s.putArbs v).params = s.params ∧ (s.putArbs v).alm = s.alm ∧ (s.putArbs v).domeEntry = s.domeEntry ∧
    (s.putArbs v).domeWake = s.domeWake ∧ (s.putArbs v).domeAgreed = s.domeAgreed ∧ (s.putArbs v).readAt = s.readAt ∧
    (s.putArbs v).sensorFail = s.sensorFail ∧ (s.putArbs v).tripCount = s.tripCount ∧ (s.putArbs v).rise = s.rise ∧
    (s.putArbs v).stopped = s.stopped ∧ (s.putArbs v).coolSince = s.coolSince ∧ (s.putArbs v).events = s.events ∧
    (s.putArbs v).dies = s.dies ∧ (s.putArbs v).chans = s.chans ∧ (s.putArbs v).accs = s.accs ∧
    (s.putArbs v).ldpc = s.ldpc ∧ (s.putArbs v).nand = s.nand ∧ (s.putArbs v).blkErased = s.blkErased ∧
    (s.putArbs v).vault = s.vault ∧ (s.putArbs v).sessions = s.sessions ∧ (s.putArbs v).trngRestarts = s.trngRestarts ∧
    (s.putArbs v).drbgLeft = s.drbgLeft ∧ (s.putArbs v).imageId = s.imageId ∧ (s.putArbs v).verFuses = s.verFuses ∧
    (s.putArbs v).nsInfo = s.nsInfo ∧ (s.putArbs v).care = s.care ∧ (s.putArbs v).history = s.history ∧
    (s.putArbs v).fw = s.fw ∧ (s.putArbs v).trust = s.trust ∧ (s.putArbs v).fdp = s.fdp ∧
    (s.putArbs v).lostGen = s.lostGen ∧ (s.putArbs v).lostAgain = s.lostAgain ∧ (s.putArbs v).accum = s.accum ∧
    (s.putArbs v).boundSent = s.boundSent ∧ (s.putArbs v).zoneUsed = s.zoneUsed ∧ (s.putArbs v).clean = s.clean :=
  ⟨rfl, rfl, rfl, rfl, rfl, rfl, rfl, rfl, rfl, rfl, rfl, rfl, rfl, rfl, rfl, rfl, rfl, rfl, rfl, rfl, rfl, rfl, rfl,
  rfl, rfl, rfl, rfl, rfl, rfl, rfl, rfl, rfl, rfl, rfl, rfl, rfl, rfl, rfl, rfl, rfl, rfl, rfl, rfl, rfl, rfl, rfl,
  rfl, rfl, rfl, rfl, rfl, rfl, rfl, rfl, rfl, rfl, rfl, rfl, rfl, rfl, rfl, rfl, rfl, rfl, rfl, rfl, rfl, rfl, rfl,
  rfl, rfl, rfl, rfl, rfl, rfl, rfl, rfl, rfl, rfl, rfl, rfl, rfl, rfl, rfl, rfl, rfl, rfl, rfl, rfl, rfl, rfl, rfl,
  rfl, rfl, rfl, rfl, rfl, rfl, rfl, rfl, rfl, rfl, rfl, rfl, rfl, rfl, rfl, rfl, rfl, rfl, rfl, rfl, rfl, rfl, rfl,
  rfl, rfl, rfl, rfl, rfl, rfl, rfl, rfl, rfl⟩

@[simp] theorem State.putArbs_arbs (s : State) (v : FMap Arb) : (s.putArbs v).arbs = v := rfl

@[simp] theorem State.putCredit_frame (s : State) (v : FMap Nat) :
    (s.putCredit v).pending = s.pending ∧ (s.putCredit v).free = s.free ∧ (s.putCredit v).out = s.out ∧
    (s.putCredit v).boot = s.boot ∧ (s.putCredit v).tick = s.tick ∧ (s.putCredit v).win = s.win ∧
    (s.putCredit v).gap = s.gap ∧ (s.putCredit v).regs = s.regs ∧ (s.putCredit v).regPend = s.regPend ∧
    (s.putCredit v).cores = s.cores ∧ (s.putCredit v).cluster = s.cluster ∧ (s.putCredit v).tun = s.tun ∧
    (s.putCredit v).tunBufs = s.tunBufs ∧ (s.putCredit v).tunMin = s.tunMin ∧ (s.putCredit v).tunMinPend = s.tunMinPend ∧
    (s.putCredit v).sramErr = s.sramErr ∧ (s.putCredit v).heldBack = s.heldBack ∧ (s.putCredit v).rtHit = s.rtHit ∧
    (s.putCredit v).rtClock = s.rtClock ∧ (s.putCredit v).rtUntracked = s.rtUntracked ∧ (s.putCredit v).dram = s.dram ∧
    (s.putCredit v).dr = s.dr ∧ (s.putCredit v).poison = s.poison ∧ (s.putCredit v).ingot = s.ingot ∧
    (s.putCredit v).nor = s.nor ∧ (s.putCredit v).norUnk = s.norUnk ∧ (s.putCredit v).pat = s.pat ∧
    (s.putCredit v).tdly = s.tdly ∧ (s.putCredit v).scrub = s.scrub ∧ (s.putCredit v).fbuf = s.fbuf ∧
    (s.putCredit v).rings = s.rings ∧ (s.putCredit v).haz = s.haz ∧ (s.putCredit v).marks = s.marks ∧
    (s.putCredit v).wsnFloor = s.wsnFloor ∧ (s.putCredit v).health = s.health ∧ (s.putCredit v).qPend = s.qPend ∧
    (s.putCredit v).reqs = s.reqs ∧ (s.putCredit v).aborts = s.aborts ∧ (s.putCredit v).gateShut = s.gateShut ∧
    (s.putCredit v).sqs = s.sqs ∧ (s.putCredit v).cqs = s.cqs ∧ (s.putCredit v).cmds = s.cmds ∧
    (s.putCredit v).resets = s.resets ∧ (s.putCredit v).ctrls = s.ctrls ∧ (s.putCredit v).arbs = s.arbs ∧
    (s.putCredit v).taken = s.taken ∧ (s.putCredit v).fetchLeft = s.fetchLeft ∧ (s.putCredit v).rotLast = s.rotLast ∧
    (s.putCredit v).rotFirst = s.rotFirst ∧ (s.putCredit v).hazStall = s.hazStall ∧ (s.putCredit v).span = s.span ∧
    (s.putCredit v).spanOut = s.spanOut ∧ (s.putCredit v).spanIn = s.spanIn ∧ (s.putCredit v).resOut = s.resOut ∧
    (s.putCredit v).jobs = s.jobs ∧ (s.putCredit v).finishing = s.finishing ∧ (s.putCredit v).greads = s.greads ∧
    (s.putCredit v).spanNum = s.spanNum ∧ (s.putCredit v).spanArr = s.spanArr ∧ (s.putCredit v).dups = s.dups ∧
    (s.putCredit v).dupGen = s.dupGen ∧ (s.putCredit v).rlogPos = s.rlogPos ∧ (s.putCredit v).members = s.members ∧
    (s.putCredit v).peerVia = s.peerVia ∧ (s.putCredit v).groups = s.groups ∧ (s.putCredit v).peerBound = s.peerBound ∧
    (s.putCredit v).returned = s.returned ∧ (s.putCredit v).lostRanges = s.lostRanges ∧ (s.putCredit v).wmap = s.wmap ∧
    (s.putCredit v).wfin = s.wfin ∧ (s.putCredit v).wheld = s.wheld ∧ (s.putCredit v).preserve = s.preserve ∧
    (s.putCredit v).kept = s.kept ∧ (s.putCredit v).metaOpen = s.metaOpen ∧ (s.putCredit v).portA = s.portA ∧
    (s.putCredit v).restartDue = s.restartDue ∧ (s.putCredit v).pings = s.pings ∧ (s.putCredit v).chain = s.chain ∧
    (s.putCredit v).position = s.position ∧ (s.putCredit v).power = s.power ∧ (s.putCredit v).powerOp = s.powerOp ∧
    (s.putCredit v).fsn = s.fsn ∧ (s.putCredit v).ns = s.ns ∧ (s.putCredit v).volCap = s.volCap ∧
    (s.putCredit v).rsv = s.rsv ∧ (s.putCredit v).tokCount = s.tokCount ∧ (s.putCredit v).fullZones = s.fullZones ∧
    (s.putCredit v).fam = s.fam ∧ (s.putCredit v).params = s.params ∧ (s.putCredit v).alm = s.alm ∧
    (s.putCredit v).domeEntry = s.domeEntry ∧ (s.putCredit v).domeWake = s.domeWake ∧
    (s.putCredit v).domeAgreed = s.domeAgreed ∧ (s.putCredit v).readAt = s.readAt ∧
    (s.putCredit v).sensorFail = s.sensorFail ∧ (s.putCredit v).tripCount = s.tripCount ∧ (s.putCredit v).rise = s.rise ∧
    (s.putCredit v).stopped = s.stopped ∧ (s.putCredit v).coolSince = s.coolSince ∧ (s.putCredit v).events = s.events ∧
    (s.putCredit v).dies = s.dies ∧ (s.putCredit v).chans = s.chans ∧ (s.putCredit v).accs = s.accs ∧
    (s.putCredit v).ldpc = s.ldpc ∧ (s.putCredit v).nand = s.nand ∧ (s.putCredit v).blkErased = s.blkErased ∧
    (s.putCredit v).vault = s.vault ∧ (s.putCredit v).sessions = s.sessions ∧
    (s.putCredit v).trngRestarts = s.trngRestarts ∧ (s.putCredit v).drbgLeft = s.drbgLeft ∧
    (s.putCredit v).imageId = s.imageId ∧ (s.putCredit v).verFuses = s.verFuses ∧ (s.putCredit v).nsInfo = s.nsInfo ∧
    (s.putCredit v).care = s.care ∧ (s.putCredit v).history = s.history ∧ (s.putCredit v).fw = s.fw ∧
    (s.putCredit v).trust = s.trust ∧ (s.putCredit v).fdp = s.fdp ∧ (s.putCredit v).lostGen = s.lostGen ∧
    (s.putCredit v).lostAgain = s.lostAgain ∧ (s.putCredit v).accum = s.accum ∧ (s.putCredit v).boundSent = s.boundSent ∧
    (s.putCredit v).zoneUsed = s.zoneUsed ∧ (s.putCredit v).clean = s.clean :=
  ⟨rfl, rfl, rfl, rfl, rfl, rfl, rfl, rfl, rfl, rfl, rfl, rfl, rfl, rfl, rfl, rfl, rfl, rfl, rfl, rfl, rfl, rfl, rfl,
  rfl, rfl, rfl, rfl, rfl, rfl, rfl, rfl, rfl, rfl, rfl, rfl, rfl, rfl, rfl, rfl, rfl, rfl, rfl, rfl, rfl, rfl, rfl,
  rfl, rfl, rfl, rfl, rfl, rfl, rfl, rfl, rfl, rfl, rfl, rfl, rfl, rfl, rfl, rfl, rfl, rfl, rfl, rfl, rfl, rfl, rfl,
  rfl, rfl, rfl, rfl, rfl, rfl, rfl, rfl, rfl, rfl, rfl, rfl, rfl, rfl, rfl, rfl, rfl, rfl, rfl, rfl, rfl, rfl, rfl,
  rfl, rfl, rfl, rfl, rfl, rfl, rfl, rfl, rfl, rfl, rfl, rfl, rfl, rfl, rfl, rfl, rfl, rfl, rfl, rfl, rfl, rfl, rfl,
  rfl, rfl, rfl, rfl, rfl, rfl, rfl, rfl, rfl⟩

@[simp] theorem State.putCredit_credit (s : State) (v : FMap Nat) : (s.putCredit v).credit = v := rfl

@[simp] theorem State.putTaken_frame (s : State) (v : FMap Nat) :
    (s.putTaken v).pending = s.pending ∧ (s.putTaken v).free = s.free ∧ (s.putTaken v).out = s.out ∧
    (s.putTaken v).boot = s.boot ∧ (s.putTaken v).tick = s.tick ∧ (s.putTaken v).win = s.win ∧
    (s.putTaken v).gap = s.gap ∧ (s.putTaken v).regs = s.regs ∧ (s.putTaken v).regPend = s.regPend ∧
    (s.putTaken v).cores = s.cores ∧ (s.putTaken v).cluster = s.cluster ∧ (s.putTaken v).tun = s.tun ∧
    (s.putTaken v).tunBufs = s.tunBufs ∧ (s.putTaken v).tunMin = s.tunMin ∧ (s.putTaken v).tunMinPend = s.tunMinPend ∧
    (s.putTaken v).sramErr = s.sramErr ∧ (s.putTaken v).heldBack = s.heldBack ∧ (s.putTaken v).rtHit = s.rtHit ∧
    (s.putTaken v).rtClock = s.rtClock ∧ (s.putTaken v).rtUntracked = s.rtUntracked ∧ (s.putTaken v).dram = s.dram ∧
    (s.putTaken v).dr = s.dr ∧ (s.putTaken v).poison = s.poison ∧ (s.putTaken v).ingot = s.ingot ∧
    (s.putTaken v).nor = s.nor ∧ (s.putTaken v).norUnk = s.norUnk ∧ (s.putTaken v).pat = s.pat ∧
    (s.putTaken v).tdly = s.tdly ∧ (s.putTaken v).scrub = s.scrub ∧ (s.putTaken v).fbuf = s.fbuf ∧
    (s.putTaken v).rings = s.rings ∧ (s.putTaken v).haz = s.haz ∧ (s.putTaken v).marks = s.marks ∧
    (s.putTaken v).wsnFloor = s.wsnFloor ∧ (s.putTaken v).health = s.health ∧ (s.putTaken v).qPend = s.qPend ∧
    (s.putTaken v).reqs = s.reqs ∧ (s.putTaken v).aborts = s.aborts ∧ (s.putTaken v).gateShut = s.gateShut ∧
    (s.putTaken v).sqs = s.sqs ∧ (s.putTaken v).cqs = s.cqs ∧ (s.putTaken v).cmds = s.cmds ∧
    (s.putTaken v).resets = s.resets ∧ (s.putTaken v).ctrls = s.ctrls ∧ (s.putTaken v).arbs = s.arbs ∧
    (s.putTaken v).credit = s.credit ∧ (s.putTaken v).fetchLeft = s.fetchLeft ∧ (s.putTaken v).rotLast = s.rotLast ∧
    (s.putTaken v).rotFirst = s.rotFirst ∧ (s.putTaken v).hazStall = s.hazStall ∧ (s.putTaken v).span = s.span ∧
    (s.putTaken v).spanOut = s.spanOut ∧ (s.putTaken v).spanIn = s.spanIn ∧ (s.putTaken v).resOut = s.resOut ∧
    (s.putTaken v).jobs = s.jobs ∧ (s.putTaken v).finishing = s.finishing ∧ (s.putTaken v).greads = s.greads ∧
    (s.putTaken v).spanNum = s.spanNum ∧ (s.putTaken v).spanArr = s.spanArr ∧ (s.putTaken v).dups = s.dups ∧
    (s.putTaken v).dupGen = s.dupGen ∧ (s.putTaken v).rlogPos = s.rlogPos ∧ (s.putTaken v).members = s.members ∧
    (s.putTaken v).peerVia = s.peerVia ∧ (s.putTaken v).groups = s.groups ∧ (s.putTaken v).peerBound = s.peerBound ∧
    (s.putTaken v).returned = s.returned ∧ (s.putTaken v).lostRanges = s.lostRanges ∧ (s.putTaken v).wmap = s.wmap ∧
    (s.putTaken v).wfin = s.wfin ∧ (s.putTaken v).wheld = s.wheld ∧ (s.putTaken v).preserve = s.preserve ∧
    (s.putTaken v).kept = s.kept ∧ (s.putTaken v).metaOpen = s.metaOpen ∧ (s.putTaken v).portA = s.portA ∧
    (s.putTaken v).restartDue = s.restartDue ∧ (s.putTaken v).pings = s.pings ∧ (s.putTaken v).chain = s.chain ∧
    (s.putTaken v).position = s.position ∧ (s.putTaken v).power = s.power ∧ (s.putTaken v).powerOp = s.powerOp ∧
    (s.putTaken v).fsn = s.fsn ∧ (s.putTaken v).ns = s.ns ∧ (s.putTaken v).volCap = s.volCap ∧
    (s.putTaken v).rsv = s.rsv ∧ (s.putTaken v).tokCount = s.tokCount ∧ (s.putTaken v).fullZones = s.fullZones ∧
    (s.putTaken v).fam = s.fam ∧ (s.putTaken v).params = s.params ∧ (s.putTaken v).alm = s.alm ∧
    (s.putTaken v).domeEntry = s.domeEntry ∧ (s.putTaken v).domeWake = s.domeWake ∧
    (s.putTaken v).domeAgreed = s.domeAgreed ∧ (s.putTaken v).readAt = s.readAt ∧
    (s.putTaken v).sensorFail = s.sensorFail ∧ (s.putTaken v).tripCount = s.tripCount ∧ (s.putTaken v).rise = s.rise ∧
    (s.putTaken v).stopped = s.stopped ∧ (s.putTaken v).coolSince = s.coolSince ∧ (s.putTaken v).events = s.events ∧
    (s.putTaken v).dies = s.dies ∧ (s.putTaken v).chans = s.chans ∧ (s.putTaken v).accs = s.accs ∧
    (s.putTaken v).ldpc = s.ldpc ∧ (s.putTaken v).nand = s.nand ∧ (s.putTaken v).blkErased = s.blkErased ∧
    (s.putTaken v).vault = s.vault ∧ (s.putTaken v).sessions = s.sessions ∧
    (s.putTaken v).trngRestarts = s.trngRestarts ∧ (s.putTaken v).drbgLeft = s.drbgLeft ∧
    (s.putTaken v).imageId = s.imageId ∧ (s.putTaken v).verFuses = s.verFuses ∧ (s.putTaken v).nsInfo = s.nsInfo ∧
    (s.putTaken v).care = s.care ∧ (s.putTaken v).history = s.history ∧ (s.putTaken v).fw = s.fw ∧
    (s.putTaken v).trust = s.trust ∧ (s.putTaken v).fdp = s.fdp ∧ (s.putTaken v).lostGen = s.lostGen ∧
    (s.putTaken v).lostAgain = s.lostAgain ∧ (s.putTaken v).accum = s.accum ∧ (s.putTaken v).boundSent = s.boundSent ∧
    (s.putTaken v).zoneUsed = s.zoneUsed ∧ (s.putTaken v).clean = s.clean :=
  ⟨rfl, rfl, rfl, rfl, rfl, rfl, rfl, rfl, rfl, rfl, rfl, rfl, rfl, rfl, rfl, rfl, rfl, rfl, rfl, rfl, rfl, rfl, rfl,
  rfl, rfl, rfl, rfl, rfl, rfl, rfl, rfl, rfl, rfl, rfl, rfl, rfl, rfl, rfl, rfl, rfl, rfl, rfl, rfl, rfl, rfl, rfl,
  rfl, rfl, rfl, rfl, rfl, rfl, rfl, rfl, rfl, rfl, rfl, rfl, rfl, rfl, rfl, rfl, rfl, rfl, rfl, rfl, rfl, rfl, rfl,
  rfl, rfl, rfl, rfl, rfl, rfl, rfl, rfl, rfl, rfl, rfl, rfl, rfl, rfl, rfl, rfl, rfl, rfl, rfl, rfl, rfl, rfl, rfl,
  rfl, rfl, rfl, rfl, rfl, rfl, rfl, rfl, rfl, rfl, rfl, rfl, rfl, rfl, rfl, rfl, rfl, rfl, rfl, rfl, rfl, rfl, rfl,
  rfl, rfl, rfl, rfl, rfl, rfl, rfl, rfl, rfl⟩

@[simp] theorem State.putTaken_taken (s : State) (v : FMap Nat) : (s.putTaken v).taken = v := rfl

@[simp] theorem State.putFetchLeft_frame (s : State) (v : Nat) :
    (s.putFetchLeft v).pending = s.pending ∧ (s.putFetchLeft v).free = s.free ∧ (s.putFetchLeft v).out = s.out ∧
    (s.putFetchLeft v).boot = s.boot ∧ (s.putFetchLeft v).tick = s.tick ∧ (s.putFetchLeft v).win = s.win ∧
    (s.putFetchLeft v).gap = s.gap ∧ (s.putFetchLeft v).regs = s.regs ∧ (s.putFetchLeft v).regPend = s.regPend ∧
    (s.putFetchLeft v).cores = s.cores ∧ (s.putFetchLeft v).cluster = s.cluster ∧ (s.putFetchLeft v).tun = s.tun ∧
    (s.putFetchLeft v).tunBufs = s.tunBufs ∧ (s.putFetchLeft v).tunMin = s.tunMin ∧
    (s.putFetchLeft v).tunMinPend = s.tunMinPend ∧ (s.putFetchLeft v).sramErr = s.sramErr ∧
    (s.putFetchLeft v).heldBack = s.heldBack ∧ (s.putFetchLeft v).rtHit = s.rtHit ∧
    (s.putFetchLeft v).rtClock = s.rtClock ∧ (s.putFetchLeft v).rtUntracked = s.rtUntracked ∧
    (s.putFetchLeft v).dram = s.dram ∧ (s.putFetchLeft v).dr = s.dr ∧ (s.putFetchLeft v).poison = s.poison ∧
    (s.putFetchLeft v).ingot = s.ingot ∧ (s.putFetchLeft v).nor = s.nor ∧ (s.putFetchLeft v).norUnk = s.norUnk ∧
    (s.putFetchLeft v).pat = s.pat ∧ (s.putFetchLeft v).tdly = s.tdly ∧ (s.putFetchLeft v).scrub = s.scrub ∧
    (s.putFetchLeft v).fbuf = s.fbuf ∧ (s.putFetchLeft v).rings = s.rings ∧ (s.putFetchLeft v).haz = s.haz ∧
    (s.putFetchLeft v).marks = s.marks ∧ (s.putFetchLeft v).wsnFloor = s.wsnFloor ∧
    (s.putFetchLeft v).health = s.health ∧ (s.putFetchLeft v).qPend = s.qPend ∧ (s.putFetchLeft v).reqs = s.reqs ∧
    (s.putFetchLeft v).aborts = s.aborts ∧ (s.putFetchLeft v).gateShut = s.gateShut ∧ (s.putFetchLeft v).sqs = s.sqs ∧
    (s.putFetchLeft v).cqs = s.cqs ∧ (s.putFetchLeft v).cmds = s.cmds ∧ (s.putFetchLeft v).resets = s.resets ∧
    (s.putFetchLeft v).ctrls = s.ctrls ∧ (s.putFetchLeft v).arbs = s.arbs ∧ (s.putFetchLeft v).credit = s.credit ∧
    (s.putFetchLeft v).taken = s.taken ∧ (s.putFetchLeft v).rotLast = s.rotLast ∧
    (s.putFetchLeft v).rotFirst = s.rotFirst ∧ (s.putFetchLeft v).hazStall = s.hazStall ∧
    (s.putFetchLeft v).span = s.span ∧ (s.putFetchLeft v).spanOut = s.spanOut ∧ (s.putFetchLeft v).spanIn = s.spanIn ∧
    (s.putFetchLeft v).resOut = s.resOut ∧ (s.putFetchLeft v).jobs = s.jobs ∧
    (s.putFetchLeft v).finishing = s.finishing ∧ (s.putFetchLeft v).greads = s.greads ∧
    (s.putFetchLeft v).spanNum = s.spanNum ∧ (s.putFetchLeft v).spanArr = s.spanArr ∧ (s.putFetchLeft v).dups = s.dups ∧
    (s.putFetchLeft v).dupGen = s.dupGen ∧ (s.putFetchLeft v).rlogPos = s.rlogPos ∧
    (s.putFetchLeft v).members = s.members ∧ (s.putFetchLeft v).peerVia = s.peerVia ∧
    (s.putFetchLeft v).groups = s.groups ∧ (s.putFetchLeft v).peerBound = s.peerBound ∧
    (s.putFetchLeft v).returned = s.returned ∧ (s.putFetchLeft v).lostRanges = s.lostRanges ∧
    (s.putFetchLeft v).wmap = s.wmap ∧ (s.putFetchLeft v).wfin = s.wfin ∧ (s.putFetchLeft v).wheld = s.wheld ∧
    (s.putFetchLeft v).preserve = s.preserve ∧ (s.putFetchLeft v).kept = s.kept ∧
    (s.putFetchLeft v).metaOpen = s.metaOpen ∧ (s.putFetchLeft v).portA = s.portA ∧
    (s.putFetchLeft v).restartDue = s.restartDue ∧ (s.putFetchLeft v).pings = s.pings ∧
    (s.putFetchLeft v).chain = s.chain ∧ (s.putFetchLeft v).position = s.position ∧ (s.putFetchLeft v).power = s.power ∧
    (s.putFetchLeft v).powerOp = s.powerOp ∧ (s.putFetchLeft v).fsn = s.fsn ∧ (s.putFetchLeft v).ns = s.ns ∧
    (s.putFetchLeft v).volCap = s.volCap ∧ (s.putFetchLeft v).rsv = s.rsv ∧ (s.putFetchLeft v).tokCount = s.tokCount ∧
    (s.putFetchLeft v).fullZones = s.fullZones ∧ (s.putFetchLeft v).fam = s.fam ∧ (s.putFetchLeft v).params = s.params ∧
    (s.putFetchLeft v).alm = s.alm ∧ (s.putFetchLeft v).domeEntry = s.domeEntry ∧
    (s.putFetchLeft v).domeWake = s.domeWake ∧ (s.putFetchLeft v).domeAgreed = s.domeAgreed ∧
    (s.putFetchLeft v).readAt = s.readAt ∧ (s.putFetchLeft v).sensorFail = s.sensorFail ∧
    (s.putFetchLeft v).tripCount = s.tripCount ∧ (s.putFetchLeft v).rise = s.rise ∧
    (s.putFetchLeft v).stopped = s.stopped ∧ (s.putFetchLeft v).coolSince = s.coolSince ∧
    (s.putFetchLeft v).events = s.events ∧ (s.putFetchLeft v).dies = s.dies ∧ (s.putFetchLeft v).chans = s.chans ∧
    (s.putFetchLeft v).accs = s.accs ∧ (s.putFetchLeft v).ldpc = s.ldpc ∧ (s.putFetchLeft v).nand = s.nand ∧
    (s.putFetchLeft v).blkErased = s.blkErased ∧ (s.putFetchLeft v).vault = s.vault ∧
    (s.putFetchLeft v).sessions = s.sessions ∧ (s.putFetchLeft v).trngRestarts = s.trngRestarts ∧
    (s.putFetchLeft v).drbgLeft = s.drbgLeft ∧ (s.putFetchLeft v).imageId = s.imageId ∧
    (s.putFetchLeft v).verFuses = s.verFuses ∧ (s.putFetchLeft v).nsInfo = s.nsInfo ∧ (s.putFetchLeft v).care = s.care ∧
    (s.putFetchLeft v).history = s.history ∧ (s.putFetchLeft v).fw = s.fw ∧ (s.putFetchLeft v).trust = s.trust ∧
    (s.putFetchLeft v).fdp = s.fdp ∧ (s.putFetchLeft v).lostGen = s.lostGen ∧
    (s.putFetchLeft v).lostAgain = s.lostAgain ∧ (s.putFetchLeft v).accum = s.accum ∧
    (s.putFetchLeft v).boundSent = s.boundSent ∧ (s.putFetchLeft v).zoneUsed = s.zoneUsed ∧
    (s.putFetchLeft v).clean = s.clean :=
  ⟨rfl, rfl, rfl, rfl, rfl, rfl, rfl, rfl, rfl, rfl, rfl, rfl, rfl, rfl, rfl, rfl, rfl, rfl, rfl, rfl, rfl, rfl, rfl,
  rfl, rfl, rfl, rfl, rfl, rfl, rfl, rfl, rfl, rfl, rfl, rfl, rfl, rfl, rfl, rfl, rfl, rfl, rfl, rfl, rfl, rfl, rfl,
  rfl, rfl, rfl, rfl, rfl, rfl, rfl, rfl, rfl, rfl, rfl, rfl, rfl, rfl, rfl, rfl, rfl, rfl, rfl, rfl, rfl, rfl, rfl,
  rfl, rfl, rfl, rfl, rfl, rfl, rfl, rfl, rfl, rfl, rfl, rfl, rfl, rfl, rfl, rfl, rfl, rfl, rfl, rfl, rfl, rfl, rfl,
  rfl, rfl, rfl, rfl, rfl, rfl, rfl, rfl, rfl, rfl, rfl, rfl, rfl, rfl, rfl, rfl, rfl, rfl, rfl, rfl, rfl, rfl, rfl,
  rfl, rfl, rfl, rfl, rfl, rfl, rfl, rfl, rfl⟩

@[simp] theorem State.putFetchLeft_fetchLeft (s : State) (v : Nat) : (s.putFetchLeft v).fetchLeft = v := rfl

@[simp] theorem State.putRotLast_frame (s : State) (v : Nat) :
    (s.putRotLast v).pending = s.pending ∧ (s.putRotLast v).free = s.free ∧ (s.putRotLast v).out = s.out ∧
    (s.putRotLast v).boot = s.boot ∧ (s.putRotLast v).tick = s.tick ∧ (s.putRotLast v).win = s.win ∧
    (s.putRotLast v).gap = s.gap ∧ (s.putRotLast v).regs = s.regs ∧ (s.putRotLast v).regPend = s.regPend ∧
    (s.putRotLast v).cores = s.cores ∧ (s.putRotLast v).cluster = s.cluster ∧ (s.putRotLast v).tun = s.tun ∧
    (s.putRotLast v).tunBufs = s.tunBufs ∧ (s.putRotLast v).tunMin = s.tunMin ∧
    (s.putRotLast v).tunMinPend = s.tunMinPend ∧ (s.putRotLast v).sramErr = s.sramErr ∧
    (s.putRotLast v).heldBack = s.heldBack ∧ (s.putRotLast v).rtHit = s.rtHit ∧ (s.putRotLast v).rtClock = s.rtClock ∧
    (s.putRotLast v).rtUntracked = s.rtUntracked ∧ (s.putRotLast v).dram = s.dram ∧ (s.putRotLast v).dr = s.dr ∧
    (s.putRotLast v).poison = s.poison ∧ (s.putRotLast v).ingot = s.ingot ∧ (s.putRotLast v).nor = s.nor ∧
    (s.putRotLast v).norUnk = s.norUnk ∧ (s.putRotLast v).pat = s.pat ∧ (s.putRotLast v).tdly = s.tdly ∧
    (s.putRotLast v).scrub = s.scrub ∧ (s.putRotLast v).fbuf = s.fbuf ∧ (s.putRotLast v).rings = s.rings ∧
    (s.putRotLast v).haz = s.haz ∧ (s.putRotLast v).marks = s.marks ∧ (s.putRotLast v).wsnFloor = s.wsnFloor ∧
    (s.putRotLast v).health = s.health ∧ (s.putRotLast v).qPend = s.qPend ∧ (s.putRotLast v).reqs = s.reqs ∧
    (s.putRotLast v).aborts = s.aborts ∧ (s.putRotLast v).gateShut = s.gateShut ∧ (s.putRotLast v).sqs = s.sqs ∧
    (s.putRotLast v).cqs = s.cqs ∧ (s.putRotLast v).cmds = s.cmds ∧ (s.putRotLast v).resets = s.resets ∧
    (s.putRotLast v).ctrls = s.ctrls ∧ (s.putRotLast v).arbs = s.arbs ∧ (s.putRotLast v).credit = s.credit ∧
    (s.putRotLast v).taken = s.taken ∧ (s.putRotLast v).fetchLeft = s.fetchLeft ∧
    (s.putRotLast v).rotFirst = s.rotFirst ∧ (s.putRotLast v).hazStall = s.hazStall ∧ (s.putRotLast v).span = s.span ∧
    (s.putRotLast v).spanOut = s.spanOut ∧ (s.putRotLast v).spanIn = s.spanIn ∧ (s.putRotLast v).resOut = s.resOut ∧
    (s.putRotLast v).jobs = s.jobs ∧ (s.putRotLast v).finishing = s.finishing ∧ (s.putRotLast v).greads = s.greads ∧
    (s.putRotLast v).spanNum = s.spanNum ∧ (s.putRotLast v).spanArr = s.spanArr ∧ (s.putRotLast v).dups = s.dups ∧
    (s.putRotLast v).dupGen = s.dupGen ∧ (s.putRotLast v).rlogPos = s.rlogPos ∧ (s.putRotLast v).members = s.members ∧
    (s.putRotLast v).peerVia = s.peerVia ∧ (s.putRotLast v).groups = s.groups ∧
    (s.putRotLast v).peerBound = s.peerBound ∧ (s.putRotLast v).returned = s.returned ∧
    (s.putRotLast v).lostRanges = s.lostRanges ∧ (s.putRotLast v).wmap = s.wmap ∧ (s.putRotLast v).wfin = s.wfin ∧
    (s.putRotLast v).wheld = s.wheld ∧ (s.putRotLast v).preserve = s.preserve ∧ (s.putRotLast v).kept = s.kept ∧
    (s.putRotLast v).metaOpen = s.metaOpen ∧ (s.putRotLast v).portA = s.portA ∧
    (s.putRotLast v).restartDue = s.restartDue ∧ (s.putRotLast v).pings = s.pings ∧ (s.putRotLast v).chain = s.chain ∧
    (s.putRotLast v).position = s.position ∧ (s.putRotLast v).power = s.power ∧ (s.putRotLast v).powerOp = s.powerOp ∧
    (s.putRotLast v).fsn = s.fsn ∧ (s.putRotLast v).ns = s.ns ∧ (s.putRotLast v).volCap = s.volCap ∧
    (s.putRotLast v).rsv = s.rsv ∧ (s.putRotLast v).tokCount = s.tokCount ∧ (s.putRotLast v).fullZones = s.fullZones ∧
    (s.putRotLast v).fam = s.fam ∧ (s.putRotLast v).params = s.params ∧ (s.putRotLast v).alm = s.alm ∧
    (s.putRotLast v).domeEntry = s.domeEntry ∧ (s.putRotLast v).domeWake = s.domeWake ∧
    (s.putRotLast v).domeAgreed = s.domeAgreed ∧ (s.putRotLast v).readAt = s.readAt ∧
    (s.putRotLast v).sensorFail = s.sensorFail ∧ (s.putRotLast v).tripCount = s.tripCount ∧
    (s.putRotLast v).rise = s.rise ∧ (s.putRotLast v).stopped = s.stopped ∧ (s.putRotLast v).coolSince = s.coolSince ∧
    (s.putRotLast v).events = s.events ∧ (s.putRotLast v).dies = s.dies ∧ (s.putRotLast v).chans = s.chans ∧
    (s.putRotLast v).accs = s.accs ∧ (s.putRotLast v).ldpc = s.ldpc ∧ (s.putRotLast v).nand = s.nand ∧
    (s.putRotLast v).blkErased = s.blkErased ∧ (s.putRotLast v).vault = s.vault ∧
    (s.putRotLast v).sessions = s.sessions ∧ (s.putRotLast v).trngRestarts = s.trngRestarts ∧
    (s.putRotLast v).drbgLeft = s.drbgLeft ∧ (s.putRotLast v).imageId = s.imageId ∧
    (s.putRotLast v).verFuses = s.verFuses ∧ (s.putRotLast v).nsInfo = s.nsInfo ∧ (s.putRotLast v).care = s.care ∧
    (s.putRotLast v).history = s.history ∧ (s.putRotLast v).fw = s.fw ∧ (s.putRotLast v).trust = s.trust ∧
    (s.putRotLast v).fdp = s.fdp ∧ (s.putRotLast v).lostGen = s.lostGen ∧ (s.putRotLast v).lostAgain = s.lostAgain ∧
    (s.putRotLast v).accum = s.accum ∧ (s.putRotLast v).boundSent = s.boundSent ∧
    (s.putRotLast v).zoneUsed = s.zoneUsed ∧ (s.putRotLast v).clean = s.clean :=
  ⟨rfl, rfl, rfl, rfl, rfl, rfl, rfl, rfl, rfl, rfl, rfl, rfl, rfl, rfl, rfl, rfl, rfl, rfl, rfl, rfl, rfl, rfl, rfl,
  rfl, rfl, rfl, rfl, rfl, rfl, rfl, rfl, rfl, rfl, rfl, rfl, rfl, rfl, rfl, rfl, rfl, rfl, rfl, rfl, rfl, rfl, rfl,
  rfl, rfl, rfl, rfl, rfl, rfl, rfl, rfl, rfl, rfl, rfl, rfl, rfl, rfl, rfl, rfl, rfl, rfl, rfl, rfl, rfl, rfl, rfl,
  rfl, rfl, rfl, rfl, rfl, rfl, rfl, rfl, rfl, rfl, rfl, rfl, rfl, rfl, rfl, rfl, rfl, rfl, rfl, rfl, rfl, rfl, rfl,
  rfl, rfl, rfl, rfl, rfl, rfl, rfl, rfl, rfl, rfl, rfl, rfl, rfl, rfl, rfl, rfl, rfl, rfl, rfl, rfl, rfl, rfl, rfl,
  rfl, rfl, rfl, rfl, rfl, rfl, rfl, rfl, rfl⟩

@[simp] theorem State.putRotLast_rotLast (s : State) (v : Nat) : (s.putRotLast v).rotLast = v := rfl

@[simp] theorem State.putRotFirst_frame (s : State) (v : Option Nat) :
    (s.putRotFirst v).pending = s.pending ∧ (s.putRotFirst v).free = s.free ∧ (s.putRotFirst v).out = s.out ∧
    (s.putRotFirst v).boot = s.boot ∧ (s.putRotFirst v).tick = s.tick ∧ (s.putRotFirst v).win = s.win ∧
    (s.putRotFirst v).gap = s.gap ∧ (s.putRotFirst v).regs = s.regs ∧ (s.putRotFirst v).regPend = s.regPend ∧
    (s.putRotFirst v).cores = s.cores ∧ (s.putRotFirst v).cluster = s.cluster ∧ (s.putRotFirst v).tun = s.tun ∧
    (s.putRotFirst v).tunBufs = s.tunBufs ∧ (s.putRotFirst v).tunMin = s.tunMin ∧
    (s.putRotFirst v).tunMinPend = s.tunMinPend ∧ (s.putRotFirst v).sramErr = s.sramErr ∧
    (s.putRotFirst v).heldBack = s.heldBack ∧ (s.putRotFirst v).rtHit = s.rtHit ∧ (s.putRotFirst v).rtClock = s.rtClock ∧
    (s.putRotFirst v).rtUntracked = s.rtUntracked ∧ (s.putRotFirst v).dram = s.dram ∧ (s.putRotFirst v).dr = s.dr ∧
    (s.putRotFirst v).poison = s.poison ∧ (s.putRotFirst v).ingot = s.ingot ∧ (s.putRotFirst v).nor = s.nor ∧
    (s.putRotFirst v).norUnk = s.norUnk ∧ (s.putRotFirst v).pat = s.pat ∧ (s.putRotFirst v).tdly = s.tdly ∧
    (s.putRotFirst v).scrub = s.scrub ∧ (s.putRotFirst v).fbuf = s.fbuf ∧ (s.putRotFirst v).rings = s.rings ∧
    (s.putRotFirst v).haz = s.haz ∧ (s.putRotFirst v).marks = s.marks ∧ (s.putRotFirst v).wsnFloor = s.wsnFloor ∧
    (s.putRotFirst v).health = s.health ∧ (s.putRotFirst v).qPend = s.qPend ∧ (s.putRotFirst v).reqs = s.reqs ∧
    (s.putRotFirst v).aborts = s.aborts ∧ (s.putRotFirst v).gateShut = s.gateShut ∧ (s.putRotFirst v).sqs = s.sqs ∧
    (s.putRotFirst v).cqs = s.cqs ∧ (s.putRotFirst v).cmds = s.cmds ∧ (s.putRotFirst v).resets = s.resets ∧
    (s.putRotFirst v).ctrls = s.ctrls ∧ (s.putRotFirst v).arbs = s.arbs ∧ (s.putRotFirst v).credit = s.credit ∧
    (s.putRotFirst v).taken = s.taken ∧ (s.putRotFirst v).fetchLeft = s.fetchLeft ∧
    (s.putRotFirst v).rotLast = s.rotLast ∧ (s.putRotFirst v).hazStall = s.hazStall ∧ (s.putRotFirst v).span = s.span ∧
    (s.putRotFirst v).spanOut = s.spanOut ∧ (s.putRotFirst v).spanIn = s.spanIn ∧ (s.putRotFirst v).resOut = s.resOut ∧
    (s.putRotFirst v).jobs = s.jobs ∧ (s.putRotFirst v).finishing = s.finishing ∧ (s.putRotFirst v).greads = s.greads ∧
    (s.putRotFirst v).spanNum = s.spanNum ∧ (s.putRotFirst v).spanArr = s.spanArr ∧ (s.putRotFirst v).dups = s.dups ∧
    (s.putRotFirst v).dupGen = s.dupGen ∧ (s.putRotFirst v).rlogPos = s.rlogPos ∧ (s.putRotFirst v).members = s.members ∧
    (s.putRotFirst v).peerVia = s.peerVia ∧ (s.putRotFirst v).groups = s.groups ∧
    (s.putRotFirst v).peerBound = s.peerBound ∧ (s.putRotFirst v).returned = s.returned ∧
    (s.putRotFirst v).lostRanges = s.lostRanges ∧ (s.putRotFirst v).wmap = s.wmap ∧ (s.putRotFirst v).wfin = s.wfin ∧
    (s.putRotFirst v).wheld = s.wheld ∧ (s.putRotFirst v).preserve = s.preserve ∧ (s.putRotFirst v).kept = s.kept ∧
    (s.putRotFirst v).metaOpen = s.metaOpen ∧ (s.putRotFirst v).portA = s.portA ∧
    (s.putRotFirst v).restartDue = s.restartDue ∧ (s.putRotFirst v).pings = s.pings ∧ (s.putRotFirst v).chain = s.chain ∧
    (s.putRotFirst v).position = s.position ∧ (s.putRotFirst v).power = s.power ∧ (s.putRotFirst v).powerOp = s.powerOp ∧
    (s.putRotFirst v).fsn = s.fsn ∧ (s.putRotFirst v).ns = s.ns ∧ (s.putRotFirst v).volCap = s.volCap ∧
    (s.putRotFirst v).rsv = s.rsv ∧ (s.putRotFirst v).tokCount = s.tokCount ∧ (s.putRotFirst v).fullZones = s.fullZones ∧
    (s.putRotFirst v).fam = s.fam ∧ (s.putRotFirst v).params = s.params ∧ (s.putRotFirst v).alm = s.alm ∧
    (s.putRotFirst v).domeEntry = s.domeEntry ∧ (s.putRotFirst v).domeWake = s.domeWake ∧
    (s.putRotFirst v).domeAgreed = s.domeAgreed ∧ (s.putRotFirst v).readAt = s.readAt ∧
    (s.putRotFirst v).sensorFail = s.sensorFail ∧ (s.putRotFirst v).tripCount = s.tripCount ∧
    (s.putRotFirst v).rise = s.rise ∧ (s.putRotFirst v).stopped = s.stopped ∧ (s.putRotFirst v).coolSince = s.coolSince ∧
    (s.putRotFirst v).events = s.events ∧ (s.putRotFirst v).dies = s.dies ∧ (s.putRotFirst v).chans = s.chans ∧
    (s.putRotFirst v).accs = s.accs ∧ (s.putRotFirst v).ldpc = s.ldpc ∧ (s.putRotFirst v).nand = s.nand ∧
    (s.putRotFirst v).blkErased = s.blkErased ∧ (s.putRotFirst v).vault = s.vault ∧
    (s.putRotFirst v).sessions = s.sessions ∧ (s.putRotFirst v).trngRestarts = s.trngRestarts ∧
    (s.putRotFirst v).drbgLeft = s.drbgLeft ∧ (s.putRotFirst v).imageId = s.imageId ∧
    (s.putRotFirst v).verFuses = s.verFuses ∧ (s.putRotFirst v).nsInfo = s.nsInfo ∧ (s.putRotFirst v).care = s.care ∧
    (s.putRotFirst v).history = s.history ∧ (s.putRotFirst v).fw = s.fw ∧ (s.putRotFirst v).trust = s.trust ∧
    (s.putRotFirst v).fdp = s.fdp ∧ (s.putRotFirst v).lostGen = s.lostGen ∧ (s.putRotFirst v).lostAgain = s.lostAgain ∧
    (s.putRotFirst v).accum = s.accum ∧ (s.putRotFirst v).boundSent = s.boundSent ∧
    (s.putRotFirst v).zoneUsed = s.zoneUsed ∧ (s.putRotFirst v).clean = s.clean :=
  ⟨rfl, rfl, rfl, rfl, rfl, rfl, rfl, rfl, rfl, rfl, rfl, rfl, rfl, rfl, rfl, rfl, rfl, rfl, rfl, rfl, rfl, rfl, rfl,
  rfl, rfl, rfl, rfl, rfl, rfl, rfl, rfl, rfl, rfl, rfl, rfl, rfl, rfl, rfl, rfl, rfl, rfl, rfl, rfl, rfl, rfl, rfl,
  rfl, rfl, rfl, rfl, rfl, rfl, rfl, rfl, rfl, rfl, rfl, rfl, rfl, rfl, rfl, rfl, rfl, rfl, rfl, rfl, rfl, rfl, rfl,
  rfl, rfl, rfl, rfl, rfl, rfl, rfl, rfl, rfl, rfl, rfl, rfl, rfl, rfl, rfl, rfl, rfl, rfl, rfl, rfl, rfl, rfl, rfl,
  rfl, rfl, rfl, rfl, rfl, rfl, rfl, rfl, rfl, rfl, rfl, rfl, rfl, rfl, rfl, rfl, rfl, rfl, rfl, rfl, rfl, rfl, rfl,
  rfl, rfl, rfl, rfl, rfl, rfl, rfl, rfl, rfl⟩

@[simp] theorem State.putRotFirst_rotFirst (s : State) (v : Option Nat) : (s.putRotFirst v).rotFirst = v := rfl

@[simp] theorem State.putHazStall_frame (s : State) (v : List Nat) :
    (s.putHazStall v).pending = s.pending ∧ (s.putHazStall v).free = s.free ∧ (s.putHazStall v).out = s.out ∧
    (s.putHazStall v).boot = s.boot ∧ (s.putHazStall v).tick = s.tick ∧ (s.putHazStall v).win = s.win ∧
    (s.putHazStall v).gap = s.gap ∧ (s.putHazStall v).regs = s.regs ∧ (s.putHazStall v).regPend = s.regPend ∧
    (s.putHazStall v).cores = s.cores ∧ (s.putHazStall v).cluster = s.cluster ∧ (s.putHazStall v).tun = s.tun ∧
    (s.putHazStall v).tunBufs = s.tunBufs ∧ (s.putHazStall v).tunMin = s.tunMin ∧
    (s.putHazStall v).tunMinPend = s.tunMinPend ∧ (s.putHazStall v).sramErr = s.sramErr ∧
    (s.putHazStall v).heldBack = s.heldBack ∧ (s.putHazStall v).rtHit = s.rtHit ∧ (s.putHazStall v).rtClock = s.rtClock ∧
    (s.putHazStall v).rtUntracked = s.rtUntracked ∧ (s.putHazStall v).dram = s.dram ∧ (s.putHazStall v).dr = s.dr ∧
    (s.putHazStall v).poison = s.poison ∧ (s.putHazStall v).ingot = s.ingot ∧ (s.putHazStall v).nor = s.nor ∧
    (s.putHazStall v).norUnk = s.norUnk ∧ (s.putHazStall v).pat = s.pat ∧ (s.putHazStall v).tdly = s.tdly ∧
    (s.putHazStall v).scrub = s.scrub ∧ (s.putHazStall v).fbuf = s.fbuf ∧ (s.putHazStall v).rings = s.rings ∧
    (s.putHazStall v).haz = s.haz ∧ (s.putHazStall v).marks = s.marks ∧ (s.putHazStall v).wsnFloor = s.wsnFloor ∧
    (s.putHazStall v).health = s.health ∧ (s.putHazStall v).qPend = s.qPend ∧ (s.putHazStall v).reqs = s.reqs ∧
    (s.putHazStall v).aborts = s.aborts ∧ (s.putHazStall v).gateShut = s.gateShut ∧ (s.putHazStall v).sqs = s.sqs ∧
    (s.putHazStall v).cqs = s.cqs ∧ (s.putHazStall v).cmds = s.cmds ∧ (s.putHazStall v).resets = s.resets ∧
    (s.putHazStall v).ctrls = s.ctrls ∧ (s.putHazStall v).arbs = s.arbs ∧ (s.putHazStall v).credit = s.credit ∧
    (s.putHazStall v).taken = s.taken ∧ (s.putHazStall v).fetchLeft = s.fetchLeft ∧
    (s.putHazStall v).rotLast = s.rotLast ∧ (s.putHazStall v).rotFirst = s.rotFirst ∧ (s.putHazStall v).span = s.span ∧
    (s.putHazStall v).spanOut = s.spanOut ∧ (s.putHazStall v).spanIn = s.spanIn ∧ (s.putHazStall v).resOut = s.resOut ∧
    (s.putHazStall v).jobs = s.jobs ∧ (s.putHazStall v).finishing = s.finishing ∧ (s.putHazStall v).greads = s.greads ∧
    (s.putHazStall v).spanNum = s.spanNum ∧ (s.putHazStall v).spanArr = s.spanArr ∧ (s.putHazStall v).dups = s.dups ∧
    (s.putHazStall v).dupGen = s.dupGen ∧ (s.putHazStall v).rlogPos = s.rlogPos ∧ (s.putHazStall v).members = s.members ∧
    (s.putHazStall v).peerVia = s.peerVia ∧ (s.putHazStall v).groups = s.groups ∧
    (s.putHazStall v).peerBound = s.peerBound ∧ (s.putHazStall v).returned = s.returned ∧
    (s.putHazStall v).lostRanges = s.lostRanges ∧ (s.putHazStall v).wmap = s.wmap ∧ (s.putHazStall v).wfin = s.wfin ∧
    (s.putHazStall v).wheld = s.wheld ∧ (s.putHazStall v).preserve = s.preserve ∧ (s.putHazStall v).kept = s.kept ∧
    (s.putHazStall v).metaOpen = s.metaOpen ∧ (s.putHazStall v).portA = s.portA ∧
    (s.putHazStall v).restartDue = s.restartDue ∧ (s.putHazStall v).pings = s.pings ∧ (s.putHazStall v).chain = s.chain ∧
    (s.putHazStall v).position = s.position ∧ (s.putHazStall v).power = s.power ∧ (s.putHazStall v).powerOp = s.powerOp ∧
    (s.putHazStall v).fsn = s.fsn ∧ (s.putHazStall v).ns = s.ns ∧ (s.putHazStall v).volCap = s.volCap ∧
    (s.putHazStall v).rsv = s.rsv ∧ (s.putHazStall v).tokCount = s.tokCount ∧ (s.putHazStall v).fullZones = s.fullZones ∧
    (s.putHazStall v).fam = s.fam ∧ (s.putHazStall v).params = s.params ∧ (s.putHazStall v).alm = s.alm ∧
    (s.putHazStall v).domeEntry = s.domeEntry ∧ (s.putHazStall v).domeWake = s.domeWake ∧
    (s.putHazStall v).domeAgreed = s.domeAgreed ∧ (s.putHazStall v).readAt = s.readAt ∧
    (s.putHazStall v).sensorFail = s.sensorFail ∧ (s.putHazStall v).tripCount = s.tripCount ∧
    (s.putHazStall v).rise = s.rise ∧ (s.putHazStall v).stopped = s.stopped ∧ (s.putHazStall v).coolSince = s.coolSince ∧
    (s.putHazStall v).events = s.events ∧ (s.putHazStall v).dies = s.dies ∧ (s.putHazStall v).chans = s.chans ∧
    (s.putHazStall v).accs = s.accs ∧ (s.putHazStall v).ldpc = s.ldpc ∧ (s.putHazStall v).nand = s.nand ∧
    (s.putHazStall v).blkErased = s.blkErased ∧ (s.putHazStall v).vault = s.vault ∧
    (s.putHazStall v).sessions = s.sessions ∧ (s.putHazStall v).trngRestarts = s.trngRestarts ∧
    (s.putHazStall v).drbgLeft = s.drbgLeft ∧ (s.putHazStall v).imageId = s.imageId ∧
    (s.putHazStall v).verFuses = s.verFuses ∧ (s.putHazStall v).nsInfo = s.nsInfo ∧ (s.putHazStall v).care = s.care ∧
    (s.putHazStall v).history = s.history ∧ (s.putHazStall v).fw = s.fw ∧ (s.putHazStall v).trust = s.trust ∧
    (s.putHazStall v).fdp = s.fdp ∧ (s.putHazStall v).lostGen = s.lostGen ∧ (s.putHazStall v).lostAgain = s.lostAgain ∧
    (s.putHazStall v).accum = s.accum ∧ (s.putHazStall v).boundSent = s.boundSent ∧
    (s.putHazStall v).zoneUsed = s.zoneUsed ∧ (s.putHazStall v).clean = s.clean :=
  ⟨rfl, rfl, rfl, rfl, rfl, rfl, rfl, rfl, rfl, rfl, rfl, rfl, rfl, rfl, rfl, rfl, rfl, rfl, rfl, rfl, rfl, rfl, rfl,
  rfl, rfl, rfl, rfl, rfl, rfl, rfl, rfl, rfl, rfl, rfl, rfl, rfl, rfl, rfl, rfl, rfl, rfl, rfl, rfl, rfl, rfl, rfl,
  rfl, rfl, rfl, rfl, rfl, rfl, rfl, rfl, rfl, rfl, rfl, rfl, rfl, rfl, rfl, rfl, rfl, rfl, rfl, rfl, rfl, rfl, rfl,
  rfl, rfl, rfl, rfl, rfl, rfl, rfl, rfl, rfl, rfl, rfl, rfl, rfl, rfl, rfl, rfl, rfl, rfl, rfl, rfl, rfl, rfl, rfl,
  rfl, rfl, rfl, rfl, rfl, rfl, rfl, rfl, rfl, rfl, rfl, rfl, rfl, rfl, rfl, rfl, rfl, rfl, rfl, rfl, rfl, rfl, rfl,
  rfl, rfl, rfl, rfl, rfl, rfl, rfl, rfl, rfl⟩

@[simp] theorem State.putHazStall_hazStall (s : State) (v : List Nat) : (s.putHazStall v).hazStall = v := rfl

@[simp] theorem State.putSpan_frame (s : State) (v : FMap SpanPort) :
    (s.putSpan v).pending = s.pending ∧ (s.putSpan v).free = s.free ∧ (s.putSpan v).out = s.out ∧
    (s.putSpan v).boot = s.boot ∧ (s.putSpan v).tick = s.tick ∧ (s.putSpan v).win = s.win ∧ (s.putSpan v).gap = s.gap ∧
    (s.putSpan v).regs = s.regs ∧ (s.putSpan v).regPend = s.regPend ∧ (s.putSpan v).cores = s.cores ∧
    (s.putSpan v).cluster = s.cluster ∧ (s.putSpan v).tun = s.tun ∧ (s.putSpan v).tunBufs = s.tunBufs ∧
    (s.putSpan v).tunMin = s.tunMin ∧ (s.putSpan v).tunMinPend = s.tunMinPend ∧ (s.putSpan v).sramErr = s.sramErr ∧
    (s.putSpan v).heldBack = s.heldBack ∧ (s.putSpan v).rtHit = s.rtHit ∧ (s.putSpan v).rtClock = s.rtClock ∧
    (s.putSpan v).rtUntracked = s.rtUntracked ∧ (s.putSpan v).dram = s.dram ∧ (s.putSpan v).dr = s.dr ∧
    (s.putSpan v).poison = s.poison ∧ (s.putSpan v).ingot = s.ingot ∧ (s.putSpan v).nor = s.nor ∧
    (s.putSpan v).norUnk = s.norUnk ∧ (s.putSpan v).pat = s.pat ∧ (s.putSpan v).tdly = s.tdly ∧
    (s.putSpan v).scrub = s.scrub ∧ (s.putSpan v).fbuf = s.fbuf ∧ (s.putSpan v).rings = s.rings ∧
    (s.putSpan v).haz = s.haz ∧ (s.putSpan v).marks = s.marks ∧ (s.putSpan v).wsnFloor = s.wsnFloor ∧
    (s.putSpan v).health = s.health ∧ (s.putSpan v).qPend = s.qPend ∧ (s.putSpan v).reqs = s.reqs ∧
    (s.putSpan v).aborts = s.aborts ∧ (s.putSpan v).gateShut = s.gateShut ∧ (s.putSpan v).sqs = s.sqs ∧
    (s.putSpan v).cqs = s.cqs ∧ (s.putSpan v).cmds = s.cmds ∧ (s.putSpan v).resets = s.resets ∧
    (s.putSpan v).ctrls = s.ctrls ∧ (s.putSpan v).arbs = s.arbs ∧ (s.putSpan v).credit = s.credit ∧
    (s.putSpan v).taken = s.taken ∧ (s.putSpan v).fetchLeft = s.fetchLeft ∧ (s.putSpan v).rotLast = s.rotLast ∧
    (s.putSpan v).rotFirst = s.rotFirst ∧ (s.putSpan v).hazStall = s.hazStall ∧ (s.putSpan v).spanOut = s.spanOut ∧
    (s.putSpan v).spanIn = s.spanIn ∧ (s.putSpan v).resOut = s.resOut ∧ (s.putSpan v).jobs = s.jobs ∧
    (s.putSpan v).finishing = s.finishing ∧ (s.putSpan v).greads = s.greads ∧ (s.putSpan v).spanNum = s.spanNum ∧
    (s.putSpan v).spanArr = s.spanArr ∧ (s.putSpan v).dups = s.dups ∧ (s.putSpan v).dupGen = s.dupGen ∧
    (s.putSpan v).rlogPos = s.rlogPos ∧ (s.putSpan v).members = s.members ∧ (s.putSpan v).peerVia = s.peerVia ∧
    (s.putSpan v).groups = s.groups ∧ (s.putSpan v).peerBound = s.peerBound ∧ (s.putSpan v).returned = s.returned ∧
    (s.putSpan v).lostRanges = s.lostRanges ∧ (s.putSpan v).wmap = s.wmap ∧ (s.putSpan v).wfin = s.wfin ∧
    (s.putSpan v).wheld = s.wheld ∧ (s.putSpan v).preserve = s.preserve ∧ (s.putSpan v).kept = s.kept ∧
    (s.putSpan v).metaOpen = s.metaOpen ∧ (s.putSpan v).portA = s.portA ∧ (s.putSpan v).restartDue = s.restartDue ∧
    (s.putSpan v).pings = s.pings ∧ (s.putSpan v).chain = s.chain ∧ (s.putSpan v).position = s.position ∧
    (s.putSpan v).power = s.power ∧ (s.putSpan v).powerOp = s.powerOp ∧ (s.putSpan v).fsn = s.fsn ∧
    (s.putSpan v).ns = s.ns ∧ (s.putSpan v).volCap = s.volCap ∧ (s.putSpan v).rsv = s.rsv ∧
    (s.putSpan v).tokCount = s.tokCount ∧ (s.putSpan v).fullZones = s.fullZones ∧ (s.putSpan v).fam = s.fam ∧
    (s.putSpan v).params = s.params ∧ (s.putSpan v).alm = s.alm ∧ (s.putSpan v).domeEntry = s.domeEntry ∧
    (s.putSpan v).domeWake = s.domeWake ∧ (s.putSpan v).domeAgreed = s.domeAgreed ∧ (s.putSpan v).readAt = s.readAt ∧
    (s.putSpan v).sensorFail = s.sensorFail ∧ (s.putSpan v).tripCount = s.tripCount ∧ (s.putSpan v).rise = s.rise ∧
    (s.putSpan v).stopped = s.stopped ∧ (s.putSpan v).coolSince = s.coolSince ∧ (s.putSpan v).events = s.events ∧
    (s.putSpan v).dies = s.dies ∧ (s.putSpan v).chans = s.chans ∧ (s.putSpan v).accs = s.accs ∧
    (s.putSpan v).ldpc = s.ldpc ∧ (s.putSpan v).nand = s.nand ∧ (s.putSpan v).blkErased = s.blkErased ∧
    (s.putSpan v).vault = s.vault ∧ (s.putSpan v).sessions = s.sessions ∧ (s.putSpan v).trngRestarts = s.trngRestarts ∧
    (s.putSpan v).drbgLeft = s.drbgLeft ∧ (s.putSpan v).imageId = s.imageId ∧ (s.putSpan v).verFuses = s.verFuses ∧
    (s.putSpan v).nsInfo = s.nsInfo ∧ (s.putSpan v).care = s.care ∧ (s.putSpan v).history = s.history ∧
    (s.putSpan v).fw = s.fw ∧ (s.putSpan v).trust = s.trust ∧ (s.putSpan v).fdp = s.fdp ∧
    (s.putSpan v).lostGen = s.lostGen ∧ (s.putSpan v).lostAgain = s.lostAgain ∧ (s.putSpan v).accum = s.accum ∧
    (s.putSpan v).boundSent = s.boundSent ∧ (s.putSpan v).zoneUsed = s.zoneUsed ∧ (s.putSpan v).clean = s.clean :=
  ⟨rfl, rfl, rfl, rfl, rfl, rfl, rfl, rfl, rfl, rfl, rfl, rfl, rfl, rfl, rfl, rfl, rfl, rfl, rfl, rfl, rfl, rfl, rfl,
  rfl, rfl, rfl, rfl, rfl, rfl, rfl, rfl, rfl, rfl, rfl, rfl, rfl, rfl, rfl, rfl, rfl, rfl, rfl, rfl, rfl, rfl, rfl,
  rfl, rfl, rfl, rfl, rfl, rfl, rfl, rfl, rfl, rfl, rfl, rfl, rfl, rfl, rfl, rfl, rfl, rfl, rfl, rfl, rfl, rfl, rfl,
  rfl, rfl, rfl, rfl, rfl, rfl, rfl, rfl, rfl, rfl, rfl, rfl, rfl, rfl, rfl, rfl, rfl, rfl, rfl, rfl, rfl, rfl, rfl,
  rfl, rfl, rfl, rfl, rfl, rfl, rfl, rfl, rfl, rfl, rfl, rfl, rfl, rfl, rfl, rfl, rfl, rfl, rfl, rfl, rfl, rfl, rfl,
  rfl, rfl, rfl, rfl, rfl, rfl, rfl, rfl, rfl⟩

@[simp] theorem State.putSpan_span (s : State) (v : FMap SpanPort) : (s.putSpan v).span = v := rfl

@[simp] theorem State.putSpanOut_frame (s : State) (v : List SpanTx) :
    (s.putSpanOut v).pending = s.pending ∧ (s.putSpanOut v).free = s.free ∧ (s.putSpanOut v).out = s.out ∧
    (s.putSpanOut v).boot = s.boot ∧ (s.putSpanOut v).tick = s.tick ∧ (s.putSpanOut v).win = s.win ∧
    (s.putSpanOut v).gap = s.gap ∧ (s.putSpanOut v).regs = s.regs ∧ (s.putSpanOut v).regPend = s.regPend ∧
    (s.putSpanOut v).cores = s.cores ∧ (s.putSpanOut v).cluster = s.cluster ∧ (s.putSpanOut v).tun = s.tun ∧
    (s.putSpanOut v).tunBufs = s.tunBufs ∧ (s.putSpanOut v).tunMin = s.tunMin ∧
    (s.putSpanOut v).tunMinPend = s.tunMinPend ∧ (s.putSpanOut v).sramErr = s.sramErr ∧
    (s.putSpanOut v).heldBack = s.heldBack ∧ (s.putSpanOut v).rtHit = s.rtHit ∧ (s.putSpanOut v).rtClock = s.rtClock ∧
    (s.putSpanOut v).rtUntracked = s.rtUntracked ∧ (s.putSpanOut v).dram = s.dram ∧ (s.putSpanOut v).dr = s.dr ∧
    (s.putSpanOut v).poison = s.poison ∧ (s.putSpanOut v).ingot = s.ingot ∧ (s.putSpanOut v).nor = s.nor ∧
    (s.putSpanOut v).norUnk = s.norUnk ∧ (s.putSpanOut v).pat = s.pat ∧ (s.putSpanOut v).tdly = s.tdly ∧
    (s.putSpanOut v).scrub = s.scrub ∧ (s.putSpanOut v).fbuf = s.fbuf ∧ (s.putSpanOut v).rings = s.rings ∧
    (s.putSpanOut v).haz = s.haz ∧ (s.putSpanOut v).marks = s.marks ∧ (s.putSpanOut v).wsnFloor = s.wsnFloor ∧
    (s.putSpanOut v).health = s.health ∧ (s.putSpanOut v).qPend = s.qPend ∧ (s.putSpanOut v).reqs = s.reqs ∧
    (s.putSpanOut v).aborts = s.aborts ∧ (s.putSpanOut v).gateShut = s.gateShut ∧ (s.putSpanOut v).sqs = s.sqs ∧
    (s.putSpanOut v).cqs = s.cqs ∧ (s.putSpanOut v).cmds = s.cmds ∧ (s.putSpanOut v).resets = s.resets ∧
    (s.putSpanOut v).ctrls = s.ctrls ∧ (s.putSpanOut v).arbs = s.arbs ∧ (s.putSpanOut v).credit = s.credit ∧
    (s.putSpanOut v).taken = s.taken ∧ (s.putSpanOut v).fetchLeft = s.fetchLeft ∧ (s.putSpanOut v).rotLast = s.rotLast ∧
    (s.putSpanOut v).rotFirst = s.rotFirst ∧ (s.putSpanOut v).hazStall = s.hazStall ∧ (s.putSpanOut v).span = s.span ∧
    (s.putSpanOut v).spanIn = s.spanIn ∧ (s.putSpanOut v).resOut = s.resOut ∧ (s.putSpanOut v).jobs = s.jobs ∧
    (s.putSpanOut v).finishing = s.finishing ∧ (s.putSpanOut v).greads = s.greads ∧
    (s.putSpanOut v).spanNum = s.spanNum ∧ (s.putSpanOut v).spanArr = s.spanArr ∧ (s.putSpanOut v).dups = s.dups ∧
    (s.putSpanOut v).dupGen = s.dupGen ∧ (s.putSpanOut v).rlogPos = s.rlogPos ∧ (s.putSpanOut v).members = s.members ∧
    (s.putSpanOut v).peerVia = s.peerVia ∧ (s.putSpanOut v).groups = s.groups ∧
    (s.putSpanOut v).peerBound = s.peerBound ∧ (s.putSpanOut v).returned = s.returned ∧
    (s.putSpanOut v).lostRanges = s.lostRanges ∧ (s.putSpanOut v).wmap = s.wmap ∧ (s.putSpanOut v).wfin = s.wfin ∧
    (s.putSpanOut v).wheld = s.wheld ∧ (s.putSpanOut v).preserve = s.preserve ∧ (s.putSpanOut v).kept = s.kept ∧
    (s.putSpanOut v).metaOpen = s.metaOpen ∧ (s.putSpanOut v).portA = s.portA ∧
    (s.putSpanOut v).restartDue = s.restartDue ∧ (s.putSpanOut v).pings = s.pings ∧ (s.putSpanOut v).chain = s.chain ∧
    (s.putSpanOut v).position = s.position ∧ (s.putSpanOut v).power = s.power ∧ (s.putSpanOut v).powerOp = s.powerOp ∧
    (s.putSpanOut v).fsn = s.fsn ∧ (s.putSpanOut v).ns = s.ns ∧ (s.putSpanOut v).volCap = s.volCap ∧
    (s.putSpanOut v).rsv = s.rsv ∧ (s.putSpanOut v).tokCount = s.tokCount ∧ (s.putSpanOut v).fullZones = s.fullZones ∧
    (s.putSpanOut v).fam = s.fam ∧ (s.putSpanOut v).params = s.params ∧ (s.putSpanOut v).alm = s.alm ∧
    (s.putSpanOut v).domeEntry = s.domeEntry ∧ (s.putSpanOut v).domeWake = s.domeWake ∧
    (s.putSpanOut v).domeAgreed = s.domeAgreed ∧ (s.putSpanOut v).readAt = s.readAt ∧
    (s.putSpanOut v).sensorFail = s.sensorFail ∧ (s.putSpanOut v).tripCount = s.tripCount ∧
    (s.putSpanOut v).rise = s.rise ∧ (s.putSpanOut v).stopped = s.stopped ∧ (s.putSpanOut v).coolSince = s.coolSince ∧
    (s.putSpanOut v).events = s.events ∧ (s.putSpanOut v).dies = s.dies ∧ (s.putSpanOut v).chans = s.chans ∧
    (s.putSpanOut v).accs = s.accs ∧ (s.putSpanOut v).ldpc = s.ldpc ∧ (s.putSpanOut v).nand = s.nand ∧
    (s.putSpanOut v).blkErased = s.blkErased ∧ (s.putSpanOut v).vault = s.vault ∧
    (s.putSpanOut v).sessions = s.sessions ∧ (s.putSpanOut v).trngRestarts = s.trngRestarts ∧
    (s.putSpanOut v).drbgLeft = s.drbgLeft ∧ (s.putSpanOut v).imageId = s.imageId ∧
    (s.putSpanOut v).verFuses = s.verFuses ∧ (s.putSpanOut v).nsInfo = s.nsInfo ∧ (s.putSpanOut v).care = s.care ∧
    (s.putSpanOut v).history = s.history ∧ (s.putSpanOut v).fw = s.fw ∧ (s.putSpanOut v).trust = s.trust ∧
    (s.putSpanOut v).fdp = s.fdp ∧ (s.putSpanOut v).lostGen = s.lostGen ∧ (s.putSpanOut v).lostAgain = s.lostAgain ∧
    (s.putSpanOut v).accum = s.accum ∧ (s.putSpanOut v).boundSent = s.boundSent ∧
    (s.putSpanOut v).zoneUsed = s.zoneUsed ∧ (s.putSpanOut v).clean = s.clean :=
  ⟨rfl, rfl, rfl, rfl, rfl, rfl, rfl, rfl, rfl, rfl, rfl, rfl, rfl, rfl, rfl, rfl, rfl, rfl, rfl, rfl, rfl, rfl, rfl,
  rfl, rfl, rfl, rfl, rfl, rfl, rfl, rfl, rfl, rfl, rfl, rfl, rfl, rfl, rfl, rfl, rfl, rfl, rfl, rfl, rfl, rfl, rfl,
  rfl, rfl, rfl, rfl, rfl, rfl, rfl, rfl, rfl, rfl, rfl, rfl, rfl, rfl, rfl, rfl, rfl, rfl, rfl, rfl, rfl, rfl, rfl,
  rfl, rfl, rfl, rfl, rfl, rfl, rfl, rfl, rfl, rfl, rfl, rfl, rfl, rfl, rfl, rfl, rfl, rfl, rfl, rfl, rfl, rfl, rfl,
  rfl, rfl, rfl, rfl, rfl, rfl, rfl, rfl, rfl, rfl, rfl, rfl, rfl, rfl, rfl, rfl, rfl, rfl, rfl, rfl, rfl, rfl, rfl,
  rfl, rfl, rfl, rfl, rfl, rfl, rfl, rfl, rfl⟩

@[simp] theorem State.putSpanOut_spanOut (s : State) (v : List SpanTx) : (s.putSpanOut v).spanOut = v := rfl

@[simp] theorem State.putSpanIn_frame (s : State) (v : List SpanArr) :
    (s.putSpanIn v).pending = s.pending ∧ (s.putSpanIn v).free = s.free ∧ (s.putSpanIn v).out = s.out ∧
    (s.putSpanIn v).boot = s.boot ∧ (s.putSpanIn v).tick = s.tick ∧ (s.putSpanIn v).win = s.win ∧
    (s.putSpanIn v).gap = s.gap ∧ (s.putSpanIn v).regs = s.regs ∧ (s.putSpanIn v).regPend = s.regPend ∧
    (s.putSpanIn v).cores = s.cores ∧ (s.putSpanIn v).cluster = s.cluster ∧ (s.putSpanIn v).tun = s.tun ∧
    (s.putSpanIn v).tunBufs = s.tunBufs ∧ (s.putSpanIn v).tunMin = s.tunMin ∧ (s.putSpanIn v).tunMinPend = s.tunMinPend ∧
    (s.putSpanIn v).sramErr = s.sramErr ∧ (s.putSpanIn v).heldBack = s.heldBack ∧ (s.putSpanIn v).rtHit = s.rtHit ∧
    (s.putSpanIn v).rtClock = s.rtClock ∧ (s.putSpanIn v).rtUntracked = s.rtUntracked ∧ (s.putSpanIn v).dram = s.dram ∧
    (s.putSpanIn v).dr = s.dr ∧ (s.putSpanIn v).poison = s.poison ∧ (s.putSpanIn v).ingot = s.ingot ∧
    (s.putSpanIn v).nor = s.nor ∧ (s.putSpanIn v).norUnk = s.norUnk ∧ (s.putSpanIn v).pat = s.pat ∧
    (s.putSpanIn v).tdly = s.tdly ∧ (s.putSpanIn v).scrub = s.scrub ∧ (s.putSpanIn v).fbuf = s.fbuf ∧
    (s.putSpanIn v).rings = s.rings ∧ (s.putSpanIn v).haz = s.haz ∧ (s.putSpanIn v).marks = s.marks ∧
    (s.putSpanIn v).wsnFloor = s.wsnFloor ∧ (s.putSpanIn v).health = s.health ∧ (s.putSpanIn v).qPend = s.qPend ∧
    (s.putSpanIn v).reqs = s.reqs ∧ (s.putSpanIn v).aborts = s.aborts ∧ (s.putSpanIn v).gateShut = s.gateShut ∧
    (s.putSpanIn v).sqs = s.sqs ∧ (s.putSpanIn v).cqs = s.cqs ∧ (s.putSpanIn v).cmds = s.cmds ∧
    (s.putSpanIn v).resets = s.resets ∧ (s.putSpanIn v).ctrls = s.ctrls ∧ (s.putSpanIn v).arbs = s.arbs ∧
    (s.putSpanIn v).credit = s.credit ∧ (s.putSpanIn v).taken = s.taken ∧ (s.putSpanIn v).fetchLeft = s.fetchLeft ∧
    (s.putSpanIn v).rotLast = s.rotLast ∧ (s.putSpanIn v).rotFirst = s.rotFirst ∧ (s.putSpanIn v).hazStall = s.hazStall ∧
    (s.putSpanIn v).span = s.span ∧ (s.putSpanIn v).spanOut = s.spanOut ∧ (s.putSpanIn v).resOut = s.resOut ∧
    (s.putSpanIn v).jobs = s.jobs ∧ (s.putSpanIn v).finishing = s.finishing ∧ (s.putSpanIn v).greads = s.greads ∧
    (s.putSpanIn v).spanNum = s.spanNum ∧ (s.putSpanIn v).spanArr = s.spanArr ∧ (s.putSpanIn v).dups = s.dups ∧
    (s.putSpanIn v).dupGen = s.dupGen ∧ (s.putSpanIn v).rlogPos = s.rlogPos ∧ (s.putSpanIn v).members = s.members ∧
    (s.putSpanIn v).peerVia = s.peerVia ∧ (s.putSpanIn v).groups = s.groups ∧ (s.putSpanIn v).peerBound = s.peerBound ∧
    (s.putSpanIn v).returned = s.returned ∧ (s.putSpanIn v).lostRanges = s.lostRanges ∧ (s.putSpanIn v).wmap = s.wmap ∧
    (s.putSpanIn v).wfin = s.wfin ∧ (s.putSpanIn v).wheld = s.wheld ∧ (s.putSpanIn v).preserve = s.preserve ∧
    (s.putSpanIn v).kept = s.kept ∧ (s.putSpanIn v).metaOpen = s.metaOpen ∧ (s.putSpanIn v).portA = s.portA ∧
    (s.putSpanIn v).restartDue = s.restartDue ∧ (s.putSpanIn v).pings = s.pings ∧ (s.putSpanIn v).chain = s.chain ∧
    (s.putSpanIn v).position = s.position ∧ (s.putSpanIn v).power = s.power ∧ (s.putSpanIn v).powerOp = s.powerOp ∧
    (s.putSpanIn v).fsn = s.fsn ∧ (s.putSpanIn v).ns = s.ns ∧ (s.putSpanIn v).volCap = s.volCap ∧
    (s.putSpanIn v).rsv = s.rsv ∧ (s.putSpanIn v).tokCount = s.tokCount ∧ (s.putSpanIn v).fullZones = s.fullZones ∧
    (s.putSpanIn v).fam = s.fam ∧ (s.putSpanIn v).params = s.params ∧ (s.putSpanIn v).alm = s.alm ∧
    (s.putSpanIn v).domeEntry = s.domeEntry ∧ (s.putSpanIn v).domeWake = s.domeWake ∧
    (s.putSpanIn v).domeAgreed = s.domeAgreed ∧ (s.putSpanIn v).readAt = s.readAt ∧
    (s.putSpanIn v).sensorFail = s.sensorFail ∧ (s.putSpanIn v).tripCount = s.tripCount ∧ (s.putSpanIn v).rise = s.rise ∧
    (s.putSpanIn v).stopped = s.stopped ∧ (s.putSpanIn v).coolSince = s.coolSince ∧ (s.putSpanIn v).events = s.events ∧
    (s.putSpanIn v).dies = s.dies ∧ (s.putSpanIn v).chans = s.chans ∧ (s.putSpanIn v).accs = s.accs ∧
    (s.putSpanIn v).ldpc = s.ldpc ∧ (s.putSpanIn v).nand = s.nand ∧ (s.putSpanIn v).blkErased = s.blkErased ∧
    (s.putSpanIn v).vault = s.vault ∧ (s.putSpanIn v).sessions = s.sessions ∧
    (s.putSpanIn v).trngRestarts = s.trngRestarts ∧ (s.putSpanIn v).drbgLeft = s.drbgLeft ∧
    (s.putSpanIn v).imageId = s.imageId ∧ (s.putSpanIn v).verFuses = s.verFuses ∧ (s.putSpanIn v).nsInfo = s.nsInfo ∧
    (s.putSpanIn v).care = s.care ∧ (s.putSpanIn v).history = s.history ∧ (s.putSpanIn v).fw = s.fw ∧
    (s.putSpanIn v).trust = s.trust ∧ (s.putSpanIn v).fdp = s.fdp ∧ (s.putSpanIn v).lostGen = s.lostGen ∧
    (s.putSpanIn v).lostAgain = s.lostAgain ∧ (s.putSpanIn v).accum = s.accum ∧ (s.putSpanIn v).boundSent = s.boundSent ∧
    (s.putSpanIn v).zoneUsed = s.zoneUsed ∧ (s.putSpanIn v).clean = s.clean :=
  ⟨rfl, rfl, rfl, rfl, rfl, rfl, rfl, rfl, rfl, rfl, rfl, rfl, rfl, rfl, rfl, rfl, rfl, rfl, rfl, rfl, rfl, rfl, rfl,
  rfl, rfl, rfl, rfl, rfl, rfl, rfl, rfl, rfl, rfl, rfl, rfl, rfl, rfl, rfl, rfl, rfl, rfl, rfl, rfl, rfl, rfl, rfl,
  rfl, rfl, rfl, rfl, rfl, rfl, rfl, rfl, rfl, rfl, rfl, rfl, rfl, rfl, rfl, rfl, rfl, rfl, rfl, rfl, rfl, rfl, rfl,
  rfl, rfl, rfl, rfl, rfl, rfl, rfl, rfl, rfl, rfl, rfl, rfl, rfl, rfl, rfl, rfl, rfl, rfl, rfl, rfl, rfl, rfl, rfl,
  rfl, rfl, rfl, rfl, rfl, rfl, rfl, rfl, rfl, rfl, rfl, rfl, rfl, rfl, rfl, rfl, rfl, rfl, rfl, rfl, rfl, rfl, rfl,
  rfl, rfl, rfl, rfl, rfl, rfl, rfl, rfl, rfl⟩

@[simp] theorem State.putSpanIn_spanIn (s : State) (v : List SpanArr) : (s.putSpanIn v).spanIn = v := rfl

@[simp] theorem State.putResOut_frame (s : State) (v : List ResTx) :
    (s.putResOut v).pending = s.pending ∧ (s.putResOut v).free = s.free ∧ (s.putResOut v).out = s.out ∧
    (s.putResOut v).boot = s.boot ∧ (s.putResOut v).tick = s.tick ∧ (s.putResOut v).win = s.win ∧
    (s.putResOut v).gap = s.gap ∧ (s.putResOut v).regs = s.regs ∧ (s.putResOut v).regPend = s.regPend ∧
    (s.putResOut v).cores = s.cores ∧ (s.putResOut v).cluster = s.cluster ∧ (s.putResOut v).tun = s.tun ∧
    (s.putResOut v).tunBufs = s.tunBufs ∧ (s.putResOut v).tunMin = s.tunMin ∧ (s.putResOut v).tunMinPend = s.tunMinPend ∧
    (s.putResOut v).sramErr = s.sramErr ∧ (s.putResOut v).heldBack = s.heldBack ∧ (s.putResOut v).rtHit = s.rtHit ∧
    (s.putResOut v).rtClock = s.rtClock ∧ (s.putResOut v).rtUntracked = s.rtUntracked ∧ (s.putResOut v).dram = s.dram ∧
    (s.putResOut v).dr = s.dr ∧ (s.putResOut v).poison = s.poison ∧ (s.putResOut v).ingot = s.ingot ∧
    (s.putResOut v).nor = s.nor ∧ (s.putResOut v).norUnk = s.norUnk ∧ (s.putResOut v).pat = s.pat ∧
    (s.putResOut v).tdly = s.tdly ∧ (s.putResOut v).scrub = s.scrub ∧ (s.putResOut v).fbuf = s.fbuf ∧
    (s.putResOut v).rings = s.rings ∧ (s.putResOut v).haz = s.haz ∧ (s.putResOut v).marks = s.marks ∧
    (s.putResOut v).wsnFloor = s.wsnFloor ∧ (s.putResOut v).health = s.health ∧ (s.putResOut v).qPend = s.qPend ∧
    (s.putResOut v).reqs = s.reqs ∧ (s.putResOut v).aborts = s.aborts ∧ (s.putResOut v).gateShut = s.gateShut ∧
    (s.putResOut v).sqs = s.sqs ∧ (s.putResOut v).cqs = s.cqs ∧ (s.putResOut v).cmds = s.cmds ∧
    (s.putResOut v).resets = s.resets ∧ (s.putResOut v).ctrls = s.ctrls ∧ (s.putResOut v).arbs = s.arbs ∧
    (s.putResOut v).credit = s.credit ∧ (s.putResOut v).taken = s.taken ∧ (s.putResOut v).fetchLeft = s.fetchLeft ∧
    (s.putResOut v).rotLast = s.rotLast ∧ (s.putResOut v).rotFirst = s.rotFirst ∧ (s.putResOut v).hazStall = s.hazStall ∧
    (s.putResOut v).span = s.span ∧ (s.putResOut v).spanOut = s.spanOut ∧ (s.putResOut v).spanIn = s.spanIn ∧
    (s.putResOut v).jobs = s.jobs ∧ (s.putResOut v).finishing = s.finishing ∧ (s.putResOut v).greads = s.greads ∧
    (s.putResOut v).spanNum = s.spanNum ∧ (s.putResOut v).spanArr = s.spanArr ∧ (s.putResOut v).dups = s.dups ∧
    (s.putResOut v).dupGen = s.dupGen ∧ (s.putResOut v).rlogPos = s.rlogPos ∧ (s.putResOut v).members = s.members ∧
    (s.putResOut v).peerVia = s.peerVia ∧ (s.putResOut v).groups = s.groups ∧ (s.putResOut v).peerBound = s.peerBound ∧
    (s.putResOut v).returned = s.returned ∧ (s.putResOut v).lostRanges = s.lostRanges ∧ (s.putResOut v).wmap = s.wmap ∧
    (s.putResOut v).wfin = s.wfin ∧ (s.putResOut v).wheld = s.wheld ∧ (s.putResOut v).preserve = s.preserve ∧
    (s.putResOut v).kept = s.kept ∧ (s.putResOut v).metaOpen = s.metaOpen ∧ (s.putResOut v).portA = s.portA ∧
    (s.putResOut v).restartDue = s.restartDue ∧ (s.putResOut v).pings = s.pings ∧ (s.putResOut v).chain = s.chain ∧
    (s.putResOut v).position = s.position ∧ (s.putResOut v).power = s.power ∧ (s.putResOut v).powerOp = s.powerOp ∧
    (s.putResOut v).fsn = s.fsn ∧ (s.putResOut v).ns = s.ns ∧ (s.putResOut v).volCap = s.volCap ∧
    (s.putResOut v).rsv = s.rsv ∧ (s.putResOut v).tokCount = s.tokCount ∧ (s.putResOut v).fullZones = s.fullZones ∧
    (s.putResOut v).fam = s.fam ∧ (s.putResOut v).params = s.params ∧ (s.putResOut v).alm = s.alm ∧
    (s.putResOut v).domeEntry = s.domeEntry ∧ (s.putResOut v).domeWake = s.domeWake ∧
    (s.putResOut v).domeAgreed = s.domeAgreed ∧ (s.putResOut v).readAt = s.readAt ∧
    (s.putResOut v).sensorFail = s.sensorFail ∧ (s.putResOut v).tripCount = s.tripCount ∧ (s.putResOut v).rise = s.rise ∧
    (s.putResOut v).stopped = s.stopped ∧ (s.putResOut v).coolSince = s.coolSince ∧ (s.putResOut v).events = s.events ∧
    (s.putResOut v).dies = s.dies ∧ (s.putResOut v).chans = s.chans ∧ (s.putResOut v).accs = s.accs ∧
    (s.putResOut v).ldpc = s.ldpc ∧ (s.putResOut v).nand = s.nand ∧ (s.putResOut v).blkErased = s.blkErased ∧
    (s.putResOut v).vault = s.vault ∧ (s.putResOut v).sessions = s.sessions ∧
    (s.putResOut v).trngRestarts = s.trngRestarts ∧ (s.putResOut v).drbgLeft = s.drbgLeft ∧
    (s.putResOut v).imageId = s.imageId ∧ (s.putResOut v).verFuses = s.verFuses ∧ (s.putResOut v).nsInfo = s.nsInfo ∧
    (s.putResOut v).care = s.care ∧ (s.putResOut v).history = s.history ∧ (s.putResOut v).fw = s.fw ∧
    (s.putResOut v).trust = s.trust ∧ (s.putResOut v).fdp = s.fdp ∧ (s.putResOut v).lostGen = s.lostGen ∧
    (s.putResOut v).lostAgain = s.lostAgain ∧ (s.putResOut v).accum = s.accum ∧ (s.putResOut v).boundSent = s.boundSent ∧
    (s.putResOut v).zoneUsed = s.zoneUsed ∧ (s.putResOut v).clean = s.clean :=
  ⟨rfl, rfl, rfl, rfl, rfl, rfl, rfl, rfl, rfl, rfl, rfl, rfl, rfl, rfl, rfl, rfl, rfl, rfl, rfl, rfl, rfl, rfl, rfl,
  rfl, rfl, rfl, rfl, rfl, rfl, rfl, rfl, rfl, rfl, rfl, rfl, rfl, rfl, rfl, rfl, rfl, rfl, rfl, rfl, rfl, rfl, rfl,
  rfl, rfl, rfl, rfl, rfl, rfl, rfl, rfl, rfl, rfl, rfl, rfl, rfl, rfl, rfl, rfl, rfl, rfl, rfl, rfl, rfl, rfl, rfl,
  rfl, rfl, rfl, rfl, rfl, rfl, rfl, rfl, rfl, rfl, rfl, rfl, rfl, rfl, rfl, rfl, rfl, rfl, rfl, rfl, rfl, rfl, rfl,
  rfl, rfl, rfl, rfl, rfl, rfl, rfl, rfl, rfl, rfl, rfl, rfl, rfl, rfl, rfl, rfl, rfl, rfl, rfl, rfl, rfl, rfl, rfl,
  rfl, rfl, rfl, rfl, rfl, rfl, rfl, rfl, rfl⟩

@[simp] theorem State.putResOut_resOut (s : State) (v : List ResTx) : (s.putResOut v).resOut = v := rfl

@[simp] theorem State.putJobs_frame (s : State) (v : List Job) :
    (s.putJobs v).pending = s.pending ∧ (s.putJobs v).free = s.free ∧ (s.putJobs v).out = s.out ∧
    (s.putJobs v).boot = s.boot ∧ (s.putJobs v).tick = s.tick ∧ (s.putJobs v).win = s.win ∧ (s.putJobs v).gap = s.gap ∧
    (s.putJobs v).regs = s.regs ∧ (s.putJobs v).regPend = s.regPend ∧ (s.putJobs v).cores = s.cores ∧
    (s.putJobs v).cluster = s.cluster ∧ (s.putJobs v).tun = s.tun ∧ (s.putJobs v).tunBufs = s.tunBufs ∧
    (s.putJobs v).tunMin = s.tunMin ∧ (s.putJobs v).tunMinPend = s.tunMinPend ∧ (s.putJobs v).sramErr = s.sramErr ∧
    (s.putJobs v).heldBack = s.heldBack ∧ (s.putJobs v).rtHit = s.rtHit ∧ (s.putJobs v).rtClock = s.rtClock ∧
    (s.putJobs v).rtUntracked = s.rtUntracked ∧ (s.putJobs v).dram = s.dram ∧ (s.putJobs v).dr = s.dr ∧
    (s.putJobs v).poison = s.poison ∧ (s.putJobs v).ingot = s.ingot ∧ (s.putJobs v).nor = s.nor ∧
    (s.putJobs v).norUnk = s.norUnk ∧ (s.putJobs v).pat = s.pat ∧ (s.putJobs v).tdly = s.tdly ∧
    (s.putJobs v).scrub = s.scrub ∧ (s.putJobs v).fbuf = s.fbuf ∧ (s.putJobs v).rings = s.rings ∧
    (s.putJobs v).haz = s.haz ∧ (s.putJobs v).marks = s.marks ∧ (s.putJobs v).wsnFloor = s.wsnFloor ∧
    (s.putJobs v).health = s.health ∧ (s.putJobs v).qPend = s.qPend ∧ (s.putJobs v).reqs = s.reqs ∧
    (s.putJobs v).aborts = s.aborts ∧ (s.putJobs v).gateShut = s.gateShut ∧ (s.putJobs v).sqs = s.sqs ∧
    (s.putJobs v).cqs = s.cqs ∧ (s.putJobs v).cmds = s.cmds ∧ (s.putJobs v).resets = s.resets ∧
    (s.putJobs v).ctrls = s.ctrls ∧ (s.putJobs v).arbs = s.arbs ∧ (s.putJobs v).credit = s.credit ∧
    (s.putJobs v).taken = s.taken ∧ (s.putJobs v).fetchLeft = s.fetchLeft ∧ (s.putJobs v).rotLast = s.rotLast ∧
    (s.putJobs v).rotFirst = s.rotFirst ∧ (s.putJobs v).hazStall = s.hazStall ∧ (s.putJobs v).span = s.span ∧
    (s.putJobs v).spanOut = s.spanOut ∧ (s.putJobs v).spanIn = s.spanIn ∧ (s.putJobs v).resOut = s.resOut ∧
    (s.putJobs v).finishing = s.finishing ∧ (s.putJobs v).greads = s.greads ∧ (s.putJobs v).spanNum = s.spanNum ∧
    (s.putJobs v).spanArr = s.spanArr ∧ (s.putJobs v).dups = s.dups ∧ (s.putJobs v).dupGen = s.dupGen ∧
    (s.putJobs v).rlogPos = s.rlogPos ∧ (s.putJobs v).members = s.members ∧ (s.putJobs v).peerVia = s.peerVia ∧
    (s.putJobs v).groups = s.groups ∧ (s.putJobs v).peerBound = s.peerBound ∧ (s.putJobs v).returned = s.returned ∧
    (s.putJobs v).lostRanges = s.lostRanges ∧ (s.putJobs v).wmap = s.wmap ∧ (s.putJobs v).wfin = s.wfin ∧
    (s.putJobs v).wheld = s.wheld ∧ (s.putJobs v).preserve = s.preserve ∧ (s.putJobs v).kept = s.kept ∧
    (s.putJobs v).metaOpen = s.metaOpen ∧ (s.putJobs v).portA = s.portA ∧ (s.putJobs v).restartDue = s.restartDue ∧
    (s.putJobs v).pings = s.pings ∧ (s.putJobs v).chain = s.chain ∧ (s.putJobs v).position = s.position ∧
    (s.putJobs v).power = s.power ∧ (s.putJobs v).powerOp = s.powerOp ∧ (s.putJobs v).fsn = s.fsn ∧
    (s.putJobs v).ns = s.ns ∧ (s.putJobs v).volCap = s.volCap ∧ (s.putJobs v).rsv = s.rsv ∧
    (s.putJobs v).tokCount = s.tokCount ∧ (s.putJobs v).fullZones = s.fullZones ∧ (s.putJobs v).fam = s.fam ∧
    (s.putJobs v).params = s.params ∧ (s.putJobs v).alm = s.alm ∧ (s.putJobs v).domeEntry = s.domeEntry ∧
    (s.putJobs v).domeWake = s.domeWake ∧ (s.putJobs v).domeAgreed = s.domeAgreed ∧ (s.putJobs v).readAt = s.readAt ∧
    (s.putJobs v).sensorFail = s.sensorFail ∧ (s.putJobs v).tripCount = s.tripCount ∧ (s.putJobs v).rise = s.rise ∧
    (s.putJobs v).stopped = s.stopped ∧ (s.putJobs v).coolSince = s.coolSince ∧ (s.putJobs v).events = s.events ∧
    (s.putJobs v).dies = s.dies ∧ (s.putJobs v).chans = s.chans ∧ (s.putJobs v).accs = s.accs ∧
    (s.putJobs v).ldpc = s.ldpc ∧ (s.putJobs v).nand = s.nand ∧ (s.putJobs v).blkErased = s.blkErased ∧
    (s.putJobs v).vault = s.vault ∧ (s.putJobs v).sessions = s.sessions ∧ (s.putJobs v).trngRestarts = s.trngRestarts ∧
    (s.putJobs v).drbgLeft = s.drbgLeft ∧ (s.putJobs v).imageId = s.imageId ∧ (s.putJobs v).verFuses = s.verFuses ∧
    (s.putJobs v).nsInfo = s.nsInfo ∧ (s.putJobs v).care = s.care ∧ (s.putJobs v).history = s.history ∧
    (s.putJobs v).fw = s.fw ∧ (s.putJobs v).trust = s.trust ∧ (s.putJobs v).fdp = s.fdp ∧
    (s.putJobs v).lostGen = s.lostGen ∧ (s.putJobs v).lostAgain = s.lostAgain ∧ (s.putJobs v).accum = s.accum ∧
    (s.putJobs v).boundSent = s.boundSent ∧ (s.putJobs v).zoneUsed = s.zoneUsed ∧ (s.putJobs v).clean = s.clean :=
  ⟨rfl, rfl, rfl, rfl, rfl, rfl, rfl, rfl, rfl, rfl, rfl, rfl, rfl, rfl, rfl, rfl, rfl, rfl, rfl, rfl, rfl, rfl, rfl,
  rfl, rfl, rfl, rfl, rfl, rfl, rfl, rfl, rfl, rfl, rfl, rfl, rfl, rfl, rfl, rfl, rfl, rfl, rfl, rfl, rfl, rfl, rfl,
  rfl, rfl, rfl, rfl, rfl, rfl, rfl, rfl, rfl, rfl, rfl, rfl, rfl, rfl, rfl, rfl, rfl, rfl, rfl, rfl, rfl, rfl, rfl,
  rfl, rfl, rfl, rfl, rfl, rfl, rfl, rfl, rfl, rfl, rfl, rfl, rfl, rfl, rfl, rfl, rfl, rfl, rfl, rfl, rfl, rfl, rfl,
  rfl, rfl, rfl, rfl, rfl, rfl, rfl, rfl, rfl, rfl, rfl, rfl, rfl, rfl, rfl, rfl, rfl, rfl, rfl, rfl, rfl, rfl, rfl,
  rfl, rfl, rfl, rfl, rfl, rfl, rfl, rfl, rfl⟩

@[simp] theorem State.putJobs_jobs (s : State) (v : List Job) : (s.putJobs v).jobs = v := rfl

@[simp] theorem State.putFinishing_frame (s : State) (v : List Nat) :
    (s.putFinishing v).pending = s.pending ∧ (s.putFinishing v).free = s.free ∧ (s.putFinishing v).out = s.out ∧
    (s.putFinishing v).boot = s.boot ∧ (s.putFinishing v).tick = s.tick ∧ (s.putFinishing v).win = s.win ∧
    (s.putFinishing v).gap = s.gap ∧ (s.putFinishing v).regs = s.regs ∧ (s.putFinishing v).regPend = s.regPend ∧
    (s.putFinishing v).cores = s.cores ∧ (s.putFinishing v).cluster = s.cluster ∧ (s.putFinishing v).tun = s.tun ∧
    (s.putFinishing v).tunBufs = s.tunBufs ∧ (s.putFinishing v).tunMin = s.tunMin ∧
    (s.putFinishing v).tunMinPend = s.tunMinPend ∧ (s.putFinishing v).sramErr = s.sramErr ∧
    (s.putFinishing v).heldBack = s.heldBack ∧ (s.putFinishing v).rtHit = s.rtHit ∧
    (s.putFinishing v).rtClock = s.rtClock ∧ (s.putFinishing v).rtUntracked = s.rtUntracked ∧
    (s.putFinishing v).dram = s.dram ∧ (s.putFinishing v).dr = s.dr ∧ (s.putFinishing v).poison = s.poison ∧
    (s.putFinishing v).ingot = s.ingot ∧ (s.putFinishing v).nor = s.nor ∧ (s.putFinishing v).norUnk = s.norUnk ∧
    (s.putFinishing v).pat = s.pat ∧ (s.putFinishing v).tdly = s.tdly ∧ (s.putFinishing v).scrub = s.scrub ∧
    (s.putFinishing v).fbuf = s.fbuf ∧ (s.putFinishing v).rings = s.rings ∧ (s.putFinishing v).haz = s.haz ∧
    (s.putFinishing v).marks = s.marks ∧ (s.putFinishing v).wsnFloor = s.wsnFloor ∧
    (s.putFinishing v).health = s.health ∧ (s.putFinishing v).qPend = s.qPend ∧ (s.putFinishing v).reqs = s.reqs ∧
    (s.putFinishing v).aborts = s.aborts ∧ (s.putFinishing v).gateShut = s.gateShut ∧ (s.putFinishing v).sqs = s.sqs ∧
    (s.putFinishing v).cqs = s.cqs ∧ (s.putFinishing v).cmds = s.cmds ∧ (s.putFinishing v).resets = s.resets ∧
    (s.putFinishing v).ctrls = s.ctrls ∧ (s.putFinishing v).arbs = s.arbs ∧ (s.putFinishing v).credit = s.credit ∧
    (s.putFinishing v).taken = s.taken ∧ (s.putFinishing v).fetchLeft = s.fetchLeft ∧
    (s.putFinishing v).rotLast = s.rotLast ∧ (s.putFinishing v).rotFirst = s.rotFirst ∧
    (s.putFinishing v).hazStall = s.hazStall ∧ (s.putFinishing v).span = s.span ∧
    (s.putFinishing v).spanOut = s.spanOut ∧ (s.putFinishing v).spanIn = s.spanIn ∧
    (s.putFinishing v).resOut = s.resOut ∧ (s.putFinishing v).jobs = s.jobs ∧ (s.putFinishing v).greads = s.greads ∧
    (s.putFinishing v).spanNum = s.spanNum ∧ (s.putFinishing v).spanArr = s.spanArr ∧ (s.putFinishing v).dups = s.dups ∧
    (s.putFinishing v).dupGen = s.dupGen ∧ (s.putFinishing v).rlogPos = s.rlogPos ∧
    (s.putFinishing v).members = s.members ∧ (s.putFinishing v).peerVia = s.peerVia ∧
    (s.putFinishing v).groups = s.groups ∧ (s.putFinishing v).peerBound = s.peerBound ∧
    (s.putFinishing v).returned = s.returned ∧ (s.putFinishing v).lostRanges = s.lostRanges ∧
    (s.putFinishing v).wmap = s.wmap ∧ (s.putFinishing v).wfin = s.wfin ∧ (s.putFinishing v).wheld = s.wheld ∧
    (s.putFinishing v).preserve = s.preserve ∧ (s.putFinishing v).kept = s.kept ∧
    (s.putFinishing v).metaOpen = s.metaOpen ∧ (s.putFinishing v).portA = s.portA ∧
    (s.putFinishing v).restartDue = s.restartDue ∧ (s.putFinishing v).pings = s.pings ∧
    (s.putFinishing v).chain = s.chain ∧ (s.putFinishing v).position = s.position ∧ (s.putFinishing v).power = s.power ∧
    (s.putFinishing v).powerOp = s.powerOp ∧ (s.putFinishing v).fsn = s.fsn ∧ (s.putFinishing v).ns = s.ns ∧
    (s.putFinishing v).volCap = s.volCap ∧ (s.putFinishing v).rsv = s.rsv ∧ (s.putFinishing v).tokCount = s.tokCount ∧
    (s.putFinishing v).fullZones = s.fullZones ∧ (s.putFinishing v).fam = s.fam ∧ (s.putFinishing v).params = s.params ∧
    (s.putFinishing v).alm = s.alm ∧ (s.putFinishing v).domeEntry = s.domeEntry ∧
    (s.putFinishing v).domeWake = s.domeWake ∧ (s.putFinishing v).domeAgreed = s.domeAgreed ∧
    (s.putFinishing v).readAt = s.readAt ∧ (s.putFinishing v).sensorFail = s.sensorFail ∧
    (s.putFinishing v).tripCount = s.tripCount ∧ (s.putFinishing v).rise = s.rise ∧
    (s.putFinishing v).stopped = s.stopped ∧ (s.putFinishing v).coolSince = s.coolSince ∧
    (s.putFinishing v).events = s.events ∧ (s.putFinishing v).dies = s.dies ∧ (s.putFinishing v).chans = s.chans ∧
    (s.putFinishing v).accs = s.accs ∧ (s.putFinishing v).ldpc = s.ldpc ∧ (s.putFinishing v).nand = s.nand ∧
    (s.putFinishing v).blkErased = s.blkErased ∧ (s.putFinishing v).vault = s.vault ∧
    (s.putFinishing v).sessions = s.sessions ∧ (s.putFinishing v).trngRestarts = s.trngRestarts ∧
    (s.putFinishing v).drbgLeft = s.drbgLeft ∧ (s.putFinishing v).imageId = s.imageId ∧
    (s.putFinishing v).verFuses = s.verFuses ∧ (s.putFinishing v).nsInfo = s.nsInfo ∧ (s.putFinishing v).care = s.care ∧
    (s.putFinishing v).history = s.history ∧ (s.putFinishing v).fw = s.fw ∧ (s.putFinishing v).trust = s.trust ∧
    (s.putFinishing v).fdp = s.fdp ∧ (s.putFinishing v).lostGen = s.lostGen ∧
    (s.putFinishing v).lostAgain = s.lostAgain ∧ (s.putFinishing v).accum = s.accum ∧
    (s.putFinishing v).boundSent = s.boundSent ∧ (s.putFinishing v).zoneUsed = s.zoneUsed ∧
    (s.putFinishing v).clean = s.clean :=
  ⟨rfl, rfl, rfl, rfl, rfl, rfl, rfl, rfl, rfl, rfl, rfl, rfl, rfl, rfl, rfl, rfl, rfl, rfl, rfl, rfl, rfl, rfl, rfl,
  rfl, rfl, rfl, rfl, rfl, rfl, rfl, rfl, rfl, rfl, rfl, rfl, rfl, rfl, rfl, rfl, rfl, rfl, rfl, rfl, rfl, rfl, rfl,
  rfl, rfl, rfl, rfl, rfl, rfl, rfl, rfl, rfl, rfl, rfl, rfl, rfl, rfl, rfl, rfl, rfl, rfl, rfl, rfl, rfl, rfl, rfl,
  rfl, rfl, rfl, rfl, rfl, rfl, rfl, rfl, rfl, rfl, rfl, rfl, rfl, rfl, rfl, rfl, rfl, rfl, rfl, rfl, rfl, rfl, rfl,
  rfl, rfl, rfl, rfl, rfl, rfl, rfl, rfl, rfl, rfl, rfl, rfl, rfl, rfl, rfl, rfl, rfl, rfl, rfl, rfl, rfl, rfl, rfl,
  rfl, rfl, rfl, rfl, rfl, rfl, rfl, rfl, rfl⟩

@[simp] theorem State.putFinishing_finishing (s : State) (v : List Nat) : (s.putFinishing v).finishing = v := rfl

@[simp] theorem State.putGreads_frame (s : State) (v : List (W64 × Bool)) :
    (s.putGreads v).pending = s.pending ∧ (s.putGreads v).free = s.free ∧ (s.putGreads v).out = s.out ∧
    (s.putGreads v).boot = s.boot ∧ (s.putGreads v).tick = s.tick ∧ (s.putGreads v).win = s.win ∧
    (s.putGreads v).gap = s.gap ∧ (s.putGreads v).regs = s.regs ∧ (s.putGreads v).regPend = s.regPend ∧
    (s.putGreads v).cores = s.cores ∧ (s.putGreads v).cluster = s.cluster ∧ (s.putGreads v).tun = s.tun ∧
    (s.putGreads v).tunBufs = s.tunBufs ∧ (s.putGreads v).tunMin = s.tunMin ∧ (s.putGreads v).tunMinPend = s.tunMinPend ∧
    (s.putGreads v).sramErr = s.sramErr ∧ (s.putGreads v).heldBack = s.heldBack ∧ (s.putGreads v).rtHit = s.rtHit ∧
    (s.putGreads v).rtClock = s.rtClock ∧ (s.putGreads v).rtUntracked = s.rtUntracked ∧ (s.putGreads v).dram = s.dram ∧
    (s.putGreads v).dr = s.dr ∧ (s.putGreads v).poison = s.poison ∧ (s.putGreads v).ingot = s.ingot ∧
    (s.putGreads v).nor = s.nor ∧ (s.putGreads v).norUnk = s.norUnk ∧ (s.putGreads v).pat = s.pat ∧
    (s.putGreads v).tdly = s.tdly ∧ (s.putGreads v).scrub = s.scrub ∧ (s.putGreads v).fbuf = s.fbuf ∧
    (s.putGreads v).rings = s.rings ∧ (s.putGreads v).haz = s.haz ∧ (s.putGreads v).marks = s.marks ∧
    (s.putGreads v).wsnFloor = s.wsnFloor ∧ (s.putGreads v).health = s.health ∧ (s.putGreads v).qPend = s.qPend ∧
    (s.putGreads v).reqs = s.reqs ∧ (s.putGreads v).aborts = s.aborts ∧ (s.putGreads v).gateShut = s.gateShut ∧
    (s.putGreads v).sqs = s.sqs ∧ (s.putGreads v).cqs = s.cqs ∧ (s.putGreads v).cmds = s.cmds ∧
    (s.putGreads v).resets = s.resets ∧ (s.putGreads v).ctrls = s.ctrls ∧ (s.putGreads v).arbs = s.arbs ∧
    (s.putGreads v).credit = s.credit ∧ (s.putGreads v).taken = s.taken ∧ (s.putGreads v).fetchLeft = s.fetchLeft ∧
    (s.putGreads v).rotLast = s.rotLast ∧ (s.putGreads v).rotFirst = s.rotFirst ∧ (s.putGreads v).hazStall = s.hazStall ∧
    (s.putGreads v).span = s.span ∧ (s.putGreads v).spanOut = s.spanOut ∧ (s.putGreads v).spanIn = s.spanIn ∧
    (s.putGreads v).resOut = s.resOut ∧ (s.putGreads v).jobs = s.jobs ∧ (s.putGreads v).finishing = s.finishing ∧
    (s.putGreads v).spanNum = s.spanNum ∧ (s.putGreads v).spanArr = s.spanArr ∧ (s.putGreads v).dups = s.dups ∧
    (s.putGreads v).dupGen = s.dupGen ∧ (s.putGreads v).rlogPos = s.rlogPos ∧ (s.putGreads v).members = s.members ∧
    (s.putGreads v).peerVia = s.peerVia ∧ (s.putGreads v).groups = s.groups ∧ (s.putGreads v).peerBound = s.peerBound ∧
    (s.putGreads v).returned = s.returned ∧ (s.putGreads v).lostRanges = s.lostRanges ∧ (s.putGreads v).wmap = s.wmap ∧
    (s.putGreads v).wfin = s.wfin ∧ (s.putGreads v).wheld = s.wheld ∧ (s.putGreads v).preserve = s.preserve ∧
    (s.putGreads v).kept = s.kept ∧ (s.putGreads v).metaOpen = s.metaOpen ∧ (s.putGreads v).portA = s.portA ∧
    (s.putGreads v).restartDue = s.restartDue ∧ (s.putGreads v).pings = s.pings ∧ (s.putGreads v).chain = s.chain ∧
    (s.putGreads v).position = s.position ∧ (s.putGreads v).power = s.power ∧ (s.putGreads v).powerOp = s.powerOp ∧
    (s.putGreads v).fsn = s.fsn ∧ (s.putGreads v).ns = s.ns ∧ (s.putGreads v).volCap = s.volCap ∧
    (s.putGreads v).rsv = s.rsv ∧ (s.putGreads v).tokCount = s.tokCount ∧ (s.putGreads v).fullZones = s.fullZones ∧
    (s.putGreads v).fam = s.fam ∧ (s.putGreads v).params = s.params ∧ (s.putGreads v).alm = s.alm ∧
    (s.putGreads v).domeEntry = s.domeEntry ∧ (s.putGreads v).domeWake = s.domeWake ∧
    (s.putGreads v).domeAgreed = s.domeAgreed ∧ (s.putGreads v).readAt = s.readAt ∧
    (s.putGreads v).sensorFail = s.sensorFail ∧ (s.putGreads v).tripCount = s.tripCount ∧ (s.putGreads v).rise = s.rise ∧
    (s.putGreads v).stopped = s.stopped ∧ (s.putGreads v).coolSince = s.coolSince ∧ (s.putGreads v).events = s.events ∧
    (s.putGreads v).dies = s.dies ∧ (s.putGreads v).chans = s.chans ∧ (s.putGreads v).accs = s.accs ∧
    (s.putGreads v).ldpc = s.ldpc ∧ (s.putGreads v).nand = s.nand ∧ (s.putGreads v).blkErased = s.blkErased ∧
    (s.putGreads v).vault = s.vault ∧ (s.putGreads v).sessions = s.sessions ∧
    (s.putGreads v).trngRestarts = s.trngRestarts ∧ (s.putGreads v).drbgLeft = s.drbgLeft ∧
    (s.putGreads v).imageId = s.imageId ∧ (s.putGreads v).verFuses = s.verFuses ∧ (s.putGreads v).nsInfo = s.nsInfo ∧
    (s.putGreads v).care = s.care ∧ (s.putGreads v).history = s.history ∧ (s.putGreads v).fw = s.fw ∧
    (s.putGreads v).trust = s.trust ∧ (s.putGreads v).fdp = s.fdp ∧ (s.putGreads v).lostGen = s.lostGen ∧
    (s.putGreads v).lostAgain = s.lostAgain ∧ (s.putGreads v).accum = s.accum ∧ (s.putGreads v).boundSent = s.boundSent ∧
    (s.putGreads v).zoneUsed = s.zoneUsed ∧ (s.putGreads v).clean = s.clean :=
  ⟨rfl, rfl, rfl, rfl, rfl, rfl, rfl, rfl, rfl, rfl, rfl, rfl, rfl, rfl, rfl, rfl, rfl, rfl, rfl, rfl, rfl, rfl, rfl,
  rfl, rfl, rfl, rfl, rfl, rfl, rfl, rfl, rfl, rfl, rfl, rfl, rfl, rfl, rfl, rfl, rfl, rfl, rfl, rfl, rfl, rfl, rfl,
  rfl, rfl, rfl, rfl, rfl, rfl, rfl, rfl, rfl, rfl, rfl, rfl, rfl, rfl, rfl, rfl, rfl, rfl, rfl, rfl, rfl, rfl, rfl,
  rfl, rfl, rfl, rfl, rfl, rfl, rfl, rfl, rfl, rfl, rfl, rfl, rfl, rfl, rfl, rfl, rfl, rfl, rfl, rfl, rfl, rfl, rfl,
  rfl, rfl, rfl, rfl, rfl, rfl, rfl, rfl, rfl, rfl, rfl, rfl, rfl, rfl, rfl, rfl, rfl, rfl, rfl, rfl, rfl, rfl, rfl,
  rfl, rfl, rfl, rfl, rfl, rfl, rfl, rfl, rfl⟩

@[simp] theorem State.putGreads_greads (s : State) (v : List (W64 × Bool)) : (s.putGreads v).greads = v := rfl

@[simp] theorem State.putSpanNum_frame (s : State) (v : FMap Nat) :
    (s.putSpanNum v).pending = s.pending ∧ (s.putSpanNum v).free = s.free ∧ (s.putSpanNum v).out = s.out ∧
    (s.putSpanNum v).boot = s.boot ∧ (s.putSpanNum v).tick = s.tick ∧ (s.putSpanNum v).win = s.win ∧
    (s.putSpanNum v).gap = s.gap ∧ (s.putSpanNum v).regs = s.regs ∧ (s.putSpanNum v).regPend = s.regPend ∧
    (s.putSpanNum v).cores = s.cores ∧ (s.putSpanNum v).cluster = s.cluster ∧ (s.putSpanNum v).tun = s.tun ∧
    (s.putSpanNum v).tunBufs = s.tunBufs ∧ (s.putSpanNum v).tunMin = s.tunMin ∧
    (s.putSpanNum v).tunMinPend = s.tunMinPend ∧ (s.putSpanNum v).sramErr = s.sramErr ∧
    (s.putSpanNum v).heldBack = s.heldBack ∧ (s.putSpanNum v).rtHit = s.rtHit ∧ (s.putSpanNum v).rtClock = s.rtClock ∧
    (s.putSpanNum v).rtUntracked = s.rtUntracked ∧ (s.putSpanNum v).dram = s.dram ∧ (s.putSpanNum v).dr = s.dr ∧
    (s.putSpanNum v).poison = s.poison ∧ (s.putSpanNum v).ingot = s.ingot ∧ (s.putSpanNum v).nor = s.nor ∧
    (s.putSpanNum v).norUnk = s.norUnk ∧ (s.putSpanNum v).pat = s.pat ∧ (s.putSpanNum v).tdly = s.tdly ∧
    (s.putSpanNum v).scrub = s.scrub ∧ (s.putSpanNum v).fbuf = s.fbuf ∧ (s.putSpanNum v).rings = s.rings ∧
    (s.putSpanNum v).haz = s.haz ∧ (s.putSpanNum v).marks = s.marks ∧ (s.putSpanNum v).wsnFloor = s.wsnFloor ∧
    (s.putSpanNum v).health = s.health ∧ (s.putSpanNum v).qPend = s.qPend ∧ (s.putSpanNum v).reqs = s.reqs ∧
    (s.putSpanNum v).aborts = s.aborts ∧ (s.putSpanNum v).gateShut = s.gateShut ∧ (s.putSpanNum v).sqs = s.sqs ∧
    (s.putSpanNum v).cqs = s.cqs ∧ (s.putSpanNum v).cmds = s.cmds ∧ (s.putSpanNum v).resets = s.resets ∧
    (s.putSpanNum v).ctrls = s.ctrls ∧ (s.putSpanNum v).arbs = s.arbs ∧ (s.putSpanNum v).credit = s.credit ∧
    (s.putSpanNum v).taken = s.taken ∧ (s.putSpanNum v).fetchLeft = s.fetchLeft ∧ (s.putSpanNum v).rotLast = s.rotLast ∧
    (s.putSpanNum v).rotFirst = s.rotFirst ∧ (s.putSpanNum v).hazStall = s.hazStall ∧ (s.putSpanNum v).span = s.span ∧
    (s.putSpanNum v).spanOut = s.spanOut ∧ (s.putSpanNum v).spanIn = s.spanIn ∧ (s.putSpanNum v).resOut = s.resOut ∧
    (s.putSpanNum v).jobs = s.jobs ∧ (s.putSpanNum v).finishing = s.finishing ∧ (s.putSpanNum v).greads = s.greads ∧
    (s.putSpanNum v).spanArr = s.spanArr ∧ (s.putSpanNum v).dups = s.dups ∧ (s.putSpanNum v).dupGen = s.dupGen ∧
    (s.putSpanNum v).rlogPos = s.rlogPos ∧ (s.putSpanNum v).members = s.members ∧ (s.putSpanNum v).peerVia = s.peerVia ∧
    (s.putSpanNum v).groups = s.groups ∧ (s.putSpanNum v).peerBound = s.peerBound ∧
    (s.putSpanNum v).returned = s.returned ∧ (s.putSpanNum v).lostRanges = s.lostRanges ∧
    (s.putSpanNum v).wmap = s.wmap ∧ (s.putSpanNum v).wfin = s.wfin ∧ (s.putSpanNum v).wheld = s.wheld ∧
    (s.putSpanNum v).preserve = s.preserve ∧ (s.putSpanNum v).kept = s.kept ∧ (s.putSpanNum v).metaOpen = s.metaOpen ∧
    (s.putSpanNum v).portA = s.portA ∧ (s.putSpanNum v).restartDue = s.restartDue ∧ (s.putSpanNum v).pings = s.pings ∧
    (s.putSpanNum v).chain = s.chain ∧ (s.putSpanNum v).position = s.position ∧ (s.putSpanNum v).power = s.power ∧
    (s.putSpanNum v).powerOp = s.powerOp ∧ (s.putSpanNum v).fsn = s.fsn ∧ (s.putSpanNum v).ns = s.ns ∧
    (s.putSpanNum v).volCap = s.volCap ∧ (s.putSpanNum v).rsv = s.rsv ∧ (s.putSpanNum v).tokCount = s.tokCount ∧
    (s.putSpanNum v).fullZones = s.fullZones ∧ (s.putSpanNum v).fam = s.fam ∧ (s.putSpanNum v).params = s.params ∧
    (s.putSpanNum v).alm = s.alm ∧ (s.putSpanNum v).domeEntry = s.domeEntry ∧ (s.putSpanNum v).domeWake = s.domeWake ∧
    (s.putSpanNum v).domeAgreed = s.domeAgreed ∧ (s.putSpanNum v).readAt = s.readAt ∧
    (s.putSpanNum v).sensorFail = s.sensorFail ∧ (s.putSpanNum v).tripCount = s.tripCount ∧
    (s.putSpanNum v).rise = s.rise ∧ (s.putSpanNum v).stopped = s.stopped ∧ (s.putSpanNum v).coolSince = s.coolSince ∧
    (s.putSpanNum v).events = s.events ∧ (s.putSpanNum v).dies = s.dies ∧ (s.putSpanNum v).chans = s.chans ∧
    (s.putSpanNum v).accs = s.accs ∧ (s.putSpanNum v).ldpc = s.ldpc ∧ (s.putSpanNum v).nand = s.nand ∧
    (s.putSpanNum v).blkErased = s.blkErased ∧ (s.putSpanNum v).vault = s.vault ∧
    (s.putSpanNum v).sessions = s.sessions ∧ (s.putSpanNum v).trngRestarts = s.trngRestarts ∧
    (s.putSpanNum v).drbgLeft = s.drbgLeft ∧ (s.putSpanNum v).imageId = s.imageId ∧
    (s.putSpanNum v).verFuses = s.verFuses ∧ (s.putSpanNum v).nsInfo = s.nsInfo ∧ (s.putSpanNum v).care = s.care ∧
    (s.putSpanNum v).history = s.history ∧ (s.putSpanNum v).fw = s.fw ∧ (s.putSpanNum v).trust = s.trust ∧
    (s.putSpanNum v).fdp = s.fdp ∧ (s.putSpanNum v).lostGen = s.lostGen ∧ (s.putSpanNum v).lostAgain = s.lostAgain ∧
    (s.putSpanNum v).accum = s.accum ∧ (s.putSpanNum v).boundSent = s.boundSent ∧
    (s.putSpanNum v).zoneUsed = s.zoneUsed ∧ (s.putSpanNum v).clean = s.clean :=
  ⟨rfl, rfl, rfl, rfl, rfl, rfl, rfl, rfl, rfl, rfl, rfl, rfl, rfl, rfl, rfl, rfl, rfl, rfl, rfl, rfl, rfl, rfl, rfl,
  rfl, rfl, rfl, rfl, rfl, rfl, rfl, rfl, rfl, rfl, rfl, rfl, rfl, rfl, rfl, rfl, rfl, rfl, rfl, rfl, rfl, rfl, rfl,
  rfl, rfl, rfl, rfl, rfl, rfl, rfl, rfl, rfl, rfl, rfl, rfl, rfl, rfl, rfl, rfl, rfl, rfl, rfl, rfl, rfl, rfl, rfl,
  rfl, rfl, rfl, rfl, rfl, rfl, rfl, rfl, rfl, rfl, rfl, rfl, rfl, rfl, rfl, rfl, rfl, rfl, rfl, rfl, rfl, rfl, rfl,
  rfl, rfl, rfl, rfl, rfl, rfl, rfl, rfl, rfl, rfl, rfl, rfl, rfl, rfl, rfl, rfl, rfl, rfl, rfl, rfl, rfl, rfl, rfl,
  rfl, rfl, rfl, rfl, rfl, rfl, rfl, rfl, rfl⟩

@[simp] theorem State.putSpanNum_spanNum (s : State) (v : FMap Nat) : (s.putSpanNum v).spanNum = v := rfl

@[simp] theorem State.putSpanArr_frame (s : State) (v : Nat) :
    (s.putSpanArr v).pending = s.pending ∧ (s.putSpanArr v).free = s.free ∧ (s.putSpanArr v).out = s.out ∧
    (s.putSpanArr v).boot = s.boot ∧ (s.putSpanArr v).tick = s.tick ∧ (s.putSpanArr v).win = s.win ∧
    (s.putSpanArr v).gap = s.gap ∧ (s.putSpanArr v).regs = s.regs ∧ (s.putSpanArr v).regPend = s.regPend ∧
    (s.putSpanArr v).cores = s.cores ∧ (s.putSpanArr v).cluster = s.cluster ∧ (s.putSpanArr v).tun = s.tun ∧
    (s.putSpanArr v).tunBufs = s.tunBufs ∧ (s.putSpanArr v).tunMin = s.tunMin ∧
    (s.putSpanArr v).tunMinPend = s.tunMinPend ∧ (s.putSpanArr v).sramErr = s.sramErr ∧
    (s.putSpanArr v).heldBack = s.heldBack ∧ (s.putSpanArr v).rtHit = s.rtHit ∧ (s.putSpanArr v).rtClock = s.rtClock ∧
    (s.putSpanArr v).rtUntracked = s.rtUntracked ∧ (s.putSpanArr v).dram = s.dram ∧ (s.putSpanArr v).dr = s.dr ∧
    (s.putSpanArr v).poison = s.poison ∧ (s.putSpanArr v).ingot = s.ingot ∧ (s.putSpanArr v).nor = s.nor ∧
    (s.putSpanArr v).norUnk = s.norUnk ∧ (s.putSpanArr v).pat = s.pat ∧ (s.putSpanArr v).tdly = s.tdly ∧
    (s.putSpanArr v).scrub = s.scrub ∧ (s.putSpanArr v).fbuf = s.fbuf ∧ (s.putSpanArr v).rings = s.rings ∧
    (s.putSpanArr v).haz = s.haz ∧ (s.putSpanArr v).marks = s.marks ∧ (s.putSpanArr v).wsnFloor = s.wsnFloor ∧
    (s.putSpanArr v).health = s.health ∧ (s.putSpanArr v).qPend = s.qPend ∧ (s.putSpanArr v).reqs = s.reqs ∧
    (s.putSpanArr v).aborts = s.aborts ∧ (s.putSpanArr v).gateShut = s.gateShut ∧ (s.putSpanArr v).sqs = s.sqs ∧
    (s.putSpanArr v).cqs = s.cqs ∧ (s.putSpanArr v).cmds = s.cmds ∧ (s.putSpanArr v).resets = s.resets ∧
    (s.putSpanArr v).ctrls = s.ctrls ∧ (s.putSpanArr v).arbs = s.arbs ∧ (s.putSpanArr v).credit = s.credit ∧
    (s.putSpanArr v).taken = s.taken ∧ (s.putSpanArr v).fetchLeft = s.fetchLeft ∧ (s.putSpanArr v).rotLast = s.rotLast ∧
    (s.putSpanArr v).rotFirst = s.rotFirst ∧ (s.putSpanArr v).hazStall = s.hazStall ∧ (s.putSpanArr v).span = s.span ∧
    (s.putSpanArr v).spanOut = s.spanOut ∧ (s.putSpanArr v).spanIn = s.spanIn ∧ (s.putSpanArr v).resOut = s.resOut ∧
    (s.putSpanArr v).jobs = s.jobs ∧ (s.putSpanArr v).finishing = s.finishing ∧ (s.putSpanArr v).greads = s.greads ∧
    (s.putSpanArr v).spanNum = s.spanNum ∧ (s.putSpanArr v).dups = s.dups ∧ (s.putSpanArr v).dupGen = s.dupGen ∧
    (s.putSpanArr v).rlogPos = s.rlogPos ∧ (s.putSpanArr v).members = s.members ∧ (s.putSpanArr v).peerVia = s.peerVia ∧
    (s.putSpanArr v).groups = s.groups ∧ (s.putSpanArr v).peerBound = s.peerBound ∧
    (s.putSpanArr v).returned = s.returned ∧ (s.putSpanArr v).lostRanges = s.lostRanges ∧
    (s.putSpanArr v).wmap = s.wmap ∧ (s.putSpanArr v).wfin = s.wfin ∧ (s.putSpanArr v).wheld = s.wheld ∧
    (s.putSpanArr v).preserve = s.preserve ∧ (s.putSpanArr v).kept = s.kept ∧ (s.putSpanArr v).metaOpen = s.metaOpen ∧
    (s.putSpanArr v).portA = s.portA ∧ (s.putSpanArr v).restartDue = s.restartDue ∧ (s.putSpanArr v).pings = s.pings ∧
    (s.putSpanArr v).chain = s.chain ∧ (s.putSpanArr v).position = s.position ∧ (s.putSpanArr v).power = s.power ∧
    (s.putSpanArr v).powerOp = s.powerOp ∧ (s.putSpanArr v).fsn = s.fsn ∧ (s.putSpanArr v).ns = s.ns ∧
    (s.putSpanArr v).volCap = s.volCap ∧ (s.putSpanArr v).rsv = s.rsv ∧ (s.putSpanArr v).tokCount = s.tokCount ∧
    (s.putSpanArr v).fullZones = s.fullZones ∧ (s.putSpanArr v).fam = s.fam ∧ (s.putSpanArr v).params = s.params ∧
    (s.putSpanArr v).alm = s.alm ∧ (s.putSpanArr v).domeEntry = s.domeEntry ∧ (s.putSpanArr v).domeWake = s.domeWake ∧
    (s.putSpanArr v).domeAgreed = s.domeAgreed ∧ (s.putSpanArr v).readAt = s.readAt ∧
    (s.putSpanArr v).sensorFail = s.sensorFail ∧ (s.putSpanArr v).tripCount = s.tripCount ∧
    (s.putSpanArr v).rise = s.rise ∧ (s.putSpanArr v).stopped = s.stopped ∧ (s.putSpanArr v).coolSince = s.coolSince ∧
    (s.putSpanArr v).events = s.events ∧ (s.putSpanArr v).dies = s.dies ∧ (s.putSpanArr v).chans = s.chans ∧
    (s.putSpanArr v).accs = s.accs ∧ (s.putSpanArr v).ldpc = s.ldpc ∧ (s.putSpanArr v).nand = s.nand ∧
    (s.putSpanArr v).blkErased = s.blkErased ∧ (s.putSpanArr v).vault = s.vault ∧
    (s.putSpanArr v).sessions = s.sessions ∧ (s.putSpanArr v).trngRestarts = s.trngRestarts ∧
    (s.putSpanArr v).drbgLeft = s.drbgLeft ∧ (s.putSpanArr v).imageId = s.imageId ∧
    (s.putSpanArr v).verFuses = s.verFuses ∧ (s.putSpanArr v).nsInfo = s.nsInfo ∧ (s.putSpanArr v).care = s.care ∧
    (s.putSpanArr v).history = s.history ∧ (s.putSpanArr v).fw = s.fw ∧ (s.putSpanArr v).trust = s.trust ∧
    (s.putSpanArr v).fdp = s.fdp ∧ (s.putSpanArr v).lostGen = s.lostGen ∧ (s.putSpanArr v).lostAgain = s.lostAgain ∧
    (s.putSpanArr v).accum = s.accum ∧ (s.putSpanArr v).boundSent = s.boundSent ∧
    (s.putSpanArr v).zoneUsed = s.zoneUsed ∧ (s.putSpanArr v).clean = s.clean :=
  ⟨rfl, rfl, rfl, rfl, rfl, rfl, rfl, rfl, rfl, rfl, rfl, rfl, rfl, rfl, rfl, rfl, rfl, rfl, rfl, rfl, rfl, rfl, rfl,
  rfl, rfl, rfl, rfl, rfl, rfl, rfl, rfl, rfl, rfl, rfl, rfl, rfl, rfl, rfl, rfl, rfl, rfl, rfl, rfl, rfl, rfl, rfl,
  rfl, rfl, rfl, rfl, rfl, rfl, rfl, rfl, rfl, rfl, rfl, rfl, rfl, rfl, rfl, rfl, rfl, rfl, rfl, rfl, rfl, rfl, rfl,
  rfl, rfl, rfl, rfl, rfl, rfl, rfl, rfl, rfl, rfl, rfl, rfl, rfl, rfl, rfl, rfl, rfl, rfl, rfl, rfl, rfl, rfl, rfl,
  rfl, rfl, rfl, rfl, rfl, rfl, rfl, rfl, rfl, rfl, rfl, rfl, rfl, rfl, rfl, rfl, rfl, rfl, rfl, rfl, rfl, rfl, rfl,
  rfl, rfl, rfl, rfl, rfl, rfl, rfl, rfl, rfl⟩

@[simp] theorem State.putSpanArr_spanArr (s : State) (v : Nat) : (s.putSpanArr v).spanArr = v := rfl

@[simp] theorem State.putDups_frame (s : State) (v : List DupEntry) :
    (s.putDups v).pending = s.pending ∧ (s.putDups v).free = s.free ∧ (s.putDups v).out = s.out ∧
    (s.putDups v).boot = s.boot ∧ (s.putDups v).tick = s.tick ∧ (s.putDups v).win = s.win ∧ (s.putDups v).gap = s.gap ∧
    (s.putDups v).regs = s.regs ∧ (s.putDups v).regPend = s.regPend ∧ (s.putDups v).cores = s.cores ∧
    (s.putDups v).cluster = s.cluster ∧ (s.putDups v).tun = s.tun ∧ (s.putDups v).tunBufs = s.tunBufs ∧
    (s.putDups v).tunMin = s.tunMin ∧ (s.putDups v).tunMinPend = s.tunMinPend ∧ (s.putDups v).sramErr = s.sramErr ∧
    (s.putDups v).heldBack = s.heldBack ∧ (s.putDups v).rtHit = s.rtHit ∧ (s.putDups v).rtClock = s.rtClock ∧
    (s.putDups v).rtUntracked = s.rtUntracked ∧ (s.putDups v).dram = s.dram ∧ (s.putDups v).dr = s.dr ∧
    (s.putDups v).poison = s.poison ∧ (s.putDups v).ingot = s.ingot ∧ (s.putDups v).nor = s.nor ∧
    (s.putDups v).norUnk = s.norUnk ∧ (s.putDups v).pat = s.pat ∧ (s.putDups v).tdly = s.tdly ∧
    (s.putDups v).scrub = s.scrub ∧ (s.putDups v).fbuf = s.fbuf ∧ (s.putDups v).rings = s.rings ∧
    (s.putDups v).haz = s.haz ∧ (s.putDups v).marks = s.marks ∧ (s.putDups v).wsnFloor = s.wsnFloor ∧
    (s.putDups v).health = s.health ∧ (s.putDups v).qPend = s.qPend ∧ (s.putDups v).reqs = s.reqs ∧
    (s.putDups v).aborts = s.aborts ∧ (s.putDups v).gateShut = s.gateShut ∧ (s.putDups v).sqs = s.sqs ∧
    (s.putDups v).cqs = s.cqs ∧ (s.putDups v).cmds = s.cmds ∧ (s.putDups v).resets = s.resets ∧
    (s.putDups v).ctrls = s.ctrls ∧ (s.putDups v).arbs = s.arbs ∧ (s.putDups v).credit = s.credit ∧
    (s.putDups v).taken = s.taken ∧ (s.putDups v).fetchLeft = s.fetchLeft ∧ (s.putDups v).rotLast = s.rotLast ∧
    (s.putDups v).rotFirst = s.rotFirst ∧ (s.putDups v).hazStall = s.hazStall ∧ (s.putDups v).span = s.span ∧
    (s.putDups v).spanOut = s.spanOut ∧ (s.putDups v).spanIn = s.spanIn ∧ (s.putDups v).resOut = s.resOut ∧
    (s.putDups v).jobs = s.jobs ∧ (s.putDups v).finishing = s.finishing ∧ (s.putDups v).greads = s.greads ∧
    (s.putDups v).spanNum = s.spanNum ∧ (s.putDups v).spanArr = s.spanArr ∧ (s.putDups v).dupGen = s.dupGen ∧
    (s.putDups v).rlogPos = s.rlogPos ∧ (s.putDups v).members = s.members ∧ (s.putDups v).peerVia = s.peerVia ∧
    (s.putDups v).groups = s.groups ∧ (s.putDups v).peerBound = s.peerBound ∧ (s.putDups v).returned = s.returned ∧
    (s.putDups v).lostRanges = s.lostRanges ∧ (s.putDups v).wmap = s.wmap ∧ (s.putDups v).wfin = s.wfin ∧
    (s.putDups v).wheld = s.wheld ∧ (s.putDups v).preserve = s.preserve ∧ (s.putDups v).kept = s.kept ∧
    (s.putDups v).metaOpen = s.metaOpen ∧ (s.putDups v).portA = s.portA ∧ (s.putDups v).restartDue = s.restartDue ∧
    (s.putDups v).pings = s.pings ∧ (s.putDups v).chain = s.chain ∧ (s.putDups v).position = s.position ∧
    (s.putDups v).power = s.power ∧ (s.putDups v).powerOp = s.powerOp ∧ (s.putDups v).fsn = s.fsn ∧
    (s.putDups v).ns = s.ns ∧ (s.putDups v).volCap = s.volCap ∧ (s.putDups v).rsv = s.rsv ∧
    (s.putDups v).tokCount = s.tokCount ∧ (s.putDups v).fullZones = s.fullZones ∧ (s.putDups v).fam = s.fam ∧
    (s.putDups v).params = s.params ∧ (s.putDups v).alm = s.alm ∧ (s.putDups v).domeEntry = s.domeEntry ∧
    (s.putDups v).domeWake = s.domeWake ∧ (s.putDups v).domeAgreed = s.domeAgreed ∧ (s.putDups v).readAt = s.readAt ∧
    (s.putDups v).sensorFail = s.sensorFail ∧ (s.putDups v).tripCount = s.tripCount ∧ (s.putDups v).rise = s.rise ∧
    (s.putDups v).stopped = s.stopped ∧ (s.putDups v).coolSince = s.coolSince ∧ (s.putDups v).events = s.events ∧
    (s.putDups v).dies = s.dies ∧ (s.putDups v).chans = s.chans ∧ (s.putDups v).accs = s.accs ∧
    (s.putDups v).ldpc = s.ldpc ∧ (s.putDups v).nand = s.nand ∧ (s.putDups v).blkErased = s.blkErased ∧
    (s.putDups v).vault = s.vault ∧ (s.putDups v).sessions = s.sessions ∧ (s.putDups v).trngRestarts = s.trngRestarts ∧
    (s.putDups v).drbgLeft = s.drbgLeft ∧ (s.putDups v).imageId = s.imageId ∧ (s.putDups v).verFuses = s.verFuses ∧
    (s.putDups v).nsInfo = s.nsInfo ∧ (s.putDups v).care = s.care ∧ (s.putDups v).history = s.history ∧
    (s.putDups v).fw = s.fw ∧ (s.putDups v).trust = s.trust ∧ (s.putDups v).fdp = s.fdp ∧
    (s.putDups v).lostGen = s.lostGen ∧ (s.putDups v).lostAgain = s.lostAgain ∧ (s.putDups v).accum = s.accum ∧
    (s.putDups v).boundSent = s.boundSent ∧ (s.putDups v).zoneUsed = s.zoneUsed ∧ (s.putDups v).clean = s.clean :=
  ⟨rfl, rfl, rfl, rfl, rfl, rfl, rfl, rfl, rfl, rfl, rfl, rfl, rfl, rfl, rfl, rfl, rfl, rfl, rfl, rfl, rfl, rfl, rfl,
  rfl, rfl, rfl, rfl, rfl, rfl, rfl, rfl, rfl, rfl, rfl, rfl, rfl, rfl, rfl, rfl, rfl, rfl, rfl, rfl, rfl, rfl, rfl,
  rfl, rfl, rfl, rfl, rfl, rfl, rfl, rfl, rfl, rfl, rfl, rfl, rfl, rfl, rfl, rfl, rfl, rfl, rfl, rfl, rfl, rfl, rfl,
  rfl, rfl, rfl, rfl, rfl, rfl, rfl, rfl, rfl, rfl, rfl, rfl, rfl, rfl, rfl, rfl, rfl, rfl, rfl, rfl, rfl, rfl, rfl,
  rfl, rfl, rfl, rfl, rfl, rfl, rfl, rfl, rfl, rfl, rfl, rfl, rfl, rfl, rfl, rfl, rfl, rfl, rfl, rfl, rfl, rfl, rfl,
  rfl, rfl, rfl, rfl, rfl, rfl, rfl, rfl, rfl⟩

@[simp] theorem State.putDups_dups (s : State) (v : List DupEntry) : (s.putDups v).dups = v := rfl

@[simp] theorem State.putDupGen_frame (s : State) (v : FMap Nat) :
    (s.putDupGen v).pending = s.pending ∧ (s.putDupGen v).free = s.free ∧ (s.putDupGen v).out = s.out ∧
    (s.putDupGen v).boot = s.boot ∧ (s.putDupGen v).tick = s.tick ∧ (s.putDupGen v).win = s.win ∧
    (s.putDupGen v).gap = s.gap ∧ (s.putDupGen v).regs = s.regs ∧ (s.putDupGen v).regPend = s.regPend ∧
    (s.putDupGen v).cores = s.cores ∧ (s.putDupGen v).cluster = s.cluster ∧ (s.putDupGen v).tun = s.tun ∧
    (s.putDupGen v).tunBufs = s.tunBufs ∧ (s.putDupGen v).tunMin = s.tunMin ∧ (s.putDupGen v).tunMinPend = s.tunMinPend ∧
    (s.putDupGen v).sramErr = s.sramErr ∧ (s.putDupGen v).heldBack = s.heldBack ∧ (s.putDupGen v).rtHit = s.rtHit ∧
    (s.putDupGen v).rtClock = s.rtClock ∧ (s.putDupGen v).rtUntracked = s.rtUntracked ∧ (s.putDupGen v).dram = s.dram ∧
    (s.putDupGen v).dr = s.dr ∧ (s.putDupGen v).poison = s.poison ∧ (s.putDupGen v).ingot = s.ingot ∧
    (s.putDupGen v).nor = s.nor ∧ (s.putDupGen v).norUnk = s.norUnk ∧ (s.putDupGen v).pat = s.pat ∧
    (s.putDupGen v).tdly = s.tdly ∧ (s.putDupGen v).scrub = s.scrub ∧ (s.putDupGen v).fbuf = s.fbuf ∧
    (s.putDupGen v).rings = s.rings ∧ (s.putDupGen v).haz = s.haz ∧ (s.putDupGen v).marks = s.marks ∧
    (s.putDupGen v).wsnFloor = s.wsnFloor ∧ (s.putDupGen v).health = s.health ∧ (s.putDupGen v).qPend = s.qPend ∧
    (s.putDupGen v).reqs = s.reqs ∧ (s.putDupGen v).aborts = s.aborts ∧ (s.putDupGen v).gateShut = s.gateShut ∧
    (s.putDupGen v).sqs = s.sqs ∧ (s.putDupGen v).cqs = s.cqs ∧ (s.putDupGen v).cmds = s.cmds ∧
    (s.putDupGen v).resets = s.resets ∧ (s.putDupGen v).ctrls = s.ctrls ∧ (s.putDupGen v).arbs = s.arbs ∧
    (s.putDupGen v).credit = s.credit ∧ (s.putDupGen v).taken = s.taken ∧ (s.putDupGen v).fetchLeft = s.fetchLeft ∧
    (s.putDupGen v).rotLast = s.rotLast ∧ (s.putDupGen v).rotFirst = s.rotFirst ∧ (s.putDupGen v).hazStall = s.hazStall ∧
    (s.putDupGen v).span = s.span ∧ (s.putDupGen v).spanOut = s.spanOut ∧ (s.putDupGen v).spanIn = s.spanIn ∧
    (s.putDupGen v).resOut = s.resOut ∧ (s.putDupGen v).jobs = s.jobs ∧ (s.putDupGen v).finishing = s.finishing ∧
    (s.putDupGen v).greads = s.greads ∧ (s.putDupGen v).spanNum = s.spanNum ∧ (s.putDupGen v).spanArr = s.spanArr ∧
    (s.putDupGen v).dups = s.dups ∧ (s.putDupGen v).rlogPos = s.rlogPos ∧ (s.putDupGen v).members = s.members ∧
    (s.putDupGen v).peerVia = s.peerVia ∧ (s.putDupGen v).groups = s.groups ∧ (s.putDupGen v).peerBound = s.peerBound ∧
    (s.putDupGen v).returned = s.returned ∧ (s.putDupGen v).lostRanges = s.lostRanges ∧ (s.putDupGen v).wmap = s.wmap ∧
    (s.putDupGen v).wfin = s.wfin ∧ (s.putDupGen v).wheld = s.wheld ∧ (s.putDupGen v).preserve = s.preserve ∧
    (s.putDupGen v).kept = s.kept ∧ (s.putDupGen v).metaOpen = s.metaOpen ∧ (s.putDupGen v).portA = s.portA ∧
    (s.putDupGen v).restartDue = s.restartDue ∧ (s.putDupGen v).pings = s.pings ∧ (s.putDupGen v).chain = s.chain ∧
    (s.putDupGen v).position = s.position ∧ (s.putDupGen v).power = s.power ∧ (s.putDupGen v).powerOp = s.powerOp ∧
    (s.putDupGen v).fsn = s.fsn ∧ (s.putDupGen v).ns = s.ns ∧ (s.putDupGen v).volCap = s.volCap ∧
    (s.putDupGen v).rsv = s.rsv ∧ (s.putDupGen v).tokCount = s.tokCount ∧ (s.putDupGen v).fullZones = s.fullZones ∧
    (s.putDupGen v).fam = s.fam ∧ (s.putDupGen v).params = s.params ∧ (s.putDupGen v).alm = s.alm ∧
    (s.putDupGen v).domeEntry = s.domeEntry ∧ (s.putDupGen v).domeWake = s.domeWake ∧
    (s.putDupGen v).domeAgreed = s.domeAgreed ∧ (s.putDupGen v).readAt = s.readAt ∧
    (s.putDupGen v).sensorFail = s.sensorFail ∧ (s.putDupGen v).tripCount = s.tripCount ∧ (s.putDupGen v).rise = s.rise ∧
    (s.putDupGen v).stopped = s.stopped ∧ (s.putDupGen v).coolSince = s.coolSince ∧ (s.putDupGen v).events = s.events ∧
    (s.putDupGen v).dies = s.dies ∧ (s.putDupGen v).chans = s.chans ∧ (s.putDupGen v).accs = s.accs ∧
    (s.putDupGen v).ldpc = s.ldpc ∧ (s.putDupGen v).nand = s.nand ∧ (s.putDupGen v).blkErased = s.blkErased ∧
    (s.putDupGen v).vault = s.vault ∧ (s.putDupGen v).sessions = s.sessions ∧
    (s.putDupGen v).trngRestarts = s.trngRestarts ∧ (s.putDupGen v).drbgLeft = s.drbgLeft ∧
    (s.putDupGen v).imageId = s.imageId ∧ (s.putDupGen v).verFuses = s.verFuses ∧ (s.putDupGen v).nsInfo = s.nsInfo ∧
    (s.putDupGen v).care = s.care ∧ (s.putDupGen v).history = s.history ∧ (s.putDupGen v).fw = s.fw ∧
    (s.putDupGen v).trust = s.trust ∧ (s.putDupGen v).fdp = s.fdp ∧ (s.putDupGen v).lostGen = s.lostGen ∧
    (s.putDupGen v).lostAgain = s.lostAgain ∧ (s.putDupGen v).accum = s.accum ∧ (s.putDupGen v).boundSent = s.boundSent ∧
    (s.putDupGen v).zoneUsed = s.zoneUsed ∧ (s.putDupGen v).clean = s.clean :=
  ⟨rfl, rfl, rfl, rfl, rfl, rfl, rfl, rfl, rfl, rfl, rfl, rfl, rfl, rfl, rfl, rfl, rfl, rfl, rfl, rfl, rfl, rfl, rfl,
  rfl, rfl, rfl, rfl, rfl, rfl, rfl, rfl, rfl, rfl, rfl, rfl, rfl, rfl, rfl, rfl, rfl, rfl, rfl, rfl, rfl, rfl, rfl,
  rfl, rfl, rfl, rfl, rfl, rfl, rfl, rfl, rfl, rfl, rfl, rfl, rfl, rfl, rfl, rfl, rfl, rfl, rfl, rfl, rfl, rfl, rfl,
  rfl, rfl, rfl, rfl, rfl, rfl, rfl, rfl, rfl, rfl, rfl, rfl, rfl, rfl, rfl, rfl, rfl, rfl, rfl, rfl, rfl, rfl, rfl,
  rfl, rfl, rfl, rfl, rfl, rfl, rfl, rfl, rfl, rfl, rfl, rfl, rfl, rfl, rfl, rfl, rfl, rfl, rfl, rfl, rfl, rfl, rfl,
  rfl, rfl, rfl, rfl, rfl, rfl, rfl, rfl, rfl⟩

@[simp] theorem State.putDupGen_dupGen (s : State) (v : FMap Nat) : (s.putDupGen v).dupGen = v := rfl

@[simp] theorem State.putRlogPos_frame (s : State) (v : Nat) :
    (s.putRlogPos v).pending = s.pending ∧ (s.putRlogPos v).free = s.free ∧ (s.putRlogPos v).out = s.out ∧
    (s.putRlogPos v).boot = s.boot ∧ (s.putRlogPos v).tick = s.tick ∧ (s.putRlogPos v).win = s.win ∧
    (s.putRlogPos v).gap = s.gap ∧ (s.putRlogPos v).regs = s.regs ∧ (s.putRlogPos v).regPend = s.regPend ∧
    (s.putRlogPos v).cores = s.cores ∧ (s.putRlogPos v).cluster = s.cluster ∧ (s.putRlogPos v).tun = s.tun ∧
    (s.putRlogPos v).tunBufs = s.tunBufs ∧ (s.putRlogPos v).tunMin = s.tunMin ∧
    (s.putRlogPos v).tunMinPend = s.tunMinPend ∧ (s.putRlogPos v).sramErr = s.sramErr ∧
    (s.putRlogPos v).heldBack = s.heldBack ∧ (s.putRlogPos v).rtHit = s.rtHit ∧ (s.putRlogPos v).rtClock = s.rtClock ∧
    (s.putRlogPos v).rtUntracked = s.rtUntracked ∧ (s.putRlogPos v).dram = s.dram ∧ (s.putRlogPos v).dr = s.dr ∧
    (s.putRlogPos v).poison = s.poison ∧ (s.putRlogPos v).ingot = s.ingot ∧ (s.putRlogPos v).nor = s.nor ∧
    (s.putRlogPos v).norUnk = s.norUnk ∧ (s.putRlogPos v).pat = s.pat ∧ (s.putRlogPos v).tdly = s.tdly ∧
    (s.putRlogPos v).scrub = s.scrub ∧ (s.putRlogPos v).fbuf = s.fbuf ∧ (s.putRlogPos v).rings = s.rings ∧
    (s.putRlogPos v).haz = s.haz ∧ (s.putRlogPos v).marks = s.marks ∧ (s.putRlogPos v).wsnFloor = s.wsnFloor ∧
    (s.putRlogPos v).health = s.health ∧ (s.putRlogPos v).qPend = s.qPend ∧ (s.putRlogPos v).reqs = s.reqs ∧
    (s.putRlogPos v).aborts = s.aborts ∧ (s.putRlogPos v).gateShut = s.gateShut ∧ (s.putRlogPos v).sqs = s.sqs ∧
    (s.putRlogPos v).cqs = s.cqs ∧ (s.putRlogPos v).cmds = s.cmds ∧ (s.putRlogPos v).resets = s.resets ∧
    (s.putRlogPos v).ctrls = s.ctrls ∧ (s.putRlogPos v).arbs = s.arbs ∧ (s.putRlogPos v).credit = s.credit ∧
    (s.putRlogPos v).taken = s.taken ∧ (s.putRlogPos v).fetchLeft = s.fetchLeft ∧ (s.putRlogPos v).rotLast = s.rotLast ∧
    (s.putRlogPos v).rotFirst = s.rotFirst ∧ (s.putRlogPos v).hazStall = s.hazStall ∧ (s.putRlogPos v).span = s.span ∧
    (s.putRlogPos v).spanOut = s.spanOut ∧ (s.putRlogPos v).spanIn = s.spanIn ∧ (s.putRlogPos v).resOut = s.resOut ∧
    (s.putRlogPos v).jobs = s.jobs ∧ (s.putRlogPos v).finishing = s.finishing ∧ (s.putRlogPos v).greads = s.greads ∧
    (s.putRlogPos v).spanNum = s.spanNum ∧ (s.putRlogPos v).spanArr = s.spanArr ∧ (s.putRlogPos v).dups = s.dups ∧
    (s.putRlogPos v).dupGen = s.dupGen ∧ (s.putRlogPos v).members = s.members ∧ (s.putRlogPos v).peerVia = s.peerVia ∧
    (s.putRlogPos v).groups = s.groups ∧ (s.putRlogPos v).peerBound = s.peerBound ∧
    (s.putRlogPos v).returned = s.returned ∧ (s.putRlogPos v).lostRanges = s.lostRanges ∧
    (s.putRlogPos v).wmap = s.wmap ∧ (s.putRlogPos v).wfin = s.wfin ∧ (s.putRlogPos v).wheld = s.wheld ∧
    (s.putRlogPos v).preserve = s.preserve ∧ (s.putRlogPos v).kept = s.kept ∧ (s.putRlogPos v).metaOpen = s.metaOpen ∧
    (s.putRlogPos v).portA = s.portA ∧ (s.putRlogPos v).restartDue = s.restartDue ∧ (s.putRlogPos v).pings = s.pings ∧
    (s.putRlogPos v).chain = s.chain ∧ (s.putRlogPos v).position = s.position ∧ (s.putRlogPos v).power = s.power ∧
    (s.putRlogPos v).powerOp = s.powerOp ∧ (s.putRlogPos v).fsn = s.fsn ∧ (s.putRlogPos v).ns = s.ns ∧
    (s.putRlogPos v).volCap = s.volCap ∧ (s.putRlogPos v).rsv = s.rsv ∧ (s.putRlogPos v).tokCount = s.tokCount ∧
    (s.putRlogPos v).fullZones = s.fullZones ∧ (s.putRlogPos v).fam = s.fam ∧ (s.putRlogPos v).params = s.params ∧
    (s.putRlogPos v).alm = s.alm ∧ (s.putRlogPos v).domeEntry = s.domeEntry ∧ (s.putRlogPos v).domeWake = s.domeWake ∧
    (s.putRlogPos v).domeAgreed = s.domeAgreed ∧ (s.putRlogPos v).readAt = s.readAt ∧
    (s.putRlogPos v).sensorFail = s.sensorFail ∧ (s.putRlogPos v).tripCount = s.tripCount ∧
    (s.putRlogPos v).rise = s.rise ∧ (s.putRlogPos v).stopped = s.stopped ∧ (s.putRlogPos v).coolSince = s.coolSince ∧
    (s.putRlogPos v).events = s.events ∧ (s.putRlogPos v).dies = s.dies ∧ (s.putRlogPos v).chans = s.chans ∧
    (s.putRlogPos v).accs = s.accs ∧ (s.putRlogPos v).ldpc = s.ldpc ∧ (s.putRlogPos v).nand = s.nand ∧
    (s.putRlogPos v).blkErased = s.blkErased ∧ (s.putRlogPos v).vault = s.vault ∧
    (s.putRlogPos v).sessions = s.sessions ∧ (s.putRlogPos v).trngRestarts = s.trngRestarts ∧
    (s.putRlogPos v).drbgLeft = s.drbgLeft ∧ (s.putRlogPos v).imageId = s.imageId ∧
    (s.putRlogPos v).verFuses = s.verFuses ∧ (s.putRlogPos v).nsInfo = s.nsInfo ∧ (s.putRlogPos v).care = s.care ∧
    (s.putRlogPos v).history = s.history ∧ (s.putRlogPos v).fw = s.fw ∧ (s.putRlogPos v).trust = s.trust ∧
    (s.putRlogPos v).fdp = s.fdp ∧ (s.putRlogPos v).lostGen = s.lostGen ∧ (s.putRlogPos v).lostAgain = s.lostAgain ∧
    (s.putRlogPos v).accum = s.accum ∧ (s.putRlogPos v).boundSent = s.boundSent ∧
    (s.putRlogPos v).zoneUsed = s.zoneUsed ∧ (s.putRlogPos v).clean = s.clean :=
  ⟨rfl, rfl, rfl, rfl, rfl, rfl, rfl, rfl, rfl, rfl, rfl, rfl, rfl, rfl, rfl, rfl, rfl, rfl, rfl, rfl, rfl, rfl, rfl,
  rfl, rfl, rfl, rfl, rfl, rfl, rfl, rfl, rfl, rfl, rfl, rfl, rfl, rfl, rfl, rfl, rfl, rfl, rfl, rfl, rfl, rfl, rfl,
  rfl, rfl, rfl, rfl, rfl, rfl, rfl, rfl, rfl, rfl, rfl, rfl, rfl, rfl, rfl, rfl, rfl, rfl, rfl, rfl, rfl, rfl, rfl,
  rfl, rfl, rfl, rfl, rfl, rfl, rfl, rfl, rfl, rfl, rfl, rfl, rfl, rfl, rfl, rfl, rfl, rfl, rfl, rfl, rfl, rfl, rfl,
  rfl, rfl, rfl, rfl, rfl, rfl, rfl, rfl, rfl, rfl, rfl, rfl, rfl, rfl, rfl, rfl, rfl, rfl, rfl, rfl, rfl, rfl, rfl,
  rfl, rfl, rfl, rfl, rfl, rfl, rfl, rfl, rfl⟩

@[simp] theorem State.putRlogPos_rlogPos (s : State) (v : Nat) : (s.putRlogPos v).rlogPos = v := rfl

@[simp] theorem State.putMembers_frame (s : State) (v : FMap (Option Member)) :
    (s.putMembers v).pending = s.pending ∧ (s.putMembers v).free = s.free ∧ (s.putMembers v).out = s.out ∧
    (s.putMembers v).boot = s.boot ∧ (s.putMembers v).tick = s.tick ∧ (s.putMembers v).win = s.win ∧
    (s.putMembers v).gap = s.gap ∧ (s.putMembers v).regs = s.regs ∧ (s.putMembers v).regPend = s.regPend ∧
    (s.putMembers v).cores = s.cores ∧ (s.putMembers v).cluster = s.cluster ∧ (s.putMembers v).tun = s.tun ∧
    (s.putMembers v).tunBufs = s.tunBufs ∧ (s.putMembers v).tunMin = s.tunMin ∧
    (s.putMembers v).tunMinPend = s.tunMinPend ∧ (s.putMembers v).sramErr = s.sramErr ∧
    (s.putMembers v).heldBack = s.heldBack ∧ (s.putMembers v).rtHit = s.rtHit ∧ (s.putMembers v).rtClock = s.rtClock ∧
    (s.putMembers v).rtUntracked = s.rtUntracked ∧ (s.putMembers v).dram = s.dram ∧ (s.putMembers v).dr = s.dr ∧
    (s.putMembers v).poison = s.poison ∧ (s.putMembers v).ingot = s.ingot ∧ (s.putMembers v).nor = s.nor ∧
    (s.putMembers v).norUnk = s.norUnk ∧ (s.putMembers v).pat = s.pat ∧ (s.putMembers v).tdly = s.tdly ∧
    (s.putMembers v).scrub = s.scrub ∧ (s.putMembers v).fbuf = s.fbuf ∧ (s.putMembers v).rings = s.rings ∧
    (s.putMembers v).haz = s.haz ∧ (s.putMembers v).marks = s.marks ∧ (s.putMembers v).wsnFloor = s.wsnFloor ∧
    (s.putMembers v).health = s.health ∧ (s.putMembers v).qPend = s.qPend ∧ (s.putMembers v).reqs = s.reqs ∧
    (s.putMembers v).aborts = s.aborts ∧ (s.putMembers v).gateShut = s.gateShut ∧ (s.putMembers v).sqs = s.sqs ∧
    (s.putMembers v).cqs = s.cqs ∧ (s.putMembers v).cmds = s.cmds ∧ (s.putMembers v).resets = s.resets ∧
    (s.putMembers v).ctrls = s.ctrls ∧ (s.putMembers v).arbs = s.arbs ∧ (s.putMembers v).credit = s.credit ∧
    (s.putMembers v).taken = s.taken ∧ (s.putMembers v).fetchLeft = s.fetchLeft ∧ (s.putMembers v).rotLast = s.rotLast ∧
    (s.putMembers v).rotFirst = s.rotFirst ∧ (s.putMembers v).hazStall = s.hazStall ∧ (s.putMembers v).span = s.span ∧
    (s.putMembers v).spanOut = s.spanOut ∧ (s.putMembers v).spanIn = s.spanIn ∧ (s.putMembers v).resOut = s.resOut ∧
    (s.putMembers v).jobs = s.jobs ∧ (s.putMembers v).finishing = s.finishing ∧ (s.putMembers v).greads = s.greads ∧
    (s.putMembers v).spanNum = s.spanNum ∧ (s.putMembers v).spanArr = s.spanArr ∧ (s.putMembers v).dups = s.dups ∧
    (s.putMembers v).dupGen = s.dupGen ∧ (s.putMembers v).rlogPos = s.rlogPos ∧ (s.putMembers v).peerVia = s.peerVia ∧
    (s.putMembers v).groups = s.groups ∧ (s.putMembers v).peerBound = s.peerBound ∧
    (s.putMembers v).returned = s.returned ∧ (s.putMembers v).lostRanges = s.lostRanges ∧
    (s.putMembers v).wmap = s.wmap ∧ (s.putMembers v).wfin = s.wfin ∧ (s.putMembers v).wheld = s.wheld ∧
    (s.putMembers v).preserve = s.preserve ∧ (s.putMembers v).kept = s.kept ∧ (s.putMembers v).metaOpen = s.metaOpen ∧
    (s.putMembers v).portA = s.portA ∧ (s.putMembers v).restartDue = s.restartDue ∧ (s.putMembers v).pings = s.pings ∧
    (s.putMembers v).chain = s.chain ∧ (s.putMembers v).position = s.position ∧ (s.putMembers v).power = s.power ∧
    (s.putMembers v).powerOp = s.powerOp ∧ (s.putMembers v).fsn = s.fsn ∧ (s.putMembers v).ns = s.ns ∧
    (s.putMembers v).volCap = s.volCap ∧ (s.putMembers v).rsv = s.rsv ∧ (s.putMembers v).tokCount = s.tokCount ∧
    (s.putMembers v).fullZones = s.fullZones ∧ (s.putMembers v).fam = s.fam ∧ (s.putMembers v).params = s.params ∧
    (s.putMembers v).alm = s.alm ∧ (s.putMembers v).domeEntry = s.domeEntry ∧ (s.putMembers v).domeWake = s.domeWake ∧
    (s.putMembers v).domeAgreed = s.domeAgreed ∧ (s.putMembers v).readAt = s.readAt ∧
    (s.putMembers v).sensorFail = s.sensorFail ∧ (s.putMembers v).tripCount = s.tripCount ∧
    (s.putMembers v).rise = s.rise ∧ (s.putMembers v).stopped = s.stopped ∧ (s.putMembers v).coolSince = s.coolSince ∧
    (s.putMembers v).events = s.events ∧ (s.putMembers v).dies = s.dies ∧ (s.putMembers v).chans = s.chans ∧
    (s.putMembers v).accs = s.accs ∧ (s.putMembers v).ldpc = s.ldpc ∧ (s.putMembers v).nand = s.nand ∧
    (s.putMembers v).blkErased = s.blkErased ∧ (s.putMembers v).vault = s.vault ∧
    (s.putMembers v).sessions = s.sessions ∧ (s.putMembers v).trngRestarts = s.trngRestarts ∧
    (s.putMembers v).drbgLeft = s.drbgLeft ∧ (s.putMembers v).imageId = s.imageId ∧
    (s.putMembers v).verFuses = s.verFuses ∧ (s.putMembers v).nsInfo = s.nsInfo ∧ (s.putMembers v).care = s.care ∧
    (s.putMembers v).history = s.history ∧ (s.putMembers v).fw = s.fw ∧ (s.putMembers v).trust = s.trust ∧
    (s.putMembers v).fdp = s.fdp ∧ (s.putMembers v).lostGen = s.lostGen ∧ (s.putMembers v).lostAgain = s.lostAgain ∧
    (s.putMembers v).accum = s.accum ∧ (s.putMembers v).boundSent = s.boundSent ∧
    (s.putMembers v).zoneUsed = s.zoneUsed ∧ (s.putMembers v).clean = s.clean :=
  ⟨rfl, rfl, rfl, rfl, rfl, rfl, rfl, rfl, rfl, rfl, rfl, rfl, rfl, rfl, rfl, rfl, rfl, rfl, rfl, rfl, rfl, rfl, rfl,
  rfl, rfl, rfl, rfl, rfl, rfl, rfl, rfl, rfl, rfl, rfl, rfl, rfl, rfl, rfl, rfl, rfl, rfl, rfl, rfl, rfl, rfl, rfl,
  rfl, rfl, rfl, rfl, rfl, rfl, rfl, rfl, rfl, rfl, rfl, rfl, rfl, rfl, rfl, rfl, rfl, rfl, rfl, rfl, rfl, rfl, rfl,
  rfl, rfl, rfl, rfl, rfl, rfl, rfl, rfl, rfl, rfl, rfl, rfl, rfl, rfl, rfl, rfl, rfl, rfl, rfl, rfl, rfl, rfl, rfl,
  rfl, rfl, rfl, rfl, rfl, rfl, rfl, rfl, rfl, rfl, rfl, rfl, rfl, rfl, rfl, rfl, rfl, rfl, rfl, rfl, rfl, rfl, rfl,
  rfl, rfl, rfl, rfl, rfl, rfl, rfl, rfl, rfl⟩

@[simp] theorem State.putMembers_members (s : State) (v : FMap (Option Member)) : (s.putMembers v).members = v := rfl

@[simp] theorem State.putPeerVia_frame (s : State) (v : FMap Nat) :
    (s.putPeerVia v).pending = s.pending ∧ (s.putPeerVia v).free = s.free ∧ (s.putPeerVia v).out = s.out ∧
    (s.putPeerVia v).boot = s.boot ∧ (s.putPeerVia v).tick = s.tick ∧ (s.putPeerVia v).win = s.win ∧
    (s.putPeerVia v).gap = s.gap ∧ (s.putPeerVia v).regs = s.regs ∧ (s.putPeerVia v).regPend = s.regPend ∧
    (s.putPeerVia v).cores = s.cores ∧ (s.putPeerVia v).cluster = s.cluster ∧ (s.putPeerVia v).tun = s.tun ∧
    (s.putPeerVia v).tunBufs = s.tunBufs ∧ (s.putPeerVia v).tunMin = s.tunMin ∧
    (s.putPeerVia v).tunMinPend = s.tunMinPend ∧ (s.putPeerVia v).sramErr = s.sramErr ∧
    (s.putPeerVia v).heldBack = s.heldBack ∧ (s.putPeerVia v).rtHit = s.rtHit ∧ (s.putPeerVia v).rtClock = s.rtClock ∧
    (s.putPeerVia v).rtUntracked = s.rtUntracked ∧ (s.putPeerVia v).dram = s.dram ∧ (s.putPeerVia v).dr = s.dr ∧
    (s.putPeerVia v).poison = s.poison ∧ (s.putPeerVia v).ingot = s.ingot ∧ (s.putPeerVia v).nor = s.nor ∧
    (s.putPeerVia v).norUnk = s.norUnk ∧ (s.putPeerVia v).pat = s.pat ∧ (s.putPeerVia v).tdly = s.tdly ∧
    (s.putPeerVia v).scrub = s.scrub ∧ (s.putPeerVia v).fbuf = s.fbuf ∧ (s.putPeerVia v).rings = s.rings ∧
    (s.putPeerVia v).haz = s.haz ∧ (s.putPeerVia v).marks = s.marks ∧ (s.putPeerVia v).wsnFloor = s.wsnFloor ∧
    (s.putPeerVia v).health = s.health ∧ (s.putPeerVia v).qPend = s.qPend ∧ (s.putPeerVia v).reqs = s.reqs ∧
    (s.putPeerVia v).aborts = s.aborts ∧ (s.putPeerVia v).gateShut = s.gateShut ∧ (s.putPeerVia v).sqs = s.sqs ∧
    (s.putPeerVia v).cqs = s.cqs ∧ (s.putPeerVia v).cmds = s.cmds ∧ (s.putPeerVia v).resets = s.resets ∧
    (s.putPeerVia v).ctrls = s.ctrls ∧ (s.putPeerVia v).arbs = s.arbs ∧ (s.putPeerVia v).credit = s.credit ∧
    (s.putPeerVia v).taken = s.taken ∧ (s.putPeerVia v).fetchLeft = s.fetchLeft ∧ (s.putPeerVia v).rotLast = s.rotLast ∧
    (s.putPeerVia v).rotFirst = s.rotFirst ∧ (s.putPeerVia v).hazStall = s.hazStall ∧ (s.putPeerVia v).span = s.span ∧
    (s.putPeerVia v).spanOut = s.spanOut ∧ (s.putPeerVia v).spanIn = s.spanIn ∧ (s.putPeerVia v).resOut = s.resOut ∧
    (s.putPeerVia v).jobs = s.jobs ∧ (s.putPeerVia v).finishing = s.finishing ∧ (s.putPeerVia v).greads = s.greads ∧
    (s.putPeerVia v).spanNum = s.spanNum ∧ (s.putPeerVia v).spanArr = s.spanArr ∧ (s.putPeerVia v).dups = s.dups ∧
    (s.putPeerVia v).dupGen = s.dupGen ∧ (s.putPeerVia v).rlogPos = s.rlogPos ∧ (s.putPeerVia v).members = s.members ∧
    (s.putPeerVia v).groups = s.groups ∧ (s.putPeerVia v).peerBound = s.peerBound ∧
    (s.putPeerVia v).returned = s.returned ∧ (s.putPeerVia v).lostRanges = s.lostRanges ∧
    (s.putPeerVia v).wmap = s.wmap ∧ (s.putPeerVia v).wfin = s.wfin ∧ (s.putPeerVia v).wheld = s.wheld ∧
    (s.putPeerVia v).preserve = s.preserve ∧ (s.putPeerVia v).kept = s.kept ∧ (s.putPeerVia v).metaOpen = s.metaOpen ∧
    (s.putPeerVia v).portA = s.portA ∧ (s.putPeerVia v).restartDue = s.restartDue ∧ (s.putPeerVia v).pings = s.pings ∧
    (s.putPeerVia v).chain = s.chain ∧ (s.putPeerVia v).position = s.position ∧ (s.putPeerVia v).power = s.power ∧
    (s.putPeerVia v).powerOp = s.powerOp ∧ (s.putPeerVia v).fsn = s.fsn ∧ (s.putPeerVia v).ns = s.ns ∧
    (s.putPeerVia v).volCap = s.volCap ∧ (s.putPeerVia v).rsv = s.rsv ∧ (s.putPeerVia v).tokCount = s.tokCount ∧
    (s.putPeerVia v).fullZones = s.fullZones ∧ (s.putPeerVia v).fam = s.fam ∧ (s.putPeerVia v).params = s.params ∧
    (s.putPeerVia v).alm = s.alm ∧ (s.putPeerVia v).domeEntry = s.domeEntry ∧ (s.putPeerVia v).domeWake = s.domeWake ∧
    (s.putPeerVia v).domeAgreed = s.domeAgreed ∧ (s.putPeerVia v).readAt = s.readAt ∧
    (s.putPeerVia v).sensorFail = s.sensorFail ∧ (s.putPeerVia v).tripCount = s.tripCount ∧
    (s.putPeerVia v).rise = s.rise ∧ (s.putPeerVia v).stopped = s.stopped ∧ (s.putPeerVia v).coolSince = s.coolSince ∧
    (s.putPeerVia v).events = s.events ∧ (s.putPeerVia v).dies = s.dies ∧ (s.putPeerVia v).chans = s.chans ∧
    (s.putPeerVia v).accs = s.accs ∧ (s.putPeerVia v).ldpc = s.ldpc ∧ (s.putPeerVia v).nand = s.nand ∧
    (s.putPeerVia v).blkErased = s.blkErased ∧ (s.putPeerVia v).vault = s.vault ∧
    (s.putPeerVia v).sessions = s.sessions ∧ (s.putPeerVia v).trngRestarts = s.trngRestarts ∧
    (s.putPeerVia v).drbgLeft = s.drbgLeft ∧ (s.putPeerVia v).imageId = s.imageId ∧
    (s.putPeerVia v).verFuses = s.verFuses ∧ (s.putPeerVia v).nsInfo = s.nsInfo ∧ (s.putPeerVia v).care = s.care ∧
    (s.putPeerVia v).history = s.history ∧ (s.putPeerVia v).fw = s.fw ∧ (s.putPeerVia v).trust = s.trust ∧
    (s.putPeerVia v).fdp = s.fdp ∧ (s.putPeerVia v).lostGen = s.lostGen ∧ (s.putPeerVia v).lostAgain = s.lostAgain ∧
    (s.putPeerVia v).accum = s.accum ∧ (s.putPeerVia v).boundSent = s.boundSent ∧
    (s.putPeerVia v).zoneUsed = s.zoneUsed ∧ (s.putPeerVia v).clean = s.clean :=
  ⟨rfl, rfl, rfl, rfl, rfl, rfl, rfl, rfl, rfl, rfl, rfl, rfl, rfl, rfl, rfl, rfl, rfl, rfl, rfl, rfl, rfl, rfl, rfl,
  rfl, rfl, rfl, rfl, rfl, rfl, rfl, rfl, rfl, rfl, rfl, rfl, rfl, rfl, rfl, rfl, rfl, rfl, rfl, rfl, rfl, rfl, rfl,
  rfl, rfl, rfl, rfl, rfl, rfl, rfl, rfl, rfl, rfl, rfl, rfl, rfl, rfl, rfl, rfl, rfl, rfl, rfl, rfl, rfl, rfl, rfl,
  rfl, rfl, rfl, rfl, rfl, rfl, rfl, rfl, rfl, rfl, rfl, rfl, rfl, rfl, rfl, rfl, rfl, rfl, rfl, rfl, rfl, rfl, rfl,
  rfl, rfl, rfl, rfl, rfl, rfl, rfl, rfl, rfl, rfl, rfl, rfl, rfl, rfl, rfl, rfl, rfl, rfl, rfl, rfl, rfl, rfl, rfl,
  rfl, rfl, rfl, rfl, rfl, rfl, rfl, rfl, rfl⟩

@[simp] theorem State.putPeerVia_peerVia (s : State) (v : FMap Nat) : (s.putPeerVia v).peerVia = v := rfl

@[simp] theorem State.putGroups_frame (s : State) (v : FMap AnaGroup) :
    (s.putGroups v).pending = s.pending ∧ (s.putGroups v).free = s.free ∧ (s.putGroups v).out = s.out ∧
    (s.putGroups v).boot = s.boot ∧ (s.putGroups v).tick = s.tick ∧ (s.putGroups v).win = s.win ∧
    (s.putGroups v).gap = s.gap ∧ (s.putGroups v).regs = s.regs ∧ (s.putGroups v).regPend = s.regPend ∧
    (s.putGroups v).cores = s.cores ∧ (s.putGroups v).cluster = s.cluster ∧ (s.putGroups v).tun = s.tun ∧
    (s.putGroups v).tunBufs = s.tunBufs ∧ (s.putGroups v).tunMin = s.tunMin ∧ (s.putGroups v).tunMinPend = s.tunMinPend ∧
    (s.putGroups v).sramErr = s.sramErr ∧ (s.putGroups v).heldBack = s.heldBack ∧ (s.putGroups v).rtHit = s.rtHit ∧
    (s.putGroups v).rtClock = s.rtClock ∧ (s.putGroups v).rtUntracked = s.rtUntracked ∧ (s.putGroups v).dram = s.dram ∧
    (s.putGroups v).dr = s.dr ∧ (s.putGroups v).poison = s.poison ∧ (s.putGroups v).ingot = s.ingot ∧
    (s.putGroups v).nor = s.nor ∧ (s.putGroups v).norUnk = s.norUnk ∧ (s.putGroups v).pat = s.pat ∧
    (s.putGroups v).tdly = s.tdly ∧ (s.putGroups v).scrub = s.scrub ∧ (s.putGroups v).fbuf = s.fbuf ∧
    (s.putGroups v).rings = s.rings ∧ (s.putGroups v).haz = s.haz ∧ (s.putGroups v).marks = s.marks ∧
    (s.putGroups v).wsnFloor = s.wsnFloor ∧ (s.putGroups v).health = s.health ∧ (s.putGroups v).qPend = s.qPend ∧
    (s.putGroups v).reqs = s.reqs ∧ (s.putGroups v).aborts = s.aborts ∧ (s.putGroups v).gateShut = s.gateShut ∧
    (s.putGroups v).sqs = s.sqs ∧ (s.putGroups v).cqs = s.cqs ∧ (s.putGroups v).cmds = s.cmds ∧
    (s.putGroups v).resets = s.resets ∧ (s.putGroups v).ctrls = s.ctrls ∧ (s.putGroups v).arbs = s.arbs ∧
    (s.putGroups v).credit = s.credit ∧ (s.putGroups v).taken = s.taken ∧ (s.putGroups v).fetchLeft = s.fetchLeft ∧
    (s.putGroups v).rotLast = s.rotLast ∧ (s.putGroups v).rotFirst = s.rotFirst ∧ (s.putGroups v).hazStall = s.hazStall ∧
    (s.putGroups v).span = s.span ∧ (s.putGroups v).spanOut = s.spanOut ∧ (s.putGroups v).spanIn = s.spanIn ∧
    (s.putGroups v).resOut = s.resOut ∧ (s.putGroups v).jobs = s.jobs ∧ (s.putGroups v).finishing = s.finishing ∧
    (s.putGroups v).greads = s.greads ∧ (s.putGroups v).spanNum = s.spanNum ∧ (s.putGroups v).spanArr = s.spanArr ∧
    (s.putGroups v).dups = s.dups ∧ (s.putGroups v).dupGen = s.dupGen ∧ (s.putGroups v).rlogPos = s.rlogPos ∧
    (s.putGroups v).members = s.members ∧ (s.putGroups v).peerVia = s.peerVia ∧ (s.putGroups v).peerBound = s.peerBound ∧
    (s.putGroups v).returned = s.returned ∧ (s.putGroups v).lostRanges = s.lostRanges ∧ (s.putGroups v).wmap = s.wmap ∧
    (s.putGroups v).wfin = s.wfin ∧ (s.putGroups v).wheld = s.wheld ∧ (s.putGroups v).preserve = s.preserve ∧
    (s.putGroups v).kept = s.kept ∧ (s.putGroups v).metaOpen = s.metaOpen ∧ (s.putGroups v).portA = s.portA ∧
    (s.putGroups v).restartDue = s.restartDue ∧ (s.putGroups v).pings = s.pings ∧ (s.putGroups v).chain = s.chain ∧
    (s.putGroups v).position = s.position ∧ (s.putGroups v).power = s.power ∧ (s.putGroups v).powerOp = s.powerOp ∧
    (s.putGroups v).fsn = s.fsn ∧ (s.putGroups v).ns = s.ns ∧ (s.putGroups v).volCap = s.volCap ∧
    (s.putGroups v).rsv = s.rsv ∧ (s.putGroups v).tokCount = s.tokCount ∧ (s.putGroups v).fullZones = s.fullZones ∧
    (s.putGroups v).fam = s.fam ∧ (s.putGroups v).params = s.params ∧ (s.putGroups v).alm = s.alm ∧
    (s.putGroups v).domeEntry = s.domeEntry ∧ (s.putGroups v).domeWake = s.domeWake ∧
    (s.putGroups v).domeAgreed = s.domeAgreed ∧ (s.putGroups v).readAt = s.readAt ∧
    (s.putGroups v).sensorFail = s.sensorFail ∧ (s.putGroups v).tripCount = s.tripCount ∧ (s.putGroups v).rise = s.rise ∧
    (s.putGroups v).stopped = s.stopped ∧ (s.putGroups v).coolSince = s.coolSince ∧ (s.putGroups v).events = s.events ∧
    (s.putGroups v).dies = s.dies ∧ (s.putGroups v).chans = s.chans ∧ (s.putGroups v).accs = s.accs ∧
    (s.putGroups v).ldpc = s.ldpc ∧ (s.putGroups v).nand = s.nand ∧ (s.putGroups v).blkErased = s.blkErased ∧
    (s.putGroups v).vault = s.vault ∧ (s.putGroups v).sessions = s.sessions ∧
    (s.putGroups v).trngRestarts = s.trngRestarts ∧ (s.putGroups v).drbgLeft = s.drbgLeft ∧
    (s.putGroups v).imageId = s.imageId ∧ (s.putGroups v).verFuses = s.verFuses ∧ (s.putGroups v).nsInfo = s.nsInfo ∧
    (s.putGroups v).care = s.care ∧ (s.putGroups v).history = s.history ∧ (s.putGroups v).fw = s.fw ∧
    (s.putGroups v).trust = s.trust ∧ (s.putGroups v).fdp = s.fdp ∧ (s.putGroups v).lostGen = s.lostGen ∧
    (s.putGroups v).lostAgain = s.lostAgain ∧ (s.putGroups v).accum = s.accum ∧ (s.putGroups v).boundSent = s.boundSent ∧
    (s.putGroups v).zoneUsed = s.zoneUsed ∧ (s.putGroups v).clean = s.clean :=
  ⟨rfl, rfl, rfl, rfl, rfl, rfl, rfl, rfl, rfl, rfl, rfl, rfl, rfl, rfl, rfl, rfl, rfl, rfl, rfl, rfl, rfl, rfl, rfl,
  rfl, rfl, rfl, rfl, rfl, rfl, rfl, rfl, rfl, rfl, rfl, rfl, rfl, rfl, rfl, rfl, rfl, rfl, rfl, rfl, rfl, rfl, rfl,
  rfl, rfl, rfl, rfl, rfl, rfl, rfl, rfl, rfl, rfl, rfl, rfl, rfl, rfl, rfl, rfl, rfl, rfl, rfl, rfl, rfl, rfl, rfl,
  rfl, rfl, rfl, rfl, rfl, rfl, rfl, rfl, rfl, rfl, rfl, rfl, rfl, rfl, rfl, rfl, rfl, rfl, rfl, rfl, rfl, rfl, rfl,
  rfl, rfl, rfl, rfl, rfl, rfl, rfl, rfl, rfl, rfl, rfl, rfl, rfl, rfl, rfl, rfl, rfl, rfl, rfl, rfl, rfl, rfl, rfl,
  rfl, rfl, rfl, rfl, rfl, rfl, rfl, rfl, rfl⟩

@[simp] theorem State.putGroups_groups (s : State) (v : FMap AnaGroup) : (s.putGroups v).groups = v := rfl

@[simp] theorem State.putPeerBound_frame (s : State) (v : Nat) :
    (s.putPeerBound v).pending = s.pending ∧ (s.putPeerBound v).free = s.free ∧ (s.putPeerBound v).out = s.out ∧
    (s.putPeerBound v).boot = s.boot ∧ (s.putPeerBound v).tick = s.tick ∧ (s.putPeerBound v).win = s.win ∧
    (s.putPeerBound v).gap = s.gap ∧ (s.putPeerBound v).regs = s.regs ∧ (s.putPeerBound v).regPend = s.regPend ∧
    (s.putPeerBound v).cores = s.cores ∧ (s.putPeerBound v).cluster = s.cluster ∧ (s.putPeerBound v).tun = s.tun ∧
    (s.putPeerBound v).tunBufs = s.tunBufs ∧ (s.putPeerBound v).tunMin = s.tunMin ∧
    (s.putPeerBound v).tunMinPend = s.tunMinPend ∧ (s.putPeerBound v).sramErr = s.sramErr ∧
    (s.putPeerBound v).heldBack = s.heldBack ∧ (s.putPeerBound v).rtHit = s.rtHit ∧
    (s.putPeerBound v).rtClock = s.rtClock ∧ (s.putPeerBound v).rtUntracked = s.rtUntracked ∧
    (s.putPeerBound v).dram = s.dram ∧ (s.putPeerBound v).dr = s.dr ∧ (s.putPeerBound v).poison = s.poison ∧
    (s.putPeerBound v).ingot = s.ingot ∧ (s.putPeerBound v).nor = s.nor ∧ (s.putPeerBound v).norUnk = s.norUnk ∧
    (s.putPeerBound v).pat = s.pat ∧ (s.putPeerBound v).tdly = s.tdly ∧ (s.putPeerBound v).scrub = s.scrub ∧
    (s.putPeerBound v).fbuf = s.fbuf ∧ (s.putPeerBound v).rings = s.rings ∧ (s.putPeerBound v).haz = s.haz ∧
    (s.putPeerBound v).marks = s.marks ∧ (s.putPeerBound v).wsnFloor = s.wsnFloor ∧
    (s.putPeerBound v).health = s.health ∧ (s.putPeerBound v).qPend = s.qPend ∧ (s.putPeerBound v).reqs = s.reqs ∧
    (s.putPeerBound v).aborts = s.aborts ∧ (s.putPeerBound v).gateShut = s.gateShut ∧ (s.putPeerBound v).sqs = s.sqs ∧
    (s.putPeerBound v).cqs = s.cqs ∧ (s.putPeerBound v).cmds = s.cmds ∧ (s.putPeerBound v).resets = s.resets ∧
    (s.putPeerBound v).ctrls = s.ctrls ∧ (s.putPeerBound v).arbs = s.arbs ∧ (s.putPeerBound v).credit = s.credit ∧
    (s.putPeerBound v).taken = s.taken ∧ (s.putPeerBound v).fetchLeft = s.fetchLeft ∧
    (s.putPeerBound v).rotLast = s.rotLast ∧ (s.putPeerBound v).rotFirst = s.rotFirst ∧
    (s.putPeerBound v).hazStall = s.hazStall ∧ (s.putPeerBound v).span = s.span ∧
    (s.putPeerBound v).spanOut = s.spanOut ∧ (s.putPeerBound v).spanIn = s.spanIn ∧
    (s.putPeerBound v).resOut = s.resOut ∧ (s.putPeerBound v).jobs = s.jobs ∧
    (s.putPeerBound v).finishing = s.finishing ∧ (s.putPeerBound v).greads = s.greads ∧
    (s.putPeerBound v).spanNum = s.spanNum ∧ (s.putPeerBound v).spanArr = s.spanArr ∧ (s.putPeerBound v).dups = s.dups ∧
    (s.putPeerBound v).dupGen = s.dupGen ∧ (s.putPeerBound v).rlogPos = s.rlogPos ∧
    (s.putPeerBound v).members = s.members ∧ (s.putPeerBound v).peerVia = s.peerVia ∧
    (s.putPeerBound v).groups = s.groups ∧ (s.putPeerBound v).returned = s.returned ∧
    (s.putPeerBound v).lostRanges = s.lostRanges ∧ (s.putPeerBound v).wmap = s.wmap ∧ (s.putPeerBound v).wfin = s.wfin ∧
    (s.putPeerBound v).wheld = s.wheld ∧ (s.putPeerBound v).preserve = s.preserve ∧ (s.putPeerBound v).kept = s.kept ∧
    (s.putPeerBound v).metaOpen = s.metaOpen ∧ (s.putPeerBound v).portA = s.portA ∧
    (s.putPeerBound v).restartDue = s.restartDue ∧ (s.putPeerBound v).pings = s.pings ∧
    (s.putPeerBound v).chain = s.chain ∧ (s.putPeerBound v).position = s.position ∧ (s.putPeerBound v).power = s.power ∧
    (s.putPeerBound v).powerOp = s.powerOp ∧ (s.putPeerBound v).fsn = s.fsn ∧ (s.putPeerBound v).ns = s.ns ∧
    (s.putPeerBound v).volCap = s.volCap ∧ (s.putPeerBound v).rsv = s.rsv ∧ (s.putPeerBound v).tokCount = s.tokCount ∧
    (s.putPeerBound v).fullZones = s.fullZones ∧ (s.putPeerBound v).fam = s.fam ∧ (s.putPeerBound v).params = s.params ∧
    (s.putPeerBound v).alm = s.alm ∧ (s.putPeerBound v).domeEntry = s.domeEntry ∧
    (s.putPeerBound v).domeWake = s.domeWake ∧ (s.putPeerBound v).domeAgreed = s.domeAgreed ∧
    (s.putPeerBound v).readAt = s.readAt ∧ (s.putPeerBound v).sensorFail = s.sensorFail ∧
    (s.putPeerBound v).tripCount = s.tripCount ∧ (s.putPeerBound v).rise = s.rise ∧
    (s.putPeerBound v).stopped = s.stopped ∧ (s.putPeerBound v).coolSince = s.coolSince ∧
    (s.putPeerBound v).events = s.events ∧ (s.putPeerBound v).dies = s.dies ∧ (s.putPeerBound v).chans = s.chans ∧
    (s.putPeerBound v).accs = s.accs ∧ (s.putPeerBound v).ldpc = s.ldpc ∧ (s.putPeerBound v).nand = s.nand ∧
    (s.putPeerBound v).blkErased = s.blkErased ∧ (s.putPeerBound v).vault = s.vault ∧
    (s.putPeerBound v).sessions = s.sessions ∧ (s.putPeerBound v).trngRestarts = s.trngRestarts ∧
    (s.putPeerBound v).drbgLeft = s.drbgLeft ∧ (s.putPeerBound v).imageId = s.imageId ∧
    (s.putPeerBound v).verFuses = s.verFuses ∧ (s.putPeerBound v).nsInfo = s.nsInfo ∧ (s.putPeerBound v).care = s.care ∧
    (s.putPeerBound v).history = s.history ∧ (s.putPeerBound v).fw = s.fw ∧ (s.putPeerBound v).trust = s.trust ∧
    (s.putPeerBound v).fdp = s.fdp ∧ (s.putPeerBound v).lostGen = s.lostGen ∧
    (s.putPeerBound v).lostAgain = s.lostAgain ∧ (s.putPeerBound v).accum = s.accum ∧
    (s.putPeerBound v).boundSent = s.boundSent ∧ (s.putPeerBound v).zoneUsed = s.zoneUsed ∧
    (s.putPeerBound v).clean = s.clean :=
  ⟨rfl, rfl, rfl, rfl, rfl, rfl, rfl, rfl, rfl, rfl, rfl, rfl, rfl, rfl, rfl, rfl, rfl, rfl, rfl, rfl, rfl, rfl, rfl,
  rfl, rfl, rfl, rfl, rfl, rfl, rfl, rfl, rfl, rfl, rfl, rfl, rfl, rfl, rfl, rfl, rfl, rfl, rfl, rfl, rfl, rfl, rfl,
  rfl, rfl, rfl, rfl, rfl, rfl, rfl, rfl, rfl, rfl, rfl, rfl, rfl, rfl, rfl, rfl, rfl, rfl, rfl, rfl, rfl, rfl, rfl,
  rfl, rfl, rfl, rfl, rfl, rfl, rfl, rfl, rfl, rfl, rfl, rfl, rfl, rfl, rfl, rfl, rfl, rfl, rfl, rfl, rfl, rfl, rfl,
  rfl, rfl, rfl, rfl, rfl, rfl, rfl, rfl, rfl, rfl, rfl, rfl, rfl, rfl, rfl, rfl, rfl, rfl, rfl, rfl, rfl, rfl, rfl,
  rfl, rfl, rfl, rfl, rfl, rfl, rfl, rfl, rfl⟩

@[simp] theorem State.putPeerBound_peerBound (s : State) (v : Nat) : (s.putPeerBound v).peerBound = v := rfl

@[simp] theorem State.putReturned_frame (s : State) (v : Bool) :
    (s.putReturned v).pending = s.pending ∧ (s.putReturned v).free = s.free ∧ (s.putReturned v).out = s.out ∧
    (s.putReturned v).boot = s.boot ∧ (s.putReturned v).tick = s.tick ∧ (s.putReturned v).win = s.win ∧
    (s.putReturned v).gap = s.gap ∧ (s.putReturned v).regs = s.regs ∧ (s.putReturned v).regPend = s.regPend ∧
    (s.putReturned v).cores = s.cores ∧ (s.putReturned v).cluster = s.cluster ∧ (s.putReturned v).tun = s.tun ∧
    (s.putReturned v).tunBufs = s.tunBufs ∧ (s.putReturned v).tunMin = s.tunMin ∧
    (s.putReturned v).tunMinPend = s.tunMinPend ∧ (s.putReturned v).sramErr = s.sramErr ∧
    (s.putReturned v).heldBack = s.heldBack ∧ (s.putReturned v).rtHit = s.rtHit ∧ (s.putReturned v).rtClock = s.rtClock ∧
    (s.putReturned v).rtUntracked = s.rtUntracked ∧ (s.putReturned v).dram = s.dram ∧ (s.putReturned v).dr = s.dr ∧
    (s.putReturned v).poison = s.poison ∧ (s.putReturned v).ingot = s.ingot ∧ (s.putReturned v).nor = s.nor ∧
    (s.putReturned v).norUnk = s.norUnk ∧ (s.putReturned v).pat = s.pat ∧ (s.putReturned v).tdly = s.tdly ∧
    (s.putReturned v).scrub = s.scrub ∧ (s.putReturned v).fbuf = s.fbuf ∧ (s.putReturned v).rings = s.rings ∧
    (s.putReturned v).haz = s.haz ∧ (s.putReturned v).marks = s.marks ∧ (s.putReturned v).wsnFloor = s.wsnFloor ∧
    (s.putReturned v).health = s.health ∧ (s.putReturned v).qPend = s.qPend ∧ (s.putReturned v).reqs = s.reqs ∧
    (s.putReturned v).aborts = s.aborts ∧ (s.putReturned v).gateShut = s.gateShut ∧ (s.putReturned v).sqs = s.sqs ∧
    (s.putReturned v).cqs = s.cqs ∧ (s.putReturned v).cmds = s.cmds ∧ (s.putReturned v).resets = s.resets ∧
    (s.putReturned v).ctrls = s.ctrls ∧ (s.putReturned v).arbs = s.arbs ∧ (s.putReturned v).credit = s.credit ∧
    (s.putReturned v).taken = s.taken ∧ (s.putReturned v).fetchLeft = s.fetchLeft ∧
    (s.putReturned v).rotLast = s.rotLast ∧ (s.putReturned v).rotFirst = s.rotFirst ∧
    (s.putReturned v).hazStall = s.hazStall ∧ (s.putReturned v).span = s.span ∧ (s.putReturned v).spanOut = s.spanOut ∧
    (s.putReturned v).spanIn = s.spanIn ∧ (s.putReturned v).resOut = s.resOut ∧ (s.putReturned v).jobs = s.jobs ∧
    (s.putReturned v).finishing = s.finishing ∧ (s.putReturned v).greads = s.greads ∧
    (s.putReturned v).spanNum = s.spanNum ∧ (s.putReturned v).spanArr = s.spanArr ∧ (s.putReturned v).dups = s.dups ∧
    (s.putReturned v).dupGen = s.dupGen ∧ (s.putReturned v).rlogPos = s.rlogPos ∧ (s.putReturned v).members = s.members ∧
    (s.putReturned v).peerVia = s.peerVia ∧ (s.putReturned v).groups = s.groups ∧
    (s.putReturned v).peerBound = s.peerBound ∧ (s.putReturned v).lostRanges = s.lostRanges ∧
    (s.putReturned v).wmap = s.wmap ∧ (s.putReturned v).wfin = s.wfin ∧ (s.putReturned v).wheld = s.wheld ∧
    (s.putReturned v).preserve = s.preserve ∧ (s.putReturned v).kept = s.kept ∧ (s.putReturned v).metaOpen = s.metaOpen ∧
    (s.putReturned v).portA = s.portA ∧ (s.putReturned v).restartDue = s.restartDue ∧ (s.putReturned v).pings = s.pings ∧
    (s.putReturned v).chain = s.chain ∧ (s.putReturned v).position = s.position ∧ (s.putReturned v).power = s.power ∧
    (s.putReturned v).powerOp = s.powerOp ∧ (s.putReturned v).fsn = s.fsn ∧ (s.putReturned v).ns = s.ns ∧
    (s.putReturned v).volCap = s.volCap ∧ (s.putReturned v).rsv = s.rsv ∧ (s.putReturned v).tokCount = s.tokCount ∧
    (s.putReturned v).fullZones = s.fullZones ∧ (s.putReturned v).fam = s.fam ∧ (s.putReturned v).params = s.params ∧
    (s.putReturned v).alm = s.alm ∧ (s.putReturned v).domeEntry = s.domeEntry ∧ (s.putReturned v).domeWake = s.domeWake ∧
    (s.putReturned v).domeAgreed = s.domeAgreed ∧ (s.putReturned v).readAt = s.readAt ∧
    (s.putReturned v).sensorFail = s.sensorFail ∧ (s.putReturned v).tripCount = s.tripCount ∧
    (s.putReturned v).rise = s.rise ∧ (s.putReturned v).stopped = s.stopped ∧ (s.putReturned v).coolSince = s.coolSince ∧
    (s.putReturned v).events = s.events ∧ (s.putReturned v).dies = s.dies ∧ (s.putReturned v).chans = s.chans ∧
    (s.putReturned v).accs = s.accs ∧ (s.putReturned v).ldpc = s.ldpc ∧ (s.putReturned v).nand = s.nand ∧
    (s.putReturned v).blkErased = s.blkErased ∧ (s.putReturned v).vault = s.vault ∧
    (s.putReturned v).sessions = s.sessions ∧ (s.putReturned v).trngRestarts = s.trngRestarts ∧
    (s.putReturned v).drbgLeft = s.drbgLeft ∧ (s.putReturned v).imageId = s.imageId ∧
    (s.putReturned v).verFuses = s.verFuses ∧ (s.putReturned v).nsInfo = s.nsInfo ∧ (s.putReturned v).care = s.care ∧
    (s.putReturned v).history = s.history ∧ (s.putReturned v).fw = s.fw ∧ (s.putReturned v).trust = s.trust ∧
    (s.putReturned v).fdp = s.fdp ∧ (s.putReturned v).lostGen = s.lostGen ∧ (s.putReturned v).lostAgain = s.lostAgain ∧
    (s.putReturned v).accum = s.accum ∧ (s.putReturned v).boundSent = s.boundSent ∧
    (s.putReturned v).zoneUsed = s.zoneUsed ∧ (s.putReturned v).clean = s.clean :=
  ⟨rfl, rfl, rfl, rfl, rfl, rfl, rfl, rfl, rfl, rfl, rfl, rfl, rfl, rfl, rfl, rfl, rfl, rfl, rfl, rfl, rfl, rfl, rfl,
  rfl, rfl, rfl, rfl, rfl, rfl, rfl, rfl, rfl, rfl, rfl, rfl, rfl, rfl, rfl, rfl, rfl, rfl, rfl, rfl, rfl, rfl, rfl,
  rfl, rfl, rfl, rfl, rfl, rfl, rfl, rfl, rfl, rfl, rfl, rfl, rfl, rfl, rfl, rfl, rfl, rfl, rfl, rfl, rfl, rfl, rfl,
  rfl, rfl, rfl, rfl, rfl, rfl, rfl, rfl, rfl, rfl, rfl, rfl, rfl, rfl, rfl, rfl, rfl, rfl, rfl, rfl, rfl, rfl, rfl,
  rfl, rfl, rfl, rfl, rfl, rfl, rfl, rfl, rfl, rfl, rfl, rfl, rfl, rfl, rfl, rfl, rfl, rfl, rfl, rfl, rfl, rfl, rfl,
  rfl, rfl, rfl, rfl, rfl, rfl, rfl, rfl, rfl⟩

@[simp] theorem State.putReturned_returned (s : State) (v : Bool) : (s.putReturned v).returned = v := rfl

@[simp] theorem State.putLostRanges_frame (s : State) (v : List (List Byte)) :
    (s.putLostRanges v).pending = s.pending ∧ (s.putLostRanges v).free = s.free ∧ (s.putLostRanges v).out = s.out ∧
    (s.putLostRanges v).boot = s.boot ∧ (s.putLostRanges v).tick = s.tick ∧ (s.putLostRanges v).win = s.win ∧
    (s.putLostRanges v).gap = s.gap ∧ (s.putLostRanges v).regs = s.regs ∧ (s.putLostRanges v).regPend = s.regPend ∧
    (s.putLostRanges v).cores = s.cores ∧ (s.putLostRanges v).cluster = s.cluster ∧ (s.putLostRanges v).tun = s.tun ∧
    (s.putLostRanges v).tunBufs = s.tunBufs ∧ (s.putLostRanges v).tunMin = s.tunMin ∧
    (s.putLostRanges v).tunMinPend = s.tunMinPend ∧ (s.putLostRanges v).sramErr = s.sramErr ∧
    (s.putLostRanges v).heldBack = s.heldBack ∧ (s.putLostRanges v).rtHit = s.rtHit ∧
    (s.putLostRanges v).rtClock = s.rtClock ∧ (s.putLostRanges v).rtUntracked = s.rtUntracked ∧
    (s.putLostRanges v).dram = s.dram ∧ (s.putLostRanges v).dr = s.dr ∧ (s.putLostRanges v).poison = s.poison ∧
    (s.putLostRanges v).ingot = s.ingot ∧ (s.putLostRanges v).nor = s.nor ∧ (s.putLostRanges v).norUnk = s.norUnk ∧
    (s.putLostRanges v).pat = s.pat ∧ (s.putLostRanges v).tdly = s.tdly ∧ (s.putLostRanges v).scrub = s.scrub ∧
    (s.putLostRanges v).fbuf = s.fbuf ∧ (s.putLostRanges v).rings = s.rings ∧ (s.putLostRanges v).haz = s.haz ∧
    (s.putLostRanges v).marks = s.marks ∧ (s.putLostRanges v).wsnFloor = s.wsnFloor ∧
    (s.putLostRanges v).health = s.health ∧ (s.putLostRanges v).qPend = s.qPend ∧ (s.putLostRanges v).reqs = s.reqs ∧
    (s.putLostRanges v).aborts = s.aborts ∧ (s.putLostRanges v).gateShut = s.gateShut ∧ (s.putLostRanges v).sqs = s.sqs ∧
    (s.putLostRanges v).cqs = s.cqs ∧ (s.putLostRanges v).cmds = s.cmds ∧ (s.putLostRanges v).resets = s.resets ∧
    (s.putLostRanges v).ctrls = s.ctrls ∧ (s.putLostRanges v).arbs = s.arbs ∧ (s.putLostRanges v).credit = s.credit ∧
    (s.putLostRanges v).taken = s.taken ∧ (s.putLostRanges v).fetchLeft = s.fetchLeft ∧
    (s.putLostRanges v).rotLast = s.rotLast ∧ (s.putLostRanges v).rotFirst = s.rotFirst ∧
    (s.putLostRanges v).hazStall = s.hazStall ∧ (s.putLostRanges v).span = s.span ∧
    (s.putLostRanges v).spanOut = s.spanOut ∧ (s.putLostRanges v).spanIn = s.spanIn ∧
    (s.putLostRanges v).resOut = s.resOut ∧ (s.putLostRanges v).jobs = s.jobs ∧
    (s.putLostRanges v).finishing = s.finishing ∧ (s.putLostRanges v).greads = s.greads ∧
    (s.putLostRanges v).spanNum = s.spanNum ∧ (s.putLostRanges v).spanArr = s.spanArr ∧
    (s.putLostRanges v).dups = s.dups ∧ (s.putLostRanges v).dupGen = s.dupGen ∧ (s.putLostRanges v).rlogPos = s.rlogPos ∧
    (s.putLostRanges v).members = s.members ∧ (s.putLostRanges v).peerVia = s.peerVia ∧
    (s.putLostRanges v).groups = s.groups ∧ (s.putLostRanges v).peerBound = s.peerBound ∧
    (s.putLostRanges v).returned = s.returned ∧ (s.putLostRanges v).wmap = s.wmap ∧ (s.putLostRanges v).wfin = s.wfin ∧
    (s.putLostRanges v).wheld = s.wheld ∧ (s.putLostRanges v).preserve = s.preserve ∧ (s.putLostRanges v).kept = s.kept ∧
    (s.putLostRanges v).metaOpen = s.metaOpen ∧ (s.putLostRanges v).portA = s.portA ∧
    (s.putLostRanges v).restartDue = s.restartDue ∧ (s.putLostRanges v).pings = s.pings ∧
    (s.putLostRanges v).chain = s.chain ∧ (s.putLostRanges v).position = s.position ∧
    (s.putLostRanges v).power = s.power ∧ (s.putLostRanges v).powerOp = s.powerOp ∧ (s.putLostRanges v).fsn = s.fsn ∧
    (s.putLostRanges v).ns = s.ns ∧ (s.putLostRanges v).volCap = s.volCap ∧ (s.putLostRanges v).rsv = s.rsv ∧
    (s.putLostRanges v).tokCount = s.tokCount ∧ (s.putLostRanges v).fullZones = s.fullZones ∧
    (s.putLostRanges v).fam = s.fam ∧ (s.putLostRanges v).params = s.params ∧ (s.putLostRanges v).alm = s.alm ∧
    (s.putLostRanges v).domeEntry = s.domeEntry ∧ (s.putLostRanges v).domeWake = s.domeWake ∧
    (s.putLostRanges v).domeAgreed = s.domeAgreed ∧ (s.putLostRanges v).readAt = s.readAt ∧
    (s.putLostRanges v).sensorFail = s.sensorFail ∧ (s.putLostRanges v).tripCount = s.tripCount ∧
    (s.putLostRanges v).rise = s.rise ∧ (s.putLostRanges v).stopped = s.stopped ∧
    (s.putLostRanges v).coolSince = s.coolSince ∧ (s.putLostRanges v).events = s.events ∧
    (s.putLostRanges v).dies = s.dies ∧ (s.putLostRanges v).chans = s.chans ∧ (s.putLostRanges v).accs = s.accs ∧
    (s.putLostRanges v).ldpc = s.ldpc ∧ (s.putLostRanges v).nand = s.nand ∧ (s.putLostRanges v).blkErased = s.blkErased ∧
    (s.putLostRanges v).vault = s.vault ∧ (s.putLostRanges v).sessions = s.sessions ∧
    (s.putLostRanges v).trngRestarts = s.trngRestarts ∧ (s.putLostRanges v).drbgLeft = s.drbgLeft ∧
    (s.putLostRanges v).imageId = s.imageId ∧ (s.putLostRanges v).verFuses = s.verFuses ∧
    (s.putLostRanges v).nsInfo = s.nsInfo ∧ (s.putLostRanges v).care = s.care ∧ (s.putLostRanges v).history = s.history ∧
    (s.putLostRanges v).fw = s.fw ∧ (s.putLostRanges v).trust = s.trust ∧ (s.putLostRanges v).fdp = s.fdp ∧
    (s.putLostRanges v).lostGen = s.lostGen ∧ (s.putLostRanges v).lostAgain = s.lostAgain ∧
    (s.putLostRanges v).accum = s.accum ∧ (s.putLostRanges v).boundSent = s.boundSent ∧
    (s.putLostRanges v).zoneUsed = s.zoneUsed ∧ (s.putLostRanges v).clean = s.clean :=
  ⟨rfl, rfl, rfl, rfl, rfl, rfl, rfl, rfl, rfl, rfl, rfl, rfl, rfl, rfl, rfl, rfl, rfl, rfl, rfl, rfl, rfl, rfl, rfl,
  rfl, rfl, rfl, rfl, rfl, rfl, rfl, rfl, rfl, rfl, rfl, rfl, rfl, rfl, rfl, rfl, rfl, rfl, rfl, rfl, rfl, rfl, rfl,
  rfl, rfl, rfl, rfl, rfl, rfl, rfl, rfl, rfl, rfl, rfl, rfl, rfl, rfl, rfl, rfl, rfl, rfl, rfl, rfl, rfl, rfl, rfl,
  rfl, rfl, rfl, rfl, rfl, rfl, rfl, rfl, rfl, rfl, rfl, rfl, rfl, rfl, rfl, rfl, rfl, rfl, rfl, rfl, rfl, rfl, rfl,
  rfl, rfl, rfl, rfl, rfl, rfl, rfl, rfl, rfl, rfl, rfl, rfl, rfl, rfl, rfl, rfl, rfl, rfl, rfl, rfl, rfl, rfl, rfl,
  rfl, rfl, rfl, rfl, rfl, rfl, rfl, rfl, rfl⟩

@[simp] theorem State.putLostRanges_lostRanges (s : State) (v : List (List Byte)) : (s.putLostRanges v).lostRanges = v := rfl

@[simp] theorem State.putWmap_frame (s : State) (v : FMap W64) :
    (s.putWmap v).pending = s.pending ∧ (s.putWmap v).free = s.free ∧ (s.putWmap v).out = s.out ∧
    (s.putWmap v).boot = s.boot ∧ (s.putWmap v).tick = s.tick ∧ (s.putWmap v).win = s.win ∧ (s.putWmap v).gap = s.gap ∧
    (s.putWmap v).regs = s.regs ∧ (s.putWmap v).regPend = s.regPend ∧ (s.putWmap v).cores = s.cores ∧
    (s.putWmap v).cluster = s.cluster ∧ (s.putWmap v).tun = s.tun ∧ (s.putWmap v).tunBufs = s.tunBufs ∧
    (s.putWmap v).tunMin = s.tunMin ∧ (s.putWmap v).tunMinPend = s.tunMinPend ∧ (s.putWmap v).sramErr = s.sramErr ∧
    (s.putWmap v).heldBack = s.heldBack ∧ (s.putWmap v).rtHit = s.rtHit ∧ (s.putWmap v).rtClock = s.rtClock ∧
    (s.putWmap v).rtUntracked = s.rtUntracked ∧ (s.putWmap v).dram = s.dram ∧ (s.putWmap v).dr = s.dr ∧
    (s.putWmap v).poison = s.poison ∧ (s.putWmap v).ingot = s.ingot ∧ (s.putWmap v).nor = s.nor ∧
    (s.putWmap v).norUnk = s.norUnk ∧ (s.putWmap v).pat = s.pat ∧ (s.putWmap v).tdly = s.tdly ∧
    (s.putWmap v).scrub = s.scrub ∧ (s.putWmap v).fbuf = s.fbuf ∧ (s.putWmap v).rings = s.rings ∧
    (s.putWmap v).haz = s.haz ∧ (s.putWmap v).marks = s.marks ∧ (s.putWmap v).wsnFloor = s.wsnFloor ∧
    (s.putWmap v).health = s.health ∧ (s.putWmap v).qPend = s.qPend ∧ (s.putWmap v).reqs = s.reqs ∧
    (s.putWmap v).aborts = s.aborts ∧ (s.putWmap v).gateShut = s.gateShut ∧ (s.putWmap v).sqs = s.sqs ∧
    (s.putWmap v).cqs = s.cqs ∧ (s.putWmap v).cmds = s.cmds ∧ (s.putWmap v).resets = s.resets ∧
    (s.putWmap v).ctrls = s.ctrls ∧ (s.putWmap v).arbs = s.arbs ∧ (s.putWmap v).credit = s.credit ∧
    (s.putWmap v).taken = s.taken ∧ (s.putWmap v).fetchLeft = s.fetchLeft ∧ (s.putWmap v).rotLast = s.rotLast ∧
    (s.putWmap v).rotFirst = s.rotFirst ∧ (s.putWmap v).hazStall = s.hazStall ∧ (s.putWmap v).span = s.span ∧
    (s.putWmap v).spanOut = s.spanOut ∧ (s.putWmap v).spanIn = s.spanIn ∧ (s.putWmap v).resOut = s.resOut ∧
    (s.putWmap v).jobs = s.jobs ∧ (s.putWmap v).finishing = s.finishing ∧ (s.putWmap v).greads = s.greads ∧
    (s.putWmap v).spanNum = s.spanNum ∧ (s.putWmap v).spanArr = s.spanArr ∧ (s.putWmap v).dups = s.dups ∧
    (s.putWmap v).dupGen = s.dupGen ∧ (s.putWmap v).rlogPos = s.rlogPos ∧ (s.putWmap v).members = s.members ∧
    (s.putWmap v).peerVia = s.peerVia ∧ (s.putWmap v).groups = s.groups ∧ (s.putWmap v).peerBound = s.peerBound ∧
    (s.putWmap v).returned = s.returned ∧ (s.putWmap v).lostRanges = s.lostRanges ∧ (s.putWmap v).wfin = s.wfin ∧
    (s.putWmap v).wheld = s.wheld ∧ (s.putWmap v).preserve = s.preserve ∧ (s.putWmap v).kept = s.kept ∧
    (s.putWmap v).metaOpen = s.metaOpen ∧ (s.putWmap v).portA = s.portA ∧ (s.putWmap v).restartDue = s.restartDue ∧
    (s.putWmap v).pings = s.pings ∧ (s.putWmap v).chain = s.chain ∧ (s.putWmap v).position = s.position ∧
    (s.putWmap v).power = s.power ∧ (s.putWmap v).powerOp = s.powerOp ∧ (s.putWmap v).fsn = s.fsn ∧
    (s.putWmap v).ns = s.ns ∧ (s.putWmap v).volCap = s.volCap ∧ (s.putWmap v).rsv = s.rsv ∧
    (s.putWmap v).tokCount = s.tokCount ∧ (s.putWmap v).fullZones = s.fullZones ∧ (s.putWmap v).fam = s.fam ∧
    (s.putWmap v).params = s.params ∧ (s.putWmap v).alm = s.alm ∧ (s.putWmap v).domeEntry = s.domeEntry ∧
    (s.putWmap v).domeWake = s.domeWake ∧ (s.putWmap v).domeAgreed = s.domeAgreed ∧ (s.putWmap v).readAt = s.readAt ∧
    (s.putWmap v).sensorFail = s.sensorFail ∧ (s.putWmap v).tripCount = s.tripCount ∧ (s.putWmap v).rise = s.rise ∧
    (s.putWmap v).stopped = s.stopped ∧ (s.putWmap v).coolSince = s.coolSince ∧ (s.putWmap v).events = s.events ∧
    (s.putWmap v).dies = s.dies ∧ (s.putWmap v).chans = s.chans ∧ (s.putWmap v).accs = s.accs ∧
    (s.putWmap v).ldpc = s.ldpc ∧ (s.putWmap v).nand = s.nand ∧ (s.putWmap v).blkErased = s.blkErased ∧
    (s.putWmap v).vault = s.vault ∧ (s.putWmap v).sessions = s.sessions ∧ (s.putWmap v).trngRestarts = s.trngRestarts ∧
    (s.putWmap v).drbgLeft = s.drbgLeft ∧ (s.putWmap v).imageId = s.imageId ∧ (s.putWmap v).verFuses = s.verFuses ∧
    (s.putWmap v).nsInfo = s.nsInfo ∧ (s.putWmap v).care = s.care ∧ (s.putWmap v).history = s.history ∧
    (s.putWmap v).fw = s.fw ∧ (s.putWmap v).trust = s.trust ∧ (s.putWmap v).fdp = s.fdp ∧
    (s.putWmap v).lostGen = s.lostGen ∧ (s.putWmap v).lostAgain = s.lostAgain ∧ (s.putWmap v).accum = s.accum ∧
    (s.putWmap v).boundSent = s.boundSent ∧ (s.putWmap v).zoneUsed = s.zoneUsed ∧ (s.putWmap v).clean = s.clean :=
  ⟨rfl, rfl, rfl, rfl, rfl, rfl, rfl, rfl, rfl, rfl, rfl, rfl, rfl, rfl, rfl, rfl, rfl, rfl, rfl, rfl, rfl, rfl, rfl,
  rfl, rfl, rfl, rfl, rfl, rfl, rfl, rfl, rfl, rfl, rfl, rfl, rfl, rfl, rfl, rfl, rfl, rfl, rfl, rfl, rfl, rfl, rfl,
  rfl, rfl, rfl, rfl, rfl, rfl, rfl, rfl, rfl, rfl, rfl, rfl, rfl, rfl, rfl, rfl, rfl, rfl, rfl, rfl, rfl, rfl, rfl,
  rfl, rfl, rfl, rfl, rfl, rfl, rfl, rfl, rfl, rfl, rfl, rfl, rfl, rfl, rfl, rfl, rfl, rfl, rfl, rfl, rfl, rfl, rfl,
  rfl, rfl, rfl, rfl, rfl, rfl, rfl, rfl, rfl, rfl, rfl, rfl, rfl, rfl, rfl, rfl, rfl, rfl, rfl, rfl, rfl, rfl, rfl,
  rfl, rfl, rfl, rfl, rfl, rfl, rfl, rfl, rfl⟩

@[simp] theorem State.putWmap_wmap (s : State) (v : FMap W64) : (s.putWmap v).wmap = v := rfl

@[simp] theorem State.putWfin_frame (s : State) (v : FMap Bool) :
    (s.putWfin v).pending = s.pending ∧ (s.putWfin v).free = s.free ∧ (s.putWfin v).out = s.out ∧
    (s.putWfin v).boot = s.boot ∧ (s.putWfin v).tick = s.tick ∧ (s.putWfin v).win = s.win ∧ (s.putWfin v).gap = s.gap ∧
    (s.putWfin v).regs = s.regs ∧ (s.putWfin v).regPend = s.regPend ∧ (s.putWfin v).cores = s.cores ∧
    (s.putWfin v).cluster = s.cluster ∧ (s.putWfin v).tun = s.tun ∧ (s.putWfin v).tunBufs = s.tunBufs ∧
    (s.putWfin v).tunMin = s.tunMin ∧ (s.putWfin v).tunMinPend = s.tunMinPend ∧ (s.putWfin v).sramErr = s.sramErr ∧
    (s.putWfin v).heldBack = s.heldBack ∧ (s.putWfin v).rtHit = s.rtHit ∧ (s.putWfin v).rtClock = s.rtClock ∧
    (s.putWfin v).rtUntracked = s.rtUntracked ∧ (s.putWfin v).dram = s.dram ∧ (s.putWfin v).dr = s.dr ∧
    (s.putWfin v).poison = s.poison ∧ (s.putWfin v).ingot = s.ingot ∧ (s.putWfin v).nor = s.nor ∧
    (s.putWfin v).norUnk = s.norUnk ∧ (s.putWfin v).pat = s.pat ∧ (s.putWfin v).tdly = s.tdly ∧
    (s.putWfin v).scrub = s.scrub ∧ (s.putWfin v).fbuf = s.fbuf ∧ (s.putWfin v).rings = s.rings ∧
    (s.putWfin v).haz = s.haz ∧ (s.putWfin v).marks = s.marks ∧ (s.putWfin v).wsnFloor = s.wsnFloor ∧
    (s.putWfin v).health = s.health ∧ (s.putWfin v).qPend = s.qPend ∧ (s.putWfin v).reqs = s.reqs ∧
    (s.putWfin v).aborts = s.aborts ∧ (s.putWfin v).gateShut = s.gateShut ∧ (s.putWfin v).sqs = s.sqs ∧
    (s.putWfin v).cqs = s.cqs ∧ (s.putWfin v).cmds = s.cmds ∧ (s.putWfin v).resets = s.resets ∧
    (s.putWfin v).ctrls = s.ctrls ∧ (s.putWfin v).arbs = s.arbs ∧ (s.putWfin v).credit = s.credit ∧
    (s.putWfin v).taken = s.taken ∧ (s.putWfin v).fetchLeft = s.fetchLeft ∧ (s.putWfin v).rotLast = s.rotLast ∧
    (s.putWfin v).rotFirst = s.rotFirst ∧ (s.putWfin v).hazStall = s.hazStall ∧ (s.putWfin v).span = s.span ∧
    (s.putWfin v).spanOut = s.spanOut ∧ (s.putWfin v).spanIn = s.spanIn ∧ (s.putWfin v).resOut = s.resOut ∧
    (s.putWfin v).jobs = s.jobs ∧ (s.putWfin v).finishing = s.finishing ∧ (s.putWfin v).greads = s.greads ∧
    (s.putWfin v).spanNum = s.spanNum ∧ (s.putWfin v).spanArr = s.spanArr ∧ (s.putWfin v).dups = s.dups ∧
    (s.putWfin v).dupGen = s.dupGen ∧ (s.putWfin v).rlogPos = s.rlogPos ∧ (s.putWfin v).members = s.members ∧
    (s.putWfin v).peerVia = s.peerVia ∧ (s.putWfin v).groups = s.groups ∧ (s.putWfin v).peerBound = s.peerBound ∧
    (s.putWfin v).returned = s.returned ∧ (s.putWfin v).lostRanges = s.lostRanges ∧ (s.putWfin v).wmap = s.wmap ∧
    (s.putWfin v).wheld = s.wheld ∧ (s.putWfin v).preserve = s.preserve ∧ (s.putWfin v).kept = s.kept ∧
    (s.putWfin v).metaOpen = s.metaOpen ∧ (s.putWfin v).portA = s.portA ∧ (s.putWfin v).restartDue = s.restartDue ∧
    (s.putWfin v).pings = s.pings ∧ (s.putWfin v).chain = s.chain ∧ (s.putWfin v).position = s.position ∧
    (s.putWfin v).power = s.power ∧ (s.putWfin v).powerOp = s.powerOp ∧ (s.putWfin v).fsn = s.fsn ∧
    (s.putWfin v).ns = s.ns ∧ (s.putWfin v).volCap = s.volCap ∧ (s.putWfin v).rsv = s.rsv ∧
    (s.putWfin v).tokCount = s.tokCount ∧ (s.putWfin v).fullZones = s.fullZones ∧ (s.putWfin v).fam = s.fam ∧
    (s.putWfin v).params = s.params ∧ (s.putWfin v).alm = s.alm ∧ (s.putWfin v).domeEntry = s.domeEntry ∧
    (s.putWfin v).domeWake = s.domeWake ∧ (s.putWfin v).domeAgreed = s.domeAgreed ∧ (s.putWfin v).readAt = s.readAt ∧
    (s.putWfin v).sensorFail = s.sensorFail ∧ (s.putWfin v).tripCount = s.tripCount ∧ (s.putWfin v).rise = s.rise ∧
    (s.putWfin v).stopped = s.stopped ∧ (s.putWfin v).coolSince = s.coolSince ∧ (s.putWfin v).events = s.events ∧
    (s.putWfin v).dies = s.dies ∧ (s.putWfin v).chans = s.chans ∧ (s.putWfin v).accs = s.accs ∧
    (s.putWfin v).ldpc = s.ldpc ∧ (s.putWfin v).nand = s.nand ∧ (s.putWfin v).blkErased = s.blkErased ∧
    (s.putWfin v).vault = s.vault ∧ (s.putWfin v).sessions = s.sessions ∧ (s.putWfin v).trngRestarts = s.trngRestarts ∧
    (s.putWfin v).drbgLeft = s.drbgLeft ∧ (s.putWfin v).imageId = s.imageId ∧ (s.putWfin v).verFuses = s.verFuses ∧
    (s.putWfin v).nsInfo = s.nsInfo ∧ (s.putWfin v).care = s.care ∧ (s.putWfin v).history = s.history ∧
    (s.putWfin v).fw = s.fw ∧ (s.putWfin v).trust = s.trust ∧ (s.putWfin v).fdp = s.fdp ∧
    (s.putWfin v).lostGen = s.lostGen ∧ (s.putWfin v).lostAgain = s.lostAgain ∧ (s.putWfin v).accum = s.accum ∧
    (s.putWfin v).boundSent = s.boundSent ∧ (s.putWfin v).zoneUsed = s.zoneUsed ∧ (s.putWfin v).clean = s.clean :=
  ⟨rfl, rfl, rfl, rfl, rfl, rfl, rfl, rfl, rfl, rfl, rfl, rfl, rfl, rfl, rfl, rfl, rfl, rfl, rfl, rfl, rfl, rfl, rfl,
  rfl, rfl, rfl, rfl, rfl, rfl, rfl, rfl, rfl, rfl, rfl, rfl, rfl, rfl, rfl, rfl, rfl, rfl, rfl, rfl, rfl, rfl, rfl,
  rfl, rfl, rfl, rfl, rfl, rfl, rfl, rfl, rfl, rfl, rfl, rfl, rfl, rfl, rfl, rfl, rfl, rfl, rfl, rfl, rfl, rfl, rfl,
  rfl, rfl, rfl, rfl, rfl, rfl, rfl, rfl, rfl, rfl, rfl, rfl, rfl, rfl, rfl, rfl, rfl, rfl, rfl, rfl, rfl, rfl, rfl,
  rfl, rfl, rfl, rfl, rfl, rfl, rfl, rfl, rfl, rfl, rfl, rfl, rfl, rfl, rfl, rfl, rfl, rfl, rfl, rfl, rfl, rfl, rfl,
  rfl, rfl, rfl, rfl, rfl, rfl, rfl, rfl, rfl⟩

@[simp] theorem State.putWfin_wfin (s : State) (v : FMap Bool) : (s.putWfin v).wfin = v := rfl

@[simp] theorem State.putWheld_frame (s : State) (v : List Nat) :
    (s.putWheld v).pending = s.pending ∧ (s.putWheld v).free = s.free ∧ (s.putWheld v).out = s.out ∧
    (s.putWheld v).boot = s.boot ∧ (s.putWheld v).tick = s.tick ∧ (s.putWheld v).win = s.win ∧
    (s.putWheld v).gap = s.gap ∧ (s.putWheld v).regs = s.regs ∧ (s.putWheld v).regPend = s.regPend ∧
    (s.putWheld v).cores = s.cores ∧ (s.putWheld v).cluster = s.cluster ∧ (s.putWheld v).tun = s.tun ∧
    (s.putWheld v).tunBufs = s.tunBufs ∧ (s.putWheld v).tunMin = s.tunMin ∧ (s.putWheld v).tunMinPend = s.tunMinPend ∧
    (s.putWheld v).sramErr = s.sramErr ∧ (s.putWheld v).heldBack = s.heldBack ∧ (s.putWheld v).rtHit = s.rtHit ∧
    (s.putWheld v).rtClock = s.rtClock ∧ (s.putWheld v).rtUntracked = s.rtUntracked ∧ (s.putWheld v).dram = s.dram ∧
    (s.putWheld v).dr = s.dr ∧ (s.putWheld v).poison = s.poison ∧ (s.putWheld v).ingot = s.ingot ∧
    (s.putWheld v).nor = s.nor ∧ (s.putWheld v).norUnk = s.norUnk ∧ (s.putWheld v).pat = s.pat ∧
    (s.putWheld v).tdly = s.tdly ∧ (s.putWheld v).scrub = s.scrub ∧ (s.putWheld v).fbuf = s.fbuf ∧
    (s.putWheld v).rings = s.rings ∧ (s.putWheld v).haz = s.haz ∧ (s.putWheld v).marks = s.marks ∧
    (s.putWheld v).wsnFloor = s.wsnFloor ∧ (s.putWheld v).health = s.health ∧ (s.putWheld v).qPend = s.qPend ∧
    (s.putWheld v).reqs = s.reqs ∧ (s.putWheld v).aborts = s.aborts ∧ (s.putWheld v).gateShut = s.gateShut ∧
    (s.putWheld v).sqs = s.sqs ∧ (s.putWheld v).cqs = s.cqs ∧ (s.putWheld v).cmds = s.cmds ∧
    (s.putWheld v).resets = s.resets ∧ (s.putWheld v).ctrls = s.ctrls ∧ (s.putWheld v).arbs = s.arbs ∧
    (s.putWheld v).credit = s.credit ∧ (s.putWheld v).taken = s.taken ∧ (s.putWheld v).fetchLeft = s.fetchLeft ∧
    (s.putWheld v).rotLast = s.rotLast ∧ (s.putWheld v).rotFirst = s.rotFirst ∧ (s.putWheld v).hazStall = s.hazStall ∧
    (s.putWheld v).span = s.span ∧ (s.putWheld v).spanOut = s.spanOut ∧ (s.putWheld v).spanIn = s.spanIn ∧
    (s.putWheld v).resOut = s.resOut ∧ (s.putWheld v).jobs = s.jobs ∧ (s.putWheld v).finishing = s.finishing ∧
    (s.putWheld v).greads = s.greads ∧ (s.putWheld v).spanNum = s.spanNum ∧ (s.putWheld v).spanArr = s.spanArr ∧
    (s.putWheld v).dups = s.dups ∧ (s.putWheld v).dupGen = s.dupGen ∧ (s.putWheld v).rlogPos = s.rlogPos ∧
    (s.putWheld v).members = s.members ∧ (s.putWheld v).peerVia = s.peerVia ∧ (s.putWheld v).groups = s.groups ∧
    (s.putWheld v).peerBound = s.peerBound ∧ (s.putWheld v).returned = s.returned ∧
    (s.putWheld v).lostRanges = s.lostRanges ∧ (s.putWheld v).wmap = s.wmap ∧ (s.putWheld v).wfin = s.wfin ∧
    (s.putWheld v).preserve = s.preserve ∧ (s.putWheld v).kept = s.kept ∧ (s.putWheld v).metaOpen = s.metaOpen ∧
    (s.putWheld v).portA = s.portA ∧ (s.putWheld v).restartDue = s.restartDue ∧ (s.putWheld v).pings = s.pings ∧
    (s.putWheld v).chain = s.chain ∧ (s.putWheld v).position = s.position ∧ (s.putWheld v).power = s.power ∧
    (s.putWheld v).powerOp = s.powerOp ∧ (s.putWheld v).fsn = s.fsn ∧ (s.putWheld v).ns = s.ns ∧
    (s.putWheld v).volCap = s.volCap ∧ (s.putWheld v).rsv = s.rsv ∧ (s.putWheld v).tokCount = s.tokCount ∧
    (s.putWheld v).fullZones = s.fullZones ∧ (s.putWheld v).fam = s.fam ∧ (s.putWheld v).params = s.params ∧
    (s.putWheld v).alm = s.alm ∧ (s.putWheld v).domeEntry = s.domeEntry ∧ (s.putWheld v).domeWake = s.domeWake ∧
    (s.putWheld v).domeAgreed = s.domeAgreed ∧ (s.putWheld v).readAt = s.readAt ∧
    (s.putWheld v).sensorFail = s.sensorFail ∧ (s.putWheld v).tripCount = s.tripCount ∧ (s.putWheld v).rise = s.rise ∧
    (s.putWheld v).stopped = s.stopped ∧ (s.putWheld v).coolSince = s.coolSince ∧ (s.putWheld v).events = s.events ∧
    (s.putWheld v).dies = s.dies ∧ (s.putWheld v).chans = s.chans ∧ (s.putWheld v).accs = s.accs ∧
    (s.putWheld v).ldpc = s.ldpc ∧ (s.putWheld v).nand = s.nand ∧ (s.putWheld v).blkErased = s.blkErased ∧
    (s.putWheld v).vault = s.vault ∧ (s.putWheld v).sessions = s.sessions ∧
    (s.putWheld v).trngRestarts = s.trngRestarts ∧ (s.putWheld v).drbgLeft = s.drbgLeft ∧
    (s.putWheld v).imageId = s.imageId ∧ (s.putWheld v).verFuses = s.verFuses ∧ (s.putWheld v).nsInfo = s.nsInfo ∧
    (s.putWheld v).care = s.care ∧ (s.putWheld v).history = s.history ∧ (s.putWheld v).fw = s.fw ∧
    (s.putWheld v).trust = s.trust ∧ (s.putWheld v).fdp = s.fdp ∧ (s.putWheld v).lostGen = s.lostGen ∧
    (s.putWheld v).lostAgain = s.lostAgain ∧ (s.putWheld v).accum = s.accum ∧ (s.putWheld v).boundSent = s.boundSent ∧
    (s.putWheld v).zoneUsed = s.zoneUsed ∧ (s.putWheld v).clean = s.clean :=
  ⟨rfl, rfl, rfl, rfl, rfl, rfl, rfl, rfl, rfl, rfl, rfl, rfl, rfl, rfl, rfl, rfl, rfl, rfl, rfl, rfl, rfl, rfl, rfl,
  rfl, rfl, rfl, rfl, rfl, rfl, rfl, rfl, rfl, rfl, rfl, rfl, rfl, rfl, rfl, rfl, rfl, rfl, rfl, rfl, rfl, rfl, rfl,
  rfl, rfl, rfl, rfl, rfl, rfl, rfl, rfl, rfl, rfl, rfl, rfl, rfl, rfl, rfl, rfl, rfl, rfl, rfl, rfl, rfl, rfl, rfl,
  rfl, rfl, rfl, rfl, rfl, rfl, rfl, rfl, rfl, rfl, rfl, rfl, rfl, rfl, rfl, rfl, rfl, rfl, rfl, rfl, rfl, rfl, rfl,
  rfl, rfl, rfl, rfl, rfl, rfl, rfl, rfl, rfl, rfl, rfl, rfl, rfl, rfl, rfl, rfl, rfl, rfl, rfl, rfl, rfl, rfl, rfl,
  rfl, rfl, rfl, rfl, rfl, rfl, rfl, rfl, rfl⟩

@[simp] theorem State.putWheld_wheld (s : State) (v : List Nat) : (s.putWheld v).wheld = v := rfl

@[simp] theorem State.putPreserve_frame (s : State) (v : Bool) :
    (s.putPreserve v).pending = s.pending ∧ (s.putPreserve v).free = s.free ∧ (s.putPreserve v).out = s.out ∧
    (s.putPreserve v).boot = s.boot ∧ (s.putPreserve v).tick = s.tick ∧ (s.putPreserve v).win = s.win ∧
    (s.putPreserve v).gap = s.gap ∧ (s.putPreserve v).regs = s.regs ∧ (s.putPreserve v).regPend = s.regPend ∧
    (s.putPreserve v).cores = s.cores ∧ (s.putPreserve v).cluster = s.cluster ∧ (s.putPreserve v).tun = s.tun ∧
    (s.putPreserve v).tunBufs = s.tunBufs ∧ (s.putPreserve v).tunMin = s.tunMin ∧
    (s.putPreserve v).tunMinPend = s.tunMinPend ∧ (s.putPreserve v).sramErr = s.sramErr ∧
    (s.putPreserve v).heldBack = s.heldBack ∧ (s.putPreserve v).rtHit = s.rtHit ∧ (s.putPreserve v).rtClock = s.rtClock ∧
    (s.putPreserve v).rtUntracked = s.rtUntracked ∧ (s.putPreserve v).dram = s.dram ∧ (s.putPreserve v).dr = s.dr ∧
    (s.putPreserve v).poison = s.poison ∧ (s.putPreserve v).ingot = s.ingot ∧ (s.putPreserve v).nor = s.nor ∧
    (s.putPreserve v).norUnk = s.norUnk ∧ (s.putPreserve v).pat = s.pat ∧ (s.putPreserve v).tdly = s.tdly ∧
    (s.putPreserve v).scrub = s.scrub ∧ (s.putPreserve v).fbuf = s.fbuf ∧ (s.putPreserve v).rings = s.rings ∧
    (s.putPreserve v).haz = s.haz ∧ (s.putPreserve v).marks = s.marks ∧ (s.putPreserve v).wsnFloor = s.wsnFloor ∧
    (s.putPreserve v).health = s.health ∧ (s.putPreserve v).qPend = s.qPend ∧ (s.putPreserve v).reqs = s.reqs ∧
    (s.putPreserve v).aborts = s.aborts ∧ (s.putPreserve v).gateShut = s.gateShut ∧ (s.putPreserve v).sqs = s.sqs ∧
    (s.putPreserve v).cqs = s.cqs ∧ (s.putPreserve v).cmds = s.cmds ∧ (s.putPreserve v).resets = s.resets ∧
    (s.putPreserve v).ctrls = s.ctrls ∧ (s.putPreserve v).arbs = s.arbs ∧ (s.putPreserve v).credit = s.credit ∧
    (s.putPreserve v).taken = s.taken ∧ (s.putPreserve v).fetchLeft = s.fetchLeft ∧
    (s.putPreserve v).rotLast = s.rotLast ∧ (s.putPreserve v).rotFirst = s.rotFirst ∧
    (s.putPreserve v).hazStall = s.hazStall ∧ (s.putPreserve v).span = s.span ∧ (s.putPreserve v).spanOut = s.spanOut ∧
    (s.putPreserve v).spanIn = s.spanIn ∧ (s.putPreserve v).resOut = s.resOut ∧ (s.putPreserve v).jobs = s.jobs ∧
    (s.putPreserve v).finishing = s.finishing ∧ (s.putPreserve v).greads = s.greads ∧
    (s.putPreserve v).spanNum = s.spanNum ∧ (s.putPreserve v).spanArr = s.spanArr ∧ (s.putPreserve v).dups = s.dups ∧
    (s.putPreserve v).dupGen = s.dupGen ∧ (s.putPreserve v).rlogPos = s.rlogPos ∧ (s.putPreserve v).members = s.members ∧
    (s.putPreserve v).peerVia = s.peerVia ∧ (s.putPreserve v).groups = s.groups ∧
    (s.putPreserve v).peerBound = s.peerBound ∧ (s.putPreserve v).returned = s.returned ∧
    (s.putPreserve v).lostRanges = s.lostRanges ∧ (s.putPreserve v).wmap = s.wmap ∧ (s.putPreserve v).wfin = s.wfin ∧
    (s.putPreserve v).wheld = s.wheld ∧ (s.putPreserve v).kept = s.kept ∧ (s.putPreserve v).metaOpen = s.metaOpen ∧
    (s.putPreserve v).portA = s.portA ∧ (s.putPreserve v).restartDue = s.restartDue ∧ (s.putPreserve v).pings = s.pings ∧
    (s.putPreserve v).chain = s.chain ∧ (s.putPreserve v).position = s.position ∧ (s.putPreserve v).power = s.power ∧
    (s.putPreserve v).powerOp = s.powerOp ∧ (s.putPreserve v).fsn = s.fsn ∧ (s.putPreserve v).ns = s.ns ∧
    (s.putPreserve v).volCap = s.volCap ∧ (s.putPreserve v).rsv = s.rsv ∧ (s.putPreserve v).tokCount = s.tokCount ∧
    (s.putPreserve v).fullZones = s.fullZones ∧ (s.putPreserve v).fam = s.fam ∧ (s.putPreserve v).params = s.params ∧
    (s.putPreserve v).alm = s.alm ∧ (s.putPreserve v).domeEntry = s.domeEntry ∧ (s.putPreserve v).domeWake = s.domeWake ∧
    (s.putPreserve v).domeAgreed = s.domeAgreed ∧ (s.putPreserve v).readAt = s.readAt ∧
    (s.putPreserve v).sensorFail = s.sensorFail ∧ (s.putPreserve v).tripCount = s.tripCount ∧
    (s.putPreserve v).rise = s.rise ∧ (s.putPreserve v).stopped = s.stopped ∧ (s.putPreserve v).coolSince = s.coolSince ∧
    (s.putPreserve v).events = s.events ∧ (s.putPreserve v).dies = s.dies ∧ (s.putPreserve v).chans = s.chans ∧
    (s.putPreserve v).accs = s.accs ∧ (s.putPreserve v).ldpc = s.ldpc ∧ (s.putPreserve v).nand = s.nand ∧
    (s.putPreserve v).blkErased = s.blkErased ∧ (s.putPreserve v).vault = s.vault ∧
    (s.putPreserve v).sessions = s.sessions ∧ (s.putPreserve v).trngRestarts = s.trngRestarts ∧
    (s.putPreserve v).drbgLeft = s.drbgLeft ∧ (s.putPreserve v).imageId = s.imageId ∧
    (s.putPreserve v).verFuses = s.verFuses ∧ (s.putPreserve v).nsInfo = s.nsInfo ∧ (s.putPreserve v).care = s.care ∧
    (s.putPreserve v).history = s.history ∧ (s.putPreserve v).fw = s.fw ∧ (s.putPreserve v).trust = s.trust ∧
    (s.putPreserve v).fdp = s.fdp ∧ (s.putPreserve v).lostGen = s.lostGen ∧ (s.putPreserve v).lostAgain = s.lostAgain ∧
    (s.putPreserve v).accum = s.accum ∧ (s.putPreserve v).boundSent = s.boundSent ∧
    (s.putPreserve v).zoneUsed = s.zoneUsed ∧ (s.putPreserve v).clean = s.clean :=
  ⟨rfl, rfl, rfl, rfl, rfl, rfl, rfl, rfl, rfl, rfl, rfl, rfl, rfl, rfl, rfl, rfl, rfl, rfl, rfl, rfl, rfl, rfl, rfl,
  rfl, rfl, rfl, rfl, rfl, rfl, rfl, rfl, rfl, rfl, rfl, rfl, rfl, rfl, rfl, rfl, rfl, rfl, rfl, rfl, rfl, rfl, rfl,
  rfl, rfl, rfl, rfl, rfl, rfl, rfl, rfl, rfl, rfl, rfl, rfl, rfl, rfl, rfl, rfl, rfl, rfl, rfl, rfl, rfl, rfl, rfl,
  rfl, rfl, rfl, rfl, rfl, rfl, rfl, rfl, rfl, rfl, rfl, rfl, rfl, rfl, rfl, rfl, rfl, rfl, rfl, rfl, rfl, rfl, rfl,
  rfl, rfl, rfl, rfl, rfl, rfl, rfl, rfl, rfl, rfl, rfl, rfl, rfl, rfl, rfl, rfl, rfl, rfl, rfl, rfl, rfl, rfl, rfl,
  rfl, rfl, rfl, rfl, rfl, rfl, rfl, rfl, rfl⟩

@[simp] theorem State.putPreserve_preserve (s : State) (v : Bool) : (s.putPreserve v).preserve = v := rfl

@[simp] theorem State.putKept_frame (s : State) (v : List (W64 × BitVec 32)) :
    (s.putKept v).pending = s.pending ∧ (s.putKept v).free = s.free ∧ (s.putKept v).out = s.out ∧
    (s.putKept v).boot = s.boot ∧ (s.putKept v).tick = s.tick ∧ (s.putKept v).win = s.win ∧ (s.putKept v).gap = s.gap ∧
    (s.putKept v).regs = s.regs ∧ (s.putKept v).regPend = s.regPend ∧ (s.putKept v).cores = s.cores ∧
    (s.putKept v).cluster = s.cluster ∧ (s.putKept v).tun = s.tun ∧ (s.putKept v).tunBufs = s.tunBufs ∧
    (s.putKept v).tunMin = s.tunMin ∧ (s.putKept v).tunMinPend = s.tunMinPend ∧ (s.putKept v).sramErr = s.sramErr ∧
    (s.putKept v).heldBack = s.heldBack ∧ (s.putKept v).rtHit = s.rtHit ∧ (s.putKept v).rtClock = s.rtClock ∧
    (s.putKept v).rtUntracked = s.rtUntracked ∧ (s.putKept v).dram = s.dram ∧ (s.putKept v).dr = s.dr ∧
    (s.putKept v).poison = s.poison ∧ (s.putKept v).ingot = s.ingot ∧ (s.putKept v).nor = s.nor ∧
    (s.putKept v).norUnk = s.norUnk ∧ (s.putKept v).pat = s.pat ∧ (s.putKept v).tdly = s.tdly ∧
    (s.putKept v).scrub = s.scrub ∧ (s.putKept v).fbuf = s.fbuf ∧ (s.putKept v).rings = s.rings ∧
    (s.putKept v).haz = s.haz ∧ (s.putKept v).marks = s.marks ∧ (s.putKept v).wsnFloor = s.wsnFloor ∧
    (s.putKept v).health = s.health ∧ (s.putKept v).qPend = s.qPend ∧ (s.putKept v).reqs = s.reqs ∧
    (s.putKept v).aborts = s.aborts ∧ (s.putKept v).gateShut = s.gateShut ∧ (s.putKept v).sqs = s.sqs ∧
    (s.putKept v).cqs = s.cqs ∧ (s.putKept v).cmds = s.cmds ∧ (s.putKept v).resets = s.resets ∧
    (s.putKept v).ctrls = s.ctrls ∧ (s.putKept v).arbs = s.arbs ∧ (s.putKept v).credit = s.credit ∧
    (s.putKept v).taken = s.taken ∧ (s.putKept v).fetchLeft = s.fetchLeft ∧ (s.putKept v).rotLast = s.rotLast ∧
    (s.putKept v).rotFirst = s.rotFirst ∧ (s.putKept v).hazStall = s.hazStall ∧ (s.putKept v).span = s.span ∧
    (s.putKept v).spanOut = s.spanOut ∧ (s.putKept v).spanIn = s.spanIn ∧ (s.putKept v).resOut = s.resOut ∧
    (s.putKept v).jobs = s.jobs ∧ (s.putKept v).finishing = s.finishing ∧ (s.putKept v).greads = s.greads ∧
    (s.putKept v).spanNum = s.spanNum ∧ (s.putKept v).spanArr = s.spanArr ∧ (s.putKept v).dups = s.dups ∧
    (s.putKept v).dupGen = s.dupGen ∧ (s.putKept v).rlogPos = s.rlogPos ∧ (s.putKept v).members = s.members ∧
    (s.putKept v).peerVia = s.peerVia ∧ (s.putKept v).groups = s.groups ∧ (s.putKept v).peerBound = s.peerBound ∧
    (s.putKept v).returned = s.returned ∧ (s.putKept v).lostRanges = s.lostRanges ∧ (s.putKept v).wmap = s.wmap ∧
    (s.putKept v).wfin = s.wfin ∧ (s.putKept v).wheld = s.wheld ∧ (s.putKept v).preserve = s.preserve ∧
    (s.putKept v).metaOpen = s.metaOpen ∧ (s.putKept v).portA = s.portA ∧ (s.putKept v).restartDue = s.restartDue ∧
    (s.putKept v).pings = s.pings ∧ (s.putKept v).chain = s.chain ∧ (s.putKept v).position = s.position ∧
    (s.putKept v).power = s.power ∧ (s.putKept v).powerOp = s.powerOp ∧ (s.putKept v).fsn = s.fsn ∧
    (s.putKept v).ns = s.ns ∧ (s.putKept v).volCap = s.volCap ∧ (s.putKept v).rsv = s.rsv ∧
    (s.putKept v).tokCount = s.tokCount ∧ (s.putKept v).fullZones = s.fullZones ∧ (s.putKept v).fam = s.fam ∧
    (s.putKept v).params = s.params ∧ (s.putKept v).alm = s.alm ∧ (s.putKept v).domeEntry = s.domeEntry ∧
    (s.putKept v).domeWake = s.domeWake ∧ (s.putKept v).domeAgreed = s.domeAgreed ∧ (s.putKept v).readAt = s.readAt ∧
    (s.putKept v).sensorFail = s.sensorFail ∧ (s.putKept v).tripCount = s.tripCount ∧ (s.putKept v).rise = s.rise ∧
    (s.putKept v).stopped = s.stopped ∧ (s.putKept v).coolSince = s.coolSince ∧ (s.putKept v).events = s.events ∧
    (s.putKept v).dies = s.dies ∧ (s.putKept v).chans = s.chans ∧ (s.putKept v).accs = s.accs ∧
    (s.putKept v).ldpc = s.ldpc ∧ (s.putKept v).nand = s.nand ∧ (s.putKept v).blkErased = s.blkErased ∧
    (s.putKept v).vault = s.vault ∧ (s.putKept v).sessions = s.sessions ∧ (s.putKept v).trngRestarts = s.trngRestarts ∧
    (s.putKept v).drbgLeft = s.drbgLeft ∧ (s.putKept v).imageId = s.imageId ∧ (s.putKept v).verFuses = s.verFuses ∧
    (s.putKept v).nsInfo = s.nsInfo ∧ (s.putKept v).care = s.care ∧ (s.putKept v).history = s.history ∧
    (s.putKept v).fw = s.fw ∧ (s.putKept v).trust = s.trust ∧ (s.putKept v).fdp = s.fdp ∧
    (s.putKept v).lostGen = s.lostGen ∧ (s.putKept v).lostAgain = s.lostAgain ∧ (s.putKept v).accum = s.accum ∧
    (s.putKept v).boundSent = s.boundSent ∧ (s.putKept v).zoneUsed = s.zoneUsed ∧ (s.putKept v).clean = s.clean :=
  ⟨rfl, rfl, rfl, rfl, rfl, rfl, rfl, rfl, rfl, rfl, rfl, rfl, rfl, rfl, rfl, rfl, rfl, rfl, rfl, rfl, rfl, rfl, rfl,
  rfl, rfl, rfl, rfl, rfl, rfl, rfl, rfl, rfl, rfl, rfl, rfl, rfl, rfl, rfl, rfl, rfl, rfl, rfl, rfl, rfl, rfl, rfl,
  rfl, rfl, rfl, rfl, rfl, rfl, rfl, rfl, rfl, rfl, rfl, rfl, rfl, rfl, rfl, rfl, rfl, rfl, rfl, rfl, rfl, rfl, rfl,
  rfl, rfl, rfl, rfl, rfl, rfl, rfl, rfl, rfl, rfl, rfl, rfl, rfl, rfl, rfl, rfl, rfl, rfl, rfl, rfl, rfl, rfl, rfl,
  rfl, rfl, rfl, rfl, rfl, rfl, rfl, rfl, rfl, rfl, rfl, rfl, rfl, rfl, rfl, rfl, rfl, rfl, rfl, rfl, rfl, rfl, rfl,
  rfl, rfl, rfl, rfl, rfl, rfl, rfl, rfl, rfl⟩

@[simp] theorem State.putKept_kept (s : State) (v : List (W64 × BitVec 32)) : (s.putKept v).kept = v := rfl

@[simp] theorem State.putMetaOpen_frame (s : State) (v : List MetaCommit) :
    (s.putMetaOpen v).pending = s.pending ∧ (s.putMetaOpen v).free = s.free ∧ (s.putMetaOpen v).out = s.out ∧
    (s.putMetaOpen v).boot = s.boot ∧ (s.putMetaOpen v).tick = s.tick ∧ (s.putMetaOpen v).win = s.win ∧
    (s.putMetaOpen v).gap = s.gap ∧ (s.putMetaOpen v).regs = s.regs ∧ (s.putMetaOpen v).regPend = s.regPend ∧
    (s.putMetaOpen v).cores = s.cores ∧ (s.putMetaOpen v).cluster = s.cluster ∧ (s.putMetaOpen v).tun = s.tun ∧
    (s.putMetaOpen v).tunBufs = s.tunBufs ∧ (s.putMetaOpen v).tunMin = s.tunMin ∧
    (s.putMetaOpen v).tunMinPend = s.tunMinPend ∧ (s.putMetaOpen v).sramErr = s.sramErr ∧
    (s.putMetaOpen v).heldBack = s.heldBack ∧ (s.putMetaOpen v).rtHit = s.rtHit ∧ (s.putMetaOpen v).rtClock = s.rtClock ∧
    (s.putMetaOpen v).rtUntracked = s.rtUntracked ∧ (s.putMetaOpen v).dram = s.dram ∧ (s.putMetaOpen v).dr = s.dr ∧
    (s.putMetaOpen v).poison = s.poison ∧ (s.putMetaOpen v).ingot = s.ingot ∧ (s.putMetaOpen v).nor = s.nor ∧
    (s.putMetaOpen v).norUnk = s.norUnk ∧ (s.putMetaOpen v).pat = s.pat ∧ (s.putMetaOpen v).tdly = s.tdly ∧
    (s.putMetaOpen v).scrub = s.scrub ∧ (s.putMetaOpen v).fbuf = s.fbuf ∧ (s.putMetaOpen v).rings = s.rings ∧
    (s.putMetaOpen v).haz = s.haz ∧ (s.putMetaOpen v).marks = s.marks ∧ (s.putMetaOpen v).wsnFloor = s.wsnFloor ∧
    (s.putMetaOpen v).health = s.health ∧ (s.putMetaOpen v).qPend = s.qPend ∧ (s.putMetaOpen v).reqs = s.reqs ∧
    (s.putMetaOpen v).aborts = s.aborts ∧ (s.putMetaOpen v).gateShut = s.gateShut ∧ (s.putMetaOpen v).sqs = s.sqs ∧
    (s.putMetaOpen v).cqs = s.cqs ∧ (s.putMetaOpen v).cmds = s.cmds ∧ (s.putMetaOpen v).resets = s.resets ∧
    (s.putMetaOpen v).ctrls = s.ctrls ∧ (s.putMetaOpen v).arbs = s.arbs ∧ (s.putMetaOpen v).credit = s.credit ∧
    (s.putMetaOpen v).taken = s.taken ∧ (s.putMetaOpen v).fetchLeft = s.fetchLeft ∧
    (s.putMetaOpen v).rotLast = s.rotLast ∧ (s.putMetaOpen v).rotFirst = s.rotFirst ∧
    (s.putMetaOpen v).hazStall = s.hazStall ∧ (s.putMetaOpen v).span = s.span ∧ (s.putMetaOpen v).spanOut = s.spanOut ∧
    (s.putMetaOpen v).spanIn = s.spanIn ∧ (s.putMetaOpen v).resOut = s.resOut ∧ (s.putMetaOpen v).jobs = s.jobs ∧
    (s.putMetaOpen v).finishing = s.finishing ∧ (s.putMetaOpen v).greads = s.greads ∧
    (s.putMetaOpen v).spanNum = s.spanNum ∧ (s.putMetaOpen v).spanArr = s.spanArr ∧ (s.putMetaOpen v).dups = s.dups ∧
    (s.putMetaOpen v).dupGen = s.dupGen ∧ (s.putMetaOpen v).rlogPos = s.rlogPos ∧ (s.putMetaOpen v).members = s.members ∧
    (s.putMetaOpen v).peerVia = s.peerVia ∧ (s.putMetaOpen v).groups = s.groups ∧
    (s.putMetaOpen v).peerBound = s.peerBound ∧ (s.putMetaOpen v).returned = s.returned ∧
    (s.putMetaOpen v).lostRanges = s.lostRanges ∧ (s.putMetaOpen v).wmap = s.wmap ∧ (s.putMetaOpen v).wfin = s.wfin ∧
    (s.putMetaOpen v).wheld = s.wheld ∧ (s.putMetaOpen v).preserve = s.preserve ∧ (s.putMetaOpen v).kept = s.kept ∧
    (s.putMetaOpen v).portA = s.portA ∧ (s.putMetaOpen v).restartDue = s.restartDue ∧ (s.putMetaOpen v).pings = s.pings ∧
    (s.putMetaOpen v).chain = s.chain ∧ (s.putMetaOpen v).position = s.position ∧ (s.putMetaOpen v).power = s.power ∧
    (s.putMetaOpen v).powerOp = s.powerOp ∧ (s.putMetaOpen v).fsn = s.fsn ∧ (s.putMetaOpen v).ns = s.ns ∧
    (s.putMetaOpen v).volCap = s.volCap ∧ (s.putMetaOpen v).rsv = s.rsv ∧ (s.putMetaOpen v).tokCount = s.tokCount ∧
    (s.putMetaOpen v).fullZones = s.fullZones ∧ (s.putMetaOpen v).fam = s.fam ∧ (s.putMetaOpen v).params = s.params ∧
    (s.putMetaOpen v).alm = s.alm ∧ (s.putMetaOpen v).domeEntry = s.domeEntry ∧ (s.putMetaOpen v).domeWake = s.domeWake ∧
    (s.putMetaOpen v).domeAgreed = s.domeAgreed ∧ (s.putMetaOpen v).readAt = s.readAt ∧
    (s.putMetaOpen v).sensorFail = s.sensorFail ∧ (s.putMetaOpen v).tripCount = s.tripCount ∧
    (s.putMetaOpen v).rise = s.rise ∧ (s.putMetaOpen v).stopped = s.stopped ∧ (s.putMetaOpen v).coolSince = s.coolSince ∧
    (s.putMetaOpen v).events = s.events ∧ (s.putMetaOpen v).dies = s.dies ∧ (s.putMetaOpen v).chans = s.chans ∧
    (s.putMetaOpen v).accs = s.accs ∧ (s.putMetaOpen v).ldpc = s.ldpc ∧ (s.putMetaOpen v).nand = s.nand ∧
    (s.putMetaOpen v).blkErased = s.blkErased ∧ (s.putMetaOpen v).vault = s.vault ∧
    (s.putMetaOpen v).sessions = s.sessions ∧ (s.putMetaOpen v).trngRestarts = s.trngRestarts ∧
    (s.putMetaOpen v).drbgLeft = s.drbgLeft ∧ (s.putMetaOpen v).imageId = s.imageId ∧
    (s.putMetaOpen v).verFuses = s.verFuses ∧ (s.putMetaOpen v).nsInfo = s.nsInfo ∧ (s.putMetaOpen v).care = s.care ∧
    (s.putMetaOpen v).history = s.history ∧ (s.putMetaOpen v).fw = s.fw ∧ (s.putMetaOpen v).trust = s.trust ∧
    (s.putMetaOpen v).fdp = s.fdp ∧ (s.putMetaOpen v).lostGen = s.lostGen ∧ (s.putMetaOpen v).lostAgain = s.lostAgain ∧
    (s.putMetaOpen v).accum = s.accum ∧ (s.putMetaOpen v).boundSent = s.boundSent ∧
    (s.putMetaOpen v).zoneUsed = s.zoneUsed ∧ (s.putMetaOpen v).clean = s.clean :=
  ⟨rfl, rfl, rfl, rfl, rfl, rfl, rfl, rfl, rfl, rfl, rfl, rfl, rfl, rfl, rfl, rfl, rfl, rfl, rfl, rfl, rfl, rfl, rfl,
  rfl, rfl, rfl, rfl, rfl, rfl, rfl, rfl, rfl, rfl, rfl, rfl, rfl, rfl, rfl, rfl, rfl, rfl, rfl, rfl, rfl, rfl, rfl,
  rfl, rfl, rfl, rfl, rfl, rfl, rfl, rfl, rfl, rfl, rfl, rfl, rfl, rfl, rfl, rfl, rfl, rfl, rfl, rfl, rfl, rfl, rfl,
  rfl, rfl, rfl, rfl, rfl, rfl, rfl, rfl, rfl, rfl, rfl, rfl, rfl, rfl, rfl, rfl, rfl, rfl, rfl, rfl, rfl, rfl, rfl,
  rfl, rfl, rfl, rfl, rfl, rfl, rfl, rfl, rfl, rfl, rfl, rfl, rfl, rfl, rfl, rfl, rfl, rfl, rfl, rfl, rfl, rfl, rfl,
  rfl, rfl, rfl, rfl, rfl, rfl, rfl, rfl, rfl⟩

@[simp] theorem State.putMetaOpen_metaOpen (s : State) (v : List MetaCommit) : (s.putMetaOpen v).metaOpen = v := rfl

@[simp] theorem State.putPortA_frame (s : State) (v : Option Nat) :
    (s.putPortA v).pending = s.pending ∧ (s.putPortA v).free = s.free ∧ (s.putPortA v).out = s.out ∧
    (s.putPortA v).boot = s.boot ∧ (s.putPortA v).tick = s.tick ∧ (s.putPortA v).win = s.win ∧
    (s.putPortA v).gap = s.gap ∧ (s.putPortA v).regs = s.regs ∧ (s.putPortA v).regPend = s.regPend ∧
    (s.putPortA v).cores = s.cores ∧ (s.putPortA v).cluster = s.cluster ∧ (s.putPortA v).tun = s.tun ∧
    (s.putPortA v).tunBufs = s.tunBufs ∧ (s.putPortA v).tunMin = s.tunMin ∧ (s.putPortA v).tunMinPend = s.tunMinPend ∧
    (s.putPortA v).sramErr = s.sramErr ∧ (s.putPortA v).heldBack = s.heldBack ∧ (s.putPortA v).rtHit = s.rtHit ∧
    (s.putPortA v).rtClock = s.rtClock ∧ (s.putPortA v).rtUntracked = s.rtUntracked ∧ (s.putPortA v).dram = s.dram ∧
    (s.putPortA v).dr = s.dr ∧ (s.putPortA v).poison = s.poison ∧ (s.putPortA v).ingot = s.ingot ∧
    (s.putPortA v).nor = s.nor ∧ (s.putPortA v).norUnk = s.norUnk ∧ (s.putPortA v).pat = s.pat ∧
    (s.putPortA v).tdly = s.tdly ∧ (s.putPortA v).scrub = s.scrub ∧ (s.putPortA v).fbuf = s.fbuf ∧
    (s.putPortA v).rings = s.rings ∧ (s.putPortA v).haz = s.haz ∧ (s.putPortA v).marks = s.marks ∧
    (s.putPortA v).wsnFloor = s.wsnFloor ∧ (s.putPortA v).health = s.health ∧ (s.putPortA v).qPend = s.qPend ∧
    (s.putPortA v).reqs = s.reqs ∧ (s.putPortA v).aborts = s.aborts ∧ (s.putPortA v).gateShut = s.gateShut ∧
    (s.putPortA v).sqs = s.sqs ∧ (s.putPortA v).cqs = s.cqs ∧ (s.putPortA v).cmds = s.cmds ∧
    (s.putPortA v).resets = s.resets ∧ (s.putPortA v).ctrls = s.ctrls ∧ (s.putPortA v).arbs = s.arbs ∧
    (s.putPortA v).credit = s.credit ∧ (s.putPortA v).taken = s.taken ∧ (s.putPortA v).fetchLeft = s.fetchLeft ∧
    (s.putPortA v).rotLast = s.rotLast ∧ (s.putPortA v).rotFirst = s.rotFirst ∧ (s.putPortA v).hazStall = s.hazStall ∧
    (s.putPortA v).span = s.span ∧ (s.putPortA v).spanOut = s.spanOut ∧ (s.putPortA v).spanIn = s.spanIn ∧
    (s.putPortA v).resOut = s.resOut ∧ (s.putPortA v).jobs = s.jobs ∧ (s.putPortA v).finishing = s.finishing ∧
    (s.putPortA v).greads = s.greads ∧ (s.putPortA v).spanNum = s.spanNum ∧ (s.putPortA v).spanArr = s.spanArr ∧
    (s.putPortA v).dups = s.dups ∧ (s.putPortA v).dupGen = s.dupGen ∧ (s.putPortA v).rlogPos = s.rlogPos ∧
    (s.putPortA v).members = s.members ∧ (s.putPortA v).peerVia = s.peerVia ∧ (s.putPortA v).groups = s.groups ∧
    (s.putPortA v).peerBound = s.peerBound ∧ (s.putPortA v).returned = s.returned ∧
    (s.putPortA v).lostRanges = s.lostRanges ∧ (s.putPortA v).wmap = s.wmap ∧ (s.putPortA v).wfin = s.wfin ∧
    (s.putPortA v).wheld = s.wheld ∧ (s.putPortA v).preserve = s.preserve ∧ (s.putPortA v).kept = s.kept ∧
    (s.putPortA v).metaOpen = s.metaOpen ∧ (s.putPortA v).restartDue = s.restartDue ∧ (s.putPortA v).pings = s.pings ∧
    (s.putPortA v).chain = s.chain ∧ (s.putPortA v).position = s.position ∧ (s.putPortA v).power = s.power ∧
    (s.putPortA v).powerOp = s.powerOp ∧ (s.putPortA v).fsn = s.fsn ∧ (s.putPortA v).ns = s.ns ∧
    (s.putPortA v).volCap = s.volCap ∧ (s.putPortA v).rsv = s.rsv ∧ (s.putPortA v).tokCount = s.tokCount ∧
    (s.putPortA v).fullZones = s.fullZones ∧ (s.putPortA v).fam = s.fam ∧ (s.putPortA v).params = s.params ∧
    (s.putPortA v).alm = s.alm ∧ (s.putPortA v).domeEntry = s.domeEntry ∧ (s.putPortA v).domeWake = s.domeWake ∧
    (s.putPortA v).domeAgreed = s.domeAgreed ∧ (s.putPortA v).readAt = s.readAt ∧
    (s.putPortA v).sensorFail = s.sensorFail ∧ (s.putPortA v).tripCount = s.tripCount ∧ (s.putPortA v).rise = s.rise ∧
    (s.putPortA v).stopped = s.stopped ∧ (s.putPortA v).coolSince = s.coolSince ∧ (s.putPortA v).events = s.events ∧
    (s.putPortA v).dies = s.dies ∧ (s.putPortA v).chans = s.chans ∧ (s.putPortA v).accs = s.accs ∧
    (s.putPortA v).ldpc = s.ldpc ∧ (s.putPortA v).nand = s.nand ∧ (s.putPortA v).blkErased = s.blkErased ∧
    (s.putPortA v).vault = s.vault ∧ (s.putPortA v).sessions = s.sessions ∧
    (s.putPortA v).trngRestarts = s.trngRestarts ∧ (s.putPortA v).drbgLeft = s.drbgLeft ∧
    (s.putPortA v).imageId = s.imageId ∧ (s.putPortA v).verFuses = s.verFuses ∧ (s.putPortA v).nsInfo = s.nsInfo ∧
    (s.putPortA v).care = s.care ∧ (s.putPortA v).history = s.history ∧ (s.putPortA v).fw = s.fw ∧
    (s.putPortA v).trust = s.trust ∧ (s.putPortA v).fdp = s.fdp ∧ (s.putPortA v).lostGen = s.lostGen ∧
    (s.putPortA v).lostAgain = s.lostAgain ∧ (s.putPortA v).accum = s.accum ∧ (s.putPortA v).boundSent = s.boundSent ∧
    (s.putPortA v).zoneUsed = s.zoneUsed ∧ (s.putPortA v).clean = s.clean :=
  ⟨rfl, rfl, rfl, rfl, rfl, rfl, rfl, rfl, rfl, rfl, rfl, rfl, rfl, rfl, rfl, rfl, rfl, rfl, rfl, rfl, rfl, rfl, rfl,
  rfl, rfl, rfl, rfl, rfl, rfl, rfl, rfl, rfl, rfl, rfl, rfl, rfl, rfl, rfl, rfl, rfl, rfl, rfl, rfl, rfl, rfl, rfl,
  rfl, rfl, rfl, rfl, rfl, rfl, rfl, rfl, rfl, rfl, rfl, rfl, rfl, rfl, rfl, rfl, rfl, rfl, rfl, rfl, rfl, rfl, rfl,
  rfl, rfl, rfl, rfl, rfl, rfl, rfl, rfl, rfl, rfl, rfl, rfl, rfl, rfl, rfl, rfl, rfl, rfl, rfl, rfl, rfl, rfl, rfl,
  rfl, rfl, rfl, rfl, rfl, rfl, rfl, rfl, rfl, rfl, rfl, rfl, rfl, rfl, rfl, rfl, rfl, rfl, rfl, rfl, rfl, rfl, rfl,
  rfl, rfl, rfl, rfl, rfl, rfl, rfl, rfl, rfl⟩

@[simp] theorem State.putPortA_portA (s : State) (v : Option Nat) : (s.putPortA v).portA = v := rfl

@[simp] theorem State.putRestartDue_frame (s : State) (v : List Nat) :
    (s.putRestartDue v).pending = s.pending ∧ (s.putRestartDue v).free = s.free ∧ (s.putRestartDue v).out = s.out ∧
    (s.putRestartDue v).boot = s.boot ∧ (s.putRestartDue v).tick = s.tick ∧ (s.putRestartDue v).win = s.win ∧
    (s.putRestartDue v).gap = s.gap ∧ (s.putRestartDue v).regs = s.regs ∧ (s.putRestartDue v).regPend = s.regPend ∧
    (s.putRestartDue v).cores = s.cores ∧ (s.putRestartDue v).cluster = s.cluster ∧ (s.putRestartDue v).tun = s.tun ∧
    (s.putRestartDue v).tunBufs = s.tunBufs ∧ (s.putRestartDue v).tunMin = s.tunMin ∧
    (s.putRestartDue v).tunMinPend = s.tunMinPend ∧ (s.putRestartDue v).sramErr = s.sramErr ∧
    (s.putRestartDue v).heldBack = s.heldBack ∧ (s.putRestartDue v).rtHit = s.rtHit ∧
    (s.putRestartDue v).rtClock = s.rtClock ∧ (s.putRestartDue v).rtUntracked = s.rtUntracked ∧
    (s.putRestartDue v).dram = s.dram ∧ (s.putRestartDue v).dr = s.dr ∧ (s.putRestartDue v).poison = s.poison ∧
    (s.putRestartDue v).ingot = s.ingot ∧ (s.putRestartDue v).nor = s.nor ∧ (s.putRestartDue v).norUnk = s.norUnk ∧
    (s.putRestartDue v).pat = s.pat ∧ (s.putRestartDue v).tdly = s.tdly ∧ (s.putRestartDue v).scrub = s.scrub ∧
    (s.putRestartDue v).fbuf = s.fbuf ∧ (s.putRestartDue v).rings = s.rings ∧ (s.putRestartDue v).haz = s.haz ∧
    (s.putRestartDue v).marks = s.marks ∧ (s.putRestartDue v).wsnFloor = s.wsnFloor ∧
    (s.putRestartDue v).health = s.health ∧ (s.putRestartDue v).qPend = s.qPend ∧ (s.putRestartDue v).reqs = s.reqs ∧
    (s.putRestartDue v).aborts = s.aborts ∧ (s.putRestartDue v).gateShut = s.gateShut ∧ (s.putRestartDue v).sqs = s.sqs ∧
    (s.putRestartDue v).cqs = s.cqs ∧ (s.putRestartDue v).cmds = s.cmds ∧ (s.putRestartDue v).resets = s.resets ∧
    (s.putRestartDue v).ctrls = s.ctrls ∧ (s.putRestartDue v).arbs = s.arbs ∧ (s.putRestartDue v).credit = s.credit ∧
    (s.putRestartDue v).taken = s.taken ∧ (s.putRestartDue v).fetchLeft = s.fetchLeft ∧
    (s.putRestartDue v).rotLast = s.rotLast ∧ (s.putRestartDue v).rotFirst = s.rotFirst ∧
    (s.putRestartDue v).hazStall = s.hazStall ∧ (s.putRestartDue v).span = s.span ∧
    (s.putRestartDue v).spanOut = s.spanOut ∧ (s.putRestartDue v).spanIn = s.spanIn ∧
    (s.putRestartDue v).resOut = s.resOut ∧ (s.putRestartDue v).jobs = s.jobs ∧
    (s.putRestartDue v).finishing = s.finishing ∧ (s.putRestartDue v).greads = s.greads ∧
    (s.putRestartDue v).spanNum = s.spanNum ∧ (s.putRestartDue v).spanArr = s.spanArr ∧
    (s.putRestartDue v).dups = s.dups ∧ (s.putRestartDue v).dupGen = s.dupGen ∧ (s.putRestartDue v).rlogPos = s.rlogPos ∧
    (s.putRestartDue v).members = s.members ∧ (s.putRestartDue v).peerVia = s.peerVia ∧
    (s.putRestartDue v).groups = s.groups ∧ (s.putRestartDue v).peerBound = s.peerBound ∧
    (s.putRestartDue v).returned = s.returned ∧ (s.putRestartDue v).lostRanges = s.lostRanges ∧
    (s.putRestartDue v).wmap = s.wmap ∧ (s.putRestartDue v).wfin = s.wfin ∧ (s.putRestartDue v).wheld = s.wheld ∧
    (s.putRestartDue v).preserve = s.preserve ∧ (s.putRestartDue v).kept = s.kept ∧
    (s.putRestartDue v).metaOpen = s.metaOpen ∧ (s.putRestartDue v).portA = s.portA ∧
    (s.putRestartDue v).pings = s.pings ∧ (s.putRestartDue v).chain = s.chain ∧
    (s.putRestartDue v).position = s.position ∧ (s.putRestartDue v).power = s.power ∧
    (s.putRestartDue v).powerOp = s.powerOp ∧ (s.putRestartDue v).fsn = s.fsn ∧ (s.putRestartDue v).ns = s.ns ∧
    (s.putRestartDue v).volCap = s.volCap ∧ (s.putRestartDue v).rsv = s.rsv ∧ (s.putRestartDue v).tokCount = s.tokCount ∧
    (s.putRestartDue v).fullZones = s.fullZones ∧ (s.putRestartDue v).fam = s.fam ∧
    (s.putRestartDue v).params = s.params ∧ (s.putRestartDue v).alm = s.alm ∧
    (s.putRestartDue v).domeEntry = s.domeEntry ∧ (s.putRestartDue v).domeWake = s.domeWake ∧
    (s.putRestartDue v).domeAgreed = s.domeAgreed ∧ (s.putRestartDue v).readAt = s.readAt ∧
    (s.putRestartDue v).sensorFail = s.sensorFail ∧ (s.putRestartDue v).tripCount = s.tripCount ∧
    (s.putRestartDue v).rise = s.rise ∧ (s.putRestartDue v).stopped = s.stopped ∧
    (s.putRestartDue v).coolSince = s.coolSince ∧ (s.putRestartDue v).events = s.events ∧
    (s.putRestartDue v).dies = s.dies ∧ (s.putRestartDue v).chans = s.chans ∧ (s.putRestartDue v).accs = s.accs ∧
    (s.putRestartDue v).ldpc = s.ldpc ∧ (s.putRestartDue v).nand = s.nand ∧ (s.putRestartDue v).blkErased = s.blkErased ∧
    (s.putRestartDue v).vault = s.vault ∧ (s.putRestartDue v).sessions = s.sessions ∧
    (s.putRestartDue v).trngRestarts = s.trngRestarts ∧ (s.putRestartDue v).drbgLeft = s.drbgLeft ∧
    (s.putRestartDue v).imageId = s.imageId ∧ (s.putRestartDue v).verFuses = s.verFuses ∧
    (s.putRestartDue v).nsInfo = s.nsInfo ∧ (s.putRestartDue v).care = s.care ∧ (s.putRestartDue v).history = s.history ∧
    (s.putRestartDue v).fw = s.fw ∧ (s.putRestartDue v).trust = s.trust ∧ (s.putRestartDue v).fdp = s.fdp ∧
    (s.putRestartDue v).lostGen = s.lostGen ∧ (s.putRestartDue v).lostAgain = s.lostAgain ∧
    (s.putRestartDue v).accum = s.accum ∧ (s.putRestartDue v).boundSent = s.boundSent ∧
    (s.putRestartDue v).zoneUsed = s.zoneUsed ∧ (s.putRestartDue v).clean = s.clean :=
  ⟨rfl, rfl, rfl, rfl, rfl, rfl, rfl, rfl, rfl, rfl, rfl, rfl, rfl, rfl, rfl, rfl, rfl, rfl, rfl, rfl, rfl, rfl, rfl,
  rfl, rfl, rfl, rfl, rfl, rfl, rfl, rfl, rfl, rfl, rfl, rfl, rfl, rfl, rfl, rfl, rfl, rfl, rfl, rfl, rfl, rfl, rfl,
  rfl, rfl, rfl, rfl, rfl, rfl, rfl, rfl, rfl, rfl, rfl, rfl, rfl, rfl, rfl, rfl, rfl, rfl, rfl, rfl, rfl, rfl, rfl,
  rfl, rfl, rfl, rfl, rfl, rfl, rfl, rfl, rfl, rfl, rfl, rfl, rfl, rfl, rfl, rfl, rfl, rfl, rfl, rfl, rfl, rfl, rfl,
  rfl, rfl, rfl, rfl, rfl, rfl, rfl, rfl, rfl, rfl, rfl, rfl, rfl, rfl, rfl, rfl, rfl, rfl, rfl, rfl, rfl, rfl, rfl,
  rfl, rfl, rfl, rfl, rfl, rfl, rfl, rfl, rfl⟩

@[simp] theorem State.putRestartDue_restartDue (s : State) (v : List Nat) : (s.putRestartDue v).restartDue = v := rfl

@[simp] theorem State.putPings_frame (s : State) (v : List (Nat × W64)) :
    (s.putPings v).pending = s.pending ∧ (s.putPings v).free = s.free ∧ (s.putPings v).out = s.out ∧
    (s.putPings v).boot = s.boot ∧ (s.putPings v).tick = s.tick ∧ (s.putPings v).win = s.win ∧
    (s.putPings v).gap = s.gap ∧ (s.putPings v).regs = s.regs ∧ (s.putPings v).regPend = s.regPend ∧
    (s.putPings v).cores = s.cores ∧ (s.putPings v).cluster = s.cluster ∧ (s.putPings v).tun = s.tun ∧
    (s.putPings v).tunBufs = s.tunBufs ∧ (s.putPings v).tunMin = s.tunMin ∧ (s.putPings v).tunMinPend = s.tunMinPend ∧
    (s.putPings v).sramErr = s.sramErr ∧ (s.putPings v).heldBack = s.heldBack ∧ (s.putPings v).rtHit = s.rtHit ∧
    (s.putPings v).rtClock = s.rtClock ∧ (s.putPings v).rtUntracked = s.rtUntracked ∧ (s.putPings v).dram = s.dram ∧
    (s.putPings v).dr = s.dr ∧ (s.putPings v).poison = s.poison ∧ (s.putPings v).ingot = s.ingot ∧
    (s.putPings v).nor = s.nor ∧ (s.putPings v).norUnk = s.norUnk ∧ (s.putPings v).pat = s.pat ∧
    (s.putPings v).tdly = s.tdly ∧ (s.putPings v).scrub = s.scrub ∧ (s.putPings v).fbuf = s.fbuf ∧
    (s.putPings v).rings = s.rings ∧ (s.putPings v).haz = s.haz ∧ (s.putPings v).marks = s.marks ∧
    (s.putPings v).wsnFloor = s.wsnFloor ∧ (s.putPings v).health = s.health ∧ (s.putPings v).qPend = s.qPend ∧
    (s.putPings v).reqs = s.reqs ∧ (s.putPings v).aborts = s.aborts ∧ (s.putPings v).gateShut = s.gateShut ∧
    (s.putPings v).sqs = s.sqs ∧ (s.putPings v).cqs = s.cqs ∧ (s.putPings v).cmds = s.cmds ∧
    (s.putPings v).resets = s.resets ∧ (s.putPings v).ctrls = s.ctrls ∧ (s.putPings v).arbs = s.arbs ∧
    (s.putPings v).credit = s.credit ∧ (s.putPings v).taken = s.taken ∧ (s.putPings v).fetchLeft = s.fetchLeft ∧
    (s.putPings v).rotLast = s.rotLast ∧ (s.putPings v).rotFirst = s.rotFirst ∧ (s.putPings v).hazStall = s.hazStall ∧
    (s.putPings v).span = s.span ∧ (s.putPings v).spanOut = s.spanOut ∧ (s.putPings v).spanIn = s.spanIn ∧
    (s.putPings v).resOut = s.resOut ∧ (s.putPings v).jobs = s.jobs ∧ (s.putPings v).finishing = s.finishing ∧
    (s.putPings v).greads = s.greads ∧ (s.putPings v).spanNum = s.spanNum ∧ (s.putPings v).spanArr = s.spanArr ∧
    (s.putPings v).dups = s.dups ∧ (s.putPings v).dupGen = s.dupGen ∧ (s.putPings v).rlogPos = s.rlogPos ∧
    (s.putPings v).members = s.members ∧ (s.putPings v).peerVia = s.peerVia ∧ (s.putPings v).groups = s.groups ∧
    (s.putPings v).peerBound = s.peerBound ∧ (s.putPings v).returned = s.returned ∧
    (s.putPings v).lostRanges = s.lostRanges ∧ (s.putPings v).wmap = s.wmap ∧ (s.putPings v).wfin = s.wfin ∧
    (s.putPings v).wheld = s.wheld ∧ (s.putPings v).preserve = s.preserve ∧ (s.putPings v).kept = s.kept ∧
    (s.putPings v).metaOpen = s.metaOpen ∧ (s.putPings v).portA = s.portA ∧ (s.putPings v).restartDue = s.restartDue ∧
    (s.putPings v).chain = s.chain ∧ (s.putPings v).position = s.position ∧ (s.putPings v).power = s.power ∧
    (s.putPings v).powerOp = s.powerOp ∧ (s.putPings v).fsn = s.fsn ∧ (s.putPings v).ns = s.ns ∧
    (s.putPings v).volCap = s.volCap ∧ (s.putPings v).rsv = s.rsv ∧ (s.putPings v).tokCount = s.tokCount ∧
    (s.putPings v).fullZones = s.fullZones ∧ (s.putPings v).fam = s.fam ∧ (s.putPings v).params = s.params ∧
    (s.putPings v).alm = s.alm ∧ (s.putPings v).domeEntry = s.domeEntry ∧ (s.putPings v).domeWake = s.domeWake ∧
    (s.putPings v).domeAgreed = s.domeAgreed ∧ (s.putPings v).readAt = s.readAt ∧
    (s.putPings v).sensorFail = s.sensorFail ∧ (s.putPings v).tripCount = s.tripCount ∧ (s.putPings v).rise = s.rise ∧
    (s.putPings v).stopped = s.stopped ∧ (s.putPings v).coolSince = s.coolSince ∧ (s.putPings v).events = s.events ∧
    (s.putPings v).dies = s.dies ∧ (s.putPings v).chans = s.chans ∧ (s.putPings v).accs = s.accs ∧
    (s.putPings v).ldpc = s.ldpc ∧ (s.putPings v).nand = s.nand ∧ (s.putPings v).blkErased = s.blkErased ∧
    (s.putPings v).vault = s.vault ∧ (s.putPings v).sessions = s.sessions ∧
    (s.putPings v).trngRestarts = s.trngRestarts ∧ (s.putPings v).drbgLeft = s.drbgLeft ∧
    (s.putPings v).imageId = s.imageId ∧ (s.putPings v).verFuses = s.verFuses ∧ (s.putPings v).nsInfo = s.nsInfo ∧
    (s.putPings v).care = s.care ∧ (s.putPings v).history = s.history ∧ (s.putPings v).fw = s.fw ∧
    (s.putPings v).trust = s.trust ∧ (s.putPings v).fdp = s.fdp ∧ (s.putPings v).lostGen = s.lostGen ∧
    (s.putPings v).lostAgain = s.lostAgain ∧ (s.putPings v).accum = s.accum ∧ (s.putPings v).boundSent = s.boundSent ∧
    (s.putPings v).zoneUsed = s.zoneUsed ∧ (s.putPings v).clean = s.clean :=
  ⟨rfl, rfl, rfl, rfl, rfl, rfl, rfl, rfl, rfl, rfl, rfl, rfl, rfl, rfl, rfl, rfl, rfl, rfl, rfl, rfl, rfl, rfl, rfl,
  rfl, rfl, rfl, rfl, rfl, rfl, rfl, rfl, rfl, rfl, rfl, rfl, rfl, rfl, rfl, rfl, rfl, rfl, rfl, rfl, rfl, rfl, rfl,
  rfl, rfl, rfl, rfl, rfl, rfl, rfl, rfl, rfl, rfl, rfl, rfl, rfl, rfl, rfl, rfl, rfl, rfl, rfl, rfl, rfl, rfl, rfl,
  rfl, rfl, rfl, rfl, rfl, rfl, rfl, rfl, rfl, rfl, rfl, rfl, rfl, rfl, rfl, rfl, rfl, rfl, rfl, rfl, rfl, rfl, rfl,
  rfl, rfl, rfl, rfl, rfl, rfl, rfl, rfl, rfl, rfl, rfl, rfl, rfl, rfl, rfl, rfl, rfl, rfl, rfl, rfl, rfl, rfl, rfl,
  rfl, rfl, rfl, rfl, rfl, rfl, rfl, rfl, rfl⟩

@[simp] theorem State.putPings_pings (s : State) (v : List (Nat × W64)) : (s.putPings v).pings = v := rfl

@[simp] theorem State.putChain_frame (s : State) (v : Nat) :
    (s.putChain v).pending = s.pending ∧ (s.putChain v).free = s.free ∧ (s.putChain v).out = s.out ∧
    (s.putChain v).boot = s.boot ∧ (s.putChain v).tick = s.tick ∧ (s.putChain v).win = s.win ∧
    (s.putChain v).gap = s.gap ∧ (s.putChain v).regs = s.regs ∧ (s.putChain v).regPend = s.regPend ∧
    (s.putChain v).cores = s.cores ∧ (s.putChain v).cluster = s.cluster ∧ (s.putChain v).tun = s.tun ∧
    (s.putChain v).tunBufs = s.tunBufs ∧ (s.putChain v).tunMin = s.tunMin ∧ (s.putChain v).tunMinPend = s.tunMinPend ∧
    (s.putChain v).sramErr = s.sramErr ∧ (s.putChain v).heldBack = s.heldBack ∧ (s.putChain v).rtHit = s.rtHit ∧
    (s.putChain v).rtClock = s.rtClock ∧ (s.putChain v).rtUntracked = s.rtUntracked ∧ (s.putChain v).dram = s.dram ∧
    (s.putChain v).dr = s.dr ∧ (s.putChain v).poison = s.poison ∧ (s.putChain v).ingot = s.ingot ∧
    (s.putChain v).nor = s.nor ∧ (s.putChain v).norUnk = s.norUnk ∧ (s.putChain v).pat = s.pat ∧
    (s.putChain v).tdly = s.tdly ∧ (s.putChain v).scrub = s.scrub ∧ (s.putChain v).fbuf = s.fbuf ∧
    (s.putChain v).rings = s.rings ∧ (s.putChain v).haz = s.haz ∧ (s.putChain v).marks = s.marks ∧
    (s.putChain v).wsnFloor = s.wsnFloor ∧ (s.putChain v).health = s.health ∧ (s.putChain v).qPend = s.qPend ∧
    (s.putChain v).reqs = s.reqs ∧ (s.putChain v).aborts = s.aborts ∧ (s.putChain v).gateShut = s.gateShut ∧
    (s.putChain v).sqs = s.sqs ∧ (s.putChain v).cqs = s.cqs ∧ (s.putChain v).cmds = s.cmds ∧
    (s.putChain v).resets = s.resets ∧ (s.putChain v).ctrls = s.ctrls ∧ (s.putChain v).arbs = s.arbs ∧
    (s.putChain v).credit = s.credit ∧ (s.putChain v).taken = s.taken ∧ (s.putChain v).fetchLeft = s.fetchLeft ∧
    (s.putChain v).rotLast = s.rotLast ∧ (s.putChain v).rotFirst = s.rotFirst ∧ (s.putChain v).hazStall = s.hazStall ∧
    (s.putChain v).span = s.span ∧ (s.putChain v).spanOut = s.spanOut ∧ (s.putChain v).spanIn = s.spanIn ∧
    (s.putChain v).resOut = s.resOut ∧ (s.putChain v).jobs = s.jobs ∧ (s.putChain v).finishing = s.finishing ∧
    (s.putChain v).greads = s.greads ∧ (s.putChain v).spanNum = s.spanNum ∧ (s.putChain v).spanArr = s.spanArr ∧
    (s.putChain v).dups = s.dups ∧ (s.putChain v).dupGen = s.dupGen ∧ (s.putChain v).rlogPos = s.rlogPos ∧
    (s.putChain v).members = s.members ∧ (s.putChain v).peerVia = s.peerVia ∧ (s.putChain v).groups = s.groups ∧
    (s.putChain v).peerBound = s.peerBound ∧ (s.putChain v).returned = s.returned ∧
    (s.putChain v).lostRanges = s.lostRanges ∧ (s.putChain v).wmap = s.wmap ∧ (s.putChain v).wfin = s.wfin ∧
    (s.putChain v).wheld = s.wheld ∧ (s.putChain v).preserve = s.preserve ∧ (s.putChain v).kept = s.kept ∧
    (s.putChain v).metaOpen = s.metaOpen ∧ (s.putChain v).portA = s.portA ∧ (s.putChain v).restartDue = s.restartDue ∧
    (s.putChain v).pings = s.pings ∧ (s.putChain v).position = s.position ∧ (s.putChain v).power = s.power ∧
    (s.putChain v).powerOp = s.powerOp ∧ (s.putChain v).fsn = s.fsn ∧ (s.putChain v).ns = s.ns ∧
    (s.putChain v).volCap = s.volCap ∧ (s.putChain v).rsv = s.rsv ∧ (s.putChain v).tokCount = s.tokCount ∧
    (s.putChain v).fullZones = s.fullZones ∧ (s.putChain v).fam = s.fam ∧ (s.putChain v).params = s.params ∧
    (s.putChain v).alm = s.alm ∧ (s.putChain v).domeEntry = s.domeEntry ∧ (s.putChain v).domeWake = s.domeWake ∧
    (s.putChain v).domeAgreed = s.domeAgreed ∧ (s.putChain v).readAt = s.readAt ∧
    (s.putChain v).sensorFail = s.sensorFail ∧ (s.putChain v).tripCount = s.tripCount ∧ (s.putChain v).rise = s.rise ∧
    (s.putChain v).stopped = s.stopped ∧ (s.putChain v).coolSince = s.coolSince ∧ (s.putChain v).events = s.events ∧
    (s.putChain v).dies = s.dies ∧ (s.putChain v).chans = s.chans ∧ (s.putChain v).accs = s.accs ∧
    (s.putChain v).ldpc = s.ldpc ∧ (s.putChain v).nand = s.nand ∧ (s.putChain v).blkErased = s.blkErased ∧
    (s.putChain v).vault = s.vault ∧ (s.putChain v).sessions = s.sessions ∧
    (s.putChain v).trngRestarts = s.trngRestarts ∧ (s.putChain v).drbgLeft = s.drbgLeft ∧
    (s.putChain v).imageId = s.imageId ∧ (s.putChain v).verFuses = s.verFuses ∧ (s.putChain v).nsInfo = s.nsInfo ∧
    (s.putChain v).care = s.care ∧ (s.putChain v).history = s.history ∧ (s.putChain v).fw = s.fw ∧
    (s.putChain v).trust = s.trust ∧ (s.putChain v).fdp = s.fdp ∧ (s.putChain v).lostGen = s.lostGen ∧
    (s.putChain v).lostAgain = s.lostAgain ∧ (s.putChain v).accum = s.accum ∧ (s.putChain v).boundSent = s.boundSent ∧
    (s.putChain v).zoneUsed = s.zoneUsed ∧ (s.putChain v).clean = s.clean :=
  ⟨rfl, rfl, rfl, rfl, rfl, rfl, rfl, rfl, rfl, rfl, rfl, rfl, rfl, rfl, rfl, rfl, rfl, rfl, rfl, rfl, rfl, rfl, rfl,
  rfl, rfl, rfl, rfl, rfl, rfl, rfl, rfl, rfl, rfl, rfl, rfl, rfl, rfl, rfl, rfl, rfl, rfl, rfl, rfl, rfl, rfl, rfl,
  rfl, rfl, rfl, rfl, rfl, rfl, rfl, rfl, rfl, rfl, rfl, rfl, rfl, rfl, rfl, rfl, rfl, rfl, rfl, rfl, rfl, rfl, rfl,
  rfl, rfl, rfl, rfl, rfl, rfl, rfl, rfl, rfl, rfl, rfl, rfl, rfl, rfl, rfl, rfl, rfl, rfl, rfl, rfl, rfl, rfl, rfl,
  rfl, rfl, rfl, rfl, rfl, rfl, rfl, rfl, rfl, rfl, rfl, rfl, rfl, rfl, rfl, rfl, rfl, rfl, rfl, rfl, rfl, rfl, rfl,
  rfl, rfl, rfl, rfl, rfl, rfl, rfl, rfl, rfl⟩

@[simp] theorem State.putChain_chain (s : State) (v : Nat) : (s.putChain v).chain = v := rfl

@[simp] theorem State.putPosition_frame (s : State) (v : Nat) :
    (s.putPosition v).pending = s.pending ∧ (s.putPosition v).free = s.free ∧ (s.putPosition v).out = s.out ∧
    (s.putPosition v).boot = s.boot ∧ (s.putPosition v).tick = s.tick ∧ (s.putPosition v).win = s.win ∧
    (s.putPosition v).gap = s.gap ∧ (s.putPosition v).regs = s.regs ∧ (s.putPosition v).regPend = s.regPend ∧
    (s.putPosition v).cores = s.cores ∧ (s.putPosition v).cluster = s.cluster ∧ (s.putPosition v).tun = s.tun ∧
    (s.putPosition v).tunBufs = s.tunBufs ∧ (s.putPosition v).tunMin = s.tunMin ∧
    (s.putPosition v).tunMinPend = s.tunMinPend ∧ (s.putPosition v).sramErr = s.sramErr ∧
    (s.putPosition v).heldBack = s.heldBack ∧ (s.putPosition v).rtHit = s.rtHit ∧ (s.putPosition v).rtClock = s.rtClock ∧
    (s.putPosition v).rtUntracked = s.rtUntracked ∧ (s.putPosition v).dram = s.dram ∧ (s.putPosition v).dr = s.dr ∧
    (s.putPosition v).poison = s.poison ∧ (s.putPosition v).ingot = s.ingot ∧ (s.putPosition v).nor = s.nor ∧
    (s.putPosition v).norUnk = s.norUnk ∧ (s.putPosition v).pat = s.pat ∧ (s.putPosition v).tdly = s.tdly ∧
    (s.putPosition v).scrub = s.scrub ∧ (s.putPosition v).fbuf = s.fbuf ∧ (s.putPosition v).rings = s.rings ∧
    (s.putPosition v).haz = s.haz ∧ (s.putPosition v).marks = s.marks ∧ (s.putPosition v).wsnFloor = s.wsnFloor ∧
    (s.putPosition v).health = s.health ∧ (s.putPosition v).qPend = s.qPend ∧ (s.putPosition v).reqs = s.reqs ∧
    (s.putPosition v).aborts = s.aborts ∧ (s.putPosition v).gateShut = s.gateShut ∧ (s.putPosition v).sqs = s.sqs ∧
    (s.putPosition v).cqs = s.cqs ∧ (s.putPosition v).cmds = s.cmds ∧ (s.putPosition v).resets = s.resets ∧
    (s.putPosition v).ctrls = s.ctrls ∧ (s.putPosition v).arbs = s.arbs ∧ (s.putPosition v).credit = s.credit ∧
    (s.putPosition v).taken = s.taken ∧ (s.putPosition v).fetchLeft = s.fetchLeft ∧
    (s.putPosition v).rotLast = s.rotLast ∧ (s.putPosition v).rotFirst = s.rotFirst ∧
    (s.putPosition v).hazStall = s.hazStall ∧ (s.putPosition v).span = s.span ∧ (s.putPosition v).spanOut = s.spanOut ∧
    (s.putPosition v).spanIn = s.spanIn ∧ (s.putPosition v).resOut = s.resOut ∧ (s.putPosition v).jobs = s.jobs ∧
    (s.putPosition v).finishing = s.finishing ∧ (s.putPosition v).greads = s.greads ∧
    (s.putPosition v).spanNum = s.spanNum ∧ (s.putPosition v).spanArr = s.spanArr ∧ (s.putPosition v).dups = s.dups ∧
    (s.putPosition v).dupGen = s.dupGen ∧ (s.putPosition v).rlogPos = s.rlogPos ∧ (s.putPosition v).members = s.members ∧
    (s.putPosition v).peerVia = s.peerVia ∧ (s.putPosition v).groups = s.groups ∧
    (s.putPosition v).peerBound = s.peerBound ∧ (s.putPosition v).returned = s.returned ∧
    (s.putPosition v).lostRanges = s.lostRanges ∧ (s.putPosition v).wmap = s.wmap ∧ (s.putPosition v).wfin = s.wfin ∧
    (s.putPosition v).wheld = s.wheld ∧ (s.putPosition v).preserve = s.preserve ∧ (s.putPosition v).kept = s.kept ∧
    (s.putPosition v).metaOpen = s.metaOpen ∧ (s.putPosition v).portA = s.portA ∧
    (s.putPosition v).restartDue = s.restartDue ∧ (s.putPosition v).pings = s.pings ∧ (s.putPosition v).chain = s.chain ∧
    (s.putPosition v).power = s.power ∧ (s.putPosition v).powerOp = s.powerOp ∧ (s.putPosition v).fsn = s.fsn ∧
    (s.putPosition v).ns = s.ns ∧ (s.putPosition v).volCap = s.volCap ∧ (s.putPosition v).rsv = s.rsv ∧
    (s.putPosition v).tokCount = s.tokCount ∧ (s.putPosition v).fullZones = s.fullZones ∧ (s.putPosition v).fam = s.fam ∧
    (s.putPosition v).params = s.params ∧ (s.putPosition v).alm = s.alm ∧ (s.putPosition v).domeEntry = s.domeEntry ∧
    (s.putPosition v).domeWake = s.domeWake ∧ (s.putPosition v).domeAgreed = s.domeAgreed ∧
    (s.putPosition v).readAt = s.readAt ∧ (s.putPosition v).sensorFail = s.sensorFail ∧
    (s.putPosition v).tripCount = s.tripCount ∧ (s.putPosition v).rise = s.rise ∧ (s.putPosition v).stopped = s.stopped ∧
    (s.putPosition v).coolSince = s.coolSince ∧ (s.putPosition v).events = s.events ∧ (s.putPosition v).dies = s.dies ∧
    (s.putPosition v).chans = s.chans ∧ (s.putPosition v).accs = s.accs ∧ (s.putPosition v).ldpc = s.ldpc ∧
    (s.putPosition v).nand = s.nand ∧ (s.putPosition v).blkErased = s.blkErased ∧ (s.putPosition v).vault = s.vault ∧
    (s.putPosition v).sessions = s.sessions ∧ (s.putPosition v).trngRestarts = s.trngRestarts ∧
    (s.putPosition v).drbgLeft = s.drbgLeft ∧ (s.putPosition v).imageId = s.imageId ∧
    (s.putPosition v).verFuses = s.verFuses ∧ (s.putPosition v).nsInfo = s.nsInfo ∧ (s.putPosition v).care = s.care ∧
    (s.putPosition v).history = s.history ∧ (s.putPosition v).fw = s.fw ∧ (s.putPosition v).trust = s.trust ∧
    (s.putPosition v).fdp = s.fdp ∧ (s.putPosition v).lostGen = s.lostGen ∧ (s.putPosition v).lostAgain = s.lostAgain ∧
    (s.putPosition v).accum = s.accum ∧ (s.putPosition v).boundSent = s.boundSent ∧
    (s.putPosition v).zoneUsed = s.zoneUsed ∧ (s.putPosition v).clean = s.clean :=
  ⟨rfl, rfl, rfl, rfl, rfl, rfl, rfl, rfl, rfl, rfl, rfl, rfl, rfl, rfl, rfl, rfl, rfl, rfl, rfl, rfl, rfl, rfl, rfl,
  rfl, rfl, rfl, rfl, rfl, rfl, rfl, rfl, rfl, rfl, rfl, rfl, rfl, rfl, rfl, rfl, rfl, rfl, rfl, rfl, rfl, rfl, rfl,
  rfl, rfl, rfl, rfl, rfl, rfl, rfl, rfl, rfl, rfl, rfl, rfl, rfl, rfl, rfl, rfl, rfl, rfl, rfl, rfl, rfl, rfl, rfl,
  rfl, rfl, rfl, rfl, rfl, rfl, rfl, rfl, rfl, rfl, rfl, rfl, rfl, rfl, rfl, rfl, rfl, rfl, rfl, rfl, rfl, rfl, rfl,
  rfl, rfl, rfl, rfl, rfl, rfl, rfl, rfl, rfl, rfl, rfl, rfl, rfl, rfl, rfl, rfl, rfl, rfl, rfl, rfl, rfl, rfl, rfl,
  rfl, rfl, rfl, rfl, rfl, rfl, rfl, rfl, rfl⟩

@[simp] theorem State.putPosition_position (s : State) (v : Nat) : (s.putPosition v).position = v := rfl

@[simp] theorem State.putPower_frame (s : State) (v : Nat) :
    (s.putPower v).pending = s.pending ∧ (s.putPower v).free = s.free ∧ (s.putPower v).out = s.out ∧
    (s.putPower v).boot = s.boot ∧ (s.putPower v).tick = s.tick ∧ (s.putPower v).win = s.win ∧
    (s.putPower v).gap = s.gap ∧ (s.putPower v).regs = s.regs ∧ (s.putPower v).regPend = s.regPend ∧
    (s.putPower v).cores = s.cores ∧ (s.putPower v).cluster = s.cluster ∧ (s.putPower v).tun = s.tun ∧
    (s.putPower v).tunBufs = s.tunBufs ∧ (s.putPower v).tunMin = s.tunMin ∧ (s.putPower v).tunMinPend = s.tunMinPend ∧
    (s.putPower v).sramErr = s.sramErr ∧ (s.putPower v).heldBack = s.heldBack ∧ (s.putPower v).rtHit = s.rtHit ∧
    (s.putPower v).rtClock = s.rtClock ∧ (s.putPower v).rtUntracked = s.rtUntracked ∧ (s.putPower v).dram = s.dram ∧
    (s.putPower v).dr = s.dr ∧ (s.putPower v).poison = s.poison ∧ (s.putPower v).ingot = s.ingot ∧
    (s.putPower v).nor = s.nor ∧ (s.putPower v).norUnk = s.norUnk ∧ (s.putPower v).pat = s.pat ∧
    (s.putPower v).tdly = s.tdly ∧ (s.putPower v).scrub = s.scrub ∧ (s.putPower v).fbuf = s.fbuf ∧
    (s.putPower v).rings = s.rings ∧ (s.putPower v).haz = s.haz ∧ (s.putPower v).marks = s.marks ∧
    (s.putPower v).wsnFloor = s.wsnFloor ∧ (s.putPower v).health = s.health ∧ (s.putPower v).qPend = s.qPend ∧
    (s.putPower v).reqs = s.reqs ∧ (s.putPower v).aborts = s.aborts ∧ (s.putPower v).gateShut = s.gateShut ∧
    (s.putPower v).sqs = s.sqs ∧ (s.putPower v).cqs = s.cqs ∧ (s.putPower v).cmds = s.cmds ∧
    (s.putPower v).resets = s.resets ∧ (s.putPower v).ctrls = s.ctrls ∧ (s.putPower v).arbs = s.arbs ∧
    (s.putPower v).credit = s.credit ∧ (s.putPower v).taken = s.taken ∧ (s.putPower v).fetchLeft = s.fetchLeft ∧
    (s.putPower v).rotLast = s.rotLast ∧ (s.putPower v).rotFirst = s.rotFirst ∧ (s.putPower v).hazStall = s.hazStall ∧
    (s.putPower v).span = s.span ∧ (s.putPower v).spanOut = s.spanOut ∧ (s.putPower v).spanIn = s.spanIn ∧
    (s.putPower v).resOut = s.resOut ∧ (s.putPower v).jobs = s.jobs ∧ (s.putPower v).finishing = s.finishing ∧
    (s.putPower v).greads = s.greads ∧ (s.putPower v).spanNum = s.spanNum ∧ (s.putPower v).spanArr = s.spanArr ∧
    (s.putPower v).dups = s.dups ∧ (s.putPower v).dupGen = s.dupGen ∧ (s.putPower v).rlogPos = s.rlogPos ∧
    (s.putPower v).members = s.members ∧ (s.putPower v).peerVia = s.peerVia ∧ (s.putPower v).groups = s.groups ∧
    (s.putPower v).peerBound = s.peerBound ∧ (s.putPower v).returned = s.returned ∧
    (s.putPower v).lostRanges = s.lostRanges ∧ (s.putPower v).wmap = s.wmap ∧ (s.putPower v).wfin = s.wfin ∧
    (s.putPower v).wheld = s.wheld ∧ (s.putPower v).preserve = s.preserve ∧ (s.putPower v).kept = s.kept ∧
    (s.putPower v).metaOpen = s.metaOpen ∧ (s.putPower v).portA = s.portA ∧ (s.putPower v).restartDue = s.restartDue ∧
    (s.putPower v).pings = s.pings ∧ (s.putPower v).chain = s.chain ∧ (s.putPower v).position = s.position ∧
    (s.putPower v).powerOp = s.powerOp ∧ (s.putPower v).fsn = s.fsn ∧ (s.putPower v).ns = s.ns ∧
    (s.putPower v).volCap = s.volCap ∧ (s.putPower v).rsv = s.rsv ∧ (s.putPower v).tokCount = s.tokCount ∧
    (s.putPower v).fullZones = s.fullZones ∧ (s.putPower v).fam = s.fam ∧ (s.putPower v).params = s.params ∧
    (s.putPower v).alm = s.alm ∧ (s.putPower v).domeEntry = s.domeEntry ∧ (s.putPower v).domeWake = s.domeWake ∧
    (s.putPower v).domeAgreed = s.domeAgreed ∧ (s.putPower v).readAt = s.readAt ∧
    (s.putPower v).sensorFail = s.sensorFail ∧ (s.putPower v).tripCount = s.tripCount ∧ (s.putPower v).rise = s.rise ∧
    (s.putPower v).stopped = s.stopped ∧ (s.putPower v).coolSince = s.coolSince ∧ (s.putPower v).events = s.events ∧
    (s.putPower v).dies = s.dies ∧ (s.putPower v).chans = s.chans ∧ (s.putPower v).accs = s.accs ∧
    (s.putPower v).ldpc = s.ldpc ∧ (s.putPower v).nand = s.nand ∧ (s.putPower v).blkErased = s.blkErased ∧
    (s.putPower v).vault = s.vault ∧ (s.putPower v).sessions = s.sessions ∧
    (s.putPower v).trngRestarts = s.trngRestarts ∧ (s.putPower v).drbgLeft = s.drbgLeft ∧
    (s.putPower v).imageId = s.imageId ∧ (s.putPower v).verFuses = s.verFuses ∧ (s.putPower v).nsInfo = s.nsInfo ∧
    (s.putPower v).care = s.care ∧ (s.putPower v).history = s.history ∧ (s.putPower v).fw = s.fw ∧
    (s.putPower v).trust = s.trust ∧ (s.putPower v).fdp = s.fdp ∧ (s.putPower v).lostGen = s.lostGen ∧
    (s.putPower v).lostAgain = s.lostAgain ∧ (s.putPower v).accum = s.accum ∧ (s.putPower v).boundSent = s.boundSent ∧
    (s.putPower v).zoneUsed = s.zoneUsed ∧ (s.putPower v).clean = s.clean :=
  ⟨rfl, rfl, rfl, rfl, rfl, rfl, rfl, rfl, rfl, rfl, rfl, rfl, rfl, rfl, rfl, rfl, rfl, rfl, rfl, rfl, rfl, rfl, rfl,
  rfl, rfl, rfl, rfl, rfl, rfl, rfl, rfl, rfl, rfl, rfl, rfl, rfl, rfl, rfl, rfl, rfl, rfl, rfl, rfl, rfl, rfl, rfl,
  rfl, rfl, rfl, rfl, rfl, rfl, rfl, rfl, rfl, rfl, rfl, rfl, rfl, rfl, rfl, rfl, rfl, rfl, rfl, rfl, rfl, rfl, rfl,
  rfl, rfl, rfl, rfl, rfl, rfl, rfl, rfl, rfl, rfl, rfl, rfl, rfl, rfl, rfl, rfl, rfl, rfl, rfl, rfl, rfl, rfl, rfl,
  rfl, rfl, rfl, rfl, rfl, rfl, rfl, rfl, rfl, rfl, rfl, rfl, rfl, rfl, rfl, rfl, rfl, rfl, rfl, rfl, rfl, rfl, rfl,
  rfl, rfl, rfl, rfl, rfl, rfl, rfl, rfl, rfl⟩

@[simp] theorem State.putPower_power (s : State) (v : Nat) : (s.putPower v).power = v := rfl

@[simp] theorem State.putPowerOp_frame (s : State) (v : Nat) :
    (s.putPowerOp v).pending = s.pending ∧ (s.putPowerOp v).free = s.free ∧ (s.putPowerOp v).out = s.out ∧
    (s.putPowerOp v).boot = s.boot ∧ (s.putPowerOp v).tick = s.tick ∧ (s.putPowerOp v).win = s.win ∧
    (s.putPowerOp v).gap = s.gap ∧ (s.putPowerOp v).regs = s.regs ∧ (s.putPowerOp v).regPend = s.regPend ∧
    (s.putPowerOp v).cores = s.cores ∧ (s.putPowerOp v).cluster = s.cluster ∧ (s.putPowerOp v).tun = s.tun ∧
    (s.putPowerOp v).tunBufs = s.tunBufs ∧ (s.putPowerOp v).tunMin = s.tunMin ∧
    (s.putPowerOp v).tunMinPend = s.tunMinPend ∧ (s.putPowerOp v).sramErr = s.sramErr ∧
    (s.putPowerOp v).heldBack = s.heldBack ∧ (s.putPowerOp v).rtHit = s.rtHit ∧ (s.putPowerOp v).rtClock = s.rtClock ∧
    (s.putPowerOp v).rtUntracked = s.rtUntracked ∧ (s.putPowerOp v).dram = s.dram ∧ (s.putPowerOp v).dr = s.dr ∧
    (s.putPowerOp v).poison = s.poison ∧ (s.putPowerOp v).ingot = s.ingot ∧ (s.putPowerOp v).nor = s.nor ∧
    (s.putPowerOp v).norUnk = s.norUnk ∧ (s.putPowerOp v).pat = s.pat ∧ (s.putPowerOp v).tdly = s.tdly ∧
    (s.putPowerOp v).scrub = s.scrub ∧ (s.putPowerOp v).fbuf = s.fbuf ∧ (s.putPowerOp v).rings = s.rings ∧
    (s.putPowerOp v).haz = s.haz ∧ (s.putPowerOp v).marks = s.marks ∧ (s.putPowerOp v).wsnFloor = s.wsnFloor ∧
    (s.putPowerOp v).health = s.health ∧ (s.putPowerOp v).qPend = s.qPend ∧ (s.putPowerOp v).reqs = s.reqs ∧
    (s.putPowerOp v).aborts = s.aborts ∧ (s.putPowerOp v).gateShut = s.gateShut ∧ (s.putPowerOp v).sqs = s.sqs ∧
    (s.putPowerOp v).cqs = s.cqs ∧ (s.putPowerOp v).cmds = s.cmds ∧ (s.putPowerOp v).resets = s.resets ∧
    (s.putPowerOp v).ctrls = s.ctrls ∧ (s.putPowerOp v).arbs = s.arbs ∧ (s.putPowerOp v).credit = s.credit ∧
    (s.putPowerOp v).taken = s.taken ∧ (s.putPowerOp v).fetchLeft = s.fetchLeft ∧ (s.putPowerOp v).rotLast = s.rotLast ∧
    (s.putPowerOp v).rotFirst = s.rotFirst ∧ (s.putPowerOp v).hazStall = s.hazStall ∧ (s.putPowerOp v).span = s.span ∧
    (s.putPowerOp v).spanOut = s.spanOut ∧ (s.putPowerOp v).spanIn = s.spanIn ∧ (s.putPowerOp v).resOut = s.resOut ∧
    (s.putPowerOp v).jobs = s.jobs ∧ (s.putPowerOp v).finishing = s.finishing ∧ (s.putPowerOp v).greads = s.greads ∧
    (s.putPowerOp v).spanNum = s.spanNum ∧ (s.putPowerOp v).spanArr = s.spanArr ∧ (s.putPowerOp v).dups = s.dups ∧
    (s.putPowerOp v).dupGen = s.dupGen ∧ (s.putPowerOp v).rlogPos = s.rlogPos ∧ (s.putPowerOp v).members = s.members ∧
    (s.putPowerOp v).peerVia = s.peerVia ∧ (s.putPowerOp v).groups = s.groups ∧
    (s.putPowerOp v).peerBound = s.peerBound ∧ (s.putPowerOp v).returned = s.returned ∧
    (s.putPowerOp v).lostRanges = s.lostRanges ∧ (s.putPowerOp v).wmap = s.wmap ∧ (s.putPowerOp v).wfin = s.wfin ∧
    (s.putPowerOp v).wheld = s.wheld ∧ (s.putPowerOp v).preserve = s.preserve ∧ (s.putPowerOp v).kept = s.kept ∧
    (s.putPowerOp v).metaOpen = s.metaOpen ∧ (s.putPowerOp v).portA = s.portA ∧
    (s.putPowerOp v).restartDue = s.restartDue ∧ (s.putPowerOp v).pings = s.pings ∧ (s.putPowerOp v).chain = s.chain ∧
    (s.putPowerOp v).position = s.position ∧ (s.putPowerOp v).power = s.power ∧ (s.putPowerOp v).fsn = s.fsn ∧
    (s.putPowerOp v).ns = s.ns ∧ (s.putPowerOp v).volCap = s.volCap ∧ (s.putPowerOp v).rsv = s.rsv ∧
    (s.putPowerOp v).tokCount = s.tokCount ∧ (s.putPowerOp v).fullZones = s.fullZones ∧ (s.putPowerOp v).fam = s.fam ∧
    (s.putPowerOp v).params = s.params ∧ (s.putPowerOp v).alm = s.alm ∧ (s.putPowerOp v).domeEntry = s.domeEntry ∧
    (s.putPowerOp v).domeWake = s.domeWake ∧ (s.putPowerOp v).domeAgreed = s.domeAgreed ∧
    (s.putPowerOp v).readAt = s.readAt ∧ (s.putPowerOp v).sensorFail = s.sensorFail ∧
    (s.putPowerOp v).tripCount = s.tripCount ∧ (s.putPowerOp v).rise = s.rise ∧ (s.putPowerOp v).stopped = s.stopped ∧
    (s.putPowerOp v).coolSince = s.coolSince ∧ (s.putPowerOp v).events = s.events ∧ (s.putPowerOp v).dies = s.dies ∧
    (s.putPowerOp v).chans = s.chans ∧ (s.putPowerOp v).accs = s.accs ∧ (s.putPowerOp v).ldpc = s.ldpc ∧
    (s.putPowerOp v).nand = s.nand ∧ (s.putPowerOp v).blkErased = s.blkErased ∧ (s.putPowerOp v).vault = s.vault ∧
    (s.putPowerOp v).sessions = s.sessions ∧ (s.putPowerOp v).trngRestarts = s.trngRestarts ∧
    (s.putPowerOp v).drbgLeft = s.drbgLeft ∧ (s.putPowerOp v).imageId = s.imageId ∧
    (s.putPowerOp v).verFuses = s.verFuses ∧ (s.putPowerOp v).nsInfo = s.nsInfo ∧ (s.putPowerOp v).care = s.care ∧
    (s.putPowerOp v).history = s.history ∧ (s.putPowerOp v).fw = s.fw ∧ (s.putPowerOp v).trust = s.trust ∧
    (s.putPowerOp v).fdp = s.fdp ∧ (s.putPowerOp v).lostGen = s.lostGen ∧ (s.putPowerOp v).lostAgain = s.lostAgain ∧
    (s.putPowerOp v).accum = s.accum ∧ (s.putPowerOp v).boundSent = s.boundSent ∧
    (s.putPowerOp v).zoneUsed = s.zoneUsed ∧ (s.putPowerOp v).clean = s.clean :=
  ⟨rfl, rfl, rfl, rfl, rfl, rfl, rfl, rfl, rfl, rfl, rfl, rfl, rfl, rfl, rfl, rfl, rfl, rfl, rfl, rfl, rfl, rfl, rfl,
  rfl, rfl, rfl, rfl, rfl, rfl, rfl, rfl, rfl, rfl, rfl, rfl, rfl, rfl, rfl, rfl, rfl, rfl, rfl, rfl, rfl, rfl, rfl,
  rfl, rfl, rfl, rfl, rfl, rfl, rfl, rfl, rfl, rfl, rfl, rfl, rfl, rfl, rfl, rfl, rfl, rfl, rfl, rfl, rfl, rfl, rfl,
  rfl, rfl, rfl, rfl, rfl, rfl, rfl, rfl, rfl, rfl, rfl, rfl, rfl, rfl, rfl, rfl, rfl, rfl, rfl, rfl, rfl, rfl, rfl,
  rfl, rfl, rfl, rfl, rfl, rfl, rfl, rfl, rfl, rfl, rfl, rfl, rfl, rfl, rfl, rfl, rfl, rfl, rfl, rfl, rfl, rfl, rfl,
  rfl, rfl, rfl, rfl, rfl, rfl, rfl, rfl, rfl⟩

@[simp] theorem State.putPowerOp_powerOp (s : State) (v : Nat) : (s.putPowerOp v).powerOp = v := rfl

@[simp] theorem State.putFsn_frame (s : State) (v : BitVec 32) :
    (s.putFsn v).pending = s.pending ∧ (s.putFsn v).free = s.free ∧ (s.putFsn v).out = s.out ∧ (s.putFsn v).boot = s.boot ∧
    (s.putFsn v).tick = s.tick ∧ (s.putFsn v).win = s.win ∧ (s.putFsn v).gap = s.gap ∧ (s.putFsn v).regs = s.regs ∧
    (s.putFsn v).regPend = s.regPend ∧ (s.putFsn v).cores = s.cores ∧ (s.putFsn v).cluster = s.cluster ∧
    (s.putFsn v).tun = s.tun ∧ (s.putFsn v).tunBufs = s.tunBufs ∧ (s.putFsn v).tunMin = s.tunMin ∧
    (s.putFsn v).tunMinPend = s.tunMinPend ∧ (s.putFsn v).sramErr = s.sramErr ∧ (s.putFsn v).heldBack = s.heldBack ∧
    (s.putFsn v).rtHit = s.rtHit ∧ (s.putFsn v).rtClock = s.rtClock ∧ (s.putFsn v).rtUntracked = s.rtUntracked ∧
    (s.putFsn v).dram = s.dram ∧ (s.putFsn v).dr = s.dr ∧ (s.putFsn v).poison = s.poison ∧ (s.putFsn v).ingot = s.ingot ∧
    (s.putFsn v).nor = s.nor ∧ (s.putFsn v).norUnk = s.norUnk ∧ (s.putFsn v).pat = s.pat ∧ (s.putFsn v).tdly = s.tdly ∧
    (s.putFsn v).scrub = s.scrub ∧ (s.putFsn v).fbuf = s.fbuf ∧ (s.putFsn v).rings = s.rings ∧ (s.putFsn v).haz = s.haz ∧
    (s.putFsn v).marks = s.marks ∧ (s.putFsn v).wsnFloor = s.wsnFloor ∧ (s.putFsn v).health = s.health ∧
    (s.putFsn v).qPend = s.qPend ∧ (s.putFsn v).reqs = s.reqs ∧ (s.putFsn v).aborts = s.aborts ∧
    (s.putFsn v).gateShut = s.gateShut ∧ (s.putFsn v).sqs = s.sqs ∧ (s.putFsn v).cqs = s.cqs ∧
    (s.putFsn v).cmds = s.cmds ∧ (s.putFsn v).resets = s.resets ∧ (s.putFsn v).ctrls = s.ctrls ∧
    (s.putFsn v).arbs = s.arbs ∧ (s.putFsn v).credit = s.credit ∧ (s.putFsn v).taken = s.taken ∧
    (s.putFsn v).fetchLeft = s.fetchLeft ∧ (s.putFsn v).rotLast = s.rotLast ∧ (s.putFsn v).rotFirst = s.rotFirst ∧
    (s.putFsn v).hazStall = s.hazStall ∧ (s.putFsn v).span = s.span ∧ (s.putFsn v).spanOut = s.spanOut ∧
    (s.putFsn v).spanIn = s.spanIn ∧ (s.putFsn v).resOut = s.resOut ∧ (s.putFsn v).jobs = s.jobs ∧
    (s.putFsn v).finishing = s.finishing ∧ (s.putFsn v).greads = s.greads ∧ (s.putFsn v).spanNum = s.spanNum ∧
    (s.putFsn v).spanArr = s.spanArr ∧ (s.putFsn v).dups = s.dups ∧ (s.putFsn v).dupGen = s.dupGen ∧
    (s.putFsn v).rlogPos = s.rlogPos ∧ (s.putFsn v).members = s.members ∧ (s.putFsn v).peerVia = s.peerVia ∧
    (s.putFsn v).groups = s.groups ∧ (s.putFsn v).peerBound = s.peerBound ∧ (s.putFsn v).returned = s.returned ∧
    (s.putFsn v).lostRanges = s.lostRanges ∧ (s.putFsn v).wmap = s.wmap ∧ (s.putFsn v).wfin = s.wfin ∧
    (s.putFsn v).wheld = s.wheld ∧ (s.putFsn v).preserve = s.preserve ∧ (s.putFsn v).kept = s.kept ∧
    (s.putFsn v).metaOpen = s.metaOpen ∧ (s.putFsn v).portA = s.portA ∧ (s.putFsn v).restartDue = s.restartDue ∧
    (s.putFsn v).pings = s.pings ∧ (s.putFsn v).chain = s.chain ∧ (s.putFsn v).position = s.position ∧
    (s.putFsn v).power = s.power ∧ (s.putFsn v).powerOp = s.powerOp ∧ (s.putFsn v).ns = s.ns ∧
    (s.putFsn v).volCap = s.volCap ∧ (s.putFsn v).rsv = s.rsv ∧ (s.putFsn v).tokCount = s.tokCount ∧
    (s.putFsn v).fullZones = s.fullZones ∧ (s.putFsn v).fam = s.fam ∧ (s.putFsn v).params = s.params ∧
    (s.putFsn v).alm = s.alm ∧ (s.putFsn v).domeEntry = s.domeEntry ∧ (s.putFsn v).domeWake = s.domeWake ∧
    (s.putFsn v).domeAgreed = s.domeAgreed ∧ (s.putFsn v).readAt = s.readAt ∧ (s.putFsn v).sensorFail = s.sensorFail ∧
    (s.putFsn v).tripCount = s.tripCount ∧ (s.putFsn v).rise = s.rise ∧ (s.putFsn v).stopped = s.stopped ∧
    (s.putFsn v).coolSince = s.coolSince ∧ (s.putFsn v).events = s.events ∧ (s.putFsn v).dies = s.dies ∧
    (s.putFsn v).chans = s.chans ∧ (s.putFsn v).accs = s.accs ∧ (s.putFsn v).ldpc = s.ldpc ∧ (s.putFsn v).nand = s.nand ∧
    (s.putFsn v).blkErased = s.blkErased ∧ (s.putFsn v).vault = s.vault ∧ (s.putFsn v).sessions = s.sessions ∧
    (s.putFsn v).trngRestarts = s.trngRestarts ∧ (s.putFsn v).drbgLeft = s.drbgLeft ∧ (s.putFsn v).imageId = s.imageId ∧
    (s.putFsn v).verFuses = s.verFuses ∧ (s.putFsn v).nsInfo = s.nsInfo ∧ (s.putFsn v).care = s.care ∧
    (s.putFsn v).history = s.history ∧ (s.putFsn v).fw = s.fw ∧ (s.putFsn v).trust = s.trust ∧ (s.putFsn v).fdp = s.fdp ∧
    (s.putFsn v).lostGen = s.lostGen ∧ (s.putFsn v).lostAgain = s.lostAgain ∧ (s.putFsn v).accum = s.accum ∧
    (s.putFsn v).boundSent = s.boundSent ∧ (s.putFsn v).zoneUsed = s.zoneUsed ∧ (s.putFsn v).clean = s.clean :=
  ⟨rfl, rfl, rfl, rfl, rfl, rfl, rfl, rfl, rfl, rfl, rfl, rfl, rfl, rfl, rfl, rfl, rfl, rfl, rfl, rfl, rfl, rfl, rfl,
  rfl, rfl, rfl, rfl, rfl, rfl, rfl, rfl, rfl, rfl, rfl, rfl, rfl, rfl, rfl, rfl, rfl, rfl, rfl, rfl, rfl, rfl, rfl,
  rfl, rfl, rfl, rfl, rfl, rfl, rfl, rfl, rfl, rfl, rfl, rfl, rfl, rfl, rfl, rfl, rfl, rfl, rfl, rfl, rfl, rfl, rfl,
  rfl, rfl, rfl, rfl, rfl, rfl, rfl, rfl, rfl, rfl, rfl, rfl, rfl, rfl, rfl, rfl, rfl, rfl, rfl, rfl, rfl, rfl, rfl,
  rfl, rfl, rfl, rfl, rfl, rfl, rfl, rfl, rfl, rfl, rfl, rfl, rfl, rfl, rfl, rfl, rfl, rfl, rfl, rfl, rfl, rfl, rfl,
  rfl, rfl, rfl, rfl, rfl, rfl, rfl, rfl, rfl⟩

@[simp] theorem State.putFsn_fsn (s : State) (v : BitVec 32) : (s.putFsn v).fsn = v := rfl

@[simp] theorem State.putNs_frame (s : State) (v : FMap NsCfg) :
    (s.putNs v).pending = s.pending ∧ (s.putNs v).free = s.free ∧ (s.putNs v).out = s.out ∧ (s.putNs v).boot = s.boot ∧
    (s.putNs v).tick = s.tick ∧ (s.putNs v).win = s.win ∧ (s.putNs v).gap = s.gap ∧ (s.putNs v).regs = s.regs ∧
    (s.putNs v).regPend = s.regPend ∧ (s.putNs v).cores = s.cores ∧ (s.putNs v).cluster = s.cluster ∧
    (s.putNs v).tun = s.tun ∧ (s.putNs v).tunBufs = s.tunBufs ∧ (s.putNs v).tunMin = s.tunMin ∧
    (s.putNs v).tunMinPend = s.tunMinPend ∧ (s.putNs v).sramErr = s.sramErr ∧ (s.putNs v).heldBack = s.heldBack ∧
    (s.putNs v).rtHit = s.rtHit ∧ (s.putNs v).rtClock = s.rtClock ∧ (s.putNs v).rtUntracked = s.rtUntracked ∧
    (s.putNs v).dram = s.dram ∧ (s.putNs v).dr = s.dr ∧ (s.putNs v).poison = s.poison ∧ (s.putNs v).ingot = s.ingot ∧
    (s.putNs v).nor = s.nor ∧ (s.putNs v).norUnk = s.norUnk ∧ (s.putNs v).pat = s.pat ∧ (s.putNs v).tdly = s.tdly ∧
    (s.putNs v).scrub = s.scrub ∧ (s.putNs v).fbuf = s.fbuf ∧ (s.putNs v).rings = s.rings ∧ (s.putNs v).haz = s.haz ∧
    (s.putNs v).marks = s.marks ∧ (s.putNs v).wsnFloor = s.wsnFloor ∧ (s.putNs v).health = s.health ∧
    (s.putNs v).qPend = s.qPend ∧ (s.putNs v).reqs = s.reqs ∧ (s.putNs v).aborts = s.aborts ∧
    (s.putNs v).gateShut = s.gateShut ∧ (s.putNs v).sqs = s.sqs ∧ (s.putNs v).cqs = s.cqs ∧ (s.putNs v).cmds = s.cmds ∧
    (s.putNs v).resets = s.resets ∧ (s.putNs v).ctrls = s.ctrls ∧ (s.putNs v).arbs = s.arbs ∧
    (s.putNs v).credit = s.credit ∧ (s.putNs v).taken = s.taken ∧ (s.putNs v).fetchLeft = s.fetchLeft ∧
    (s.putNs v).rotLast = s.rotLast ∧ (s.putNs v).rotFirst = s.rotFirst ∧ (s.putNs v).hazStall = s.hazStall ∧
    (s.putNs v).span = s.span ∧ (s.putNs v).spanOut = s.spanOut ∧ (s.putNs v).spanIn = s.spanIn ∧
    (s.putNs v).resOut = s.resOut ∧ (s.putNs v).jobs = s.jobs ∧ (s.putNs v).finishing = s.finishing ∧
    (s.putNs v).greads = s.greads ∧ (s.putNs v).spanNum = s.spanNum ∧ (s.putNs v).spanArr = s.spanArr ∧
    (s.putNs v).dups = s.dups ∧ (s.putNs v).dupGen = s.dupGen ∧ (s.putNs v).rlogPos = s.rlogPos ∧
    (s.putNs v).members = s.members ∧ (s.putNs v).peerVia = s.peerVia ∧ (s.putNs v).groups = s.groups ∧
    (s.putNs v).peerBound = s.peerBound ∧ (s.putNs v).returned = s.returned ∧ (s.putNs v).lostRanges = s.lostRanges ∧
    (s.putNs v).wmap = s.wmap ∧ (s.putNs v).wfin = s.wfin ∧ (s.putNs v).wheld = s.wheld ∧
    (s.putNs v).preserve = s.preserve ∧ (s.putNs v).kept = s.kept ∧ (s.putNs v).metaOpen = s.metaOpen ∧
    (s.putNs v).portA = s.portA ∧ (s.putNs v).restartDue = s.restartDue ∧ (s.putNs v).pings = s.pings ∧
    (s.putNs v).chain = s.chain ∧ (s.putNs v).position = s.position ∧ (s.putNs v).power = s.power ∧
    (s.putNs v).powerOp = s.powerOp ∧ (s.putNs v).fsn = s.fsn ∧ (s.putNs v).volCap = s.volCap ∧ (s.putNs v).rsv = s.rsv ∧
    (s.putNs v).tokCount = s.tokCount ∧ (s.putNs v).fullZones = s.fullZones ∧ (s.putNs v).fam = s.fam ∧
    (s.putNs v).params = s.params ∧ (s.putNs v).alm = s.alm ∧ (s.putNs v).domeEntry = s.domeEntry ∧
    (s.putNs v).domeWake = s.domeWake ∧ (s.putNs v).domeAgreed = s.domeAgreed ∧ (s.putNs v).readAt = s.readAt ∧
    (s.putNs v).sensorFail = s.sensorFail ∧ (s.putNs v).tripCount = s.tripCount ∧ (s.putNs v).rise = s.rise ∧
    (s.putNs v).stopped = s.stopped ∧ (s.putNs v).coolSince = s.coolSince ∧ (s.putNs v).events = s.events ∧
    (s.putNs v).dies = s.dies ∧ (s.putNs v).chans = s.chans ∧ (s.putNs v).accs = s.accs ∧ (s.putNs v).ldpc = s.ldpc ∧
    (s.putNs v).nand = s.nand ∧ (s.putNs v).blkErased = s.blkErased ∧ (s.putNs v).vault = s.vault ∧
    (s.putNs v).sessions = s.sessions ∧ (s.putNs v).trngRestarts = s.trngRestarts ∧ (s.putNs v).drbgLeft = s.drbgLeft ∧
    (s.putNs v).imageId = s.imageId ∧ (s.putNs v).verFuses = s.verFuses ∧ (s.putNs v).nsInfo = s.nsInfo ∧
    (s.putNs v).care = s.care ∧ (s.putNs v).history = s.history ∧ (s.putNs v).fw = s.fw ∧ (s.putNs v).trust = s.trust ∧
    (s.putNs v).fdp = s.fdp ∧ (s.putNs v).lostGen = s.lostGen ∧ (s.putNs v).lostAgain = s.lostAgain ∧
    (s.putNs v).accum = s.accum ∧ (s.putNs v).boundSent = s.boundSent ∧ (s.putNs v).zoneUsed = s.zoneUsed ∧
    (s.putNs v).clean = s.clean :=
  ⟨rfl, rfl, rfl, rfl, rfl, rfl, rfl, rfl, rfl, rfl, rfl, rfl, rfl, rfl, rfl, rfl, rfl, rfl, rfl, rfl, rfl, rfl, rfl,
  rfl, rfl, rfl, rfl, rfl, rfl, rfl, rfl, rfl, rfl, rfl, rfl, rfl, rfl, rfl, rfl, rfl, rfl, rfl, rfl, rfl, rfl, rfl,
  rfl, rfl, rfl, rfl, rfl, rfl, rfl, rfl, rfl, rfl, rfl, rfl, rfl, rfl, rfl, rfl, rfl, rfl, rfl, rfl, rfl, rfl, rfl,
  rfl, rfl, rfl, rfl, rfl, rfl, rfl, rfl, rfl, rfl, rfl, rfl, rfl, rfl, rfl, rfl, rfl, rfl, rfl, rfl, rfl, rfl, rfl,
  rfl, rfl, rfl, rfl, rfl, rfl, rfl, rfl, rfl, rfl, rfl, rfl, rfl, rfl, rfl, rfl, rfl, rfl, rfl, rfl, rfl, rfl, rfl,
  rfl, rfl, rfl, rfl, rfl, rfl, rfl, rfl, rfl⟩

@[simp] theorem State.putNs_ns (s : State) (v : FMap NsCfg) : (s.putNs v).ns = v := rfl

@[simp] theorem State.putVolCap_frame (s : State) (v : FMap Nat) :
    (s.putVolCap v).pending = s.pending ∧ (s.putVolCap v).free = s.free ∧ (s.putVolCap v).out = s.out ∧
    (s.putVolCap v).boot = s.boot ∧ (s.putVolCap v).tick = s.tick ∧ (s.putVolCap v).win = s.win ∧
    (s.putVolCap v).gap = s.gap ∧ (s.putVolCap v).regs = s.regs ∧ (s.putVolCap v).regPend = s.regPend ∧
    (s.putVolCap v).cores = s.cores ∧ (s.putVolCap v).cluster = s.cluster ∧ (s.putVolCap v).tun = s.tun ∧
    (s.putVolCap v).tunBufs = s.tunBufs ∧ (s.putVolCap v).tunMin = s.tunMin ∧ (s.putVolCap v).tunMinPend = s.tunMinPend ∧
    (s.putVolCap v).sramErr = s.sramErr ∧ (s.putVolCap v).heldBack = s.heldBack ∧ (s.putVolCap v).rtHit = s.rtHit ∧
    (s.putVolCap v).rtClock = s.rtClock ∧ (s.putVolCap v).rtUntracked = s.rtUntracked ∧ (s.putVolCap v).dram = s.dram ∧
    (s.putVolCap v).dr = s.dr ∧ (s.putVolCap v).poison = s.poison ∧ (s.putVolCap v).ingot = s.ingot ∧
    (s.putVolCap v).nor = s.nor ∧ (s.putVolCap v).norUnk = s.norUnk ∧ (s.putVolCap v).pat = s.pat ∧
    (s.putVolCap v).tdly = s.tdly ∧ (s.putVolCap v).scrub = s.scrub ∧ (s.putVolCap v).fbuf = s.fbuf ∧
    (s.putVolCap v).rings = s.rings ∧ (s.putVolCap v).haz = s.haz ∧ (s.putVolCap v).marks = s.marks ∧
    (s.putVolCap v).wsnFloor = s.wsnFloor ∧ (s.putVolCap v).health = s.health ∧ (s.putVolCap v).qPend = s.qPend ∧
    (s.putVolCap v).reqs = s.reqs ∧ (s.putVolCap v).aborts = s.aborts ∧ (s.putVolCap v).gateShut = s.gateShut ∧
    (s.putVolCap v).sqs = s.sqs ∧ (s.putVolCap v).cqs = s.cqs ∧ (s.putVolCap v).cmds = s.cmds ∧
    (s.putVolCap v).resets = s.resets ∧ (s.putVolCap v).ctrls = s.ctrls ∧ (s.putVolCap v).arbs = s.arbs ∧
    (s.putVolCap v).credit = s.credit ∧ (s.putVolCap v).taken = s.taken ∧ (s.putVolCap v).fetchLeft = s.fetchLeft ∧
    (s.putVolCap v).rotLast = s.rotLast ∧ (s.putVolCap v).rotFirst = s.rotFirst ∧ (s.putVolCap v).hazStall = s.hazStall ∧
    (s.putVolCap v).span = s.span ∧ (s.putVolCap v).spanOut = s.spanOut ∧ (s.putVolCap v).spanIn = s.spanIn ∧
    (s.putVolCap v).resOut = s.resOut ∧ (s.putVolCap v).jobs = s.jobs ∧ (s.putVolCap v).finishing = s.finishing ∧
    (s.putVolCap v).greads = s.greads ∧ (s.putVolCap v).spanNum = s.spanNum ∧ (s.putVolCap v).spanArr = s.spanArr ∧
    (s.putVolCap v).dups = s.dups ∧ (s.putVolCap v).dupGen = s.dupGen ∧ (s.putVolCap v).rlogPos = s.rlogPos ∧
    (s.putVolCap v).members = s.members ∧ (s.putVolCap v).peerVia = s.peerVia ∧ (s.putVolCap v).groups = s.groups ∧
    (s.putVolCap v).peerBound = s.peerBound ∧ (s.putVolCap v).returned = s.returned ∧
    (s.putVolCap v).lostRanges = s.lostRanges ∧ (s.putVolCap v).wmap = s.wmap ∧ (s.putVolCap v).wfin = s.wfin ∧
    (s.putVolCap v).wheld = s.wheld ∧ (s.putVolCap v).preserve = s.preserve ∧ (s.putVolCap v).kept = s.kept ∧
    (s.putVolCap v).metaOpen = s.metaOpen ∧ (s.putVolCap v).portA = s.portA ∧ (s.putVolCap v).restartDue = s.restartDue ∧
    (s.putVolCap v).pings = s.pings ∧ (s.putVolCap v).chain = s.chain ∧ (s.putVolCap v).position = s.position ∧
    (s.putVolCap v).power = s.power ∧ (s.putVolCap v).powerOp = s.powerOp ∧ (s.putVolCap v).fsn = s.fsn ∧
    (s.putVolCap v).ns = s.ns ∧ (s.putVolCap v).rsv = s.rsv ∧ (s.putVolCap v).tokCount = s.tokCount ∧
    (s.putVolCap v).fullZones = s.fullZones ∧ (s.putVolCap v).fam = s.fam ∧ (s.putVolCap v).params = s.params ∧
    (s.putVolCap v).alm = s.alm ∧ (s.putVolCap v).domeEntry = s.domeEntry ∧ (s.putVolCap v).domeWake = s.domeWake ∧
    (s.putVolCap v).domeAgreed = s.domeAgreed ∧ (s.putVolCap v).readAt = s.readAt ∧
    (s.putVolCap v).sensorFail = s.sensorFail ∧ (s.putVolCap v).tripCount = s.tripCount ∧ (s.putVolCap v).rise = s.rise ∧
    (s.putVolCap v).stopped = s.stopped ∧ (s.putVolCap v).coolSince = s.coolSince ∧ (s.putVolCap v).events = s.events ∧
    (s.putVolCap v).dies = s.dies ∧ (s.putVolCap v).chans = s.chans ∧ (s.putVolCap v).accs = s.accs ∧
    (s.putVolCap v).ldpc = s.ldpc ∧ (s.putVolCap v).nand = s.nand ∧ (s.putVolCap v).blkErased = s.blkErased ∧
    (s.putVolCap v).vault = s.vault ∧ (s.putVolCap v).sessions = s.sessions ∧
    (s.putVolCap v).trngRestarts = s.trngRestarts ∧ (s.putVolCap v).drbgLeft = s.drbgLeft ∧
    (s.putVolCap v).imageId = s.imageId ∧ (s.putVolCap v).verFuses = s.verFuses ∧ (s.putVolCap v).nsInfo = s.nsInfo ∧
    (s.putVolCap v).care = s.care ∧ (s.putVolCap v).history = s.history ∧ (s.putVolCap v).fw = s.fw ∧
    (s.putVolCap v).trust = s.trust ∧ (s.putVolCap v).fdp = s.fdp ∧ (s.putVolCap v).lostGen = s.lostGen ∧
    (s.putVolCap v).lostAgain = s.lostAgain ∧ (s.putVolCap v).accum = s.accum ∧ (s.putVolCap v).boundSent = s.boundSent ∧
    (s.putVolCap v).zoneUsed = s.zoneUsed ∧ (s.putVolCap v).clean = s.clean :=
  ⟨rfl, rfl, rfl, rfl, rfl, rfl, rfl, rfl, rfl, rfl, rfl, rfl, rfl, rfl, rfl, rfl, rfl, rfl, rfl, rfl, rfl, rfl, rfl,
  rfl, rfl, rfl, rfl, rfl, rfl, rfl, rfl, rfl, rfl, rfl, rfl, rfl, rfl, rfl, rfl, rfl, rfl, rfl, rfl, rfl, rfl, rfl,
  rfl, rfl, rfl, rfl, rfl, rfl, rfl, rfl, rfl, rfl, rfl, rfl, rfl, rfl, rfl, rfl, rfl, rfl, rfl, rfl, rfl, rfl, rfl,
  rfl, rfl, rfl, rfl, rfl, rfl, rfl, rfl, rfl, rfl, rfl, rfl, rfl, rfl, rfl, rfl, rfl, rfl, rfl, rfl, rfl, rfl, rfl,
  rfl, rfl, rfl, rfl, rfl, rfl, rfl, rfl, rfl, rfl, rfl, rfl, rfl, rfl, rfl, rfl, rfl, rfl, rfl, rfl, rfl, rfl, rfl,
  rfl, rfl, rfl, rfl, rfl, rfl, rfl, rfl, rfl⟩

@[simp] theorem State.putVolCap_volCap (s : State) (v : FMap Nat) : (s.putVolCap v).volCap = v := rfl

@[simp] theorem State.putRsv_frame (s : State) (v : FMap (Option Nat)) :
    (s.putRsv v).pending = s.pending ∧ (s.putRsv v).free = s.free ∧ (s.putRsv v).out = s.out ∧ (s.putRsv v).boot = s.boot ∧
    (s.putRsv v).tick = s.tick ∧ (s.putRsv v).win = s.win ∧ (s.putRsv v).gap = s.gap ∧ (s.putRsv v).regs = s.regs ∧
    (s.putRsv v).regPend = s.regPend ∧ (s.putRsv v).cores = s.cores ∧ (s.putRsv v).cluster = s.cluster ∧
    (s.putRsv v).tun = s.tun ∧ (s.putRsv v).tunBufs = s.tunBufs ∧ (s.putRsv v).tunMin = s.tunMin ∧
    (s.putRsv v).tunMinPend = s.tunMinPend ∧ (s.putRsv v).sramErr = s.sramErr ∧ (s.putRsv v).heldBack = s.heldBack ∧
    (s.putRsv v).rtHit = s.rtHit ∧ (s.putRsv v).rtClock = s.rtClock ∧ (s.putRsv v).rtUntracked = s.rtUntracked ∧
    (s.putRsv v).dram = s.dram ∧ (s.putRsv v).dr = s.dr ∧ (s.putRsv v).poison = s.poison ∧ (s.putRsv v).ingot = s.ingot ∧
    (s.putRsv v).nor = s.nor ∧ (s.putRsv v).norUnk = s.norUnk ∧ (s.putRsv v).pat = s.pat ∧ (s.putRsv v).tdly = s.tdly ∧
    (s.putRsv v).scrub = s.scrub ∧ (s.putRsv v).fbuf = s.fbuf ∧ (s.putRsv v).rings = s.rings ∧ (s.putRsv v).haz = s.haz ∧
    (s.putRsv v).marks = s.marks ∧ (s.putRsv v).wsnFloor = s.wsnFloor ∧ (s.putRsv v).health = s.health ∧
    (s.putRsv v).qPend = s.qPend ∧ (s.putRsv v).reqs = s.reqs ∧ (s.putRsv v).aborts = s.aborts ∧
    (s.putRsv v).gateShut = s.gateShut ∧ (s.putRsv v).sqs = s.sqs ∧ (s.putRsv v).cqs = s.cqs ∧
    (s.putRsv v).cmds = s.cmds ∧ (s.putRsv v).resets = s.resets ∧ (s.putRsv v).ctrls = s.ctrls ∧
    (s.putRsv v).arbs = s.arbs ∧ (s.putRsv v).credit = s.credit ∧ (s.putRsv v).taken = s.taken ∧
    (s.putRsv v).fetchLeft = s.fetchLeft ∧ (s.putRsv v).rotLast = s.rotLast ∧ (s.putRsv v).rotFirst = s.rotFirst ∧
    (s.putRsv v).hazStall = s.hazStall ∧ (s.putRsv v).span = s.span ∧ (s.putRsv v).spanOut = s.spanOut ∧
    (s.putRsv v).spanIn = s.spanIn ∧ (s.putRsv v).resOut = s.resOut ∧ (s.putRsv v).jobs = s.jobs ∧
    (s.putRsv v).finishing = s.finishing ∧ (s.putRsv v).greads = s.greads ∧ (s.putRsv v).spanNum = s.spanNum ∧
    (s.putRsv v).spanArr = s.spanArr ∧ (s.putRsv v).dups = s.dups ∧ (s.putRsv v).dupGen = s.dupGen ∧
    (s.putRsv v).rlogPos = s.rlogPos ∧ (s.putRsv v).members = s.members ∧ (s.putRsv v).peerVia = s.peerVia ∧
    (s.putRsv v).groups = s.groups ∧ (s.putRsv v).peerBound = s.peerBound ∧ (s.putRsv v).returned = s.returned ∧
    (s.putRsv v).lostRanges = s.lostRanges ∧ (s.putRsv v).wmap = s.wmap ∧ (s.putRsv v).wfin = s.wfin ∧
    (s.putRsv v).wheld = s.wheld ∧ (s.putRsv v).preserve = s.preserve ∧ (s.putRsv v).kept = s.kept ∧
    (s.putRsv v).metaOpen = s.metaOpen ∧ (s.putRsv v).portA = s.portA ∧ (s.putRsv v).restartDue = s.restartDue ∧
    (s.putRsv v).pings = s.pings ∧ (s.putRsv v).chain = s.chain ∧ (s.putRsv v).position = s.position ∧
    (s.putRsv v).power = s.power ∧ (s.putRsv v).powerOp = s.powerOp ∧ (s.putRsv v).fsn = s.fsn ∧ (s.putRsv v).ns = s.ns ∧
    (s.putRsv v).volCap = s.volCap ∧ (s.putRsv v).tokCount = s.tokCount ∧ (s.putRsv v).fullZones = s.fullZones ∧
    (s.putRsv v).fam = s.fam ∧ (s.putRsv v).params = s.params ∧ (s.putRsv v).alm = s.alm ∧
    (s.putRsv v).domeEntry = s.domeEntry ∧ (s.putRsv v).domeWake = s.domeWake ∧ (s.putRsv v).domeAgreed = s.domeAgreed ∧
    (s.putRsv v).readAt = s.readAt ∧ (s.putRsv v).sensorFail = s.sensorFail ∧ (s.putRsv v).tripCount = s.tripCount ∧
    (s.putRsv v).rise = s.rise ∧ (s.putRsv v).stopped = s.stopped ∧ (s.putRsv v).coolSince = s.coolSince ∧
    (s.putRsv v).events = s.events ∧ (s.putRsv v).dies = s.dies ∧ (s.putRsv v).chans = s.chans ∧
    (s.putRsv v).accs = s.accs ∧ (s.putRsv v).ldpc = s.ldpc ∧ (s.putRsv v).nand = s.nand ∧
    (s.putRsv v).blkErased = s.blkErased ∧ (s.putRsv v).vault = s.vault ∧ (s.putRsv v).sessions = s.sessions ∧
    (s.putRsv v).trngRestarts = s.trngRestarts ∧ (s.putRsv v).drbgLeft = s.drbgLeft ∧ (s.putRsv v).imageId = s.imageId ∧
    (s.putRsv v).verFuses = s.verFuses ∧ (s.putRsv v).nsInfo = s.nsInfo ∧ (s.putRsv v).care = s.care ∧
    (s.putRsv v).history = s.history ∧ (s.putRsv v).fw = s.fw ∧ (s.putRsv v).trust = s.trust ∧ (s.putRsv v).fdp = s.fdp ∧
    (s.putRsv v).lostGen = s.lostGen ∧ (s.putRsv v).lostAgain = s.lostAgain ∧ (s.putRsv v).accum = s.accum ∧
    (s.putRsv v).boundSent = s.boundSent ∧ (s.putRsv v).zoneUsed = s.zoneUsed ∧ (s.putRsv v).clean = s.clean :=
  ⟨rfl, rfl, rfl, rfl, rfl, rfl, rfl, rfl, rfl, rfl, rfl, rfl, rfl, rfl, rfl, rfl, rfl, rfl, rfl, rfl, rfl, rfl, rfl,
  rfl, rfl, rfl, rfl, rfl, rfl, rfl, rfl, rfl, rfl, rfl, rfl, rfl, rfl, rfl, rfl, rfl, rfl, rfl, rfl, rfl, rfl, rfl,
  rfl, rfl, rfl, rfl, rfl, rfl, rfl, rfl, rfl, rfl, rfl, rfl, rfl, rfl, rfl, rfl, rfl, rfl, rfl, rfl, rfl, rfl, rfl,
  rfl, rfl, rfl, rfl, rfl, rfl, rfl, rfl, rfl, rfl, rfl, rfl, rfl, rfl, rfl, rfl, rfl, rfl, rfl, rfl, rfl, rfl, rfl,
  rfl, rfl, rfl, rfl, rfl, rfl, rfl, rfl, rfl, rfl, rfl, rfl, rfl, rfl, rfl, rfl, rfl, rfl, rfl, rfl, rfl, rfl, rfl,
  rfl, rfl, rfl, rfl, rfl, rfl, rfl, rfl, rfl⟩

@[simp] theorem State.putRsv_rsv (s : State) (v : FMap (Option Nat)) : (s.putRsv v).rsv = v := rfl

@[simp] theorem State.putTokCount_frame (s : State) (v : FMap Nat) :
    (s.putTokCount v).pending = s.pending ∧ (s.putTokCount v).free = s.free ∧ (s.putTokCount v).out = s.out ∧
    (s.putTokCount v).boot = s.boot ∧ (s.putTokCount v).tick = s.tick ∧ (s.putTokCount v).win = s.win ∧
    (s.putTokCount v).gap = s.gap ∧ (s.putTokCount v).regs = s.regs ∧ (s.putTokCount v).regPend = s.regPend ∧
    (s.putTokCount v).cores = s.cores ∧ (s.putTokCount v).cluster = s.cluster ∧ (s.putTokCount v).tun = s.tun ∧
    (s.putTokCount v).tunBufs = s.tunBufs ∧ (s.putTokCount v).tunMin = s.tunMin ∧
    (s.putTokCount v).tunMinPend = s.tunMinPend ∧ (s.putTokCount v).sramErr = s.sramErr ∧
    (s.putTokCount v).heldBack = s.heldBack ∧ (s.putTokCount v).rtHit = s.rtHit ∧ (s.putTokCount v).rtClock = s.rtClock ∧
    (s.putTokCount v).rtUntracked = s.rtUntracked ∧ (s.putTokCount v).dram = s.dram ∧ (s.putTokCount v).dr = s.dr ∧
    (s.putTokCount v).poison = s.poison ∧ (s.putTokCount v).ingot = s.ingot ∧ (s.putTokCount v).nor = s.nor ∧
    (s.putTokCount v).norUnk = s.norUnk ∧ (s.putTokCount v).pat = s.pat ∧ (s.putTokCount v).tdly = s.tdly ∧
    (s.putTokCount v).scrub = s.scrub ∧ (s.putTokCount v).fbuf = s.fbuf ∧ (s.putTokCount v).rings = s.rings ∧
    (s.putTokCount v).haz = s.haz ∧ (s.putTokCount v).marks = s.marks ∧ (s.putTokCount v).wsnFloor = s.wsnFloor ∧
    (s.putTokCount v).health = s.health ∧ (s.putTokCount v).qPend = s.qPend ∧ (s.putTokCount v).reqs = s.reqs ∧
    (s.putTokCount v).aborts = s.aborts ∧ (s.putTokCount v).gateShut = s.gateShut ∧ (s.putTokCount v).sqs = s.sqs ∧
    (s.putTokCount v).cqs = s.cqs ∧ (s.putTokCount v).cmds = s.cmds ∧ (s.putTokCount v).resets = s.resets ∧
    (s.putTokCount v).ctrls = s.ctrls ∧ (s.putTokCount v).arbs = s.arbs ∧ (s.putTokCount v).credit = s.credit ∧
    (s.putTokCount v).taken = s.taken ∧ (s.putTokCount v).fetchLeft = s.fetchLeft ∧
    (s.putTokCount v).rotLast = s.rotLast ∧ (s.putTokCount v).rotFirst = s.rotFirst ∧
    (s.putTokCount v).hazStall = s.hazStall ∧ (s.putTokCount v).span = s.span ∧ (s.putTokCount v).spanOut = s.spanOut ∧
    (s.putTokCount v).spanIn = s.spanIn ∧ (s.putTokCount v).resOut = s.resOut ∧ (s.putTokCount v).jobs = s.jobs ∧
    (s.putTokCount v).finishing = s.finishing ∧ (s.putTokCount v).greads = s.greads ∧
    (s.putTokCount v).spanNum = s.spanNum ∧ (s.putTokCount v).spanArr = s.spanArr ∧ (s.putTokCount v).dups = s.dups ∧
    (s.putTokCount v).dupGen = s.dupGen ∧ (s.putTokCount v).rlogPos = s.rlogPos ∧ (s.putTokCount v).members = s.members ∧
    (s.putTokCount v).peerVia = s.peerVia ∧ (s.putTokCount v).groups = s.groups ∧
    (s.putTokCount v).peerBound = s.peerBound ∧ (s.putTokCount v).returned = s.returned ∧
    (s.putTokCount v).lostRanges = s.lostRanges ∧ (s.putTokCount v).wmap = s.wmap ∧ (s.putTokCount v).wfin = s.wfin ∧
    (s.putTokCount v).wheld = s.wheld ∧ (s.putTokCount v).preserve = s.preserve ∧ (s.putTokCount v).kept = s.kept ∧
    (s.putTokCount v).metaOpen = s.metaOpen ∧ (s.putTokCount v).portA = s.portA ∧
    (s.putTokCount v).restartDue = s.restartDue ∧ (s.putTokCount v).pings = s.pings ∧ (s.putTokCount v).chain = s.chain ∧
    (s.putTokCount v).position = s.position ∧ (s.putTokCount v).power = s.power ∧ (s.putTokCount v).powerOp = s.powerOp ∧
    (s.putTokCount v).fsn = s.fsn ∧ (s.putTokCount v).ns = s.ns ∧ (s.putTokCount v).volCap = s.volCap ∧
    (s.putTokCount v).rsv = s.rsv ∧ (s.putTokCount v).fullZones = s.fullZones ∧ (s.putTokCount v).fam = s.fam ∧
    (s.putTokCount v).params = s.params ∧ (s.putTokCount v).alm = s.alm ∧ (s.putTokCount v).domeEntry = s.domeEntry ∧
    (s.putTokCount v).domeWake = s.domeWake ∧ (s.putTokCount v).domeAgreed = s.domeAgreed ∧
    (s.putTokCount v).readAt = s.readAt ∧ (s.putTokCount v).sensorFail = s.sensorFail ∧
    (s.putTokCount v).tripCount = s.tripCount ∧ (s.putTokCount v).rise = s.rise ∧ (s.putTokCount v).stopped = s.stopped ∧
    (s.putTokCount v).coolSince = s.coolSince ∧ (s.putTokCount v).events = s.events ∧ (s.putTokCount v).dies = s.dies ∧
    (s.putTokCount v).chans = s.chans ∧ (s.putTokCount v).accs = s.accs ∧ (s.putTokCount v).ldpc = s.ldpc ∧
    (s.putTokCount v).nand = s.nand ∧ (s.putTokCount v).blkErased = s.blkErased ∧ (s.putTokCount v).vault = s.vault ∧
    (s.putTokCount v).sessions = s.sessions ∧ (s.putTokCount v).trngRestarts = s.trngRestarts ∧
    (s.putTokCount v).drbgLeft = s.drbgLeft ∧ (s.putTokCount v).imageId = s.imageId ∧
    (s.putTokCount v).verFuses = s.verFuses ∧ (s.putTokCount v).nsInfo = s.nsInfo ∧ (s.putTokCount v).care = s.care ∧
    (s.putTokCount v).history = s.history ∧ (s.putTokCount v).fw = s.fw ∧ (s.putTokCount v).trust = s.trust ∧
    (s.putTokCount v).fdp = s.fdp ∧ (s.putTokCount v).lostGen = s.lostGen ∧ (s.putTokCount v).lostAgain = s.lostAgain ∧
    (s.putTokCount v).accum = s.accum ∧ (s.putTokCount v).boundSent = s.boundSent ∧
    (s.putTokCount v).zoneUsed = s.zoneUsed ∧ (s.putTokCount v).clean = s.clean :=
  ⟨rfl, rfl, rfl, rfl, rfl, rfl, rfl, rfl, rfl, rfl, rfl, rfl, rfl, rfl, rfl, rfl, rfl, rfl, rfl, rfl, rfl, rfl, rfl,
  rfl, rfl, rfl, rfl, rfl, rfl, rfl, rfl, rfl, rfl, rfl, rfl, rfl, rfl, rfl, rfl, rfl, rfl, rfl, rfl, rfl, rfl, rfl,
  rfl, rfl, rfl, rfl, rfl, rfl, rfl, rfl, rfl, rfl, rfl, rfl, rfl, rfl, rfl, rfl, rfl, rfl, rfl, rfl, rfl, rfl, rfl,
  rfl, rfl, rfl, rfl, rfl, rfl, rfl, rfl, rfl, rfl, rfl, rfl, rfl, rfl, rfl, rfl, rfl, rfl, rfl, rfl, rfl, rfl, rfl,
  rfl, rfl, rfl, rfl, rfl, rfl, rfl, rfl, rfl, rfl, rfl, rfl, rfl, rfl, rfl, rfl, rfl, rfl, rfl, rfl, rfl, rfl, rfl,
  rfl, rfl, rfl, rfl, rfl, rfl, rfl, rfl, rfl⟩

@[simp] theorem State.putTokCount_tokCount (s : State) (v : FMap Nat) : (s.putTokCount v).tokCount = v := rfl

@[simp] theorem State.putFullZones_frame (s : State) (v : List Nat) :
    (s.putFullZones v).pending = s.pending ∧ (s.putFullZones v).free = s.free ∧ (s.putFullZones v).out = s.out ∧
    (s.putFullZones v).boot = s.boot ∧ (s.putFullZones v).tick = s.tick ∧ (s.putFullZones v).win = s.win ∧
    (s.putFullZones v).gap = s.gap ∧ (s.putFullZones v).regs = s.regs ∧ (s.putFullZones v).regPend = s.regPend ∧
    (s.putFullZones v).cores = s.cores ∧ (s.putFullZones v).cluster = s.cluster ∧ (s.putFullZones v).tun = s.tun ∧
    (s.putFullZones v).tunBufs = s.tunBufs ∧ (s.putFullZones v).tunMin = s.tunMin ∧
    (s.putFullZones v).tunMinPend = s.tunMinPend ∧ (s.putFullZones v).sramErr = s.sramErr ∧
    (s.putFullZones v).heldBack = s.heldBack ∧ (s.putFullZones v).rtHit = s.rtHit ∧
    (s.putFullZones v).rtClock = s.rtClock ∧ (s.putFullZones v).rtUntracked = s.rtUntracked ∧
    (s.putFullZones v).dram = s.dram ∧ (s.putFullZones v).dr = s.dr ∧ (s.putFullZones v).poison = s.poison ∧
    (s.putFullZones v).ingot = s.ingot ∧ (s.putFullZones v).nor = s.nor ∧ (s.putFullZones v).norUnk = s.norUnk ∧
    (s.putFullZones v).pat = s.pat ∧ (s.putFullZones v).tdly = s.tdly ∧ (s.putFullZones v).scrub = s.scrub ∧
    (s.putFullZones v).fbuf = s.fbuf ∧ (s.putFullZones v).rings = s.rings ∧ (s.putFullZones v).haz = s.haz ∧
    (s.putFullZones v).marks = s.marks ∧ (s.putFullZones v).wsnFloor = s.wsnFloor ∧
    (s.putFullZones v).health = s.health ∧ (s.putFullZones v).qPend = s.qPend ∧ (s.putFullZones v).reqs = s.reqs ∧
    (s.putFullZones v).aborts = s.aborts ∧ (s.putFullZones v).gateShut = s.gateShut ∧ (s.putFullZones v).sqs = s.sqs ∧
    (s.putFullZones v).cqs = s.cqs ∧ (s.putFullZones v).cmds = s.cmds ∧ (s.putFullZones v).resets = s.resets ∧
    (s.putFullZones v).ctrls = s.ctrls ∧ (s.putFullZones v).arbs = s.arbs ∧ (s.putFullZones v).credit = s.credit ∧
    (s.putFullZones v).taken = s.taken ∧ (s.putFullZones v).fetchLeft = s.fetchLeft ∧
    (s.putFullZones v).rotLast = s.rotLast ∧ (s.putFullZones v).rotFirst = s.rotFirst ∧
    (s.putFullZones v).hazStall = s.hazStall ∧ (s.putFullZones v).span = s.span ∧
    (s.putFullZones v).spanOut = s.spanOut ∧ (s.putFullZones v).spanIn = s.spanIn ∧
    (s.putFullZones v).resOut = s.resOut ∧ (s.putFullZones v).jobs = s.jobs ∧
    (s.putFullZones v).finishing = s.finishing ∧ (s.putFullZones v).greads = s.greads ∧
    (s.putFullZones v).spanNum = s.spanNum ∧ (s.putFullZones v).spanArr = s.spanArr ∧ (s.putFullZones v).dups = s.dups ∧
    (s.putFullZones v).dupGen = s.dupGen ∧ (s.putFullZones v).rlogPos = s.rlogPos ∧
    (s.putFullZones v).members = s.members ∧ (s.putFullZones v).peerVia = s.peerVia ∧
    (s.putFullZones v).groups = s.groups ∧ (s.putFullZones v).peerBound = s.peerBound ∧
    (s.putFullZones v).returned = s.returned ∧ (s.putFullZones v).lostRanges = s.lostRanges ∧
    (s.putFullZones v).wmap = s.wmap ∧ (s.putFullZones v).wfin = s.wfin ∧ (s.putFullZones v).wheld = s.wheld ∧
    (s.putFullZones v).preserve = s.preserve ∧ (s.putFullZones v).kept = s.kept ∧
    (s.putFullZones v).metaOpen = s.metaOpen ∧ (s.putFullZones v).portA = s.portA ∧
    (s.putFullZones v).restartDue = s.restartDue ∧ (s.putFullZones v).pings = s.pings ∧
    (s.putFullZones v).chain = s.chain ∧ (s.putFullZones v).position = s.position ∧ (s.putFullZones v).power = s.power ∧
    (s.putFullZones v).powerOp = s.powerOp ∧ (s.putFullZones v).fsn = s.fsn ∧ (s.putFullZones v).ns = s.ns ∧
    (s.putFullZones v).volCap = s.volCap ∧ (s.putFullZones v).rsv = s.rsv ∧ (s.putFullZones v).tokCount = s.tokCount ∧
    (s.putFullZones v).fam = s.fam ∧ (s.putFullZones v).params = s.params ∧ (s.putFullZones v).alm = s.alm ∧
    (s.putFullZones v).domeEntry = s.domeEntry ∧ (s.putFullZones v).domeWake = s.domeWake ∧
    (s.putFullZones v).domeAgreed = s.domeAgreed ∧ (s.putFullZones v).readAt = s.readAt ∧
    (s.putFullZones v).sensorFail = s.sensorFail ∧ (s.putFullZones v).tripCount = s.tripCount ∧
    (s.putFullZones v).rise = s.rise ∧ (s.putFullZones v).stopped = s.stopped ∧
    (s.putFullZones v).coolSince = s.coolSince ∧ (s.putFullZones v).events = s.events ∧
    (s.putFullZones v).dies = s.dies ∧ (s.putFullZones v).chans = s.chans ∧ (s.putFullZones v).accs = s.accs ∧
    (s.putFullZones v).ldpc = s.ldpc ∧ (s.putFullZones v).nand = s.nand ∧ (s.putFullZones v).blkErased = s.blkErased ∧
    (s.putFullZones v).vault = s.vault ∧ (s.putFullZones v).sessions = s.sessions ∧
    (s.putFullZones v).trngRestarts = s.trngRestarts ∧ (s.putFullZones v).drbgLeft = s.drbgLeft ∧
    (s.putFullZones v).imageId = s.imageId ∧ (s.putFullZones v).verFuses = s.verFuses ∧
    (s.putFullZones v).nsInfo = s.nsInfo ∧ (s.putFullZones v).care = s.care ∧ (s.putFullZones v).history = s.history ∧
    (s.putFullZones v).fw = s.fw ∧ (s.putFullZones v).trust = s.trust ∧ (s.putFullZones v).fdp = s.fdp ∧
    (s.putFullZones v).lostGen = s.lostGen ∧ (s.putFullZones v).lostAgain = s.lostAgain ∧
    (s.putFullZones v).accum = s.accum ∧ (s.putFullZones v).boundSent = s.boundSent ∧
    (s.putFullZones v).zoneUsed = s.zoneUsed ∧ (s.putFullZones v).clean = s.clean :=
  ⟨rfl, rfl, rfl, rfl, rfl, rfl, rfl, rfl, rfl, rfl, rfl, rfl, rfl, rfl, rfl, rfl, rfl, rfl, rfl, rfl, rfl, rfl, rfl,
  rfl, rfl, rfl, rfl, rfl, rfl, rfl, rfl, rfl, rfl, rfl, rfl, rfl, rfl, rfl, rfl, rfl, rfl, rfl, rfl, rfl, rfl, rfl,
  rfl, rfl, rfl, rfl, rfl, rfl, rfl, rfl, rfl, rfl, rfl, rfl, rfl, rfl, rfl, rfl, rfl, rfl, rfl, rfl, rfl, rfl, rfl,
  rfl, rfl, rfl, rfl, rfl, rfl, rfl, rfl, rfl, rfl, rfl, rfl, rfl, rfl, rfl, rfl, rfl, rfl, rfl, rfl, rfl, rfl, rfl,
  rfl, rfl, rfl, rfl, rfl, rfl, rfl, rfl, rfl, rfl, rfl, rfl, rfl, rfl, rfl, rfl, rfl, rfl, rfl, rfl, rfl, rfl, rfl,
  rfl, rfl, rfl, rfl, rfl, rfl, rfl, rfl, rfl⟩

@[simp] theorem State.putFullZones_fullZones (s : State) (v : List Nat) : (s.putFullZones v).fullZones = v := rfl

@[simp] theorem State.putFam_frame (s : State) (v : DieFamily) :
    (s.putFam v).pending = s.pending ∧ (s.putFam v).free = s.free ∧ (s.putFam v).out = s.out ∧ (s.putFam v).boot = s.boot ∧
    (s.putFam v).tick = s.tick ∧ (s.putFam v).win = s.win ∧ (s.putFam v).gap = s.gap ∧ (s.putFam v).regs = s.regs ∧
    (s.putFam v).regPend = s.regPend ∧ (s.putFam v).cores = s.cores ∧ (s.putFam v).cluster = s.cluster ∧
    (s.putFam v).tun = s.tun ∧ (s.putFam v).tunBufs = s.tunBufs ∧ (s.putFam v).tunMin = s.tunMin ∧
    (s.putFam v).tunMinPend = s.tunMinPend ∧ (s.putFam v).sramErr = s.sramErr ∧ (s.putFam v).heldBack = s.heldBack ∧
    (s.putFam v).rtHit = s.rtHit ∧ (s.putFam v).rtClock = s.rtClock ∧ (s.putFam v).rtUntracked = s.rtUntracked ∧
    (s.putFam v).dram = s.dram ∧ (s.putFam v).dr = s.dr ∧ (s.putFam v).poison = s.poison ∧ (s.putFam v).ingot = s.ingot ∧
    (s.putFam v).nor = s.nor ∧ (s.putFam v).norUnk = s.norUnk ∧ (s.putFam v).pat = s.pat ∧ (s.putFam v).tdly = s.tdly ∧
    (s.putFam v).scrub = s.scrub ∧ (s.putFam v).fbuf = s.fbuf ∧ (s.putFam v).rings = s.rings ∧ (s.putFam v).haz = s.haz ∧
    (s.putFam v).marks = s.marks ∧ (s.putFam v).wsnFloor = s.wsnFloor ∧ (s.putFam v).health = s.health ∧
    (s.putFam v).qPend = s.qPend ∧ (s.putFam v).reqs = s.reqs ∧ (s.putFam v).aborts = s.aborts ∧
    (s.putFam v).gateShut = s.gateShut ∧ (s.putFam v).sqs = s.sqs ∧ (s.putFam v).cqs = s.cqs ∧
    (s.putFam v).cmds = s.cmds ∧ (s.putFam v).resets = s.resets ∧ (s.putFam v).ctrls = s.ctrls ∧
    (s.putFam v).arbs = s.arbs ∧ (s.putFam v).credit = s.credit ∧ (s.putFam v).taken = s.taken ∧
    (s.putFam v).fetchLeft = s.fetchLeft ∧ (s.putFam v).rotLast = s.rotLast ∧ (s.putFam v).rotFirst = s.rotFirst ∧
    (s.putFam v).hazStall = s.hazStall ∧ (s.putFam v).span = s.span ∧ (s.putFam v).spanOut = s.spanOut ∧
    (s.putFam v).spanIn = s.spanIn ∧ (s.putFam v).resOut = s.resOut ∧ (s.putFam v).jobs = s.jobs ∧
    (s.putFam v).finishing = s.finishing ∧ (s.putFam v).greads = s.greads ∧ (s.putFam v).spanNum = s.spanNum ∧
    (s.putFam v).spanArr = s.spanArr ∧ (s.putFam v).dups = s.dups ∧ (s.putFam v).dupGen = s.dupGen ∧
    (s.putFam v).rlogPos = s.rlogPos ∧ (s.putFam v).members = s.members ∧ (s.putFam v).peerVia = s.peerVia ∧
    (s.putFam v).groups = s.groups ∧ (s.putFam v).peerBound = s.peerBound ∧ (s.putFam v).returned = s.returned ∧
    (s.putFam v).lostRanges = s.lostRanges ∧ (s.putFam v).wmap = s.wmap ∧ (s.putFam v).wfin = s.wfin ∧
    (s.putFam v).wheld = s.wheld ∧ (s.putFam v).preserve = s.preserve ∧ (s.putFam v).kept = s.kept ∧
    (s.putFam v).metaOpen = s.metaOpen ∧ (s.putFam v).portA = s.portA ∧ (s.putFam v).restartDue = s.restartDue ∧
    (s.putFam v).pings = s.pings ∧ (s.putFam v).chain = s.chain ∧ (s.putFam v).position = s.position ∧
    (s.putFam v).power = s.power ∧ (s.putFam v).powerOp = s.powerOp ∧ (s.putFam v).fsn = s.fsn ∧ (s.putFam v).ns = s.ns ∧
    (s.putFam v).volCap = s.volCap ∧ (s.putFam v).rsv = s.rsv ∧ (s.putFam v).tokCount = s.tokCount ∧
    (s.putFam v).fullZones = s.fullZones ∧ (s.putFam v).params = s.params ∧ (s.putFam v).alm = s.alm ∧
    (s.putFam v).domeEntry = s.domeEntry ∧ (s.putFam v).domeWake = s.domeWake ∧ (s.putFam v).domeAgreed = s.domeAgreed ∧
    (s.putFam v).readAt = s.readAt ∧ (s.putFam v).sensorFail = s.sensorFail ∧ (s.putFam v).tripCount = s.tripCount ∧
    (s.putFam v).rise = s.rise ∧ (s.putFam v).stopped = s.stopped ∧ (s.putFam v).coolSince = s.coolSince ∧
    (s.putFam v).events = s.events ∧ (s.putFam v).dies = s.dies ∧ (s.putFam v).chans = s.chans ∧
    (s.putFam v).accs = s.accs ∧ (s.putFam v).ldpc = s.ldpc ∧ (s.putFam v).nand = s.nand ∧
    (s.putFam v).blkErased = s.blkErased ∧ (s.putFam v).vault = s.vault ∧ (s.putFam v).sessions = s.sessions ∧
    (s.putFam v).trngRestarts = s.trngRestarts ∧ (s.putFam v).drbgLeft = s.drbgLeft ∧ (s.putFam v).imageId = s.imageId ∧
    (s.putFam v).verFuses = s.verFuses ∧ (s.putFam v).nsInfo = s.nsInfo ∧ (s.putFam v).care = s.care ∧
    (s.putFam v).history = s.history ∧ (s.putFam v).fw = s.fw ∧ (s.putFam v).trust = s.trust ∧ (s.putFam v).fdp = s.fdp ∧
    (s.putFam v).lostGen = s.lostGen ∧ (s.putFam v).lostAgain = s.lostAgain ∧ (s.putFam v).accum = s.accum ∧
    (s.putFam v).boundSent = s.boundSent ∧ (s.putFam v).zoneUsed = s.zoneUsed ∧ (s.putFam v).clean = s.clean :=
  ⟨rfl, rfl, rfl, rfl, rfl, rfl, rfl, rfl, rfl, rfl, rfl, rfl, rfl, rfl, rfl, rfl, rfl, rfl, rfl, rfl, rfl, rfl, rfl,
  rfl, rfl, rfl, rfl, rfl, rfl, rfl, rfl, rfl, rfl, rfl, rfl, rfl, rfl, rfl, rfl, rfl, rfl, rfl, rfl, rfl, rfl, rfl,
  rfl, rfl, rfl, rfl, rfl, rfl, rfl, rfl, rfl, rfl, rfl, rfl, rfl, rfl, rfl, rfl, rfl, rfl, rfl, rfl, rfl, rfl, rfl,
  rfl, rfl, rfl, rfl, rfl, rfl, rfl, rfl, rfl, rfl, rfl, rfl, rfl, rfl, rfl, rfl, rfl, rfl, rfl, rfl, rfl, rfl, rfl,
  rfl, rfl, rfl, rfl, rfl, rfl, rfl, rfl, rfl, rfl, rfl, rfl, rfl, rfl, rfl, rfl, rfl, rfl, rfl, rfl, rfl, rfl, rfl,
  rfl, rfl, rfl, rfl, rfl, rfl, rfl, rfl, rfl⟩

@[simp] theorem State.putFam_fam (s : State) (v : DieFamily) : (s.putFam v).fam = v := rfl

@[simp] theorem State.putParams_frame (s : State) (v : CareParams) :
    (s.putParams v).pending = s.pending ∧ (s.putParams v).free = s.free ∧ (s.putParams v).out = s.out ∧
    (s.putParams v).boot = s.boot ∧ (s.putParams v).tick = s.tick ∧ (s.putParams v).win = s.win ∧
    (s.putParams v).gap = s.gap ∧ (s.putParams v).regs = s.regs ∧ (s.putParams v).regPend = s.regPend ∧
    (s.putParams v).cores = s.cores ∧ (s.putParams v).cluster = s.cluster ∧ (s.putParams v).tun = s.tun ∧
    (s.putParams v).tunBufs = s.tunBufs ∧ (s.putParams v).tunMin = s.tunMin ∧ (s.putParams v).tunMinPend = s.tunMinPend ∧
    (s.putParams v).sramErr = s.sramErr ∧ (s.putParams v).heldBack = s.heldBack ∧ (s.putParams v).rtHit = s.rtHit ∧
    (s.putParams v).rtClock = s.rtClock ∧ (s.putParams v).rtUntracked = s.rtUntracked ∧ (s.putParams v).dram = s.dram ∧
    (s.putParams v).dr = s.dr ∧ (s.putParams v).poison = s.poison ∧ (s.putParams v).ingot = s.ingot ∧
    (s.putParams v).nor = s.nor ∧ (s.putParams v).norUnk = s.norUnk ∧ (s.putParams v).pat = s.pat ∧
    (s.putParams v).tdly = s.tdly ∧ (s.putParams v).scrub = s.scrub ∧ (s.putParams v).fbuf = s.fbuf ∧
    (s.putParams v).rings = s.rings ∧ (s.putParams v).haz = s.haz ∧ (s.putParams v).marks = s.marks ∧
    (s.putParams v).wsnFloor = s.wsnFloor ∧ (s.putParams v).health = s.health ∧ (s.putParams v).qPend = s.qPend ∧
    (s.putParams v).reqs = s.reqs ∧ (s.putParams v).aborts = s.aborts ∧ (s.putParams v).gateShut = s.gateShut ∧
    (s.putParams v).sqs = s.sqs ∧ (s.putParams v).cqs = s.cqs ∧ (s.putParams v).cmds = s.cmds ∧
    (s.putParams v).resets = s.resets ∧ (s.putParams v).ctrls = s.ctrls ∧ (s.putParams v).arbs = s.arbs ∧
    (s.putParams v).credit = s.credit ∧ (s.putParams v).taken = s.taken ∧ (s.putParams v).fetchLeft = s.fetchLeft ∧
    (s.putParams v).rotLast = s.rotLast ∧ (s.putParams v).rotFirst = s.rotFirst ∧ (s.putParams v).hazStall = s.hazStall ∧
    (s.putParams v).span = s.span ∧ (s.putParams v).spanOut = s.spanOut ∧ (s.putParams v).spanIn = s.spanIn ∧
    (s.putParams v).resOut = s.resOut ∧ (s.putParams v).jobs = s.jobs ∧ (s.putParams v).finishing = s.finishing ∧
    (s.putParams v).greads = s.greads ∧ (s.putParams v).spanNum = s.spanNum ∧ (s.putParams v).spanArr = s.spanArr ∧
    (s.putParams v).dups = s.dups ∧ (s.putParams v).dupGen = s.dupGen ∧ (s.putParams v).rlogPos = s.rlogPos ∧
    (s.putParams v).members = s.members ∧ (s.putParams v).peerVia = s.peerVia ∧ (s.putParams v).groups = s.groups ∧
    (s.putParams v).peerBound = s.peerBound ∧ (s.putParams v).returned = s.returned ∧
    (s.putParams v).lostRanges = s.lostRanges ∧ (s.putParams v).wmap = s.wmap ∧ (s.putParams v).wfin = s.wfin ∧
    (s.putParams v).wheld = s.wheld ∧ (s.putParams v).preserve = s.preserve ∧ (s.putParams v).kept = s.kept ∧
    (s.putParams v).metaOpen = s.metaOpen ∧ (s.putParams v).portA = s.portA ∧ (s.putParams v).restartDue = s.restartDue ∧
    (s.putParams v).pings = s.pings ∧ (s.putParams v).chain = s.chain ∧ (s.putParams v).position = s.position ∧
    (s.putParams v).power = s.power ∧ (s.putParams v).powerOp = s.powerOp ∧ (s.putParams v).fsn = s.fsn ∧
    (s.putParams v).ns = s.ns ∧ (s.putParams v).volCap = s.volCap ∧ (s.putParams v).rsv = s.rsv ∧
    (s.putParams v).tokCount = s.tokCount ∧ (s.putParams v).fullZones = s.fullZones ∧ (s.putParams v).fam = s.fam ∧
    (s.putParams v).alm = s.alm ∧ (s.putParams v).domeEntry = s.domeEntry ∧ (s.putParams v).domeWake = s.domeWake ∧
    (s.putParams v).domeAgreed = s.domeAgreed ∧ (s.putParams v).readAt = s.readAt ∧
    (s.putParams v).sensorFail = s.sensorFail ∧ (s.putParams v).tripCount = s.tripCount ∧ (s.putParams v).rise = s.rise ∧
    (s.putParams v).stopped = s.stopped ∧ (s.putParams v).coolSince = s.coolSince ∧ (s.putParams v).events = s.events ∧
    (s.putParams v).dies = s.dies ∧ (s.putParams v).chans = s.chans ∧ (s.putParams v).accs = s.accs ∧
    (s.putParams v).ldpc = s.ldpc ∧ (s.putParams v).nand = s.nand ∧ (s.putParams v).blkErased = s.blkErased ∧
    (s.putParams v).vault = s.vault ∧ (s.putParams v).sessions = s.sessions ∧
    (s.putParams v).trngRestarts = s.trngRestarts ∧ (s.putParams v).drbgLeft = s.drbgLeft ∧
    (s.putParams v).imageId = s.imageId ∧ (s.putParams v).verFuses = s.verFuses ∧ (s.putParams v).nsInfo = s.nsInfo ∧
    (s.putParams v).care = s.care ∧ (s.putParams v).history = s.history ∧ (s.putParams v).fw = s.fw ∧
    (s.putParams v).trust = s.trust ∧ (s.putParams v).fdp = s.fdp ∧ (s.putParams v).lostGen = s.lostGen ∧
    (s.putParams v).lostAgain = s.lostAgain ∧ (s.putParams v).accum = s.accum ∧ (s.putParams v).boundSent = s.boundSent ∧
    (s.putParams v).zoneUsed = s.zoneUsed ∧ (s.putParams v).clean = s.clean :=
  ⟨rfl, rfl, rfl, rfl, rfl, rfl, rfl, rfl, rfl, rfl, rfl, rfl, rfl, rfl, rfl, rfl, rfl, rfl, rfl, rfl, rfl, rfl, rfl,
  rfl, rfl, rfl, rfl, rfl, rfl, rfl, rfl, rfl, rfl, rfl, rfl, rfl, rfl, rfl, rfl, rfl, rfl, rfl, rfl, rfl, rfl, rfl,
  rfl, rfl, rfl, rfl, rfl, rfl, rfl, rfl, rfl, rfl, rfl, rfl, rfl, rfl, rfl, rfl, rfl, rfl, rfl, rfl, rfl, rfl, rfl,
  rfl, rfl, rfl, rfl, rfl, rfl, rfl, rfl, rfl, rfl, rfl, rfl, rfl, rfl, rfl, rfl, rfl, rfl, rfl, rfl, rfl, rfl, rfl,
  rfl, rfl, rfl, rfl, rfl, rfl, rfl, rfl, rfl, rfl, rfl, rfl, rfl, rfl, rfl, rfl, rfl, rfl, rfl, rfl, rfl, rfl, rfl,
  rfl, rfl, rfl, rfl, rfl, rfl, rfl, rfl, rfl⟩

@[simp] theorem State.putParams_params (s : State) (v : CareParams) : (s.putParams v).params = v := rfl

@[simp] theorem State.putAlm_frame (s : State) (v : Almanac) :
    (s.putAlm v).pending = s.pending ∧ (s.putAlm v).free = s.free ∧ (s.putAlm v).out = s.out ∧ (s.putAlm v).boot = s.boot ∧
    (s.putAlm v).tick = s.tick ∧ (s.putAlm v).win = s.win ∧ (s.putAlm v).gap = s.gap ∧ (s.putAlm v).regs = s.regs ∧
    (s.putAlm v).regPend = s.regPend ∧ (s.putAlm v).cores = s.cores ∧ (s.putAlm v).cluster = s.cluster ∧
    (s.putAlm v).tun = s.tun ∧ (s.putAlm v).tunBufs = s.tunBufs ∧ (s.putAlm v).tunMin = s.tunMin ∧
    (s.putAlm v).tunMinPend = s.tunMinPend ∧ (s.putAlm v).sramErr = s.sramErr ∧ (s.putAlm v).heldBack = s.heldBack ∧
    (s.putAlm v).rtHit = s.rtHit ∧ (s.putAlm v).rtClock = s.rtClock ∧ (s.putAlm v).rtUntracked = s.rtUntracked ∧
    (s.putAlm v).dram = s.dram ∧ (s.putAlm v).dr = s.dr ∧ (s.putAlm v).poison = s.poison ∧ (s.putAlm v).ingot = s.ingot ∧
    (s.putAlm v).nor = s.nor ∧ (s.putAlm v).norUnk = s.norUnk ∧ (s.putAlm v).pat = s.pat ∧ (s.putAlm v).tdly = s.tdly ∧
    (s.putAlm v).scrub = s.scrub ∧ (s.putAlm v).fbuf = s.fbuf ∧ (s.putAlm v).rings = s.rings ∧ (s.putAlm v).haz = s.haz ∧
    (s.putAlm v).marks = s.marks ∧ (s.putAlm v).wsnFloor = s.wsnFloor ∧ (s.putAlm v).health = s.health ∧
    (s.putAlm v).qPend = s.qPend ∧ (s.putAlm v).reqs = s.reqs ∧ (s.putAlm v).aborts = s.aborts ∧
    (s.putAlm v).gateShut = s.gateShut ∧ (s.putAlm v).sqs = s.sqs ∧ (s.putAlm v).cqs = s.cqs ∧
    (s.putAlm v).cmds = s.cmds ∧ (s.putAlm v).resets = s.resets ∧ (s.putAlm v).ctrls = s.ctrls ∧
    (s.putAlm v).arbs = s.arbs ∧ (s.putAlm v).credit = s.credit ∧ (s.putAlm v).taken = s.taken ∧
    (s.putAlm v).fetchLeft = s.fetchLeft ∧ (s.putAlm v).rotLast = s.rotLast ∧ (s.putAlm v).rotFirst = s.rotFirst ∧
    (s.putAlm v).hazStall = s.hazStall ∧ (s.putAlm v).span = s.span ∧ (s.putAlm v).spanOut = s.spanOut ∧
    (s.putAlm v).spanIn = s.spanIn ∧ (s.putAlm v).resOut = s.resOut ∧ (s.putAlm v).jobs = s.jobs ∧
    (s.putAlm v).finishing = s.finishing ∧ (s.putAlm v).greads = s.greads ∧ (s.putAlm v).spanNum = s.spanNum ∧
    (s.putAlm v).spanArr = s.spanArr ∧ (s.putAlm v).dups = s.dups ∧ (s.putAlm v).dupGen = s.dupGen ∧
    (s.putAlm v).rlogPos = s.rlogPos ∧ (s.putAlm v).members = s.members ∧ (s.putAlm v).peerVia = s.peerVia ∧
    (s.putAlm v).groups = s.groups ∧ (s.putAlm v).peerBound = s.peerBound ∧ (s.putAlm v).returned = s.returned ∧
    (s.putAlm v).lostRanges = s.lostRanges ∧ (s.putAlm v).wmap = s.wmap ∧ (s.putAlm v).wfin = s.wfin ∧
    (s.putAlm v).wheld = s.wheld ∧ (s.putAlm v).preserve = s.preserve ∧ (s.putAlm v).kept = s.kept ∧
    (s.putAlm v).metaOpen = s.metaOpen ∧ (s.putAlm v).portA = s.portA ∧ (s.putAlm v).restartDue = s.restartDue ∧
    (s.putAlm v).pings = s.pings ∧ (s.putAlm v).chain = s.chain ∧ (s.putAlm v).position = s.position ∧
    (s.putAlm v).power = s.power ∧ (s.putAlm v).powerOp = s.powerOp ∧ (s.putAlm v).fsn = s.fsn ∧ (s.putAlm v).ns = s.ns ∧
    (s.putAlm v).volCap = s.volCap ∧ (s.putAlm v).rsv = s.rsv ∧ (s.putAlm v).tokCount = s.tokCount ∧
    (s.putAlm v).fullZones = s.fullZones ∧ (s.putAlm v).fam = s.fam ∧ (s.putAlm v).params = s.params ∧
    (s.putAlm v).domeEntry = s.domeEntry ∧ (s.putAlm v).domeWake = s.domeWake ∧ (s.putAlm v).domeAgreed = s.domeAgreed ∧
    (s.putAlm v).readAt = s.readAt ∧ (s.putAlm v).sensorFail = s.sensorFail ∧ (s.putAlm v).tripCount = s.tripCount ∧
    (s.putAlm v).rise = s.rise ∧ (s.putAlm v).stopped = s.stopped ∧ (s.putAlm v).coolSince = s.coolSince ∧
    (s.putAlm v).events = s.events ∧ (s.putAlm v).dies = s.dies ∧ (s.putAlm v).chans = s.chans ∧
    (s.putAlm v).accs = s.accs ∧ (s.putAlm v).ldpc = s.ldpc ∧ (s.putAlm v).nand = s.nand ∧
    (s.putAlm v).blkErased = s.blkErased ∧ (s.putAlm v).vault = s.vault ∧ (s.putAlm v).sessions = s.sessions ∧
    (s.putAlm v).trngRestarts = s.trngRestarts ∧ (s.putAlm v).drbgLeft = s.drbgLeft ∧ (s.putAlm v).imageId = s.imageId ∧
    (s.putAlm v).verFuses = s.verFuses ∧ (s.putAlm v).nsInfo = s.nsInfo ∧ (s.putAlm v).care = s.care ∧
    (s.putAlm v).history = s.history ∧ (s.putAlm v).fw = s.fw ∧ (s.putAlm v).trust = s.trust ∧ (s.putAlm v).fdp = s.fdp ∧
    (s.putAlm v).lostGen = s.lostGen ∧ (s.putAlm v).lostAgain = s.lostAgain ∧ (s.putAlm v).accum = s.accum ∧
    (s.putAlm v).boundSent = s.boundSent ∧ (s.putAlm v).zoneUsed = s.zoneUsed ∧ (s.putAlm v).clean = s.clean :=
  ⟨rfl, rfl, rfl, rfl, rfl, rfl, rfl, rfl, rfl, rfl, rfl, rfl, rfl, rfl, rfl, rfl, rfl, rfl, rfl, rfl, rfl, rfl, rfl,
  rfl, rfl, rfl, rfl, rfl, rfl, rfl, rfl, rfl, rfl, rfl, rfl, rfl, rfl, rfl, rfl, rfl, rfl, rfl, rfl, rfl, rfl, rfl,
  rfl, rfl, rfl, rfl, rfl, rfl, rfl, rfl, rfl, rfl, rfl, rfl, rfl, rfl, rfl, rfl, rfl, rfl, rfl, rfl, rfl, rfl, rfl,
  rfl, rfl, rfl, rfl, rfl, rfl, rfl, rfl, rfl, rfl, rfl, rfl, rfl, rfl, rfl, rfl, rfl, rfl, rfl, rfl, rfl, rfl, rfl,
  rfl, rfl, rfl, rfl, rfl, rfl, rfl, rfl, rfl, rfl, rfl, rfl, rfl, rfl, rfl, rfl, rfl, rfl, rfl, rfl, rfl, rfl, rfl,
  rfl, rfl, rfl, rfl, rfl, rfl, rfl, rfl, rfl⟩

@[simp] theorem State.putAlm_alm (s : State) (v : Almanac) : (s.putAlm v).alm = v := rfl

@[simp] theorem State.putDomeEntry_frame (s : State) (v : FMap (Option DomeEntry)) :
    (s.putDomeEntry v).pending = s.pending ∧ (s.putDomeEntry v).free = s.free ∧ (s.putDomeEntry v).out = s.out ∧
    (s.putDomeEntry v).boot = s.boot ∧ (s.putDomeEntry v).tick = s.tick ∧ (s.putDomeEntry v).win = s.win ∧
    (s.putDomeEntry v).gap = s.gap ∧ (s.putDomeEntry v).regs = s.regs ∧ (s.putDomeEntry v).regPend = s.regPend ∧
    (s.putDomeEntry v).cores = s.cores ∧ (s.putDomeEntry v).cluster = s.cluster ∧ (s.putDomeEntry v).tun = s.tun ∧
    (s.putDomeEntry v).tunBufs = s.tunBufs ∧ (s.putDomeEntry v).tunMin = s.tunMin ∧
    (s.putDomeEntry v).tunMinPend = s.tunMinPend ∧ (s.putDomeEntry v).sramErr = s.sramErr ∧
    (s.putDomeEntry v).heldBack = s.heldBack ∧ (s.putDomeEntry v).rtHit = s.rtHit ∧
    (s.putDomeEntry v).rtClock = s.rtClock ∧ (s.putDomeEntry v).rtUntracked = s.rtUntracked ∧
    (s.putDomeEntry v).dram = s.dram ∧ (s.putDomeEntry v).dr = s.dr ∧ (s.putDomeEntry v).poison = s.poison ∧
    (s.putDomeEntry v).ingot = s.ingot ∧ (s.putDomeEntry v).nor = s.nor ∧ (s.putDomeEntry v).norUnk = s.norUnk ∧
    (s.putDomeEntry v).pat = s.pat ∧ (s.putDomeEntry v).tdly = s.tdly ∧ (s.putDomeEntry v).scrub = s.scrub ∧
    (s.putDomeEntry v).fbuf = s.fbuf ∧ (s.putDomeEntry v).rings = s.rings ∧ (s.putDomeEntry v).haz = s.haz ∧
    (s.putDomeEntry v).marks = s.marks ∧ (s.putDomeEntry v).wsnFloor = s.wsnFloor ∧
    (s.putDomeEntry v).health = s.health ∧ (s.putDomeEntry v).qPend = s.qPend ∧ (s.putDomeEntry v).reqs = s.reqs ∧
    (s.putDomeEntry v).aborts = s.aborts ∧ (s.putDomeEntry v).gateShut = s.gateShut ∧ (s.putDomeEntry v).sqs = s.sqs ∧
    (s.putDomeEntry v).cqs = s.cqs ∧ (s.putDomeEntry v).cmds = s.cmds ∧ (s.putDomeEntry v).resets = s.resets ∧
    (s.putDomeEntry v).ctrls = s.ctrls ∧ (s.putDomeEntry v).arbs = s.arbs ∧ (s.putDomeEntry v).credit = s.credit ∧
    (s.putDomeEntry v).taken = s.taken ∧ (s.putDomeEntry v).fetchLeft = s.fetchLeft ∧
    (s.putDomeEntry v).rotLast = s.rotLast ∧ (s.putDomeEntry v).rotFirst = s.rotFirst ∧
    (s.putDomeEntry v).hazStall = s.hazStall ∧ (s.putDomeEntry v).span = s.span ∧
    (s.putDomeEntry v).spanOut = s.spanOut ∧ (s.putDomeEntry v).spanIn = s.spanIn ∧
    (s.putDomeEntry v).resOut = s.resOut ∧ (s.putDomeEntry v).jobs = s.jobs ∧
    (s.putDomeEntry v).finishing = s.finishing ∧ (s.putDomeEntry v).greads = s.greads ∧
    (s.putDomeEntry v).spanNum = s.spanNum ∧ (s.putDomeEntry v).spanArr = s.spanArr ∧ (s.putDomeEntry v).dups = s.dups ∧
    (s.putDomeEntry v).dupGen = s.dupGen ∧ (s.putDomeEntry v).rlogPos = s.rlogPos ∧
    (s.putDomeEntry v).members = s.members ∧ (s.putDomeEntry v).peerVia = s.peerVia ∧
    (s.putDomeEntry v).groups = s.groups ∧ (s.putDomeEntry v).peerBound = s.peerBound ∧
    (s.putDomeEntry v).returned = s.returned ∧ (s.putDomeEntry v).lostRanges = s.lostRanges ∧
    (s.putDomeEntry v).wmap = s.wmap ∧ (s.putDomeEntry v).wfin = s.wfin ∧ (s.putDomeEntry v).wheld = s.wheld ∧
    (s.putDomeEntry v).preserve = s.preserve ∧ (s.putDomeEntry v).kept = s.kept ∧
    (s.putDomeEntry v).metaOpen = s.metaOpen ∧ (s.putDomeEntry v).portA = s.portA ∧
    (s.putDomeEntry v).restartDue = s.restartDue ∧ (s.putDomeEntry v).pings = s.pings ∧
    (s.putDomeEntry v).chain = s.chain ∧ (s.putDomeEntry v).position = s.position ∧ (s.putDomeEntry v).power = s.power ∧
    (s.putDomeEntry v).powerOp = s.powerOp ∧ (s.putDomeEntry v).fsn = s.fsn ∧ (s.putDomeEntry v).ns = s.ns ∧
    (s.putDomeEntry v).volCap = s.volCap ∧ (s.putDomeEntry v).rsv = s.rsv ∧ (s.putDomeEntry v).tokCount = s.tokCount ∧
    (s.putDomeEntry v).fullZones = s.fullZones ∧ (s.putDomeEntry v).fam = s.fam ∧ (s.putDomeEntry v).params = s.params ∧
    (s.putDomeEntry v).alm = s.alm ∧ (s.putDomeEntry v).domeWake = s.domeWake ∧
    (s.putDomeEntry v).domeAgreed = s.domeAgreed ∧ (s.putDomeEntry v).readAt = s.readAt ∧
    (s.putDomeEntry v).sensorFail = s.sensorFail ∧ (s.putDomeEntry v).tripCount = s.tripCount ∧
    (s.putDomeEntry v).rise = s.rise ∧ (s.putDomeEntry v).stopped = s.stopped ∧
    (s.putDomeEntry v).coolSince = s.coolSince ∧ (s.putDomeEntry v).events = s.events ∧
    (s.putDomeEntry v).dies = s.dies ∧ (s.putDomeEntry v).chans = s.chans ∧ (s.putDomeEntry v).accs = s.accs ∧
    (s.putDomeEntry v).ldpc = s.ldpc ∧ (s.putDomeEntry v).nand = s.nand ∧ (s.putDomeEntry v).blkErased = s.blkErased ∧
    (s.putDomeEntry v).vault = s.vault ∧ (s.putDomeEntry v).sessions = s.sessions ∧
    (s.putDomeEntry v).trngRestarts = s.trngRestarts ∧ (s.putDomeEntry v).drbgLeft = s.drbgLeft ∧
    (s.putDomeEntry v).imageId = s.imageId ∧ (s.putDomeEntry v).verFuses = s.verFuses ∧
    (s.putDomeEntry v).nsInfo = s.nsInfo ∧ (s.putDomeEntry v).care = s.care ∧ (s.putDomeEntry v).history = s.history ∧
    (s.putDomeEntry v).fw = s.fw ∧ (s.putDomeEntry v).trust = s.trust ∧ (s.putDomeEntry v).fdp = s.fdp ∧
    (s.putDomeEntry v).lostGen = s.lostGen ∧ (s.putDomeEntry v).lostAgain = s.lostAgain ∧
    (s.putDomeEntry v).accum = s.accum ∧ (s.putDomeEntry v).boundSent = s.boundSent ∧
    (s.putDomeEntry v).zoneUsed = s.zoneUsed ∧ (s.putDomeEntry v).clean = s.clean :=
  ⟨rfl, rfl, rfl, rfl, rfl, rfl, rfl, rfl, rfl, rfl, rfl, rfl, rfl, rfl, rfl, rfl, rfl, rfl, rfl, rfl, rfl, rfl, rfl,
  rfl, rfl, rfl, rfl, rfl, rfl, rfl, rfl, rfl, rfl, rfl, rfl, rfl, rfl, rfl, rfl, rfl, rfl, rfl, rfl, rfl, rfl, rfl,
  rfl, rfl, rfl, rfl, rfl, rfl, rfl, rfl, rfl, rfl, rfl, rfl, rfl, rfl, rfl, rfl, rfl, rfl, rfl, rfl, rfl, rfl, rfl,
  rfl, rfl, rfl, rfl, rfl, rfl, rfl, rfl, rfl, rfl, rfl, rfl, rfl, rfl, rfl, rfl, rfl, rfl, rfl, rfl, rfl, rfl, rfl,
  rfl, rfl, rfl, rfl, rfl, rfl, rfl, rfl, rfl, rfl, rfl, rfl, rfl, rfl, rfl, rfl, rfl, rfl, rfl, rfl, rfl, rfl, rfl,
  rfl, rfl, rfl, rfl, rfl, rfl, rfl, rfl, rfl⟩

@[simp] theorem State.putDomeEntry_domeEntry (s : State) (v : FMap (Option DomeEntry)) : (s.putDomeEntry v).domeEntry = v := rfl

@[simp] theorem State.putDomeWake_frame (s : State) (v : FMap (Option (List (CoreId × Ticket)))) :
    (s.putDomeWake v).pending = s.pending ∧ (s.putDomeWake v).free = s.free ∧ (s.putDomeWake v).out = s.out ∧
    (s.putDomeWake v).boot = s.boot ∧ (s.putDomeWake v).tick = s.tick ∧ (s.putDomeWake v).win = s.win ∧
    (s.putDomeWake v).gap = s.gap ∧ (s.putDomeWake v).regs = s.regs ∧ (s.putDomeWake v).regPend = s.regPend ∧
    (s.putDomeWake v).cores = s.cores ∧ (s.putDomeWake v).cluster = s.cluster ∧ (s.putDomeWake v).tun = s.tun ∧
    (s.putDomeWake v).tunBufs = s.tunBufs ∧ (s.putDomeWake v).tunMin = s.tunMin ∧
    (s.putDomeWake v).tunMinPend = s.tunMinPend ∧ (s.putDomeWake v).sramErr = s.sramErr ∧
    (s.putDomeWake v).heldBack = s.heldBack ∧ (s.putDomeWake v).rtHit = s.rtHit ∧ (s.putDomeWake v).rtClock = s.rtClock ∧
    (s.putDomeWake v).rtUntracked = s.rtUntracked ∧ (s.putDomeWake v).dram = s.dram ∧ (s.putDomeWake v).dr = s.dr ∧
    (s.putDomeWake v).poison = s.poison ∧ (s.putDomeWake v).ingot = s.ingot ∧ (s.putDomeWake v).nor = s.nor ∧
    (s.putDomeWake v).norUnk = s.norUnk ∧ (s.putDomeWake v).pat = s.pat ∧ (s.putDomeWake v).tdly = s.tdly ∧
    (s.putDomeWake v).scrub = s.scrub ∧ (s.putDomeWake v).fbuf = s.fbuf ∧ (s.putDomeWake v).rings = s.rings ∧
    (s.putDomeWake v).haz = s.haz ∧ (s.putDomeWake v).marks = s.marks ∧ (s.putDomeWake v).wsnFloor = s.wsnFloor ∧
    (s.putDomeWake v).health = s.health ∧ (s.putDomeWake v).qPend = s.qPend ∧ (s.putDomeWake v).reqs = s.reqs ∧
    (s.putDomeWake v).aborts = s.aborts ∧ (s.putDomeWake v).gateShut = s.gateShut ∧ (s.putDomeWake v).sqs = s.sqs ∧
    (s.putDomeWake v).cqs = s.cqs ∧ (s.putDomeWake v).cmds = s.cmds ∧ (s.putDomeWake v).resets = s.resets ∧
    (s.putDomeWake v).ctrls = s.ctrls ∧ (s.putDomeWake v).arbs = s.arbs ∧ (s.putDomeWake v).credit = s.credit ∧
    (s.putDomeWake v).taken = s.taken ∧ (s.putDomeWake v).fetchLeft = s.fetchLeft ∧
    (s.putDomeWake v).rotLast = s.rotLast ∧ (s.putDomeWake v).rotFirst = s.rotFirst ∧
    (s.putDomeWake v).hazStall = s.hazStall ∧ (s.putDomeWake v).span = s.span ∧ (s.putDomeWake v).spanOut = s.spanOut ∧
    (s.putDomeWake v).spanIn = s.spanIn ∧ (s.putDomeWake v).resOut = s.resOut ∧ (s.putDomeWake v).jobs = s.jobs ∧
    (s.putDomeWake v).finishing = s.finishing ∧ (s.putDomeWake v).greads = s.greads ∧
    (s.putDomeWake v).spanNum = s.spanNum ∧ (s.putDomeWake v).spanArr = s.spanArr ∧ (s.putDomeWake v).dups = s.dups ∧
    (s.putDomeWake v).dupGen = s.dupGen ∧ (s.putDomeWake v).rlogPos = s.rlogPos ∧ (s.putDomeWake v).members = s.members ∧
    (s.putDomeWake v).peerVia = s.peerVia ∧ (s.putDomeWake v).groups = s.groups ∧
    (s.putDomeWake v).peerBound = s.peerBound ∧ (s.putDomeWake v).returned = s.returned ∧
    (s.putDomeWake v).lostRanges = s.lostRanges ∧ (s.putDomeWake v).wmap = s.wmap ∧ (s.putDomeWake v).wfin = s.wfin ∧
    (s.putDomeWake v).wheld = s.wheld ∧ (s.putDomeWake v).preserve = s.preserve ∧ (s.putDomeWake v).kept = s.kept ∧
    (s.putDomeWake v).metaOpen = s.metaOpen ∧ (s.putDomeWake v).portA = s.portA ∧
    (s.putDomeWake v).restartDue = s.restartDue ∧ (s.putDomeWake v).pings = s.pings ∧ (s.putDomeWake v).chain = s.chain ∧
    (s.putDomeWake v).position = s.position ∧ (s.putDomeWake v).power = s.power ∧ (s.putDomeWake v).powerOp = s.powerOp ∧
    (s.putDomeWake v).fsn = s.fsn ∧ (s.putDomeWake v).ns = s.ns ∧ (s.putDomeWake v).volCap = s.volCap ∧
    (s.putDomeWake v).rsv = s.rsv ∧ (s.putDomeWake v).tokCount = s.tokCount ∧ (s.putDomeWake v).fullZones = s.fullZones ∧
    (s.putDomeWake v).fam = s.fam ∧ (s.putDomeWake v).params = s.params ∧ (s.putDomeWake v).alm = s.alm ∧
    (s.putDomeWake v).domeEntry = s.domeEntry ∧ (s.putDomeWake v).domeAgreed = s.domeAgreed ∧
    (s.putDomeWake v).readAt = s.readAt ∧ (s.putDomeWake v).sensorFail = s.sensorFail ∧
    (s.putDomeWake v).tripCount = s.tripCount ∧ (s.putDomeWake v).rise = s.rise ∧ (s.putDomeWake v).stopped = s.stopped ∧
    (s.putDomeWake v).coolSince = s.coolSince ∧ (s.putDomeWake v).events = s.events ∧ (s.putDomeWake v).dies = s.dies ∧
    (s.putDomeWake v).chans = s.chans ∧ (s.putDomeWake v).accs = s.accs ∧ (s.putDomeWake v).ldpc = s.ldpc ∧
    (s.putDomeWake v).nand = s.nand ∧ (s.putDomeWake v).blkErased = s.blkErased ∧ (s.putDomeWake v).vault = s.vault ∧
    (s.putDomeWake v).sessions = s.sessions ∧ (s.putDomeWake v).trngRestarts = s.trngRestarts ∧
    (s.putDomeWake v).drbgLeft = s.drbgLeft ∧ (s.putDomeWake v).imageId = s.imageId ∧
    (s.putDomeWake v).verFuses = s.verFuses ∧ (s.putDomeWake v).nsInfo = s.nsInfo ∧ (s.putDomeWake v).care = s.care ∧
    (s.putDomeWake v).history = s.history ∧ (s.putDomeWake v).fw = s.fw ∧ (s.putDomeWake v).trust = s.trust ∧
    (s.putDomeWake v).fdp = s.fdp ∧ (s.putDomeWake v).lostGen = s.lostGen ∧ (s.putDomeWake v).lostAgain = s.lostAgain ∧
    (s.putDomeWake v).accum = s.accum ∧ (s.putDomeWake v).boundSent = s.boundSent ∧
    (s.putDomeWake v).zoneUsed = s.zoneUsed ∧ (s.putDomeWake v).clean = s.clean :=
  ⟨rfl, rfl, rfl, rfl, rfl, rfl, rfl, rfl, rfl, rfl, rfl, rfl, rfl, rfl, rfl, rfl, rfl, rfl, rfl, rfl, rfl, rfl, rfl,
  rfl, rfl, rfl, rfl, rfl, rfl, rfl, rfl, rfl, rfl, rfl, rfl, rfl, rfl, rfl, rfl, rfl, rfl, rfl, rfl, rfl, rfl, rfl,
  rfl, rfl, rfl, rfl, rfl, rfl, rfl, rfl, rfl, rfl, rfl, rfl, rfl, rfl, rfl, rfl, rfl, rfl, rfl, rfl, rfl, rfl, rfl,
  rfl, rfl, rfl, rfl, rfl, rfl, rfl, rfl, rfl, rfl, rfl, rfl, rfl, rfl, rfl, rfl, rfl, rfl, rfl, rfl, rfl, rfl, rfl,
  rfl, rfl, rfl, rfl, rfl, rfl, rfl, rfl, rfl, rfl, rfl, rfl, rfl, rfl, rfl, rfl, rfl, rfl, rfl, rfl, rfl, rfl, rfl,
  rfl, rfl, rfl, rfl, rfl, rfl, rfl, rfl, rfl⟩

@[simp] theorem State.putDomeWake_domeWake (s : State) (v : FMap (Option (List (CoreId × Ticket)))) : (s.putDomeWake v).domeWake = v := rfl

@[simp] theorem State.putDomeAgreed_frame (s : State) (v : FMap (List Nat)) :
    (s.putDomeAgreed v).pending = s.pending ∧ (s.putDomeAgreed v).free = s.free ∧ (s.putDomeAgreed v).out = s.out ∧
    (s.putDomeAgreed v).boot = s.boot ∧ (s.putDomeAgreed v).tick = s.tick ∧ (s.putDomeAgreed v).win = s.win ∧
    (s.putDomeAgreed v).gap = s.gap ∧ (s.putDomeAgreed v).regs = s.regs ∧ (s.putDomeAgreed v).regPend = s.regPend ∧
    (s.putDomeAgreed v).cores = s.cores ∧ (s.putDomeAgreed v).cluster = s.cluster ∧ (s.putDomeAgreed v).tun = s.tun ∧
    (s.putDomeAgreed v).tunBufs = s.tunBufs ∧ (s.putDomeAgreed v).tunMin = s.tunMin ∧
    (s.putDomeAgreed v).tunMinPend = s.tunMinPend ∧ (s.putDomeAgreed v).sramErr = s.sramErr ∧
    (s.putDomeAgreed v).heldBack = s.heldBack ∧ (s.putDomeAgreed v).rtHit = s.rtHit ∧
    (s.putDomeAgreed v).rtClock = s.rtClock ∧ (s.putDomeAgreed v).rtUntracked = s.rtUntracked ∧
    (s.putDomeAgreed v).dram = s.dram ∧ (s.putDomeAgreed v).dr = s.dr ∧ (s.putDomeAgreed v).poison = s.poison ∧
    (s.putDomeAgreed v).ingot = s.ingot ∧ (s.putDomeAgreed v).nor = s.nor ∧ (s.putDomeAgreed v).norUnk = s.norUnk ∧
    (s.putDomeAgreed v).pat = s.pat ∧ (s.putDomeAgreed v).tdly = s.tdly ∧ (s.putDomeAgreed v).scrub = s.scrub ∧
    (s.putDomeAgreed v).fbuf = s.fbuf ∧ (s.putDomeAgreed v).rings = s.rings ∧ (s.putDomeAgreed v).haz = s.haz ∧
    (s.putDomeAgreed v).marks = s.marks ∧ (s.putDomeAgreed v).wsnFloor = s.wsnFloor ∧
    (s.putDomeAgreed v).health = s.health ∧ (s.putDomeAgreed v).qPend = s.qPend ∧ (s.putDomeAgreed v).reqs = s.reqs ∧
    (s.putDomeAgreed v).aborts = s.aborts ∧ (s.putDomeAgreed v).gateShut = s.gateShut ∧ (s.putDomeAgreed v).sqs = s.sqs ∧
    (s.putDomeAgreed v).cqs = s.cqs ∧ (s.putDomeAgreed v).cmds = s.cmds ∧ (s.putDomeAgreed v).resets = s.resets ∧
    (s.putDomeAgreed v).ctrls = s.ctrls ∧ (s.putDomeAgreed v).arbs = s.arbs ∧ (s.putDomeAgreed v).credit = s.credit ∧
    (s.putDomeAgreed v).taken = s.taken ∧ (s.putDomeAgreed v).fetchLeft = s.fetchLeft ∧
    (s.putDomeAgreed v).rotLast = s.rotLast ∧ (s.putDomeAgreed v).rotFirst = s.rotFirst ∧
    (s.putDomeAgreed v).hazStall = s.hazStall ∧ (s.putDomeAgreed v).span = s.span ∧
    (s.putDomeAgreed v).spanOut = s.spanOut ∧ (s.putDomeAgreed v).spanIn = s.spanIn ∧
    (s.putDomeAgreed v).resOut = s.resOut ∧ (s.putDomeAgreed v).jobs = s.jobs ∧
    (s.putDomeAgreed v).finishing = s.finishing ∧ (s.putDomeAgreed v).greads = s.greads ∧
    (s.putDomeAgreed v).spanNum = s.spanNum ∧ (s.putDomeAgreed v).spanArr = s.spanArr ∧
    (s.putDomeAgreed v).dups = s.dups ∧ (s.putDomeAgreed v).dupGen = s.dupGen ∧ (s.putDomeAgreed v).rlogPos = s.rlogPos ∧
    (s.putDomeAgreed v).members = s.members ∧ (s.putDomeAgreed v).peerVia = s.peerVia ∧
    (s.putDomeAgreed v).groups = s.groups ∧ (s.putDomeAgreed v).peerBound = s.peerBound ∧
    (s.putDomeAgreed v).returned = s.returned ∧ (s.putDomeAgreed v).lostRanges = s.lostRanges ∧
    (s.putDomeAgreed v).wmap = s.wmap ∧ (s.putDomeAgreed v).wfin = s.wfin ∧ (s.putDomeAgreed v).wheld = s.wheld ∧
    (s.putDomeAgreed v).preserve = s.preserve ∧ (s.putDomeAgreed v).kept = s.kept ∧
    (s.putDomeAgreed v).metaOpen = s.metaOpen ∧ (s.putDomeAgreed v).portA = s.portA ∧
    (s.putDomeAgreed v).restartDue = s.restartDue ∧ (s.putDomeAgreed v).pings = s.pings ∧
    (s.putDomeAgreed v).chain = s.chain ∧ (s.putDomeAgreed v).position = s.position ∧
    (s.putDomeAgreed v).power = s.power ∧ (s.putDomeAgreed v).powerOp = s.powerOp ∧ (s.putDomeAgreed v).fsn = s.fsn ∧
    (s.putDomeAgreed v).ns = s.ns ∧ (s.putDomeAgreed v).volCap = s.volCap ∧ (s.putDomeAgreed v).rsv = s.rsv ∧
    (s.putDomeAgreed v).tokCount = s.tokCount ∧ (s.putDomeAgreed v).fullZones = s.fullZones ∧
    (s.putDomeAgreed v).fam = s.fam ∧ (s.putDomeAgreed v).params = s.params ∧ (s.putDomeAgreed v).alm = s.alm ∧
    (s.putDomeAgreed v).domeEntry = s.domeEntry ∧ (s.putDomeAgreed v).domeWake = s.domeWake ∧
    (s.putDomeAgreed v).readAt = s.readAt ∧ (s.putDomeAgreed v).sensorFail = s.sensorFail ∧
    (s.putDomeAgreed v).tripCount = s.tripCount ∧ (s.putDomeAgreed v).rise = s.rise ∧
    (s.putDomeAgreed v).stopped = s.stopped ∧ (s.putDomeAgreed v).coolSince = s.coolSince ∧
    (s.putDomeAgreed v).events = s.events ∧ (s.putDomeAgreed v).dies = s.dies ∧ (s.putDomeAgreed v).chans = s.chans ∧
    (s.putDomeAgreed v).accs = s.accs ∧ (s.putDomeAgreed v).ldpc = s.ldpc ∧ (s.putDomeAgreed v).nand = s.nand ∧
    (s.putDomeAgreed v).blkErased = s.blkErased ∧ (s.putDomeAgreed v).vault = s.vault ∧
    (s.putDomeAgreed v).sessions = s.sessions ∧ (s.putDomeAgreed v).trngRestarts = s.trngRestarts ∧
    (s.putDomeAgreed v).drbgLeft = s.drbgLeft ∧ (s.putDomeAgreed v).imageId = s.imageId ∧
    (s.putDomeAgreed v).verFuses = s.verFuses ∧ (s.putDomeAgreed v).nsInfo = s.nsInfo ∧
    (s.putDomeAgreed v).care = s.care ∧ (s.putDomeAgreed v).history = s.history ∧ (s.putDomeAgreed v).fw = s.fw ∧
    (s.putDomeAgreed v).trust = s.trust ∧ (s.putDomeAgreed v).fdp = s.fdp ∧ (s.putDomeAgreed v).lostGen = s.lostGen ∧
    (s.putDomeAgreed v).lostAgain = s.lostAgain ∧ (s.putDomeAgreed v).accum = s.accum ∧
    (s.putDomeAgreed v).boundSent = s.boundSent ∧ (s.putDomeAgreed v).zoneUsed = s.zoneUsed ∧
    (s.putDomeAgreed v).clean = s.clean :=
  ⟨rfl, rfl, rfl, rfl, rfl, rfl, rfl, rfl, rfl, rfl, rfl, rfl, rfl, rfl, rfl, rfl, rfl, rfl, rfl, rfl, rfl, rfl, rfl,
  rfl, rfl, rfl, rfl, rfl, rfl, rfl, rfl, rfl, rfl, rfl, rfl, rfl, rfl, rfl, rfl, rfl, rfl, rfl, rfl, rfl, rfl, rfl,
  rfl, rfl, rfl, rfl, rfl, rfl, rfl, rfl, rfl, rfl, rfl, rfl, rfl, rfl, rfl, rfl, rfl, rfl, rfl, rfl, rfl, rfl, rfl,
  rfl, rfl, rfl, rfl, rfl, rfl, rfl, rfl, rfl, rfl, rfl, rfl, rfl, rfl, rfl, rfl, rfl, rfl, rfl, rfl, rfl, rfl, rfl,
  rfl, rfl, rfl, rfl, rfl, rfl, rfl, rfl, rfl, rfl, rfl, rfl, rfl, rfl, rfl, rfl, rfl, rfl, rfl, rfl, rfl, rfl, rfl,
  rfl, rfl, rfl, rfl, rfl, rfl, rfl, rfl, rfl⟩

@[simp] theorem State.putDomeAgreed_domeAgreed (s : State) (v : FMap (List Nat)) : (s.putDomeAgreed v).domeAgreed = v := rfl

@[simp] theorem State.putReadAt_frame (s : State) (v : FMap W64) :
    (s.putReadAt v).pending = s.pending ∧ (s.putReadAt v).free = s.free ∧ (s.putReadAt v).out = s.out ∧
    (s.putReadAt v).boot = s.boot ∧ (s.putReadAt v).tick = s.tick ∧ (s.putReadAt v).win = s.win ∧
    (s.putReadAt v).gap = s.gap ∧ (s.putReadAt v).regs = s.regs ∧ (s.putReadAt v).regPend = s.regPend ∧
    (s.putReadAt v).cores = s.cores ∧ (s.putReadAt v).cluster = s.cluster ∧ (s.putReadAt v).tun = s.tun ∧
    (s.putReadAt v).tunBufs = s.tunBufs ∧ (s.putReadAt v).tunMin = s.tunMin ∧ (s.putReadAt v).tunMinPend = s.tunMinPend ∧
    (s.putReadAt v).sramErr = s.sramErr ∧ (s.putReadAt v).heldBack = s.heldBack ∧ (s.putReadAt v).rtHit = s.rtHit ∧
    (s.putReadAt v).rtClock = s.rtClock ∧ (s.putReadAt v).rtUntracked = s.rtUntracked ∧ (s.putReadAt v).dram = s.dram ∧
    (s.putReadAt v).dr = s.dr ∧ (s.putReadAt v).poison = s.poison ∧ (s.putReadAt v).ingot = s.ingot ∧
    (s.putReadAt v).nor = s.nor ∧ (s.putReadAt v).norUnk = s.norUnk ∧ (s.putReadAt v).pat = s.pat ∧
    (s.putReadAt v).tdly = s.tdly ∧ (s.putReadAt v).scrub = s.scrub ∧ (s.putReadAt v).fbuf = s.fbuf ∧
    (s.putReadAt v).rings = s.rings ∧ (s.putReadAt v).haz = s.haz ∧ (s.putReadAt v).marks = s.marks ∧
    (s.putReadAt v).wsnFloor = s.wsnFloor ∧ (s.putReadAt v).health = s.health ∧ (s.putReadAt v).qPend = s.qPend ∧
    (s.putReadAt v).reqs = s.reqs ∧ (s.putReadAt v).aborts = s.aborts ∧ (s.putReadAt v).gateShut = s.gateShut ∧
    (s.putReadAt v).sqs = s.sqs ∧ (s.putReadAt v).cqs = s.cqs ∧ (s.putReadAt v).cmds = s.cmds ∧
    (s.putReadAt v).resets = s.resets ∧ (s.putReadAt v).ctrls = s.ctrls ∧ (s.putReadAt v).arbs = s.arbs ∧
    (s.putReadAt v).credit = s.credit ∧ (s.putReadAt v).taken = s.taken ∧ (s.putReadAt v).fetchLeft = s.fetchLeft ∧
    (s.putReadAt v).rotLast = s.rotLast ∧ (s.putReadAt v).rotFirst = s.rotFirst ∧ (s.putReadAt v).hazStall = s.hazStall ∧
    (s.putReadAt v).span = s.span ∧ (s.putReadAt v).spanOut = s.spanOut ∧ (s.putReadAt v).spanIn = s.spanIn ∧
    (s.putReadAt v).resOut = s.resOut ∧ (s.putReadAt v).jobs = s.jobs ∧ (s.putReadAt v).finishing = s.finishing ∧
    (s.putReadAt v).greads = s.greads ∧ (s.putReadAt v).spanNum = s.spanNum ∧ (s.putReadAt v).spanArr = s.spanArr ∧
    (s.putReadAt v).dups = s.dups ∧ (s.putReadAt v).dupGen = s.dupGen ∧ (s.putReadAt v).rlogPos = s.rlogPos ∧
    (s.putReadAt v).members = s.members ∧ (s.putReadAt v).peerVia = s.peerVia ∧ (s.putReadAt v).groups = s.groups ∧
    (s.putReadAt v).peerBound = s.peerBound ∧ (s.putReadAt v).returned = s.returned ∧
    (s.putReadAt v).lostRanges = s.lostRanges ∧ (s.putReadAt v).wmap = s.wmap ∧ (s.putReadAt v).wfin = s.wfin ∧
    (s.putReadAt v).wheld = s.wheld ∧ (s.putReadAt v).preserve = s.preserve ∧ (s.putReadAt v).kept = s.kept ∧
    (s.putReadAt v).metaOpen = s.metaOpen ∧ (s.putReadAt v).portA = s.portA ∧ (s.putReadAt v).restartDue = s.restartDue ∧
    (s.putReadAt v).pings = s.pings ∧ (s.putReadAt v).chain = s.chain ∧ (s.putReadAt v).position = s.position ∧
    (s.putReadAt v).power = s.power ∧ (s.putReadAt v).powerOp = s.powerOp ∧ (s.putReadAt v).fsn = s.fsn ∧
    (s.putReadAt v).ns = s.ns ∧ (s.putReadAt v).volCap = s.volCap ∧ (s.putReadAt v).rsv = s.rsv ∧
    (s.putReadAt v).tokCount = s.tokCount ∧ (s.putReadAt v).fullZones = s.fullZones ∧ (s.putReadAt v).fam = s.fam ∧
    (s.putReadAt v).params = s.params ∧ (s.putReadAt v).alm = s.alm ∧ (s.putReadAt v).domeEntry = s.domeEntry ∧
    (s.putReadAt v).domeWake = s.domeWake ∧ (s.putReadAt v).domeAgreed = s.domeAgreed ∧
    (s.putReadAt v).sensorFail = s.sensorFail ∧ (s.putReadAt v).tripCount = s.tripCount ∧ (s.putReadAt v).rise = s.rise ∧
    (s.putReadAt v).stopped = s.stopped ∧ (s.putReadAt v).coolSince = s.coolSince ∧ (s.putReadAt v).events = s.events ∧
    (s.putReadAt v).dies = s.dies ∧ (s.putReadAt v).chans = s.chans ∧ (s.putReadAt v).accs = s.accs ∧
    (s.putReadAt v).ldpc = s.ldpc ∧ (s.putReadAt v).nand = s.nand ∧ (s.putReadAt v).blkErased = s.blkErased ∧
    (s.putReadAt v).vault = s.vault ∧ (s.putReadAt v).sessions = s.sessions ∧
    (s.putReadAt v).trngRestarts = s.trngRestarts ∧ (s.putReadAt v).drbgLeft = s.drbgLeft ∧
    (s.putReadAt v).imageId = s.imageId ∧ (s.putReadAt v).verFuses = s.verFuses ∧ (s.putReadAt v).nsInfo = s.nsInfo ∧
    (s.putReadAt v).care = s.care ∧ (s.putReadAt v).history = s.history ∧ (s.putReadAt v).fw = s.fw ∧
    (s.putReadAt v).trust = s.trust ∧ (s.putReadAt v).fdp = s.fdp ∧ (s.putReadAt v).lostGen = s.lostGen ∧
    (s.putReadAt v).lostAgain = s.lostAgain ∧ (s.putReadAt v).accum = s.accum ∧ (s.putReadAt v).boundSent = s.boundSent ∧
    (s.putReadAt v).zoneUsed = s.zoneUsed ∧ (s.putReadAt v).clean = s.clean :=
  ⟨rfl, rfl, rfl, rfl, rfl, rfl, rfl, rfl, rfl, rfl, rfl, rfl, rfl, rfl, rfl, rfl, rfl, rfl, rfl, rfl, rfl, rfl, rfl,
  rfl, rfl, rfl, rfl, rfl, rfl, rfl, rfl, rfl, rfl, rfl, rfl, rfl, rfl, rfl, rfl, rfl, rfl, rfl, rfl, rfl, rfl, rfl,
  rfl, rfl, rfl, rfl, rfl, rfl, rfl, rfl, rfl, rfl, rfl, rfl, rfl, rfl, rfl, rfl, rfl, rfl, rfl, rfl, rfl, rfl, rfl,
  rfl, rfl, rfl, rfl, rfl, rfl, rfl, rfl, rfl, rfl, rfl, rfl, rfl, rfl, rfl, rfl, rfl, rfl, rfl, rfl, rfl, rfl, rfl,
  rfl, rfl, rfl, rfl, rfl, rfl, rfl, rfl, rfl, rfl, rfl, rfl, rfl, rfl, rfl, rfl, rfl, rfl, rfl, rfl, rfl, rfl, rfl,
  rfl, rfl, rfl, rfl, rfl, rfl, rfl, rfl, rfl⟩

@[simp] theorem State.putReadAt_readAt (s : State) (v : FMap W64) : (s.putReadAt v).readAt = v := rfl

@[simp] theorem State.putSensorFail_frame (s : State) (v : List Nat) :
    (s.putSensorFail v).pending = s.pending ∧ (s.putSensorFail v).free = s.free ∧ (s.putSensorFail v).out = s.out ∧
    (s.putSensorFail v).boot = s.boot ∧ (s.putSensorFail v).tick = s.tick ∧ (s.putSensorFail v).win = s.win ∧
    (s.putSensorFail v).gap = s.gap ∧ (s.putSensorFail v).regs = s.regs ∧ (s.putSensorFail v).regPend = s.regPend ∧
    (s.putSensorFail v).cores = s.cores ∧ (s.putSensorFail v).cluster = s.cluster ∧ (s.putSensorFail v).tun = s.tun ∧
    (s.putSensorFail v).tunBufs = s.tunBufs ∧ (s.putSensorFail v).tunMin = s.tunMin ∧
    (s.putSensorFail v).tunMinPend = s.tunMinPend ∧ (s.putSensorFail v).sramErr = s.sramErr ∧
    (s.putSensorFail v).heldBack = s.heldBack ∧ (s.putSensorFail v).rtHit = s.rtHit ∧
    (s.putSensorFail v).rtClock = s.rtClock ∧ (s.putSensorFail v).rtUntracked = s.rtUntracked ∧
    (s.putSensorFail v).dram = s.dram ∧ (s.putSensorFail v).dr = s.dr ∧ (s.putSensorFail v).poison = s.poison ∧
    (s.putSensorFail v).ingot = s.ingot ∧ (s.putSensorFail v).nor = s.nor ∧ (s.putSensorFail v).norUnk = s.norUnk ∧
    (s.putSensorFail v).pat = s.pat ∧ (s.putSensorFail v).tdly = s.tdly ∧ (s.putSensorFail v).scrub = s.scrub ∧
    (s.putSensorFail v).fbuf = s.fbuf ∧ (s.putSensorFail v).rings = s.rings ∧ (s.putSensorFail v).haz = s.haz ∧
    (s.putSensorFail v).marks = s.marks ∧ (s.putSensorFail v).wsnFloor = s.wsnFloor ∧
    (s.putSensorFail v).health = s.health ∧ (s.putSensorFail v).qPend = s.qPend ∧ (s.putSensorFail v).reqs = s.reqs ∧
    (s.putSensorFail v).aborts = s.aborts ∧ (s.putSensorFail v).gateShut = s.gateShut ∧ (s.putSensorFail v).sqs = s.sqs ∧
    (s.putSensorFail v).cqs = s.cqs ∧ (s.putSensorFail v).cmds = s.cmds ∧ (s.putSensorFail v).resets = s.resets ∧
    (s.putSensorFail v).ctrls = s.ctrls ∧ (s.putSensorFail v).arbs = s.arbs ∧ (s.putSensorFail v).credit = s.credit ∧
    (s.putSensorFail v).taken = s.taken ∧ (s.putSensorFail v).fetchLeft = s.fetchLeft ∧
    (s.putSensorFail v).rotLast = s.rotLast ∧ (s.putSensorFail v).rotFirst = s.rotFirst ∧
    (s.putSensorFail v).hazStall = s.hazStall ∧ (s.putSensorFail v).span = s.span ∧
    (s.putSensorFail v).spanOut = s.spanOut ∧ (s.putSensorFail v).spanIn = s.spanIn ∧
    (s.putSensorFail v).resOut = s.resOut ∧ (s.putSensorFail v).jobs = s.jobs ∧
    (s.putSensorFail v).finishing = s.finishing ∧ (s.putSensorFail v).greads = s.greads ∧
    (s.putSensorFail v).spanNum = s.spanNum ∧ (s.putSensorFail v).spanArr = s.spanArr ∧
    (s.putSensorFail v).dups = s.dups ∧ (s.putSensorFail v).dupGen = s.dupGen ∧ (s.putSensorFail v).rlogPos = s.rlogPos ∧
    (s.putSensorFail v).members = s.members ∧ (s.putSensorFail v).peerVia = s.peerVia ∧
    (s.putSensorFail v).groups = s.groups ∧ (s.putSensorFail v).peerBound = s.peerBound ∧
    (s.putSensorFail v).returned = s.returned ∧ (s.putSensorFail v).lostRanges = s.lostRanges ∧
    (s.putSensorFail v).wmap = s.wmap ∧ (s.putSensorFail v).wfin = s.wfin ∧ (s.putSensorFail v).wheld = s.wheld ∧
    (s.putSensorFail v).preserve = s.preserve ∧ (s.putSensorFail v).kept = s.kept ∧
    (s.putSensorFail v).metaOpen = s.metaOpen ∧ (s.putSensorFail v).portA = s.portA ∧
    (s.putSensorFail v).restartDue = s.restartDue ∧ (s.putSensorFail v).pings = s.pings ∧
    (s.putSensorFail v).chain = s.chain ∧ (s.putSensorFail v).position = s.position ∧
    (s.putSensorFail v).power = s.power ∧ (s.putSensorFail v).powerOp = s.powerOp ∧ (s.putSensorFail v).fsn = s.fsn ∧
    (s.putSensorFail v).ns = s.ns ∧ (s.putSensorFail v).volCap = s.volCap ∧ (s.putSensorFail v).rsv = s.rsv ∧
    (s.putSensorFail v).tokCount = s.tokCount ∧ (s.putSensorFail v).fullZones = s.fullZones ∧
    (s.putSensorFail v).fam = s.fam ∧ (s.putSensorFail v).params = s.params ∧ (s.putSensorFail v).alm = s.alm ∧
    (s.putSensorFail v).domeEntry = s.domeEntry ∧ (s.putSensorFail v).domeWake = s.domeWake ∧
    (s.putSensorFail v).domeAgreed = s.domeAgreed ∧ (s.putSensorFail v).readAt = s.readAt ∧
    (s.putSensorFail v).tripCount = s.tripCount ∧ (s.putSensorFail v).rise = s.rise ∧
    (s.putSensorFail v).stopped = s.stopped ∧ (s.putSensorFail v).coolSince = s.coolSince ∧
    (s.putSensorFail v).events = s.events ∧ (s.putSensorFail v).dies = s.dies ∧ (s.putSensorFail v).chans = s.chans ∧
    (s.putSensorFail v).accs = s.accs ∧ (s.putSensorFail v).ldpc = s.ldpc ∧ (s.putSensorFail v).nand = s.nand ∧
    (s.putSensorFail v).blkErased = s.blkErased ∧ (s.putSensorFail v).vault = s.vault ∧
    (s.putSensorFail v).sessions = s.sessions ∧ (s.putSensorFail v).trngRestarts = s.trngRestarts ∧
    (s.putSensorFail v).drbgLeft = s.drbgLeft ∧ (s.putSensorFail v).imageId = s.imageId ∧
    (s.putSensorFail v).verFuses = s.verFuses ∧ (s.putSensorFail v).nsInfo = s.nsInfo ∧
    (s.putSensorFail v).care = s.care ∧ (s.putSensorFail v).history = s.history ∧ (s.putSensorFail v).fw = s.fw ∧
    (s.putSensorFail v).trust = s.trust ∧ (s.putSensorFail v).fdp = s.fdp ∧ (s.putSensorFail v).lostGen = s.lostGen ∧
    (s.putSensorFail v).lostAgain = s.lostAgain ∧ (s.putSensorFail v).accum = s.accum ∧
    (s.putSensorFail v).boundSent = s.boundSent ∧ (s.putSensorFail v).zoneUsed = s.zoneUsed ∧
    (s.putSensorFail v).clean = s.clean :=
  ⟨rfl, rfl, rfl, rfl, rfl, rfl, rfl, rfl, rfl, rfl, rfl, rfl, rfl, rfl, rfl, rfl, rfl, rfl, rfl, rfl, rfl, rfl, rfl,
  rfl, rfl, rfl, rfl, rfl, rfl, rfl, rfl, rfl, rfl, rfl, rfl, rfl, rfl, rfl, rfl, rfl, rfl, rfl, rfl, rfl, rfl, rfl,
  rfl, rfl, rfl, rfl, rfl, rfl, rfl, rfl, rfl, rfl, rfl, rfl, rfl, rfl, rfl, rfl, rfl, rfl, rfl, rfl, rfl, rfl, rfl,
  rfl, rfl, rfl, rfl, rfl, rfl, rfl, rfl, rfl, rfl, rfl, rfl, rfl, rfl, rfl, rfl, rfl, rfl, rfl, rfl, rfl, rfl, rfl,
  rfl, rfl, rfl, rfl, rfl, rfl, rfl, rfl, rfl, rfl, rfl, rfl, rfl, rfl, rfl, rfl, rfl, rfl, rfl, rfl, rfl, rfl, rfl,
  rfl, rfl, rfl, rfl, rfl, rfl, rfl, rfl, rfl⟩

@[simp] theorem State.putSensorFail_sensorFail (s : State) (v : List Nat) : (s.putSensorFail v).sensorFail = v := rfl

@[simp] theorem State.putTripCount_frame (s : State) (v : Nat) :
    (s.putTripCount v).pending = s.pending ∧ (s.putTripCount v).free = s.free ∧ (s.putTripCount v).out = s.out ∧
    (s.putTripCount v).boot = s.boot ∧ (s.putTripCount v).tick = s.tick ∧ (s.putTripCount v).win = s.win ∧
    (s.putTripCount v).gap = s.gap ∧ (s.putTripCount v).regs = s.regs ∧ (s.putTripCount v).regPend = s.regPend ∧
    (s.putTripCount v).cores = s.cores ∧ (s.putTripCount v).cluster = s.cluster ∧ (s.putTripCount v).tun = s.tun ∧
    (s.putTripCount v).tunBufs = s.tunBufs ∧ (s.putTripCount v).tunMin = s.tunMin ∧
    (s.putTripCount v).tunMinPend = s.tunMinPend ∧ (s.putTripCount v).sramErr = s.sramErr ∧
    (s.putTripCount v).heldBack = s.heldBack ∧ (s.putTripCount v).rtHit = s.rtHit ∧
    (s.putTripCount v).rtClock = s.rtClock ∧ (s.putTripCount v).rtUntracked = s.rtUntracked ∧
    (s.putTripCount v).dram = s.dram ∧ (s.putTripCount v).dr = s.dr ∧ (s.putTripCount v).poison = s.poison ∧
    (s.putTripCount v).ingot = s.ingot ∧ (s.putTripCount v).nor = s.nor ∧ (s.putTripCount v).norUnk = s.norUnk ∧
    (s.putTripCount v).pat = s.pat ∧ (s.putTripCount v).tdly = s.tdly ∧ (s.putTripCount v).scrub = s.scrub ∧
    (s.putTripCount v).fbuf = s.fbuf ∧ (s.putTripCount v).rings = s.rings ∧ (s.putTripCount v).haz = s.haz ∧
    (s.putTripCount v).marks = s.marks ∧ (s.putTripCount v).wsnFloor = s.wsnFloor ∧
    (s.putTripCount v).health = s.health ∧ (s.putTripCount v).qPend = s.qPend ∧ (s.putTripCount v).reqs = s.reqs ∧
    (s.putTripCount v).aborts = s.aborts ∧ (s.putTripCount v).gateShut = s.gateShut ∧ (s.putTripCount v).sqs = s.sqs ∧
    (s.putTripCount v).cqs = s.cqs ∧ (s.putTripCount v).cmds = s.cmds ∧ (s.putTripCount v).resets = s.resets ∧
    (s.putTripCount v).ctrls = s.ctrls ∧ (s.putTripCount v).arbs = s.arbs ∧ (s.putTripCount v).credit = s.credit ∧
    (s.putTripCount v).taken = s.taken ∧ (s.putTripCount v).fetchLeft = s.fetchLeft ∧
    (s.putTripCount v).rotLast = s.rotLast ∧ (s.putTripCount v).rotFirst = s.rotFirst ∧
    (s.putTripCount v).hazStall = s.hazStall ∧ (s.putTripCount v).span = s.span ∧
    (s.putTripCount v).spanOut = s.spanOut ∧ (s.putTripCount v).spanIn = s.spanIn ∧
    (s.putTripCount v).resOut = s.resOut ∧ (s.putTripCount v).jobs = s.jobs ∧
    (s.putTripCount v).finishing = s.finishing ∧ (s.putTripCount v).greads = s.greads ∧
    (s.putTripCount v).spanNum = s.spanNum ∧ (s.putTripCount v).spanArr = s.spanArr ∧ (s.putTripCount v).dups = s.dups ∧
    (s.putTripCount v).dupGen = s.dupGen ∧ (s.putTripCount v).rlogPos = s.rlogPos ∧
    (s.putTripCount v).members = s.members ∧ (s.putTripCount v).peerVia = s.peerVia ∧
    (s.putTripCount v).groups = s.groups ∧ (s.putTripCount v).peerBound = s.peerBound ∧
    (s.putTripCount v).returned = s.returned ∧ (s.putTripCount v).lostRanges = s.lostRanges ∧
    (s.putTripCount v).wmap = s.wmap ∧ (s.putTripCount v).wfin = s.wfin ∧ (s.putTripCount v).wheld = s.wheld ∧
    (s.putTripCount v).preserve = s.preserve ∧ (s.putTripCount v).kept = s.kept ∧
    (s.putTripCount v).metaOpen = s.metaOpen ∧ (s.putTripCount v).portA = s.portA ∧
    (s.putTripCount v).restartDue = s.restartDue ∧ (s.putTripCount v).pings = s.pings ∧
    (s.putTripCount v).chain = s.chain ∧ (s.putTripCount v).position = s.position ∧ (s.putTripCount v).power = s.power ∧
    (s.putTripCount v).powerOp = s.powerOp ∧ (s.putTripCount v).fsn = s.fsn ∧ (s.putTripCount v).ns = s.ns ∧
    (s.putTripCount v).volCap = s.volCap ∧ (s.putTripCount v).rsv = s.rsv ∧ (s.putTripCount v).tokCount = s.tokCount ∧
    (s.putTripCount v).fullZones = s.fullZones ∧ (s.putTripCount v).fam = s.fam ∧ (s.putTripCount v).params = s.params ∧
    (s.putTripCount v).alm = s.alm ∧ (s.putTripCount v).domeEntry = s.domeEntry ∧
    (s.putTripCount v).domeWake = s.domeWake ∧ (s.putTripCount v).domeAgreed = s.domeAgreed ∧
    (s.putTripCount v).readAt = s.readAt ∧ (s.putTripCount v).sensorFail = s.sensorFail ∧
    (s.putTripCount v).rise = s.rise ∧ (s.putTripCount v).stopped = s.stopped ∧
    (s.putTripCount v).coolSince = s.coolSince ∧ (s.putTripCount v).events = s.events ∧
    (s.putTripCount v).dies = s.dies ∧ (s.putTripCount v).chans = s.chans ∧ (s.putTripCount v).accs = s.accs ∧
    (s.putTripCount v).ldpc = s.ldpc ∧ (s.putTripCount v).nand = s.nand ∧ (s.putTripCount v).blkErased = s.blkErased ∧
    (s.putTripCount v).vault = s.vault ∧ (s.putTripCount v).sessions = s.sessions ∧
    (s.putTripCount v).trngRestarts = s.trngRestarts ∧ (s.putTripCount v).drbgLeft = s.drbgLeft ∧
    (s.putTripCount v).imageId = s.imageId ∧ (s.putTripCount v).verFuses = s.verFuses ∧
    (s.putTripCount v).nsInfo = s.nsInfo ∧ (s.putTripCount v).care = s.care ∧ (s.putTripCount v).history = s.history ∧
    (s.putTripCount v).fw = s.fw ∧ (s.putTripCount v).trust = s.trust ∧ (s.putTripCount v).fdp = s.fdp ∧
    (s.putTripCount v).lostGen = s.lostGen ∧ (s.putTripCount v).lostAgain = s.lostAgain ∧
    (s.putTripCount v).accum = s.accum ∧ (s.putTripCount v).boundSent = s.boundSent ∧
    (s.putTripCount v).zoneUsed = s.zoneUsed ∧ (s.putTripCount v).clean = s.clean :=
  ⟨rfl, rfl, rfl, rfl, rfl, rfl, rfl, rfl, rfl, rfl, rfl, rfl, rfl, rfl, rfl, rfl, rfl, rfl, rfl, rfl, rfl, rfl, rfl,
  rfl, rfl, rfl, rfl, rfl, rfl, rfl, rfl, rfl, rfl, rfl, rfl, rfl, rfl, rfl, rfl, rfl, rfl, rfl, rfl, rfl, rfl, rfl,
  rfl, rfl, rfl, rfl, rfl, rfl, rfl, rfl, rfl, rfl, rfl, rfl, rfl, rfl, rfl, rfl, rfl, rfl, rfl, rfl, rfl, rfl, rfl,
  rfl, rfl, rfl, rfl, rfl, rfl, rfl, rfl, rfl, rfl, rfl, rfl, rfl, rfl, rfl, rfl, rfl, rfl, rfl, rfl, rfl, rfl, rfl,
  rfl, rfl, rfl, rfl, rfl, rfl, rfl, rfl, rfl, rfl, rfl, rfl, rfl, rfl, rfl, rfl, rfl, rfl, rfl, rfl, rfl, rfl, rfl,
  rfl, rfl, rfl, rfl, rfl, rfl, rfl, rfl, rfl⟩

@[simp] theorem State.putTripCount_tripCount (s : State) (v : Nat) : (s.putTripCount v).tripCount = v := rfl

@[simp] theorem State.putRise_frame (s : State) (v : List Int) :
    (s.putRise v).pending = s.pending ∧ (s.putRise v).free = s.free ∧ (s.putRise v).out = s.out ∧
    (s.putRise v).boot = s.boot ∧ (s.putRise v).tick = s.tick ∧ (s.putRise v).win = s.win ∧ (s.putRise v).gap = s.gap ∧
    (s.putRise v).regs = s.regs ∧ (s.putRise v).regPend = s.regPend ∧ (s.putRise v).cores = s.cores ∧
    (s.putRise v).cluster = s.cluster ∧ (s.putRise v).tun = s.tun ∧ (s.putRise v).tunBufs = s.tunBufs ∧
    (s.putRise v).tunMin = s.tunMin ∧ (s.putRise v).tunMinPend = s.tunMinPend ∧ (s.putRise v).sramErr = s.sramErr ∧
    (s.putRise v).heldBack = s.heldBack ∧ (s.putRise v).rtHit = s.rtHit ∧ (s.putRise v).rtClock = s.rtClock ∧
    (s.putRise v).rtUntracked = s.rtUntracked ∧ (s.putRise v).dram = s.dram ∧ (s.putRise v).dr = s.dr ∧
    (s.putRise v).poison = s.poison ∧ (s.putRise v).ingot = s.ingot ∧ (s.putRise v).nor = s.nor ∧
    (s.putRise v).norUnk = s.norUnk ∧ (s.putRise v).pat = s.pat ∧ (s.putRise v).tdly = s.tdly ∧
    (s.putRise v).scrub = s.scrub ∧ (s.putRise v).fbuf = s.fbuf ∧ (s.putRise v).rings = s.rings ∧
    (s.putRise v).haz = s.haz ∧ (s.putRise v).marks = s.marks ∧ (s.putRise v).wsnFloor = s.wsnFloor ∧
    (s.putRise v).health = s.health ∧ (s.putRise v).qPend = s.qPend ∧ (s.putRise v).reqs = s.reqs ∧
    (s.putRise v).aborts = s.aborts ∧ (s.putRise v).gateShut = s.gateShut ∧ (s.putRise v).sqs = s.sqs ∧
    (s.putRise v).cqs = s.cqs ∧ (s.putRise v).cmds = s.cmds ∧ (s.putRise v).resets = s.resets ∧
    (s.putRise v).ctrls = s.ctrls ∧ (s.putRise v).arbs = s.arbs ∧ (s.putRise v).credit = s.credit ∧
    (s.putRise v).taken = s.taken ∧ (s.putRise v).fetchLeft = s.fetchLeft ∧ (s.putRise v).rotLast = s.rotLast ∧
    (s.putRise v).rotFirst = s.rotFirst ∧ (s.putRise v).hazStall = s.hazStall ∧ (s.putRise v).span = s.span ∧
    (s.putRise v).spanOut = s.spanOut ∧ (s.putRise v).spanIn = s.spanIn ∧ (s.putRise v).resOut = s.resOut ∧
    (s.putRise v).jobs = s.jobs ∧ (s.putRise v).finishing = s.finishing ∧ (s.putRise v).greads = s.greads ∧
    (s.putRise v).spanNum = s.spanNum ∧ (s.putRise v).spanArr = s.spanArr ∧ (s.putRise v).dups = s.dups ∧
    (s.putRise v).dupGen = s.dupGen ∧ (s.putRise v).rlogPos = s.rlogPos ∧ (s.putRise v).members = s.members ∧
    (s.putRise v).peerVia = s.peerVia ∧ (s.putRise v).groups = s.groups ∧ (s.putRise v).peerBound = s.peerBound ∧
    (s.putRise v).returned = s.returned ∧ (s.putRise v).lostRanges = s.lostRanges ∧ (s.putRise v).wmap = s.wmap ∧
    (s.putRise v).wfin = s.wfin ∧ (s.putRise v).wheld = s.wheld ∧ (s.putRise v).preserve = s.preserve ∧
    (s.putRise v).kept = s.kept ∧ (s.putRise v).metaOpen = s.metaOpen ∧ (s.putRise v).portA = s.portA ∧
    (s.putRise v).restartDue = s.restartDue ∧ (s.putRise v).pings = s.pings ∧ (s.putRise v).chain = s.chain ∧
    (s.putRise v).position = s.position ∧ (s.putRise v).power = s.power ∧ (s.putRise v).powerOp = s.powerOp ∧
    (s.putRise v).fsn = s.fsn ∧ (s.putRise v).ns = s.ns ∧ (s.putRise v).volCap = s.volCap ∧ (s.putRise v).rsv = s.rsv ∧
    (s.putRise v).tokCount = s.tokCount ∧ (s.putRise v).fullZones = s.fullZones ∧ (s.putRise v).fam = s.fam ∧
    (s.putRise v).params = s.params ∧ (s.putRise v).alm = s.alm ∧ (s.putRise v).domeEntry = s.domeEntry ∧
    (s.putRise v).domeWake = s.domeWake ∧ (s.putRise v).domeAgreed = s.domeAgreed ∧ (s.putRise v).readAt = s.readAt ∧
    (s.putRise v).sensorFail = s.sensorFail ∧ (s.putRise v).tripCount = s.tripCount ∧ (s.putRise v).stopped = s.stopped ∧
    (s.putRise v).coolSince = s.coolSince ∧ (s.putRise v).events = s.events ∧ (s.putRise v).dies = s.dies ∧
    (s.putRise v).chans = s.chans ∧ (s.putRise v).accs = s.accs ∧ (s.putRise v).ldpc = s.ldpc ∧
    (s.putRise v).nand = s.nand ∧ (s.putRise v).blkErased = s.blkErased ∧ (s.putRise v).vault = s.vault ∧
    (s.putRise v).sessions = s.sessions ∧ (s.putRise v).trngRestarts = s.trngRestarts ∧
    (s.putRise v).drbgLeft = s.drbgLeft ∧ (s.putRise v).imageId = s.imageId ∧ (s.putRise v).verFuses = s.verFuses ∧
    (s.putRise v).nsInfo = s.nsInfo ∧ (s.putRise v).care = s.care ∧ (s.putRise v).history = s.history ∧
    (s.putRise v).fw = s.fw ∧ (s.putRise v).trust = s.trust ∧ (s.putRise v).fdp = s.fdp ∧
    (s.putRise v).lostGen = s.lostGen ∧ (s.putRise v).lostAgain = s.lostAgain ∧ (s.putRise v).accum = s.accum ∧
    (s.putRise v).boundSent = s.boundSent ∧ (s.putRise v).zoneUsed = s.zoneUsed ∧ (s.putRise v).clean = s.clean :=
  ⟨rfl, rfl, rfl, rfl, rfl, rfl, rfl, rfl, rfl, rfl, rfl, rfl, rfl, rfl, rfl, rfl, rfl, rfl, rfl, rfl, rfl, rfl, rfl,
  rfl, rfl, rfl, rfl, rfl, rfl, rfl, rfl, rfl, rfl, rfl, rfl, rfl, rfl, rfl, rfl, rfl, rfl, rfl, rfl, rfl, rfl, rfl,
  rfl, rfl, rfl, rfl, rfl, rfl, rfl, rfl, rfl, rfl, rfl, rfl, rfl, rfl, rfl, rfl, rfl, rfl, rfl, rfl, rfl, rfl, rfl,
  rfl, rfl, rfl, rfl, rfl, rfl, rfl, rfl, rfl, rfl, rfl, rfl, rfl, rfl, rfl, rfl, rfl, rfl, rfl, rfl, rfl, rfl, rfl,
  rfl, rfl, rfl, rfl, rfl, rfl, rfl, rfl, rfl, rfl, rfl, rfl, rfl, rfl, rfl, rfl, rfl, rfl, rfl, rfl, rfl, rfl, rfl,
  rfl, rfl, rfl, rfl, rfl, rfl, rfl, rfl, rfl⟩

@[simp] theorem State.putRise_rise (s : State) (v : List Int) : (s.putRise v).rise = v := rfl

@[simp] theorem State.putStopped_frame (s : State) (v : Bool) :
    (s.putStopped v).pending = s.pending ∧ (s.putStopped v).free = s.free ∧ (s.putStopped v).out = s.out ∧
    (s.putStopped v).boot = s.boot ∧ (s.putStopped v).tick = s.tick ∧ (s.putStopped v).win = s.win ∧
    (s.putStopped v).gap = s.gap ∧ (s.putStopped v).regs = s.regs ∧ (s.putStopped v).regPend = s.regPend ∧
    (s.putStopped v).cores = s.cores ∧ (s.putStopped v).cluster = s.cluster ∧ (s.putStopped v).tun = s.tun ∧
    (s.putStopped v).tunBufs = s.tunBufs ∧ (s.putStopped v).tunMin = s.tunMin ∧
    (s.putStopped v).tunMinPend = s.tunMinPend ∧ (s.putStopped v).sramErr = s.sramErr ∧
    (s.putStopped v).heldBack = s.heldBack ∧ (s.putStopped v).rtHit = s.rtHit ∧ (s.putStopped v).rtClock = s.rtClock ∧
    (s.putStopped v).rtUntracked = s.rtUntracked ∧ (s.putStopped v).dram = s.dram ∧ (s.putStopped v).dr = s.dr ∧
    (s.putStopped v).poison = s.poison ∧ (s.putStopped v).ingot = s.ingot ∧ (s.putStopped v).nor = s.nor ∧
    (s.putStopped v).norUnk = s.norUnk ∧ (s.putStopped v).pat = s.pat ∧ (s.putStopped v).tdly = s.tdly ∧
    (s.putStopped v).scrub = s.scrub ∧ (s.putStopped v).fbuf = s.fbuf ∧ (s.putStopped v).rings = s.rings ∧
    (s.putStopped v).haz = s.haz ∧ (s.putStopped v).marks = s.marks ∧ (s.putStopped v).wsnFloor = s.wsnFloor ∧
    (s.putStopped v).health = s.health ∧ (s.putStopped v).qPend = s.qPend ∧ (s.putStopped v).reqs = s.reqs ∧
    (s.putStopped v).aborts = s.aborts ∧ (s.putStopped v).gateShut = s.gateShut ∧ (s.putStopped v).sqs = s.sqs ∧
    (s.putStopped v).cqs = s.cqs ∧ (s.putStopped v).cmds = s.cmds ∧ (s.putStopped v).resets = s.resets ∧
    (s.putStopped v).ctrls = s.ctrls ∧ (s.putStopped v).arbs = s.arbs ∧ (s.putStopped v).credit = s.credit ∧
    (s.putStopped v).taken = s.taken ∧ (s.putStopped v).fetchLeft = s.fetchLeft ∧ (s.putStopped v).rotLast = s.rotLast ∧
    (s.putStopped v).rotFirst = s.rotFirst ∧ (s.putStopped v).hazStall = s.hazStall ∧ (s.putStopped v).span = s.span ∧
    (s.putStopped v).spanOut = s.spanOut ∧ (s.putStopped v).spanIn = s.spanIn ∧ (s.putStopped v).resOut = s.resOut ∧
    (s.putStopped v).jobs = s.jobs ∧ (s.putStopped v).finishing = s.finishing ∧ (s.putStopped v).greads = s.greads ∧
    (s.putStopped v).spanNum = s.spanNum ∧ (s.putStopped v).spanArr = s.spanArr ∧ (s.putStopped v).dups = s.dups ∧
    (s.putStopped v).dupGen = s.dupGen ∧ (s.putStopped v).rlogPos = s.rlogPos ∧ (s.putStopped v).members = s.members ∧
    (s.putStopped v).peerVia = s.peerVia ∧ (s.putStopped v).groups = s.groups ∧
    (s.putStopped v).peerBound = s.peerBound ∧ (s.putStopped v).returned = s.returned ∧
    (s.putStopped v).lostRanges = s.lostRanges ∧ (s.putStopped v).wmap = s.wmap ∧ (s.putStopped v).wfin = s.wfin ∧
    (s.putStopped v).wheld = s.wheld ∧ (s.putStopped v).preserve = s.preserve ∧ (s.putStopped v).kept = s.kept ∧
    (s.putStopped v).metaOpen = s.metaOpen ∧ (s.putStopped v).portA = s.portA ∧
    (s.putStopped v).restartDue = s.restartDue ∧ (s.putStopped v).pings = s.pings ∧ (s.putStopped v).chain = s.chain ∧
    (s.putStopped v).position = s.position ∧ (s.putStopped v).power = s.power ∧ (s.putStopped v).powerOp = s.powerOp ∧
    (s.putStopped v).fsn = s.fsn ∧ (s.putStopped v).ns = s.ns ∧ (s.putStopped v).volCap = s.volCap ∧
    (s.putStopped v).rsv = s.rsv ∧ (s.putStopped v).tokCount = s.tokCount ∧ (s.putStopped v).fullZones = s.fullZones ∧
    (s.putStopped v).fam = s.fam ∧ (s.putStopped v).params = s.params ∧ (s.putStopped v).alm = s.alm ∧
    (s.putStopped v).domeEntry = s.domeEntry ∧ (s.putStopped v).domeWake = s.domeWake ∧
    (s.putStopped v).domeAgreed = s.domeAgreed ∧ (s.putStopped v).readAt = s.readAt ∧
    (s.putStopped v).sensorFail = s.sensorFail ∧ (s.putStopped v).tripCount = s.tripCount ∧
    (s.putStopped v).rise = s.rise ∧ (s.putStopped v).coolSince = s.coolSince ∧ (s.putStopped v).events = s.events ∧
    (s.putStopped v).dies = s.dies ∧ (s.putStopped v).chans = s.chans ∧ (s.putStopped v).accs = s.accs ∧
    (s.putStopped v).ldpc = s.ldpc ∧ (s.putStopped v).nand = s.nand ∧ (s.putStopped v).blkErased = s.blkErased ∧
    (s.putStopped v).vault = s.vault ∧ (s.putStopped v).sessions = s.sessions ∧
    (s.putStopped v).trngRestarts = s.trngRestarts ∧ (s.putStopped v).drbgLeft = s.drbgLeft ∧
    (s.putStopped v).imageId = s.imageId ∧ (s.putStopped v).verFuses = s.verFuses ∧ (s.putStopped v).nsInfo = s.nsInfo ∧
    (s.putStopped v).care = s.care ∧ (s.putStopped v).history = s.history ∧ (s.putStopped v).fw = s.fw ∧
    (s.putStopped v).trust = s.trust ∧ (s.putStopped v).fdp = s.fdp ∧ (s.putStopped v).lostGen = s.lostGen ∧
    (s.putStopped v).lostAgain = s.lostAgain ∧ (s.putStopped v).accum = s.accum ∧
    (s.putStopped v).boundSent = s.boundSent ∧ (s.putStopped v).zoneUsed = s.zoneUsed ∧
    (s.putStopped v).clean = s.clean :=
  ⟨rfl, rfl, rfl, rfl, rfl, rfl, rfl, rfl, rfl, rfl, rfl, rfl, rfl, rfl, rfl, rfl, rfl, rfl, rfl, rfl, rfl, rfl, rfl,
  rfl, rfl, rfl, rfl, rfl, rfl, rfl, rfl, rfl, rfl, rfl, rfl, rfl, rfl, rfl, rfl, rfl, rfl, rfl, rfl, rfl, rfl, rfl,
  rfl, rfl, rfl, rfl, rfl, rfl, rfl, rfl, rfl, rfl, rfl, rfl, rfl, rfl, rfl, rfl, rfl, rfl, rfl, rfl, rfl, rfl, rfl,
  rfl, rfl, rfl, rfl, rfl, rfl, rfl, rfl, rfl, rfl, rfl, rfl, rfl, rfl, rfl, rfl, rfl, rfl, rfl, rfl, rfl, rfl, rfl,
  rfl, rfl, rfl, rfl, rfl, rfl, rfl, rfl, rfl, rfl, rfl, rfl, rfl, rfl, rfl, rfl, rfl, rfl, rfl, rfl, rfl, rfl, rfl,
  rfl, rfl, rfl, rfl, rfl, rfl, rfl, rfl, rfl⟩

@[simp] theorem State.putStopped_stopped (s : State) (v : Bool) : (s.putStopped v).stopped = v := rfl

@[simp] theorem State.putCoolSince_frame (s : State) (v : Option W64) :
    (s.putCoolSince v).pending = s.pending ∧ (s.putCoolSince v).free = s.free ∧ (s.putCoolSince v).out = s.out ∧
    (s.putCoolSince v).boot = s.boot ∧ (s.putCoolSince v).tick = s.tick ∧ (s.putCoolSince v).win = s.win ∧
    (s.putCoolSince v).gap = s.gap ∧ (s.putCoolSince v).regs = s.regs ∧ (s.putCoolSince v).regPend = s.regPend ∧
    (s.putCoolSince v).cores = s.cores ∧ (s.putCoolSince v).cluster = s.cluster ∧ (s.putCoolSince v).tun = s.tun ∧
    (s.putCoolSince v).tunBufs = s.tunBufs ∧ (s.putCoolSince v).tunMin = s.tunMin ∧
    (s.putCoolSince v).tunMinPend = s.tunMinPend ∧ (s.putCoolSince v).sramErr = s.sramErr ∧
    (s.putCoolSince v).heldBack = s.heldBack ∧ (s.putCoolSince v).rtHit = s.rtHit ∧
    (s.putCoolSince v).rtClock = s.rtClock ∧ (s.putCoolSince v).rtUntracked = s.rtUntracked ∧
    (s.putCoolSince v).dram = s.dram ∧ (s.putCoolSince v).dr = s.dr ∧ (s.putCoolSince v).poison = s.poison ∧
    (s.putCoolSince v).ingot = s.ingot ∧ (s.putCoolSince v).nor = s.nor ∧ (s.putCoolSince v).norUnk = s.norUnk ∧
    (s.putCoolSince v).pat = s.pat ∧ (s.putCoolSince v).tdly = s.tdly ∧ (s.putCoolSince v).scrub = s.scrub ∧
    (s.putCoolSince v).fbuf = s.fbuf ∧ (s.putCoolSince v).rings = s.rings ∧ (s.putCoolSince v).haz = s.haz ∧
    (s.putCoolSince v).marks = s.marks ∧ (s.putCoolSince v).wsnFloor = s.wsnFloor ∧
    (s.putCoolSince v).health = s.health ∧ (s.putCoolSince v).qPend = s.qPend ∧ (s.putCoolSince v).reqs = s.reqs ∧
    (s.putCoolSince v).aborts = s.aborts ∧ (s.putCoolSince v).gateShut = s.gateShut ∧ (s.putCoolSince v).sqs = s.sqs ∧
    (s.putCoolSince v).cqs = s.cqs ∧ (s.putCoolSince v).cmds = s.cmds ∧ (s.putCoolSince v).resets = s.resets ∧
    (s.putCoolSince v).ctrls = s.ctrls ∧ (s.putCoolSince v).arbs = s.arbs ∧ (s.putCoolSince v).credit = s.credit ∧
    (s.putCoolSince v).taken = s.taken ∧ (s.putCoolSince v).fetchLeft = s.fetchLeft ∧
    (s.putCoolSince v).rotLast = s.rotLast ∧ (s.putCoolSince v).rotFirst = s.rotFirst ∧
    (s.putCoolSince v).hazStall = s.hazStall ∧ (s.putCoolSince v).span = s.span ∧
    (s.putCoolSince v).spanOut = s.spanOut ∧ (s.putCoolSince v).spanIn = s.spanIn ∧
    (s.putCoolSince v).resOut = s.resOut ∧ (s.putCoolSince v).jobs = s.jobs ∧
    (s.putCoolSince v).finishing = s.finishing ∧ (s.putCoolSince v).greads = s.greads ∧
    (s.putCoolSince v).spanNum = s.spanNum ∧ (s.putCoolSince v).spanArr = s.spanArr ∧ (s.putCoolSince v).dups = s.dups ∧
    (s.putCoolSince v).dupGen = s.dupGen ∧ (s.putCoolSince v).rlogPos = s.rlogPos ∧
    (s.putCoolSince v).members = s.members ∧ (s.putCoolSince v).peerVia = s.peerVia ∧
    (s.putCoolSince v).groups = s.groups ∧ (s.putCoolSince v).peerBound = s.peerBound ∧
    (s.putCoolSince v).returned = s.returned ∧ (s.putCoolSince v).lostRanges = s.lostRanges ∧
    (s.putCoolSince v).wmap = s.wmap ∧ (s.putCoolSince v).wfin = s.wfin ∧ (s.putCoolSince v).wheld = s.wheld ∧
    (s.putCoolSince v).preserve = s.preserve ∧ (s.putCoolSince v).kept = s.kept ∧
    (s.putCoolSince v).metaOpen = s.metaOpen ∧ (s.putCoolSince v).portA = s.portA ∧
    (s.putCoolSince v).restartDue = s.restartDue ∧ (s.putCoolSince v).pings = s.pings ∧
    (s.putCoolSince v).chain = s.chain ∧ (s.putCoolSince v).position = s.position ∧ (s.putCoolSince v).power = s.power ∧
    (s.putCoolSince v).powerOp = s.powerOp ∧ (s.putCoolSince v).fsn = s.fsn ∧ (s.putCoolSince v).ns = s.ns ∧
    (s.putCoolSince v).volCap = s.volCap ∧ (s.putCoolSince v).rsv = s.rsv ∧ (s.putCoolSince v).tokCount = s.tokCount ∧
    (s.putCoolSince v).fullZones = s.fullZones ∧ (s.putCoolSince v).fam = s.fam ∧ (s.putCoolSince v).params = s.params ∧
    (s.putCoolSince v).alm = s.alm ∧ (s.putCoolSince v).domeEntry = s.domeEntry ∧
    (s.putCoolSince v).domeWake = s.domeWake ∧ (s.putCoolSince v).domeAgreed = s.domeAgreed ∧
    (s.putCoolSince v).readAt = s.readAt ∧ (s.putCoolSince v).sensorFail = s.sensorFail ∧
    (s.putCoolSince v).tripCount = s.tripCount ∧ (s.putCoolSince v).rise = s.rise ∧
    (s.putCoolSince v).stopped = s.stopped ∧ (s.putCoolSince v).events = s.events ∧ (s.putCoolSince v).dies = s.dies ∧
    (s.putCoolSince v).chans = s.chans ∧ (s.putCoolSince v).accs = s.accs ∧ (s.putCoolSince v).ldpc = s.ldpc ∧
    (s.putCoolSince v).nand = s.nand ∧ (s.putCoolSince v).blkErased = s.blkErased ∧ (s.putCoolSince v).vault = s.vault ∧
    (s.putCoolSince v).sessions = s.sessions ∧ (s.putCoolSince v).trngRestarts = s.trngRestarts ∧
    (s.putCoolSince v).drbgLeft = s.drbgLeft ∧ (s.putCoolSince v).imageId = s.imageId ∧
    (s.putCoolSince v).verFuses = s.verFuses ∧ (s.putCoolSince v).nsInfo = s.nsInfo ∧ (s.putCoolSince v).care = s.care ∧
    (s.putCoolSince v).history = s.history ∧ (s.putCoolSince v).fw = s.fw ∧ (s.putCoolSince v).trust = s.trust ∧
    (s.putCoolSince v).fdp = s.fdp ∧ (s.putCoolSince v).lostGen = s.lostGen ∧
    (s.putCoolSince v).lostAgain = s.lostAgain ∧ (s.putCoolSince v).accum = s.accum ∧
    (s.putCoolSince v).boundSent = s.boundSent ∧ (s.putCoolSince v).zoneUsed = s.zoneUsed ∧
    (s.putCoolSince v).clean = s.clean :=
  ⟨rfl, rfl, rfl, rfl, rfl, rfl, rfl, rfl, rfl, rfl, rfl, rfl, rfl, rfl, rfl, rfl, rfl, rfl, rfl, rfl, rfl, rfl, rfl,
  rfl, rfl, rfl, rfl, rfl, rfl, rfl, rfl, rfl, rfl, rfl, rfl, rfl, rfl, rfl, rfl, rfl, rfl, rfl, rfl, rfl, rfl, rfl,
  rfl, rfl, rfl, rfl, rfl, rfl, rfl, rfl, rfl, rfl, rfl, rfl, rfl, rfl, rfl, rfl, rfl, rfl, rfl, rfl, rfl, rfl, rfl,
  rfl, rfl, rfl, rfl, rfl, rfl, rfl, rfl, rfl, rfl, rfl, rfl, rfl, rfl, rfl, rfl, rfl, rfl, rfl, rfl, rfl, rfl, rfl,
  rfl, rfl, rfl, rfl, rfl, rfl, rfl, rfl, rfl, rfl, rfl, rfl, rfl, rfl, rfl, rfl, rfl, rfl, rfl, rfl, rfl, rfl, rfl,
  rfl, rfl, rfl, rfl, rfl, rfl, rfl, rfl, rfl⟩

@[simp] theorem State.putCoolSince_coolSince (s : State) (v : Option W64) : (s.putCoolSince v).coolSince = v := rfl

@[simp] theorem State.putEvents_frame (s : State) (v : List (Nat × AsyncEv)) :
    (s.putEvents v).pending = s.pending ∧ (s.putEvents v).free = s.free ∧ (s.putEvents v).out = s.out ∧
    (s.putEvents v).boot = s.boot ∧ (s.putEvents v).tick = s.tick ∧ (s.putEvents v).win = s.win ∧
    (s.putEvents v).gap = s.gap ∧ (s.putEvents v).regs = s.regs ∧ (s.putEvents v).regPend = s.regPend ∧
    (s.putEvents v).cores = s.cores ∧ (s.putEvents v).cluster = s.cluster ∧ (s.putEvents v).tun = s.tun ∧
    (s.putEvents v).tunBufs = s.tunBufs ∧ (s.putEvents v).tunMin = s.tunMin ∧ (s.putEvents v).tunMinPend = s.tunMinPend ∧
    (s.putEvents v).sramErr = s.sramErr ∧ (s.putEvents v).heldBack = s.heldBack ∧ (s.putEvents v).rtHit = s.rtHit ∧
    (s.putEvents v).rtClock = s.rtClock ∧ (s.putEvents v).rtUntracked = s.rtUntracked ∧ (s.putEvents v).dram = s.dram ∧
    (s.putEvents v).dr = s.dr ∧ (s.putEvents v).poison = s.poison ∧ (s.putEvents v).ingot = s.ingot ∧
    (s.putEvents v).nor = s.nor ∧ (s.putEvents v).norUnk = s.norUnk ∧ (s.putEvents v).pat = s.pat ∧
    (s.putEvents v).tdly = s.tdly ∧ (s.putEvents v).scrub = s.scrub ∧ (s.putEvents v).fbuf = s.fbuf ∧
    (s.putEvents v).rings = s.rings ∧ (s.putEvents v).haz = s.haz ∧ (s.putEvents v).marks = s.marks ∧
    (s.putEvents v).wsnFloor = s.wsnFloor ∧ (s.putEvents v).health = s.health ∧ (s.putEvents v).qPend = s.qPend ∧
    (s.putEvents v).reqs = s.reqs ∧ (s.putEvents v).aborts = s.aborts ∧ (s.putEvents v).gateShut = s.gateShut ∧
    (s.putEvents v).sqs = s.sqs ∧ (s.putEvents v).cqs = s.cqs ∧ (s.putEvents v).cmds = s.cmds ∧
    (s.putEvents v).resets = s.resets ∧ (s.putEvents v).ctrls = s.ctrls ∧ (s.putEvents v).arbs = s.arbs ∧
    (s.putEvents v).credit = s.credit ∧ (s.putEvents v).taken = s.taken ∧ (s.putEvents v).fetchLeft = s.fetchLeft ∧
    (s.putEvents v).rotLast = s.rotLast ∧ (s.putEvents v).rotFirst = s.rotFirst ∧ (s.putEvents v).hazStall = s.hazStall ∧
    (s.putEvents v).span = s.span ∧ (s.putEvents v).spanOut = s.spanOut ∧ (s.putEvents v).spanIn = s.spanIn ∧
    (s.putEvents v).resOut = s.resOut ∧ (s.putEvents v).jobs = s.jobs ∧ (s.putEvents v).finishing = s.finishing ∧
    (s.putEvents v).greads = s.greads ∧ (s.putEvents v).spanNum = s.spanNum ∧ (s.putEvents v).spanArr = s.spanArr ∧
    (s.putEvents v).dups = s.dups ∧ (s.putEvents v).dupGen = s.dupGen ∧ (s.putEvents v).rlogPos = s.rlogPos ∧
    (s.putEvents v).members = s.members ∧ (s.putEvents v).peerVia = s.peerVia ∧ (s.putEvents v).groups = s.groups ∧
    (s.putEvents v).peerBound = s.peerBound ∧ (s.putEvents v).returned = s.returned ∧
    (s.putEvents v).lostRanges = s.lostRanges ∧ (s.putEvents v).wmap = s.wmap ∧ (s.putEvents v).wfin = s.wfin ∧
    (s.putEvents v).wheld = s.wheld ∧ (s.putEvents v).preserve = s.preserve ∧ (s.putEvents v).kept = s.kept ∧
    (s.putEvents v).metaOpen = s.metaOpen ∧ (s.putEvents v).portA = s.portA ∧ (s.putEvents v).restartDue = s.restartDue ∧
    (s.putEvents v).pings = s.pings ∧ (s.putEvents v).chain = s.chain ∧ (s.putEvents v).position = s.position ∧
    (s.putEvents v).power = s.power ∧ (s.putEvents v).powerOp = s.powerOp ∧ (s.putEvents v).fsn = s.fsn ∧
    (s.putEvents v).ns = s.ns ∧ (s.putEvents v).volCap = s.volCap ∧ (s.putEvents v).rsv = s.rsv ∧
    (s.putEvents v).tokCount = s.tokCount ∧ (s.putEvents v).fullZones = s.fullZones ∧ (s.putEvents v).fam = s.fam ∧
    (s.putEvents v).params = s.params ∧ (s.putEvents v).alm = s.alm ∧ (s.putEvents v).domeEntry = s.domeEntry ∧
    (s.putEvents v).domeWake = s.domeWake ∧ (s.putEvents v).domeAgreed = s.domeAgreed ∧
    (s.putEvents v).readAt = s.readAt ∧ (s.putEvents v).sensorFail = s.sensorFail ∧
    (s.putEvents v).tripCount = s.tripCount ∧ (s.putEvents v).rise = s.rise ∧ (s.putEvents v).stopped = s.stopped ∧
    (s.putEvents v).coolSince = s.coolSince ∧ (s.putEvents v).dies = s.dies ∧ (s.putEvents v).chans = s.chans ∧
    (s.putEvents v).accs = s.accs ∧ (s.putEvents v).ldpc = s.ldpc ∧ (s.putEvents v).nand = s.nand ∧
    (s.putEvents v).blkErased = s.blkErased ∧ (s.putEvents v).vault = s.vault ∧ (s.putEvents v).sessions = s.sessions ∧
    (s.putEvents v).trngRestarts = s.trngRestarts ∧ (s.putEvents v).drbgLeft = s.drbgLeft ∧
    (s.putEvents v).imageId = s.imageId ∧ (s.putEvents v).verFuses = s.verFuses ∧ (s.putEvents v).nsInfo = s.nsInfo ∧
    (s.putEvents v).care = s.care ∧ (s.putEvents v).history = s.history ∧ (s.putEvents v).fw = s.fw ∧
    (s.putEvents v).trust = s.trust ∧ (s.putEvents v).fdp = s.fdp ∧ (s.putEvents v).lostGen = s.lostGen ∧
    (s.putEvents v).lostAgain = s.lostAgain ∧ (s.putEvents v).accum = s.accum ∧ (s.putEvents v).boundSent = s.boundSent ∧
    (s.putEvents v).zoneUsed = s.zoneUsed ∧ (s.putEvents v).clean = s.clean :=
  ⟨rfl, rfl, rfl, rfl, rfl, rfl, rfl, rfl, rfl, rfl, rfl, rfl, rfl, rfl, rfl, rfl, rfl, rfl, rfl, rfl, rfl, rfl, rfl,
  rfl, rfl, rfl, rfl, rfl, rfl, rfl, rfl, rfl, rfl, rfl, rfl, rfl, rfl, rfl, rfl, rfl, rfl, rfl, rfl, rfl, rfl, rfl,
  rfl, rfl, rfl, rfl, rfl, rfl, rfl, rfl, rfl, rfl, rfl, rfl, rfl, rfl, rfl, rfl, rfl, rfl, rfl, rfl, rfl, rfl, rfl,
  rfl, rfl, rfl, rfl, rfl, rfl, rfl, rfl, rfl, rfl, rfl, rfl, rfl, rfl, rfl, rfl, rfl, rfl, rfl, rfl, rfl, rfl, rfl,
  rfl, rfl, rfl, rfl, rfl, rfl, rfl, rfl, rfl, rfl, rfl, rfl, rfl, rfl, rfl, rfl, rfl, rfl, rfl, rfl, rfl, rfl, rfl,
  rfl, rfl, rfl, rfl, rfl, rfl, rfl, rfl, rfl⟩

@[simp] theorem State.putEvents_events (s : State) (v : List (Nat × AsyncEv)) : (s.putEvents v).events = v := rfl

@[simp] theorem State.putDies_frame (s : State) (v : FMap Die) :
    (s.putDies v).pending = s.pending ∧ (s.putDies v).free = s.free ∧ (s.putDies v).out = s.out ∧
    (s.putDies v).boot = s.boot ∧ (s.putDies v).tick = s.tick ∧ (s.putDies v).win = s.win ∧ (s.putDies v).gap = s.gap ∧
    (s.putDies v).regs = s.regs ∧ (s.putDies v).regPend = s.regPend ∧ (s.putDies v).cores = s.cores ∧
    (s.putDies v).cluster = s.cluster ∧ (s.putDies v).tun = s.tun ∧ (s.putDies v).tunBufs = s.tunBufs ∧
    (s.putDies v).tunMin = s.tunMin ∧ (s.putDies v).tunMinPend = s.tunMinPend ∧ (s.putDies v).sramErr = s.sramErr ∧
    (s.putDies v).heldBack = s.heldBack ∧ (s.putDies v).rtHit = s.rtHit ∧ (s.putDies v).rtClock = s.rtClock ∧
    (s.putDies v).rtUntracked = s.rtUntracked ∧ (s.putDies v).dram = s.dram ∧ (s.putDies v).dr = s.dr ∧
    (s.putDies v).poison = s.poison ∧ (s.putDies v).ingot = s.ingot ∧ (s.putDies v).nor = s.nor ∧
    (s.putDies v).norUnk = s.norUnk ∧ (s.putDies v).pat = s.pat ∧ (s.putDies v).tdly = s.tdly ∧
    (s.putDies v).scrub = s.scrub ∧ (s.putDies v).fbuf = s.fbuf ∧ (s.putDies v).rings = s.rings ∧
    (s.putDies v).haz = s.haz ∧ (s.putDies v).marks = s.marks ∧ (s.putDies v).wsnFloor = s.wsnFloor ∧
    (s.putDies v).health = s.health ∧ (s.putDies v).qPend = s.qPend ∧ (s.putDies v).reqs = s.reqs ∧
    (s.putDies v).aborts = s.aborts ∧ (s.putDies v).gateShut = s.gateShut ∧ (s.putDies v).sqs = s.sqs ∧
    (s.putDies v).cqs = s.cqs ∧ (s.putDies v).cmds = s.cmds ∧ (s.putDies v).resets = s.resets ∧
    (s.putDies v).ctrls = s.ctrls ∧ (s.putDies v).arbs = s.arbs ∧ (s.putDies v).credit = s.credit ∧
    (s.putDies v).taken = s.taken ∧ (s.putDies v).fetchLeft = s.fetchLeft ∧ (s.putDies v).rotLast = s.rotLast ∧
    (s.putDies v).rotFirst = s.rotFirst ∧ (s.putDies v).hazStall = s.hazStall ∧ (s.putDies v).span = s.span ∧
    (s.putDies v).spanOut = s.spanOut ∧ (s.putDies v).spanIn = s.spanIn ∧ (s.putDies v).resOut = s.resOut ∧
    (s.putDies v).jobs = s.jobs ∧ (s.putDies v).finishing = s.finishing ∧ (s.putDies v).greads = s.greads ∧
    (s.putDies v).spanNum = s.spanNum ∧ (s.putDies v).spanArr = s.spanArr ∧ (s.putDies v).dups = s.dups ∧
    (s.putDies v).dupGen = s.dupGen ∧ (s.putDies v).rlogPos = s.rlogPos ∧ (s.putDies v).members = s.members ∧
    (s.putDies v).peerVia = s.peerVia ∧ (s.putDies v).groups = s.groups ∧ (s.putDies v).peerBound = s.peerBound ∧
    (s.putDies v).returned = s.returned ∧ (s.putDies v).lostRanges = s.lostRanges ∧ (s.putDies v).wmap = s.wmap ∧
    (s.putDies v).wfin = s.wfin ∧ (s.putDies v).wheld = s.wheld ∧ (s.putDies v).preserve = s.preserve ∧
    (s.putDies v).kept = s.kept ∧ (s.putDies v).metaOpen = s.metaOpen ∧ (s.putDies v).portA = s.portA ∧
    (s.putDies v).restartDue = s.restartDue ∧ (s.putDies v).pings = s.pings ∧ (s.putDies v).chain = s.chain ∧
    (s.putDies v).position = s.position ∧ (s.putDies v).power = s.power ∧ (s.putDies v).powerOp = s.powerOp ∧
    (s.putDies v).fsn = s.fsn ∧ (s.putDies v).ns = s.ns ∧ (s.putDies v).volCap = s.volCap ∧ (s.putDies v).rsv = s.rsv ∧
    (s.putDies v).tokCount = s.tokCount ∧ (s.putDies v).fullZones = s.fullZones ∧ (s.putDies v).fam = s.fam ∧
    (s.putDies v).params = s.params ∧ (s.putDies v).alm = s.alm ∧ (s.putDies v).domeEntry = s.domeEntry ∧
    (s.putDies v).domeWake = s.domeWake ∧ (s.putDies v).domeAgreed = s.domeAgreed ∧ (s.putDies v).readAt = s.readAt ∧
    (s.putDies v).sensorFail = s.sensorFail ∧ (s.putDies v).tripCount = s.tripCount ∧ (s.putDies v).rise = s.rise ∧
    (s.putDies v).stopped = s.stopped ∧ (s.putDies v).coolSince = s.coolSince ∧ (s.putDies v).events = s.events ∧
    (s.putDies v).chans = s.chans ∧ (s.putDies v).accs = s.accs ∧ (s.putDies v).ldpc = s.ldpc ∧
    (s.putDies v).nand = s.nand ∧ (s.putDies v).blkErased = s.blkErased ∧ (s.putDies v).vault = s.vault ∧
    (s.putDies v).sessions = s.sessions ∧ (s.putDies v).trngRestarts = s.trngRestarts ∧
    (s.putDies v).drbgLeft = s.drbgLeft ∧ (s.putDies v).imageId = s.imageId ∧ (s.putDies v).verFuses = s.verFuses ∧
    (s.putDies v).nsInfo = s.nsInfo ∧ (s.putDies v).care = s.care ∧ (s.putDies v).history = s.history ∧
    (s.putDies v).fw = s.fw ∧ (s.putDies v).trust = s.trust ∧ (s.putDies v).fdp = s.fdp ∧
    (s.putDies v).lostGen = s.lostGen ∧ (s.putDies v).lostAgain = s.lostAgain ∧ (s.putDies v).accum = s.accum ∧
    (s.putDies v).boundSent = s.boundSent ∧ (s.putDies v).zoneUsed = s.zoneUsed ∧ (s.putDies v).clean = s.clean :=
  ⟨rfl, rfl, rfl, rfl, rfl, rfl, rfl, rfl, rfl, rfl, rfl, rfl, rfl, rfl, rfl, rfl, rfl, rfl, rfl, rfl, rfl, rfl, rfl,
  rfl, rfl, rfl, rfl, rfl, rfl, rfl, rfl, rfl, rfl, rfl, rfl, rfl, rfl, rfl, rfl, rfl, rfl, rfl, rfl, rfl, rfl, rfl,
  rfl, rfl, rfl, rfl, rfl, rfl, rfl, rfl, rfl, rfl, rfl, rfl, rfl, rfl, rfl, rfl, rfl, rfl, rfl, rfl, rfl, rfl, rfl,
  rfl, rfl, rfl, rfl, rfl, rfl, rfl, rfl, rfl, rfl, rfl, rfl, rfl, rfl, rfl, rfl, rfl, rfl, rfl, rfl, rfl, rfl, rfl,
  rfl, rfl, rfl, rfl, rfl, rfl, rfl, rfl, rfl, rfl, rfl, rfl, rfl, rfl, rfl, rfl, rfl, rfl, rfl, rfl, rfl, rfl, rfl,
  rfl, rfl, rfl, rfl, rfl, rfl, rfl, rfl, rfl⟩

@[simp] theorem State.putDies_dies (s : State) (v : FMap Die) : (s.putDies v).dies = v := rfl

@[simp] theorem State.putChans_frame (s : State) (v : FMap Chan) :
    (s.putChans v).pending = s.pending ∧ (s.putChans v).free = s.free ∧ (s.putChans v).out = s.out ∧
    (s.putChans v).boot = s.boot ∧ (s.putChans v).tick = s.tick ∧ (s.putChans v).win = s.win ∧
    (s.putChans v).gap = s.gap ∧ (s.putChans v).regs = s.regs ∧ (s.putChans v).regPend = s.regPend ∧
    (s.putChans v).cores = s.cores ∧ (s.putChans v).cluster = s.cluster ∧ (s.putChans v).tun = s.tun ∧
    (s.putChans v).tunBufs = s.tunBufs ∧ (s.putChans v).tunMin = s.tunMin ∧ (s.putChans v).tunMinPend = s.tunMinPend ∧
    (s.putChans v).sramErr = s.sramErr ∧ (s.putChans v).heldBack = s.heldBack ∧ (s.putChans v).rtHit = s.rtHit ∧
    (s.putChans v).rtClock = s.rtClock ∧ (s.putChans v).rtUntracked = s.rtUntracked ∧ (s.putChans v).dram = s.dram ∧
    (s.putChans v).dr = s.dr ∧ (s.putChans v).poison = s.poison ∧ (s.putChans v).ingot = s.ingot ∧
    (s.putChans v).nor = s.nor ∧ (s.putChans v).norUnk = s.norUnk ∧ (s.putChans v).pat = s.pat ∧
    (s.putChans v).tdly = s.tdly ∧ (s.putChans v).scrub = s.scrub ∧ (s.putChans v).fbuf = s.fbuf ∧
    (s.putChans v).rings = s.rings ∧ (s.putChans v).haz = s.haz ∧ (s.putChans v).marks = s.marks ∧
    (s.putChans v).wsnFloor = s.wsnFloor ∧ (s.putChans v).health = s.health ∧ (s.putChans v).qPend = s.qPend ∧
    (s.putChans v).reqs = s.reqs ∧ (s.putChans v).aborts = s.aborts ∧ (s.putChans v).gateShut = s.gateShut ∧
    (s.putChans v).sqs = s.sqs ∧ (s.putChans v).cqs = s.cqs ∧ (s.putChans v).cmds = s.cmds ∧
    (s.putChans v).resets = s.resets ∧ (s.putChans v).ctrls = s.ctrls ∧ (s.putChans v).arbs = s.arbs ∧
    (s.putChans v).credit = s.credit ∧ (s.putChans v).taken = s.taken ∧ (s.putChans v).fetchLeft = s.fetchLeft ∧
    (s.putChans v).rotLast = s.rotLast ∧ (s.putChans v).rotFirst = s.rotFirst ∧ (s.putChans v).hazStall = s.hazStall ∧
    (s.putChans v).span = s.span ∧ (s.putChans v).spanOut = s.spanOut ∧ (s.putChans v).spanIn = s.spanIn ∧
    (s.putChans v).resOut = s.resOut ∧ (s.putChans v).jobs = s.jobs ∧ (s.putChans v).finishing = s.finishing ∧
    (s.putChans v).greads = s.greads ∧ (s.putChans v).spanNum = s.spanNum ∧ (s.putChans v).spanArr = s.spanArr ∧
    (s.putChans v).dups = s.dups ∧ (s.putChans v).dupGen = s.dupGen ∧ (s.putChans v).rlogPos = s.rlogPos ∧
    (s.putChans v).members = s.members ∧ (s.putChans v).peerVia = s.peerVia ∧ (s.putChans v).groups = s.groups ∧
    (s.putChans v).peerBound = s.peerBound ∧ (s.putChans v).returned = s.returned ∧
    (s.putChans v).lostRanges = s.lostRanges ∧ (s.putChans v).wmap = s.wmap ∧ (s.putChans v).wfin = s.wfin ∧
    (s.putChans v).wheld = s.wheld ∧ (s.putChans v).preserve = s.preserve ∧ (s.putChans v).kept = s.kept ∧
    (s.putChans v).metaOpen = s.metaOpen ∧ (s.putChans v).portA = s.portA ∧ (s.putChans v).restartDue = s.restartDue ∧
    (s.putChans v).pings = s.pings ∧ (s.putChans v).chain = s.chain ∧ (s.putChans v).position = s.position ∧
    (s.putChans v).power = s.power ∧ (s.putChans v).powerOp = s.powerOp ∧ (s.putChans v).fsn = s.fsn ∧
    (s.putChans v).ns = s.ns ∧ (s.putChans v).volCap = s.volCap ∧ (s.putChans v).rsv = s.rsv ∧
    (s.putChans v).tokCount = s.tokCount ∧ (s.putChans v).fullZones = s.fullZones ∧ (s.putChans v).fam = s.fam ∧
    (s.putChans v).params = s.params ∧ (s.putChans v).alm = s.alm ∧ (s.putChans v).domeEntry = s.domeEntry ∧
    (s.putChans v).domeWake = s.domeWake ∧ (s.putChans v).domeAgreed = s.domeAgreed ∧ (s.putChans v).readAt = s.readAt ∧
    (s.putChans v).sensorFail = s.sensorFail ∧ (s.putChans v).tripCount = s.tripCount ∧ (s.putChans v).rise = s.rise ∧
    (s.putChans v).stopped = s.stopped ∧ (s.putChans v).coolSince = s.coolSince ∧ (s.putChans v).events = s.events ∧
    (s.putChans v).dies = s.dies ∧ (s.putChans v).accs = s.accs ∧ (s.putChans v).ldpc = s.ldpc ∧
    (s.putChans v).nand = s.nand ∧ (s.putChans v).blkErased = s.blkErased ∧ (s.putChans v).vault = s.vault ∧
    (s.putChans v).sessions = s.sessions ∧ (s.putChans v).trngRestarts = s.trngRestarts ∧
    (s.putChans v).drbgLeft = s.drbgLeft ∧ (s.putChans v).imageId = s.imageId ∧ (s.putChans v).verFuses = s.verFuses ∧
    (s.putChans v).nsInfo = s.nsInfo ∧ (s.putChans v).care = s.care ∧ (s.putChans v).history = s.history ∧
    (s.putChans v).fw = s.fw ∧ (s.putChans v).trust = s.trust ∧ (s.putChans v).fdp = s.fdp ∧
    (s.putChans v).lostGen = s.lostGen ∧ (s.putChans v).lostAgain = s.lostAgain ∧ (s.putChans v).accum = s.accum ∧
    (s.putChans v).boundSent = s.boundSent ∧ (s.putChans v).zoneUsed = s.zoneUsed ∧ (s.putChans v).clean = s.clean :=
  ⟨rfl, rfl, rfl, rfl, rfl, rfl, rfl, rfl, rfl, rfl, rfl, rfl, rfl, rfl, rfl, rfl, rfl, rfl, rfl, rfl, rfl, rfl, rfl,
  rfl, rfl, rfl, rfl, rfl, rfl, rfl, rfl, rfl, rfl, rfl, rfl, rfl, rfl, rfl, rfl, rfl, rfl, rfl, rfl, rfl, rfl, rfl,
  rfl, rfl, rfl, rfl, rfl, rfl, rfl, rfl, rfl, rfl, rfl, rfl, rfl, rfl, rfl, rfl, rfl, rfl, rfl, rfl, rfl, rfl, rfl,
  rfl, rfl, rfl, rfl, rfl, rfl, rfl, rfl, rfl, rfl, rfl, rfl, rfl, rfl, rfl, rfl, rfl, rfl, rfl, rfl, rfl, rfl, rfl,
  rfl, rfl, rfl, rfl, rfl, rfl, rfl, rfl, rfl, rfl, rfl, rfl, rfl, rfl, rfl, rfl, rfl, rfl, rfl, rfl, rfl, rfl, rfl,
  rfl, rfl, rfl, rfl, rfl, rfl, rfl, rfl, rfl⟩

@[simp] theorem State.putChans_chans (s : State) (v : FMap Chan) : (s.putChans v).chans = v := rfl

@[simp] theorem State.putAccs_frame (s : State) (v : List VerbAcc) :
    (s.putAccs v).pending = s.pending ∧ (s.putAccs v).free = s.free ∧ (s.putAccs v).out = s.out ∧
    (s.putAccs v).boot = s.boot ∧ (s.putAccs v).tick = s.tick ∧ (s.putAccs v).win = s.win ∧ (s.putAccs v).gap = s.gap ∧
    (s.putAccs v).regs = s.regs ∧ (s.putAccs v).regPend = s.regPend ∧ (s.putAccs v).cores = s.cores ∧
    (s.putAccs v).cluster = s.cluster ∧ (s.putAccs v).tun = s.tun ∧ (s.putAccs v).tunBufs = s.tunBufs ∧
    (s.putAccs v).tunMin = s.tunMin ∧ (s.putAccs v).tunMinPend = s.tunMinPend ∧ (s.putAccs v).sramErr = s.sramErr ∧
    (s.putAccs v).heldBack = s.heldBack ∧ (s.putAccs v).rtHit = s.rtHit ∧ (s.putAccs v).rtClock = s.rtClock ∧
    (s.putAccs v).rtUntracked = s.rtUntracked ∧ (s.putAccs v).dram = s.dram ∧ (s.putAccs v).dr = s.dr ∧
    (s.putAccs v).poison = s.poison ∧ (s.putAccs v).ingot = s.ingot ∧ (s.putAccs v).nor = s.nor ∧
    (s.putAccs v).norUnk = s.norUnk ∧ (s.putAccs v).pat = s.pat ∧ (s.putAccs v).tdly = s.tdly ∧
    (s.putAccs v).scrub = s.scrub ∧ (s.putAccs v).fbuf = s.fbuf ∧ (s.putAccs v).rings = s.rings ∧
    (s.putAccs v).haz = s.haz ∧ (s.putAccs v).marks = s.marks ∧ (s.putAccs v).wsnFloor = s.wsnFloor ∧
    (s.putAccs v).health = s.health ∧ (s.putAccs v).qPend = s.qPend ∧ (s.putAccs v).reqs = s.reqs ∧
    (s.putAccs v).aborts = s.aborts ∧ (s.putAccs v).gateShut = s.gateShut ∧ (s.putAccs v).sqs = s.sqs ∧
    (s.putAccs v).cqs = s.cqs ∧ (s.putAccs v).cmds = s.cmds ∧ (s.putAccs v).resets = s.resets ∧
    (s.putAccs v).ctrls = s.ctrls ∧ (s.putAccs v).arbs = s.arbs ∧ (s.putAccs v).credit = s.credit ∧
    (s.putAccs v).taken = s.taken ∧ (s.putAccs v).fetchLeft = s.fetchLeft ∧ (s.putAccs v).rotLast = s.rotLast ∧
    (s.putAccs v).rotFirst = s.rotFirst ∧ (s.putAccs v).hazStall = s.hazStall ∧ (s.putAccs v).span = s.span ∧
    (s.putAccs v).spanOut = s.spanOut ∧ (s.putAccs v).spanIn = s.spanIn ∧ (s.putAccs v).resOut = s.resOut ∧
    (s.putAccs v).jobs = s.jobs ∧ (s.putAccs v).finishing = s.finishing ∧ (s.putAccs v).greads = s.greads ∧
    (s.putAccs v).spanNum = s.spanNum ∧ (s.putAccs v).spanArr = s.spanArr ∧ (s.putAccs v).dups = s.dups ∧
    (s.putAccs v).dupGen = s.dupGen ∧ (s.putAccs v).rlogPos = s.rlogPos ∧ (s.putAccs v).members = s.members ∧
    (s.putAccs v).peerVia = s.peerVia ∧ (s.putAccs v).groups = s.groups ∧ (s.putAccs v).peerBound = s.peerBound ∧
    (s.putAccs v).returned = s.returned ∧ (s.putAccs v).lostRanges = s.lostRanges ∧ (s.putAccs v).wmap = s.wmap ∧
    (s.putAccs v).wfin = s.wfin ∧ (s.putAccs v).wheld = s.wheld ∧ (s.putAccs v).preserve = s.preserve ∧
    (s.putAccs v).kept = s.kept ∧ (s.putAccs v).metaOpen = s.metaOpen ∧ (s.putAccs v).portA = s.portA ∧
    (s.putAccs v).restartDue = s.restartDue ∧ (s.putAccs v).pings = s.pings ∧ (s.putAccs v).chain = s.chain ∧
    (s.putAccs v).position = s.position ∧ (s.putAccs v).power = s.power ∧ (s.putAccs v).powerOp = s.powerOp ∧
    (s.putAccs v).fsn = s.fsn ∧ (s.putAccs v).ns = s.ns ∧ (s.putAccs v).volCap = s.volCap ∧ (s.putAccs v).rsv = s.rsv ∧
    (s.putAccs v).tokCount = s.tokCount ∧ (s.putAccs v).fullZones = s.fullZones ∧ (s.putAccs v).fam = s.fam ∧
    (s.putAccs v).params = s.params ∧ (s.putAccs v).alm = s.alm ∧ (s.putAccs v).domeEntry = s.domeEntry ∧
    (s.putAccs v).domeWake = s.domeWake ∧ (s.putAccs v).domeAgreed = s.domeAgreed ∧ (s.putAccs v).readAt = s.readAt ∧
    (s.putAccs v).sensorFail = s.sensorFail ∧ (s.putAccs v).tripCount = s.tripCount ∧ (s.putAccs v).rise = s.rise ∧
    (s.putAccs v).stopped = s.stopped ∧ (s.putAccs v).coolSince = s.coolSince ∧ (s.putAccs v).events = s.events ∧
    (s.putAccs v).dies = s.dies ∧ (s.putAccs v).chans = s.chans ∧ (s.putAccs v).ldpc = s.ldpc ∧
    (s.putAccs v).nand = s.nand ∧ (s.putAccs v).blkErased = s.blkErased ∧ (s.putAccs v).vault = s.vault ∧
    (s.putAccs v).sessions = s.sessions ∧ (s.putAccs v).trngRestarts = s.trngRestarts ∧
    (s.putAccs v).drbgLeft = s.drbgLeft ∧ (s.putAccs v).imageId = s.imageId ∧ (s.putAccs v).verFuses = s.verFuses ∧
    (s.putAccs v).nsInfo = s.nsInfo ∧ (s.putAccs v).care = s.care ∧ (s.putAccs v).history = s.history ∧
    (s.putAccs v).fw = s.fw ∧ (s.putAccs v).trust = s.trust ∧ (s.putAccs v).fdp = s.fdp ∧
    (s.putAccs v).lostGen = s.lostGen ∧ (s.putAccs v).lostAgain = s.lostAgain ∧ (s.putAccs v).accum = s.accum ∧
    (s.putAccs v).boundSent = s.boundSent ∧ (s.putAccs v).zoneUsed = s.zoneUsed ∧ (s.putAccs v).clean = s.clean :=
  ⟨rfl, rfl, rfl, rfl, rfl, rfl, rfl, rfl, rfl, rfl, rfl, rfl, rfl, rfl, rfl, rfl, rfl, rfl, rfl, rfl, rfl, rfl, rfl,
  rfl, rfl, rfl, rfl, rfl, rfl, rfl, rfl, rfl, rfl, rfl, rfl, rfl, rfl, rfl, rfl, rfl, rfl, rfl, rfl, rfl, rfl, rfl,
  rfl, rfl, rfl, rfl, rfl, rfl, rfl, rfl, rfl, rfl, rfl, rfl, rfl, rfl, rfl, rfl, rfl, rfl, rfl, rfl, rfl, rfl, rfl,
  rfl, rfl, rfl, rfl, rfl, rfl, rfl, rfl, rfl, rfl, rfl, rfl, rfl, rfl, rfl, rfl, rfl, rfl, rfl, rfl, rfl, rfl, rfl,
  rfl, rfl, rfl, rfl, rfl, rfl, rfl, rfl, rfl, rfl, rfl, rfl, rfl, rfl, rfl, rfl, rfl, rfl, rfl, rfl, rfl, rfl, rfl,
  rfl, rfl, rfl, rfl, rfl, rfl, rfl, rfl, rfl⟩

@[simp] theorem State.putAccs_accs (s : State) (v : List VerbAcc) : (s.putAccs v).accs = v := rfl

@[simp] theorem State.putLdpc_frame (s : State) (v : List LdpcReq) :
    (s.putLdpc v).pending = s.pending ∧ (s.putLdpc v).free = s.free ∧ (s.putLdpc v).out = s.out ∧
    (s.putLdpc v).boot = s.boot ∧ (s.putLdpc v).tick = s.tick ∧ (s.putLdpc v).win = s.win ∧ (s.putLdpc v).gap = s.gap ∧
    (s.putLdpc v).regs = s.regs ∧ (s.putLdpc v).regPend = s.regPend ∧ (s.putLdpc v).cores = s.cores ∧
    (s.putLdpc v).cluster = s.cluster ∧ (s.putLdpc v).tun = s.tun ∧ (s.putLdpc v).tunBufs = s.tunBufs ∧
    (s.putLdpc v).tunMin = s.tunMin ∧ (s.putLdpc v).tunMinPend = s.tunMinPend ∧ (s.putLdpc v).sramErr = s.sramErr ∧
    (s.putLdpc v).heldBack = s.heldBack ∧ (s.putLdpc v).rtHit = s.rtHit ∧ (s.putLdpc v).rtClock = s.rtClock ∧
    (s.putLdpc v).rtUntracked = s.rtUntracked ∧ (s.putLdpc v).dram = s.dram ∧ (s.putLdpc v).dr = s.dr ∧
    (s.putLdpc v).poison = s.poison ∧ (s.putLdpc v).ingot = s.ingot ∧ (s.putLdpc v).nor = s.nor ∧
    (s.putLdpc v).norUnk = s.norUnk ∧ (s.putLdpc v).pat = s.pat ∧ (s.putLdpc v).tdly = s.tdly ∧
    (s.putLdpc v).scrub = s.scrub ∧ (s.putLdpc v).fbuf = s.fbuf ∧ (s.putLdpc v).rings = s.rings ∧
    (s.putLdpc v).haz = s.haz ∧ (s.putLdpc v).marks = s.marks ∧ (s.putLdpc v).wsnFloor = s.wsnFloor ∧
    (s.putLdpc v).health = s.health ∧ (s.putLdpc v).qPend = s.qPend ∧ (s.putLdpc v).reqs = s.reqs ∧
    (s.putLdpc v).aborts = s.aborts ∧ (s.putLdpc v).gateShut = s.gateShut ∧ (s.putLdpc v).sqs = s.sqs ∧
    (s.putLdpc v).cqs = s.cqs ∧ (s.putLdpc v).cmds = s.cmds ∧ (s.putLdpc v).resets = s.resets ∧
    (s.putLdpc v).ctrls = s.ctrls ∧ (s.putLdpc v).arbs = s.arbs ∧ (s.putLdpc v).credit = s.credit ∧
    (s.putLdpc v).taken = s.taken ∧ (s.putLdpc v).fetchLeft = s.fetchLeft ∧ (s.putLdpc v).rotLast = s.rotLast ∧
    (s.putLdpc v).rotFirst = s.rotFirst ∧ (s.putLdpc v).hazStall = s.hazStall ∧ (s.putLdpc v).span = s.span ∧
    (s.putLdpc v).spanOut = s.spanOut ∧ (s.putLdpc v).spanIn = s.spanIn ∧ (s.putLdpc v).resOut = s.resOut ∧
    (s.putLdpc v).jobs = s.jobs ∧ (s.putLdpc v).finishing = s.finishing ∧ (s.putLdpc v).greads = s.greads ∧
    (s.putLdpc v).spanNum = s.spanNum ∧ (s.putLdpc v).spanArr = s.spanArr ∧ (s.putLdpc v).dups = s.dups ∧
    (s.putLdpc v).dupGen = s.dupGen ∧ (s.putLdpc v).rlogPos = s.rlogPos ∧ (s.putLdpc v).members = s.members ∧
    (s.putLdpc v).peerVia = s.peerVia ∧ (s.putLdpc v).groups = s.groups ∧ (s.putLdpc v).peerBound = s.peerBound ∧
    (s.putLdpc v).returned = s.returned ∧ (s.putLdpc v).lostRanges = s.lostRanges ∧ (s.putLdpc v).wmap = s.wmap ∧
    (s.putLdpc v).wfin = s.wfin ∧ (s.putLdpc v).wheld = s.wheld ∧ (s.putLdpc v).preserve = s.preserve ∧
    (s.putLdpc v).kept = s.kept ∧ (s.putLdpc v).metaOpen = s.metaOpen ∧ (s.putLdpc v).portA = s.portA ∧
    (s.putLdpc v).restartDue = s.restartDue ∧ (s.putLdpc v).pings = s.pings ∧ (s.putLdpc v).chain = s.chain ∧
    (s.putLdpc v).position = s.position ∧ (s.putLdpc v).power = s.power ∧ (s.putLdpc v).powerOp = s.powerOp ∧
    (s.putLdpc v).fsn = s.fsn ∧ (s.putLdpc v).ns = s.ns ∧ (s.putLdpc v).volCap = s.volCap ∧ (s.putLdpc v).rsv = s.rsv ∧
    (s.putLdpc v).tokCount = s.tokCount ∧ (s.putLdpc v).fullZones = s.fullZones ∧ (s.putLdpc v).fam = s.fam ∧
    (s.putLdpc v).params = s.params ∧ (s.putLdpc v).alm = s.alm ∧ (s.putLdpc v).domeEntry = s.domeEntry ∧
    (s.putLdpc v).domeWake = s.domeWake ∧ (s.putLdpc v).domeAgreed = s.domeAgreed ∧ (s.putLdpc v).readAt = s.readAt ∧
    (s.putLdpc v).sensorFail = s.sensorFail ∧ (s.putLdpc v).tripCount = s.tripCount ∧ (s.putLdpc v).rise = s.rise ∧
    (s.putLdpc v).stopped = s.stopped ∧ (s.putLdpc v).coolSince = s.coolSince ∧ (s.putLdpc v).events = s.events ∧
    (s.putLdpc v).dies = s.dies ∧ (s.putLdpc v).chans = s.chans ∧ (s.putLdpc v).accs = s.accs ∧
    (s.putLdpc v).nand = s.nand ∧ (s.putLdpc v).blkErased = s.blkErased ∧ (s.putLdpc v).vault = s.vault ∧
    (s.putLdpc v).sessions = s.sessions ∧ (s.putLdpc v).trngRestarts = s.trngRestarts ∧
    (s.putLdpc v).drbgLeft = s.drbgLeft ∧ (s.putLdpc v).imageId = s.imageId ∧ (s.putLdpc v).verFuses = s.verFuses ∧
    (s.putLdpc v).nsInfo = s.nsInfo ∧ (s.putLdpc v).care = s.care ∧ (s.putLdpc v).history = s.history ∧
    (s.putLdpc v).fw = s.fw ∧ (s.putLdpc v).trust = s.trust ∧ (s.putLdpc v).fdp = s.fdp ∧
    (s.putLdpc v).lostGen = s.lostGen ∧ (s.putLdpc v).lostAgain = s.lostAgain ∧ (s.putLdpc v).accum = s.accum ∧
    (s.putLdpc v).boundSent = s.boundSent ∧ (s.putLdpc v).zoneUsed = s.zoneUsed ∧ (s.putLdpc v).clean = s.clean :=
  ⟨rfl, rfl, rfl, rfl, rfl, rfl, rfl, rfl, rfl, rfl, rfl, rfl, rfl, rfl, rfl, rfl, rfl, rfl, rfl, rfl, rfl, rfl, rfl,
  rfl, rfl, rfl, rfl, rfl, rfl, rfl, rfl, rfl, rfl, rfl, rfl, rfl, rfl, rfl, rfl, rfl, rfl, rfl, rfl, rfl, rfl, rfl,
  rfl, rfl, rfl, rfl, rfl, rfl, rfl, rfl, rfl, rfl, rfl, rfl, rfl, rfl, rfl, rfl, rfl, rfl, rfl, rfl, rfl, rfl, rfl,
  rfl, rfl, rfl, rfl, rfl, rfl, rfl, rfl, rfl, rfl, rfl, rfl, rfl, rfl, rfl, rfl, rfl, rfl, rfl, rfl, rfl, rfl, rfl,
  rfl, rfl, rfl, rfl, rfl, rfl, rfl, rfl, rfl, rfl, rfl, rfl, rfl, rfl, rfl, rfl, rfl, rfl, rfl, rfl, rfl, rfl, rfl,
  rfl, rfl, rfl, rfl, rfl, rfl, rfl, rfl, rfl⟩

@[simp] theorem State.putLdpc_ldpc (s : State) (v : List LdpcReq) : (s.putLdpc v).ldpc = v := rfl

@[simp] theorem State.putNand_frame (s : State) (v : FMap NFrame) :
    (s.putNand v).pending = s.pending ∧ (s.putNand v).free = s.free ∧ (s.putNand v).out = s.out ∧
    (s.putNand v).boot = s.boot ∧ (s.putNand v).tick = s.tick ∧ (s.putNand v).win = s.win ∧ (s.putNand v).gap = s.gap ∧
    (s.putNand v).regs = s.regs ∧ (s.putNand v).regPend = s.regPend ∧ (s.putNand v).cores = s.cores ∧
    (s.putNand v).cluster = s.cluster ∧ (s.putNand v).tun = s.tun ∧ (s.putNand v).tunBufs = s.tunBufs ∧
    (s.putNand v).tunMin = s.tunMin ∧ (s.putNand v).tunMinPend = s.tunMinPend ∧ (s.putNand v).sramErr = s.sramErr ∧
    (s.putNand v).heldBack = s.heldBack ∧ (s.putNand v).rtHit = s.rtHit ∧ (s.putNand v).rtClock = s.rtClock ∧
    (s.putNand v).rtUntracked = s.rtUntracked ∧ (s.putNand v).dram = s.dram ∧ (s.putNand v).dr = s.dr ∧
    (s.putNand v).poison = s.poison ∧ (s.putNand v).ingot = s.ingot ∧ (s.putNand v).nor = s.nor ∧
    (s.putNand v).norUnk = s.norUnk ∧ (s.putNand v).pat = s.pat ∧ (s.putNand v).tdly = s.tdly ∧
    (s.putNand v).scrub = s.scrub ∧ (s.putNand v).fbuf = s.fbuf ∧ (s.putNand v).rings = s.rings ∧
    (s.putNand v).haz = s.haz ∧ (s.putNand v).marks = s.marks ∧ (s.putNand v).wsnFloor = s.wsnFloor ∧
    (s.putNand v).health = s.health ∧ (s.putNand v).qPend = s.qPend ∧ (s.putNand v).reqs = s.reqs ∧
    (s.putNand v).aborts = s.aborts ∧ (s.putNand v).gateShut = s.gateShut ∧ (s.putNand v).sqs = s.sqs ∧
    (s.putNand v).cqs = s.cqs ∧ (s.putNand v).cmds = s.cmds ∧ (s.putNand v).resets = s.resets ∧
    (s.putNand v).ctrls = s.ctrls ∧ (s.putNand v).arbs = s.arbs ∧ (s.putNand v).credit = s.credit ∧
    (s.putNand v).taken = s.taken ∧ (s.putNand v).fetchLeft = s.fetchLeft ∧ (s.putNand v).rotLast = s.rotLast ∧
    (s.putNand v).rotFirst = s.rotFirst ∧ (s.putNand v).hazStall = s.hazStall ∧ (s.putNand v).span = s.span ∧
    (s.putNand v).spanOut = s.spanOut ∧ (s.putNand v).spanIn = s.spanIn ∧ (s.putNand v).resOut = s.resOut ∧
    (s.putNand v).jobs = s.jobs ∧ (s.putNand v).finishing = s.finishing ∧ (s.putNand v).greads = s.greads ∧
    (s.putNand v).spanNum = s.spanNum ∧ (s.putNand v).spanArr = s.spanArr ∧ (s.putNand v).dups = s.dups ∧
    (s.putNand v).dupGen = s.dupGen ∧ (s.putNand v).rlogPos = s.rlogPos ∧ (s.putNand v).members = s.members ∧
    (s.putNand v).peerVia = s.peerVia ∧ (s.putNand v).groups = s.groups ∧ (s.putNand v).peerBound = s.peerBound ∧
    (s.putNand v).returned = s.returned ∧ (s.putNand v).lostRanges = s.lostRanges ∧ (s.putNand v).wmap = s.wmap ∧
    (s.putNand v).wfin = s.wfin ∧ (s.putNand v).wheld = s.wheld ∧ (s.putNand v).preserve = s.preserve ∧
    (s.putNand v).kept = s.kept ∧ (s.putNand v).metaOpen = s.metaOpen ∧ (s.putNand v).portA = s.portA ∧
    (s.putNand v).restartDue = s.restartDue ∧ (s.putNand v).pings = s.pings ∧ (s.putNand v).chain = s.chain ∧
    (s.putNand v).position = s.position ∧ (s.putNand v).power = s.power ∧ (s.putNand v).powerOp = s.powerOp ∧
    (s.putNand v).fsn = s.fsn ∧ (s.putNand v).ns = s.ns ∧ (s.putNand v).volCap = s.volCap ∧ (s.putNand v).rsv = s.rsv ∧
    (s.putNand v).tokCount = s.tokCount ∧ (s.putNand v).fullZones = s.fullZones ∧ (s.putNand v).fam = s.fam ∧
    (s.putNand v).params = s.params ∧ (s.putNand v).alm = s.alm ∧ (s.putNand v).domeEntry = s.domeEntry ∧
    (s.putNand v).domeWake = s.domeWake ∧ (s.putNand v).domeAgreed = s.domeAgreed ∧ (s.putNand v).readAt = s.readAt ∧
    (s.putNand v).sensorFail = s.sensorFail ∧ (s.putNand v).tripCount = s.tripCount ∧ (s.putNand v).rise = s.rise ∧
    (s.putNand v).stopped = s.stopped ∧ (s.putNand v).coolSince = s.coolSince ∧ (s.putNand v).events = s.events ∧
    (s.putNand v).dies = s.dies ∧ (s.putNand v).chans = s.chans ∧ (s.putNand v).accs = s.accs ∧
    (s.putNand v).ldpc = s.ldpc ∧ (s.putNand v).blkErased = s.blkErased ∧ (s.putNand v).vault = s.vault ∧
    (s.putNand v).sessions = s.sessions ∧ (s.putNand v).trngRestarts = s.trngRestarts ∧
    (s.putNand v).drbgLeft = s.drbgLeft ∧ (s.putNand v).imageId = s.imageId ∧ (s.putNand v).verFuses = s.verFuses ∧
    (s.putNand v).nsInfo = s.nsInfo ∧ (s.putNand v).care = s.care ∧ (s.putNand v).history = s.history ∧
    (s.putNand v).fw = s.fw ∧ (s.putNand v).trust = s.trust ∧ (s.putNand v).fdp = s.fdp ∧
    (s.putNand v).lostGen = s.lostGen ∧ (s.putNand v).lostAgain = s.lostAgain ∧ (s.putNand v).accum = s.accum ∧
    (s.putNand v).boundSent = s.boundSent ∧ (s.putNand v).zoneUsed = s.zoneUsed ∧ (s.putNand v).clean = s.clean :=
  ⟨rfl, rfl, rfl, rfl, rfl, rfl, rfl, rfl, rfl, rfl, rfl, rfl, rfl, rfl, rfl, rfl, rfl, rfl, rfl, rfl, rfl, rfl, rfl,
  rfl, rfl, rfl, rfl, rfl, rfl, rfl, rfl, rfl, rfl, rfl, rfl, rfl, rfl, rfl, rfl, rfl, rfl, rfl, rfl, rfl, rfl, rfl,
  rfl, rfl, rfl, rfl, rfl, rfl, rfl, rfl, rfl, rfl, rfl, rfl, rfl, rfl, rfl, rfl, rfl, rfl, rfl, rfl, rfl, rfl, rfl,
  rfl, rfl, rfl, rfl, rfl, rfl, rfl, rfl, rfl, rfl, rfl, rfl, rfl, rfl, rfl, rfl, rfl, rfl, rfl, rfl, rfl, rfl, rfl,
  rfl, rfl, rfl, rfl, rfl, rfl, rfl, rfl, rfl, rfl, rfl, rfl, rfl, rfl, rfl, rfl, rfl, rfl, rfl, rfl, rfl, rfl, rfl,
  rfl, rfl, rfl, rfl, rfl, rfl, rfl, rfl, rfl⟩

@[simp] theorem State.putNand_nand (s : State) (v : FMap NFrame) : (s.putNand v).nand = v := rfl

@[simp] theorem State.putBlkErased_frame (s : State) (v : FMap Bool) :
    (s.putBlkErased v).pending = s.pending ∧ (s.putBlkErased v).free = s.free ∧ (s.putBlkErased v).out = s.out ∧
    (s.putBlkErased v).boot = s.boot ∧ (s.putBlkErased v).tick = s.tick ∧ (s.putBlkErased v).win = s.win ∧
    (s.putBlkErased v).gap = s.gap ∧ (s.putBlkErased v).regs = s.regs ∧ (s.putBlkErased v).regPend = s.regPend ∧
    (s.putBlkErased v).cores = s.cores ∧ (s.putBlkErased v).cluster = s.cluster ∧ (s.putBlkErased v).tun = s.tun ∧
    (s.putBlkErased v).tunBufs = s.tunBufs ∧ (s.putBlkErased v).tunMin = s.tunMin ∧
    (s.putBlkErased v).tunMinPend = s.tunMinPend ∧ (s.putBlkErased v).sramErr = s.sramErr ∧
    (s.putBlkErased v).heldBack = s.heldBack ∧ (s.putBlkErased v).rtHit = s.rtHit ∧
    (s.putBlkErased v).rtClock = s.rtClock ∧ (s.putBlkErased v).rtUntracked = s.rtUntracked ∧
    (s.putBlkErased v).dram = s.dram ∧ (s.putBlkErased v).dr = s.dr ∧ (s.putBlkErased v).poison = s.poison ∧
    (s.putBlkErased v).ingot = s.ingot ∧ (s.putBlkErased v).nor = s.nor ∧ (s.putBlkErased v).norUnk = s.norUnk ∧
    (s.putBlkErased v).pat = s.pat ∧ (s.putBlkErased v).tdly = s.tdly ∧ (s.putBlkErased v).scrub = s.scrub ∧
    (s.putBlkErased v).fbuf = s.fbuf ∧ (s.putBlkErased v).rings = s.rings ∧ (s.putBlkErased v).haz = s.haz ∧
    (s.putBlkErased v).marks = s.marks ∧ (s.putBlkErased v).wsnFloor = s.wsnFloor ∧
    (s.putBlkErased v).health = s.health ∧ (s.putBlkErased v).qPend = s.qPend ∧ (s.putBlkErased v).reqs = s.reqs ∧
    (s.putBlkErased v).aborts = s.aborts ∧ (s.putBlkErased v).gateShut = s.gateShut ∧ (s.putBlkErased v).sqs = s.sqs ∧
    (s.putBlkErased v).cqs = s.cqs ∧ (s.putBlkErased v).cmds = s.cmds ∧ (s.putBlkErased v).resets = s.resets ∧
    (s.putBlkErased v).ctrls = s.ctrls ∧ (s.putBlkErased v).arbs = s.arbs ∧ (s.putBlkErased v).credit = s.credit ∧
    (s.putBlkErased v).taken = s.taken ∧ (s.putBlkErased v).fetchLeft = s.fetchLeft ∧
    (s.putBlkErased v).rotLast = s.rotLast ∧ (s.putBlkErased v).rotFirst = s.rotFirst ∧
    (s.putBlkErased v).hazStall = s.hazStall ∧ (s.putBlkErased v).span = s.span ∧
    (s.putBlkErased v).spanOut = s.spanOut ∧ (s.putBlkErased v).spanIn = s.spanIn ∧
    (s.putBlkErased v).resOut = s.resOut ∧ (s.putBlkErased v).jobs = s.jobs ∧
    (s.putBlkErased v).finishing = s.finishing ∧ (s.putBlkErased v).greads = s.greads ∧
    (s.putBlkErased v).spanNum = s.spanNum ∧ (s.putBlkErased v).spanArr = s.spanArr ∧ (s.putBlkErased v).dups = s.dups ∧
    (s.putBlkErased v).dupGen = s.dupGen ∧ (s.putBlkErased v).rlogPos = s.rlogPos ∧
    (s.putBlkErased v).members = s.members ∧ (s.putBlkErased v).peerVia = s.peerVia ∧
    (s.putBlkErased v).groups = s.groups ∧ (s.putBlkErased v).peerBound = s.peerBound ∧
    (s.putBlkErased v).returned = s.returned ∧ (s.putBlkErased v).lostRanges = s.lostRanges ∧
    (s.putBlkErased v).wmap = s.wmap ∧ (s.putBlkErased v).wfin = s.wfin ∧ (s.putBlkErased v).wheld = s.wheld ∧
    (s.putBlkErased v).preserve = s.preserve ∧ (s.putBlkErased v).kept = s.kept ∧
    (s.putBlkErased v).metaOpen = s.metaOpen ∧ (s.putBlkErased v).portA = s.portA ∧
    (s.putBlkErased v).restartDue = s.restartDue ∧ (s.putBlkErased v).pings = s.pings ∧
    (s.putBlkErased v).chain = s.chain ∧ (s.putBlkErased v).position = s.position ∧ (s.putBlkErased v).power = s.power ∧
    (s.putBlkErased v).powerOp = s.powerOp ∧ (s.putBlkErased v).fsn = s.fsn ∧ (s.putBlkErased v).ns = s.ns ∧
    (s.putBlkErased v).volCap = s.volCap ∧ (s.putBlkErased v).rsv = s.rsv ∧ (s.putBlkErased v).tokCount = s.tokCount ∧
    (s.putBlkErased v).fullZones = s.fullZones ∧ (s.putBlkErased v).fam = s.fam ∧ (s.putBlkErased v).params = s.params ∧
    (s.putBlkErased v).alm = s.alm ∧ (s.putBlkErased v).domeEntry = s.domeEntry ∧
    (s.putBlkErased v).domeWake = s.domeWake ∧ (s.putBlkErased v).domeAgreed = s.domeAgreed ∧
    (s.putBlkErased v).readAt = s.readAt ∧ (s.putBlkErased v).sensorFail = s.sensorFail ∧
    (s.putBlkErased v).tripCount = s.tripCount ∧ (s.putBlkErased v).rise = s.rise ∧
    (s.putBlkErased v).stopped = s.stopped ∧ (s.putBlkErased v).coolSince = s.coolSince ∧
    (s.putBlkErased v).events = s.events ∧ (s.putBlkErased v).dies = s.dies ∧ (s.putBlkErased v).chans = s.chans ∧
    (s.putBlkErased v).accs = s.accs ∧ (s.putBlkErased v).ldpc = s.ldpc ∧ (s.putBlkErased v).nand = s.nand ∧
    (s.putBlkErased v).vault = s.vault ∧ (s.putBlkErased v).sessions = s.sessions ∧
    (s.putBlkErased v).trngRestarts = s.trngRestarts ∧ (s.putBlkErased v).drbgLeft = s.drbgLeft ∧
    (s.putBlkErased v).imageId = s.imageId ∧ (s.putBlkErased v).verFuses = s.verFuses ∧
    (s.putBlkErased v).nsInfo = s.nsInfo ∧ (s.putBlkErased v).care = s.care ∧ (s.putBlkErased v).history = s.history ∧
    (s.putBlkErased v).fw = s.fw ∧ (s.putBlkErased v).trust = s.trust ∧ (s.putBlkErased v).fdp = s.fdp ∧
    (s.putBlkErased v).lostGen = s.lostGen ∧ (s.putBlkErased v).lostAgain = s.lostAgain ∧
    (s.putBlkErased v).accum = s.accum ∧ (s.putBlkErased v).boundSent = s.boundSent ∧
    (s.putBlkErased v).zoneUsed = s.zoneUsed ∧ (s.putBlkErased v).clean = s.clean :=
  ⟨rfl, rfl, rfl, rfl, rfl, rfl, rfl, rfl, rfl, rfl, rfl, rfl, rfl, rfl, rfl, rfl, rfl, rfl, rfl, rfl, rfl, rfl, rfl,
  rfl, rfl, rfl, rfl, rfl, rfl, rfl, rfl, rfl, rfl, rfl, rfl, rfl, rfl, rfl, rfl, rfl, rfl, rfl, rfl, rfl, rfl, rfl,
  rfl, rfl, rfl, rfl, rfl, rfl, rfl, rfl, rfl, rfl, rfl, rfl, rfl, rfl, rfl, rfl, rfl, rfl, rfl, rfl, rfl, rfl, rfl,
  rfl, rfl, rfl, rfl, rfl, rfl, rfl, rfl, rfl, rfl, rfl, rfl, rfl, rfl, rfl, rfl, rfl, rfl, rfl, rfl, rfl, rfl, rfl,
  rfl, rfl, rfl, rfl, rfl, rfl, rfl, rfl, rfl, rfl, rfl, rfl, rfl, rfl, rfl, rfl, rfl, rfl, rfl, rfl, rfl, rfl, rfl,
  rfl, rfl, rfl, rfl, rfl, rfl, rfl, rfl, rfl⟩

@[simp] theorem State.putBlkErased_blkErased (s : State) (v : FMap Bool) : (s.putBlkErased v).blkErased = v := rfl

@[simp] theorem State.putVault_frame (s : State) (v : FMap (Option VSlot)) :
    (s.putVault v).pending = s.pending ∧ (s.putVault v).free = s.free ∧ (s.putVault v).out = s.out ∧
    (s.putVault v).boot = s.boot ∧ (s.putVault v).tick = s.tick ∧ (s.putVault v).win = s.win ∧
    (s.putVault v).gap = s.gap ∧ (s.putVault v).regs = s.regs ∧ (s.putVault v).regPend = s.regPend ∧
    (s.putVault v).cores = s.cores ∧ (s.putVault v).cluster = s.cluster ∧ (s.putVault v).tun = s.tun ∧
    (s.putVault v).tunBufs = s.tunBufs ∧ (s.putVault v).tunMin = s.tunMin ∧ (s.putVault v).tunMinPend = s.tunMinPend ∧
    (s.putVault v).sramErr = s.sramErr ∧ (s.putVault v).heldBack = s.heldBack ∧ (s.putVault v).rtHit = s.rtHit ∧
    (s.putVault v).rtClock = s.rtClock ∧ (s.putVault v).rtUntracked = s.rtUntracked ∧ (s.putVault v).dram = s.dram ∧
    (s.putVault v).dr = s.dr ∧ (s.putVault v).poison = s.poison ∧ (s.putVault v).ingot = s.ingot ∧
    (s.putVault v).nor = s.nor ∧ (s.putVault v).norUnk = s.norUnk ∧ (s.putVault v).pat = s.pat ∧
    (s.putVault v).tdly = s.tdly ∧ (s.putVault v).scrub = s.scrub ∧ (s.putVault v).fbuf = s.fbuf ∧
    (s.putVault v).rings = s.rings ∧ (s.putVault v).haz = s.haz ∧ (s.putVault v).marks = s.marks ∧
    (s.putVault v).wsnFloor = s.wsnFloor ∧ (s.putVault v).health = s.health ∧ (s.putVault v).qPend = s.qPend ∧
    (s.putVault v).reqs = s.reqs ∧ (s.putVault v).aborts = s.aborts ∧ (s.putVault v).gateShut = s.gateShut ∧
    (s.putVault v).sqs = s.sqs ∧ (s.putVault v).cqs = s.cqs ∧ (s.putVault v).cmds = s.cmds ∧
    (s.putVault v).resets = s.resets ∧ (s.putVault v).ctrls = s.ctrls ∧ (s.putVault v).arbs = s.arbs ∧
    (s.putVault v).credit = s.credit ∧ (s.putVault v).taken = s.taken ∧ (s.putVault v).fetchLeft = s.fetchLeft ∧
    (s.putVault v).rotLast = s.rotLast ∧ (s.putVault v).rotFirst = s.rotFirst ∧ (s.putVault v).hazStall = s.hazStall ∧
    (s.putVault v).span = s.span ∧ (s.putVault v).spanOut = s.spanOut ∧ (s.putVault v).spanIn = s.spanIn ∧
    (s.putVault v).resOut = s.resOut ∧ (s.putVault v).jobs = s.jobs ∧ (s.putVault v).finishing = s.finishing ∧
    (s.putVault v).greads = s.greads ∧ (s.putVault v).spanNum = s.spanNum ∧ (s.putVault v).spanArr = s.spanArr ∧
    (s.putVault v).dups = s.dups ∧ (s.putVault v).dupGen = s.dupGen ∧ (s.putVault v).rlogPos = s.rlogPos ∧
    (s.putVault v).members = s.members ∧ (s.putVault v).peerVia = s.peerVia ∧ (s.putVault v).groups = s.groups ∧
    (s.putVault v).peerBound = s.peerBound ∧ (s.putVault v).returned = s.returned ∧
    (s.putVault v).lostRanges = s.lostRanges ∧ (s.putVault v).wmap = s.wmap ∧ (s.putVault v).wfin = s.wfin ∧
    (s.putVault v).wheld = s.wheld ∧ (s.putVault v).preserve = s.preserve ∧ (s.putVault v).kept = s.kept ∧
    (s.putVault v).metaOpen = s.metaOpen ∧ (s.putVault v).portA = s.portA ∧ (s.putVault v).restartDue = s.restartDue ∧
    (s.putVault v).pings = s.pings ∧ (s.putVault v).chain = s.chain ∧ (s.putVault v).position = s.position ∧
    (s.putVault v).power = s.power ∧ (s.putVault v).powerOp = s.powerOp ∧ (s.putVault v).fsn = s.fsn ∧
    (s.putVault v).ns = s.ns ∧ (s.putVault v).volCap = s.volCap ∧ (s.putVault v).rsv = s.rsv ∧
    (s.putVault v).tokCount = s.tokCount ∧ (s.putVault v).fullZones = s.fullZones ∧ (s.putVault v).fam = s.fam ∧
    (s.putVault v).params = s.params ∧ (s.putVault v).alm = s.alm ∧ (s.putVault v).domeEntry = s.domeEntry ∧
    (s.putVault v).domeWake = s.domeWake ∧ (s.putVault v).domeAgreed = s.domeAgreed ∧ (s.putVault v).readAt = s.readAt ∧
    (s.putVault v).sensorFail = s.sensorFail ∧ (s.putVault v).tripCount = s.tripCount ∧ (s.putVault v).rise = s.rise ∧
    (s.putVault v).stopped = s.stopped ∧ (s.putVault v).coolSince = s.coolSince ∧ (s.putVault v).events = s.events ∧
    (s.putVault v).dies = s.dies ∧ (s.putVault v).chans = s.chans ∧ (s.putVault v).accs = s.accs ∧
    (s.putVault v).ldpc = s.ldpc ∧ (s.putVault v).nand = s.nand ∧ (s.putVault v).blkErased = s.blkErased ∧
    (s.putVault v).sessions = s.sessions ∧ (s.putVault v).trngRestarts = s.trngRestarts ∧
    (s.putVault v).drbgLeft = s.drbgLeft ∧ (s.putVault v).imageId = s.imageId ∧ (s.putVault v).verFuses = s.verFuses ∧
    (s.putVault v).nsInfo = s.nsInfo ∧ (s.putVault v).care = s.care ∧ (s.putVault v).history = s.history ∧
    (s.putVault v).fw = s.fw ∧ (s.putVault v).trust = s.trust ∧ (s.putVault v).fdp = s.fdp ∧
    (s.putVault v).lostGen = s.lostGen ∧ (s.putVault v).lostAgain = s.lostAgain ∧ (s.putVault v).accum = s.accum ∧
    (s.putVault v).boundSent = s.boundSent ∧ (s.putVault v).zoneUsed = s.zoneUsed ∧ (s.putVault v).clean = s.clean :=
  ⟨rfl, rfl, rfl, rfl, rfl, rfl, rfl, rfl, rfl, rfl, rfl, rfl, rfl, rfl, rfl, rfl, rfl, rfl, rfl, rfl, rfl, rfl, rfl,
  rfl, rfl, rfl, rfl, rfl, rfl, rfl, rfl, rfl, rfl, rfl, rfl, rfl, rfl, rfl, rfl, rfl, rfl, rfl, rfl, rfl, rfl, rfl,
  rfl, rfl, rfl, rfl, rfl, rfl, rfl, rfl, rfl, rfl, rfl, rfl, rfl, rfl, rfl, rfl, rfl, rfl, rfl, rfl, rfl, rfl, rfl,
  rfl, rfl, rfl, rfl, rfl, rfl, rfl, rfl, rfl, rfl, rfl, rfl, rfl, rfl, rfl, rfl, rfl, rfl, rfl, rfl, rfl, rfl, rfl,
  rfl, rfl, rfl, rfl, rfl, rfl, rfl, rfl, rfl, rfl, rfl, rfl, rfl, rfl, rfl, rfl, rfl, rfl, rfl, rfl, rfl, rfl, rfl,
  rfl, rfl, rfl, rfl, rfl, rfl, rfl, rfl, rfl⟩

@[simp] theorem State.putVault_vault (s : State) (v : FMap (Option VSlot)) : (s.putVault v).vault = v := rfl

@[simp] theorem State.putSessions_frame (s : State) (v : List Session) :
    (s.putSessions v).pending = s.pending ∧ (s.putSessions v).free = s.free ∧ (s.putSessions v).out = s.out ∧
    (s.putSessions v).boot = s.boot ∧ (s.putSessions v).tick = s.tick ∧ (s.putSessions v).win = s.win ∧
    (s.putSessions v).gap = s.gap ∧ (s.putSessions v).regs = s.regs ∧ (s.putSessions v).regPend = s.regPend ∧
    (s.putSessions v).cores = s.cores ∧ (s.putSessions v).cluster = s.cluster ∧ (s.putSessions v).tun = s.tun ∧
    (s.putSessions v).tunBufs = s.tunBufs ∧ (s.putSessions v).tunMin = s.tunMin ∧
    (s.putSessions v).tunMinPend = s.tunMinPend ∧ (s.putSessions v).sramErr = s.sramErr ∧
    (s.putSessions v).heldBack = s.heldBack ∧ (s.putSessions v).rtHit = s.rtHit ∧ (s.putSessions v).rtClock = s.rtClock ∧
    (s.putSessions v).rtUntracked = s.rtUntracked ∧ (s.putSessions v).dram = s.dram ∧ (s.putSessions v).dr = s.dr ∧
    (s.putSessions v).poison = s.poison ∧ (s.putSessions v).ingot = s.ingot ∧ (s.putSessions v).nor = s.nor ∧
    (s.putSessions v).norUnk = s.norUnk ∧ (s.putSessions v).pat = s.pat ∧ (s.putSessions v).tdly = s.tdly ∧
    (s.putSessions v).scrub = s.scrub ∧ (s.putSessions v).fbuf = s.fbuf ∧ (s.putSessions v).rings = s.rings ∧
    (s.putSessions v).haz = s.haz ∧ (s.putSessions v).marks = s.marks ∧ (s.putSessions v).wsnFloor = s.wsnFloor ∧
    (s.putSessions v).health = s.health ∧ (s.putSessions v).qPend = s.qPend ∧ (s.putSessions v).reqs = s.reqs ∧
    (s.putSessions v).aborts = s.aborts ∧ (s.putSessions v).gateShut = s.gateShut ∧ (s.putSessions v).sqs = s.sqs ∧
    (s.putSessions v).cqs = s.cqs ∧ (s.putSessions v).cmds = s.cmds ∧ (s.putSessions v).resets = s.resets ∧
    (s.putSessions v).ctrls = s.ctrls ∧ (s.putSessions v).arbs = s.arbs ∧ (s.putSessions v).credit = s.credit ∧
    (s.putSessions v).taken = s.taken ∧ (s.putSessions v).fetchLeft = s.fetchLeft ∧
    (s.putSessions v).rotLast = s.rotLast ∧ (s.putSessions v).rotFirst = s.rotFirst ∧
    (s.putSessions v).hazStall = s.hazStall ∧ (s.putSessions v).span = s.span ∧ (s.putSessions v).spanOut = s.spanOut ∧
    (s.putSessions v).spanIn = s.spanIn ∧ (s.putSessions v).resOut = s.resOut ∧ (s.putSessions v).jobs = s.jobs ∧
    (s.putSessions v).finishing = s.finishing ∧ (s.putSessions v).greads = s.greads ∧
    (s.putSessions v).spanNum = s.spanNum ∧ (s.putSessions v).spanArr = s.spanArr ∧ (s.putSessions v).dups = s.dups ∧
    (s.putSessions v).dupGen = s.dupGen ∧ (s.putSessions v).rlogPos = s.rlogPos ∧ (s.putSessions v).members = s.members ∧
    (s.putSessions v).peerVia = s.peerVia ∧ (s.putSessions v).groups = s.groups ∧
    (s.putSessions v).peerBound = s.peerBound ∧ (s.putSessions v).returned = s.returned ∧
    (s.putSessions v).lostRanges = s.lostRanges ∧ (s.putSessions v).wmap = s.wmap ∧ (s.putSessions v).wfin = s.wfin ∧
    (s.putSessions v).wheld = s.wheld ∧ (s.putSessions v).preserve = s.preserve ∧ (s.putSessions v).kept = s.kept ∧
    (s.putSessions v).metaOpen = s.metaOpen ∧ (s.putSessions v).portA = s.portA ∧
    (s.putSessions v).restartDue = s.restartDue ∧ (s.putSessions v).pings = s.pings ∧ (s.putSessions v).chain = s.chain ∧
    (s.putSessions v).position = s.position ∧ (s.putSessions v).power = s.power ∧ (s.putSessions v).powerOp = s.powerOp ∧
    (s.putSessions v).fsn = s.fsn ∧ (s.putSessions v).ns = s.ns ∧ (s.putSessions v).volCap = s.volCap ∧
    (s.putSessions v).rsv = s.rsv ∧ (s.putSessions v).tokCount = s.tokCount ∧ (s.putSessions v).fullZones = s.fullZones ∧
    (s.putSessions v).fam = s.fam ∧ (s.putSessions v).params = s.params ∧ (s.putSessions v).alm = s.alm ∧
    (s.putSessions v).domeEntry = s.domeEntry ∧ (s.putSessions v).domeWake = s.domeWake ∧
    (s.putSessions v).domeAgreed = s.domeAgreed ∧ (s.putSessions v).readAt = s.readAt ∧
    (s.putSessions v).sensorFail = s.sensorFail ∧ (s.putSessions v).tripCount = s.tripCount ∧
    (s.putSessions v).rise = s.rise ∧ (s.putSessions v).stopped = s.stopped ∧ (s.putSessions v).coolSince = s.coolSince ∧
    (s.putSessions v).events = s.events ∧ (s.putSessions v).dies = s.dies ∧ (s.putSessions v).chans = s.chans ∧
    (s.putSessions v).accs = s.accs ∧ (s.putSessions v).ldpc = s.ldpc ∧ (s.putSessions v).nand = s.nand ∧
    (s.putSessions v).blkErased = s.blkErased ∧ (s.putSessions v).vault = s.vault ∧
    (s.putSessions v).trngRestarts = s.trngRestarts ∧ (s.putSessions v).drbgLeft = s.drbgLeft ∧
    (s.putSessions v).imageId = s.imageId ∧ (s.putSessions v).verFuses = s.verFuses ∧
    (s.putSessions v).nsInfo = s.nsInfo ∧ (s.putSessions v).care = s.care ∧ (s.putSessions v).history = s.history ∧
    (s.putSessions v).fw = s.fw ∧ (s.putSessions v).trust = s.trust ∧ (s.putSessions v).fdp = s.fdp ∧
    (s.putSessions v).lostGen = s.lostGen ∧ (s.putSessions v).lostAgain = s.lostAgain ∧
    (s.putSessions v).accum = s.accum ∧ (s.putSessions v).boundSent = s.boundSent ∧
    (s.putSessions v).zoneUsed = s.zoneUsed ∧ (s.putSessions v).clean = s.clean :=
  ⟨rfl, rfl, rfl, rfl, rfl, rfl, rfl, rfl, rfl, rfl, rfl, rfl, rfl, rfl, rfl, rfl, rfl, rfl, rfl, rfl, rfl, rfl, rfl,
  rfl, rfl, rfl, rfl, rfl, rfl, rfl, rfl, rfl, rfl, rfl, rfl, rfl, rfl, rfl, rfl, rfl, rfl, rfl, rfl, rfl, rfl, rfl,
  rfl, rfl, rfl, rfl, rfl, rfl, rfl, rfl, rfl, rfl, rfl, rfl, rfl, rfl, rfl, rfl, rfl, rfl, rfl, rfl, rfl, rfl, rfl,
  rfl, rfl, rfl, rfl, rfl, rfl, rfl, rfl, rfl, rfl, rfl, rfl, rfl, rfl, rfl, rfl, rfl, rfl, rfl, rfl, rfl, rfl, rfl,
  rfl, rfl, rfl, rfl, rfl, rfl, rfl, rfl, rfl, rfl, rfl, rfl, rfl, rfl, rfl, rfl, rfl, rfl, rfl, rfl, rfl, rfl, rfl,
  rfl, rfl, rfl, rfl, rfl, rfl, rfl, rfl, rfl⟩

@[simp] theorem State.putSessions_sessions (s : State) (v : List Session) : (s.putSessions v).sessions = v := rfl

@[simp] theorem State.putTrngRestarts_frame (s : State) (v : List W64) :
    (s.putTrngRestarts v).pending = s.pending ∧ (s.putTrngRestarts v).free = s.free ∧ (s.putTrngRestarts v).out = s.out ∧
    (s.putTrngRestarts v).boot = s.boot ∧ (s.putTrngRestarts v).tick = s.tick ∧ (s.putTrngRestarts v).win = s.win ∧
    (s.putTrngRestarts v).gap = s.gap ∧ (s.putTrngRestarts v).regs = s.regs ∧ (s.putTrngRestarts v).regPend = s.regPend ∧
    (s.putTrngRestarts v).cores = s.cores ∧ (s.putTrngRestarts v).cluster = s.cluster ∧
    (s.putTrngRestarts v).tun = s.tun ∧ (s.putTrngRestarts v).tunBufs = s.tunBufs ∧
    (s.putTrngRestarts v).tunMin = s.tunMin ∧ (s.putTrngRestarts v).tunMinPend = s.tunMinPend ∧
    (s.putTrngRestarts v).sramErr = s.sramErr ∧ (s.putTrngRestarts v).heldBack = s.heldBack ∧
    (s.putTrngRestarts v).rtHit = s.rtHit ∧ (s.putTrngRestarts v).rtClock = s.rtClock ∧
    (s.putTrngRestarts v).rtUntracked = s.rtUntracked ∧ (s.putTrngRestarts v).dram = s.dram ∧
    (s.putTrngRestarts v).dr = s.dr ∧ (s.putTrngRestarts v).poison = s.poison ∧ (s.putTrngRestarts v).ingot = s.ingot ∧
    (s.putTrngRestarts v).nor = s.nor ∧ (s.putTrngRestarts v).norUnk = s.norUnk ∧ (s.putTrngRestarts v).pat = s.pat ∧
    (s.putTrngRestarts v).tdly = s.tdly ∧ (s.putTrngRestarts v).scrub = s.scrub ∧ (s.putTrngRestarts v).fbuf = s.fbuf ∧
    (s.putTrngRestarts v).rings = s.rings ∧ (s.putTrngRestarts v).haz = s.haz ∧ (s.putTrngRestarts v).marks = s.marks ∧
    (s.putTrngRestarts v).wsnFloor = s.wsnFloor ∧ (s.putTrngRestarts v).health = s.health ∧
    (s.putTrngRestarts v).qPend = s.qPend ∧ (s.putTrngRestarts v).reqs = s.reqs ∧
    (s.putTrngRestarts v).aborts = s.aborts ∧ (s.putTrngRestarts v).gateShut = s.gateShut ∧
    (s.putTrngRestarts v).sqs = s.sqs ∧ (s.putTrngRestarts v).cqs = s.cqs ∧ (s.putTrngRestarts v).cmds = s.cmds ∧
    (s.putTrngRestarts v).resets = s.resets ∧ (s.putTrngRestarts v).ctrls = s.ctrls ∧
    (s.putTrngRestarts v).arbs = s.arbs ∧ (s.putTrngRestarts v).credit = s.credit ∧
    (s.putTrngRestarts v).taken = s.taken ∧ (s.putTrngRestarts v).fetchLeft = s.fetchLeft ∧
    (s.putTrngRestarts v).rotLast = s.rotLast ∧ (s.putTrngRestarts v).rotFirst = s.rotFirst ∧
    (s.putTrngRestarts v).hazStall = s.hazStall ∧ (s.putTrngRestarts v).span = s.span ∧
    (s.putTrngRestarts v).spanOut = s.spanOut ∧ (s.putTrngRestarts v).spanIn = s.spanIn ∧
    (s.putTrngRestarts v).resOut = s.resOut ∧ (s.putTrngRestarts v).jobs = s.jobs ∧
    (s.putTrngRestarts v).finishing = s.finishing ∧ (s.putTrngRestarts v).greads = s.greads ∧
    (s.putTrngRestarts v).spanNum = s.spanNum ∧ (s.putTrngRestarts v).spanArr = s.spanArr ∧
    (s.putTrngRestarts v).dups = s.dups ∧ (s.putTrngRestarts v).dupGen = s.dupGen ∧
    (s.putTrngRestarts v).rlogPos = s.rlogPos ∧ (s.putTrngRestarts v).members = s.members ∧
    (s.putTrngRestarts v).peerVia = s.peerVia ∧ (s.putTrngRestarts v).groups = s.groups ∧
    (s.putTrngRestarts v).peerBound = s.peerBound ∧ (s.putTrngRestarts v).returned = s.returned ∧
    (s.putTrngRestarts v).lostRanges = s.lostRanges ∧ (s.putTrngRestarts v).wmap = s.wmap ∧
    (s.putTrngRestarts v).wfin = s.wfin ∧ (s.putTrngRestarts v).wheld = s.wheld ∧
    (s.putTrngRestarts v).preserve = s.preserve ∧ (s.putTrngRestarts v).kept = s.kept ∧
    (s.putTrngRestarts v).metaOpen = s.metaOpen ∧ (s.putTrngRestarts v).portA = s.portA ∧
    (s.putTrngRestarts v).restartDue = s.restartDue ∧ (s.putTrngRestarts v).pings = s.pings ∧
    (s.putTrngRestarts v).chain = s.chain ∧ (s.putTrngRestarts v).position = s.position ∧
    (s.putTrngRestarts v).power = s.power ∧ (s.putTrngRestarts v).powerOp = s.powerOp ∧
    (s.putTrngRestarts v).fsn = s.fsn ∧ (s.putTrngRestarts v).ns = s.ns ∧ (s.putTrngRestarts v).volCap = s.volCap ∧
    (s.putTrngRestarts v).rsv = s.rsv ∧ (s.putTrngRestarts v).tokCount = s.tokCount ∧
    (s.putTrngRestarts v).fullZones = s.fullZones ∧ (s.putTrngRestarts v).fam = s.fam ∧
    (s.putTrngRestarts v).params = s.params ∧ (s.putTrngRestarts v).alm = s.alm ∧
    (s.putTrngRestarts v).domeEntry = s.domeEntry ∧ (s.putTrngRestarts v).domeWake = s.domeWake ∧
    (s.putTrngRestarts v).domeAgreed = s.domeAgreed ∧ (s.putTrngRestarts v).readAt = s.readAt ∧
    (s.putTrngRestarts v).sensorFail = s.sensorFail ∧ (s.putTrngRestarts v).tripCount = s.tripCount ∧
    (s.putTrngRestarts v).rise = s.rise ∧ (s.putTrngRestarts v).stopped = s.stopped ∧
    (s.putTrngRestarts v).coolSince = s.coolSince ∧ (s.putTrngRestarts v).events = s.events ∧
    (s.putTrngRestarts v).dies = s.dies ∧ (s.putTrngRestarts v).chans = s.chans ∧ (s.putTrngRestarts v).accs = s.accs ∧
    (s.putTrngRestarts v).ldpc = s.ldpc ∧ (s.putTrngRestarts v).nand = s.nand ∧
    (s.putTrngRestarts v).blkErased = s.blkErased ∧ (s.putTrngRestarts v).vault = s.vault ∧
    (s.putTrngRestarts v).sessions = s.sessions ∧ (s.putTrngRestarts v).drbgLeft = s.drbgLeft ∧
    (s.putTrngRestarts v).imageId = s.imageId ∧ (s.putTrngRestarts v).verFuses = s.verFuses ∧
    (s.putTrngRestarts v).nsInfo = s.nsInfo ∧ (s.putTrngRestarts v).care = s.care ∧
    (s.putTrngRestarts v).history = s.history ∧ (s.putTrngRestarts v).fw = s.fw ∧ (s.putTrngRestarts v).trust = s.trust ∧
    (s.putTrngRestarts v).fdp = s.fdp ∧ (s.putTrngRestarts v).lostGen = s.lostGen ∧
    (s.putTrngRestarts v).lostAgain = s.lostAgain ∧ (s.putTrngRestarts v).accum = s.accum ∧
    (s.putTrngRestarts v).boundSent = s.boundSent ∧ (s.putTrngRestarts v).zoneUsed = s.zoneUsed ∧
    (s.putTrngRestarts v).clean = s.clean :=
  ⟨rfl, rfl, rfl, rfl, rfl, rfl, rfl, rfl, rfl, rfl, rfl, rfl, rfl, rfl, rfl, rfl, rfl, rfl, rfl, rfl, rfl, rfl, rfl,
  rfl, rfl, rfl, rfl, rfl, rfl, rfl, rfl, rfl, rfl, rfl, rfl, rfl, rfl, rfl, rfl, rfl, rfl, rfl, rfl, rfl, rfl, rfl,
  rfl, rfl, rfl, rfl, rfl, rfl, rfl, rfl, rfl, rfl, rfl, rfl, rfl, rfl, rfl, rfl, rfl, rfl, rfl, rfl, rfl, rfl, rfl,
  rfl, rfl, rfl, rfl, rfl, rfl, rfl, rfl, rfl, rfl, rfl, rfl, rfl, rfl, rfl, rfl, rfl, rfl, rfl, rfl, rfl, rfl, rfl,
  rfl, rfl, rfl, rfl, rfl, rfl, rfl, rfl, rfl, rfl, rfl, rfl, rfl, rfl, rfl, rfl, rfl, rfl, rfl, rfl, rfl, rfl, rfl,
  rfl, rfl, rfl, rfl, rfl, rfl, rfl, rfl, rfl⟩

@[simp] theorem State.putTrngRestarts_trngRestarts (s : State) (v : List W64) : (s.putTrngRestarts v).trngRestarts = v := rfl

@[simp] theorem State.putDrbgLeft_frame (s : State) (v : Option Nat) :
    (s.putDrbgLeft v).pending = s.pending ∧ (s.putDrbgLeft v).free = s.free ∧ (s.putDrbgLeft v).out = s.out ∧
    (s.putDrbgLeft v).boot = s.boot ∧ (s.putDrbgLeft v).tick = s.tick ∧ (s.putDrbgLeft v).win = s.win ∧
    (s.putDrbgLeft v).gap = s.gap ∧ (s.putDrbgLeft v).regs = s.regs ∧ (s.putDrbgLeft v).regPend = s.regPend ∧
    (s.putDrbgLeft v).cores = s.cores ∧ (s.putDrbgLeft v).cluster = s.cluster ∧ (s.putDrbgLeft v).tun = s.tun ∧
    (s.putDrbgLeft v).tunBufs = s.tunBufs ∧ (s.putDrbgLeft v).tunMin = s.tunMin ∧
    (s.putDrbgLeft v).tunMinPend = s.tunMinPend ∧ (s.putDrbgLeft v).sramErr = s.sramErr ∧
    (s.putDrbgLeft v).heldBack = s.heldBack ∧ (s.putDrbgLeft v).rtHit = s.rtHit ∧ (s.putDrbgLeft v).rtClock = s.rtClock ∧
    (s.putDrbgLeft v).rtUntracked = s.rtUntracked ∧ (s.putDrbgLeft v).dram = s.dram ∧ (s.putDrbgLeft v).dr = s.dr ∧
    (s.putDrbgLeft v).poison = s.poison ∧ (s.putDrbgLeft v).ingot = s.ingot ∧ (s.putDrbgLeft v).nor = s.nor ∧
    (s.putDrbgLeft v).norUnk = s.norUnk ∧ (s.putDrbgLeft v).pat = s.pat ∧ (s.putDrbgLeft v).tdly = s.tdly ∧
    (s.putDrbgLeft v).scrub = s.scrub ∧ (s.putDrbgLeft v).fbuf = s.fbuf ∧ (s.putDrbgLeft v).rings = s.rings ∧
    (s.putDrbgLeft v).haz = s.haz ∧ (s.putDrbgLeft v).marks = s.marks ∧ (s.putDrbgLeft v).wsnFloor = s.wsnFloor ∧
    (s.putDrbgLeft v).health = s.health ∧ (s.putDrbgLeft v).qPend = s.qPend ∧ (s.putDrbgLeft v).reqs = s.reqs ∧
    (s.putDrbgLeft v).aborts = s.aborts ∧ (s.putDrbgLeft v).gateShut = s.gateShut ∧ (s.putDrbgLeft v).sqs = s.sqs ∧
    (s.putDrbgLeft v).cqs = s.cqs ∧ (s.putDrbgLeft v).cmds = s.cmds ∧ (s.putDrbgLeft v).resets = s.resets ∧
    (s.putDrbgLeft v).ctrls = s.ctrls ∧ (s.putDrbgLeft v).arbs = s.arbs ∧ (s.putDrbgLeft v).credit = s.credit ∧
    (s.putDrbgLeft v).taken = s.taken ∧ (s.putDrbgLeft v).fetchLeft = s.fetchLeft ∧
    (s.putDrbgLeft v).rotLast = s.rotLast ∧ (s.putDrbgLeft v).rotFirst = s.rotFirst ∧
    (s.putDrbgLeft v).hazStall = s.hazStall ∧ (s.putDrbgLeft v).span = s.span ∧ (s.putDrbgLeft v).spanOut = s.spanOut ∧
    (s.putDrbgLeft v).spanIn = s.spanIn ∧ (s.putDrbgLeft v).resOut = s.resOut ∧ (s.putDrbgLeft v).jobs = s.jobs ∧
    (s.putDrbgLeft v).finishing = s.finishing ∧ (s.putDrbgLeft v).greads = s.greads ∧
    (s.putDrbgLeft v).spanNum = s.spanNum ∧ (s.putDrbgLeft v).spanArr = s.spanArr ∧ (s.putDrbgLeft v).dups = s.dups ∧
    (s.putDrbgLeft v).dupGen = s.dupGen ∧ (s.putDrbgLeft v).rlogPos = s.rlogPos ∧ (s.putDrbgLeft v).members = s.members ∧
    (s.putDrbgLeft v).peerVia = s.peerVia ∧ (s.putDrbgLeft v).groups = s.groups ∧
    (s.putDrbgLeft v).peerBound = s.peerBound ∧ (s.putDrbgLeft v).returned = s.returned ∧
    (s.putDrbgLeft v).lostRanges = s.lostRanges ∧ (s.putDrbgLeft v).wmap = s.wmap ∧ (s.putDrbgLeft v).wfin = s.wfin ∧
    (s.putDrbgLeft v).wheld = s.wheld ∧ (s.putDrbgLeft v).preserve = s.preserve ∧ (s.putDrbgLeft v).kept = s.kept ∧
    (s.putDrbgLeft v).metaOpen = s.metaOpen ∧ (s.putDrbgLeft v).portA = s.portA ∧
    (s.putDrbgLeft v).restartDue = s.restartDue ∧ (s.putDrbgLeft v).pings = s.pings ∧ (s.putDrbgLeft v).chain = s.chain ∧
    (s.putDrbgLeft v).position = s.position ∧ (s.putDrbgLeft v).power = s.power ∧ (s.putDrbgLeft v).powerOp = s.powerOp ∧
    (s.putDrbgLeft v).fsn = s.fsn ∧ (s.putDrbgLeft v).ns = s.ns ∧ (s.putDrbgLeft v).volCap = s.volCap ∧
    (s.putDrbgLeft v).rsv = s.rsv ∧ (s.putDrbgLeft v).tokCount = s.tokCount ∧ (s.putDrbgLeft v).fullZones = s.fullZones ∧
    (s.putDrbgLeft v).fam = s.fam ∧ (s.putDrbgLeft v).params = s.params ∧ (s.putDrbgLeft v).alm = s.alm ∧
    (s.putDrbgLeft v).domeEntry = s.domeEntry ∧ (s.putDrbgLeft v).domeWake = s.domeWake ∧
    (s.putDrbgLeft v).domeAgreed = s.domeAgreed ∧ (s.putDrbgLeft v).readAt = s.readAt ∧
    (s.putDrbgLeft v).sensorFail = s.sensorFail ∧ (s.putDrbgLeft v).tripCount = s.tripCount ∧
    (s.putDrbgLeft v).rise = s.rise ∧ (s.putDrbgLeft v).stopped = s.stopped ∧ (s.putDrbgLeft v).coolSince = s.coolSince ∧
    (s.putDrbgLeft v).events = s.events ∧ (s.putDrbgLeft v).dies = s.dies ∧ (s.putDrbgLeft v).chans = s.chans ∧
    (s.putDrbgLeft v).accs = s.accs ∧ (s.putDrbgLeft v).ldpc = s.ldpc ∧ (s.putDrbgLeft v).nand = s.nand ∧
    (s.putDrbgLeft v).blkErased = s.blkErased ∧ (s.putDrbgLeft v).vault = s.vault ∧
    (s.putDrbgLeft v).sessions = s.sessions ∧ (s.putDrbgLeft v).trngRestarts = s.trngRestarts ∧
    (s.putDrbgLeft v).imageId = s.imageId ∧ (s.putDrbgLeft v).verFuses = s.verFuses ∧
    (s.putDrbgLeft v).nsInfo = s.nsInfo ∧ (s.putDrbgLeft v).care = s.care ∧ (s.putDrbgLeft v).history = s.history ∧
    (s.putDrbgLeft v).fw = s.fw ∧ (s.putDrbgLeft v).trust = s.trust ∧ (s.putDrbgLeft v).fdp = s.fdp ∧
    (s.putDrbgLeft v).lostGen = s.lostGen ∧ (s.putDrbgLeft v).lostAgain = s.lostAgain ∧
    (s.putDrbgLeft v).accum = s.accum ∧ (s.putDrbgLeft v).boundSent = s.boundSent ∧
    (s.putDrbgLeft v).zoneUsed = s.zoneUsed ∧ (s.putDrbgLeft v).clean = s.clean :=
  ⟨rfl, rfl, rfl, rfl, rfl, rfl, rfl, rfl, rfl, rfl, rfl, rfl, rfl, rfl, rfl, rfl, rfl, rfl, rfl, rfl, rfl, rfl, rfl,
  rfl, rfl, rfl, rfl, rfl, rfl, rfl, rfl, rfl, rfl, rfl, rfl, rfl, rfl, rfl, rfl, rfl, rfl, rfl, rfl, rfl, rfl, rfl,
  rfl, rfl, rfl, rfl, rfl, rfl, rfl, rfl, rfl, rfl, rfl, rfl, rfl, rfl, rfl, rfl, rfl, rfl, rfl, rfl, rfl, rfl, rfl,
  rfl, rfl, rfl, rfl, rfl, rfl, rfl, rfl, rfl, rfl, rfl, rfl, rfl, rfl, rfl, rfl, rfl, rfl, rfl, rfl, rfl, rfl, rfl,
  rfl, rfl, rfl, rfl, rfl, rfl, rfl, rfl, rfl, rfl, rfl, rfl, rfl, rfl, rfl, rfl, rfl, rfl, rfl, rfl, rfl, rfl, rfl,
  rfl, rfl, rfl, rfl, rfl, rfl, rfl, rfl, rfl⟩

@[simp] theorem State.putDrbgLeft_drbgLeft (s : State) (v : Option Nat) : (s.putDrbgLeft v).drbgLeft = v := rfl

@[simp] theorem State.putImageId_frame (s : State) (v : W64) :
    (s.putImageId v).pending = s.pending ∧ (s.putImageId v).free = s.free ∧ (s.putImageId v).out = s.out ∧
    (s.putImageId v).boot = s.boot ∧ (s.putImageId v).tick = s.tick ∧ (s.putImageId v).win = s.win ∧
    (s.putImageId v).gap = s.gap ∧ (s.putImageId v).regs = s.regs ∧ (s.putImageId v).regPend = s.regPend ∧
    (s.putImageId v).cores = s.cores ∧ (s.putImageId v).cluster = s.cluster ∧ (s.putImageId v).tun = s.tun ∧
    (s.putImageId v).tunBufs = s.tunBufs ∧ (s.putImageId v).tunMin = s.tunMin ∧
    (s.putImageId v).tunMinPend = s.tunMinPend ∧ (s.putImageId v).sramErr = s.sramErr ∧
    (s.putImageId v).heldBack = s.heldBack ∧ (s.putImageId v).rtHit = s.rtHit ∧ (s.putImageId v).rtClock = s.rtClock ∧
    (s.putImageId v).rtUntracked = s.rtUntracked ∧ (s.putImageId v).dram = s.dram ∧ (s.putImageId v).dr = s.dr ∧
    (s.putImageId v).poison = s.poison ∧ (s.putImageId v).ingot = s.ingot ∧ (s.putImageId v).nor = s.nor ∧
    (s.putImageId v).norUnk = s.norUnk ∧ (s.putImageId v).pat = s.pat ∧ (s.putImageId v).tdly = s.tdly ∧
    (s.putImageId v).scrub = s.scrub ∧ (s.putImageId v).fbuf = s.fbuf ∧ (s.putImageId v).rings = s.rings ∧
    (s.putImageId v).haz = s.haz ∧ (s.putImageId v).marks = s.marks ∧ (s.putImageId v).wsnFloor = s.wsnFloor ∧
    (s.putImageId v).health = s.health ∧ (s.putImageId v).qPend = s.qPend ∧ (s.putImageId v).reqs = s.reqs ∧
    (s.putImageId v).aborts = s.aborts ∧ (s.putImageId v).gateShut = s.gateShut ∧ (s.putImageId v).sqs = s.sqs ∧
    (s.putImageId v).cqs = s.cqs ∧ (s.putImageId v).cmds = s.cmds ∧ (s.putImageId v).resets = s.resets ∧
    (s.putImageId v).ctrls = s.ctrls ∧ (s.putImageId v).arbs = s.arbs ∧ (s.putImageId v).credit = s.credit ∧
    (s.putImageId v).taken = s.taken ∧ (s.putImageId v).fetchLeft = s.fetchLeft ∧ (s.putImageId v).rotLast = s.rotLast ∧
    (s.putImageId v).rotFirst = s.rotFirst ∧ (s.putImageId v).hazStall = s.hazStall ∧ (s.putImageId v).span = s.span ∧
    (s.putImageId v).spanOut = s.spanOut ∧ (s.putImageId v).spanIn = s.spanIn ∧ (s.putImageId v).resOut = s.resOut ∧
    (s.putImageId v).jobs = s.jobs ∧ (s.putImageId v).finishing = s.finishing ∧ (s.putImageId v).greads = s.greads ∧
    (s.putImageId v).spanNum = s.spanNum ∧ (s.putImageId v).spanArr = s.spanArr ∧ (s.putImageId v).dups = s.dups ∧
    (s.putImageId v).dupGen = s.dupGen ∧ (s.putImageId v).rlogPos = s.rlogPos ∧ (s.putImageId v).members = s.members ∧
    (s.putImageId v).peerVia = s.peerVia ∧ (s.putImageId v).groups = s.groups ∧
    (s.putImageId v).peerBound = s.peerBound ∧ (s.putImageId v).returned = s.returned ∧
    (s.putImageId v).lostRanges = s.lostRanges ∧ (s.putImageId v).wmap = s.wmap ∧ (s.putImageId v).wfin = s.wfin ∧
    (s.putImageId v).wheld = s.wheld ∧ (s.putImageId v).preserve = s.preserve ∧ (s.putImageId v).kept = s.kept ∧
    (s.putImageId v).metaOpen = s.metaOpen ∧ (s.putImageId v).portA = s.portA ∧
    (s.putImageId v).restartDue = s.restartDue ∧ (s.putImageId v).pings = s.pings ∧ (s.putImageId v).chain = s.chain ∧
    (s.putImageId v).position = s.position ∧ (s.putImageId v).power = s.power ∧ (s.putImageId v).powerOp = s.powerOp ∧
    (s.putImageId v).fsn = s.fsn ∧ (s.putImageId v).ns = s.ns ∧ (s.putImageId v).volCap = s.volCap ∧
    (s.putImageId v).rsv = s.rsv ∧ (s.putImageId v).tokCount = s.tokCount ∧ (s.putImageId v).fullZones = s.fullZones ∧
    (s.putImageId v).fam = s.fam ∧ (s.putImageId v).params = s.params ∧ (s.putImageId v).alm = s.alm ∧
    (s.putImageId v).domeEntry = s.domeEntry ∧ (s.putImageId v).domeWake = s.domeWake ∧
    (s.putImageId v).domeAgreed = s.domeAgreed ∧ (s.putImageId v).readAt = s.readAt ∧
    (s.putImageId v).sensorFail = s.sensorFail ∧ (s.putImageId v).tripCount = s.tripCount ∧
    (s.putImageId v).rise = s.rise ∧ (s.putImageId v).stopped = s.stopped ∧ (s.putImageId v).coolSince = s.coolSince ∧
    (s.putImageId v).events = s.events ∧ (s.putImageId v).dies = s.dies ∧ (s.putImageId v).chans = s.chans ∧
    (s.putImageId v).accs = s.accs ∧ (s.putImageId v).ldpc = s.ldpc ∧ (s.putImageId v).nand = s.nand ∧
    (s.putImageId v).blkErased = s.blkErased ∧ (s.putImageId v).vault = s.vault ∧
    (s.putImageId v).sessions = s.sessions ∧ (s.putImageId v).trngRestarts = s.trngRestarts ∧
    (s.putImageId v).drbgLeft = s.drbgLeft ∧ (s.putImageId v).verFuses = s.verFuses ∧
    (s.putImageId v).nsInfo = s.nsInfo ∧ (s.putImageId v).care = s.care ∧ (s.putImageId v).history = s.history ∧
    (s.putImageId v).fw = s.fw ∧ (s.putImageId v).trust = s.trust ∧ (s.putImageId v).fdp = s.fdp ∧
    (s.putImageId v).lostGen = s.lostGen ∧ (s.putImageId v).lostAgain = s.lostAgain ∧ (s.putImageId v).accum = s.accum ∧
    (s.putImageId v).boundSent = s.boundSent ∧ (s.putImageId v).zoneUsed = s.zoneUsed ∧
    (s.putImageId v).clean = s.clean :=
  ⟨rfl, rfl, rfl, rfl, rfl, rfl, rfl, rfl, rfl, rfl, rfl, rfl, rfl, rfl, rfl, rfl, rfl, rfl, rfl, rfl, rfl, rfl, rfl,
  rfl, rfl, rfl, rfl, rfl, rfl, rfl, rfl, rfl, rfl, rfl, rfl, rfl, rfl, rfl, rfl, rfl, rfl, rfl, rfl, rfl, rfl, rfl,
  rfl, rfl, rfl, rfl, rfl, rfl, rfl, rfl, rfl, rfl, rfl, rfl, rfl, rfl, rfl, rfl, rfl, rfl, rfl, rfl, rfl, rfl, rfl,
  rfl, rfl, rfl, rfl, rfl, rfl, rfl, rfl, rfl, rfl, rfl, rfl, rfl, rfl, rfl, rfl, rfl, rfl, rfl, rfl, rfl, rfl, rfl,
  rfl, rfl, rfl, rfl, rfl, rfl, rfl, rfl, rfl, rfl, rfl, rfl, rfl, rfl, rfl, rfl, rfl, rfl, rfl, rfl, rfl, rfl, rfl,
  rfl, rfl, rfl, rfl, rfl, rfl, rfl, rfl, rfl⟩

@[simp] theorem State.putImageId_imageId (s : State) (v : W64) : (s.putImageId v).imageId = v := rfl

@[simp] theorem State.putVerFuses_frame (s : State) (v : Nat) :
    (s.putVerFuses v).pending = s.pending ∧ (s.putVerFuses v).free = s.free ∧ (s.putVerFuses v).out = s.out ∧
    (s.putVerFuses v).boot = s.boot ∧ (s.putVerFuses v).tick = s.tick ∧ (s.putVerFuses v).win = s.win ∧
    (s.putVerFuses v).gap = s.gap ∧ (s.putVerFuses v).regs = s.regs ∧ (s.putVerFuses v).regPend = s.regPend ∧
    (s.putVerFuses v).cores = s.cores ∧ (s.putVerFuses v).cluster = s.cluster ∧ (s.putVerFuses v).tun = s.tun ∧
    (s.putVerFuses v).tunBufs = s.tunBufs ∧ (s.putVerFuses v).tunMin = s.tunMin ∧
    (s.putVerFuses v).tunMinPend = s.tunMinPend ∧ (s.putVerFuses v).sramErr = s.sramErr ∧
    (s.putVerFuses v).heldBack = s.heldBack ∧ (s.putVerFuses v).rtHit = s.rtHit ∧ (s.putVerFuses v).rtClock = s.rtClock ∧
    (s.putVerFuses v).rtUntracked = s.rtUntracked ∧ (s.putVerFuses v).dram = s.dram ∧ (s.putVerFuses v).dr = s.dr ∧
    (s.putVerFuses v).poison = s.poison ∧ (s.putVerFuses v).ingot = s.ingot ∧ (s.putVerFuses v).nor = s.nor ∧
    (s.putVerFuses v).norUnk = s.norUnk ∧ (s.putVerFuses v).pat = s.pat ∧ (s.putVerFuses v).tdly = s.tdly ∧
    (s.putVerFuses v).scrub = s.scrub ∧ (s.putVerFuses v).fbuf = s.fbuf ∧ (s.putVerFuses v).rings = s.rings ∧
    (s.putVerFuses v).haz = s.haz ∧ (s.putVerFuses v).marks = s.marks ∧ (s.putVerFuses v).wsnFloor = s.wsnFloor ∧
    (s.putVerFuses v).health = s.health ∧ (s.putVerFuses v).qPend = s.qPend ∧ (s.putVerFuses v).reqs = s.reqs ∧
    (s.putVerFuses v).aborts = s.aborts ∧ (s.putVerFuses v).gateShut = s.gateShut ∧ (s.putVerFuses v).sqs = s.sqs ∧
    (s.putVerFuses v).cqs = s.cqs ∧ (s.putVerFuses v).cmds = s.cmds ∧ (s.putVerFuses v).resets = s.resets ∧
    (s.putVerFuses v).ctrls = s.ctrls ∧ (s.putVerFuses v).arbs = s.arbs ∧ (s.putVerFuses v).credit = s.credit ∧
    (s.putVerFuses v).taken = s.taken ∧ (s.putVerFuses v).fetchLeft = s.fetchLeft ∧
    (s.putVerFuses v).rotLast = s.rotLast ∧ (s.putVerFuses v).rotFirst = s.rotFirst ∧
    (s.putVerFuses v).hazStall = s.hazStall ∧ (s.putVerFuses v).span = s.span ∧ (s.putVerFuses v).spanOut = s.spanOut ∧
    (s.putVerFuses v).spanIn = s.spanIn ∧ (s.putVerFuses v).resOut = s.resOut ∧ (s.putVerFuses v).jobs = s.jobs ∧
    (s.putVerFuses v).finishing = s.finishing ∧ (s.putVerFuses v).greads = s.greads ∧
    (s.putVerFuses v).spanNum = s.spanNum ∧ (s.putVerFuses v).spanArr = s.spanArr ∧ (s.putVerFuses v).dups = s.dups ∧
    (s.putVerFuses v).dupGen = s.dupGen ∧ (s.putVerFuses v).rlogPos = s.rlogPos ∧ (s.putVerFuses v).members = s.members ∧
    (s.putVerFuses v).peerVia = s.peerVia ∧ (s.putVerFuses v).groups = s.groups ∧
    (s.putVerFuses v).peerBound = s.peerBound ∧ (s.putVerFuses v).returned = s.returned ∧
    (s.putVerFuses v).lostRanges = s.lostRanges ∧ (s.putVerFuses v).wmap = s.wmap ∧ (s.putVerFuses v).wfin = s.wfin ∧
    (s.putVerFuses v).wheld = s.wheld ∧ (s.putVerFuses v).preserve = s.preserve ∧ (s.putVerFuses v).kept = s.kept ∧
    (s.putVerFuses v).metaOpen = s.metaOpen ∧ (s.putVerFuses v).portA = s.portA ∧
    (s.putVerFuses v).restartDue = s.restartDue ∧ (s.putVerFuses v).pings = s.pings ∧ (s.putVerFuses v).chain = s.chain ∧
    (s.putVerFuses v).position = s.position ∧ (s.putVerFuses v).power = s.power ∧ (s.putVerFuses v).powerOp = s.powerOp ∧
    (s.putVerFuses v).fsn = s.fsn ∧ (s.putVerFuses v).ns = s.ns ∧ (s.putVerFuses v).volCap = s.volCap ∧
    (s.putVerFuses v).rsv = s.rsv ∧ (s.putVerFuses v).tokCount = s.tokCount ∧ (s.putVerFuses v).fullZones = s.fullZones ∧
    (s.putVerFuses v).fam = s.fam ∧ (s.putVerFuses v).params = s.params ∧ (s.putVerFuses v).alm = s.alm ∧
    (s.putVerFuses v).domeEntry = s.domeEntry ∧ (s.putVerFuses v).domeWake = s.domeWake ∧
    (s.putVerFuses v).domeAgreed = s.domeAgreed ∧ (s.putVerFuses v).readAt = s.readAt ∧
    (s.putVerFuses v).sensorFail = s.sensorFail ∧ (s.putVerFuses v).tripCount = s.tripCount ∧
    (s.putVerFuses v).rise = s.rise ∧ (s.putVerFuses v).stopped = s.stopped ∧ (s.putVerFuses v).coolSince = s.coolSince ∧
    (s.putVerFuses v).events = s.events ∧ (s.putVerFuses v).dies = s.dies ∧ (s.putVerFuses v).chans = s.chans ∧
    (s.putVerFuses v).accs = s.accs ∧ (s.putVerFuses v).ldpc = s.ldpc ∧ (s.putVerFuses v).nand = s.nand ∧
    (s.putVerFuses v).blkErased = s.blkErased ∧ (s.putVerFuses v).vault = s.vault ∧
    (s.putVerFuses v).sessions = s.sessions ∧ (s.putVerFuses v).trngRestarts = s.trngRestarts ∧
    (s.putVerFuses v).drbgLeft = s.drbgLeft ∧ (s.putVerFuses v).imageId = s.imageId ∧
    (s.putVerFuses v).nsInfo = s.nsInfo ∧ (s.putVerFuses v).care = s.care ∧ (s.putVerFuses v).history = s.history ∧
    (s.putVerFuses v).fw = s.fw ∧ (s.putVerFuses v).trust = s.trust ∧ (s.putVerFuses v).fdp = s.fdp ∧
    (s.putVerFuses v).lostGen = s.lostGen ∧ (s.putVerFuses v).lostAgain = s.lostAgain ∧
    (s.putVerFuses v).accum = s.accum ∧ (s.putVerFuses v).boundSent = s.boundSent ∧
    (s.putVerFuses v).zoneUsed = s.zoneUsed ∧ (s.putVerFuses v).clean = s.clean :=
  ⟨rfl, rfl, rfl, rfl, rfl, rfl, rfl, rfl, rfl, rfl, rfl, rfl, rfl, rfl, rfl, rfl, rfl, rfl, rfl, rfl, rfl, rfl, rfl,
  rfl, rfl, rfl, rfl, rfl, rfl, rfl, rfl, rfl, rfl, rfl, rfl, rfl, rfl, rfl, rfl, rfl, rfl, rfl, rfl, rfl, rfl, rfl,
  rfl, rfl, rfl, rfl, rfl, rfl, rfl, rfl, rfl, rfl, rfl, rfl, rfl, rfl, rfl, rfl, rfl, rfl, rfl, rfl, rfl, rfl, rfl,
  rfl, rfl, rfl, rfl, rfl, rfl, rfl, rfl, rfl, rfl, rfl, rfl, rfl, rfl, rfl, rfl, rfl, rfl, rfl, rfl, rfl, rfl, rfl,
  rfl, rfl, rfl, rfl, rfl, rfl, rfl, rfl, rfl, rfl, rfl, rfl, rfl, rfl, rfl, rfl, rfl, rfl, rfl, rfl, rfl, rfl, rfl,
  rfl, rfl, rfl, rfl, rfl, rfl, rfl, rfl, rfl⟩

@[simp] theorem State.putVerFuses_verFuses (s : State) (v : Nat) : (s.putVerFuses v).verFuses = v := rfl

@[simp] theorem State.putNsInfo_frame (s : State) (v : FMap (Option NsInfo)) :
    (s.putNsInfo v).pending = s.pending ∧ (s.putNsInfo v).free = s.free ∧ (s.putNsInfo v).out = s.out ∧
    (s.putNsInfo v).boot = s.boot ∧ (s.putNsInfo v).tick = s.tick ∧ (s.putNsInfo v).win = s.win ∧
    (s.putNsInfo v).gap = s.gap ∧ (s.putNsInfo v).regs = s.regs ∧ (s.putNsInfo v).regPend = s.regPend ∧
    (s.putNsInfo v).cores = s.cores ∧ (s.putNsInfo v).cluster = s.cluster ∧ (s.putNsInfo v).tun = s.tun ∧
    (s.putNsInfo v).tunBufs = s.tunBufs ∧ (s.putNsInfo v).tunMin = s.tunMin ∧ (s.putNsInfo v).tunMinPend = s.tunMinPend ∧
    (s.putNsInfo v).sramErr = s.sramErr ∧ (s.putNsInfo v).heldBack = s.heldBack ∧ (s.putNsInfo v).rtHit = s.rtHit ∧
    (s.putNsInfo v).rtClock = s.rtClock ∧ (s.putNsInfo v).rtUntracked = s.rtUntracked ∧ (s.putNsInfo v).dram = s.dram ∧
    (s.putNsInfo v).dr = s.dr ∧ (s.putNsInfo v).poison = s.poison ∧ (s.putNsInfo v).ingot = s.ingot ∧
    (s.putNsInfo v).nor = s.nor ∧ (s.putNsInfo v).norUnk = s.norUnk ∧ (s.putNsInfo v).pat = s.pat ∧
    (s.putNsInfo v).tdly = s.tdly ∧ (s.putNsInfo v).scrub = s.scrub ∧ (s.putNsInfo v).fbuf = s.fbuf ∧
    (s.putNsInfo v).rings = s.rings ∧ (s.putNsInfo v).haz = s.haz ∧ (s.putNsInfo v).marks = s.marks ∧
    (s.putNsInfo v).wsnFloor = s.wsnFloor ∧ (s.putNsInfo v).health = s.health ∧ (s.putNsInfo v).qPend = s.qPend ∧
    (s.putNsInfo v).reqs = s.reqs ∧ (s.putNsInfo v).aborts = s.aborts ∧ (s.putNsInfo v).gateShut = s.gateShut ∧
    (s.putNsInfo v).sqs = s.sqs ∧ (s.putNsInfo v).cqs = s.cqs ∧ (s.putNsInfo v).cmds = s.cmds ∧
    (s.putNsInfo v).resets = s.resets ∧ (s.putNsInfo v).ctrls = s.ctrls ∧ (s.putNsInfo v).arbs = s.arbs ∧
    (s.putNsInfo v).credit = s.credit ∧ (s.putNsInfo v).taken = s.taken ∧ (s.putNsInfo v).fetchLeft = s.fetchLeft ∧
    (s.putNsInfo v).rotLast = s.rotLast ∧ (s.putNsInfo v).rotFirst = s.rotFirst ∧ (s.putNsInfo v).hazStall = s.hazStall ∧
    (s.putNsInfo v).span = s.span ∧ (s.putNsInfo v).spanOut = s.spanOut ∧ (s.putNsInfo v).spanIn = s.spanIn ∧
    (s.putNsInfo v).resOut = s.resOut ∧ (s.putNsInfo v).jobs = s.jobs ∧ (s.putNsInfo v).finishing = s.finishing ∧
    (s.putNsInfo v).greads = s.greads ∧ (s.putNsInfo v).spanNum = s.spanNum ∧ (s.putNsInfo v).spanArr = s.spanArr ∧
    (s.putNsInfo v).dups = s.dups ∧ (s.putNsInfo v).dupGen = s.dupGen ∧ (s.putNsInfo v).rlogPos = s.rlogPos ∧
    (s.putNsInfo v).members = s.members ∧ (s.putNsInfo v).peerVia = s.peerVia ∧ (s.putNsInfo v).groups = s.groups ∧
    (s.putNsInfo v).peerBound = s.peerBound ∧ (s.putNsInfo v).returned = s.returned ∧
    (s.putNsInfo v).lostRanges = s.lostRanges ∧ (s.putNsInfo v).wmap = s.wmap ∧ (s.putNsInfo v).wfin = s.wfin ∧
    (s.putNsInfo v).wheld = s.wheld ∧ (s.putNsInfo v).preserve = s.preserve ∧ (s.putNsInfo v).kept = s.kept ∧
    (s.putNsInfo v).metaOpen = s.metaOpen ∧ (s.putNsInfo v).portA = s.portA ∧ (s.putNsInfo v).restartDue = s.restartDue ∧
    (s.putNsInfo v).pings = s.pings ∧ (s.putNsInfo v).chain = s.chain ∧ (s.putNsInfo v).position = s.position ∧
    (s.putNsInfo v).power = s.power ∧ (s.putNsInfo v).powerOp = s.powerOp ∧ (s.putNsInfo v).fsn = s.fsn ∧
    (s.putNsInfo v).ns = s.ns ∧ (s.putNsInfo v).volCap = s.volCap ∧ (s.putNsInfo v).rsv = s.rsv ∧
    (s.putNsInfo v).tokCount = s.tokCount ∧ (s.putNsInfo v).fullZones = s.fullZones ∧ (s.putNsInfo v).fam = s.fam ∧
    (s.putNsInfo v).params = s.params ∧ (s.putNsInfo v).alm = s.alm ∧ (s.putNsInfo v).domeEntry = s.domeEntry ∧
    (s.putNsInfo v).domeWake = s.domeWake ∧ (s.putNsInfo v).domeAgreed = s.domeAgreed ∧
    (s.putNsInfo v).readAt = s.readAt ∧ (s.putNsInfo v).sensorFail = s.sensorFail ∧
    (s.putNsInfo v).tripCount = s.tripCount ∧ (s.putNsInfo v).rise = s.rise ∧ (s.putNsInfo v).stopped = s.stopped ∧
    (s.putNsInfo v).coolSince = s.coolSince ∧ (s.putNsInfo v).events = s.events ∧ (s.putNsInfo v).dies = s.dies ∧
    (s.putNsInfo v).chans = s.chans ∧ (s.putNsInfo v).accs = s.accs ∧ (s.putNsInfo v).ldpc = s.ldpc ∧
    (s.putNsInfo v).nand = s.nand ∧ (s.putNsInfo v).blkErased = s.blkErased ∧ (s.putNsInfo v).vault = s.vault ∧
    (s.putNsInfo v).sessions = s.sessions ∧ (s.putNsInfo v).trngRestarts = s.trngRestarts ∧
    (s.putNsInfo v).drbgLeft = s.drbgLeft ∧ (s.putNsInfo v).imageId = s.imageId ∧ (s.putNsInfo v).verFuses = s.verFuses ∧
    (s.putNsInfo v).care = s.care ∧ (s.putNsInfo v).history = s.history ∧ (s.putNsInfo v).fw = s.fw ∧
    (s.putNsInfo v).trust = s.trust ∧ (s.putNsInfo v).fdp = s.fdp ∧ (s.putNsInfo v).lostGen = s.lostGen ∧
    (s.putNsInfo v).lostAgain = s.lostAgain ∧ (s.putNsInfo v).accum = s.accum ∧ (s.putNsInfo v).boundSent = s.boundSent ∧
    (s.putNsInfo v).zoneUsed = s.zoneUsed ∧ (s.putNsInfo v).clean = s.clean :=
  ⟨rfl, rfl, rfl, rfl, rfl, rfl, rfl, rfl, rfl, rfl, rfl, rfl, rfl, rfl, rfl, rfl, rfl, rfl, rfl, rfl, rfl, rfl, rfl,
  rfl, rfl, rfl, rfl, rfl, rfl, rfl, rfl, rfl, rfl, rfl, rfl, rfl, rfl, rfl, rfl, rfl, rfl, rfl, rfl, rfl, rfl, rfl,
  rfl, rfl, rfl, rfl, rfl, rfl, rfl, rfl, rfl, rfl, rfl, rfl, rfl, rfl, rfl, rfl, rfl, rfl, rfl, rfl, rfl, rfl, rfl,
  rfl, rfl, rfl, rfl, rfl, rfl, rfl, rfl, rfl, rfl, rfl, rfl, rfl, rfl, rfl, rfl, rfl, rfl, rfl, rfl, rfl, rfl, rfl,
  rfl, rfl, rfl, rfl, rfl, rfl, rfl, rfl, rfl, rfl, rfl, rfl, rfl, rfl, rfl, rfl, rfl, rfl, rfl, rfl, rfl, rfl, rfl,
  rfl, rfl, rfl, rfl, rfl, rfl, rfl, rfl, rfl⟩

@[simp] theorem State.putNsInfo_nsInfo (s : State) (v : FMap (Option NsInfo)) : (s.putNsInfo v).nsInfo = v := rfl

@[simp] theorem State.putCare_frame (s : State) (v : Care) :
    (s.putCare v).pending = s.pending ∧ (s.putCare v).free = s.free ∧ (s.putCare v).out = s.out ∧
    (s.putCare v).boot = s.boot ∧ (s.putCare v).tick = s.tick ∧ (s.putCare v).win = s.win ∧ (s.putCare v).gap = s.gap ∧
    (s.putCare v).regs = s.regs ∧ (s.putCare v).regPend = s.regPend ∧ (s.putCare v).cores = s.cores ∧
    (s.putCare v).cluster = s.cluster ∧ (s.putCare v).tun = s.tun ∧ (s.putCare v).tunBufs = s.tunBufs ∧
    (s.putCare v).tunMin = s.tunMin ∧ (s.putCare v).tunMinPend = s.tunMinPend ∧ (s.putCare v).sramErr = s.sramErr ∧
    (s.putCare v).heldBack = s.heldBack ∧ (s.putCare v).rtHit = s.rtHit ∧ (s.putCare v).rtClock = s.rtClock ∧
    (s.putCare v).rtUntracked = s.rtUntracked ∧ (s.putCare v).dram = s.dram ∧ (s.putCare v).dr = s.dr ∧
    (s.putCare v).poison = s.poison ∧ (s.putCare v).ingot = s.ingot ∧ (s.putCare v).nor = s.nor ∧
    (s.putCare v).norUnk = s.norUnk ∧ (s.putCare v).pat = s.pat ∧ (s.putCare v).tdly = s.tdly ∧
    (s.putCare v).scrub = s.scrub ∧ (s.putCare v).fbuf = s.fbuf ∧ (s.putCare v).rings = s.rings ∧
    (s.putCare v).haz = s.haz ∧ (s.putCare v).marks = s.marks ∧ (s.putCare v).wsnFloor = s.wsnFloor ∧
    (s.putCare v).health = s.health ∧ (s.putCare v).qPend = s.qPend ∧ (s.putCare v).reqs = s.reqs ∧
    (s.putCare v).aborts = s.aborts ∧ (s.putCare v).gateShut = s.gateShut ∧ (s.putCare v).sqs = s.sqs ∧
    (s.putCare v).cqs = s.cqs ∧ (s.putCare v).cmds = s.cmds ∧ (s.putCare v).resets = s.resets ∧
    (s.putCare v).ctrls = s.ctrls ∧ (s.putCare v).arbs = s.arbs ∧ (s.putCare v).credit = s.credit ∧
    (s.putCare v).taken = s.taken ∧ (s.putCare v).fetchLeft = s.fetchLeft ∧ (s.putCare v).rotLast = s.rotLast ∧
    (s.putCare v).rotFirst = s.rotFirst ∧ (s.putCare v).hazStall = s.hazStall ∧ (s.putCare v).span = s.span ∧
    (s.putCare v).spanOut = s.spanOut ∧ (s.putCare v).spanIn = s.spanIn ∧ (s.putCare v).resOut = s.resOut ∧
    (s.putCare v).jobs = s.jobs ∧ (s.putCare v).finishing = s.finishing ∧ (s.putCare v).greads = s.greads ∧
    (s.putCare v).spanNum = s.spanNum ∧ (s.putCare v).spanArr = s.spanArr ∧ (s.putCare v).dups = s.dups ∧
    (s.putCare v).dupGen = s.dupGen ∧ (s.putCare v).rlogPos = s.rlogPos ∧ (s.putCare v).members = s.members ∧
    (s.putCare v).peerVia = s.peerVia ∧ (s.putCare v).groups = s.groups ∧ (s.putCare v).peerBound = s.peerBound ∧
    (s.putCare v).returned = s.returned ∧ (s.putCare v).lostRanges = s.lostRanges ∧ (s.putCare v).wmap = s.wmap ∧
    (s.putCare v).wfin = s.wfin ∧ (s.putCare v).wheld = s.wheld ∧ (s.putCare v).preserve = s.preserve ∧
    (s.putCare v).kept = s.kept ∧ (s.putCare v).metaOpen = s.metaOpen ∧ (s.putCare v).portA = s.portA ∧
    (s.putCare v).restartDue = s.restartDue ∧ (s.putCare v).pings = s.pings ∧ (s.putCare v).chain = s.chain ∧
    (s.putCare v).position = s.position ∧ (s.putCare v).power = s.power ∧ (s.putCare v).powerOp = s.powerOp ∧
    (s.putCare v).fsn = s.fsn ∧ (s.putCare v).ns = s.ns ∧ (s.putCare v).volCap = s.volCap ∧ (s.putCare v).rsv = s.rsv ∧
    (s.putCare v).tokCount = s.tokCount ∧ (s.putCare v).fullZones = s.fullZones ∧ (s.putCare v).fam = s.fam ∧
    (s.putCare v).params = s.params ∧ (s.putCare v).alm = s.alm ∧ (s.putCare v).domeEntry = s.domeEntry ∧
    (s.putCare v).domeWake = s.domeWake ∧ (s.putCare v).domeAgreed = s.domeAgreed ∧ (s.putCare v).readAt = s.readAt ∧
    (s.putCare v).sensorFail = s.sensorFail ∧ (s.putCare v).tripCount = s.tripCount ∧ (s.putCare v).rise = s.rise ∧
    (s.putCare v).stopped = s.stopped ∧ (s.putCare v).coolSince = s.coolSince ∧ (s.putCare v).events = s.events ∧
    (s.putCare v).dies = s.dies ∧ (s.putCare v).chans = s.chans ∧ (s.putCare v).accs = s.accs ∧
    (s.putCare v).ldpc = s.ldpc ∧ (s.putCare v).nand = s.nand ∧ (s.putCare v).blkErased = s.blkErased ∧
    (s.putCare v).vault = s.vault ∧ (s.putCare v).sessions = s.sessions ∧ (s.putCare v).trngRestarts = s.trngRestarts ∧
    (s.putCare v).drbgLeft = s.drbgLeft ∧ (s.putCare v).imageId = s.imageId ∧ (s.putCare v).verFuses = s.verFuses ∧
    (s.putCare v).nsInfo = s.nsInfo ∧ (s.putCare v).history = s.history ∧ (s.putCare v).fw = s.fw ∧
    (s.putCare v).trust = s.trust ∧ (s.putCare v).fdp = s.fdp ∧ (s.putCare v).lostGen = s.lostGen ∧
    (s.putCare v).lostAgain = s.lostAgain ∧ (s.putCare v).accum = s.accum ∧ (s.putCare v).boundSent = s.boundSent ∧
    (s.putCare v).zoneUsed = s.zoneUsed ∧ (s.putCare v).clean = s.clean :=
  ⟨rfl, rfl, rfl, rfl, rfl, rfl, rfl, rfl, rfl, rfl, rfl, rfl, rfl, rfl, rfl, rfl, rfl, rfl, rfl, rfl, rfl, rfl, rfl,
  rfl, rfl, rfl, rfl, rfl, rfl, rfl, rfl, rfl, rfl, rfl, rfl, rfl, rfl, rfl, rfl, rfl, rfl, rfl, rfl, rfl, rfl, rfl,
  rfl, rfl, rfl, rfl, rfl, rfl, rfl, rfl, rfl, rfl, rfl, rfl, rfl, rfl, rfl, rfl, rfl, rfl, rfl, rfl, rfl, rfl, rfl,
  rfl, rfl, rfl, rfl, rfl, rfl, rfl, rfl, rfl, rfl, rfl, rfl, rfl, rfl, rfl, rfl, rfl, rfl, rfl, rfl, rfl, rfl, rfl,
  rfl, rfl, rfl, rfl, rfl, rfl, rfl, rfl, rfl, rfl, rfl, rfl, rfl, rfl, rfl, rfl, rfl, rfl, rfl, rfl, rfl, rfl, rfl,
  rfl, rfl, rfl, rfl, rfl, rfl, rfl, rfl, rfl⟩

@[simp] theorem State.putCare_care (s : State) (v : Care) : (s.putCare v).care = v := rfl

@[simp] theorem State.putHistory_frame (s : State) (v : History) :
    (s.putHistory v).pending = s.pending ∧ (s.putHistory v).free = s.free ∧ (s.putHistory v).out = s.out ∧
    (s.putHistory v).boot = s.boot ∧ (s.putHistory v).tick = s.tick ∧ (s.putHistory v).win = s.win ∧
    (s.putHistory v).gap = s.gap ∧ (s.putHistory v).regs = s.regs ∧ (s.putHistory v).regPend = s.regPend ∧
    (s.putHistory v).cores = s.cores ∧ (s.putHistory v).cluster = s.cluster ∧ (s.putHistory v).tun = s.tun ∧
    (s.putHistory v).tunBufs = s.tunBufs ∧ (s.putHistory v).tunMin = s.tunMin ∧
    (s.putHistory v).tunMinPend = s.tunMinPend ∧ (s.putHistory v).sramErr = s.sramErr ∧
    (s.putHistory v).heldBack = s.heldBack ∧ (s.putHistory v).rtHit = s.rtHit ∧ (s.putHistory v).rtClock = s.rtClock ∧
    (s.putHistory v).rtUntracked = s.rtUntracked ∧ (s.putHistory v).dram = s.dram ∧ (s.putHistory v).dr = s.dr ∧
    (s.putHistory v).poison = s.poison ∧ (s.putHistory v).ingot = s.ingot ∧ (s.putHistory v).nor = s.nor ∧
    (s.putHistory v).norUnk = s.norUnk ∧ (s.putHistory v).pat = s.pat ∧ (s.putHistory v).tdly = s.tdly ∧
    (s.putHistory v).scrub = s.scrub ∧ (s.putHistory v).fbuf = s.fbuf ∧ (s.putHistory v).rings = s.rings ∧
    (s.putHistory v).haz = s.haz ∧ (s.putHistory v).marks = s.marks ∧ (s.putHistory v).wsnFloor = s.wsnFloor ∧
    (s.putHistory v).health = s.health ∧ (s.putHistory v).qPend = s.qPend ∧ (s.putHistory v).reqs = s.reqs ∧
    (s.putHistory v).aborts = s.aborts ∧ (s.putHistory v).gateShut = s.gateShut ∧ (s.putHistory v).sqs = s.sqs ∧
    (s.putHistory v).cqs = s.cqs ∧ (s.putHistory v).cmds = s.cmds ∧ (s.putHistory v).resets = s.resets ∧
    (s.putHistory v).ctrls = s.ctrls ∧ (s.putHistory v).arbs = s.arbs ∧ (s.putHistory v).credit = s.credit ∧
    (s.putHistory v).taken = s.taken ∧ (s.putHistory v).fetchLeft = s.fetchLeft ∧ (s.putHistory v).rotLast = s.rotLast ∧
    (s.putHistory v).rotFirst = s.rotFirst ∧ (s.putHistory v).hazStall = s.hazStall ∧ (s.putHistory v).span = s.span ∧
    (s.putHistory v).spanOut = s.spanOut ∧ (s.putHistory v).spanIn = s.spanIn ∧ (s.putHistory v).resOut = s.resOut ∧
    (s.putHistory v).jobs = s.jobs ∧ (s.putHistory v).finishing = s.finishing ∧ (s.putHistory v).greads = s.greads ∧
    (s.putHistory v).spanNum = s.spanNum ∧ (s.putHistory v).spanArr = s.spanArr ∧ (s.putHistory v).dups = s.dups ∧
    (s.putHistory v).dupGen = s.dupGen ∧ (s.putHistory v).rlogPos = s.rlogPos ∧ (s.putHistory v).members = s.members ∧
    (s.putHistory v).peerVia = s.peerVia ∧ (s.putHistory v).groups = s.groups ∧
    (s.putHistory v).peerBound = s.peerBound ∧ (s.putHistory v).returned = s.returned ∧
    (s.putHistory v).lostRanges = s.lostRanges ∧ (s.putHistory v).wmap = s.wmap ∧ (s.putHistory v).wfin = s.wfin ∧
    (s.putHistory v).wheld = s.wheld ∧ (s.putHistory v).preserve = s.preserve ∧ (s.putHistory v).kept = s.kept ∧
    (s.putHistory v).metaOpen = s.metaOpen ∧ (s.putHistory v).portA = s.portA ∧
    (s.putHistory v).restartDue = s.restartDue ∧ (s.putHistory v).pings = s.pings ∧ (s.putHistory v).chain = s.chain ∧
    (s.putHistory v).position = s.position ∧ (s.putHistory v).power = s.power ∧ (s.putHistory v).powerOp = s.powerOp ∧
    (s.putHistory v).fsn = s.fsn ∧ (s.putHistory v).ns = s.ns ∧ (s.putHistory v).volCap = s.volCap ∧
    (s.putHistory v).rsv = s.rsv ∧ (s.putHistory v).tokCount = s.tokCount ∧ (s.putHistory v).fullZones = s.fullZones ∧
    (s.putHistory v).fam = s.fam ∧ (s.putHistory v).params = s.params ∧ (s.putHistory v).alm = s.alm ∧
    (s.putHistory v).domeEntry = s.domeEntry ∧ (s.putHistory v).domeWake = s.domeWake ∧
    (s.putHistory v).domeAgreed = s.domeAgreed ∧ (s.putHistory v).readAt = s.readAt ∧
    (s.putHistory v).sensorFail = s.sensorFail ∧ (s.putHistory v).tripCount = s.tripCount ∧
    (s.putHistory v).rise = s.rise ∧ (s.putHistory v).stopped = s.stopped ∧ (s.putHistory v).coolSince = s.coolSince ∧
    (s.putHistory v).events = s.events ∧ (s.putHistory v).dies = s.dies ∧ (s.putHistory v).chans = s.chans ∧
    (s.putHistory v).accs = s.accs ∧ (s.putHistory v).ldpc = s.ldpc ∧ (s.putHistory v).nand = s.nand ∧
    (s.putHistory v).blkErased = s.blkErased ∧ (s.putHistory v).vault = s.vault ∧
    (s.putHistory v).sessions = s.sessions ∧ (s.putHistory v).trngRestarts = s.trngRestarts ∧
    (s.putHistory v).drbgLeft = s.drbgLeft ∧ (s.putHistory v).imageId = s.imageId ∧
    (s.putHistory v).verFuses = s.verFuses ∧ (s.putHistory v).nsInfo = s.nsInfo ∧ (s.putHistory v).care = s.care ∧
    (s.putHistory v).fw = s.fw ∧ (s.putHistory v).trust = s.trust ∧ (s.putHistory v).fdp = s.fdp ∧
    (s.putHistory v).lostGen = s.lostGen ∧ (s.putHistory v).lostAgain = s.lostAgain ∧ (s.putHistory v).accum = s.accum ∧
    (s.putHistory v).boundSent = s.boundSent ∧ (s.putHistory v).zoneUsed = s.zoneUsed ∧
    (s.putHistory v).clean = s.clean :=
  ⟨rfl, rfl, rfl, rfl, rfl, rfl, rfl, rfl, rfl, rfl, rfl, rfl, rfl, rfl, rfl, rfl, rfl, rfl, rfl, rfl, rfl, rfl, rfl,
  rfl, rfl, rfl, rfl, rfl, rfl, rfl, rfl, rfl, rfl, rfl, rfl, rfl, rfl, rfl, rfl, rfl, rfl, rfl, rfl, rfl, rfl, rfl,
  rfl, rfl, rfl, rfl, rfl, rfl, rfl, rfl, rfl, rfl, rfl, rfl, rfl, rfl, rfl, rfl, rfl, rfl, rfl, rfl, rfl, rfl, rfl,
  rfl, rfl, rfl, rfl, rfl, rfl, rfl, rfl, rfl, rfl, rfl, rfl, rfl, rfl, rfl, rfl, rfl, rfl, rfl, rfl, rfl, rfl, rfl,
  rfl, rfl, rfl, rfl, rfl, rfl, rfl, rfl, rfl, rfl, rfl, rfl, rfl, rfl, rfl, rfl, rfl, rfl, rfl, rfl, rfl, rfl, rfl,
  rfl, rfl, rfl, rfl, rfl, rfl, rfl, rfl, rfl⟩

@[simp] theorem State.putHistory_history (s : State) (v : History) : (s.putHistory v).history = v := rfl

@[simp] theorem State.putFw_frame (s : State) (v : Fw) :
    (s.putFw v).pending = s.pending ∧ (s.putFw v).free = s.free ∧ (s.putFw v).out = s.out ∧ (s.putFw v).boot = s.boot ∧
    (s.putFw v).tick = s.tick ∧ (s.putFw v).win = s.win ∧ (s.putFw v).gap = s.gap ∧ (s.putFw v).regs = s.regs ∧
    (s.putFw v).regPend = s.regPend ∧ (s.putFw v).cores = s.cores ∧ (s.putFw v).cluster = s.cluster ∧
    (s.putFw v).tun = s.tun ∧ (s.putFw v).tunBufs = s.tunBufs ∧ (s.putFw v).tunMin = s.tunMin ∧
    (s.putFw v).tunMinPend = s.tunMinPend ∧ (s.putFw v).sramErr = s.sramErr ∧ (s.putFw v).heldBack = s.heldBack ∧
    (s.putFw v).rtHit = s.rtHit ∧ (s.putFw v).rtClock = s.rtClock ∧ (s.putFw v).rtUntracked = s.rtUntracked ∧
    (s.putFw v).dram = s.dram ∧ (s.putFw v).dr = s.dr ∧ (s.putFw v).poison = s.poison ∧ (s.putFw v).ingot = s.ingot ∧
    (s.putFw v).nor = s.nor ∧ (s.putFw v).norUnk = s.norUnk ∧ (s.putFw v).pat = s.pat ∧ (s.putFw v).tdly = s.tdly ∧
    (s.putFw v).scrub = s.scrub ∧ (s.putFw v).fbuf = s.fbuf ∧ (s.putFw v).rings = s.rings ∧ (s.putFw v).haz = s.haz ∧
    (s.putFw v).marks = s.marks ∧ (s.putFw v).wsnFloor = s.wsnFloor ∧ (s.putFw v).health = s.health ∧
    (s.putFw v).qPend = s.qPend ∧ (s.putFw v).reqs = s.reqs ∧ (s.putFw v).aborts = s.aborts ∧
    (s.putFw v).gateShut = s.gateShut ∧ (s.putFw v).sqs = s.sqs ∧ (s.putFw v).cqs = s.cqs ∧ (s.putFw v).cmds = s.cmds ∧
    (s.putFw v).resets = s.resets ∧ (s.putFw v).ctrls = s.ctrls ∧ (s.putFw v).arbs = s.arbs ∧
    (s.putFw v).credit = s.credit ∧ (s.putFw v).taken = s.taken ∧ (s.putFw v).fetchLeft = s.fetchLeft ∧
    (s.putFw v).rotLast = s.rotLast ∧ (s.putFw v).rotFirst = s.rotFirst ∧ (s.putFw v).hazStall = s.hazStall ∧
    (s.putFw v).span = s.span ∧ (s.putFw v).spanOut = s.spanOut ∧ (s.putFw v).spanIn = s.spanIn ∧
    (s.putFw v).resOut = s.resOut ∧ (s.putFw v).jobs = s.jobs ∧ (s.putFw v).finishing = s.finishing ∧
    (s.putFw v).greads = s.greads ∧ (s.putFw v).spanNum = s.spanNum ∧ (s.putFw v).spanArr = s.spanArr ∧
    (s.putFw v).dups = s.dups ∧ (s.putFw v).dupGen = s.dupGen ∧ (s.putFw v).rlogPos = s.rlogPos ∧
    (s.putFw v).members = s.members ∧ (s.putFw v).peerVia = s.peerVia ∧ (s.putFw v).groups = s.groups ∧
    (s.putFw v).peerBound = s.peerBound ∧ (s.putFw v).returned = s.returned ∧ (s.putFw v).lostRanges = s.lostRanges ∧
    (s.putFw v).wmap = s.wmap ∧ (s.putFw v).wfin = s.wfin ∧ (s.putFw v).wheld = s.wheld ∧
    (s.putFw v).preserve = s.preserve ∧ (s.putFw v).kept = s.kept ∧ (s.putFw v).metaOpen = s.metaOpen ∧
    (s.putFw v).portA = s.portA ∧ (s.putFw v).restartDue = s.restartDue ∧ (s.putFw v).pings = s.pings ∧
    (s.putFw v).chain = s.chain ∧ (s.putFw v).position = s.position ∧ (s.putFw v).power = s.power ∧
    (s.putFw v).powerOp = s.powerOp ∧ (s.putFw v).fsn = s.fsn ∧ (s.putFw v).ns = s.ns ∧ (s.putFw v).volCap = s.volCap ∧
    (s.putFw v).rsv = s.rsv ∧ (s.putFw v).tokCount = s.tokCount ∧ (s.putFw v).fullZones = s.fullZones ∧
    (s.putFw v).fam = s.fam ∧ (s.putFw v).params = s.params ∧ (s.putFw v).alm = s.alm ∧
    (s.putFw v).domeEntry = s.domeEntry ∧ (s.putFw v).domeWake = s.domeWake ∧ (s.putFw v).domeAgreed = s.domeAgreed ∧
    (s.putFw v).readAt = s.readAt ∧ (s.putFw v).sensorFail = s.sensorFail ∧ (s.putFw v).tripCount = s.tripCount ∧
    (s.putFw v).rise = s.rise ∧ (s.putFw v).stopped = s.stopped ∧ (s.putFw v).coolSince = s.coolSince ∧
    (s.putFw v).events = s.events ∧ (s.putFw v).dies = s.dies ∧ (s.putFw v).chans = s.chans ∧ (s.putFw v).accs = s.accs ∧
    (s.putFw v).ldpc = s.ldpc ∧ (s.putFw v).nand = s.nand ∧ (s.putFw v).blkErased = s.blkErased ∧
    (s.putFw v).vault = s.vault ∧ (s.putFw v).sessions = s.sessions ∧ (s.putFw v).trngRestarts = s.trngRestarts ∧
    (s.putFw v).drbgLeft = s.drbgLeft ∧ (s.putFw v).imageId = s.imageId ∧ (s.putFw v).verFuses = s.verFuses ∧
    (s.putFw v).nsInfo = s.nsInfo ∧ (s.putFw v).care = s.care ∧ (s.putFw v).history = s.history ∧
    (s.putFw v).trust = s.trust ∧ (s.putFw v).fdp = s.fdp ∧ (s.putFw v).lostGen = s.lostGen ∧
    (s.putFw v).lostAgain = s.lostAgain ∧ (s.putFw v).accum = s.accum ∧ (s.putFw v).boundSent = s.boundSent ∧
    (s.putFw v).zoneUsed = s.zoneUsed ∧ (s.putFw v).clean = s.clean :=
  ⟨rfl, rfl, rfl, rfl, rfl, rfl, rfl, rfl, rfl, rfl, rfl, rfl, rfl, rfl, rfl, rfl, rfl, rfl, rfl, rfl, rfl, rfl, rfl,
  rfl, rfl, rfl, rfl, rfl, rfl, rfl, rfl, rfl, rfl, rfl, rfl, rfl, rfl, rfl, rfl, rfl, rfl, rfl, rfl, rfl, rfl, rfl,
  rfl, rfl, rfl, rfl, rfl, rfl, rfl, rfl, rfl, rfl, rfl, rfl, rfl, rfl, rfl, rfl, rfl, rfl, rfl, rfl, rfl, rfl, rfl,
  rfl, rfl, rfl, rfl, rfl, rfl, rfl, rfl, rfl, rfl, rfl, rfl, rfl, rfl, rfl, rfl, rfl, rfl, rfl, rfl, rfl, rfl, rfl,
  rfl, rfl, rfl, rfl, rfl, rfl, rfl, rfl, rfl, rfl, rfl, rfl, rfl, rfl, rfl, rfl, rfl, rfl, rfl, rfl, rfl, rfl, rfl,
  rfl, rfl, rfl, rfl, rfl, rfl, rfl, rfl, rfl⟩

@[simp] theorem State.putFw_fw (s : State) (v : Fw) : (s.putFw v).fw = v := rfl

@[simp] theorem State.putTrust_frame (s : State) (v : Trust) :
    (s.putTrust v).pending = s.pending ∧ (s.putTrust v).free = s.free ∧ (s.putTrust v).out = s.out ∧
    (s.putTrust v).boot = s.boot ∧ (s.putTrust v).tick = s.tick ∧ (s.putTrust v).win = s.win ∧
    (s.putTrust v).gap = s.gap ∧ (s.putTrust v).regs = s.regs ∧ (s.putTrust v).regPend = s.regPend ∧
    (s.putTrust v).cores = s.cores ∧ (s.putTrust v).cluster = s.cluster ∧ (s.putTrust v).tun = s.tun ∧
    (s.putTrust v).tunBufs = s.tunBufs ∧ (s.putTrust v).tunMin = s.tunMin ∧ (s.putTrust v).tunMinPend = s.tunMinPend ∧
    (s.putTrust v).sramErr = s.sramErr ∧ (s.putTrust v).heldBack = s.heldBack ∧ (s.putTrust v).rtHit = s.rtHit ∧
    (s.putTrust v).rtClock = s.rtClock ∧ (s.putTrust v).rtUntracked = s.rtUntracked ∧ (s.putTrust v).dram = s.dram ∧
    (s.putTrust v).dr = s.dr ∧ (s.putTrust v).poison = s.poison ∧ (s.putTrust v).ingot = s.ingot ∧
    (s.putTrust v).nor = s.nor ∧ (s.putTrust v).norUnk = s.norUnk ∧ (s.putTrust v).pat = s.pat ∧
    (s.putTrust v).tdly = s.tdly ∧ (s.putTrust v).scrub = s.scrub ∧ (s.putTrust v).fbuf = s.fbuf ∧
    (s.putTrust v).rings = s.rings ∧ (s.putTrust v).haz = s.haz ∧ (s.putTrust v).marks = s.marks ∧
    (s.putTrust v).wsnFloor = s.wsnFloor ∧ (s.putTrust v).health = s.health ∧ (s.putTrust v).qPend = s.qPend ∧
    (s.putTrust v).reqs = s.reqs ∧ (s.putTrust v).aborts = s.aborts ∧ (s.putTrust v).gateShut = s.gateShut ∧
    (s.putTrust v).sqs = s.sqs ∧ (s.putTrust v).cqs = s.cqs ∧ (s.putTrust v).cmds = s.cmds ∧
    (s.putTrust v).resets = s.resets ∧ (s.putTrust v).ctrls = s.ctrls ∧ (s.putTrust v).arbs = s.arbs ∧
    (s.putTrust v).credit = s.credit ∧ (s.putTrust v).taken = s.taken ∧ (s.putTrust v).fetchLeft = s.fetchLeft ∧
    (s.putTrust v).rotLast = s.rotLast ∧ (s.putTrust v).rotFirst = s.rotFirst ∧ (s.putTrust v).hazStall = s.hazStall ∧
    (s.putTrust v).span = s.span ∧ (s.putTrust v).spanOut = s.spanOut ∧ (s.putTrust v).spanIn = s.spanIn ∧
    (s.putTrust v).resOut = s.resOut ∧ (s.putTrust v).jobs = s.jobs ∧ (s.putTrust v).finishing = s.finishing ∧
    (s.putTrust v).greads = s.greads ∧ (s.putTrust v).spanNum = s.spanNum ∧ (s.putTrust v).spanArr = s.spanArr ∧
    (s.putTrust v).dups = s.dups ∧ (s.putTrust v).dupGen = s.dupGen ∧ (s.putTrust v).rlogPos = s.rlogPos ∧
    (s.putTrust v).members = s.members ∧ (s.putTrust v).peerVia = s.peerVia ∧ (s.putTrust v).groups = s.groups ∧
    (s.putTrust v).peerBound = s.peerBound ∧ (s.putTrust v).returned = s.returned ∧
    (s.putTrust v).lostRanges = s.lostRanges ∧ (s.putTrust v).wmap = s.wmap ∧ (s.putTrust v).wfin = s.wfin ∧
    (s.putTrust v).wheld = s.wheld ∧ (s.putTrust v).preserve = s.preserve ∧ (s.putTrust v).kept = s.kept ∧
    (s.putTrust v).metaOpen = s.metaOpen ∧ (s.putTrust v).portA = s.portA ∧ (s.putTrust v).restartDue = s.restartDue ∧
    (s.putTrust v).pings = s.pings ∧ (s.putTrust v).chain = s.chain ∧ (s.putTrust v).position = s.position ∧
    (s.putTrust v).power = s.power ∧ (s.putTrust v).powerOp = s.powerOp ∧ (s.putTrust v).fsn = s.fsn ∧
    (s.putTrust v).ns = s.ns ∧ (s.putTrust v).volCap = s.volCap ∧ (s.putTrust v).rsv = s.rsv ∧
    (s.putTrust v).tokCount = s.tokCount ∧ (s.putTrust v).fullZones = s.fullZones ∧ (s.putTrust v).fam = s.fam ∧
    (s.putTrust v).params = s.params ∧ (s.putTrust v).alm = s.alm ∧ (s.putTrust v).domeEntry = s.domeEntry ∧
    (s.putTrust v).domeWake = s.domeWake ∧ (s.putTrust v).domeAgreed = s.domeAgreed ∧ (s.putTrust v).readAt = s.readAt ∧
    (s.putTrust v).sensorFail = s.sensorFail ∧ (s.putTrust v).tripCount = s.tripCount ∧ (s.putTrust v).rise = s.rise ∧
    (s.putTrust v).stopped = s.stopped ∧ (s.putTrust v).coolSince = s.coolSince ∧ (s.putTrust v).events = s.events ∧
    (s.putTrust v).dies = s.dies ∧ (s.putTrust v).chans = s.chans ∧ (s.putTrust v).accs = s.accs ∧
    (s.putTrust v).ldpc = s.ldpc ∧ (s.putTrust v).nand = s.nand ∧ (s.putTrust v).blkErased = s.blkErased ∧
    (s.putTrust v).vault = s.vault ∧ (s.putTrust v).sessions = s.sessions ∧
    (s.putTrust v).trngRestarts = s.trngRestarts ∧ (s.putTrust v).drbgLeft = s.drbgLeft ∧
    (s.putTrust v).imageId = s.imageId ∧ (s.putTrust v).verFuses = s.verFuses ∧ (s.putTrust v).nsInfo = s.nsInfo ∧
    (s.putTrust v).care = s.care ∧ (s.putTrust v).history = s.history ∧ (s.putTrust v).fw = s.fw ∧
    (s.putTrust v).fdp = s.fdp ∧ (s.putTrust v).lostGen = s.lostGen ∧ (s.putTrust v).lostAgain = s.lostAgain ∧
    (s.putTrust v).accum = s.accum ∧ (s.putTrust v).boundSent = s.boundSent ∧ (s.putTrust v).zoneUsed = s.zoneUsed ∧
    (s.putTrust v).clean = s.clean :=
  ⟨rfl, rfl, rfl, rfl, rfl, rfl, rfl, rfl, rfl, rfl, rfl, rfl, rfl, rfl, rfl, rfl, rfl, rfl, rfl, rfl, rfl, rfl, rfl,
  rfl, rfl, rfl, rfl, rfl, rfl, rfl, rfl, rfl, rfl, rfl, rfl, rfl, rfl, rfl, rfl, rfl, rfl, rfl, rfl, rfl, rfl, rfl,
  rfl, rfl, rfl, rfl, rfl, rfl, rfl, rfl, rfl, rfl, rfl, rfl, rfl, rfl, rfl, rfl, rfl, rfl, rfl, rfl, rfl, rfl, rfl,
  rfl, rfl, rfl, rfl, rfl, rfl, rfl, rfl, rfl, rfl, rfl, rfl, rfl, rfl, rfl, rfl, rfl, rfl, rfl, rfl, rfl, rfl, rfl,
  rfl, rfl, rfl, rfl, rfl, rfl, rfl, rfl, rfl, rfl, rfl, rfl, rfl, rfl, rfl, rfl, rfl, rfl, rfl, rfl, rfl, rfl, rfl,
  rfl, rfl, rfl, rfl, rfl, rfl, rfl, rfl, rfl⟩

@[simp] theorem State.putTrust_trust (s : State) (v : Trust) : (s.putTrust v).trust = v := rfl

@[simp] theorem State.putFdp_frame (s : State) (v : Fdp) :
    (s.putFdp v).pending = s.pending ∧ (s.putFdp v).free = s.free ∧ (s.putFdp v).out = s.out ∧ (s.putFdp v).boot = s.boot ∧
    (s.putFdp v).tick = s.tick ∧ (s.putFdp v).win = s.win ∧ (s.putFdp v).gap = s.gap ∧ (s.putFdp v).regs = s.regs ∧
    (s.putFdp v).regPend = s.regPend ∧ (s.putFdp v).cores = s.cores ∧ (s.putFdp v).cluster = s.cluster ∧
    (s.putFdp v).tun = s.tun ∧ (s.putFdp v).tunBufs = s.tunBufs ∧ (s.putFdp v).tunMin = s.tunMin ∧
    (s.putFdp v).tunMinPend = s.tunMinPend ∧ (s.putFdp v).sramErr = s.sramErr ∧ (s.putFdp v).heldBack = s.heldBack ∧
    (s.putFdp v).rtHit = s.rtHit ∧ (s.putFdp v).rtClock = s.rtClock ∧ (s.putFdp v).rtUntracked = s.rtUntracked ∧
    (s.putFdp v).dram = s.dram ∧ (s.putFdp v).dr = s.dr ∧ (s.putFdp v).poison = s.poison ∧ (s.putFdp v).ingot = s.ingot ∧
    (s.putFdp v).nor = s.nor ∧ (s.putFdp v).norUnk = s.norUnk ∧ (s.putFdp v).pat = s.pat ∧ (s.putFdp v).tdly = s.tdly ∧
    (s.putFdp v).scrub = s.scrub ∧ (s.putFdp v).fbuf = s.fbuf ∧ (s.putFdp v).rings = s.rings ∧ (s.putFdp v).haz = s.haz ∧
    (s.putFdp v).marks = s.marks ∧ (s.putFdp v).wsnFloor = s.wsnFloor ∧ (s.putFdp v).health = s.health ∧
    (s.putFdp v).qPend = s.qPend ∧ (s.putFdp v).reqs = s.reqs ∧ (s.putFdp v).aborts = s.aborts ∧
    (s.putFdp v).gateShut = s.gateShut ∧ (s.putFdp v).sqs = s.sqs ∧ (s.putFdp v).cqs = s.cqs ∧
    (s.putFdp v).cmds = s.cmds ∧ (s.putFdp v).resets = s.resets ∧ (s.putFdp v).ctrls = s.ctrls ∧
    (s.putFdp v).arbs = s.arbs ∧ (s.putFdp v).credit = s.credit ∧ (s.putFdp v).taken = s.taken ∧
    (s.putFdp v).fetchLeft = s.fetchLeft ∧ (s.putFdp v).rotLast = s.rotLast ∧ (s.putFdp v).rotFirst = s.rotFirst ∧
    (s.putFdp v).hazStall = s.hazStall ∧ (s.putFdp v).span = s.span ∧ (s.putFdp v).spanOut = s.spanOut ∧
    (s.putFdp v).spanIn = s.spanIn ∧ (s.putFdp v).resOut = s.resOut ∧ (s.putFdp v).jobs = s.jobs ∧
    (s.putFdp v).finishing = s.finishing ∧ (s.putFdp v).greads = s.greads ∧ (s.putFdp v).spanNum = s.spanNum ∧
    (s.putFdp v).spanArr = s.spanArr ∧ (s.putFdp v).dups = s.dups ∧ (s.putFdp v).dupGen = s.dupGen ∧
    (s.putFdp v).rlogPos = s.rlogPos ∧ (s.putFdp v).members = s.members ∧ (s.putFdp v).peerVia = s.peerVia ∧
    (s.putFdp v).groups = s.groups ∧ (s.putFdp v).peerBound = s.peerBound ∧ (s.putFdp v).returned = s.returned ∧
    (s.putFdp v).lostRanges = s.lostRanges ∧ (s.putFdp v).wmap = s.wmap ∧ (s.putFdp v).wfin = s.wfin ∧
    (s.putFdp v).wheld = s.wheld ∧ (s.putFdp v).preserve = s.preserve ∧ (s.putFdp v).kept = s.kept ∧
    (s.putFdp v).metaOpen = s.metaOpen ∧ (s.putFdp v).portA = s.portA ∧ (s.putFdp v).restartDue = s.restartDue ∧
    (s.putFdp v).pings = s.pings ∧ (s.putFdp v).chain = s.chain ∧ (s.putFdp v).position = s.position ∧
    (s.putFdp v).power = s.power ∧ (s.putFdp v).powerOp = s.powerOp ∧ (s.putFdp v).fsn = s.fsn ∧ (s.putFdp v).ns = s.ns ∧
    (s.putFdp v).volCap = s.volCap ∧ (s.putFdp v).rsv = s.rsv ∧ (s.putFdp v).tokCount = s.tokCount ∧
    (s.putFdp v).fullZones = s.fullZones ∧ (s.putFdp v).fam = s.fam ∧ (s.putFdp v).params = s.params ∧
    (s.putFdp v).alm = s.alm ∧ (s.putFdp v).domeEntry = s.domeEntry ∧ (s.putFdp v).domeWake = s.domeWake ∧
    (s.putFdp v).domeAgreed = s.domeAgreed ∧ (s.putFdp v).readAt = s.readAt ∧ (s.putFdp v).sensorFail = s.sensorFail ∧
    (s.putFdp v).tripCount = s.tripCount ∧ (s.putFdp v).rise = s.rise ∧ (s.putFdp v).stopped = s.stopped ∧
    (s.putFdp v).coolSince = s.coolSince ∧ (s.putFdp v).events = s.events ∧ (s.putFdp v).dies = s.dies ∧
    (s.putFdp v).chans = s.chans ∧ (s.putFdp v).accs = s.accs ∧ (s.putFdp v).ldpc = s.ldpc ∧ (s.putFdp v).nand = s.nand ∧
    (s.putFdp v).blkErased = s.blkErased ∧ (s.putFdp v).vault = s.vault ∧ (s.putFdp v).sessions = s.sessions ∧
    (s.putFdp v).trngRestarts = s.trngRestarts ∧ (s.putFdp v).drbgLeft = s.drbgLeft ∧ (s.putFdp v).imageId = s.imageId ∧
    (s.putFdp v).verFuses = s.verFuses ∧ (s.putFdp v).nsInfo = s.nsInfo ∧ (s.putFdp v).care = s.care ∧
    (s.putFdp v).history = s.history ∧ (s.putFdp v).fw = s.fw ∧ (s.putFdp v).trust = s.trust ∧
    (s.putFdp v).lostGen = s.lostGen ∧ (s.putFdp v).lostAgain = s.lostAgain ∧ (s.putFdp v).accum = s.accum ∧
    (s.putFdp v).boundSent = s.boundSent ∧ (s.putFdp v).zoneUsed = s.zoneUsed ∧ (s.putFdp v).clean = s.clean :=
  ⟨rfl, rfl, rfl, rfl, rfl, rfl, rfl, rfl, rfl, rfl, rfl, rfl, rfl, rfl, rfl, rfl, rfl, rfl, rfl, rfl, rfl, rfl, rfl,
  rfl, rfl, rfl, rfl, rfl, rfl, rfl, rfl, rfl, rfl, rfl, rfl, rfl, rfl, rfl, rfl, rfl, rfl, rfl, rfl, rfl, rfl, rfl,
  rfl, rfl, rfl, rfl, rfl, rfl, rfl, rfl, rfl, rfl, rfl, rfl, rfl, rfl, rfl, rfl, rfl, rfl, rfl, rfl, rfl, rfl, rfl,
  rfl, rfl, rfl, rfl, rfl, rfl, rfl, rfl, rfl, rfl, rfl, rfl, rfl, rfl, rfl, rfl, rfl, rfl, rfl, rfl, rfl, rfl, rfl,
  rfl, rfl, rfl, rfl, rfl, rfl, rfl, rfl, rfl, rfl, rfl, rfl, rfl, rfl, rfl, rfl, rfl, rfl, rfl, rfl, rfl, rfl, rfl,
  rfl, rfl, rfl, rfl, rfl, rfl, rfl, rfl, rfl⟩

@[simp] theorem State.putFdp_fdp (s : State) (v : Fdp) : (s.putFdp v).fdp = v := rfl

@[simp] theorem State.putLostGen_frame (s : State) (v : Nat) :
    (s.putLostGen v).pending = s.pending ∧ (s.putLostGen v).free = s.free ∧ (s.putLostGen v).out = s.out ∧
    (s.putLostGen v).boot = s.boot ∧ (s.putLostGen v).tick = s.tick ∧ (s.putLostGen v).win = s.win ∧
    (s.putLostGen v).gap = s.gap ∧ (s.putLostGen v).regs = s.regs ∧ (s.putLostGen v).regPend = s.regPend ∧
    (s.putLostGen v).cores = s.cores ∧ (s.putLostGen v).cluster = s.cluster ∧ (s.putLostGen v).tun = s.tun ∧
    (s.putLostGen v).tunBufs = s.tunBufs ∧ (s.putLostGen v).tunMin = s.tunMin ∧
    (s.putLostGen v).tunMinPend = s.tunMinPend ∧ (s.putLostGen v).sramErr = s.sramErr ∧
    (s.putLostGen v).heldBack = s.heldBack ∧ (s.putLostGen v).rtHit = s.rtHit ∧ (s.putLostGen v).rtClock = s.rtClock ∧
    (s.putLostGen v).rtUntracked = s.rtUntracked ∧ (s.putLostGen v).dram = s.dram ∧ (s.putLostGen v).dr = s.dr ∧
    (s.putLostGen v).poison = s.poison ∧ (s.putLostGen v).ingot = s.ingot ∧ (s.putLostGen v).nor = s.nor ∧
    (s.putLostGen v).norUnk = s.norUnk ∧ (s.putLostGen v).pat = s.pat ∧ (s.putLostGen v).tdly = s.tdly ∧
    (s.putLostGen v).scrub = s.scrub ∧ (s.putLostGen v).fbuf = s.fbuf ∧ (s.putLostGen v).rings = s.rings ∧
    (s.putLostGen v).haz = s.haz ∧ (s.putLostGen v).marks = s.marks ∧ (s.putLostGen v).wsnFloor = s.wsnFloor ∧
    (s.putLostGen v).health = s.health ∧ (s.putLostGen v).qPend = s.qPend ∧ (s.putLostGen v).reqs = s.reqs ∧
    (s.putLostGen v).aborts = s.aborts ∧ (s.putLostGen v).gateShut = s.gateShut ∧ (s.putLostGen v).sqs = s.sqs ∧
    (s.putLostGen v).cqs = s.cqs ∧ (s.putLostGen v).cmds = s.cmds ∧ (s.putLostGen v).resets = s.resets ∧
    (s.putLostGen v).ctrls = s.ctrls ∧ (s.putLostGen v).arbs = s.arbs ∧ (s.putLostGen v).credit = s.credit ∧
    (s.putLostGen v).taken = s.taken ∧ (s.putLostGen v).fetchLeft = s.fetchLeft ∧ (s.putLostGen v).rotLast = s.rotLast ∧
    (s.putLostGen v).rotFirst = s.rotFirst ∧ (s.putLostGen v).hazStall = s.hazStall ∧ (s.putLostGen v).span = s.span ∧
    (s.putLostGen v).spanOut = s.spanOut ∧ (s.putLostGen v).spanIn = s.spanIn ∧ (s.putLostGen v).resOut = s.resOut ∧
    (s.putLostGen v).jobs = s.jobs ∧ (s.putLostGen v).finishing = s.finishing ∧ (s.putLostGen v).greads = s.greads ∧
    (s.putLostGen v).spanNum = s.spanNum ∧ (s.putLostGen v).spanArr = s.spanArr ∧ (s.putLostGen v).dups = s.dups ∧
    (s.putLostGen v).dupGen = s.dupGen ∧ (s.putLostGen v).rlogPos = s.rlogPos ∧ (s.putLostGen v).members = s.members ∧
    (s.putLostGen v).peerVia = s.peerVia ∧ (s.putLostGen v).groups = s.groups ∧
    (s.putLostGen v).peerBound = s.peerBound ∧ (s.putLostGen v).returned = s.returned ∧
    (s.putLostGen v).lostRanges = s.lostRanges ∧ (s.putLostGen v).wmap = s.wmap ∧ (s.putLostGen v).wfin = s.wfin ∧
    (s.putLostGen v).wheld = s.wheld ∧ (s.putLostGen v).preserve = s.preserve ∧ (s.putLostGen v).kept = s.kept ∧
    (s.putLostGen v).metaOpen = s.metaOpen ∧ (s.putLostGen v).portA = s.portA ∧
    (s.putLostGen v).restartDue = s.restartDue ∧ (s.putLostGen v).pings = s.pings ∧ (s.putLostGen v).chain = s.chain ∧
    (s.putLostGen v).position = s.position ∧ (s.putLostGen v).power = s.power ∧ (s.putLostGen v).powerOp = s.powerOp ∧
    (s.putLostGen v).fsn = s.fsn ∧ (s.putLostGen v).ns = s.ns ∧ (s.putLostGen v).volCap = s.volCap ∧
    (s.putLostGen v).rsv = s.rsv ∧ (s.putLostGen v).tokCount = s.tokCount ∧ (s.putLostGen v).fullZones = s.fullZones ∧
    (s.putLostGen v).fam = s.fam ∧ (s.putLostGen v).params = s.params ∧ (s.putLostGen v).alm = s.alm ∧
    (s.putLostGen v).domeEntry = s.domeEntry ∧ (s.putLostGen v).domeWake = s.domeWake ∧
    (s.putLostGen v).domeAgreed = s.domeAgreed ∧ (s.putLostGen v).readAt = s.readAt ∧
    (s.putLostGen v).sensorFail = s.sensorFail ∧ (s.putLostGen v).tripCount = s.tripCount ∧
    (s.putLostGen v).rise = s.rise ∧ (s.putLostGen v).stopped = s.stopped ∧ (s.putLostGen v).coolSince = s.coolSince ∧
    (s.putLostGen v).events = s.events ∧ (s.putLostGen v).dies = s.dies ∧ (s.putLostGen v).chans = s.chans ∧
    (s.putLostGen v).accs = s.accs ∧ (s.putLostGen v).ldpc = s.ldpc ∧ (s.putLostGen v).nand = s.nand ∧
    (s.putLostGen v).blkErased = s.blkErased ∧ (s.putLostGen v).vault = s.vault ∧
    (s.putLostGen v).sessions = s.sessions ∧ (s.putLostGen v).trngRestarts = s.trngRestarts ∧
    (s.putLostGen v).drbgLeft = s.drbgLeft ∧ (s.putLostGen v).imageId = s.imageId ∧
    (s.putLostGen v).verFuses = s.verFuses ∧ (s.putLostGen v).nsInfo = s.nsInfo ∧ (s.putLostGen v).care = s.care ∧
    (s.putLostGen v).history = s.history ∧ (s.putLostGen v).fw = s.fw ∧ (s.putLostGen v).trust = s.trust ∧
    (s.putLostGen v).fdp = s.fdp ∧ (s.putLostGen v).lostAgain = s.lostAgain ∧ (s.putLostGen v).accum = s.accum ∧
    (s.putLostGen v).boundSent = s.boundSent ∧ (s.putLostGen v).zoneUsed = s.zoneUsed ∧
    (s.putLostGen v).clean = s.clean :=
  ⟨rfl, rfl, rfl, rfl, rfl, rfl, rfl, rfl, rfl, rfl, rfl, rfl, rfl, rfl, rfl, rfl, rfl, rfl, rfl, rfl, rfl, rfl, rfl,
  rfl, rfl, rfl, rfl, rfl, rfl, rfl, rfl, rfl, rfl, rfl, rfl, rfl, rfl, rfl, rfl, rfl, rfl, rfl, rfl, rfl, rfl, rfl,
  rfl, rfl, rfl, rfl, rfl, rfl, rfl, rfl, rfl, rfl, rfl, rfl, rfl, rfl, rfl, rfl, rfl, rfl, rfl, rfl, rfl, rfl, rfl,
  rfl, rfl, rfl, rfl, rfl, rfl, rfl, rfl, rfl, rfl, rfl, rfl, rfl, rfl, rfl, rfl, rfl, rfl, rfl, rfl, rfl, rfl, rfl,
  rfl, rfl, rfl, rfl, rfl, rfl, rfl, rfl, rfl, rfl, rfl, rfl, rfl, rfl, rfl, rfl, rfl, rfl, rfl, rfl, rfl, rfl, rfl,
  rfl, rfl, rfl, rfl, rfl, rfl, rfl, rfl, rfl⟩

@[simp] theorem State.putLostGen_lostGen (s : State) (v : Nat) : (s.putLostGen v).lostGen = v := rfl

@[simp] theorem State.putLostAgain_frame (s : State) (v : List (Nat × Nat)) :
    (s.putLostAgain v).pending = s.pending ∧ (s.putLostAgain v).free = s.free ∧ (s.putLostAgain v).out = s.out ∧
    (s.putLostAgain v).boot = s.boot ∧ (s.putLostAgain v).tick = s.tick ∧ (s.putLostAgain v).win = s.win ∧
    (s.putLostAgain v).gap = s.gap ∧ (s.putLostAgain v).regs = s.regs ∧ (s.putLostAgain v).regPend = s.regPend ∧
    (s.putLostAgain v).cores = s.cores ∧ (s.putLostAgain v).cluster = s.cluster ∧ (s.putLostAgain v).tun = s.tun ∧
    (s.putLostAgain v).tunBufs = s.tunBufs ∧ (s.putLostAgain v).tunMin = s.tunMin ∧
    (s.putLostAgain v).tunMinPend = s.tunMinPend ∧ (s.putLostAgain v).sramErr = s.sramErr ∧
    (s.putLostAgain v).heldBack = s.heldBack ∧ (s.putLostAgain v).rtHit = s.rtHit ∧
    (s.putLostAgain v).rtClock = s.rtClock ∧ (s.putLostAgain v).rtUntracked = s.rtUntracked ∧
    (s.putLostAgain v).dram = s.dram ∧ (s.putLostAgain v).dr = s.dr ∧ (s.putLostAgain v).poison = s.poison ∧
    (s.putLostAgain v).ingot = s.ingot ∧ (s.putLostAgain v).nor = s.nor ∧ (s.putLostAgain v).norUnk = s.norUnk ∧
    (s.putLostAgain v).pat = s.pat ∧ (s.putLostAgain v).tdly = s.tdly ∧ (s.putLostAgain v).scrub = s.scrub ∧
    (s.putLostAgain v).fbuf = s.fbuf ∧ (s.putLostAgain v).rings = s.rings ∧ (s.putLostAgain v).haz = s.haz ∧
    (s.putLostAgain v).marks = s.marks ∧ (s.putLostAgain v).wsnFloor = s.wsnFloor ∧
    (s.putLostAgain v).health = s.health ∧ (s.putLostAgain v).qPend = s.qPend ∧ (s.putLostAgain v).reqs = s.reqs ∧
    (s.putLostAgain v).aborts = s.aborts ∧ (s.putLostAgain v).gateShut = s.gateShut ∧ (s.putLostAgain v).sqs = s.sqs ∧
    (s.putLostAgain v).cqs = s.cqs ∧ (s.putLostAgain v).cmds = s.cmds ∧ (s.putLostAgain v).resets = s.resets ∧
    (s.putLostAgain v).ctrls = s.ctrls ∧ (s.putLostAgain v).arbs = s.arbs ∧ (s.putLostAgain v).credit = s.credit ∧
    (s.putLostAgain v).taken = s.taken ∧ (s.putLostAgain v).fetchLeft = s.fetchLeft ∧
    (s.putLostAgain v).rotLast = s.rotLast ∧ (s.putLostAgain v).rotFirst = s.rotFirst ∧
    (s.putLostAgain v).hazStall = s.hazStall ∧ (s.putLostAgain v).span = s.span ∧
    (s.putLostAgain v).spanOut = s.spanOut ∧ (s.putLostAgain v).spanIn = s.spanIn ∧
    (s.putLostAgain v).resOut = s.resOut ∧ (s.putLostAgain v).jobs = s.jobs ∧
    (s.putLostAgain v).finishing = s.finishing ∧ (s.putLostAgain v).greads = s.greads ∧
    (s.putLostAgain v).spanNum = s.spanNum ∧ (s.putLostAgain v).spanArr = s.spanArr ∧ (s.putLostAgain v).dups = s.dups ∧
    (s.putLostAgain v).dupGen = s.dupGen ∧ (s.putLostAgain v).rlogPos = s.rlogPos ∧
    (s.putLostAgain v).members = s.members ∧ (s.putLostAgain v).peerVia = s.peerVia ∧
    (s.putLostAgain v).groups = s.groups ∧ (s.putLostAgain v).peerBound = s.peerBound ∧
    (s.putLostAgain v).returned = s.returned ∧ (s.putLostAgain v).lostRanges = s.lostRanges ∧
    (s.putLostAgain v).wmap = s.wmap ∧ (s.putLostAgain v).wfin = s.wfin ∧ (s.putLostAgain v).wheld = s.wheld ∧
    (s.putLostAgain v).preserve = s.preserve ∧ (s.putLostAgain v).kept = s.kept ∧
    (s.putLostAgain v).metaOpen = s.metaOpen ∧ (s.putLostAgain v).portA = s.portA ∧
    (s.putLostAgain v).restartDue = s.restartDue ∧ (s.putLostAgain v).pings = s.pings ∧
    (s.putLostAgain v).chain = s.chain ∧ (s.putLostAgain v).position = s.position ∧ (s.putLostAgain v).power = s.power ∧
    (s.putLostAgain v).powerOp = s.powerOp ∧ (s.putLostAgain v).fsn = s.fsn ∧ (s.putLostAgain v).ns = s.ns ∧
    (s.putLostAgain v).volCap = s.volCap ∧ (s.putLostAgain v).rsv = s.rsv ∧ (s.putLostAgain v).tokCount = s.tokCount ∧
    (s.putLostAgain v).fullZones = s.fullZones ∧ (s.putLostAgain v).fam = s.fam ∧ (s.putLostAgain v).params = s.params ∧
    (s.putLostAgain v).alm = s.alm ∧ (s.putLostAgain v).domeEntry = s.domeEntry ∧
    (s.putLostAgain v).domeWake = s.domeWake ∧ (s.putLostAgain v).domeAgreed = s.domeAgreed ∧
    (s.putLostAgain v).readAt = s.readAt ∧ (s.putLostAgain v).sensorFail = s.sensorFail ∧
    (s.putLostAgain v).tripCount = s.tripCount ∧ (s.putLostAgain v).rise = s.rise ∧
    (s.putLostAgain v).stopped = s.stopped ∧ (s.putLostAgain v).coolSince = s.coolSince ∧
    (s.putLostAgain v).events = s.events ∧ (s.putLostAgain v).dies = s.dies ∧ (s.putLostAgain v).chans = s.chans ∧
    (s.putLostAgain v).accs = s.accs ∧ (s.putLostAgain v).ldpc = s.ldpc ∧ (s.putLostAgain v).nand = s.nand ∧
    (s.putLostAgain v).blkErased = s.blkErased ∧ (s.putLostAgain v).vault = s.vault ∧
    (s.putLostAgain v).sessions = s.sessions ∧ (s.putLostAgain v).trngRestarts = s.trngRestarts ∧
    (s.putLostAgain v).drbgLeft = s.drbgLeft ∧ (s.putLostAgain v).imageId = s.imageId ∧
    (s.putLostAgain v).verFuses = s.verFuses ∧ (s.putLostAgain v).nsInfo = s.nsInfo ∧ (s.putLostAgain v).care = s.care ∧
    (s.putLostAgain v).history = s.history ∧ (s.putLostAgain v).fw = s.fw ∧ (s.putLostAgain v).trust = s.trust ∧
    (s.putLostAgain v).fdp = s.fdp ∧ (s.putLostAgain v).lostGen = s.lostGen ∧ (s.putLostAgain v).accum = s.accum ∧
    (s.putLostAgain v).boundSent = s.boundSent ∧ (s.putLostAgain v).zoneUsed = s.zoneUsed ∧
    (s.putLostAgain v).clean = s.clean :=
  ⟨rfl, rfl, rfl, rfl, rfl, rfl, rfl, rfl, rfl, rfl, rfl, rfl, rfl, rfl, rfl, rfl, rfl, rfl, rfl, rfl, rfl, rfl, rfl,
  rfl, rfl, rfl, rfl, rfl, rfl, rfl, rfl, rfl, rfl, rfl, rfl, rfl, rfl, rfl, rfl, rfl, rfl, rfl, rfl, rfl, rfl, rfl,
  rfl, rfl, rfl, rfl, rfl, rfl, rfl, rfl, rfl, rfl, rfl, rfl, rfl, rfl, rfl, rfl, rfl, rfl, rfl, rfl, rfl, rfl, rfl,
  rfl, rfl, rfl, rfl, rfl, rfl, rfl, rfl, rfl, rfl, rfl, rfl, rfl, rfl, rfl, rfl, rfl, rfl, rfl, rfl, rfl, rfl, rfl,
  rfl, rfl, rfl, rfl, rfl, rfl, rfl, rfl, rfl, rfl, rfl, rfl, rfl, rfl, rfl, rfl, rfl, rfl, rfl, rfl, rfl, rfl, rfl,
  rfl, rfl, rfl, rfl, rfl, rfl, rfl, rfl, rfl⟩

@[simp] theorem State.putLostAgain_lostAgain (s : State) (v : List (Nat × Nat)) : (s.putLostAgain v).lostAgain = v := rfl

@[simp] theorem State.putAccum_frame (s : State) (v : FMap (List (List Byte))) :
    (s.putAccum v).pending = s.pending ∧ (s.putAccum v).free = s.free ∧ (s.putAccum v).out = s.out ∧
    (s.putAccum v).boot = s.boot ∧ (s.putAccum v).tick = s.tick ∧ (s.putAccum v).win = s.win ∧
    (s.putAccum v).gap = s.gap ∧ (s.putAccum v).regs = s.regs ∧ (s.putAccum v).regPend = s.regPend ∧
    (s.putAccum v).cores = s.cores ∧ (s.putAccum v).cluster = s.cluster ∧ (s.putAccum v).tun = s.tun ∧
    (s.putAccum v).tunBufs = s.tunBufs ∧ (s.putAccum v).tunMin = s.tunMin ∧ (s.putAccum v).tunMinPend = s.tunMinPend ∧
    (s.putAccum v).sramErr = s.sramErr ∧ (s.putAccum v).heldBack = s.heldBack ∧ (s.putAccum v).rtHit = s.rtHit ∧
    (s.putAccum v).rtClock = s.rtClock ∧ (s.putAccum v).rtUntracked = s.rtUntracked ∧ (s.putAccum v).dram = s.dram ∧
    (s.putAccum v).dr = s.dr ∧ (s.putAccum v).poison = s.poison ∧ (s.putAccum v).ingot = s.ingot ∧
    (s.putAccum v).nor = s.nor ∧ (s.putAccum v).norUnk = s.norUnk ∧ (s.putAccum v).pat = s.pat ∧
    (s.putAccum v).tdly = s.tdly ∧ (s.putAccum v).scrub = s.scrub ∧ (s.putAccum v).fbuf = s.fbuf ∧
    (s.putAccum v).rings = s.rings ∧ (s.putAccum v).haz = s.haz ∧ (s.putAccum v).marks = s.marks ∧
    (s.putAccum v).wsnFloor = s.wsnFloor ∧ (s.putAccum v).health = s.health ∧ (s.putAccum v).qPend = s.qPend ∧
    (s.putAccum v).reqs = s.reqs ∧ (s.putAccum v).aborts = s.aborts ∧ (s.putAccum v).gateShut = s.gateShut ∧
    (s.putAccum v).sqs = s.sqs ∧ (s.putAccum v).cqs = s.cqs ∧ (s.putAccum v).cmds = s.cmds ∧
    (s.putAccum v).resets = s.resets ∧ (s.putAccum v).ctrls = s.ctrls ∧ (s.putAccum v).arbs = s.arbs ∧
    (s.putAccum v).credit = s.credit ∧ (s.putAccum v).taken = s.taken ∧ (s.putAccum v).fetchLeft = s.fetchLeft ∧
    (s.putAccum v).rotLast = s.rotLast ∧ (s.putAccum v).rotFirst = s.rotFirst ∧ (s.putAccum v).hazStall = s.hazStall ∧
    (s.putAccum v).span = s.span ∧ (s.putAccum v).spanOut = s.spanOut ∧ (s.putAccum v).spanIn = s.spanIn ∧
    (s.putAccum v).resOut = s.resOut ∧ (s.putAccum v).jobs = s.jobs ∧ (s.putAccum v).finishing = s.finishing ∧
    (s.putAccum v).greads = s.greads ∧ (s.putAccum v).spanNum = s.spanNum ∧ (s.putAccum v).spanArr = s.spanArr ∧
    (s.putAccum v).dups = s.dups ∧ (s.putAccum v).dupGen = s.dupGen ∧ (s.putAccum v).rlogPos = s.rlogPos ∧
    (s.putAccum v).members = s.members ∧ (s.putAccum v).peerVia = s.peerVia ∧ (s.putAccum v).groups = s.groups ∧
    (s.putAccum v).peerBound = s.peerBound ∧ (s.putAccum v).returned = s.returned ∧
    (s.putAccum v).lostRanges = s.lostRanges ∧ (s.putAccum v).wmap = s.wmap ∧ (s.putAccum v).wfin = s.wfin ∧
    (s.putAccum v).wheld = s.wheld ∧ (s.putAccum v).preserve = s.preserve ∧ (s.putAccum v).kept = s.kept ∧
    (s.putAccum v).metaOpen = s.metaOpen ∧ (s.putAccum v).portA = s.portA ∧ (s.putAccum v).restartDue = s.restartDue ∧
    (s.putAccum v).pings = s.pings ∧ (s.putAccum v).chain = s.chain ∧ (s.putAccum v).position = s.position ∧
    (s.putAccum v).power = s.power ∧ (s.putAccum v).powerOp = s.powerOp ∧ (s.putAccum v).fsn = s.fsn ∧
    (s.putAccum v).ns = s.ns ∧ (s.putAccum v).volCap = s.volCap ∧ (s.putAccum v).rsv = s.rsv ∧
    (s.putAccum v).tokCount = s.tokCount ∧ (s.putAccum v).fullZones = s.fullZones ∧ (s.putAccum v).fam = s.fam ∧
    (s.putAccum v).params = s.params ∧ (s.putAccum v).alm = s.alm ∧ (s.putAccum v).domeEntry = s.domeEntry ∧
    (s.putAccum v).domeWake = s.domeWake ∧ (s.putAccum v).domeAgreed = s.domeAgreed ∧ (s.putAccum v).readAt = s.readAt ∧
    (s.putAccum v).sensorFail = s.sensorFail ∧ (s.putAccum v).tripCount = s.tripCount ∧ (s.putAccum v).rise = s.rise ∧
    (s.putAccum v).stopped = s.stopped ∧ (s.putAccum v).coolSince = s.coolSince ∧ (s.putAccum v).events = s.events ∧
    (s.putAccum v).dies = s.dies ∧ (s.putAccum v).chans = s.chans ∧ (s.putAccum v).accs = s.accs ∧
    (s.putAccum v).ldpc = s.ldpc ∧ (s.putAccum v).nand = s.nand ∧ (s.putAccum v).blkErased = s.blkErased ∧
    (s.putAccum v).vault = s.vault ∧ (s.putAccum v).sessions = s.sessions ∧
    (s.putAccum v).trngRestarts = s.trngRestarts ∧ (s.putAccum v).drbgLeft = s.drbgLeft ∧
    (s.putAccum v).imageId = s.imageId ∧ (s.putAccum v).verFuses = s.verFuses ∧ (s.putAccum v).nsInfo = s.nsInfo ∧
    (s.putAccum v).care = s.care ∧ (s.putAccum v).history = s.history ∧ (s.putAccum v).fw = s.fw ∧
    (s.putAccum v).trust = s.trust ∧ (s.putAccum v).fdp = s.fdp ∧ (s.putAccum v).lostGen = s.lostGen ∧
    (s.putAccum v).lostAgain = s.lostAgain ∧ (s.putAccum v).boundSent = s.boundSent ∧
    (s.putAccum v).zoneUsed = s.zoneUsed ∧ (s.putAccum v).clean = s.clean :=
  ⟨rfl, rfl, rfl, rfl, rfl, rfl, rfl, rfl, rfl, rfl, rfl, rfl, rfl, rfl, rfl, rfl, rfl, rfl, rfl, rfl, rfl, rfl, rfl,
  rfl, rfl, rfl, rfl, rfl, rfl, rfl, rfl, rfl, rfl, rfl, rfl, rfl, rfl, rfl, rfl, rfl, rfl, rfl, rfl, rfl, rfl, rfl,
  rfl, rfl, rfl, rfl, rfl, rfl, rfl, rfl, rfl, rfl, rfl, rfl, rfl, rfl, rfl, rfl, rfl, rfl, rfl, rfl, rfl, rfl, rfl,
  rfl, rfl, rfl, rfl, rfl, rfl, rfl, rfl, rfl, rfl, rfl, rfl, rfl, rfl, rfl, rfl, rfl, rfl, rfl, rfl, rfl, rfl, rfl,
  rfl, rfl, rfl, rfl, rfl, rfl, rfl, rfl, rfl, rfl, rfl, rfl, rfl, rfl, rfl, rfl, rfl, rfl, rfl, rfl, rfl, rfl, rfl,
  rfl, rfl, rfl, rfl, rfl, rfl, rfl, rfl, rfl⟩

@[simp] theorem State.putAccum_accum (s : State) (v : FMap (List (List Byte))) : (s.putAccum v).accum = v := rfl

@[simp] theorem State.putBoundSent_frame (s : State) (v : Nat) :
    (s.putBoundSent v).pending = s.pending ∧ (s.putBoundSent v).free = s.free ∧ (s.putBoundSent v).out = s.out ∧
    (s.putBoundSent v).boot = s.boot ∧ (s.putBoundSent v).tick = s.tick ∧ (s.putBoundSent v).win = s.win ∧
    (s.putBoundSent v).gap = s.gap ∧ (s.putBoundSent v).regs = s.regs ∧ (s.putBoundSent v).regPend = s.regPend ∧
    (s.putBoundSent v).cores = s.cores ∧ (s.putBoundSent v).cluster = s.cluster ∧ (s.putBoundSent v).tun = s.tun ∧
    (s.putBoundSent v).tunBufs = s.tunBufs ∧ (s.putBoundSent v).tunMin = s.tunMin ∧
    (s.putBoundSent v).tunMinPend = s.tunMinPend ∧ (s.putBoundSent v).sramErr = s.sramErr ∧
    (s.putBoundSent v).heldBack = s.heldBack ∧ (s.putBoundSent v).rtHit = s.rtHit ∧
    (s.putBoundSent v).rtClock = s.rtClock ∧ (s.putBoundSent v).rtUntracked = s.rtUntracked ∧
    (s.putBoundSent v).dram = s.dram ∧ (s.putBoundSent v).dr = s.dr ∧ (s.putBoundSent v).poison = s.poison ∧
    (s.putBoundSent v).ingot = s.ingot ∧ (s.putBoundSent v).nor = s.nor ∧ (s.putBoundSent v).norUnk = s.norUnk ∧
    (s.putBoundSent v).pat = s.pat ∧ (s.putBoundSent v).tdly = s.tdly ∧ (s.putBoundSent v).scrub = s.scrub ∧
    (s.putBoundSent v).fbuf = s.fbuf ∧ (s.putBoundSent v).rings = s.rings ∧ (s.putBoundSent v).haz = s.haz ∧
    (s.putBoundSent v).marks = s.marks ∧ (s.putBoundSent v).wsnFloor = s.wsnFloor ∧
    (s.putBoundSent v).health = s.health ∧ (s.putBoundSent v).qPend = s.qPend ∧ (s.putBoundSent v).reqs = s.reqs ∧
    (s.putBoundSent v).aborts = s.aborts ∧ (s.putBoundSent v).gateShut = s.gateShut ∧ (s.putBoundSent v).sqs = s.sqs ∧
    (s.putBoundSent v).cqs = s.cqs ∧ (s.putBoundSent v).cmds = s.cmds ∧ (s.putBoundSent v).resets = s.resets ∧
    (s.putBoundSent v).ctrls = s.ctrls ∧ (s.putBoundSent v).arbs = s.arbs ∧ (s.putBoundSent v).credit = s.credit ∧
    (s.putBoundSent v).taken = s.taken ∧ (s.putBoundSent v).fetchLeft = s.fetchLeft ∧
    (s.putBoundSent v).rotLast = s.rotLast ∧ (s.putBoundSent v).rotFirst = s.rotFirst ∧
    (s.putBoundSent v).hazStall = s.hazStall ∧ (s.putBoundSent v).span = s.span ∧
    (s.putBoundSent v).spanOut = s.spanOut ∧ (s.putBoundSent v).spanIn = s.spanIn ∧
    (s.putBoundSent v).resOut = s.resOut ∧ (s.putBoundSent v).jobs = s.jobs ∧
    (s.putBoundSent v).finishing = s.finishing ∧ (s.putBoundSent v).greads = s.greads ∧
    (s.putBoundSent v).spanNum = s.spanNum ∧ (s.putBoundSent v).spanArr = s.spanArr ∧ (s.putBoundSent v).dups = s.dups ∧
    (s.putBoundSent v).dupGen = s.dupGen ∧ (s.putBoundSent v).rlogPos = s.rlogPos ∧
    (s.putBoundSent v).members = s.members ∧ (s.putBoundSent v).peerVia = s.peerVia ∧
    (s.putBoundSent v).groups = s.groups ∧ (s.putBoundSent v).peerBound = s.peerBound ∧
    (s.putBoundSent v).returned = s.returned ∧ (s.putBoundSent v).lostRanges = s.lostRanges ∧
    (s.putBoundSent v).wmap = s.wmap ∧ (s.putBoundSent v).wfin = s.wfin ∧ (s.putBoundSent v).wheld = s.wheld ∧
    (s.putBoundSent v).preserve = s.preserve ∧ (s.putBoundSent v).kept = s.kept ∧
    (s.putBoundSent v).metaOpen = s.metaOpen ∧ (s.putBoundSent v).portA = s.portA ∧
    (s.putBoundSent v).restartDue = s.restartDue ∧ (s.putBoundSent v).pings = s.pings ∧
    (s.putBoundSent v).chain = s.chain ∧ (s.putBoundSent v).position = s.position ∧ (s.putBoundSent v).power = s.power ∧
    (s.putBoundSent v).powerOp = s.powerOp ∧ (s.putBoundSent v).fsn = s.fsn ∧ (s.putBoundSent v).ns = s.ns ∧
    (s.putBoundSent v).volCap = s.volCap ∧ (s.putBoundSent v).rsv = s.rsv ∧ (s.putBoundSent v).tokCount = s.tokCount ∧
    (s.putBoundSent v).fullZones = s.fullZones ∧ (s.putBoundSent v).fam = s.fam ∧ (s.putBoundSent v).params = s.params ∧
    (s.putBoundSent v).alm = s.alm ∧ (s.putBoundSent v).domeEntry = s.domeEntry ∧
    (s.putBoundSent v).domeWake = s.domeWake ∧ (s.putBoundSent v).domeAgreed = s.domeAgreed ∧
    (s.putBoundSent v).readAt = s.readAt ∧ (s.putBoundSent v).sensorFail = s.sensorFail ∧
    (s.putBoundSent v).tripCount = s.tripCount ∧ (s.putBoundSent v).rise = s.rise ∧
    (s.putBoundSent v).stopped = s.stopped ∧ (s.putBoundSent v).coolSince = s.coolSince ∧
    (s.putBoundSent v).events = s.events ∧ (s.putBoundSent v).dies = s.dies ∧ (s.putBoundSent v).chans = s.chans ∧
    (s.putBoundSent v).accs = s.accs ∧ (s.putBoundSent v).ldpc = s.ldpc ∧ (s.putBoundSent v).nand = s.nand ∧
    (s.putBoundSent v).blkErased = s.blkErased ∧ (s.putBoundSent v).vault = s.vault ∧
    (s.putBoundSent v).sessions = s.sessions ∧ (s.putBoundSent v).trngRestarts = s.trngRestarts ∧
    (s.putBoundSent v).drbgLeft = s.drbgLeft ∧ (s.putBoundSent v).imageId = s.imageId ∧
    (s.putBoundSent v).verFuses = s.verFuses ∧ (s.putBoundSent v).nsInfo = s.nsInfo ∧ (s.putBoundSent v).care = s.care ∧
    (s.putBoundSent v).history = s.history ∧ (s.putBoundSent v).fw = s.fw ∧ (s.putBoundSent v).trust = s.trust ∧
    (s.putBoundSent v).fdp = s.fdp ∧ (s.putBoundSent v).lostGen = s.lostGen ∧
    (s.putBoundSent v).lostAgain = s.lostAgain ∧ (s.putBoundSent v).accum = s.accum ∧
    (s.putBoundSent v).zoneUsed = s.zoneUsed ∧ (s.putBoundSent v).clean = s.clean :=
  ⟨rfl, rfl, rfl, rfl, rfl, rfl, rfl, rfl, rfl, rfl, rfl, rfl, rfl, rfl, rfl, rfl, rfl, rfl, rfl, rfl, rfl, rfl, rfl,
  rfl, rfl, rfl, rfl, rfl, rfl, rfl, rfl, rfl, rfl, rfl, rfl, rfl, rfl, rfl, rfl, rfl, rfl, rfl, rfl, rfl, rfl, rfl,
  rfl, rfl, rfl, rfl, rfl, rfl, rfl, rfl, rfl, rfl, rfl, rfl, rfl, rfl, rfl, rfl, rfl, rfl, rfl, rfl, rfl, rfl, rfl,
  rfl, rfl, rfl, rfl, rfl, rfl, rfl, rfl, rfl, rfl, rfl, rfl, rfl, rfl, rfl, rfl, rfl, rfl, rfl, rfl, rfl, rfl, rfl,
  rfl, rfl, rfl, rfl, rfl, rfl, rfl, rfl, rfl, rfl, rfl, rfl, rfl, rfl, rfl, rfl, rfl, rfl, rfl, rfl, rfl, rfl, rfl,
  rfl, rfl, rfl, rfl, rfl, rfl, rfl, rfl, rfl⟩

@[simp] theorem State.putBoundSent_boundSent (s : State) (v : Nat) : (s.putBoundSent v).boundSent = v := rfl

@[simp] theorem State.putZoneUsed_frame (s : State) (v : FMap W64) :
    (s.putZoneUsed v).pending = s.pending ∧ (s.putZoneUsed v).free = s.free ∧ (s.putZoneUsed v).out = s.out ∧
    (s.putZoneUsed v).boot = s.boot ∧ (s.putZoneUsed v).tick = s.tick ∧ (s.putZoneUsed v).win = s.win ∧
    (s.putZoneUsed v).gap = s.gap ∧ (s.putZoneUsed v).regs = s.regs ∧ (s.putZoneUsed v).regPend = s.regPend ∧
    (s.putZoneUsed v).cores = s.cores ∧ (s.putZoneUsed v).cluster = s.cluster ∧ (s.putZoneUsed v).tun = s.tun ∧
    (s.putZoneUsed v).tunBufs = s.tunBufs ∧ (s.putZoneUsed v).tunMin = s.tunMin ∧
    (s.putZoneUsed v).tunMinPend = s.tunMinPend ∧ (s.putZoneUsed v).sramErr = s.sramErr ∧
    (s.putZoneUsed v).heldBack = s.heldBack ∧ (s.putZoneUsed v).rtHit = s.rtHit ∧ (s.putZoneUsed v).rtClock = s.rtClock ∧
    (s.putZoneUsed v).rtUntracked = s.rtUntracked ∧ (s.putZoneUsed v).dram = s.dram ∧ (s.putZoneUsed v).dr = s.dr ∧
    (s.putZoneUsed v).poison = s.poison ∧ (s.putZoneUsed v).ingot = s.ingot ∧ (s.putZoneUsed v).nor = s.nor ∧
    (s.putZoneUsed v).norUnk = s.norUnk ∧ (s.putZoneUsed v).pat = s.pat ∧ (s.putZoneUsed v).tdly = s.tdly ∧
    (s.putZoneUsed v).scrub = s.scrub ∧ (s.putZoneUsed v).fbuf = s.fbuf ∧ (s.putZoneUsed v).rings = s.rings ∧
    (s.putZoneUsed v).haz = s.haz ∧ (s.putZoneUsed v).marks = s.marks ∧ (s.putZoneUsed v).wsnFloor = s.wsnFloor ∧
    (s.putZoneUsed v).health = s.health ∧ (s.putZoneUsed v).qPend = s.qPend ∧ (s.putZoneUsed v).reqs = s.reqs ∧
    (s.putZoneUsed v).aborts = s.aborts ∧ (s.putZoneUsed v).gateShut = s.gateShut ∧ (s.putZoneUsed v).sqs = s.sqs ∧
    (s.putZoneUsed v).cqs = s.cqs ∧ (s.putZoneUsed v).cmds = s.cmds ∧ (s.putZoneUsed v).resets = s.resets ∧
    (s.putZoneUsed v).ctrls = s.ctrls ∧ (s.putZoneUsed v).arbs = s.arbs ∧ (s.putZoneUsed v).credit = s.credit ∧
    (s.putZoneUsed v).taken = s.taken ∧ (s.putZoneUsed v).fetchLeft = s.fetchLeft ∧
    (s.putZoneUsed v).rotLast = s.rotLast ∧ (s.putZoneUsed v).rotFirst = s.rotFirst ∧
    (s.putZoneUsed v).hazStall = s.hazStall ∧ (s.putZoneUsed v).span = s.span ∧ (s.putZoneUsed v).spanOut = s.spanOut ∧
    (s.putZoneUsed v).spanIn = s.spanIn ∧ (s.putZoneUsed v).resOut = s.resOut ∧ (s.putZoneUsed v).jobs = s.jobs ∧
    (s.putZoneUsed v).finishing = s.finishing ∧ (s.putZoneUsed v).greads = s.greads ∧
    (s.putZoneUsed v).spanNum = s.spanNum ∧ (s.putZoneUsed v).spanArr = s.spanArr ∧ (s.putZoneUsed v).dups = s.dups ∧
    (s.putZoneUsed v).dupGen = s.dupGen ∧ (s.putZoneUsed v).rlogPos = s.rlogPos ∧ (s.putZoneUsed v).members = s.members ∧
    (s.putZoneUsed v).peerVia = s.peerVia ∧ (s.putZoneUsed v).groups = s.groups ∧
    (s.putZoneUsed v).peerBound = s.peerBound ∧ (s.putZoneUsed v).returned = s.returned ∧
    (s.putZoneUsed v).lostRanges = s.lostRanges ∧ (s.putZoneUsed v).wmap = s.wmap ∧ (s.putZoneUsed v).wfin = s.wfin ∧
    (s.putZoneUsed v).wheld = s.wheld ∧ (s.putZoneUsed v).preserve = s.preserve ∧ (s.putZoneUsed v).kept = s.kept ∧
    (s.putZoneUsed v).metaOpen = s.metaOpen ∧ (s.putZoneUsed v).portA = s.portA ∧
    (s.putZoneUsed v).restartDue = s.restartDue ∧ (s.putZoneUsed v).pings = s.pings ∧ (s.putZoneUsed v).chain = s.chain ∧
    (s.putZoneUsed v).position = s.position ∧ (s.putZoneUsed v).power = s.power ∧ (s.putZoneUsed v).powerOp = s.powerOp ∧
    (s.putZoneUsed v).fsn = s.fsn ∧ (s.putZoneUsed v).ns = s.ns ∧ (s.putZoneUsed v).volCap = s.volCap ∧
    (s.putZoneUsed v).rsv = s.rsv ∧ (s.putZoneUsed v).tokCount = s.tokCount ∧ (s.putZoneUsed v).fullZones = s.fullZones ∧
    (s.putZoneUsed v).fam = s.fam ∧ (s.putZoneUsed v).params = s.params ∧ (s.putZoneUsed v).alm = s.alm ∧
    (s.putZoneUsed v).domeEntry = s.domeEntry ∧ (s.putZoneUsed v).domeWake = s.domeWake ∧
    (s.putZoneUsed v).domeAgreed = s.domeAgreed ∧ (s.putZoneUsed v).readAt = s.readAt ∧
    (s.putZoneUsed v).sensorFail = s.sensorFail ∧ (s.putZoneUsed v).tripCount = s.tripCount ∧
    (s.putZoneUsed v).rise = s.rise ∧ (s.putZoneUsed v).stopped = s.stopped ∧ (s.putZoneUsed v).coolSince = s.coolSince ∧
    (s.putZoneUsed v).events = s.events ∧ (s.putZoneUsed v).dies = s.dies ∧ (s.putZoneUsed v).chans = s.chans ∧
    (s.putZoneUsed v).accs = s.accs ∧ (s.putZoneUsed v).ldpc = s.ldpc ∧ (s.putZoneUsed v).nand = s.nand ∧
    (s.putZoneUsed v).blkErased = s.blkErased ∧ (s.putZoneUsed v).vault = s.vault ∧
    (s.putZoneUsed v).sessions = s.sessions ∧ (s.putZoneUsed v).trngRestarts = s.trngRestarts ∧
    (s.putZoneUsed v).drbgLeft = s.drbgLeft ∧ (s.putZoneUsed v).imageId = s.imageId ∧
    (s.putZoneUsed v).verFuses = s.verFuses ∧ (s.putZoneUsed v).nsInfo = s.nsInfo ∧ (s.putZoneUsed v).care = s.care ∧
    (s.putZoneUsed v).history = s.history ∧ (s.putZoneUsed v).fw = s.fw ∧ (s.putZoneUsed v).trust = s.trust ∧
    (s.putZoneUsed v).fdp = s.fdp ∧ (s.putZoneUsed v).lostGen = s.lostGen ∧ (s.putZoneUsed v).lostAgain = s.lostAgain ∧
    (s.putZoneUsed v).accum = s.accum ∧ (s.putZoneUsed v).boundSent = s.boundSent ∧ (s.putZoneUsed v).clean = s.clean :=
  ⟨rfl, rfl, rfl, rfl, rfl, rfl, rfl, rfl, rfl, rfl, rfl, rfl, rfl, rfl, rfl, rfl, rfl, rfl, rfl, rfl, rfl, rfl, rfl,
  rfl, rfl, rfl, rfl, rfl, rfl, rfl, rfl, rfl, rfl, rfl, rfl, rfl, rfl, rfl, rfl, rfl, rfl, rfl, rfl, rfl, rfl, rfl,
  rfl, rfl, rfl, rfl, rfl, rfl, rfl, rfl, rfl, rfl, rfl, rfl, rfl, rfl, rfl, rfl, rfl, rfl, rfl, rfl, rfl, rfl, rfl,
  rfl, rfl, rfl, rfl, rfl, rfl, rfl, rfl, rfl, rfl, rfl, rfl, rfl, rfl, rfl, rfl, rfl, rfl, rfl, rfl, rfl, rfl, rfl,
  rfl, rfl, rfl, rfl, rfl, rfl, rfl, rfl, rfl, rfl, rfl, rfl, rfl, rfl, rfl, rfl, rfl, rfl, rfl, rfl, rfl, rfl, rfl,
  rfl, rfl, rfl, rfl, rfl, rfl, rfl, rfl, rfl⟩

@[simp] theorem State.putZoneUsed_zoneUsed (s : State) (v : FMap W64) : (s.putZoneUsed v).zoneUsed = v := rfl

@[simp] theorem State.putClean_frame (s : State) (v : Bool) :
    (s.putClean v).pending = s.pending ∧ (s.putClean v).free = s.free ∧ (s.putClean v).out = s.out ∧
    (s.putClean v).boot = s.boot ∧ (s.putClean v).tick = s.tick ∧ (s.putClean v).win = s.win ∧
    (s.putClean v).gap = s.gap ∧ (s.putClean v).regs = s.regs ∧ (s.putClean v).regPend = s.regPend ∧
    (s.putClean v).cores = s.cores ∧ (s.putClean v).cluster = s.cluster ∧ (s.putClean v).tun = s.tun ∧
    (s.putClean v).tunBufs = s.tunBufs ∧ (s.putClean v).tunMin = s.tunMin ∧ (s.putClean v).tunMinPend = s.tunMinPend ∧
    (s.putClean v).sramErr = s.sramErr ∧ (s.putClean v).heldBack = s.heldBack ∧ (s.putClean v).rtHit = s.rtHit ∧
    (s.putClean v).rtClock = s.rtClock ∧ (s.putClean v).rtUntracked = s.rtUntracked ∧ (s.putClean v).dram = s.dram ∧
    (s.putClean v).dr = s.dr ∧ (s.putClean v).poison = s.poison ∧ (s.putClean v).ingot = s.ingot ∧
    (s.putClean v).nor = s.nor ∧ (s.putClean v).norUnk = s.norUnk ∧ (s.putClean v).pat = s.pat ∧
    (s.putClean v).tdly = s.tdly ∧ (s.putClean v).scrub = s.scrub ∧ (s.putClean v).fbuf = s.fbuf ∧
    (s.putClean v).rings = s.rings ∧ (s.putClean v).haz = s.haz ∧ (s.putClean v).marks = s.marks ∧
    (s.putClean v).wsnFloor = s.wsnFloor ∧ (s.putClean v).health = s.health ∧ (s.putClean v).qPend = s.qPend ∧
    (s.putClean v).reqs = s.reqs ∧ (s.putClean v).aborts = s.aborts ∧ (s.putClean v).gateShut = s.gateShut ∧
    (s.putClean v).sqs = s.sqs ∧ (s.putClean v).cqs = s.cqs ∧ (s.putClean v).cmds = s.cmds ∧
    (s.putClean v).resets = s.resets ∧ (s.putClean v).ctrls = s.ctrls ∧ (s.putClean v).arbs = s.arbs ∧
    (s.putClean v).credit = s.credit ∧ (s.putClean v).taken = s.taken ∧ (s.putClean v).fetchLeft = s.fetchLeft ∧
    (s.putClean v).rotLast = s.rotLast ∧ (s.putClean v).rotFirst = s.rotFirst ∧ (s.putClean v).hazStall = s.hazStall ∧
    (s.putClean v).span = s.span ∧ (s.putClean v).spanOut = s.spanOut ∧ (s.putClean v).spanIn = s.spanIn ∧
    (s.putClean v).resOut = s.resOut ∧ (s.putClean v).jobs = s.jobs ∧ (s.putClean v).finishing = s.finishing ∧
    (s.putClean v).greads = s.greads ∧ (s.putClean v).spanNum = s.spanNum ∧ (s.putClean v).spanArr = s.spanArr ∧
    (s.putClean v).dups = s.dups ∧ (s.putClean v).dupGen = s.dupGen ∧ (s.putClean v).rlogPos = s.rlogPos ∧
    (s.putClean v).members = s.members ∧ (s.putClean v).peerVia = s.peerVia ∧ (s.putClean v).groups = s.groups ∧
    (s.putClean v).peerBound = s.peerBound ∧ (s.putClean v).returned = s.returned ∧
    (s.putClean v).lostRanges = s.lostRanges ∧ (s.putClean v).wmap = s.wmap ∧ (s.putClean v).wfin = s.wfin ∧
    (s.putClean v).wheld = s.wheld ∧ (s.putClean v).preserve = s.preserve ∧ (s.putClean v).kept = s.kept ∧
    (s.putClean v).metaOpen = s.metaOpen ∧ (s.putClean v).portA = s.portA ∧ (s.putClean v).restartDue = s.restartDue ∧
    (s.putClean v).pings = s.pings ∧ (s.putClean v).chain = s.chain ∧ (s.putClean v).position = s.position ∧
    (s.putClean v).power = s.power ∧ (s.putClean v).powerOp = s.powerOp ∧ (s.putClean v).fsn = s.fsn ∧
    (s.putClean v).ns = s.ns ∧ (s.putClean v).volCap = s.volCap ∧ (s.putClean v).rsv = s.rsv ∧
    (s.putClean v).tokCount = s.tokCount ∧ (s.putClean v).fullZones = s.fullZones ∧ (s.putClean v).fam = s.fam ∧
    (s.putClean v).params = s.params ∧ (s.putClean v).alm = s.alm ∧ (s.putClean v).domeEntry = s.domeEntry ∧
    (s.putClean v).domeWake = s.domeWake ∧ (s.putClean v).domeAgreed = s.domeAgreed ∧ (s.putClean v).readAt = s.readAt ∧
    (s.putClean v).sensorFail = s.sensorFail ∧ (s.putClean v).tripCount = s.tripCount ∧ (s.putClean v).rise = s.rise ∧
    (s.putClean v).stopped = s.stopped ∧ (s.putClean v).coolSince = s.coolSince ∧ (s.putClean v).events = s.events ∧
    (s.putClean v).dies = s.dies ∧ (s.putClean v).chans = s.chans ∧ (s.putClean v).accs = s.accs ∧
    (s.putClean v).ldpc = s.ldpc ∧ (s.putClean v).nand = s.nand ∧ (s.putClean v).blkErased = s.blkErased ∧
    (s.putClean v).vault = s.vault ∧ (s.putClean v).sessions = s.sessions ∧
    (s.putClean v).trngRestarts = s.trngRestarts ∧ (s.putClean v).drbgLeft = s.drbgLeft ∧
    (s.putClean v).imageId = s.imageId ∧ (s.putClean v).verFuses = s.verFuses ∧ (s.putClean v).nsInfo = s.nsInfo ∧
    (s.putClean v).care = s.care ∧ (s.putClean v).history = s.history ∧ (s.putClean v).fw = s.fw ∧
    (s.putClean v).trust = s.trust ∧ (s.putClean v).fdp = s.fdp ∧ (s.putClean v).lostGen = s.lostGen ∧
    (s.putClean v).lostAgain = s.lostAgain ∧ (s.putClean v).accum = s.accum ∧ (s.putClean v).boundSent = s.boundSent ∧
    (s.putClean v).zoneUsed = s.zoneUsed :=
  ⟨rfl, rfl, rfl, rfl, rfl, rfl, rfl, rfl, rfl, rfl, rfl, rfl, rfl, rfl, rfl, rfl, rfl, rfl, rfl, rfl, rfl, rfl, rfl,
  rfl, rfl, rfl, rfl, rfl, rfl, rfl, rfl, rfl, rfl, rfl, rfl, rfl, rfl, rfl, rfl, rfl, rfl, rfl, rfl, rfl, rfl, rfl,
  rfl, rfl, rfl, rfl, rfl, rfl, rfl, rfl, rfl, rfl, rfl, rfl, rfl, rfl, rfl, rfl, rfl, rfl, rfl, rfl, rfl, rfl, rfl,
  rfl, rfl, rfl, rfl, rfl, rfl, rfl, rfl, rfl, rfl, rfl, rfl, rfl, rfl, rfl, rfl, rfl, rfl, rfl, rfl, rfl, rfl, rfl,
  rfl, rfl, rfl, rfl, rfl, rfl, rfl, rfl, rfl, rfl, rfl, rfl, rfl, rfl, rfl, rfl, rfl, rfl, rfl, rfl, rfl, rfl, rfl,
  rfl, rfl, rfl, rfl, rfl, rfl, rfl, rfl, rfl⟩

@[simp] theorem State.putClean_clean (s : State) (v : Bool) : (s.putClean v).clean = v := rfl

/-! ## The operations that most others use -/

@[simp] theorem State.setReg_frame (s : State) (o : Nat) (v : W64) :
    (s.setReg o v).pending = s.pending ∧ (s.setReg o v).free = s.free ∧ (s.setReg o v).out = s.out ∧
    (s.setReg o v).boot = s.boot ∧ (s.setReg o v).tick = s.tick ∧ (s.setReg o v).win = s.win ∧
    (s.setReg o v).gap = s.gap ∧ (s.setReg o v).regPend = s.regPend ∧ (s.setReg o v).cores = s.cores ∧
    (s.setReg o v).cluster = s.cluster ∧ (s.setReg o v).tun = s.tun ∧ (s.setReg o v).tunBufs = s.tunBufs ∧
    (s.setReg o v).tunMin = s.tunMin ∧ (s.setReg o v).tunMinPend = s.tunMinPend ∧ (s.setReg o v).sramErr = s.sramErr ∧
    (s.setReg o v).heldBack = s.heldBack ∧ (s.setReg o v).rtHit = s.rtHit ∧ (s.setReg o v).rtClock = s.rtClock ∧
    (s.setReg o v).rtUntracked = s.rtUntracked ∧ (s.setReg o v).dram = s.dram ∧ (s.setReg o v).dr = s.dr ∧
    (s.setReg o v).poison = s.poison ∧ (s.setReg o v).ingot = s.ingot ∧ (s.setReg o v).nor = s.nor ∧
    (s.setReg o v).norUnk = s.norUnk ∧ (s.setReg o v).pat = s.pat ∧ (s.setReg o v).tdly = s.tdly ∧
    (s.setReg o v).scrub = s.scrub ∧ (s.setReg o v).fbuf = s.fbuf ∧ (s.setReg o v).rings = s.rings ∧
    (s.setReg o v).haz = s.haz ∧ (s.setReg o v).marks = s.marks ∧ (s.setReg o v).wsnFloor = s.wsnFloor ∧
    (s.setReg o v).health = s.health ∧ (s.setReg o v).qPend = s.qPend ∧ (s.setReg o v).reqs = s.reqs ∧
    (s.setReg o v).aborts = s.aborts ∧ (s.setReg o v).gateShut = s.gateShut ∧ (s.setReg o v).sqs = s.sqs ∧
    (s.setReg o v).cqs = s.cqs ∧ (s.setReg o v).cmds = s.cmds ∧ (s.setReg o v).resets = s.resets ∧
    (s.setReg o v).ctrls = s.ctrls ∧ (s.setReg o v).arbs = s.arbs ∧ (s.setReg o v).credit = s.credit ∧
    (s.setReg o v).taken = s.taken ∧ (s.setReg o v).fetchLeft = s.fetchLeft ∧ (s.setReg o v).rotLast = s.rotLast ∧
    (s.setReg o v).rotFirst = s.rotFirst ∧ (s.setReg o v).hazStall = s.hazStall ∧ (s.setReg o v).span = s.span ∧
    (s.setReg o v).spanOut = s.spanOut ∧ (s.setReg o v).spanIn = s.spanIn ∧ (s.setReg o v).resOut = s.resOut ∧
    (s.setReg o v).jobs = s.jobs ∧ (s.setReg o v).finishing = s.finishing ∧ (s.setReg o v).greads = s.greads ∧
    (s.setReg o v).spanNum = s.spanNum ∧ (s.setReg o v).spanArr = s.spanArr ∧ (s.setReg o v).dups = s.dups ∧
    (s.setReg o v).dupGen = s.dupGen ∧ (s.setReg o v).rlogPos = s.rlogPos ∧ (s.setReg o v).members = s.members ∧
    (s.setReg o v).peerVia = s.peerVia ∧ (s.setReg o v).groups = s.groups ∧ (s.setReg o v).peerBound = s.peerBound ∧
    (s.setReg o v).returned = s.returned ∧ (s.setReg o v).lostRanges = s.lostRanges ∧ (s.setReg o v).wmap = s.wmap ∧
    (s.setReg o v).wfin = s.wfin ∧ (s.setReg o v).wheld = s.wheld ∧ (s.setReg o v).preserve = s.preserve ∧
    (s.setReg o v).kept = s.kept ∧ (s.setReg o v).metaOpen = s.metaOpen ∧ (s.setReg o v).portA = s.portA ∧
    (s.setReg o v).restartDue = s.restartDue ∧ (s.setReg o v).pings = s.pings ∧ (s.setReg o v).chain = s.chain ∧
    (s.setReg o v).position = s.position ∧ (s.setReg o v).power = s.power ∧ (s.setReg o v).powerOp = s.powerOp ∧
    (s.setReg o v).fsn = s.fsn ∧ (s.setReg o v).ns = s.ns ∧ (s.setReg o v).volCap = s.volCap ∧
    (s.setReg o v).rsv = s.rsv ∧ (s.setReg o v).tokCount = s.tokCount ∧ (s.setReg o v).fullZones = s.fullZones ∧
    (s.setReg o v).fam = s.fam ∧ (s.setReg o v).params = s.params ∧ (s.setReg o v).alm = s.alm ∧
    (s.setReg o v).domeEntry = s.domeEntry ∧ (s.setReg o v).domeWake = s.domeWake ∧
    (s.setReg o v).domeAgreed = s.domeAgreed ∧ (s.setReg o v).readAt = s.readAt ∧
    (s.setReg o v).sensorFail = s.sensorFail ∧ (s.setReg o v).tripCount = s.tripCount ∧ (s.setReg o v).rise = s.rise ∧
    (s.setReg o v).stopped = s.stopped ∧ (s.setReg o v).coolSince = s.coolSince ∧ (s.setReg o v).events = s.events ∧
    (s.setReg o v).dies = s.dies ∧ (s.setReg o v).chans = s.chans ∧ (s.setReg o v).accs = s.accs ∧
    (s.setReg o v).ldpc = s.ldpc ∧ (s.setReg o v).nand = s.nand ∧ (s.setReg o v).blkErased = s.blkErased ∧
    (s.setReg o v).vault = s.vault ∧ (s.setReg o v).sessions = s.sessions ∧
    (s.setReg o v).trngRestarts = s.trngRestarts ∧ (s.setReg o v).drbgLeft = s.drbgLeft ∧
    (s.setReg o v).imageId = s.imageId ∧ (s.setReg o v).verFuses = s.verFuses ∧ (s.setReg o v).nsInfo = s.nsInfo ∧
    (s.setReg o v).care = s.care ∧ (s.setReg o v).history = s.history ∧ (s.setReg o v).fw = s.fw ∧
    (s.setReg o v).trust = s.trust ∧ (s.setReg o v).fdp = s.fdp ∧ (s.setReg o v).lostGen = s.lostGen ∧
    (s.setReg o v).lostAgain = s.lostAgain ∧ (s.setReg o v).accum = s.accum ∧ (s.setReg o v).boundSent = s.boundSent ∧
    (s.setReg o v).zoneUsed = s.zoneUsed ∧ (s.setReg o v).clean = s.clean :=
  ⟨rfl, rfl, rfl, rfl, rfl, rfl, rfl, rfl, rfl, rfl, rfl, rfl, rfl, rfl, rfl, rfl, rfl, rfl, rfl, rfl, rfl, rfl, rfl,
  rfl, rfl, rfl, rfl, rfl, rfl, rfl, rfl, rfl, rfl, rfl, rfl, rfl, rfl, rfl, rfl, rfl, rfl, rfl, rfl, rfl, rfl, rfl,
  rfl, rfl, rfl, rfl, rfl, rfl, rfl, rfl, rfl, rfl, rfl, rfl, rfl, rfl, rfl, rfl, rfl, rfl, rfl, rfl, rfl, rfl, rfl,
  rfl, rfl, rfl, rfl, rfl, rfl, rfl, rfl, rfl, rfl, rfl, rfl, rfl, rfl, rfl, rfl, rfl, rfl, rfl, rfl, rfl, rfl, rfl,
  rfl, rfl, rfl, rfl, rfl, rfl, rfl, rfl, rfl, rfl, rfl, rfl, rfl, rfl, rfl, rfl, rfl, rfl, rfl, rfl, rfl, rfl, rfl,
  rfl, rfl, rfl, rfl, rfl, rfl, rfl, rfl, rfl⟩

@[simp] theorem State.setReg_regs (s : State) (o : Nat) (v : W64) : (s.setReg o v).regs = FMap.set regReset s.regs o v := rfl

@[simp] theorem State.setRfld_frame (s : State) (off lo w x : Nat) :
    (s.setRfld off lo w x).pending = s.pending ∧ (s.setRfld off lo w x).free = s.free ∧ (s.setRfld off lo w x).out = s.out ∧
    (s.setRfld off lo w x).boot = s.boot ∧ (s.setRfld off lo w x).tick = s.tick ∧ (s.setRfld off lo w x).win = s.win ∧
    (s.setRfld off lo w x).gap = s.gap ∧ (s.setRfld off lo w x).regPend = s.regPend ∧
    (s.setRfld off lo w x).cores = s.cores ∧ (s.setRfld off lo w x).cluster = s.cluster ∧
    (s.setRfld off lo w x).tun = s.tun ∧ (s.setRfld off lo w x).tunBufs = s.tunBufs ∧
    (s.setRfld off lo w x).tunMin = s.tunMin ∧ (s.setRfld off lo w x).tunMinPend = s.tunMinPend ∧
    (s.setRfld off lo w x).sramErr = s.sramErr ∧ (s.setRfld off lo w x).heldBack = s.heldBack ∧
    (s.setRfld off lo w x).rtHit = s.rtHit ∧ (s.setRfld off lo w x).rtClock = s.rtClock ∧
    (s.setRfld off lo w x).rtUntracked = s.rtUntracked ∧ (s.setRfld off lo w x).dram = s.dram ∧
    (s.setRfld off lo w x).dr = s.dr ∧ (s.setRfld off lo w x).poison = s.poison ∧
    (s.setRfld off lo w x).ingot = s.ingot ∧ (s.setRfld off lo w x).nor = s.nor ∧
    (s.setRfld off lo w x).norUnk = s.norUnk ∧ (s.setRfld off lo w x).pat = s.pat ∧
    (s.setRfld off lo w x).tdly = s.tdly ∧ (s.setRfld off lo w x).scrub = s.scrub ∧
    (s.setRfld off lo w x).fbuf = s.fbuf ∧ (s.setRfld off lo w x).rings = s.rings ∧ (s.setRfld off lo w x).haz = s.haz ∧
    (s.setRfld off lo w x).marks = s.marks ∧ (s.setRfld off lo w x).wsnFloor = s.wsnFloor ∧
    (s.setRfld off lo w x).health = s.health ∧ (s.setRfld off lo w x).qPend = s.qPend ∧
    (s.setRfld off lo w x).reqs = s.reqs ∧ (s.setRfld off lo w x).aborts = s.aborts ∧
    (s.setRfld off lo w x).gateShut = s.gateShut ∧ (s.setRfld off lo w x).sqs = s.sqs ∧
    (s.setRfld off lo w x).cqs = s.cqs ∧ (s.setRfld off lo w x).cmds = s.cmds ∧
    (s.setRfld off lo w x).resets = s.resets ∧ (s.setRfld off lo w x).ctrls = s.ctrls ∧
    (s.setRfld off lo w x).arbs = s.arbs ∧ (s.setRfld off lo w x).credit = s.credit ∧
    (s.setRfld off lo w x).taken = s.taken ∧ (s.setRfld off lo w x).fetchLeft = s.fetchLeft ∧
    (s.setRfld off lo w x).rotLast = s.rotLast ∧ (s.setRfld off lo w x).rotFirst = s.rotFirst ∧
    (s.setRfld off lo w x).hazStall = s.hazStall ∧ (s.setRfld off lo w x).span = s.span ∧
    (s.setRfld off lo w x).spanOut = s.spanOut ∧ (s.setRfld off lo w x).spanIn = s.spanIn ∧
    (s.setRfld off lo w x).resOut = s.resOut ∧ (s.setRfld off lo w x).jobs = s.jobs ∧
    (s.setRfld off lo w x).finishing = s.finishing ∧ (s.setRfld off lo w x).greads = s.greads ∧
    (s.setRfld off lo w x).spanNum = s.spanNum ∧ (s.setRfld off lo w x).spanArr = s.spanArr ∧
    (s.setRfld off lo w x).dups = s.dups ∧ (s.setRfld off lo w x).dupGen = s.dupGen ∧
    (s.setRfld off lo w x).rlogPos = s.rlogPos ∧ (s.setRfld off lo w x).members = s.members ∧
    (s.setRfld off lo w x).peerVia = s.peerVia ∧ (s.setRfld off lo w x).groups = s.groups ∧
    (s.setRfld off lo w x).peerBound = s.peerBound ∧ (s.setRfld off lo w x).returned = s.returned ∧
    (s.setRfld off lo w x).lostRanges = s.lostRanges ∧ (s.setRfld off lo w x).wmap = s.wmap ∧
    (s.setRfld off lo w x).wfin = s.wfin ∧ (s.setRfld off lo w x).wheld = s.wheld ∧
    (s.setRfld off lo w x).preserve = s.preserve ∧ (s.setRfld off lo w x).kept = s.kept ∧
    (s.setRfld off lo w x).metaOpen = s.metaOpen ∧ (s.setRfld off lo w x).portA = s.portA ∧
    (s.setRfld off lo w x).restartDue = s.restartDue ∧ (s.setRfld off lo w x).pings = s.pings ∧
    (s.setRfld off lo w x).chain = s.chain ∧ (s.setRfld off lo w x).position = s.position ∧
    (s.setRfld off lo w x).power = s.power ∧ (s.setRfld off lo w x).powerOp = s.powerOp ∧
    (s.setRfld off lo w x).fsn = s.fsn ∧ (s.setRfld off lo w x).ns = s.ns ∧ (s.setRfld off lo w x).volCap = s.volCap ∧
    (s.setRfld off lo w x).rsv = s.rsv ∧ (s.setRfld off lo w x).tokCount = s.tokCount ∧
    (s.setRfld off lo w x).fullZones = s.fullZones ∧ (s.setRfld off lo w x).fam = s.fam ∧
    (s.setRfld off lo w x).params = s.params ∧ (s.setRfld off lo w x).alm = s.alm ∧
    (s.setRfld off lo w x).domeEntry = s.domeEntry ∧ (s.setRfld off lo w x).domeWake = s.domeWake ∧
    (s.setRfld off lo w x).domeAgreed = s.domeAgreed ∧ (s.setRfld off lo w x).readAt = s.readAt ∧
    (s.setRfld off lo w x).sensorFail = s.sensorFail ∧ (s.setRfld off lo w x).tripCount = s.tripCount ∧
    (s.setRfld off lo w x).rise = s.rise ∧ (s.setRfld off lo w x).stopped = s.stopped ∧
    (s.setRfld off lo w x).coolSince = s.coolSince ∧ (s.setRfld off lo w x).events = s.events ∧
    (s.setRfld off lo w x).dies = s.dies ∧ (s.setRfld off lo w x).chans = s.chans ∧
    (s.setRfld off lo w x).accs = s.accs ∧ (s.setRfld off lo w x).ldpc = s.ldpc ∧ (s.setRfld off lo w x).nand = s.nand ∧
    (s.setRfld off lo w x).blkErased = s.blkErased ∧ (s.setRfld off lo w x).vault = s.vault ∧
    (s.setRfld off lo w x).sessions = s.sessions ∧ (s.setRfld off lo w x).trngRestarts = s.trngRestarts ∧
    (s.setRfld off lo w x).drbgLeft = s.drbgLeft ∧ (s.setRfld off lo w x).imageId = s.imageId ∧
    (s.setRfld off lo w x).verFuses = s.verFuses ∧ (s.setRfld off lo w x).nsInfo = s.nsInfo ∧
    (s.setRfld off lo w x).care = s.care ∧ (s.setRfld off lo w x).history = s.history ∧
    (s.setRfld off lo w x).fw = s.fw ∧ (s.setRfld off lo w x).trust = s.trust ∧ (s.setRfld off lo w x).fdp = s.fdp ∧
    (s.setRfld off lo w x).lostGen = s.lostGen ∧ (s.setRfld off lo w x).lostAgain = s.lostAgain ∧
    (s.setRfld off lo w x).accum = s.accum ∧ (s.setRfld off lo w x).boundSent = s.boundSent ∧
    (s.setRfld off lo w x).zoneUsed = s.zoneUsed ∧ (s.setRfld off lo w x).clean = s.clean :=
  ⟨rfl, rfl, rfl, rfl, rfl, rfl, rfl, rfl, rfl, rfl, rfl, rfl, rfl, rfl, rfl, rfl, rfl, rfl, rfl, rfl, rfl, rfl, rfl,
  rfl, rfl, rfl, rfl, rfl, rfl, rfl, rfl, rfl, rfl, rfl, rfl, rfl, rfl, rfl, rfl, rfl, rfl, rfl, rfl, rfl, rfl, rfl,
  rfl, rfl, rfl, rfl, rfl, rfl, rfl, rfl, rfl, rfl, rfl, rfl, rfl, rfl, rfl, rfl, rfl, rfl, rfl, rfl, rfl, rfl, rfl,
  rfl, rfl, rfl, rfl, rfl, rfl, rfl, rfl, rfl, rfl, rfl, rfl, rfl, rfl, rfl, rfl, rfl, rfl, rfl, rfl, rfl, rfl, rfl,
  rfl, rfl, rfl, rfl, rfl, rfl, rfl, rfl, rfl, rfl, rfl, rfl, rfl, rfl, rfl, rfl, rfl, rfl, rfl, rfl, rfl, rfl, rfl,
  rfl, rfl, rfl, rfl, rfl, rfl, rfl, rfl, rfl⟩

@[simp] theorem State.setRfld_regs (s : State) (off lo w x : Nat) : (s.setRfld off lo w x).regs = FMap.set regReset s.regs off (setFld (s.reg off) lo w x) := rfl

@[simp] theorem State.setCore_frame (s : State) (c : CoreId) (k : Core) :
    (s.setCore c k).pending = s.pending ∧ (s.setCore c k).free = s.free ∧ (s.setCore c k).out = s.out ∧
    (s.setCore c k).boot = s.boot ∧ (s.setCore c k).tick = s.tick ∧ (s.setCore c k).win = s.win ∧
    (s.setCore c k).gap = s.gap ∧ (s.setCore c k).regs = s.regs ∧ (s.setCore c k).regPend = s.regPend ∧
    (s.setCore c k).cluster = s.cluster ∧ (s.setCore c k).tun = s.tun ∧ (s.setCore c k).tunBufs = s.tunBufs ∧
    (s.setCore c k).tunMin = s.tunMin ∧ (s.setCore c k).tunMinPend = s.tunMinPend ∧ (s.setCore c k).sramErr = s.sramErr ∧
    (s.setCore c k).heldBack = s.heldBack ∧ (s.setCore c k).rtHit = s.rtHit ∧ (s.setCore c k).rtClock = s.rtClock ∧
    (s.setCore c k).rtUntracked = s.rtUntracked ∧ (s.setCore c k).dram = s.dram ∧ (s.setCore c k).dr = s.dr ∧
    (s.setCore c k).poison = s.poison ∧ (s.setCore c k).ingot = s.ingot ∧ (s.setCore c k).nor = s.nor ∧
    (s.setCore c k).norUnk = s.norUnk ∧ (s.setCore c k).pat = s.pat ∧ (s.setCore c k).tdly = s.tdly ∧
    (s.setCore c k).scrub = s.scrub ∧ (s.setCore c k).fbuf = s.fbuf ∧ (s.setCore c k).rings = s.rings ∧
    (s.setCore c k).haz = s.haz ∧ (s.setCore c k).marks = s.marks ∧ (s.setCore c k).wsnFloor = s.wsnFloor ∧
    (s.setCore c k).health = s.health ∧ (s.setCore c k).qPend = s.qPend ∧ (s.setCore c k).reqs = s.reqs ∧
    (s.setCore c k).aborts = s.aborts ∧ (s.setCore c k).gateShut = s.gateShut ∧ (s.setCore c k).sqs = s.sqs ∧
    (s.setCore c k).cqs = s.cqs ∧ (s.setCore c k).cmds = s.cmds ∧ (s.setCore c k).resets = s.resets ∧
    (s.setCore c k).ctrls = s.ctrls ∧ (s.setCore c k).arbs = s.arbs ∧ (s.setCore c k).credit = s.credit ∧
    (s.setCore c k).taken = s.taken ∧ (s.setCore c k).fetchLeft = s.fetchLeft ∧ (s.setCore c k).rotLast = s.rotLast ∧
    (s.setCore c k).rotFirst = s.rotFirst ∧ (s.setCore c k).hazStall = s.hazStall ∧ (s.setCore c k).span = s.span ∧
    (s.setCore c k).spanOut = s.spanOut ∧ (s.setCore c k).spanIn = s.spanIn ∧ (s.setCore c k).resOut = s.resOut ∧
    (s.setCore c k).jobs = s.jobs ∧ (s.setCore c k).finishing = s.finishing ∧ (s.setCore c k).greads = s.greads ∧
    (s.setCore c k).spanNum = s.spanNum ∧ (s.setCore c k).spanArr = s.spanArr ∧ (s.setCore c k).dups = s.dups ∧
    (s.setCore c k).dupGen = s.dupGen ∧ (s.setCore c k).rlogPos = s.rlogPos ∧ (s.setCore c k).members = s.members ∧
    (s.setCore c k).peerVia = s.peerVia ∧ (s.setCore c k).groups = s.groups ∧ (s.setCore c k).peerBound = s.peerBound ∧
    (s.setCore c k).returned = s.returned ∧ (s.setCore c k).lostRanges = s.lostRanges ∧ (s.setCore c k).wmap = s.wmap ∧
    (s.setCore c k).wfin = s.wfin ∧ (s.setCore c k).wheld = s.wheld ∧ (s.setCore c k).preserve = s.preserve ∧
    (s.setCore c k).kept = s.kept ∧ (s.setCore c k).metaOpen = s.metaOpen ∧ (s.setCore c k).portA = s.portA ∧
    (s.setCore c k).restartDue = s.restartDue ∧ (s.setCore c k).pings = s.pings ∧ (s.setCore c k).chain = s.chain ∧
    (s.setCore c k).position = s.position ∧ (s.setCore c k).power = s.power ∧ (s.setCore c k).powerOp = s.powerOp ∧
    (s.setCore c k).fsn = s.fsn ∧ (s.setCore c k).ns = s.ns ∧ (s.setCore c k).volCap = s.volCap ∧
    (s.setCore c k).rsv = s.rsv ∧ (s.setCore c k).tokCount = s.tokCount ∧ (s.setCore c k).fullZones = s.fullZones ∧
    (s.setCore c k).fam = s.fam ∧ (s.setCore c k).params = s.params ∧ (s.setCore c k).alm = s.alm ∧
    (s.setCore c k).domeEntry = s.domeEntry ∧ (s.setCore c k).domeWake = s.domeWake ∧
    (s.setCore c k).domeAgreed = s.domeAgreed ∧ (s.setCore c k).readAt = s.readAt ∧
    (s.setCore c k).sensorFail = s.sensorFail ∧ (s.setCore c k).tripCount = s.tripCount ∧ (s.setCore c k).rise = s.rise ∧
    (s.setCore c k).stopped = s.stopped ∧ (s.setCore c k).coolSince = s.coolSince ∧ (s.setCore c k).events = s.events ∧
    (s.setCore c k).dies = s.dies ∧ (s.setCore c k).chans = s.chans ∧ (s.setCore c k).accs = s.accs ∧
    (s.setCore c k).ldpc = s.ldpc ∧ (s.setCore c k).nand = s.nand ∧ (s.setCore c k).blkErased = s.blkErased ∧
    (s.setCore c k).vault = s.vault ∧ (s.setCore c k).sessions = s.sessions ∧
    (s.setCore c k).trngRestarts = s.trngRestarts ∧ (s.setCore c k).drbgLeft = s.drbgLeft ∧
    (s.setCore c k).imageId = s.imageId ∧ (s.setCore c k).verFuses = s.verFuses ∧ (s.setCore c k).nsInfo = s.nsInfo ∧
    (s.setCore c k).care = s.care ∧ (s.setCore c k).history = s.history ∧ (s.setCore c k).fw = s.fw ∧
    (s.setCore c k).trust = s.trust ∧ (s.setCore c k).fdp = s.fdp ∧ (s.setCore c k).lostGen = s.lostGen ∧
    (s.setCore c k).lostAgain = s.lostAgain ∧ (s.setCore c k).accum = s.accum ∧ (s.setCore c k).boundSent = s.boundSent ∧
    (s.setCore c k).zoneUsed = s.zoneUsed ∧ (s.setCore c k).clean = s.clean :=
  ⟨rfl, rfl, rfl, rfl, rfl, rfl, rfl, rfl, rfl, rfl, rfl, rfl, rfl, rfl, rfl, rfl, rfl, rfl, rfl, rfl, rfl, rfl, rfl,
  rfl, rfl, rfl, rfl, rfl, rfl, rfl, rfl, rfl, rfl, rfl, rfl, rfl, rfl, rfl, rfl, rfl, rfl, rfl, rfl, rfl, rfl, rfl,
  rfl, rfl, rfl, rfl, rfl, rfl, rfl, rfl, rfl, rfl, rfl, rfl, rfl, rfl, rfl, rfl, rfl, rfl, rfl, rfl, rfl, rfl, rfl,
  rfl, rfl, rfl, rfl, rfl, rfl, rfl, rfl, rfl, rfl, rfl, rfl, rfl, rfl, rfl, rfl, rfl, rfl, rfl, rfl, rfl, rfl, rfl,
  rfl, rfl, rfl, rfl, rfl, rfl, rfl, rfl, rfl, rfl, rfl, rfl, rfl, rfl, rfl, rfl, rfl, rfl, rfl, rfl, rfl, rfl, rfl,
  rfl, rfl, rfl, rfl, rfl, rfl, rfl, rfl, rfl⟩

@[simp] theorem State.setCore_cores (s : State) (c : CoreId) (k : Core) : (s.setCore c k).cores = FMap.set (fun _ => Core.reset) s.cores c.toNat k := rfl

@[simp] theorem State.setChan_frame (s : State) (ch : Nat) (x : Chan) :
    (s.setChan ch x).pending = s.pending ∧ (s.setChan ch x).free = s.free ∧ (s.setChan ch x).out = s.out ∧
    (s.setChan ch x).boot = s.boot ∧ (s.setChan ch x).tick = s.tick ∧ (s.setChan ch x).win = s.win ∧
    (s.setChan ch x).gap = s.gap ∧ (s.setChan ch x).regs = s.regs ∧ (s.setChan ch x).regPend = s.regPend ∧
    (s.setChan ch x).cores = s.cores ∧ (s.setChan ch x).cluster = s.cluster ∧ (s.setChan ch x).tun = s.tun ∧
    (s.setChan ch x).tunBufs = s.tunBufs ∧ (s.setChan ch x).tunMin = s.tunMin ∧
    (s.setChan ch x).tunMinPend = s.tunMinPend ∧ (s.setChan ch x).sramErr = s.sramErr ∧
    (s.setChan ch x).heldBack = s.heldBack ∧ (s.setChan ch x).rtHit = s.rtHit ∧ (s.setChan ch x).rtClock = s.rtClock ∧
    (s.setChan ch x).rtUntracked = s.rtUntracked ∧ (s.setChan ch x).dram = s.dram ∧ (s.setChan ch x).dr = s.dr ∧
    (s.setChan ch x).poison = s.poison ∧ (s.setChan ch x).ingot = s.ingot ∧ (s.setChan ch x).nor = s.nor ∧
    (s.setChan ch x).norUnk = s.norUnk ∧ (s.setChan ch x).pat = s.pat ∧ (s.setChan ch x).tdly = s.tdly ∧
    (s.setChan ch x).scrub = s.scrub ∧ (s.setChan ch x).fbuf = s.fbuf ∧ (s.setChan ch x).rings = s.rings ∧
    (s.setChan ch x).haz = s.haz ∧ (s.setChan ch x).marks = s.marks ∧ (s.setChan ch x).wsnFloor = s.wsnFloor ∧
    (s.setChan ch x).health = s.health ∧ (s.setChan ch x).qPend = s.qPend ∧ (s.setChan ch x).reqs = s.reqs ∧
    (s.setChan ch x).aborts = s.aborts ∧ (s.setChan ch x).gateShut = s.gateShut ∧ (s.setChan ch x).sqs = s.sqs ∧
    (s.setChan ch x).cqs = s.cqs ∧ (s.setChan ch x).cmds = s.cmds ∧ (s.setChan ch x).resets = s.resets ∧
    (s.setChan ch x).ctrls = s.ctrls ∧ (s.setChan ch x).arbs = s.arbs ∧ (s.setChan ch x).credit = s.credit ∧
    (s.setChan ch x).taken = s.taken ∧ (s.setChan ch x).fetchLeft = s.fetchLeft ∧ (s.setChan ch x).rotLast = s.rotLast ∧
    (s.setChan ch x).rotFirst = s.rotFirst ∧ (s.setChan ch x).hazStall = s.hazStall ∧ (s.setChan ch x).span = s.span ∧
    (s.setChan ch x).spanOut = s.spanOut ∧ (s.setChan ch x).spanIn = s.spanIn ∧ (s.setChan ch x).resOut = s.resOut ∧
    (s.setChan ch x).jobs = s.jobs ∧ (s.setChan ch x).finishing = s.finishing ∧ (s.setChan ch x).greads = s.greads ∧
    (s.setChan ch x).spanNum = s.spanNum ∧ (s.setChan ch x).spanArr = s.spanArr ∧ (s.setChan ch x).dups = s.dups ∧
    (s.setChan ch x).dupGen = s.dupGen ∧ (s.setChan ch x).rlogPos = s.rlogPos ∧ (s.setChan ch x).members = s.members ∧
    (s.setChan ch x).peerVia = s.peerVia ∧ (s.setChan ch x).groups = s.groups ∧
    (s.setChan ch x).peerBound = s.peerBound ∧ (s.setChan ch x).returned = s.returned ∧
    (s.setChan ch x).lostRanges = s.lostRanges ∧ (s.setChan ch x).wmap = s.wmap ∧ (s.setChan ch x).wfin = s.wfin ∧
    (s.setChan ch x).wheld = s.wheld ∧ (s.setChan ch x).preserve = s.preserve ∧ (s.setChan ch x).kept = s.kept ∧
    (s.setChan ch x).metaOpen = s.metaOpen ∧ (s.setChan ch x).portA = s.portA ∧
    (s.setChan ch x).restartDue = s.restartDue ∧ (s.setChan ch x).pings = s.pings ∧ (s.setChan ch x).chain = s.chain ∧
    (s.setChan ch x).position = s.position ∧ (s.setChan ch x).power = s.power ∧ (s.setChan ch x).powerOp = s.powerOp ∧
    (s.setChan ch x).fsn = s.fsn ∧ (s.setChan ch x).ns = s.ns ∧ (s.setChan ch x).volCap = s.volCap ∧
    (s.setChan ch x).rsv = s.rsv ∧ (s.setChan ch x).tokCount = s.tokCount ∧ (s.setChan ch x).fullZones = s.fullZones ∧
    (s.setChan ch x).fam = s.fam ∧ (s.setChan ch x).params = s.params ∧ (s.setChan ch x).alm = s.alm ∧
    (s.setChan ch x).domeEntry = s.domeEntry ∧ (s.setChan ch x).domeWake = s.domeWake ∧
    (s.setChan ch x).domeAgreed = s.domeAgreed ∧ (s.setChan ch x).readAt = s.readAt ∧
    (s.setChan ch x).sensorFail = s.sensorFail ∧ (s.setChan ch x).tripCount = s.tripCount ∧
    (s.setChan ch x).rise = s.rise ∧ (s.setChan ch x).stopped = s.stopped ∧ (s.setChan ch x).coolSince = s.coolSince ∧
    (s.setChan ch x).events = s.events ∧ (s.setChan ch x).dies = s.dies ∧ (s.setChan ch x).accs = s.accs ∧
    (s.setChan ch x).ldpc = s.ldpc ∧ (s.setChan ch x).nand = s.nand ∧ (s.setChan ch x).blkErased = s.blkErased ∧
    (s.setChan ch x).vault = s.vault ∧ (s.setChan ch x).sessions = s.sessions ∧
    (s.setChan ch x).trngRestarts = s.trngRestarts ∧ (s.setChan ch x).drbgLeft = s.drbgLeft ∧
    (s.setChan ch x).imageId = s.imageId ∧ (s.setChan ch x).verFuses = s.verFuses ∧ (s.setChan ch x).nsInfo = s.nsInfo ∧
    (s.setChan ch x).care = s.care ∧ (s.setChan ch x).history = s.history ∧ (s.setChan ch x).fw = s.fw ∧
    (s.setChan ch x).trust = s.trust ∧ (s.setChan ch x).fdp = s.fdp ∧ (s.setChan ch x).lostGen = s.lostGen ∧
    (s.setChan ch x).lostAgain = s.lostAgain ∧ (s.setChan ch x).accum = s.accum ∧
    (s.setChan ch x).boundSent = s.boundSent ∧ (s.setChan ch x).zoneUsed = s.zoneUsed ∧
    (s.setChan ch x).clean = s.clean :=
  ⟨rfl, rfl, rfl, rfl, rfl, rfl, rfl, rfl, rfl, rfl, rfl, rfl, rfl, rfl, rfl, rfl, rfl, rfl, rfl, rfl, rfl, rfl, rfl,
  rfl, rfl, rfl, rfl, rfl, rfl, rfl, rfl, rfl, rfl, rfl, rfl, rfl, rfl, rfl, rfl, rfl, rfl, rfl, rfl, rfl, rfl, rfl,
  rfl, rfl, rfl, rfl, rfl, rfl, rfl, rfl, rfl, rfl, rfl, rfl, rfl, rfl, rfl, rfl, rfl, rfl, rfl, rfl, rfl, rfl, rfl,
  rfl, rfl, rfl, rfl, rfl, rfl, rfl, rfl, rfl, rfl, rfl, rfl, rfl, rfl, rfl, rfl, rfl, rfl, rfl, rfl, rfl, rfl, rfl,
  rfl, rfl, rfl, rfl, rfl, rfl, rfl, rfl, rfl, rfl, rfl, rfl, rfl, rfl, rfl, rfl, rfl, rfl, rfl, rfl, rfl, rfl, rfl,
  rfl, rfl, rfl, rfl, rfl, rfl, rfl, rfl, rfl⟩

@[simp] theorem State.setChan_chans (s : State) (ch : Nat) (x : Chan) : (s.setChan ch x).chans = FMap.set chanReset s.chans ch x := rfl

@[simp] theorem State.takeFree_snd_frame (s : State) :
    (s.takeFree.2).pending = s.pending ∧ (s.takeFree.2).out = s.out ∧ (s.takeFree.2).boot = s.boot ∧
    (s.takeFree.2).tick = s.tick ∧ (s.takeFree.2).win = s.win ∧ (s.takeFree.2).gap = s.gap ∧
    (s.takeFree.2).regs = s.regs ∧ (s.takeFree.2).regPend = s.regPend ∧ (s.takeFree.2).cores = s.cores ∧
    (s.takeFree.2).cluster = s.cluster ∧ (s.takeFree.2).tun = s.tun ∧ (s.takeFree.2).tunBufs = s.tunBufs ∧
    (s.takeFree.2).tunMin = s.tunMin ∧ (s.takeFree.2).tunMinPend = s.tunMinPend ∧ (s.takeFree.2).sramErr = s.sramErr ∧
    (s.takeFree.2).heldBack = s.heldBack ∧ (s.takeFree.2).rtHit = s.rtHit ∧ (s.takeFree.2).rtClock = s.rtClock ∧
    (s.takeFree.2).rtUntracked = s.rtUntracked ∧ (s.takeFree.2).dram = s.dram ∧ (s.takeFree.2).dr = s.dr ∧
    (s.takeFree.2).poison = s.poison ∧ (s.takeFree.2).ingot = s.ingot ∧ (s.takeFree.2).nor = s.nor ∧
    (s.takeFree.2).norUnk = s.norUnk ∧ (s.takeFree.2).pat = s.pat ∧ (s.takeFree.2).tdly = s.tdly ∧
    (s.takeFree.2).scrub = s.scrub ∧ (s.takeFree.2).fbuf = s.fbuf ∧ (s.takeFree.2).rings = s.rings ∧
    (s.takeFree.2).haz = s.haz ∧ (s.takeFree.2).marks = s.marks ∧ (s.takeFree.2).wsnFloor = s.wsnFloor ∧
    (s.takeFree.2).health = s.health ∧ (s.takeFree.2).qPend = s.qPend ∧ (s.takeFree.2).reqs = s.reqs ∧
    (s.takeFree.2).aborts = s.aborts ∧ (s.takeFree.2).gateShut = s.gateShut ∧ (s.takeFree.2).sqs = s.sqs ∧
    (s.takeFree.2).cqs = s.cqs ∧ (s.takeFree.2).cmds = s.cmds ∧ (s.takeFree.2).resets = s.resets ∧
    (s.takeFree.2).ctrls = s.ctrls ∧ (s.takeFree.2).arbs = s.arbs ∧ (s.takeFree.2).credit = s.credit ∧
    (s.takeFree.2).taken = s.taken ∧ (s.takeFree.2).fetchLeft = s.fetchLeft ∧ (s.takeFree.2).rotLast = s.rotLast ∧
    (s.takeFree.2).rotFirst = s.rotFirst ∧ (s.takeFree.2).hazStall = s.hazStall ∧ (s.takeFree.2).span = s.span ∧
    (s.takeFree.2).spanOut = s.spanOut ∧ (s.takeFree.2).spanIn = s.spanIn ∧ (s.takeFree.2).resOut = s.resOut ∧
    (s.takeFree.2).jobs = s.jobs ∧ (s.takeFree.2).finishing = s.finishing ∧ (s.takeFree.2).greads = s.greads ∧
    (s.takeFree.2).spanNum = s.spanNum ∧ (s.takeFree.2).spanArr = s.spanArr ∧ (s.takeFree.2).dups = s.dups ∧
    (s.takeFree.2).dupGen = s.dupGen ∧ (s.takeFree.2).rlogPos = s.rlogPos ∧ (s.takeFree.2).members = s.members ∧
    (s.takeFree.2).peerVia = s.peerVia ∧ (s.takeFree.2).groups = s.groups ∧ (s.takeFree.2).peerBound = s.peerBound ∧
    (s.takeFree.2).returned = s.returned ∧ (s.takeFree.2).lostRanges = s.lostRanges ∧ (s.takeFree.2).wmap = s.wmap ∧
    (s.takeFree.2).wfin = s.wfin ∧ (s.takeFree.2).wheld = s.wheld ∧ (s.takeFree.2).preserve = s.preserve ∧
    (s.takeFree.2).kept = s.kept ∧ (s.takeFree.2).metaOpen = s.metaOpen ∧ (s.takeFree.2).portA = s.portA ∧
    (s.takeFree.2).restartDue = s.restartDue ∧ (s.takeFree.2).pings = s.pings ∧ (s.takeFree.2).chain = s.chain ∧
    (s.takeFree.2).position = s.position ∧ (s.takeFree.2).power = s.power ∧ (s.takeFree.2).powerOp = s.powerOp ∧
    (s.takeFree.2).fsn = s.fsn ∧ (s.takeFree.2).ns = s.ns ∧ (s.takeFree.2).volCap = s.volCap ∧
    (s.takeFree.2).rsv = s.rsv ∧ (s.takeFree.2).tokCount = s.tokCount ∧ (s.takeFree.2).fullZones = s.fullZones ∧
    (s.takeFree.2).fam = s.fam ∧ (s.takeFree.2).params = s.params ∧ (s.takeFree.2).alm = s.alm ∧
    (s.takeFree.2).domeEntry = s.domeEntry ∧ (s.takeFree.2).domeWake = s.domeWake ∧
    (s.takeFree.2).domeAgreed = s.domeAgreed ∧ (s.takeFree.2).readAt = s.readAt ∧
    (s.takeFree.2).sensorFail = s.sensorFail ∧ (s.takeFree.2).tripCount = s.tripCount ∧ (s.takeFree.2).rise = s.rise ∧
    (s.takeFree.2).stopped = s.stopped ∧ (s.takeFree.2).coolSince = s.coolSince ∧ (s.takeFree.2).events = s.events ∧
    (s.takeFree.2).dies = s.dies ∧ (s.takeFree.2).chans = s.chans ∧ (s.takeFree.2).accs = s.accs ∧
    (s.takeFree.2).ldpc = s.ldpc ∧ (s.takeFree.2).nand = s.nand ∧ (s.takeFree.2).blkErased = s.blkErased ∧
    (s.takeFree.2).vault = s.vault ∧ (s.takeFree.2).sessions = s.sessions ∧
    (s.takeFree.2).trngRestarts = s.trngRestarts ∧ (s.takeFree.2).drbgLeft = s.drbgLeft ∧
    (s.takeFree.2).imageId = s.imageId ∧ (s.takeFree.2).verFuses = s.verFuses ∧ (s.takeFree.2).nsInfo = s.nsInfo ∧
    (s.takeFree.2).care = s.care ∧ (s.takeFree.2).history = s.history ∧ (s.takeFree.2).fw = s.fw ∧
    (s.takeFree.2).trust = s.trust ∧ (s.takeFree.2).fdp = s.fdp ∧ (s.takeFree.2).lostGen = s.lostGen ∧
    (s.takeFree.2).lostAgain = s.lostAgain ∧ (s.takeFree.2).accum = s.accum ∧ (s.takeFree.2).boundSent = s.boundSent ∧
    (s.takeFree.2).zoneUsed = s.zoneUsed ∧ (s.takeFree.2).clean = s.clean :=
  ⟨rfl, rfl, rfl, rfl, rfl, rfl, rfl, rfl, rfl, rfl, rfl, rfl, rfl, rfl, rfl, rfl, rfl, rfl, rfl, rfl, rfl, rfl, rfl,
  rfl, rfl, rfl, rfl, rfl, rfl, rfl, rfl, rfl, rfl, rfl, rfl, rfl, rfl, rfl, rfl, rfl, rfl, rfl, rfl, rfl, rfl, rfl,
  rfl, rfl, rfl, rfl, rfl, rfl, rfl, rfl, rfl, rfl, rfl, rfl, rfl, rfl, rfl, rfl, rfl, rfl, rfl, rfl, rfl, rfl, rfl,
  rfl, rfl, rfl, rfl, rfl, rfl, rfl, rfl, rfl, rfl, rfl, rfl, rfl, rfl, rfl, rfl, rfl, rfl, rfl, rfl, rfl, rfl, rfl,
  rfl, rfl, rfl, rfl, rfl, rfl, rfl, rfl, rfl, rfl, rfl, rfl, rfl, rfl, rfl, rfl, rfl, rfl, rfl, rfl, rfl, rfl, rfl,
  rfl, rfl, rfl, rfl, rfl, rfl, rfl, rfl, rfl⟩

@[simp] theorem State.takeFree_snd_free (s : State) : (s.takeFree.2).free = s.free + 1 := rfl

@[simp] theorem State.takeFree_fst (s : State) : s.takeFree.1 = Config.freeWord s.free := rfl

/-! ## Reading back what an update wrote -/

theorem State.reg_setReg (s : State) (o p : Nat) (v : W64) : (s.setReg o v).reg p = if p = o then v else s.reg p :=
  FMap.get_set s.regs o p v

@[simp] theorem State.reg_setReg_self (s : State) (o : Nat) (v : W64) : (s.setReg o v).reg o = v := by
  rw [State.reg_setReg, if_pos rfl]

theorem State.reg_setReg_ne (s : State) {o p : Nat} (v : W64) (h : p ≠ o) : (s.setReg o v).reg p = s.reg p := by
  rw [State.reg_setReg, if_neg h]

theorem State.core_setCore (s : State) (c e : CoreId) (k : Core) : (s.setCore c k).core e = if e = c then k else s.core e := by
  have h : (s.setCore c k).core e = if e.toNat = c.toNat then k else s.core e := FMap.get_set s.cores c.toNat e.toNat k
  rw [h]
  by_cases he : e = c
  · rw [if_pos he, if_pos (by rw [he])]
  · rw [if_neg he, if_neg (fun x => he (BitVec.eq_of_toNat_eq x))]

@[simp] theorem State.core_setCore_self (s : State) (c : CoreId) (k : Core) : (s.setCore c k).core c = k := by
  rw [State.core_setCore, if_pos rfl]

theorem State.core_setCore_ne (s : State) {c e : CoreId} (k : Core) (h : e ≠ c) : (s.setCore c k).core e = s.core e := by
  rw [State.core_setCore, if_neg h]

@[simp] theorem State.core_setReg (s : State) (o : Nat) (v : W64) (c : CoreId) : (s.setReg o v).core c = s.core c := rfl

@[simp] theorem State.reg_setCore (s : State) (c : CoreId) (k : Core) (o : Nat) : (s.setCore c k).reg o = s.reg o := rfl

theorem State.chan_setChan (s : State) (a b : Nat) (x : Chan) : (s.setChan a x).chan b = if b = a then x else s.chan b :=
  FMap.get_set s.chans a b x

@[simp] theorem State.chan_setChan_self (s : State) (a : Nat) (x : Chan) : (s.setChan a x).chan a = x := by
  rw [State.chan_setChan, if_pos rfl]

theorem State.ctrl_setCtrl (s : State) (f g : Nat) (c : Ctrl) : (s.setCtrl f c).ctrl g = if g = f then c else s.ctrl g :=
  FMap.get_set s.ctrls f g c

@[simp] theorem State.ctrl_setCtrl_self (s : State) (f : Nat) (c : Ctrl) : (s.setCtrl f c).ctrl f = c := by
  rw [State.ctrl_setCtrl, if_pos rfl]

theorem State.sport_setSport (s : State) (p q : Nat) (x : SpanPort) : (s.setSport p x).sport q = if q = p then x else s.sport q :=
  FMap.get_set s.span p q x

@[simp] theorem State.sport_setSport_self (s : State) (p : Nat) (x : SpanPort) : (s.setSport p x).sport p = x := by
  rw [State.sport_setSport, if_pos rfl]

theorem State.ringAt_setRing (s : State) (i j : Nat) (r : RingQ) : (s.setRing i r).ringAt j = if j = i then r else s.ringAt j :=
  FMap.get_set s.rings i j r

theorem State.sq_setSq (s : State) (q r : Nat) (x : Option SQ) : (s.setSq q x).sq r = if r = q then x else s.sq r :=
  FMap.get_set s.sqs q r x

theorem State.cq_setCq (s : State) (q r : Nat) (x : Option CQ) : (s.setCq q x).cq r = if r = q then x else s.cq r :=
  FMap.get_set s.cqs q r x

theorem State.nsi_setNsi (s : State) (n m : Nat) (x : Option NsInfo) : (s.setNsi n x).nsi m = if m = n then x else s.nsi m :=
  FMap.get_set s.nsInfo n m x

theorem State.member_setMember (s : State) (m n : Nat) (x : Option Member) :
    (s.setMember m x).member n = if n = m then x else s.member n :=
  FMap.get_set s.members m n x

/-! ## A core's registers and charges -/

@[simp] theorem Core.getG_zero (k : Core) : k.getG 0 = 0 := rfl

/-- A general register written reads back, but for g0, which a write leaves at 0 (R55). -/
theorem Core.getG_setG (k : Core) (a b : GReg) (v : W64) :
    (k.setG a v).getG b = if b = a ∧ a ≠ 0 then v else k.getG b := by
  by_cases ha : a = 0
  · rw [if_neg (fun h => h.2 ha), Core.setG, if_pos ha]
  · rw [Core.setG, if_neg ha]
    unfold Core.getG
    by_cases hb : b = 0
    · rw [if_pos hb, if_neg (fun h : b = a ∧ a ≠ 0 => ha (h.1.symm.trans hb)), if_pos hb]
    · rw [if_neg hb, if_neg hb]
      by_cases h : b = a
      · rw [if_pos ⟨h, ha⟩, h]
        exact FMap.get_set_self _ _ _
      · rw [if_neg (fun x => h x.1)]
        exact FMap.get_set_ne _ _ (fun e => h (BitVec.eq_of_toNat_eq e))

theorem Core.getT_setT (k : Core) (i j : Nat) (v : BitVec 256) : (k.setT i v).getT j = if j = i then v else k.getT j :=
  FMap.get_set k.t i j v

@[simp] theorem Core.setG_frame (k : Core) (a : GReg) (v : W64) :
    (k.setG a v).t = k.t ∧ (k.setG a v).oc = k.oc ∧ (k.setG a v).pc = k.pc ∧ (k.setG a v).calls = k.calls ∧
    (k.setG a v).loops = k.loops ∧ (k.setG a v).act = k.act ∧ (k.setG a v).cycles = k.cycles ∧
    (k.setG a v).used = k.used ∧ (k.setG a v).nextSlot = k.nextSlot ∧ (k.setG a v).cut = k.cut ∧
    (k.setG a v).startPending = k.startPending ∧ (k.setG a v).data = k.data ∧ (k.setG a v).bankA = k.bankA ∧
    (k.setG a v).bankB = k.bankB ∧ (k.setG a v).ephA = k.ephA ∧ (k.setG a v).ephB = k.ephB ∧
    (k.setG a v).actBank = k.actBank ∧ (k.setG a v).state = k.state ∧ (k.setG a v).run = k.run ∧
    (k.setG a v).swap = k.swap ∧ (k.setG a v).ring = k.ring ∧ (k.setG a v).classQ = k.classQ ∧
    (k.setG a v).waiting = k.waiting ∧ (k.setG a v).fetchEv = k.fetchEv ∧ (k.setG a v).credits = k.credits ∧
    (k.setG a v).p0 = k.p0 ∧ (k.setG a v).hostcap = k.hostcap ∧ (k.setG a v).faultEntry = k.faultEntry ∧
    (k.setG a v).chk = k.chk ∧ (k.setG a v).chkPend = k.chkPend ∧ (k.setG a v).nchk = k.nchk ∧
    (k.setG a v).nfault = k.nfault ∧ (k.setG a v).nstart = k.nstart ∧ (k.setG a v).peak = k.peak ∧
    (k.setG a v).defer = k.defer ∧ (k.setG a v).ovr = k.ovr ∧ (k.setG a v).bex = k.bex ∧
    (k.setG a v).lastSlot = k.lastSlot ∧ (k.setG a v).startCut = k.startCut := by
  unfold Core.setG
  split
  · exact ⟨rfl, rfl, rfl, rfl, rfl, rfl, rfl, rfl, rfl, rfl, rfl, rfl, rfl, rfl, rfl, rfl, rfl, rfl, rfl, rfl, rfl, rfl,
    rfl, rfl, rfl, rfl, rfl, rfl, rfl, rfl, rfl, rfl, rfl, rfl, rfl, rfl, rfl, rfl, rfl⟩
  · exact ⟨rfl, rfl, rfl, rfl, rfl, rfl, rfl, rfl, rfl, rfl, rfl, rfl, rfl, rfl, rfl, rfl, rfl, rfl, rfl, rfl, rfl, rfl,
    rfl, rfl, rfl, rfl, rfl, rfl, rfl, rfl, rfl, rfl, rfl, rfl, rfl, rfl, rfl, rfl, rfl⟩

@[simp] theorem Core.setT_frame (k : Core) (i : Nat) (v : BitVec 256) :
    (k.setT i v).g = k.g ∧ (k.setT i v).oc = k.oc ∧ (k.setT i v).pc = k.pc ∧ (k.setT i v).calls = k.calls ∧
    (k.setT i v).loops = k.loops ∧ (k.setT i v).act = k.act ∧ (k.setT i v).cycles = k.cycles ∧
    (k.setT i v).used = k.used ∧ (k.setT i v).nextSlot = k.nextSlot ∧ (k.setT i v).cut = k.cut ∧
    (k.setT i v).startPending = k.startPending ∧ (k.setT i v).data = k.data ∧ (k.setT i v).bankA = k.bankA ∧
    (k.setT i v).bankB = k.bankB ∧ (k.setT i v).ephA = k.ephA ∧ (k.setT i v).ephB = k.ephB ∧
    (k.setT i v).actBank = k.actBank ∧ (k.setT i v).state = k.state ∧ (k.setT i v).run = k.run ∧
    (k.setT i v).swap = k.swap ∧ (k.setT i v).ring = k.ring ∧ (k.setT i v).classQ = k.classQ ∧
    (k.setT i v).waiting = k.waiting ∧ (k.setT i v).fetchEv = k.fetchEv ∧ (k.setT i v).credits = k.credits ∧
    (k.setT i v).p0 = k.p0 ∧ (k.setT i v).hostcap = k.hostcap ∧ (k.setT i v).faultEntry = k.faultEntry ∧
    (k.setT i v).chk = k.chk ∧ (k.setT i v).chkPend = k.chkPend ∧ (k.setT i v).nchk = k.nchk ∧
    (k.setT i v).nfault = k.nfault ∧ (k.setT i v).nstart = k.nstart ∧ (k.setT i v).peak = k.peak ∧
    (k.setT i v).defer = k.defer ∧ (k.setT i v).ovr = k.ovr ∧ (k.setT i v).bex = k.bex ∧
    (k.setT i v).lastSlot = k.lastSlot ∧ (k.setT i v).startCut = k.startCut := by
  exact ⟨rfl, rfl, rfl, rfl, rfl, rfl, rfl, rfl, rfl, rfl, rfl, rfl, rfl, rfl, rfl, rfl, rfl, rfl, rfl, rfl, rfl, rfl,
    rfl, rfl, rfl, rfl, rfl, rfl, rfl, rfl, rfl, rfl, rfl, rfl, rfl, rfl, rfl, rfl, rfl⟩

@[simp] theorem Core.charge_frame (k : Core) (n : Nat) :
    (k.charge n).g = k.g ∧ (k.charge n).t = k.t ∧ (k.charge n).oc = k.oc ∧ (k.charge n).pc = k.pc ∧
    (k.charge n).calls = k.calls ∧ (k.charge n).loops = k.loops ∧ (k.charge n).act = k.act ∧
    (k.charge n).nextSlot = k.nextSlot ∧ (k.charge n).cut = k.cut ∧ (k.charge n).startPending = k.startPending ∧
    (k.charge n).data = k.data ∧ (k.charge n).bankA = k.bankA ∧ (k.charge n).bankB = k.bankB ∧
    (k.charge n).ephA = k.ephA ∧ (k.charge n).ephB = k.ephB ∧ (k.charge n).actBank = k.actBank ∧
    (k.charge n).state = k.state ∧ (k.charge n).run = k.run ∧ (k.charge n).swap = k.swap ∧ (k.charge n).ring = k.ring ∧
    (k.charge n).classQ = k.classQ ∧ (k.charge n).waiting = k.waiting ∧ (k.charge n).fetchEv = k.fetchEv ∧
    (k.charge n).credits = k.credits ∧ (k.charge n).p0 = k.p0 ∧ (k.charge n).hostcap = k.hostcap ∧
    (k.charge n).faultEntry = k.faultEntry ∧ (k.charge n).chk = k.chk ∧ (k.charge n).chkPend = k.chkPend ∧
    (k.charge n).nchk = k.nchk ∧ (k.charge n).nfault = k.nfault ∧ (k.charge n).nstart = k.nstart ∧
    (k.charge n).defer = k.defer ∧ (k.charge n).ovr = k.ovr ∧ (k.charge n).bex = k.bex ∧
    (k.charge n).lastSlot = k.lastSlot ∧ (k.charge n).startCut = k.startCut := by
  unfold Core.charge
  split
  · exact ⟨rfl, rfl, rfl, rfl, rfl, rfl, rfl, rfl, rfl, rfl, rfl, rfl, rfl, rfl, rfl, rfl, rfl, rfl, rfl, rfl, rfl, rfl,
    rfl, rfl, rfl, rfl, rfl, rfl, rfl, rfl, rfl, rfl, rfl, rfl, rfl, rfl, rfl⟩
  · exact ⟨rfl, rfl, rfl, rfl, rfl, rfl, rfl, rfl, rfl, rfl, rfl, rfl, rfl, rfl, rfl, rfl, rfl, rfl, rfl, rfl, rfl, rfl,
    rfl, rfl, rfl, rfl, rfl, rfl, rfl, rfl, rfl, rfl, rfl, rfl, rfl, rfl, rfl⟩

@[simp] theorem Core.advance_frame (k : Core) :
    (k.advance).g = k.g ∧ (k.advance).t = k.t ∧ (k.advance).oc = k.oc ∧ (k.advance).calls = k.calls ∧
    (k.advance).act = k.act ∧ (k.advance).cycles = k.cycles ∧ (k.advance).used = k.used ∧
    (k.advance).nextSlot = k.nextSlot ∧ (k.advance).cut = k.cut ∧ (k.advance).startPending = k.startPending ∧
    (k.advance).data = k.data ∧ (k.advance).bankA = k.bankA ∧ (k.advance).bankB = k.bankB ∧ (k.advance).ephA = k.ephA ∧
    (k.advance).ephB = k.ephB ∧ (k.advance).actBank = k.actBank ∧ (k.advance).state = k.state ∧ (k.advance).run = k.run ∧
    (k.advance).swap = k.swap ∧ (k.advance).ring = k.ring ∧ (k.advance).classQ = k.classQ ∧
    (k.advance).waiting = k.waiting ∧ (k.advance).fetchEv = k.fetchEv ∧ (k.advance).credits = k.credits ∧
    (k.advance).p0 = k.p0 ∧ (k.advance).hostcap = k.hostcap ∧ (k.advance).faultEntry = k.faultEntry ∧
    (k.advance).chk = k.chk ∧ (k.advance).chkPend = k.chkPend ∧ (k.advance).nchk = k.nchk ∧
    (k.advance).nfault = k.nfault ∧ (k.advance).nstart = k.nstart ∧ (k.advance).peak = k.peak ∧
    (k.advance).defer = k.defer ∧ (k.advance).ovr = k.ovr ∧ (k.advance).bex = k.bex ∧ (k.advance).lastSlot = k.lastSlot ∧
    (k.advance).startCut = k.startCut := by
  unfold Core.advance
  repeat' split
  all_goals exact ⟨rfl, rfl, rfl, rfl, rfl, rfl, rfl, rfl, rfl, rfl, rfl, rfl, rfl, rfl, rfl, rfl, rfl, rfl, rfl, rfl,
    rfl, rfl, rfl, rfl, rfl, rfl, rfl, rfl, rfl, rfl, rfl, rfl, rfl, rfl, rfl, rfl, rfl, rfl⟩

@[simp] theorem Core.charge_cycles (k : Core) (n : Nat) : (k.charge n).cycles = k.cycles + n := by
  unfold Core.charge; split <;> rfl

/-- Outside an open loop's last word, the next word follows (R70). -/
theorem Core.advance_pc (k : Core) (h : k.openLoop = none) : k.advance.pc = k.pc + 1 := by
  unfold Core.advance; rw [h]

end Sys2Proof.Machine
end

