-- ==== Sys2Proof/Laws/Memory.lean ====
section
/-! SUPPORT. Laws of the memories: every write keeps the canonical form, and what a read answers after a write. -/

namespace Sys2Proof.Machine

/-- The memories at reset are in canonical form. -/
theorem reset_memWf : State.reset.memWf = true := by decide

theorem wf_wrBytes (m : FMap Byte) (a : Nat) (bs : List Byte) (h : FMap.wf zeroByte m = true) :
    FMap.wf zeroByte (wrBytes m a bs) = true :=
  FMap.wf_setList bs m a h

theorem wf_wrNum (m : FMap Byte) (a n v : Nat) (h : FMap.wf zeroByte m = true) : FMap.wf zeroByte (wrNum m a n v) = true :=
  wf_wrBytes m a _ h

theorem wf_wrWords (ws : List W64) : ∀ (m : FMap Byte) (a : Nat), FMap.wf zeroByte m = true →
    FMap.wf zeroByte (wrWords m a ws) = true := by
  induction ws with
  | nil => intro m a h; exact h
  | cons w ws ih => intro m a h; exact ih _ _ (wf_wrNum m a 8 w.toNat h)

/-- Bytes written read back. -/
theorem rdBytes_wrBytes (m : FMap Byte) (a : Nat) (bs : List Byte) : rdBytes (wrBytes m a bs) a bs.length = bs :=
  FMap.getList_setList m a bs

/-- Bytes outside a write read as before. -/
theorem rdBytes_wrBytes_out (m : FMap Byte) (a b n : Nat) (bs : List Byte) (h : b + n ≤ a ∨ a + bs.length ≤ b) :
    rdBytes (wrBytes m a bs) b n = rdBytes m b n :=
  FMap.getList_setList_out m a b n bs h

@[simp] theorem rdBytes_length (m : FMap Byte) (a n : Nat) : (rdBytes m a n).length = n := FMap.length_getList m n a

/-- Repairing SRAM words changes no memory. -/
theorem State.sramWrite_mem (s : State) (arr w n : Nat) :
    (s.sramWrite arr w n).cluster = s.cluster ∧ (s.sramWrite arr w n).tun = s.tun ∧ (s.sramWrite arr w n).dram = s.dram ∧
    (s.sramWrite arr w n).fbuf = s.fbuf ∧ (s.sramWrite arr w n).ingot = s.ingot ∧ (s.sramWrite arr w n).nor = s.nor ∧
    (s.sramWrite arr w n).cores = s.cores ∧ (s.sramWrite arr w n).poison = s.poison := by
  unfold State.sramWrite
  dsimp only
  split <;> simp only [State.putSramErr_frame, State.setReg_frame, and_self]

theorem State.memWf_iff (s : State) : s.memWf = true ↔
    FMap.wf zeroByte s.cluster = true ∧ FMap.wf zeroByte s.tun = true ∧ FMap.wf zeroByte s.dram = true ∧
    FMap.wf zeroByte s.fbuf = true ∧ FMap.wf zeroByte s.ingot = true ∧ FMap.wf norByte s.nor = true := by
  simp only [State.memWf, Bool.and_eq_true, and_assoc]

theorem State.memWf_sramWrite (s : State) (arr w n : Nat) (h : s.memWf = true) : (s.sramWrite arr w n).memWf = true := by
  obtain ⟨h1, h2, h3, h4, h5, h6, -⟩ := s.sramWrite_mem arr w n
  rw [State.memWf_iff] at h ⊢
  rw [h1, h2, h3, h4, h5, h6]
  exact h

/-- A write at a location keeps the canonical form. -/
theorem State.memWf_writeLoc (s : State) (l : Loc) (bs : List Byte) (h : s.memWf = true) : (s.writeLoc l bs).memWf = true := by
  have step : ∀ t : State, t.memWf = true → ∀ q : FMap Bool, (match l with
      | .cluster a => { { t with poison := q } with cluster := wrBytes t.cluster a bs }
      | .tun a => { { t with poison := q } with tun := wrBytes t.tun a bs }
      | .dram a => { { t with poison := q } with dram := wrBytes t.dram a bs }
      | .fbuf a => { { t with poison := q } with fbuf := wrBytes t.fbuf a bs }
      | .ingot a => { { t with poison := q } with ingot := wrBytes t.ingot a bs }
      | _ => { t with poison := q }).memWf = true := by
    intro t ht q
    rw [State.memWf_iff] at ht
    obtain ⟨h1, h2, h3, h4, h5, h6⟩ := ht
    cases l <;> rw [State.memWf_iff] <;>
      first
        | exact ⟨h1, h2, h3, h4, h5, h6⟩
        | exact ⟨wf_wrBytes _ _ _ h1, h2, h3, h4, h5, h6⟩
        | exact ⟨h1, wf_wrBytes _ _ _ h2, h3, h4, h5, h6⟩
        | exact ⟨h1, h2, wf_wrBytes _ _ _ h3, h4, h5, h6⟩
        | exact ⟨h1, h2, h3, wf_wrBytes _ _ _ h4, h5, h6⟩
        | exact ⟨h1, h2, h3, h4, wf_wrBytes _ _ _ h5, h6⟩
  unfold State.writeLoc
  cases hl : l.sram with
  | none => exact step s h _
  | some p => exact step _ (State.memWf_sramWrite s p.1 p.2 _ h) _

theorem State.memWf_setCore (s : State) (c : CoreId) (k : Core) : (s.setCore c k).memWf = s.memWf := rfl

theorem State.memWf_setReg (s : State) (o : Nat) (v : W64) : (s.setReg o v).memWf = s.memWf := rfl

/-- A result record written keeps the canonical form of the memories and of the core's data store (R87). -/
theorem State.memWf_writeRecord (s : State) (r : Req) (ws : List W64) (h : s.memWf = true) : (s.writeRecord r ws).memWf = true := by
  unfold State.writeRecord
  dsimp only
  split
  · have h' := State.memWf_sramWrite s (0x80 + r.core.toNat / 8) (r.recOff / 8) 8 h
    rw [State.memWf_iff] at h' ⊢
    exact ⟨wf_wrWords _ _ _ h'.1, h'.2⟩
  · exact State.memWf_sramWrite s _ _ _ h

theorem State.memWf_norWrite (s : State) (a : Nat) (bs : List Byte) (h : s.memWf = true) : (s.norWrite a bs).memWf = true := by
  rw [State.memWf_iff] at h ⊢
  obtain ⟨h1, h2, h3, h4, h5, h6⟩ := h
  exact ⟨h1, h2, h3, h4, h5, FMap.wf_setList _ _ _ h6⟩

theorem State.memWf_raiseGen (s : State) (h : s.memWf = true) : s.raiseGen.memWf = true := by
  rw [State.memWf_iff] at h ⊢
  obtain ⟨h1, h2, h3, h4, h5, h6⟩ := h
  exact ⟨h1, h2, h3, h4, FMap.wf_setList _ _ _ h5, h6⟩

/-- A store in the data store or cluster memory keeps the canonical form of both (R59). -/
theorem State.memWf_coreWrite (s : State) (c : CoreId) (l : Loc) (bs : List Byte) (h : s.memWf = true)
    (hd : FMap.wf zeroByte (s.core c).data = true) :
    (s.coreWrite c l bs).memWf = true ∧ FMap.wf zeroByte ((s.coreWrite c l bs).core c).data = true := by
  cases l with
  | data a =>
    have e : (s.sramWrite (0x40 + c.toNat) (a / 8) ((bs.length + 7) / 8)).core c = s.core c := by
      unfold State.core
      rw [(s.sramWrite_mem (0x40 + c.toNat) (a / 8) ((bs.length + 7) / 8)).2.2.2.2.2.2.1]
    refine ⟨State.memWf_sramWrite s (0x40 + c.toNat) (a / 8) ((bs.length + 7) / 8) h, ?_⟩
    simp only [State.coreWrite, State.core_setCore_self, e]
    exact wf_wrBytes _ _ _ hd
  | cluster a =>
    refine ⟨State.memWf_writeLoc s (.cluster a) bs h, ?_⟩
    have e : (s.writeLoc (.cluster a) bs).cores = s.cores := by
      have := (s.sramWrite_mem (0x80 + a / 0x100000) (a % 0x100000 / 8) ((bs.length + 7) / 8)).2.2.2.2.2.2.1
      simpa [State.writeLoc, Loc.sram] using this
    have e' : (s.writeLoc (.cluster a) bs).core c = s.core c := by unfold State.core; rw [e]
    show FMap.wf zeroByte ((s.writeLoc (.cluster a) bs).core c).data = true
    rw [e']
    exact hd
  | _ => exact ⟨h, hd⟩

end Sys2Proof.Machine
end

