-- ==== Sys2Proof/Laws/Ops.lean ====
section
/-! SUPPORT. What the shared operations do, one lemma for each way they answer. -/

namespace Sys2Proof.Machine

/-! ## The step -/

/-- A step on an empty queue changes nothing. -/
theorem step_nil (s : State) (h : s.pending = []) : step s = .next s := by
  unfold step
  rw [h]

/-! ## Instructions of a core -/

/-- Reading SRAM that holds no bit in error changes nothing (R463). -/
theorem State.sramRead_clean {s : State} (h : s.sramClean) (arr w n : Nat) : s.sramRead arr w n = s := by
  unfold State.sramRead
  rw [show s.sramErr = [] from h]
  rfl

@[simp] theorem State.unlessReset_self (s : State) (f : State → State) : s.unlessReset s f = f s := by
  unfold State.unlessReset
  cases s.boot.down <;> rfl

/-- A ready core executes its instruction. -/
theorem onCore_ready {s : State} {c : CoreId} (f : State → State) (h : s.Ready c) : onCore s c f = .next (f s) := by
  unfold onCore State.fetched
  rw [if_pos h.1, State.sramRead_clean h.2, State.unlessReset_self]

theorem onCore_idle {s : State} {c : CoreId} (f : State → State) (h : s.runs c = false) : onCore s c f = .next s := by
  unfold onCore; rw [if_neg (by rw [h]; decide)]

/-- The core of an instruction that completes holds the new core, advanced and charged; no other core changes. -/
theorem State.stepCore_core (s : State) (c e : CoreId) (n : Nat) (f : Core → Core) :
    (s.stepCore c n f).core e = if e = c then (f (s.core c)).retire n else s.core e :=
  State.core_setCore s c e _

/-- A result leaves every register but the destination, and the data store, as they were (R54). -/
theorem State.syncDone_core (s : State) (c : CoreId) (n : Nat) (a : GReg) (oc : Byte) (v : W64) :
    (s.syncDone c n a oc v).core c = ({ (s.core c).setG a v with oc := oc } : Core).retire n := by
  unfold State.syncDone
  rw [State.stepCore_core, if_pos rfl]

theorem State.syncFail_core (s : State) (c : CoreId) (n : Nat) (oc : Byte) :
    (s.syncFail c n oc).core c = ({ s.core c with oc := oc } : Core).retire n := by
  unfold State.syncFail
  rw [State.stepCore_core, if_pos rfl]

@[simp] theorem Core.retire_frame (k : Core) (n : Nat) :
    (k.retire n).g = k.g ∧ (k.retire n).t = k.t ∧ (k.retire n).oc = k.oc ∧ (k.retire n).calls = k.calls ∧
    (k.retire n).act = k.act ∧ (k.retire n).data = k.data ∧ (k.retire n).bankA = k.bankA ∧ (k.retire n).bankB = k.bankB ∧
    (k.retire n).ring = k.ring ∧ (k.retire n).classQ = k.classQ ∧ (k.retire n).waiting = k.waiting ∧
    (k.retire n).credits = k.credits ∧ (k.retire n).p0 = k.p0 ∧ (k.retire n).cycles = k.cycles + n := by
  unfold Core.retire
  simp

@[simp] theorem Core.retire_getG (k : Core) (n : Nat) (r : GReg) : (k.retire n).getG r = k.getG r := by
  unfold Core.getG
  rw [(k.retire_frame n).1]

/-! ## Requests -/

/-- A started request of a named kind is completed by its row. -/
theorem onReq_started {s : State} {c : CoreId} {t : Ticket} {ok : Prim → Bool} {r : Req} (f : Req → State)
    (h : s.findReq c t = some r) (hp : ok r.prim = true) (hs : r.phase = .started) : onReq s c t ok f = .next (f r) := by
  unfold onReq State.started
  simp [h, hp, hs]

theorem onReq_none {s : State} {c : CoreId} {t : Ticket} {ok : Prim → Bool} (f : Req → State) (h : s.findReq c t = none) :
    onReq s c t ok f = .next s := by
  unfold onReq State.started
  simp [h]

/-! ## Host commands -/

/-- A live command of the row's opcode is served, its event taken first. -/
theorem onCmd_waits {s : State} {k : W64} {admin : Bool} {op : Nat} {d : Cmd} (f : State → Cmd → State)
    (h : s.Waits k admin op d) : onCmd s k admin op f = .next (f (s.takeEvent k) d) := by
  obtain ⟨h1, h2, h3, h4, h5, h6, h7, h8, h9⟩ := h
  unfold onCmd onCmdIf
  simp [h1, h2, h3, h4, h5, h6, h7, h8, h9]

/-- A key that names no command, or a stopped device, leaves the state. -/
theorem onCmd_none {s : State} {k : W64} (admin : Bool) (op : Nat) (f : State → Cmd → State) (h : s.cmdOf k = none) :
    onCmd s k admin op f = .next s := by
  unfold onCmd onCmdIf
  simp [h]

theorem onSetFeature_waits {s : State} {k : W64} {fids : Nat → Bool} {d : Cmd} (f : State → Cmd → State)
    (h : s.Waits k true 0x09 d) (hf : fids d.fid = true) (hs : d.dw 10 / 2 ^ 31 % 2 = 0) :
    onSetFeature s k fids f = .next (f (s.takeEvent k) d) := by
  unfold onSetFeature
  rw [onCmd_waits _ h]
  have hs' : ¬(d.dw 10 / 2 ^ 31 % 2 = 1) := by omega
  simp only [hf, Bool.not_true, Bool.false_eq_true, if_false, if_neg hs']

theorem onTest_waits {s : State} {k : W64} {mine : Nat → Bool} {d : Cmd} (f : State → Cmd → State) (h : s.Waits k true 0x14 d)
    (hm : mine (d.dw 10 % 16) = true) : onTest s k mine f = .next (f (s.takeEvent k) d) := by
  unfold onTest
  rw [onCmd_waits _ h]
  simp [hm]

/-! ## Span messages -/

/-- A message for this device at a port whose link is up is served, and its flits are credited back. -/
theorem onMsg_delivered {s : State} {p : Nat} {m : SpanMsg} {ok : Bool} (f : State → State) (h : s.Delivered p m) (ho : ok = true) :
    onMsg s p m ok f = .next ((f s).creditBack p m) := by
  obtain ⟨h1, h2, h3⟩ := h
  unfold onMsg onMsgTry
  simp [h1, h2, h3, ho]

/-- An arrival of the row's type is answered, its event taken first. -/
theorem onArrival_asked {s : State} {e : W64} {typ : Nat} {a : SpanArr} {ok : SpanArr → Bool} (f : State → SpanArr → State)
    (h : s.Asked e typ a) (ho : ok a = true) : onArrival s e typ ok f = .next (f (s.takeEvent e) a) := by
  obtain ⟨h1, h2, h3⟩ := h
  unfold onArrival
  simp [h1, h2, h3, ho]

/-! ## Station registers -/

/-- A field written in one register leaves the fields of every other. -/
theorem State.rfld_setRfld_other (s : State) (o p lo w x : Nat) (l v : Nat) (h : p ≠ o) :
    (s.setRfld o lo w x).rfld p l v = s.rfld p l v := by
  unfold State.rfld State.setRfld
  rw [State.reg_setReg_ne _ _ h]

end Sys2Proof.Machine
end

