-- ==== Sys2Proof/Tests/Slice0.lean ====
section
/-! SUPPORT. The model's own tests: ill-formed commands refused, one-step tests with results from the spec, and for each
statement states that meet its hypotheses. -/

namespace Sys2Proof.Tests

open Sys2Proof Sys2Proof.Machine

set_option maxRecDepth 20000
set_option exponentiation.threshold 600
set_option Elab.async false

/-! ## Small states -/

/-- A device that is up. -/
def upBoot : Boot := { strapped := true, perstLow := false, down := false, pwrFail := false, src := 0, settle := false, tripped := false }

/-- A core in timed slot 0 at word 5, with BOUND 4,095. -/
def core0 : Core :=
  { Core.reset with act := .timed 0, pc := 5, state := .running, run := true, ephA := [(0, 0x0FFF1000)], g := [(1, 7), (2, 64), (3, 9)] }

/-- An up device in the slot window whose core 0 is `k`, in boot mode. -/
def slotOf (k : Core) : State :=
  State.reset |>.putWin .slot |>.putBoot upBoot |>.putCores [(0, k)] |>.putRegs [(0x130000, 1)]

def slotS : State := slotOf core0

/-- A request of core 0 with ticket 1. -/
def reqOf (p : Prim) (u : Nat) (ph : ReqPhase) (ops : List W64) : Req :=
  { prim := p, core := 0, ticket := 1, cls := 0, level := 3, cur := 3, age := 64, imm := 0, ops := ops, recCluster := false, recOff := 64,
    unit := u, loader := false, bufs := [], cfg := nsReset 0, phase := ph }

/-- A submission queue of function 0 with host identifier `h`, its completion queue at context 0. -/
def sqOf0 (h : Nat) : SQ :=
  { base := 0x1000, entries := 16, paused := false, retired := false, pasid := none, func := 0, head := 0, tail := 1, hostId := h, cq := 0,
    level := 1, owner := 0, rcls := 0, wcls := 0, ocls := 0, unsettled := 1, fetched := 1, slice := none }

def cqOf0 (h : Nat) : CQ :=
  { base := 0x2000, entries := 16, pasid := none, func := 0, tail := 15, head := 3, phase := true, hostId := h, vector := 0, ien := true,
    waiting := 0, written := 15, slice := none }

/-- A live command with key `9`, of an admin queue or an I/O queue, of opcode `op` with dwords 10 to 13. -/
def cmdOf0 (admin : Bool) (op nsid d10 d11 d12 d13 : Nat) : Cmd :=
  { key := 9, sq := 0, func := 0, pasid := none, slice := none, fsn := 1,
    sqe := BitVec.ofNat 512 ([op + 7 * 65536, nsid, 0, 0, 0, 0, 0x3000, 0, 0, 0, d10, d11, d12, d13].foldr (fun d n => d + n * 4294967296) 0),
    buf := 0, arrived := 0, haz := none, level := 3, owner := 0, admin := admin, settle := .live, dminEvent := none, aborted := false, acted := false }

/-- An up device with queue contexts and one command. -/
def cmdS (d : Cmd) : State := slotS |>.putCmds [d] |>.putSqs [(0, some (sqOf0 0))] |>.putCqs [(0, some (cqOf0 0))]


/-! ## Ill-formed commands -/

theorem test_wf_good : (Instr.add 0 1 2 3).wf = true ∧ (Instr.zoneFinishedByController (2 ^ 29 - 1)).wf = true := by decide
theorem test_wf_func : (Instr.functionLevelReset 2048).wf = false ∧ (Instr.functionLevelReset 2047).wf = true := by decide
theorem test_wf_chan : (Instr.diePoll 32 0 ⟨0, 0⟩).wf = false ∧ (Instr.diePoll 31 63 ⟨0, 0⟩).wf = true := by decide
theorem test_wf_die : (Instr.diePoll 0 64 ⟨0, 0⟩).wf = false := by decide
theorem test_wf_bank : (Instr.ldpcSlotGrant 4).wf = false := by decide
theorem test_wf_port : (Instr.linkRetry 4).wf = false := by decide
theorem test_wf_dome : (Instr.quiesceTimeout 29).wf = false := by decide
theorem test_wf_source : (Instr.wakeSource 32 true .before).wf = false := by decide
theorem test_wf_hostQueue : (Instr.sqTailDoorbell 0 65536 0).wf = false := by decide
theorem test_wf_queue : (Instr.cqSpaceResume 262144).wf = false := by decide
theorem test_wf_unit : (Instr.engineRequestTake 0x3F).wf = false ∧ (Instr.engineRequestTake 0x72).wf = false := by decide
theorem test_wf_group : (Instr.levelSweep 0 0 32 [0, 0, 0, 0, 0]).wf = false := by decide
theorem test_wf_sweep : (Instr.levelSweep 0 0 31 [0, 0, 0, 0]).wf = false := by decide
theorem test_wf_rank : (Instr.dramUncorrectableError 0 4 0).wf = false := by decide
theorem test_wf_line : (Instr.dramUncorrectableError 3 3 (2 ^ 33)).wf = false := by decide
theorem test_wf_certSlot : (Instr.getCertificate 0 8).wf = false := by decide
theorem test_wf_ownerSlot : (Instr.ownerEnroll 0 0 0 0 false).wf = false ∧ (Instr.ownerEnroll 0 5 0 0 false).wf = false := by decide
theorem test_wf_handle : (Instr.ruTimeLimitExceeded 256 0).wf = false := by decide
theorem test_wf_nsid : (Instr.stripeSeal 0 0 0).wf = false ∧ (Instr.stripeSeal 4097 0 0).wf = false := by decide
theorem test_wf_stripe : (Instr.stripeSeal 1 0 32768).wf = false := by decide
theorem test_wf_zone : (Instr.finishZoneRecommended (2 ^ 29)).wf = false := by decide
theorem test_wf_index : (Instr.getMeasurements 0 256 0).wf = false := by decide
theorem test_wf_sensors : (Instr.sensorSample (List.replicate 23 0)).wf = false := by decide
theorem test_wf_loop : (Instr.loop 0 1 0 0).wf = false := by decide
theorem test_wf_table : (Instr.switch 0 1 0 0).wf = false ∧ (Instr.switch 0 1 257 0).wf = false := by decide
theorem test_wf_tag : (Instr.tfx 0 1 8 0).wf = false := by decide
theorem test_wf_field : (Instr.tfx 0 1 0 12).wf = false ∧ (Instr.tfx 0 1 0 20).wf = false := by decide
theorem test_wf_space : (Instr.ld8 0 1 2 3 0).wf = false := by decide
theorem test_wf_tstSpace : (Instr.tst 0 1 2 2 0).wf = false := by decide
theorem test_wf_atomicSpace : (Instr.clad 0 1 2 3 0).wf = false := by decide

/-! ## One step, with results from the rules -/

def nextOf (o : Host.Outcome State Fault Refusal) : Option State := match o with
  | .next t => some t
  | _ => none
/-- What command `i` leaves in a register of core 0, from a core whose g2 and g3 are `x` and `y`. -/
def regAfter (i : Instr) (x y : W64) (r : GReg) : Option W64 :=
  (nextOf (exec i (slotOf { core0 with g := [(2, x), (3, y)] }))).map (fun t => (t.core 0).getG r)
theorem test_add_wraps : regAfter (.add 0 1 2 3) 0xFFFFFFFFFFFFFFFF 2 1 = some 1 := by decide
theorem test_sub_borrows : regAfter (.sub 0 1 2 3) 0 1 1 = some 0xFFFFFFFFFFFFFFFF := by decide
theorem test_addi_sign : regAfter (.addi 0 1 2 0xFFFFFFFF) 5 0 1 = some 4 := by decide
theorem test_andi_zero_extends : regAfter (.andi 0 1 2 0xFFFFFFFF) 0xFFFFFFFFFFFFFFFF 0 1 = some 0xFFFFFFFF := by decide
theorem test_mulhi : regAfter (.mulhi 0 1 2 3) 0x8000000000000000 4 1 = some 2 := by decide
theorem test_divq_zero : regAfter (.divq 0 1 2 3) 9 0 1 = some 0 ∧ regAfter (.divq 0 1 2 3) 9 2 1 = some 4 := by decide
theorem test_modq : regAfter (.modq 0 1 2 3) 9 0 1 = some 0 ∧ regAfter (.modq 0 1 2 3) 9 2 1 = some 1 := by decide
theorem test_shl_mod_64 : regAfter (.shl 0 1 2 3) 1 65 1 = some 2 := by decide
theorem test_shra : regAfter (.shra 0 1 2 3) 0x8000000000000000 63 1 = some 0xFFFFFFFFFFFFFFFF := by decide
theorem test_same_source_and_destination : regAfter (.sub 0 2 2 2) 7 0 2 = some 0 := by decide
theorem test_g0_reads_zero : regAfter (.add 0 0 2 3) 1 2 0 = some 0 := by decide
theorem test_popc : regAfter (.popc 0 1 2) 0xF0 0 1 = some 4 ∧ regAfter (.clz 0 1 2) 1 0 1 = some 63 := by decide
theorem test_bswap : regAfter (.bswap 0 1 2) 0x0102030405060708 0 1 = some 0x0807060504030201 := by decide
/-- A store of 4 bytes lands little-endian and leaves the byte above. -/
theorem test_store : (nextOf (exec (.st32 0 2 3 0 0) (slotOf { core0 with g := [(2, 0xA1B2C3D4), (3, 0x100)] }))).map
    (fun t => rdBytes (t.core 0).data 0x100 5) = some [0xD4, 0xC3, 0xB2, 0xA1, 0] := by decide
/-- An empty queue: the step idles. -/
theorem test_idle_step : (nextOf (step State.reset)).map (fun t => t.pending) = some [] := by decide
/-- The step takes the front command and leaves the rest. -/
theorem test_queue_first_in_first_out : (nextOf (step (slotS.putPending [.add 0 1 2 3, .nop 0]))).map
    (fun t => ((t.core 0).getG 1, t.pending.length)) = some (73, 1) := by decide
/-- CRC-32 of the byte 0x01 from 0 is the reflected table's entry 1. -/
theorem test_crc32_table : crc32 0 [1] = 0x77073096 := by decide
/-- The check value of CRC-64 with R194's polynomial, over "123456789". -/
theorem test_crc64_check : crc64 [0x31, 0x32, 0x33, 0x34, 0x35, 0x36, 0x37, 0x38, 0x39] = 0xAE8B14860A799888 := by decide +kernel

/-! ## Witnesses: the invariant and the frame of a result -/

theorem witness_StepKeepsPowerLegal : State.reset.PowerLegal ∧ (nextOf (step (slotS.putPending [.nop 0]))).isSome = true ∧
    ((slotS.putPower 4).putPowerOp 2).PowerLegal := by decide
theorem witness_ResultFrame : (31 : GReg) ≠ 0 ∧ (30 : GReg) ≠ 31 ∧ (63 : CoreId) ≠ 0 := by decide
/-! ## Witnesses: instructions of a core -/

theorem witness_IntegerResults : slotS.Ready 0 := by decide
theorem witness_BitFieldResults : slotS.Ready 0 := by decide

/-- Each size of load at its alignment, at the last bytes of the data store; each store and the tag forms likewise. -/
def memCore : Core := { core0 with g := [(2, 0xFFE0), (3, 0x100000)] }
theorem witness_LoadStoreResults : (slotOf memCore).Ready 0 ∧
    ((slotOf memCore).access 0 0 (memCore.effAddr 2 31) 1 .rd (loadable 1)).toOption = some (.data 0xFFFF) ∧
    ((slotOf memCore).access 0 0 (memCore.effAddr 2 30) 2 .rd (loadable 2)).toOption = some (.data 0xFFFE) ∧
    ((slotOf memCore).access 0 0 (memCore.effAddr 2 28) 4 .wr (storable 4)).toOption = some (.data 0xFFFC) ∧
    ((slotOf memCore).access 0 0 (memCore.effAddr 2 24) 8 .wr (storable 8)).toOption = some (.data 0xFFF8) ∧
    ((slotOf memCore).access 0 1 (memCore.effAddr 3 0) 32 .rd (loadable 32)).toOption = some (.cluster 0) ∧
    ((slotOf memCore).access 0 1 (memCore.effAddr 3 0) 32 .wr (storable 32)).toOption = some (.cluster 0) ∧ (7 : GReg).toNat < 8 := by decide
theorem witness_StoreFrame : (slotOf memCore).Ready 0 ∧ bit ((slotOf memCore).reg (sta 0x12 0x310)) 40 = false ∧
    ((slotOf memCore).access 0 0 (memCore.effAddr 2 24) 8 .wr (storable 8)).toOption = some (.data (memCore.effAddr 2 24)) ∧
    (match exec (.st64 0 1 2 0 24) (slotOf memCore) with | .next _ => true | _ => false) = true := by decide
theorem witness_AtomicResults : (slotOf memCore).Ready 0 ∧
    ((slotOf memCore).access 0 1 (memCore.getG 3).toNat 8 .at (storable 8)).toOption = some (.cluster 0) := by decide
/-- A misaligned and refused access, and an aligned one that no region lets pass. -/
theorem witness_AlignmentBeforeAccess : slotS.Ready 0 ∧ core0.effAddr 1 0 % 2 ≠ 0 ∧ core0.effAddr 2 0 % 8 = 0 ∧
    (coreLoc 0 2 (core0.effAddr 2 0) 8) = none := by decide

/-- A core in a loop of one word more, with one call below it. -/
def loopCore : Core := { core0 with loops := [{ start := 5, last := 9, count := 2, depth := 0 }] }
theorem witness_TransferResults : slotS.Ready 0 ∧ core0.branchOk ((4095 : BitVec 12).setWidth 13) = true ∧
    core0.calls.length < 8 ∧ core0.pc < (4095 : BitVec 12).setWidth 13 ∧ core0.openLoop = none ∧ core0.getG 4 = 0 ∧
    core0.getG 1 ≠ 0 ∧ (core0.getG 1).toNat ≤ 7 ∧ core0.loops.length < 4 ∧ core0.act.isDrain = false ∧ core0.cycles + 1 ≤ core0.bound := by decide
/-- A switch on entry 255, the last of a table of 256 that begins at word 4,032 and ends with the bank. -/
theorem witness_TransferResults_switch : (slotOf { core0 with g := [(1, 255)] }).Ready 0 ∧ 255 < (256 : BitVec 14).toNat ∧
    (4032 : BitVec 12).toNat + 255 / 4 = 4095 ∧
    core0.branchOk (BitVec.ofNat 13 (((slotOf core0).bankWord 0 4094).toNat / 2 ^ 48 % 4096)) = true ∧ (7 : BitVec 14).toNat ≤ (core0.getG 1).toNat := by decide
theorem witness_TransferResults_loop : (slotOf loopCore).Ready 0 ∧ loopCore.openLoop = some { start := 5, last := 9, count := 2, depth := 0 } ∧
    loopCore.branchOk ((9 : BitVec 12).setWidth 13) = true ∧ (8 : BitVec 12).setWidth 13 < (9 : BitVec 13) := by decide
theorem witness_TransferResults_ret : (slotOf { core0 with calls := [4095] }).Ready 0 ∧
    ({ core0 with calls := [4095] } : Core).openLoop = none := by decide

/-- A drain dispatch with one event of its class 0 behind another class's. -/
def drainCore : Core := { core0 with act := .drain 0 1, classQ := [1, 0x40] }
theorem witness_SlendDispatchesNext : (slotOf drainCore).Ready 0 ∧ drainCore.act = .drain 0 (0 + 1) ∧ drainCore.cycles + 1 ≤ drainCore.bound ∧
    takeClass (fld (drainCore.slotWord 0) 48 6) drainCore.classQ = some (0x40, [1]) ∧
    takeClass (fld (drainCore.slotWord 0) 48 6) [1] = none := by decide

theorem witness_ControlFaults : slotS.Ready 0 ∧ core0.openLoop = none ∧ core0.calls = [] ∧ (5 : BitVec 12).setWidth 13 ≤ core0.pc ∧
    (6 : BitVec 16).toNat < (core0.getG 1).toNat ∧ (257 : BitVec 14).toNat > 256 := by decide
theorem witness_ControlFaults_loop : (slotOf loopCore).Ready 0 ∧ loopCore.branchOk ((10 : BitVec 12).setWidth 13) = false ∧
    loopCore.getG 4 = loopCore.getG 5 ∧ (9 : BitVec 13) ≤ (9 : BitVec 12).setWidth 13 := by decide
theorem witness_ControlFaults_deep : (slotOf { loopCore with calls := [1, 2, 3, 4, 5, 6, 7, 8] }).runs 0 = true ∧
    (slotOf { core0 with calls := [1], loops := [{ start := 5, last := 9, count := 2, depth := 1 }] }).runs 0 = true ∧
    ({ core0 with calls := [1], loops := [{ start := 5, last := 9, count := 2, depth := 1 }] } : Core).openLoop ≠ none ∧
    (slotOf { core0 with loops := List.replicate 4 { start := 5, last := 9, count := 2, depth := 0 } }).Ready 0 ∧
    (slotOf { core0 with cycles := 4095 }).Ready 0 ∧ ({ core0 with cycles := 4095 } : Core).bound < 4095 + 1 := by decide

theorem witness_TrapTakesFault : slotS.Ready 0 ∧ core0.act ≠ .faultHandler ∧ core0.p0.length < 16 ∧ core0.act = .timed 0 ∧
    (slotOf drainCore).Ready 0 ∧ (slotOf { core0 with act := .start, nstart := 0x0FFF0000 }).Ready 0 := by decide
theorem witness_IllegalInstructionFault : slotS.Ready 0 ∧ legalWord 0xFF = false ∧
    slotS.corePresent 0 = true ∧ (slotOf { core0 with pc := 4096 }).win = .slot ∧
    ({ core0 with pc := 4096 } : Core).cycles ≤ ({ core0 with pc := 4096 } : Core).bound := by decide
theorem witness_TagSystemResults : slotS.Ready 0 ∧ tagFieldOk 11 = true ∧ tagFieldOk 19 = true ∧ (7 : GReg).toNat < 8 := by decide

/-! ## Witnesses: synchronous primitives -/

/-- Core 0 names ring 2, submission queue 2 and completion queue 2 in g5, key 9 in g6, hazard entry 0 in g7. -/
def primCore : Core := { core0 with g := [(5, 2), (6, 9), (7, 65536), (8, 0x40002), (9, 256), (10, 1), (11, 0x18), (12, 0x10000)] }
def ringS (n : Nat) : State := (slotOf primCore).putRings [(2, { cap := 2, base := 0, vals := List.replicate n 5 })]
theorem witness_QueuePrimitiveResults : (ringS 1).Ready 0 ∧ fld (primCore.getG 5) 0 12 = 2 ∧
    ((ringS 1).ringAt 2).vals.length < ((ringS 1).ringAt 2).cap ∧ ((ringS 2).ringAt 2).cap ≤ ((ringS 2).ringAt 2).vals.length ∧
    ((ringS 2).ringAt 2).vals = [5, 5] ∧ ((ringS 0).ringAt 2).vals = [] ∧ ((slotOf primCore).ringAt 2).cap = 0 ∧
    ((slotOf primCore).putSqs [(2, some (sqOf0 2))]).sq 2 = some (sqOf0 2) ∧ bit (primCore.getG 5) 18 = false ∧
    ((slotOf primCore).putCqs [(2, some (cqOf0 2))]).cq 2 = some (cqOf0 2) ∧ bit (primCore.getG 8) 18 = true ∧
    fld (primCore.getG 8) 0 18 = 2 ∧ (0x70 : BitVec 8).toNat % 16 = 0 ∧ (0x70 : BitVec 8).toNat / 16 = 7 ∧ 5 < (0x06 : BitVec 8).toNat % 16 ∧
    7 < (0x80 : BitVec 8).toNat / 16 := by decide

def hazE (buf : W64) (fsn : BitVec 32) : HazEntry := { key := 9, count := 8, fsn := fsn, confirmed := false, buf := buf }
def hazS : State :=
  (slotOf primCore) |>.putHaz [(0, hazE 0 1), (65535, hazE 4 2)] |>.putCmds [{ cmdOf0 false 1 1 0 0 0 0 with haz := some 0 }]
theorem witness_HazardPrimitiveResults : hazS.Ready 0 ∧ (hazS.cmdOf (primCore.getG 6)).bind (fun m => m.haz) = some 0 ∧
    hazS.hazAt 0 = some (hazE 0 1) ∧ (hazE 0 1).confirmed = false ∧ hazS.cmdOf (primCore.getG 5) = none ∧
    fld (primCore.getG 7) 0 17 = 65536 ∧ fld (primCore.getG 10) 0 17 = 1 ∧ hazS.hazFree = some 1 ∧ hazS.hazAt 1 = none ∧
    (primCore.getG 9).toNat = 256 ∧ (primCore.getG 10).toNat = 1 ∧ (primCore.getG 4).toNat = 0 := by decide
theorem witness_HazardCheckFindsLatest : hazS.Ready 0 ∧ (∀ p ∈ hazS.haz, p.1 < 65536) ∧
    hazS.haz.filter (fun p => p.2.overlaps 9 8) ≠ [] ∧ ((hazE 4 2).fsn - 1).toNat < 2 ^ 31 := by decide

def bufS : State := (slotOf primCore) |>.putTunBufs [(0, { pool := 1, owner := 5, refs := 254 })]
theorem witness_BufferPrimitiveResults : bufS.Ready 0 ∧ bufS.bufOf (mkHandle 0 1 5) = some (0, { pool := 1, owner := 5, refs := 254 }) ∧
    bufS.bufOf (primCore.getG 6) = none ∧ bufS.alloc 5 0 false = none ∧ (primCore.getG 11).toNat = 24 ∧ fld (0x40000 : Imm32) 0 19 = 262144 := by decide
def poolS : State := (slotOf primCore).setReg (sta 4 0x100) 2
theorem witness_BufferPrimitiveResults_bget : poolS.Ready 0 ∧ (poolS.alloc 0 (poolFor 512) false).map (·.1) = some (mkHandle 0 0 0) := by decide
def quiesceE : DomeEntry :=
  { voter := 0, core := 0, ticket := 1, num := 9, target := 2, start := 0, waiting := [0, 4], agreed := [], committed := false, wake := false }
/-- Sensors 0 and 287 read 0x190, freshly written. -/
def sensS : State :=
  slotS |>.putTick 0x10000000 |>.putRegs [(0x130000, 1), (sta 0xF 0x100, 0x190), (sta 0xF (0x200 + 8 * 255), 0x10190)]
    |>.putReadAt [(0, 0x10000000), (287, 0x10000000)]
theorem witness_BufferPrimitiveResults_vack : ((slotOf primCore).putDomeEntry [(15, some quiesceE)]).openQuiesce (fld (primCore.getG 6) 0 16)
      (fld (primCore.getG 6) 16 6) = some (15, quiesceE) ∧ primCore.getG 4 = 0 ∧ primCore.getG 10 = 1 ∧
    (slotOf primCore).openQuiesce (fld (primCore.getG 6) 0 16) (fld (primCore.getG 6) 16 6) = none ∧
    (slotOf primCore).sramClean := by decide
/-- Both are fresh, and one second and a tick later neither is. -/
theorem witness_BufferPrimitiveResults_sens : sensS.Ready 0 ∧ sensS.sensor 0 = some (0x190, 0x10000000) ∧ sensS.sensor 287 = some (0x190, 0x10000000) ∧
    (sensS.sensor 23).isSome = true ∧ sensS.freshSensor 0 = some 0x190 ∧ sensS.freshSensor 287 = some 0x190 ∧
    (∀ m ∈ List.range 24, ∀ u ∈ (sensS.freshSensor m).toList, tempInt u ≤ tempInt 0x190) ∧
    (∀ m ∈ [32, 286, 287], ∀ u ∈ (sensS.freshSensor m).toList, tempInt u ≤ tempInt 0x190) ∧
    ((sensS.putTick (BitVec.ofNat 64 (0x10000001 + sensS.secondTicks))).freshSensor 0) = none := by decide

/-! ## Witnesses: issue -/

def fields : Issue := { a := 1, b := 2, d := 3, lvl := 7, cls := 0, imm := 0 }
/-- The operand block at 0x40 and the record at 0xFFC0, its last place in the data store. -/
def issueCore : Core := { core0 with g := [(1, 7), (2, 0x40), (3, 0xFFC0)] }
theorem witness_IssueAccepted : (slotOf issueCore).Ready 0 ∧ rowMatches (slotOf issueCore) (.ffeatGet 0 fields) = true ∧
    rowMatches (slotOf { issueCore with data := [(0x49, 1)] }) (.ffeatSet 0 fields) = true ∧
    (slotOf issueCore).issueClean 0 fields ∧ (slotOf issueCore).issueTaken 0 .gate fields 0 ∧ (slotOf issueCore).issueTaken 0 .vote fields 0 := by
  decide
theorem witness_IssueRefusals : (slotOf { issueCore with g := [(2, 0x48), (3, 0xFFC0)] }).Ready 0 ∧ 0x48 % 64 ≠ 0 ∧
    (slotOf { issueCore with g := [(2, 0x10000), (3, 0xFFC0)] }).runs 0 = true ∧ 0x10000 < 0x10000 + 64 ∧ recLoc 0 0x20000 = none ∧
    (slotOf { issueCore with ring := List.replicate 4096 0 }).issueClean 0 fields ∧
    (slotOf { issueCore with ring := List.replicate 4096 0 }).unitAbsent .gate 0x41 0 ((slotOf issueCore).issueBlock 0 fields) = false ∧
    ({ issueCore with ring := List.replicate 4096 0 } : Core).freeEntries = 0 ∧
    ((slotOf issueCore).setReg (sta 0x17 0x10) (2 ^ 32)).issueClean 0 fields ∧
    ((slotOf issueCore).setReg (sta 0x17 0x10) (2 ^ 32)).unitAbsent .xts 0x44 0 ((slotOf issueCore).issueBlock 0 fields) = true := by
  decide
theorem witness_IssueRefusals_full :
    ((slotOf issueCore).putReqs (List.replicate 4 (reqOf .vote 0x48 .waiting []))).issueClean 0 fields ∧
    Prim.vote.depth ≤ ((slotOf issueCore).putReqs (List.replicate 4 (reqOf .vote 0x48 .waiting []))).queued 0 0x48 := by decide

/-! ## Witnesses: ticks, slots and registers -/

/-- A core that may begin a slot, with the table word of slot 0. -/
def idleCore (w : W64) : Core := { core0 with act := .idle, ephA := [(0, w)], classQ := [0x40] }
/-- Enabled in every tick, BOUND 4,095, DRAIN 2, of KIND `n`. -/
def slotWord0 (n : Nat) : W64 := BitVec.ofNat 64 (0x0FFF1000 + n * 2 ^ 13 + 2 ^ 57)

theorem witness_TickAndIntake : slotS.win = .slot ∧ State.reset.win = .fault ∧
    (∀ c ∈ State.reset.presentCores, (State.reset.core c).act ≠ .faultHandler) := by decide
theorem witness_ActivationResults : (slotOf (idleCore (slotWord0 0))).mayRun 0 = true ∧ (idleCore (slotWord0 0)).startPending = false ∧
    ({ idleCore (slotWord0 0) with cycles := 0 } : Core).nextDue 0 = some 0 ∧ fld (slotWord0 0) 13 2 = 0 ∧ fld (slotWord0 1) 13 2 = 1 ∧
    ({ idleCore (slotWord0 1) with cycles := 0 } : Core).nextDue 0 = some 0 ∧ (slotOf (idleCore (slotWord0 1))).mayRun 0 = true ∧
    takeClass (fld (slotWord0 1) 48 6) (idleCore (slotWord0 1)).classQ = some (0x40, []) ∧
    (slotOf { idleCore 0 with startPending := true }).mayRun 0 = true := by decide
theorem witness_ActivationResults_kind : (slotOf (idleCore (slotWord0 2))).mayRun 0 = true ∧
    ({ idleCore (slotWord0 2) with cycles := 0 } : Core).nextDue 0 = some 0 ∧ 2 ≤ fld (slotWord0 2) 13 2 ∧ 2 ≤ fld (slotWord0 3) 13 2 ∧
    (match exec (.slotDispatch 0) (slotOf (idleCore (slotWord0 3))) with | .fault .reservedSlotKind => true | _ => false) = true := by decide
theorem witness_ActivationResults_other : ((slotOf { core0 with act := .faultHandler }).putWin .fault).win = .fault ∧
    (slotS.putReqs [reqOf .gate 0x41 .waiting []]).findReq 0 1 = some (reqOf .gate 0x41 .waiting []) ∧
    (reqOf .gate 0x41 .waiting []).queuedInEngine = true ∧ 3 ≤ (reqOf .gate 0x41 .waiting []).cur.toNat ∧
    slotS.rfld (sta 1 0x10) 0 11 ≤ (reqOf .gate 0x41 .waiting []).age ∧ 0 < ({ core0 with waiting := [1] } : Core).freeEntries := by decide
theorem witness_BoundExcessCounts : (slotOf { core0 with cycles := 4096 }).win = .slot ∧ core0.act = .timed 0 ∧
    ({ core0 with cycles := 4096 } : Core).bound < 4096 ∧ ({ core0 with act := .timed 63, cycles := 1 } : Core).bound < 1 ∧ core0.p0.length < 16 := by
  decide
/-- In boot mode core 0 passes its checker; core 1 has no region; debug access passes once JTAG is open. -/
theorem witness_RegisterWriteRows : slotS.whoOk (.core 0) .wr (sta 1 0x18) = true ∧ slotS.whoOk (.core 1) .wr (sta 1 0x18) = false := by decide
theorem witness_PlainRegisterWrites : stBlock (sta 0x16 0) = 0x16 ∧ stBlock (sta 0x0B 0) = 0x0B ∧ State.reset.stPresent (sta 0x17 0x28) = true ∧
    (findReg (sta 0x17 0x28)).isSome = true ∧ findReg (sta 0x17 0xFFF8) = none ∧ State.reset.stPresent (sta 0x16 0) = true := by decide
theorem witness_TimePeriodLocks : bit ((slotS.setReg (sta 0 0) 0x101).reg (sta 0 0)) 8 = true ∧ bit (slotS.reg (sta 0 0)) 8 = false ∧
    slotS.whoOk (.core 0) .wr 0 = true ∧ slotS.sel ≠ 3 := by decide
theorem witness_RegisterHardwareResults : (slotS.putWsnFloor (some (2 ^ 56 - 1))).wsnFloor = some (2 ^ 56 - 1) ∧
    bit ((slotS.setReg (sta 8 0x10) 1).reg (sta 8 0x10)) 0 = true ∧ bit ((slotS.setReg (sta 8 0x118) 1).reg (sta 8 0x118)) 0 = true ∧
    (slotS.putScrub (some (0x88, 0, 1))).scrub = some (0x88, 0, 1) ∧ (slotS.putScrub (some (0x88, 0, 1))).sramClean ∧ slotS.boot.down = false ∧
    0 ≤ (1 : BitVec 24).toNat ∧ (1 : BitVec 24).toNat ≤ 1 ∧ slotS.funcExists 0 = true ∧ slotS.isPf 0 = true ∧ (0xFFF8 : BitVec 16).toNat % 8 = 0 := by decide
theorem witness_RegisterHardwareResults_pat : (∀ erase ∈ [true, false],
      (slotS.putPat { op := some (erase, 0x7FC0000), bulk := none }).pat.op = some (erase, 0x7FC0000)) ∧ slotS.pat.bulk = none ∧ slotS.pat.op = none ∧
    1 ≤ (1 : BitVec 6).toNat ∧ (40 : BitVec 6).toNat = 40 ∧ (12 : BitVec 6).toNat ≤ 12 ∧ slotS.whoOk (.core 0) .rd (sta 0x11 0x20) = true := by decide
theorem witness_RegisterHardwareResults_bulk :
    let s := (slotS.setReg (sta 8 0) 0x4001000).putPat { op := none, bulk := some (0x7FFFFC0, 0x4000FC0, 1, false) }
    s.pat.bulk = some (0x7FFFFC0, 0x4000FC0, 1, false) ∧ s.norUnk = [] ∧ 0x7FFFFC0 + 64 * 1 ≤ 0x8000000 ∧ 0x4000FC0 + 64 * 1 ≤ s.dramSize := by decide

def engineS (r : Req) : State := slotS |>.putReqs [{ r with ticket := 2, cur := 4 }, r]
theorem witness_EngineTakes : (∀ q ∈ slotS.reqs, q.unit ≠ 0x42) ∧
    (engineS (reqOf .dmfill 0x43 .waiting [0, 8, 0])).reqs =
      [{ reqOf .dmfill 0x43 .waiting [0, 8, 0] with ticket := 2, cur := 4 }] ++ reqOf .dmfill 0x43 .waiting [0, 8, 0] :: [] ∧
    (engineS (reqOf .dmfill 0x43 .waiting [0, 8, 0])).unitDomeOn 0x43 = true ∧
    (engineS (reqOf .dmfill 0x43 .waiting [0, 8, 0])).canTake (reqOf .dmfill 0x43 .waiting [0, 8, 0]) = true ∧
    ((engineS (reqOf .dmfill 0x43 .waiting [0, 8, 0])).takeRefuse (reqOf .dmfill 0x43 .waiting [0, 8, 0])).isSome = true ∧
    ((engineS (reqOf .xts 0x44 .waiting [])).setReg (sta 0xE (8 * 23)) 2).unitDomeOn 0x44 = false ∧
    ((slotS.setReg (sta 8 0) 0x4001000).putReqs [reqOf .dmfill 0x43 .waiting [2 ^ 60 + 0x4000000, 0x1000, 0]]).takeRefuse
      (reqOf .dmfill 0x43 .waiting [2 ^ 60 + 0x4000000, 0x1000, 0]) = none ∧
    (slotS.putReqs [reqOf .fstat 0x50 .waiting []]).canTake (reqOf .fstat 0x50 .waiting []) = true ∧
    (slotS.putReqs [reqOf .mlook 0x42 .waiting []]).mapBlocked (reqOf .mlook 0x42 .waiting []) = false := by decide
theorem witness_CompletionPosts : (reqOf .dmin 0x43 .started []).recCluster = false ∧ (reqOf .dmin 0x43 .started []).bufs = [] ∧
    { reqOf .dmin 0x43 .started [] with recOff := 0xFFC0 }.recOff < 0x10000 ∧ { reqOf .dmin 0x43 .started [] with recOff := 0xFFC0 }.recOff % 64 = 0 ∧
    bit (slotS.reg (sta 0x12 0x310)) 40 = false := by decide

/-! ## Witnesses: the gate and the walker -/

def claimS (e : Settle) : State := cmdS { cmdOf0 false 1 1 0 0 0 0 with settle := e }
theorem witness_GateResults : (claimS (.claimed 0 0 0 5 0 0 1)).cmdOf 9 = some { cmdOf0 false 1 1 0 0 0 0 with settle := .claimed 0 0 0 5 0 0 1 } ∧
    (claimS (.claimed 0 0 0 5 0 0 1)).fenceMet 5 0 = true ∧
    (claimS (.space 0 0 0 none)).spaceWaiter 0 = some { cmdOf0 false 1 1 0 0 0 0 with settle := .space 0 0 0 none } ∧
    (claimS (.space 0 0 0 none)).cqRoom { cmdOf0 false 1 1 0 0 0 0 with settle := .space 0 0 0 none } = true ∧
    (claimS (.settled 0)).cmdOf 9 = some { cmdOf0 false 1 1 0 0 0 0 with settle := .settled 0 } := by decide
theorem witness_GateResults_abort :
    let s := (cmdS (cmdOf0 false 1 1 0 0 0 0)).putReqs [{ reqOf .squash 0x41 .held [9] with imm := 1 }]
    (s.heldAbort 9).isSome = true ∧ s.cmdOf 9 = some (cmdOf0 false 1 1 0 0 0 0) ∧ (cmdOf0 false 1 1 0 0 0 0).settle = .live ∧
    s.inReset (cmdOf0 false 1 1 0 0 0 0) = false := by decide
theorem witness_CompletionEntryWritten : (cmdOf0 false 1 1 0 0 0 0) ∈ (cmdS (cmdOf0 false 1 1 0 0 0 0)).cmds ∧
    (cmdOf0 false 1 1 0 0 0 0).settle = .live ∧ (cmdS (cmdOf0 false 1 1 0 0 0 0)).inReset (cmdOf0 false 1 1 0 0 0 0) = false ∧
    (cmdS (cmdOf0 false 1 1 0 0 0 0)).sq 0 = some (sqOf0 0) ∧ (cmdS (cmdOf0 false 1 1 0 0 0 0)).cq 0 = some (cqOf0 0) ∧
    (cqOf0 0).full = false ∧ { cqOf0 0 with head := 0 }.full = true := by decide

/-- Namespace 1 of KIND 1, 16 grains, its table at 0x4000000 in 128 MiB of visible memory, with an empty log. -/
def mapNs : NsCfg := { nsReset 1 with cfg := 1, base := 0x4000000, cap := 16 }
def mapS : State :=
  slotS |>.putNs [(1, mapNs)] |>.putRegs
    [(sta 8 0, 0x8000000), (sta 9 0x10, 64), (sta 9 0x18, 64)]
def mapReq (p : Prim) (k n w : Nat) : Req := reqOf p 0x42 .started [BitVec.ofNat 64 k, BitVec.ofNat 64 n, BitVec.ofNat 64 w]
def mapRun (r : Req) : State := mapS.putReqs [r]
theorem witness_MapRowResults : (mapRun (mapReq .mlook (2 ^ 48 + 15) 1 0)).started 0 1 (· = .mlook) = some (mapReq .mlook (2 ^ 48 + 15) 1 0) ∧
    (mapRun (mapReq .mlook (2 ^ 48 + 15) 1 0)).mapBlocked (mapReq .mlook (2 ^ 48 + 15) 1 0) = false ∧
    (∀ n ∈ [1, 8], ((mapS.received { mapReq .mlook (2 ^ 48 + 8) n 0 with cfg := mapNs }).nsAt 1).kind ≠ 0) ∧
    ((mapS.received (mapReq .mlook (2 ^ 48) 1 0)).nsAt 1).kind = 0 ∧
    mapS.rangeOk (BitVec.ofNat 64 (2 ^ 48 + 15)) 2 = false ∧ mapS.rangeOk (BitVec.ofNat 64 (2 ^ 48 + 15)) 1 = true ∧
    mapS.rangeOk (BitVec.ofNat 64 (2 ^ 48 + 8)) 8 = true ∧ (mapS.lookupN 1 false 8 8).toOption = some (List.replicate 8 0) := by
  decide
theorem witness_MapRowResults_ops :
    let r := { mapReq .mcommit (2 ^ 48) 1 5 with cfg := mapNs }
    let t := { mapReq .mtrim (2 ^ 48) 1 0 with cfg := mapNs }
    (mapRun r).started 0 1 (· = .mcommit) = some r ∧ (mapRun t).started 0 1 (· = .mtrim) = some t ∧ ((mapRun r).commitWords r) = some [5] ∧
    ((mapRun r).lookupN 1 false 0 1).toOption = some [0] ∧ (∀ k ∈ [1, 3], ((mapRun r).logAppend
      { key := BitVec.ofNat 64 (2 ^ 48), count := 1, kind := k, loc := 5, first := 0, zoneArg := 0, words := [] }).isSome = true) ∧
    (mapRun t).mappedIn 1 false 0 1 = (0, mapRun t) ∧ ((mapRun r).mcommitOp r).toOption.isSome = true ∧
    ((mapRun (mapReq .mcommit (3 * 2 ^ 48) 1 5)).mcommitOp (mapReq .mcommit (3 * 2 ^ 48) 1 5)).toOption.isNone = true := by decide
/-- A volume of one zone of 64 grains in state `st`. -/
def zoneNs : NsCfg := { mapNs with cfg := 4, cap := 64, zone := BitVec.ofNat 64 (2 ^ 20 + 6 * 2 ^ 40) }
def zoneReq (op n w : Nat) : Req := { mapReq .mzone (2 ^ 48) n w with cfg := zoneNs, imm := BitVec.ofNat _ op }
def zoneS (st : Nat) (r : Req) : State :=
  mapS |>.putNs [(1, zoneNs)] |>.putVolCap [(1, 64)] |>.putReqs [r] |>.putIngot (wrNum [] (zoneOff 0) 8 st)
theorem witness_MapRowResults_zone : (∀ p ∈ [(0, 64, 2 ^ 64 - 1), (0, 64, 0), (2, 0, 5), (5, 0, 0)],
      let r := zoneReq p.1 p.2.1 p.2.2
      (zoneS 2 r).started 0 1 (· = .mzone) = some r ∧ (zoneS 2 r).mapBlocked r = false ∧ fld r.imm 0 4 = p.1 ∧ (zoneS 2 r).rangeOk r.mapKey 1 = true) ∧
    ((zoneS 2 (zoneReq 0 64 0)).nsAt 1).zoned = true ∧ (∀ st ∈ [2, 3], (zoneS st (zoneReq 0 64 0)).zstate 0 = st) ∧
    (zoneS 2 (zoneReq 0 64 0)).zrsv 0 + 64 ≤ (zoneS 2 (zoneReq 0 64 0)).zcap 1 ∧
    ((zoneS 2 (zoneReq 2 0 5)).logAppend { key := BitVec.ofNat 64 (2 ^ 48), count := 0, kind := 6, loc := 0, first := 0, zoneArg := 5, words := [] }).isSome = true := by
  decide
theorem witness_CommitThenLookup : (mapS.nsAt (keyNs (mapReq .mcommit (2 ^ 48) 1 5).mapKey)).kind = 1 ∧
    keyMeta (mapReq .mcommit (2 ^ 48) 1 5).mapKey = false ∧ (mapReq .mcommit (2 ^ 48) 1 5).mapCount = 1 ∧
    bit (mapReq .mcommit (2 ^ 48) 1 5).imm 1 = false ∧
    ((mapS.commitThe (mapReq .mcommit (2 ^ 48) 1 5) [5]).toOption.map (fun r => r.1.poisoned (.dram 0x4000000) 8)) = some false := by decide

/-! ## Witnesses: channels -/

/-- Channel 0 with dies 0 and 1 fitted. -/
def chanS (l : List Req) : State := slotS |>.putRegs [(0x130000, 1), (sta 0x40 0x10, 3)] |>.putReqs l
def verb (p : Prim) (ph : ReqPhase) : Req := reqOf p 0x50 ph [0, 0, 0, 0, 0, 0, 0, 0]
def dieOp0 : DieOp := { core := 0, ticket := 1, erase := false, suspended := false, suspending := false, suspends := 0, served := 0, resumed := 0, began := 0 }
def readReq : Req := { verb .fread .dieQueue with ticket := 2, ops := [1, 0, 0, 0, 0, 0, 0, 0] }
def suspS (o : DieOp) (l : List Req) : State := (chanS l).putDies [(0, { dieReset 0 with op := some o })]
def readyAcc (n : Nat) : VerbAcc :=
  { core := 0, ticket := 1, set := 0, inputs := List.replicate n [], soft := [], began := 0, tag := none, bits := 0, decoded := 0, oc := 0, frames := 0,
    ready := n = 0 }
theorem witness_FlashVerbResults : (chanS [verb .fread .taken]).findReq 0 1 = some (verb .fread .taken) ∧
    (chanS [verb .fread .taken]).nextEntry 0 = some (verb .fread .taken) ∧ (chanS []).chanPresent 0 = true ∧ (chanS []).dieFitted 0 1 = true ∧
    (chanS []).chReset 0 = false ∧ (chanS []).chHeld 0 = false ∧ (chanS [verb .fread .started]).dieChoice 0 0 = none ∧
    ((chanS [verb .fread .started]).die 0 0).op = none ∧ (chanS [verb .fread .started]).pollFor 0 0 0 = some (verb .fread .started) ∧
    bit (0x41 : BitVec 8) 6 = true ∧ ((chanS [verb .fread .started]).dieVerbs 0 0).find? (fun r => decide (r.phase = .started) &&
      !((chanS [verb .fread .started]).acc r).ready && !(chanS [verb .fread .started]).isSuspended r && (chanS [verb .fread .started]).inputDone r &&
      (chanS [verb .fread .started]).timerDue r) = some (verb .fread .started) := by decide
/-- Die 0 runs a program of 12 frames (one plane, one half, TLC) or an erase, with its data input or its status poll to come. -/
def opS (o : DieOp) (a : List VerbAcc) (l : List Req) : State := (suspS o l).putFam { DieFamily.unread with planes := 1, halves := 1 } |>.putAccs a
def progReq : Req := { verb .fprog .started with ops := [0, 0, 1, 0, 0, 0, 0, 0] }
theorem witness_FlashVerbResults_program :
    let s := opS dieOp0 [] [progReq]
    (s.die 0 0).op = some dieOp0 ∧ s.opReq dieOp0 = some progReq ∧ s.inputDone progReq = false ∧ s.busRead 0 = none ∧ s.dieChoice 0 0 = none := by decide
theorem witness_FlashVerbResults_poll : ∀ b ∈ [true, false],
    let s := opS { dieOp0 with suspending := b } [readyAcc 12] [progReq]
    (s.die 0 0).op = some { dieOp0 with suspending := b } ∧ s.opReq { dieOp0 with suspending := b } = some progReq ∧ s.inputDone progReq = true ∧
    s.pollFor 0 0 0 = some progReq ∧ s.dieChoice 0 0 = none ∧ s.chReset 0 = false := by decide
/-- A queued read of another block than the operation's. -/
def otherRead : Req := { readReq with ops := [mkLoc 0 0 0 0 9 0 0 0 0, 0, 0, 0, 0, 0, 0, 0] }
theorem witness_FlashVerbResults_suspend : ∀ n ∈ [11, 12],
    let s := opS dieOp0 [{ readyAcc 1 with inputs := List.replicate n [] }] [{ progReq with imm := 0 }, otherRead]
    (n = 12 → s.inputDone progReq = true ∧ (s.trunPassed 0 dieOp0.resumed).1 = true) ∧ s.gap = false ∧ (s.acc progReq).ready = false ∧
    (s.dieVerbs 0 0).any (fun r => r.qualifies progReq) = true ∧ dieOp0.suspends < dieOp0.limit ∧ s.noSuspend progReq = false ∧ s.dieChoice 0 0 = none := by
  decide
theorem witness_FlashVerbResults_resume : ((opS { dieOp0 with suspended := true } [] [progReq]).dieReads 0 0 = []) ∧
    ((opS { dieOp0 with suspended := true } [] [progReq]).dieVerbs 0 0).filter (fun r => decide (r.phase = .dieQueue) && r.prim.isRead &&
      (opS { dieOp0 with suspended := true } [] [progReq]).mayStart r) = [] ∧ (opS { dieOp0 with suspended := true } [] [progReq]).dieChoice 0 0 = none := by decide
def slot0 (g : Bool) : LdpcReq := { chan := 7, core := 0, ticket := 1, level := 3, granted := g }
theorem witness_FlashVerbResults_ldpc : (slotS.putLdpc [slot0 false]).bankOn 0 = true ∧ 7 / 8 = 0 ∧ slotS.gap = false := by decide
/-- A started verb that a poll has found ready, its decode slot granted. -/
def doneS (r : Req) : State := (chanS [r]).putLdpc [{ slot0 true with chan := 0 }] |>.putAccs [readyAcc 0]
theorem witness_FlashVerbResults_done : (∀ p ∈ [Prim.fread, .fraw, .ferase, .fprog, .fstat, .ffeat],
      (doneS (verb p .started)).findReq 0 1 = some (verb p .started) ∧ (doneS (verb p .started)).isSuspended (verb p .started) = false ∧
      ((doneS (verb p .started)).acc (verb p .started)).ready = true) ∧
    (∀ p ∈ [Prim.fread, .fraw], (doneS (verb p .started)).busRead 0 = some (verb p .started)) ∧
    ((doneS (verb .fread .started)).acc (verb .fread .started)).frames + 1 = (verb .fread .started).readFrames ∧ (verb .fraw .started).senseMode = 0 ∧
    (∀ m ∈ [1, 2], { verb .fraw .started with ops := [0, 0, BitVec.ofNat 64 m] }.senseMode = m) ∧
    ((doneS (verb .fraw .started)).acc (verb .fraw .started)).soft.length < (verb .fraw .started).readFrames ∧
    (∀ b ∈ [true, false], bit ({ verb .ffeat .started with ops := [0, if b then 0x1FF else 0xFF, 7] }.op 1) 8 = b) := by decide

/-- A director word of action `act` with even parity in both halves: bit 63 carries the parity of the upper half. -/
def dirW (act : Nat) : W64 := BitVec.ofNat 64 (act * 2 ^ 42 + popTo act 4 % 2 * 2 ^ 63)
theorem witness_DirectorResults : ∀ act ∈ List.range 13, (chanS []).dirReady 0 (dirW act) act := by decide
theorem witness_DirectorResults_rows : ∀ n ∈ [0, 1, 2], let w := BitVec.ofNat 64 (n * 2 ^ 46)
    ∀ r ∈ dirRows ((chanS []).setChan 0 { (chanS []).chan 0 with counter := 1 }) 0 w, r.after.chRuns 0 = true := by decide
theorem witness_DirectorResults_checks : (chanS []).chRuns 0 = true ∧ evenParity ((chanS []).dirWord 0 1) 0 = false ∧
    12 < fld ((chanS []).dirWord 0 (BitVec.ofNat 64 (13 * 2 ^ 42 + 2 ^ 63))) 42 4 := by decide

/-- A sequencer word of operation `op` and argument `arg`, its parity in bit 31. -/
def seqW (op arg : Nat) : BitVec 32 := BitVec.ofNat 32 (op + arg * 16 + popTo (op + arg * 16) 32 % 2 * 2 ^ 31)
def seqS (st : List Nat) : State := (chanS []).setChan 0 { (chanS []).chan 0 with seqRun := true, seqStack := st, seqPc := 7 }
theorem witness_SequencerResults : (∀ op ∈ List.range 11, (seqS []).seqReady 0 (seqW op 0x10) op) ∧
    (seqS []).chRuns 0 = true ∧ evenParity ((seqS []).seqWord 0 1) 0 = false ∧ 4 ≤ ((seqS [1, 2, 3, 4]).chan 0).seqStack.length := by decide
theorem witness_SequencerResults_checks : (seqS [1, 2, 3, 4]).seqReady 0 (seqW 6 0) 6 ∧ 4 ≤ ((seqS [1, 2, 3, 4]).chan 0).seqStack.length ∧
    (seqS []).seqReady 0 (seqW 7 0) 7 ∧ ((seqS []).chan 0).seqStack = [] ∧ evenParity ((seqS []).seqWord 0 1) 0 = false ∧ bit (seqW 8 0x400) 20 = false ∧
    (seqS []).seqReady 0 (seqW 8 0x400) 8 ∧ seqArg ((seqS []).seqWord 0 (seqW 8 0x400)) = 0x400 ∧ 0x400 + (seqS []).seqPatchWords 0 ≤ 0x400 := by decide
theorem witness_SequencerResults_rows : (∀ r ∈ seqRows (seqS [5]) 0 0 { zeros := 0, hard := some 0 } 0, r.after.chRuns 0 = true ∧ r.next ≤ 0x47F) ∧
    (seqRows (seqS [5]) 0 0 { zeros := 0, hard := some 0 } 0).map (·.op) = [0, 1, 2, 5, 8, 9, 10, 6, 7] := by decide
/-- A program's input and a read's output on the bus. -/
def frameS (r : Req) (a : VerbAcc) : State :=
  ((opS dieOp0 [a] [r]).setChan 0 { (chanS []).chan 0 with seqRun := true, cur := some (0, 1), busGrant := true }).putLdpc [{ slot0 true with chan := 0 }]
theorem witness_SequencerResults_frames :
    3 ∈ (seqRows (frameS progReq (readyAcc 0)) 0 0 { zeros := 0, hard := some 0 } 0).map (·.op) ∧
    4 ∈ (seqRows (frameS (verb .fread .started) (readyAcc 0)) 0 0 { zeros := 0, hard := some 0 } 0).map (·.op) := by decide +kernel

theorem witness_MachineCheckEffects : (chanS []).chRuns 31 = true ∧ (chanS []).chanVerbs 31 = [] ∧ (chanS [verb .fread .started]).chanVerbs 0 ≠ [] ∧
    1 ≤ (5 : BitVec 4).toNat ∧ ((List.replicate 8 (0 : W64)).filter (fun x => (0 : W64).toNat - x.toNat < 65536)).length = 8 := by decide
def lrstS : State := (chanS []).setReg (chReg 0 8) 1
theorem witness_MachineCheckEffects_reset : lrstS.chanPresent 0 = true ∧ lrstS.chReset 0 = true ∧ lrstS.chHeld 0 = false ∧
    lrstS.patchRecOk 0 = false := by decide

/-! ## Witnesses: the data mover, the cipher, the vault and the parity engine -/

/-- One started request in an up device with 64 MiB and a page of visible memory and one live command. -/
def engS (p : Prim) (ops : List W64) : State :=
  cmdS (cmdOf0 false 1 1 0 0 0 0) |>.putReqs [reqOf p 0x43 .started ops] |>.putRegs [(0x130000, 1), (sta 8 0, 0x4001000)]
/-- Mover addresses of device memory: its beginning, and its last 4 KiB. -/
def lowMem : W64 := 0x1000000000000000
def topMem : W64 := 0x1000000004000000
def xferOps : List W64 := [9, topMem, BitVec.ofNat 64 (0x1000 * 4294967296), 0, 0]
theorem witness_MoverResults : (engS .dmin xferOps).started 0 1 (· = .dmin) = some (reqOf .dmin 0x43 .started xferOps) ∧
    ([] : List Byte).length ≤ (reqOf .dmin 0x43 .started xferOps).xferLen ∧
    (engS .dmin xferOps).xferCut (reqOf .dmin 0x43 .started xferOps) = none ∧
    (List.replicate 4096 (0 : Byte)).length = (reqOf .dmin 0x43 .started xferOps).xferLen ∧
    (engS .dmin xferOps).cmdOf ((reqOf .dmin 0x43 .started xferOps).op 0) = some (cmdOf0 false 1 1 0 0 0 0) ∧
    (engS .dmin [8, topMem, 0]).xferCut (reqOf .dmin 0x43 .started [8, topMem, 0]) = some 0x03 ∧
    (engS .dmout xferOps).gateShut = false ∧ (engS .dmout xferOps).xferCut (reqOf .dmout 0x43 .started xferOps) = none ∧ (cmdOf0 false 1 1 0 0 0 0).settle = .live ∧
    (engS .dmout xferOps).inReset (cmdOf0 false 1 1 0 0 0 0) = false := by decide
theorem witness_MoverResults_out : (engS .dmout xferOps).started 0 1 (· = .dmout) = some (reqOf .dmout 0x43 .started xferOps) ∧
    (engS .dmout xferOps).moverLoc ((reqOf .dmout 0x43 .started xferOps).op 1) 0x1000 = some (.dram 0x4000000) ∧
    (((engS .dmout xferOps).touch (.dram 0x4000000, 0x1000)).findReq 0 1).isSome = true ∧
    ((engS .dmout xferOps).touch (.dram 0x4000000, 0x1000)).poisoned (.dram 0x4000000) 0x1000 = false ∧
    (((engS .dmout xferOps).putPoison [(2 ^ 48 + 0x800000, true)]).touch (.dram 0x4000000, 0x1000)).poisoned (.dram 0x4000000) 0x1000 = true ∧
    bit ({ reqOf .dmout 0x43 .started xferOps with imm := 1 }).imm 0 = true := by decide
theorem witness_MoverResults_copy : (engS .dmcopy [lowMem, topMem, 0x1000]).started 0 1 (· = .dmcopy) =
      some (reqOf .dmcopy 0x43 .started [lowMem, topMem, 0x1000]) ∧
    (engS .dmcopy []).moverLoc lowMem 0x1000 = some (.dram 0) ∧ (engS .dmcopy []).moverLoc topMem 0x1000 = some (.dram 0x4000000) ∧
    (((engS .dmcopy []).touch (.dram 0, 0x1000)).findReq 0 1).isSome = true ∧ (engS .dmcopy []).moverLoc topMem 0x1001 = none := by decide
theorem witness_FillThenRead : (engS .dmfill [topMem, 0x1000, 5]).started 0 1 (· = .dmfill) =
      some (reqOf .dmfill 0x43 .started [topMem, 0x1000, 5]) ∧ fld topMem 60 4 = 1 ∧ (0x1000 : W64).toNat % 8 = 0 ∧
    fld topMem 0 39 + (0x1000 : W64).toNat ≤ (engS .dmfill []).dramSize ∧ (reqOf .dmfill 0x43 .started []).recCluster = false := by decide

def slotKey (kind : Nat) : VSlot := { kind := kind, key := List.replicate 64 1, origin := 1, bound := 1, holder := [] }
def vaultS (p : Prim) (ops : List W64) : State := (engS p ops).putVault [(8191, some (slotKey 0)), (5, some (slotKey 1))]
theorem witness_CipherParityResults : (vaultS .xts [topMem, lowMem, 8191, 0, 1]).started 0 1 (· = .xts) =
      some (reqOf .xts 0x43 .started [topMem, lowMem, 8191, 0, 1]) ∧ (vaultS .xts []).vslot (fld (8191 : W64) 0 13) = some (slotKey 0) ∧
    (slotKey 0).kind = 0 ∧ (vaultS .xts []).vslot 4 = none ∧ (vaultS .xts []).vslot 5 = some (slotKey 1) ∧ (slotKey 1).kind ≠ 0 ∧
    ((vaultS .xts []).drbg 256).1 = true ∧ ((vaultS .xts []).drbg 256).2.moverLoc topMem 4096 = some (.dram 0x4000000) ∧ fld lowMem 60 4 ≠ 2 ∧
    (((vaultS .xts []).touch (.dram 0x4000000, 4096)).findReq 0 1).isSome = true := by decide
theorem witness_CipherParityResults_cmac : (vaultS .cmac [topMem, 4096, 5, lowMem]).started 0 1 (· = .cmac) =
      some (reqOf .cmac 0x43 .started [topMem, 4096, 5, lowMem]) ∧ (slotKey 1).kind = 1 ∧
    ((vaultS .cmac []).touch (.dram 0x4000000, 4096)).poisoned (.dram 0x4000000) 4096 = false ∧ (vaultS .cmac []).moverLoc lowMem 16 = some (.dram 0) := by
  decide
theorem witness_CipherParityResults_rest : (vaultS .vslot [0, 8191]).started 0 1 (· = .vslot) = some (reqOf .vslot 0x43 .started [0, 8191]) ∧
    (∀ n ∈ List.range 5, fld (BitVec.ofNat 32 n) 0 4 = n) ∧
    (engS .pxor [topMem, lowMem, 64]).started 0 1 (fun p => p = .pxor ∨ p = .pmac) = some (reqOf .pxor 0x43 .started [topMem, lowMem, 64]) ∧
    (engS .pcheck [topMem, lowMem, 64]).started 0 1 (· = .pcheck) = some (reqOf .pcheck 0x43 .started [topMem, lowMem, 64]) ∧
    ((((engS .pxor []).touch (.dram 0x4000000, 64)).touch (.dram 0, 64)).findReq 0 1).isSome = true ∧
    (reqOf .pxor 0x43 .started [topMem, lowMem, 64]).parLen = 64 ∧ (engS .pxor []).moverLoc topMem 64 = some (.dram 0x4000000) ∧
    (∀ l ∈ [Loc.dram 0, .dram 0x4000000], (((engS .pxor []).touch (.dram 0x4000000, 64)).touch (.dram 0, 64)).poisonIn l 64 = []) ∧ firstDiff [0, 1] [0, 2] = some 1 ∧ firstDiff [0, 1] [0, 1] = none ∧
    (engS .arec []).started 0 1 (· = .arec) = some (reqOf .arec 0x43 .started []) ∧
    slotS.trngRestarts.length < 3 ∧ slotS.drbgLeft = none ∧
    ((engS .arec []).putAlm { State.reset.alm with done := [(0, 1, 2 ^ 32)] }).alm.done = [(0, 1, 2 ^ 32)] ∧
    ((slotS.putTrngRestarts [0, 0, 0]).trngRestarts.filter (fun x => (0 : W64).toNat - x.toNat < slotS.secondTicks)).length = 3 := by decide

def sess0 (est : Bool) : Session := { sid := 0x11, slot := 8184, established := est, func := none, leaf := 5, beat := 0 }
/-- Vault operation `op` on slot `n` with further operands `x` and `y`, in a locked device when `lock`. -/
def vaultOp (op n : Nat) (l : List W64) (lock : Bool) : State :=
  (engS .vslot []) |>.putReqs [{ reqOf .vslot 0x43 .started (0 :: BitVec.ofNat 64 n :: l) with imm := BitVec.ofNat 32 op }]
    |>.putVault [(8183, some { slotKey 0 with bound := 2 }), (7, some (slotKey 0)), (5, some (slotKey 1)), (8184, some (slotKey 1))]
    |>.putSessions [sess0 true] |>.setReg vaultStat (if lock then 2 else 0)
theorem witness_CipherParityResults_vslot : (∀ op ∈ [0, 1, 2, 3, 4], ((vaultOp op 6 [] false).started 0 1 (· = .vslot)).map (fun r => fld r.imm 0 4) = some op) ∧
    (vaultOp 2 6 [] true).dbgLock = true ∧ (vaultOp 2 6 [] false).dbgLock = false ∧ ((vaultOp 2 5 [] false).vslot 5).isSome = true ∧
    (vaultOp 2 6 [] false).vslot 6 = none ∧ bit ((vaultOp 2 6 [] false).reg vaultStat) 2 = false ∧ (vaultOp 3 6 [] false).sessionKey 0x12 8184 = none ∧
    (vaultOp 3 6 [] false).sessionKey 0x11 8184 = some (sess0 true, (slotKey 1).key) ∧ (vaultOp 3 6 [] false).moverLoc lowMem 72 = some (.dram 0) ∧
    (((vaultOp 3 6 [] false).touch (.dram 0, 72)).findReq 0 1).isSome = true ∧ (vaultOp 4 7 [] false).vslot 7 = some (slotKey 0) ∧
    (vaultOp 4 7 [] false).slotOfNs 2 = some 8183 ∧ (vaultOp 4 7 [] false).slotOfNs 1 = some 7 ∧ (vaultOp 4 7 [] false).slotOfNs 3 = none := by decide

/-! ## Witnesses: the Span -/

def roleReg (role : Nat) : W64 := BitVec.ofNat 64 (role * 4 + 32)
/-- A device of a role, its port 0 in a link state, its routes as given. -/
def spanS (role st : Nat) (rs : List (Nat × W64)) : State :=
  slotS |>.putRegs ([(0x130000, 1), (idRole, roleReg role), (spReg 0 0, BitVec.ofNat 64 st), (sta 0xD 0, 3)] ++ rs)
def trainUp : TrainResult := { up := true, width := 2, speed := 1, serial := 77, initiator := true, farPort := 0 }
def flit0 (good : Bool) : Flit :=
  { kind := 1, vc := 2, seq := 0, ack := 0, nak := false, credVc := 0, cred := 0, good := good, fixed := false }
theorem witness_SpanLinkResults : (spanS 2 2 []).spanPresent 0 = true ∧ (spanS 2 2 []).domeOn 2 = true ∧ (spanS 2 2 []).role ≠ 0 ∧
    (spanS 2 2 []).linkState 0 = 2 ∧ (spanS 2 4 []).linkState 0 = 4 ∧ (spanS 2 5 []).linkState 0 = 5 ∧ trainUp.up = true ∧
    (spanS 2 2 []).isWorker = false ∧ ((spanS 2 2 []).isManager = true → trainUp.initiator = true → trainUp.farPort = 0) ∧
    (spanS 2 2 []).power ≠ 3 ∧ (spanS 2 3 []).linkState 0 = 3 ∧ (flit0 false).good = false ∧ (flit0 true).kind = 1 ∧ (flit0 true).vc.toNat < 3 ∧ (flit0 true).seq.toNat = (((spanS 2 3 []).sport 0).rxSeq + 1) % 4096 ∧
    bit ((spanS 2 3 []).reg (sta 0xD 0)) 1 = true ∧ bit ((spanS 2 3 []).reg idRole) 5 = true ∧
    (spanS 2 3 []).tick.toNat % max 1 ((spanS 2 3 []).rfld (sta 0xD 0x10) 0 9) = 0 := by decide

/-- A message of a type from member 2 to this device over one hop. -/
def msg (typ : Nat) (resp posted : Bool) : SpanMsg :=
  { dst := 0xFE, src := 2, typ := BitVec.ofNat 8 typ, flags := 0, reqNo := 1, gen := 0, hops := 1, level := 0, resp := resp, posted := posted,
    ver := 0x13, status := 0, hw0 := 1, hw1 := 0x542, hw2 := 3, hw3 := 4, payload := [] }
def arrReg (typ : Nat) : Nat × W64 := (sta 0xD (0x2000 + 8 * typ), BitVec.ofNat 64 (2 ^ 14))
theorem witness_SpanMessageResults : (∀ typ ∈ [1, 2, 3, 4, 5, 6, 7, 0x10, 0x11], (spanS 2 3 []).Delivered 0 (msg typ false true)) ∧
    (msg 0x10 false false).resp = false ∧ 0x10 ≤ (msg 0x10 false false).typ.toNat ∧ bit ((spanS 2 3 []).reg (sta 0xD 0)) 0 = true ∧
    bit ((spanS 2 3 []).reg (sta 0xD (0x2000 + 8 * 0x10))) 14 = false ∧ bit ((spanS 2 3 [arrReg 0x10]).reg (sta 0xD (0x2000 + 8 * 0x10))) 14 = true ∧
    (msg 0x10 false false).gen.toNat = FMap.get (fun _ => 0) (spanS 2 3 []).dupGen 2 ∧ bit (msg 0x10 false false).flags 1 = false ∧
    FMap.get (fun _ => 0) (spanS 2 3 []).dupGen 2 = 0 ∧ (spanS 2 3 []).dups = [] ∧
    ((spanS 2 3 [arrReg 0x10, (sta 4 0x100, 4)]).spanNew 0 (msg 0x10 false false)).isSome = true ∧ (spanS 2 3 []).resOut = [] ∧ { msg 4 false true with src := 0x41 }.src.toNat ≤ 0x41 ∧
    (spanS 2 3 []).Delivered 0 { msg 4 false true with src := 0x41 } ∧
    ((spanS 2 3 [(sta 0xD 0x1010, BitVec.ofNat 64 (2 ^ 28))]).pairVer 2) ≠ 0 ∧ (spanS 1 3 []).isWorker = true ∧ (spanS 1 3 []).enclosure = 0 ∧
    (spanS 1 3 []).enclMember = none ∧ (spanS 1 3 []).Delivered 0 (msg 2 false false) ∧ (spanS 2 3 []).isManager = true ∧
    (msg 4 false true).payload = [] ∧ (∀ x ∈ (spanS 2 3 []).members, x.2 = none) := by decide
def tx0 : SpanTx := { core := 0, ticket := 1, num := 1, gen := 0, dst := 2, port := 0, start := 0 }
def txS : State := (spanS 2 3 []) |>.putSpanOut [tx0] |>.putReqs [reqOf .sreq 0x4C .started [0x1102, 0]] |>.putTick 100000
theorem witness_SpanMessageResults_resp : txS.Delivered 0 (msg 0x11 true false) ∧ txS.spanOut = [tx0] ∧ tx0.num = (msg 0x11 true false).reqNo ∧
    txS.txReq tx0 = some (reqOf .sreq 0x4C .started [0x1102, 0]) ∧ (reqOf .sreq 0x4C .started [0x1102, 0]).spTyp = 0x11 ∧
    (reqOf .sreq 0x4C .started [0x1102, 0]).spFlags / 4 % 2 = 0 ∧
    txS.spanOut.find? (fun x => decide (x.core = 0) && decide (x.ticket = 1)) = some tx0 ∧
    (msg 0x11 true false).posted = false ∧ (msg 0x11 true false).payload = [] ∧ tx0.gen = (msg 0x11 true false).gen ∧ tx0.dst = (msg 0x11 true false).src.toNat ∧
    tx0.start.toNat + txS.rfld (sta 0xD 8) 0 20 ≤ txS.tick.toNat := by decide

def member5 : Member :=
  { serial := 5, chain := 0, pos := 0, hops := 1, dies := 0, cap := 0, ver := 0x13, state := 2, seen := 0, busy := 0, temp := 0, recon := 0, record := [] }
def memS : State := (spanS 2 3 [(sta 0xD 0x10, 16)]) |>.putMembers [(0x41, some member5)] |>.putTick 64
theorem witness_MemberChanges : memS.isManager = true ∧ memS.up ∧ memS.spanPresent 0 = true ∧ memS.linkUp 0 = true ∧
    ((memS.setSport 0 { memS.sport 0 with asked := 1 }).sport 0).asked = 1 ∧ memS.member 0x41 = some member5 ∧ 0x41 ≠ memS.ownMember ∧
    memS.memberLost 0x41 = false ∧ memS.routePort 0x41 = none ∧ 0x41 ≠ memS.peerId ∧ memS.spanOut = [] ∧ memS.resOut = [] ∧ memS.volumes = [] := by decide
/-- The same with a route, silent for four periods, its PING sent at tick 0 or not at all. -/
def silentS (asked : List (Nat × W64)) : State :=
  (spanS 2 3 [(sta 0xD 0x10, 16), (sta 0xD (0x1000 + 8 * 0x41), 4)]) |>.putMembers [(0x41, some member5)] |>.putTick 64 |>.putPings asked
theorem witness_MemberChanges_silent : (silentS []).member 0x41 = some member5 ∧ (silentS []).isManager = true ∧ (silentS []).memberLost 0x41 = false ∧
    member5.seen.toNat + 4 * (silentS []).rfld (sta 0xD 0x10) 0 9 ≤ (silentS []).tick.toNat ∧ ((silentS []).routePort 0x41).isSome = true ∧
    (silentS []).pings.find? (fun y => y.1 = 0x41) = none ∧
    (silentS [(0x41, 0)]).pings.find? (fun y => y.1 = 0x41) = some (0x41, 0) ∧ 0 + (silentS [(0x41, 0)]).usTicks 64 ≤ 64 ∧ 0x41 ≠ (silentS []).peerId := by decide

/-! ## Witnesses: domes, thermal, almanac and media care -/

def entry0 (done : Bool) (w : List Nat) : DomeEntry :=
  { voter := 2, core := 0, ticket := 1, num := 5, target := 2, start := 0, waiting := w, agreed := [3], committed := done, wake := false }
def entryS (d : Nat) (e : DomeEntry) : State := slotS |>.putDomeEntry [(d, some e)] |>.putTick 4
theorem witness_DomeResults : (entryS 7 (entry0 false [4, 6])).entryOf 7 = some (entry0 false [4, 6]) ∧ (entry0 false [4, 6]).committed = false ∧
    (entry0 false [4, 6]).start.toNat + 4 ≤ (entryS 7 (entry0 false [4, 6])).tick.toNat ∧ (entry0 false [4, 6]).waiting = 4 :: [6] ∧
    (entryS 23 (entry0 true [])).entryOf 23 = some (entry0 true []) ∧ (entryS 23 (entry0 true [])).findReq 0 1 = none ∧
    FMap.get (fun _ => (none : Option (List (CoreId × Ticket)))) (slotS.putDomeWake [(23, some [])]).domeWake 23 = some [] ∧
    FMap.get (fun _ => []) (slotS.putDomeWake [(23, some [])]).domeAgreed 23 = [] := by decide
/-- Dome 28 is off and woken by level source 7 alone. -/
def wakeS : State := slotS |>.putRegs ([(0x130000, 1), (sta 0xE (8 * 28), 3), (sta 0xE 0x810, 0)] ++ (List.range 29).map (fun x => (sta 0xE (0x400 + 8 * x), if x = 28 then 0x80 else 0)))
theorem witness_DomeResults_source : isWakeSource 10 = false ∧ (∀ src ∈ [7, 16, 31], isWakeSource src = true ∧ wakeS.sourceOn src = true ∧
      wakeS.edgeSource src = false) ∧ slotS.edgeSource 9 = true ∧ slotS.sourceOn 9 = false ∧
    ((slotS.setReg (sta 0xE 0x800) 0x8000).edgeSource 31) = true := by decide
theorem witness_DomeResults_wake : (∀ x < 29, bit (wakeS.reg (sta 0xE (0x400 + 8 * x))) 7 = decide (x = 28)) ∧ wakeS.entryOf 28 = none ∧
    wakeS.domeState 28 ≠ 0 ∧ wakeS.domeBusy 28 = false ∧ wakeS.sourceOn 7 = true ∧ wakeS.edgeSource 7 = false ∧ (entry0 true []).target < 4 ∧ (entry0 true []).wake = false := by decide

theorem witness_ThermalResults : maxTemp (List.replicate 23 0x190 ++ [0x9E0]) = some 0x9E0 ∧ maxTemp (List.replicate 24 0x7FFF) = none ∧
    slotS.tripAt = 0x9E0 ∧ (slotS |>.putCoolSince (some 0) |>.putStopped true |>.putTick 0xFFFFFFF).coolSince = some 0 ∧
    slotS.secondTicks ≤ 0xFFFFFFF ∧ maxTemp (List.replicate 24 0xFF00) = some (-256) := by decide

def rec0 : AlmRec := { code := 0x0101, sev := 1, src := 2, params := [0, 0, 0, 0, 0], optime := 0, req := none }
def almS (held : Nat) : State := slotS |>.putRegs [(0x130000, 1), (sta 9 0, 1)] |>.putAlm
  { State.reset.alm with held := held, queue := [rec0], rdy := true }
theorem witness_AlmanacResults : (almS 0).alm.queue = rec0 :: [] ∧ (almS 0).domeOn 28 = true ∧ (almS 0).ingotOpen = true ∧ (almS 0).alm.rdy = true ∧
    rec0.req = none ∧ bit ((almS 0).reg (sta 9 0)) 0 = true ∧ (almS 0).alm.woke = false ∧ (almS 0).alm.held < almSlots ∧ almSlots ≤ (almS almSlots).alm.held ∧ (almS 0).up ∧
    ((almS 0).putTick 0x400000).tick.toNat % 2 ^ 22 = 0 ∧
    ((almS 0).putAlm { (almS 0).alm with optime := 65536 }).history.hour < ((almS 0).putAlm { (almS 0).alm with optime := 65536 }).alm.optime / 65536 := by
  decide

/-- A die family of one plane, one half and 4 blocks of 4 pages. -/
def fam0 : DieFamily :=
  { DieFamily.unread with planes := 1, halves := 1, blocks := 4, pagesTlc := 4, pagesQlc := 4, pagesPslc := 4, ratedPe := 3000 }
/-- Channel 0 with dies 0 and 1 of that family, the ingot store open, block 1 of die 0 in use `u`. -/
def careS (u : Nat) (rs : List (Nat × W64)) : State :=
  slotS |>.putFam fam0 |>.putRegs ([(0x130000, 1), (sta 0x40 0x10, 3), (sta 9 0, 1)] ++ rs) |>.putCare
    { State.reset.care with blocks := [(1, u), (2, 1)], erases := [(1, 9)], sweeps := [(0, 1, 31)] } |>.putParams
    { State.reset.params with riser := 50, spread := 8, factor := 120, patrol := 168 }
def loc1 : W64 := mkLoc 0 0 0 0 1 3 3 0 0
theorem witness_CareResults : (careS 2 []).up ∧ (careS 2 []).locOk loc1 = true ∧ (careS 2 []).chanUp (locChan loc1) = true ∧
    (careS 2 []).blkUse (locBlk loc1) = 2 ∧ senseWeak { zeros := 65, hard := some 108 } = false ∧ senseWeak { zeros := 65, hard := some 109 } = true ∧
    locPage loc1 ≠ 0 ∧ (((careS 2 []).hcount 14 1).hcount 4 0).extentAt loc1 = none ∧ (0, 1, 31) ∈ (careS 2 []).care.sweeps ∧
    (((((careS 2 []).hcount 14 1).hcount 4 1).queueRefresh loc1).queueSweep loc1).extentAt loc1 = none ∧ (careS 2 []).chanUp 0 = true := by decide

def ext0 : Extent :=
  { group := 0, mode := 0, use := 1, ns := 1, handle := 0, rg := 0, blocks := [], fill := 0, rows := 0, first := none, wrote := 0,
    closed := some 0, refresh := true, verify := true }
def extS : State := (careS 2 []).putCare { (careS 2 []).care with extents := [(7, some ext0)] }
theorem witness_CareResults_moves : extS.up ∧ extS.extent 7 = some ext0 ∧ ext0.closed ≠ none ∧ ext0.verify = true ∧ ext0.refresh = true ∧ (extS.relocate 7 ext0 false).isSome = true ∧
    extS.freeExtents < max 16 (ceilDiv extS.committedExtents 200) ∧ extS.victim = some (7, ext0) ∧ (extS.putFam DieFamily.unread).params.spread < (extS.putFam DieFamily.unread).wearSpread 0 ∧
    (extS.putFam DieFamily.unread).coldest 0 = some (7, ext0) ∧ ((extS.putFam DieFamily.unread).relocate 7 ext0 true).isSome = true := by decide
theorem witness_CareResults_erase : (careS 3 []).up ∧ (careS 3 []).chanUp 0 = true ∧ (careS 3 []).care.sanit ≠ 2 ∧ (careS 3 []).ingotOpen = true ∧ (careS 3 []).blkUse 1 = 3 ∧ (careS 3 []).locOk (mkLoc 0 0 0 0 1 0 0 0 0) = true ∧
    (careS 3 []).dieIntents 0 0 < 32 ∧ ((careS 3 []).writeIntent (eraseReq (mkLoc 0 0 0 0 1 0 0 0 0))).isSome = true ∧
    100 * ((careS 3 []).eraseCount 1 + 1) < (careS 3 []).params.factor * (careS 3 []).fam.ratedPe := by decide

/-! ## Witnesses: the host port -/

def liveCtrl : Ctrl := { ctrlReset 0 with cc := 0x00460001, rdy := true }
/-- Function 0 enabled, with queue 0 (context 0) holding one entry to fetch. -/
def hostS : State := slotS |>.putRegs [(0x130000, 1), (sta 4 0x100, 4), (sta 4 0x108, 4)] |>.putSqs [(0, some (sqOf0 0)), (1, some { sqOf0 3 with head := 1 })] |>.putCqs [(0, some (cqOf0 3))] |>.putCtrls [(0, liveCtrl)]
  |>.putFetchLeft 1
theorem witness_HostPortResults : hostS.sqOf 0 5 = none ∧ hostS.cqOf 0 0 = none ∧ hostS.sqOf 0 3 = some (1, { sqOf0 3 with head := 1 }) ∧
    hostS.cqOf 0 3 = some (0, cqOf0 3) ∧ (sqOf0 3).entries ≤ fld (16 : BitVec 32) 0 16 ∧ fld (15 : BitVec 32) 0 16 < (sqOf0 3).entries ∧
    hostS.gap = false ∧ hostS.fetchLeft ≠ 0 ∧ hostS.domeOn 1 = true ∧ hostS.holderPick = some 0 ∧ ((hostS.queuePick 0).map (·.1)) = some 0 ∧
    (List.replicate 384 (0 : Byte)).length ≤ 384 ∧ hazOpcode (fld (0x02 : BitVec 512) 0 8) = false ∧ (hostS.alloc 63 0 false).isSome = true := by decide
def flr0 : Reset := { token := 5, kind := 0, func := 0, slice := none, srst := 0, reported := true }
def resetS : State := hostS.putResets [flr0]
theorem witness_HostPortResults_reset : hostS.up ∧ hostS.funcExists 0 = true ∧ bit (hostS.ctrl 0).cc 0 = true ∧ (hostS.ctrl 0).rdy = true ∧
    flr0.reported = true ∧ flr0.slice = none ∧ flr0.kind = 0 ∧ hostS.resets = [] ∧
    (∀ a ∈ [0x10001, 0x10000], ({ ctrlReset 0 with cc := setBit 0x00460000 0 true, aqa := BitVec.ofNat _ a } : Ctrl).cfgOk = decide (a = 0x10001)) ∧
    resetS.resets = [flr0] ∧ flr0.token = 5 ∧ resetS.cmds.any (fun d => flr0.holds d && d.unsettled) = false ∧ resetS.resetBusy flr0 = false ∧
    resetS.framesBusy flr0.func = false ∧ slotS.boot.strapped = true ∧ slotS.boot.perstLow = false ∧ slotS.boot.pwrFail = false ∧
    slotS.ctrlUp 0 = true ∧ bit (slotS.ctrl 0).cc 0 = false ∧ slotS.resets = [] ∧ slotS.faulted = false ∧ (hostS.ctrl 0).live = true ∧
    (hostS.ctrl 0).shst = 0 ∧ resetS.resets.any (fun r => decide (r.func = 0) && decide (r.kind = 0)) = true := by decide
theorem witness_FaultResetEffects_fetch : ∀ n ∈ [1, 2], (slotS.putSramErr [(sramKey 0 (core0.bankIndex 5), n)]).runs 0 = true ∧
    (slotS.putSramErr [(sramKey 0 (core0.bankIndex 5), n)]).sramErr = [(sramKey 0 (core0.bankIndex 5), n)] ∧
    ((slotS.putSramErr [(sramKey 0 (core0.bankIndex 5), n)]).rtCorrected 0 (sramKey 0 (core0.bankIndex 5) % 0x1000000)).up := by decide
theorem witness_FaultResetEffects : slotS.up ∧ (0x3FFFFF : BitVec 24).toNat < sramWords 0x88 ∧ slotS.sramArray 0x88 = true ∧ slotS.sramArray 0xFF = false ∧
    (∀ r ∈ (slotS.putReqs [reqOf .gate 0x41 .waiting []]).reqs, r.phase = .started → r.prim ≠ .fprog ∧ r.prim ≠ .ferase) := by decide

/-! ## Witnesses: admin commands -/

/-- A device whose function 0 is enabled, with one live admin command. -/
def admS (d : Cmd) : State := hostS.putCmds [d]
/-- With no event queued for a command, taking its event changes nothing: each `s.takeEvent k` below is its `s`. -/
theorem takeEvent_of_cores (s : State) (e : W64) (h : s.cores = slotS.cores) : s.takeEvent e = s := by
  unfold State.takeEvent; rw [h]; rfl
def adm (op nsid d10 d11 d12 : Nat) : Cmd := cmdOf0 true op nsid d10 d11 d12 0
theorem witness_QueueAdminResults : (∀ op ∈ [0x00, 0x01, 0x02, 0x04, 0x05, 0x06, 0x08, 0x09, 0x0A, 0x0C, 0x0D, 0x10, 0x11, 0x14, 0x15, 0x19, 0x1A, 0x1C, 0x80,
      0x81, 0x82, 0x84, 0xC0], (admS (adm op 0 0 0 0)).Waits 9 true op (adm op 0 0 0 0)) ∧ (adm 5 0 0 0 0).qid = 0 ∧
    ((admS (adm 5 0 3 0 0)).cqOf 0 (adm 5 0 3 0 0).qid).isSome = true ∧ ((admS (adm 5 0 0xFFFF 0 0)).granted 0) < 0xFFFF := by decide
/-- Create queue 2 of 16 entries. -/
def create (op d11 : Nat) : Cmd := adm op 0 (2 + 15 * 65536) d11 0
theorem witness_QueueAdminResults_create : (create 5 1).qid ≠ 0 ∧ (create 5 1).qid ≤ (admS (create 5 1)).granted 0 ∧
    (admS (create 5 1)).cqOf 0 2 = none ∧ (create 5 1).shapeBad = none ∧ (admS (create 5 1)).pasidBad (create 5 1) = false ∧
    fld ((admS (create 5 1)).ctrl 0).cc 20 4 = 4 ∧ bit (BitVec.ofNat 32 ((create 5 1).dw 11)) 1 = false ∧
    freeNumber ((admS (create 5 1)).cqs.map (·.1)) = some 2048 ∧
    (admS (create 1 0x40001)).cqOf 0 ((create 1 0x40001).dw 11 / 65536) = none ∧
    (admS (create 1 0x30001)).cqOf 0 ((create 1 0x30001).dw 11 / 65536) = some (0, cqOf0 3) ∧ (admS (create 1 0x30001)).sqOf 0 2 = none ∧
    (create 1 0x30001).pasidArg = (cqOf0 3).pasid ∧ fld ((admS (create 1 0x30001)).ctrl 0).cc 16 4 = 6 ∧
    freeNumber ((admS (create 1 0x30001)).sqs.map (·.1)) = some 2048 := by decide
theorem witness_QueueAdminResults_delete : (admS (adm 0 0 3 0 0)).sqOf 0 (adm 0 0 3 0 0).qid = some (1, { sqOf0 3 with head := 1 }) ∧
    (admS (adm 4 0 3 0 0)).cqOf 0 (adm 4 0 3 0 0).qid = some (0, cqOf0 3) ∧
    (admS (adm 4 0 3 0 0)).sqs.any (fun p => (p.2.map (fun q => q.cq)) = some 0) = true ∧
    ((admS (adm 4 0 3 0 0)).putSqs []).sqs.any (fun p => (p.2.map (fun q => q.cq)) = some 0) = false ∧ (adm 9 0 7 0 0).dw 10 % 256 = 7 ∧
    ((admS (adm 0xC 0 0 0 0)).ctrl 0).aer.length < 16 ∧ 16 ≤ (List.replicate 16 (0 : W64)).length ∧
    (admS (adm 0xC 0 0 0 0)).events.find? (fun p => p.1 = 0) = none := by decide
/-- An Abort of command 1, which is a live read of I/O queue 3, with `n` Aborts before it; and a claim waiting in that queue. -/
def abortS (n : Nat) : State :=
  hostS.putCmds ((List.range n).map (fun i => { adm 8 0 0 0 0 with key := BitVec.ofNat 64 (100 + i) }) ++
    [adm 8 0 (3 + 7 * 65536) 0 0, { cmdOf0 false 2 1 0 0 0 0 with key := 10, sq := 1 }])
theorem witness_QueueAdminResults_abort : (abortS 31).Waits 9 true 0x08 (adm 8 0 (3 + 7 * 65536) 0 0) ∧ (abortS 31).aborts.any (fun p => p.2 = 9) = false ∧
    (abortS 31).abortsBefore (adm 8 0 (3 + 7 * 65536) 0 0) = 31 ∧ (abortS 32).abortsBefore (adm 8 0 (3 + 7 * 65536) 0 0) = 32 ∧
    (abortS 31).abortTarget (adm 8 0 0x50005 0 0) = none ∧
    (abortS 31).abortTarget (adm 8 0 (3 + 7 * 65536) 0 0) = some { cmdOf0 false 2 1 0 0 0 0 with key := 10, sq := 1 } ∧
    (abortS 31).abortable { cmdOf0 false 2 1 0 0 0 0 with key := 10, sq := 1 } = true := by decide
theorem witness_QueueAdminResults_deleteSq :
    (((admS (adm 0 0 3 0 0)).setSq 1 (some { sqOf0 3 with head := 1, retired := true })).squashQueue 1).claimWaits 1 = false ∧
    (((hostS.putCmds [adm 0 0 3 0 0, { cmdOf0 false 2 1 0 0 0 0 with key := 10, sq := 1, settle := .claimed 0 0 0 5 1 0 1 }]).setSq 1
      (some { sqOf0 3 with head := 1, retired := true })).squashQueue 1).claimWaits 1 = true := by decide
/-- One virtual function, with two queue resources and a vector. -/
def virtS (act : Nat) : State :=
  (admS (adm 0x1C 0 (act + 65536) 2 0)).putCtrls [(0, { liveCtrl with numVfs := 1 }), (1, { ctrlReset 1 with vq := 2, vi := 1 })]
theorem witness_QueueAdminResults_secondary : ∀ act ∈ [7, 8, 9], (virtS act).Waits 9 true 0x1C (adm 0x1C 0 (act + 65536) 2 0) ∧ (virtS act).isPf 0 = true ∧
    (adm 0x1C 0 (act + 65536) 2 0).dw 10 / 65536 = 1 ∧ (virtS act).isPf 1 = false ∧ (virtS act).funcExists 1 = true ∧ (virtS act).pfOf 1 = 0 ∧
    (adm 0x1C 0 (act + 65536) 2 0).dw 10 % 16 = act ∧ ((virtS act).ctrl 1).online = false ∧ 2 ≤ flexMax false ∧
    (virtS act).flexUsed false 1 + 2 ≤ (virtS act).flexTotal false ∧ 2 ≤ ((virtS act).ctrl 1).vq ∧ 1 ≤ ((virtS act).ctrl 1).vi ∧
    (virtS act).cmds.any (fun x => decide (x.func = 1) && x.unsettled) = false := by decide

theorem witness_AdminDataResults : (adm 2 0 0x03 0 0).logOff % 4 = 0 ∧ ((admS (adm 2 0 0x03 0 0)).logPage (adm 2 0 0x03 0 0)).isSome = true ∧
    (admS (adm 2 0 0x0C 0 0)).logPage (adm 2 0 0x0C 0 0) = none ∧ (adm 2 0 0xC1 0 0).lid = 0xC1 ∧ (adm 2 0 0x1C4 0 0).lid = 0xC4 ∧
    (adm 2 0 0x1C4 0 0).lsp % 2 = 1 ∧ (((admS (adm 6 0 0x1C 0 0)).identPage (adm 6 0 0x1C 0 0)).toOption).isSome = true ∧
    (adm 9 0 2 4 0).dw 10 / 2 ^ 31 % 2 = 0 ∧ (adm 9 0 2 4 0).fid = 2 ∧ (adm 9 0 2 4 0).dw 11 % 32 = 4 ∧ (adm 9 0 2 3 0).dw 11 % 32 < 4 ∧
    4 < (adm 9 0 2 5 0).dw 11 % 32 ∧ (adm 9 0 4 (2 ^ 20 + 2 ^ 17) 0).dw 11 / 2 ^ 20 % 4 ≤ 1 ∧ (adm 9 0 4 (2 ^ 20 + 2 ^ 17) 0).dw 11 / 2 ^ 16 % 16 ≤ 2 ∧
    (adm 9 0 0x1D 1 1).dw 11 % 65536 = 1 ∧ (adm 9 0 0x1D 1 1).dw 12 / 256 % 256 = 0 ∧ (admS (adm 9 0 0x1D 1 1)).group1Used = false ∧
    (adm 0xA 0 0x0B 0 0).dw 10 / 256 % 8 = 0 ∧ ((admS (adm 0xA 0 0x0B 0 0)).featureWord (adm 0xA 0 0x0B 0 0) false).isSome = true := by decide
def own0 : Owner := { hash := 5, img := true, sealing := true, admin := true }
def sealS : State := (admS (adm 0xC0 0 7 0x11 0)) |>.putSessions [sess0 true] |>.putTrust { State.reset.trust with owners := [(1, some own0)] }
theorem witness_AdminDataResults_rest : (adm 0x14 0 1 0 0).dw 10 % 16 = 1 ∧ (adm 0x14 0 2 0 0).dw 10 % 16 = 2 ∧ (adm 0x14 0 15 0 0).dw 10 % 16 = 15 ∧
    (admS (adm 0x14 0 1 0 0)).care.test = none ∧ (adm 0x19 0 0 1 0x201).dtype = 0 ∧ (adm 0x19 0 0 1 0x201).doper = 1 ∧
    (adm 0x19 0 0 1 0x201).dw 12 / 256 % 256 = 2 ∧ (adm 0xC0 0 7 0x11 0).nsid = 0 ∧
    sealS.sessions.any (fun x => decide (x.sid = BitVec.ofNat 32 ((adm 0xC0 0 7 0x11 0).dw 11)) && x.established && sealS.proves x (fun o => o.sealing)) = true ∧
    (adm 0x81 0 0xE8000000 0 0).secp = 0xE8 ∧ (adm 0x81 0 0 0 0).secp ≠ 0xE8 ∧
    FMap.get (fun _ => none) (admS (adm 0x82 0 0xE8000000 0 0)).trust.resp 0 = none := by decide

def nsx (csi : Nat) : NsInfo :=
  { lbaf := 0, csi := csi, endg := 1, nsze := 64, ncap := 64, phndls := [0], attached := [0], extents := 0, charge := 0 }
def nsS (d : Cmd) (csi : Nat) : State := (admS d).putNsInfo [(1, some (nsx csi))]
def crt : NsCreate := { nsze := 64, ncap := 64, lbaf := 7, endg := 1, phndls := [], mirror := false, k := 0, m := 0, r := 0, n := 0, pool := [] }
theorem witness_NamespaceFirmwareResults : crt.lbaf ≤ 7 ∧ (nsS (adm 0xD 0 0 0 0) 0).freeNsid = some 2 ∧ (adm 0xD 0 0 0x2000000 0).dw 11 / 2 ^ 24 = 2 ∧
    (adm 0xD 2 1 0 0).dw 10 % 16 = 1 ∧ ((nsS (adm 0xD 2 1 0 0) 0).named 2).any (fun n => ((nsS (adm 0xD 2 1 0 0) 0).nsi n).isNone) = true ∧
    ((nsS (adm 0xD 1 1 0 0) 0).named 1).any (fun n => ((nsS (adm 0xD 1 1 0 0) 0).nsi n).isNone) = false ∧
    ((nsS (adm 0xD 1 1 0 0) 0).named 1).findSome? (nsS (adm 0xD 1 1 0 0) 0).volumeRefuse = none ∧
    ((nsS (adm 0xD 1 1 0 0) 0).named 1).any (nsS (adm 0xD 1 1 0 0) 0).nsBusy = false ∧ (nsS (adm 0x15 1 1 0 0) 0).nsi 1 = some (nsx 0) ∧
    [0].any (fun c => !(nsS (adm 0x15 1 1 0 0) 0).isPf c ∧ !(nsS (adm 0x15 1 1 0 0) 0).funcExists c) = false ∧
    [0].any (fun c => !(nsx 0).attached.contains c) = false ∧ [0].any (fun c => { nsx 0 with attached := [] }.attached.contains c) = false ∧
    (adm 0x80 1 0x407 0 0).dw 10 / 2 ^ 9 % 8 ≤ 2 ∧ (adm 0x80 1 0x407 0 0).dw 10 % 16 ≤ 7 ∧ (adm 0x80 1 0x407 0 0).dw 10 / 2 ^ 12 % 4 = 0 ∧
    ((nsS (adm 0x80 1 0x407 0 0) 0).named 1).any (fun n => ((nsS (adm 0x80 1 0x407 0 0) 0).layout n).isSome ∧ True) = false ∧
    (admS (adm 0x84 0 4 0 0)).nsInfo = [] ∧ (admS (adm 0x84 0 2 0 0)).vault = [] ∧ (admS (adm 0x84 0 2 0 0)).extentList = [] := by decide
def img0 (b layout : Nat) : RunImage :=
  { bank := b, version := [], layout := layout, cores := 0, keySlot := 0, svn := 0, digest := 0, fixed := [], drains := [] }
def fwS (d : Cmd) : State := (admS d).putFw { State.reset.fw with run := some (img0 0 3) }
theorem witness_NamespaceFirmwareResults_fw : (fwS (adm 0x11 0 1023 0 0)).fw.hand = none ∧ (fwS (adm 0x11 0 1023 0 0)).stagedByOther 0 = false ∧
    (adm 0x11 0 1023 0 0).dw 11 = 0 ∧ ((adm 0x11 0 1023 0 0).dw 10 + 1) * 4 = 4096 ∧ (∀ a ∈ [0, 1, 2, 3], (adm 0x10 0 (a * 8 + 2) 0 0).fwAction = a) ∧
    (fwS (adm 0x10 0 2 0 0)).commitBank (adm 0x10 0 2 0 0).fwSlot = some 1 ∧ (fwS (adm 0x10 0 3 0 0)).commitBank (adm 0x10 0 3 0 0).fwSlot = none ∧
    (fwS (adm 0x10 0 0 0 0)).commitBank (adm 0x10 0 0 0 0).fwSlot = some 1 ∧ (fwS (adm 0x10 0 2 0 0)).recovery = false ∧
    ((fwS (adm 0x10 0 2 0 0)).staging 0).isSome = false ∧ (fwS (adm 0x10 0 2 0 0)).care.sanit ≠ 2 ∧ (fwS (adm 0x10 0 25 0 0)).runsBank 0 = true := by decide
def hand0 : Handover := { key := 9, image := img0 1 3, old := 3, armed := false, swapped := false }
def handS : State := slotS.putFw { State.reset.fw with run := some (img0 0 3), hand := some hand0 }
def markS : State := slotS.putFw { State.reset.fw with run := some (img0 0 3), markDue := some 1 } |>.putTick 2
theorem witness_NamespaceFirmwareResults_arm : handS.fw.hand = some hand0 ∧ handS.win = .slot ∧ handS.gap = false ∧ handS.up ∧
    (handS.handoverReject (img0 0 3) hand0.image).isSome = true ∧ markS.fw.markDue = some 1 ∧ markS.boot.pwrFail = false ∧
    (1 : W64).toNat < markS.tick.toNat ∧ markS.startsDone = true := by decide

/-! ## Witnesses: I/O commands -/

/-- A device with namespace 1 of 64 grains: placement, or one zone of 64 grains when `zoned`, in zone state `st`; its table lies at
0x4000000 in 128 MiB of visible memory. -/
def ioS (zoned : Bool) (st : Nat) (d : Cmd) : State :=
  (nsS d (if zoned then 2 else 0)) 
    |>.putNs [(1, { nsReset 1 with cfg := (if zoned then 3 else 1), base := 0x4000000, cap := 64, zone := BitVec.ofNat 64 (2 ^ 20 + 6 * 2 ^ 40) })]
    |>.putRegs [(0x130000, 1), (sta 4 0x100, 4), (sta 8 0, 0x8000000), (sta 9 0, 1), (sta 9 0x10, 64), (sta 9 0x18, 64)]
    |>.putIngot (wrNum [] (zoneOff 0) 8 st)
def io (op d10 d12 d13 : Nat) : Cmd := cmdOf0 false op 1 d10 0 d12 d13
/-- All dies of die group 0, of family `fam0`. -/
def grpRegs : List (Nat × W64) := (List.range 32).map (fun c => (sta (0x40 + c) 0x10, 1))
def grpS : State := slotS |>.putFam fam0 |>.putRegs ((0x130000, 1) :: grpRegs)
/-- The device of `ioS` with no cipher, blocks 1 and 2 of every die of group 0 free and erased, and 8,192 grains in namespace 1. -/
def wrS (z : Bool) (st : Nat) (d : Cmd) : State :=
  let s := (ioS z st d).putFam { fam0 with pagesTlc := 96 } |>.putRegs ([(0x130000, 1), (0x170010, 0xFFFFFFFF), (sta 4 0x100, 4), (sta 8 0, 0x8000000),
      (sta 9 0, 1), (sta 9 0x10, 64), (sta 9 0x18, 64)] ++ grpRegs)
    |>.putNs [(1, { nsReset 1 with cfg := (if z then 3 else 1), base := 0x4000000, cap := 8192, zone := BitVec.ofNat 64 (2 ^ 20 + 13 * 2 ^ 40) })]
  let bs := (List.range 16).flatMap (fun e => [s.groupBlk 0 e 0 1, s.groupBlk 0 e 0 2])
  (s.putBlkErased (bs.map (fun b => (b, true)))).putCare { State.reset.care with blocks := bs.map (fun b => (b, 1)) }
def okS (t : Try State) : State := t.toOption.getD State.reset
/-- After a Write of grain 0 of a placement namespace; its frame. -/
def doneW (d : Cmd) : State :=
  let q := (wrS false 0 d).takeNumbers 0 1
  match q.2.storeUnits false 1 0 0 2 [(zeroGrain, q.2.cmdTag d 0 0 0 2 0 1 0 q.1 0)] with
  | some (ws, t) => okS (t.commitTry 1 false 0 q.1 ws)
  | none => State.reset
def place0 : W64 := 0x20000002000
/-- A zoned namespace whose zone 0 is open with an extent. -/
def openZ (d : Cmd) : State := okS ((okS ((wrS true zEmpty d).putZoneState 1 0 zImpOpen 2)).needEntry 1 0)
def job0 : Job :=
  { key := 9, fsn := 1, vol := 1, zone := 0, off := 0, grains := 1, a := 0, b := 0, c := 0, done := 0, token := none, data := [], word := none,
    phase := 0, bad := false, cmd := io 1 0 0 0 }
theorem witness_IoResults : ((ioS false 0 (io 2 0 0 0)).ioNs (io 2 0 0 0)).toOption = some (nsx 0) ∧
    (∀ op ∈ [0x00, 0x01, 0x02, 0x04, 0x08, 0x09, 0x0C, 0x12, 0x1D, 0x79, 0x7A, 0x7D, 0x9D], (ioS true 1 (io op 0 0 0)).Waits 9 false op (io op 0 0 0)) ∧
    (ioS false 0 (io 2 0 0 0)).cores = slotS.cores ∧ (ioS false 0 (io 2 0 0 0)).care.ladders.any (fun l => decide (l.key = 9)) = false ∧
    (io 2 63 0 0).rangeBad (nsx 0) = none ∧ (io 2 63 1 0).rangeBad (nsx 0) = some stLbaRange ∧ (io 2 0 256 0).rangeBad (nsx 0) = some stField ∧
    (ioS false 0 (io 2 0 0 0)).actionFirst (io 2 0 0 0) = false ∧ ((ioS false 0 (io 2 0 0 0)).readSource (io 2 0 0 0)) = some none ∧
    (((ioS false 0 (io 2 0 0 0)).putHaz [(0, { hazE 4 0 with key := (io 2 0 0 0).lbaKey })]).readSource (io 2 0 0 0)) = none ∧
    (ioS false 0 (io 2 0 0 0)).layout 1 = none ∧ ((ioS false 0 (io 2 0 0 0)).lookupSafe 1 false 63).toOption = some 0 ∧ (io 2 0 0 0).grains (nsx 0) = 1 := by decide
theorem witness_IoResults_write :
    let s := ioS false 0 (io 8 0 0 0)
    s.layout 1 = none ∧ (s.nsAt 1).zoned = false ∧ s.preserved (io 8 0 0 0) = false ∧ (s.putPreserve true).preserved (io 8 0 0 0) = true ∧
    s.hazWait (io 8 0 0 0) = false ∧ s.readWait (io 8 0 0 0) = false ∧
    (s.putHaz [(0, { hazE 4 0 with key := (io 8 0 0 0).lbaKey })]).hazWait (io 8 0 0 0) = true ∧
    (s.commitTry 1 false 63 0 [0]).toOption.isSome = true ∧ (s.putVault [(7, some { slotKey 0 with bound := 1 })]).keyOk 1 = true ∧
    s.jobs.any (fun j => decide (j.key = 9)) = false ∧ (s.putJobs [job0]).jobs.any (fun j => decide (j.key = 9)) = true ∧ s.boot.down = false := by decide
/-- A Write of data to a placement namespace passes every step, and so does one to an open zone. -/
theorem witness_IoResults_data : ((wrS false 0 (io 1 0 0 0)).placement (io 1 0 0 0) (nsx 0)).1 = (0, 0) ∧
    ((doneW (io 1 0 0 0)).lookupSafe 1 false 0).toOption = some place0 ∧ dataOk [zeroGrain] ((io 1 0 0 0).grains (nsx 0)) = true ∧
    metaTouched (nsx 0) 0 1 = 0 ∧ fmtMeta (nsx 0).lbaf = 0 := by decide +kernel
theorem witness_IoResults_zone :
    let s := openZ (io 1 0 0 0)
    let v := s.mapTry (fun t => t.mzoneOp (Sys2Proof.Machine.mapReq .mzone 0 [t.zoneKeyOf 1 0, 1, 0]))
    isOpen (s.zstate 0) = true ∧ (s.readEntry (s.entryAddr 1 0)).valid = true ∧ s.zrsv 0 = 0 ∧ fld (s.zoneWord 0) 28 13 = 0 ∧
    s.layout 1 = none ∧ (s.nsAt 1).zoneLbas = 8192 ∧ (io 1 8191 0 0).slba % 8192 + (io 1 8191 0 0).nlb ≤ 8192 ∧
    (v.toOption.map (fun x => let q := x.1.takeNumbers 0 1
      (q.2.zwp 0, match q.2.zoneStore (io 1 0 0 0) 1 0 0 q.1 (.data [zeroGrain]) 1 with
        | .ok (t, ws) => (t.commitTry 1 false 0 q.1 ws).toOption.isSome
        | .error _ => false))) = some (0, true) := by decide +kernel
theorem witness_IoResults_rest : dataOk [List.replicate 4096 0] ((io 0x7D 0 0 0).grains (nsx 0)) = true ∧
    (io 0x7D 0 0 0).slba % max 1 ((ioS true 1 (io 0x7D 0 0 0)).nsAt 1).zoneLbas = 0 ∧
    (ioS true 1 (io 0x7D 0 0 0)).cipherPresent = true ∧ (ioS true 1 (io 9 0 0 0)).zonesBusy (io 9 0 0 0) [0] = false ∧
    (io 9 0 0 0).dw 10 % 256 + 1 = 1 ∧ ((ioS false 0 (io 9 0 0 0)).trimRange 1 (nsx 0) 60 4).toOption.isSome = true ∧
    (io 0x7A 63 0 7).dw 13 / 256 % 256 ≤ 7 ∧ (io 0x7A 63 0 0x700).dw 13 / 256 % 256 = 7 ∧ (io 0x12 1 0 0).dw 10 % 256 = 1 ∧
    (ioS false 0 (io 0x1D 1 0 0)).ruOf ((nsx 0).phndls.getD 0 0) 0 = none := by decide
theorem witness_IoResults_actions : (∀ st ∈ [zClosed, zExpOpen],
      (ioS true st (io 0x79 0 0 3)).zstate 0 = st ∧ (ioS true st (io 0x79 0 0 3)).recordAwaits 1 0 = false) ∧
    (ioS true zClosed (io 0x79 0 0 3)).openZones.length < zoneLimit ∧ ((ioS true zClosed (io 0x79 0 0 3)).putZoneState 1 0 zExpOpen 2).toOption.isSome = true ∧
    isOpen ((ioS true zImpOpen (io 0x79 0 0 1)).zstate 0) = true ∧ ((ioS true zImpOpen (io 0x79 0 0 1)).putZoneState 1 0 zEmpty 4).toOption.isSome = true ∧
    ((ioS true zImpOpen (io 0x79 0 0 2)).finishPrep 1 0).layout 1 = none ∧ ((ioS true zImpOpen (io 0x79 0 0 2)).finishPrep 1 0).reserved 0 = false ∧
    isActive (((ioS true zImpOpen (io 0x79 0 0 2)).finishPrep 1 0).zstate 0) = true ∧
    (((ioS true zImpOpen (io 0x79 0 0 2)).finishPrep 1 0).mzoneTry 1 0 4 0).toOption.isSome = true ∧
    ((ioS true zFull (io 0x79 0 0 4)).resetAct 1 0).toOption.isSome = true ∧ (io 0x79 0 0 3).acted = false ∧ (io 0x79 0 0 3).dw 13 / 256 % 2 = 0 ∧
    ((ioS true zEmpty (io 0x79 0 0 1)).closeAct 1 0).toOption.isNone = true ∧ (io 0x79 63 0 3).slba / ((ioS true 1 (io 0x79 0 0 3)).nsAt 1).zoneLbas = 0 ∧
    (io 0x79 64 0 3).slba / ((ioS true 1 (io 0x79 0 0 3)).nsAt 1).zoneLbas = 1 ∧ ((ioS true 1 (io 0x79 0 0 3)).nsAt 1).zones = 1 := by decide
/-- Finish and Reset of an open zone with an extent. -/
theorem witness_IoResults_extent :
    let s := openZ (io 0x79 0 0 4)
    (s.finishAct 1 0).toOption.isSome = true ∧ s.zoneSerial 1 0 = some 1 ∧ s.reserved 0 = false ∧ (s.resetAct 1 0).toOption.isSome = true ∧
    ((s.mzoneTry 1 0 3 0).toOption.map (fun t => let r := t.keepLost (fun e => !t.lostIn 1 0 e)
      ((r.layout 1).isNone, (r.releaseExtent 1).recordAwaits 1 0))) = some (true, false) := by decide +kernel

def agedS : State :=
  ((ioS true zImpOpen (io 0 0 0 0)).setZone 0 (BitVec.ofNat 64 (zImpOpen + 2 ^ 41))).putAlm { State.reset.alm with optime := 256 * (72 * 256 + 1) }
theorem witness_BackgroundResults : grpS.up ∧ agedS.up ∧ agedS.everReserved 0 = true ∧ (grpS.putPreserve true).preserve = true ∧ grpS.preserve = false ∧ (grpS.putWin .fault).win = .fault ∧ grpS.rawBlocks ≠ 0 ∧
    ({ grpS.params with riser := 10000 } : CareParams).riser = 10000 ∧ (grpS.putParams { grpS.params with riser := 10000 }).spareBlocks ≤
      (grpS.putParams { grpS.params with riser := 10000 }).floorBlocks ∧
    grpS.floorBlocks + ceilDiv grpS.rawBlocks 1000 ≤ grpS.spareBlocks ∧ isActive (agedS.zstate 0) = true ∧ fld (agedS.zoneWord 0) 41 23 ≠ 0 ∧
    72 * 256 ≤ agedS.zoneAge 0 ∧ agedS.zoneOwner 0 = some (1, 0) ∧ ((agedS.finishPrep 1 0).finishAct 1 0).toOption.isSome = true := by decide
def unitS : State := (extS.putCare { extS.care with extents := [(7, some { ext0 with closed := none, first := some 0 })] }).putAlm
  { extS.alm with optime := 72 * 65536 }
theorem witness_BackgroundResults_unit : unitS.ruOf 0 0 = some (7, { ext0 with closed := none, first := some 0 }) ∧
    ({ ext0 with closed := none, first := some 0 } : Extent).first.getD unitS.alm.optime + 72 * 65536 ≤ unitS.alm.optime := by decide
/-- A grain that the ladder rebuilds from open-block parity and stores again, and one whose row is lost. -/
theorem witness_BackgroundResults_ladder :
    let s := (doneW (io 2 0 0 0)).putCare { (doneW (io 2 0 0 0)).care with ladders := [{ key := 9, grain := 0, loc := place0, steps := 3 }] }
    s.cmdOf 9 = some (io 2 0 0 0) ∧ s.nsi 1 = some (nsx 0) ∧ s.locOk place0 = true ∧ s.frameOwner place0 = some (1, false, 0) ∧
    (s.grainRebuild 1 0 place0).isSome = true ∧ (s.storeAgain 1 false 0 place0 zeroGrain).isSome = true := by
  and_intros <;> decide +kernel
theorem witness_BackgroundResults_steps : (wrS false 0 (io 2 0 0 0)).grainRebuild 1 0 place0 = none ∧ (io 2 0 0 0).settle = .live ∧
    (wrS false 0 (io 2 0 0 0)).ladderNext { key := 9, grain := 0, loc := place0, steps := 0 } 0x23 = 1 ∧
    (wrS false 0 (io 2 0 0 0)).ladderNext { key := 9, grain := 0, loc := place0, steps := 2 } 0x23 = 3 := by decide +kernel
def dramS : State := slotS |>.putRegs [(0x130000, 1), (sta 8 0, 0x80008000000)] |>.putDr
  { State.reset.dr with fit := [(0, 0x8000000), (1, 0x8000000)], logical := [(0, 1)], lsize := [(0, 0x8000000)], spare := [(0, 1)] }
theorem witness_BackgroundResults_dram : dramS.up ∧ dramS.domeOn 6 = true ∧ dramS.rankFitted 0 0 = true ∧ 0x1FFFFF * 64 < dramS.dramSize ∧
    dramS.lineOn 0x1FFFFF 0 0 = true ∧ (dramS.countRfld (sta 8 8) 32 16 1).rankRetired 0 0 = false ∧ (dramS.countRfld (sta 8 8) 32 16 1).noDest = false ∧
    (dramS.countRfld (sta 8 8) 32 16 1).dr.spare = [(0, 1)] ∧
    (((dramS.setReg (rmapReg 0) 0x1000).countRfld (sta 8 8) 32 16 1).rankRetired 0 0) = true ∧
    (dramS.putDr { dramS.dr with mig := [(0, 0, some 1)] }).dr.mig = [(0, 0, some 1)] ∧ dramS.logicalOf 0 0 = some 0 ∧
    dramS.sramArray 0x88 = true ∧ (0x3FFFFF : BitVec 24).toNat < sramWords 0x88 := by decide +kernel

/-! ## Witnesses: power, the resident Span and trust -/

theorem witness_PowerResults : slotS.up ∧ slotS.boot.strapped = true ∧ slotS.boot.perstLow = false ∧ slotS.boot.pwrFail = false ∧
    ((slotS.putBoot { upBoot with pwrFail := true }).setReg idBoot 7).bootStep ≠ 8 ∧ (State.reset.putBoot { State.reset.boot with pwrFail := true }).boot.strapped = false ∧
    State.reset.boot.pwrFail = false ∧ State.reset.boot.strapped = false ∧ slotS.isWorker = false ∧
    ({ upBoot with perstLow := true } : Boot).strapped = true ∧ (slotS.putBoot { upBoot with pwrFail := true }).boot.pwrFail = true ∧
    ((slotS.putBoot { upBoot with pwrFail := true }).setReg idBoot 8).bootStep = 8 ∧
    ((spanS 1 3 [(idBoot, 8)]).putBoot { upBoot with down := true }).isWorker = true ∧
    ((spanS 1 3 [(idBoot, 8)]).putBoot { upBoot with down := true }).faulted = true ∧ slotS.pat.op = none := by decide

def lay0 : Layout :=
  { vol := 1, k := 2, m := 1, mirror := false, r := 0, group := 1, gen := 1, zones := 2, pool := [2, 3, 4], removed := [], reshape := false, r0 := 0,
    bound := 0, newPool := [] }
/-- The memory whose first bytes are `bs`. -/
def cells (bs : List Byte) : FMap Byte := (bs.zipIdx.filter (fun p => p.1 ≠ 0)).map (fun p => (p.2, p.1))
/-- A manager that owns group 1 and reaches members 2 to 4 over port 0, with a request of type `typ` from member `src`. -/
def manS (l : Layout) (a : List SpanArr) : State :=
  (spanS 2 3 [(sta 0xD 0x1010, 4), (sta 0xD 0x1018, 4), (sta 0xD 0x1020, 4)]) |>.putIngot (cells l.bytes) |>.putSpanIn a
    |>.putGroups [(1, { owned := true, state := 1, moved := none }), (2, { owned := false, state := 2, moved := none })]
def arr (typ src : Nat) (hw : List W64) : SpanArr :=
  { event := 77, port := 0, src := src, typ := typ, flags := 0, num := 1, gen := 0, level := 0, hw := hw, desc := 0, pay := none, len := 0 }
/-- A worker with such a request. -/
def wrkS (a : SpanArr) : State := (spanS 1 3 []).putSpanIn [a]
theorem witness_ResidentSpanResults : (∀ typ ∈ [0x10, 0x11, 0x12, 0x13, 0x16, 0x17], (wrkS (arr typ 0 [0, 0])).Asked 77 typ (arr typ 0 [0, 0])) ∧
    (wrkS (arr 0x10 0 [0, 0])).isWorker = true ∧ ((wrkS (arr 0x10 0 [0, 0])).putWfin [(0, true)]).gwriteRefuse 0 0 = true ∧
    (wrkS (arr 0x10 0 [0, 0])).gwriteRefuse 0 0 = false ∧ { arr 0x10 0 [0, 0] with len := 4128 }.len = 1 * 4128 ∧
    (∀ op ∈ [3, 4, 5], (arr 0x13 0 [0, BitVec.ofNat 64 op]).zop = op) ∧ ((wrkS (arr 0x11 0 [0, 0])).greadAll 0 1 0 0).2.2 = true ∧
    { arr 0x17 0 [1, 0] with len := 79 }.len ≠ 80 := by decide
/-- A worker with no cipher, group 0's dies fitted and block 1 of die 0 erased, whose request holds the bytes `bs`. -/
def memberS (a : SpanArr) (bs : List Byte) : State :=
  (spanS 1 3 ([(0x170010, 0xFFFFFFFF), (sta 8 0, 0x4001000)] ++ grpRegs)) |>.putSpanIn [{ a with pay := some lowMem, len := bs.length }]
    |>.putFam { fam0 with pagesTlc := 96 } |>.putBlkErased [(blkKey 0 0 0 1, true)] |>.putDram (cells bs)
def places0 : List W64 := (List.range 4).map (fun f => mkLoc 0 0 0 0 1 0 f 0 0)
/-- The framed grain 0 of volume 1, enciphered or not. -/
def framed (enc : Bool) : List Byte :=
  zeroGrain ++ ({ kind := 0, flags := if enc then 8 else 0, func := 0, ns := 1, handle := 0, lba := 0, count := 1, wsn := 0, life := 1, role := 0 } : TagF).bytes ++
    List.replicate 8 0
theorem witness_ResidentSpanResults_gwrite : (∀ enc ∈ [false, true],
    let s := memberS (arr 0x10 0 [1, 0]) (framed enc)
    let a : SpanArr := { arr 0x10 0 [1, 0] with pay := some lowMem, len := 4128 }
    (framed enc).length = 4128 ∧ s.Asked 77 0x10 a ∧ s.gwriteRefuse a.vol a.addr = false ∧ s.placesOk places0 (unitAddrs a.addr 1).length = true ∧
    (s.storeMember a.vol a.addr places0 (framedGrains 1 (s.payloadOf a))).isSome = !enc) ∧
    fld ({ arr 0x10 0 [1, 62] with len := 63 * 4128 }.word 1) 0 6 + 1 = 63 ∧ { arr 0x10 0 [1, 62] with len := 63 * 4128 }.len = 63 * 4128 ∧
    63 < fld ((arr 0x10 0 [1, 63]).word 1) 0 6 + 1 ∧ (memberS (arr 0x10 0 [1, 0]) []).isWorker = true := by decide +kernel
theorem witness_ResidentSpanResults_keywrap : (∀ n ∈ [0, 79, 80], { arr 0x17 0 [1] with len := n }.len = n ∧ (wrkS { arr 0x17 0 [1] with len := n }).slotOfNs 1 = none ∧
      (wrkS { arr 0x17 0 [1] with len := n }).Asked 77 0x17 { arr 0x17 0 [1] with len := n }) ∧
    ((wrkS (arr 0x17 0 [1])).putVault [(7, some { slotKey 0 with bound := 1 })]).slotOfNs 1 = some 7 := by decide
theorem witness_ResidentSpanResults_peer : (∀ typ ∈ [0x14, 0x15], (manS lay0 [arr typ 1 [5]]).Asked 77 typ (arr typ 1 [5])) ∧
    (manS lay0 []).fromPeer (arr 0x14 1 [5]) = true ∧ (manS lay0 []).fromPeer (arr 0x14 2 [5]) = false ∧
    (∀ n ∈ [1, 2, 3, 4, 5], (arr 0x15 1 [BitVec.ofNat 64 n]).ckKind = n) ∧ (manS lay0 []).justMoved 1 = false ∧
    ((manS lay0 []).setGroup 1 { owned := true, state := 1, moved := some 0 }).justMoved 1 = true ∧ (manS lay0 []).groupBusy 1 = false := by decide
/-- A journal slot, a zone record, and a layout, from the peer. -/
def recE (op : Nat) : JEntry := { (manS lay0 []).newEntry lay0 2 0 with op := op }
def peerS (l : Layout) (a : SpanArr) (bs : List Byte) : State :=
  (manS l [{ a with pay := some lowMem, len := bs.length }]).setReg (sta 8 0) 0x4001000 |>.putDram (cells bs)
theorem witness_ResidentSpanResults_journal :
    let a := { arr 0x14 1 [122880] with pay := some lowMem, len := 128 }
    let s := peerS lay0 (arr 0x14 1 [122880]) (recE 2).bytes
    s.Asked 77 0x14 a ∧ s.fromPeer a = true ∧ (s.payloadOf a).length = 128 ∧ (122879 : W64).toNat < 122880 ∧ jentryOf (s.payloadOf a) = some (recE 2) ∧
    s.layout 1 = some lay0 ∧ 1 < (recE 2).op ∧ (recE 1).first ≤ s.zwp (s.volZone 1 0) ∧ (s.applyRecord lay0 (recE 2)).isSome = true := by decide +kernel
theorem witness_ResidentSpanResults_ckpt :
    let a := { arr 0x15 1 [2] with pay := some lowMem, len := 256 }
    let s := peerS lay0 (arr 0x15 1 [2]) lay0.bytes
    layoutOf (s.payloadOf a) = some lay0 ∧ (s.anaGroup 1).state ≠ 3 ∧ (s.anaGroup 2).state ≠ 3 ∧ ((s.payloadOf a).take 32).length = 32 ∧
    s.lostRanges.length < 65536 ∧ (s.anaGroup 3).owned = false ∧ (s.anaGroup 1).owned = true ∧ s.groupBusy 1 = false ∧
    (s.putCmds [cmdOf0 false 1 1 0 0 0 0]).groupBusy 1 = true := by decide +kernel
/-- The 256 bytes that a layout record is written as spell that record. -/
theorem witness_ResidentSpanResults_layout : layoutOf lay0.bytes = some lay0 := by decide +kernel
/-- The routes and groups of such a manager, and the zones of volume 1: 2 of 64 grains, zone 0 with 32 grains in state `st`; member 2
is in the preserve state. -/
def volS (l : Layout) (st : Nat) : State :=
  (manS l []).setReg (sta 0xD 0x1028) 4
    |>.putNs [(1, { nsReset 1 with cfg := 4, base := 0x4000000, cap := 128, zone := BitVec.ofNat 64 (2 * 2 ^ 20 + 6 * 2 ^ 40) })]
    |>.putVolCap [(1, 64)] |>.putDram (FMap.insert [] (8192 * 2 + 18) 1) |>.putIngot (wrNum (cells l.bytes) (zoneOff 0) 8 (st + 32 * 256))
def lay4 (removed : List Nat) : Layout := { lay0 with pool := [2, 3, 4, 5], removed := removed }
/-- The same with stripe 0 of zone 0 open in a journal slot. -/
def sealV : State := (volS (lay4 []) zImpOpen).putSlot 0 ((volS (lay4 []) zImpOpen).newEntry (lay4 []) 1 0)
theorem witness_ResidentSpanResults_seal : sealV.stripeSlot 1 0 = some (0, (volS (lay4 []) zImpOpen).newEntry (lay4 []) 1 0) ∧
    ((volS (lay4 []) zImpOpen).newEntry (lay4 []) 1 0).stripe = 0 ∧ sealV.ownsVolume (lay4 []) = true ∧ sealV.layout 1 = some (lay4 []) ∧
    16 * (lay4 []).k * (0 + 1) ≤ sealV.zwp (sealV.volZone 1 0) := by decide +kernel
/-- A Write Zeroes to that zone begins, and one behind it waits. -/
theorem witness_IoResults_volume : ((volS (lay4 []) zImpOpen).zoneVolume (io 8 32 0 0) (nsx 2) (lay4 []) 0 32 (.word 0) none).toOption.isSome = true ∧
    ((volS (lay4 []) zImpOpen).setNow (lay4 []) 0).any (fun p => p.1.isNone) = false ∧ (volS (lay4 []) zImpOpen).isManager = true ∧
    ((volS (lay4 []) zImpOpen).anaGroup 1).owned = true ∧ (volS (lay4 []) zImpOpen).wsnFloor = none := by decide +kernel
theorem witness_ResidentSpanResults_volume : (volS (lay4 []) zImpOpen).ownsVolume (lay4 []) = true ∧
    16 * (lay4 []).k * (0 + 1) ≤ (volS (lay4 []) zImpOpen).zwp ((volS (lay4 []) zImpOpen).volZone 1 0) := by decide +kernel
/-- A parity grain that is not its stripe's parity. -/
def piece0 : PieceGrain := { stripe := 0, pos := 2, row := 0, data := some [], tag := [], rebuilt := false }
theorem witness_ResidentSpanResults_rebuild : (volS (lay4 [4]) zImpOpen).zoneAwaits (lay4 [4]) 0 = true ∧
    bit ((volS (lay4 [4]) zImpOpen).ztab ((volS (lay4 [4]) zImpOpen).volZone 1 0)) 7 = false ∧
    ((volS (lay4 [4]) zImpOpen).firstRebuild).map (fun x => x.2.2) = some (1, 0) ∧ (volS (lay4 [4]) zImpOpen).layout 1 = some (lay4 [4]) ∧
    ((volS (lay4 []) zFull).setNow (lay4 []) 0).getD 2 (none, 0) ≠ (none, 0) ∧
    (List.range 1).filter (fun p => parityWrong (lay4 []) 0 p (stripeParity (lay4 []) 0 [piece0]) [piece0]) = [0] ∧ piece0.rebuilt = false ∧ piece0.data ≠ none ∧
    0 < (volS (lay4 []) zFull).usedStripes (lay4 []) 0 ∧ (volS (lay4 []) zFull).zstate ((volS (lay4 []) zFull).volZone 1 0) = zFull ∧
    (List.range 1).filter (fun p => parityWrong (lay4 []) 0 p (stripeParity (lay4 []) 0 []) []) = [] := by decide +kernel
def layR : Layout := { lay4 [] with reshape := true, newPool := [3, 4, 5] }
theorem witness_ResidentSpanResults_reshape : (∀ z ∈ [0, 1], (volS (lay4 []) zEmpty).zoneAwaits (lay4 []) z = false) ∧
    (lay4 []).w ≤ ((volS (lay4 []) zEmpty).reshapePool (lay4 [])).length ∧ (lay4 []).serving.any (volS (lay4 []) zEmpty).memberPreserves = true ∧
    (volS layR zEmpty).ownsVolume layR = true ∧ layR.bound < layR.zones ∧ (∀ z ∈ [0, 1], (volS layR zEmpty).zoneAwaits layR z = false) ∧
    (volS layR zEmpty).ownZones.any (fun p => (volS layR zEmpty).zoneAwaits p.1 p.2) = false ∧ (volS layR zFull).zstate ((volS layR zFull).volZone 1 layR.bound) = zFull ∧
    ztNew ((volS layR zFull).ztab ((volS layR zFull).volZone 1 layR.bound)) = false ∧ (volS layR zEmpty).layout 1 = some layR ∧
    (volS layR zEmpty).zstate ((volS layR zEmpty).volZone 1 layR.bound) = zEmpty := by decide +kernel

def trustS : State := slotS |>.putSessions [sess0 true] |>.putTrust { State.reset.trust with conns := [(0, 3)] }
theorem witness_TrustResults_open : (∀ n ∈ [1, 2, 3], (trustS.setStage 1 n).stage 1 = n ∧ (trustS.setStage 1 n).Trusted) ∧ trustS.freeSession = some 8185 ∧
    (∀ n < 8, (trustS.putSessions ((List.range 8).map (fun i => { sess0 true with slot := generalSlots + i }))).sessions.any
      (fun y => decide (y.slot = generalSlots + n)) = true) ∧ (trustS.putSessions [sess0 false]).session 0x11 = some (sess0 false) ∧ (sess0 false).established = false := by decide
/-- A device with owner 1, whose permissions the session proves. -/
def ownedS : State := trustS.putTrust { trustS.trust with owners := [(1, some { hash := 5, img := true, sealing := true, admin := true })] }
theorem witness_TrustResults_owned : ownedS.Trusted ∧ ownedS.unowned = false ∧ ownedS.owner 1 = some { hash := 5, img := true, sealing := true, admin := true } ∧
    ownedS.owner 4 = none ∧ ownedS.proves (sess0 true) (fun o => o.admin) = true ∧ ownedS.proves (sess0 true) (fun _ => true) = true ∧
    ((ownedS.putNsInfo [(1, some (nsx 0))]).putVault [(7, some { slotKey 0 with bound := 1 })]).slotOfNs 1 = some 7 ∧ (sess0 true).func = none := by decide
theorem witness_TrustResults : trustS.Trusted ∧ trustS.stage 0 = 3 ∧ trustS.stage 1 = 0 ∧ trustS.session 0x11 = some (sess0 true) ∧
    trustS.session 0x12 = none ∧ trustS.unowned = true ∧ trustS.owner 4 = none ∧ trustS.tick.toNat ≤ 600 * trustS.secondTicks ∧
    trustS.proves (sess0 true) (fun o => o.admin) = false ∧
    (sess0 true).beat.toNat + 20 * trustS.secondTicks ≤ (trustS.putTick 0x10000000).tick.toNat := by decide

end Sys2Proof.Tests
end

section
/-! PROOFS. The statements of 01_device_overview.md: the rows that write a station register, and the controller fault
reset. -/

namespace Sys2Proof.Machine

/-! ## Rows that write a station register -/

theorem State.whoWrite_allowed {s : State} {w : Who} {off : Nat} (h : s.whoOk w .wr off = true) (v : W64) :
    s.whoWrite w off v = s.stWrite (s.whoLoader w) off v := if_pos h

theorem State.whoWrite_refused {s : State} {w : Who} {off : Nat} (h : s.whoOk w .wr off = false) (v : W64) :
    s.whoWrite w off v = s := if_neg (ne_true_of_eq_false h)

/-- Each row is one write, by its writer, of its register and value; what the checker says is left to `whoWrite`. -/
theorem exec_writeRow (s : State) (w : Who) (c : CoreId) (v m : W64) (run lim : Bool) (off : BitVec 24) (n : BitVec 4)
    (p : BitVec 3) (e : BitVec 12) (k : BitVec 8) :
    ∀ r ∈ writeRows s w c v m run lim off n p e k, exec r.ins s = .next (s.whoWrite w r.off r.val) := by
  simp only [writeRows, List.forall_mem_cons]
  exact ⟨rfl, rfl, rfl, rfl, rfl, rfl, rfl, rfl, rfl, rfl, rfl, rfl, rfl, rfl, rfl, rfl, rfl, rfl, rfl, rfl, rfl, rfl, rfl,
    rfl, rfl, rfl, rfl, rfl, List.forall_mem_nil _⟩

/-- Settles O27: every row is a `whoWrite`, which the checker lets through or ignores. -/
theorem registerWriteRows : Obligations.RegisterWriteRows := by
  intro s w c v m run lim off n p e k r hr
  rw [exec_writeRow s w c v m run lim off n p e k r hr]
  exact ⟨fun h => by rw [State.whoWrite_allowed h], fun h => by rw [State.whoWrite_refused h]⟩

/-! ## What a controller fault reset keeps (R469) -/

/-- Filtering a map by its keys does not touch the keys that stay. -/
theorem FMap.get_filter_key {α : Type} {d : Nat → α} (f : Nat → Bool) {k : Nat} (hk : f k = true) (m : FMap α) :
    FMap.get d (m.filter (fun p => f p.1)) k = FMap.get d m k := by
  induction m with
  | nil => rfl
  | cons p r ih =>
    by_cases hp : p.1 = k
    · rw [List.filter_cons_of_pos (by rw [hp]; exact hk), ← hp, FMap.get_cons_self, FMap.get_cons_self]
    · rw [FMap.get_cons_ne p r hp, ← ih]
      by_cases hf : f p.1 = true
      · rw [List.filter_cons_of_pos (p := fun x : Nat × α => f x.1) hf, FMap.get_cons_ne p _ hp]
      · rw [List.filter_cons_of_neg (p := fun x : Nat × α => f x.1) hf]

theorem length_toBytes (n v : Nat) : (toBytes n v).length = n := by
  induction n generalizing v with
  | zero => rfl
  | succ n ih => exact congrArg (· + 1) (ih (v / 256))

/-- What a fault reset keeps from `s` to `t`: all of the ingot store but the word of the generation, and flash where
`flash` holds. -/
structure State.FaultKeeps (flash : Prop) (s t : State) : Prop where
  tick : t.tick = s.tick
  win : t.win = s.win
  wsn : t.wsn = s.wsn
  dram : t.dram = s.dram
  nor : t.nor = s.nor
  ingot : ∀ a, a < 0xE100008 ∨ 0xE100010 ≤ a → FMap.get zeroByte t.ingot a = FMap.get zeroByte s.ingot a
  nand : flash → t.nand = s.nand

namespace State.FaultKeeps

variable {q : Prop} {s t u : State}

theorem refl (s : State) : FaultKeeps q s s := ⟨rfl, rfl, rfl, rfl, rfl, fun _ _ => rfl, fun _ => rfl⟩

theorem trans (h : FaultKeeps q s t) (g : FaultKeeps q t u) : FaultKeeps q s u where
  tick := g.tick.trans h.tick
  win := g.win.trans h.win
  wsn := g.wsn.trans h.wsn
  dram := g.dram.trans h.dram
  nor := g.nor.trans h.nor
  ingot a ha := (g.ingot a ha).trans (h.ingot a ha)
  nand hq := (g.nand hq).trans (h.nand hq)

/-- New register values keep all of it when the sequence counter's register reads as before. -/
theorem putRegs (h : FaultKeeps q s t) {m : FMap W64} (hm : FMap.get regReset m hazWsn = t.reg hazWsn) :
    FaultKeeps q s (t.putRegs m) :=
  h.trans ⟨rfl, rfl, congrArg (fld · 0 56) hm, rfl, rfl, fun _ _ => rfl, fun _ => rfl⟩

theorem setReg (h : FaultKeeps q s t) {o : Nat} (ho : hazWsn ≠ o) (v : W64) : FaultKeeps q s (t.setReg o v) :=
  h.putRegs (t.reg_setReg_ne v ho)

theorem setRfld (h : FaultKeeps q s t) {o : Nat} (ho : hazWsn ≠ o) (lo w x : Nat) : FaultKeeps q s (t.setRfld o lo w x) :=
  h.setReg ho _

theorem foldl {β : Type} {f : State → β → State} (hf : ∀ t x, FaultKeeps q t (f t x)) (l : List β) (h : FaultKeeps q s t) :
    FaultKeeps q s (l.foldl f t) := by
  induction l generalizing t with
  | nil => exact h
  | cons x l ih => exact ih (h.trans (hf t x))

end State.FaultKeeps

section
variable {q : Prop} (s : State)

theorem State.almRecord_keeps (code : Nat) (params : List W64) : FaultKeeps q s (s.almRecord code params) := by
  unfold State.almRecord State.almQueue
  split <;> exact ⟨rfl, rfl, rfl, rfl, rfl, fun _ _ => rfl, fun _ => rfl⟩

theorem State.almRecord_reqs (code : Nat) (params : List W64) : (s.almRecord code params).reqs = s.reqs := by
  unfold State.almRecord State.almQueue
  split <;> rfl

theorem State.setBootId_keeps (v : W64) : FaultKeeps q s (s.setBootId v) := by
  unfold State.setBootId
  split
  · exact .refl s
  · exact ((FaultKeeps.refl s).setReg (by decide) v).trans ⟨rfl, rfl, rfl, rfl, rfl, fun _ _ => rfl, fun _ => rfl⟩

theorem State.setBootId_reqs (v : W64) : (s.setBootId v).reqs = s.reqs := by
  unfold State.setBootId
  split <;> rfl

theorem State.readyLow_keeps : FaultKeeps q s s.readyLow := by
  unfold State.readyLow
  split
  · exact (s.setBootId_keeps _).trans ⟨rfl, rfl, rfl, rfl, rfl, fun _ _ => rfl, fun _ => rfl⟩
  · exact .refl s

theorem State.readyLow_reqs : s.readyLow.reqs = s.reqs := by
  unfold State.readyLow
  split
  · exact s.setBootId_reqs _
  · rfl

theorem State.faultRegs_keeps : FaultKeeps q s s.faultRegs := by
  have tracker : FMap.get regReset (s.regs.filter (fun p => !isTrackerReg p.1)) hazWsn = s.reg hazWsn :=
    FMap.get_filter_key (fun o => !isTrackerReg o) (by decide) s.regs
  have ready : ∀ (t : State) (ch : Nat), FaultKeeps q t (t.setRfld (sta (0x40 + ch) 8) 0 1 0) :=
    fun t ch => (FaultKeeps.refl t).setRfld (by unfold hazWsn sta; omega) 0 1 0
  exact .foldl ready _ ((((((FaultKeeps.refl s).putRegs tracker).setRfld (by decide) _ _ _).setRfld (by decide) _ _ _).setReg
    (by decide) _).setReg (by decide) _)

/-- The generation is durable in its own word of the ingot store (R389, R474). -/
theorem State.raiseGen_keeps : FaultKeeps q s s.raiseGen := by
  refine ((FaultKeeps.refl s).setReg (o := sta 0xD 0x18) (by decide) _).trans
    ⟨rfl, rfl, rfl, rfl, rfl, fun a ha => FMap.get_setList_out _ s.ingot _ a ?_, fun _ => rfl⟩
  rw [length_toBytes]
  exact ha

theorem State.faultSpan_keeps : FaultKeeps q s s.faultSpan := by
  have due : ∀ l, FaultKeeps q s (s.putRestartDue l) := fun l => ⟨rfl, rfl, rfl, rfl, rfl, fun _ _ => rfl, fun _ => rfl⟩
  unfold State.faultSpan
  dsimp only
  split
  · refine .foldl (fun t p => ?_) _ (due _)
    split
    · exact (FaultKeeps.refl t).setRfld (by unfold hazWsn sta; omega) _ _ _
    · exact .refl t
  · exact due _

theorem State.dropSessions_keeps (f : Session → Bool) : FaultKeeps q s (s.dropSessions f) :=
  ⟨rfl, rfl, rfl, rfl, rfl, fun _ _ => rfl, fun _ => rfl⟩

end

/-! ## Programs and erases cut by a fault reset -/

theorem State.setFrame_keeps (s : State) (k : Nat) (f : NFrame) : FaultKeeps False s (s.setFrame k f) :=
  ⟨rfl, rfl, rfl, rfl, rfl, fun _ _ => rfl, False.elim⟩

theorem State.resetBlock_keeps (s : State) (k : Nat) (e : Bool) : FaultKeeps False s (s.resetBlock k e) :=
  ⟨rfl, rfl, rfl, rfl, rfl, fun _ _ => rfl, False.elim⟩

theorem State.spoilOp_keeps (s : State) (r : Req) : FaultKeeps False s (s.spoilOp r) := by
  unfold State.spoilOp
  split
  · exact .foldl (fun t k => t.setFrame_keeps k .undef) _ (.refl s)
  · split
    · exact .foldl (fun t pl => t.resetBlock_keeps _ false) _ (.refl s)
    · exact .refl s

theorem State.spoilOp_other (s : State) {r : Req} (h : r.prim ≠ .fprog ∧ r.prim ≠ .ferase) : s.spoilOp r = s := by
  unfold State.spoilOp
  rw [if_neg h.1, if_neg h.2]

/-- No die has started a program or erase. -/
def State.FlashQuiet (s : State) : Prop := ∀ r ∈ s.reqs, r.phase = .started → r.prim ≠ .fprog ∧ r.prim ≠ .ferase

/-- The dies' unfinished programs and erases, in the flash they leave behind. -/
def State.spoilStarted (s : State) : State := (s.reqs.filter (fun r => decide (r.phase = .started))).foldl State.spoilOp s

theorem State.spoilStarted_quiet {s : State} (h : s.FlashQuiet) : s.spoilStarted = s := by
  have quiet : ∀ l : List Req, (∀ r ∈ l, r.prim ≠ .fprog ∧ r.prim ≠ .ferase) → l.foldl State.spoilOp s = s := by
    intro l hl
    induction l with
    | nil => rfl
    | cons r l ih =>
      obtain ⟨hr, hl⟩ := List.forall_mem_cons.mp hl
      rw [List.foldl_cons, State.spoilOp_other s hr, ih hl]
  refine quiet _ (fun r hr => ?_)
  obtain ⟨hr, hs⟩ := List.mem_filter.mp hr
  exact h r hr (of_decide_eq_true hs)

theorem State.spoilStarted_keeps (s : State) : FaultKeeps s.FlashQuiet s s.spoilStarted :=
  { State.FaultKeeps.foldl State.spoilOp_keeps _ (.refl s) with
    nand := fun h => congrArg State.nand (State.spoilStarted_quiet h) }

/-! ## The controller fault reset -/

/-- The state in which the device stands when its on-chip state is cleared. -/
def State.beforeClear (s : State) : State := (s.readyLow.spoilStarted.faultRegs.raiseGen.faultSpan).dropSessions (fun _ => true)

theorem State.beforeClear_keeps (s : State) : FaultKeeps s.FlashQuiet s s.beforeClear := by
  have quiet : s.readyLow.FlashQuiet = s.FlashQuiet := by unfold State.FlashQuiet; rw [s.readyLow_reqs]
  exact s.readyLow_keeps.trans <| (quiet ▸ s.readyLow.spoilStarted_keeps).trans <| (State.faultRegs_keeps _).trans <|
    (State.raiseGen_keeps _).trans <| (State.faultSpan_keeps _).trans <| State.dropSessions_keeps _ _

/-- Clearing the on-chip state touches neither the registers nor what is kept beside them. -/
theorem State.stopDevice_frame (s : State) : s.stopDevice.tick = s.beforeClear.tick ∧ s.stopDevice.win = s.beforeClear.win ∧
    s.stopDevice.regs = s.beforeClear.regs ∧ s.stopDevice.dram = s.beforeClear.dram ∧ s.stopDevice.nor = s.beforeClear.nor ∧
    s.stopDevice.ingot = s.beforeClear.ingot ∧ s.stopDevice.nand = s.beforeClear.nand := by
  simp [State.stopDevice, State.beforeClear, State.spoilStarted]

theorem State.stopDevice_keeps (s : State) : FaultKeeps s.FlashQuiet s s.stopDevice := by
  obtain ⟨tick, win, regs, dram, nor, ingot, nand⟩ := s.stopDevice_frame
  have wsn : s.stopDevice.wsn = s.beforeClear.wsn := congrArg (fun m => fld (FMap.get regReset m hazWsn) 0 56) regs
  exact s.beforeClear_keeps.trans ⟨tick, win, wsn, dram, nor, fun a _ => by rw [ingot], fun _ => nand⟩

theorem State.stopDevice_clears (s : State) : s.stopDevice.boot.down = true ∧ s.stopDevice.cores = [] ∧ s.stopDevice.reqs = [] ∧
    s.stopDevice.cmds = [] ∧ s.stopDevice.tunBufs = [] ∧ s.stopDevice.haz = [] ∧ s.stopDevice.marks = [] ∧
    s.stopDevice.rings = [] ∧ s.stopDevice.sramErr = [] ∧ s.stopDevice.cluster = [] :=
  ⟨rfl, rfl, rfl, rfl, rfl, rfl, rfl, rfl, rfl, rfl⟩

theorem State.faultReset_keeps (s : State) (cause p1 p2 : Nat) : FaultKeeps s.FlashQuiet s (s.faultReset cause p1 p2) := by
  unfold State.faultReset
  generalize hp : [w64 cause, w64 p1, w64 p2, s.tick, 0] = params
  have quiet : (s.almRecord 0x30 params).FlashQuiet = s.FlashQuiet := by
    unfold State.FlashQuiet; rw [State.almRecord_reqs]
  exact (s.almRecord_keeps 0x30 params).trans (quiet ▸ State.stopDevice_keeps _)

theorem State.faultReset_down (s : State) (cause p1 p2 : Nat) : (s.faultReset cause p1 p2).boot.down = true :=
  (State.stopDevice_clears _).1

theorem exec_sramUncorrectableError {s : State} {arr : BitVec 8} {word : BitVec 24} (hup : s.up) (ha : s.sramArray arr.toNat = true)
    (hw : word.toNat < sramWords arr.toNat) :
    exec (.sramUncorrectableError arr word) s = .next (s.faultReset 1 arr.toNat word.toNat) := by
  have ok : ¬(s.boot.down = true ∨ (!s.sramArray arr.toNat) = true ∨ sramWords arr.toNat ≤ word.toNat) := by
    simp [show s.boot.down = false from hup, ha, hw]
  exact congrArg Host.Outcome.next (if_neg ok)

/-! ## A fetch of a word in error -/

/-- Reading the only word in error either corrects it or resets the device (R463, R469). -/
theorem State.sramRead_single {s : State} {arr w n : Nat} (h : s.sramErr = [(sramKey arr w, n)]) :
    s.sramRead arr w 1 = if 2 ≤ n then s.faultReset 1 arr (sramKey arr w % 0x1000000)
      else s.rtCorrected arr (sramKey arr w % 0x1000000) := by
  have hit : sramKey arr w < sramKey arr (w + 1) := by unfold sramKey; omega
  unfold State.sramRead
  rw [h, List.filter_cons_of_pos (by simp [hit])]
  rfl

theorem State.unlessReset_stopped {s t : State} (f : State → State) (hs : s.up) (ht : t.boot.down = true) :
    s.unlessReset t f = t := if_pos (by rw [ht, show s.boot.down = false from hs]; rfl)

theorem State.unlessReset_up {s t : State} (f : State → State) (ht : t.up) : s.unlessReset t f = f t :=
  if_neg (by rw [show t.boot.down = false from ht]; exact Bool.false_ne_true)

theorem onCore_runs {s : State} {c : CoreId} (f : State → State) (h : s.runs c = true) :
    onCore s c f = .next (s.unlessReset (s.fetched c) f) := by
  unfold onCore
  rw [if_pos h]

/-- Settles O52: a fault reset keeps what `FaultKeeps` names and clears the rest of the on-chip state; a fetch reads one
word, and what that reading does decides whether the instruction runs. -/
theorem faultResetEffects : Obligations.FaultResetEffects := by
  refine ⟨fun s arr word hup ha hw => ⟨_, exec_sramUncorrectableError hup ha hw, ?_⟩,
    fun s c hup hrun => ⟨fun herr => ?_, fun herr hok => ?_⟩⟩
  · obtain ⟨down, cores, reqs, cmds, bufs, haz, marks, rings, err, cluster⟩ :=
      (s.almRecord 0x30 [w64 1, w64 arr.toNat, w64 word.toNat, s.tick, 0]).stopDevice_clears
    have kept := s.faultReset_keeps 1 arr.toNat word.toNat
    exact ⟨down, cores, reqs, cmds, bufs, haz, marks, rings, err, cluster, kept.tick, kept.wsn, kept.dram, kept.ingot, kept.nor,
      kept.win, kept.nand⟩
  · have fetch := State.sramRead_single herr
    rw [if_pos (Nat.le_refl 2)] at fetch
    show onCore s c _ = _
    rw [onCore_runs _ hrun, State.fetched, fetch, State.unlessReset_stopped _ hup (State.faultReset_down _ _ _ _)]
  · have fetch := State.sramRead_single herr
    rw [if_neg (by decide)] at fetch
    show onCore s c _ = _
    rw [onCore_runs _ hrun, State.fetched, fetch, State.unlessReset_up _ hok]

end Sys2Proof.Machine
end

section
/-! PROOFS. The statements of 02_sidereal_tick.md, first part: fields of words, events, and how an activation ends. -/

namespace Sys2Proof.Machine

/-! ## Fields of words -/

section
variable {n : Nat} (v : BitVec n)

theorem fld_lt (lo w : Nat) : fld v lo w < 2 ^ w := Nat.mod_lt _ (Nat.two_pow_pos w)

theorem bit_eq_fld (i : Nat) : bit v i = decide (fld v i 1 = 1) := rfl

/-- A field of a number is a field of the number's low bits, when these hold it. -/
theorem mod_div_mod_pow (x : Nat) {m lo w : Nat} (h : lo + w ≤ m) : x % 2 ^ m / 2 ^ lo % 2 ^ w = x / 2 ^ lo % 2 ^ w := by
  obtain ⟨k, rfl⟩ := Nat.exists_eq_add_of_le h
  rw [Nat.add_assoc, Nat.pow_add, Nat.mod_mul_right_div_self, Nat.mod_mod_of_dvd _ (pow_dvd_pow 2 (Nat.le_add_right w k))]

theorem fld_w64 (x : Nat) {lo w : Nat} (h : lo + w ≤ 64) : fld (w64 x) lo w = x / 2 ^ lo % 2 ^ w := mod_div_mod_pow x h

/-- A low part and a high part together stay below the end of the high part. -/
theorem low_add_high_lt {a b k m : Nat} (ha : a < 2 ^ k) (hb : b < 2 ^ m) : a + 2 ^ k * b < 2 ^ (k + m) := by
  calc a + 2 ^ k * b < 2 ^ k + 2 ^ k * b := Nat.add_lt_add_right ha _
    _ = 2 ^ k * (b + 1) := by ring
    _ ≤ 2 ^ k * 2 ^ m := Nat.mul_le_mul_left _ hb
    _ = 2 ^ (k + m) := (Nat.pow_add 2 k m).symm

/-- A word with a field replaced is the part below the field, the field, and the part above it. -/
theorem toNat_setFld {lo w : Nat} (h : lo + w ≤ n) (x : Nat) :
    (setFld v lo w x).toNat = v.toNat % 2 ^ lo + 2 ^ lo * (x % 2 ^ w + 2 ^ w * (v.toNat / 2 ^ (lo + w))) := by
  obtain ⟨k, rfl⟩ := Nat.exists_eq_add_of_le h
  have high : v.toNat / 2 ^ (lo + w) < 2 ^ k := by
    rw [Nat.div_lt_iff_lt_mul (Nat.two_pow_pos _), ← Nat.pow_add, Nat.add_comm k]
    exact v.isLt
  have bound := low_add_high_lt (Nat.mod_lt v.toNat (Nat.two_pow_pos lo))
    (low_add_high_lt (Nat.mod_lt x (Nat.two_pow_pos w)) high)
  rw [← Nat.add_assoc] at bound
  have sum : v.toNat % 2 ^ lo + (x % 2 ^ w) * 2 ^ lo + v.toNat / 2 ^ (lo + w) * 2 ^ (lo + w) =
      v.toNat % 2 ^ lo + 2 ^ lo * (x % 2 ^ w + 2 ^ w * (v.toNat / 2 ^ (lo + w))) := by rw [Nat.pow_add]; ring
  unfold setFld
  rw [sum, BitVec.toNat_ofNat, Nat.mod_eq_of_lt bound]

theorem fld_setFld_same {lo w : Nat} (h : lo + w ≤ n) (x : Nat) : fld (setFld v lo w x) lo w = x % 2 ^ w := by
  unfold fld
  rw [toNat_setFld v h, Nat.add_mul_div_left _ _ (Nat.two_pow_pos lo), Nat.div_eq_of_lt (Nat.mod_lt _ (Nat.two_pow_pos lo)),
    Nat.zero_add, Nat.add_mul_mod_self_left, Nat.mod_mod]

/-- Replacing a field keeps every field below it or above it. -/
theorem fld_setFld_other {lo w lo' w' : Nat} (h : lo + w ≤ n) (x : Nat) (hd : lo' + w' ≤ lo ∨ lo + w ≤ lo') :
    fld (setFld v lo w x) lo' w' = fld v lo' w' := by
  unfold fld
  rw [toNat_setFld v h]
  rcases hd with hd | hd
  · rw [← mod_div_mod_pow _ hd, Nat.add_mul_mod_self_left, Nat.mod_mod, mod_div_mod_pow _ hd]
  · obtain ⟨k, rfl⟩ := Nat.exists_eq_add_of_le hd
    rw [Nat.pow_add 2 (lo + w) k, ← Nat.div_div_eq_div_mul, ← Nat.div_div_eq_div_mul, Nat.pow_add 2 lo w, ← Nat.div_div_eq_div_mul,
      Nat.add_mul_div_left _ _ (Nat.two_pow_pos lo), Nat.div_eq_of_lt (Nat.mod_lt _ (Nat.two_pow_pos lo)), Nat.zero_add,
      Nat.add_mul_div_left _ _ (Nat.two_pow_pos w), Nat.div_eq_of_lt (Nat.mod_lt _ (Nat.two_pow_pos w)), Nat.zero_add]

theorem bit_setFld_same {i : Nat} (h : i + 1 ≤ n) (x : Nat) : bit (setFld v i 1 x) i = decide (x % 2 = 1) := by
  rw [bit_eq_fld, fld_setFld_same v h, pow_one]

theorem bit_setFld_other {lo w i : Nat} (h : lo + w ≤ n) (x : Nat) (hd : i + 1 ≤ lo ∨ lo + w ≤ i) :
    bit (setFld v lo w x) i = bit v i := by
  rw [bit_eq_fld, fld_setFld_other v h x hd, bit_eq_fld]

end

/-! ## Events (R36) -/

section
variable (cls lvl src oc body : Nat)

theorem mkEvent_head : fld (mkEvent cls lvl src oc body) 0 6 = cls % 64 ∧ fld (mkEvent cls lvl src oc body) 6 3 = lvl % 8 ∧
    fld (mkEvent cls lvl src oc body) 9 7 = src % 128 ∧ fld (mkEvent cls lvl src oc body) 16 8 = oc % 256 := by
  unfold mkEvent
  refine ⟨?_, ?_, ?_, ?_⟩ <;> rw [fld_w64 _ (by decide)] <;> omega

/-- A field of the BODY of an event. -/
theorem mkEvent_body {lo w : Nat} (h : lo + w ≤ 40) : fld (mkEvent cls lvl src oc body) (24 + lo) w = body / 2 ^ lo % 2 ^ w := by
  unfold mkEvent
  rw [fld_w64 _ (by omega), Nat.pow_add, ← Nat.div_div_eq_div_mul]
  have e : (cls % 64 + lvl % 8 * 2 ^ 6 + src % 128 * 2 ^ 9 + oc % 256 * 2 ^ 16 + body % 2 ^ 40 * 2 ^ 24) / 2 ^ 24 = body % 2 ^ 40 := by
    omega
  rw [e, mod_div_mod_pow _ h]

theorem bit_mkEvent_body {i : Nat} (h : i + 1 ≤ 40) : bit (mkEvent cls lvl src oc body) (24 + i) = decide (body / 2 ^ i % 2 = 1) := by
  rw [bit_eq_fld, mkEvent_body _ _ _ _ _ h, pow_one]

end

end Sys2Proof.Machine
end

section
/-! PROOFS. The statements of 02_sidereal_tick.md, second part: how an activation begins, ends and is cut. -/

namespace Sys2Proof.Machine

/-! ## A cut (R51) -/

/-- Core `k` once its activation has been cut with fault code `code`, before its P0 event is queued. -/
def Core.cutBy (k : Core) (code : Nat) : Core :=
  let counted := decide (code = 0xE0) || decide (code = 0xE1)
  { k with
    act := .idle, cut := true, state := .faulted,
    ovr := if code = 0xE0 then BitVec.ofNat 8 (satAdd 8 k.ovr.toNat 1) else k.ovr,
    bex := if code = 0xE1 then BitVec.ofNat 8 (satAdd 8 k.bex.toNat 1) else k.bex,
    lastSlot := if counted then BitVec.ofNat 6 k.act.slotField else k.lastSlot,
    startCut := if counted then decide (k.act = .start) else k.startCut }

/-- The P0 event of a cut, with the class `f` that no rule gives (R82). -/
def cutEvent (k : Core) (c : CoreId) (f code pcw trapK : Nat) : W64 := mkEvent f 0 c.toNat code (p0Body k pcw trapK)

@[simp] theorem State.core_almRecord (s : State) (code : Nat) (params : List W64) (c : CoreId) :
    (s.almRecord code params).core c = s.core c := by
  unfold State.almRecord State.almQueue
  split <;> rfl

/-- With room in the P0 queue, an event stands last in it (R40). -/
theorem State.postP0_room {s : State} {c : CoreId} (e : W64) (hp : (s.core c).p0.length < 16) :
    s.postP0 c e = s.setCore c { s.core c with p0 := (s.core c).p0 ++ [e] } := if_neg (Nat.not_le.mpr hp)

/-- Outside the fault handler, with room in the P0 queue, a cut queues one event and touches its own core alone. -/
theorem State.cut_core {s : State} {c : CoreId} (code pcw trapK : Nat) (hact : (s.core c).act ≠ .faultHandler)
    (hp : (s.core c).p0.length < 16) : ∃ f,
      (s.cut c code pcw trapK).core c =
        { (s.core c).cutBy code with p0 := (s.core c).p0 ++ [cutEvent (s.core c) c f code pcw trapK] } ∧
      ∀ d, d ≠ c → (s.cut c code pcw trapK).core d = s.core d := by
  unfold State.cut
  rw [if_neg hact]
  dsimp only
  generalize hr : ((s.setCore c _).almRecord _ _) = r
  have cut : ∀ d, r.takeFree.2.core d = (s.setCore c ((s.core c).cutBy code)).core d := by
    intro d
    rw [← hr]
    exact State.core_almRecord _ _ _ d
  have self : r.takeFree.2.core c = (s.core c).cutBy code := (cut c).trans (State.core_setCore_self _ _ _)
  refine ⟨fld r.takeFree.1 0 6, ?_⟩
  rw [State.postP0_room _ (by rw [self]; exact hp), self]
  refine ⟨State.core_setCore_self _ _ _, fun d hd => ?_⟩
  rw [State.core_setCore_ne _ _ hd, cut d, State.core_setCore_ne _ _ hd]

/-- LEVEL, SOURCE and OUTCOME of a cut's event. -/
theorem cutEvent_head (k : Core) (c : CoreId) (f code pcw trapK : Nat) : fld (cutEvent k c f code pcw trapK) 6 3 = 0 ∧
    fld (cutEvent k c f code pcw trapK) 9 7 = c.toNat ∧ fld (cutEvent k c f code pcw trapK) 16 8 = code % 256 := by
  obtain ⟨-, level, source, outcome⟩ := mkEvent_head f 0 c.toNat code (p0Body k pcw trapK)
  exact ⟨level, source.trans (Nat.mod_eq_of_lt (by omega)), outcome⟩

/-- BODY of a cut's event: the pc word, and the slot where it is one of the table's. -/
theorem cutEvent_body (k : Core) (c : CoreId) (f code pcw trapK : Nat) : fld (cutEvent k c f code pcw trapK) 24 12 = pcw % 4096 ∧
    (k.act.slotField < 64 → fld (cutEvent k c f code pcw trapK) 37 6 = k.act.slotField) := by
  have bank : b2n k.actBank ≤ 1 := by unfold b2n; split <;> decide
  refine ⟨(mkEvent_body _ _ _ _ _ (lo := 0) (by decide)).trans ?_, fun hs => (mkEvent_body _ _ _ _ _ (lo := 13) (by decide)).trans ?_⟩ <;>
    unfold p0Body <;> omega

/-- Settles O26: the cut of a bound excess is a cut with fault code 0xE1. -/
theorem boundExcessCounts : Obligations.BoundExcessCounts := by
  intro s c n hwin hact hn hbound hp
  have timed : (s.core c).act ≠ .faultHandler := by rw [hact]; exact Activation.noConfusion
  obtain ⟨f, core, -⟩ := State.cut_core 0xE1 (s.core c).pc.toNat 0 timed hp
  obtain ⟨-, -, outcome⟩ := cutEvent_head (s.core c) c f 0xE1 (s.core c).pc.toNat 0
  obtain ⟨word, slot⟩ := cutEvent_body (s.core c) c f 0xE1 (s.core c).pc.toNat 0
  have field : (s.core c).act.slotField = n := by rw [hact]; rfl
  have cut : exec (.boundExcess c) s = .next (s.cut c 0xE1 (s.core c).pc.toNat 0) :=
    congrArg Host.Outcome.next (if_pos ⟨hwin, by rw [hact]; exact Activation.noConfusion, timed, hbound⟩)
  refine ⟨_, cutEvent (s.core c) c f 0xE1 (s.core c).pc.toNat 0, cut, ?_⟩
  rw [core]
  refine ⟨rfl, rfl, rfl, ?_, ?_, rfl, rfl, outcome, word, (slot (field ▸ hn)).trans field, fun _ => rfl, rfl⟩
  · exact Nat.mod_eq_of_lt (by unfold satAdd; omega)
  · show (BitVec.ofNat 6 (s.core c).act.slotField).toNat = n
    rw [field]
    exact Nat.mod_eq_of_lt hn

/-! ## Traps (R69, R82) -/

theorem exec_trap {s : State} {c : CoreId} (h : s.Ready c) (i : BitVec 14) :
    exec (.trap c i) s = .next (s.progFault c 0xE7 1 i.toNat) := onCore_ready _ h

/-- A core in a timed slot of a number that no table has. -/
def wideSlotCore : Core := { Core.reset with act := .timed 128 }

/-- The device in the slot window with that core as core 0. -/
def wideSlotState : State := ((State.reset.putWin .slot).putRegs [(sta 0x17 0x10, w64 (2 ^ 32))]).putCores [(0, wideSlotCore)]

/-- Refutes O15: the statement bounds the slot where it speaks of the slot field and not where it speaks of K, and the field
of slot 128 runs over into K: a trap with K = 0 reports K = 1. No run reaches a slot above 63. -/
theorem not_trapTakesFault : ¬ Obligations.TrapTakesFault := by
  intro h
  have ready : wideSlotState.Ready 0 := ⟨by decide, rfl⟩
  obtain ⟨t, e, step, -, -, -, -, -, -, -, -, -, -, -, queue, -, -, -, -, -, -, -, -, k, -⟩ :=
    h wideSlotState 0 0 ready (by decide) (by decide)
  rw [exec_trap ready] at step
  obtain ⟨f, core, -⟩ := State.cut_core (s := wideSlotState.setCore 0 (wideSlotCore.charge 1)) (c := 0) 0xE7 0 0 (by decide) (by decide)
  have event : e = cutEvent (wideSlotCore.charge 1) 0 f 0xE7 0 0 := by
    have p0 := congrArg Core.p0 core
    rw [show (wideSlotState.setCore 0 (wideSlotCore.charge 1)).cut 0 0xE7 0 0 = t from Host.Outcome.next.inj step, queue] at p0
    exact (List.cons.inj p0).1
  rw [event, cutEvent, mkEvent_body _ _ _ _ _ (lo := 20) (by decide)] at k
  exact absurd k (by decide)

end Sys2Proof.Machine
end

section
/-! PROOFS. The statements of 02_sidereal_tick.md, third part: control transfer, slot-end and the activations' entries. -/

namespace Sys2Proof.Machine

/-! ## Branches (R69, R70) -/

theorem State.takeBranch_inside {s : State} {c : CoreId} (n : Nat) {w : BitVec 13} (h : (s.core c).branchOk w = true) :
    s.takeBranch c n w = s.goTo c n w := if_pos h

theorem State.takeBranch_outside {s : State} {c : CoreId} (n : Nat) {w : BitVec 13} (h : (s.core c).branchOk w = false) :
    s.takeBranch c n w = s.progFault c 0xE6 n 0 := if_neg (ne_true_of_eq_false h)

/-- A branch inside the open loop goes to its target or to the next word, as its condition holds. -/
theorem branch_inside {s : State} {c : CoreId} {tgt : BitVec 12} (hr : s.Ready c)
    (hb : (s.core c).branchOk (tgt.setWidth 13) = true) (cond : Core → Bool) :
    branch s c tgt cond = .next (if cond (s.core c) then s.goTo c 2 (tgt.setWidth 13) else s.stepCore c 2 id) := by
  unfold branch
  rw [onCore_ready _ hr, pc13, State.takeBranch_inside 2 hb]
  rfl

/-- A branch that is taken out of the open loop faults. -/
theorem branch_outside {s : State} {c : CoreId} {tgt : BitVec 12} (hr : s.Ready c)
    (hb : (s.core c).branchOk (tgt.setWidth 13) = false) {cond : Core → Bool} (hc : cond (s.core c) = true) :
    branch s c tgt cond = .next (s.progFault c 0xE6 2 0) := by
  unfold branch
  rw [onCore_ready _ hr, pc13, State.takeBranch_outside 2 hb, if_pos hc]

/-! ## Calls and returns (R69, R72) -/

section
variable {s : State} {c : CoreId} (hr : s.Ready c)
include hr

theorem exec_call_room (tgt : BitVec 12) (h : (s.core c).calls.length < 8) : exec (.call c tgt) s =
    .next (s.setCore c ({ s.core c with calls := ((s.core c).pc + 1) :: (s.core c).calls, pc := tgt.setWidth 13 }.charge 3)) :=
  (onCore_ready _ hr).trans (congrArg Host.Outcome.next (if_neg (Nat.not_le.mpr h)))

theorem exec_call_full (tgt : BitVec 12) (h : 8 ≤ (s.core c).calls.length) :
    exec (.call c tgt) s = .next (s.progFault c 0xE5 3 0) :=
  (onCore_ready _ hr).trans (congrArg Host.Outcome.next (if_pos h))

theorem exec_ret_empty (h : (s.core c).calls = []) : exec (.ret c) s = .next (s.progFault c 0xE5 3 0) := by
  refine (onCore_ready _ hr).trans ?_
  simp only [h]

theorem exec_ret_in_loop (hc : (s.core c).calls ≠ []) (hl : (s.core c).openLoop ≠ none) :
    exec (.ret c) s = .next (s.progFault c 0xE6 3 0) := by
  obtain ⟨w, r, hw⟩ := List.exists_cons_of_ne_nil hc
  refine (onCore_ready _ hr).trans ?_
  simp only [hw, if_pos (Option.isSome_iff_ne_none.mpr hl)]

theorem exec_ret_pops {w : BitVec 13} {r : List (BitVec 13)} (hc : (s.core c).calls = w :: r) (hw : w.toNat < 4096)
    (hl : (s.core c).openLoop = none) :
    exec (.ret c) s = .next (s.setCore c ({ s.core c with calls := r, pc := w }.charge 3)) := by
  refine (onCore_ready _ hr).trans ?_
  simp [hc, hl, Nat.not_le.mpr hw]

/-! ## Loops (R70) -/

theorem exec_loop_zero (b : GReg) (tgt : BitVec 12) : exec (.loop c b tgt 0) s = .next (s.progFault c 0xE2 1 0) :=
  (onCore_ready _ hr).trans (congrArg Host.Outcome.next (if_pos rfl))

/-- An end at or before the pc, or at or past the end of the enclosing loop, is fault 0xE6. -/
theorem exec_loop_badEnd (b : GReg) {tgt : BitVec 12} {m : BitVec 16} (hm : m ≠ 0)
    (h : tgt.setWidth 13 ≤ (s.core c).pc ∨ ∃ l, (s.core c).openLoop = some l ∧ l.last ≤ tgt.setWidth 13) :
    exec (.loop c b tgt m) s = .next (s.progFault c 0xE6 2 0) := by
  have bad : tgt.setWidth 13 ≤ (s.core c).pc ∨ (match (s.core c).openLoop with
      | some l => decide (l.last ≤ tgt.setWidth 13)
      | none => false) = true := by
    rcases h with h | ⟨l, hl, h⟩
    · exact .inl h
    · rw [hl]; exact .inr (decide_eq_true h)
  refine (onCore_ready _ hr).trans (congrArg Host.Outcome.next ?_)
  exact (if_neg hm).trans (if_pos bad)

/-- With a legal end, the count decides: 0 goes past the end, and one that M or the loop stack does not hold faults. -/
theorem exec_loop_goodEnd (b : GReg) {tgt : BitVec 12} {m : BitVec 16} (hm : m ≠ 0) (hpc : (s.core c).pc < tgt.setWidth 13)
    (hl : ∀ l, (s.core c).openLoop = some l → tgt.setWidth 13 < l.last) : exec (.loop c b tgt m) s = .next (
      if (s.core c).getG b = 0 then s.goTo c 2 (tgt.setWidth 13 + 1)
      else if m.toNat < ((s.core c).getG b).toNat ∨ (s.core c).loops.length ≥ 4 then s.progFault c 0xE6 2 0
      else s.setCore c ({ s.core c with
        loops :=
          { start := (s.core c).pc + 1, last := tgt.setWidth 13, count := (s.core c).getG b, depth := (s.core c).calls.length } ::
            (s.core c).loops,
        pc := (s.core c).pc + 1 }.charge 2)) := by
  have good : ¬(tgt.setWidth 13 ≤ (s.core c).pc ∨ (match (s.core c).openLoop with
      | some l => decide (l.last ≤ tgt.setWidth 13)
      | none => false) = true) := by
    rintro (h | h)
    · exact absurd hpc (BitVec.not_lt.mpr h)
    · cases ho : (s.core c).openLoop with
      | none => rw [ho] at h; exact Bool.false_ne_true h
      | some l => rw [ho] at h; exact absurd (hl l ho) (BitVec.not_lt.mpr (of_decide_eq_true h))
  refine (onCore_ready _ hr).trans (congrArg Host.Outcome.next ?_)
  exact (if_neg hm).trans (if_neg good)

/-- A count that M does not hold, or a fifth loop, faults whatever the end. -/
theorem exec_loop_refused (b : GReg) {tgt : BitVec 12} {m : BitVec 16} (hm : m ≠ 0) (hb : (s.core c).getG b ≠ 0)
    (h : m.toNat < ((s.core c).getG b).toNat ∨ 4 ≤ (s.core c).loops.length) :
    exec (.loop c b tgt m) s = .next (s.progFault c 0xE6 2 0) := by
  by_cases hpc : (s.core c).pc < tgt.setWidth 13
  · by_cases hl : ∀ l, (s.core c).openLoop = some l → tgt.setWidth 13 < l.last
    · rw [exec_loop_goodEnd hr b hm hpc hl, if_neg hb, if_pos h]
    · obtain ⟨l, ho, hlast⟩ : ∃ l, (s.core c).openLoop = some l ∧ ¬ tgt.setWidth 13 < l.last := by simpa using hl
      exact exec_loop_badEnd hr b hm (.inr ⟨l, ho, BitVec.not_lt.mp hlast⟩)
  · exact exec_loop_badEnd hr b hm (.inl (BitVec.not_lt.mp hpc))

theorem exec_lbrk_open {l : LoopFrame} (h : (s.core c).openLoop = some l) : exec (.lbrk c) s =
    .next (s.setCore c ({ s.core c with loops := (s.core c).loops.tail, pc := l.last + 1 }.charge 2)) := by
  refine (onCore_ready _ hr).trans ?_
  simp only [h]

theorem exec_lbrk_none (h : (s.core c).openLoop = none) : exec (.lbrk c) s = .next (s.progFault c 0xE6 2 0) := by
  refine (onCore_ready _ hr).trans ?_
  simp only [h]

/-! ## The switch (R71) -/

theorem exec_switch_illegal (a : GReg) {k : BitVec 14} (tgt : BitVec 12) (h : k.toNat = 0 ∨ 256 < k.toNat) :
    exec (.switch c a k tgt) s = .next (s.progFault c 0xE2 1 0) :=
  (onCore_ready _ hr).trans (congrArg Host.Outcome.next (if_pos h))

theorem exec_switch_past (a : GReg) {k : BitVec 14} (tgt : BitVec 12) (h : ¬(k.toNat = 0 ∨ 256 < k.toNat))
    (hn : k.toNat ≤ ((s.core c).getG a).toNat) : exec (.switch c a k tgt) s = .next (s.stepCore c 4 id) :=
  (onCore_ready _ hr).trans (congrArg Host.Outcome.next ((if_neg h).trans (if_neg (Nat.not_lt.mpr hn))))

/-- Within the bank, an entry is bits [11:0] of its 16, and reading it changes nothing while no SRAM word is in error. -/
theorem State.switchEntry_inside {tgt n : Nat} (h : tgt + n / 4 < 4096) : s.switchEntry c tgt n =
    (BitVec.ofNat 13 ((s.bankWord c (tgt + n / 4)).toNat / 2 ^ (16 * (n % 4)) % 4096), s) := by
  unfold State.switchEntry
  rw [if_pos h, State.sramRead_clean hr.2]
  rfl

theorem exec_switch_jumps (a : GReg) {k : BitVec 14} (tgt : BitVec 12) (h : ¬(k.toNat = 0 ∨ 256 < k.toNat))
    (hn : ((s.core c).getG a).toNat < k.toNat) (hw : tgt.toNat + ((s.core c).getG a).toNat / 4 < 4096) {e : BitVec 13}
    (he : e = (s.switchEntry c tgt.toNat ((s.core c).getG a).toNat).1) (hb : (s.core c).branchOk e = true) :
    exec (.switch c a k tgt) s = .next (s.goTo c 4 e) := by
  have stays : (s.switchEntry c tgt.toNat ((s.core c).getG a).toNat).2 = s := by rw [State.switchEntry_inside hr hw]
  refine (onCore_ready _ hr).trans (congrArg Host.Outcome.next ((if_neg h).trans ((if_pos hn).trans ?_)))
  show s.unlessReset (s.switchEntry c tgt.toNat ((s.core c).getG a).toNat).2
    (fun s' => s'.takeBranch c 4 (s.switchEntry c tgt.toNat ((s.core c).getG a).toNat).1) = _
  rw [stays, ← he, State.unlessReset_self, State.takeBranch_inside 4 hb]

end

/-! ## Slot-end (R33, R34) -/

@[simp] theorem Core.charge_bound (k : Core) (n : Nat) : (k.charge n).bound = k.bound := by
  unfold Core.charge
  split <;> rfl

@[simp] theorem Core.charge_slotWord (k : Core) (n i : Nat) : (k.charge n).slotWord i = k.slotWord i := by
  unfold Core.charge
  split <;> rfl

section
variable {s : State} {c : CoreId} (hr : s.Ready c)
include hr

theorem exec_slend_past (h : (s.core c).bound < (s.core c).cycles + 1) :
    exec (.slend c) s = .next ((s.setCore c ((s.core c).charge 1)).cut c 0xE1 (s.core c).pc.toNat 0) := by
  refine (onCore_ready _ hr).trans ?_
  simp [h]

theorem exec_slend_leaves (hd : (s.core c).act.isDrain = false) (h : (s.core c).cycles + 1 ≤ (s.core c).bound) :
    exec (.slend c) s = .next (s.setCore c ((s.core c).charge 1).leave) := by
  have act : ((s.core c).charge 1).act = (s.core c).act := by simp
  refine (onCore_ready _ hr).trans ?_
  cases ha : (s.core c).act with
  | drain n left => rw [ha] at hd; exact Bool.noConfusion hd
  | _ => simp [Nat.not_lt.mpr h, ha]

theorem exec_slend_next {n left : Nat} (ha : (s.core c).act = .drain n (left + 1)) (h : (s.core c).cycles + 1 ≤ (s.core c).bound)
    {e : W64} {q : List W64} (ht : takeClass (fld ((s.core c).slotWord n) 48 6) (s.core c).classQ = some (e, q)) :
    exec (.slend c) s = .next (s.setCore c ((({ (s.core c).charge 1 with classQ := q }).enter (.drain n left)
      (BitVec.ofNat 12 (fld ((s.core c).slotWord n) 0 12)) e).charge 8)) := by
  have act : ((s.core c).charge 1).act = .drain n (left + 1) := by simp [ha]
  have take : takeClass (fld (((s.core c).charge 1).slotWord n) 48 6) ((s.core c).charge 1).classQ = some (e, q) := by simp [ht]
  have room : ¬((s.core c).charge 1).bound < ((s.core c).charge 1).cycles := by simpa using h
  refine (onCore_ready _ hr).trans ?_
  dsimp only
  rw [if_neg room, ← Core.charge_slotWord _ 1]
  simp only [act, take]
  rfl

theorem exec_slend_none {n left : Nat} (ha : (s.core c).act = .drain n (left + 1)) (h : (s.core c).cycles + 1 ≤ (s.core c).bound)
    (ht : takeClass (fld ((s.core c).slotWord n) 48 6) (s.core c).classQ = none) :
    exec (.slend c) s = .next (s.setCore c ((s.core c).charge 1).leave) := by
  refine (onCore_ready _ hr).trans ?_
  simp [Nat.not_lt.mpr h, ha, ht]

end

/-! ## The statements on control transfer -/

/-- Settles O12: one equation for each instruction and way it answers. -/
theorem transferResults : Obligations.TransferResults := by
  refine ⟨fun s c a b tgt k hr hb => ?_, fun s c a b tgt m k hr => ⟨exec_call_room hr tgt, fun w r hc hw hl => exec_ret_pops hr hc hw hl,
    fun hm hpc hl => ⟨fun hb => ?_, fun hb hle hlen => ?_⟩, fun l hl => exec_lbrk_open hr hl,
    fun h1 h2 => ⟨fun hn hw hb => ?_, fun hn => ?_⟩, exec_slend_leaves hr⟩⟩
  · have go := branch_inside hr hb
    exact ⟨go fun _ => true, go fun q => decide (q.getG a = q.getG b), go fun q => decide (q.getG a ≠ q.getG b),
      go fun q => (q.getG a).slt (q.getG b), (go fun q => !(q.getG a).slt (q.getG b)).trans (by rw [← BitVec.sle_eq_not_slt]; rfl),
      go fun q => (q.getG a).ult (q.getG b), (go fun q => !(q.getG a).ult (q.getG b)).trans (by rw [← BitVec.ule_eq_not_ult]; rfl),
      go fun q => decide (q.getG a = kS k), go fun q => decide (q.getG a ≠ kS k)⟩
  · rw [exec_loop_goodEnd hr b hm hpc hl, if_pos hb]
  · rw [exec_loop_goodEnd hr b hm hpc hl, if_neg hb, if_neg (by omega)]
  · exact exec_switch_jumps hr a tgt (by omega) hn hw (by rw [State.switchEntry_inside hr hw]) hb
  · exact exec_switch_past hr a tgt (by omega) hn

/-- Settles O14: each fault is the way that its instruction answers. -/
theorem controlFaults : Obligations.ControlFaults := by
  intro s c a b tgt m k hr
  have count : m.toNat < ((s.core c).getG b).toNat → (s.core c).getG b ≠ 0 := fun h h0 => by rw [h0] at h; exact Nat.not_lt_zero _ h
  exact ⟨fun hb => branch_outside hr hb (cond := fun _ => true) rfl,
    fun hb he => branch_outside hr hb (cond := fun q => decide (q.getG a = q.getG b)) (decide_eq_true he), exec_lbrk_none hr,
    exec_ret_in_loop hr, exec_ret_empty hr, exec_call_full hr tgt, fun hm h => exec_loop_badEnd hr b hm (.inl h),
    fun hm l hl h => exec_loop_badEnd hr b hm (.inr ⟨l, hl, h⟩), fun hm h => exec_loop_refused hr b hm (count h) (.inl h),
    fun hm hb h => exec_loop_refused hr b hm hb (.inr h), exec_loop_zero hr b tgt, exec_switch_illegal hr a tgt, exec_trap hr k,
    exec_slend_past hr⟩

/-! ## Slot-end of a drain dispatch (R32, R33) -/

/-- What `takeClass` takes is of its class, and the events of other classes stay in order. -/
theorem takeClass_some {cls : Nat} {l q : List W64} {e : W64} (h : takeClass cls l = some (e, q)) : fld e 0 6 = cls ∧
    q.filter (fun x => decide (fld x 0 6 ≠ cls)) = l.filter (fun x => decide (fld x 0 6 ≠ cls)) := by
  induction l generalizing q with
  | nil => cases h
  | cons x l ih =>
    unfold takeClass at h
    by_cases hx : fld x 0 6 = cls
    · rw [if_pos hx] at h
      obtain ⟨rfl, rfl⟩ := Prod.mk.inj (Option.some.inj h)
      exact ⟨hx, (List.filter_cons_of_neg (by simp [hx])).symm⟩
    · rw [if_neg hx] at h
      obtain ⟨p, hp, he⟩ := Option.map_eq_some_iff.mp h
      obtain ⟨rfl, rfl⟩ := Prod.mk.inj he
      obtain ⟨hcls, hrest⟩ := ih hp
      exact ⟨hcls, by rw [List.filter_cons_of_pos (by simpa using hx), List.filter_cons_of_pos (by simpa using hx), hrest]⟩

/-- What a core holds once it has entered an activation. -/
theorem Core.enter_spec (k : Core) (act : Activation) (pc : BitVec 12) (g1 : W64) : (k.enter act pc g1).act = act ∧
    (k.enter act pc g1).getG 1 = g1 ∧ (k.enter act pc g1).oc = 0 ∧ (k.enter act pc g1).calls = [] ∧
    (k.enter act pc g1).loops = [] ∧ (k.enter act pc g1).pc.toNat = pc.toNat ∧ (k.enter act pc g1).classQ = k.classQ ∧
    (k.enter act pc g1).cycles = k.cycles := by
  refine ⟨rfl, ?_, rfl, rfl, rfl, ?_, rfl, rfl⟩
  · exact (Core.getG_setG k 1 1 g1).trans (if_pos ⟨rfl, by decide⟩)
  · show (pc.setWidth 13).toNat = pc.toNat
    rw [BitVec.toNat_setWidth, Nat.mod_eq_of_lt (by omega)]

@[simp] theorem Core.charge_getG (k : Core) (n : Nat) (r : GReg) : (k.charge n).getG r = k.getG r := by
  unfold Core.getG
  rw [(k.charge_frame n).1]

/-- Settles O13: the core re-enters its slot with the event taken, or leaves it. -/
theorem slendDispatchesNext : Obligations.SlendDispatchesNext := by
  intro s c n left hr ha hb
  refine ⟨fun e q ht => ⟨_, exec_slend_next hr ha hb ht, ?_⟩, fun ht => ⟨_, exec_slend_none hr ha hb ht, ?_⟩⟩
  · obtain ⟨act, g1, oc, calls, loops, pc, classQ, cycles⟩ := Core.enter_spec { (s.core c).charge 1 with classQ := q } (.drain n left)
      (BitVec.ofNat 12 (fld ((s.core c).slotWord n) 0 12)) e
    obtain ⟨hcls, hrest⟩ := takeClass_some ht
    have entry : (BitVec.ofNat 12 (fld ((s.core c).slotWord n) 0 12)).toNat = fld ((s.core c).slotWord n) 0 12 :=
      Nat.mod_eq_of_lt (fld_lt _ _ _)
    rw [State.core_setCore_self]
    generalize ({ (s.core c).charge 1 with classQ := q } : Core).enter _ _ _ = k at *
    rw [← Core.charge_getG k 8] at g1
    have count : k.cycles = (s.core c).cycles + 1 := cycles.trans (Core.charge_cycles _ 1)
    have queue : k.classQ = q := classQ
    simp only [Core.charge_frame]
    exact ⟨act, g1, oc, calls, loops, pc.trans entry, queue, by rw [Core.charge_cycles, count], hcls, hrest⟩
  · rw [State.core_setCore_self]
    simp [Core.leave, ha]

/-! ## Activations and events (R29 to R33, R48, R88, R173) -/

section
variable {s : State} {c : CoreId} (hrun : s.mayRun c = true) (hstart : (s.core c).startPending = false) {n : Nat}
  (hn : ({ s.core c with cycles := 0 } : Core).nextDue s.tick.toNat = some n)
include hrun hstart hn

omit hn in
/-- The test of SLOT_DISPATCH passes. -/
theorem slotDispatch_open : ¬(!s.mayRun c || (s.core c).startPending) = true := by
  rw [hrun, hstart]
  decide

theorem exec_slotDispatch_timed (h : fld ((s.core c).slotWord n) 13 2 = 0) : exec (.slotDispatch c) s =
    .next (s.setCore c ((({ s.core c with cycles := 0 } : Core).enter (.timed n)
      (BitVec.ofNat 12 (fld ((s.core c).slotWord n) 0 12)) s.tick).charge 8)) := by
  have kind : fld (({ s.core c with cycles := 0 } : Core).slotWord n) 13 2 = 0 := h
  show execSlotDispatch c s = _
  unfold execSlotDispatch
  rw [if_neg (slotDispatch_open hrun hstart)]
  simp only [hn, kind]
  rfl

theorem exec_slotDispatch_drain (h : fld ((s.core c).slotWord n) 13 2 = 1) : exec (.slotDispatch c) s =
    match takeClass (fld ((s.core c).slotWord n) 48 6) (s.core c).classQ with
    | some (e, q) => .next (s.setCore c ((({ s.core c with cycles := 0, classQ := q } : Core).enter
        (.drain n (fld ((s.core c).slotWord n) 56 8 - 1)) (BitVec.ofNat 12 (fld ((s.core c).slotWord n) 0 12)) e).charge 8))
    | none => .next s := by
  have kind : fld (({ s.core c with cycles := 0 } : Core).slotWord n) 13 2 = 1 := h
  show execSlotDispatch c s = _
  unfold execSlotDispatch
  rw [if_neg (slotDispatch_open hrun hstart)]
  simp only [hn, kind]
  rfl

theorem exec_slotDispatch_reserved (h : 2 ≤ fld ((s.core c).slotWord n) 13 2) :
    exec (.slotDispatch c) s = .fault .reservedSlotKind := by
  have kind : ∃ j, fld (({ s.core c with cycles := 0 } : Core).slotWord n) 13 2 = j + 2 :=
    ⟨_, (Nat.sub_add_cancel h).symm⟩
  obtain ⟨j, kind⟩ := kind
  show execSlotDispatch c s = _
  unfold execSlotDispatch
  rw [if_neg (slotDispatch_open hrun hstart)]
  simp only [hn, kind]

end

/-- Settles O25: each row of an activation or event, in the state that it names. -/
theorem activationResults : Obligations.ActivationResults := by
  refine ⟨fun s c => ⟨fun n hrun hstart hn => ⟨exec_slotDispatch_timed hrun hstart hn, fun e q hk ht => ?_⟩, fun hrun hstart => ?_,
    fun n hwin ha hb => ?_, fun hwin ha => ?_, fun t r hreq hq hlvl hage => ?_, fun e es hw hfree => ?_⟩,
    fun s c n hrun hstart hn => ⟨exec_slotDispatch_reserved hrun hstart hn, fun hk => ?_⟩⟩
  · rw [exec_slotDispatch_drain hrun hstart hn hk, ht]
  · exact congrArg Host.Outcome.next (if_pos (by rw [hrun, hstart]; rfl))
  · exact congrArg Host.Outcome.next (if_pos ⟨hwin, by rw [ha]; exact Activation.noConfusion,
      by rw [ha]; exact Activation.noConfusion, hb⟩)
  · exact congrArg Host.Outcome.next (if_pos ⟨hwin, ha⟩)
  · have due : r.queuedInEngine = true ∧ 3 ≤ r.cur.toNat ∧ s.rfld (sta 1 0x10) 0 11 ≤ r.age := ⟨hq, hlvl, hage⟩
    show execAgePromotion c t s = _
    simp only [execAgePromotion, hreq, if_pos due, Req.promote, if_pos hlvl]
  · show execEventRingPost c s = _
    simp only [execEventRingPost, hw, if_pos hfree]
  · have kind : fld ((s.core c).slotWord n) 13 2 = 0 ∨ fld ((s.core c).slotWord n) 13 2 = 1 := by omega
    rcases kind with hk | hk
    · exact ⟨_, exec_slotDispatch_timed hrun hstart hn hk⟩
    · rw [exec_slotDispatch_drain hrun hstart hn hk]
      cases takeClass (fld ((s.core c).slotWord n) 48 6) (s.core c).classQ <;> exact ⟨_, rfl⟩

end Sys2Proof.Machine
end

section
/-! PROOFS. The statements of 02_sidereal_tick.md, fourth part: the reset values of the registers, and TIME_PERIOD. -/

namespace Sys2Proof.Machine

/-! ## Power-up -/

/-- Settles O2: no register has been written and no core has been touched. -/
theorem resetRegisters : Obligations.ResetRegisters :=
  ⟨fun _ => rfl, by decide, by decide, by decide, by decide, by decide,
    fun _ a _ => ⟨ite_self (c := a = 0) 0, rfl, rfl, rfl, rfl, rfl, rfl⟩, rfl, rfl, rfl⟩

/-! ## A plain write of a register (R16) -/

theorem bit_eq_getLsbD {n : Nat} (v : BitVec n) (i : Nat) : bit v i = v.getLsbD i :=
  (Nat.testBit_eq_decide_div_mod_eq).symm

theorem testBit_fld {n : Nat} (v : BitVec n) (lo w i : Nat) : (fld v lo w).testBit i = (decide (i < w) && bit v (lo + i)) := by
  unfold fld
  rw [Nat.testBit_mod_two_pow, Nat.testBit_div_two_pow, bit_eq_getLsbD, Nat.add_comm lo]
  rfl

/-- Words that agree in the bits of a field agree in the field. -/
theorem fld_congr {n m : Nat} {v : BitVec n} {u : BitVec m} {lo w : Nat} (h : ∀ i < w, bit v (lo + i) = bit u (lo + i)) :
    fld v lo w = fld u lo w := by
  refine Nat.eq_of_testBit_eq fun i => ?_
  rw [testBit_fld, testBit_fld]
  by_cases hi : i < w
  · rw [h i hi]
  · rw [decide_eq_false hi, Bool.false_and, Bool.false_and]

/-- Each bit of a plain write: the written one in rw bits, 0 where w1c takes a 1, 1 where w1s does, the old one elsewhere. -/
theorem RegDef.bit_apply (r : RegDef) (old v : W64) {i : Nat} (hi : i < 64) : bit (r.apply old v) i =
    ((((bit old i && !bit (w64 r.rw) i) || (bit v i && bit (w64 r.rw) i)) && !(bit v i && bit (w64 r.w1c) i)) ||
      (bit v i && bit (w64 r.w1s) i)) := by
  simp [RegDef.apply, bit_eq_getLsbD, hi]

/-! ## TIME_PERIOD (R24) -/

/-- TIME_PERIOD in the register table: SEL in bits [1:0], LOCK in bit 8. -/
def timePeriodReg : RegDef := ⟨0x0, 1, 0x8, 1, 0x8, 0x3, 0x0, 0x100, 0x1⟩

theorem findReg_timePeriod : findReg 0 = some timePeriodReg := rfl

/-- A write of TIME_PERIOD is ignored once LOCK is set; a SEL of 3 is not taken. -/
theorem State.stWrite_timePeriod (s : State) (l : Bool) (v : W64) : s.stWrite l 0 v =
    if bit (s.reg 0) 8 then s
    else s.setReg 0 (timePeriodReg.apply (s.reg 0) (if fld v 0 2 = 3 then setFld v 0 2 s.sel else v)) := by
  show s.writeTime 0 v = _
  unfold State.writeTime State.plainWrite
  rw [if_pos rfl, findReg_timePeriod]

theorem timePeriodReg_sel (old v : W64) : fld (timePeriodReg.apply old v) 0 2 = fld v 0 2 := by
  refine fld_congr fun i hi => ?_
  rw [RegDef.bit_apply _ _ _ (by omega)]
  have sel : i = 0 ∨ i = 1 := by omega
  rcases sel with rfl | rfl <;> simp [timePeriodReg, bit, w64]

theorem timePeriodReg_lock (old v : W64) : bit (timePeriodReg.apply old v) 8 = (bit old 8 || bit v 8) := by
  rw [RegDef.bit_apply _ _ _ (by decide)]
  simp [timePeriodReg, bit, w64]

section
variable {s : State} {w : Who}

theorem State.whoWrite_locked (h : bit (s.reg 0) 8 = true) (v : W64) : s.whoWrite w 0 v = s := by
  unfold State.whoWrite
  rw [State.stWrite_timePeriod, if_pos h, ite_self]

/-- Before LOCK, SEL takes a written value of 0 to 2 and keeps its own against a 3; LOCK is set where it is written as 1. -/
theorem State.whoWrite_unlocked (h : bit (s.reg 0) 8 = false) (hw : s.whoOk w .wr 0 = true) (v : W64) :
    (s.whoWrite w 0 v).sel = (if fld v 0 2 = 3 then s.sel else fld v 0 2) ∧
      bit ((s.whoWrite w 0 v).reg 0) 8 = bit v 8 := by
  rw [State.whoWrite_allowed hw, State.stWrite_timePeriod, if_neg (by rw [h]; decide)]
  unfold State.sel State.rfld
  rw [State.reg_setReg_self, timePeriodReg_sel, timePeriodReg_lock, h, Bool.false_or]
  by_cases h3 : fld v 0 2 = 3
  · rw [if_pos h3, if_pos h3, fld_setFld_same v (by decide), bit_setFld_other v (by decide) _ (by decide)]
    exact ⟨Nat.mod_eq_of_lt (fld_lt _ _ _), rfl⟩
  · rw [if_neg h3, if_neg h3]
    exact ⟨rfl, rfl⟩

end

/-- Settles O29: each of the three rows is one write of TIME_PERIOD. -/
theorem timePeriodLocks : Obligations.TimePeriodLocks := by
  refine fun s w v => ⟨fun h => ?_, fun h hw => ⟨⟨_, rfl, ?_⟩, fun hsel => ⟨_, rfl, ?_⟩⟩⟩
  · have ignored : ∀ x, Host.Outcome.next (s.whoWrite w 0 x) = (.next s : Res) := fun x =>
      congrArg Host.Outcome.next (State.whoWrite_locked h x)
    exact ⟨ignored _, ignored _, ignored _⟩
  · have low : fld (w64 (fld v 0 2)) 0 2 = fld v 0 2 := by
      rw [fld_w64 _ (by decide)]
      have := fld_lt v 0 2
      omega
    rw [(State.whoWrite_unlocked h hw _).1, low]
  · obtain ⟨sel, lock⟩ := State.whoWrite_unlocked h hw (w64 (s.sel + 2 ^ 8))
    have bound : s.sel < 4 := fld_lt _ _ _
    have low : fld (w64 (s.sel + 2 ^ 8)) 0 2 = s.sel := by rw [fld_w64 _ (by decide)]; omega
    have high : bit (w64 (s.sel + 2 ^ 8)) 8 = true := by
      rw [bit_eq_fld, fld_w64 _ (by decide), decide_eq_true_eq]
      omega
    exact ⟨by rw [sel, low, if_neg hsel], lock.trans high⟩

end Sys2Proof.Machine
end

section
/-! PROOFS. The statements of 02_sidereal_tick.md, fifth part: requests, from their issue to their completion. -/

namespace Sys2Proof.Machine

/-! ## Words in memory -/

theorem ofBytes_toBytes (n v : Nat) : ofBytes (toBytes n v) = v % 256 ^ n := by
  induction n generalizing v with
  | zero => exact (Nat.mod_one v).symm
  | succ n ih =>
    show (BitVec.ofNat 8 v).toNat + 256 * ofBytes (toBytes n (v / 256)) = v % 256 ^ (n + 1)
    rw [ih, BitVec.toNat_ofNat]
    exact Nat.mod_mul.symm.trans (congrArg (v % ·) (Nat.mul_comm 256 (256 ^ n)))

/-- A word written as eight bytes reads back. -/
theorem w64_ofBytes_toBytes (v : W64) : w64 (ofBytes (toBytes 8 v.toNat)) = v := by
  rw [ofBytes_toBytes]
  exact BitVec.eq_of_toNat_eq (by simp [w64, v.isLt])

theorem wrNum_out (m : FMap Byte) {a n v k : Nat} (h : k < a ∨ a + n ≤ k) :
    FMap.get zeroByte (wrNum m a n v) k = FMap.get zeroByte m k :=
  FMap.get_setList_out _ m a k (by rwa [length_toBytes])

/-- Writing words leaves every byte outside them. -/
theorem wrWords_out (ws : List W64) (m : FMap Byte) {a k : Nat} (h : k < a ∨ a + 8 * ws.length ≤ k) :
    FMap.get zeroByte (wrWords m a ws) k = FMap.get zeroByte m k := by
  induction ws generalizing m a with
  | nil => rfl
  | cons w ws ih =>
    rw [List.length_cons] at h
    rw [wrWords, ih _ (by omega), wrNum_out m (by omega)]

theorem getList_congr {d : Nat → Byte} {m m' : FMap Byte} {a n : Nat}
    (h : ∀ i < n, FMap.get d m (a + i) = FMap.get d m' (a + i)) : FMap.getList d m a n = FMap.getList d m' a n := by
  refine List.ext_getElem (by simp) fun i hi _ => ?_
  rw [FMap.getElem_getList, FMap.getElem_getList]
  exact h i (by simpa using hi)

/-- Words written read back. -/
theorem rdWord_wrWords (ws : List W64) (m : FMap Byte) (a : Nat) {j : Nat} (hj : j < ws.length) :
    w64 (ofBytes (FMap.getList zeroByte (wrWords m a ws) (a + 8 * j) 8)) = ws.getD j 0 := by
  induction ws generalizing m a j with
  | nil => exact absurd hj (Nat.not_lt_zero j)
  | cons w ws ih =>
    cases j with
    | zero =>
      have keep : FMap.getList zeroByte (wrWords (wrNum m a 8 w.toNat) (a + 8) ws) a 8 = toBytes 8 w.toNat := by
        rw [getList_congr fun i hi => wrWords_out ws _ (.inl (by omega))]
        have := rdBytes_wrBytes m a (toBytes 8 w.toNat)
        rwa [length_toBytes] at this
      show w64 (ofBytes (FMap.getList zeroByte (wrWords (wrNum m a 8 w.toNat) (a + 8) ws) a 8)) = w
      rw [keep, w64_ofBytes_toBytes]
    | succ j =>
      have shift : a + 8 * (j + 1) = a + 8 + 8 * j := by omega
      rw [wrWords, shift, ih _ _ (Nat.lt_of_succ_lt_succ hj)]
      rfl

/-! ## Completion (R77, R87) -/

/-- The eight words of a result record. -/
def recordWords (ws : List W64) : List W64 := (ws ++ List.replicate 8 0).take 8

theorem length_recordWords (ws : List W64) : (recordWords ws).length = 8 := by simp [recordWords]

theorem getD_recordWords {ws : List W64} (h : ws.length ≤ 8) {j : Nat} (hj : j < 8) : (recordWords ws).getD j 0 = ws.getD j 0 := by
  unfold recordWords
  rw [List.getD_eq_getElem?_getD, List.getD_eq_getElem?_getD, List.getElem?_take_of_lt hj]
  by_cases hl : j < ws.length
  · rw [List.getElem?_append_left hl]
  · rw [List.getElem?_append_right (Nat.not_lt.mp hl), List.getElem?_replicate_of_lt (by omega),
      List.getElem?_eq_none (Nat.not_lt.mp hl)]
    rfl

@[simp] theorem State.core_sramWrite (s : State) (arr w n : Nat) (c : CoreId) : (s.sramWrite arr w n).core c = s.core c := by
  obtain ⟨-, -, -, -, -, -, cores, -⟩ := s.sramWrite_mem arr w n
  exact congrArg (fun m => FMap.get (fun _ => Core.reset) m c.toNat) cores

/-- A record in the data store changes the data of its core alone. -/
theorem State.writeRecord_core {s : State} {r : Req} (h : r.recCluster = false) (ws : List W64) (d : CoreId) :
    (s.writeRecord r ws).core d =
      if d = r.core then { s.core r.core with data := wrWords (s.core r.core).data r.recOff (recordWords ws) } else s.core d := by
  unfold State.writeRecord
  rw [h]
  simp only [Bool.false_eq_true, if_false, State.core_setCore, State.core_sramWrite]
  rfl

theorem State.findReq_dropReq (s : State) (r : Req) : (s.dropReq r).findReq r.core r.ticket = none := by
  refine List.find?_eq_none.mpr fun q hq => ?_
  simpa [imp_iff_not_or] using (List.mem_filter.mp hq).2

/-- A request without buffers completes in three steps: its record, its end, its event. -/
theorem State.complete_core {s : State} {r : Req} {oc : Byte} {ws : List W64} (hb : r.bufs = []) (d : CoreId) :
    (s.complete r oc ws).core d = if d = r.core then
      { (s.writeRecord r ws).core r.core with
        ring := ((s.writeRecord r ws).core r.core).ring ++ [r.event oc]
        credits := ((s.writeRecord r ws).core r.core).credits - 1 } else (s.writeRecord r ws).core d := by
  unfold State.complete
  rw [hb]
  exact State.core_setCore _ _ _ _

/-- The fields of a completion event whose record lies in the data store (R77). -/
theorem Req.event_fields {r : Req} (oc : Byte) (hc : r.recCluster = false) (hr : r.recOff < 0x10000) :
    fld (r.event oc) 0 6 = r.cls.toNat ∧ fld (r.event oc) 6 3 = r.level.toNat ∧ fld (r.event oc) 9 7 = r.unit % 128 ∧
    fld (r.event oc) 16 8 = oc.toNat ∧ fld (r.event oc) 24 23 = r.ticket.toNat ∧ bit (r.event oc) 47 = false ∧
    fld (r.event oc) 48 16 = r.recOff / 64 := by
  obtain ⟨cls, level, unit, outcome⟩ := mkEvent_head r.cls.toNat r.level.toNat r.unit oc.toNat
    (r.ticket.toNat + b2n r.recCluster * 2 ^ 23 + r.recOff / 64 * 2 ^ 24)
  refine ⟨cls.trans (Nat.mod_eq_of_lt r.cls.isLt), level.trans (Nat.mod_eq_of_lt r.level.isLt), unit,
    outcome.trans (Nat.mod_eq_of_lt oc.isLt), (mkEvent_body _ _ _ _ _ (lo := 0) (by decide)).trans ?_,
    (bit_mkEvent_body _ _ _ _ _ (i := 23) (by decide)).trans ?_, (mkEvent_body _ _ _ _ _ (lo := 24) (by decide)).trans ?_⟩ <;>
  rw [hc, b2n, if_neg Bool.false_ne_true]
  · omega
  · rw [decide_eq_false]
    omega
  · omega

/-- Settles O32: the completion's core is the record's core with the event in place of a credit. -/
theorem completionPosts : Obligations.CompletionPosts := by
  intro s r oc ws hc hb hlen _ hoff _
  have own : (s.complete r oc ws).core r.core = { s.core r.core with
      data := wrWords (s.core r.core).data r.recOff (recordWords ws)
      ring := (s.core r.core).ring ++ [r.event oc]
      credits := (s.core r.core).credits - 1 } := by
    rw [State.complete_core hb, if_pos rfl, State.writeRecord_core hc, if_pos rfl]
  dsimp only
  rw [own]
  refine ⟨fun j hj => ?_, fun m hm => wrWords_out _ _ (by rwa [length_recordWords]),
    ⟨_, rfl, Req.event_fields oc hc hoff⟩, rfl, State.findReq_dropReq _ r, fun _ => rfl, fun d hd => ?_⟩
  · exact (rdWord_wrWords _ _ _ (by rwa [length_recordWords])).trans (getD_recordWords hlen hj)
  · rw [State.complete_core hb, if_neg hd, State.writeRecord_core hc, if_neg hd]

end Sys2Proof.Machine
end

section
/-! PROOFS. The statements of 02_sidereal_tick.md, sixth part: what an engine takes. -/

namespace Sys2Proof.Machine

/-! ## The best of a list of requests (R46) -/

/-- The best so far stays when nothing after it is better. -/
theorem foldl_betterReq_keeps {r : Req} {m : List Req} (h : ∀ q ∈ m, r.cur.toNat ≤ q.cur.toNat) :
    m.foldl betterReq (some r) = some r := by
  induction m with
  | nil => rfl
  | cons q m ih =>
    obtain ⟨hq, hm⟩ := List.forall_mem_cons.mp h
    rw [List.foldl_cons, show betterReq (some r) q = some r from if_neg (Nat.not_lt.mpr hq), ih hm]

/-- The best of a list is one of its requests. -/
theorem mem_of_foldl_betterReq {l : List Req} {best : Option Req} {b : Req} (h : l.foldl betterReq best = some b) :
    best = some b ∨ b ∈ l := by
  induction l generalizing best with
  | nil => exact .inl h
  | cons q l ih =>
    rcases ih h with hb | hb
    · have step : best = some b ∨ q = b := by
        cases best with
        | none => exact .inr (Option.some.inj hb)
        | some x =>
          unfold betterReq at hb
          dsimp only at hb
          split at hb
          · exact .inr (Option.some.inj hb)
          · exact .inl hb
      rcases step with hs | rfl
      · exact .inl hs
      · exact .inr List.mem_cons_self
    · exact .inr (List.mem_cons_of_mem q hb)

/-- A request that is better than all before it and as good as all after it is the best. -/
theorem foldl_betterReq_split {l m : List Req} {r : Req} (hl : ∀ q ∈ l, r.cur.toNat < q.cur.toNat)
    (hm : ∀ q ∈ m, r.cur.toNat ≤ q.cur.toNat) : (l ++ r :: m).foldl betterReq none = some r := by
  have takes : betterReq (l.foldl betterReq none) r = some r := by
    cases hb : l.foldl betterReq none with
    | none => rfl
    | some b =>
      rcases mem_of_foldl_betterReq hb with h | h
      · cases h
      · exact if_pos (hl b h)
  rw [List.foldl_append, List.foldl_cons, takes, foldl_betterReq_keeps hm]

/-! ## The request a unit takes -/

/-- Request `q` waits at unit `u`; at the map walker, no overlapping earlier request holds it up (R115). -/
def State.WaitsAt (s : State) (u : Nat) (q : Req) : Prop :=
  q.unit = u ∧ q.phase = .waiting ∧ (u = 0x42 → s.mapBlocked q = false)

/-- The test with which a unit looks for its requests. -/
def State.waitsAt (s : State) (u : Nat) (q : Req) : Bool :=
  decide (q.unit = u) && decide (q.phase = .waiting) && !(decide (u = 0x42) && s.mapBlocked q)

theorem State.waitsAt_iff (s : State) (u : Nat) (q : Req) : s.waitsAt u q = true ↔ s.WaitsAt u q := by
  unfold State.waitsAt State.WaitsAt
  simp [and_assoc, imp_iff_not_or]

theorem State.bestWaiting_none {s : State} {u : Nat} (h : ∀ q ∈ s.reqs, ¬ s.WaitsAt u q) : s.bestWaiting u = none := by
  have empty : s.reqs.filter (s.waitsAt u) = [] :=
    List.filter_eq_nil_iff.mpr fun q hq => mt (s.waitsAt_iff u q).mp (h q hq)
  exact congrArg (List.foldl betterReq none) empty

theorem State.bestWaiting_split {s : State} {u : Nat} {l m : List Req} {r : Req} (hs : s.reqs = l ++ r :: m) (hr : s.WaitsAt u r)
    (hl : ∀ q ∈ l, s.WaitsAt u q → r.cur.toNat < q.cur.toNat) (hm : ∀ q ∈ m, s.WaitsAt u q → r.cur.toNat ≤ q.cur.toNat) :
    s.bestWaiting u = some r := by
  have split : s.reqs.filter (s.waitsAt u) = l.filter (s.waitsAt u) ++ r :: m.filter (s.waitsAt u) := by
    rw [hs, List.filter_append, List.filter_cons_of_pos ((s.waitsAt_iff u r).mpr hr)]
  refine (congrArg (List.foldl betterReq none) split).trans (foldl_betterReq_split (fun q hq => ?_) (fun q hq => ?_))
  · obtain ⟨hq, hw⟩ := List.mem_filter.mp hq
    exact hl q hq ((s.waitsAt_iff u q).mp hw)
  · obtain ⟨hq, hw⟩ := List.mem_filter.mp hq
    exact hm q hq ((s.waitsAt_iff u q).mp hw)

/-- A flash verb leaves its queue for the director. -/
theorem State.takeReq_verb (s : State) {r : Req} (h : r.prim.isVerb = true) : s.takeReq r = s.begin r .taken := by
  unfold State.takeReq
  cases hp : r.prim <;> simp [hp, Prim.isVerb] at h ⊢

/-- A request of the map walker, data mover, cipher, vault or parity engine is started as it is taken. -/
theorem State.takeReq_started (s : State) {r : Req} (h : r.prim ∈ ([.mlook, .mcommit, .mtrim, .mzone, .dmin, .dmout, .dmcopy,
    .dmfill, .xts, .cmac, .vslot, .pxor, .pmac, .pcheck] : List Prim)) : s.takeReq r = s.begin r .started := by
  unfold State.takeReq
  cases hp : r.prim <;> simp [hp] at h ⊢

/-- Settles O31: the unit's best waiting request is the one the statement names, and the row treats it by its cases. -/
theorem engineTakes : Obligations.EngineTakes := by
  intro s u
  refine ⟨fun h => ?_, fun l m r hs hr hl hm => ?_⟩
  · show Host.Outcome.next _ = _
    rw [State.bestWaiting_none h]
  · have best : s.bestWaiting u = some r := State.bestWaiting_split hs hr hl hm
    refine ⟨fun hd => ?_, fun hd hc => ⟨fun oc ho => ?_, fun ho => ⟨fun hv => ?_, fun hp => ?_⟩⟩⟩ <;>
      show execEngineRequestTake u s = _ <;> unfold execEngineRequestTake <;> simp only [best, hd]
    · rfl
    · simp only [hc, ho]
      rfl
    · simp only [hc, ho, State.takeReq_verb s hv]
      rfl
    · simp only [hc, ho, State.takeReq_started s hp]
      rfl

end Sys2Proof.Machine
end

section
/-! PROOFS. The statements of 02_sidereal_tick.md, seventh part: an issue that nothing refuses. -/

namespace Sys2Proof.Machine

/-! ## Tickets (R85) -/

/-- A search that ends on a ticket in use has found every ticket on its way in use. -/
theorem ticketFrom_used {used : List Ticket} {n : Nat} {t : Ticket} (h : ticketFrom used n t ∈ 0 :: used) :
    ∀ i ≤ n, t + BitVec.ofNat 23 i ∈ 0 :: used := by
  induction n generalizing t with
  | zero =>
    intro i hi
    rw [Nat.le_zero.mp hi, BitVec.add_zero]
    exact h
  | succ n ih =>
    unfold ticketFrom at h
    split at h
    · next hit =>
      intro i hi
      cases i with
      | zero => rw [BitVec.add_zero]; exact List.mem_cons.mpr hit
      | succ i =>
        have step : t + BitVec.ofNat 23 (i + 1) = t + 1 + BitVec.ofNat 23 i := by
          rw [BitVec.add_assoc, Nat.add_comm i, BitVec.ofNat_add]
          rfl
        rw [step]
        exact ih h i (Nat.le_of_succ_le_succ hi)
    · next miss => exact absurd (List.mem_cons.mp h) miss

/-- Of more tickets than are in use, the search finds one that is free. -/
theorem ticketFrom_free {used : List Ticket} (h : used.length ≤ 4096) (t : Ticket) :
    ticketFrom used (used.length + 2) t ∉ 0 :: used := by
  intro hmem
  have inj : Set.InjOn (fun i => t + BitVec.ofNat 23 i) {i | i ∈ List.range (used.length + 3)} := by
    intro i hi j hj e
    have hi : i < used.length + 3 := List.mem_range.mp hi
    have hj : j < used.length + 3 := List.mem_range.mp hj
    have e' := congrArg BitVec.toNat (BitVec.add_right_inj t |>.mp e)
    rwa [BitVec.toNat_ofNat, BitVec.toNat_ofNat, Nat.mod_eq_of_lt (by omega), Nat.mod_eq_of_lt (by omega)] at e'
  have nodup := List.Nodup.map_on (fun i hi j hj e => inj hi hj e) List.nodup_range
  have sub : (List.range (used.length + 3)).map (fun i => t + BitVec.ofNat 23 i) ⊆ 0 :: used := by
    intro x hx
    obtain ⟨i, hi, rfl⟩ := List.mem_map.mp hx
    exact ticketFrom_used hmem i (Nat.le_of_lt_succ (List.mem_range.mp hi))
  have count := (nodup.subperm sub).length_le
  rw [List.length_map, List.length_range, List.length_cons] at count
  omega

/-- A new ticket is not 0 and names no outstanding request of its core. -/
theorem State.newTicket_free {s : State} {c : CoreId} (h : (s.reqs.filter (fun r => r.core = c)).length ≤ 4096) :
    (s.newTicket c).1 ≠ 0 ∧ s.findReq c (s.newTicket c).1 = none := by
  have free := ticketFrom_free (used := (s.reqs.filter (fun r => r.core = c)).map (fun r => r.ticket))
    (by rwa [List.length_map]) (BitVec.ofNat 23 s.takeFree.1.toNat)
  obtain ⟨nonzero, unused⟩ := not_or.mp (mt List.mem_cons.mpr free)
  refine ⟨nonzero, List.find?_eq_none.mpr fun q hq hit => unused ?_⟩
  obtain ⟨hc, ht⟩ : q.core = c ∧ q.ticket = (s.newTicket c).1 := by simpa using hit
  exact List.mem_map.mpr ⟨q, List.mem_filter.mpr ⟨hq, decide_eq_true hc⟩, ht⟩

/-! ## The issue (R76 to R79) -/

/-- Taking a reference to a buffer touches no request and no core. -/
theorem State.addRef_frame (s : State) (a : Nat) : (s.addRef a).reqs = s.reqs ∧ (s.addRef a).cores = s.cores := by
  unfold State.addRef
  split <;> exact ⟨rfl, rfl⟩

theorem State.addRefs_frame (l : List Nat) (s : State) : (l.foldl (fun s a => s.addRef a) s).reqs = s.reqs ∧
    (l.foldl (fun s a => s.addRef a) s).cores = s.cores := by
  induction l generalizing s with
  | nil => exact ⟨rfl, rfl⟩
  | cons a l ih =>
    obtain ⟨reqs, cores⟩ := ih (s.addRef a)
    exact ⟨reqs.trans (s.addRef_frame a).1, cores.trans (s.addRef_frame a).2⟩

/-- A request that joins the outstanding ones with a free ticket, a credit and its ticket in gA, is issued. -/
theorem issued_of_posts {s u : State} {c : CoreId} {p : Prim} {i : Issue} {r : Req} (n : Nat) (hreqs : u.reqs = s.reqs)
    (hcores : u.cores = s.cores) (hcore : r.core = c) (hprim : r.prim = p) (hphase : r.phase = .waiting)
    (hops : r.ops = s.issueBlock c i) (hnz : r.ticket ≠ 0) (hfree : s.findReq c r.ticket = none) :
    Issued s (((u.putReqs (u.reqs ++ [r])).setCore c { u.core c with credits := (u.core c).credits + 1 }).syncDone c n i.a 0x00
      (w64 r.ticket.toNat)) c p i := by
  have core : u.core c = s.core c := congrArg (fun m => FMap.get (fun _ => Core.reset) m c.toNat) hcores
  refine ⟨r.ticket, hnz, hfree, ?_, ?_, ?_, r, ?_, hprim, hphase, hops⟩
  · rw [State.syncDone_core, Core.retire_getG, State.core_setCore_self]
    refine (Core.getG_setG _ i.a i.a _).trans ?_
    by_cases ha : i.a = 0
    · rw [if_neg (fun h => h.2 ha), if_pos ha, ha]
      rfl
    · rw [if_pos ⟨rfl, ha⟩, if_neg ha]
  · rw [State.syncDone_core, (Core.retire_frame _ _).2.2.1]
  · rw [State.syncDone_core, State.core_setCore_self, core]
    simp
  · have reqs : (((u.putReqs (u.reqs ++ [r])).setCore c { u.core c with credits := (u.core c).credits + 1 }).syncDone c n i.a 0x00
        (w64 r.ticket.toNat)).reqs = s.reqs ++ [r] := by rw [← hreqs]; rfl
    unfold State.findReq at hfree ⊢
    rw [reqs, List.find?_append, hfree]
    simp [hcore]

/-- An issue that nothing refuses posts its request. -/
theorem State.issue_accepted {s : State} {c : CoreId} {p : Prim} {i : Issue} {imm : BitVec 32} (n : Nat) (hs : s.sramClean)
    (hc : s.issueClean c i) (ht : s.issueTaken c p i imm) : Issued s (s.issue c p n i imm) c p i := by
  obtain ⟨hb, hd, hrec, hend, hrd, hwr⟩ := hc
  obtain ⟨habs, hfree, hroom, hout⟩ := ht
  obtain ⟨⟨inCluster, off⟩, hloc⟩ := Option.isSome_iff_exists.mp hrec
  obtain ⟨hnz, hnone⟩ := State.newTicket_free hout
  unfold State.issueBlock at habs hroom
  unfold State.issue
  dsimp only
  rw [if_neg (by omega), hloc]
  dsimp only
  rw [if_neg (by simp [hrd, hwr]; omega), State.sramRead_clean hs, State.unlessReset_self]
  simp only [habs, if_neg hfree, if_neg (Nat.not_le.mpr hroom), Bool.false_eq_true, if_false]
  obtain ⟨reqs, cores⟩ := State.addRefs_frame (s.namedBufs (p.addrOps ((s.core c).operandBlock ((s.core c).getG i.b).toNat) imm))
    (s.newTicket c).2
  exact issued_of_posts n reqs cores rfl rfl rfl rfl hnz hnone

/-! ## The 44 rows -/

/-- An operation number that its family does not define changes nothing about the unit or the memories it names. -/
theorem State.unitAbsent_opImm (s : State) (imm : BitVec 32) (u : Nat) (ops : List W64) :
    s.unitAbsent .mzone u (opImm imm 5 5) ops = s.unitAbsent .mzone u (setFld imm 0 4 5) ops ∧
    s.unitAbsent .vslot u (opImm imm 0 4) ops = s.unitAbsent .vslot u (setFld imm 0 4 0) ops ∧
    s.unitAbsent .slink u (opImm imm 0 4) ops = s.unitAbsent .slink u (setFld imm 0 4 0) ops := by
  refine ⟨rfl, ?_, rfl⟩
  have status : fld (setFld imm 0 4 0) 0 4 ≠ 3 := by rw [fld_setFld_same _ (by decide)]; decide
  have undefined : fld (opImm imm 0 4) 0 4 ≠ 3 := by
    unfold opImm
    split
    · omega
    · exact status
  unfold State.unitAbsent Prim.addrOps
  simp only [if_neg status, if_neg undefined]

/-- Each issue instruction is the issue of its primitive, with an IMM that names the same unit and memories. -/
theorem exec_issueRow {s : State} {c : CoreId} (i : Issue) (hr : s.Ready c) : ∀ r ∈ issueRows c i, rowMatches s r.ins = true →
    ((s.core c).getG i.b).toNat % 64 = 0 → ∃ imm, exec r.ins s = .next (s.issue c r.prim r.cost i imm) ∧
      ∀ u ops, s.unitAbsent r.prim u imm ops = s.unitAbsent r.prim u r.imm ops := by
  have plain : ∀ {ins : Instr} {p : Prim} {n : Nat} {imm : BitVec 32}, exec ins s = onCore s c (fun s => s.issue c p n i imm) →
      rowMatches s ins = true → ((s.core c).getG i.b).toNat % 64 = 0 → ∃ imm', exec ins s = .next (s.issue c p n i imm') ∧
        ∀ u ops, s.unitAbsent p u imm' ops = s.unitAbsent p u imm ops :=
    fun h _ _ => ⟨_, h.trans (onCore_ready _ hr), fun _ _ => rfl⟩
  have feat : ∀ {ins : Instr} {w : Bool}, exec ins s = onCore s c (fun s => s.issueFeat c i w) →
      bit ((s.issueBlock c i).getD 1 0) 8 = w → ∃ imm', exec ins s = .next (s.issue c .ffeat 8 i imm') ∧
        ∀ u ops, s.unitAbsent .ffeat u imm' ops = s.unitAbsent .ffeat u i.imm ops :=
    fun h hw => ⟨_, (h.trans (onCore_ready _ hr)).trans (congrArg Host.Outcome.next (if_neg fun ⟨_, hne⟩ => hne hw)),
      fun _ _ => rfl⟩
  simp only [issueRows, List.forall_mem_cons]
  exact ⟨plain rfl, plain rfl, plain rfl, plain rfl, plain rfl, plain rfl, plain rfl, plain rfl, plain rfl, plain rfl, plain rfl,
    fun _ _ => ⟨_, onCore_ready _ hr, fun u ops => (s.unitAbsent_opImm i.imm u ops).1⟩,
    plain rfl, plain rfl, plain rfl, plain rfl, fun h _ => feat rfl (Bool.not_eq_true' _ ▸ h), fun h _ => feat rfl h,
    plain rfl, plain rfl, plain rfl, plain rfl, plain rfl, plain rfl, plain rfl, plain rfl, plain rfl,
    fun _ _ => ⟨_, onCore_ready _ hr, fun u ops => (s.unitAbsent_opImm i.imm u ops).2.1⟩,
    plain rfl, plain rfl, plain rfl, plain rfl, plain rfl, plain rfl, plain rfl, plain rfl, plain rfl,
    fun _ _ => ⟨_, onCore_ready _ hr, fun u ops => (s.unitAbsent_opImm i.imm u ops).2.2⟩,
    plain rfl, plain rfl, plain rfl, plain rfl, plain rfl, plain rfl, List.forall_mem_nil _⟩

/-- Settles O22: each row is an issue, and an issue that nothing refuses is accepted. -/
theorem issueAccepted : Obligations.IssueAccepted := by
  intro s c i r hrow hr hm hclean htaken
  obtain ⟨imm, step, same⟩ := exec_issueRow i hr r hrow hm hclean.1
  obtain ⟨absent, free, room, count⟩ := htaken
  exact ⟨_, step, State.issue_accepted r.cost hr.2 hclean ⟨(same _ _).trans absent, free, room, count⟩⟩

end Sys2Proof.Machine
end

section
/-! PROOFS. The statements of 02_sidereal_tick.md, eighth part: the tick boundary and intake. -/

namespace Sys2Proof.Machine

/-! ## What keeps the tick and its window

TICK_BOUNDARY alone counts a tick; each lemma below says of an operation that it runs that the tick and its window stay. -/

theorem foldl_clock {β : Type} {f : State → β → State} (hf : ∀ s x, (f s x).tick = s.tick ∧ (f s x).win = s.win) (l : List β)
    (s : State) : (l.foldl f s).tick = s.tick ∧ (l.foldl f s).win = s.win := by
  induction l generalizing s with
  | nil => exact ⟨rfl, rfl⟩
  | cons x l ih =>
    obtain ⟨tick, win⟩ := ih (f s x)
    exact ⟨tick.trans (hf s x).1, win.trans (hf s x).2⟩

theorem foldl_clock_trans {β : Type} {f : State → β → State} (hf : ∀ s x, (f s x).tick = s.tick ∧ (f s x).win = s.win) {l : List β}
    {s s0 : State} (h : s.tick = s0.tick ∧ s.win = s0.win) : (l.foldl f s).tick = s0.tick ∧ (l.foldl f s).win = s0.win :=
  ⟨(foldl_clock hf l s).1.trans h.1, (foldl_clock hf l s).2.trans h.2⟩

section
variable (s : State)

/-! ### Requests and cores -/

@[simp] theorem State.sramWrite_clock (arr w n : Nat) :
    (s.sramWrite arr w n).tick = s.tick ∧ (s.sramWrite arr w n).win = s.win := by
  unfold State.sramWrite
  dsimp only
  split <;> simp

@[simp] theorem State.writeRecord_clock (r : Req) (ws : List W64) :
    (s.writeRecord r ws).tick = s.tick ∧ (s.writeRecord r ws).win = s.win := by
  unfold State.writeRecord
  dsimp only
  split <;> simp

theorem State.unref_clock (a : Nat) : (s.unref a).tick = s.tick ∧ (s.unref a).win = s.win := by
  unfold State.unref State.dropBuf State.setBuf
  split
  · split <;> simp
  · simp

@[simp] theorem State.complete_clock (r : Req) (oc : Byte) (ws : List W64) :
    (s.complete r oc ws).tick = s.tick ∧ (s.complete r oc ws).win = s.win := by
  unfold State.complete State.postCredited State.dropReq
  simp [foldl_clock State.unref_clock]

@[simp] theorem State.almRecord_clock (code : Nat) (params : List W64) :
    (s.almRecord code params).tick = s.tick ∧ (s.almRecord code params).win = s.win :=
  ⟨(s.almRecord_keeps (q := False) code params).tick, (s.almRecord_keeps (q := False) code params).win⟩

@[simp] theorem State.faultReset_clock (cause p1 p2 : Nat) :
    (s.faultReset cause p1 p2).tick = s.tick ∧ (s.faultReset cause p1 p2).win = s.win :=
  ⟨(s.faultReset_keeps cause p1 p2).tick, (s.faultReset_keeps cause p1 p2).win⟩

@[simp] theorem State.postP0_clock (c : CoreId) (e : W64) : (s.postP0 c e).tick = s.tick ∧ (s.postP0 c e).win = s.win := by
  unfold State.postP0
  dsimp only
  split <;> simp

@[simp] theorem State.cut_clock (c : CoreId) (code pcw trapK : Nat) :
    (s.cut c code pcw trapK).tick = s.tick ∧ (s.cut c code pcw trapK).win = s.win := by
  unfold State.cut
  dsimp only
  split <;> simp

theorem State.cutOverrun_clock (c : CoreId) : (s.cutOverrun c).tick = s.tick ∧ (s.cutOverrun c).win = s.win := by
  unfold State.cutOverrun
  dsimp only
  split <;> simp

theorem State.enterHandler_clock (c : CoreId) : (s.enterHandler c).tick = s.tick ∧ (s.enterHandler c).win = s.win := by
  unfold State.enterHandler
  dsimp only
  split
  · split <;> simp
  · simp

/-! ### The gate -/

@[simp] theorem State.settleCount_clock (d : Cmd) : (s.settleCount d).tick = s.tick ∧ (s.settleCount d).win = s.win := by
  unfold State.settleCount State.setSq
  split <;> simp

@[simp] theorem State.dropHaz_clock (d : Cmd) : (s.dropHaz d).tick = s.tick ∧ (s.dropHaz d).win = s.win := by
  unfold State.dropHaz
  split <;> simp

@[simp] theorem State.failJobs_clock (d : Cmd) : (s.failJobs d).tick = s.tick ∧ (s.failJobs d).win = s.win := by
  unfold State.failJobs
  simp

@[simp] theorem State.releaseEntry_clock (d : Cmd) : (s.releaseEntry d).tick = s.tick ∧ (s.releaseEntry d).win = s.win := by
  unfold State.releaseEntry State.setCmd
  simp

@[simp] theorem State.writeCqe_clock (d : Cmd) (dw0 dw1 : BitVec 32) (st : BitVec 15) :
    (s.writeCqe d dw0 dw1 st).tick = s.tick ∧ (s.writeCqe d dw0 dw1 st).win = s.win := by
  unfold State.writeCqe State.setCq
  split
  · split <;> simp
  · simp

@[simp] theorem State.cqWaiting_clock (d : Cmd) (f : Nat → Nat) :
    (s.cqWaiting d f).tick = s.tick ∧ (s.cqWaiting d f).win = s.win := by
  unfold State.cqWaiting State.setCq
  split
  · split <;> simp
  · simp

@[simp] theorem State.claimEvent_clock (req : Option (CoreId × Ticket)) (oc : Byte) :
    (s.claimEvent req oc).tick = s.tick ∧ (s.claimEvent req oc).win = s.win := by
  unfold State.claimEvent State.fail
  split <;> simp

@[simp] theorem State.postEntry_clock (d : Cmd) (dw0 dw1 : BitVec 32) (st : BitVec 15) (req : Option (CoreId × Ticket)) :
    (s.postEntry d dw0 dw1 st req).tick = s.tick ∧ (s.postEntry d dw0 dw1 st req).win = s.win := by
  unfold State.postEntry State.setCmd
  split <;> simp

@[simp] theorem State.respond_clock (d : Cmd) (dw0 dw1 : BitVec 32) (st : BitVec 15) :
    (s.respond d dw0 dw1 st).tick = s.tick ∧ (s.respond d dw0 dw1 st).win = s.win := by
  unfold State.respond
  split
  · split <;> simp
  · simp

@[simp] theorem State.squashCmd_clock (d : Cmd) : (s.squashCmd d).tick = s.tick ∧ (s.squashCmd d).win = s.win := by
  unfold State.squashCmd
  split <;> simp

@[simp] theorem State.claimAbort_clock (r : Req) (key : W64) :
    (s.claimAbort r key).tick = s.tick ∧ (s.claimAbort r key).win = s.win := by
  unfold State.claimAbort State.fail State.setReq
  split
  · simp
  · split
    · split <;> simp
    · simp

theorem State.applyFor_clock (p : W64 × W64) : (s.applyFor p).tick = s.tick ∧ (s.applyFor p).win = s.win := by
  unfold State.applyFor State.abortFor
  dsimp only
  split
  · split
    · split <;> simp
    · simp
  · simp

@[simp] theorem State.applyAborts_clock : s.applyAborts.tick = s.tick ∧ s.applyAborts.win = s.win := by
  unfold State.applyAborts
  dsimp only
  refine foldl_clock_trans State.applyFor_clock (foldl_clock (fun t r => ?_) _ _)
  split
  · split <;> simp
  · simp

/-! ### Registers and queues that wait for the boundary -/

theorem State.applyPend_clock (p : Nat × W64) : (s.applyPend p).tick = s.tick ∧ (s.applyPend p).win = s.win := by
  unfold State.applyPend
  split <;> simp

theorem State.applyQChange_clock (p : Nat × QChange) : (s.applyQChange p).tick = s.tick ∧ (s.applyQChange p).win = s.win := by
  unfold State.applyQChange State.setSq
  split
  · split <;> simp
  · simp

@[simp] theorem State.applyPending_clock : s.applyPending.tick = s.tick ∧ s.applyPending.win = s.win := by
  have minima := foldl_clock (f := fun (s : State) (p : Nat × Nat) => s.putTunMin (FMap.set (fun _ => 0) s.tunMin p.1 p.2))
    (fun s p => by simp)
  simp [State.applyPending, minima, foldl_clock State.applyQChange_clock, foldl_clock State.applyPend_clock]

@[simp] theorem State.firstRun_clock (m : RunImage) : (s.firstRun m).tick = s.tick ∧ (s.firstRun m).win = s.win := by
  unfold State.firstRun State.setSvn
  dsimp only
  split
  · split <;> simp
  · simp

@[simp] theorem State.handoverBoundary_clock : s.handoverBoundary.tick = s.tick ∧ s.handoverBoundary.win = s.win := by
  unfold State.handoverBoundary
  split
  · split
    · refine foldl_clock_trans (fun t c => ?_) (by simp)
      dsimp only
      split
      · simp
      · split <;> simp
    · simp
  · simp

/-! ### Domes -/

@[simp] theorem State.closeVote_clock (d : Nat) : (s.closeVote d).tick = s.tick ∧ (s.closeVote d).win = s.win := by
  unfold State.closeVote
  split <;> simp

@[simp] theorem State.domeEvents_clock (d kind num : Nat) (cs : List Nat) :
    (s.domeEvents d kind num cs).tick = s.tick ∧ (s.domeEvents d kind num cs).win = s.win :=
  foldl_clock (fun s c => by simp [State.domeEvent, State.postWaiting]) cs s

@[simp] theorem State.abortEntry_clock (d : Nat) (e : DomeEntry) (party w2 : Nat) :
    (s.abortEntry d e party w2).tick = s.tick ∧ (s.abortEntry d e party w2).win = s.win := by
  unfold State.abortEntry State.setEntry
  dsimp only
  split <;> simp

theorem State.wakeDome_clock (src d : Nat) (phase : CommitPhase) :
    (s.wakeDome src d phase).tick = s.tick ∧ (s.wakeDome src d phase).win = s.win := by
  unfold State.wakeDome State.setEntry State.startWake
  dsimp only
  split
  · simp
  · split
    · split
      · simp
      · split
        · split <;> split <;> simp
        · simp
    · split
      · split <;> split <;> simp
      · simp

@[simp] theorem State.levelSource_clock (src : Nat) : (s.levelSource src).tick = s.tick ∧ (s.levelSource src).win = s.win := by
  unfold State.levelSource
  split
  · exact foldl_clock (fun t d => t.wakeDome_clock src d .after) _ _
  · simp

/-! ### Counts of the tick -/

@[simp] theorem State.shareBoundary_clock : s.shareBoundary.tick = s.tick ∧ s.shareBoundary.win = s.win := by
  simp [State.shareBoundary]

@[simp] theorem State.finishShutdowns_clock : s.finishShutdowns.tick = s.tick ∧ s.finishShutdowns.win = s.win := by
  refine foldl_clock (fun t f => ?_) _ _
  unfold State.finishShutdown State.setCtrl
  dsimp only
  split <;> simp

@[simp] theorem State.plogTick_clock : s.plogTick.tick = s.tick ∧ s.plogTick.win = s.win := by
  unfold State.plogTick State.plogEvent State.rasEvent State.unitEvent State.postWaiting
  dsimp only
  split
  · split <;> simp
  · simp

@[simp] theorem State.minuteTick_clock : s.minuteTick.tick = s.tick ∧ s.minuteTick.win = s.win := by
  unfold State.minuteTick
  dsimp only
  split <;> simp

@[simp] theorem State.testTick_clock : s.testTick.tick = s.tick ∧ s.testTick.win = s.win := by
  unfold State.testTick State.testResult
  split
  · dsimp only
    split
    · split <;> simp
    · simp
  · simp

@[simp] theorem State.setSport_clock (p : Nat) (x : SpanPort) : (s.setSport p x).tick = s.tick ∧ (s.setSport p x).win = s.win := by
  simp [State.setSport]

@[simp] theorem State.sendMsg_clock (p : Nat) (m : SpanMsg) : (s.sendMsg p m).tick = s.tick ∧ (s.sendMsg p m).win = s.win := by
  unfold State.sendMsg State.pumpPort
  dsimp only
  split <;> simp

@[simp] theorem State.ckpt_clock (kind : Nat) (payload : List Byte) :
    (s.ckpt kind payload).tick = s.tick ∧ (s.ckpt kind payload).win = s.win := by
  unfold State.ckpt State.rsend State.rsendAt State.rsendFor
  split
  · split
    · dsimp only
      split <;> simp
    · simp
  · simp

@[simp] theorem State.reportBound_clock : s.reportBound.tick = s.tick ∧ s.reportBound.win = s.win := by
  unfold State.reportBound
  dsimp only
  split <;> simp

/-! ## The boundary in three parts -/

/-- The end of the old tick: abort claims apply and the entry buffers' tick is counted. -/
def State.endTick (s : State) : State :=
  let t := s.applyAborts.putGateShut false
  if t.gap then t else t.countEntries

/-- The swaps of the boundary: overruns are cut, and what waits for the boundary takes effect. -/
def State.swapTick (s : State) : State :=
  ((allCores.foldl State.cutOverrun s).applyPending.mapCores (fun k => k.applyChk.applySwap.newTick)).handoverBoundary

/-- The start of the new tick: the clocks of the device count on, and fault handlers are entered. -/
def State.startTick (s : State) : State :=
  let s := (s.levelSource 7).putGap (gapTick (s.rfld thermGap 8 4) s.tick.toNat)
  let s := s.putCtrls (s.ctrls.map (fun (p : Nat × Ctrl) => (p.1, p.2.applyArb)))
  let s := ((s.shareBoundary).finishShutdowns).ageTick.plogTick.minuteTick.testTick.reportBound
  allCores.foldl State.enterHandler s

theorem State.endTick_clock : s.endTick.tick = s.tick ∧ s.endTick.win = s.win := by
  unfold State.endTick State.countEntries
  dsimp only
  split <;> simp

theorem State.swapTick_clock : s.swapTick.tick = s.tick ∧ s.swapTick.win = s.win := by
  simp [State.swapTick, State.mapCores, foldl_clock State.cutOverrun_clock]

theorem State.startTick_clock : s.startTick.tick = s.tick ∧ s.startTick.win = s.win := by
  simp [State.startTick, State.ageTick, foldl_clock State.enterHandler_clock]

theorem exec_tickBoundary {s : State} (h : s.win = .slot) : exec .tickBoundary s =
    .next (((s.endTick.putTick (s.endTick.tick + 1)).putWin .fault).swapTick.startTick) :=
  congrArg Host.Outcome.next (if_neg (not_not_intro h))

end

/-! ## Intake (R28, R37) -/

/-- A map with every entry changed by a function that keeps the unlisted value reads changed everywhere. -/
theorem FMap.get_map {α : Type} {d : Nat → α} {f : α → α} (hf : ∀ k, f (d k) = d k) (m : FMap α) (k : Nat) :
    FMap.get d (m.map (fun p => (p.1, f p.2))) k = f (FMap.get d m k) := by
  induction m with
  | nil => exact (hf k).symm
  | cons p m ih =>
    by_cases hp : p.1 = k
    · subst hp
      rw [FMap.get_cons_self]
      exact FMap.get_cons_self (p.1, f p.2) _
    · rw [FMap.get_cons_ne p m hp, ← ih]
      exact FMap.get_cons_ne (p.1, f p.2) _ hp

theorem State.core_mapCores {f : Core → Core} (hf : f Core.reset = Core.reset) (s : State) (c : CoreId) :
    (s.mapCores f).core c = f (s.core c) := FMap.get_map (fun _ => hf) s.cores c.toNat

/-- Intake has nothing to move on a core that nothing has touched. -/
theorem Core.intake_reset (n : Nat) : Core.reset.intake n = Core.reset := by
  simp [Core.intake, Core.reset]

theorem exec_intake {s : State} (hw : s.win = .fault) (hh : ∀ c ∈ s.presentCores, (s.core c).act ≠ .faultHandler) :
    exec .intake s = .next ((s.mapCores (fun k => k.intake s.intakeLimit)).putWin .slot) := by
  have quiet : s.presentCores.find? (fun c => (s.core c).act = .faultHandler) = none :=
    List.find?_eq_none.mpr fun c hc => by simpa using hh c hc
  refine congrArg Host.Outcome.next ((if_neg (not_not_intro hw)).trans ?_)
  rw [quiet]

/-- Settles O24: the boundary counts one tick and its parts keep the clock; intake maps every core. -/
theorem tickAndIntake : Obligations.TickAndIntake := by
  refine ⟨fun s hw => ⟨_, exec_tickBoundary hw, ?_⟩, fun s hw hh => ⟨_, exec_intake hw hh, rfl, rfl, fun c => ?_⟩⟩
  · rw [(State.startTick_clock _).1, (State.startTick_clock _).2, (State.swapTick_clock _).1, (State.swapTick_clock _).2]
    exact ⟨congrArg (· + 1) s.endTick_clock.1, rfl⟩
  · exact State.core_mapCores (f := fun k => k.intake s.intakeLimit) (Core.intake_reset _) s c

end Sys2Proof.Machine
end

section
/-! PROOFS. The statements of 02_sidereal_tick.md, ninth part: what the hardware does behind its registers. -/

namespace Sys2Proof.Machine

/-! ## Fields of registers -/

theorem State.rfld_setRfld_same (s : State) (o : Nat) {lo w : Nat} (h : lo + w ≤ 64) (x : Nat) :
    (s.setRfld o lo w x).rfld o lo w = x % 2 ^ w := by
  unfold State.rfld State.setRfld
  rw [State.reg_setReg_self, fld_setFld_same _ h]

theorem State.rfld_setRfld_disjoint (s : State) (o : Nat) {lo w lo' w' : Nat} (h : lo + w ≤ 64) (x : Nat)
    (hd : lo' + w' ≤ lo ∨ lo + w ≤ lo') : (s.setRfld o lo w x).rfld o lo' w' = s.rfld o lo' w' := by
  unfold State.rfld State.setRfld
  rw [State.reg_setReg_self, fld_setFld_other _ h _ hd]

theorem State.reg_of_regs {s t : State} (h : t.regs = s.regs) (o : Nat) : t.reg o = s.reg o :=
  congrArg (fun m => FMap.get regReset m o) h

theorem State.rfld_of_regs {s t : State} (h : t.regs = s.regs) (o lo w : Nat) : t.rfld o lo w = s.rfld o lo w :=
  congrArg (fun v => fld v lo w) (State.reg_of_regs h o)

theorem State.reg_setRfld_ne (s : State) {o p : Nat} (lo w x : Nat) (h : p ≠ o) : (s.setRfld o lo w x).reg p = s.reg p :=
  s.reg_setReg_ne _ h

/-! ## The sequence floor (R199) -/

theorem rdNum_wrNum (m : FMap Byte) (a : Nat) {n v : Nat} (h : v < 256 ^ n) : rdNum (wrNum m a n v) a n = v := by
  have back := rdBytes_wrBytes m a (toBytes n v)
  rw [length_toBytes] at back
  show ofBytes (rdBytes (wrBytes m a (toBytes n v)) a n) = v
  rw [back, ofBytes_toBytes, Nat.mod_eq_of_lt h]

theorem exec_wsnFloorRaise {s : State} {x b : Nat} (h : s.wsnFloor = some x)
    (hb : min (max (s.rfld hazWsnRes 0 56) (x + 2 ^ 24)) (2 ^ 56 - 1) = b) : exec .wsnFloorRaise s =
    .next ((((s.setRfld hazWsnRes 0 56 b).setRfld hazWsn 0 56 (max s.wsn x)).putIngot
      (wrNum s.ingot reserveWord 8 b)).putWsnFloor none) := by
  show execWsnFloorRaise s = _
  simp only [execWsnFloorRaise, h, wsnMax, hb, State.setRfld_frame]

/-- The bound is durable in the ingot store, and the counter stands at the floor or above. -/
theorem wsnFloorRaise_result {s : State} {x : Nat} (h : s.wsnFloor = some x) (hx : x < 2 ^ 56) : ∃ t,
    exec .wsnFloorRaise s = .next t ∧ t.wsnFloor = none ∧ t.wsn = max s.wsn x ∧
    t.rfld hazWsnRes 0 56 = min (max (s.rfld hazWsnRes 0 56) (x + 2 ^ 24)) (2 ^ 56 - 1) ∧
    rdNum t.ingot reserveWord 8 = min (max (s.rfld hazWsnRes 0 56) (x + 2 ^ 24)) (2 ^ 56 - 1) := by
  generalize hb : min (max (s.rfld hazWsnRes 0 56) (x + 2 ^ 24)) (2 ^ 56 - 1) = b
  have bound : b < 2 ^ 56 := by omega
  have wsn : s.wsn < 2 ^ 56 := fld_lt _ _ _
  have regs : ((((s.setRfld hazWsnRes 0 56 b).setRfld hazWsn 0 56 (max s.wsn x)).putIngot
      (wrNum s.ingot reserveWord 8 b)).putWsnFloor none).regs =
      ((s.setRfld hazWsnRes 0 56 b).setRfld hazWsn 0 56 (max s.wsn x)).regs := by
    simp only [State.putWsnFloor_frame, State.putIngot_frame]
  refine ⟨_, exec_wsnFloorRaise h hb, by simp only [State.putWsnFloor_wsnFloor], ?_, ?_, ?_⟩
  · rw [State.wsn, State.rfld_of_regs regs, State.rfld_setRfld_same _ _ (by decide), Nat.mod_eq_of_lt (max_lt wsn hx)]
  · rw [State.rfld_of_regs regs, State.rfld_setRfld_other _ _ _ _ _ _ _ _ (by decide), State.rfld_setRfld_same _ _ (by decide),
      Nat.mod_eq_of_lt bound]
  · simp only [State.putWsnFloor_frame, State.putIngot_ingot]
    exact rdNum_wrNum _ _ (by omega)

/-! ## DRAM frequency changes and training (R447, R454) -/

theorem exec_frequencyChangeDone {s : State} (h : bit (s.reg (sta 8 0x10)) 0 = true) : ∃ t, exec .frequencyChangeDone s = .next t ∧
    bit (t.reg (sta 8 0x10)) 0 = false ∧ bit (t.reg (sta 8 0x10)) 3 = true ∧
    bit (t.reg (sta 8 0x10)) 2 = bit (s.reg (sta 8 0x10)) 1 := by
  refine ⟨_, congrArg Host.Outcome.next (if_pos h), ?_⟩
  generalize s.reg (sta 8 0x10) = v
  rw [State.reg_setReg_self]
  unfold setBit
  refine ⟨?_, bit_setFld_same _ (by decide) _, ?_⟩
  · rw [bit_setFld_other _ (by decide) _ (by decide), bit_setFld_other _ (by decide) _ (by decide), bit_setFld_same _ (by decide)]
    rfl
  · rw [bit_setFld_other _ (by decide) _ (by decide), bit_setFld_same _ (by decide), bit_eq_fld]
    exact congrArg (fun x => decide (x = 1)) (Nat.mod_eq_of_lt (fld_lt v 1 1))

theorem exec_trainingRunDone {s : State} (fail : BitVec 40) (count : BitVec 24) (h : bit (s.reg (sta 8 0x118)) 0 = true) : ∃ t,
    exec (.trainingRunDone fail count) s = .next t ∧ bit (t.reg (sta 8 0x118)) 0 = false ∧
    fld (t.reg (sta 8 0x120)) 0 40 = fail.toNat ∧ fld (t.reg (sta 8 0x120)) 40 24 = count.toNat := by
  have lanes := fail.isLt
  have words := count.isLt
  refine ⟨_, congrArg Host.Outcome.next (if_pos h), ?_, ?_, ?_⟩
  · rw [State.reg_setReg_ne _ _ (by decide), State.setRfld, State.reg_setReg_self, bit_setFld_same _ (by decide)]
    rfl
  · rw [State.reg_setReg_self, fld_w64 _ (by decide)]
    omega
  · rw [State.reg_setReg_self, fld_w64 _ (by decide)]
    omega

/-! ## The scrub (R465, R467) -/

/-- Scrubbing SRAM that holds no bit in error changes nothing. -/
theorem State.scrubRange_clean {s : State} (h : s.sramClean) (arr first last : Nat) : s.scrubRange arr first last = s := by
  unfold State.scrubRange
  rw [State.sramRead_clean h]
  have clean : s.sramErr = [] := h
  have same : ∀ f : Nat × Nat → Bool, s.sramErr.filter f = s.sramErr := fun f => by rw [clean]; rfl
  dsimp only
  rw [same]
  rfl

theorem State.residentRecord_frame (s : State) (params : List W64) : (s.residentRecord params).regs = s.regs ∧
    (s.residentRecord params).scrub = s.scrub ∧ (s.residentRecord params).heldBack = s.heldBack := by
  unfold State.residentRecord State.almQueue
  dsimp only
  split <;> simp

/-- A stuck word leaves the registers and the scrub; one of the tundish is held back. -/
theorem State.stuckWord_frame (s : State) (arr w : Nat) : (s.stuckWord arr w).regs = s.regs ∧ (s.stuckWord arr w).scrub = s.scrub ∧
    (arr = 0x88 → (0x88, w) ∈ (s.stuckWord arr w).heldBack) := by
  obtain ⟨regs, scrub, held⟩ := State.residentRecord_frame (s.putSramErr (FMap.set (fun _ => 0) s.sramErr (sramKey arr w) 1))
    [w64 arr, w64 w]
  unfold State.stuckWord
  dsimp only
  split
  · exact ⟨regs, scrub, fun h => List.mem_append_right _ (List.mem_singleton.mpr (by rw [h]))⟩
  · next hh =>
    refine ⟨regs, scrub, fun h => ?_⟩
    subst h
    simpa using hh

theorem exec_scrubDone {s : State} {arr a b : Nat} {corr : BitVec 24} {stuck : List (BitVec 24)} {bad : List Nat} {v : W64}
    (hs : s.scrub = some (arr, a, b)) (hc : s.sramClean) (hd : s.boot.down = false)
    (hbad : ((stuck.map (·.toNat)).eraseDups).filter (fun w => decide (a ≤ w) && decide (w ≤ b)) = bad)
    (hv : w64 (corr.toNat * 2 + min bad.length 0xFFFF * 2 ^ 25) = v) : exec (.scrubDone corr stuck) s =
      .next ((bad.foldl (fun s w => s.stuckWord arr w) ((s.putScrub none).setReg (sta 0x12 0x308) v)).rasEvent 5 (arr % 256)) := by
  have clean : (s.putScrub none).sramClean := hc
  have up : ((s.putScrub none).setReg (sta 0x12 0x308) v).boot.down = false := by simpa using hd
  show execScrubDone corr stuck s = _
  simp only [execScrubDone, hs, hbad, hv, State.scrubRange_clean clean, up, Bool.false_eq_true, if_false]

@[simp] theorem State.rasEvent_frame (s : State) (kind param : Nat) : (s.rasEvent kind param).regs = s.regs ∧
    (s.rasEvent kind param).scrub = s.scrub ∧ (s.rasEvent kind param).heldBack = s.heldBack := by
  simp [State.rasEvent, State.unitEvent, State.postWaiting]

theorem exec_scrubDone_stuck {s : State} {a b : Nat} (corr word : BitVec 24) (hs : s.scrub = some (0x88, a, b)) (hc : s.sramClean)
    (hd : s.boot.down = false) (ha : a ≤ word.toNat) (hb : word.toNat ≤ b) : ∃ t, exec (.scrubDone corr [word]) s = .next t ∧
    t.scrub = none ∧ fld (t.reg (sta 0x12 0x308)) 1 24 = corr.toNat ∧ fld (t.reg (sta 0x12 0x308)) 25 16 = 1 ∧
    (0x88, word.toNat) ∈ t.heldBack := by
  have one : (([word].map (·.toNat)).eraseDups).filter (fun w => decide (a ≤ w) && decide (w ≤ b)) = [word.toNat] := by
    simp [List.eraseDups_cons, ha, hb]
  generalize hv : w64 (corr.toNat * 2 + min [word.toNat].length 0xFFFF * 2 ^ 25) = v
  have step := exec_scrubDone hs hc hd one hv
  generalize hu : (s.putScrub none).setReg (sta 0x12 0x308) v = u at step
  obtain ⟨regs, scrub, held⟩ := u.stuckWord_frame 0x88 word.toNat
  obtain ⟨regs', scrub', held'⟩ := (u.stuckWord 0x88 word.toNat).rasEvent_frame 5 (0x88 % 256)
  have done : ((u.stuckWord 0x88 word.toNat).rasEvent 5 (0x88 % 256)).reg (sta 0x12 0x308) = v := by
    rw [State.reg_of_regs (regs'.trans regs), ← hu, State.reg_setReg_self]
  have corrected := corr.isLt
  refine ⟨_, step, ?_, ?_, ?_, held'.symm ▸ held rfl⟩
  · exact scrub'.trans (scrub.trans (by rw [← hu]; simp))
  · refine (congrArg (fld · 1 24) done).trans ?_
    rw [← hv, fld_w64 _ (by decide), List.length_singleton]
    omega
  · refine (congrArg (fld · 25 16) done).trans ?_
    rw [← hv, fld_w64 _ (by decide), List.length_singleton]
    omega

end Sys2Proof.Machine
end

section
/-! PROOFS. The statements of 02_sidereal_tick.md, tenth part: the pattern store behind its registers. -/

namespace Sys2Proof.Machine

/-! ## Maps with keys dropped or set -/

/-- A key that a filter drops reads as an unlisted one. -/
theorem FMap.get_filter_dropped {α : Type} {d : Nat → α} (f : Nat → Bool) {k : Nat} (hk : f k = false) (m : FMap α) :
    FMap.get d (m.filter (fun p => f p.1)) k = d k := by
  induction m with
  | nil => rfl
  | cons p m ih =>
    by_cases hf : f p.1 = true
    · have hp : p.1 ≠ k := fun h => by rw [h, hk] at hf; exact Bool.false_ne_true hf
      rw [List.filter_cons_of_pos (p := fun x : Nat × α => f x.1) hf, FMap.get_cons_ne p _ hp, ih]
    · rw [List.filter_cons_of_neg (p := fun x : Nat × α => f x.1) hf, ih]

/-- Setting every key of a list to one value. -/
theorem FMap.get_foldl_set {α : Type} [DecidableEq α] {d : Nat → α} (g : Nat → Nat) (v : α) (l : List Nat) (m : FMap α) (k : Nat) :
    FMap.get d (l.foldl (fun m i => FMap.set d m (g i) v) m) k = if k ∈ l.map g then v else FMap.get d m k := by
  induction l generalizing m with
  | nil => rfl
  | cons i l ih =>
    rw [List.foldl_cons, ih, FMap.get_set, List.map_cons]
    by_cases hl : k ∈ l.map g
    · rw [if_pos hl, if_pos (List.mem_cons_of_mem _ hl)]
    · by_cases hi : k = g i
      · rw [if_neg hl, if_pos hi, if_pos (List.mem_cons.mpr (.inl hi))]
      · rw [if_neg hl, if_neg hi, if_neg (fun h => (List.mem_cons.mp h).elim hi hl)]

theorem FMap.getList_append {α : Type} {d : Nat → α} (m : FMap α) (k a b : Nat) :
    FMap.getList d m k (a + b) = FMap.getList d m k a ++ FMap.getList d m (k + a) b := by
  induction a generalizing k with
  | zero => rw [Nat.zero_add]; rfl
  | succ a ih =>
    rw [Nat.succ_add]
    show FMap.get d m k :: FMap.getList d m (k + 1) (a + b) = _
    rw [ih, Nat.add_assoc k 1 a, Nat.add_comm 1 a]
    rfl

/-! ## Operations of the die (R545, R548) -/

/-- The registers and the machinery at the end of an operation of `n` pulses. -/
def State.patEnd (s : State) (n : Nat) : State :=
  (((s.putPat { s.pat with op := none }).setRfld patCmd 2 1 0).setRfld patStat 0 1 0).setRfld patStat 8 6 n

theorem exec_patOperationDone {s : State} {pulses : BitVec 6} {erase pass : Bool} {a : Nat} (hop : s.pat.op = some (erase, a))
    (hb : s.pat.bulk = none) (h1 : 1 ≤ pulses.toNat) (h2 : pulses.toNat ≤ patLimit erase)
    (hp : pass = true ∨ pulses.toNat = patLimit erase) : exec (.patOperationDone pulses pass) s =
    .next (if !pass then ((s.patEnd pulses.toNat).norSpoil erase a).setRfld patStat 1 1 1
      else if erase then (s.patEnd pulses.toNat).norErase a else (s.patEnd pulses.toNat).norProgram a) := by
  have goes : ¬(pulses.toNat = 0 ∨ patLimit erase < pulses.toNat ∨ ((!pass) = true ∧ pulses.toNat ≠ patLimit erase) ∨
      s.pat.bulk.any (fun b => !b.2.2.2) = true) := by
    rintro (h | h | ⟨hf, hn⟩ | h)
    · omega
    · omega
    · rcases hp with hp | hp
      · rw [hp] at hf; exact Bool.false_ne_true hf
      · exact hn hp
    · rw [hb] at h; exact Bool.false_ne_true h
  show execPatOperationDone pulses pass s = _
  simp only [execPatOperationDone, hop, if_neg goes, State.patEnd]

theorem State.patEnd_op (s : State) (n : Nat) : (s.patEnd n).pat.op = none := by simp [State.patEnd]

theorem State.patEnd_nor (s : State) (n : Nat) : (s.patEnd n).nor = s.nor := by simp [State.patEnd]

/-- The status at the end: the pulses, and no longer busy. -/
theorem State.patEnd_stat (s : State) {n : Nat} (hn : n < 64) : (s.patEnd n).rfld patStat 8 6 = n ∧ (s.patEnd n).rfld patStat 0 1 = 0 := by
  unfold State.patEnd
  refine ⟨?_, ?_⟩
  · exact (State.rfld_setRfld_same _ _ (by decide) _).trans (Nat.mod_eq_of_lt hn)
  · rw [State.rfld_setRfld_disjoint _ _ (by decide) _ (by decide)]
    exact State.rfld_setRfld_same _ _ (by decide) _

theorem State.patEnd_reg (s : State) (n : Nat) {o : Nat} (hc : o ≠ patCmd) (hs : o ≠ patStat) : (s.patEnd n).reg o = s.reg o := by
  unfold State.patEnd
  rw [State.reg_setRfld_ne _ _ _ _ hs, State.reg_setRfld_ne _ _ _ _ hs, State.reg_setRfld_ne _ _ _ _ hc]
  exact State.reg_of_regs (by simp) o

theorem State.patEnd_pageBuffer (s : State) (n : Nat) : (s.patEnd n).pageBuffer = s.pageBuffer := by
  refine List.flatMap_congr fun i _ => ?_
  rw [State.patEnd_reg s n (by unfold patCmd sta; omega) (by unfold patStat sta; omega)]

theorem State.length_pageBuffer (s : State) : s.pageBuffer.length = 512 := by
  simp [State.pageBuffer, List.length_flatMap, length_toBytes]

@[simp] theorem State.norErase_frame (s : State) (a : Nat) : (s.norErase a).pat = s.pat ∧ (s.norErase a).regs = s.regs := by
  simp [State.norErase]

/-- An erase leaves its sector at 0xFF and every other byte as it was. -/
theorem State.norErase_nor (s : State) (a m : Nat) : FMap.get norByte (s.norErase a).nor m =
    if m / 0x40000 = a / 0x40000 then 0xFF else FMap.get norByte s.nor m := by
  have nor : (s.norErase a).nor = s.nor.filter (fun p => decide (p.1 / 0x40000 ≠ a / 0x40000)) := by simp [State.norErase]
  rw [nor]
  by_cases h : m / 0x40000 = a / 0x40000
  · rw [if_pos h, FMap.get_filter_dropped (fun k => decide (k / 0x40000 ≠ a / 0x40000)) (by simp [h])]
    rfl
  · rw [if_neg h, FMap.get_filter_key (fun k => decide (k / 0x40000 ≠ a / 0x40000)) (by simp [h])]

@[simp] theorem State.norProgram_frame (s : State) (a : Nat) : (s.norProgram a).pat = s.pat ∧ (s.norProgram a).regs = s.regs := by
  simp [State.norProgram]

/-- A program ands the page buffer into its page and leaves every other byte as it was. -/
theorem State.norProgram_nor (s : State) (a m : Nat) : FMap.get norByte (s.norProgram a).nor m =
    if m / 512 = a / 512 then FMap.get norByte s.nor m &&& s.pageBuffer.getD (m % 512) 0xFF else FMap.get norByte s.nor m := by
  have buffer := s.length_pageBuffer
  have nor : (s.norProgram a).nor = FMap.setList norByte s.nor (a / 512 * 512)
      (List.zipWith (fun x y => x &&& y) (FMap.getList norByte s.nor (a / 512 * 512) 512) s.pageBuffer) := by simp [State.norProgram]
  have length : (List.zipWith (fun x y => x &&& y) (FMap.getList norByte s.nor (a / 512 * 512) 512) s.pageBuffer).length = 512 := by
    rw [List.length_zipWith, FMap.length_getList, buffer, Nat.min_self]
  rw [nor]
  by_cases h : m / 512 = a / 512
  · have low : m - a / 512 * 512 = m % 512 := by omega
    have inside : a / 512 * 512 ≤ m ∧ m - a / 512 * 512 < (List.zipWith (fun x y => x &&& y)
        (FMap.getList norByte s.nor (a / 512 * 512) 512) s.pageBuffer).length := by rw [length]; omega
    have old : a / 512 * 512 + (m - a / 512 * 512) = m := by omega
    rw [FMap.get_setList, dif_pos inside, if_pos h, List.getElem_zipWith, FMap.getElem_getList, old,
      List.getD_eq_getElem _ _ (by omega : m % 512 < s.pageBuffer.length)]
    simp only [low]
  · rw [if_neg h, FMap.get_setList_out]
    rw [length]
    omega

@[simp] theorem State.norSpoil_frame (s : State) (erase : Bool) (a : Nat) : (s.norSpoil erase a).pat = s.pat := by
  unfold State.norSpoil
  split <;> simp

/-- A failed program leaves its page in an unknown state, a failed erase every page of its sector. -/
theorem State.norSpoil_unknown (s : State) (a : Nat) : FMap.get (fun _ => false) (s.norSpoil false a).norUnk (a / 512) = true ∧
    ∀ p, p / 512 = a / 0x40000 → FMap.get (fun _ => false) (s.norSpoil true a).norUnk p = true := by
  have page : (s.norSpoil false a).norUnk = FMap.set (fun _ => false) s.norUnk (a / 512) true := by simp [State.norSpoil]
  have sector : (s.norSpoil true a).norUnk =
      (List.range 512).foldl (fun m i => FMap.set (fun _ => false) m (a / 0x40000 * 512 + i) true) s.norUnk := by simp [State.norSpoil]
  refine ⟨by rw [page, FMap.get_set_self], fun p hp => ?_⟩
  have mem : p ∈ (List.range 512).map (fun i => a / 0x40000 * 512 + i) :=
    List.mem_map.mpr ⟨p % 512, List.mem_range.mpr (Nat.mod_lt _ (by decide)), by omega⟩
  rw [sector, FMap.get_foldl_set (fun i => a / 0x40000 * 512 + i), if_pos mem]

section
variable {s : State} {pulses : BitVec 6} {erase : Bool} {a : Nat} (hop : s.pat.op = some (erase, a)) (hb : s.pat.bulk = none)
  (h1 : 1 ≤ pulses.toNat)
include hop hb h1

/-- An operation that passes ends with its pulses, and only its array differs between an erase and a program. -/
theorem patOperationDone_passes (h2 : pulses.toNat ≤ patLimit erase) : ∃ t, exec (.patOperationDone pulses true) s = .next t ∧
    t.pat.op = none ∧ t.rfld patStat 8 6 = pulses.toNat ∧ t.rfld patStat 0 1 = 0 ∧
    t.nor = (if erase then (s.patEnd pulses.toNat).norErase a else (s.patEnd pulses.toNat).norProgram a).nor := by
  obtain ⟨count, busy⟩ := s.patEnd_stat pulses.isLt
  refine ⟨_, exec_patOperationDone hop hb h1 h2 (.inl rfl), ?_⟩
  cases erase
  · exact ⟨(congrArg Pat.op (State.norProgram_frame _ a).1).trans (s.patEnd_op _),
      (State.rfld_of_regs (State.norProgram_frame _ a).2 _ _ _).trans count,
      (State.rfld_of_regs (State.norProgram_frame _ a).2 _ _ _).trans busy, rfl⟩
  · exact ⟨(congrArg Pat.op (State.norErase_frame _ a).1).trans (s.patEnd_op _),
      (State.rfld_of_regs (State.norErase_frame _ a).2 _ _ _).trans count,
      (State.rfld_of_regs (State.norErase_frame _ a).2 _ _ _).trans busy, rfl⟩

/-- An operation that fails at its last pulse sets FAIL and spoils what it worked on. -/
theorem patOperationDone_fails (h2 : pulses.toNat = patLimit erase) : ∃ t, exec (.patOperationDone pulses false) s = .next t ∧
    t.pat.op = none ∧ t.rfld patStat 1 1 = 1 ∧ t.norUnk = ((s.patEnd pulses.toNat).norSpoil erase a).norUnk := by
  refine ⟨_, exec_patOperationDone hop hb h1 (Nat.le_of_eq h2) (.inr h2), ?_, State.rfld_setRfld_same _ _ (by decide) _, ?_⟩
  · simp [State.patEnd_op]
  · simp

end

/-! ## Reads of the die (R550, R551) -/

theorem exec_patRdataRead {s : State} {w : Who} (hw : s.whoOk w .rd (sta 0x11 0x20) = true) (hop : s.pat.op = none) : ∃ t,
    exec (.patRdataRead w) s = .next t ∧ t.rfld patRaddr 3 24 = (s.rfld patRaddr 3 24 + 1) % 2 ^ 24 := by
  have word : s.patRead.2 = (((s.norWord (s.rfld patRaddr 3 24 * 8)).2.setRfld patStat 2 1 0).setRfld patRaddr 3 24
      (s.rfld patRaddr 3 24 * 8 / 8 + 1)) := by
    unfold State.patRead
    rw [hop]
    rfl
  refine ⟨_, congrArg Host.Outcome.next (if_pos hw), ?_⟩
  rw [word, State.rfld_setRfld_same _ _ (by decide), Nat.mul_div_cancel _ (by decide)]

theorem toBytes_ofBytes (bs : List Byte) : toBytes bs.length (ofBytes bs) = bs := by
  induction bs with
  | nil => rfl
  | cons b bs ih =>
    have low := b.isLt
    have byte : BitVec.ofNat 8 (b.toNat + 256 * ofBytes bs) = b := by
      refine BitVec.eq_of_toNat_eq ?_
      rw [BitVec.toNat_ofNat]
      omega
    have rest : (b.toNat + 256 * ofBytes bs) / 256 = ofBytes bs := by omega
    show BitVec.ofNat 8 (b.toNat + 256 * ofBytes bs) :: toBytes bs.length ((b.toNat + 256 * ofBytes bs) / 256) = b :: bs
    rw [byte, rest, ih]

theorem ofBytes_lt (bs : List Byte) : ofBytes bs < 256 ^ bs.length := by
  have mod := ofBytes_toBytes bs.length (ofBytes bs)
  rw [toBytes_ofBytes] at mod
  rw [mod]
  exact Nat.mod_lt _ (Nat.pow_pos (by decide))

/-- Eight bytes read as a word are the word's bytes. -/
theorem toBytes_w64_ofBytes {bs : List Byte} (h : bs.length = 8) : toBytes 8 (w64 (ofBytes bs)).toNat = bs := by
  have bound := ofBytes_lt bs
  rw [h] at bound
  have value : (w64 (ofBytes bs)).toNat = ofBytes bs := Nat.mod_eq_of_lt bound
  have back := toBytes_ofBytes bs
  rwa [h, ← value] at back

/-- A bulk read of an idle die, of pages in a known state, gives the array's bytes and changes nothing. -/
theorem State.bulkWords_known {s : State} (hu : s.norUnk = []) (n : Nat) : ∀ a, a + 8 * n ≤ 0x8000000 →
    (s.bulkWords false a n).2 = s ∧
    (s.bulkWords false a n).1.flatMap (fun w => toBytes 8 w.toNat) = FMap.getList norByte s.nor a (8 * n) := by
  induction n with
  | zero => exact fun _ _ => ⟨rfl, rfl⟩
  | succ n ih =>
    intro a ha
    obtain ⟨same, bytes⟩ := ih (a + 8) (by omega)
    have word : s.norWord (a % 0x8000000) = (w64 (ofBytes (FMap.getList norByte s.nor a 8)), s) := by
      unfold State.norWord
      rw [hu, Nat.mod_eq_of_lt (by omega)]
      rfl
    have step : s.bulkWords false a (n + 1) = (w64 (ofBytes (FMap.getList norByte s.nor a 8)) :: (s.bulkWords false (a + 8) n).1,
        (s.bulkWords false (a + 8) n).2) := by
      rw [State.bulkWords]
      simp only [Bool.false_eq_true, if_false, word]
    refine ⟨by rw [step]; exact same, ?_⟩
    rw [step, List.flatMap_cons, bytes, toBytes_w64_ofBytes (FMap.length_getList _ _ _), Nat.mul_succ, Nat.add_comm (8 * n) 8,
      FMap.getList_append]

/-- Bytes written to device memory, or none. -/
theorem State.writeDram_bytes (s : State) (dst : Nat) (bs : List Byte) :
    (if bs.isEmpty then s else s.writeLoc (.dram dst) bs).dram = wrBytes s.dram dst bs := by
  cases bs with
  | nil => rfl
  | cons b bs => simp [State.writeLoc, Loc.sram]

theorem exec_patBulkReadDone {s : State} {src dst n : Nat} (hb : s.pat.bulk = some (src, dst, n, false)) (hu : s.norUnk = [])
    (hs : src + 64 * n ≤ 0x8000000) (hd : dst + 64 * n ≤ s.dramSize) : ∃ u : State, u.dram = wrBytes s.dram dst
      (FMap.getList norByte s.nor src (64 * n)) ∧ exec .patBulkReadDone s =
      .next ((((u.putPat { u.pat with bulk := none }).setRfld (sta 0x11 0x40) 20 1 0).setRfld (sta 0x11 0x40) 21 1 1).setRfld
        (sta 0x11 0x40) 22 1 0) := by
  obtain ⟨same, bytes⟩ := State.bulkWords_known hu (8 * n) src (by omega)
  have length : 8 * (8 * n) = 64 * n := by omega
  rw [length] at bytes
  have all : (FMap.getList norByte s.nor src (64 * n)).take (s.dramSize - dst) = FMap.getList norByte s.nor src (64 * n) :=
    List.take_of_length_le (by rw [FMap.length_getList]; omega)
  refine ⟨_, s.writeDram_bytes dst (FMap.getList norByte s.nor src (64 * n)), ?_⟩
  show execPatBulkReadDone s = _
  simp only [execPatBulkReadDone, hb, same, bytes, all, b2n, Bool.false_eq_true, if_false]

theorem patBulkReadDone_result {s : State} {src dst n : Nat} (hb : s.pat.bulk = some (src, dst, n, false)) (hu : s.norUnk = [])
    (hs : src + 64 * n ≤ 0x8000000) (hd : dst + 64 * n ≤ s.dramSize) : ∃ t, exec .patBulkReadDone s = .next t ∧
    t.pat.bulk = none ∧ bit (t.reg (sta 0x11 0x40)) 20 = false ∧ bit (t.reg (sta 0x11 0x40)) 21 = true ∧
    (∀ i < 64 * n, FMap.get zeroByte t.dram (dst + i) = FMap.get norByte s.nor (src + i)) ∧
    ∀ m, m < dst ∨ dst + 64 * n ≤ m → FMap.get zeroByte t.dram m = FMap.get zeroByte s.dram m := by
  obtain ⟨u, dram, step⟩ := exec_patBulkReadDone hb hu hs hd
  have length : (FMap.getList norByte s.nor src (64 * n)).length = 64 * n := FMap.length_getList _ _ _
  refine ⟨_, step, by simp, ?_, ?_, fun i hi => ?_, fun m hm => ?_⟩
  · rw [State.setRfld, State.reg_setReg_self, bit_setFld_other _ (by decide) _ (by decide), State.setRfld, State.reg_setReg_self,
      bit_setFld_other _ (by decide) _ (by decide), State.setRfld, State.reg_setReg_self, bit_setFld_same _ (by decide)]
    rfl
  · rw [State.setRfld, State.reg_setReg_self, bit_setFld_other _ (by decide) _ (by decide), State.setRfld, State.reg_setReg_self,
      bit_setFld_same _ (by decide)]
    rfl
  · simp only [State.setRfld_frame, State.putPat_frame, dram]
    refine (FMap.get_setList _ _ _ _).trans ((dif_pos (by omega)).trans ?_)
    rw [FMap.getElem_getList]
    congr 1
    omega
  · simp only [State.setRfld_frame, State.putPat_frame, dram]
    exact FMap.get_setList_out _ _ _ _ (by rwa [length])

/-! ## The statement -/

theorem exec_mediationWindowAccess {s : State} {f : Nat} {off : BitVec 16} (v : W64) (hf : s.funcExists f = true)
    (ho : off.toNat % 8 = 0) :
    exec (.mediationWindowAccess f off false v) s =
      .next (s.putOut (s.out ++ [Out.window f (if s.isPf f then s.windowRead f off.toNat else 0)])) ∧
    exec (.mediationWindowAccess f off true v) s = .next (if s.isPf f then s.windowWrite f off.toNat v else s) := by
  refine ⟨?_, ?_⟩ <;> show execMediationWindowAccess f off _ v s = _ <;>
    simp only [execMediationWindowAccess, hf, ho, and_true] <;> rfl

/-- Settles O30: each clause is the result of its row. -/
theorem registerHardwareResults : Obligations.RegisterHardwareResults := by
  refine ⟨fun _ => rfl, fun s x h hx => wsnFloorRaise_result h hx, fun s h => exec_frequencyChangeDone h,
    fun s fail count h => exec_trainingRunDone fail count h, fun s corr word arr a b hs hc hd => ⟨?_, fun harr ha hb => ?_⟩,
    fun s f off v hf ho => exec_mediationWindowAccess v hf ho, fun s pulses a hop hb h1 h2 => ⟨?_, fun h40 => ?_⟩,
    fun s pulses a hop hb h1 h2 => ⟨?_, fun h12 => ?_⟩, fun s w hw hop => exec_patRdataRead hw hop,
    fun s src dst n hb hu hs hd => patBulkReadDone_result hb hu hs hd⟩
  · exact exec_scrubDone hs hc hd rfl (congrArg w64 (by simp))
  · subst harr
    exact exec_scrubDone_stuck corr word hs hc hd ha hb
  · obtain ⟨t, step, op, count, busy, nor⟩ := patOperationDone_passes hop hb h1 h2
    refine ⟨t, step, op, count, busy, fun m => ?_⟩
    rw [nor, if_pos rfl, State.norErase_nor, State.patEnd_nor]
  · obtain ⟨t, step, op, fails, unknown⟩ := patOperationDone_fails hop hb h1 h40
    exact ⟨t, step, op, fails, fun p hp => by rw [unknown]; exact (State.norSpoil_unknown _ a).2 p hp⟩
  · obtain ⟨t, step, op, count, busy, nor⟩ := patOperationDone_passes hop hb h1 h2
    refine ⟨t, step, op, count, busy, fun m => ?_⟩
    rw [nor, if_neg Bool.false_ne_true, State.norProgram_nor, State.patEnd_nor, State.patEnd_pageBuffer]
  · obtain ⟨t, step, op, fails, unknown⟩ := patOperationDone_fails hop hb h1 h12
    exact ⟨t, step, op, fails, by rw [unknown]; exact (State.norSpoil_unknown _ a).1⟩

end Sys2Proof.Machine
end

section
/-! PROOFS. The statements of 03_transit_instruction_set.md, first part: results in a general register. -/

namespace Sys2Proof.Machine

/-! ## An instruction that writes a register (R54, R55) -/

/-- On a ready core, what an instruction computes from the core's registers is its result. -/
theorem alu_result {s : State} {c : CoreId} (h : s.Ready c) {a : GReg} {n : Nat} {f : Core → W64} {v : W64}
    (hv : f (s.core c) = v) : alu s c a n f = .next (s.result c n a v) := by
  subst hv
  exact onCore_ready _ h

/-- The field at bit 0 is the number's low bits. -/
theorem fld_zero {n : Nat} (v : BitVec n) (w : Nat) : fld v 0 w = v.toNat % 2 ^ w := by
  unfold fld
  rw [pow_zero, Nat.div_one]

/-! ## The integer instructions (R65) -/

theorem divq_eq (x y : W64) : divq x y = if y = 0 then 0 else x / y := by
  unfold divq
  split
  · next h =>
    rw [h]
    exact congrArg w64 (Nat.div_zero x.toNat)
  · exact BitVec.eq_of_toNat_eq (by
      rw [BitVec.toNat_udiv]
      exact Nat.mod_eq_of_lt (Nat.lt_of_le_of_lt (Nat.div_le_self _ _) x.isLt))

theorem modq_eq (x y : W64) : modq x y = if y = 0 then 0 else x - y * (x / y) := by
  unfold modq
  refine if_congr Iff.rfl rfl ?_
  rw [BitVec.eq_sub_iff_add_eq]
  refine BitVec.eq_of_toNat_eq ?_
  simp only [w64, BitVec.toNat_add, BitVec.toNat_ofNat, BitVec.toNat_mul, BitVec.toNat_udiv, Nat.mod_add_mod, Nat.add_mod_mod]
  rw [Nat.mod_add_div]
  exact Nat.mod_eq_of_lt x.isLt

/-- The high 16 bits replaced (lih). -/
theorem setFld_high16 (z : W64) (j : BitVec 48) :
    setFld z 48 16 (fld j 0 16) = BitVec.ofNat 64 (z.toNat % 2 ^ 48 + j.toNat % 2 ^ 16 * 2 ^ 48) := by
  unfold setFld
  rw [fld_zero, Nat.mod_mod, Nat.div_eq_of_lt (b := 2 ^ (48 + 16)) z.isLt, Nat.zero_mul, Nat.add_zero]

theorem w64b_slt (x y : W64) : w64b (x.slt y) = if x.toInt < y.toInt then 1 else 0 := by
  simp [w64b, BitVec.slt]

theorem w64b_ult (x y : W64) : w64b (x.ult y) = if x.toNat < y.toNat then 1 else 0 := by
  simp [w64b, BitVec.ult]

theorem minu_eq (x y : W64) : (if x.ult y then x else y) = BitVec.ofNat 64 (min x.toNat y.toNat) := by
  simp only [BitVec.ult, decide_eq_true_eq]
  split
  · rw [Nat.min_eq_left (by omega), BitVec.ofNat_toNat, BitVec.setWidth_eq]
  · rw [Nat.min_eq_right (by omega), BitVec.ofNat_toNat, BitVec.setWidth_eq]

theorem maxu_eq (x y : W64) : (if x.ult y then y else x) = BitVec.ofNat 64 (max x.toNat y.toNat) := by
  simp only [BitVec.ult, decide_eq_true_eq]
  split
  · rw [Nat.max_eq_right (by omega), BitVec.ofNat_toNat, BitVec.setWidth_eq]
  · rw [Nat.max_eq_left (by omega), BitVec.ofNat_toNat, BitVec.setWidth_eq]

/-- Settles O5: each instruction is one result; what its operation computes is R65's value. -/
theorem integerResults : Obligations.IntegerResults := by
  intro s c a b d i j h
  have plain : ∀ {n : Nat} {f : Core → W64}, alu s c a n f = .next (s.result c n a (f (s.core c))) := alu_result h rfl
  exact ⟨onCore_ready _ h, plain, plain, plain, plain, plain, alu_result h (divq_eq _ _), alu_result h (modq_eq _ _), plain,
    plain, plain, plain, plain, plain, alu_result h (congrArg _ (fld_zero _ 6)), alu_result h (congrArg _ (fld_zero _ 6)),
    alu_result h (congrArg _ (fld_zero _ 6)), alu_result h (congrArg _ (fld_zero _ 6)), alu_result h (congrArg _ (fld_zero _ 6)),
    alu_result h (congrArg _ (fld_zero _ 6)), plain, alu_result h (setFld_high16 _ j), alu_result h (w64b_slt _ _),
    alu_result h (w64b_ult _ _), alu_result h (minu_eq _ _), alu_result h (maxu_eq _ _), plain⟩

end Sys2Proof.Machine
end

section
/-! PROOFS. The statements of 03_transit_instruction_set.md, second part: the bit and field instructions. -/

namespace Sys2Proof.Machine

/-! ## Bits of fields -/

theorem toNat_w64 {x : Nat} (h : x < 2 ^ 64) : (w64 x).toNat = x := Nat.mod_eq_of_lt h

theorem getLsbD_w64 (x : Nat) {j : Nat} (hj : j < 64) : (w64 x).getLsbD j = x.testBit j := by
  rw [w64, BitVec.getLsbD_ofNat, decide_eq_true hj, Bool.true_and]

/-- Bit `j` of the field that ext takes. -/
theorem testBit_extField (x : W64) (i : Imm32) (j : Nat) :
    (extField x i).testBit j = (decide (j < fld i 8 6 + 1) && x.getLsbD (fld i 0 6 + j)) := by
  rw [extField, Nat.testBit_mod_two_pow, Nat.testBit_div_two_pow, Nat.add_comm j]
  rfl

/-- Sign extension copies the top bit of the field into every bit above it. -/
theorem getLsbD_sext {w : Nat} (h1 : 1 ≤ w) (h64 : w ≤ 64) (v : Nat) {j : Nat} (hj : j < 64) :
    (sext w v).getLsbD j = v.testBit (if j < w then j else w - 1) := by
  have low : ∀ i < w, (v % 2 ^ w).testBit i = v.testBit i := fun i hi => by
    rw [Nat.testBit_mod_two_pow, decide_eq_true hi, Bool.true_and]
  have top := low (w - 1) (by omega)
  have bound : v % 2 ^ w < 2 ^ w := Nat.mod_lt _ (Nat.two_pow_pos w)
  have double : 2 ^ w = 2 ^ (w - 1) * 2 := by rw [← pow_succ, Nat.sub_add_cancel h1]
  unfold sext
  dsimp only
  split
  · next positive =>
    rw [getLsbD_w64 _ hj]
    split
    · next inside => exact low j inside
    · next outside =>
      rw [← top, Nat.testBit_lt_two_pow positive]
      exact Nat.testBit_lt_two_pow (Nat.lt_of_lt_of_le bound (Nat.pow_le_pow_right (by decide) (Nat.not_lt.mp outside)))
  · next negative =>
    have ones : v % 2 ^ w + (2 ^ 64 - 2 ^ w) = 2 ^ w * (2 ^ (64 - w) - 1) + v % 2 ^ w := by
      rw [Nat.mul_sub, ← Nat.pow_add, Nat.add_sub_cancel' h64, Nat.mul_one, Nat.add_comm]
    rw [getLsbD_w64 _ hj, ones, Nat.testBit_two_pow_mul_add _ bound]
    split
    · next inside => exact low j inside
    · rw [Nat.testBit_two_pow_sub_one, decide_eq_true (by omega), ← top]
      refine (Nat.testBit_of_two_pow_le_and_two_pow_add_one_gt (Nat.not_lt.mp negative) ?_).symm
      rwa [Nat.sub_add_cancel h1]

theorem getLsbD_exts (x : W64) (i : Imm32) {j : Nat} (hj : j < 64) : (sext (fld i 8 6 + 1) (extField x i)).getLsbD j =
    if j < fld i 8 6 + 1 then x.getLsbD (fld i 0 6 + j) else x.getLsbD (fld i 0 6 + (fld i 8 6 + 1) - 1) := by
  have length := fld_lt i 8 6
  rw [getLsbD_sext (by omega) (by omega) _ hj, testBit_extField]
  split
  · next inside => rw [decide_eq_true inside, Bool.true_and]
  · rw [decide_eq_true (by omega), Bool.true_and]
    rfl

/-- ins takes the bits of its field from the value and the others from the old contents. -/
theorem getLsbD_insField (old v : W64) (i : Imm32) {j : Nat} (hj : j < 64) : (insField old v i).getLsbD j =
    if fld i 0 6 ≤ j ∧ j < fld i 0 6 + (fld i 8 6 + 1) then v.getLsbD (j - fld i 0 6) else old.getLsbD j := by
  have field : (decide (fld i 0 6 ≤ j) && decide (j - fld i 0 6 < fld i 8 6 + 1)) =
      decide (fld i 0 6 ≤ j ∧ j < fld i 0 6 + (fld i 8 6 + 1)) := by
    rw [← Bool.decide_and]
    exact decide_eq_decide.mpr (by omega)
  unfold insField
  dsimp only
  rw [BitVec.getLsbD_or, BitVec.getLsbD_and, BitVec.getLsbD_and, BitVec.getLsbD_not, getLsbD_w64 _ hj, getLsbD_w64 _ hj,
    Nat.testBit_mul_two_pow, Nat.testBit_mul_two_pow, Nat.testBit_two_pow_sub_one, field, decide_eq_true hj, Bool.true_and]
  split
  · next inside => simp [inside, BitVec.testBit_toNat]
  · next outside => simp [outside]

/-! ## Counts -/

/-- The count of leading zeros bounds the number on both sides. -/
theorem clzFrom_spec (v k : Nat) : clzFrom v k ≤ k ∧ v % 2 ^ k < 2 ^ (k - clzFrom v k) ∧
    (clzFrom v k < k → 2 ^ (k - 1 - clzFrom v k) ≤ v % 2 ^ k) := by
  induction k with
  | zero => exact ⟨Nat.le_refl 0, Nat.mod_lt _ Nat.one_pos, fun h => absurd h (Nat.not_lt_zero _)⟩
  | succ k ih =>
    obtain ⟨le, above, below⟩ := ih
    have split_top : v % 2 ^ (k + 1) = v % 2 ^ k + 2 ^ k * (v / 2 ^ k % 2) := Nat.mod_pow_succ
    unfold clzFrom
    split
    · next one =>
      rw [one, Nat.mul_one] at split_top
      exact ⟨Nat.zero_le _, Nat.mod_lt _ (Nat.two_pow_pos _), fun _ => by rw [split_top]; exact Nat.le_add_left _ _⟩
    · next zero =>
      rw [Nat.mod_two_ne_one.mp zero, Nat.mul_zero, Nat.add_zero] at split_top
      rw [split_top]
      refine ⟨by omega, ?_, fun h => ?_⟩
      · rwa [Nat.add_comm k 1, Nat.add_sub_add_left]
      · have value := below (by omega)
        rwa [show k + 1 - 1 - (1 + clzFrom v k) = k - 1 - clzFrom v k by omega]

/-- The count of trailing zeros is the place of the lowest one. -/
theorem ctzTo_spec (k : Nat) : ∀ v, ctzTo v k ≤ k ∧ (∀ j < ctzTo v k, v.testBit j = false) ∧
    (ctzTo v k < k → v.testBit (ctzTo v k) = true) := by
  induction k with
  | zero => exact fun v => ⟨Nat.le_refl 0, fun j h => absurd h (Nat.not_lt_zero j), fun h => absurd h (Nat.not_lt_zero _)⟩
  | succ k ih =>
    intro v
    obtain ⟨le, zeros, one⟩ := ih (v / 2)
    unfold ctzTo
    split
    · next odd => exact ⟨Nat.zero_le _, fun j h => absurd h (Nat.not_lt_zero j), fun _ => by rw [Nat.testBit_zero, odd]; rfl⟩
    · next even =>
      refine ⟨by omega, fun j hj => ?_, fun h => ?_⟩
      · cases j with
        | zero => rw [Nat.testBit_zero]; exact decide_eq_false even
        | succ j => rw [Nat.testBit_succ]; exact zeros j (by omega)
      · rw [Nat.add_comm, Nat.testBit_succ]
        exact one (by omega)

theorem popTo_eq (k : Nat) : ∀ v, popTo v k = ((List.range k).filter (fun j => v.testBit j)).length := by
  induction k with
  | zero => exact fun _ => rfl
  | succ k ih =>
    intro v
    have rest : ((List.range k).map Nat.succ).filter (fun j => v.testBit j) =
        ((List.range k).filter (fun j => (v / 2).testBit j)).map Nat.succ := by
      rw [List.filter_map]
      exact congrArg _ (List.filter_congr fun j _ => Nat.testBit_succ v j)
    rw [popTo, ih, List.range_succ_eq_map, List.filter_cons, rest, Nat.testBit_zero]
    split
    · next odd =>
      rw [of_decide_eq_true odd, List.length_cons, List.length_map, Nat.add_comm]
    · next even =>
      rw [Nat.mod_two_ne_one.mp (of_decide_eq_false (Bool.not_eq_true _ ▸ even)), List.length_map, Nat.zero_add]

/-! ## Bytes -/

theorem getElem_toBytes (n : Nat) : ∀ (v j : Nat) (h : j < (toBytes n v).length),
    (toBytes n v)[j] = BitVec.ofNat 8 (v / 256 ^ j) := by
  induction n with
  | zero => exact fun _ _ h => absurd h (Nat.not_lt_zero _)
  | succ n ih =>
    intro v j h
    cases j with
    | zero => rw [pow_zero, Nat.div_one]; rfl
    | succ j =>
      have inner := ih (v / 256) j (by rw [length_toBytes] at h ⊢; omega)
      rw [Nat.div_div_eq_div_mul, Nat.mul_comm, ← pow_succ] at inner
      exact inner

/-- Byte `j` of a reversed word is byte `7 - j` of the word. -/
theorem byte_bswap (x : W64) {j : Nat} (hj : j < 8) : (bswap x).toNat / 256 ^ j % 256 = x.toNat / 256 ^ (7 - j) % 256 := by
  have bytes : toBytes 8 (bswap x).toNat = (toBytes 8 x.toNat).reverse :=
    toBytes_w64_ofBytes (by rw [List.length_reverse, length_toBytes])
  have byte : (toBytes 8 (bswap x).toNat)[j]'(by rwa [length_toBytes]) =
      (toBytes 8 x.toNat).reverse[j]'(by rwa [List.length_reverse, length_toBytes]) := by simp only [bytes]
  rw [getElem_toBytes, List.getElem_reverse, getElem_toBytes] at byte
  simp only [length_toBytes] at byte
  exact congrArg BitVec.toNat byte

/-! ## CRC-32 -/

theorem crc32Bit_lt {c : Nat} (h : c < 2 ^ 32) : crc32Bit c < 2 ^ 32 := by
  unfold crc32Bit
  have half : c / 2 < 2 ^ 32 := Nat.lt_of_le_of_lt (Nat.div_le_self c 2) h
  split
  · exact Nat.xor_lt_two_pow half (by decide)
  · exact half

theorem crc32Bits_lt (k : Nat) : ∀ {c : Nat}, c < 2 ^ 32 → crc32Bits k c < 2 ^ 32 := by
  induction k with
  | zero => exact fun h => h
  | succ k ih => exact fun h => ih (crc32Bit_lt h)

theorem crc32_lt (bs : List Byte) {c : Nat} (h : c < 2 ^ 32) : crc32 c bs < 2 ^ 32 := by
  induction bs generalizing c with
  | nil => exact h
  | cons b bs ih =>
    exact ih (crc32Bits_lt 8 (Nat.xor_lt_two_pow h (Nat.lt_trans b.isLt (by decide))))

/-- Settles O6: each instruction is one result, whose bits the lemmas above give. -/
theorem bitFieldResults : Obligations.BitFieldResults := by
  intro s c a b i h
  have plain : ∀ {n : Nat} {f : Core → W64}, alu s c a n f = .next (s.result c n a (f (s.core c))) := alu_result h rfl
  have position : fld i 0 6 = i.toNat % 64 := fld_zero i 6
  dsimp only
  rw [← position]
  obtain ⟨clzLe, clzAbove, clzBelow⟩ := clzFrom_spec ((s.core c).getG b).toNat 64
  obtain ⟨ctzLe, ctzZeros, ctzOne⟩ := ctzTo_spec 64 ((s.core c).getG b).toNat
  rw [Nat.mod_eq_of_lt ((s.core c).getG b).isLt] at clzAbove clzBelow
  have crc := crc32_lt (toBytes 8 ((s.core c).getG b).toNat) (Nat.mod_lt ((s.core c).getG a).toNat (Nat.two_pow_pos 32))
  exact ⟨plain, ⟨_, plain, fun j hj => getLsbD_exts _ i hj⟩, ⟨_, plain, fun j hj => getLsbD_insField _ _ i hj⟩,
    ⟨_, plain, clzLe, clzAbove, clzBelow⟩, ⟨_, plain, ctzLe, ctzZeros, ctzOne⟩, alu_result h (congrArg w64 (popTo_eq 64 _)),
    ⟨_, plain, fun j hj => byte_bswap _ hj⟩,
    ⟨_, alu_result h (congrArg w64 (congrArg (crc32 · _) (fld_zero _ 32))),
      (toNat_w64 (Nat.lt_trans crc (by decide))).trans_lt crc, rfl⟩⟩

end Sys2Proof.Machine
end

section
/-! PROOFS. The statements of 03_transit_instruction_set.md, third part: what a result leaves alone, loads, stores and
atomics. -/

namespace Sys2Proof.Machine

/-! ## The frame of a result (R54, R55, R70) -/

theorem State.result_core (s : State) (c : CoreId) (n : Nat) (a : GReg) (v : W64) :
    (s.result c n a v).core c = ((s.core c).setG a v).retire n := (s.stepCore_core c c n _).trans (if_pos rfl)

@[simp] theorem Core.retire_getT (k : Core) (n i : Nat) : (k.retire n).getT i = k.getT i := by
  unfold Core.getT
  simp only [Core.retire_frame]

@[simp] theorem Core.retire_oc (k : Core) (n : Nat) : (k.retire n).oc = k.oc := by simp only [Core.retire_frame]

@[simp] theorem Core.setG_getT (k : Core) (a : GReg) (v : W64) (i : Nat) : (k.setG a v).getT i = k.getT i := by
  unfold Core.getT
  simp only [Core.setG_frame]

theorem Core.retire_chk_state (k : Core) (n : Nat) : (k.retire n).chk = k.chk ∧ (k.retire n).state = k.state := by
  unfold Core.retire
  simp

/-- Settles O7: a result replaces one core, whose register write, advance and charge keep the rest. -/
theorem resultFrame : Obligations.ResultFrame := by
  intro s c n a v
  dsimp only
  obtain ⟨chk, state⟩ := ((s.core c).setG a v).retire_chk_state n
  rw [State.result_core, chk, state]
  simp only [Core.retire_frame, Core.retire_getG, Core.retire_getT, Core.setG_frame, Core.setG_getT, Core.getG_setG,
    Core.getG_zero, true_and, implies_true]
  exact ⟨fun ha => if_pos ha, fun r hr => if_neg fun ⟨same, _⟩ => hr same,
    fun d hd => (s.stepCore_core c d n _).trans (if_neg hd), fun _ => rfl, rfl, rfl, rfl, rfl, rfl, rfl, rfl, rfl, rfl⟩

/-! ## Accesses (R58, R59, R61, R68) -/

theorem State.access_misaligned (s : State) (c : CoreId) (sp : Nat) {ea n : Nat} (p : Perm) (ok : Loc → Bool) (h : ea % n ≠ 0) :
    s.access c sp ea n p ok = .error 0xE4 := if_pos h

theorem State.access_refused {s : State} {c : CoreId} {sp ea n : Nat} {p : Perm} {ok : Loc → Bool} (ha : ea % n = 0)
    (h : (coreLoc c sp ea n).all (fun l => !ok l || !s.checkOk c p ea n) = true) : s.access c sp ea n p ok = .error 0xE3 := by
  unfold State.access
  rw [if_neg (not_not_intro ha)]
  cases hl : coreLoc c sp ea n with
  | none => rfl
  | some l =>
    rw [hl, Option.all_some, ← Bool.not_and, Bool.not_eq_true'] at h
    exact if_neg (Bool.not_eq_true _ ▸ h)

/-- An instruction that takes the fault of its access faults by alignment first, then by the map and the checker. -/
theorem faults_of_access {s : State} {c : CoreId} {sp ea n ch : Nat} {p : Perm} {ok : Loc → Bool} {r : Res}
    (h : ∀ e, s.access c sp ea n p ok = .error e → r = .next (s.progFault c e ch 0)) :
    (ea % n ≠ 0 → r = .next (s.progFault c 0xE4 ch 0)) ∧
    (ea % n = 0 → (coreLoc c sp ea n).all (fun l => !ok l || !s.checkOk c p ea n) = true → r = .next (s.progFault c 0xE3 ch 0)) :=
  ⟨fun misaligned => h _ (s.access_misaligned c sp p ok misaligned),
    fun aligned refused => h _ (State.access_refused aligned refused)⟩

/-! ## What a station read leaves alone (R17, R551) -/

theorem State.openRead_boot (s : State) (off : Nat) : (s.openRead off).2.boot = s.boot := by
  unfold State.openRead
  generalize s.stView off = v
  induction s.openFields off generalizing s v with
  | nil => rfl
  | cons p l ih => exact ih s.takeFree.2 _

theorem State.patRead_boot (s : State) : s.patRead.2.boot = s.boot := by
  unfold State.patRead State.patStatus State.norWord
  split
  · dsimp only
    split <;> simp
  · dsimp only
    split <;> simp

theorem State.stRead_boot (s : State) (off : Nat) : (s.stRead off).2.boot = s.boot := by
  unfold State.stRead
  split
  · rfl
  · split
    · rfl
    · split
      · exact s.patRead_boot
      · split
        · rfl
        · exact s.openRead_boot off

section
variable {s : State} {c : CoreId}

theorem State.coreTouch_clean (hs : s.sramClean) (l : Loc) (n : Nat) : s.coreTouch c l n = s := by
  unfold State.coreTouch
  split
  · exact State.sramRead_clean hs _ _ _
  · rfl

/-- Where no SRAM word holds a bit in error, no load ends in a controller fault reset. -/
theorem State.loadValue_boot (hs : s.sramClean) (l : Loc) (n : Nat) : (s.loadValue c l n).2.boot = s.boot := by
  cases l with
  | station off => exact s.stRead_boot off
  | _ =>
    show (s.coreTouch c _ _).boot = s.boot
    rw [State.coreTouch_clean hs]

theorem State.unlessReset_boot {t : State} (f : State → State) (h : t.boot = s.boot) : s.unlessReset t f = f t := by
  unfold State.unlessReset
  rw [h]
  cases s.boot.down <;> rfl

/-! ## Loads and stores (R67) -/

variable {a b : GReg} {x : BitVec 9} {i : Imm32} {n : Nat} {l : Loc} {e : Nat}

theorem load_passes (h : s.Ready c) (hx : x.toNat ≤ 2)
    (hl : s.access c x.toNat ((s.core c).effAddr b i) n .rd (loadable n) = .ok l) : load c a b x i n s =
      .next ((s.loadValue c l n).2.result c (memCharge 2 9 44 x.toNat) a (w64 (s.loadValue c l n).1)) := by
  refine (onCore_ready _ h).trans (congrArg Host.Outcome.next ?_)
  dsimp only
  rw [if_neg (Nat.not_lt.mpr hx), hl]
  exact State.unlessReset_boot _ (State.loadValue_boot h.2 l n)

theorem load_faults (h : s.Ready c) (hx : x.toNat ≤ 2)
    (he : s.access c x.toNat ((s.core c).effAddr b i) n .rd (loadable n) = .error e) :
    load c a b x i n s = .next (s.progFault c e (memCharge 2 9 44 x.toNat) 0) := by
  refine (onCore_ready _ h).trans (congrArg Host.Outcome.next ?_)
  dsimp only
  rw [if_neg (Nat.not_lt.mpr hx), he]

theorem store_passes (h : s.Ready c) (hx : x.toNat ≤ 2)
    (hl : s.access c x.toNat ((s.core c).effAddr b i) n .wr (storable n) = .ok l) : store c a b x i n s =
      .next ((s.storeValue c l n ((s.core c).getG a)).stepCore c (memCharge 1 7 42 x.toNat) id) := by
  refine (onCore_ready _ h).trans (congrArg Host.Outcome.next ?_)
  dsimp only
  rw [if_neg (Nat.not_lt.mpr hx), hl]
  rfl

theorem store_faults (h : s.Ready c) (hx : x.toNat ≤ 2)
    (he : s.access c x.toNat ((s.core c).effAddr b i) n .wr (storable n) = .error e) :
    store c a b x i n s = .next (s.progFault c e (memCharge 1 7 42 x.toNat) 0) := by
  refine (onCore_ready _ h).trans (congrArg Host.Outcome.next ?_)
  dsimp only
  rw [if_neg (Nat.not_lt.mpr hx), he]

theorem tagReg_of_lt (ha : a.toNat < 8) : tagReg a = true := decide_eq_true ha

/-- A tag register and a space that the word may name. -/
theorem tagWord_legal {m : Nat} (hx : x.toNat ≤ m) (ha : a.toNat < 8) : ¬(m < x.toNat ∨ (!tagReg a) = true) := by
  rw [tagReg_of_lt ha]
  exact fun bad => bad.elim (Nat.not_lt.mpr hx) Bool.false_ne_true

theorem tld_passes (h : s.Ready c) (hx : x.toNat ≤ 2) (ha : a.toNat < 8)
    (hl : s.access c x.toNat ((s.core c).effAddr b i) 32 .rd (loadable 32) = .ok l) : exec (.tld c a b x i) s =
      .next (s.stepCore c (memCharge 3 10 44 x.toNat)
        (fun k => k.setT a.toNat (BitVec.ofNat 256 (ofBytes (s.coreBytes c l 32))))) := by
  refine (onCore_ready _ h).trans (congrArg Host.Outcome.next ?_)
  dsimp only
  rw [if_neg (tagWord_legal hx ha), hl]
  exact State.unlessReset_boot _ (congrArg State.boot (State.coreTouch_clean h.2 _ _)) |>.trans
    (by rw [State.coreTouch_clean h.2])

theorem tld_faults (h : s.Ready c) (hx : x.toNat ≤ 2) (ha : a.toNat < 8)
    (he : s.access c x.toNat ((s.core c).effAddr b i) 32 .rd (loadable 32) = .error e) :
    exec (.tld c a b x i) s = .next (s.progFault c e (memCharge 3 10 44 x.toNat) 0) := by
  refine (onCore_ready _ h).trans (congrArg Host.Outcome.next ?_)
  dsimp only
  rw [if_neg (tagWord_legal hx ha), he]

theorem tst_passes (h : s.Ready c) (hx : x.toNat ≤ 1) (ha : a.toNat < 8)
    (hl : s.access c x.toNat ((s.core c).effAddr b i) 32 .wr (storable 32) = .ok l) : exec (.tst c a b x i) s =
      .next ((s.coreWrite c l (toBytes 32 ((s.core c).getT a.toNat).toNat)).stepCore c (memCharge 2 9 0 x.toNat) id) := by
  refine (onCore_ready _ h).trans (congrArg Host.Outcome.next ?_)
  dsimp only
  rw [if_neg (tagWord_legal hx ha), hl]
  rfl

theorem tst_faults (h : s.Ready c) (hx : x.toNat ≤ 1) (ha : a.toNat < 8)
    (he : s.access c x.toNat ((s.core c).effAddr b i) 32 .wr (storable 32) = .error e) :
    exec (.tst c a b x i) s = .next (s.progFault c e (memCharge 2 9 0 x.toNat) 0) := by
  refine (onCore_ready _ h).trans (congrArg Host.Outcome.next ?_)
  dsimp only
  rw [if_neg (tagWord_legal hx ha), he]

/-! ## Atomics (R60, R67) -/

/-- The operations of clad, clcx and clsw: the word to store, if any, and the value of gA. -/
def cladOp (d : GReg) (k : Core) (old : W64) : Option W64 × W64 := (some (old + k.getG d), old + k.getG d)
def clcxOp (a d : GReg) (k : Core) (old : W64) : Option W64 × W64 := (if old = k.getG a then some (k.getG d) else none, old)
def clswOp (d : GReg) (k : Core) (old : W64) : Option W64 × W64 := (some (k.getG d), old)

/-- What an atomic stores: its word, or nothing. -/
def State.atomicPut (s : State) (c : CoreId) (l : Loc) (v : Option W64) : State :=
  match v with
  | some v => s.coreWrite c l (toBytes 8 v.toNat)
  | none => s

theorem atomic_passes (h : s.Ready c) (f : Core → W64 → Option W64 × W64)
    (hl : s.access c 1 ((s.core c).getG b).toNat 8 .at (storable 8) = .ok l) : atomic c a b 1 s f =
      .next ((s.atomicPut c l (f (s.core c) (w64 (ofBytes (s.coreBytes c l 8)))).1).result c 10 a
        (f (s.core c) (w64 (ofBytes (s.coreBytes c l 8)))).2) := by
  refine (onCore_ready _ h).trans (congrArg Host.Outcome.next ?_)
  dsimp only
  rw [if_neg (by decide), hl]
  dsimp only
  rw [State.coreTouch_clean h.2]
  exact State.unlessReset_self _ _

theorem atomic_faults (h : s.Ready c) (f : Core → W64 → Option W64 × W64)
    (he : s.access c 1 ((s.core c).getG b).toNat 8 .at (storable 8) = .error e) :
    atomic c a b 1 s f = .next (s.progFault c e 10 0) := by
  refine (onCore_ready _ h).trans (congrArg Host.Outcome.next ?_)
  dsimp only
  rw [if_neg (by decide), he]

end

/-- Settles O8: each instruction is its load or store, whose access passes. -/
theorem loadStoreResults : Obligations.LoadStoreResults :=
  ⟨fun _ _ _ _ _ _ _ h hx => ⟨load_passes h hx, load_passes h hx, load_passes h hx, load_passes h hx,
      fun hl ha => tld_passes h hx ha hl⟩,
    fun _ _ _ _ _ _ _ h hx => ⟨store_passes h hx, store_passes h hx, store_passes h hx, store_passes h hx,
      fun hl ha hx => tst_passes h (Nat.le_of_lt_succ hx) ha hl⟩⟩

/-! ## The frame of a store (R67) -/

/-- With no flip armed, writing SRAM words repairs them and does nothing else. -/
theorem State.sramWrite_unarmed {s : State} (h : bit (s.reg (sta 0x12 0x310)) 40 = false) (arr w n : Nat) :
    ∃ m, s.sramWrite arr w n = s.putSramErr m := by
  refine ⟨s.sramErr.filter (fun p => !(decide (sramKey arr w ≤ p.1) && decide (p.1 < sramKey arr (w + n)))), ?_⟩
  have unarmed : bit ((s.putSramErr (s.sramErr.filter (fun p =>
    !(decide (sramKey arr w ≤ p.1) && decide (p.1 < sramKey arr (w + n)))))).reg (sta 0x12 0x310)) 40 = false := h
  unfold State.sramWrite
  dsimp only
  rw [unarmed]
  rfl

/-- A store of bytes in the data store replaces the data of its core. -/
theorem State.coreWrite_data {s : State} (h : bit (s.reg (sta 0x12 0x310)) 40 = false) (c : CoreId) (ea : Nat) (bs : List Byte) :
    ∃ m, s.coreWrite c (.data ea) bs =
      (s.putSramErr m).setCore c { s.core c with data := wrBytes (s.core c).data ea bs } := by
  obtain ⟨m, repaired⟩ := State.sramWrite_unarmed h (0x40 + c.toNat) (ea / 8) ((bs.length + 7) / 8)
  refine ⟨m, ?_⟩
  unfold State.coreWrite
  dsimp only
  rw [repaired]
  rfl

/-- The bytes of a number written in memory. -/
theorem get_wrBytes_toBytes (m : FMap Byte) (ea n v : Nat) {j : Nat} (hj : j < n) :
    FMap.get zeroByte (wrBytes m ea (toBytes n v)) (ea + j) = BitVec.ofNat 8 (v / 256 ^ j) := by
  have inside : ea ≤ ea + j ∧ ea + j - ea < (toBytes n v).length := by rw [length_toBytes]; omega
  refine (FMap.get_setList _ _ _ _).trans ((dif_pos inside).trans ?_)
  rw [getElem_toBytes, Nat.add_sub_cancel_left]

/-- Settles O9: the store replaces the data of one core, and nothing but the bytes it names. -/
theorem storeFrame : Obligations.StoreFrame := by
  intro s t c a b i n ins h hins hflip
  dsimp only
  intro hl ht
  have step : exec ins s = .next ((s.coreWrite c (.data ((s.core c).effAddr b i))
      (toBytes n ((s.core c).getG a).toNat)).stepCore c 1 id) := by
    rcases hins with ⟨rfl, rfl⟩ | ⟨rfl, rfl⟩ | ⟨rfl, rfl⟩ | ⟨rfl, rfl⟩ <;> exact store_passes (x := 0) h (by decide) hl
  obtain ⟨m, write⟩ := State.coreWrite_data hflip c ((s.core c).effAddr b i) (toBytes n ((s.core c).getG a).toNat)
  rw [step, write] at ht
  injection ht with ht
  subst ht
  have own := State.stepCore_core ((s.putSramErr m).setCore c
    { s.core c with data := wrBytes (s.core c).data ((s.core c).effAddr b i) (toBytes n ((s.core c).getG a).toNat) }) c
  rw [own, if_pos rfl, State.core_setCore_self]
  simp only [id, Core.retire_frame, Core.retire_getG, Core.retire_getT, true_and]
  refine ⟨fun j hj => get_wrBytes_toBytes _ _ n _ hj, fun k hk => FMap.get_setList_out _ _ _ _ (by rwa [length_toBytes]),
    rfl, rfl, rfl, rfl, fun _ => rfl, fun _ => rfl, fun d hd => ?_, fun _ => rfl⟩
  rw [own, if_neg hd, State.core_setCore_ne _ _ hd]
  rfl

/-- Settles O10: each atomic stores the word that R67 gives, or for clcx of an unequal word nothing. -/
theorem atomicResults : Obligations.AtomicResults := by
  intro s c a b d l h hl
  refine ⟨atomic_passes h (cladOp d) hl,
    (atomic_passes h (clcxOp a d) hl).trans ?_,
    atomic_passes h (clswOp d) hl⟩
  by_cases same : w64 (ofBytes (s.coreBytes c l 8)) = (s.core c).getG a
  · simp only [if_pos same, State.atomicPut, clcxOp]
  · simp only [if_neg same, State.atomicPut, clcxOp]

/-- Settles O11: each instruction takes the fault of its access, which tests alignment first. -/
theorem alignmentBeforeAccess : Obligations.AlignmentBeforeAccess := by
  intro s c a b d x i h
  have at_ : ∀ f : Core → W64 → Option W64 × W64, _ := fun f =>
    faults_of_access (r := atomic c a b 1 s f) fun _ => atomic_faults h f
  refine ⟨fun hx => ?_, fun hx ha => faults_of_access fun _ => tld_faults h hx ha,
    fun hx ha => faults_of_access fun _ => tst_faults h hx ha, at_ (cladOp d),
    at_ (clcxOp a d), at_ (clswOp d)⟩
  have ld : ∀ n, _ := fun n => faults_of_access (r := load c a b x i n s) fun _ => load_faults h hx
  have st : ∀ n, _ := fun n => faults_of_access (r := store c a b x i n s) fun _ => store_faults h hx
  exact ⟨ld 1, ld 2, ld 4, ld 8, st 1, st 2, st 4, st 8⟩

end Sys2Proof.Machine
end

section
/-! PROOFS. The statements of 03_transit_instruction_set.md, fourth part: illegal words, and the tag and system instructions. -/

namespace Sys2Proof.Machine

/-! ## Illegal words (R64, R72) -/

/-- Core `c` is in an activation of the current window (R29). -/
def State.inActivation (s : State) (c : CoreId) : Bool :=
  match (s.core c).act with
  | .idle => false
  | .faultHandler => decide (s.win = .fault)
  | _ => decide (s.win = .slot)

theorem State.runs_eq (s : State) (c : CoreId) : s.runs c = (s.corePresent c && decide ((s.core c).pc.toNat < 4096) &&
    decide ((s.core c).cycles ≤ (s.core c).bound) && s.inActivation c) := rfl

section
variable {s : State} {c : CoreId}

/-- A core in its window whose word is illegal, or which has run past the bank, takes the fault. -/
theorem exec_illegalInstruction (w : W64) (hp : s.corePresent c = true) (hw : s.inActivation c = true)
    (hb : (s.core c).cycles ≤ (s.core c).bound) (hi : 4096 ≤ (s.core c).pc.toNat ∨ legalWord w = false) :
    exec (.illegalInstruction c w) s = .next (s.unlessReset (if (s.core c).pc.toNat < 4096 then s.fetched c else s)
      (fun t => (t.setCore c ((s.core c).charge 1)).cut c 0xE2 (min (s.core c).pc.toNat 4095) 0)) := by
  have cond : (s.corePresent c && s.inActivation c && decide ((s.core c).cycles ≤ (s.core c).bound) &&
      (decide (4096 ≤ (s.core c).pc.toNat) || !legalWord w)) = true := by
    rw [hp, hw, decide_eq_true hb]
    rcases hi with past | illegal
    · rw [decide_eq_true past]; rfl
    · rw [illegal, Bool.not_false, Bool.or_true]; rfl
  exact congrArg Host.Outcome.next (if_pos cond)

end

/-- Settles O16: below the end of the bank the word's own fault, past it the fault of word 4,095. -/
theorem illegalInstructionFault : Obligations.IllegalInstructionFault := by
  intro s c w
  refine ⟨fun h illegal => ?_, fun n present slot timed bound past => ?_⟩
  · have runs := h.1
    rw [State.runs_eq, Bool.and_eq_true, Bool.and_eq_true, Bool.and_eq_true, decide_eq_true_eq, decide_eq_true_eq] at runs
    obtain ⟨⟨⟨present, pc⟩, bound⟩, window⟩ := runs
    rw [exec_illegalInstruction w present window bound (.inr illegal), if_pos pc, State.fetched, State.sramRead_clean h.2,
      State.unlessReset_self, Nat.min_eq_left (Nat.le_of_lt_succ pc)]
    rfl
  · have window : s.inActivation c = true := by
      unfold State.inActivation
      rw [timed]
      exact decide_eq_true slot
    rw [exec_illegalInstruction w present window bound (.inl past), if_neg (Nat.not_lt.mpr past), State.unlessReset_self,
      Nat.min_eq_right (Nat.le_of_succ_le past)]

/-! ## Tag instructions (R73, R74) -/

theorem tagInstr_legal {s : State} {c : CoreId} (h : s.Ready c) {legal : Bool} (hl : legal = true) (n : Nat) (f : Core → Core) :
    tagInstr s c legal n f = .next (s.stepCore c n f) := (onCore_ready _ h).trans (congrArg Host.Outcome.next (if_pos hl))

/-- A tag instruction that writes gA is one result. -/
theorem tagInstr_result {s : State} {c : CoreId} (h : s.Ready c) {legal : Bool} (hl : legal = true) (n : Nat) (a : GReg)
    (f : Core → W64) : tagInstr s c legal n (fun k => k.setG a (f k)) = .next (s.result c n a (f (s.core c))) :=
  tagInstr_legal h hl n _

theorem tagRegs_of_lt {b d : GReg} (hb : b.toNat < 8) (hd : d.toNat < 8) : (tagReg b && tagReg d) = true := by
  rw [tagReg_of_lt hb, tagReg_of_lt hd, Bool.and_self]

/-- The mask of the bits below `n` that a predicate selects. -/
def maskOf (p : Nat → Prop) [DecidablePred p] (n : Nat) : Nat := ((List.range n).map (fun i => if p i then 2 ^ i else 0)).sum

theorem maskOf_succ (p : Nat → Prop) [DecidablePred p] (n : Nat) :
    maskOf p (n + 1) = 2 ^ n * (if p n then 1 else 0) + maskOf p n := by
  rw [maskOf, List.range_succ, List.map_append, List.sum_append, List.map_singleton, List.sum_singleton, Nat.add_comm, mul_ite,
    Nat.mul_one, Nat.mul_zero]
  rfl

theorem maskOf_lt (p : Nat → Prop) [DecidablePred p] (n : Nat) : maskOf p n < 2 ^ n := by
  induction n with
  | zero => exact Nat.one_pos
  | succ n ih =>
    rw [maskOf_succ, pow_succ]
    split <;> omega

theorem testBit_maskOf (p : Nat → Prop) [DecidablePred p] (n j : Nat) :
    (maskOf p n).testBit j = (decide (j < n) && decide (p j)) := by
  induction n with
  | zero => exact Nat.zero_testBit j
  | succ n ih =>
    rw [maskOf_succ, Nat.testBit_two_pow_mul_add _ (maskOf_lt p n), ih]
    rcases Nat.lt_trichotomy j n with below | rfl | above
    · simp [below, Nat.lt_succ_of_lt below]
    · by_cases hp : p j <;> simp [hp]
    · have high : (if p n then 1 else 0).testBit (j - n) = false :=
        Nat.testBit_lt_two_pow (Nat.lt_of_le_of_lt (by split <;> decide : _ ≤ 1) (Nat.one_lt_two_pow (by omega)))
      rw [if_neg (by omega), high, decide_eq_false (by omega), Bool.false_and]

theorem tagDiff_eq (m : Nat) (x y : BitVec 256) :
    tagDiff m x y = maskOf (fun i => m / 2 ^ i % 2 = 1 ∧ tagGet x i ≠ tagGet y i) 12 := rfl

/-- The mask of differing fields has a bit for each selected field that differs. -/
theorem getLsbD_tagDiff (i : Imm32) (x y : BitVec 256) {j : Nat} (hj : j < 64) : (w64 (tagDiff (fld i 0 12) x y)).getLsbD j =
    (decide (j < 12) && i.getLsbD j && decide (tagGet x j ≠ tagGet y j)) := by
  have mask : (decide (j < 12) && decide (fld i 0 12 / 2 ^ j % 2 = 1)) = (decide (j < 12) && i.getLsbD j) := by
    rw [← Nat.testBit_eq_decide_div_mod_eq, testBit_fld, bit_eq_getLsbD, Nat.zero_add, ← Bool.and_assoc, Bool.and_self]
  rw [getLsbD_w64 _ hj, tagDiff_eq, testBit_maskOf, Bool.decide_and, ← Bool.and_assoc, mask]

theorem exec_tcmp {s : State} {c : CoreId} (h : s.Ready c) {b d : GReg} (hb : b.toNat < 8) (hd : d.toNat < 8) (a : GReg)
    (i : Imm32) : exec (.tcmp c a b d i) s =
      .next (s.result c 2 a (w64 (tagDiff (fld i 0 12) ((s.core c).getT b.toNat) ((s.core c).getT d.toNat)))) :=
  tagInstr_result h (tagRegs_of_lt hb hd) 2 a fun k => w64 (tagDiff (fld i 0 12) (k.getT b.toNat) (k.getT d.toNat))

/-! ## System instructions (R75) -/

theorem State.periodUs_bounds (s : State) : 1 ≤ s.periodUs ∧ s.periodUs ≤ 4 := by
  unfold State.periodUs
  split <;> decide

/-- The cycle that mcyc reads lies in the current window (R28). -/
theorem State.cycleNow_inWindow (s : State) : s.windowSpan.1 ≤ s.cycleNow.1.toNat ∧
    s.cycleNow.1.toNat < s.windowSpan.1 + s.windowSpan.2 := by
  obtain ⟨least, most⟩ := s.periodUs_bounds
  have span : 0 < s.windowSpan.2 ∧ s.windowSpan.1 + s.windowSpan.2 ≤ 8000 := by
    unfold State.windowSpan
    dsimp only
    split <;> dsimp only <;> omega
  have cycle := Nat.mod_lt s.takeFree.1.toNat span.1
  have value : s.cycleNow.1 = w64 (s.windowSpan.1 + s.takeFree.1.toNat % s.windowSpan.2) := rfl
  rw [value, toNat_w64 (by omega)]
  omega

/-- Settles O17: each instruction is one result or one tag write, or the fault reset of sreset. -/
theorem tagSystemResults : Obligations.TagSystemResults := by
  intro s c a b d f i h
  have plain : ∀ {n : Nat} {g : Core → W64}, alu s c a n g = .next (s.result c n a (g (s.core c))) := alu_result h rfl
  exact ⟨fun hb hf => tagInstr_legal h (by rw [tagReg_of_lt hb, hf]; rfl) _ _,
    fun ha hf => tagInstr_legal h (by rw [tagReg_of_lt ha, hf]; rfl) _ _, fun ha => tagInstr_legal h (tagReg_of_lt ha) _ _,
    fun ha hb => tagInstr_legal h (tagRegs_of_lt ha hb) _ _,
    fun hb hd => ⟨_, exec_tcmp h hb hd a i, fun j hj => getLsbD_tagDiff i _ _ hj⟩, plain, plain,
    ⟨s.cycleNow.1, onCore_ready _ h, s.cycleNow_inWindow⟩, plain, plain, onCore_ready _ h, onCore_ready _ h⟩

end Sys2Proof.Machine
end

section
/-! PROOFS. The statements of 03_transit_instruction_set.md, fifth part: rings, queue contexts and the hazard table. -/

namespace Sys2Proof.Machine

section
variable {s : State} {c : CoreId} (h : s.Ready c)
include h

/-! ## Internal rings (R95) -/

theorem exec_rpush_room (a : GReg) {b : GReg} (d : GReg) {r : RingQ} (hr : s.ringAt (fld ((s.core c).getG b) 0 12) = r)
    (hroom : r.vals.length < r.cap) : exec (.rpush c a b d) s = .next ((s.setRing (fld ((s.core c).getG b) 0 12)
      { r with vals := r.vals ++ [(s.core c).getG d] }).syncDone c 14 a 0x00 (w64 (r.vals.length + 1))) := by
  subst hr
  exact (onCore_ready _ h).trans (congrArg _ ((if_neg (Nat.ne_zero_of_lt hroom)).trans (if_neg (Nat.not_le.mpr hroom))))

theorem exec_rpush_full (a : GReg) {b : GReg} (d : GReg) {r : RingQ} (hr : s.ringAt (fld ((s.core c).getG b) 0 12) = r)
    (hcap : r.cap ≠ 0) (hfull : r.cap ≤ r.vals.length) : exec (.rpush c a b d) s = .next (s.syncFail c 14 0x13) := by
  subst hr
  exact (onCore_ready _ h).trans (congrArg _ ((if_neg hcap).trans (if_pos hfull)))

theorem exec_rpush_disabled (a : GReg) {b : GReg} (d : GReg) (hcap : (s.ringAt (fld ((s.core c).getG b) 0 12)).cap = 0) :
    exec (.rpush c a b d) s = .next (s.syncFail c 14 0x1F) :=
  (onCore_ready _ h).trans (congrArg _ (if_pos hcap))

theorem exec_rpop_oldest (a : GReg) {b : GReg} {r : RingQ} {v : W64} {vs : List W64}
    (hr : s.ringAt (fld ((s.core c).getG b) 0 12) = r) (hcap : r.cap ≠ 0) (hv : r.vals = v :: vs) : exec (.rpop c a b) s =
      .next ((s.setRing (fld ((s.core c).getG b) 0 12) { r with vals := vs }).syncDone c 14 a 0x00 v) := by
  subst hr
  refine (onCore_ready _ h).trans (congrArg _ ((if_neg hcap).trans ?_))
  rw [hv]
  rfl

theorem exec_rpop_empty (a : GReg) {b : GReg} {r : RingQ} (hr : s.ringAt (fld ((s.core c).getG b) 0 12) = r) (hcap : r.cap ≠ 0)
    (hv : r.vals = []) : exec (.rpop c a b) s = .next (s.syncFail c 14 0x14) := by
  subst hr
  refine (onCore_ready _ h).trans (congrArg _ ((if_neg hcap).trans ?_))
  rw [hv]
  rfl

theorem exec_rpop_disabled (a : GReg) {b : GReg} (hcap : (s.ringAt (fld ((s.core c).getG b) 0 12)).cap = 0) :
    exec (.rpop c a b) s = .next (s.syncFail c 14 0x1F) :=
  (onCore_ready _ h).trans (congrArg _ (if_pos hcap))

/-! ## Queue contexts (R97, R227) -/

theorem exec_qctlRead_undefined (a b d : GReg) {w : BitVec 8} (hw : 5 < w.toNat % 16 ∨ (w.toNat % 16 = 0 ∧ 7 < w.toNat / 16)) :
    exec (.qctlRead c a b d w) s = .next (s.syncFail c 46 0x1F) := by
  have op : fld w 0 4 = w.toNat % 16 := fld_zero w 4
  have word : fld w 4 4 = w.toNat / 16 := by unfold fld; omega
  refine (onCore_ready _ h).trans (congrArg _ ?_)
  dsimp only
  rw [op, word, if_neg (by omega), if_pos (by omega)]
  rfl

/-- A defined read gives the word of the context that exists. -/
theorem exec_qctlRead (a b d : GReg) {w : BitVec 8} (hop : w.toNat % 16 = 0) (hword : w.toNat / 16 ≤ 7) :
    (∀ q, bit ((s.core c).getG b) 18 = true → s.cq (fld ((s.core c).getG b) 0 18) = some q →
      exec (.qctlRead c a b d w) s = .next (s.syncDone c 46 a 0x00 (q.word (w.toNat / 16)))) ∧
    (∀ q, bit ((s.core c).getG b) 18 = false → s.sq (fld ((s.core c).getG b) 0 18) = some q →
      exec (.qctlRead c a b d w) s = .next (s.syncDone c 46 a 0x00 (q.word (w.toNat / 16)))) := by
  have op : fld w 0 4 = w.toNat % 16 := fld_zero w 4
  have word : fld w 4 4 = w.toNat / 16 := by unfold fld; omega
  refine ⟨fun q hb hq => (onCore_ready _ h).trans (congrArg _ ?_), fun q hb hq => (onCore_ready _ h).trans (congrArg _ ?_)⟩ <;>
  · dsimp only
    rw [op, word, if_neg (by omega), if_neg (by omega), hb, hq]
    rfl

theorem qctlSq_found {b : GReg} {q : SQ} (f : State → Nat → SQ → State) (hb : bit ((s.core c).getG b) 18 = false)
    (hq : s.sq (fld ((s.core c).getG b) 0 18) = some q) : qctlSq c b s f = .next (f s (fld ((s.core c).getG b) 0 18) q) := by
  refine (onCore_ready _ h).trans (congrArg _ ?_)
  dsimp only
  rw [hb, hq]
  rfl

end

/-- Settles O18: each clause is one way in which its instruction answers. -/
theorem queuePrimitiveResults : Obligations.QueuePrimitiveResults := by
  intro s c a b d w h
  exact ⟨fun room => exec_rpush_room h a d rfl room, fun cap full => exec_rpush_full h a d rfl cap full,
    fun _ _ cap vals => exec_rpop_oldest h a rfl cap vals, fun cap vals => exec_rpop_empty h a rfl cap vals,
    fun cap => ⟨exec_rpush_disabled h a d cap, exec_rpop_disabled h a cap⟩,
    fun op word completion q hq => (exec_qctlRead h a b d op word).1 q completion hq,
    fun hw => exec_qctlRead_undefined h a b d hw, fun submission q hq => ⟨fun op word => (exec_qctlRead h a b d op word).2 q submission hq,
      show execQctlPause c a b d s = _ from qctlSq_found h _ submission hq,
      show execQctlResume c a b d s = _ from qctlSq_found h _ submission hq,
      show execQctlSetOwner c a b d s = _ from qctlSq_found h _ submission hq,
      show execQctlSetLevel c a b d s = _ from qctlSq_found h _ submission hq,
      show execQctlRetire c a b d s = _ from qctlSq_found h _ submission hq⟩⟩

/-! ## The hazard table (R102, R104) -/

theorem hazFreeFrom_unused {t : List (Nat × HazEntry)} (n : Nat) : ∀ {i j : Nat}, hazFreeFrom t n i = some j →
    t.any (fun p => p.1 = j) = false := by
  induction n with
  | zero => exact fun hj => nomatch hj
  | succ n ih =>
    intro i j hj
    unfold hazFreeFrom at hj
    split at hj
    · exact ih hj
    · next free =>
      obtain rfl : i = j := Option.some.inj hj
      exact Bool.not_eq_true _ ▸ free

/-- A free index is not in use. -/
theorem State.hazAt_hazFree {s : State} {j : Nat} (hj : s.hazFree = some j) : s.hazAt j = none := by
  have unused : s.haz.any (fun p => p.1 = j) = false := by
    unfold State.hazFree at hj
    split at hj
    · exact nomatch hj
    · exact hazFreeFrom_unused _ hj
  unfold State.hazAt
  rw [List.find?_eq_none.mpr fun p hp => List.any_eq_false.mp unused p hp]
  rfl

theorem ofNat_fsn_eq_zero (y : W64) : BitVec.ofNat 32 (fld y 32 32) = 0 ↔ fld y 32 32 = 0 := by
  rw [← BitVec.toNat_inj, BitVec.toNat_ofNat, Nat.mod_eq_of_lt (fld_lt y 32 32)]
  rfl

section
variable {s : State} {c : CoreId} (h : s.Ready c)
include h

theorem exec_hzinsConfirm_armed (a : GReg) {b : GReg} (d : GReg) {j : Nat} {m : Cmd} {e : HazEntry}
    (hm : s.cmdOf ((s.core c).getG b) = some m) (hj : m.haz = some j) (he : s.hazAt j = some e) (hc : e.confirmed = false) :
    exec (.hzinsConfirm c a b d) s = .next ((s.putHaz
      (FMap.insert s.haz j { e with confirmed := true, buf := (s.core c).getG d })).syncDone c 20 a 0x00 (w64 j)) := by
  refine (onCore_ready _ h).trans (congrArg _ ?_)
  dsimp only
  rw [hm, Option.bind_some, hj]
  dsimp only
  rw [he]
  dsimp only
  rw [hc]
  rfl

theorem exec_hzinsConfirm_unknown (a : GReg) {b : GReg} (d : GReg) (hm : s.cmdOf ((s.core c).getG b) = none) :
    exec (.hzinsConfirm c a b d) s = .next (s.syncFail c 20 0x1F) := by
  refine (onCore_ready _ h).trans (congrArg _ ?_)
  dsimp only
  rw [hm]
  rfl

theorem exec_hzinsInsert_free (a b : GReg) {d : GReg} {j : Nat} (h1 : 1 ≤ fld ((s.core c).getG d) 0 17)
    (h2 : fld ((s.core c).getG d) 0 17 ≤ 65536) (hj : s.hazFree = some j) : exec (.hzinsInsert c a b d) s =
      .next (((s.putHaz (FMap.insert s.haz j (HazEntry.mk ((s.core c).getG b) (fld ((s.core c).getG d) 0 17)
        (if fld ((s.core c).getG d) 32 32 = 0 then s.lastFsn else BitVec.ofNat 32 (fld ((s.core c).getG d) 32 32)) true 0))) :
          State).syncDone c 20 a 0x00 (w64 j)) := by
  refine (onCore_ready _ h).trans (congrArg _ ?_)
  dsimp only
  rw [if_neg (by omega), hj]
  simp only [ofNat_fsn_eq_zero]
  rfl

theorem exec_hzdel_used (a : GReg) {b : GReg} {e : HazEntry} (he : s.hazAt (fld ((s.core c).getG b) 0 16) = some e) :
    exec (.hzdel c a b) s = .next (((s.putHaz (FMap.erase s.haz (fld ((s.core c).getG b) 0 16))).forgetHaz
      (fld ((s.core c).getG b) 0 16)).syncDone c 20 a 0x00 0) := by
  refine (onCore_ready _ h).trans (congrArg _ ?_)
  dsimp only
  rw [he]
  rfl

theorem exec_hzdel_unused (a : GReg) {b : GReg} (he : s.hazAt (fld ((s.core c).getG b) 0 16) = none) :
    exec (.hzdel c a b) s = .next (s.syncFail c 20 0x1F) := by
  refine (onCore_ready _ h).trans (congrArg _ ?_)
  dsimp only
  rw [he]
  rfl

end

/-! ## Write sequence numbers (R74, R199, R201) -/

theorem State.wsn_of_regs {s t : State} (h : t.regs = s.regs) : t.wsn = s.wsn := State.rfld_of_regs h hazWsn 0 56

theorem State.putIngot_regs (s : State) (m : FMap Byte) : (s.putIngot m).regs = s.regs := rfl

theorem State.wsn_le (s : State) : s.wsn ≤ wsnMax := Nat.le_of_lt_succ (fld_lt (s.reg hazWsn) 0 56)

theorem State.wsn_wsnTake (s : State) (extra : Nat) : (s.wsnTake extra).wsn = min (s.wsn + 1) wsnMax := by
  have bound := s.wsn_le
  unfold State.wsnTake
  dsimp only
  split
  · omega
  · next below =>
    have taken : ∀ t : State, (t.setRfld hazWsn 0 56 (s.wsn + 1)).wsn = min (s.wsn + 1) wsnMax := fun t => by
      have small : s.wsn + 1 < 2 ^ 56 := Nat.lt_of_le_of_lt (Nat.not_le.mp below) (by decide)
      rw [State.wsn, State.rfld_setRfld_same _ _ (by decide), Nat.mod_eq_of_lt small]
      omega
    have keep : ∀ (t : State) (m : FMap (Option Mark)),
        (if t.numberSide.isNone then t else t.putMarks m).wsn = t.wsn := fun t m => by
      split
      · rfl
      · exact State.wsn_of_regs rfl
    exact (keep _ _).trans (taken _)

/-- The counter rises by the numbers handed out, and stays at its largest value. -/
theorem State.wsn_wsnTakeN (n extra : Nat) : ∀ s : State, (s.wsnTakeN extra n).wsn = min (s.wsn + n) wsnMax := by
  induction n with
  | zero => exact fun s => (Nat.min_eq_left s.wsn_le).symm
  | succ n ih =>
    intro s
    rw [State.wsnTakeN, ih, State.wsn_wsnTake]
    omega

theorem State.wsn_wsnReserve (s : State) : s.wsnReserve.wsn = s.wsn := by
  unfold State.wsnReserve
  dsimp only
  split
  · rw [State.wsn_of_regs (State.putIngot_regs _ _)]
    exact State.rfld_setRfld_other s hazWsnRes hazWsn 0 56 _ 0 56 (by decide)
  · rfl

theorem tagGet_write_number (t : BitVec 256) {n : Nat} (hn : n < 2 ^ 56) (side : Nat) :
    tagGet (setFld (tagSet t 8 n) 12 1 side) 8 = n := by
  show fld (setFld (setFld t 128 56 n) 12 1 side) 128 56 = n
  rw [fld_setFld_other _ (by decide) _ (.inr (by decide)), fld_setFld_same _ (by decide), Nat.mod_eq_of_lt hn]

/-- A core after tseq of the numbers from `n` on, with tag `t` and on side `side` (R74, R199). -/
def Core.numbered (k : Core) (a b : GReg) (t : BitVec 256) (n side : Nat) : Core :=
  { (k.setT a.toNat (setFld (tagSet t 8 n) 12 1 side)).setG b (w64 n) with oc := 0x00 }

theorem Core.numbered_spec (k : Core) (a b : GReg) (t : BitVec 256) {n : Nat} (hn : n < 2 ^ 56) (side : Nat) :
    (k.numbered a b t n side).oc = 0x00 ∧ (b ≠ 0 → (k.numbered a b t n side).getG b = w64 n) ∧
    tagGet ((k.numbered a b t n side).getT a.toNat) 8 = n := by
  refine ⟨rfl, fun hb => (Core.getG_setG _ b b _).trans (if_pos ⟨rfl, hb⟩), ?_⟩
  have tag : (k.numbered a b t n side).getT a.toNat = setFld (tagSet t 8 n) 12 1 side :=
    (Core.setG_getT _ b _ _).trans ((Core.getT_setT _ _ _ _).trans (if_pos rfl))
  rw [tag, tagGet_write_number _ hn]

/-- tseq of 1 to 256 numbers. -/
theorem exec_tseq_hands {s : State} {c : CoreId} (h : s.Ready c) {a d : GReg} (b : GReg) (ha : a.toNat < 8)
    (h1 : 1 ≤ ((s.core c).getG d).toNat) (h2 : ((s.core c).getG d).toNat ≤ 256) : ∃ (t : State) (side : Nat),
    exec (.tseq c a b d) s = .next (t.stepCore c 20 (fun k => k.numbered a b ((s.core c).getT a.toNat) s.wsn side)) ∧
      t.wsn = min (s.wsn + ((s.core c).getG d).toNat) wsnMax := by
  refine ⟨(s.wsnTakeN (fld ((s.core c).getT a.toNat) 8 3) ((s.core c).getG d).toNat).wsnReserve,
    if s.rfld (sta 0x17 0x18) 2 2 = 2 then s.rfld (sta 0x17 0x18) 4 1 else 0, (onCore_ready _ h).trans (congrArg _ ?_), ?_⟩
  · dsimp only
    rw [tagReg_of_lt ha, if_neg (by decide), if_neg (by omega)]
    rfl
  · rw [State.wsn_wsnReserve, State.wsn_wsnTakeN]

theorem exec_tseq_range {s : State} {c : CoreId} (h : s.Ready c) {a d : GReg} (b : GReg) (ha : a.toNat < 8)
    (hn : ((s.core c).getG d).toNat = 0 ∨ 256 < ((s.core c).getG d).toNat) :
    exec (.tseq c a b d) s = .next (s.syncFail c 20 0x1F) := by
  refine (onCore_ready _ h).trans (congrArg _ ?_)
  dsimp only
  rw [tagReg_of_lt ha, if_neg (by decide), if_pos hn]
  rfl

/-- Settles O19: each clause is one way in which its instruction answers. -/
theorem hazardPrimitiveResults : Obligations.HazardPrimitiveResults := by
  intro s c a b d h
  refine ⟨fun j m e hm hj he hc => exec_hzinsConfirm_armed h a d hm hj he hc, fun hm => exec_hzinsConfirm_unknown h a d hm,
    fun h1 h2 j hj => ⟨State.hazAt_hazFree hj, exec_hzinsInsert_free h a b h1 h2 hj⟩, fun e he => exec_hzdel_used h a he,
    fun he => exec_hzdel_unused h a he, fun ha h1 h2 => ?_, fun ha hn => exec_tseq_range h b ha hn⟩
  obtain ⟨t, side, step, wsn⟩ := exec_tseq_hands h b ha h1 h2
  obtain ⟨oc, number, tag⟩ := (t.core c).numbered_spec a b ((s.core c).getT a.toNat) (Nat.lt_succ_of_le s.wsn_le) side
  refine ⟨_, step, ?_⟩
  rw [State.stepCore_core, if_pos rfl, Core.retire_oc, Core.retire_getG, Core.retire_getT]
  exact ⟨oc, number, tag, wsn⟩

end Sys2Proof.Machine
end

section
/-! PROOFS. The statements of 03_transit_instruction_set.md, sixth part: buffers, sensors, health counters and dome answers. -/

namespace Sys2Proof.Machine

/-! ## Tundish buffers (R107, R108) -/

/-- What bget takes, by its placement: on-chip first, on-chip only, or the extension only. -/
def State.place (s : State) (cls p n : Nat) : Option (W64 × State) :=
  if n = 0 then (s.alloc cls p false).or (s.alloc cls p true) else if n = 1 then s.alloc cls p false else s.alloc cls p true

section
variable {s : State} {c : CoreId} (h : s.Ready c)
include h

theorem exec_bget (a b : GReg) {i : Imm32} (h1 : 1 ≤ fld i 0 19) (h2 : fld i 0 19 ≤ 262144) (h3 : fld i 19 2 ≠ 3) :
    exec (.bget c a b i) s = .next ((s.place (fld ((s.core c).getG b) 0 6) (poolFor (fld i 0 19)) (fld i 19 2)).elim
      (s.syncFail c 14 0x10) (fun got => got.2.syncDone c 14 a 0x00 got.1)) := by
  refine (onCore_ready _ h).trans (congrArg _ ?_)
  dsimp only
  rw [if_neg (by omega)]
  unfold State.place
  generalize fld i 19 2 = n
  rcases n with _ | _ | n
  · generalize Option.or _ _ = got
    cases got <;> rfl
  · generalize s.alloc _ _ false = got
    cases got <;> rfl
  · generalize s.alloc _ _ true = got
    cases got <;> rfl

theorem exec_bget_gives (a : GReg) {b : GReg} {i : Imm32} (h1 : 1 ≤ fld i 0 19) (h2 : fld i 0 19 ≤ 262144) (h3 : fld i 19 2 ≠ 3)
    {v : W64} {t : State} (got : s.place (fld ((s.core c).getG b) 0 6) (poolFor (fld i 0 19)) (fld i 19 2) = some (v, t)) :
    exec (.bget c a b i) s = .next (t.syncDone c 14 a 0x00 v) := by
  rw [exec_bget h a b h1 h2 h3, got]
  rfl

theorem exec_bget_empty (a : GReg) {b : GReg} {i : Imm32} (h1 : 1 ≤ fld i 0 19) (h2 : fld i 0 19 ≤ 262144) (h3 : fld i 19 2 ≠ 3)
    (got : s.place (fld ((s.core c).getG b) 0 6) (poolFor (fld i 0 19)) (fld i 19 2) = none) :
    exec (.bget c a b i) s = .next (s.syncFail c 14 0x10) := by
  rw [exec_bget h a b h1 h2 h3, got]
  rfl

theorem exec_bput_held (a : GReg) {b : GReg} {x : Nat} {t : TunBuf} (hb : s.bufOf ((s.core c).getG b) = some (x, t))
    (ho : t.owner ≠ 63) : exec (.bput c a b) s = .next ((s.unref x).syncDone c 14 a 0x00 (w64 (t.refs - 1))) := by
  refine (onCore_ready _ h).trans (congrArg _ ?_)
  rw [hb]
  exact if_neg ho

theorem exec_bref_held (a : GReg) {b : GReg} {x : Nat} {t : TunBuf} (hb : s.bufOf ((s.core c).getG b) = some (x, t))
    (ho : t.owner ≠ 63) (hr : t.refs < 255) :
    exec (.bref c a b) s = .next ((s.addRef x).syncDone c 14 a 0x00 (w64 (t.refs + 1))) := by
  refine (onCore_ready _ h).trans (congrArg _ ?_)
  rw [hb]
  exact if_neg (by omega)

theorem exec_buffer_unknown (a : GReg) {b : GReg} (hb : s.bufOf ((s.core c).getG b) = none) :
    exec (.bput c a b) s = .next (s.syncFail c 14 0x17) ∧ exec (.bref c a b) s = .next (s.syncFail c 14 0x17) := by
  refine ⟨(onCore_ready _ h).trans (congrArg _ ?_), (onCore_ready _ h).trans (congrArg _ ?_)⟩ <;>
  · rw [hb]
    rfl

end

/-! ## Sensors (R141) -/

theorem State.sensor_lt {s : State} {n v st : Nat} (hv : s.sensor n = some (v, st)) : v < 65536 := by
  have fields : ∀ {r : W64} {k : Nat}, some (fld r 0 16, k) = some (v, st) → v < 65536 := fun {r} {k} e => by
    obtain ⟨rfl, -⟩ := Prod.mk.inj (Option.some.inj e)
    exact fld_lt r 0 16
  unfold State.sensor at hv
  dsimp only at hv
  split at hv
  · exact fields hv
  · split at hv
    · split at hv
      · exact fields hv
      · exact nomatch hv
    · exact nomatch hv

theorem State.freshSensor_lt {s : State} {n v : Nat} (hv : s.freshSensor n = some v) : v < 65536 := by
  obtain ⟨⟨u, st⟩, reading, fresh⟩ := Option.bind_eq_some_iff.mp hv
  split at fresh
  · rw [← Option.some.inj fresh]
    exact State.sensor_lt reading
  · exact nomatch fresh

theorem tempInt_inj {t u : Nat} (ht : t < 65536) (hu : u < 65536) (h : tempInt t = tempInt u) : t = u := by
  unfold tempInt at h
  split at h <;> split at h <;> omega

/-- The higher of the highest reading so far and the next. -/
def hotterReading (best : Option Nat) (t : Nat) : Option Nat :=
  match best with
  | none => some t
  | some b => if tempInt b < tempInt t then some t else some b

theorem State.maxSensor_eq (s : State) (ns : List Nat) :
    s.maxSensor ns = (ns.filterMap s.freshSensor).foldl hotterReading none := rfl

/-- The highest reading is one of the readings, and none is above it. -/
theorem foldl_hotterReading (l : List Nat) : ∀ b, ∃ w, l.foldl hotterReading (some b) = some w ∧ w ∈ b :: l ∧
    ∀ u ∈ b :: l, tempInt u ≤ tempInt w := by
  induction l with
  | nil => exact fun b => ⟨b, rfl, List.mem_cons_self, fun u hu => by rw [List.mem_singleton.mp hu]⟩
  | cons t l ih =>
    intro b
    have first : hotterReading (some b) t = some (if tempInt b < tempInt t then t else b) := by
      unfold hotterReading
      dsimp only
      split <;> rfl
    obtain ⟨w, result, mem, highest⟩ := ih (if tempInt b < tempInt t then t else b)
    have best := highest _ List.mem_cons_self
    have kept : (if tempInt b < tempInt t then t else b) ∈ [b, t] := by split <;> simp
    refine ⟨w, by rw [List.foldl_cons, first, result], ?_, fun u hu => ?_⟩
    · rcases List.mem_cons.mp mem with rfl | later
      · exact List.mem_append_left l kept
      · exact List.mem_cons_of_mem b (List.mem_cons_of_mem t later)
    · have either : tempInt b ≤ tempInt w ∧ tempInt t ≤ tempInt w := by split at best <;> omega
      rcases List.mem_cons.mp hu with rfl | hu
      · exact either.1
      · rcases List.mem_cons.mp hu with rfl | later
        · exact either.2
        · exact highest u (List.mem_cons_of_mem _ later)

/-- The highest of the fresh readings, when one is known to be. -/
theorem State.maxSensor_highest {s : State} {ns : List Nat} {n v : Nat} (hn : n ∈ ns) (hv : s.freshSensor n = some v)
    (hmax : ∀ m ∈ ns, ∀ u, s.freshSensor m = some u → tempInt u ≤ tempInt v) : s.maxSensor ns = some v := by
  have mem : v ∈ ns.filterMap s.freshSensor := List.mem_filterMap.mpr ⟨n, hn, hv⟩
  have all : ∀ u ∈ ns.filterMap s.freshSensor, tempInt u ≤ tempInt v ∧ u < 65536 := fun u hu => by
    obtain ⟨m, hm, reading⟩ := List.mem_filterMap.mp hu
    exact ⟨hmax m hm u reading, State.freshSensor_lt reading⟩
  rw [State.maxSensor_eq]
  cases hl : ns.filterMap s.freshSensor with
  | nil => rw [hl] at mem; exact nomatch mem
  | cons b l =>
    rw [hl] at mem all
    obtain ⟨w, result, hw, highest⟩ := foldl_hotterReading l b
    obtain ⟨above, small⟩ := all w hw
    show l.foldl hotterReading (some b) = some v
    rw [result, tempInt_inj small (State.freshSensor_lt hv) (Int.le_antisymm above (highest v mem))]

section
variable {s : State} {c : CoreId} (h : s.Ready c)
include h

theorem exec_sens_one (a : GReg) {b : GReg} (hn : ((s.core c).getG b).toNat < 24 ∨ (32 ≤ ((s.core c).getG b).toNat ∧
      ((s.core c).getG b).toNat < 288)) {v st : Nat} (hv : s.sensor ((s.core c).getG b).toNat = some (v, st)) :
    exec (.sens c a b) s = .next (if s.tick.toNat ≤ st + s.secondTicks then s.syncDone c 44 a 0x00 (sext 16 v)
      else s.syncFail c 44 0x73) := by
  have fresh : s.freshSensor ((s.core c).getG b).toNat = if s.tick.toNat ≤ st + s.secondTicks then some v else none := by
    rw [State.freshSensor, hv]
    rfl
  refine (onCore_ready _ h).trans (congrArg _ ?_)
  dsimp only
  rw [if_neg (by omega), if_neg (by omega), if_neg (by omega), fresh]
  by_cases recent : s.tick.toNat ≤ st + s.secondTicks
  · rw [if_pos recent, if_pos recent]
    rfl
  · rw [if_neg recent, if_neg recent]

theorem exec_sens_highest (a : GReg) {b : GReg} {ns : List Nat} {v : Nat}
    (hns : (((s.core c).getG b).toNat = 24 ∧ ns = List.range 24) ∨
      (((s.core c).getG b).toNat = 288 ∧ ns = (List.range 256).map (· + 32))) (hv : s.maxSensor ns = some v) :
    exec (.sens c a b) s = .next (s.syncDone c 44 a 0x00 (sext 16 v)) := by
  refine (onCore_ready _ h).trans (congrArg _ ?_)
  dsimp only
  rcases hns with ⟨die, rfl⟩ | ⟨package, rfl⟩
  · rw [die, if_neg (by decide), if_pos rfl, hv]
    rfl
  · rw [package, if_neg (by decide), if_neg (by decide), if_pos rfl, hv]
    rfl

/-! ## Health counters (R142) -/

theorem exec_hlth (a b d : GReg) : exec (.hlth c a b d) s = .next ((s.putHealth (FMap.set (fun _ => 0) s.health
    (fld ((s.core c).getG b) 0 8) (w64 (satAdd 64 (FMap.get (fun _ => (0 : W64)) s.health (fld ((s.core c).getG b) 0 8)).toNat
      ((s.core c).getG d).toNat)))).syncDone c 44 a 0x00
    (w64 (satAdd 64 (FMap.get (fun _ => (0 : W64)) s.health (fld ((s.core c).getG b) 0 8)).toNat ((s.core c).getG d).toNat))) :=
  onCore_ready _ h

/-! ## Quiesce answers (R143, R515) -/

theorem exec_vack_none (a : GReg) {b : GReg} (d : GReg)
    (hq : s.openQuiesce (fld ((s.core c).getG b) 0 16) (fld ((s.core c).getG b) 16 6) = none) :
    exec (.vack c a b d) s = .next (s.syncFail c 44 0x1F) := by
  refine (onCore_ready _ h).trans (congrArg _ ?_)
  dsimp only
  rw [hq]
  rfl

theorem exec_vack_refuses (a : GReg) {b d : GReg} {m : Nat} {e : DomeEntry} (hd : (s.core c).getG d = 0)
    (hq : s.openQuiesce (fld ((s.core c).getG b) 0 16) (fld ((s.core c).getG b) 16 6) = some (m, e)) :
    exec (.vack c a b d) s = .next ((s.abortEntry m e (fld ((s.core c).getG b) 16 6) 0).syncFail c 44 0x00) := by
  refine (onCore_ready _ h).trans (congrArg _ ?_)
  dsimp only
  rw [hq, hd]
  rfl

theorem exec_vack_agrees (a : GReg) {b d : GReg} {m : Nat} {e y : DomeEntry} (hd : (s.core c).getG d = 1)
    (hq : s.openQuiesce (fld ((s.core c).getG b) 0 16) (fld ((s.core c).getG b) 16 6) = some (m, e))
    (hy : y = { e with waiting := e.waiting.filter (· ≠ fld ((s.core c).getG b) 16 6)
                       agreed := e.agreed ++ [fld ((s.core c).getG b) 16 6] }) :
    exec (.vack c a b d) s =
      .next ((if y.waiting.isEmpty then s.tryCommit m y else s.setEntry m (some y)).syncFail c 44 0x00) := by
  subst hy
  refine (onCore_ready _ h).trans (congrArg _ ?_)
  dsimp only
  rw [hq, hd]
  rfl

end

/-- Settles O21: each clause is one way in which its instruction answers. -/
theorem bufferPrimitiveResults : Obligations.BufferPrimitiveResults := by
  intro s c a b d i h
  refine ⟨fun h1 h2 h3 => ⟨fun _ _ got => exec_bget_gives h a h1 h2 h3 got, exec_bget_empty h a h1 h2 h3⟩,
    fun _ _ hb ho => ⟨exec_bput_held h a hb ho, fun hr => exec_bref_held h a hb ho hr⟩,
    fun hb => exec_buffer_unknown h a hb, fun hn _ _ hv => exec_sens_one h a hn hv,
    fun _ _ _ hns hn hv hmax => exec_sens_highest h a hns (State.maxSensor_highest hn hv hmax), ⟨_, exec_hlth h a b d, ?_⟩,
    fun _ _ hq => ⟨fun hd => exec_vack_refuses h a hd hq, fun hd _ hy => exec_vack_agrees h a hd hq hy⟩,
    fun hq => exec_vack_none h a d hq⟩
  exact toNat_w64 (Nat.lt_of_le_of_lt (Nat.min_le_right _ _) (by decide))

end Sys2Proof.Machine
end

section
/-! PROOFS. The statements of 03_transit_instruction_set.md, seventh part: what refuses an issue, and a fill of device
memory. -/

namespace Sys2Proof.Machine

/-! ## Refusals (R61, R76, R78) -/

section
variable {s : State} {c : CoreId} {p : Prim} {i : Issue} {imm : BitVec 32} (n : Nat)

theorem State.issue_misaligned (h : ((s.core c).getG i.b).toNat % 64 ≠ 0 ∨ ((s.core c).getG i.d).toNat % 64 ≠ 0) :
    s.issue c p n i imm = s.progFault c 0xE4 n 0 := if_pos h

theorem State.issue_barred (hb : ((s.core c).getG i.b).toNat % 64 = 0) (hd : ((s.core c).getG i.d).toNat % 64 = 0)
    (h : recLoc c ((s.core c).getG i.d).toNat = none ∨ 0x10000 < ((s.core c).getG i.b).toNat + 64 ∨
      s.checkOk c .rd ((s.core c).getG i.b).toNat 64 = false ∨ s.checkOk c .wr ((s.core c).getG i.d).toNat 64 = false) :
    s.issue c p n i imm = s.progFault c 0xE3 n 0 := by
  unfold State.issue
  dsimp only
  rw [if_neg (by omega)]
  cases hl : recLoc c ((s.core c).getG i.d).toNat with
  | none => rfl
  | some l =>
    refine if_pos ?_
    rw [Bool.not_eq_true', Bool.not_eq_true']
    exact h.resolve_left (by rw [hl]; exact Option.some_ne_none l)

/-- A clean issue is refused for an absent unit before a missing credit, and for that before a full queue. -/
theorem State.issue_refused {oc : Byte} (hs : s.sramClean) (hc : s.issueClean c i)
    (h : (s.unitAbsent p (s.unitOf c p (s.issueBlock c i)) imm (s.issueBlock c i) = true ∧ oc = 0x7F) ∨
      (s.unitAbsent p (s.unitOf c p (s.issueBlock c i)) imm (s.issueBlock c i) = false ∧
        (((s.core c).freeEntries = 0 ∧ oc = 0x11) ∨
          ((s.core c).freeEntries ≠ 0 ∧ p.depth ≤ s.queued c (s.unitOf c p (s.issueBlock c i)) ∧ oc = 0x12)))) :
    s.issue c p n i imm = s.syncDone c n i.a oc 0 := by
  obtain ⟨hb, hd, hrec, hend, hrd, hwr⟩ := hc
  obtain ⟨⟨inCluster, off⟩, hloc⟩ := Option.isSome_iff_exists.mp hrec
  unfold State.issueBlock at h
  unfold State.issue
  dsimp only
  rw [if_neg (by omega), hloc]
  dsimp only
  rw [if_neg (by simp [hrd, hwr]; omega), State.sramRead_clean hs, State.unlessReset_self]
  rcases h with ⟨absent, rfl⟩ | ⟨present, ⟨empty, rfl⟩ | ⟨free, full, rfl⟩⟩
  · exact if_pos absent
  · rw [present]
    exact if_pos empty
  · rw [present]
    exact (if_neg free).trans (if_pos full)

end

/-- With a misaligned operand block, each issue instruction is an issue, whatever the block holds. -/
theorem exec_issueRow_misaligned {s : State} {c : CoreId} {i : Issue} (hr : s.Ready c)
    (hb : ((s.core c).getG i.b).toNat % 64 ≠ 0) :
    ∀ r ∈ issueRows c i, exec r.ins s = .next (s.progFault c 0xE4 r.cost 0) := by
  have plain : ∀ {ins : Instr} {p : Prim} {n : Nat} {imm : BitVec 32}, exec ins s = onCore s c (fun s => s.issue c p n i imm) →
      exec ins s = .next (s.progFault c 0xE4 n 0) :=
    fun h => (h.trans (onCore_ready _ hr)).trans (congrArg _ (State.issue_misaligned _ (.inl hb)))
  have feat : ∀ {ins : Instr} {w : Bool}, exec ins s = onCore s c (fun s => s.issueFeat c i w) →
      exec ins s = .next (s.progFault c 0xE4 8 0) :=
    fun h => ((h.trans (onCore_ready _ hr)).trans (congrArg _ (if_neg fun ⟨aligned, _⟩ => hb aligned))).trans
      (congrArg _ (State.issue_misaligned _ (.inl hb)))
  simp only [issueRows, List.forall_mem_cons]
  exact ⟨plain rfl, plain rfl, plain rfl, plain rfl, plain rfl, plain rfl, plain rfl, plain rfl, plain rfl, plain rfl,
    plain rfl, plain rfl, plain rfl, plain rfl, plain rfl, plain rfl, feat rfl, feat rfl, plain rfl, plain rfl, plain rfl,
    plain rfl, plain rfl, plain rfl, plain rfl, plain rfl, plain rfl, plain rfl, plain rfl, plain rfl, plain rfl, plain rfl,
    plain rfl, plain rfl, plain rfl, plain rfl, plain rfl, plain rfl, plain rfl, plain rfl, plain rfl, plain rfl, plain rfl,
    plain rfl, List.forall_mem_nil _⟩

/-- Settles O23: each row is an issue, and the issue refuses in the order of R76 and R78. -/
theorem issueRefusals : Obligations.IssueRefusals := by
  intro s c i r hrow hr
  refine ⟨fun hb => exec_issueRow_misaligned hr hb r hrow, fun hm => ?_⟩
  have issue : ((s.core c).getG i.b).toNat % 64 = 0 → _ := exec_issueRow i hr r hrow hm
  refine ⟨fun hd => ?_, fun hb hd h => ?_, fun hc absent => ?_, fun hc present empty => ?_, fun hc present free full => ?_⟩
  · by_cases hb : ((s.core c).getG i.b).toNat % 64 = 0
    · obtain ⟨imm, step, -⟩ := issue hb
      rw [step, State.issue_misaligned _ (.inr hd)]
    · exact exec_issueRow_misaligned hr hb r hrow
  · obtain ⟨imm, step, -⟩ := issue hb
    rw [step, State.issue_barred _ hb hd h]
  · obtain ⟨imm, step, same⟩ := issue hc.1
    rw [step, State.issue_refused _ hr.2 hc (.inl ⟨(same _ _).trans absent, rfl⟩)]
  · obtain ⟨imm, step, same⟩ := issue hc.1
    rw [step, State.issue_refused _ hr.2 hc (.inr ⟨(same _ _).trans present, .inl ⟨empty, rfl⟩⟩)]
  · obtain ⟨imm, step, same⟩ := issue hc.1
    rw [step, State.issue_refused _ hr.2 hc (.inr ⟨(same _ _).trans present, .inr ⟨free, full, rfl⟩⟩)]

/-! ## A fill of device memory (R132, R445) -/

/-- The bytes that a fill writes: `k` copies of its word. -/
def fillBytes (w k : Nat) : List Byte := (List.replicate k (toBytes 8 w)).flatten

theorem fillBytes_succ (w k : Nat) : fillBytes w (k + 1) = toBytes 8 w ++ fillBytes w k := by
  rw [fillBytes, List.replicate_succ, List.flatten_cons]
  rfl

theorem length_fillBytes (w k : Nat) : (fillBytes w k).length = 8 * k := by
  rw [fillBytes, List.length_flatten, List.map_replicate, List.sum_replicate, length_toBytes, smul_eq_mul, Nat.mul_comm]

theorem getElem?_fillBytes (w k : Nat) : ∀ i < 8 * k, (fillBytes w k)[i]? = some (BitVec.ofNat 8 (w / 256 ^ (i % 8))) := by
  induction k with
  | zero => exact fun i hi => absurd hi (Nat.not_lt_zero i)
  | succ k ih =>
    intro i hi
    rw [fillBytes_succ]
    by_cases first : i < 8
    · have inside : i < (toBytes 8 w).length := by rwa [length_toBytes]
      rw [List.getElem?_append_left inside, List.getElem?_eq_getElem inside, getElem_toBytes, Nat.mod_eq_of_lt first]
    · have place : (i - 8) % 8 = i % 8 := by omega
      rw [List.getElem?_append_right (by rw [length_toBytes]; omega), length_toBytes, ih _ (by omega), place]

theorem onReq_some {s : State} {c : CoreId} {t : Ticket} {ok : Prim → Bool} {r : Req} (f : Req → State)
    (h : s.started c t ok = some r) : onReq s c t ok f = .next (f r) := by
  unfold onReq
  rw [h]

/-- A request without buffers whose record lies in the data store completes without touching device memory. -/
theorem State.complete_dram {r : Req} (hc : r.recCluster = false) (hb : r.bufs = []) (s : State) (oc : Byte) (ws : List W64) :
    (s.complete r oc ws).dram = s.dram := by
  have record : (s.writeRecord r ws).dram = s.dram := by
    unfold State.writeRecord
    rw [hc]
    obtain ⟨-, -, dram, -⟩ := s.sramWrite_mem (0x40 + r.core.toNat) (r.recOff / 8) 8
    exact dram
  unfold State.complete
  rw [hb]
  exact record

theorem State.moverLoc_dram {s : State} {addr : W64} {n : Nat} (h : fld addr 60 4 = 1) (hn : fld addr 0 39 + n ≤ s.dramSize) :
    s.moverLoc addr n = some (.dram (fld addr 0 39)) := by
  unfold State.moverLoc
  rw [h]
  exact if_pos hn

theorem exec_fillDone {s : State} {c : CoreId} {t : Ticket} {r : Req} (hr : s.started c t (· = .dmfill) = some r)
    (space : fld (r.op 0) 60 4 = 1) (visible : fld (r.op 0) 0 39 + (r.op 1).toNat ≤ s.dramSize) : exec (.fillDone c t) s =
      .next ((s.writeLoc (.dram (fld (r.op 0) 0 39)) (fillBytes (r.op 2).toNat ((r.op 1).toNat / 8))).fail r 0x00) := by
  refine (onReq_some _ hr).trans (congrArg _ ?_)
  dsimp only
  rw [State.moverLoc_dram space visible]
  rfl

/-- Settles O42: the fill writes copies of its word at its address, and its completion writes no device memory. -/
theorem fillThenRead : Obligations.FillThenRead := by
  intro s c t r hr space
  dsimp only
  intro words visible hc hb
  have memory : ((s.writeLoc (.dram (fld (r.op 0) 0 39)) (fillBytes (r.op 2).toNat ((r.op 1).toNat / 8))).fail r 0x00).dram =
      wrBytes s.dram (fld (r.op 0) 0 39) (fillBytes (r.op 2).toNat ((r.op 1).toNat / 8)) := State.complete_dram hc hb _ _ _
  have length : (fillBytes (r.op 2).toNat ((r.op 1).toNat / 8)).length = (r.op 1).toNat := by rw [length_fillBytes]; omega
  refine ⟨_, exec_fillDone hr space visible, fun i hi => ?_, fun i hi => ?_⟩
  · obtain ⟨_, byte⟩ := List.getElem?_eq_some_iff.mp (getElem?_fillBytes (r.op 2).toNat ((r.op 1).toNat / 8) i (by omega))
    rw [memory]
    refine (FMap.get_setList _ _ _ _).trans ((dif_pos (by omega)).trans ?_)
    simp only [Nat.add_sub_cancel_left, byte]
  · rw [memory]
    exact FMap.get_setList_out _ _ _ _ (by rwa [length])

end Sys2Proof.Machine
end

section
/-! PROOFS. The statements of 04_storage_primitives.md, first part: the hazard check, ... -/

namespace Sys2Proof.Machine

/-! ## The entry fetched latest (R92, R103) -/

/-- Among numbers less than half the number space past `z`, the fetch order is the order of their distances from `z`. -/
theorem fsnBefore_iff_within {a b z : BitVec 32} (ha : (a - z).toNat < 2 ^ 31) (hb : (b - z).toNat < 2 ^ 31) :
    fsnBefore a b = true ↔ (a - z).toNat < (b - z).toNat := by
  have shift : b - a = (b - z) - (a - z) := by bv_omega
  rw [fsnBefore, shift, Bool.and_eq_true, decide_eq_true_eq, decide_eq_true_eq, BitVec.toNat_sub]
  omega

theorem foldl_laterEntry_mem (l : List (Nat × HazEntry)) : ∀ x, l.foldl laterEntry x ∈ x :: l := by
  induction l with
  | nil => exact fun x => List.mem_singleton_self x
  | cons y l ih =>
    intro x
    have later : laterEntry x y = x ∨ laterEntry x y = y := by
      unfold laterEntry
      split
      · exact .inr rfl
      · exact .inl rfl
    rcases List.mem_cons.mp (ih (laterEntry x y)) with eq | mem
    · rw [List.foldl_cons, eq]
      rcases later with h | h <;> simp [h]
    · exact List.mem_cons_of_mem x (List.mem_cons_of_mem y mem)

theorem laterEntry_within {x y : Nat × HazEntry} {z : BitVec 32} (hx : (x.2.fsn - z).toNat < 2 ^ 31)
    (hy : (y.2.fsn - z).toNat < 2 ^ 31) : (x.2.fsn - z).toNat ≤ ((laterEntry x y).2.fsn - z).toNat ∧
      (y.2.fsn - z).toNat ≤ ((laterEntry x y).2.fsn - z).toNat := by
  have order := fsnBefore_iff_within hx hy
  unfold laterEntry
  split
  · next before => exact ⟨Nat.le_of_lt (order.mp before), Nat.le_refl _⟩
  · next after => exact ⟨Nat.le_refl _, Nat.not_lt.mp fun less => after (order.mpr less)⟩

/-- The entry that hzchk names is the farthest from `z`. -/
theorem foldl_laterEntry_latest {z : BitVec 32} (l : List (Nat × HazEntry)) : ∀ x, (∀ r ∈ x :: l, (r.2.fsn - z).toNat < 2 ^ 31) →
    ∀ r ∈ x :: l, (r.2.fsn - z).toNat ≤ ((l.foldl laterEntry x).2.fsn - z).toNat := by
  induction l with
  | nil =>
    intro x _ r hr
    rw [List.mem_singleton.mp hr]
    exact Nat.le_refl _
  | cons y l ih =>
    intro x within r hr
    obtain ⟨hx, hrest⟩ := List.forall_mem_cons.mp within
    obtain ⟨hy, hl⟩ := List.forall_mem_cons.mp hrest
    obtain ⟨fromX, fromY⟩ := laterEntry_within hx hy
    have near : ((laterEntry x y).2.fsn - z).toNat < 2 ^ 31 := by
      unfold laterEntry
      split
      · exact hy
      · exact hx
    have latest := List.forall_mem_cons.mp (ih (laterEntry x y) (List.forall_mem_cons.mpr ⟨near, hl⟩))
    rcases List.mem_cons.mp hr with rfl | hr
    · exact Nat.le_trans fromX latest.1
    · rcases List.mem_cons.mp hr with rfl | hr
      · exact Nat.le_trans fromY latest.1
      · exact latest.2 r hr

/-- The fields of gA of hzchk. -/
theorem hazWord_fields {i f : Nat} (hi : i < 2 ^ 16) (hf : f < 2 ^ 32) (p q : Bool) :
    let v := w64 (i + b2n p * 2 ^ 16 + b2n q * 2 ^ 17 + f * 2 ^ 32)
    fld v 0 16 = i ∧ bit v 16 = p ∧ bit v 17 = q ∧ fld v 18 14 = 0 ∧ fld v 32 32 = f := by
  dsimp only
  have one : ∀ b : Bool, b2n b ≤ 1 ∧ decide (b2n b = 1) = b := fun b => by cases b <;> decide
  obtain ⟨hp, ep⟩ := one p
  obtain ⟨hq, eq⟩ := one q
  rw [bit_eq_fld, bit_eq_fld, fld_w64 _ (by decide), fld_w64 _ (by decide), fld_w64 _ (by decide), fld_w64 _ (by decide),
    fld_w64 _ (by decide)]
  exact ⟨by omega, (decide_eq_decide.mpr (by omega)).trans ep, (decide_eq_decide.mpr (by omega)).trans eq, by omega, by omega⟩

/-- hzchk of qualifying entries names the latest of them. -/
theorem hazResult_names {q : List (Nat × HazEntry)} (hq : q ≠ []) (hi : ∀ p ∈ q, p.1 < 65536) :
    ∃ p ∈ q, fld (hazResult q) 0 16 = p.1 ∧ bit (hazResult q) 16 = decide (p.2.buf ≠ 0) ∧
      bit (hazResult q) 17 = decide (2 ≤ q.length) ∧ fld (hazResult q) 18 14 = 0 ∧ fld (hazResult q) 32 32 = p.2.fsn.toNat ∧
      ((∃ z : BitVec 32, ∀ r ∈ q, (r.2.fsn - z).toNat < 2 ^ 31) → ∀ r ∈ q, fsnBefore p.2.fsn r.2.fsn = false) := by
  obtain ⟨x, l, rfl⟩ := List.exists_cons_of_ne_nil hq
  have mem := foldl_laterEntry_mem l x
  obtain ⟨index, buf, more, zero, fsn⟩ := hazWord_fields (hi _ mem) (l.foldl laterEntry x).2.fsn.isLt
    (decide ((l.foldl laterEntry x).2.buf ≠ 0)) (decide (l ≠ []))
  have another : decide (l ≠ []) = decide (2 ≤ (x :: l).length) := decide_eq_decide.mpr (by cases l <;> simp)
  refine ⟨_, mem, index, buf, more.trans another, zero, fsn, fun ⟨z, within⟩ r hr => ?_⟩
  rw [← Bool.not_eq_true, fsnBefore_iff_within (within _ mem) (within r hr)]
  exact Nat.not_lt.mpr (foldl_laterEntry_latest l x within r hr)

/-- Settles O20: gA is the word of the latest qualifying entry, found by one pass over the table. -/
theorem hazardCheckFindsLatest : Obligations.HazardCheckFindsLatest := by
  intro s c a b d h index
  dsimp only
  refine ⟨fun none => (onCore_ready _ h).trans (congrArg _ (if_pos none)), fun some =>
    ⟨_, (onCore_ready _ h).trans (congrArg _ (if_neg some)), ?_⟩⟩
  simp only [State.hazQualify, ofNat_fsn_eq_zero]
  exact ⟨fun empty => by rw [empty]; rfl, fun hq => hazResult_names hq fun p hp => index p (List.mem_of_mem_filter hp)⟩

end Sys2Proof.Machine
end

section
/-! PROOFS. The statements of 04_storage_primitives.md, second part: the completion gate. -/

namespace Sys2Proof.Machine

/-! ## Completion entries (R94, R100, R229) -/

/-- A completion queue after one more entry. -/
def CQ.posted (x : CQ) : CQ :=
  { x with tail := (x.tail + 1) % x.entries, phase := if x.tail + 1 = x.entries then !x.phase else x.phase,
           written := satAdd 64 x.written 1 }

/-- A completion queue on which one more claim waits. -/
def CQ.awaited (x : CQ) : CQ := { x with waiting := x.waiting + 1 }

theorem State.cq_setCq_self (s : State) (n : Nat) (x : Option CQ) : (s.setCq n x).cq n = x := by
  rw [State.cq_setCq, if_pos rfl]

@[simp] theorem State.claimEvent_none (s : State) (oc : Byte) : s.claimEvent none oc = s := rfl

@[simp] theorem State.cq_releaseEntry (s : State) (d : Cmd) (n : Nat) : (s.releaseEntry d).cq n = s.cq n := rfl

/-- Every command with the key of a replaced command is the replacement. -/
theorem State.mem_setCmd {s : State} {d e : Cmd} (he : e ∈ (s.setCmd d).cmds) (hk : e.key = d.key) : e = d := by
  obtain ⟨b, -, rfl⟩ := List.mem_map.mp he
  split at hk
  · next same => exact if_pos same
  · next other => exact absurd hk other

section
variable {s : State} {d : Cmd} {q : SQ} {x : CQ} (hq : s.sq d.sq = some q) (hx : s.cq q.cq = some x)
include hq

theorem State.settleCount_eq : s.settleCount d = s.setSq d.sq (some { q with unsettled := q.unsettled - 1 }) := by
  unfold State.settleCount
  rw [hq]

include hx

theorem State.cqRoom_eq : s.cqRoom d = !x.full := by
  unfold State.cqRoom
  rw [hq, Option.bind_some, hx]

theorem State.writeCqe_eq (dw0 dw1 : BitVec 32) (st : BitVec 15) : s.writeCqe d dw0 dw1 st =
    (s.putOut (s.out ++ (Out.cqe q.cq dw0 dw1 q.head q.hostId d.cid x.phase st ::
      (if x.ien then [Out.msix x.func x.vector] else [])))).setCq q.cq (some x.posted) := by
  unfold State.writeCqe
  rw [hq]
  dsimp only
  rw [hx]
  rfl

theorem State.cqWaiting_eq (f : Nat → Nat) : s.cqWaiting d f = s.setCq q.cq (some { x with waiting := f x.waiting }) := by
  unfold State.cqWaiting
  rw [hq]
  dsimp only
  rw [hx]

/-- With room in the completion queue, the entry is written and the entry buffer released. -/
theorem State.postEntry_room (hr : x.full = false) (dw0 dw1 : BitVec 32) (st : BitVec 15) :
    let t := s.postEntry d dw0 dw1 st none
    t.out = s.out ++ (Out.cqe q.cq dw0 dw1 q.head q.hostId d.cid x.phase st ::
      (if x.ien then [Out.msix x.func x.vector] else [])) ∧ t.cq q.cq = some x.posted ∧
    ∀ e ∈ t.cmds, e.key = d.key → e.settle = .settled (if s.gap then 4 else 5) := by
  dsimp only
  have room : s.cqRoom d = true := by rw [State.cqRoom_eq hq hx, hr]; rfl
  unfold State.postEntry
  rw [if_pos room, State.writeCqe_eq hq hx, State.claimEvent_none, State.cq_releaseEntry, State.cq_setCq_self]
  refine ⟨rfl, rfl, fun e he hk => ?_⟩
  rw [State.mem_setCmd (d := { d with settle := .settled (if s.gap then 4 else 5) }) he hk]

/-- With a full completion queue, the claim waits. -/
theorem State.postEntry_full (hr : x.full = true) (dw0 dw1 : BitVec 32) (st : BitVec 15) (req : Option (CoreId × Ticket)) :
    let t := s.postEntry d dw0 dw1 st req
    t.out = s.out ∧ t.cq q.cq = some x.awaited ∧ ∀ e ∈ t.cmds, e.key = d.key → e.settle = .space dw0 dw1 st req := by
  dsimp only
  have full : ¬ s.cqRoom d = true := by rw [State.cqRoom_eq hq hx, hr]; decide
  unfold State.postEntry
  rw [if_neg full, State.cqWaiting_eq (s := s.setCmd { d with settle := .space dw0 dw1 st req }) hq hx]
  refine ⟨rfl, State.cq_setCq_self (s.setCmd _) q.cq _, fun e he hk => ?_⟩
  rw [State.mem_setCmd (d := { d with settle := .space dw0 dw1 st req }) he hk]

end

/-- A live command, not in reset, that completes is counted as settled and posts its entry. -/
theorem State.finish_live {s : State} {d : Cmd} {q : SQ} (hl : d.settle = .live) (hr : s.inReset d = false)
    (hq : s.sq d.sq = some q) (st : BitVec 15) :
    s.finish d st = (s.setSq d.sq (some { q with unsettled := q.unsettled - 1 })).postEntry d 0 0 st none := by
  unfold State.finish State.respond
  rw [if_pos hl, hr, State.settleCount_eq hq]
  rfl

/-- Settles O34: the queue of the settled command is as it was but for its count, and has room for the entry or not. -/
theorem completionEntryWritten : Obligations.CompletionEntryWritten := by
  intro s d st q x _ hl hr hq hx
  dsimp only
  have sq : (s.setSq d.sq (some { q with unsettled := q.unsettled - 1 })).sq d.sq =
      some { q with unsettled := q.unsettled - 1 } := by rw [State.sq_setSq, if_pos rfl]
  rw [State.finish_live hl hr hq]
  refine ⟨fun room => ?_, fun full => ?_⟩
  · obtain ⟨out, cq, cmds⟩ := State.postEntry_room sq hx room 0 0 st
    exact ⟨out, ⟨_, cq, rfl, rfl, rfl⟩, cmds⟩
  · obtain ⟨out, cq, cmds⟩ := State.postEntry_full sq hx full 0 0 st none
    exact ⟨out, ⟨_, cq, rfl, rfl⟩, cmds⟩

/-! ## Fences, waiting entries, abort claims and entry buffers (R94, R99, R100, R229) -/

section
variable {s : State} {k : W64} {d : Cmd} {a b : BitVec 32} {st : BitVec 15}

theorem exec_gateFenceRelease {n m : Nat} {c : CoreId} {t : Ticket} (hd : s.cmdOf k = some d)
    (hs : d.settle = .claimed a b st n m c t) (hf : s.fenceMet n m = true) :
    exec (.gateFenceRelease k) s = .next (s.postEntry d a b st (some (c, t))) := by
  refine congrArg Host.Outcome.next ?_
  rw [hd]
  dsimp only
  rw [hs]
  exact if_pos hf

theorem exec_cqSpaceResume {q : Nat} {r : Option (CoreId × Ticket)} (hd : s.spaceWaiter q = some d)
    (hs : d.settle = .space a b st r) (hr : s.cqRoom d = true) :
    exec (.cqSpaceResume q) s = .next ((s.cqWaiting d (· - 1)).postEntry d a b st r) := by
  refine congrArg Host.Outcome.next ?_
  rw [hd]
  dsimp only
  rw [hs]
  exact if_pos hr

theorem exec_abortClaimApply {r : Req} (hh : s.heldAbort k = some r) (hd : s.cmdOf k = some d) (hl : d.settle = .live)
    (hr : s.inReset d = false) : exec (.abortClaimApply k) s =
      .next ((((((s.setReq { r with phase := .started }).settleCount d).dropHaz d).failJobs d).postEntry
        { d with haz := none, aborted := true } 0 0 0x07 (some (r.core, r.ticket))).putGateShut true) := by
  refine congrArg Host.Outcome.next ?_
  rw [hh]
  dsimp only
  unfold State.claimAbort
  rw [hd]
  dsimp only
  rw [if_pos hl, hr]
  rfl

theorem exec_entryBufferReturn (hd : s.cmdOf k = some d) (hs : d.settle = .settled 0) :
    exec (.entryBufferReturn k) s = .next ((s.dropBuf d.buf).putCmds (s.cmds.filter (fun x => x.key ≠ k))) := by
  refine congrArg Host.Outcome.next ?_
  rw [hd]
  dsimp only
  rw [hs]
  rfl

end

/-- Settles O33: each row acts on the one command that it finds. -/
theorem gateResults : Obligations.GateResults := by
  intro s k q d a b st
  refine ⟨fun n m c t hd hs hf => exec_gateFenceRelease hd hs hf, fun r hd hs hr => exec_cqSpaceResume hd hs hr,
    fun r hh hd hl hr => exec_abortClaimApply hh hd hl hr, fun hd hs => ⟨_, exec_entryBufferReturn hd hs, ?_, rfl⟩⟩
  exact List.find?_eq_none.mpr fun e he => by simpa using (List.mem_filter.mp he).2

end Sys2Proof.Machine
end

section
/-! PROOFS. The statements of 04_storage_primitives.md, third part: the map walker. -/

namespace Sys2Proof.Machine

/-! ## Commits of a placement table (R112, R117, R473) -/

/-- Appending a record changes neither device memory nor the namespaces. -/
theorem State.logAppend_frame {s v : State} {x : LogRec} {q : Nat} (h : s.logAppend x = some (q, v)) :
    v.dram = s.dram ∧ v.poison = s.poison ∧ v.ns = s.ns := by
  unfold State.logAppend at h
  split at h
  · exact nomatch h
  · obtain ⟨-, rfl⟩ := Prod.mk.inj (Option.some.inj h)
    simp only [State.setRfld_frame, State.putIngot_frame, and_self]

/-- The record that an mcommit of words `ws` appends (R473). -/
def Req.commitRecord (r : Req) (ws : List W64) : LogRec :=
  { key := r.mapKey, count := r.mapCount, kind := if bit r.imm 0 then 2 else 1, loc := if bit r.imm 0 then 0 else r.op 2,
    first := fld (r.op 3) 0 56, zoneArg := 0, words := if bit r.imm 0 then ws else [] }

section
variable {s : State} {r : Req} (hk : (s.nsAt (keyNs r.mapKey)).kind = 1) (hm : keyMeta r.mapKey = false)

theorem NsCfg.zoned_of_kind {c : NsCfg} (h : c.kind = 1) : c.zoned = false := by
  unfold NsCfg.zoned
  rw [h]
  rfl

include hk hm

/-- An mcommit in a placement table looks up its grains, appends its record and writes its words. -/
theorem State.commitThe_table (ws : List W64) : s.commitThe r ws = if s.rangeOk r.mapKey r.mapCount = false then .error 0x61 else
    (s.lookupN (keyNs r.mapKey) false (s.keyGrain r.mapKey) r.mapCount).bind fun prev =>
      (s.logAppend (r.commitRecord ws)).elim (.error 0x65) fun p =>
        ((p.2.metaFollowed (keyNs r.mapKey) (fld (r.op 3) 0 56)).tableWriteN (keyNs r.mapKey) false (s.keyGrain r.mapKey)
          ws).commitFinish r prev p.1 := by
  have table : ¬((s.nsAt (keyNs r.mapKey)).zoned = true ∧ (!keyMeta r.mapKey) = true) := by
    rw [NsCfg.zoned_of_kind hk]
    simp
  unfold State.commitThe Req.commitRecord
  dsimp only
  rw [if_neg (by rw [hk]; decide), if_neg table, hm]
  cases s.rangeOk r.mapKey r.mapCount with
  | false => rfl
  | true =>
    cases s.lookupN (keyNs r.mapKey) false (s.keyGrain r.mapKey) r.mapCount with
    | error e => rfl
    | ok prev =>
      dsimp only [Except.bind, Bool.not_true]
      cases s.logAppend _ <;> rfl

/-- What a successful mcommit has done. -/
theorem State.commitThe_ok {ws out : List W64} {u : State} {oc : Byte} (h : s.commitThe r ws = .ok (u, oc, out)) :
    ∃ prev q v, s.logAppend (r.commitRecord ws) = some (q, v) ∧
      ((v.metaFollowed (keyNs r.mapKey) (fld (r.op 3) 0 56)).tableWriteN (keyNs r.mapKey) false (s.keyGrain r.mapKey)
        ws).commitFinish r prev q = .ok (u, oc, out) := by
  rw [State.commitThe_table hk hm] at h
  split at h
  · exact nomatch h
  · cases hp : s.lookupN (keyNs r.mapKey) false (s.keyGrain r.mapKey) r.mapCount with
    | error e => exact nomatch hp ▸ h
    | ok prev =>
      rw [hp] at h
      dsimp only [Except.bind] at h
      cases hv : s.logAppend (r.commitRecord ws) with
      | none => exact nomatch hv ▸ h
      | some p =>
        rw [hv] at h
        exact ⟨prev, p.1, p.2, rfl, h⟩

end

/-- A lookup in a placement table reads the word at the grain's place. -/
theorem State.lookup_table {s : State} {n g : Nat} (hk : (s.nsAt n).kind = 1)
    (hp : s.poisoned (.dram ((s.nsAt n).baseAddr + 8 * g)) 8 = false) :
    s.lookup n false g = .ok (rdW s.dram ((s.nsAt n).baseAddr + 8 * g)) := by
  unfold State.lookup
  dsimp only
  rw [hk, hp]
  rfl

theorem rdW_wrNum_same (m : FMap Byte) (a : Nat) (w : W64) : rdW (wrBytes m a (toBytes 8 w.toNat)) a = w := by
  have bytes : rdBytes (wrBytes m a (toBytes 8 w.toNat)) a 8 = toBytes 8 w.toNat := rdBytes_wrBytes m a (toBytes 8 w.toNat)
  unfold rdW rdNum
  rw [bytes, w64_ofBytes_toBytes]

/-- A commit of one word writes it at its grain's place in the table, and changes no namespace (R117). -/
theorem State.commitThe_word {s u : State} {r : Req} {w : W64} {oc : Byte} {out : List W64}
    (hk : (s.nsAt (keyNs r.mapKey)).kind = 1) (hm : keyMeta r.mapKey = false) (hi : bit r.imm 1 = false)
    (h : s.commitThe r [w] = .ok (u, oc, out)) : u.ns = s.ns ∧ u.dram =
      wrBytes s.dram ((s.nsAt (keyNs r.mapKey)).baseAddr + 8 * s.keyGrain r.mapKey) (toBytes 8 w.toNat) := by
  obtain ⟨prev, q, v, hv, hu⟩ := State.commitThe_ok hk hm h
  obtain ⟨dram, -, ns⟩ := State.logAppend_frame hv
  generalize ht : v.metaFollowed (keyNs r.mapKey) (fld (r.op 3) 0 56) = t at hu
  have cfg : t.nsAt (keyNs r.mapKey) = s.nsAt (keyNs r.mapKey) := by
    unfold State.nsAt
    rw [← ht, ← ns]
    rfl
  have write : t.tableWriteN (keyNs r.mapKey) false (s.keyGrain r.mapKey) [w] = t.writeLoc
      (.dram ((s.nsAt (keyNs r.mapKey)).baseAddr + 8 * s.keyGrain r.mapKey)) (toBytes 8 w.toNat) := by
    rw [← cfg]
    exact if_pos (cfg ▸ hk)
  rw [write, State.commitFinish, hi] at hu
  obtain ⟨rfl, -⟩ := Prod.mk.inj (Except.ok.inj hu)
  subst ht
  exact ⟨ns, congrArg (fun m => wrBytes m _ _) dram⟩

/-- Settles O36: the commit writes one word of the table, and a lookup reads the word of its grain. -/
theorem commitThenLookup : Obligations.CommitThenLookup := by
  intro s u r w oc ws
  dsimp only
  intro hk hm h _ hi clean
  obtain ⟨ns, dram⟩ := State.commitThe_word hk hm hi h
  have cfg : u.nsAt (keyNs r.mapKey) = s.nsAt (keyNs r.mapKey) := by unfold State.nsAt; rw [ns]
  have read : ∀ g, u.poisoned (.dram ((s.nsAt (keyNs r.mapKey)).baseAddr + 8 * g)) 8 = false →
      u.lookup (keyNs r.mapKey) false g = .ok (rdW u.dram ((s.nsAt (keyNs r.mapKey)).baseAddr + 8 * g)) := by
    rw [← cfg] at hk ⊢
    exact fun g => State.lookup_table hk
  refine ⟨?_, fun g' other before after => ?_⟩
  · rw [read _ clean, dram, rdW_wrNum_same]
  · rw [read _ after, State.lookup_table hk before, dram]
    unfold rdW rdNum
    rw [rdBytes_wrBytes_out _ _ _ _ _ (by rw [length_toBytes]; omega)]

/-! ## The rows of the walker (R111 to R116, R262, R263) -/

section
variable {s : State} {c : CoreId} {t : Ticket} {r : Req} (hb : s.mapBlocked r = false)
include hb

theorem State.mapServe_free (f : State → State) : s.mapServe r f = (f (s.received r)).putNs s.ns :=
  if_neg (by rw [hb]; decide)

theorem exec_mapLookupDone (hr : s.started c t (· = .mlook) = some r) :
    exec (.mapLookupDone c t) s = .next (((s.received r).mlookDone r).putNs s.ns) :=
  (onReq_some _ hr).trans (congrArg _ (State.mapServe_free hb _))

theorem exec_mapCommitDone (hr : s.started c t (· = .mcommit) = some r) :
    exec (.mapCommitDone c t) s = .next (((s.received r).mapAnswer r ((s.received r).mcommitOp r)).putNs s.ns) :=
  (onReq_some _ hr).trans (congrArg _ (State.mapServe_free hb _))

theorem exec_mapTrimDone (hr : s.started c t (· = .mtrim) = some r) :
    exec (.mapTrimDone c t) s = .next (((s.received r).mapAnswer r ((s.received r).mtrimOp r)).putNs s.ns) :=
  (onReq_some _ hr).trans (congrArg _ (State.mapServe_free hb _))

theorem exec_zoneUpdateDone (hr : s.started c t (· = .mzone) = some r) :
    exec (.zoneUpdateDone c t) s = .next (((s.received r).mapAnswer r ((s.received r).mzoneOp r)).putNs s.ns) :=
  (onReq_some _ hr).trans (congrArg _ (State.mapServe_free hb _))

end

/-- A log record of a map request with no location words (R473). -/
def Req.record (r : Req) (kind : Nat) (loc : W64) (num : Nat) (arg : W64) : LogRec :=
  { key := r.mapKey, count := r.mapCount, kind := kind, loc := loc, first := num, zoneArg := arg, words := [] }

section
variable {v : State} {r : Req}

theorem State.mlookDone_unconfigured (hk : (v.nsAt (keyNs r.mapKey)).kind = 0) : v.mlookDone r = v.fail r 0x60 := if_pos hk

theorem State.mlookDone_beyond (hk : (v.nsAt (keyNs r.mapKey)).kind ≠ 0) (hr : v.rangeOk r.mapKey r.mapCount = false) :
    v.mlookDone r = v.fail r 0x61 := by
  unfold State.mlookDone
  rw [if_neg hk, hr]
  rfl

theorem State.mlookDone_found {ws : List W64} (hk : (v.nsAt (keyNs r.mapKey)).kind ≠ 0) (hr : v.rangeOk r.mapKey r.mapCount = true)
    (h8 : r.mapCount ≤ 8) (hw : v.lookupN (keyNs r.mapKey) (keyMeta r.mapKey) (v.keyGrain r.mapKey) r.mapCount = .ok ws) :
    v.mlookDone r = v.complete r (if ws.all (· = 0) then 0x02 else 0x00) ws := by
  unfold State.mlookDone
  dsimp only
  rw [if_neg hk, hr, hw]
  exact if_pos h8

/-- An mcommit of a placement table by one location, with no previous words asked for. -/
theorem State.mcommitOp_table {ws prev : List W64} {q : Nat} {u : State} (hk : (v.nsAt (keyNs r.mapKey)).kind = 1)
    (hm : keyMeta r.mapKey = false) (hr : v.rangeOk r.mapKey r.mapCount = true) (h0 : bit r.imm 0 = false)
    (h1 : bit r.imm 1 = false) (hw : v.commitWords r = some ws)
    (hp : v.lookupN (keyNs r.mapKey) false (v.keyGrain r.mapKey) r.mapCount = .ok prev)
    (hv : v.logAppend (r.record 1 (r.op 2) (fld (r.op 3) 0 56) 0) = some (q, u)) : v.mcommitOp r =
      .ok ((u.metaFollowed (keyNs r.mapKey) (fld (r.op 3) 0 56)).tableWriteN (keyNs r.mapKey) false (v.keyGrain r.mapKey) ws,
        0x00, [w64 q, w64 (prev.filter (· ≠ 0)).length]) := by
  have record : r.commitRecord ws = r.record 1 (r.op 2) (fld (r.op 3) 0 56) 0 := by
    unfold Req.commitRecord
    rw [h0]
    rfl
  unfold State.mcommitOp
  rw [hw]
  refine (State.commitThe_table hk hm ws).trans ?_
  rw [hr, hp, record, hv]
  unfold State.commitFinish
  dsimp only [Except.bind, Option.elim]
  rw [h1]
  rfl

theorem State.mtrimOp_table {ws : W64} {q : Nat} {u : State} (hk : (v.nsAt (keyNs r.mapKey)).kind = 1)
    (hm : keyMeta r.mapKey = false) (hr : v.rangeOk r.mapKey r.mapCount = true)
    (hw : v.mappedIn (keyNs r.mapKey) false (v.keyGrain r.mapKey) r.mapCount = (ws, v))
    (hv : v.logAppend (r.record 3 0 0 0) = some (q, u)) : v.mtrimOp r = .ok (u.tableWriteN (keyNs r.mapKey) false (v.keyGrain r.mapKey)
        (List.replicate r.mapCount 0), 0x00, [w64 q, ws]) := by
  unfold Req.record at hv
  unfold State.mtrimOp
  dsimp only
  rw [if_neg (by rw [hk]; decide), hr, hm, hw]
  dsimp only
  rw [hv, NsCfg.zoned_of_kind hk]
  rfl

/-- The first LBA that a zone operation answers for grain offset `o` of its zone (R114). -/
def State.zoneLba (v : State) (r : Req) (o : Nat) : W64 :=
  let c := v.nsAt (keyNs r.mapKey)
  let zi := v.keyGrain r.mapKey / 2 ^ c.zshift
  w64 (if c.lba16 then (zi * 2 ^ c.zshift + o) / 4 else zi * 2 ^ c.zshift + o)

/-- The zone of a zone operation (R116). -/
def State.opZone (v : State) (r : Req) : Nat :=
  (v.nsAt (keyNs r.mapKey)).firstZone + v.keyGrain r.mapKey / 2 ^ (v.nsAt (keyNs r.mapKey)).zshift

section
variable (hz : (v.nsAt (keyNs r.mapKey)).zoned = true) (hr : v.rangeOk r.mapKey 1 = true)
include hz hr

theorem State.mzoneOp_read (ho : fld r.imm 0 4 = 5) : v.mzoneOp r = .ok (v, 0x00,
    [w64 (v.zstate (v.opZone r)), w64 (v.zwp (v.opZone r)), w64 (v.zrsv (v.opZone r)), w64 (v.zcap (keyNs r.mapKey))]) := by
  unfold State.mzoneOp
  dsimp only
  rw [hz, hr, ho]
  rfl

theorem State.mzoneOp_reserve (ho : fld r.imm 0 4 = 0) (hs : v.zstate (v.opZone r) = 2 ∨ v.zstate (v.opZone r) = 3)
    (hc : v.zrsv (v.opZone r) + r.mapCount ≤ v.zcap (keyNs r.mapKey))
    (ha : r.op 2 = w64 (2 ^ 64 - 1) ∨ r.op 2 = v.zoneLba r (v.zrsv (v.opZone r))) :
    v.mzoneOp r = .ok (v.reserve (v.opZone r) r.mapCount, 0x00, [v.zoneLba r (v.zrsv (v.opZone r))]) := by
  unfold State.mzoneOp
  dsimp only
  rw [hz, hr, ho]
  exact (if_neg (not_not_intro hs)).trans ((if_neg fun ⟨wild, mine⟩ => ha.elim wild mine).trans (if_neg (Nat.not_lt.mpr hc)))

theorem State.mzoneOp_set {q : Nat} {u : State} (ho : fld r.imm 0 4 = 2)
    (hv : v.logAppend (r.record 6 0 0 (r.op 2)) = some (q, u)) : v.mzoneOp r =
      .ok (u.setZstate (v.opZone r) (fld (r.op 2) 0 4), 0x00, [w64 (u.zstate (v.opZone r))]) := by
  unfold Req.record at hv
  unfold State.mzoneOp
  dsimp only
  rw [hz, hr, ho, if_neg (by decide), if_neg (by decide)]
  rw [hv]
  rfl

end

end

/-- A completion changes neither device memory nor the ingot store. -/
theorem State.complete_stores (s : State) (r : Req) (oc : Byte) (ws : List W64) :
    (s.complete r oc ws).dram = s.dram ∧ (s.complete r oc ws).ingot = s.ingot := by
  have record : ∀ t : State, (t.writeRecord r ws).dram = t.dram ∧ (t.writeRecord r ws).ingot = t.ingot := fun t => by
    unfold State.writeRecord
    dsimp only
    split
    · obtain ⟨-, -, dram, -, ingot, -⟩ := t.sramWrite_mem (0x80 + r.core.toNat / 8) (r.recOff / 8) 8
      exact ⟨dram, ingot⟩
    · obtain ⟨-, -, dram, -, ingot, -⟩ := t.sramWrite_mem (0x40 + r.core.toNat) (r.recOff / 8) 8
      exact ⟨dram, ingot⟩
  have unref : ∀ (t : State) (a : Nat), (t.unref a).dram = t.dram ∧ (t.unref a).ingot = t.ingot := fun t a => by
    unfold State.unref
    split
    · split <;> exact ⟨rfl, rfl⟩
    · exact ⟨rfl, rfl⟩
  have buffers : ∀ (l : List Nat) (t : State), (l.foldl (fun s a => s.unref a) t).dram = t.dram ∧
      (l.foldl (fun s a => s.unref a) t).ingot = t.ingot := fun l => by
    induction l with
    | nil => exact fun t => ⟨rfl, rfl⟩
    | cons a l ih => exact fun t => ⟨(ih _).1.trans (unref t a).1, (ih _).2.trans (unref t a).2⟩
  obtain ⟨dram, ingot⟩ := buffers r.bufs (s.writeRecord r ws)
  obtain ⟨dram', ingot'⟩ := record s
  exact ⟨dram.trans dram', ingot.trans ingot'⟩

/-- Settles O35: a request that nothing holds up completes with what its operation answers. -/
theorem mapRowResults : Obligations.MapRowResults := by
  intro s c t r
  dsimp only
  intro hb
  refine ⟨fun hr => ⟨fun hk => ?_, fun hk hg => ?_, fun ws hk hg h8 hw => ?_⟩,
    fun ws prev q u hr hk hm hg h0 h1 hw hp hv => ?_, fun ws q u hr hk hm hg hw hv => ?_,
    fun hr hz hg => ⟨fun ho => ?_, fun ho hs hc ha => ?_, fun q u ho hv => ?_⟩, ?_⟩
  · rw [exec_mapLookupDone hb hr, State.mlookDone_unconfigured hk]
  · rw [exec_mapLookupDone hb hr, State.mlookDone_beyond hk hg]
  · rw [exec_mapLookupDone hb hr, State.mlookDone_found hk hg h8 hw]
  · rw [exec_mapCommitDone hb hr, State.mcommitOp_table hk hm hg h0 h1 hw hp hv]
    rfl
  · rw [exec_mapTrimDone hb hr, State.mtrimOp_table hk hm hg hw hv]
    rfl
  · rw [exec_zoneUpdateDone hb hr, State.mzoneOp_read hz hg ho]
    rfl
  · rw [exec_zoneUpdateDone hb hr, State.mzoneOp_reserve hz hg ho hs hc ha]
    rfl
  · rw [exec_zoneUpdateDone hb hr, State.mzoneOp_set hz hg ho hv]
    rfl
  · intro i op hi
    have answer : exec i s = .next (((s.received r).mapAnswer r op).putNs s.ns) := by
      rcases hi with ⟨rfl, hr, rfl⟩ | ⟨rfl, hr, rfl⟩ | ⟨rfl, hr, rfl⟩
      · exact exec_mapCommitDone hb hr
      · exact exec_mapTrimDone hb hr
      · exact exec_zoneUpdateDone hb hr
    refine ⟨fun e he => ?_, fun u oc ws he => by rw [answer, he]; rfl⟩
    subst he
    exact ⟨answer, (s.received r).complete_stores r e []⟩

end Sys2Proof.Machine
end

section
/-! PROOFS. The statements of 04_storage_primitives.md, fourth part: machine checks of the channels. -/

namespace Sys2Proof.Machine

/-! ## What the end of a verb keeps (R122, R129) -/

/-- State `t` differs from `s` by verbs that have ended: the tick, every register but that of the armed flip (R466) and a
channel `ch` without a current verb are as they were. -/
structure State.VerbsEnded (ch : Nat) (s t : State) : Prop where
  tick : t.tick = s.tick
  reg : ∀ o, o ≠ sta 0x12 0x310 → t.reg o = s.reg o
  chan : (s.chan ch).cur = none → t.chan ch = s.chan ch

namespace State.VerbsEnded

variable {ch : Nat} {s t u : State}

theorem refl (s : State) : VerbsEnded ch s s := ⟨rfl, fun _ _ => rfl, fun _ => rfl⟩

theorem trans (h : VerbsEnded ch s t) (g : VerbsEnded ch t u) : VerbsEnded ch s u where
  tick := g.tick.trans h.tick
  reg o ho := (g.reg o ho).trans (h.reg o ho)
  chan hc := (g.chan (by rw [h.chan hc]; exact hc)).trans (h.chan hc)

theorem of_eq (tick : t.tick = s.tick) (regs : t.regs = s.regs) (chans : t.chans = s.chans) : VerbsEnded ch s t :=
  ⟨tick, fun o _ => State.reg_of_regs regs o, fun _ => by unfold State.chan; rw [chans]⟩

theorem foldl {β : Type} {f : State → β → State} (hf : ∀ s x, VerbsEnded ch s (f s x)) (l : List β) :
    ∀ s, VerbsEnded ch s (l.foldl f s) := by
  induction l with
  | nil => exact refl
  | cons x l ih => exact fun s => (hf s x).trans (ih (f s x))

end State.VerbsEnded

open State (VerbsEnded)

variable {ch : Nat}

theorem State.sramWrite_ended (s : State) (arr w n : Nat) : VerbsEnded ch s (s.sramWrite arr w n) := by
  have errors : ∀ (t : State) (m : FMap Nat), VerbsEnded ch t (t.putSramErr m) := fun t m => .of_eq rfl rfl rfl
  have disarm : ∀ (t : State) (v : W64), VerbsEnded ch t (t.setReg (sta 0x12 0x310) v) := fun t v =>
    ⟨rfl, fun o ho => State.reg_setReg_ne _ _ ho, fun _ => rfl⟩
  unfold State.sramWrite
  dsimp only
  split
  · exact ((errors _ _).trans (disarm _ _)).trans (errors _ _)
  · exact errors _ _

theorem State.complete_ended (s : State) (r : Req) (oc : Byte) (ws : List W64) : VerbsEnded ch s (s.complete r oc ws) := by
  have record : VerbsEnded ch s (s.writeRecord r ws) := by
    unfold State.writeRecord
    dsimp only
    split
    · exact (s.sramWrite_ended _ _ _).trans (.of_eq rfl rfl rfl)
    · exact (s.sramWrite_ended _ _ _).trans (.of_eq rfl rfl rfl)
  have unref : ∀ (t : State) (a : Nat), VerbsEnded ch t (t.unref a) := fun t a => by
    unfold State.unref
    split
    · split <;> exact .of_eq rfl rfl rfl
    · exact .refl t
  exact (record.trans (.foldl unref r.bufs _)).trans (.of_eq rfl rfl rfl)

theorem State.verbGone_ended (s : State) (r : Req) : VerbsEnded ch s (s.verbGone r) := by
  have current : ∀ t : State, VerbsEnded ch t (if (t.chan r.chanNo).cur = some (r.core, r.ticket) then
      t.setChan r.chanNo { t.chan r.chanNo with cur := none } else t) := fun t => by
    split
    · next mine =>
      refine ⟨rfl, fun _ _ => rfl, fun hc => (State.chan_setChan _ _ _ _).trans (if_neg ?_)⟩
      rintro rfl
      exact absurd (hc.symm.trans mine) (by simp)
    · exact .refl t
  have die : ∀ (t : State) (c : Bool) (d : Die), VerbsEnded ch t (if c then t.setDie r.chanNo r.dieNo d else t) :=
    fun t c d => by
      cases c
      · exact .refl t
      · exact .of_eq rfl rfl rfl
  have gathered : VerbsEnded ch s ((s.dropAcc r).putLdpc
    ((s.dropAcc r).ldpc.filter (fun q => !(decide (q.core = r.core) && decide (q.ticket = r.ticket))))) := .of_eq rfl rfl rfl
  exact (gathered.trans (die _ _ _)).trans (current _)

/-- A verb that ends with 0x2E says nothing of its die. -/
theorem State.verbDone_ended (s : State) (r : Req) (ws : List W64) : VerbsEnded ch s (s.verbDone r 0x2E ws) :=
  (s.verbGone_ended r).trans (State.complete_ended _ r 0x2E ws)

theorem State.spoilOp_ended (s : State) (r : Req) : VerbsEnded ch s (s.spoilOp r) := by
  have frame : ∀ (t : State) (k : Nat), VerbsEnded ch t (t.setFrame k .undef) := fun _ _ => .of_eq rfl rfl rfl
  have block : ∀ (t : State) (k : Nat), VerbsEnded ch t (t.resetBlock k false) := fun _ _ => .of_eq rfl rfl rfl
  unfold State.spoilOp
  split
  · exact .foldl frame _ s
  · split
    · exact .foldl (fun t pl => block t (blkKey r.chanNo r.dieNo pl (locBlock r.loc))) _ s
    · exact .refl s

theorem State.retireDies_ended (s : State) (c : Nat) (ds : List Nat) : VerbsEnded ch s (s.retireDies c ds) := by
  unfold State.retireDies
  exact .of_eq rfl rfl rfl

theorem State.almRecord_ended (s : State) (code : Nat) (params : List W64) : VerbsEnded ch s (s.almRecord code params) := by
  unfold State.almRecord State.almQueue
  split <;> exact .of_eq rfl rfl rfl

/-! ## A held channel (R323, R358) -/

/-- The registers of a channel that becomes held. -/
def State.markHeld (s : State) (ch : Nat) : State :=
  (((s.setRfld (chReg ch 0) 22 1 1).setRfld (sta 6 0x10) ch 1 1).setRfld (sta 6 8) ch 1 0).setRfld (chReg ch 8) 0 1 0

theorem State.holdChan_ended (s : State) (ch : Nat) :
    VerbsEnded ch ((s.retireDies ch (List.range 64)).markHeld ch) (s.holdChan ch) :=
  (State.almRecord_ended _ _ _).trans (.foldl (fun s r => s.verbDone_ended r []) _ _)

/-- A channel's register of a block is not one of another block. -/
theorem chReg_ne_sta (ch : Nat) {o b p : Nat} (hb : b < 0x40) (hp : p < 0x10000) : chReg ch o ≠ sta b p := by
  unfold chReg sta
  omega

theorem chReg_ne (ch : Nat) {o p : Nat} (h : o ≠ p) : chReg ch o ≠ chReg ch p := fun e => h (Nat.add_left_cancel e)

theorem State.holdChan_held (s : State) (ch : Nat) : (s.holdChan ch).chHeld ch = true := by
  unfold State.chHeld
  rw [(s.holdChan_ended ch).reg _ (chReg_ne_sta ch (by decide) (by decide)), State.markHeld,
    State.reg_setRfld_ne _ _ _ _ (chReg_ne ch (by decide)), State.reg_setRfld_ne _ _ _ _ (chReg_ne_sta ch (by decide) (by decide)),
    State.reg_setRfld_ne _ _ _ _ (chReg_ne_sta ch (by decide) (by decide)), State.setRfld, State.reg_setReg_self]
  exact bit_setFld_same _ (by decide) 1

theorem State.markHeld_frame (s : State) (ch : Nat) : (s.markHeld ch).tick = s.tick ∧ (s.markHeld ch).chans = s.chans := by
  unfold State.markHeld
  simp only [State.setRfld_frame, and_self]

theorem State.holdChan_tick (s : State) (ch : Nat) : (s.holdChan ch).tick = s.tick := by
  rw [(s.holdChan_ended ch).tick, (State.markHeld_frame _ ch).1, (s.retireDies_ended (ch := ch) ch _).tick]

theorem State.holdChan_chan {s : State} {ch : Nat} (h : (s.chan ch).cur = none) : (s.holdChan ch).chan ch = s.chan ch := by
  have retired := (s.retireDies_ended ch (List.range 64)).chan h
  have marked : ((s.retireDies ch (List.range 64)).markHeld ch).chan ch = s.chan ch := by
    rw [← retired]
    unfold State.chan
    rw [(State.markHeld_frame _ ch).2]
  rw [(s.holdChan_ended ch).chan (by rw [marked, h]), marked]

theorem State.chRuns_of_held {s : State} {ch : Nat} (h : s.chHeld ch = true) : s.chRuns ch = false := by
  unfold State.chRuns
  rw [h, Bool.not_true, Bool.and_false, Bool.false_and]

/-! ## Machine checks (R321, R322, R541) -/

/-- The registers and the record of a machine check. -/
def State.checkNoted (s : State) (ch cause pc : Nat) : State :=
  ((((s.setRfld (chReg ch 8) 0 1 1).setRfld (chReg ch 8) 1 4 cause).countRfld (chReg ch 8) 8 8 1).setRfld (sta 6 8) ch 1 1).almRecord
    0x40 [w64 ch, w64 cause, w64 pc, 0, 0]

theorem State.checkNoted_tick (s : State) (ch cause pc : Nat) : (s.checkNoted ch cause pc).tick = s.tick := by
  unfold State.checkNoted State.countRfld
  rw [(State.almRecord_clock _ _ _).1]
  simp only [State.setRfld_frame]

theorem State.reg_almRecord (s : State) (code : Nat) (params : List W64) (o : Nat) : (s.almRecord code params).reg o = s.reg o := by
  unfold State.almRecord State.almQueue
  split <;> rfl

/-- A machine check sets LRST and its summary bit and reports its cause. -/
theorem State.checkNoted_reg (s : State) {ch cause : Nat} (pc : Nat) (hch : ch < 32) (hc : cause < 16) :
    bit ((s.checkNoted ch cause pc).reg (chReg ch 8)) 0 = true ∧ fld ((s.checkNoted ch cause pc).reg (chReg ch 8)) 1 4 = cause ∧
      bit ((s.checkNoted ch cause pc).reg (sta 6 8)) ch = true := by
  have status : ∃ x n, (s.checkNoted ch cause pc).reg (chReg ch 8) =
      setFld (setFld (setFld x 0 1 1) 1 4 cause) 8 8 n := by
    unfold State.checkNoted State.countRfld
    rw [State.reg_almRecord, State.reg_setRfld_ne _ _ _ _ (chReg_ne_sta ch (by decide) (by decide)), State.setRfld,
      State.reg_setReg_self, State.setRfld, State.reg_setReg_self, State.setRfld, State.reg_setReg_self]
    exact ⟨_, _, rfl⟩
  obtain ⟨x, n, status⟩ := status
  rw [status]
  refine ⟨?_, ?_, ?_⟩
  · rw [bit_setFld_other _ (by decide) _ (.inl (by decide)), bit_setFld_other _ (by decide) _ (.inl (by decide)),
      bit_setFld_same _ (by decide)]
    rfl
  · rw [fld_setFld_other _ (by decide) _ (.inl (by decide)), fld_setFld_same _ (by decide)]
    exact Nat.mod_eq_of_lt hc
  · unfold State.checkNoted
    rw [State.reg_almRecord, State.setRfld, State.reg_setReg_self, bit_setFld_same _ (by omega)]
    rfl

/-- The machine checks of a channel that count with one now. -/
def State.recentChecks (s : State) (ch : Nat) : List W64 :=
  (s.chan ch).checks.filter (fun t => s.tick.toNat - t.toNat < 65536)

/-- A channel after a machine check: its registers are clear but for its checks and the dies that it cut. -/
def State.checkedChan (s : State) (ch : Nat) (cut : List Nat) : Chan :=
  { chanReset ch with checks := s.recentChecks ch ++ [s.tick], cutDies := cut }

/-- On a channel that runs, a machine check ends its verbs, clears it, and holds it when it is the ninth. -/
theorem State.checkAt_running {s : State} {ch : Nat} (hr : s.chRuns ch = true) (hl : s.chReset ch = false) (cause pc : Nat) :
    ∃ (v : State) (cut : List Nat), VerbsEnded ch (s.checkNoted ch cause pc) v ∧ s.checkAt ch cause pc =
      if 8 ≤ (s.recentChecks ch).length then (v.setChan ch (s.checkedChan ch cut)).holdChan ch
      else v.setChan ch (s.checkedChan ch cut) := by
  have up : ¬(!s.chanPresent ch || s.chHeld ch || s.chReset ch) = true := by
    unfold State.chRuns at hr
    simp only [Bool.and_eq_true, Bool.not_eq_true'] at hr
    obtain ⟨⟨present, held⟩, -⟩ := hr
    rw [present, held, hl]
    decide
  have verb : ∀ (t : State) (r : Req), VerbsEnded ch t ((if r.phase = .started then t.spoilOp r else t).verbDone r 0x2E []) :=
    fun t r => by
      split
      · exact (t.spoilOp_ended r).trans (State.verbDone_ended _ r [])
      · exact t.verbDone_ended r []
  refine ⟨_, (List.range 64).filter (fun d => ((s.checkNoted ch cause pc).opNow ch d).isSome),
    .foldl verb ((s.checkNoted ch cause pc).chanVerbs ch) _, (if_neg up).trans ?_⟩
  have nine : 9 ≤ (s.recentChecks ch ++ [s.tick]).length ↔ 8 ≤ (s.recentChecks ch).length := by
    rw [List.length_append]
    exact Nat.succ_le_succ_iff
  simp only [← nine]
  rfl

/-- The state after a machine check (R322, R323). -/
theorem State.checkAt_spec {s : State} {ch cause : Nat} (hch : ch < 32) (hc : cause < 16) (hr : s.chRuns ch = true)
    (hl : s.chReset ch = false) (pc : Nat) : (s.checkAt ch cause pc).tick = s.tick ∧
      (∃ cut, (s.checkAt ch cause pc).chan ch = s.checkedChan ch cut) ∧
      ((s.recentChecks ch).length < 8 → bit ((s.checkAt ch cause pc).reg (chReg ch 8)) 0 = true ∧
        fld ((s.checkAt ch cause pc).reg (chReg ch 8)) 1 4 = cause ∧ bit ((s.checkAt ch cause pc).reg (sta 6 8)) ch = true) ∧
      (8 ≤ (s.recentChecks ch).length → (s.checkAt ch cause pc).chHeld ch = true) := by
  obtain ⟨v, cut, ended, step⟩ := State.checkAt_running hr hl cause pc
  have tick : v.tick = s.tick := ended.tick.trans (s.checkNoted_tick ch cause pc)
  have chan : (v.setChan ch (s.checkedChan ch cut)).chan ch = s.checkedChan ch cut := State.chan_setChan_self _ _ _
  obtain ⟨lrst, report, summary⟩ := s.checkNoted_reg pc hch hc
  rw [step]
  by_cases hn : 8 ≤ (s.recentChecks ch).length
  · rw [if_pos hn]
    exact ⟨(State.holdChan_tick _ ch).trans tick, ⟨cut, (State.holdChan_chan (by rw [chan]; rfl)).trans chan⟩,
      fun few => absurd hn (Nat.not_le.mpr few), fun _ => State.holdChan_held _ ch⟩
  · rw [if_neg hn]
    refine ⟨tick, ⟨cut, chan⟩, fun _ => ?_, fun many => absurd many hn⟩
    have reg : ∀ o, o ≠ sta 0x12 0x310 → (v.setChan ch (s.checkedChan ch cut)).reg o = (s.checkNoted ch cause pc).reg o := ended.reg
    rw [reg _ (chReg_ne_sta ch (by decide) (by decide)), reg _ (by decide)]
    exact ⟨lrst, report, summary⟩

/-! ## The local reset (R184, R185, R322) -/

theorem State.foldl_setReg_other {o : Nat} (l : List Nat) (f : Nat → Nat) (v : State → Nat → W64) (hf : ∀ i, f i ≠ o) :
    ∀ s : State, (l.foldl (fun s i => s.setReg (f i) (v s i)) s).reg o = s.reg o := by
  induction l with
  | nil => exact fun _ => rfl
  | cons i l ih => exact fun s => (ih _).trans (State.reg_setReg_ne _ _ (Ne.symm (hf i)))

/-- The patch copy writes no register of the channel below 0x600, and none of another block. -/
theorem State.writePatch_reg (s : State) (ch : Nat) {o : Nat} (ho : ∀ p, 0x600 ≤ p → chReg ch p ≠ o) :
    (s.writePatch ch).reg o = s.reg o := by
  unfold State.writePatch
  dsimp only
  rw [State.foldl_setReg_other _ _ _ fun i => ho _ (by omega), State.foldl_setReg_other _ _ _ fun i => ho _ (by omega),
    State.foldl_setReg_other _ _ _ fun i => ho _ (by omega), State.foldl_setReg_other _ _ _ fun i => ho _ (by omega)]

theorem State.patchedChan_regs (s : State) (ch n : Nat) (xs : List Out) (x : Chan) :
    (((s.bus xs).forgetSets ch).setChan n x).regs = s.regs := rfl

/-- After a local reset with a good patch copy the channel runs. -/
theorem State.localReset_ends {s : State} {ch : Nat} (hp : s.chanPresent ch = true) (hl : s.chReset ch = true)
    (hh : s.chHeld ch = false) (hok : s.patchRecOk ch = true) : ∃ v : State, exec (.localResetDone ch) s = .next v ∧
      v.chReset ch = false ∧ v.chRuns ch = true := by
  obtain ⟨w, regs, step⟩ : ∃ w : State, w.regs = (s.writePatch ch).regs ∧ exec (.localResetDone ch) s =
      .next ((w.setRfld (chReg ch 8) 0 1 0).setRfld (sta 6 8) ch 1 0) :=
    ⟨_, State.patchedChan_regs _ _ _ _ _, congrArg Host.Outcome.next
      ((if_neg (by rw [hl]; decide)).trans (if_neg (by rw [hok]; decide)))⟩
  have reg : ∀ o, o ≠ sta 6 8 → o ≠ chReg ch 8 → (∀ p, 0x600 ≤ p → chReg ch p ≠ o) →
      ((w.setRfld (chReg ch 8) 0 1 0).setRfld (sta 6 8) ch 1 0).reg o = s.reg o := fun o h6 h8 ho => by
    rw [State.reg_setRfld_ne _ _ _ _ h6, State.reg_setRfld_ne _ _ _ _ h8, State.reg_of_regs regs, State.writePatch_reg s ch ho]
  have lrst : ((w.setRfld (chReg ch 8) 0 1 0).setRfld (sta 6 8) ch 1 0).chReset ch = false := by
    unfold State.chReset
    rw [State.reg_setRfld_ne _ _ _ _ (chReg_ne_sta ch (by decide) (by decide)), State.setRfld, State.reg_setReg_self]
    exact bit_setFld_same _ (by decide) 0
  refine ⟨_, step, lrst, ?_⟩
  have present : ((w.setRfld (chReg ch 8) 0 1 0).setRfld (sta 6 8) ch 1 0).chanPresent ch = true := by
    unfold State.chanPresent State.presence at hp ⊢
    rw [reg _ (by decide) (Ne.symm (chReg_ne_sta ch (by decide) (by decide))) fun p _ => chReg_ne_sta ch (by decide) (by decide)]
    exact hp
  have held : ((w.setRfld (chReg ch 8) 0 1 0).setRfld (sta 6 8) ch 1 0).chHeld ch = false := by
    unfold State.chHeld at hh ⊢
    rw [reg _ (chReg_ne_sta ch (by decide) (by decide)) (chReg_ne ch (by decide)) fun p h => chReg_ne ch (by omega)]
    exact hh
  unfold State.chRuns
  rw [present, held, lrst]
  rfl

theorem exec_localResetDone_bad {s : State} {ch : Nat} (hl : s.chReset ch = true) (hok : s.patchRecOk ch = false) :
    exec (.localResetDone ch) s = .next (s.holdChan ch) :=
  congrArg Host.Outcome.next ((if_neg (by rw [hl]; decide)).trans (if_pos (by rw [hok]; rfl)))

/-- The row of a machine check: causes 2 and 3 are the sequencer's. -/
theorem exec_channelMachineCheck (s : State) (ch : Nat) (cause : BitVec 4) :
    (∃ pc, exec (.channelMachineCheck ch cause) s = .next (s.checkAt ch cause.toNat pc) ∧ 1 ≤ cause.toNat ∧ cause.toNat ≤ 5) ∨
      (exec (.channelMachineCheck ch cause) s = .next s ∧ (cause.toNat = 0 ∨ 5 < cause.toNat)) := by
  by_cases seq : cause = 2 ∨ cause = 3
  · refine .inl ⟨_, congrArg Host.Outcome.next (if_pos seq), ?_⟩
    rcases seq with rfl | rfl <;> decide
  · by_cases dir : 1 ≤ cause.toNat ∧ cause.toNat ≤ 5
    · exact .inl ⟨_, congrArg Host.Outcome.next ((if_neg seq).trans (if_pos dir)), dir⟩
    · exact .inr ⟨congrArg Host.Outcome.next ((if_neg seq).trans (if_neg dir)), by omega⟩

theorem exec_channelWatchdog (s : State) (ch : Nat) : (s.chanVerbs ch = [] → exec (.channelWatchdog ch) s = .next s) ∧
    (s.chanVerbs ch ≠ [] → exec (.channelWatchdog ch) s = .next (s.machineCheck ch 5)) :=
  ⟨fun h => congrArg Host.Outcome.next (if_pos (List.isEmpty_iff.mpr h)),
    fun h => congrArg Host.Outcome.next (if_neg (mt List.isEmpty_iff.mp h))⟩

/-- Settles O40: a check marks the channel's registers, and neither the end of its verbs nor its holding unmarks them. -/
theorem machineCheckEffects : Obligations.MachineCheckEffects := by
  intro s ch cause hch hr hl
  refine ⟨?_, (exec_channelWatchdog s ch).1, (exec_channelWatchdog s ch).2, fun t hp hlt hh =>
    ⟨State.localReset_ends hp hlt hh, fun bad => ⟨_, exec_localResetDone_bad hlt bad, State.holdChan_held t ch⟩⟩⟩
  rcases exec_channelMachineCheck s ch cause with ⟨pc, step, low, high⟩ | ⟨step, other⟩
  · obtain ⟨tick, ⟨cut, chan⟩, marked, held⟩ := State.checkAt_spec hch (by omega : cause.toNat < 16) hr hl pc
    refine ⟨_, step, tick, fun other => absurd other ?_, fun _ _ _ => ?_⟩
    · rintro (rfl | above)
      · exact absurd low (by decide)
      · omega
    · rw [chan]
      refine ⟨rfl, rfl, rfl, fun few => ?_, fun many => ⟨held many, State.chRuns_of_held (held many)⟩⟩
      obtain ⟨lrst, report, summary⟩ := marked few
      exact ⟨lrst, report, summary, rfl, lrst⟩
  · exact ⟨s, step, rfl, fun _ => rfl, fun low high => by omega⟩

end Sys2Proof.Machine
end

section
/-! PROOFS. The statements of 04_storage_primitives.md, fifth part: flash verbs. -/

namespace Sys2Proof.Machine

/-! ## Dies and gathered results -/

@[simp] theorem State.die_setDie_self (s : State) (ch d : Nat) (x : Die) : (s.setDie ch d x).die ch d = x :=
  FMap.get_set_self s.dies (ch * 64 + d) x

/-- A verb's gathered results, once kept, are found by its core and ticket. -/
theorem State.acc_setAcc (s : State) (r : Req) {a : VerbAcc} (hc : a.core = r.core) (ht : a.ticket = r.ticket) :
    (s.setAcc r a).acc r = a := by
  have gone : (s.dropAcc r).accs.find? (fun a => decide (a.core = r.core) && decide (a.ticket = r.ticket)) = none :=
    List.find?_eq_none.mpr fun b hb => by
      simpa only [Bool.not_eq_true', Bool.not_eq_true] using (List.mem_filter.mp hb).2
  have kept : (s.setAcc r a).accs.find? (fun a => decide (a.core = r.core) && decide (a.ticket = r.ticket)) = some a := by
    unfold State.setAcc
    rw [State.putAccs_accs, List.find?_append, gone, Option.none_or]
    exact List.find?_cons_of_pos (by simp [hc, ht])
  unfold State.acc
  rw [kept]

theorem State.acc_owner (s : State) (r : Req) : (s.acc r).core = r.core ∧ (s.acc r).ticket = r.ticket := by
  unfold State.acc
  split
  · next a found =>
    simpa using List.find?_some found
  · exact ⟨rfl, rfl⟩

theorem State.acc_of_accs {s t : State} (h : t.accs = s.accs) (r : Req) : t.acc r = s.acc r := by
  unfold State.acc
  rw [h]

/-! ## Verbs that have started -/

theorem onVerb_started {s : State} {c : CoreId} {t : Ticket} {p : Prim} {r : Req} (f : State → Req → State)
    (hr : s.findReq c t = some r) (hs : r.phase = .started) (hp : r.prim = p) :
    onVerb s c t (· = p) f = .next (f s r) := by
  unfold onVerb
  rw [hr]
  dsimp only
  rw [if_neg (by simp [hp]), if_neg (by rw [hs]; decide), hr]
  exact congrArg _ (if_pos hs)

section
variable {s : State} {c : CoreId} {t : Ticket} {r : Req} (hr : s.findReq c t = some r) (hs : r.phase = .started)
include hr hs

theorem exec_flashProgramDone (st : BitVec 8) (ns : W64) (hp : r.prim = .fprog) (hu : s.isSuspended r = false)
    (ha : (s.acc r).ready = true) : exec (.flashProgramDone c t st ns) s = .next (
      if bit st 0 then ((s.clearFails r).spoilOp r).verbDone r 0x21 [st.setWidth 64, ns, w64 (s.suspendsOf r)]
      else (((((s.clearFails r).progFramesTo r.progMode ((s.clearFails r).progKeys r) ((s.clearFails r).acc r).inputs).clearIntent
        r).markProgram r).verbDone r 0x00 [st.setWidth 64, ns, w64 (s.suspendsOf r)])) :=

  (show execFlashProgramDone c t st ns s = _ from onVerb_started _ hr hs hp).trans (congrArg _ (if_neg (by simp [hu, ha])))

theorem exec_flashEraseDone (st : BitVec 8) (ns : W64) (hp : r.prim = .ferase) (hu : s.isSuspended r = false)
    (ha : (s.acc r).ready = true) : exec (.flashEraseDone c t st ns) s = .next (
      if bit st 0 then ((s.clearFails r).spoilOp r).verbDone r 0x22 [st.setWidth 64, ns, w64 (s.suspendsOf r)]
      else (((maskPlanes r.planeMask).foldl (fun s pl => s.resetBlock (blkKey r.chanNo r.dieNo pl (locBlock r.loc)) true)
        (s.clearFails r)).verbDone r 0x00 [st.setWidth 64, ns, w64 (s.suspendsOf r)])) :=

  (show execFlashEraseDone c t st ns s = _ from onVerb_started _ hr hs hp).trans (congrArg _ (if_neg (by simp [hu, ha])))

/-- A read completes with what its frames give, once the bus is its own (R123, R126). -/
theorem exec_readDone {i : Instr} {fr : List FrameSense}
    (hi : i = .flashReadDone c t fr ∧ r.prim = .fread ∨
      i = .rawReadDone c t fr ∧ r.prim = .fraw ∧ (r.senseMode = 0 ∨ (s.acc r).soft.length = r.readFrames))
    (hb : (s.busRead r.chanNo).map (fun q => (q.core, q.ticket)) = some (r.core, r.ticket))
    (hf : (s.acc r).frames + fr.length = r.readFrames) : exec i s = .next (s.readDone r fr) ∧ s.readDone r fr =
      (let x := ((s.bus (s.outputCycles r)).drift r.chanNo (locCe r.loc)).takeFrames r (s.acc r) fr
       x.2.verbDone r x.1.oc (x.2.readWords r x.1)) := by
  have soft : ¬(r.prim = .fraw ∧ r.senseMode ≠ 0 ∧ (s.acc r).soft.length ≠ r.readFrames) := by
    rintro ⟨raw, mode, short⟩
    rcases hi with ⟨-, read⟩ | ⟨-, -, hard | long⟩
    · exact absurd (read.symm.trans raw) (by decide)
    · exact mode hard
    · exact short long
  refine ⟨?_, (if_neg (not_not_intro hb)).trans ((if_neg (not_not_intro hf)).trans (if_neg soft))⟩
  rcases hi with ⟨rfl, hp⟩ | ⟨rfl, hp, -⟩
  · exact show execFlashReadDone c t fr s = _ from onVerb_started _ hr hs hp
  · exact show execRawReadDone c t fr s = _ from onVerb_started _ hr hs hp

theorem exec_softDecode (ok : Bool) (d : BitVec 16) (hp : r.prim = .fraw) (ha : (s.acc r).ready = true)
    (hm : r.senseMode = 1 ∨ r.senseMode = 2) (hl : (s.acc r).soft.length < r.readFrames) :
    ∃ u : State, exec (.softDecode c t ok d) s = .next u ∧ (u.acc r).soft = (s.acc r).soft ++ [(ok, d.toNat)] := by
  have next : ¬((!(s.acc r).ready) = true ∨ (r.senseMode ≠ 1 ∧ r.senseMode ≠ 2) ∨ r.readFrames ≤ (s.acc r).soft.length) := by
    rw [ha]
    simp
    omega
  obtain ⟨core, ticket⟩ := s.acc_owner r
  refine ⟨_, (show execSoftDecode c t ok d s = _ from onVerb_started _ hr hs hp).trans (congrArg _ (if_neg next)), ?_⟩
  dsimp only
  rw [State.acc_setAcc]
  · exact core
  · exact ticket

theorem exec_dieStatusDone (st : BitVec 8) (hp : r.prim = .fstat) : exec (.dieStatusDone c t st) s =
    .next ((s.bus (busPoll r.chanNo r.loc)).verbDone r 0x00 [st.setWidth 64, w64 (s.dieStateCode r.chanNo r.dieNo),
      w64 (s.usedNow r.chanNo r.dieNo), w64 (s.queuedLevels r.chanNo r.dieNo)]) :=

  show execDieStatusDone c t st s = _ from onVerb_started _ hr hs hp

theorem exec_featureDone (p : BitVec 32) (hp : r.prim = .ffeat) (ha : (s.acc r).ready = true) :
    exec (.featureDone c t p) s = .next (s.featureDone r 0x00 p) :=

  (show execFeatureDone c t p s = _ from onVerb_started _ hr hs hp).trans (congrArg _ (if_neg (by simp [ha])))

end

/-- A feature set is what the die then gives. -/
theorem Die.feature_set (d : Die) (a : Nat) (v p : BitVec 32) :
    ({ d with feats := d.feats.filter (fun p => p.1 ≠ a) ++ [(a, v)] } : Die).feature a p = v := by
  have gone : (d.feats.filter (fun p => p.1 ≠ a)).find? (fun p => decide (p.1 = a)) = none :=
    List.find?_eq_none.mpr fun b hb => by simpa using (List.mem_filter.mp hb).2
  unfold Die.feature
  dsimp only
  rw [List.find?_append, gone, Option.none_or, List.find?_cons_of_pos (by simp)]

/-! ## The die queue, polls, suspends and resumes -/

/-- A die whose queue starts nothing stays as it is. -/
theorem State.serveDie_idle {s : State} {ch d : Nat} (h : s.dieChoice ch d = none) : s.serveDie ch d = s := by
  have still : ∀ l : List Nat, l.foldl (fun (s : State) _ => match s.dieChoice ch d with
      | some r => s.startVerb true r
      | none => s) s = s := fun l => by
    induction l with
    | nil => rfl
    | cons n l ih => rw [List.foldl_cons, h]; exact ih
  exact still _

/-- The program whose data a die takes in now, if any (R310). -/
def State.dieEntry (s : State) (ch die : Nat) : Option Req :=
  (s.die ch die).op.bind fun o => (s.opReq o).filter (fun q => !o.suspended && !s.inputDone q)

/-- Whether the operation of a die has been sent its suspend command. -/
def State.dieSuspending (s : State) (ch die : Nat) : Bool := (s.die ch die).op.any DieOp.suspending

/-- The state after a poll of a die for a verb that reads status `st`, but for what a die found ready does (R298, R314). -/
def State.polledDie (s : State) (ch die : Nat) (r : Req) (st : BitVec 8) : State :=
  let u := (s.bus (busPoll ch r.loc)).takeStatus ch die st
  if r.prim.isRead then u.setChan ch { u.chan ch with polled := die } else u

/-- An operation once a poll has read status `st`: one that suspends stands suspended when the die is ready (R308). -/
def DieOp.polled (st : BitVec 8) (o : DieOp) : DieOp :=
  if o.suspending && bit st 6 then { o with suspended := true, suspending := false, served := 0 } else o

theorem State.polledDie_die (s : State) (ch die : Nat) (r : Req) (st : BitVec 8) : (s.polledDie ch die r st).die ch die =
    { s.die ch die with status := st, op := (s.die ch die).op.map (DieOp.polled st) } := by
  have taken : ((s.bus (busPoll ch r.loc)).takeStatus ch die st).die ch die =
      { s.die ch die with status := st, op := (s.die ch die).op.map (DieOp.polled st) } := State.die_setDie_self _ ch die _
  unfold State.polledDie
  dsimp only
  split
  · exact taken
  · exact taken

theorem State.polledDie_chan (s : State) (ch die : Nat) (r : Req) (st : BitVec 8) :
    ((s.polledDie ch die r st).chan ch).ready = bit st 6 ∧ ((s.polledDie ch die r st).chan ch).failBit = bit st 0 := by
  unfold State.polledDie State.takeStatus
  dsimp only
  split
  · rw [State.chan_setChan_self, State.chan_setChan_self]
    exact ⟨rfl, rfl⟩
  · rw [State.chan_setChan_self]
    exact ⟨rfl, rfl⟩

/-- A verb found ready keeps the dies and channels. -/
theorem State.foundReady_spec (s : State) (r : Req) : ((s.foundReady r).acc r).ready = true ∧ (s.foundReady r).dies = s.dies ∧
    (s.foundReady r).chans = s.chans := by
  obtain ⟨core, ticket⟩ := s.acc_owner r
  have ready : ((s.setAcc r { s.acc r with ready := true }).acc r).ready = true := by
    rw [State.acc_setAcc]
    · exact core
    · exact ticket
  have asked : ∀ t : State, (t.ldpcAsk r).accs = t.accs ∧ (t.ldpcAsk r).dies = t.dies ∧ (t.ldpcAsk r).chans = t.chans := fun t => by
    unfold State.ldpcAsk
    split <;> exact ⟨rfl, rfl, rfl⟩
  unfold State.foundReady
  dsimp only
  split
  · obtain ⟨accs, dies, chans⟩ := asked (s.setAcc r { s.acc r with ready := true })
    exact ⟨(congrArg VerbAcc.ready (State.acc_of_accs accs r)).trans ready, dies, chans⟩
  · exact ⟨ready, rfl, rfl⟩

theorem State.die_of_dies {s t : State} (h : t.dies = s.dies) (ch d : Nat) : t.die ch d = s.die ch d :=
  congrArg (fun m => FMap.get dieReset m (ch * 64 + d)) h

theorem State.chan_of_chans {s t : State} (h : t.chans = s.chans) (ch : Nat) : t.chan ch = s.chan ch :=
  congrArg (fun m => FMap.get chanReset m ch) h

/-- A program's data input ends at the frame, to start again after the reads (R310). -/
def State.endInput (s : State) (ch die : Nat) (q : Req) (o : DieOp) : State :=
  let u := s.setAcc q { s.acc q with inputs := [] }
  let v := if (u.chan ch).cur = some (q.core, q.ticket) then u.setChan ch { u.chan ch with idx := 0 } else u
  v.setDie ch die { v.die ch die with op := some { o with suspended := true, served := 0 } }

theorem State.endInput_spec (s : State) (ch die : Nat) (q : Req) (o : DieOp) : ((s.endInput ch die q o).acc q).inputs = [] ∧
    ((s.endInput ch die q o).die ch die).op = some { o with suspended := true, served := 0 } := by
  obtain ⟨core, ticket⟩ := s.acc_owner q
  have inputs : ∀ t : State, t.accs = (s.setAcc q { s.acc q with inputs := [] }).accs → (t.acc q).inputs = [] := fun t h => by
    rw [State.acc_of_accs h, State.acc_setAcc]
    · exact core
    · exact ticket
  unfold State.endInput
  dsimp only
  rw [State.die_setDie_self]
  refine ⟨inputs _ ?_, rfl⟩
  split <;> rfl

/-- The suspend command goes to the die (R308). -/
def State.sendSuspend (s : State) (ch die : Nat) (q : Req) (o : DieOp) : State :=
  (s.bus (s.busSuspend ch o.erase q.loc)).setDie ch die { s.die ch die with op := some { o with suspending := true } }

section
variable {s : State} {ch die : Nat} (hp : s.chanPresent ch = true) (hf : s.dieFitted ch die = true) (hq : s.dieChoice ch die = none)
include hp hf hq

section
variable (hr : s.chReset ch = false) (hh : s.chHeld ch = false)
include hr hh

/-- DIE_POLL of a die that takes a program's data in: no read output stands ahead of it. -/
theorem exec_diePoll_entry {q : Req} (st : PollSense) (he : s.dieEntry ch die = some q) (hb : s.busRead ch = none) :
    exec (.diePoll ch die st) s = .next (s.takeInputs q) := by
  refine congrArg Host.Outcome.next ((if_pos (by rw [hp, hf, hr, hh]; rfl)).trans ?_)
  dsimp only
  rw [State.serveDie_idle hq]
  unfold State.dieEntry at he
  cases ho : (s.die ch die).op with
  | none => exact nomatch ho ▸ he
  | some o =>
    rw [ho, Option.bind_some] at he
    dsimp only
    rw [he]
    dsimp only
    rw [hb]

/-- DIE_POLL of a die that takes no data in, when a poll is due. -/
theorem exec_diePoll_poll {pl : Nat} {r : Req} (st : BitVec 8) (he : s.dieEntry ch die = none)
    (hpoll : s.pollFor ch die pl = some r) : exec (.diePoll ch die ⟨pl, st⟩) s = .next
      (if bit st 6 ∧ !s.dieSuspending ch die then (s.polledDie ch die r st).foundReady r else s.polledDie ch die r st) := by
  refine congrArg Host.Outcome.next ((if_pos (by rw [hp, hf, hr, hh]; rfl)).trans ?_)
  dsimp only
  rw [State.serveDie_idle hq]
  unfold State.dieEntry at he
  unfold State.dieSuspending
  cases ho : (s.die ch die).op with
  | none =>
    dsimp only
    rw [hpoll]
    rfl
  | some o =>
    rw [ho, Option.bind_some] at he
    dsimp only
    rw [he]
    dsimp only
    rw [hpoll]
    rfl

end

/-- A read that the poll finds ready. -/
theorem exec_diePoll_read (hr : s.chReset ch = false) (hh : s.chHeld ch = false) {pl : Nat} {r : Req} {st : BitVec 8}
    (ho : (s.die ch die).op = none) (hpoll : s.pollFor ch die pl = some r) (hs : bit st 6 = true) :
    ∃ u : State, exec (.diePoll ch die ⟨pl, st⟩) s = .next u ∧ (u.acc r).ready = true ∧ (u.die ch die).status = st ∧
      (u.chan ch).ready = true ∧ (u.chan ch).failBit = bit st 0 := by
  have entry : s.dieEntry ch die = none := by unfold State.dieEntry; rw [ho]; rfl
  have idle : s.dieSuspending ch die = false := by unfold State.dieSuspending; rw [ho]; rfl
  obtain ⟨ready, dies, chans⟩ := (s.polledDie ch die r st).foundReady_spec r
  obtain ⟨chReady, chFail⟩ := s.polledDie_chan ch die r st
  refine ⟨_, (exec_diePoll_poll hp hf hq hr hh st entry hpoll).trans (congrArg _ (if_pos ⟨hs, by rw [idle]; rfl⟩)), ready, ?_, ?_, ?_⟩
  · rw [State.die_of_dies dies, State.polledDie_die]
  · rw [State.chan_of_chans chans, chReady, hs]
  · rw [State.chan_of_chans chans, chFail]

/-- An operation that the poll finds ready: suspended when it was to suspend, else done. -/
theorem exec_diePoll_operation (hr : s.chReset ch = false) (hh : s.chHeld ch = false) {pl : Nat} {o : DieOp} {q : Req}
    {st : BitVec 8} (ho : (s.die ch die).op = some o) (hoq : s.opReq o = some q) (hi : s.inputDone q = true)
    (hpoll : s.pollFor ch die pl = some q) (hs : bit st 6 = true) :
    (o.suspending = true → ∃ u : State, exec (.diePoll ch die ⟨pl, st⟩) s = .next u ∧ (u.die ch die).status = st ∧
      (u.die ch die).op = some { o with suspended := true, suspending := false, served := 0 }) ∧
    (o.suspending = false → ∃ u : State, exec (.diePoll ch die ⟨pl, st⟩) s = .next u ∧ (u.die ch die).status = st ∧
      (u.die ch die).op = some o ∧ (u.acc q).ready = true) := by
  have entry : s.dieEntry ch die = none := by
    unfold State.dieEntry
    rw [ho, Option.bind_some, hoq, Option.filter_some, hi, Bool.not_true, Bool.and_false]
    rfl
  have was : s.dieSuspending ch die = o.suspending := by unfold State.dieSuspending; rw [ho]; rfl
  have poll := exec_diePoll_poll hp hf hq hr hh st entry hpoll
  have die := s.polledDie_die ch die q st
  rw [ho, Option.map_some] at die
  refine ⟨fun suspends => ?_, fun runs => ?_⟩
  · refine ⟨_, poll.trans (congrArg _ (if_neg (by rw [was, suspends]; simp))), ?_⟩
    rw [die]
    unfold DieOp.polled
    rw [suspends, hs]
    exact ⟨rfl, rfl⟩
  · obtain ⟨ready, dies, -⟩ := (s.polledDie ch _ q st).foundReady_spec q
    refine ⟨_, poll.trans (congrArg _ (if_pos ⟨hs, by rw [was, runs]; rfl⟩)), ?_⟩
    rw [State.die_of_dies dies, die]
    unfold DieOp.polled
    rw [runs]
    exact ⟨rfl, rfl, ready⟩

theorem serveDie_fitted : (if (s.chanPresent ch && s.dieFitted ch die) = true then s.serveDie ch die else s) = s := by
  rw [hp, hf, State.serveDie_idle hq]
  exact ite_self s

/-- PROGRAM_ERASE_SUSPEND of an operation that a waiting read may interrupt. -/
theorem exec_programEraseSuspend {o : DieOp} {q : Req} (ho : (s.die ch die).op = some o) (hoq : s.opReq o = some q)
    (may : ¬(s.gap = true ∨ o.suspended = true ∨ o.suspending = true ∨ (s.acc q).ready = true ∨
      (!(s.dieVerbs ch die).any (fun r => r.qualifies q)) = true ∨ o.limit ≤ o.suspends ∨ s.noSuspend q = true ∨
      s.chReset ch = true ∨ s.chHeld ch = true)) :
    exec (.programEraseSuspend ch die) s = .next (if !s.inputDone q then s.endInput ch die q o
      else if !(s.trunPassed ch o.resumed).1 then (s.trunPassed ch o.resumed).2
      else (s.trunPassed ch o.resumed).2.sendSuspend ch die q o) := by
  refine congrArg Host.Outcome.next ?_
  dsimp only
  rw [serveDie_fitted hp hf hq, ho]
  dsimp only
  rw [hoq]
  exact if_neg may

/-- RESUME_OPERATION once no read of the suspension is left. -/
theorem exec_resumeOperation {o : DieOp} {q : Req} (ho : (s.die ch die).op = some o) (hoq : s.opReq o = some q)
    (hs : o.suspended = true) (hd : s.dieReads ch die = [])
    (hw : (s.dieVerbs ch die).filter (fun r => decide (r.phase = .dieQueue) && r.prim.isRead && s.mayStart r) = []) :
    ∃ u : State, exec (.resumeOperation ch die) s = .next u ∧
      (u.die ch die).op = some { o with suspended := false, suspends := o.suspends + 1, resumed := s.tick } := by
  refine ⟨(if s.inputDone q then s.bus (s.busResume ch o.erase q.loc) else s).setDie ch die
    { s.die ch die with op := some { o with suspended := false, suspends := o.suspends + 1, resumed := s.tick } },
    congrArg Host.Outcome.next ?_, congrArg Die.op (State.die_setDie_self _ ch die _)⟩
  dsimp only
  rw [serveDie_fitted hp hf hq, ho]
  dsimp only
  rw [hoq]
  dsimp only
  rw [if_pos ⟨hs, by rw [hd]; rfl, by rw [hw]; rfl⟩]
  split <;> rfl

end

/-! ## Dead dies, decode slots and verbs that enter a queue -/

theorem exec_verbEnterDieQueue {s : State} {c : CoreId} {t : Ticket} {r : Req} (hr : s.findReq c t = some r)
    (hn : s.nextEntry r.chanNo = some r) : exec (.verbEnterDieQueue c t) s = .next (s.setReq { r with phase := .dieQueue }) := by
  refine congrArg Host.Outcome.next ?_
  rw [hr]
  exact if_pos hn

/-- The state of a die whose verb has passed its timer, and of its channel (R315, R358). -/
def State.verbExpired (s : State) (ch die : Nat) (r : Req) : State :=
  let u := (s.spoilOp r).setDie ch die { s.die ch die with fails := (s.die ch die).fails + 1 }
  let v := u.setChan ch { u.chan ch with expired := true, timer := none, outcome := 0x20 }
  if 2 ≤ (s.die ch die).fails then v.retireDies ch [die] else v

theorem State.verbExpired_chan (s : State) (ch die : Nat) (r : Req) :
    ((s.verbExpired ch die r).chan ch).expired = true ∧ ((s.verbExpired ch die r).chan ch).outcome = 0x20 := by
  have retired : ∀ v : State, (v.retireDies ch [die]).chans = v.chans := fun v => by unfold State.retireDies; rfl
  unfold State.verbExpired
  dsimp only
  split
  · rw [State.chan_of_chans (retired _), State.chan_setChan_self]
    exact ⟨rfl, rfl⟩
  · rw [State.chan_setChan_self]
    exact ⟨rfl, rfl⟩

theorem exec_dieTimeout {s : State} {ch die : Nat} {r : Req} (hr : (s.dieVerbs ch die).find? (fun r => decide (r.phase = .started) &&
      !(s.acc r).ready && !s.isSuspended r && s.inputDone r && s.timerDue r) = some r) :
    exec (.dieTimeout ch die) s = .next ((s.verbExpired ch die r).verbDone r 0x20 []) := by
  refine congrArg Host.Outcome.next ?_
  rw [hr]
  rfl

/-- The one request of a bank that is on takes a decode slot (R328). -/
theorem exec_ldpcSlotGrant {s : State} {b : Nat} {x : LdpcReq} (hl : s.ldpc = [x]) (hb : x.chan / 8 = b) (hx : x.granted = false)
    (hg : s.gap = false) (hon : s.bankOn b = true) :
    exec (.ldpcSlotGrant b) s = .next (s.putLdpc [{ x with granted := true }]) := by
  refine congrArg Host.Outcome.next ?_
  have waiting : s.ldpc.filter (fun q => q.chan / 8 = b) = [x] := by rw [hl]; simp [hb]
  dsimp only
  rw [waiting]
  simp [hx, hg, hon, hl]

/-- Settles O37: each row finds its verb in the state named, and leaves that of its step. -/
theorem flashVerbResults : Obligations.FlashVerbResults := by
  intro s c t r q o ch die pl st ns p fr
  refine ⟨fun hr hn => exec_verbEnterDieQueue hr hn, fun hp hf hr hh hq => ⟨fun ho hpoll _ hs => ?_, fun ho hoq h1 hi hb => ?_,
    fun ho hoq h1 hi hpoll _ hs => ?_, fun ho hoq hg h1 h2 ha hw hl hn => ?_, fun ho hoq h1 hd hw => ?_⟩,
    fun hr => ⟨_, exec_dieTimeout hr, s.verbExpired_chan ch die r⟩, fun x y b hl hb hx hg hon hy => ?_, fun hr hs => ?_⟩
  · exact exec_diePoll_read hp hf hq hr hh ho hpoll hs
  · refine exec_diePoll_entry hp hf hq hr hh _ ?_ hb
    unfold State.dieEntry
    rw [ho, Option.bind_some, hoq, Option.filter_some, h1, hi]
    rfl
  · exact exec_diePoll_operation hp hf hq hr hh ho hoq hi hpoll hs
  · have step := exec_programEraseSuspend hp hf hq ho hoq (by simp [hg, h1, h2, ha, hw, hn, hr, hh]; omega)
    refine ⟨fun hi => ?_, fun hi ht => ?_⟩
    · obtain ⟨inputs, op⟩ := s.endInput_spec ch die q o
      rw [hi] at step
      exact ⟨_, step, inputs, op⟩
    · rw [hi, ht] at step
      exact ⟨_, step, congrArg Die.op (State.die_setDie_self _ ch die _)⟩
  · exact exec_resumeOperation hp hf hq ho hoq h1 hd hw
  · rw [hy]
    exact exec_ldpcSlotGrant hl hb hx hg hon
  · dsimp only
    refine ⟨fun i hi hb hf => ?_, fun ok d hp ha hm hl => exec_softDecode hr hs ok d hp ha hm hl,
      fun hp hu ha => ⟨fun hb => ?_, fun hb => ?_⟩, fun hp hu ha => ⟨fun hb => ?_, fun hb => ?_⟩,
      fun hp => exec_dieStatusDone hr hs st hp, fun hp ha => ⟨fun hb => ?_, fun hb => ?_⟩⟩
    · obtain ⟨step, done⟩ := exec_readDone hr hs hi hb hf
      rw [step, done]
    · rw [exec_flashEraseDone hr hs st ns hp hu ha, hb]
      rfl
    · rw [exec_flashEraseDone hr hs st ns hp hu ha, hb]
      rfl
    · rw [exec_flashProgramDone hr hs st ns hp hu ha, hb]
      rfl
    · rw [exec_flashProgramDone hr hs st ns hp hu ha, hb]
      rfl
    · rw [exec_featureDone hr hs p hp ha]
      exact congrArg _ (if_neg (by rw [hb]; decide))
    · refine ⟨_, (exec_featureDone hr hs p hp ha).trans (congrArg _ (if_pos hb)), ?_⟩
      rw [State.die_setDie_self]
      exact Die.feature_set _ _ _ p

end Sys2Proof.Machine
end

section
/-! PROOFS. The statements of 04_storage_primitives.md, sixth part: the data mover. -/

namespace Sys2Proof.Machine

/-! ## Reads by an engine (R463) -/

section
variable {s : State} {r : Req}

/-- An engine that reads one place for a request that outlives the read. -/
theorem State.withRead_one {p : Loc × Nat} (f : State → State) (h : ((s.touch p).findReq r.core r.ticket).isSome = true) :
    s.withRead r [p] f = f (s.touch p) := if_pos h

theorem State.withRead_two {p q : Loc × Nat} (f : State → State)
    (h : (((s.touch p).touch q).findReq r.core r.ticket).isSome = true) :
    s.withRead r [p, q] f = f ((s.touch p).touch q) := if_pos h

end

/-! ## Host transfers (R131, R195) -/

section
variable {s : State} {c : CoreId} {t : Ticket} {r : Req}

section
variable {data : List Byte} (hr : s.started c t (· = .dmin) = some r) (hn : data.length ≤ r.xferLen)
include hr hn

theorem exec_dmin_cut {oc : Byte} (ok : Bool) (h : s.xferCut r = some oc) :
    exec (.dataMoverInDone c t ok data) s = .next ((s.land (r.op 1) data).fail r oc) := by
  refine (onReq_some _ hr).trans (congrArg _ ((if_neg (Nat.not_lt.mpr hn)).trans ?_))
  rw [h]

theorem exec_dmin_failed (h : s.xferCut r = none) :
    exec (.dataMoverInDone c t false data) s = .next ((s.land (r.op 1) data).fail r 0xF2) := by
  refine (onReq_some _ hr).trans (congrArg _ ((if_neg (Nat.not_lt.mpr hn)).trans ?_))
  rw [h]
  rfl

theorem exec_dmin_lands {d : Cmd} (h : s.xferCut r = none) (hl : data.length = r.xferLen) (hd : s.cmdOf (r.op 0) = some d) :
    exec (.dataMoverInDone c t true data) s =
      .next (((s.land (r.op 1) data).setCmd { d with dminEvent := some (r.event 0x00) }).fail r 0x00) := by
  refine (onReq_some _ hr).trans (congrArg _ ((if_neg (Nat.not_lt.mpr hn)).trans ?_))
  rw [h]
  refine (if_neg (by decide)).trans ((if_neg (not_not_intro hl)).trans ?_)
  rw [hd]
  rfl

end

section
variable (hr : s.started c t (· = .dmout) = some r)
include hr

theorem exec_dmout_cut {oc : Byte} (ok : Bool) (h : s.xferCut r = some oc) :
    exec (.dataMoverOutDone c t ok) s = .next (s.fail r oc) := by
  refine (onReq_some _ hr).trans (congrArg _ ?_)
  dsimp only
  rw [h]

theorem exec_dmout_failed (h : s.xferCut r = none) : exec (.dataMoverOutDone c t false) s = .next (s.fail r 0xF2) := by
  refine (onReq_some _ hr).trans (congrArg _ ?_)
  dsimp only
  rw [h]
  rfl

/-- An outbound transfer reads its bytes and sends them; it then completes, claims completion or reports poison. -/
theorem exec_dmout_sends {l : Loc} (h : s.xferCut r = none) (hl : s.moverLoc (r.op 1) r.xferLen = some l)
    (hg : bit r.imm 0 = false ∨ s.gateShut = false)
    (ht : ((s.touch (l, r.xferLen)).findReq r.core r.ticket).isSome = true) :
    let u := s.touch (l, r.xferLen)
    let v := u.sendHost r (u.readLoc l r.xferLen)
    exec (.dataMoverOutDone c t true) s = .next (if u.poisoned l r.xferLen then v.fail r 0xF1
      else if bit r.imm 0 then v.claimCompletion r (r.op 0) (BitVec.ofNat 32 (fld (r.op 3) 0 32))
        (BitVec.ofNat 32 (fld (r.op 3) 32 32)) (BitVec.ofNat 15 (fld (r.op 4) 0 15)) 0 0
      else v.fail r 0x00) := by
  have gate : ¬(bit r.imm 0 && s.gateShut) = true := by rcases hg with h | h <;> simp [h]
  refine (onReq_some _ hr).trans (congrArg _ ?_)
  dsimp only
  rw [h]
  refine (if_neg (by decide)).trans ((if_neg gate).trans ?_)
  rw [hl]
  exact State.withRead_one _ ht

end

end

theorem State.inReset_of_resets {s t : State} (h : t.resets = s.resets) (d : Cmd) : t.inReset d = s.inReset d := by
  unfold State.inReset
  rw [h]

theorem State.settleCount_resets (s : State) (d : Cmd) : (s.settleCount d).resets = s.resets := by
  unfold State.settleCount
  split <;> rfl

/-- A completion claim on a live command, not in reset, is held at the gate (R99, R100). -/
theorem State.claimCompletion_live {s : State} {r : Req} {key : W64} {d : Cmd} (hd : s.cmdOf key = some d) (hl : d.settle = .live)
    (hr : s.inReset d = false) (dw0 dw1 : BitVec 32) (st : BitVec 15) (n m : Nat) : s.claimCompletion r key dw0 dw1 st n m =
      ((s.settleCount d).setReq { r with phase := .held }).setCmd { d with settle := .claimed dw0 dw1 st n m r.core r.ticket } := by
  unfold State.claimCompletion
  rw [hd]
  dsimp only
  rw [if_pos hl, State.inReset_of_resets (s.settleCount_resets d), hr]
  rfl

/-! ## Copies and fills (R132, R445) -/

theorem exec_copyDone {s : State} {c : CoreId} {t : Ticket} {r : Req} {src dst : Loc} (hr : s.started c t (· = .dmcopy) = some r)
    (hi : bit r.imm 0 = false) (hs : s.moverLoc (r.op 0) r.copyLen = some src) (hd : s.moverLoc (r.op 1) r.copyLen = some dst)
    (ht : ((s.touch (src, r.copyLen)).findReq r.core r.ticket).isSome = true) : exec (.copyDone c t) s =
      .next ((((s.touch (src, r.copyLen)).copyBytes src dst r.copyLen).2).fail r
        (if ((s.touch (src, r.copyLen)).copyBytes src dst r.copyLen).1 then 0xF1 else 0x00)) := by
  refine (onReq_some _ hr).trans (congrArg _ ((if_neg (by rw [hi]; decide)).trans ?_))
  rw [hs, hd]
  exact State.withRead_one _ ht

theorem exec_fillDone_at {s : State} {c : CoreId} {t : Ticket} {r : Req} {l : Loc} (hr : s.started c t (· = .dmfill) = some r)
    (hl : s.moverLoc (r.op 0) (r.op 1).toNat = some l) : exec (.fillDone c t) s =
      .next ((s.writeLoc l (fillBytes (r.op 2).toNat ((r.op 1).toNat / 8))).fail r 0x00) := by
  refine (onReq_some _ hr).trans (congrArg _ ?_)
  dsimp only
  rw [hl]
  rfl

/-- Settles O41: each clause is one way in which a transfer, a copy or a fill ends. -/
theorem moverResults : Obligations.MoverResults := by
  intro s c t r d data
  refine ⟨fun hr hn => ⟨fun oc b h => exec_dmin_cut hr hn b h, fun h => exec_dmin_failed hr hn h,
      fun h hl hd => exec_dmin_lands hr hn h hl hd⟩,
    fun hr => ⟨fun oc b h => exec_dmout_cut hr b h, fun h => exec_dmout_failed hr h, fun l h hl ht => ?_⟩,
    fun src dst hr hi hs hd ht => exec_copyDone hr hi hs hd ht, fun l hr hl => exec_fillDone_at hr hl⟩
  have sends := fun hg => exec_dmout_sends hr h hl hg ht
  dsimp only at sends ⊢
  refine ⟨fun hp hg => (sends hg).trans (congrArg _ (if_pos hp)), fun hp hi => ?_, fun hp hi hg hd hs hx => ?_⟩
  · rw [sends (.inl hi), hp, hi]
    rfl
  · rw [sends (.inr hg), hp, hi]
    exact congrArg Host.Outcome.next (State.claimCompletion_live hd hs hx _ _ _ 0 0)

end Sys2Proof.Machine
end

section
/-! PROOFS. The statements of 04_storage_primitives.md, seventh part: the cipher engine, the vault and the parity engine. -/

namespace Sys2Proof.Machine

/-- Where no word is poisoned nothing is carried. -/
theorem State.carryPoison_nil (s : State) (src dst : Loc) : s.carryPoison [] src dst = s := by
  unfold State.carryPoison
  split <;> rfl

theorem State.poisoned_of_poisonIn_nil {s : State} {l : Loc} {n : Nat} (h : s.poisonIn l n = []) : s.poisoned l n = false := by
  unfold State.poisoned
  rw [h]
  rfl

section
variable {s : State} {c : CoreId} {t : Ticket} {r : Req}

/-! ## XTS and CMAC (R133, R134) -/

section
variable (hr : s.started c t (· = .xts) = some r)
include hr

theorem exec_xts_empty (h : s.vslot (fld (r.op 2) 0 13) = none) : exec (.xtsDone c t) s = .next (s.fail r 0x40) := by
  refine (onReq_some _ hr).trans (congrArg _ ?_)
  dsimp only
  rw [h]

theorem exec_xts_mac {v : VSlot} (h : s.vslot (fld (r.op 2) 0 13) = some v) (hk : v.kind ≠ 0) :
    exec (.xtsDone c t) s = .next (s.fail r 0x41) := by
  refine (onReq_some _ hr).trans (congrArg _ ?_)
  dsimp only
  rw [h]
  exact if_pos hk

theorem exec_xts_ciphers {v : VSlot} {u : State} {src dst : Loc} (h : s.vslot (fld (r.op 2) 0 13) = some v) (hk : v.kind = 0)
    (hu : s.drbg (256 * r.xtsGrains) = (true, u)) (hs : u.moverLoc (r.op 0) (4096 * r.xtsGrains) = some src)
    (hf : fld (r.op 1) 60 4 ≠ 2) (hd : u.moverLoc (r.op 1) (4096 * r.xtsGrains) = some dst)
    (ht : ((u.touch (src, 4096 * r.xtsGrains)).findReq r.core r.ticket).isSome = true) :
    let x := u.touch (src, 4096 * r.xtsGrains)
    let hit := u.poisonIn src (4096 * r.xtsGrains)
    exec (.xtsDone c t) s = .next (((x.writeLoc dst (xtsGrainsOut (bit (r.op 2) 13) v.key (r.op 3)
      (x.readLoc src (4096 * r.xtsGrains)) r.xtsGrains).flatten).carryPoison hit src dst).fail r
        (if hit.isEmpty then 0x00 else 0xF1)) := by
  refine (onReq_some _ hr).trans (congrArg _ ?_)
  dsimp only
  rw [h]
  refine (if_neg (not_not_intro hk)).trans ?_
  rw [hu]
  dsimp only
  rw [hs]
  refine (if_neg hf).trans ?_
  rw [hd]
  exact State.withRead_one _ ht

end

/-- A CMAC request reads its bytes; clean ones give the tag, which is compared when asked. -/
theorem exec_cmac_reads {v : VSlot} {u : State} {src : Loc} (hr : s.started c t (· = .cmac) = some r)
    (h : s.vslot (fld (r.op 2) 0 13) = some v) (hk : v.kind = 1)
    (hu : s.drbg ((fld (r.op 1) 0 32 + 15) / 16) = (true, u)) (hs : u.moverLoc (r.op 0) (fld (r.op 1) 0 32) = some src)
    (ht : ((u.touch (src, fld (r.op 1) 0 32)).findReq r.core r.ticket).isSome = true)
    (hp : (u.touch (src, fld (r.op 1) 0 32)).poisoned src (fld (r.op 1) 0 32) = false) :
    let x := u.touch (src, fld (r.op 1) 0 32)
    let m := cmac v.key (x.readLoc src (fld (r.op 1) 0 32))
    (bit r.imm 0 = false → exec (.cmacDone c t) s = .next (x.complete r 0x00 (words64 2 m))) ∧
    (∀ e, bit r.imm 0 = true → x.moverLoc (r.op 3) 16 = some e → ((x.touch (e, 16)).findReq r.core r.ticket).isSome = true →
      (x.touch (e, 16)).poisoned e 16 = false → exec (.cmacDone c t) s = .next ((x.touch (e, 16)).complete r
        (if (x.touch (e, 16)).readLoc e 16 = m then 0x00 else 0x42) (words64 2 m))) := by
  have start : exec (.cmacDone c t) s = _ := onReq_some _ hr
  dsimp only at start ⊢
  rw [h] at start
  dsimp only at start
  rw [if_neg (not_not_intro hk), hu] at start
  dsimp only at start
  rw [hs] at start
  dsimp only at start
  rw [State.withRead_one _ ht, hp] at start
  refine ⟨fun hi => start.trans (congrArg _ ?_), fun e hi he hte hpe => start.trans (congrArg _ ?_)⟩
  · rw [hi]
    rfl
  · rw [hi, he]
    refine (if_neg (by decide)).trans ((if_pos rfl).trans ((State.withRead_one _ hte).trans ?_))
    rw [hpe]
    rfl

/-! ## The vault (R135, R495) -/

/-- VAULT_OPERATION_DONE hands the operation of IMM to its own function. -/
theorem exec_vault {op : Nat} (hr : s.started c t (· = .vslot) = some r) (h : fld r.imm 0 4 = op) :
    exec (.vaultOperationDone c t) s = .next (
      if op = 0 then s.complete r 0x00 [s.slotStatus (fld (r.op 1) 0 13)]
      else if op = 1 then (s.clearSlot (fld (r.op 1) 0 13)).fail r 0x00
      else if op = 2 then s.vslotFill r (fld (r.op 1) 0 13)
      else if op = 3 then s.vslotImport r (fld (r.op 1) 0 13)
      else s.vslotBind r (fld (r.op 1) 0 13)) := by
  refine (onReq_some _ hr).trans (congrArg _ ?_)
  dsimp only
  rw [h]
  match op with
  | 0 | 1 | 2 | 3 | _ + 4 => rfl

theorem State.vslotFill_locked {n : Nat} (h : s.dbgLock = true) : s.vslotFill r n = s.fail r 0x40 := if_pos h

theorem State.vslotFill_taken {n : Nat} (h : s.dbgLock = false) (hv : (s.vslot n).isSome = true) :
    s.vslotFill r n = s.fail r 0x1F :=
  (if_neg (by rw [h]; decide)).trans (if_pos hv)

theorem State.vslotFill_fills {n : Nat} (h : s.dbgLock = false) (hv : s.vslot n = none) (ht : bit (s.reg vaultStat) 2 = false) :
    let x := s.trngBytes (if (r.op 2).toNat = 0 then 8 else 4)
    s.vslotFill r n =
      (x.2.loadSlot n { kind := (r.op 2).toNat, key := x.1, origin := 0, bound := 0, holder := [] }).fail r 0x00 :=
  (if_neg (by rw [h]; decide)).trans ((if_neg (by rw [hv]; decide)).trans (if_neg (by rw [ht]; decide)))

theorem State.vslotImport_locked {n : Nat} (h : s.dbgLock = true) : s.vslotImport r n = s.fail r 0x40 := if_pos h

theorem State.vslotImport_taken {n : Nat} (h : s.dbgLock = false) (hv : (s.vslot n).isSome = true) :
    s.vslotImport r n = s.fail r 0x1F :=
  (if_neg (by rw [h]; decide)).trans (if_pos hv)

section
variable {n : Nat} (h : s.dbgLock = false) (hv : s.vslot n = none)
include h hv

theorem State.vslotImport_noSession (hk : s.sessionKey (fld (r.op 4) 0 32) (r.op 3).toNat = none) :
    s.vslotImport r n = s.fail r 0x44 := by
  refine (if_neg (by rw [h]; decide)).trans ((if_neg (by rw [hv]; decide)).trans ?_)
  rw [hk]

variable {x : Session} {kek : List Byte} {l : Loc}
  (hk : s.sessionKey (fld (r.op 4) 0 32) (r.op 3).toNat = some (x, kek)) (hl : s.moverLoc (r.op 2) 72 = some l)
  (ht : ((s.touch (l, 72)).findReq r.core r.ticket).isSome = true)
include hk hl ht

theorem State.vslotImport_bad (hi : importKey kek ((s.touch (l, 72)).readLoc l 72) = none) :
    s.vslotImport r n = (s.touch (l, 72)).fail r 0x43 := by
  refine (if_neg (by rw [h]; decide)).trans ((if_neg (by rw [hv]; decide)).trans ?_)
  rw [hk]
  dsimp only
  rw [hl]
  refine (State.withRead_one _ ht).trans ?_
  rw [hi]

theorem State.vslotImport_imports {kind : Nat} {key : List Byte}
    (hi : importKey kek ((s.touch (l, 72)).readLoc l 72) = some (kind, key)) :
    s.vslotImport r n = ((s.touch (l, 72)).loadSlot n
      { kind := kind, key := key, origin := 1, bound := 0, holder := (toBytes 48 x.leaf.toNat).take 32 }).fail r 0x00 := by
  refine (if_neg (by rw [h]; decide)).trans ((if_neg (by rw [hv]; decide)).trans ?_)
  rw [hk]
  dsimp only
  rw [hl]
  refine (State.withRead_one _ ht).trans ?_
  rw [hi]
  rfl

end

theorem State.vslotBind_empty {n : Nat} (hv : s.vslot n = none) : s.vslotBind r n = s.fail r 0x40 := by
  unfold State.vslotBind
  rw [hv]

section
variable {n : Nat} {v : VSlot} (hv : s.vslot n = some v)
include hv

theorem State.vslotBind_unbinds (h : fld (r.op 2) 0 16 = 0) : s.vslotBind r n = (s.bindSlot n 0).fail r 0x00 := by
  unfold State.vslotBind
  rw [hv]
  exact if_pos h

variable (h : fld (r.op 2) 0 16 ≠ 0)
include h

theorem State.vslotBind_mac (hk : v.kind ≠ 0) : s.vslotBind r n = s.fail r 0x41 := by
  unfold State.vslotBind
  rw [hv]
  exact (if_neg h).trans (if_pos hk)

variable (hk : v.kind = 0)
include hk

theorem State.vslotBind_taken {m : Nat} (hm : s.slotOfNs (fld (r.op 2) 0 16) = some m) (hne : m ≠ n) :
    s.vslotBind r n = s.fail r 0x1F := by
  unfold State.vslotBind
  rw [hv]
  refine (if_neg h).trans ((if_neg (not_not_intro hk)).trans ?_)
  rw [hm]
  exact if_pos (decide_eq_true hne)

theorem State.vslotBind_binds (hm : s.slotOfNs (fld (r.op 2) 0 16) = none ∨ s.slotOfNs (fld (r.op 2) 0 16) = some n) :
    s.vslotBind r n = (s.bindSlot n (fld (r.op 2) 0 16)).fail r 0x00 := by
  unfold State.vslotBind
  rw [hv]
  refine (if_neg h).trans ((if_neg (not_not_intro hk)).trans ?_)
  rcases hm with hm | hm <;> rw [hm]
  · rfl
  · exact if_neg (by simp)

end

/-! ## Parity (R136) and almanac records (R541) -/

section
variable {x y : Loc} (hx : s.moverLoc (r.op 0) r.parLen = some x) (hy : s.moverLoc (r.op 1) r.parLen = some y)
  (ht : (((s.touch (x, r.parLen)).touch (y, r.parLen)).findReq r.core r.ticket).isSome = true)
include hx hy ht

/-- On clean bytes the product of the source is added to the destination. -/
theorem exec_parity_adds (hr : s.started c t (fun p => p = .pxor ∨ p = .pmac) = some r) (hi : bit r.imm 0 = false)
    (px : ((s.touch (x, r.parLen)).touch (y, r.parLen)).poisonIn x r.parLen = [])
    (py : ((s.touch (x, r.parLen)).touch (y, r.parLen)).poisonIn y r.parLen = []) :
    let u := (s.touch (x, r.parLen)).touch (y, r.parLen)
    exec (.parityDone c t) s = .next ((u.writeLoc x (List.zipWith
      (fun a b => a ^^^ parMul (if r.prim = .pmac then fld (r.op 3) 0 8 else 1) b)
      (u.readLoc x r.parLen) (u.readLoc y r.parLen))).fail r 0x00) := by
  refine (onReq_some _ hr).trans (congrArg _ ?_)
  dsimp only
  rw [hx, hy, hi]
  refine (State.withRead_two _ ht).trans ?_
  rw [if_neg Bool.false_ne_true, if_neg Bool.false_ne_true, px, py, State.carryPoison_nil, State.carryPoison_nil]
  rfl

/-- On clean bytes the two places are compared. -/
theorem exec_pcheck_compares (hr : s.started c t (· = .pcheck) = some r)
    (px : ((s.touch (x, r.parLen)).touch (y, r.parLen)).poisoned x r.parLen = false)
    (py : ((s.touch (x, r.parLen)).touch (y, r.parLen)).poisoned y r.parLen = false) :
    let u := (s.touch (x, r.parLen)).touch (y, r.parLen)
    exec (.parityCheckDone c t) s = .next ((firstDiff (u.readLoc x r.parLen) (u.readLoc y r.parLen)).elim
      (u.fail r 0x00) (fun o => u.complete r 0x31 [w64 o])) := by
  refine (onReq_some _ hr).trans (congrArg _ ?_)
  dsimp only
  rw [hx, hy]
  refine (State.withRead_two _ ht).trans ?_
  rw [px, py, if_neg (by decide)]
  cases firstDiff _ _ <;> rfl

end

theorem exec_arec_durable {n : Nat} (hr : s.started c t (· = .arec) = some r) (hd : s.alm.done = [(c, t, n)]) :
    exec (.almanacRecordDone c t) s = .next (((s.putAlm { s.alm with done := [] }) : State).complete r 0x00 [w64 n]) := by
  refine (onReq_some _ hr).trans (congrArg _ ?_)
  dsimp only
  rw [hd]
  simp [ocDone]

end

/-! ## The TRNG (R500) -/

/-- Restarts of the TRNG within the last second. -/
def State.recentRestarts (s : State) : List W64 := s.trngRestarts.filter (fun x => s.tick.toNat - x.toNat < s.secondTicks)

theorem exec_trng_restarts {s : State} (h : s.recentRestarts.length < 3) : exec .trngHealthFail s =
    .next (((s.setRfld vaultStat 2 1 0).putTrngRestarts (s.recentRestarts ++ [s.tick])).putDrbgLeft none) :=
  congrArg Host.Outcome.next (if_pos h)

theorem exec_trng_spent {s : State} (h : 3 ≤ s.recentRestarts.length) (hd : s.drbgLeft = none) :
    exec .trngHealthFail s = .next ((s.putTrngRestarts s.recentRestarts).putDrbgLeft (some (2 ^ 24))) := by
  refine congrArg Host.Outcome.next ((if_neg (Nat.not_lt.mpr h)).trans ?_)
  rw [hd]
  rfl

theorem State.trngRestarts_put (s : State) (l : List W64) (k : Option Nat) :
    ((s.putTrngRestarts l).putDrbgLeft k).trngRestarts = l := rfl

theorem State.drbgLeft_put (s : State) (k : Option Nat) : (s.putDrbgLeft k).drbgLeft = k := rfl

theorem State.drbg_of_fst {s : State} {n : Nat} (h : (s.drbg n).1 = true) : s.drbg n = (true, (s.drbg n).2) := Prod.ext h rfl

/-- Settles O43: each clause is one way in which a request of the cipher engine, the vault or the parity engine ends. -/
theorem cipherParityResults : Obligations.CipherParityResults := by
  intro s c t r
  refine ⟨fun hr => ⟨exec_xts_empty hr, fun v => exec_xts_mac hr, fun v src dst h hk hu hs hf hd ht =>
      exec_xts_ciphers hr h hk (State.drbg_of_fst hu) hs hf hd ht⟩,
    fun v src hr h hk hu hs ht hp => exec_cmac_reads hr h hk (State.drbg_of_fst hu) hs ht hp, fun hr => ⟨?_, ?_, ?_, ?_, ?_, ?_⟩,
    fun x y hx hy ht px py => ⟨fun hr hi => ⟨_, exec_parity_adds hx hy ht hr hi px py, rfl⟩, fun hr px' py' => ?_⟩,
    fun n => exec_arec_durable, fun h => ⟨_, exec_trng_restarts h, State.trngRestarts_put _ _ _, State.drbgLeft_put _ _⟩,
    fun h hd => ⟨_, exec_trng_spent h hd, State.drbgLeft_put _ _⟩⟩
  · exact exec_vault hr
  · exact exec_vault hr
  · rintro (h | h)
    · exact ⟨fun hl => (exec_vault hr h).trans (congrArg _ (State.vslotFill_locked hl)),
        fun hl hv => (exec_vault hr h).trans (congrArg _ (State.vslotFill_taken hl hv))⟩
    · exact ⟨fun hl => (exec_vault hr h).trans (congrArg _ (State.vslotImport_locked hl)),
        fun hl hv => (exec_vault hr h).trans (congrArg _ (State.vslotImport_taken hl hv))⟩
  · exact fun h hl hv hb => (exec_vault hr h).trans (congrArg _ (State.vslotFill_fills hl hv hb))
  · exact fun h hl hv => ⟨fun hk => (exec_vault hr h).trans (congrArg _ (State.vslotImport_noSession hl hv hk)),
      fun x kek l hk hm ht => ⟨fun hi => (exec_vault hr h).trans (congrArg _ (State.vslotImport_bad hl hv hk hm ht hi)),
        fun kind key hi => (exec_vault hr h).trans (congrArg _ (State.vslotImport_imports hl hv hk hm ht hi))⟩⟩
  · exact fun h => ⟨fun hv => (exec_vault hr h).trans (congrArg _ (State.vslotBind_empty hv)), fun v hv =>
      ⟨fun h0 => (exec_vault hr h).trans (congrArg _ (State.vslotBind_unbinds hv h0)),
        fun h0 hk => (exec_vault hr h).trans (congrArg _ (State.vslotBind_mac hv h0 hk)),
        fun m h0 hk hm hne => (exec_vault hr h).trans (congrArg _ (State.vslotBind_taken hv h0 hk hm hne)),
        fun h0 hk hm => (exec_vault hr h).trans (congrArg _ (State.vslotBind_binds hv h0 hk hm))⟩⟩
  · have compares := exec_pcheck_compares hx hy ht hr px' py'
    dsimp only at compares ⊢
    exact ⟨fun o h => by rw [compares, h]; rfl, fun h => by rw [compares, h]; rfl⟩

end Sys2Proof.Machine
end

section
/-! PROOFS. The statements of 04_storage_primitives.md, eighth part: Span links. -/

namespace Sys2Proof.Machine

/-! ## What sending leaves unchanged -/

/-- A fold whose every step keeps a part of the state keeps it. -/
theorem foldl_keeps {α β : Type} (part : State → α) {f : State → β → State} (hf : ∀ s x, part (f s x) = part s) (l : List β) :
    ∀ s, part (l.foldl f s) = part s := by
  induction l with
  | nil => exact fun _ => rfl
  | cons x l ih => exact fun s => (ih (f s x)).trans (hf s x)

section
variable (s : State) (p : Nat)

theorem State.pumpPort_regs : (s.pumpPort p).regs = s.regs := by
  unfold State.pumpPort
  split <;> rfl

theorem State.sendMsg_regs (m : SpanMsg) : (s.sendMsg p m).regs = s.regs := State.pumpPort_regs _ p

theorem State.enumerate_regs : (s.enumerate p).regs = s.regs := by
  unfold State.enumerate
  split
  · exact State.sendMsg_regs _ p _
  · rfl

theorem State.postRestart_regs : s.postRestart.regs = s.regs := by
  refine foldl_keeps State.regs (fun t d => ?_) _ s
  dsimp only
  split
  · rfl
  · split
    · split
      · exact State.sendMsg_regs _ _ _
      · rfl
    · rfl

theorem SpanPort.pump_rxSeq (n : Nat) : ∀ x : SpanPort, (x.pump n).rxSeq = x.rxSeq := by
  induction n with
  | zero => exact fun _ => rfl
  | succ n ih =>
    intro x
    unfold SpanPort.pump
    split
    · rfl
    · split
      · exact ih _
      · rfl

theorem State.pumpPort_rxSeq : ((s.pumpPort p).sport p).rxSeq = (s.sport p).rxSeq := by
  unfold State.pumpPort
  split
  · rw [State.sport_setSport_self, SpanPort.pump_rxSeq]
  · rfl

end

/-! ## Training (R8, R365, R374) -/

theorem spReg_inj {p q o : Nat} (ho : o < 0x40) (h : spReg p o = spReg q 0) : p = q := by
  unfold spReg sta at h
  omega

/-- The role is no register of a port. -/
theorem idRole_ne_spReg {p o : Nat} (hp : p < 4) (ho : o < 0x40) : idRole ≠ spReg p o := by
  unfold idRole spReg sta
  omega

/-- Leaving PS3 changes nothing at a port whose training result is not kept. -/
theorem State.slowLinks_reg {s : State} {p o : Nat} (hf : (s.sport p).full = none) (ho : ∀ q < 4, q ≠ p → o ≠ spReg q 0) :
    (s.slowLinks false).reg o = s.reg o := by
  unfold State.slowLinks
  split
  · rfl
  · refine (List.foldlRecOn (motive := fun (t : State) => (t.sport p).full = none ∧ t.reg o = s.reg o) _ _ ⟨hf, rfl⟩ ?_).2
    intro t ⟨htf, hto⟩ q hq
    cases h : (t.sport q).full with
    | none => exact ⟨htf, hto⟩
    | some v =>
      have ne : q ≠ p := fun e => by
        rw [e, htf] at h
        cases h
      refine ⟨?_, ?_⟩
      · rw [State.sport_setSport, if_neg ne.symm]
        split
        · exact htf
        · exact htf
      · show State.reg (ite _ _ _) o = s.reg o
        split
        · exact (State.reg_setRfld_ne t 3 4 v (ho q (List.mem_range.mp hq) ne)).trans hto
        · exact hto

theorem State.reg_setSport (s : State) (p : Nat) (x : SpanPort) (o : Nat) : (s.setSport p x).reg o = s.reg o := rfl

theorem State.power_setSport (s : State) (p : Nat) (x : SpanPort) : (s.setSport p x).power = s.power := rfl

theorem State.power_setReg (s : State) (o : Nat) (v : W64) : (s.setReg o v).power = s.power := rfl

/-- The SPAN_LINK word that a training that succeeds leaves (R374). -/
def State.trainedWord (s : State) (p : Nat) (r : TrainResult) : W64 :=
  w64 (3 + r.width.toNat * 2 ^ 3 + r.speed.toNat * 2 ^ 5 + b2n (s.leads r) * 2 ^ 7 + s.rfld (spReg p 0) 8 8 * 2 ^ 8 +
    b2n r.initiator * 2 ^ 16) + w64 (s.rfld (spReg p 0) 32 31 * 2 ^ 32)

/-- The state with a port's training result in its registers; a port that was not up before starts afresh. -/
def State.linkedUp (s : State) (p : Nat) (r : TrainResult) : State :=
  if decide (s.linkState p = 4) then (s.setReg (spReg p 0) (s.trainedWord p r)).setReg (spReg p 8) r.serial
  else ((s.setReg (spReg p 0) (s.trainedWord p r)).setReg (spReg p 8) r.serial).setSport p (portReset p)

/-- The state in which a training has brought a port up, before the port enumerates its chain. -/
def State.trainUp (s : State) (p : Nat) (r : TrainResult) : State :=
  ((((s.linkedUp p r).setSport p { (s.linkedUp p r).sport p with full := none }).slowLinks
    (decide ((s.linkedUp p r).power = 3))).pumpPort p).postRestart

theorem State.trainedWord_fields (s : State) (p : Nat) (r : TrainResult) :
    fld (s.trainedWord p r) 0 3 = 3 ∧ fld (s.trainedWord p r) 3 2 = r.width.toNat ∧ fld (s.trainedWord p r) 5 2 = r.speed.toNat ∧
      fld (s.trainedWord p r) 8 8 = s.rfld (spReg p 0) 8 8 := by
  have hw := r.width.isLt
  have hs := r.speed.isLt
  have hl : b2n (s.leads r) < 2 := by unfold b2n; split <;> decide
  have hi : b2n r.initiator < 2 := by unfold b2n; split <;> decide
  have h8 : s.rfld (spReg p 0) 8 8 < 2 ^ 8 := fld_lt _ _ _
  unfold State.trainedWord
  generalize b2n (s.leads r) = l at *
  generalize b2n r.initiator = i at *
  generalize s.rfld (spReg p 0) 8 8 = m at *
  generalize s.rfld (spReg p 0) 32 31 = d at *
  rw [w64, w64, ← BitVec.ofNat_add, ← w64, fld_w64 _ (by decide), fld_w64 _ (by decide), fld_w64 _ (by decide), fld_w64 _ (by decide)]
  omega

theorem State.trainUp_reg {s : State} {p o : Nat} (r : TrainResult) (hn : s.power ≠ 3) (ho : ∀ q < 4, q ≠ p → o ≠ spReg q 0) :
    (s.trainUp p r).reg o = ((s.setReg (spReg p 0) (s.trainedWord p r)).setReg (spReg p 8) r.serial).reg o := by
  have power : (s.linkedUp p r).power = s.power := by
    unfold State.linkedUp
    split
    · rw [State.power_setReg, State.power_setReg]
    · rw [State.power_setSport, State.power_setReg, State.power_setReg]
  unfold State.trainUp
  rw [State.reg_of_regs (State.postRestart_regs _), State.reg_of_regs (State.pumpPort_regs _ p), power, decide_eq_false hn,
    State.slowLinks_reg (by rw [State.sport_setSport_self]) ho, State.reg_setSport]
  unfold State.linkedUp
  split
  · rfl
  · rw [State.reg_setSport]

section
variable {s : State} {p : Nat} {r : TrainResult} (hp : s.spanPresent p = true) (hd : s.domeOn (2 + p) = true)
  (hr : s.role ≠ 0) (hl : s.linkState p = 1 ∨ s.linkState p = 2 ∨ s.linkState p = 4 ∨ s.linkState p = 5)
include hp hd hr hl

theorem spanTraining_runs : ¬(!s.spanPresent p ∨ !s.domeOn (2 + p) ∨ s.role = 0 ∨ (s.linkState p = 0 ∨ s.linkState p = 3)) := by
  rw [hp, hd]
  simp only [Bool.not_true, Bool.false_eq_true, false_or, not_or]
  omega

theorem exec_spanTraining_failed (hu : r.up = false) : exec (.spanTraining p r) s =
    .next (if s.linkState p = 4 then s.linkDown p 5 else s.setLink p 5).confirmAlone :=
  congrArg Host.Outcome.next ((if_neg (spanTraining_runs hp hd hr hl)).trans (if_pos (by rw [hu]; rfl)))

/-- A training that succeeds brings the port up, and a device that is no worker begins to enumerate its chain. -/
theorem exec_spanTraining_up (hu : r.up = true) (hw : s.isWorker = false) (hn : s.power ≠ 3)
    (hf : s.isManager = true → r.initiator = true → r.farPort = p) :
    exec (.spanTraining p r) s = .next ((s.trainUp p r).enumerate p) := by
  have lt : p < 4 := by
    unfold State.spanPresent at hp
    simp_all
  have idRole_kept : (s.trainUp p r).reg idRole = s.reg idRole := by
    rw [State.trainUp_reg r hn fun q hq _ => idRole_ne_spReg hq (by decide), State.reg_setReg_ne _ _ (idRole_ne_spReg lt (by decide)),
      State.reg_setReg_ne _ _ (idRole_ne_spReg lt (by decide))]
  have role : (s.trainUp p r).role = s.role := congrArg (fld · 2 2) idRole_kept
  have manager : (s.trainUp p r).isManager = s.isManager := by unfold State.isManager; rw [role]
  have worker : (s.trainUp p r).isWorker = s.isWorker := by unfold State.isWorker; rw [role]
  refine congrArg Host.Outcome.next ((if_neg (spanTraining_runs hp hd hr hl)).trans ((if_neg (by rw [hu]; decide)).trans ?_))
  refine (if_neg (c := (s.trainUp p r).isManager = true ∧ _) ?_).trans (if_neg (c := (s.trainUp p r).isWorker = true) ?_)
  · rw [manager]
    exact fun ⟨hm, hi, hne⟩ => hne (hf hm hi)
  · rw [worker, hw]
    decide

end

theorem State.trainUp_link {s : State} {p : Nat} (r : TrainResult) (hn : s.power ≠ 3) :
    (s.trainUp p r).reg (spReg p 0) = s.trainedWord p r := by
  rw [State.trainUp_reg r hn fun q _ hne e => hne (spReg_inj (by decide) e).symm,
    State.reg_setReg_ne _ _ (by unfold spReg sta; omega), State.reg_setReg_self]

theorem State.trainUp_serial {s : State} {p : Nat} (r : TrainResult) (hn : s.power ≠ 3) :
    (s.trainUp p r).reg (spReg p 8) = r.serial := by
  rw [State.trainUp_reg r hn fun q _ hne e => hne (spReg_inj (by decide) e).symm, State.reg_setReg_self]

/-! ## Flits (R367, R369, R372) -/

/-- The port after a flit has acknowledged flits sent and returned credits. -/
def SpanPort.acked (x : SpanPort) (f : Flit) : SpanPort :=
  let y := { x with unacked := x.unacked.filter (fun e => 2048 ≤ (f.ack.toNat + 4096 - e.1) % 4096) }
  if f.credVc.toNat < 3 then
    { y with credit := y.credit.set f.credVc.toNat (y.credit.getD f.credVc.toNat 0 + f.cred.toNat) } else y

theorem SpanPort.acked_rxSeq (x : SpanPort) (f : Flit) : (x.acked f).rxSeq = x.rxSeq := by
  unfold SpanPort.acked
  dsimp only
  split <;> rfl

/-- A flit that fails its check is answered with a NAK of the last sequence number received. -/
def State.nak (s : State) (p : Nat) : State :=
  let u := s.putOut (s.out ++ [.ack p (s.sport p).rxSeq true])
  u.setSport p { u.sport p with
    naks := (u.sport p).naks.filter (fun t => u.tick.toNat - t.toNat < u.usTicks 1000) ++ [u.tick] }

theorem State.nak_naks (s : State) (p : Nat) : s.tick ∈ ((s.nak p).sport p).naks := by
  unfold State.nak
  rw [State.sport_setSport_self]
  exact List.mem_append_right _ (List.mem_singleton_self _)

theorem State.nak_reg (s : State) (p o : Nat) : (s.nak p).reg o = s.reg o := rfl

theorem State.retrain_sport (s : State) (p q : Nat) : (s.retrain p).sport q = s.sport q := by
  unfold State.retrain
  split <;> rfl

theorem State.retrain_reg (s : State) {p o : Nat} (h : o ≠ spReg p 0) : (s.retrain p).reg o = s.reg o := by
  unfold State.retrain
  split
  · exact s.reg_setRfld_ne 0 3 4 h
  · rfl

theorem State.sport_putOut_ite {c : Prop} [Decidable c] (s : State) (o : List Out) (p : Nat) :
    (if c then s.putOut o else s).sport p = s.sport p := by
  split <;> rfl

theorem State.tick_countRfld (s : State) (o lo w n : Nat) : (s.countRfld o lo w n).tick = s.tick := rfl

theorem State.rfld_countRfld (s : State) (o : Nat) {lo w : Nat} (h : lo + w ≤ 64) (n : Nat) :
    (s.countRfld o lo w n).rfld o lo w = satAdd w (s.rfld o lo w) n := by
  unfold State.countRfld
  rw [State.rfld_setRfld_same _ _ h, Nat.mod_eq_of_lt]
  have := Nat.two_pow_pos w
  unfold satAdd
  omega

section
variable {s : State} {p : Nat} {f : Flit} (hp : s.spanPresent p = true) (hl : s.linkState p = 3)
include hp hl

theorem flitReceipt_runs : ¬(!s.spanPresent p ∨ !s.linkUp p) := by
  unfold State.linkUp
  rw [hp, hl]
  decide

theorem exec_flit_bad (hg : f.good = false) : ∃ t : State, exec (.flitReceipt p f) s = .next t ∧
    (t = (s.countRfld (spReg p 0x10) 0 32 1).nak p ∨ t = ((s.countRfld (spReg p 0x10) 0 32 1).nak p).retrain p) := by
  refine ⟨_, congrArg Host.Outcome.next ((if_neg (flitReceipt_runs hp hl)).trans (if_pos (by rw [hg]; rfl))), ?_⟩
  dsimp only
  split
  · exact .inr rfl
  · exact .inl rfl

theorem flit_bad_counts (hg : f.good = false) : ∃ t : State, exec (.flitReceipt p f) s = .next t ∧
    fld (t.reg (spReg p 0x10)) 0 32 = min (fld (s.reg (spReg p 0x10)) 0 32 + 1) (2 ^ 32 - 1) ∧ s.tick ∈ (t.sport p).naks := by
  have count := s.rfld_countRfld (spReg p 0x10) (lo := 0) (w := 32) (by decide) 1
  have naks := (s.countRfld (spReg p 0x10) 0 32 1).nak_naks p
  rw [State.tick_countRfld] at naks
  obtain ⟨t, ht, rfl | rfl⟩ := exec_flit_bad hp hl hg
  · refine ⟨_, ht, ?_, naks⟩
    rw [State.nak_reg]
    exact count
  · refine ⟨_, ht, ?_, ?_⟩
    · rw [State.retrain_reg _ (by unfold spReg sta; omega), State.nak_reg]
      exact count
    · rw [State.retrain_sport]
      exact naks

/-- A good data flit next in sequence is the last one received. -/
theorem flit_next_taken (hg : f.good = true) (hk : f.kind = 1) (hv : f.vc.toNat < 3)
    (hq : f.seq.toNat = ((s.sport p).rxSeq + 1) % 4096) :
    ∃ t : State, exec (.flitReceipt p f) s = .next t ∧ (t.sport p).rxSeq = f.seq.toNat := by
  refine ⟨_, congrArg Host.Outcome.next ((if_neg (flitReceipt_runs hp hl)).trans (if_neg (by rw [hg]; decide))), ?_⟩
  rw [State.pumpPort_rxSeq, if_pos hk]
  refine (congrArg (fun t => (State.sport t p).rxSeq) (if_pos ?_)).trans ?_
  · exact ⟨hq.trans (congrArg (fun n => (n + 1) % 4096) ((s.sport p).acked_rxSeq f).symm), hv⟩
  · exact congrArg SpanPort.rxSeq ((State.sport_putOut_ite _ _ p).trans (State.sport_setSport_self _ p _))

end

/-- Settles O44: each clause is one event of a link. -/
theorem spanLinkResults : Obligations.SpanLinkResults := by
  intro s p r f hp
  refine ⟨fun hd hr hl => ⟨exec_spanTraining_failed hp hd hr hl, fun hu hw hn hf =>
      ⟨_, exec_spanTraining_up hp hd hr hl hu hw hn hf, ?_⟩⟩,
    fun h => ?_, fun h => congrArg Host.Outcome.next (if_pos ⟨hp, h⟩), fun h => congrArg Host.Outcome.next (if_pos ⟨hp, h⟩),
    flit_bad_counts hp, flit_next_taken hp, fun h1 h2 h3 h4 => congrArg Host.Outcome.next (if_pos ⟨h1, h2, h3, h4⟩)⟩
  · unfold State.linkState State.rfld
    rw [State.reg_of_regs (State.enumerate_regs _ p), State.reg_of_regs (State.enumerate_regs _ p), State.trainUp_link r hn,
      State.trainUp_serial r hn]
    obtain ⟨state, width, speed, far⟩ := s.trainedWord_fields p r
    exact ⟨state, width, speed, rfl, far⟩
  · exact congrArg Host.Outcome.next ((if_pos hp).trans (if_pos (decide_eq_true h)))

end Sys2Proof.Machine
end

section
/-! PROOFS. The statements of 04_storage_primitives.md, ninth part: Span messages. -/

namespace Sys2Proof.Machine

/-! ## Writes of several words -/

theorem FMap.setList_append {α : Type} [DecidableEq α] {d : Nat → α} (vs ws : List α) : ∀ (m : FMap α) (k : Nat),
    FMap.setList d m k (vs ++ ws) = FMap.setList d (FMap.setList d m k vs) (k + vs.length) ws := by
  induction vs with
  | nil => exact fun _ _ => rfl
  | cons v vs ih =>
    intro m k
    refine (ih (FMap.set d m k v) (k + 1)).trans ?_
    rw [List.length_cons, Nat.add_assoc, Nat.add_comm 1]
    rfl

/-- The bytes of words written together are the words written one by one. -/
theorem wrBytes_words (ws : List W64) : ∀ (m : FMap Byte) (a : Nat),
    wrBytes m a (ws.flatMap (fun w => toBytes 8 w.toNat)) = wrWords m a ws := by
  induction ws with
  | nil => exact fun _ _ => rfl
  | cons w ws ih =>
    intro m a
    refine (FMap.setList_append _ _ m a).trans ?_
    rw [length_toBytes]
    exact ih _ _

theorem rdW_wrBytes_out (m : FMap Byte) {a b : Nat} {bs : List Byte} (h : b + 8 ≤ a ∨ a + bs.length ≤ b) :
    rdW (wrBytes m a bs) b = rdW m b :=
  congrArg (fun l => w64 (ofBytes l)) (rdBytes_wrBytes_out m a b 8 bs h)

theorem rdW_wrWords (m : FMap Byte) (a : Nat) (ws : List W64) {j : Nat} (hj : j < ws.length) :
    rdW (wrWords m a ws) (a + 8 * j) = ws.getD j 0 := rdWord_wrWords ws m a hj

/-- The words of a horizon slot read back: three header words and, behind them, the tick. -/
theorem slotWords (m : FMap Byte) (a : Nat) (w0 w1 w2 tick : W64) :
    let d := wrBytes (wrBytes m a ([w0, w1, w2].flatMap (fun w => toBytes 8 w.toNat))) (a + 24) (toBytes 8 tick.toNat)
    rdW d a = w0 ∧ rdW d (a + 8) = w1 ∧ rdW d (a + 16) = w2 ∧ rdW d (a + 24) = tick := by
  dsimp only
  have header : ∀ j < 3, rdW (wrBytes (wrBytes m a ([w0, w1, w2].flatMap (fun w => toBytes 8 w.toNat))) (a + 24)
      (toBytes 8 tick.toNat)) (a + 8 * j) = [w0, w1, w2].getD j 0 := fun j hj => by
    rw [rdW_wrBytes_out _ (by omega), wrBytes_words]
    exact rdW_wrWords m a [w0, w1, w2] hj
  exact ⟨header 0 (by decide), header 1 (by decide), header 2 (by decide), rdW_wrNum_same _ _ _⟩

theorem State.writeLoc_dram (s : State) (a : Nat) (bs : List Byte) : (s.writeLoc (.dram a) bs).dram = wrBytes s.dram a bs := rfl

theorem State.writeLoc_dram_tick (s : State) (a : Nat) (bs : List Byte) : (s.writeLoc (.dram a) bs).tick = s.tick := rfl

theorem b2n_lt (b : Bool) : b2n b < 2 := by
  unfold b2n
  split <;> decide

/-- The second word of IDENT gives the role and the versions. -/
theorem identWord_fields {role a b d e : Nat} (hr : role < 4) (ha : a < 2) (hb : b < 2) (hd : d < 256) :
    let w := w64 (role + a * 2 ^ 2 + b * 2 ^ 3 + d * 2 ^ 8 + 0x0100 * 2 ^ 16 + 0x0103 * 2 ^ 32 + e * 2 ^ 48)
    fld w 0 2 = role % 4 ∧ fld w 16 16 = 0x0100 ∧ fld w 32 16 = 0x0103 := by
  dsimp only
  rw [fld_w64 _ (by decide), fld_w64 _ (by decide), fld_w64 _ (by decide)]
  omega

/-! ## What a request's end and a broken route leave unchanged -/

theorem State.sramWrite_resOut (s : State) (arr w n : Nat) : (s.sramWrite arr w n).resOut = s.resOut := by
  unfold State.sramWrite
  dsimp only
  split
  · simp only [State.putSramErr_frame, State.setReg_frame]
  · rfl

theorem State.complete_resOut (s : State) (r : Req) (oc : Byte) (ws : List W64) : (s.complete r oc ws).resOut = s.resOut := by
  have record : (s.writeRecord r ws).resOut = s.resOut := by
    unfold State.writeRecord
    dsimp only
    split
    · simp only [State.putCluster_frame, State.sramWrite_resOut]
    · simp only [State.setCore_frame, State.sramWrite_resOut]
  have unref : ∀ (t : State) (a : Nat), (t.unref a).resOut = t.resOut := fun t a => by
    unfold State.unref
    split
    · split <;> rfl
    · rfl
  unfold State.complete State.postCredited State.dropReq
  simp only [State.setCore_frame, State.putReqs_frame]
  exact (foldl_keeps State.resOut unref r.bufs _).trans record

theorem State.endTx_resOut (s : State) (x : SpanTx) (oc : Byte) (ws : List W64) : (s.endTx x oc ws).resOut = s.resOut := by
  unfold State.endTx
  dsimp only
  split
  · exact State.complete_resOut _ _ _ _
  · rfl

theorem State.creditBack_dram (s : State) (p : Nat) (m : SpanMsg) : (s.creditBack p m).dram = s.dram := rfl

theorem State.creditBack_peerVia (s : State) (p : Nat) (m : SpanMsg) : (s.creditBack p m).peerVia = s.peerVia := rfl

theorem State.breakRoute_keeps (s : State) (m c : Nat) :
    (s.breakRoute m c).members = s.members ∧ (s.breakRoute m c).peerVia = s.peerVia := by
  unfold State.breakRoute
  dsimp only
  split
  · simp only [State.setReg_frame, and_self]
  · split
    · simp only [State.setReg_frame, and_self]
    · exact ⟨rfl, rfl⟩

/-- Where no member is known no chain has one. -/
theorem State.onChain_nil {s : State} (h : ∀ x ∈ s.members, x.2 = none) (c : Nat) : s.onChain c = [] := by
  have none_known : s.members.filterMap (fun p => p.2.map (fun x => (p.1, x))) = [] :=
    List.filterMap_eq_nil_iff.mpr fun x hx => by rw [h x hx]; rfl
  unfold State.onChain
  rw [none_known]
  rfl

/-! ## A worker's place (R376, R380) -/

/-- What ASSIGN gives a worker: its chain, its place, its enclosure record and its identifier. -/
def State.standing (s : State) : Nat × Nat × FMap Byte × W64 := (s.chain, s.position, s.ingot, s.reg idRole)

theorem State.setReg_standing (s : State) {o : Nat} (h : idRole ≠ o) (v : W64) : (s.setReg o v).standing = s.standing := by
  unfold State.standing
  rw [State.reg_setReg_ne _ _ h]
  simp only [State.setReg_frame]

theorem State.setRfld_standing (s : State) {o : Nat} (h : idRole ≠ o) (lo w x : Nat) :
    (s.setRfld o lo w x).standing = s.standing := s.setReg_standing h _

theorem State.putPlace_standing (s : State) (port : Option Nat) (n pos : Nat) :
    (((s.putPortA port).putChain n).putPosition pos).standing = (n, pos, s.ingot, s.reg idRole) := rfl

theorem State.place_of_standing {s : State} {n pos : Nat} {m : FMap Byte} {w : W64} (h : s.standing = (n, pos, m, w)) :
    s.chain = n ∧ s.position = pos ∧ s.ownMember = fld w 8 8 ∧ s.enclosure = rdW m enclRec := by
  unfold State.standing at h
  simp only [Prod.mk.injEq] at h
  obtain ⟨chain, position, ingot, role⟩ := h
  exact ⟨chain, position, congrArg (fld · 8 8) role, congrArg (rdW · enclRec) ingot⟩

theorem State.pumpPort_standing (s : State) (p : Nat) : (s.pumpPort p).standing = s.standing := by
  unfold State.pumpPort
  split <;> rfl

theorem State.sendMsg_standing (s : State) (p : Nat) (m : SpanMsg) : (s.sendMsg p m).standing = s.standing :=
  State.pumpPort_standing _ p

theorem State.sendBack_standing (s : State) (p : Nat) (m : SpanMsg) : (s.sendBack p m).standing = s.standing := by
  unfold State.sendBack
  split
  · split
    · exact State.sendMsg_standing _ _ _
    · rfl
  · exact State.sendMsg_standing _ _ _

theorem State.creditBack_standing (s : State) (p : Nat) (m : SpanMsg) : (s.creditBack p m).standing = s.standing := rfl

theorem idRole_ne_routeReg {m : Nat} (h : m < 256) : idRole ≠ routeReg m := by
  unfold idRole routeReg sta
  omega

theorem State.workerRoutes_standing (s : State) (n pos : Nat) (toA toB : Option Nat) (ver : Nat) :
    (s.workerRoutes n pos toA toB ver).standing = s.standing := by
  refine List.foldlRecOn (motive := fun (t : State) => t.standing = s.standing) _ _ rfl fun t ht i hi => ?_
  have route : ∀ v, (t.setReg (routeReg i) v).standing = s.standing := fun v =>
    (t.setReg_standing (idRole_ne_routeReg (Nat.lt_trans (List.mem_range.mp hi) (by decide))) v).trans ht
  dsimp only
  split
  · exact route _
  · split
    · exact route _
    · split
      · exact ht
      · split
        · exact route _
        · exact route _

/-- The enclosure record as it was just written. -/
theorem State.setEncl_enclosure (s : State) (x : W64) (who : Nat) : rdW (s.setEncl x who).ingot enclRec = x := by
  unfold State.setEncl
  simp only [State.setReg_frame]
  refine (rdW_wrBytes_out _ (.inl (by omega))).trans (rdW_wrNum_same _ _ _)

/-! ## Messages that a port takes -/

theorem onMsgTry_taken {s u : State} {p : Nat} {m : SpanMsg} {ok : Bool} {f : State → Option State} (h : s.Delivered p m)
    (ho : ok = true) (hu : f s = some u) : onMsgTry s p m ok f = .next (u.creditBack p m) := by
  obtain ⟨present, up, mine⟩ := h
  unfold onMsgTry
  rw [present, up, ho, if_neg (by decide), if_pos mine, hu]

theorem spanArrival_ok {m : SpanMsg} (hr : m.resp = false) (ht : 0x10 ≤ m.typ.toNat) :
    (!m.resp && decide (0x10 ≤ m.typ.toNat)) = true := by
  rw [hr, decide_eq_true ht]
  rfl

section
variable {s : State} {p : Nat} {m : SpanMsg} (h : s.Delivered p m)
include h

/-! ## Requests (R138, R386, R387, R391) -/

section
variable (hr : m.resp = false) (ht : 0x10 ≤ m.typ.toNat)
include hr ht

theorem exec_spanArrival_disabled (he : bit (s.reg (sta 0xD 0)) 0 = false) :
    exec (.spanArrival p m) s = .next ((s.portAnswer p m 0x5F).creditBack p m) :=
  show execSpanArrival p m s = _ from onMsgTry_taken h (spanArrival_ok hr ht) (if_pos (by rw [he]; rfl))

variable (he : bit (s.reg (sta 0xD 0)) 0 = true)
include he

theorem exec_spanArrival_noEntry (hv : bit (s.reg (sta 0xD (0x2000 + 8 * m.typ.toNat))) 14 = false) :
    exec (.spanArrival p m) s = .next ((s.portAnswer p m 0x5A).creditBack p m) :=
  show execSpanArrival p m s = _ from
    onMsgTry_taken h (spanArrival_ok hr ht) ((if_neg (by rw [he]; decide)).trans (if_pos (by rw [hv]; rfl)))

/-- The first request of a source at its generation becomes an arrival. -/
theorem exec_spanArrival_new {u : State} (hv : bit (s.reg (sta 0xD (0x2000 + 8 * m.typ.toNat))) 14 = true)
    (hg : m.gen.toNat = FMap.get (fun _ => 0) s.dupGen m.src.toNat) (hd : s.dups.filter (fun d => d.src = m.src.toNat) = [])
    (hf : bit m.flags 1 = false) (hu : s.spanNew p m = some u) : exec (.spanArrival p m) s = .next (u.creditBack p m) := by
  refine show execSpanArrival p m s = _ from onMsgTry_taken h (spanArrival_ok hr ht)
    ((if_neg (by rw [he]; decide)).trans ((if_neg (by rw [hv]; decide)).trans ?_))
  dsimp only
  rw [if_neg (by omega), if_neg (by omega), hd]
  exact (if_neg (by simp)).trans ((if_neg (by rw [hf]; simp)).trans hu)

end

/-! ## Messages of the Span block (R384, R388) -/

theorem exec_ping (hr : m.resp = false) (ht : m.typ = 5) (hv : s.pairVer m.src.toNat ≠ 0) : exec (.ping p m) s =
    .next ((s.sendBack p (s.respTo m 0 [m.hw0] [])).creditBack p m) := by
  refine show execPing p m s = _ from (onMsg_delivered _ h (by rw [hr, ht]; rfl)).trans
    (congrArg (fun t => Host.Outcome.next (State.creditBack t p m)) ?_)
  dsimp only
  rw [if_neg fun known => hv known.2]

theorem exec_route (hr : m.resp = false) (ht : m.typ = 3) : exec (.route p m) s =
    .next (((s.exchangeMap m.hw0 m.hw1).sendBack p (s.respTo m 0 [] [])).creditBack p m) :=
  show execRoute p m s = _ from onMsg_delivered _ h (by rw [hr, ht]; rfl)

theorem exec_ident (hr : m.resp = false) (ht : m.typ = 1) : ∃ w : W64, fld w 0 2 = s.role % 4 ∧ fld w 16 16 = 0x0100 ∧
    fld w 32 16 = 0x0103 ∧ exec (.ident p m) s = .next ((s.sendBack p (s.respTo m 0 [s.reg (sta 0x17 0x20), w, s.enclosure,
      w64 (s.diesFitted % 65536 + s.rawGib * 2 ^ 32)] [])).creditBack p m) := by
  have member : s.enclMember.getD 0xFF < 256 := by
    unfold State.enclMember
    dsimp only
    split
    · exact Nat.mod_lt _ (by decide)
    · decide
  have byte : (if s.isWorker then s.enclMember.getD 0xFF else 0xFF) < 256 := by
    split
    · exact member
    · decide
  obtain ⟨role, low, high⟩ := identWord_fields (e := fld s.presence 56 4) (fld_lt _ _ _ : s.role < 4)
    (b2n_lt (s.isManager && s.enclMember.isSome)) (b2n_lt (s.isManager && decide (s.enclMember = some 1))) byte
  exact ⟨_, role, low, high, show execIdent p m s = _ from onMsg_delivered _ h (by rw [hr, ht]; rfl)⟩

theorem exec_spanResponse {x : SpanTx} {r : Req} (hr : m.resp = true) (hp : m.posted = false) (ht : m.typ = 0x11)
    (hm : m.payload = []) (ho : s.spanOut = [x]) (hn : x.num = m.reqNo) (hg : x.gen = m.gen) (hd : x.dst = m.src.toNat)
    (hx : s.txReq x = some r) (hrt : r.spTyp = 0x11) (hrf : r.spFlags / 4 % 2 = 0) : exec (.spanResponseArrival p m) s =
      .next ((s.endTx x (if m.status.toNat = 0 then 0x00 else 0x54)
        [w64 m.status.toNat, w64 0, m.hw0, m.hw1, m.hw2, m.hw3]).creditBack p m) := by
  refine show execSpanResponseArrival p m s = _ from (onMsg_delivered _ h (by rw [hr, hp, ht]; decide)).trans
    (congrArg (fun t => Host.Outcome.next (State.creditBack t p m)) ?_)
  have found : s.spanOut.find? (fun x => decide (x.num = m.reqNo) && decide (x.gen = m.gen) && decide (x.dst = m.src.toNat)) =
      some x := by
    rw [ho, List.find?_cons_of_pos]
    simp [hn, hg, hd]
  dsimp only
  rw [if_neg (by rw [ht]; decide), found]
  dsimp only
  rw [hx]
  simp [ht, hm, hrt, hrf, ocDone]

/-- A worker without an identifier takes the one it is given. -/
theorem assign_places (hr : m.resp = false) (ht : m.typ = 2) (hw : s.isWorker = true) (he : s.enclosure = 0)
    (hn : s.enclMember = none) : ∃ t : State, exec (.assign p m) s = .next t ∧ t.chain = fld m.hw1 8 2 ∧
      t.position = fld m.hw1 10 5 ∧ t.ownMember = fld m.hw1 0 8 ∧ t.enclosure = m.hw0 := by
  refine ⟨_, show execAssign p m s = _ from onMsg_delivered _ h (by rw [hr, ht]; rfl), ?_⟩
  obtain ⟨present, -, -⟩ := h
  have lt : p < 4 := by
    unfold State.spanPresent at present
    simp_all
  rw [if_neg (by rw [hw, he]; simp), hn]
  dsimp only
  obtain ⟨chain, position, member, enclosure⟩ := State.place_of_standing ((State.creditBack_standing _ p m).trans
    ((State.sendBack_standing _ p _).trans ((State.workerRoutes_standing _ _ _ _ _ _).trans
      ((State.setRfld_standing _ (idRole_ne_routeReg m.src.isLt) 24 8 _).trans
        ((State.setRfld_standing _ (idRole_ne_spReg (o := 0) lt (by decide)) 8 8 _).trans (State.putPlace_standing _ _ _ _))))))
  refine ⟨chain, position, member.trans ?_, enclosure.trans ?_⟩
  · refine (State.rfld_setRfld_disjoint _ idRole (by decide) 1 (.inr (by decide))).trans
      ((State.rfld_setRfld_same _ idRole (by decide) _).trans (Nat.mod_eq_of_lt (fld_lt _ _ _)))
  · simp only [State.setRfld_frame]
    exact State.setEncl_enclosure _ _ _

/-! ## RESTART, HORIZON and LOST (R393, R394, R396) -/

theorem exec_restart (hp : m.posted = true) (ht : m.typ = 7) (ho : s.resOut = []) : exec (.restart p m) s =
    .next (((s.spanOut.filter (fun x => x.dst = m.src.toNat)).foldl (fun s x => s.endTx x 0x54 [0x5C]) s).creditBack p m) := by
  refine show execRestart p m s = _ from (onMsg_delivered _ h (by rw [hp, ht]; decide)).trans
    (congrArg (fun t => Host.Outcome.next (State.creditBack t p m)) ?_)
  dsimp only
  rw [foldl_keeps State.resOut (fun t x => t.endTx_resOut x _ _), ho]
  rfl

theorem horizonSlotWrite_words (hp : m.posted = true) (ht : m.typ = 4) (hs : m.src.toNat ≤ 0x41) (hm : s.isManager = true)
    (hl : m.payload = []) :
    let a := s.rfld (sta 0xD 0x38) 13 26 * 8192 + 8192 * m.src.toNat
    ∃ t : State, exec (.horizonSlotWrite p m) s = .next t ∧ rdW t.dram a = m.hw0 ∧ rdW t.dram (a + 8) = m.hw1 ∧
      rdW t.dram (a + 16) = m.hw2 ∧ rdW t.dram (a + 24) = s.tick := by
  intro a
  refine ⟨_, show execHorizonSlotWrite p m s = _ from onMsg_delivered _ h (by rw [hp, ht, isMemberId, decide_eq_true hs]; rfl), ?_⟩
  rw [State.creditBack_dram, if_neg (by rw [hm]; decide), hl]
  dsimp only
  have words := slotWords (wrBytes s.dram (a + 64) []) a m.hw0 m.hw1 m.hw2 s.tick
  split
  · simp only [State.putMembers_frame, State.writeLoc_dram, State.writeLoc_dram_tick, List.take_nil]
    exact words
  · simp only [State.writeLoc_dram, State.writeLoc_dram_tick, List.take_nil]
    exact words

/-- Where no member is known, LOST changes the route to the peer alone. -/
theorem lost_forgets (hp : m.posted = true) (ht : m.typ = 6) (hm : s.isManager = true) (hn : ∀ x ∈ s.members, x.2 = none) :
    ∃ t : State, exec (.lost p m) s = .next t ∧
      FMap.get (fun _ => 0) t.peerVia (s.chainOf m.src.toNat (fld m.hw0 8 8) (fld m.hw0 0 2)) = 0 := by
  refine ⟨_, show execLost p m s = _ from onMsg_delivered _ h (by rw [hp, ht]; decide), ?_⟩
  generalize hc : s.chainOf m.src.toNat (fld m.hw0 8 8) (fld m.hw0 0 2) = c
  rw [State.creditBack_peerVia, if_neg (by rw [hm]; decide)]
  dsimp only
  rw [hc]
  have members : ∀ u : State, u.members = s.members → ∀ d, u.onChain d = [] := fun u hu =>
    State.onChain_nil (by rw [hu]; exact hn)
  refine (congrArg (fun t : State => FMap.get (fun _ => 0) t.peerVia c) (ite_eq_right_iff.mpr fun _ => ?_)).trans ?_
  · simp only [State.onChain_nil hn, List.filter_nil, List.foldl_nil]
    rw [members ((s.putPeerVia (FMap.erase s.peerVia c)).breakRoute s.peerId c) (State.breakRoute_keeps _ _ _).1]
    rfl
  · simp only [State.onChain_nil hn, List.filter_nil, List.foldl_nil]
    rw [(State.breakRoute_keeps _ _ _).2]
    exact (FMap.get_erase _ c c).trans (if_pos rfl)

end

/-- A request of a program that has waited too long ends (R137). -/
theorem exec_spanRequestTimeout {s : State} {c : CoreId} {t : Ticket} {x : SpanTx}
    (hx : s.spanOut.find? (fun x => decide (x.core = c) && decide (x.ticket = t)) = some x)
    (ht : x.start.toNat + s.rfld (sta 0xD 8) 0 20 ≤ s.tick.toNat) :
    exec (.spanRequestTimeout c t) s = .next (s.endTx x 0x52 []) := by
  refine congrArg Host.Outcome.next ?_
  rw [hx]
  exact if_pos ht

/-- Settles O45: each clause is one message that a device takes. -/
theorem spanMessageResults : Obligations.SpanMessageResults := by
  intro s p m h
  refine ⟨fun hr ht => ⟨exec_spanArrival_disabled h hr ht, exec_spanArrival_noEntry h hr ht,
      fun he hv hg hd hf u hu => exec_spanArrival_new h hr ht he hv hg hd hf hu⟩,
    exec_ping h, exec_ident h, exec_route h, assign_places h, exec_restart h, horizonSlotWrite_words h, lost_forgets h,
    fun x r hr hp ht hm ho hn hg hd hx hrt hrf => exec_spanResponse h hr hp ht hm ho hn hg hd hx hrt hrf,
    fun x c t hx ht => exec_spanRequestTimeout hx ht⟩

end Sys2Proof.Machine
end

section
/-! PROOFS. The statements of 04_storage_primitives.md, tenth part: media care. -/

namespace Sys2Proof.Machine

/-- A block that has been erased: its count rises and it is free, or is retired at the limit (R357). -/
def State.erasedBlk (s : State) (b : Nat) : State :=
  let t := (s.resetBlock b true).putCare { s.care with erases := FMap.set (fun _ => 0) s.care.erases b (s.eraseCount b + 1) }
  if t.params.factor * t.fam.ratedPe ≤ 100 * (s.eraseCount b + 1) then t.retireBlk b else t.setUse b 1

/-- The setting whose sweep found the fewest bits, the lowest among equals. -/
def sweepBest (res : List Nat) : Nat :=
  (List.range 5).foldl (fun b i => if res.getD i 65535 < res.getD b 65535 then i else b) 0

theorem sweepBest_mem (res : List Nat) : sweepBest res ∈ [0, 1, 2, 3, 4] := by
  refine List.foldlRecOn (motive := (· ∈ [0, 1, 2, 3, 4])) (List.range 5) _ (by decide) fun b hb i hi => ?_
  split
  · exact hi
  · exact hb

theorem sweepBest_first {a b c d e : Nat} (hb : a ≤ b) (hc : a ≤ c) (hd : a ≤ d) (he : a ≤ e) : sweepBest [a, b, c, d, e] = 0 := by
  have least : ∀ i ∈ List.range 5, a ≤ [a, b, c, d, e].getD i 65535 := by
    simp [List.range, List.range.loop, *]
  refine List.foldlRecOn (motive := (· = 0)) (List.range 5) _ rfl fun k hk i hi => ?_
  rw [hk]
  exact if_neg (Nat.not_lt.mpr (least i hi))

theorem State.retireBlk_sanit (s : State) (b : Nat) : (s.retireBlk b).care.sanit = s.care.sanit := by
  unfold State.retireBlk
  split <;> rfl

/-- A block that a failed erase leaves: unusable, counted and retired (R125, R357). -/
def State.failedBlk (s : State) (b : Nat) : State := ((s.resetBlock b false).hcount 10 1).retireBlk b

theorem State.failedBlk_sanit (s : State) (b : Nat) : (s.failedBlk b).care.sanit = s.care.sanit := State.retireBlk_sanit _ b

theorem State.blkUse_setUse (s : State) (b u : Nat) : (s.setUse b u).blkUse b = u := by
  unfold State.blkUse State.setUse
  exact FMap.get_set_self _ _ _

theorem State.eraseCount_setUse (s : State) (b u k : Nat) : (s.setUse b u).eraseCount k = FMap.get (fun _ => 0) s.care.erases k := rfl

/-- Below the limit a block that has been erased is free and its count has risen. -/
theorem State.erasedBlk_free {s : State} {b : Nat} (h : 100 * (s.eraseCount b + 1) < s.params.factor * s.fam.ratedPe) :
    (s.erasedBlk b).care.sanit = s.care.sanit ∧ (s.erasedBlk b).blkUse b = 1 ∧
      (s.erasedBlk b).eraseCount b = s.eraseCount b + 1 := by
  have free : s.erasedBlk b = State.setUse _ b 1 := if_neg (Nat.not_le.mpr h)
  rw [free]
  exact ⟨rfl, State.blkUse_setUse _ b 1,
    (State.eraseCount_setUse _ b 1 b).trans (FMap.get_set_self s.care.erases b (s.eraseCount b + 1))⟩

theorem sweep_not_better {a b c d e : Nat} (ha : c < a + 8) (hb : c < b + 8) (hd : c < d + 8) (he : c < e + 8) :
    ¬[a, b, c, d, e].getD (sweepBest [a, b, c, d, e]) 65535 + 8 ≤ [a, b, c, d, e].getD 2 65535 := by
  have best := sweepBest_mem [a, b, c, d, e]
  simp only [List.mem_cons, List.not_mem_nil, or_false] at best
  rcases best with h | h | h | h | h <;> rw [h] <;> simp <;> omega

/-- The state in which a sweep is no longer queued. -/
def State.unqueueSweep (s : State) (k : Nat × Nat × Nat) : State := s.putCare { s.care with sweeps := s.care.sweeps.filter (· ≠ k) }

theorem State.unqueueSweep_sweeps (s : State) (k : Nat × Nat × Nat) : k ∉ (s.unqueueSweep k).care.sweeps := by
  unfold State.unqueueSweep
  simp

theorem State.unqueueSweep_reg (s : State) (k : Nat × Nat × Nat) (o : Nat) : (s.unqueueSweep k).reg o = s.reg o := rfl

section
variable {s : State} (hu : s.up)
include hu

/-! ## The patrol (R336, R349, R350) -/

/-- A patrol that reads a frame of no block's first page counts the read and cares for a weak frame. -/
theorem exec_patrolRead {loc : W64} {f : FrameSense} (hl : s.locOk loc = true) (hc : s.chanUp (locChan loc) = true)
    (hb : s.blkUse (locBlk loc) = 2) (hp : locPage loc ≠ 0) :
    let u := (s.hcount 14 1).hcount 4 (if 64 < f.zeros ∧ f.hard.any (fun n => decide (0 < n)) = true then 1 else 0)
    let t := if senseWeak f then (u.queueRefresh loc).queueSweep loc else u
    t.extentAt loc = none → exec (.patrolRead loc [f] []) s = .next t := by
  intro u t ht
  have corrected : ([f].filter (fun x => decide (64 < x.zeros) && x.hard.any (fun n => decide (0 < n)))).length =
      if 64 < f.zeros ∧ f.hard.any (fun n => decide (0 < n)) = true then 1 else 0 := by
    simp only [List.filter_cons, List.filter_nil, Bool.and_eq_true, decide_eq_true_eq]
    split <;> rfl
  refine congrArg Host.Outcome.next ((if_neg (by rw [hu, hl, hc]; simp)).trans ?_)
  rw [hb]
  dsimp only
  rw [corrected, decide_eq_false hp]
  have weak : ([f].any fun x => senseWeak x) = senseWeak f := by simp
  rw [weak]
  simp only [List.foldl_nil, Bool.false_and, Bool.false_eq_true, if_false]
  split
  · next h => exact absurd (h.symm.trans ht) (by simp)
  · rfl

/-! ## Level sweeps (R336) -/

/-- A sweep leaves the queue, and its best setting is written where it improves on the present one by at least 8 bits. -/
theorem exec_levelSweep {ch die grp : Nat} {res : List Nat} (hk : (ch, die, grp) ∈ s.care.sweeps) (hc : s.chanUp ch = true)
    (hg : grp ≤ 31) (hr : res.length = 5) :
    let r := chReg ch (0x800 + 8 * ((32 * die + grp) / 8))
    let lo := 8 * ((32 * die + grp) % 8)
    exec (.levelSweep ch die grp res) s = .next (if res.getD (sweepBest res) 65535 + 8 ≤ res.getD 2 65535 then
      (s.unqueueSweep (ch, die, grp)).setRfld r lo 8 (min 255 (s.rfld r lo 8 + sweepBest res - 2))
      else s.unqueueSweep (ch, die, grp)) := by
  refine congrArg Host.Outcome.next (if_neg ?_)
  rw [hu, hc, hr, List.contains_iff_mem.mpr hk, decide_eq_false (Nat.not_lt.mpr hg)]
  decide

/-! ## Extents (R343, R347, R350, R351) -/

theorem exec_closingVerify {x : Nat} {e : Extent} (bad : List W64) (hx : s.extent x = some e) (hc : e.closed ≠ none)
    (hv : e.verify = true) : exec (.closingVerify x bad []) s =
      .next ((s.setExtent x (some { e with verify := false, refresh := e.refresh || !bad.isEmpty })).hcount 17
        (16 * s.fam.planes * s.rowCount e.mode)) := by
  refine congrArg Host.Outcome.next ?_
  rw [hx]
  refine (if_neg (by rw [hu, hv]; simpa using hc)).trans ?_
  simp only [List.isEmpty_nil, Bool.not_true, Bool.or_false, List.foldl_nil]
  rfl

theorem exec_extentRelocation {n : Nat} {x : Extent} {t : State} (hx : s.extent n = some x) (hf : x.refresh = true)
    (hc : x.closed ≠ none) (ht : s.relocate n x false = some t) : exec (.extentRelocation n) s = .next t := by
  refine congrArg Host.Outcome.next ?_
  rw [hx]
  refine (if_neg (by rw [hu, hf]; simpa using hc)).trans ?_
  rw [ht]
  rfl

theorem exec_reclaim {n : Nat} {x : Extent} {t : State} (hf : s.freeExtents < max 16 (ceilDiv s.committedExtents 200))
    (hv : s.victim = some (n, x)) (ht : s.relocate n x false = some t) :
    exec .reclaim s = .next (t.hcount 16 (s.validGrains n x).length) := by
  refine congrArg Host.Outcome.next ((if_neg (by rw [hu]; exact fun h => h.elim (by simp) (Nat.not_le.mpr hf))).trans ?_)
  rw [hv]
  dsimp only
  rw [ht]

theorem exec_staticWearLevelling {g n : Nat} {x : Extent} {t : State} (hw : s.params.spread < s.wearSpread g)
    (hc : s.coldest g = some (n, x)) (ht : s.relocate n x true = some t) : exec (.staticWearLevelling g) s =
      .next (((t.putCare { t.care with wearing := g :: t.care.wearing.filter (· ≠ g) }) : State).hcount 15 1) := by
  have above : ¬s.wearSpread g ≤ if s.care.wearing.contains g then s.params.spread - s.params.spread / 4 else s.params.spread := by
    split <;> omega
  refine congrArg Host.Outcome.next ((if_neg (by rw [hu]; decide)).trans ((if_neg above).trans ?_))
  rw [hc]
  dsimp only
  rw [ht]

/-! ## Pending erases (R353, R357) -/

/-- A block that awaits its erase is erased once its intent record is written. -/
theorem exec_pendingErase {b : Nat} {u : State} (ok : Bool)
    (ho : s.ingotOpen = true) (hb : s.blkUse b = 3) :
    let w := mkLoc (b / 65536 / 4 / 64) (b / 65536 / 4 % 64 / 8) (b / 65536 / 4 % 8) (b / 65536 % 4) (b % 65536) 0 0 0 s.ownMember
    s.locOk w = true → s.chanUp (locChan w) = true → s.dieIntents (locChan w) (locDie w) < 32 →
    s.writeIntent (eraseReq w) = some u → exec (.pendingErase b ok) s =
      .next (let t := if ok then u.erasedBlk b else u.failedBlk b
        if t.care.sanit = 2 ∧ (t.blocksOf 3).isEmpty then t.putCare { t.care with sanit := 1 } else t) := by
  intro w hl hc hd hw
  refine congrArg Host.Outcome.next ((if_neg ?_).trans ?_)
  · rw [hu, ho, hb, hl, hc, decide_eq_false (Nat.not_le.mpr hd)]
    decide
  · rw [hw]
    rfl

end

/-- Settles O50: each clause is one duty of the media's care. -/
theorem careResults : Obligations.CareResults := by
  intro s hu
  refine ⟨fun loc f hl hc hb hp => ?_, fun ch die grp a b c d e hk hc hg => ?_, fun x e bad hx hc hv => exec_closingVerify hu bad hx hc hv,
    fun n x t hx hf hc ht => exec_extentRelocation hu hx hf hc ht, fun n x t hf hv ht => exec_reclaim hu hf hv ht,
    fun g n x t hw hc ht => exec_staticWearLevelling hu hw hc ht, fun b u => ?_⟩
  · have patrol := exec_patrolRead hu hl hc hb hp (f := f)
    refine ⟨fun hw ht => ?_, fun hw ht => ?_⟩
    · rw [hw] at patrol
      exact patrol ht
    · rw [hw] at patrol
      exact patrol ht
  · refine ⟨_, exec_levelSweep hu hk hc hg rfl, ?_, fun ha hb hd he => ?_, fun ha hb hd he => ?_⟩
    · split
      · simp only [State.setRfld_frame]
        exact s.unqueueSweep_sweeps _
      · exact s.unqueueSweep_sweeps _
    · rw [if_neg (sweep_not_better ha hb hd he), State.unqueueSweep_reg]
    · have level : fld (s.reg (chReg ch (0x800 + 8 * ((32 * die + grp) / 8)))) (8 * ((32 * die + grp) % 8)) 8 < 2 ^ 8 := fld_lt _ _ _
      rw [sweepBest_first hb (Nat.le_of_add_right_le ha) hd he, if_pos (by exact ha)]
      refine (State.rfld_setRfld_same _ _ (by omega) _).trans ?_
      unfold State.rfld
      omega
  · intro w ho hb hl hc hd hw hs
    have erase := fun ok => exec_pendingErase hu ok ho hb hl hc hd hw
    refine ⟨(erase false).trans (congrArg _ (if_neg ?_)), fun hn => ?_⟩
    · exact fun h => hs ((u.failedBlk_sanit b).symm.trans h.1)
    · obtain ⟨sanit, use, count⟩ := State.erasedBlk_free hn
      exact ⟨_, (erase true).trans (congrArg _ (if_neg fun h => hs (sanit.symm.trans h.1))), use, count⟩

end Sys2Proof.Machine
end

section
/-! PROOFS. The statements of 04_storage_primitives.md, eleventh part: the host port. -/

namespace Sys2Proof.Machine

theorem State.faulted_setCtrl (s : State) (f : Nat) (c : Ctrl) : (s.setCtrl f c).faulted = s.faulted := rfl

theorem State.boot_setCtrl (s : State) (f : Nat) (c : Ctrl) : (s.setCtrl f c).boot = s.boot := rfl

section
variable {s : State} {f y n : Nat} {v : BitVec 32}

/-! ## Doorbells (R228) -/

theorem exec_sqTail_missing (h : s.sqOf f y = none) : exec (.sqTailDoorbell f y v) s = .next (s.asyncEvent f badDoorbell) := by
  refine congrArg Host.Outcome.next ?_
  rw [h]

theorem exec_cqHead_missing (h : s.cqOf f y = none) : exec (.cqHeadDoorbell f y v) s = .next (s.asyncEvent f badDoorbell) := by
  refine congrArg Host.Outcome.next ?_
  rw [h]

theorem exec_sqTail {q : SQ} (h : s.sqOf f y = some (n, q)) : exec (.sqTailDoorbell f y v) s = .next (
    if q.entries ≤ fld v 0 16 then s.asyncEvent f badDoorbellValue
    else (s.setSq n (some { q with tail := fld v 0 16 })).doorbellEvent n q) := by
  refine congrArg Host.Outcome.next ?_
  rw [h]

theorem exec_cqHead {q : CQ} (h : s.cqOf f y = some (n, q)) : exec (.cqHeadDoorbell f y v) s = .next (
    if q.entries ≤ fld v 0 16 then s.asyncEvent f badDoorbellValue
    else s.setCq n (some { q with head := fld v 0 16 })) := by
  refine congrArg Host.Outcome.next ?_
  rw [h]

/-! ## Fetching (R91, R231) -/

/-- The entry of the queue that arbitration picks is fetched when it needs no hazard entry and a buffer is free. -/
theorem exec_sqFetch {h : Nat} {a : Arb} {x : SQ} {e : BitVec 512} {pre : List Byte} (hg : s.gap = false) (hl : s.fetchLeft ≠ 0)
    (hp : pre.length ≤ 384) (hd : s.domeOn 1 = true) (hh : s.holderPick = some h) (hq : s.queuePick h = some (n, a))
    (hx : s.sq n = some x) (ho : hazOpcode (fld e 0 8) = false ∨ x.hostId = 0) (hb : (s.alloc 63 0 false).isSome = true) :
    exec (.sqFetch n e pre) s = .next ((s.fetchEntry n x e pre none).chargeFetch h a) := by
  have runs : ¬(s.gap ∨ s.fetchLeft = 0 ∨ 384 < pre.length ∨ !s.domeOn 1) := by
    rw [hg, hd]
    simp only [Bool.not_true, Bool.false_eq_true, false_or, or_false]
    omega
  have unordered : ¬(hazOpcode (fld e 0 8) ∧ x.hostId ≠ 0) := fun ⟨hz, hi⟩ => ho.elim (fun h => by rw [h] at hz; cases hz) hi
  have buffer : ¬(s.alloc 63 0 false).isNone := by
    rw [Option.isNone_iff_eq_none]
    exact fun h => by rw [h] at hb; cases hb
  refine congrArg Host.Outcome.next ((if_neg runs).trans ?_)
  rw [hh]
  dsimp only
  rw [hq]
  dsimp only
  rw [hx]
  exact (if_neg (not_not_intro rfl)).trans ((if_neg unordered).trans (if_neg buffer))

/-! ## Resets (R217, R490, R492) -/

theorem exec_functionLevelReset (hu : s.up) (hf : s.funcExists f = true) :
    exec (.functionLevelReset f) s = .next ((s.endTest 2).startReset 0 f none 0) :=
  congrArg Host.Outcome.next (if_pos ⟨hf, by rw [hu]; rfl⟩)

theorem exec_controllerDisable (hu : s.up) (hf : s.funcExists f = true) (he : bit (s.ctrl f).cc 0 = true)
    (hr : (s.ctrl f).rdy = true) : exec (.controllerDisable f) s =
      .next (((s.endTest 2).setCtrl f { s.ctrl f with cc := setBit (s.ctrl f).cc 0 false }).startReset 1 f none 0) := by
  refine congrArg Host.Outcome.next ((if_neg ?_).trans ((if_neg ?_).trans (if_neg ?_)))
  · rw [hf, he]
    decide
  · rw [hu]
    decide
  · rw [hr]
    decide

/-- The queues that stay when those of a reset are deleted are other functions'. -/
theorem State.dropQueues_func {x : Reset} (hx : x.slice = none) :
    (∀ m q, (m, some q) ∈ (s.dropQueues x).sqs → q.func ≠ x.func) ∧ (∀ m q, (m, some q) ∈ (s.dropQueues x).cqs → q.func ≠ x.func) := by
  unfold State.dropQueues
  rw [hx]
  refine ⟨fun m q h => ?_, fun m q h => ?_⟩
  · have stays := (List.mem_filter.mp h).2
    simpa using stays
  · have stays := (List.mem_filter.mp h).2
    simpa using stays

theorem Ctrl.afterReset_flr (c : Ctrl) : bit (c.afterReset true).cc 0 = false ∧ (c.afterReset true).rdy = false := by
  unfold Ctrl.afterReset
  exact ⟨show bit (0 : BitVec 32) 0 = false by decide, rfl⟩

/-- The state after the end of a Function Level Reset, alone in the device. -/
def State.flrEnded (s : State) (x : Reset) : State :=
  let u := (s.dropQueues x).putResets []
  let w := u.setCtrl x.func ((u.ctrl x.func).afterReset true)
  (w.putResets (w.resets.filter (fun r => r.func ≠ x.func))).putEvents (w.events.filter (fun p => p.1 ≠ x.func))

theorem exec_resetEnd {x : Reset} (hs : s.resets = [x]) (hr : x.reported = true) (hl : x.slice = none)
    (hk : x.kind = 0) (hc : s.cmds.any (fun d => x.holds d && d.unsettled) = false) (hb : s.resetBusy x = false)
    (hf : s.framesBusy x.func = false) : exec (.resetEnd x.token) s = .next (s.flrEnded x) := by
  have found : s.resets.find? (fun r => r.token = x.token) = some x := by simp [hs]
  refine congrArg Host.Outcome.next ?_
  rw [found]
  refine (if_neg ?_).trans ?_
  · rw [hr, hc, hb, hf]
    decide
  · have alone : s.resets.filter (fun r => r.token ≠ x.token) = [] := by simp [hs]
    rw [alone, hl]
    simp only [hk, decide_true]
    exact if_neg (by simp)

theorem State.flrEnded_effects {x : Reset} (hl : x.slice = none) : (s.flrEnded x).resets = [] ∧
    (∀ m q, (m, some q) ∈ (s.flrEnded x).sqs → q.func ≠ x.func) ∧ (∀ m q, (m, some q) ∈ (s.flrEnded x).cqs → q.func ≠ x.func) ∧
    bit ((s.flrEnded x).ctrl x.func).cc 0 = false ∧ ((s.flrEnded x).ctrl x.func).rdy = false := by
  obtain ⟨sqs, cqs⟩ := s.dropQueues_func hl
  have ctrl : (s.flrEnded x).ctrl x.func = (((s.dropQueues x).putResets []).ctrl x.func).afterReset true :=
    State.ctrl_setCtrl_self _ _ _
  obtain ⟨disabled, notReady⟩ := (((s.dropQueues x).putResets []).ctrl x.func).afterReset_flr
  rw [ctrl]
  exact ⟨rfl, sqs, cqs, disabled, notReady⟩

/-! ## Enables and shutdowns (R216, R217) -/

/-- An enabled controller whose configuration is supported becomes ready with its admin queues; another shows CFS. -/
theorem State.readyCtrl_eq {c : Ctrl} (hc : s.ctrl f = c) (he : bit c.cc 0 = true) (hf : c.cfs = false) :
    s.readyCtrl f = if c.cfgOk then ((s.setCtrl f { c with rdy := true }).setSq f (some (adminSq f c))).setCq f (some (adminCq f c))
      else s.setCtrl f { c with cfs := true } := by
  unfold State.readyCtrl
  rw [hc]
  exact if_neg (by rw [he, hf]; decide)

theorem exec_controllerEnable {cc aqa : BitVec 32} {asq acq : W64} (sg : BitVec 2) (st : NandPins) (hu : s.up)
    (hs : s.boot.strapped = true) (hp : s.boot.perstLow = false) (hw : s.boot.pwrFail = false) (hc : s.ctrlUp f = true)
    (he : bit (s.ctrl f).cc 0 = false) (hr : s.resets = []) (hf : s.faulted = false) :
    exec (.controllerEnable f cc aqa asq acq sg st) s = .next ((s.setCtrl f { s.ctrl f with
      cc := setBit cc 0 true, aqa := aqa, asq := asq, acq := acq, rdy := false, cfs := false, shst := 0 }).readyCtrl f) := by
  refine congrArg Host.Outcome.next ((if_neg ?_).trans ((if_neg ?_).trans (if_neg ?_)))
  · rw [hs, hp, hw, hc, he, hr, hf]
    simp
  · exact fun h => by
      rw [← State.faulted_setCtrl, h] at hf
      cases hf
  · exact fun h => by
      rw [State.boot_setCtrl, hu] at h
      cases h

theorem State.levelCopy_ctrls : s.levelCopy.ctrls = s.ctrls := rfl

theorem exec_shutdownNotification (hu : s.up) (he : s.funcExists f = true) (hl : (s.ctrl f).live = true) (hn : (s.ctrl f).shst = 0) :
    ∃ t : State, exec (.shutdownNotification f) s = .next t ∧ (t.ctrl f).shst = 1 := by
  have shows : ((s.setCtrl f { s.ctrl f with shst := 1 }).ctrl f).shst = 1 := by rw [State.ctrl_setCtrl_self]
  refine ⟨_, congrArg Host.Outcome.next (if_neg (by rw [hu, he, hl, hn]; decide)), ?_⟩
  dsimp only
  split
  · unfold State.ctrl
    rw [State.levelCopy_ctrls]
    exact shows
  · exact shows

/-! ## Configuration requests (R213, R492) -/

theorem exec_configuration_inReset (op : CfgOp) (hf : s.funcExists f = true)
    (hr : s.resets.any (fun r => decide (r.func = f) && decide (r.kind = 0)) = true) :
    exec (.configurationRequest f op) s = .next (s.putOut (s.out ++ [.cfg f true none])) :=
  congrArg Host.Outcome.next ((if_neg fun h => by rw [hf] at h; exact absurd h.2 (by decide)).trans (if_pos hr))

section
variable (hf : s.funcExists f = true) (hr : s.resets = [])
include hf hr

theorem exec_configuration_read (x : CfgField) :
    exec (.configurationRequest f (.read x)) s = .next (s.putOut (s.out ++ [.cfg f false (some (s.cfgValue f x))])) :=
  congrArg Host.Outcome.next ((if_neg fun h => by rw [hf] at h; exact absurd h.2 (by decide)).trans
    (if_neg (by rw [hr]; exact Bool.false_ne_true)))

theorem exec_configuration_pasid (on : Bool) : exec (.configurationRequest f (.pasidEnable on)) s =
    .next ((s.putOut (s.out ++ [.cfg f false none])).setCtrl f { s.ctrl f with pasid := on }) :=
  congrArg Host.Outcome.next ((if_neg fun h => by rw [hf] at h; exact absurd h.2 (by decide)).trans
    (if_neg (by rw [hr]; exact Bool.false_ne_true)))

end

end

theorem bit_setBit_zero (v : BitVec 32) : bit (setBit v 0 true) 0 = true :=
  (bit_setFld_same v (by decide) 1).trans (by decide)

/-- Settles O51: each clause is one request of the host. -/
theorem hostPortResults : Obligations.HostPortResults := by
  intro s f y n v
  refine ⟨exec_sqTail_missing, exec_cqHead_missing, fun q h => ⟨fun hv => ?_, fun hv => ?_⟩, fun q h => ⟨fun hv => ?_, fun hv => ?_⟩,
    fun h a x e pre hg hl hp hd hh hq hx ho hb => exec_sqFetch hg hl hp hd hh hq hx ho hb, exec_functionLevelReset,
    exec_controllerDisable, ?_, fun cc aqa asq acq sg st hu hs hp hw hc he hr hf => ⟨fun ok => ?_, fun bad => ?_⟩,
    exec_shutdownNotification, exec_configuration_inReset,
    fun hf hr => ⟨exec_configuration_read hf hr, fun on => ⟨_, exec_configuration_pasid hf hr on, ?_⟩⟩⟩
  · exact (exec_sqTail h).trans (congrArg _ (if_pos hv))
  · exact (exec_sqTail h).trans (congrArg _ (if_neg (Nat.not_le.mpr hv)))
  · exact (exec_cqHead h).trans (congrArg _ (if_pos hv))
  · exact (exec_cqHead h).trans (congrArg _ (if_neg (Nat.not_le.mpr hv)))
  · rintro tok x hs rfl hr hl hk hc hb hf
    exact ⟨_, exec_resetEnd hs hr hl hk hc hb hf, State.flrEnded_effects hl⟩
  · rw [exec_controllerEnable sg st hu hs hp hw hc he hr hf,
      State.readyCtrl_eq (State.ctrl_setCtrl_self _ _ _) (bit_setBit_zero cc) rfl]
    exact congrArg _ (if_pos ok)
  · rw [exec_controllerEnable sg st hu hs hp hw hc he hr hf,
      State.readyCtrl_eq (State.ctrl_setCtrl_self _ _ _) (bit_setBit_zero cc) rfl]
    exact congrArg _ (if_neg (by rw [bad]; decide))
  · rw [State.ctrl_setCtrl_self]

end Sys2Proof.Machine
end

section
/-! PROOFS. The statements of 05_images_loader_handover.md: namespaces, formats, sanitizes, firmware images, and the live
handover. -/

namespace Sys2Proof.Machine

/-- What the resident set serves on physical functions only goes on at one (R220). -/
theorem State.pfOnly_pf {s : State} {d : Cmd} (h : s.isPf d.func = true) (t : State) : s.pfOnly d t = t := if_pos h

/-- As `onCmd_waits`, for a row that takes settled commands too. -/
theorem onCmdIf_waits {ok : Cmd → Bool} {s : State} {k : W64} {admin : Bool} {op : Nat} {d : Cmd} (f : State → Cmd → State)
    (h : s.Waits k admin op d) (ho : ok d = true) : onCmdIf ok s k admin op f = .next (f (s.takeEvent k) d) := by
  obtain ⟨found, up, -, queue, opcode, quiet, running, gate, moved⟩ := h
  unfold onCmdIf
  simp [found, up, queue, opcode, quiet, running, gate, moved, ho]

/-! ## Placement namespaces (R222, R258, R287) -/

section
variable (s : State) (x : NsCreate)

/-- Extents that the grains of a placement namespace take. -/
def State.placementExtents : Nat := ceilDiv (107 * (x.ncap * fmtGrains x.lbaf)) (100 * max 1 (extentCap s.fam))

/-- Grains of metadata that a placement namespace is charged. -/
def placementCharge : Nat := 2 * metaCount x.lbaf (x.ncap * fmtGrains x.lbaf)

/-- What is kept of a placement namespace at its creation. -/
def State.placementInfo : NsInfo where
  lbaf := x.lbaf
  csi := 0
  endg := 1
  nsze := x.nsze
  ncap := x.ncap
  phndls := x.phndls
  attached := []
  extents := s.placementExtents x
  charge := placementCharge x

end

section
variable {s : State} {d : Cmd} {x : NsCreate} {n : Nat}

theorem State.createLocal_sizeDiffers (h : x.ncap ≠ x.nsze) : s.createLocal d n 0 x = s.finish d stField :=
  if_pos (.inr (.inr (.inl ⟨rfl, h⟩)))

/-- A placement namespace that fits above the floor is configured, given a key and answered with its identifier. -/
theorem State.createLocal_fits {v : State} (h0 : x.ncap ≠ 0) (hz : x.ncap = x.nsze) (hl : x.phndls.length ≤ 256)
    (hh : x.phndls.any (fun h => 256 ≤ h) = false)
    (hf : (s.placementExtents x + s.metaExtents (placementCharge x)) * (16 * s.fam.planes) + s.createFloor ≤ s.spareBlocks)
    (hv : s.configNs n (if fmt16 x.lbaf then 2 else 1) x.lbaf (x.nsze * fmtGrains x.lbaf) 0 (s.zsize 1) = some v) :
    s.createLocal d n 0 x =
      ((v.setNsi n (some (s.placementInfo x))).fillKey n).respond d (BitVec.ofNat 32 n) 0 stOk := by
  have placement : decide (0 = 2) = false := rfl
  unfold State.createLocal
  dsimp only
  rw [if_neg (by simp [h0, ← hz, hh, hl])]
  simp only [placement, Bool.false_eq_true, if_false]
  refine (if_neg (Nat.not_lt.mpr hf)).trans ?_
  rw [hv]
  rfl

end

/-! ## Rows of the resident set on namespaces (R222, R258, R502, R503) -/

section
variable {s u : State} {k : W64} {d : Cmd} (hu : s.takeEvent k = u)
include hu

section
variable (hp : u.isPf d.func = true)
include hp

theorem exec_namespaceCreate {x : NsCreate} {n : Nat} (hw : s.Waits k true 0x0D d) (hs : d.dw 10 % 16 = 0) (hc : d.dw 11 / 2 ^ 24 = 0)
    (hl : x.lbaf ≤ 7) (he : x.endg = 1) (hn : u.freeNsid = some n) :
    exec (.namespaceCreate k x) s = .next (u.createLocal d n 0 x) := by
  show execNamespaceCreate k x s = _
  rw [execNamespaceCreate, onCmd_waits _ hw, hu]
  dsimp only
  rw [State.pfOnly_pf hp, if_neg (not_not_intro hs), if_neg (Nat.not_lt.mpr hl), hn, hc]
  dsimp only
  rw [if_neg (by omega), if_neg (by omega)]

section
variable (hw : s.Waits k true 0x0D d) (hs : d.dw 10 % 16 = 1)
include hw hs

theorem exec_namespaceDelete_missing (hm : (u.named d.nsid).any (fun n => (u.nsi n).isNone) = true) :
    exec (.namespaceDelete k) s = .next (u.finish d stNamespace) := by
  show execNamespaceDelete k s = _
  rw [execNamespaceDelete, onCmd_waits _ hw, hu]
  dsimp only
  rw [State.pfOnly_pf hp, if_neg (by omega), if_neg (not_not_intro hs), if_pos hm]

theorem exec_namespaceDelete_idle (hm : (u.named d.nsid).any (fun n => (u.nsi n).isNone) = false)
    (hv : (u.named d.nsid).findSome? u.volumeRefuse = none) (hb : (u.named d.nsid).any u.nsBusy = false) :
    exec (.namespaceDelete k) s = .next (((u.named d.nsid).foldl State.dropNs u).finish d stOk) := by
  show execNamespaceDelete k s = _
  rw [execNamespaceDelete, onCmd_waits _ hw, hu]
  dsimp only
  rw [State.pfOnly_pf hp, if_neg (by omega), if_neg (not_not_intro hs), if_neg (Bool.eq_false_iff.mp hm), hv]
  exact congrArg _ (if_neg (Bool.eq_false_iff.mp hb))

end

section
variable {x : NsInfo} {cs : List Nat} (hw : s.Waits k true 0x15 d) (hx : u.nsi d.nsid = some x) (hne : cs ≠ [])
  (hc : cs.any (fun c => !u.isPf c ∧ !u.funcExists c) = false)
include hw hx hne hc

theorem exec_namespaceAttachment_attach (hs : d.dw 10 % 16 = 0) (ha : cs.any (fun c => x.attached.contains c) = false) :
    exec (.namespaceAttachment k cs) s =
      .next ((u.setNsi d.nsid (some { x with attached := x.attached ++ cs.dedup })).finish d stOk) := by
  show execNamespaceAttachment k cs s = _
  rw [execNamespaceAttachment, onCmd_waits _ hw, hu, State.pfOnly_pf hp, hx, hs]
  exact congrArg _ ((if_neg (by rw [hc]; simpa using hne)).trans (if_neg (Bool.eq_false_iff.mp ha)))

theorem exec_namespaceAttachment_detach (hs : d.dw 10 % 16 = 1) (ha : cs.any (fun c => !x.attached.contains c) = false) :
    exec (.namespaceAttachment k cs) s =
      .next ((u.setNsi d.nsid (some { x with attached := x.attached.filter (fun c => !cs.contains c) })).finish d stOk) := by
  show execNamespaceAttachment k cs s = _
  rw [execNamespaceAttachment, onCmd_waits _ hw, hu, State.pfOnly_pf hp, hx, hs]
  exact congrArg _ ((if_neg (by rw [hc]; simpa using hne)).trans (if_neg (Bool.eq_false_iff.mp ha)))

end

section
variable (hw : s.Waits k true 0x84 d) (hv : (u.nsInfo.map (·.1)).findSome? u.volumeRefuse = none)
  (hb : (u.nsInfo.map (·.1)).any u.nsBusy = false)
include hw hv hb

theorem exec_sanitizeCryptoErase (hs : d.dw 10 % 8 = 4) :
    let v := (u.nsInfo.map (·.1)).foldl State.cryptoErase u
    exec (.sanitizeCryptoErase k) s = .next ((((v.putCare { v.care with sanit := 1 }) : State).measureKeys 0 4).finish d stOk) := by
  show execSanitizeCryptoErase k s = _
  rw [execSanitizeCryptoErase, onCmd_waits _ hw, hu]
  dsimp only
  rw [State.pfOnly_pf hp, if_neg (not_not_intro hs), hv]
  exact congrArg _ (if_neg (Bool.eq_false_iff.mp hb))

theorem exec_sanitizeBlockErase (hs : d.dw 10 % 8 = 2) :
    let ns := u.nsInfo.map (·.1)
    let v := ns.foldl State.emptyNs (((u.vault.map (·.1)).filter (· < generalSlots)).foldl State.clearSlot u)
    let w := (v.extentList.map (·.1)).foldl State.releaseExtent v
    let x : State := (w.putIngot (wrNum w.ingot 0xE100040 64 0)).putCare { w.care with sanit := 2 }
    exec (.sanitizeBlockErase k) s = .next (((ns.foldl State.fillKey x).measureKeys 0 2).finish d stOk) := by
  show execSanitizeBlockErase k s = _
  rw [execSanitizeBlockErase, onCmd_waits _ hw, hu]
  dsimp only
  rw [State.pfOnly_pf hp, if_neg (by omega), if_neg (not_not_intro hs), hv]
  exact congrArg _ (if_neg (Bool.eq_false_iff.mp hb))

end

end

/-- `hh`: the format's number takes no bits above its low four. -/
theorem exec_formatNvm (hw : s.Waits k true 0x80 d) (hm : (u.named d.nsid).any (fun n => (u.nsi n).isNone) = false)
    (hh : d.dw 10 / 2 ^ 12 % 4 = 0) (hl : d.dw 10 % 16 ≤ 7)
    (hf : (u.named d.nsid).any (fun n => (u.layout n).isSome ∧ d.dw 10 % 16 ≠ 0 ∧ d.dw 10 % 16 ≠ 4) = false)
    (he : d.dw 10 / 2 ^ 9 % 8 ≤ 2) (hv : (u.named d.nsid).findSome? u.volumeRefuse = none)
    (hb : (u.named d.nsid).any u.nsBusy = false) : exec (.formatNvm k) s =
      .next ((((u.named d.nsid).foldl (State.formatNs · (d.dw 10 / 2 ^ 9 % 8) (d.dw 10 % 16)) u).endTest 3).finish d stOk) := by
  show execFormatNvm k s = _
  rw [execFormatNvm, onCmd_waits _ hw, hu]
  dsimp only
  rw [hh, Nat.zero_mul, Nat.add_zero, if_neg (Bool.eq_false_iff.mp hm),
    if_neg (not_or.mpr ⟨Nat.not_lt.mpr hl, Bool.eq_false_iff.mp hf⟩), if_neg (Nat.not_lt.mpr he), hv]
  exact congrArg _ (if_neg (Bool.eq_false_iff.mp hb))

/-! ## Firmware Image Download (R168) -/

section
variable {bs : List Byte} {v : State} (hw : s.Waits k true 0x11 d) (hh : u.fw.hand = none) (ho : u.stagedByOther d.func = false)
  (h0 : d.dw 11 = 0) (hn : bs.length = (d.dw 10 + 1) * 4) (ha : bs.length % 4096 = 0)
  (hv : u.putFw { u.fw with stage := none, pieces := [] } = v)
include hw hh ho h0 hn ha hv

theorem exec_firmwareImageDownload_rejected {r : Reject} (hc : v.checkHeader bs = some r) : exec (.firmwareImageDownload k bs) s =
    .next ((v.reject bs r).respond d (BitVec.ofNat 32 r.code) 0 (dnr stField)) := by
  show execFirmwareImageDownload k bs s = _
  rw [execFirmwareImageDownload, onCmd_waits _ hw, hu]
  dsimp only
  rw [← hn, List.take_left, ho, hv, if_neg (by rw [hh]; decide), if_neg (by omega), if_pos (by rw [h0]), hc]

theorem exec_firmwareImageDownload_staged (hc : v.checkHeader bs = none) (hl : bs.length ≤ le bs 8 4) :
    exec (.firmwareImageDownload k bs) s = .next (v.stagePiece d (le bs 8 4) 0 bs) := by
  show execFirmwareImageDownload k bs s = _
  rw [execFirmwareImageDownload, onCmd_waits _ hw, hu]
  dsimp only
  rw [← hn, List.take_left, ho, hv, if_neg (by rw [hh]; decide), if_neg (by omega), if_pos (by rw [h0]), hc]
  exact congrArg _ (if_neg (Nat.not_lt.mpr hl))

end

/-! ## Rows of Firmware Commit (R164, R169, R171) -/

section
variable {mine : Nat → Bool} (go : State → Cmd → Nat → State) (hw : s.Waits k true 0x10 d) (hm : mine d.fwAction = true)
include hw hm

theorem State.commitRow_duringHandover (hh : u.fw.hand.isSome = true) : s.commitRow k mine go = .next (u.finish d stSequence) := by
  have ⟨_, _, live, _⟩ := hw
  rw [State.commitRow, onCmdIf_waits _ hw (by rw [live]; rfl), hu, if_neg (by rw [hm]; decide), if_pos hh]

section
variable (hr : u.recovery = false) (ha : d.fwAction < 4) (hh : u.fw.hand = none)
include hr ha hh

/-- Outside the recovery state and a handover, a commit goes on with the bank that its slot names. -/
theorem State.commitRow_bank {b : Nat} (hb : u.commitBank d.fwSlot = some b) : s.commitRow k mine go = .next (go u d b) := by
  have ⟨_, _, live, _⟩ := hw
  rw [State.commitRow, onCmdIf_waits _ hw (by rw [live]; rfl), hu, if_neg (by rw [hm]; decide), if_neg (by rw [hh]; decide),
    if_neg (by rw [hr]; exact Bool.false_ne_true), if_neg (Nat.not_le.mpr ha), hb]

theorem State.commitRow_noBank (hb : u.commitBank d.fwSlot = none) : s.commitRow k mine go = .next (u.finish d stFwSlot) := by
  have ⟨_, _, live, _⟩ := hw
  rw [State.commitRow, onCmdIf_waits _ hw (by rw [live]; rfl), hu, if_neg (by rw [hm]; decide), if_neg (by rw [hh]; decide),
    if_neg (by rw [hr]; exact Bool.false_ne_true), if_neg (Nat.not_le.mpr ha), hb]

end
end
end

/-- Instruction `i` is the row of Firmware Commit for action `a`. -/
def commitInstr (k : W64) (sig nor : Bool) (a : Nat) (i : Instr) : Prop :=
  (i = .firmwareCommitWriteOnly k sig nor ∧ a = 0) ∨ (i = .firmwareCommitAtReset k sig nor ∧ a = 1) ∨
    (i = .firmwareCommitExisting k sig ∧ a = 2) ∨ (i = .firmwareCommitActivateNow k sig nor ∧ a = 3)

theorem commitInstr.row {k : W64} {sig nor : Bool} {a : Nat} {i : Instr} (h : commitInstr k sig nor a i) (s : State) :
    a < 4 ∧ ∃ mine go, mine a = true ∧ exec i s = s.commitRow k mine go := by
  obtain ⟨rfl, rfl⟩ | ⟨rfl, rfl⟩ | ⟨rfl, rfl⟩ | ⟨rfl, rfl⟩ := h
  · exact ⟨by decide, _, _, by decide, execFirmwareCommitWriteOnly.eq_def k sig nor s⟩
  · exact ⟨by decide, _, _, by decide, execFirmwareCommitAtReset.eq_def k sig nor s⟩
  · exact ⟨by decide, _, _, by decide, execFirmwareCommitExisting.eq_def k sig s⟩
  · exact ⟨by decide, _, _, by decide, execFirmwareCommitActivateNow.eq_def k sig nor s⟩

section
variable {u : State} {d : Cmd} {b : Nat} {sig nor : Bool} {go : State → List Byte → State}

/-! ## The verification of a commit (R158, R164, R169) -/

section
variable {total : Nat} (hs : u.staging d.func = some total)
include hs

/-- An image that fails a check is rejected, and the commit answers the check's code. -/
theorem State.commitVerified_staged_rejected {r : Reject}
    (hv : u.verify (u.commitBytes b (some total)).1 (u.commitBytes b (some total)).2 sig = some r) :
    u.commitVerified d b sig nor go =
      (u.reject (u.commitBytes b (some total)).1 r).respond d (BitVec.ofNat 32 r.code) 0 stFwImage := by
  unfold State.commitVerified
  rw [hs]
  dsimp only
  rw [Option.isNone_some, Bool.false_and, if_neg Bool.false_ne_true, hv]
  rfl

/-- A staged image that passes and that the pattern store takes is written to the bank. -/
theorem State.commitVerified_staged (hv : u.verify (u.commitBytes b (some total)).1 (u.commitBytes b (some total)).2 sig = none)
    (hn : nor = true) : u.commitVerified d b sig nor go =
      go (u.writeBank b (u.commitBytes b (some total)).1) (u.commitBytes b (some total)).1 := by
  unfold State.commitVerified
  rw [hs]
  dsimp only
  rw [Option.isNone_some, Bool.false_and, if_neg Bool.false_ne_true, hv, hn]
  rfl

theorem State.commitWrite_staged {swap : Bool} (hb : u.runsBank b = false) : u.commitWrite d b sig nor swap =
    u.commitVerified d b sig nor (fun s _ => (if swap then s.swapTo b else s).finish d stOk) :=
  (if_neg (Bool.eq_false_iff.mp hb)).trans (if_neg (by rw [hs]; exact Bool.false_ne_true))

end

/-- With nothing staged, the bank is verified as it stands. -/
theorem State.commitVerified_bank (hs : u.staging d.func = none) (hb : u.bankUnknown b = false)
    (hv : u.verify (u.bankBytes b) true sig = none) : u.commitVerified d b sig nor go = go u (u.bankBytes b) := by
  unfold State.commitVerified
  rw [hs]
  dsimp only [State.commitBytes]
  rw [if_neg (by rw [hb]; decide), hv]
  rfl

end

/-! ## The four actions -/

section
variable {s u : State} {k : W64} {d : Cmd} {b : Nat} (hu : s.takeEvent k = u) (hw : s.Waits k true 0x10 d) (hr : u.recovery = false)
  (hh : u.fw.hand = none) (hb : u.commitBank d.fwSlot = some b)
include hu hw hr hh hb

theorem exec_firmwareCommitWriteOnly (sig nor : Bool) (ha : d.fwAction = 0) :
    exec (.firmwareCommitWriteOnly k sig nor) s = .next (u.commitWrite d b sig nor false) := by
  show execFirmwareCommitWriteOnly k sig nor s = _
  rw [execFirmwareCommitWriteOnly, State.commitRow_bank hu _ hw (by rw [ha]; decide) hr (by omega) hh hb]

theorem exec_firmwareCommitAtReset (sig nor : Bool) (ha : d.fwAction = 1) :
    exec (.firmwareCommitAtReset k sig nor) s = .next (u.commitWrite d b sig nor true) := by
  show execFirmwareCommitAtReset k sig nor s = _
  rw [execFirmwareCommitAtReset, State.commitRow_bank hu _ hw (by rw [ha]; decide) hr (by omega) hh hb]

theorem exec_firmwareCommitExisting (sig : Bool) (ha : d.fwAction = 2) (hs : u.staging d.func = none) :
    exec (.firmwareCommitExisting k sig) s =
      .next (u.commitVerified d b sig true (fun s _ => (s.swapTo b).finish d stOk)) := by
  show execFirmwareCommitExisting k sig s = _
  rw [execFirmwareCommitExisting, State.commitRow_bank hu _ hw (by rw [ha]; decide) hr (by omega) hh hb]
  exact congrArg _ (if_neg (by rw [hs]; decide))

section
variable (sig nor : Bool) (ha : d.fwAction = 3) (hc : u.care.sanit ≠ 2)
include ha hc

/-- The image that runs already is not activated again. -/
theorem exec_firmwareCommitActivateNow_running (hs : u.staging d.func = none) (hb' : u.runsBank b = true) :
    exec (.firmwareCommitActivateNow k sig nor) s = .next (u.finish d stOk) := by
  show execFirmwareCommitActivateNow k sig nor s = _
  rw [execFirmwareCommitActivateNow, State.commitRow_bank hu _ hw (by rw [ha]; decide) hr (by omega) hh hb]
  exact congrArg _ ((if_neg hc).trans (if_pos (by rw [hs, hb']; rfl)))

section
variable {total : Nat} (hs : u.staging d.func = some total)
include hs

theorem exec_firmwareCommitActivateNow_rejected {r : Reject}
    (hv : u.verify (u.commitBytes b (some total)).1 (u.commitBytes b (some total)).2 sig = some r) :
    exec (.firmwareCommitActivateNow k sig nor) s =
      .next ((u.reject (u.commitBytes b (some total)).1 r).respond d (BitVec.ofNat 32 r.code) 0 stFwImage) := by
  show execFirmwareCommitActivateNow k sig nor s = _
  rw [execFirmwareCommitActivateNow, State.commitRow_bank hu _ hw (by rw [ha]; decide) hr (by omega) hh hb]
  exact congrArg _ ((if_neg hc).trans ((if_neg (by rw [hs]; exact Bool.false_ne_true)).trans (State.commitVerified_staged_rejected hs hv)))

theorem exec_firmwareCommitActivateNow_handover {raw : List Byte} {v : State} {r : RunImage}
    (hx : (u.commitBytes b (some total)).1 = raw)
    (hv : u.verify raw (u.commitBytes b (some total)).2 sig = none) (hn : nor = true) (he : u.writeBank b raw = v)
    (hf : v.fw.run = some r) :
    let w := (v.install (imageOf raw) (r.layout + 2 ^ 16)).swapTo b
    exec (.firmwareCommitActivateNow k sig nor) s =
      .next (w.putFw { w.fw with hand := some ⟨d.key, (imageOf raw).running b, r.layout, false, false⟩ }) := by
  show execFirmwareCommitActivateNow k sig nor s = _
  rw [execFirmwareCommitActivateNow, State.commitRow_bank hu _ hw (by rw [ha]; decide) hr (by omega) hh hb]
  subst hx
  dsimp only
  rw [if_neg hc, if_neg (by rw [hs]; exact Bool.false_ne_true), State.commitVerified_staged hs hv hn, he, hf]

end
end
end

/-! ## The live handover (R174, R175) -/

section
variable {s : State} {h : Handover} {old : RunImage} (hh : s.fw.hand = some h) (ho : s.fw.run = some old) (ha : h.armed = false)
  (hw : s.win = .slot) (hg : s.gap = false) (hu : s.up)
include hh ho ha hw hg hu

theorem exec_liveHandoverArm_accepted (hr : s.handoverReject old h.image = none) :
    ∃ t : State, exec .liveHandoverArm s = .next t ∧ t.fw.hand = some { h with armed := true } := by
  have goes : ¬(h.armed || decide (s.win ≠ .slot) || s.gap || s.boot.down) = true := by rw [ha, hw, hg, hu]; decide
  refine ⟨(s.writeHovmask (w64 (Nat.lor h.image.cores 1))).putFw
    { (s.writeHovmask (w64 (Nat.lor h.image.cores 1))).fw with hand := some { h with armed := true } }, ?_, rfl⟩
  show execLiveHandoverArm s = _
  rw [execLiveHandoverArm, hh, ho]
  dsimp only
  rw [if_neg goes, hr]

theorem exec_liveHandoverArm_rejected {r : Reject} (hr : s.handoverReject old h.image = some r) :
    ∃ t : State, t.fw.hand = none ∧ exec .liveHandoverArm s = .next (t.settleHandover h.key r.code stFwCtrlReset) := by
  have goes : ¬(h.armed || decide (s.win ≠ .slot) || s.gap || s.boot.down) = true := by rw [ha, hw, hg, hu]; decide
  refine ⟨(s.reject (s.bankBytes h.image.bank) r).putFw { (s.reject (s.bankBytes h.image.bank) r).fw with hand := none }, rfl, ?_⟩
  show execLiveHandoverArm s = _
  rw [execLiveHandoverArm, hh, ho]
  dsimp only
  rw [if_neg goes, hr]

end

/-! ## The layout mark (R177) -/

/-- A number written in `n` bytes reads back modulo 256 ^ n. -/
theorem rdNum_wrNum_mod (m : FMap Byte) (a n v : Nat) : rdNum (wrNum m a n v) a n = v % 256 ^ n := by
  have back := rdBytes_wrBytes m a (toBytes n v)
  rw [length_toBytes] at back
  exact (congrArg ofBytes back).trans (ofBytes_toBytes n v)

theorem exec_layoutMarkWrite {s : State} {m : W64} {r : RunImage} (hm : s.fw.markDue = some m) (hr : s.fw.run = some r) (hu : s.up)
    (hp : s.boot.pwrFail = false) (ht : m.toNat < s.tick.toNat) (hs : s.startsDone = true) (hh : s.fw.hand = none) :
    exec .layoutMarkWrite s = .next (((s.putIngot (wrNum s.ingot markOff 8 r.layout)).putFw { s.fw with markDue := none }).putCores
      (s.cores.map (fun p => (p.1, { p.2 with nstart := setBit p.2.nstart 12 false })))) := by
  have goes : ¬(s.boot.down || s.boot.pwrFail || decide (s.tick.toNat ≤ m.toNat) || !s.startsDone) = true := by
    rw [hu, hp, hs]
    simpa using ht
  show execLayoutMarkWrite s = _
  rw [execLayoutMarkWrite, hm, hr]
  dsimp only
  rw [if_neg goes]
  simp only [State.putCores_frame, State.putFw_fw, hh]

/-- Settles O55: each clause is one row of the resident set or of the loader. -/
theorem namespaceFirmwareResults : Obligations.NamespaceFirmwareResults := by
  intro s k d u
  have hu : s.takeEvent k = u := rfl
  refine ⟨fun hw hp => ⟨fun x n hs hc hl he hn => ⟨fun hz => ?_, fun h0 hz hl' hh hf v hv => ?_⟩,
      exec_namespaceDelete_missing hu hp hw, exec_namespaceDelete_idle hu hp hw⟩,
    fun hw hp x cs hx hne hc => ⟨exec_namespaceAttachment_attach hu hp hw hx hne hc,
      exec_namespaceAttachment_detach hu hp hw hx hne hc⟩,
    exec_formatNvm hu,
    fun hw hp hv hb => ⟨exec_sanitizeCryptoErase hu hp hw hv hb, exec_sanitizeBlockErase hu hp hw hv hb⟩,
    fun hw hh ho h0 bs hn ha => ⟨fun r => exec_firmwareImageDownload_rejected hu hw hh ho h0 hn ha rfl,
      exec_firmwareImageDownload_staged hu hw hh ho h0 hn ha rfl⟩,
    fun hw hr b sig nor => ⟨fun i hi => ?_, fun hh hb => ⟨fun total hs => ⟨fun i r hi hv => ?_, fun hv hn => ⟨?_, ?_, ?_⟩⟩,
      fun hs => ⟨?_, ?_⟩⟩⟩,
    fun h old hh ho ha hw hg up => ⟨exec_liveHandoverArm_accepted hh ho ha hw hg up,
      fun r => exec_liveHandoverArm_rejected hh ho ha hw hg up⟩,
    fun m r hm hr up hp ht hs hh => ⟨_, exec_layoutMarkWrite hm hr up hp ht hs hh, rfl, rdNum_wrNum_mod _ _ 8 _⟩⟩
  · rw [exec_namespaceCreate hu hp hw hs hc hl he hn, State.createLocal_sizeDiffers hz]
  · rw [exec_namespaceCreate hu hp hw hs hc hl he hn, State.createLocal_fits h0 hz hl' hh hf hv]
    rfl
  · obtain ⟨below, mine, go, hm, row⟩ := commitInstr.row hi s
    rw [row]
    exact ⟨State.commitRow_duringHandover hu go hw hm, State.commitRow_noBank hu go hw hm hr below⟩
  · obtain ⟨rfl, ha, hb'⟩ | ⟨rfl, ha, hb'⟩ | ⟨rfl, ha, hc⟩ := hi
    · rw [exec_firmwareCommitWriteOnly hu hw hr hh hb sig nor ha, State.commitWrite_staged hs hb',
        State.commitVerified_staged_rejected hs hv]
    · rw [exec_firmwareCommitAtReset hu hw hr hh hb sig nor ha, State.commitWrite_staged hs hb',
        State.commitVerified_staged_rejected hs hv]
    · exact exec_firmwareCommitActivateNow_rejected hu hw hr hh hb sig nor ha hc hs hv
  · intro ha hb'
    rw [exec_firmwareCommitWriteOnly hu hw hr hh hb sig nor ha, State.commitWrite_staged hs hb', State.commitVerified_staged hs hv hn]
    rfl
  · intro ha hb'
    rw [exec_firmwareCommitAtReset hu hw hr hh hb sig nor ha, State.commitWrite_staged hs hb', State.commitVerified_staged hs hv hn]
    rfl
  · exact fun r ha hc hf => exec_firmwareCommitActivateNow_handover hu hw hr hh hb sig nor ha hc hs rfl hv hn rfl hf
  · intro ha hk hv
    rw [exec_firmwareCommitExisting hu hw hr hh hb sig ha hs, State.commitVerified_bank hs hk hv]
  · exact fun ha hc hb' => exec_firmwareCommitActivateNow_running hu hw hr hh hb sig nor ha hc hs hb'

end Sys2Proof.Machine
end

section
/-! PROOFS. The statements of 08_zones_and_placement.md: the preserve state, aged zones and units, the retry ladder,
rebuilt frames, and errors of SRAM and DRAM. -/

namespace Sys2Proof.Machine

/-! ## Zone entries (R472) -/

@[simp] theorem State.zoneWord_setZone (s : State) (z : Nat) (v : W64) : (s.setZone z v).zoneWord z = v :=
  rdW_wrNum_same s.ingot (zoneOff z) v

section
variable {s : State} (hu : s.up)
include hu

/-! ## The preserve state (R288, R290) -/

theorem exec_preserveStateEntry_atFloor (hp : s.preserve = false) (hw : s.win = .fault) (hr : s.rawBlocks ≠ 0)
    (hf : s.spareBlocks ≤ s.floorBlocks) : exec .preserveStateEntry s =
      .next (((((((s.putPreserve true).putWheld ((s.wmap.map (fun p => p.1 / 2 ^ 19)).dedup)) : State).putKept
        ((s.cmds.filter (·.unsettled)).map (fun d => (d.key, d.fsn)))) : State).closeOpenZones).asyncAll { typ := 1, info := 0, lid := 2 }) := by
  have enters : ¬(s.boot.down = true ∨ s.preserve = true ∨ s.win ≠ .fault ∨ s.rawBlocks = 0 ∨ s.floorBlocks < s.spareBlocks) := by
    simp [hu, hp, hw, hr, hf]
  exact congrArg Host.Outcome.next (if_neg enters)

theorem exec_preserveStateExit_aboveFloor (hp : s.preserve = true) (hw : s.win = .fault)
    (hf : s.floorBlocks + ceilDiv s.rawBlocks 1000 ≤ s.spareBlocks) :
    exec .preserveStateExit s = .next (((s.putPreserve false).putWheld []).putKept []) := by
  have leaves : ¬(s.boot.down = true ∨ (!s.preserve) = true ∨ s.win ≠ .fault ∨
      s.spareBlocks < s.floorBlocks + ceilDiv s.rawBlocks 1000) := by
    simp [hu, hp, hw, hf]
  exact congrArg Host.Outcome.next (if_neg leaves)

/-! ## Aged zones and units (R259, R269, R281) -/

/-- The recommendation of R259 is bit 5 of the zone entry; the zone's state and write pointer are other fields of it. -/
theorem exec_finishZoneRecommended_aged {z : Nat} (ha : isActive (s.zstate z) = true) (hr : s.everReserved z = true)
    (hold : 24 * 256 ≤ s.zoneAge z) : ∃ t : State, exec (.finishZoneRecommended z) s = .next t ∧ bit (t.zoneWord z) 5 = true ∧
      t.zstate z = s.zstate z ∧ t.zwp z = s.zwp z := by
  have aged : (!s.boot.down) = true ∧ isActive (s.zstate z) = true ∧ s.everReserved z = true ∧ 24 * 256 ≤ s.zoneAge z := by
    simp [hu, ha, hr, hold]
  refine ⟨_, congrArg Host.Outcome.next (if_pos aged), ?_, ?_, ?_⟩
  · rw [State.zoneWord_setZone, bit_setFld_same _ (by decide)]
    rfl
  · unfold State.zstate
    rw [State.zoneWord_setZone, fld_setFld_other _ (by decide) _ (by decide)]
  · unfold State.zwp
    rw [State.zoneWord_setZone, fld_setFld_other _ (by decide) _ (by decide)]

theorem exec_zoneFinishedByController_aged {z n y : Nat} {t : State} (ha : isActive (s.zstate z) = true)
    (hr : s.everReserved z = true) (hold : 72 * 256 ≤ s.zoneAge z) (ho : s.zoneOwner z = some (n, y))
    (hf : (s.finishPrep n y).finishAct n y = .ok t) :
    exec (.zoneFinishedByController z) s = .next ((t.setZone z (setFld (t.zoneWord z) 4 1 1)).hcount 22 1) := by
  have aged : (!s.boot.down) = true ∧ isActive (s.zstate z) = true ∧ s.everReserved z = true ∧ 72 * 256 ≤ s.zoneAge z := by
    simp [hu, ha, hr, hold]
  refine congrArg Host.Outcome.next ((if_pos aged).trans ?_)
  simp only [ho, hf]

theorem exec_ruTimeLimitExceeded_aged {h g : Nat} {r : Nat × Extent} (hr : s.ruOf h g = some r)
    (hold : r.2.first.getD s.alm.optime + 72 * 65536 ≤ s.alm.optime) :
    exec (.ruTimeLimitExceeded h g) s = .next ((s.closeUnit r.1).fdpEvent 1 0 h g) := by
  have aged : (!s.boot.down) = true ∧ r.2.first.getD s.alm.optime + 72 * 65536 ≤ s.alm.optime := by simp [hu, hold]
  show execRuTimeLimitExceeded h g s = _
  simp only [execRuTimeLimitExceeded, hr, if_pos aged]

/-! ## The retry ladder (R330, R332) -/

theorem ladder_runs {d : Cmd} (hs : d.settle = .live) : ¬(s.boot.down = true ∨ d.settle ≠ .live) := by simp [hu, hs]

section
variable {k loc : W64} {oc : Byte} {d : Cmd} {l : Ladder} {x : NsInfo} (hd : s.cmdOf k = some d)
  (hl : s.care.ladders.find? (fun l => decide (l.key = k) && decide (l.loc = loc)) = some l)
  (hx : s.nsi d.nsid = some x) (hs : d.settle = .live)
include hd hl hx hs

theorem exec_retryLadderStep_read {bs t : List Byte} (hn : l.steps < 3) (ho : oc = 0x00 ∨ oc = 0x01)
    (hf : s.readFrame loc = .ok (bs, t)) (hns : tagNs t = d.nsid) (hg : tagLba t = d.grain0 x + l.grain) :
    exec (.retryLadderStep k loc oc) s =
      .next (((((s.hcount 5 1).queueSweep loc).queueRefresh loc).handOver d l.grain bs).ladderEnd d l) := by
  have sensed : oc ≠ 0x24 := by rcases ho with rfl | rfl <;> decide
  show execRetryLadderStep k loc oc s = _
  simp only [execRetryLadderStep, hd, hl, hx, if_neg (ladder_runs hu hs), if_pos hn, if_neg sensed, if_pos ho, hf, Except.toOption, hns, hg,
    and_self, if_true]

theorem exec_retryLadderStep_failed (hn : l.steps < 3) (ho : oc = 0x23) (hnext : s.ladderNext l oc < 3) :
    exec (.retryLadderStep k loc oc) s = .next (s.putCare { s.care with
      ladders := s.care.ladders.map (fun y => if y = l then { l with steps := s.ladderNext l oc } else y) }) := by
  have sensed : oc ≠ 0x24 := by rw [ho]; decide
  have unread : ¬(oc = 0x00 ∨ oc = 0x01) := by rw [ho]; decide
  have soft : ¬(s.ladderNext l oc = 3 ∧ oc ≠ 0x27 ∧ oc ≠ 0x28) := fun h => Nat.ne_of_lt hnext h.1
  show execRetryLadderStep k loc oc s = _
  simp only [execRetryLadderStep, hd, hl, hx, if_neg (ladder_runs hu hs), if_pos hn, if_neg sensed, if_neg unread, if_neg soft]

theorem exec_retryLadderStep_lost (hn : 3 ≤ l.steps) (hg : s.grainRebuild d.nsid (d.grain0 x + l.grain) loc = none) :
    exec (.retryLadderStep k loc oc) s =
      .next ((s.loseGrain d.nsid false (d.grain0 x + l.grain) loc).readFails d stUnrecovered) := by
  show execRetryLadderStep k loc oc s = _
  simp only [execRetryLadderStep, hd, hl, hx, if_neg (ladder_runs hu hs), if_neg (Nat.not_lt.mpr hn), hg]

theorem exec_retryLadderStep_rebuilt {bs : List Byte} {t : State} (hn : 3 ≤ l.steps)
    (hg : s.grainRebuild d.nsid (d.grain0 x + l.grain) loc = some bs)
    (ht : (((s.hcount 7 1).queueSweep loc).queueRefresh loc).storeAgain d.nsid false (d.grain0 x + l.grain) loc bs = some t) :
    exec (.retryLadderStep k loc oc) s = .next ((t.handOver d l.grain bs).ladderEnd d l) := by
  show execRetryLadderStep k loc oc s = _
  simp only [execRetryLadderStep, hd, hl, hx, if_neg (ladder_runs hu hs), if_neg (Nat.not_lt.mpr hn), hg, ht, Option.getD_some]

end

/-! ## Rebuilt frames (R342) -/

theorem frame_rebuilds {loc : W64} (hk : s.locOk loc = true) : ¬(s.boot.down || !s.locOk loc) = true := by simp [hu, hk]

section
variable {loc : W64} {n g : Nat} {m : Bool} (hk : s.locOk loc = true) (ho : s.frameOwner loc = some (n, m, g))
include hk ho

theorem exec_frameRebuild_lost (hg : s.grainRebuild n g loc = none) :
    exec (.frameRebuild loc) s = .next (s.loseGrain n m g loc) := by
  show execFrameRebuild loc s = _
  simp only [execFrameRebuild, if_neg (frame_rebuilds hu hk), ho, hg]

theorem exec_frameRebuild_stored {bs : List Byte} {t : State} (hg : s.grainRebuild n g loc = some bs)
    (ht : s.storeAgain n m g loc bs = some t) :
    exec (.frameRebuild loc) s = .next (((t.hcount 7 1).queueSweep loc).queueRefresh loc) := by
  show execFrameRebuild loc s = _
  simp only [execFrameRebuild, if_neg (frame_rebuilds hu hk), ho, hg, ht]

end

/-! ## Errors of SRAM and DRAM (R458, R460, R464) -/

theorem exec_sramCorrectedRead {arr : BitVec 8} {word : BitVec 24} (ha : s.sramArray arr.toNat = true)
    (hw : word.toNat < sramWords arr.toNat) :
    exec (.sramCorrectedRead arr word) s = .next (s.rtCorrected arr.toNat word.toNat) := by
  have ok : ¬(s.boot.down = true ∨ (!s.sramArray arr.toNat) = true ∨ sramWords arr.toNat ≤ word.toNat) := by simp [hu, ha, hw]
  exact congrArg Host.Outcome.next (if_neg ok)

section
variable {ch rank line : Nat} {u : State} (hm : s.domeOn 6 = true) (hc : ch < 4) (hr : rank < 4)
  (hf : s.rankFitted ch rank = true) (hl : line * 64 < s.dramSize) (ho : s.lineOn line ch rank = true)
include hm hc hr hf hl ho

theorem dramError_counts : ¬(s.boot.down = true ∨ (!s.domeOn 6) = true ∨ 4 ≤ ch ∨ 4 ≤ rank ∨ (!s.rankFitted ch rank) = true ∨
    s.dramSize ≤ line * 64 ∨ (!s.lineOn line ch rank) = true) := by
  simp [hu, hm, hc, hr, hf, hl, ho]

variable (hcount : s.countRfld (sta 8 8) 32 16 1 = u)
include hcount

theorem exec_dramUncorrectableError_retired (ht : u.rankRetired ch rank = true) :
    exec (.dramUncorrectableError ch rank line) s = .next (u.poisonLine line) := by
  refine congrArg Host.Outcome.next ((if_neg (dramError_counts hu hm hc hr hf hl ho)).trans ?_)
  rw [hcount]
  exact if_pos ht

theorem exec_dramUncorrectableError_spare {q : Nat} (ht : u.rankRetired ch rank = false) (hd : u.noDest = false)
    (hsp : u.dr.spare = [(ch, q)]) (hq : q ≠ rank) : exec (.dramUncorrectableError ch rank line) s =
      .next ((((u.poisonLine line).putDr { (u.poisonLine line).dr with
        spare := (u.poisonLine line).dr.spare.filter (fun p => p.1 ≠ ch) }) : State).retireRank ch rank (some q)) := by
  have spare : u.dr.spare.find? (fun p => p.1 = ch) = some (ch, q) := by simp [hsp]
  refine congrArg Host.Outcome.next ((if_neg (dramError_counts hu hm hc hr hf hl ho)).trans ?_)
  rw [hcount]
  simp only [ht, hd, spare, if_neg hq, Bool.false_eq_true, if_false]

end

end

/-! ## The end of a migration (R456, R459) -/

theorem rmapReg_ne_dramRas (ch : Nat) : rmapReg ch ≠ dramRas := by
  unfold rmapReg dramRas sta
  omega

@[simp] theorem State.showMig_dr (s : State) : s.showMig.dr = s.dr := by
  unfold State.showMig
  split <;> simp

/-- With nothing left to migrate, DRAM_RAS only loses its running flag. -/
theorem State.showMig_idle {s : State} (h : s.dr.mig = []) : s.showMig = s.setRfld dramRas 1 1 0 := by
  unfold State.showMig
  rw [h]

/-- The rank map names the spare, and DRAM_RAS is another register. -/
theorem exec_migrationDone_spare {s : State} {ch r q l : Nat} (hu : s.up) (hg : s.dr.mig = [(ch, r, some q)])
    (hm : s.domeOn 6 = true) (hl : s.logicalOf ch r = some l) (h4 : l < 4) : ∃ t : State,
      exec .migrationDone s = .next (t.rasEvent 3 (ch + r * 4)) ∧ t.dr.mig = [] ∧ fld (t.reg (rmapReg ch)) (2 * l) 2 = q % 4 := by
  have on : ¬(s.boot.down = true ∨ (!s.domeOn 6) = true) := by simp [hu, hm]
  have step : exec .migrationDone s = .next ((((s.setRfld (rmapReg ch) (2 * l) 2 q).putDr
      { (s.setRfld (rmapReg ch) (2 * l) 2 q).dr with mig := [] }).showMig.setRfld dramRas 16 32
        (min ((s.setRfld (rmapReg ch) (2 * l) 2 q).rankLines ch r) (2 ^ 32 - 1))).rasEvent 3 (ch + r * 4)) := by
    show execMigrationDone s = _
    simp only [execMigrationDone, hg, hl, if_neg on, List.isEmpty_nil, if_true]
  refine ⟨_, step, ?_, ?_⟩
  · simp
  · rw [State.showMig_idle rfl, State.reg_setRfld_ne _ _ _ _ (rmapReg_ne_dramRas ch),
      State.reg_setRfld_ne _ _ _ _ (rmapReg_ne_dramRas ch)]
    exact s.rfld_setRfld_same (rmapReg ch) (by omega) q

/-- Settles O57: each clause is one row of the background work, with the device up and the row's own condition met. -/
theorem backgroundResults : Obligations.BackgroundResults := by
  intro s hu
  refine ⟨exec_preserveStateEntry_atFloor hu, exec_preserveStateExit_aboveFloor hu,
    fun z ha hr => ⟨exec_finishZoneRecommended_aged hu ha hr, fun n y t => exec_zoneFinishedByController_aged hu ha hr⟩,
    fun h g r => exec_ruTimeLimitExceeded_aged hu,
    fun k loc oc d l x hd hl hx hs => ⟨fun bs t => exec_retryLadderStep_read hu hd hl hx hs,
      exec_retryLadderStep_failed hu hd hl hx hs,
      fun hn => ⟨exec_retryLadderStep_lost hu hd hl hx hs hn, fun bs t => exec_retryLadderStep_rebuilt hu hd hl hx hs hn⟩⟩,
    fun loc n m g hk ho => ⟨exec_frameRebuild_lost hu hk ho, fun bs t => exec_frameRebuild_stored hu hk ho⟩,
    fun arr word => exec_sramCorrectedRead hu,
    fun ch rank line q hm hc hr hf hl ho => ⟨exec_dramUncorrectableError_retired hu hm hc hr hf hl ho rfl,
      exec_dramUncorrectableError_spare hu hm hc hr hf hl ho rfl⟩,
    fun ch r q l hg hm hl => exec_migrationDone_spare hu hg hm hl⟩

end Sys2Proof.Machine
end

section
/-! PROOFS. The statements of 09_flash_channels_and_microcode.md: words of the channel directors and of the pulse sequencers. -/

namespace Sys2Proof.Machine

/-! ## A channel's registers written twice -/

theorem FMap.insert_insert {α : Type} (m : FMap α) (k : Nat) (v w : α) :
    FMap.insert (FMap.insert m k v) k w = FMap.insert m k w := by
  induction m with
  | nil => simp [FMap.insert]
  | cons p m ih =>
    rcases lt_trichotomy k p.1 with below | here | above
    · simp [FMap.insert, below]
    · simp [FMap.insert, here]
    · simp [FMap.insert, Nat.lt_asymm above, above.ne, ih]

theorem FMap.erase_insert {α : Type} (m : FMap α) (k : Nat) (v : α) : FMap.erase (FMap.insert m k v) k = FMap.erase m k := by
  induction m with
  | nil => simp [FMap.insert, FMap.erase]
  | cons p m ih =>
    rcases lt_trichotomy k p.1 with below | here | above
    · simp [FMap.insert, FMap.erase, below]
    · simp [FMap.insert, FMap.erase, here]
    · simp [FMap.insert, FMap.erase, Nat.lt_asymm above, above.ne, ih]

/-- A later write of a key takes the place of an earlier one that listed it. -/
theorem FMap.set_set {α : Type} [DecidableEq α] {d : Nat → α} {k : Nat} {v : α} (hv : v ≠ d k) (m : FMap α) (w : α) :
    FMap.set d (FMap.set d m k v) k w = FMap.set d m k w := by
  rw [FMap.set, FMap.set, FMap.set, if_neg hv, FMap.insert_insert, FMap.erase_insert]

theorem State.setChan_setChan (s : State) {ch : Nat} {x : Chan} (hx : x ≠ chanReset ch) (y : Chan) :
    (s.setChan ch x).setChan ch y = s.setChan ch y :=
  congrArg s.putChans (FMap.set_set hx s.chans y)

variable {s : State} {ch : Nat}

/-! ## Director words (R312 to R315, R320, R321) -/

section
variable {w : W64} {act : Nat} {f : State → Nat → State}

theorem State.dirStep_acts (h : s.dirReady ch w act) (ha : (f s (fld (s.dirWord ch w) 46 8)).chRuns ch = true) :
    s.dirStep ch w act f =
      let u := (f s (fld (s.dirWord ch w) 46 8)).seqOp ch (s.dirWord ch w)
      .next ((u.setChan ch { u.chan ch with began := true }).dirNext ch (s.dirWord ch w)) := by
  obtain ⟨runs, low, high, reserved, used, mine, fresh⟩ := h
  simp [State.dirStep, runs, low, high, reserved, mine, Nat.not_le.mpr (Nat.lt_succ_of_le used), fresh, ha]

theorem State.dirStep_oddParity (hr : s.chRuns ch = true)
    (hp : evenParity (s.dirWord ch w) 0 = false ∨ evenParity (s.dirWord ch w) 32 = false) :
    s.dirStep ch w act f = .next (s.machineCheck ch 1) := by
  have odd : (!evenParity (s.dirWord ch w) 0 || !evenParity (s.dirWord ch w) 32) = true := by
    rcases hp with h | h <;> simp [h]
  simp only [State.dirStep, hr, odd, Bool.not_true, Bool.false_eq_true, if_false, if_true]

theorem State.dirStep_unusedAct (hr : s.chRuns ch = true) (low : evenParity (s.dirWord ch w) 0 = true)
    (high : evenParity (s.dirWord ch w) 32 = true) (ha : 12 < fld (s.dirWord ch w) 42 4) :
    s.dirStep ch w act f = .next (s.machineCheck ch 4) := by
  simp [State.dirStep, hr, low, high, show 13 ≤ fld (s.dirWord ch w) 42 4 from ha]

end

/-- A word of the plain mode, whose sequencer operation the director does not wait for, goes to the next address that it
names. -/
theorem State.dirNext_plain {x : W64} (hq : fld x 40 2 = 0) (hm : fld x 13 2 = 0) :
    s.dirNext ch x = s.dirGo ch (fld x 0 13) := by
  simp [State.dirNext, hq, hm]

theorem State.dirGo_inStore {a : Nat} (hs : a ≤ 0x10FF) (hp : a < 0x1000 + s.dirPatchWords ch) :
    s.dirGo ch a = s.setChan ch { s.chan ch with pc := a, began := false } :=
  if_neg (by omega)

theorem State.seqOp_none {x : W64} (h : fld x 40 2 = 0) : s.seqOp ch x = s := by
  simp [State.seqOp, h]

/-- The mark that a word has begun is gone once the director is at the next one. -/
theorem State.dirNext_begun {x : W64} (hq : fld x 40 2 = 0) (hm : fld x 13 2 = 0) (hs : fld x 0 13 ≤ 0x10FF)
    (hp : fld x 0 13 < 0x1000 + s.dirPatchWords ch) :
    (s.setChan ch { s.chan ch with began := true }).dirNext ch x =
      s.setChan ch { s.chan ch with pc := fld x 0 13, began := false } := by
  have begun : { s.chan ch with began := true } ≠ chanReset ch := fun e => absurd (congrArg Chan.began e) (by simp [chanReset])
  calc (s.setChan ch { s.chan ch with began := true }).dirNext ch x
      = (s.setChan ch { s.chan ch with began := true }).dirGo ch (fld x 0 13) := State.dirNext_plain hq hm
    _ = (s.setChan ch { s.chan ch with began := true }).setChan ch
          { (s.setChan ch { s.chan ch with began := true }).chan ch with pc := fld x 0 13, began := false } :=
        State.dirGo_inStore hs hp
    _ = s.setChan ch { s.chan ch with pc := fld x 0 13, began := false } := by
        rw [State.chan_setChan_self]
        exact State.setChan_setChan s begun _

/-- A row is the director's step of its ACT code with an action that leaves the row's state. -/
def DirRow.IsStep (s : State) (ch : Nat) (w : W64) (r : DirRow) : Prop :=
  ∃ f : State → Nat → State, exec r.ins s = s.dirStep ch w r.act f ∧ f s (fld (s.dirWord ch w) 46 8) = r.after

theorem dirRows_isStep (s : State) (ch : Nat) (w : W64) : ∀ r ∈ dirRows s ch w, r.IsStep s ch w := by
  rw [dirRows, List.forall_mem_append, List.forall_mem_append]
  refine ⟨⟨?_, ?_⟩, ?_⟩
  · simp only [List.forall_mem_cons]
    exact ⟨⟨_, show execDirNoAction ch w s = _ from rfl, rfl⟩, ⟨_, show execDirTakeVerb ch w s = _ from rfl, rfl⟩,
      ⟨_, show execDirCompleteVerb ch w s = _ from rfl, rfl⟩, ⟨_, show execDirSetOutcome ch w s = _ from rfl, rfl⟩,
      ⟨_, show execDirCountSuspend ch w s = _ from rfl, rfl⟩, ⟨_, show execDirRecordResume ch w s = _ from rfl, rfl⟩,
      ⟨_, show execDirRequestLdpcSlot ch w s = _ from rfl, rfl⟩, ⟨_, show execDirSetDurableMarks ch w s = _ from rfl, rfl⟩,
      ⟨_, show execDirSelectDie ch w s = _ from rfl, rfl⟩, ⟨_, show execDirSetCounter ch w s = _ from rfl, rfl⟩,
      ⟨_, show execDirAdvance ch w s = _ from rfl, rfl⟩, List.forall_mem_nil _⟩
  · split
    · exact List.forall_mem_nil _
    · next counts =>
      exact List.forall_mem_singleton.mpr ⟨_, show execDirDecrementCounter ch w s = _ from rfl, if_neg counts⟩
  · split
    · next arg => exact List.forall_mem_singleton.mpr ⟨_, show execDirStartTimer ch w s = _ from rfl, by rw [arg]; rfl⟩
    · next arg => exact List.forall_mem_singleton.mpr ⟨_, show execDirStartTimer ch w s = _ from rfl, by rw [arg]; rfl⟩
    · next arg => exact List.forall_mem_singleton.mpr ⟨_, show execDirStartTimer ch w s = _ from rfl, by rw [arg]; rfl⟩
    · exact List.forall_mem_nil _

/-- Settles O38: each row is a step of the director, which acts, starts its sequencer operation and goes on. -/
theorem directorResults : Obligations.DirectorResults := by
  intro s ch w r hr
  obtain ⟨f, row, after⟩ := dirRows_isStep s ch w r hr
  rw [row]
  refine ⟨fun ready runs => ?_, State.dirStep_oddParity, State.dirStep_unusedAct⟩
  rw [← after] at runs ⊢
  rw [State.dirStep_acts ready runs]
  refine ⟨fun u hu => by rw [hu], fun hq hm hs hp => ?_⟩
  rw [State.seqOp_none hq]
  exact congrArg Host.Outcome.next (State.dirNext_begun hq hm hs hp)

/-! ## Sequencer words (R316 to R319, R321) -/

/-- No frame is on the bus of a channel whose sequencer has taken a word (R314). -/
def State.busFree (s : State) (ch : Nat) : State := s.setChan ch { s.chan ch with xfer := false }

theorem State.busFree_chan (s : State) (ch : Nat) : (s.busFree ch).chan ch = { s.chan ch with xfer := false } :=
  State.chan_setChan_self _ _ _

theorem State.busFree_seqAt (s : State) (ch : Nat) : (s.busFree ch).seqAt ch = s.seqAt ch := by
  unfold State.seqAt
  rw [State.busFree_chan]
  rfl

section
variable {w : BitVec 32} {op : Nat} {f : SeqEff} {t : State}

/-- A ready word does what its operation does, and goes on from there unless that stopped it. -/
theorem State.seqStep_ready (h : s.seqReady ch w op) : s.seqStep ch w op f =
    .next (match f (s.busFree ch) (s.seqWord ch w) with
      | (t, none) => t
      | (t, some a) =>
        if !t.chRuns ch then t
        else if bit (s.seqWord ch w) 20 then t.setChan ch { t.chan ch with seqRun := false, seqDone := true, busGrant := false }
        else t.seqGo ch a) := by
  obtain ⟨runs, on, parity, reserved, used, mine⟩ := h
  have going : ¬(!s.chRuns ch || !(s.chan ch).seqRun) = true := by rw [runs, on]; decide
  have even : ¬(!evenParity (s.seqWord ch w) 0) = true := by rw [parity]; decide
  have formed : ¬(fld (s.seqWord ch w) 21 10 ≠ 0 ∨ 0xB ≤ fld (s.seqWord ch w) 0 4) := by omega
  exact congrArg Host.Outcome.next ((if_neg going).trans ((if_neg even).trans ((if_neg formed).trans (if_neg (not_not.mpr mine)))))

/-- An operation that ends the sequencer's run leaves its own state. -/
theorem State.seqStep_stops (h : s.seqReady ch w op) (he : f (s.busFree ch) (s.seqWord ch w) = (t, none)) :
    s.seqStep ch w op f = .next t := by
  rw [State.seqStep_ready h, he]

theorem State.seqStep_goes {a : Nat} (h : s.seqReady ch w op) (he : f (s.busFree ch) (s.seqWord ch w) = (t, some a))
    (ht : t.chRuns ch = true) : s.seqStep ch w op f =
      .next (if bit (s.seqWord ch w) 20 then t.setChan ch { t.chan ch with seqRun := false, seqDone := true, busGrant := false }
        else t.seqGo ch a) := by
  rw [State.seqStep_ready h, he]
  exact congrArg Host.Outcome.next (if_neg (by rw [ht]; decide))

theorem State.seqStep_oddParity (hr : s.chRuns ch = true) (on : (s.chan ch).seqRun = true)
    (hp : evenParity (s.seqWord ch w) 0 = false) : s.seqStep ch w op f = .next (s.seqCheck ch 2) :=
  congrArg Host.Outcome.next ((if_neg (by rw [hr, on]; decide)).trans (if_pos (by rw [hp]; rfl)))

end

theorem State.seqGo_inStore {a : Nat} (hs : a ≤ 0x47F) (hp : a < 0x400 + s.seqPatchWords ch) :
    s.seqGo ch a = s.setChan ch { s.chan ch with seqPc := a } :=
  if_neg (by omega)

theorem State.seqGo_outside {a : Nat} (h : 0x47F < a ∨ 0x400 + s.seqPatchWords ch ≤ a) : s.seqGo ch a = s.seqCheck ch 4 :=
  if_pos h

/-- A plain word goes on at the address behind the one that it was fetched from. -/
theorem seqPlain_goesOn {v : State} {g : State → W64 → State} {x : W64} {t : State} (hv : v.seqAt ch = s.seqAt ch) (h : g v x = t) :
    seqPlain ch g v x = (t, some (s.seqAt ch + 1)) := by
  rw [seqPlain, h, hv]

/-- What reading words of an array without errors leaves (R463). -/
theorem State.touch_noErrors (p : Loc × Nat) (h : s.sramErr = []) : s.touch p = s := by
  unfold State.touch
  split
  · rw [State.sramRead, h]
    rfl
  · rfl

/-- The current verb is outstanding. -/
theorem State.curVerb_outstanding {r : Req} (h : s.curVerb ch = some r) : (s.findReq r.core r.ticket).isSome = true := by
  obtain ⟨p, -, found⟩ := Option.bind_eq_some_iff.mp h
  have mine : r.core = p.1 ∧ r.ticket = p.2 := by simpa using List.find?_some found
  rw [mine.1, mine.2, found]
  rfl

/-- A status byte leaves the channel with its verb. -/
theorem State.takeStatus_curVerb (s : State) (ch d : Nat) (st : Byte) : (s.takeStatus ch d st).curVerb ch = s.curVerb ch := by
  unfold State.curVerb State.takeStatus
  dsimp only
  rw [State.chan_setChan_self]
  rfl

/-- A row is the sequencer's step of its operation with an effect that leaves the row's state and goes to its next address. -/
def SeqRow.IsStep (s : State) (ch : Nat) (w : BitVec 32) (r : SeqRow) : Prop :=
  ∃ f : SeqEff, exec r.ins s = s.seqStep ch w r.op f ∧ f (s.busFree ch) (s.seqWord ch w) = (r.after, some r.next)

/-- Of the state in which an operation works only the address fetched from and the stack are known: they are the channel's own. -/
theorem seqRows_isStep (s : State) (ch : Nat) (w : BitVec 32) (fr : FrameSense) (st : BitVec 8) :
    ∀ r ∈ seqRows s ch w fr st, r.IsStep s ch w := by
  have place := s.busFree_seqAt ch
  have stack : ((s.busFree ch).chan ch).seqStack = (s.chan ch).seqStack := by rw [State.busFree_chan]
  unfold seqRows SeqRow.IsStep
  unfold State.busFree at *
  dsimp only at *
  generalize s.setChan ch _ = v at *
  refine List.forall_mem_append.mpr ⟨List.forall_mem_append.mpr ⟨List.forall_mem_append.mpr ⟨?_, ?_⟩, ?_⟩, ?_⟩
  · simp only [List.forall_mem_cons]
    refine ⟨⟨_, show execSeqIdle ch w s = _ from rfl, seqPlain_goesOn place rfl⟩,
      ⟨_, show execSeqCommandCycle ch w s = _ from rfl, seqPlain_goesOn place rfl⟩,
      ⟨_, show execSeqAddressCycle ch w s = _ from rfl, seqPlain_goesOn place ?address⟩,
      ⟨_, show execSeqStatusRead ch w st s = _ from rfl, seqPlain_goesOn place ?status⟩,
      ⟨_, show execSeqJump ch w s = _ from rfl, rfl⟩,
      ⟨_, show execSeqChipEnable ch w s = _ from rfl, seqPlain_goesOn place ?enable⟩,
      ⟨_, show execSeqWaitBusGrant ch w s = _ from rfl, seqPlain_goesOn place rfl⟩, List.forall_mem_nil _⟩
    case address =>
      by_cases free : 1024 ≤ seqArg (s.seqWord ch w)
      · rw [if_neg (Nat.not_lt.mpr free), if_pos free]
        rfl
      · rw [if_pos (Nat.not_le.mp free), if_neg free]
        rfl
    case status =>
      cases v.selDie ch with
      | none => rfl
      | some d =>
        dsimp only
        rw [State.takeStatus_curVerb]
        rfl
    case enable =>
      rcases Nat.mod_two_eq_zero_or_one (seqArg (s.seqWord ch w) / 8) with off | on
      · simp only [off, Nat.zero_ne_one, if_false, if_true]
      · simp only [on, Nat.one_ne_zero, if_false, if_true]
  · split
    · next room =>
      refine List.forall_mem_singleton.mpr ⟨_, show execSeqCall ch w s = _ from rfl, ?_⟩
      rw [← stack] at room
      exact (if_neg (Nat.not_le.mpr room)).trans (by rw [place])
    · exact List.forall_mem_nil _
  · split
    · next b q top =>
      refine List.forall_mem_singleton.mpr ⟨_, show execSeqReturn ch w s = _ from rfl, ?_⟩
      dsimp only
      rw [top]
    · exact List.forall_mem_nil _
  · split
    · next r verb =>
      refine List.forall_mem_append.mpr ⟨?_, ?_⟩
      · split
        · next input =>
          obtain ⟨prog, more, turn, clean⟩ := input
          refine List.forall_mem_singleton.mpr ⟨_, show execSeqDataInput ch w s = _ from rfl, ?_⟩
          dsimp only
          rw [verb]
          dsimp only
          rw [if_pos ⟨prog, more, turn⟩, State.touch_noErrors _ clean, if_pos (State.curVerb_outstanding verb), place]
        · exact List.forall_mem_nil _
      · split
        · next output =>
          refine List.forall_mem_singleton.mpr ⟨_, show execSeqDataOutput ch w fr s = _ from rfl, seqPlain_goesOn place ?_⟩
          dsimp only
          rw [verb]
          exact if_pos output
        · exact List.forall_mem_nil _
    · exact List.forall_mem_nil _

/-- Settles O39: each row is a step of the sequencer, which makes its cycle and goes on or ends. That outcomes join by their
maximum, how a frame is scrambled and that a grant comes at once is the model's choice (log entries 24, 130 and 108). -/
theorem sequencerResults : Obligations.SequencerResults := by
  intro s ch w fr st
  refine ⟨fun r hr ready runs u hu => ?_, fun hr on odd => ?_, fun ready full => ?_, fun ready empty => ?_⟩
  · obtain ⟨f, row, effect⟩ := seqRows_isStep s ch w fr st r hr
    rw [row, State.seqStep_goes ready effect runs, hu]
    refine ⟨fun ends => by rw [if_pos ends], fun goes => ?_, fun goes => ?_⟩
    · rw [if_neg (by rw [goes]; decide)]
      exact fun hs hp => congrArg Host.Outcome.next (State.seqGo_inStore hs hp)
    · rw [if_neg (by rw [goes]; decide)]
      exact fun out => congrArg Host.Outcome.next (State.seqGo_outside out)
  · exact (show execSeqJump ch w s = _ from State.seqStep_oddParity hr on odd)
  · exact (show execSeqCall ch w s = _ from State.seqStep_stops ready (if_pos (by rw [State.busFree_chan]; exact full)))
  · have none_left : ((s.busFree ch).chan ch).seqStack = [] := by rw [State.busFree_chan]; exact empty
    refine (show execSeqReturn ch w s = _ from State.seqStep_stops ready ?_)
    dsimp only
    rw [none_left]
    rfl

end Sys2Proof.Machine
end

section
/-! PROOFS. The statements of 10_media_care.md: the reset pin, power failure, worker restarts and power-down. -/

namespace Sys2Proof.Machine

variable {s : State}

/-! ## The reset pin (R565, R566, R569, R587) -/

theorem State.hostDown_keeps {α : Type} (part : State → α) (h : ∀ (t : State) (o : Nat) (v : W64), part (t.setReg o v) = part t)
    (s : State) : part s.hostDown = part s :=
  foldl_keeps part (fun t _ => h t _ _) _ s

/-- The reset pin's effect on a device that is up or stopped: without controllers, and with its host ports in reset. -/
def State.pinReset (s : State) : State := ((s.putCtrls []).putBoot { s.boot with perstLow := true } : State).hostDown

theorem State.pinReset_frame (s : State) : s.pinReset.ctrls = [] ∧ s.pinReset.boot.perstLow = true ∧
    s.pinReset.boot.down = s.boot.down ∧ s.pinReset.tick = s.tick :=
  ⟨State.hostDown_keeps State.ctrls (fun _ _ _ => rfl) _, State.hostDown_keeps (·.boot.perstLow) (fun _ _ _ => rfl) _,
    State.hostDown_keeps (·.boot.down) (fun _ _ _ => rfl) _, State.hostDown_keeps State.tick (fun _ _ _ => rfl) _⟩

section
variable (hs : s.boot.strapped = true) (hl : s.boot.perstLow = false) (hw : s.isWorker = false)
include hs hl hw

theorem exec_perstAssertion : exec .perstAssertion s = .next (if s.boot.down then s else s.faultReset 8 0 0).pinReset :=
  congrArg Host.Outcome.next (if_neg (by simp [hs, hl, hw]))

theorem exec_perstAssertion_up (hu : s.up) : exec .perstAssertion s = .next (s.faultReset 8 0 0).pinReset := by
  rw [exec_perstAssertion hs hl hw, if_neg (by rw [show s.boot.down = false from hu]; exact Bool.false_ne_true)]

theorem exec_perstAssertion_result : ∃ t : State, exec .perstAssertion s = .next t ∧ t.ctrls = [] ∧ t.boot.perstLow = true ∧
    t.boot.down = true ∧ t.tick = s.tick := by
  refine ⟨_, exec_perstAssertion hs hl hw, ?_⟩
  obtain ⟨ctrls, low, boot, tick⟩ := (if s.boot.down then s else s.faultReset 8 0 0).pinReset_frame
  refine ⟨ctrls, low, ?_⟩
  rw [boot, tick]
  by_cases down : s.boot.down = true
  · rw [if_pos down]
    exact ⟨down, rfl⟩
  · rw [if_neg down]
    exact ⟨State.faultReset_down _ _ _ _, (State.faultReset_clock _ _ _ _).1⟩

end

theorem exec_perstDeassertion_first (b : BoardPins) (hp : s.boot.pwrFail = false) (hs : s.boot.strapped = false) :
    exec (.perstDeassertion b) s = .next ((s.sampleStraps b).bringUp b) :=
  congrArg Host.Outcome.next ((if_neg (by simp [hp])).trans (if_pos (by simp [hs])))

theorem exec_perstDeassertion_later (b : BoardPins) (hp : s.boot.pwrFail = false) (hs : s.boot.strapped = true)
    (hl : s.boot.perstLow = true) (hw : s.isWorker = false) :
    exec (.perstDeassertion b) s = .next ((s.putBoot { s.boot with perstLow := false } : State).hostTrain b.hostLink) :=
  congrArg Host.Outcome.next ((if_neg (by simp [hp])).trans ((if_neg (by simp [hs])).trans (if_pos (by simp [hl, hw]))))

/-! ## Power failure (R360, R477, R554, R575, R576) -/

/-- The ingot store takes the health counters, where it is ready and its dome is on. -/
def State.saveHealth (s : State) : State := if bit (s.reg (sta 9 0)) 0 && s.domeOn 28 then s.copyHealth else s

/-- The ingot store is closed to writes, and shows the failure. -/
def State.closeIngot (s : State) : State := (s.setRfld (sta 9 0) 2 1 1).setRfld (sta 9 0) 1 1 1

/-- An erase of the pattern store is abandoned; a program goes on. -/
def State.abandonErase (s : State) : State :=
  match s.pat.op with
  | some (true, a) =>
    ((s.norSpoil true a).putPat { s.pat with op := none } : State).setRfld patCmd 2 1 0 |>.setRfld patStat 0 1 0
  | _ => s

theorem exec_powerFail (h : s.boot.pwrFail = false) : ∃ b : Boot, b.pwrFail = true ∧
    exec .powerFail s = .next (s.readyLow.saveHealth.closeIngot.abandonErase.putBoot b) :=
  ⟨_, rfl, congrArg Host.Outcome.next (if_neg (by simp [h]))⟩

/-- The parts of the state that no step of a power failure touches. -/
def State.media (s : State) : FMap Byte × FMap NFrame × List Req := (s.dram, s.nand, s.reqs)

theorem State.readyLow_media (s : State) : s.readyLow.media = s.media := by
  have kept := s.readyLow_keeps (q := True)
  unfold State.media
  rw [kept.dram, kept.nand trivial, s.readyLow_reqs]

theorem State.saveHealth_media (s : State) : s.saveHealth.media = s.media := by
  unfold State.saveHealth
  split
  · simp only [State.media, State.copyHealth, State.putIngot_frame]
  · rfl

theorem State.closeIngot_marks (s : State) : bit (s.closeIngot.reg (sta 9 0)) 1 = true ∧ bit (s.closeIngot.reg (sta 9 0)) 2 = true := by
  unfold State.closeIngot State.setRfld
  rw [State.reg_setReg_self, State.reg_setReg_self]
  refine ⟨bit_setFld_same _ (by decide) 1, ?_⟩
  rw [bit_setFld_other _ (by decide) _ (by decide)]
  exact bit_setFld_same _ (by decide) 1

theorem State.abandonErase_frame (s : State) : s.abandonErase.reg (sta 9 0) = s.reg (sta 9 0) ∧ s.abandonErase.media = s.media := by
  unfold State.abandonErase
  split
  · refine ⟨?_, by simp [State.media, State.norSpoil, State.norErase]⟩
    rw [State.reg_setRfld_ne _ _ _ _ (by decide), State.reg_setRfld_ne _ _ _ _ (by decide)]
    exact State.reg_of_regs (by simp [State.norSpoil, State.norErase]) _
  · exact ⟨rfl, rfl⟩

theorem exec_powerFail_result (h : s.boot.pwrFail = false) : ∃ t : State, exec .powerFail s = .next t ∧ t.boot.pwrFail = true ∧
    bit (t.reg (sta 9 0)) 1 = true ∧ bit (t.reg (sta 9 0)) 2 = true ∧ t.media = s.media := by
  obtain ⟨b, failed, step⟩ := exec_powerFail h
  obtain ⟨word, media⟩ := s.readyLow.saveHealth.closeIngot.abandonErase_frame
  obtain ⟨closed, marked⟩ := s.readyLow.saveHealth.closeIngot_marks
  rw [← word] at closed marked
  exact ⟨_, step, failed, closed, marked, media.trans (s.readyLow.saveHealth_media.trans s.readyLow_media)⟩

/-- The supply has outlived a failure: the marks of the failure go. -/
def State.supplyBack (s : State) : State :=
  ((s.setRfld (sta 9 0) 2 1 0).setRfld (sta 9 0) 1 1 0).putBoot { s.boot with pwrFail := false }

section
variable (b : BoardPins) (h : s.boot.pwrFail = true)
include h

theorem exec_powerFailTimeout : exec (.powerFailTimeout b) s = .next (if !s.supplyBack.boot.strapped then s.supplyBack
    else if s.supplyBack.bootStep = 8 then s.supplyBack.faultReset 9 0 0 else s.supplyBack.bringUp b) :=
  congrArg Host.Outcome.next (if_neg (by simp [h]))

theorem exec_powerFailTimeout_strapped (hs : s.boot.strapped = true) : exec (.powerFailTimeout b) s =
    .next (if s.supplyBack.bootStep = 8 then s.supplyBack.faultReset 9 0 0 else s.supplyBack.bringUp b) := by
  rw [exec_powerFailTimeout b h, if_neg (by rw [show s.supplyBack.boot.strapped = true from hs]; exact Bool.false_ne_true)]

theorem exec_powerFailTimeout_unstrapped (hs : s.boot.strapped = false) : exec (.powerFailTimeout b) s = .next s.supplyBack := by
  rw [exec_powerFailTimeout b h, if_pos (by rw [show s.supplyBack.boot.strapped = false from hs]; rfl)]

end

/-! ## Restart of a worker (R572) -/

theorem exec_workerRestart (sg : BitVec 2) (st : NandPins) (hw : s.isWorker = true) (hf : s.faulted = true)
    (hp : s.boot.pwrFail = false) : exec (.workerRestart sg st) s = .next (s.restart (startPins sg st)) :=
  congrArg Host.Outcome.next (if_pos ⟨hw, hf, by rw [hp]; rfl⟩)

/-! ## Power-down (R470, R571) -/

/-- The records that are durable beside the dies and the pattern store. -/
def State.records (s : State) : FMap Byte × FMap NsCfg × FMap (Option NsInfo) × FMap W64 × List (List Byte) :=
  (s.ingot, s.ns, s.nsInfo, s.wmap, s.lostRanges)

theorem State.spoilOp_records (s : State) (r : Req) : (s.spoilOp r).records = s.records := by
  unfold State.spoilOp
  split
  · exact foldl_keeps (f := fun t k => t.setFrame k .undef) State.records (fun _ _ => rfl) _ s
  · split
    · exact foldl_keeps (f := fun t pl => t.resetBlock _ false) State.records (fun _ _ => rfl) _ s
    · rfl

theorem State.norSpoil_records (s : State) (erase : Bool) (a : Nat) : (s.norSpoil erase a).records = s.records := by
  unfold State.norSpoil
  split <;> rfl

theorem State.cutPower_records (s : State) : s.cutPower.records = s.records := by
  have dies : s.spoilStarted.records = s.records := foldl_keeps State.records State.spoilOp_records _ s
  unfold State.cutPower
  dsimp only
  split
  · exact (State.norSpoil_records _ _ _).trans dies
  · exact dies

/-- With nothing under way on the dies or in the pattern store, the loss of power cuts nothing. -/
theorem State.cutPower_quiet (hq : s.FlashQuiet) (hp : s.pat.op = none) : s.cutPower = s := by
  have dies : s.spoilStarted = s := State.spoilStarted_quiet hq
  unfold State.spoilStarted at dies
  simp only [State.cutPower, dies, hp]

theorem exec_powerDown (s : State) : ∃ t : State, exec .powerDown s = .next t ∧ t.records = s.cutPower.records ∧
    t.nor = s.cutPower.nor ∧ t.nand = s.cutPower.nand ∧ t.regs = State.reset.regs ∧ t.cores = State.reset.cores ∧ t.reqs = [] ∧
    t.cmds = [] ∧ t.tick = 0 ∧ t.power = 0 ∧ t.boot.strapped = false ∧ t.boot.down = true :=
  ⟨_, rfl, rfl, rfl, rfl, rfl, rfl, rfl, rfl, rfl, rfl, rfl, rfl⟩

/-- Settles O58: each clause is one row of the reset pin or of the supply. That one deassertion runs the whole bring-up, that an
assertion clears every controller, what a power-down keeps and the registers' values after it are the model's choice (log entries
35, 44, 49 and 84). -/
theorem powerResults : Obligations.PowerResults := by
  refine fun s b => ⟨exec_perstDeassertion_first b, exec_perstDeassertion_later b,
    fun hs hl hw => ⟨exec_perstAssertion_up hs hl hw, exec_perstAssertion_result hs hl hw⟩, fun hp => ?_, fun hp => ?_,
    exec_workerRestart, ?_⟩
  · obtain ⟨t, step, failed, closed, marked, media⟩ := exec_powerFail_result hp
    obtain ⟨dram, nand, reqs⟩ := (by simpa only [State.media, Prod.mk.injEq] using media)
    exact ⟨t, step, failed, closed, marked, dram, nand, reqs⟩
  · exact ⟨fun hs ready => (exec_powerFailTimeout_strapped b hp hs).trans (congrArg Host.Outcome.next (if_pos ready)),
      fun hs early => (exec_powerFailTimeout_strapped b hp hs).trans (congrArg Host.Outcome.next (if_neg early)),
      exec_powerFailTimeout_unstrapped b hp⟩
  · obtain ⟨t, step, records, nor, nand, volatile⟩ := exec_powerDown s
    rw [s.cutPower_records] at records
    obtain ⟨ingot, ns, info, map, lost⟩ := (by simpa only [State.records, Prod.mk.injEq] using records)
    obtain ⟨regs, cores, reqs, cmds, tick, power, straps, down⟩ := volatile
    exact ⟨t, step, ingot, ns, info, map, lost, regs, cores, reqs, cmds, tick, power, straps, down, fun hq hp =>
      ⟨nor.trans (congrArg State.nor (State.cutPower_quiet hq hp)), nand.trans (congrArg State.nand (State.cutPower_quiet hq hp))⟩⟩

end Sys2Proof.Machine
end

section
/-! PROOFS. The statements of 11_span_and_members.md, first part: a chain without members, and lost members. -/

namespace Sys2Proof.Machine

/-! ## Enumeration of a chain on which no member answers (R376, R379, R382) -/

theorem exec_chainEnumeration_noMember {s : State} {p : Nat} (hm : s.isManager = true) (hu : s.up)
    (hp : s.spanPresent p = true) (hl : s.linkUp p = true) (ha : (s.sport p).asked = 1) :
    let u := (s.setSport p { s.sport p with asked := 0 }).confirmManager none []
    exec (.chainEnumeration p []) s =
      .next ((u.putPeerVia (FMap.erase u.peerVia p)) : State).managerRoutes.settleOwn := by
  have runs : ¬(!s.isManager ∨ !s.spanPresent p ∨ !s.linkUp p ∨ s.boot.down) := by simp [hm, hu, hp, hl]
  refine congrArg Host.Outcome.next ((if_neg runs).trans ?_)
  rw [ha]
  rfl

/-! ## What a lost member leaves (R394, R395) -/

section
variable {s : State} {n : Nat}

theorem State.removeMember_noVolume (hv : s.volumes = []) : s.removeMember n = s := by
  unfold State.removeMember
  rw [hv]
  rfl

theorem State.resendLost_idle (hr : s.resOut = []) : s.resendLost n = s.putResOut [] := by
  unfold State.resendLost
  rw [hr]
  rfl

/-- The manager's record of a member that is marked lost. -/
def State.markLost (s : State) (n : Nat) (x : Member) : State :=
  ((s.setRfld (routeReg n) 6 1 1).putPings (s.pings.filter (fun p => p.1 ≠ n))).setMember n (some { x with state := 4 })

theorem State.markLost_lost (s : State) (n : Nat) (x : Member) : (s.markLost n x).memberLost n = true := by
  have route : (s.markLost n x).route n = setFld (s.reg (routeReg n)) 6 1 1 := s.reg_setReg_self (routeReg n) _
  unfold State.memberLost
  rw [route, bit_setFld_same _ (by decide)]
  rfl

theorem State.markLost_member (s : State) (n : Nat) (x : Member) : (s.markLost n x).member n = some { x with state := 4 } :=
  (State.member_setMember _ n n _).trans (if_pos rfl)

theorem State.markLost_peerId (s : State) (x : Member) (hn : n < 256) : (s.markLost n x).peerId = s.peerId := by
  have own : (s.markLost n x).ownMember = s.ownMember :=
    congrArg (fld · 8 8) (s.reg_setRfld_ne 6 1 1 (idRole_ne_routeReg hn))
  unfold State.peerId
  rw [own]

/-- With no request of a program to end, the loss of a known member is its mark and what the volumes and the resident set do. -/
theorem State.loseMember_known {x : Member} (hx : s.member n = some x) (ho : s.spanOut = []) :
    s.loseMember n = if n = (((s.markLost n x).removeMember n).resendLost n).peerId then
      (((s.markLost n x).removeMember n).resendLost n).takeOver else ((s.markLost n x).removeMember n).resendLost n := by
  have known : ((s.setRfld (routeReg n) 6 1 1).putPings (s.pings.filter (fun p => p.1 ≠ n))).member n = some x := hx
  unfold State.loseMember
  simp only [State.putPings_frame, State.setRfld_frame, ho, List.filter_nil, List.foldl_nil]
  rw [known]
  rfl

/-- Of a member with no request and no volume, nothing but its own record changes. -/
theorem State.loseMember_idle {x : Member} (hx : s.member n = some x) (hn : n < 256) (hp : n ≠ s.peerId) (ho : s.spanOut = [])
    (hr : s.resOut = []) (hv : s.volumes = []) : s.loseMember n = (s.markLost n x).putResOut [] := by
  rw [State.loseMember_known hx ho, State.removeMember_noVolume (s := s.markLost n x) hv, State.resendLost_idle (s := s.markLost n x) hr]
  exact if_neg fun same => hp (Eq.trans same (s.markLost_peerId x hn))

end

/-! ## MEMBER_LOST (R394, R395) -/

theorem State.lastReport_known {s : State} {n : Nat} {x : Member} (hx : s.member n = some x) : s.lastReport n = x.seen.toNat := by
  unfold State.lastReport
  rw [hx]

section
variable {s : State} {m : BitVec 8} {x : Member} (hm : s.isManager = true) (hu : s.up) (hx : s.member m.toNat = some x)
  (hid : m.toNat ≤ 0x41) (hown : m.toNat ≠ s.ownMember) (hl : s.memberLost m.toNat = false)
include hm hu hx hid hown hl

/-- MEMBER_LOST goes on for a known member that no route reaches, or that has been silent for four report periods. -/
theorem memberLost_runs (h : s.routePort m.toNat = none ∨ x.seen.toNat + 4 * s.rfld (sta 0xD 0x10) 0 9 ≤ s.tick.toNat) :
    ¬(!s.isManager ∨ s.boot.down ∨ !isMemberId m.toNat ∨ m.toNat = s.ownMember ∨ s.memberLost m.toNat ∨
        ((s.member m.toNat).isNone ∧ m.toNat ≠ s.peerId) ∨ ((s.routePort m.toNat).isSome ∧
          !decide (s.lastReport m.toNat + 4 * s.rfld (sta 0xD 0x10) 0 9 ≤ s.tick.toNat))) := by
  have member : isMemberId m.toNat = true := decide_eq_true hid
  rw [State.lastReport_known hx]
  rcases h with h | h <;> simp [hm, hu, hx, member, hown, hl, h]

theorem exec_memberLost_unreached (hr : s.routePort m.toNat = none) :
    exec (.memberLost m) s = .next (s.loseMember m.toNat) := by
  refine congrArg Host.Outcome.next ((if_neg (memberLost_runs hm hu hx hid hown hl (.inl hr))).trans (if_pos ?_))
  rw [hr]
  rfl

section
variable (hr : (s.routePort m.toNat).isSome = true) (hs : x.seen.toNat + 4 * s.rfld (sta 0xD 0x10) 0 9 ≤ s.tick.toNat)
include hr hs

theorem exec_memberLost_unanswered {q : W64} (hq : s.pings.find? (fun y => y.1 = m.toNat) = some (m.toNat, q))
    (ht : q.toNat + s.usTicks 64 ≤ s.tick.toNat) : exec (.memberLost m) s = .next (s.loseMember m.toNat) := by
  refine congrArg Host.Outcome.next ((if_neg (memberLost_runs hm hu hx hid hown hl (.inr hs))).trans
    ((if_neg (by rw [← Option.not_isSome, hr]; decide)).trans ?_))
  rw [hq]
  exact if_pos ht

theorem exec_memberLost_asks (hq : s.pings.find? (fun y => y.1 = m.toNat) = none) : exec (.memberLost m) s =
    .next ((s.validPorts m.toNat).foldl (fun (s : State) r => s.sendMsg r (s.mkMsg m.toNat 5 [s.tick] []))
      (s.putPings (s.pings ++ [(m.toNat, s.tick)]))) := by
  refine congrArg Host.Outcome.next ((if_neg (memberLost_runs hm hu hx hid hown hl (.inr hs))).trans
    ((if_neg (by rw [← Option.not_isSome, hr]; decide)).trans ?_))
  rw [hq]

end
end

/-- Settles O46: each clause is one row of the manager. That the first enumeration of any chain settles the manager's side and its
own half of the journal is the model's choice (log entries 45 and 93). -/
theorem memberChanges : Obligations.MemberChanges := by
  intro s p hm hu
  refine ⟨exec_chainEnumeration_noMember hm hu, fun m x hx hid hown hl => ⟨fun q hc hp ho hr hv => ?_,
    exec_memberLost_asks hm hu hx hid hown hl⟩⟩
  have lost : exec (.memberLost m) s = .next (s.loseMember m.toNat) := by
    cases route : s.routePort m.toNat with
    | none => exact exec_memberLost_unreached hm hu hx hid hown hl route
    | some r =>
      obtain none | ⟨silent, asked, late⟩ := hc
      · rw [route] at none
        cases none
      · exact exec_memberLost_unanswered hm hu hx hid hown hl (by rw [route]; rfl) silent asked late
  rw [State.loseMember_idle hx m.isLt hp ho hr hv] at lost
  exact ⟨_, lost, s.markLost_lost _ x, s.markLost_member _ x⟩

end Sys2Proof.Machine
end

section
/-! PROOFS. The statements of 11_span_and_members.md, second part: requests that a worker answers, and the peer's journal
records and checkpoints. -/

namespace Sys2Proof.Machine

/-- As `onArrival_asked`, with what the row makes of the state once the event is taken. -/
theorem onArrival_taken {s u t : State} {e : W64} {typ : Nat} {a : SpanArr} {ok : SpanArr → Bool} {f : State → SpanArr → State}
    (hu : s.takeEvent e = u) (h : s.Asked e typ a) (ho : ok a = true) (ht : f u a = t) : onArrival s e typ ok f = .next t := by
  rw [onArrival_asked f h ho, hu, ht]

theorem gwrite_sized {a : SpanArr} {n : Nat} (hn : fld (a.word 1) 0 6 + 1 = n) (h63 : n ≤ 63) (hl : a.len = n * 4128) :
    ¬(63 < fld (a.word 1) 0 6 + 1 ∨ a.len ≠ (fld (a.word 1) 0 6 + 1) * 4128) := by
  omega

section
variable {s u : State} {e : W64} {a : SpanArr} (hu : s.takeEvent e = u)
include hu

section
variable (hw : s.isWorker = true)
include hw

/-! ## GWRITE (R384, R407 to R409) -/

section
variable {n : Nat} (hn : fld (a.word 1) 0 6 + 1 = n) (ha : s.Asked e 0x10 a) {ps : List W64}
include hn ha

theorem exec_gwrite_badSize (hg : (s.gwriteRefuse a.vol a.addr || ps.isEmpty || s.placesOk ps (unitAddrs a.addr n).length) = true)
    (hl : 63 < n ∨ a.len ≠ n * 4128) : exec (.gwrite e ps) s = .next (u.reply a 0x1F [] []) := by
  subst hn
  show execGwrite e ps s = _
  rw [execGwrite]
  exact onArrival_taken hu ha (by rw [hw]; exact hg) (if_pos hl)

section
variable (h63 : n ≤ 63) (hl : a.len = n * 4128)
include h63 hl

theorem exec_gwrite_refused (hs : s.gwriteRefuse a.vol a.addr = true) (hr : u.gwriteRefuse a.vol a.addr = true) :
    exec (.gwrite e ps) s = .next (u.reply a 0x64 [] []) := by
  show execGwrite e ps s = _
  rw [execGwrite]
  exact onArrival_taken hu ha (by rw [hw, hs]; rfl) ((if_neg (gwrite_sized hn h63 hl)).trans (if_pos hr))

section
variable (hr : u.gwriteRefuse a.vol a.addr = false)
include hr

theorem exec_gwrite_noPlace : exec (.gwrite e []) s = .next (u.reply a 0x21 [] []) := by
  show execGwrite e [] s = _
  rw [execGwrite]
  exact onArrival_taken hu ha (by simp [hw]) ((if_neg (gwrite_sized hn h63 hl)).trans (if_neg (ne_true_of_eq_false hr)))

section
variable (hne : ps ≠ []) (hp : s.placesOk ps (unitAddrs a.addr n).length = true)
include hne hp

theorem exec_gwrite_stored {t : State} (ht : u.storeMember a.vol a.addr ps (framedGrains n (u.payloadOf a)) = some t) :
    exec (.gwrite e ps) s = .next (t.reply a 0 [] []) := by
  show execGwrite e ps s = _
  rw [execGwrite]
  refine onArrival_taken hu ha (by simp [hw, hn, hp]) ((if_neg (gwrite_sized hn h63 hl)).trans ((if_neg (ne_true_of_eq_false hr)).trans
    ((if_neg (by simpa using hne)).trans ?_)))
  simp only [hn, ht]

theorem exec_gwrite_noKey (ht : u.storeMember a.vol a.addr ps (framedGrains n (u.payloadOf a)) = none) :
    exec (.gwrite e ps) s = .next (u.reply a 0x40 [] []) := by
  show execGwrite e ps s = _
  rw [execGwrite]
  refine onArrival_taken hu ha (by simp [hw, hn, hp]) ((if_neg (gwrite_sized hn h63 hl)).trans ((if_neg (ne_true_of_eq_false hr)).trans
    ((if_neg (by simpa using hne)).trans ?_)))
  simp only [hn, ht]

end
end
end
end

/-! ## GREAD and GTRIM (R384, R408) -/

theorem exec_gread {bs : List Byte} {bad : Nat} {miss : Bool} (ha : s.Asked e 0x11 a) (h63 : fld (a.word 1) 0 6 + 1 ≤ 63)
    (hb : u.greadAll a.vol (fld (a.word 1) 0 6 + 1) 0 a.addr = (bs, bad, miss)) : exec (.gread e) s =
      .next (if miss then u.reply a 0x61 [] [] else if bad ≠ 0 then u.reply a 0x30 [w64 bad] [] else u.reply a 0 [] bs) := by
  refine show execGread e s = _ from onArrival_taken hu ha hw ((if_neg (Nat.not_lt.mpr h63)).trans ?_)
  rw [hb]

theorem exec_gtrim (ha : s.Asked e 0x12 a) :
    exec (.gtrim e) s = .next ((u.wmapDrop a.vol a.addr (fld (a.word 1) 0 32)).reply a 0 [] []) :=
  show execGtrim e s = _ from onArrival_taken hu ha hw rfl

/-! ## GZONE (R384, R408) -/

section
variable (ha : s.Asked e 0x13 a)
include ha

theorem exec_gzoneReset (hz : a.zop = 3) :
    let t := u.wmapDrop a.vol (a.addr / 2 ^ 19 * 2 ^ 19) (2 ^ 19)
    exec (.gzoneReset e) s = .next ((t.putWfin (FMap.set notFin t.wfin (zoneKey a.vol a.addr) false) : State).reply a 0 [] []) :=
  show execGzoneReset e s = _ from onArrival_taken hu ha (by rw [hw, hz]; rfl) rfl

theorem exec_gzoneFinish (hz : a.zop = 4) : exec (.gzoneFinish e) s =
    .next ((u.putWfin (FMap.set notFin u.wfin (zoneKey a.vol a.addr) true) : State).reply a 0 [] []) :=
  show execGzoneFinish e s = _ from onArrival_taken hu ha (by rw [hw, hz]; rfl) rfl

theorem exec_gzoneRead (hz : a.zop = 5) : exec (.gzoneRead e) s =
    .next (u.reply a 0 [w64 (u.zoneGrains a.vol a.addr), w64 (b2n (u.zoneFin a.vol a.addr))] []) :=
  show execGzoneRead e s = _ from onArrival_taken hu ha (by rw [hw, hz]; rfl) rfl

end

/-! ## STATUS and KEYWRAP (R249, R384, R501) -/

theorem exec_status (ha : s.Asked e 0x16 a) :
    let ver := u.pairVer a.src
    exec (.status e) s = .next (u.reply a 0 [] (memberEntry u.ownMember (if u.preserve || u.anyHeld then 3 else 2) u.chain u.position
      (ver / 16 * 256 + ver % 16) u.diesFitted u.rawGib u.longestHorizon u.replays 0 (tempField (max u.dieMax u.pkgMax)))) :=
  show execStatus e s = _ from onArrival_taken hu ha hw rfl

section
variable (ha : s.Asked e 0x17 a)
include ha

theorem exec_keywrap_clears {m : Nat} (h0 : a.len = 0) (hs : u.slotOfNs (fld (a.word 0) 0 16) = some m) :
    exec (.keywrap e) s = .next ((u.clearSlot m).reply a 0 [] []) := by
  refine show execKeywrap e s = _ from onArrival_taken hu ha hw ((if_pos h0).trans ?_)
  rw [hs]

theorem exec_keywrap_noSlot (h0 : a.len = 0) (hs : u.slotOfNs (fld (a.word 0) 0 16) = none) :
    exec (.keywrap e) s = .next (u.reply a 0 [] []) := by
  refine show execKeywrap e s = _ from onArrival_taken hu ha hw ((if_pos h0).trans ?_)
  rw [hs]

theorem exec_keywrap_imports (hl : a.len = 80) (hs : u.slotOfNs (fld (a.word 0) 0 16) = none) :
    let bs := u.payloadOf a
    let r := u.importBind (ofBytes (bs.take 4)) (fld (a.word 0) 0 16) (ofBytes ((bs.drop 4).take 1)) ((bs.drop 8).take 72)
    exec (.keywrap e) s = .next (r.2.reply a r.1.toNat [] []) :=
  show execKeywrap e s = _ from onArrival_taken hu ha hw
    ((if_neg (by omega)).trans ((if_neg (not_not_intro hl)).trans (if_neg (by rw [hs]; decide))))

theorem exec_keywrap_rejects (h0 : a.len ≠ 0) (hr : a.len ≠ 80 ∨ (u.slotOfNs (fld (a.word 0) 0 16)).isSome = true) :
    exec (.keywrap e) s = .next (u.reply a 0x1F [] []) := by
  refine show execKeywrap e s = _ from onArrival_taken hu ha hw ((if_neg h0).trans ?_)
  by_cases hl : a.len = 80
  · exact (if_neg (not_not_intro hl)).trans (if_pos (hr.resolve_left (not_not_intro hl)))
  · exact if_pos hl

end
end

section
variable (hp : s.fromPeer a = true)
include hp

/-! ## JOURNAL (R384, R412, R413) -/

section
variable (ha : s.Asked e 0x14 a) (hl : (u.payloadOf a).length = 128)
include ha hl

theorem exec_journal_slot (hi : (a.word 0).toNat < 122880) : exec (.journal e) s =
    .next (((u.putIngot (wrBytes u.ingot (slotOff (a.word 0).toNat) (u.payloadOf a))) : State).reply a 0 [] []) :=
  show execJournal e s = _ from onArrival_taken hu ha hp ((if_neg (not_not_intro hl)).trans (if_pos hi))

/-- A zone record that does not start beyond the write pointer is applied in its turn. -/
theorem exec_journal_record {x : JEntry} {l : Layout} {t : State} (hi : 122880 ≤ (a.word 0).toNat)
    (hx : jentryOf (u.payloadOf a) = some x) (hv : u.layout x.vol = some l)
    (hd : 1 < x.op ∨ x.first ≤ u.zwp (u.volZone x.vol x.zone)) (ht : u.applyRecord l x = some t) :
    exec (.journal e) s = .next (t.reply a 0 [] []) := by
  have due : ¬(x.op ≤ 1 ∧ u.zwp (u.volZone x.vol x.zone) < x.first) := by omega
  refine show execJournal e s = _ from
    onArrival_taken hu ha hp ((if_neg (not_not_intro hl)).trans ((if_neg (Nat.not_lt.mpr hi)).trans ?_))
  simp only [hx, hv, if_neg due, ht]

end

/-! ## Checkpoints (R384, R414, R425, R434) -/

section
variable (ha : s.Asked e 0x15 a)
include ha

theorem exec_ckptReserveBound (hk : a.ckKind = 1) (h1 : (u.anaGroup 1).state ≠ 3) (h2 : (u.anaGroup 2).state ≠ 3) :
    exec (.ckptReserveBound e) s = .next (((u.putPeerBound (ofBytes ((u.payloadOf a).take 8))) : State).reply a 0 [] []) := by
  refine show execCkptReserveBound e s = _ from onArrival_taken hu ha (by rw [hp, hk]; rfl) ?_
  generalize hv : (u.putPeerBound (ofBytes ((u.payloadOf a).take 8)) : State) = v
  have groups : v.anaGroup = u.anaGroup := by rw [← hv]; rfl
  simp only [groups, if_neg h1, if_neg h2]

theorem exec_ckptLayout {l : Layout} (hk : a.ckKind = 2) (hl : layoutOf (u.payloadOf a) = some l)
    (hg : (u.anaGroup l.group).state ≠ 3) :
    exec (.ckptLayout e) s = .next (((u.putLayout l).peerVolume l).reply a 0 [] []) := by
  refine show execCkptLayout e s = _ from onArrival_taken hu ha (by rw [hp, hk]; rfl) ?_
  simp only [hl, if_neg hg]

theorem exec_ckptZoneState (hk : a.ckKind = 3) :
    let bs := u.payloadOf a
    exec (.ckptZoneState e) s = .next ((u.setZtab (u.volZone (ofBytes ((bs.drop 4).take 2)) (ofBytes (bs.take 4)))
      (w64 (ofBytes ((bs.drop 8).take 8)))).reply a 0 [] []) :=
  show execCkptZoneState e s = _ from onArrival_taken hu ha (by rw [hp, hk]; rfl) rfl

section
variable {g : Nat} (hk : a.ckKind = 4) (hg : ofBytes ((u.payloadOf a).take 1) % 4 = g)
include hk hg

theorem exec_ckptGroupTransfer_refused (hr : (u.anaGroup g).owned = false ∨ u.justMoved g = true) :
    exec (.ckptGroupTransfer e) s = .next (u.reply a 0x64 [] []) :=
  show execCkptGroupTransfer e s = _ from
    onArrival_taken hu ha (by rw [hp, hk]; rfl) (if_pos (by rw [hg]; simpa using hr))

section
variable (ho : (u.anaGroup g).owned = true) (hm : u.justMoved g = false)
include ho hm

theorem exec_ckptGroupTransfer_busy (hb : u.groupBusy g = true) :
    exec (.ckptGroupTransfer e) s = .next (u.setGroup g { u.anaGroup g with state := 15 }) := by
  subst hg
  exact show execCkptGroupTransfer e s = _ from
    onArrival_taken hu ha (by rw [hp, hk]; rfl) ((if_neg (by rw [ho, hm]; decide)).trans (if_pos hb))

theorem exec_ckptGroupTransfer_idle (hb : u.groupBusy g = false) :
    let t := u.ckpt 1 (toBytes 8 (u.rfld hazWsnRes 0 56))
    exec (.ckptGroupTransfer e) s =
      .next (((t.setGroup g { owned := false, state := 2, moved := some t.tick }).asyncAll anaChange).reply a 0 [] []) := by
  subst hg
  exact show execCkptGroupTransfer e s = _ from
    onArrival_taken hu ha (by rw [hp, hk]; rfl) ((if_neg (by rw [ho, hm]; decide)).trans (if_neg (ne_true_of_eq_false hb)))

end
end

theorem exec_ckptLostRange (hk : a.ckKind = 5) (hl : ((u.payloadOf a).take 32).length = 32) (hn : u.lostRanges.length < 65536) :
    exec (.ckptLostRange e) s = .next ((u.addLost ((u.payloadOf a).take 32)).reply a 0 [] []) :=
  show execCkptLostRange e s = _ from onArrival_taken hu ha (by rw [hp, hk]; rfl) (if_pos ⟨hl, hn⟩)

end
end
end

end Sys2Proof.Machine
end

section
/-! PROOFS. The statements of 11_span_and_members.md, third part: stripes, rebuild, the parity patrol and reshapes. -/

namespace Sys2Proof.Machine

/-! ## What sending leaves of the ingot store -/

section
variable (s : State)

theorem State.sendMsg_ingot (p : Nat) (m : SpanMsg) : (s.sendMsg p m).ingot = s.ingot :=
  congrArg (fun x : Nat × Nat × FMap Byte × W64 => x.2.2.1) (s.sendMsg_standing p m)

theorem State.rsend_ingot (dst typ flags : Nat) (level : BitVec 3) (hw : List W64) (payload : List Byte) :
    (s.rsend dst typ flags level hw payload).ingot = s.ingot := by
  unfold State.rsend State.rsendAt State.rsendFor
  split
  · split
    · rfl
    · exact State.sendMsg_ingot _ _ _
  · rfl

theorem State.askGrains_ingot (v m addr n : Nat) (level : BitVec 3) : (s.askGrains v m addr n level).ingot = s.ingot :=
  s.rsend_ingot _ _ _ _ _ _

theorem State.sendKept_ingot (v m addr : Nat) (level : BitVec 3) (gs : List (List Byte × List Byte)) :
    (s.sendKept v m addr level gs).ingot = s.ingot := s.rsend_ingot _ _ _ _ _ _

theorem State.copyZone_ingot (l : Layout) (z : Nat) (gs : List PieceGrain) : (s.copyZone l z gs).ingot = s.ingot := by
  refine foldl_keeps State.ingot (fun t j => foldl_keeps State.ingot (fun t i => ?_) _ t) _ s
  have kept : ∀ (m : Nat) (rs : List (Nat × List (List Byte × List Byte))) (u : State),
      (rs.foldl (fun (u : State) r => u.sendKept l.vol m (pieceAddr z i + r.1) 6 r.2) u).ingot = u.ingot := fun m =>
    foldl_keeps State.ingot fun u r => u.sendKept_ingot _ _ _ _ _
  dsimp only
  split
  · split
    · exact (kept _ _ _).trans (t.askGrains_ingot _ _ _ _ _)
    · exact kept _ _ _
  · split
    · exact t.askGrains_ingot _ _ _ _ _
    · rfl

end

/-- Copying a Full zone leaves the zone state table. -/
theorem State.ztab_copyZone (s : State) (l : Layout) (z : Nat) (gs : List PieceGrain) (b : Nat) :
    (s.copyZone l z gs).ztab b = s.ztab b :=
  congrArg (rdW · (ztabOff b)) (s.copyZone_ingot l z gs)

/-! ## What lets the patrol and a reshape go on (R426, R436, R438) -/

section
variable {s : State} {v z st : Nat} {l : Layout} (hu : s.up) (ho : s.ownsVolume l = true)
include hu ho

theorem parityCheck_runs (hz : z < l.zones) (hs : st < s.usedStripes l z) (hf : s.zstate (s.volZone v z) = zFull) :
    ¬(!s.ownsVolume l || s.boot.down || decide (l.zones ≤ z) || decide (s.usedStripes l z ≤ st) ||
      (decide (s.zwp (s.volZone v z) < 16 * l.k * (st + 1)) && decide (s.zstate (s.volZone v z) ≠ zFull))) = true := by
  simp [ho, hu, hf, hz, hs]

theorem reshapeMove_runs (hr : l.reshape = true) (hb : l.bound < l.zones)
    (ha : s.ownZones.any (fun p => s.zoneAwaits p.1 p.2) = false) :
    ¬(!s.ownsVolume l || s.boot.down || !l.reshape || decide (l.zones ≤ l.bound) ||
      s.ownZones.any (fun p => s.zoneAwaits p.1 p.2)) = true := by
  rw [ho, hu, hr, ha, decide_eq_false (Nat.not_le.mpr hb)]
  decide

end

section
variable {l : Layout} {st : Nat} {gs : List PieceGrain} (hg : ∀ x ∈ gs, x.rebuilt = false ∧ x.data ≠ none)
include hg

theorem patrol_noneRebuilt : gs.filter (fun x => decide (x.stripe = st) && decide (x.pos < l.k) && x.rebuilt) = [] := by
  rw [List.filter_eq_nil_iff]
  intro x hx
  simp [(hg x hx).1]

theorem patrol_noneMissing : gs.any (fun x => decide (x.stripe = st) && decide (x.pos < l.k) && x.data.isNone) = false := by
  rw [List.any_eq_false]
  intro x hx
  simp [(hg x hx).2]

end

section
variable {s : State} {v z st : Nat} {l : Layout} {gs : List PieceGrain} (hu : s.up) (hl : s.layout v = some l)
include hu hl

/-! ## Sealing (R417) -/

theorem exec_stripeSeal {i : Nat} {x : JEntry} (hx : s.stripeSlot v z = some (i, x)) (ho : s.ownsVolume l = true)
    (hs : x.stripe = st) (hc : 16 * l.k * (st + 1) ≤ s.zwp (s.volZone v z)) :
    exec (.stripeSeal v z st) s = .next (s.seal l z st i) := by
  show execStripeSeal v z st s = _
  have seals : (s.ownsVolume l && !s.boot.down && decide (x.stripe = st) &&
      decide (16 * l.k * (st + 1) ≤ s.zwp (s.volZone v z))) = true := by simp [ho, hu, hs, hc]
  simp only [execStripeSeal, hl, hx, if_pos seals]

/-! ## Rebuild (R430, R433) -/

theorem exec_zoneRebuild_first {p q : Nat} (hf : s.firstRebuild = some (p, q, v, z)) :
    let e := s.ztab (s.volZone v z)
    let cur := if bit e 7 then fld e 16 15 else 0
    let rs := if bit e 7 then fld e 8 6 else l.removed.length
    let stop := min (s.usedStripes l z) (cur + 4096)
    let t := ((List.range stop).drop cur).foldl (fun (t : State) i => t.rebuildStripe l z i gs) s
    exec (.zoneRebuild v z gs) s = .next (t.changeZtab v z (if stop = s.usedStripes l z then
      setFld (setFld (setFld (setFld e 0 6 rs) 7 1 0) 8 6 0) 16 15 0
      else setFld (setFld (setFld e 7 1 1) 8 6 rs) 16 15 stop)) := by
  intro e cur rs stop t
  have mine : ¬(v ≠ v ∨ z ≠ z ∨ s.boot.down) := by simp [hu]
  show execZoneRebuild v z gs s = _
  simp only [execZoneRebuild, hl, hf, if_neg mine]
  exact congrArg _ (apply_ite (t.changeZtab v z) _ _ _).symm

/-! ## The parity patrol (R436) -/

section
variable (ho : s.ownsVolume l = true) (hz : z < l.zones) (hs : st < s.usedStripes l z)
  (hf : s.zstate (s.volZone v z) = zFull) (hm : l.mirror = false) (hg : ∀ x ∈ gs, x.rebuilt = false ∧ x.data ≠ none)
  {r : State} (hr : (membersFrom (s.setNow l z) 0).foldl (fun (t : State) m => t.askGrains v m (pieceAddr z st) 16 7) s = r)
include ho hz hs hf hm hg hr

theorem exec_stripeParityCheck_matches
    (hw : (List.range l.m).filter (fun p => parityWrong l st p (stripeParity l st gs) gs) = []) :
    exec (.stripeParityCheck v z st gs) s = .next r := by
  show execStripeParityCheck v z st gs s = _
  simp only [execStripeParityCheck, hl, if_neg (parityCheck_runs hu ho hz hs hf), hr, patrol_noneRebuilt hg, List.foldl_nil,
    if_neg (ne_true_of_eq_false (patrol_noneMissing hg)), if_neg (ne_true_of_eq_false hm), hw, List.isEmpty_nil, if_true]

theorem exec_stripeParityCheck_wrong {p m : Nat}
    (hw : (List.range l.m).filter (fun p => parityWrong l st p (stripeParity l st gs) gs) = [p])
    (hp : ((s.setNow l z).getD (l.k + p) (none, 0)).1 = some m) : exec (.stripeParityCheck v z st gs) s =
      .next ((r.sendFresh l z st (l.k + p) 0 m 7 ((List.range 16).map (fun g =>
        (stripeParity l st gs).getD (16 * p + g) zeroGrain))).residentRecord [w64 v, w64 (z * 32768 + st)]) := by
  show execStripeParityCheck v z st gs s = _
  simp only [execStripeParityCheck, hl, if_neg (parityCheck_runs hu ho hz hs hf), hr, patrol_noneRebuilt hg, List.foldl_nil,
    if_neg (ne_true_of_eq_false (patrol_noneMissing hg)), if_neg (ne_true_of_eq_false hm), hw, List.isEmpty_cons,
    if_neg Bool.false_ne_true, List.foldl_cons, hp]

end

/-! ## Reshapes (R437 to R439) -/

theorem exec_reshapeStart (ho : s.ownsVolume l = true) (hr : l.reshape = false)
    (ha : s.ownZones.any (fun p => s.zoneAwaits p.1 p.2) = false) (hp : l.w ≤ (s.reshapePool l).length)
    (hn : ((!l.removed.isEmpty && !s.freeWorkers.isEmpty) || l.serving.any s.memberPreserves) = true) :
    exec (.reshapeStart v) s =
      .next (s.changeLayout { l with reshape := true, r0 := l.removed.length, bound := 0, newPool := s.reshapePool l }) := by
  have starts : ¬(!s.ownsVolume l || s.boot.down || l.reshape || s.ownZones.any (fun p => s.zoneAwaits p.1 p.2) ||
      decide ((s.reshapePool l).length < l.w) ||
      !((!l.removed.isEmpty && !s.freeWorkers.isEmpty) || l.serving.any s.memberPreserves)) = true := by
    rw [ho, hu, hr, ha, hn, decide_eq_false (Nat.not_lt.mpr hp)]
    decide
  show execReshapeStart v s = _
  simp only [execReshapeStart, hl, if_neg starts]

section
variable (ho : s.ownsVolume l = true) (hr : l.reshape = true) (hb : l.bound < l.zones)
  (ha : s.ownZones.any (fun p => s.zoneAwaits p.1 p.2) = false)
include ho hr hb ha

theorem exec_reshapeZoneMove_passes (hp : s.zstate (s.volZone v l.bound) = 0 ∨ s.zstate (s.volZone v l.bound) = zEmpty ∨
    ztNew (s.ztab (s.volZone v l.bound)) = true) : exec (.reshapeZoneMove v gs) s = .next (s.passBound l) := by
  show execReshapeZoneMove v gs s = _
  simp only [execReshapeZoneMove, hl, if_neg (reshapeMove_runs hu ho hr hb ha), if_pos hp]

theorem exec_reshapeZoneMove_copies (hf : s.zstate (s.volZone v l.bound) = zFull)
    (hn : ztNew (s.ztab (s.volZone v l.bound)) = false) :
    let b := s.volZone v l.bound
    let old := (membersFrom (l.setOf l.bound false) 0).dedup
    let new := membersFrom (l.setOf l.bound true) 0
    let c := s.copyZone l l.bound gs
    exec (.reshapeZoneMove v gs) s = .next (((c.changeZtab v l.bound (setBit (c.ztab b) 6 true)).passBound l).actionOn l l.bound 3
      (old.filter (fun m => !new.contains m))) := by
  have holds : ¬(s.zstate (s.volZone v l.bound) = 0 ∨ s.zstate (s.volZone v l.bound) = zEmpty ∨
      ztNew (s.ztab (s.volZone v l.bound)) = true) := by
    rw [hf, hn]
    decide
  dsimp only
  rw [State.ztab_copyZone]
  show execReshapeZoneMove v gs s = _
  simp only [execReshapeZoneMove, hl, if_neg (reshapeMove_runs hu ho hr hb ha), if_neg holds, if_pos hf]

end
end

/-- Settles O59: each clause is one row of a worker, of the peer's manager or of a volume's owner. What a GWRITE that cannot be
stored and a hasty transfer answer, the format of the peer's copy, what a rebuild writes in its entry and which grains it takes as
read, and what a reshape starts from are the model's choice (log entries 34, 54, 77, 95 and 96). -/
theorem residentSpanResults : Obligations.ResidentSpanResults := by
  intro s e a u n
  have hu : s.takeEvent e = u := rfl
  refine ⟨fun hw ha ps => ⟨exec_gwrite_badSize hu hw rfl ha, exec_gwrite_refused hu hw rfl ha, fun h63 hl hr =>
      ⟨fun hp => ?_, fun hne hp => ⟨fun t => exec_gwrite_stored hu hw rfl ha h63 hl hr hne hp,
        exec_gwrite_noKey hu hw rfl ha h63 hl hr hne hp⟩⟩⟩,
    fun hw ha h63 bs bad miss => exec_gread hu hw ha h63, exec_gtrim hu,
    fun hw ha => ⟨exec_gzoneReset hu hw ha, exec_gzoneFinish hu hw ha, exec_gzoneRead hu hw ha⟩, exec_status hu,
    fun hw ha => ⟨fun h0 m => exec_keywrap_clears hu hw ha h0, exec_keywrap_noSlot hu hw ha, exec_keywrap_imports hu hw ha,
      exec_keywrap_rejects hu hw ha⟩,
    fun hp ha hl => ⟨exec_journal_slot hu hp ha hl, fun x l t => exec_journal_record hu hp ha hl⟩,
    fun hp ha => ⟨exec_ckptReserveBound hu hp ha, fun l => exec_ckptLayout hu hp ha, exec_ckptZoneState hu hp ha,
      fun hk => ⟨exec_ckptGroupTransfer_refused hu hp ha hk rfl, fun ho hm =>
        ⟨exec_ckptGroupTransfer_busy hu hp ha hk rfl ho hm, exec_ckptGroupTransfer_idle hu hp ha hk rfl ho hm⟩⟩,
      exec_ckptLostRange hu hp ha⟩,
    fun up v z st l gs hl => ⟨fun i x => exec_stripeSeal up hl, fun p q => exec_zoneRebuild_first up hl,
      fun ho hz hs hf hm hg => ⟨exec_stripeParityCheck_matches up hl ho hz hs hf hm hg rfl,
        fun p m => exec_stripeParityCheck_wrong up hl ho hz hs hf hm hg rfl⟩,
      exec_reshapeStart up hl,
      fun ho hr hb ha => ⟨exec_reshapeZoneMove_passes up hl ho hr hb ha, exec_reshapeZoneMove_copies up hl ho hr hb ha⟩⟩⟩
  subst hp
  exact exec_gwrite_noPlace hu hw rfl ha h63 hl hr

end Sys2Proof.Machine
end

section
/-! PROOFS. The statements of 14_tenants_keys_trust.md: the SPDM responder, its sessions, and the vendor-defined requests. -/

namespace Sys2Proof.Machine

/-! ## Rows that answer, and what a request needs -/

section
variable {s : State} {x n : Nat}

/-- A row of the trust block sends what the responder's step `f` gives. -/
theorem State.answers_step {i : Instr} {p : Spdm} (f : State → Spdm) (hs : s.Trusted) (hi : exec i s = s.answerOn x f)
    (hf : f s = p) : s.Answers i x p := by
  obtain ⟨up, strapped⟩ := hs
  have serves : ¬(s.boot.down || !s.boot.strapped) = true := by
    rw [up, strapped]
    decide
  subst hf
  exact hi.trans (congrArg Host.Outcome.next (if_neg serves))

theorem State.negotiated_reached (h : n ≤ s.stage x) (f : State → Spdm) : s.negotiated x n f = f s := if_neg (Nat.not_lt.mpr h)

theorem State.negotiated_early (h : s.stage x < n) (f : State → Spdm) : s.negotiated x n f = (s, spdmError 0x04) := if_pos h

end

section
variable {s : State} {sid : BitVec 32} {y : Session}

theorem State.session_sid (hy : s.session sid = some y) : y.sid = sid :=
  of_decide_eq_true (List.find?_some (p := fun z : Session => decide (z.sid = sid)) hy)

theorem State.connSid_session (hy : s.session sid = some y) : s.connSid sid = connOf y.func := by
  unfold State.connSid
  rw [hy]
  rfl

theorem State.connSid_none (hn : s.session sid = none) : s.connSid sid = 2048 := by
  unfold State.connSid
  rw [hn]
  rfl

theorem State.inSession_established (hy : s.session sid = some y) (he : y.established = true) (f : State → Session → Spdm) :
    s.inSession sid f = f s y := by
  unfold State.inSession
  rw [hy]
  exact if_pos he

theorem State.inSession_none (hn : s.session sid = none) (f : State → Session → Spdm) :
    s.inSession sid f = (s, spdmError 0x02) := by
  unfold State.inSession
  rw [hn]

theorem State.session_dropSessions (s : State) (sid : BitVec 32) :
    (s.dropSessions (fun z => decide (z.sid = sid))).session sid = none := by
  refine List.find?_eq_none.mpr fun z hz => ?_
  have kept : (!decide (z.sid = sid)) = true := (List.mem_filter.mp hz).2
  rwa [Bool.not_eq_true, ← Bool.not_eq_true']

/-- A row of a session answers on that session's transport. -/
theorem State.answers_session {i : Instr} {p : Spdm} (f : State → Spdm) (hs : s.Trusted) (hy : s.session sid = some y)
    (hi : exec i s = s.answerOn (s.connSid sid) f) (hf : f s = p) : s.Answers i (connOf y.func) p :=
  State.answers_step f hs (by rw [hi, State.connSid_session hy]) hf

/-- A request that needs a session, of one that does not exist, is an error on the sideband. -/
theorem State.answers_noSession {i : Instr} {g : State → Session → Spdm} (f : State → Spdm) (hs : s.Trusted)
    (hn : s.session sid = none) (hi : exec i s = s.answerOn (s.connSid sid) f) (hg : f s = s.inSession sid g) :
    s.Answers i 2048 (s, spdmError 0x02) :=
  State.answers_step f hs (by rw [hi, State.connSid_none hn]) (hg.trans (State.inSession_none hn g))

/-- A request of an established session gets what the request does with it. -/
theorem State.answers_established {i : Instr} {g : State → Session → Spdm} {p : Spdm} (f : State → Spdm) (hs : s.Trusted)
    (hy : s.session sid = some y) (he : y.established = true) (hi : exec i s = s.answerOn (s.connSid sid) f)
    (hg : f s = s.inSession sid g) (hp : g s y = p) : s.Answers i (connOf y.func) p :=
  State.answers_session f hs hy hi (hg.trans ((State.inSession_established hy he g).trans hp))

end

/-! ## Session slots (R504) -/

theorem State.freeSession_full {s : State}
    (h : ∀ n < 8, s.sessions.any (fun y => decide (y.slot = generalSlots + n)) = true) : s.freeSession = none := by
  refine List.find?_eq_none.mpr fun k hk => ?_
  obtain ⟨n, hn, rfl⟩ := List.mem_map.mp hk
  have used := h n (List.mem_range.mp hn)
  rw [Nat.add_comm] at used
  rw [used]
  decide

/-! ## Requests of a transport (R504, R510) -/

section
variable {s : State} {x : Nat} (hs : s.Trusted)
include hs

theorem answers_getVersion :
    s.Answers (.getVersion x) x (s.setStage x 1, ⟨0x04, 0, 0, [0, 2] ++ toBytes 2 0x1200 ++ toBytes 2 0x1300⟩) :=
  State.answers_step (fun s => s.spdmVersion x) hs rfl rfl

theorem answers_getCapabilities_early (h : s.stage x = 0) : s.Answers (.getCapabilities x) x (s, spdmError 0x04) :=
  State.answers_step (fun s => s.spdmCapabilities x) hs rfl (State.negotiated_early (h.trans_lt Nat.one_pos) _)

theorem answers_getCapabilities (h : 1 ≤ s.stage x) :
    s.Answers (.getCapabilities x) x (s.setStage x 2, ⟨0x61, 0, 0, toBytes 4 0 ++ toBytes 4 spdmFlags⟩) :=
  State.answers_step (fun s => s.spdmCapabilities x) hs rfl (State.negotiated_reached h _)

theorem answers_negotiateAlgorithms (h : 2 ≤ s.stage x) : s.Answers (.negotiateAlgorithms x) x
    (s.setStage x 3, ⟨0x63, 0, 0, toBytes 4 0x80 ++ toBytes 4 0x2 ++ toBytes 2 0x10 ++ toBytes 2 0x2⟩) :=
  State.answers_step (fun s => s.spdmAlgorithms x) hs rfl (State.negotiated_reached h _)

variable (h : 3 ≤ s.stage x)
include h

theorem answers_getDigests : s.Answers (.getDigests x) x (s, ⟨0x01, 0, 1, chainDigest⟩) :=
  State.answers_step (fun s => s.spdmDigests x) hs rfl (State.negotiated_reached h _)

theorem answers_getCertificate : s.Answers (.getCertificate x 0) x
    (s, ⟨0x02, 0, 0, toBytes 2 128 ++ toBytes 2 0 ++ toBytes 128 Config.certChain.toNat⟩) :=
  State.answers_step (fun s => s.spdmCertificate x 0) hs rfl ((State.negotiated_reached h _).trans (if_neg (not_not_intro rfl)))

theorem answers_challenge :
    let a := s.trngBytes 4
    let b := a.2.aliasSign
    s.Answers (.challenge x 0) x (b.2, ⟨0x03, 0, 1, chainDigest ++ a.1 ++ toBytes 2 0 ++ b.1⟩) :=
  State.answers_step (fun s => s.spdmChallenge x 0) hs rfl ((State.negotiated_reached h _).trans (if_neg (not_not_intro rfl)))

theorem answers_getMeasurements {idx : Nat} (hi : idx ≤ 16 ∨ idx = 0xFF) (nonce : BitVec 256) :
    let a := s.trngBytes 4
    let b := a.2.aliasSign
    let ns := if idx = 0xFF then (List.range 16).map (· + 1) else if idx = 0 then [] else [idx]
    let blocks := ns.flatMap s.mrBlock
    s.Answers (.getMeasurements x idx nonce) x (b.2, ⟨0x60, if idx = 0 then 16 else 0, 0, toBytes 1 ns.length ++
      toBytes 3 blocks.length ++ blocks ++ a.1 ++ toBytes 2 0 ++ toBytes 32 nonce.toNat ++ b.1⟩) :=
  have given : ¬(16 < idx ∧ idx ≠ 0xFF) := by omega
  State.answers_step (fun s => s.spdmMeasurements x idx nonce) hs rfl ((State.negotiated_reached h _).trans (if_neg given))

theorem answers_keyExchange {slot : Nat} (hf : s.freeSession = some slot) (leaf : BitVec 384) :
    let (w, t) := s.takeFree
    let sid := (List.range 9).map (fun i => w.setWidth 32 + BitVec.ofNat 32 i) |>.find? (fun i => (t.session i).isNone) |>.getD 0
    let g := t.aliasSign
    s.Answers (.keyExchange x leaf) x ((g.2.putSessions (g.2.sessions ++
        [{ sid := sid, slot := slot, established := false, func := connFunc x, leaf := leaf, beat := t.tick }]) : State),
      ⟨0x64, 10, 0, toBytes 4 sid.toNat ++ g.1⟩) := by
  refine State.answers_step (fun s => s.spdmKeyExchange x leaf) hs rfl ((State.negotiated_reached h _).trans ?_)
  dsimp only
  rw [hf]
  rfl

theorem answers_keyExchange_full (hf : s.freeSession = none) (leaf : BitVec 384) :
    s.Answers (.keyExchange x leaf) x (s, spdmError 0x0A) := by
  refine State.answers_step (fun s => s.spdmKeyExchange x leaf) hs rfl ((State.negotiated_reached h _).trans ?_)
  dsimp only
  rw [hf]

end

/-! ## FINISH (R505) -/

/-- Random bytes advance the stream of free words alone. -/
theorem State.trngBytes_snd (n : Nat) (s : State) : (s.trngBytes n).2 = s.putFree (s.free + n) := by
  induction n generalizing s with
  | zero => rfl
  | succ n ih =>
    refine (ih s.takeFree.2).trans ?_
    rw [State.takeFree_snd_free, Nat.add_right_comm, Nat.add_assoc]
    rfl

/-- FINISH marks its own session established and renews its heartbeat. -/
theorem State.spdmFinish_sessions (s : State) (y : Session) : (s.spdmFinish y).1.sessions =
    s.sessions.map (fun z => if z.sid = y.sid then { z with established := true, beat := s.tick } else z) := by
  unfold State.spdmFinish
  dsimp only
  rw [State.trngBytes_snd]
  split <;> rfl

section
variable {s : State} {sid : BitVec 32} {y : Session} (hs : s.Trusted) (hy : s.session sid = some y)
include hs hy

theorem answers_finish (he : y.established = false) :
    s.Answers (.finish sid) (connOf y.func) ((s.spdmFinish y).1, ⟨0x65, 0, 0, []⟩) := by
  refine State.answers_session (fun s => s.spdmFinishSid sid) hs hy rfl ?_
  unfold State.spdmFinishSid
  rw [hy]
  exact if_neg (ne_true_of_eq_false he)

variable (he : y.established = true)
include he

theorem answers_finish_established : s.Answers (.finish sid) (connOf y.func) (s, spdmError 0x04) := by
  refine State.answers_session (fun s => s.spdmFinishSid sid) hs hy rfl ?_
  unfold State.spdmFinishSid
  rw [hy]
  exact if_pos he

/-! ## Requests of an established session (R504) -/

theorem answers_heartbeat : s.Answers (.heartbeat sid) (connOf y.func)
    ((s.putSessions (s.sessions.map (fun z => if z.sid = y.sid then { z with beat := s.tick } else z)) : State), ⟨0x68, 0, 0, []⟩) :=
  State.answers_established (fun s => s.spdmHeartbeat sid) hs hy he rfl rfl rfl

theorem answers_keyUpdate : s.Answers (.keyUpdate sid) (connOf y.func) (s, ⟨0x69, 1, 0, []⟩) :=
  State.answers_established (fun s => s.spdmKeyUpdate sid) hs hy he rfl rfl rfl

theorem answers_endSession : s.Answers (.endSession sid) (connOf y.func)
    (s.dropSessions (fun z => decide (z.sid = y.sid)), ⟨0x6C, 0, 0, []⟩) :=
  State.answers_established (fun s => s.spdmEnd sid) hs hy he rfl rfl rfl

omit hs in
theorem State.session_spdmEnd : (s.spdmEnd sid).1.session sid = none := by
  unfold State.spdmEnd
  rw [State.inSession_established hy he, State.session_sid hy]
  exact s.session_dropSessions sid

omit hs in
theorem exec_sessionHeartbeatTimeout (hb : y.beat.toNat + 20 * s.secondTicks ≤ s.tick.toNat) :
    exec (.sessionHeartbeatTimeout sid) s = .next (s.dropSessions (fun z => decide (z.sid = sid))) := by
  show execSessionHeartbeatTimeout sid s = _
  unfold execSessionHeartbeatTimeout
  rw [hy]
  exact congrArg Host.Outcome.next (if_pos ⟨he, hb⟩)

/-! ## Imported keys (R501, R506, R510, R511) -/

theorem answers_keyImport {n : Nat} {x : NsInfo} {kek : VSlot} {k wrapped : List Byte} (hx : s.nsi n = some x)
    (hh : s.holderAt n = none) (hem : s.nsEmpty n = true) (hb : s.nsBusy n = false) (hl : s.layout n = none) (hd : s.dbgLock = false)
    (hv : s.vslot y.slot = some kek) (hk : importKey kek.key wrapped = some (0, k)) :
    let r := (s.clearKey n).importBind sid.toNat n 0 wrapped
    r.1 = ocDone → s.Answers (.keyImport sid n 0 wrapped) (connOf y.func) (r.2.measureKeys n 0, vendorRsp 0x01 0 []) := by
  intro r hr
  refine State.answers_established (fun s => s.vendorImport sid n 0 wrapped) hs hy he rfl rfl ?_
  have notHeld : ¬(s.holderAt n ≠ none ∧ s.holderAt n ≠ some (holderOf y) ∧ (!s.proves y (fun _ => true)) = true) :=
    fun held => held.1 hh
  have idle : ¬(!s.nsEmpty n || s.nsBusy n) = true := by
    rw [hem, hb]
    decide
  have unlocked : ¬((0 : Nat) ≠ 0 ∨ (0 : Nat) ≠ 0 ∨ s.dbgLock = true) := by
    rw [hd]
    decide
  dsimp only
  rw [hx]
  dsimp only
  rw [if_neg notHeld, if_neg idle, hl, hv, Option.bind_some, hk]
  dsimp only
  rw [if_neg unlocked]
  exact if_pos hr

theorem answers_keyStatus {n i : Nat} {x : NsInfo} (hx : s.nsi n = some x) (hi : s.slotOfNs n = some i) :
    s.Answers (.keyStatus sid n) (connOf y.func) (s, vendorRsp 0x02 0
      (toBytes 8 (s.slotStatus i).toNat ++ (((s.holderAt n).getD []) ++ List.replicate 32 0).take 32)) := by
  refine State.answers_established (fun s => s.vendorStatus sid n) hs hy he rfl rfl ?_
  dsimp only
  rw [hx, hi]

/-! ## Owner keys (R507) -/

omit hs hy he in
/-- An enrolment passes its checks on an unowned device in time over the sideband, or signed on an owned one. -/
theorem enroll_allowed {signed : Bool} (h : (s.unowned = true ∧ y.func = none ∧ s.tick.toNat ≤ 600 * s.secondTicks) ∨
    (s.unowned = false ∧ signed = true)) :
    ¬(s.unowned = true ∧ (y.func.isSome = true ∨ 600 * s.secondTicks < s.tick.toNat)) ∧
      ¬((!s.unowned) = true ∧ (!signed) = true) := by
  rcases h with ⟨hu, hf, ht⟩ | ⟨hu, hg⟩
  · rw [hu, hf]
    exact ⟨fun late => late.2.elim (by decide) (Nat.not_lt.mpr ht), fun unsigned => absurd unsigned.1 (by decide)⟩
  · rw [hu, hg]
    exact ⟨fun late => absurd late.1 (by decide), by decide⟩

section
variable {k : Nat} (h1 : 1 ≤ k) (h4 : k ≤ 4)
include h1 h4

section
variable {perms : BitVec 3} {h : BitVec 384} {signed : Bool}
  (ha : (s.unowned = true ∧ y.func = none ∧ s.tick.toNat ≤ 600 * s.secondTicks) ∨ (s.unowned = false ∧ signed = true))
include ha

theorem answers_ownerEnroll (ho : s.owner k = none) : s.Answers (.ownerEnroll sid k perms h signed) (connOf y.func)
    ((s.setOwner k (some { hash := h, img := bit perms 0, sealing := bit perms 1, admin := bit perms 2 })).setSvn k 0,
      vendorRsp 0x10 0 []) := by
  obtain ⟨inTime, proved⟩ := enroll_allowed ha
  refine State.answers_established (fun s => s.vendorEnroll sid k perms h signed) hs hy he rfl rfl ?_
  dsimp only
  rw [if_neg (by omega), if_neg inTime, if_neg proved, ho]
  rfl

theorem answers_ownerEnroll_used (ho : s.owner k ≠ none) :
    s.Answers (.ownerEnroll sid k perms h signed) (connOf y.func) (s, vendorRsp 0x10 0x11 []) := by
  obtain ⟨inTime, proved⟩ := enroll_allowed ha
  refine State.answers_established (fun s => s.vendorEnroll sid k perms h signed) hs hy he rfl rfl ?_
  dsimp only
  rw [if_neg (by omega), if_neg inTime, if_neg proved, if_pos (Option.isSome_iff_ne_none.mpr ho)]

end

section
variable {o : Owner} (ho : s.owner k = some o)
include ho

omit hs hy he in
theorem withdraw_given : ¬(k = 0 ∨ 4 < k ∨ (s.owner k).isNone = true) := by
  rw [ho, Option.isNone_some]
  simp only [Bool.false_eq_true, or_false]
  omega

theorem answers_ownerWithdraw (hu : s.unowned = false) :
    s.Answers (.ownerWithdraw sid k true) (connOf y.func) (s.setOwner k none, vendorRsp 0x11 0 []) := by
  refine State.answers_established (fun s => s.vendorWithdraw sid k true) hs hy he rfl rfl
    ((if_neg (withdraw_given h1 h4 ho)).trans (if_neg ?_))
  rw [hu]
  decide

theorem answers_ownerWithdraw_unsigned :
    s.Answers (.ownerWithdraw sid k false) (connOf y.func) (s, vendorRsp 0x11 0x10 []) :=
  State.answers_established (fun s => s.vendorWithdraw sid k false) hs hy he rfl rfl
    ((if_neg (withdraw_given h1 h4 ho)).trans (if_pos (.inr rfl)))

end
end

/-! ## Debug access and the measured register of a program (R506, R508, R510) -/

theorem answers_debugSet_unproved (hp : s.proves y (fun o => o.admin) = false) (on signed : Bool) :
    s.Answers (.debugSet sid on signed) (connOf y.func) (s, vendorRsp 0x12 0x12 []) := by
  refine State.answers_established (fun s => s.vendorDebug sid on signed) hs hy he rfl rfl (if_pos ?_)
  rw [hp]
  rfl

theorem answers_debugSet (hp : s.proves y (fun o => o.admin) = true) (on : Bool) : s.Answers (.debugSet sid on true) (connOf y.func)
    ((s.setRfld (sta 0x13 0) 3 1 (b2n on)).putTrust { s.trust with debugNext := on }, vendorRsp 0x12 0 []) := by
  refine State.answers_established (fun s => s.vendorDebug sid on true) hs hy he rfl rfl ((if_neg ?_).trans (if_neg (by decide)))
  rw [hp]
  decide

theorem answers_measureExtend (hp : s.proves y (fun _ => true) = true) (d : BitVec 384) :
    s.Answers (.measureExtend sid d) (connOf y.func) (s.extendMr 9 (toBytes 48 d.toNat), vendorRsp 0x13 0 []) := by
  refine State.answers_established (fun s => s.vendorExtend sid (toBytes 48 d.toNat)) hs hy he rfl rfl (if_neg ?_)
  rw [hp]
  decide

end

/-- Settles O60: each clause is one row of the trust block. Message codes and layouts, the heartbeat period, the owner table with
the reasons of a refused owner message, and the answer of KEY_STATUS are the model's choice (log entries 66 to 68). -/
theorem trustResults : Obligations.TrustResults := by
  intro s hs
  refine ⟨fun x => ⟨answers_getVersion hs, answers_getCapabilities_early hs, answers_getCapabilities hs,
      answers_negotiateAlgorithms hs, fun h idx nonce leaf => ⟨answers_getDigests hs h, answers_getCertificate hs h,
        answers_challenge hs h, fun hi => answers_getMeasurements hs h hi nonce, fun slot hf => answers_keyExchange hs h hf leaf,
        fun full => answers_keyExchange_full hs h (State.freeSession_full full) leaf⟩⟩,
    fun sid hn n slot perms hash on signed d => ⟨State.answers_noSession (fun s => s.vendorStatus sid n) hs hn rfl rfl,
      State.answers_noSession (fun s => s.vendorEnroll sid slot perms hash signed) hs hn rfl rfl,
      State.answers_noSession (fun s => s.vendorDebug sid on signed) hs hn rfl rfl,
      State.answers_noSession (fun s => s.vendorExtend sid (toBytes 48 d.toNat)) hs hn rfl rfl⟩,
    fun sid y hy => ⟨fun he => ⟨_, answers_finish hs hy he, s.spdmFinish_sessions y⟩,
      fun he => ⟨answers_finish_established hs hy he, answers_heartbeat hs hy he, answers_keyUpdate hs hy he,
        answers_endSession hs hy he, State.session_spdmEnd hy he,
        fun n x k hx hh hem hb hl hd wrapped kek hv hk => answers_keyImport hs hy he hx hh hem hb hl hd hv hk,
        fun n x i => answers_keyStatus hs hy he,
        fun k perms h signed h1 h4 ha => ⟨answers_ownerEnroll hs hy he h1 h4 ha, answers_ownerEnroll_used hs hy he h1 h4 ha⟩,
        fun k o h1 h4 ho hu => ⟨answers_ownerWithdraw hs hy he h1 h4 ho hu, answers_ownerWithdraw_unsigned hs hy he h1 h4 ho⟩,
        fun on signed hp => answers_debugSet_unproved hs hy he hp on signed, fun on hp => answers_debugSet hs hy he hp on,
        fun d hp => answers_measureExtend hs hy he hp d,
        fun hb => ⟨_, exec_sessionHeartbeatTimeout hy he hb, s.session_dropSessions sid⟩⟩⟩⟩

end Sys2Proof.Machine
end

section
/-! PROOFS. The statements of 15_power_heat_almanac.md, first part: domes and wake sources. -/

namespace Sys2Proof.Machine

/-! ## Registers of the domes (R512, R516) -/

/-- The bank domes 24 to 27 alone follow: a register below theirs stays (R522). -/
theorem State.reg_followBanks (s : State) {o : Nat} (h : o < sta 0xE (8 * 24)) : s.followBanks.reg o = s.reg o := by
  unfold State.followBanks
  generalize List.range 4 = bs
  induction bs generalizing s with
  | nil => rfl
  | cons b bs ih =>
    rw [List.foldl_cons, ih]
    exact State.reg_setRfld_ne _ _ _ _ (by unfold sta at *; omega)

theorem State.keeps_followBanks (s : State) : s.followBanks.reqs = s.reqs ∧ s.followBanks.domeEntry = s.domeEntry ∧
    s.followBanks.domeWake = s.domeWake ∧ s.followBanks.domeAgreed = s.domeAgreed := by
  unfold State.followBanks
  generalize List.range 4 = bs
  induction bs generalizing s with
  | nil => exact ⟨rfl, rfl, rfl, rfl⟩
  | cons b bs ih => exact ih _

theorem exec_domeEntryDone {s u v : State} {d : Nat} {e : DomeEntry} (he : s.entryOf d = some e) (hc : e.committed = true)
    (hw : e.wake = false)
    (hu : u = (((s.setEntry d none).setRfld (sta 0xE (8 * d)) 2 1 0).setRfld (sta 0xE (8 * d)) 0 2 e.target).followBanks)
    (hv : v = u.putDomeAgreed (FMap.set (fun _ => []) u.domeAgreed d e.agreed)) (hr : v.findReq e.core e.ticket = none) :
    exec (.domeEntryDone d) s = .next v := by
  change execDomeEntryDone d s = _
  unfold execDomeEntryDone
  rw [he]
  dsimp only
  rw [hc, hw, ← hu, ← hv, hr]
  rfl

/-- A committed entry that nothing waits for ends with the dome in its target state. -/
theorem domeEntryDone_result {s : State} {d : Nat} {e : DomeEntry} (hd : d < 24) (he : s.entryOf d = some e)
    (hc : e.committed = true) (hr : s.findReq e.core e.ticket = none) (hw : e.wake = false) (ht : e.target < 4) :
    ∃ t : State, exec (.domeEntryDone d) s = .next t ∧ t.entryOf d = none ∧ fld (t.reg (sta 0xE (8 * d))) 0 2 = e.target ∧
      FMap.get (fun _ => []) t.domeAgreed d = e.agreed := by
  obtain ⟨u, hu⟩ : ∃ u, u = ((s.setEntry d none).setRfld (sta 0xE (8 * d)) 2 1 0).setRfld (sta 0xE (8 * d)) 0 2 e.target := ⟨_, rfl⟩
  have target : fld (u.reg (sta 0xE (8 * d))) 0 2 = e.target := by
    rw [hu]
    exact (State.rfld_setRfld_same _ _ (by decide) _).trans (Nat.mod_eq_of_lt ht)
  have gone : u.entryOf d = none := by
    rw [hu]
    exact FMap.get_set_self s.domeEntry d none
  have reqs : u.reqs = s.reqs := by rw [hu]; rfl
  obtain ⟨bankReqs, entries, -, -⟩ := u.keeps_followBanks
  have reg := u.reg_followBanks (o := sta 0xE (8 * d)) (by unfold sta; omega)
  have run := exec_domeEntryDone he hc hw (congrArg State.followBanks hu) rfl
  obtain ⟨b, hb⟩ : ∃ b, b = u.followBanks := ⟨_, rfl⟩
  rw [← hb] at bankReqs entries reg run
  refine ⟨_, run ((congrArg (List.find? _) (bankReqs.trans reqs)).trans hr),
    (congrArg (fun m => FMap.get (fun _ => none) m d) entries).trans gone, ?_, FMap.get_set_self _ _ _⟩
  rw [← target, ← reg]
  rfl

theorem exec_domeWakeDone {s u v : State} {d : Nat}
    (hw : FMap.get (fun _ => (none : Option (List (CoreId × Ticket)))) s.domeWake d = some [])
    (hu : u = ((s.putDomeWake (FMap.erase s.domeWake d)).setRfld (sta 0xE (8 * d)) 0 3 0).followBanks)
    (hv : v = if domePads d then u.setRfld (sta 0x16 0) d 1 0 else u) (ha : FMap.get (fun _ => []) v.domeAgreed d = []) :
    exec (.domeWakeDone d) s = .next (v.putDomeAgreed (FMap.erase v.domeAgreed d)) := by
  change execDomeWakeDone d s = _
  unfold execDomeWakeDone
  rw [hw]
  dsimp only
  rw [← hu, ← hv, ha]
  rfl

/-- A wake that no vote and no client waits for ends with the dome on. -/
theorem domeWakeDone_result {s : State} {d : Nat} (hd : d < 24)
    (hw : FMap.get (fun _ => (none : Option (List (CoreId × Ticket)))) s.domeWake d = some [])
    (ha : FMap.get (fun _ => []) s.domeAgreed d = []) :
    ∃ t : State, exec (.domeWakeDone d) s = .next t ∧ fld (t.reg (sta 0xE (8 * d))) 0 3 = 0 ∧
      FMap.get (fun _ => (none : Option (List (CoreId × Ticket)))) t.domeWake d = none := by
  obtain ⟨u, hu⟩ : ∃ u, u = (s.putDomeWake (FMap.erase s.domeWake d)).setRfld (sta 0xE (8 * d)) 0 3 0 := ⟨_, rfl⟩
  have on : fld (u.reg (sta 0xE (8 * d))) 0 3 = 0 := by
    rw [hu]
    exact State.rfld_setRfld_same _ _ (by decide) _
  have gone : FMap.get (fun _ => (none : Option (List (CoreId × Ticket)))) u.domeWake d = none := by
    rw [hu]
    exact (FMap.get_erase _ _ _).trans (if_pos rfl)
  have nobody : FMap.get (fun _ => []) u.domeAgreed d = [] := by
    rw [hu]
    exact ha
  obtain ⟨-, -, wakes, agreed⟩ := u.keeps_followBanks
  have reg := u.reg_followBanks (o := sta 0xE (8 * d)) (by unfold sta; omega)
  have run := exec_domeWakeDone hw (congrArg State.followBanks hu) rfl
  obtain ⟨b, hb⟩ : ∃ b, b = u.followBanks := ⟨_, rfl⟩
  rw [← reg, ← hb] at on
  rw [← wakes, ← hb] at gone
  rw [← agreed, ← hb] at nobody
  rw [← hb] at run
  refine ⟨_, run ?_, ?_, ?_⟩
  · split <;> exact nobody
  · split
    · exact (congrArg (fun v => fld v 0 3) (b.reg_setRfld_ne d 1 0 (by unfold sta; omega))).trans on
    · exact on
  · split <;> exact gone

/-! ## Wake sources (R517, R518) -/

/-- A dome that does not enable a source stays as it is. -/
theorem State.wakeDome_masked {s : State} {src x : Nat} (h : bit (s.reg (sta 0xE (0x400 + 8 * x))) src = false)
    (phase : CommitPhase) : s.wakeDome src x phase = s := by
  unfold State.wakeDome
  rw [h]
  rfl

/-- A level source starts the wake of a dome from 6 on that enables it, is down and has no entry. -/
theorem State.wakeDome_starts {s : State} {src d : Nat} (hd : 6 ≤ d) (hb : bit (s.reg (sta 0xE (0x400 + 8 * d))) src = true)
    (hl : s.edgeSource src = false) (he : s.entryOf d = none) (hs : s.domeState d ≠ 0) (hn : s.domeBusy d = false)
    (phase : CommitPhase) : s.wakeDome src d phase = s.startWake d [] := by
  unfold State.wakeDome
  have other : d ≠ 1 := by omega
  simp [hb, hl, he, hs, hn, other]

/-- A fold in which one element alone changes the state does what that element does. -/
theorem foldl_one {α β : Type} {f : α → β → α} {s t : α} {l m : List β} {x : β} (hx : f s x = t) (hl : ∀ y ∈ l, f s y = s)
    (hm : ∀ y ∈ m, f t y = t) : (l ++ x :: m).foldl f s = t := by
  have fixed : ∀ {r : α} {k : List β}, (∀ y ∈ k, f r y = r) → k.foldl f r = r := by
    intro r k hk
    induction k with
    | nil => rfl
    | cons y k ih =>
      rw [List.foldl_cons, hk y List.mem_cons_self]
      exact ih (fun z hz => hk z (List.mem_cons_of_mem y hz))
  rw [List.foldl_append, fixed hl, List.foldl_cons, hx, fixed hm]

/-- The domes in rising order, cut at dome `d`. -/
theorem domes_split {d : Nat} (h : d < 29) : List.range 29 = List.range d ++ d :: (List.range (28 - d)).map (d + 1 + ·) := by
  have whole : 29 = d + (1 + (28 - d)) := by omega
  conv_lhs => rw [whole, List.range_add, Nat.add_comm 1, List.range_succ_eq_map, List.map_cons, List.map_map]
  simp [Function.comp_def, Nat.add_assoc, Nat.add_comm 1]

theorem State.wakeAll_one {s : State} {src d : Nat} (h6 : 6 ≤ d) (hd : d < 29)
    (hb : ∀ x < 29, bit (s.reg (sta 0xE (0x400 + 8 * x))) src = decide (x = d)) (hl : s.edgeSource src = false)
    (he : s.entryOf d = none) (hs : s.domeState d ≠ 0) (hn : s.domeBusy d = false) (phase : CommitPhase) :
    s.wakeAll src phase = s.startWake d [] := by
  have enables (x : Nat) : (s.startWake d []).reg (sta 0xE (0x400 + 8 * x)) = s.reg (sta 0xE (0x400 + 8 * x)) :=
    s.reg_setRfld_ne 2 1 1 (by unfold sta; omega)
  unfold State.wakeAll
  rw [domes_split hd]
  refine foldl_one (State.wakeDome_starts h6 ((hb d hd).trans (decide_eq_true rfl)) hl he hs hn phase) (fun x hx => ?_) (fun x hx => ?_)
  · have below := List.mem_range.mp hx
    exact State.wakeDome_masked ((hb x (by omega)).trans (decide_eq_false (by omega))) phase
  · obtain ⟨n, hn, rfl⟩ := List.mem_map.mp hx
    have above := List.mem_range.mp hn
    refine State.wakeDome_masked ?_ phase
    rw [enables]
    exact (hb _ (by omega)).trans (decide_eq_false (by omega))

theorem exec_wakeSource (s : State) (src : Nat) (edge : Bool) (phase : CommitPhase) : exec (.wakeSource src edge phase) s =
    .next (if isWakeSource src ∧ s.edgeSource src = edge ∧ s.sourceOn src then s.wakeAll src phase else s) := rfl

theorem exec_quiesceTimeout {s : State} {d cl : Nat} {e : DomeEntry} {cs : List Nat} (he : s.entryOf d = some e)
    (hc : e.committed = false) (ht : e.start.toNat + 4 ≤ s.tick.toNat) (hw : e.waiting = cl :: cs) :
    exec (.quiesceTimeout d) s = .next (s.abortEntry d e cl 0) := by
  have due : ¬(e.committed = true ∨ s.tick.toNat < e.start.toNat + 4) := by
    rw [hc]
    simpa using ht
  change execQuiesceTimeout d s = _
  unfold execQuiesceTimeout
  rw [he]
  dsimp only
  rw [if_neg due, hw]

/-- Settles O47: a row of the dome block for each clause. That the lowest client of those that have not answered is the one on whose
account an entry is aborted is the model's choice (log entry 107). -/
theorem domeResults : Obligations.DomeResults := by
  intro s d
  refine ⟨fun e cl cs => exec_quiesceTimeout, fun e hd he hc hr hw => domeEntryDone_result hd he hc hr hw, domeWakeDone_result,
    fun src edge phase => ⟨fun hi ho hs => ?_, fun ho => ?_, fun hs => ?_⟩⟩
  · have wakes : exec (.wakeSource src edge phase) s = .next (s.wakeAll src phase) :=
      congrArg Host.Outcome.next (if_pos ⟨hi, hs, ho⟩)
    exact ⟨wakes, fun hl h6 hd hb he hd0 hn => wakes.trans
      (congrArg Host.Outcome.next (State.wakeAll_one h6 hd hb (hs.trans hl) he hd0 hn phase))⟩
  · exact congrArg Host.Outcome.next (if_neg (by simp [ho]))
  · exact congrArg Host.Outcome.next (if_neg (fun h => hs h.2.1))

end Sys2Proof.Machine
end

section
/-! PROOFS. The statements of 15_power_heat_almanac.md, second part: sensors, gaps and the orderly stop. -/

namespace Sys2Proof.Machine

theorem exec_sensorSample (s : State) {ts : List (BitVec 16)} {t : Int} (hl : ts.length = 24) (hm : maxTemp ts = some t) :
    let u := ((s.sampleAll 0 ts).setRfld thermStat 0 16 (tempField t)).noteDie t
    let v := if s.dieMax < u.warn ∧ u.warn ≤ t then u.thermEvent 0 else u
    let w := if v.warn - 32 ≤ s.dieMax ∧ t < v.warn - 32 then v.thermEvent 1 else v
    let x := w.levelSource 8
    exec (.sensorSample ts) s = .next (if x.tripAt ≤ t then
      (if 1 ≤ x.tripCount then x.thermalTrip.putTripCount 0 else x.putTripCount 1) else x.putTripCount 0) := by
  change execSensorSample ts s = _
  unfold execSensorSample
  rw [if_neg (not_not_intro hl)]
  dsimp only
  rw [hm]

/-- The domes that wake again stand between the state and what resumes: the row's fields do not depend on them. -/
theorem orderlyStopResume_result {s : State} {t : W64} (hc : s.coolSince = some t) (hs : s.stopped = true)
    (ht : t.toNat + s.secondTicks ≤ s.tick.toNat) : ∃ u : State, exec .orderlyStopResume s = .next u ∧ u.stopped = false ∧
      u.coolSince = none ∧ u.rise = [] ∧ bit (u.reg thermCfg) 12 = false := by
  change ∃ u : State, execOrderlyStopResume s = .next u ∧ _
  unfold execOrderlyStopResume
  rw [hc]
  dsimp only
  rw [if_pos ⟨hs, ht⟩]
  generalize List.foldl _ s _ = v
  refine ⟨_, rfl, rfl, rfl, rfl, ?_⟩
  change bit ((v.setRfld thermCfg 12 1 0).reg thermCfg) 12 = false
  unfold State.setRfld
  rw [State.reg_setReg_self, bit_setFld_same _ (by decide)]
  rfl

/-- Settles O48: SENSOR_SAMPLE is the row with its two guards passed, ORDERLY_STOP_RESUME the row once the second has gone by, and
the other three rows are what they unfold to. That a trip starts the count of samples again is the model's choice (log entry 102). -/
theorem thermalResults : Obligations.ThermalResults := fun s =>
  ⟨fun _ _ => exec_sensorSample s, rfl, rfl, rfl, fun _ => orderlyStopResume_result⟩

end Sys2Proof.Machine
end

section
/-! PROOFS. The statements of 00_scope.md: one step, and the power states at reset. -/

namespace Sys2Proof.Machine

/-- Settles O1: a step with a command at the front of its queue is `exec` of that command. -/
theorem stepRunsFront : Obligations.StepRunsFront := fun _ _ _ => rfl

/-- Settles O3: the device is reset to PS0. -/
theorem resetPowerLegal : Obligations.ResetPowerLegal := ⟨Nat.zero_le 4, Nat.zero_le 2⟩

end Sys2Proof.Machine
end

section
/-! what it is to keep the power states of the device (O4) -/

namespace Sys2Proof.Machine

/-- State `t` stands in the power states of `s` (R526, R527). -/
@[simp] abbrev State.SamePower (s t : State) : Prop := t.power = s.power ∧ t.powerOp = s.powerOp

/-- A row keeps the power states of `s`: so does every state that it answers. -/
def State.KeepsPower (s : State) (r : Res) : Prop := ∀ t, r = .next t → s.SamePower t

@[simp] theorem State.keepsPower_next (s t : State) : s.KeepsPower (.next t) ↔ s.SamePower t :=
  ⟨fun h => h t rfl, fun h u hu => by cases hu; exact h⟩

theorem State.SamePower.trans {s t u : State} (h : s.SamePower t) (h' : t.SamePower u) : s.SamePower u :=
  ⟨h'.1.trans h.1, h'.2.trans h.2⟩

@[simp] theorem State.power_ite (c : Prop) [Decidable c] (s t : State) :
    (if c then s else t).power = if c then s.power else t.power :=
  apply_ite State.power c s t

@[simp] theorem State.powerOp_ite (c : Prop) [Decidable c] (s t : State) :
    (if c then s else t).powerOp = if c then s.powerOp else t.powerOp :=
  apply_ite State.powerOp c s t

theorem foldl_samePower {β : Type} {f : State → β → State} (hf : ∀ (s : State) (x : β), s.SamePower (f s x)) (l : List β)
    (s : State) : s.SamePower (l.foldl f s) := by
  induction l generalizing s with
  | nil => exact ⟨rfl, rfl⟩
  | cons x l ih => exact (hf s x).trans (ih (f s x))

theorem foldl_samePower_trans {β : Type} {f : State → β → State} (hf : ∀ (s : State) (x : β), s.SamePower (f s x)) {l : List β}
    {s t : State} (h : s.SamePower t) : s.SamePower (l.foldl f t) := h.trans (foldl_samePower hf l t)

@[simp] theorem power_foldl {β : Type} {f : State → β → State} (hf : ∀ (s : State) (x : β), s.SamePower (f s x)) (l : List β)
    (s : State) : (l.foldl f s).power = s.power := (foldl_samePower hf l s).1

@[simp] theorem powerOp_foldl {β : Type} {f : State → β → State} (hf : ∀ (s : State) (x : β), s.SamePower (f s x)) (l : List β)
    (s : State) : (l.foldl f s).powerOp = s.powerOp := (foldl_samePower hf l s).2

theorem ok_of_ite {ε α : Type} {c : Prop} [Decidable c] {a b : Except ε α} {x : α} {p : Prop} (ha : a = .ok x → p)
    (hb : b = .ok x → p) (h : (if c then a else b) = .ok x) : p := by
  split at h
  · exact ha h
  · exact hb h

theorem some_of_ite {α : Type} {c : Prop} [Decidable c] {a b : Option α} {x : α} {p : Prop} (ha : a = some x → p)
    (hb : b = some x → p) (h : (if c then a else b) = some x) : p := by
  split at h
  · exact ha h
  · exact hb h

theorem ok_of_map {ε α β : Type} {f : α → β} {x : Except ε α} {y : β} (h : x.map f = .ok y) : ∃ z, x = .ok z ∧ f z = y := by
  cases x with
  | error e => cases h
  | ok z => cases h; exact ⟨z, rfl, rfl⟩

theorem samePower_ite {c : Prop} [Decidable c] {s t u : State} (ht : s.SamePower t) (hu : s.SamePower u) :
    s.SamePower (if c then t else u) := by
  split
  · exact ht
  · exact hu

theorem samePower_getD {s : State} {o : Option State} (ho : ∀ t, o = some t → s.SamePower t) : s.SamePower (o.getD s) := by
  cases o with
  | none => exact ⟨rfl, rfl⟩
  | some t => exact ho t rfl

/-- A fold of steps that may fail keeps the power states where each step does. -/
theorem foldl_try_samePower {ε β : Type} {f : State → β → Except ε State}
    (hf : ∀ (s : State) x t, f s x = .ok t → s.SamePower t) {g : Except ε State → β → Except ε State}
    (hg : ∀ r x, g r x = r.bind (f · x)) (l : List β) {s t : State} (h : l.foldl g (.ok s) = .ok t) : s.SamePower t := by
  induction l generalizing s with
  | nil => cases h; exact ⟨rfl, rfl⟩
  | cons x l ih =>
    rw [List.foldl_cons, hg] at h
    cases hx : f s x with
    | ok u =>
      have first := hf s x u hx
      refine first.trans (ih ?_)
      simpa [Except.bind, hx] using h
    | error e =>
      have stays : ∀ l : List β, l.foldl g (.error e) = .error e := fun l => by
        induction l with
        | nil => rfl
        | cons y l ih => rw [List.foldl_cons, hg]; exact ih
      simp [Except.bind, hx, stays] at h

/-- A fold over a state and a value beside it. -/
theorem foldl_snd_samePower {α β : Type} {f : α × State → β → α × State} (hf : ∀ (p : α × State) x, p.2.SamePower (f p x).2)
    (l : List β) (a : α) (s : State) : s.SamePower (l.foldl f (a, s)).2 :=
  List.foldlRecOn (motive := fun p : α × State => s.SamePower p.2) l f ⟨rfl, rfl⟩ fun p hp x _ => hp.trans (hf p x)

end Sys2Proof.Machine
end

section
/-! what keeps the power states: the state, frames, cores, events, faults, buffers and completions -/

namespace Sys2Proof.Machine

@[simp] theorem State.samePower_setDie (s : State) (ch d : Nat) (x : Die) : s.SamePower (s.setDie ch d x) := by
  simp [State.setDie]

@[simp] theorem State.samePower_setChan (s : State) (ch : Nat) (x : Chan) : s.SamePower (s.setChan ch x) := by
  simp [State.setChan]

@[simp] theorem State.samePower_setFrame (s : State) (k : Nat) (f : NFrame) : s.SamePower (s.setFrame k f) := by
  simp [State.setFrame]

@[simp] theorem State.samePower_resetBlock (s : State) (bk : Nat) (erased : Bool) : s.SamePower (s.resetBlock bk erased) := by
  simp [State.resetBlock]

@[simp] theorem State.samePower_spoil (s : State) (ks : List Nat) : s.SamePower (s.spoil ks) := by simp [State.spoil]

@[simp] theorem State.samePower_spoilOp (s : State) (r : Req) : s.SamePower (s.spoilOp r) := by simp [State.spoilOp]

@[simp] theorem State.samePower_setReg (s : State) (off : Nat) (v : W64) : s.SamePower (s.setReg off v) := by
  simp [State.setReg]

@[simp] theorem State.samePower_setRfld (s : State) (off lo w x : Nat) : s.SamePower (s.setRfld off lo w x) := by
  simp [State.setRfld]

@[simp] theorem State.samePower_countRfld (s : State) (off lo w n : Nat) : s.SamePower (s.countRfld off lo w n) := by
  simp [State.countRfld]

@[simp] theorem State.samePower_takeFree (s : State) : s.SamePower s.takeFree.2 := by simp [State.takeFree]

@[simp] theorem State.samePower_postWaiting (s : State) (c : CoreId) (e : W64) : s.SamePower (s.postWaiting c e) := by
  simp [State.postWaiting]

@[simp] theorem State.samePower_unitEvent (s : State) (c : CoreId) (cls src body : Nat) :
    s.SamePower (s.unitEvent c cls src body) := by
  simp [State.unitEvent]

@[simp] theorem State.samePower_postFetch (s : State) (c : CoreId) (e : W64) : s.SamePower (s.postFetch c e) := by
  simp [State.postFetch]

@[simp] theorem State.samePower_almQueue (s : State) (r : AlmRec) : s.SamePower (s.almQueue r) := by simp [State.almQueue]

@[simp] theorem State.samePower_almRecord (s : State) (code : Nat) (params : List W64) :
    s.SamePower (s.almRecord code params) := by
  simp [State.almRecord]

@[simp] theorem State.samePower_raiseGen (s : State) : s.SamePower s.raiseGen := by simp [State.raiseGen]

@[simp] theorem State.samePower_dropSessions (s : State) (f : Session → Bool) : s.SamePower (s.dropSessions f) := by
  simp [State.dropSessions]

@[simp] theorem State.samePower_setBootId (s : State) (v : W64) : s.SamePower (s.setBootId v) := by simp [State.setBootId]

@[simp] theorem State.samePower_setBootFld (s : State) (lo w v : Nat) : s.SamePower (s.setBootFld lo w v) := by
  simp [State.setBootFld]

@[simp] theorem State.samePower_readyLow (s : State) : s.SamePower s.readyLow := by simp [State.readyLow]

@[simp] theorem State.samePower_stopDevice (s : State) : s.SamePower s.stopDevice := by
  simp [State.stopDevice, State.faultRegs, State.faultSpan]

@[simp] theorem State.samePower_faultReset (s : State) (cause p1 p2 : Nat) : s.SamePower (s.faultReset cause p1 p2) := by
  simp [State.faultReset]

@[simp] theorem State.samePower_cut (s : State) (c : CoreId) (code pcw trapK : Nat) : s.SamePower (s.cut c code pcw trapK) := by
  simp [State.cut, State.postP0]

@[simp] theorem State.samePower_progFault (s : State) (c : CoreId) (code charge trapK : Nat) :
    s.SamePower (s.progFault c code charge trapK) := by
  simp [State.progFault]

@[simp] theorem State.samePower_stepCore (s : State) (c : CoreId) (charge : Nat) (f : Core → Core) :
    s.SamePower (s.stepCore c charge f) := by
  simp [State.stepCore]

@[simp] theorem State.samePower_illegal (s : State) (c : CoreId) : s.SamePower (s.illegal c) := by simp [State.illegal]

@[simp] theorem State.samePower_syncDone (s : State) (c : CoreId) (charge : Nat) (a : GReg) (oc : Byte) (v : W64) :
    s.SamePower (s.syncDone c charge a oc v) := by
  simp [State.syncDone]

@[simp] theorem State.samePower_syncFail (s : State) (c : CoreId) (charge : Nat) (oc : Byte) :
    s.SamePower (s.syncFail c charge oc) := by
  simp [State.syncFail]

@[simp] theorem State.samePower_rasEvent (s : State) (kind param : Nat) : s.SamePower (s.rasEvent kind param) := by
  simp [State.rasEvent]

@[simp] theorem State.samePower_rtCount (s : State) (e arr word : Nat) (fresh : Bool) :
    s.SamePower (s.rtCount e arr word fresh) := by
  simp [State.rtCount]

@[simp] theorem State.samePower_rtCorrected (s : State) (arr word : Nat) : s.SamePower (s.rtCorrected arr word) := by
  have counted (u : State) (lo : Nat) : u.SamePower (u.countRfld (sta 0x12 8) lo 32 1) := by simp
  rw [show State.rtCorrected = _ by delta State.rtCorrected; rfl]
  obtain ⟨u, hu⟩ : ∃ u, u = s.countRfld (sta 0x12 8) 32 32 1 := ⟨_, rfl⟩
  rw [← hu]
  refine State.SamePower.trans (hu ▸ counted s 32) ?_
  dsimp only
  split
  · exact State.samePower_rtCount _ _ _ _ _
  split
  · exact State.samePower_rtCount _ _ _ _ _
  split
  · exact State.samePower_rtCount _ _ _ _ _
  · refine samePower_ite (counted u 0) ((counted u 0).trans ?_)
    simp

@[simp] theorem State.samePower_sramRead (s : State) (arr w n : Nat) : s.SamePower (s.sramRead arr w n) := by
  simp [State.sramRead]

@[simp] theorem State.samePower_sramWrite (s : State) (arr w n : Nat) : s.SamePower (s.sramWrite arr w n) := by
  simp [State.sramWrite]

@[simp] theorem State.samePower_plogEvent (s : State) : s.SamePower s.plogEvent := by simp [State.plogEvent]

@[simp] theorem State.samePower_poisonKeys (s : State) (ks : List Nat) : s.SamePower (s.poisonKeys ks) := by
  simp [State.poisonKeys, State.plogEnter]

@[simp] theorem State.samePower_unlessReset {s s' : State} {f : State → State} (hs : s.SamePower s')
    (hf : ∀ t : State, t.SamePower (f t)) : s.SamePower (s.unlessReset s' f) := by
  unfold State.unlessReset
  split
  · exact hs
  · exact hs.trans (hf s')

@[simp] theorem State.samePower_fetched (s : State) (c : CoreId) : s.SamePower (s.fetched c) := by simp [State.fetched]

@[simp] theorem keepsPower_onCore {s : State} {c : CoreId} {f : State → State} (hf : ∀ t : State, t.SamePower (f t)) :
    s.KeepsPower (onCore s c f) := by
  unfold onCore
  rw [State.keepsPower_next]
  split
  · exact State.samePower_unlessReset (s.samePower_fetched c) hf
  · exact ⟨rfl, rfl⟩

@[simp] theorem State.samePower_setBuf (s : State) (a : Nat) (b : TunBuf) : s.SamePower (s.setBuf a b) := by simp [State.setBuf]

@[simp] theorem State.samePower_dropBuf (s : State) (a : Nat) : s.SamePower (s.dropBuf a) := by simp [State.dropBuf]

@[simp] theorem State.samePower_unref (s : State) (a : Nat) : s.SamePower (s.unref a) := by
  unfold State.unref
  split <;> simp

@[simp] theorem State.samePower_addRef (s : State) (a : Nat) : s.SamePower (s.addRef a) := by
  unfold State.addRef
  split <;> simp

theorem State.samePower_alloc {s : State} {cls p : Nat} {ext : Bool} : ∀ {x : W64 × State}, s.alloc cls p ext = some x →
    s.SamePower x.2 := by
  unfold State.alloc
  split
  · split <;> simp
  · simp

/-- A choice among two readings of a state's buffers. -/
theorem State.samePower_alloc_or {s : State} {cls p : Nat} {x : W64 × State}
    (h : (s.alloc cls p false).or (s.alloc cls p true) = some x) : s.SamePower x.2 := by
  rcases Option.or_eq_some_iff.mp h with h | ⟨-, h⟩ <;> exact State.samePower_alloc h

@[simp] theorem State.samePower_writeLoc (s : State) (l : Loc) (bs : List Byte) : s.SamePower (s.writeLoc l bs) := by
  unfold State.writeLoc
  dsimp only
  split
  · split <;> simp
  · split <;> simp
  · split <;> simp
  · split <;> simp
  · split <;> simp
  split <;> simp

@[simp] theorem State.samePower_carryPoison (s : State) (hit : List Nat) (src dst : Loc) :
    s.SamePower (s.carryPoison hit src dst) := by
  unfold State.carryPoison
  split <;> simp

@[simp] theorem State.samePower_touch (s : State) (p : Loc × Nat) : s.SamePower (s.touch p) := by
  unfold State.touch
  split <;> simp

@[simp] theorem State.samePower_setReq (s : State) (r : Req) : s.SamePower (s.setReq r) := by simp [State.setReq]

@[simp] theorem State.samePower_dropReq (s : State) (r : Req) : s.SamePower (s.dropReq r) := by simp [State.dropReq]

@[simp] theorem State.samePower_newTicket (s : State) (c : CoreId) : s.SamePower (s.newTicket c).2 := by simp [State.newTicket]

@[simp] theorem State.samePower_issue (s : State) (c : CoreId) (p : Prim) (charge : Nat) (i : Issue) (imm : BitVec 32) :
    s.SamePower (s.issue c p charge i imm) := by
  unfold State.issue
  dsimp only
  split
  · simp
  split <;> simp

@[simp] theorem State.samePower_complete (s : State) (r : Req) (oc : Byte) (ws : List W64) :
    s.SamePower (s.complete r oc ws) := by
  simp [State.complete, State.postCredited, State.writeRecord]

@[simp] theorem State.samePower_fail (s : State) (r : Req) (oc : Byte) : s.SamePower (s.fail r oc) := by simp [State.fail]

@[simp] theorem State.samePower_withRead {s : State} {r : Req} {ls : List (Loc × Nat)} {f : State → State}
    (hf : ∀ t : State, t.SamePower (f t)) : s.SamePower (s.withRead r ls f) := by
  unfold State.withRead
  dsimp only
  split
  · exact (foldl_samePower State.samePower_touch ls s).trans (hf _)
  · exact foldl_samePower State.samePower_touch ls s

@[simp] theorem keepsPower_onReq {s : State} {c : CoreId} {t : Ticket} {ok : Prim → Bool} {f : Req → State}
    (hf : ∀ r, s.SamePower (f r)) : s.KeepsPower (onReq s c t ok f) := by
  unfold onReq
  rw [State.keepsPower_next]
  split
  · exact hf _
  · exact ⟨rfl, rfl⟩

end Sys2Proof.Machine
end

section
/-! what keeps the power states: the instructions of a core, the counter, the hazard table, rings, queues and sensors -/

namespace Sys2Proof.Machine

@[simp] theorem keepsPower_alu (s : State) (c : CoreId) (a : GReg) (charge : Nat) (f : Core → W64) :
    s.KeepsPower (alu s c a charge f) := by
  simp [alu]

@[simp] theorem State.samePower_takeBranch (s : State) (c : CoreId) (charge : Nat) (tgt : BitVec 13) :
    s.SamePower (s.takeBranch c charge tgt) := by
  simp [State.takeBranch]

@[simp] theorem keepsPower_branch (s : State) (c : CoreId) (tgt : BitVec 12) (cond : Core → Bool) :
    s.KeepsPower (branch s c tgt cond) := by
  simp [branch]

@[simp] theorem keepsPower_execRet (s : State) (c : CoreId) : s.KeepsPower (execRet c s) := by
  unfold execRet
  dsimp only
  refine keepsPower_onCore (fun s => ?_)
  split <;> simp

@[simp] theorem keepsPower_execLbrk (s : State) (c : CoreId) : s.KeepsPower (execLbrk c s) := by
  unfold execLbrk
  dsimp only
  refine keepsPower_onCore (fun s => ?_)
  split <;> simp

@[simp] theorem State.samePower_switchEntry (s : State) (c : CoreId) (tgt n : Nat) : s.SamePower (s.switchEntry c tgt n).2 := by
  unfold State.switchEntry
  dsimp only
  split <;> simp

@[simp] theorem keepsPower_execSlend (s : State) (c : CoreId) : s.KeepsPower (execSlend c s) := by
  unfold execSlend
  dsimp only
  refine keepsPower_onCore (fun s => ?_)
  split
  · simp
  split
  · split <;> simp
  · simp

@[simp] theorem keepsPower_tagInstr (s : State) (c : CoreId) (legal : Bool) (charge : Nat) (f : Core → Core) :
    s.KeepsPower (tagInstr s c legal charge f) := by
  simp [tagInstr]

@[simp] theorem State.samePower_cycleNow (s : State) : s.SamePower s.cycleNow.2 := by simp [State.cycleNow]

@[simp] theorem State.samePower_updMark (s : State) (n : Nat) (f : Mark → Mark) : s.SamePower (s.updMark n f) := by
  unfold State.updMark
  split <;> simp

@[simp] theorem State.samePower_setP (s : State) (n : Nat) : s.SamePower (s.setP n) := by simp [State.setP]

@[simp] theorem State.samePower_wsnReserve (s : State) : s.SamePower s.wsnReserve := by simp [State.wsnReserve]

@[simp] theorem State.samePower_wsnTake (s : State) (extra : Nat) : s.SamePower (s.wsnTake extra) := by simp [State.wsnTake]

@[simp] theorem State.samePower_wsnTakeN (s : State) (extra n : Nat) : s.SamePower (s.wsnTakeN extra n) := by
  induction n generalizing s with
  | zero => exact ⟨rfl, rfl⟩
  | succ n ih => exact (s.samePower_wsnTake extra).trans (ih _)

@[simp] theorem State.samePower_setCmd (s : State) (d : Cmd) : s.SamePower (s.setCmd d) := by simp [State.setCmd]

@[simp] theorem keepsPower_execHzinsConfirm (s : State) (c : CoreId) (a b d : GReg) :
    s.KeepsPower (execHzinsConfirm c a b d s) := by
  unfold execHzinsConfirm
  dsimp only
  refine keepsPower_onCore (fun s => ?_)
  split
  · split <;> simp
  · simp

@[simp] theorem keepsPower_execHzinsInsert (s : State) (c : CoreId) (a b d : GReg) :
    s.KeepsPower (execHzinsInsert c a b d s) := by
  unfold execHzinsInsert
  dsimp only
  refine keepsPower_onCore (fun s => ?_)
  split
  · simp
  split <;> simp

@[simp] theorem State.samePower_forgetHaz (s : State) (i : Nat) : s.SamePower (s.forgetHaz i) := by simp [State.forgetHaz]

@[simp] theorem keepsPower_execHzdel (s : State) (c : CoreId) (a b : GReg) : s.KeepsPower (execHzdel c a b s) := by
  unfold execHzdel
  dsimp only
  refine keepsPower_onCore (fun s => ?_)
  split <;> simp

@[simp] theorem State.samePower_setRing (s : State) (i : Nat) (r : RingQ) : s.SamePower (s.setRing i r) := by
  simp [State.setRing]

@[simp] theorem keepsPower_execRpop (s : State) (c : CoreId) (a b : GReg) : s.KeepsPower (execRpop c a b s) := by
  unfold execRpop
  dsimp only
  refine keepsPower_onCore (fun s => ?_)
  split
  · simp
  split <;> simp

@[simp] theorem State.samePower_setSq (s : State) (q : Nat) (x : Option SQ) : s.SamePower (s.setSq q x) := by simp [State.setSq]

@[simp] theorem State.samePower_setCq (s : State) (q : Nat) (x : Option CQ) : s.SamePower (s.setCq q x) := by simp [State.setCq]

@[simp] theorem keepsPower_execQctlRead (s : State) (c : CoreId) (a b x6 : GReg) (i : BitVec 8) :
    s.KeepsPower (execQctlRead c a b x6 i s) := by
  unfold execQctlRead
  dsimp only
  split
  · simp
  split
  · simp
  refine keepsPower_onCore (fun s => ?_)
  split
  · split <;> simp
  split <;> simp

@[simp] theorem keepsPower_qctlSq {s : State} {c : CoreId} {b : GReg} {f : State → Nat → SQ → State}
    (hf : ∀ (t : State) n q, t.SamePower (f t n q)) : s.KeepsPower (qctlSq c b s f) := by
  refine keepsPower_onCore (fun t => ?_)
  dsimp only
  split
  · simp
  · split
    · exact hf _ _ _
    · simp

@[simp] theorem keepsPower_execBget (s : State) (c : CoreId) (a b : GReg) (i : Imm32) : s.KeepsPower (execBget c a b i s) := by
  refine keepsPower_onCore (fun s => ?_)
  dsimp only
  split
  · simp
  split
  next h t got =>
    have kept : s.SamePower t := by
      split at got
      · exact State.samePower_alloc_or got
      · exact State.samePower_alloc got
      · exact State.samePower_alloc got
    exact kept.trans (by simp)
  next => simp

@[simp] theorem keepsPower_execBput (s : State) (c : CoreId) (a b : GReg) : s.KeepsPower (execBput c a b s) := by
  unfold execBput
  refine keepsPower_onCore (fun s => ?_)
  split <;> simp

@[simp] theorem keepsPower_execBref (s : State) (c : CoreId) (a b : GReg) : s.KeepsPower (execBref c a b s) := by
  unfold execBref
  refine keepsPower_onCore (fun s => ?_)
  split <;> simp

@[simp] theorem keepsPower_execSens (s : State) (c : CoreId) (a b : GReg) : s.KeepsPower (execSens c a b s) := by
  unfold execSens
  dsimp only
  refine keepsPower_onCore (fun s => ?_)
  split
  · simp
  split <;> simp

end Sys2Proof.Machine
end

section
/-! what keeps the power states: the completion gate and the controllers -/

namespace Sys2Proof.Machine

@[simp] theorem State.samePower_settleCount (s : State) (d : Cmd) : s.SamePower (s.settleCount d) := by
  unfold State.settleCount
  split <;> simp

@[simp] theorem State.samePower_releaseEntry (s : State) (d : Cmd) : s.SamePower (s.releaseEntry d) := by
  simp [State.releaseEntry]

@[simp] theorem State.samePower_dropHaz (s : State) (d : Cmd) : s.SamePower (s.dropHaz d) := by
  unfold State.dropHaz
  split <;> simp

@[simp] theorem State.samePower_writeCqe (s : State) (d : Cmd) (dw0 dw1 : BitVec 32) (st : BitVec 15) :
    s.SamePower (s.writeCqe d dw0 dw1 st) := by
  unfold State.writeCqe
  dsimp only
  split
  · split <;> simp
  · simp

@[simp] theorem State.samePower_cqWaiting (s : State) (d : Cmd) (f : Nat → Nat) : s.SamePower (s.cqWaiting d f) := by
  unfold State.cqWaiting
  split
  · split <;> simp
  · simp

@[simp] theorem State.samePower_claimEvent (s : State) (req : Option (CoreId × Ticket)) (oc : Byte) :
    s.SamePower (s.claimEvent req oc) := by
  unfold State.claimEvent
  split <;> simp

@[simp] theorem State.samePower_postEntry (s : State) (d : Cmd) (dw0 dw1 : BitVec 32) (st : BitVec 15)
    (req : Option (CoreId × Ticket)) : s.SamePower (s.postEntry d dw0 dw1 st req) := by
  simp [State.postEntry]

@[simp] theorem State.samePower_respond (s : State) (d : Cmd) (dw0 dw1 : BitVec 32) (st : BitVec 15) :
    s.SamePower (s.respond d dw0 dw1 st) := by
  simp [State.respond]

@[simp] theorem State.samePower_claimCompletion (s : State) (r : Req) (key : W64) (dw0 dw1 : BitVec 32) (st : BitVec 15)
    (first count : Nat) : s.SamePower (s.claimCompletion r key dw0 dw1 st first count) := by
  unfold State.claimCompletion
  dsimp only
  split <;> simp

@[simp] theorem State.samePower_failJobs (s : State) (d : Cmd) : s.SamePower (s.failJobs d) := by simp [State.failJobs]

@[simp] theorem State.samePower_squashCmd (s : State) (d : Cmd) : s.SamePower (s.squashCmd d) := by simp [State.squashCmd]

@[simp] theorem State.samePower_claimSquash (s : State) (r : Req) (key : W64) : s.SamePower (s.claimSquash r key) := by
  unfold State.claimSquash
  split <;> simp

@[simp] theorem State.samePower_claimAbort (s : State) (r : Req) (key : W64) : s.SamePower (s.claimAbort r key) := by
  unfold State.claimAbort
  dsimp only
  split <;> simp

@[simp] theorem State.samePower_gateTake (s : State) (r : Req) : s.SamePower (s.gateTake r) := by
  unfold State.gateTake
  split <;> simp

@[simp] theorem keepsPower_execGateFenceRelease (s : State) (k : W64) : s.KeepsPower (execGateFenceRelease k s) := by
  unfold execGateFenceRelease
  split
  · split <;> simp
  · simp

@[simp] theorem keepsPower_execCqSpaceResume (s : State) (cq : Nat) : s.KeepsPower (execCqSpaceResume cq s) := by
  unfold execCqSpaceResume
  split
  · split <;> simp
  · simp

@[simp] theorem State.samePower_abortFor (s : State) (k : W64) (by_ : Cmd) : s.SamePower (s.abortFor k by_) := by
  unfold State.abortFor
  split <;> simp

@[simp] theorem State.samePower_applyFor (s : State) (p : W64 × W64) : s.SamePower (s.applyFor p) := by
  unfold State.applyFor
  dsimp only
  split <;> simp

@[simp] theorem keepsPower_execAbortClaimApply (s : State) (k : W64) : s.KeepsPower (execAbortClaimApply k s) := by
  unfold execAbortClaimApply
  split
  · simp
  split <;> simp

@[simp] theorem State.samePower_applyAborts (s : State) : s.SamePower s.applyAborts := by
  unfold State.applyAborts
  dsimp only
  refine foldl_samePower_trans (fun t x => ?_) ?_
  · simp
  · refine foldl_samePower_trans (fun t x => ?_) (by simp)
    split <;> simp

@[simp] theorem keepsPower_execEntryBufferReturn (s : State) (k : W64) : s.KeepsPower (execEntryBufferReturn k s) := by
  unfold execEntryBufferReturn
  split
  · split <;> simp
  · simp

@[simp] theorem State.samePower_setCtrl (s : State) (f : Nat) (c : Ctrl) : s.SamePower (s.setCtrl f c) := by
  simp [State.setCtrl]

@[simp] theorem State.samePower_asyncEvent (s : State) (f : Nat) (e : AsyncEv) : s.SamePower (s.asyncEvent f e) := by
  unfold State.asyncEvent
  dsimp only
  split
  · split <;> simp
  · simp

@[simp] theorem State.samePower_asyncAll (s : State) (e : AsyncEv) : s.SamePower (s.asyncAll e) := by simp [State.asyncAll]

@[simp] theorem State.samePower_testResult (s : State) (result seg : Nat) : s.SamePower (s.testResult result seg) := by
  unfold State.testResult
  dsimp only
  split <;> simp

@[simp] theorem State.samePower_endTest (s : State) (result : Nat) : s.SamePower (s.endTest result) := by simp [State.endTest]

end Sys2Proof.Machine
end

section
/-! what keeps the power states: the map, zones, keys and the engines that serve them -/

namespace Sys2Proof.Machine

@[simp] theorem State.samePower_setZone (s : State) (z : Nat) (v : W64) : s.SamePower (s.setZone z v) := by simp [State.setZone]

@[simp] theorem State.samePower_setRsv (s : State) (z r : Nat) : s.SamePower (s.setRsv z r) := by simp [State.setRsv]

@[simp] theorem State.samePower_setZstate (s : State) (z st : Nat) : s.SamePower (s.setZstate z st) := by simp [State.setZstate]

@[simp] theorem State.samePower_setZwp (s : State) (z wp : Nat) : s.SamePower (s.setZwp z wp) := by simp [State.setZwp]

@[simp] theorem State.samePower_writeRuns (s : State) (entry a : Nat) (rs : List ExcRun) :
    s.SamePower (s.writeRuns entry a rs) := by
  simp [State.writeRuns]

theorem State.samePower_logAppend {s : State} {r : LogRec} : ∀ {x : Nat × State}, s.logAppend r = some x → s.SamePower x.2 := by
  unfold State.logAppend
  dsimp only
  split <;> simp

@[simp] theorem State.samePower_received (s : State) (r : Req) : s.SamePower (s.received r) := by simp [State.received]

@[simp] theorem State.samePower_mapServe {s : State} {r : Req} {f : State → State} (hf : ∀ t : State, t.SamePower (f t)) :
    s.SamePower (s.mapServe r f) := by
  unfold State.mapServe
  split
  · exact ⟨rfl, rfl⟩
  · exact ((State.samePower_received s r).trans (hf _)).trans (by simp)

@[simp] theorem State.samePower_writeList (s : State) (a : W64) (ws : List W64) : s.SamePower (s.writeList a ws) := by
  unfold State.writeList
  split <;> simp

@[simp] theorem State.samePower_mlookDone (s : State) (r : Req) : s.SamePower (s.mlookDone r) := by
  unfold State.mlookDone
  dsimp only
  split
  · simp
  split
  · simp
  split <;> simp

@[simp] theorem State.samePower_tableWrite (s : State) (n : Nat) (isMeta : Bool) (g : Nat) (w : W64) :
    s.SamePower (s.tableWrite n isMeta g w) := by
  simp [State.tableWrite]

@[simp] theorem State.samePower_tableWriteN (s : State) (n : Nat) (isMeta : Bool) (g : Nat) (ws : List W64) :
    s.SamePower (s.tableWriteN n isMeta g ws) := by
  induction ws generalizing s g with
  | nil => exact ⟨rfl, rfl⟩
  | cons w ws ih => exact (s.samePower_tableWrite n isMeta g w).trans (ih _ _)

theorem State.samePower_commitFinish {s : State} {r : Req} {prev : List W64} {seq : Nat} : ∀ {x : State × Byte × List W64},
    s.commitFinish r prev seq = .ok x → s.SamePower x.1 := by
  simp [State.commitFinish]

@[simp] theorem State.samePower_metaFollowed (s : State) (n first : Nat) : s.SamePower (s.metaFollowed n first) := by
  simp [State.metaFollowed]

theorem State.samePower_commitThe {s : State} {r : Req} {ws : List W64} : ∀ {x : State × Byte × List W64},
    s.commitThe r ws = .ok x → s.SamePower x.1 := by
  intro x
  unfold State.commitThe
  dsimp only
  refine ok_of_ite nofun (ok_of_ite nofun (ok_of_ite ?_ ?_))
  · refine ok_of_ite nofun (ok_of_ite nofun (ok_of_ite nofun (ok_of_ite nofun (ok_of_ite nofun (ok_of_ite nofun fun h => ?_)))))
    split at h
    · cases h
    split at h
    · cases h
    next ha => exact ((State.samePower_logAppend ha).trans (by split <;> simp)).trans (State.samePower_commitFinish h)
  · intro h
    split at h
    · cases h
    split at h
    · cases h
    next ha => exact ((State.samePower_logAppend ha).trans (by split <;> simp)).trans (State.samePower_commitFinish h)

theorem State.samePower_mcommitOp {s : State} {r : Req} {x : State × Byte × List W64} (h : s.mcommitOp r = .ok x) :
    s.SamePower x.1 := by
  unfold State.mcommitOp at h
  split at h
  · cases h
  · exact State.samePower_commitThe h

theorem State.samePower_trimZones {s : State} {c : NsCfg} {g n : Nat} {zs : List Nat} {t : State}
    (h : s.trimZones c g n zs = some t) : s.SamePower t := by
  induction zs generalizing s with
  | nil => cases h; exact ⟨rfl, rfl⟩
  | cons z zs ih =>
    unfold State.trimZones at h
    dsimp only at h
    split at h
    · exact ih h
    split at h
    · cases h
    split at h
    · cases h
    · exact State.SamePower.trans (by simp) (ih h)

@[simp] theorem State.samePower_mappedIn (s : State) (n : Nat) (isMeta : Bool) (g k : Nat) :
    s.SamePower (s.mappedIn n isMeta g k).2 := by
  unfold State.mappedIn
  dsimp only
  split <;> simp

theorem State.samePower_mtrimOp {s : State} {r : Req} {x : State × Byte × List W64} (h : s.mtrimOp r = .ok x) :
    s.SamePower x.1 := by
  unfold State.mtrimOp at h
  dsimp only at h
  split at h
  · cases h
  split at h
  · cases h
  split at h
  · cases h
  next ha =>
    refine (State.SamePower.trans (by simp) (State.samePower_logAppend ha)).trans ?_
    split at h
    · split at h
      · cases h
      next ht => cases h; exact State.samePower_trimZones ht
    · cases h; simp

@[simp] theorem State.samePower_tokSlot (s : State) (z : Nat) : s.SamePower (s.tokSlot z).2 := by
  unfold State.tokSlot
  dsimp only
  split
  · simp
  split
  · simp
  split <;> simp

@[simp] theorem State.samePower_reserve (s : State) (z n : Nat) : s.SamePower (s.reserve z n) := by simp [State.reserve]

theorem State.samePower_mzoneOp {s : State} {r : Req} {x : State × Byte × List W64} : s.mzoneOp r = .ok x →
    s.SamePower x.1 := by
  unfold State.mzoneOp
  dsimp only
  refine ok_of_ite nofun (ok_of_ite nofun ?_)
  split
  · refine ok_of_ite nofun (ok_of_ite nofun (ok_of_ite nofun fun h => ?_))
    cases h
    simp
  · generalize (if fld _ 28 13 = 0 then none else _) = known
    cases known with
    | some o =>
      intro h
      cases h
      exact ⟨rfl, rfl⟩
    | none =>
      refine ok_of_ite nofun fun h => ?_
      cases h
      simp
  · intro h
    split at h
    · cases h
    next ha => cases h; exact (State.samePower_logAppend ha).trans (by simp)
  · refine ok_of_ite nofun fun h => ?_
    split at h
    · cases h
    next ha => cases h; exact (State.samePower_logAppend ha).trans (by simp)
  · refine ok_of_ite nofun fun h => ?_
    split at h
    · cases h
    next ha => cases h; exact (State.samePower_logAppend ha).trans (by simp)
  · intro h
    cases h
    exact ⟨rfl, rfl⟩

@[simp] theorem State.samePower_mapAnswer {s : State} {r : Req} {x : MapRes} (hx : ∀ y, x = .ok y → s.SamePower y.1) :
    s.SamePower (s.mapAnswer r x) := by
  unfold State.mapAnswer
  split
  · simp
  · exact (hx _ rfl).trans (by simp)

@[simp] theorem keepsPower_execMapCommitDone (s : State) (c : CoreId) (t : Ticket) : s.KeepsPower (execMapCommitDone c t s) :=
  keepsPower_onReq (fun _ => State.samePower_mapServe (fun _ => State.samePower_mapAnswer (fun _ => State.samePower_mcommitOp)))

@[simp] theorem keepsPower_execMapTrimDone (s : State) (c : CoreId) (t : Ticket) : s.KeepsPower (execMapTrimDone c t s) :=
  keepsPower_onReq (fun _ => State.samePower_mapServe (fun _ => State.samePower_mapAnswer (fun _ => State.samePower_mtrimOp)))

@[simp] theorem keepsPower_execZoneUpdateDone (s : State) (c : CoreId) (t : Ticket) : s.KeepsPower (execZoneUpdateDone c t s) :=
  keepsPower_onReq (fun _ => State.samePower_mapServe (fun _ => State.samePower_mapAnswer (fun _ => State.samePower_mzoneOp)))

@[simp] theorem State.samePower_land (s : State) (addr : W64) (data : List Byte) : s.SamePower (s.land addr data) := by
  unfold State.land
  split <;> simp

@[simp] theorem keepsPower_execDataMoverInDone (s : State) (c : CoreId) (t : Ticket) (ok : Bool) (data : List Byte) :
    s.KeepsPower (execDataMoverInDone c t ok data s) := by
  unfold execDataMoverInDone
  split
  · refine keepsPower_onReq (fun r => ?_)
    split
    · simp
    split <;> simp
  refine keepsPower_onReq (fun r => ?_)
  split
  · simp
  split
  · simp
  split
  · simp
  split <;> simp

@[simp] theorem State.samePower_sendHost (s : State) (r : Req) (data : List Byte) : s.SamePower (s.sendHost r data) := by
  simp [State.sendHost]

@[simp] theorem keepsPower_execDataMoverOutDone (s : State) (c : CoreId) (t : Ticket) (ok : Bool) :
    s.KeepsPower (execDataMoverOutDone c t ok s) := by
  unfold execDataMoverOutDone
  dsimp only
  split
  · refine keepsPower_onReq (fun r => ?_)
    split <;> simp
  refine keepsPower_onReq (fun r => ?_)
  split
  · simp
  split
  · simp
  split <;> simp

@[simp] theorem State.samePower_copyBytes (s : State) (src dst : Loc) (n : Nat) : s.SamePower (s.copyBytes src dst n).2 := by
  simp [State.copyBytes]

@[simp] theorem State.samePower_putFrames (s : State) (f : Nat → List Byte) (k : Nat) (ls : List Loc) :
    s.SamePower (s.putFrames f k ls) := by
  induction ls generalizing s k with
  | nil => exact ⟨rfl, rfl⟩
  | cons l ls ih => exact (s.samePower_writeLoc l (f k)).trans (ih _ _)

@[simp] theorem keepsPower_execCopyDone (s : State) (c : CoreId) (t : Ticket) : s.KeepsPower (execCopyDone c t s) := by
  unfold execCopyDone
  dsimp only
  refine keepsPower_onReq (fun r => ?_)
  split
  · split <;> simp
  split <;> simp

@[simp] theorem keepsPower_execFillDone (s : State) (c : CoreId) (t : Ticket) : s.KeepsPower (execFillDone c t s) := by
  unfold execFillDone
  dsimp only
  refine keepsPower_onReq (fun r => ?_)
  split <;> simp

@[simp] theorem State.samePower_setVslot (s : State) (n : Nat) (v : Option VSlot) : s.SamePower (s.setVslot n v) := by
  simp [State.setVslot]

@[simp] theorem State.samePower_loadSlot (s : State) (n : Nat) (v : VSlot) : s.SamePower (s.loadSlot n v) := by
  simp [State.loadSlot]

@[simp] theorem State.samePower_bindSlot (s : State) (n ns : Nat) : s.SamePower (s.bindSlot n ns) := by
  unfold State.bindSlot
  dsimp only
  split <;> simp

@[simp] theorem State.samePower_clearSlot (s : State) (n : Nat) : s.SamePower (s.clearSlot n) := by simp [State.clearSlot]

@[simp] theorem State.samePower_trngBytes (s : State) (n : Nat) : s.SamePower (s.trngBytes n).2 := by
  induction n generalizing s with
  | zero => exact ⟨rfl, rfl⟩
  | succ n ih => exact s.samePower_takeFree.trans (ih _)

@[simp] theorem State.samePower_trngFail (s : State) : s.SamePower s.trngFail := by simp [State.trngFail]

@[simp] theorem State.samePower_drbg (s : State) (n : Nat) : s.SamePower (s.drbg n).2 := by
  unfold State.drbg
  split
  · simp
  split
  · simp
  split <;> simp

@[simp] theorem keepsPower_execXtsDone (s : State) (c : CoreId) (t : Ticket) : s.KeepsPower (execXtsDone c t s) := by
  refine keepsPower_onReq (fun r => ?_)
  dsimp only
  split
  · simp
  split
  · simp
  have drawn := s.samePower_drbg (256 * r.xtsGrains)
  split
  next h => rw [h] at drawn; exact drawn.trans (by simp)
  next h =>
    rw [h] at drawn
    refine State.SamePower.trans drawn ?_
    split
    · exact ⟨rfl, rfl⟩
    split
    · split
      · refine State.samePower_withRead (fun s => ?_)
        simp
      · exact ⟨rfl, rfl⟩
    · split
      · refine State.samePower_withRead (fun s => ?_)
        simp
      · exact ⟨rfl, rfl⟩

@[simp] theorem keepsPower_execCmacDone (s : State) (c : CoreId) (t : Ticket) : s.KeepsPower (execCmacDone c t s) := by
  refine keepsPower_onReq (fun r => ?_)
  dsimp only
  split
  · simp
  split
  · simp
  have drawn := s.samePower_drbg ((fld (r.op 1) 0 32 + 15) / 16)
  split
  next h => rw [h] at drawn; exact drawn.trans (by simp)
  next h =>
    rw [h] at drawn
    refine State.SamePower.trans drawn ?_
    split
    · exact ⟨rfl, rfl⟩
    refine State.samePower_withRead (fun s => ?_)
    split
    · simp
    split
    · split
      · exact State.samePower_withRead (fun s => by simp)
      · exact ⟨rfl, rfl⟩
    · simp

@[simp] theorem State.samePower_vslotFill (s : State) (r : Req) (n : Nat) : s.SamePower (s.vslotFill r n) := by
  simp [State.vslotFill]

@[simp] theorem State.samePower_vslotImport (s : State) (r : Req) (n : Nat) : s.SamePower (s.vslotImport r n) := by
  unfold State.vslotImport
  split
  · simp
  split
  · simp
  split
  · simp
  split
  · simp
  refine State.samePower_withRead (fun s => ?_)
  split <;> simp

@[simp] theorem State.samePower_vslotBind (s : State) (r : Req) (n : Nat) : s.SamePower (s.vslotBind r n) := by
  unfold State.vslotBind
  dsimp only
  split <;> simp

@[simp] theorem keepsPower_execVaultOperationDone (s : State) (c : CoreId) (t : Ticket) :
    s.KeepsPower (execVaultOperationDone c t s) := by
  unfold execVaultOperationDone
  dsimp only
  refine keepsPower_onReq (fun r => ?_)
  split <;> simp

@[simp] theorem keepsPower_execTrngHealthFail (s : State) : s.KeepsPower (execTrngHealthFail s) := by
  unfold execTrngHealthFail
  dsimp only
  split
  · simp
  split <;> simp

end Sys2Proof.Machine
end

section
/-! what keeps the power states: the channels, the director and the sequencer -/

namespace Sys2Proof.Machine

@[simp] theorem State.samePower_bus (s : State) (xs : List Out) : s.SamePower (s.bus xs) := by simp [State.bus]

@[simp] theorem State.samePower_dropAcc (s : State) (r : Req) : s.SamePower (s.dropAcc r) := by simp [State.dropAcc]

@[simp] theorem State.samePower_setAcc (s : State) (r : Req) (a : VerbAcc) : s.SamePower (s.setAcc r a) := by
  simp [State.setAcc]

@[simp] theorem State.samePower_freeBytes (s : State) (n : Nat) : s.SamePower (s.freeBytes n).2 := by simp [State.freeBytes]

@[simp] theorem State.samePower_frameBytes (s : State) (k : Nat) : s.SamePower (s.frameBytes k).2 := by
  unfold State.frameBytes
  split <;> simp

@[simp] theorem State.samePower_progFramesTo (s : State) (mode : Nat) (ks : List Nat) (bs : List (List Byte)) :
    s.SamePower (s.progFramesTo mode ks bs) := by
  induction ks generalizing s bs with
  | nil => exact ⟨rfl, rfl⟩
  | cons k ks ih =>
    cases bs with
    | nil => exact ⟨rfl, rfl⟩
    | cons b bs => exact (s.samePower_setFrame _ _).trans (ih _ _)

theorem State.samePower_writeIntent {s : State} {r : Req} : ∀ {t : State}, s.writeIntent r = some t → s.SamePower t := by
  unfold State.writeIntent
  dsimp only
  split
  · simp
  split
  · simp
  split <;> simp

@[simp] theorem State.samePower_clearIntent (s : State) (r : Req) : s.SamePower (s.clearIntent r) := by simp [State.clearIntent]

@[simp] theorem State.samePower_trunPassed (s : State) (ch : Nat) (t : W64) : s.SamePower (s.trunPassed ch t).2 := by
  unfold State.trunPassed
  dsimp only
  split
  · simp
  split <;> simp

@[simp] theorem State.samePower_verbGone (s : State) (r : Req) : s.SamePower (s.verbGone r) := by simp [State.verbGone]

@[simp] theorem State.samePower_clearFails (s : State) (r : Req) : s.SamePower (s.clearFails r) := by simp [State.clearFails]

@[simp] theorem State.samePower_verbDone (s : State) (r : Req) (oc : Byte) (ws : List W64) :
    s.SamePower (s.verbDone r oc ws) := by
  simp [State.verbDone]

@[simp] theorem State.samePower_startVerb (s : State) (bus : Bool) (r : Req) : s.SamePower (s.startVerb bus r) := by
  unfold State.startVerb
  dsimp only
  split
  case h_1 | h_2 =>
    refine samePower_ite (by simp) ?_
    cases (s.die r.chanNo r.dieNo).op <;> simp
  case h_3 | h_4 =>
    refine samePower_ite ?_ (by simp)
    split
    · simp
    next h => simp [State.samePower_writeIntent h]
  all_goals simp

@[simp] theorem State.samePower_serveDie (s : State) (ch d : Nat) : s.SamePower (s.serveDie ch d) := by
  unfold State.serveDie
  refine foldl_samePower_trans (fun t x => ?_) (by simp)
  split <;> simp

@[simp] theorem keepsPower_onVerb {s : State} {c : CoreId} {t : Ticket} {ok : Prim → Bool} {f : State → Req → State}
    (hf : ∀ (s : State) r, s.SamePower (f s r)) : s.KeepsPower (onVerb s c t ok f) := by
  unfold onVerb
  rw [State.keepsPower_next]
  split
  · dsimp only
    split
    · exact ⟨rfl, rfl⟩
    · split
      · split
        · exact State.SamePower.trans (by split <;> simp) (hf _ _)
        · split <;> simp
      · split <;> simp
  · exact ⟨rfl, rfl⟩

@[simp] theorem keepsPower_execVerbEnterDieQueue (s : State) (c : CoreId) (t : Ticket) :
    s.KeepsPower (execVerbEnterDieQueue c t s) := by
  unfold execVerbEnterDieQueue
  split <;> simp

@[simp] theorem State.samePower_fcancelTake (s : State) (r : Req) : s.SamePower (s.fcancelTake r) := by
  unfold State.fcancelTake
  split <;> simp

@[simp] theorem State.samePower_ldpcAsk (s : State) (r : Req) : s.SamePower (s.ldpcAsk r) := by simp [State.ldpcAsk]

@[simp] theorem State.samePower_takeInputs (s : State) (r : Req) : s.SamePower (s.takeInputs r) := by
  unfold State.takeInputs
  dsimp only
  split <;> simp

@[simp] theorem State.samePower_takeStatus (s : State) (ch d : Nat) (st : Byte) : s.SamePower (s.takeStatus ch d st) := by
  simp [State.takeStatus]

@[simp] theorem State.samePower_foundReady (s : State) (r : Req) : s.SamePower (s.foundReady r) := by simp [State.foundReady]

@[simp] theorem keepsPower_execDiePoll (s : State) (ch die : Nat) (st : PollSense) :
    s.KeepsPower (execDiePoll ch die st s) := by
  unfold execDiePoll
  dsimp only
  split
  · split
    · split <;> simp
    · split <;> simp
  · simp

@[simp] theorem keepsPower_execProgramEraseSuspend (s : State) (ch die : Nat) :
    s.KeepsPower (execProgramEraseSuspend ch die s) := by
  unfold execProgramEraseSuspend
  dsimp only
  split
  · simp
  split <;> simp

@[simp] theorem keepsPower_execResumeOperation (s : State) (ch die : Nat) : s.KeepsPower (execResumeOperation ch die s) := by
  unfold execResumeOperation
  dsimp only
  split
  · split <;> simp
  · simp

@[simp] theorem State.samePower_retireDies (s : State) (ch : Nat) (ds : List Nat) : s.SamePower (s.retireDies ch ds) := by
  simp [State.retireDies]

@[simp] theorem keepsPower_execDieTimeout (s : State) (ch die : Nat) : s.KeepsPower (execDieTimeout ch die s) := by
  unfold execDieTimeout
  dsimp only
  split <;> simp

@[simp] theorem keepsPower_execLdpcSlotGrant (s : State) (bank : Nat) : s.KeepsPower (execLdpcSlotGrant bank s) := by
  unfold execLdpcSlotGrant
  dsimp only
  split
  · simp
  split <;> simp

@[simp] theorem State.samePower_countHard (s : State) (ch : Nat) (oc : Byte) (bits : Nat) :
    s.SamePower (s.countHard ch oc bits) := by
  simp [State.countHard]

@[simp] theorem State.samePower_deliver (s : State) (r : Req) (k : Nat) (bs : List Byte) : s.SamePower (s.deliver r k bs) := by
  unfold State.deliver
  split
  · split <;> simp
  · simp

@[simp] theorem State.samePower_takeData (s : State) (r : Req) (a : VerbAcc) (oc : Byte) (bits : Nat) :
    s.SamePower (s.takeData r a oc bits).2 := by
  unfold State.takeData
  dsimp only
  split <;> simp

@[simp] theorem State.samePower_takeFrame (s : State) (r : Req) (a : VerbAcc) (f : FrameSense) :
    s.SamePower (s.takeFrame r a f).2 := by
  unfold State.takeFrame
  dsimp only
  split
  · simp
  split
  · split <;> simp
  split
  · dsimp only
    split <;> simp
  split <;> simp

@[simp] theorem State.samePower_takeFrames (s : State) (r : Req) (a : VerbAcc) (fs : List FrameSense) :
    s.SamePower (s.takeFrames r a fs).2 := by
  induction fs generalizing s a with
  | nil => exact ⟨rfl, rfl⟩
  | cons f fs ih => exact (s.samePower_takeFrame r a f).trans (ih _ _)

@[simp] theorem State.samePower_drift (s : State) (ch ce : Nat) : s.SamePower (s.drift ch ce) := by
  unfold State.drift
  dsimp only
  refine foldl_samePower_trans (fun t x => ?_) (by simp)
  split <;> simp

@[simp] theorem State.samePower_readDone (s : State) (r : Req) (fr : List FrameSense) : s.SamePower (s.readDone r fr) := by
  simp [State.readDone]

@[simp] theorem State.samePower_markProgram (s : State) (r : Req) : s.SamePower (s.markProgram r) := by
  simp [State.markProgram, State.markFrame]

@[simp] theorem State.samePower_featureDone (s : State) (r : Req) (oc : Byte) (param : BitVec 32) :
    s.SamePower (s.featureDone r oc param) := by
  simp [State.featureDone]

@[simp] theorem State.samePower_holdChan (s : State) (ch : Nat) : s.SamePower (s.holdChan ch) := by simp [State.holdChan]

@[simp] theorem State.samePower_checkAt (s : State) (ch cause pc : Nat) : s.SamePower (s.checkAt ch cause pc) := by
  simp [State.checkAt]

@[simp] theorem State.samePower_machineCheck (s : State) (ch cause : Nat) : s.SamePower (s.machineCheck ch cause) := by
  simp [State.machineCheck]

@[simp] theorem State.samePower_seqCheck (s : State) (ch cause : Nat) : s.SamePower (s.seqCheck ch cause) := by
  simp [State.seqCheck]

@[simp] theorem State.samePower_writePatch (s : State) (ch : Nat) : s.SamePower (s.writePatch ch) := by simp [State.writePatch]

@[simp] theorem State.samePower_forgetSets (s : State) (ch : Nat) : s.SamePower (s.forgetSets ch) := by simp [State.forgetSets]

@[simp] theorem State.samePower_cond (s : State) (ch sel : Nat) : s.SamePower (s.cond ch sel).2 := by
  unfold State.cond
  dsimp only
  split
  case h_10 => split <;> simp
  all_goals exact ⟨rfl, rfl⟩

@[simp] theorem State.samePower_conds (s : State) (ch : Nat) (x : W64) : s.SamePower (s.conds ch x).2 := by simp [State.conds]

@[simp] theorem State.samePower_dirGo (s : State) (ch a : Nat) : s.SamePower (s.dirGo ch a) := by simp [State.dirGo]

@[simp] theorem State.samePower_dirNext (s : State) (ch : Nat) (x : W64) : s.SamePower (s.dirNext ch x) := by
  unfold State.dirNext
  dsimp only
  split
  · simp
  split <;> simp

@[simp] theorem State.samePower_seqOp (s : State) (ch : Nat) (x : W64) : s.SamePower (s.seqOp ch x) := by
  unfold State.seqOp
  dsimp only
  split <;> simp

@[simp] theorem State.keepsPower_dirStep {s : State} {ch : Nat} {w : W64} {act : Nat} {f : State → Nat → State}
    (hf : ∀ (s : State) n, s.SamePower (f s n)) : s.KeepsPower (s.dirStep ch w act f) := by
  unfold State.dirStep
  simp [hf]

@[simp] theorem State.samePower_dirTake (s : State) (ch : Nat) : s.SamePower (s.dirTake ch) := by
  unfold State.dirTake
  dsimp only
  split
  · simp
  split
  · split <;> simp
  split <;> simp

@[simp] theorem State.samePower_dirComplete (s : State) (ch : Nat) : s.SamePower (s.dirComplete ch) := by
  unfold State.dirComplete
  dsimp only
  split
  · simp
  split
  · simp
  split <;> simp

@[simp] theorem State.samePower_updOp (s : State) (ch : Nat) (f : DieOp → DieOp) : s.SamePower (s.updOp ch f) := by
  unfold State.updOp
  dsimp only
  split <;> simp

@[simp] theorem keepsPower_execDirStartTimer (s : State) (ch : Nat) (w : W64) : s.KeepsPower (execDirStartTimer ch w s) := by
  unfold execDirStartTimer
  dsimp only
  refine State.keepsPower_dirStep (fun s n => ?_)
  split <;> simp

@[simp] theorem keepsPower_execDirRequestLdpcSlot (s : State) (ch : Nat) (w : W64) :
    s.KeepsPower (execDirRequestLdpcSlot ch w s) := by
  unfold execDirRequestLdpcSlot
  refine State.keepsPower_dirStep (fun s n => ?_)
  split <;> simp

@[simp] theorem keepsPower_execDirSetDurableMarks (s : State) (ch : Nat) (w : W64) :
    s.KeepsPower (execDirSetDurableMarks ch w s) := by
  unfold execDirSetDurableMarks
  refine State.keepsPower_dirStep (fun s n => ?_)
  split <;> simp

@[simp] theorem State.samePower_seqGo (s : State) (ch a : Nat) : s.SamePower (s.seqGo ch a) := by simp [State.seqGo]

@[simp] theorem State.samePower_addrByte (s : State) (ch i : Nat) : s.SamePower (s.addrByte ch i).2 := by
  unfold State.addrByte
  dsimp only
  split <;> simp

@[simp] theorem State.samePower_tookCommand (s : State) (ch b : Nat) : s.SamePower (s.tookCommand ch b) := by
  simp [State.tookCommand]

theorem State.keepsPower_seqStep {s : State} {ch : Nat} {w : BitVec 32} {op : Nat} {f : SeqEff}
    (hf : ∀ (s : State) x, s.SamePower (f s x).1) : s.KeepsPower (s.seqStep ch w op f) := by
  unfold State.seqStep
  rw [State.keepsPower_next]
  dsimp only
  split
  · exact ⟨rfl, rfl⟩
  split
  · simp
  split
  · simp
  split
  · exact ⟨rfl, rfl⟩
  have done := (s.samePower_setChan ch { s.chan ch with xfer := false }).trans (hf _ (s.seqWord ch w))
  split
  next h => rw [h] at done; exact done
  next h => rw [h] at done; exact State.SamePower.trans done (by simp)

/-- A word that continues at the next address. -/
theorem State.keepsPower_seqPlain {s : State} {ch : Nat} {w : BitVec 32} {op : Nat} {g : State → W64 → State}
    (hg : ∀ (s : State) x, s.SamePower (g s x)) : s.KeepsPower (s.seqStep ch w op (seqPlain ch g)) :=
  State.keepsPower_seqStep hg

section
variable (ch : Nat) (w : BitVec 32) (s : State)

@[simp] theorem keepsPower_execSeqIdle : s.KeepsPower (execSeqIdle ch w s) := State.keepsPower_seqPlain fun _ _ => ⟨rfl, rfl⟩

@[simp] theorem keepsPower_execSeqCommandCycle : s.KeepsPower (execSeqCommandCycle ch w s) :=
  State.keepsPower_seqPlain fun u x => by simp

@[simp] theorem keepsPower_execSeqAddressCycle : s.KeepsPower (execSeqAddressCycle ch w s) := by
  refine State.keepsPower_seqPlain fun u x => ?_
  dsimp only
  split <;> simp

@[simp] theorem keepsPower_execSeqDataInput : s.KeepsPower (execSeqDataInput ch w s) := by
  refine State.keepsPower_seqStep fun u x => ?_
  dsimp only
  split
  · split
    · split <;> simp
    · exact ⟨rfl, rfl⟩
  · exact ⟨rfl, rfl⟩

@[simp] theorem keepsPower_execSeqDataOutput (fr) : s.KeepsPower (execSeqDataOutput ch w fr s) := by
  refine State.keepsPower_seqPlain fun u x => ?_
  dsimp only
  split <;> simp

@[simp] theorem keepsPower_execSeqStatusRead (st) : s.KeepsPower (execSeqStatusRead ch w st s) := by
  refine State.keepsPower_seqPlain fun u x => ?_
  dsimp only
  split
  · split <;> simp
  · simp

@[simp] theorem keepsPower_execSeqCall : s.KeepsPower (execSeqCall ch w s) := by
  refine State.keepsPower_seqStep fun u x => ?_
  dsimp only
  split <;> simp

@[simp] theorem keepsPower_execSeqReturn : s.KeepsPower (execSeqReturn ch w s) := by
  refine State.keepsPower_seqStep fun u x => ?_
  dsimp only
  split <;> simp

@[simp] theorem keepsPower_execSeqJump : s.KeepsPower (execSeqJump ch w s) := State.keepsPower_seqStep fun _ _ => ⟨rfl, rfl⟩

@[simp] theorem keepsPower_execSeqChipEnable : s.KeepsPower (execSeqChipEnable ch w s) :=
  State.keepsPower_seqPlain fun u x => by simp

@[simp] theorem keepsPower_execSeqWaitBusGrant : s.KeepsPower (execSeqWaitBusGrant ch w s) :=
  State.keepsPower_seqPlain fun u x => by simp
end

end Sys2Proof.Machine
end

section
/-! what keeps the power states: the almanac, the pattern store, domes and temperature -/

namespace Sys2Proof.Machine

@[simp] theorem State.samePower_startWake (s : State) (d : Nat) (votes : List (CoreId × Ticket)) :
    s.SamePower (s.startWake d votes) := by
  simp [State.startWake]

@[simp] theorem State.samePower_almDrop (s : State) (r : AlmRec) (q : List AlmRec) : s.SamePower (s.almDrop r q) := by
  unfold State.almDrop
  dsimp only
  split <;> simp

@[simp] theorem State.samePower_almStore (s : State) (r : AlmRec) (q : List AlmRec) : s.SamePower (s.almStore r q) := by
  simp [State.almStore]

@[simp] theorem State.samePower_almFull (s : State) : s.SamePower s.almFull := by simp [State.almFull]

@[simp] theorem keepsPower_execAlmanacWrite (s : State) : s.KeepsPower (execAlmanacWrite s) := by
  unfold execAlmanacWrite
  dsimp only
  split <;> simp

@[simp] theorem keepsPower_execAlmanacRecordDone (s : State) (c : CoreId) (t : Ticket) :
    s.KeepsPower (execAlmanacRecordDone c t s) := by
  unfold execAlmanacRecordDone
  dsimp only
  split <;> simp

@[simp] theorem State.samePower_arecTake (s : State) (r : Req) : s.SamePower (s.arecTake r) := by simp [State.arecTake]

@[simp] theorem State.samePower_copyHealth (s : State) : s.SamePower s.copyHealth := by simp [State.copyHealth]

@[simp] theorem State.samePower_residentRecord (s : State) (params : List W64) : s.SamePower (s.residentRecord params) := by
  simp [State.residentRecord]

@[simp] theorem keepsPower_execParityDone (s : State) (c : CoreId) (t : Ticket) : s.KeepsPower (execParityDone c t s) := by
  unfold execParityDone
  dsimp only
  refine keepsPower_onReq (fun r => ?_)
  split <;> simp

@[simp] theorem keepsPower_execParityCheckDone (s : State) (c : CoreId) (t : Ticket) :
    s.KeepsPower (execParityCheckDone c t s) := by
  unfold execParityCheckDone
  dsimp only
  refine keepsPower_onReq (fun r => ?_)
  split
  · refine State.samePower_withRead (fun s => ?_)
    split
    · simp
    split <;> simp
  · simp

@[simp] theorem State.samePower_norWrite (s : State) (a : Nat) (bs : List Byte) : s.SamePower (s.norWrite a bs) := by
  simp [State.norWrite]

@[simp] theorem State.samePower_norErase (s : State) (a : Nat) : s.SamePower (s.norErase a) := by simp [State.norErase]

@[simp] theorem State.samePower_intentWrite (s : State) (a seq kind sec : Nat) :
    s.SamePower (s.intentWrite a seq kind sec) := by
  simp [State.intentWrite]

@[simp] theorem State.samePower_intentPlace (s : State) : s.SamePower s.intentPlace.1 := by
  unfold State.intentPlace
  split
  dsimp only
  split
  · exact ⟨rfl, rfl⟩
  · refine (State.SamePower.trans (samePower_ite ?_ ⟨rfl, rfl⟩) (State.samePower_norErase _ _)).trans
      (State.samePower_intentWrite _ _ _ _ _)
    exact State.samePower_intentWrite _ _ _ _ _

@[simp] theorem State.samePower_eraseUnder (s : State) (a : Nat) : s.SamePower (s.eraseUnder a) := by
  unfold State.eraseUnder
  have placed := s.samePower_intentPlace
  split
  next t base k seq h =>
  rw [h] at placed
  exact (State.SamePower.trans placed (State.samePower_intentWrite _ _ _ _ _)).trans
    ((State.samePower_norErase _ _).trans (State.samePower_intentWrite _ _ _ _ _))

@[simp] theorem State.samePower_recoverIntent (s : State) : s.SamePower s.recoverIntent := by
  unfold State.recoverIntent
  split
  · refine samePower_ite ?_ ⟨rfl, rfl⟩
    have placed (n : Nat) : s.SamePower (s.norErase n).intentPlace.1 :=
      (s.samePower_norErase n).trans (State.samePower_intentPlace _)
    extract_lets sec
    split
    next h =>
    have placed := placed (sec * 0x40000)
    rw [h] at placed
    exact State.SamePower.trans placed (State.samePower_intentWrite _ _ _ _ _)
  · exact ⟨rfl, rfl⟩

@[simp] theorem State.samePower_twinWrite (s : State) (base : Nat) (bs : List Byte) : s.SamePower (s.twinWrite base bs) := by
  simp [State.twinWrite]

@[simp] theorem State.samePower_selectBoth (s : State) (boot b : Nat) : s.SamePower (s.selectBoth boot b) := by
  unfold State.selectBoth
  split
  refine samePower_ite (State.samePower_norWrite _ _ _) ?_
  exact (State.samePower_eraseUnder _ _).trans (State.samePower_norWrite _ _ _)

@[simp] theorem State.samePower_setSvn (s : State) (k v : Nat) : s.SamePower (s.setSvn k v) := by simp [State.setSvn]

@[simp] theorem State.samePower_firstRun (s : State) (m : RunImage) : s.SamePower (s.firstRun m) := by simp [State.firstRun]

@[simp] theorem State.samePower_dropStage (s : State) (f : Nat) : s.SamePower (s.dropStage f) := by
  unfold State.dropStage
  dsimp only
  split <;> simp

@[simp] theorem State.samePower_settleHandover (s : State) (k : W64) (dw0 : Nat) (st : BitVec 15) :
    s.SamePower (s.settleHandover k dw0 st) := by
  unfold State.settleHandover
  split <;> simp

@[simp] theorem State.samePower_dropHandover (s : State) : s.SamePower s.dropHandover := by
  unfold State.dropHandover
  dsimp only
  split <;> simp

@[simp] theorem State.samePower_handoverBoundary (s : State) : s.SamePower s.handoverBoundary := by
  unfold State.handoverBoundary
  dsimp only
  split <;> simp

@[simp] theorem State.samePower_domeEvents (s : State) (d kind num : Nat) (cs : List Nat) :
    s.SamePower (s.domeEvents d kind num cs) := by
  simp [State.domeEvents, State.domeEvent]

@[simp] theorem State.samePower_setEntry (s : State) (d : Nat) (e : Option DomeEntry) : s.SamePower (s.setEntry d e) := by
  simp [State.setEntry]

@[simp] theorem State.samePower_closeVote (s : State) (d : Nat) : s.SamePower (s.closeVote d) := by simp [State.closeVote]

@[simp] theorem State.samePower_abortEntry (s : State) (d : Nat) (e : DomeEntry) (party w2 : Nat) :
    s.SamePower (s.abortEntry d e party w2) := by
  unfold State.abortEntry
  dsimp only
  split <;> simp

@[simp] theorem State.samePower_tryCommit (s : State) (d : Nat) (e : DomeEntry) : s.SamePower (s.tryCommit d e) := by
  simp [State.tryCommit]

@[simp] theorem State.samePower_voteTake (s : State) (r : Req) : s.SamePower (s.voteTake r) := by
  unfold State.voteTake
  dsimp only
  refine samePower_ite (by simp) (samePower_ite ?_ (samePower_ite (by simp) (samePower_ite (by simp) (samePower_ite ?_
    (samePower_ite (by simp) (samePower_ite (by simp) ?_))))))
  · split
    · exact (s.samePower_abortEntry _ _ _ _).trans (State.samePower_complete _ _ _ _)
    · exact ⟨rfl, rfl⟩
  · exact (s.samePower_setReq _).trans (State.samePower_startWake _ _ _)
  have taken : s.SamePower (s.takeFree.2.setReq { r with phase := .started }) := by simp
  refine samePower_ite (samePower_ite ?_ ?_) (samePower_ite ?_ ?_)
  · exact taken.trans (State.samePower_tryCommit _ _ _)
  · exact taken.trans (State.samePower_abortEntry _ _ _ _ _)
  · refine State.SamePower.trans ?_ (State.samePower_tryCommit _ _ _)
    simp
  · simp

@[simp] theorem keepsPower_execVack (s : State) (c : CoreId) (x2 b d : GReg) : s.KeepsPower (execVack c x2 b d s) := by
  unfold execVack
  dsimp only
  refine keepsPower_onCore (fun s => ?_)
  split <;> simp

@[simp] theorem keepsPower_execQuiesceTimeout (s : State) (d : Nat) : s.KeepsPower (execQuiesceTimeout d s) := by
  unfold execQuiesceTimeout
  split
  · split
    · simp
    · split <;> simp
  · simp

@[simp] theorem State.samePower_domeDown (s : State) (d st : Nat) : s.SamePower (s.domeDown d st) := by simp [State.domeDown]

@[simp] theorem State.samePower_followBanks (s : State) : s.SamePower s.followBanks := by simp [State.followBanks]

@[simp] theorem keepsPower_execDomeEntryDone (s : State) (d : Nat) : s.KeepsPower (execDomeEntryDone d s) := by
  unfold execDomeEntryDone
  dsimp only
  split
  · split
    · simp
    · split
      · split <;> simp
      · split <;> simp
  · simp

@[simp] theorem keepsPower_execDomeWakeDone (s : State) (d : Nat) : s.KeepsPower (execDomeWakeDone d s) := by
  unfold execDomeWakeDone
  dsimp only
  split
  · split
    · rw [State.keepsPower_next]
      refine foldl_samePower_trans (fun t x => ?_) (by simp)
      split <;> simp
    · rw [State.keepsPower_next]
      refine foldl_samePower_trans (fun t x => ?_) (by simp)
      split <;> simp
  · simp

@[simp] theorem State.samePower_wakeDome (s : State) (src d : Nat) (phase : CommitPhase) :
    s.SamePower (s.wakeDome src d phase) := by
  unfold State.wakeDome
  dsimp only
  split
  · simp
  split <;> simp

@[simp] theorem State.samePower_wakeAll (s : State) (src : Nat) (phase : CommitPhase) : s.SamePower (s.wakeAll src phase) := by
  simp [State.wakeAll]

@[simp] theorem State.samePower_levelSource (s : State) (src : Nat) : s.SamePower (s.levelSource src) := by
  simp [State.levelSource]

@[simp] theorem State.samePower_thermEvent (s : State) (kind : Nat) : s.SamePower (s.thermEvent kind) := by
  simp [State.thermEvent]

@[simp] theorem State.samePower_sensorRead (s : State) (n : Nat) : s.SamePower (s.sensorRead n) := by simp [State.sensorRead]

@[simp] theorem State.samePower_sampleOne (s : State) (n : Nat) (t : BitVec 16) : s.SamePower (s.sampleOne n t) := by
  simp [State.sampleOne]

@[simp] theorem State.samePower_sampleAll (s : State) (n : Nat) (ts : List (BitVec 16)) : s.SamePower (s.sampleAll n ts) := by
  induction ts generalizing s n with
  | nil => exact ⟨rfl, rfl⟩
  | cons t ts ih => exact (s.samePower_sampleOne n t).trans (ih _ _)

@[simp] theorem State.samePower_noteDie (s : State) (t : Int) : s.SamePower (s.noteDie t) := by simp [State.noteDie]

@[simp] theorem State.samePower_thermalTrip (s : State) : s.SamePower s.thermalTrip := by simp [State.thermalTrip]

@[simp] theorem keepsPower_execSensorSample (s : State) (temps : List (BitVec 16)) :
    s.KeepsPower (execSensorSample temps s) := by
  unfold execSensorSample
  dsimp only
  split
  · simp
  split <;> simp

@[simp] theorem State.samePower_setGap (s : State) (gprog ghw : Nat) : s.SamePower (s.setGap gprog ghw) := by
  simp [State.setGap]

@[simp] theorem State.samePower_orderlyStop (s : State) : s.SamePower s.orderlyStop := by simp [State.orderlyStop]

@[simp] theorem State.samePower_followCool (s : State) : s.SamePower s.followCool := by simp [State.followCool]

@[simp] theorem State.samePower_pkgWrite (s : State) (n : Nat) (v : W64) : s.SamePower (s.pkgWrite n v) := by
  simp [State.pkgWrite]

@[simp] theorem State.samePower_gprogFor (s : State) : s.SamePower s.gprogFor.2 := by
  unfold State.gprogFor
  dsimp only
  split
  · split <;> simp
  · simp

@[simp] theorem keepsPower_execOrderlyStopResume (s : State) : s.KeepsPower (execOrderlyStopResume s) := by
  unfold execOrderlyStopResume
  dsimp only
  split <;> simp

@[simp] theorem State.samePower_testTick (s : State) : s.SamePower s.testTick := by
  unfold State.testTick
  dsimp only
  split <;> simp

@[simp] theorem State.samePower_setSport (s : State) (p : Nat) (x : SpanPort) : s.SamePower (s.setSport p x) := by
  simp [State.setSport]

@[simp] theorem State.samePower_slowLinks (s : State) (slow : Bool) : s.SamePower (s.slowLinks slow) := by
  unfold State.slowLinks
  dsimp only
  split
  · simp
  refine foldl_samePower_trans (fun t x => ?_) (by simp)
  split <;> simp

@[simp] theorem State.samePower_powerDram (s : State) (ps : Nat) : s.SamePower (s.powerDram ps) := by simp [State.powerDram]

@[simp] theorem keepsPower_execCqHeadDoorbell (s : State) (func y : Nat) (v : BitVec 32) :
    s.KeepsPower (execCqHeadDoorbell func y v s) := by
  unfold execCqHeadDoorbell
  split <;> simp

theorem State.samePower_armHaz {s : State} {e : BitVec 512} : ∀ {x : Nat × State}, s.armHaz e = some x → s.SamePower x.2 := by
  unfold State.armHaz
  dsimp only
  split <;> simp

@[simp] theorem State.samePower_chargeFetch (s : State) (h : Nat) (a : Arb) : s.SamePower (s.chargeFetch h a) := by
  simp [State.chargeFetch]

@[simp] theorem State.samePower_endWait (s : State) (d : Cmd) : s.SamePower (s.endWait d) := by
  unfold State.endWait
  split <;> simp

@[simp] theorem State.samePower_startReset (s : State) (kind f : Nat) (slice : Option Nat) (srst : Nat) :
    s.SamePower (s.startReset kind f slice srst) := by
  simp [State.startReset]

@[simp] theorem State.samePower_dropQueues (s : State) (x : Reset) : s.SamePower (s.dropQueues x) := by simp [State.dropQueues]

@[simp] theorem keepsPower_execResetEnd (s : State) (tok : BitVec 15) : s.KeepsPower (execResetEnd tok s) := by
  unfold execResetEnd
  dsimp only
  split
  · simp
  split
  · simp
  split <;> simp

end Sys2Proof.Machine
end

section
/-! what keeps the power states: the Span block, members and volumes -/

namespace Sys2Proof.Machine

@[simp] theorem keepsPower_execConfigurationRequest (s : State) (func : Nat) (op : CfgOp) :
    s.KeepsPower (execConfigurationRequest func op s) := by
  unfold execConfigurationRequest
  dsimp only
  split
  · simp
  split
  · simp
  split <;> simp

@[simp] theorem State.samePower_setLink (s : State) (p st : Nat) : s.SamePower (s.setLink p st) := by simp [State.setLink]

@[simp] theorem State.samePower_countDrop (s : State) (p : Nat) : s.SamePower (s.countDrop p) := by simp [State.countDrop]

@[simp] theorem State.samePower_pumpPort (s : State) (p : Nat) : s.SamePower (s.pumpPort p) := by simp [State.pumpPort]

@[simp] theorem State.samePower_sendMsg (s : State) (p : Nat) (m : SpanMsg) : s.SamePower (s.sendMsg p m) := by
  simp [State.sendMsg]

@[simp] theorem State.samePower_creditBack (s : State) (p : Nat) (m : SpanMsg) : s.SamePower (s.creditBack p m) := by
  simp [State.creditBack]

@[simp] theorem State.samePower_retrain (s : State) (p : Nat) : s.SamePower (s.retrain p) := by simp [State.retrain]

@[simp] theorem State.samePower_sendBack (s : State) (p : Nat) (m : SpanMsg) : s.SamePower (s.sendBack p m) := by
  unfold State.sendBack
  split
  · split <;> simp
  · simp

@[simp] theorem State.samePower_postManagers (s : State) (typ : Nat) (hw : List W64) (payload : List Byte) (avoid : Option Nat)
    : s.SamePower (s.postManagers typ hw payload avoid) := by
  unfold State.postManagers
  dsimp only
  refine foldl_samePower_trans (fun t x => ?_) (by simp)
  split <;> simp

@[simp] theorem State.samePower_forwardMsg (s : State) (p : Nat) (m : SpanMsg) : s.SamePower (s.forwardMsg p m) := by
  unfold State.forwardMsg
  split
  · split <;> simp
  split
  · split <;> simp
  · simp

@[simp] theorem keepsPower_onMsgTry {s : State} {p : Nat} {m : SpanMsg} {ok : Bool} {f : State → Option State}
    (hf : ∀ s t : State, f s = some t → s.SamePower t) : s.KeepsPower (onMsgTry s p m ok f) := by
  unfold onMsgTry
  rw [State.keepsPower_next]
  split
  · exact ⟨rfl, rfl⟩
  · split
    · split
      next t h => exact (hf s t h).trans (by simp)
      next => exact ⟨rfl, rfl⟩
    · simp

@[simp] theorem keepsPower_onMsg {s : State} {p : Nat} {m : SpanMsg} {ok : Bool} {f : State → State}
    (hf : ∀ s : State, s.SamePower (f s)) : s.KeepsPower (onMsg s p m ok f) :=
  keepsPower_onMsgTry (fun s t h => by cases h; exact hf s)

@[simp] theorem State.samePower_sreqTake (s : State) (r : Req) : s.SamePower (s.sreqTake r) := by
  unfold State.sreqTake
  dsimp only
  split
  · simp
  split <;> simp

@[simp] theorem State.samePower_endTx (s : State) (x : SpanTx) (oc : Byte) (ws : List W64) : s.SamePower (s.endTx x oc ws) := by
  unfold State.endTx
  dsimp only
  split <;> simp

@[simp] theorem State.samePower_applyCredit (s : State) (w : W64) (setsP : Bool) : s.SamePower (s.applyCredit w setsP) := by
  simp [State.applyCredit, State.takeRem]

@[simp] theorem State.samePower_portAnswer (s : State) (p : Nat) (m : SpanMsg) (status : Nat) :
    s.SamePower (s.portAnswer p m status) := by
  simp [State.portAnswer]

theorem State.samePower_spanNew {s t : State} {p : Nat} {m : SpanMsg} (h : s.spanNew p m = some t) : s.SamePower t := by
  revert h
  unfold State.spanNew
  dsimp only
  intro h
  split at h
  · cases h
  next v s1 hd =>
  generalize hpay : (if m.payload.isEmpty = true then _ else _) = pay at h
  split at h
  · cases h
  next ph s2 =>
  have paid : s1.SamePower s2 := by
    split at hpay
    · cases hpay; exact ⟨rfl, rfl⟩
    · obtain ⟨x, hx, hs⟩ := Option.map_eq_some_iff.mp hpay
      cases hs
      exact State.samePower_alloc_or hx
  obtain ⟨ds, -, rfl⟩ := Option.map_eq_some_iff.mp h
  have listed : ∀ (u : State) a n ds, u.SamePower (((u.putSpanIn a).putSpanArr n).putDups ds) := fun u a n ds => by simp
  refine (State.samePower_alloc hd).trans (paid.trans (.trans ?_ ((listed _ _ _ _).trans (State.samePower_postWaiting _ _ _))))
  split
  · split
    · exact (State.samePower_writeLoc _ _ _).trans (State.samePower_writeLoc _ _ _)
    · exact State.samePower_writeLoc _ _ _
  · exact State.samePower_writeLoc _ _ _

@[simp] theorem State.samePower_resend (s : State) (p : Nat) (m : SpanMsg) (e : DupEntry) : s.SamePower (s.resend p m e) := by
  unfold State.resend
  split <;> simp

@[simp] theorem keepsPower_execSpanArrival (s : State) (p : Nat) (m : SpanMsg) : s.KeepsPower (execSpanArrival p m s) := by
  refine keepsPower_onMsgTry (fun s t => ?_)
  dsimp only
  refine some_of_ite ?_ (some_of_ite ?_ (some_of_ite ?_ fun h => ?_))
  · intro h; cases h; simp
  · intro h; cases h; simp
  · intro h; cases h; simp
  generalize hu : (if FMap.get (fun _ => 0) s.dupGen m.src.toNat < m.gen.toNat then _ else s) = u at h
  have noted : s.SamePower u := by rw [← hu]; split <;> simp
  split at h
  · cases h
    refine noted.trans ?_
    split <;> simp
  · revert h
    refine some_of_ite ?_ (some_of_ite ?_ fun h => noted.trans (State.samePower_spanNew h))
    · intro h; cases h; exact noted.trans (by simp)
    · intro h; cases h; exact noted.trans (by simp)

@[simp] theorem State.samePower_answer (s : State) (a : SpanArr) (status : Nat) (hw : List W64) (payload : List Byte) :
    s.SamePower (s.answer a status hw payload) := by
  simp [State.answer, State.rlogAppend]

@[simp] theorem State.samePower_srespTake (s : State) (r : Req) : s.SamePower (s.srespTake r) := by
  unfold State.srespTake
  dsimp only
  split <;> simp

@[simp] theorem State.samePower_resendVia (s : State) (p : Nat) : s.SamePower (s.resendVia p) := by
  unfold State.resendVia
  refine foldl_samePower_trans (fun t x => ?_) (by simp)
  split <;> simp

@[simp] theorem State.samePower_resendOwn (s : State) (p : Nat) : s.SamePower (s.resendOwn p) := by
  unfold State.resendOwn
  dsimp only
  refine foldl_samePower_trans (fun t x => ?_) (by simp)
  split <;> simp

@[simp] theorem State.samePower_postRestart (s : State) : s.SamePower s.postRestart := by
  unfold State.postRestart
  dsimp only
  refine foldl_samePower_trans (fun t x => ?_) (by simp)
  split
  · simp
  split <;> simp

@[simp] theorem State.samePower_linkDown (s : State) (p st : Nat) : s.SamePower (s.linkDown p st) := by
  simp [State.linkDown, State.exchangeRoutes]

@[simp] theorem State.samePower_enumerate (s : State) (p : Nat) : s.SamePower (s.enumerate p) := by simp [State.enumerate]

@[simp] theorem State.samePower_slinkTake (s : State) (r : Req) : s.SamePower (s.slinkTake r) := by
  unfold State.slinkTake
  dsimp only
  split <;> simp

@[simp] theorem State.samePower_disablePort (s : State) (p : Nat) : s.SamePower (s.disablePort p) := by simp [State.disablePort]

@[simp] theorem State.samePower_setGroup (s : State) (g : Nat) (x : AnaGroup) : s.SamePower (s.setGroup g x) := by
  simp [State.setGroup]

@[simp] theorem State.samePower_setEncl (s : State) (id : W64) (who : Nat) : s.SamePower (s.setEncl id who) := by
  simp [State.setEncl]

@[simp] theorem State.samePower_settleEncl (s : State) (peer : Option EnumMember) (workers : List EnumMember) :
    s.SamePower (s.settleEncl peer workers).2 := by
  unfold State.settleEncl
  split
  · simp
  split <;> simp

@[simp] theorem State.samePower_confirmManager (s : State) (peer : Option EnumMember) (workers : List EnumMember) :
    s.SamePower (s.confirmManager peer workers) := by
  simp [State.confirmManager]

@[simp] theorem State.samePower_confirmAlone (s : State) : s.SamePower s.confirmAlone := by simp [State.confirmAlone]

@[simp] theorem keepsPower_execHorizonSlotWrite (s : State) (p : Nat) (m : SpanMsg) :
    s.KeepsPower (execHorizonSlotWrite p m s) := by
  unfold execHorizonSlotWrite
  dsimp only
  split
  · refine keepsPower_onMsg (fun s => ?_)
    split
    · simp
    split <;> simp
  refine keepsPower_onMsg (fun s => ?_)
  split
  · simp
  split <;> simp

@[simp] theorem State.samePower_putLayout (s : State) (l : Layout) : s.SamePower (s.putLayout l) := by simp [State.putLayout]

@[simp] theorem State.samePower_setZtab (s : State) (z : Nat) (v : W64) : s.SamePower (s.setZtab z v) := by simp [State.setZtab]

@[simp] theorem State.samePower_rsendFor (s : State) (gather : Option Nat) (horizon dst typ flags : Nat) (level : BitVec 3)
    (hw : List W64) (payload : List Byte) : s.SamePower (s.rsendFor gather horizon dst typ flags level hw payload) := by
  unfold State.rsendFor
  dsimp only
  split <;> simp

@[simp] theorem State.samePower_rsendAt (s : State) (horizon dst typ flags : Nat) (level : BitVec 3) (hw : List W64)
    (payload : List Byte) : s.SamePower (s.rsendAt horizon dst typ flags level hw payload) := by
  simp [State.rsendAt]

@[simp] theorem State.samePower_rsend (s : State) (dst typ flags : Nat) (level : BitVec 3) (hw : List W64) (payload : List Byte)
    : s.SamePower (s.rsend dst typ flags level hw payload) := by
  simp [State.rsend]

@[simp] theorem State.samePower_gwriteAgain (s : State) (dst flags : Nat) (level : BitVec 3) (hw : List W64)
    (payload : List Byte) : s.SamePower (s.gwriteAgain dst flags level hw payload) := by
  unfold State.gwriteAgain
  dsimp only
  split <;> simp

@[simp] theorem State.samePower_ckpt (s : State) (kind : Nat) (payload : List Byte) : s.SamePower (s.ckpt kind payload) := by
  simp [State.ckpt]

@[simp] theorem State.samePower_changeLayout (s : State) (l : Layout) : s.SamePower (s.changeLayout l) := by
  simp [State.changeLayout]

@[simp] theorem State.samePower_changeZtab (s : State) (v z : Nat) (e : W64) : s.SamePower (s.changeZtab v z e) := by
  simp [State.changeZtab]

@[simp] theorem State.samePower_putSlot (s : State) (i : Nat) (e : JEntry) : s.SamePower (s.putSlot i e) := by
  simp [State.putSlot]

@[simp] theorem State.samePower_freeSlot (s : State) (i : Nat) : s.SamePower (s.freeSlot i) := by simp [State.freeSlot]

@[simp] theorem State.samePower_zoneRecord (s : State) (l : Layout) (z op first grains : Nat) (seq token : W64) (bad : Bool) :
    s.SamePower (s.zoneRecord l z op first grains seq token bad) := by
  simp [State.zoneRecord]

@[simp] theorem State.samePower_seal (s : State) (l : Layout) (z st slot : Nat) : s.SamePower (s.seal l z st slot) := by
  simp [State.seal]

@[simp] theorem State.samePower_freeSealed (s : State) (v z : Nat) : s.SamePower (s.freeSealed v z) := by
  unfold State.freeSealed
  split
  · simp
  refine foldl_samePower_trans (fun t x => ?_) (by simp)
  split <;> simp

@[simp] theorem State.samePower_actionOn (s : State) (l : Layout) (z op : Nat) (ms : List Nat) :
    s.SamePower (s.actionOn l z op ms) := by
  unfold State.actionOn
  dsimp only
  split <;> simp

@[simp] theorem State.samePower_memberAction (s : State) (l : Layout) (z op : Nat) : s.SamePower (s.memberAction l z op) := by
  simp [State.memberAction]

@[simp] theorem State.samePower_actionDone (s : State) (x : ResTx) : s.SamePower (s.actionDone x) := by
  unfold State.actionDone
  dsimp only
  refine foldl_samePower_trans (fun t x => ?_) (by simp)
  split <;> simp

@[simp] theorem State.samePower_afterRecord (s : State) (v z op : Nat) : s.SamePower (s.afterRecord v z op) := by
  unfold State.afterRecord
  split <;> simp

@[simp] theorem State.samePower_recordDone (s : State) (x : ResTx) : s.SamePower (s.recordDone x) := by
  unfold State.recordDone
  split <;> simp

@[simp] theorem State.samePower_mirrorAction (s : State) (l : Layout) (z op : Nat) : s.SamePower (s.mirrorAction l z op) := by
  simp [State.mirrorAction]

@[simp] theorem State.samePower_freeGrains (s : State) (n : Nat) : s.SamePower (s.freeGrains n).2 := by
  induction n generalizing s with
  | zero => exact ⟨rfl, rfl⟩
  | succ n ih => exact (s.samePower_freeBytes 4096).trans (ih _)

@[simp] theorem State.samePower_gatherAdd (s : State) (l : Layout) (z o : Nat) (gs : List (List Byte)) :
    s.SamePower (s.gatherAdd l z o gs) := by
  simp [State.gatherAdd]

@[simp] theorem State.samePower_gatherFrom (s : State) (l : Layout) (z o n : Nat) (copies : List (Nat × Nat)) :
    s.SamePower (s.gatherFrom l z o n copies) := by
  unfold State.gatherFrom
  dsimp only
  split <;> simp

@[simp] theorem State.samePower_gatherZone (s : State) (l : Layout) (z : Nat) : s.SamePower (s.gatherZone l z) := by
  simp [State.gatherZone]

@[simp] theorem State.samePower_groupReady (s : State) (g : Nat) : s.SamePower (s.groupReady g) := by simp [State.groupReady]

@[simp] theorem State.samePower_gathered (s : State) (x : ResTx) (o : Nat) (grains : Option (List (List Byte))) :
    s.SamePower (s.gathered x o grains) := by
  unfold State.gathered
  dsimp only
  split
  · simp
  split <;> simp

@[simp] theorem State.samePower_gatherGroup (s : State) (g : Nat) : s.SamePower (s.gatherGroup g) := by simp [State.gatherGroup]

@[simp] theorem State.samePower_settleSlot (s : State) (i : Nat) : s.SamePower (s.settleSlot i) := by
  unfold State.settleSlot
  dsimp only
  split
  · simp
  split <;> simp

@[simp] theorem State.samePower_settleHalf (s : State) (side : Nat) : s.SamePower (s.settleHalf side) := by
  simp [State.settleHalf]

@[simp] theorem State.samePower_setMember (s : State) (m : Nat) (x : Option Member) : s.SamePower (s.setMember m x) := by
  simp [State.setMember]

@[simp] theorem State.samePower_disableSpan (s : State) : s.SamePower s.disableSpan := by simp [State.disableSpan]

@[simp] theorem State.samePower_managerRoutes (s : State) : s.SamePower s.managerRoutes := by simp [State.managerRoutes]

@[simp] theorem State.samePower_enumWorker (s : State) (p : Nat) (ms : List EnumMember) (peerHop : Option Nat) (hop : Nat)
    (e : EnumMember) : s.SamePower (s.enumWorker p ms peerHop hop e) := by
  unfold State.enumWorker
  dsimp only
  split
  · simp
  split <;> simp

@[simp] theorem State.samePower_replayZone (s : State) (l : Layout) (z : Nat) : s.SamePower (s.replayZone l z) := by
  simp [State.replayZone]

@[simp] theorem State.samePower_replay (s : State) : s.SamePower s.replay := by simp [State.replay]

@[simp] theorem State.samePower_meetPeer (s : State) (p hop : Nat) (took : Bool) : s.SamePower (s.meetPeer p hop took) := by
  simp [State.meetPeer]

@[simp] theorem State.samePower_settleOwn (s : State) : s.SamePower s.settleOwn := by simp [State.settleOwn]

@[simp] theorem keepsPower_execChainEnumeration (s : State) (p : Nat) (ms : List EnumMember) :
    s.KeepsPower (execChainEnumeration p ms s) := by
  unfold execChainEnumeration
  dsimp only
  split
  · simp
  split <;> simp

@[simp] theorem State.samePower_removeMember (s : State) (m : Nat) : s.SamePower (s.removeMember m) := by
  simp [State.removeMember]

@[simp] theorem State.samePower_takeOver (s : State) : s.SamePower s.takeOver := by simp [State.takeOver]

@[simp] theorem State.samePower_resendLost (s : State) (m : Nat) : s.SamePower (s.resendLost m) := by
  unfold State.resendLost
  dsimp only
  refine foldl_samePower_trans (fun t x => ?_) (by simp)
  split
  · simp
  · split <;> simp
  · simp
  · simp
  · simp
  · simp

@[simp] theorem State.samePower_loseMember (s : State) (n : Nat) : s.SamePower (s.loseMember n) := by
  unfold State.loseMember
  dsimp only
  split <;> simp

@[simp] theorem keepsPower_execMemberLost (s : State) (m : BitVec 8) : s.KeepsPower (execMemberLost m s) := by
  unfold execMemberLost
  dsimp only
  split
  · simp
  split
  · simp
  split <;> simp

@[simp] theorem State.samePower_ownGroup (s : State) (g : Nat) : s.SamePower (s.ownGroup g) := by simp [State.ownGroup]

@[simp] theorem State.samePower_recordRead (s : State) (x : ResTx) : s.SamePower (s.recordRead x) := by
  unfold State.recordRead
  dsimp only
  split <;> simp

@[simp] theorem State.samePower_resResponse (s : State) (m : SpanMsg) : s.SamePower (s.resResponse m) := by
  unfold State.resResponse
  dsimp only
  split
  · simp
  split
  · simp
  split
  · split <;> simp
  · simp

@[simp] theorem keepsPower_execSpanResponseArrival (s : State) (p : Nat) (m : SpanMsg) :
    s.KeepsPower (execSpanResponseArrival p m s) := by
  refine keepsPower_onMsg (fun s => ?_)
  dsimp only
  generalize hu : (if m.typ = 5 then s.putPings _ else s) = u
  have pinged : s.SamePower u := by rw [← hu]; split <;> simp
  refine pinged.trans ?_
  cases List.find? _ _ with
  | none => exact State.samePower_resResponse _ _
  | some x =>
  dsimp only
  cases State.txReq _ _ with
  | none => exact ⟨rfl, rfl⟩
  | some r =>
  refine samePower_ite ⟨rfl, rfl⟩ (.trans ?_ (State.samePower_endTx _ _ _ _))
  refine samePower_ite (State.SamePower.trans ?_ (State.samePower_gwriteAgain _ _ _ _ _ _)) ?_
  all_goals refine samePower_ite (State.SamePower.trans ?_ (State.samePower_setRfld _ _ _ _ _)) ?_
  all_goals refine samePower_ite (State.SamePower.trans ?_ (State.samePower_applyCredit _ _ _)) ?_
  all_goals
    refine samePower_ite ⟨rfl, rfl⟩ ?_
    split
    · exact State.samePower_writeLoc _ _ _
    · exact ⟨rfl, rfl⟩

@[simp] theorem keepsPower_execSpanRequestTimeout (s : State) (c : CoreId) (t : Ticket) :
    s.KeepsPower (execSpanRequestTimeout c t s) := by
  unfold execSpanRequestTimeout
  dsimp only
  split
  · simp
  split <;> simp

@[simp] theorem State.samePower_takeEvent (s : State) (e : W64) : s.SamePower (s.takeEvent e) := by simp [State.takeEvent]

theorem keepsPower_onCmdIf_of {ok : Cmd → Bool} {s : State} {k : W64} {admin : Bool} {op : Nat} {f : State → Cmd → State}
    (hf : ∀ (t : State) d, s.SamePower t → s.SamePower (f t d)) : s.KeepsPower (onCmdIf ok s k admin op f) := by
  unfold onCmdIf
  rw [State.keepsPower_next]
  split
  · split
    · exact ⟨rfl, rfl⟩
    split
    · simp
    split
    · simp
    · exact hf _ _ (s.samePower_takeEvent k)
  · exact ⟨rfl, rfl⟩

@[simp] theorem keepsPower_onCmdIf {ok : Cmd → Bool} {s : State} {k : W64} {admin : Bool} {op : Nat} {f : State → Cmd → State}
    (hf : ∀ (s : State) d, s.SamePower (f s d)) : s.KeepsPower (onCmdIf ok s k admin op f) :=
  keepsPower_onCmdIf_of (fun t d ht => ht.trans (hf t d))

theorem keepsPower_onCmd_of {s : State} {k : W64} {admin : Bool} {op : Nat} {f : State → Cmd → State}
    (hf : ∀ (t : State) d, s.SamePower t → s.SamePower (f t d)) : s.KeepsPower (onCmd s k admin op f) :=
  keepsPower_onCmdIf_of hf

@[simp] theorem keepsPower_onCmd {s : State} {k : W64} {admin : Bool} {op : Nat} {f : State → Cmd → State}
    (hf : ∀ (s : State) d, s.SamePower (f s d)) : s.KeepsPower (onCmd s k admin op f) :=
  keepsPower_onCmdIf hf

@[simp] theorem State.samePower_finish (s : State) (d : Cmd) (st : BitVec 15) : s.SamePower (s.finish d st) := by
  simp [State.finish]

@[simp] theorem State.samePower_toHost (s : State) (d : Cmd) (off : Nat) (data : List Byte) :
    s.SamePower (s.toHost d off data) := by
  simp [State.toHost]

@[simp] theorem keepsPower_onArrival {s : State} {e : W64} {typ : Nat} {ok : SpanArr → Bool} {f : State → SpanArr → State}
    (hf : ∀ (s : State) a, s.SamePower (f s a)) : s.KeepsPower (onArrival s e typ ok f) := by
  unfold onArrival
  rw [State.keepsPower_next]
  split
  · simp [hf]
  · exact ⟨rfl, rfl⟩

@[simp] theorem State.samePower_reply (s : State) (a : SpanArr) (status : Nat) (hw : List W64) (payload : List Byte) :
    s.SamePower (s.reply a status hw payload) := by
  unfold State.reply
  dsimp only
  split <;> simp

end Sys2Proof.Machine
end

section
/-! what keeps the power states: admin commands and namespaces -/

namespace Sys2Proof.Machine

@[simp] theorem State.samePower_takeNumbers (s : State) (extra n : Nat) : s.SamePower (s.takeNumbers extra n).2 := by
  simp [State.takeNumbers]

@[simp] theorem State.samePower_storeFrame (s : State) (w : W64) (bs : List Byte) : s.SamePower (s.storeFrame w bs) := by
  simp [State.storeFrame]

theorem State.samePower_storeGrains {s : State} {ws : List W64} {gs : List (List Byte × List Byte)} {t : State}
    (h : s.storeGrains ws gs = some t) : s.SamePower t := by
  induction ws generalizing s gs with
  | nil => cases h; exact ⟨rfl, rfl⟩
  | cons w ws ih =>
    cases gs with
    | nil => cases h; exact ⟨rfl, rfl⟩
    | cons g gs =>
      unfold State.storeGrains at h
      split at h
      · exact (s.samePower_storeFrame _ _).trans (ih h)
      · cases h

@[simp] theorem State.samePower_pfOnly {s t : State} {d : Cmd} (ht : s.SamePower t) : s.SamePower (s.pfOnly d t) := by
  unfold State.pfOnly
  split
  · exact ht
  · simp

@[simp] theorem keepsPower_execCreateIoCq (s : State) (k : W64) : s.KeepsPower (execCreateIoCq k s) := by
  unfold execCreateIoCq
  dsimp only
  refine keepsPower_onCmd (fun s d => ?_)
  split
  · simp
  split
  · simp
  split
  · simp
  split
  · simp
  split <;> simp

@[simp] theorem keepsPower_execCreateIoSq (s : State) (k : W64) : s.KeepsPower (execCreateIoSq k s) := by
  unfold execCreateIoSq
  dsimp only
  refine keepsPower_onCmd (fun s d => ?_)
  split
  · simp
  split
  · simp
  split
  · simp
  split
  · simp
  split <;> simp

@[simp] theorem State.samePower_squashQueue (s : State) (n : Nat) : s.SamePower (s.squashQueue n) := by simp [State.squashQueue]

@[simp] theorem keepsPower_execDeleteIoSq (s : State) (k : W64) : s.KeepsPower (execDeleteIoSq k s) := by
  unfold execDeleteIoSq
  dsimp only
  refine keepsPower_onCmd (fun s d => ?_)
  split <;> simp

@[simp] theorem keepsPower_execDeleteIoCq (s : State) (k : W64) : s.KeepsPower (execDeleteIoCq k s) := by
  unfold execDeleteIoCq
  refine keepsPower_onCmd (fun s d => ?_)
  split <;> simp

@[simp] theorem keepsPower_onSecondary {s : State} {k : W64} {acts : Nat → Bool} {f : State → Cmd → Nat → State}
    (hf : ∀ (s : State) d c, s.SamePower (f s d c)) : s.KeepsPower (onSecondary s k acts f) := by
  refine keepsPower_onCmd (fun s d => ?_)
  simp [hf]

@[simp] theorem keepsPower_execAbort (s : State) (k : W64) : s.KeepsPower (execAbort k s) := by
  unfold execAbort
  refine keepsPower_onCmd (fun s d => ?_)
  split
  · simp
  split
  · simp
  split <;> simp

@[simp] theorem keepsPower_execAsynchronousEventRequest (s : State) (k : W64) :
    s.KeepsPower (execAsynchronousEventRequest k s) := by
  unfold execAsynchronousEventRequest
  dsimp only
  refine keepsPower_onCmd (fun s d => ?_)
  split
  · simp
  split <;> simp

@[simp] theorem keepsPower_onSetFeature {s : State} {k : W64} {fids : Nat → Bool} {f : State → Cmd → State}
    (hf : ∀ (s : State) d, s.SamePower (f s d)) : s.KeepsPower (onSetFeature s k fids f) :=
  keepsPower_onCmd (fun s d => by simp [hf])

@[simp] theorem keepsPower_execSetFeatures (s : State) (k : W64) (data : List Byte) :
    s.KeepsPower (execSetFeatures k data s) := by
  unfold execSetFeatures
  dsimp only
  refine keepsPower_onCmd (fun s d => ?_)
  dsimp only
  split
  · simp
  split
  · simp
  split <;> simp

@[simp] theorem keepsPower_execGetFeatures (s : State) (k : W64) : s.KeepsPower (execGetFeatures k s) := by
  unfold execGetFeatures
  dsimp only
  refine keepsPower_onCmd (fun s d => ?_)
  split <;> simp

@[simp] theorem State.samePower_setUse (s : State) (bk u : Nat) : s.SamePower (s.setUse bk u) := by simp [State.setUse]

@[simp] theorem State.samePower_hcount (s : State) (i n : Nat) : s.SamePower (s.hcount i n) := by simp [State.hcount]

@[simp] theorem State.samePower_retireBlk (s : State) (bk : Nat) : s.SamePower (s.retireBlk bk) := by simp [State.retireBlk]

@[simp] theorem State.samePower_setExtent (s : State) (n : Nat) (x : Option Extent) : s.SamePower (s.setExtent n x) := by
  simp [State.setExtent]

@[simp] theorem State.samePower_loadCounts (s : State) : s.SamePower s.loadCounts := by simp [State.loadCounts]

@[simp] theorem State.samePower_placeExtent (s : State) (use mode ns handle rg q : Nat) (bs : List Nat) :
    s.SamePower (s.placeExtent use mode ns handle rg q bs).2 := by
  simp [State.placeExtent, State.clearIntents]

theorem State.samePower_newExtent {s : State} {use mode ns handle rg : Nat} {qs : List Nat} : ∀ {x : Nat × State},
    s.newExtent use mode ns handle rg qs = some x → s.SamePower x.2 := by
  unfold State.newExtent
  dsimp only
  split
  · simp
  split <;> simp

@[simp] theorem State.samePower_programParity (s : State) (serial : Nat) (x : Extent) (w : Nat) :
    s.SamePower (s.programParity serial x w) := by
  simp [State.programParity]

@[simp] theorem State.samePower_noteRow (s : State) (serial row : Nat) : s.SamePower (s.noteRow serial row) := by
  simp [State.noteRow]

@[simp] theorem State.samePower_parityRows (s : State) (serial n : Nat) : s.SamePower (s.parityRows serial n) := by
  induction n generalizing s with
  | zero => exact ⟨rfl, rfl⟩
  | succ n ih =>
    unfold State.parityRows
    split
    · exact ⟨rfl, rfl⟩
    · split
      · exact State.SamePower.trans (by simp) (ih _)
      · exact ⟨rfl, rfl⟩

@[simp] theorem State.samePower_padRow (s : State) (serial : Nat) (x : Extent) (w : Nat) :
    s.SamePower (s.padRow serial x w) := by
  simp [State.padRow]

@[simp] theorem State.samePower_padCurrent (s : State) (serial : Nat) : s.SamePower (s.padCurrent serial) := by
  unfold State.padCurrent
  dsimp only
  split <;> simp

@[simp] theorem State.samePower_closeExtent (s : State) (serial : Nat) : s.SamePower (s.closeExtent serial) := by
  unfold State.closeExtent
  dsimp only
  split <;> simp

@[simp] theorem State.samePower_releaseExtent (s : State) (serial : Nat) : s.SamePower (s.releaseExtent serial) := by
  unfold State.releaseExtent
  split <;> simp

theorem State.samePower_fillExtent {s : State} {serial : Nat} {gs : List (List Byte × List Byte)} : ∀ {x : List W64 × State},
    s.fillExtent serial gs = some x → s.SamePower x.2 := by
  unfold State.fillExtent
  dsimp only
  split
  · simp
  split
  · simp
  split
  · simp
  split
  · simp
  next h =>
    simp [State.samePower_storeGrains h]

@[simp] theorem State.samePower_extendMr (s : State) (i : Nat) (d : List Byte) : s.SamePower (s.extendMr i d) := by
  simp [State.extendMr]

@[simp] theorem State.samePower_measureKeys (s : State) (ns kind : Nat) : s.SamePower (s.measureKeys ns kind) := by
  simp [State.measureKeys]

@[simp] theorem State.samePower_addLost (s : State) (bs : List Byte) : s.SamePower (s.addLost bs) := by simp [State.addLost]

@[simp] theorem State.samePower_keepLost (s : State) (f : List Byte → Bool) : s.SamePower (s.keepLost f) := by
  simp [State.keepLost]

@[simp] theorem State.samePower_wroteAgain (s : State) (ns lba n : Nat) : s.SamePower (s.wroteAgain ns lba n) := by
  simp [State.wroteAgain]

@[simp] theorem State.samePower_setNsi (s : State) (n : Nat) (x : Option NsInfo) : s.SamePower (s.setNsi n x) := by
  simp [State.setNsi]

@[simp] theorem State.samePower_clearDram (s : State) (a n : Nat) : s.SamePower (s.clearDram a n) := by simp [State.clearDram]

theorem State.samePower_configNs {s : State} {n kind lbaf grains zones zsz : Nat} : ∀ {t : State},
    s.configNs n kind lbaf grains zones zsz = some t → s.SamePower t := by
  unfold State.configNs
  dsimp only
  split
  · simp
  split <;> simp

@[simp] theorem State.samePower_fillKey (s : State) (n : Nat) : s.SamePower (s.fillKey n) := by
  unfold State.fillKey
  dsimp only
  split
  · simp
  split <;> simp

@[simp] theorem State.samePower_clearKey (s : State) (n : Nat) : s.SamePower (s.clearKey n) := by
  unfold State.clearKey
  split <;> simp

@[simp] theorem State.samePower_zoneClear (s : State) (n z : Nat) : s.SamePower (s.zoneClear n z) := by simp [State.zoneClear]

@[simp] theorem State.samePower_emptyNs (s : State) (n : Nat) : s.SamePower (s.emptyNs n) := by
  simp [State.emptyNs, State.releaseNs]

@[simp] theorem State.samePower_resetMembers (s : State) (l : Layout) : s.SamePower (s.resetMembers l) := by
  simp [State.resetMembers]

@[simp] theorem State.samePower_wipeMembers (s : State) (l : Layout) : s.SamePower (s.wipeMembers l) := by
  simp [State.wipeMembers]

@[simp] theorem State.samePower_cryptoErase (s : State) (n : Nat) : s.SamePower (s.cryptoErase n) := by
  unfold State.cryptoErase
  dsimp only
  split <;> simp

@[simp] theorem State.samePower_dropVolume (s : State) (l : Layout) : s.SamePower (s.dropVolume l) := by simp [State.dropVolume]

@[simp] theorem State.samePower_peerVolume (s : State) (l : Layout) : s.SamePower (s.peerVolume l) := by
  unfold State.peerVolume
  dsimp only
  split
  · simp
  split
  · simp
  next h =>
    simp [State.samePower_configNs h]

@[simp] theorem State.samePower_createLocal (s : State) (d : Cmd) (n csi : Nat) (x : NsCreate) :
    s.SamePower (s.createLocal d n csi x) := by
  unfold State.createLocal
  dsimp only
  refine samePower_ite (by simp) (samePower_ite (by simp) ?_)
  split
  · simp
  next h =>
    simp [State.samePower_configNs h]

@[simp] theorem State.samePower_createVolume (s : State) (d : Cmd) (n csi : Nat) (x : NsCreate) :
    s.SamePower (s.createVolume d n csi x) := by
  unfold State.createVolume
  obtain ⟨pool, hpool⟩ : ∃ pool, pool = if x.n = 0 then ((List.range 0x42).filter s.activeWorker).take 64 else x.pool :=
    ⟨_, rfl⟩
  dsimp only
  rw [← hpool]
  refine samePower_ite (State.samePower_finish _ _ _) (samePower_ite (State.samePower_finish _ _ _)
    (samePower_ite (State.samePower_finish _ _ _) ?_))
  split
  · exact State.samePower_finish _ _ _
  next h =>
    refine (State.samePower_configNs h).trans ?_
    simp

@[simp] theorem keepsPower_execNamespaceCreate (s : State) (k : W64) (x : NsCreate) :
    s.KeepsPower (execNamespaceCreate k x s) := by
  unfold execNamespaceCreate
  dsimp only
  split
  · simp
  refine keepsPower_onCmd (fun s d => ?_)
  split
  · simp
  split <;> simp

@[simp] theorem State.samePower_dropNs (s : State) (n : Nat) : s.SamePower (s.dropNs n) := by
  unfold State.dropNs
  dsimp only
  split <;> simp

@[simp] theorem keepsPower_execNamespaceDelete (s : State) (k : W64) : s.KeepsPower (execNamespaceDelete k s) := by
  unfold execNamespaceDelete
  dsimp only
  refine keepsPower_onCmd (fun s d => ?_)
  split
  · simp
  split
  · simp
  split
  · simp
  split <;> simp

@[simp] theorem keepsPower_execNamespaceAttachment (s : State) (k : W64) (ctls : List Nat) :
    s.KeepsPower (execNamespaceAttachment k ctls s) := by
  unfold execNamespaceAttachment
  refine keepsPower_onCmd (fun s d => ?_)
  split
  · simp
  split
  · simp
  split <;> simp

@[simp] theorem State.samePower_formatNs (s : State) (ses lbaf n : Nat) : s.SamePower (s.formatNs ses lbaf n) := by
  unfold State.formatNs
  split
  · exact ⟨rfl, rfl⟩
  dsimp only
  generalize hu : (if ses = 2 then s.cryptoErase n else _) = u
  have emptied : s.SamePower u := by
    rw [← hu]
    split
    · simp
    · split
      · split <;> simp
      · simp
  refine emptied.trans ?_
  split
  · exact ⟨rfl, rfl⟩
  next h => exact State.SamePower.trans (by simp) ((State.samePower_configNs h).trans (by simp))

@[simp] theorem keepsPower_execFormatNvm (s : State) (k : W64) : s.KeepsPower (execFormatNvm k s) := by
  unfold execFormatNvm
  dsimp only
  refine keepsPower_onCmd (fun s d => ?_)
  split
  · simp
  split
  · simp
  split
  · simp
  split <;> simp

@[simp] theorem keepsPower_execSanitizeCryptoErase (s : State) (k : W64) : s.KeepsPower (execSanitizeCryptoErase k s) := by
  unfold execSanitizeCryptoErase
  dsimp only
  refine keepsPower_onCmd (fun s d => ?_)
  split
  · simp
  split <;> simp

@[simp] theorem keepsPower_execSanitizeBlockErase (s : State) (k : W64) : s.KeepsPower (execSanitizeBlockErase k s) := by
  unfold execSanitizeBlockErase
  dsimp only
  refine keepsPower_onCmd (fun s d => ?_)
  split
  · simp
  split
  · simp
  split <;> simp

@[simp] theorem State.samePower_logTrim (s : State) : s.SamePower s.logTrim := by simp [State.logTrim]

theorem State.samePower_mapTry {s : State} {f : State → MapRes} (hf : ∀ (s : State) x, f s = .ok x → s.SamePower x.1)
    {x : State × Byte × List W64} (h : s.mapTry f = .ok x) : s.SamePower x.1 := by
  unfold State.mapTry at h
  split at h
  · split at h
    · exact State.SamePower.trans (by simp) (hf _ x h)
    · cases h
  next h' => cases h; exact hf _ _ h'

theorem State.samePower_mzoneTry {s t : State} {n z op : Nat} {arg : W64} (h : s.mzoneTry n z op arg = .ok t) :
    s.SamePower t := by
  unfold State.mzoneTry at h
  split at h
  · cases h
  next hm => cases h; exact State.samePower_mapTry (fun s x => State.samePower_mzoneOp) hm

theorem State.samePower_volCommit {s t : State} {l : Layout} {z o n : Nat} {seq : W64} {bad : Bool}
    (h : s.volCommit l z o n seq bad = some t) : s.SamePower t := by
  revert h
  unfold State.volCommit
  dsimp only
  refine some_of_ite nofun ?_
  have ended (u : State) (c : Prop) [Decidable c] (en a k dz st : Nat) (rs : List ExcRun) : u.SamePower
      (if c then (((u.writeRuns en a rs).setZwp dz k).setZstate dz st) else (u.writeRuns en a rs).setZwp dz k) := by
    split <;> simp
  intro h
  split at h
  · cases h
  next hx =>
  rw [← Option.some.inj h]
  refine State.SamePower.trans ?_ (ended _ _ _ _ _ _ _ _)
  split at hx
  · have appended := State.samePower_logAppend hx
    exact s.samePower_logTrim.trans appended
  next hr =>
    rw [Option.some.inj hx] at hr
    exact State.samePower_logAppend hr

@[simp] theorem State.samePower_tokPut (s : State) (z o n : Nat) (tok : W64) : s.SamePower (s.tokPut z o n tok) := by
  simp [State.tokPut]

@[simp] theorem State.samePower_writeEntry (s : State) (n z serial : Nat) (x : Option Extent) :
    s.SamePower (s.writeEntry n z serial x) := by
  simp [State.writeEntry]

theorem State.samePower_needEntry {s t : State} {n z : Nat} : s.needEntry n z = .ok t → s.SamePower t := by
  unfold State.needEntry
  refine ok_of_ite ?_ (ok_of_ite ?_ (ok_of_ite nofun fun h => ?_))
  · intro h; cases h; exact ⟨rfl, rfl⟩
  · intro h; cases h; simp
  · split at h
    next hx => cases h; exact (State.samePower_newExtent hx).trans (by simp)
    · cases h

@[simp] theorem State.samePower_padAll (s : State) (serial : Nat) : s.SamePower (s.padAll serial) := by
  unfold State.padAll
  split <;> simp

@[simp] theorem State.samePower_closeZoneExtent (s : State) (n z : Nat) (whole : Bool) :
    s.SamePower (s.closeZoneExtent n z whole) := by
  unfold State.closeZoneExtent
  split <;> simp

@[simp] theorem State.samePower_recordState (s : State) (n z op : Nat) : s.SamePower (s.recordState n z op) := by
  unfold State.recordState
  split <;> simp

@[simp] theorem State.samePower_leaveEmpty (s : State) (n z : Nat) : s.SamePower (s.leaveEmpty n z) := by
  unfold State.leaveEmpty
  dsimp only
  split <;> simp

theorem State.samePower_putZoneState {s t : State} {n z st rec : Nat} (h : s.putZoneState n z st rec = .ok t) :
    s.SamePower t := by
  obtain ⟨u, hu, rfl⟩ := ok_of_map h
  exact (State.SamePower.trans (by split <;> simp) (State.samePower_mzoneTry hu)).trans (by simp)

theorem State.samePower_closeOwn {s t : State} {dz : Nat} (h : s.closeOwn dz = .ok t) : s.SamePower t := by
  unfold State.closeOwn at h
  split at h
  · exact State.samePower_putZoneState h
  · cases h; exact ⟨rfl, rfl⟩

theorem State.samePower_implicitOpen {s t : State} {n z : Nat} : s.implicitOpen n z = .ok t → s.SamePower t := by
  unfold State.implicitOpen
  dsimp only
  refine ok_of_ite ?_ (ok_of_ite nofun (ok_of_ite nofun (ok_of_ite State.samePower_putZoneState fun h => ?_)))
  · intro h; cases h; exact ⟨rfl, rfl⟩
  split at h
  · cases h
  split at h
  · cases h
  next hc => exact (State.samePower_closeOwn hc).trans (State.samePower_putZoneState h)

theorem State.samePower_openAct {s t : State} {n z : Nat} : s.openAct n z = .ok t → s.SamePower t := by
  unfold State.openAct
  dsimp only
  refine ok_of_ite ?_ (ok_of_ite nofun (ok_of_ite nofun (ok_of_ite nofun State.samePower_putZoneState)))
  intro h; cases h; exact ⟨rfl, rfl⟩

theorem State.samePower_closeAct {s t : State} {n z : Nat} : s.closeAct n z = .ok t → s.SamePower t := by
  unfold State.closeAct
  dsimp only
  refine ok_of_ite ?_ (ok_of_ite nofun (ok_of_ite State.samePower_putZoneState State.samePower_putZoneState))
  intro h; cases h; exact ⟨rfl, rfl⟩

@[simp] theorem State.samePower_sendGrains (s : State) (v m addr flags first : Nat) (gs : List (List Byte × List Byte)) :
    s.SamePower (s.sendGrains v m addr flags first gs) := by
  simp [State.sendGrains]

@[simp] theorem State.samePower_sendParity (s : State) (l : Layout) (f n z st first : Nat) (acc : List (List Byte)) :
    s.SamePower (s.sendParity l f n z st first acc) := by
  unfold State.sendParity
  dsimp only
  refine foldl_samePower_trans (fun t x => ?_) (by simp)
  split <;> simp

@[simp] theorem State.samePower_finishPrep (s : State) (n z : Nat) : s.SamePower (s.finishPrep n z) := by
  unfold State.finishPrep
  dsimp only
  split <;> simp

@[simp] theorem State.samePower_finishStripe (s : State) (l : Layout) (z : Nat) : s.SamePower (s.finishStripe l z) := by
  unfold State.finishStripe
  dsimp only
  split <;> simp

theorem State.samePower_finishAct {s t : State} {n z : Nat} : s.finishAct n z = .ok t → s.SamePower t := by
  unfold State.finishAct
  dsimp only
  refine ok_of_ite ?_ (ok_of_ite nofun (ok_of_ite nofun fun h => ?_))
  · intro h; cases h; exact ⟨rfl, rfl⟩
  split at h
  · revert h
    refine ok_of_ite nofun (ok_of_ite nofun fun h => ?_)
    obtain ⟨u, hu, rfl⟩ := ok_of_map h
    exact (State.samePower_mzoneTry hu).trans (by simp)
  · obtain ⟨u, hu, rfl⟩ := ok_of_map h
    exact (State.samePower_mzoneTry hu).trans (by simp)

theorem State.samePower_resetAct {s : State} {n z : Nat} : ∀ {t : State}, s.resetAct n z = .ok t → s.SamePower t := by
  unfold State.resetAct
  dsimp only
  split
  · simp
  split
  · simp
  split
  · simp
  next h =>
    split
    · split
      · simp [State.samePower_mzoneTry h]
      · split <;> simp [State.samePower_mzoneTry h]
    · simp [State.samePower_mzoneTry h]
    · simp [State.samePower_mzoneTry h]

end Sys2Proof.Machine
end

section
/-! what keeps the power states: zone commands, members, sessions and owner keys -/

namespace Sys2Proof.Machine

@[simp] theorem State.samePower_endCmd (s : State) (d : Cmd) (st : BitVec 15) : s.SamePower (s.endCmd d st) := by
  simp [State.endCmd]

@[simp] theorem State.samePower_ownerCheck {s : State} {d : Cmd} {f : State → State} (hf : ∀ s : State, s.SamePower (f s)) :
    s.SamePower (s.ownerCheck d f) := by
  unfold State.ownerCheck
  split <;> simp [hf]

theorem State.samePower_actAll {act : State → Nat → Try State} (ha : ∀ (s : State) z t, act s z = .ok t → s.SamePower t)
    {zs : List Nat} {s t : State} (h : s.actAll act zs = .ok t) : s.SamePower t := by
  induction zs generalizing s with
  | nil => cases h; exact ⟨rfl, rfl⟩
  | cons z zs ih =>
    unfold State.actAll at h
    split at h
    · cases h
    next h' => exact (ha _ _ _ h').trans (ih h)

theorem keepsPower_zoneSend {s : State} {k : W64} {code : Nat} {q : Nat → Bool} {prep : State → Nat → Nat → State}
    {act : State → Nat → Nat → Try State} (hp : ∀ (s : State) n z, s.SamePower (prep s n z))
    (ha : ∀ (s : State) n z t, act s n z = .ok t → s.SamePower t) : s.KeepsPower (zoneSend s k code q prep act) := by
  refine keepsPower_onCmd (fun t d => ?_)
  dsimp only
  split
  · exact ⟨rfl, rfl⟩
  split
  · simp
  split
  · simp
  refine State.samePower_ownerCheck (fun s => ?_)
  split
  · simp
  next named _ =>
  split
  · split <;> simp
  generalize (if decide (d.dw 13 / 256 % 2 = 1) then named.filter (fun z => q (s.zstate ((t.nsAt d.nsid).firstZone + z)))
    else named) = zs
  split
  · exact ⟨rfl, rfl⟩
  generalize hv : List.foldl _ s zs = v
  have prepared : s.SamePower v := hv ▸ foldl_samePower (fun s z => hp s _ z) zs s
  split
  next h => exact (prepared.trans (State.samePower_actAll (fun s z => ha s _ z) h)).trans (by split <;> simp)
  next => exact prepared.trans (by simp)
  next => exact prepared

@[simp] theorem keepsPower_execZoneOpen (s : State) (k : W64) : s.KeepsPower (execZoneOpen k s) :=
  keepsPower_zoneSend (fun _ _ _ => ⟨rfl, rfl⟩) fun _ _ _ _ => ok_of_ite nofun State.samePower_openAct

@[simp] theorem keepsPower_execZoneClose (s : State) (k : W64) : s.KeepsPower (execZoneClose k s) :=
  keepsPower_zoneSend (fun _ _ _ => ⟨rfl, rfl⟩) fun _ _ _ _ => State.samePower_closeAct

@[simp] theorem keepsPower_execZoneFinish (s : State) (k : W64) : s.KeepsPower (execZoneFinish k s) :=
  keepsPower_zoneSend State.samePower_finishPrep fun _ _ _ _ => State.samePower_finishAct

@[simp] theorem keepsPower_execZoneReset (s : State) (k : W64) : s.KeepsPower (execZoneReset k s) :=
  keepsPower_zoneSend (fun _ _ _ => ⟨rfl, rfl⟩) fun _ _ _ _ => State.samePower_resetAct

@[simp] theorem keepsPower_execZoneOffline (s : State) (k : W64) : s.KeepsPower (execZoneOffline k s) := by
  unfold execZoneOffline
  refine keepsPower_onCmd (fun s d => ?_)
  split
  · simp
  split <;> simp

@[simp] theorem keepsPower_execSetZoneDescriptorExtension (s : State) (k : W64) :
    s.KeepsPower (execSetZoneDescriptorExtension k s) := by
  unfold execSetZoneDescriptorExtension
  refine keepsPower_onCmd (fun s d => ?_)
  split
  · simp
  split <;> simp

@[simp] theorem keepsPower_execZoneManagementReceive (s : State) (k : W64) : s.KeepsPower (execZoneManagementReceive k s) := by
  unfold execZoneManagementReceive
  dsimp only
  refine keepsPower_onCmd (fun s d => ?_)
  split <;> simp

@[simp] theorem keepsPower_execZoneFinishedByController (s : State) (z : Nat) :
    s.KeepsPower (execZoneFinishedByController z s) := by
  unfold execZoneFinishedByController
  dsimp only
  split
  · split
    · split
      next h =>
        simp [State.samePower_finishAct h]
      · simp
    · simp
  · simp

@[simp] theorem State.samePower_closeOpenZones (s : State) : s.SamePower s.closeOpenZones := by
  unfold State.closeOpenZones
  refine foldl_samePower_trans (fun t x => ?_) (by simp)
  split
  next h =>
    simp [State.samePower_closeOwn h]
  · simp

@[simp] theorem State.samePower_dropTokens (s : State) (slot wp n : Nat) : s.SamePower (s.dropTokens slot wp n) := by
  induction n generalizing s with
  | zero => exact ⟨rfl, rfl⟩
  | succ n ih =>
    unfold State.dropTokens
    dsimp only
    split
    · exact ⟨rfl, rfl⟩
    · refine State.SamePower.trans ?_ (ih _)
      simp

@[simp] theorem State.samePower_dropMeta (s : State) : s.SamePower s.dropMeta := by
  unfold State.dropMeta
  refine foldl_samePower_trans (fun t x => ?_) (by simp)
  simp

theorem State.samePower_storeMember {s : State} {v addr : Nat} {place : List W64} {gs : List (List Byte × List Byte)} :
    ∀ {t : State}, s.storeMember v addr place gs = some t → s.SamePower t := by
  simp [State.storeMember, State.wmapSet]

@[simp] theorem keepsPower_execGwrite (s : State) (e : W64) (place : List W64) : s.KeepsPower (execGwrite e place s) := by
  unfold execGwrite
  dsimp only
  split
  · simp
  refine keepsPower_onArrival (fun s a => ?_)
  split
  · simp
  split
  · simp
  split
  · simp
  next h =>
    simp [State.samePower_storeMember h]

@[simp] theorem State.samePower_wmapDrop (s : State) (v addr n : Nat) : s.SamePower (s.wmapDrop v addr n) := by
  simp [State.wmapDrop]

@[simp] theorem State.samePower_importBind (s : State) (sid ns kind : Nat) (wrapped : List Byte) :
    s.SamePower (s.importBind sid ns kind wrapped).2 := by
  unfold State.importBind
  dsimp only
  split
  · simp
  split
  · split
    · simp
    · split
      · simp
      · split <;> simp
  · simp

@[simp] theorem keepsPower_execKeywrap (s : State) (e : W64) : s.KeepsPower (execKeywrap e s) := by
  unfold execKeywrap
  dsimp only
  refine keepsPower_onArrival (fun s a => ?_)
  split
  · split <;> simp
  · simp

theorem State.samePower_applyRecord {s t : State} {l : Layout} {e : JEntry} (h : s.applyRecord l e = some t) :
    s.SamePower t := by
  unfold State.applyRecord at h
  dsimp only at h
  split at h
  · exact State.samePower_volCommit h
  · obtain ⟨u, hu, rfl⟩ := Option.map_eq_some_iff.mp h
    exact (State.samePower_volCommit hu).trans (by simp)
  all_goals
    cases h
    simp

@[simp] theorem keepsPower_execJournal (s : State) (e : W64) : s.KeepsPower (execJournal e s) := by
  unfold execJournal
  dsimp only
  refine keepsPower_onArrival (fun s a => ?_)
  split
  · simp
  split
  · simp
  split
  · split
    · split
      · simp
      · split
        next h =>
          simp [State.samePower_applyRecord h]
        · simp
    · simp
  · simp

@[simp] theorem keepsPower_execCkptLayout (s : State) (e : W64) : s.KeepsPower (execCkptLayout e s) := by
  unfold execCkptLayout
  dsimp only
  refine keepsPower_onArrival (fun s a => ?_)
  split <;> simp

@[simp] theorem State.keepsPower_answerOn {s : State} {x : Nat} {f : State → Spdm} (hf : ∀ s : State, s.SamePower (f s).1) :
    s.KeepsPower (s.answerOn x f) := by
  unfold State.answerOn
  rw [State.keepsPower_next]
  split
  · exact ⟨rfl, rfl⟩
  · exact (hf s).trans (by simp)

@[simp] theorem State.samePower_setStage (s : State) (x n : Nat) : s.SamePower (s.setStage x n) := by simp [State.setStage]

@[simp] theorem State.samePower_negotiated {s : State} {x n : Nat} {f : State → Spdm} (hf : ∀ s : State, s.SamePower (f s).1) :
    s.SamePower (s.negotiated x n f).1 := by
  unfold State.negotiated
  split
  · exact ⟨rfl, rfl⟩
  · exact hf s

@[simp] theorem State.samePower_spdmVersion (s : State) (x : Nat) : s.SamePower (s.spdmVersion x).1 := by
  simp [State.spdmVersion]

@[simp] theorem State.samePower_spdmCapabilities (s : State) (x : Nat) : s.SamePower (s.spdmCapabilities x).1 := by
  simp [State.spdmCapabilities]

@[simp] theorem State.samePower_spdmAlgorithms (s : State) (x : Nat) : s.SamePower (s.spdmAlgorithms x).1 := by
  simp [State.spdmAlgorithms]

@[simp] theorem State.samePower_spdmDigests (s : State) (x : Nat) : s.SamePower (s.spdmDigests x).1 := by
  simp [State.spdmDigests]

@[simp] theorem State.samePower_spdmCertificate (s : State) (x slot : Nat) : s.SamePower (s.spdmCertificate x slot).1 := by
  unfold State.spdmCertificate
  split <;> simp

@[simp] theorem State.samePower_aliasSign (s : State) : s.SamePower s.aliasSign.2 := by simp [State.aliasSign]

@[simp] theorem State.samePower_spdmChallenge (s : State) (x slot : Nat) : s.SamePower (s.spdmChallenge x slot).1 := by
  unfold State.spdmChallenge
  dsimp only
  split <;> simp

@[simp] theorem State.samePower_spdmMeasurements (s : State) (x idx : Nat) (nonce : BitVec 256) :
    s.SamePower (s.spdmMeasurements x idx nonce).1 := by
  unfold State.spdmMeasurements
  dsimp only
  split <;> simp

@[simp] theorem State.samePower_spdmKeyExchange (s : State) (x : Nat) (leaf : BitVec 384) :
    s.SamePower (s.spdmKeyExchange x leaf).1 := by
  unfold State.spdmKeyExchange
  dsimp only
  refine State.samePower_negotiated (fun s => ?_)
  split <;> simp

@[simp] theorem State.samePower_spdmFinish (s : State) (y : Session) : s.SamePower (s.spdmFinish y).1 := by
  simp [State.spdmFinish]

@[simp] theorem State.samePower_inSession {s : State} {sid : BitVec 32} {f : State → Session → Spdm}
    (hf : ∀ (s : State) y, s.SamePower (f s y).1) : s.SamePower (s.inSession sid f).1 := by
  unfold State.inSession
  split
  · split
    · exact hf _ _
    · exact ⟨rfl, rfl⟩
  · exact ⟨rfl, rfl⟩

@[simp] theorem State.samePower_spdmHeartbeat (s : State) (sid : BitVec 32) : s.SamePower (s.spdmHeartbeat sid).1 := by
  simp [State.spdmHeartbeat]

@[simp] theorem State.samePower_spdmKeyUpdate (s : State) (sid : BitVec 32) : s.SamePower (s.spdmKeyUpdate sid).1 := by
  simp [State.spdmKeyUpdate]

@[simp] theorem State.samePower_spdmEnd (s : State) (sid : BitVec 32) : s.SamePower (s.spdmEnd sid).1 := by simp [State.spdmEnd]

@[simp] theorem State.samePower_ownerRegs (s : State) (k : Nat) : s.SamePower (s.ownerRegs k) := by simp [State.ownerRegs]

@[simp] theorem State.samePower_setOwner (s : State) (k : Nat) (o : Option Owner) : s.SamePower (s.setOwner k o) := by
  simp [State.setOwner]

@[simp] theorem State.samePower_vendorImport (s : State) (sid : BitVec 32) (n kind : Nat) (wrapped : List Byte) :
    s.SamePower (s.vendorImport sid n kind wrapped).1 := by
  refine State.samePower_inSession fun s y => ?_
  dsimp only
  split
  · exact ⟨rfl, rfl⟩
  split
  · exact ⟨rfl, rfl⟩
  split
  · exact ⟨rfl, rfl⟩
  split
  · split
    · exact ⟨rfl, rfl⟩
    split
    · exact ⟨rfl, rfl⟩
    refine State.SamePower.trans (t := State.putTrust _ _) ?_ (State.samePower_measureKeys _ _ _)
    simp only [State.SamePower, State.putTrust_frame]
    exact foldl_samePower (fun u p => by simp) _ _
  · split
    · split
      · exact ⟨rfl, rfl⟩
      · split
        · exact ((State.samePower_clearKey _ _).trans (State.samePower_importBind _ _ _ _ _)).trans
            (State.samePower_measureKeys _ _ _)
        · exact ⟨rfl, rfl⟩
    · exact ⟨rfl, rfl⟩

@[simp] theorem State.samePower_vendorStatus (s : State) (sid : BitVec 32) (n : Nat) :
    s.SamePower (s.vendorStatus sid n).1 := by
  unfold State.vendorStatus
  dsimp only
  refine State.samePower_inSession (fun s y => ?_)
  split <;> simp

@[simp] theorem State.samePower_vendorEnroll (s : State) (sid : BitVec 32) (slot : Nat) (perms : BitVec 3) (hash : BitVec 384)
    (signed : Bool) : s.SamePower (s.vendorEnroll sid slot perms hash signed).1 := by
  unfold State.vendorEnroll
  dsimp only
  split
  · simp
  refine State.samePower_inSession (fun s y => ?_)
  split
  · simp
  split
  · simp
  split <;> simp

@[simp] theorem State.samePower_vendorWithdraw (s : State) (sid : BitVec 32) (slot : Nat) (signed : Bool) :
    s.SamePower (s.vendorWithdraw sid slot signed).1 := by
  unfold State.vendorWithdraw
  refine State.samePower_inSession (fun s y => ?_)
  split
  · simp
  split <;> simp

@[simp] theorem State.samePower_vendorDebug (s : State) (sid : BitVec 32) (on signed : Bool) :
    s.SamePower (s.vendorDebug sid on signed).1 := by
  refine State.samePower_inSession fun s y => ?_
  split
  · exact ⟨rfl, rfl⟩
  split
  · exact ⟨rfl, rfl⟩
  · simp

@[simp] theorem State.samePower_vendorExtend (s : State) (sid : BitVec 32) (d : List Byte) :
    s.SamePower (s.vendorExtend sid d).1 := by
  unfold State.vendorExtend
  refine State.samePower_inSession (fun s y => ?_)
  split <;> simp

@[simp] theorem State.samePower_spdmFinishSid (s : State) (sid : BitVec 32) : s.SamePower (s.spdmFinishSid sid).1 := by
  unfold State.spdmFinishSid
  split
  · split <;> simp
  · simp

@[simp] theorem keepsPower_execSessionHeartbeatTimeout (s : State) (sid : BitVec 32) :
    s.KeepsPower (execSessionHeartbeatTimeout sid s) := by
  unfold execSessionHeartbeatTimeout
  split <;> simp

@[simp] theorem State.samePower_spdmMessage (s : State) (x : Nat) (m : SpdmMsg) : s.SamePower (s.spdmMessage x m).1 := by
  unfold State.spdmMessage
  dsimp only
  split
  case h_13 => split <;> simp
  all_goals simp

@[simp] theorem keepsPower_execSecurityReceive (s : State) (k : W64) : s.KeepsPower (execSecurityReceive k s) := by
  unfold execSecurityReceive
  dsimp only
  refine keepsPower_onCmd (fun s d => ?_)
  split
  · simp
  split
  · simp
  split <;> simp

end Sys2Proof.Machine
end

section
/-! what keeps the power states: boot blocks, issue, engines and registers -/

namespace Sys2Proof.Machine

@[simp] theorem State.samePower_setProof (s : State) (b : Nat) (p : Option (BitVec 384 × Nat × W64)) :
    s.SamePower (s.setProof b p) := by
  simp [State.setProof]

@[simp] theorem State.samePower_repairBoot (s : State) (k : Nat) : s.SamePower (s.repairBoot k) := by simp [State.repairBoot]

@[simp] theorem State.samePower_blowFuses (s : State) (k : Nat) : s.SamePower (s.blowFuses k) := by simp [State.blowFuses]

@[simp] theorem State.samePower_issueFeat (s : State) (c : CoreId) (i : Issue) (w : Bool) :
    s.SamePower (s.issueFeat c i w) := by
  simp [State.issueFeat]

@[simp] theorem State.samePower_begin (s : State) (r : Req) (p : ReqPhase) : s.SamePower (s.begin r p) := by simp [State.begin]

@[simp] theorem State.samePower_takeReq (s : State) (r : Req) : s.SamePower (s.takeReq r) := by
  unfold State.takeReq
  split <;> simp

@[simp] theorem keepsPower_execEngineRequestTake (s : State) (u : Nat) : s.KeepsPower (execEngineRequestTake u s) := by
  unfold execEngineRequestTake
  split
  · simp
  split
  · simp
  split
  · simp
  split <;> simp

@[simp] theorem keepsPower_execAgePromotion (s : State) (c : CoreId) (t : Ticket) : s.KeepsPower (execAgePromotion c t s) := by
  unfold execAgePromotion
  split <;> simp

@[simp] theorem keepsPower_execEventRingPost (s : State) (c : CoreId) : s.KeepsPower (execEventRingPost c s) := by
  unfold execEventRingPost
  dsimp only
  split <;> simp

@[simp] theorem State.samePower_applyQChange (s : State) (p : Nat × QChange) : s.SamePower (s.applyQChange p) := by
  unfold State.applyQChange
  split
  · split <;> simp
  · simp

@[simp] theorem State.samePower_enterHandler (s : State) (c : CoreId) : s.SamePower (s.enterHandler c) := by
  unfold State.enterHandler
  dsimp only
  split <;> simp

@[simp] theorem State.samePower_mapCores (s : State) (f : Core → Core) : s.SamePower (s.mapCores f) := by simp [State.mapCores]

@[simp] theorem keepsPower_execTickBoundary (s : State) : s.KeepsPower (execTickBoundary s) := by
  simp [execTickBoundary, State.plogTick, State.countEntries, State.minuteTick, State.shareBoundary, State.finishShutdowns,
    State.finishShutdown, State.ageTick, State.cutOverrun, State.applyPending, State.applyPend, State.reportBound]

@[simp] theorem keepsPower_execIntake (s : State) : s.KeepsPower (execIntake s) := by
  unfold execIntake
  split
  · simp
  split <;> simp

@[simp] theorem keepsPower_execSlotDispatch (s : State) (c : CoreId) : s.KeepsPower (execSlotDispatch c s) := by
  unfold execSlotDispatch
  dsimp only
  split
  · simp
  split
  · simp
  split
  · simp
  · split <;> simp
  · rintro _ ⟨⟩

@[simp] theorem State.samePower_openRead (s : State) (off : Nat) : s.SamePower (s.openRead off).2 := by
  unfold State.openRead
  refine List.foldlRecOn (motive := fun a : W64 × State => s.SamePower a.2) _ _ ⟨rfl, rfl⟩ fun a ha p _ => ?_
  exact ha.trans a.2.samePower_takeFree

@[simp] theorem State.samePower_patStatus (s : State) : s.SamePower s.patStatus.2 := by
  unfold State.patStatus
  dsimp only
  split <;> simp

@[simp] theorem State.samePower_norWord (s : State) (a : Nat) : s.SamePower (s.norWord a).2 := by
  unfold State.norWord
  split <;> simp

@[simp] theorem State.samePower_patRead (s : State) : s.SamePower s.patRead.2 := by
  unfold State.patRead
  dsimp only
  split <;> simp

@[simp] theorem State.samePower_stRead (s : State) (off : Nat) : s.SamePower (s.stRead off).2 := by
  unfold State.stRead
  dsimp only
  split
  · simp
  split
  · simp
  split
  · simp
  split <;> simp

@[simp] theorem State.samePower_plainWrite (s : State) (off : Nat) (v : W64) : s.SamePower (s.plainWrite off v) := by
  unfold State.plainWrite
  split <;> simp

@[simp] theorem State.samePower_writeSchedCtl (s : State) (loader : Bool) (c : CoreId) (v : W64) :
    s.SamePower (s.writeSchedCtl loader c v) := by
  simp [State.writeSchedCtl]

@[simp] theorem State.samePower_writeEph (s : State) (v : W64) : s.SamePower (s.writeEph v) := by simp [State.writeEph]

@[simp] theorem State.samePower_writeHovmask (s : State) (v : W64) : s.SamePower (s.writeHovmask v) := by
  simp [State.writeHovmask]

@[simp] theorem State.samePower_writeSched (s : State) (loader : Bool) (o : Nat) (v : W64) :
    s.SamePower (s.writeSched loader o v) := by
  unfold State.writeSched
  dsimp only
  split
  · split
    · split <;> simp
    · simp
  split <;> simp

@[simp] theorem State.samePower_writeRcfg (s : State) (v : W64) : s.SamePower (s.writeRcfg v) := by simp [State.writeRcfg]

@[simp] theorem State.samePower_writeTun (s : State) (o : Nat) (v : W64) : s.SamePower (s.writeTun o v) := by
  simp [State.writeTun, State.writeTunMin]

@[simp] theorem State.samePower_setNs (s : State) (n : Nat) (c : NsCfg) : s.SamePower (s.setNs n c) := by simp [State.setNs]

@[simp] theorem State.samePower_writeMapw (s : State) (o : Nat) (v : W64) : s.SamePower (s.writeMapw o v) := by
  unfold State.writeMapw
  dsimp only
  split <;> simp

@[simp] theorem State.samePower_clearLdpc (s : State) : s.SamePower s.clearLdpc := by simp [State.clearLdpc]

@[simp] theorem State.samePower_writeDram (s : State) (o : Nat) (v : W64) : s.SamePower (s.writeDram o v) := by
  simp [State.writeDram, State.writeFchg]

@[simp] theorem State.samePower_writeLtail (s : State) (v : W64) : s.SamePower (s.writeLtail v) := by simp [State.writeLtail]

@[simp] theorem State.samePower_writePat (s : State) (o : Nat) (v : W64) : s.SamePower (s.writePat o v) := by
  simp [State.writePat, State.writePatCmd, State.writePatXctl]

@[simp] theorem State.samePower_writeRas (s : State) (o : Nat) (v : W64) : s.SamePower (s.writeRas o v) := by
  simp [State.writeRas, State.writeScrb]

@[simp] theorem State.samePower_writeSlice (s : State) (n : Nat) (v : W64) : s.SamePower (s.writeSlice n v) := by
  simp [State.writeSlice]

@[simp] theorem State.samePower_sliceReset (s : State) (busy : Bool) (slice who : Nat) :
    s.SamePower (s.sliceReset busy slice who) := by
  simp [State.sliceReset]

@[simp] theorem State.samePower_writeShare (s : State) (o : Nat) (v : W64) : s.SamePower (s.writeShare o v) := by
  simp [State.writeShare, State.reportReset]

@[simp] theorem State.samePower_writeChan (s : State) (off : Nat) (v : W64) : s.SamePower (s.writeChan off v) := by
  simp [State.writeChan]

@[simp] theorem State.samePower_writeSpan (s : State) (o : Nat) (v : W64) : s.SamePower (s.writeSpan o v) := by
  simp [State.writeSpan]

@[simp] theorem State.samePower_writeTherm (s : State) (o : Nat) (v : W64) : s.SamePower (s.writeTherm o v) := by
  simp [State.writeTherm]

@[simp] theorem State.samePower_writeTime (s : State) (o : Nat) (v : W64) : s.SamePower (s.writeTime o v) := by
  simp [State.writeTime]

@[simp] theorem State.samePower_stWrite (s : State) (loader : Bool) (off : Nat) (v : W64) :
    s.SamePower (s.stWrite loader off v) := by
  unfold State.stWrite
  dsimp only
  split
  · simp
  split
  · simp
  split <;> simp

@[simp] theorem State.samePower_whoWrite (s : State) (w : Who) (off : Nat) (v : W64) : s.SamePower (s.whoWrite w off v) := by
  simp [State.whoWrite]

@[simp] theorem keepsPower_execWsnFloorRaise (s : State) : s.KeepsPower (execWsnFloorRaise s) := by
  unfold execWsnFloorRaise
  dsimp only
  split <;> simp

@[simp] theorem State.samePower_scrubRange (s : State) (arr first last : Nat) : s.SamePower (s.scrubRange arr first last) := by
  simp [State.scrubRange]

@[simp] theorem State.samePower_stuckWord (s : State) (arr w : Nat) : s.SamePower (s.stuckWord arr w) := by
  simp [State.stuckWord]

@[simp] theorem keepsPower_execScrubDone (s : State) (corr : BitVec 24) (stuck : List (BitVec 24)) :
    s.KeepsPower (execScrubDone corr stuck s) := by
  unfold execScrubDone
  dsimp only
  split <;> simp

@[simp] theorem State.samePower_norProgram (s : State) (a : Nat) : s.SamePower (s.norProgram a) := by simp [State.norProgram]

@[simp] theorem State.samePower_norSpoil (s : State) (erase : Bool) (a : Nat) : s.SamePower (s.norSpoil erase a) := by
  simp [State.norSpoil]

@[simp] theorem keepsPower_execPatOperationDone (s : State) (pulses : BitVec 6) (pass : Bool) :
    s.KeepsPower (execPatOperationDone pulses pass s) := by
  unfold execPatOperationDone
  dsimp only
  split <;> simp

@[simp] theorem State.samePower_bulkWords (s : State) (busy : Bool) (a n : Nat) : s.SamePower (s.bulkWords busy a n).2 := by
  induction n generalizing s a with
  | zero => exact ⟨rfl, rfl⟩
  | succ n ih =>
    have word : s.SamePower (if busy then s.patStatus else s.norWord (a % 0x8000000)).2 := by split <;> simp
    exact word.trans (ih _ _)

@[simp] theorem keepsPower_execPatBulkReadDone (s : State) : s.KeepsPower (execPatBulkReadDone s) := by
  unfold execPatBulkReadDone
  dsimp only
  split <;> simp

@[simp] theorem State.samePower_reject (s : State) (raw : List Byte) (r : Reject) : s.SamePower (s.reject raw r) := by
  simp [State.reject]

@[simp] theorem State.samePower_stagePiece (s : State) (d : Cmd) (total off : Nat) (data : List Byte) :
    s.SamePower (s.stagePiece d total off data) := by
  simp [State.stagePiece]

@[simp] theorem keepsPower_execFirmwareImageDownload (s : State) (k : W64) (data : List Byte) :
    s.KeepsPower (execFirmwareImageDownload k data s) := by
  unfold execFirmwareImageDownload
  dsimp only
  refine keepsPower_onCmd (fun s d => ?_)
  split
  · simp
  split
  · simp
  split
  · split <;> simp
  split <;> simp

end Sys2Proof.Machine
end

section
/-! what keeps the power states: firmware and writes -/

namespace Sys2Proof.Machine

@[simp] theorem State.samePower_writeBank (s : State) (b : Nat) (raw : List Byte) : s.SamePower (s.writeBank b raw) := by
  simp [State.writeBank]

@[simp] theorem State.samePower_spoilBank (s : State) (b : Nat) : s.SamePower (s.spoilBank b) := by simp [State.spoilBank]

@[simp] theorem State.samePower_swapTo (s : State) (b : Nat) : s.SamePower (s.swapTo b) := by
  simp [State.swapTo, State.selectBank]

@[simp] theorem State.samePower_commitFails (s : State) (d : Cmd) (b : Nat) (staged : Bool) (raw : List Byte) (r : Reject) :
    s.SamePower (s.commitFails d b staged raw r) := by
  simp [State.commitFails]

@[simp] theorem State.samePower_commitVerified {s : State} {d : Cmd} {b : Nat} {sig nor : Bool} {go : State → List Byte → State}
    (hg : ∀ (s : State) raw, s.SamePower (go s raw)) : s.SamePower (s.commitVerified d b sig nor go) := by
  unfold State.commitVerified
  dsimp only
  split <;> simp [hg]

@[simp] theorem State.keepsPower_commitRow {s : State} {k : W64} {mine : Nat → Bool} {go : State → Cmd → Nat → State}
    (hg : ∀ (s : State) d b, s.SamePower (go s d b)) : s.KeepsPower (s.commitRow k mine go) := by
  refine keepsPower_onCmdIf_of (fun t d ht => ?_)
  split
  · exact ⟨rfl, rfl⟩
  refine ht.trans ?_
  split
  · simp
  split
  · simp
  split
  · simp
  split
  · simp
  · exact hg _ _ _

@[simp] theorem State.samePower_commitWrite (s : State) (d : Cmd) (b : Nat) (sig nor swap : Bool) :
    s.SamePower (s.commitWrite d b sig nor swap) := by
  simp [State.commitWrite]

@[simp] theorem State.samePower_install (s : State) (m : Image) (arg : Nat) : s.SamePower (s.install m arg) := by
  simp [State.install, State.installCore]

@[simp] theorem keepsPower_execFirmwareCommitActivateNow (s : State) (k : W64) (sig nor : Bool) :
    s.KeepsPower (execFirmwareCommitActivateNow k sig nor s) := by
  refine State.keepsPower_commitRow fun s d b => samePower_ite (by simp) (samePower_ite (by simp) ?_)
  refine State.samePower_commitVerified fun s raw => ?_
  dsimp only
  split <;> simp

@[simp] theorem keepsPower_execLiveHandoverArm (s : State) : s.KeepsPower (execLiveHandoverArm s) := by
  unfold execLiveHandoverArm
  dsimp only
  split
  · split
    · simp
    · split <;> simp
  · simp

@[simp] theorem keepsPower_execLayoutMarkWrite (s : State) : s.KeepsPower (execLayoutMarkWrite s) := by
  unfold execLayoutMarkWrite
  dsimp only
  split
  · split
    · simp
    · split <;> simp
  · simp

theorem State.samePower_commitTry {s t : State} {n : Nat} {isMeta : Bool} {g first : Nat} {ws : List W64}
    (h : s.commitTry n isMeta g first ws = .ok t) : s.SamePower t := by
  unfold State.commitTry at h
  dsimp only at h
  split at h
  next hm => cases h; exact State.samePower_mapTry (fun s x => State.samePower_commitThe) hm
  · cases h

theorem State.samePower_metaExtent {s : State} {x : Nat × State} (h : s.metaExtent = some x) : s.SamePower x.2 := by
  unfold State.metaExtent at h
  split at h
  · cases h; exact ⟨rfl, rfl⟩
  · exact State.samePower_newExtent h

theorem State.samePower_writeMeta {s t : State} {d : Cmd} {x : NsInfo} {handle life first nData lba nlb : Nat}
    {mdata : List Byte} : s.writeMeta d x handle life first nData lba nlb mdata = .ok t → s.SamePower t := by
  unfold State.writeMeta
  dsimp only
  refine ok_of_ite ?_ (ok_of_ite nofun (ok_of_ite nofun fun h => ?_))
  · intro h; cases h; exact ⟨rfl, rfl⟩
  split at h
  · cases h
  next hx =>
  split at h
  · cases h
  next hf =>
  exact (State.samePower_metaExtent hx).trans (.trans (State.samePower_fillExtent hf) (State.samePower_commitTry h))

@[simp] theorem State.samePower_writeDone (s : State) (d : Cmd) (n lba : Nat) (fill : Fill) :
    s.SamePower (s.writeDone d n lba fill) := by
  unfold State.writeDone
  dsimp only
  split <;> simp

theorem State.samePower_settleTry {s : State} {d : Cmd} {r : Try State} (hr : ∀ t, r = .ok t → s.SamePower t) :
    s.SamePower (s.settleTry d r) := by
  unfold State.settleTry
  split
  · exact hr _ rfl
  · simp
  · exact ⟨rfl, rfl⟩

theorem State.samePower_zoneStore {s : State} {d : Cmd} {n z o first : Nat} {fill : Fill} {len : Nat} {x : State × List W64}
    (h : s.zoneStore d n z o first fill len = .ok x) : s.SamePower x.1 := by
  unfold State.zoneStore at h
  split at h
  · cases h
  revert h
  dsimp only
  refine ok_of_ite nofun fun h => ?_
  split at h
  · cases h
  next hs =>
  split at h
  · rw [← Except.ok.inj h]
    refine State.SamePower.trans ?_ ((State.samePower_setExtent _ _ _).trans (State.samePower_parityRows _ _ _))
    split at hs
    · obtain ⟨u, hu, hx⟩ := Option.map_eq_some_iff.mp hs
      cases hx
      exact State.samePower_storeGrains hu
    · rw [← (Prod.mk.inj (Option.some.inj hs)).1]
      exact foldl_samePower (fun u a => by simp) _ _
  · cases h

theorem State.samePower_zoneFailed {s : State} {d : Cmd} {n z o len first : Nat} {st : BitVec 15} : ∀ {t : State},
    s.zoneFailed d n z o len first st = .ok t → s.SamePower t := by
  unfold State.zoneFailed
  dsimp only
  split
  · simp
  next h =>
    simp [State.samePower_commitTry h]

theorem State.samePower_zoneLocal {s t : State} {d : Cmd} {x : NsInfo} {z o : Nat} {fill : Fill} {mdata : List Byte} :
    s.zoneLocal d x z o fill mdata = .ok t → s.SamePower t := by
  unfold State.zoneLocal
  dsimp only
  refine ok_of_ite nofun fun h => ?_
  split at h
  · cases h
  · exact (State.samePower_takeNumbers _ _ _).trans (State.samePower_zoneFailed h)
  next hz =>
  have stored := (State.samePower_takeNumbers _ _ _).trans (State.samePower_zoneStore hz)
  split at h
  · cases h
  · exact stored.trans (State.samePower_zoneFailed h)
  next hm =>
  have noted : State.SamePower _ _ := stored.trans (by
    split at hm
    · exact State.samePower_writeMeta hm
    · cases hm; exact ⟨rfl, rfl⟩)
  split at h
  · cases h
  next hc =>
  rw [← Except.ok.inj h]
  refine noted.trans ((State.samePower_commitTry hc).trans (.trans ?_ (State.samePower_writeDone _ _ _ _ _)))
  refine samePower_ite ?_ ?_ <;> simp

@[simp] theorem State.samePower_sendSegment (s : State) (d : Cmd) (l : Layout) (z o0 n : Nat) (v : VolNums)
    (gs : List (List Byte)) (g : Nat × Nat × Nat × Nat) : s.SamePower (s.sendSegment d l z o0 n v gs g) := by
  unfold State.sendSegment
  dsimp only
  refine samePower_ite (foldl_samePower_trans (fun u i => ?_) ?_) (samePower_ite (foldl_samePower_trans (fun u m => ?_) ?_) ?_)
  case refine_3 => simp
  all_goals split <;> simp

theorem State.samePower_beginStripes {s : State} {l : Layout} {z o : Nat} {sts : List Nat} {t : State}
    (h : s.beginStripes l z o sts = some t) : s.SamePower t := by
  induction sts generalizing s with
  | nil => cases h; exact ⟨rfl, rfl⟩
  | cons st sts ih =>
    unfold State.beginStripes at h
    split at h
    · exact ih h
    split at h
    · cases h
    · exact (s.samePower_putSlot _ _).trans (ih h)

@[simp] theorem State.samePower_sendStripes (s : State) (d : Cmd) (l : Layout) (z o n : Nat) (v : VolNums)
    (gs : List (List Byte)) (sts : List Nat) : s.SamePower (s.sendStripes d l z o n v gs sts) := by
  induction sts generalizing s with
  | nil => exact ⟨rfl, rfl⟩
  | cons st sts ih =>
    unfold State.sendStripes
    dsimp only
    exact State.SamePower.trans (by simp) (ih _)

@[simp] theorem State.samePower_sealStripes (s : State) (l : Layout) (z o n : Nat) : s.SamePower (s.sealStripes l z o n) := by
  unfold State.sealStripes
  dsimp only
  refine foldl_samePower_trans (fun t x => ?_) (by simp)
  split <;> simp

@[simp] theorem State.samePower_claimFence (s : State) (d : Cmd) (lba first count : Nat) :
    s.SamePower (s.claimFence d lba first count) := by
  simp [State.claimFence]

@[simp] theorem State.samePower_jobHaz (s : State) (j : Job) : s.SamePower (s.jobHaz j) := by
  unfold State.jobHaz
  split <;> simp

@[simp] theorem State.samePower_setJob (s : State) (j : Job) : s.SamePower (s.setJob j) := by simp [State.setJob]

@[simp] theorem State.samePower_dropJob (s : State) (j : Job) : s.SamePower (s.dropJob j) := by simp [State.dropJob]

theorem State.samePower_jobCommit {s : State} {l : Layout} {j : Job} : ∀ {t : State}, s.jobCommit l j = some t →
    s.SamePower t := by
  unfold State.jobCommit
  dsimp only
  split
  · simp
  split
  · simp
  next h =>
    simp [State.samePower_commitTry h]

theorem State.samePower_jobStep {s t : State} {j : Job} (h : s.jobStep j = some t) : s.SamePower t := by
  unfold State.jobStep at h
  split at h
  · cases h
  · revert h
    refine some_of_ite nofun (some_of_ite ?_ ?_)
    · exact fun h => by rw [← Option.some.inj h]; simp
    · exact fun h => by rw [← Option.some.inj h]; simp
  · revert h
    refine some_of_ite (fun h => State.samePower_jobCommit h) (some_of_ite ?_ nofun)
    exact fun h => by rw [← Option.some.inj h]; simp
  · revert h
    refine some_of_ite nofun fun h => ?_
    dsimp only at h
    split at h
    · rw [← Option.some.inj h]; simp
    revert h
    refine some_of_ite ?_ ?_
    · exact fun h => by rw [← Option.some.inj h]; simp
    · exact fun h => by rw [← Option.some.inj h]; simp

@[simp] theorem State.samePower_jobRun (s : State) (vol zone off n : Nat) : s.SamePower (s.jobRun vol zone off n) := by
  induction n generalizing s with
  | zero => exact ⟨rfl, rfl⟩
  | succ n ih =>
    unfold State.jobRun
    split
    · exact ⟨rfl, rfl⟩
    · split
      · exact ⟨rfl, rfl⟩
      next h => exact (State.samePower_jobStep h).trans (ih _)

@[simp] theorem State.samePower_runJobs (s : State) : s.SamePower s.runJobs := by simp [State.runJobs]

theorem State.samePower_zoneVolume {s : State} {d : Cmd} {x : NsInfo} {l : Layout} {z o : Nat} {fill : Fill}
    {token : Option W64} : ∀ {t : State}, s.zoneVolume d x l z o fill token = .ok t → s.SamePower t := by
  unfold State.zoneVolume
  dsimp only
  split
  · simp
  next h =>
    simp [State.samePower_beginStripes h]

theorem State.samePower_tokenRepeat {s : State} {d : Cmd} {z lba : Nat} : ∀ {t : State}, s.tokenRepeat d z lba = .ok t →
    s.SamePower t := by
  unfold State.tokenRepeat
  dsimp only
  split
  · split
    · simp
    · split <;> simp
  split
  · simp
  split <;> simp

@[simp] theorem State.samePower_zoneWrite (s : State) (d : Cmd) (x : NsInfo) (app : Bool) (token : Option W64) (fill : Fill)
    (mdata : List Byte) : s.SamePower (s.zoneWrite d x app token fill mdata) := by
  unfold State.zoneWrite
  dsimp only
  refine samePower_ite ⟨rfl, rfl⟩ (samePower_ite (by simp) (samePower_ite (by simp) (samePower_ite (by simp) ?_)))
  split
  · exact State.samePower_settleTry fun t h => State.samePower_tokenRepeat h
  split
  · refine State.samePower_settleTry fun t h => ?_
    cases h
  next s1 h1 =>
  split
  · refine State.samePower_settleTry fun t h => ?_
    cases h
  next s2 h2 =>
  have opened := State.samePower_implicitOpen h1
  split
  · exact opened.trans (State.samePower_endCmd _ _ _)
  next s3 _ _ h3 =>
  have reserved := (opened.trans (State.samePower_needEntry h2)).trans
    (State.samePower_mapTry (fun s x => State.samePower_mzoneOp) h3)
  split
  · exact samePower_ite (State.samePower_settleTry fun t h => reserved.trans (State.samePower_zoneVolume h)) ⟨rfl, rfl⟩
  · exact State.samePower_settleTry fun t h => reserved.trans (State.samePower_zoneLocal h)

@[simp] theorem State.samePower_fdpEvent (s : State) (typ ns handle rg : Nat) : s.SamePower (s.fdpEvent typ ns handle rg) := by
  simp [State.fdpEvent]

@[simp] theorem State.samePower_placement (s : State) (d : Cmd) (x : NsInfo) : s.SamePower (s.placement d x).2 := by
  unfold State.placement
  dsimp only
  split
  · simp
  split <;> simp

@[simp] theorem State.samePower_closeUnit (s : State) (serial : Nat) : s.SamePower (s.closeUnit serial) := by
  simp [State.closeUnit]

@[simp] theorem State.samePower_makeRoom (s : State) (ns : Nat) : s.SamePower (s.makeRoom ns) := by
  unfold State.makeRoom
  split
  · simp
  split <;> simp

@[simp] theorem State.samePower_fillUnit (s : State) (serial : Nat) : s.SamePower (s.fillUnit serial) := by
  simp [State.fillUnit]

theorem State.samePower_needUnit {s : State} {ns ruh g n : Nat} {x : Nat × State} (h : s.needUnit ns ruh g n = some x) :
    s.SamePower x.2 := by
  unfold State.needUnit at h
  dsimp only at h
  split at h
  · revert h
    refine some_of_ite ?_ (some_of_ite nofun fun h => ?_)
    · intro h; cases h; exact ⟨rfl, rfl⟩
    · exact State.SamePower.trans (by simp) (State.samePower_newExtent h)
  · revert h
    refine some_of_ite nofun fun h => ?_
    exact State.SamePower.trans (by simp) (State.samePower_newExtent h)

@[simp] theorem State.samePower_alignUnit (s : State) (serial n : Nat) : s.SamePower (s.alignUnit serial n) := by
  induction n generalizing s with
  | zero => exact ⟨rfl, rfl⟩
  | succ n ih =>
    unfold State.alignUnit
    split
    · exact ⟨rfl, rfl⟩
    · split
      · split
        · exact ⟨rfl, rfl⟩
        · exact State.SamePower.trans (by simp) (ih _)
      · exact ⟨rfl, rfl⟩

theorem State.samePower_storeUnit {wide : Bool} {serial n : Nat} {gs : List (List Byte × List Byte)} {s : State}
    {x : List W64 × State} (h : s.storeUnit wide serial n gs = some x) : s.SamePower x.2 := by
  induction n generalizing s gs x with
  | zero => cases h; exact ⟨rfl, rfl⟩
  | succ n ih =>
    have aligned : s.SamePower (if wide then s.alignUnit serial 4 else s) := by split <;> simp
    unfold State.storeUnit at h
    dsimp only at h
    split at h
    · cases h; exact ⟨rfl, rfl⟩
    generalize (if wide then s.alignUnit serial 4 else s) = u at aligned h
    split at h
    · cases h
    next hf =>
      obtain ⟨y, hy, rfl⟩ := Option.map_eq_some_iff.mp h
      have rest := ih hy
      exact (aligned.trans (State.samePower_fillExtent hf)).trans rest

theorem State.samePower_storeUnits {wide : Bool} {ns ruh g n : Nat} {gs : List (List Byte × List Byte)} {s : State}
    {x : List W64 × State} (h : s.storeUnits wide ns ruh g n gs = some x) : s.SamePower x.2 := by
  induction n generalizing s gs x with
  | zero => cases h
  | succ n ih =>
    unfold State.storeUnits at h
    dsimp only at h
    split at h
    · cases h; exact ⟨rfl, rfl⟩
    split at h
    · cases h
    next hn =>
      generalize ite (wide = true) 4 _ = k at h
      split at h
      · cases h
      next hu =>
        obtain ⟨y, hy, rfl⟩ := Option.map_eq_some_iff.mp h
        have rest := ih hy
        exact ((State.samePower_needUnit hn).trans (State.samePower_storeUnit hu)).trans (.trans (by split <;> simp) rest)

theorem State.samePower_placeWrite {s t : State} {d : Cmd} {x : NsInfo} {fill : Fill} {mdata : List Byte} :
    s.placeWrite d x fill mdata = .ok t → s.SamePower t := by
  unfold State.placeWrite
  dsimp only
  refine ok_of_ite nofun (ok_of_ite nofun fun h => ?_)
  split at h
  · split at h
    · cases h
    next hc => cases h; exact (State.samePower_commitTry hc).trans (by simp)
  · split at h
    · cases h
    next hu =>
    split at h
    · cases h
    next hm =>
    split at h
    · cases h
    next hc =>
    rw [← Except.ok.inj h]
    have placed := ((s.samePower_placement d x).trans (State.samePower_takeNumbers _ _ _)).trans (State.samePower_storeUnits hu)
    exact ((placed.trans (State.samePower_writeMeta hm)).trans (State.samePower_commitTry hc)).trans (by simp)

@[simp] theorem keepsPower_onJob {s : State} {k : W64} {r : Res} (hr : s.KeepsPower r) : s.KeepsPower (onJob s k r) := by
  unfold onJob
  split
  · simp
  · exact hr

@[simp] theorem keepsPower_ioWrite (s : State) (k : W64) (op : Nat) (fill : Fill) (mdata : List Byte) :
    s.KeepsPower (s.ioWrite k op fill mdata) := by
  refine keepsPower_onJob (keepsPower_onCmd fun s d => ?_)
  split
  · simp
  split
  · simp
  refine samePower_ite ⟨rfl, rfl⟩ (samePower_ite (by simp) (State.samePower_ownerCheck fun s => ?_))
  refine samePower_ite (samePower_ite ⟨rfl, rfl⟩ (by simp)) (State.samePower_settleTry fun t => State.samePower_placeWrite)

@[simp] theorem keepsPower_execFlush (s : State) (k : W64) : s.KeepsPower (execFlush k s) := by
  unfold execFlush
  refine keepsPower_onCmd (fun s d => ?_)
  split <;> simp

@[simp] theorem keepsPower_ioAppend (s : State) (k : W64) (op : Nat) (tok : Bool) (data : List (List Byte)) (mdata : List Byte)
    : s.KeepsPower (s.ioAppend k op tok data mdata) := by
  unfold State.ioAppend
  dsimp only
  split
  · refine keepsPower_onJob ?_
    refine keepsPower_onCmd (fun s d => ?_)
    split <;> simp
  refine keepsPower_onJob ?_
  refine keepsPower_onCmd (fun s d => ?_)
  split <;> simp

theorem State.samePower_trimRange {s t : State} {n : Nat} {x : NsInfo} {slba len : Nat} (h : s.trimRange n x slba len = .ok t) :
    s.SamePower t := by
  refine foldl_try_samePower (f := fun s i => _) ?_ (fun r i => by cases r <;> rfl) _ h
  intro s i t h
  split at h
  next hm => cases h; exact State.samePower_mapTry (fun s x => State.samePower_mtrimOp) hm
  · cases h

@[simp] theorem keepsPower_execDatasetManagement (s : State) (k : W64) (ranges : List (W64 × Nat)) :
    s.KeepsPower (execDatasetManagement k ranges s) := by
  refine keepsPower_onCmd fun s d => ?_
  split
  · simp
  refine samePower_ite (by simp) (samePower_ite ⟨rfl, rfl⟩ (samePower_ite (by simp) (samePower_ite (by simp) ?_)))
  split
  next hf =>
    refine State.SamePower.trans ?_ (State.samePower_finish _ _ _)
    exact foldl_try_samePower (fun s p t => State.samePower_trimRange) (fun r p => by cases r <;> rfl) _ hf
  · simp
  · exact ⟨rfl, rfl⟩

@[simp] theorem keepsPower_execReclaimUnitHandleUpdate (s : State) (k : W64) (pids : List Nat) :
    s.KeepsPower (execReclaimUnitHandleUpdate k pids s) := by
  refine keepsPower_onCmd fun s d => ?_
  split
  · simp
  refine samePower_ite (by simp) (samePower_ite (by simp) (samePower_ite ⟨rfl, rfl⟩ (samePower_ite (by simp) ?_)))
  refine State.SamePower.trans (foldl_samePower (fun s p => ?_) _ _) (State.samePower_finish _ _ _)
  split <;> simp

@[simp] theorem keepsPower_execIoManagementReceive (s : State) (k : W64) : s.KeepsPower (execIoManagementReceive k s) := by
  unfold execIoManagementReceive
  dsimp only
  refine keepsPower_onCmd (fun s d => ?_)
  split <;> simp

@[simp] theorem keepsPower_execRuTimeLimitExceeded (s : State) (h g : Nat) : s.KeepsPower (execRuTimeLimitExceeded h g s) := by
  unfold execRuTimeLimitExceeded
  split <;> simp

@[simp] theorem State.samePower_rebuildLines (s : State) (a n : Nat) : s.SamePower (s.rebuildLines a n) := by
  simp [State.rebuildLines]

@[simp] theorem State.samePower_healMap (s : State) (n : Nat) (isMeta : Bool) (g : Nat) :
    s.SamePower (s.healMap n isMeta g) := by
  unfold State.healMap
  dsimp only
  split
  · simp
  split <;> simp

theorem State.samePower_moveCommit {s t : State} {n : Nat} {isMeta : Bool} {g first : Nat} {ws : List W64}
    (h : s.moveCommit n isMeta g first ws = some t) : s.SamePower t := by
  unfold State.moveCommit at h
  dsimp only at h
  split at h
  next hm => cases h; exact State.samePower_mapTry (fun s x => State.samePower_commitThe) hm
  · cases h

theorem State.samePower_storeAgain {s t : State} {n : Nat} {isMeta : Bool} {g : Nat} {w : W64} {plain : List Byte} :
    s.storeAgain n isMeta g w plain = some t → s.SamePower t := by
  unfold State.storeAgain
  dsimp only
  refine some_of_ite nofun fun h => ?_
  split at h
  · cases h
  next hn =>
  split at h
  · cases h
  next hu =>
  exact (State.samePower_needUnit hn).trans (.trans (State.samePower_takeNumbers _ _ _)
    (.trans (State.samePower_storeUnit hu) (State.samePower_moveCommit h)))

@[simp] theorem State.samePower_storeAgain_getD (s : State) (n : Nat) (isMeta : Bool) (g : Nat) (w : W64) (plain : List Byte) :
    s.SamePower ((s.storeAgain n isMeta g w plain).getD s) :=
  samePower_getD fun _ => State.samePower_storeAgain

end Sys2Proof.Machine
end

section
/-! what keeps the power states: reads, rebuilds, relocation and logs -/

namespace Sys2Proof.Machine

@[simp] theorem State.samePower_loseGrain (s : State) (n : Nat) (isMeta : Bool) (g : Nat) (w : W64) :
    s.SamePower (s.loseGrain n isMeta g w) := by
  simp [State.loseGrain]

@[simp] theorem State.samePower_queueSweep (s : State) (w : W64) : s.SamePower (s.queueSweep w) := by simp [State.queueSweep]

@[simp] theorem State.samePower_queueRefresh (s : State) (w : W64) : s.SamePower (s.queueRefresh w) := by
  unfold State.queueRefresh
  split <;> simp

@[simp] theorem State.samePower_predictNow (s : State) (m : Nat) : s.SamePower (s.predictNow m).2 := by simp [State.predictNow]

@[simp] theorem State.samePower_askGrain (s : State) (v : Nat) (d : Cmd) (recon : Bool) (h m addr : Nat) :
    s.SamePower (s.askGrain v d recon h m addr) := by
  simp [State.askGrain]

@[simp] theorem State.samePower_others (s : State) (l : Layout) (z st j : Nat) : s.SamePower (s.others l z st j).2 := by
  unfold State.others
  refine foldl_snd_samePower (fun p x => ?_) _ _ _
  have kept := p.2.samePower_predictNow x.2
  split
  next h => rw [h] at kept; exact kept

@[simp] theorem State.samePower_askOthers (s : State) (l : Layout) (d : Cmd) (recon : Bool) (addr : Nat)
    (xs : List (Nat × Nat × Nat × Int)) : s.SamePower (s.askOthers l d recon addr xs) := by
  simp [State.askOthers]

@[simp] theorem State.samePower_servedFor (s : State) (m : Nat) : s.SamePower (s.servedFor m) := by
  unfold State.servedFor
  split <;> simp

@[simp] theorem State.samePower_sendReads (s : State) (l : Layout) (d : Cmd) (g : Nat) (v : VolGrain) :
    s.SamePower (s.sendReads l d g v) := by
  unfold State.sendReads
  extract_lets c z o set j st addr opened degraded
  have degrades (u : State) : u.SamePower (degraded u) := by
    refine samePower_ite ?_ ?_
    · split <;> simp
    · simp
  refine samePower_ite ⟨rfl, rfl⟩ ?_
  split
  · exact degrades s
  refine samePower_ite (degrades s) ?_
  dsimp only
  refine samePower_ite ?_ ?_
  · split <;> simp
  split
  · simp
  · exact State.SamePower.trans (by simp) (degrades _)
  · refine State.SamePower.trans (State.SamePower.trans ?_ (degrades _)) (samePower_ite ⟨rfl, rfl⟩ ?_)
    · simp
    · simp

@[simp] theorem State.samePower_readFails (s : State) (d : Cmd) (st : BitVec 15) : s.SamePower (s.readFails d st) := by
  simp [State.readFails]

@[simp] theorem State.samePower_hostReadDone (s : State) (d : Cmd) (x : NsInfo) : s.SamePower (s.hostReadDone d x) := by
  unfold State.hostReadDone
  dsimp only
  split
  · simp
  split <;> simp

@[simp] theorem State.samePower_handOver (s : State) (d : Cmd) (i : Nat) (bs : List Byte) :
    s.SamePower (s.handOver d i bs) := by
  simp [State.handOver]

@[simp] theorem State.samePower_corrected (s : State) (d : Cmd) (x : NsInfo) (src : Option (W64 × Nat × Nat)) (fails : List W64)
    (corr : List (W64 × Nat)) : s.SamePower (s.corrected d x src fails corr) := by
  simp [State.corrected]

@[simp] theorem State.samePower_readNow (s : State) (d : Cmd) (x : NsInfo) (fails : List W64) (corr : List (W64 × Nat))
    (vol : List VolGrain) (src : Option (W64 × Nat × Nat)) : s.SamePower (s.readNow d x fails corr vol src) := by
  unfold State.readNow
  dsimp only
  have healed := foldl_samePower (fun s i => State.samePower_healMap s d.nsid false (d.grain0 x + i)) (List.range (d.grains x))
    s
  generalize List.foldl _ s (List.range (d.grains x)) = u at healed ⊢
  refine healed.trans ((u.samePower_corrected d x src fails corr).trans ?_)
  generalize u.corrected d x src fails corr = v
  have sent (l : Layout) : v.SamePower (if v.isManager then (List.range (d.grains x)).foldl
      (fun (s : State) i => s.sendReads l d (d.grain0 x + i) (vol.getD i .lost)) v else v) :=
    samePower_ite (foldl_samePower (fun s i => s.samePower_sendReads _ _ _ _) _ _) ⟨rfl, rfl⟩
  split
  · refine State.SamePower.trans ?_ (State.samePower_readFails _ _ _)
    split
    · exact sent _
    · exact ⟨rfl, rfl⟩
  · refine State.SamePower.trans (t := List.foldl _ _ _) (foldl_samePower_trans (fun s p => ?_) ?_)
      (samePower_ite ⟨rfl, rfl⟩ (State.samePower_hostReadDone _ _ _))
    · split <;> simp
    · split
      · exact sent _
      · exact ⟨rfl, rfl⟩

@[simp] theorem keepsPower_ioRead (s : State) (k : W64) (op : Nat) (fails : List W64) (corr : List (W64 × Nat))
    (vol : List VolGrain) : s.KeepsPower (s.ioRead k op fails corr vol) := by
  refine keepsPower_onCmd_of fun t d ht => ?_
  refine samePower_ite ⟨rfl, rfl⟩ ?_
  split
  · exact ht.trans (by simp)
  split
  · exact ht.trans (by simp)
  refine samePower_ite ⟨rfl, rfl⟩ ?_
  split
  · exact ⟨rfl, rfl⟩
  · exact ht.trans (by simp)

@[simp] theorem State.samePower_ladderEnd (s : State) (d : Cmd) (l : Ladder) : s.SamePower (s.ladderEnd d l) := by
  unfold State.ladderEnd
  dsimp only
  split
  · simp
  split <;> simp

@[simp] theorem keepsPower_execRetryLadderStep (s : State) (k loc : W64) (outcome : BitVec 8) :
    s.KeepsPower (execRetryLadderStep k loc outcome s) := by
  unfold execRetryLadderStep
  rw [State.keepsPower_next]
  split
  · split
    · exact ⟨rfl, rfl⟩
    dsimp only
    refine samePower_ite ⟨rfl, rfl⟩ (samePower_ite (samePower_ite ⟨rfl, rfl⟩ ?_) ?_)
    · split
      · refine samePower_ite ?_ ?_ <;> simp
      · refine samePower_ite ?_ ?_ <;> simp
    · split
      · have swept : s.SamePower (((s.hcount 7 1).queueSweep loc).queueRefresh loc) := by simp
        exact swept.trans (by simp)
      · simp
  · exact ⟨rfl, rfl⟩

@[simp] theorem keepsPower_execFrameRebuild (s : State) (loc : W64) : s.KeepsPower (execFrameRebuild loc s) := by
  unfold execFrameRebuild
  split
  · simp
  split
  · simp
  split
  · split
    next h =>
      simp [State.samePower_storeAgain h]
    · simp
  · simp

@[simp] theorem State.samePower_careRebuild (s : State) (w : W64) : s.SamePower (s.careRebuild w) := by
  unfold State.careRebuild
  split
  · exact ⟨rfl, rfl⟩
  split
  · simp
  · simp

@[simp] theorem keepsPower_execPatrolRead (s : State) (loc : W64) (fr : List FrameSense) (unread : List W64) :
    s.KeepsPower (execPatrolRead loc fr unread s) := by
  unfold execPatrolRead
  dsimp only
  split
  · simp
  split
  · simp
  · simp
  · split <;> simp
  · simp

@[simp] theorem keepsPower_execClosingVerify (s : State) (x : Nat) (bad unread : List W64) :
    s.KeepsPower (execClosingVerify x bad unread s) := by
  unfold execClosingVerify
  dsimp only
  split <;> simp

theorem State.samePower_fillRaw {s : State} {serial : Nat} {bs : List (List Byte)} : ∀ {x : List W64 × State},
    s.fillRaw serial bs = some x → s.SamePower x.2 := by
  unfold State.fillRaw
  dsimp only
  split
  · simp
  split <;> simp

theorem State.samePower_moveUnit {s t : State} {dst : Nat} {g : W64 × Nat × Bool × Nat} : s.moveUnit dst g = some t →
    s.SamePower t := by
  unfold State.moveUnit
  dsimp only
  refine some_of_ite ?_ (some_of_ite (fun h => ?_) fun h => ?_)
  · intro h; cases h; exact ⟨rfl, rfl⟩
  · have aligned : s.SamePower (if (s.unitGrains g.2.1 g.2.2.1 g.2.2.2).length = 4 then s.alignUnit dst 4 else s) :=
      samePower_ite (by simp) ⟨rfl, rfl⟩
    generalize (if (s.unitGrains g.2.1 g.2.2.1 g.2.2.2).length = 4 then s.alignUnit dst 4 else s) = u at aligned h
    split at h
    · cases h
    next hf => exact (aligned.trans (State.samePower_fillRaw hf)).trans (State.samePower_moveCommit h)
  · rw [← Option.some.inj h]
    refine foldl_samePower (fun u x => ?_) _ _
    split
    · refine samePower_ite ⟨rfl, rfl⟩ ?_
      split
      · simp
      · simp
    · exact ⟨rfl, rfl⟩

theorem State.samePower_moveTarget {s : State} {x : Extent} {y : Nat × State} : s.moveTarget x = some y → s.SamePower y.2 :=
  some_of_ite State.samePower_metaExtent State.samePower_needUnit

theorem State.samePower_moveGrains {x : Extent} {pick : State → Option (Nat × State)}
    (hp : ∀ (s : State) y, pick s = some y → s.SamePower y.2) {gs : List (W64 × Nat × Bool × Nat)} {s t : State}
    (h : s.moveGrains x pick gs = some t) : s.SamePower t := by
  induction gs generalizing s with
  | nil => cases h; exact ⟨rfl, rfl⟩
  | cons g gs ih =>
    unfold State.moveGrains at h
    split at h
    · cases h
    next h' =>
      split at h
      · cases h
      next h'' => exact ((hp _ _ h').trans (State.samePower_moveUnit h'')).trans (ih h)

theorem State.samePower_moveZone {s : State} {serial : Nat} {x : Extent} {new : State → Option (Nat × State)}
    (hn : ∀ (s : State) y, new s = some y → s.SamePower y.2) {t : State} (h : s.moveZone serial x new = some t) :
    s.SamePower t := by
  unfold State.moveZone at h
  dsimp only at h
  split at h
  · cases h
  split at h
  · cases h
  next h1 =>
    split at h
    · cases h
    next h2 =>
      cases h
      exact ((hn _ _ h1).trans (State.samePower_fillRaw h2)).trans (by simp)

theorem State.samePower_relocate {s t : State} {serial : Nat} {x : Extent} {high : Bool} (h : s.relocate serial x high = some t)
    : s.SamePower t := by
  obtain ⟨u, hu, rfl⟩ := Option.map_eq_some_iff.mp h
  refine State.SamePower.trans ?_ (State.samePower_releaseExtent _ _)
  have placed : ∀ (s : State) y,
    (if high then (s.pickBlocks true x.group).map (fun bs => s.placeExtent x.use x.mode x.ns x.handle x.rg x.group bs)
      else s.newExtent x.use x.mode x.ns x.handle x.rg s.dieGroups) = some y → s.SamePower y.2 := fun s y =>
    some_of_ite (fun h => by obtain ⟨bs, -, rfl⟩ := Option.map_eq_some_iff.mp h; simp) State.samePower_newExtent
  revert hu
  refine some_of_ite (fun h => ?_)
    (some_of_ite (fun h => ?_) (State.samePower_moveGrains fun s y => State.samePower_moveTarget))
  · obtain ⟨v, hv, rfl⟩ := Option.map_eq_some_iff.mp h
    exact (State.samePower_moveZone placed hv).trans (samePower_ite (by simp) ⟨rfl, rfl⟩)
  · split at h
    · cases h
    next hx =>
    obtain ⟨v, hv, rfl⟩ := Option.map_eq_some_iff.mp h
    have target := placed _ _ hx
    refine target.trans ((State.samePower_moveGrains (fun s y h => ?_) hv).trans (State.samePower_closeExtent _ _))
    rw [← Option.some.inj h]
    exact ⟨rfl, rfl⟩

@[simp] theorem keepsPower_execExtentRelocation (s : State) (serial : Nat) : s.KeepsPower (execExtentRelocation serial s) := by
  unfold execExtentRelocation
  rw [State.keepsPower_next]
  split
  · exact samePower_ite ⟨rfl, rfl⟩ (samePower_getD fun t => State.samePower_relocate)
  · exact ⟨rfl, rfl⟩

@[simp] theorem keepsPower_execReclaim (s : State) : s.KeepsPower (execReclaim s) := by
  unfold execReclaim
  split
  · simp
  split
  · simp
  split
  next h =>
    simp [State.samePower_relocate h]
  · simp

@[simp] theorem keepsPower_execStaticWearLevelling (s : State) (g : Nat) : s.KeepsPower (execStaticWearLevelling g s) := by
  unfold execStaticWearLevelling
  rw [State.keepsPower_next]
  dsimp only
  refine samePower_ite ⟨rfl, rfl⟩ (samePower_ite (by simp) ?_)
  split
  · exact ⟨rfl, rfl⟩
  split
  next h =>
    simp [State.samePower_relocate h]
  · exact ⟨rfl, rfl⟩

@[simp] theorem keepsPower_execPendingErase (s : State) (b : Nat) (ok : Bool) : s.KeepsPower (execPendingErase b ok s) := by
  unfold execPendingErase
  dsimp only
  split
  · simp
  split
  · simp
  next h =>
    simp [State.samePower_writeIntent h]

@[simp] theorem State.samePower_levelCopy (s : State) : s.SamePower s.levelCopy := by simp [State.levelCopy]

@[simp] theorem keepsPower_execIdentify (s : State) (k : W64) : s.KeepsPower (execIdentify k s) := by
  unfold execIdentify
  refine keepsPower_onCmd (fun s d => ?_)
  split <;> simp

@[simp] theorem keepsPower_onLog {s : State} {k : W64} {mine : Nat → Bool} {f : State → Cmd → State}
    (hf : ∀ (s : State) d, s.SamePower (f s d)) : s.KeepsPower (onLog s k mine f) := by
  refine keepsPower_onCmd_of (fun t d ht => ?_)
  split
  · exact ⟨rfl, rfl⟩
  · exact ht.trans (by simp [hf])

@[simp] theorem keepsPower_execGetLogPage (s : State) (k : W64) : s.KeepsPower (execGetLogPage k s) := by
  unfold execGetLogPage
  refine keepsPower_onLog (fun s d => ?_)
  split <;> simp

@[simp] theorem keepsPower_onTest {s : State} {k : W64} {mine : Nat → Bool} {f : State → Cmd → State}
    (hf : ∀ (s : State) d, s.SamePower (f s d)) : s.KeepsPower (onTest s k mine f) := by
  refine keepsPower_onCmd_of (fun t d ht => ?_)
  split
  · exact ht.trans (hf t d)
  · exact ⟨rfl, rfl⟩

@[simp] theorem State.samePower_startTest (s : State) (d : Cmd) : s.SamePower (s.startTest d) := by simp [State.startTest]

@[simp] theorem State.samePower_poisonLine (s : State) (line : Nat) : s.SamePower (s.poisonLine line) := by
  simp [State.poisonLine]

end Sys2Proof.Machine
end

section
/-! what keeps the power states: rank retirement, volumes, bring-up, memory instructions -/

namespace Sys2Proof.Machine

@[simp] theorem State.samePower_showMig (s : State) : s.SamePower s.showMig := by
  unfold State.showMig
  split <;> simp

@[simp] theorem State.samePower_retireRank (s : State) (ch r : Nat) (dest : Option Nat) :
    s.SamePower (s.retireRank ch r dest) := by
  simp [State.retireRank]

@[simp] theorem State.samePower_rankLost (s : State) (ch r : Nat) : s.SamePower (s.rankLost ch r) := by simp [State.rankLost]

@[simp] theorem keepsPower_execDramUncorrectableError (s : State) (ch rank line : Nat) :
    s.KeepsPower (execDramUncorrectableError ch rank line s) := by
  unfold execDramUncorrectableError
  dsimp only
  split
  · simp
  split
  · simp
  split
  · simp
  split <;> simp

@[simp] theorem keepsPower_execMigrationDone (s : State) : s.KeepsPower (execMigrationDone s) := by
  unfold execMigrationDone
  dsimp only
  split
  · simp
  split
  · simp
  split
  · split <;> simp
  split <;> simp

@[simp] theorem State.samePower_residentSettings (s : State) : s.SamePower s.residentSettings := by
  simp [State.residentSettings, State.routeEvents, State.residentArrivals, State.setArr]

@[simp] theorem State.samePower_askGrains (s : State) (v m addr n : Nat) (level : BitVec 3) :
    s.SamePower (s.askGrains v m addr n level) := by
  simp [State.askGrains]

@[simp] theorem State.samePower_sendKept (s : State) (v m addr : Nat) (level : BitVec 3) (gs : List (List Byte × List Byte)) :
    s.SamePower (s.sendKept v m addr level gs) := by
  simp [State.sendKept]

@[simp] theorem State.samePower_sendFresh (s : State) (l : Layout) (z i j g m : Nat) (level : BitVec 3) (gs : List (List Byte))
    : s.SamePower (s.sendFresh l z i j g m level gs) := by
  simp [State.sendFresh]

@[simp] theorem keepsPower_execStripeSeal (s : State) (v z st : Nat) : s.KeepsPower (execStripeSeal v z st s) := by
  unfold execStripeSeal
  split <;> simp

@[simp] theorem State.samePower_loseRow (s : State) (l : Layout) (z i j g lost : Nat) :
    s.SamePower (s.loseRow l z i j g lost) := by
  simp [State.loseRow]

@[simp] theorem State.samePower_markRebuilding (s : State) (m : Nat) : s.SamePower (s.markRebuilding m) := by
  unfold State.markRebuilding
  split <;> simp

@[simp] theorem State.samePower_rebuildPiece (s : State) (l : Layout) (z i : Nat) (gs : List PieceGrain) (j : Nat) :
    s.SamePower (s.rebuildPiece l z i gs j) := by
  unfold State.rebuildPiece
  split
  · exact ⟨rfl, rfl⟩
  dsimp only
  refine State.SamePower.trans (t := List.foldl _ _ _) (foldl_samePower (fun s x => ?_) _ _)
    (State.SamePower.trans (t := List.foldl _ _ _) (foldl_samePower (fun s g => ?_) _ _)
      ((State.samePower_markRebuilding _ _).trans (foldl_samePower (fun s r => ?_) _ _)))
  · split <;> simp
  · split
    · exact samePower_ite (by simp) ⟨rfl, rfl⟩
    · exact ⟨rfl, rfl⟩
  · exact samePower_ite (by simp) (by simp)

@[simp] theorem State.samePower_rebuildOpen (s : State) (l : Layout) (z i : Nat) (gs : List PieceGrain) (j : Nat) :
    s.SamePower (s.rebuildOpen l z i gs j) := by
  unfold State.rebuildOpen
  dsimp only
  split <;> simp

@[simp] theorem State.samePower_rebuildStripe (s : State) (l : Layout) (z i : Nat) (gs : List PieceGrain) :
    s.SamePower (s.rebuildStripe l z i gs) := by
  simp [State.rebuildStripe]

@[simp] theorem keepsPower_execZoneRebuild (s : State) (v z : Nat) (gs : List PieceGrain) :
    s.KeepsPower (execZoneRebuild v z gs s) := by
  unfold execZoneRebuild
  dsimp only
  split <;> simp

@[simp] theorem keepsPower_execStripeParityCheck (s : State) (v z st : Nat) (gs : List PieceGrain) :
    s.KeepsPower (execStripeParityCheck v z st gs s) := by
  unfold execStripeParityCheck
  rw [State.keepsPower_next]
  split
  · exact ⟨rfl, rfl⟩
  dsimp only
  refine samePower_ite ⟨rfl, rfl⟩ ?_
  refine State.SamePower.trans (t := List.foldl _ _ _) (foldl_samePower (fun s m => ?_) _ _)
    (State.SamePower.trans (t := List.foldl _ _ _) (foldl_samePower (fun s x => ?_) _ _)
      (samePower_ite ⟨rfl, rfl⟩ (samePower_ite ⟨rfl, rfl⟩ (.trans (foldl_samePower (fun s p => ?_) _ _)
        (State.samePower_residentRecord _ _)))))
  · simp
  · split <;> simp
  · split
    · exact samePower_ite (by simp) (by simp)
    · exact ⟨rfl, rfl⟩

@[simp] theorem keepsPower_execReshapeStart (s : State) (v : Nat) : s.KeepsPower (execReshapeStart v s) := by
  unfold execReshapeStart
  dsimp only
  split <;> simp

@[simp] theorem State.samePower_passBound (s : State) (l : Layout) : s.SamePower (s.passBound l) := by
  simp [State.passBound, State.reshapeEnd]

@[simp] theorem State.samePower_copyZone (s : State) (l : Layout) (z : Nat) (gs : List PieceGrain) :
    s.SamePower (s.copyZone l z gs) := by
  unfold State.copyZone
  dsimp only
  refine foldl_samePower_trans (fun t x => ?_) (by simp)
  split
  · split <;> simp
  split <;> simp

@[simp] theorem keepsPower_execReshapeZoneMove (s : State) (v : Nat) (gs : List PieceGrain) :
    s.KeepsPower (execReshapeZoneMove v gs s) := by
  unfold execReshapeZoneMove
  dsimp only
  split <;> simp

@[simp] theorem State.samePower_domesAtStart (s : State) : s.SamePower s.domesAtStart := by simp [State.domesAtStart]

@[simp] theorem State.samePower_hostTrain (s : State) (links : List (BitVec 4 × BitVec 5)) :
    s.SamePower (s.hostTrain links) := by
  simp [State.hostTrain]

@[simp] theorem State.samePower_setStep (s : State) (n : Nat) : s.SamePower (s.setStep n) := by simp [State.setStep]

@[simp] theorem State.samePower_trustRegs (s : State) : s.SamePower s.trustRegs := by simp [State.trustRegs]

@[simp] theorem State.samePower_bootBlock (s : State) (k : Nat) : s.SamePower (s.bootBlock k) := by simp [State.bootBlock]

@[simp] theorem State.samePower_restoreVault (s : State) : s.SamePower s.restoreVault := by
  unfold State.restoreVault
  dsimp only
  split
  · simp
  split
  · simp
  refine foldl_samePower_trans (fun t x => ?_) (by simp)
  split <;> simp

@[simp] theorem State.samePower_calibrate (s : State) (b : BoardPins) : s.SamePower (s.calibrate b) := by
  simp [State.calibrate, State.loadOwners, State.setItem]

@[simp] theorem State.samePower_planDram (s : State) (fit : List ((Nat × Nat) × Nat)) (mask : BitVec 4) (bch : Nat) :
    s.SamePower (s.planDram fit mask bch) := by
  simp [State.planDram]

@[simp] theorem State.samePower_trainDram (s : State) (b : BoardPins) (mask : BitVec 4) (second : Bool) :
    s.SamePower (s.trainDram b mask second) := by
  unfold State.trainDram
  dsimp only
  split <;> simp

@[simp] theorem State.samePower_trainChan (s : State) (p : StartPins) (f : DieFamily) (ch : Nat) :
    s.SamePower (s.trainChan p f ch) := by
  simp [State.trainChan, State.trainTimes, State.trainEnable, State.describe]

@[simp] theorem State.samePower_trainNand (s : State) (p : StartPins) : s.SamePower (s.trainNand p) := by
  unfold State.trainNand
  dsimp only
  split
  · simp
  split <;> simp

@[simp] theorem State.samePower_loadLevels (s : State) (dflt : Option (List W64 × List Nat)) :
    s.SamePower (s.loadLevels dflt) := by
  have stored (f : Nat → Nat) (g : State → Nat → W64) (l : List Nat) (u : State) :
      u.SamePower (l.foldl (fun (u : State) i => u.setReg (f i) (g u i)) u) :=
    foldl_samePower (fun u i => u.samePower_setReg _ _) l u
  rw [show State.loadLevels = _ by delta State.loadLevels; rfl]
  obtain ⟨crc, hcrc⟩ : ∃ f, f = crc32 := ⟨_, rfl⟩
  rw [← hcrc]
  dsimp only
  refine samePower_ite ?_ ?_
  · simp only [State.SamePower, State.putCare_frame]
    exact (stored _ _ _ s).trans (foldl_samePower (fun u ch => stored _ _ _ u) _ _)
  · split
    · exact ⟨rfl, rfl⟩
    · exact (stored _ _ _ s).trans (foldl_samePower (fun u ch => samePower_ite ⟨rfl, rfl⟩ (stored _ _ _ u)) _ _)

@[simp] theorem State.samePower_loadDefaults (s : State) (ds : List Nat) : s.SamePower (s.loadDefaults ds) := by
  simp [State.loadDefaults]

@[simp] theorem State.samePower_recoverIngot (s : State) (power : Bool) : s.SamePower (s.recoverIngot power) := by
  simp [State.recoverIngot, State.recoverLog, State.recoverCounter, State.recoverHealth, State.recoverAlmanac]

@[simp] theorem State.samePower_applyPatches (s : State) (m : Image) : s.SamePower (s.applyPatches m) := by
  simp [State.applyPatches]

@[simp] theorem State.samePower_checkBank (s : State) (b : Nat) (sig : Bool) : s.SamePower (s.checkBank b sig).2 := by
  unfold State.checkBank
  dsimp only
  split
  · simp
  split <;> simp

@[simp] theorem State.samePower_tryBank (s : State) (power trained : Bool) (p : StartPins) (b : Nat) :
    s.SamePower (s.tryBank power trained p b).2 := by
  unfold State.tryBank
  dsimp only
  split
  · simp
  split <;> simp

@[simp] theorem State.samePower_startImage (s : State) (b : Nat) : s.SamePower (s.startImage b) := by
  simp [State.startImage, State.configure, State.loadData]

@[simp] theorem State.samePower_enterRecovery (s : State) (power trained : Bool) (p : StartPins) :
    s.SamePower (s.enterRecovery power trained p) := by
  simp [State.enterRecovery]

@[simp] theorem State.samePower_chooseImage (s : State) (power : Bool) (p : StartPins) :
    s.SamePower (s.chooseImage power p) := by
  unfold State.chooseImage
  dsimp only
  split
  · simp
  split
  · simp
  split
  · simp
  split <;> simp

@[simp] theorem State.samePower_recoverExtent (s : State) (n : Nat) : s.SamePower (s.recoverExtent n) := by
  unfold State.recoverExtent
  dsimp only
  split
  · simp
  split
  · simp
  split <;> simp

@[simp] theorem State.samePower_recoverZones (s : State) : s.SamePower s.recoverZones := by
  simp [State.recoverZones, State.holdTokens, State.eraseAgain, State.outsideDies]

@[simp] theorem State.samePower_startSpan (s : State) : s.SamePower s.startSpan := by simp [State.startSpan]

@[simp] theorem State.samePower_readyCtrl (s : State) (f : Nat) : s.SamePower (s.readyCtrl f) := by simp [State.readyCtrl]

@[simp] theorem State.samePower_readyHigh (s : State) : s.SamePower s.readyHigh := by simp [State.readyHigh, State.readyAll]

@[simp] theorem State.samePower_bringUp (s : State) (b : BoardPins) : s.SamePower (s.bringUp b) := by
  unfold State.bringUp
  dsimp only
  generalize hu : ((s.domesAtStart.hostTrain b.hostLink).trustRegs.setStep 1).extendMr 0 _ = u
  have begun : s.SamePower u := by rw [← hu]; simp
  generalize hv : (if (_ && _) = true then _ else u) = v
  have noted : s.SamePower v := by rw [← hv]; exact samePower_ite (begun.trans (by simp)) begun
  split
  · exact noted.trans (by simp)
  · refine samePower_ite noted (noted.trans ?_)
    simp

@[simp] theorem keepsPower_execPowerFail (s : State) : s.KeepsPower (execPowerFail s) := by
  unfold execPowerFail
  dsimp only
  split
  · simp
  split <;> simp

@[simp] theorem State.samePower_coreTouch (s : State) (c : CoreId) (l : Loc) (n : Nat) : s.SamePower (s.coreTouch c l n) := by
  unfold State.coreTouch
  split <;> simp

@[simp] theorem State.samePower_coreWrite (s : State) (c : CoreId) (l : Loc) (bs : List Byte) :
    s.SamePower (s.coreWrite c l bs) := by
  unfold State.coreWrite
  dsimp only
  split <;> simp

@[simp] theorem State.samePower_instWrite (s : State) (j w : Nat) (v : W64) : s.SamePower (s.instWrite j w v) := by
  simp [State.instWrite]

@[simp] theorem State.samePower_loadValue (s : State) (c : CoreId) (l : Loc) (n : Nat) : s.SamePower (s.loadValue c l n).2 := by
  unfold State.loadValue
  dsimp only
  split <;> simp

@[simp] theorem keepsPower_load (s : State) (c : CoreId) (a b : GReg) (x : BitVec 9) (i : Imm32) (n : Nat) :
    s.KeepsPower (load c a b x i n s) := by
  unfold load
  dsimp only
  split
  · simp
  refine keepsPower_onCore (fun s => ?_)
  split <;> simp

@[simp] theorem State.samePower_storeValue (s : State) (c : CoreId) (l : Loc) (n : Nat) (v : W64) :
    s.SamePower (s.storeValue c l n v) := by
  unfold State.storeValue
  split <;> simp

@[simp] theorem keepsPower_store (s : State) (c : CoreId) (a b : GReg) (x : BitVec 9) (i : Imm32) (n : Nat) :
    s.KeepsPower (store c a b x i n s) := by
  unfold store
  dsimp only
  split
  · simp
  refine keepsPower_onCore (fun s => ?_)
  split <;> simp

@[simp] theorem keepsPower_execTld (s : State) (c : CoreId) (a b : GReg) (x : BitVec 9) (i : Imm32) :
    s.KeepsPower (execTld c a b x i s) := by
  unfold execTld
  dsimp only
  split
  · simp
  refine keepsPower_onCore (fun s => ?_)
  split <;> simp

@[simp] theorem keepsPower_execTst (s : State) (c : CoreId) (a b : GReg) (x : BitVec 9) (i : Imm32) :
    s.KeepsPower (execTst c a b x i s) := by
  unfold execTst
  dsimp only
  split
  · simp
  refine keepsPower_onCore (fun s => ?_)
  split <;> simp

@[simp] theorem keepsPower_atomic (s : State) (c : CoreId) (a b : GReg) (x : BitVec 9) (f : Core → W64 → Option W64 × W64) :
    s.KeepsPower (atomic c a b x s f) := by
  refine keepsPower_onCore fun s => samePower_ite (by simp) ?_
  split
  · simp
  · refine State.samePower_unlessReset (by simp) fun s => ?_
    dsimp only
    refine State.SamePower.trans ?_ (State.samePower_stepCore _ _ _ _)
    split <;> simp

end Sys2Proof.Machine
end

section
/-! the rows that put a power state, and every step (O4) -/

namespace Sys2Proof.Machine

/-- A legal power state stays legal where it is kept. -/
theorem State.SamePower.legal {s t : State} (h : s.SamePower t) (hs : s.PowerLegal) : t.PowerLegal := by
  obtain ⟨power, op⟩ := h
  rw [State.PowerLegal, power, op]
  exact hs

theorem powerLegal_ite {c : Prop} [Decidable c] {s t : State} (hs : s.PowerLegal) (ht : t.PowerLegal) :
    (if c then s else t).PowerLegal := by
  split
  · exact hs
  · exact ht

/-- The power state that SET FEATURES, a doorbell or a fetch puts is one of PS0 to PS4 (R526, R527). -/
theorem State.powerLegal_setPower {s : State} {ps : Nat} (hs : s.PowerLegal) (hps : ps ≤ 4) : (s.setPower ps).PowerLegal := by
  have put : ((s.putPower ps).putPowerOp (if ps < 3 then ps else s.powerOp)).PowerLegal := by
    obtain ⟨-, op⟩ := hs
    refine ⟨hps, ?_⟩
    change (if ps < 3 then ps else s.powerOp) ≤ 2
    split
    · omega
    · exact op
  refine State.SamePower.legal ?_ put
  unfold State.setPower
  dsimp only
  refine State.SamePower.trans ?_ (State.samePower_followBanks _)
  refine State.SamePower.trans (t := List.foldl _ _ _) ?_ (foldl_samePower (fun s p => samePower_ite ⟨rfl, rfl⟩ (by simp)) _ _)
  refine State.SamePower.trans ?_ (foldl_samePower (fun s p => samePower_ite ⟨rfl, rfl⟩ (by simp)) _ _)
  refine State.SamePower.trans ?_ (State.samePower_powerDram _ _)
  refine State.SamePower.trans ?_ (State.samePower_slowLinks _ _)
  exact samePower_ite (by simp) (by simp)

theorem State.powerLegal_powerUp {s : State} (hs : s.PowerLegal) : s.powerUp.PowerLegal :=
  powerLegal_ite (State.powerLegal_setPower hs (hs.2.trans (by decide))) hs

theorem State.powerLegal_doorbellEvent {s : State} (n : Nat) (q : SQ) (hs : s.PowerLegal) : (s.doorbellEvent n q).PowerLegal := by
  refine powerLegal_ite ?_ hs
  refine State.SamePower.legal (.trans (State.samePower_takeFree _) (State.samePower_wakeAll _ _ _)) (State.powerLegal_powerUp ?_)
  exact State.SamePower.legal (by simp) hs

theorem State.powerLegal_fetchEntry {s : State} (n : Nat) (q : SQ) (e : BitVec 512) (pre : List Byte) (haz : Option Nat)
    (hs : s.PowerLegal) : (s.fetchEntry n q e pre haz).PowerLegal := by
  unfold State.fetchEntry
  split
  · exact hs
  next h t ht =>
  have placed : t.PowerLegal := State.SamePower.legal (State.samePower_alloc ht) hs
  dsimp only
  generalize hu : State.setSq _ n _ = u
  have listed : u.PowerLegal := hu ▸ State.SamePower.legal (by simp) placed
  generalize hv : (if q.hostId = 0 then u else u.powerUp) = v
  have woken : v.PowerLegal := hv ▸ powerLegal_ite listed (State.powerLegal_powerUp listed)
  generalize hw : State.postFetch v _ _ = w
  have posted : w.PowerLegal := hw ▸ State.SamePower.legal (State.samePower_postFetch v _ _) woken
  refine powerLegal_ite ?_ (powerLegal_ite ?_ (powerLegal_ite ?_ posted))
  all_goals exact State.SamePower.legal (by simp) posted

/-- A restart begins in PS0. -/
theorem State.powerLegal_restart (s : State) (p : StartPins) : (s.restart p).PowerLegal := by
  have begun (u : State) : ((u.putPower 0).putPowerOp 0).PowerLegal := by simp [State.PowerLegal]
  have cool (u : State) : u.SamePower ((((((u.putStopped false).putCoolSince none).putRise []).setRfld thermCfg 12 1 0).setStep 4).setStep 5) := by
    simp
  have started (u : State) : u.SamePower (((u.chooseImage false p).loadLevels none).startSpan.recoverZones.readyHigh) := by
    simp
  exact State.SamePower.legal ((cool _).trans (started _)) (begun ((s.dropRanks.domesAtStart.putSqs []).putCqs []))

theorem powerLegal_execWorkerRestart {s t : State} {sigs : BitVec 2} {nand : NandPins} (hs : s.PowerLegal)
    (h : execWorkerRestart sigs nand s = .next t) : t.PowerLegal := by
  cases h
  exact powerLegal_ite (State.powerLegal_restart _ _) hs

theorem powerLegal_execControllerEnable {s t : State} {func : Nat} {cc aqa : BitVec 32} {asq acq : W64} {sigs : BitVec 2} {nand : NandPins}
    (hs : s.PowerLegal) (h : execControllerEnable func cc aqa asq acq sigs nand s = .next t) : t.PowerLegal := by
  rw [← Host.Outcome.next.inj h]
  dsimp only
  refine powerLegal_ite hs (powerLegal_ite (State.powerLegal_restart _ _) ?_)
  refine State.SamePower.legal (samePower_ite ?_ ?_) hs
  · simp
  · simp

theorem powerLegal_execSqTailDoorbell {s t : State} {func y : Nat} {v : BitVec 32} (hs : s.PowerLegal)
    (h : execSqTailDoorbell func y v s = .next t) : t.PowerLegal := by
  rw [← Host.Outcome.next.inj h]
  split
  · exact State.SamePower.legal (State.samePower_asyncEvent _ _ _) hs
  · refine powerLegal_ite (State.SamePower.legal (State.samePower_asyncEvent _ _ _) hs) (State.powerLegal_doorbellEvent _ _ ?_)
    exact State.SamePower.legal (State.samePower_setSq _ _ _) hs

theorem powerLegal_execSqFetch {s t : State} {q : Nat} {e : BitVec 512} {pre : List Byte} (hs : s.PowerLegal)
    (h : execSqFetch q e pre s = .next t) : t.PowerLegal := by
  rw [← Host.Outcome.next.inj h]
  refine powerLegal_ite hs ?_
  split
  · exact hs
  split
  · exact hs
  split
  · exact hs
  refine powerLegal_ite hs (powerLegal_ite ?_ (powerLegal_ite hs ?_))
  · split
    · exact State.SamePower.legal (by simp) hs
    next ha =>
      refine powerLegal_ite hs (State.SamePower.legal (State.samePower_chargeFetch _ _ _) (State.powerLegal_fetchEntry _ _ _ _ _ ?_))
      exact State.SamePower.legal (.trans (State.samePower_armHaz ha) (by simp)) hs
  · exact State.SamePower.legal (State.samePower_chargeFetch _ _ _) (State.powerLegal_fetchEntry _ _ _ _ _ hs)

theorem powerLegal_onCmd {s t : State} {k : W64} {admin : Bool} {op : Nat} {f : State → Cmd → State}
    (hf : ∀ (u : State) d, u.PowerLegal → (f u d).PowerLegal) (hs : s.PowerLegal) (h : onCmd s k admin op f = .next t) : t.PowerLegal := by
  rw [← Host.Outcome.next.inj h]
  have taken : (s.takeEvent k).PowerLegal := State.SamePower.legal (s.samePower_takeEvent k) hs
  split
  · refine powerLegal_ite hs (powerLegal_ite ?_ (powerLegal_ite ?_ (hf _ _ taken)))
    · exact State.SamePower.legal (State.samePower_squashCmd _ _) taken
    · exact State.SamePower.legal (State.samePower_respond _ _ _ _ _) taken
  · exact hs

theorem powerLegal_execSetFeaturesPowerManagement {s t : State} {k : W64} (hs : s.PowerLegal)
    (h : execSetFeaturesPowerManagement k s = .next t) : t.PowerLegal := by
  unfold execSetFeaturesPowerManagement onSetFeature at h
  refine powerLegal_onCmd (fun u d hu => ?_) hs h
  have finished (st : BitVec 15) : (u.finish d st).PowerLegal := State.SamePower.legal (State.samePower_finish _ _ _) hu
  refine powerLegal_ite hu (powerLegal_ite (finished _) ?_)
  dsimp only
  split
  · exact finished _
  next hps =>
    have within : d.dw 11 % 32 ≤ 4 := by omega
    exact State.SamePower.legal (State.samePower_finish _ _ _) (State.powerLegal_setPower hu within)

/-- What returns after a power-down begins in PS0. -/
theorem powerLegal_execPowerDown {s t : State} (h : execPowerDown s = .next t) : t.PowerLegal := by
  rw [← Host.Outcome.next.inj h]
  exact ⟨Nat.zero_le 4, Nat.zero_le 2⟩

theorem State.KeepsPower.legal {s t : State} {r : Res} (hr : s.KeepsPower r) (hs : s.PowerLegal) (h : r = .next t) : t.PowerLegal :=
  State.SamePower.legal (hr t h) hs

/-- Six rows put a power state, each a legal one; every other row keeps both. -/
theorem exec_powerLegal (i : Instr) {s t : State} (hs : s.PowerLegal) : exec i s = .next t → t.PowerLegal := by
  cases i with
  | sqFetch => exact powerLegal_execSqFetch hs
  | sqTailDoorbell => exact powerLegal_execSqTailDoorbell hs
  | controllerEnable => exact powerLegal_execControllerEnable hs
  | setFeaturesPowerManagement => exact powerLegal_execSetFeaturesPowerManagement hs
  | workerRestart => exact powerLegal_execWorkerRestart hs
  | powerDown => exact powerLegal_execPowerDown
  | _ =>
    refine State.KeepsPower.legal ?_ hs
    delta exec
    simp [execNop, execAdd, execSub, execAddi, execMul, execMulhi, execDivq, execModq, execAnd, execOr, execXor, execAndi,
      execOri, execXori, execShl, execShr, execShra, execShli, execShri, execShrai, execLi, execLih, execLts, execLtu,
      execMinu, execMaxu, execSel, execExt, execExts, execIns, execClz, execCtz, execPopc, execBswap, execCrc32, execJmp,
      execBeq, execBne, execBlt, execBge, execBltu, execBgeu, execBeqi, execBnei, execCall, execLoop, execSwitch, execTrap,
      execIllegalInstruction, execTfx, execTfi, execTclr, execTmov, execTcmp, execMfoc, execMtick, execCoreid, execCredits,
      execFence, execMcyc, execSreset, execTseq, execHzchk, execRpush, execQctlPause, execQctlResume, execQctlSetOwner,
      execQctlSetLevel, execQctlRetire, execHlth, execMapLookupDone, execSoftDecode, execFlashReadDone, execRawReadDone,
      execFlashProgramDone, execFlashEraseDone, execDieStatusDone, execFeatureDone, execChannelMachineCheck,
      execChannelWatchdog, execLocalResetDone, execDirNoAction, execDirTakeVerb, execDirCompleteVerb, execDirSetOutcome,
      execDirCountSuspend, execDirRecordResume, execDirSelectDie, execDirSetCounter, execDirDecrementCounter, execDirAdvance,
      execOperatingTimeUpdate, execHealthCounterCopy, execWakeSource, execCoolingGapUpdate, execRisePrediction,
      State.stopDomes, execFlashPackagePoll, State.notePkg, execFunctionLevelReset, execControllerDisable, execFlitReceipt,
      execLinkRetraining, execLinkDown, execLinkRetry, execSpanTraining, State.keepTwo, execPing, execIdent, execRoute,
      State.exchangeMap, execAssign, State.workerRoutes, execHorizon, State.horizonReport, execLost, State.breakRoute,
      execRestart, execNumberOfQueues, execSecondaryAssign, execSecondaryOnline, execSecondaryOffline,
      execSetFeaturesArbitration, execSetFeaturesTemperatureThreshold, execSetFeaturesFdp, execFinishZoneRecommended,
      execPreserveStateEntry, execPreserveStateExit, execGread, execGtrim, execGzoneReset, execGzoneFinish, execGzoneRead,
      execStatus, execCkptReserveBound, execCkptZoneState, execCkptGroupTransfer, execCkptLostRange, execGetVersion,
      execGetCapabilities, execNegotiateAlgorithms, execGetDigests, execGetCertificate, execChallenge, execGetMeasurements,
      execKeyExchange, execFinish, execHeartbeat, execKeyUpdate, execEndSession, execKeyImport, execKeyStatus, execOwnerEnroll,
      execOwnerWithdraw, execDebugSet, execMeasureExtend, execSecuritySend, execGate, execSquash, execSquashAbort, execMlook,
      execMcommit, execMtrim, execMzoneReserve, execMzoneReserveToken, execMzoneSetState, execMzoneReset, execMzoneFinish,
      execMzoneRead, execFread, execFprog, execFerase, execFstat, execFfeatGet, execFfeatSet, execFraw, execFcancel, execDmin,
      execDmout, execDmcopy, execDmcopyFramed, execDmfill, execXts, execCmac, execVslotStatus, execVslotClear, execVslotFill,
      execVslotImport, execVslotBind, execPxor, execPmac, execPcheck, execSreq, execSresp, execSlinkState, execSlinkRetrain,
      execSlinkDisable, execSlinkEnable, execSlinkEnumerate, execArec, execVote, execFaultWindowCut, execStartActivation,
      execBoundExcess, execRegisterWrite, execTimePeriodWrite, execTimePeriodLock, execPllSlip, execSchedCtlRun,
      execSchedCtlSwap, execSchedCtlResume, execSchedStatClear, execSchedEphDataWrite, execSchedHovmaskWrite,
      execSchedFaultWrite, execCheckerRegionWrite, execQengRcfgWrite, execHazWsnfloorWrite, execIngotLtailWrite,
      execTunMinWrite, execTunCtlLock, execDramFchgGo, execFrequencyChangeDone, execDramTrunGo, execTrainingRunDone,
      execDramPortTargetWrite, execScrubStart, execShareRdoneWrite, execSliceReset, execShareSliceWrite, execThermPkgWrite,
      execSecBmexitWrite, execMediationWindowAccess, State.windowWrite, execPatProgram, execPatErase, execPatRdataRead,
      execPatBulkRead, execFirmwareCommitWriteOnly, execFirmwareCommitAtReset, execFirmwareCommitExisting, execWrite,
      execWriteUncorrectable, execWriteZeroes, execZoneAppend, execZoneAppendWithToken, execRead, execVerify, execLevelSweep,
      execReadLevelCheckpoint, execHealthHistoryEntry, execGetLogPageAlmanac, execGetLogPageTickStatistics, execSelfTestShort,
      execSelfTestExtended, execSelfTestAbort, execDirectiveSend, execDirectiveReceive, execAlmanacSeal, State.sealTo,
      execSramCorrectedRead, execSramUncorrectableError, execPerstDeassertion, State.sampleStraps, execPerstAssertion,
      State.hostDown, execPowerFailTimeout, execShutdownNotification, execLd8, execLd16, execLd32, execLd64, execSt8, execSt16,
      execSt32, execSt64, execClad, execClcx, execClsw]

/-- Settles O4: the command at the front leaves a legal power state, and an empty queue changes nothing. -/
theorem stepKeepsPowerLegal : Obligations.StepKeepsPowerLegal := by
  intro s t hs h
  cases hq : s.pending with
  | nil =>
    rw [step_nil s hq] at h
    rw [← Host.Outcome.next.inj h]
    exact hs
  | cons i rest =>
    have run : exec i (s.putPending rest) = .next t := by
      rw [← h]
      unfold step
      rw [hq]
    have queued : (s.putPending rest).PowerLegal := State.SamePower.legal (by simp) hs
    exact exec_powerLegal i queued run

end Sys2Proof.Machine
end

section
/-! PROOFS. The statements of 15_power_heat_almanac.md, third part: the almanac, the operating time and the copies. -/

namespace Sys2Proof.Machine

/-! ## The almanac (R539, R541, R543) -/

section
variable {s : State} {r : AlmRec} {q : List AlmRec}

/-- With its store open and awake, the almanac writes its oldest record, or drops it from a full log. -/
theorem exec_almanacWrite (hq : s.alm.queue = r :: q) (hd : s.domeOn 28 = true) (ho : s.ingotOpen = true)
    (hr : s.alm.rdy = true) (hw : s.alm.woke = false) :
    exec .almanacWrite s = .next (if almSlots ≤ s.alm.held then s.almDrop r q else (s.almStore r q).almFull) := by
  change execAlmanacWrite s = _
  unfold execAlmanacWrite
  rw [hq]
  dsimp only
  rw [hd, ho, hr, hw, if_neg (by decide), if_neg (by decide), if_neg (fun h => Bool.false_ne_true h.2)]

/-- A dropped record that no request waits for is only counted. -/
theorem State.almDrop_noRequest (h : r.req = none) :
    s.almDrop r q = s.putAlm { s.alm with queue := q, lost := satAdd 32 s.alm.lost 1 } := by
  unfold State.almDrop
  rw [h]
  rfl

theorem State.almFull_room (h : s.alm.held < almSlots) : s.almFull = s := if_neg (Nat.ne_of_lt h)

end

/-! ## The operating time (R539) and the health history (R246) -/

theorem exec_operatingTimeUpdate {s : State} (hr : s.alm.rdy = true) :
    let t := s.putAlm { s.alm with optime := (s.alm.optime + 1) % 2 ^ 48 }
    exec .operatingTimeUpdate s = .next (if (s.ingotOpen && s.domeOn 28) = true then
      t.putIngot (wrNum s.ingot optimeOff 8 ((s.alm.optime + 1) % 2 ^ 48)) else t) := by
  change execOperatingTimeUpdate s = _
  unfold execOperatingTimeUpdate
  rw [if_pos hr]
  rfl

/-- The time advances in the almanac, and where the store is open its word reads the new time. -/
theorem operatingTimeUpdate_result {s : State} (hr : s.alm.rdy = true) :
    ∃ t : State, exec .operatingTimeUpdate s = .next t ∧ t.alm.optime = (s.alm.optime + 1) % 2 ^ 48 ∧ t.alm.queue = s.alm.queue ∧
      (s.ingotOpen = true → s.domeOn 28 = true → rdNum t.ingot optimeOff 8 = (s.alm.optime + 1) % 2 ^ 48) := by
  refine ⟨_, exec_operatingTimeUpdate hr, ?_⟩
  split
  · exact ⟨rfl, rfl, fun _ _ => rdNum_wrNum _ _ (by omega)⟩
  · next closed => exact ⟨rfl, rfl, fun ho hd => absurd (by rw [ho, hd]; rfl) closed⟩

/-- The last `m` of a list that has grown by one entry. -/
theorem length_getLast?_drop_snoc {α : Type} (l : List α) (a : α) {m : Nat} (hm : 0 < m) :
    ((l ++ [a]).drop ((l ++ [a]).length - m)).length = min m (l.length + 1) ∧
      ((l ++ [a]).drop ((l ++ [a]).length - m)).getLast? = some a := by
  have size : (l ++ [a]).length = l.length + 1 := List.length_append
  refine ⟨by rw [List.length_drop, size]; omega, ?_⟩
  rw [List.getLast?_drop, if_neg (by omega), List.getLast?_concat]

/-- In a new operating hour the history takes one entry and keeps the last 720. -/
theorem healthHistoryEntry_result {s : State} (hu : s.up) (hh : s.history.hour < s.alm.optime / 65536) :
    ∃ t : State, exec .healthHistoryEntry s = .next t ∧ t.history.hour = s.alm.optime / 65536 ∧
      t.history.entries.length = min 720 (s.history.entries.length + 1) ∧ t.history.entries.getLast? = some s.historyEntry := by
  have due : ¬(s.boot.down = true ∨ s.alm.optime / 65536 ≤ s.history.hour) := by
    rw [show s.boot.down = false from hu]
    simpa using hh
  obtain ⟨size, newest⟩ := length_getLast?_drop_snoc s.history.entries s.historyEntry (m := 720) (by decide)
  change ∃ t : State, execHealthHistoryEntry s = .next t ∧ _
  rw [execHealthHistoryEntry]
  dsimp only
  rw [if_neg due]
  refine ⟨_, rfl, ?_⟩
  dsimp only [State.putHistory_history]
  exact ⟨rfl, size, newest⟩

/-! ## The statement -/

/-- Settles O49: a row for each clause. That the log counts as full with one slot of its last sector left, and what an event of a full
log carries beside its page, are the model's choices (log entries 56, 123), as are the layouts of the copies (log entries 25, 63). -/
theorem almanacResults : Obligations.AlmanacResults := by
  intro s
  refine ⟨fun r q hq hd ho hr hw => ⟨fun full => ⟨?_, fun hn => ?_⟩, fun room => ⟨?_, fun more => State.almFull_room more, rfl, rfl⟩⟩,
    operatingTimeUpdate_result, fun ho hd => congrArg Host.Outcome.next (if_pos (by rw [ho, hd]; rfl)),
    fun hu ho ht => congrArg Host.Outcome.next (if_neg ?_), healthHistoryEntry_result⟩
  · rw [exec_almanacWrite hq hd ho hr hw, if_pos full]
  · rw [State.almDrop_noRequest hn]
    exact ⟨rfl, rfl, rfl⟩
  · rw [exec_almanacWrite hq hd ho hr hw, if_neg (Nat.not_le.mpr room)]
  · rw [show s.boot.down = false from hu, ho, ht]
    decide

end Sys2Proof.Machine
end

section
/-! PROOFS. The statements of 07_host_port_and_queues.md, first part: admin commands over queues, secondary controllers,
aborts and event requests. -/

namespace Sys2Proof.Machine

section
variable {s u : State} {k : W64} {d : Cmd} (hu : s.takeEvent k = u)
include hu

/-! ## Queues (R224, R225, R484) -/

section
variable (hw : s.Waits k true 0x05 d)
include hw

theorem exec_createIoCq_badId (h : d.qid = 0 ∨ u.granted d.func < d.qid ∨ (u.cqOf d.func d.qid).isSome = true) :
    exec (.createIoCq k) s = .next (u.finish d stQueueId) := by
  show execCreateIoCq k s = _
  rw [execCreateIoCq, onCmd_waits _ hw, hu]
  exact congrArg _ (if_pos h)

/-- A completion queue that can be made is in place when its command succeeds, empty and with its phase at 1. -/
theorem exec_createIoCq_made {n : Nat} (h0 : d.qid ≠ 0) (hg : d.qid ≤ u.granted d.func) (hf : u.cqOf d.func d.qid = none)
    (hs : d.shapeBad = none) (hp : u.pasidBad d = false) (he : fld (u.ctrl d.func).cc 20 4 = 4)
    (hi : bit (BitVec.ofNat 32 (d.dw 11)) 1 = false) (hn : freeNumber (u.cqs.map (·.1)) = some n) :
    ∃ x : CQ, x.base = d.prp1 ∧ x.entries = d.qsize ∧ x.func = d.func ∧ x.hostId = d.qid ∧ x.tail = 0 ∧ x.head = 0 ∧
      x.phase = true ∧ exec (.createIoCq k) s = .next ((u.setCq n (some x)).finish d stOk) := by
  show ∃ x : CQ, _ ∧ _ ∧ _ ∧ _ ∧ _ ∧ _ ∧ _ ∧ execCreateIoCq k s = _
  rw [execCreateIoCq, onCmd_waits _ hw, hu]
  dsimp only
  rw [if_neg (by rw [hf]; simpa [h0] using hg), hs]
  dsimp only
  rw [if_neg (by simp [hp, he]), if_neg (by simp [hi]), hn]
  exact ⟨_, rfl, rfl, rfl, rfl, rfl, rfl, rfl, rfl⟩

end

section
variable (hw : s.Waits k true 0x01 d)
include hw

theorem exec_createIoSq_noCq (h : u.cqOf d.func (d.dw 11 / 65536) = none) :
    exec (.createIoSq k) s = .next (u.finish d stCqInvalid) := by
  show execCreateIoSq k s = _
  rw [execCreateIoSq, onCmd_waits _ hw, hu, h, ite_self]

/-- A submission queue that can be made is in place when its command succeeds, empty and with its level. -/
theorem exec_createIoSq_made {n cq : Nat} {x : CQ} (hc : d.dw 11 / 65536 ≠ 0) (hx : u.cqOf d.func (d.dw 11 / 65536) = some (cq, x))
    (h0 : d.qid ≠ 0) (hg : d.qid ≤ u.granted d.func) (hf : u.sqOf d.func d.qid = none) (hs : d.shapeBad = none)
    (hp : u.pasidBad d = false) (ha : d.pasidArg = x.pasid) (he : fld (u.ctrl d.func).cc 16 4 = 6)
    (hn : freeNumber (u.sqs.map (·.1)) = some n) :
    ∃ q : SQ, q.base = d.prp1 ∧ q.entries = d.qsize ∧ q.func = d.func ∧ q.hostId = d.qid ∧ q.cq = cq ∧ q.level = d.dw 11 / 2 % 4 ∧
      q.head = 0 ∧ q.tail = 0 ∧ exec (.createIoSq k) s = .next ((u.setSq n (some q)).finish d stOk) := by
  show ∃ q : SQ, _ ∧ _ ∧ _ ∧ _ ∧ _ ∧ _ ∧ _ ∧ _ ∧ execCreateIoSq k s = _
  rw [execCreateIoSq, onCmd_waits _ hw, hu, if_neg hc, hx]
  dsimp only
  rw [if_neg (by rw [hf]; simpa [h0] using hg), hs]
  dsimp only
  rw [if_neg (by simp [hp, ha, he]), hn]
  exact ⟨_, rfl, rfl, rfl, rfl, rfl, rfl, rfl, rfl, rfl⟩

end

section
variable (hw : s.Waits k true 0x00 d)
include hw

theorem exec_deleteIoSq_unknown (h : d.qid = 0 ∨ u.sqOf d.func d.qid = none) :
    exec (.deleteIoSq k) s = .next (u.finish d stQueueId) := by
  have none' : (if d.qid = 0 then none else u.sqOf d.func d.qid) = none := by
    obtain h0 | hf := h
    · exact if_pos h0
    · rw [hf, ite_self]
  show execDeleteIoSq k s = _
  rw [execDeleteIoSq, onCmd_waits _ hw, hu, none']

/-- A queue that is deleted is retired and its commands settled first; it goes once no claim of it waits (R225, R229). -/
theorem exec_deleteIoSq {n : Nat} {q : SQ} (h0 : d.qid ≠ 0) (hq : u.sqOf d.func d.qid = some (n, q)) :
    let v := (u.setSq n (some { q with retired := true })).squashQueue n
    exec (.deleteIoSq k) s = .next (if v.claimWaits n = true then v else (v.setSq n none).finish d stOk) := by
  show execDeleteIoSq k s = _
  rw [execDeleteIoSq, onCmd_waits _ hw, hu, if_neg h0, hq]

end

theorem exec_deleteIoCq {n : Nat} {q : CQ} (hw : s.Waits k true 0x04 d) (h0 : d.qid ≠ 0) (hq : u.cqOf d.func d.qid = some (n, q)) :
    exec (.deleteIoCq k) s = .next (if u.sqs.any (fun p => (p.2.map (fun q => q.cq)) = some n) = true then u.finish d stQueueDeletion
      else (u.setCq n none).finish d stOk) := by
  show execDeleteIoCq k s = _
  rw [execDeleteIoCq, onCmd_waits _ hw, hu, if_neg h0, hq]

theorem exec_numberOfQueues (hw : s.Waits k true 0x09 d) (hf : d.dw 10 % 256 = 7) : exec (.numberOfQueues k) s =
    .next (u.respond d (BitVec.ofNat 32 (u.granted d.func - 1 + (u.granted d.func - 1) * 65536)) 0 stOk) := by
  show execNumberOfQueues k s = _
  rw [execNumberOfQueues, onCmd_waits _ hw, hu]
  exact congrArg _ (if_neg (not_not_intro hf))

/-! ## Secondary controllers (R220, R224, R482) -/

section
variable (hw : s.Waits k true 0x1C d) (hp : u.isPf d.func = true) (hs : u.isPf (d.dw 10 / 65536) = false)
  (he : u.funcExists (d.dw 10 / 65536) = true) (ho : u.pfOf (d.dw 10 / 65536) = d.func)
include hw hp hs he ho

/-- An action on a secondary controller of the function goes on with it. -/
theorem onSecondary_owned {acts : Nat → Bool} (f : State → Cmd → Nat → State) (ha : acts (d.dw 10 % 16) = true) :
    onSecondary s k acts f = .next (f u d (d.dw 10 / 65536)) := by
  rw [onSecondary, onCmd_waits _ hw, hu]
  dsimp only
  rw [State.pfOnly_pf hp, ha, if_neg (by decide), if_neg (by simp [hs, he, ho])]

/-- Queue resources that the device has and one controller may hold go to a controller that is offline. -/
theorem exec_secondaryAssign_queues (ha : d.dw 10 % 16 = 8) (hoff : (u.ctrl (d.dw 10 / 65536)).online = false)
    (hr : d.dw 10 / 256 % 8 = 0) (hm : d.dw 11 % 65536 ≤ flexMax false)
    (ht : u.flexUsed false (d.dw 10 / 65536) + d.dw 11 % 65536 ≤ u.flexTotal false) :
    exec (.secondaryAssign k) s =
      .next ((u.setCtrl (d.dw 10 / 65536) { u.ctrl (d.dw 10 / 65536) with vq := d.dw 11 % 65536 }).respond d
        (BitVec.ofNat 32 (d.dw 11 % 65536)) 0 stOk) := by
  show execSecondaryAssign k s = _
  rw [execSecondaryAssign, onSecondary_owned hu hw hp hs he ho _ (by rw [ha]; decide)]
  dsimp only
  have queues : decide (d.dw 10 / 256 % 8 = 1) = false := by rw [hr]; decide
  rw [queues, if_neg (not_not_intro ha), if_neg (by simp [hoff]), if_neg (by omega), if_neg (by omega)]
  rfl

theorem exec_secondaryOnline_resourced (ha : d.dw 10 % 16 = 9) (hq : 2 ≤ (u.ctrl (d.dw 10 / 65536)).vq)
    (hi : 1 ≤ (u.ctrl (d.dw 10 / 65536)).vi) : exec (.secondaryOnline k) s =
      .next ((u.setCtrl (d.dw 10 / 65536) { u.ctrl (d.dw 10 / 65536) with online := true }).finish d stOk) := by
  show execSecondaryOnline k s = _
  rw [execSecondaryOnline, onSecondary_owned hu hw hp hs he ho _ (by rw [ha]; decide)]
  exact congrArg _ (if_neg (by omega))

/-- An idle secondary controller goes offline at once; a busy one is reset first (R482, R492). -/
theorem exec_secondaryOffline (ha : d.dw 10 % 16 = 7) : ∃ t : State, exec (.secondaryOffline k) s = .next (t.finish d stOk) ∧
    (u.cmds.any (fun x => decide (x.func = d.dw 10 / 65536) && x.unsettled) = false → (t.ctrl (d.dw 10 / 65536)).online = false) := by
  show ∃ t : State, execSecondaryOffline k s = _ ∧ _
  rw [execSecondaryOffline, onSecondary_owned hu hw hp hs he ho _ (by rw [ha]; decide)]
  refine ⟨_, rfl, fun idle => ?_⟩
  dsimp only
  rw [if_neg (Bool.eq_false_iff.mp idle), State.ctrl_setCtrl_self]

end

/-! ## Aborts and event requests (R218, R239 to R241) -/

section
variable (hw : s.Waits k true 0x08 d) (hn : u.aborts.any (fun p => p.2 = k) = false)
include hw hn

/-- An Abort that does not stand at the gate yet is refused, answers, or goes there. -/
theorem exec_abort : exec (.abort k) s = .next (if 32 ≤ u.abortsBefore d then u.finish d stAbortLimit
    else match u.abortTarget d with
      | none => u.respond d 1 0 stOk
      | some x =>
        if (u.abortable x && decide (x.settle = .live)) = true then u.putAborts (u.aborts ++ [(x.key, k)]) else u.respond d 1 0 stOk) := by
  show execAbort k s = _
  rw [execAbort, onCmd_waits _ hw, hu]
  exact congrArg _ (if_neg (Bool.eq_false_iff.mp hn))

end

theorem exec_asynchronousEventRequest_limit (hw : s.Waits k true 0x0C d) (h : 16 ≤ (u.ctrl d.func).aer.length) :
    exec (.asynchronousEventRequest k) s = .next (u.finish d stAerLimit) := by
  show execAsynchronousEventRequest k s = _
  rw [execAsynchronousEventRequest, onCmd_waits _ hw, hu]
  exact congrArg _ (if_pos h)

theorem exec_asynchronousEventRequest_held (hw : s.Waits k true 0x0C d) (h : (u.ctrl d.func).aer.length < 16)
    (he : u.events.find? (fun p => p.1 = d.func) = none) : exec (.asynchronousEventRequest k) s =
      .next (u.setCtrl d.func { u.ctrl d.func with aer := (u.ctrl d.func).aer ++ [k] }) := by
  show execAsynchronousEventRequest k s = _
  rw [execAsynchronousEventRequest, onCmd_waits _ hw, hu]
  dsimp only
  rw [if_neg (Nat.not_le.mpr h), he]

end

/-- Settles O53: a row of the resident set for each clause. The counts of Number of Queues, the checks of a create's shape, the
device number a queue takes, and that a Delete waits for a claim at the gate are the model's choices (log entries 31, 86, 154,
121). -/
theorem queueAdminResults : Obligations.QueueAdminResults := by
  intro s k d u
  have hu : s.takeEvent k = u := rfl
  refine ⟨fun hw => ⟨exec_createIoCq_badId hu hw, fun n => exec_createIoCq_made hu hw⟩,
    fun hw => ⟨exec_createIoSq_noCq hu hw, fun n cq x => exec_createIoSq_made hu hw⟩,
    fun hw => ⟨exec_deleteIoSq_unknown hu hw, fun n q h0 hq => ⟨fun free => ?_, fun waits => ?_⟩⟩,
    fun hw n q h0 hq => ⟨fun named => ?_, fun free => ?_⟩,
    exec_numberOfQueues hu,
    fun hw hp c hc hs he ho => ?_,
    fun hw hn => ⟨fun many => ?_, fun few gone => ?_, fun x few hx ha hl => ?_⟩,
    fun hw => ⟨exec_asynchronousEventRequest_limit hu hw, exec_asynchronousEventRequest_held hu hw⟩⟩
  · exact (exec_deleteIoSq hu hw h0 hq).trans (congrArg _ (if_neg (Bool.eq_false_iff.mp free)))
  · exact (exec_deleteIoSq hu hw h0 hq).trans (congrArg _ (if_pos waits))
  · exact (exec_deleteIoCq hu hw h0 hq).trans (congrArg _ (if_pos named))
  · exact (exec_deleteIoCq hu hw h0 hq).trans (congrArg _ (if_neg (Bool.eq_false_iff.mp free)))
  · subst hc
    exact ⟨exec_secondaryAssign_queues hu hw hp hs he ho, exec_secondaryOnline_resourced hu hw hp hs he ho,
      exec_secondaryOffline hu hw hp hs he ho⟩
  · rw [exec_abort hu hw hn, if_pos many]
  · rw [exec_abort hu hw hn, if_neg (Nat.not_le.mpr few), gone]
  · rw [exec_abort hu hw hn, if_neg (Nat.not_le.mpr few), hx]
    exact congrArg _ (if_pos (by rw [ha, hl]; rfl))

end Sys2Proof.Machine
end

section
/-! PROOFS. The statements of 07_host_port_and_queues.md, second part: log pages, Identify, features, self-tests, directives,
the almanac seal and security commands. -/

namespace Sys2Proof.Machine

/-- A reply is cut or padded to the length that its command asks for. -/
theorem length_reply (bs : List Byte) (n : Nat) : ((bs ++ List.replicate n 0).take n).length = n := by
  rw [List.length_take, List.length_append, List.length_replicate]
  exact Nat.min_eq_left (Nat.le_add_left n _)

section
variable {s u : State} {k : W64} {d : Cmd} (hu : s.takeEvent k = u)
include hu

/-! ## Get Log Page and Identify (R220, R245, R247, R250) -/

section
variable (hw : s.Waits k true 0x02 d) (ho : d.logOff % 4 = 0)
include hw ho

/-- A page that the row serves, for any function below 0xC0 and for a physical function from there, goes on. -/
theorem onLog_served {mine : Nat → Bool} (f : State → Cmd → State) (hm : mine d.lid = true) (hp : d.lid < 0xC0 ∨ s.isPf d.func = true) :
    onLog s k mine f = .next (f u d) := by
  obtain ⟨-, -, -, -, -, -, running, -, -⟩ := id hw
  have served : ¬(0xC0 ≤ d.lid ∧ d.lid ≤ 0xC5 ∧ (!s.isPf d.func) = true) := by
    rintro ⟨low, -, virtual⟩
    obtain below | pf := hp
    · omega
    · rw [pf] at virtual
      exact Bool.false_ne_true virtual
  rw [onLog, onCmd_waits _ hw, hu, hm, running, if_neg (by decide),
    if_neg (fun h => Bool.false_ne_true h.1), if_neg served, if_neg (not_not_intro ho)]

theorem exec_getLogPage_page {page : List Byte} (hl : d.lid < 0xC0) (h : u.logPage d = some page) :
    exec (.getLogPage k) s = .next ((u.toHost d 0 (d.part page)).finish d stOk) := by
  show execGetLogPage k s = _
  rw [execGetLogPage, onLog_served hu hw ho _ (by simp; omega) (.inl hl), h]
  exact congrArg (fun t : State => Host.Outcome.next (t.finish d stOk)) (congrArg (State.putFree _) (if_neg (by omega)))

theorem exec_getLogPage_noPage (hl : d.lid < 0xC0) (h : u.logPage d = none) :
    exec (.getLogPage k) s = .next (u.finish d stLogPage) := by
  show execGetLogPage k s = _
  rw [execGetLogPage, onLog_served hu hw ho _ (by simp; omega) (.inl hl), h]

theorem exec_getLogPageAlmanac (hl : d.lid = 0xC1) (hp : s.isPf d.func = true) : exec (.getLogPageAlmanac k) s =
    .next ((((u.putAlm { u.alm with rmark := u.readMark d }) : State).toHost d 0 (d.part u.almanacPage)).finish d stOk) := by
  show execGetLogPageAlmanac k s = _
  rw [execGetLogPageAlmanac, onLog_served hu hw ho _ (by rw [hl]; decide) (.inr hp)]

theorem exec_getLogPageTickStatistics_clears (hl : d.lid = 0xC4) (hp : s.isPf d.func = true) (hc : d.lsp % 2 = 1) :
    exec (.getLogPageTickStatistics k) s = .next (((u.mapCores (fun (c : Core) =>
      { c with peak := 0, defer := 0, ovr := 0, bex := 0 })).toHost d 0 (d.part u.tickPage)).finish d stOk) := by
  show execGetLogPageTickStatistics k s = _
  rw [execGetLogPageTickStatistics, onLog_served hu hw ho _ (by rw [hl]; decide) (.inr hp)]
  dsimp only
  rw [if_pos hc]

end

theorem exec_identify_page (hw : s.Waits k true 0x06 d) {bs : List Byte} (h : u.identPage d = .ok bs) :
    exec (.identify k) s = .next ((u.toHost d 0 bs).finish d stOk) := by
  show execIdentify k s = _
  rw [execIdentify, onCmd_waits _ hw, hu, h]

/-! ## Features (R220, R231, R278, R526, R535) -/

section
variable (hw : s.Waits k true 0x09 d) (hs : d.dw 10 / 2 ^ 31 % 2 = 0)
include hw hs

theorem exec_setFeatures_events (data : List Byte) (hf : d.fid = 0x0B) : exec (.setFeatures k data) s =
    .next ((u.setCtrl d.func ((u.ctrl d.func).setFeat 0xB0000 (d.dw 11))).finish d stOk) := by
  show execSetFeatures k data s = _
  rw [execSetFeatures, onSetFeature_waits _ hw (by rw [hf]; decide) hs, hu, hf]
  rfl

theorem exec_setFeaturesArbitration (hf : d.fid = 0x01) : exec (.setFeaturesArbitration k) s =
    .next ((u.setCtrl d.func ((u.ctrl d.func).setFeat 0x10001 (d.dw 11))).finish d stOk) := by
  show execSetFeaturesArbitration k s = _
  rw [execSetFeaturesArbitration, onSetFeature_waits _ hw (by rw [hf]; decide) hs, hu]

/-- A power state beyond PS4, and PS4 on a manager, is an invalid field. -/
theorem exec_setFeaturesPowerManagement (hf : d.fid = 0x02) : exec (.setFeaturesPowerManagement k) s =
    .next (if 4 < d.dw 11 % 32 ∨ d.dw 11 % 32 = 4 ∧ u.isManager = true then u.finish d stField
      else (u.setPower (d.dw 11 % 32)).finish d stOk) := by
  show execSetFeaturesPowerManagement k s = _
  rw [execSetFeaturesPowerManagement, onSetFeature_waits _ hw (by rw [hf]; decide) hs, hu]

theorem exec_setFeaturesTemperatureThreshold_sensor (hf : d.fid = 0x04) (ht : d.dw 11 / 2 ^ 20 % 4 ≤ 1) (hn : d.dw 11 / 2 ^ 16 % 16 ≤ 2) :
    exec (.setFeaturesTemperatureThreshold k) s = .next ((u.setCtrl d.func ((u.ctrl d.func).setFeat
      (tempKey (d.dw 11 / 2 ^ 16 % 16) (d.dw 11 / 2 ^ 20 % 4)) (d.dw 11 % 65536))).finish d stOk) := by
  show execSetFeaturesTemperatureThreshold k s = _
  rw [execSetFeaturesTemperatureThreshold, onSetFeature_waits _ hw (by rw [hf]; decide) hs, hu]
  dsimp only
  rw [if_neg (by omega), if_neg (by omega)]

/-- Flexible Data Placement of endurance group 1 changes while the group holds no namespace. -/
theorem exec_setFeaturesFdp_group1 (hf : d.fid = 0x1D) (hg : d.dw 11 % 65536 = 1) (hi : d.dw 12 / 256 % 256 = 0) :
    exec (.setFeaturesFdp k) s = .next (if u.group1Used = true then u.finish d stSequence
      else ((u.putFdp { u.fdp with on := decide (d.dw 12 % 2 = 1) }) : State).finish d stOk) := by
  show execSetFeaturesFdp k s = _
  rw [execSetFeaturesFdp, onSetFeature_waits _ hw (by rw [hf]; decide) hs, hu]
  dsimp only
  rw [if_neg (by omega)]

end

theorem exec_getFeatures_current (hw : s.Waits k true 0x0A d) (hs : d.dw 10 / 256 % 8 = 0) (hf : d.fid ≠ 0x0E) {v : Nat}
    (hv : u.featureWord d false = some v) : exec (.getFeatures k) s = .next (u.respond d (BitVec.ofNat 32 v) 0 stOk) := by
  have current : (decide (0 = 1) || decide (0 = 2)) = false := rfl
  show execGetFeatures k s = _
  rw [execGetFeatures, onCmd_waits _ hw, hu, hs]
  dsimp only
  rw [current, hv]
  dsimp only
  rw [if_neg (by decide), if_neg (by decide), if_neg hf]

/-! ## Self-tests and directives (R220, R278, R364) -/

section
variable (hw : s.Waits k true 0x14 d)
include hw

/-- Either test starts by its own code. -/
theorem exec_selfTest {i : Instr} (hi : i = .selfTestShort k ∧ d.dw 10 % 16 = 1 ∨ i = .selfTestExtended k ∧ d.dw 10 % 16 = 2) :
    exec i s = .next (u.startTest d) := by
  obtain ⟨rfl, code⟩ | ⟨rfl, code⟩ := hi
  · show execSelfTestShort k s = _
    rw [execSelfTestShort, onTest_waits _ hw (by rw [code]; decide), hu]
  · show execSelfTestExtended k s = _
    rw [execSelfTestExtended, onTest_waits _ hw (by rw [code]; decide), hu]

theorem exec_selfTestAbort (hc : d.dw 10 % 16 = 15) : exec (.selfTestAbort k) s = .next ((u.endTest 1).finish d stOk) := by
  show execSelfTestAbort k s = _
  rw [execSelfTestAbort, onTest_waits _ hw (by rw [hc]; decide), hu]
  exact congrArg _ (if_pos hc)

end

/-- The data placement directive is as Flexible Data Placement is, and cannot be set otherwise (log entry 60). -/
theorem exec_directiveSend_enable (hw : s.Waits k true 0x19 d) (ht : d.dtype = 0) (ho : d.doper = 1) (hd : d.dw 12 / 256 % 256 = 2) :
    exec (.directiveSend k) s = .next (u.finish d (if decide (d.dw 12 % 2 = 1) = u.fdp.on then stOk else stField)) := by
  show execDirectiveSend k s = _
  rw [execDirectiveSend, onCmd_waits _ hw, hu]
  simp only [ht, ho, hd, true_and]
  split <;> rfl

theorem exec_directiveReceive_parameters (hw : s.Waits k true 0x1A d) (ht : d.dtype = 0) (ho : d.doper = 1) :
    ∃ bs : List Byte, bs.length = (d.dw 10 + 1) * 4 ∧ exec (.directiveReceive k) s = .next ((u.toHost d 0 bs).finish d stOk) := by
  show ∃ bs : List Byte, _ ∧ execDirectiveReceive k s = _
  rw [execDirectiveReceive, onCmd_waits _ hw, hu]
  dsimp only
  rw [if_pos ⟨ht, ho⟩]
  exact ⟨_, length_reply _ _, rfl⟩

/-! ## The almanac seal and security commands (R252, R504, R542) -/

/-- The seal moves the oldest ordinal up to the read mark and no further. -/
theorem exec_almanacSeal_proved (hw : s.Waits k true 0xC0 d) (hp : u.isPf d.func = true) (hn : d.nsid = 0)
    (hs : u.sessions.any (fun x => decide (x.sid = BitVec.ofNat 32 (d.dw 11)) && x.established && u.proves x (fun o => o.sealing)) = true) :
    let n := min (d.dw 10 + 1) u.alm.rmark
    let v := if u.alm.oldest < n then u.sealTo n else u
    exec (.almanacSeal k) s = .next (v.respond d (BitVec.ofNat 32 v.alm.oldest) 0 stOk) := by
  show execAlmanacSeal k s = _
  rw [execAlmanacSeal, onCmd_waits _ hw, hu]
  dsimp only
  rw [hp, hs, if_neg (by decide), if_neg (not_not_intro hn), if_neg (by decide)]

section
variable (hw : s.Waits k true 0x81 d) (m : SpdmMsg)
include hw

theorem exec_securitySend_otherProtocol (hp : d.secp ≠ 0xE8) : exec (.securitySend k m) s = .next (u.finish d stField) := by
  show execSecuritySend k m s = _
  rw [execSecuritySend, onCmd_waits _ hw, hu]
  exact congrArg _ (if_pos hp)

/-- The response to an SPDM message waits for the function's Security Receive. -/
theorem exec_securitySend_spdm (hp : d.secp = 0xE8) :
    let x := u.spdmMessage d.func m
    let bs := toBytes 1 0x13 ++ toBytes 1 x.2.code ++ toBytes 1 x.2.p1 ++ toBytes 1 x.2.p2 ++ x.2.body
    exec (.securitySend k m) s = .next
      (((x.1.putTrust { x.1.trust with resp := FMap.set (fun _ => none) x.1.trust.resp d.func (some bs) }) : State).finish d stOk) := by
  show execSecuritySend k m s = _
  rw [execSecuritySend, onCmd_waits _ hw, hu]
  exact congrArg _ (if_neg (not_not_intro hp))

end

section
variable (hw : s.Waits k true 0x82 d) (hp : d.secp = 0xE8)
include hw hp

theorem exec_securityReceive_empty (h : FMap.get (fun _ => none) u.trust.resp d.func = none) :
    exec (.securityReceive k) s = .next (u.finish d stSequence) := by
  show execSecurityReceive k s = _
  rw [execSecurityReceive, onCmd_waits _ hw, hu]
  dsimp only
  rw [if_neg (by omega), if_neg (not_not_intro hp), h]

/-- A response is returned once, cut or padded to the length asked for. -/
theorem exec_securityReceive_response {bs : List Byte} (h : FMap.get (fun _ => none) u.trust.resp d.func = some bs) :
    exec (.securityReceive k) s = .next
      ((((u.putTrust { u.trust with resp := FMap.set (fun _ => none) u.trust.resp d.func none }) : State).toHost d 0
        ((bs ++ List.replicate (d.dw 11) 0).take (d.dw 11))).finish d stOk) := by
  show execSecurityReceive k s = _
  rw [execSecurityReceive, onCmd_waits _ hw, hu]
  dsimp only
  rw [if_neg (by omega), if_neg (not_not_intro hp), h]

end
end

/-- Settles O54: a row of the resident set for each clause. What the directive may be set to, when a read of the almanac page moves the
read mark, and that the event configuration is only held are the model's choices (log entries 60, 65, 88). -/
theorem adminDataResults : Obligations.AdminDataResults := by
  intro s k d u
  have hu : s.takeEvent k = u := rfl
  refine ⟨fun hw ho => ⟨fun hl page => exec_getLogPage_page hu hw ho hl, exec_getLogPage_noPage hu hw ho,
      exec_getLogPageAlmanac hu hw ho, exec_getLogPageTickStatistics_clears hu hw ho⟩,
    fun hw bs => exec_identify_page hu hw,
    fun hw hs => ⟨exec_setFeatures_events hu hw hs, exec_setFeaturesArbitration hu hw hs, fun hf low => ?_, fun hf ps4 => ?_,
      fun hf high => ?_, exec_setFeaturesTemperatureThreshold_sensor hu hw hs, fun hf hg hi => ⟨fun used => ?_, fun empty => ?_⟩⟩,
    fun hw hs hf v => exec_getFeatures_current hu hw hs hf,
    fun hw i hi => ⟨fun runs => ?_, fun none' => ?_⟩,
    exec_selfTestAbort hu, exec_directiveSend_enable hu, exec_directiveReceive_parameters hu, exec_almanacSeal_proved hu,
    fun hw hp m => exec_securitySend_otherProtocol hu hw m hp, fun hw hp m => exec_securitySend_spdm hu hw m hp,
    fun hw hp => ⟨exec_securityReceive_empty hu hw hp, fun bs => exec_securityReceive_response hu hw hp⟩⟩
  · rw [exec_setFeaturesPowerManagement hu hw hs hf, if_neg (by omega)]
  · rw [exec_setFeaturesPowerManagement hu hw hs hf, ps4]
    simp
  · rw [exec_setFeaturesPowerManagement hu hw hs hf, if_pos (.inl high)]
  · rw [exec_setFeaturesFdp_group1 hu hw hs hf hg hi, if_pos used]
  · rw [exec_setFeaturesFdp_group1 hu hw hs hf hg hi, if_neg (Bool.eq_false_iff.mp empty)]
  · exact (exec_selfTest hu hw hi).trans (congrArg _ (if_pos runs))
  · exact (exec_selfTest hu hw hi).trans (congrArg _ (if_neg (by rw [none']; decide)))

end Sys2Proof.Machine
end

section
/-! PROOFS. The statements of 08_zones_and_placement.md, second part: Reads and Verifies. -/

namespace Sys2Proof.Machine

/-! ## Reads (R221, R236) -/

/-- The guards of a Read or Verify: with its namespace, its range, its ladders and the actions before it, its source decides. -/
structure ReadReady (s : State) (k : W64) (d : Cmd) (x : NsInfo) : Prop where
  ns : (s.takeEvent k).ioNs d = .ok x
  laddersNone : s.care.ladders.any (fun l => decide (l.key = k)) = false
  range : d.rangeBad x = none
  first : (s.takeEvent k).actionFirst d = false

section
variable {s u : State} {k : W64} {d : Cmd} {x : NsInfo}

section
variable {op : Nat} (hu : s.takeEvent k = u) (hg : ReadReady s k d x) (hw : s.Waits k false op d) (fails : List W64)
  (corr : List (W64 × Nat)) (vol : List VolGrain)
include hu hg hw

/-- A read whose source is settled reads now. -/
theorem State.ioRead_settled {src : Option (W64 × Nat × Nat)} (hs : u.readSource d = some src) :
    s.ioRead k op fails corr vol = .next (u.readNow d x fails corr vol src) := by
  subst hu
  obtain ⟨ns, ladders, range, first⟩ := hg
  rw [State.ioRead, onCmd_waits _ hw, ladders, if_neg (by decide), ns]
  dsimp only
  rw [range]
  dsimp only
  rw [first, if_neg (by decide), hs]

/-- A read whose source is not settled waits, its event still visible. -/
theorem State.ioRead_unsettled (hs : u.readSource d = none) : s.ioRead k op fails corr vol = .next s := by
  subst hu
  obtain ⟨ns, ladders, range, first⟩ := hg
  rw [State.ioRead, onCmd_waits _ hw, ladders, if_neg (by decide), ns]
  dsimp only
  rw [range]
  dsimp only
  rw [first, if_neg (by decide), hs]

end

/-- A Read and a Verify are one row but for their opcodes. -/
theorem ioRead_row {i : Instr} {fails : List W64} {corr : List (W64 × Nat)} {vol : List VolGrain}
    (hi : (i = .read k ⟨fails, corr⟩ vol ∧ s.Waits k false 0x02 d) ∨ (i = .verify k ⟨fails, corr⟩ vol ∧ s.Waits k false 0x0C d)) :
    ∃ op, exec i s = s.ioRead k op fails corr vol ∧ s.Waits k false op d := by
  obtain ⟨rfl, hw⟩ | ⟨rfl, hw⟩ := hi
  · exact ⟨_, rfl, hw⟩
  · exact ⟨_, rfl, hw⟩

/-- The lines of a read's map after they have been rebuilt (R461). -/
def State.healRange (u : State) (d : Cmd) (x : NsInfo) : State :=
  (List.range (d.grains x)).foldl (fun (t : State) j => t.healMap d.nsid false (d.grain0 x + j)) u

/-- With every grain found on the device's own flash and no frame corrected, a read hands all grains over and is done. -/
theorem State.readNow_found {fails : List W64} {vol : List VolGrain} {bs : List (List Byte)} (hb : bs.length = d.grains x)
    (hl : (u.healRange d x).layout d.nsid = none)
    (hf : ∀ j, j < d.grains x → (u.healRange d x).findGrain d.nsid false (d.grain0 x + j) fails (vol.getD j .lost) = .bytes (bs.getD j [])) :
    u.readNow d x fails [] vol none =
      (bs.zipIdx.foldl (fun (t : State) p => t.handOver d p.2 p.1) (u.healRange d x)).hostReadDone d x := by
  obtain ⟨h, hh⟩ : ∃ h, u.healRange d x = h := ⟨_, rfl⟩
  rw [hh] at hl hf ⊢
  have found : (List.range (d.grains x)).map (fun i => h.findGrain d.nsid false (d.grain0 x + i) fails (vol.getD i .lost)) =
      bs.map Found.bytes := by
    refine List.ext_getElem (by simp [hb]) (fun j hj _ => ?_)
    have within : j < d.grains x := by simpa using hj
    rw [List.getElem_map, List.getElem_range, hf j within, List.getElem_map, List.getElem_eq_getD]
  have noStatus : bs.findSome? (fun _ => (none : Option (BitVec 15))) = none :=
    List.findSome?_eq_none_iff.mpr (fun _ _ => rfl)
  have uncorrected : h.corrected d x none fails [] = h := rfl
  unfold State.healRange at hh
  unfold State.readNow
  dsimp only [State.fromBuf]
  rw [hh, found, uncorrected, hl]
  simp [List.zipIdx_map, List.foldl_map, List.findSome?_map, Function.comp_def, noStatus]

end

end Sys2Proof.Machine
end

section
/-! PROOFS. The statements of 08_zones_and_placement.md, third part: writes of placement namespaces and of zones. -/

namespace Sys2Proof.Machine

/-! ## Writes that are no appends (R221, R264, R266) -/

/-- Data that a command of `n` grains brings whole and can encipher; a word needs neither. -/
def State.Brings (u : State) (d : Cmd) (x : NsInfo) (fill : Fill) : Prop :=
  ∀ gs, fill = .data gs → dataOk gs (d.grains x) = true ∧ u.keyOk d.nsid = true

/-- A volume that a manager serves here has its group owned here, and its counter past the floor (R199, R425). -/
def State.Mine (u : State) (d : Cmd) : Prop :=
  ∀ l, u.layout d.nsid = some l → u.isManager = true → (u.anaGroup l.group).owned = true ∧ u.wsnFloor = none

section
variable {s u : State} {k : W64} {d : Cmd} {x : NsInfo}

theorem State.ownerCheck_mine (hm : u.Mine d) (f : State → State) : u.ownerCheck d f = f u := by
  unfold State.ownerCheck
  cases hl : u.layout d.nsid with
  | none => rfl
  | some l =>
    dsimp only
    cases hi : u.isManager with
    | false => rw [if_neg (by simp), if_neg (by simp)]
    | true =>
      obtain ⟨owned, floor⟩ := hm l hl hi
      rw [if_neg (by simp [owned]), if_neg (by simp [floor])]

/-- A row of a write whose range has no job yet runs as it stands. -/
theorem onJob_idle (h : s.jobs.any (fun j => decide (j.key = k)) = false) (f : Res) : onJob s k f = f :=
  if_neg (Bool.eq_false_iff.mp h)

/-- A row of a write whose range is reserved already lets every job take its steps. -/
theorem onJob_busy (hd : s.boot.down = false) (h : ¬ s.jobs.any (fun j => decide (j.key = k)) = false) (f : Res) :
    onJob s k f = .next s.runJobs := by
  unfold onJob
  rw [if_pos (by simpa using h), hd]
  rfl

section
variable {op : Nat} {fill : Fill} {md : List Byte} (hu : s.takeEvent k = u) (hx : u.ioNs d = .ok x)
  (hj : s.jobs.any (fun j => decide (j.key = k)) = false) (hw : s.Waits k false op d)
include hu hx hj hw

theorem State.ioWrite_badRange {st : BitVec 15} (hr : d.rangeBad x = some st) :
    s.ioWrite k op fill md = .next (u.endCmd d st) := by
  rw [State.ioWrite, onJob_idle hj, onCmd_waits _ hw, hu, hx]
  dsimp only
  rw [hr]

/-- A write in range reaches its namespace: a zone when no hazard or earlier Read stands before it, or the units. -/
theorem State.ioWrite_inRange (hb : u.Brings d x fill) (hm : u.Mine d) (hr : d.rangeBad x = none) :
    s.ioWrite k op fill md = .next (if (u.nsAt d.nsid).zoned = true then
      if (u.hazWait d || u.readWait d) = true then u else u.zoneWrite d x false none fill md
      else u.settleTry d (u.placeWrite d x fill md)) := by
  rw [State.ioWrite, onJob_idle hj, onCmd_waits _ hw, hu, hx]
  dsimp only
  rw [hr]
  cases fill with
  | data gs =>
    obtain ⟨whole, key⟩ := hb gs rfl
    dsimp only
    rw [if_neg (by simp [whole]), if_neg (by simp [key]), State.ownerCheck_mine hm]
  | word w =>
    dsimp only
    rw [if_neg (by decide), if_neg (by simp [Fill.isData]), State.ownerCheck_mine hm]

end

/-! ## Placement writes (R266, R280 to R285, R289) -/

section
variable {fill : Fill} {md : List Byte}

theorem State.placeWrite_preserved (hp : u.preserved d = true) : u.placeWrite d x fill md = .error (some stWriteProtected) := if_pos hp

section
variable (hp : u.preserved d = false)
include hp

theorem State.placeWrite_behind (hz : (u.hazWait d || u.readWait d) = true) : u.placeWrite d x fill md = .error none :=
  (if_neg (Bool.eq_false_iff.mp hp)).trans (if_pos hz)

section
variable (hz : (u.hazWait d || u.readWait d) = false)
include hz

/-- A write without data commits its word for every grain. -/
theorem State.placeWrite_word {w : W64} {t : State} (hc : u.commitTry d.nsid false (d.grain0 x) 0 (List.replicate (d.grains x) w) = .ok t) :
    u.placeWrite d x (.word w) md = .ok (t.writeDone d (d.grains x) 0 (.word w)) := by
  unfold State.placeWrite
  dsimp only
  rw [if_neg (Bool.eq_false_iff.mp hp), if_neg (Bool.eq_false_iff.mp hz), hc]

/-- A write with data takes its numbers, stores its grains, merges its metadata and commits, in that order. -/
theorem State.placeWrite_data {gs : List (List Byte)} {h g first : Nat} {p q t v w : State} {ws : List W64}
    (hpl : u.placement d x = ((h, g), p)) (hq : p.takeNumbers 0 (d.grains x + metaTouched x d.slba d.nlb) = (first, q))
    (hs : q.storeUnits (fmt16 x.lbaf) d.nsid (x.phndls.getD h 0) g (d.grains x + 1) (gs.zipIdx.map (fun y =>
      (y.1, q.cmdTag d 0 0 (h % 256 + g % 64 * 2 ^ 8) (2 + h % 14) 0 (d.grains x) (d.grain0 x) first y.2))) = some (ws, t))
    (hm : t.writeMeta d x (h % 256 + g % 64 * 2 ^ 8) (2 + h % 14) first (d.grains x) d.slba d.nlb md = .ok v)
    (hc : v.commitTry d.nsid false (d.grain0 x) first ws = .ok w) :
    u.placeWrite d x (.data gs) md = .ok ((w.putFdp { w.fdp with mediaBytes := w.fdp.mediaBytes + 4096 * d.grains x } : State).writeDone d
      (d.grains x) 0 (.data gs)) := by
  unfold State.placeWrite
  dsimp only
  rw [if_neg (Bool.eq_false_iff.mp hp), if_neg (Bool.eq_false_iff.mp hz), hpl]
  dsimp only
  rw [hq]
  dsimp only
  rw [hs]
  dsimp only
  rw [hm]
  dsimp only
  rw [hc]

end
end
end

/-! ## Zone writes (R264, R265, R276, R416) -/

/-- Zone of a command in its namespace, and in the device. -/
abbrev State.cmdZone (u : State) (d : Cmd) : Nat := d.slba / max 1 (u.nsAt d.nsid).zoneLbas
abbrev State.cmdDevZone (u : State) (d : Cmd) : Nat := (u.nsAt d.nsid).firstZone + u.cmdZone d

/-- The third operand of a reservation: a token, the mark of an append, or the first LBA. -/
def Cmd.reserveArg (d : Cmd) (app : Bool) : Option W64 → W64
  | some y => y
  | none => if app then w64 (2 ^ 64 - 1) else w64 d.slba

/-- The reservation of a command's range in its zone (R114, R265). -/
def State.reserveRange (u : State) (d : Cmd) (x : NsInfo) (app : Bool) (tok : Option W64) : MapRes :=
  u.mapTry (fun t => t.mzoneOp (mapReq .mzone (b2n tok.isSome) [t.zoneKeyOf d.nsid (u.cmdZone d), w64 (d.grains x), d.reserveArg app tok]))

/-- A volume's write with no member of its zone's set absent is not refused for one. -/
theorem State.members_present
    (hl : ∀ l, u.layout d.nsid = some l → u.isManager = true ∧ (u.setNow l (u.cmdZone d)).any (fun p => p.1.isNone) = false) :
    (match u.layout d.nsid with
      | some l => u.isManager && (u.setNow l (u.cmdZone d)).any (fun p => p.1.isNone)
      | none => false) = false := by
  split
  · next l found =>
    obtain ⟨-, present⟩ := hl l found
    rw [present, Bool.and_false]
  · rfl

section
variable {app : Bool} {tok : Option W64} {fill : Fill} {md : List Byte} (ha : u.actionFirst d = false)
include ha

theorem State.zoneWrite_preserved (hp : u.preserved d = true) : u.zoneWrite d x app tok fill md = u.endCmd d stZoneReadOnly := by
  unfold State.zoneWrite
  dsimp only
  rw [ha, hp, if_neg (by decide), Bool.true_or, if_pos rfl]

section
variable (hp : u.preserved d = false)
  (hl : ∀ l, u.layout d.nsid = some l → u.isManager = true ∧ (u.setNow l (u.cmdZone d)).any (fun p => p.1.isNone) = false)
include hp hl

/-- With its members present, a range beyond the zone ends the command first. -/
theorem State.zoneWrite_boundary (hb : (u.nsAt d.nsid).zoneLbas < d.slba % max 1 (u.nsAt d.nsid).zoneLbas + d.nlb) :
    u.zoneWrite d x app tok fill md = u.endCmd d stZoneBoundary := by
  unfold State.zoneWrite
  dsimp only
  rw [ha, if_neg (by decide), hp, Bool.false_or, if_neg (by exact Bool.eq_false_iff.mp (State.members_present hl)), if_pos hb]

section
variable (hb : d.slba % max 1 (u.nsAt d.nsid).zoneLbas + d.nlb ≤ (u.nsAt d.nsid).zoneLbas)
include hb

theorem State.zoneWrite_full (hz : u.zstate (u.cmdDevZone d) = zFull) (ht : tok = none) :
    u.zoneWrite d x app tok fill md = u.endCmd d stZoneFull := by
  unfold State.zoneWrite
  dsimp only
  rw [ha, if_neg (by decide), hp, Bool.false_or, if_neg (by exact Bool.eq_false_iff.mp (State.members_present hl)),
    if_neg (Nat.not_lt.mpr hb), if_pos ⟨hz, by rw [ht]; rfl⟩]

/-- A range of an open zone with an entry and no token slot is reserved, and its volume or its own flash takes it on. -/
theorem State.zoneWrite_reserved {v : State × Byte × List W64} (ho : isOpen (u.zstate (u.cmdDevZone d)) = true)
    (ht : ∀ y, tok = some y → fld (u.zoneWord (u.cmdDevZone d)) 28 13 = 0)
    (he : (u.readEntry (u.entryAddr d.nsid (u.cmdZone d))).valid = true) (hr : u.reserveRange d x app tok = .ok v) :
    (v.1.layout d.nsid = none → u.zoneWrite d x app tok fill md =
      u.settleTry d (v.1.zoneLocal d x (u.cmdZone d) (u.zrsv (u.cmdDevZone d)) fill md)) ∧
    (∀ l, v.1.layout d.nsid = some l → v.1.isManager = true → u.zoneWrite d x app tok fill md =
      u.settleTry d (v.1.zoneVolume d x l (u.cmdZone d) (u.zrsv (u.cmdDevZone d)) fill tok)) := by
  have notFull : ¬ (u.zstate (u.cmdDevZone d) = zFull ∧ tok.isNone = true) := by
    rintro ⟨full, -⟩
    rw [full] at ho
    exact absurd ho (by decide)
  have opened : u.implicitOpen d.nsid (u.cmdZone d) = .ok u := if_pos ho
  have entered : u.needEntry d.nsid (u.cmdZone d) = .ok u := if_pos he
  unfold State.reserveRange Cmd.reserveArg at hr
  unfold State.zoneWrite
  dsimp only
  rw [ha, if_neg (by decide), hp, Bool.false_or, if_neg (by exact Bool.eq_false_iff.mp (State.members_present hl)),
    if_neg (Nat.not_lt.mpr hb), if_neg notFull]
  cases tok
  case' some y =>
    dsimp only
    rw [if_pos (ht y rfl)]
  all_goals
    dsimp only at hr ⊢
    rw [opened]
    dsimp only
    rw [entered]
    dsimp only
    rw [hr]
    refine ⟨fun hn => ?_, fun l hv hm => ?_⟩
    · dsimp only
      rw [hn]
    · dsimp only
      rw [hv]
      exact if_pos hm

end
end
end
/-! ## Writes on the device's own flash (R265, R266, R285) -/

/-- A zone whose range has just been committed: its use is noted, and a zone that has become full closes its extent. -/
def State.zoneCommitted (e : State) (n z : Nat) : State :=
  let ez := (e.nsAt n).firstZone + z
  let e1 := e.putZoneUsed (FMap.set (fun _ => 0) e.zoneUsed ez e.tick)
  if e1.zstate ez = zFull then e1.closeZoneExtent n z true else e1

/-- The numbers that a write of `lba` takes: none when it brings no data. -/
def Cmd.numbers (d : Cmd) (x : NsInfo) (lba : Nat) (fill : Fill) : Nat :=
  if fill.isData then d.grains x + metaTouched x lba d.nlb else 0

theorem State.zoneLocal_commits {v q t m e : State} {z o first : Nat} {fill : Fill} {md : List Byte} {ws : List W64}
    (hq : v.takeNumbers 0 (d.numbers x (z * (v.nsAt d.nsid).zoneLbas + o / fmtGrains x.lbaf) fill) = (first, q))
    (hz : q.zwp ((q.nsAt d.nsid).firstZone + z) = o) (hs : q.zoneStore d d.nsid z o first fill (d.grains x) = .ok (t, ws))
    (hm : (if fill.isData then t.writeMeta d x 0 1 first (d.grains x) (z * (v.nsAt d.nsid).zoneLbas + o / fmtGrains x.lbaf) d.nlb md
      else .ok t) = .ok m)
    (hc : m.commitTry d.nsid false (z * 2 ^ (m.nsAt d.nsid).zshift + o) first ws = .ok e) :
    v.zoneLocal d x z o fill md = .ok ((e.zoneCommitted d.nsid z).writeDone d (d.grains x)
      (if d.isAppend then z * (v.nsAt d.nsid).zoneLbas + o / fmtGrains x.lbaf else 0) fill) := by
  unfold Cmd.numbers at hq
  unfold State.zoneLocal State.zoneCommitted
  cases fill
  all_goals
    simp only [Fill.isData, if_true, Bool.false_eq_true, if_false] at hq hm ⊢
    rw [hq]
    dsimp only
    rw [if_neg (not_not_intro hz), hs]
    dsimp only
  case data gs => rw [hm]; dsimp only; rw [hc]
  case word w => cases hm; rw [hc]

/-! ## Appends (R253, R264, R276) -/

/-- An append whose first LBA is its zone's reaches the zone, with its token where it has one. -/
theorem State.ioAppend_runs {op : Nat} {tok : Bool} {gs : List (List Byte)} {md : List Byte} (hu : s.takeEvent k = u)
    (hx : u.ioNs d = .ok x) (hj : s.jobs.any (fun j => decide (j.key = k)) = false) (hw : s.Waits k false op d) (hm : u.Mine d)
    (hz : (u.nsAt d.nsid).zoned = true) (ht : tok = true → w64 (fld d.sqe 64 64) ≠ 0)
    (h0 : d.slba % max 1 (u.nsAt d.nsid).zoneLbas = 0) (hl : d.grains x ≤ maxGrains) (hn : d.slba < x.nsze)
    (hb : u.Brings d x (.data gs)) : s.ioAppend k op tok gs md =
      .next (u.zoneWrite d x true (if tok = true then some (w64 (fld d.sqe 64 64)) else none) (.data gs) md) := by
  obtain ⟨whole, key⟩ := hb gs rfl
  have placed : ¬((tok = true ∧ w64 (fld d.sqe 64 64) = 0) ∨ d.slba % max 1 (u.nsAt d.nsid).zoneLbas ≠ 0 ∨ maxGrains < d.grains x) := by
    rintro (⟨has, zero⟩ | inside | large)
    · exact ht has zero
    · exact inside h0
    · omega
  rw [State.ioAppend, onJob_idle hj, onCmd_waits _ hw, hu, hx]
  dsimp only
  rw [if_neg (by simp [hz]), if_neg placed, if_neg (Nat.not_le.mpr hn), if_neg (by simp [whole]), if_neg (by simp [key]),
    State.ownerCheck_mine hm]

end

end Sys2Proof.Machine
end

section
/-! PROOFS. The statements of 08_zones_and_placement.md, fourth part: zone actions. -/

namespace Sys2Proof.Machine

/-- The preserve state stops a command as it did before its event was taken. -/
@[simp] theorem State.preserved_takeEvent (s : State) (k : W64) (d : Cmd) : (s.takeEvent k).preserved d = s.preserved d := by
  unfold State.takeEvent
  generalize s.cores.filter (fun p => p.2.classQ.contains k) = ps
  induction ps generalizing s with
  | nil => rfl
  | cons p ps ih => exact ih _

/-! ## One zone (R271) -/

/-- The guards of an action, not yet taken, on the one zone that a command names. -/
structure State.OneZone (u : State) (d : Cmd) : Prop where
  zoned : (u.nsAt d.nsid).zoned = true
  mine : u.Mine d
  fresh : d.acted = false
  one : d.dw 13 / 256 % 2 = 0
  aligned : d.slba % (u.nsAt d.nsid).zoneLbas = 0
  inside : d.slba / (u.nsAt d.nsid).zoneLbas < (u.nsAt d.nsid).zones
  idle : u.zonesBusy d [d.slba / (u.nsAt d.nsid).zoneLbas] = false

/-- The zone whose first LBA a command names. -/
abbrev State.namedZone (u : State) (d : Cmd) : Nat := d.slba / (u.nsAt d.nsid).zoneLbas

/-- How an action on one zone ends its command: with success once no record of the zone is under way, with its own status, or not
yet (R271, R418). -/
def State.actionEnds (v : State) (d : Cmd) (y : Nat) : Try State → State
  | .ok t => if t.recordAwaits d.nsid y = true then t.setCmd { d with acted := true } else t.finish d stOk
  | .error (some st) => v.finish d st
  | .error none => v

section
variable {s u : State} {k : W64} {d : Cmd} {x : NsInfo} (hu : s.takeEvent k = u) (hx : u.ioNs d = .ok x) (hw : s.Waits k false 0x79 d)

section
variable (hg : u.OneZone d) {code : Nat} (hc : d.dw 13 % 256 = code) {q : Nat → Bool} {prep : State → Nat → Nat → State}
  {act : State → Nat → Nat → Try State}
include hu hx hw hg hc

/-- The action on the zone, with its step before it, decides how the row ends. -/
theorem zoneSend_one : zoneSend s k code q prep act = .next ((prep u d.nsid (u.namedZone d)).actionEnds d (u.namedZone d)
    (act (prep u d.nsid (u.namedZone d)) d.nsid (u.namedZone d))) := by
  obtain ⟨zoned, mine, fresh, one, aligned, inside, idle⟩ := hg
  have alone : decide (d.dw 13 / 256 % 2 = 1) = false := by rw [one]; decide
  have named : u.zonesOf d false = some [u.namedZone d] := by
    unfold State.zonesOf
    dsimp only
    rw [if_neg (by decide), if_pos ⟨aligned, inside⟩]
  rw [zoneSend, onCmd_waits _ hw, hu, if_neg (not_not_intro hc), hx]
  dsimp only
  rw [zoned, if_neg (by decide), State.ownerCheck_mine mine, alone, named]
  simp only [fresh, idle, Bool.false_eq_true, if_false, List.foldl_cons, List.foldl_nil, List.any_cons, List.any_nil, Bool.or_false]
  unfold State.actionEnds State.actAll
  cases act (prep u d.nsid (u.namedZone d)) d.nsid (u.namedZone d) with
  | ok t => rfl
  | error e => rfl

/-- An action that is taken, with no record under way, succeeds. -/
theorem zoneSend_takes {t : State} (ht : act (prep u d.nsid (u.namedZone d)) d.nsid (u.namedZone d) = .ok t)
    (hr : t.recordAwaits d.nsid (u.namedZone d) = false) : zoneSend s k code q prep act = .next (t.finish d stOk) := by
  rw [zoneSend_one hu hx hw hg hc, ht]
  exact congrArg _ (if_neg (Bool.eq_false_iff.mp hr))

/-- A status of the action ends its command. -/
theorem zoneSend_ends {st : BitVec 15} (ht : act (prep u d.nsid (u.namedZone d)) d.nsid (u.namedZone d) = .error (some st)) :
    zoneSend s k code q prep act = .next ((prep u d.nsid (u.namedZone d)).finish d st) := by
  rw [zoneSend_one hu hx hw hg hc, ht]
  rfl

end
end

/-! ## The four actions (R267, R272, R288, R418) -/

theorem exec_zoneClose (k : W64) (s : State) : exec (.zoneClose k) s = zoneSend s k 1 isOpen noPrep State.closeAct := rfl

theorem exec_zoneFinish (k : W64) (s : State) :
    exec (.zoneFinish k) s = zoneSend s k 2 isActive State.finishPrep State.finishAct := rfl

theorem exec_zoneReset (k : W64) (s : State) : exec (.zoneReset k) s =
    zoneSend s k 4 (fun st => isActive st || decide (st = zFull)) noPrep State.resetAct := rfl

section
variable {s u : State} {k : W64} {d : Cmd} (hu : s.takeEvent k = u) (hw : s.Waits k false 0x79 d)
include hu hw

/-- ZONE_OPEN is stopped by the preserve state. -/
theorem exec_zoneOpen_preserved (hp : u.preserved d = true) :
    exec (.zoneOpen k) s = zoneSend s k 3 (· = zClosed) noPrep (fun _ _ _ => .error (some stZoneReadOnly)) := by
  obtain ⟨found, -⟩ := id hw
  rw [← hu, State.preserved_takeEvent] at hp
  show execZoneOpen k s = _
  simp only [execZoneOpen, found, Option.any_some, hp, if_true]

theorem exec_zoneOpen_unpreserved (hp : u.preserved d = false) :
    exec (.zoneOpen k) s = zoneSend s k 3 (· = zClosed) noPrep State.openAct := by
  obtain ⟨found, -⟩ := id hw
  rw [← hu, State.preserved_takeEvent] at hp
  show execZoneOpen k s = _
  simp only [execZoneOpen, found, Option.any_some, hp, Bool.false_eq_true, if_false]

end

section
variable {s t : State} {n z : Nat}

theorem State.openAct_opened (h : s.zstate ((s.nsAt n).firstZone + z) = zExpOpen) : s.openAct n z = .ok s := if_pos h

/-- A closed zone is active already, so only the limit of open zones stands before it. -/
theorem State.openAct_closed (h : s.zstate ((s.nsAt n).firstZone + z) = zClosed) (hl : s.openZones.length < zoneLimit) :
    s.openAct n z = s.putZoneState n z zExpOpen 2 := by
  unfold State.openAct
  dsimp only
  rw [h, if_neg (by decide), if_neg (by decide), if_neg (by simp [isActive]), if_neg (by omega)]

/-- An open zone closes, or is empty again when nothing was written or reserved. -/
theorem State.closeAct_open (h : isOpen (s.zstate ((s.nsAt n).firstZone + z)) = true) : s.closeAct n z =
    s.putZoneState n z (if s.zwp ((s.nsAt n).firstZone + z) = 0 ∧ s.reserved ((s.nsAt n).firstZone + z) = false
      then zEmpty else zClosed) 4 := by
  have notClosed : s.zstate ((s.nsAt n).firstZone + z) ≠ zClosed := by
    intro closed
    rw [closed] at h
    exact absurd h (by decide)
  unfold State.closeAct
  dsimp only
  rw [if_neg notClosed, if_neg (by simp [h])]
  by_cases empty : s.zwp ((s.nsAt n).firstZone + z) = 0 ∧ s.reserved ((s.nsAt n).firstZone + z) = false
  · rw [if_pos empty, if_pos (by simpa using empty)]
  · rw [if_neg empty, if_neg (by simpa using empty)]

/-- An active zone on the device's own flash, with nothing reserved, is finished and its extent closed. -/
theorem State.finishAct_local (hl : s.layout n = none) (ha : isActive (s.zstate ((s.nsAt n).firstZone + z)) = true)
    (hr : s.reserved ((s.nsAt n).firstZone + z) = false) (ht : s.mzoneTry n z 4 0 = .ok t) :
    s.finishAct n z = .ok (t.closeZoneExtent n z false) := by
  have notFull : s.zstate ((s.nsAt n).firstZone + z) ≠ zFull := by
    intro full
    rw [full] at ha
    exact absurd ha (by decide)
  unfold State.finishAct
  dsimp only
  rw [if_neg notFull, if_neg (by simp [ha]), if_neg (by simp [hr]), hl]
  dsimp only
  rw [ht]
  rfl

/-- A zone on the device's own flash, with nothing reserved, is emptied, its lost ranges forgotten and its extent released. -/
theorem State.resetAct_local {serial : Nat} (he : s.zstate ((s.nsAt n).firstZone + z) ≠ zEmpty)
    (h0 : s.zstate ((s.nsAt n).firstZone + z) ≠ 0) (hr : s.reserved ((s.nsAt n).firstZone + z) = false)
    (hs : s.zoneSerial n z = some serial) (ht : s.mzoneTry n z 3 0 = .ok t)
    (hl : (t.keepLost (fun e => !t.lostIn n z e)).layout n = none) :
    s.resetAct n z = .ok ((t.keepLost (fun e => !t.lostIn n z e)).releaseExtent serial) := by
  unfold State.resetAct
  dsimp only
  rw [if_neg (by simp [he, h0]), if_neg (by simp [hr]), ht]
  dsimp only
  rw [hl, hs]

end

/-! ## Actions that no zone takes (R267) -/

section
variable {s u : State} {k : W64} {d : Cmd} {x : NsInfo} (hu : s.takeEvent k = u) (hx : u.ioNs d = .ok x) (hw : s.Waits k false 0x79 d)
include hu hx hw

theorem exec_zoneOffline_zoned (hz : (u.nsAt d.nsid).zoned = true) (hc : d.dw 13 % 256 = 5) :
    exec (.zoneOffline k) s = .next (u.finish d stZoneTransition) := by
  show execZoneOffline k s = _
  rw [execZoneOffline, onCmd_waits _ hw, hu, if_neg (not_not_intro hc), hx]
  dsimp only
  rw [if_pos hz]

theorem exec_setZoneDescriptorExtension_zoned (hz : (u.nsAt d.nsid).zoned = true) (hc : 5 < d.dw 13 % 256) :
    exec (.setZoneDescriptorExtension k) s = .next (u.finish d stField) := by
  show execSetZoneDescriptorExtension k s = _
  rw [execSetZoneDescriptorExtension, onCmd_waits _ hw, hu, if_neg (by omega), hx]
  dsimp only
  rw [if_pos hz]

end

end Sys2Proof.Machine
end

section
/-! PROOFS. The statements of 08_zones_and_placement.md, fifth part: the other I/O commands, and the statement on all of them. -/

namespace Sys2Proof.Machine

section
variable {s u : State} {k : W64} {d : Cmd} {x : NsInfo} (hu : s.takeEvent k = u) (hx : u.ioNs d = .ok x)
include hu hx

/-! ## Flush, deallocation, reports and reclaim units (R221, R261, R266, R279, R281) -/

theorem exec_flush (hw : s.Waits k false 0x00 d) : exec (.flush k) s = .next (u.finish d stOk) := by
  show execFlush k s = _
  rw [execFlush, onCmd_waits _ hw, hu, hx]
  dsimp only [Except.map]
  rw [ite_self]

section
variable {rs : List (W64 × Nat)} (hw : s.Waits k false 0x09 d)
include hw

theorem exec_datasetManagement_zoned (hz : (u.nsAt d.nsid).zoned = true) :
    exec (.datasetManagement k rs) s = .next (u.finish d stOpcode) := by
  show execDatasetManagement k rs s = _
  rw [execDatasetManagement, onCmd_waits _ hw, hu, hx]
  exact congrArg _ (if_pos hz)

section
variable (hn : rs.length = d.dw 10 % 256 + 1) (hz : (u.nsAt d.nsid).zoned = false)
include hn hz

theorem exec_datasetManagement_noDeallocate (ha : d.dw 11 / 4 % 2 = 0) :
    exec (.datasetManagement k rs) s = .next (u.finish d stOk) := by
  show execDatasetManagement k rs s = _
  rw [execDatasetManagement, onCmd_waits _ hw, hu, hx]
  dsimp only
  rw [if_neg (Bool.eq_false_iff.mp hz), if_neg (not_not_intro hn), if_pos ha]

/-- One range in the namespace is unmapped. -/
theorem exec_datasetManagement_range {r : W64 × Nat} {t : State} (ha : d.dw 11 / 4 % 2 = 1) (hr : rs = [r])
    (hb : r.1.toNat + r.2 ≤ x.nsze) (ht : u.trimRange d.nsid x r.1.toNat r.2 = .ok t) :
    exec (.datasetManagement k rs) s = .next (t.finish d stOk) := by
  subst hr
  show execDatasetManagement k [r] s = _
  rw [execDatasetManagement, onCmd_waits _ hw, hu, hx]
  dsimp only [List.foldl_cons, List.foldl_nil]
  rw [if_neg (Bool.eq_false_iff.mp hz), if_neg (not_not_intro hn), if_neg (by omega), if_neg (by simpa using hb), ht]

end
end

section
variable (hw : s.Waits k false 0x7A d) (hz : (u.nsAt d.nsid).zoned = true) (ha : u.actionFirst d = false)
  (hc : d.dw 13 % 256 = 0) (ho : d.dw 13 / 256 % 256 ≤ 7)
include hw hz ha hc ho

theorem exec_zoneManagementReceive_beyond (hn : x.nsze ≤ d.slba) :
    exec (.zoneManagementReceive k) s = .next (u.finish d stLbaRange) := by
  show execZoneManagementReceive k s = _
  rw [execZoneManagementReceive, onCmd_waits _ hw, hu, hx]
  dsimp only
  rw [if_neg (by simp [hz]), if_neg (Bool.eq_false_iff.mp ha), if_neg (by omega), if_pos hn]

theorem exec_zoneManagementReceive_report (hn : d.slba < x.nsze) : ∃ bs : List Byte, bs.length = (d.dw 12 + 1) * 4 ∧
    exec (.zoneManagementReceive k) s = .next ((u.toHost d 0 bs).finish d stOk) := by
  show ∃ bs : List Byte, _ ∧ execZoneManagementReceive k s = _
  rw [execZoneManagementReceive, onCmd_waits _ hw, hu, hx]
  dsimp only
  rw [if_neg (by simp [hz]), if_neg (Bool.eq_false_iff.mp ha), if_neg (by omega), if_neg (Nat.not_le.mpr hn)]
  exact ⟨_, length_reply _ _, rfl⟩

end

theorem exec_ioManagementReceive_status (hw : s.Waits k false 0x12 d) (hz : (u.nsAt d.nsid).zoned = false) (hc : d.dw 10 % 256 = 1) :
    ∃ bs : List Byte, bs.length = (d.dw 11 + 1) * 4 ∧ exec (.ioManagementReceive k) s = .next ((u.toHost d 0 bs).finish d stOk) := by
  show ∃ bs : List Byte, _ ∧ execIoManagementReceive k s = _
  rw [execIoManagementReceive, onCmd_waits _ hw, hu, hx]
  dsimp only
  rw [if_neg (Bool.eq_false_iff.mp hz), if_neg (by omega), if_neg (not_not_intro hc)]
  exact ⟨_, length_reply _ _, rfl⟩

/-- The unit of the first placement handle in the first group closes, where it has one in progress. -/
theorem exec_reclaimUnitHandleUpdate_first (hw : s.Waits k false 0x1D d) (hz : (u.nsAt d.nsid).zoned = false)
    (hc : d.dw 10 % 256 = 1) (hn : d.dw 10 / 65536 = 0) : exec (.reclaimUnitHandleUpdate k [0]) s =
      .next (((u.ruOf (x.phndls.getD 0 0) 0).elim u (fun r => u.closeUnit r.1)).finish d stOk) := by
  have listed : ([0] : List Nat).any (fun p => decide (max 1 x.phndls.length ≤ p % 2 ^ (16 - u.rgif) ∨
      max 1 u.nrg ≤ p / 2 ^ (16 - u.rgif))) = false := by
    simp
  show execReclaimUnitHandleUpdate k [0] s = _
  rw [execReclaimUnitHandleUpdate, onCmd_waits _ hw, hu, hx]
  dsimp only
  rw [if_neg (Bool.eq_false_iff.mp hz), if_neg (not_not_intro hc), if_neg (by rw [hn]; decide), if_neg (by rw [listed]; decide),
    List.foldl_cons, List.foldl_nil, Nat.zero_mod, Nat.zero_div]
  cases u.ruOf (x.phndls.getD 0 0) 0 with
  | none => rfl
  | some r => rfl

end

/-! ## Rows that write, by what they bring -/

/-- `i` is a row of a write that is no append, and waits; it brings `fill` and `md`, its data whole and its key filled. -/
def PlainRow (s : State) (k : W64) (d : Cmd) (x : NsInfo) (i : Instr) (fill : Fill) (md : List Byte) : Prop :=
  (∃ gs, i = .write k gs md ∧ fill = Fill.data gs ∧ s.Waits k false 0x01 d ∧ dataOk gs (d.grains x) = true ∧
    (s.takeEvent k).keyOk d.nsid = true) ∨
  (i = .writeUncorrectable k ∧ fill = Fill.word marker ∧ md = [] ∧ s.Waits k false 0x04 d) ∨
  (i = .writeZeroes k ∧ fill = Fill.word 0 ∧ md = [] ∧ s.Waits k false 0x08 d)

/-- `i` is a row of an append, and waits; it begins at its zone's first LBA and brings its data whole, with its token if any. -/
def AppendRow (s : State) (k : W64) (d : Cmd) (x : NsInfo) (i : Instr) (tok : Option W64) (fill : Fill) (md : List Byte) : Prop :=
  d.slba % max 1 ((s.takeEvent k).nsAt d.nsid).zoneLbas = 0 ∧ d.grains x ≤ maxGrains ∧ d.slba < x.nsze ∧
    ∃ gs, fill = Fill.data gs ∧ dataOk gs (d.grains x) = true ∧ (s.takeEvent k).keyOk d.nsid = true ∧
      ((i = .zoneAppend k gs md ∧ tok = none ∧ s.Waits k false 0x7D d) ∨
        (i = .zoneAppendWithToken k gs md ∧ tok = some (w64 (fld d.sqe 64 64)) ∧ w64 (fld d.sqe 64 64) ≠ 0 ∧ s.Waits k false 0x9D d))

/-- `i` is a row of a write to a zone: a plain write in range that nothing stands before, or an append. -/
def ZonedRow (s : State) (k : W64) (d : Cmd) (x : NsInfo) (i : Instr) (app : Bool) (tok : Option W64) (fill : Fill) (md : List Byte) :
    Prop :=
  ((s.takeEvent k).nsAt d.nsid).zoned = true ∧
    ((app = false ∧ tok = none ∧ PlainRow s k d x i fill md ∧ d.rangeBad x = none ∧ (s.takeEvent k).hazWait d = false ∧
      (s.takeEvent k).readWait d = false) ∨ (app = true ∧ AppendRow s k d x i tok fill md))

section
variable {s : State} {k : W64} {d : Cmd} {x : NsInfo} {i : Instr} {app : Bool} {tok : Option W64} {fill : Fill} {md : List Byte}

theorem PlainRow.row (h : PlainRow s k d x i fill md) :
    ∃ op, exec i s = s.ioWrite k op fill md ∧ s.Waits k false op d ∧ (s.takeEvent k).Brings d x fill := by
  obtain ⟨gs, rfl, rfl, hw, whole, key⟩ | ⟨rfl, rfl, rfl, hw⟩ | ⟨rfl, rfl, rfl, hw⟩ := h
  · refine ⟨_, rfl, hw, fun gs' same => ?_⟩
    cases same
    exact ⟨whole, key⟩
  · exact ⟨_, rfl, hw, fun _ same => by cases same⟩
  · exact ⟨_, rfl, hw, fun _ same => by cases same⟩

theorem AppendRow.row (h : AppendRow s k d x i tok fill md) : ∃ op has gs, exec i s = s.ioAppend k op has gs md ∧
    s.Waits k false op d ∧ fill = .data gs ∧ (s.takeEvent k).Brings d x fill ∧ (has = true → w64 (fld d.sqe 64 64) ≠ 0) ∧
    tok = if has = true then some (w64 (fld d.sqe 64 64)) else none := by
  obtain ⟨-, -, -, gs, rfl, whole, key, rows⟩ := h
  have brings : (s.takeEvent k).Brings d x (.data gs) := by
    intro gs' same
    cases same
    exact ⟨whole, key⟩
  obtain ⟨rfl, rfl, hw⟩ | ⟨rfl, rfl, nonzero, hw⟩ := rows
  · exact ⟨_, false, gs, rfl, hw, rfl, brings, fun h => absurd h (by decide), rfl⟩
  · exact ⟨_, true, gs, rfl, hw, rfl, brings, fun _ => nonzero, rfl⟩

/-- While its own job runs, a row of a zone's write lets the jobs take their steps. -/
theorem ZonedRow.busy (h : ZonedRow s k d x i app tok fill md) (hd : s.boot.down = false)
    (hj : ¬ s.jobs.any (fun j => decide (j.key = k)) = false) : exec i s = .next s.runJobs := by
  obtain ⟨-, ⟨-, -, plain, -⟩ | ⟨-, append⟩⟩ := h
  · obtain ⟨op, row, -⟩ := plain.row
    exact row.trans (onJob_busy hd hj _)
  · obtain ⟨op, has, gs, row, -⟩ := append.row
    exact row.trans (onJob_busy hd hj _)

theorem ZonedRow.runs (h : ZonedRow s k d x i app tok fill md) (hx : (s.takeEvent k).ioNs d = .ok x)
    (hj : s.jobs.any (fun j => decide (j.key = k)) = false) (hm : (s.takeEvent k).Mine d) :
    exec i s = .next ((s.takeEvent k).zoneWrite d x app tok fill md) := by
  obtain ⟨zoned, ⟨rfl, rfl, plain, range, haz, reads⟩ | ⟨rfl, append⟩⟩ := h
  · obtain ⟨op, row, hw, brings⟩ := plain.row
    rw [row, State.ioWrite_inRange rfl hx hj hw brings hm range, if_pos zoned, if_neg (by simp [haz, reads])]
  · obtain ⟨op, has, gs, row, hw, rfl, brings, token, rfl⟩ := append.row
    obtain ⟨first, size, inside, -⟩ := append
    rw [row, State.ioAppend_runs rfl hx hj hw hm zoned token first size inside brings]

end

/-! ## The statement -/

/-- Settles O56: each clause is one row, whose namespace, range and zone let it through. That the row of a write carries its programs to
their end, the order of the steps of a volume's writes, their claims behind a fence, and the Finish of an Empty zone are the model's
choices (log entries 153, 155, 95, 90). -/
theorem ioResults : Obligations.IoResults := by
  intro s k d x u n c len z dz idle mine plain zoned hx
  have hu : s.takeEvent k = u := rfl
  refine ⟨fun i fails corr vol hi hl hr ha => ?_, fun i fill md hi hj => ?_, fun i app tok fill md hi hd hj => ?_,
    fun i app tok fill md hi hj hm ha => ?_, exec_flush hu hx,
    fun rs hw hn => ⟨exec_datasetManagement_zoned hu hx hw, exec_datasetManagement_noDeallocate hu hx hw hn,
      fun r t hz ha => exec_datasetManagement_range hu hx hw hn hz ha⟩,
    fun hw hf hz hm h1 h0 hn hb => ?_,
    fun hw hz => ⟨exec_zoneOffline_zoned hu hx hw hz, exec_setZoneDescriptorExtension_zoned hu hx hw hz⟩,
    fun hw hz ha hc ho => ⟨exec_zoneManagementReceive_beyond hu hx hw hz ha hc ho,
      exec_zoneManagementReceive_report hu hx hw hz ha hc ho⟩,
    exec_ioManagementReceive_status hu hx,
    fun hw hz hc hn => ⟨fun r hr => ?_, fun hr => ?_⟩⟩
  · have ready : ReadReady s k d x := ⟨hx, hl, hr, ha⟩
    obtain ⟨op, row, hw⟩ := ioRead_row hi
    rw [row]
    refine ⟨fun src hs => State.ioRead_settled hu ready hw _ _ _ hs, State.ioRead_unsettled hu ready hw _ _ _,
      fun bs hc hs hb hn hf => ?_⟩
    subst hc
    rw [State.ioRead_settled hu ready hw _ _ _ hs, State.readNow_found hb hn hf]
    rfl
  · obtain ⟨op, row, hw, brings⟩ := PlainRow.row (x := x) hi
    rw [row]
    refine ⟨fun st hr => State.ioWrite_badRange hu hx hj hw hr, fun hr hm hz => ?_⟩
    rw [State.ioWrite_inRange hu hx hj hw brings hm hr, if_neg (Bool.eq_false_iff.mp hz)]
    refine ⟨fun hp => ?_, fun hp hb => ?_, fun hp hb => ⟨fun w t hf hc => ?_, fun gs ws t v w hf hs hd hc => ?_⟩⟩
    · rw [State.placeWrite_preserved hp]
      rfl
    · rw [State.placeWrite_behind hp hb]
      rfl
    · subst hf
      rw [State.placeWrite_word hp hb hc]
      rfl
    · subst hf
      rw [State.placeWrite_data hp hb rfl rfl hs hd hc]
      rfl
  · exact ZonedRow.busy hi hd hj
  · have run := ZonedRow.runs hi hx hj hm
    refine ⟨fun hp => run.trans (congrArg _ (State.zoneWrite_preserved ha hp)),
      fun hp hl => ⟨fun hb => run.trans (congrArg _ (State.zoneWrite_boundary ha hp hl hb)),
        fun hb => ⟨fun hz ht => run.trans (congrArg _ (State.zoneWrite_full ha hp hl hb hz ht)), fun v ho ht he hr => ?_⟩⟩⟩
    have reserved : u.reserveRange d x app tok = .ok v := by
      unfold State.reserveRange Cmd.reserveArg
      exact hr
    obtain ⟨onFlash, onVolume⟩ := State.zoneWrite_reserved (fill := fill) (md := md) ha hp hl hb ho ht he reserved
    refine ⟨fun l t hv hi hz => ?_, fun t ws m e hn hz hs hd hc => ?_⟩
    · rw [run, onVolume l hv hi, hz]
      rfl
    · rw [run, onFlash hn, State.zoneLocal_commits rfl hz hs hd hc]
      rfl
  · have guards : u.OneZone d := ⟨hz, hm, hf, h1, h0, hn, hb⟩
    refine ⟨fun hc hp => ?_, fun hc hp => ?_, fun hc => ⟨fun t ho ht hr => ?_, fun st ht => ?_⟩,
      fun hc => ⟨fun t ht hr => ?_, fun t hl ha hr ht hw' => ?_, fun st ht => ?_⟩,
      fun hc => ⟨fun t ht hr => ?_, fun t serial he h0 hr hs ht hl hw' => ?_⟩⟩
    · rw [exec_zoneOpen_unpreserved hu hw hp]
      exact ⟨fun ho hr => zoneSend_takes hu hx hw guards hc (State.openAct_opened ho) hr,
        fun t hs hl ht hr => zoneSend_takes hu hx hw guards hc ((State.openAct_closed hs hl).trans ht) hr,
        fun st ht => zoneSend_ends hu hx hw guards hc ht⟩
    · rw [exec_zoneOpen_preserved hu hw ((State.preserved_takeEvent s k d).trans hp)]
      exact zoneSend_ends hu hx hw guards hc rfl
    · rw [exec_zoneClose]
      exact zoneSend_takes hu hx hw guards hc ((State.closeAct_open ho).trans ht) hr
    · rw [exec_zoneClose]
      exact zoneSend_ends hu hx hw guards hc ht
    · rw [exec_zoneFinish]
      exact zoneSend_takes hu hx hw guards hc ht hr
    · rw [exec_zoneFinish]
      exact zoneSend_takes hu hx hw guards hc (State.finishAct_local hl ha hr ht) hw'
    · rw [exec_zoneFinish]
      exact zoneSend_ends hu hx hw guards hc ht
    · rw [exec_zoneReset]
      exact zoneSend_takes hu hx hw guards hc ht hr
    · rw [exec_zoneReset]
      exact zoneSend_takes hu hx hw guards hc (State.resetAct_local he h0 hr hs ht hl) hw'
  · rw [exec_reclaimUnitHandleUpdate_first hu hx hw hz hc hn, hr]
    rfl
  · rw [exec_reclaimUnitHandleUpdate_first hu hx hw hz hc hn, hr]
    rfl

end Sys2Proof.Machine
end
